-- ==== Sys2Proof/Word.lean ====
section
/-!
DEFINITION. The byte and word types of the model and their plainest conversions (R7: little-endian order, bit 0 least significant).
-/

namespace Sys2Proof

/-- One byte. -/
abbrev Byte := BitVec 8
/-- A sequence of bytes, lowest address first (R7). -/
abbrev Bytes := List (BitVec 8)

/-- A dictionary key: index × 256 + sub-index (R17). -/
abbrev Key := Nat

/-- The key of object index:sub. -/
abbrev ob (index sub : Nat) : Key := index * 256 + sub

end Sys2Proof
end

