-- ==== Sys2Proof/Syntax.lean ====
section
/-!
DEFINITION. The commands of the device: one constructor of Instr for each row of spec/opcode_table.json, with the operand structures they carry.
Every command's first operand `t` is the weft count (R10) at which it takes place.
-/

namespace Sys2Proof

/-- A dictionary value: a number (of any integer type, or the bit pattern of a REAL32) or a byte string (VISIBLE_STRING and DOMAIN) (R17). -/
inductive Val where
  | int (v : Int)
  | bytes (b : Bytes)
deriving DecidableEq, Repr

/-- A dictionary session (R115): a CAN node-ID, a Basaris session, the PCIe function, or a firmware core (0–9 steward cores, 10 and 11 manager cores 0 and 1). -/
inductive Session where
  | can (node : Nat)
  | basaris (num : Nat)
  | pcie
  | core (c : Fin 12)
deriving DecidableEq, Repr

/-- An engine that can be concerned by a drained object (R112, R120); the codes of the zoo engines are those of R163. -/
inductive Engine where
  | exec (r : Fin 10) (b : Fin 18)
  | windowPort (r : Fin 10) (b : Fin 18)
  | attention (r : Fin 10)
  | detection (r : Fin 10)
  | quant (r : Fin 10)
  | decode (r : Fin 10)
  | ispLane (stream : Fin 24)
  | remoteDma (space : Nat) (r : Nat) (b : Nat)
  | can (ctl : Fin 4)
deriving DecidableEq, Repr

/-- A request item (R129): the header fields and the data bytes of a write. -/
structure Item where
  index : Nat
  sub : Nat
  offset : Nat
  length : Nat
  staged : Bool
  final : Bool
  data : Bytes
deriving DecidableEq, Repr

/-- A received Basaris frame (R126, R127): source address, 32-byte header, payload and 16-byte tag. -/
structure BFrame where
  source : Nat
  header : BitVec 256
  payload : Bytes
  tag : Bytes
deriving DecidableEq, Repr

/-- A CiA 301 SDO request to the server (R111): expedited or segmented transfer. -/
inductive SdoReq where
  | downloadExpedited (index sub : Nat) (data : Bytes)
  | downloadInit (index sub : Nat) (size : Nat)
  | downloadSegment (toggle : Bool) (data : Bytes) (last : Bool)
  | uploadInit (index sub : Nat)
  | uploadSegment (toggle : Bool)
  | abort
  | blockTransfer
deriving DecidableEq, Repr

/-- A CiA 1301 USDO request (R111). -/
inductive UsdoReq where
  | read (index sub : Nat)
  | write (index sub : Nat) (data : Bytes)
deriving DecidableEq, Repr

/-- The NMT commands of CiA 301 (R111). -/
inductive NmtCmd where
  | start | stop | preOperational | resetNode | resetCommunication
deriving DecidableEq, Repr

/-- A place in one of the memories (R150, R160, R358): space 0 HBM, 1 region memory, 2 scratchpad. -/
structure MemRef where
  space : Nat
  region : Nat
  block : Nat
  addr : Nat
deriving DecidableEq, Repr

/-- Physical events that meet a step while it runs: residue or duplicate mismatches (R142), ECC results at a place that it reads and a 64-bit lane of its word (R151), tag parity of the cache line of an HBM address (R156), retries exhausted on a link of HBM (0) or of the mesh (1) (R48). -/
inductive Upset where
  | residue (cell : Fin 65) (lane : Nat) (kind : Nat)
  | eccCorrected (place : MemRef) (lane syndrome : Nat)
  | eccUncorrectable (place : MemRef) (lane : Nat)
  | tagParity (line : Nat)
  | retryExhausted (link : Nat)
deriving DecidableEq, Repr

/-- One row of an operand of the cells: element codes, and its scale lines (R184) or EX8 group records (R187) with the index of its first MX block or group. -/
structure OpRow where
  codes : List Nat
  lines : List (BitVec 512)
  records : List (BitVec 320)
  first : Nat
deriving DecidableEq, Repr

/-- An operand of the cells: its rows, and the scale slot from which an FP8 operand takes its outer scale (R194). -/
structure Operand where
  rows : List OpRow
  slot : Option Nat
deriving DecidableEq, Repr

/-- A tensor in a memory, as the image declares it: the place of its elements, its rows along the blocking axis and their length (R173, R174), the place of its scale stream or group stream (R184, R187), and its scale slot. -/
structure TensorRef where
  place : MemRef
  rows : Nat
  length : Nat
  stream : MemRef
  slot : Option Nat
deriving DecidableEq, Repr

/-- Where a read-out of accumulators goes (R201): its rescale table, channels, output slot, place, and the place of its scale or group stream. -/
structure ReadOut where
  table : Nat
  channels : Nat
  slot : Option Nat
  dst : MemRef
  stream : MemRef
deriving DecidableEq, Repr

/-- An execute descriptor: header (R163), accumulation control word (R192), operands along the reduction axis, the token count of the image, where its read-out is requantised to (R201), the scratchpad buffers whose credits it returns (R149), and what befell it. -/
structure ExecDesc where
  header : BitVec 128
  acw : BitVec 64
  a : Operand
  b : Operand
  laneBase : Nat
  tokens : Nat
  out : Option ReadOut
  returns : List Nat
  upsets : List Upset
deriving DecidableEq, Repr

/-- A transfer descriptor of an access engine or DMA engine (R147, R148, R30): header, the class of the DMA engine's queue that it arrives in (R165), source, destination, length in bytes, and what befell it. -/
structure MoveDesc where
  header : BitVec 128
  queue : Nat
  src : MemRef
  dst : MemRef
  length : Nat
  upsets : List Upset
deriving DecidableEq, Repr

/-- A window descriptor (R214): header and the 80 body bytes (accumulation control word, window body, 8 reserved bytes), with what the image declares beside it: the places of the scale or group streams of input, weights and output (R184, R187), the scale slots of input and weights (R194), the width of the stream at this layer (R217), the token count, and the scratchpad buffers whose credits it returns (R149). -/
structure WinDesc where
  header : BitVec 128
  body : BitVec 640
  inStream : MemRef
  inSlot : Option Nat
  wStream : MemRef
  wSlot : Option Nat
  outStream : MemRef
  streamCols : Nat
  tokens : Nat
  returns : List Nat
  upsets : List Upset
deriving DecidableEq, Repr

/-- A descriptor of the quantisation-and-statistics engine (R203, R504): header, the class of the queue that it arrives in (R165), format and place of its input, channels (innermost), slot and table, and its output: format, whether it is blocked across the rows of the input (R174), place, and the place of its scale or group stream. -/
structure QuantDesc where
  header : BitVec 128
  queue : Nat
  format : Nat
  input : TensorRef
  channels : Nat
  slot : Option Nat
  table : Option Nat
  outFormat : Nat
  across : Bool
  dst : MemRef
  stream : MemRef
  upsets : List Upset
deriving DecidableEq, Repr

/-- A SCALE_UPDATE descriptor (R205): header, the class of its queue, the slot, and the addresses in region memory of the statistics records it merges, in list order. -/
structure ScaleDesc where
  header : BitVec 128
  queue : Nat
  slot : Nat
  records : List Nat
deriving DecidableEq, Repr

/-- An OPT_STEP descriptor (R208): header, the class of its queue, gradient slot, place of the gradients and number of elements, FP32 parameters, the places in HBM of first moments, their scale lines, second moments and weights, and the working copy with its format, slot, place, and place of its scale or group stream, if one is written. -/
structure OptDesc where
  header : BitVec 128
  queue : Nat
  slot : Nat
  grads : MemRef
  count : Nat
  beta1 : BitVec 32
  beta1c : BitVec 32
  beta2 : BitVec 32
  beta2c : BitVec 32
  lr : BitVec 32
  wd : BitVec 32
  eps : BitVec 32
  k1 : BitVec 32
  k2 : BitVec 32
  mAddr : Nat
  mScaleAddr : Nat
  vAddr : Nat
  wAddr : Nat
  copy : Option (Nat × Option Nat × MemRef × MemRef)
deriving DecidableEq, Repr

/-- A descriptor of the detection or attention engine with a 64-byte body (R234, R252), and the class of its queue. -/
structure ZooDesc where
  header : BitVec 128
  queue : Nat
  body : BitVec 512
  upsets : List Upset
deriving DecidableEq, Repr

/-- A KV_APPEND descriptor (R250): header, the class of its queue, pool, sequence, the address in region memory of its source vectors, one after another, their number, and what befell it. -/
structure AppendDesc where
  header : BitVec 128
  queue : Nat
  pool : Fin 4
  sequence : Nat
  source : Nat
  tokens : Nat
  upsets : List Upset
deriving DecidableEq, Repr

/-- A PAGE_CTRL descriptor (R261's table): header, the class of its queue, pool, sequence, two positions, a value, and for OPEN and SET the rw fields of the sequence record (R248). -/
structure PageDesc where
  header : BitVec 128
  queue : Nat
  pool : Fin 4
  sequence : Nat
  pos0 : Nat
  pos1 : Nat
  value : Nat
  srcLog : Nat
  wdown : Nat
  dSrc : Nat
  layers : Nat
  priority : Nat
  resident : Bool
  srcFormat : Nat
  pinHead : Nat
  pinTail : Nat
deriving DecidableEq, Repr

/-- One axis command record of a command frame (R333). -/
structure CmdRecord where
  axis : Fin 16
  enable : Bool
  legs : BitVec 3
  dutyA : Nat
  dutyB : Nat
  dutyC : Nat
  reserved : Nat
deriving DecidableEq, Repr

/-- A command frame (R333). -/
structure Frame where
  beat : Nat
  doLevel : BitVec 32
  doMask : BitVec 32
  reserved : Nat
  crc : BitVec 16
  records : List CmdRecord
deriving DecidableEq, Repr

/-- A verdict record or candidate entry (R238, R244), with the carry age that the carry list keeps, whether it was carried in, and whether it has no detection_id yet (R241). -/
structure Verdict where
  flags : BitVec 8
  pieces : Nat
  detectionId : Nat
  firstTile : Nat
  index : Nat
  cls : Nat
  score : BitVec 32
  yMin : Nat
  height : Nat
  xMin : Nat
  width : Nat
  age : Nat
  carriedIn : Bool
  isNew : Bool
deriving DecidableEq, Repr

/-- A verdict batch (R244). -/
structure Batch where
  closeCount : Nat
  tileNumber : Nat
  stream : Nat
  flags : BitVec 8
  candidates : Nat
  carriedOut : Nat
  records : List Verdict
deriving DecidableEq, Repr

/-- What a released output carries (R78): a command frame, a verdict batch, a CAN frame for controller `ctl`, the named fields of another record, or the bytes that a descriptor with release_hold wrote (R163). -/
inductive Payload where
  | frame (f : Frame)
  | batch (b : Batch)
  | canFrame (ctl : Fin 4) (ident : Nat) (data : Bytes)
  | fields (vs : List Int)
  | bytes (data : Bytes)
deriving DecidableEq, Repr

/-- The state of a primary or a shadow of an output at its release count (R365, R368). -/
structure Side where
  complete : Bool
  invalid : Bool
  payload : Payload
deriving DecidableEq, Repr

/-- One output bound to a release count as the release buffers report it (R368): its index in the image, class (1 C, 2 I, 3 L), primary, and shadow where it has one. -/
structure Report where
  out : Nat
  cls : Nat
  primary : Side
  shadow : Option Side
deriving DecidableEq, Repr

/-- What the motion unit's inputs of one axis give at a sample count (R332, R337, R339): the position and its age, an error cause (0 none), and the three raw sinc3 sums. -/
structure AxisSample where
  axis : Fin 16
  position : Int
  ageNs : Nat
  error : Nat
  sumA : Nat
  sumB : Nat
  sumC : Nat
deriving DecidableEq, Repr

/-- What a camera answers at discovery (R272): nothing, or its width, height, pixel format (kind × 32 + bits; kind 0 Mono or RAW, 1 Bayer, 2 RGB), connections and link rate in Mb/s. -/
inductive Discovery where
  | noLink
  | answer (width height format connections rate : Nat)
deriving DecidableEq, Repr

/-- A camera line or frame line as it arrives (R276, R286, R295): the camera's counter and its width in bits, the raw component codes, and a line error (0 none, 1 CRC, 2 header, 3 length). -/
structure CamLine where
  counter : Nat
  counterBits : Nat
  samples : List Nat
  error : Nat
  inputFull : Bool
  creditMissing : Bool
deriving DecidableEq, Repr

/-- The identity memory of a head as read (R301's table): the 64 identity bytes, wear slots A and B. -/
structure HeadMemory where
  identity : Bytes
  wearA : Bytes
  wearB : Bytes
deriving DecidableEq, Repr

/-- The outcome of reading a head's challenge response (R302). -/
inductive HeadAnswer where
  | silent
  | late
  | response (bytes : Bytes)
deriving DecidableEq, Repr

/-- What a sample's bytes give (R316): pixels with their geometry, a data error, or a source that could not be read. -/
inductive DecodeResult where
  | pixels (width height channels depth16 : Nat) (codes : List Nat)
  | dataError
  | readRefused
deriving DecidableEq, Repr

/-- What a sample's decode descriptor brings (R31, R317): its header, the tokens that the whole decode takes, and what the sample's bytes give. -/
structure SampleRun where
  header : BitVec 128
  tokens : Nat
  result : DecodeResult
deriving DecidableEq, Repr

/-- The kinds of internal fault of the Crust (R355). -/
inductive CrustFault where
  | lockstep | watchdog | clock | supply | sram
deriving DecidableEq, Repr

/-- A Sync or Follow_Up as the servo uses it (R389): timestamps in ns. -/
structure SyncMsg where
  domain : Fin 2
  port : Fin 8
  twoStep : Bool
  origin : Nat
  correction : Int
  rxLocal : Nat
deriving DecidableEq, Repr

/-- An Announce message (R392). -/
structure AnnounceMsg where
  domain : Fin 2
  port : Fin 8
  gmIdentity : Nat
  clockClass : Nat
  stepsRemoved : Nat
  utcOffset : Int
deriving DecidableEq, Repr

/-- A CAN frame on the bus (R403). -/
structure CanFrame where
  ident : Nat
  extended : Bool
  fd : Bool
  remote : Bool
  data : Bytes
deriving DecidableEq, Repr

/-- A completed transmission of a controller, and the loop delay in mtq that it met at the bit-rate switch of an FD frame (R404, R409). -/
structure CanSent where
  ctl : Fin 4
  delay : Nat
deriving DecidableEq, Repr

/-- The reference message of a time master (R418, R419). -/
structure RefMsg where
  priority : Nat
  cycle : Nat
  refMark : Nat
  gap : Bool
  disc : Bool
deriving DecidableEq, Repr

/-- One entry of the output table of an image (R478): index, class, the port whose release buffer takes it (R84: 0 motion unit, 1 to 4 CAN controllers 0 to 3, 5 Ethernet, 6 PCIe, 7 field ports), axes concerned, source region, tolerances per field (none = exact), conservative values. -/
structure ImageOutput where
  out : Nat
  cls : Nat
  port : Nat
  axes : List (Fin 16)
  region : Fin 10
  tolerances : List (Option Nat)
  conservative : List Int
deriving DecidableEq, Repr

/-- One rating variant of an image (R478). -/
structure Variant where
  power : Nat
  rate : Nat
  stackCount : Nat
deriving DecidableEq, Repr

/-- One stripe of the stream table (R285). -/
structure Stripe where
  region : Fin 10
  block : Fin 18
  x0 : Nat
  width : Nat
  base : Nat
  ringLines : Nat
  stride : Nat
deriving DecidableEq, Repr

/-- One stream of the stream table (R478): stripes and the verdict skew bound (R229). -/
structure ImageStream where
  stream : Fin 24
  stripes : List Stripe
  skewBoundUs : Nat
deriving DecidableEq, Repr

/-- One rescale table entry (R201). -/
structure RescaleEntry where
  multiplier : Int
  shift : Int
  zeroPoint : Int
deriving DecidableEq, Repr

/-- A rescale table (R201). -/
structure RescaleTable where
  tag : Nat
  outFormat : Nat
  inKind : Nat
  entries : List RescaleEntry
deriving DecidableEq, Repr

/-- The initial contents of a scale slot that an image declares (R204), and the replay mark: the sequence number of the first descriptor of its step (R206). -/
structure SlotInit where
  slot : Nat
  region : Fin 10
  cls : Nat
  format : Nat
  even : BitVec 32
  odd : BitVec 32
  head : Nat
  flags : BitVec 8
  step : Nat
  replayMark : Nat
deriving DecidableEq, Repr

/-- A scratchpad buffer that an image declares for prefetching (R149): its block, first address and size. -/
structure ImageBuffer where
  region : Fin 10
  block : Fin 18
  base : Nat
  size : Nat
deriving DecidableEq, Repr

/-- The output that the release_hold descriptors of a queue give (R163, R164): region, block (18 for the zoo), engine code, output index, and whether it is the shadow that they give (R362). -/
structure HeldOutput where
  region : Fin 10
  block : Nat
  engine : Nat
  out : Nat
  shadow : Bool
deriving DecidableEq, Repr

/-- A generator stream that an image names (R99): its number, its seed key, and whether its element counter is persistent. -/
structure Generator where
  stream : Nat
  key : Fin 16
  persistent : Bool
deriving DecidableEq, Repr

/-- An all-gather that an image declares (R262, R433): its ring group, the region whose ATTEND gives the chip's own part, the place of the assembled result, and the bytes of a part. -/
structure Gather where
  ring : Fin 4
  region : Fin 10
  place : MemRef
  partBytes : Nat
deriving DecidableEq, Repr

/-- A program image as the device reads it: the header of R478 and the contents of the tables it names; among them, for each ring group the beats from a message's producing beat to its consuming beat (R96), for each pool the addresses of its page table in HBM and of the sequence records in its owner region's memory (R248, R251), for each fast channel the place in its pinned block's scratchpad that takes its input records (R329), and for an axis of no fast channel its buffer in a region memory (R330). -/
structure Image where
  hash : Bytes
  magic : Nat
  version : Nat
  keySlot : Nat
  slotTables : Nat
  flags : BitVec 8
  floorRate : Nat
  length : Nat
  securityVersion : Nat
  beatPeriod : Nat
  verdictDelay : Nat
  pausePeriod : Nat
  paceRate : Nat
  reducedRate : Nat
  classCTok : Nat
  minFirmware : Nat
  reservedOk : Bool
  variants : List Variant
  outputs : List ImageOutput
  streams : List ImageStream
  tables : List RescaleTable
  slots : List SlotInit
  latentScales : List (Nat × BitVec 32)
  srcLogRows : Nat
  seedUsers : List (Nat × Engine)
  tableUsers : List (Nat × Engine)
  windowRanges : List (MemRef × Nat)
  starterCrcs : List Nat
  migrationPlaces : Bool
  group : List Nat
  leader : Bool
  recomputeCost : Nat
  verdictOutputs : List (Nat × Nat)
  messageBound : List (Nat × Nat)
  hostOutputs : List (Nat × Nat)
  recordSizes : List (Nat × Nat)
  buffers : List ImageBuffer
  heldOutputs : List HeldOutput
  generators : List Generator
  attentionOutputs : List (Fin 10 × Nat)
  ringBeats : List (Nat × Nat)
  kvPlaces : List (Fin 4 × Nat × Nat)
  gathers : List Gather
  pinned : List (Fin 4 × MemRef)
  inputBuffers : List (Fin 16 × MemRef)
deriving DecidableEq, Repr

/-- The contents of a firmware bundle that verification reads (R476). -/
structure Bundle where
  formatOk : Bool
  signatureOk : Bool
  keySlotOk : Bool
  version : Nat
  securityVersion : Nat
  crustSame : Bool
deriving DecidableEq, Repr

/-- A priority pause frame (R430): the priority, and its pause time in quanta. -/
structure PfcPause where
  prio : Fin 8
  quanta : Nat
deriving DecidableEq, Repr

/-- How an incoming RDMA request names its target (R425): queue pair, window key, offset in the window and length. -/
structure RdmaReq where
  qp : Fin 256
  port : Fin 8
  key : Nat
  offset : Nat
  length : Nat
  firstBeforeSwitch : Bool
deriving DecidableEq, Repr

/-- What the power monitors of one region read at an ageing measurement (R453): stressed and fresh counts of the two pairs. -/
structure AgeRead where
  region : Fin 10
  s0 : Nat
  f0 : Nat
  s1 : Nat
  f1 : Nat
deriving DecidableEq, Repr

end Sys2Proof

namespace Sys2Proof

/-- The commands of the block: one constructor per row of spec/opcode_table.json; `t` is the weft count at which the command takes place. -/
inductive Instr where
  /-- R136: The EMCY inhibit time ends and the next waiting EMCY message is sent on CAN. -/
  | emcyInhibitExpiry (t : Nat)
  /-- R42: A read of the record window returns up to 32 retained records from the read start sequence number. -/
  | faultLogRead (t : Nat) (ses : Session)
  /-- R43: A write to 0x5810:09 acknowledges every degraded and safety record up to the sequence number written. -/
  | faultAcknowledge (t : Nat) (ses : Session) (seq : Nat)
  /-- R49: A host output queue still full when its drain bound expires drops its oldest records and writes a contained fault. -/
  | hostQueueDrainTimeout (t : Nat) (q : Fin 16)
  /-- R54: A completion detector sees code 0b11, holds acknowledge low, ends the owning descriptor and reports fault 0x0108. -/
  | illegalDualRailCode (t : Nat) (r : Fin 10) (b : Fin 18) (channel : Nat) (owner : BitVec 128)
  /-- R64: At each measurement interval all block replicas are gated and read, and headroom or below-floor faults are judged. -/
  | replicaMeasurement (t : Nat) (counts : List Nat)
  /-- R67: A FIFO pointer word failing parity is discarded, its transfer ends with an error and fault 0x0106 is written. -/
  | synchroniserParityError (t : Nat) (boundary : Fin 9) (owner : Option (Fin 10 × BitVec 128))
  /-- R75: A block with an issued descriptor that completes no token for the stall limit is treated as failed. -/
  | blockStallTimeout (t : Nat) (r : Fin 10) (b : Fin 18) (micros : Nat) (inFlight : List (BitVec 128))
  /-- R78: At each release count the release buffers emit the beat's outputs, the next beat begins and the Crust evaluates the beat. -/
  | releaseCount (t : Nat) (reports : List Report) (samples : List AxisSample)
  /-- R93: A write of a launch count to 0x3C00:04 makes the chip check R93 against itself and propose the launch to its group. -/
  | launchPropose (t : Nat) (ses : Session) (count : Nat)
  /-- R93: A member receives a launch proposal frame, checks R93 and answers with a launch acknowledge. -/
  | launchProposal (t : Nat) (f : BFrame)
  /-- R131: The leader receives a launch acknowledge and, once all have acknowledged, sends the confirmation. -/
  | launchAcknowledge (t : Nat) (f : BFrame)
  /-- R94: A member receives a launch confirm, becomes confirmed and answers with a response frame. -/
  | launchConfirm (t : Nat) (f : BFrame)
  /-- R95: The leader receives a member's response to its confirmation and stops repeating it to that member. -/
  | launchConfirmResponse (t : Nat) (f : BFrame)
  /-- R95: Every 1 ms the leader repeats the confirmation to members that have not answered, until the abort deadline. -/
  | launchConfirmRepeat (t : Nat)
  /-- R95: An acknowledgement missing 10 ms before the abort deadline makes the leader abort the launch for the whole group. -/
  | launchAckTimeout (t : Nat)
  /-- R95: A member receives a launch abort, sets the launch state to aborted and keeps any previous launch. -/
  | launchAbort (t : Nat) (f : BFrame)
  /-- R94: At the launch count minus 1 ms the launch becomes final, or an unconfirmed chip discards it. -/
  | launchAbortDeadline (t : Nat)
  /-- R94: At the launch count beat 0 begins, pending restart values become active and the Crust leaves NO_BEAT. -/
  | launchStart (t : Nat) (cams : List (Fin 24 × Discovery))
  /-- R111: An SDO request on classical CAN is served by the dictionary server with expedited or segmented transfer. -/
  | sdoRequest (t : Nat) (ctl : Fin 4) (req : SdoReq)
  /-- R111: A USDO request on CANopen FD is served by the dictionary server. -/
  | usdoRequest (t : Nat) (ctl : Fin 4) (req : UsdoReq)
  /-- R137: An SDO or USDO transfer that stalls is ended with code 0x0504_0000. -/
  | sdoTimeout (t : Nat)
  /-- R111: The CANopen node acts on an NMT command as an NMT slave. -/
  | nmtCommand (t : Nat) (ctl : Fin 4) (node : Nat) (cmd : NmtCmd)
  /-- R111: The heartbeat producer sends its heartbeat every producer heartbeat time. -/
  | heartbeat (t : Nat)
  /-- R111: A received RPDO writes its mapped class I or L objects. -/
  | rpdoReceived (t : Nat) (n : Fin 16) (data : Bytes)
  /-- R113: A write to an object without behaviour of its own is range-checked, clamped or refused, and staged or applied as an implicit commit. -/
  | objectWrite (t : Nat) (ses : Session) (key : Key) (v : Val)
  /-- R109: A signature write to 0x1010:01 stores every writable object's active value to module flash. -/
  | storeAllParameters (t : Nat) (ses : Session) (v : Nat) (flash : Nat)
  /-- R109: A signature write to 0x1011:01 marks the stored set for replacement by defaults at the next cold boot. -/
  | restoreDefaultParameters (t : Nat) (ses : Session) (v : Nat)
  /-- R115: Writing 1 to 0x2010:01 opens a commit group owned by the writing session. -/
  | commitOpen (t : Nat) (ses : Session)
  /-- R118: Writing 2 to 0x2010:01 runs the consistency checks and schedules, prepares or pends the group. -/
  | commit (t : Nat) (ses : Session)
  /-- R118: Writing 3 to 0x2010:01 discards the open group with nothing applied. -/
  | commitDiscard (t : Nat) (ses : Session)
  /-- R120: An engine concerned by a drained commit reaches an idle point and reports ready. -/
  | engineReadyReport (t : Nat) (e : Engine)
  /-- R119: At the start of the commit beat every entry of the group becomes active at once. -/
  | commitSwitch (t : Nat)
  /-- R121: Engines not all ready within the commit timeout abort the commit with 0x0E00_0007. -/
  | commitTimeout (t : Nat)
  /-- R121: A drained commit whose requested beat begins before the last ready report is aborted with 0x0E00_0006. -/
  | commitBeatPassed (t : Nat)
  /-- R124: An open group with no owner activity within the idle timeout is discarded. -/
  | commitGroupIdleTimeout (t : Nat)
  /-- R127: A Basaris open request is answered with a device nonce and session number, and the session key is derived. -/
  | sessionOpenRequest (t : Nat) (f : BFrame)
  /-- R127: A Basaris close frame ends the session. -/
  | sessionClose (t : Nat) (f : BFrame)
  /-- R127: A session that receives no frame within the session timeout ends. -/
  | basarisSessionTimeout (t : Nat) (num : Nat)
  /-- R127: A keep-alive frame keeps a Basaris session open. -/
  | keepAlive (t : Nat) (f : BFrame)
  /-- R129: A Basaris read request is served item by item and answered with a response in request order. -/
  | readRequest (t : Nat) (f : BFrame)
  /-- R129: A Basaris write request is served item by item, assembling DOMAIN writes, and answered with a response. -/
  | writeRequest (t : Nat) (f : BFrame)
  /-- R43: A Basaris emergency acknowledge frame acknowledges one record and ends its repetition. -/
  | emergencyAcknowledge (t : Nat) (f : BFrame)
  /-- R130: An unacknowledged emergency frame is repeated every 100 ms, at most 8 times. -/
  | emergencyRepeat (t : Nat) (num : Nat) (seq : Nat)
  /-- R139: A change of Basaris port or a disable closes every open session after the carrying request is answered. -/
  | basarisReconfigure (t : Nat)
  /-- R133: A write of the request length to the mailbox doorbell starts serving the request in the request area. -/
  | mbxDoorbell (t : Nat) (seq : Nat) (ctrl : BitVec 32) (area : Bytes) (length : Nat)
  /-- R135: A core writes request items to its port buffer and rings the doorbell; a completion event follows. -/
  | dictionaryPortDoorbell (t : Nat) (core : Fin 12) (buffer : Bytes) (length : Nat)
  /-- R192: The execute sequencer runs a cell descriptor under its accumulation control word and writes its status record. -/
  | executeDescriptor (t : Nat) (r : Fin 10) (b : Fin 18) (d : ExecDesc)
  /-- R148: The access engine runs a descriptor moving data between scratchpad, region memory and HBM. -/
  | accessDescriptor (t : Nat) (r : Fin 10) (b : Fin 18) (d : MoveDesc)
  /-- R156: A region DMA engine runs a transfer descriptor. -/
  | dmaDescriptor (t : Nat) (r : Fin 10) (eng : Fin 2) (d : MoveDesc)
  /-- R144: A suspect cell with no second mismatch within the residue window stops being suspect. -/
  | residueWindowExpiry (t : Nat) (r : Fin 10) (b : Fin 18) (cell : Fin 65)
  /-- R145: At the block's first idle point the spare cell is wired into the failed cell's position. -/
  | cellSpareSwap (t : Nat) (r : Fin 10) (b : Fin 18)
  /-- R158: A row is mirrored, copied and remapped to a spare row of its bank without stopping the block. -/
  | rowMapOut (t : Nat) (loc : BitVec 32)
  /-- R157: A write to 0x3200:05 requests the map-out of the named row. -/
  | mapOutRequest (t : Nat) (ses : Session) (loc : BitVec 32)
  /-- R222: The window engine runs a cap- or split-mode convolution on the block's cells and exchanges selvedge entries. -/
  | conv (t : Nat) (r : Fin 10) (b : Fin 18) (d : WinDesc)
  /-- R225: The port datapath writes the largest element of each window. -/
  | poolMax (t : Nat) (r : Fin 10) (b : Fin 18) (d : WinDesc)
  /-- R225: The port datapath writes the mean of each window. -/
  | poolAvg (t : Nat) (r : Fin 10) (b : Fin 18) (d : WinDesc)
  /-- R225: The port datapath writes the smallest element under the structuring element. -/
  | erode (t : Nat) (r : Fin 10) (b : Fin 18) (d : WinDesc)
  /-- R225: The port datapath writes the largest element under the structuring element. -/
  | dilate (t : Nat) (r : Fin 10) (b : Fin 18) (d : WinDesc)
  /-- R225: The port datapath writes the middle element of each window. -/
  | median (t : Nat) (r : Fin 10) (b : Fin 18) (d : WinDesc)
  /-- R225: The port datapath up-samples by an integer factor taking the nearest element. -/
  | resizeNearest (t : Nat) (r : Fin 10) (b : Fin 18) (d : WinDesc)
  /-- R225: The port datapath up-samples by an integer factor with bilinear weights. -/
  | resizeBilinear (t : Nat) (r : Fin 10) (b : Fin 18) (d : WinDesc)
  /-- R230: A selvedge entry arriving in a block's buffer is checked against line, stream, stripe and geometry and consumed or refused. `ecc` is 0 where the payload is intact, 2 where its error is uncorrectable, and 1 + 256 × syndrome where it was corrected. -/
  | selvedgeEntryReceived (t : Nat) (r : Fin 10) (b : Fin 18) (side : Fin 2) (header : BitVec 64) (payload : Bytes) (cls : Nat) (ecc : Nat)
  /-- R231: A descriptor waiting for one entry longer than the wait limit completes with STALLED and outputs invalid. -/
  | selvedgeWaitTimeout (t : Nat) (r : Fin 10) (b : Fin 18) (side : Fin 2)
  /-- R203: The quantisation-and-statistics engine reads a tensor and writes a statistics record. -/
  | statsTensor (t : Nat) (r : Fin 10) (d : QuantDesc)
  /-- R203: As STATS_TENSOR, with a per-channel amax array appended. -/
  | statsChannel (t : Nat) (r : Fin 10) (d : QuantDesc)
  /-- R201: A tensor is converted to another format under a rescale table or scale slot. -/
  | convert (t : Nat) (r : Fin 10) (d : QuantDesc)
  /-- R205: Statistics records are merged and the scale slot advanced, or the step is marked for replay. -/
  | scaleUpdate (t : Nat) (r : Fin 10) (d : ScaleDesc)
  /-- R208: One optimizer update is applied to a weight tensor element by element, or skipped on non-finite gradients. -/
  | optStep (t : Nat) (r : Fin 10) (d : OptDesc)
  /-- R236: The detection engine decodes one stripe's head tensor into a capped candidate list. -/
  | decode (t : Nat) (r : Fin 10) (block : Fin 18) (d : ZooDesc)
  /-- R241: Candidates of a tile are suppressed, merged across stripes and tiles, carried and written as a verdict batch. -/
  | nms (t : Nat) (r : Fin 10) (d : ZooDesc) (closeCount : Nat) (truncated : Bool)
  /-- R243: With no NMS of a stream within the carry timeout, its carry list is emitted as a batch of its own. -/
  | carryTimeout (t : Nat) (stream : Fin 24)
  /-- R250: Tokens are appended to a sequence: source rows to the log and latents per layer into pages. -/
  | kvAppend (t : Nat) (r : Fin 10) (d : AppendDesc)
  /-- R254: Queries of one layer attend to a key range of a sequence, recomputing dropped pages and writing outputs or partials. -/
  | attend (t : Nat) (r : Fin 10) (d : ZooDesc) (missing : Option Nat)
  /-- R248: A closed sequence record is written and made active. -/
  | pageCtrlOpen (t : Nat) (r : Fin 10) (d : PageDesc)
  /-- R248: Every page and entry of the sequence is freed and the sequence closed. -/
  | pageCtrlClose (t : Nat) (r : Fin 10) (d : PageDesc)
  /-- R248: first_valid is raised and whole pages and source rows below it are freed. -/
  | pageCtrlTrim (t : Nat) (r : Fin 10) (d : PageDesc)
  /-- R257: Pin counts of a range are raised after dropped pages in it are recomputed. -/
  | pageCtrlPin (t : Nat) (r : Fin 10) (d : PageDesc)
  /-- R257: Pin counts of a range are lowered, never below the automatic pins. -/
  | pageCtrlUnpin (t : Nat) (r : Fin 10) (d : PageDesc)
  /-- R260: A stalled sequence is returned to active. -/
  | pageCtrlResume (t : Nat) (r : Fin 10) (d : PageDesc)
  /-- R248: Priority, pin_head or pin_tail of a sequence is changed. -/
  | pageCtrlSet (t : Nat) (r : Fin 10) (d : PageDesc)
  /-- R272: A camera not answering within 500 ms does not start and its stream takes state 5. -/
  | cameraDiscoveryTimeout (t : Nat) (stream : Fin 24)
  /-- R276: A camera line or frame line arrives, passes the ISP stages and is written into its stripes' rings. -/
  | cameraLineReceived (t : Nat) (stream : Fin 24) (line : CamLine)
  /-- R286: A line incomplete at its trigger count plus arrival offset plus late limit cuts the tile for cause 3. -/
  | lineLate (t : Nat) (stream : Fin 24)
  /-- R295: No line or frame completes within the silence limit, so the stream is declared stale. -/
  | streamSilent (t : Nat) (stream : Fin 24)
  /-- R292: A settings write not acknowledged by commit count plus camera latency writes fault 0x0708 and flags lines unconfirmed. -/
  | cameraSettingsTimeout (t : Nat) (stream : Fin 24) (entry : Nat)
  /-- R292: A write to 0x2801:01 reads or writes one camera register and places the result in 0x2801:02. -/
  | cameraRegisterRequest (t : Nat) (ses : Session) (request : Bytes) (error : Nat) (answer : Bytes)
  /-- R302: The device challenges a head and compares its response, ending or entering safe default. -/
  | headAuthentication (t : Nat) (h : Fin 12) (mem : HeadMemory) (answer : HeadAnswer)
  /-- R304: Every 1 s the head serial is read; a change or silence puts the head into safe default. -/
  | headSerialPoll (t : Nat) (h : Fin 12) (serial : Option Bytes)
  /-- R305: Every 600 s a wear record is written to the older wear slot and life used is evaluated. -/
  | wearRecordWrite (t : Nat) (h : Fin 12) (acked : Bool)
  /-- R308: At the end of each 600 s interval the reference mean is computed and a drive step committed. -/
  | compensationIntervalEnd (t : Nat) (h : Fin 12)
  /-- R308: A drive write not acknowledged by commit count plus camera latency writes fault 0x0807. -/
  | driveWriteTimeout (t : Nat) (h : Fin 12)
  /-- R309: Writing 1 to 0x2C10:0A sets the reference target to M at the end of the current interval. -/
  | captureReferenceTarget (t : Nat) (ses : Session) (h : Fin 12)
  /-- R313: A write to :14 raises the submitted count of an intake queue, or is refused as an overrun. -/
  | submittedCountWrite (t : Nat) (ses : Session) (q : Fin 8) (count : Nat)
  /-- R316: The device takes the next submission entry, checks it and starts its decode, copy or host offer. -/
  | submissionEntryTaken (t : Nat) (q : Fin 8) (entry : BitVec 256) (source : Option Bytes) (generation : Nat)
  /-- R317: The decode engine decodes a sample with max_tok equal to the queue's decode cap. -/
  | sampleDecode (t : Nat) (q : Fin 8) (submission : Nat) (run : SampleRun)
  /-- R319: The host writes the submission number into a slot's completion word, completing a host decode. -/
  | hostDecodeReturn (t : Nat) (q : Fin 8) (slot : Fin 256) (submission : Nat) (length : Nat) (codes : List Nat)
  /-- R320: A host decode not returned within :11 is replaced for reason 10. -/
  | hostDecodeTimeout (t : Nat) (q : Fin 8) (submission : Nat)
  /-- R324: A full batch is written into the next batch ring slot once its credit is returned. -/
  | batchWrite (t : Nat) (q : Fin 8) (credits : Nat)
  /-- R325: Writing 1 to :15 closes the current batch with padding samples. -/
  | flush (t : Nat) (ses : Session) (q : Fin 8)
  /-- R340: An ADC channel starts a conversion from its beat, continuous or trigger source. -/
  | adcConversionStart (t : Nat) (ch : Fin 32)
  /-- R340: A conversion result is ready 500 ns after its start. -/
  | adcConversionComplete (t : Nat) (ch : Fin 32) (value : Int)
  /-- R339: At sample count minus the encoder advance the SSI position is latched and its frame clocked in. -/
  | ssiPositionLatch (t : Nat) (axis : Fin 16) (frame : BitVec 40) (dataLow : Bool) (complete : Bool)
  /-- R339: An index or capture input edge latches capture_position and capture_delta. -/
  | captureEvent (t : Nat) (axis : Fin 16) (index : Bool) (position : Int)
  /-- R331: At a carrier update point the last released command frame passes the clamps and is driven to the pins. -/
  | carrierUpdatePoint (t : Nat) (axis : Fin 16)
  /-- R338: A sigma-delta channel with no transition is declared stuck, frozen and recorded. -/
  | currentChannelStuck (t : Nat) (axis : Fin 16) (leg : Fin 3)
  /-- R338: The fast sinc2 path exceeds the Crust over-current threshold and triggers cause 5. -/
  | overCurrentTrip (t : Nat) (axis : Fin 16) (value : Int)
  /-- R342: A raw level held for the glitch time is accepted as an edge and stamped. -/
  | digitalInputEdge (t : Nat) (input : Fin 32) (raw : Bool)
  /-- R344: An input without raw edges for the quiet time leaves chatter. -/
  | chatterQuietTimeout (t : Nat) (input : Fin 32)
  /-- R345: An input active longer than max_active is marked stuck. -/
  | inputStuckTimeout (t : Nat) (input : Fin 32)
  /-- R352: A write to a sensor supply command switches it, changes its voltage or clears its latch. -/
  | sensorSupplyCommand (t : Nat) (ses : Session) (k : Fin 16) (v : Nat)
  /-- R350: A supply pulled below 50 % switches off within 2 µs. -/
  | supplyShort (t : Nat) (k : Fin 16)
  /-- R349: A supply above its continuous limit for 5 ms switches off. -/
  | supplyOverloadTimeout (t : Nat) (k : Fin 16)
  /-- R351: After 100 ms off, a supply switches on again, or latches off on the fourth switch-off in 10 s. -/
  | supplyRetry (t : Nat) (k : Fin 16)
  /-- R352: A discharged supply switches on at its new voltage and applies any latched command. -/
  | supplyDischargeComplete (t : Nat) (k : Fin 16)
  /-- R492: A digital output shuts down thermally and writes fault 0x0A0B. -/
  | digitalOutputThermalShutdown (t : Nat) (o : Fin 32) (milliamps : Nat)
  /-- R492: A thermally shut-down digital output restarts by itself after cooling. -/
  | digitalOutputRestart (t : Nat) (o : Fin 32)
  /-- R355: A lockstep, watchdog, clock, supply or SRAM fault forces output-off in hardware and restarts the Crust from ROM. -/
  | crustInternalFault (t : Nat) (kind : CrustFault)
  /-- R355: The Crust cores complete their restart and write fault 0x0B02 with cause 12. -/
  | crustRestart (t : Nat)
  /-- R367: The single-channel limit expires and cause 3 fires. -/
  | singleChannelLimitExpiry (t : Nat)
  /-- R372: In a class C window the Crust injects a flipped bit into a shadow output and expects a disagreement. -/
  | comparatorTest (t : Nat) (out : Nat) (field : Nat) (ran : Bool) (reported : List Nat)
  /-- R372: A starter frame runs in a block's proof window and its output CRC is checked. -/
  | starterFrameTest (t : Nat) (r : Fin 10) (b : Fin 18) (ran : Bool) (frame : Nat) (crc : Nat) (cell : Option (Fin 65))
  /-- R378: A filtered rising edge on the reset input resets latched causes whose condition is gone. -/
  | resetInputEdge (t : Nat)
  /-- R380: Writing 1 to 0x4810:03 makes the Crust read and validate the staged parameter set. -/
  | parameterSetValidate (t : Nat) (ses : Session)
  /-- R380: Validation completes and the set becomes valid or is refused with fault 0x0B09. -/
  | parameterSetValidated (t : Nat)
  /-- R380: Writing 3 to 0x4810:03 cancels a valid set that has not yet activated. -/
  | parameterSetCancel (t : Nat) (ses : Session)
  /-- R380: At the activation count or next launch the set activates, limits are clamped and it is stored in flash. -/
  | parameterSetActivate (t : Nat)
  /-- R381: A receive SRDO frame pair is checked, updating the axis request mask, reset request and safe-stop demand. -/
  | srdoReceived (t : Nat) (n : Fin 8) (normal : Bytes) (inverted : Bytes) (gapUs : Nat)
  /-- R381: SRVT or SCT expires without a valid SRDO and cause 11 fires. -/
  | srdoTimeout (t : Nat) (n : Fin 8)
  /-- R381: Every SCT a transmit SRDO is sent as a normal and an inverted frame. -/
  | srdoTransmit (t : Nat) (n : Fin 8)
  /-- R389: A Sync message is timestamped and the servo of its domain runs, stepping, holding or slewing the count. -/
  | ptpSyncReceived (t : Nat) (m : SyncMsg)
  /-- R389: A Follow_Up completes a two-step Sync and the servo runs. -/
  | ptpFollowUpReceived (t : Nat) (m : SyncMsg)
  /-- R392: An Announce restarts its domain's announce timeout and may begin recovery of a lost domain. -/
  | ptpAnnounceReceived (t : Nat) (m : AnnounceMsg)
  /-- R392: The announce receipt timeout expires and the active domain is lost. -/
  | ptpAnnounceTimeout (t : Nat) (dom : Fin 2)
  /-- R392: The Sync receipt timeout expires and the active domain is lost. -/
  | ptpSyncTimeout (t : Nat) (dom : Fin 2)
  /-- R385: The held ticks run out, the fraction is cleared and counting resumes. -/
  | timebaseHoldEnd (t : Nat)
  /-- R384: A timed adjustment ends after its tick count. -/
  | timedAdjustmentEnd (t : Nat)
  /-- R398: The holdover error estimate exceeds its limit and fault 0x0C02 is written. -/
  | holdoverErrorLimit (t : Nat)
  /-- R396: A peer delay request is answered on every port in both modes. -/
  | ptpPdelayRequest (t : Nat) (port : Fin 8) (ident : Nat) (rx : Nat)
  /-- R395: In normal service a one-step Sync is sent at each Sync interval. -/
  | ptpSyncTransmit (t : Nat) (port : Fin 8)
  /-- R395: In normal service an Announce with stepsRemoved raised by 1 is sent. -/
  | ptpAnnounceTransmit (t : Nat) (port : Fin 8)
  /-- R399: A trigger channel issues an edge driving a camera trigger, frame sync, strobe or output. -/
  | timeTriggerEdge (t : Nat) (ch : Fin 64)
  /-- R405: A received CAN frame is stamped and placed in the receive FIFO, or discarded on overrun or as remote. -/
  | canFrameReceived (t : Nat) (ctl : Fin 4) (frame : CanFrame)
  /-- R413: A transmission error updates the error counters, retries or discards the frame and may lead to error passive or bus-off. -/
  | canBusError (t : Nat) (ctl : Fin 4) (kind : Nat) (receiving : Bool) (tec : Nat) (rec : Nat)
  /-- R413: Writing 1 to 0x2310:0F starts bus-off recovery or returns a controller from S3. -/
  | recoveryCommand (t : Nat) (ses : Session) (ctl : Fin 4)
  /-- R413: After 128 occurrences of 11 recessive bits the controller becomes error active. -/
  | canRecoveryComplete (t : Nat) (ctl : Fin 4)
  /-- R412: A written operating mode takes effect at the next bus idle. -/
  | canModeChange (t : Nat) (ctl : Fin 4)
  /-- R418: A basic cycle begins and the current time master sends its reference message. -/
  | ttcanCycleStart (t : Nat) (ctl : Fin 2) (matrixOk : Bool)
  /-- R417: At its time mark an exclusive frame starts within the Tx_Enable window or is missed. -/
  | transmitExclusive (t : Nat) (ctl : Fin 2) (entry : Fin 128) (inWindow : Bool)
  /-- R417: At its time mark a frame enters arbitration if it fits the window. -/
  | transmitArbitrating (t : Nat) (ctl : Fin 2) (entry : Fin 128) (fits : Bool)
  /-- R415: A merged arbitrating window starts at its time mark. -/
  | mergedWindowStart (t : Nat) (ctl : Fin 2) (entry : Fin 128)
  /-- R415: A merged arbitrating window continues at its time mark. -/
  | mergedWindowContinue (t : Nat) (ctl : Fin 2) (entry : Fin 128)
  /-- R415: An arbitrating window ends at its time mark. -/
  | endOfArbitratingWindow (t : Nat) (ctl : Fin 2) (entry : Fin 128)
  /-- R417: A receive check fails when its filter received no valid frame since the previous window. -/
  | receiveCheck (t : Nat) (ctl : Fin 2) (entry : Fin 128)
  /-- R415: A watch trigger entry acts at its time mark. -/
  | watchTrigger (t : Nat) (ctl : Fin 2) (entry : Fin 128)
  /-- R419: A reference message is received and the slave corrects its NTU rate. -/
  | referenceMessageReceived (t : Nat) (ctl : Fin 2) (m : RefMsg)
  /-- R418: No reference message within the reference offset makes a potential master send its own. -/
  | referenceOffsetExpiry (t : Nat) (ctl : Fin 2)
  /-- R419: The application watchdog lapses and the controller enters S3. -/
  | applicationWatchdogLapse (t : Nat) (ctl : Fin 2)
  /-- R425: An incoming RDMA READ is checked against window key, rights and range and served or NAKed. -/
  | rdmaRead (t : Nat) (q : RdmaReq)
  /-- R425: An incoming RDMA WRITE is checked against its window and served or NAKed. -/
  | rdmaWrite (t : Nat) (q : RdmaReq) (data : Bytes)
  /-- R432: An incoming write with immediate delivers a ring or gather message, discarded if its beat or step is unexpected. -/
  | rdmaWriteWithImmediate (t : Nat) (q : RdmaReq) (data : Bytes) (imm : BitVec 32) (ring : Fin 4) (expectedBeat : Nat) (expectedStep : Nat)
  /-- R425: An incoming SEND is accepted only into a window with the receive right. -/
  | send (t : Nat) (q : RdmaReq) (data : Bytes)
  /-- R422: An incoming atomic operation is NAKed as an invalid request. -/
  | atomicRequest (t : Nat) (q : RdmaReq)
  /-- R429: The ACK timeout expires and the queue pair retransmits go-back-N or enters error. -/
  | ackTimeout (t : Nat) (qp : Fin 256) (owner : Option (Fin 10 × BitVec 128))
  /-- R429: A receiver-not-ready NAK is retried within its limit. -/
  | receiverNotReadyNak (t : Nat) (qp : Fin 256) (owner : Option (Fin 10 × BitVec 128))
  /-- R422: A congestion notification packet halves a queue pair's rate. -/
  | congestionNotification (t : Nat) (qp : Fin 256)
  /-- R422: After 55 µs without a congestion notification a queue pair regains one eighth of line rate. -/
  | rateRecoveryTimer (t : Nat) (qp : Fin 256)
  /-- R429: Writing a queue pair number to 0x2480:01 re-establishes it. -/
  | queuePairReestablish (t : Nat) (ses : Session) (qp : Nat)
  /-- R430: A port losing block lock retrains, and after the third retrain in 10 s stays down. -/
  | portBlockLockLost (t : Nat) (port : Fin 8)
  /-- R430: Writing 1 to 0x2402 brings a held-down port up again. -/
  | portUpCommand (t : Nat) (ses : Session) (port : Fin 8)
  /-- R430: A priority pause frame from the peer pauses that priority; one with a pause time of 0 lets it go on. -/
  | pfcPauseReceived (t : Nat) (port : Fin 8) (p : PfcPause)
  /-- R430: A priority paused longer than the watchdog stops honouring pause frames. -/
  | pauseWatchdogTimeout (t : Nat) (port : Fin 8) (prio : Fin 8)
  /-- R428: The host writes a host output queue's consumer index, freeing records. -/
  | consumerIndexWrite (t : Nat) (ses : Session) (q : Fin 16) (index : Nat)
  /-- R435: A PCIe access to BAR 2 reaches a window, or is refused with Completer Abort or dropped. -/
  | bar2Access (t : Nat) (w : Fin 64) (offset : Nat) (data : Option Bytes) (length : Nat)
  /-- R435: The PCIe link retrains, and the fourth retrain in 1 s holds it down. -/
  | pcieLinkRetrain (t : Nat)
  /-- R435: A hot reset from the host brings a held-down link up again. -/
  | pcieHotReset (t : Nat)
  /-- R435: Writing 1 to 0x2500:03 brings a held-down PCIe link up again. -/
  | linkUpCommand (t : Nat) (ses : Session)
  /-- R438: The main input goes out of range; converters stop, PWM goes all-gates-off and hold-up runs. -/
  | mainInputLoss (t : Nat) (decivolts : Nat)
  /-- R438: The hold-up store runs down and the module powers off. -/
  | modulePowerOff (t : Nat)
  /-- R438: The main input back in range for 100 ms triggers a cold boot. -/
  | mainInputReturn (t : Nat) (decivolts : Nat)
  /-- R439: The field input goes out of range and every digital output and sensor supply switches off. -/
  | fieldInputLoss (t : Nat) (decivolts : Nat)
  /-- R439: The field input returns and supplies resume their last commands. -/
  | fieldInputReturn (t : Nat) (decivolts : Nat)
  /-- R442: A write to 0x2110 requests a domain state, served by ordering, latching or refusal. -/
  | domainStateRequest (t : Nat) (ses : Session) (d : Fin 72) (v : Nat)
  /-- R443: A domain's switches close and it powers up through power-good, isolation release and initialisation. -/
  | domainPowerUp (t : Nat) (d : Fin 72)
  /-- R444: A domain is quiesced, isolated and lowered to retention or off. -/
  | domainShutDown (t : Nat) (d : Fin 72)
  /-- R444: The descriptors in flight of a quiescing domain complete and its shut-down continues. -/
  | quiesceComplete (t : Nat) (d : Fin 72)
  /-- R443: A powering domain reaches power-good and its sequence continues, then any latched request starts. -/
  | powerGood (t : Nat) (d : Fin 72) (failing : List (Fin 18 × Nat × Nat))
  /-- R446: A domain not reaching power-good in ten times its up time takes state failed. -/
  | powerGoodTimeout (t : Nat) (d : Fin 72)
  /-- R447: At a supply step beat the power manager raises or lowers region supplies and applies re-plans. -/
  | supplyStepBeat (t : Nat)
  /-- R451: A droop excursion beyond the guard band writes fault 0x1003 and raises the supply at the next step beat. -/
  | droopExcursion (t : Nat) (r : Fin 10) (depth : Nat) (duration : Nat)
  /-- R450: Every 100 µs temperatures are read and class L suspension, rating or thermal trip thresholds are judged. -/
  | temperatureSample (t : Nat) (deci : List Int) (trip : Bool)
  /-- R450: Writing 1 to 0x2100:0E boots the compute die after a thermal trip once sensors are below 95 °C. -/
  | computeDieRestart (t : Nat) (ses : Session)
  /-- R452: The 100 ms average input power is compared with the energy cap and class L suspended or resumed. -/
  | inputPowerCheck (t : Nat) (watts : Nat)
  /-- R453: Ageing pairs are measured and each region's ageing, speed factor, headroom and V_plan recomputed. -/
  | ageingMeasurement (t : Nat) (reads : List AgeRead)
  /-- R453: Writing 1 to 0x2140:03 starts an ageing measurement at once. -/
  | measureNow (t : Nat) (ses : Session) (reads : List AgeRead)
  /-- R458: A power state request of 1 schedules idle at the pause beat in 0x2100:04. -/
  | idleRequest (t : Nat) (ses : Session)
  /-- R458: A power state request of 2 schedules resume at beat R and powers the domains up. -/
  | resumeRequest (t : Nat) (ses : Session)
  /-- R458: Domains not all on 10 ms before R keep the device idle with fault 0x100D. -/
  | resumeReadinessCheck (t : Nat)
  /-- R459: A power state request of 3 writes final wear records and shuts down non-standby domains. -/
  | standbyRequest (t : Nat) (ses : Session)
  /-- R459: A power state request of 4 boots the compute die within the cold-boot bound. -/
  | leaveStandby (t : Nat) (ses : Session)
  /-- R462: Writing 1 to 0x5000:03 zeroes every counter at the next release count. -/
  | zeroAllCounters (t : Nat) (ses : Session)
  /-- R470: At each dump period a dump of the selected counter sets is latched into the dump ring. -/
  | dumpLatch (t : Nat)
  /-- R472: A read of 0x5080:01 returns whole retained dumps from the read start sequence. -/
  | dumpWindowRead (t : Nat) (ses : Session)
  /-- R473: A low level on SYS_RST_N for 10 µs causes a cold boot. -/
  | sysRstNLow (t : Nat) (nanos : Nat)
  /-- R473: Writing 1 to 0x5800:01 causes a warm reset. -/
  | resetRequestWarm (t : Nat) (ses : Session)
  /-- R473: Writing 2 to 0x5800:01 causes a cold boot. -/
  | resetRequestCold (t : Nat) (ses : Session)
  /-- R473: A manager core fails its watchdog; core 1 takes over, or both failing cause a warm reset. -/
  | managerWatchdogExpiry (t : Nat) (core : Fin 2)
  /-- R474: After a reset the boot steps verify and start firmware, power the compute die and load the image. -/
  | coldBoot (t : Nat) (slotA : Bundle) (slotB : Bundle) (image : Option Image) (imageSigOk : Bool) (failing : List (Fin 10 × Fin 18 × Nat × Nat)) (late : List (Nat × Nat))
  /-- R474: Once synchronised or at the end of its wait, the device proposes a launch to itself. -/
  | autolaunch (t : Nat)
  /-- R481: Writing 1 to 0x5820:02 verifies the staged bundle into the inactive slot. -/
  | firmwareValidate (t : Nat) (ses : Session)
  /-- R481: Verification of a staged bundle ends as valid or refused. -/
  | firmwareVerificationComplete (t : Nat) (b : Bundle)
  /-- R481: Writing 2 to 0x5820:02 schedules the switch at the beat in 0x5820:03. -/
  | firmwareSchedule (t : Nat) (ses : Session)
  /-- R481: Writing 3 to 0x5820:02 cancels the staged firmware. -/
  | firmwareCancel (t : Nat) (ses : Session)
  /-- R481: At the switch beat core 1 and the steward shadows take over with the new firmware. -/
  | firmwareSwitch (t : Nat)
  /-- R480: Writing 1 to 0x5830:02 verifies the staged image into the inactive image slot. -/
  | imageValidate (t : Nat) (ses : Session)
  /-- R480: Verification of a staged image ends as valid or refused with fault 0x1104. -/
  | imageVerificationComplete (t : Nat) (image : Image) (sigOk : Bool)
  /-- R480: Writing 2 to 0x5830:02 schedules a relaunch at the count in 0x5830:03. -/
  | imageRelaunch (t : Nat) (ses : Session)
  /-- R480: Writing 3 to 0x5830:02 cancels the staged image. -/
  | imageCancel (t : Nat) (ses : Session)
  /-- R480: The running launch ends before the relaunch count and a new launch begins with the new image. -/
  | relaunch (t : Nat)
  /-- R477: Writing the running version to 0x5800:08 burns fuses raising the minimum security version. -/
  | raiseMinimumSecurityVersion (t : Nat) (ses : Session) (v : Nat)
  /-- R476: Writing 0x5840:01 programs image key slot 0 while it is empty. -/
  | imageKeySlotWrite (t : Nat) (ses : Session) (key : Bytes)
  /-- R476: A signed key record written to 0x5840:03 programs or revokes an image key slot. -/
  | imageKeyRecord (t : Nat) (ses : Session) (record : Bytes)
  /-- R484: Writing a region number to 0x5800:0C requests that region's migration. -/
  | migrationRequest (t : Nat) (ses : Session) (r : Nat)
  /-- R484: At change beat M1 the checker takes the region's class C work, single channel begins and the copy starts. -/
  | regionMigrationStart (t : Nat)
  /-- R484: The region's memories are copied and the hot spare's placement is loaded. -/
  | migrationCopyComplete (t : Nat) (ok : Bool)
  /-- R484: At change beat M2 the hot spare takes the working role, windows and pools move and comparison resumes. -/
  | regionMigrationSwitch (t : Nat) (targetOk : Bool)
  /-- R484: Every stream of the region has reached a tile boundary and fault 0x1107 is written. -/
  | regionMigrationComplete (t : Nat)
  /-- R483: At the change beat a retiring block's scratchpad is copied to a spare block which takes its work. -/
  | blockSwap (t : Nat) (r : Fin 10) (b : Fin 18)
  /-- R131: A launch leader receives a member's session open response, derives the session key and can send launch frames in that session. -/
  | sessionOpenResponse (t : Nat) (f : BFrame)
  /-- R128: A received Basaris frame of unknown type, wrong magic or version, or naming a session not open is discarded, counted and recorded. -/
  | unrecognisedBasarisFrame (t : Nat) (f : BFrame)
  /-- R134: The host writes EMCY_TAIL, freeing emergency ring slots and updating emcy_pending. -/
  | emcyTailWrite (t : Nat) (tail : Nat)
  /-- R404: A CAN frame completes transmission without error, frees its transmit buffer and is counted in 0x2380:04; its loop delay is measured (R409). -/
  | canTransmissionComplete (t : Nat) (x : CanSent)
  /-- R411: A frame loses arbitration and takes one of its retry attempts, or is discarded when the retry limit is exhausted. -/
  | canArbitrationLost (t : Nat) (ctl : Fin 4)
  /-- R111: A TPDO of class I or L data is sent according to its CiA 301 communication parameters. -/
  | tpdoTransmit (t : Nat) (n : Fin 16)
  /-- R430: An Ethernet port completes link training and block lock and takes state up. -/
  | portLinkUp (t : Nat) (port : Fin 8)
  /-- R434: The PCIe link completes training and reports its speed and width in 0x2500:01. -/
  | pcieLinkUp (t : Nat) (speed : Nat) (lanes : Nat)
  /-- R430: After 1 s without pause frames a priority whose pause watchdog fired honours pause frames again. -/
  | pauseQuietTimeout (t : Nat) (port : Fin 8) (prio : Fin 8)
  /-- R429: An ACK or NAK for an outgoing RoCEv2 transfer is received, advancing or restarting the go-back-N window and completing the transfer. -/
  | roceAckReceived (t : Nat) (qp : Fin 256) (psn : Nat) (nak : Bool) (owner : Option (Fin 10 × BitVec 128))
  /-- R387: At each log delay or peer delay interval the device sends its Delay_Req or Pdelay_Req on the domain's ports. -/
  | ptpDelayRequestTransmit (t : Nat) (dom : Fin 2) (tx : Nat)
  /-- R389: A Delay_Resp or Pdelay_Resp with its follow-up is received and the domain's mean path delay is updated. -/
  | ptpDelayResponseReceived (t : Nat) (dom : Fin 2) (t2 : Nat) (t3 : Nat) (t4 : Nat) (correction : Int)
  /-- R271: A CoaXPress event packet or device-to-host trigger packet is received, ignored and counted. -/
  | coaxpressEventPacket (t : Nat) (conn : Fin 32)
deriving DecidableEq, Repr

end Sys2Proof
end

