-- ==== Sys2Proof/Machine/Bits.lean ====
section
/-!
DEFINITION. Bit fields, byte order, association lists and per-unit vectors, check codes (CRC-8, CRC-16, CRC-32), SHA-256 and SHA-512, HMAC-SHA-256 and the counter-based generator of R97.
-/

namespace Sys2Proof.Machine

/-! ## Bits and bytes (R7) -/

/-- Bits `hi` down to `lo` of `n`. -/
def bits (n hi lo : Nat) : Nat := (n >>> lo) % 2 ^ (hi + 1 - lo)

/-- Bit `k` of `n`. -/
def bit (n k : Nat) : Bool := n.testBit k

/-- Bits `hi` down to `lo` of a bit vector (field maps of the form [hi:lo]). -/
def fld {w : Nat} (v : BitVec w) (hi lo : Nat) : Nat := bits v.toNat hi lo

/-- `n` as a two's complement number of `w` bits. -/
def signed (w n : Nat) : Int := if n % 2 ^ w < 2 ^ (w - 1) then ((n % 2 ^ w : Nat) : Int) else ((n % 2 ^ w : Nat) : Int) - 2 ^ w

/-- The two's complement pattern of `v` in `w` bits. -/
def pattern (w : Nat) (v : Int) : Nat := (v % (2 ^ w : Int)).toNat

/-- `b` as 0 or 1. -/
def b2n (b : Bool) : Nat := if b then 1 else 0

/-- The `k` little-endian bytes of `n` (R7). -/
def leBytes (k n : Nat) : Bytes := (List.range k).map fun i => BitVec.ofNat 8 (n >>> (8 * i))

/-- The number whose little-endian bytes are `bs` (R7). -/
def leNat (bs : Bytes) : Nat := bs.foldr (fun b acc => b.toNat + 256 * acc) 0

/-- The number whose big-endian bytes are `bs`. -/
def beNat (bs : Bytes) : Nat := bs.foldl (fun acc b => 256 * acc + b.toNat) 0

/-- Field of `n` bytes at byte offset `off` of a little-endian layout. -/
def leAt (bs : Bytes) (off n : Nat) : Nat := leNat ((bs.drop off).take n)

/-- Zero padding up to a multiple of `k` bytes. -/
def padTo (k : Nat) (bs : Bytes) : Bytes := bs ++ List.replicate ((k - bs.length % k) % k) 0

/-- `v` limited to `lo` to `hi`. -/
def clampI (lo hi v : Int) : Int := if v < lo then lo else if hi < v then hi else v

/-- `a` lies at or after `b` in modulo-2³² order within 2³¹ (R42, R43). -/
def atOrAfter (a b : Nat) : Bool := decide ((a + 2 ^ 32 - b % 2 ^ 32) % 2 ^ 32 < 2 ^ 31)

/-- Quotient rounded to nearest, ties to even; the divisor is not 0. -/
def divRne (a : Int) (b : Nat) : Int :=
  let q := a / (b : Int)
  let r := a - q * (b : Int)
  if 2 * r < (b : Int) then q else if 2 * r > (b : Int) then q + 1 else if q % 2 = 0 then q else q + 1

/-- Quotient rounded up. -/
def divUp (a b : Nat) : Nat := (a + b - 1) / b

/-! ## Vectors of units and association lists -/

/-- Unit `i` of `v` changed by `f`. -/
def upd {α : Type} {n : Nat} (v : Vector α n) (i : Fin n) (f : α → α) : Vector α n := v.set i (f v[i])

/-- Every unit of `v` changed by `f`, which is given the unit's number. -/
def updAll {α : Type} {n : Nat} (v : Vector α n) (f : Nat → α → α) : Vector α n := Vector.ofFn fun i => f i.val v[i]

/-- The value at key `k`, if listed. -/
def get? {α : Type} (l : List (Nat × α)) (k : Nat) : Option α :=
  match l with
  | [] => none
  | (k', v) :: rest => if k = k' then some v else get? rest k

/-- `l` with `v` at key `k`, kept in rising order of keys. -/
def put {α : Type} (l : List (Nat × α)) (k : Nat) (v : α) : List (Nat × α) :=
  match l with
  | [] => [(k, v)]
  | (k', v') :: rest => if k < k' then (k, v) :: (k', v') :: rest else if k = k' then (k, v) :: rest else (k', v') :: put rest k v

/-- `l` without key `k`. -/
def del {α : Type} (l : List (Nat × α)) (k : Nat) : List (Nat × α) := l.filter fun e => e.1 != k

/-- The last `n` elements of `l`. -/
def lastN {α : Type} (n : Nat) (l : List α) : List α := l.drop (l.length - n)

/-- All numbers below `n` as indices. -/
def idxs (n : Nat) : List (Fin n) := List.finRange n

/-! ## Check codes -/

/-- One bit step of a left-shifting CRC of width `w` with polynomial `p`. -/
def crcBit (w p crc : Nat) : Nat :=
  if crc.testBit (w - 1) then ((crc <<< 1) ^^^ p) % 2 ^ w else (crc <<< 1) % 2 ^ w

/-- One byte of a left-shifting CRC. -/
def crcByte (w p crc : Nat) (b : Byte) : Nat :=
  (List.range 8).foldl (fun c _ => crcBit w p c) (crc ^^^ (b.toNat <<< (w - 8)))

/-- A CRC of width `w`: polynomial `p`, initial value `ini`, no reflection, no final XOR. -/
def crc (w p ini : Nat) (bs : Bytes) : Nat := bs.foldl (crcByte w p) ini

/-- The CRC-16 of fault records and the other records that name it (R38). -/
def crc16 (bs : Bytes) : Nat := crc 16 0x1021 0xFFFF bs

/-- One bit step of the reflected CRC-32. -/
def crc32Bit (c : Nat) : Nat := if c.testBit 0 then (c >>> 1) ^^^ 0xEDB88320 else c >>> 1

/-- One byte of the reflected CRC-32. -/
def crc32Byte (c : Nat) (b : Byte) : Nat := (List.range 8).foldl (fun x _ => crc32Bit x) (c ^^^ b.toNat)

/-- CRC-32 of IEEE 802.3: reflected polynomial 0x04C1_1DB7, initial value and final XOR all ones. -/
def crc32 (bs : Bytes) : Nat := (bs.foldl crc32Byte 0xFFFFFFFF) ^^^ 0xFFFFFFFF

/-! ## SHA-256, SHA-512 and HMAC-SHA-256 (PRESUMED: FIPS 180-4 and RFC 2104, which the manual names and does not restate) -/

/-- The first 64 bits after the point of the square roots of the first eight primes, and of the cube roots of the first eighty, each as one number, the first prime's on top. -/
def squareRoots : Nat := 0x6a09e667f3bcc908bb67ae8584caa73b3c6ef372fe94f82ba54ff53a5f1d36f1510e527fade682d19b05688c2b3e6c1f1f83d9abfb41bd6b5be0cd19137e2179
def cubeRoots : Nat :=
  0x428a2f98d728ae227137449123ef65cdb5c0fbcfec4d3b2fe9b5dba58189dbbc3956c25bf348b53859f111f1b605d019923f82a4af194f9bab1c5ed5da6d8118d807aa98a303024212835b0145706fbe243185be4ee4b28c550c7dc3d5ffb4e272be5d74f27b896f80deb1fe3b1696b19bdc06a725c71235c19bf174cf692694e49b69c19ef14ad2efbe4786384f25e30fc19dc68b8cd5b5240ca1cc77ac9c652de92c6f592b02754a7484aa6ea6e4835cb0a9dcbd41fbd476f988da831153b5983e5152ee66dfaba831c66d2db43210b00327c898fb213fbf597fc7beef0ee4c6e00bf33da88fc2d5a79147930aa72506ca6351e003826f142929670a0e6e7027b70a8546d22ffc2e1b21385c26c9264d2c6dfc5ac42aed53380d139d95b3df650a73548baf63de766a0abb3c77b2a881c2c92e47edaee692722c851482353ba2bfe8a14cf10364a81a664bbc423001c24b8b70d0f89791c76c51a30654be30d192e819d6ef5218d69906245565a910f40e35855771202a106aa07032bbd1b819a4c116b8d2d0c81e376c085141ab532748774cdf8eeb9934b0bcb5e19b48a8391c0cb3c5c95a634ed8aa4ae3418acb5b9cca4f7763e373682e6ff3d6b2b8a3748f82ee5defb2fc78a5636f43172f6084c87814a1f0ab728cc702081a6439ec90befffa23631e28a4506cebde82bde9bef9a3f7b2c67915c67178f2e372532bca273eceea26619cd186b8c721c0c207eada7dd6cde0eb1ef57d4f7fee6ed17806f067aa72176fba0a637dc5a2c898a6113f9804bef90dae1b710b35131c471b28db77f523047d8432caab7b40c724933c9ebe0a15c9bebc431d67c49c100d4c4cc5d4becb3e42b6597f299cfc657e2a5fcb6fab3ad6faec6c44198c4a475817

/-- The first `w` bits of root `i` of a table of `n`. -/
def rootBits (table n w i : Nat) : Nat := table >>> (64 * (n - i) - w) % 2 ^ w

/-- A hash function of the family SHA-2: bits of a word, rounds, and the amounts of its four mixing functions, of which the last two end in a shift. -/
structure Sha2 where
  width : Nat
  rounds : Nat
  onA : Nat × Nat × Nat
  onE : Nat × Nat × Nat
  old : Nat × Nat × Nat
  new : Nat × Nat × Nat
deriving DecidableEq, Repr

/-- A word turned to the right. -/
def Sha2.turn (m : Sha2) (n x : Nat) : Nat := (x * 2 ^ (m.width - n) ||| x >>> n) % 2 ^ m.width

/-- Three turns of a word, and two turns and a shift. -/
def Sha2.stir (m : Sha2) (k : Nat × Nat × Nat) (x : Nat) : Nat := m.turn k.1 x ^^^ m.turn k.2.1 x ^^^ m.turn k.2.2 x
def Sha2.blend (m : Sha2) (k : Nat × Nat × Nat) (x : Nat) : Nat := m.turn k.1 x ^^^ m.turn k.2.1 x ^^^ x >>> k.2.2

/-- What a block's compression holds: the sixteen words of the message schedule to come, and the last four values of either working sequence, newest first. -/
structure Sha2State where
  sched : List Nat
  a : List Nat
  e : List Nat
deriving DecidableEq, Repr

/-- One round: its message word leaves the schedule, to which a new one is added, and each sequence takes its next value. -/
def Sha2.round (m : Sha2) (st : Sha2State) (i : Nat) : Sha2State :=
  let w (k : Nat) := st.sched.getD k 0
  let a (k : Nat) := st.a.getD k 0
  let e (k : Nat) := st.e.getD k 0
  let t := e 3 + m.stir m.onE (e 0) + (e 2 ^^^ (e 0 &&& (e 1 ^^^ e 2))) + rootBits cubeRoots 80 m.width i + w 0
  { sched := st.sched.drop 1 ++ [(w 0 + m.blend m.old (w 1) + w 9 + m.blend m.new (w 14)) % 2 ^ m.width]
    a := (t + m.stir m.onA (a 0) + ((a 0 &&& (a 1 ||| a 2)) ||| (a 1 &&& a 2))) % 2 ^ m.width :: st.a.take 3
    e := (a 3 + t) % 2 ^ m.width :: st.e.take 3 }

/-- One block of sixteen words into the hash value of eight. -/
def Sha2.compress (m : Sha2) (h words : List Nat) : List Nat :=
  let st := (List.range m.rounds).foldl m.round ⟨words, h.take 4, h.drop 4⟩
  (List.range 8).map fun k => (h.getD k 0 + (st.a ++ st.e).getD k 0) % 2 ^ m.width

/-- A number as bytes, the highest first. -/
def beBytes (k n : Nat) : Bytes := (leBytes k n).reverse

/-- The hash of a message, padded with a one, zeros, and its length in bits. -/
def Sha2.hash (m : Sha2) (msg : Bytes) : Bytes :=
  let size := m.width / 8
  let zeros := (16 * size - (msg.length + 1 + 2 * size) % (16 * size)) % (16 * size)
  let whole := msg ++ 0x80 :: List.replicate zeros 0 ++ beBytes (2 * size) (8 * msg.length)
  let word (i : Nat) : Nat := beNat ((whole.drop (size * i)).take size)
  let first := (List.range 8).map (rootBits squareRoots 8 m.width)
  let h := (List.range (whole.length / (16 * size))).foldl (fun h b => m.compress h ((List.range 16).map fun i => word (16 * b + i))) first
  (List.range 8).flatMap fun k => beBytes size (h.getD k 0)

/-- SHA-256: 32 bytes. -/
def sha256 (msg : Bytes) : Bytes := Sha2.hash ⟨32, 64, (2, 13, 22), (6, 11, 25), (7, 18, 3), (17, 19, 10)⟩ msg
/-- SHA-512: 64 bytes. -/
def sha512 (msg : Bytes) : Bytes := Sha2.hash ⟨64, 80, (28, 34, 39), (14, 18, 41), (1, 8, 7), (19, 61, 6)⟩ msg

/-- HMAC-SHA-256 under a key of at most 64 bytes. -/
def hmac (key m : Bytes) : Bytes :=
  let k := padTo 64 (key ++ if key.isEmpty then [0] else [])
  sha256 (k.map (· ^^^ 0x5C) ++ sha256 (k.map (· ^^^ 0x36) ++ m))

/-- The bytes of an ASCII string. -/
def ascii (s : String) : Bytes := s.toList.map fun c => BitVec.ofNat 8 c.toNat

/-! ## The counter-based generator (R97, R99) -/

/-- R97: mix. -/
def mix (v : Nat) : Nat := let u := v * 0x01001001 % 2 ^ 32; u ^^^ (u >>> 16)

/-- R97: one round `r` on (x0, x1, x2, x3). -/
def genRound (key : Nat × Nat × Nat × Nat) (x : Nat × Nat × Nat × Nat) (r : Nat) : Nat × Nat × Nat × Nat :=
  let (k0, k1, k2, k3) := key
  let (x0, x1, x2, x3) := x
  let ka := (if r % 2 = 0 then k0 else k2) ^^^ ((r + 1) * 0x01010101 % 2 ^ 32)
  let kb := (if r % 2 = 0 then k1 else k3) ^^^ ((r + 1) * 0x10101010 % 2 ^ 32)
  let a := mix (x0 ^^^ ka)
  let b := mix (x2 ^^^ kb)
  (x1 ^^^ b, x2, x3 ^^^ a, x0)

/-- R97: the generator. -/
def generate (key : Nat × Nat × Nat × Nat) (stream element : Nat) : Nat × Nat × Nat × Nat :=
  (List.range 10).foldl (genRound key) (bits element 31 0, bits element 63 32, bits stream 31 0, bits stream 63 32)

/-- R99: a Bernoulli draw with probability `q`/2¹⁶ from word `w`. -/
def bernoulli (w q : Nat) : Bool := decide (bits w 31 16 < q)

end Sys2Proof.Machine
end

