-- ==== Sys2Proof/Machine/Numbers.lean ====
section
/-!
DEFINITION. The number formats (R170 to R190): exact values, rounding to nearest even, narrowing with its counts, Microscaling blocks and EX8 groups, and binary32 arithmetic.
-/

namespace Sys2Proof.Machine

/-- An exact value: NaN, an infinity, or (−1)^neg · m / d · 2^e with d not 0; a zero keeps its sign (R177). -/
inductive Exact where
  | nan
  | inf (neg : Bool)
  | fin (neg : Bool) (m d : Nat) (e : Int)
deriving DecidableEq, Repr

/-- Zero with a sign. -/
def Exact.zero (neg : Bool := false) : Exact := .fin neg 0 1 0

/-- An integer. -/
def Exact.ofInt (v : Int) : Exact := .fin (decide (v < 0)) v.natAbs 1 0

/-- Whether a value is zero. -/
def Exact.isZero : Exact → Bool
  | .fin _ m _ _ => m == 0
  | _ => false

/-- Whether a value is NaN or an infinity. -/
def Exact.special : Exact → Bool
  | .fin _ _ _ _ => false
  | _ => true

/-- The magnitude. -/
def Exact.abs : Exact → Exact
  | .fin _ m d e => .fin false m d e
  | .inf _ => .inf false
  | .nan => .nan

/-- Whether a value is negative, zero by its sign. -/
def Exact.neg : Exact → Bool
  | .fin s _ _ _ => s
  | .inf s => s
  | .nan => false

/-- n · 2^k for a k of either sign, as a quotient. -/
def scaled (n : Nat) (k : Int) : Nat × Nat := if 0 ≤ k then (n <<< k.toNat, 1) else (n, 1 <<< (-k).toNat)

/-- m / d · 2^k rounded to nearest, ties to even (R175). -/
def roundMag (m d : Nat) (k : Int) : Nat :=
  let p := scaled m k
  (divRne (p.1 : Nat) (d * p.2)).toNat

/-- floor(log2(m / d · 2^e)) of a value that is not 0. -/
def floorLog (m d : Nat) (e : Int) : Int :=
  let k : Int := (Nat.log2 m : Int) - Nat.log2 d
  let p := scaled d k
  (if p.1 ≤ m * p.2 then k else k - 1) + e

/-- ceil(log2(m / d · 2^e)) of a value that is not 0. -/
def ceilLog (m d : Nat) (e : Int) : Int :=
  let k := floorLog m d e - e
  let p := scaled d k
  if p.1 = m * p.2 then k + e else k + 1 + e

/-- Whether |a| < |b| for finite values. -/
def magLt (a b : Exact) : Bool :=
  match a, b with
  | .fin _ m d e, .fin _ m' d' e' =>
    let p := scaled (m * d') (e - e')
    decide (p.1 < m' * d * p.2)
  | _, _ => false

/-- The product (R182): NaN for a NaN operand and for infinity × 0. -/
def Exact.mul (a b : Exact) : Exact :=
  match a, b with
  | .nan, _ => .nan
  | _, .nan => .nan
  | .inf s, y => if y.isZero then .nan else .inf (s != y.neg)
  | x, .inf s => if x.isZero then .nan else .inf (s != x.neg)
  | .fin s m d e, .fin s' m' d' e' => .fin (s != s') (m * m') (d * d') (e + e')

/-- The signed numerator of a finite value over `d'` more and the exponent `k`. -/
def numerator (neg : Bool) (m d' : Nat) (e k : Int) : Int :=
  let v : Int := ((m * d') <<< (e - k).toNat : Nat)
  if neg then -v else v

/-- The exact sum; a zero sum is negative only where both terms are (IEEE 754). -/
def Exact.add (a b : Exact) : Exact :=
  match a, b with
  | .nan, _ => .nan
  | _, .nan => .nan
  | .inf s, .inf s' => if s = s' then .inf s else .nan
  | .inf s, _ => .inf s
  | _, .inf s => .inf s
  | .fin s m d e, .fin s' m' d' e' =>
    let k := min e e'
    let v := numerator s m d' e k + numerator s' m' d e' k
    .fin (if v = 0 then s && s' else decide (v < 0)) v.natAbs (d * d') k

/-- The difference. -/
def Exact.sub (a b : Exact) : Exact :=
  a.add (match b with
    | .fin s m d e => .fin (!s) m d e
    | .inf s => .inf (!s)
    | .nan => .nan)

/-- The exact quotient (IEEE 754 for zero and infinity). -/
def Exact.div (a b : Exact) : Exact :=
  match a, b with
  | .nan, _ => .nan
  | _, .nan => .nan
  | .inf _, .inf _ => .nan
  | .inf s, y => .inf (s != y.neg)
  | x, .inf s => .zero (s != x.neg)
  | .fin s m d e, .fin s' m' d' e' =>
    if m' = 0 then (if m = 0 then .nan else .inf (s != s')) else .fin (s != s') (m * d') (d * m') (e - e')

/-- A finite value rounded to an integer (R175); none for NaN and infinities. -/
def Exact.round : Exact → Option Int
  | .fin s m d e => some (if s then -(roundMag m d e : Int) else roundMag m d e)
  | _ => none

/-! ## Float formats (R177, R178) -/

/-- A float format: width, mantissa bits, bias, code of the largest finite magnitude, code of Infinity where there is one, canonical NaN where there is one. -/
structure FloatFmt where
  width : Nat
  mant : Nat
  bias : Nat
  maxFin : Nat
  inf : Option Nat
  nan : Option Nat
deriving DecidableEq, Repr

def fp32 : FloatFmt := ⟨32, 23, 127, 0x7F7FFFFF, some 0x7F800000, some 0x7FC00000⟩
def bf16 : FloatFmt := ⟨16, 7, 127, 0x7F7F, some 0x7F80, some 0x7FC0⟩
def fp16 : FloatFmt := ⟨16, 10, 15, 0x7BFF, some 0x7C00, some 0x7E00⟩
def e4m3 : FloatFmt := ⟨8, 3, 7, 0x7E, none, some 0x7F⟩
def e5m2 : FloatFmt := ⟨8, 2, 15, 0x7B, some 0x7C, some 0x7E⟩
def e3m2 : FloatFmt := ⟨6, 2, 3, 0x1F, none, none⟩
def e2m1 : FloatFmt := ⟨4, 1, 1, 0x7, none, none⟩

/-- The value of a code (R177, R178). -/
def FloatFmt.decode (f : FloatFmt) (code : Nat) : Exact :=
  let s := bit code (f.width - 1)
  let mag := code % 2 ^ (f.width - 1)
  let field := mag / 2 ^ f.mant
  let m := mag % 2 ^ f.mant
  let special := match f.inf, f.nan with
    | some i, _ => if mag = i then some (Exact.inf s) else if i < mag then some .nan else none
    | none, some n => if mag = n then some .nan else none
    | none, none => none
  match special with
  | some v => v
  | none =>
    if field = 0 then .fin s m 1 (1 - (f.bias : Int) - f.mant)
    else .fin s (m + 2 ^ f.mant) 1 ((field : Int) - f.bias - f.mant)

/-- The magnitude code that a finite magnitude rounds to, counted on beyond the largest finite one (R175, R176). -/
def FloatFmt.magCode (f : FloatFmt) (m d : Nat) (e : Int) : Nat :=
  if m = 0 then 0
  else
    let least : Int := 1 - (f.bias : Int) - f.mant
    let q := max (floorLog m d e - f.mant) least
    roundMag m d (e - q) + (q - least).toNat * 2 ^ f.mant

/-- A magnitude code with its sign. -/
def FloatFmt.sign (f : FloatFmt) (neg : Bool) (mag : Nat) : Nat := mag + b2n neg * 2 ^ (f.width - 1)

/-- IEEE 754 rounding: an overflow gives Infinity (R181). -/
def FloatFmt.ieee (f : FloatFmt) (v : Exact) : Nat :=
  match v with
  | .nan => f.nan.getD 0
  | .inf s => f.sign s (f.inf.getD f.maxFin)
  | .fin s m d e =>
    let c := f.magCode m d e
    f.sign s (if f.maxFin < c then f.inf.getD f.maxFin else c)

/-- A narrowed element and its counts (R176, R179). -/
structure Enc where
  code : Nat
  sat : Nat
  und : Nat
deriving DecidableEq, Repr

/-- A narrowing conversion to a float format (R179). -/
def FloatFmt.narrow (f : FloatFmt) (v : Exact) : Enc :=
  match v with
  | .nan => ⟨f.nan.getD 0, 0, 0⟩
  | .inf s => match f.inf with
    | some i => ⟨f.sign s i, 0, 0⟩
    | none => ⟨f.sign s f.maxFin, 1, 0⟩
  | .fin s m d e =>
    let c := f.magCode m d e
    if f.maxFin < c then ⟨f.sign s f.maxFin, 1, 0⟩ else ⟨f.sign s c, 0, b2n (decide (c = 0 ∧ m ≠ 0))⟩

/-- A narrowing conversion to a two's complement format of `w` bits, with a zero point (R179, R201). -/
def narrowInt (w : Nat) (v : Exact) (zp : Int := 0) : Enc :=
  let lo : Int := -(2 ^ (w - 1))
  let hi : Int := 2 ^ (w - 1) - 1
  match v with
  | .nan => ⟨0, 1, 0⟩
  | .inf s => ⟨pattern w (if s then lo else hi), 1, 0⟩
  | .fin s m d e =>
    let r : Int := roundMag m d e
    let c := (if s then -r else r) + zp
    ⟨pattern w (clampI lo hi c), b2n (decide (c < lo ∨ hi < c)), b2n (decide (r = 0 ∧ m ≠ 0))⟩

/-- A binary32 pattern as a value. -/
def num32 (n : Nat) : Exact := fp32.decode n

/-- fp32_ne: a value rounded once to binary32. -/
def Exact.rn (v : Exact) : Exact := num32 (fp32.ieee v)

/-- The integer square root, bit by bit. -/
def isqrt (n bits : Nat) : Nat :=
  (List.range bits).foldl (fun r i => let c := r + 2 ^ (bits - 1 - i); if c * c ≤ n then c else r) 0

/-- sqrt_ne: the correctly rounded square root of a binary32 value (R208). -/
def Exact.sqrt (v : Exact) : Exact :=
  match v with
  | .nan => .nan
  | .inf s => if s then .nan else .inf false
  | .fin s m d e =>
    if m = 0 then .zero s
    else if s then .nan
    else
      let even := e % 2 = 0
      let n := (if even then m else 2 * m) * 2 ^ 56 / d
      let k := (if even then e else e - 1) - 56
      let r := isqrt n 48
      (Exact.fin false (2 * r + b2n (decide (r * r ≠ n))) 1 (k / 2 - 1)).rn

/-! ## Format codes (R170) -/

/-- Codes of the Microscaling formats. -/
def isMx (fmt : Nat) : Bool := decide (6 ≤ fmt ∧ fmt ≤ 9)

/-- Whether a code names a format. -/
def isFormat (fmt : Nat) : Bool := decide (1 ≤ fmt ∧ fmt ≤ 13)

/-- The float format of the elements of a format code, where it is a float format. -/
def floatOf (fmt : Nat) : Option FloatFmt :=
  if fmt = 1 then some fp32 else if fmt = 2 then some bf16 else if fmt = 3 then some fp16
  else if fmt = 4 ∨ fmt = 6 then some e4m3 else if fmt = 5 ∨ fmt = 7 then some e5m2
  else if fmt = 8 then some e3m2 else if fmt = 9 then some e2m1 else none

/-- Width in bits of an integer format and of EX8 codes. -/
def intWidth (fmt : Nat) : Nat := if fmt = 10 then 16 else if fmt = 12 then 4 else 8

/-- Width in bits of an element. -/
def elemBits (fmt : Nat) : Nat := match floatOf fmt with
  | some f => f.width
  | none => intWidth fmt

/-- The value of an element code, apart from any scale (R177, R178, R186). -/
def elemValue (fmt code : Nat) : Exact :=
  match floatOf fmt with
  | some f => f.decode code
  | none => .ofInt (signed (intWidth fmt) code)

/-- Packing of elements (R173): bits in ascending element order. -/
def packBits (w : Nat) (codes : List Nat) : Nat := codes.foldr (fun c acc => c % 2 ^ w + acc * 2 ^ w) 0

/-- The stored bytes of elements (R173). -/
def packElems (fmt : Nat) (codes : List Nat) : Bytes :=
  let w := elemBits fmt
  leBytes (divUp (codes.length * w) 8) (packBits w codes)

/-- The `n` elements that stored bytes hold (R173). -/
def unpackElems (fmt n : Nat) (bs : Bytes) : List Nat :=
  let w := elemBits fmt
  let v := leNat bs
  (List.range n).map fun i => (v >>> (i * w)) % 2 ^ w

/-! ## Microscaling (R183 to R185) -/

/-- The tag of scale line `n`. -/
def lineTag (n : Nat) : Nat := 63 * n % 256

/-- Scale `j` of a scale line. -/
def lineScale (l : BitVec 512) (j : Nat) : Nat := fld l (8 * j + 15) (8 * j + 8)

/-- The scale line that holds MX block `k` of a row whose lines start with that of block `first`. -/
def OpRow_line (row : OpRow) (k : Nat) : BitVec 512 := row.lines.getD (k / 63 - row.first / 63) 0

/-- The value of an MX element under its block's scale (R183). -/
def mxValue (fmt scale code : Nat) : Exact :=
  if scale = 0xFF then .nan
  else match elemValue fmt code with
    | .fin s m d e => .fin s m d (e + scale - 127)
    | v => v

/-- The exponent of an element format's largest finite value (R185). -/
def emax (fmt : Nat) : Int := if fmt = 6 then 8 else if fmt = 7 then 15 else if fmt = 8 then 4 else 2

/-- Largest magnitude of finite values; zero for none. -/
def amaxOf (xs : List Exact) : Exact := xs.foldl (fun m x => if x.special then m else if magLt m x then x.abs else m) (.zero)

/-- A tensor, block or group as written, with its counts: saturations, underflows, and MX blocks with a special value (R176, R179, R185). -/
structure Written where
  codes : List Nat
  scales : List Nat
  records : List (BitVec 320)
  sat : Nat
  und : Nat
  special : Nat
deriving DecidableEq, Repr

/-- mx_encode of one block (R185). The scale of a block beyond what FP32 holds stops at the largest one, so that its elements saturate (R179; DEDUCED, log entry 61). -/
def mxEncode (fmt : Nat) (xs : List Exact) : Written :=
  if xs.any Exact.special then ⟨xs.map fun _ => 0, [0xFF], [], 0, 0, 1⟩
  else
    match amaxOf xs with
    | .fin _ m d ex =>
      if m = 0 then ⟨xs.map fun _ => 0, [0x7F], [], 0, 0, 0⟩
      else
        let e := clampI (-127) 127 (floorLog m d ex - emax fmt)
        let encs := xs.map fun x => match x, floatOf fmt with
          | .fin s m d k, some f => f.narrow (.fin s m d (k - e))
          | _, _ => ⟨0, 0, 0⟩
        ⟨encs.map Enc.code, [(e + 127).toNat], [], (encs.map Enc.sat).sum, (encs.map Enc.und).sum, 0⟩
    | _ => ⟨xs.map fun _ => 0, [0x7F], [], 0, 0, 0⟩

/-- A list cut into pieces of `k`, the last one padded with `z` (R174). -/
def chunks {α : Type} (k : Nat) (z : α) (xs : List α) : List (List α) :=
  (List.range (divUp xs.length k)).map fun i =>
    let c := (xs.drop (i * k)).take k
    c ++ List.replicate (k - c.length) z

/-- Writings one after the other. -/
def Written.append (a b : Written) : Written :=
  ⟨a.codes ++ b.codes, a.scales ++ b.scales, a.records ++ b.records, a.sat + b.sat, a.und + b.und, a.special + b.special⟩

/-- Nothing written. -/
def Written.empty : Written := ⟨[], [], [], 0, 0, 0⟩

/-- The scale lines of the blocks whose scales are listed, from MX block 0 on (R184). -/
def scaleLines (scales : List Nat) : List (BitVec 512) :=
  (List.range (divUp scales.length 63)).map fun n =>
    BitVec.ofNat 512 ((List.range 63).foldl (fun acc j => acc ||| (scales.getD (63 * n + j) 0x7F) <<< (8 * j + 8)) (lineTag n))

/-! ## EX8 (R186 to R190) -/

def exScale (rec_ : BitVec 320) : Nat := fld rec_ 63 32
def exTag (rec_ : BitVec 320) : Nat := fld rec_ 31 24
def exCount (rec_ : BitVec 320) : Nat := fld rec_ 19 16
def crumbPos (rec_ : BitVec 320) (k : Nat) : Nat := fld rec_ (64 + 32 * k + 30) (64 + 32 * k + 24)
def crumbTag (rec_ : BitVec 320) (k : Nat) : Nat := fld rec_ (64 + 32 * k + 23) (64 + 32 * k + 16)
def crumbVal (rec_ : BitVec 320) (k : Nat) : Nat := fld rec_ (64 + 32 * k + 15) (64 + 32 * k)

/-- The positions of the escape codes of a group. -/
def escapes (codes : List Nat) : List Nat := (List.range codes.length).filter fun i => codes.getD i 0 == 0x80

/-- R189: the first of the conditions 2 to 5 that a group fails. -/
def crumbFailure (g : Nat) (codes : List Nat) (rec_ : BitVec 320) : Option Nat :=
  let n := exCount rec_
  let esc := escapes codes
  let used := List.range n
  if 8 < n then some 2
  else if esc.length ≠ n then some 3
  else if used.any fun k => crumbTag rec_ k != g % 256 then some 4
  else if used.any fun k => crumbPos rec_ k != esc.getD k 128 then some 5
  else none

/-- The values of a group (R186). -/
def groupValues (codes : List Nat) (rec_ : BitVec 320) : List Exact :=
  let scale := num32 (exScale rec_)
  let esc := escapes codes
  (List.range codes.length).map fun i =>
    let c := codes.getD i 0
    if c = 0x80 then fp16.decode (crumbVal rec_ (esc.findIdx fun p => p == i)) else (Exact.ofInt (signed 8 c)).mul scale

/-- An element ranks before another among the escape candidates: non-finite first, then by descending magnitude, then by position (R190). -/
def escBefore (a b : Nat × Exact) : Bool :=
  match a.2.special, b.2.special with
  | true, true => decide (a.1 < b.1)
  | true, false => true
  | false, true => false
  | false, false => if magLt b.2 a.2 then true else if magLt a.2 b.2 then false else decide (a.1 < b.1)

/-- Insertion by rank. -/
def escInsert (x : Nat × Exact) : List (Nat × Exact) → List (Nat × Exact)
  | [] => [x]
  | y :: rest => if escBefore x y then x :: y :: rest else y :: escInsert x rest

/-- ex8_encode of one group (R190). -/
def ex8Encode (scale g : Nat) (xs : List Exact) : Written :=
  let sc := num32 scale
  let qs := xs.map fun x => (x.div sc).round
  let isCand (i : Nat) : Bool := (xs.getD i .nan).special || (match qs.getD i none with
    | some q => decide (127 < q.natAbs)
    | none => true)
  let cand := (List.range xs.length).filter isCand
  let ranked := cand.foldl (fun acc i => escInsert (i, xs.getD i .nan) acc) []
  let chosen := (ranked.take 8).map fun p => p.1
  let esc := cand.filter fun i => chosen.contains i
  let encs := (List.range xs.length).map fun i =>
    let x := xs.getD i .nan
    if esc.contains i then (⟨0x80, 0, 0⟩ : Enc)
    else if cand.contains i then
      ⟨(match x with
        | .nan => 0
        | v => pattern 8 (if v.neg then -127 else 127)), 1, 0⟩
    else
      let q := (qs.getD i none).getD 0
      ⟨pattern 8 q, 0, b2n (decide (q = 0 ∧ !x.isZero))⟩
  let crumbs := esc.map fun i => (i, fp16.narrow (xs.getD i .nan))
  let words := (crumbs.mapIdx fun k c => (c.1 * 2 ^ 24 + g % 256 * 2 ^ 16 + c.2.code) <<< (64 + 32 * k)).sum
  let header := scale * 2 ^ 32 + g % 256 * 2 ^ 24 + esc.length * 2 ^ 16
  ⟨encs.map Enc.code, [], [BitVec.ofNat 320 (header + words)],
   (encs.map Enc.sat).sum + (crumbs.map fun c => c.2.sat).sum, (encs.map Enc.und).sum + (crumbs.map fun c => c.2.und).sum, 0⟩

/-! ## Tags of operand streams (R198) -/

/-- A tag that disagrees: scale skew or crumb skew, the element at which its line or group begins, the line or group, and the two detail bytes. -/
structure Skew where
  crumb : Bool
  element : Nat
  index : Nat
  hi : Nat
  lo : Nat
deriving DecidableEq, Repr

/-- The first line of an MX row whose tag disagrees. -/
def mxSkew (row : OpRow) : Option Skew :=
  let blocks := divUp row.codes.length 32
  let n0 := row.first / 63
  let lines := if blocks = 0 then 0 else (row.first + blocks - 1) / 63 - n0 + 1
  (List.range lines).findSome? fun i =>
    let n := n0 + i
    let found := fld (row.lines.getD i 0) 7 0
    if found = lineTag n then none else some ⟨false, 32 * (63 * n - row.first), n, lineTag n, found⟩

/-- The first group of an EX8 row that is not well-formed; a group that fails both ways is a scale skew. -/
def exSkew (row : OpRow) : Option Skew :=
  let groups := chunks 128 0 row.codes
  (List.range groups.length).findSome? fun i =>
    let g := row.first + i
    let rec_ := row.records.getD i 0
    if exTag rec_ ≠ g % 256 then some ⟨false, 128 * i, g, g % 256, exTag rec_⟩
    else (crumbFailure g (groups.getD i []) rec_).map fun c => ⟨true, 128 * i, g, c, exCount rec_⟩

/-- The first disagreement of a row of a format. -/
def rowSkew (fmt : Nat) (row : OpRow) : Option Skew :=
  if isMx fmt then mxSkew row else if fmt = 13 then exSkew row else none

/-- The earliest disagreement among rows, the first row's among equals. -/
def firstSkew (fmt : Nat) (rows : List OpRow) : Option Skew :=
  rows.foldl (fun best row =>
    match best, rowSkew fmt row with
    | none, x => x
    | some b, none => some b
    | some b, some x => if x.element < b.element then some x else some b) none

/-- The values of a row under its own scales; an outer FP8 scale is not applied (R183, R186). -/
def rowValues (fmt : Nat) (row : OpRow) : List Exact :=
  if isMx fmt then
    row.codes.mapIdx fun i c =>
      let k := row.first + i / 32
      mxValue fmt (lineScale (OpRow_line row k) (k % 63)) c
  else if fmt = 13 then
    ((chunks 128 0 row.codes).mapIdx fun i cs => groupValues cs (row.records.getD i 0)).flatten.take row.codes.length
  else row.codes.map (elemValue fmt)

end Sys2Proof.Machine
end

