-- ==== Sys2Proof/Config.lean ====
section
/-!
DEFINITION. The values that the manual leaves open: constants with no body, so that a statement about one holds for every value of it.
-/

namespace Sys2Proof.Config

/-- Per-module identity values (R111, R139), by dictionary key. -/
opaque moduleValue : Key → Nat

/-- The characters of the module serial number (R139). -/
opaque moduleSerial : Nat → Byte

/-- The numbers by which 0x2010:02 and fault 0x0E05 name a session; the manual gives no coding (R115, R125). -/
opaque sessionCode : Session → Nat

/-- The device nonces of Basaris and of the head challenges: free values, by the number of draws so far (R127, R302). -/
opaque nonce : Nat → Nat

/-- Whether a signature passes that only the group equation times 8 admits; RFC 8032 leaves it to the verifier (R379, R476). -/
opaque verifies : (key message signature : Bytes) → Bool

/-- The flash status that a failed store reports is an input; the identity of the device as a grandmaster is this (R395). -/
opaque clockIdentity : Nat

/-- Any other value on which the manual is silent: by a place number, a draw count and the operands it may depend on. -/
opaque free : (place draw : Nat) → (operands : List Int) → Int

end Sys2Proof.Config
end

