-- ==== Sys2Proof/Machine/Objects.lean ====
section
/-!
DEFINITION. The object tables of the manual (R16 to R20, R106, R502): one row per line of each table, in the files' order, with type, access, default, static range and switch class.
Ranges that depend on other values are checked beside the dictionary server.
-/

namespace Sys2Proof.Machine

/-- Types (R17); u and i carry their width in bits. -/
inductive Ty where
  | bool | u (w : Nat) | i (w : Nat) | real32 | str | domain
deriving DecidableEq, Repr

/-- Access codes (R18). -/
inductive Acc where
  | const | ro | rw | wo | crust
deriving DecidableEq, Repr

/-- Switch classes (R112). -/
inductive Cls where
  | none | instant | drained | restart
deriving DecidableEq, Repr

/-- Static ranges: an interval, an interval in steps from 0, a set, an interval with one more value, DOMAIN lengths with their unit, REAL32 conditions, and 0x81–0xFF with bit 31 free. -/
inductive Rng where
  | any
  | btw (lo hi : Int)
  | step (lo hi m : Int)
  | oneOf (l : List Int)
  | btwOr (lo hi x : Int)
  | zeroOr (lo hi : Int)
  | len (lo hi m : Nat)
  | lenOr0 (lo hi m : Nat)
  | finite
  | finitePos
  | cob
deriving DecidableEq, Repr

/-- A row of an object table: indices, sub-indices, type, access, default, range, switch class. -/
structure Row where
  ilo : Nat
  ihi : Nat
  slo : Nat
  shi : Nat
  ty : Ty
  acc : Acc
  dflt : Val
  rng : Rng
  cls : Cls
deriving DecidableEq, Repr

/-- Objects of spec/01_device_organisation.md (R42). -/
def objs01 : List Row :=
  [⟨0x5810, 0x5810, 0x00, 0x00, .u 8, .const, .int 10, .any, .none⟩,
   ⟨0x5810, 0x5810, 0x01, 0x01, .u 16, .const, .int 4096, .any, .none⟩,
   ⟨0x5810, 0x5810, 0x02, 0x02, .u 32, .ro, .int 0, .any, .none⟩,
   ⟨0x5810, 0x5810, 0x03, 0x03, .u 32, .ro, .int 0, .any, .none⟩,
   ⟨0x5810, 0x5810, 0x04, 0x04, .u 32, .ro, .int 0, .any, .none⟩,
   ⟨0x5810, 0x5810, 0x05, 0x05, .domain, .ro, .bytes [], .any, .none⟩,
   ⟨0x5810, 0x5810, 0x06, 0x06, .u 32, .rw, .int 0, .btw 0 4294967295, .instant⟩,
   ⟨0x5810, 0x5810, 0x07, 0x07, .u 8, .rw, .int 1, .btw 0 3, .instant⟩,
   ⟨0x5810, 0x5810, 0x08, 0x08, .u 32, .rw, .int 1000, .btw 0 1000000, .instant⟩,
   ⟨0x5810, 0x5810, 0x09, 0x09, .u 32, .wo, .int 0, .btw 0 4294967295, .instant⟩,
   ⟨0x5810, 0x5810, 0x0A, 0x0A, .u 32, .ro, .int 0, .any, .none⟩]

/-- Objects of spec/02_weave_handshake_timing.md (R77). -/
def objs02 : List Row :=
  [⟨0x3010, 0x3010, 0x00, 0x00, .u 8, .const, .int 198, .any, .none⟩,
   ⟨0x3010, 0x3010, 0x01, 0x01, .u 16, .const, .int 10000, .any, .none⟩,
   ⟨0x3010, 0x3010, 0x02, 0x02, .u 16, .const, .int 11500, .any, .none⟩,
   ⟨0x3010, 0x3010, 0x03, 0x03, .u 16, .const, .int 10800, .any, .none⟩,
   ⟨0x3010, 0x3010, 0x04, 0x04, .u 32, .rw, .int 10000, .step 1000 100000 4, .instant⟩,
   ⟨0x3010, 0x3010, 0x05, 0x05, .u 32, .rw, .int 100, .btw 10 10000, .instant⟩,
   ⟨0x3010, 0x3010, 0x06, 0x06, .u 16, .ro, .int 0, .any, .none⟩,
   ⟨0x3010, 0x3010, 0x07, 0x10, .u 16, .ro, .int 0, .any, .none⟩,
   ⟨0x3010, 0x3010, 0x11, 0x11, .u 32, .rw, .int 100, .btw 10 10000, .instant⟩,
   ⟨0x3010, 0x3010, 0x12, 0x12, .u 32, .ro, .int 0, .any, .none⟩,
   ⟨0x3010, 0x3010, 0x13, 0xC6, .u 16, .ro, .int 0, .any, .none⟩]

/-- Objects of spec/03_determinism_and_weft_count.md (R102). -/
def objs03 : List Row :=
  [⟨0x3C00, 0x3C00, 0x00, 0x00, .u 8, .const, .int 12, .any, .none⟩,
   ⟨0x3C00, 0x3C00, 0x01, 0x01, .u 8, .rw, .int 0, .btw 0 1, .restart⟩,
   ⟨0x3C00, 0x3C00, 0x02, 0x02, .u 16, .const, .int 800, .any, .none⟩,
   ⟨0x3C00, 0x3C00, 0x03, 0x03, .u 32, .rw, .int 10000, .step 1000 1000000 1000, .restart⟩,
   ⟨0x3C00, 0x3C00, 0x04, 0x04, .u 64, .rw, .int 0, .step 0 18446744073709551615 1000, .instant⟩,
   ⟨0x3C00, 0x3C00, 0x05, 0x05, .u 8, .ro, .int 0, .any, .none⟩,
   ⟨0x3C00, 0x3C00, 0x06, 0x06, .u 32, .rw, .int 200, .btw 20 10000, .instant⟩,
   ⟨0x3C00, 0x3C00, 0x07, 0x07, .u 32, .rw, .int 50, .btw 10 10000, .instant⟩,
   ⟨0x3C00, 0x3C00, 0x08, 0x08, .u 64, .ro, .int 0, .any, .none⟩,
   ⟨0x3C00, 0x3C00, 0x09, 0x09, .domain, .ro, .bytes [], .any, .none⟩,
   ⟨0x3C00, 0x3C00, 0x0A, 0x0A, .domain, .ro, .bytes [], .any, .none⟩,
   ⟨0x3C00, 0x3C00, 0x0B, 0x0B, .domain, .ro, .bytes [], .any, .none⟩,
   ⟨0x3C00, 0x3C00, 0x0C, 0x0C, .u 8, .rw, .int 0, .btw 0 3, .restart⟩,
   ⟨0x3C10, 0x3C10, 0x00, 0x00, .u 8, .const, .int 16, .any, .none⟩,
   ⟨0x3C10, 0x3C10, 0x01, 0x10, .domain, .wo, .bytes (List.replicate 16 0), .len 16 16 1, .drained⟩]

/-- Objects of spec/04_object_dictionary_and_commit.md (R111, R125, R139). -/
def objs04 : List Row :=
  [⟨0x1000, 0x1000, 0x00, 0x00, .u 32, .const, .int 0, .any, .none⟩,
   ⟨0x1001, 0x1001, 0x00, 0x00, .u 8, .ro, .int 0, .any, .none⟩,
   ⟨0x1008, 0x1008, 0x00, 0x00, .str, .const, .bytes (ascii "DY960"), .any, .none⟩,
   ⟨0x1010, 0x1010, 0x01, 0x01, .u 32, .rw, .int 1, .oneOf [0x65766173], .instant⟩,
   ⟨0x1011, 0x1011, 0x01, 0x01, .u 32, .rw, .int 1, .oneOf [0x64616F6C], .instant⟩,
   ⟨0x1014, 0x1014, 0x00, 0x00, .u 32, .rw, .int 0, .cob, .instant⟩,
   ⟨0x1015, 0x1015, 0x00, 0x00, .u 16, .rw, .int 10, .btw 0 10000, .instant⟩,
   ⟨0x1017, 0x1017, 0x00, 0x00, .u 16, .rw, .int 100, .btw 0 10000, .instant⟩,
   ⟨0x1018, 0x1018, 0x01, 0x01, .u 32, .const, .int 1185, .any, .none⟩,
   ⟨0x1018, 0x1018, 0x02, 0x02, .u 32, .const, .int 2400, .any, .none⟩,
   ⟨0x1018, 0x1018, 0x03, 0x03, .u 32, .const, .int 0, .any, .none⟩,
   ⟨0x1018, 0x1018, 0x04, 0x04, .u 32, .const, .int 0, .any, .none⟩,
   ⟨0x1200, 0x1200, 0x01, 0x02, .u 32, .ro, .int 0, .any, .none⟩,
   ⟨0x2010, 0x2010, 0x00, 0x00, .u 8, .const, .int 15, .any, .none⟩,
   ⟨0x2010, 0x2010, 0x01, 0x01, .u 8, .wo, .int 0, .btw 1 3, .instant⟩,
   ⟨0x2010, 0x2010, 0x02, 0x02, .u 32, .ro, .int 0, .any, .none⟩,
   ⟨0x2010, 0x2010, 0x03, 0x03, .u 64, .rw, .int 0, .btw 0 18446744073709551615, .instant⟩,
   ⟨0x2010, 0x2010, 0x04, 0x04, .u 32, .rw, .int 100, .btw 10 10000, .instant⟩,
   ⟨0x2010, 0x2010, 0x05, 0x05, .u 8, .ro, .int 0, .any, .none⟩,
   ⟨0x2010, 0x2010, 0x06, 0x06, .u 16, .ro, .int 0, .any, .none⟩,
   ⟨0x2010, 0x2010, 0x07, 0x07, .u 32, .ro, .int 0, .any, .none⟩,
   ⟨0x2010, 0x2010, 0x08, 0x08, .u 64, .ro, .int 0, .any, .none⟩,
   ⟨0x2010, 0x2010, 0x09, 0x09, .u 32, .ro, .int 0, .any, .none⟩,
   ⟨0x2010, 0x2010, 0x0A, 0x0A, .u 32, .ro, .int 0, .any, .none⟩,
   ⟨0x2010, 0x2010, 0x0B, 0x0B, .u 32, .ro, .int 0, .any, .none⟩,
   ⟨0x2010, 0x2010, 0x0C, 0x0C, .u 16, .ro, .int 0, .any, .none⟩,
   ⟨0x2010, 0x2010, 0x0D, 0x0D, .u 16, .rw, .int 10, .btw 1 600, .instant⟩,
   ⟨0x2010, 0x2010, 0x0E, 0x0E, .u 16, .ro, .int 0, .any, .none⟩,
   ⟨0x2010, 0x2010, 0x0F, 0x0F, .u 32, .ro, .int 0, .any, .none⟩,
   ⟨0x2000, 0x2000, 0x00, 0x00, .u 8, .const, .int 6, .any, .none⟩,
   ⟨0x2000, 0x2000, 0x01, 0x01, .str, .const, .bytes (ascii "Tuitrarax DY960"), .any, .none⟩,
   ⟨0x2000, 0x2000, 0x02, 0x02, .str, .const, .int 0, .any, .none⟩,
   ⟨0x2000, 0x2000, 0x03, 0x03, .u 16, .const, .int 0, .any, .none⟩,
   ⟨0x2000, 0x2000, 0x04, 0x04, .u 16, .const, .int 0, .any, .none⟩,
   ⟨0x2000, 0x2000, 0x05, 0x05, .u 32, .ro, .int 0, .any, .none⟩,
   ⟨0x2000, 0x2000, 0x06, 0x06, .u 16, .const, .int 256, .any, .none⟩,
   ⟨0x2020, 0x2020, 0x00, 0x00, .u 8, .const, .int 10, .any, .none⟩,
   ⟨0x2020, 0x2020, 0x01, 0x01, .bool, .rw, .int 1, .btw 0 1, .instant⟩,
   ⟨0x2020, 0x2020, 0x02, 0x02, .u 16, .rw, .int 47600, .btw 1024 65535, .instant⟩,
   ⟨0x2020, 0x2020, 0x03, 0x03, .u 8, .rw, .int 8, .btw 1 8, .instant⟩]

/-- Objects of spec/04_object_dictionary_and_commit.md (R139). -/
def objs04b : List Row :=
  [⟨0x2020, 0x2020, 0x04, 0x04, .domain, .wo, .bytes (List.replicate 32 0), .len 32 32 1, .instant⟩,
   ⟨0x2020, 0x2020, 0x05, 0x05, .u 16, .rw, .int 30, .btw 5 600, .instant⟩,
   ⟨0x2020, 0x2020, 0x06, 0x06, .u 8, .ro, .int 0, .any, .none⟩,
   ⟨0x2020, 0x2020, 0x07, 0x07, .u 32, .ro, .int 0, .any, .none⟩,
   ⟨0x2020, 0x2020, 0x08, 0x08, .bool, .rw, .int 1, .btw 0 1, .instant⟩,
   ⟨0x2020, 0x2020, 0x09, 0x09, .u 32, .ro, .int 0, .any, .none⟩,
   ⟨0x2020, 0x2020, 0x0A, 0x0A, .u 32, .ro, .int 0, .any, .none⟩]

/-- Objects of spec/05_tensor_blocks_and_scratchpads.md (R168). -/
def objs05 : List Row :=
  [⟨0x3000, 0x3000, 0x00, 0x00, .u 8, .const, .int 10, .any, .none⟩,
   ⟨0x3000, 0x3000, 0x01, 0x0A, .u 8, .ro, .int 0, .any, .none⟩,
   ⟨0x3020, 0x3020, 0x00, 0x00, .u 8, .const, .int 180, .any, .none⟩,
   ⟨0x3020, 0x3020, 0x01, 0xB4, .u 8, .ro, .int 0, .any, .none⟩,
   ⟨0x3021, 0x3021, 0x00, 0x00, .u 8, .const, .int 180, .any, .none⟩,
   ⟨0x3021, 0x3021, 0x01, 0xB4, .u 8, .ro, .int 255, .any, .none⟩,
   ⟨0x3030, 0x3030, 0x00, 0x00, .u 8, .const, .int 180, .any, .none⟩,
   ⟨0x3030, 0x3030, 0x01, 0xB4, .u 8, .ro, .int 255, .any, .none⟩,
   ⟨0x3040, 0x3040, 0x00, 0x00, .u 8, .const, .int 3, .any, .none⟩,
   ⟨0x3040, 0x3040, 0x01, 0x01, .u 32, .rw, .int 1000, .btw 100 60000, .instant⟩,
   ⟨0x3040, 0x3040, 0x02, 0x02, .u 32, .ro, .int 0, .any, .none⟩,
   ⟨0x3040, 0x3040, 0x03, 0x03, .u 32, .ro, .int 0, .any, .none⟩,
   ⟨0x3200, 0x3200, 0x00, 0x00, .u 8, .const, .int 10, .any, .none⟩,
   ⟨0x3200, 0x3200, 0x01, 0x01, .bool, .rw, .int 0, .btw 0 1, .restart⟩,
   ⟨0x3200, 0x3200, 0x02, 0x02, .u 8, .rw, .int 8, .btw 1 255, .instant⟩,
   ⟨0x3200, 0x3200, 0x03, 0x03, .u 16, .rw, .int 24, .btw 1 720, .instant⟩,
   ⟨0x3200, 0x3200, 0x04, 0x04, .bool, .rw, .int 1, .btw 0 1, .instant⟩,
   ⟨0x3200, 0x3200, 0x05, 0x05, .u 32, .wo, .int 0, .any, .instant⟩,
   ⟨0x3200, 0x3200, 0x06, 0x06, .u 16, .ro, .int 0, .any, .none⟩,
   ⟨0x3200, 0x3200, 0x07, 0x07, .u 16, .ro, .int 0, .any, .none⟩,
   ⟨0x3200, 0x3200, 0x08, 0x08, .u 8, .ro, .int 0, .any, .none⟩,
   ⟨0x3200, 0x3200, 0x09, 0x09, .u 32, .ro, .int 0, .any, .none⟩,
   ⟨0x3200, 0x3200, 0x0A, 0x0A, .u 32, .ro, .int 0, .any, .none⟩,
   ⟨0x3210, 0x3210, 0x00, 0x00, .u 8, .const, .int 1, .any, .none⟩,
   ⟨0x3210, 0x3210, 0x01, 0x01, .domain, .ro, .bytes [], .any, .none⟩]

/-- Objects of spec/07_scaling_and_narrow_training.md (R210). -/
def objs07 : List Row :=
  [⟨0x3400, 0x3400, 0x00, 0x00, .u 8, .const, .int 12, .any, .none⟩,
   ⟨0x3400, 0x3400, 0x01, 0x01, .u 32, .rw, .int 4096, .btw 16 1048576, .drained⟩,
   ⟨0x3400, 0x3400, 0x02, 0x02, .bool, .rw, .int 1, .btw 0 1, .drained⟩,
   ⟨0x3400, 0x3400, 0x03, 0x03, .u 32, .rw, .int 256, .btw 2 1048576, .drained⟩,
   ⟨0x3400, 0x3400, 0x04, 0x04, .u 8, .const, .int 16, .any, .none⟩,
   ⟨0x3400, 0x3400, 0x05, 0x05, .u 8, .rw, .int 0, .btw 0 1, .drained⟩,
   ⟨0x3400, 0x3400, 0x06, 0x06, .i 8, .rw, .int 0, .btw (-8) 8, .drained⟩,
   ⟨0x3400, 0x3400, 0x07, 0x07, .u 32, .ro, .int 0, .any, .none⟩,
   ⟨0x3400, 0x3400, 0x08, 0x08, .u 32, .ro, .int 0, .any, .none⟩,
   ⟨0x3400, 0x3400, 0x09, 0x09, .u 32, .ro, .int 0, .any, .none⟩,
   ⟨0x3400, 0x3400, 0x0A, 0x0A, .u 64, .ro, .int 0, .any, .none⟩,
   ⟨0x3400, 0x3400, 0x0B, 0x0B, .u 32, .ro, .int 0, .any, .none⟩,
   ⟨0x3400, 0x3400, 0x0C, 0x0C, .u 32, .ro, .int 0, .any, .none⟩,
   ⟨0x3410, 0x3410, 0x00, 0x00, .u 8, .const, .int 16, .any, .none⟩,
   ⟨0x3410, 0x3410, 0x01, 0x10, .domain, .rw, .bytes [], .lenOr0 24 524304 1, .drained⟩]

/-- Objects of spec/08_window_engine.md (R233). -/
def objs08 : List Row :=
  [⟨0x3600, 0x3600, 0x00, 0x00, .u 8, .const, .int 10, .any, .none⟩,
   ⟨0x3600, 0x3600, 0x01, 0x01, .u 32, .const, .int 65536, .any, .none⟩,
   ⟨0x3600, 0x3600, 0x02, 0x02, .u 16, .const, .int 2048, .any, .none⟩,
   ⟨0x3600, 0x3600, 0x03, 0x03, .u 32, .rw, .int 2000, .btw 100 100000, .drained⟩,
   ⟨0x3600, 0x3600, 0x04, 0x04, .u 32, .ro, .int 0, .any, .none⟩,
   ⟨0x3600, 0x3600, 0x05, 0x05, .u 32, .ro, .int 0, .any, .none⟩,
   ⟨0x3600, 0x3600, 0x06, 0x06, .u 32, .ro, .int 0, .any, .none⟩,
   ⟨0x3600, 0x3600, 0x07, 0x07, .u 32, .ro, .int 0, .any, .none⟩,
   ⟨0x3600, 0x3600, 0x08, 0x08, .u 16, .ro, .int 0, .any, .none⟩,
   ⟨0x3600, 0x3600, 0x09, 0x09, .u 32, .ro, .int 0, .any, .none⟩,
   ⟨0x3600, 0x3600, 0x0A, 0x0A, .u 32, .ro, .int 0, .any, .none⟩]

/-- Objects of spec/09_detection_post_processing.md (R245). -/
def objs09 : List Row :=
  [⟨0x3700, 0x3700, 0x00, 0x00, .u 8, .const, .int 7, .any, .none⟩,
   ⟨0x3700, 0x3700, 0x01, 0x01, .u 32, .rw, .int 10, .btw 3 1000, .drained⟩,
   ⟨0x3700, 0x3700, 0x02, 0x02, .u 32, .ro, .int 0, .any, .none⟩,
   ⟨0x3700, 0x3700, 0x03, 0x03, .u 32, .ro, .int 0, .any, .none⟩,
   ⟨0x3700, 0x3700, 0x04, 0x04, .u 32, .ro, .int 0, .any, .none⟩,
   ⟨0x3700, 0x3700, 0x05, 0x05, .u 32, .ro, .int 0, .any, .none⟩,
   ⟨0x3700, 0x3700, 0x06, 0x06, .u 32, .ro, .int 0, .any, .none⟩,
   ⟨0x3700, 0x3700, 0x07, 0x07, .u 32, .ro, .int 0, .any, .none⟩]

/-- Objects of spec/10_attention_and_kv_pages.md (R265). -/
def objs10 : List Row :=
  [⟨0x3800, 0x3800, 0x00, 0x00, .u 8, .const, .int 10, .any, .none⟩,
   ⟨0x3800, 0x3800, 0x01, 0x01, .u 32, .const, .int 1048576, .any, .none⟩,
   ⟨0x3800, 0x3800, 0x02, 0x02, .u 32, .const, .int 262144, .any, .none⟩,
   ⟨0x3800, 0x3800, 0x03, 0x03, .u 32, .ro, .int 0, .any, .none⟩,
   ⟨0x3800, 0x3800, 0x04, 0x04, .u 32, .ro, .int 0, .any, .none⟩,
   ⟨0x3800, 0x3800, 0x05, 0x05, .u 32, .ro, .int 0, .any, .none⟩,
   ⟨0x3800, 0x3800, 0x06, 0x06, .u 32, .ro, .int 0, .any, .none⟩,
   ⟨0x3800, 0x3800, 0x07, 0x07, .u 32, .ro, .int 0, .any, .none⟩,
   ⟨0x3800, 0x3800, 0x08, 0x08, .u 32, .ro, .int 0, .any, .none⟩,
   ⟨0x3800, 0x3800, 0x09, 0x09, .u 32, .ro, .int 0, .any, .none⟩,
   ⟨0x3800, 0x3800, 0x0A, 0x0A, .u 16, .ro, .int 0, .any, .none⟩,
   ⟨0x3810, 0x3813, 0x00, 0x00, .u 8, .const, .int 7, .any, .none⟩,
   ⟨0x3810, 0x3813, 0x01, 0x01, .bool, .rw, .int 1, .btw 0 1, .restart⟩,
   ⟨0x3810, 0x3813, 0x02, 0x02, .u 8, .rw, .int 2, .btw 1 3, .restart⟩,
   ⟨0x3810, 0x3813, 0x03, 0x03, .u 8, .rw, .int 0, .btw 0 9, .restart⟩,
   ⟨0x3810, 0x3813, 0x04, 0x04, .u 32, .rw, .int 16384, .step 64 65536 64, .restart⟩,
   ⟨0x3810, 0x3813, 0x05, 0x05, .u 16, .rw, .int 512, .step 64 1024 64, .restart⟩,
   ⟨0x3810, 0x3813, 0x06, 0x06, .u 8, .rw, .int 4, .oneOf [0x02, 0x04], .restart⟩,
   ⟨0x3810, 0x3813, 0x07, 0x07, .u 32, .ro, .int 131072, .any, .none⟩]

/-- Objects of spec/11_camera_inputs_and_isp.md (R298). -/
def objs11 : List Row :=
  [⟨0x2800, 0x2800, 0x00, 0x00, .u 8, .const, .int 6, .any, .none⟩,
   ⟨0x2800, 0x2800, 0x01, 0x01, .u 8, .const, .int 24, .any, .none⟩,
   ⟨0x2800, 0x2800, 0x02, 0x02, .u 8, .const, .int 32, .any, .none⟩,
   ⟨0x2800, 0x2800, 0x03, 0x03, .u 8, .const, .int 8, .any, .none⟩,
   ⟨0x2800, 0x2800, 0x04, 0x04, .u 16, .const, .int 48000, .any, .none⟩,
   ⟨0x2800, 0x2800, 0x05, 0x05, .u 16, .ro, .int 0, .any, .none⟩,
   ⟨0x2800, 0x2800, 0x06, 0x06, .u 16, .const, .int 1024, .any, .none⟩,
   ⟨0x2801, 0x2801, 0x01, 0x01, .domain, .wo, .bytes [], .len 10 10 1, .instant⟩,
   ⟨0x2801, 0x2801, 0x02, 0x02, .domain, .ro, .bytes [], .any, .none⟩,
   ⟨0x2810, 0x2827, 0x00, 0x00, .u 8, .const, .int 21, .any, .none⟩,
   ⟨0x2810, 0x2827, 0x01, 0x01, .u 8, .rw, .int 0, .btw 0 2, .restart⟩,
   ⟨0x2810, 0x2827, 0x02, 0x02, .u 8, .rw, .int 0, .btw 0 31, .restart⟩,
   ⟨0x2810, 0x2827, 0x03, 0x03, .u 8, .rw, .int 1, .btw 0 4, .restart⟩,
   ⟨0x2810, 0x2827, 0x04, 0x04, .u 8, .rw, .int 0, .btw 0 1, .restart⟩,
   ⟨0x2810, 0x2827, 0x05, 0x05, .u 16, .rw, .int 8192, .btw 16 32768, .restart⟩,
   ⟨0x2810, 0x2827, 0x06, 0x06, .u 16, .rw, .int 0, .btw 0 8192, .restart⟩,
   ⟨0x2810, 0x2827, 0x07, 0x07, .u 8, .rw, .int 8, .oneOf [8, 10, 12, 14, 16], .restart⟩,
   ⟨0x2810, 0x2827, 0x08, 0x08, .u 8, .rw, .int 1, .oneOf [1, 3], .restart⟩,
   ⟨0x2810, 0x2827, 0x09, 0x09, .u 8, .rw, .int 1, .btw 1 4, .restart⟩,
   ⟨0x2810, 0x2827, 0x0A, 0x0A, .u 16, .rw, .int 1000, .btw 1 4200, .restart⟩,
   ⟨0x2810, 0x2827, 0x0B, 0x0B, .u 8, .rw, .int 0, .btw 0 63, .restart⟩,
   ⟨0x2810, 0x2827, 0x0C, 0x0C, .u 8, .rw, .int 0, .btw 0 2, .restart⟩,
   ⟨0x2810, 0x2827, 0x0D, 0x0D, .u 8, .rw, .int 0, .btw 0 31, .restart⟩,
   ⟨0x2810, 0x2827, 0x0E, 0x0E, .u 8, .rw, .int 0, .btw 0 1, .restart⟩,
   ⟨0x2810, 0x2827, 0x0F, 0x0F, .u 32, .rw, .int 1000, .btw 200 4294967295, .instant⟩,
   ⟨0x2810, 0x2827, 0x10, 0x10, .u 32, .rw, .int 2000, .btw 0 10000000, .instant⟩,
   ⟨0x2810, 0x2827, 0x11, 0x11, .u 32, .rw, .int 1000000, .btw 0 1000000000, .instant⟩,
   ⟨0x2810, 0x2827, 0x12, 0x12, .u 32, .rw, .int 10000, .btw 1000 100000000, .restart⟩,
   ⟨0x2810, 0x2827, 0x13, 0x13, .u 32, .rw, .int 2000, .btw 0 10000000, .instant⟩,
   ⟨0x2810, 0x2827, 0x14, 0x14, .u 16, .rw, .int 8, .btw 0 1024, .instant⟩,
   ⟨0x2810, 0x2827, 0x15, 0x15, .domain, .rw, .bytes [], .len 0 256 8, .instant⟩,
   ⟨0x2880, 0x2897, 0x00, 0x00, .u 8, .const, .int 10, .any, .none⟩,
   ⟨0x2880, 0x2897, 0x01, 0x01, .u 8, .ro, .int 0, .any, .none⟩,
   ⟨0x2880, 0x2897, 0x02, 0x02, .u 16, .ro, .int 0, .any, .none⟩,
   ⟨0x2880, 0x2897, 0x03, 0x03, .u 16, .ro, .int 0, .any, .none⟩,
   ⟨0x2880, 0x2897, 0x04, 0x04, .u 64, .ro, .int 0, .any, .none⟩,
   ⟨0x2880, 0x2897, 0x05, 0x05, .u 64, .ro, .int 0, .any, .none⟩,
   ⟨0x2880, 0x2897, 0x06, 0x06, .u 32, .ro, .int 0, .any, .none⟩,
   ⟨0x2880, 0x2897, 0x07, 0x07, .u 32, .ro, .int 0, .any, .none⟩,
   ⟨0x2880, 0x2897, 0x08, 0x08, .u 16, .ro, .int 0, .any, .none⟩]

/-- Objects of spec/11_camera_inputs_and_isp.md (R298). -/
def objs11b : List Row :=
  [⟨0x2880, 0x2897, 0x09, 0x09, .u 64, .ro, .int 0, .any, .none⟩,
   ⟨0x2880, 0x2897, 0x0A, 0x0A, .u 32, .ro, .int 0, .any, .none⟩,
   ⟨0x2A10, 0x2A27, 0x00, 0x00, .u 8, .const, .int 16, .any, .none⟩,
   ⟨0x2A10, 0x2A27, 0x01, 0x01, .domain, .rw, .bytes [], .len 0 128 1, .drained⟩,
   ⟨0x2A10, 0x2A27, 0x02, 0x02, .domain, .rw, .bytes [], .len 0 16384 4, .drained⟩,
   ⟨0x2A10, 0x2A27, 0x03, 0x03, .u 16, .rw, .int 0, .btw 0 65535, .drained⟩,
   ⟨0x2A10, 0x2A27, 0x04, 0x04, .u 8, .rw, .int 0, .btw 0 2, .drained⟩,
   ⟨0x2A10, 0x2A27, 0x05, 0x05, .domain, .rw, .bytes [], .len 0 786432 1, .drained⟩,
   ⟨0x2A10, 0x2A27, 0x06, 0x06, .u 8, .rw, .int 0, .btw 0 5, .restart⟩,
   ⟨0x2A10, 0x2A27, 0x07, 0x07, .u 8, .rw, .int 0, .btw 0 15, .restart⟩,
   ⟨0x2A10, 0x2A27, 0x08, 0x08, .domain, .rw, .int 0, .len 80 80 1, .drained⟩,
   ⟨0x2A10, 0x2A27, 0x09, 0x09, .u 8, .rw, .int 1, .btw 1 4, .restart⟩,
   ⟨0x2A10, 0x2A27, 0x0A, 0x0A, .u 8, .rw, .int 11, .oneOf [0x02, 0x03, 0x0A, 0x0B], .restart⟩,
   ⟨0x2A10, 0x2A27, 0x0B, 0x0B, .real32, .rw, .int 0x3F800000, .finitePos, .drained⟩,
   ⟨0x2A10, 0x2A27, 0x0C, 0x0C, .u 8, .rw, .int 1, .btw 0 3, .drained⟩,
   ⟨0x2A10, 0x2A27, 0x0D, 0x0D, .real32, .rw, .int 0x43800000, .finitePos, .drained⟩,
   ⟨0x2A10, 0x2A27, 0x0E, 0x0E, .domain, .rw, .bytes [], .len 0 32 1, .drained⟩,
   ⟨0x2A10, 0x2A27, 0x0F, 0x0F, .u 64, .rw, .int 0, .any, .drained⟩,
   ⟨0x2A10, 0x2A27, 0x10, 0x10, .u 16, .rw, .int 64, .btw 16 4096, .drained⟩]

/-- Objects of spec/12_illumination_heads.md (R310). -/
def objs12 : List Row :=
  [⟨0x2C00, 0x2C00, 0x00, 0x00, .u 8, .const, .int 5, .any, .none⟩,
   ⟨0x2C00, 0x2C00, 0x01, 0x01, .u 8, .const, .int 12, .any, .none⟩,
   ⟨0x2C00, 0x2C00, 0x02, 0x02, .domain, .wo, .bytes (List.replicate 32 0), .len 32 32 1, .instant⟩,
   ⟨0x2C00, 0x2C00, 0x03, 0x03, .u 16, .rw, .int 24, .btw 1 720, .instant⟩,
   ⟨0x2C00, 0x2C00, 0x04, 0x04, .u 32, .rw, .int 500, .btw 100 10000, .instant⟩,
   ⟨0x2C00, 0x2C00, 0x05, 0x05, .u 16, .rw, .int 200, .btw 10 500, .instant⟩,
   ⟨0x2C10, 0x2C1B, 0x00, 0x00, .u 8, .const, .int 10, .any, .none⟩,
   ⟨0x2C10, 0x2C1B, 0x01, 0x01, .bool, .rw, .int 0, .btw 0 1, .restart⟩,
   ⟨0x2C10, 0x2C1B, 0x02, 0x02, .u 32, .rw, .int 0, .btw 0 0xFFFFFF, .restart⟩,
   ⟨0x2C10, 0x2C1B, 0x03, 0x03, .u 8, .rw, .int 0, .btw 0 3, .restart⟩,
   ⟨0x2C10, 0x2C1B, 0x04, 0x04, .u 8, .rw, .int 0, .btw 0 23, .restart⟩,
   ⟨0x2C10, 0x2C1B, 0x05, 0x05, .u 8, .rw, .int 0, .btw 0 7, .restart⟩,
   ⟨0x2C10, 0x2C1B, 0x06, 0x06, .u 32, .rw, .int 500, .btw 100 4294967295, .instant⟩,
   ⟨0x2C10, 0x2C1B, 0x07, 0x07, .real32, .rw, .int 0, .finite, .instant⟩,
   ⟨0x2C10, 0x2C1B, 0x08, 0x08, .u 16, .rw, .int 500, .btw 10 65535, .instant⟩,
   ⟨0x2C10, 0x2C1B, 0x09, 0x09, .bool, .rw, .int 1, .btw 0 1, .instant⟩,
   ⟨0x2C10, 0x2C1B, 0x0A, 0x0A, .u 8, .wo, .int 0, .oneOf [1], .instant⟩,
   ⟨0x2C80, 0x2C8B, 0x00, 0x00, .u 8, .const, .int 8, .any, .none⟩,
   ⟨0x2C80, 0x2C8B, 0x01, 0x01, .u 8, .ro, .int 0, .any, .none⟩,
   ⟨0x2C80, 0x2C8B, 0x02, 0x02, .str, .ro, .bytes [], .any, .none⟩,
   ⟨0x2C80, 0x2C8B, 0x03, 0x03, .u 16, .ro, .int 0, .any, .none⟩,
   ⟨0x2C80, 0x2C8B, 0x04, 0x04, .u 64, .ro, .int 0, .any, .none⟩,
   ⟨0x2C80, 0x2C8B, 0x05, 0x05, .u 64, .ro, .int 0, .any, .none⟩,
   ⟨0x2C80, 0x2C8B, 0x06, 0x06, .u 16, .ro, .int 0, .any, .none⟩,
   ⟨0x2C80, 0x2C8B, 0x07, 0x07, .real32, .ro, .int 0, .any, .none⟩,
   ⟨0x2C80, 0x2C8B, 0x08, 0x08, .bool, .ro, .int 0, .any, .none⟩]

/-- Objects of spec/13_sample_intake.md (R326). -/
def objs13 : List Row :=
  [⟨0x3A00, 0x3A00, 0x00, 0x00, .u 8, .const, .int 6, .any, .none⟩,
   ⟨0x3A00, 0x3A00, 0x01, 0x01, .u 8, .const, .int 8, .any, .none⟩,
   ⟨0x3A00, 0x3A00, 0x02, 0x02, .u 16, .rw, .int 16384, .btw 1 16384, .drained⟩,
   ⟨0x3A00, 0x3A00, 0x03, 0x03, .u 16, .rw, .int 16384, .btw 1 16384, .drained⟩,
   ⟨0x3A00, 0x3A00, 0x04, 0x04, .u 16, .rw, .int 64, .btw 1 2048, .drained⟩,
   ⟨0x3A00, 0x3A00, 0x05, 0x05, .u 16, .rw, .int 1024, .btw 2 65535, .drained⟩,
   ⟨0x3A00, 0x3A00, 0x06, 0x06, .u 16, .const, .int 256, .any, .none⟩,
   ⟨0x3A10, 0x3A17, 0x00, 0x00, .u 8, .const, .int 21, .any, .none⟩,
   ⟨0x3A10, 0x3A17, 0x01, 0x01, .bool, .rw, .int 0, .btw 0 1, .restart⟩,
   ⟨0x3A10, 0x3A17, 0x02, 0x02, .u 8, .rw, .int 3, .btw 2 3, .restart⟩,
   ⟨0x3A10, 0x3A17, 0x03, 0x03, .u 8, .rw, .int 0, .btw 0 2, .restart⟩,
   ⟨0x3A10, 0x3A17, 0x04, 0x04, .u 8, .rw, .int 0, .btw 0 9, .restart⟩,
   ⟨0x3A10, 0x3A17, 0x05, 0x05, .u 64, .rw, .int 0, .any, .restart⟩,
   ⟨0x3A10, 0x3A17, 0x06, 0x06, .u 32, .rw, .int 1024, .btw 16 65536, .restart⟩,
   ⟨0x3A10, 0x3A17, 0x07, 0x07, .u 16, .rw, .int 32, .btw 1 1024, .restart⟩,
   ⟨0x3A10, 0x3A17, 0x08, 0x08, .u 16, .rw, .int 256, .btw 1 16384, .restart⟩,
   ⟨0x3A10, 0x3A17, 0x09, 0x09, .u 16, .rw, .int 256, .btw 1 16384, .restart⟩,
   ⟨0x3A10, 0x3A17, 0x0A, 0x0A, .u 8, .rw, .int 3, .btw 1 4, .restart⟩,
   ⟨0x3A10, 0x3A17, 0x0B, 0x0B, .u 8, .rw, .int 3, .oneOf [0x01, 0x02, 0x03, 0x0A, 0x0B], .restart⟩,
   ⟨0x3A10, 0x3A17, 0x0C, 0x0C, .u 8, .rw, .int 0, .btw 0 1, .restart⟩,
   ⟨0x3A10, 0x3A17, 0x0D, 0x0D, .real32, .rw, .int 0, .finite, .restart⟩,
   ⟨0x3A10, 0x3A17, 0x0E, 0x0E, .u 32, .rw, .int 4096, .btw 16 1000000, .restart⟩,
   ⟨0x3A10, 0x3A17, 0x0F, 0x0F, .bool, .rw, .int 0, .btw 0 1, .restart⟩,
   ⟨0x3A10, 0x3A17, 0x10, 0x10, .u 8, .rw, .int 8, .btw 1 64, .restart⟩,
   ⟨0x3A10, 0x3A17, 0x11, 0x11, .u 32, .rw, .int 20000, .btw 100 1000000, .restart⟩,
   ⟨0x3A10, 0x3A17, 0x12, 0x12, .u 64, .rw, .int 0, .any, .restart⟩,
   ⟨0x3A10, 0x3A17, 0x13, 0x13, .u 16, .rw, .int 4, .btw 2 256, .restart⟩,
   ⟨0x3A10, 0x3A17, 0x14, 0x14, .u 64, .rw, .int 0, .any, .instant⟩,
   ⟨0x3A10, 0x3A17, 0x15, 0x15, .u 8, .wo, .int 0, .oneOf [1], .instant⟩,
   ⟨0x3A80, 0x3A87, 0x00, 0x00, .u 8, .const, .int 7, .any, .none⟩,
   ⟨0x3A80, 0x3A87, 0x01, 0x01, .u 64, .ro, .int 0, .any, .none⟩,
   ⟨0x3A80, 0x3A87, 0x02, 0x02, .u 64, .ro, .int 0, .any, .none⟩,
   ⟨0x3A80, 0x3A87, 0x03, 0x03, .u 64, .ro, .int 0, .any, .none⟩,
   ⟨0x3A80, 0x3A87, 0x04, 0x04, .u 64, .ro, .int 0, .any, .none⟩,
   ⟨0x3A80, 0x3A87, 0x05, 0x05, .u 64, .ro, .int 0, .any, .none⟩,
   ⟨0x3A80, 0x3A87, 0x06, 0x06, .u 64, .ro, .int 0, .any, .none⟩,
   ⟨0x3A80, 0x3A87, 0x07, 0x07, .u 8, .ro, .int 0, .any, .none⟩]

/-- Objects of spec/14_motion_unit_and_field_ports.md (R353). -/
def objs14 : List Row :=
  [⟨0x4000, 0x4000, 0x00, 0x00, .u 8, .const, .int 7, .any, .none⟩,
   ⟨0x4000, 0x4000, 0x01, 0x06, .u 8, .const, .int 16432321632, .any, .none⟩,
   ⟨0x4000, 0x4000, 0x07, 0x07, .u 32, .ro, .int 9480, .any, .none⟩,
   ⟨0x4010, 0x401F, 0x00, 0x00, .u 8, .const, .int 14, .any, .none⟩,
   ⟨0x4010, 0x401F, 0x01, 0x01, .bool, .rw, .int 0, .btw 0 1, .restart⟩,
   ⟨0x4010, 0x401F, 0x02, 0x02, .u 16, .rw, .int 1, .btw 1 1000, .restart⟩,
   ⟨0x4010, 0x401F, 0x03, 0x03, .u 8, .rw, .int 255, .oneOf [0, 1, 2, 3, 0xFF], .restart⟩,
   ⟨0x4010, 0x401F, 0x04, 0x04, .u 32, .rw, .int 50000, .step 1000 1000000 2, .instant⟩,
   ⟨0x4010, 0x401F, 0x05, 0x05, .u 32, .rw, .int 0, .step 0 999998 2, .instant⟩,
   ⟨0x4010, 0x401F, 0x06, 0x06, .u 8, .rw, .int 0, .btw 0 2, .restart⟩,
   ⟨0x4010, 0x401F, 0x07, 0x07, .u 16, .rw, .int 200, .step 0 4000 2, .instant⟩,
   ⟨0x4010, 0x401F, 0x08, 0x08, .u 8, .rw, .int 25, .btw 20 100, .restart⟩,
   ⟨0x4010, 0x401F, 0x09, 0x09, .u 16, .rw, .int 64, .oneOf [16, 32, 64, 128, 256], .restart⟩,
   ⟨0x4010, 0x401F, 0x0A, 0x0A, .u 8, .rw, .int 0, .btw 0 3, .restart⟩,
   ⟨0x4010, 0x401F, 0x0B, 0x0B, .u 16, .rw, .int 100, .btw 50 5000, .restart⟩,
   ⟨0x4010, 0x401F, 0x0C, 0x0C, .u 8, .rw, .int 25, .any, .restart⟩,
   ⟨0x4010, 0x401F, 0x0D, 0x0D, .u 32, .rw, .int 5000, .btw 0 100000, .restart⟩,
   ⟨0x4010, 0x401F, 0x0E, 0x0E, .u 16, .rw, .int 65535, .any, .restart⟩,
   ⟨0x4040, 0x4040, 0x01, 0x20, .u 16, .rw, .int 0, .any, .restart⟩,
   ⟨0x4040, 0x4040, 0x21, 0x21, .u 32, .rw, .int 500, .btw 500 100000, .restart⟩,
   ⟨0x4050, 0x4050, 0x01, 0x20, .u 64, .rw, .int 0, .any, .instant⟩,
   ⟨0x4060, 0x4060, 0x01, 0x10, .u 8, .rw, .int 0, .btw 0 2, .instant⟩,
   ⟨0x4061, 0x4061, 0x01, 0x10, .u 8, .ro, .int 0, .any, .none⟩,
   ⟨0x4070, 0x4070, 0x01, 0x18, .u 16, .rw, .int 1, .btw 1 65535, .restart⟩,
   ⟨0x4071, 0x4071, 0x01, 0x18, .u 32, .rw, .int 2400, .btw 1000 10000000, .instant⟩,
   ⟨0x4080, 0x4080, 0x00, 0x00, .u 8, .const, .int 10, .any, .none⟩,
   ⟨0x4080, 0x4080, 0x01, 0x01, .u 64, .ro, .int 0, .any, .none⟩,
   ⟨0x4080, 0x4080, 0x02, 0x02, .u 32, .ro, .int 0, .any, .none⟩,
   ⟨0x4080, 0x4080, 0x03, 0x03, .u 32, .ro, .int 0, .any, .none⟩,
   ⟨0x4080, 0x4080, 0x04, 0x04, .u 32, .ro, .int 0, .any, .none⟩,
   ⟨0x4080, 0x4080, 0x05, 0x05, .u 64, .ro, .int 0, .any, .none⟩,
   ⟨0x4080, 0x4080, 0x06, 0x06, .u 32, .ro, .int 0, .any, .none⟩,
   ⟨0x4080, 0x4080, 0x07, 0x07, .u 32, .ro, .int 0, .any, .none⟩,
   ⟨0x4080, 0x4080, 0x08, 0x08, .u 32, .ro, .int 0, .any, .none⟩,
   ⟨0x4080, 0x4080, 0x09, 0x09, .u 32, .ro, .int 0, .any, .none⟩,
   ⟨0x4080, 0x4080, 0x0A, 0x0A, .u 32, .ro, .int 0, .any, .none⟩]

/-- Objects of spec/15_crust_safety_partition.md (R382). -/
def objs15 : List Row :=
  [⟨0x4800, 0x4800, 0x01, 0x01, .u 8, .ro, .int 0, .any, .none⟩,
   ⟨0x4800, 0x4800, 0x02, 0x02, .u 16, .ro, .int 0, .any, .none⟩,
   ⟨0x4800, 0x4800, 0x03, 0x03, .u 16, .ro, .int 0, .any, .none⟩,
   ⟨0x4800, 0x4800, 0x04, 0x04, .u 64, .ro, .int 0, .any, .none⟩,
   ⟨0x4800, 0x4800, 0x05, 0x05, .u 8, .ro, .int 1, .any, .none⟩,
   ⟨0x4800, 0x4800, 0x06, 0x06, .u 32, .ro, .int 0, .any, .none⟩,
   ⟨0x4800, 0x4800, 0x07, 0x07, .u 64, .ro, .int 0, .any, .none⟩,
   ⟨0x4800, 0x4800, 0x08, 0x08, .domain, .ro, .bytes [], .any, .none⟩,
   ⟨0x4810, 0x4810, 0x01, 0x01, .domain, .rw, .bytes [], .len 0 262144 1, .instant⟩,
   ⟨0x4810, 0x4810, 0x02, 0x02, .u 64, .rw, .int 0, .step 0 18446744073709551615 1000, .instant⟩,
   ⟨0x4810, 0x4810, 0x03, 0x03, .u 8, .wo, .int 0, .oneOf [1, 3], .instant⟩,
   ⟨0x4810, 0x4810, 0x04, 0x04, .u 8, .ro, .int 0, .any, .none⟩,
   ⟨0x4810, 0x4810, 0x05, 0x05, .u 8, .ro, .int 0, .any, .none⟩,
   ⟨0x4820, 0x482F, 0x01, 0x01, .bool, .crust, .int 0, .btw 0 1, .none⟩,
   ⟨0x4820, 0x482F, 0x02, 0x02, .u 16, .crust, .int 0, .btw 0 65535, .none⟩,
   ⟨0x4820, 0x482F, 0x03, 0x03, .u 16, .crust, .int 0, .btw 0 65535, .none⟩,
   ⟨0x4820, 0x482F, 0x04, 0x04, .u 16, .crust, .int 1, .btw 1 65535, .none⟩,
   ⟨0x4820, 0x482F, 0x05, 0x05, .u 32, .crust, .int 1000, .btw 1000 1000000, .none⟩,
   ⟨0x4820, 0x482F, 0x06, 0x06, .u 32, .crust, .int 1000000, .btw 1000 1000000, .none⟩,
   ⟨0x4820, 0x482F, 0x07, 0x07, .u 16, .crust, .int 200, .btw 0 4000, .none⟩,
   ⟨0x4820, 0x482F, 0x08, 0x08, .u 8, .crust, .int 0, .btw 0 1, .none⟩,
   ⟨0x4820, 0x482F, 0x09, 0x09, .u 32, .crust, .int 1073741823, .btw 1 1073741823, .none⟩,
   ⟨0x4820, 0x482F, 0x0A, 0x0A, .u 8, .crust, .int 16, .oneOf [8, 16, 32], .none⟩,
   ⟨0x4820, 0x482F, 0x0B, 0x0B, .u 16, .crust, .int 64, .btw 0 4096, .none⟩,
   ⟨0x4830, 0x4830, 0x01, 0x01, .u 32, .crust, .int 0, .any, .none⟩,
   ⟨0x4830, 0x4830, 0x02, 0x02, .u 32, .crust, .int 0, .any, .none⟩,
   ⟨0x4830, 0x4830, 0x03, 0x12, .u 8, .crust, .int 0, .any, .none⟩,
   ⟨0x4840, 0x4840, 0x01, 0x01, .u 8, .crust, .int 255, .btwOr 0 31 0xFF, .none⟩,
   ⟨0x4840, 0x4840, 0x02, 0x02, .bool, .ro, .int 0, .any, .none⟩,
   ⟨0x4840, 0x4840, 0x03, 0x03, .u 16, .ro, .int 65535, .any, .none⟩,
   ⟨0x4850, 0x4867, 0x01, 0x01, .u 16, .crust, .int 256, .btw 2 65535, .none⟩,
   ⟨0x4850, 0x4867, 0x02, 0x02, .u 32, .crust, .int 1000, .btw 10 1000000, .none⟩,
   ⟨0x4850, 0x4867, 0x03, 0x03, .u 16, .crust, .int 1024, .btw 1 65535, .none⟩,
   ⟨0x4850, 0x4867, 0x04, 0x04, .u 8, .crust, .int 0, .btw 0 2, .none⟩,
   ⟨0x4850, 0x4867, 0x05, 0x05, .u 16, .crust, .int 0, .any, .none⟩,
   ⟨0x4850, 0x4867, 0x06, 0x06, .u 16, .crust, .int 4, .btw 2 65535, .none⟩,
   ⟨0x4850, 0x4867, 0x07, 0x07, .u 16, .crust, .int 8, .btw 1 65535, .none⟩,
   ⟨0x4870, 0x4870, 0x01, 0x0C, .u 8, .crust, .int 0, .btw 0 2, .none⟩,
   ⟨0x4878, 0x4878, 0x02, 0x02, .u 16, .crust, .int 64, .btw 1 4096, .none⟩,
   ⟨0x4878, 0x4878, 0x03, 0x03, .u 32, .crust, .int 0, .any, .none⟩]

/-- Objects of spec/15_crust_safety_partition.md (R382). -/
def objs15b : List Row :=
  [⟨0x4878, 0x4878, 0x04, 0x04, .u 16, .crust, .int 16, .btw 0 1024, .none⟩,
   ⟨0x4878, 0x4878, 0x05, 0x05, .u 16, .crust, .int 200, .btw 1 200, .none⟩,
   ⟨0x4878, 0x4878, 0x06, 0x06, .u 32, .crust, .int 20000, .btw 1000 1000000, .none⟩,
   ⟨0x4878, 0x4878, 0x07, 0x07, .u 8, .crust, .int 2, .btw 1 16, .none⟩,
   ⟨0x4878, 0x4878, 0x08, 0x08, .u 16, .crust, .int 40, .btw 16 4000, .none⟩,
   ⟨0x4878, 0x4878, 0x09, 0x09, .u 16, .crust, .int 0, .btw 0 1000, .none⟩,
   ⟨0x4879, 0x4879, 0x01, 0x01, .domain, .crust, .int 0, .len 0 65536 1, .none⟩,
   ⟨0x4880, 0x4880, 0x01, 0x01, .u 32, .ro, .int 0, .any, .none⟩,
   ⟨0x4880, 0x4880, 0x02, 0x02, .u 32, .ro, .int 0, .any, .none⟩,
   ⟨0x4880, 0x4880, 0x03, 0x03, .u 32, .ro, .int 0, .any, .none⟩,
   ⟨0x4880, 0x4880, 0x04, 0x04, .u 64, .ro, .int 0, .any, .none⟩,
   ⟨0x4880, 0x4880, 0x05, 0x05, .u 32, .ro, .int 0, .any, .none⟩,
   ⟨0x4880, 0x4880, 0x06, 0x06, .u 32, .ro, .int 0, .any, .none⟩,
   ⟨0x4880, 0x4880, 0x07, 0x07, .u 32, .ro, .int 0, .any, .none⟩,
   ⟨0x4880, 0x4880, 0x08, 0x08, .u 32, .ro, .int 0, .any, .none⟩,
   ⟨0x13FE, 0x13FE, 0x00, 0x00, .u 8, .crust, .int 0, .btw 0 255, .none⟩,
   ⟨0x13FF, 0x13FF, 0x01, 0x08, .u 16, .crust, .int 0, .any, .none⟩]

/-- Objects of spec/16_time_unit_and_ptp.md (R402). -/
def objs16 : List Row :=
  [⟨0x2200, 0x2200, 0x00, 0x00, .u 8, .const, .int 25, .any, .none⟩,
   ⟨0x2200, 0x2200, 0x01, 0x01, .u 8, .const, .int 4, .any, .none⟩,
   ⟨0x2200, 0x2200, 0x02, 0x02, .u 64, .ro, .int 17179869184, .any, .none⟩,
   ⟨0x2200, 0x2200, 0x03, 0x03, .u 64, .const, .int 17179869184, .any, .none⟩,
   ⟨0x2200, 0x2200, 0x04, 0x04, .u 8, .ro, .int 0, .any, .none⟩,
   ⟨0x2200, 0x2200, 0x05, 0x05, .u 8, .ro, .int 255, .any, .none⟩,
   ⟨0x2200, 0x2200, 0x06, 0x06, .u 8, .ro, .int 0, .any, .none⟩,
   ⟨0x2200, 0x2200, 0x07, 0x07, .bool, .rw, .int 0, .btw 0 1, .instant⟩,
   ⟨0x2200, 0x2200, 0x08, 0x08, .u 32, .rw, .int 100, .btw 10 10000, .instant⟩,
   ⟨0x2200, 0x2200, 0x09, 0x09, .u 32, .rw, .int 1000, .btw 100 1000000, .instant⟩,
   ⟨0x2200, 0x2200, 0x0A, 0x0A, .u 16, .rw, .int 50, .btw 1 1000, .instant⟩,
   ⟨0x2200, 0x2200, 0x0B, 0x0B, .u 32, .rw, .int 1000, .btw 125 60000, .instant⟩,
   ⟨0x2200, 0x2200, 0x0C, 0x0C, .u 8, .rw, .int 8, .btw 1 64, .instant⟩,
   ⟨0x2200, 0x2200, 0x0D, 0x0D, .u 32, .rw, .int 1000, .btw 10 100000, .instant⟩,
   ⟨0x2200, 0x2200, 0x0E, 0x0E, .bool, .rw, .int 0, .btw 0 1, .instant⟩,
   ⟨0x2200, 0x2200, 0x0F, 0x0F, .i 64, .ro, .int 0, .any, .none⟩,
   ⟨0x2200, 0x2200, 0x10, 0x10, .i 64, .ro, .int 0, .any, .none⟩,
   ⟨0x2200, 0x2200, 0x11, 0x11, .u 32, .ro, .int 0, .any, .none⟩,
   ⟨0x2200, 0x2200, 0x12, 0x12, .u 32, .ro, .int 0, .any, .none⟩,
   ⟨0x2200, 0x2200, 0x13, 0x13, .i 16, .ro, .int 0, .any, .none⟩,
   ⟨0x2200, 0x2200, 0x14, 0x14, .bool, .rw, .int 0, .btw 0 1, .restart⟩,
   ⟨0x2200, 0x2200, 0x15, 0x15, .u 8, .rw, .int 255, .btw 0 255, .restart⟩,
   ⟨0x2200, 0x2200, 0x16, 0x16, .u 32, .ro, .int 0, .any, .none⟩,
   ⟨0x2200, 0x2200, 0x17, 0x17, .u 16, .rw, .int 50, .btw 1 2000, .instant⟩,
   ⟨0x2200, 0x2200, 0x18, 0x18, .u 32, .ro, .int 0, .any, .none⟩,
   ⟨0x2200, 0x2200, 0x19, 0x19, .u 32, .rw, .int 1000, .btw 10 1000000, .instant⟩,
   ⟨0x2202, 0x2203, 0x00, 0x00, .u 8, .const, .int 16, .any, .none⟩,
   ⟨0x2202, 0x2203, 0x01, 0x01, .bool, .rw, .int 0, .btw 0 1, .restart⟩,
   ⟨0x2202, 0x2203, 0x02, 0x02, .u 8, .rw, .int 2, .btw 0 2, .restart⟩,
   ⟨0x2202, 0x2203, 0x03, 0x03, .u 8, .rw, .int 0, .btw 0 127, .restart⟩,
   ⟨0x2202, 0x2203, 0x04, 0x04, .u 8, .rw, .int 0, .btw 0 2, .restart⟩,
   ⟨0x2202, 0x2203, 0x05, 0x05, .u 8, .rw, .int 1, .btw 1 255, .restart⟩,
   ⟨0x2202, 0x2203, 0x06, 0x06, .i 8, .rw, .int (-3), .btw (-7) 0, .restart⟩,
   ⟨0x2202, 0x2203, 0x07, 0x07, .i 8, .rw, .int 0, .btw (-3) 3, .restart⟩,
   ⟨0x2202, 0x2203, 0x08, 0x08, .u 8, .rw, .int 3, .btw 2 10, .instant⟩,
   ⟨0x2202, 0x2203, 0x09, 0x09, .u 8, .rw, .int 3, .btw 2 10, .instant⟩,
   ⟨0x2202, 0x2203, 0x0A, 0x0A, .i 8, .rw, .int 0, .btw (-7) 5, .restart⟩,
   ⟨0x2202, 0x2203, 0x0B, 0x0B, .u 8, .ro, .int 0, .any, .none⟩,
   ⟨0x2202, 0x2203, 0x0C, 0x0C, .u 64, .ro, .int 0, .any, .none⟩,
   ⟨0x2202, 0x2203, 0x0D, 0x0D, .u 8, .ro, .int 255, .any, .none⟩]

/-- Objects of spec/16_time_unit_and_ptp.md (R402). -/
def objs16b : List Row :=
  [⟨0x2202, 0x2203, 0x0E, 0x0E, .u 32, .ro, .int 0, .any, .none⟩,
   ⟨0x2202, 0x2203, 0x0F, 0x0F, .u 16, .ro, .int 0, .any, .none⟩,
   ⟨0x2202, 0x2203, 0x10, 0x10, .u 8, .rw, .int 255, .btw 0 255, .instant⟩,
   ⟨0x2210, 0x224F, 0x00, 0x00, .u 8, .const, .int 9, .any, .none⟩,
   ⟨0x2210, 0x224F, 0x01, 0x01, .u 8, .rw, .int 0, .btw 0 3, .restart⟩,
   ⟨0x2210, 0x224F, 0x02, 0x02, .u 64, .rw, .int 0, .btw 0 1000000000, .restart⟩,
   ⟨0x2210, 0x224F, 0x03, 0x03, .u 64, .rw, .int 163840000, .btw 65536000 65536000000000, .restart⟩,
   ⟨0x2210, 0x224F, 0x04, 0x04, .u 8, .rw, .int 0, .btw 0 47, .restart⟩,
   ⟨0x2210, 0x224F, 0x05, 0x05, .u 8, .rw, .int 1, .btw 1 16, .restart⟩,
   ⟨0x2210, 0x224F, 0x06, 0x06, .u 8, .rw, .int 0, .btw 0 15, .restart⟩,
   ⟨0x2210, 0x224F, 0x07, 0x07, .i 32, .rw, .int 0, .btw (-1000000) 1000000, .instant⟩,
   ⟨0x2210, 0x224F, 0x08, 0x08, .u 32, .rw, .int 100, .btw 20 1000000000, .instant⟩,
   ⟨0x2210, 0x224F, 0x09, 0x09, .u 64, .ro, .int 0, .any, .none⟩]

/-- Objects of spec/17_can_fd_and_ttcan.md (R420). -/
def objs17 : List Row :=
  [⟨0x2300, 0x2300, 0x01, 0x01, .u 8, .rw, .int 127, .btw 1 127, .restart⟩,
   ⟨0x2300, 0x2300, 0x02, 0x02, .u 8, .rw, .int 2, .btw 0 3, .restart⟩,
   ⟨0x2300, 0x2300, 0x03, 0x03, .u 32, .ro, .int 0, .any, .none⟩,
   ⟨0x2310, 0x2313, 0x01, 0x01, .bool, .rw, .int 0, .btw 0 1, .restart⟩,
   ⟨0x2310, 0x2313, 0x02, 0x02, .u 16, .rw, .int 1, .btw 1 256, .restart⟩,
   ⟨0x2310, 0x2313, 0x03, 0x03, .u 16, .rw, .int 63, .btw 2 256, .restart⟩,
   ⟨0x2310, 0x2313, 0x04, 0x04, .u 16, .rw, .int 16, .btw 2 128, .restart⟩,
   ⟨0x2310, 0x2313, 0x05, 0x05, .u 16, .rw, .int 16, .btw 1 128, .restart⟩,
   ⟨0x2310, 0x2313, 0x06, 0x07, .u 8, .rw, .int 1, .btw 1 32, .restart⟩,
   ⟨0x2310, 0x2313, 0x08, 0x09, .u 8, .rw, .int 10, .btw 1 16, .restart⟩,
   ⟨0x2310, 0x2313, 0x0A, 0x0A, .u 8, .rw, .int 158, .btw 0 255, .restart⟩,
   ⟨0x2310, 0x2313, 0x0B, 0x0B, .bool, .rw, .int 0, .btw 0 1, .restart⟩,
   ⟨0x2310, 0x2313, 0x0C, 0x0C, .u 8, .rw, .int 1, .btw 0 1, .restart⟩,
   ⟨0x2310, 0x2313, 0x0D, 0x0D, .u 8, .rw, .int 1, .btw 0 2, .instant⟩,
   ⟨0x2310, 0x2313, 0x0E, 0x0E, .u 8, .rw, .int 8, .btw 0 15, .instant⟩,
   ⟨0x2310, 0x2313, 0x0F, 0x0F, .u 8, .wo, .int 0, .oneOf [1], .instant⟩,
   ⟨0x2320, 0x2321, 0x01, 0x01, .u 8, .rw, .int 0, .btw 0 2, .restart⟩,
   ⟨0x2320, 0x2321, 0x02, 0x02, .u 8, .rw, .int 0, .btw 0 1, .restart⟩,
   ⟨0x2320, 0x2321, 0x03, 0x03, .u 16, .rw, .int 1000, .btw 100 10000, .restart⟩,
   ⟨0x2320, 0x2321, 0x04, 0x04, .u 16, .rw, .int 1000, .btw 100 65535, .restart⟩,
   ⟨0x2320, 0x2321, 0x05, 0x05, .u 8, .rw, .int 16, .btw 1 16, .restart⟩,
   ⟨0x2320, 0x2321, 0x06, 0x06, .u 32, .rw, .int 0, .any, .restart⟩,
   ⟨0x2320, 0x2321, 0x07, 0x07, .u 16, .rw, .int 128, .btw 0 0x7FF, .restart⟩,
   ⟨0x2320, 0x2321, 0x08, 0x08, .u 8, .rw, .int 8, .btw 0 127, .restart⟩,
   ⟨0x2320, 0x2321, 0x09, 0x09, .u 16, .rw, .int 100, .btw 1 10000, .instant⟩,
   ⟨0x2320, 0x2321, 0x0A, 0x0A, .u 8, .rw, .int 0, .btw 0 6, .drained⟩,
   ⟨0x2330, 0x2331, 0x01, 0x01, .domain, .rw, .bytes [], .len 0 1024 8, .drained⟩,
   ⟨0x2380, 0x2383, 0x01, 0x01, .u 8, .ro, .int 0, .any, .none⟩,
   ⟨0x2380, 0x2383, 0x02, 0x03, .u 8, .ro, .int 0, .any, .none⟩,
   ⟨0x2380, 0x2383, 0x04, 0x04, .u 64, .ro, .int 0, .any, .none⟩,
   ⟨0x2380, 0x2383, 0x05, 0x05, .u 32, .ro, .int 0, .any, .none⟩,
   ⟨0x2380, 0x2383, 0x06, 0x06, .u 32, .ro, .int 0, .any, .none⟩,
   ⟨0x2380, 0x2383, 0x07, 0x07, .u 32, .ro, .int 0, .any, .none⟩,
   ⟨0x2380, 0x2383, 0x08, 0x08, .u 32, .ro, .int 0, .any, .none⟩,
   ⟨0x2380, 0x2383, 0x09, 0x09, .u 32, .ro, .int 0, .any, .none⟩,
   ⟨0x2390, 0x2391, 0x01, 0x01, .u 8, .ro, .int 0, .any, .none⟩,
   ⟨0x2390, 0x2391, 0x02, 0x02, .u 8, .ro, .int 0, .any, .none⟩,
   ⟨0x2390, 0x2391, 0x03, 0x03, .u 8, .ro, .int 255, .any, .none⟩,
   ⟨0x2390, 0x2391, 0x04, 0x04, .u 8, .ro, .int 0, .any, .none⟩,
   ⟨0x2390, 0x2391, 0x05, 0x05, .u 32, .ro, .int 0, .any, .none⟩,
   ⟨0x2390, 0x2391, 0x06, 0x06, .u 64, .ro, .int 0, .any, .none⟩,
   ⟨0x2390, 0x2391, 0x07, 0x07, .u 32, .ro, .int 0, .any, .none⟩]

/-- Objects of spec/18_network_rdma_and_rings.md (R436). -/
def objs18 : List Row :=
  [⟨0x2400, 0x2400, 0x01, 0x01, .u 8, .rw, .int 0, .btw 0 2, .restart⟩,
   ⟨0x2400, 0x2400, 0x02, 0x02, .bool, .rw, .int 0, .btw 0 1, .restart⟩,
   ⟨0x2400, 0x2400, 0x03, 0x03, .u 8, .rw, .int 3, .btw 0 7, .instant⟩,
   ⟨0x2400, 0x2400, 0x04, 0x04, .u 8, .rw, .int 4, .btw 1 8, .instant⟩,
   ⟨0x2400, 0x2400, 0x05, 0x05, .u 8, .rw, .int 3, .btw 0 6, .instant⟩,
   ⟨0x2400, 0x2400, 0x06, 0x06, .u 16, .rw, .int 4096, .oneOf [1024, 4096], .restart⟩,
   ⟨0x2400, 0x2400, 0x07, 0x07, .u 8, .rw, .int 64, .btw 0 255, .restart⟩,
   ⟨0x2400, 0x2400, 0x08, 0x08, .u 16, .rw, .int 10, .btw 1 1000, .instant⟩,
   ⟨0x2400, 0x2400, 0x09, 0x09, .u 8, .rw, .int 6, .btw 4 6, .restart⟩,
   ⟨0x2401, 0x2401, 0x01, 0x08, .u 8, .ro, .int 1, .any, .none⟩,
   ⟨0x2402, 0x2402, 0x01, 0x08, .u 8, .wo, .int 0, .oneOf [1], .instant⟩,
   ⟨0x2410, 0x244F, 0x01, 0x01, .bool, .rw, .int 0, .btw 0 1, .drained⟩,
   ⟨0x2410, 0x244F, 0x02, 0x02, .u 8, .rw, .int 0, .btw 0 2, .drained⟩,
   ⟨0x2410, 0x244F, 0x03, 0x03, .u 16, .rw, .int 65535, .any, .drained⟩,
   ⟨0x2410, 0x244F, 0x04, 0x04, .u 64, .rw, .int 0, .step 0 18446744073709547520 4096, .drained⟩,
   ⟨0x2410, 0x244F, 0x05, 0x05, .u 64, .rw, .int 4096, .step 4096 68719476736 4096, .drained⟩,
   ⟨0x2410, 0x244F, 0x06, 0x06, .u 8, .rw, .int 0, .btw 0 15, .drained⟩,
   ⟨0x2410, 0x244F, 0x07, 0x07, .u 32, .wo, .int 0, .btw 1 4294967295, .drained⟩,
   ⟨0x2410, 0x244F, 0x08, 0x08, .u 8, .rw, .int 2, .btw 1 3, .drained⟩,
   ⟨0x2410, 0x244F, 0x09, 0x09, .u 32, .ro, .int 0, .any, .none⟩,
   ⟨0x2460, 0x246F, 0x01, 0x01, .bool, .rw, .int 0, .btw 0 1, .restart⟩,
   ⟨0x2460, 0x246F, 0x02, 0x02, .u 8, .rw, .int 0, .btw 0 63, .restart⟩,
   ⟨0x2460, 0x246F, 0x03, 0x03, .u 32, .rw, .int 1024, .btw 16 1048576, .restart⟩,
   ⟨0x2460, 0x246F, 0x04, 0x04, .u 32, .rw, .int 10, .btw 1 1000, .instant⟩,
   ⟨0x2460, 0x246F, 0x05, 0x05, .u 32, .rw, .int 0, .any, .instant⟩,
   ⟨0x2460, 0x246F, 0x06, 0x06, .u 64, .ro, .int 0, .any, .none⟩,
   ⟨0x2470, 0x2473, 0x01, 0x01, .bool, .rw, .int 0, .btw 0 1, .restart⟩,
   ⟨0x2470, 0x2473, 0x02, 0x02, .u 8, .rw, .int 0, .any, .restart⟩,
   ⟨0x2470, 0x2473, 0x03, 0x03, .u 8, .rw, .int 0, .btw 0 7, .restart⟩,
   ⟨0x2470, 0x2473, 0x04, 0x04, .u 32, .rw, .int 1000, .btw 10 1000000, .restart⟩,
   ⟨0x2470, 0x2473, 0x05, 0x05, .u 16, .rw, .int 10, .btw 1 10000, .restart⟩,
   ⟨0x2470, 0x2473, 0x06, 0x06, .domain, .rw, .bytes [], .len 48 384 24, .restart⟩,
   ⟨0x2480, 0x2480, 0x01, 0x01, .u 32, .wo, .int 0, .btw 0 255, .instant⟩,
   ⟨0x2480, 0x2480, 0x02, 0x02, .u 16, .ro, .int 0, .any, .none⟩,
   ⟨0x2480, 0x2480, 0x03, 0x03, .u 32, .ro, .int 0, .any, .none⟩,
   ⟨0x2500, 0x2500, 0x01, 0x01, .u 16, .ro, .int 0, .any, .none⟩,
   ⟨0x2500, 0x2500, 0x02, 0x02, .u 32, .ro, .int 0, .any, .none⟩,
   ⟨0x2500, 0x2500, 0x03, 0x03, .u 8, .wo, .int 0, .oneOf [1], .instant⟩]

/-- Objects of spec/19_power_monitors_ageing.md (R460). -/
def objs19 : List Row :=
  [⟨0x2100, 0x2100, 0x00, 0x00, .u 8, .const, .int 14, .any, .none⟩,
   ⟨0x2100, 0x2100, 0x01, 0x01, .u 32, .ro, .int 0, .any, .none⟩,
   ⟨0x2100, 0x2100, 0x02, 0x02, .u 8, .ro, .int 0, .any, .none⟩,
   ⟨0x2100, 0x2100, 0x03, 0x03, .u 8, .wo, .int 0, .btw 1 4, .instant⟩,
   ⟨0x2100, 0x2100, 0x04, 0x04, .u 64, .rw, .int 0, .any, .instant⟩,
   ⟨0x2100, 0x2100, 0x05, 0x05, .u 16, .ro, .int 0, .any, .none⟩,
   ⟨0x2100, 0x2100, 0x06, 0x06, .i 16, .ro, .int 0, .any, .none⟩,
   ⟨0x2100, 0x2100, 0x07, 0x07, .u 32, .ro, .int 0, .any, .none⟩,
   ⟨0x2100, 0x2100, 0x08, 0x08, .u 32, .rw, .int 1000, .btw 200 60000, .instant⟩,
   ⟨0x2100, 0x2100, 0x09, 0x09, .u 32, .ro, .int 0, .any, .none⟩,
   ⟨0x2100, 0x2100, 0x0A, 0x0A, .u 16, .rw, .int 320, .btw 60 320, .restart⟩,
   ⟨0x2100, 0x2100, 0x0B, 0x0B, .u 32, .rw, .int 100, .btw 1 100000, .restart⟩,
   ⟨0x2100, 0x2100, 0x0C, 0x0C, .u 16, .rw, .int 60, .btw 1 3600, .instant⟩,
   ⟨0x2100, 0x2100, 0x0D, 0x0D, .u 32, .ro, .int 0, .any, .none⟩,
   ⟨0x2100, 0x2100, 0x0E, 0x0E, .u 8, .wo, .int 0, .oneOf [1], .instant⟩,
   ⟨0x2110, 0x2110, 0x01, 0x48, .u 8, .rw, .int 0, .oneOf [0, 2, 4], .instant⟩,
   ⟨0x2111, 0x2111, 0x01, 0x48, .u 8, .ro, .int 0, .any, .none⟩,
   ⟨0x2120, 0x2120, 0x01, 0x40, .i 16, .ro, .int 0, .any, .none⟩,
   ⟨0x2130, 0x2139, 0x01, 0x01, .u 16, .ro, .int 0, .any, .none⟩,
   ⟨0x2130, 0x2139, 0x02, 0x02, .u 16, .ro, .int 800, .any, .none⟩,
   ⟨0x2130, 0x2139, 0x03, 0x03, .u 16, .ro, .int 0, .any, .none⟩,
   ⟨0x2130, 0x2139, 0x04, 0x04, .u 16, .ro, .int 10000, .any, .none⟩,
   ⟨0x2130, 0x2139, 0x05, 0x05, .u 16, .ro, .int 0, .any, .none⟩,
   ⟨0x2130, 0x2139, 0x06, 0x06, .u 32, .ro, .int 4294967295, .any, .none⟩,
   ⟨0x2130, 0x2139, 0x07, 0x07, .u 32, .ro, .int 0, .any, .none⟩,
   ⟨0x2140, 0x2140, 0x01, 0x01, .u 16, .rw, .int 24, .btw 1 720, .instant⟩,
   ⟨0x2140, 0x2140, 0x02, 0x02, .u 8, .rw, .int 25, .btw 10 50, .instant⟩,
   ⟨0x2140, 0x2140, 0x03, 0x03, .u 8, .wo, .int 0, .oneOf [1], .instant⟩,
   ⟨0x2141, 0x2141, 0x01, 0x01, .domain, .ro, .bytes [], .any, .none⟩]

/-- Objects of spec/20_performance_counters.md (R472). -/
def objs20 : List Row :=
  [⟨0x5000, 0x5000, 0x00, 0x00, .u 8, .const, .int 8, .any, .none⟩,
   ⟨0x5000, 0x5000, 0x01, 0x01, .u 32, .rw, .int 1000000, .zeroOr 1000 60000000, .instant⟩,
   ⟨0x5000, 0x5000, 0x02, 0x02, .u 8, .rw, .int 7, .btw 1 15, .instant⟩,
   ⟨0x5000, 0x5000, 0x03, 0x03, .u 8, .wo, .int 0, .oneOf [1], .instant⟩,
   ⟨0x5000, 0x5000, 0x04, 0x04, .u 32, .ro, .int 0, .any, .none⟩,
   ⟨0x5000, 0x5000, 0x05, 0x05, .u 32, .ro, .int 0, .any, .none⟩,
   ⟨0x5000, 0x5000, 0x06, 0x06, .u 32, .ro, .int 0, .any, .none⟩,
   ⟨0x5000, 0x5000, 0x07, 0x07, .u 32, .rw, .int 0, .btw 0 4294967295, .instant⟩,
   ⟨0x5000, 0x5000, 0x08, 0x08, .u 32, .const, .int 2097152, .any, .none⟩,
   ⟨0x5010, 0x5010, 0x01, 0x10, .u 64, .ro, .int 0, .any, .none⟩,
   ⟨0x5020, 0x5029, 0x01, 0x10, .u 64, .ro, .int 0, .any, .none⟩,
   ⟨0x5040, 0x5049, 0x01, 0x01, .domain, .ro, .bytes [], .any, .none⟩,
   ⟨0x5060, 0x5069, 0x01, 0x01, .domain, .ro, .bytes [], .any, .none⟩,
   ⟨0x5080, 0x5080, 0x01, 0x01, .domain, .ro, .bytes [], .any, .none⟩]

/-- Objects of spec/21_startup_and_in_service_change.md (R485). -/
def objs21 : List Row :=
  [⟨0x5800, 0x5800, 0x00, 0x00, .u 8, .const, .int 12, .any, .none⟩,
   ⟨0x5800, 0x5800, 0x01, 0x01, .u 8, .wo, .int 0, .btw 1 2, .instant⟩,
   ⟨0x5800, 0x5800, 0x02, 0x02, .u 8, .ro, .int 0, .any, .none⟩,
   ⟨0x5800, 0x5800, 0x03, 0x03, .u 32, .ro, .int 0, .any, .none⟩,
   ⟨0x5800, 0x5800, 0x04, 0x04, .u 8, .ro, .int 0, .any, .none⟩,
   ⟨0x5800, 0x5800, 0x05, 0x05, .bool, .rw, .int 1, .btw 0 1, .instant⟩,
   ⟨0x5800, 0x5800, 0x06, 0x06, .u 16, .rw, .int 2000, .btw 0 2400, .instant⟩,
   ⟨0x5800, 0x5800, 0x07, 0x07, .u 32, .ro, .int 0, .any, .none⟩,
   ⟨0x5800, 0x5800, 0x08, 0x08, .u 32, .wo, .int 0, .any, .instant⟩,
   ⟨0x5800, 0x5800, 0x09, 0x09, .u 8, .ro, .int 0, .any, .none⟩,
   ⟨0x5800, 0x5800, 0x0A, 0x0A, .u 32, .rw, .int 10000, .btw 1000 1000000, .instant⟩,
   ⟨0x5800, 0x5800, 0x0B, 0x0B, .u 32, .rw, .int 2000, .btw 1000 1000000, .instant⟩,
   ⟨0x5800, 0x5800, 0x0C, 0x0C, .u 8, .wo, .int 0, .btw 0 9, .instant⟩,
   ⟨0x5820, 0x5820, 0x01, 0x01, .domain, .wo, .bytes [], .len 0 16777216 1, .instant⟩,
   ⟨0x5820, 0x5820, 0x02, 0x02, .u 8, .wo, .int 0, .btw 1 3, .instant⟩,
   ⟨0x5820, 0x5820, 0x03, 0x03, .u 64, .rw, .int 0, .any, .instant⟩,
   ⟨0x5820, 0x5820, 0x04, 0x04, .u 8, .ro, .int 0, .any, .none⟩,
   ⟨0x5820, 0x5820, 0x05, 0x05, .u 8, .ro, .int 0, .any, .none⟩,
   ⟨0x5820, 0x5820, 0x06, 0x07, .u 32, .ro, .int 0, .any, .none⟩,
   ⟨0x5830, 0x5830, 0x01, 0x01, .domain, .wo, .bytes [], .len 0 1073741824 1, .instant⟩,
   ⟨0x5830, 0x5830, 0x02, 0x02, .u 8, .wo, .int 0, .btw 1 3, .instant⟩,
   ⟨0x5830, 0x5830, 0x03, 0x03, .u 64, .rw, .int 0, .step 0 18446744073709551615 1000, .instant⟩,
   ⟨0x5830, 0x5830, 0x04, 0x04, .u 8, .ro, .int 0, .any, .none⟩,
   ⟨0x5830, 0x5830, 0x05, 0x05, .u 8, .ro, .int 0, .any, .none⟩,
   ⟨0x5830, 0x5830, 0x06, 0x06, .domain, .ro, .bytes [], .any, .none⟩,
   ⟨0x5840, 0x5840, 0x01, 0x01, .domain, .wo, .bytes [], .len 32 32 1, .instant⟩,
   ⟨0x5840, 0x5840, 0x02, 0x02, .u 8, .ro, .int 0, .any, .none⟩,
   ⟨0x5840, 0x5840, 0x03, 0x03, .domain, .wo, .bytes [], .len 128 128 1, .instant⟩]

/-- PDO and SRDO communication and mapping objects, whose sub-indices the manual leaves to CiA 301 and EN 50325-5 (R111, R382); PRESUMED layout. Sub-index 0x00 of a mapping is its highest sub-index (R502): its entries end before the first that is 0. -/
def objsCia : List Row :=
  [⟨0x1400, 0x140F, 0x01, 0x01, .u 32, .rw, .int 0x80000000, .any, .drained⟩,
   ⟨0x1400, 0x140F, 0x02, 0x02, .u 8, .rw, .int 0xFF, .any, .drained⟩,
   ⟨0x1400, 0x140F, 0x03, 0x03, .u 16, .rw, .int 0, .any, .drained⟩,
   ⟨0x1400, 0x140F, 0x05, 0x05, .u 16, .rw, .int 0, .any, .drained⟩,
   ⟨0x1600, 0x160F, 0x01, 0x40, .u 32, .rw, .int 0, .any, .drained⟩,
   ⟨0x1800, 0x180F, 0x01, 0x01, .u 32, .rw, .int 0x80000000, .any, .drained⟩,
   ⟨0x1800, 0x180F, 0x02, 0x02, .u 8, .rw, .int 0xFF, .any, .drained⟩,
   ⟨0x1800, 0x180F, 0x03, 0x03, .u 16, .rw, .int 0, .any, .drained⟩,
   ⟨0x1800, 0x180F, 0x05, 0x05, .u 16, .rw, .int 0, .any, .drained⟩,
   ⟨0x1A00, 0x1A0F, 0x01, 0x40, .u 32, .rw, .int 0, .any, .drained⟩,
   ⟨0x1301, 0x1308, 0x01, 0x01, .u 8, .crust, .int 0, .btw 0 2, .none⟩,
   ⟨0x1301, 0x1308, 0x02, 0x02, .u 16, .crust, .int 0, .any, .none⟩,
   ⟨0x1301, 0x1308, 0x03, 0x03, .u 8, .crust, .int 0, .any, .none⟩,
   ⟨0x1301, 0x1308, 0x04, 0x04, .u 8, .crust, .int 0xFE, .any, .none⟩,
   ⟨0x1301, 0x1308, 0x05, 0x06, .u 32, .crust, .int 0, .any, .none⟩,
   ⟨0x1381, 0x1388, 0x01, 0x10, .u 32, .crust, .int 0, .any, .none⟩]

/-- All rows. -/
def objs : List Row :=
  objs01 ++ objs02 ++ objs03 ++ objs04 ++ objs04b ++ objs05 ++ objs07 ++ objs08 ++ objs09 ++ objs10 ++ objs11 ++ objs11b ++ objs12 ++ objs13 ++ objs14 ++ objs15 ++ objs15b ++ objs16 ++ objs16b ++ objs17 ++ objs18 ++ objs19 ++ objs20 ++ objs21 ++ objsCia

/-- R106: the ranges of the index map; an index outside them does not exist, and one inside exists where a table lists it. -/
def rowsAt (index : Nat) : List Row := objs.filter fun r => decide (r.ilo ≤ index ∧ index ≤ r.ihi)

/-- The highest sub-index listed at an index. -/
def highestSub (rows : List Row) : Nat := rows.foldl (fun m r => max m r.shi) 0

/-- The row of an object; sub-index 0x00 is Highest sub-index where no table lists it (R502). -/
def rowOf (key : Key) : Option Row :=
  let rows := rowsAt (key / 256)
  match rows.find? fun r => decide (r.slo ≤ key % 256 ∧ key % 256 ≤ r.shi) with
  | some r => some r
  | none => if key % 256 = 0 ∧ 0 < highestSub rows then
      some ⟨key / 256, key / 256, 0, 0, .u 8, .const, .int (highestSub rows), .any, .none⟩ else none

/-- R137, R502: the error code of an access to an object that does not exist. -/
def missingCode (key : Key) : Nat := if (rowsAt (key / 256)).isEmpty then 0x06020000 else 0x06090011

/-- REAL32 pattern of 1.0. -/
def f32one : Nat := 0x3F800000

/-- The colour matrix default: identity, offsets 0 (R298). -/
def identityMatrix : Bytes :=
  (List.range 20).flatMap fun k => leBytes 4 (if k < 16 ∧ k / 4 = k % 4 then f32one else 0)

/-- Default levels of the reaction causes 1 to 12 (R375). -/
def causeDefault (cause : Nat) : Nat := if cause = 5 then 1 else if cause = 10 then 0 else 2

/-- Defaults that a table gives per index or sub-index, or that depend on the module. -/
def specialDefault (key : Key) : Option Val :=
  let i := key / 256
  let j := key % 256
  if 0x2310 ≤ i ∧ i ≤ 0x2313 ∧ j = 7 then some (.int 29)
  else if i = 0x4000 ∧ 1 ≤ j ∧ j ≤ 6 then some (.int ([16, 4, 32, 32, 16, 32].getD (j - 1) 0))
  else if i = 0x4050 ∧ 1 ≤ j then some (.int ((100 : Int) * 2 ^ 36 + 10 * 2 ^ 24 + 20 * 2 ^ 16 + 100 * 2 ^ 2))
  else if i = 0x2110 ∧ 1 ≤ j then some (.int (if j = 64 then 0 else 2))
  else if 0x2A10 ≤ i ∧ i ≤ 0x2A27 ∧ j = 8 then some (.bytes identityMatrix)
  else if i = 0x4870 ∧ 1 ≤ j then some (.int (causeDefault j))
  else if i = 0x2202 ∧ j = 1 then some (.int 1)
  else if 0x3811 ≤ i ∧ i ≤ 0x3813 ∧ j = 1 then some (.int 0)
  else if i = 0x1018 ∧ (j = 3 ∨ j = 4) ∨ i = 0x2000 ∧ (j = 3 ∨ j = 4) then some (.int (Config.moduleValue key))
  else if i = 0x2000 ∧ j = 2 then some (.bytes ((List.range 16).map Config.moduleSerial))
  else none

/-- The default of an object that exists. -/
def defaultOf (key : Key) : Val :=
  match specialDefault key with
  | some v => v
  | none => match rowOf key with
    | some r => r.dflt
    | none => .int 0

/-- The entries of a PDO or SRDO mapping with at most `n`: they end before the first that is 0 (R111, R382, R502). -/
def mapEntries (get : Nat → Nat) (n : Nat) : List Nat := ((List.range n).map fun k => get (k + 1)).takeWhile fun v => v != 0

/-- R19: what a written value leaves in an object: reserved fields stay 0, bits [28:0] of the entries of a trigger list. -/
def keepFields (key : Key) (v : Val) : Val :=
  match v with
  | .bytes b => if key = ob 0x2330 1 ∨ key = ob 0x2331 1 then
      .bytes ((List.range (divUp b.length 8)).flatMap fun k => leBytes 8 (leAt b (8 * k) 8 / 2 ^ 29 * 2 ^ 29)) else v
  | .int _ => v

/-- Width in bytes of a numeric type. -/
def Ty.size : Ty → Nat
  | .bool => 1
  | .u w => w / 8
  | .i w => w / 8
  | .real32 => 4
  | .str => 0
  | .domain => 0

/-- A value as its stored little-endian bytes (R7, R101). -/
def Ty.encode (ty : Ty) (v : Val) : Bytes :=
  match v with
  | .bytes b => b
  | .int n => leBytes ty.size (pattern (8 * ty.size) n)

/-- The value that written bytes spell; none where the length does not match (0x0607_0010). -/
def Ty.decode (ty : Ty) (b : Bytes) : Option Val :=
  match ty with
  | .domain => some (.bytes b)
  | .str => some (.bytes b)
  | .i w => if b.length = w / 8 then some (.int (signed w (leNat b))) else none
  | t => if b.length = t.size then some (.int (leNat b)) else none

/-- Whether a value has the form of the type: a number that its width holds, or bytes. -/
def Ty.fits (ty : Ty) (v : Val) : Bool :=
  match ty, v with
  | .domain, .bytes _ => true
  | .str, .bytes _ => true
  | .bool, .int n => decide (0 ≤ n ∧ n < 256)
  | .u w, .int n => decide (0 ≤ n ∧ n < 2 ^ w)
  | .i w, .int n => decide (-(2 ^ (w - 1)) ≤ n ∧ n < 2 ^ (w - 1))
  | .real32, .int n => decide (0 ≤ n ∧ n < 2 ^ 32)
  | _, _ => false

/-- A REAL32 pattern that is finite. -/
def finite32 (n : Nat) : Bool := decide (bits n 30 23 ≠ 255)

/-- R20: whether a value lies within a static range. -/
def Rng.ok (r : Rng) (v : Val) : Bool :=
  match v with
  | .bytes b => match r with
    | .len lo hi m => decide (lo ≤ b.length ∧ b.length ≤ hi ∧ b.length % m = 0)
    | .lenOr0 lo hi m => decide (b.length = 0 ∨ (lo ≤ b.length ∧ b.length ≤ hi ∧ b.length % m = 0))
    | _ => true
  | .int n => match r with
    | .any => true
    | .btw lo hi => decide (lo ≤ n ∧ n ≤ hi)
    | .step lo hi m => decide (lo ≤ n ∧ n ≤ hi ∧ n % m = 0)
    | .oneOf l => l.contains n
    | .btwOr lo hi x => decide (lo ≤ n ∧ n ≤ hi ∨ n = x)
    | .zeroOr lo hi => decide (n = 0 ∨ lo ≤ n ∧ n ≤ hi)
    | .finite => finite32 n.toNat
    | .finitePos => finite32 n.toNat && decide (0 < n ∧ n < 2 ^ 31)
    | .cob => decide (0x81 ≤ n % 2 ^ 31 ∧ n % 2 ^ 31 ≤ 0xFF)
    | _ => true

end Sys2Proof.Machine
end

