-- ==== Sys2Proof/Machine/State.lean ====
section
/-!
DEFINITION. The state of the device as plain data, one structure per chapter of spec/, the fault and refusal reasons, and the state right after reset.
Each field's comment gives its width, the rule that names it, and its reset value; "model" marks a field of the model's own.
-/

namespace Sys2Proof.Machine

/-- The reasons a command can stop the machine. -/
inductive Fault where
  /-- Raised by no command of the model: every row of the table has an effect in the spec. Safe: it never occurs. -/
  | unreachable
deriving DecidableEq, Repr

/-- The reasons a command can be refused. -/
inductive Refusal where
  /-- Raised by an arm of `exec` whose command has no meaning yet, with its mnemonic. Safe: the machine stops where the device goes on. -/
  | notModelled (mnemonic : String)
deriving DecidableEq, Repr

/-! ## Faults and emergencies (R38 to R43, R136) -/

/-- A fault record (R38) without its crc, which is computed when the record is serialised. -/
structure FaultRec where
  code : Nat
  level : Nat
  cls : Nat
  region : Nat
  block : Nat
  cell : Nat
  unit : Nat
  detail : Nat
  weft : Nat
  seq : Nat
  part : Nat
  rep : Nat
deriving DecidableEq, Repr

/-- The fault log (R41, R42, R43). -/
structure FaultLog where
  ring : List FaultRec        -- up to 4,096 records of 32 bytes, oldest first; R41; reset empty
  nextSeq : Nat               -- 32 bits, 0x5810:02; R42; reset 0
  lost : Nat                  -- 32 bits, 0x5810:04; R41; reset 0
  persistent : List FaultRec  -- last 1,024 degraded or safety records, in flash; R41; reset empty (DESIGN CHOICE)
  unacked : List Nat          -- sequence numbers of unacknowledged records, 0x5810:0A counts them; R43; reset empty
deriving DecidableEq, Repr

/-- An EMCY message (R136). -/
structure Emcy where
  emcyCode : Nat
  errorRegister : Nat
  faultCode : Nat
  cls : Nat
  level : Nat
  seqLow : Nat
deriving DecidableEq, Repr

/-- An SDO transfer in progress (R111). -/
structure SdoXfer where
  key : Key
  upload : Bool
  data : Bytes
  sent : Nat
  toggle : Bool
  since : Nat
deriving DecidableEq, Repr

/-- NMT states of the CANopen node (R111). -/
inductive NmtState where
  | preOperational | operational | stopped
deriving DecidableEq, Repr

/-- The CANopen node (R111, R136). -/
structure CanNode where
  nmt : NmtState              -- R111; reset pre-operational (PRESUMED, CiA 301)
  queue : List Emcy           -- up to 16 waiting EMCY messages, oldest first; R136; reset empty
  inhibit : Option Nat        -- end of the running EMCY inhibit time; R136; reset none
  displacedAt : Option Nat    -- last 0x0E06 record; R136; reset none
  sdo : Option SdoXfer        -- SDO transfer in progress; R111; reset none
  heartbeatAt : Nat           -- last heartbeat; R111; reset 0
deriving DecidableEq, Repr

/-! ## Dictionary, commit, access paths (R103 to R139) -/

/-- A DOMAIN write being assembled (R129). -/
structure Assembly where
  ses : Session
  key : Key
  data : Bytes
deriving DecidableEq, Repr

/-- The object dictionary's values (R103, R108, R109, R503). -/
structure Dict where
  active : List (Key × Val)            -- active values that differ from the table's defaults, by key; R108, R110; reset empty
  stored : List (Key × Val)            -- the set stored in flash; R109; reset empty (DESIGN CHOICE)
  storedFollows : Bool                 -- the stored set records 0x1014:00 as following; R503; reset true
  restoreMark : Bool                   -- the stored set is marked for replacement; R109; reset false
  cobFollows : Bool                    -- 0x1014:00 follows the node-ID; R503; reset true
  asm : List Assembly                  -- DOMAIN writes under way; R129; reset empty
  owed : List Session                  -- sessions owed 0x0E00_000A on their next write request; R124; reset empty
deriving DecidableEq, Repr

/-- Phases of the commit control (0x2010:05, R115 to R120). -/
inductive CommitPhase where
  | idle | open_ | checking | waiting | scheduled
deriving DecidableEq, Repr

/-- What a command brings along with a write that acts: the counts of an ageing measurement (R453), a camera's answer (R292), the flash status of a store, 0 for success (R109). -/
structure Given where
  reads : Option (List AgeRead) := none
  camera : Option (Nat × Bytes) := none
  flash : Nat := 0
deriving DecidableEq, Repr

/-- A commit being carried out: a group, or one implicit write (R113, R118, R120): its identifier, entries, the count from which its timeout runs, its beat (0 for the earliest one), the engines asked and those of them that have not reported, whether it has started and whether its switch is scheduled. -/
structure Commit where
  ident : Nat
  entries : List (Key × Val)
  since : Nat
  beat : Nat
  asked : List Engine
  notReady : List Engine
  started : Bool
  scheduled : Bool
  given : Given
deriving DecidableEq, Repr

/-- The commit control (R112 to R125). -/
structure CommitCtl where
  owner : Option Session            -- 0x2010:02; R115; reset none
  entries : List (Key × Val)        -- entries staged, 0x2010:06; R116; reset empty
  lastActivity : Nat                -- last staging write or command of the owner; R124; reset 0
  group : Option Commit             -- the committed group before its switch; R120; reset none
  implicit : List Commit            -- implicit drained commits, the first one running; R113; reset empty
  instant : List Commit             -- implicit instant commits waiting for their beat, or for a drained commit of their object; R113; reset empty
  pending : List (Key × Val)        -- pending restart values; R117; reset empty
  lastResult : Nat                  -- 32 bits, 0x2010:07; R125; reset 0
  lastDetail : Nat                  -- 32 bits, 0x2010:0F; R118; reset 0
  lastBeat : Nat                    -- 64 bits, 0x2010:08; R125; reset 0
  lastIdent : Nat                   -- 32 bits, 0x2010:09; R125; reset 0
deriving DecidableEq, Repr

/-- A response item (R129). -/
structure RespItem where
  index : Nat
  sub : Nat
  offset : Nat
  length : Nat
  flags : Nat
  code : Nat
  data : Bytes
deriving DecidableEq, Repr

/-- How a request is answered: a single object over its session, a Basaris frame, the mailbox, a core's port, or an SDO or USDO of CAN (R111, R129 to R135). -/
inductive Reply where
  | plain
  | frame (num seq : Nat) (ours : Bool) (peer : Nat)
  | mailbox (seq : Nat)
  | port (core : Fin 12)
  | sdo (index sub : Nat)
  | usdo (index sub : Nat)
  | rpdo
deriving DecidableEq, Repr

/-- A request that the dictionary server has taken (R104): its session, the way of its answer, whether it writes, its items not yet served, its response items, the commit that its present item waits for with the item to answer once applied, the outcome of that commit, and what came along. -/
structure Work where
  ses : Session
  reply : Reply
  write : Bool
  begun : Bool
  owed : Bool
  items : List Item
  done : List RespItem
  waits : Option (Nat × RespItem)
  outcome : Option Nat
  given : Given
deriving DecidableEq, Repr

/-- The dictionary server (R104). -/
structure Server where
  works : List Work      -- requests taken and not yet answered, in arrival order; R104, R105; reset empty
  turn : Nat             -- the path that is next in turn: 0 CAN, 1 Basaris, 2 PCIe, 3 dictionary port; R104; reset 0 (DESIGN CHOICE)
  copies : List Assembly -- copies of DOMAIN objects under a read of several segments; R110; reset empty
deriving DecidableEq, Repr

/-- An emergency frame waiting for its acknowledge: its record, sequence number, repetitions, and the count of the next one (R130). -/
structure EmgWait where
  rcd : FaultRec
  frame : Nat
  sent : Nat
  nextAt : Nat
deriving DecidableEq, Repr

/-- What the device answered to a request frame: frame type and status, response items or the payload of a launch answer (R129 to R131). -/
structure Answer where
  type : Nat
  status : Nat
  items : List RespItem
  payload : Bytes
deriving DecidableEq, Repr

/-- A Basaris session (R127, R130, R131). -/
structure BSession where
  num : Nat
  key : Bytes
  peer : Nat
  ours : Bool                         -- this chip opened it (leader side)
  lastSeq : Option Nat
  cache : List (Nat × Option Answer)  -- the last 64 sequence numbers accepted, with their answers
  lastAt : Nat
  txSeq : Nat
  emergencies : List EmgWait
deriving DecidableEq, Repr

/-- Basaris (R126 to R131, R139). -/
structure Basaris where
  sessions : List BSession          -- up to 8 open sessions; R127; reset empty
  nextNum : Nat                     -- next session number; R127; reset 1 (DESIGN CHOICE)
  rejectedAt : List (Nat × Nat)     -- per source, the last 0x0E03; R128; reset empty
  opening : List (Nat × Bytes)      -- open requests this leader has sent: peer, host nonce; R131; reset empty
  closing : Bool                    -- a change of port or a disable waits for its response; R139; reset false
  port : Nat                        -- port in use; R139; reset 47,600
  enabled : Bool                    -- Basaris served; R139; reset true
deriving DecidableEq, Repr

/-- The PCIe mailbox (R132 to R134). -/
structure Mailbox where
  seq : Nat                 -- 32 bits, MBX_SEQ; R132; reset 0 (DESIGN CHOICE)
  respLen : Nat             -- 32 bits, MBX_RESP_LEN; R132; reset 0 (DESIGN CHOICE)
  head : Fin 128            -- EMCY_HEAD; R132; reset 0 (DESIGN CHOICE)
  tail : Fin 128            -- EMCY_TAIL; R132; reset 0 (DESIGN CHOICE)
  ctrl : BitVec 32          -- MBX_CTRL; R132; reset 0 (DESIGN CHOICE)
  error : Nat               -- MBX_STATUS [15:8]; R133; reset 0
  respReady : Bool          -- MBX_STATUS [1]; R132; reset 0
  busy : Bool               -- MBX_STATUS [0]; R132; reset 0
  request : Bytes           -- request area of 4 KiB; R132; reset empty
  response : Bytes          -- response area of 4 KiB; R132; reset empty
  slots : List (Fin 128 × FaultRec)  -- written slots of the emergency ring; R132, R134; reset empty
deriving DecidableEq, Repr

/-! ## Launches, beats and the running image (R78 to R102, R478) -/

/-- Launch states (0x3C00:05). -/
inductive LaunchState where
  | none | proposed | confirmed | running | holdover | aborted | acknowledged
deriving DecidableEq, Repr

/-- A running launch (R82, R458). -/
structure Run where
  start : Nat               -- launch count L
  period : Nat              -- beat period in ns
  pace : Bool               -- mode 1
  beat : Nat                -- current beat number
  pauseAt : Option Nat      -- pause beat B of an accepted idle request
  resumeAt : Option Nat     -- resume beat R of an accepted resume request
  paused : Bool             -- idle: the current beat is paused
  endNext : Bool            -- the launch ends at the next release count (R27, R446)
  endAt : Option Nat        -- the launch ends at the last release count before this count (R480)
deriving DecidableEq, Repr

/-- An output in a release buffer (R78, R84): the number of the release count that it is bound to, and what the buffer holds of it. -/
structure Held where
  due : Nat
  rep : Report
deriving DecidableEq, Repr

/-- A declared late release (R73): the output, the number of its release count, and the number of its late count. -/
structure LateRelease where
  out : Nat
  beat : Nat
  late : Nat
deriving DecidableEq, Repr

/-- The launch control (R93 to R96) and determinism values (R99, R101, R102). -/
structure Launch where
  state : LaunchState         -- 0x3C00:05; R93; reset 0
  count : Nat                 -- 64 bits, 0x3C00:04; R93; reset 0
  leader : Bool               -- this chip proposed the launch; R93; reset false
  session : Nat               -- session in which a member received the proposal; R131; reset 0
  needAck : List Nat          -- members whose acknowledgement is missing; R95; reset empty
  needResp : List Nat         -- members that have not answered the confirmation; R95; reset empty
  repeatAt : Option Nat       -- count at which the confirmation was last sent; R95; reset none
  final : Bool                -- the abort deadline has passed; R94; reset false
  run : Option Run            -- the running launch; R82; reset none
  image : Option Image        -- the running program image; R478; reset none
  snapshot : Bytes            -- 0x3C00:0A; R101; reset empty (no value given)
  fingerprint : Bytes         -- 0x3C00:0B; R102; reset empty (no value given)
  variant : Nat               -- rating variant of the launch; R452; reset 0
  reduced : Bool              -- the reduced variant runs; R28; reset false
  inspection : Nat            -- inspection rate in force, in 0.1 % of full; R28, R478; reset 1,000
  lastBeat : Option Nat       -- number of the last launch beat; R84, R123; reset none
  plan : List Nat             -- the ten values of V_plan at the launch; R102, R449; reset empty (no launch)
  elements : List (Nat × Nat) -- per generator stream the index of its next draw: four to an element; R99; reset empty (all 0)
  buffered : List Held        -- outputs in the release buffers; R78, R84; reset empty
  deferred : List Report      -- incomplete class I outputs awaiting completion; R369; reset empty
  late : List LateRelease     -- declared late releases; R73; reset empty
deriving DecidableEq, Repr

/-! ## Blocks, regions and memories (R140 to R169) -/

/-- A received selvedge entry (R226): its header and payload, the class of its sender's descriptor, whether its payload is uncorrectable, whether a descriptor has consumed it (R230), and whether its place in the buffer is free again (R228). -/
structure SelEntry where
  header : BitVec 64
  payload : Bytes
  cls : Nat
  bad : Bool
  taken : Bool
  freed : Bool
deriving DecidableEq, Repr

/-- A selvedge entry that waits to be sent: side, header, payload, and the depth B of its descriptor (R228). -/
structure SelSend where
  side : Fin 2
  header : BitVec 64
  payload : Bytes
  depth : Nat
deriving DecidableEq, Repr

/-- A window descriptor that waits (R228, R231): for the entry of a line of a side, or for room at a neighbour; since when; operation and descriptor, and the status that a mismatch of its cells has set (R143). -/
structure SelWait where
  entry : Bool
  side : Fin 2
  line : Nat
  since : Nat
  op : Nat
  desc : WinDesc
  status : Option Nat
deriving DecidableEq, Repr

/-- A descriptor that waits in a queue: its number there (R148), and the command that brought it. -/
structure Waiting where
  num : Nat
  c : Instr
deriving DecidableEq, Repr

/-- A lane of a memory word whose data are lost (R151, R158): memory space, the key of the 64-byte word, the lane, and whether the word has been written to a spare row as poison. -/
structure BadLane where
  space : Nat
  word : Nat
  lane : Nat
  poison : Bool
deriving DecidableEq, Repr

/-- One block (R147, R168). -/
structure Block where
  role : Nat                        -- 0x3020: 0 working, 1 spare, 2 retired; R168; reset 0, 1 for blocks 16 and 17
  carries : Nat                     -- 0x3021; R168; reset 0xFF
  grid : Nat                        -- 0x3030; R168; reset 0xFF
  reading : Nat                     -- 16 bits, replica reading 0x3010:13 and on; R77; reset 0 (DESIGN CHOICE)
  suspects : List (Fin 65 × Nat)    -- suspect cells and the count of their first mismatch; R144; reset empty
  swapCell : Option (Fin 65 × Nat)  -- cell whose swap waits for the idle point, and the count of the decision; R145; reset none
  starterMiss : Nat                 -- starter-frame mismatches without a located cell in a row; R372; reset 0
  testMissed : Nat                  -- due windows in a row in which the region test could not run; R373; reset 0
  acc : List (Nat × BitVec 32)      -- accumulators that are not zero, key 4·lane + set; R140; reset empty (all zero)
  poison : List (Fin 4 × Nat × Nat) -- poisoned accumulator sets with status and detail; R199; reset empty
  prevSeq : Option Nat              -- sequence of the last descriptor that passed the sequence check; R165; reset none
  cacheLines : List (Nat × Bytes)   -- valid lines of the cache segment, HBM line address and content, most recent first; R154; reset empty
  selLeft : List SelEntry           -- selvedge buffer from the left; R226; reset empty
  selRight : List SelEntry          -- selvedge buffer from the right; R226; reset empty
  selOut : List SelSend             -- entries that wait to be sent, in order; R228; reset empty
  outLeft : Nat                     -- entries outstanding in the channel to the left; R228; reset 0
  outRight : Nat                    -- entries outstanding in the channel to the right; R228; reset 0
  selWait : Option SelWait          -- window descriptor that waits; R228; reset none
  lead : Nat                        -- output lines produced; R229; reset 0
  rowErrors : List (Nat × Nat × Nat)  -- corrected errors: bank, row, weft count; R157; reset empty
  mapQueue : List (Nat × Nat × Nat)   -- rows decided for map-out: bank, row, cause; R159; reset empty
  waiting : List Waiting            -- descriptors of the queue of 64 entries that have not started, in order; R147; reset empty
  taken : Nat                       -- descriptors that have entered the queue; R148; reset 0
  held : List Nat                   -- image buffers of the scratchpad that hold data not yet consumed; R148, R149; reset empty
  snapSeq : Nat                     -- execute snapshot: descriptor sequence; R469; reset 0
  snapWorked : Nat                  -- execute snapshot: tokens worked since launch; R469; reset 0
  snapVoided : Nat                  -- execute snapshot: tokens voided since launch; R469; reset 0
  snapCount : Nat                   -- execute snapshot: descriptors since launch; R469; reset 0
deriving DecidableEq, Repr

/-- One entry of the row map (R157, R169): location word, origin, spare row. -/
structure RowMap where
  loc : BitVec 32
  origin : Nat
  spare : Nat
deriving DecidableEq, Repr

/-- A scale slot (R204). -/
structure Slot where
  hist : List (BitVec 32)
  even : BitVec 32
  odd : BitVec 32
  head : Nat
  format : Nat
  replayAllowed : Bool
  replayed : Bool
  overflow : Bool
  underflow : Bool
  nonfinite : Bool
  step : Nat
  cls : Nat
deriving DecidableEq, Repr

/-- One region (R23, R447 to R456). -/
structure Region where
  role : Nat                        -- 0x3000: 0 working, 1 checker, 2 hot spare, 3 failed; R25, R168; reset 0; 1 for region 8; 2 for region 9
  supply : Nat                      -- mV, 0x2130:01; R447, R448; reset 800 (V_plan at manufacture, R460)
  vplan : Nat                       -- mV, 0x2130:02; R448, R460; reset 800
  ageing : Nat                      -- a_r in 0.01 %, 0x2130:03; R453; reset 0
  speed : Nat                       -- c_r in 0.0001, 0x2130:04; R454; reset 10,000
  headroom : Nat                    -- 0.1 %, 0x2130:05; R454; reset 0
  endOfMargin : Nat                 -- days, 0x2130:06; R454; reset 0xFFFF_FFFF
  poweredNs : Nat                   -- powered time in ns, of which 0x2130:07 shows the hours; R454; reset 0
  replan : Option (Nat × Nat × Nat) -- re-plan waiting for its supply step beat or launch: V_plan, headroom, end of margin; R455; reset none
  boost : Nat                       -- mV of the supply that a droop raise added; R451; reset 0
  overAged : Bool                   -- 0x1008 written; R456; reset false
  minReading : Nat                  -- slowest replica reading since the last supply step beat; R447; reset 65,535 (none yet)
  droop : Bool                      -- an excursion beyond the guard band since the last supply step beat; R451; reset false
  droopUntil : Nat                  -- end of the droop raise hold; R451; reset 0
  hotClassL : Bool                  -- class L suspended by temperature; R450; reset false
  coolSince : Option Nat            -- all sensors below 100 °C since; R450; reset none
  over110 : Bool                    -- 0x1005 written for the present excursion; R450; reset false
  prevSeq : List (Nat × Nat)        -- per zoo queue (engine code × 4 + class) the last accepted sequence; R165; reset empty
  waiting : List Waiting            -- descriptors of the zoo's queues that have not started, by queue, in order; R165; reset empty
  slots : List (Nat × Slot)         -- scale slots; R204; reset empty
  memMap : List (Nat × Nat × Nat)   -- region-memory rows decided for map-out: bank, row, cause; R160; reset empty
  memErrors : List (Nat × Nat × Nat)  -- region-memory corrected errors: bank, row, weft count; R160; reset empty
deriving DecidableEq, Repr

/-- The detection engine's state of one stream (R241, R243). -/
structure Detect where
  carryAt : Nat                     -- address in region memory of the carry list of the last NMS; R234, R243; reset 0 (DESIGN CHOICE)
  nextId : Nat                      -- detection_id, 32 bits; R244; reset 0
  lastNms : Option Nat              -- weft count of the last NMS; R243; reset none
  region : Fin 10                   -- model: region of the last NMS; reset 0 (DESIGN CHOICE)
  cls : Nat                         -- model: class of the last NMS; reset 2 (DESIGN CHOICE)
deriving DecidableEq, Repr

/-- A sequence record (R248) with its pool; its source log lies in HBM. -/
structure KvSeq where
  pool : Fin 4
  length : Nat
  firstValid : Nat
  srcLog : Nat
  wdown : Nat
  dSrc : Nat
  layers : Nat
  priority : Nat
  state : Nat
  resident : Bool
  srcFormat : Nat
  pinHead : Nat
  pinTail : Nat
deriving DecidableEq, Repr

/-- A page table entry (R251) with the latent rows of its page. -/
structure Page where
  entry : Nat
  crc : Nat
  frame : Option Nat
  firstToken : Nat
  seq : Nat
  layer : Nat
  pins : Nat
  fill : Nat
  dropped : Bool
  drops : Nat
  rows : List (List Nat)
deriving DecidableEq, Repr

/-- The attention engine's pools and sequences (R246 to R261). -/
structure Kv where
  seqs : List (Nat × KvSeq)         -- sequence records that are not closed, by number; R248; reset empty
  pages : Vector (List Page) 4      -- page table entries in use, per pool; R251; reset empty
  badFrames : Vector (List Nat) 4   -- frames out of their pool until the next launch; R259; reset empty
deriving DecidableEq, Repr

/-! ## Cameras, heads, intake (R266 to R326) -/

/-- Statistics of the lines of one tile or frame, phase and tag (R293, R294). Sums are binary64 patterns; histogram counts by 256·channel + bin. -/
structure StatAcc where
  phase : Nat
  tag : Nat
  mixed : Bool
  pixels : Nat
  saturated : Nat
  defects : Nat
  sums : List (BitVec 64)
  maxs : List (BitVec 32)
  zones : List (BitVec 64 × Nat)
  hist : List (Nat × Nat)
deriving DecidableEq, Repr

/-- Exposure settings of a stream from one commit (R290): its tag, commit count, the camera latency in force, exposure time, trigger-to-exposure delay, and whether a write was not confirmed (R292). -/
structure TagSet where
  tag : Nat
  commit : Nat
  latency : Nat
  exposure : Nat
  delay : Nat
  unconfirmed : Bool
  widths : List Nat               -- pulse widths of the 12 heads; R401
deriving DecidableEq, Repr

/-- One camera stream (R266 to R298). -/
structure Stream where
  state : Nat                       -- 0x2880:01; R272, R296; reset 0
  started : Bool                    -- the camera started at the launch; R272; reset false
  linkRate : Nat                    -- 0x2880:02; R298; reset 0
  tag : Nat                         -- 16 bits, 0x2880:03; R290; reset 0
  tags : List TagSet                -- tags in force and to come, oldest first; R290; reset empty
  received : Nat                    -- 0x2880:04; R298; reset 0
  blanked : Nat                     -- 0x2880:05; R298; reset 0
  incomplete : Nat                  -- 0x2880:06; R287; reset 0
  extra : Nat                       -- 0x2880:07; R289; reset 0
  pixelRate : Nat                   -- 0x2880:08; R298; reset 0
  lastLine : Nat                    -- 0x2880:09; R298; reset 0
  records : Nat                     -- 0x2880:0A; R293; reset 0
  triggers : List (Nat × Nat)       -- outstanding triggers: number, count; R268, R289; reset empty
  nextTrigger : Nat                 -- next trigger number; R268; reset 0
  missedAt : Option Nat             -- nominal arrival count of the first line or frame missed since the last one completed; R295; reset none
  counter : Option Nat              -- camera's last line or frame counter; R295; reset none
  advanced : Bool                   -- the frame under way is clean so far: its counter advanced and its hash changed; R295, R296; reset false
  hashes : List (Nat × Nat)         -- per phase the last CRC-32; R295; reset empty
  hashRun : Bytes                   -- raw bytes of the frame under way that enter its CRC-32; R295; reset empty
  frozen : Nat                      -- consecutive equal hashes; R295; reset 0
  clean : Nat                       -- consecutive clean lines or frames while stale; R296; reset 0
  latched : Bool                    -- stale latched by the Crust; R296, R374; reset false
  cut : Option Nat                  -- cause of the running cut; R286; reset none
  cutLine : Nat                     -- lines of the tile before the first cut; R287; reset 0
  tile : Nat                        -- tile under way; R268; reset 0
  tileOpen : Bool                   -- a line of it has arrived or been blanked and it has not closed; R32; reset false
  tileBlanks : Nat                  -- cause-5 blanks in the tile; R286; reset 0
  lastClose : Nat                   -- close count of the previous tile, or the launch count; R298; reset 0
  closes : List (Nat × Nat × Nat × Bool)  -- closed tiles: number, close count, lines before the first cut, incomplete; R32, R287; reset empty
  stats : List StatAcc              -- statistics of the open tile or frame; R293; reset empty
  ringAt : Nat                      -- next statistics ring slot; R293; reset 0
  frame : Nat × Nat                 -- number and trigger count of the frame under way; R268; reset 0, 0
  frameBad : Bool                   -- a tile of the frame was incomplete; R287; reset false
  lineOfFrame : Nat                 -- next line of the frame; R268; reset 0
  rows : List (Bool × List Nat)     -- lines of the frame after black level, with a mark on blank ones; R278, R281; reset empty
  rowsDone : Nat                    -- frame lines delivered; R281; reset 0
  settings : List (Nat × Nat)       -- settings blocks sent: tag, deadline, oldest first; R292; reset empty
deriving DecidableEq, Repr

/-- One illumination head (R299 to R310). -/
structure Head where
  state : Nat                       -- 0x2C80:01; R310; reset 0
  safe : Bool                       -- safe default; R303; reset true (not yet authenticated)
  identity : Bytes                  -- identity bytes 0x00–0x3F last authenticated; R302; reset empty
  serial : Bytes                    -- 0x2C80:02; R304; reset empty
  pulses : Nat                      -- 0x2C80:04; R305; reset 0
  onTimeNs : Nat                    -- summed on-time in ns, 0x2C80:05 in ms; R305; reset 0
  unsaved : Nat                     -- pulses since the last wear record; R304; reset 0
  wearSeq : Nat                     -- sequence of the newest wear record; R305; reset 0
  slotA : Bool                      -- the newest valid record is in slot A; R305; reset false
  wearDue : Bool                    -- a record waits; R305; reset false
  silentTries : Nat                 -- accesses in succession without an answer; R303; reset 0
  warned : Bool                     -- 0x0802 written; R306; reset false
  endOfLife : Bool                  -- life used 100.0 %; R306; reset false
  noWear : Bool                     -- neither wear slot valid; R305; reset false
  atLimit : Bool                    -- compensation at its limit; R309; reset false
  untrustedAt : Option Nat          -- count at which the untrusted condition began; R307; reset none
  trustedAt : Option Nat            -- count at which it ended; R307; reset none
  means : List (BitVec 32)          -- zone means of the interval; R308; reset empty
  lastM : BitVec 32                 -- 0x2C80:07; R308; reset 0
  capture : Bool                    -- target capture requested; R309; reset false
  driveDue : Option (Nat × Nat × Nat)  -- drive write not yet acknowledged: drive, commit count, deadline; R308; reset none
  drive : Nat                       -- drive level last written to the head; R303, R308; reset 500 (DESIGN CHOICE)
  polledAt : Option Nat             -- count of the last reading of the serial; R304; reset none
  wearAt : Option Nat               -- count of the last wear record that fell due; R305; reset none
  intervalAt : Option Nat           -- end of the last compensation interval; R308; reset none
  authAt : Option Nat               -- count of the last authentication; R302; reset none
deriving DecidableEq, Repr

/-- A slot of an intake queue's reorder buffer, or a finished sample (R320, R321, R323): where it is decoded (0 decode engine, 1 copy, 2 host), status (0 delivered, 1 replaced, 2 padding), its elements in slot format. -/
structure Sample where
  submission : Nat
  label : Nat
  site : Nat
  status : Nat
  reason : Nat
  width : Nat
  height : Nat
  codes : List Nat
  done : Bool
  offered : Nat           -- weft count at which it was taken
  length : Nat
  maxTok : Nat            -- tokens after which its decode stops (R317)
deriving DecidableEq, Repr

/-- One intake queue (R311 to R326). -/
structure Intake where
  consumed : Nat                    -- 0x3A80:01; R313; reset 0
  delivered : Nat                   -- 0x3A80:02; R326; reset 0
  replaced : Nat                    -- 0x3A80:03; R323; reset 0
  hostDecoded : Nat                 -- 0x3A80:04; R326; reset 0
  batches : Nat                     -- 0x3A80:05; R326; reset 0
  padding : Nat                     -- 0x3A80:06; R326; reset 0
  lastReason : Nat                  -- 0x3A80:07; R326; reset 0
  lateReturns : Nat                 -- late host returns discarded (no width given); R320; reset 0
  reorder : List Sample             -- reorder buffer of 256 slots in submission order; R320; reset empty
  current : List Sample             -- samples of the current batch; R324; reset empty
  flushAt : List Nat                -- flushes asked for, each up to a submission number, the oldest first; R325; reset empty
  partial_ : Bool                   -- the current batch was closed by a flush; R325; reset false
  credits : Nat                     -- batch ring slots returned by the consumer; R324; reset 4 (the ring's slots)
deriving DecidableEq, Repr

/-! ## Motion unit and field ports (R327 to R353) -/

/-- What the six gate commands of an axis do (R334, R336). -/
inductive Pwm where
  | gatesOff
  | lowSidesOn
  | drive (a b c : Option Nat)   -- per leg its duty, or none where the leg is disabled
deriving DecidableEq, Repr

/-- One axis (R327 to R339). -/
structure Axis where
  prevA : Nat               -- last applied duty of leg a; R335; reset 0
  prevB : Nat               -- leg b; R335; reset 0
  prevC : Nat               -- leg c; R335; reset 0
  pwm : Pwm                 -- gate commands; R334, R336; reset all gates off
  queued : List (Nat × CmdRecord)  -- released command records not yet applied, with their release count; R331; reset empty
  lastBeat : Nat            -- beat of the last applied frame; R335; reset 0
  position : Int            -- 32 bits; R332; reset 0
  ageNs : Nat               -- position age; R332; reset 0
  invalid : Bool            -- flag bit 0; R339; reset false
  capturePos : Int          -- capture_position; R332; reset 0
  captureAt : Nat           -- weft count of the last capture; R332; reset 0
  newCapture : Bool         -- flag bit 1; R332; reset false
  indexSeen : Bool          -- flag bit 2; R332; reset false
  clamped : Bool            -- flag bit 4; R335; reset false
  stuckA : Bool             -- channel a stuck; R338; reset false
  stuckB : Bool             -- channel b stuck; R338; reset false
  stuckC : Bool             -- channel c stuck; R338; reset false
  currentA : Int            -- last delivered current, leg a; R337; reset 0
  currentB : Int            -- leg b; R337; reset 0
  currentC : Int            -- leg c; R337; reset 0
  clampBeats : List Nat     -- beats of clamps, for cause 10; R375; reset empty
  sourcePos : Int           -- position at the last trigger event of the encoder source; R346; reset 0
  sampledAt : Nat           -- count of the axis's last sample; R346; reset 0
  pendingSsi : Option (Int × Nat)  -- SSI position latched for the next sample count, with its latch count; R339; reset none
  carrier : Option (Nat × Nat)     -- carrier period and phase in force, from the last period start; none before the first of a launch, when the objects hold; R334; reset none
  highs : BitVec 3                 -- legs whose high side turns on, while the axis is driven; R334; reset none
deriving DecidableEq, Repr

/-- One digital input (R341 to R345). -/
structure Input where
  raw : Bool                -- raw level; R342; reset false
  rawAt : Nat               -- weft count of the last raw transition; R342; reset 0
  level : Bool              -- accepted level (raw polarity); R342; reset false
  chatter : Bool            -- R344; reset false
  stuck : Bool              -- R345; reset false
  edges : List Nat          -- counts of accepted edges in the rate window; R344; reset empty
  activeSince : Option Nat  -- accepted active since; R345; reset none
deriving DecidableEq, Repr

/-- One digital output (R348, R492). -/
structure DOut where
  level : Bool              -- R348; reset low
  asked : Bool              -- level last commanded; R348; reset low
  thermal : Bool            -- shut down thermally; R492; reset false
  waiting : Bool            -- off after field loss until the next frame that selects it; R439; reset false
deriving DecidableEq, Repr

/-- One sensor supply (R349 to R352). -/
structure Supply where
  state : Nat               -- 0x4061: 0 off, 1 on 5 V, 2 on 24 V, 3 switching, 4 retry wait, 5 latched off; R353; reset 0
  command : Nat             -- last command carried out or being carried out; R352; reset 0
  latched : Option Nat      -- command latched while switching; R352; reset none
  offs : List Nat           -- counts of switch-offs within 10 s; R351; reset empty
  offAt : Nat               -- count of the last switch-off; R351; reset 0
  cause : Nat               -- last switch-off cause; R351; reset 0
deriving DecidableEq, Repr

/-- One ADC channel (R340). -/
structure Adc where
  started : Option Nat      -- count at which the running conversion started; R340; reset none
  value : Int               -- 16 bits, last result; R340; reset 0
  valueAt : Nat             -- start count of the last result; R340; reset 0
deriving DecidableEq, Repr

/-- The motion unit (R327). -/
structure Motion where
  axes : Vector Axis 16
  inputs : Vector Input 32
  outputs : Vector DOut 32
  supplies : Vector Supply 16
  adcs : Vector Adc 32
  lastTrigger : Vector (Option Nat) 24   -- last trigger issued per trigger source; R347; reset none
  clamps : List (Nat × Nat)              -- clamps counted per axis or supply u and kind k, at key 8u + k; R335; reset empty
deriving DecidableEq, Repr

/-! ## The Crust (R354 to R382) -/

/-- Crust states (R376). -/
inductive CrustState where
  | start | run | single | stop | noBeat
deriving DecidableEq, Repr

/-- A range entry of the partition map (R358). -/
structure Range where
  base : Nat
  size : Nat
  space : Nat
  region : Nat
  block : Nat
  cls : Nat
  write : Bool
  read : Bool
deriving DecidableEq, Repr

/-- The partition map (R358): home classes of the 180 blocks, shares of classes C and I in 1/64, range entries. -/
structure PartMap where
  home : List Nat
  shareC : Nat
  shareI : Nat
  ranges : List Range
deriving DecidableEq, Repr

/-- A parameter set that has been validated (R379, R380). -/
structure ParamSet where
  values : List (Key × Val)
  map : PartMap
  seq : Nat
  imageBound : Bool
  launchBound : Bool
  imageHash : Bytes
  hash : Bytes
  keyAction : Nat × Nat × Bytes   -- what it does to the Crust key slots: 0 nothing, 1 program, 2 revoke; slot; key (R379)
deriving DecidableEq, Repr

/-- Why single channel runs (R367). -/
structure Single where
  since : Nat
  cause : Nat
  region : Nat
deriving DecidableEq, Repr

/-- One SRDO (R381). -/
structure Srdo where
  lastValid : Nat           -- count of the last valid SRDO; R381; reset 0
  mask : BitVec 16          -- its axis request mask; R381; reset all ones
  stopDemand : Bool         -- its safe-stop demand bit; R381; reset false
  resetBit : Bool           -- its reset request bit; R378, R381; reset false
  sentAt : Option Nat       -- count of the last transmission; R381; reset none
deriving DecidableEq, Repr

/-- A latched reaction: cause, level, axes that level 1 stops, streams of cause 9 by bit, beat of the trigger (R375, R377, R378). -/
structure Latch where
  cause : Nat
  level : Nat
  axes : BitVec 16
  streams : BitVec 24
  beat : Nat
deriving DecidableEq, Repr

/-- The Crust (R354 to R382). -/
structure Crust where
  state : CrustState                 -- 0x4800:01; R376; reset 0 START
  before : CrustState                -- state before the stop; R376; reset NO_BEAT
  latches : List Latch               -- latched reactions, 0x4800:03 has a bit per cause; R375; reset empty
  hwOff : Bool                       -- output-off forced in hardware until the restart; R355; reset false
  active : Option ParamSet           -- active set; none is the set fused at manufacture; R380, R382; reset none
  stored : Option ParamSet           -- set stored in flash; R380; reset none (DESIGN CHOICE)
  setState : Nat                     -- 0x4810:04; R380; reset 0
  reason : Nat                       -- 0x4810:05; R380; reset 0
  valid : Option ParamSet            -- validated set waiting for its activation; R380; reset none
  keySlots : List (Nat × Bytes)      -- state and public key of slots 0 to 3, 0x4800:05; R379; reset slot 0 valid
  single : Option Single             -- single channel; R367; reset none
  suspectBeat : Nat                  -- 64 bits, 0x4800:07; R364; reset 0
  disagreed : List (Nat × Nat × Nat) -- disagreements: beat, region, output; R366; reset empty
  misses : List (Nat × Nat)          -- consecutive misses per output; R369; reset empty
  compMissed : Nat                   -- due windows in a row in which the comparator test could not run; R373; reset 0
  resetAsked : Bool                  -- accepted reset that takes effect at the next release count; R378; reset false
  safeStop : Bool                    -- 0x4840:02; R381; reset 0
  requestMask : BitVec 16            -- 0x4840:03; R381; reset 0xFFFF
  overCurrent : BitVec 16            -- axes above their over-current threshold now; R338; reset 0
  srdos : Vector Srdo 8
deriving DecidableEq, Repr

/-! ## Time unit (R383 to R402) -/

/-- One PTP domain (R389 to R393). -/
structure Domain where
  state : Nat                 -- 0x2202:0B; R402; reset 0; 1 for an enabled domain after boot
  gm : Nat                    -- 64 bits, 0x2202:0C; R402; reset 0
  clockClass : Nat            -- 0x2202:0D; R402; reset 255
  pathDelay : Nat             -- ns, 0x2202:0E; R402; reset 0
  steps : Nat                 -- 0x2202:0F; R402; reset 0
  offset : Int                -- last offset in ns; R389; reset 0
  offsets : List Int          -- last 16 offsets, newest first; R391, R392; reset empty
  lastAnnounce : Option Nat   -- R392; reset none
  lastSync : Option Nat       -- R392; reset none
  heard : Bool                -- an Announce or Sync since cold boot; R392; reset false
  recovering : Bool           -- an Announce within the limit received while lost; R393; reset false
  recovered : Bool            -- it recovered while the other domain was active; R393; reset false
  exceeded : Bool             -- an offset outside 0x2200:08 and no 16 within it since; R389; reset false
  port : Nat                  -- port of the last Sync; R402; reset 0xFF (none)
  stamps : List (Nat × Nat)   -- grandmaster time and local time of past Syncs, newest first; R389; reset empty
  waiting : Option SyncMsg    -- two-step Sync awaiting its Follow_Up; R389; reset none
  run16 : Nat                 -- consecutive offsets within 0x2200:08; R389, R391; reset 0
  t1 : Option Nat             -- time of the delay request under way; R387; reset none
  requestAt : Option Nat      -- count of the last delay request; R387; reset none
deriving DecidableEq, Repr

/-- The time unit (R383 to R398). -/
structure Time where
  weft : Nat                  -- 64 bits, the weft count in ns; R10, R383; reset 0 (after loss of power, R385)
  frac : Nat                  -- 32-bit fraction; R383; reset 0 (DESIGN CHOICE)
  base : Nat                  -- base increment, 0x2200:02; R383; reset 0x0000_0004_0000_0000
  adj : Int                   -- timed adjustment; R384; reset 0
  adjTicks : Nat              -- its ticks left; R384; reset 0
  hold : Nat                  -- held ticks left; R385; reset 0
  clampedTicks : Nat          -- 0x2200:16; R383; reset 0
  clampTold : Nat             -- clamped ticks that fault 0x0C07 has reported; R402; reset 0
  sync : Nat                  -- 0x2200:04; R389; reset 0
  active : Option (Fin 2)     -- 0x2200:05; R391; reset none
  steering : Option (Fin 2)   -- R391; reset none
  everActive : Bool           -- a domain has been active since cold boot; R391; reset false
  preferWait : Bool           -- the choice waits for A's next Sync; R391; reset false
  syncedAt : Option Nat       -- start of state 2, 0x2200:11; R402; reset none
  holdoverAt : Option Nat     -- start of holdover, 0x2200:12; R398; reset none
  holdoverTold : Bool         -- 0x0C02 written in this holdover; R398; reset false
  utc : Int                   -- 0x2200:13; R402; reset 0
  domains : Vector Domain 2
  edges : Vector Nat 64       -- edges issued since launch, 0x2210:09; R402; reset 0
  lastEdge : Vector (Option Nat) 64  -- count of the last edge issued since launch; R399; reset none
  dueEdges : Vector (List Nat) 64    -- counts of the edges that events of a trigger source have made due; R399, R347; reset empty
  steeredAt : Nat             -- count at which the steering domain was first processed; R391; reset 0
  syncSent : Vector (Option Nat) 8      -- count of the last Sync that a port sent; R395; reset none
  announceSent : Vector (Option Nat) 8  -- count of the last Announce that a port sent; R395; reset none
deriving DecidableEq, Repr

/-! ## CAN (R403 to R420) -/

/-- A transmit buffer in use (R404). -/
structure TxBuf where
  index : Nat
  ident : Nat
  data : Bytes
  attempts : Nat
  oneShot : Bool
deriving DecidableEq, Repr

/-- One CAN controller (R403 to R413). -/
structure CanCtl where
  state : Nat                       -- error state 1 active, 2 passive, 3 bus-off, 4 recovering, of which 0x2380:01 shows 0 while off; R413, R420; reset 1
  tec : Nat                         -- 0x2380:02; R413; reset 0
  rec_ : Nat                        -- 0x2380:03; R413; reset 0
  tx : List TxBuf                   -- pending transmit buffers, 32; R404; reset empty
  fifo : List (Nat × CanFrame)      -- receive FIFO of 64 stamped frames; R404, R405; reset empty
  mode : Nat                        -- operating mode in force; R412; reset 1
  loopDelay : Nat                   -- loop delay last measured, in mtq; R409; reset 0 (DESIGN CHOICE)
  onBus : Option Nat                -- buffer that a time window has started; R417; reset none
deriving DecidableEq, Repr

/-- TTCAN of controllers 0 and 1 (R414 to R419). -/
structure TtCan where
  level : Nat                       -- 0x2390:01; R419; reset 0
  master : Nat                      -- 0x2390:02; R418; reset 0
  priority : Nat                    -- 0x2390:03; R418; reset 0xFF
  cycle : Nat                       -- 0x2390:04; R418; reset 0
  refMark : Nat                     -- 0x2390:05; R419; reset 0
  refWeft : Nat                     -- 0x2390:06; R419; reset 0
  started : Nat                     -- weft count of the cycle start; R418; reset 0
  sawRef : Bool                     -- a reference message in this cycle; R419; reset false
  missing : Nat                     -- expected cycle starts in a row without a reference; R419; reset 0
  goodRefs : Nat                    -- consecutive cycles with a reference message in S2; R419; reset 0
  cleanCycles : Nat                 -- basic cycles in S1 without an error; R419; reset 0
  erred : Bool                      -- a receive check or window failed in this cycle; R419; reset false
  s3 : Nat                          -- cause of S3: 4 watchdog, 5 bus-off, 6 matrix; R419; reset 0
  causeGone : Bool                  -- the cause of S3 is gone; R413; reset false
  leaveS3 : Bool                    -- return to S0 at the next cycle start; R413; reset false
  servedAt : Nat                    -- last service of the application watchdog; R419; reset 0
  received : List Nat               -- filters that received a valid frame since their window; R417; reset empty
  arbUntil : Bool                   -- an arbitrating window is open; R417; reset false
  merged : Bool                     -- the window is a merged one; R415; reset false
  matrix : List (BitVec 64)         -- the matrix in force; R415, R419; reset empty
  ntu : Nat × Nat                   -- local NTU of a slave: weft counts and eighths of an NTU between two references; R419; reset 0, 0 (nominal)
deriving DecidableEq, Repr

/-! ## What leaves the device -/

/-- What the device sends or shows to the outside: the model's own record, one entry per event; what goes over Ethernet carries its 802.1p priority (R423), PTP messages 7. -/
inductive Output where
  | response (ses : Session) (items : List RespItem)
  | basaris (prio peer : Nat) (header : BitVec 256) (payload tag : Bytes)
  | portItems (core : Fin 12) (items : List RespItem)
  | emcy (ident : Nat) (m : Emcy)
  | coreEmergency (r : FaultRec)
  | msix (vector : Nat)
  | sdo (ident index sub code : Nat) (data : Bytes)
  | heartbeat (ident state : Nat)
  | canFrame (ctl : Nat) (ident : Nat) (data : Bytes)
  | released (count out : Nat) (cls source : Nat) (p : Payload)
  | inputRecord (beat count : Nat) (header : Nat) (records : List Nat)
  | status (r : Nat) (b : Nat) (record : Nat)
  | tileClosed (stream tile count lines : Nat)
  | cameraWrite (stream : Nat) (entry : Nat)
  | headWrite (head : Nat) (offset : Nat) (data : Bytes)
  | trigger (channel edge count width : Nat)
  | ptp (port : Nat) (type : Nat) (value : Nat)
  | rdma (prio qp : Nat) (result : Nat) (data : Bytes)
  | retransmit (prio qp from_ : Nat)
  | ringSend (prio ring imm : Nat) (data : Bytes)
  | pcieRead (data : Option Bytes)
  | hostRequest (queue submission address slot : Nat)
  | srdo (n : Nat) (data inverted : Bytes)
  | replay (r slot mark : Nat)
  | attention (r : Nat) (rows : List (List (BitVec 32))) (sat und : Nat)
  | accumulators (r b : Nat) (set : Nat) (values : List (BitVec 32))
  | tensor (r : Nat) (codes : List Nat) (records : List (BitVec 320)) (lines : List (BitVec 512)) (sat und special : Nat)
  | completion (r : Nat) (engine : Nat)
  | selvedge (r b side : Nat) (header : BitVec 64) (payload : Bytes)
deriving DecidableEq, Repr

/-! ## Network and PCIe (R421 to R436) -/

/-- One Ethernet port (R430). -/
structure Port where
  state : Nat                       -- 0x2401; R436; reset 1
  retrains : List Nat               -- counts of retrains within 10 s; R430; reset empty
  paused : List (Fin 8 × Nat)       -- paused priorities and the count at which the pause began; R430; reset empty
  ignoring : List (Fin 8 × Nat)     -- priorities that stopped honouring pause frames, with the last pause frame; R430; reset empty
  waiting : List Output             -- frames whose priority is paused, in order; R423, R430; reset empty
deriving DecidableEq, Repr

/-- One queue pair (R422, R429). -/
structure Qp where
  error : Bool                      -- error state; R429; reset false
  tries : Nat                       -- transport retries used; R429; reset 0
  rnr : Nat                         -- receiver-not-ready retries used; R429; reset 0
  rate : Nat                        -- rate in 1/1024 of the line rate; R422; reset 1,024
  lastCnp : Option Nat              -- last congestion notification or rate increase; R422; reset none
  first : Nat                       -- first unacknowledged packet, 24 bits; R429; reset 0 (DESIGN CHOICE)
  timerAt : Option Nat              -- count at which the ACK timeout last began anew; R429; reset none
deriving DecidableEq, Repr

/-- One host output queue (R428). -/
structure HostQueue where
  producer : Nat                    -- producer index; R428; reset 0 (DESIGN CHOICE)
  consumer : Nat                    -- consumer index, 0x2460:05; R428; reset 0
  times : List Nat                  -- counts at which the unconsumed records were written, oldest first; R49; reset empty
  held : List Bytes                 -- records that producers hold back, oldest first; R49; reset empty
  dropping : Bool                   -- a drop episode runs; R49, R428; reset false
  told : Bool                       -- fault 0x0F05 written in this episode; R428; reset false
  dropped : Nat                     -- 0x2460:06; R428; reset 0
deriving DecidableEq, Repr

/-- Ethernet, RDMA and PCIe (R421 to R435). -/
structure Net where
  ports : Vector Port 8
  refusedAt : Vector (Option Nat) 65   -- last 0x0F03 of each window, 64 for no window; R425; reset none
  oldWindows : List (Key × Val)     -- window objects as they stood before their last switch; R426; reset empty
  moved : List Nat                  -- windows that the last migration moved; R427; reset empty
  qps : Vector Qp 256
  queues : Vector HostQueue 16
  ringIn : List (Nat × Nat × Bytes)    -- ring messages received: ring, immediate value, data; R432; reset empty
  pcieUp : Bool                     -- PCIe link up; R434; reset false
  pcieHeld : Bool                   -- link held down; R435; reset false
  pcieSpeed : Nat                   -- 0x2500:01 [15:8]; R434; reset 0
  pcieLanes : Nat                   -- 0x2500:01 [7:0]; R434; reset 0
  pcieRetrains : List Nat           -- counts of retrains within 1 s; R435; reset empty
deriving DecidableEq, Repr

/-! ## Power (R437 to R460) -/

/-- One power domain (R441 to R446). -/
structure PDomain where
  state : Nat                 -- 0x2111 [2:0]; R442; reset 2 (on), 0 for domain 63
  target : Nat                -- state that the running sequence leads to; R443, R444; reset as state
  latched : Option Nat        -- latched request, 0x2111 [7]; R445; reset none
  since : Nat                 -- start of the running sequence; R446; reset 0
  isolated : Bool             -- outputs isolated; R443, R444; reset false
  fromOff : Bool              -- the running power-up began in off; R443; reset false
deriving DecidableEq, Repr

/-- Power states (R457). -/
inductive PowerState where
  | run | idle | standby | off
deriving DecidableEq, Repr

/-- The power manager and monitors (R437 to R460). -/
structure Power where
  mainDv : Nat                      -- main input in 0.1 V, 0x2100:01 [31:16]; R460; reset 0
  watts : Nat                       -- input power in W, 0x2100:01 [15:0]; R460; reset 0
  fieldDv : Nat                     -- field input in 0.1 V, 0x2100:05; R460; reset 0
  mainOk : Bool                     -- main input in range; R437; reset true (reset follows the input's return)
  fieldOk : Bool                    -- field input in range; R437; reset true (DESIGN CHOICE)
  state : PowerState                -- 0x2100:02; R457; reset run
  latched : Option Nat              -- power-state request latched during a transition; R457; reset none
  temps : Vector Int 64             -- 0.1 °C, 0x2120; R450; reset 0 (DESIGN CHOICE)
  excluded : List (Fin 64)          -- excluded sensors; R450; reset empty
  tripped : Bool                    -- thermal trip; R450; reset false
  droops : Nat                      -- 0x2100:07; R451; reset 0
  capClassL : Bool                  -- class L suspended by the energy cap; R452; reset false
  capSince : Option Nat             -- count at which it was suspended; R452; reset none
  capTold : Bool                    -- 0x100A written for this excess; R452; reset false
  lifeNs : Nat                      -- time since manufacture in ns, of which 0x2100:09 shows the hours; R460; reset 0
  replicaAt : Option Nat            -- count of the last replica measurement; R64; reset none
  ageingAt : Option Nat             -- count of the last ageing measurement; R449, R453; reset none
  tempsAt : Option Nat              -- count of the last temperature sample; R450; reset none
  hotNs : Nat                       -- time above 95 °C in ns, of which 0x2100:0D shows the hours; R456; reset 0
  domains : Vector PDomain 72
  steps : List (Nat × Nat × Nat)    -- voltage plan steps of the launch: beat, region, mV; R449; reset empty
  stacksOut : List Nat              -- HBM stacks that failed; R446; reset empty
  interleave : List Nat             -- stacks over which the HBM address space is interleaved, fixed at a launch; R30, R446; reset 0 to 3
  stepBeat : Option Nat             -- beat of the last supply step of the launch; R447; reset none
deriving DecidableEq, Repr

/-! ## Performance counters (R461 to R472) -/

/-- A latched dump: its sequence number and its bytes, header first (R470, R471). -/
structure Dump where
  seq : Nat
  data : Bytes
deriving DecidableEq, Repr

/-- The counter sets as they stood before the zeroing at a count (R462). -/
structure OldCounters where
  at_ : Nat
  since : Nat
  chip : Vector Nat 16
  region : Vector (Vector Nat 16) 10
  block : List (Nat × Nat)
  cell : List (Nat × Nat)
deriving DecidableEq, Repr

/-- The counter sets and the dump ring (R461 to R472). -/
structure Counters where
  chip : Vector Nat 16              -- chip set; R466; reset 0 (least_slack_ns all ones)
  region : Vector (Vector Nat 16) 10  -- region sets; R466; reset 0
  block : List (Nat × Nat)          -- block counters that are not zero, key 18·(18·r + b) + k; R466; reset empty
  cell : List (Nat × Nat)           -- cell counters that are not zero, key 2·(65·(18·r + b) + c) + k; R467; reset empty
  zeroAt : Nat                      -- the count of the last zeroing; R462, R466; reset 0
  zeroDue : Bool                    -- zeroing waits for the next release count; R462; reset false
  old : Option OldCounters          -- the sets before the last zeroing; R462; reset none
  dumps : List Dump                 -- retained dumps, oldest first, 2 MiB; R471; reset empty
  dumpSeq : Nat                     -- 0x5000:04; R472; reset 0
  overwritten : Nat                 -- 0x5000:05; R471; reset 0
  lastLatch : Nat                   -- count of the previous latch; R470; reset 0
deriving DecidableEq, Repr

/-! ## Start-up and service (R473 to R485) -/

/-- A region migration (R484): the region, the region taking over, whether the checker's role moves, whether the region can still run, and how far it has come. -/
structure Migration where
  region : Fin 10
  target : Option (Fin 10)
  checkerRole : Bool
  canRun : Bool
  decided : Nat
  started : Bool
  copied : Bool
  switched : Bool
  singleUs : Nat
deriving DecidableEq, Repr

/-- A stripe's work that moves from one block to another at its stream's next tile boundary (R483, R484). -/
structure StripeMove where
  stream : Fin 24
  region : Fin 10
  block : Fin 18
  toRegion : Fin 10
  toBlock : Fin 18
deriving DecidableEq, Repr

/-- A block swap that has been decided (R483). -/
structure BlockSwap where
  region : Fin 10
  block : Fin 18
  spare : Fin 18
  decided : Nat
  copy : Bool
deriving DecidableEq, Repr

/-- Start-up and in-service change (R473 to R485). -/
structure Service where
  lastReset : Nat                   -- 0x5800:02; R473; reset 1 (main input returned; DESIGN CHOICE)
  bootState : Nat                   -- 0x5800:09; R474; reset 0
  bootAt : Nat                      -- P, the end of the last reset; R474; reset 0
  bootMs : Nat                      -- 0x5800:03; R485; reset 0
  readyAt : Nat                     -- end of boot step 7, from which autolaunch waits; R474; reset 0
  beat0Due : Bool                   -- no beat 0 since the last reset; R474; reset true
  auto : Bool                       -- the launch under way was proposed by autolaunch; R474; reset false
  slot : Nat                        -- active firmware slot, 0x5800:04; R485; reset 0
  minVersion : Nat                  -- 0x5800:07; R477; reset 0
  firmware : Nat                    -- running firmware version, 0x2000:05; R139; reset 0 (DESIGN CHOICE)
  fwSecurity : Nat                  -- running security version; R477; reset 0 (DESIGN CHOICE)
  fwA : Nat                         -- 0x5820:06; R485; reset 0 (DESIGN CHOICE)
  fwB : Nat                         -- 0x5820:07; R485; reset 0 (DESIGN CHOICE)
  fwStaging : Bytes                 -- 0x5820:01; R485; reset empty
  fwState : Nat                     -- 0x5820:04; R485; reset 0
  fwReason : Nat                    -- 0x5820:05; R485; reset 0
  fwStaged : Option Bundle          -- verified staged bundle; R481; reset none
  imgStaging : Bytes                -- 0x5830:01; R485; reset empty
  imgState : Nat                    -- 0x5830:04; R485; reset 0
  imgReason : Nat                   -- 0x5830:05; R485; reset 0
  imgStaged : Option Image          -- verified image in the inactive slot; R480; reset none
  imgHash : Bytes                   -- 0x5830:06; R485; reset empty (no value given)
  imgSlot : Nat                     -- active image slot; R480; reset 0 (DESIGN CHOICE)
  imageKeys : List (Nat × Bytes)    -- state and public key of image key slots 0 to 3, 0x5840:02; R476; reset empty slots
  migration : Option Migration      -- R484; reset none
  migrations : List (Fin 10 × Bool) -- migrations that wait, each with whether its region can still run; R482, R484; reset empty
  swaps : List BlockSwap            -- block swaps decided; R483; reset empty
  moves : List StripeMove           -- stripes that move at their streams' next tile boundaries; R483, R484; reset empty
  exhausted : Bool                  -- redundancy exhausted; R27; reset false
  rowMap : List RowMap              -- fuse and soft row map, 0x3210:01; R157; reset empty (no fuse entries; DESIGN CHOICE)
  mapResult : Nat                   -- 0x3200:08; R159; reset 0
  coresDown : List (Fin 2)          -- manager cores that failed their watchdog; R473; reset empty
  ignoredPackets : Vector Nat 32    -- ignored CoaXPress packets per connection (no width given); R271; reset 0
  savedElements : List (Nat × Nat)  -- persistent element counters as saved at the last launch beat; R99; reset empty (all 0; DESIGN CHOICE)
  entropy : Nat                     -- model: free values drawn so far; reset 0 (DESIGN CHOICE)
deriving DecidableEq, Repr

/-- The memories (R150, R160, R440): listed cells only; an unlisted byte reads 0. -/
structure Mem where
  hbm : List Host.Cell        -- 96 GiB; R440; reset all zero (DESIGN CHOICE)
  rmem : List Host.Cell       -- 10 × 32 MiB, address region·2²⁵ + a; R160; reset all zero (R443 step 4)
  spad : List Host.Cell       -- 180 × 4 MiB, address (18·r + b)·2²² + a; R150; reset all zero (R443 step 4)
deriving DecidableEq, Repr

/-- The state of the device. -/
structure State where
  pending : List Instr        -- model: commands that are waiting, first in first out; reset empty
  time : Time
  log : FaultLog
  node : CanNode
  dict : Dict
  commit : CommitCtl
  server : Server
  basaris : Basaris
  mbx : Mailbox
  ports : Vector Bytes 12     -- dictionary port buffers of 4 KiB per core; R135; reset empty
  launch : Launch
  blocks : Vector Block 180
  regions : Vector Region 10
  mem : Mem
  marks : List BadLane        -- lanes of memory words whose data are lost; R151, R158; reset empty
  detect : Vector Detect 24
  kv : Kv
  streams : Vector Stream 24
  heads : Vector Head 12
  intake : Vector Intake 8
  motion : Motion
  crust : Crust
  can : Vector CanCtl 4
  tt : Vector TtCan 2
  net : Net
  power : Power
  counters : Counters
  service : Service
  outbox : List Output        -- model: what has left the device, oldest first; reset empty
deriving DecidableEq, Repr

/-! ## The state right after reset: every register at the value the spec gives, or at the one its comment above names -/

/-- R41 to R43: no record retained. -/
def FaultLog.reset : FaultLog := { ring := [], nextSeq := 0, lost := 0, persistent := [], unacked := [] }

/-- R111, R136: the node is pre-operational and nothing waits. -/
def CanNode.reset : CanNode :=
  { nmt := .preOperational, queue := [], inhibit := none, displacedAt := none, sdo := none, heartbeatAt := 0 }

/-- R108, R503: every object at its default, 0x1014:00 following the node-ID. -/
def Dict.reset : Dict :=
  { active := [], stored := [], storedFollows := true, restoreMark := false, cobFollows := true, asm := [], owed := [] }

/-- R115, R125: no group open, no commit finished. -/
def CommitCtl.reset : CommitCtl :=
  { owner := none, entries := [], lastActivity := 0, group := none, implicit := [], instant := [], pending := [],
    lastResult := 0, lastDetail := 0, lastBeat := 0, lastIdent := 0 }

/-- R104: no request taken. -/
def Server.reset : Server := { works := [], turn := 0, copies := [] }

/-- R127, R139: no session open, port 47,600, served. -/
def Basaris.reset : Basaris :=
  { sessions := [], nextNum := 1, rejectedAt := [], opening := [], closing := false, port := 47600, enabled := true }

/-- R132, R134. -/
def Mailbox.reset : Mailbox :=
  { seq := 0, respLen := 0, head := 0, tail := 0, ctrl := 0, error := 0, respReady := false, busy := false,
    request := [], response := [], slots := [] }

/-- R93: no launch. -/
def Launch.reset : Launch :=
  { state := .none, count := 0, leader := false, session := 0, needAck := [], needResp := [], repeatAt := none, final := false, run := none,
    image := none, snapshot := [], fingerprint := [], variant := 0, reduced := false, inspection := 1000, lastBeat := none, plan := [], elements := [],
    buffered := [], deferred := [], late := [] }

/-- R168: blocks 0 to 15 working, 16 and 17 spare; accumulators zero. -/
def Block.reset (b : Nat) : Block :=
  { role := if b < 16 then 0 else 1, carries := 0xFF, grid := 0xFF, reading := 0, suspects := [], swapCell := none,
    starterMiss := 0, testMissed := 0, acc := [], poison := [], prevSeq := none, cacheLines := [], selLeft := [],
    selRight := [], selOut := [], outLeft := 0, outRight := 0, selWait := none, lead := 0, rowErrors := [], mapQueue := [], waiting := [], taken := 0, held := [], snapSeq := 0, snapWorked := 0,
    snapVoided := 0, snapCount := 0 }

/-- R25, R168, R460: regions 0 to 7 working, 8 checker, 9 hot spare; V_plan of manufacture. -/
def Region.reset (r : Nat) : Region :=
  { role := if r < 8 then 0 else if r = 8 then 1 else 2, supply := 800, vplan := 800, ageing := 0, speed := 10000,
    headroom := 0, endOfMargin := 0xFFFFFFFF, poweredNs := 0, replan := none, boost := 0, overAged := false, minReading := 65535,
    droop := false, droopUntil := 0, hotClassL := false, coolSince := none, over110 := false, prevSeq := [], waiting := [],
    slots := [], memMap := [], memErrors := [] }

/-- R241, R243: no NMS has run. -/
def Detect.reset : Detect := { carryAt := 0, nextId := 0, lastNms := none, region := 0, cls := 2 }

/-- R248, R251: no sequence open, no page in use. -/
def Kv.reset : Kv := { seqs := [], pages := Vector.replicate 4 [], badFrames := Vector.replicate 4 [] }

/-- R296, R298: state 0, counts zero. -/
def Stream.reset : Stream :=
  { state := 0, started := false, linkRate := 0, tag := 0, tags := [], received := 0, blanked := 0, incomplete := 0, extra := 0,
    pixelRate := 0, lastLine := 0, records := 0, triggers := [], nextTrigger := 0, missedAt := none, counter := none,
    advanced := false, hashes := [], hashRun := [], frozen := 0, clean := 0, latched := false, cut := none, cutLine := 0,
    tile := 0, tileOpen := false, tileBlanks := 0, lastClose := 0, closes := [], stats := [], ringAt := 0, frame := (0, 0),
    frameBad := false, lineOfFrame := 0, rows := [], rowsDone := 0, settings := [] }

/-- R303, R310: state 0, not yet authenticated. -/
def Head.reset : Head :=
  { state := 0, safe := true, identity := [], serial := [], pulses := 0, onTimeNs := 0, unsaved := 0, wearSeq := 0,
    slotA := false, wearDue := false, silentTries := 0, warned := false, endOfLife := false, noWear := false,
    atLimit := false, untrustedAt := none, trustedAt := none, means := [], lastM := 0, capture := false,
    driveDue := none, drive := 500, polledAt := none, wearAt := none, intervalAt := none, authAt := none }

/-- R313, R326: counts zero, all four batch slots free. -/
def Intake.reset : Intake :=
  { consumed := 0, delivered := 0, replaced := 0, hostDecoded := 0, batches := 0, padding := 0, lastReason := 0, lateReturns := 0,
    reorder := [], current := [], flushAt := [], partial_ := false, credits := 4 }

/-- R334, R336: all gates off. -/
def Axis.reset : Axis :=
  { prevA := 0, prevB := 0, prevC := 0, pwm := .gatesOff, queued := [], lastBeat := 0, position := 0, ageNs := 0,
    invalid := false, capturePos := 0, captureAt := 0, newCapture := false, indexSeen := false, clamped := false,
    stuckA := false, stuckB := false, stuckC := false, currentA := 0, currentB := 0, currentC := 0, clampBeats := [],
    sourcePos := 0, sampledAt := 0, pendingSsi := none, carrier := none, highs := 0 }

/-- R342 to R345. -/
def Input.reset : Input :=
  { raw := false, rawAt := 0, level := false, chatter := false, stuck := false, edges := [], activeSince := none }

/-- R348: low. -/
def DOut.reset : DOut := { level := false, asked := false, thermal := false, waiting := false }

/-- R353: off. -/
def Supply.reset : Supply := { state := 0, command := 0, latched := none, offs := [], offAt := 0, cause := 0 }

/-- R340. -/
def Adc.reset : Adc := { started := none, value := 0, valueAt := 0 }

/-- R327. -/
def Motion.reset : Motion :=
  { axes := Vector.replicate 16 Axis.reset, inputs := Vector.replicate 32 Input.reset,
    outputs := Vector.replicate 32 DOut.reset, supplies := Vector.replicate 16 Supply.reset,
    adcs := Vector.replicate 32 Adc.reset, lastTrigger := Vector.replicate 24 none, clamps := [] }

/-- R381. -/
def Srdo.reset : Srdo := { lastValid := 0, mask := 0xFFFF, stopDemand := false, resetBit := false, sentAt := none }

/-- R376, R382: START, the parameter set fused at manufacture in force. -/
def Crust.reset : Crust :=
  { state := .start, before := .noBeat, latches := [], hwOff := false, active := none, stored := none,
    setState := 0, reason := 0, valid := none,
    keySlots := [(1, List.replicate 32 0), (0, []), (0, []), (0, [])], single := none,
    suspectBeat := 0, disagreed := [], misses := [], compMissed := 0, resetAsked := false,
    safeStop := false, requestMask := 0xFFFF, overCurrent := 0, srdos := Vector.replicate 8 Srdo.reset }

/-- R402. -/
def Domain.reset : Domain :=
  { state := 0, gm := 0, clockClass := 255, pathDelay := 0, steps := 0, offset := 0, offsets := [], lastAnnounce := none,
    lastSync := none, heard := false, recovering := false, recovered := false, exceeded := false, port := 0xFF, stamps := [],
    waiting := none, run16 := 0, t1 := none, requestAt := none }

/-- R383, R385, R402: the count is 0 after a loss of power; 4 ns a tick. -/
def Time.reset : Time :=
  { weft := 0, frac := 0, base := 0x400000000, adj := 0, adjTicks := 0, hold := 0, clampedTicks := 0, clampTold := 0, sync := 0,
    active := none, steering := none, everActive := false, preferWait := false, syncedAt := none, holdoverAt := none,
    holdoverTold := false, utc := 0, domains := Vector.replicate 2 Domain.reset, edges := Vector.replicate 64 0, lastEdge := Vector.replicate 64 none,
    dueEdges := Vector.replicate 64 [], steeredAt := 0, syncSent := Vector.replicate 8 none, announceSent := Vector.replicate 8 none }

/-- R412, R413, R420. -/
def CanCtl.reset : CanCtl := { state := 1, tec := 0, rec_ := 0, tx := [], fifo := [], mode := 1, loopDelay := 0, onBus := none }

/-- R418, R419. -/
def TtCan.reset : TtCan :=
  { level := 0, master := 0, priority := 0xFF, cycle := 0, refMark := 0, refWeft := 0, started := 0, sawRef := false,
    missing := 0, goodRefs := 0, cleanCycles := 0, erred := false, s3 := 0, causeGone := false, leaveS3 := false,
    servedAt := 0, received := [], arbUntil := false, merged := false, matrix := [], ntu := (0, 0) }

/-- R430, R436. -/
def Port.reset : Port := { state := 1, retrains := [], paused := [], ignoring := [], waiting := [] }

/-- R422, R429: line rate, no error. -/
def Qp.reset : Qp :=
  { error := false, tries := 0, rnr := 0, rate := 1024, lastCnp := none, first := 0, timerAt := none }

/-- R428. -/
def HostQueue.reset : HostQueue := { producer := 0, consumer := 0, times := [], held := [], dropping := false, told := false, dropped := 0 }

/-- R421 to R435. -/
def Net.reset : Net :=
  { ports := Vector.replicate 8 Port.reset, refusedAt := Vector.replicate 65 none, oldWindows := [], moved := [], qps := Vector.replicate 256 Qp.reset,
    queues := Vector.replicate 16 HostQueue.reset, ringIn := [], pcieUp := false, pcieHeld := false, pcieSpeed := 0,
    pcieLanes := 0, pcieRetrains := [] }

/-- R442: domain 63 off, every other domain on. -/
def PDomain.reset (d : Nat) : PDomain :=
  { state := if d = 63 then 0 else 2, target := if d = 63 then 0 else 2, latched := none, since := 0, isolated := false, fromOff := false }

/-- R457, R460. -/
def Power.reset : Power :=
  { mainDv := 0, watts := 0, fieldDv := 0, mainOk := true, fieldOk := true, state := .run, latched := none,
    temps := Vector.replicate 64 0, excluded := [], tripped := false, droops := 0, capClassL := false, capSince := none,
    capTold := false, lifeNs := 0, replicaAt := none, ageingAt := none, tempsAt := none, hotNs := 0, domains := Vector.ofFn fun d => PDomain.reset d.val, steps := [],
    stacksOut := [], interleave := [0, 1, 2, 3], stepBeat := none }

/-- R466: a counter set after launch or reset; `least` is the one that starts at all ones. -/
def chipCounters : Vector Nat 16 := Vector.ofFn fun k => if k.val = 1 then 2 ^ 64 - 1 else 0

/-- R461 to R472. -/
def Counters.reset : Counters :=
  { chip := chipCounters, region := Vector.replicate 10 (Vector.replicate 16 0), block := [], cell := [],
    zeroAt := 0, zeroDue := false, old := none, dumps := [], dumpSeq := 0, overwritten := 0, lastLatch := 0 }

/-- R473, R474, R476, R485. -/
def Service.reset : Service :=
  { lastReset := 1, bootState := 0, bootAt := 0, bootMs := 0, readyAt := 0, beat0Due := true, auto := false, slot := 0, minVersion := 0, firmware := 0, fwSecurity := 0,
    fwA := 0, fwB := 0, fwStaging := [], fwState := 0, fwReason := 0, fwStaged := none, imgStaging := [], imgState := 0,
    imgReason := 0, imgStaged := none, imgHash := [], imgSlot := 0,
    imageKeys := [(0, []), (0, []), (0, []), (0, [])], migration := none, migrations := [], swaps := [], moves := [],
    exhausted := false, rowMap := [], mapResult := 0, coresDown := [], ignoredPackets := Vector.replicate 32 0, savedElements := [], entropy := 0 }

/-- The state right after reset: no command waits, memory lists nothing. -/
def State.reset : State :=
  { pending := [], time := .reset, log := .reset, node := .reset, dict := .reset, commit := .reset, server := .reset, basaris := .reset,
    mbx := .reset, ports := Vector.replicate 12 [], launch := .reset,
    blocks := Vector.ofFn fun i => Block.reset (i.val % 18), regions := Vector.ofFn fun i => Region.reset i.val,
    mem := { hbm := [], rmem := [], spad := [] }, marks := [], detect := Vector.replicate 24 .reset, kv := .reset,
    streams := Vector.replicate 24 .reset, heads := Vector.replicate 12 .reset, intake := Vector.replicate 8 .reset,
    motion := .reset, crust := .reset, can := Vector.replicate 4 .reset, tt := Vector.replicate 2 .reset, net := .reset,
    power := .reset, counters := .reset, service := .reset, outbox := [] }

end Sys2Proof.Machine
end

