-- ==== Sys2Proof/Machine/Ops.lean ====
section
/-!
DEFINITION. The named operations over the state that every family shares: time, units, dictionary values, memories, beats, fault records and their announcements.
-/

namespace Sys2Proof

/-! ## Values and places -/

/-- The number that a value holds. -/
def Val.num : Val → Int
  | .int v => v
  | .bytes b => Machine.leNat b

/-- The bytes that a value holds. -/
def Val.raw : Val → Bytes
  | .int _ => []
  | .bytes b => b

/-- Sizes in bytes: HBM 96 GiB (R35), a region memory 32 MiB, a scratchpad 4 MiB (R23). -/
def hbmSize : Nat := 96 * 2 ^ 30
def rmemSize : Nat := 32 * 2 ^ 20
def spadSize : Nat := 4 * 2 ^ 20

/-- Whether `n` bytes from a place lie within its memory. -/
def MemRef.inside (p : MemRef) (n : Nat) : Bool :=
  match p.space with
  | 0 => decide (p.addr + n ≤ hbmSize)
  | 1 => decide (p.region < 10 ∧ p.addr + n ≤ rmemSize)
  | 2 => decide (p.region < 10 ∧ p.block < 18 ∧ p.addr + n ≤ spadSize)
  | _ => false

/-- The bank, the row and the word in the row of a byte address: of a scratchpad (R150), and of a region memory (R160). -/
def MemRef.rowWord (p : MemRef) : Nat × Nat × Nat :=
  if p.space = 2 then (Machine.bits p.addr 10 6, Machine.bits p.addr 21 13, Machine.bits p.addr 12 11)
  else (Machine.bits p.addr 11 6, Machine.bits p.addr 24 14, Machine.bits p.addr 13 12)

/-- The key of a place in its memory's list. -/
def MemRef.key (p : MemRef) : Nat :=
  match p.space with
  | 0 => p.addr
  | 1 => p.region * rmemSize + p.addr
  | _ => (18 * p.region + p.block) * spadSize + p.addr

end Sys2Proof

namespace Sys2Proof.Machine

/-! ## Time (R10, R383 to R385) -/

/-- The sum that a tick adds is clamped outside these bounds (R383). -/
def tickLo : Int := 17162689315
def tickHi : Int := 17197049053

/-- Whether the hardware clamps a sum (R383). -/
def tickClamped (sum : Int) : Bool := decide (sum < tickLo ∨ tickHi < sum)

/-- Time passes to weft count `t`: the count never decreases and stands still in a hold (R385); a running adjustment loses the ticks that passed and ends by itself (R384); clamped ticks are counted (R383). -/
def Time.advance (tm : Time) (t : Nat) : Time :=
  if tm.hold ≠ 0 ∨ t ≤ tm.weft then tm
  else
    let ticks := t / 4 - tm.weft / 4
    let adjusted := min ticks tm.adjTicks
    let left := tm.adjTicks - adjusted
    let clamped := (if tickClamped (tm.base + tm.adj) then adjusted else 0)
      + (if tickClamped tm.base then ticks - adjusted else 0)
    { tm with weft := t, adjTicks := left, adj := if left = 0 then 0 else tm.adj, clampedTicks := (tm.clampedTicks + clamped) % 2 ^ 32 }

/-- One tick of 4 ns (R383 to R385). -/
def Time.tick (tm : Time) : Time :=
  if tm.hold ≠ 0 then { tm with hold := tm.hold - 1, frac := if tm.hold = 1 then 0 else tm.frac }
  else
    let sum := (tm.base : Int) + if tm.adjTicks = 0 then 0 else tm.adj
    let total := (tm.weft : Int) * 2 ^ 32 + tm.frac + clampI tickLo tickHi sum
    { tm with
      weft := (total / 2 ^ 32).toNat
      frac := (total % 2 ^ 32).toNat
      adjTicks := tm.adjTicks - 1
      adj := if tm.adjTicks ≤ 1 then 0 else tm.adj
      clampedTicks := (tm.clampedTicks + b2n (tickClamped sum)) % 2 ^ 32 }

/-- The state at weft count `t`. -/
def State.advance (s : State) (t : Nat) : State := { s with time := s.time.advance t }

/-- The weft count now. -/
def State.now (s : State) : Nat := s.time.weft

/-! ## Units -/

/-- The index of block r.b among the 180 blocks (R77). -/
def blk (r : Fin 10) (b : Fin 18) : Fin 180 := ⟨18 * r.val + b.val, by omega⟩

/-- Block r.b. -/
def State.block (s : State) (r : Fin 10) (b : Fin 18) : Block := s.blocks[blk r b]

/-- Block r.b changed by `f`. -/
def State.modBlock (s : State) (r : Fin 10) (b : Fin 18) (f : Block → Block) : State :=
  { s with blocks := upd s.blocks (blk r b) f }

/-- Region r changed by `f`. -/
def State.modRegion (s : State) (r : Fin 10) (f : Region → Region) : State := { s with regions := upd s.regions r f }

/-- Every block changed by `f` of its number. -/
def State.modBlocks (s : State) (f : Nat → Block → Block) : State := { s with blocks := updAll s.blocks f }

/-- Every region changed by `f` of its number. -/
def State.modRegions (s : State) (f : Nat → Region → Region) : State := { s with regions := updAll s.regions f }

/-- The memories changed by `f`. -/
def State.modMem (s : State) (f : Mem → Mem) : State := { s with mem := f s.mem }

/-- The marks of lost data changed by `f`. -/
def State.modMarks (s : State) (f : List BadLane → List BadLane) : State := { s with marks := f s.marks }

/-- The fault log changed by `f`. -/
def State.modLog (s : State) (f : FaultLog → FaultLog) : State := { s with log := f s.log }

/-- The buffer of a core's port changes. -/
def State.setPort (s : State) (core : Fin 12) (area : Bytes) : State := { s with ports := s.ports.set core area }

/-- Stream n changed by `f`. -/
def State.modStream (s : State) (n : Fin 24) (f : Stream → Stream) : State := { s with streams := upd s.streams n f }

/-- Head h changed by `f`. -/
def State.modHead (s : State) (h : Fin 12) (f : Head → Head) : State := { s with heads := upd s.heads h f }

/-- Intake queue q changed by `f`. -/
def State.modIntake (s : State) (q : Fin 8) (f : Intake → Intake) : State := { s with intake := upd s.intake q f }

/-- Detection state of stream n changed by `f`. -/
def State.modDetect (s : State) (n : Fin 24) (f : Detect → Detect) : State := { s with detect := upd s.detect n f }

/-- The detection state of every stream is cleared. -/
def State.clearDetect (s : State) : State := { s with detect := Vector.replicate 24 .reset }

/-- The motion unit changed by `f`. -/
def State.modMotion (s : State) (f : Motion → Motion) : State := { s with motion := f s.motion }

/-- Axis k changed by `f`. -/
def State.modAxis (s : State) (k : Fin 16) (f : Axis → Axis) : State :=
  s.modMotion fun m => { m with axes := upd m.axes k f }

/-- Digital input k changed by `f`. -/
def State.modInput (s : State) (k : Fin 32) (f : Input → Input) : State :=
  s.modMotion fun m => { m with inputs := upd m.inputs k f }

/-- Digital output k changed by `f`. -/
def State.modOutput (s : State) (k : Fin 32) (f : DOut → DOut) : State :=
  s.modMotion fun m => { m with outputs := upd m.outputs k f }

/-- Sensor supply k changed by `f`. -/
def State.modSupply (s : State) (k : Fin 16) (f : Supply → Supply) : State :=
  s.modMotion fun m => { m with supplies := upd m.supplies k f }

/-- ADC channel k changed by `f`. -/
def State.modAdc (s : State) (k : Fin 32) (f : Adc → Adc) : State := s.modMotion fun m => { m with adcs := upd m.adcs k f }

/-- The Crust changed by `f`. -/
def State.modCrust (s : State) (f : Crust → Crust) : State := { s with crust := f s.crust }

/-- The time unit changed by `f`. -/
def State.modTime (s : State) (f : Time → Time) : State := { s with time := f s.time }

/-- PTP domain d changed by `f`. -/
def State.modDomain (s : State) (d : Fin 2) (f : Domain → Domain) : State :=
  s.modTime fun tm => { tm with domains := upd tm.domains d f }

/-- CAN controller c changed by `f`. -/
def State.modCan (s : State) (c : Fin 4) (f : CanCtl → CanCtl) : State := { s with can := upd s.can c f }

/-- TTCAN of controller c changed by `f`. -/
def State.modTt (s : State) (c : Fin 2) (f : TtCan → TtCan) : State := { s with tt := upd s.tt c f }

/-- The network unit changed by `f`. -/
def State.modNet (s : State) (f : Net → Net) : State := { s with net := f s.net }

/-- Ethernet port p changed by `f`. -/
def State.modPort (s : State) (p : Fin 8) (f : Port → Port) : State := s.modNet fun n => { n with ports := upd n.ports p f }

/-- Queue pair q changed by `f`. -/
def State.modQp (s : State) (q : Fin 256) (f : Qp → Qp) : State := s.modNet fun n => { n with qps := upd n.qps q f }

/-- Host output queue q changed by `f`. -/
def State.modQueue (s : State) (q : Fin 16) (f : HostQueue → HostQueue) : State :=
  s.modNet fun n => { n with queues := upd n.queues q f }

/-- The power manager changed by `f`. -/
def State.modPower (s : State) (f : Power → Power) : State := { s with power := f s.power }

/-- Power domain d changed by `f`. -/
def State.modPd (s : State) (d : Fin 72) (f : PDomain → PDomain) : State :=
  s.modPower fun p => { p with domains := upd p.domains d f }

/-- The service unit changed by `f`. -/
def State.modService (s : State) (f : Service → Service) : State := { s with service := f s.service }

/-- The launch control changed by `f`. -/
def State.modLaunch (s : State) (f : Launch → Launch) : State := { s with launch := f s.launch }

/-- The commit control changed by `f`. -/
def State.modCommit (s : State) (f : CommitCtl → CommitCtl) : State := { s with commit := f s.commit }

/-- The dictionary server changed by `f`. -/
def State.modServer (s : State) (f : Server → Server) : State := { s with server := f s.server }

/-- The dictionary changed by `f`. -/
def State.modDict (s : State) (f : Dict → Dict) : State := { s with dict := f s.dict }

/-- Basaris changed by `f`. -/
def State.modBasaris (s : State) (f : Basaris → Basaris) : State := { s with basaris := f s.basaris }

/-- The PCIe mailbox changed by `f`. -/
def State.modMbx (s : State) (f : Mailbox → Mailbox) : State := { s with mbx := f s.mbx }

/-- The CANopen node changed by `f`. -/
def State.modNode (s : State) (f : CanNode → CanNode) : State := { s with node := f s.node }

/-- The KV store changed by `f`. -/
def State.modKv (s : State) (f : Kv → Kv) : State := { s with kv := f s.kv }

/-- The counters changed by `f`. -/
def State.modCounters (s : State) (f : Counters → Counters) : State := { s with counters := f s.counters }

/-- Output `o` leaves the device. -/
def State.emit (s : State) (o : Output) : State := { s with outbox := s.outbox ++ [o] }

/-- The 802.1p priority of what goes over Ethernet (R423). -/
def Output.priority : Output → Nat
  | .basaris p _ _ _ _ => p
  | .rdma p _ _ _ => p
  | .retransmit p _ _ => p
  | .ringSend p _ _ _ => p
  | .ptp _ _ _ => 7
  | _ => 0

/-- Whether a port holds back frames of a priority: the peer has paused it (R430). -/
def Port.holds (p : Port) (prio : Nat) : Bool := p.paused.any fun e => e.1.val == prio

/-- A frame is sent by a port, or waits there while its priority is paused (R423, R430). -/
def State.transmit (s : State) (p : Fin 8) (o : Output) : State :=
  if s.net.ports[p].holds o.priority then s.modPort p fun x => { x with waiting := x.waiting ++ [o] } else s.emit o

/-- The waiting frames of a port whose priority is not paused are sent, in strict order of priority (R423). -/
def State.transmitWaiting (s : State) (p : Fin 8) : State :=
  let x := s.net.ports[p]
  let free := x.waiting.filter fun o => !x.holds o.priority
  let s1 := s.modPort p fun x => { x with waiting := x.waiting.filter fun o => x.holds o.priority }
  ((List.range 8).reverse.flatMap fun k => free.filter fun o => o.priority == k).foldl (fun acc o => acc.emit o) s1

/-! ## Dictionary values (R108, R110, R380) -/

/-- The active value of an object that the device stores: of a crust object in the active parameter set, of any other in the dictionary; else its default. -/
def State.obj (s : State) (key : Key) : Val :=
  let crust := match s.crust.active with
    | some p => get? p.values key
    | none => none
  match crust with
  | some v => v
  | none => match get? s.dict.active key with
    | some v => v
    | none => defaultOf key

/-- The active value of a numeric object. -/
def State.int (s : State) (key : Key) : Int := (s.obj key).num

/-- The active value of an unsigned object. -/
def State.nat (s : State) (key : Key) : Nat := (s.int key).toNat

/-- The active value of a BOOLEAN object. -/
def State.flag (s : State) (key : Key) : Bool := s.nat key != 0

/-- The active bytes of a DOMAIN object. -/
def State.raw (s : State) (key : Key) : Bytes := (s.obj key).raw

/-- The active value of an object becomes `v`; a default value is not listed. -/
def State.setObj (s : State) (key : Key) (v : Val) : State :=
  s.modDict fun d => { d with active := if v = defaultOf key then del d.active key else put d.active key v }

/-- The width of a counter object in bits. -/
def counterWidth (key : Key) : Nat :=
  match rowOf key with
  | some r => 8 * r.ty.size
  | none => 64

/-- A counter object rises by `n`, modulo its width. -/
def State.bump (s : State) (key : Key) (n : Nat := 1) : State :=
  s.setObj key (.int ((s.nat key + n) % 2 ^ counterWidth key : Nat))

/-- Saturations are counted (R179, R210). -/
def State.countSat (s : State) (n : Nat) : State := if n = 0 then s else s.bump (ob 0x3400 0x0A) n

/-- Counters that count since launch return to 0 (R82). -/
def State.clearKeys (s : State) (keys : List Key) : State :=
  s.modDict fun d => { d with active := d.active.filter fun e => !keys.contains e.1 }

/-- The next free value of the model at place `p`: the counter of draws advances. -/
def State.draw (s : State) (p : Nat) (ops : List Int) : Int × State :=
  (Config.free p s.service.entropy ops, s.modService fun v => { v with entropy := v.entropy + 1 })

/-- A free value as a number of `w` bits. -/
def State.drawNat (s : State) (p w : Nat) (ops : List Int) : Nat × State :=
  let d := s.draw p ops
  (pattern w d.1, d.2)

/-- Counter `k` of the chip set, at offset 8·k, rises by `n` (R466). -/
def State.countChip (s : State) (k : Fin 16) (n : Nat) : State :=
  s.modCounters fun c => { c with chip := c.chip.set k ((c.chip[k] + n) % 2 ^ 64) }

/-- Counter `k` of region r's set, at offset 8·k, rises by `n` (R466). -/
def State.countRegion (s : State) (r : Fin 10) (k : Fin 16) (n : Nat) : State :=
  s.modCounters fun c => { c with region := upd c.region r fun v => v.set k ((v[k] + n) % 2 ^ 64) }

/-- Tokens of an engine of region r whose number the manual does not give: a free value (R466). -/
def State.countTokens (s : State) (r : Fin 10) (k : Fin 16) : State :=
  let d := s.drawNat 13 32 []
  d.2.countRegion r k d.1

/-- Counter `k` of block r.b's set, at offset 8·k, rises by `n` (R466). -/
def State.countBlock (s : State) (r : Fin 10) (b : Fin 18) (k : Fin 18) (n : Nat) : State :=
  if n = 0 then s else
    s.modCounters fun c =>
      let key := 18 * (18 * r.val + b.val) + k.val
      { c with block := put c.block key (((get? c.block key).getD 0 + n) % 2 ^ 64) }

/-- Counter `k` of a cell, tokens or saturations, rises by `n` (R467). -/
def State.countCell (s : State) (r : Fin 10) (b : Fin 18) (cell : Nat) (k : Nat) (n : Nat) : State :=
  if n = 0 then s else
    s.modCounters fun c =>
      let key := 2 * (65 * (18 * r.val + b.val) + cell) + k
      { c with cell := put c.cell key (((get? c.cell key).getD 0 + n) % 2 ^ 64) }

/-! ## Memories (R150, R160, R443) -/

/-- What a byte reads as that nothing has written since reset: 0. -/
def unwritten : Byte := 0

/-- The byte at an address. -/
def cellGet (m : List Host.Cell) (a : Nat) : Byte := (get? m a).getD unwritten

/-- The byte at an address becomes `b`; the list stays sorted and lists no byte equal to what an unlisted one reads as. -/
def cellPut (m : List Host.Cell) (a : Nat) (b : Byte) : List Host.Cell := if b = unwritten then del m a else put m a b

/-- Bytes written from address `a` on. -/
def cellsPut (m : List Host.Cell) (a : Nat) (bs : Bytes) : List Host.Cell :=
  match bs with
  | [] => m
  | b :: rest => cellsPut (cellPut m a b) (a + 1) rest

/-- `n` bytes read from address `a` on. -/
def cellsGet (m : List Host.Cell) (a n : Nat) : Bytes := (List.range n).map fun i => cellGet m (a + i)

/-- The canonical form of a memory: addresses strictly rising, no entry equal to what an unlisted address reads as. -/
def cellsWf : List Host.Cell → Bool
  | [] => true
  | [e] => decide (e.2 ≠ unwritten)
  | e :: f :: rest => decide (e.2 ≠ unwritten) && decide (e.1 < f.1) && cellsWf (f :: rest)

/-- The canonical form of all three memories. -/
def Mem.wf (m : Mem) : Bool := cellsWf m.hbm && cellsWf m.rmem && cellsWf m.spad

/-- `n` bytes read at a place. -/
def Mem.get (m : Mem) (p : MemRef) (n : Nat) : Bytes :=
  match p.space with
  | 0 => cellsGet m.hbm p.key n
  | 1 => cellsGet m.rmem p.key n
  | _ => cellsGet m.spad p.key n

/-- Bytes written at a place. -/
def Mem.put (m : Mem) (p : MemRef) (bs : Bytes) : Mem :=
  match p.space with
  | 0 => { m with hbm := cellsPut m.hbm p.key bs }
  | 1 => { m with rmem := cellsPut m.rmem p.key bs }
  | _ => { m with spad := cellsPut m.spad p.key bs }

/-- `n` bytes read at a place. -/
def State.load (s : State) (p : MemRef) (n : Nat) : Bytes := s.mem.get p n

/-- Whether a lane's eight bytes lie within `n` bytes from key `a` of a memory. -/
def BadLane.within (k : BadLane) (space a n : Nat) : Bool :=
  k.space == space && decide (a ≤ k.word + 8 * k.lane ∧ k.word + 8 * k.lane + 8 ≤ a + n)

/-- Whether a read of `n` bytes from key `a` meets the mark: the lane itself, or of poison any byte of its word (R151, R158). -/
def BadLane.meets (k : BadLane) (space a n : Nat) : Bool :=
  k.space == space && (if k.poison then decide (a < k.word + 64 ∧ k.word < a + n) else decide (a < k.word + 8 * k.lane + 8 ∧ k.word + 8 * k.lane < a + n))

/-- Bytes written at a place; lanes written whole hold good data again (R158). -/
def State.store (s : State) (p : MemRef) (bs : Bytes) : State :=
  (s.modMem fun m => m.put p bs).modMarks fun ms => ms.filter fun k => !k.within p.space p.key bs.length

/-- A place in region memory. -/
def rmemAt (r : Nat) (a : Nat) : MemRef := ⟨1, r, 0, a⟩

/-! ## Beats (R82) -/

/-- Release count n of a launch. -/
def Run.countOf (run : Run) (n : Nat) : Nat := run.start + n * run.period

/-- The first beat that begins at or after a count. -/
def Run.firstBeatAt (run : Run) (t : Nat) : Nat := if t ≤ run.start then 0 else divUp (t - run.start) run.period

/-- Whether a launch runs (0x3C00:05 reads 3 or 4). -/
def State.running (s : State) : Bool := s.launch.run.isSome

/-- The current beat number, 0 while no launch runs. -/
def State.beat (s : State) : Nat :=
  match s.launch.run with
  | some run => run.beat
  | none => 0

/-- Whether an event that comes every `period` ns is due: it has not come yet, or the period has passed since it last came (log entry 1). -/
def State.due (s : State) (last : Option Nat) (period : Nat) : Bool :=
  match last with
  | some t => decide (t + period ≤ s.now)
  | none => true

/-- Whether pace mode runs (R87). -/
def State.paceMode (s : State) : Bool :=
  match s.launch.run with
  | some run => run.pace
  | none => false

/-- The code of a launch state (0x3C00:05). -/
def LaunchState.code : LaunchState → Nat
  | .none => 0
  | .proposed => 1
  | .confirmed => 2
  | .running => 3
  | .holdover => 4
  | .aborted => 5
  | .acknowledged => 6

/-- The launch state reads 1 to 4 or 6: the count may not be stepped (R385). -/
def State.launching (s : State) : Bool := s.launch.state.code != 0 && s.launch.state.code != 5

/-- Bits of a field placed at bit `lo`, `w` wide. -/
def at_ (w lo v : Nat) : Nat := (v % 2 ^ w) <<< lo

/-- Bits of a signed field. -/
def atI (w lo : Nat) (v : Int) : Nat := pattern w v <<< lo

/-! ## Fault records (R38 to R43) -/

/-- A location: 0xFF where not applicable (R38). -/
structure Loc where
  region : Nat := 0xFF
  block : Nat := 0xFF
  cell : Nat := 0xFF
  unit : Nat := 0xFF
deriving DecidableEq, Repr

/-- The location of a fault of the chip. -/
def Loc.chip : Loc := {}
/-- A unit of the chip. -/
def Loc.ofUnit (u : Nat) : Loc := { unit := u }
/-- A region. -/
def Loc.ofRegion (r : Nat) : Loc := { region := r }
/-- A block. -/
def Loc.ofBlock (r b : Nat) : Loc := { region := r, block := b }
/-- A cell. -/
def Loc.ofCell (r b c : Nat) : Loc := { region := r, block := b, cell := c }

/-- Level and class of each fault code, from the fault tables of the chapters: level 0 cell, 1 block, 2 region, 3 chip, 9 block or region by its location; class 0 correctable, 1 contained, 2 degraded, 3 safety. -/
def faultTable : List (Nat × Nat × Nat) :=
  [(0x0101, 2, 0), (0x0102, 2, 2), (0x0103, 1, 2), (0x0104, 2, 0), (0x0106, 3, 1), (0x0107, 1, 2), (0x0108, 1, 1),
   (0x0201, 9, 0), (0x0202, 9, 1), (0x0203, 9, 2), (0x0204, 9, 2), (0x0205, 0, 1), (0x0206, 0, 2), (0x0207, 1, 2), (0x0208, 9, 1), (0x020A, 1, 0),
   (0x0301, 1, 1), (0x0302, 1, 1), (0x0303, 2, 0), (0x0304, 2, 0), (0x0305, 2, 0), (0x0306, 2, 1),
   (0x0401, 1, 1), (0x0402, 1, 1), (0x0403, 1, 0), (0x0404, 1, 1), (0x0405, 1, 1),
   (0x0501, 2, 1), (0x0502, 2, 0), (0x0503, 2, 1), (0x0504, 2, 0), (0x0505, 2, 0),
   (0x0601, 2, 1), (0x0602, 2, 1), (0x0603, 2, 1), (0x0604, 2, 1), (0x0605, 2, 1), (0x0606, 2, 1)] ++
  [(0x0701, 3, 1), (0x0702, 3, 1), (0x0703, 3, 1), (0x0704, 3, 0), (0x0705, 3, 1), (0x0706, 3, 0), (0x0707, 3, 0), (0x0708, 3, 1),
   (0x0801, 3, 2), (0x0802, 3, 0), (0x0803, 3, 2), (0x0804, 3, 2), (0x0805, 3, 0), (0x0806, 3, 2), (0x0807, 3, 1),
   (0x0901, 2, 1), (0x0902, 2, 0), (0x0903, 2, 1),
   (0x0A01, 3, 0), (0x0A03, 3, 1), (0x0A04, 3, 1), (0x0A05, 3, 0), (0x0A06, 3, 1), (0x0A07, 3, 1), (0x0A08, 3, 1), (0x0A09, 3, 2), (0x0A0A, 3, 0), (0x0A0B, 3, 0),
   (0x0B01, 2, 0), (0x0B02, 3, 3), (0x0B03, 3, 1), (0x0B04, 2, 2), (0x0B05, 1, 2), (0x0B07, 3, 2), (0x0B08, 3, 0), (0x0B09, 3, 1), (0x0B0B, 2, 1), (0x0B0D, 3, 0), (0x0B0E, 3, 0)] ++
  [(0x0C01, 3, 2), (0x0C02, 3, 2), (0x0C03, 3, 0), (0x0C04, 3, 0), (0x0C05, 3, 2), (0x0C06, 3, 0), (0x0C07, 3, 0),
   (0x0D01, 3, 2), (0x0D02, 3, 0), (0x0D03, 3, 0), (0x0D04, 3, 0), (0x0D05, 3, 0), (0x0D06, 3, 1), (0x0D07, 3, 0), (0x0D08, 3, 0),
   (0x0E01, 3, 1), (0x0E02, 3, 1), (0x0E03, 3, 0), (0x0E04, 3, 2), (0x0E05, 3, 0), (0x0E06, 3, 0),
   (0x0F01, 3, 1), (0x0F02, 3, 2), (0x0F03, 3, 1), (0x0F04, 3, 0), (0x0F05, 3, 1), (0x0F06, 3, 2), (0x0F07, 3, 0)] ++
  [(0x1001, 3, 2), (0x1002, 3, 2), (0x1003, 2, 0), (0x1004, 2, 0), (0x1005, 2, 2), (0x1006, 3, 2), (0x1007, 2, 0), (0x1008, 2, 2), (0x1009, 3, 2), (0x100A, 3, 0), (0x100B, 2, 0), (0x100C, 3, 0), (0x100D, 3, 1),
   (0x1101, 3, 2), (0x1102, 3, 2), (0x1103, 3, 0), (0x1104, 3, 1), (0x1105, 3, 0), (0x1106, 2, 2), (0x1107, 2, 0), (0x1108, 2, 1), (0x1109, 3, 2)]

/-- The class of a fault: of the table, but for 0x0D04, whose class follows the new level in its detail (R419). -/
def faultClass (code cls detail : Nat) : Nat := if code = 0x0D04 then detail % 256 - 1 else cls

/-- The fixed part of a new record of a code at a location. -/
def FaultRec.make (code : Nat) (loc : Loc) (detail part weft seq : Nat) : FaultRec :=
  let lc := (get? faultTable code).getD (3, 0)
  { code := code, level := if lc.1 = 9 then (if loc.block = 0xFF then 2 else 1) else lc.1, cls := faultClass code lc.2 detail,
    region := loc.region, block := loc.block, cell := loc.cell, unit := loc.unit, detail := detail % 2 ^ 64,
    weft := weft, seq := seq, part := part, rep := 0 }

/-- Bytes 0 to 29 of a record (R38). -/
def FaultRec.body (r : FaultRec) : Bytes :=
  leBytes 2 r.code ++ leBytes 1 r.level ++ leBytes 1 r.cls ++ leBytes 1 r.unit ++ leBytes 1 r.cell ++ leBytes 1 r.block
    ++ leBytes 1 r.region ++ leBytes 8 r.weft ++ leBytes 8 r.detail ++ leBytes 4 r.seq ++ leBytes 1 r.part ++ leBytes 1 r.rep

/-- The 32 bytes of a record, its crc last (R38). -/
def FaultRec.bytes (r : FaultRec) : Bytes := r.body ++ leBytes 2 (crc16 r.body)

/-- Whether a new correctable fault coalesces into record `o`: same code and location, no later than the window after its first occurrence (R41). -/
def FaultRec.absorbs (o n : FaultRec) (windowNs : Nat) : Bool :=
  decide (o.cls = 0 ∧ o.code = n.code ∧ o.level = n.level ∧ o.region = n.region ∧ o.block = n.block ∧ o.cell = n.cell
    ∧ o.unit = n.unit ∧ o.weft ≤ n.weft ∧ n.weft ≤ o.weft + windowNs)

/-- The ring with the occurrence counted in the latest record that absorbs it, or none where no record does (R41). -/
def coalesceInto (ring : List FaultRec) (n : FaultRec) (windowNs : Nat) : Option (List FaultRec) :=
  match ring with
  | [] => none
  | o :: rest =>
    match coalesceInto rest n windowNs with
    | some rest' => some (o :: rest')
    | none => if o.absorbs n windowNs then some ({ o with rep := min 255 (o.rep + 1) } :: rest) else none

/-- Records of class degraded or safety (R41, R43). -/
def FaultRec.serious (r : FaultRec) : Bool := decide (2 ≤ r.cls)

/-- A new record enters the ring; a full ring loses its oldest record (R41). -/
def FaultLog.append (g : FaultLog) (r : FaultRec) : FaultLog :=
  let ring := g.ring ++ [r]
  { ring := lastN 4096 ring
    nextSeq := (g.nextSeq + 1) % 2 ^ 32
    lost := if 4096 < ring.length then (g.lost + 1) % 2 ^ 32 else g.lost
    persistent := if r.serious then lastN 1024 (g.persistent ++ [r]) else g.persistent
    unacked := if r.serious then g.unacked ++ [r.seq] else g.unacked }

/-- 0x1001:00: bits 0 and 7 while a record of class degraded or safety is unacknowledged (R43, R111). -/
def State.errorRegister (s : State) : Nat := if s.log.unacked.isEmpty then 0 else 0x81

/-! ## Emergencies (R130, R134 to R136) -/

/-- Whether a power domain serves: it is on, or shutting down with work in flight (R442, R444). -/
def State.domainServes (s : State) (d : Nat) : Bool :=
  if h : d < 72 then s.power.domains[(⟨d, h⟩ : Fin 72)].state == 2 || s.power.domains[(⟨d, h⟩ : Fin 72)].state == 3 else false

/-- Whether any Ethernet port has power; in standby none has (R37, R441). -/
def State.ethernetPowered (s : State) : Bool := (s.domainServes 50 || s.domainServes 51) && s.domainServes 71

/-- The EMCY message of a record (R136). -/
def emcyOf (r : FaultRec) (errorRegister : Nat) : Emcy :=
  { emcyCode := 0xFF00 + r.cls, errorRegister := errorRegister, faultCode := r.code, cls := r.cls, level := r.level,
    seqLow := r.seq % 2 ^ 16 }

/-- The controller of the CANopen node (R406). -/
def State.nodeCtl (s : State) : Fin 4 := Fin.ofNat 4 (s.nat (ob 0x2300 2))

/-- Whether a controller can send for the CANopen node: enabled, in normal mode, neither bus-off nor recovering (R403, R412, R413). -/
def State.ctlSends (s : State) (c : Fin 4) : Bool :=
  s.flag (ob (0x2310 + c.val) 1) && s.can[c].mode == 1 && decide (s.can[c].state < 3)

/-- A frame of the CANopen node leaves on a controller and is counted as sent (R420). -/
def State.frameOn (s : State) (c : Fin 4) (o : Output) : State := if s.ctlSends c then (s.emit o).bump (ob (0x2380 + c.val) 4) else s

/-- Whether the CANopen node can send on its own controller (R406). -/
def State.nodeSends (s : State) : Bool := s.ctlSends s.nodeCtl

/-- A frame of the CANopen node leaves on its own controller (R406, R420). -/
def State.nodeFrame (s : State) (o : Output) : State := s.frameOn s.nodeCtl o

/-- An EMCY message is sent on CAN with the identifier in 0x1014 and starts the inhibit time of 0x1015, in units of 100 µs (R111, R136). -/
def State.sendEmcy (s : State) (m : Emcy) : State :=
  (s.nodeFrame (.emcy (s.nat (ob 0x1014 0) % 2 ^ 29) m)).modNode fun n => { n with inhibit := some (s.now + 100000 * s.nat (ob 0x1015 0)) }

/-- Whether the inhibit time runs (R136). -/
def State.inhibited (s : State) : Bool :=
  match s.node.inhibit with
  | some e => decide (s.now < e)
  | none => false

/-- An EMCY message takes part in the limit of 16 waiting messages: it is sent, waits, or takes the place of the oldest waiting one (R43, R136); bit 31 of 0x1014 disables the producer (R111). -/
def State.queueEmcy (s : State) (m : Emcy) : State :=
  if bit (s.nat (ob 0x1014 0)) 31 then s
  else if !s.inhibited && s.node.queue.isEmpty then s.sendEmcy m
  else if s.node.queue.length < 16 then s.modNode fun n => { n with queue := n.queue ++ [m] }
  else (s.modNode fun n => { n with queue := n.queue.drop 1 ++ [m] }).bump (ob 0x2300 3)

/-- The emergency frame to one open Basaris session, with the device's own rising sequence number; it waits 100 ms for its acknowledge (R130, R136). -/
def BSession.announce (b : BSession) (r : FaultRec) (now : Nat) : BSession :=
  { b with txSeq := (b.txSeq + 1) % 2 ^ 32, emergencies := b.emergencies ++ [⟨r, b.txSeq, 0, 100000000 + now⟩] }

/-- The header of a frame that the device sends (R127). -/
def frameHeader (type flags length session seq weft status : Nat) : BitVec 256 :=
  BitVec.ofNat 256 (at_ 16 0 0xBA5A ||| at_ 8 16 1 ||| at_ 8 24 type ||| at_ 16 32 flags ||| at_ 16 48 length ||| at_ 32 64 session ||| at_ 32 96 seq
    ||| at_ 64 128 weft ||| at_ 32 192 status)

/-- R127: the tag of a frame under a key: the first 16 bytes of HMAC-SHA-256 over header and payload. -/
def tagOf (key : Bytes) (header : BitVec 256) (payload : Bytes) : Bytes := (hmac key (leBytes 32 header.toNat ++ payload)).take 16

/-- R131: launch frames. -/
def launchType (type : Nat) : Bool := decide (0x10 ≤ type ∧ type ≤ 0x13)

/-- A frame that the device sends: header with the weft count of sending, payload, tag, and its 802.1p priority, of launch frames 0x2400:09, of all others 4 (R126, R127, R423). -/
def State.wire (s : State) (key : Bytes) (peer session type flags seq status : Nat) (payload : Bytes) : Output :=
  let h := frameHeader type flags payload.length session seq s.now status
  .basaris (if launchType type then s.nat (ob 0x2400 9) else 4) peer h payload (tagOf key h payload)

/-- A Basaris frame leaves while an Ethernet port has power (R37, R126). -/
def State.sendWire (s : State) (o : Output) : State := if s.ethernetPowered then s.emit o else s

/-- Emergency frames to every open session (R136). -/
def State.announceBasaris (s : State) (r : FaultRec) : State :=
  let s' := s.basaris.sessions.foldl (fun acc b => acc.sendWire (s.wire b.key b.peer b.num 0x07 0 b.txSeq 0 r.bytes)) s
  s'.modBasaris fun x => { x with sessions := x.sessions.map fun b => b.announce r s.now }

/-- The record enters the emergency ring of the mailbox, unless the ring is full or the mailbox disabled (R134). -/
def State.announcePcie (s : State) (r : FaultRec) : State :=
  if !s.flag (ob 0x2020 8) then s
  else
    let next := s.mbx.head + 1
    if next = s.mbx.tail then s.bump (ob 0x2020 9)
    else
      let s' := s.modMbx fun m => { m with head := next, slots := (m.slots.filter fun e => e.1 != m.head) ++ [(m.head, r)] }
      if s.mbx.ctrl.getLsbD 1 then s'.emit (.msix 1) else s'

/-- A record at or above the notification threshold is announced on every path (R41, R136). The error register of its EMCY message is the one at this moment, also where the message waits (DESIGN CHOICE, log entry 50). -/
def State.announce (s : State) (r : FaultRec) : State :=
  if r.cls < s.nat (ob 0x5810 7) then s
  else (((s.queueEmcy (emcyOf r s.errorRegister)).announceBasaris r).announcePcie r).emit (.coreEmergency r)

/-- A record enters the log, by coalescing or as a new record that is announced (R38, R41). -/
def State.record (s : State) (r : FaultRec) : State :=
  match if r.cls = 0 ∧ s.nat (ob 0x5810 8) ≠ 0 then coalesceInto s.log.ring r (1000 * s.nat (ob 0x5810 8)) else none with
  | some ring => s.modLog fun l => { l with ring := ring }
  | none => ((s.modLog fun l => l.append r).announce r).countChip 15 1

/-- A fault of the tables is recorded (R38, R41). -/
def State.recordFault (s : State) (code : Nat) (loc : Loc) (detail part : Nat) : State :=
  s.record (FaultRec.make code loc detail part s.now s.log.nextSeq)

/-- Where an EMCY message has displaced a waiting one since the count stood at `before`, fault 0x0E06 is written once per second while this continues (R136). -/
def State.tellDisplaced (s : State) (before : Nat) : State :=
  let due := match s.node.displacedAt with
    | some t => decide (1000000000 + t ≤ s.now)
    | none => true
  if decide (s.nat (ob 0x2300 3) ≠ before) && due then
    (s.modNode fun n => { n with displacedAt := some s.now }).recordFault 0x0E06 .chip (s.nat (ob 0x2300 3)) 0
  else s

/-- A fault is detected and recorded, and a displaced EMCY message is reported (R38, R136). -/
def State.fault (s : State) (code : Nat) (loc : Loc) (detail : Nat) (part : Nat := 0) : State :=
  (s.recordFault code loc detail part).tellDisplaced (s.nat (ob 0x2300 3))

/-- A contained fault of a chapter whose tables give it no code: the code is a free value within the chapter's range of R40 (R48; DESIGN CHOICE, log entry 51). -/
def State.faultInRange (s : State) (range level : Nat) (loc : Loc) (detail part : Nat) : State :=
  let d := s.drawNat 64 8 [(range : Int)]
  (d.2.record { FaultRec.make (range + d.1) loc detail part s.now s.log.nextSeq with level := level, cls := 1 }).tellDisplaced (s.nat (ob 0x2300 3))

/-- A serious record is acknowledged; when the last one is, bits 0 and 7 of the error register clear and the error-reset EMCY message is sent, which takes part in the limit of waiting messages (R43, R136). -/
def State.acknowledge (s : State) (keep : Nat → Bool) : State :=
  let left := s.log.unacked.filter keep
  let s' := s.modLog fun l => { l with unacked := left }
  if left.isEmpty && !s.log.unacked.isEmpty then
    (s'.queueEmcy { emcyCode := 0, errorRegister := 0, faultCode := 0, cls := 0, level := 0, seqLow := 0 }).tellDisplaced (s.nat (ob 0x2300 3))
  else s'

/-- 0x5810:09: every serious record at or below the sequence number written is acknowledged (R43). -/
def State.acknowledgeUpTo (s : State) (seq : Nat) : State := s.acknowledge fun q => !atOrAfter seq q

end Sys2Proof.Machine
end

