-- ==== Sys2Proof/Machine/Reactions.lean ====
section
/-!
DEFINITION. What the Crust does to the outputs: effective enables, output-off, fault reactions, resets, single channel (R336, R367, R375 to R378), and the clamps of values to its limits (R357).
-/

namespace Sys2Proof.Machine

/-- The object of a Crust axis limit. -/
def crustAxis (k sub : Nat) : Key := ob (0x4820 + k) sub

/-- The Crust's object of a stream. -/
def crustStream (n sub : Nat) : Key := ob (0x4850 + n) sub

/-- Codes of 0x4800:01 (R376). -/
def CrustState.code : CrustState → Nat
  | .start => 0
  | .run => 1
  | .single => 2
  | .stop => 3
  | .noBeat => 4

/-- Whether the outputs pass commands in a state (R376). -/
def CrustState.drives : CrustState → Bool
  | .run => true
  | .single => true
  | _ => false

/-- The axes that latched level 1 reactions stop; level 2 stops all (R375). -/
def stoppedAxes (ls : List Latch) : BitVec 16 := ls.foldl (fun m l => m ||| (if l.level = 2 then 0xFFFF else l.axes)) 0

/-- Whether a level 2 reaction is latched. -/
def hasLevel2 (ls : List Latch) : Bool := ls.any fun l => l.level == 2

/-- 0x4800:03: a bit per latched cause, cause 1 in bit 0. -/
def latchedBits (ls : List Latch) : Nat := ls.foldl (fun m l => m ||| 1 <<< (l.cause - 1)) 0

/-- The effective enable of axis k: Crust axis enable AND request mask, no reaction latched, outputs driven (R375, R376, R381). -/
def State.effective (s : State) (k : Nat) : Bool :=
  s.flag (crustAxis k 1) && s.crust.requestMask.getLsbD k && !(stoppedAxes s.crust.latches).getLsbD k
    && s.crust.state.drives && !s.crust.hwOff

/-- 0x4800:02. -/
def State.effectiveBits (s : State) : Nat :=
  (List.range 16).foldl (fun m k => m ||| (b2n (s.effective k)) <<< k) 0

/-- The output-off pattern of axis k: all gates off or low sides on, previous duties 0 (R335, R336); all gates off while the main input is lost. -/
def State.axisOff (s : State) (k : Fin 16) : State :=
  s.modAxis k fun a =>
    { a with pwm := if s.nat (crustAxis k.val 8) = 1 && s.power.mainOk then .lowSidesOn else .gatesOff, prevA := 0, prevB := 0, prevC := 0 }

/-- The output-off patterns of the axes of a mask. -/
def State.axesOff (s : State) (mask : BitVec 16) : State :=
  (idxs 16).foldl (fun acc k => if mask.getLsbD k.val then acc.axisOff k else acc) s

/-- A supply carries out a command: off, on from off, or a change of voltage through its sequence; while switching the command is latched; 1 or 2 clears the latch of a supply latched off (R351, R352). -/
def supplyDo (fieldOk : Bool) (p : Supply) (v : Nat) : Supply :=
  if p.state = 3 then { p with latched := some v }
  else if v = 0 then { p with state := if p.state = 5 then 5 else 0, command := 0 }
  else if !fieldOk then { p with state := 0, command := v, offs := if p.state = 5 then [] else p.offs }
  else if p.state = 4 then { p with command := v }
  else if (p.state = 1 ∨ p.state = 2) ∧ p.state ≠ v then { p with state := 3, command := v }
  else if p.state = 5 then { p with state := v, command := v, offs := [] }
  else { p with state := v, command := v }

/-- A supply's output-off action: 1 switches it off, 0 holds it; a change of voltage that runs is ended first (R335, R352). -/
def State.supplyAction (s : State) (k : Fin 16) : State :=
  if bit (s.nat (ob 0x4830 (3 + k.val))) 7 then s.modSupply k fun p => supplyDo s.power.fieldOk p 0 else s

/-- The output-off state: every PWM output its pattern, every digital output its output-off level, every supply its action (R336, R375). -/
def State.outputOff (s : State) : State :=
  let s1 := s.axesOff 0xFFFF
  let s2 := (idxs 32).foldl (fun acc k => acc.modOutput k fun o => { o with level := bit (s.nat (ob 0x4830 2)) k.val }) s1
  (idxs 16).foldl (fun acc k => acc.supplyAction k) s2

/-- The reaction level of a cause; cause 9 takes its stream's (R374, R375). -/
def State.causeLevel (s : State) (cause : Nat) (stream : Option (Fin 24)) : Nat :=
  match stream with
  | some n => s.nat (crustStream n.val 4)
  | none => s.nat (ob 0x4870 cause)

/-- A reaction is latched: the highest level and all axes and streams of its cause apply (R375, R377). -/
def addLatch (ls : List Latch) (l : Latch) : List Latch :=
  match ls with
  | [] => [l]
  | o :: rest => if o.cause = l.cause then
      { o with level := max o.level l.level, axes := o.axes ||| l.axes, streams := o.streams ||| l.streams, beat := l.beat } :: rest
    else o :: addLatch rest l

/-- A reaction of level 1 or 2: latched, counted, recorded by fault 0x0B02 with the underlying code, and its outputs switched off; level 2 enters STOP from RUN or SINGLE (R375, R376). -/
def State.reactAt (s : State) (level cause code : Nat) (axes : BitVec 16) (streams : BitVec 24) : State :=
  let s1 := s.modCrust fun c =>
    { c with
      latches := addLatch c.latches ⟨cause, level, axes, streams, s.beat⟩
      before := if level = 2 ∧ c.state.drives then c.state else c.before
      state := if level = 2 ∧ c.state.drives then .stop else c.state }
  let s2 := if level = 2 then s1.outputOff else s1.axesOff axes
  (s2.bump (ob 0x4880 2)).fault 0x0B02 .chip (at_ 16 48 code ||| at_ 8 8 level ||| at_ 8 0 cause)

/-- A cause fires: at level 0 nothing but the underlying fault's own record, which its caller writes; above, the reaction (R375). -/
def State.react (s : State) (cause code : Nat) (axes : BitVec 16) : State :=
  let level := s.causeLevel cause none
  if level = 0 then s else s.reactAt level cause code axes 0

/-- The causes that react, of those that an event fires: their level is above 0 (R375). -/
def State.acting (s : State) (causes : List (Nat × BitVec 16)) : List (Nat × BitVec 16) := causes.filter fun c => s.causeLevel c.1 none != 0

/-- An event fires causes, each with its axes: where one of them reacts, the event is recorded by fault 0x0B02 alone, once for each cause that does; otherwise by its own fault (R39, R375, R377). -/
def State.reactOrFault (s : State) (causes : List (Nat × BitVec 16)) (code : Nat) (loc : Loc) (detail : Nat) (part : Nat := 0) : State :=
  if (s.acting causes).isEmpty then s.fault code loc detail part
  else (s.acting causes).foldl (fun acc c => acc.react c.1 code c.2) s

/-! ## Single channel (R367) -/

/-- Single channel begins: its timer is not restarted by a second cause. -/
def State.enterSingle (s : State) (region why : Nat) : State :=
  match s.crust.single with
  | some _ => s
  | none =>
    (s.modCrust fun c =>
      { c with
        single := some ⟨s.now, why, region⟩
        before := if c.before = .run then .single else c.before
        state := if c.state = .run then .single else c.state }).fault 0x0B07 .chip (at_ 8 0 region ||| at_ 8 8 why)

/-- Comparison resumes at the launch beat that ends the migration: fault 0x0B08, state RUN (R367, R376). -/
def State.leaveSingle (s : State) : State :=
  match s.crust.single with
  | none => s
  | some x =>
    (s.modCrust fun c =>
      { c with
        single := none
        before := if c.before = .single then .run else c.before
        state := if c.state = .single then .run else c.state }).fault 0x0B08 .chip (at_ 32 0 (divRne ((s.now - x.since : Nat) : Int) 1000000).toNat)

/-- 0x4800:06: time remaining in µs. -/
def State.singleLeft (s : State) : Nat :=
  match s.crust.single with
  | none => 0
  | some x => (divRne ((1000000 * s.nat (ob 0x4878 5) - (s.now - x.since) : Nat) : Int) 1000).toNat

/-! ## Resets (R377, R378) -/

/-- The recovery count of a stream, of its kind (R374). -/
def State.recoveryCount (s : State) (n : Nat) : Nat :=
  if s.nat (ob (0x2810 + n) 4) = 1 then s.nat (crustStream n 7) else s.nat (crustStream n 3)

/-- Whether a stream is clean: not stale, or its recovery count of clean lines has passed (R296, R374). -/
def State.streamClean (s : State) (n : Fin 24) : Bool :=
  s.streams[n].state != 3 || decide (s.recoveryCount n.val ≤ s.streams[n].clean)

/-- A stale stream resumes at the next tile boundary, or for an area stream at the next frame: fault 0x0706 with the trigger number of the resuming line (R288, R296). -/
def State.recoverStream (s : State) (n : Fin 24) : State :=
  let x := s.streams[n]
  let next := match x.triggers with
    | (k, _) :: _ => k
    | [] => x.nextTrigger
  let first := if s.nat (ob (0x2810 + n) 4) = 1 then next else 1024 * divUp next 1024
  (s.modStream n fun x => { x with state := 2, latched := false, clean := 0, frozen := 0 }).fault 0x0706 (.ofUnit n.val) (at_ 32 32 first)

/-- Whether the condition of a latched cause persists (R378): 3 while single channel runs, 5 while an axis is above its threshold, 8 while the test is overdue, 9 while a stream is not clean, 11 while a safe stop is demanded, 12 until the restart. -/
def State.causePresent (s : State) (l : Latch) : Bool :=
  match l.cause with
  | 3 => s.crust.single.isSome
  | 5 => s.crust.overCurrent &&& l.axes != 0
  | 8 => decide (3 ≤ s.crust.compMissed)
  | 9 => (idxs 24).any fun n => l.streams.getLsbD n.val && !s.streamClean n
  | 11 => s.crust.safeStop
  | 12 => s.crust.hwOff
  | _ => false

/-- An accepted reset takes effect: every latched cause whose condition is gone clears, unless it was triggered in this beat; the others stay latched with fault 0x0B0D; a latched stream that is clean is released; both disagreement windows clear (R296, R366, R374, R377, R378). -/
def State.applyReset (s : State) (sameBeat : Nat → Bool) : State :=
  let kept := s.crust.latches.filter fun l => s.causePresent l || sameBeat l.beat
  let held := (s.crust.latches.filter fun l => sameBeat l.beat).foldl (fun m l => m ||| l.streams) 0
  let s1 := s.modCrust fun c =>
    { c with
      latches := kept
      disagreed := []
      resetAsked := false
      state := if c.state = .stop ∧ !hasLevel2 kept then c.before else c.state }
  let s2 := (idxs 24).foldl (fun acc n =>
      if s.streams[n].state == 3 && s.streams[n].latched && !held.getLsbD n.val && s.streamClean n then acc.recoverStream n else acc) s1
  if kept.isEmpty then s2 else s2.fault 0x0B0D .chip (latchedBits kept)

/-- A reset is asked for: it takes effect at the next release count, and at once while no launch runs (R378). -/
def State.requestReset (s : State) : State :=
  if s.running then s.modCrust fun c => { c with resetAsked := true } else s.applyReset fun _ => false

/-! ## Beats begin and end (R85, R376) -/

/-- The last beat ends: NO_BEAT, output-off, not latched; START stays (R85, R376). -/
def State.enterNoBeat (s : State) : State :=
  (s.modCrust fun c => { c with
    before := if c.state.drives then c.state else c.before
    state := if c.state = .start then .start else .noBeat
    misses := [] }).outputOff

/-- Beat 0 or the end of an idle pause: RUN or SINGLE, or STOP if a level 2 latch remains; START while an image-bound set misses the running image (R376, R380); a module without a set of its own runs under the set fused at manufacture (R358, R382). -/
def State.enterBeat (s : State) (imageHash : Bytes) : State :=
  let blocked := match s.crust.active with
    | some p => p.imageBound && p.imageHash != imageHash
    | none => false
  s.modCrust fun c =>
    let normal : CrustState := if c.single.isSome then .single else .run
    if blocked then { c with state := .start }
    else if hasLevel2 c.latches then { c with state := .stop, before := normal }
    else { c with state := normal }

/-! ## Limits (R20, R357) -/

/-- The nearest even value within an interval: the Crust bounds of an object that must be even (R20, R357). -/
def evenWithin (lo hi v : Nat) : Nat :=
  let c := if v < lo then lo else if hi < v then hi else v
  if c % 2 = 0 then c else if c + 1 ≤ hi ∧ v < lo then c + 1 else c - 1

/-- The Crust clamp of a written value of a limit that the Crust bounds: axis, kind of fault 0x0A01 and the clamped value; none where the object is not bounded or the value lies within (R335, R352, R357). -/
def State.crustClamp (s : State) (key : Key) (v : Int) : Option (Nat × Nat × Int) :=
  let i := key / 256
  let j := key % 256
  let n := v.toNat
  if 0x4010 ≤ i ∧ i ≤ 0x401F ∧ j = 4 then
    let k := i - 0x4010
    let c := evenWithin (s.nat (crustAxis k 5)) (s.nat (crustAxis k 6)) n
    if c = n then none else some (k, 3, c)
  else if 0x4010 ≤ i ∧ i ≤ 0x401F ∧ j = 7 then
    let k := i - 0x4010
    let c := evenWithin (s.nat (crustAxis k 7)) 4000 n
    if c = n then none else some (k, 4, c)
  else if i = 0x4060 ∧ 1 ≤ j ∧ j ≤ 16 then
    let top := s.nat (ob 0x4830 (2 + j)) % 4
    if n ≤ top then none else some (j - 1, 6, top)
  else none

/-- The detail of fault 0x0A01 (R353). -/
def State.clampDetail (s : State) (kind leg : Nat) : Nat := at_ 32 32 s.beat ||| at_ 2 8 leg ||| at_ 8 0 kind

/-- A clamp is counted: in 0x4080:01, and per axis and kind (R335). -/
def State.tallyClamp (s : State) (unit kind : Nat) : State :=
  (s.bump (ob 0x4080 1)).modMotion fun m => { m with clamps := put m.clamps (8 * unit + kind) ((get? m.clamps (8 * unit + kind)).getD 0 + 1) }

/-- A clamp is counted and writes fault 0x0A01 (R335, R357). -/
def State.countClamp (s : State) (unit kind leg : Nat) : State :=
  (s.tallyClamp unit kind).fault 0x0A01 (.ofUnit unit) (s.clampDetail kind leg)

end Sys2Proof.Machine
end

