-- ==== Sys2Proof/Machine/Operands.lean ====
section
/-!
DEFINITION. Descriptors: the fields of the common header (R163), header checks (R164, R165), the partition map and its guards (R358, R359, R361), status records (R166, R167) and completions.
-/

namespace Sys2Proof.Machine

/-! ## Header fields (R163) -/

def hSequence (h : BitVec 128) : Nat := fld h 127 96
def hReleaseBeat (h : BitVec 128) : Nat := fld h 95 64
def hStatusAddr (h : BitVec 128) : Nat := fld h 63 42 * 8
def hFlags (h : BitVec 128) : Nat := fld h 41 32
def hEngine (h : BitVec 128) : Nat := fld h 31 24
def hOperation (h : BitVec 128) : Nat := fld h 23 16
def hClass (h : BitVec 128) : Nat := fld h 15 14
def hReserved (h : BitVec 128) : Nat := fld h 13 12
def hVersion (h : BitVec 128) : Nat := fld h 11 8
def hBodyLength (h : BitVec 128) : Nat := fld h 7 0
def hCacheable (h : BitVec 128) : Bool := bit (hFlags h) 6
def hDataAddressed (h : BitVec 128) : Bool := bit (hFlags h) 5
def hInvalidate (h : BitVec 128) : Bool := bit (hFlags h) 4
def hChain (h : BitVec 128) : Bool := bit (hFlags h) 3
def hFence (h : BitVec 128) : Bool := bit (hFlags h) 2
def hReleaseHold (h : BitVec 128) : Bool := bit (hFlags h) 1
def hNotify (h : BitVec 128) : Bool := bit (hFlags h) 0

/-- Status codes (R167). -/
def stOk : Nat := 0x0000
def stEmptyOutput : Nat := 0x0001
def stStalled : Nat := 0x0100
def stSyncError : Nat := 0x0101
def stDualRail : Nat := 0x0102
def stRetryExhausted : Nat := 0x0103
def stHeaderInvalid : Nat := 0x0200
def stClassMismatch : Nat := 0x0201
def stAddress : Nat := 0x0202
def stEcc : Nat := 0x0203
def stResidue : Nat := 0x0204
def stGuardRefused : Nat := 0x0205
def stScaleSkew : Nat := 0x0300
def stCrumbSkew : Nat := 0x0301
def stFilterRefused : Nat := 0x0400
def stKvExhausted : Nat := 0x0600
def stDecodeCap : Nat := 0x0900
def stRetryNet : Nat := 0x0F00

/-- Whether an engine of a region may start a descriptor: the region's logic is on and not quiescing, no beat is paused (R444, R458), and class L is not suspended: by temperature, by the energy cap, in the reduced state, or in a region that migrates (R28, R450, R452, R484). -/
def State.mayStart (s : State) (r : Fin 10) (h : BitVec 128) : Bool :=
  let paused := match s.launch.run with
    | some run => run.paused
    | none => false
  let migrates := match s.service.migration with
    | some m => m.started && !m.switched && !m.checkerRole && m.region == r
    | none => false
  s.power.domains[(⟨r.val, by omega⟩ : Fin 72)].state == 2 && !paused
    && !(hClass h == 3 && (s.regions[r].hotClassL || s.power.capClassL || s.launch.reduced || migrates))

/-! ## The partition map (R358 to R361) -/

/-- One class I range over a whole memory. -/
def wholeRange (space region block size : Nat) : Range :=
  { base := 0, size := size / 4096, space := space, region := region, block := block, cls := 2, write := true, read := true }

/-- The map of the set fused at manufacture (R358). -/
def fusedMap : PartMap :=
  { home := List.replicate 180 2
    shareC := 8
    shareI := 48
    ranges := wholeRange 0 0xFF 0xFF hbmSize :: ((List.range 10).map fun r => wholeRange 1 r 0xFF rmemSize)
      ++ (List.range 180).map fun i => wholeRange 2 (i / 18) (i % 18) spadSize }

/-- The partition map in force (R358). -/
def State.partMap (s : State) : PartMap :=
  match s.crust.active with
  | some p => p.map
  | none => fusedMap

/-- Whether a range entry covers `n` bytes at a place and permits the access. -/
def Range.covers (e : Range) (cls : Nat) (p : MemRef) (n : Nat) (write : Bool) : Bool :=
  e.cls == cls && e.space == p.space && (p.space == 0 || e.region == p.region) && (p.space != 2 || e.block == p.block)
    && (if write then e.write else e.read) && decide (e.base * 4096 ≤ p.addr ∧ p.addr + n ≤ (e.base + e.size) * 4096)

/-- The bytes of HBM: 24 GiB for each stack of the interleave (R440, R446). -/
def State.hbmBytes (s : State) : Nat := if s.power.interleave.length = 4 then hbmSize else s.power.interleave.length * 24 * 2 ^ 30

/-- R359: an access is permitted by an entry of its class. -/
def State.permits (s : State) (cls : Nat) (p : MemRef) (n : Nat) (write : Bool) : Bool :=
  (s.partMap.ranges.any fun e => e.covers cls p n write) && (p.space != 0 || decide (p.addr + n ≤ s.hbmBytes))

/-- R359: a refused access is counted; class I and L record fault 0x0B0B, class C triggers cause 6 with that code. -/
def State.guardRefused (s : State) (cls : Nat) (p : MemRef) (region : Nat) : State :=
  let s1 := s.bump (ob 0x4880 6)
  if cls = 1 then s1.react 6 0x0B0B 0
  else s1.fault 0x0B0B (.ofRegion region) (at_ 36 28 (p.addr / 4096) ||| at_ 2 8 cls ||| at_ 8 0 p.space) cls

/-- The home class of block r.b (R358). -/
def State.homeClass (s : State) (r : Fin 10) (b : Fin 18) : Nat := s.partMap.home.getD (18 * r.val + b.val) 0

/-! ## Header checks (R164, R165) -/

/-- Fields of the header that refuse a descriptor with HEADER_INVALID (R165). -/
def headerInvalid (h : BitVec 128) (engine : Nat) : Bool :=
  decide (hReserved h ≠ 0 ∨ bits (hFlags h) 9 7 ≠ 0 ∨ hVersion h ≠ 1 ∨ hEngine h ≠ engine) ||
    (!hReleaseHold h && decide (hReleaseBeat h ≠ 0xFFFFFFFF)) || (hReleaseHold h && decide (hClass h = 3))

/-- R165: the sequence exceeds the queue's previous one in modulo-2³² order within 2³¹; the first descriptor of a queue after a reset may carry any (DESIGN CHOICE, log entry 59). -/
def sequenceOk (prev : Option Nat) (seq : Nat) : Bool :=
  match prev with
  | none => true
  | some p => seq != p && atOrAfter seq p

/-- R165: the status a header is refused with, if any; where several causes hold, the first of fields, class, sequence, status address (DESIGN CHOICE, log entry 60). -/
def headerStatus (h : BitVec 128) (engine : Nat) (classOk seqOk statusOk : Bool) : Option Nat :=
  if headerInvalid h engine then some stHeaderInvalid
  else if hClass h = 0 ∨ !classOk then some stClassMismatch
  else if !seqOk then some stHeaderInvalid
  else if !statusOk then some stGuardRefused
  else none

/-- R164: the beat that release_beat names: the first at or after the current one that agrees in its low 32 bits. -/
def releaseBeat (current field : Nat) : Nat := current + (field + 2 ^ 32 - current % 2 ^ 32) % 2 ^ 32

/-! ## Status records (R166) -/

/-- A status record. -/
def statusRecord (seq status detail count : Nat) (invalid late : Bool) : Nat :=
  at_ 32 96 seq ||| at_ 16 80 status ||| at_ 16 64 detail ||| at_ 32 32 count ||| at_ 1 17 (b2n invalid) ||| at_ 1 16 (b2n late)

/-- On completion a descriptor writes its status record at status_addr, if its class may write there, and raises its completion event; where the record is refused, nothing but the fault record reports (R163, R165, R166). -/
def State.complete (s : State) (r : Fin 10) (b : Nat) (h : BitVec 128) (status detail count : Nat) (invalid late : Bool := false) : State :=
  let p := rmemAt r.val (hStatusAddr h)
  let word := statusRecord (hSequence h) status detail count invalid late
  if s.permits (hClass h) p 16 true then
    let s1 := (s.store p (leBytes 16 word)).emit (.status r.val b word)
    if hNotify h then s1.emit (.completion r.val (hEngine h)) else s1
  else s

/-- The location of a descriptor's fault: its block, or its region where `b` is 18 or more. -/
def descLoc (r : Fin 10) (b : Nat) : Loc := if b < 18 then .ofBlock r.val b else .ofRegion r.val

/-- The detail of fault 0x0208. -/
def refusalDetail (h : BitVec 128) (status : Nat) : Nat := at_ 32 32 (hSequence h) ||| at_ 16 16 status ||| at_ 8 0 (hEngine h)

/-- A descriptor is refused: it writes its status record, and fault 0x0208 is recorded; 0x3040:03 counts the refusals of R165, R172, R192 and R201 only (R168). -/
def State.refuse (s : State) (r : Fin 10) (b : Nat) (h : BitVec 128) (status detail : Nat) (counted : Bool) : State :=
  let s1 := s.complete r b h status detail 0
  (if counted then s1.bump (ob 0x3040 3) else s1).fault 0x0208 (descLoc r b) (refusalDetail h status) (hClass h)

/-- R165: a refused header; of a refused status_addr, which is a guard refusal too, class C triggers cause 6 instead of the fault. -/
def State.refuseHeader (s : State) (r : Fin 10) (b : Nat) (h : BitVec 128) (status : Nat) : State :=
  if status = stGuardRefused then
    let s1 := (((s.complete r b h status 0 0).bump (ob 0x3040 3)).bump (ob 0x4880 6)).countRegion r 15 1
    if hClass h = 1 then s1.react 6 0x0208 0 else s1.fault 0x0208 (descLoc r b) (refusalDetail h status) (hClass h)
  else s.refuse r b h status 0 true

/-- The class admitted by a block's queue: its home class; home class I also admits class L (R165, R361). -/
def State.blockAdmits (s : State) (r : Fin 10) (b : Fin 18) (cls : Nat) : Bool :=
  cls == s.homeClass r b || (cls == 3 && s.homeClass r b == 2)

/-- R165 on a block's queue: the refusal status, if any, and the state with the queue's previous sequence. -/
def State.checkBlockHeader (s : State) (r : Fin 10) (b : Fin 18) (h : BitVec 128) (engine : Nat) : Option Nat × State :=
  let seqOk := sequenceOk (s.block r b).prevSeq (hSequence h)
  let st := headerStatus h engine (s.blockAdmits r b (hClass h)) seqOk (s.permits (hClass h) (rmemAt r.val (hStatusAddr h)) 16 true)
  (st, if seqOk then s.modBlock r b fun x => { x with prevSeq := some (hSequence h) } else s)

/-- The number of a queue of a region's zoo, which the key of a previous sequence is: engine, class, and for the two DMA engines the unit (R165). -/
def zooQueue (engine queue unit : Nat) : Nat := (engine + 32 * unit) * 4 + queue

/-- R165 on the queue of a class of a zoo engine, which admits its own class only; the two DMA engines are units 0 and 1. -/
def State.checkZooHeader (s : State) (r : Fin 10) (h : BitVec 128) (engine queue : Nat) (unit : Nat := 0) : Option Nat × State :=
  let key := zooQueue engine queue unit
  let seqOk := sequenceOk (get? s.regions[r].prevSeq key) (hSequence h)
  let st := headerStatus h engine (hClass h == queue) seqOk (s.permits (hClass h) (rmemAt r.val (hStatusAddr h)) 16 true)
  (st, if seqOk then s.modRegion r fun x => { x with prevSeq := put x.prevSeq key (hSequence h) } else s)

/-- A body that the rules of its engine refuse: HEADER_INVALID with detail 0x0300, fault 0x0208; those of R172, R192 and R201 are counted, those of R504 are not (R168). -/
def State.refuseBody (s : State) (r : Fin 10) (b : Nat) (h : BitVec 128) (counted : Bool := true) : State :=
  s.refuse r b h stHeaderInvalid 0x0300 counted

/-- A descriptor ends with an access refused at the guard: status GUARD_REFUSED (R359). -/
def State.endGuard (s : State) (r : Fin 10) (b : Nat) (h : BitVec 128) (p : MemRef) : State :=
  ((s.guardRefused (hClass h) p r.val).countRegion r 15 1).complete r b h stGuardRefused 0 0

/-! ## Release buffers (R78, R84, R163, R164, R407) -/

/-- The port whose release buffer takes an output; one that the image does not list is taken by none of the eight (number 8). -/
def State.outputPort (s : State) (out : Nat) : Nat :=
  match s.launch.image.bind fun im => im.outputs.find? fun o => o.out == out with
  | some o => o.port
  | none => 8

/-- Whether a port's release buffer has room for an output of release count `n`: it holds the outputs of at most two beats, and that of a CAN controller 32 frames (R84, R407). -/
def State.bufferTakes (s : State) (out n : Nat) : Bool :=
  let mine := s.launch.buffered.filter fun e => s.outputPort e.rep.out == s.outputPort out
  let others := ((mine.filter fun e => e.due != n).map fun e => e.due).dedup
  decide (others.length < 2) && !(decide (1 ≤ s.outputPort out ∧ s.outputPort out ≤ 4) && decide (32 ≤ mine.length))

/-- An output enters its port's release buffer; one that finds no room has not reached it (DESIGN CHOICE, log entry 63). -/
def State.enterBuffer (s : State) (n : Nat) (rep : Report) : State :=
  if s.bufferTakes rep.out n then s.modLaunch fun l => { l with buffered := l.buffered ++ [⟨n, rep⟩] } else s

/-- The bytes of a payload that a chained descriptor has begun. -/
def sideBegun (x : Side) : Bytes :=
  if x.complete then [] else match x.payload with
    | .bytes bs => bs
    | _ => []

/-- What a release_hold descriptor leaves of a side of its output: its bytes follow those of the descriptors that it continues; a chain flag leaves it incomplete (R163). -/
def sideContinued (x : Side) (bs : Bytes) (chain invalid : Bool) : Side :=
  { complete := !chain, invalid := invalid || (!x.complete && x.invalid), payload := .bytes (sideBegun x ++ bs) }

/-- A side of which nothing has arrived. -/
def sideNone : Side := { complete := false, invalid := false, payload := .bytes [] }

/-- The outputs of a release_hold descriptor go to the release buffer, bound to the release count of its release_beat, also of a class I output that was incomplete there and waits (R369); an image that names no output for its queue releases nothing (R163, R164; DESIGN CHOICE, log entry 63). -/
def State.holdOutput (s : State) (r : Fin 10) (b : Nat) (h : BitVec 128) (bs : Bytes) (invalid : Bool) : State :=
  match s.launch.image.bind fun im => im.heldOutputs.find? fun e => e.region == r && e.block == b && e.engine == hEngine h with
  | none => s
  | some e =>
    let n := releaseBeat s.beat (hReleaseBeat h)
    let isIt (x : Held) : Bool := x.rep.out == e.out && x.due == n
    let side (x : Side) : Side := sideContinued x bs (hChain h) invalid
    let grow (x : Report) : Report := if e.shadow then { x with shadow := some (side (x.shadow.getD sideNone)) } else { x with primary := side x.primary }
    if s.launch.buffered.any isIt then s.modLaunch fun l => { l with buffered := l.buffered.map fun x => if isIt x then { x with rep := grow x.rep } else x }
    else if s.launch.deferred.any fun x => x.out == e.out && !x.primary.complete && decide (n ≤ s.beat) then
      s.modLaunch fun l => { l with deferred := l.deferred.map fun x => if x.out = e.out then grow x else x }
    else s.enterBuffer n (grow ⟨e.out, hClass h, sideNone, none⟩)

/-- The outputs of a descriptor: at their place in memory, or with release_hold in the release buffer (R163). -/
def State.deliverOut (s : State) (r : Fin 10) (b : Nat) (h : BitVec 128) (p : MemRef) (bs : Bytes) (invalid : Bool := false) : State :=
  if hReleaseHold h then s.holdOutput r b h bs invalid else s.store p bs

/-- Whether a descriptor's outputs may go where they are to: into memory where its class may write. -/
def State.mayDeliverOut (s : State) (h : BitVec 128) (p : MemRef) (n : Nat) : Bool := hReleaseHold h || s.permits (hClass h) p n true

end Sys2Proof.Machine
end

