-- ==== Sys2Proof/Machine/Records.lean ====
section
/-!
DEFINITION. Descriptor headers, scale slots as they are read (R204), statistics records (R203), and the fields of the window body (R214).
-/

namespace Sys2Proof.Machine

/-- The header of the descriptor that a command brings to an engine. -/
def descHeader (c : Instr) : Option (BitVec 128) :=
  match c with
  | .executeDescriptor _ _ _ d => some d.header
  | .accessDescriptor _ _ _ d => some d.header
  | .dmaDescriptor _ _ _ d => some d.header
  | .conv _ _ _ d => some d.header
  | .poolMax _ _ _ d => some d.header
  | .poolAvg _ _ _ d => some d.header
  | .erode _ _ _ d => some d.header
  | .dilate _ _ _ d => some d.header
  | .median _ _ _ d => some d.header
  | .resizeNearest _ _ _ d => some d.header
  | .resizeBilinear _ _ _ d => some d.header
  | .statsTensor _ _ d => some d.header
  | .statsChannel _ _ d => some d.header
  | .convert _ _ d => some d.header
  | .scaleUpdate _ _ d => some d.header
  | .optStep _ _ d => some d.header
  | .decode _ _ _ d => some d.header
  | .nms _ _ d _ _ => some d.header
  | .kvAppend _ _ d => some d.header
  | .attend _ _ d _ => some d.header
  | .pageCtrlOpen _ _ d => some d.header
  | .pageCtrlClose _ _ d => some d.header
  | .pageCtrlTrim _ _ d => some d.header
  | .pageCtrlPin _ _ d => some d.header
  | .pageCtrlUnpin _ _ d => some d.header
  | .pageCtrlResume _ _ d => some d.header
  | .pageCtrlSet _ _ d => some d.header
  | .sampleDecode _ _ _ x => some x.header
  | _ => none

/-! ## Places (R154) -/

/-- The cache segment works while 0x3200:01 is 1, but never in pace mode (R87, R154). -/
def State.cacheOn (s : State) : Bool := s.flag (ob 0x3200 1) && !s.paceMode

/-- A scratchpad address at or above 0x0030_0000 while the cache segment works (R154). -/
def State.inSegment (s : State) (p : MemRef) (n : Nat) : Bool := s.cacheOn && p.space == 2 && decide (0 < n ∧ 0x300000 < p.addr + n)

/-- An access that ends its descriptor with ADDRESS: out of range, or in the cache segment (R154, R167). -/
def State.badPlace (s : State) (p : MemRef) (n : Nat) : Bool := !p.inside n || s.inSegment p n

/-- The first beat that begins at or after a count has begun: changes of R482 take effect; without a launch there is no beat and they take effect at once. -/
def State.beatReached (s : State) (count : Nat) : Bool :=
  match s.launch.run with
  | some run => decide (run.countOf (run.firstBeatAt count) ≤ s.now)
  | none => true

/-- What a descriptor does before it starts: the invalidate flag clears its block's cache segment (R155). -/
def State.startBlock (s : State) (r : Fin 10) (b : Fin 18) (h : BitVec 128) : State :=
  if hInvalidate h then s.modBlock r b fun x => { x with cacheLines := [] } else s

/-! ## Scale slots and statistics records (R203, R204) -/

/-- A slot of a region. -/
def State.slotOf (s : State) (r : Fin 10) (n : Nat) : Option Slot := get? s.regions[r].slots n

/-- The scale buffer of the present step's parity (R204). -/
def Slot.scale (x : Slot) : Nat := (if x.step % 2 = 0 then x.even else x.odd).toNat

/-- What a statistics record holds (R203). -/
structure Stats where
  amax : Nat
  sat : Nat
  und : Nat
  nonfinite : Nat
  elements : Nat
  step : Nat
  format : Nat
  perChannel : Bool
  channels : Nat
  slot : Nat
deriving DecidableEq, Repr

/-- The 32 bytes of a statistics record (R203). -/
def Stats.bytes (x : Stats) : Bytes :=
  leBytes 32 (at_ 32 224 x.amax ||| at_ 32 192 x.sat ||| at_ 32 160 x.und ||| at_ 32 128 x.nonfinite ||| at_ 32 96 x.elements
    ||| at_ 32 64 x.step ||| at_ 8 56 x.format ||| at_ 1 48 (b2n x.perChannel) ||| at_ 16 32 x.channels ||| at_ 32 0 x.slot)

/-- The record of a tensor's values. -/
def statsOf (xs : List Exact) (sat und format step slot : Nat) : Stats :=
  { amax := fp32.ieee (amaxOf xs), sat := sat, und := und, nonfinite := (xs.filter Exact.special).length, elements := xs.length,
    step := step, format := format, perChannel := false, channels := 0, slot := slot }

/-- The place of a descriptor's statistics record. -/
def statsPlace (r : Fin 10) (h : BitVec 128) : MemRef := rmemAt r.val (hStatusAddr h + 16)

/-- The step and slot fields of a tensor's record; a tensor without a slot has no slot index, so that the fields are free values. -/
def State.slotFields (s : State) (r : Fin 10) (slot : Option Nat) : (Nat × Nat) × State :=
  match slot with
  | some n => (((s.slotOf r n).map Slot.step |>.getD 0, n), s)
  | none =>
    let a := s.drawNat 2 32 []
    let b := a.2.drawNat 3 32 []
    ((a.1, b.1), b.2)

/-- A record of a descriptor that ends with outputs_invalid: elements 0; its other counts are not stated (R203). -/
def State.invalidStats (s : State) (format : Nat) (fields : Nat × Nat) : Stats × State :=
  let a := s.drawNat 4 32 []
  let b := a.2.drawNat 5 32 []
  let c := b.2.drawNat 6 32 []
  let d := c.2.drawNat 7 32 []
  (⟨a.1, b.1, c.1, d.1, 0, fields.1, format, false, 0, fields.2⟩, d.2)

/-- Formats whose writing leaves a statistics record (R203). -/
def recordedFormat (fmt : Nat) : Bool := isMx fmt || decide (fmt = 4 ∨ fmt = 5 ∨ fmt = 13)

/-! ## The window body (R214) -/

/-- Bits hi to lo of the window body, which follows the 8-byte accumulation control word. -/
def wb (d : WinDesc) (hi lo : Nat) : Nat := fld d.body (64 + hi) (64 + lo)

/-- The accumulation control word of a window descriptor. -/
def winAcw (d : WinDesc) : BitVec 64 := BitVec.ofNat 64 (fld d.body 63 0)

def wStream (d : WinDesc) : Nat := wb d 511 507
def wStripe (d : WinDesc) : Nat := wb d 506 502
def wSelLeft (d : WinDesc) : Bool := wb d 501 501 == 1
def wSelRight (d : WinDesc) : Bool := wb d 500 500 == 1
def wSelDepth (d : WinDesc) : Nat := wb d 499 492
def wCoilStart (d : WinDesc) : Bool := wb d 491 491 == 1
def wCoilEnd (d : WinDesc) : Bool := wb d 490 490 == 1
def wStartLine (d : WinDesc) : Nat := wb d 489 478
def wEndLine (d : WinDesc) : Nat := wb d 477 466
def wY0 (d : WinDesc) : Nat := wb d 447 400
def wX0 (d : WinDesc) : Nat := wb d 399 384
def wTable (d : WinDesc) : Option Nat := if wb d 383 352 = 0xFFFFFFFF then none else some (wb d 383 352)
def wSlot (d : WinDesc) : Option Nat := if wb d 351 320 = 0xFFFFFFFF then none else some (wb d 351 320)
def wFillValue (d : WinDesc) : Nat := wb d 319 288
def wSpace (d : WinDesc) : Nat := wb d 287 287
def wAddr (d : WinDesc) : Nat := wb d 286 256
def wSy (d : WinDesc) : Nat := wb d 255 251
def wSx (d : WinDesc) : Nat := wb d 250 246
def wDy (d : WinDesc) : Nat := wb d 245 242
def wDx (d : WinDesc) : Nat := wb d 241 238
def wPadT (d : WinDesc) : Nat := wb d 237 232
def wPadB (d : WinDesc) : Nat := wb d 231 226
def wPadL (d : WinDesc) : Nat := wb d 225 220
def wPadR (d : WinDesc) : Nat := wb d 219 214
def wFill (d : WinDesc) : Nat := wb d 213 212
def wSplit (d : WinDesc) : Bool := wb d 211 211 == 1
def wInCh (d : WinDesc) : Nat := wb d 191 176
def wOutCh (d : WinDesc) : Nat := wb d 175 160
def wGroups (d : WinDesc) : Nat := wb d 159 144
def wKh (d : WinDesc) : Nat := wb d 143 137
def wKw (d : WinDesc) : Nat := wb d 136 130
def wOutAddr (d : WinDesc) : Nat := wb d 127 106
def wOutFmt (d : WinDesc) : Nat := wb d 105 98
def wInAddr (d : WinDesc) : Nat := wb d 63 42
def wInFmt (d : WinDesc) : Nat := wb d 41 34
def wWidth (d : WinDesc) : Nat := wb d 33 22
def wLines (d : WinDesc) : Nat := wb d 21 10

/-- The record of a window descriptor that ends with outputs_invalid. -/
def State.winInvalidStats (s : State) (r : Fin 10) (d : WinDesc) : State :=
  if recordedFormat (wOutFmt d) then
    let f := s.slotFields r (wSlot d)
    let i := f.2.invalidStats (wOutFmt d) f.1
    i.2.store (statsPlace r d.header) i.1.bytes
  else s

end Sys2Proof.Machine
end

