-- ==== Sys2Proof/Machine/Roles.lean ====
section
/-!
DEFINITION. Ends of commits (R121, R123, R125) and losses that escalate: retired blocks, failed regions, migrations that are decided, exhausted redundancy (R25 to R28, R145, R146, R482 to R484).
-/

namespace Sys2Proof.Machine

/-! ## Responses and ends of commits (R125, R137) -/

/-- A response item for an object (R129). -/
def respItem (key code : Nat) (data : Bytes) : RespItem := ⟨key / 256, key % 256, 0, data.length, 0, code, data⟩

/-- A commit takes the next identifier (R125). -/
def State.takeIdent (s : State) : State := s.modCommit fun c => { c with lastIdent := (c.lastIdent + 1) % 2 ^ 32 }

/-- The request that waits for a commit learns its outcome (R105, R125). -/
def State.settle (s : State) (ident code : Nat) : State :=
  s.modServer fun v =>
    { v with works := v.works.map fun w => match w.waits with
      | some (i, _) => if i = ident then { w with outcome := some code } else w
      | none => w }

/-- The outcome of a commit is recorded: result, detail, and the beat where it was applied; its request is answered (R118, R125). -/
def State.recordOutcome (s : State) (ident code detail : Nat) (applied : Option Nat) : State :=
  let s1 := s.modCommit fun c => { c with lastResult := code, lastDetail := detail, lastBeat := applied.getD c.lastBeat }
  (s1.bump (if code = 0 then ob 0x2010 0x0A else ob 0x2010 0x0B)).settle ident code

/-- The open group ends (R115). -/
def State.closeGroup (s : State) : State := s.modCommit fun c => { c with owner := none, entries := [], group := none }

/-- A commit that waits for ready reports: started, some engine not ready. -/
def Commit.waits (c : Commit) : Bool := c.started && !c.scheduled && !c.notReady.isEmpty

/-- The committed group is aborted: nothing is applied, its engines are released, the fault is written and the result recorded (R121, R123). -/
def State.abortGroup (s : State) (code faultCode detail : Nat) : State :=
  match s.commit.group with
  | none => s
  | some c => ((s.recordOutcome c.ident code 0 none).closeGroup).fault faultCode .chip (at_ 32 32 c.ident ||| detail)

/-- The running implicit drained commit is aborted in the same way; the next one then starts (R113, R121, R123). -/
def State.abortImplicit (s : State) (code faultCode detail : Nat) : State :=
  match s.commit.implicit with
  | [] => s
  | c :: rest =>
    ((s.modCommit fun k => { k with implicit := rest }).recordOutcome c.ident code 0 none).fault faultCode .chip (at_ 32 32 c.ident ||| detail)

/-- R123: a region migration aborts the commits that wait for ready reports. -/
def State.abortForMigration (s : State) (region : Nat) : State :=
  let s1 := match s.commit.group with
    | some c => if c.waits then s.abortGroup 0x0E000008 0x0E02 (at_ 8 0 region) else s
    | none => s
  match s1.commit.implicit with
  | c :: _ => if c.waits then s1.abortImplicit 0x0E000008 0x0E02 (at_ 8 0 region) else s1
  | [] => s1

/-! ## Roles (R25 to R28) -/

/-- The lowest-numbered region that holds a role. -/
def State.regionOf (s : State) (role : Nat) : Option (Fin 10) := (idxs 10).find? fun r => s.regions[r].role == role

/-- The number of working regions. -/
def State.working (s : State) : Nat := ((idxs 10).filter fun r => s.regions[r].role == 0).length

/-- The launch is aborted or discarded: 0x3C00:05 reads 5; a previous launch runs on (R94, R95). -/
def State.dropLaunch (s : State) : State :=
  s.modLaunch fun l =>
    { l with state := .aborted, needAck := [], needResp := [], final := false
             count := match l.run with
               | some r => r.start
               | none => l.count }

/-- A launch that has been proposed, acknowledged or confirmed does not begin (R27). -/
def State.dropComing (s : State) : State :=
  match s.launch.state with
  | .proposed => s.dropLaunch
  | .acknowledged => s.dropLaunch
  | .confirmed => s.dropLaunch
  | _ => s

/-- The redundancy is exhausted: the launch ends at the next release count, one to come does not begin, fault 0x1109 (R27). -/
def State.exhaust (s : State) (why last : Nat) : State :=
  if s.service.exhausted then s
  else
    (((s.modService fun v => { v with exhausted := true }).modLaunch fun l =>
      { l with run := l.run.map fun r => { r with endNext := true } }).dropComing).fault 0x1109 .chip (at_ 8 0 why ||| at_ 8 8 last)

/-- The reduced state: the region holds no role, a record of class degraded; the reduced variant runs from the next launch beat (R28). -/
def State.enterReduced (s : State) (r : Fin 10) : State := (s.modRegion r fun x => { x with role := 3 }).fault 0x1106 (.ofRegion r.val) 0xFF

/-- A working region is lost with no hot spare to take its work: the reduced state, or the end of redundancy (R27, R28). -/
def State.loseWork (s : State) (r : Fin 10) : State :=
  if 8 ≤ s.working then s.enterReduced r else (s.modRegion r fun x => { x with role := 3 }).exhaust 1 r.val

/-- A migration record. -/
def Migration.make (r t : Fin 10) (checker canRun : Bool) (now : Nat) : Migration :=
  { region := r, target := some t, checkerRole := checker, canRun := canRun, decided := now, started := false, copied := false, switched := false, singleUs := 0 }

/-- The region that is to take a failed checker's role: the hot spare, else the working region of the highest number; none in the reduced state (R27, R484). -/
def State.nextChecker (s : State) : Option (Fin 10) :=
  match s.regionOf 2 with
  | some h => some h
  | none => if 8 ≤ s.working then ((idxs 10).filter fun k => s.regions[k].role == 0).getLast? else none

/-- A migration begins: a failed checker's role passes on, a working region's work or the checker's role goes to the hot spare; where none is left the reduced state or the end of redundancy follows (R27, R28, R484). -/
def State.beginMigration (s : State) (r : Fin 10) (canRun : Bool) : State :=
  let go (t : Fin 10) (checker : Bool) : State := s.modService fun v => { v with migration := some (Migration.make r t checker canRun s.now) }
  match s.regions[r].role with
  | 0 => match s.regionOf 2 with
    | some h => go h false
    | none => s.loseWork r
  | 1 => match s.regionOf 2 with
    | some h => go h true
    | none => s
  | 3 => if (s.regionOf 1).isSome then s else match s.nextChecker with
    | some h => go h true
    | none => s.exhaust 1 r.val
  | _ => s

/-- A migration waits while another runs, or, for a working region, while single channel is active (R367, R482, R484); one that begins aborts the commits that wait for ready reports (R123). -/
def State.placeMigration (s : State) (r : Fin 10) (canRun : Bool) : State :=
  if s.service.migration.isSome || (s.crust.single.isSome && s.regions[r].role == 0) then
    if s.service.migrations.any fun e => e.1 == r then s else s.modService fun v => { v with migrations := v.migrations ++ [(r, canRun)] }
  else (s.abortForMigration r.val).beginMigration r canRun

/-- A migration is decided: commits that wait for ready reports are aborted (R123), and it begins or waits. -/
def State.decideMigration (s : State) (r : Fin 10) (canRun : Bool) : State := (s.abortForMigration r.val).placeMigration r canRun

/-- The migrations that wait are decided again, in order, when the running one has ended (R482). -/
def State.nextMigration (s : State) : State :=
  s.service.migrations.foldl (fun acc (e : Fin 10 × Bool) => acc.placeMigration e.1 e.2) (s.modService fun v => { v with migrations := [] })

/-- The running migration ends without its switch: fault 0x1108; comparison resumes where a checker holds its role; a failed checker's role is decided anew, a working region stays in service if it can still run, and is lost otherwise (R25, R28, R484). -/
def State.endMigration (s : State) (why : Nat) : State :=
  match s.service.migration with
  | none => s
  | some m =>
    let s1 := (s.modService fun v => { v with migration := none }).fault 0x1108 (.ofRegion m.region.val) why
    let s2 := if m.started && !m.checkerRole && (s1.regionOf 1).isSome then s1.leaveSingle else s1
    let s3 := if s2.regions[m.region].role = 3 then s2.placeMigration m.region m.canRun
      else if s2.regions[m.region].role = 0 && !m.canRun then s2.loseWork m.region
      else s2
    s3.nextMigration

/-- Whether the running migration moves a region, and has not switched yet. -/
def State.migrates (s : State) (r : Fin 10) : Bool :=
  match s.service.migration with
  | some m => m.region == r && !m.switched
  | none => false

/-- Whether a region is to take over in the running migration, which has not switched yet. -/
def State.takesOver (s : State) (r : Fin 10) : Bool :=
  match s.service.migration with
  | some m => m.target == some r && !m.switched
  | none => false

/-- A working region fails: one that migrates or waits to may not run on; one that was to take the checker's role is lost; any other migrates (R26, R484). -/
def State.failWorking (s : State) (r : Fin 10) (canRun : Bool) : State :=
  if s.migrates r then s.modService fun v => { v with migration := v.migration.map fun m => { m with canRun := m.canRun && canRun } }
  else if s.takesOver r then (s.loseWork r).endMigration 1
  else if s.service.migrations.any fun e => e.1 == r then
    s.modService fun v => { v with migrations := v.migrations.map fun e => if e.1 = r then (r, e.2 && canRun) else e }
  else s.decideMigration r canRun

/-- A region fails and leaves service by its role (R25, R26, R484): a working region migrates, a failed checker loses its role and single channel runs, a failed hot spare ends a migration to it. `canRun` says whether the region can still run. -/
def State.failRegion (s : State) (r : Fin 10) (canRun : Bool) : State :=
  match s.regions[r].role with
  | 0 => s.failWorking r canRun
  | 1 =>
    let s1 := (s.modRegion r fun x => { x with role := 3 }).enterSingle r.val 2
    if s1.migrates r then s1 else s1.decideMigration r false
  | 2 =>
    let s1 := s.modRegion r fun x => { x with role := 3 }
    if s1.takesOver r then s1.endMigration 1 else s1
  | _ => s

/-- The lowest-numbered free spare block of a region: a spare that carries no work and is not promised to a swap (R483). -/
def State.freeSpare (s : State) (r : Fin 10) : Option (Fin 18) :=
  (idxs 18).find? fun b => (s.block r b).role == 1 && (s.block r b).carries == 0xFF
    && !(s.service.swaps.any fun w => w.region == r && w.spare == b)

/-- The blocks of a region that are retired or about to be. -/
def State.retiredCount (s : State) (r : Fin 10) : Nat :=
  ((idxs 18).filter fun b => (s.block r b).role == 2 || (s.service.swaps.any fun w => w.region == r && w.block == b)).length

/-- The block that holds the stripe next to block r.b's stripe of a stream, on side 0 (left) or 1 (right), as the image declares (R211). -/
def State.neighbour (s : State) (stream : Nat) (r : Fin 10) (b : Fin 18) (side : Nat) : Option (Fin 10 × Fin 18) :=
  match s.launch.image.bind fun im => im.streams.find? fun x => x.stream.val == stream with
  | none => none
  | some x =>
    let i := x.stripes.findIdx fun p => p.region == r && p.block == b
    if x.stripes.length ≤ i ∨ (side = 0 ∧ i = 0) then none
    else (x.stripes[if side = 0 then i - 1 else i + 1]?).map fun p => (p.region, p.block)

/-- The stream of a selvedge entry (R226). -/
def selStream (h : BitVec 64) : Nat := fld h 25 21

/-- A window descriptor's wait ends: STALLED, outputs invalid, fault 0x0405 with its cause, 1 neighbour retired (detail 0x0401) or 2 wait limit (0x0402), its statistics record and its credits (R149, R203, R231). -/
def State.endSelWait (s : State) (r : Fin 10) (b : Fin 18) (w : SelWait) (cause : Nat) : State :=
  let h := w.desc.header
  ((((s.modBlock r b fun x => { x with selWait := none, held := x.held.filter fun k => !w.desc.returns.contains k }).winInvalidStats r w.desc).complete
    r b.val h stStalled (0x0400 + cause) 0 true).bump (ob 0x3600 7)).fault 0x0405
    { region := r.val, block := b.val, unit := w.side.val } (at_ 32 32 (hSequence h) ||| at_ 24 8 ((s.now - w.since) / 1000) ||| at_ 8 0 cause) (hClass h)

/-- The channels of a block toward a side are flushed: what a stream's sender there has sent, and what was to be sent to it (R231). -/
def Block.flush (x : Block) (stream side : Nat) : Block :=
  let y := { x with selOut := x.selOut.filter fun e => !(e.side.val == side && selStream e.header == stream) }
  if side = 0 then { y with selLeft := y.selLeft.filter fun e => selStream e.header != stream, outLeft := 0 }
  else { y with selRight := y.selRight.filter fun e => selStream e.header != stream, outRight := 0 }

/-- The neighbour of a retired block on a side, for one stream: its channels that face the block are flushed, and a descriptor that waits for an entry from it ends (R231). -/
def State.cutChannel (s : State) (stream : Nat) (r : Fin 10) (b : Fin 18) (side : Fin 2) : State :=
  match s.neighbour stream r b side.val with
  | none => s
  | some (r', b') =>
    let back := 1 - side.val
    let s1 := s.modBlock r' b' fun x => x.flush stream back
    match (s1.block r' b').selWait with
    | none => s1
    | some w => if w.entry && w.side.val == back && fld w.desc.body 575 571 == stream then s1.endSelWait r' b' w 1 else s1

/-- When a block retires, every channel that faces it is flushed, and the descriptors that wait on an entry it had not sent end at once (R231). -/
def State.endWaits (s : State) (r : Fin 10) (b : Fin 18) : State :=
  (List.range 24).foldl (fun acc n => (acc.cutChannel n r b 0).cutChannel n r b 1) s

/-- A block retires: a spare block of its region takes its work at the change beat, fault 0x0207; the third retired block of a region, or the lack of a free spare, retires the region (R26, R146, R483). A block whose work can be copied serves until the swap; of any other the neighbours' waits end now (R231). Cause 1 cells, 2 bank exhausted, 3 stalled, 4 matched delay. -/
def State.retireBlock (s : State) (r : Fin 10) (b : Fin 18) (cause : Nat) : State :=
  if (s.block r b).role = 2 ∨ (s.service.swaps.any fun w => w.region == r && w.block == b) then s
  else
    let idle := (s.block r b).role == 1
    match if idle then none else s.freeSpare r with
    | some p =>
      let s1 := s.modService fun v => { v with swaps := v.swaps ++ [⟨r, b, p, s.now, decide (cause ≤ 2)⟩] }
      let s2 := (if 3 ≤ cause then s1.endWaits r b else s1).fault 0x0207 (.ofBlock r.val b.val) (at_ 8 0 cause ||| at_ 8 8 p.val)
      if 3 ≤ s2.retiredCount r then s2.failRegion r false else s2
    | none =>
      let s1 := (((s.modBlock r b fun x => { x with role := 2 }).endWaits r b).fault 0x0207 (.ofBlock r.val b.val) (at_ 8 0 cause ||| at_ 8 8 0xFF))
      if idle && decide (s1.retiredCount r < 3) then s1 else s1.failRegion r false

/-- A cell must be replaced: by the block's spare cell at its idle point, or, where that is used, wanted by another cell, or the cell itself, by retiring the block (R144 to R146). -/
def State.replaceCell (s : State) (r : Fin 10) (b : Fin 18) (cell : Fin 65) : State :=
  let pending := (s.block r b).swapCell.map fun e => e.1
  if (s.block r b).grid ≠ 0xFF ∨ cell.val = 64 then s.retireBlock r b 1
  else match pending with
    | some c => if c = cell then s else s.retireBlock r b 1
    | none => s.modBlock r b fun x => { x with swapCell := some (cell, s.now) }

/-- A mismatch at a cell: the first makes the cell suspect, a second within the residue window replaces it (R144). -/
def State.suspectCell (s1 : State) (r : Fin 10) (b : Fin 18) (cell : Fin 65) : State :=
  let window := 1000000 * s1.nat (ob 0x3040 1)
  match (s1.block r b).suspects.find? fun e => e.1 == cell with
  | some (_, first) =>
    if s1.now ≤ first + window then
      (s1.modBlock r b fun x => { x with suspects := x.suspects.filter fun e => e.1 != cell }).replaceCell r b cell
    else s1.modBlock r b fun x => { x with suspects := (x.suspects.filter fun e => e.1 != cell) ++ [(cell, s1.now)] }
  | none => s1.modBlock r b fun x => { x with suspects := x.suspects ++ [(cell, s1.now)] }

/-- A residue or duplicate mismatch at a cell (kind 1 or 2): counted, fault 0x0205, and the cell is suspect or replaced (R143, R144). -/
def State.residueMismatch (s : State) (r : Fin 10) (b : Fin 18) (cell : Fin 65) (lane kind seq cls : Nat) : State :=
  ((s.bump (ob 0x3040 2)).fault 0x0205 (.ofCell r.val b.val cell.val) (at_ 32 32 seq ||| at_ 8 8 lane ||| at_ 8 0 kind) cls).suspectCell r b cell

/-! ## Row map-out (R157 to R160, R169) -/

/-- A row location: region, block or 31 for region memory, bank, row (R169). -/
def rowLoc (region block bank row : Nat) : BitVec 32 := BitVec.ofNat 32 (at_ 4 28 region ||| at_ 5 23 block ||| at_ 7 16 bank ||| at_ 16 0 row)

/-- R169: every field of a location lies in range. -/
def locValid (loc : BitVec 32) : Bool :=
  decide (fld loc 31 28 < 10) &&
    (if fld loc 27 23 = 31 then decide (fld loc 22 16 < 64 ∧ fld loc 15 0 < 2048)
     else decide (fld loc 27 23 < 18 ∧ fld loc 22 16 < 32 ∧ fld loc 15 0 < 512))

/-- The bank that a location lies in. -/
def locBank (loc : BitVec 32) : Nat := fld loc 31 16

/-- The lowest-numbered free spare row of a bank (R158). -/
def State.freeRow (s : State) (loc : BitVec 32) : Option Nat :=
  (List.range 8).find? fun k => !(s.service.rowMap.any fun e => locBank e.loc == locBank loc && e.spare == k)

/-- Whether a row is already mapped (R159). -/
def State.rowMapped (s : State) (loc : BitVec 32) : Bool := s.service.rowMap.any fun e => e.loc == loc

/-- The fault location of a row: its block, or its region, with the bank as unit. -/
def locOf (loc : BitVec 32) : Loc :=
  { region := fld loc 31 28, block := if fld loc 27 23 = 31 then 0xFF else fld loc 27 23, unit := fld loc 22 16 }

/-- A bank without a free spare row: fault 0x0204; the block, or the region of a region memory, retires (R159, R160). -/
def State.bankExhausted (s : State) (loc : BitVec 32) : State :=
  let s1 := s.fault 0x0204 (locOf loc) (at_ 8 56 (fld loc 22 16) ||| at_ 16 40 (fld loc 15 0))
  if hr : fld loc 31 28 < 10 then
    if hb : fld loc 27 23 < 18 then s1.retireBlock ⟨_, hr⟩ ⟨_, hb⟩ 2 else s1.failRegion ⟨_, hr⟩ false
  else s1

/-- The memory space and the keys of the four words of a row (R150, R160). -/
def rowWords (loc : BitVec 32) : Nat × List Nat :=
  let bank := fld loc 22 16
  let row := fld loc 15 0
  if fld loc 27 23 < 18 then
    (2, (List.range 4).map fun w => (MemRef.key ⟨2, fld loc 31 28, fld loc 27 23, row <<< 13 ||| w <<< 11 ||| bank <<< 6⟩))
  else (1, (List.range 4).map fun w => (MemRef.key ⟨1, fld loc 31 28, 0, row <<< 14 ||| w <<< 12 ||| bank <<< 6⟩))

/-- The words of a row that hold an uncorrectable error are written to the spare row as poison, all their lanes (R158). -/
def State.poisonRow (s : State) (loc : BitVec 32) : State :=
  let words := rowWords loc
  let lost := words.2.filter fun w => s.marks.any fun k => k.space == words.1 && k.word == w
  s.modMarks fun ms => (ms.filter fun k => !(k.space == words.1 && lost.contains k.word)) ++
    lost.flatMap fun w => (List.range 8).map fun i => (⟨words.1, w, i, true⟩ : BadLane)

/-- The corrected errors counted for a row are those of the row that has been mapped out. -/
def State.clearErrors (s : State) (loc : BitVec 32) : State :=
  let keep (e : Nat × Nat × Nat) : Bool := !(e.1 == fld loc 22 16 && e.2.1 == fld loc 15 0)
  if hr : fld loc 31 28 < 10 then
    if hb : fld loc 27 23 < 18 then s.modBlock ⟨_, hr⟩ ⟨_, hb⟩ fun x => { x with rowErrors := x.rowErrors.filter keep }
    else s.modRegion ⟨_, hr⟩ fun x => { x with memErrors := x.memErrors.filter keep }
  else s

/-- R158: a row is mirrored, copied and redirected to the lowest free spare row; the soft map holds the entry, fault 0x0203; a failing spare row is mapped to the next free one in the same way (R159). Cause 1 threshold, 2 uncorrectable, 3 request. -/
def State.mapOut (s : State) (loc : BitVec 32) (cause : Nat) : State :=
  match s.freeRow loc with
  | none => s.bankExhausted loc
  | some k =>
    (((s.poisonRow loc).clearErrors loc).modService fun v => { v with rowMap := v.rowMap ++ [⟨loc, cause, k⟩] }).fault 0x0203 (locOf loc)
      (at_ 8 56 (fld loc 22 16) ||| at_ 16 40 (fld loc 15 0) ||| at_ 8 32 k ||| at_ 8 0 cause)

/-- The power domain of a region's memories and blocks: 10 to 19 hold the SRAM (R441). -/
def sramDomain (r : Fin 10) : Fin 72 := ⟨10 + r.val, by omega⟩

/-- A row joins the map-outs that wait; one that waits already keeps its place, and an uncorrectable error becomes its cause (R157, R159). -/
def enqueueRow (q : List (Nat × Nat × Nat)) (bank row cause : Nat) : List (Nat × Nat × Nat) :=
  if q.any fun e => e.1 == bank && e.2.1 == row then
    q.map fun e => if e.1 = bank ∧ e.2.1 = row ∧ cause = 2 then (bank, row, 2) else e
  else q ++ [(bank, row, cause)]

/-- R159: a decided map-out is queued behind others of its block; it runs by ROW_MAP_OUT, or at the block's next power-up. -/
def State.queueMapOut (s : State) (loc : BitVec 32) (cause : Nat) : State :=
  if hr : fld loc 31 28 < 10 then
    if hb : fld loc 27 23 < 18 then
      s.modBlock ⟨_, hr⟩ ⟨_, hb⟩ fun x => { x with mapQueue := enqueueRow x.mapQueue (fld loc 22 16) (fld loc 15 0) cause }
    else s.modRegion ⟨_, hr⟩ fun x => { x with memMap := enqueueRow x.memMap (fld loc 22 16) (fld loc 15 0) cause }
  else s

/-- The location of the row that holds a place of a scratchpad or a region memory (R150, R160, R169). -/
def rowAt (p : MemRef) : BitVec 32 := rowLoc p.region (if p.space = 2 then p.block else 31) p.rowWord.1 p.rowWord.2.1

/-- The place of a 64-byte word by its key. -/
def wordPlace (space key : Nat) : MemRef :=
  if space = 1 then ⟨1, key / rmemSize, 0, key % rmemSize⟩ else ⟨2, key / spadSize / 18, key / spadSize % 18, key % spadSize⟩

/-- A corrected ECC error at a place of a scratchpad or a region memory: counted, fault 0x0201; at the threshold within its window the row is decided for map-out while 0x3200:04 is 1 (R151, R157, R160). Its record names no partition (DESIGN CHOICE, log entry 53). -/
def State.eccCorrected (s : State) (p : MemRef) (lane syndrome : Nat) : State :=
  let bank := p.rowWord.1
  let row := p.rowWord.2.1
  let s1 := (s.bump (ob 0x3200 9)).fault 0x0201 (locOf (rowAt p)) (at_ 8 56 bank ||| at_ 16 40 row ||| at_ 8 32 lane ||| at_ 8 0 syndrome)
  let within (e : Nat × Nat × Nat) : Bool := decide (s.now < e.2.2 + 3600000000000 * s.nat (ob 0x3200 3))
  let add (es : List (Nat × Nat × Nat)) := es.filter within ++ [(bank, row, s.now)]
  let hits (es : List (Nat × Nat × Nat)) := ((add es).filter fun e => e.1 == bank && e.2.1 == row).length
  let decided (s : State) (n : Nat) : State := if s.flag (ob 0x3200 4) ∧ s.nat (ob 0x3200 2) ≤ n then s.queueMapOut (rowAt p) 1 else s
  if hr : p.region < 10 then
    if hb : p.space = 2 ∧ p.block < 18 then
      decided (s1.modBlock ⟨_, hr⟩ ⟨_, hb.2⟩ fun x => { x with rowErrors := add x.rowErrors }) (hits (s.block ⟨_, hr⟩ ⟨_, hb.2⟩).rowErrors)
    else decided (s1.modRegion ⟨_, hr⟩ fun x => { x with memErrors := add x.memErrors }) (hits s.regions[(⟨_, hr⟩ : Fin 10)].memErrors)
  else s1

/-- A read meets lost data: counted, fault 0x0202, and a row that still holds them is decided for map-out whatever 0x3200:04 holds (R151, R157, R158). -/
def State.eccUncorrectable (s : State) (k : BadLane) (seq cls : Nat) : State :=
  let p := wordPlace k.space k.word
  let s1 := (s.bump (ob 0x3200 0x0A)).fault 0x0202 (locOf (rowAt p))
    (at_ 8 56 p.rowWord.1 ||| at_ 16 40 p.rowWord.2.1 ||| at_ 8 32 k.lane ||| at_ 32 0 seq) cls
  if k.poison then s1 else s1.queueMapOut (rowAt p) 2

/-- Whether a place lies in a memory whose words the SECDED code protects by rows: a scratchpad or a region memory (R151, R160). -/
def banked (p : MemRef) : Bool := decide (p.region < 10) && (p.space == 1 || (p.space == 2 && decide (p.block < 18)))

/-! ## What befalls a descriptor while it runs (R48, R142, R151, R156) -/

/-- An event takes its effect on a descriptor of a block (18 or more: of a region engine); the status it gives, RESIDUE before any other (R143). A tag parity error drops its line (R156); retries exhausted on an HBM or mesh link are recorded in the range of the weave's faults (R48, log entry 51). -/
def State.meetUpset (s : State) (r : Fin 10) (b : Nat) (h : BitVec 128) (st : Option Nat) (u : Upset) : State × Option Nat :=
  match u with
  | .residue cell lane kind =>
    if hb : b < 18 then (s.residueMismatch r ⟨b, hb⟩ cell lane kind (hSequence h) (hClass h), some stResidue) else (s, st)
  | .eccCorrected p lane syn => (if banked p then s.eccCorrected p lane syn else s, st)
  | .eccUncorrectable p lane =>
    if banked p then
      let k : BadLane := ⟨p.space, p.key / 64 * 64, lane, false⟩
      ((s.modMarks fun ms => if ms.contains k then ms else ms ++ [k]).eccUncorrectable k (hSequence h) (hClass h), some (st.getD stEcc))
    else (s, st)
  | .tagParity line =>
    if hb : b < 18 then
      ((s.modBlock r ⟨b, hb⟩ fun x => { x with cacheLines := x.cacheLines.filter fun l => l.1 != line / 256 * 256 }).fault 0x020A (.ofBlock r.val b)
        (at_ 16 0 (line / 256 % 1024)), st)
    else (s, st)
  | .retryExhausted _ => (s.faultInRange 0x0100 (if b < 18 then 1 else 2) (descLoc r b) (at_ 32 32 (hSequence h)) (hClass h), some (st.getD stRetryExhausted))

/-- Whether an event is an uncorrectable error. -/
def upsetLost : Upset → Bool
  | .eccUncorrectable p _ => banked p
  | _ => false

/-- The first lane of lost data that one of some reads meets. -/
def State.markRead (s : State) (reads : List (MemRef × Nat)) : Option BadLane :=
  s.marks.find? fun k => reads.any fun e => k.meets e.1.space e.1.key e.2

/-- The events that met a descriptor take their effect; one whose reads meet lost data ends with ECC_UNCORRECTABLE too (R151, R158). -/
def State.meetUpsets (s : State) (r : Fin 10) (b : Nat) (h : BitVec 128) (us : List Upset) (reads : List (MemRef × Nat)) : State × Option Nat :=
  let met := us.foldl (fun (acc : State × Option Nat) u => acc.1.meetUpset r b h acc.2 u) (s, none)
  if us.any upsetLost then met
  else match met.1.markRead reads with
    | some k => (met.1.eccUncorrectable k (hSequence h) (hClass h), some (met.2.getD stEcc))
    | none => met

end Sys2Proof.Machine
end

