-- ==== Sys2Proof/Machine/Tensors.lean ====
section
/-!
DEFINITION. Tensors in the memories: rescale tables (R201, R202), encoding of rows, and the reading and writing of elements with their scale streams and group streams (R173, R174, R184, R187, R194).
-/

namespace Sys2Proof.Machine

/-! ## Rescale tables (R201, R202) -/

/-- A rescale table in the layout of R201. -/
def parseTable (bs : Bytes) : RescaleTable :=
  { tag := leAt bs 0 4
    outFormat := leAt bs 7 1
    inKind := leAt bs 6 1
    entries := (List.range (leAt bs 12 4)).map fun c =>
      ⟨signed 32 (leAt bs (16 + 8 * c + 4) 4), signed 8 (leAt bs (16 + 8 * c + 3) 1), signed 16 (leAt bs (16 + 8 * c) 2)⟩ }

/-- The limits of an integer format. -/
def inIntRange (fmt : Nat) (v : Int) : Bool := decide (-(2 ^ (intWidth fmt - 1)) ≤ v ∧ v < 2 ^ (intWidth fmt - 1))

/-- Whether a table's fields hold to the layout of R201. -/
def tableOk (t : RescaleTable) : Bool :=
  isFormat t.outFormat && decide (t.inKind ≤ 1 ∧ 1 ≤ t.entries.length ∧ t.entries.length ≤ 65536) &&
    t.entries.all fun e => decide (-32 ≤ e.shift ∧ e.shift ≤ 62) &&
      (if 10 ≤ t.outFormat ∧ t.outFormat ≤ 12 then inIntRange t.outFormat e.zeroPoint else e.zeroPoint == 0)

/-- Whether the bytes of a table hold to the layout: length, reserved fields, fields (R201). -/
def tableBytesOk (bs : Bytes) : Bool :=
  let n := leAt bs 12 4
  decide (bs.length = 16 + 8 * n ∧ leAt bs 8 4 = 0 ∧ leAt bs 4 2 = 0) &&
    ((List.range n).all fun c => leAt bs (16 + 8 * c + 2) 1 == 0) && tableOk (parseTable bs)

/-- The table of the running image with a tag, replaced by a table of 0x3410 with that tag (R202). -/
def State.tableOf (s : State) (tag : Nat) : Option RescaleTable :=
  let repl := (List.range 16).findSome? fun k =>
    let bs := s.raw (ob 0x3410 (k + 1))
    if bs.isEmpty ∨ leAt bs 0 4 ≠ tag then none else some (parseTable bs)
  match repl with
  | some t => some t
  | none => s.launch.image.bind fun im => im.tables.find? fun t => t.tag == tag

/-- The values under a rescale table: u = x · M · 2^−(31 + shift), the channel being the innermost index. -/
def rescaled (t : Option RescaleTable) (channels : Nat) (rows : List (List Exact)) : List (List Exact) :=
  match t with
  | none => rows
  | some t => rows.map fun xs => xs.mapIdx fun i x =>
    let e := t.entries.getD (i % max 1 channels) ⟨0, 0, 0⟩
    x.mul (match Exact.ofInt e.multiplier with
      | .fin n m d k => .fin n m d (k - 31 - e.shift)
      | v => v)

/-- Zero points of a row (R201). -/
def zeroPoints (t : Option RescaleTable) (channels n : Nat) : List Int :=
  match t with
  | none => []
  | some t => (List.range n).map fun i => (t.entries.getD (i % max 1 channels) ⟨0, 0, 0⟩).zeroPoint

/-! ## Encoding (R173, R174, R201) -/

/-- Encoding of one row: MX blocks and EX8 groups counted on from `first` blocks or groups; one element at a time in any other format. -/
def encodeRow (fmt scale first : Nat) (zps : List Int) (xs : List Exact) : Written :=
  if isMx fmt then ((chunks 32 Exact.zero xs).map (mxEncode fmt)).foldl Written.append Written.empty
  else if fmt = 13 then ((chunks 128 Exact.zero xs).mapIdx fun i g => ex8Encode scale (first + i) g).foldl Written.append Written.empty
  else
    let encs := xs.mapIdx fun i x => match floatOf fmt with
      | some f => f.narrow (if fmt = 4 ∨ fmt = 5 then x.div (num32 scale) else x)
      | none => narrowInt (intWidth fmt) x (zps.getD i 0)
    ⟨encs.map Enc.code, [], [], (encs.map Enc.sat).sum, (encs.map Enc.und).sum, 0⟩

/-- Blocks or groups of a row of `n` elements. -/
def rowBlocks (fmt n : Nat) : Nat := if isMx fmt then divUp n 32 else divUp n 128

/-- The elements that a row of `n` takes when it is stored: the last MX block or EX8 group is padded with elements of code 0, which are written (R174). -/
def paddedCount (fmt n : Nat) : Nat := if isMx fmt then 32 * divUp n 32 else if fmt = 13 then 128 * divUp n 128 else n

/-- Encoding of a tensor, row after row, its blocks or groups counted on from `first` (R184, R187). -/
def encodeRows (fmt scale first : Nat) (zps : Nat → List Int) (rows : List (List Exact)) : Written :=
  (rows.foldl (fun (acc : Written × Nat × Nat) xs =>
    (acc.1.append (encodeRow fmt scale acc.2.1 (zps acc.2.2) xs), acc.2.1 + rowBlocks fmt xs.length, acc.2.2 + 1)) (Written.empty, first, 0)).1

/-- The rows along an axis across the rows of a tensor. -/
def acrossRows (rows : List (List Exact)) : List (List Exact) :=
  (List.range ((rows.map List.length).foldl max 0)).map fun i => rows.filterMap fun xs => xs[i]?

/-! ## Scales of outputs and outer scales (R186, R194, R201, R204) -/

/-- A free scale: positive and finite, as every scale that the device writes is (R186). -/
def State.freeScale (s : State) (p : Nat) : Nat × State :=
  let d := s.drawNat p 32 []
  (1 + d.1 % 0x7F7FFFFF, d.2)

/-- The scale of a slot for an FP8 or EX8 tensor; a tensor that has no slot takes a scale that the manual does not give (R194, R201). -/
def State.scaleFor (s : State) (r : Fin 10) (fmt : Nat) (slot : Option Nat) : Nat × State :=
  match slot.bind (s.slotOf r) with
  | some x => (x.scale, s)
  | none => if fmt = 4 ∨ fmt = 5 ∨ fmt = 13 then s.freeScale 8 else (0x3F800000, s)

/-- The outer scale of an operand: that of its slot for FP8, else 1.0 (R194). -/
def State.outerFor (s : State) (r : Fin 10) (fmt : Nat) (slot : Option Nat) : Exact × State :=
  if fmt = 4 ∨ fmt = 5 then
    let d := s.scaleFor r fmt slot
    (num32 d.1, d.2)
  else (Exact.ofInt 1, s)

/-! ## Tensors in the memories (R173, R184, R187) -/

/-- Bytes that `n` rows of elements take. -/
def elemBytes (fmt n length : Nat) : Nat := divUp (n * paddedCount fmt length * elemBits fmt) 8

/-- Bytes of the scale lines of `blocks` MX blocks, or of the records of as many EX8 groups. -/
def streamBytes (fmt blocks : Nat) : Nat := if isMx fmt then 64 * divUp blocks 63 else if fmt = 13 then 40 * blocks else 0

/-- The scale lines or group records of `blocks` blocks or groups, as a stream holds them. -/
def State.loadStream (s : State) (fmt blocks : Nat) (p : MemRef) : List (BitVec 512) × List (BitVec 320) :=
  let bs := s.load p (streamBytes fmt blocks)
  (if isMx fmt then (List.range (divUp blocks 63)).map fun i => BitVec.ofNat 512 (leAt bs (64 * i) 64) else [],
   if fmt = 13 then (List.range blocks).map fun i => BitVec.ofNat 320 (leAt bs (40 * i) 40) else [])

/-- Rows of elements of `length`, with their part of the scale or group stream; padding is read as code 0 (R174). -/
def rowsOf (fmt rows length : Nat) (codes : List Nat) (lines : List (BitVec 512)) (records : List (BitVec 320)) : List OpRow :=
  let per := rowBlocks fmt length
  (List.range rows).map fun i =>
    ⟨(codes.drop (i * paddedCount fmt length)).take length, if isMx fmt then lines.drop (i * per / 63) else [],
      if fmt = 13 then (records.drop (i * per)).take per else [], i * per⟩

/-- The rows of a tensor in a memory. -/
def State.readTensor (s : State) (fmt : Nat) (t : TensorRef) : List OpRow :=
  let codes := unpackElems fmt (t.rows * paddedCount fmt t.length) (s.load t.place (elemBytes fmt t.rows t.length))
  let st := s.loadStream fmt (t.rows * rowBlocks fmt t.length) t.stream
  rowsOf fmt t.rows t.length codes st.1 st.2

/-- The places of elements and of their stream, with the bytes that they take; nothing where there is none. -/
def tensorPlaces (fmt rows length : Nat) (place stream : MemRef) : List (MemRef × Nat) :=
  (place, elemBytes fmt rows length) ::
    (if isMx fmt || fmt == 13 then [(stream, streamBytes fmt (rows * rowBlocks fmt length))] else [])

/-- The bytes of what has been written of a stream. -/
def Written.stream (w : Written) : Bytes :=
  (if w.scales.isEmpty then [] else (scaleLines w.scales).flatMap fun l => leBytes 64 l.toNat) ++ w.records.flatMap fun x => leBytes 40 x.toNat

/-- A tensor goes where its descriptor sends it: elements and stream to their places, or both to the release buffer; it is shown to the outside with its counts, and its saturations are counted (R163, R173, R179, R180, R184, R187). -/
def State.writeTensor (s : State) (r : Fin 10) (b : Nat) (h : BitVec 128) (fmt : Nat) (dst stream : MemRef) (w : Written) (invalid : Bool := false) : State :=
  let codes := packElems fmt w.codes
  let s1 := if hReleaseHold h then s.holdOutput r b h (codes ++ w.stream) invalid
    else if w.stream.isEmpty then s.store dst codes else (s.store dst codes).store stream w.stream
  let s2 := s1.emit (.tensor r.val w.codes w.records (scaleLines w.scales) w.sat w.und w.special)
  s2.countSat w.sat

/-- The first of some places that a class may not read (or write). -/
def State.refusedPlace (s : State) (h : BitVec 128) (ps : List (MemRef × Nat)) (write : Bool) : Option MemRef :=
  (ps.find? fun e => decide (0 < e.2) && !(if write then s.mayDeliverOut h e.1 e.2 else s.permits (hClass h) e.1 e.2 false)).map fun e => e.1

/-- Whether some places end a descriptor with ADDRESS. -/
def State.badPlaces (s : State) (ps : List (MemRef × Nat)) : Bool := ps.any fun e => s.badPlace e.1 e.2

/-- Whether the places of an output tensor and of its statistics record end a descriptor with ADDRESS; what goes to a release buffer needs no place. -/
def State.badOut (s : State) (h : BitVec 128) (fmt : Nat) (ps : List (MemRef × Nat)) (record : MemRef) : Bool :=
  (!hReleaseHold h && s.badPlaces ps) || (recordedFormat fmt && s.badPlace record 32)

/-- The first place of an output tensor, or of its statistics record, that a class may not write. -/
def State.refusedOut (s : State) (h : BitVec 128) (fmt : Nat) (ps : List (MemRef × Nat)) (record : MemRef) : Option MemRef :=
  match s.refusedPlace h ps true with
  | some p => some p
  | none => if recordedFormat fmt && !s.permits (hClass h) record 32 true then some record else none

/-- The statistics record of a tensor that is written (R203). -/
def State.tensorStats (s : State) (r : Fin 10) (p : MemRef) (fmt : Nat) (slot : Option Nat) (xs : List Exact) (w : Written) : State :=
  if recordedFormat fmt then
    let f := s.slotFields r slot
    f.2.store p (statsOf xs w.sat w.und fmt f.1.1 f.1.2).bytes
  else s

/-- The statistics record of a tensor whose outputs are invalid. -/
def State.tensorInvalid (s : State) (r : Fin 10) (p : MemRef) (fmt : Nat) (slot : Option Nat) : State :=
  if recordedFormat fmt then
    let f := s.slotFields r slot
    let i := f.2.invalidStats fmt f.1
    i.2.store p i.1.bytes
  else s

end Sys2Proof.Machine
end

