-- ==== Sys2Proof/Machine/Execute.lean ====
section
/-!
DEFINITION. The execute sequencer: operand pairs and accumulation modes, group contributions, skew and poison, accumulators and the execute snapshot (R140 to R143, R181, R182, R191 to R199, R469).
-/

namespace Sys2Proof.Machine

/-! ## The accumulation control word (R191, R192) -/

/-- Accumulation modes (R191). -/
inductive AccMode where
  | integer
  | float
  | ex8
deriving DecidableEq, Repr

/-- The mode of an operand pair; none for a pair that is not permitted (R191). -/
def pairMode (a b : Nat) : Option AccMode :=
  if a = 10 ∧ b = 10 then some .integer
  else if (a = 11 ∨ a = 12) ∧ (b = 11 ∨ b = 12) then some .integer
  else if 1 ≤ a ∧ a ≤ 3 ∧ a = b then some .float
  else if (a = 4 ∨ a = 5) ∧ (b = 4 ∨ b = 5) then some .float
  else if (a = 6 ∨ a = 7) ∧ (b = 6 ∨ b = 7) then some .float
  else if (a = 8 ∨ a = 9) ∧ a = b then some .float
  else if (a = 13 ∧ (b = 13 ∨ b = 11)) ∨ (a = 11 ∧ b = 13) then some .ex8
  else none

def acwFmtA (w : BitVec 64) : Nat := fld w 47 40
def acwFmtB (w : BitVec 64) : Nat := fld w 39 32
def acwGroup (w : BitVec 64) : Nat := 32 * 2 ^ fld w 31 30
def acwSet (w : BitVec 64) : Nat := fld w 29 28
def acwReadSet (w : BitVec 64) : Nat := fld w 27 26
def acwRead (w : BitVec 64) : Bool := w.getLsbD 25
def acwClear (w : BitVec 64) : Bool := w.getLsbD 24

/-- R192: the mode of a word that is permitted. -/
def acwMode (w : BitVec 64) : Option AccMode :=
  match pairMode (acwFmtA w) (acwFmtB w) with
  | none => none
  | some m =>
    if fld w 63 48 ≠ 0 ∨ fld w 23 0 ≠ 0 ∨ fld w 31 30 = 3 ∨ (m = .ex8 ∧ fld w 31 30 ≠ 2) ∨ (acwRead w ∧ acwSet w = acwReadSet w)
    then none else some m

/-! ## Contributions (R182, R193, R194, R196) -/

/-- The finite sum of a group in units of 2^(e − 22), with e the exponent of its leading product (R194). -/
def alignedSum (ps : List Exact) : Exact :=
  match ps.foldl (fun (best : Option Int) p => match p with
    | .fin _ m d e => if m = 0 then best else some (match best with
      | none => floorLog m d e
      | some k => max k (floorLog m d e))
    | _ => best) none with
  | none => Exact.zero
  | some e =>
    let s := ps.foldl (fun acc p => acc + ((match p with
      | .fin n m d k => Exact.fin n m d (k + 22 - e)
      | v => v).round).getD 0) (0 : Int)
    match Exact.ofInt s with
    | .fin n m d k => .fin n m d (k + e - 22)
    | v => v

/-- R182, R194: the contribution of a group of products under the outer scales. -/
def groupContribution (ps : List Exact) (scale : Exact) : Exact :=
  if ps.any (· == .nan) || (ps.any (· == .inf true) && ps.any (· == .inf false)) then .nan
  else match ps.find? Exact.special with
    | some v => v
    | none => if ps.all Exact.isZero then Exact.zero else (scale.mul (alignedSum ps)).rn

/-- acc := fp32_ne(acc + x). -/
def accAdd (acc : BitVec 32) (x : Exact) : BitVec 32 := BitVec.ofNat 32 (fp32.ieee ((num32 acc.toNat).add x))

/-- Groups of G products in ascending order, as far as reduction index `limit` (R194, R197, R199). -/
def accumulateFloat (g limit : Nat) (scale : Exact) (va vb : List Exact) (acc : BitVec 32) : BitVec 32 :=
  let ps := List.zipWith Exact.mul va vb
  (List.range (divUp ps.length g)).foldl (fun acc i =>
    if g * i + g ≤ limit then accAdd acc (groupContribution ((ps.drop (g * i)).take g) scale) else acc) acc

/-- One EX8 or INT8 operand of a group: its codes, its scale, its values, and its escapes in slot order (R196). -/
structure ExSide where
  codes : List Nat
  scale : Exact
  values : List Exact
  esc : List Nat
deriving DecidableEq, Repr

/-- The operand of group `i` of a row. -/
def exSide (fmt : Nat) (row : OpRow) (i : Nat) : ExSide :=
  let c := (row.codes.drop (128 * i)).take 128
  let codes := c ++ List.replicate (128 - c.length) 0
  if fmt = 13 then
    let rec_ := row.records.getD i 0
    ⟨codes, num32 (exScale rec_), groupValues codes rec_, escapes codes⟩
  else ⟨codes, Exact.ofInt 1, codes.map (elemValue 11), []⟩

/-- The integer code of an element; an escape of an EX8 operand enters as 0 (R196). -/
def ExSide.int (x : ExSide) (i : Nat) : Int := if x.esc.contains i then 0 else signed 8 (x.codes.getD i 0)

/-- R196: one group of 128 products. -/
def exGroup (a b : ExSide) (acc : BitVec 32) : BitVec 32 :=
  let s := (List.range 128).foldl (fun t i => t + a.int i * b.int i) (0 : Int)
  let acc1 := accAdd acc ((a.scale.mul b.scale).mul (Exact.ofInt s))
  let acc2 := a.esc.foldl (fun x q => accAdd x ((a.values.getD q Exact.zero).mul (b.values.getD q Exact.zero))) acc1
  (b.esc.filter fun q => !a.esc.contains q).foldl (fun x q => accAdd x ((a.values.getD q Exact.zero).mul (b.values.getD q Exact.zero))) acc2

/-- Groups in ascending order, as far as reduction index `limit`. -/
def accumulateEx (fa fb limit : Nat) (a b : OpRow) (acc : BitVec 32) : BitVec 32 :=
  (List.range (divUp (min a.codes.length b.codes.length) 128)).foldl (fun acc i =>
    if 128 * i + 128 ≤ limit then exGroup (exSide fa a i) (exSide fb b i) acc else acc) acc

/-- R193: products are added at once, in ascending order, with saturation at the INT32 limits; the saturations are counted. -/
def accumulateInt (fa fb : Nat) (a b : OpRow) (acc : BitVec 32) : BitVec 32 × Nat :=
  (List.zip a.codes b.codes).foldl (fun x p =>
    let v : Int := x.1.toInt + signed (intWidth fa) p.1 * signed (intWidth fb) p.2
    let c := clampI (-(2 ^ 31)) (2 ^ 31 - 1) v
    (BitVec.ofInt 32 c, x.2 + b2n (decide (c ≠ v)))) (acc, 0)

/-- The new value of one accumulator and its saturations, under the product of the outer scales. -/
def accumulateLane (m : AccMode) (d : ExecDesc) (scale : Exact) (limit : Nat) (a b : OpRow) (acc : BitVec 32) : BitVec 32 × Nat :=
  let fa := acwFmtA d.acw
  let fb := acwFmtB d.acw
  match m with
  | .integer => accumulateInt fa fb a b acc
  | .float => (accumulateFloat (acwGroup d.acw) limit scale (rowValues fa a) (rowValues fb b) acc, 0)
  | .ex8 => (accumulateEx fa fb limit a b acc, 0)

/-- The value of an accumulator in its mode. -/
def accValue (m : AccMode) (v : BitVec 32) : Exact := if m = .integer then .ofInt v.toInt else num32 v.toNat

/-! ## Accumulators (R140) -/

/-- The accumulator of a lane in a set. -/
def Block.accAt (x : Block) (lane set : Nat) : BitVec 32 := (get? x.acc (4 * lane + set)).getD 0

/-- The accumulator becomes `v`; a zero is not listed. -/
def Block.setAcc (x : Block) (lane set : Nat) (v : BitVec 32) : Block :=
  { x with acc := if v = 0 then del x.acc (4 * lane + set) else put x.acc (4 * lane + set) v }

/-- The pairs of rows of a descriptor with their lanes: lane base + i · rows of b + j. -/
def lanesOf (d : ExecDesc) : List (Nat × OpRow × OpRow) :=
  (d.a.rows.mapIdx fun i a => d.b.rows.mapIdx fun j b => (d.laneBase + i * d.b.rows.length + j, a, b)).flatten

/-- Every lane of a descriptor accumulates; the saturations are counted in its cell's set (R467). -/
def State.accumulate (s : State) (r : Fin 10) (b : Fin 18) (m : AccMode) (d : ExecDesc) (limit : Nat) : State × Nat :=
  let oa := s.outerFor r (acwFmtA d.acw) d.a.slot
  let ob := oa.2.outerFor r (acwFmtB d.acw) d.b.slot
  (lanesOf d).foldl (fun x l =>
    let v := accumulateLane m d (oa.1.mul ob.1) limit l.2.1 l.2.2 ((x.1.block r b).accAt l.1 (acwSet d.acw))
    let grid := l.1 / 64
    let cell := if (x.1.block r b).grid = grid then 64 else grid
    ((x.1.modBlock r b fun k => k.setAcc l.1 (acwSet d.acw) v.1).countCell r b cell 1 v.2, x.2 + v.2)) (ob.2, 0)

/-- Lanes whose accumulators hold values that the manual does not state: free values. -/
def State.freeLanes (s : State) (r : Fin 10) (b : Fin 18) (set : Nat) (lanes : List Nat) : State :=
  lanes.foldl (fun acc (l : Nat) =>
    let d := acc.draw 1 [(l : Int), (set : Int)]
    d.2.modBlock r b fun k => k.setAcc l set (BitVec.ofInt 32 d.1)) s

/-! ## Skew and poison (R198, R199) -/

/-- The earliest skew of the two operands, with the operand's number (0 a, 1 b). -/
def execSkew (d : ExecDesc) : Option (Nat × Skew) :=
  match firstSkew (acwFmtA d.acw) d.a.rows, firstSkew (acwFmtB d.acw) d.b.rows with
  | none, none => none
  | some x, none => some (0, x)
  | none, some y => some (1, y)
  | some x, some y => if y.element < x.element then some (1, y) else some (0, x)

def Skew.status (k : Skew) : Nat := if k.crumb then stCrumbSkew else stScaleSkew
def Skew.detail (k : Skew) : Nat := at_ 8 8 k.hi ||| at_ 8 0 k.lo

/-- A skew is counted and writes fault 0x0301 or 0x0302 (R199, R210). -/
def State.recordSkew (s : State) (loc : Loc) (h : BitVec 128) (operand : Nat) (k : Skew) : State :=
  (s.bump (ob 0x3400 (if k.crumb then 8 else 7))).fault (if k.crumb then 0x0302 else 0x0301) loc
    (at_ 32 32 (hSequence h) ||| at_ 2 30 operand ||| at_ 14 16 k.index ||| k.detail) (hClass h)

/-- The poison mark of a set. -/
def Block.poisonOf (x : Block) (set : Nat) : Option (Nat × Nat) := (x.poison.find? fun p => p.1.val == set).map fun p => p.2

/-- R199: the mark that a descriptor meets by continuing a poisoned set. -/
def continuedPoison (x : Block) (w : BitVec 64) : Option (Nat × Nat) :=
  match if acwClear w then none else x.poisonOf (acwSet w) with
  | some p => some p
  | none => if acwRead w then x.poisonOf (acwReadSet w) else none

/-- A descriptor that clears its set starts it at zero and removes its mark (R192, R199). -/
def Block.clearSet (x : Block) (set : Nat) : Block :=
  { x with acc := x.acc.filter fun e => e.1 % 4 != set, poison := x.poison.filter fun p => p.1.val != set }

/-! ## The descriptor -/

/-- The counts of a completed execute descriptor and the block's snapshot (R466, R467, R469). -/
def State.countExecute (s : State) (r : Fin 10) (b : Fin 18) (d : ExecDesc) (worked : Bool) : State :=
  let cells := ((lanesOf d).map fun l => l.1 / 64).dedup
  let s1 := cells.foldl (fun acc g => acc.countCell r b (if (acc.block r b).grid = g then 64 else g) 0 d.tokens) s
  let s2 := ((s1.countBlock r b (if worked then 11 else 12) d.tokens).countBlock r b 13 1).countBlock r b 14 d.tokens
  s2.modBlock r b fun x =>
    { x with
      snapSeq := hSequence d.header
      snapWorked := x.snapWorked + if worked then d.tokens else 0
      snapVoided := x.snapVoided + if worked then 0 else d.tokens
      snapCount := x.snapCount + 1 }

/-! ## Read-out (R192, R201) -/

/-- The rescale table of a read-out: none where it breaks the rules of R201. -/
def State.readTable (s : State) (m : AccMode) (o : ReadOut) : Option RescaleTable :=
  (s.tableOf o.table).filter fun t => tableOk t && t.entries.length == o.channels && t.inKind == (if m = .integer then 0 else 1)

/-- The rows of accumulators that a descriptor reads out: those of each row of operand a, its lanes being the rows of operand b. -/
def Block.readRows (x : Block) (m : AccMode) (d : ExecDesc) : List (List Exact) :=
  let n := d.b.rows.length
  (List.range d.a.rows.length).map fun i => (List.range n).map fun j => accValue m (x.accAt (d.laneBase + i * n + j) (acwReadSet d.acw))

/-- The places that a read-out writes: elements and stream. -/
def readPlaces (d : ExecDesc) (o : ReadOut) (t : RescaleTable) : List (MemRef × Nat) :=
  tensorPlaces t.outFormat d.a.rows.length d.b.rows.length o.dst o.stream

/-- The read-out set leaves the accumulators, and is requantised to its place where the descriptor names one (R192, R201); of a descriptor that has ended nothing is written but its statistics record. -/
def State.readOut (s : State) (r : Fin 10) (b : Fin 18) (m : AccMode) (d : ExecDesc) (invalid ended : Bool) : State :=
  if !acwRead d.acw then s
  else
    let s1 := s.emit (.accumulators r.val b.val (acwReadSet d.acw) ((lanesOf d).map fun l => (s.block r b).accAt l.1 (acwReadSet d.acw)))
    match d.out with
    | none => s1
    | some o => match s1.readTable m o with
      | none => s1
      | some t =>
        if ended then s1.tensorInvalid r (statsPlace r d.header) t.outFormat o.slot else
        let rows := rescaled (some t) o.channels ((s1.block r b).readRows m d)
        let sc := s1.scaleFor r t.outFormat o.slot
        let w := encodeRows t.outFormat sc.1 0 (fun _ => zeroPoints (some t) o.channels d.b.rows.length) rows
        let s2 := sc.2.writeTensor r b.val d.header t.outFormat o.dst o.stream w invalid
        if invalid then s2.tensorInvalid r (statsPlace r d.header) t.outFormat o.slot
        else s2.tensorStats r (statsPlace r d.header) t.outFormat o.slot rows.flatten w

/-- How an execute descriptor ends: RESIDUE before a skew or the mark of a poisoned set, these before any other status (R143, R199). -/
def executeEnd (met : Option Nat) (skew : Option (Nat × Skew)) (mark : Option (Nat × Nat)) : Nat × Nat × Bool :=
  match skew, mark with
  | none, none => match met with
    | some st => (st, 0, decide (st = stResidue))
    | none => (stOk, 0, false)
  | some x, _ => if met = some stResidue then (stResidue, 0, true) else (x.2.status, x.2.detail, true)
  | none, some p => if met = some stResidue then (stResidue, 0, true) else (p.1, p.2, true)

/-- R192 to R199: a permitted descriptor runs; when it completes it returns the credits of the buffers that it has consumed (R149). -/
def State.runExecute (s : State) (r : Fin 10) (b : Fin 18) (m : AccMode) (d : ExecDesc) : State :=
  let set := acwSet d.acw
  let mark := continuedPoison (s.block r b) d.acw
  let s0 := if acwClear d.acw then s.modBlock r b fun x => x.clearSet set else s
  let met := s0.meetUpsets r b.val d.header d.upsets []
  let poisoned := ((met.1.block r b).poisonOf set).isSome
  let skew := if poisoned then none else execSkew d
  let limit := match skew with
    | some k => k.2.element
    | none => 2 ^ 32
  let ran : State × Nat := if poisoned then (met.1, 0) else met.1.accumulate r b m d limit
  let s1 := match skew with
    | some (o, k) =>
      (ran.1.modBlock r b fun x => { x with poison := x.poison ++ [(Fin.ofNat 4 set, k.status, k.detail)] }).recordSkew
        (.ofBlock r.val b.val) d.header o k
    | none => ran.1
  let lanes := d.upsets.filterMap fun u => match u with
    | .residue cell lane _ => some (64 * (if cell.val = 64 then (s.block r b).grid else cell.val) + lane)
    | _ => none
  let ended := met.2.isSome && met.2 != some stResidue
  let s2 := if ended then s1.freeLanes r b set ((lanesOf d).map fun l => l.1) else s1.freeLanes r b set lanes
  let ends := executeEnd met.2 skew mark
  let s3 := s2.readOut r b m d ends.2.2 ended
  let s4 := if ran.2 = 0 then s3 else s3.bump (ob 0x3400 0x0A) ran.2
  let s5 := s4.complete r b.val d.header ends.1 ends.2.1 ((lanesOf d).length) ends.2.2
  (s5.modBlock r b fun x => { x with held := x.held.filter fun k => !d.returns.contains k }).countExecute r b d (decide (ends.1 < 0x100) && !ends.2.2)

/-- R192, R201: an execute descriptor that starts: its body is checked, then the places that it writes, and it runs. -/
def State.startExecute (s : State) (r : Fin 10) (b : Fin 18) (d : ExecDesc) : State :=
  let s1 := s.startBlock r b d.header
  let back (s : State) : State := s.modBlock r b fun x => { x with held := x.held.filter fun k => !d.returns.contains k }
  match acwMode d.acw with
  | none => back (s1.refuseBody r b.val d.header)
  | some m => match if acwRead d.acw then d.out else none with
    | none => s1.runExecute r b m d
    | some o => match s1.readTable m o with
      | none => back (s1.refuseBody r b.val d.header)
      | some t =>
        let places := readPlaces d o t
        let record := statsPlace r d.header
        if s1.badOut d.header t.outFormat places record then back (s1.complete r b.val d.header stAddress 0 0)
        else match s1.refusedOut d.header t.outFormat places record with
        | some p => back (s1.endGuard r b.val d.header p)
        | none => s1.runExecute r b m d

end Sys2Proof.Machine
end

