-- ==== Sys2Proof/Machine/Quant.lean ====
section
/-!
DEFINITION. The quantisation-and-statistics engine: statistics, conversions, scale slots and the optimizer step (R200 to R209, R504).
-/

namespace Sys2Proof.Machine

/-! ## Scale slots (R204) -/

/-- The 128 bytes of a slot (R204). -/
def Slot.bytes (x : Slot) : Bytes :=
  (x.hist.flatMap fun h => leBytes 4 h.toNat) ++ leBytes 4 x.even.toNat ++ leBytes 4 x.odd.toNat ++ leBytes 1 x.head ++ leBytes 1 x.format
    ++ leBytes 1 (b2n x.replayAllowed ||| at_ 1 1 (b2n x.replayed) ||| at_ 1 2 (b2n x.overflow) ||| at_ 1 3 (b2n x.underflow) ||| at_ 1 4 (b2n x.nonfinite))
    ++ leBytes 1 0 ++ leBytes 4 x.step ++ List.replicate 48 0

/-- A slot as an image declares it at a launch: the declared contents, its history all zero (R204). -/
def slotOfInit (i : SlotInit) : Slot :=
  { hist := List.replicate 16 0, even := i.even, odd := i.odd, head := i.head, format := i.format, replayAllowed := i.flags.getLsbD 0,
    replayed := i.flags.getLsbD 1, overflow := i.flags.getLsbD 2, underflow := i.flags.getLsbD 3, nonfinite := i.flags.getLsbD 4,
    step := i.step, cls := i.cls }

/-- A declared scale is positive and finite (R186). -/
def scaleFits (v : BitVec 32) : Bool := decide (0 < v.toNat ∧ v.toNat ≤ 0x7F7FFFFF)

/-- What an image may declare of a slot: scales that the encoder may write (R186), and no replay outside class L (R206). -/
def slotInitOk (i : SlotInit) : Bool := scaleFits i.even && scaleFits i.odd && (i.cls == 3 || !i.flags.getLsbD 0)

/-! ## Inputs (R200) -/

/-- The input values of an engine: FP8 elements under their outer scale. -/
def inputValues (fmt : Nat) (rows : List OpRow) (outer : Exact) : List (List Exact) :=
  rows.map fun row => if fmt = 4 ∨ fmt = 5 then (rowValues fmt row).map fun v => v.mul outer else rowValues fmt row

/-- Location of a fault of an engine's input: loc_unit holds the engine type. -/
def engineLoc (r : Fin 10) (engine : Nat) : Loc := { region := r.val, unit := engine }

/-- R200: a skew in the input: fault, poisoned output. -/
def State.inputSkew (s : State) (r : Fin 10) (h : BitVec 128) (fmt : Nat) (rows : List OpRow) : Option Skew × State :=
  match firstSkew fmt rows with
  | none => (none, s)
  | some k => (some k, s.recordSkew (engineLoc r (hEngine h)) h 2 k)

/-- The places of the input of a descriptor. -/
def inputPlaces (fmt : Nat) (t : TensorRef) : List (MemRef × Nat) := tensorPlaces fmt t.rows t.length t.place t.stream

/-- The end of a descriptor whose input is skewed or which an upset met. -/
def State.endInvalid (s : State) (r : Fin 10) (h : BitVec 128) (k : Option Skew) (st : Option Nat) : State :=
  match st, k with
  | some c, none => s.complete r 18 h c 0 0 (decide (c = stResidue))
  | some c, some x => if c = stResidue then s.complete r 18 h c 0 0 true else s.complete r 18 h x.status x.detail 0 true
  | none, some x => s.complete r 18 h x.status x.detail 0 true
  | none, none => s

/-- Whether the body of a statistics or conversion descriptor names formats that exist. -/
def quantFormatsOk (d : QuantDesc) (conv : Bool) : Bool := isFormat d.format && (!conv || d.table.isSome || isFormat d.outFormat)

/-! ## STATS_TENSOR and STATS_CHANNEL (R203, R504) -/

/-- The counts that encoding into the slot's format would have raised (R504). -/
def State.wouldCount (s : State) (r : Fin 10) (slot : Option Nat) (rows : List (List Exact)) : Nat × Nat :=
  match slot.bind (s.slotOf r) with
  | none => (0, 0)
  | some x =>
    let w := encodeRows x.format x.scale 0 (fun _ => []) rows
    (w.sat, w.und)

/-- The per-channel abs-max array (R203, R504). -/
def channelAmax (channels : Nat) (xs : List Exact) : Bytes :=
  (List.range channels).flatMap fun c =>
    leBytes 4 (fp32.ieee (amaxOf ((List.range (divUp xs.length (max 1 channels))).filterMap fun i => xs[i * channels + c]?)))

/-- A statistics descriptor that passed its checks: its input is read, and its record written. -/
def State.runStats (s : State) (r : Fin 10) (d : QuantDesc) (perChannel : Bool) : State :=
  let h := d.header
  let place := statsPlace r h
  let n := 32 + if perChannel then 4 * d.channels else 0
  let ins := inputPlaces d.format d.input
  if s.badPlaces ins || s.badPlace place n then s.complete r 18 h stAddress 0 0
  else match s.refusedPlace h ins false with
  | some p => s.endGuard r 18 h p
  | none =>
    if !s.permits (hClass h) place n true then s.endGuard r 18 h place
    else
      let met := s.meetUpsets r 18 h d.upsets ins
      let input := met.1.readTensor d.format d.input
      let sk := met.1.inputSkew r h d.format input
      let fields := sk.2.slotFields r d.slot
      if met.2.isSome || sk.1.isSome then
        let inv := fields.2.invalidStats d.format fields.1
        (inv.2.store place inv.1.bytes).endInvalid r h sk.1 met.2
      else
        let outer := fields.2.outerFor r d.format d.input.slot
        let rows := inputValues d.format input outer.1
        let xs := rows.flatten
        let counts := outer.2.wouldCount r d.slot rows
        let rec_ := { statsOf xs counts.1 counts.2 d.format fields.1.1 fields.1.2 with
          perChannel := perChannel, channels := if perChannel then d.channels else 0 }
        (outer.2.store place (rec_.bytes ++ if perChannel then channelAmax d.channels xs else [])).complete r 18 h stOk 0 1

/-! ## CONVERT (R201, R504) -/

/-- Whether a conversion's output is blocked across the rows of its input: its rows then run along that axis (R174, R504). -/
def convertsAcross (d : QuantDesc) (fmt : Nat) : Bool := d.across && (isMx fmt || fmt == 13)

/-- The rows of a conversion's output and their length. -/
def convertShape (d : QuantDesc) (fmt : Nat) : Nat × Nat := if convertsAcross d fmt then (d.input.length, d.input.rows) else (d.input.rows, d.input.length)

/-- The values of a conversion have been computed: they are encoded and written, with their record. -/
def State.writeConvert (s : State) (r : Fin 10) (d : QuantDesc) (t : Option RescaleTable) (fmt : Nat) (values : List (List Exact)) : State :=
  let rows := if convertsAcross d fmt then acrossRows values else values
  let sc := s.scaleFor r fmt d.slot
  let w := encodeRows fmt sc.1 0 (fun i => zeroPoints t d.channels (rows.getD i []).length) rows
  ((sc.2.writeTensor r 18 d.header fmt d.dst d.stream w).tensorStats r (statsPlace r d.header) fmt d.slot rows.flatten w).complete
    r 18 d.header stOk 0 rows.flatten.length

/-- A conversion that passed its checks. -/
def State.runConvert (s : State) (r : Fin 10) (d : QuantDesc) (t : Option RescaleTable) : State :=
  let h := d.header
  let fmt := (t.map RescaleTable.outFormat).getD d.outFormat
  let shape := convertShape d fmt
  let ins := inputPlaces d.format d.input
  let outs := tensorPlaces fmt shape.1 shape.2 d.dst d.stream
  if s.badPlaces ins || s.badOut h fmt outs (statsPlace r h) then s.complete r 18 h stAddress 0 0
  else match s.refusedPlace h ins false with
  | some p => s.endGuard r 18 h p
  | none => match s.refusedOut h fmt outs (statsPlace r h) with
    | some p => s.endGuard r 18 h p
    | none =>
      let met := s.meetUpsets r 18 h d.upsets ins
      let input := met.1.readTensor d.format d.input
      let sk := met.1.inputSkew r h d.format input
      if met.2.isSome || sk.1.isSome then (sk.2.tensorInvalid r (statsPlace r h) fmt d.slot).endInvalid r h sk.1 met.2
      else
        let outer := sk.2.outerFor r d.format d.input.slot
        outer.2.writeConvert r d t fmt (rescaled t d.channels (inputValues d.format input outer.1))

/-- R201: the table that a conversion names, checked; none where it is refused. -/
def State.convertTable (s : State) (d : QuantDesc) : Option (Option RescaleTable) :=
  match d.table with
  | none => some none
  | some tag => match s.tableOf tag with
    | none => none
    | some t => if tableOk t && t.entries.length == d.channels then some (some t) else none

/-! ## SCALE_UPDATE (R205 to R207) -/

/-- derive of R205, as a binary32 pattern. -/
def deriveScale (a maxcode : Nat) (margin : Int) (nearest : Bool) : Nat :=
  let lo := 0x00800000
  let hi := 0x7F000000
  match num32 a with
  | .fin _ m d e =>
    let m' := m
    let d' := d * maxcode
    let k := e + margin
    let c := if nearest then fp32.ieee (.fin false m' d' k)
      else if m' = 0 then lo else fp32.ieee (.fin false 1 1 (ceilLog m' d' k))
    if c < lo then lo else if hi < c then hi else c
  | _ => hi

/-- The largest code of a slot's format (R205). -/
def maxCode (fmt : Nat) : Nat := if fmt = 4 then 448 else if fmt = 5 then 57344 else 127

/-- The sums over the records that SCALE_UPDATE merges (R205). -/
structure Merge where
  amax : Nat
  elements : Nat
  sat : Nat
  und : Nat
  nonfinite : Nat
deriving DecidableEq, Repr

/-- One record joins the sums. -/
def Merge.add (g : Merge) (bs : Bytes) : Merge :=
  ⟨max g.amax (leAt bs 28 4), g.elements + leAt bs 12 4, g.sat + leAt bs 24 4, g.und + leAt bs 20 4, g.nonfinite + leAt bs 16 4⟩

/-- scale_update of R205: the new slot, and whether the step is marked for replay. -/
def scaleUpdateOf (x : Slot) (g : Merge) (cls tOver tUnder : Nat) (replay : Bool) (margin : Int) (nearest : Bool) : Slot × Bool :=
  let exceeds := decide (g.elements < g.sat * tOver)
  let set (x : Slot) (even : Bool) (v : Nat) : Slot := if even then { x with even := BitVec.ofNat 32 v } else { x with odd := BitVec.ofNat 32 v }
  let p := x.step % 2 = 0
  if exceeds ∧ cls = 3 ∧ x.replayAllowed ∧ replay ∧ !x.replayed then
    let y := if 0 < g.amax then set x p (deriveScale g.amax (maxCode x.format) margin nearest) else x
    ({ y with replayed := true }, true)
  else
    let hist := x.hist.set (x.head % 16) (BitVec.ofNat 32 g.amax)
    let a := hist.foldl (fun m v => max m v.toNat) 0
    let y := set x (!p) (if 0 < a then deriveScale a (maxCode x.format) margin nearest else x.scale)
    ({ y with
        hist := hist, head := (x.head + 1) % 16, overflow := exceeds, underflow := decide (g.elements < g.und * tUnder),
        nonfinite := decide (0 < g.nonfinite), replayed := false, step := (x.step + 1) % 2 ^ 32 }, false)

/-- A scale slot changes. -/
def State.setSlot (s : State) (r : Fin 10) (n : Nat) (x : Slot) : State := s.modRegion r fun g => { g with slots := put g.slots n x }

/-- The replay mark that the image declares for a slot: the first descriptor of its step, from which the steward issues the step again (R206). -/
def State.replayMark (s : State) (r : Fin 10) (n : Nat) : Nat :=
  match s.launch.image.bind fun im => im.slots.find? fun i => i.region == r && i.slot == n with
  | some i => i.replayMark
  | none => 0

/-- R205 to R207: a scale update that passed its checks; a slot that the image does not declare is out of range. -/
def State.runScaleUpdate (s : State) (r : Fin 10) (d : ScaleDesc) : State :=
  let h := d.header
  match s.slotOf r d.slot with
  | none => s.complete r 18 h stAddress 0 0
  | some x =>
    if d.records.any fun a => !(rmemAt r.val a).inside 32 then s.complete r 18 h stAddress 0 0
    else match d.records.find? fun a => !s.permits (hClass h) (rmemAt r.val a) 32 false with
    | some a => s.endGuard r 18 h (rmemAt r.val a)
    | none =>
      let g := d.records.foldl (fun g a => g.add (s.load (rmemAt r.val a) 32)) ⟨0, 0, 0, 0, 0⟩
      let res := scaleUpdateOf x g (hClass h) (s.nat (ob 0x3400 1)) (s.nat (ob 0x3400 3)) (s.flag (ob 0x3400 2)) (s.int (ob 0x3400 6))
        (s.nat (ob 0x3400 5) == 1)
      let y := res.1
      let s1 := s.setSlot r d.slot y
      if res.2 then
        (((s1.bump (ob 0x3400 9)).fault 0x0304 (.ofRegion r.val) (at_ 32 32 x.step ||| at_ 32 0 d.slot)).complete r 18 h stOk 1 1).emit
          (.replay r.val d.slot (s1.replayMark r d.slot))
      else
        let s2 := if y.overflow then s1.fault 0x0303 (.ofRegion r.val) (at_ 32 32 g.sat ||| at_ 32 0 d.slot) else s1
        let s3 := if y.underflow then (s2.bump (ob 0x3400 0x0B)).fault 0x0305 (.ofRegion r.val) (at_ 32 32 g.und ||| at_ 32 0 d.slot) else s2
        s3.complete r 18 h stOk (at_ 1 1 (b2n y.overflow) ||| at_ 1 2 (b2n y.underflow) ||| at_ 1 3 (b2n y.nonfinite)) 1

/-! ## OPT_STEP (R208, R209) -/

/-- The update of one element: the new first moment, second moment and weight (R208). -/
def optElement (d : OptDesc) (sg gc m v w : Exact) : Exact × Exact × Exact :=
  let c (x : BitVec 32) : Exact := num32 x.toNat
  let gr := (gc.mul sg).rn
  let m1 := (((c d.beta1).mul m).rn.add ((c d.beta1c).mul gr).rn).rn
  let v1 := (((c d.beta2).mul v).rn.add ((c d.beta2c).mul (gr.mul gr).rn).rn).rn
  let u := ((m1.mul (c d.k1)).rn.div (((v1.mul (c d.k2)).rn.sqrt.add (c d.eps)).rn)).rn
  let w1 := (w.sub ((c d.lr).mul (u.add ((c d.wd).mul w).rn).rn).rn).rn
  (m1, v1, w1)

/-- The state tensors of an update as HBM holds them: first moments with their scale lines, second moments, weights. -/
def State.optLoad (s : State) (d : OptDesc) : OpRow × List Exact × List Exact :=
  let n := d.count
  let lines := (s.loadStream 6 (divUp n 32) ⟨0, 0, 0, d.mScaleAddr⟩).1
  (⟨(s.load ⟨0, 0, 0, d.mAddr⟩ n).map BitVec.toNat, lines, [], 0⟩,
   (unpackElems 2 n (s.load ⟨0, 0, 0, d.vAddr⟩ (2 * n))).map bf16.decode,
   (unpackElems 1 n (s.load ⟨0, 0, 0, d.wAddr⟩ (4 * n))).map num32)

/-- The places that an update reads and writes, with their lengths. -/
def optPlaces (d : OptDesc) : List (MemRef × Nat) :=
  let n := d.count
  tensorPlaces 6 1 n ⟨0, 0, 0, d.mAddr⟩ ⟨0, 0, 0, d.mScaleAddr⟩ ++ [(⟨0, 0, 0, d.vAddr⟩, 2 * n), (⟨0, 0, 0, d.wAddr⟩, 4 * n)]

/-- The place of the statistics record of a working copy, after that of the first moments. -/
def copyRecord (r : Fin 10) (d : OptDesc) : MemRef := rmemAt r.val (hStatusAddr d.header + 48)

/-- The working copy of the weights, if one is written, with its own statistics record (R208). -/
def State.optCopy (s : State) (r : Fin 10) (d : OptDesc) (ws : List Exact) : State :=
  match d.copy with
  | none => s
  | some (fmt, slot, dst, stream) =>
    let sc := s.scaleFor r fmt slot
    let w := encodeRows fmt sc.1 0 (fun _ => []) [ws]
    (sc.2.writeTensor r 18 d.header fmt dst stream w).tensorStats r (copyRecord r d) fmt slot ws w

/-- Whether the places of a working copy end the update with ADDRESS. -/
def State.badCopy (s : State) (r : Fin 10) (d : OptDesc) : Bool :=
  match d.copy with
  | none => false
  | some (fmt, _, dst, stream) => s.badOut d.header fmt (tensorPlaces fmt 1 d.count dst stream) (copyRecord r d)

/-- The first place of a working copy that the class may not write. -/
def State.refusedCopy (s : State) (r : Fin 10) (d : OptDesc) : Option MemRef :=
  match d.copy with
  | none => none
  | some (fmt, _, dst, stream) => s.refusedOut d.header fmt (tensorPlaces fmt 1 d.count dst stream) (copyRecord r d)

/-- The records of an update whose outputs are invalid: of the first moments, and of a working copy. -/
def State.optInvalid (s : State) (r : Fin 10) (d : OptDesc) : State :=
  let s1 := s.tensorInvalid r (statsPlace r d.header) 6 (some d.slot)
  match d.copy with
  | none => s1
  | some (fmt, slot, _, _) => s1.tensorInvalid r (copyRecord r d) fmt slot

/-- R208: the elements of an update are read, updated and written. -/
def State.updateElements (s : State) (r : Fin 10) (d : OptDesc) (x : Slot) (old : OpRow × List Exact × List Exact) : State :=
  let h := d.header
  let grads := unpackElems 5 d.count (s.load d.grads d.count)
  let ms := rowValues 6 old.1
  let res := grads.mapIdx fun i g =>
    optElement d (num32 x.scale) (e5m2.decode g) (ms.getD i Exact.zero) (old.2.1.getD i Exact.zero) (old.2.2.getD i Exact.zero)
  let wm := encodeRows 6 0 0 (fun _ => []) [res.map fun e => e.1]
  let wv := encodeRows 2 0 0 (fun _ => []) [res.map fun e => e.2.1]
  let s1 := (s.store ⟨0, 0, 0, d.mAddr⟩ (packElems 6 wm.codes)).store ⟨0, 0, 0, d.mScaleAddr⟩ wm.stream
  let s2 := (s1.store ⟨0, 0, 0, d.vAddr⟩ (packElems 2 wv.codes)).store ⟨0, 0, 0, d.wAddr⟩ (packElems 1 (res.map fun e => fp32.ieee e.2.2))
  let sat := wm.sat + wv.sat
  let s3 := if sat = 0 then s2 else s2.bump (ob 0x3400 0x0A) sat
  let s4 := s3.store (statsPlace r h) (statsOf (res.map fun e => e.1) wm.sat wm.und 6 x.step d.slot).bytes
  (s4.optCopy r d (res.map fun e => e.2.2)).complete r 18 h stOk 0 d.count

/-- R208, R209: an optimizer step that passed its checks. -/
def State.runOptStep (s : State) (r : Fin 10) (d : OptDesc) : State :=
  let h := d.header
  let places := optPlaces d
  let record := (statsPlace r h, 32)
  match s.slotOf r d.slot with
  | none => s.complete r 18 h stAddress 0 0
  | some x =>
    if x.nonfinite then
      ((s.bump (ob 0x3400 0x0C)).fault 0x0306 (.ofRegion r.val) (at_ 32 32 (hSequence h) ||| at_ 32 0 d.slot) (hClass h)).complete r 18 h stOk 0x10 0
    else if s.badPlaces ((d.grads, d.count) :: record :: places) || s.badCopy r d then s.complete r 18 h stAddress 0 0
    else match s.refusedPlace h ((d.grads, d.count) :: places) false with
    | some p => s.endGuard r 18 h p
    | none => match (record :: places).find? fun p => !s.permits (hClass h) p.1 p.2 true with
      | some p => s.endGuard r 18 h p.1
      | none => match s.refusedCopy r d with
        | some p => s.endGuard r 18 h p
        | none =>
          let met := s.meetUpsets r 18 h [] ((d.grads, d.count) :: places)
          let old := met.1.optLoad d
          let sk := met.1.inputSkew r h 6 [old.1]
          if met.2.isSome || sk.1.isSome then (sk.2.optInvalid r d).endInvalid r h sk.1 met.2
          else sk.2.updateElements r d x old

/-! ## The descriptors of the engine -/

/-- R504: the operation code of a descriptor is checked, then what its body names (R172, R201); `run` is what the accepted one does. -/
def State.quant (s : State) (r : Fin 10) (h : BitVec 128) (ok : Bool) (run : State → State) : State :=
  if hOperation h = 0 ∨ 5 < hOperation h then s.refuseBody r 18 h false
  else if !ok then s.refuseBody r 18 h
  else (run s).countTokens r 3

/-- R203: STATS_TENSOR, or STATS_CHANNEL, starts. -/
def State.startStats (s : State) (r : Fin 10) (d : QuantDesc) (perChannel : Bool) : State :=
  s.quant r d.header (quantFormatsOk d false) fun s => s.runStats r d perChannel

/-- R201: CONVERT starts. -/
def State.startConvert (s : State) (r : Fin 10) (d : QuantDesc) : State :=
  s.quant r d.header (quantFormatsOk d true && (s.convertTable d).isSome) fun s' => s'.runConvert r d ((s.convertTable d).getD none)

/-- R205: SCALE_UPDATE starts. -/
def State.startScaleUpdate (s : State) (r : Fin 10) (d : ScaleDesc) : State := s.quant r d.header true fun s => s.runScaleUpdate r d

/-- R172, R208, R209: OPT_STEP starts; a descriptor whose class is not L ends with CLASS_MISMATCH, and a working copy has a format that exists. -/
def State.startOptStep (s : State) (r : Fin 10) (d : OptDesc) : State :=
  s.quant r d.header (hClass d.header != 3 || (d.copy.map fun c => isFormat c.1).getD true) fun s =>
    if hClass d.header ≠ 3 then s.refuse r 18 d.header stClassMismatch 0 false else s.runOptStep r d

end Sys2Proof.Machine
end

