-- ==== Sys2Proof/Machine/Window.lean ====
section
/-!
DEFINITION. The window engine (R211 to R225, R232): checks of the window body, output lines and columns, fill, convolutions in cap and split mode, the operators of the port datapath.
-/

namespace Sys2Proof.Machine

/-! ## The window body (R214) -/

/-- The geometry word of selvedge entries: CRC-8 over window body bits 255 to 128 (R226). -/
def wGeometry (d : WinDesc) : Nat := crc 8 0x07 0 (leBytes 16 (wb d 255 128))

/-- Whether an operation is a resize (7 or 8). -/
def isResize (op : Nat) : Bool := decide (op = 7 ∨ op = 8)

/-- The extents of the filter (R216); those of RESIZE_BILINEAR are 1 (R225). -/
def extY (op : Nat) (d : WinDesc) : Nat := if op = 8 then 1 else if op = 7 then 0 else wDy d * (wKh d - 1)
def extX (op : Nat) (d : WinDesc) : Nat := if op = 8 then 1 else if op = 7 then 0 else wDx d * (wKw d - 1)
def haloL (op : Nat) (d : WinDesc) : Nat := extX op d / 2
def haloR (op : Nat) (d : WinDesc) : Nat := extX op d - haloL op d

/-- Bytes of an input or output line: it starts on a 64-byte boundary (R214). -/
def lineBytes (fmt elems : Nat) : Nat := 64 * divUp (divUp (elems * elemBits fmt) 8) 64

/-- The place of a descriptor's weights or mask. -/
def wPlace (r : Fin 10) (b : Fin 18) (d : WinDesc) : MemRef := ⟨if wSpace d = 1 then 1 else 2, r.val, b.val, wAddr d⟩

/-- A place in the block's scratchpad. -/
def padPlace (r : Fin 10) (b : Fin 18) (a : Nat) : MemRef := ⟨2, r.val, b.val, a⟩

/-- The structuring mask (R214). -/
def State.mask (s : State) (r : Fin 10) (b : Fin 18) (d : WinDesc) : List Bool :=
  let n := wKh d * wKw d
  let v := leNat (s.load (wPlace r b d) (divUp n 8))
  (List.range n).map fun i => bit v i

/-! ## Checks (R215) -/

/-- Bytes of a selvedge entry of `width` columns (R226). -/
def entryBytes (d : WinDesc) (width : Nat) : Nat := 8 + 64 * divUp (divUp (width * wInCh d * elemBits (wInFmt d)) 8) 64

/-- Formats that the operators of the port accept (R225). -/
def portFormat (fmt : Nat) : Bool := decide ((1 ≤ fmt ∧ fmt ≤ 5) ∨ (10 ≤ fmt ∧ fmt ≤ 12))

/-- Reason 6: the formats of the operation (R224, R225). -/
def formatsBad (op : Nat) (d : WinDesc) : Bool :=
  if op = 1 then
    decide (wInFmt d ≠ acwFmtA (winAcw d)) ||
      ((wTable d).isNone && !(decide (wOutFmt d = 1) && pairMode (acwFmtA (winAcw d)) (acwFmtB (winAcw d)) != some .integer))
  else !portFormat (wInFmt d) || (if op = 3 ∨ op = 8 then !portFormat (wOutFmt d) else decide (wOutFmt d ≠ wInFmt d))

/-- Channels per group; an operand of the cells is divided along them. -/
def wGroupCh (d : WinDesc) : Nat := wInCh d / wGroups d

/-- Reason 7: widths and channels. -/
def channelsBad (op : Nat) (d : WinDesc) : Bool :=
  decide (wWidth d = 0 ∨ 2048 < wWidth d ∨ wGroups d = 0 ∨ wInCh d = 0 ∨ wInCh d % wGroups d ≠ 0 ∨ wOutCh d % wGroups d ≠ 0) ||
    (op == 1 && ((isMx (wInFmt d) && wGroupCh d % 32 != 0) || ((wInFmt d == 13 || acwFmtB (winAcw d) == 13) && wGroupCh d % 128 != 0)))

/-- Reason 8: the selvedge buffers. -/
def selvedgeBad (op : Nat) (d : WinDesc) : Bool :=
  let b := wSelDepth d
  decide (b < 16 ∨ b < 2 * divUp (max (extX op d) (extY op d)) 2) ||
    (wSelLeft d && decide (65536 < b * entryBytes d (haloL op d))) || (wSelRight d && decide (65536 < b * entryBytes d (haloR op d))) ||
    (!wSelLeft d && decide (wX0 d ≠ 0))

/-- Reason 9: the coil markers. -/
def markersBad (d : WinDesc) : Bool :=
  (wCoilStart d && decide (wLines d ≤ wStartLine d)) || (wCoilEnd d && decide (wLines d < wEndLine d)) ||
    (wCoilStart d && wCoilEnd d && decide (wStartLine d < wEndLine d))

/-- Reason 11: modes and operations that do not go together. -/
def modeBad (op : Nat) (d : WinDesc) : Bool :=
  (wSplit d && op != 1) || (op == 6 && (decide (wKh d * wKw d % 2 = 0) || decide (49 < wKh d * wKw d))) ||
    (isResize op && decide (wKh d ≠ 1 ∨ wKw d ≠ 1 ∨ wDy d ≠ 1 ∨ wDx d ≠ 1 ∨ wPadT d ≠ 0 ∨ wPadB d ≠ 0 ∨ wPadL d ≠ 0 ∨ wPadR d ≠ 0))

/-- The first failing reason (R215). -/
def refusalReason (op : Nat) (d : WinDesc) (mask : List Bool) : Option Nat :=
  if wb d 465 448 ≠ 0 ∨ wb d 210 192 ≠ 0 ∨ wb d 129 128 ≠ 0 ∨ wb d 97 64 ≠ 0 ∨ wb d 9 0 ≠ 0 ∨ fld d.body 639 576 ≠ 0
      ∨ hBodyLength d.header ≠ 5 ∨ (op ≠ 1 ∧ winAcw d ≠ 0) then some 1
  else if op = 0 ∨ 8 < op then some 2
  else if wKh d = 0 ∨ wKw d = 0 ∨ (!wSplit d ∧ (15 < wKh d ∨ 15 < wKw d)) ∨ 127 < wKh d ∨ 127 < wKw d then some 3
  else if 126 < wDy d * (wKh d - 1) ∨ 126 < wDx d * (wKw d - 1) then some 4
  else if wSy d = 0 ∨ 16 < wSy d ∨ wSx d = 0 ∨ 16 < wSx d ∨ wDy d = 0 ∨ 8 < wDy d ∨ wDx d = 0 ∨ 8 < wDx d then some 5
  else if formatsBad op d then some 6
  else if channelsBad op d then some 7
  else if selvedgeBad op d then some 8
  else if markersBad d then some 9
  else if (wFill d = 1 ∧ !finite32 (wFillValue d)) ∨ ((op = 4 ∨ op = 5) ∧ !(mask.any id)) then some 10
  else if modeBad op d then some 11
  else none

/-! ## Output lines and columns (R217, R219, R220, R232) -/

/-- A piece of coil that a descriptor sees: the input line of the coil's line 0 (of either sign), first and last coil line held, the coil's length where it ends here, and whether the coil starts here. -/
structure CoilPart where
  origin : Int
  first : Int
  last : Int
  length : Option Int
  starts : Bool
deriving DecidableEq, Repr

/-- The pieces of coil of a descriptor, the ending one first (R232). -/
def coilParts (d : WinDesc) : List CoilPart :=
  let y0 : Int := wY0 d
  let n : Int := wLines d
  let ending : CoilPart := ⟨-y0, y0, y0 + wEndLine d - 1, some (y0 + wEndLine d), false⟩
  let starting : CoilPart := ⟨wStartLine d, 0, n - 1 - wStartLine d, none, true⟩
  let middle : CoilPart := ⟨-y0, y0, y0 + n - 1, none, false⟩
  match wCoilEnd d, wCoilStart d with
  | true, true => [ending, starting]
  | true, false => [ending]
  | false, true => [starting]
  | false, false => [middle]

/-- Output length along an axis (R217). -/
def outLength (n padA padB e s : Int) : Int := (n + padA + padB - e - 1) / s + 1

/-- First input line of output line n; for a resize, that of its source position (R219, R225). -/
def firstLine (op : Nat) (d : WinDesc) (n : Int) : Int :=
  if op = 7 then n / wSy d else if op = 8 then (2 * n + 1 - wSy d) / (2 * wSy d) else n * wSy d - wPadT d

/-- First input column of output column m (R220, R225). -/
def firstCol (op : Nat) (d : WinDesc) (m : Int) : Int :=
  if op = 7 then m / wSx d else if op = 8 then (2 * m + 1 - wSx d) / (2 * wSx d) else m * wSx d - wPadL d

/-- Candidates for an output index whose first input index may lie between two bounds. -/
def candidates (up : Bool) (s lo hi pad : Int) : List Int :=
  let a := if up then max 0 ((lo - 1) * s) else max 0 ((lo + pad) / s)
  let z := if up then (hi + 2) * s else (hi + pad) / s + 1
  (List.range (z - a + 1).toNat).map fun (i : Nat) => a + (i : Int)

/-- Whether output line n exists: its number lies below the output length, where the coil's end is known (R217). -/
def lineExists (op : Nat) (d : WinDesc) (len : Option Int) (n : Int) : Bool :=
  match len with
  | some len => if isResize op then decide (n < len * wSy d) else decide (n < outLength len (wPadT d) (wPadB d) (extY op d) (wSy d))
  | none => true

/-- The output lines that a descriptor produces of a piece of coil (R219). -/
def outLines (op : Nat) (d : WinDesc) (p : CoilPart) : List Int :=
  let e : Int := extY op d
  let hi := match p.length with
    | some n => n + wPadB d + e
    | none => p.last - e
  (candidates (isResize op) (wSy d) (if p.starts then -(wPadT d : Int) - 1 else p.first) hi (wPadT d)).filter fun n =>
    let l := firstLine op d n + e
    decide (0 ≤ n) && (p.starts || decide (p.first + e ≤ l)) && lineExists op d p.length n && (p.length.isSome || decide (l ≤ p.last))

/-- The taps of a window along travel, and across the web, from its first line or column. -/
def rowTaps (op : Nat) (d : WinDesc) : List Int := if op = 8 then [0, 1] else if op = 7 then [0] else (List.range (wKh d)).map fun j => (j : Int) * wDy d
def colTaps (op : Nat) (d : WinDesc) : List Int := if op = 8 then [0, 1] else if op = 7 then [0] else (List.range (wKw d)).map fun j => (j : Int) * wDx d

/-- The width of the stream: known at its right edge, and as the image gives it elsewhere (R217). -/
def streamWidth (d : WinDesc) : Int := if wSelRight d then d.streamCols else wX0 d + wWidth d

/-- Whether output column m exists: its number lies below the output width (R217). -/
def colExists (op : Nat) (d : WinDesc) (m : Int) : Bool :=
  if isResize op then decide (m < streamWidth d * wSx d)
  else decide (m < outLength (streamWidth d) (wPadL d) (wPadR d) (extX op d) (wSx d))

/-- The output columns that a stripe owns (R220). -/
def outCols (op : Nat) (d : WinDesc) : List Int :=
  let x0 : Int := wX0 d
  let x1 : Int := x0 + wWidth d
  let lo := if wSelLeft d then x0 - haloL op d else -(wPadL d : Int) - 1
  let hi := if wSelRight d then x1 else x1 + wPadR d + haloR op d
  (candidates (isResize op) (wSx d) lo hi (wPadL d)).filter fun m =>
    let c := firstCol op d m + haloL op d
    decide (0 ≤ m) && (decide (x0 ≤ c ∧ c < x1) || (!wSelLeft d && decide (c < 0)) || (!wSelRight d && decide (x1 ≤ c))) && colExists op d m

/-- R221: the index that a fill of replicate or reflect reads; none for zero and constant fill. A length that is not known does not fold again. -/
def sourceIndex (fill : Nat) (i : Int) (n : Option Int) : Option Int :=
  let inside := decide (0 ≤ i) && (match n with
    | some n => decide (i < n)
    | none => true)
  if inside then some i
  else if fill = 2 then some (match n with
    | some n => clampI 0 (n - 1) i
    | none => 0)
  else if fill = 3 then
    match n with
    | none => some (-i)
    | some n => if n = 1 then some 0 else
        let p := 2 * (n - 1)
        let j := i % p
        some (if n ≤ j then p - j else j)
  else none

/-! ## Elements of the input -/

/-- One column of one line: its channels' codes, values, and its EX8 group records. -/
structure Pix where
  codes : List Nat
  values : List Exact
  records : List (BitVec 320)
deriving DecidableEq, Repr

/-- A pixel of one constant, converted once to the format (R221) and read under the outer scale as any element is; an EX8 constant takes a scale that the manual does not give. -/
def constPix (fmt n value free : Nat) (outer : Exact) : Pix × Nat :=
  let x := num32 value
  let w := encodeRow fmt (if fmt = 13 then free else 0x3F800000) 0 [] (List.replicate n x)
  let vs := if isMx fmt then w.codes.mapIdx fun i c => mxValue fmt (w.scales.getD (i / 32) 0x7F) c
    else if fmt = 13 then rowValues 13 ⟨w.codes, [], w.records, 0⟩
    else w.codes.map fun c => (elemValue fmt c).mul outer
  (⟨w.codes, vs, w.records⟩, w.sat)

/-- A pixel of zeros. -/
def zeroPix (fmt n : Nat) : Pix :=
  ⟨List.replicate n 0, List.replicate n Exact.zero, if fmt = 13 then List.replicate (divUp n 128) (BitVec.ofNat 320 (0x3F800000 <<< 32)) else []⟩

/-- The pixels of a row of codes, `ch` channels each, under an outer scale. -/
def pixelsOf (fmt ch : Nat) (row : OpRow) (outer : Exact) : List Pix :=
  let vs := rowValues fmt row
  (List.range (row.codes.length / max 1 ch)).map fun i =>
    let v := (vs.drop (i * ch)).take ch
    ⟨(row.codes.drop (i * ch)).take ch, if fmt = 4 ∨ fmt = 5 then v.map fun x => x.mul outer else v,
      if fmt = 13 then (row.records.drop (i * (ch / 128))).take (ch / 128) else []⟩

/-- Blocks or groups of the input, and of the weights. -/
def inBlocks (d : WinDesc) : Nat := rowBlocks (wInFmt d) (wLines d * wWidth d * wInCh d)
def weightCount (d : WinDesc) : Nat := wOutCh d * wKh d * wKw d * wGroupCh d
def weightBlocks (d : WinDesc) : Nat := rowBlocks (acwFmtB (winAcw d)) (weightCount d)

/-- The input as one row: the codes of every line, with the scale or group stream. -/
def State.inputRow (s : State) (r : Fin 10) (b : Fin 18) (d : WinDesc) : OpRow :=
  let n := wWidth d * wInCh d
  let bytes := lineBytes (wInFmt d) n
  let st := s.loadStream (wInFmt d) (inBlocks d) d.inStream
  ⟨(List.range (wLines d)).flatMap fun i => unpackElems (wInFmt d) n (s.load (padPlace r b (wInAddr d + i * bytes)) bytes), st.1, st.2, 0⟩

/-- The weights as one row, in the order [out][k_h][k_w][channel of the group], with their stream. -/
def State.weightRow (s : State) (r : Fin 10) (b : Fin 18) (d : WinDesc) : OpRow :=
  let fmt := acwFmtB (winAcw d)
  let st := s.loadStream fmt (weightBlocks d) d.wStream
  ⟨unpackElems fmt (weightCount d) (s.load (wPlace r b d) (divUp (weightCount d * elemBits fmt) 8)), st.1, st.2, 0⟩

/-- The stream columns that the windows of the stripe's output columns read. -/
def readCols (op : Nat) (d : WinDesc) : List Int := (outCols op d).flatMap fun m => (colTaps op d).map fun t => firstCol op d m + t

/-- The neighbour's columns that output columns read, left (side 0) or right (1), in ascending order (R218, R227). -/
def bandCols (op : Nat) (d : WinDesc) (side : Nat) : List Int :=
  let cols := readCols op d
  let x0 : Int := wX0 d
  let n := if side = 0 then haloL op d else haloR op d
  let band := (List.range n).map fun (i : Nat) => if side = 0 then x0 - n + (i : Int) else x0 + wWidth d + (i : Int)
  band.filter fun x => cols.contains x

/-- The coil lines that output line n reads (R219, R221). -/
def lineReads (op : Nat) (d : WinDesc) (p : CoilPart) (n : Int) : List Int :=
  (rowTaps op d).filterMap fun t => sourceIndex (wFill d) (firstLine op d n + t) p.length

/-- The coil lines of a piece. -/
def partLines (p : CoilPart) : List Int := (List.range (p.last - p.first + 1).toNat).map fun (i : Nat) => p.first + (i : Int)

/-- The coil lines that the windows of a piece of coil read, in ascending order (R218). -/
def readLines (op : Nat) (d : WinDesc) (p : CoilPart) : List Int :=
  let lines := (outLines op d p).flatMap (lineReads op d p)
  (partLines p).filter fun l => lines.contains l

/-- Whether a window of the coil, of output line `n0` or a later one, reads coil line l by one of its taps. -/
def tapRead (op : Nat) (d : WinDesc) (len : Option Int) (n0 l : Int) : Bool :=
  (candidates (isResize op) (wSy d) (l - extY op d) l (wPadT d)).any fun n =>
    decide (max 0 n0 ≤ n) && lineExists op d len n && (rowTaps op d).any fun t => firstLine op d n + t == l

/-- The first output line that no earlier descriptor has produced. -/
def firstNew (op : Nat) (d : WinDesc) (p : CoilPart) : Int :=
  if p.starts then 0
  else ((candidates (isResize op) (wSy d) p.first p.first (wPadT d)).find? fun n => decide (0 ≤ n ∧ p.first ≤ firstLine op d n)).getD 0

/-- The first output line that a later descriptor will produce. -/
def firstLater (op : Nat) (d : WinDesc) (p : CoilPart) : Int := ((outLines op d p).getLast?.map fun n => n + 1).getD (firstNew op d p)

/-- Whether a line belongs to the vertical carry of a descriptor (R219). -/
def carryLine (op : Nat) (d : WinDesc) (p : CoilPart) (l : Int) : Bool := !p.starts && decide (l < p.first + extY op d)

/-- Scale bytes and group scales of a neighbour's MX or EX8 columns, which a selvedge entry does not carry: free values. -/
def entryPixels (op : Nat) (d : WinDesc) (side : Nat) (e : SelEntry) (draw : Nat) (outer : Exact) : List (Int × Pix) :=
  let ch := wInCh d
  let cols := bandCols op d side
  let codes := unpackElems (wInFmt d) (cols.length * ch) e.payload
  let free (k : Nat) : Nat := pattern 8 (Config.free 9 draw [side, fld e.header 63 32, k])
  let row : OpRow := ⟨codes, scaleLines ((List.range (divUp codes.length 32)).map free),
    (List.range (divUp codes.length 128)).map fun k => BitVec.ofInt 320 (Config.free 10 draw [side, fld e.header 63 32, k]), 0⟩
  cols.zip (pixelsOf (wInFmt d) ch row outer)

/-- Where a window descriptor finds its elements: its own lines, and per piece of coil and side the entries by coil line; `scale` is the product of the outer scales of a convolution (R194). -/
structure WinData where
  own : List Pix
  sides : List (CoilPart × Nat × Int × List (Int × Pix))
  zero : Pix
  const : Pix
  draw : Nat
  scale : Exact
deriving DecidableEq, Repr

/-- The pixel at a coil line and stream column (R220, R221); one that neither the stripe nor an entry holds has free values. -/
def pixelAt (d : WinDesc) (w : WinData) (p : CoilPart) (line col : Int) : Pix :=
  let x0 : Int := wX0 d
  let cols : Option Int := if !wSelLeft d ∧ col < 0 ∨ !wSelRight d ∧ x0 + wWidth d ≤ col then sourceIndex (wFill d) col (some (streamWidth d)) else some col
  match sourceIndex (wFill d) line p.length, cols with
  | some l, some c =>
    let i := p.origin + l
    let free : Pix :=
      let cs := (List.range (wInCh d)).map fun (k : Nat) => pattern (elemBits (wInFmt d)) (Config.free 11 w.draw [l, c, k])
      ⟨cs, cs.map fun x => elemValue (wInFmt d) x, w.zero.records⟩
    if l < p.first ∨ p.last < l then free
    else if x0 ≤ c ∧ c < x0 + wWidth d then w.own.getD (i.toNat * wWidth d + (c - x0).toNat) free
    else
      let side := if c < x0 then 0 else 1
      match w.sides.find? fun e => e.1 == p && e.2.1 == side && e.2.2.1 == l with
      | some e => match e.2.2.2.find? fun q => q.1 == c with
        | some q => q.2
        | none => free
      | none => free
  | _, _ => if wFill d = 1 then w.const else w.zero

/-! ## Convolutions (R222 to R224) -/

/-- The pieces of a kernel axis: first tap and number of taps (R223). -/
def pieces (k : Nat) (split : Bool) : List (Nat × Nat) :=
  let n := if split then divUp k 15 else 1
  let big := k % n
  (List.range n).map fun i => (i * (k / n) + min i big, k / n + if i < big then 1 else 0)

/-- The passes of a convolution, each the list of its kernel taps in order (R222, R223). -/
def passes (d : WinDesc) : List (List (Nat × Nat)) :=
  (pieces (wKh d) (wSplit d)).flatMap fun v => (pieces (wKw d) (wSplit d)).map fun h =>
    (List.range v.2).flatMap fun i => (List.range h.2).map fun j => (v.1 + i, h.1 + j)

/-- One pass of one output accumulates: channels of the group at each tap, channel innermost. -/
def passInto (m : AccMode) (d : WinDesc) (scale : Exact) (taps : List (Nat × Nat)) (pix : Nat × Nat → Pix) (wt : Nat × Nat → Pix) (g : Nat) (acc : BitVec 32) : BitVec 32 × Nat :=
  let ch := wGroupCh d
  let sub (p : Pix) : Pix := ⟨(p.codes.drop (g * ch)).take ch, (p.values.drop (g * ch)).take ch, (p.records.drop (g * (ch / 128))).take (ch / 128)⟩
  let a := taps.map fun t => sub (pix t)
  let b := taps.map wt
  let fa := acwFmtA (winAcw d)
  let fb := acwFmtB (winAcw d)
  match m with
  | .integer => accumulateInt fa fb ⟨a.flatMap Pix.codes, [], [], 0⟩ ⟨b.flatMap Pix.codes, [], [], 0⟩ acc
  | .float => (accumulateFloat (acwGroup (winAcw d)) (2 ^ 32) scale (a.flatMap Pix.values) (b.flatMap Pix.values) acc, 0)
  | .ex8 => (accumulateEx fa fb (2 ^ 32) ⟨a.flatMap Pix.codes, [], a.flatMap Pix.records, 0⟩ ⟨b.flatMap Pix.codes, [], b.flatMap Pix.records, 0⟩ acc, 0)

/-- The accumulator of output channel `o` at output (n, x) from its value at the start, and its saturations. -/
def convElement (m : AccMode) (d : WinDesc) (w : WinData) (weights : List Pix) (p : CoilPart) (n x : Int) (o : Nat) (start : BitVec 32) : BitVec 32 × Nat :=
  let g := o / (max 1 (wOutCh d / wGroups d))
  (passes d).foldl (fun acc taps =>
    let r := passInto m d w.scale taps
      (fun t => pixelAt d w p (firstLine 1 d n + t.1 * wDy d) (firstCol 1 d x + t.2 * wDx d))
      (fun t => weights.getD ((o * wKh d + t.1) * wKw d + t.2) ⟨[], [], []⟩) g acc.1
    (r.1, acc.2 + r.2)) (start, 0)

/-! ## Operators of the port (R225) -/

/-- The order of values: −Infinity, negative, −0, +0, positive, +Infinity, NaN. -/
def rankLe (a b : Exact) : Bool :=
  match a, b with
  | _, .nan => true
  | .nan, _ => false
  | .inf s, y => s || y == .inf false
  | _, .inf s => !s
  | x, y =>
    match x.neg, y.neg with
    | true, false => true
    | false, true => false
    | true, true => !magLt x y
    | false, false => !magLt y x

/-- Insertion by rank. -/
def rankInsert (x : Exact) : List Exact → List Exact
  | [] => [x]
  | y :: rest => if rankLe x y then x :: y :: rest else y :: rankInsert x rest

/-- The values in order. -/
def rankSort (xs : List Exact) : List Exact := xs.foldl (fun acc x => rankInsert x acc) []

/-- The result of a window operator over its elements in row-major order (R225). -/
def portValue (op : Nat) (xs : List Exact) : Exact :=
  let sorted := rankSort xs
  if op = 2 ∨ op = 5 then sorted.getLast?.getD .nan
  else if op = 4 then (if xs.any (· == .nan) then .nan else sorted.headD .nan)
  else if op = 6 then sorted.getD ((xs.length - 1) / 2) .nan
  else ((xs.foldl (fun acc x => (acc.add x).rn) Exact.zero).div (Exact.ofInt xs.length)).rn

/-- Bilinear interpolation along one axis, rounded once: weights 1 − w and w, where w is the fraction of the source position (R225). -/
def lerp (a b : Exact) (idx u : Int) : Exact :=
  let num := (2 * idx + 1 - u) % (2 * u)
  let w : Exact := .fin false num.toNat (2 * u).toNat 0
  let v : Exact := .fin false (2 * u - num).toNat (2 * u).toNat 0
  ((a.mul v).add (b.mul w)).rn

/-- The value of channel `c` at output (n, m) of an operator of the port. -/
def portElement (op : Nat) (d : WinDesc) (w : WinData) (mask : List Bool) (p : CoilPart) (n x : Int) (c : Nat) : Exact :=
  let y := firstLine op d n
  let z := firstCol op d x
  let at_ (l q : Int) : Exact := (pixelAt d w p l q).values.getD c Exact.zero
  if op = 7 then at_ y z
  else if op = 8 then
    let top := lerp (at_ y z) (at_ y (z + 1)) x (wSx d)
    let low := lerp (at_ (y + 1) z) (at_ (y + 1) (z + 1)) x (wSx d)
    lerp top low n (wSy d)
  else
    let taps := (List.range (wKh d)).flatMap fun i => (List.range (wKw d)).filterMap fun j =>
      if (op = 4 ∨ op = 5) ∧ !(mask.getD (i * wKw d + j) false) then none else some (i, j)
    portValue op (taps.map fun t => at_ (y + t.1 * wDy d) (z + t.2 * wDx d))

end Sys2Proof.Machine
end

