-- ==== Sys2Proof/Machine/Selvedge.lean ====
section
/-!
DEFINITION. The selvedge exchange (R226 to R231) and the run of a window descriptor: entries sent and received, waits, outputs, and how it ends.
-/

namespace Sys2Proof.Machine

/-! ## Buffers and channels (R226, R228) -/

/-- The buffer of a side. -/
def Block.sel (x : Block) (side : Nat) : List SelEntry := if side = 0 then x.selLeft else x.selRight

/-- The buffer of a side changes. -/
def Block.setSel (x : Block) (side : Nat) (l : List SelEntry) : Block := if side = 0 then { x with selLeft := l } else { x with selRight := l }

/-- Entries outstanding in the channel toward a side. -/
def Block.outstanding (x : Block) (side : Nat) : Nat := if side = 0 then x.outLeft else x.outRight

/-- One more entry is outstanding toward a side, or `n` fewer. -/
def Block.addOut (x : Block) (side : Nat) : Block := if side = 0 then { x with outLeft := x.outLeft + 1 } else { x with outRight := x.outRight + 1 }
def Block.subOut (x : Block) (side n : Nat) : Block := if side = 0 then { x with outLeft := x.outLeft - n } else { x with outRight := x.outRight - n }

/-- The entries that wait are sent in order, while fewer than B are outstanding in their channel (R228). -/
def State.sendOut (s : State) (r : Fin 10) (b : Fin 18) : State :=
  let res := (s.block r b).selOut.foldl (fun (acc : State × List SelSend) e =>
    if e.depth ≤ (acc.1.block r b).outstanding e.side.val || acc.2.any (fun k => k.side == e.side) then (acc.1, acc.2 ++ [e])
    else ((acc.1.modBlock r b fun x => x.addOut e.side.val).emit (.selvedge r.val b.val e.side.val e.header e.payload), acc.2)) (s, [])
  res.1.modBlock r b fun x => { x with selOut := res.2 }

/-- `n` places of the buffer of a side are free again: the neighbour that sends there may send more (R228). -/
def State.returnRoom (s : State) (stream : Nat) (r : Fin 10) (b : Fin 18) (side n : Nat) : State :=
  if n = 0 then s
  else match s.neighbour stream r b side with
  | none => s
  | some (r', b') => (s.modBlock r' b' fun x => x.subOut (1 - side) n).sendOut r' b'

/-! ## Sending (R227) -/

/-- The columns of its edge band that a block sends to a side: those that the neighbour's windows centred within reach of the common edge read (R227). -/
def sendCols (op : Nat) (d : WinDesc) (side : Nat) : List Int :=
  let x0 : Int := wX0 d
  let x1 : Int := x0 + wWidth d
  let edge := if side = 0 then x0 else x1
  let ms := (candidates (isResize op) (wSx d) (edge - extX op d - 1) (edge + 1) (wPadL d)).filter fun m =>
    let c := firstCol op d m + haloL op d
    decide (0 ≤ m) && colExists op d m && (if side = 0 then decide (c < x0) else decide (x1 ≤ c))
  let cols := ms.flatMap fun m => (colTaps op d).map fun t => firstCol op d m + t
  ((List.range (wWidth d)).map fun (i : Nat) => x0 + (i : Int)).filter fun x => cols.contains x

/-- The lines of a piece of coil that a descriptor sends, in ascending order: those that some window of the coil reads; of the vertical carry only those that no window read before (R227). -/
def sentLines (op : Nat) (d : WinDesc) (p : CoilPart) : List Int :=
  let used := readLines op d p
  (partLines p).filter fun l =>
    if carryLine op d p l then used.contains l && !tapRead op d none 0 l else tapRead op d p.length 0 l || used.contains l

/-- The header of a descriptor's entry for a line (R226). -/
def entryHeader (d : WinDesc) (line : Int) (cols : Nat) : BitVec 64 :=
  BitVec.ofNat 64 (pattern 32 line <<< 32 ||| at_ 5 21 (wStream d) ||| at_ 5 16 (wStripe d) ||| at_ 8 8 cols ||| wGeometry d)

/-- The entry for a line of a piece of coil toward a side, if one is sent there. -/
def entryFor (op : Nat) (d : WinDesc) (own : List Pix) (p : CoilPart) (line : Int) (side : Fin 2) : Option SelSend :=
  let cols := sendCols op d side.val
  if (if side.val = 0 then wSelLeft d else wSelRight d) && !cols.isEmpty then
    let codes := cols.flatMap fun (c : Int) => (own.getD ((p.origin + line).toNat * wWidth d + (c - (wX0 d : Int)).toNat) ⟨[], [], []⟩).codes
    some ⟨side, entryHeader d line cols.length, packElems (wInFmt d) codes, wSelDepth d⟩
  else none

/-- What a descriptor sends to its neighbours waits to be sent (R227). -/
def State.queueSends (s : State) (r : Fin 10) (b : Fin 18) (op : Nat) (d : WinDesc) (own : List Pix) : State :=
  let out := (coilParts d).flatMap fun p => (sentLines op d p).flatMap fun l => ([0, 1] : List (Fin 2)).filterMap fun side => entryFor op d own p l side
  s.modBlock r b fun x => { x with selOut := x.selOut ++ out }

/-! ## Receiving (R228, R230) -/

/-- Whether an entry is of a descriptor's stream and geometry. -/
def ofDesc (d : WinDesc) (e : SelEntry) : Bool := fld e.header 7 0 == wGeometry d && selStream e.header == wStream d

/-- The line of an entry. -/
def SelEntry.line (e : SelEntry) : Nat := fld e.header 63 32

/-- R230: 0 where an entry is the expected one; 1 line, 2 stream or stripe, 3 geometry. -/
def entryMismatch (d : WinDesc) (side : Nat) (line : Int) (e : SelEntry) : Nat :=
  let from_ : Int := if side = 0 then (wStripe d : Int) - 1 else wStripe d + 1
  if e.line ≠ pattern 32 line then 1
  else if selStream e.header ≠ wStream d ∨ (fld e.header 20 16 : Int) ≠ from_ then 2
  else if fld e.header 7 0 ≠ wGeometry d then 3
  else 0

/-- What a descriptor meets when it asks for a line of a side: an entry, one whose payload is lost, a mismatch, or none. -/
inductive SelAsk where
  | held (e : SelEntry)
  | lost
  | mismatch (kind : Nat)
  | absent
deriving DecidableEq, Repr

/-- A line of a side: an entry already consumed, or the next one in the buffer, which must be the expected one; with the part of the buffer passed, and the rest. -/
def askLine (d : WinDesc) (side : Nat) (line : Int) : List SelEntry → SelAsk × List SelEntry × List SelEntry
  | [] => (.absent, [], [])
  | e :: rest =>
    if e.taken then
      if ofDesc d e && e.line == pattern 32 line then (.held e, [e], rest)
      else
        let x := askLine d side line rest
        (x.1, e :: x.2.1, x.2.2)
    else match entryMismatch d side line e with
      | 0 => (if e.bad then .lost else .held { e with taken := true }, [{ e with taken := true, freed := e.bad }], rest)
      | k => (.mismatch k, [], e :: rest)

/-- How far a side has come. -/
inductive SelGot where
  | all
  | wait (line : Int)
  | lost
  | bad (line : Int) (kind : Nat)
deriving DecidableEq, Repr

/-- The lines of a piece of coil that a side's channel holds for a descriptor, as far as the last one that it reads: those that unproduced windows read, or fill. -/
def askedLines (op : Nat) (d : WinDesc) (p : CoilPart) : List Int :=
  let used := readLines op d p
  match used.getLast? with
  | none => []
  | some last => (partLines p).filter fun l => decide (l ≤ last) &&
      (used.contains l || tapRead op d (if carryLine op d p l then none else p.length) (firstNew op d p) l)

/-- Between two coils in one descriptor: entries of the ended coil's carry that its windows did not need are passed by (R232). -/
def passCarry (op : Nat) (d : WinDesc) (first : Option Int) : List SelEntry → List SelEntry × List SelEntry
  | [] => ([], [])
  | e :: rest =>
    let i := (e.line + 2 ^ 32 - pattern 32 (wY0 d)) % 2 ^ 32
    if !e.taken && ofDesc d e && (first.map (pattern 32) != some e.line) && decide (i < min (extY op d) (wLines d)) then
      let x := passCarry op d first rest
      ({ e with taken := true, freed := true } :: x.1, x.2)
    else ([], e :: rest)

/-- Collects from a buffer the lines of one piece of coil: the entries by line, how far it came, the part of the buffer passed, and the rest. -/
def collectPart (op : Nat) (d : WinDesc) (side : Nat) (p : CoilPart) (buf : List SelEntry) : List (Int × SelEntry) × SelGot × List SelEntry × List SelEntry :=
  (askedLines op d p).foldl (fun acc l =>
    match acc.2.1 with
    | .all =>
      let x := askLine d side l acc.2.2.2
      let passed := acc.2.2.1 ++ x.2.1
      match x.1 with
      | .held e => (acc.1 ++ [(l, e)], .all, passed, x.2.2)
      | .lost => (acc.1, .lost, passed, x.2.2)
      | .mismatch k => (acc.1, .bad l k, passed, x.2.2)
      | .absent => (acc.1, .wait l, passed, x.2.2)
    | _ => acc) ([], .all, [], buf)

/-- Collects from a buffer what a side must send: piece after piece of coil. -/
def collectSide (op : Nat) (d : WinDesc) (side : Nat) (buf : List SelEntry) : List (CoilPart × Int × SelEntry) × SelGot × List SelEntry :=
  let res := (coilParts d).foldl (fun (acc : List (CoilPart × Int × SelEntry) × SelGot × List SelEntry × List SelEntry) p =>
    match acc.2.1 with
    | .all =>
      let skip := if p.starts && wCoilEnd d then passCarry op d (askedLines op d p).head? acc.2.2.2 else ([], acc.2.2.2)
      let x := collectPart op d side p skip.2
      (acc.1 ++ x.1.map fun e => (p, e.1, e.2), x.2.1, acc.2.2.1 ++ skip.1 ++ x.2.2.1, x.2.2.2)
    | _ => acc) ([], .all, [], buf)
  (res.1, res.2.1, res.2.2.1 ++ res.2.2.2)

/-- Whether a descriptor reads columns of a side's neighbour. -/
def sideNeeded (op : Nat) (d : WinDesc) (side : Nat) : Bool := (if side = 0 then wSelLeft d else wSelRight d) && !(bandCols op d side).isEmpty

/-- The output lines of a descriptor that its data at hand do not yet give, from the first such one on. -/
def unproduced (op : Nat) (d : WinDesc) (got : Nat → List (CoilPart × Int × SelEntry)) : List (CoilPart × Int) :=
  ((coilParts d).flatMap fun p => (outLines op d p).map fun n => (p, n)).dropWhile fun o =>
    ([0, 1] : List Nat).all fun side => !sideNeeded op d side ||
      (lineReads op d o.1 o.2).all fun l => !(partLines o.1).contains l || (got side).any fun e => e.1 == o.1 && e.2.1 == l

/-- Whether an output line that is not produced yet reads a line of a piece of coil: one of this descriptor, one of a later one, or a line beyond a later coil end that reflects. -/
def stillRead (op : Nat) (d : WinDesc) (left : List (CoilPart × Int)) (p : CoilPart) (l : Int) : Bool :=
  (left.any fun o => o.1 == p && (lineReads op d p o.2).contains l) ||
    (p.length.isNone && (tapRead op d none (firstLater op d p) l || (wFill d == 3 && decide (p.last - extY op d < l))))

/-- R228: entries whose every output line has been produced are freed: the buffer, and how many places that gives. -/
def freeEntries (op : Nat) (d : WinDesc) (left : List (CoilPart × Int)) (got : List (CoilPart × Int × SelEntry)) (buf : List SelEntry) : List SelEntry × Nat :=
  let gone (e : SelEntry) : Bool := e.taken && !e.freed && ofDesc d e && !(got.any fun g => g.2.2.header == e.header && stillRead op d left g.1 g.2.1)
  (buf.map fun e => if gone e then { e with freed := true } else e, (buf.filter gone).length)

/-- R44, R226: entries of another class than the descriptor's are refused at the guard and dropped. -/
def State.dropCrossing (s : State) (r : Fin 10) (b : Fin 18) (d : WinDesc) (side : Nat) : State :=
  let crosses (e : SelEntry) : Bool := !e.taken && ofDesc d e && e.cls != hClass d.header
  let bad := ((s.block r b).sel side).filter crosses
  if bad.isEmpty then s
  else
    let s1 := bad.foldl (fun acc e => acc.guardRefused e.cls (padPlace r b 0) r.val) s
    (s1.modBlock r b fun x => x.setSel side ((x.sel side).filter fun e => !crosses e)).returnRoom (wStream d) r b side bad.length

/-- A side's entries are collected, and those no longer read are freed. -/
def State.collect (s : State) (r : Fin 10) (b : Fin 18) (op : Nat) (d : WinDesc) : (List (CoilPart × Int × SelEntry) × SelGot) × (List (CoilPart × Int × SelEntry) × SelGot) × State :=
  let s1 := (s.dropCrossing r b d 0).dropCrossing r b d 1
  let side (k : Nat) : List (CoilPart × Int × SelEntry) × SelGot × List SelEntry :=
    if sideNeeded op d k then collectSide op d k ((s1.block r b).sel k) else ([], .all, (s1.block r b).sel k)
  let a := side 0
  let c := side 1
  let left := unproduced op d fun k => if k = 0 then a.1 else c.1
  let fa := freeEntries op d left a.1 a.2.2
  let fc := freeEntries op d left c.1 c.2.2
  let s2 := s1.modBlock r b fun x => (x.setSel 0 fa.1).setSel 1 fc.1
  ((a.1, a.2.1), (c.1, c.2.1), (s2.returnRoom (wStream d) r b 0 fa.2).returnRoom (wStream d) r b 1 fc.2)

/-- At a coil start the ended coil's entries are discarded: those consumed, and those of its carry that have not been (R232). -/
def State.discardCoil (s : State) (r : Fin 10) (b : Fin 18) (op : Nat) (d : WinDesc) : State :=
  if !wCoilStart d || wCoilEnd d then s
  else
    ([0, 1] : List Nat).foldl (fun acc side =>
      let buf := (acc.block r b).sel side
      let kept := buf.filter fun e => !(e.taken && ofDesc d e)
      let first := ((coilParts d).flatMap (askedLines op d)).head?
      let passed := if wStartLine d = 0 then ([], kept) else passCarry op d first kept
      let n := (buf.filter fun e => e.taken && !e.freed && ofDesc d e).length + passed.1.length
      (acc.modBlock r b fun x => x.setSel side passed.2).returnRoom (wStream d) r b side n) s

/-! ## Outputs -/

/-- The rescale table of a convolution: none where it is refused, some none where it needs none (R201, R224). -/
def State.convRescale (s : State) (m : AccMode) (d : WinDesc) : Option (Option RescaleTable) :=
  match wTable d with
  | none => some none
  | some tag => match s.tableOf tag with
    | none => none
    | some t => if tableOk t && t.entries.length == wOutCh d && t.outFormat == wOutFmt d && t.inKind == (if m = .integer then 0 else 1) then some (some t) else none

/-- The channels of an output element. -/
def outChannels (op : Nat) (d : WinDesc) : Nat := if op = 1 then wOutCh d else wInCh d

/-- What a convolution starts its outputs from: zero where its set is cleared, else the accumulators that it continues, one lane per output in ascending order (log entry 32); beyond the lanes of the block a free value. -/
def startAcc (x : Block) (d : WinDesc) (draw k : Nat) : BitVec 32 :=
  if acwClear (winAcw d) then 0
  else if k < 4096 then x.accAt k (acwSet (winAcw d))
  else BitVec.ofInt 32 (Config.free 66 draw [(k : Int)])

/-- The accumulators of one output line of a convolution, and their saturations: `k` is the number of its first output. -/
def convLine (m : AccMode) (d : WinDesc) (w : WinData) (weights : List Pix) (x : Block) (p : CoilPart) (n : Int) (k : Nat) : List (List (BitVec 32)) × Nat :=
  let cols := (outCols 1 d).mapIdx fun i c => (List.range (wOutCh d)).map fun o => convElement m d w weights p n c o (startAcc x d w.draw (k + i * wOutCh d + o))
  (cols.map fun es => es.map fun e => e.1, (cols.flatMap fun es => es.map fun e => e.2).sum)

/-- The values of one output line of an operator of the port, by column. -/
def portLine (op : Nat) (d : WinDesc) (w : WinData) (mask : List Bool) (p : CoilPart) (n : Int) : List (List Exact) :=
  (outCols op d).map fun c => (List.range (wInCh d)).map fun k => portElement op d w mask p n c k

/-- Bytes of an output line (R214). -/
def outLineBytes (op : Nat) (d : WinDesc) : Nat := lineBytes (wOutFmt d) ((outCols op d).length * paddedCount (wOutFmt d) (outChannels op d))

/-- Encoding of the output lines one after the other, MX blocks and EX8 groups along the channels of a column and counted on through the output (R184, R187). -/
def encodeLines (op : Nat) (d : WinDesc) (scale : Nat) (t : Option RescaleTable) (lines : List (List (List Exact))) : List Written :=
  let per := (outCols op d).length * rowBlocks (wOutFmt d) (outChannels op d)
  lines.mapIdx fun i rows => encodeRows (wOutFmt d) scale (i * per) (fun _ => zeroPoints t (wOutCh d) (outChannels op d)) rows

/-- Output lines are written: each on its boundary, and their stream, or all of it to the release buffer (R163, R173, R184, R187, R214). -/
def State.writeLines (s : State) (r : Fin 10) (b : Fin 18) (op : Nat) (d : WinDesc) (enc : List Written) (invalid : Bool) : State :=
  let all := enc.foldl Written.append Written.empty
  let bytes := outLineBytes op d
  let packed := enc.map fun w => packElems (wOutFmt d) w.codes
  let s1 := if hReleaseHold d.header then s.holdOutput r b.val d.header (packed.flatMap (padTo 64) ++ all.stream) invalid
    else
      let s2 := (packed.mapIdx fun i p => (i, p)).foldl (fun acc e => acc.store (padPlace r b (wOutAddr d + e.1 * bytes)) e.2) s
      if all.stream.isEmpty then s2 else s2.store d.outStream all.stream
  let s3 := s1.emit (.tensor r.val all.codes all.records (scaleLines all.scales) all.sat all.und all.special)
  if all.sat = 0 then s3 else s3.bump (ob 0x3400 0x0A) all.sat

/-- The lead of the block over a neighbour is observed (R229, 0x3600:08). -/
def State.observeLead (s : State) (r : Fin 10) (b : Fin 18) (stream n : Nat) : State :=
  let s1 := s.modBlock r b fun x => { x with lead := x.lead + n }
  let lead := (s1.block r b).lead
  ([0, 1] : List Nat).foldl (fun acc side => match acc.neighbour stream r b side with
    | none => acc
    | some (r', b') =>
      let diff := lead - (acc.block r' b').lead
      if acc.nat (ob 0x3600 8) < diff then acc.setObj (ob 0x3600 8) (.int (min diff 65535 : Nat)) else acc) s1

/-- Tokens that an operator of the port costs (R225). -/
def portTokens (op outputs : Nat) (d : WinDesc) (mask : List Bool) : Nat :=
  divUp outputs 64 * (if op = 8 then 4 else if op = 7 then 1 else if op = 4 ∨ op = 5 then (mask.filter id).length else wKh d * wKw d)

/-- The coil markers that a completed descriptor applied (R232). -/
def State.countMarkers (s : State) (d : WinDesc) : State :=
  let s1 := if wCoilStart d then s.bump (ob 0x3600 9) else s
  if wCoilEnd d then s1.bump (ob 0x3600 0x0A) else s1

/-- A window descriptor is over: it completes, its freed entries leave the buffers, and it returns its credits (R149, R228). -/
def State.endWindow (s : State) (r : Fin 10) (b : Fin 18) (d : WinDesc) (status detail count : Nat) (invalid : Bool := false) : State :=
  (s.complete r b.val d.header status detail count invalid).modBlock r b fun x =>
    { x with
      selWait := none
      held := x.held.filter fun k => !d.returns.contains k
      selLeft := x.selLeft.filter fun e => !(e.freed && ofDesc d e)
      selRight := x.selRight.filter fun e => !(e.freed && ofDesc d e) }

/-- The accumulators of a convolution after it: its outputs in their lanes, of more outputs than lanes free values (log entry 32). -/
def State.keepAcc (s : State) (r : Fin 10) (b : Fin 18) (d : WinDesc) (vs : List (BitVec 32)) : State :=
  let set := acwSet (winAcw d)
  if 4096 < vs.length then s.freeLanes r b set (List.range 4096)
  else s.modBlock r b fun x => (vs.mapIdx fun i v => (i, v)).foldl (fun acc e => acc.setAcc e.1 set e.2) x

/-- The read-out set of a convolution leaves the accumulators (R192). -/
def State.convReadOut (s : State) (r : Fin 10) (b : Fin 18) (d : WinDesc) : State :=
  let w := winAcw d
  if acwRead w then s.emit (.accumulators r.val b.val (acwReadSet w) ((List.range 4096).map fun l => (s.block r b).accAt l (acwReadSet w))) else s

/-- An empty output (R217). -/
def State.emptyOutput (s : State) (r : Fin 10) (b : Fin 18) (d : WinDesc) : State :=
  (((s.bump (ob 0x3600 5)).tensorStats r (statsPlace r d.header) (wOutFmt d) (wSlot d) [] Written.empty).countMarkers d).endWindow r b d stEmptyOutput 0 0

/-- What an operator of the port gives. -/
def State.producePort (s : State) (r : Fin 10) (b : Fin 18) (op : Nat) (d : WinDesc) (w : WinData) : State :=
  let mask := s.mask r b d
  let lines := (coilParts d).flatMap fun p => (outLines op d p).map fun n => portLine op d w mask p n
  let sc := s.scaleFor r (wOutFmt d) (wSlot d)
  let enc := encodeLines op d sc.1 none lines
  let outputs := lines.length * (outCols op d).length * wInCh d
  let s1 := (sc.2.writeLines r b op d enc false).tensorStats r (statsPlace r d.header) (wOutFmt d) (wSlot d)
    (lines.flatMap fun l => l.flatten) (enc.foldl Written.append Written.empty)
  (((s1.countRegion r 0 (portTokens op outputs d mask)).countMarkers d).observeLead r b (wStream d) lines.length).endWindow r b d stOk 0 outputs

/-- What a convolution gives (R192, R201, R222 to R224). -/
def State.produceConv (s : State) (r : Fin 10) (b : Fin 18) (m : AccMode) (t : Option RescaleTable) (d : WinDesc) (w : WinData) (weights : List Pix) : State :=
  let x := s.block r b
  let per := (outCols 1 d).length * wOutCh d
  let lines := ((coilParts d).flatMap fun p => (outLines 1 d p).map fun n => (p, n)).mapIdx fun i o => convLine m d w weights x o.1 o.2 (i * per)
  let values := lines.map fun l => rescaled t (wOutCh d) (l.1.map fun es => es.map (accValue m))
  let sc := s.scaleFor r (wOutFmt d) (wSlot d)
  let enc := encodeLines 1 d sc.1 t values
  let sat := (lines.map fun l => l.2).sum
  let s1 := (sc.2.writeLines r b 1 d enc false).tensorStats r (statsPlace r d.header) (wOutFmt d) (wSlot d)
    (values.flatMap fun l => l.flatten) (enc.foldl Written.append Written.empty)
  let s2 := if sat = 0 then s1 else s1.bump (ob 0x3400 0x0A) sat
  let s3 := (s2.keepAcc r b d (lines.flatMap fun l => l.1.flatten)).convReadOut r b d
  ((s3.countMarkers d).observeLead r b (wStream d) lines.length).endWindow r b d stOk 0 (lines.length * per)

/-- The outputs of a convolution that ends with outputs_invalid: free values at their places (R143, R199). -/
def State.produceInvalid (s : State) (r : Fin 10) (b : Fin 18) (d : WinDesc) (status detail : Nat) : State :=
  let n := ((coilParts d).map fun p => (outLines 1 d p).length).sum
  let bytes := outLineBytes 1 d
  let free (i : Nat) : Bytes := (List.range bytes).map fun k => BitVec.ofInt 8 (Config.free 67 s.service.entropy [(i : Int), (k : Int)])
  let s1 := (s.draw 67 []).2
  let s2 := if hReleaseHold d.header then s1.holdOutput r b.val d.header ((List.range n).flatMap free) true
    else (List.range n).foldl (fun acc i => acc.store (padPlace r b (wOutAddr d + i * bytes)) (free i)) s1
  let s3 := (s2.freeLanes r b (acwSet (winAcw d)) (List.range 4096)).tensorInvalid r (statsPlace r d.header) (wOutFmt d) (wSlot d)
  ((s3.countMarkers d).observeLead r b (wStream d) n).endWindow r b d status detail (n * (outCols 1 d).length * wOutCh d) true

/-! ## Tags of the streams that a convolution reads (R198, R199, R218) -/

/-- Whether a pixel of the input is read by a window of the stripe. -/
def coveredPixels (d : WinDesc) : List Bool :=
  let cols := readCols 1 d
  let lines := (coilParts d).flatMap fun p => (readLines 1 d p).map fun l => (p.origin + l).toNat
  (List.range (wLines d)).flatMap fun i => (List.range (wWidth d)).map fun j => lines.contains i && cols.contains ((wX0 d : Int) + j)

/-- The first scale line that governs a covered pixel and whose tag disagrees, or the first covered group that is not well-formed. -/
def coveredSkew (fmt ch : Nat) (covered : List Bool) (row : OpRow) : Option Skew :=
  if isMx fmt then
    let q := ch / 32
    (List.range row.lines.length).findSome? fun n =>
      let found := fld (row.lines.getD n 0) 7 0
      let read := (covered.zipIdx).any fun e => e.1 && decide (e.2 * q < 63 * n + 63 ∧ 63 * n < (e.2 + 1) * q)
      if !read || found == lineTag n then none else some ⟨false, 32 * 63 * n, n, lineTag n, found⟩
  else if fmt = 13 then
    let q := ch / 128
    (List.range row.records.length).findSome? fun g =>
      if !(covered.getD (g / max 1 q) false) then none
      else (exSkew ⟨(row.codes.drop (128 * g)).take 128, [], [row.records.getD g 0], g⟩).map fun k => { k with element := 128 * g }
  else none

/-- The first disagreement of a convolution's operands, with the operand's number. -/
def convSkew (d : WinDesc) (row weights : OpRow) : Option (Nat × Skew) :=
  match coveredSkew (wInFmt d) (wInCh d) (coveredPixels d) row with
  | some k => some (0, k)
  | none => (rowSkew (acwFmtB (winAcw d)) weights).map fun k => (1, k)

/-! ## Running a descriptor -/

/-- The values of the entries that have been collected. -/
def entryData (op : Nat) (d : WinDesc) (side draw : Nat) (outer : Exact) (got : List (CoilPart × Int × SelEntry)) : List (CoilPart × Nat × Int × List (Int × Pix)) :=
  got.map fun e => (e.1, side, e.2.1, entryPixels op d side e.2.2 draw outer)

/-- R143, R199: a convolution runs once all its data are there: a set that it clears starts at zero, one that it continues brings its mark; a skew poisons it. -/
def State.runConv (s : State) (r : Fin 10) (b : Fin 18) (m : AccMode) (t : Option RescaleTable) (d : WinDesc) (row : OpRow) (w : WinData) (status : Option Nat) : State :=
  let set := acwSet (winAcw d)
  let mark := continuedPoison (s.block r b) (winAcw d)
  let s0 := if acwClear (winAcw d) then s.modBlock r b fun x => x.clearSet set else s
  let wrow := s0.weightRow r b d
  let skew := if ((s0.block r b).poisonOf set).isSome then none else convSkew d row wrow
  let s1 := match skew with
    | some (o, k) =>
      (s0.modBlock r b fun x => { x with poison := x.poison ++ [(Fin.ofNat 4 set, k.status, k.detail)] }).recordSkew (.ofBlock r.val b.val) d.header o k
    | none => s0
  let ends := executeEnd status skew mark
  if ends.2.2 then s1.produceInvalid r b d ends.1 ends.2.1
  else s1.produceConv r b m t d w (pixelsOf (acwFmtB (winAcw d)) (wGroupCh d) wrow (Exact.ofInt 1))

/-- All data of a descriptor are there and all its entries are sent: it gives its outputs (R217, R221, R225). -/
def State.finishWindow (s : State) (r : Fin 10) (b : Fin 18) (op : Nat) (d : WinDesc) (got : Nat → List (CoilPart × Int × SelEntry)) (status : Option Nat) : State :=
  if ((coilParts d).all fun p => (outLines op d p).isEmpty) || (outCols op d).isEmpty then s.emptyOutput r b d
  else
    let m := (acwMode (winAcw d)).getD .integer
    let oa := s.outerFor r (wInFmt d) d.inSlot
    let ow := if op = 1 then oa.2.outerFor r (acwFmtB (winAcw d)) d.wSlot else (Exact.ofInt 1, oa.2)
    let free := ow.2.freeScale 12
    let outer := if op = 1 then Exact.ofInt 1 else oa.1
    let row := free.2.inputRow r b d
    let draw := free.2.service.entropy
    let const := constPix (wInFmt d) (wInCh d) (wFillValue d) free.1 outer
    let w : WinData := ⟨pixelsOf (wInFmt d) (wInCh d) row outer, entryData op d 0 draw outer (got 0) ++ entryData op d 1 draw outer (got 1),
      zeroPix (wInFmt d) (wInCh d), const.1, draw, oa.1.mul ow.1⟩
    let s1 := if wFill d = 1 ∧ const.2 ≠ 0 then free.2.bump (ob 0x3400 0x0A) const.2 else free.2
    if op = 1 then s1.runConv r b m ((s1.convRescale m d).getD none) d row w status
    else s1.producePort r b op d w

/-- R230: a selvedge entry that is not the expected one ends the descriptor. -/
def State.endMismatch (s : State) (r : Fin 10) (b : Fin 18) (d : WinDesc) (side : Nat) (line : Int) (kind : Nat) : State :=
  let h := d.header
  (((s.winInvalidStats r d).endWindow r b d stAddress 0x0401 0 true).bump (ob 0x3600 6)).fault 0x0402
    { region := r.val, block := b.val, unit := side } (at_ 32 32 (hSequence h) ||| at_ 16 16 (pattern 16 line) ||| at_ 8 8 side ||| at_ 8 0 kind) (hClass h)

/-- R230: a payload with an uncorrectable error ends the descriptor that reads it. -/
def State.endLost (s : State) (r : Fin 10) (b : Fin 18) (d : WinDesc) (side : Nat) : State :=
  let h := d.header
  (((s.returnRoom (wStream d) r b side 1).winInvalidStats r d).endWindow r b d stEcc 0 0).fault 0x0404 { region := r.val, block := b.val, unit := side }
    (at_ 32 32 (hSequence h) ||| at_ 8 8 side) (hClass h)

/-- A descriptor waits, for an entry or for room at a neighbour; the wait for one entry keeps its beginning (R228, R231). -/
def State.waitWindow (s : State) (r : Fin 10) (b : Fin 18) (entry : Bool) (side : Fin 2) (line op : Nat) (d : WinDesc) (status : Option Nat) : State :=
  let since := match (s.block r b).selWait with
    | some w => if w.entry = entry ∧ w.side = side ∧ w.line = line then w.since else s.now
    | none => s.now
  s.modBlock r b fun x => { x with selWait := some ⟨entry, side, line, since, op, { d with upsets := [] }, status⟩ }

/-- R228, R230: a descriptor goes on as far as the entries and the room at its neighbours allow. -/
def State.tryWindow (s : State) (r : Fin 10) (b : Fin 18) (op : Nat) (d : WinDesc) (status : Option Nat) : State :=
  let sent := s.sendOut r b
  let got := sent.collect r b op d
  let s1 := got.2.2
  match got.1.2, got.2.1.2 with
  | .bad line kind, _ => s1.endMismatch r b d 0 line kind
  | _, .bad line kind => s1.endMismatch r b d 1 line kind
  | .lost, _ => s1.endLost r b d 0
  | _, .lost => s1.endLost r b d 1
  | .wait line, _ => s1.waitWindow r b true 0 (pattern 32 line) op d status
  | _, .wait line => s1.waitWindow r b true 1 (pattern 32 line) op d status
  | .all, .all => match (s1.block r b).selOut.head? with
    | some e => s1.waitWindow r b false e.side (fld e.header 63 32) op d status
    | none => s1.finishWindow r b op d (fun k => if k = 0 then got.1.1 else got.2.1.1) status

/-- A waiting descriptor tries again. -/
def State.resumeWindow (s : State) (r : Fin 10) (b : Fin 18) : State :=
  match (s.block r b).selWait with
  | none => s
  | some w => s.tryWindow r b w.op w.desc w.status

/-- The places that a window descriptor reads: input and weights or mask, with their streams. -/
def winReads (r : Fin 10) (b : Fin 18) (op : Nat) (d : WinDesc) : List (MemRef × Nat) :=
  let fb := acwFmtB (winAcw d)
  let weights := if op = 1 then divUp (weightCount d * elemBits fb) 8 else if op = 4 ∨ op = 5 then divUp (wKh d * wKw d) 8 else 0
  (padPlace r b (wInAddr d), wLines d * lineBytes (wInFmt d) (wWidth d * wInCh d)) ::
    ((if isMx (wInFmt d) || wInFmt d == 13 then [(d.inStream, streamBytes (wInFmt d) (inBlocks d))] else []) ++
      (if weights = 0 then [] else [(wPlace r b d, weights)]) ++
      (if op = 1 && (isMx fb || fb == 13) then [(d.wStream, streamBytes fb (weightBlocks d))] else []))

/-- The places that it writes: its output lines with their stream. -/
def winWrites (r : Fin 10) (b : Fin 18) (op : Nat) (d : WinDesc) : List (MemRef × Nat) :=
  let lines := ((coilParts d).map fun p => (outLines op d p).length).sum
  let blocks := lines * (outCols op d).length * rowBlocks (wOutFmt d) (outChannels op d)
  (padPlace r b (wOutAddr d), lines * outLineBytes op d) ::
    (if isMx (wOutFmt d) || wOutFmt d == 13 then [(d.outStream, streamBytes (wOutFmt d) blocks)] else [])

/-- R215: a descriptor that the window engine refuses. -/
def State.refuseWindow (s : State) (r : Fin 10) (b : Fin 18) (h : BitVec 128) (reason : Nat) : State :=
  (((s.complete r b.val h stFilterRefused reason 0).bump (ob 0x3600 4))).fault 0x0401 (.ofBlock r.val b.val) (at_ 32 32 (hSequence h) ||| reason) (hClass h)

/-- The operation that a window descriptor asks for: its command's, unless its operation code is none of the table (R213). -/
def winOp (op : Nat) (h : BitVec 128) : Nat := if hOperation h = 0 ∨ 8 < hOperation h then hOperation h else op

/-- An accepted descriptor starts: the events that met it take effect, of which a mismatch of the cells lets it run on (R143); it sends its entries and goes on. -/
def State.beginWindow (s : State) (r : Fin 10) (b : Fin 18) (op : Nat) (d : WinDesc) : State :=
  let met := s.meetUpsets r b.val d.header d.upsets (winReads r b op d)
  let own := pixelsOf (wInFmt d) (wInCh d) (met.1.inputRow r b d) (Exact.ofInt 1)
  match met.2 with
  | some st => if st = stResidue ∧ op = 1 then ((met.1.discardCoil r b op d).queueSends r b op d own).tryWindow r b op d (some st)
    else (met.1.winInvalidStats r d).endWindow r b d st 0 0 (decide (st = stResidue))
  | none => ((met.1.discardCoil r b op d).queueSends r b op d own).tryWindow r b op d none

/-- A window descriptor that starts is checked (R192, R201, R213, R215) and begins. -/
def State.startWindow (s : State) (r : Fin 10) (b : Fin 18) (command : Nat) (d : WinDesc) : State :=
  let h := d.header
  let s1 := s.startBlock r b h
  let back (s : State) : State := s.modBlock r b fun x => { x with held := x.held.filter fun k => !d.returns.contains k }
  let op := winOp command h
  if op = 1 ∧ (acwMode (winAcw d)).isNone then back (s1.refuseBody r b.val h)
  else match refusalReason op d (s1.mask r b d) with
  | some n => back (s1.refuseWindow r b h n)
  | none =>
    if op = 1 ∧ (s1.convRescale ((acwMode (winAcw d)).getD .integer) d).isNone then back (s1.refuseBody r b.val h)
    else if s1.badPlaces (winReads r b op d) || s1.badOut h (wOutFmt d) (winWrites r b op d) (statsPlace r h) then back (s1.complete r b.val h stAddress 0 0)
    else match s1.refusedPlace h (winReads r b op d) false with
    | some p => back (s1.endGuard r b.val h p)
    | none => match s1.refusedOut h (wOutFmt d) (winWrites r b op d) (statsPlace r h) with
      | some p => back (s1.endGuard r b.val h p)
      | none => s1.beginWindow r b op d

/-- Whether an entry finds room: the buffer has 0x3600:01 bytes, and holds B entries of a descriptor that waits for one (R226). -/
def State.selRoom (s : State) (r : Fin 10) (b : Fin 18) (side : Nat) (payload : Bytes) : Bool :=
  let held := ((s.block r b).sel side).filter fun e => !e.freed
  let size (p : Bytes) : Nat := 8 + 64 * divUp p.length 64
  decide ((held.map fun e => size e.payload).sum + size payload ≤ 65536) &&
    (match (s.block r b).selWait with
      | some w => decide (held.length < wSelDepth w.desc)
      | none => true)

/-- R226, R230: an entry arrives: one whose class no descriptor of the block may have, or not the waiting one, is refused at the guard; its payload is checked by ECC (1 corrected, 2 uncorrectable), it enters the buffer, and a waiting descriptor goes on. -/
def State.selvedgeArrives (s : State) (r : Fin 10) (b : Fin 18) (side : Fin 2) (header : BitVec 64) (payload : Bytes) (cls ecc : Nat) : State :=
  let crosses := match (s.block r b).selWait with
    | some w => cls != hClass w.desc.header
    | none => false
  if !s.blockAdmits r b cls || crosses then (s.guardRefused cls (padPlace r b 0) r.val).returnRoom (selStream header) r b side.val 1
  else if !s.selRoom r b side.val payload then s
  else
    let corrected := decide (ecc ≠ 0 ∧ ecc ≠ 2)
    let s1 := if corrected then s.fault 0x0403 { region := r.val, block := b.val, unit := side.val } (at_ 8 8 side.val ||| at_ 8 0 (ecc / 256)) else s
    (s1.modBlock r b fun x => x.setSel side.val (x.sel side.val ++ [⟨header, payload, cls, decide (ecc = 2), false, false⟩])).resumeWindow r b

/-- R231: the wait limit. -/
def State.selvedgeTimeout (s : State) (r : Fin 10) (b : Fin 18) (side : Fin 2) : State :=
  match (s.block r b).selWait with
  | some w => if w.entry ∧ w.side = side ∧ w.since + 1000 * s.nat (ob 0x3600 3) < s.now then s.endSelWait r b w 2 else s
  | none => s

end Sys2Proof.Machine
end

