-- ==== Sys2Proof/Machine/Detection.lean ====
section
/-!
DEFINITION. The detection engine (R234 to R245): decoding of head tensors, suppression, merging and carrying, verdict batches and the carry timeout.
-/

namespace Sys2Proof.Machine

/-! ## 2^v (R237) -/

/-- The 2^(−j)-th powers of 2 in fixed point with 96 fraction bits, for j = 1 to n. -/
def halfPowers (n : Nat) : List Nat :=
  ((List.range n).foldl (fun acc _ => isqrt ((acc.headD 0) * 2 ^ 96) 100 :: acc) [2 ^ 97]).reverse.drop 1

/-- exp2_ne: 2^v correctly rounded to binary32, for a finite v below 128. -/
def exp2 (v : Exact) : Exact :=
  match v with
  | .fin s m d e =>
    let p := scaled (m * 2 ^ 64) e
    let q := p.1 / (p.2 * d)
    let exact := decide (q * (p.2 * d) = p.1)
    let x : Int := if s then -(q : Int) - b2n (!exact) else q
    let whole := x / 2 ^ 64
    if whole < -160 then Exact.zero else
    let frac := (x % 2 ^ 64).toNat
    let mant := ((halfPowers 64).mapIdx fun i r => (i, r)).foldl (fun acc e => if bit frac (63 - e.1) then acc * e.2 / 2 ^ 96 else acc) (2 ^ 96)
    (Exact.fin false mant 1 (whole - 96)).rn
  | w => w

/-! ## DECODE (R234 to R238) -/

/-- The descriptor's body fields. -/
def zf (d : ZooDesc) (hi lo : Nat) : Nat := fld d.body hi lo

/-- Whether the fields of a DECODE body hold to its map and ranges (R234). -/
def decodeOk (d : ZooDesc) : Bool :=
  let fmt := zf d 496 489
  decide (hOperation d.header = 1 ∧ hBodyLength d.header = 4 ∧ zf d 511 507 ≤ 23 ∧ zf d 499 497 = 0 ∧ 1 ≤ fmt ∧ fmt ≤ 3
    ∧ zf d 460 448 = 0 ∧ zf d 311 288 = 0 ∧ zf d 239 192 = 0 ∧ zf d 95 0 = 0) &&
    decide (1 ≤ zf d 474 468 ∧ zf d 474 468 ≤ 64 ∧ 1 ≤ zf d 467 461 ∧ zf d 467 461 ≤ 64 ∧ 1 ≤ zf d 399 384 ∧ zf d 399 384 ≤ 32768
      ∧ 1 ≤ zf d 351 340 ∧ zf d 351 340 ≤ 2048 ∧ 1 ≤ zf d 339 328 ∧ zf d 339 328 ≤ 1024 ∧ zf d 327 312 ≤ 32767
      ∧ 1 ≤ zf d 255 240 ∧ zf d 255 240 ≤ 4096 ∧ (zf d 501 501 = 1 → zf d 488 485 = 0)) && finite32 (zf d 287 256)

/-- A candidate or an entry in the order of rank: score descending, carried first among equals, then index ascending (R238, R241). -/
def scoreKey (v : BitVec 32) : Int :=
  let mag : Int := fld v 30 0
  if v.getLsbD 31 then -mag else mag

/-- A coordinate in strip units: round_ne(16 × v) (R237). -/
def strip16 (v : Exact) : Option Int := match v with
  | .fin s m d e => Exact.round (.fin s m d (e + 4))
  | _ => none

/-- max(v, 0). -/
def atLeast0 (v : Exact) : Exact := if v.neg then Exact.zero else v

/-- clamp(v, −8, 8). -/
def clamp8 (v : Exact) : Exact :=
  if magLt (Exact.ofInt 8) v then Exact.ofInt (if v.neg then -8 else 8) else v

/-- The position and size along one axis in FP32 (R237). -/
def boxAxis (anchorFree : Bool) (g stride : Nat) (a b anchor : Exact) : Exact × Exact :=
  let base := (Exact.ofInt g).add (.fin false 1 2 0)
  let half : Exact := .fin false 1 2 0
  let st := Exact.ofInt stride
  if anchorFree then
    (((base.sub (atLeast0 a)).rn.mul st).rn, ((base.add (atLeast0 b)).rn.mul st).rn)
  else
    let c := ((base.add a).rn.mul st).rn
    let w := ((anchor.mul (exp2 (clamp8 b))).rn.mul half).rn
    ((c.sub w).rn, (c.add w).rn)

/-- A decoded box: x_min, width, y_min, height; none where it is empty or not finite (R237). -/
def boxOf (d : ZooDesc) (gx gy : Nat) (v : List Exact) (aw ah : Exact) : Option (Nat × Nat × Nat × Nat) :=
  let free := zf d 501 501 == 1
  let at_ (i : Nat) : Exact := v.getD i .nan
  let xs := if free then boxAxis true gx (zf d 474 468) (at_ 0) (at_ 2) aw else boxAxis false gx (zf d 474 468) (at_ 0) (at_ 2) aw
  let ys := if free then boxAxis true gy (zf d 467 461) (at_ 1) (at_ 3) ah else boxAxis false gy (zf d 467 461) (at_ 1) (at_ 3) ah
  match strip16 xs.1, strip16 xs.2, strip16 ys.1, strip16 ys.2 with
  | some x1, some x2, some y1, some y2 =>
    let top : Int := 16 * zf d 399 384
    let y0 : Int := 16 * zf d 447 400
    let a := clampI 0 top x1
    let b := clampI 0 top x2
    let p := max (y0 + y1) 0
    let q := max (y0 + y2) 0
    if b ≤ a ∨ q ≤ p then none
    else some (a.toNat, min (b - a).toNat (2 ^ 20 - 1), p.toNat % 2 ^ 48, min (q - p).toNat (2 ^ 24 - 1))
  | _, _, _, _ => none

/-- The best class of a cell's scores: largest score, the lower class winning a tie. -/
def bestClass (scores : List Nat) (fmt : Nat) : Nat × Exact :=
  ((scores.mapIdx fun i c => (i, elemValue fmt c)).foldl (fun (best : Option (Nat × Exact)) e =>
    match best with
    | none => some e
    | some b => if scoreKey (BitVec.ofNat 32 (fp32.ieee b.2)) < scoreKey (BitVec.ofNat 32 (fp32.ieee e.2)) then some e else some b) none).getD (0, .nan)

/-- What a cell and anchor give: nothing, a discarded candidate, or a candidate (R236). -/
inductive Cand where
  | none
  | discarded
  | found (v : Verdict)
deriving DecidableEq, Repr

/-- The candidate of one cell and anchor from its head codes. -/
def candOf (d : ZooDesc) (gx gy a : Nat) (codes : List Nat) (aw ah : Exact) : Cand :=
  let fmt := zf d 496 489
  let v := codes.map (elemValue fmt)
  let x := gx * zf d 474 468
  if x < zf d 383 368 ∨ zf d 367 352 ≤ x then .none
  else if v.any Exact.special then .discarded
  else
    let b := bestClass (codes.drop 4) fmt
    let score := BitVec.ofNat 32 (fp32.ieee b.2)
    if scoreKey score < scoreKey (BitVec.ofNat 32 (zf d 287 256)) then .none
    else match boxOf d gx gy v aw ah with
      | .none => .discarded
      | some (xm, w, ym, h) =>
        .found { flags := 0, pieces := 1, detectionId := 0, firstTile := 0,
                 index := (gy * divUp (zf d 399 384) (zf d 474 468) + gx) * (zf d 488 485 + 1) + a, cls := b.1, score := score,
                 yMin := ym, height := h, xMin := xm, width := w, age := 0, carriedIn := false, isNew := true }

/-- Whether an entry ranks before another (R238, R241); carried entries keep the order of their list. -/
def ranksBefore (a b : Verdict) : Bool :=
  let x := scoreKey a.score
  let y := scoreKey b.score
  if x = y then
    match a.carriedIn, b.carriedIn with
    | true, _ => !b.carriedIn
    | false, true => false
    | false, false => decide (a.index < b.index)
  else decide (y < x)

/-- Insertion by rank; an entry goes behind those of equal rank. -/
def verdictInsert (x : Verdict) : List Verdict → List Verdict
  | [] => [x]
  | y :: rest => if ranksBefore x y then x :: y :: rest else y :: verdictInsert x rest

/-- Entries by rank. -/
def verdictSort (xs : List Verdict) : List Verdict := xs.foldl (fun acc x => verdictInsert x acc) []

/-- Bits [191:0] of a verdict record (R238, R244). -/
def verdictLow (v : Verdict) : Nat :=
  at_ 32 160 v.index ||| at_ 10 150 v.cls ||| at_ 32 112 v.score.toNat ||| at_ 48 64 v.yMin ||| at_ 24 40 v.height ||| at_ 20 20 v.xMin ||| at_ 20 0 v.width

/-- An entry read back from a candidate list. -/
def verdictOfLow (n : Nat) : Verdict :=
  { flags := 0, pieces := 1, detectionId := 0, firstTile := 0, index := bits n 191 160, cls := bits n 159 150,
    score := BitVec.ofNat 32 (bits n 143 112), yMin := bits n 111 64, height := bits n 63 40, xMin := bits n 39 20, width := bits n 19 0,
    age := 0, carriedIn := false, isNew := true }

/-- The bytes of a candidate list (R238). -/
def listBytes (kept : List Verdict) (cut : Nat) : Bytes :=
  leBytes 8 (kept.length ||| at_ 24 32 cut ||| at_ 1 63 (b2n (decide (0 < cut)))) ++ kept.flatMap fun v => leBytes 24 (verdictLow v)

/-- The place of a head tensor. -/
def headPlace (r : Fin 10) (b : Fin 18) (d : ZooDesc) : MemRef := ⟨if zf d 500 500 = 1 then 1 else 2, r.val, b.val, zf d 127 96⟩

/-- Bytes of a head tensor. -/
def headBytes (d : ZooDesc) : Nat :=
  zf d 339 328 * zf d 351 340 * (zf d 488 485 + 1) * (4 + zf d 484 475 + 1) * elemBits (zf d 496 489) / 8

/-- The candidates of a head, and the number discarded. -/
def State.candidatesOf (s : State) (r : Fin 10) (b : Fin 18) (d : ZooDesc) : List Verdict × Nat :=
  let fmt := zf d 496 489
  let a := zf d 488 485 + 1
  let ch := 4 + zf d 484 475 + 1
  let w := zf d 351 340
  let h := zf d 339 328
  let codes := unpackElems fmt (h * w * a * ch) (s.load (headPlace r b d) (headBytes d))
  let anchors := unpackElems 1 (2 * a) (s.load (rmemAt r.val (zf d 191 160)) (8 * a))
  ((List.range h).flatMap fun gy => (List.range w).flatMap fun c => (List.range a).map fun k => (gy, c, k)).foldl (fun acc p =>
    let at_ := ((p.1 * w + p.2.1) * a + p.2.2) * ch
    match candOf d (zf d 327 312 + p.2.1) p.1 p.2.2 ((codes.drop at_).take ch) (num32 (anchors.getD (2 * p.2.2) 0)) (num32 (anchors.getD (2 * p.2.2 + 1) 0)) with
    | .none => acc
    | .discarded => (acc.1, acc.2 + 1)
    | .found v => (acc.1 ++ [v], acc.2)) ([], 0)

/-- The location of a detection fault. -/
def streamLoc (r : Fin 10) (d : ZooDesc) : Loc := { region := r.val, unit := zf d 511 507 }

/-- R234: a body that breaks its map or ranges. -/
def State.refuseDetect (s : State) (r : Fin 10) (d : ZooDesc) : State :=
  (s.complete r 18 d.header stHeaderInvalid 0x0500 0).fault 0x0501 (streamLoc r d) (at_ 32 32 (hSequence d.header) ||| at_ 8 0 (hOperation d.header)) (hClass d.header)

/-- Addresses and class ranges of a zoo descriptor's places: the refusing end, if any. -/
def State.checkPlaces (s : State) (r : Fin 10) (h : BitVec 128) (places : List (MemRef × Nat × Bool)) : Option State :=
  if places.any fun p => s.badPlace p.1 p.2.1 then some (s.complete r 18 h stAddress 0 0)
  else (places.find? fun p => !s.permits (hClass h) p.1 p.2.1 p.2.2).map fun p => s.endGuard r 18 h p.1

/-- R236 to R238: a DECODE that passed its checks. -/
def State.runDecode (s : State) (r : Fin 10) (b : Fin 18) (d : ZooDesc) : State :=
  let cap := zf d 255 240
  let anchors := if zf d 501 501 = 1 then [] else [(rmemAt r.val (zf d 191 160), 8 * (zf d 488 485 + 1), false)]
  let reads := (headPlace r b d, headBytes d, false) :: anchors
  match s.checkPlaces r d.header (reads ++ [(rmemAt r.val (zf d 159 128), 8 + 24 * cap, true)]) with
  | some s' => s'
  | none =>
    let met := s.meetUpsets r 18 d.header d.upsets (reads.map fun p => (p.1, p.2.1))
    match met.2 with
    | some st => met.1.complete r 18 d.header st 0 0
    | none =>
      let got := met.1.candidatesOf r b d
      let sorted := verdictSort got.1
      let kept := sorted.take cap
      let cut := sorted.length - kept.length
      let s1 := met.1.deliverOut r 18 d.header (rmemAt r.val (zf d 159 128)) (listBytes kept cut)
      let s2 := if got.2 = 0 then s1 else s1.bump (ob 0x3700 5) got.2
      s2.complete r 18 d.header stOk (b2n (decide (0 < cut))) kept.length

/-- R234: the body of a detection descriptor that starts is checked. -/
def State.detection (s : State) (r : Fin 10) (d : ZooDesc) (ok : Bool) (run : State → State) : State :=
  if ok then (run s).countTokens r 2 else s.refuseDetect r d

/-- R236: DECODE starts. -/
def State.startDecode (s : State) (r : Fin 10) (b : Fin 18) (d : ZooDesc) : State := s.detection r d (decodeOk d) fun s => s.runDecode r b d

/-! ## NMS (R239 to R242) -/

/-- Whether the fields of an NMS body hold to its map and ranges (R234). -/
def nmsOk (d : ZooDesc) : Bool :=
  decide (hOperation d.header = 2 ∧ hBodyLength d.header = 4 ∧ zf d 511 507 ≤ 23 ∧ zf d 498 492 = 0 ∧ 1 ≤ zf d 491 476
    ∧ 1 ≤ zf d 451 448 ∧ 1 ≤ zf d 399 384 ∧ zf d 399 384 ≤ 1024 ∧ 1 ≤ zf d 287 272 ∧ zf d 287 272 ≤ 1024 ∧ zf d 271 256 ≤ 256 ∧ zf d 191 0 = 0)

/-- The length that two intervals share. -/
def shared (a la b lb : Nat) : Nat := min (a + la) (b + lb) - max a b

/-- The gap between two intervals. -/
def gapOf (a la b lb : Nat) : Nat := max a b - min (a + la) (b + lb)

/-- R239: whether box k suppresses c. -/
def suppresses (thr : Nat) (k c : Verdict) : Bool :=
  let inter := shared k.xMin k.width c.xMin c.width * shared k.yMin k.height c.yMin c.height
  let union := k.width * k.height + c.width * c.height - inter
  decide (thr * union < inter * 65536)

/-- R240: the flags of a band pair; 0 where it is none. A box's side of an edge is that of its centre. -/
def bandPair (d : ZooDesc) (edges : List Nat) (a b : Verdict) : Nat :=
  if (a.carriedIn && b.carriedIn) || (zf d 501 501 == 1 && a.cls != b.cls) then 0
  else
    let sb := 16 * zf d 467 460
    let left (v : Verdict) (e : Nat) : Bool := decide (2 * v.xMin + v.width < 2 * e)
    let dist (v : Verdict) (e : Nat) : Nat := if left v e then e - (v.xMin + v.width) else v.xMin - e
    let stripe := decide (0 < sb) && edges.any fun e => left a e != left b e && decide (dist a e ≤ sb ∧ dist b e ≤ sb)
    let cb : Int := 16 * zf d 475 468
    let t : Int := 16 * zf d 447 400
    let carried := if a.carriedIn then a else b
    let other := if a.carriedIn then b else a
    let tile := decide (0 < cb) && (a.carriedIn != b.carriedIn) &&
      decide (((carried.yMin + carried.height : Nat) : Int) - t ≤ cb ∧ t - ((carried.yMin + carried.height : Nat) : Int) ≤ cb
        ∧ (other.yMin : Int) - t ≤ cb ∧ t - other.yMin ≤ cb)
    at_ 1 1 (b2n stripe) ||| at_ 1 2 (b2n tile)

/-- R240: whether two boxes overlap or lie within merge_gap in both axes. -/
def close (gap : Nat) (a b : Verdict) : Bool :=
  decide (gapOf a.xMin a.width b.xMin b.width ≤ 16 * gap ∧ gapOf a.yMin a.height b.yMin b.height ≤ 16 * gap)

/-- R240: the merged entry; the first is the higher ranked. -/
def mergeOf (flags : Nat) (a b : Verdict) : Verdict :=
  let x := min a.xMin b.xMin
  let y := min a.yMin b.yMin
  { a with
    xMin := x, width := min (2 ^ 20 - 1) (max (a.xMin + a.width) (b.xMin + b.width) - x)
    yMin := y, height := min (2 ^ 24 - 1) (max (a.yMin + a.height) (b.yMin + b.height) - y)
    score := if scoreKey a.score < scoreKey b.score then b.score else a.score
    pieces := min 0xFFFF (a.pieces + b.pieces), flags := a.flags ||| b.flags ||| BitVec.ofNat 8 flags
    age := max a.age b.age, carriedIn := a.carriedIn || b.carriedIn }

/-- One entry meets those behind it: the merged entry, the rest, and the number of merges. -/
def absorb (d : ZooDesc) (edges : List Nat) (x : Verdict) (rest : List Verdict) : Verdict × List Verdict × Nat :=
  rest.foldl (fun acc y =>
    let f := bandPair d edges acc.1 y
    if f ≠ 0 ∧ close (zf d 459 452) acc.1 y then (mergeOf f acc.1 y, acc.2.1, acc.2.2 + 1) else (acc.1, acc.2.1 ++ [y], acc.2.2)) (x, [], 0)

/-- One pass over the entries; the length bounds the passes. -/
def mergePass (d : ZooDesc) (edges : List Nat) (fuel : Nat) (xs : List Verdict) : List Verdict × Nat :=
  match fuel, xs with
  | 0, xs => (xs, 0)
  | _, [] => ([], 0)
  | n + 1, x :: rest =>
    let a := absorb d edges x rest
    let b := mergePass d edges n a.2.1
    (a.1 :: b.1, a.2.2 + b.2)

/-- Passes until a whole pass merges nothing. -/
def mergeAll (d : ZooDesc) (edges : List Nat) (fuel : Nat) (xs : List Verdict) : List Verdict × Nat :=
  match fuel with
  | 0 => (xs, 0)
  | n + 1 =>
    let a := mergePass d edges xs.length xs
    if a.2 = 0 then a else
      let b := mergeAll d edges n a.1
      (b.1, a.2 + b.2)

/-- What the output loop of nms leaves: entries out, carried on, carry_full flags, dropped, next identifier. -/
structure NmsOut where
  out : List Verdict
  carry : List Verdict
  full : Nat
  dropped : Nat
  nextId : Nat
deriving DecidableEq, Repr

/-- One entry of the output loop (R241). -/
def nmsEmit (d : ZooDesc) (acc : NmsOut) (v : Verdict) : NmsOut :=
  let new := v.isNew
  let v1 := if new then { v with isNew := false, detectionId := acc.nextId, firstTile := zf d 255 192 % 2 ^ 32 } else v
  let acc1 := if new then { acc with nextId := (acc.nextId + 1) % 2 ^ 32 } else acc
  let tileEnd : Int := 16 * ((zf d 447 400 : Int) + zf d 399 384)
  let carries := zf d 499 499 = 0 ∧ 0 < zf d 475 468 ∧ v.age < zf d 451 448 ∧ tileEnd - 16 * zf d 475 468 < ((v.yMin + v.height : Nat) : Int)
  if carries ∧ acc1.carry.length < zf d 271 256 then { acc1 with carry := acc1.carry ++ [{ v1 with age := v1.age + 1 }] }
  else
    let v2 := if carries then { v1 with flags := v1.flags ||| 0x10 } else v1
    let v3 := if v.age = zf d 451 448 then { v2 with flags := v2.flags ||| 0x08 } else v2
    let acc2 := if carries then { acc1 with full := acc1.full + 1 } else acc1
    if acc2.out.length < zf d 287 272 then { acc2 with out := acc2.out ++ [v3] } else { acc2 with dropped := acc2.dropped + 1 }

/-- Bits [367:0] of a verdict record (R244). -/
def recordWord (stream closeCount : Nat) (v : Verdict) : Nat :=
  at_ 8 360 v.flags.toNat ||| at_ 5 355 stream ||| at_ 16 336 v.pieces ||| at_ 64 256 closeCount ||| at_ 32 224 v.detectionId
    ||| at_ 32 192 v.firstTile ||| verdictLow v

/-- The bytes of a carry list in region memory: a word with the number of entries, then 64 bytes for each, its verdict record, then its age (DESIGN CHOICE, log entry 33). -/
def carryBytes (stream : Nat) (vs : List Verdict) : Bytes :=
  leBytes 8 vs.length ++ vs.flatMap fun v => leBytes 48 (recordWord stream 0 v) ++ leBytes 16 v.age

/-- An entry of a carry list as it is read. -/
def carryEntry (bs : Bytes) : Verdict :=
  let n := leNat (bs.take 48)
  { verdictOfLow n with
    flags := BitVec.ofNat 8 (bits n 367 360), pieces := bits n 351 336, detectionId := bits n 255 224, firstTile := bits n 223 192
    age := leAt bs 48 16, isNew := false }

/-- A verdict record of 48 bytes (R244). -/
def recordBytes (stream closeCount : Nat) (v : Verdict) : Bytes :=
  let body := leBytes 46 (recordWord stream closeCount v)
  body ++ leBytes 2 (crc16 body)

/-- The bytes of a verdict batch (R244). -/
def Batch_bytes (b : Batch) : Bytes :=
  let upper := at_ 64 192 b.closeCount ||| at_ 64 128 b.tileNumber ||| at_ 16 112 b.records.length ||| at_ 5 107 b.stream ||| at_ 8 88 b.flags.toNat
    ||| at_ 24 64 (min b.candidates (2 ^ 24 - 1)) ||| at_ 32 32 b.carriedOut
  let body := (leBytes 32 upper).drop 2
  leBytes 2 (crc16 body) ++ body ++ b.records.flatMap (recordBytes b.stream b.closeCount)

/-- The output index that carries a stream's verdicts (R478); the stream's number where the image names none. -/
def State.verdictOut (s : State) (stream : Nat) : Nat :=
  match s.launch.image.bind fun im => get? im.verdictOutputs stream with
  | some o => o
  | none => stream

/-- The carry list at an address of a region memory, of at most 256 entries (R234). -/
def State.carryList (s : State) (r : Fin 10) (addr : Nat) : List Verdict :=
  (List.range (min 256 (leNat (s.load (rmemAt r.val addr) 8)))).map fun i => carryEntry (s.load (rmemAt r.val (addr + 8 + 64 * i)) 64)

/-- A batch enters the release buffer of its port, bound to a release count (R78, R83, R244). -/
def State.bufferBatch (s : State) (n cls : Nat) (b : Batch) : State :=
  s.enterBuffer n ⟨s.verdictOut b.stream, cls, ⟨true, false, .batch b⟩, none⟩

/-- The close count of a tile, which the device stamps into its verdict records, and whether the tile is truncated: as the stream recorded them at the close, else as the steward gives them (R32, R244). -/
def State.closeOf (s : State) (stream : Fin 24) (tile count : Nat) (truncated : Bool) : Nat × Bool :=
  match s.streams[stream].closes.find? fun c => c.1 == tile with
  | some c => (c.2.1, c.2.2.2)
  | none => (count, truncated)

/-- R307: whether the verdict records of a stream's batch carry the reduced-confidence flag: a head of the stream was untrusted at the close count, or no tile of the stream had closed between the end of the condition and it. -/
def State.reducedConfidence (s : State) (stream : Fin 24) (closeCount : Nat) : Bool :=
  (idxs 12).any fun h =>
    let x := s.heads[h]
    bit (s.nat (ob (0x2C10 + h) 2)) stream.val && match x.untrustedAt with
      | some b => decide (b ≤ closeCount) && match x.trustedAt with
        | none => true
        | some e => match (s.streams[stream].closes.filter fun c => decide (e < c.2.1)).head? with
          | some c => decide (closeCount ≤ c.2.1)
          | none => true
      | none => false

/-- The verdict records of a batch with their reduced-confidence flag (R307). -/
def State.withConfidence (s : State) (stream : Fin 24) (closeCount : Nat) (vs : List Verdict) : List Verdict :=
  if s.reducedConfidence stream closeCount then vs.map fun v => { v with flags := v.flags ||| 0x20 } else vs

/-- The entries of the stripe table's lists, in stripe order, and the interior edges in strip units (R240, R241). -/
def State.stripeLists (s : State) (r : Fin 10) (d : ZooDesc) : List Verdict × List Nat :=
  let n := zf d 506 502 + 1
  let rows := (List.range n).map fun i => leNat (s.load (rmemAt r.val (zf d 383 352 + 8 * i)) 8)
  (rows.flatMap fun row =>
    let list := bits row 63 32
    (List.range (leNat (s.load (rmemAt r.val list) 4))).map fun k => verdictOfLow (leNat (s.load (rmemAt r.val (list + 8 + 24 * k)) 24)),
   (rows.drop 1).map fun row => 16 * bits row 15 0)

/-- Greedy suppression in rank order (R241). -/
def suppress (aware : Bool) (thr : Nat) (cs : List Verdict) : List Verdict :=
  cs.foldl (fun keep c => if keep.any fun k => (!aware || k.cls == c.cls) && suppresses thr k c then keep else keep ++ [c]) []

/-- R242: one record for each of candidates cut, outputs dropped and a full carry list, with their counts. -/
def State.nmsFaults (s : State) (r : Fin 10) (d : ZooDesc) (total dropped full : Nat) : State :=
  let loc := streamLoc r d
  let tile := at_ 32 32 (zf d 255 192)
  let cls := hClass d.header
  let s1 := if 4096 < total then (s.bump (ob 0x3700 2)).fault 0x0502 loc (tile ||| min total (2 ^ 24 - 1)) cls else s
  let s2 := if 0 < dropped then (s1.bump (ob 0x3700 3) dropped).fault 0x0503 loc (tile ||| min dropped 65535) cls else s1
  if 0 < full then (s2.bump (ob 0x3700 4) full).fault 0x0504 loc (tile ||| min full 65535) cls else s2

/-- Whether a candidate list of the stripe table lies in range, as far as its count says. -/
def State.listPlaces (s : State) (r : Fin 10) (d : ZooDesc) : List (MemRef × Nat × Bool) :=
  (List.range (zf d 506 502 + 1)).flatMap fun i =>
    let list := bits (leNat (s.load (rmemAt r.val (zf d 383 352 + 8 * i)) 8)) 63 32
    [(rmemAt r.val list, 8 + 24 * min 4096 (leNat (s.load (rmemAt r.val list) 4)), false)]

/-- What nms gives: its verdicts, the carry list it leaves, and the number of merges (R241). -/
def State.nmsOf (s : State) (r : Fin 10) (d : ZooDesc) : NmsOut × Nat :=
  let stream : Fin 24 := Fin.ofNat 24 (zf d 511 507)
  let lists := s.stripeLists r d
  let keep := suppress (zf d 501 501 == 1) (zf d 491 476) ((verdictSort lists.1).take 4096)
  let carryIn := if zf d 500 500 = 1 then [] else (s.carryList r (zf d 351 320)).map fun v => { v with carriedIn := true, flags := v.flags ||| 1 }
  let merged := mergeAll d lists.2 (carryIn.length + keep.length) (verdictSort (carryIn ++ keep))
  (merged.1.foldl (nmsEmit d) ⟨[], [], 0, 0, s.detect[stream].nextId⟩, merged.2)

/-- The batch of an NMS (R244). -/
def State.nmsBatch (s : State) (d : ZooDesc) (close : Nat × Bool) (total : Nat) (res : NmsOut) : Batch :=
  let stream : Fin 24 := Fin.ofNat 24 (zf d 511 507)
  { closeCount := close.1, tileNumber := zf d 255 192, stream := stream.val
    flags := BitVec.ofNat 8 (b2n close.2 ||| at_ 1 1 (b2n (decide (4096 < total))) ||| at_ 1 2 (b2n (decide (0 < res.dropped)))
      ||| at_ 1 4 (zf d 500 500) ||| at_ 1 5 (zf d 499 499))
    candidates := total, carriedOut := res.carry.length, records := s.withConfidence stream close.1 res.out }

/-- R241, R242, R244: an NMS that passed its checks; the carry list that it leaves replaces the one it read, and the batch goes to its place, and with release_hold to the release buffer. -/
def State.runNms (s : State) (r : Fin 10) (d : ZooDesc) (closeCount : Nat) (truncated : Bool) : State :=
  let h := d.header
  let table := (rmemAt r.val (zf d 383 352), 8 * (zf d 506 502 + 1), false)
  let batchPlace := rmemAt r.val (zf d 319 288)
  let carryPlace := rmemAt r.val (zf d 351 320)
  let carrySize := 8 + 64 * zf d 271 256
  match s.checkPlaces r h [table, (carryPlace, carrySize, false), (carryPlace, carrySize, true), (batchPlace, 32 + 48 * zf d 287 272, true)] with
  | some s' => s'
  | none =>
    match s.checkPlaces r h (s.listPlaces r d) with
    | some s' => s'
    | none =>
      let met := s.meetUpsets r 18 h d.upsets ((table.1, table.2.1) :: (carryPlace, carrySize) :: (s.listPlaces r d).map fun p => (p.1, p.2.1))
      match met.2 with
      | some st => met.1.complete r 18 h st 0 0
      | none =>
        let stream : Fin 24 := Fin.ofNat 24 (zf d 511 507)
        let total := (met.1.stripeLists r d).1.length
        let res := met.1.nmsOf r d
        let out := res.1
        let batch := s.nmsBatch d (s.closeOf stream (zf d 255 192) closeCount truncated) total out
        let s1 := met.1.modDetect stream fun y =>
          { y with carryAt := zf d 351 320, nextId := out.nextId, lastNms := some s.now, region := r, cls := hClass h }
        let s2 := if res.2 = 0 then s1 else s1.bump (ob 0x3700 6) res.2
        let s3 := (s2.store carryPlace (carryBytes stream.val out.carry)).store batchPlace (Batch_bytes batch)
        let s4 := if hReleaseHold h then s3.bufferBatch (releaseBeat s.beat (hReleaseBeat h)) (hClass h) batch else s3
        (s4.nmsFaults r d total out.dropped out.full).complete r 18 h stOk
          (b2n (decide (4096 < total)) ||| at_ 1 1 (b2n (decide (0 < out.dropped))) ||| at_ 1 2 (b2n (decide (0 < out.full)))) out.out.length

/-- R241: NMS starts. -/
def State.startNms (s : State) (r : Fin 10) (d : ZooDesc) (closeCount : Nat) (truncated : Bool) : State :=
  s.detection r d (nmsOk d) fun s => s.runNms r d closeCount truncated

/-! ## The carry timeout (R243) -/

/-- With no NMS of the stream within the carry timeout, its carry list is emitted as a batch of its own, released at the first release count at least one verdict delay later. -/
def State.flushCarry (s : State) (n : Fin 24) : State :=
  let x := s.detect[n]
  let carry := s.carryList x.region x.carryAt
  let due := match x.lastNms with
    | some t => decide (t + 1000000 * s.nat (ob 0x3700 1) ≤ s.now)
    | none => false
  if !due || carry.isEmpty then s
  else
    let batch : Batch := { closeCount := s.now, tileNumber := 2 ^ 64 - 1, stream := n.val, flags := 8, candidates := 0, carriedOut := 0,
                           records := s.withConfidence n s.now (carry.map fun v => { v with flags := v.flags ||| 1 }) }
    let s1 := (((s.modDetect n fun y => { y with lastNms := none }).store (rmemAt x.region.val x.carryAt) (leBytes 8 0)).bump (ob 0x3700 7))
    let s2 := match s.launch.run, s.launch.image with
      | some run, some im => s1.bufferBatch (run.firstBeatAt (s.now + im.verdictDelay)) x.cls batch
      | _, _ => s1
    s2.fault 0x0505 { region := x.region.val, unit := n.val } (min carry.length 65535 ||| at_ 5 16 n.val) x.cls

/-- R243. -/
def execCarryTimeout (t : Nat) (stream : Fin 24) (s : State) : Host.Outcome State Fault Refusal := .next ((s.advance t).flushCarry stream)

end Sys2Proof.Machine
end

