-- ==== Sys2Proof/Machine/Attention.lean ====
section
/-!
DEFINITION. The attention engine (R246 to R264): pools, sequences and pages, appends, dropping and recomputing, attention by key blocks, rings, and page control.
-/

namespace Sys2Proof.Machine

/-! ## Pools (R246, R265) -/

/-- The object of a pool. -/
def poolObj (p : Fin 4) (sub : Nat) : Key := ob (0x3810 + p.val) sub

/-- The latent rank and format of a pool. -/
def State.rank (s : State) (p : Fin 4) : Nat := s.nat (poolObj p 5)
def State.latentFmt (s : State) (p : Fin 4) : Nat := s.nat (poolObj p 6)

/-- Bytes of a page: 256 × r × element bytes. -/
def State.pageBytes (s : State) (p : Fin 4) : Nat := 256 * s.rank p * elemBits (s.latentFmt p) / 8

/-- Page frames of a pool. -/
def State.poolFrames (s : State) (p : Fin 4) : Nat := 2 ^ 20 * s.nat (poolObj p 4) / max 1 (s.pageBytes p)

/-- A sequence that is not closed. -/
def State.seqOf (s : State) (n : Nat) : Option KvSeq := get? s.kv.seqs n

/-- The pages of a pool change. -/
def State.modPages (s : State) (p : Fin 4) (f : List Page → List Page) : State :=
  s.modKv fun k => { k with pages := upd k.pages p f }

/-- A sequence record changes. -/
def State.modSeq (s : State) (n : Nat) (f : KvSeq → KvSeq) : State :=
  match s.seqOf n with
  | none => s
  | some x => s.modKv fun k => { k with seqs := put k.seqs n (f x) }

/-- R249: untrimmed tokens of all open sequences (0x3800:03). -/
def State.untrimmed (s : State) : Nat := (s.kv.seqs.map fun e => e.2.length - e.2.firstValid).sum

/-- The location of an attention fault: loc_unit holds the pool. -/
def poolLoc (r : Fin 10) (p : Fin 4) : Loc := { region := r.val, unit := p.val }

/-! ## Pins, frames and victims (R248, R251, R257) -/

/-- The pages of a sequence's layer, by rising first_token. -/
def seqPages (ps : List Page) (n layer : Nat) : List Page := ps.filter fun x => x.seq == n && x.layer == layer

/-- Whether a page is pinned: filling, of a resident sequence, among the pin_head first or pin_tail last full pages of its layer, or by PIN. -/
def pinned (q : KvSeq) (x : Page) : Bool :=
  q.resident || decide (x.fill < 256 ∨ 0 < x.pins) || decide (x.firstToken < q.firstValid / 256 * 256 + 256 * q.pinHead) ||
    decide (q.length / 256 * 256 < x.firstToken + 256 + 256 * q.pinTail ∧ 0 < q.pinTail)

/-- The victim of R257, apart from pages that the running descriptor pins. -/
def State.victim (s : State) (p : Fin 4) (held : Page → Bool) : Option Page :=
  let cands := s.kv.pages[p].filter fun x => !x.dropped && !held x && (match s.seqOf x.seq with
    | some q => !pinned q x
    | none => false)
  let prio (x : Page) : Nat := match s.seqOf x.seq with
    | some q => q.priority
    | none => 16
  let key (x : Page) : Nat := ((prio x * 4096 + x.seq) * 2 ^ 32 + x.firstToken) * 128 + x.layer
  cands.foldl (fun best x => match best with
    | none => some x
    | some b => if key x < key b then some x else some b) none

/-- The lowest free frame of a pool. -/
def State.freeFrame (s : State) (p : Fin 4) : Option Nat :=
  let used := s.kv.pages[p].filterMap Page.frame ++ s.kv.badFrames[p]
  (List.range (min (s.poolFrames p) (used.length + 1))).find? fun f => !used.contains f

/-- The lowest free page table entry of a pool of 2F entries. -/
def State.freeEntry (s : State) (p : Fin 4) : Option Nat :=
  let used := s.kv.pages[p].map Page.entry
  (List.range (min (2 * s.poolFrames p) (used.length + 1))).find? fun f => !used.contains f

/-- A page is dropped: its frame is freed, its entry takes state 2 (R257). -/
def State.dropPage (s : State) (p : Fin 4) (x : Page) : State :=
  (s.modPages p fun ps => ps.map fun y => if y.entry = x.entry then
    { y with dropped := true, frame := none, rows := [], drops := min (2 ^ 32 - 1) (y.drops + 1) } else y).bump (ob 0x3800 4)

/-- A frame is allocated, by dropping a victim where none is free; a resident sequence takes only free frames (R257, R260). -/
def State.allocFrame (s : State) (p : Fin 4) (resident : Bool) (held : Page → Bool) : Option (Nat × State) :=
  match s.freeFrame p with
  | some f => some (f, s)
  | none =>
    if resident then none
    else match s.victim p held with
    | none => none
    | some x => let s1 := s.dropPage p x
      (s1.freeFrame p).map fun f => (f, s1)

/-! ## Records in the memories (R247, R248, R251) -/

/-- The first 30 bytes of a record, and its CRC (R38). -/
def crcRecord (n : Nat) : Bytes := leBytes 30 n ++ leBytes 2 (crc16 (leBytes 30 n))

/-- Pages of a sequence currently dropped. -/
def State.droppedPages (s : State) (p : Fin 4) (n : Nat) : Nat := (s.kv.pages[p].filter fun x => x.seq == n && x.dropped).length

/-- The 32 bytes of a sequence record (R248). -/
def State.seqBytes (s : State) (n : Nat) (q : KvSeq) : Bytes :=
  crcRecord (at_ 32 208 q.length ||| at_ 32 176 q.firstValid ||| at_ 32 144 q.srcLog ||| at_ 32 112 q.wdown ||| at_ 13 99 q.dSrc ||| at_ 7 92 q.layers
    ||| at_ 4 88 q.priority ||| at_ 2 86 q.state ||| at_ 1 85 (b2n q.resident) ||| at_ 8 77 q.srcFormat ||| at_ 16 48 q.pinHead ||| at_ 16 32 q.pinTail
    ||| at_ 32 0 (s.droppedPages q.pool n))

/-- The 32 bytes of a page table entry (R251): the pins of PAGE_CTRL, and one more while the page is pinned by itself. -/
def State.pageEntry (s : State) (x : Page) : Bytes :=
  let own := match s.seqOf x.seq with
    | some q => pinned q { x with pins := 0 }
    | none => false
  crcRecord (at_ 32 208 x.crc ||| at_ 32 176 (x.frame.getD 0xFFFFFFFF) ||| at_ 32 144 x.firstToken ||| at_ 12 132 x.seq ||| at_ 7 125 x.layer
    ||| at_ 8 117 (min 255 (x.pins + b2n own)) ||| at_ 9 108 x.fill ||| at_ 2 106 (if x.dropped then 2 else 1) ||| at_ 32 32 x.drops)

/-- A free page table entry. -/
def freeEntryBytes : Bytes := crcRecord (at_ 32 176 0xFFFFFFFF)

/-- Where the image puts the page table and the sequence records of a pool; the records of a pool that it gives no place are not in the memories that a host reads (DESIGN CHOICE, log entry 64). -/
def State.kvPlace (s : State) (p : Fin 4) : Option (Nat × Nat) := s.launch.image.bind fun im => (im.kvPlaces.find? fun e => e.1 == p).map fun e => e.2

/-- The place of a page table entry, and of a sequence record. -/
def entryPlace (k : Nat × Nat) (e : Nat) : MemRef := ⟨0, 0, 0, k.1 + 32 * e⟩
def State.recordPlace (s : State) (p : Fin 4) (k : Nat × Nat) (n : Nat) : MemRef := rmemAt (s.nat (poolObj p 3)) (k.2 + 32 * n)

/-- The bytes of entry `e` of a pool's page table. -/
def State.entryBytes (s : State) (p : Fin 4) (e : Nat) : Bytes :=
  match s.kv.pages[p].find? fun x => x.entry == e with
  | some x => s.pageEntry x
  | none => freeEntryBytes

/-- The bytes of the record of sequence n, closed where only `old` has it open. -/
def State.recordBytes (s old : State) (n : Nat) : Bytes :=
  match s.seqOf n, old.seqOf n with
  | some q, _ => s.seqBytes n q
  | none, some q => s.seqBytes n { q with state := 0 }
  | none, none => []

/-- The records and entries of a pool that differ from those of `old` go to their places. -/
def State.showKv (s old : State) (p : Fin 4) : State :=
  match s.kvPlace p with
  | none => s
  | some k =>
    let seqs := (((old.kv.seqs ++ s.kv.seqs).filter fun e => e.2.pool == p).map fun e => e.1).dedup
    let s1 := seqs.foldl (fun acc n => if s.recordBytes old n = old.recordBytes old n then acc else acc.store (s.recordPlace p k n) (s.recordBytes old n)) s
    ((old.kv.pages[p] ++ s.kv.pages[p]).map Page.entry).dedup.foldl (fun acc e =>
      if s.entryBytes p e = old.entryBytes p e then acc else acc.store (entryPlace k e) (s.entryBytes p e)) s1

/-- The records of every pool go to their places: at the start of a launch. -/
def State.showAllKv (s : State) : State := (idxs 4).foldl (fun acc p => acc.showKv { acc with kv := Kv.reset } p) s

/-- Whether a record in a memory fails its CRC. -/
def State.crcFails (s : State) (p : MemRef) : Bool :=
  let bs := s.load p 32
  leAt bs 30 2 != crc16 (bs.take 30)

/-- The pages of a descriptor whose entries fail their CRC, and whether its sequence record does (R259). -/
def State.badEntries (s : State) (p : Fin 4) (xs : List Page) : List Page :=
  match s.kvPlace p with
  | none => []
  | some k => xs.filter fun x => s.crcFails (entryPlace k x.entry)
def State.badRecord (s : State) (p : Fin 4) (n : Nat) : Bool :=
  match s.kvPlace p with
  | none => false
  | some k => s.crcFails (s.recordPlace p k n)

/-! ## Latents (R250) -/

/-- The static latent scale of a layer that the image declares; the manual gives none for other layers. -/
def State.latentScale (s : State) (layer : Nat) : Nat :=
  match s.launch.image.bind fun im => (im.latentScales.find? fun e => e.1 == layer) with
  | some e => e.2.toNat
  | none => pattern 32 (Config.free 15 0 [layer])

/-- The outer scales of FP8 source vectors and down-projection weights, which the manual does not give. -/
def sourceScale (fmt n layer : Nat) : Exact := if fmt = 4 then num32 (pattern 32 (Config.free 14 0 [n, layer])) else Exact.ofInt 1

/-- Bytes of a row of d elements. -/
def rowBytes (fmt d : Nat) : Nat := d * elemBits fmt / 8

/-- The place of a source row in the log ring: rows start on 64-byte boundaries (R248). -/
def logPlace (q : KvSeq) (capacity pos : Nat) : MemRef :=
  ⟨0, 0, 0, q.srcLog * 64 + pos % max 1 capacity * (64 * divUp (rowBytes q.srcFormat q.dSrc) 64)⟩

/-- The capacity of a source log in rows. -/
def State.logRows (s : State) : Nat := match s.launch.image with
  | some im => im.srcLogRows
  | none => 0

/-- A latent row: its codes, the values before their narrowing, saturations and underflows. -/
structure Latent where
  codes : List Nat
  values : List Exact
  sat : Nat
  und : Nat
deriving DecidableEq, Repr

/-- The latent row of a source row in a layer (R250). -/
def State.latentRow (s : State) (n : Nat) (q : KvSeq) (layer : Nat) (src : List Nat) : Latent :=
  let rank := s.rank q.pool
  let fmt := s.latentFmt q.pool
  let row := rowBytes q.srcFormat q.dSrc
  let vs := src.map (elemValue q.srcFormat)
  let sc := sourceScale q.srcFormat n layer
  let cs := (List.range rank).map fun k =>
    let ws := (unpackElems q.srcFormat q.dSrc (s.load ⟨0, 0, 0, q.wdown * 64 + (layer * rank + k) * row⟩ row)).map (elemValue q.srcFormat)
    num32 (accumulateFloat 64 (2 ^ 32) sc ws vs 0).toNat
  let encs := cs.map fun c => if fmt = 4 then e4m3.narrow (c.div (num32 (s.latentScale layer))) else bf16.narrow c
  ⟨encs.map Enc.code, cs, (encs.map Enc.sat).sum, (encs.map Enc.und).sum⟩

/-- The bytes of a page, and its CRC-32 (R251). -/
def pageCrc (fmt : Nat) (rows : List (List Nat)) : Nat := crc32 (rows.flatMap (packElems fmt))

/-! ## Ends of attention descriptors -/

/-- A body that breaks its map or ranges, or names a sequence in the wrong state: HEADER_INVALID, detail 0x0600, fault 0x0601. -/
def State.refuseKv (s : State) (r : Fin 10) (p : Fin 4) (h : BitVec 128) : State :=
  (s.complete r 18 h stHeaderInvalid 0x0600 0).fault 0x0601 (poolLoc r p) (at_ 32 32 (hSequence h) ||| at_ 8 0 (hOperation h)) (hClass h)

/-- KV_EXHAUSTED with its detail; a cause writes fault 0x0602 (R260). -/
def State.exhaustKv (s : State) (r : Fin 10) (p : Fin 4) (h : BitVec 128) (n cause : Nat) (told : Bool) : State :=
  let s1 := (s.complete r 18 h stKvExhausted cause 0).bump (ob 0x3800 6)
  if told then s1.fault 0x0602 (poolLoc r p) (at_ 32 32 (hSequence h) ||| at_ 12 20 n ||| at_ 8 0 cause) (hClass h) else s1

/-- The sequence is stalled (R259, R260). -/
def State.stall (s : State) (n : Nat) : State := s.modSeq n fun q => { q with state := 2 }

/-- An attention descriptor that starts: its body, pool and owner (R246, R247): the engine of the pool's owner region, and the pool's class; the records that it has changed are then in the memories. -/
def State.attention (s : State) (r : Fin 10) (p : Fin 4) (h : BitVec 128) (ok : Bool) (run : State → State) : State :=
  if !ok || !s.flag (poolObj p 1) || s.nat (poolObj p 3) != r.val then s.refuseKv r p h
  else if s.nat (poolObj p 2) ≠ hClass h then s.endGuard r 18 h ⟨0, 0, 0, 0⟩
  else ((run s).showKv s p).countTokens r 1

/-- R259: an entry or a sequence record that fails its own CRC: the frame leaves the pool until the next launch, the sequence is stalled, the descriptor ends with ECC_UNCORRECTABLE and its outputs invalid, fault 0x0604 or 0x0606. -/
def State.endBadRecord (s : State) (r : Fin 10) (p : Fin 4) (h : BitVec 128) (n : Nat) (bad : List Page) : State :=
  match bad with
  | [] => ((s.stall n).complete r 18 h stEcc 0x0606 0 true).fault 0x0606 (poolLoc r p) (at_ 12 0 n) (hClass h)
  | x :: _ =>
    let gone (s : State) : State := s.modKv fun k => { k with badFrames := upd k.badFrames p fun fs => fs ++ x.frame.toList }
    let s1 := ((gone s).modPages p fun ps => ps.map fun y => if y.entry = x.entry then { y with dropped := true, frame := none, rows := [] } else y).stall n
    (s1.complete r 18 h stEcc 0x0604 0 true).fault 0x0604 (poolLoc r p) (at_ 32 0 x.entry) (hClass h)

/-! ## KV_APPEND (R250, R251, R260) -/

/-- A token's latent row joins the page of its layer that is being filled; a full page takes its CRC. -/
def addRow (fmt : Nat) (ps : List Page) (n layer pos : Nat) (row : List Nat) : List Page :=
  ps.map fun x =>
    if x.seq = n ∧ x.layer = layer ∧ x.firstToken = pos / 256 * 256 then
      let rows := x.rows ++ [row]
      { x with rows := rows, fill := x.fill + 1, crc := if rows.length = 256 then pageCrc fmt rows else x.crc }
    else x

/-- The page of a position in a layer is allocated where it does not exist. -/
def State.ensurePage (s : State) (p : Fin 4) (n layer pos : Nat) (resident : Bool) : Option State :=
  if (seqPages s.kv.pages[p] n layer).any fun x => x.firstToken == pos / 256 * 256 then some s
  else match s.freeEntry p with
  | none => none
  | some e =>
    match s.allocFrame p resident fun x => x.seq == n && decide (x.fill < 256) with
    | none => none
    | some (f, s1) => some (s1.modPages p fun ps => ps ++
        [⟨e, 0, some f, pos / 256 * 256, n, layer, 0, 0, false, 0, []⟩])

/-- The pages that an append needs, layer after layer; none where an allocation fails. -/
def State.ensureAll (s : State) (p : Fin 4) (n layers from_ count : Nat) (resident : Bool) : Option State :=
  let firsts := (List.range (divUp (from_ % 256 + count) 256)).map fun i => from_ / 256 * 256 + 256 * i
  ((List.range layers).flatMap fun l => firsts.map fun f => (l, f)).foldl (fun acc e => acc.bind fun s => s.ensurePage p n e.1 e.2 resident) (some s)

/-- The source rows, as they lie in region memory one after another. -/
def State.sourceRows (s : State) (r : Fin 10) (q : KvSeq) (d : AppendDesc) : List (List Nat) :=
  let row := rowBytes q.srcFormat q.dSrc
  (List.range d.tokens).map fun i => unpackElems q.srcFormat q.dSrc (s.load (rmemAt r.val (d.source + i * row)) row)

/-- The source rows and their latents are written; the length rises. The latents are returned for the statistics. -/
def State.writeTokens (s : State) (n : Nat) (q : KvSeq) (rows : List (List Nat)) : State × List Latent :=
  let cap := s.logRows
  let fmt := s.latentFmt q.pool
  let s1 := (rows.mapIdx fun i x => (i, x)).foldl (fun acc e => acc.store (logPlace q cap (q.length + e.1)) (packElems q.srcFormat e.2)) s
  let s2 := (List.range (q.layers + 1)).foldl (fun acc l => (rows.mapIdx fun i x => (i, x)).foldl (fun (acc : State × List Latent) e =>
    let c := acc.1.latentRow n q l e.2
    (acc.1.modPages q.pool fun ps => addRow fmt ps n l (q.length + e.1) c.codes, acc.2 ++ [c])) acc) (s1, [])
  (s2.1.modSeq n fun x => { x with length := x.length + rows.length }, s2.2)

/-- What an append leaves beside its tokens: the statistics record of FP8 latents (R203), and the count of its saturations. -/
def State.appendStats (s : State) (r : Fin 10) (d : AppendDesc) (fmt : Nat) (ls : List Latent) : State :=
  let s1 := if fmt = 4 then
      let f := s.slotFields r none
      f.2.store (statsPlace r d.header) (statsOf (ls.flatMap Latent.values) (ls.map Latent.sat).sum (ls.map Latent.und).sum fmt f.1.1 f.1.2).bytes
    else s
  s1.countSat (ls.map Latent.sat).sum

/-- Where an append reads, and writes beside its pages: its source vectors, its rows of the source log, the statistics record of FP8 latents. -/
def State.appendPlaces (s : State) (r : Fin 10) (q : KvSeq) (d : AppendDesc) : List (MemRef × Nat × Bool) :=
  let row := rowBytes q.srcFormat q.dSrc
  (rmemAt r.val d.source, d.tokens * row, false) :: ((List.range d.tokens).map fun i => (logPlace q s.logRows (q.length + i), row, true)) ++
    (if s.latentFmt q.pool = 4 then [(statsPlace r d.header, 32, true)] else [])

/-- The pages that an append fills. -/
def State.fillingPages (s : State) (p : Fin 4) (n : Nat) : List Page := s.kv.pages[p].filter fun x => x.seq == n && decide (x.fill < 256)

/-- R250, R251, R260. -/
def State.runAppend (s : State) (r : Fin 10) (d : AppendDesc) : State :=
  let h := d.header
  let n := d.sequence
  match s.seqOf n with
  | none => s.refuseKv r d.pool h
  | some q =>
    if q.pool ≠ d.pool then s.refuseKv r d.pool h
    else if q.state = 2 then s.exhaustKv r d.pool h n 1 false
    else if 2 ^ 20 < s.untrimmed + d.tokens then s.exhaustKv r d.pool h n 2 true
    else if s.logRows < q.length - q.firstValid + d.tokens then s.exhaustKv r d.pool h n 3 true
    else match s.checkPlaces r h (s.appendPlaces r q d) with
    | some s' => s'
    | none =>
      let bad := s.badEntries d.pool (s.fillingPages d.pool n)
      if s.badRecord d.pool n || !bad.isEmpty then s.endBadRecord r d.pool h n (if s.badRecord d.pool n then [] else bad)
      else
        let met := s.meetUpsets r 18 h d.upsets [(rmemAt r.val d.source, d.tokens * rowBytes q.srcFormat q.dSrc)]
        match met.2 with
        | some st => met.1.complete r 18 h st 0 0
        | none => match met.1.ensureAll d.pool n (q.layers + 1) q.length d.tokens q.resident with
          | none => (met.1.stall n).exhaustKv r d.pool h n 1 true
          | some s1 =>
            let w := s1.writeTokens n q (s1.sourceRows r q d)
            (w.1.appendStats r d (w.1.latentFmt d.pool) w.2).complete r 18 h stOk 0 d.tokens

/-- Whether an append's body is in range: 1 to 256 tokens. -/
def appendOk (d : AppendDesc) : Bool :=
  decide (hOperation d.header = 1 ∧ d.sequence < 4096 ∧ 1 ≤ d.tokens ∧ d.tokens ≤ 256)

/-! ## Recomputing (R258, R259) -/

/-- How recomputing pages ends. -/
inductive Recompute where
  | done
  | exhausted
  | mismatch (entry found : Nat)
deriving DecidableEq, Repr

/-- One dropped page is recomputed from the source log and checked against its CRC. -/
def State.recompute (s : State) (n : Nat) (q : KvSeq) (held : Page → Bool) (x : Page) : Recompute × State :=
  match s.allocFrame q.pool q.resident held with
  | none => (.exhausted, s)
  | some (f, s1) =>
    let cap := s1.logRows
    let ls := (List.range 256).map fun i =>
      s1.latentRow n q x.layer (unpackElems q.srcFormat q.dSrc (s1.load (logPlace q cap (x.firstToken + i)) (rowBytes q.srcFormat q.dSrc)))
    let rows := ls.map Latent.codes
    let s1 := s1.countSat (ls.map Latent.sat).sum
    let found := pageCrc (s1.latentFmt q.pool) rows
    if found = x.crc then
      (.done, (s1.modPages q.pool fun ps => ps.map fun y => if y.entry = x.entry then { y with dropped := false, frame := some f, rows := rows } else y).bump (ob 0x3800 5))
    else (.mismatch x.entry found, s1)

/-- The dropped pages of layers `ls` whose tokens lie in a range, in ascending first_token order. -/
def State.droppedIn (s : State) (p : Fin 4) (n : Nat) (ls : List Nat) (lo hi : Nat) : List Page :=
  ls.flatMap fun l => (seqPages s.kv.pages[p] n l).filter fun x => x.dropped && decide (lo < x.firstToken + 256 ∧ x.firstToken < hi)

/-- All of them are recomputed, until one fails. -/
def State.recomputeAll (s : State) (n : Nat) (q : KvSeq) (held : Page → Bool) (xs : List Page) : Recompute × State :=
  xs.foldl (fun acc x => match acc.1 with
    | .done => acc.2.recompute n q held x
    | e => (e, acc.2)) (.done, s)

/-- The outputs that depend on an attention descriptor, with their release numbers: with release_hold the output of its queue at its release_beat, else those that the image names for the region, at the next release count (DESIGN CHOICE, log entry 57). -/
def dependents (run : Run) (im : Image) (r : Fin 10) (h : BitVec 128) : List (Nat × Nat) :=
  if hReleaseHold h then
    ((im.heldOutputs.filter fun e => e.region == r && e.block == 18 && e.engine == hEngine h).map fun e => (e.out, releaseBeat run.beat (hReleaseBeat h)))
  else (im.attentionOutputs.filter fun e => e.1 == r).map fun e => (e.2, run.beat + 1)

/-- R73: a need beyond the allowance declares the releases late by the image's cost of each page beyond the allowance (DESIGN CHOICE, log entry 57): to the first release count at or after the original one plus that time; fault 0x0104. -/
def State.declareLate (s : State) (r : Fin 10) (h : BitVec 128) (need allowance : Nat) : Bool × State :=
  match s.launch.run, s.launch.image with
  | some run, some im =>
    if need ≤ allowance then (false, s)
    else
      let extra := (need - allowance) * im.recomputeCost
      let late := (dependents run im r h).map fun e => (⟨e.1, e.2, run.firstBeatAt (run.countOf e.2 + extra)⟩ : LateRelease)
      (true, (((s.modLaunch fun l => { l with late := l.late ++ late }).countChip 3 1).bump (ob 0x3010 0x12)).fault 0x0104 (.ofRegion r.val)
        (at_ 32 32 extra ||| at_ 16 16 (min need 65535) ||| at_ 16 0 allowance))
  | _, _ => (false, s)

/-- A recompute that failed ends the descriptor (R259, R260). -/
def State.endRecompute (s : State) (r : Fin 10) (p : Fin 4) (h : BitVec 128) (n : Nat) (e : Recompute) : State :=
  match e with
  | .mismatch entry found =>
    (((s.stall n).complete r 18 h stEcc 0x0605 0 true).bump (ob 0x3800 8)).fault 0x0605 (poolLoc r p) (at_ 32 32 entry ||| at_ 32 0 found) (hClass h)
  | _ => (s.stall n).exhaustKv r p h n 1 true

/-! ## ATTEND (R252 to R256) -/

def af (d : ZooDesc) (hi lo : Nat) : Nat := fld d.body hi lo
def aPool (d : ZooDesc) : Fin 4 := Fin.ofNat 4 (af d 499 498)
def aDim (d : ZooDesc) : Nat := 64 * (af d 490 489 + 1)
def aHeads (d : ZooDesc) : Nat := af d 488 482 + 1
def aShards (d : ZooDesc) : Nat := af d 472 469 + 1
def aRing (d : ZooDesc) : Bool := af d 464 464 == 1
def aPartial (d : ZooDesc) : Bool := af d 463 463 == 1

/-- Whether an ATTEND body holds to its map and ranges. -/
def attendOk (d : ZooDesc) : Bool :=
  decide (hOperation d.header = 2 ∧ hBodyLength d.header = 4 ∧ af d 452 448 = 0 ∧ af d 239 224 = 0 ∧ af d 63 0 = 0 ∧ af d 490 489 ≠ 3
    ∧ af d 474 473 ≠ 3 ∧ 1 ≤ af d 447 416 ∧ af d 447 416 ≤ 65536 ∧ (af d 474 473 = 2 → 1 ≤ af d 319 288)
    ∧ 1 ≤ af d 460 453 ∧ af d 460 453 ≤ 2 ∧ af d 468 465 < aShards d) &&
    finite32 (af d 287 256) && decide (0 < af d 287 256 ∧ af d 287 256 < 2 ^ 31)

/-- R252: whether key j takes part for a query at position `pos`. -/
def takesPart (d : ZooDesc) (firstValid pos j : Nat) : Bool :=
  decide (af d 383 352 ≤ j ∧ j < af d 351 320 ∧ firstValid ≤ j) &&
    (if af d 474 473 = 1 then decide (j ≤ pos) else if af d 474 473 = 2 then decide (j ≤ pos ∧ pos < j + af d 319 288) else true)

/-- The partial of a query and head over a shard: maximum (none for −Infinity), sum, accumulators; or NaN. -/
structure Part where
  nan : Bool
  m : Option Int
  l : Exact
  acc : List Exact
deriving DecidableEq, Repr

/-- A partial before its first key block. -/
def Part.start (d : Nat) : Part := ⟨false, none, Exact.zero, List.replicate d Exact.zero⟩

/-- A value times a power of two. -/
def Exact.shift (v : Exact) (k : Int) : Exact := match v with
  | .fin s m d e => .fin s m d (e + k)
  | w => w

/-- The least integer at or above a finite value. -/
def ceilOf (v : Exact) : Int := match v with
  | .fin s m d e =>
    let p := scaled m e
    let q : Nat := p.2 * d
    if s then -((p.1 / q : Nat) : Int) else ((divUp p.1 q : Nat) : Int)
  | _ => 0

/-- The largest of finite values. -/
def maxOf (xs : List Exact) : Exact := xs.foldl (fun m x => if rankLe x m then m else x) (.inf true)
where
  rankLe (a b : Exact) : Bool := match (b.sub a) with
    | .fin s m _ _ => !s || m == 0
    | .inf s => !s
    | .nan => true

/-- One key block of the recurrence: scores and values of the keys that take part (R254). -/
def Part.block (t : Part) (keys : List (Exact × List Exact)) : Part :=
  if t.nan || keys.isEmpty then t
  else if keys.any fun k => k.1.special || k.2.any fun v => v == .nan then { t with nan := true }
  else
    let top := ceilOf (maxOf (keys.map fun k => k.1))
    let mNew := match t.m with
      | none => top
      | some m => max m top
    let scale (v : Exact) : Exact := match t.m with
      | none => Exact.zero
      | some m => (v.shift (m - mNew)).rn
    let start : Exact × List Exact := (scale t.l, t.acc.map scale)
    let res := keys.foldl (fun a k =>
      let p := exp2 ((k.1.sub (Exact.ofInt mNew)).rn)
      ((a.1.add p).rn, List.zipWith (fun x v => (x.add (p.mul v)).rn) a.2 k.2)) start
    ⟨false, some mNew, res.1, res.2⟩

/-- R264: partials merged in ascending shard index. -/
def mergeParts (d : Nat) (ps : List Part) : Part :=
  if ps.any Part.nan then { Part.start d with nan := true }
  else ps.foldl (fun a t => match t.m with
    | none => a
    | some k =>
      let mNew := match a.m with
        | none => k
        | some m => max m k
      let old (v : Exact) : Exact := match a.m with
        | none => Exact.zero
        | some m => v.shift (m - mNew)
      ⟨false, some mNew, ((old a.l).add (t.l.shift (k - mNew))).rn, List.zipWith (fun x y => ((old x).add (y.shift (k - mNew))).rn) a.acc t.acc⟩) (Part.start d)

/-- The output of a query and head: normalised elements, or a partial, of which only m is stated where it is NaN, the rest a free value (DESIGN CHOICE, log entry 73); with its saturations and underflows (R255, R256). -/
def partOut (d : ZooDesc) (i h : Nat) (t : Part) : List (BitVec 32) × Nat × Nat :=
  let nan : BitVec 32 := 0x7FC00000
  let word (v : Exact) : BitVec 32 := BitVec.ofNat 32 (fp32.ieee v)
  if aPartial d then
    (if t.nan then nan :: (List.range (t.acc.length + 1)).map fun k => BitVec.ofNat 32 (pattern 32 (Config.free 73 0 [i, h, k]))
      else (match t.m with
        | none => BitVec.ofNat 32 0xFF800000
        | some m => word (Exact.ofInt m)) :: word t.l :: t.acc.map word, 0, 0)
  else if t.nan then (t.acc.map fun _ => BitVec.ofNat 32 (if af d 460 453 = 2 then 0x7FC0 else 0x7FC00000), 0, 0)
  else match t.m with
    | none => (t.acc.map fun _ => 0, 0, 0)
    | some _ =>
      let encs := t.acc.map fun a => (if af d 460 453 = 2 then bf16 else fp32).narrow (a.div t.l)
      (encs.map fun e => BitVec.ofNat 32 e.code, (encs.map Enc.sat).sum, (encs.map Enc.und).sum)

/-- A shard: its positions, and where its latents come from (none: the local pages; else bytes received over the ring). -/
structure Shard where
  first : Nat
  last : Nat
  data : Option Bytes
deriving DecidableEq, Repr

/-- The shard table entry k (R263). -/
def State.shardAt (s : State) (r : Fin 10) (d : ZooDesc) (k : Nat) : Nat × Nat :=
  if aShards d = 1 then (af d 383 352, af d 351 320)
  else
    let e := leNat (s.load (rmemAt r.val (af d 127 96 * 64 + 8 * k)) 8)
    (bits e 31 0, bits e 63 32)

/-- The beats from a ring message's producing beat to its consuming beat, as the image declares them for its ring (R96). -/
def State.ringLag (s : State) (ring : Nat) : Option Nat := s.launch.image.bind fun im => get? im.ringBeats ring

/-- The all-gather of a ring, if the image declares one (R433). -/
def State.gatherOf (s : State) (ring : Nat) : Option Gather := s.launch.image.bind fun im => im.gathers.find? fun g => g.ring.val == ring

/-- The ring that carries the shards of R263: the first one of the image that gathers nothing (DESIGN CHOICE, log entry 70). -/
def State.shardRing (s : State) : Option Nat :=
  s.launch.image.bind fun im => (im.ringBeats.find? fun e => im.gathers.all fun g => g.ring.val != e.1).map fun e => e.1

/-- The place of a part in an assembled result, by its index (R433). -/
def partPlace (g : Gather) (index : Nat) : MemRef := { g.place with addr := g.place.addr + index * g.partBytes }

/-- The chips of a ring group: 24 bytes for each (R432). -/
def State.ringSize (s : State) (ring : Nat) : Nat := (s.raw (ob (0x2470 + ring) 6)).length / 24

/-- R432, R433: the message of a step to the next chip: of n chips in steps 0 to n − 2, with the present beat as its producing beat. -/
def State.sendRing (s : State) (ring step index : Nat) (data : Bytes) : State :=
  if s.flag (ob (0x2470 + ring) 1) && decide (step + 1 < s.ringSize ring) then
    s.transmit (Fin.ofNat 8 (s.nat (ob (0x2470 + ring) 3)))
      (.ringSend (s.nat (ob 0x2400 9)) ring (at_ 24 8 s.beat ||| at_ 4 4 step ||| at_ 4 0 index) data)
  else s

/-- Whether a ring message is to be consumed in the present beat: as many beats after its producing beat as the image declares for its ring (R96, R432); the immediate carries the producing beat's low 24 bits. -/
def State.ringDue (s : State) (m : Nat × Nat × Bytes) : Bool :=
  match s.ringLag m.1 with
  | some lag => (bits m.2.1 31 8 + lag) % 2 ^ 24 == s.beat % 2 ^ 24
  | none => false

/-- The message that carried shard k over the ring and is to be consumed in this beat (R96, R432). -/
def State.ringShard (s : State) (k : Nat) : Option Bytes :=
  (s.net.ringIn.find? fun m => some m.1 == s.shardRing && bits m.2.1 3 0 == k && s.ringDue m).map fun m => m.2.2

/-- The shards of a descriptor. -/
def State.shards (s : State) (r : Fin 10) (d : ZooDesc) : List Shard :=
  (List.range (aShards d)).map fun k =>
    let e := s.shardAt r d k
    ⟨e.1, e.2, if aRing d ∧ k ≠ af d 468 465 then some ((s.ringShard k).getD []) else none⟩

/-- The first shard that is missing: named by the command, or never received. -/
def State.missingShard (s : State) (d : ZooDesc) (missing : Option Nat) : Option Nat :=
  match missing with
  | some k => some k
  | none => if aRing d then (List.range (aShards d)).find? fun k => k != af d 468 465 && (s.ringShard k).isNone else none

/-- The latent row of position j, as element codes. -/
def State.latentAt (s : State) (d : ZooDesc) (sh : Shard) (j : Nat) : List Nat :=
  let p := aPool d
  match sh.data with
  | some bs => unpackElems (s.latentFmt p) (s.rank p) (bs.drop ((j - sh.first) * rowBytes (s.latentFmt p) (s.rank p)))
  | none =>
    match (seqPages s.kv.pages[p] (af d 511 500) (af d 497 491)).find? fun x => x.firstToken == j / 256 * 256 with
    | some x => x.rows.getD (j % 256) []
    | none => []

/-- R263: at the start of a ring each chip forwards the latent rows of its own shard to the next chip. -/
def State.sendShard (s : State) (r : Fin 10) (d : ZooDesc) : State :=
  match if aRing d then s.shardRing else none with
  | some ring =>
    let k := af d 468 465
    let e := s.shardAt r d k
    s.sendRing ring 0 k ((List.range (e.2 - e.1)).flatMap fun i => packElems (s.latentFmt (aPool d)) (s.latentAt d ⟨e.1, e.2, none⟩ (e.1 + i)))
  | none => s

/-- The key and value of a position for a head: W · c in grouped float mode, rounded to BF16 (R253). -/
def State.expand (s : State) (d : ZooDesc) (head : Nat) (value : Bool) (c : List Nat) : List Enc :=
  let p := aPool d
  let rank := s.rank p
  let fmt := s.latentFmt p
  let row := rowBytes fmt rank
  let base := af d 159 128 * 64 + (2 * head + b2n value) * aDim d * row
  let sc := (if fmt = 4 then num32 (s.latentScale (af d 497 491)) else Exact.ofInt 1).mul (num32 (af d 95 64))
  let cs := c.map (elemValue fmt)
  (List.range (aDim d)).map fun k =>
    let ws := (unpackElems fmt rank (s.load ⟨0, 0, 0, base + k * row⟩ row)).map (elemValue fmt)
    bf16.narrow (num32 (accumulateFloat 64 (2 ^ 32) sc ws cs 0).toNat)

/-- The values of an expanded row. -/
def expanded (es : List Enc) : List Exact := es.map fun e => bf16.decode e.code

/-- The place of query i's vector for a head, and of its output. -/
def qPlace (r : Fin 10) (d : ZooDesc) (i head : Nat) : MemRef :=
  ⟨if af d 462 462 = 1 then 0 else 1, r.val, 0, af d 223 192 * 64 + (i * aHeads d + head) * aDim d * 2⟩

/-- Bytes of the output of one query and head. -/
def outBytes (d : ZooDesc) : Nat := if aPartial d then 8 + 4 * aDim d else aDim d * (if af d 460 453 = 2 then 2 else 4)

def outPlace (r : Fin 10) (d : ZooDesc) (i head : Nat) : MemRef :=
  ⟨if af d 461 461 = 1 then 0 else 1, r.val, 0, af d 191 160 * 64 + (i * aHeads d + head) * outBytes d⟩

/-- The partial of a query and head over a shard (R254). -/
def State.partOver (s : State) (r : Fin 10) (d : ZooDesc) (firstValid i head : Nat) (sh : Shard) : Part :=
  let pos := af d 415 384 + i
  let q := (unpackElems 2 (aDim d) (s.load (qPlace r d i head) (2 * aDim d))).map bf16.decode
  let tau := num32 (af d 287 256)
  (List.range (divUp (sh.last - sh.first) 64)).foldl (fun t b =>
    let keys := (List.range 64).filterMap fun k =>
      let j := sh.first + 64 * b + k
      if j < sh.last ∧ takesPart d firstValid pos j then
        let c := s.latentAt d sh j
        let key := expanded (s.expand d head false c)
        let dot := num32 (accumulateFloat 64 (2 ^ 32) (Exact.ofInt 1) q key 0).toNat
        some ((dot.mul tau).rn, expanded (s.expand d head true c))
      else none
    t.block keys) (Part.start (aDim d))

/-- Saturations and underflows of the expansions of a shard: each row of a key block is expanded for every head, once for each query tile of 1,024 that can take a key of the block (R252, R253). -/
def State.expansions (s : State) (d : ZooDesc) (firstValid : Nat) (sh : Shard) : Nat × Nat :=
  let rows (b : Nat) : List Nat := (List.range 64).filterMap fun k => if sh.first + 64 * b + k < sh.last then some (sh.first + 64 * b + k) else none
  let tiles (b : Nat) : Nat := ((List.range (divUp (af d 447 416) 1024)).filter fun q =>
    (List.range (min 1024 (af d 447 416 - 1024 * q))).any fun i => (rows b).any fun j => takesPart d firstValid (af d 415 384 + 1024 * q + i) j).length
  (List.range (divUp (sh.last - sh.first) 64)).foldl (fun acc b =>
    let n := tiles b
    if n = 0 then acc else
      let es := (rows b).flatMap fun j => (List.range (aHeads d)).flatMap fun h => s.expand d h false (s.latentAt d sh j) ++ s.expand d h true (s.latentAt d sh j)
      (acc.1 + n * (es.map Enc.sat).sum, acc.2 + n * (es.map Enc.und).sum)) (0, 0)

/-- Places that an ATTEND reads. -/
def State.attendReads (s : State) (r : Fin 10) (d : ZooDesc) : List (MemRef × Nat) :=
  let n := af d 447 416 * aHeads d
  [(qPlace r d 0 0, n * aDim d * 2),
   (⟨0, 0, 0, af d 159 128 * 64⟩, aHeads d * 2 * aDim d * rowBytes (s.latentFmt (aPool d)) (s.rank (aPool d)))] ++
  (if aShards d = 1 then [] else [(rmemAt r.val (af d 127 96 * 64), 8 * aShards d)])

/-- Places that an ATTEND reads and writes; what goes to a release buffer needs no place. -/
def State.attendPlaces (s : State) (r : Fin 10) (d : ZooDesc) : List (MemRef × Nat × Bool) :=
  (s.attendReads r d).map (fun e => (e.1, e.2, false)) ++
    (if hReleaseHold d.header then [] else [(outPlace r d 0 0, af d 447 416 * aHeads d * outBytes d, true)])

/-- R433: at step 0 of an all-gather a chip forwards its own part, once the outputs of its region have been written up to the part's end. -/
def State.sendOwnPart (s : State) (r : Fin 10) (end_ : MemRef) : State :=
  match s.launch.image.bind fun im => im.gathers.find? fun g => g.region == r && partPlace g (s.nat (ob (0x2470 + g.ring.val) 2) + 1) == end_ with
  | some g =>
    let k := s.nat (ob (0x2470 + g.ring.val) 2)
    s.sendRing g.ring.val 0 k (s.load (partPlace g k) g.partBytes)
  | none => s

/-- The outputs of all queries and heads go to their place or to the release buffer (R163, R255, R256), their saturations are counted (R179). -/
def State.writeAttention (s : State) (r : Fin 10) (d : ZooDesc) (firstValid : Nat) (recomputed late : Bool) : State :=
  let shards := s.shards r d
  let parts := (List.range (af d 447 416)).flatMap fun i => (List.range (aHeads d)).map fun h =>
    (i, h, mergeParts (aDim d) (shards.map fun sh => s.partOver r d firstValid i h sh))
  let width := if aPartial d ∨ af d 460 453 = 1 then 4 else 2
  let outs := parts.map fun e => partOut d e.1 e.2.1 e.2.2
  let grown := shards.map fun sh => s.expansions d firstValid sh
  let sat := (outs.map fun o => o.2.1).sum + (grown.map fun g => g.1).sum
  let und := (outs.map fun o => o.2.2).sum + (grown.map fun g => g.2).sum
  let bytes := (outs.flatMap fun o => o.1).flatMap fun w => leBytes width w.toNat
  let place := outPlace r d 0 0
  let s1 := (s.deliverOut r 18 d.header place bytes).sendOwnPart r { place with addr := place.addr + bytes.length }
  let s2 := (s1.emit (.attention r.val (outs.map fun o => o.1) sat und)).countSat sat
  let bad := ((parts.filter fun e => e.2.2.nan).map fun e => e.1).dedup.length
  let s3 := if bad = 0 then s2 else s2.bump (ob 0x3800 7) bad
  let empty := parts.any fun e => !e.2.2.nan && e.2.2.m.isNone
  s3.complete r 18 d.header stOk (at_ 1 1 (b2n (decide (0 < bad))) ||| at_ 1 2 (b2n empty) ||| at_ 1 3 (b2n recomputed)) parts.length false late

/-- The key range whose pages an ATTEND of a ring or of one chip takes from its own pool. -/
def State.ownRange (s : State) (r : Fin 10) (d : ZooDesc) : Nat × Nat :=
  let own := s.shardAt r d (if aRing d then af d 468 465 else 0)
  if aRing d then (max own.1 (af d 383 352), min own.2 (af d 351 320)) else (af d 383 352, af d 351 320)

/-- The pages of an ATTEND's layer within its key range. -/
def State.rangePages (s : State) (p : Fin 4) (n layer : Nat) (range : Nat × Nat) : List Page :=
  (seqPages s.kv.pages[p] n layer).filter fun x => decide (range.1 < x.firstToken + 256 ∧ x.firstToken < range.2)

/-- R256, R258: an ATTEND whose inputs are all there: late where it needs more pages than its allowance, dropped pages recomputed, outputs written. -/
def State.attendOver (s : State) (r : Fin 10) (d : ZooDesc) (n : Nat) (q : KvSeq) : State :=
  let p := aPool d
  let range := s.ownRange r d
  let drops := s.droppedIn p n [af d 497 491] range.1 range.2
  let late := s.declareLate r d.header drops.length (af d 255 240)
  let held (x : Page) : Bool := x.seq == n && x.layer == af d 497 491 && decide (range.1 < x.firstToken + 256 ∧ x.firstToken < range.2)
  let made := late.2.recomputeAll n q held drops
  match made.1 with
  | .done => made.2.writeAttention r d q.firstValid (!drops.isEmpty) late.1
  | e => made.2.endRecompute r p d.header n e

/-- R96, R262, R263: a shard or part that is missing when its beat begins. -/
def State.endMissing (s : State) (r : Fin 10) (d : ZooDesc) (k : Nat) : State :=
  ((s.complete r 18 d.header stRetryNet 0x0603 0 true).bump (ob 0x3800 9)).fault 0x0603 (poolLoc r (aPool d))
    (at_ 32 32 (hSequence d.header) ||| at_ 8 8 k ||| (if aRing d then 1 else 2)) (hClass d.header)

/-- R252 to R260, R262 to R264: an ATTEND that passed its checks. -/
def State.runAttend (s : State) (r : Fin 10) (d : ZooDesc) (missing : Option Nat) : State :=
  let h := d.header
  let n := af d 511 500
  let p := aPool d
  match s.seqOf n with
  | none => s.refuseKv r p h
  | some q =>
    if q.pool ≠ p ∨ q.layers < af d 497 491 then s.refuseKv r p h
    else if q.state = 2 then s.exhaustKv r p h n 1 false
    else match s.checkPlaces r h (s.attendPlaces r d) with
    | some s' => s'
    | none =>
      match s.missingShard d missing with
      | some k => (s.sendShard r d).endMissing r d k
      | none =>
        let bad := s.badEntries p (s.rangePages p n (af d 497 491) (s.ownRange r d))
        if s.badRecord p n || !bad.isEmpty then s.endBadRecord r p h n (if s.badRecord p n then [] else bad)
        else
          let met := (s.sendShard r d).meetUpsets r 18 h d.upsets (s.attendReads r d)
          match met.2 with
          | some st => met.1.complete r 18 h st 0 0
          | none => met.1.attendOver r d n q

/-! ## PAGE_CTRL (R248, R257, R260) -/

/-- The fields that OPEN and SET take are in range: width of the source vectors, layers, priority, formats (R248, R250). -/
def State.openOk (s : State) (d : PageDesc) : Bool :=
  decide (d.sequence < 4096 ∧ 64 ≤ d.dSrc ∧ d.dSrc ≤ 4096 ∧ d.dSrc % 64 = 0 ∧ d.layers < 128 ∧ d.priority < 16
    ∧ d.srcFormat = s.latentFmt d.pool ∧ d.pinHead < 65536 ∧ d.pinTail < 65536)

/-- Page control on a sequence that is not closed and belongs to the pool. -/
def State.onSeq (s : State) (r : Fin 10) (d : PageDesc) (ok : KvSeq → Bool) (run : KvSeq → State) : State :=
  match s.seqOf d.sequence with
  | none => s.refuseKv r d.pool d.header
  | some q => if q.pool = d.pool ∧ ok q then run q else s.refuseKv r d.pool d.header

/-- A page control operation completes. -/
def State.pageDone (s : State) (r : Fin 10) (d : PageDesc) : State := s.complete r 18 d.header stOk 0 0

/-- The record that OPEN writes: active, its length and first_valid at the first position. -/
def openedSeq (d : PageDesc) : KvSeq :=
  { pool := d.pool, length := d.pos0, firstValid := d.pos0, srcLog := d.srcLog, wdown := d.wdown, dSrc := d.dSrc, layers := d.layers,
    priority := d.priority, state := 1, resident := d.resident, srcFormat := d.srcFormat, pinHead := d.pinHead, pinTail := d.pinTail }

/-- OPEN. -/
def State.pageOpen (s : State) (r : Fin 10) (d : PageDesc) : State :=
  if (s.seqOf d.sequence).isSome ∨ !s.openOk d then s.refuseKv r d.pool d.header
  else (s.modKv fun k => { k with seqs := put k.seqs d.sequence (openedSeq d) }).pageDone r d

/-- CLOSE. -/
def State.pageClose (s : State) (r : Fin 10) (d : PageDesc) : State :=
  s.onSeq r d (fun _ => true) fun _ =>
    ((s.modPages d.pool fun ps => ps.filter fun x => x.seq != d.sequence).modKv fun k => { k with seqs := del k.seqs d.sequence }).pageDone r d

/-- TRIM. -/
def State.pageTrim (s : State) (r : Fin 10) (d : PageDesc) : State :=
  s.onSeq r d (fun q => decide (d.pos0 % 256 = 0 ∧ q.firstValid ≤ d.pos0 ∧ d.pos0 ≤ q.length)) fun _ =>
    ((s.modPages d.pool fun ps => ps.filter fun x => x.seq != d.sequence || decide (d.pos0 < x.firstToken + 256)).modSeq d.sequence fun q =>
      { q with firstValid := d.pos0 }).pageDone r d

/-- Whether a page of the descriptor's sequence lies in its position range. -/
def inRange (d : PageDesc) (x : Page) : Bool := x.seq == d.sequence && decide (d.pos0 < x.firstToken + 256 ∧ x.firstToken < d.pos1)

/-- PIN: dropped pages of the range are recomputed first. -/
def State.pagePin (s : State) (r : Fin 10) (d : PageDesc) : State :=
  s.onSeq r d (fun q => q.state == 1 && decide (d.pos0 ≤ d.pos1)) fun q =>
    let drops := s.droppedIn d.pool d.sequence (List.range (q.layers + 1)) d.pos0 d.pos1
    let late := s.declareLate r d.header drops.length d.value
    let rec_ := late.2.recomputeAll d.sequence q (inRange d) drops
    match rec_.1 with
    | .done =>
      (rec_.2.modPages d.pool fun ps => ps.map fun x => if inRange d x then { x with pins := min 255 (x.pins + 1) } else x).complete r 18 d.header stOk 0 0 false late.1
    | e => rec_.2.endRecompute r d.pool d.header d.sequence e

/-- UNPIN. -/
def State.pageUnpin (s : State) (r : Fin 10) (d : PageDesc) : State :=
  s.onSeq r d (fun _ => decide (d.pos0 ≤ d.pos1)) fun _ =>
    (s.modPages d.pool fun ps => ps.map fun x => if inRange d x then { x with pins := x.pins - 1 } else x).pageDone r d

/-- RESUME. -/
def State.pageResume (s : State) (r : Fin 10) (d : PageDesc) : State :=
  s.onSeq r d (fun q => q.state == 2) fun _ => (s.modSeq d.sequence fun q => { q with state := 1 }).pageDone r d

/-- SET. -/
def State.pageSet (s : State) (r : Fin 10) (d : PageDesc) : State :=
  s.onSeq r d (fun _ => decide (d.priority < 16 ∧ d.pinHead < 65536 ∧ d.pinTail < 65536)) fun _ =>
    (s.modSeq d.sequence fun q => { q with priority := d.priority, pinHead := d.pinHead, pinTail := d.pinTail }).pageDone r d

/-! ## Descriptors that start -/

/-- R250. -/
def State.startAppend (s : State) (r : Fin 10) (d : AppendDesc) : State := s.attention r d.pool d.header (appendOk d) fun s => s.runAppend r d

/-- R254. -/
def State.startAttend (s : State) (r : Fin 10) (d : ZooDesc) (missing : Option Nat) : State :=
  s.attention r (aPool d) d.header (attendOk d) fun s => s.runAttend r d missing

/-- R248, R257, R260: an operation of PAGE_CTRL. -/
def State.startPage (s : State) (r : Fin 10) (d : PageDesc) (run : State → State) : State :=
  s.attention r d.pool d.header (hOperation d.header == 3) run

end Sys2Proof.Machine
end

