-- ==== Sys2Proof/Machine/Isp.lean ====
section
/-!
DEFINITION. The image pipeline of a camera stream (R276 to R284) and the statistics of its lines (R293, R294), as functions of the stream's objects and rows.
-/

namespace Sys2Proof.Machine

/-- The object of a stream. -/
def camObj (n sub : Nat) : Key := ob (0x2810 + n) sub

/-- The ISP object of a stream. -/
def ispObj (n sub : Nat) : Key := ob (0x2A10 + n) sub

/-- The settings under which the ISP processes one line. -/
structure Isp where
  area : Bool
  width : Nat
  height : Nat
  depth : Nat
  comps : Nat
  phase : Nat
  mosaic : Nat
  ox : Nat
  oy : Nat
  black : Bytes
  defects : Bytes
  threshold : Nat
  shading : Nat
  gains : Bytes
  matrix : Bytes
  outs : Nat
  format : Nat
  gain : Nat
  range : Nat
  zones : Bytes
deriving DecidableEq, Repr

/-- The settings of stream n for a line or frame of a phase (R298). -/
def State.isp (s : State) (n phase : Nat) : Isp :=
  { area := s.nat (camObj n 4) == 1
    width := s.nat (camObj n 5)
    height := s.nat (camObj n 6)
    depth := s.nat (camObj n 7)
    comps := s.nat (camObj n 8)
    phase := phase
    mosaic := s.nat (ispObj n 6)
    ox := bits (s.nat (ispObj n 7)) 1 0
    oy := bits (s.nat (ispObj n 7)) 3 2
    black := s.raw (ispObj n 1)
    defects := s.raw (ispObj n 2)
    threshold := s.nat (ispObj n 3)
    shading := s.nat (ispObj n 4)
    gains := s.raw (ispObj n 5)
    matrix := s.raw (ispObj n 8)
    outs := s.nat (ispObj n 9)
    format := s.nat (ispObj n 0x0A)
    gain := s.nat (ispObj n 0x0B)
    range := s.nat (ispObj n 0x0D)
    zones := s.raw (ispObj n 0x0E) }

/-! ## Mosaics (R280's table) -/

/-- The period of the mosaic, 1 without one. -/
def Isp.period (i : Isp) : Nat := if i.mosaic = 0 then 1 else if i.mosaic = 3 then 4 else 2

/-- The colours of the mosaic at offset 0, row by row, as numbers of the demosaic outputs. -/
def mosaicColours (code : Nat) : List Nat :=
  if code = 1 then [0, 1, 1, 2] else if code = 2 then [0, 1, 3, 2]
  else if code = 3 then [0, 1, 2, 1, 1, 3, 1, 3, 2, 1, 0, 1, 1, 3, 1, 3]
  else if code = 4 then [0, 1, 1, 2] else if code = 5 then [0, 1, 1, 1] else [0]

/-- The number of demosaic outputs. -/
def Isp.colours (i : Isp) : Nat :=
  if i.mosaic = 0 then i.comps else if i.mosaic = 2 ∨ i.mosaic = 3 then 4 else if i.mosaic = 5 then 2 else 3

/-- The mosaic position of a pixel with the offset applied; without a mosaic the component index (R277). -/
def Isp.position (i : Isp) (x y c : Nat) : Nat :=
  if i.mosaic = 0 then c else (y + i.oy) % i.period * i.period + (x + i.ox) % i.period

/-- The colour of a pixel. -/
def Isp.colour (i : Isp) (x y c : Nat) : Nat := if i.mosaic = 0 then c else (mosaicColours i.mosaic).getD (i.position x y c) 0

/-! ## Black level, defects, shading (R277 to R280) -/

/-- R277: the input codes of a line less the black value of their phase and position, not below 0. -/
def Isp.blackLevel (i : Isp) (y : Nat) (codes : List Nat) : List Nat :=
  let positions := if i.mosaic = 0 then i.comps else i.period * i.period
  codes.mapIdx fun k v => v - leAt i.black (2 * (i.phase * positions + i.position (k / i.comps) y (k % i.comps))) 2

/-- Whether a pixel is in the defect list; a line-scan sensor has one row. -/
def Isp.listed (i : Isp) (x y : Nat) : Bool :=
  (List.range (i.defects.length / 4)).any fun k =>
    let e := leAt i.defects (4 * k) 4
    bits e 15 0 == x && (!i.area || bits e 30 16 == y)

/-- A value of a stored line. -/
def ispPixelAt (rows : List (Bool × List Nat)) (y k : Nat) : Nat := (rows.getD y (true, [])).2.getD k 0

/-- The mean of the values given, 0 of none. -/
def meanOf (vs : List Nat) : Exact :=
  if vs.isEmpty then Exact.zero else (Exact.div (Exact.ofInt (vs.foldl (· + ·) 0 : Nat)) (Exact.ofInt vs.length)).rn

/-- R278: the same-colour neighbours in the line that a replacement may use. -/
def Isp.across (i : Isp) (x y : Nat) : List Nat :=
  let p := i.period
  (if p ≤ x ∧ !i.listed (x - p) y then [x - p] else []) ++ (if x + p < i.width ∧ !i.listed (x + p) y then [x + p] else [])

/-- R278: the same-colour neighbours above and below; a line-scan stream has none but the listed column itself. -/
def Isp.along (i : Isp) (x y : Nat) : List Nat :=
  let p := i.period
  if !i.area then [] else
    (if p ≤ y ∧ !i.listed x (y - p) then [y - p] else []) ++ (if y + p < i.height ∧ !i.listed x (y + p) then [y + p] else [])

/-- R279: whether an unlisted pixel departs from both its neighbours in the line by more than the threshold. -/
def Isp.departs (i : Isp) (rows : List (Bool × List Nat)) (x y c : Nat) : Bool :=
  i.threshold != 0 && match i.across x y with
    | [a, b] =>
      let v := ispPixelAt rows y (x * i.comps + c)
      let va := ispPixelAt rows y (a * i.comps + c)
      let vb := ispPixelAt rows y (b * i.comps + c)
      decide (va + i.threshold < v ∧ vb + i.threshold < v ∨ v + i.threshold < va ∧ v + i.threshold < vb)
    | _ => false

/-- Whether R278 or R279 replaces a pixel. -/
def Isp.replaces (i : Isp) (rows : List (Bool × List Nat)) (x y c : Nat) : Bool := i.listed x y || i.departs rows x y c

/-- R278: the value of a pixel after defect replacement, which reads values before any other replacement. -/
def Isp.repaired (i : Isp) (rows : List (Bool × List Nat)) (x y c : Nat) : Exact :=
  if i.replaces rows x y c then
    match i.across x y with
    | [] => meanOf ((i.along x y).map fun y' => ispPixelAt rows y' (x * i.comps + c))
    | xs => meanOf (xs.map fun x' => ispPixelAt rows y (x' * i.comps + c))
  else Exact.ofInt (ispPixelAt rows y (x * i.comps + c))

/-- A gain in units of 2⁻¹²; 1 beyond the data. -/
def Isp.gainAt (i : Isp) (k : Nat) : Exact :=
  if 2 * k + 2 ≤ i.gains.length then .fin false (leAt i.gains (2 * k) 2) 4096 0 else Exact.ofInt 1

/-- A linear interpolation, each product and sum rounded once (R280). -/
def ispLerp (a b f : Exact) : Exact := ((((Exact.ofInt 1).sub f).rn.mul a).rn.add (f.mul b).rn).rn

/-- The grid cell and the fraction of a coordinate on a grid of 17 points over `n` pixels (R280). -/
def gridPoint (v n : Nat) : Nat × Exact :=
  if n ≤ 1 then (0, Exact.zero) else
    let i := min 15 (v * 16 / (n - 1))
    (i, (Exact.fin false (v * 16 - i * (n - 1)) (n - 1) 0).rn)

/-- R280: the gain of a pixel. -/
def Isp.shadingGain (i : Isp) (x y c : Nat) : Exact :=
  if i.shading = 1 then i.gainAt ((i.phase * i.comps + c) * i.width + x)
  else if i.shading = 2 ∧ i.area then
    let base := (i.phase * i.colours + i.colour x y c) * 289
    let gx := gridPoint x i.width
    let gy := gridPoint y i.height
    let at_ (j k : Nat) := i.gainAt (base + 17 * j + k)
    ispLerp (ispLerp (at_ gy.1 gx.1) (at_ gy.1 (gx.1 + 1)) gx.2) (ispLerp (at_ (gy.1 + 1) gx.1) (at_ (gy.1 + 1) (gx.1 + 1)) gx.2) gy.2
  else Exact.ofInt 1

/-- A line after defect replacement and shading, by pixel and component. -/
def Isp.shaded (i : Isp) (rows : List (Bool × List Nat)) (y : Nat) : List Exact :=
  (List.range (i.width * i.comps)).map fun k =>
    let x := k / i.comps
    let c := k % i.comps
    let v := i.repaired rows x y c
    if i.shading = 0 then v else (v.mul (i.shadingGain x y c)).rn

/-! ## Demosaic, colour correction, output (R281 to R284) -/

/-- The pixels of colour c in the window of radius `r`, in row-major order; lines y − 2 to y + 2 are given, one outside the frame empty. -/
def Isp.window (i : Isp) (lines : List (List Exact)) (x y r c : Nat) : List Exact :=
  (List.range (2 * r + 1)).flatMap fun j =>
    let line := lines.getD (2 - r + j) []
    (List.range (2 * r + 1)).filterMap fun k =>
      if x + k < r then none
      else
        let xk := x + k - r
        if line.isEmpty || decide (i.width ≤ xk) || i.colour xk (y + j + 8 - r) 0 != c then none else some (line.getD xk Exact.zero)

/-- A mean summed in the order given and divided once, each step rounded (R281). -/
def roundedMean (vs : List Exact) : Exact :=
  ((vs.foldl (fun a v => (a.add v).rn) Exact.zero).div (Exact.ofInt vs.length)).rn

/-- R281: demosaic output c of a pixel. -/
def Isp.demosaic (i : Isp) (lines : List (List Exact)) (x y c : Nat) : Exact :=
  if i.mosaic = 0 then (lines.getD 2 []).getD (x * i.comps + c) Exact.zero
  else if i.colour x y 0 = c then (lines.getD 2 []).getD x Exact.zero
  else match i.window lines x y 1 c with
    | [] => roundedMean (i.window lines x y 2 c)
    | vs => roundedMean vs

/-- REAL32 number k of the colour matrix (R282). -/
def Isp.coefficient (i : Isp) (k : Nat) : Exact := num32 (leAt i.matrix (4 * k) 4)

/-- R282: output channel k of a pixel. -/
def Isp.corrected (i : Isp) (ins : List Exact) (k : Nat) : Exact :=
  (ins.mapIdx fun j v => (j, v)).foldl (fun acc e => (acc.add ((i.coefficient (4 * k + e.1)).mul e.2).rn).rn) (i.coefficient (16 + k))

/-- The five lines around y after shading, one outside the frame empty. -/
def Isp.around (i : Isp) (rows : List (Bool × List Nat)) (y : Nat) : List (List Exact) :=
  if i.mosaic = 0 then [[], [], i.shaded rows y, [], []]
  else (List.range 5).map fun j => if y + j < 2 ∨ i.height ≤ y + j - 2 then [] else i.shaded rows (y + j - 2)

/-- R281, R282: the colour-corrected pixels of line y. -/
def Isp.pixels (i : Isp) (rows : List (Bool × List Nat)) (y : Nat) : List (List Exact) :=
  let lines := i.around rows y
  (List.range i.width).map fun x =>
    let ins := (List.range i.colours).map fun c => i.demosaic lines x y c
    (List.range i.outs).map fun k => i.corrected ins k

/-- R284: a value in the output format. -/
def Isp.output (i : Isp) (v : Exact) : Enc :=
  let p := v.mul (num32 i.gain)
  match floatOf i.format with
  | some f => f.narrow p
  | none => narrowInt (intWidth i.format) p

/-! ## Statistics (R293, R294) -/

/-- binary64. -/
def fp64 : FloatFmt := ⟨64, 52, 1023, 0x7FEFFFFFFFFFFFFF, some 0x7FF0000000000000, some 0x7FF8000000000000⟩

/-- A binary64 addition, rounded to nearest, ties to even. -/
def add64 (a : BitVec 64) (v : Exact) : BitVec 64 := BitVec.ofNat 64 (fp64.ieee ((fp64.decode a.toNat).add v))

/-- The bounds of reference zone z, where it is defined. -/
def Isp.zone (i : Isp) (z : Nat) : Option (Nat × Nat) :=
  let lo := leAt i.zones (4 * z) 2
  let hi := leAt i.zones (4 * z + 2) 2
  if 4 * z + 4 ≤ i.zones.length ∧ lo < hi then some (lo, hi) else none

/-- The histogram bin of a value; that of a NaN is free. -/
def Isp.bin (i : Isp) (v : Exact) : Nat :=
  match (v.mul (Exact.ofInt 256)).div (num32 i.range) with
  | .fin s m d e => if s then 0 else let p := scaled m e; min 255 (p.1 / (d * p.2))
  | .inf s => if s then 0 else 255
  | .nan => pattern 8 (Config.free 52 0 [])

/-- The larger of two patterns by value. -/
def max32 (a : BitVec 32) (v : Exact) : BitVec 32 :=
  let b := BitVec.ofNat 32 (fp32.ieee v)
  let key (p : BitVec 32) : Int := if p.getLsbD 31 then -(fld p 30 0 : Int) else fld p 30 0
  if key a < key b then b else a

/-- No line yet. -/
def StatAcc_empty (phase tag : Nat) (mixed : Bool) (outs : Nat) : StatAcc :=
  { phase := phase, tag := tag, mixed := mixed, pixels := 0, saturated := 0, defects := 0, sums := List.replicate outs 0,
    maxs := List.replicate outs 0xFF800000, zones := List.replicate 8 (0, 0), hist := [] }

/-- The statistics with one line more: its codes, its colour-corrected pixels, the number of pixels replaced. -/
def StatAcc_add (a : StatAcc) (i : Isp) (codes : List Nat) (px : List (List Exact)) (defects : Nat) : StatAcc :=
  let top := 2 ^ i.depth - 1
  { a with
    pixels := a.pixels + px.length
    saturated := a.saturated
      + ((List.range i.width).filter fun x => (List.range i.comps).any fun c => codes.getD (x * i.comps + c) 0 == top).length
    defects := a.defects + defects
    sums := a.sums.mapIdx fun k v => px.foldl (fun acc p => add64 acc (p.getD k Exact.zero)) v
    maxs := a.maxs.mapIdx fun k v => px.foldl (fun acc p => max32 acc (p.getD k Exact.zero)) v
    zones := a.zones.mapIdx fun z v => match i.zone z with
      | some (lo, hi) => ((px.drop lo).take (hi - lo)).foldl (fun acc p => (add64 acc.1 (p.getD 0 Exact.zero), acc.2 + 1)) v
      | none => v
    hist := px.foldl (fun h p => (p.mapIdx fun k v => 256 * k + i.bin v).foldl (fun h k => put h k ((get? h k).getD 0 + 1)) h) a.hist }

/-- R293: the statistics to which a line of a phase and tag is added: its own, a new one, or from the fourth tag on the mixed one. -/
def addStats (accs : List StatAcc) (phase tag outs : Nat) (f : StatAcc → StatAcc) : List StatAcc :=
  let mine := fun a : StatAcc => a.phase == phase && (a.mixed || a.tag == tag)
  let own := fun a : StatAcc => a.phase == phase && !a.mixed && a.tag == tag
  if accs.any own then accs.map fun a => if own a then f a else a
  else if accs.any mine then accs.map fun a => if mine a then f a else a
  else accs ++ [f (StatAcc_empty phase tag (decide (3 ≤ (accs.filter fun a => a.phase == phase).length)) outs)]

/-- The mean of a sum over a count, in FP32 (R294). -/
def meanBits (sum : BitVec 64) (count : Nat) : Nat := fp32.ieee ((fp64.decode sum.toNat).div (Exact.ofInt count))

/-- Bytes 0 to 125 of a statistics record (R293), with the mean and largest value of no pixel as given; the mean of an undefined zone is 0. -/
def statsBody (i : Isp) (a : StatAcc) (stream flags closeCount number : Nat) (empty : Nat) : Bytes :=
  let mean (k : Nat) := if k < a.sums.length then (if a.pixels = 0 then empty else meanBits (a.sums.getD k 0) a.pixels) else 0
  let top (k : Nat) := if k < a.maxs.length then (if a.pixels = 0 then empty else (a.maxs.getD k 0).toNat) else 0
  let zone (z : Nat) := 
    let e := a.zones.getD z (0, 0)
    if (i.zone z).isNone then 0 else if e.2 = 0 then empty else meanBits e.1 e.2
  let word (k v : Nat) := at_ 32 k v
  let upper := at_ 8 1000 flags ||| at_ 5 995 stream ||| at_ 2 993 a.phase ||| at_ 3 990 a.sums.length ||| at_ 16 960 a.tag
    ||| at_ 64 896 closeCount ||| at_ 64 832 number ||| word 800 a.pixels ||| word 768 a.saturated ||| word 736 a.defects
  let means := (List.range 4).foldl (fun m k => m ||| word (608 + 32 * k) (mean k) ||| word (480 + 32 * k) (top k)) 0
  let zones := (List.range 8).foldl (fun m z => m ||| word (224 + 32 * z) (zone z)) 0
  leBytes 126 (upper ||| means ||| zones)

/-- The histogram that follows a record (R293). -/
def histBytes (a : StatAcc) : Bytes := (List.range (256 * a.sums.length)).flatMap fun k => leBytes 4 ((get? a.hist k).getD 0)

end Sys2Proof.Machine
end

