-- ==== Sys2Proof/Machine/Camera.lean ====
section
/-!
DEFINITION. The camera streams (R266 to R298): discovery, arrival, blank lines and cuts, delivery into the stripes, tags and settings, statistics records, the stale detector.
-/

namespace Sys2Proof.Machine

/-! ## Launch and discovery (R272) -/

/-- The pixel format that a stream's objects call for, as Discovery names it (R271, R274). -/
def State.wantedFormat (s : State) (n : Nat) : Nat :=
  let kind := if s.nat (camObj n 8) = 3 then 2 else if s.nat (camObj n 1) = 1 ∧ s.nat (ispObj n 6) ≠ 0 then 1 else 0
  32 * kind + s.nat (camObj n 7)

/-- The first value in which a camera's answer departs from the stream's objects (R272), by its code in fault 0x0702. -/
def State.discoveryMismatch (s : State) (n width height format connections : Nat) : Option Nat :=
  if width ≠ s.nat (camObj n 5) then some 1
  else if s.nat (camObj n 4) = 1 ∧ height ≠ s.nat (camObj n 6) then some 2
  else if format ≠ s.wantedFormat n then some 3
  else if s.nat (camObj n 1) = 1 ∧ connections ≠ s.nat (camObj n 3) then some 4
  else none

/-- A camera does not start: state 5 and fault 0x0701 (R272). -/
def State.cameraDown (s : State) (n : Fin 24) (why : Nat) : State :=
  (s.modStream n fun x => { x with state := 5 }).fault 0x0701 (.ofUnit n.val) (at_ 8 8 why ||| at_ 8 0 (s.nat (camObj n 2)))

/-- What the front end learns of a camera at the launch (R272). -/
def State.discover (s : State) (n : Fin 24) (d : Discovery) : State :=
  match d with
  | .noLink => s.cameraDown n 1
  | .answer width height format connections rate =>
    match s.discoveryMismatch n width height format connections with
    | some k => (s.modStream n fun x => { x with state := 4, linkRate := rate }).fault 0x0702 (.ofUnit n.val) k
    | none => s.modStream n fun x => { x with state := 2, started := true, linkRate := rate }

/-- The pulse widths of the heads, 0x2C10 to 0x2C1B sub-index 06, which a tag keeps for its lines (R310, R401). -/
def State.headWidths (s : State) : List Nat := (List.range 12).map fun h => s.nat (ob (0x2C10 + h) 6)

/-- The streams at the start of a launch: counts since launch are 0, tiles and triggers numbered from 0, the tag and its settings kept; an enabled stream is discovering (R268, R272, R290). -/
def State.launchStreams (s : State) : State :=
  (idxs 24).foldl (fun acc n =>
    acc.modStream n fun x =>
      { Stream.reset with
        state := if s.nat (camObj n 1) = 0 then 0 else 1
        tag := x.tag
        tags := [⟨x.tag, 0, 0, s.nat (camObj n 0x0F), s.nat (camObj n 0x10), false, s.headWidths⟩]
        ringAt := x.ringAt
        lastClose := s.now }) s

/-! ## Tags and settings (R290 to R292) -/

/-- The oldest tag that is kept. -/
def Stream.firstTag (x : Stream) : TagSet := x.tags.headD ⟨x.tag, 0, 0, 0, 0, false, []⟩

/-- The tag of an exposure that starts at a count (R290). -/
def Stream.tagAt (x : Stream) (start : Nat) : TagSet := ((x.tags.filter fun g => decide (g.commit + g.latency ≤ start)).getLast?).getD x.firstTag

/-- The settings with which a trigger at a count exposes: the delay in force at the trigger gives the exposure start, which the latest commit plus its camera latency does not exceed (R290). -/
def Stream.exposureOf (x : Stream) (trigger : Nat) : TagSet × Nat :=
  let delay := (((x.tags.filter fun g => decide (g.commit ≤ trigger)).getLast?).getD x.firstTag).delay
  (x.tagAt (trigger + delay), trigger + delay)

/-- Whether a key is a tagged object of stream n: its own, or one of a head whose mask names it (R290, R292, R310). -/
def State.tagsStream (s : State) (n : Nat) (key : Key) : Bool :=
  key == camObj n 0x0F || key == camObj n 0x10 || key == camObj n 0x15 ||
    (List.range 12).any fun h => (key == ob (0x2C10 + h) 6 || key == ob (0x2C10 + h) 8) && bit (s.nat (ob (0x2C10 + h) 2)) n

/-- A commit whose values are active gives stream n a new tag where it wrote a tagged object, and its settings block is sent from the commit count on, entry by entry (R290, R292). -/
def State.tagStream (s : State) (keys : List Key) (count : Nat) (n : Fin 24) : State :=
  if keys.any fun k => s.tagsStream n.val k then
    let tag := (s.streams[n].tag + 1) % 2 ^ 16
    let latency := s.nat (camObj n 0x11)
    let s1 := s.modStream n fun x =>
      { x with tag := tag, tags := x.tags ++ [⟨tag, count, latency, s.nat (camObj n 0x0F), s.nat (camObj n 0x10), false, s.headWidths⟩] }
    if keys.contains (camObj n 0x15) && s.streams[n].started then
      let block := s.raw (camObj n 0x15)
      (List.range (block.length / 8)).foldl (fun acc k => acc.emit (.cameraWrite n.val (leAt block (8 * k) 8)))
        (s1.modStream n fun x => { x with settings := x.settings ++ [(tag, count + latency)] })
    else s1
  else s

/-- The tags of every stream after a commit at a count (R290). -/
def State.tagStreams (s : State) (keys : List Key) (count : Nat) : State := (idxs 24).foldl (fun acc n => acc.tagStream keys count n) s

/-- Lines of a tag are flagged unconfirmed from now on (R292, R308). -/
def State.unconfirmTag (s : State) (n : Fin 24) (tag : Nat) : State :=
  s.modStream n fun x => { x with tags := x.tags.map fun g => if g.tag = tag then { g with unconfirmed := true } else g }

/-- A settings write that is not acknowledged at its deadline: fault 0x0708, and the tag is unconfirmed; blocks due earlier were acknowledged (R292). -/
def State.settingsTimeout (s : State) (n : Fin 24) (entry : Nat) : State :=
  match (s.streams[n].settings.filter fun e => decide (e.2 ≤ s.now)).getLast? with
  | none => s
  | some (tag, _) =>
    ((s.unconfirmTag n tag).modStream n fun x => { x with settings := x.settings.filter fun e => decide (s.now < e.2) }).fault
      0x0708 (.ofUnit n.val) (at_ 8 16 entry ||| at_ 16 0 tag)

/-! ## Delivery (R285) -/

/-- The stripes of a stream in the running image (R285). -/
def State.stripes (s : State) (n : Nat) : List Stripe :=
  match s.launch.image with
  | some im => match im.streams.find? fun e => e.stream.val == n with
    | some e => e.stripes
    | none => []
  | none => []

/-- Line `number` is written into its slot of each stripe's ring: output codes by pixel and channel, or zeros for a blank line (R285, R286). -/
def State.putLine (s : State) (n : Nat) (i : Isp) (number : Nat) (line : Option (List (List Nat))) : State :=
  (s.stripes n).foldl (fun acc e =>
    let codes := match line with
      | some px => ((px.drop e.x0).take e.width).flatten
      | none => List.replicate (e.width * i.outs) 0
    let bytes := packElems i.format codes
    let place : MemRef := ⟨2, e.region.val, e.block.val, e.base + number % (max 1 e.ringLines) * e.stride⟩
    if place.inside bytes.length then acc.store place bytes else acc) s

/-- `count` blank lines from `number` on; a ring holds no more than its slots (R286, R288). -/
def State.putBlanks (s : State) (n : Fin 24) (i : Isp) (number count : Nat) : State :=
  let slots := ((s.stripes n.val).map fun e => e.ringLines).foldl max 1
  ((List.range (min count slots)).foldl (fun acc k => acc.putLine n.val i (number + (count - min count slots) + k) none) s).modStream n
    fun x => { x with blanked := (x.blanked + count) % 2 ^ 64 }

/-! ## Statistics records (R293, R294) -/

/-- One record with its histogram enters the stream's ring; a head that refers to the zone collects its mean unless the record is flagged incomplete, unconfirmed or mixed (R293, R308). -/
def State.writeStats (s : State) (n : Fin 24) (i : Isp) (closeCount number : Nat) (incomplete : Bool) (a : StatAcc) : State :=
  let mode := s.nat (ispObj n 0x0C)
  let hist := bit mode 1
  let unconfirmed := s.streams[n].tags.any fun g => g.tag == a.tag && g.unconfirmed
  let flags := b2n incomplete ||| at_ 1 1 (b2n unconfirmed) ||| at_ 1 2 (b2n i.area) ||| at_ 1 3 (b2n hist) ||| at_ 1 4 (b2n a.mixed)
  let empty := s.drawNat 50 32 [n.val, number]
  let s0 := if a.pixels = 0 then empty.2 else s
  let body := statsBody i a n.val flags closeCount number empty.1
  let bytes := body ++ leBytes 2 (crc16 body) ++ (if hist then histBytes a else [])
  let ring := s.nat (ispObj n 0x0F)
  let place := rmemAt (bits ring 63 56) (bits ring 31 0 + s.streams[n].ringAt * (128 + if hist then 1024 * i.outs else 0))
  let s1 := if place.inside bytes.length then s0.store place bytes else s0
  let s2 := s1.modStream n fun x =>
    { x with records := (x.records + 1) % 2 ^ 32, ringAt := (x.ringAt + 1) % (max 1 (s.nat (ispObj n 0x10))) }
  if incomplete || unconfirmed || a.mixed then s2
  else (idxs 12).foldl (fun acc (h : Fin 12) =>
    if s.nat (ob (0x2C10 + h) 1) ≠ 0 ∧ s.nat (ob (0x2C10 + h) 4) = n.val ∧ s.nat (ob (0x2C10 + h) 3) = a.phase then
      acc.modHead h fun x => { x with means := x.means ++ [BitVec.ofNat 32 (leAt body (28 + 4 * s.nat (ob (0x2C10 + h) 5)) 4)] }
    else acc) s2

/-- The statistics records of a tile (line-scan) or frame (area): each phase in turn, one per tag; a phase without a line has one of no pixel (R293). -/
def State.closeStats (s : State) (n : Fin 24) (i : Isp) (phases : List Nat) (closeCount number : Nat) (incomplete : Bool) : State :=
  let accs := s.streams[n].stats
  let s1 := if !bit (s.nat (ispObj n 0x0C)) 0 then s
    else phases.foldl (fun acc p =>
      let own := accs.filter fun a => a.phase == p
      (if own.isEmpty then [StatAcc_empty p s.streams[n].tag false i.outs] else own).foldl
        (fun acc a => acc.writeStats n i closeCount number incomplete a) acc) s
  s1.modStream n fun x => { x with stats := [] }

/-! ## Tiles (R32, R268, R286 to R288) -/

/-- An image whose stripe of a stream has moved to another block (R483, R484). -/
def Image.moveStripe (im : Image) (m : StripeMove) : Image :=
  { im with streams := im.streams.map fun x => if x.stream = m.stream then
      { x with stripes := x.stripes.map fun p => if p.region = m.region ∧ p.block = m.block then { p with region := m.toRegion, block := m.toBlock } else p }
    else x }

/-- The selvedge channels of a stream's stripe go with it: entries received, entries to be sent, and what is outstanding (R228, R483, R484). -/
def State.moveChannels (s : State) (m : StripeMove) : State :=
  let mine (h : BitVec 64) : Bool := selStream h == m.stream.val
  let x := s.block m.region m.block
  (s.modBlock m.toRegion m.toBlock fun y =>
    { y with
      selLeft := y.selLeft ++ x.selLeft.filter fun e => mine e.header
      selRight := y.selRight ++ x.selRight.filter fun e => mine e.header
      selOut := y.selOut ++ x.selOut.filter fun e => mine e.header
      outLeft := x.outLeft, outRight := x.outRight, lead := x.lead }).modBlock m.region m.block fun y =>
    { y with
      selLeft := y.selLeft.filter fun e => !mine e.header
      selRight := y.selRight.filter fun e => !mine e.header
      selOut := y.selOut.filter fun e => !mine e.header
      outLeft := 0, outRight := 0 }

/-- At a tile boundary of stream n its stripes go where the work they belong to has gone, with their selvedge channels (R483, R484). -/
def State.applyMoves (s : State) (n : Fin 24) : State :=
  let due := s.service.moves.filter fun m => m.stream = n
  if due.isEmpty then s
  else
    (due.foldl State.moveChannels (s.modService fun v => { v with moves := v.moves.filter fun m => m.stream ≠ n })).modLaunch fun l =>
      { l with image := l.image.map fun im => due.foldl Image.moveStripe im }

/-- A tile closes: its close count is stamped, it counts as incomplete where a line of it is blank (R32, R287); the pixel rate is that of the lines that arrived since the previous close; stripes that move go to their new blocks (R483, R484). -/
def State.closeTile (s : State) (n : Fin 24) (tile closeCount lines : Nat) (incomplete : Bool) (pixels : Nat) : State :=
  ((s.modStream n fun x =>
    { x with
      closes := x.closes ++ [(tile, closeCount, lines, incomplete)]
      incomplete := (x.incomplete + b2n incomplete) % 2 ^ 32
      tileOpen := false
      tileBlanks := 0
      pixelRate := if x.lastClose < closeCount then min 65535 (pixels * 1000 / (closeCount - x.lastClose)) else x.pixelRate
      lastClose := closeCount }).emit (.tileClosed n.val tile closeCount lines)).applyMoves n

/-- Non-blank pixels of the tile or frame under way. -/
def Stream.pixelCount (x : Stream) : Nat := (x.stats.map fun a => a.pixels).foldl (· + ·) 0

/-- A cut begins: fault 0x0703 with the first blank line's trigger number, the lines blanked and the cause (R286, R287). -/
def State.beginCut (s : State) (n : Fin 24) (cause trigger tileLine lines : Nat) : State :=
  (s.modStream n fun x => { x with cut := some cause, cutLine := tileLine }).fault 0x0703 (.ofUnit n.val)
    (at_ 32 32 trigger ||| at_ 8 16 cause ||| at_ 16 0 lines)

/-- A line-scan tile closes with its statistics (R287, R293). -/
def State.closeLineTile (s : State) (n : Fin 24) (closeCount : Nat) : State :=
  let x := s.streams[n]
  let incomplete := x.cut.isSome || decide (0 < x.tileBlanks)
  let lines := if x.cut.isSome then x.cutLine else 1024
  let s1 := s.closeTile n x.tile closeCount lines incomplete x.pixelCount
  s1.closeStats n (s.isp n 0) (List.range (s.nat (camObj n 9))) closeCount x.tile incomplete

/-- The tile of a line-scan trigger number opens (R268); a cut ends at a tile boundary, but for a stale stream (R288). -/
def State.openTile (s : State) (n : Fin 24) (number : Nat) : State :=
  let x := s.streams[n]
  if x.tileOpen ∧ x.tile = number / 1024 ∨ !x.tileOpen ∧ number % 1024 ≠ 0 ∧ x.tile = number / 1024 then s
  else s.modStream n fun x =>
    { x with
      tile := number / 1024
      tileOpen := x.state != 3
      tileBlanks := 0
      cutLine := 0
      stats := []
      cut := if x.state = 3 then some 6 else none }

/-! ## Frames (R268, R288) -/

/-- Tiles of a frame (R268). -/
def Isp.tiles (i : Isp) : Nat := divUp i.height 1024

/-- The lines of tile j of a frame (R268). -/
def Isp.tileLines (i : Isp) (j : Nat) : Nat := min 1024 (i.height - 1024 * j)

/-- Line y of the frame under way passes the pipeline into its stripes and statistics, or is blank (R276, R285, R286). -/
def State.deliverRow (s : State) (n : Fin 24) (i : Isp) (y : Nat) (codes : List Nat) : State :=
  let x := s.streams[n]
  let number := if i.area then x.frame.1 * i.height + y else x.frame.1
  if (x.rows.getD y (true, [])).1 then s.putBlanks n i number 1
  else
    let px := i.pixels x.rows y
    let defects := ((List.range i.width).filter fun k => (List.range i.comps).any fun c => i.replaces x.rows k y c).length
    let tag := (x.exposureOf x.frame.2).1.tag
    let encs := px.map fun p => p.map i.output
    ((s.putLine n.val i number (some (encs.map fun p => p.map Enc.code))).countSat (encs.flatten.map Enc.sat).sum).modStream n fun x =>
      { x with stats := addStats x.stats i.phase tag i.outs fun a => StatAcc_add a i codes px defects }

/-- How many lines after its own a line of a frame needs: two for demosaic, a mosaic period where a defect may be replaced from below (R278, R281). -/
def Isp.reach (i : Isp) : Nat :=
  if !i.area then 0
  else (if i.mosaic = 0 then 0 else 2) + (if i.defects.isEmpty ∧ i.threshold = 0 then 0 else i.period)

/-- The codes of a stored line with its black level added back, for the saturation count (R293). -/
def Isp.codesOf (i : Isp) (y : Nat) (row : List Nat) : List Nat :=
  let positions := if i.mosaic = 0 then i.comps else i.period * i.period
  row.mapIdx fun k v => v + leAt i.black (2 * (i.phase * positions + i.position (k / i.comps) y (k % i.comps))) 2

/-- The lines of the frame under way from the next undelivered one up to line `upTo` are delivered. -/
def State.deliverRows (s : State) (n : Fin 24) (i : Isp) (upTo : Nat) : State :=
  let from_ := s.streams[n].rowsDone
  ((List.range (upTo - from_)).foldl (fun acc k =>
    acc.deliverRow n i (from_ + k) (i.codesOf (from_ + k) (s.streams[n].rows.getD (from_ + k) (true, [])).2)) s).modStream n
    fun x => { x with rowsDone := max x.rowsDone upTo }

/-- A line of unstated content in a window of its neighbours: free values (R278, R281 give none for a blank line). -/
def State.freeLine (s : State) (i : Isp) (y : Nat) : (Bool × List Nat) × State :=
  ((true, (List.range i.width).map fun k => pattern i.depth (Config.free 51 s.service.entropy [y, k])),
   s.modService fun v => { v with entropy := v.entropy + 1 })

/-- A frame is cut from line y on: the lines before it are delivered, the others are blank at once, and every remaining tile closes now (R286, R288). -/
def State.cutFrame (s : State) (n : Fin 24) (i : Isp) (cause y : Nat) : State :=
  let f := s.streams[n].frame.1
  let s1 := (List.range i.reach).foldl (fun acc k =>
    let r := acc.freeLine i (y + k)
    r.2.modStream n fun x => { x with rows := x.rows ++ [r.1] }) s
  let s2 := ((s1.deliverRows n i y).putBlanks n i (f * i.height + y) (i.height - y)).beginCut n cause f (y % 1024) (i.height - y)
  let s3 := (List.range (i.tiles - y / 1024)).foldl (fun acc k =>
    acc.closeTile n (f * i.tiles + y / 1024 + k) s.now (if k = 0 then y % 1024 else 0) true (if k = 0 then s2.streams[n].pixelCount else 0)) s2
  (s3.closeStats n i [i.phase] s.now f true).modStream n fun x => { x with rows := [] }

/-- A frame begins (R268): a cut ends where its first line arrives intact and the stream is not stale (R288). -/
def State.openFrame (s : State) (n : Fin 24) (i : Isp) (trigger : Nat × Nat) (intact : Bool) : State :=
  s.modStream n fun x =>
    { x with
      frame := trigger
      tile := trigger.1 * i.tiles
      tileOpen := true
      tileBlanks := 0
      frameBad := false
      stats := []
      rows := []
      rowsDone := 0
      hashRun := []
      cut := if x.state = 3 then some 6 else if intact then none else x.cut }

/-! ## The stale detector (R295 to R297) -/

/-- The Crust's frozen count of a stream, of its kind (R374). -/
def State.frozenLimit (s : State) (n : Nat) : Nat :=
  if s.nat (camObj n 4) = 1 then s.nat (crustStream n 6) else s.nat (crustStream n 1)

/-- R296: the stream takes state 3; without a reaction fault 0x0705 records it, else the Crust's record alone (R297, R374); the current tile or frame is cut for cause 6, its blank lines written and its tiles closed at once (R286, R288). `row` is the next line of the frame under way, if one is. -/
def State.goStale (s : State) (n : Fin 24) (which : Nat) (row : Option Nat) : State :=
  let x := s.streams[n]
  if x.state = 3 then s
  else
    let level := s.causeLevel 9 (some n)
    let s1 := s.modStream n fun x => { x with state := 3, clean := 0, frozen := 0, latched := decide (level ≠ 0) }
    let s2 := if level = 0 then s1.fault 0x0705 (.ofUnit n.val) which
      else s1.reactAt level 9 0x0705 (BitVec.ofNat 16 (s.nat (crustStream n.val 5))) (1 <<< n.val)
    if s.nat (camObj n 4) = 1 then
      let i := s.isp n (x.frame.1 % (max 1 (s.nat (camObj n 9))))
      match row with
      | some y => if x.cut.isNone then s2.cutFrame n i 6 y else s2.modStream n fun x => { x with cut := some 6 }
      | none => s2.modStream n fun x => { x with cut := some 6 }
    else
      let next := match x.triggers with
        | (k, _) :: _ => k
        | [] => x.nextTrigger
      let s3 := if !x.tileOpen && !x.triggers.isEmpty then (s2.openTile n next).modStream n fun x => { x with tileOpen := true, cut := none } else s2
      if s3.streams[n].tileOpen then
        let rest := 1024 * (s3.streams[n].tile + 1) - next
        let s4 := if s3.streams[n].cut.isNone then s3.beginCut n 6 next (next % 1024) rest else s3
        ((s4.putBlanks n (s.isp n 0) next rest).closeLineTile n s.now).modStream n fun x => { x with cut := some 6 }
      else s3.modStream n fun x => { x with cut := some 6 }

/-- R295, R296: the checks of one complete line or frame: whether its counter advanced and whether its hash equals the last of its phase. A stale stream counts clean ones and recovers; another may become stale. -/
def State.staleCheck (s : State) (n : Fin 24) (advanced equal : Bool) : State :=
  if s.streams[n].state = 3 then
    let s1 := s.modStream n fun x => { x with clean := if advanced && !equal then x.clean + 1 else 0 }
    if !s1.streams[n].latched && s1.streamClean n then s1.recoverStream n else s1
  else
    let s1 := s.modStream n fun x => { x with frozen := if equal then x.frozen + 1 else 0 }
    if s.frozenLimit n.val ≤ s1.streams[n].frozen then s1.goStale n 1 none
    else if !advanced then s1.goStale n 2 none
    else s1

/-- How the camera's counter moved (R286, R295): 0 not at all, 1 by one or unknown, 2 a skip; a CSI-2 camera that sends frame number 0 is not checked. -/
def State.counterStep (s : State) (n : Fin 24) (l : CamLine) : Nat :=
  match s.streams[n].counter with
  | none => 1
  | some last =>
    if s.nat (camObj n 1) = 2 ∧ l.counter = 0 then 1
    else
      let d := (l.counter + 2 ^ l.counterBits - last % 2 ^ l.counterBits) % 2 ^ l.counterBits
      if d = 0 then 0 else if d = 1 then 1 else 2

/-- The raw bytes of a line, whose components are packed at their depth. -/
def rawBytes (depth : Nat) (codes : List Nat) : Bytes := leBytes (divUp (codes.length * depth) 8) (packBits depth codes)

/-! ## Arrival (R276, R286 to R289) -/

/-- A line that no trigger awaits is discarded and counted (R289). -/
def State.extraLine (s : State) (n : Fin 24) : State :=
  let count := (s.streams[n].extra + 1) % 2 ^ 32
  (s.modStream n fun x => { x with extra := count }).fault 0x0707 (.ofUnit n.val) count

/-- The lowest-numbered cause for which an arriving line is blanked (R286), 0 for none. -/
def CamLine_cause (l : CamLine) (late gap : Bool) (error : Nat) : Nat :=
  if l.inputFull then 1 else if l.creditMissing then 2 else if late then 3 else if gap then 4 else if error ≠ 0 then 5 else 0

/-- R286, R287: a line with an error: fault 0x0704, and the rest is cut once the limit of the tile is exceeded. -/
def State.countLineError (s : State) (n : Fin 24) (trigger error : Nat) : State :=
  (s.modStream n fun x => { x with tileBlanks := x.tileBlanks + 1 }).fault 0x0704 (.ofUnit n.val) (at_ 32 32 trigger ||| at_ 8 0 error)

/-- The error of a line: its own, or 3 where its length differs from the width (R286). -/
def Isp.lineError (i : Isp) (l : CamLine) : Nat := if l.error ≠ 0 then l.error else if l.samples.length ≠ i.width * i.comps then 3 else 0

/-- A line-scan line that belongs to a trigger is delivered or blanked, and the last line of its tile closes it (R285 to R288). -/
def State.takeLine (s : State) (n : Fin 24) (i : Isp) (trigger count : Nat) (l : CamLine) (gap : Bool) : State :=
  let s0 := s.openTile n trigger
  if s0.streams[n].cut = some 6 then s0 else
  let offset := s.nat (camObj n 0x12)
  let error := i.lineError l
  let cause := CamLine_cause l (decide (count + offset + s.nat (camObj n 0x13) < s.now)) gap error
  let rest := 1024 - trigger % 1024
  let s1 := if s0.streams[n].cut.isSome ∨ cause = 0 then s0
    else if cause ≠ 5 then s0.beginCut n cause trigger (trigger % 1024) rest
    else
      let s' := s0.countLineError n trigger error
      if s.nat (camObj n 0x14) < s'.streams[n].tileBlanks then s'.beginCut n 5 trigger (trigger % 1024) rest else s'
  let isCut := s1.streams[n].cut.isSome
  let s2 := if isCut ∨ cause ≠ 0 then s1.putBlanks n i trigger 1
    else (s1.modStream n fun x => { x with frame := (trigger, count), rows := [(false, i.blackLevel 0 l.samples)] }).deliverRow n i 0 l.samples
  if trigger % 1024 = 1023 then s2.closeLineTile n (if isCut then count + offset else s.now) else s2

/-- R276: a line-scan line arrives. -/
def State.lineArrives (s : State) (n : Fin 24) (l : CamLine) : State :=
  match s.streams[n].triggers with
  | [] => s.extraLine n
  | (trigger, count) :: rest =>
    let phase := trigger % (max 1 (s.nat (camObj n 9)))
    let i := s.isp n phase
    let step := s.counterStep n l
    let hash := crc32 (rawBytes i.depth l.samples)
    let equal := get? s.streams[n].hashes phase == some hash
    let s1 := (s.countChip 8 1).modStream n fun x =>
      { x with received := (x.received + 1) % 2 ^ 64, lastLine := trigger, missedAt := none, counter := some l.counter, hashes := put x.hashes phase hash }
    let s2 := s1.staleCheck n (step != 0) equal
    let s3 := s2.modStream n fun x => { x with triggers := rest }
    if s3.streams[n].state = 3 then s3.openTile n trigger else s3.takeLine n i trigger count l (step == 2)

/-- A line of the frame under way is taken: cut, blank or stored, and the lines that it completes are delivered (R281, R285 to R288). -/
def State.takeRow (s : State) (n : Fin 24) (i : Isp) (y : Nat) (l : CamLine) (gap : Bool) : State :=
  let x := s.streams[n]
  if x.cut.isSome then s
  else
    let error := i.lineError l
    let late := decide (x.frame.2 + s.nat (camObj n 0x12) + s.nat (camObj n 0x13) < s.now)
    let cause := CamLine_cause l late gap error
    let s1 := if cause = 5 then s.countLineError n x.frame.1 error else s
    if cause ≠ 0 ∧ cause ≠ 5 ∨ cause = 5 ∧ s.nat (camObj n 0x14) < s1.streams[n].tileBlanks then s1.cutFrame n i cause y
    else
      let r := if cause = 5 then s1.freeLine i y else ((false, i.blackLevel y l.samples), s1)
      let s2 := r.2.modStream n fun x => { x with rows := x.rows ++ [r.1], frameBad := x.frameBad || cause == 5 }
      let s3 := s2.deliverRows n i (if y + 1 = i.height then i.height else y + 1 - i.reach)
      let s4 := if (y + 1) % 1024 = 0 ∨ y + 1 = i.height then
          s3.closeTile n (x.frame.1 * i.tiles + y / 1024) s.now (i.tileLines (y / 1024)) (decide (0 < s3.streams[n].tileBlanks)) s3.streams[n].pixelCount
        else s3
      if y + 1 = i.height then
        (s4.closeStats n i [i.phase] s.now x.frame.1 s4.streams[n].frameBad).modStream n fun x => { x with rows := [] }
      else s4

/-- The last line of a frame that enters its CRC-32: lines 0, 16, 32 and on (R295). -/
def Isp.lastHashed (i : Isp) : Nat := (i.height - 1) / 16 * 16

/-- R276, R295: line y of the frame under way arrives. -/
def State.rowArrives (s : State) (n : Fin 24) (i : Isp) (y : Nat) (l : CamLine) (step : Nat) : State :=
  let s1 := (s.countChip 8 1).modStream n fun x =>
    { x with
      received := (x.received + 1) % 2 ^ 64
      lastLine := x.frame.1
      counter := some l.counter
      hashRun := if y % 16 = 0 then x.hashRun ++ rawBytes i.depth l.samples else x.hashRun
      lineOfFrame := if y + 1 = i.height then 0 else y + 1
      missedAt := if y + 1 = i.height then none else x.missedAt
      advanced := if y = 0 then step != 0 else x.advanced }
  let wasStale := s.streams[n].state == 3
  let hash := crc32 s1.streams[n].hashRun
  let equal := y == i.lastHashed && get? s.streams[n].hashes i.phase == some hash
  let s2 := if y = i.lastHashed then
      s1.modStream n fun x =>
        { x with
          hashes := put x.hashes i.phase hash
          advanced := x.advanced && !equal
          frozen := if wasStale then x.frozen else if equal then x.frozen + 1 else 0 }
    else s1
  let s3 := if wasStale then s2
    else if y = 0 ∧ step = 0 then s2.goStale n 2 (some y)
    else if equal ∧ s.frozenLimit n.val ≤ s2.streams[n].frozen then s2.goStale n 1 (some y)
    else s2
  let s4 := if s3.streams[n].state = 3 then s3 else s3.takeRow n i y l (y == 0 && step == 2)
  if wasStale ∧ y + 1 = i.height then s4.staleCheck n s4.streams[n].advanced false else s4

/-- R276: a line of an area frame arrives: it goes on the frame under way, whose counter it carries, or begins the frame of the oldest outstanding trigger; a frame left unfinished is cut as late. -/
def State.frameLineArrives (s : State) (n : Fin 24) (l : CamLine) : State :=
  let x := s.streams[n]
  let phases := max 1 (s.nat (camObj n 9))
  if x.lineOfFrame ≠ 0 ∧ x.counter = some l.counter then s.rowArrives n (s.isp n (x.frame.1 % phases)) x.lineOfFrame l 1
  else
    let s0 := if x.lineOfFrame ≠ 0 ∧ x.cut.isNone then s.cutFrame n (s.isp n (x.frame.1 % phases)) 3 x.lineOfFrame else s
    match x.triggers with
    | [] => (s0.modStream n fun x => { x with lineOfFrame := 0 }).extraLine n
    | e :: rest =>
      let i := s.isp n (e.1 % phases)
      let s1 := (s0.modStream n fun x => { x with triggers := rest }).openFrame n i e (i.lineError l == 0)
      s1.rowArrives n i 0 l (s.counterStep n l)

/-- A line arrives from a camera that has started (R272, R276). -/
def State.cameraLine (s : State) (n : Fin 24) (l : CamLine) : State :=
  if !s.streams[n].started then s
  else if s.nat (camObj n 4) = 1 then s.frameLineArrives n l
  else s.lineArrives n l

/-! ## Late lines and silence (R286, R295) -/

/-- A missed nominal arrival is remembered until a line or frame completes (R295). -/
def State.missed (s : State) (n : Fin 24) (nominal : Nat) : State :=
  s.modStream n fun x => { x with missedAt := some (x.missedAt.getD nominal) }

/-- The oldest outstanding line-scan line is late: it is blank, and the rest of its tile is cut (R286 to R288); in a stale stream it breaks the run of clean lines. -/
def State.lateLine (s : State) (n : Fin 24) (trigger count : Nat) : State :=
  let offset := s.nat (camObj n 0x12)
  let s0 := (s.missed n (count + offset)).openTile n trigger
  let s1 := s0.modStream n fun x => { x with triggers := x.triggers.drop 1 }
  if s1.streams[n].state = 3 then s1.modStream n fun x => { x with clean := 0 }
  else if s1.streams[n].cut = some 6 then s1
  else
    let s2 := if s1.streams[n].cut.isSome then s1 else s1.beginCut n 3 trigger (trigger % 1024) (1024 - trigger % 1024)
    let s3 := s2.putBlanks n (s.isp n 0) trigger 1
    if trigger % 1024 = 1023 then s3.closeLineTile n (count + offset) else s3

/-- R286: a line or frame not complete at its trigger count plus arrival offset plus late limit. -/
def State.judgeLate (s : State) (n : Fin 24) : State :=
  let x := s.streams[n]
  let offset := s.nat (camObj n 0x12)
  let late (count : Nat) : Bool := decide (count + offset + s.nat (camObj n 0x13) ≤ s.now)
  let phases := max 1 (s.nat (camObj n 9))
  if s.nat (camObj n 4) = 1 ∧ x.lineOfFrame ≠ 0 ∧ x.cut.isNone ∧ late x.frame.2 then
    (s.missed n (x.frame.2 + offset)).cutFrame n (s.isp n (x.frame.1 % phases)) 3 x.lineOfFrame
  else match x.triggers with
    | [] => s
    | e :: rest =>
      if !late e.2 then s
      else if s.nat (camObj n 4) = 1 then
        let s1 := (s.missed n (e.2 + offset)).modStream n fun x => { x with triggers := rest }
        if x.state = 3 then s1.modStream n fun x => { x with clean := 0 }
        else
          let i := s.isp n (e.1 % phases)
          ((s1.openFrame n i e true).cutFrame n i 3 0).modStream n fun x => { x with lineOfFrame := 0 }
      else s.lateLine n e.1 e.2

/-- The count from which a stream has been silent: its oldest nominal arrival without a complete line or frame; the launch count for one that did not start (R295). -/
def State.silentSince (s : State) (n : Fin 24) : Option Nat :=
  let x := s.streams[n]
  if x.state = 4 ∨ x.state = 5 then s.launch.run.map fun r => r.start
  else match x.missedAt, x.triggers with
    | some t, _ => some t
    | none, (_, c) :: _ => some ((if x.lineOfFrame ≠ 0 then min x.frame.2 c else c) + s.nat (camObj n 0x12))
    | none, [] => if x.lineOfFrame ≠ 0 then some (x.frame.2 + s.nat (camObj n 0x12)) else none

/-- R295: no line or frame completes within the silence limit. -/
def State.judgeSilence (s : State) (n : Fin 24) : State :=
  match s.silentSince n with
  | some t => if t + 1000 * s.nat (crustStream n 2) ≤ s.now ∧ s.streams[n].state ≠ 0 then s.goStale n 3 (if s.streams[n].lineOfFrame = 0 then none else some s.streams[n].lineOfFrame) else s
  | none => s

/-- At a release count every line of a cut whose time has passed is blanked, so that its tile closes (R288). -/
def State.sweepCuts (s : State) : State :=
  (idxs 24).foldl (fun acc (n : Fin 24) =>
    if acc.nat (camObj n 4) = 0 ∧ acc.streams[n].cut.isSome then
      (List.range acc.streams[n].triggers.length).foldl (fun acc _ => acc.judgeLate n) acc
    else acc) s

/-! ## Triggers (R268, R289) -/

/-- A camera trigger is issued for stream n at a count (R268). -/
def State.issueTrigger (s : State) (n : Fin 24) (count : Nat) : State :=
  s.modStream n fun x => { x with triggers := x.triggers ++ [(x.nextTrigger, count)], nextTrigger := x.nextTrigger + 1 }

/-! ## Camera registers (R292, R298) -/

/-- 0x2801:01: one camera register is read or written, and 0x2801:02 holds the error code and the value; a stream whose camera has not started has no camera to answer. -/
def State.cameraRegister (s : State) (request : Bytes) (error : Nat) (answer : Bytes) : State :=
  let n := leAt request 0 1
  let op := leAt request 1 1
  let respond (s : State) (code : Nat) (value : Bytes) : State := s.setObj (ob 0x2801 2) (.bytes (leBytes 4 code ++ value))
  if h : n < 24 then
    if !s.streams[(⟨n, h⟩ : Fin 24)].started then respond s 0x08000022 []
    else if op = 1 then respond s error (if error = 0 then (padTo 4 (answer.take 4)).take 4 else [])
    else if op = 2 then respond (s.emit (.cameraWrite n (leAt request 2 8))) error []
    else respond s 0x06090030 []
  else respond s 0x06090030 []

/-! ## The commands -/

/-- R272: a camera that is still discovering has not answered within 500 ms. -/
def execCameraDiscoveryTimeout (t : Nat) (stream : Fin 24) (s : State) : Host.Outcome State Fault Refusal :=
  let s := s.advance t
  .next (if s.streams[stream].state = 1 then s.cameraDown stream 2 else s)

/-- R276. -/
def execCameraLineReceived (t : Nat) (stream : Fin 24) (line : CamLine) (s : State) : Host.Outcome State Fault Refusal :=
  .next ((s.advance t).cameraLine stream line)

/-- R286. -/
def execLineLate (t : Nat) (stream : Fin 24) (s : State) : Host.Outcome State Fault Refusal := .next ((s.advance t).judgeLate stream)

/-- R295. -/
def execStreamSilent (t : Nat) (stream : Fin 24) (s : State) : Host.Outcome State Fault Refusal := .next ((s.advance t).judgeSilence stream)

/-- R292. -/
def execCameraSettingsTimeout (t : Nat) (stream : Fin 24) (entry : Nat) (s : State) : Host.Outcome State Fault Refusal :=
  .next ((s.advance t).settingsTimeout stream entry)

/-- R271: event packets and device-to-host trigger packets are ignored and counted; the manual names no object for the count. -/
def execCoaxpressEventPacket (t : Nat) (conn : Fin 32) (s : State) : Host.Outcome State Fault Refusal :=
  .next ((s.advance t).modService fun v => { v with ignoredPackets := upd v.ignoredPackets conn (· + 1) })

end Sys2Proof.Machine
end

