-- ==== Sys2Proof/Machine/Can.lean ====
section
/-!
DEFINITION. The CAN controllers (R403 to R413) and time-triggered CAN (R414 to R419).
-/

namespace Sys2Proof.Machine

/-- Objects of a controller. -/
def canObj (c sub : Nat) : Key := ob (0x2310 + c) sub
def ttObj (c sub : Nat) : Key := ob (0x2320 + c) sub
def canStat (c sub : Nat) : Key := ob (0x2380 + c) sub

/-- Controllers 0 and 1 as controllers. -/
def ttCtl (c : Fin 2) : Fin 4 := ⟨c.val, by omega⟩

/-! ## Controllers (R403 to R413) -/

/-- Whether a controller serves its bus: enabled and in an operating mode other than off (R403, R420). -/
def State.canOn (s : State) (c : Fin 4) : Bool := s.flag (canObj c.val 1) && s.can[c].mode != 0

/-- 0x2380:01. -/
def State.canState (s : State) (c : Fin 4) : Nat :=
  if !s.canOn c then 0 else if s.can[c].mode = 2 ∧ s.can[c].state < 3 then 5 else s.can[c].state

/-- Whether a controller is on its bus: serving it, neither bus-off nor recovering. -/
def State.canLive (s : State) (c : Fin 4) : Bool := s.canOn c && decide (s.can[c].state < 3)

/-- Whether a controller may send data frames. -/
def State.canSends (s : State) (c : Fin 4) : Bool := s.canLive c && s.can[c].mode == 1

/-- Where SRDO n lies: the manual does not say which of controllers 0 and 1 carries it, nor which Crust buffer a transmit SRDO takes, a free value: 4·controller + buffer − 28 (R356, R381, R404). -/
def srdoPlace (n : Nat) : Nat := (Config.free 62 0 [n] % 8).toNat

/-- The controller of SRDO n. -/
def srdoCtl (n : Nat) : Fin 4 := Fin.ofNat 4 (srdoPlace n / 4)

/-- The error state that two counters give (PRESUMED, ISO 11898-1). -/
def errorState (tec rec_ : Nat) : Nat := if 127 < tec ∨ 127 < rec_ then 2 else 1

/-- A controller reaches error passive: fault 0x0D02 (R413). -/
def State.setCounters (s : State) (c : Fin 4) (tec rec_ : Nat) : State :=
  let new := errorState tec rec_
  let s1 := s.modCan c fun x => { x with tec := tec, rec_ := rec_, state := new }
  if new = 2 ∧ s.can[c].state = 1 then s1.fault 0x0D02 (.ofUnit c.val) (at_ 8 8 tec ||| at_ 8 0 rec_) else s1

/-- Whether buffer `i` is the Crust's (R404). -/
def crustBuffer (c : Fin 4) (i : Nat) : Bool := decide (c.val < 2 ∧ 28 ≤ i)

/-- A free transmit buffer among those of the Crust, or of the other masters (R404). -/
def State.freeBuffer (s : State) (c : Fin 4) (crust : Bool) : Option Nat :=
  (List.range 32).find? fun i => crustBuffer c i == crust && !(s.can[c].tx.any fun b => b.index == i)

/-- A frame takes a transmit buffer. -/
def State.putTx (s : State) (c : Fin 4) (i ident : Nat) (data : Bytes) : State :=
  s.modCan c fun x => { x with tx := x.tx ++ [⟨i, ident, data, 0, false⟩] }

/-- Of two pending buffers the one that enters arbitration first: lower identifier, then lower index (R404). -/
def firstTx (a b : TxBuf) : TxBuf := if b.ident < a.ident ∨ b.ident = a.ident ∧ b.index < a.index then b else a

/-- The frame under way: of the buffer a window has started, else the first in arbitration (R404, R417). -/
def CanCtl.current (x : CanCtl) : Option TxBuf :=
  match x.onBus with
  | some i => x.tx.find? fun b => b.index == i
  | none => match x.tx with
    | [] => none
    | b :: rest => some (rest.foldl firstTx b)

/-- Whether a controller's traffic follows a schedule (R407, R414). -/
def State.scheduled (s : State) (c : Fin 4) : Bool := decide (c.val < 2) && s.nat (ttObj c.val 1) != 0

/-- The frame that a controller can have on its bus: under a schedule that of the window that runs, of an arbitrating one the first in arbitration (R404, R407, R417). -/
def State.underWay (s : State) (c : Fin 4) : Option TxBuf :=
  let open_ := if h : c.val < 2 then s.tt[(⟨c.val, h⟩ : Fin 2)].arbUntil else false
  if s.scheduled c && s.can[c].onBus.isNone && !open_ then none else s.can[c].current

/-- A buffer is freed. -/
def CanCtl.free (x : CanCtl) (i : Nat) : CanCtl := { x with tx := x.tx.filter fun b => b.index != i, onBus := none }

/-- R411: the frame under way has failed once more; past its limit it is discarded, counted and recorded. -/
def State.failTx (s : State) (c : Fin 4) : State :=
  match s.underWay c with
  | none => s
  | some b =>
    let limit := if b.oneShot then 0 else s.nat (canObj c.val 0x0E)
    if limit < b.attempts + 1 then
      ((s.modCan c fun x => x.free b.index).bump (canStat c.val 5)).fault 0x0D03 (.ofUnit c.val)
        (at_ 29 0 b.ident ||| at_ 1 31 (b2n (decide (0x800 ≤ b.ident))))
    else s.modCan c fun x => { x with tx := x.tx.map fun y => if y.index = b.index then { y with attempts := y.attempts + 1 } else y }

/-- Whether a frame of a buffer is sent with a change of the bit rate: an FD frame, of FD mode and not the Crust's, whose SRDOs are classical (R381, R403, R420). -/
def State.switchesRate (s : State) (c : Fin 4) (b : TxBuf) : Bool := s.nat (canObj c.val 0x0C) == 1 && !crustBuffer c b.index

/-- Whether transmitter delay compensation is enabled (R409). -/
def State.tdcOn (s : State) (c : Fin 4) : Bool := bit (s.nat (canObj c.val 0x0A)) 7

/-- The secondary sample point: mtq after a data bit's start at which a transmitted bit is checked (R409). -/
def State.secondarySample (s : State) (c : Fin 4) : Nat := s.can[c].loopDelay + s.nat (canObj c.val 0x0A) % 128

/-- R409: at the bit-rate switch of an FD frame the loop delay is measured. -/
def State.measureLoop (s : State) (c : Fin 4) (b : TxBuf) (delay : Nat) : State :=
  if s.switchesRate c b && s.tdcOn c then s.modCan c fun x => { x with loopDelay := delay } else s

/-- R404: the frame under way completes: it leaves the device, frees its buffer and is counted; the transmit counter falls by 1 (PRESUMED, ISO 11898-1). -/
def State.sentTx (s : State) (c : Fin 4) (b : TxBuf) : State :=
  (((s.modCan c fun x => x.free b.index).bump (canStat c.val 4)).emit (.canFrame c.val b.ident b.data)).setCounters c
    (s.can[c].tec - 1) s.can[c].rec_

/-- R407: a released frame enters a transmit buffer, or is discarded for reason 2 bus-off, 3 restricted, 4 TTCAN level, 1 no buffer. -/
def State.releaseFrame (s : State) (c : Fin 4) (ident : Nat) (data : Bytes) (beat : Nat) : State :=
  let level := if h : c.val < 2 then s.tt[(⟨c.val, h⟩ : Fin 2)].level else 0
  let discard (why : Nat) : State := (s.bump (canStat c.val 6)).fault 0x0D06 (.ofUnit c.val) (at_ 32 32 beat ||| at_ 8 0 why)
  if 3 ≤ s.can[c].state then discard 2
  else if s.can[c].mode = 2 then discard 3
  else if 2 ≤ level then discard 4
  else match s.freeBuffer c false with
    | some i => s.putTx c i ident data
    | none => discard 1

/-- The acceptance filter that a frame passes: the CANopen services set the filters up, and the manual does not number them (R404). -/
def filterOf (c ident : Nat) (extended : Bool) : Nat := (Config.free 31 0 [c, ident, b2n extended] % 64).toNat

/-- The receive counter after a good frame: one less, and from above 127 a value of 119 to 127 (PRESUMED, ISO 11898-1). -/
def State.goodReceive (s : State) (c : Fin 4) : State :=
  if s.can[c].mode = 2 ∨ s.can[c].rec_ = 0 then s
  else if s.can[c].rec_ ≤ 127 then s.setCounters c s.can[c].tec (s.can[c].rec_ - 1)
  else
    let d := s.drawNat 32 8 []
    d.2.setCounters c s.can[c].tec (119 + d.1 % 9)

/-- R403, R405: a received frame is stamped into the FIFO, or discarded as a remote frame or on overrun. -/
def State.receiveFrame (s : State) (c : Fin 4) (f : CanFrame) : State :=
  if !s.canLive c then s
  else if f.remote then s.bump (canStat c.val 8)
  else
    let s1 := s.goodReceive c
    let s2 := if h : c.val < 2 then
        s1.modTt ⟨c.val, h⟩ fun x =>
          let k := filterOf c.val f.ident f.extended
          { x with received := if x.received.contains k then x.received else k :: x.received }
      else s1
    if s2.can[c].fifo.length < 64 then s2.modCan c fun x => { x with fifo := x.fifo ++ [(s2.now, f)] }
    else
      let s3 := s2.bump (canStat c.val 7)
      s3.fault 0x0D07 (.ofUnit c.val) (at_ 32 0 (s3.nat (canStat c.val 7)))

/-- The frames that remain once a service has taken the oldest one with its identifier. -/
def takeFirst (l : List (Nat × CanFrame)) (ident : Nat) : List (Nat × CanFrame) :=
  match l with
  | [] => []
  | e :: rest => if e.2.ident = ident then rest else e :: takeFirst rest ident

/-- A service of the node takes its frame from the receive FIFO. -/
def State.takeFrame (s : State) (c : Fin 4) (ident : Nat) : State := s.modCan c fun x => { x with fifo := takeFirst x.fifo ident }

/-! ## TTCAN levels (R419) -/

/-- Whether a controller runs time-triggered (R414). -/
def State.ttOn (s : State) (c : Fin 2) : Bool := s.nat (ttObj c.val 1) != 0 && s.canOn (ttCtl c)

/-- A change of level: fault 0x0D04 (R419). -/
def State.setLevel (s : State) (c : Fin 2) (level cause : Nat) : State :=
  if s.tt[c].level = level then s
  else (s.modTt c fun x => { x with level := level, cleanCycles := 0, goodRefs := 0 }).fault 0x0D04 (.ofUnit c.val)
    (at_ 8 8 cause ||| at_ 8 0 level)

/-- The level returns to S0; the manual gives no cause for this change, so the cause field is a free value. -/
def State.clearLevel (s : State) (c : Fin 2) : State :=
  if s.tt[c].level = 0 then s
  else
    let d := s.drawNat 33 8 []
    (d.2.modTt c fun x => { x with s3 := 0, causeGone := false, leaveS3 := false }).setLevel c 0 d.1

/-- A failed receive check (1) or a missed window (2): S1 from S0 (R419). -/
def State.ttError (s : State) (c : Fin 2) (cause : Nat) : State :=
  let s1 := s.modTt c fun x => { x with erred := true }
  if s1.tt[c].level = 0 then s1.setLevel c 1 cause else s1

/-- S3 for cause 4 watchdog, 5 bus-off, 6 matrix: nothing is sent (R419). -/
def State.enterS3 (s : State) (c : Fin 2) (cause : Nat) : State :=
  if s.tt[c].level = 3 then s
  else ((s.modTt c fun x => { x with s3 := cause, causeGone := false, leaveS3 := false, arbUntil := false, merged := false }).modCan (ttCtl c)
    fun x => { x with onBus := none }).setLevel c 3 cause

/-- R413: bus-off: nothing is sent, every pending buffer is dropped, fault 0x0D01; a time-triggered controller enters S3. -/
def State.busOff (s : State) (c : Fin 4) (kind rec_ : Nat) : State :=
  let s1 := ((s.modCan c fun x => { x with state := 3, tec := 255, rec_ := rec_, tx := [], onBus := none }).bump (canStat c.val 9)).fault
    0x0D01 (.ofUnit c.val) (at_ 8 8 rec_ ||| at_ 8 0 kind)
  if h : c.val < 2 then (if s1.ttOn ⟨c.val, h⟩ then s1.enterS3 ⟨c.val, h⟩ 5 else s1) else s1

/-- R413: an error on the bus with the error counters that it leaves: bus-off above 255, else the frame under way takes one of its attempts and error passive is judged; in restricted operation nothing changes (R412). -/
def State.busError (s : State) (c : Fin 4) (kind : Nat) (receiving : Bool) (tec rec_ : Nat) : State :=
  if !s.canSends c then s
  else if 255 < tec then s.busOff c kind rec_
  else (if receiving then s else s.failTx c).setCounters c tec rec_

/-- R404, R409: the frame under way has been transmitted; a loop delay above 127 mtq at its bit-rate switch is a bit error, by which the transmit counter rises by 8 (PRESUMED, ISO 11898-1) and whose code is a free value. -/
def State.completeTx (s : State) (c : Fin 4) (delay : Nat) : State :=
  if !s.canSends c then s
  else match s.underWay c with
    | none => s
    | some b =>
      let s1 := s.measureLoop c b delay
      if s.switchesRate c b && s.tdcOn c && decide (127 < delay) then
        let d := s1.drawNat 69 8 [delay]
        d.2.busError c d.1 false (s.can[c].tec + 8) s.can[c].rec_
      else s1.sentTx c b

/-- Whether the recovery command is refused: neither bus-off nor recovering, and not in S3 with its cause gone (R413). -/
def State.recoveryRefused (s : State) (c : Fin 4) : Bool :=
  if 3 ≤ s.can[c].state then false
  else if h : c.val < 2 then
    let x := s.tt[(⟨c.val, h⟩ : Fin 2)]
    !(x.level == 3 && (x.causeGone || x.s3 == 5))
  else true

/-- R413: the recovery command takes effect: bus-off recovery starts; during recovery it is ignored; else the return from S3 is due. -/
def State.recover (s : State) (c : Fin 4) : State :=
  if s.can[c].state = 3 then s.modCan c fun x => { x with state := 4 }
  else if s.can[c].state = 4 then s
  else if h : c.val < 2 then
    (if s.tt[(⟨c.val, h⟩ : Fin 2)].level = 3 then s.modTt ⟨c.val, h⟩ fun x => { x with leaveS3 := true } else s)
  else s

/-- R413: 128 occurrences of 11 recessive bits: error active with both counters at 0; a controller in S3 returns at the next cycle start. -/
def State.recovered (s : State) (c : Fin 4) : State :=
  if s.can[c].state ≠ 4 then s
  else
    let s1 := s.modCan c fun x => { x with state := 1, tec := 0, rec_ := 0 }
    if h : c.val < 2 then
      s1.modTt ⟨c.val, h⟩ fun x => { x with leaveS3 := x.leaveS3 || x.level == 3 }
    else s1

/-! ## The schedule (R415 to R419) -/

/-- Time mark, buffer, cycle offset, repeat and type of a trigger entry (R415). -/
def entMark (e : BitVec 64) : Nat := fld e 63 48
def entBuffer (e : BitVec 64) : Nat := fld e 47 42
def entOffset (e : BitVec 64) : Nat := fld e 41 36
def entRepeat (e : BitVec 64) : Nat := fld e 35 33
def entType (e : BitVec 64) : Nat := fld e 32 29

/-- The trigger list that bytes hold, up to its end entry. -/
def matrixOf (b : Bytes) : List (BitVec 64) :=
  ((List.range (b.length / 8)).map fun k => BitVec.ofNat 64 (leAt b (8 * k) 8)).takeWhile fun e => entType e != 0

/-- Cycle length in ns. -/
def State.cycleNs (s : State) (c : Fin 2) : Nat := s.nat (ttObj c.val 4) * s.nat (ttObj c.val 3)

/-- Basic cycles of the matrix. -/
def State.matrixCycles (s : State) (c : Fin 2) : Nat := 2 ^ s.nat (ttObj c.val 0x0A)

/-- Whether a basic cycle may begin now: on the current master, at a count of the grid of the corrected weft count (R418). -/
def State.onCycleGrid (s : State) (c : Fin 2) : Bool :=
  s.tt[c].master != 1 || ((s.now : Int) - s.nat (ttObj c.val 6)) % max 1 (s.cycleNs c) == 0

/-- The weft count at which a number of NTUs of the present basic cycle have passed: from its start on the current master; on a slave from the reference message, in the local NTU that follows the master's (R415, R419). -/
def State.ntuCount (s : State) (c : Fin 2) (n : Nat) : Nat :=
  let x := s.tt[c]
  if x.master = 1 then x.started + n * s.nat (ttObj c.val 3)
  else x.refWeft + (if x.ntu.2 = 0 then n * s.nat (ttObj c.val 3) else n * 8 * x.ntu.1 / x.ntu.2)

/-- An entry of the matrix in force that has the type, acts in the present cycle, and whose time mark has come (R415). -/
def State.entryNow (s : State) (c : Fin 2) (entry : Fin 128) (types : List Nat) : Option (BitVec 64) :=
  match s.tt[c].matrix[entry.val]? with
  | some e =>
    if types.contains (entType e) && s.tt[c].cycle % 2 ^ entRepeat e == entOffset e && decide (s.ntuCount c (entMark e) ≤ s.now) then some e else none
  | none => none

/-- The master's cycle count and Master_Ref_Mark at a weft count (R418). -/
def State.masterCycle (s : State) (c : Fin 2) (w : Nat) : Nat :=
  (w - s.nat (ttObj c.val 6)) / max 1 (s.cycleNs c) % s.matrixCycles c
def State.masterMark (s : State) (c : Fin 2) (w : Nat) : Nat :=
  8 * (w - s.nat (ttObj c.val 6)) / max 1 (s.nat (ttObj c.val 3)) % 2 ^ 19

/-- The device's own master priority: the three low bits of its reference identifier (R418). -/
def State.ownPriority (s : State) (c : Fin 2) : Nat := s.nat (ttObj c.val 7) % 8

/-- The current master's reference message is sent: cycle count, and in level 2 the mark with Disc_Bit (payload layout PRESUMED, ISO 11898-4). -/
def State.sendReference (s : State) (c : Fin 2) (disc : Bool) : State :=
  let w := s.now
  let cycle := s.masterCycle c w
  let mark := s.masterMark c w
  let two := s.nat (ttObj c.val 1) == 2
  let data := if two then leBytes 1 cycle ++ leBytes 1 (mark % 8 * 32 + b2n disc) ++ leBytes 2 (mark / 8) else leBytes 1 cycle
  (s.emit (.canFrame c.val (s.nat (ttObj c.val 7)) data)).modTt c fun x =>
    { x with cycle := cycle, refMark := if two then mark else x.refMark, refWeft := w, sawRef := true, missing := 0 }

/-- The reference messages of the cycle that ends are judged: S2 after two expected starts without one, S0 again after two cycles with one (R419). -/
def State.judgeReference (s : State) (c : Fin 2) : State :=
  let saw := s.tt[c].sawRef
  let s1 := s.modTt c fun x =>
    { x with missing := if saw then 0 else x.missing + 1, goodRefs := if saw then x.goodRefs + 1 else 0, sawRef := false }
  let x := s1.tt[c]
  if x.level < 2 ∧ 2 ≤ x.missing then s1.setLevel c 2 3
  else if x.level = 2 ∧ 2 ≤ x.goodRefs then s1.clearLevel c
  else s1

/-- S1 ends after four basic cycles without a failed check or missed window (R419). -/
def State.judgeClean (s : State) (c : Fin 2) : State :=
  let s1 := s.modTt c fun x => { x with cleanCycles := if x.erred then 0 else x.cleanCycles + 1, erred := false }
  if s1.tt[c].level = 1 ∧ 4 ≤ s1.tt[c].cleanCycles then s1.clearLevel c else s1

/-- R418, R419: a basic cycle begins: the return from S3, the judgement of the last cycle, the check of the matrix, the master's reference message, and at count 0 the committed matrix. -/
def State.cycleStart (s : State) (c : Fin 2) (matrixOk : Bool) : State :=
  if !s.ttOn c || !s.onCycleGrid c then s
  else
    let s1 := if s.tt[c].leaveS3 && s.canLive (ttCtl c) then s.clearLevel c else s
    let s2 := (s1.judgeReference c).judgeClean c
    let s3 := s2.modTt c fun x =>
      { x with started := s2.now, servedAt := s2.now, cycle := (x.cycle + 1) % s2.matrixCycles c, arbUntil := false, merged := false
               causeGone := x.s3 == 4 || (x.s3 == 6 && matrixOk) }
    let s4 := if matrixOk then s3 else s3.enterS3 c 6
    let s5 := if s4.tt[c].master = 1 ∧ s4.tt[c].level < 3 ∧ s4.canSends (ttCtl c) then s4.sendReference c false else s4
    if s5.tt[c].cycle = 0 then s5.modTt c fun x => { x with matrix := matrixOf (s5.raw (ob (0x2330 + c.val) 1)) } else s5

/-- The master changes: fault 0x0D05 (R418). -/
def State.setMaster (s : State) (c : Fin 2) (master priority : Nat) : State :=
  let s1 := s.modTt c fun x => { x with master := master, priority := priority }
  if s.tt[c].priority = priority ∧ s.tt[c].master = master then s1
  else s1.fault 0x0D05 (.ofUnit c.val) (at_ 3 0 priority ||| at_ 1 8 (b2n (master == 1)))

/-- R419: a reference message is received: a message with Next_is_Gap is ignored; a master of lower priority than the sender yields; a slave takes cycle, mark and stamp and corrects its local NTU from the last two references, not across a Disc_Bit. -/
def State.receiveReference (s : State) (c : Fin 2) (m : RefMsg) : State :=
  if !s.ttOn c || !s.canLive (ttCtl c) then s
  else
    let s0 := s.takeFrame (ttCtl c) (s.nat (ttObj c.val 7) / 8 * 8 + m.priority % 8)
    if m.gap then s0
    else if s.tt[c].master = 1 ∧ s.ownPriority c ≤ m.priority then s0
    else
      let role := if s.nat (ttObj c.val 2) = 1 then 2 else 0
      let s1 := s0.setMaster c role (m.priority % 8)
      let mark := m.refMark % 2 ^ 19
      s1.modTt c fun x =>
        { x with
          sawRef := true, missing := 0, cycle := m.cycle % s.matrixCycles c, refMark := mark, refWeft := s.now
          ntu := if s.nat (ttObj c.val 1) = 2 ∧ !m.disc ∧ x.refWeft ≠ 0 then (s.now - x.refWeft, (mark + 2 ^ 19 - x.refMark) % 2 ^ 19) else x.ntu }

/-- R418: a potential master that has seen no reference message within its reference offset sends its own, the first with Disc_Bit. -/
def State.takeOver (s : State) (c : Fin 2) : State :=
  if s.ttOn c && s.canSends (ttCtl c) && s.nat (ttObj c.val 2) == 1 && s.tt[c].master != 1 && !s.tt[c].sawRef && decide (s.tt[c].level < 3)
      && decide (s.tt[c].started + s.nat (ttObj c.val 8) * s.nat (ttObj c.val 3) ≤ s.now) then
    (s.setMaster c 1 (s.ownPriority c)).sendReference c true
  else s

/-- R417: an exclusive frame starts in its Tx_Enable window, one-shot, or is missed: counted, fault 0x0D08, S1. -/
def State.exclusive (s : State) (c : Fin 2) (entry : Fin 128) (inWindow : Bool) : State :=
  if !s.ttOn c || !s.canSends (ttCtl c) || decide (2 ≤ s.tt[c].level) then s
  else match s.entryNow c entry [1] with
    | none => s
    | some e =>
      let i := entBuffer e
      if !(s.can[ttCtl c].tx.any fun b => b.index == i) then s
      else if inWindow ∧ s.now ≤ s.ntuCount c (entMark e + s.nat (ttObj c.val 5)) then
        s.modCan (ttCtl c) fun x => { x with onBus := some i, tx := x.tx.map fun b => if b.index = i then { b with oneShot := true } else b }
      else
        ((s.bump (ob (0x2390 + c.val) 7)).fault 0x0D08 (.ofUnit c.val) (at_ 16 0 (entMark e) ||| at_ 6 16 s.tt[c].cycle)).ttError c 2

/-- R415, R417: an arbitrating window opens (types 2 to 4), and a frame that fits its window enters arbitration. -/
def State.arbitrating (s : State) (c : Fin 2) (entry : Fin 128) (types : List Nat) (merged fits : Bool) : State :=
  if !s.ttOn c || !s.canSends (ttCtl c) || decide (2 ≤ s.tt[c].level) then s
  else match s.entryNow c entry types with
    | none => s
    | some e =>
      let i := entBuffer e
      let s1 := s.modTt c fun x => { x with arbUntil := true, merged := merged || x.merged }
      if fits && s1.can[ttCtl c].tx.any fun b => b.index == i then s1.modCan (ttCtl c) fun x => { x with onBus := some i } else s1

/-- R415: an arbitrating window ends: no frame starts in it any more. -/
def State.endTtWindow (s : State) (c : Fin 2) (entry : Fin 128) : State :=
  if !s.ttOn c then s
  else match s.entryNow c entry [5] with
    | none => s
    | some _ => (s.modTt c fun x => { x with arbUntil := false, merged := false }).modCan (ttCtl c) fun x => { x with onBus := none }

/-- R417: a receive check fails where its filter has received no valid frame since its previous window. -/
def State.checkReceive (s : State) (c : Fin 2) (entry : Fin 128) : State :=
  if !s.ttOn c then s
  else match s.entryNow c entry [6] with
    | none => s
    | some e =>
      let k := entBuffer e
      let s1 := s.modTt c fun x => { x with received := x.received.filter fun f => f != k }
      if s.tt[c].received.contains k then s1 else s1.ttError c 1

/-- R415, R419: a watch entry judges whether this is the second expected cycle start without a reference message. -/
def State.watch (s : State) (c : Fin 2) (entry : Fin 128) : State :=
  if !s.ttOn c then s
  else match s.entryNow c entry [7] with
    | none => s
    | some _ => if !s.tt[c].sawRef && decide (1 ≤ s.tt[c].missing) && decide (s.tt[c].level < 2) then s.setLevel c 2 3 else s

/-- TTCAN of a controller starts anew with values that a launch made active: role slave or backup, no master yet (R414, R418). -/
def State.ttSetup (s : State) (c : Fin 2) : State :=
  s.modTt c fun _ => { TtCan.reset with master := if s.nat (ttObj c.val 1) ≠ 0 ∧ s.nat (ttObj c.val 2) = 1 then 2 else 0, sawRef := true }

/-! ## The commands -/

/-- R405. -/
def execCanFrameReceived (t : Nat) (ctl : Fin 4) (frame : CanFrame) (s : State) : Host.Outcome State Fault Refusal :=
  .next ((s.advance t).receiveFrame ctl frame)

/-- R413. -/
def execCanBusError (t : Nat) (ctl : Fin 4) (kind : Nat) (receiving : Bool) (tec rec : Nat) (s : State) : Host.Outcome State Fault Refusal :=
  .next ((s.advance t).busError ctl kind receiving tec rec)

/-- R413. -/
def execCanRecoveryComplete (t : Nat) (ctl : Fin 4) (s : State) : Host.Outcome State Fault Refusal := .next ((s.advance t).recovered ctl)

/-- R412: at the bus idle the written mode comes into force. -/
def execCanModeChange (t : Nat) (ctl : Fin 4) (s : State) : Host.Outcome State Fault Refusal :=
  let s := s.advance t
  .next (s.modCan ctl fun x => { x with mode := s.nat (canObj ctl.val 0x0D) })

/-- R418. -/
def execTtcanCycleStart (t : Nat) (ctl : Fin 2) (matrixOk : Bool) (s : State) : Host.Outcome State Fault Refusal :=
  .next ((s.advance t).cycleStart ctl matrixOk)

/-- R417. -/
def execTransmitExclusive (t : Nat) (ctl : Fin 2) (entry : Fin 128) (inWindow : Bool) (s : State) : Host.Outcome State Fault Refusal :=
  .next ((s.advance t).exclusive ctl entry inWindow)

/-- R417. -/
def execTransmitArbitrating (t : Nat) (ctl : Fin 2) (entry : Fin 128) (fits : Bool) (s : State) : Host.Outcome State Fault Refusal :=
  .next ((s.advance t).arbitrating ctl entry [2] false fits)

/-- R415. -/
def execMergedWindowStart (t : Nat) (ctl : Fin 2) (entry : Fin 128) (s : State) : Host.Outcome State Fault Refusal :=
  .next ((s.advance t).arbitrating ctl entry [3] true true)

/-- R415: only a merged window that has started continues. -/
def execMergedWindowContinue (t : Nat) (ctl : Fin 2) (entry : Fin 128) (s : State) : Host.Outcome State Fault Refusal :=
  let s := s.advance t
  .next (if s.tt[ctl].merged then s.arbitrating ctl entry [4] true true else s)

/-- R415. -/
def execEndOfArbitratingWindow (t : Nat) (ctl : Fin 2) (entry : Fin 128) (s : State) : Host.Outcome State Fault Refusal :=
  .next ((s.advance t).endTtWindow ctl entry)

/-- R417. -/
def execReceiveCheck (t : Nat) (ctl : Fin 2) (entry : Fin 128) (s : State) : Host.Outcome State Fault Refusal :=
  .next ((s.advance t).checkReceive ctl entry)

/-- R415. -/
def execWatchTrigger (t : Nat) (ctl : Fin 2) (entry : Fin 128) (s : State) : Host.Outcome State Fault Refusal :=
  .next ((s.advance t).watch ctl entry)

/-- R419. -/
def execReferenceMessageReceived (t : Nat) (ctl : Fin 2) (m : RefMsg) (s : State) : Host.Outcome State Fault Refusal :=
  .next ((s.advance t).receiveReference ctl m)

/-- R418. -/
def execReferenceOffsetExpiry (t : Nat) (ctl : Fin 2) (s : State) : Host.Outcome State Fault Refusal := .next ((s.advance t).takeOver ctl)

/-- R419. -/
def execApplicationWatchdogLapse (t : Nat) (ctl : Fin 2) (s : State) : Host.Outcome State Fault Refusal :=
  let s := s.advance t
  .next (if s.ttOn ctl && decide (s.tt[ctl].servedAt + 1000000 * s.nat (ttObj ctl.val 9) ≤ s.now) then s.enterS3 ctl 4 else s)

/-- R404, R409. -/
def execCanTransmissionComplete (t : Nat) (x : CanSent) (s : State) : Host.Outcome State Fault Refusal :=
  .next ((s.advance t).completeTx x.ctl x.delay)

/-- R411. -/
def execCanArbitrationLost (t : Nat) (ctl : Fin 4) (s : State) : Host.Outcome State Fault Refusal :=
  let s := s.advance t
  .next (if s.canSends ctl then s.failTx ctl else s)

end Sys2Proof.Machine
end

