-- ==== Sys2Proof/Machine/Ed25519.lean ====
section
/-!
DEFINITION. The verification of an Ed25519 signature, which R379, R380 and R476 ask for (PRESUMED: RFC 8032, which the manual names and does not restate; log entry 42).
-/

namespace Sys2Proof.Machine

/-! ## The curve edwards25519 (RFC 8032, section 5.1) -/

/-- The prime of the field. -/
def edP : Nat := 2 ^ 255 - 19

/-- The order of the base point. -/
def edL : Nat := 2 ^ 252 + 27742317777372353535851937790883648493

/-- The constant of the curve, -121665/121666. -/
def edD : Nat := 37095705934669439343138083508754565189542113879843219016388785533085940283555

/-- A square root of -1. -/
def edSqrtM1 : Nat := 19681161376707505956807079304988542015446066515923890162744021073123829784752

/-- `b ^ e` modulo the prime, for an exponent below 2²⁵⁶. -/
def edPow (b e : Nat) : Nat :=
  (List.range 256).foldl (fun acc i => let sq := acc * acc % edP; if e.testBit (255 - i) then sq * b % edP else sq) 1

/-- A point in extended homogeneous coordinates: x = X/Z, y = Y/Z, x·y = T/Z. -/
structure EdPoint where
  x : Nat
  y : Nat
  z : Nat
  t : Nat
deriving DecidableEq, Repr

/-- The difference of two residues. -/
def edSub (a b : Nat) : Nat := (a + edP - b % edP) % edP

/-- The neutral element. -/
def edZero : EdPoint := ⟨0, 1, 1, 0⟩

/-- The base point. -/
def edBase : EdPoint :=
  let x := 15112221349535400772501151409588531511454012693041857206046113283949847762202
  let y := 46316835694926478169428394003475163141307993866256225615783033603165251855960
  ⟨x, y, 1, x * y % edP⟩

/-- Addition of points (RFC 8032, section 5.1.4). -/
def edAdd (p q : EdPoint) : EdPoint :=
  let a := edSub p.y p.x * edSub q.y q.x % edP
  let b := (p.y + p.x) * (q.y + q.x) % edP
  let c := p.t * (2 * edD) % edP * q.t % edP
  let d := p.z * 2 * q.z % edP
  let e := edSub b a
  let f := edSub d c
  let g := (d + c) % edP
  let h := (b + a) % edP
  ⟨e * f % edP, g * h % edP, f * g % edP, e * h % edP⟩

/-- The multiple of a point by a number below 2²⁵⁶. -/
def edMul (k : Nat) (p : EdPoint) : EdPoint :=
  (List.range 256).foldl (fun acc i => let dbl := edAdd acc acc; if k.testBit (255 - i) then edAdd dbl p else dbl) edZero

/-- Whether two points are one. -/
def edSame (p q : EdPoint) : Bool :=
  p.x * q.z % edP == q.x * p.z % edP && p.y * q.z % edP == q.y * p.z % edP

/-- The point that 32 bytes name (RFC 8032, section 5.1.3). -/
def edPoint? (bs : Bytes) : Option EdPoint :=
  let n := leAt bs 0 32
  let y := n % 2 ^ 255
  let sign := n / 2 ^ 255
  let u := edSub (y * y) 1
  let v := (edD * (y * y % edP) + 1) % edP
  let v3 := v * v % edP * v % edP
  let r := u * v3 % edP * edPow (u * (v3 * v3 % edP * v % edP) % edP) ((edP - 5) / 8) % edP
  let chk := v * (r * r % edP) % edP
  if edP ≤ y then none
  else match (if chk = u then some r else if chk = edSub 0 u then some (r * edSqrtM1 % edP) else none) with
    | none => none
    | some x =>
      if x = 0 ∧ sign = 1 then none
      else
        let x1 := if x % 2 = sign then x else edP - x
        some ⟨x1, y, 1, x1 * y % edP⟩

/-- Whether a 64-byte signature of a message verifies under a 32-byte public key (RFC 8032, section 5.1.7). The RFC lets a verifier check the group equation times 8 or without that factor; a signature that only the equation times 8 admits is judged by `Config.verifies` (log entry 12). -/
def verifies (key message signature : Bytes) : Bool :=
  let s := leAt signature 32 32
  match edPoint? key, edPoint? (signature.take 32) with
  | some a, some r =>
    let k := leAt (sha512 (signature.take 32 ++ key ++ message)) 0 64 % edL
    let left := edMul s edBase
    let right := edAdd r (edMul k a)
    decide (key.length = 32 ∧ signature.length = 64 ∧ s < edL) &&
      (edSame left right || (edSame (edMul 8 left) (edMul 8 right) && Config.verifies key message signature))
  | _, _ => false

end Sys2Proof.Machine
end

