-- ==== Sys2Proof/Machine/Motion.lean ====
section
/-!
DEFINITION. The motion unit and the field ports (R327 to R353, R492): command frames and clamps, samples and input records, encoders, converters, digital inputs and outputs, sensor supplies.
-/

namespace Sys2Proof.Machine

/-- The object of an axis. -/
def axisObj (k sub : Nat) : Key := ob (0x4010 + k) sub

/-- The fault location of an axis, input, output, source or supply. -/
def unitLoc (u : Nat) : Loc := .ofUnit u

/-! ## Command frames (R331, R333, R335) -/

/-- Bytes 2 to 15 of a command frame header (R333). -/
def frameBody (f : Frame) : Bytes :=
  leBytes 1 f.reserved ++ leBytes 1 f.records.length ++ leBytes 4 f.doMask.toNat ++ leBytes 4 f.doLevel.toNat ++ leBytes 4 f.beat

/-- A frame is applied only if its crc holds and its reserved fields are 0 (R333). -/
def frameOk (f : Frame) : Bool :=
  decide (f.crc.toNat = crc16 (frameBody f) ∧ f.reserved = 0 ∧ f.records.length ≤ 16) && f.records.all fun r => r.reserved == 0

/-- A counted clamp of a command: flag bit 4, 0x4080:01, and cause 10 above the limit of 0x4878:09 in 1,000 beats; fault 0x0A01, unless the cause reacts (R335, R375). -/
def State.clampCommand (s : State) (k : Fin 16) (leg kind : Nat) : State :=
  let s1 := (s.modAxis k fun a =>
    { a with clamped := true, clampBeats := (a.clampBeats.filter fun b => s.beat < b + 1000) ++ [s.beat] }).tallyClamp k.val kind
  let limit := s.nat (ob 0x4878 9)
  let fires := limit ≠ 0 ∧ limit < s1.motion.axes[k].clampBeats.length ∧ !(s.crust.latches.any fun l => l.cause == 10 && l.axes.getLsbD k.val)
  s1.reactOrFault (if fires then [(10, 1 <<< k.val)] else []) 0x0A01 (.ofUnit k.val) (s.clampDetail kind leg)

/-- One leg of `apply` of R335: slew first, range last; the kinds of clamp that changed the value. -/
def clampLeg (slew lo hi prev duty : Nat) : Nat × Bool × Bool :=
  let d1 := if duty + slew < prev then prev - slew else if prev + slew < duty then prev + slew else duty
  let d2 := if hi < d1 then hi else if d1 < lo then lo else d1
  (d2, decide (d1 ≠ duty), decide (d2 ≠ d1))

/-- A leg's drive and its new previous duty: a disabled leg drives both sides off and starts again from 0 (R334, R335). -/
def driveLeg (enabled : Bool) (slew lo hi prev duty : Nat) : Option Nat × Nat × Bool × Bool :=
  if enabled then
    let c := clampLeg slew lo hi prev duty
    (some c.1, c.1, c.2.1, c.2.2)
  else (none, 0, false, false)

/-- The clamps of one leg are counted. -/
def State.countLeg (s : State) (k : Fin 16) (leg : Nat) (slewed ranged : Bool) : State :=
  let s1 := if slewed then s.clampCommand k leg 1 else s
  if ranged then s1.clampCommand k leg 2 else s1

/-- Period and phase of an axis's carrier in force: those taken at its last period start (R334). -/
def State.carrierOf (s : State) (k : Fin 16) : Nat × Nat :=
  s.motion.axes[k].carrier.getD (s.nat (axisObj k.val 4), s.nat (axisObj k.val 5))

/-- Where now lies in a period of an axis's carrier, which begins at L + φ + k·P (R334); none while no launch runs or before the first period. -/
def State.carrierAt (s : State) (k : Fin 16) : Option Nat :=
  match s.launch.run with
  | none => none
  | some run =>
    let c := s.carrierOf k
    if s.now < run.start + c.2 then none else some ((s.now - (run.start + c.2)) % max 1 c.1)

/-- Whether now is an update point of an axis: a period start, or with double update a period centre (R334). -/
def State.updatePoint (s : State) (k : Fin 16) : Bool :=
  match s.carrierAt k with
  | none => false
  | some x => x == 0 || (s.nat (axisObj k.val 6) == 2 && x == (s.carrierOf k).1 / 2)

/-- At a period start a new period and phase take effect (R334). -/
def State.takeCarrier (s : State) (k : Fin 16) : State :=
  if s.carrierAt k = some 0 then s.modAxis k fun a => { a with carrier := some (s.nat (axisObj k.val 4), s.nat (axisObj k.val 5)) } else s

/-- Whether a driven leg turns its high side on: its on-time is not shorter than the dead time (R334). -/
def State.highOn (s : State) (k : Fin 16) (duty : Option Nat) : Bool :=
  duty.any fun d => decide (0 < d ∧ s.nat (axisObj k.val 7) * 65536 ≤ d * (s.carrierOf k).1)

/-- `apply` of R335: a command record passes the clamps and is driven to the pins. -/
def State.applyRecord (s : State) (k : Fin 16) (c : CmdRecord) (beats : Nat) : State :=
  if !s.effective k.val || !c.enable then
    (if c.enable then s.clampCommand k 0 5 else s).axisOff k
  else
    let a := s.motion.axes[k]
    let slew := s.nat (crustAxis k.val 4) * beats
    let lo := s.nat (crustAxis k.val 2)
    let hi := s.nat (crustAxis k.val 3)
    let la := driveLeg (c.legs.getLsbD 0) slew lo hi a.prevA c.dutyA
    let lb := driveLeg (c.legs.getLsbD 1) slew lo hi a.prevB c.dutyB
    let lc := driveLeg (c.legs.getLsbD 2) slew lo hi a.prevC c.dutyC
    let s1 := s.modAxis k fun a =>
      { a with
        pwm := .drive la.1 lb.1 lc.1
        prevA := la.2.1
        prevB := lb.2.1
        prevC := lc.2.1
        highs := BitVec.ofNat 3 (at_ 1 0 (b2n (s.highOn k la.1)) ||| at_ 1 1 (b2n (s.highOn k lb.1)) ||| at_ 1 2 (b2n (s.highOn k lc.1))) }
    ((s1.countLeg k 0 la.2.2.1 la.2.2.2).countLeg k 1 lb.2.2.1 lb.2.2.2).countLeg k 2 lc.2.2.1 lc.2.2.2

/-- The beat whose release count a count is. -/
def State.beatAt (s : State) (count : Nat) : Nat :=
  match s.launch.run with
  | some run => (count - run.start) / run.period
  | none => 0

/-- R331: the last frame whose release count plus 20 ns has come is applied; earlier ones are dropped. -/
def State.applyDue (s : State) (k : Fin 16) : State :=
  let a := s.motion.axes[k]
  let due := a.queued.filter fun e => decide (e.1 + 20 ≤ s.now)
  match due.getLast? with
  | none => s
  | some (count, c) =>
    let beat := s.beatAt count
    let beats := if a.lastBeat = 0 then 1 else max 1 (beat - a.lastBeat)
    let s1 := s.modAxis k fun a => { a with queued := a.queued.filter fun e => decide (s.now < e.1 + 20), lastBeat := beat }
    s1.applyRecord k c beats

/-- R331, R334: an update point of an axis's carrier; at any other count nothing happens. -/
def State.carrierUpdate (s : State) (k : Fin 16) : State :=
  if s.updatePoint k then (s.takeCarrier k).applyDue k else s

/-- Whether digital output k is a stream's camera trigger path (R348). -/
def State.triggerPath (s : State) (k : Nat) : Bool :=
  (List.range 24).any fun n => s.nat (ob (0x2810 + n) 1) != 0 && s.nat (ob (0x2810 + n) 0x0C) == 1 && s.nat (ob (0x2810 + n) 0x0D) == k

/-- A digital output is driven: an output whose Crust enable is 0, or in the output-off state, holds its output-off level; one shut down thermally stays off; without field input it is off (R348, R439, R492). -/
def State.driveOutput (s : State) (k : Fin 32) (level : Bool) : State :=
  s.modOutput k fun o =>
    { o with
      asked := level
      waiting := false
      level := if !s.power.fieldOk || o.thermal then false
        else if bit (s.nat (ob 0x4830 1)) k.val && s.crust.state.drives && !s.crust.hwOff then level else bit (s.nat (ob 0x4830 2)) k.val }

/-- A frame's digital outputs: those its mask selects, but for camera trigger paths (R333, R348). -/
def State.frameOutputs (s : State) (f : Frame) : State :=
  (idxs 32).foldl (fun acc k =>
    if f.doMask.getLsbD k.val && !s.triggerPath k.val then acc.driveOutput k (f.doLevel.getLsbD k.val) else acc) s

/-- Whether a beat is a loop beat of an enabled axis (R327). -/
def State.loopBeat (s : State) (k beat : Nat) : Bool :=
  s.flag (axisObj k 1) && beat % (max 1 (s.nat (axisObj k 2))) == 0

/-- The beat that computed a frame released at the end of beat `beat`: the frame holds its low 32 bits (R333). -/
def frameBeat (f : Frame) (beat : Nat) : Nat := beat - (beat + 2 ^ 32 - f.beat % 2 ^ 32) % 2 ^ 32

/-- A released command frame waits for the update points of its axes; an axis takes its record only from a loop beat (R327, R331). -/
def State.acceptFrame (s : State) (f : Frame) (beat count : Nat) : State :=
  if frameOk f then
    (f.records.filter fun r => s.loopBeat r.axis.val (frameBeat f beat)).foldl
      (fun acc r => acc.modAxis r.axis fun a => { a with queued := a.queued ++ [(count, r)] }) (s.frameOutputs f)
  else s

/-- Axes that expect a frame at the end of a beat and receive none are counted in 0x4080:02 (R331). -/
def State.countMissing (s : State) (beat : Nat) (got : List (Fin 16)) : State :=
  (idxs 16).foldl (fun acc k => if s.loopBeat k.val beat && !got.contains k then acc.bump (ob 0x4080 2) else acc) s

/-! ## Samples and input records (R332, R337, R339) -/

/-- Binary logarithm of a power of two. -/
def log2 (n : Nat) : Nat := Nat.log2 n

/-- The delivered current of a raw sinc3 sum (R337). -/
def currentOf (osr sum : Nat) : Int := (2 * (sum : Int) - (osr : Int) ^ 3) * 2 ^ (30 - 3 * log2 osr)

/-- An encoder error: position invalid, the last valid position kept, 0x4080:06, fault 0x0A06 (R339). -/
def State.encoderError (s : State) (k : Fin 16) (mode cause : Nat) : State :=
  ((s.modAxis k fun a => { a with invalid := true }).bump (ob 0x4080 6)).fault 0x0A06 (unitLoc k.val) (at_ 8 8 mode ||| at_ 8 0 cause)

/-- Trigger channels issue edges while a launch runs and is not paused (R399, R458). -/
def State.triggersRun (s : State) : Bool :=
  match s.launch.run with
  | some run => !run.paused
  | none => false

/-- A trigger of a source makes an edge due in every channel that follows it (R346, R399). -/
def State.followSource (s : State) (src : Nat) : State :=
  if !s.triggersRun then s
  else s.modTime fun tm =>
    { tm with dueEdges := updAll tm.dueEdges fun c l =>
      if c < 48 ∧ s.nat (ob (0x2210 + c) 1) = 2 ∧ s.nat (ob (0x2210 + c) 4) = src then l ++ [s.now] else l }

/-- A trigger source event: dropped and counted where it falls less than the minimum period after the last trigger issued from the source, else a trigger (R346, R347). -/
def State.sourceEvent (s : State) (src : Fin 24) (at_count : Nat) : State :=
  let last : Option Nat := s.motion.lastTrigger[src]
  if last.any fun l => decide (at_count < l + s.nat (ob 0x4071 (src.val + 1))) then
    let s1 := s.bump (ob 0x4080 5)
    s1.fault 0x0A05 (unitLoc src.val) (at_ 32 0 (s1.nat (ob 0x4080 5)) ||| at_ 8 32 src.val)
  else (s.modMotion fun m => { m with lastTrigger := m.lastTrigger.set src (some at_count) }).followSource src.val

/-- The count at which an axis passed a position on its way from `before`, at its last sample, to where it is now: it moves evenly between two samples (DESIGN CHOICE, log entry 29). -/
def State.passedAt (s : State) (a : Axis) (before position : Int) : Nat :=
  let moved := max 1 (signed 32 (pattern 32 (a.position - before))).toNat
  let way := min moved (signed 32 (pattern 32 (position - before))).toNat
  a.sampledAt + (divRne ((way * (s.now - a.sampledAt) : Nat) : Int) moved).toNat

/-- The encoder of an axis, whose last sample was at `before`, is trigger source 8 + axis: one event each time the position, a 32-bit count, has advanced by the division (R346). -/
def State.encoderSource (s : State) (k : Fin 16) (before : Int) : State :=
  let a := s.motion.axes[k]
  let division := max 1 (s.nat (ob 0x4070 (k.val + 9)))
  let events := (signed 32 (pattern 32 (a.position - a.sourcePos))).toNat / division
  (List.range events).foldl (fun acc j => acc.sourceEvent ⟨k.val + 8, by omega⟩ (s.passedAt a before (a.sourcePos + (j + 1) * division)))
    (s.modAxis k fun a => { a with sourcePos := signed 32 (pattern 32 (a.sourcePos + events * division)), sampledAt := s.now })

/-- The sample of one axis at a sample count: position by encoder mode, currents of the channels that are not stuck; a stuck channel recovers when its bits hold both levels again (R337 to R339). -/
def State.sampleAxis (s : State) (x : AxisSample) : State :=
  let k := x.axis
  let mode := s.nat (axisObj k.val 0x0A)
  let osr := s.nat (axisObj k.val 9)
  let live (stuck : Bool) (sum : Nat) : Bool := !stuck || decide (0 < sum ∧ sum < osr ^ 3)
  let s1 := s.modAxis k fun a =>
    { a with
      stuckA := a.stuckA && !live a.stuckA x.sumA
      stuckB := a.stuckB && !live a.stuckB x.sumB
      stuckC := a.stuckC && !live a.stuckC x.sumC
      currentA := if live a.stuckA x.sumA then currentOf osr x.sumA else a.currentA
      currentB := if live a.stuckB x.sumB then currentOf osr x.sumB else a.currentB
      currentC := if live a.stuckC x.sumC then currentOf osr x.sumC else a.currentC }
  let s2 :=
    if mode = 0 then s1
    else if x.error ≠ 0 then s1.encoderError k mode x.error
    else if mode = 2 then
      match s.motion.axes[k].pendingSsi with
      | some (p, at_count) => s1.modAxis k fun a => { a with position := p, ageNs := s.now - at_count, invalid := false, pendingSsi := none }
      | none => s1
    else s1.modAxis k fun a =>
      { a with position := signed 32 (pattern 32 x.position), ageNs := if mode = 1 then 0 else 500 + x.ageNs, invalid := false }
  s2.encoderSource k s.motion.axes[k].position

/-- Whether a digital input is active: its accepted level in its configured polarity (R341). -/
def State.inputActive (s : State) (k : Fin 32) : Bool :=
  s.motion.inputs[k].level != bit (s.nat (ob 0x4050 (k.val + 1))) 0

/-- A word with one bit per digital input. -/
def inputWord (f : Fin 32 → Bool) : Nat := (idxs 32).foldl (fun m k => m ||| (b2n (f k)) <<< k.val) 0

/-- The last result of the general ADC channel in a byte of 0x4010:0E; 0 where none (R332). -/
def State.generalAdc (s : State) (sel : Nat) : Nat :=
  if h : sel < 32 then pattern 16 s.motion.adcs[(⟨sel, h⟩ : Fin 32)].value else 0

/-- The axis input record of axis k (R332). -/
def State.axisRecord (s : State) (k : Fin 16) : Nat :=
  let a := s.motion.axes[k]
  let sel := s.nat (axisObj k.val 0x0E)
  let flags := b2n a.invalid ||| at_ 1 1 (b2n a.newCapture) ||| at_ 1 2 (b2n a.indexSeen)
    ||| at_ 1 3 (b2n (a.stuckA || a.stuckB || a.stuckC)) ||| at_ 1 4 (b2n a.clamped) ||| at_ 1 5 (b2n (!s.effective k.val))
  atI 32 224 a.position ||| atI 32 192 a.capturePos ||| atI 32 160 a.currentA ||| atI 32 128 a.currentB ||| atI 32 96 a.currentC
    ||| atI 32 64 ((a.captureAt : Int) - s.now) ||| at_ 16 48 (s.generalAdc (bits sel 7 0)) ||| at_ 16 32 (s.generalAdc (bits sel 15 8))
    ||| at_ 16 16 (min 0xFFFF (divUp a.ageNs 2)) ||| at_ 4 12 k.val ||| flags

/-- The beat input header over the axes of a mask (R332). -/
def State.inputHeader (s : State) (beat axes : Nat) : Nat :=
  let upper := at_ 64 192 beat ||| at_ 64 128 s.now ||| at_ 32 96 (inputWord fun k => s.inputActive k)
    ||| at_ 32 64 (inputWord fun k => s.motion.inputs[k].chatter) ||| at_ 32 32 (inputWord fun k => s.motion.inputs[k].stuck) ||| at_ 16 16 axes
  upper ||| crc16 ((leBytes 32 upper).drop 2)

/-- Where the input records of an axis go: the place of its fast channel in a pinned block's scratchpad, or its buffer in a region memory, as the image declares them (R329, R330). -/
def State.inputPlace (s : State) (k : Fin 16) : Option MemRef :=
  let channel := s.nat (axisObj k.val 3)
  match s.launch.image with
  | none => none
  | some im =>
    if channel < 4 then (im.pinned.find? fun e => e.1.val == channel).map fun e => e.2
    else (im.inputBuffers.find? fun e => e.1 == k).map fun e => e.2

/-- The beat's input records reach their places: to each the beat input header, with the axes whose records follow there, and those records in ascending axis order (R329, R330, R332; DESIGN CHOICE, log entry 67). -/
def State.deliverInputs (s : State) (beat : Nat) (axes : List (Fin 16)) : State :=
  let places := (axes.filterMap fun k => s.inputPlace k).dedup
  places.foldl (fun acc p =>
    let mine := axes.filter fun k => s.inputPlace k == some p
    let data := leBytes 32 (s.inputHeader beat (mine.foldl (fun m k => m ||| 1 <<< k.val) 0)) ++ mine.flatMap fun k => leBytes 32 (s.axisRecord k)
    if p.inside data.length then acc.store p data else acc) s

/-- At the sample count of a beat, the samples of the loop axes form one beat input record, which reaches the places that the image declares (R329, R330, R332). -/
def State.sampleBeat (s : State) (beat : Nat) (samples : List AxisSample) : State :=
  let axes := (idxs 16).filter fun k => s.loopBeat k.val beat
  if axes.isEmpty then s
  else
    let s1 := (samples.filter fun x => axes.contains x.axis).foldl State.sampleAxis s
    let mask := axes.foldl (fun m k => m ||| 1 <<< k.val) 0
    let s2 := (s1.deliverInputs beat axes).emit (.inputRecord beat s.now (s1.inputHeader beat mask) (axes.map s1.axisRecord))
    axes.foldl (fun acc k => acc.modAxis k fun a => { a with newCapture := false, clamped := false }) s2

/-! ## Encoders, currents and converters -/

/-- Gray code to binary (R339). -/
def grayDecode (w n : Nat) : Nat := (List.range w).foldl (fun acc i => acc ^^^ (n >>> i)) 0 % 2 ^ w

/-- The beat whose release count a count is, in a launch (R78, R82). -/
def State.releaseCountOf (s : State) (count : Nat) : Option Nat :=
  s.launch.run.bind fun run =>
    if run.start ≤ count ∧ (count - run.start) % (max 1 run.period) = 0 then some ((count - run.start) / max 1 run.period) else none

/-- Whether an axis latches its SSI position now: the encoder advance before the sample count of one of its loop beats (R327, R339). -/
def State.ssiDue (s : State) (k : Fin 16) : Bool :=
  s.nat (axisObj k.val 0x0A) == 2 && (s.releaseCountOf (s.now + s.nat (axisObj k.val 0x0D))).any fun n => s.loopBeat k.val n

/-- R339: an SSI frame is clocked in; a low data line at its first edge, or an incomplete frame, is a timeout. -/
def State.ssiLatch (s : State) (k : Fin 16) (frame : BitVec 40) (dataLow complete : Bool) : State :=
  let cfg := s.nat (axisObj k.val 0x0C)
  let w := bits cfg 5 0
  let raw := frame.toNat % 2 ^ w
  if !s.ssiDue k then s
  else if dataLow || !complete then s.encoderError k 2 3
  else s.modAxis k fun a => { a with pendingSsi := some (signed 32 (if bit cfg 7 then grayDecode w raw else raw), s.now) }

/-- R339: an edge of the index input of a quadrature encoder, or of the capture input, latches the position and its count. -/
def State.capture (s : State) (k : Fin 16) (index : Bool) (position : Int) : State :=
  if index && s.nat (axisObj k.val 0x0A) != 1 then s
  else s.modAxis k fun a =>
    { a with capturePos := position, captureAt := s.now, newCapture := true, indexSeen := a.indexSeen || index }

/-- Whether a current channel is stuck (R338). -/
def Axis.legStuck (a : Axis) (leg : Fin 3) : Bool := if leg = 0 then a.stuckA else if leg = 1 then a.stuckB else a.stuckC

/-- R338: a channel that becomes stuck is frozen, counted and recorded. -/
def State.channelStuck (s : State) (k : Fin 16) (leg : Fin 3) : State :=
  if s.motion.axes[k].legStuck leg then s
  else ((s.modAxis k fun a =>
    { a with stuckA := a.stuckA || leg == 0, stuckB := a.stuckB || leg == 1, stuckC := a.stuckC || leg == 2 }).bump (ob 0x4080 8)).fault
      0x0A07 (unitLoc k.val) leg.val

/-- R338, R375: the fast path compares with the Crust's threshold; above it cause 5 fires for the axis. -/
def State.overCurrent (s : State) (k : Fin 16) (value : Int) : State :=
  let above := decide ((s.nat (crustAxis k.val 9) : Int) < value.natAbs)
  let s1 := s.modCrust fun c =>
    { c with overCurrent := if above then c.overCurrent ||| (1 : BitVec 16) <<< k.val else c.overCurrent &&& ~~~((1 : BitVec 16) <<< k.val) }
  if above then s1.react 5 0 (1 <<< k.val) else s1

/-- The source of a converter channel's starts: 0 beat, 1 continuous, 2 time trigger; a channel that an enabled sin/cos axis claims runs continuously (R339, R340). -/
def State.adcSource (s : State) (ch : Fin 32) : Nat :=
  let k := ch.val / 2
  if s.flag (axisObj k 1) && s.nat (axisObj k 0x0A) == 3 then 1 else s.nat (ob 0x4040 (ch.val + 1)) % 4

/-- Whether a conversion of a channel starts now: the ADC advance before a sample count, at L + 500·k ns, or at an edge of its trigger channel (R340). -/
def State.adcDue (s : State) (ch : Fin 32) : Bool :=
  match s.adcSource ch with
  | 0 => (s.releaseCountOf (s.now + s.nat (ob 0x4040 0x21))).isSome
  | 1 => s.launch.run.any fun run => decide (run.start ≤ s.now ∧ (s.now - run.start) % 500 = 0)
  | 2 =>
    let c := bits (s.nat (ob 0x4040 (ch.val + 1))) 15 8
    if h : c < 64 then (s.time.lastEdge[c]).any fun e => decide (e ≤ s.now + 1 ∧ s.now ≤ e + 1) else false
  | _ => false

/-- R340: a start that falls while the channel's previous conversion runs is not made and is counted. -/
def State.adcStart (s : State) (ch : Fin 32) : State :=
  if !s.adcDue ch then s
  else if s.motion.adcs[ch].started.any fun st => decide (s.now < st + 500) then s.bump (ob 0x4080 9)
  else s.modAdc ch fun a => { a with started := some s.now }

/-- R340: a result is ready 500 ns after its start. -/
def State.adcDone (s : State) (ch : Fin 32) (value : Int) : State :=
  match s.motion.adcs[ch].started with
  | none => s
  | some st =>
    if s.now < st + 500 then s
    else s.modAdc ch fun a => { a with started := none, value := clampI (-32768) 32767 value, valueAt := st }

/-! ## Digital inputs (R341 to R347) -/

/-- Fields of an input's configuration word (R341). -/
def State.inputCfg (s : State) (k : Fin 32) : Nat := s.nat (ob 0x4050 (k.val + 1))

/-- R342 to R345: a raw level held for the glitch time is accepted; the edge is stamped with the raw transition, rate-monitored, and may begin chatter or end the stuck state. -/
def State.acceptEdge (s : State) (k : Fin 32) (raw : Bool) : State :=
  let cfg := s.inputCfg k
  let stamp := s.now - bits cfg 15 2 * 10
  let i := s.motion.inputs[k]
  let source := decide (k.val < 8) && bit cfg 1
  let edges := (i.edges.filter fun e => decide (stamp < e + bits cfg 35 24 * 1000000)) ++ [stamp]
  let s0 := s.modInput k fun i => { i with raw := raw, rawAt := stamp }
  if i.chatter || raw == i.level then s0
  else if !source && decide (bits cfg 23 16 ≠ 0 ∧ bits cfg 23 16 < edges.length) then
    ((s0.modInput k fun i => { i with chatter := true, edges := edges, activeSince := none, stuck := false }).bump (ob 0x4080 3)).fault
      0x0A03 (unitLoc k.val) edges.length
  else
    let active := raw != bit cfg 0
    let s1 := s0.modInput k fun i =>
      { i with level := raw, edges := edges, activeSince := if active then some stamp else none, stuck := i.stuck && active }
    let s2 := if i.stuck && !active then s1.fault 0x0A0A (unitLoc k.val) 2 else s1
    if h : k.val < 8 then (if source && active then s2.sourceEvent ⟨k.val, by omega⟩ stamp else s2) else s2

/-- R344: after the quiet time without raw edges the input leaves chatter and takes its present level. -/
def State.chatterQuiet (s : State) (k : Fin 32) : State :=
  let i := s.motion.inputs[k]
  let active := i.raw != bit (s.inputCfg k) 0
  if i.chatter && decide (i.rawAt + bits (s.inputCfg k) 47 36 * 1000000 ≤ s.now) then
    (s.modInput k fun i => { i with chatter := false, level := i.raw, edges := [], activeSince := if active then some s.now else none }).fault
      0x0A0A (unitLoc k.val) 1
  else s

/-- R345: an input active for longer than max_active is stuck; 0 disables, chatter stops the timer. -/
def State.inputStuck (s : State) (k : Fin 32) : State :=
  let i := s.motion.inputs[k]
  let limit := bits (s.inputCfg k) 63 48
  match i.activeSince with
  | none => s
  | some a =>
    if limit ≠ 0 ∧ !i.chatter ∧ !i.stuck ∧ a + limit * 1000000 < s.now then
      ((s.modInput k fun i => { i with stuck := true }).bump (ob 0x4080 4)).fault 0x0A04 (unitLoc k.val) (at_ 32 0 (divRne ((s.now - a : Nat) : Int) 1000000).toNat)
    else s

/-! ## Sensor supplies (R349 to R352) -/

/-- R352: a supply command; in the output-off state a supply whose action is off stays off. -/
def State.supplyCommand (s : State) (k : Fin 16) (v : Nat) : State :=
  if !s.crust.state.drives && bit (s.nat (ob 0x4830 (3 + k.val))) 7 && decide (v ≠ 0) then s.modSupply k fun p => { p with command := v }
  else s.modSupply k fun p => supplyDo s.power.fieldOk p v

/-- R351: a supply switches off for a short (1) or overload (2): retry after 100 ms, latched off at the fourth switch-off within 10 s. -/
def State.supplyOff (s : State) (k : Fin 16) (cause : Nat) : State :=
  let p := s.motion.supplies[k]
  if p.state = 1 ∨ p.state = 2 then
    let offs := (p.offs.filter fun o => decide (s.now < 10000000000 + o)) ++ [s.now]
    let latch := decide (4 ≤ offs.length)
    let s1 := ((s.modSupply k fun p =>
      { p with state := if latch then 5 else 4, offs := offs, offAt := s.now, cause := cause }).bump (ob 0x4080 7)).fault
        0x0A08 (unitLoc k.val) (at_ 8 0 cause ||| at_ 8 8 offs.length)
    if latch then s1.fault 0x0A09 (unitLoc k.val) cause else s1
  else s

/-- R351: after 100 ms off a supply switches on again. -/
def State.supplyRetried (s : State) (k : Fin 16) : State :=
  let p := s.motion.supplies[k]
  if p.state = 4 ∧ 100000000 + p.offAt ≤ s.now ∧ s.power.fieldOk then s.modSupply k fun p => { p with state := p.command } else s

/-- R352: a discharged supply switches on at its new voltage and carries out the command latched meanwhile. -/
def State.supplyDischarged (s : State) (k : Fin 16) : State :=
  let p := s.motion.supplies[k]
  if p.state = 3 then
    let on : Supply := { p with state := if s.power.fieldOk then p.command else 0, latched := none }
    s.modSupply k fun _ => match p.latched with
      | some v => supplyDo s.power.fieldOk on v
      | none => on
  else s

/-! ## Digital outputs (R492) -/

/-- R492: thermal shutdown of a digital output. -/
def State.thermalShutdown (s : State) (o : Fin 32) (milliamps : Nat) : State :=
  if s.motion.outputs[o].thermal then s
  else ((s.modOutput o fun d => { d with thermal := true, level := false }).bump (ob 0x4080 0x0A)).fault 0x0A0B (unitLoc o.val) (min milliamps (2 ^ 32 - 1))

/-- R492: it restarts by itself after cooling. -/
def State.thermalRestart (s : State) (o : Fin 32) : State :=
  if s.motion.outputs[o].thermal then
    let s1 := s.modOutput o fun d => { d with thermal := false }
    if s.motion.outputs[o].waiting then s1 else s1.driveOutput o s.motion.outputs[o].asked
  else s

/-! ## The commands -/

/-- R340. -/
def execAdcConversionStart (t : Nat) (ch : Fin 32) (s : State) : Host.Outcome State Fault Refusal := .next ((s.advance t).adcStart ch)

/-- R340. -/
def execAdcConversionComplete (t : Nat) (ch : Fin 32) (value : Int) (s : State) : Host.Outcome State Fault Refusal :=
  .next ((s.advance t).adcDone ch value)

/-- R339. -/
def execSsiPositionLatch (t : Nat) (axis : Fin 16) (frame : BitVec 40) (dataLow complete : Bool) (s : State) : Host.Outcome State Fault Refusal :=
  .next ((s.advance t).ssiLatch axis frame dataLow complete)

/-- R339. -/
def execCaptureEvent (t : Nat) (axis : Fin 16) (index : Bool) (position : Int) (s : State) : Host.Outcome State Fault Refusal :=
  .next ((s.advance t).capture axis index position)

/-- R331, R335. -/
def execCarrierUpdatePoint (t : Nat) (axis : Fin 16) (s : State) : Host.Outcome State Fault Refusal := .next ((s.advance t).carrierUpdate axis)

/-- R338. -/
def execCurrentChannelStuck (t : Nat) (axis : Fin 16) (leg : Fin 3) (s : State) : Host.Outcome State Fault Refusal :=
  .next ((s.advance t).channelStuck axis leg)

/-- R338, R375. -/
def execOverCurrentTrip (t : Nat) (axis : Fin 16) (value : Int) (s : State) : Host.Outcome State Fault Refusal :=
  .next ((s.advance t).overCurrent axis value)

/-- R342. -/
def execDigitalInputEdge (t : Nat) (input : Fin 32) (raw : Bool) (s : State) : Host.Outcome State Fault Refusal :=
  .next ((s.advance t).acceptEdge input raw)

/-- R344. -/
def execChatterQuietTimeout (t : Nat) (input : Fin 32) (s : State) : Host.Outcome State Fault Refusal := .next ((s.advance t).chatterQuiet input)

/-- R345. -/
def execInputStuckTimeout (t : Nat) (input : Fin 32) (s : State) : Host.Outcome State Fault Refusal := .next ((s.advance t).inputStuck input)

/-- R350. -/
def execSupplyShort (t : Nat) (k : Fin 16) (s : State) : Host.Outcome State Fault Refusal := .next ((s.advance t).supplyOff k 1)

/-- R349. -/
def execSupplyOverloadTimeout (t : Nat) (k : Fin 16) (s : State) : Host.Outcome State Fault Refusal := .next ((s.advance t).supplyOff k 2)

/-- R351. -/
def execSupplyRetry (t : Nat) (k : Fin 16) (s : State) : Host.Outcome State Fault Refusal := .next ((s.advance t).supplyRetried k)

/-- R352. -/
def execSupplyDischargeComplete (t : Nat) (k : Fin 16) (s : State) : Host.Outcome State Fault Refusal := .next ((s.advance t).supplyDischarged k)

/-- R492. -/
def execDigitalOutputThermalShutdown (t : Nat) (o : Fin 32) (milliamps : Nat) (s : State) : Host.Outcome State Fault Refusal :=
  .next ((s.advance t).thermalShutdown o milliamps)

/-- R492. -/
def execDigitalOutputRestart (t : Nat) (o : Fin 32) (s : State) : Host.Outcome State Fault Refusal := .next ((s.advance t).thermalRestart o)

end Sys2Proof.Machine
end

