-- ==== Sys2Proof/Machine/Crust.lean ====
section
/-!
DEFINITION. The Crust (R354 to R382): comparison and conservative results, disagreement windows, deadline misses, its own tests, parameter sets, SRDOs and the reset input.
-/

namespace Sys2Proof.Machine

/-! ## Comparison of class C command frames (R363, R364) -/

/-- The record of a frame for an axis. -/
def frameRecord (f : Frame) (k : Fin 16) : Option CmdRecord := f.records.find? fun r => r.axis == k

/-- The duty nearer the one applied; on a tie the lower (R364). -/
def nearer (applied a b : Nat) : Nat :=
  let da := (applied - a) + (a - applied)
  let db := (applied - b) + (b - applied)
  if da < db then a else if db < da then b else min a b

/-- The duties differ by more than the axis's duty tolerance (R363). -/
def dutyDiffers (tol a b : Nat) : Bool := decide (a + tol < b ∨ b + tol < a)

/-- The conservative record of an axis and the fields in which two records differ: 0 axis_enable, 1 leg_enable, 2 to 4 the duties, 7 presence; a record in one frame only is disabled (R363, R364). -/
def State.compareRecord (s : State) (k : Fin 16) (p q : Option CmdRecord) : Option CmdRecord × List Nat :=
  match p, q with
  | none, none => (none, [])
  | some a, none => (some { a with enable := false }, [7])
  | none, some b => (some { b with enable := false }, [7])
  | some a, some b =>
    let tol := s.nat (crustAxis k.val 0x0B)
    let x := s.motion.axes[k]
    (some { axis := k, enable := a.enable && b.enable, legs := a.legs &&& b.legs, dutyA := nearer x.prevA a.dutyA b.dutyA,
            dutyB := nearer x.prevB a.dutyB b.dutyB, dutyC := nearer x.prevC a.dutyC b.dutyC, reserved := a.reserved },
     (if a.enable = b.enable then [] else [0]) ++ (if a.legs = b.legs then [] else [1]) ++ (if dutyDiffers tol a.dutyA b.dutyA then [2] else [])
      ++ (if dutyDiffers tol a.dutyB b.dutyB then [3] else []) ++ (if dutyDiffers tol a.dutyC b.dutyC then [4] else []))

/-- Where the levels of two frames differ, each output takes its output-off level (R364). -/
def State.conservativeLevel (s : State) (a b : BitVec 32) : BitVec 32 :=
  let off := BitVec.ofNat 32 (s.nat (ob 0x4830 2))
  (a &&& ~~~(a ^^^ b)) ||| (off &&& (a ^^^ b))

/-- R363, R364: the fields in which two frames disagree, numbered 16·axis + field with 5 do_level and 6 do_mask, and the conservative frame. -/
def State.compareFrames (s : State) (p q : Frame) : List Nat × Frame :=
  let recs := (idxs 16).map fun k => (k, s.compareRecord k (frameRecord p k) (frameRecord q k))
  let fields := recs.flatMap fun e => e.2.2.map fun f => 16 * e.1.val + f
  let f : Frame := { p with doLevel := s.conservativeLevel p.doLevel q.doLevel, doMask := p.doMask ||| q.doMask, records := recs.filterMap fun e => e.2.1 }
  (fields ++ (if p.doLevel = q.doLevel then [] else [5]) ++ (if p.doMask = q.doMask then [] else [6]),
   { f with crc := if frameOk p then BitVec.ofNat 16 (crc16 (frameBody f)) else p.crc })

/-! ## Comparison of other outputs (R363, R364) -/

/-- Edges of a box within a tolerance in sixteenths. -/
def boxAgrees (tol : Nat) (a b : Verdict) : Bool :=
  !dutyDiffers tol a.xMin b.xMin && !dutyDiffers tol (a.xMin + a.width) (b.xMin + b.width) && !dutyDiffers tol a.yMin b.yMin
    && !dutyDiffers tol (a.yMin + a.height) (b.yMin + b.height)

/-- R363: whether two verdict batches compare equal. -/
def batchesAgree (tol : Nat) (a b : Batch) : Bool :=
  a.records.length == b.records.length &&
    (a.records.zip b.records).all fun e => e.1.cls == e.2.cls && e.1.detectionId == e.2.detectionId && boxAgrees tol e.1 e.2

/-- A batch with its suspect flag (R364, R369). -/
def suspectBatch (b : Batch) : Batch := { b with flags := b.flags ||| 0x80 }

/-- The output's entry in the running image. -/
def State.outputEntry (s : State) (out : Nat) : Option ImageOutput := s.launch.image.bind fun im => im.outputs.find? fun o => o.out == out

/-- The fields of two outputs that differ beyond their tolerance, the declared one capped by 0x4878:03; a field with none is exact (R363). -/
def State.compareFields (s : State) (tols : List (Option Nat)) (a b : List Int) : List Nat :=
  (List.range (max a.length b.length)).filter fun k =>
    match a[k]?, b[k]? with
    | some x, some y => match (tols.getD k none) with
      | some tol => decide ((min tol (s.nat (ob 0x4878 3)) : Int) < x - y ∨ (min tol (s.nat (ob 0x4878 3)) : Int) < y - x)
      | none => x != y
    | _, _ => true

/-- R363, R364: the fields in which two payloads disagree and the result emitted then. -/
def State.comparePayloads (s : State) (out : Nat) (p q : Payload) : List Nat × Payload :=
  let e := s.outputEntry out
  let tols := match e with
    | some o => o.tolerances
    | none => []
  let cons := match e with
    | some o => o.conservative
    | none => []
  match p, q with
  | .frame a, .frame b => let c := s.compareFrames a b; (c.1, .frame c.2)
  | .batch a, .batch b => (if batchesAgree (s.nat (ob 0x4878 4)) a b then [] else [0], .batch (suspectBatch a))
  | .canFrame ctl ident data, .canFrame ctl' ident' data' =>
    (if ctl = ctl' ∧ ident = ident' ∧ data = data' then [] else [0], .canFrame ctl ident (cons.map fun v => BitVec.ofInt 8 v))
  | .fields a, .fields b => (s.compareFields tols a b, .fields cons)
  | .bytes a, .bytes b => (if a = b then [] else [0], .bytes (cons.map fun v => BitVec.ofInt 8 v))
  | a, _ => ([0], a)

/-- The axes of an output: those of its entry in the image, or those of its frame. -/
def State.outputAxes (s : State) (out : Nat) (p : Payload) : BitVec 16 :=
  let axes : List (Fin 16) := match s.outputEntry out with
    | some o => o.axes
    | none => match p with
      | .frame f => f.records.map fun r => r.axis
      | _ => []
  axes.foldl (fun (m : BitVec 16) k => m ||| ((1 : BitVec 16) <<< k.val)) 0

/-! ## Disagreements and misses (R364 to R366, R369) -/

/-- R364 to R366: the counts, the suspect beat, and causes 1 and 2 at the second disagreement in 8 beats, and of one region in 64; fault 0x0B01, unless a cause reacts (R375). -/
def State.disagree (s : State) (beat out region field kind : Nat) (axes : BitVec 16) : State :=
  let old := s.crust.disagreed.filter fun e => decide (beat < e.1 + 64)
  let near := old.filter fun e => decide (beat < e.1 + 8)
  let same := old.filter fun e => e.2.1 == region
  let axesOf (l : List (Nat × Nat × Nat)) : BitVec 16 := l.foldl (fun m e => m ||| s.outputAxes e.2.2 (.fields [])) axes
  let causes := (if near.isEmpty then [] else [(1, axesOf near)]) ++ (if same.isEmpty then [] else [(2, axesOf same)])
  ((s.modCrust fun c => { c with disagreed := old ++ [(beat, region, out)], suspectBeat := beat }).bump (ob 0x4880 1)).reactOrFault causes 0x0B01
    (.ofRegion region) (at_ 32 32 beat ||| at_ 16 16 out ||| at_ 8 8 field ||| at_ 8 0 kind)

/-- R369: a missed output: of class C it is counted, and cause 4 fires when its run of misses reaches the limit; fault 0x0B03, unless the cause reacts (R375). -/
def State.miss (s : State) (beat out : Nat) (classC : Bool) (axes : BitVec 16) : State :=
  let detail := at_ 32 32 beat ||| at_ 16 16 out ||| b2n classC
  if !classC then s.fault 0x0B03 .chip detail
  else
    let n := (get? s.crust.misses out).getD 0 + 1
    let fires := decide (s.nat (ob 0x4878 7) ≤ n)
    ((s.modCrust fun c => { c with misses := put c.misses out (if fires then 0 else n) }).bump (ob 0x4880 3)).reactOrFault
      (if fires then [(4, axes)] else []) 0x0B03 .chip detail

/-- An output of class C that was emitted ends its run of misses. -/
def State.clearMisses (s : State) (out : Nat) : State := s.modCrust fun c => { c with misses := del c.misses out }

/-- The region that serves as the checker, 0xFF for none (R25). -/
def State.checkerNumber (s : State) : Nat :=
  match s.regionOf 1 with
  | some r => r.val
  | none => 0xFF

/-- R367: whether an output of a region is emitted uncompared. -/
def State.uncompared (s : State) (region : Nat) : Bool :=
  match s.crust.single with
  | some x => x.cause == 2 || x.region == region
  | none => false

/-- What R363 to R365 and R368 make of a class C output at its release count: nothing (a miss), or the payload emitted with its source (0 primary, 1 shadow, 2 conservative, 3 uncompared) and the disagreement: region, field, kind. -/
inductive Verdict3 where
  | missed
  | emitted (p : Payload) (source : Nat) (why : Option (Nat × Nat × Nat))
deriving DecidableEq, Repr

/-- R363 to R365, R368. -/
def State.judgeOutput (s : State) (r : Report) : Verdict3 :=
  let region := match s.outputEntry r.out with
    | some o => o.region.val
    | none => 0xFF
  let p := r.primary
  let shadow := match r.shadow with
    | some q => if q.complete && !q.invalid then some q.payload else none
    | none => none
  if !p.complete then .missed
  else if p.invalid then
    match shadow with
    | some q => .emitted q 1 (some (region, 0, 2))
    | none => .missed
  else if s.uncompared region then .emitted p.payload 3 none
  else match shadow with
    | none => .emitted p.payload 0 (some (s.checkerNumber, 0, 3))
    | some q =>
      match s.comparePayloads r.out p.payload q with
      | ([], _) => .emitted p.payload 0 none
      | (f :: _, c) => .emitted c 2 (some (region, f, 1))

/-! ## Faults of the Crust itself and single channel (R355, R367) -/

/-- R355: output-off is forced in hardware until the restart. -/
def State.crustDown (s : State) : State := (s.modCrust fun c => { c with hwOff := true }).outputOff

/-- R355: the cores have restarted: the output-off state stays latched by cause 12, whose fault 0x0B02 is written now. -/
def State.crustUp (s : State) : State :=
  if s.crust.hwOff then (s.modCrust fun c => { c with hwOff := false }).reactAt 2 12 0 0 0 else s

/-- R367: the single-channel limit expires and cause 3 fires once. -/
def State.singleExpired (s : State) : State :=
  match s.crust.single with
  | none => s
  | some x =>
    if s.now < x.since + 1000000 * s.nat (ob 0x4878 5) ∨ s.crust.latches.any (fun l => l.cause == 3) then s else s.react 3 0x0B07 0

/-! ## Proof-window tests (R370 to R373) -/

/-- R373: a comparator test that cannot run; the third due window in a row is overdue: fault 0x0B04, or cause 8. -/
def State.comparatorSkipped (s : State) : State :=
  let n := s.crust.compMissed + 1
  let s1 := s.modCrust fun c => { c with compMissed := n }
  if n = 3 then s1.reactOrFault [(8, 0xFFFF)] 0x0B04 (.ofRegion 0xFF) (at_ 8 8 0xFF ||| 1) else s1

/-- R372, R373: the comparator must report a disagreement in exactly the field flipped; a failed test triggers cause 7. -/
def State.comparatorTested (s : State) (field : Nat) (ran : Bool) (reported : List Nat) : State :=
  if !ran then s.comparatorSkipped
  else
    let s1 := s.modCrust fun c => { c with compMissed := 0 }
    if reported = [field] then s1.bump (ob 0x4880 5) else s1.react 7 0 0

/-- R371: whether the Crust accepts the running image's starter-frame library. -/
def State.libraryAccepted (s : State) (im : Image) : Bool :=
  match s.crust.active with
  | some p => !p.imageBound || p.imageHash == im.hash
  | none => true

/-- R373: a region test that cannot run; the third due window in a row is overdue. -/
def State.starterSkipped (s : State) (r : Fin 10) (b : Fin 18) : State :=
  let n := (s.block r b).testMissed + 1
  let s1 := s.modBlock r b fun x => { x with testMissed := n }
  if n = 3 then s1.fault 0x0B04 (.ofRegion r.val) (at_ 8 8 b.val ||| 2) else s1

/-- R372: a starter frame ran: a mismatch with a located cell is one of R143 and follows R144, its fault with a free sequence and lane (R38); without one it writes fault 0x0B05, and the second in a row retires the block. -/
def State.starterRan (s : State) (r : Fin 10) (b : Fin 18) (expected frame crc : Nat) (cell : Option (Fin 65)) : State :=
  let s1 := (s.modBlock r b fun x => { x with testMissed := 0 }).bump (ob 0x4880 4)
  if crc = expected then s1.modBlock r b fun x => { x with starterMiss := 0 }
  else match cell with
    | some c =>
      let d := s1.drawNat 68 40 [c.val]
      d.2.residueMismatch r b c (d.1 % 64) 1 (d.1 / 256) 0
    | none =>
      let n := (s.block r b).starterMiss + 1
      let s2 := (s1.modBlock r b fun x => { x with starterMiss := n }).fault 0x0B05 (.ofBlock r.val b.val) (at_ 32 32 crc ||| at_ 32 0 frame)
      if 2 ≤ n then (s2.modBlock r b fun x => { x with starterMiss := 0 }).retireBlock r b 1 else s2

/-- Whether a block can be tested: neither retired nor being swapped, its region's logic and memories on (R373). -/
def State.testable (s : State) (r : Fin 10) (b : Fin 18) : Bool :=
  (s.block r b).role != 2 && !(s.service.swaps.any fun w => w.region == r && w.block == b) && s.power.domains[(⟨r.val, by omega⟩ : Fin 72)].state == 2
    && s.power.domains[sramDomain r].state == 2

/-- R371 to R373: a due window of the region test. -/
def State.starterTest (s : State) (r : Fin 10) (b : Fin 18) (ran : Bool) (frame crc : Nat) (cell : Option (Fin 65)) : State :=
  match s.launch.image with
  | none => s
  | some im =>
    match im.starterCrcs[frame]? with
    | some expected => if ran && s.testable r b && s.libraryAccepted im then s.starterRan r b expected frame crc cell else s.starterSkipped r b
    | none => s.starterSkipped r b

/-! ## Effective enables follow the masks (R375, R381) -/

/-- Axes that are no longer effective take their output-off pattern. -/
def State.syncAxes (s : State) : State :=
  (idxs 16).foldl (fun acc k =>
    match acc.motion.axes[k].pwm with
    | .drive _ _ _ => if acc.effective k.val then acc else acc.axisOff k
    | _ => acc) s

/-! ## Parameter sets (R379, R380) -/

/-- Every object of access crust. -/
def crustKeys : List Key :=
  (objs.filter fun r => r.acc == .crust).flatMap fun r =>
    (List.range (r.ihi + 1 - r.ilo)).flatMap fun i => (List.range (r.shi + 1 - r.slo)).map fun j => ob (r.ilo + i) (r.slo + j)

/-- R375's table: the levels allowed for a cause. -/
def levelAllowed (cause level : Nat) : Bool :=
  if cause = 3 ∨ cause = 6 ∨ cause = 7 ∨ cause = 12 then level == 2
  else if cause = 8 ∨ cause = 9 ∨ cause = 10 then decide (level ≤ 2)
  else level == 1 || level == 2

/-- The entries of a set: request items of R129 with their data; none where one is malformed. -/
def parseEntries (fuel : Nat) (bs : Bytes) : Option (List (Key × Bytes)) :=
  match fuel with
  | 0 => if bs.isEmpty then some [] else none
  | fuel + 1 =>
    let n := leAt bs 8 4
    let size := 12 + (n + 3) / 4 * 4
    if bs.length < size ∨ leAt bs 3 5 ≠ 0 then none
    else (parseEntries fuel (bs.drop size)).map fun rest => (ob (leAt bs 0 2) (leAt bs 2 1), (bs.drop 12).take n) :: rest

/-- The value of an entry: none where it names no crust object or its length does not match. -/
def entryValue (e : Key × Bytes) : Option (Key × Val) :=
  match rowOf e.1 with
  | some r => if r.acc = .crust then (r.ty.decode e.2).map fun v => (e.1, v) else none
  | none => none

/-- All the values of a set, or none where an entry is not one of a crust object or an object is named twice. -/
def setValues (entries : List (Key × Bytes)) : Option (List (Key × Val)) :=
  entries.foldl (fun acc e => match acc, entryValue e with
    | some l, some v => if (get? l v.1).isSome then none else some (put l v.1 v.2)
    | _, _ => none) (some [])

/-- A number of a set, 0 where it is missing. -/
def setNat (l : List (Key × Val)) (k : Key) : Nat := ((get? l k).getD (.int 0)).num.toNat

/-- R379: whether a value of a set lies within its hardware bound. -/
def boundOk (l : List (Key × Val)) (e : Key × Val) : Bool :=
  let i := e.1 / 256
  let j := e.1 % 256
  let v := setNat l e.1
  let range := match rowOf e.1 with
    | some r => r.rng.ok e.2
    | none => false
  range && (
    if 0x4820 ≤ i ∧ i ≤ 0x482F ∧ j = 3 then decide (setNat l (ob i 2) ≤ v)
    else if 0x4820 ≤ i ∧ i ≤ 0x482F ∧ j = 6 then decide (setNat l (ob i 5) ≤ v)
    else if i = 0x4830 ∧ 3 ≤ j then v % 4 != 3 && bits v 6 2 == 0
    else if i = 0x4870 then levelAllowed j v
    else if 0x4850 ≤ i ∧ i ≤ 0x4867 ∧ j = 4 then decide (v ≤ setNat l (ob 0x4870 9))
    else if i = 0x13FE then v == 0xA5
    else if 0x1381 ≤ i ∧ i ≤ 0x1388 ∧ 1 ≤ j ∧ v ≠ 0 then bits v 31 16 == 0x4800 || bits v 31 16 == 0x4840
    else true)

/-- The checksum of SRDO n (0 to 7) of a set: CRC-CCITT with initial value 0 over its direction, SCT, SRVT, COB-IDs and mapping (PRESUMED, EN 50325-5). -/
def srdoChecksum (l : List (Key × Val)) (n : Nat) : Nat :=
  let c := 0x1301 + n
  let m := 0x1381 + n
  let entries := mapEntries (fun k => setNat l (ob m k)) 16
  crc 16 0x1021 0 (leBytes 1 (setNat l (ob c 1)) ++ leBytes 2 (setNat l (ob c 2)) ++ leBytes 1 (setNat l (ob c 3)) ++ leBytes 4 (setNat l (ob c 5))
    ++ leBytes 4 (setNat l (ob c 6)) ++ leBytes 1 entries.length ++ entries.zipIdx.flatMap fun e => leBytes 1 (e.2 + 1) ++ leBytes 4 e.1)

/-- A range entry of the partition map (R358's table). -/
def rangeOf (v : Nat) : Range :=
  { base := bits v 127 92, size := bits v 91 56, space := bits v 55 48, region := bits v 47 40, block := bits v 39 32,
    cls := bits v 31 30, write := bit v 29, read := bit v 28 }

/-- The partition map of a DOMAIN: 16-byte header, 180 home classes padded to 192 bytes, a share table of 16 bytes whose first two are the shares of classes C and I, range entries (R358; the share table's layout is a DESIGN CHOICE). -/
def parseMap (bs : Bytes) : PartMap :=
  { home := ((bs.drop 16).take 180).map fun b => b.toNat
    shareC := leAt bs 208 1
    shareI := leAt bs 209 1
    ranges := (List.range ((bs.length - 224) / 16)).map fun k => rangeOf (leAt bs (224 + 16 * k) 16) }

/-- The space size in 4 KiB units. -/
def spaceUnits (space : Nat) : Nat := (if space = 0 then hbmSize else if space = 1 then rmemSize else spadSize) / 4096

/-- Whether a range entry lies within its space and names its region and block (R358). -/
def rangeOk (e : Range) : Bool :=
  decide (1 ≤ e.size ∧ e.base + e.size ≤ spaceUnits e.space ∧ e.space ≤ 2 ∧ e.cls ≠ 0) &&
    (if e.space = 0 then e.region == 0xFF && e.block == 0xFF
     else decide (e.region < 10) && if e.space = 2 then decide (e.block < 18) else e.block == 0xFF)

/-- Ranges of different classes that overlap (R358). -/
def rangesClash (a b : Range) : Bool :=
  a.cls != b.cls && a.space == b.space && a.region == b.region && a.block == b.block && decide (a.base < b.base + b.size ∧ b.base < a.base + a.size)

/-- R358, R360: whether a map keeps the limits. -/
def mapOk (bs : Bytes) : Bool :=
  let m := parseMap bs
  decide (224 ≤ bs.length ∧ bs.length % 16 = 0 ∧ m.shareC + m.shareI ≤ 56) && m.home.all (fun c => decide (1 ≤ c ∧ c ≤ 3)) && m.ranges.all rangeOk
    && (List.range m.ranges.length).all (fun k => leAt bs (224 + 16 * k) 16 % 2 ^ 28 == 0)
    && m.ranges.all (fun a => m.ranges.all fun b => !rangesClash a b)
    && decide ((m.ranges.filter fun e => e.space == 0).length ≤ 64)
    && (List.range 10).all fun r => (List.range 4).all fun c =>
        decide ((m.ranges.filter fun e => e.space != 0 && e.region == r && e.cls == c).length ≤ 32)

/-- The bytes of a map, as `parseMap` reads them. -/
def mapBytes (m : PartMap) : Bytes :=
  List.replicate 16 0 ++ m.home.map (fun c => BitVec.ofNat 8 c) ++ List.replicate 12 0 ++ leBytes 1 m.shareC ++ leBytes 1 m.shareI ++ List.replicate 14 0
    ++ m.ranges.flatMap fun e => leBytes 16 (at_ 36 92 e.base ||| at_ 36 56 e.size ||| at_ 8 48 e.space ||| at_ 8 40 e.region ||| at_ 8 32 e.block
        ||| at_ 2 30 e.cls ||| at_ 1 29 (b2n e.write) ||| at_ 1 28 (b2n e.read))

/-- Objects that only a launch-bound set may change: partition map, proof settings, SRDO configuration (R380). -/
def launchBoundKey (k : Key) : Bool := k / 256 == 0x4879 || k == ob 0x4878 8 || decide (0x1301 ≤ k / 256 ∧ k / 256 ≤ 0x13FF)

/-- The value that a crust object holds in the active set; the fused set's map as bytes. -/
def State.crustValue (s : State) (k : Key) : Val :=
  if k = ob 0x4879 1 ∧ s.crust.active.isNone then .bytes (mapBytes fusedMap) else s.obj k

/-- The sequence of the active set; the fused set has 0. -/
def State.activeSequence (s : State) : Nat :=
  match s.crust.active with
  | some p => p.seq
  | none => 0

/-- What a signed key record or parameter set does to key slots 1 to 3: 0 nothing, 1 program, 2 revoke, with the slot and the key. The manual gives no place for it in either, so all three are free values of the bytes (R379, R476); a slot is revoked under another one. -/
def keyActionOf (place signer : Nat) (bs : Bytes) : Nat × Nat × Bytes :=
  let v (k : Nat) (w : Nat) : Nat := pattern w (Config.free place k [(leNat bs : Int)])
  let op := v 0 2 % 3
  let slot := v 1 8 % 4
  (if op = 2 ∧ slot = signer then 0 else op, slot, leBytes 32 (v 2 256))

/-- R379, R476: an empty slot 1 to 3 is programmed once; a valid slot is revoked. -/
def applyKeyAction (slots : List (Nat × Bytes)) (a : Nat × Nat × Bytes) : List (Nat × Bytes) :=
  slots.mapIdx fun k e =>
    if k ≠ a.2.1 then e
    else if a.1 = 1 ∧ k ≠ 0 ∧ e.1 = 0 then (1, a.2.2)
    else if a.1 = 2 ∧ e.1 = 1 then (2, e.2)
    else e

/-- R379, R380: the staged set, or the reason for which it is refused, with its sequence. -/
def State.validateSet (s : State) (bs : Bytes) : Nat ⊕ ParamSet :=
  let h := leAt bs 0 64
  let seq := bits h 127 64
  let flags := bits h 191 160
  let slot := bits h 31 24
  let hash := (bs.drop 32).take 32
  let body := bs.take (bs.length - 68)
  let key := s.crust.keySlots.getD slot (0, [])
  let bound := bit flags 0
  let onLaunch := bit flags 1
  let running := match s.launch.image with
    | some im => im.hash == hash
    | none => false
  if bs.length < 132 ∨ bits h 15 0 ≠ 0xC057 ∨ bits h 23 16 ≠ 1 ∨ bits h 255 192 ≠ 0 ∨ 4 ≤ flags ∨ bits h 63 32 ≠ bs.length ∨ 262144 < bs.length then .inl 1
  else if crc32 body ≠ leAt bs (bs.length - 68) 4 then .inl 2
  else if !verifies key.2 (bs.take (bs.length - 64)) (bs.drop (bs.length - 64)) then .inl 3
  else if 3 < slot ∨ key.1 ≠ 1 then .inl 4
  else if seq ≤ s.activeSequence then .inl 5
  else if bound ∧ !running ∧ !(onLaunch && s.service.imgHash == hash) then .inl 6
  else match (parseEntries (bits h 159 128) (body.drop 64)).bind setValues with
    | none => .inl 1
    | some l =>
      let p : ParamSet := { values := l, map := parseMap ((get? l (ob 0x4879 1)).getD (.bytes [])).raw, seq := seq, imageBound := bound,
                            launchBound := onLaunch, imageHash := hash, hash := sha256 bs, keyAction := keyActionOf 44 slot bs }
      if !l.all (boundOk l) ∨ !(List.range 8).all (fun n => setNat l (ob 0x13FF (n + 1)) == srdoChecksum l n) then .inl 7
      else if !crustKeys.all (fun k => (get? l k).isSome) then .inl 8
      else if !mapOk ((get? l (ob 0x4879 1)).getD (.bytes [])).raw ∨ !onLaunch ∧ l.any (fun e => launchBoundKey e.1 && s.crustValue e.1 != e.2) then .inl 9
      else .inr p

/-- R380: a set is refused. -/
def State.refuseSet (s : State) (reason seq : Nat) : State :=
  ((s.modCrust fun c => { c with setState := 4, reason := reason, valid := none }).bump (ob 0x4880 7)).fault 0x0B09 (.ofUnit reason) seq

/-- R380: validation ends: the set is valid, or refused; an activation count that has passed is too late, but for a launch-bound set. -/
def State.finishValidation (s : State) : State :=
  if s.crust.setState ≠ 1 then s
  else
    let bs := s.raw (ob 0x4810 1)
    let seq := leAt bs 8 8
    match s.validateSet bs with
    | .inl reason => s.refuseSet reason seq
    | .inr p =>
      if !p.launchBound ∧ s.nat (ob 0x4810 2) < s.now then s.refuseSet 10 seq
      else s.modCrust fun c => { c with setState := 2, reason := 0, valid := some p }

/-- One object that the Crust bounds is clamped to the limits in force, and counted (R335, R357). -/
def State.tighten (s : State) (key : Key) : State :=
  match s.crustClamp key (s.int key) with
  | none => s
  | some (unit, kind, v) =>
    let s1 := (s.setObj key (.int v)).countClamp unit kind 0
    if h : key / 256 = 0x4060 ∧ key % 256 - 1 < 16 then s1.supplyCommand ⟨key % 256 - 1, h.2⟩ v.toNat else s1

/-- The objects that the Crust bounds (R335, R352). -/
def boundedKeys : List Key :=
  (List.range 16).flatMap fun k => [ob (0x4010 + k) 4, ob (0x4010 + k) 7, ob 0x4060 (k + 1)]

/-- SRDOs start anew with the active set (R381). -/
def State.startSrdos (s : State) : State :=
  s.modCrust fun c =>
    { c with requestMask := 0xFFFF, safeStop := false
             srdos := Vector.replicate 8 { Srdo.reset with lastValid := s.now } }

/-- R357, R380: a set becomes active and is stored; values beyond its limits are clamped; a key slot that it programs or revokes changes (R379); outputs that it disables take their output-off state. -/
def State.activateSet (s : State) (p : ParamSet) : State :=
  let s1 := (s.modCrust fun c => { c with active := some p, stored := some p, setState := 3, valid := none, keySlots := applyKeyAction c.keySlots p.keyAction }).startSrdos
  let s2 := boundedKeys.foldl (fun acc k => acc.tighten k) s1
  let s3 := (idxs 32).foldl (fun acc k =>
    if bit (acc.nat (ob 0x4830 1)) k.val then acc else acc.modOutput k fun o => { o with level := bit (acc.nat (ob 0x4830 2)) k.val }) s2
  s3.syncAxes

/-- R380: the set activates at the first release count at or after the activation count; a launch-bound one only at a launch. -/
def State.activateDue (s : State) : State :=
  match s.crust.valid with
  | some p => if p.launchBound ∨ s.now < s.nat (ob 0x4810 2) then s else s.activateSet p
  | none => s

/-- R380: a valid launch-bound set activates at beat 0 of a new launch. -/
def State.activateAtLaunch (s : State) : State :=
  match s.crust.valid with
  | some p => if p.launchBound then s.activateSet p else s
  | none => s

/-- 0x4810:03 with value 1 or 3: validation begins; a valid set that has not yet activated is cancelled (R380). -/
def State.setCommand (s : State) (v : Nat) : State :=
  if v = 1 then s.modCrust fun c => { c with setState := 1, reason := 0, valid := none }
  else if s.crust.setState = 2 then s.modCrust fun c => { c with setState := 0, valid := none }
  else s

/-! ## SRDOs (R381) -/

/-- The SRDO's direction: 1 transmit, 2 receive, 0 invalid (PRESUMED, EN 50325-5). -/
def State.srdoDirection (s : State) (n : Nat) : Nat := s.nat (ob (0x1301 + n) 1)

/-- The mapped entries of SRDO n: object and length in bits. -/
def State.srdoMap (s : State) (n : Nat) : List (Key × Nat) :=
  (mapEntries (fun k => s.nat (ob (0x1381 + n) k)) 16).map fun e => (ob (bits e 31 16) (bits e 15 8), bits e 7 0)

/-- The bits that the data of SRDO n give a mapped object; entries follow one another from bit 0 (PRESUMED, CiA 301). -/
def State.srdoField (s : State) (n : Nat) (data : Bytes) (key : Key) : Option Nat :=
  (((s.srdoMap n).foldl (fun (acc : Nat × Option Nat) e =>
    (acc.1 + e.2, if e.1 = key ∧ acc.2.isNone then some ((leNat data >>> acc.1) % 2 ^ e.2) else acc.2)) (0, none))).2

/-- R381: an SRDO error or a safe-stop demand: cause 11, with the SRDO's mask as the axes of level 1. -/
def State.srdoError (s : State) (n : Fin 8) : State := s.react 11 0 s.crust.srdos[n].mask

/-- A valid receive SRDO: the axis request mask, the safe-stop demand (bit 0) and the reset request (bit 1 of the demand's field) (R378, R381; the place of the reset request is a DESIGN CHOICE). -/
def State.srdoValid (s : State) (n : Fin 8) (data : Bytes) : State :=
  let old := s.crust.srdos[n]
  let demand := (s.srdoField n.val data (ob 0x4840 2)).getD 0
  let mask := BitVec.ofNat 16 ((s.srdoField n.val data (ob 0x4840 3)).getD 0xFFFF)
  let s1 := s.modCrust fun c => { c with srdos := upd c.srdos n fun x => { x with lastValid := s.now, mask := mask, stopDemand := bit demand 0, resetBit := bit demand 1 } }
  let receives := (idxs 8).filter fun k => s.srdoDirection k.val == 2
  let s2 := (s1.modCrust fun c =>
    { c with
      requestMask := receives.foldl (fun m k => m &&& c.srdos[k].mask) 0xFFFF
      safeStop := receives.any fun k => c.srdos[k].stopDemand }).syncAxes
  let s3 := if bit demand 0 ∧ !old.stopDemand then s2.srdoError n else s2
  if bit demand 1 ∧ !old.resetBit then s3.requestReset else s3

/-- R381: a frame pair of a receive SRDO; a controller that is off its bus receives none (R413). -/
def State.srdoPair (s : State) (n : Fin 8) (normal inverted : Bytes) (gapUs : Nat) : State :=
  if s.srdoDirection n.val ≠ 2 ∨ !s.canLive (srdoCtl n.val) then s
  else if inverted ≠ normal.map (fun b => ~~~b) ∨ 1000 * s.nat (ob (0x1301 + n) 3) < gapUs then s.srdoError n
  else s.srdoValid n normal

/-- R381: no valid receive SRDO within SCT. -/
def State.srdoLate (s : State) (n : Fin 8) : State :=
  let sct := s.nat (ob (0x1301 + n) 2)
  if s.srdoDirection n.val = 2 ∧ sct ≠ 0 ∧ s.crust.srdos[n].lastValid + sct * 1000000 ≤ s.now then s.srdoError n else s

/-- R378: the reset input is configured: a filtered rising edge asks for a reset. -/
def State.resetInput (s : State) : State := if s.nat (ob 0x4840 1) = 0xFF then s else s.requestReset

/-! ## The commands -/

/-- R355. -/
def execCrustInternalFault (t : Nat) (_kind : CrustFault) (s : State) : Host.Outcome State Fault Refusal := .next ((s.advance t).crustDown)

/-- R355. -/
def execCrustRestart (t : Nat) (s : State) : Host.Outcome State Fault Refusal := .next ((s.advance t).crustUp)

/-- R367. -/
def execSingleChannelLimitExpiry (t : Nat) (s : State) : Host.Outcome State Fault Refusal := .next ((s.advance t).singleExpired)

/-- R372. -/
def execComparatorTest (t : Nat) (_out field : Nat) (ran : Bool) (reported : List Nat) (s : State) : Host.Outcome State Fault Refusal :=
  .next ((s.advance t).comparatorTested field ran reported)

/-- R372. -/
def execStarterFrameTest (t : Nat) (r : Fin 10) (b : Fin 18) (ran : Bool) (frame crc : Nat) (cell : Option (Fin 65)) (s : State) :
    Host.Outcome State Fault Refusal := .next ((s.advance t).starterTest r b ran frame crc cell)

/-- R378. -/
def execResetInputEdge (t : Nat) (s : State) : Host.Outcome State Fault Refusal := .next ((s.advance t).resetInput)

/-- R380. -/
def execParameterSetValidated (t : Nat) (s : State) : Host.Outcome State Fault Refusal := .next ((s.advance t).finishValidation)

/-- R380. -/
def execParameterSetActivate (t : Nat) (s : State) : Host.Outcome State Fault Refusal := .next ((s.advance t).activateDue)

/-- R381. -/
def execSrdoReceived (t : Nat) (n : Fin 8) (normal inverted : Bytes) (gapUs : Nat) (s : State) : Host.Outcome State Fault Refusal :=
  .next ((s.advance t).srdoPair n normal inverted gapUs)

/-- R381. -/
def execSrdoTimeout (t : Nat) (n : Fin 8) (s : State) : Host.Outcome State Fault Refusal := .next ((s.advance t).srdoLate n)

end Sys2Proof.Machine
end

