-- ==== Sys2Proof/Machine/Heads.lean ====
section
/-!
DEFINITION. The illumination heads (R299 to R310): authentication, safe default, wear, untrusted condition, decay compensation.
-/

namespace Sys2Proof.Machine

/-- The object of a head. -/
def headObj (h sub : Nat) : Key := ob (0x2C10 + h) sub

/-- Whether a head is enabled. -/
def State.headOn (s : State) (h : Nat) : Bool := s.flag (headObj h 1)

/-! ## The identity memory (R301's table) -/

/-- A field of `n` bytes of the identity bytes. -/
def Head.field (x : Head) (off n : Nat) : Nat := leAt x.identity off n

def Head.ratedPulses (x : Head) : Nat := x.field 0x18 8
def Head.ratedHours (x : Head) : Nat := x.field 0x20 4
def Head.maxWidth (x : Head) : Nat := x.field 0x24 4
def Head.maxDuty (x : Head) : Nat := x.field 0x28 2
def Head.lead (x : Head) : Nat := if x.safe then 0 else x.field 0x2A 2
def Head.maxDrive (x : Head) : Nat := x.field 0x2C 2

/-- Summed on-time in ms (0x2C80:05). -/
def Head.onTimeMs (x : Head) : Nat := x.onTimeNs / 1000000

/-- R302: the head key of a serial. -/
def State.headKey (s : State) (serial : Bytes) : Bytes := hmac (s.raw (ob 0x2C00 2)) (ascii "TUITHEAD" ++ serial)

/-- The serial in the identity bytes. -/
def serialOf (identity : Bytes) : Bytes := (identity.drop 4).take 16

/-- The tag of a wear slot (R305's table). -/
def wearTag (key : Bytes) (slot : Bytes) : Bytes := (hmac key (slot.take 0x18)).take 8

/-- Whether a wear slot is valid (R305). -/
def wearValid (key slot : Bytes) : Bool := slot.length == 32 && slot.drop 0x18 == wearTag key slot

/-! ## Trust (R307) -/

/-- R307: whether a head is untrusted. -/
def State.untrusted (s : State) (h : Fin 12) : Bool :=
  let x := s.heads[h]
  s.headOn h && (x.safe || x.endOfLife || x.atLimit)

/-- The counts at which the untrusted condition began and ended follow it (R307). -/
def State.judgeTrust (s : State) (h : Fin 12) : State :=
  let x := s.heads[h]
  let was := x.untrustedAt.isSome && x.trustedAt.isNone
  let is_ := s.untrusted h
  if is_ && !was then s.modHead h fun x => { x with untrustedAt := some s.now, trustedAt := none }
  else if !is_ && was then s.modHead h fun x => { x with trustedAt := some s.now }
  else s

/-- The drive level is written to the head (R303, R308). -/
def State.writeDrive (s : State) (h : Fin 12) (drive : Nat) : State :=
  (s.modHead h fun x => { x with drive := drive }).emit (.headWrite h.val 0xA0 (leBytes 2 drive))

/-- R303: the head enters safe default in a state of 0x2C80:01. -/
def State.safeDefault (s : State) (h : Fin 12) (state : Nat) : State :=
  ((s.modHead h fun x => { x with state := state, safe := true }).writeDrive h (s.nat (ob 0x2C00 5))).judgeTrust h

/-- R303: a new safe drive level reaches the heads in safe default. -/
def State.renewSafeDrive (s : State) : State :=
  (idxs 12).foldl (fun acc h => if acc.headOn h.val && acc.heads[h].safe then acc.writeDrive h (acc.nat (ob 0x2C00 5)) else acc) s

/-! ## Wear (R305, R306) -/

/-- R306, R175: the life used in 0.1 %, rounded to nearest, ties to even; for a rating of 0 the manual states none. -/
def Head.lifeUsed (x : Head) : Nat :=
  if x.ratedPulses = 0 ∨ x.ratedHours = 0 then pattern 16 (Config.free 53 0 [x.pulses, x.onTimeNs])
  else min 65535 (max (divRne (1000 * x.pulses) x.ratedPulses) (divRne (1000 * x.onTimeMs) (x.ratedHours * 3600000))).toNat

/-- Whether the life used has reached a number of 0.1 % (R306): judged of the exact quotients, and of the free value where the manual states none. -/
def Head.lifeReached (x : Head) (tenths : Nat) : Bool :=
  if x.ratedPulses = 0 ∨ x.ratedHours = 0 then decide (tenths ≤ x.lifeUsed)
  else decide (tenths * x.ratedPulses ≤ 1000 * x.pulses ∨ tenths * (x.ratedHours * 3600000) ≤ 1000 * x.onTimeMs)

/-- R306: the warning once per head at 90.0 %, end of life at 100.0 %. -/
def State.judgeLife (s : State) (h : Fin 12) : State :=
  let x := s.heads[h]
  let life := x.lifeUsed
  let s1 := if x.lifeReached 900 && !x.warned then
      (s.modHead h fun x => { x with warned := true }).fault 0x0802 (.ofUnit h.val) life else s
  if (x.lifeReached 1000 || x.noWear) && !x.endOfLife then
    ((s1.modHead h fun x => { x with endOfLife := true }).fault 0x0803 (.ofUnit h.val) (life ||| at_ 1 16 (b2n x.noWear))).judgeTrust h
  else s1

/-- The wear record of a head (R305's table). -/
def State.wearRecord (s : State) (h : Fin 12) : Bytes :=
  let x := s.heads[h]
  let body := leBytes 4 (x.wearSeq + 1) ++ leBytes 8 x.pulses ++ leBytes 8 x.onTimeMs ++ leBytes 2 x.drive ++ leBytes 2 0
  body ++ wearTag (s.headKey x.serial) body

/-- R305: a record goes into the older slot; one that is not acknowledged is retried at the next interval, with fault 0x0805. -/
def State.writeWear (s : State) (h : Fin 12) (acked : Bool) : State :=
  let x := s.heads[h]
  let seq := (x.wearSeq + 1) % 2 ^ 32
  let s1 := (s.emit (.headWrite h.val (if x.slotA then 0x60 else 0x40) (s.wearRecord h))).modHead h fun x => { x with wearDue := false }
  let s2 := if acked then s1.modHead h fun x => { x with wearSeq := seq, slotA := !x.slotA, unsaved := 0 }
    else s1.fault 0x0805 (.ofUnit h.val) seq
  s2.judgeLife h

/-- The interval of wear records and of compensation steps: 600 s (R305, R308). -/
def headInterval : Nat := 600000000000

/-- R305: every 600 s; no record is written in safe default, and one that falls due during an authentication waits. -/
def State.wearDueNow (s : State) (h : Fin 12) (acked : Bool) : State :=
  let x := s.heads[h]
  if !s.headOn h || !s.due x.wearAt headInterval then s
  else
    let s1 := s.modHead h fun x => { x with wearAt := some s.now }
    if x.state = 2 then s1.modHead h fun x => { x with wearDue := true }
    else if x.safe then s1
    else s1.writeWear h acked

/-- R305: the counts of a head that was not read before: the valid slot with the higher sequence, or the rated values and end of life. -/
def State.readWear (s : State) (h : Fin 12) (mem : HeadMemory) : State :=
  let key := s.headKey (serialOf mem.identity)
  let a := wearValid key mem.wearA
  let b := wearValid key mem.wearB
  let useA := a && (!b || decide (leAt mem.wearB 0 4 < leAt mem.wearA 0 4))
  let slot := if useA then mem.wearA else mem.wearB
  s.modHead h fun x =>
    if a || b then
      { x with wearSeq := leAt slot 0 4, pulses := leAt slot 4 8, onTimeNs := leAt slot 0x0C 8 * 1000000, slotA := useA, noWear := false, unsaved := 0 }
    else
      { x with wearSeq := 0, pulses := x.ratedPulses, onTimeNs := x.ratedHours * 3600000 * 1000000, slotA := false, noWear := true, unsaved := 0 }

/-! ## Authentication (R302 to R304) -/

/-- R302: the response expected of a head to a nonce. -/
def State.expectedResponse (s : State) (identity nonce : Bytes) : Bytes :=
  (hmac (s.headKey (serialOf identity)) (nonce ++ identity)).take 16

/-- R303: an access without an answer; the third in succession makes the head silent, with fault 0x0804. -/
def State.silentAccess (s : State) (h : Fin 12) : State :=
  let tries := s.heads[h].silentTries + 1
  let s1 := s.modHead h fun x => { x with silentTries := tries }
  if tries = 3 then (s1.safeDefault h 1).fault 0x0804 (.ofUnit h.val) 1 else s1

/-- R303: a failed authentication. -/
def State.authFailed (s : State) (h : Fin 12) (why : Nat) : State := (s.safeDefault h 4).fault 0x0801 (.ofUnit h.val) why

/-- R302, R303, R305: a successful authentication ends safe default; a head that was not read before gives its wear. -/
def State.authPassed (s : State) (h : Fin 12) (mem : HeadMemory) : State :=
  let same := s.heads[h].serial == serialOf mem.identity && !s.heads[h].identity.isEmpty
  let s1 := s.modHead h fun x =>
    { x with
      state := 3, safe := false, silentTries := 0, identity := mem.identity, serial := serialOf mem.identity
      warned := same && x.warned
      endOfLife := same && x.endOfLife }
  let s2 := if same then s1 else s1.readWear h mem
  let s3 := ((s2.writeDrive h (s.nat (headObj h 8))).judgeTrust h).judgeLife h
  if s3.heads[h].wearDue then s3.writeWear h true else s3

/-- R302: whether an authentication is due: before beat 0, of a head that waits for one, and every 0x2C00:03 hours. -/
def State.authDue (s : State) (h : Fin 12) : Bool :=
  !s.running || s.heads[h].state == 2 || s.due s.heads[h].authAt (s.nat (ob 0x2C00 3) * 3600000000000)

/-- R302: the nonce is a free value; the response must match the first 16 bytes of the HMAC. -/
def State.authenticate (s : State) (h : Fin 12) (mem : HeadMemory) (answer : HeadAnswer) : State :=
  let nonce := leBytes 16 (Config.nonce s.service.entropy)
  let s1 := ((s.emit (.headWrite h.val 0x80 nonce)).modService fun v => { v with entropy := v.entropy + 1 }).modHead h fun x =>
    { x with authAt := some s.now, silentTries := if answer = .silent then x.silentTries else 0 }
  if !s.headOn h || !s.authDue h then s
  else match answer with
    | .silent => s1.silentAccess h
    | .late => s1.authFailed h 2
    | .response r =>
      if leAt mem.identity 0 2 ≠ 0xA1C3 ∨ leAt mem.identity 2 2 ≠ 1 then s1.authFailed h 3
      else if r = s.expectedResponse mem.identity nonce then s1.authPassed h mem
      else s1.authFailed h 1

/-- R304: a changed serial: the counts since the last record are discarded and reported, and the new head waits in safe default for its authentication. -/
def State.replaceHead (s : State) (h : Fin 12) (serial : Bytes) : State :=
  let lost := min (2 ^ 32 - 1) s.heads[h].unsaved
  let s1 := s.modHead h fun x =>
    { x with serial := serial, identity := [], unsaved := 0, pulses := 0, onTimeNs := 0, silentTries := 0, atLimit := false, endOfLife := false, warned := false }
  (s1.safeDefault h 2).fault 0x0804 (.ofUnit h.val) (at_ 32 32 lost ||| 2)

/-- R304: the serial as read every 1 s. -/
def State.pollSerial (s : State) (h : Fin 12) (serial : Option Bytes) : State :=
  if !s.headOn h || !s.due s.heads[h].polledAt 1000000000 then s
  else
    let s1 := s.modHead h fun x => { x with polledAt := some s.now, silentTries := if serial.isNone then x.silentTries else 0 }
    match serial with
    | none => s1.silentAccess h
    | some b =>
      if s.heads[h].serial = b then s1
      else if s.heads[h].serial.isEmpty then s1.modHead h fun x => { x with serial := b }
      else s1.replaceHead h b

/-- Heads at the start of a launch: one enabled for the first time waits for its authentication (R303, R310). -/
def State.launchHeads (s : State) : State :=
  (idxs 12).foldl (fun acc (h : Fin 12) =>
    if acc.headOn h then
      (if acc.heads[h].state = 0 then acc.safeDefault h 2 else acc)
    else (acc.modHead h fun x => { x with state := 0 }).judgeTrust h) s

/-! ## Pulses (R300, R305) -/

/-- A pulse width, limited in safe default (R303). -/
def State.limitWidth (s : State) (h : Fin 12) (width : Nat) : Nat := if s.heads[h].safe then min width (s.nat (ob 0x2C00 4)) else width

/-- The pulse width in force of the committed one (R303). -/
def State.pulseWidth (s : State) (h : Fin 12) : Nat := s.limitWidth h (s.nat (headObj h 6))

/-- The reference stream of a head (R300). -/
def State.refStream (s : State) (h : Fin 12) : Option (Fin 24) := if w : s.nat (headObj h 4) < 24 then some ⟨_, w⟩ else none

/-- The width of a pulse at a count: that of the tag of the line which it lights, whose exposure starts a lead time later (R300, R401). -/
def State.strobeWidth (s : State) (h : Fin 12) (count : Nat) : Nat :=
  match s.refStream h with
  | some n => s.limitWidth h ((s.streams[n].tagAt (count + s.heads[h].lead)).widths.getD h.val (s.nat (headObj h 6)))
  | none => s.pulseWidth h

/-- One pulse of a head, of a width, is counted (R305); the life that it uses is judged where the head's identity is in use (R303, R306). -/
def State.countPulse (s : State) (h : Fin 12) (width : Nat) : State :=
  let s1 := s.modHead h fun x => { x with pulses := (x.pulses + 1) % 2 ^ 64, onTimeNs := x.onTimeNs + width, unsaved := x.unsaved + 1 }
  if s.heads[h].safe || s.heads[h].identity.isEmpty then s1 else s1.judgeLife h

/-! ## Decay compensation (R308, R309) -/

/-- M: the mean of the zone means of the interval, as a REAL32. -/
def meanOfMeans (means : List (BitVec 32)) : Nat :=
  fp32.ieee ((means.foldl (fun a m => a.add (num32 m.toNat)) Exact.zero).div (Exact.ofInt means.length))

/-- The smaller and the larger of two values. -/
def minE (a b : Exact) : Exact := if (a.sub b).neg then a else b
def maxE (a b : Exact) : Exact := if (a.sub b).neg then b else a

/-- R308: the drive that a step leads to, and the unclamped drive in 0.1 %. -/
def driveStep (d : Nat) (target m : Exact) (maxDrive : Nat) : Int × Exact :=
  let dq := (Exact.ofInt d).mul (target.div m)
  let capped := minE (maxE dq (.fin false (98 * d) 100 0)) (.fin false (102 * d) 100 0)
  let limited := minE (maxE capped (Exact.ofInt 10)) (Exact.ofInt maxDrive)
  (limited.round.getD d, dq)

/-- R309: T is set to M at the end of the interval in which the capture was asked for. -/
def State.captureTarget (s : State) (h : Fin 12) (m : Nat) : State :=
  if s.heads[h].capture then s.setObj (headObj h 7) (.int m) else s

/-- R308, R309: the end of an interval but for the commit: the new mean, the captured target, the limit, and the drive to commit where it differs. -/
def State.endInterval (s : State) (h : Fin 12) : State × Option Nat :=
  let x := s.heads[h]
  if !s.due x.intervalAt headInterval then (s, none)
  else if x.means.isEmpty ∨ !s.headOn h then (s.modHead h fun x => { x with means := [], capture := false, intervalAt := some s.now }, none)
  else
    let m := meanOfMeans x.means
    let s1 := (s.captureTarget h m).modHead h fun x => { x with means := [], capture := false, intervalAt := some s.now, lastM := BitVec.ofNat 32 m }
    let target := num32 (s1.nat (headObj h 7))
    let off := x.safe || !s.flag (headObj h 9) || target.isZero || (num32 m).isZero || (num32 m).neg || (num32 m).special
    if off then (s1, none)
    else
      let d := s1.nat (headObj h 8)
      let step := driveStep d target (num32 m) x.maxDrive
      let exceeds := ((Exact.ofInt x.maxDrive).sub step.2).neg
      let s2 := if exceeds ∧ !x.atLimit then
          ((s1.modHead h fun x => { x with atLimit := true }).fault 0x0806 (.ofUnit h.val) (clampI 0 (2 ^ 32 - 1) (step.2.round.getD 0)).toNat).judgeTrust h
        else if !exceeds ∧ x.atLimit then (s1.modHead h fun x => { x with atLimit := false }).judgeTrust h
        else s1
      (s2, if step.1 = d then none else some step.1.toNat)

/-- R308: a commit of a drive level writes it to the head, outside safe default; the acknowledge is due by the commit count plus the camera latency. -/
def State.commitDrive (s : State) (h : Fin 12) (count : Nat) : State :=
  let d := s.nat (headObj h 8)
  if s.heads[h].safe then s
  else (s.writeDrive h d).modHead h fun x => { x with driveDue := some (d, count, count + s.nat (camObj (s.nat (headObj h 4)) 0x11)) }

/-- R308: a drive write that is not acknowledged in time: fault 0x0807, and the lines of that commit's tags are unconfirmed. -/
def State.driveTimeout (s : State) (h : Fin 12) : State :=
  match s.heads[h].driveDue with
  | some (d, count, deadline) =>
    if s.now < deadline then s
    else
      let s1 := (s.modHead h fun x => { x with driveDue := none }).fault 0x0807 (.ofUnit h.val) (at_ 16 0 d)
      (idxs 24).foldl (fun acc (n : Fin 24) =>
        if bit (s.nat (headObj h 2)) n.val then
          acc.modStream n fun x => { x with tags := x.tags.map fun g => if g.commit = count then { g with unconfirmed := true } else g }
        else acc) s1
  | none => s

/-! ## The commands -/

/-- R302. -/
def execHeadAuthentication (t : Nat) (h : Fin 12) (mem : HeadMemory) (answer : HeadAnswer) (s : State) : Host.Outcome State Fault Refusal :=
  .next ((s.advance t).authenticate h mem answer)

/-- R304. -/
def execHeadSerialPoll (t : Nat) (h : Fin 12) (serial : Option Bytes) (s : State) : Host.Outcome State Fault Refusal :=
  .next ((s.advance t).pollSerial h serial)

/-- R305. -/
def execWearRecordWrite (t : Nat) (h : Fin 12) (acked : Bool) (s : State) : Host.Outcome State Fault Refusal :=
  .next ((s.advance t).wearDueNow h acked)

/-- R308. -/
def execDriveWriteTimeout (t : Nat) (h : Fin 12) (s : State) : Host.Outcome State Fault Refusal := .next ((s.advance t).driveTimeout h)

end Sys2Proof.Machine
end

