-- ==== Sys2Proof/Machine/Intake.lean ====
section
/-!
DEFINITION. Sample intake (R311 to R326): checks before allocation, decode sites, the reorder buffer, replacement, batches and flushes.
-/

namespace Sys2Proof.Machine

/-- The object of an intake queue. -/
def intakeObj (q sub : Nat) : Key := ob (0x3A10 + q) sub

/-! ## Headers of samples (R314 to R316; the layouts are those of ISO/IEC 10918-1 and ISO/IEC 15948, PRESUMED) -/

/-- Claimed dimensions of a sample: width, height, channels, bytes per element. -/
structure Claim where
  width : Nat
  height : Nat
  channels : Nat
  size : Nat
deriving DecidableEq, Repr

/-- Bytes claimed by the decoded sample (R316). -/
def Claim.bytes (c : Claim) : Nat := c.width * c.height * c.channels * c.size

/-- R314: the claim of a supported SOF0 segment, from its precision byte on. -/
def sof0 (bs : Bytes) : Option Claim :=
  let n := leAt bs 5 1
  let factors := (List.range n).all fun k =>
    let f := leAt bs (7 + 3 * k) 1
    (bits f 7 4 == 1 || bits f 7 4 == 2) && (bits f 3 0 == 1 || bits f 3 0 == 2)
  if leAt bs 0 1 = 8 ∧ (n = 1 ∨ n = 3) ∧ factors ∧ 6 + 3 * n ≤ bs.length then
    some ⟨beNat ((bs.drop 3).take 2), beNat ((bs.drop 1).take 2), n, 1⟩
  else none

/-- The first frame header of a JPEG stream, segment by segment; a frame other than SOF0 is not supported. -/
def jpegSegments (fuel : Nat) (bs : Bytes) : Option Claim :=
  match fuel with
  | 0 => none
  | fuel + 1 =>
    let m := leAt bs 1 1
    if leAt bs 0 1 ≠ 0xFF ∨ bs.length < 4 then none
    else if m = 0xC0 then sof0 (bs.drop 4)
    else if 0xC1 ≤ m ∧ m ≤ 0xCF ∧ m ≠ 0xC4 ∨ m = 0xDA ∨ m = 0xD9 then none
    else jpegSegments fuel (bs.drop (2 + beNat ((bs.drop 2).take 2)))

/-- The claim of a JPEG sample. -/
def jpegClaim (bs : Bytes) : Option Claim :=
  if bs.take 2 = [0xFF, 0xD8] then jpegSegments bs.length (bs.drop 2) else none

/-- R315: the claim of a PNG sample. -/
def pngClaim (bs : Bytes) : Option Claim :=
  let depth := leAt bs 24 1
  let kind := leAt bs 25 1
  if bs.take 8 ≠ [0x89, 0x50, 0x4E, 0x47, 0x0D, 0x0A, 0x1A, 0x0A] ∨ (bs.drop 12).take 4 ≠ ascii "IHDR" ∨ bs.length < 29 ∨ leAt bs 28 1 ≠ 0 then none
  else if (kind = 0 ∨ kind = 2 ∨ kind = 6) ∧ (depth = 8 ∨ depth = 16) ∨ kind = 3 ∧ depth = 8 then
    some ⟨beNat ((bs.drop 16).take 4), beNat ((bs.drop 20).take 4), if kind = 0 then 1 else if kind = 6 then 4 else 3, depth / 8⟩
  else none

/-! ## Submission entries (R313, R316) -/

def eAddress (e : BitVec 256) : Nat := fld e 255 192
def eLength (e : BitVec 256) : Nat := fld e 191 160
def eWidth (e : BitVec 256) : Nat := fld e 159 144
def eHeight (e : BitVec 256) : Nat := fld e 143 128
def eFormat (e : BitVec 256) : Nat := fld e 127 124
def eChannels (e : BitVec 256) : Nat := fld e 123 120
def eDepth (e : BitVec 256) : Nat := fld e 119 116
def eHostOk (e : BitVec 256) : Bool := e.getLsbD 115
def eReserved (e : BitVec 256) : Nat := fld e 114 64
def eLabel (e : BitVec 256) : Nat := fld e 63 0

/-- Reason 1 of R316. -/
def malformed (e : BitVec 256) : Bool :=
  decide (2 < eFormat e ∨ eLength e = 0 ∨ eReserved e ≠ 0) ||
    (eFormat e == 0 && decide (eWidth e = 0 ∨ eHeight e = 0 ∨ eChannels e = 0 ∨ 4 < eChannels e ∨ 1 < eDepth e))

/-- The claim of an entry's sample: of a supported header within the first 64 KiB, or of the entry itself. -/
def claimOf (e : BitVec 256) (source : Bytes) : Option Claim :=
  if eFormat e = 0 then some ⟨eWidth e, eHeight e, eChannels e, 1 + eDepth e⟩
  else if eFormat e = 1 then jpegClaim (source.take 65536)
  else pngClaim (source.take 65536)

/-- R321: whether a claim fits the slot. -/
def State.fits (s : State) (q : Nat) (c : Claim) : Bool :=
  let w := s.nat (intakeObj q 8)
  let h := s.nat (intakeObj q 9)
  c.channels == s.nat (intakeObj q 0x0A) &&
    if s.nat (intakeObj q 0x0C) = 0 then c.width == w && c.height == h else decide (c.width ≤ w ∧ c.height ≤ h)

/-- R316: the first failing check before allocation, or the claim of the sample. -/
def State.checkEntry (s : State) (q : Nat) (e : BitVec 256) (source : Option Bytes) (generation : Nat) : Nat ⊕ Claim :=
  if malformed e then .inl 1
  else match source with
    | none => .inl 2
    | some bs =>
      if s.nat (intakeObj q 3) = 2 ∧ bits (eAddress e) 63 32 ≠ generation then .inl 3
      else match claimOf e bs with
        | none => .inl 4
        | some c =>
          if s.nat (ob 0x3A00 2) < c.width ∨ s.nat (ob 0x3A00 3) < c.height ∨ 2 ^ 20 * s.nat (ob 0x3A00 4) < c.bytes then .inl 5
          else if eFormat e ≠ 0 ∧ s.nat (ob 0x3A00 5) * eLength e < c.bytes then .inl 6
          else if !s.fits q c then .inl 7
          else .inr c

/-! ## Slots (R321 to R323) -/

/-- Elements of a slot. -/
def State.slotElems (s : State) (q : Nat) : Nat := s.nat (intakeObj q 8) * s.nat (intakeObj q 9) * s.nat (intakeObj q 0x0A)

/-- Bytes of a slot. -/
def State.slotBytes (s : State) (q : Nat) : Nat := divUp (s.slotElems q * elemBits (s.nat (intakeObj q 0x0B))) 8

/-- A number in the slot format (R175, R179). -/
def toFormat (fmt : Nat) (v : Exact) : Enc :=
  match floatOf fmt with
  | some f => f.narrow v
  | none => narrowInt (intWidth fmt) v

/-- The filler, converted once to the slot format. -/
def State.fillerEnc (s : State) (q : Nat) : Enc := toFormat (s.nat (intakeObj q 0x0B)) (num32 (s.nat (intakeObj q 0x0D)))

/-- The filler in the slot format. -/
def State.filler (s : State) (q : Nat) : Nat := (s.fillerEnc q).code

/-- R322: a decoded pixel code in the slot format; INT8 from a 16-bit source has no stated value. -/
def convertPixel (fmt depth16 p : Nat) : Enc :=
  if fmt = 11 then ⟨if depth16 = 0 then pattern 8 ((p : Int) - 128) else pattern 8 (Config.free 34 0 [p]), 0, 0⟩
  else if fmt = 10 then ⟨pattern 16 (if depth16 = 0 then (p : Int) else (p : Int) - 32768), 0, 0⟩
  else toFormat fmt (Exact.ofInt p)

/-- The elements of a slot: the sample at the top-left corner, the filler elsewhere (R321); its conversions count their saturations (R179). -/
def State.fillSlot (s : State) (q width height depth16 : Nat) (codes : List Nat) : List Enc :=
  let w := s.nat (intakeObj q 8)
  let c := s.nat (intakeObj q 0x0A)
  let fmt := s.nat (intakeObj q 0x0B)
  let fill : Enc := ⟨s.filler q, 0, 0⟩
  (List.range (s.slotElems q)).map fun k =>
    let x := k / c % w
    let y := k / c / w
    if x < width ∧ y < height then convertPixel fmt depth16 (codes.getD ((y * width + x) * c + k % c) 0) else fill

/-- A sample of the reorder buffer changed by `f`. -/
def State.modSample (s : State) (q : Fin 8) (submission : Nat) (f : Sample → Sample) : State :=
  s.modIntake q fun x => { x with reorder := x.reorder.map fun a => if a.submission = submission then f a else a }

/-- R323: a sample is replaced: filler, status 1, the count, fault 0x0901. -/
def State.replaceSample (s : State) (q : Fin 8) (submission reason : Nat) : State :=
  ((s.modSample q submission fun a =>
      { a with status := 1, reason := reason, width := 0, height := 0, done := true, codes := List.replicate (s.slotElems q) (s.filler q) }).modIntake q
    fun x => { x with replaced := (x.replaced + 1) % 2 ^ 64, lastReason := reason }).fault 0x0901
      { region := s.nat (intakeObj q 4), cell := reason, unit := q.val } submission

/-! ## The reorder buffer and the current batch (R320, R324, R325) -/

/-- A padding sample (R325). -/
def State.padSample (s : State) (q : Nat) : Sample :=
  { submission := 2 ^ 64 - 1, label := 0, site := 0, status := 2, reason := 0, width := 0, height := 0,
    codes := List.replicate (s.slotElems q) (s.filler q), done := true, offered := 0, length := 0, maxTok := 0 }

/-- The oldest flush that is asked for closes the current batch once every sample submitted before it has left the buffer; a batch that is empty, or whose flush or size closed it already, it leaves alone (R325). -/
def State.closeFlushed (s : State) (q : Fin 8) : State :=
  let x := s.intake[q]
  match x.flushAt with
  | [] => s
  | f :: rest =>
    if x.consumed - x.reorder.length < f then s
    else if x.current.isEmpty ∨ s.nat (intakeObj q 7) ≤ x.current.length then s.modIntake q fun x => { x with flushAt := rest }
    else
      s.modIntake q fun x =>
        { x with
          flushAt := rest
          partial_ := true
          current := x.current ++ List.replicate (s.nat (intakeObj q 7) - x.current.length) (s.padSample q) }

/-- One finished sample at the head of the buffer enters the current batch while that has room (R320). -/
def State.leaveOne (s : State) (q : Fin 8) : State :=
  let x := s.intake[q]
  match x.reorder with
  | [] => s
  | a :: rest =>
    if a.done ∧ x.current.length < s.nat (intakeObj q 7) ∧ !x.partial_ then
      (s.modIntake q fun x => { x with reorder := rest, current := x.current ++ [a] }).closeFlushed q
    else s

/-- Finished samples leave in submission order (R320). -/
def State.leave (s : State) (q : Fin 8) : State :=
  (List.range (s.intake[q].reorder.length)).foldl (fun acc _ => acc.leaveOne q) (s.closeFlushed q)

/-! ## Taking an entry, decodes and returns (R316 to R320) -/

/-- Decodes that the decode engine of region r holds (R318). -/
def State.pendingDecodes (s : State) (r : Nat) : Nat :=
  ((idxs 8).map fun (q : Fin 8) =>
    if s.nat (intakeObj q 4) = r then (s.intake[q].reorder.filter fun a => !a.done && a.site == 0).length else 0).foldl (· + ·) 0

/-- R318: where a sample that passed its checks is decoded. -/
def State.site (s : State) (q : Nat) (e : BitVec 256) : Nat :=
  if eFormat e = 0 then 1
  else if s.flag (intakeObj q 0x0F) && eHostOk e && !s.paceMode
      && decide (s.nat (intakeObj q 0x10) ≤ s.pendingDecodes (s.nat (intakeObj q 4))) then 2
  else 0

/-- R313, R316, R318, R319: the device takes the next entry, if one is submitted and the reorder buffer has a slot. -/
def State.takeEntry (s : State) (q : Fin 8) (e : BitVec 256) (source : Option Bytes) (generation : Nat) : State :=
  let x := s.intake[q]
  if !s.flag (intakeObj q 1) || !s.running || decide (s.nat (intakeObj q 0x14) ≤ x.consumed ∨ 256 ≤ x.reorder.length) then s
  else
    let n := x.consumed
    let take (site width height : Nat) : State := s.modIntake q fun x =>
      { x with
        consumed := x.consumed + 1
        reorder := x.reorder ++ [{ submission := n, label := eLabel e, site := site, status := 0, reason := 0, width := width, height := height,
                                   codes := [], done := false, offered := s.now, length := eLength e, maxTok := 1000 * s.nat (intakeObj q 0x0E) }] }
    match s.checkEntry q e source generation with
    | .inl reason => ((take 0 0 0).replaceSample q n reason).leave q
    | .inr c =>
      let site := s.site q e
      let s1 := take site c.width c.height
      if site = 2 then s1.emit (.hostRequest q.val n (eAddress e) (n % 256)) else s1

/-- The class of a queue, and the region that serves it, where it names one of the ten. -/
def State.intakeClass (s : State) (q : Nat) : Nat := s.nat (intakeObj q 2)
def State.intakeRegion (s : State) (q : Nat) : Option (Fin 10) := if h : s.nat (intakeObj q 4) < 10 then some ⟨_, h⟩ else none

/-- A sample under decoding or copying by the device. -/
def State.decoding (s : State) (q : Fin 8) (submission : Nat) : Option Sample :=
  s.intake[q].reorder.find? fun a => a.submission == submission && !a.done && a.site != 2

/-- The engine that runs the descriptor of a sample: the decode engine, or a DMA engine for a raw sample (R311, R318). -/
def siteEngine (site : Nat) : Nat := if site = 1 then 0x18 else 0x14

/-- What a decode that stays within max_tok, or a copy, gives: a delivered sample, or a replaced one (R316, R321, R322). -/
def State.sampleEnds (s : State) (q : Fin 8) (a : Sample) (result : DecodeResult) : State :=
  match result with
  | .readRefused => s.replaceSample q a.submission 2
  | .dataError => s.replaceSample q a.submission 8
  | .pixels width height channels depth16 codes =>
    if width ≠ a.width ∨ height ≠ a.height ∨ channels ≠ s.nat (intakeObj q 0x0A) ∨ codes.length ≠ width * height * channels
        ∨ a.site = 1 ∧ a.length ≠ codes.length * (1 + depth16) then
      s.replaceSample q a.submission 8
    else
      let encs := s.fillSlot q width height depth16 codes
      (s.modSample q a.submission fun x => { x with done := true, codes := encs.map Enc.code }).countSat (encs.map Enc.sat).sum

/-- The status of a decode or copy: GUARD_REFUSED where the source could not be read, else OK, a corrupt sample included (DESIGN CHOICE, log entry 65). -/
def decodeStatus : DecodeResult → Nat
  | .readRefused => stGuardRefused
  | _ => stOk

/-- R72, R316, R317: the descriptor of a sample runs: a decode that needs more tokens than max_tok stops there with DECODE_CAP, and its sample is replaced. -/
def State.startSample (s : State) (r : Fin 10) (q : Fin 8) (submission : Nat) (h : BitVec 128) (tokens : Nat) (result : DecodeResult) : State :=
  match s.decoding q submission with
  | none => s
  | some a =>
    if a.site = 0 ∧ a.maxTok < tokens then
      (((s.replaceSample q submission 9).complete r 18 h stDecodeCap 0 0).countRegion r 4 a.maxTok).leave q
    else
      let s1 := (s.sampleEnds q a result).complete r 18 h (decodeStatus result) 0 (if decodeStatus result = stOk then s.slotElems q else 0)
      (if a.site = 0 then s1.countRegion r 4 tokens else s1).leave q

/-- R319, R320: a host return into a slot: delivered, replaced for a wrong number or length, or late and discarded: no sample waits there, or its number is that of an earlier sample of the slot (DEDUCED, log entry 36). -/
def State.hostReturn (s : State) (q : Fin 8) (slot : Fin 256) (submission length : Nat) (codes : List Nat) : State :=
  match s.intake[q].reorder.find? fun a => a.submission % 256 == slot.val && !a.done && a.site == 2
      && !(decide (submission < a.submission) && submission % 256 == slot.val) with
  | none => (s.modIntake q fun x => { x with lateReturns := x.lateReturns + 1 }).fault 0x0902
      { region := s.nat (intakeObj q 4), unit := q.val } submission
  | some a =>
    (if submission ≠ a.submission ∨ length ≠ s.slotBytes q then s.replaceSample q a.submission 10
    else (s.modSample q a.submission fun a => { a with done := true, codes := codes }).modIntake q
      fun x => { x with hostDecoded := (x.hostDecoded + 1) % 2 ^ 64 }).leave q

/-- R320: a host decode that is not returned within :11 of its offer. -/
def State.hostTimeout (s : State) (q : Fin 8) (submission : Nat) : State :=
  match s.intake[q].reorder.find? fun a => a.submission == submission && !a.done && a.site == 2 with
  | none => s
  | some a => if a.offered + 1000 * s.nat (intakeObj q 0x11) ≤ s.now then (s.replaceSample q submission 10).leave q else s

/-! ## Batches (R324, R325) -/

/-- A record with its crc in its last two bytes. -/
def withCrc (n : Nat) (v : Nat) : Bytes := let b := leBytes n v; b ++ leBytes 2 (crc16 b)

/-- The record of a sample (R325's table). -/
def sampleRecord (source : Nat) (a : Sample) : Bytes :=
  withCrc 30 (at_ 32 208 (if a.status = 0 then f32one else 0) ||| at_ 16 192 a.height ||| at_ 16 176 a.width ||| at_ 8 168 a.status
    ||| at_ 8 160 a.reason ||| at_ 4 156 source ||| at_ 1 155 (b2n (decide (a.status ≠ 0)))
    ||| at_ 1 154 (b2n (decide (a.site = 2 ∧ a.status = 0))) ||| at_ 64 64 a.submission ||| at_ 64 0 a.label)

/-- The header of a batch (R325's table). -/
def batchHeader (q number : Nat) (partial_ : Bool) (l : List Sample) : Bytes :=
  let count (k : Nat) := (l.filter fun a => a.status == k).length
  withCrc 30 (at_ 64 176 number ||| at_ 64 112 ((l.map fun a => a.submission).headD 0) ||| at_ 16 96 l.length ||| at_ 16 80 (count 1)
    ||| at_ 16 64 (count 2) ||| at_ 8 56 q ||| at_ 8 48 (b2n partial_ ||| at_ 1 1 (b2n (l.any fun a => a.reason == 10))))

/-- The bytes of the current batch: header, records, slots. -/
def State.batchBytes (s : State) (q : Fin 8) : Bytes :=
  let x := s.intake[q]
  batchHeader q x.batches x.partial_ x.current ++ (x.current.flatMap fun a => sampleRecord (s.nat (intakeObj q 3)) a)
    ++ (x.current.flatMap fun a => packElems (s.nat (intakeObj q 0x0B)) a.codes)

/-- R324: a full batch is written into the next ring slot once the consumer has returned its credit. -/
def State.writeBatch (s : State) (q : Fin 8) (credits : Nat) : State :=
  let s1 := s.modIntake q fun x => { x with credits := min (s.nat (intakeObj q 0x13)) (x.credits + credits) }
  let x := s1.intake[q]
  if x.current.length < s.nat (intakeObj q 7) ∨ x.current.isEmpty ∨ x.credits = 0 then s1
  else
    let bytes := s1.batchBytes q
    let place : MemRef := ⟨0, 0, 0, s.nat (intakeObj q 0x12) + x.batches % (max 1 (s.nat (intakeObj q 0x13))) * bytes.length⟩
    let s2 := if place.inside bytes.length then s1.store place bytes else s1
    (s2.modIntake q fun x =>
      { x with
        current := []
        partial_ := false
        credits := x.credits - 1
        batches := (x.batches + 1) % 2 ^ 64
        delivered := (x.delivered + (x.current.filter fun a => a.status == 0).length) % 2 ^ 64
        padding := (x.padding + (x.current.filter fun a => a.status == 2).length) % 2 ^ 64 }).leave q

/-- R325: a flush is asked for: it closes the batch after the last sample submitted so far. -/
def State.requestFlush (s : State) (q : Fin 8) : State :=
  (s.modIntake q fun x => { x with flushAt := x.flushAt ++ [s.nat (intakeObj q 0x14)] }).leave q

/-- The queues at the start of a launch: numbers and counts from 0 (R313, R326). -/
def State.launchIntake (s : State) : State :=
  (idxs 8).foldl (fun acc (q : Fin 8) =>
    ((acc.modIntake q fun _ => { Intake.reset with credits := s.nat (intakeObj q 0x13) }).setObj (intakeObj q 0x14) (.int 0)).countSat
      (if s.flag (intakeObj q 1) then (s.fillerEnc q).sat else 0)) s

/-! ## The commands -/

/-- R316. -/
def execSubmissionEntryTaken (t : Nat) (q : Fin 8) (entry : BitVec 256) (source : Option Bytes) (generation : Nat) (s : State) :
    Host.Outcome State Fault Refusal := .next ((s.advance t).takeEntry q entry source generation)

/-- R319. -/
def execHostDecodeReturn (t : Nat) (q : Fin 8) (slot : Fin 256) (submission length : Nat) (codes : List Nat) (s : State) :
    Host.Outcome State Fault Refusal := .next ((s.advance t).hostReturn q slot submission length codes)

/-- R320. -/
def execHostDecodeTimeout (t : Nat) (q : Fin 8) (submission : Nat) (s : State) : Host.Outcome State Fault Refusal :=
  .next ((s.advance t).hostTimeout q submission)

/-- R324. -/
def execBatchWrite (t : Nat) (q : Fin 8) (credits : Nat) (s : State) : Host.Outcome State Fault Refusal :=
  .next ((s.advance t).writeBatch q credits)

end Sys2Proof.Machine
end

