-- ==== Sys2Proof/Machine/Beats.lean ====
section
/-!
DEFINITION. Launch beats and the end of a launch: dictionary snapshot, voltage plan, run fingerprint (R84, R85, R101, R102, R449); stored values (R108, R109).
-/

namespace Sys2Proof.Machine

/-- The keys of an index that are written by a host, in ascending sub-index order. -/
def writableAt (index : Nat) : List Key :=
  (rowsAt index).flatMap fun r => if r.acc = .rw ∨ r.acc = .wo then (List.range (r.shi + 1 - r.slo)).map fun k => ob index (r.slo + k) else []

/-- The bytes that an object's value is stored in. -/
def State.storedBytes (s : State) (key : Key) : Bytes :=
  match rowOf key with
  | some r => r.ty.encode (s.obj key)
  | none => []

/-- The stored bytes of every writable object of an index range, in ascending order (R101). -/
def State.rangeBytes (s : State) (lo hi : Nat) : Bytes :=
  (List.range (hi + 1 - lo)).flatMap fun i => (writableAt (lo + i)).flatMap s.storedBytes

/-- R101: the dictionary snapshot hash. -/
def State.snapshotHash (s : State) : Bytes := sha256 (s.rangeBytes 0x2800 0x3BFF ++ s.rangeBytes 0x4000 0x47FF)

/-- 0x2141:01: the ten values of V_plan at the launch, then up to 64 steps of beat, region, reserved and mV (R449, R460); before any launch the present values. -/
def State.voltagePlan (s : State) : Bytes :=
  ((if s.launch.plan.isEmpty then (idxs 10).map fun r => s.regions[r].vplan else s.launch.plan).flatMap fun v => leBytes 2 v)
    ++ (s.power.steps.take 64).flatMap fun e => leBytes 8 e.1 ++ leBytes 1 e.2.1 ++ leBytes 1 0 ++ leBytes 2 e.2.2

/-- R102: the run fingerprint; the power-domain state vector is taken as one byte for each domain, the energy cap as two. -/
def State.fingerprint (s : State) (imageHash snapshot : Bytes) : Bytes :=
  sha256 (imageHash ++ snapshot ++ ((List.range 16).flatMap fun k => s.raw (ob 0x3C10 (k + 1)))
    ++ leBytes 1 (s.nat (ob 0x3C00 1)) ++ leBytes 1 (s.nat (ob 0x3C00 0x0C))
    ++ ((idxs 72).flatMap fun d => leBytes 1 s.power.domains[d].state) ++ leBytes 2 (s.nat (ob 0x2100 0x0A))
    ++ (if s.paceMode then sha256 s.voltagePlan else []))

/-- The snapshot hash and the run fingerprint are computed (R101, R102). -/
def State.rehash (s : State) : State :=
  let snap := s.snapshotHash
  let image := match s.launch.image with
    | some im => im.hash
    | none => []
  s.modLaunch fun l => { l with snapshot := snap, fingerprint := s.fingerprint image snap }

/-- The generator streams whose element counter the running image declares persistent (R99). -/
def State.persistentStreams (s : State) : List Nat :=
  match s.launch.image with
  | some im => (im.generators.filter fun g => g.persistent).map fun g => g.stream
  | none => []

/-- R99: persistent element counters are saved at a launch beat. -/
def State.saveElements (s : State) : State :=
  let kept := s.launch.elements.filter fun e => s.persistentStreams.contains e.1
  s.modService fun v => { v with savedElements := kept.foldl (fun l e => put l e.1 e.2) v.savedElements }

/-- R99: at a launch element counters start at 0, persistent ones at their saved value. -/
def State.startElements (s : State) : State :=
  s.modLaunch fun l => { l with elements := s.service.savedElements.filter fun e => s.persistentStreams.contains e.1 }

/-- The inspection rate in force, in 0.1 % of full: of the reduced variant, of pace mode, or full (R28, R478). -/
def State.inspectionRate (s : State) (reduced : Bool) : Nat :=
  match s.launch.image with
  | some im => if reduced then im.reducedRate else if s.paceMode then im.paceRate else 1000
  | none => 1000

/-- A launch beat, or beat 0: the cache segments are invalidated (R154), the reduced variant runs where fewer than 8 regions work (R28), persistent element counters are saved (R99), and the hashes are computed (R101, R102). -/
def State.launchBeat (s : State) : State :=
  let reduced := s.launch.reduced || decide (s.working < 8)
  (((s.modBlocks fun _ x => { x with cacheLines := [] }).modLaunch fun l =>
    { l with reduced := reduced, inspection := s.inspectionRate reduced, lastBeat := l.run.map fun r => r.beat }).saveElements).rehash

/-! ## Draws of the engines (R99) -/

/-- The key words of a seed key, 0x3C10:01 to :10. -/
def State.seedKey (s : State) (k : Fin 16) : Nat × Nat × Nat × Nat :=
  let b := s.raw (ob 0x3C10 (k.val + 1))
  (leAt b 0 4, leAt b 4 4, leAt b 8 4, leAt b 12 4)

/-- The next word of a generator stream: the words x0 to x3 of an element in turn, then those of the next element, under the seed key that the image gives the stream (R99). -/
def State.drawWord (s : State) (g : Generator) : Nat × State :=
  let i := (get? s.launch.elements g.stream).getD 0
  let x := generate (s.seedKey g.key) g.stream (i / 4)
  ([x.1, x.2.1, x.2.2.1, x.2.2.2].getD (i % 4) 0, s.modLaunch fun l => { l with elements := put l.elements g.stream (i + 1) })

/-- R99: a uniform FP32 value in [0, 1): the upper 24 bits of a word, as a fraction. -/
def uniform32 (w : Nat) : BitVec 32 := BitVec.ofNat 32 (fp32.ieee (.fin false (w / 2 ^ 8) 1 (-24)))

/-- R99: a uniform BF16 value: the FP32 value rounded to nearest, ties to even. -/
def uniformBf16 (w : Nat) : BitVec 16 := BitVec.ofNat 16 (bf16.ieee (num32 (uniform32 w).toNat))

/-- Whether an object can be written (R18). -/
def writable (key : Key) : Bool :=
  match rowOf key with
  | some r => r.acc == .rw || r.acc == .wo
  | none => false

/-- The stored value of a numeric object, or its default (R108, R109). -/
def State.storedNat (s : State) (key : Key) : Nat := ((get? s.dict.stored key).getD (defaultOf key)).num.toNat

/-- Values written but not stored are lost: every writable object takes the stored value or its default; what was staged or pending, and the requests that waited for it, are lost with them; a launch count, consumer indices and Basaris' port follow (R108, R109, R139). -/
def State.loadStored (s : State) : State :=
  let s1 := (s.modDict fun d => { d with
    active := d.stored.foldl (fun a e => put a e.1 e.2) (d.active.filter fun e => !writable e.1)
    cobFollows := d.storedFollows
    asm := [] }).modCommit fun c =>
    { c with owner := none, entries := [], group := none, implicit := [], instant := [], pending := [] }
  let s2 := s1.modServer fun v => { v with works := v.works.filter fun w => w.waits.isNone, copies := [] }
  let s3 := (idxs 16).foldl (fun acc (q : Fin 16) => acc.modQueue q fun x => { x with consumer := acc.storedNat (ob (0x2460 + q.val) 5) }) s2
  (s3.modLaunch fun l => { l with count := s3.storedNat (ob 0x3C00 4) }).modBasaris fun b =>
    { b with port := s3.nat (ob 0x2020 2), enabled := s3.flag (ob 0x2020 1), closing := false }

/-- The running launch ends: no beat runs, nothing is released, the Crust takes its no-beat state (R85, R376); a new launch under way keeps its state. -/
def State.endLaunch (s : State) : State :=
  if s.launch.run.isNone then s
  else
    (s.modLaunch fun l =>
      { l with
        run := none
        state := if l.state = .running ∨ l.state = .holdover then .none else l.state
        buffered := []
        deferred := []
        late := [] }).enterNoBeat

end Sys2Proof.Machine
end

