-- ==== Sys2Proof/Machine/Network.lean ====
section
/-!
DEFINITION. Ethernet ports, queue pairs, RDMA windows, rings, host output queues and the PCIe endpoint (R421 to R436).
-/

namespace Sys2Proof.Machine

/-- The object of an RDMA window. -/
def winObj (w sub : Nat) : Key := ob (0x2410 + w) sub

/-! ## Ports (R421, R430) -/

/-- Ports of the lane configuration (R421). -/
def State.portCount (s : State) : Nat :=
  match s.nat (ob 0x2400 1) with
  | 0 => 2
  | 1 => 4
  | _ => 8

/-- The power domain of a port's first lane: 50 for lanes 0 to 3, 51 for lanes 4 to 7 (R421, R441). -/
def State.laneDomain (s : State) (p : Nat) : Nat := if p * (8 / s.portCount) < 4 then 50 else 51

/-- Whether a port's lanes and the Ethernet units have power; in standby they have none (R37, R441). -/
def State.portPowered (s : State) (p : Fin 8) : Bool := s.domainServes (s.laneDomain p.val) && s.domainServes 71

/-- 0x2401: state of a port: absent beyond the configured count, down without power (R37). -/
def State.portState (s : State) (p : Fin 8) : Nat :=
  if s.portCount ≤ p.val then 0 else if s.portPowered p then s.net.ports[p].state else 1

/-- R37, R444: the links of an Ethernet domain whose switches open are down to their peers, and nothing waits in their ports. -/
def State.dropLinks (s : State) (d : Nat) : State :=
  s.modNet fun n => { n with ports := updAll n.ports fun p x => if d = 71 ∨ s.laneDomain p = d then { x with state := 1, paused := [], waiting := [] } else x }

/-- R430: a port that loses block lock retrains; the third retrain within 10 s holds it down with fault 0x0F02. A port without power has no lock to lose. -/
def State.loseLock (s : State) (p : Fin 8) : State :=
  if !s.portPowered p ∨ s.portState p = 0 ∨ s.portState p = 4 then s
  else
    let recent := (s.net.ports[p].retrains.filter fun t => decide (s.now < 10000000000 + t)) ++ [s.now]
    if recent.length < 3 then s.modPort p fun x => { x with state := 2, retrains := recent }
    else (s.modPort p fun x => { x with state := 4, retrains := recent }).fault 0x0F02 (.ofUnit p.val) (at_ 8 0 recent.length)

/-- R430: 0x2402 brings a port that is held down up again: it trains. -/
def State.portUp (s : State) (p : Fin 8) : State :=
  if s.portState p = 4 then s.modPort p fun x => { x with state := 2, retrains := [] } else s

/-- R430: link training and block lock are complete. -/
def State.portLinked (s : State) (p : Fin 8) : State :=
  if s.portPowered p ∧ (s.portState p = 1 ∨ s.portState p = 2) then s.modPort p fun x => { x with state := 3 } else s

/-- R422, R430: a pause frame pauses a priority that 0x2400:07 names, unless the watchdog has made it stop honouring them; one that asks for no time ends the pause, and what waits is sent (IEEE 802.1Qbb; PRESUMED, log entry 69). -/
def State.pause (s : State) (p : Fin 8) (prio : Fin 8) (quanta : Nat) : State :=
  if !bit (s.nat (ob 0x2400 7)) prio.val then s
  else if quanta = 0 then (s.modPort p fun x => { x with paused := x.paused.filter fun e => e.1 != prio }).transmitWaiting p
  else s.modPort p fun x =>
    if x.ignoring.any fun e => e.1 == prio then
      { x with ignoring := x.ignoring.map fun e => if e.1 = prio then (prio, s.now) else e }
    else if x.paused.any fun e => e.1 == prio then x
    else { x with paused := x.paused ++ [(prio, s.now)] }

/-- R430: a priority paused for longer than the watchdog stops honouring pause frames: fault 0x0F07. -/
def State.pauseWatchdog (s : State) (p : Fin 8) (prio : Fin 8) : State :=
  if s.net.ports[p].paused.any fun e => e.1 == prio && decide (e.2 + 1000000 * s.nat (ob 0x2400 8) ≤ s.now) then
    ((s.modPort p fun x => { x with paused := x.paused.filter fun e => e.1 != prio, ignoring := x.ignoring ++ [(prio, s.now)] }).fault
      0x0F07 (.ofUnit p.val) (at_ 8 0 prio.val)).transmitWaiting p
  else s

/-- R430: after 1 s without pause frames they are honoured again. -/
def State.pauseQuiet (s : State) (p : Fin 8) (prio : Fin 8) : State :=
  s.modPort p fun x => { x with ignoring := x.ignoring.filter fun e => e.1 != prio || decide (s.now < 1000000000 + e.2) }

/-! ## Queue pairs (R422, R429) -/

/-- R429: an exhausted limit moves the queue pair to the error state and completes the waiting descriptor with RETRY_EXHAUSTED_NET: fault 0x0F01. -/
def State.qpExhausted (s : State) (q : Fin 256) (why : Nat) (owner : Option (Fin 10 × BitVec 128)) : State :=
  let s1 := s.modQp q fun x => { x with error := true }
  let s2 := match owner with
    | some (r, h) => s1.complete r 18 h stRetryNet 0 0
    | none => s1
  s2.fault 0x0F01 .chip (at_ 32 32 q.val ||| at_ 8 0 why)

/-- R429: retransmission from the first unacknowledged packet, with which the ACK timeout begins anew. -/
def State.resend (s : State) (q : Fin 256) : State :=
  (s.modQp q fun x => { x with timerAt := some s.now }).emit (.retransmit (s.nat (ob 0x2400 9)) q.val s.net.qps[q].first)

/-- R429: retransmission go-back-N from the first unacknowledged packet takes one transport retry. -/
def State.goBack (s : State) (q : Fin 256) (owner : Option (Fin 10 × BitVec 128)) : State :=
  let x := s.net.qps[q]
  if x.error then s
  else if s.nat (ob 0x2400 3) < x.tries + 1 then s.qpExhausted q 1 owner
  else (s.modQp q fun x => { x with tries := x.tries + 1 }).resend q

/-- R429: the ACK timeout of 4.096 µs × 2^n since the last acknowledgement or retransmission. -/
def State.ackOverdue (s : State) (q : Fin 256) (owner : Option (Fin 10 × BitVec 128)) : State :=
  if s.due s.net.qps[q].timerAt (4096 * 2 ^ s.nat (ob 0x2400 4)) then s.goBack q owner else s

/-- R429: a receiver-not-ready NAK is retried within its own limit. -/
def State.rnrNak (s : State) (q : Fin 256) (owner : Option (Fin 10 × BitVec 128)) : State :=
  let x := s.net.qps[q]
  if x.error then s
  else if s.nat (ob 0x2400 5) < x.rnr + 1 then s.qpExhausted q 2 owner
  else (s.modQp q fun x => { x with rnr := x.rnr + 1 }).resend q

/-- R429: an ACK advances the window past its packet and clears the retries used; a NAK restarts it at its packet, which takes one retry. -/
def State.roceAck (s : State) (q : Fin 256) (psn : Nat) (nak : Bool) (owner : Option (Fin 10 × BitVec 128)) : State :=
  if s.net.qps[q].error then s
  else if nak then (s.modQp q fun x => { x with first := psn % 2 ^ 24 }).goBack q owner
  else s.modQp q fun x => { x with first := (psn + 1) % 2 ^ 24, tries := 0, rnr := 0, timerAt := some s.now }

/-- R422: a congestion notification halves the rate. -/
def State.congested (s : State) (q : Fin 256) : State := s.modQp q fun x => { x with rate := x.rate / 2, lastCnp := some s.now }

/-- R422: 55 µs without a notification regain one eighth of the line rate. -/
def State.regainRate (s : State) (q : Fin 256) : State :=
  match s.net.qps[q].lastCnp with
  | some t =>
    if 55000 + t ≤ s.now then
      s.modQp q fun x => { x with rate := min 1024 (x.rate + 128), lastCnp := if 1024 ≤ x.rate + 128 then none else some s.now }
    else s
  | none => s

/-- R429: a queue pair is re-established. -/
def State.reestablish (s : State) (q : Fin 256) : State :=
  if s.net.qps[q].error then s.modQp q fun _ => Qp.reset else s

/-- R429: the next launch re-establishes every queue pair that is in error. -/
def State.launchNet (s : State) : State := (idxs 256).foldl (fun acc (q : Fin 256) => acc.reestablish q) s

/-- 0x2480:02. -/
def State.qpsInError (s : State) : Nat := ((idxs 256).filter fun q => s.net.qps[q].error).length

/-! ## RDMA windows (R424 to R427) -/

/-- A window's object: as it stood before the last switch for a request whose first packet arrived before it (R426). -/
def State.winVal (s : State) (old : Bool) (w sub : Nat) : Nat :=
  match if old then get? s.net.oldWindows (winObj w sub) else none with
  | some v => v.num.toNat
  | none => s.nat (winObj w sub)

/-- The place `offset` bytes into a window. -/
def State.winPlace (s : State) (old : Bool) (w offset : Nat) : MemRef :=
  let loc := s.winVal old w 3
  { space := s.winVal old w 2, region := bits loc 15 8, block := bits loc 7 0, addr := s.winVal old w 4 + offset }

/-- The rights bits: 0 read, 1 write, 2 receive, 3 PCIe. -/
def State.winRight (s : State) (old : Bool) (w k : Nat) : Bool := bit (s.winVal old w 6) k

/-- The enabled window that a key names; key 0 names none (R424, R425). -/
def State.windowOf (s : State) (old : Bool) (key : Nat) : Option (Fin 64) :=
  if key = 0 then none
  else (idxs 64).find? fun (w : Fin 64) => s.winVal old w.val 1 != 0 && s.winVal old w.val 7 == key

/-- Where the last record of a window's refusals is kept; 64 stands for no window. -/
def winSlot (w : Option (Fin 64)) : Fin 65 :=
  match w with
  | some w => ⟨w.val, by omega⟩
  | none => 64

/-- The number by which fault 0x0F03 names a window, 0xFF for none. -/
def winNumber (w : Option (Fin 64)) : Nat :=
  match w with
  | some w => w.val
  | none => 0xFF

/-- Whether a second has passed since the last record, if there was one. -/
def secondSince (last : Option Nat) (now : Nat) : Bool :=
  match last with
  | some t => decide (1000000000 + t ≤ now)
  | none => true

/-- R425: a refusal counts in :09 of the window, and the first of a window in any second writes fault 0x0F03. -/
def State.winRefused (s : State) (w : Option (Fin 64)) (unit key why : Nat) : State :=
  let s1 := match w with
    | some w => s.bump (winObj w.val 9)
    | none => s
  if secondSince (s.net.refusedAt.get (winSlot w)) s.now then
    (s1.modNet fun n => { n with refusedAt := upd n.refusedAt (winSlot w) fun _ => some s.now }).fault 0x0F03 (.ofUnit unit)
      (at_ 32 32 key ||| at_ 8 8 why ||| at_ 8 0 (winNumber w))
  else s1

/-- What becomes of an incoming request: its window and place, a refusal with its window and cause, or a receiver-not-ready NAK. -/
inductive WinAnswer where
  | grant (w : Fin 64) (p : MemRef)
  | refuse (w : Option (Fin 64)) (why : Nat)
  | notReady

/-- R425: the checks in order: key, right, range; a request in flight across a migration's launch beat is not ready (R427). -/
def State.winCheck (s : State) (q : RdmaReq) (right : Nat) : WinAnswer :=
  let old := q.firstBeforeSwitch
  match s.windowOf old q.key with
  | none => .refuse none 1
  | some w =>
    if old && s.net.moved.contains w.val then .notReady
    else if !s.winRight old w.val right then .refuse (some w) 2
    else if s.winVal old w.val 5 < q.offset + q.length then .refuse (some w) 3
    else .grant w (s.winPlace old w.val q.offset)

/-- Answers to the peer: 0 done, 1 remote access error NAK, 2 invalid request NAK, 3 receiver not ready NAK. -/
def rdmaDone : Nat := 0
def rdmaAccess : Nat := 1
def rdmaInvalid : Nat := 2
def rdmaNotReady : Nat := 3

/-- The priority of a response from a window (R423): of class L 1; of class I 3, and of any other case (DESIGN CHOICE, log entry 68). -/
def State.winPriority (s : State) (q : RdmaReq) : Nat :=
  match s.windowOf q.firstBeforeSwitch q.key with
  | some w => if s.winVal q.firstBeforeSwitch w.val 8 = 3 then 1 else 3
  | none => 3

/-- The answer to a request leaves by its port at its window's priority (R423). -/
def State.answerRdma (s : State) (q : RdmaReq) (result : Nat) (data : Bytes) : State :=
  s.transmit q.port (.rdma (s.winPriority q) q.qp.val result data)

/-- R425, R359: a request that passes its window's checks and the guard of the window's class continues with its place; else it is answered here. A port without power receives none (R37). -/
def State.serveRdma (s : State) (q : RdmaReq) (right : Nat) (write : Bool) (go : State → MemRef → State) : State :=
  if s.net.qps[q.qp].error || !s.portPowered q.port then s
  else match s.winCheck q right with
    | .notReady => s.answerRdma q rdmaNotReady []
    | .refuse w why => (s.winRefused w q.port.val q.key why).answerRdma q rdmaAccess []
    | .grant w p =>
      let cls := s.winVal q.firstBeforeSwitch w.val 8
      if p.inside q.length && s.permits cls p q.length write then go s p
      else (s.guardRefused cls p (if p.space = 0 then 0xFF else p.region)).answerRdma q rdmaAccess []

/-- R425: READ. -/
def State.rdmaReadReq (s : State) (q : RdmaReq) : State :=
  s.serveRdma q 0 false fun s p => s.answerRdma q rdmaDone (s.load p q.length)

/-- R425: WRITE, and SEND into a window with the receive right. -/
def State.rdmaWriteReq (s : State) (q : RdmaReq) (data : Bytes) (right : Nat) : State :=
  s.serveRdma { q with length := data.length } right true fun s p => (s.store p data).answerRdma q rdmaDone []

/-! ## Rings (R96, R432, R433) -/

/-- Whether the beat in which a ring message is to be consumed has begun before it came (R96, R432). -/
def State.ringLate (s : State) (ring : Nat) (imm : BitVec 32) : Bool :=
  match s.ringLag ring with
  | some lag => s.running && decide (lag ≤ (s.beat + 2 ^ 24 - fld imm 31 8) % 2 ^ 24 ∧ (s.beat + 2 ^ 24 - fld imm 31 8) % 2 ^ 24 < 2 ^ 23)
  | none => false

/-- R433: a gathered part is placed by its index. -/
def State.placePart (s : State) (ring index : Nat) (data : Bytes) : State :=
  match s.gatherOf ring with
  | some g => s.store (partPlace g index) (data.take g.partBytes)
  | none => s

/-- R432, R433: a ring message that has come in time: kept until the beat that consumes it, in place of an earlier one of the same ring, producing beat and part; a gathered part is placed by its index; and it is forwarded as the next step's message (DESIGN CHOICE, log entry 70: at its arrival). -/
def State.takeRing (s : State) (ring : Fin 4) (imm : BitVec 32) (data : Bytes) : State :=
  let kept := s.modNet fun n => { n with ringIn := (n.ringIn.filter fun m => !(m.1 == ring.val && bits m.2.1 31 8 == fld imm 31 8 && bits m.2.1 3 0 == fld imm 3 0)) ++ [(ring.val, imm.toNat, data)] }
  (kept.placePart ring.val (fld imm 3 0) data).sendRing ring.val (fld imm 7 4 + 1) (fld imm 3 0) data

/-- R432: a ring message whose immediate names another beat or step, that comes after its consuming beat has begun, or for a ring that is off, is discarded and counted: fault 0x0F04; else it is taken. -/
def State.ringMessage (s : State) (q : RdmaReq) (data : Bytes) (imm : BitVec 32) (ring : Fin 4) (beat step : Nat) : State :=
  s.serveRdma { q with length := data.length } 1 true fun s p =>
    if s.flag (ob (0x2470 + ring.val) 1) && fld imm 31 8 == beat % 2 ^ 24 && fld imm 7 4 == step % 16 && !s.ringLate ring.val imm then
      ((s.store p data).answerRdma q rdmaDone []).takeRing ring imm data
    else ((s.bump (ob 0x2480 3)).fault 0x0F04 (.ofUnit ring.val) imm.toNat).answerRdma q rdmaDone []

/-- R96: a message that the beat now ending was to consume is consumed in no other beat. -/
def State.dropConsumed (s : State) : State :=
  s.modNet fun n => { n with ringIn := n.ringIn.filter fun m => !s.ringDue m }

/-! ## Host output queues (R428, R49) -/

def hostObj (q sub : Nat) : Key := ob (0x2460 + q) sub

/-- Oldest records are dropped and counted; fault 0x0F05 once per episode. -/
def State.dropOldest (s : State) (q : Fin 16) (n : Nat) : State :=
  if n = 0 then s
  else
    let s1 := s.modQueue q fun x => { x with times := x.times.drop n, dropped := (x.dropped + n) % 2 ^ 64, told := true }
    if s.net.queues[q].told then s1 else s1.fault 0x0F05 (.ofUnit q.val) (at_ 32 0 s1.net.queues[q].dropped)

/-- The bytes of a record of a queue, as the running image fixes them; 0 where it names none (R428). -/
def State.recordSize (s : State) (q : Fin 16) : Nat := ((s.launch.image.bind fun im => get? im.recordSizes q.val)).getD 0

/-- The place of entry `index` of a queue's ring in its window (R428). -/
def State.hostPlace (s : State) (q : Fin 16) (index : Nat) : MemRef := s.winPlace false (s.nat (hostObj q.val 2)) (index * s.recordSize q)

/-- One record enters the ring: its bytes fill its entry, and the producer index advances (R428). -/
def State.enterRecord (s : State) (q : Fin 16) (b : Bytes) : State :=
  let size := s.recordSize q
  let p := s.hostPlace q s.net.queues[q].producer
  let s1 := if size ≠ 0 ∧ p.inside size then s.store p ((padTo size (b.take size)).take size) else s
  s1.modQueue q fun x => { x with producer := (x.producer + 1) % max 1 (s.nat (hostObj q.val 3)), times := x.times ++ [s.now] }

/-- Records enter the ring, and the host's vector is raised (R428, R434). -/
def State.enterRecords (s : State) (q : Fin 16) (recs : List Bytes) : State :=
  if recs.isEmpty then s else (recs.foldl (fun acc b => acc.enterRecord q b) s).emit (.msix (2 + q.val))

/-- A record for a host output queue: it enters the ring, waits while the ring is full, or takes the place of the oldest one in a drop episode (R49, R428). -/
def State.pushHost (s : State) (q : Fin 16) (b : Bytes) : State :=
  if !s.flag (hostObj q.val 1) then s
  else if s.net.queues[q].times.length < s.nat (hostObj q.val 3) then s.enterRecords q [b]
  else if s.net.queues[q].dropping then (s.dropOldest q 1).enterRecords q [b]
  else s.modQueue q fun x => { x with held := x.held ++ [b] }

/-- R428: the host's consumer index frees records; held ones enter; a drop episode ends. -/
def State.consumeTo (s : State) (q : Fin 16) (index : Nat) : State :=
  let ring := max 1 (s.nat (hostObj q.val 3))
  let freed := (index + ring - s.net.queues[q].consumer % ring) % ring
  let s1 := s.modQueue q fun x =>
    { x with consumer := index, times := x.times.drop freed, dropping := x.dropping && freed == 0, told := x.told && freed == 0 }
  let room := s.nat (hostObj q.val 3) - s1.net.queues[q].times.length
  (s1.modQueue q fun x => { x with held := x.held.drop room }).enterRecords q (s1.net.queues[q].held.take room)

/-- R49: a queue still full when the drain bound of its oldest record expires drops its oldest records from then on: as many as the ring has no entry for, of those in it and those that producers hold back. -/
def State.drainTimeout (s : State) (q : Fin 16) : State :=
  match s.net.queues[q].times with
  | [] => s
  | t :: _ =>
    let ring := s.nat (hostObj q.val 3)
    if ring ≤ s.net.queues[q].times.length ∧ t + 1000000 * s.nat (hostObj q.val 4) ≤ s.now then
      let held := s.net.queues[q].held
      ((s.modQueue q fun x => { x with dropping := true, held := [] }).dropOldest q (s.net.queues[q].times.length + held.length - ring)).enterRecords q
        (held.drop (held.length - ring))
    else s

/-! ## PCIe (R434, R435) -/

/-- R435: a refused BAR 2 access: a read completes with Completer Abort, a write is dropped; no key takes part, so the key field is a free value. -/
def State.bar2Refused (s : State) (w : Fin 64) (write : Bool) : State :=
  let d := s.drawNat 34 32 []
  let s1 := d.2.winRefused (some w) 0xFF d.1 4
  if write then s1 else s1.emit (.pcieRead none)

/-- R434, R435: an access to the first GiB of a window with its PCIe right and its rights, within its size; one that the guard of the window's class refuses is answered likewise, and recorded as R359 says. -/
def State.bar2 (s : State) (w : Fin 64) (offset : Nat) (data : Option Bytes) (length : Nat) : State :=
  if !s.net.pcieUp || !s.domainServes 52 then s
  else
    let n := match data with
      | some d => d.length
      | none => length
    let right := match data with
      | some _ => 1
      | none => 0
    let p := s.winPlace false w.val offset
    let ok := s.winVal false w.val 1 != 0 && s.winRight false w.val 3 && s.winRight false w.val right
      && decide (offset + n ≤ s.winVal false w.val 5 ∧ offset + n ≤ 2 ^ 30) && p.inside n
    if !ok then s.bar2Refused w data.isSome
    else if !s.permits (s.winVal false w.val 8) p n data.isSome then
      let s1 := s.guardRefused (s.winVal false w.val 8) p (if p.space = 0 then 0xFF else p.region)
      if data.isSome then s1 else s1.emit (.pcieRead none)
    else match data with
      | some d => s.store p d
      | none => s.emit (.pcieRead (some (s.load p n)))

/-- R435: the fourth retrain within 1 s holds the link down: fault 0x0F06. -/
def State.pcieRetrain (s : State) : State :=
  if s.net.pcieHeld then s
  else
    let recent := (s.net.pcieRetrains.filter fun t => decide (s.now < 1000000000 + t)) ++ [s.now]
    let s1 := (s.modNet fun n => { n with pcieRetrains := recent }).bump (ob 0x2500 2)
    if recent.length < 4 then s1
    else (s1.modNet fun n => { n with pcieHeld := true, pcieUp := false, pcieSpeed := 0, pcieLanes := 0 }).fault 0x0F06 .chip (at_ 8 0 recent.length)

/-- R435: a hot reset or 0x2500:03 lets a link that is held down train again. -/
def State.pcieRelease (s : State) : State :=
  if s.net.pcieHeld then s.modNet fun n => { n with pcieHeld := false, pcieRetrains := [] } else s

/-- R37, R444: the link of a PCIe endpoint whose switches open is down to the host. -/
def State.pcieDown (s : State) : State := s.modNet fun n => { n with pcieUp := false, pcieSpeed := 0, pcieLanes := 0 }

/-- R434: training is complete. -/
def State.pcieLinked (s : State) (speed lanes : Nat) : State :=
  if s.net.pcieHeld || !s.domainServes 52 then s else s.modNet fun n => { n with pcieUp := true, pcieSpeed := speed % 256, pcieLanes := lanes % 256 }

/-! ## The commands -/

/-- R49. -/
def execHostQueueDrainTimeout (t : Nat) (q : Fin 16) (s : State) : Host.Outcome State Fault Refusal := .next ((s.advance t).drainTimeout q)

/-- R425. -/
def execRdmaRead (t : Nat) (q : RdmaReq) (s : State) : Host.Outcome State Fault Refusal := .next ((s.advance t).rdmaReadReq q)

/-- R425. -/
def execRdmaWrite (t : Nat) (q : RdmaReq) (data : Bytes) (s : State) : Host.Outcome State Fault Refusal :=
  .next ((s.advance t).rdmaWriteReq q data 1)

/-- R432. -/
def execRdmaWriteWithImmediate (t : Nat) (q : RdmaReq) (data : Bytes) (imm : BitVec 32) (ring : Fin 4) (expectedBeat expectedStep : Nat)
    (s : State) : Host.Outcome State Fault Refusal :=
  .next ((s.advance t).ringMessage q data imm ring expectedBeat expectedStep)

/-- R425. -/
def execSend (t : Nat) (q : RdmaReq) (data : Bytes) (s : State) : Host.Outcome State Fault Refusal := .next ((s.advance t).rdmaWriteReq q data 2)

/-- R422: atomic operations are NAKed as an invalid request; a port without power receives none (R37). -/
def execAtomicRequest (t : Nat) (q : RdmaReq) (s : State) : Host.Outcome State Fault Refusal :=
  let s := s.advance t
  .next (if s.portPowered q.port then s.answerRdma q rdmaInvalid [] else s)

/-- R429. -/
def execAckTimeout (t : Nat) (qp : Fin 256) (owner : Option (Fin 10 × BitVec 128)) (s : State) : Host.Outcome State Fault Refusal :=
  .next ((s.advance t).ackOverdue qp owner)

/-- R429. -/
def execReceiverNotReadyNak (t : Nat) (qp : Fin 256) (owner : Option (Fin 10 × BitVec 128)) (s : State) : Host.Outcome State Fault Refusal :=
  .next ((s.advance t).rnrNak qp owner)

/-- R422. -/
def execCongestionNotification (t : Nat) (qp : Fin 256) (s : State) : Host.Outcome State Fault Refusal := .next ((s.advance t).congested qp)

/-- R422. -/
def execRateRecoveryTimer (t : Nat) (qp : Fin 256) (s : State) : Host.Outcome State Fault Refusal := .next ((s.advance t).regainRate qp)

/-- R430. -/
def execPortBlockLockLost (t : Nat) (port : Fin 8) (s : State) : Host.Outcome State Fault Refusal := .next ((s.advance t).loseLock port)

/-- R430. -/
def execPfcPauseReceived (t : Nat) (port : Fin 8) (p : PfcPause) (s : State) : Host.Outcome State Fault Refusal :=
  .next ((s.advance t).pause port p.prio p.quanta)

/-- R430. -/
def execPauseWatchdogTimeout (t : Nat) (port prio : Fin 8) (s : State) : Host.Outcome State Fault Refusal :=
  .next ((s.advance t).pauseWatchdog port prio)

/-- R435. -/
def execBar2Access (t : Nat) (w : Fin 64) (offset : Nat) (data : Option Bytes) (length : Nat) (s : State) : Host.Outcome State Fault Refusal :=
  .next ((s.advance t).bar2 w offset data length)

/-- R435. -/
def execPcieLinkRetrain (t : Nat) (s : State) : Host.Outcome State Fault Refusal := .next (s.advance t).pcieRetrain

/-- R435. -/
def execPcieHotReset (t : Nat) (s : State) : Host.Outcome State Fault Refusal := .next (s.advance t).pcieRelease

/-- R430. -/
def execPortLinkUp (t : Nat) (port : Fin 8) (s : State) : Host.Outcome State Fault Refusal := .next ((s.advance t).portLinked port)

/-- R434. -/
def execPcieLinkUp (t : Nat) (speed lanes : Nat) (s : State) : Host.Outcome State Fault Refusal := .next ((s.advance t).pcieLinked speed lanes)

/-- R430. -/
def execPauseQuietTimeout (t : Nat) (port prio : Fin 8) (s : State) : Host.Outcome State Fault Refusal := .next ((s.advance t).pauseQuiet port prio)

/-- R429. -/
def execRoceAckReceived (t : Nat) (qp : Fin 256) (psn : Nat) (nak : Bool) (owner : Option (Fin 10 × BitVec 128)) (s : State) :
    Host.Outcome State Fault Refusal := .next ((s.advance t).roceAck qp psn nak owner)

end Sys2Proof.Machine
end

