-- ==== Sys2Proof/Machine/Transfers.lean ====
section
/-!
DEFINITION. Blocks and memories: transfers of the access and DMA engines, the cache segment, suspect cells and cell swaps, row map-outs (R144, R145, R147 to R160).
-/

namespace Sys2Proof.Machine

/-! ## The cache segment (R154, R155) -/

/-- The set of a line address: 1,024 sets of 256-byte lines (R154). -/
def cacheSet (line : Nat) : Nat := line / 256 % 1024

/-- A line used last moves to the front of the segment. A set holds four lines; in a full one a line that was not used last makes way, and which of the three it is R154 leaves open: a free value (log entry 43). -/
def State.touchLine (s : State) (r : Fin 10) (b : Fin 18) (line : Nat) (content : Bytes) : State :=
  let lines := (s.block r b).cacheLines
  let mine := lines.filter fun e => e.1 != line && cacheSet e.1 == cacheSet line
  let front (s : State) (gone : Option Nat) : State :=
    s.modBlock r b fun x => { x with cacheLines := (line, content) :: x.cacheLines.filter fun e => e.1 != line && some e.1 != gone }
  if mine.length < 4 then front s none
  else
    let d := s.drawNat 65 32 [(line : Int)]
    front d.2 ((mine[1 + d.1 % 3]?).map fun e => e.1)

/-- One line read through the segment: a hit returns the line's content, which other writers may have made stale; a miss reads HBM and allocates (R155). -/
def State.readLine (s : State) (r : Fin 10) (b : Fin 18) (line : Nat) : Bytes × State :=
  match get? (s.block r b).cacheLines line with
  | some c => (c, s.touchLine r b line c)
  | none =>
    let c := s.load ⟨0, 0, 0, line⟩ 256
    (c, (s.touchLine r b line c).countBlock r b 17 1)

/-- `n` HBM bytes from address `a` read through the segment, line by line. -/
def State.readCached (s : State) (r : Fin 10) (b : Fin 18) (a n : Nat) : Bytes × State :=
  let first := a / 256
  let count := divUp (a % 256 + n) 256
  let res := (List.range count).foldl (fun acc i =>
    let x := acc.2.readLine r b ((first + i) * 256)
    (acc.1 ++ x.1, x.2)) (([] : Bytes), s)
  ((res.1.drop (a % 256)).take n, res.2)

/-- A block's HBM write passes through and updates the lines that hit (R155). -/
def updateLines (lines : List (Nat × Bytes)) (a : Nat) (bs : Bytes) : List (Nat × Bytes) :=
  lines.map fun e => (e.1, e.2.mapIdx fun i old => if a ≤ e.1 + i ∧ e.1 + i < a + bs.length then bs.getD (e.1 + i - a) old else old)

/-! ## Transfers (R147 to R149, R156) -/

/-- HBM traffic of a region's port, by class and direction (R466). -/
def State.countHbm (s : State) (r : Fin 10) (cls : Nat) (write : Bool) (n : Nat) : State :=
  let s1 := s.countChip (if write then 5 else 4) n
  if cls = 1 then s1.countRegion r 11 n else if cls = 2 then s1.countRegion r 12 n else s1.countRegion r 13 n

/-- The bytes of a transfer that has read its source go to its destination; `seg` names the block whose cache segment serves HBM. -/
def State.finishMove (s : State) (r : Fin 10) (b : Nat) (seg : Option (Fin 18)) (d : MoveDesc) (bs : Bytes) : State :=
  let h := d.header
  let s1 := s.deliverOut r b h d.dst bs
  let toHbm := d.dst.space == 0 && !hReleaseHold h
  let s2 := match seg with
    | some k => if toHbm then s1.modBlock r k fun x => { x with cacheLines := updateLines x.cacheLines d.dst.addr bs } else s1
    | none => s1
  let s3 := if d.src.space = 0 then s2.countHbm r (hClass h) false d.length else s2
  let s4 := if toHbm then s3.countHbm r (hClass h) true d.length else s3
  s4.complete r b h stOk 0 d.length

/-- A transfer runs between two places: out-of-range or cache-segment addresses end with ADDRESS, refused accesses with GUARD_REFUSED, the events that met it with their status; else the bytes move. -/
def State.runMove (s : State) (r : Fin 10) (b : Nat) (seg : Option (Fin 18)) (d : MoveDesc) : State :=
  let h := d.header
  let n := d.length
  if s.badPlace d.src n || (!hReleaseHold h && s.badPlace d.dst n) then s.complete r b h stAddress 0 0
  else if !s.permits (hClass h) d.src n false then s.endGuard r b h d.src
  else if !s.mayDeliverOut h d.dst n then s.endGuard r b h d.dst
  else
    let met := s.meetUpsets r b h d.upsets [(d.src, n)]
    match met.2 with
    | some st => met.1.complete r b h st 0 0 (decide (st = stResidue))
    | none =>
      let cached := met.1.cacheOn && hCacheable h && !hDataAddressed h && d.src.space == 0
      let got : Bytes × State := match seg with
        | some k => if cached then met.1.readCached r k d.src.addr n else (met.1.load d.src n, met.1)
        | none => (met.1.load d.src n, met.1)
      got.2.finishMove r b seg d got.1

/-- R148, R155: a descriptor of a block's access engine that starts. -/
def State.runAccess (s : State) (r : Fin 10) (b : Fin 18) (d : MoveDesc) : State :=
  ((s.startBlock r b d.header).runMove r b.val (some b) d).countBlock r b 14 (divUp d.length 64)

/-- R156: a descriptor of a region's DMA engine that starts. -/
def State.runDma (s : State) (r : Fin 10) (eng : Fin 2) (d : MoveDesc) : State :=
  (s.runMove r 18 none d).countRegion r (if eng.val = 0 then 5 else 6) (divUp d.length 64)

/-! ## Cells and rows -/

/-- R144: a suspect cell whose window has passed without a second mismatch stops being suspect. -/
def State.unsuspect (s : State) (r : Fin 10) (b : Fin 18) (cell : Fin 65) : State :=
  s.modBlock r b fun x =>
    { x with suspects := x.suspects.filter fun e => e.1 != cell || decide (s.now < e.2 + 1000000 * s.nat (ob 0x3040 1)) }

/-- R145: cell 64 takes the failed cell's position, if a cell is to be replaced; fault 0x0206. -/
def State.wireSpare (s : State) (r : Fin 10) (b : Fin 18) : State :=
  match (s.block r b).swapCell with
  | none => s
  | some (c, _) =>
    (s.modBlock r b fun x => { x with swapCell := none, grid := c.val, suspects := x.suspects.filter fun e => e.1 != c }).fault
      0x0206 (.ofCell r.val b.val c.val) c.val

/-- R145: the swap takes place at the block's idle point, at or after the start of the beat that follows the decision. Without a launch there is no beat to wait for. -/
def State.swapCell (s : State) (r : Fin 10) (b : Fin 18) : State :=
  match (s.block r b).swapCell with
  | none => s
  | some (_, decided) => if !s.beatReached (decided + 1) || (s.block r b).selWait.isSome then s else s.wireSpare r b

/-- Whether the rows of a location can be copied now: the arrays of its region are on (R159). -/
def State.rowsOn (s : State) (loc : BitVec 32) : Bool :=
  if h : fld loc 31 28 < 10 then s.power.domains[sramDomain ⟨_, h⟩].state == 2 else false

/-- The map-outs that wait for the block, or the region memory, of a location. -/
def State.mapOuts (s : State) (loc : BitVec 32) : List (Nat × Nat × Nat) :=
  if hr : fld loc 31 28 < 10 then
    if hb : fld loc 27 23 < 18 then (s.block ⟨_, hr⟩ ⟨_, hb⟩).mapQueue else s.regions[(⟨_, hr⟩ : Fin 10)].memMap
  else []

/-- Whether a decided map-out may run now: those for uncorrectable errors run regardless of 0x3200:04, others while it is 1 (R157). -/
def State.mapOutRuns (s : State) (e : Nat × Nat × Nat) : Bool := e.2.2 == 2 || s.flag (ob 0x3200 4)

/-- The location leaves its map-out queue. -/
def State.dequeue (s : State) (loc : BitVec 32) : State :=
  let keep (e : Nat × Nat × Nat) : Bool := !(e.1 == fld loc 22 16 && e.2.1 == fld loc 15 0)
  if hr : fld loc 31 28 < 10 then
    if hb : fld loc 27 23 < 18 then s.modBlock ⟨_, hr⟩ ⟨_, hb⟩ fun x => { x with mapQueue := x.mapQueue.filter keep }
    else s.modRegion ⟨_, hr⟩ fun x => { x with memMap := x.memMap.filter keep }
  else s

/-- A decided map-out takes place; of a request 0x3200:08 shows the end (R157, R158). -/
def State.doMapOut (s : State) (loc : BitVec 32) (cause : Nat) : State :=
  let full := (s.freeRow loc).isNone
  let s1 := (s.dequeue loc).mapOut loc cause
  if cause = 3 then s1.modService fun v => { v with mapResult := if full then 3 else 0 } else s1

/-- R158, R159: a decided map-out of a row runs, if it may run now, the arrays are on, and none that may run was decided before it in its bank. -/
def State.runMapOut (s : State) (loc : BitVec 32) : State :=
  match (s.mapOuts loc).find? fun e => e.1 == fld loc 22 16 && s.mapOutRuns e with
  | some e => if e.2.1 = fld loc 15 0 && s.rowsOn loc then s.doMapOut loc e.2.2 else s
  | none => s

/-- R159: at a power-up of the arrays of a region the map-outs that wait and may run take place, in the order they were decided, before any descriptor runs. -/
def State.runQueued (s : State) (r : Fin 10) : State :=
  let run (s : State) (block : Nat) (q : List (Nat × Nat × Nat)) : State :=
    (q.filter s.mapOutRuns).foldl (fun acc e => acc.doMapOut (rowLoc r.val block e.1 e.2.1) e.2.2) s
  let s1 := (idxs 18).foldl (fun acc b => run acc b.val (acc.block r b).mapQueue) s
  run s1 31 s1.regions[r].memMap

/-- R157, R159: a request names a row: ignored where it is mapped already (2), refused by a full bank (3), else queued (1). -/
def State.requestMapOut (s : State) (loc : BitVec 32) : State :=
  if s.rowMapped loc then s.modService fun v => { v with mapResult := 2 }
  else if (s.freeRow loc).isNone then (s.bankExhausted loc).modService fun v => { v with mapResult := 3 }
  else (s.queueMapOut loc 3).modService fun v => { v with mapResult := 1 }

/-- R144. -/
def execResidueWindowExpiry (t : Nat) (r : Fin 10) (b : Fin 18) (cell : Fin 65) (s : State) : Host.Outcome State Fault Refusal :=
  .next ((s.advance t).unsuspect r b cell)

/-- R145. -/
def execCellSpareSwap (t : Nat) (r : Fin 10) (b : Fin 18) (s : State) : Host.Outcome State Fault Refusal := .next ((s.advance t).swapCell r b)

/-- R158. -/
def execRowMapOut (t : Nat) (loc : BitVec 32) (s : State) : Host.Outcome State Fault Refusal := .next ((s.advance t).runMapOut loc)

end Sys2Proof.Machine
end

