-- ==== Sys2Proof/Machine/Weave.lean ====
section
/-!
DEFINITION. The weave: illegal codes, synchroniser parity, stalled blocks, replica measurements (R54, R61 to R67, R75 to R77).
-/

namespace Sys2Proof.Machine

/-- R54: fault 0x0108, whose record names no partition (DESIGN CHOICE, log entry 53), and the owning descriptor ends with DUAL_RAIL. -/
def State.dualRail (s : State) (r : Fin 10) (b : Fin 18) (channel : Nat) (owner : BitVec 128) : State :=
  (s.fault 0x0108 (.ofBlock r.val b.val) (at_ 16 0 channel)).complete r b.val owner stDualRail 0 0

/-- R67: fault 0x0106, and the transfer the word belonged to ends with SYNC_ERROR. -/
def State.syncParity (s : State) (boundary : Fin 9) (owner : Option (Fin 10 × BitVec 128)) : State :=
  let s1 := s.fault 0x0106 .chip boundary.val
  match owner with
  | some (r, h) => s1.complete r 18 h stSyncError 0 0
  | none => s1

/-- The headers of the descriptors that a block holds beside those in flight: the one that waits in its window port, and those of its queue. -/
def Block.heldHeaders (x : Block) : List (BitVec 128) :=
  (x.selWait.map fun w => w.desc.header).toList ++ x.waiting.filterMap fun w => descHeader w.c

/-- R75: a block that holds an issued descriptor and completes no token for longer than the stall limit is treated as failed: its descriptors end with STALLED, fault 0x0103 names the first of them (DESIGN CHOICE, log entry 55), and a spare takes its work. -/
def State.blockStall (s : State) (r : Fin 10) (b : Fin 18) (micros : Nat) (inFlight : List (BitVec 128)) : State :=
  match inFlight ++ (s.block r b).heldHeaders with
  | [] => s
  | h :: rest =>
    if micros ≤ s.nat (ob 0x3010 0x11) then s
    else
      let s1 := (h :: rest).foldl (fun acc d => acc.complete r b.val d stStalled 0 0) s
      let s2 := s1.modBlock r b fun x => { x with selWait := none, waiting := [] }
      (s2.fault 0x0103 (.ofBlock r.val b.val) (at_ 32 32 (hSequence h) ||| at_ 32 0 micros)).retireBlock r b 3

/-- R63, R175: a replica reading in 0.1 Mtok/s, rounded to nearest, ties to even. -/
def replicaReading (gate count : Nat) : Nat := (divRne (count * 10000) gate).toNat

/-- The slowest replica of a region: its reading and block, of several the one of the lowest number (R77; DESIGN CHOICE, log entry 56). -/
def State.slowest (s : State) (r : Fin 10) : Nat × Nat :=
  (idxs 18).foldl (fun m b => if (s.block r b).reading < m.1 then ((s.block r b).reading, b.val) else m) (65536, 0)

/-- The token rate of a region (R55). -/
def State.regionRate (s : State) (r : Fin 10) : Nat := min 65535 (s.slowest r).1

/-- R61: a region whose logic is on is judged: below the floor it fails with fault 0x0102, below the target at 800 mV its headroom is exhausted with fault 0x0101. One whose logic is off runs at no rate (DEDUCED, log entry 43). -/
def State.judgeRate (s : State) (r : Fin 10) : State :=
  let m := s.slowest r
  let x := s.regions[r]
  let detail := at_ 16 48 m.1 ||| at_ 8 40 m.2 ||| at_ 16 0 x.supply
  let s1 := s.modRegion r fun x => { x with minReading := min x.minReading m.1 }
  if s.power.domains[(⟨r.val, by omega⟩ : Fin 72)].state ≠ 2 then s1
  else if m.1 < 10000 then (s1.fault 0x0102 (.ofRegion r.val) detail).failRegion r true
  else if m.1 < 10800 ∧ x.supply = 800 then s1.fault 0x0101 (.ofRegion r.val) detail
  else s1

/-- Whether a replica measurement is due: none has been taken, or the interval of 0x3010:05 has passed since the last (R64). -/
def State.replicasDue (s : State) : Bool := s.due s.power.replicaAt (1000 * s.nat (ob 0x3010 5))

/-- R64: when a measurement is due, all replicas are read at once; the counts are in the order of R77. -/
def State.measureReplicas (s : State) (counts : List Nat) : State :=
  if !s.replicasDue then s
  else
    let gate := s.nat (ob 0x3010 4)
    let s1 := (s.modBlocks fun i b => match counts[i]? with
      | some c => { b with reading := min 65535 (replicaReading gate c) }
      | none => b).modPower fun p => { p with replicaAt := some s.now }
    (idxs 10).foldl State.judgeRate s1

/-- R54. -/
def execIllegalDualRailCode (t : Nat) (r : Fin 10) (b : Fin 18) (channel : Nat) (owner : BitVec 128) (s : State) :
    Host.Outcome State Fault Refusal := .next ((s.advance t).dualRail r b channel owner)

/-- R64. -/
def execReplicaMeasurement (t : Nat) (counts : List Nat) (s : State) : Host.Outcome State Fault Refusal :=
  .next ((s.advance t).measureReplicas counts)

/-- R67. -/
def execSynchroniserParityError (t : Nat) (boundary : Fin 9) (owner : Option (Fin 10 × BitVec 128)) (s : State) :
    Host.Outcome State Fault Refusal := .next ((s.advance t).syncParity boundary owner)

/-- R75. -/
def execBlockStallTimeout (t : Nat) (r : Fin 10) (b : Fin 18) (micros : Nat) (inFlight : List (BitVec 128)) (s : State) :
    Host.Outcome State Fault Refusal := .next ((s.advance t).blockStall r b micros inFlight)

end Sys2Proof.Machine
end

