-- ==== Sys2Proof/Machine/Power.lean ====
section
/-!
DEFINITION. Supply inputs, power domains, region supplies, monitors, ageing and power states (R437 to R460).
-/

namespace Sys2Proof.Machine

/-! ## The domain table (R441, R442, R446) -/

/-- Fixed domains: never switched by request. -/
def fixedDomain (d : Nat) : Bool :=
  decide (20 ≤ d ∧ d ≤ 29) || [38, 53, 55, 56, 57, 58, 60, 62, 64, 65, 66, 67, 68, 69, 70].contains d

/-- Launch domains: requested with switch class restart. -/
def launchDomain (d : Nat) : Bool := decide (d ≤ 19) || decide (30 ≤ d ∧ d ≤ 37) || d == 39 || d == 63

/-- Domains with a retention state. -/
def retains (d : Nat) : Bool := decide (10 ≤ d ∧ d ≤ 19) || decide (30 ≤ d ∧ d ≤ 33)

/-- Whether a domain allows a state: 0 off, 2 on, 4 retention. -/
def domainAllows (d v : Nat) : Bool := v == 2 || (v == 0 && !fixedDomain d) || (v == 4 && retains d)

/-- Domains that stay on in standby. -/
def standbyOn (d : Nat) : Bool := [53, 55, 56, 57, 58, 60, 64, 65, 66, 67, 68, 69].contains d

/-- The domain that another needs: a region's logic its SRAM, an HBM stack its controller, the IO domains domain 39 (R442). -/
def domainParent (d : Nat) : Option Nat :=
  if d ≤ 9 then some (d + 10)
  else if 30 ≤ d ∧ d ≤ 33 then some (d + 4)
  else if (40 ≤ d ∧ d ≤ 52) ∨ d = 71 then some 39
  else none

/-- The domains that need a domain. -/
def domainChildren (d : Nat) : List (Fin 72) := (idxs 72).filter fun c => domainParent c.val == some d

/-- Rated time from off, or from retention, to on in ns (R446). -/
def upTime (d : Nat) (fromOff : Bool) : Nat :=
  if d ≤ 9 then 300000
  else if 10 ≤ d ∧ d ≤ 19 then (if fromOff then 100000 else 20000)
  else if 30 ≤ d ∧ d ≤ 33 then (if fromOff then 120000000 else 1000000)
  else if 50 ≤ d ∧ d ≤ 52 then 5000000
  else 1000000

/-! ## What a domain is to be (R441, R457 to R459) -/

/-- Whether a resume has been accepted. -/
def State.resuming (s : State) : Bool :=
  match s.launch.run with
  | some run => run.resumeAt.isSome
  | none => false

/-- The state that a domain is to take: its requested state, but for the thermal trip, standby and idle (R450, R458, R459). -/
def State.domainWant (s : State) (d : Nat) : Nat :=
  let asked := s.nat (ob 0x2110 (d + 1))
  if s.power.state = .off then 0
  else if s.power.tripped ∧ (d ≤ 52 ∨ d = 71) then 0
  else match s.power.state with
    | .standby => if standbyOn d then 2 else 0
    | .idle =>
      if s.resuming then asked
      else if d ≤ 9 ∨ (40 ≤ d ∧ d ≤ 49) then 0
      else if retains d ∧ asked ≠ 0 then 4
      else asked
    | _ => asked

/-! ## Contents (R443, R444) -/

/-- Cells of a memory outside an address range. -/
def dropCells (m : List Host.Cell) (lo hi : Nat) : List Host.Cell := m.filter fun c => decide (c.1 < lo ∨ hi ≤ c.1)

/-- Whether a key of a memory space lies in the arrays of region r. -/
def inArrays (r : Fin 10) (space key : Nat) : Bool :=
  (space == 1 && decide (r.val * rmemSize ≤ key ∧ key < (r.val + 1) * rmemSize)) ||
    (space == 2 && decide (18 * r.val * spadSize ≤ key ∧ key < 18 * (r.val + 1) * spadSize))

/-- R443 step 4: every word of a region's arrays is zero with valid ECC, and the row maps are applied, with the map-outs that wait for a power-up (R159). -/
def State.zeroRegion (s : State) (r : Fin 10) : State :=
  let s1 := s.modMem fun m =>
    { m with
      rmem := dropCells m.rmem (r.val * rmemSize) ((r.val + 1) * rmemSize)
      spad := dropCells m.spad (18 * r.val * spadSize) (18 * (r.val + 1) * spadSize) }
  (s1.modMarks fun ms => ms.filter fun k => !inArrays r k.space k.word).runQueued r

/-- A region's logic as it comes from off: accumulators zero (R140), queues and buffers empty, its supply at V_plan (R448); its replicas are due to be measured at once (R443 step 6, R64). -/
def State.startLogic (s : State) (r : Fin 10) : State :=
  let s1 := (idxs 18).foldl (fun acc b => acc.modBlock r b fun x =>
    { x with
      acc := [], poison := [], prevSeq := none, cacheLines := [], selLeft := [], selRight := [], selOut := [], outLeft := 0, outRight := 0
      selWait := none, waiting := [], taken := 0, held := [] }) s
  (s1.modRegion r fun x => { x with supply := x.vplan, boost := 0, prevSeq := [], waiting := [] }).modPower fun p => { p with replicaAt := none }

/-! ## Block swaps (R482, R483) -/

/-- The change lead in ns (R482). -/
def State.changeLead (s : State) : Nat := 1000 * s.nat (ob 0x5800 0x0A)

/-- A place in a block's scratchpad, where the block's work has moved to another block. -/
def movePlace (r : Fin 10) (b : Fin 18) (tr : Fin 10) (tb : Fin 18) (p : MemRef) : MemRef :=
  if p.space = 2 ∧ p.region = r.val ∧ p.block = b.val then { p with region := tr.val, block := tb.val } else p

/-- An image whose declarations for a block, its buffers, held outputs and pinned places, name the block that has taken its work (R149, R163, R329, R483). -/
def moveBlockPlaces (im : Image) (r : Fin 10) (b : Fin 18) (tr : Fin 10) (tb : Fin 18) : Image :=
  { im with
    buffers := im.buffers.map fun e => if e.region = r ∧ e.block = b then { e with region := tr, block := tb } else e
    heldOutputs := im.heldOutputs.map fun e => if e.region = r ∧ e.block = b.val then { e with region := tr, block := tb.val } else e
    pinned := im.pinned.map fun e => (e.1, movePlace r b tr tb e.2)
    gathers := im.gathers.map fun g => { g with place := movePlace r b tr tb g.place } }

/-- The stripes of the image in block r.b are to move; those of streams without an open tile move at once (R13, R483, R484). -/
def State.moveWork (s : State) (r : Fin 10) (b : Fin 18) (tr : Fin 10) (tb : Fin 18) : State :=
  match s.launch.image with
  | none => s
  | some im =>
    let ms := (im.streams.filter fun x => x.stripes.any fun p => p.region = r ∧ p.block = b).map fun x => (⟨x.stream, r, b, tr, tb⟩ : StripeMove)
    let s1 := (s.modService fun v => { v with moves := v.moves ++ ms }).modLaunch fun l => { l with image := some (moveBlockPlaces im r b tr tb) }
    ms.foldl (fun acc m => if acc.streams[m.stream].tileOpen then acc else acc.applyMoves m.stream) s1

/-- Marks of lost data go along with a copy, as poison; good data take the place of what was lost at the target (R158). -/
def State.copyMarks (s : State) (space from_ to_ size : Nat) : State :=
  s.modMarks fun ms =>
    (ms.filter fun k => !(k.space == space && decide (to_ ≤ k.word ∧ k.word < to_ + size)))
      ++ (ms.filter fun k => k.space == space && decide (from_ ≤ k.word ∧ k.word < from_ + size)).map fun k => { k with word := k.word - from_ + to_, poison := true }

/-- Cells with the content of one address range copied to another. -/
def copyCells (m : List Host.Cell) (from_ to_ size : Nat) : List Host.Cell :=
  (m.filter fun c => decide (from_ ≤ c.1 ∧ c.1 < from_ + size)).foldl (fun acc c => cellPut acc (c.1 - from_ + to_) c.2) (dropCells m to_ (to_ + size))

/-- The scratchpad of a block is copied to another. -/
def State.copyPad (s : State) (r : Fin 10) (b : Fin 18) (tr : Fin 10) (tb : Fin 18) : State :=
  let from_ := (18 * r.val + b.val) * spadSize
  let to_ := (18 * tr.val + tb.val) * spadSize
  (s.modMem fun m => { m with spad := copyCells m.spad from_ to_ spadSize }).copyMarks 2 from_ to_ spadSize

/-- R483: a spare takes the retiring block's work, with its scratchpad where that can be copied (DESIGN CHOICE, log entry 71: such a block serves until then, and its channels go along); one that failed meanwhile leaves the block to be retired anew. -/
def State.takeSpare (s : State) (w : BlockSwap) : State :=
  let r := w.region
  let b := w.block
  let s1 := s.modService fun v => { v with swaps := v.swaps.filter fun x => !(x.region == r && x.block == b) }
  if (s1.block r w.spare).role ≠ 1 then s1.retireBlock r b 1
  else
    let s2 := if w.copy then s1.copyPad r b r w.spare
      else s1.modBlock r b fun y => { y with selLeft := [], selRight := [], selOut := [], outLeft := 0, outRight := 0 }
    let carried := if (s2.block r b).carries = 0xFF then b.val else (s2.block r b).carries
    let x := s2.block r b
    let s3 := (s2.modBlock r w.spare fun y => { y with role := 0, carries := carried, prevSeq := x.prevSeq, waiting := x.waiting, taken := x.taken, held := x.held }).modBlock
      r b fun y => { y with role := 2, carries := 0xFF, waiting := [], held := [] }
    s3.moveWork r b r w.spare

/-- R76, R145, R483: what a region that is not in service has decided to change changes at once: blocks to be swapped, and cells. -/
def State.swapAtOnce (s : State) (r : Fin 10) : State :=
  let s1 := (s.service.swaps.filter fun w => w.region == r).foldl State.takeSpare s
  (idxs 18).foldl (fun acc b => acc.wireSpare r b) s1

/-- R76, R443 step 5: a block that fails the matched-delay test retires: fault 0x0107 with margin and stage. -/
def State.failDelay (s : State) (r : Fin 10) (b : Fin 18) (margin stage : Nat) : State :=
  (s.fault 0x0107 (.ofBlock r.val b.val) (at_ 16 48 margin ||| at_ 16 0 stage)).retireBlock r b 4

/-- The stack that holds an HBM address: the space is interleaved over the stacks at 1 KiB (R30, R446). -/
def State.stackOf (s : State) (addr : Nat) : Option Nat := s.power.interleave[addr / 1024 % max 1 s.power.interleave.length]?

/-- The bytes of one HBM stack are lost (R30). -/
def State.loseStack (s : State) (k : Nat) : State :=
  s.modMem fun m => { m with hbm := m.hbm.filter fun c => s.stackOf c.1 != some k }

/-- What a domain loses when its switches open: an HBM stack its contents, Ethernet lanes and the PCIe endpoint their links (R37, R444); the arrays of a region are zeroed at their next power-up. -/
def State.loseContents (s : State) (d : Nat) : State :=
  if 30 ≤ d ∧ d ≤ 33 then s.loseStack (d - 30)
  else if d = 50 ∨ d = 51 ∨ d = 71 then s.dropLinks d
  else if d = 52 then s.pcieDown
  else s

/-! ## Sequences (R442 to R446) -/

/-- The domain that a domain needs is on. -/
def State.parentOn (s : State) (d : Fin 72) : Bool :=
  match domainParent d.val with
  | some p => if h : p < 72 then s.power.domains[(⟨p, h⟩ : Fin 72)].state == 2 else true
  | none => true

/-- Its dependents are off or failed, or, for retention, follow none. -/
def State.childrenDown (s : State) (d : Fin 72) : Bool :=
  (domainChildren d.val).all fun c => s.power.domains[c].state == 0 || s.power.domains[c].state == 5

/-- R443: a power-up begins, toward on, or through on toward retention (R444). -/
def State.beginUp (s : State) (d : Fin 72) (target : Nat) : State :=
  s.modPd d fun x => { x with state := 1, target := target, since := s.now, isolated := true, fromOff := x.state == 0 }

/-- R444: a shut-down begins; from retention to off it needs no quiesce. -/
def State.beginDown (s : State) (d : Fin 72) (target : Nat) : State :=
  if s.power.domains[d].state = 4 then
    (s.modPd d fun x => { x with state := target, target := target, since := s.now, isolated := true }).loseContents d.val
  else s.modPd d fun x => { x with state := 3, target := target, since := s.now }

/-- A domain's sequence begins where its state is not the one it is to take, nothing it needs is missing and no dependent stays up (R442); a failed domain stays failed. -/
def State.startDomain (s : State) (d : Fin 72) : State :=
  let x := s.power.domains[d]
  let want := s.domainWant d.val
  if x.state = want ∨ x.state = 1 ∨ x.state = 3 ∨ x.state = 5 then s
  else if want = 2 ∨ x.state = 0 then (if s.parentOn d then s.beginUp d want else s)
  else if s.childrenDown d then s.beginDown d want else s

/-- R445: at the end of a domain's sequence its latched request, and what waited for it in the order of R442, begins. -/
def State.afterSequence (s : State) (d : Fin 72) : State :=
  let s1 := (s.modPd d fun x => { x with latched := none }).startDomain d
  let s2 := (domainChildren d.val).foldl State.startDomain s1
  match domainParent d.val with
  | some p => if h : p < 72 then s2.startDomain ⟨p, h⟩ else s2
  | none => s2

/-- R442, R443: a power-up first powers up what the domain needs. -/
def State.powerUp (s : State) (d : Fin 72) : State :=
  if s.domainWant d.val ≠ 2 ∧ s.power.domains[d].state ≠ 0 then s
  else match domainParent d.val with
    | some p => if h : p < 72 then (if s.parentOn d then s.startDomain d else s.startDomain ⟨p, h⟩) else s
    | none => s.startDomain d

/-- R442, R444: a shut-down takes dependents down first, where they too are to go down. -/
def State.powerDown (s : State) (d : Fin 72) : State :=
  if s.domainWant d.val = 2 then s
  else if s.childrenDown d then s.startDomain d
  else (domainChildren d.val).foldl (fun acc c => if acc.domainWant c.val = 2 then acc else acc.startDomain c) s

/-- R445: a request for a domain whose sequence runs is latched; one equal to its target is discarded; the last one prevails. -/
def State.latchRequest (s : State) (d : Fin 72) : State :=
  let v := s.domainWant d.val
  s.modPd d fun x =>
    if x.state = 1 ∨ x.state = 3 then { x with latched := if v = x.target then none else some v } else { x with latched := none }

/-- 0x2111. -/
def State.domainStatus (s : State) (d : Fin 72) : Nat :=
  s.power.domains[d].state % 8 + (if s.power.domains[d].latched.isSome then 0x80 else 0)

/-- R443: power-good: isolation is released, arrays from off are zeroed, map-outs that wait run (R159), blocks that fail the matched-delay test retire with their spares in service at once (R76), and the domain is on; a power-up toward retention goes on to it (R444). -/
def State.powerGoodAt (s : State) (d : Fin 72) (failing : List (Fin 18 × Nat × Nat)) : State :=
  let x := s.power.domains[d]
  if x.state ≠ 1 then s
  else
    let s1 := s.modPd d fun y => { y with state := 2, isolated := false }
    let s2 := if h : d.val < 10 then
        (if x.fromOff then (failing.foldl (fun acc e => acc.failDelay ⟨d.val, h⟩ e.1 e.2.1 e.2.2) (s1.startLogic ⟨d.val, h⟩)).swapAtOnce ⟨d.val, h⟩ else s1)
      else if h : 10 ≤ d.val ∧ d.val < 20 then
        (if x.fromOff then s1.zeroRegion ⟨d.val - 10, by omega⟩ else s1.runQueued ⟨d.val - 10, by omega⟩)
      else s1
    if x.target = 4 then s2.modPd d fun y => { y with state := 3, target := 4, since := s.now }
    else s2.afterSequence d

/-- R444: the descriptors in flight have completed: outputs are isolated and the target state is taken. -/
def State.quiesced (s : State) (d : Fin 72) : State :=
  let x := s.power.domains[d]
  if x.state ≠ 3 then s
  else
    let s1 := s.modPd d fun y => { y with state := y.target, isolated := true }
    (if x.target = 0 then s1.loseContents d.val else s1).afterSequence d

/-- R446: an HBM stack is lost: the launch ends at the next release count, every attention sequence is closed, windows onto HBM are closed, and the bytes interleaved onto it are lost (R30); a second one exhausts the redundancy (R27). -/
def State.failStack (s : State) (k : Nat) : State :=
  if s.power.stacksOut.contains k then s
  else
    let s1 := (s.modPower fun p => { p with stacksOut := p.stacksOut ++ [k] }).modLaunch fun l =>
      { l with run := l.run.map fun r => { r with endNext := true } }
    let s2 := (s1.modKv fun _ => Kv.reset)
    let s3 := s2.loseStack k
    let s4 := (List.range 64).foldl (fun acc w => if acc.nat (ob (0x2410 + w) 2) = 0 then acc.setObj (ob (0x2410 + w) 1) (.int 0) else acc) s3
    if 2 ≤ s4.power.stacksOut.length then s4.exhaust 2 k else s4

/-- R446: power-good is not reached within ten times the rated up time: the domain fails until the next cold boot: fault 0x1009; a region domain fails its region, an HBM domain its stack. -/
def State.powerGoodMissed (s : State) (d : Fin 72) : State :=
  let x := s.power.domains[d]
  if x.state ≠ 1 ∨ s.now < x.since + 10 * upTime d.val x.fromOff then s
  else
    let s1 := (s.modPd d fun y => { y with state := 5, latched := none, isolated := true }).fault 0x1009 .chip (at_ 8 0 d.val)
    if h : d.val < 30 then s1.failRegion ⟨d.val % 10, Nat.mod_lt _ (by decide)⟩ false
    else if d.val ≤ 37 then s1.failStack ((d.val - 30) % 4)
    else s1

/-- Whether every domain has the state it is to take, or has failed (R458). -/
def State.domainsReady (s : State) : Bool :=
  (idxs 72).all fun d => s.power.domains[d].state == s.domainWant d.val || s.power.domains[d].state == 5

/-! ## Supply inputs (R437 to R439) -/

/-- R438: the main input is out of range: converters stop, PWM outputs take the all-gates-off pattern, fault 0x1001. -/
def State.mainLost (s : State) (dv : Nat) : State :=
  let s1 := (s.modPower fun p => { p with mainDv := dv, mainOk := false }).modMotion fun m =>
    { m with axes := m.axes.map fun a => { a with pwm := .gatesOff, prevA := 0, prevB := 0, prevC := 0 } }
  if s.power.mainOk then s1.fault 0x1001 .chip (at_ 16 0 dv ||| at_ 1 16 (b2n (decide (620 < dv)))) else s1

/-- R439: the field input is out of range: every digital output and sensor supply switches off, fault 0x1002. -/
def State.fieldLost (s : State) (dv : Nat) : State :=
  let s1 := (s.modPower fun p => { p with fieldDv := dv, fieldOk := false }).modMotion fun m =>
    { m with
      outputs := m.outputs.map fun o => { o with level := false, waiting := true }
      supplies := m.supplies.map fun x => if x.state = 5 then x else { x with state := 0, latched := none } }
  if s.power.fieldOk then s1.fault 0x1002 .chip (at_ 16 0 dv) else s1

/-- R439: the field input is back: each supply returns to its last command. -/
def State.fieldBack (s : State) (dv : Nat) : State :=
  let s1 := s.modPower fun p => { p with fieldDv := dv, fieldOk := true }
  if s.power.fieldOk then s1
  else s1.modMotion fun m => { m with supplies := m.supplies.map fun x => if x.state = 5 then x else { x with state := x.command } }

/-! ## Rates and supplies (R58, R447 to R451) -/

/-- The rate table of R58 in 0.1 Mtok/s: supply in mV, rates at −20, 25, 60, 95 and 110 °C. -/
def rateTable : List (Nat × List Nat) :=
  [(620, [7000, 7800, 8400, 8800, 8900]), (660, [8600, 9300, 9800, 10100, 10200]), (700, [10000, 10600, 11000, 11100, 11100]),
   (720, [10600, 11200, 11500, 11500, 11400]), (760, [11700, 12100, 12200, 12000, 11800]), (800, [12600, 12900, 12800, 12500, 12200])]

/-- Table points of Tj in 0.1 °C. -/
def rateTemps : List Int := [-200, 250, 600, 950, 1100]

/-- The indices of the points next to a value: the last at or below it and the first at or above it, within the table. -/
def around (points : List Int) (v : Int) : Nat × Nat :=
  let below := (points.filter fun p => decide (p ≤ v)).length - 1
  let above := (points.filter fun p => decide (p < v)).length
  (below, min above (points.length - 1))

/-- R58: the rate at a supply and temperature; between table points the lower neighbouring value applies. -/
def rateAt (mv : Nat) (tj : Int) : Nat :=
  let v := around (rateTable.map fun e => (e.1 : Int)) mv
  let t := around rateTemps tj
  let get (i j : Nat) : Nat := ((rateTable.getD i (0, [])).2).getD j 0
  min (min (get v.1 t.1) (get v.1 t.2)) (min (get v.2 t.1) (get v.2 t.2))

/-- The least rate of a table voltage over every rated Tj. -/
def leastRate (mv : Nat) : Nat := (rateTemps.map fun t => rateAt mv t).foldl min 65535

/-- R448: whether a supply meets the target of 1.08 Gtok/s at every rated Tj, with c in 0.0001 and a in 0.01 %. -/
def meetsTarget (mv c a : Nat) : Bool := decide (10800 * 100000000 ≤ leastRate mv * c * (10000 - a))

/-- R448: V_plan: the lowest table voltage that meets the target, 800 mV where none does. -/
def planFor (c a : Nat) : Nat := ((rateTable.map fun e => e.1).find? fun v => meetsTarget v c a).getD 800

/-- A waiting re-plan applies: V_plan, headroom and end of margin (R455). -/
def State.applyReplan (s : State) (r : Fin 10) : State :=
  match s.regions[r].replan with
  | some (v, h, e) => s.modRegion r fun x => { x with vplan := v, headroom := h, endOfMargin := e, replan := none }
  | none => s

/-- R447, R451: the supply that the power manager chooses at a step beat in token-exact mode: up by 5 to 20 mV while the slowest replica reads below the target, down by at most 5 mV where it has read the target plus 3 % over the interval; how far is a free value; a droop raise adds 10 mV for its hold. -/
def State.stepSupply (s : State) (r : Fin 10) : State :=
  let x := s.regions[r]
  let now_ := (s.slowest r).1
  let d := s.drawNat 36 8 []
  let base := x.supply - x.boost
  let next := if now_ < 10800 then min 800 (base + 5 * (1 + d.1 % 4)) else if 11124 ≤ x.minReading ∧ x.minReading ≠ 65535 then max 620 (base - 5 * (d.1 % 2)) else base
  let hold := if x.droop then s.now + 1000000000 * s.nat (ob 0x2100 0x0C) else x.droopUntil
  let supply := min 800 (next + if s.now < hold then 10 else 0)
  d.2.modRegion r fun x => { x with supply := supply, boost := supply - next, droop := false, droopUntil := hold, minReading := 65535 }

/-- R449, R455: in pace mode headroom and date are updated, and a new V_plan is held until the next launch, but where the present one no longer meets the target: then the supply changes, and the step enters the voltage plan. -/
def State.stepPace (s : State) (r : Fin 10) : State :=
  let x := s.regions[r]
  match x.replan with
  | some (v, _, _) =>
    if meetsTarget x.vplan x.speed x.ageing then
      s.modRegion r fun x => match x.replan with
        | some (_, h, e) => { x with headroom := h, endOfMargin := e }
        | none => x
    else ((s.applyReplan r).modRegion r fun x => { x with supply := v, boost := 0 }).modPower fun p => { p with steps := p.steps ++ [(s.beat, r.val, v)] }
  | none => s

/-- R447: at a supply step beat, a launch beat whose number is a multiple of 0x2100:0B; one step at each. -/
def State.supplyStep (s : State) : State :=
  match s.launch.run with
  | none => s
  | some run =>
    if run.paused || run.beat % max 1 (s.nat (ob 0x2100 0x0B)) != 0 || s.power.stepBeat == some run.beat then s
    else
      (((idxs 10).foldl (fun acc (r : Fin 10) =>
        if run.pace then acc.stepPace r
        else
          let a := acc.applyReplan r
          if a.power.domains[(⟨r.val, by omega⟩ : Fin 72)].state = 2 then a.stepSupply r else a) s).modPower fun p => { p with stepBeat := some run.beat }).launchBeat

/-- R451: an excursion more than 30 mV deep for 50 ns or longer is counted; one beyond the guard band writes fault 0x1003 and raises the supply at the next step beat. -/
def State.droopAt (s : State) (r : Fin 10) (depth duration : Nat) : State :=
  let counted := decide (30 < depth ∧ 50 ≤ duration)
  let beyond := decide (30 < depth ∨ (0 < depth ∧ 2000 < duration))
  let s1 := if counted then s.modPower fun p => { p with droops := (p.droops + 1) % 2 ^ 32 } else s
  if beyond then
    (s1.modRegion r fun x => { x with droop := true }).fault 0x1003 (.ofRegion r.val) (at_ 16 16 depth ||| at_ 16 0 (min 65535 duration))
  else s1

/-! ## Temperatures (R450) -/

/-- The sensors of a list that differ from the mean of the list's others by more than 10 °C, the one that differs most first, are dropped one after the other. -/
def agreeing (temps : Nat → Int) (live : List Nat) (fuel : Nat) : List Nat :=
  match fuel with
  | 0 => live
  | fuel + 1 =>
    let sum := live.foldl (fun a q => a + temps q) 0
    let n := live.length
    let off (q : Nat) : Nat := ((n : Int) * temps q - sum).natAbs
    let worst := live.foldl (fun (b : Option Nat) q => match b with
      | none => some q
      | some w => if off w < off q then some q else some w) none
    match worst with
    | some w => if 2 ≤ n ∧ 100 * (n - 1) < off w then agreeing temps (live.filter fun q => q != w) fuel else live
    | none => live

/-- Sensor q's temperature in 0.1 °C. -/
def State.temp (s : State) (q : Nat) : Int := if h : q < 64 then s.power.temps[(⟨q, h⟩ : Fin 64)] else 0

/-- The sensors of region r that agree. -/
def State.liveSensors (s : State) (r : Nat) : List Nat := agreeing s.temp [4 * r, 4 * r + 1, 4 * r + 2, 4 * r + 3] 3

/-- The hottest of some sensors, and its number. -/
def State.hottest (s : State) (qs : List Nat) : Option (Int × Nat) :=
  qs.foldl (fun (b : Option (Int × Nat)) q => match b with
    | none => some (s.temp q, q)
    | some m => if m.1 < s.temp q then some (s.temp q, q) else some m) none

/-- Detail of the temperature faults. -/
def tempDetail (x : Int × Nat) : Nat := atI 16 0 x.1 ||| at_ 8 16 x.2

/-- Compute-die sensors that are not excluded. -/
def State.dieSensors (s : State) : List Nat := (List.range 40).filter fun q => !(s.power.excluded.any fun e => e.val == q)

/-- Newly excluded sensors write fault 0x100C. -/
def State.judgeSensors (s : State) (r : Fin 10) : State :=
  let live := s.liveSensors r.val
  (List.range 4).foldl (fun acc k =>
    if h : 4 * r.val + k < 64 then
      let q : Fin 64 := ⟨4 * r.val + k, h⟩
      if live.contains q.val then acc.modPower fun p => { p with excluded := p.excluded.filter fun e => e != q }
      else if acc.power.excluded.contains q then acc
      else (acc.modPower fun p => { p with excluded := p.excluded ++ [q] }).fault 0x100C .chip (tempDetail (s.temp q.val, q.val))
    else acc) s

/-- The thresholds of 105, 110 and 100 °C on a region (R450). -/
def State.judgeHeat (s : State) (r : Fin 10) : State :=
  match s.hottest (s.liveSensors r.val) with
  | none => s
  | some m =>
    let x := s.regions[r]
    let s1 := if 1050 < m.1 ∧ !x.hotClassL then
        (s.modRegion r fun x => { x with hotClassL := true }).fault 0x1004 (.ofRegion r.val) (tempDetail m)
      else s
    let s2 := if 1100 < m.1 ∧ !x.over110 then s1.fault 0x1005 (.ofRegion r.val) (tempDetail m) else s1
    let since : Option Nat := if m.1 < 1000 then some (x.coolSince.getD s.now) else none
    let cool := match since with
      | some t => decide (1000000000 + t ≤ s.now)
      | none => false
    s2.modRegion r fun x => { x with over110 := decide (1100 < m.1), coolSince := since, hotClassL := x.hotClassL && !cool }

/-- R450: the thermal trip: domains 0 to 39, and those that need domain 39, are off at once; fault 0x1006. -/
def State.thermalTrip (s : State) (m : Int × Nat) : State :=
  let s1 := (s.modPower fun p => { p with tripped := true }).fault 0x1006 .chip (tempDetail m)
  (idxs 72).foldl (fun acc d =>
    if (d.val ≤ 52 ∨ d.val = 71) ∧ acc.power.domains[d].state ≠ 5 then
      (acc.modPd d fun x => { x with state := 0, target := 0, latched := none, isolated := true }).loseContents d.val
    else acc) s1

/-- The temperatures of a sample are taken; powered time counts with it (R456). -/
def State.takeTemps (s : State) (deci : List Int) : State :=
  let s1 := s.modPower fun p => { p with temps := Vector.ofFn fun q => deci.getD q.val p.temps[q], lifeNs := 100000 + p.lifeNs }
  s1.modRegions fun r x =>
    if h : r < 72 then (if s1.power.domains[(⟨r, h⟩ : Fin 72)].state = 2 then { x with poweredNs := 100000 + x.poweredNs } else x) else x

/-- Every region's sensors and heat are judged. -/
def State.judgeRegions (s : State) : State := (idxs 10).foldl (fun acc r => (acc.judgeSensors r).judgeHeat r) s

/-- R450, R456: the hottest compute-die sensor: time above 95 °C is counted, and the trip is judged. -/
def State.judgeDie (s : State) (trip : Bool) : State :=
  match s.hottest s.dieSensors with
  | none => s
  | some m =>
    let s1 := if 950 < m.1 then s.modPower fun p => { p with hotNs := 100000 + p.hotNs } else s
    if trip && !s1.power.tripped && decide (1200 < m.1) then s1.thermalTrip m else s1

/-- R450, R456: a temperature sample, every 100 µs; time above 95 °C and powered time are counted with it. -/
def State.sampleTemps (s : State) (deci : List Int) (trip : Bool) : State :=
  if s.due s.power.tempsAt 100000 then (((s.modPower fun p => { p with tempsAt := some s.now }).takeTemps deci).judgeRegions).judgeDie trip else s

/-- 0x2100:0E is refused until every compute-die sensor that is not excluded reads below 95 °C after a trip (R450). -/
def State.dieRestartRefused (s : State) : Bool := !s.power.tripped || (s.dieSensors.any fun q => decide (950 ≤ s.temp q))

/-- R452: the 100 ms average input power against the energy cap. -/
def State.checkPower (s : State) (watts : Nat) : State :=
  let cap := s.nat (ob 0x2100 0x0A)
  let s1 := s.modPower fun p => { p with watts := watts % 2 ^ 16 }
  if !s.running then s1
  else if cap < watts then
    match s1.power.capSince with
    | none => s1.modPower fun p => { p with capClassL := true, capSince := some s.now, capTold := false }
    | some t =>
      if 1000000000 + t ≤ s.now ∧ !s1.power.capTold then
        (s1.modPower fun p => { p with capTold := true }).fault 0x100A .chip (at_ 32 0 watts)
      else s1
  else if 100 * watts < 95 * cap then s1.modPower fun p => { p with capClassL := false, capSince := none, capTold := false }
  else s1

/-! ## Ageing (R453 to R456) -/

/-- An ageing fraction in 0.01 %, rounded up; none where the pair is rejected (R453). -/
def pairAgeing (s f : Nat) : Option Nat := if f < 5000 ∨ f < s then none else some (divUp ((f - s) * 10000) f)

/-- A rejected pair writes fault 0x100B. -/
def State.pairFault (s : State) (r : Fin 10) (pair st f : Nat) : State :=
  match pairAgeing st f with
  | some _ => s
  | none => s.fault 0x100B { region := r.val, unit := pair } (at_ 32 32 f ||| at_ 32 0 st)

/-- The larger ageing of the pairs that are not rejected; the previous value where both are. -/
def ageingOf (x : AgeRead) (old : Nat) : Nat :=
  match pairAgeing x.s0 x.f0, pairAgeing x.s1 x.f1 with
  | some a, some b => max a b
  | some a, none => a
  | none, some b => b
  | none, none => old

/-- R454: the speed factor in 0.0001: the slowest reading over table × (1 − a), rounded to nearest. -/
def speedOf (reading table a : Nat) : Nat := if table * (10000 - a) = 0 then 65535 else min 65535 (divRne (reading * 10000 * 10000) (table * (10000 - a))).toNat

/-- R454: headroom in 0.1 %, rounded down, 0 when negative. -/
def headroomOf (c a : Nat) : Nat := leastRate 800 * c * (10000 - a) * 1000 / (10800 * 100000000) - 1000

/-- The largest number below 2^`k` whose test holds, for a test that holds up to some number. -/
def largest (k : Nat) (test : Nat → Bool) : Nat :=
  match k with
  | 0 => 0
  | k + 1 =>
    let hi := largest k fun n => test (n * 2)
    if test (hi * 2 + 1) then hi * 2 + 1 else hi * 2

/-- R454: the powered hours at which the ageing law a × (T/t)^n reaches the margin m, both in 10⁻⁸, with n in 0.01, T^n × a^100 = m^100 × t^n, rounded to nearest, ties to even (R175). -/
def marginHours (a m t n : Nat) : Nat :=
  let T := largest 40 fun T => decide (T ^ n * a ^ 100 ≤ m ^ 100 * t ^ n)
  if (2 * T + 1) ^ n * a ^ 100 < m ^ 100 * (2 * t) ^ n ∨ ((2 * T + 1) ^ n * a ^ 100 = m ^ 100 * (2 * t) ^ n ∧ T % 2 = 1) then T + 1 else T

/-- R454, R460: predicted end of margin in days since 2000-01-01, at the mean powered hours per day since manufacture; all ones beyond 100 years. -/
def State.marginDate (s : State) (r : Fin 10) (c a : Nat) : Nat :=
  let t := s.regions[r].poweredNs / 3600000000000
  let today := s.now / 86400000000000 - 10957
  let top := leastRate 800 * c
  let m := 100000000 - 10800 * 10000 * 100000000 / max 1 top
  if top < 10800 * 10000 then today
  else if a = 0 ∨ t = 0 then 0xFFFFFFFF
  else
    let T := marginHours (a * 10000) m t (s.nat (ob 0x2140 2))
    let ahead := (divRne ((T - t) * s.power.lifeNs) (t * 86400000000000)).toNat
    if 36525 < ahead then 0xFFFFFFFF else today + ahead

/-- R453 to R456: one region's measurement: ageing, speed factor, and the re-plan that waits for its beat; faults 0x1007 and 0x1008. -/
def State.measureAgeing (s : State) (x : AgeRead) : State :=
  let r := x.region
  let s1 := (s.pairFault r 0 x.s0 x.f0).pairFault r 1 x.s1 x.f1
  let old := s1.regions[r]
  let a := ageingOf x old.ageing
  let tj := match s1.hottest (s1.liveSensors r.val) with
    | some m => m.1
    | none => 250
  let reading := (s1.slowest r).1
  let c := if reading = 0 then old.speed else speedOf reading (rateAt old.supply tj) a
  let plan := planFor c a
  let s2 := s1.modRegion r fun y => { y with ageing := a, speed := c, replan := some (plan, headroomOf c a, s1.marginDate r c a), overAged := y.overAged || decide (700 < a) }
  let s3 := if plan = old.vplan then s2 else s2.fault 0x1007 (.ofRegion r.val) (at_ 16 16 plan ||| at_ 16 0 a)
  if 700 < a ∧ !old.overAged then s3.fault 0x1008 (.ofRegion r.val) (at_ 16 0 a) else s3

/-- An ageing measurement of the regions that were read. -/
def State.measureAll (s : State) (reads : List AgeRead) : State :=
  reads.foldl State.measureAgeing (s.modPower fun p => { p with ageingAt := some s.now })

/-- R453: the measurement of every 0x2140:01 hours. -/
def State.measureDue (s : State) (reads : List AgeRead) : State :=
  if s.due s.power.ageingAt (3600000000000 * s.nat (ob 0x2140 1)) then s.measureAll reads else s

/-- The four counts of a region that no command carries: free values. -/
def State.freeRead (s : State) (r : Fin 10) : AgeRead × State :=
  let a := s.drawNat 37 16 []
  let b := a.2.drawNat 37 16 []
  let c := b.2.drawNat 37 16 []
  let d := c.2.drawNat 37 16 []
  (⟨r, a.1, b.1, c.1, d.1⟩, d.2)

/-- A measurement that starts when a deferred write of 0x2140:03 becomes active: its counts are free values. -/
def State.measureFree (s : State) : State :=
  (idxs 10).foldl (fun acc r => let x := acc.freeRead r; x.2.measureAgeing x.1) (s.modPower fun p => { p with ageingAt := some s.now })

/-! ## Power states (R457 to R459) -/

/-- Codes of 0x2100:02. -/
def PowerState.code : PowerState → Nat
  | .run => 0
  | .idle => 1
  | .standby => 2
  | .off => 3

/-- Whether a transition of the power state is under way: an idle or resume request waits for its beat, or domains still shut down into standby (R457). -/
def State.powerBusy (s : State) : Bool :=
  (match s.launch.run with
   | some run => (run.pauseAt.isSome && !run.paused) || run.resumeAt.isSome
   | none => false) || (s.power.state == .standby && !s.domainsReady)

/-- R457 to R459: whether a power state request breaks its conditions in the present state. -/
def State.powerRefused (s : State) (v : Nat) : Bool :=
  let b := s.nat (ob 0x2100 4)
  match v, s.launch.run with
  | 1, some run =>
    let grid := match s.launch.image with
      | some im => im.pausePeriod
      | none => 1
    !(s.power.state == .run && b % max 1 grid == 0 && decide (10000000 + s.now ≤ run.countOf b))
  | 2, some run => !(s.power.state == .idle && decide (s.now + 1000000 * s.nat (ob 0x2100 8) ≤ run.countOf b))
  | 3, run => !(s.power.state == .idle || (s.power.state == .run && run.isNone && !s.launching))
  | 4, _ => s.power.state != .standby
  | _, _ => true

/-- R459: standby: final wear records, the end of an idle launch, the output-off state; values not stored are lost (R108); the domains then shut down. -/
def State.enterStandby (s : State) : State :=
  let s1 := (idxs 12).foldl (fun acc (h : Fin 12) => if acc.headOn h && !acc.heads[h].safe then acc.writeWear h true else acc) s
  let s2 := s1.endLaunch.modPower fun p => { p with state := .standby }
  let s3 := (s2.outputOff.loadStored.modKv fun _ => Kv.reset).modLaunch fun l => { l with image := none }
  (idxs 72).foldl (fun acc d => acc.latchRequest d) s3

/-- R458: a request for idle at its pause beat, or for resume at its beat. -/
def State.requestIdle (s : State) : State :=
  let b := s.nat (ob 0x2100 4)
  s.modLaunch fun l => { l with run := l.run.map fun r => { r with pauseAt := some b } }
def State.requestResume (s : State) : State :=
  let b := s.nat (ob 0x2100 4)
  (idxs 72).foldl (fun acc d => acc.latchRequest d) (s.modLaunch fun l => { l with run := l.run.map fun r => { r with resumeAt := some b } })

/-- R458: within 10 ms of the resume beat some domain is not on: the device stays idle, fault 0x100D. -/
def State.checkResume (s : State) : State :=
  match s.launch.run.bind fun r => r.resumeAt with
  | none => s
  | some b =>
    if s.domainsReady || !(s.launch.run.any fun run => decide (run.countOf b ≤ s.now + 10000000)) then s
    else
      (idxs 72).foldl (fun acc d => acc.latchRequest d)
        ((s.modLaunch fun l => { l with run := l.run.map fun r => { r with resumeAt := none } }).fault 0x100D .chip b)

/-! ## The commands -/

/-- R438. -/
def execMainInputLoss (t : Nat) (decivolts : Nat) (s : State) : Host.Outcome State Fault Refusal := .next ((s.advance t).mainLost decivolts)

/-- R439. -/
def execFieldInputLoss (t : Nat) (decivolts : Nat) (s : State) : Host.Outcome State Fault Refusal := .next ((s.advance t).fieldLost decivolts)

/-- R439. -/
def execFieldInputReturn (t : Nat) (decivolts : Nat) (s : State) : Host.Outcome State Fault Refusal := .next ((s.advance t).fieldBack decivolts)

/-- R443. -/
def execDomainPowerUp (t : Nat) (d : Fin 72) (s : State) : Host.Outcome State Fault Refusal := .next ((s.advance t).powerUp d)

/-- R444. -/
def execDomainShutDown (t : Nat) (d : Fin 72) (s : State) : Host.Outcome State Fault Refusal := .next ((s.advance t).powerDown d)

/-- R444. -/
def execQuiesceComplete (t : Nat) (d : Fin 72) (s : State) : Host.Outcome State Fault Refusal := .next ((s.advance t).quiesced d)

/-- R443. -/
def execPowerGood (t : Nat) (d : Fin 72) (failing : List (Fin 18 × Nat × Nat)) (s : State) : Host.Outcome State Fault Refusal :=
  .next ((s.advance t).powerGoodAt d failing)

/-- R446. -/
def execPowerGoodTimeout (t : Nat) (d : Fin 72) (s : State) : Host.Outcome State Fault Refusal := .next ((s.advance t).powerGoodMissed d)

/-- R447. -/
def execSupplyStepBeat (t : Nat) (s : State) : Host.Outcome State Fault Refusal := .next (s.advance t).supplyStep

/-- R451. -/
def execDroopExcursion (t : Nat) (r : Fin 10) (depth duration : Nat) (s : State) : Host.Outcome State Fault Refusal :=
  .next ((s.advance t).droopAt r depth duration)

/-- R450. -/
def execTemperatureSample (t : Nat) (deci : List Int) (trip : Bool) (s : State) : Host.Outcome State Fault Refusal :=
  .next ((s.advance t).sampleTemps deci trip)

/-- R452. -/
def execInputPowerCheck (t : Nat) (watts : Nat) (s : State) : Host.Outcome State Fault Refusal := .next ((s.advance t).checkPower watts)

/-- R453. -/
def execAgeingMeasurement (t : Nat) (reads : List AgeRead) (s : State) : Host.Outcome State Fault Refusal := .next ((s.advance t).measureDue reads)

/-- R458. -/
def execResumeReadinessCheck (t : Nat) (s : State) : Host.Outcome State Fault Refusal := .next (s.advance t).checkResume

end Sys2Proof.Machine
end

