-- ==== Sys2Proof/Machine/TimeUnit.lean ====
section
/-!
DEFINITION. The time unit (R383 to R402): the servo and its two domains, loss, switch, holdover, PTP messages sent and forwarded, and the time triggers.
-/

namespace Sys2Proof.Machine

/-- The object of a PTP domain. -/
def ptpObj (d : Fin 2) (sub : Nat) : Key := ob (0x2202 + d.val) sub

/-- Whether a domain is enabled (0x2202:01). -/
def State.domainOn (s : State) (d : Fin 2) : Bool := s.flag (ptpObj d 1)

/-- The other domain. -/
def otherDomain (d : Fin 2) : Fin 2 := if d = 0 then 1 else 0

/-- `n` intervals of 2^`log` s in ns. -/
def ptpSpan (log : Int) (n : Nat) : Nat :=
  if 0 ≤ log then n * 1000000000 * 2 ^ log.toNat else n * 1000000000 / 2 ^ (-log).toNat

/-! ## Increments (R383 to R385) -/

/-- Fault 0x0C07 reports the ticks clamped since its last record (R402). -/
def State.reportClamps (s : State) : State :=
  if s.time.clampedTicks = s.time.clampTold then s
  else
    let n := (s.time.clampedTicks + 2 ^ 32 - s.time.clampTold) % 2 ^ 32
    (s.modTime fun tm => { tm with clampTold := tm.clampedTicks }).fault 0x0C07 .chip n

/-- A running timed adjustment is cancelled. -/
def State.cancelAdjustment (s : State) : State := s.modTime fun tm => { tm with adj := 0, adjTicks := 0 }

/-- A timed adjustment starts, in place of a running one (R384). -/
def State.startAdjustment (s : State) (a : Int) (ticks : Nat) : State := s.modTime fun tm => { tm with adj := a, adjTicks := ticks }

/-- R385: a forward step where the local count is behind, a hold of ⌈o/4⌉ ticks where it is ahead; a running adjustment ends, and past samples give no rate across the step. -/
def State.stepTime (s : State) (o : Int) : State :=
  let s1 := s.cancelAdjustment.modTime fun tm =>
    if o < 0 then { tm with weft := tm.weft + (-o).toNat, frac := 0 } else { tm with hold := divUp o.toNat 4 }
  (idxs 2).foldl (fun acc d => acc.modDomain d fun x => { x with stamps := [] }) s1

/-! ## States (R389, R394) -/

/-- The synchronisation state that the domains give (R389). -/
def Time.syncState (tm : Time) : Nat :=
  if tm.holdoverAt.isSome then 4
  else match tm.active with
    | some d => if 16 ≤ tm.domains[d].run16 then 2 else if tm.domains[d].exceeded then 3 else 1
    | none => if tm.steering.isSome || tm.domains[0].lastSync.isSome || tm.domains[1].lastSync.isSome || tm.sync != 0 then 1 else 0

/-- The state is brought up to date; time in state 2 starts anew at each entry. -/
def State.trackSync (s : State) : State :=
  s.modTime fun tm =>
    let st := tm.syncState
    { tm with sync := st, syncedAt := if st ≠ 2 then none else if tm.sync = 2 then tm.syncedAt else some tm.weft }

/-- R394: normal service in state 2 with test mode 0; else transparent. -/
def State.normalService (s : State) : Bool := s.time.sync == 2 && !s.flag (ob 0x2200 7)

/-- R390: the synchronisation condition of R93 for a PTP domain number, with the offset within a tolerance. -/
def State.synchronisedIn (s : State) (number tolerance : Nat) : Bool :=
  match s.time.active, s.time.syncedAt with
  | some d, some since =>
    s.time.sync == 2 && s.nat (ptpObj d 3) == number && decide (1000000000 + since ≤ s.now)
      && decide (s.time.domains[d].offset.natAbs ≤ tolerance)
  | _, _ => false

/-- 0x2200:18: holdover time multiplied by the stated drift in 0.01 ppm, rounded to nearest, ties to even (R175, R398). -/
def State.holdoverError (s : State) : Nat :=
  match s.time.holdoverAt with
  | some h => min (divRne (((s.now - h) * s.nat (ob 0x2200 0x17) : Nat) : Int) 100000000).toNat (2 ^ 32 - 1)
  | none => 0

/-- Whether a domain may take over: enabled, not lost, its last 16 offsets within the switch tolerance (R392). -/
def State.eligible (s : State) (d : Fin 2) : Bool :=
  let x := s.time.domains[d]
  s.domainOn d && x.state != 4 && x.offsets.length == 16 && x.offsets.all fun o => decide (o.natAbs ≤ s.nat (ob 0x2200 0x0D))

/-! ## The servo (R389) -/

/-- The rate r over the last n Sync intervals: the advance of the grandmaster and of the local count. -/
def Domain.advances (x : Domain) (n : Nat) : Option (Int × Nat) :=
  match x.stamps with
  | [] => none
  | new :: older =>
    match older[min n older.length - 1]? with
    | none => none
    | some old => if new.2 ≤ old.2 then none else some ((new.1 : Int) - (old.1 : Int), new.2 - old.2)

/-- The timed adjustment that removes an offset: −o × 4 × 2³² / τ rounded to even, limited by the slew limit, itself rounded to even (R175, R389). -/
def slewOf (o : Int) (tauMs ppm : Nat) : Int :=
  let limit : Int := divRne ((0x400000000 * ppm : Nat) : Int) 1000000
  clampI (-limit) limit (divRne (-o * 4 * 2 ^ 32) (max 1 (tauMs * 1000000)))

/-- R389: one run of the servo of the domain that writes the timebase, on offset o. -/
def State.servo (s : State) (d : Fin 2) (o : Int) : State :=
  if s.time.hold ≠ 0 then s
  else
    let large := decide (s.nat (ob 0x2200 9) < o.natAbs)
    if large && !s.launching then s.stepTime o
    else
      let s1 := if large then s.fault 0x0C04 (.ofUnit s.time.domains[d].port) (pattern 64 o) else s
      let s2 := match s1.time.domains[d].advances (s1.nat (ob 0x2200 0x0C)) with
        | some (gm, local_) => s1.modTime fun tm => { tm with base := pattern 64 (divRne ((tm.base : Int) * gm) local_) }
        | none => s1
      let tau := s.nat (ob 0x2200 0x0B)
      (s2.startAdjustment (slewOf o tau (s.nat (ob 0x2200 0x0A))) (tau * 250000)).reportClamps

/-! ## Activation, loss, switch, holdover (R391 to R393) -/

/-- A domain becomes active: steering and holdover end. -/
def State.activateDomain (s : State) (d : Fin 2) : State :=
  (s.modTime fun tm =>
    { tm with active := some d, steering := none, everActive := true, preferWait := false, holdoverAt := none, holdoverTold := false }).modDomain d
    fun x => { x with recovered := false }

/-- A switch to the other domain: the count is not stepped, the running adjustment is cancelled, fault 0x0C03; the new servo runs at once where its Sync was processed at this count, else at its next Sync (R392). -/
def State.switchDomain (s : State) (d : Fin 2) (cause : Nat) : State :=
  let x := s.time.domains[d]
  let s1 := (s.cancelAdjustment.activateDomain d).fault 0x0C03 (.ofUnit x.port) (atI 32 32 x.offset ||| at_ 8 8 cause ||| at_ 8 0 d.val)
  match x.stamps with
  | (_, rx) :: _ => if rx = s.now then s1.servo d x.offset else s1
  | [] => s1

/-- Holdover begins: the base increment stays, the adjustment is cancelled, fault 0x0C01 (R393, R398). -/
def State.enterHoldover (s : State) (lost : Fin 2) (cause : Nat) : State :=
  let o := otherDomain lost
  let why := if s.domainOn o && s.time.domains[o].heard then 4 else cause
  (s.cancelAdjustment.modTime fun tm => { tm with active := none, holdoverAt := some tm.weft, holdoverTold := false }).fault
    0x0C01 (.ofUnit s.time.domains[lost].port) (at_ 8 8 why ||| at_ 8 0 lost.val)

/-- R391: the choice of the first active domain, after a Sync of domain d was processed. -/
def State.chooseDomain (s : State) (d : Fin 2) : State :=
  let tm := s.time
  if tm.active.isSome || tm.holdoverAt.isSome then s
  else if d = 0 then
    if 16 ≤ tm.domains[0].run16 then s.activateDomain 0 else if tm.preferWait then s.activateDomain 1 else s
  else if 16 ≤ tm.domains[1].run16 && !tm.preferWait then
    let a := tm.domains[0]
    let fresh := match a.lastSync with
      | some l => decide (s.now < l + ptpSpan (s.int (ptpObj 0 6)) (s.nat (ptpObj 0 9)))
      | none => false
    if s.domainOn 0 && a.state != 4 && !a.stamps.isEmpty && fresh then s.modTime fun tm => { tm with preferWait := true } else s.activateDomain 1
  else s

/-- A domain is lost for a cause: 1 announce timeout, 2 Sync timeout, 3 clockClass (R392). -/
def State.loseDomain (s : State) (d : Fin 2) (cause : Nat) : State :=
  if s.time.domains[d].state = 4 then s
  else
    let s1 := s.modDomain d fun x =>
      { x with state := 4, run16 := 0, offsets := [], exceeded := false, recovering := false, recovered := false, stamps := [], waiting := none }
    let o := otherDomain d
    let other := s1.time.domains[o]
    let s2 := if s1.time.steering = some d then
        s1.modTime fun tm => { tm with steering := if s.domainOn o && other.heard && other.state != 4 then some o else none }
      else s1
    let s3 := if d = 1 then s2.modTime fun tm => { tm with preferWait := false }
      else if s2.time.preferWait && s2.time.active.isNone then s2.activateDomain 1 else s2
    let s4 := if s3.time.active = some d then (if s3.eligible o then s3.switchDomain o cause else s3.enterHoldover d cause) else s3
    s4.trackSync

/-- Whether the announce receipt timeout of a domain has expired (R392). -/
def State.announceOverdue (s : State) (d : Fin 2) : Bool :=
  match s.time.domains[d].lastAnnounce with
  | some l => s.domainOn d && decide (l + ptpSpan (s.int (ptpObj d 7)) (s.nat (ptpObj d 8)) ≤ s.now)
  | none => false

/-- Whether the Sync receipt timeout of a domain has expired (R392). -/
def State.syncOverdue (s : State) (d : Fin 2) : Bool :=
  match s.time.domains[d].lastSync with
  | some l => s.domainOn d && decide (l + ptpSpan (s.int (ptpObj d 6)) (s.nat (ptpObj d 9)) ≤ s.now)
  | none => false

/-- Losses at one moment are evaluated A, then B (R393). -/
def State.loseInOrder (s : State) (d : Fin 2) (cause : Nat) : State :=
  let s1 := if d = 1 && s.announceOverdue 0 then s.loseDomain 0 1 else if d = 1 && s.syncOverdue 0 then s.loseDomain 0 2 else s
  s1.loseDomain d cause

/-! ## Messages (R389, R392 to R397) -/

/-- PTP message types (IEEE 1588, PRESUMED). -/
def ptpSync : Nat := 0
def ptpDelayReq : Nat := 1
def ptpPdelayReq : Nat := 2
def ptpPdelayResp : Nat := 3
def ptpFollowUp : Nat := 8
def ptpPdelayRespFollowUp : Nat := 10
def ptpAnnounce : Nat := 11

/-- Whether a domain takes messages on a port: enabled, and in its port mask (R387). -/
def State.ptpPort (s : State) (d : Fin 2) (port : Nat) : Bool := s.domainOn d && bit (s.nat (ptpObj d 5)) port

/-- R395, R396: in transparent operation, and for the standby domain always, a message is forwarded to the other ports of its domain. -/
def State.ptpForward (s : State) (d : Fin 2) (port : Fin 8) (kind value : Nat) : State :=
  if s.normalService && s.time.active = some d then s
  else (idxs 8).foldl (fun acc (p : Fin 8) => if s.ptpPort d p.val && p ≠ port then acc.transmit p (.ptp p.val kind value) else acc) s

/-- An event message is forwarded with its residence time added to the correction, a free value, as the egress time is not an input, and in an 802.1AS domain with the upstream mean link delay (R396). -/
def State.ptpForwardEvent (s : State) (d : Fin 2) (port : Fin 8) (kind : Nat) (correction : Int) : State :=
  if s.normalService && s.time.active = some d then s
  else
    let r := s.draw 30 [correction]
    let link : Int := if s.nat (ptpObj d 2) = 2 then s.time.domains[d].pathDelay else 0
    r.2.ptpForward d port kind (pattern 64 (correction + r.1 + link))

/-- A Sync from which an offset is formed (R389 to R393): `m` holds the grandmaster's time stamp, the whole correction and the local time stamp. -/
def State.processSync (s : State) (m : SyncMsg) : State :=
  let d := m.domain
  let x := s.time.domains[d]
  let o : Int := (m.rxLocal : Int) - (m.origin + m.correction + x.pathDelay)
  if x.state = 4 && !x.recovering then s.modDomain d fun x => { x with offset := o }
  else
    let within := decide (o.natAbs ≤ s.nat (ob 0x2200 8))
    let run := if within then x.run16 + 1 else 0
    let was4 := x.state == 4
    let first := x.stamps.isEmpty && x.offsets.isEmpty
    let gm := ((m.origin : Int) + m.correction).toNat
    let s1 := s.modDomain d fun x =>
      { x with
        offset := o
        offsets := (o :: x.offsets).take 16
        run16 := run
        exceeded := decide (run < 16) && (x.exceeded || !within)
        recovering := false
        recovered := x.recovered || (was4 && s.time.active.isSome)
        state := if 16 ≤ run then 3 else 2
        stamps := ((gm, m.rxLocal) :: x.stamps).take 65 }
    let s2 := if s1.time.holdoverAt.isSome then
        (if was4 || s1.eligible d then (s1.activateDomain d).modDomain d fun x => { x with exceeded := x.exceeded || (s1.launching && decide (x.run16 < 16)) } else s1)
      else if s1.time.active.isNone && s1.time.steering.isNone then s1.modTime fun tm => { tm with steering := some d, steeredAt := s.now }
      else if s1.time.active.isNone && s1.time.steering = some 1 && d = 0 && first && s1.time.steeredAt = s.now then s1.modTime fun tm => { tm with steering := some 0 }
      else s1
    let writes := s2.time.active = some d ∨ (s2.time.active = none ∧ s2.time.steering = some d)
    let s3 := if writes then s2.servo d o
      else if s2.time.active.isSome && s2.time.domains[d].recovered && s2.flag (ob 0x2200 0x0E) && s2.eligible d then s2.switchDomain d 5
      else s2
    (s3.chooseDomain d).trackSync

/-- A Sync arrives: it restarts the Sync receipt timeout and is forwarded; a one-step Sync is processed, a two-step one waits for its Follow_Up (R389, R392, R396). -/
def State.ptpSyncMsg (s : State) (m : SyncMsg) : State :=
  if !s.ptpPort m.domain m.port.val then s
  else
    let s1 := (s.ptpForwardEvent m.domain m.port ptpSync m.correction).modDomain m.domain fun x =>
      { x with lastSync := some s.now, heard := true, port := m.port.val, state := if x.state < 2 then 2 else x.state,
               waiting := if m.twoStep then some m else none }
    if m.twoStep then s1.trackSync else s1.processSync m

/-- A Follow_Up completes the waiting Sync of its domain and port; without one it lacks its time stamp and is discarded with fault 0x0C06 (R389, R402). -/
def State.ptpFollowUpMsg (s : State) (m : SyncMsg) : State :=
  if !s.ptpPort m.domain m.port.val then s
  else
    let s1 := s.ptpForward m.domain m.port ptpFollowUp (pattern 64 m.correction)
    match s.time.domains[m.domain].waiting with
    | some w =>
      if w.port = m.port then
        (s1.modDomain m.domain fun x => { x with waiting := none }).processSync
          { m with correction := w.correction + m.correction, rxLocal := w.rxLocal }
      else s1.fault 0x0C06 (.ofUnit m.port.val) 2
    | none => s1.fault 0x0C06 (.ofUnit m.port.val) 2

/-- The clockClass of a domain is judged against its limit (R392). -/
def State.judgeClass (s : State) (d : Fin 2) : State :=
  let x := s.time.domains[d]
  if x.lastAnnounce.isSome && decide (s.nat (ptpObj d 0x10) < x.clockClass) then s.loseDomain d 3 else s

/-- R392, R393: an Announce renews the data set, restarts its timeout, begins the recovery of a lost domain or loses the domain by its clockClass. -/
def State.ptpAnnounceMsg (s : State) (m : AnnounceMsg) : State :=
  if !s.ptpPort m.domain m.port.val then s
  else
    let d := m.domain
    let ok := decide (m.clockClass ≤ s.nat (ptpObj d 0x10))
    let s1 := (s.ptpForward d m.port ptpAnnounce m.gmIdentity).modDomain d fun x =>
      { x with gm := m.gmIdentity % 2 ^ 64, clockClass := m.clockClass % 256, steps := m.stepsRemoved % 2 ^ 16,
               lastAnnounce := some s.now, heard := true, state := if x.state < 2 then 2 else x.state,
               recovering := x.state == 4 && ok }
    let s2 := s1.modTime fun tm => if tm.active = some d ∨ tm.active = none then { tm with utc := m.utcOffset } else tm
    s2.judgeClass d

/-- Whether the chip serves as a grandmaster (R387): 0x2200:14 is 1 and it hears no other grandmaster. -/
def State.grandmaster (s : State) : Bool := s.flag (ob 0x2200 0x14) && s.time.sync == 0 && !s.flag (ob 0x2200 7)

/-- The domain for which a port is in transmitter role: the active domain in normal service on the ports other than the one that receives its Sync, or as grandmaster an enabled domain (R387, R395). -/
def State.transmitDomain (s : State) (port : Fin 8) : Option (Fin 2) :=
  if s.normalService then
    match s.time.active with
    | some d => if s.ptpPort d port.val && s.time.domains[d].port ≠ port.val then some d else none
    | none => none
  else if s.grandmaster then (idxs 2).find? fun d => s.ptpPort d port.val
  else none

/-- R395: at each Sync interval of its domain a port sends a one-step Sync, which carries the egress time stamp in units of 2⁻³² ns: whole ns in originTimestamp, the rest in correctionField. -/
def State.sendSync (s : State) (port : Fin 8) : State :=
  match s.transmitDomain port with
  | some d =>
    if s.due s.time.syncSent[port] (ptpSpan (s.int (ptpObj d 6)) 1) then
      (s.transmit port (.ptp port.val ptpSync (s.now * 2 ^ 32 + s.time.frac))).modTime fun tm => { tm with syncSent := upd tm.syncSent port fun _ => some s.now }
    else s
  | none => s

/-- R387, R395: an Announce, at each Announce interval of its domain, carries grandmaster identity, clockClass and stepsRemoved raised by 1; as grandmaster its own identity, class 248, 0 steps and its own priority1. -/
def State.sendAnnounce (s : State) (port : Fin 8) : State :=
  match s.transmitDomain port with
  | some d =>
    let x := s.time.domains[d]
    let data := if s.grandmaster then at_ 16 0 0 ||| at_ 8 16 248 ||| at_ 64 24 Config.clockIdentity ||| at_ 8 88 (s.nat (ob 0x2200 0x15))
      else at_ 16 0 (x.steps + 1) ||| at_ 8 16 x.clockClass ||| at_ 64 24 x.gm
    if s.due s.time.announceSent[port] (ptpSpan (s.int (ptpObj d 7)) 1) then
      (s.transmit port (.ptp port.val ptpAnnounce data)).modTime fun tm => { tm with announceSent := upd tm.announceSent port fun _ => some s.now }
    else s
  | none => s

/-- R396: a peer delay request is answered on every port in both modes, with its receive time stamp, the requester, and the time stamp of the answer in its follow-up. -/
def State.answerPdelay (s : State) (port : Fin 8) (ident rx : Nat) : State :=
  (s.transmit port (.ptp port.val ptpPdelayResp (at_ 64 0 rx ||| ident <<< 64))).transmit port (.ptp port.val ptpPdelayRespFollowUp (at_ 64 0 s.now ||| ident <<< 64))

/-- R387: at each delay request interval of a domain its delay request is sent on its ports. -/
def State.sendDelayRequest (s : State) (d : Fin 2) (tx : Nat) : State :=
  if !s.domainOn d || !s.due s.time.domains[d].requestAt (ptpSpan (s.int (ptpObj d 0x0A)) 1) then s
  else
    let kind := if s.nat (ptpObj d 2) = 0 then ptpDelayReq else ptpPdelayReq
    (idxs 8).foldl (fun acc (p : Fin 8) => if s.ptpPort d p.val then acc.transmit p (.ptp p.val kind tx) else acc)
      (s.modDomain d fun x => { x with t1 := some tx, requestAt := some s.now })

/-- R389: the mean path delay from the four time stamps of the delay mechanism: peer delay ((t4 − t1) − (t3 − t2) − correction)/2; delay request-response with the last Sync's two stamps, ((rx − request) + (t4 − origin) − correction)/2. -/
def State.delayResponse (s : State) (d : Fin 2) (t2 t3 t4 : Nat) (correction : Int) : State :=
  let x := s.time.domains[d]
  match x.t1 with
  | none => s
  | some t1 =>
    let twice : Option Int :=
      if s.nat (ptpObj d 2) = 0 then
        match x.stamps with
        | (origin, rx) :: _ => some (((rx : Int) - t1) + ((t4 : Int) - origin) - correction)
        | [] => none
      else some (((t4 : Int) - t1) - ((t3 : Int) - t2) - correction)
    match twice with
    | some v => s.modDomain d fun x => { x with pathDelay := (divRne v 2).toNat % 2 ^ 32, t1 := none }
    | none => s

/-! ## Time triggers (R399 to R401) -/

/-- What a channel object reads: of channels 48 to 59 the values derived from the head (R400), else the written ones. -/
def State.channelValue (s : State) (c sub : Nat) : Nat :=
  if h : 48 ≤ c ∧ c < 60 then
    let hd : Fin 12 := ⟨c - 48, by omega⟩
    let ref := s.nat (headObj hd.val 4)
    if !s.headOn hd.val then (defaultOf (ob (0x2210 + c) sub)).num.toNat
    else match sub with
      | 1 => 3
      | 4 => s.nat (camObj ref 0x0B)
      | 5 => s.nat (camObj ref 9)
      | 6 => s.nat (headObj hd.val 3)
      | 7 => pattern 32 ((s.nat (camObj ref 0x10) : Int) - (s.heads[hd].lead : Int))
      | 8 => s.pulseWidth hd
      | _ => (defaultOf (ob (0x2210 + c) sub)).num.toNat
  else if sub = 7 then pattern 32 (s.int (ob (0x2210 + c) 7))
  else s.nat (ob (0x2210 + c) sub)

/-- R399: an edge count is rounded to the nearest multiple of 2 ns, a tie to the multiple of 4. -/
def edgeCount (t : Nat) : Nat := if t % 2 = 0 then t else if t % 4 = 1 then t - 1 else t + 1

/-- Whether a stream takes its triggers from a channel: enabled, and its time trigger channel is this one. -/
def State.streamOf (s : State) (c : Nat) (n : Fin 24) : Bool := s.nat (camObj n.val 1) != 0 && s.nat (camObj n.val 0x0B) == c

/-- Width of an edge: of a camera channel in trigger-width exposure the exposure of the tag that the trigger takes, of a strobe the width of its line's tag, else 0x2210:08 (R291, R401). -/
def State.edgeWidth (s : State) (c count : Nat) : Nat :=
  match (idxs 24).find? fun n => s.streamOf c n && s.nat (camObj n.val 0x0E) == 1 with
  | some n => (s.streams[n].exposureOf count).1.exposure
  | none => if h : 48 ≤ c ∧ c < 60 then s.strobeWidth ⟨c - 48, by omega⟩ count else s.channelValue c 8

/-! ### When an edge falls (R399) -/

/-- The count of edge g of a periodic channel: L + start + g × period, rounded to the nearest multiple of 2 ns, ties to a multiple of 4 (R399). -/
def State.gridCount (s : State) (c g : Nat) : Nat :=
  match s.launch.run with
  | some run => 2 * (divRne (((run.start + s.nat (ob (0x2210 + c) 2)) * 2 ^ 16 + g * s.nat (ob (0x2210 + c) 3) : Nat) : Int) (2 ^ 17)).toNat
  | none => 0

/-- The edge of a periodic channel that falls at a count. -/
def State.gridIndex (s : State) (c count : Nat) : Option Nat :=
  match s.launch.run with
  | some run =>
    let period := max 1 (s.nat (ob (0x2210 + c) 3))
    let g := ((count - (run.start + s.nat (ob (0x2210 + c) 2))) * 2 ^ 16 + period / 2) / period
    if s.gridCount c g = count then some g else none
  | none => none

/-- The number of the edge that a periodic channel issues at place g of its grid: a pause leaves no gap in the numbers (R399, R458). -/
def State.edgeNumber (s : State) (c : Fin 64) (g : Nat) : Int :=
  match s.time.lastEdge[c] with
  | none => g
  | some last => match s.gridIndex c.val last with
    | some g0 => (s.time.edges[c] : Int) - 1 - g0 + g
    | none => g

/-- The offsets of a linked channel in force: its own, or for a strobe those of its stream's tags: delay minus lead (R400, R401). -/
def State.offsetsOf (s : State) (c : Fin 64) : List Int :=
  if h : 48 ≤ c.val ∧ c.val < 60 then
    match s.refStream ⟨c.val - 48, by omega⟩ with
    | some n => (s.streams[n].tags.map fun g => (g.delay : Int) - s.heads[(⟨c.val - 48, by omega⟩ : Fin 12)].lead).dedup
    | none => []
  else [signed 32 (s.channelValue c.val 7)]

/-- Whether the offset `off` of a channel holds for the trigger at a count: of a strobe, that with the delay in force at the trigger (R290, R401). -/
def State.offsetHolds (s : State) (c : Fin 64) (off : Int) (trigger : Nat) : Bool :=
  if h : 48 ≤ c.val ∧ c.val < 60 then
    match s.refStream ⟨c.val - 48, by omega⟩ with
    | some n => decide (((s.streams[n].exposureOf trigger).2 : Int) = trigger + off + s.heads[(⟨c.val - 48, by omega⟩ : Fin 12)].lead)
    | none => false
  else true

/-- Whether an edge of a linked channel with a periodic source falls now: source edge m + offset, for an m with m mod divider = phase (R399). -/
def State.linkedDue (s : State) (c src : Fin 64) : Bool :=
  (s.offsetsOf c).any fun off => [(0 : Int), -1, 1].any fun r =>
    let trigger := (s.now : Int) - off + r
    decide (0 ≤ trigger ∧ 0 ≤ trigger + off ∧ edgeCount (trigger + off).toNat = s.now) && s.offsetHolds c off trigger.toNat
      && (s.gridIndex src.val trigger.toNat).any fun g => decide (s.edgeNumber src g % (max 1 (s.channelValue c.val 5) : Nat) = s.channelValue c.val 6)

/-- Whether an edge of a channel falls now: of a periodic channel on its grid, of a following one after an event of its source, of a linked one at its offset from an edge of its source; no edge falls twice (R399). -/
def State.edgeDue (s : State) (c : Fin 64) : Bool :=
  let fresh := (s.time.lastEdge[c]).all fun last => decide (last < s.now)
  match s.channelValue c.val 1 with
  | 1 => fresh && (s.gridIndex c.val s.now).isSome
  | 2 => (s.time.dueEdges[c].headD (s.now + 1)) ≤ s.now
  | 3 =>
    if h : s.channelValue c.val 4 < 64 then
      if s.channelValue (s.channelValue c.val 4) 1 = 1 then fresh && s.linkedDue c ⟨_, h⟩
      else (s.time.dueEdges[c].headD (s.now + 1)) ≤ s.now
    else false
  | _ => false

/-- An edge of channel c is issued at a count: it is counted, and an edge of a following channel makes those of the channels linked to it due (R399). -/
def State.issueEdge (s : State) (ch : Fin 64) (count : Nat) : State :=
  let m := s.time.edges[ch]
  s.modTime fun tm =>
    { tm with
      edges := upd tm.edges ch fun n => (n + 1) % 2 ^ 64
      lastEdge := upd tm.lastEdge ch fun _ => some count
      dueEdges := updAll (upd tm.dueEdges ch fun l => l.drop 1) fun c l =>
        if s.channelValue ch.val 1 = 2 ∧ s.channelValue c 1 = 3 ∧ s.channelValue c 4 = ch.val ∧ m % (max 1 (s.channelValue c 5)) = s.channelValue c 6 then
          l ++ [((count : Int) + signed 32 (s.channelValue c 7)).toNat]
        else l }

/-- R399 to R401: an edge of a channel falls: it is counted; the streams of the channel take a trigger, a digital output of path 1 pulses, a strobe pulse is counted for its head (R268, R300, R305, R348). At a count where none falls nothing happens. -/
def State.triggerEdge (s : State) (ch : Fin 64) : State :=
  if !s.triggersRun || s.channelValue ch.val 1 == 0 || decide (60 ≤ ch.val) || !s.edgeDue ch then s
  else
    let count := edgeCount s.now
    let width := s.edgeWidth ch.val count
    let s1 := (s.emit (.trigger ch.val s.time.edges[ch] count width)).issueEdge ch count
    if h : 48 ≤ ch.val ∧ ch.val < 60 then s1.countPulse ⟨ch.val - 48, by omega⟩ width
    else
      (idxs 24).foldl (fun acc (n : Fin 24) =>
        if s.streamOf ch.val n then
          let a := acc.issueTrigger n count
          if s.nat (camObj n 0x0C) = 1 then a.driveOutput ⟨s.nat (camObj n 0x0D) % 32, Nat.mod_lt _ (by decide)⟩ false else a
        else acc) s1

/-! ## The commands -/

/-- R389. -/
def execPtpSyncReceived (t : Nat) (m : SyncMsg) (s : State) : Host.Outcome State Fault Refusal := .next ((s.advance t).ptpSyncMsg m)

/-- R389. -/
def execPtpFollowUpReceived (t : Nat) (m : SyncMsg) (s : State) : Host.Outcome State Fault Refusal := .next ((s.advance t).ptpFollowUpMsg m)

/-- R392, R393. -/
def execPtpAnnounceReceived (t : Nat) (m : AnnounceMsg) (s : State) : Host.Outcome State Fault Refusal := .next ((s.advance t).ptpAnnounceMsg m)

/-- R392: the announce receipt timeout, where it has expired. -/
def execPtpAnnounceTimeout (t : Nat) (dom : Fin 2) (s : State) : Host.Outcome State Fault Refusal :=
  let s := s.advance t
  .next (if s.announceOverdue dom then s.loseInOrder dom 1 else s)

/-- R392: the Sync receipt timeout, where it has expired. -/
def execPtpSyncTimeout (t : Nat) (dom : Fin 2) (s : State) : Host.Outcome State Fault Refusal :=
  let s := s.advance t
  .next (if s.syncOverdue dom then s.loseInOrder dom 2 else s)

/-- R385: the held ticks have run out: the fraction is cleared and counting resumes with the base increment. -/
def execTimebaseHoldEnd (t : Nat) (s : State) : Host.Outcome State Fault Refusal :=
  .next (if s.time.hold = 0 then s.advance t else (s.modTime fun tm => { tm with hold := 0, frac := 0 }).advance t)

/-- R384: the timed adjustment has ended. -/
def execTimedAdjustmentEnd (t : Nat) (s : State) : Host.Outcome State Fault Refusal := .next ((s.advance t).cancelAdjustment.reportClamps)

/-- R398: fault 0x0C02, once per holdover, when the estimate exceeds its limit. -/
def execHoldoverErrorLimit (t : Nat) (s : State) : Host.Outcome State Fault Refusal :=
  let s := s.advance t
  .next (if decide (s.nat (ob 0x2200 0x19) < s.holdoverError) && !s.time.holdoverTold then
      (s.modTime fun tm => { tm with holdoverTold := true }).fault 0x0C02 .chip (at_ 32 0 s.holdoverError)
    else s)

/-- R396. -/
def execPtpPdelayRequest (t : Nat) (port : Fin 8) (ident rx : Nat) (s : State) : Host.Outcome State Fault Refusal :=
  .next ((s.advance t).answerPdelay port ident rx)

/-- R395, R397. -/
def execPtpSyncTransmit (t : Nat) (port : Fin 8) (s : State) : Host.Outcome State Fault Refusal := .next ((s.advance t).sendSync port)

/-- R395. -/
def execPtpAnnounceTransmit (t : Nat) (port : Fin 8) (s : State) : Host.Outcome State Fault Refusal := .next ((s.advance t).sendAnnounce port)

/-- R399. -/
def execTimeTriggerEdge (t : Nat) (ch : Fin 64) (s : State) : Host.Outcome State Fault Refusal := .next ((s.advance t).triggerEdge ch)

/-- R387. -/
def execPtpDelayRequestTransmit (t : Nat) (dom : Fin 2) (tx : Nat) (s : State) : Host.Outcome State Fault Refusal :=
  .next ((s.advance t).sendDelayRequest dom tx)

/-- R389. -/
def execPtpDelayResponseReceived (t : Nat) (dom : Fin 2) (t2 t3 t4 : Nat) (correction : Int) (s : State) : Host.Outcome State Fault Refusal :=
  .next ((s.advance t).delayResponse dom t2 t3 t4 correction)

end Sys2Proof.Machine
end

