-- ==== Sys2Proof/Machine/Service.lean ====
section
/-!
DEFINITION. Resets, boot, secure boot, firmware and image slots, block swaps and region migrations (R473 to R485).
-/

namespace Sys2Proof.Machine

/-! ## Resets (R473) -/

/-- Domains that a reset of the compute die restarts: all but the fixed ones and the field-side functions that run on. -/
def bootDomain (d : Nat) : Bool := !fixedDomain d

/-- A migration that has not switched, as a reset leaves it: its copy is to be made anew (R484). -/
def State.pendingMigration (s : State) : Option Migration :=
  match s.service.migration with
  | some m => if m.switched then none else some { m with copied := false, decided := s.now }
  | none => none

/-- What every reset ends and forgets of the compute die: launches, memories, queues, engines and links; roles, plans, suspect cells, and the swaps and migrations that have been decided stay, a copy under way begins anew (R26, R144, R484); 0x5800:09 reads 0 (R473, R474). -/
def State.computeReset (s : State) (source : Nat) : State :=
  let s1 := s.endLaunch
  { s1 with
    launch := { Launch.reset with reduced := decide (s1.working < 8) }
    blocks := s1.blocks.map fun x => { Block.reset 0 with role := x.role, carries := x.carries, grid := x.grid, suspects := x.suspects, swapCell := x.swapCell }
    regions := s1.regions.map fun x =>
      { Region.reset 0 with
        role := x.role, supply := x.vplan, vplan := x.vplan, ageing := x.ageing, speed := x.speed, headroom := x.headroom
        endOfMargin := x.endOfMargin, poweredNs := x.poweredNs, overAged := x.overAged, replan := x.replan }
    mem := { hbm := [], rmem := [], spad := [] }
    marks := []
    detect := Vector.replicate 24 .reset
    kv := .reset
    streams := Vector.replicate 24 .reset
    heads := s1.heads.map fun x => { x with safe := true, means := [], driveDue := none }
    intake := Vector.replicate 8 .reset
    net := .reset
    power := { s1.power with
      state := .run, latched := none, tripped := false, steps := [], capClassL := false, capSince := none, capTold := false
      domains := updAll s1.power.domains fun d x =>
        if bootDomain d ∧ x.state ≠ 5 then { x with state := 0, target := 0, latched := none, isolated := true, fromOff := true } else x }
    service := { s1.service with
      lastReset := source, bootState := 0, bootAt := s1.now, readyAt := s1.now, beat0Due := true, auto := false
      imgState := 0, imgStaged := none, migration := s1.pendingMigration, moves := [] } }

/-- A staged bundle whose Crust firmware differs takes effect at a cold boot or warm reset: its slot becomes the active one (R481). -/
def State.takeStagedFirmware (s : State) : State :=
  match s.service.fwStaged with
  | some b => if b.crustSame then s else s.modService fun v => { v with slot := 1 - v.slot, fwState := 0, fwStaged := none }
  | none => s

/-- R473: a warm reset: the compute die and the manager and steward cores restart; the base-die functions keep running. -/
def State.warmReset (s : State) (source : Nat) : State :=
  ((s.computeReset source).takeStagedFirmware).modService fun v => { v with coresDown := [] }

/-- R473: a restart of the compute die alone, out of a thermal trip or of standby, which zeroes the compute-die counters on leaving standby (R461). -/
def State.dieReset (s : State) : State :=
  let s1 := s.computeReset 6
  if s.power.state = .standby then
    s1.modCounters fun c => { c with region := Vector.replicate 10 (Vector.replicate 16 0), block := [], cell := [], zeroAt := s.now }
  else s1

/-- R473, R108, R109, R380: a cold boot: every domain restarts. What stays is in flash, fuses or outside: the persistent log, the stored values, the Crust's stored set and key slots, roles, row maps, and the swaps and migrations that have been decided (R26), saved element counters (R99), firmware and image slots, wear of the silicon, the two inputs; the weft count goes on from its value unless power was lost (R385). -/
def State.coldReset (s : State) (source : Nat) (powerLost : Bool) : State :=
  let v := s.takeStagedFirmware.service
  let base := State.reset
  let migration := if powerLost then s.pendingMigration.map fun m => { m with started := false, decided := 0 }
    else s.pendingMigration.map fun m => { m with started := false }
  let s1 : State :=
    { base with
      pending := s.pending
      outbox := s.outbox
      counters := { base.counters with zeroAt := if powerLost then 0 else s.time.weft, lastLatch := if powerLost then 0 else s.time.weft }
      time := { base.time with weft := if powerLost then 0 else s.time.weft }
      log := { base.log with persistent := s.log.persistent }
      dict := { base.dict with
        stored := if s.dict.restoreMark then [] else s.dict.stored
        storedFollows := s.dict.restoreMark || s.dict.storedFollows }
      launch := { base.launch with reduced := decide (s.working < 8) }
      blocks := updAll s.blocks fun i x => { Block.reset (i % 18) with role := x.role, carries := x.carries, grid := x.grid, swapCell := x.swapCell }
      regions := updAll s.regions fun i x =>
        { Region.reset i with
          role := x.role, supply := x.vplan, vplan := x.vplan, ageing := x.ageing, speed := x.speed, headroom := x.headroom
          endOfMargin := x.endOfMargin, poweredNs := x.poweredNs, overAged := x.overAged, replan := x.replan }
      crust := { base.crust with active := s.crust.stored, stored := s.crust.stored, keySlots := s.crust.keySlots }
      power := { base.power with
        mainDv := s.power.mainDv, watts := s.power.watts, fieldDv := s.power.fieldDv, fieldOk := s.power.fieldOk
        temps := s.power.temps, lifeNs := s.power.lifeNs, hotNs := s.power.hotNs }
      service := { base.service with
        lastReset := source, bootAt := if powerLost then 0 else s.time.weft, readyAt := if powerLost then 0 else s.time.weft
        slot := v.slot, minVersion := v.minVersion, firmware := v.firmware, fwSecurity := v.fwSecurity, fwA := v.fwA, fwB := v.fwB
        imgSlot := v.imgSlot, imageKeys := v.imageKeys, exhausted := v.exhausted, rowMap := v.rowMap, savedElements := v.savedElements, entropy := v.entropy
        swaps := v.swaps, migration := migration, migrations := v.migrations } }
  let s2 := s1.loadStored
  let s3 := if (s2.regionOf 1).isSome then s2 else s2.enterSingle 0xFF 2
  let s4 := (idxs 2).foldl (fun acc d => if acc.domainOn d then acc.modDomain d fun x => { x with state := 1 } else acc) s3
  (s4.modPower fun p =>
    { p with
      domains := updAll p.domains fun d x =>
        if bootDomain d then { x with state := 0, target := 0, isolated := true, fromOff := true } else x }).outputOff

/-- R438: the hold-up store runs down: the module is off; a main input already back in range cold-boots it. -/
def State.powerOff (s : State) : State :=
  if s.power.mainOk then s
  else if 360 ≤ s.power.mainDv ∧ s.power.mainDv ≤ 600 then s.coldReset 1 true
  else
    let s1 := s.computeReset s.service.lastReset
    s1.modPower fun p => { p with state := .off, domains := p.domains.map fun x => { x with state := 0, target := 0, latched := none, isolated := true } }

/-- R438: the main input is back in range: a module that is off cold-boots; one whose power-off still runs goes through with it first. -/
def State.mainBack (s : State) (dv : Nat) : State :=
  let s1 := s.modPower fun p => { p with mainDv := dv }
  if s.power.state = .off then s1.coldReset 1 true else s1

/-- R473, R104: a manager core fails its watchdog; both failing cause a warm reset. -/
def State.managerFails (s : State) (core : Fin 2) : State :=
  let down := if s.service.coresDown.contains core then s.service.coresDown else s.service.coresDown ++ [core]
  if 2 ≤ down.length then s.warmReset 5 else s.modService fun v => { v with coresDown := down }

/-! ## Verification (R476 to R479) -/

/-- R476, R477: why a firmware bundle is refused; 0 where it is not. -/
def State.bundleReason (s : State) (b : Bundle) : Nat :=
  if !b.formatOk then 1 else if !b.signatureOk then 2 else if !b.keySlotOk then 3 else if b.securityVersion < s.service.minVersion then 4 else 0

/-- R476 to R478: why an image does not verify: format, with reserved flags that are not 0 (DESIGN CHOICE, log entry 52) and scale slots that may not be as declared (R186, R206) among it, signature, key slot, security version. -/
def State.imageReason (s : State) (im : Image) (sigOk : Bool) : Nat :=
  if im.magic ≠ 0x41D9 ∨ im.version ≠ 1 ∨ !im.reservedOk ∨ 8 ≤ im.flags.toNat ∨ !im.slots.all slotInitOk then 1
  else if !sigOk then 2
  else if (s.service.imageKeys.getD im.keySlot (0, [])).1 ≠ 1 then 3
  else if im.securityVersion < s.service.minVersion then 4
  else 0

/-- The value that an object will have at the next launch: pending, else active (R117). -/
def State.comingNat (s : State) (key : Key) : Nat :=
  match get? s.commit.pending key with
  | some v => v.num.toNat
  | none => s.nat key

/-- R479: whether the header and the launch's settings disagree. -/
def State.headerMismatch (s : State) (im : Image) : Bool :=
  im.beatPeriod != s.comingNat (ob 0x3C00 3) || im.floorRate != s.nat (ob 0x3010 1) || !im.flags.getLsbD (s.comingNat (ob 0x3C00 1))
    || decide (im.slotTables < s.comingNat (ob 0x3C00 0x0C)) || decide (s.service.firmware < im.minFirmware)

/-! ## Boot (R474 to R477) -/

/-- Recovery: 0x5800:09 reads 2, fault 0x1102 (R477). -/
def State.recovery (s : State) (why : Nat) : State := (s.modService fun v => { v with bootState := 2 }).fault 0x1102 .chip why

/-- R477: the active firmware slot is verified, and the other where it fails; whether one runs. -/
def State.bootFirmware (s : State) (slotA slotB : Bundle) : State × Bool :=
  let s0 := s.modService fun v => { v with fwA := slotA.version, fwB := slotB.version }
  let first := s0.service.slot
  let one := if first = 0 then slotA else slotB
  let two := if first = 0 then slotB else slotA
  let run (s : State) (k : Nat) (b : Bundle) : State := s.modService fun v => { v with slot := k, firmware := b.version, fwSecurity := b.securityVersion }
  let r1 := s0.bundleReason one
  if r1 = 0 then (run s0 first one, true)
  else
    let s1 := s0.fault 0x1101 .chip (at_ 8 0 first ||| at_ 8 8 r1)
    let r2 := s1.bundleReason two
    if r2 = 0 then (run s1 (1 - first) two, true)
    else (s1.fault 0x1101 .chip (at_ 8 0 (1 - first) ||| at_ 8 8 r2), false)

/-- The domains take the state they are to have; arrays are zeroed, supplies at V_plan (R443, R448, R474 step 5). -/
def State.bootDomains (s : State) : State :=
  let s1 := s.modPower fun p =>
    { p with
      domains := updAll p.domains fun d x =>
        if x.state = 5 then x else { x with state := s.domainWant d, target := s.domainWant d, latched := none, isolated := s.domainWant d != 2 } }
  (idxs 10).foldl (fun acc r => (acc.startLogic r).zeroRegion r) s1

/-- The bound in ms of a boot step after a cold boot, and after a warm reset, which lacks the first 150 ms (R474, R475). -/
def stepBound (step : Nat) (cold : Bool) : Nat :=
  let b := ([0, 0, 30, 80, 150, 450, 1000, 1500] : List Nat).getD step 1500
  if cold ∨ step ≤ 4 then b else b - 150

/-- A boot step that exceeded its bound writes fault 0x1103 (R475). -/
def State.judgeStep (s : State) (step ms : Nat) : State :=
  if stepBound step (decide (s.service.lastReset ≤ 3)) < ms then s.fault 0x1103 .chip (at_ 8 0 step ||| at_ 32 16 ms) else s

/-- R474: the boot steps up to 7: firmware, stored sets, compute-die domains with the matched-delay test (R76), image, and the swaps that have been decided, so that no retired block serves at the first beat; 0x5800:09 reads 1, or recovery is entered (R477). -/
def State.boot (s : State) (slotA slotB : Bundle) (image : Option Image) (imageSigOk : Bool) (failing : List (Fin 10 × Fin 18 × Nat × Nat))
    (late : List (Nat × Nat)) : State :=
  if s.service.bootState ≠ 0 then s
  else
    let f := if s.service.lastReset = 6 then (s, true) else s.bootFirmware slotA slotB
    if !f.2 then f.1.recovery 1
    else
      let s1 := failing.foldl (fun acc e => acc.failDelay e.1 e.2.1 e.2.2.1 e.2.2.2) f.1.bootDomains
      let s2 := late.foldl (fun acc e => acc.judgeStep e.1 e.2) s1
      let good := image.filter fun im => s2.imageReason im imageSigOk == 0
      let s3 := (idxs 10).foldl State.swapAtOnce (s2.modLaunch fun l => { l with image := good })
      if good.isNone then s3.recovery 2 else s3.modService fun v => { v with bootState := 1, readyAt := s2.now }

/-! ## Firmware slots (R481) -/

/-- R481: whether a firmware command is refused: 1 while a bundle is verified or scheduled, 2 without a valid bundle, with another Crust firmware, or for a beat that begins in less than 100 ms. -/
def State.firmwareRefused (s : State) (v : Nat) : Bool :=
  match v with
  | 1 => s.service.fwState == 1 || s.service.fwState == 3
  | 2 => match s.service.fwStaged, s.launch.run with
    | some b, some run => s.service.fwState != 2 || !b.crustSame || decide (run.countOf (s.nat (ob 0x5820 3)) < 100000000 + s.now)
    | _, _ => true
  | _ => false

/-- 0x5820:02 (R481). -/
def State.firmwareCommand (s : State) (v : Nat) : State :=
  match v with
  | 1 => s.modService fun x => { x with fwState := 1, fwReason := 0, fwStaged := none }
  | 2 => s.modService fun x => { x with fwState := 3 }
  | _ => s.modService fun x => { x with fwState := 0, fwReason := 0, fwStaged := none }

/-- R481: the verification of a staged bundle ends: it lies in the inactive slot, or is refused. -/
def State.firmwareVerified (s : State) (b : Bundle) : State :=
  if s.service.fwState ≠ 1 then s
  else
    let r := s.bundleReason b
    if r ≠ 0 then s.modService fun v => { v with fwState := 4, fwReason := r }
    else s.modService fun v =>
      { v with
        fwState := 2, fwReason := if b.crustSame then 0 else 5, fwStaged := some b
        fwA := if v.slot = 1 then b.version else v.fwA
        fwB := if v.slot = 1 then v.fwB else b.version }

/-- R481: at the switch beat core 1 and the steward shadows take over; sessions, the open group and pending values stay: fault 0x1105. -/
def State.switchFirmware (s : State) : State :=
  match s.service.fwStaged, s.launch.run with
  | some b, some run =>
    if s.service.fwState ≠ 3 ∨ run.beat < s.nat (ob 0x5820 3) then s
    else
      ((s.modService fun v =>
        { v with fwState := 0, fwStaged := none, slot := 1 - v.slot, firmware := b.version, fwSecurity := b.securityVersion }).fault
          0x1105 .chip (at_ 32 0 b.version)).launchBeat
  | _, _ => s

/-! ## Image slots (R480) -/

/-- An image is refused: 0x5830:05 and fault 0x1104. -/
def State.refuseImage (s : State) (reason : Nat) : State :=
  (s.modService fun v => { v with imgState := 4, imgReason := reason, imgStaged := none }).fault 0x1104 .chip reason

/-- R480: the verification of a staged image ends; its header is checked with it (R478, R479). -/
def State.imageVerified (s : State) (im : Image) (sigOk : Bool) : State :=
  if s.service.imgState ≠ 1 then s
  else
    let r := s.imageReason im sigOk
    if r ≠ 0 then s.refuseImage r
    else if s.service.firmware < im.minFirmware then s.refuseImage 7
    else if s.headerMismatch im then s.refuseImage 6
    else s.modService fun v => { v with imgState := 2, imgReason := 0, imgStaged := some im, imgHash := im.hash }

/-- R480: whether an image command is refused: 1 while one is verified or scheduled, 2 without a valid image or with a relaunch count nearer than the gap. -/
def State.imageRefused (s : State) (v : Nat) : Bool :=
  match v with
  | 1 => s.service.imgState == 1 || s.service.imgState == 3
  | 2 => s.service.imgState != 2 || decide (s.nat (ob 0x5830 3) < s.now + 1000 * s.nat (ob 0x5800 0x0B))
  | _ => false

/-- 0x5830:02 (R480): a relaunch ends the running launch at the last release count before its count less the gap; a cancel takes that back. -/
def State.imageCommand (s : State) (v : Nat) : State :=
  let setEnd (s : State) (e : Option Nat) : State := s.modLaunch fun l => { l with run := l.run.map fun r => { r with endAt := e } }
  match v with
  | 1 => s.modService fun x => { x with imgState := 1, imgReason := 0, imgStaged := none }
  | 2 => setEnd (s.modService fun x => { x with imgState := 3 }) (some (s.nat (ob 0x5830 3) - 1000 * s.nat (ob 0x5800 0x0B)))
  | _ => setEnd (s.modService fun x => { x with imgState := 0, imgReason := 0, imgStaged := none }) none

/-! ## Keys and the minimum version (R476, R477) -/

/-- R477: the fuses rise to the running security version. -/
def State.raiseMinimum (s : State) : State := s.modService fun v => { v with minVersion := max v.minVersion v.fwSecurity }

/-- R476: image key slot 0 is written once. -/
def State.writeKeySlot (s : State) (key : Bytes) : State :=
  s.modService fun v => { v with imageKeys := v.imageKeys.mapIdx fun k e => if k = 0 ∧ e.1 = 0 then (1, key) else e }

/-- 0x5840:02, 0x4800:05: two bits a slot. -/
def slotBits (slots : List (Nat × Bytes)) : Nat := (slots.zipIdx).foldl (fun m e => m ||| (e.1.1 % 4) <<< (2 * e.2)) 0

/-- The slot under which a key record is signed, the lowest valid one that verifies its last 64 bytes (R476). -/
def State.recordSigner (s : State) (record : Bytes) : Option Nat :=
  ((s.service.imageKeys.zipIdx).find? fun e => e.1.1 == 1 && verifies e.1.2 (record.take 64) (record.drop 64)).map fun e => e.2

/-- R476: a key record signed under a valid slot programs or revokes a slot. -/
def State.takeKeyRecord (s : State) (record : Bytes) : State :=
  match s.recordSigner record with
  | some k => s.modService fun v => { v with imageKeys := applyKeyAction v.imageKeys (keyActionOf 45 k record) }
  | none => s

/-! ## Block swaps (R483) -/

/-- R483: at the change beat the spare takes the retiring block's work. -/
def State.swapBlock (s : State) (r : Fin 10) (b : Fin 18) : State :=
  match s.service.swaps.find? fun w => w.region == r && w.block == b with
  | none => s
  | some w => if s.beatReached (w.decided + s.changeLead) then (s.takeSpare w).launchBeat else s

/-! ## Region migrations (R484) -/

/-- R484: M1: the checker takes the class C work, single channel begins, class L work is suspended: fault 0x1106. A checker role moves without class C work; it begins here, and where a working region gives up its work for it the reduced variant runs. -/
def State.startMigration (s : State) : State :=
  match s.service.migration with
  | none => s
  | some m =>
    if m.started ∨ !s.beatReached (m.decided + s.changeLead) then s
    else
      let target := match m.target with
        | some t => t.val
        | none => 0xFF
      let begin_ (s : State) : State :=
        (s.modService fun v => { v with migration := some { m with started := true } }).fault 0x1106 (.ofRegion m.region.val)
          (at_ 8 0 target ||| at_ 1 8 (b2n m.checkerRole))
      if m.checkerRole then begin_ s
      else if s.crust.single.isSome then
        -- R367: the Crust refuses it while single channel is active: it waits
        (s.modService fun v => { v with migration := none, migrations := v.migrations ++ [(m.region, m.canRun)] }).nextMigration
      else ((begin_ s).enterSingle m.region.val 1).launchBeat

/-- Region r's memory and scratchpads are copied to region t. -/
def State.copyRegion (s : State) (r t : Fin 10) : State :=
  let from_ := r.val * rmemSize
  let to_ := t.val * rmemSize
  let s1 := (s.modMem fun m => { m with rmem := copyCells m.rmem from_ to_ rmemSize }).copyMarks 1 from_ to_ rmemSize
  (idxs 18).foldl (fun acc b => acc.copyPad r b t b) s1

/-- R484: the copy and the load of the placement are complete, or the copy failed. -/
def State.copyDone (s : State) (ok : Bool) : State :=
  match s.service.migration with
  | none => s
  | some m =>
    if !m.started ∨ m.copied then s
    else if !ok then s.endMigration 2
    else
      let s1 := match m.target with
        | some t => if m.checkerRole then s else s.copyRegion m.region t
        | none => s
      s1.modService fun v => { v with migration := some { m with copied := true, decided := s.now } }

/-- R427: every window onto the region's memories moves to the same offsets in the region taking over. -/
def State.moveWindows (s : State) (r t : Fin 10) : State :=
  let hits := (List.range 64).filter fun w => s.nat (ob (0x2410 + w) 2) != 0 && s.nat (ob (0x2410 + w) 3) / 256 == r.val
  (hits.foldl (fun acc w => acc.setObj (ob (0x2410 + w) 3) (.int (256 * t.val + s.nat (ob (0x2410 + w) 3) % 256 : Nat))) s).modNet
    fun n => { n with moved := hits }

/-- R247: the pools owned by a region move with its work. -/
def State.movePools (s : State) (r t : Fin 10) : State :=
  (List.range 4).foldl (fun acc k => if acc.nat (ob (0x3810 + k) 3) = r.val then acc.setObj (ob (0x3810 + k) 3) (.int t.val) else acc) s

/-- A place in a region's memory, where the region's work has moved to another region. -/
def moveRmem (r t : Fin 10) (p : MemRef) : MemRef := if p.space = 1 ∧ p.region = r.val then { p with region := t.val } else p

/-- An image whose declarations for a region name the region that has taken its work (R163, R204, R330, R433, R484). -/
def moveRegionPlaces (im : Image) (r t : Fin 10) : Image :=
  let own (k : Fin 10) : Fin 10 := if k = r then t else k
  { im with
    outputs := im.outputs.map fun e => { e with region := own e.region }
    slots := im.slots.map fun e => { e with region := own e.region }
    heldOutputs := im.heldOutputs.map fun e => if e.block = 18 then { e with region := own e.region } else e
    attentionOutputs := im.attentionOutputs.map fun e => (own e.1, e.2)
    gathers := im.gathers.map fun g => { g with region := own g.region, place := moveRmem r t g.place }
    inputBuffers := im.inputBuffers.map fun e => (e.1, moveRmem r t e.2) }

/-- R484: M2: the work goes to region t: memories (written in mirror until now), queues and what waits in them, scale slots, windows, pools, places that the image declares, the region of a stream's last NMS, and stripes at their streams' tile boundaries. -/
def State.moveRegion (s : State) (r t : Fin 10) : State :=
  let x := s.regions[r]
  let s1 := ((s.copyRegion r t).modRegion t fun y => { y with slots := x.slots, prevSeq := x.prevSeq, waiting := x.waiting }).modRegion r fun y => { y with waiting := [] }
  let s2 := ((s1.moveWindows r t).movePools r t).modLaunch fun l => { l with image := l.image.map fun im => moveRegionPlaces im r t }
  let s3 := (idxs 24).foldl (fun acc n => acc.modDetect n fun d => if d.region = r then { d with region := t } else d) s2
  (idxs 18).foldl (fun acc b => acc.moveWork r b t b) s3

/-- R484, R25: the switch at M2: the target takes the role, the old region fails, and comparison resumes where a checker holds its role; a target that has failed ends the migration. -/
def State.switchMigration (s : State) (targetOk : Bool) : State :=
  match s.service.migration with
  | none => s
  | some m =>
    match m.target with
    | none => s
    | some t =>
      if !m.copied ∨ m.switched ∨ !s.beatReached (m.decided + s.changeLead) then s
      else if !targetOk then (s.modRegion t fun x => { x with role := 3 }).endMigration 1
      else
        let us := match s.crust.single with
          | some x => (s.now - x.since) / 1000
          | none => 0
        let s1 := (s.modRegion m.region fun x => { x with role := 3 }).modRegion t fun x => { x with role := if m.checkerRole then 1 else 0 }
        let s2 := if m.checkerRole then s1 else s1.moveRegion m.region t
        let s3 := if (s2.regionOf 1).isSome then s2.leaveSingle else s2
        (s3.modService fun v => { v with migration := some { m with switched := true, singleUs := us } }).launchBeat

/-- R484: every stream of the region has reached a tile boundary: fault 0x1107; a migration that waits begins. -/
def State.finishMigration (s : State) : State :=
  match s.service.migration with
  | none => s
  | some m =>
    if !m.switched ∨ (s.service.moves.any fun v => v.region == m.region) then s
    else ((s.modService fun v => { v with migration := none }).fault 0x1107 (.ofRegion m.region.val) (at_ 32 0 m.singleUs)).nextMigration

/-- R484: whether a migration request is refused: no hot spare is left to take the work, or the redundancy is exhausted. -/
def State.migrationRefused (s : State) : Bool := s.service.exhausted || (s.regionOf 2).isNone

/-! ## The commands -/

/-- R438. -/
def execModulePowerOff (t : Nat) (s : State) : Host.Outcome State Fault Refusal := .next (s.advance t).powerOff

/-- R438. -/
def execMainInputReturn (t : Nat) (decivolts : Nat) (s : State) : Host.Outcome State Fault Refusal := .next ((s.advance t).mainBack decivolts)

/-- R473: the level must be low for 10 µs. -/
def execSysRstNLow (t : Nat) (nanos : Nat) (s : State) : Host.Outcome State Fault Refusal :=
  .next (if 10000 ≤ nanos then (s.advance t).coldReset 2 false else s.advance t)

/-- R473. -/
def execManagerWatchdogExpiry (t : Nat) (core : Fin 2) (s : State) : Host.Outcome State Fault Refusal := .next ((s.advance t).managerFails core)

/-- R474. -/
def execColdBoot (t : Nat) (slotA slotB : Bundle) (image : Option Image) (imageSigOk : Bool) (failing : List (Fin 10 × Fin 18 × Nat × Nat))
    (late : List (Nat × Nat)) (s : State) : Host.Outcome State Fault Refusal :=
  .next ((s.advance t).boot slotA slotB image imageSigOk failing late)

/-- R481. -/
def execFirmwareVerificationComplete (t : Nat) (b : Bundle) (s : State) : Host.Outcome State Fault Refusal := .next ((s.advance t).firmwareVerified b)

/-- R481. -/
def execFirmwareSwitch (t : Nat) (s : State) : Host.Outcome State Fault Refusal := .next (s.advance t).switchFirmware

/-- R480. -/
def execImageVerificationComplete (t : Nat) (image : Image) (sigOk : Bool) (s : State) : Host.Outcome State Fault Refusal :=
  .next ((s.advance t).imageVerified image sigOk)

/-- R484. -/
def execRegionMigrationStart (t : Nat) (s : State) : Host.Outcome State Fault Refusal := .next (s.advance t).startMigration

/-- R484. -/
def execMigrationCopyComplete (t : Nat) (ok : Bool) (s : State) : Host.Outcome State Fault Refusal := .next ((s.advance t).copyDone ok)

/-- R484. -/
def execRegionMigrationSwitch (t : Nat) (targetOk : Bool) (s : State) : Host.Outcome State Fault Refusal := .next ((s.advance t).switchMigration targetOk)

/-- R484. -/
def execRegionMigrationComplete (t : Nat) (s : State) : Host.Outcome State Fault Refusal := .next (s.advance t).finishMigration

/-- R483. -/
def execBlockSwap (t : Nat) (r : Fin 10) (b : Fin 18) (s : State) : Host.Outcome State Fault Refusal := .next ((s.advance t).swapBlock r b)

end Sys2Proof.Machine
end

