-- ==== Sys2Proof/Machine/Sessions.lean ====
section
/-!
DEFINITION. Basaris frames and sessions: header fields, discarding, sending, opening and closing (R126 to R131).
-/

namespace Sys2Proof.Machine

/-! ## The header (R127) -/

/-- The header of a received frame, field by field. -/
def bfMagic (f : BFrame) : Nat := fld f.header 15 0
def bfVersion (f : BFrame) : Nat := fld f.header 23 16
def bfType (f : BFrame) : Nat := fld f.header 31 24
def bfFlags (f : BFrame) : Nat := fld f.header 47 32
def bfLength (f : BFrame) : Nat := fld f.header 63 48
def bfSession (f : BFrame) : Nat := fld f.header 95 64
def bfSequence (f : BFrame) : Nat := fld f.header 127 96
def bfStatus (f : BFrame) : Nat := fld f.header 223 192
def bfReserved (f : BFrame) : Nat := fld f.header 255 224

/-- R127: the tag of a frame under a key: the first 16 bytes of HMAC-SHA-256 over header and payload. -/
def frameTag (key : Bytes) (f : BFrame) : Bytes := tagOf key f.header f.payload

/-- R127: the session key. -/
def sessionKey (provisioning host device : Bytes) : Bytes := hmac provisioning (ascii "BASARIS1" ++ host ++ device)

/-- R126: the longest payload of a path; addresses from 2³² on are IPv6. -/
def State.payloadLimit (s : State) (source : Nat) : Nat :=
  (if s.flag (ob 0x2400 2) then 8924 else 1424) - (if source < 2 ^ 32 then 0 else 20)

/-- R128: the frame types. -/
def frameTypes : List Nat := [0x01, 0x02, 0x03, 0x04, 0x05, 0x06, 0x07, 0x08, 0x09, 0x10, 0x11, 0x12, 0x13]

/-! ## Discarding (R128) -/

/-- R128: a discarded frame is counted; fault 0x0E03 with its reason at most once a second for a source. -/
def State.rejectFrame (s : State) (source reason : Nat) : State :=
  let s1 := s.bump (ob 0x2020 7)
  let due := match get? s.basaris.rejectedAt source with
    | some t => decide (1000000000 + t ≤ s.now)
    | none => true
  if due then
    (s1.modBasaris fun b => { b with rejectedAt := put b.rejectedAt source s.now }).fault 0x0E03 .chip (at_ 32 32 source ||| at_ 8 0 reason)
  else s1

/-! ## Sessions (R127, R131) -/

/-- Whether two records are of one session. -/
def BSession.same (a b : BSession) : Bool := a.num == b.num && a.ours == b.ours && a.peer == b.peer

/-- A session changed by `f`. -/
def State.modSession (s : State) (b : BSession) (f : BSession → BSession) : State :=
  s.modBasaris fun x => { x with sessions := x.sessions.map fun c => if c.same b then f c else c }

/-- The session that a frame names: for responses one that this chip opened to the source, for requests one opened to this chip; else the other kind. -/
def State.findSession (s : State) (f : BFrame) : Option BSession :=
  let n := bfSession f
  let ours := s.basaris.sessions.find? fun b => b.ours && b.num == n && b.peer == f.source
  let theirs := s.basaris.sessions.find? fun b => !b.ours && b.num == n
  if bfType f = 0x06 ∨ bfType f = 0x11 then ours.or theirs else theirs.or ours

/-- A session ends: its assemblies are discarded (R127, R129). -/
def State.endSession (s : State) (b : BSession) : State :=
  let s1 := (s.modBasaris fun x => { x with sessions := x.sessions.filter fun c => !c.same b }).modDict fun d =>
    { d with asm := d.asm.filter fun a => a.ses != .basaris b.num }
  s1.modServer fun v => { v with copies := v.copies.filter fun a => a.ses != .basaris b.num }

/-- Bytes of a response item: the request item header, the code, the data padded to 4 bytes (R129). -/
def RespItem.bytes (i : RespItem) : Bytes :=
  leBytes 2 i.index ++ leBytes 1 i.sub ++ leBytes 1 i.flags ++ leBytes 4 i.offset ++ leBytes 4 i.length ++ leBytes 4 i.code ++ padTo 4 i.data

/-- The response items that a payload of at most `limit` bytes holds, whole and in request order (R126, R129; which items an answer beyond the limit holds is a DESIGN CHOICE, log entry 14). -/
def itemBytes (limit : Nat) (items : List RespItem) : Bytes :=
  items.foldl (fun acc i => if acc.length + i.bytes.length ≤ limit then acc ++ i.bytes else acc) []

/-- A frame with the session's next sequence number (R130). -/
def State.sendFrame (s : State) (b : BSession) (type : Nat) (payload : Bytes) : State :=
  match s.basaris.sessions.find? fun c => c.same b with
  | none => s
  | some c => (s.sendWire (s.wire c.key c.peer c.num type 0 c.txSeq 0 payload)).modSession c fun c => { c with txSeq := (c.txSeq + 1) % 2 ^ 32 }

/-- The answer to the request frame `seq` of a session: with the response flag, and the retransmission flag where it is sent again; within the payload limit of the path (R126, R130). -/
def State.answerOut (s : State) (b : BSession) (seq : Nat) (again : Bool) (a : Answer) : Output :=
  s.wire b.key b.peer b.num a.type (1 + 2 * b2n again) seq a.status (itemBytes (s.payloadLimit b.peer) a.items ++ a.payload)

/-- An answer to a request frame: sent, and kept for its retransmission (R130). -/
def State.answerFrame (s : State) (b : BSession) (seq : Nat) (a : Answer) : State :=
  (s.sendWire (s.answerOut b seq false a)).modSession b fun c =>
    { c with cache := c.cache.map fun e => if e.1 = seq then (seq, some a) else e }

/-- R127: an open request: tagged under the provisioning key, answered with a device nonce and a session number, or with 0x0E00_000C beyond the session limit; unanswered while the key is all zero. -/
def State.openRequest (s : State) (f : BFrame) : State :=
  let key := s.raw (ob 0x2020 4)
  if f.payload.length ≠ 16 ∨ bfLength f ≠ 16 then s.rejectFrame f.source 3
  else if key.all fun b => b == 0 then s
  else if f.tag ≠ frameTag key f then s.rejectFrame f.source 1
  else if s.nat (ob 0x2020 3) ≤ s.basaris.sessions.length then s.sendWire (s.wire key f.source 0 0x02 1 (bfSequence f) 0x0E00000C [])
  else
    let nonce := leBytes 16 (Config.nonce s.service.entropy)
    let b : BSession := { num := s.basaris.nextNum, key := sessionKey key f.payload nonce, peer := f.source, ours := false,
                          lastSeq := none, cache := [], lastAt := s.now, txSeq := 0, emergencies := [] }
    (((s.modService fun v => { v with entropy := v.entropy + 1 }).modBasaris fun x =>
      { x with sessions := x.sessions ++ [b], nextNum := if x.nextNum + 1 < 2 ^ 32 then x.nextNum + 1 else 1 })).sendWire
        (s.wire key f.source b.num 0x02 1 (bfSequence f) 0 nonce)

/-- R131: the leader asks a member for a session. -/
def State.openTo (s : State) (peer : Nat) : State :=
  let nonce := leBytes 16 (Config.nonce s.service.entropy)
  ((s.modService fun v => { v with entropy := v.entropy + 1 }).modBasaris fun x =>
    { x with opening := put x.opening peer nonce }).sendWire (s.wire (s.raw (ob 0x2020 4)) peer 0 0x01 0 0 0 nonce)

/-- R127, R131: the member's answer opens the leader's session, where the limit of open sessions leaves room for one. -/
def State.openResponse (s : State) (f : BFrame) (nonce : Bytes) : State × Option BSession :=
  let key := s.raw (ob 0x2020 4)
  if f.payload.length ≠ 16 ∧ bfStatus f = 0 ∨ bfLength f ≠ f.payload.length then (s.rejectFrame f.source 3, none)
  else if f.tag ≠ frameTag key f then (s.rejectFrame f.source 1, none)
  else
    let s1 := s.modBasaris fun x => { x with opening := del x.opening f.source }
    if bfStatus f ≠ 0 ∨ s.nat (ob 0x2020 3) ≤ s.basaris.sessions.length then (s1, none)
    else
      let b : BSession := { num := bfSession f, key := sessionKey key nonce f.payload, peer := f.source, ours := true,
                            lastSeq := none, cache := [], lastAt := s.now, txSeq := 0, emergencies := [] }
      (s1.modBasaris fun x => { x with sessions := (x.sessions.filter fun c => !c.same b) ++ [b] }, some b)

/-- R127: a session without a frame for its timeout ends. -/
def State.sessionTimeout (s : State) (num : Nat) : State :=
  match s.basaris.sessions.find? fun b => b.num == num && decide (b.lastAt + 1000000000 * s.nat (ob 0x2020 5) ≤ s.now) with
  | some b => s.endSession b
  | none => s

/-- R130: an unacknowledged emergency frame is repeated every 100 ms, at most 8 times. -/
def State.repeatEmergency (s : State) (num seq : Nat) : State :=
  match s.basaris.sessions.find? fun b => b.num == num && b.emergencies.any fun e => e.rcd.seq == seq && decide (e.nextAt ≤ s.now) with
  | none => s
  | some b =>
    match b.emergencies.find? fun e => e.rcd.seq == seq with
    | none => s
    | some e =>
      (s.sendWire (s.wire b.key b.peer num 0x07 2 e.frame 0 e.rcd.bytes)).modSession b fun c =>
        { c with emergencies := if 8 ≤ e.sent + 1 then c.emergencies.filter fun x => x.rcd.seq != seq
                 else c.emergencies.map fun x => if x.rcd.seq = seq then { x with sent := e.sent + 1, nextAt := 100000000 + s.now } else x }

/-- Whether a request that has changed port or enable is not yet answered (R139). -/
def Work.reconfigures (w : Work) : Bool :=
  w.write && w.done.any fun i => i.index == 0x2020 && (i.sub == 1 || i.sub == 2) && (i.code == 0 || i.code == 0x0E00000D)

/-- R139: after the response to the request that changed port or enable, every session closes and the new values take effect. -/
def State.reconfigure (s : State) : State :=
  if !s.basaris.closing || s.server.works.any Work.reconfigures then s
  else
    (s.basaris.sessions.foldl (fun acc b => acc.endSession b) s).modBasaris fun b =>
      { b with closing := false, port := s.nat (ob 0x2020 2), enabled := s.flag (ob 0x2020 1) }

/-! ## The commands -/

/-- R127. -/
def execBasarisSessionTimeout (t : Nat) (num : Nat) (s : State) : Host.Outcome State Fault Refusal := .next ((s.advance t).sessionTimeout num)

/-- R130. -/
def execEmergencyRepeat (t : Nat) (num seq : Nat) (s : State) : Host.Outcome State Fault Refusal := .next ((s.advance t).repeatEmergency num seq)

/-- R139. -/
def execBasarisReconfigure (t : Nat) (s : State) : Host.Outcome State Fault Refusal := .next (s.advance t).reconfigure

end Sys2Proof.Machine
end

