-- ==== Sys2Proof/Machine/Launch.lean ====
section
/-!
DEFINITION. Proposing, acknowledging, confirming and aborting a launch, alone and in a launch group (R93 to R95, R131, R474, R475).
-/

namespace Sys2Proof.Machine

/-! ## Whether a launch may be (R27, R441, R446, R452, R477, R479) -/

/-- R446, R452: the highest-rated variant whose declared power lies within the energy cap and whose stacks are there, by its index. -/
def State.variantFor (s : State) (im : Image) : Option Nat :=
  let cap := s.comingNat (ob 0x2100 0x0A)
  let present := 4 - s.power.stacksOut.length
  let fit := im.variants.zipIdx.filter fun e => decide (e.1.power ≤ cap ∧ e.1.stackCount ≤ present)
  (fit.foldl (fun (best : Option (Variant × Nat)) e =>
    match best with
    | some b => if b.1.rate < e.1.rate then some e else best
    | none => some e) none).map fun e => e.2

/-- R431: whether the transfer bound of a message exceeds a ring timeout: `retries` transport retries, ACK timeout exponent `n`, path MTU, path latency and timeout in µs, and the rate of the port in bits per ns. -/
def transferTooLong (retries n mtu latencyUs timeoutUs rate size : Nat) : Bool :=
  let bitsOnWire := divUp size mtu * (mtu + 82) * 8
  decide (timeoutUs * 1000 * rate < (1 + retries) * (bitsOnWire + (latencyUs * 1000 + 4096 * 2 ^ n) * rate))

/-- R431: whether a message of an image takes longer than its ring's timeout; `get` reads a setting. -/
def messageTooLong (get : Key → Nat) (im : Image) : Bool :=
  let ports := if get (ob 0x2400 1) = 0 then 2 else if get (ob 0x2400 1) = 1 then 4 else 8
  im.messageBound.any fun e =>
    transferTooLong (get (ob 0x2400 3)) (get (ob 0x2400 4)) (get (ob 0x2400 6)) (get (ob (0x2470 + e.1) 5)) (get (ob (0x2470 + e.1) 4)) (800 / ports) e.2

/-- R229: whether a stream's verdict skew bound lies above the selvedge wait limit. -/
def skewTooLong (limitUs : Nat) (im : Image) : Bool := im.streams.any fun x => decide (limitUs < x.skewBoundUs)

/-- Whether a launch of an image is refused with 0x0800_0022: redundancy exhausted (R27), not booted or in recovery (R477), header disagreeing (R479), a skew bound above the wait limit (R229), a message beyond its ring timeout (R431), pace mode without domain 63 (R441), no variant that fits (R446, R452), or a compute die that is not on (R457). -/
def State.launchRefused (s : State) (image : Option Image) : Bool :=
  match image with
  | none => true
  | some im =>
    s.service.exhausted || s.service.bootState != 1 || s.headerMismatch im || s.power.state != .run || s.power.tripped
      || skewTooLong (s.comingNat (ob 0x3600 3)) im || messageTooLong s.comingNat im
      || (s.comingNat (ob 0x3C00 1) == 1 && s.comingNat (ob 0x2110 64) != 2) || (s.variantFor im).isNone

/-! ## What the chips compare (R93) -/

/-- The snapshot hash with the pending values in place (R117). -/
def State.comingSnapshot (s : State) : Bytes := (s.commit.pending.foldl (fun acc e => acc.setObj e.1 e.2) s).snapshotHash

/-- The hash of the running image's header; none loaded gives no bytes. -/
def State.ownImageHash (s : State) : Bytes :=
  match s.launch.image with
  | some im => im.hash
  | none => []

/-- The number of the active PTP domain; 0 where none is active. -/
def State.ownDomain (s : State) : Nat :=
  match s.time.active with
  | some d => s.nat (ptpObj d 3)
  | none => 0

/-- R93: the conditions for a proposed count, hashes, mode and domain. -/
def State.meetsR93 (s : State) (count : Nat) (image snapshot : Bytes) (mode domain : Nat) : Bool :=
  image == s.ownImageHash && snapshot == s.comingSnapshot && mode == s.comingNat (ob 0x3C00 1)
    && s.synchronisedIn domain (s.nat (ob 0x3C00 6)) && count % 1000 == 0 && decide (s.now + 1000000 * s.nat (ob 0x3C00 7) ≤ count)

/-! ## The leader (R93 to R95) -/

/-- Members of the launch group other than this chip. -/
def State.group (s : State) : List Nat :=
  match s.launch.image with
  | some im => im.group
  | none => []

/-- The leader's session to a member. -/
def State.sessionTo (s : State) (peer : Nat) : Option BSession := s.basaris.sessions.find? fun b => b.ours && b.peer == peer

/-- A launch frame to a member, in the session to it; without one nothing is sent. -/
def State.tell (s : State) (type : Nat) (payload : Bytes) (peer : Nat) : State :=
  match s.sessionTo peer with
  | some b => s.sendFrame b type payload
  | none => s

/-- The payload of a launch proposal (R128). -/
def State.proposalBytes (s : State) : Bytes :=
  leBytes 8 s.launch.count ++ s.ownImageHash ++ s.comingSnapshot ++ leBytes 1 (s.comingNat (ob 0x3C00 1)) ++ leBytes 1 s.ownDomain ++ List.replicate 6 0

/-- The launch is confirmed at the leader, which tells its members (R94, R95). -/
def State.confirm (s : State) : State :=
  let s1 := s.modLaunch fun l => { l with state := .confirmed, needAck := [], repeatAt := some s.now }
  s1.launch.needResp.foldl (fun acc p => acc.tell 0x12 (leBytes 8 s.launch.count) p) s1

/-- The leader proposes a launch to its group; alone it is confirmed at once (R93, R474). -/
def State.proposeAt (s : State) (count : Nat) (auto : Bool) : State :=
  let g := s.group
  let s1 := (s.modLaunch fun l =>
    { l with state := .proposed, count := count, leader := true, needAck := g, needResp := g, final := false }).modService fun v => { v with auto := auto }
  if g.isEmpty then s1.confirm
  else g.foldl (fun acc p => if (acc.sessionTo p).isSome then acc.tell 0x10 s1.proposalBytes p else acc.openTo p) s1

/-- R93: a written launch count: the chip checks R93 against itself and proposes, or the launch is aborted. -/
def State.propose (s : State) (count : Nat) : State :=
  if s.meetsR93 count s.ownImageHash s.comingSnapshot (s.comingNat (ob 0x3C00 1)) s.ownDomain && !s.launchRefused s.launch.image
  then s.proposeAt count false else s.dropLaunch

/-- Whether a write of a launch count is refused in the present state: a confirmed launch stands (R94), and a member of a group does not lead it (R475, R479). -/
def State.proposeRefused (s : State) : Bool :=
  s.launch.state == .confirmed || s.launchRefused s.launch.image || (match s.launch.image with
    | some im => !im.group.isEmpty && !im.leader
    | none => true)

/-- R95: an acknowledgement missing 10 ms before the abort deadline aborts the launch for the group. -/
def State.ackTimeout (s : State) : State :=
  let l := s.launch
  if l.state = .proposed ∧ l.leader ∧ !l.needAck.isEmpty ∧ l.count ≤ 11000000 + s.now then
    (s.group.foldl (fun acc p => acc.tell 0x13 (leBytes 8 l.count) p) s).dropLaunch
  else s

/-- R95: the confirmation is repeated every 1 ms to members that have not answered. -/
def State.repeatConfirm (s : State) : State :=
  let l := s.launch
  if l.state = .confirmed ∧ l.leader ∧ 1000000 + s.now < l.count ∧ s.due l.repeatAt 1000000 then
    l.needResp.foldl (fun acc p => acc.tell 0x12 (leBytes 8 l.count) p) (s.modLaunch fun l => { l with repeatAt := some s.now })
  else s

/-- R94: the launch count minus 1 ms: a confirmed launch is final, any other is discarded. -/
def State.abortDeadline (s : State) : State :=
  let l := s.launch
  if 1000000 + s.now < l.count then s
  else match l.state with
    | .confirmed => s.modLaunch fun l => { l with final := true }
    | .proposed => s.dropLaunch
    | .acknowledged => s.dropLaunch
    | _ => s

/-- R131: a launch acknowledge in the session to a member. -/
def State.acknowledged (s : State) (b : BSession) (payload : Bytes) : State :=
  let l := s.launch
  if l.state = .proposed ∧ l.leader ∧ leAt payload 0 8 = l.count ∧ leAt payload 8 4 = 0 then
    let left := l.needAck.filter fun p => p != b.peer
    let s1 := s.modLaunch fun l => { l with needAck := left }
    if left.isEmpty then s1.confirm else s1
  else s

/-- R95: a member's response to the confirmation. -/
def State.confirmAnswered (s : State) (b : BSession) : State :=
  if s.launch.state = .confirmed ∧ s.launch.leader then s.modLaunch fun l => { l with needResp := l.needResp.filter fun p => p != b.peer } else s

/-- R131: a session to a member is open: the proposal that waits for it is sent. -/
def State.sessionOpened (s : State) (b : BSession) : State :=
  if s.launch.state = .proposed ∧ s.launch.leader ∧ s.launch.needAck.contains b.peer then s.tell 0x10 s.proposalBytes b.peer else s

/-! ## The member (R93 to R95, R131) -/

/-- R93, R94, R131: a proposal is acknowledged with 0, or with 0x0800_0022, also while a launch is confirmed. -/
def State.takeProposal (s : State) (b : BSession) (seq : Nat) (p : Bytes) : State :=
  let count := leAt p 0 8
  let ok := s.launch.state != .confirmed && !s.launchRefused s.launch.image && s.meetsR93 count ((p.drop 8).take 32) ((p.drop 40).take 32) (leAt p 72 1) (leAt p 73 1)
  let s1 := if ok then (s.modLaunch fun l =>
      { l with state := .acknowledged, count := count, leader := false, session := b.num, needAck := [], needResp := [], final := false }).modService
        fun v => { v with auto := false }
    else s
  s1.answerFrame b seq ⟨0x11, 0, [], leBytes 8 count ++ leBytes 4 (if ok then 0 else 0x08000022)⟩

/-- R94: the confirmation of the acknowledged launch, before its abort deadline; it is answered with a response. -/
def State.takeConfirm (s : State) (b : BSession) (seq : Nat) (p : Bytes) : State :=
  let l := s.launch
  let s1 := if l.state = .acknowledged ∧ l.session = b.num ∧ leAt p 0 8 = l.count ∧ 1000000 + s.now < l.count ∧ s.launchRefused l.image = false then
      s.modLaunch fun l => { l with state := .confirmed }
    else s
  s1.answerFrame b seq ⟨0x06, 0, [], []⟩

/-- R94, R95: an abort before the abort deadline: 0x3C00:05 reads 5, also in a chip that had refused the proposal; it is answered with a response. -/
def State.takeAbort (s : State) (b : BSession) (seq : Nat) (p : Bytes) : State :=
  let l := s.launch
  let count := leAt p 0 8
  let mine := (l.state == .acknowledged || l.state == .confirmed) && !l.leader
  let s1 := if 1000000 + s.now < count ∧ (if mine then l.session = b.num ∧ l.count = count else l.state ≠ .proposed ∧ l.state ≠ .confirmed) then s.dropLaunch else s
  s1.answerFrame b seq ⟨0x06, 0, [], []⟩

/-! ## Autolaunch (R474, R475) -/

/-- R474, R475: once the condition of R390 holds or its wait has ended, the device proposes to itself the first multiple of 10⁶ that lies at least the launch margin ahead; a step 8 beyond its bound writes fault 0x1103. -/
def State.autolaunch (s : State) : State :=
  let wait := s.nat (ob 0x5800 6)
  let bound := stepBound 7 (decide (s.service.lastReset ≤ 3)) + wait
  let ready := s.synchronisedIn s.ownDomain (2 ^ 63) || decide (s.service.readyAt + wait * 1000000 ≤ s.now)
  if !s.flag (ob 0x5800 5) || !s.group.isEmpty || s.running || s.launching || !s.service.beat0Due || s.service.bootState != 1 || !ready then s
  else
    let ms := (s.now - s.service.bootAt) / 1000000
    let s1 := if bound < ms then s.fault 0x1103 .chip (at_ 8 0 8 ||| at_ 32 16 ms) else s
    if s1.launchRefused s1.launch.image then s1.dropLaunch
    else s1.proposeAt (divUp (s.now + 1000000 * s.nat (ob 0x3C00 7)) 1000000 * 1000000) true

/-! ## The commands -/

/-- R95. -/
def execLaunchConfirmRepeat (t : Nat) (s : State) : Host.Outcome State Fault Refusal := .next (s.advance t).repeatConfirm

/-- R95. -/
def execLaunchAckTimeout (t : Nat) (s : State) : Host.Outcome State Fault Refusal := .next (s.advance t).ackTimeout

/-- R94. -/
def execLaunchAbortDeadline (t : Nat) (s : State) : Host.Outcome State Fault Refusal := .next (s.advance t).abortDeadline

/-- R474. -/
def execAutolaunch (t : Nat) (s : State) : Host.Outcome State Fault Refusal := .next (s.advance t).autolaunch

end Sys2Proof.Machine
end

