-- ==== Sys2Proof/Machine/Perf.lean ====
section
/-!
DEFINITION. Performance counters: zeroing, sets as bytes, dumps (R461 to R472).
Counters of time and of grants, flits and link traffic, whose numbers the manual does not give, read as free values.
-/

namespace Sys2Proof.Machine

/-- Counters of the chip and region sets whose numbers are timing or are not given by any rule. -/
def chipFree (k : Nat) : Bool := [6, 7, 11, 12, 13, 14].contains k
def regionFree (k : Nat) : Bool := [7, 8, 9, 10, 14].contains k

/-- A counter that reads as a free value. -/
def State.freeCounter (s : State) (kind unit k : Nat) : Nat := pattern 64 (Config.free 40 s.service.entropy [kind, unit, k, s.now])

/-- The chip set's counter at offset 8·k. -/
def State.chipCounter (s : State) (c : Vector Nat 16) (k : Fin 16) : Nat := if chipFree k.val then s.freeCounter 0 0 k.val else c.get k

/-- Region r's counter at offset 8·k. -/
def State.regionCounter (s : State) (c : Vector (Vector Nat 16) 10) (r : Fin 10) (k : Fin 16) : Nat :=
  if regionFree k.val then s.freeCounter 1 r.val k.val else (c.get r).get k

/-- The entries of a block's slot ledger, each a free value, and the slots, their sum (R465). -/
def State.ledger (s : State) (i k : Nat) : Nat :=
  if k = 0 then ((List.range 7).map fun j => s.freeCounter 2 i (j + 1) % 2 ^ 56).sum else s.freeCounter 2 i k % 2 ^ 56

/-- A block's busy, idle and proof time, free values that sum to the elapsed time (R466). -/
def State.blockTime (s : State) (elapsed i k : Nat) : Nat :=
  let busy := s.freeCounter 2 i 8 % (elapsed + 1)
  let proof := s.freeCounter 2 i 10 % (elapsed - busy + 1)
  if k = 8 then busy else if k = 10 then proof else elapsed - busy - proof

/-- The block counter at offset 8·k of block number i = 18·r + b, over the elapsed time. -/
def State.blockCounter (s : State) (c : OldCounters) (i k : Nat) : Nat :=
  if k < 8 then s.ledger i k else if k < 11 then s.blockTime (c.at_ - c.since) i k
  else if k = 15 ∨ k = 16 then s.freeCounter 2 i k else (get? c.block (18 * i + k)).getD 0

/-- The sets as bytes: chip, region r, block i, cells of block i (R466, R467, R471). -/
def State.chipSet (s : State) (c : Vector Nat 16) : Bytes := (idxs 16).flatMap fun k => leBytes 8 (s.chipCounter c k)
def State.regionSet (s : State) (c : Vector (Vector Nat 16) 10) (r : Fin 10) : Bytes := (idxs 16).flatMap fun k => leBytes 8 (s.regionCounter c r k)
def State.blockSet (s : State) (c : OldCounters) (i : Nat) : Bytes := (List.range 18).flatMap fun k => leBytes 8 (s.blockCounter c i k)
def cellSet (c : List (Nat × Nat)) (i : Nat) : Bytes := (List.range 130).flatMap fun k => leBytes 8 ((get? c (130 * i + k)).getD 0)

/-- The counters now. -/
def State.counterSets (s : State) : OldCounters :=
  { at_ := s.now, since := s.counters.zeroAt, chip := s.counters.chip, region := s.counters.region, block := s.counters.block, cell := s.counters.cell }

/-- Every counter is zero again (R462); the sets before it are kept for a dump that latches at the same count. -/
def State.zeroCounters (s : State) : State :=
  s.modCounters fun c =>
    { c with old := some s.counterSets, chip := chipCounters, region := Vector.replicate 10 (Vector.replicate 16 0), block := [], cell := [], zeroDue := false, zeroAt := s.now }

/-- R462: zeroing is asked for: at the next release count, or at once when no launch runs. -/
def State.askZero (s : State) : State := if s.running then s.modCounters fun c => { c with zeroDue := true } else s.zeroCounters

/-- Zeroing that is due takes place at a release count. -/
def State.zeroIfDue (s : State) : State := if s.counters.zeroDue then s.zeroCounters else s

/-- The sets that a dump at this count holds: the ones from before a zeroing at the same count (R462). -/
def State.dumpSets (s : State) : OldCounters :=
  match s.counters.old with
  | some o => if o.at_ = s.now then o else s.counterSets
  | none => s.counterSets

/-- The selected sets of a dump as bytes (R471). -/
def State.dumpBody (s : State) (o : OldCounters) (mask : Nat) : Bytes :=
  (if bit mask 0 then s.chipSet o.chip else [])
    ++ (if bit mask 1 then (idxs 10).flatMap (s.regionSet o.region) else [])
    ++ (if bit mask 2 then (List.range 180).flatMap (s.blockSet o) else [])
    ++ (if bit mask 3 then (List.range 180).flatMap (cellSet o.cell) else [])

/-- The dump header (R471). -/
def State.dumpHeader (s : State) (mask length : Nat) : Bytes :=
  let beat := if s.running then s.beat else 2 ^ 64 - 1
  let body := leBytes 16 0 ++ leBytes 8 (s.now - s.counters.lastLatch) ++ leBytes 2 0 ++ leBytes 1 (b2n s.paceMode) ++ leBytes 1 mask
    ++ leBytes 4 length ++ leBytes 4 s.counters.dumpSeq ++ leBytes 8 beat ++ leBytes 8 s.now ++ leBytes 4 0 ++ leBytes 4 s.counters.overwritten
    ++ leBytes 2 0
  body ++ leBytes 2 (crc16 body)

/-- The size of the dump ring. -/
def dumpRing : Nat := 2097152

/-- Oldest dumps are overwritten until the rest fits, and counted (R471). -/
def fitDumps (l : List Dump) : List Dump × Nat :=
  l.foldr (fun d acc => if ((d :: acc.1).map fun x => x.data.length).sum ≤ dumpRing ∧ acc.2 = 0 then (d :: acc.1, 0) else (acc.1, acc.2 + 1)) ([], 0)

/-- R470: whether a dump latches at this count: at the first release count at or after each multiple of the dump period after the launch count, or between launches at a multiple of the period on the weft count. -/
def State.dumpDue (s : State) : Bool :=
  let period := 1000 * s.nat (ob 0x5000 1)
  match s.launch.run with
  | some r => decide (period ≠ 0 ∧ (s.counters.lastLatch - r.start) / period < (s.now - r.start) / period ∧ (s.now - r.start) % r.period = 0)
  | none => decide (period ≠ 0 ∧ s.counters.lastLatch < s.now ∧ s.now % period = 0)

/-- R470, R471: a dump that is due is latched into the ring. -/
def State.latchDump (s : State) : State :=
  if !s.dumpDue then s
  else
    let mask := s.nat (ob 0x5000 2)
    let body := s.dumpBody s.dumpSets mask
    let d : Dump := ⟨s.counters.dumpSeq, s.dumpHeader mask (64 + body.length) ++ body⟩
    let kept := fitDumps (s.counters.dumps ++ [d])
    let s1 := s.modService fun v => { v with entropy := v.entropy + 1 }
    s1.modCounters fun c =>
      { c with dumps := kept.1, overwritten := (c.overwritten + kept.2) % 2 ^ 32, dumpSeq := (c.dumpSeq + 1) % 2 ^ 32, lastLatch := s.now }

/-- Whole dumps in order while they fit into `room` bytes. -/
def wholeDumps (l : List Dump) (room : Nat) : Bytes :=
  match l with
  | [] => []
  | d :: rest => if d.data.length ≤ room then d.data ++ wholeDumps rest (room - d.data.length) else []

/-- 0x5080:01: whole retained dumps from the sequence in 0x5000:07, a retained one or the next, at most 262,144 bytes (R472). -/
def State.dumpWindow (s : State) : Bytes := wholeDumps (s.counters.dumps.filter fun d => atOrAfter d.seq (s.nat (ob 0x5000 7))) 262144

/-- 0x5000:06: the oldest retained dump's sequence, or the next one's. -/
def State.oldestDump (s : State) : Nat :=
  match s.counters.dumps with
  | d :: _ => d.seq
  | [] => s.counters.dumpSeq

/-- R470. -/
def execDumpLatch (t : Nat) (s : State) : Host.Outcome State Fault Refusal := .next (s.advance t).latchDump

end Sys2Proof.Machine
end

