-- ==== Sys2Proof/Machine/Apply.lean ====
section
/-!
DEFINITION. What an object does when its value becomes active, and the switch of a commit's entries (R112, R113, R119, R120).
-/

namespace Sys2Proof.Machine

/-- `f` at unit `i`, where there is one. -/
def State.onUnit (s : State) (n i : Nat) (f : Fin n → State) : State := if h : i < n then f ⟨i, h⟩ else s

/-- Write-only objects that are commands, and objects whose value other state holds: their written value is not kept in the dictionary. -/
def commandKey (key : Key) : Bool :=
  let i := key / 256
  let j := key % 256
  [ob 0x5810 9, ob 0x2010 1, ob 0x3200 5, ob 0x2801 1, ob 0x4810 3, ob 0x2480 1, ob 0x2500 3, ob 0x2100 3, ob 0x2100 0x0E, ob 0x2140 3,
   ob 0x5000 3, ob 0x5800 1, ob 0x5800 8, ob 0x5800 0x0C, ob 0x5820 1, ob 0x5820 2, ob 0x5830 1, ob 0x5830 2, ob 0x5840 1, ob 0x5840 3,
   ob 0x3C00 4].contains key
    || (decide (0x2C10 ≤ i ∧ i ≤ 0x2C1B) && j == 0x0A) || (decide (0x3A10 ≤ i ∧ i ≤ 0x3A17) && j == 0x15)
    || (decide (0x2310 ≤ i ∧ i ≤ 0x2313) && j == 0x0F) || i == 0x2402 || (decide (0x2460 ≤ i ∧ i ≤ 0x246F) && j == 5)

/-- R473: a reset request. -/
def State.requestedReset (s : State) (v : Nat) : State := if v = 1 then s.warmReset 4 else s.coldReset 3 false

/-- Objects of start-up, service, counters and the fault log that act (R43, R462, R473 to R484). -/
def State.actService (s : State) (key : Key) (v : Val) : State :=
  let n := v.num.toNat
  if key = ob 0x5810 9 then s.acknowledgeUpTo n
  else if key = ob 0x5000 3 then s.askZero
  else if key = ob 0x5800 1 then s.requestedReset n
  else if key = ob 0x5800 8 then s.raiseMinimum
  else if key = ob 0x5800 0x0C then s.onUnit 10 n fun r => s.decideMigration r true
  else if key = ob 0x5820 1 then s.modService fun x => { x with fwStaging := v.raw }
  else if key = ob 0x5820 2 then s.firmwareCommand n
  else if key = ob 0x5830 1 then s.modService fun x => { x with imgStaging := v.raw }
  else if key = ob 0x5830 2 then s.imageCommand n
  else if key = ob 0x5840 1 then s.writeKeySlot v.raw
  else if key = ob 0x5840 3 then s.takeKeyRecord v.raw
  else s

/-- Objects of power, network, CAN and time that act (R392, R413, R428 to R435, R442, R450, R453). -/
def State.actBase (s : State) (key : Key) (v : Val) (g : Given) : State :=
  let i := key / 256
  let j := key % 256
  let n := v.num.toNat
  if key = ob 0x2100 0x0E then s.dieReset
  else if i = 0x2110 ∧ 1 ≤ j then s.onUnit 72 (j - 1) s.latchRequest
  else if key = ob 0x2140 3 then (match g.reads with
    | some reads => s.measureAll reads
    | none => s.measureFree)
  else if i = 0x2202 ∧ j = 0x10 then s.judgeClass 0
  else if i = 0x2203 ∧ j = 0x10 then s.judgeClass 1
  else if 0x2310 ≤ i ∧ i ≤ 0x2313 ∧ j = 0x0F then s.onUnit 4 (i - 0x2310) s.recover
  else if i = 0x2402 ∧ 1 ≤ j then s.onUnit 8 (j - 1) s.portUp
  else if 0x2460 ≤ i ∧ i ≤ 0x246F ∧ j = 5 then s.onUnit 16 (i - 0x2460) fun q => s.consumeTo q n
  else if key = ob 0x2480 1 then s.onUnit 256 n s.reestablish
  else if key = ob 0x2500 3 then s.pcieRelease
  else s

/-- Objects of the line's engines, the motion unit, the Crust and the dictionary itself that act (R93, R111, R139, R157, R292, R308, R309, R325, R352, R380). -/
def State.actLine (s : State) (key : Key) (v : Val) (count : Nat) (g : Given) : State :=
  let i := key / 256
  let j := key % 256
  let n := v.num.toNat
  if key = ob 0x1014 0 then s.modDict fun d => { d with cobFollows := false }
  else if key = ob 0x2020 1 ∨ key = ob 0x2020 2 then
    s.modBasaris fun b => { b with closing := b.closing || s.nat (ob 0x2020 2) != b.port || s.flag (ob 0x2020 1) != b.enabled }
  else if key = ob 0x3C00 4 then s.propose n
  else if key = ob 0x3200 5 then s.requestMapOut (BitVec.ofNat 32 n)
  else if key = ob 0x2801 1 then (match g.camera with
    | some (e, a) => s.cameraRegister v.raw e a
    | none =>
      let d := s.drawNat 46 32 []
      let a := d.2.drawNat 46 32 []
      a.2.cameraRegister v.raw d.1 (leBytes 4 a.1))
  else if key = ob 0x2C00 5 then s.renewSafeDrive
  else if 0x2C10 ≤ i ∧ i ≤ 0x2C1B ∧ j = 8 then s.onUnit 12 (i - 0x2C10) fun h => s.commitDrive h count
  else if 0x2C10 ≤ i ∧ i ≤ 0x2C1B ∧ j = 0x0A then s.onUnit 12 (i - 0x2C10) fun h => s.modHead h fun x => { x with capture := true }
  else if 0x3A10 ≤ i ∧ i ≤ 0x3A17 ∧ j = 0x15 then s.onUnit 8 (i - 0x3A10) s.requestFlush
  else if i = 0x4060 ∧ 1 ≤ j then s.onUnit 16 (j - 1) fun k => s.supplyCommand k n
  else if key = ob 0x4810 3 then s.setCommand n
  else s

/-- What an object does when its value becomes active at a count. -/
def State.act (s : State) (key : Key) (v : Val) (count : Nat) (g : Given) : State :=
  if 0x5000 * 256 ≤ key then s.actService key v
  else if 0x2100 * 256 ≤ key ∧ key < 0x2800 * 256 then s.actBase key v g
  else s.actLine key v count g

/-- Whether a key is an object of an RDMA window (R436). -/
def windowKey (key : Key) : Bool := decide (0x2410 ≤ key / 256 ∧ key / 256 ≤ 0x244F)

/-- Windows keep their values before the switch, for requests in flight across it (R426). -/
def State.keepWindows (s : State) (keys : List Key) : State :=
  let ws := keys.filter windowKey
  if ws.isEmpty then s else s.modNet fun n => { n with oldWindows := ws.map fun k => (k, s.obj k), moved := [] }

/-- The values of entries become active; none of them acts. -/
def State.setEntries (s : State) (es : List (Key × Val)) : State :=
  es.foldl (fun acc e => if commandKey e.1 then acc else acc.setObj e.1 e.2) s

/-- R119, R120: all entries become active at once at a count, and those that act do so; streams take new tags (R290). -/
def State.applyEntries (s : State) (es : List (Key × Val)) (count : Nat) (g : Given := {}) : State :=
  let keys := es.map fun e => e.1
  es.foldl (fun acc e => acc.act e.1 e.2 count g) (((s.keepWindows keys).setEntries es).tagStreams keys count)

/-! ## Restart values at a launch (R117) -/

/-- A PTP domain that a launch enables listens; one that it disables is lost (R391, R402). -/
def State.setupDomain (s : State) (d : Fin 2) : State :=
  let x := s.time.domains[d]
  if s.domainOn d then (if x.state = 0 then s.modDomain d fun _ => { Domain.reset with state := 1 } else s)
  else if x.state = 0 then s
  else (s.loseDomain d 2).modDomain d fun _ => Domain.reset

/-- R117: the pending restart values become active at beat 0: domains of the power manager, PTP domains and TTCAN follow theirs. -/
def State.applyPending (s : State) : State :=
  let es := s.commit.pending
  let keys := es.map fun e => e.1
  let s1 := (s.setEntries es).modCommit fun c => { c with pending := [] }
  let s2 := keys.foldl (fun acc k => if k / 256 = 0x2110 ∧ 1 ≤ k % 256 then acc.onUnit 72 (k % 256 - 1) acc.latchRequest else acc) s1
  let s3 := (idxs 2).foldl (fun acc d => acc.setupDomain d) s2
  (idxs 2).foldl (fun acc c => if keys.any fun k => k / 256 == 0x2320 + c.val then acc.ttSetup c else acc) s3

end Sys2Proof.Machine
end

