-- ==== Sys2Proof/Machine/Checks.lean ====
section
/-!
DEFINITION. What a written value is held against: ranges that depend on other values (R20), the consistency checks of the chapters (R118) and the engines that drained objects concern (R112, R120).
Each takes the state `c` as it would be with the new values active.
-/

namespace Sys2Proof.Machine

/-- The object that a failed check names. -/
def fails (b : Bool) (key : Key) : List Key := if b then [key] else []

/-- Whether a commit holds an object whose index lies between two indices. -/
def touches (keys : List Key) (lo hi : Nat) : Bool := keys.any fun k => decide (lo ≤ k / 256 ∧ k / 256 ≤ hi)

/-! ## Trigger channels (R399, R400) -/

/-- The spacing of a channel's edges in 2⁻¹⁶ ns, 0 where it has none: its period, its source's minimum trigger period, or its divider times its source's spacing. -/
def State.ownSpacing (c : State) (ch : Nat) : Nat :=
  match c.channelValue ch 1 with
  | 1 => c.nat (ob (0x2210 + ch) 3)
  | 2 => 65536 * c.nat (ob 0x4071 (c.channelValue ch 4 + 1))
  | _ => 0

/-- The spacing of any channel; a linked channel's source is not linked (R400). -/
def State.spacing (c : State) (ch : Nat) : Nat :=
  if c.channelValue ch 1 = 3 then c.channelValue ch 5 * c.ownSpacing (c.channelValue ch 4) else c.ownSpacing ch

/-! ## Ranges that depend on other values (R20) -/

/-- Camera and ISP objects (R267, R271, R274, R298). -/
def State.cameraRange (c : State) (n sub : Nat) : Bool :=
  let v := c.nat (camObj n sub)
  let source := c.nat (camObj n 1)
  let area := c.nat (camObj n 4) == 1
  match sub with
  | 0x02 => source != 2 || decide (v ≤ 7)
  | 0x03 => if source = 2 then decide (v ≤ 3) else if source = 1 then decide (1 ≤ v) else true
  | 0x05 => decide (16 ≤ v) && (if area then decide (v ≤ 8192) else decide (v ≤ 32768 ∧ v % 16 = 0))
  | 0x06 => if area then decide (1 ≤ v) else v == 0
  | 0x08 => !area || v == 1
  | 0x0C => (source != 2 || v != 0) && (source != 1 || v != 2)
  | 0x0F =>
    let sp := c.spacing (c.nat (camObj n 0x0B))
    sp == 0 || decide ((v + 200) * 65536 ≤ sp)
  | _ => true

/-- ISP objects of line-scan streams: no grid shading, no mosaic (R280, R298). -/
def State.ispRange (c : State) (n sub : Nat) : Bool :=
  let v := c.nat (ispObj n sub)
  match sub with
  | 0x04 => v != 2 || c.nat (camObj n 4) == 1
  | 0x06 => v == 0 || c.nat (camObj n 4) == 1
  | _ => true

/-- Head objects: a stream of the mask, and the limits in the head's identity where one has been read (R301, R310). -/
def State.headRange (c : State) (h : Fin 12) (sub : Nat) : Bool :=
  let v := c.nat (headObj h.val sub)
  let known := !c.heads[h].safe && !c.heads[h].identity.isEmpty
  match sub with
  | 4 => bit (c.nat (headObj h.val 2)) v
  | 6 => !known || decide (v ≤ c.heads[h].maxWidth)
  | 8 => !known || decide (v ≤ c.heads[h].maxDrive)
  | _ => true

/-- Whether the working region `r` is named (R246, R311). -/
def State.worksIn (c : State) (r : Nat) : Bool := (idxs 10).any fun q => q.val == r && c.regions[q].role == 0

/-- Intake objects: a working region, and rings within ranges of the queue's class (R326). -/
def State.intakeRange (c : State) (q sub : Nat) : Bool :=
  let key := ob (0x3A10 + q) sub
  let v := c.nat key
  let cls := c.nat (ob (0x3A10 + q) 2)
  match sub with
  | 0x04 => c.worksIn v
  | 0x05 => c.permits cls ⟨0, 0, 0, v⟩ (32 * c.nat (ob (0x3A10 + q) 6)) false
  | 0x12 => c.permits cls ⟨0, 0, 0, v⟩ 1 true
  | _ => true

/-- Motion objects: carrier phase, SSI frame bits, ADC selections, input words (R339 to R341, R353). -/
def State.motionRange (c : State) (key : Key) : Bool :=
  let i := key / 256
  let j := key % 256
  let v := c.nat key
  if 0x4010 ≤ i ∧ i ≤ 0x401F then
    match j with
    | 5 => decide (v + 2 ≤ c.nat (ob i 4))
    | 0x0C => !bit v 6 && decide (8 ≤ v % 64 ∧ v % 64 ≤ 40)
    | 0x0E => [v % 256, v / 256].all fun a => decide (a ≤ 31) || a == 0xFF
    | _ => true
  else if i = 0x4040 ∧ 1 ≤ j ∧ j ≤ 0x20 then decide (v % 4 ≤ 2 ∧ bits v 7 2 = 0 ∧ bits v 15 8 ≤ 63)
  else if i = 0x4050 ∧ 1 ≤ j then decide (bits v 47 36 ≠ 0 ∧ bits v 35 24 ≠ 0) && (!bit v 1 || decide (j ≤ 8))
  else true

/-- Network objects: host queues, rings (R424, R428, R432, R436). -/
def State.netRange (c : State) (key : Key) : Bool :=
  let i := key / 256
  let v := c.nat key
  if 0x2460 ≤ i ∧ i ≤ 0x246F then
    match key % 256 with
    | 2 => c.winRight false v 0
    | 5 => decide (v < c.nat (ob i 3))
    | _ => true
  else if 0x2470 ≤ i ∧ i ≤ 0x2473 then
    match key % 256 with
    | 2 => decide (v < (c.raw (ob i 6)).length / 24)
    | 3 => decide (v < c.portCount)
    | _ => true
  else true

/-- R20: whether the value that an object would have lies in the part of its range that depends on other values. -/
def State.rangeOk (c : State) (key : Key) : Bool :=
  let i := key / 256
  let j := key % 256
  let v := c.nat key
  if 0x2810 ≤ i ∧ i ≤ 0x2827 then c.cameraRange (i - 0x2810) j
  else if 0x2A10 ≤ i ∧ i ≤ 0x2A27 then c.ispRange (i - 0x2A10) j
  else if h : 0x2C10 ≤ key / 256 ∧ key / 256 < 0x2C10 + 12 then c.headRange ⟨key / 256 - 0x2C10, Nat.sub_lt_left_of_lt_add h.1 h.2⟩ j
  else if 0x3810 ≤ i ∧ i ≤ 0x3813 ∧ j = 3 then c.worksIn v
  else if 0x3A10 ≤ i ∧ i ≤ 0x3A17 then c.intakeRange (i - 0x3A10) j
  else if 0x4010 ≤ i ∧ i ≤ 0x4050 then c.motionRange key
  else if 0x2210 ≤ i ∧ i ≤ 0x224F then
    (j != 4 || c.nat (ob i 1) != 2 || decide (v ≤ 23)) && (j != 6 || decide (v < c.nat (ob i 5)))
  else if 0x2320 ≤ i ∧ i ≤ 0x2321 ∧ j = 6 then decide (v < c.nat (ob i 4) * c.nat (ob i 3))
  else if 0x2110 = i ∧ 1 ≤ j then domainAllows (j - 1) v
  else if key = ob 0x3200 5 then locValid (BitVec.ofNat 32 v)
  else if (i = 0x2202 ∨ i = 0x2203) ∧ j = 4 then v == 0 || c.nat (ob i 2) != 2
  else if key = ob 0x3C00 0x0C then c.launch.image.all fun im => decide (v ≤ im.slotTables)
  else c.netRange key

/-! ## Consistency checks (R118) -/

/-- R64: a gate longer than the interval less 1 µs. -/
def State.checkWeave (c : State) (keys : List Key) : List Key :=
  fails (touches keys 0x3010 0x3010 && decide (1000 * c.nat (ob 0x3010 5) < c.nat (ob 0x3010 4) + 1000)) (ob 0x3010 4)

/-- The running image's table that a replacement names (R202). -/
def State.imageTable (c : State) (tag : Nat) : Option RescaleTable :=
  c.launch.image.bind fun im => im.tables.find? fun t => t.tag == tag

/-- R202: a replacement that breaks the layout, matches no table, or differs from it in channels, out_format or in_kind. -/
def State.checkTables (c : State) (keys : List Key) : List Key :=
  (keys.filter fun k => k / 256 == 0x3410 && k % 256 != 0).flatMap fun k =>
    let b := c.raw k
    let t := parseTable b
    let bad := match c.imageTable t.tag with
      | none => true
      | some u => u.entries.length != t.entries.length || u.outFormat != t.outFormat || u.inKind != t.inKind
    fails (!b.isEmpty && (!tableBytesOk b || bad)) k

/-- R229: a wait limit below the running image's skew bound. -/
def State.checkSkew (c : State) (keys : List Key) : List Key :=
  fails (keys.contains (ob 0x3600 3) && (c.launch.image.elim false (skewTooLong (c.nat (ob 0x3600 3))))) (ob 0x3600 3)

/-- Bytes of a page: 256 tokens of rank r (R246). -/
def State.poolPage (c : State) (p : Nat) : Nat :=
  256 * c.nat (ob (0x3810 + p) 5) * (if c.nat (ob (0x3810 + p) 6) = 2 then 2 else 1)

/-- R246: enabled pools beyond 64 GiB or 262,144 page table entries together, a page outside 16 KiB to 512 KiB, or an owner region that is not working. -/
def State.checkPools (c : State) (keys : List Key) : List Key :=
  if !touches keys 0x3810 0x3813 then []
  else
    let on := (List.range 4).filter fun p => c.flag (ob (0x3810 + p) 1)
    let mib := (on.map fun p => c.nat (ob (0x3810 + p) 4)).sum
    let entries := (on.map fun p => 2 * (2 ^ 20 * c.nat (ob (0x3810 + p) 4) / c.poolPage p)).sum
    let last := on.getLastD 0
    (on.flatMap fun p => fails (!c.worksIn (c.nat (ob (0x3810 + p) 3))) (ob (0x3810 + p) 3)
      ++ fails (decide (c.poolPage p < 16384 ∨ 524288 < c.poolPage p)) (ob (0x3810 + p) 5))
      ++ fails (decide (65536 < mib)) (ob (0x3810 + last) 4) ++ fails (decide (262144 < entries)) (ob (0x3810 + last) 5)

/-- The connections or the virtual channel that a stream takes: CoaXPress connections below 100, virtual channel v of port p as 100 + 4·p + v (R266). -/
def State.feeds (c : State) (n : Nat) : List Nat :=
  let first := c.nat (camObj n 2)
  let count := c.nat (camObj n 3)
  if c.nat (camObj n 1) = 1 then (List.range count).map fun k => first + k else [100 + 4 * first + count]

/-- Streams that the settings enable. -/
def State.streamsOn (c : State) : List (Fin 24) := (idxs 24).filter fun n => c.nat (camObj n.val 1) != 0

/-- Mb/s of a connection or lane: as discovered, else the fastest that R271 or R274 allows. -/
def State.linkOf (c : State) (n : Fin 24) : Nat :=
  if c.streams[n].linkRate ≠ 0 then c.streams[n].linkRate else if c.nat (camObj n.val 1) = 1 then 12500 else 4500

/-- R270: rate limits of one stream's source; the virtual channels of a port share its lanes. -/
def State.rateTooHigh (c : State) (n : Fin 24) : Bool :=
  let load (k : Nat) : Nat := c.nat (camObj k 0x0A) * c.nat (camObj k 7) * c.nat (camObj k 8)
  if c.nat (camObj n.val 1) = 1 then decide (768 * c.nat (camObj n.val 3) * c.linkOf n < load n.val * 1000)
  else
    let port := c.nat (camObj n.val 2)
    let mine := c.streamsOn.filter fun k => c.nat (camObj k.val 1) == 2 && c.nat (camObj k.val 2) == port
    decide (4 * 900 * c.linkOf n < (mine.map fun k => load k.val).sum * 1000)

/-- R293: the bytes of a statistics ring lie in a class I range of its region. -/
def State.ringOutside (c : State) (n : Nat) : Bool :=
  let v := c.nat (ispObj n 0x0F)
  let mode := c.nat (ispObj n 0x0C)
  let slot := 128 + if bit mode 1 then 1024 * c.nat (ispObj n 9) else 0
  bit mode 0 && !c.permits 2 (rmemAt (bits v 63 56) (bits v 31 0)) (slot * c.nat (ispObj n 0x10)) true

/-- One enabled stream: bounds of its kind and source, no source shared, one aligned group of connections, rates, trigger periods (R266, R267, R270, R271, R273). -/
def State.checkStream (c : State) (n : Fin 24) : List Key :=
  let k := n.val
  let first := c.nat (camObj k 2)
  let count := c.nat (camObj k 3)
  let sp := c.spacing (c.nat (camObj k 0x0B))
  let least := if c.nat (camObj k 0x0E) = 1 then 2400 else 1200
  ([2, 3, 5, 6, 8, 0x0C, 0x0F].flatMap fun j => fails (!c.cameraRange k j) (camObj k j))
    ++ ([4, 6].flatMap fun j => fails (!c.ispRange k j) (ispObj k j))
    ++ fails (c.nat (camObj k 1) == 1 && first / 4 != (first + count - 1) / 4) (camObj k 3)
    ++ fails (c.streamsOn.any fun m => decide (m < n) && (c.feeds m.val).any fun f => (c.feeds k).contains f) (camObj k 2)
    ++ fails (c.rateTooHigh n) (camObj k 0x0A)
    ++ fails (c.nat (camObj k 1) == 1 && c.nat (camObj k 0x0C) == 0 && decide (0 < sp ∧ sp < least * 65536)) (camObj k 0x0B)
    ++ fails (c.ringOutside k) (ispObj k 0x0F)

/-- Camera streams and the ISP: each enabled stream, the aggregate of 48,000 Mpixel/s, and finite colour coefficients (R270, R282, R298). -/
def State.checkCameras (c : State) (keys : List Key) : List Key :=
  if !(touches keys 0x2810 0x2827 || touches keys 0x2A10 0x2A27 || touches keys 0x2210 0x224F || touches keys 0x4071 0x4071) then []
  else
    let total := (c.streamsOn.map fun n => c.nat (camObj n.val 0x0A)).sum
    ((keys.filter fun k => 0x2A10 ≤ k / 256 && k / 256 ≤ 0x2A27 && k % 256 == 8).flatMap fun k =>
        fails ((List.range 20).any fun w => !finite32 (leAt (c.raw k) (4 * w) 4)) k)
      ++ (c.streamsOn.flatMap fun n => c.checkStream n)
      ++ fails (decide (48000 < total)) (camObj (c.streamsOn.getLastD 0).val 0x0A)

/-- R301: enabled heads: pulse width and duty within the head's identity, camera latencies of linked streams at least 200 µs. -/
def State.checkHeads (c : State) (keys : List Key) : List Key :=
  if !(touches keys 0x2C10 0x2C1B || touches keys 0x2810 0x2827 || touches keys 0x2210 0x224F) then []
  else (idxs 12).flatMap fun h =>
    if !c.headOn h.val then []
    else
      let x := c.heads[h]
      let width := c.nat (headObj h.val 6)
      let ref := c.nat (headObj h.val 4)
      let period := c.spacing (c.nat (camObj ref 0x0B)) * c.nat (camObj ref 9)
      let known := !x.safe && !x.identity.isEmpty
      fails (known && decide (x.maxWidth < width)) (headObj h.val 6)
        ++ fails (known && decide (0 < period ∧ x.maxDuty * period < width * 65536 * 1000)) (headObj h.val 6)
        ++ ((List.range 24).flatMap fun n =>
          fails (bit (c.nat (headObj h.val 2)) n && decide (c.nat (camObj n 0x11) < 200000)) (camObj n 0x11))

/-- Whether a queue's source may deliver 16-bit samples: the manual does not say which sources may, a free value (R322). -/
def sixteenBit (source : Nat) : Bool := decide (Config.free 60 0 [source] % 2 = 1)

/-- R322: INT8 for a source that may deliver 16-bit samples; a filler that is not finite. -/
def State.checkIntake (c : State) (keys : List Key) : List Key :=
  if !touches keys 0x3A10 0x3A17 then []
  else (List.range 8).flatMap fun q =>
    if !c.flag (ob (0x3A10 + q) 1) then []
    else fails (c.nat (ob (0x3A10 + q) 0x0B) == 0x0B && sixteenBit (c.nat (ob (0x3A10 + q) 3))) (ob (0x3A10 + q) 0x0B)
      ++ fails (!finite32 (c.nat (ob (0x3A10 + q) 0x0D))) (ob (0x3A10 + q) 0x0D)

/-- R328, R339: axes bound to one fast channel, enabled unbound axes below 10 µs, an SSI advance shorter than the frame time plus 1 µs. -/
def State.checkAxes (c : State) (keys : List Key) : List Key :=
  if !(touches keys 0x4010 0x401F || keys.contains (ob 0x3C00 3)) then []
  else (List.range 16).flatMap fun k =>
    let fast := c.nat (axisObj k 3)
    let on := c.flag (axisObj k 1)
    let frame := c.nat (axisObj k 0x0C) % 64 * c.nat (axisObj k 0x0B) * 2
    fails (fast != 0xFF && (List.range k).any fun m => c.nat (axisObj m 3) == fast) (axisObj k 3)
      ++ fails (on && fast == 0xFF && decide (c.nat (axisObj k 2) * c.nat (ob 0x3C00 3) < 10000)) (axisObj k 2)
      ++ fails (on && c.nat (axisObj k 0x0A) == 2 && decide (c.nat (axisObj k 0x0D) < frame + 1000)) (axisObj k 0x0D)

/-- R340, R347: an ADC advance below 500 ns; a minimum trigger period below the limits of the streams that its channels trigger. -/
def State.checkTriggers (c : State) (keys : List Key) : List Key :=
  fails (keys.contains (ob 0x4040 0x21) && decide (c.nat (ob 0x4040 0x21) < 500)) (ob 0x4040 0x21)
    ++ if !(touches keys 0x4071 0x4071 || touches keys 0x2210 0x224F || touches keys 0x2810 0x2827) then []
      else c.streamsOn.flatMap fun n =>
        let ch := c.nat (camObj n.val 0x0B)
        let least := if c.nat (camObj n.val 0x0E) = 1 then 2400 else 1200
        let key := ob 0x4071 (c.channelValue ch 4 + 1)
        fails (c.channelValue ch 1 == 2 && c.nat (camObj n.val 1) == 1 && c.nat (camObj n.val 0x0C) == 0 && decide (c.nat key < least)) key

/-- R400: channels whose width is not below their spacing, that link to a linked channel, or link to a follow channel with an offset below 100 ns. -/
def State.checkChannels (c : State) (keys : List Key) : List Key :=
  if !(touches keys 0x2210 0x224F || touches keys 0x4071 0x4071) then []
  else (List.range 48 ++ [60, 61, 62, 63]).flatMap fun ch =>
    let mode := c.channelValue ch 1
    let src := c.channelValue ch 4
    let sp := c.spacing ch
    fails (mode == 3 && c.channelValue src 1 == 3) (ob (0x2210 + ch) 4)
      ++ fails (mode == 3 && c.channelValue src 1 == 2 && decide (c.int (ob (0x2210 + ch) 7) < 100)) (ob (0x2210 + ch) 7)
      ++ fails (mode != 0 && decide (0 < sp ∧ sp ≤ c.channelValue ch 8 * 65536)) (ob (0x2210 + ch) 8)

/-- R408, R410: bit rates, jump widths, transmitter delay compensation and triple sampling of one controller. -/
def State.checkBits (c : State) (ctl : Nat) : List Key :=
  let g (j : Nat) : Nat := c.nat (canObj ctl j)
  let nominal := g 2 * (1 + g 3 + g 4)
  let fast := g 6 * (1 + g 7 + g 8)
  fails (decide (nominal < 80)) (canObj ctl 2) ++ fails (decide (fast < 10)) (canObj ctl 6)
    ++ fails (g 0x0C == 1 && decide (nominal < fast)) (canObj ctl 6) ++ fails (decide (g 4 < g 5)) (canObj ctl 5)
    ++ fails (decide (g 8 < g 9)) (canObj ctl 9) ++ fails (decide (fast < 80) && !bit (g 0x0A) 7) (canObj ctl 0x0A)
    ++ fails (g 0x0B != 0 && decide (nominal < 320 ∨ g 3 < 4)) (canObj ctl 0x0B)

/-! ## The TTCAN matrix (R416) -/

/-- The worst-case length in NTU of the frame of a buffer at the configured rates: the manual gives no formula, a free value (R416). -/
def frameNtu (ctl buffer ntu : Nat) : Nat := (Config.free 61 0 [ctl, buffer, ntu]).toNat

/-- Whether an entry acts in a basic cycle (R415). -/
def actsIn (e : BitVec 64) (cycle : Nat) : Bool := cycle % 2 ^ entRepeat e == entOffset e

/-- Entries that open a window. -/
def opens (e : BitVec 64) : Bool := decide (1 ≤ entType e ∧ entType e ≤ 3)

/-- The end of an entry's window in a basic cycle: the next time mark, or the cycle's length. -/
def windowEnd (m : List (BitVec 64)) (cycle length : Nat) (e : BitVec 64) : Nat :=
  ((m.filter fun f => actsIn f cycle && decide (entMark e < entMark f)).map entMark).foldl min length

/-- The largest distance between window starts of a buffer over the matrix, in NTU; none where it has no window. -/
def windowGap (m : List (BitVec 64)) (cycles length buffer : Nat) : Option Nat :=
  let starts := (List.range cycles).flatMap fun k =>
    (m.filter fun e => actsIn e k && opens e && entBuffer e == buffer).map fun e => k * length + entMark e
  match starts with
  | [] => none
  | a :: _ => some (((starts.zip (starts.drop 1 ++ [a + cycles * length])).map fun p => p.2 - p.1).foldl max 0)

/-- R416: entries out of order, an exclusive window too short, windows that overlap, a potential master without a reference entry, an SRDO without a window in each SCT. -/
def State.matrixFails (c : State) (ctl : Fin 2) : Bool :=
  let m := matrixOf (c.raw (ob (0x2330 + ctl.val) 1))
  let ntu := c.nat (ttObj ctl.val 3)
  let length := c.nat (ttObj ctl.val 4)
  let cycles := c.matrixCycles ctl
  let marks := m.map entMark
  let acting (k : Nat) : List (BitVec 64) := m.filter fun e => actsIn e k
  (marks.zip (marks.drop 1)).any (fun p => decide (p.2 < p.1))
    || (List.range cycles).any (fun k => (acting k).any fun e =>
      entType e == 1 && decide (windowEnd m k length e < entMark e + c.nat (ttObj ctl.val 5) + frameNtu ctl.val (entBuffer e) ntu))
    || (List.range cycles).any (fun k =>
      let w := ((acting k).filter opens).map entMark
      (w.zip (w.drop 1)).any fun p => p.1 == p.2)
    || (c.nat (ttObj ctl.val 2) == 1 && !m.isEmpty && !m.any fun e => entType e == 8)
    || (List.range 8).any fun n =>
      c.srdoDirection n == 1 && srdoPlace n / 4 == ctl.val
        && (match windowGap m cycles length (28 + srdoPlace n % 4) with
          | none => true
          | some g => decide (1000000 * c.nat (ob (0x1301 + n) 2) < g * ntu))

/-- CAN timing and the matrices of running TTCAN controllers (R408, R410, R416). -/
def State.checkCan (c : State) (keys : List Key) : List Key :=
  ((List.range 4).flatMap fun ctl => if touches keys (0x2310 + ctl) (0x2310 + ctl) then c.checkBits ctl else [])
    ++ (idxs 2).flatMap fun ctl =>
      if touches keys (0x2320 + ctl.val) (0x2320 + ctl.val) || touches keys (0x2330 + ctl.val) (0x2330 + ctl.val) then
        fails (c.nat (ttObj ctl.val 1) != 0 && c.matrixFails ctl) (ob (0x2330 + ctl.val) 1)
      else []

/-! ## Network and power (R421, R424, R431, R441, R471) -/

/-- R421: an enabled PTP domain's port mask beyond the configured ports. -/
def State.checkPorts (c : State) (keys : List Key) : List Key :=
  if !(touches keys 0x2202 0x2203 || touches keys 0x2400 0x2400) then []
  else (idxs 2).flatMap fun d => fails (decide (2 ^ c.portCount ≤ c.nat (ptpObj d 5))) (ptpObj d 5)

/-- Whether one range lies wholly inside another of the same memory. -/
def insideRange (p : MemRef) (n : Nat) (e : MemRef × Nat) : Bool :=
  e.1.space == p.space && (p.space == 0 || e.1.region == p.region) && (p.space != 2 || e.1.block == p.block)
    && decide (e.1.addr ≤ p.addr ∧ p.addr + n ≤ e.1.addr + e.2)

/-- R161, R162, R424: an enabled window with key 0 or a shared key, outside the image's window ranges, over the cache segment, or outside its class's ranges. -/
def State.checkWindow (c : State) (w : Nat) : List Key :=
  let g (j : Nat) : Nat := c.nat (winObj w j)
  let p := c.winPlace false w 0
  if g 1 = 0 then []
  else
    fails (g 7 == 0 || (List.range w).any fun v => c.flag (winObj v 1) && c.nat (winObj v 7) == g 7) (winObj w 7)
      ++ fails (!p.inside (g 5) || !(c.launch.image.elim false fun im => im.windowRanges.any fun e => insideRange p (g 5) e)) (winObj w 4)
      ++ fails (c.flag (ob 0x3200 1) && p.space == 2 && decide (0x300000 < p.addr + g 5)) (winObj w 4)
      ++ fails (!c.permits (g 8) p (g 5) false) (winObj w 8)

/-- The windows that a commit touches, and all of them where the cache segment begins to work. -/
def State.checkWindows (c : State) (keys : List Key) : List Key :=
  (List.range 64).flatMap fun w =>
    if touches keys (0x2410 + w) (0x2410 + w) || keys.contains (ob 0x3200 1) then c.checkWindow w else []

/-- R431: retries or timeouts beyond a message's ring timeout. -/
def State.checkRings (c : State) (keys : List Key) : List Key :=
  match keys.find? fun k => k == ob 0x2400 3 || k == ob 0x2400 4 with
  | none => []
  | some k => fails (c.launch.image.elim false (messageTooLong fun x => c.nat x)) k

/-- The domains that a port needs (R421, R441). -/
def State.laneDomains (c : State) (port : Nat) : List Nat := [c.laneDomain port, 71]

/-- The free domains that enabled streams, ports, rings and windows need (R441): a port counts as enabled while an enabled PTP domain names it. -/
def State.neededDomains (c : State) : List Nat :=
  let streams := c.streamsOn.flatMap fun n =>
    if c.nat (camObj n.val 1) = 1 then (c.feeds n.val).map fun f => 40 + f / 4 else [48 + c.nat (camObj n.val 2) / 4]
  let ports := (idxs 2).flatMap fun d =>
    if c.domainOn d then ((List.range c.portCount).filter fun p => bit (c.nat (ptpObj d 5)) p).flatMap c.laneDomains else []
  let rings := (List.range 4).flatMap fun k => if c.flag (ob (0x2470 + k) 1) then c.laneDomains (c.nat (ob (0x2470 + k) 3)) else []
  let windows := (List.range 64).flatMap fun w =>
    if c.flag (winObj w 1) then (if c.winRight false w 3 then [52] else []) ++ (if c.nat (winObj w 6) % 8 ≠ 0 then [71] else []) else []
  streams ++ ports ++ rings ++ windows

/-- R25, R441: a request that turns off a needed free domain, takes logic or SRAM from a working or checker region, or leaves pace mode without domain 63. -/
def State.checkDomains (c : State) (keys : List Key) : List Key :=
  let asked (d : Nat) : Nat := c.nat (ob 0x2110 (d + 1))
  if !touches keys 0x2110 0x2110 then fails (keys.contains (ob 0x3C00 1) && c.nat (ob 0x3C00 1) == 1 && asked 63 != 2) (ob 0x2110 64)
  else
    fails (c.nat (ob 0x3C00 1) == 1 && asked 63 != 2) (ob 0x2110 64)
      ++ ((idxs 10).flatMap fun r =>
        if c.regions[r].role ≤ 1 then fails (asked r.val != 2) (ob 0x2110 (r.val + 1)) ++ fails (asked (10 + r.val) != 2) (ob 0x2110 (r.val + 11))
        else [])
      ++ c.neededDomains.flatMap fun d => fails (keys.contains (ob 0x2110 (d + 1)) && asked d == 0) (ob 0x2110 (d + 1))

/-- R471: a dump period below 10,000 µs with cell sets selected. -/
def State.checkDumps (c : State) (keys : List Key) : List Key :=
  let p := c.nat (ob 0x5000 1)
  fails (touches keys 0x5000 0x5000 && p != 0 && decide (p < 1000 ∨ bit (c.nat (ob 0x5000 2)) 3 = true ∧ p < 10000)) (ob 0x5000 1)

/-- R118: the objects that fail a consistency check, in the order of the chapters. -/
def State.failing (c : State) (keys : List Key) : List Key :=
  c.checkWeave keys ++ c.checkTables keys ++ c.checkSkew keys ++ c.checkPools keys ++ c.checkCameras keys ++ c.checkHeads keys
    ++ c.checkIntake keys ++ c.checkAxes keys ++ c.checkTriggers keys ++ c.checkChannels keys ++ c.checkCan keys ++ c.checkPorts keys
    ++ c.checkWindows keys ++ c.checkRings keys ++ c.checkDomains keys ++ c.checkDumps keys

/-- R118: the first object that fails with the entries in place. -/
def State.firstFailing (s : State) (es : List (Key × Val)) : Option Key :=
  ((es.foldl (fun acc e => acc.setObj e.1 e.2) s).failing (es.map fun e => e.1)).head?

/-! ## Engines concerned (R112, R120) -/

/-- The engine of every region. -/
def eachRegion (f : Fin 10 → Engine) : List Engine := (idxs 10).map f

/-- The remote DMA requester of the memory that a window covers (R153, R426). -/
def State.windowDma (s : State) (w : Nat) : Engine :=
  let p := s.winPlace false w 0
  .remoteDma p.space p.region p.block

/-- The CAN controller of a PDO, whose communication parameters name it (R111); the manual does not say how, so it is a free value of theirs (DESIGN CHOICE, log entry 72). -/
def State.pdoCtl (s : State) (index : Nat) : Fin 4 :=
  Fin.ofNat 4 (pattern 2 (Config.free 70 0 ([1, 2, 3, 5].map fun j => s.int (ob index j))))

/-- CAN controller `c` as an engine. -/
def canEngine (c : Nat) : Engine := .can ⟨c % 4, Nat.mod_lt _ (by omega)⟩

/-- The engines that a drained object concerns: those that its chapter names (R111, R202, R210, R233, R245, R298, R426, R501); `c` is the state with the new values. -/
def State.concerned (s c : State) (key : Key) : List Engine :=
  let i := key / 256
  let users (f : Image → List (Nat × Engine)) (k : Nat) : List Engine :=
    (s.launch.image.elim [] f).filterMap fun e => if e.1 = k then some e.2 else none
  if i = 0x3C10 then users (fun im => im.seedUsers) (key % 256 - 1)
  else if 0x1400 ≤ i ∧ i ≤ 0x1A0F then
    let index := if i / 0x200 % 2 = 0 then i else i - 0x200
    [.can (s.pdoCtl index), .can (c.pdoCtl index)]
  else if i = 0x3400 then eachRegion .quant
  else if i = 0x3410 then
    eachRegion .quant ++ ([s.raw key, c.raw key].filter fun b => !b.isEmpty).flatMap fun b => users (fun im => im.tableUsers) (parseTable b).tag
  else if i = 0x3600 then (idxs 10).flatMap fun r => (idxs 18).map fun b => .windowPort r b
  else if i = 0x3700 then eachRegion .detection
  else if h : 0x2A10 ≤ key / 256 ∧ key / 256 < 0x2A10 + 24 then [.ispLane ⟨key / 256 - 0x2A10, Nat.sub_lt_left_of_lt_add h.1 h.2⟩]
  else if i = 0x3A00 then eachRegion .decode
  else if 0x2320 ≤ i ∧ i ≤ 0x2331 then [canEngine (i % 16)]
  else if 0x2410 ≤ i ∧ i ≤ 0x244F then [s.windowDma (i - 0x2410), c.windowDma (i - 0x2410)]
  else []

/-- Whether an engine's power domain is on; one that is off or in retention reports ready at once (R120). -/
def State.engineOn (s : State) (e : Engine) : Bool :=
  let on (d : Nat) : Bool := (idxs 72).any fun k => k.val == d && s.power.domains[k].state == 2
  match e with
  | .exec r _ => on r.val
  | .windowPort r _ => on r.val
  | .attention r => on r.val
  | .detection r => on r.val
  | .quant r => on r.val
  | .decode r => on r.val
  | .ispLane _ => on 39
  | .remoteDma space r _ => if space = 0 then on 38 else on r
  | .can _ => on 57

/-- Each engine once. -/
def once (l : List Engine) : List Engine := l.foldl (fun acc e => if acc.contains e then acc else acc ++ [e]) []

/-- R120: the engines that have yet to report for these entries. -/
def State.enginesFor (s : State) (es : List (Key × Val)) : List Engine :=
  let c := es.foldl (fun acc e => acc.setObj e.1 e.2) s
  (once (es.flatMap fun e => if (rowOf e.1).elim false (fun r => r.cls == .drained) then s.concerned c e.1 else [])).filter s.engineOn

end Sys2Proof.Machine
end

