-- ==== Sys2Proof/Machine/Commit.lean ====
section
/-!
DEFINITION. The commit control: commit groups, implicit commits, ready reports, switches and their aborts (R112 to R125).
-/

namespace Sys2Proof.Machine

/-- The switch class of an object (R112); a requested state is of class restart for a launch domain (R441). -/
def clsOf (key : Key) : Cls :=
  if key / 256 = 0x2110 ∧ 1 ≤ key % 256 ∧ launchDomain (key % 256 - 1) then .restart else (rowOf key).elim .none fun r => r.cls

/-- Whether entries are of switch class restart (R117). -/
def isRestart (es : List (Key × Val)) : Bool := es.any fun e => clsOf e.1 == .restart

/-- Whether entries hold a drained object (R120). -/
def isDrained (es : List (Key × Val)) : Bool := es.any fun e => clsOf e.1 == .drained

/-- How a served item ends: answered with a code and data, or when a commit has its outcome (R105, R125). -/
inductive Served where
  | now (code : Nat) (data : Bytes)
  | wait (ident : Nat)
deriving DecidableEq, Repr

/-- The first beat that begins after now (R118). -/
def State.nextBeat (s : State) : Nat :=
  match s.launch.run with
  | some run => run.firstBeatAt (s.now + 1)
  | none => 0

/-- Whether a beat of the running launch has begun by a count; without a launch every commit is due. -/
def State.begunBy (s : State) (beat count : Nat) : Bool :=
  match s.launch.run with
  | some run => decide (run.countOf beat ≤ count)
  | none => true

/-- R118: detail of a failed check: index in the upper, sub-index in the lower 16 bits. -/
def failDetail (key : Key) : Nat := (key / 256) <<< 16 ||| key % 256

/-! ## Switches (R119, R120) -/

/-- Whether an in-service change takes effect in a beat and has not yet done so: a block swap, the start or the switch of a region migration, a firmware switch, a re-plan at a supply step; a commit of that beat follows it (R123, R482). -/
def State.changeDue (s : State) (beat : Nat) : Bool :=
  match s.launch.run with
  | none => false
  | some run =>
    let due (decided : Nat) : Bool := run.firstBeatAt (decided + s.changeLead) == beat
    decide (s.now < run.countOf (beat + 1))
      && ((s.service.swaps.any fun w => due w.decided) || (s.service.migration.any fun m => (!m.started || m.copied && !m.switched) && due m.decided)
        || (s.service.fwState == 3 && s.nat (ob 0x5820 3) == beat)
        || ((idxs 10).any fun r => s.regions[r].replan.isSome) && beat % max 1 (s.nat (ob 0x2100 0x0B)) == 0 && s.launch.lastBeat != some beat)

/-- Whether a scheduled commit switches now: its beat has begun, and no in-service change of that beat is still to come (R119, R120, R123). -/
def State.switches (s : State) (c : Commit) : Bool := c.scheduled && s.begunBy c.beat s.now && !s.changeDue c.beat

/-- Every entry of a commit becomes active at its count, limited by the Crust's present limits; the outcome is recorded with the commit beat, before an entry that resets the device acts; in a launch beat the hashes are computed anew (R119, R120, R123, R125, R357). -/
def State.switch (s : State) (c : Commit) : State :=
  let count := match s.launch.run with
    | some run => run.countOf c.beat
    | none => s.now
  let s1 := (s.recordOutcome c.ident 0 0 (if s.running then some c.beat else none)).applyEntries c.entries count c.given
  let s2 := ((c.entries.map fun e => e.1).filter fun k => boundedKeys.contains k).foldl (fun acc k => acc.tighten k) s1
  if s2.running && s2.launch.lastBeat == some c.beat then s2.rehash else s2

/-- The switch of a commit that is ready: at once without a launch, else it is scheduled for its beat, the earliest one where none is named (R118, R120). -/
def State.scheduleOf (s : State) (c : Commit) : Commit :=
  { c with scheduled := true, notReady := [], beat := if c.beat = 0 then s.nextBeat else c.beat }

/-- The committed group switches where its beat has begun (R119, R120). -/
def State.switchGroup (s : State) : State :=
  match s.commit.group with
  | some c => if s.switches c then (s.closeGroup).switch c else s
  | none => s

/-- The running implicit drained commit switches where its beat has begun. -/
def State.switchImplicit (s : State) : State :=
  match s.commit.implicit with
  | c :: rest => if s.switches c then (s.modCommit fun k => { k with implicit := rest }).switch c else s
  | [] => s

/-- Implicit instant commits switch in serving order where their beat has begun. -/
def State.switchInstant (s : State) : State :=
  (s.commit.instant.filter s.switches).foldl (fun acc c => acc.switch c)
    (s.modCommit fun k => { k with instant := k.instant.filter fun c => !s.switches c })

/-- Every switch that is due: the values of the commits whose beat has begun become active. -/
def State.switchDue (s : State) : State := s.switchInstant.switchImplicit.switchGroup

/-! ## Implicit commits (R113) -/

/-- A commit of one written object. -/
def State.commitOf (s : State) (key : Key) (v : Val) (g : Given) : Commit :=
  { ident := s.commit.lastIdent, entries := [(key, v)], since := s.now, beat := 0, asked := [], notReady := [], started := false, scheduled := false, given := g }

/-- The entries of drained commits in progress (R113). -/
def State.inProgress (s : State) : List Key :=
  let group := match s.commit.group with
    | some c => c.entries
    | none => []
  (group ++ s.commit.implicit.flatMap fun c => c.entries).map fun e => e.1

/-- R113: the first implicit drained commit starts: its checks run, its engines are asked; a refused one makes way for the next. -/
def State.startImplicit (fuel : Nat) (s : State) : State :=
  match fuel, s.commit.implicit with
  | n + 1, c :: rest =>
    if c.started then s
    else match s.firstFailing c.entries with
      | some k => State.startImplicit n ((s.modCommit fun x => { x with implicit := rest }).recordOutcome c.ident 0x0E000005 (failDetail k) none)
      | none =>
        let c1 := { c with started := true, since := s.now, asked := s.enginesFor c.entries, notReady := s.enginesFor c.entries }
        let c2 := if c1.notReady.isEmpty then s.scheduleOf c1 else c1
        s.modCommit fun x => { x with implicit := c2 :: rest }
  | _, _ => s

/-- R113: instant commits that waited for a drained commit of their object start once it has finished. -/
def State.startInstant (s : State) : State :=
  s.commit.instant.foldl (fun acc c =>
    if c.scheduled || c.entries.any fun e => acc.inProgress.contains e.1 then acc
    else
      let others := acc.commit.instant.filter fun d => d.ident != c.ident
      match acc.firstFailing c.entries with
      | some k => (acc.modCommit fun x => { x with instant := others }).recordOutcome c.ident 0x0E000005 (failDetail k) none
      | none => acc.modCommit fun x => { x with instant := others ++ [{ acc.scheduleOf c with started := true }] }) s

/-- Commits that can start do so, and switches that are due take place. -/
def State.startCommits (s : State) : State := ((s.startImplicit (s.commit.implicit.length + 1)).startInstant).switchDue

/-- A restart value becomes pending; a later one replaces it (R117). -/
def State.makePending (s : State) (es : List (Key × Val)) : State :=
  s.modCommit fun c => { c with pending := es.foldl (fun l e => put l e.1 e.2) c.pending, lastResult := 0, lastDetail := 0 }

/-- R113: a write outside a group is served as a commit of that one object. -/
def State.implicitCommit (s : State) (key : Key) (v : Val) (g : Given) : State × Served :=
  let s1 := s.takeIdent
  let c := s1.commitOf key v g
  let refuse (k : Key) : State × Served := (s1.recordOutcome c.ident 0x0E000005 (failDetail k) none, .now 0x0E000005 [])
  match clsOf key with
  | .restart =>
    (match s1.firstFailing c.entries with
      | some k => refuse k
      | none => (s1.makePending c.entries, .now 0 []))
  | .drained =>
    if s1.running || !s1.commit.implicit.isEmpty then
      (s1.modCommit fun x => { x with implicit := x.implicit ++ [c] }, .wait c.ident)
    else
      (match s1.firstFailing c.entries with
        | some k => refuse k
        | none => (s1.switch c, .now 0 []))
  | _ =>
    if s1.inProgress.contains key then (s1.modCommit fun x => { x with instant := x.instant ++ [c] }, .wait c.ident)
    else
      match s1.firstFailing c.entries with
      | some k => refuse k
      | none =>
        if s1.running then
          (s1.modCommit fun x => { x with instant := x.instant ++ [{ s1.scheduleOf c with started := true }] }, .wait c.ident)
        else (s1.switch c, .now 0 [])

/-! ## Commit groups (R115 to R118) -/

/-- Whether a session may stage: it owns the open group, and has not committed it (R116). -/
def State.stages (s : State) (ses : Session) : Bool := s.commit.owner == some ses && s.commit.group.isNone

/-- The bytes of staged data. -/
def stagedBytes (es : List (Key × Val)) : Nat :=
  (es.map fun e => ((rowOf e.1).elim [] fun r => r.ty.encode e.2).length).sum

/-- R116, R117: a write by the owner is staged. -/
def State.stage (s : State) (key : Key) (v : Val) : State × Nat :=
  let s1 := s.modCommit fun c => { c with lastActivity := s.now }
  let others := del s.commit.entries key
  let es := put s.commit.entries key v
  if !others.isEmpty && isRestart others != isRestart [(key, v)] then (s1, 0x0E000004)
  else if 256 < es.length ∨ 65536 < stagedBytes es then (s1, 0x0E000009)
  else (s1.modCommit fun c => { c with entries := es }, 0)

/-- R115: the open command. -/
def State.openGroup (s : State) (ses : Session) : State × Nat :=
  match s.commit.owner with
  | some o => (if o = ses then s.modCommit fun c => { c with lastActivity := s.now } else s, 0x0E000001)
  | none => (s.modCommit fun c => { c with owner := some ses, entries := [], group := none, lastActivity := s.now }, 0)

/-- A group refused: nothing is applied (R118). -/
def State.refuseGroup (s : State) (code detail : Nat) : State × Served :=
  ((s.recordOutcome s.commit.lastIdent code detail none).closeGroup, .now code [])

/-- R118 to R120: the commit command of the owner. -/
def State.commitGroup (s : State) : State × Served :=
  let s1 := s.takeIdent.modCommit fun c => { c with lastActivity := s.now }
  let es := s1.commit.entries
  let asked := s1.nat (ob 0x2010 3)
  match s1.firstFailing es with
  | some k => s1.refuseGroup 0x0E000005 (failDetail k)
  | none =>
    if isRestart es then ((s1.makePending es).closeGroup, .now 0 [])
    else if asked ≠ 0 ∧ (!s1.running ∨ s1.begunBy asked (s1.now - 1)) then s1.refuseGroup 0x0E000006 0
    else
      let engines := if isDrained es then s1.enginesFor es else []
      let c : Commit :=
        { ident := s1.commit.lastIdent, entries := es, since := s1.now, beat := asked, asked := engines, notReady := engines, started := true
          scheduled := false, given := {} }
      if !c.notReady.isEmpty then (s1.modCommit fun x => { x with group := some c }, .wait c.ident)
      else if s1.running then (s1.modCommit fun x => { x with group := some (s1.scheduleOf c) }, .wait c.ident)
      else ((s1.closeGroup).switch c, .now 0 [])

/-- R115, R118: a write to 0x2010:01. -/
def State.commitCommand (s : State) (ses : Session) (v : Nat) : State × Served :=
  if v = 1 then
    let r := s.openGroup ses
    (r.1, .now r.2 [])
  else if !s.stages ses then (s, .now 0x0E000003 [])
  else if v = 2 then s.commitGroup
  else (s.closeGroup, .now 0 [])

/-! ## Ready reports, timeouts, discards (R120, R121, R124) -/

/-- R120: a commit's engine reports ready; after the last report the switch is scheduled. -/
def State.reportIn (s : State) (c : Commit) (e : Engine) : Commit :=
  let left := c.notReady.filter fun x => x != e
  if c.waits && left.isEmpty then s.scheduleOf { c with notReady := left } else { c with notReady := left }

/-- R121: a committed group whose requested beat has begun before its last ready report is aborted. -/
def State.dropPassed (s : State) : State :=
  match s.commit.group with
  | some c =>
    if c.waits && c.beat != 0 && s.begunBy c.beat s.now then s.abortGroup 0x0E000006 0x0E01 (at_ 16 16 2 ||| at_ 16 0 c.notReady.length) else s
  | none => s

/-- R120, R121: an engine reports ready at an idle point: to the committed group, unless its requested beat has begun, and to the running implicit commit. -/
def State.engineReady (s : State) (e : Engine) : State :=
  (s.dropPassed.modCommit fun c =>
    { c with
      group := c.group.map fun g => s.reportIn g e
      implicit := match c.implicit with
        | x :: rest => s.reportIn x e :: rest
        | [] => [] }).startCommits

/-- R121: engines not all ready within the commit timeout. -/
def State.commitTimeouts (s : State) : State :=
  let late (c : Commit) : Bool := c.waits && decide (c.since + 1000000 * s.nat (ob 0x2010 4) ≤ s.now)
  let s1 := match s.commit.group with
    | some c => if late c then s.abortGroup 0x0E000007 0x0E01 (at_ 16 16 1 ||| at_ 16 0 c.notReady.length) else s
    | none => s
  let s2 := match s1.commit.implicit with
    | c :: _ => if late c then s1.abortImplicit 0x0E000007 0x0E01 (at_ 16 16 1 ||| at_ 16 0 c.notReady.length) else s1
    | [] => s1
  s2.startCommits

/-- R121: the requested beat has begun before the last ready report. -/
def State.beatPassed (s : State) : State := s.dropPassed.startCommits

/-- R124: the open group is discarded: fault 0x0E05, and the owner is owed 0x0E00_000A; a commit under way is answered with it. -/
def State.discardGroup (s : State) (why : Nat) : State :=
  match s.commit.owner with
  | none => s
  | some ses =>
    let s1 := match s.commit.group with
      | some c => s.recordOutcome c.ident 0x0E00000A 0 none
      | none => s
    ((s1.closeGroup).modDict fun d => { d with owed := if d.owed.contains ses then d.owed else d.owed ++ [ses] }).fault 0x0E05 .chip
      (at_ 32 32 (Config.sessionCode ses) ||| at_ 8 0 why)

/-- R124: no staging write or command from the owner within the idle timeout; a group stays open until its commit has its outcome (R115). -/
def State.groupIdle (s : State) : State :=
  if s.commit.owner.isSome && decide (s.commit.lastActivity + 1000000000 * s.nat (ob 0x2010 0x0D) ≤ s.now)
  then s.discardGroup 1 else s

end Sys2Proof.Machine
end

