-- ==== Sys2Proof/Machine/View.lean ====
section
/-!
DEFINITION. The values that reads of the dictionary return (R103, R110): objects that other state holds or that the device computes; every other object reads its active value.
-/

namespace Sys2Proof.Machine

/-- Entries of a table of values by sub-index. -/
def pick (j : Nat) (vs : List (Nat × Nat)) : Option Val := (get? vs j).map fun v => .int v

/-- 0 or the number that an option holds, with another value for none. -/
def orElse (o : Option Nat) (d : Nat) : Nat := o.getD d

/-! ## Fault log (R42) -/

/-- R42: up to 32 retained records at or after a sequence number, oldest first, each of 32 bytes. -/
def FaultLog.window (g : FaultLog) (start : Nat) : Bytes :=
  ((g.ring.filter fun r => atOrAfter r.seq start).take 32).flatMap fun r => r.bytes

/-- 0x5810:03: the oldest retained sequence number, or the next one while none is retained. -/
def FaultLog.oldest (g : FaultLog) : Nat :=
  match g.ring with
  | r :: _ => r.seq
  | [] => g.nextSeq

/-! ## Commit control (R115 to R125) -/

/-- The commit that the commit control shows: the committed group, else the running implicit drained commit. -/
def CommitCtl.shown (c : CommitCtl) : Option Commit :=
  match c.group with
  | some g => some g
  | none => c.implicit.head?

/-- 0x2010:05. -/
def CommitCtl.stateCode (c : CommitCtl) : Nat :=
  if c.owner.isSome && c.group.isNone then 1
  else match c.shown with
    | some g => if g.scheduled then 4 else if g.started then 3 else 0
    | none => 0

/-- 0x2010:02, :05 to :09, :0C, :0E, :0F. -/
def State.viewCommit (s : State) (j : Nat) : Option Val :=
  let c := s.commit
  let owner := match c.owner with
    | some ses => Config.sessionCode ses
    | none => 0
  pick j [(2, owner), (5, c.stateCode), (6, c.entries.length), (7, c.lastResult), (8, c.lastBeat), (9, c.lastIdent), (0x0C, c.pending.length),
    (0x0E, (c.shown.map fun g => g.notReady.length).getD 0), (0x0F, c.lastDetail)]

/-! ## Units of the compute die -/

/-- 0x3010: token rates and replica readings (R55, R77); the device rate is the lowest of the regions that work or check. -/
def State.viewWeave (s : State) (j : Nat) : Option Val :=
  if j = 6 then
    some (.int (((idxs 10).filter fun r => s.regions[r].role ≤ 1).foldl (fun m r => min m (s.regionRate r)) 65535 : Nat))
  else if h : 7 ≤ j ∧ j < 17 then some (.int (s.regionRate ⟨j - 7, Nat.sub_lt_left_of_lt_add h.1 h.2⟩ : Nat))
  else if h : 0x13 ≤ j ∧ j < 0x13 + 180 then some (.int (s.blocks[(⟨j - 0x13, Nat.sub_lt_left_of_lt_add h.1 h.2⟩ : Fin 180)].reading : Nat))
  else none

/-- A value of block i, in the order of R77, at sub-index i + 1. -/
def State.viewBlock (s : State) (j : Nat) (f : Block → Nat) : Option Val :=
  if h : 1 ≤ j ∧ j < 1 + 180 then some (.int (f (s.blocks[(⟨j - 1, Nat.sub_lt_left_of_lt_add h.1 h.2⟩ : Fin 180)]) : Nat)) else none

/-- 0x3210:01: entries of 8 bytes: the location, the spare row, the origin (R157, R169). -/
def rowMapBytes (l : List RowMap) : Bytes := l.flatMap fun e => leBytes 8 (e.loc.toNat ||| at_ 4 32 e.spare ||| at_ 4 36 e.origin)

/-- 0x3200:06 to :08; a bank without a free spare row is known by its first one. -/
def State.viewRows (s : State) (j : Nat) : Option Val :=
  pick j [(6, (s.service.rowMap.filter fun e => e.origin != 0).length), (7, (s.service.rowMap.filter fun e => e.spare == 0 && (s.freeRow e.loc).isNone).length),
    (8, s.service.mapResult)]

/-- 0x3C00:04 to :0B (R93, R101, R102). -/
def State.viewLaunch (s : State) (j : Nat) : Option Val :=
  match j with
  | 9 => some (.bytes s.ownImageHash)
  | 0x0A => some (.bytes s.launch.snapshot)
  | 0x0B => some (.bytes s.launch.fingerprint)
  | _ => pick j [(4, s.launch.count), (5, s.launch.state.code), (8, s.beat)]

/-! ## Line and field -/

/-- 0x2880 to 0x2897 (R298). -/
def State.viewStream (s : State) (n : Fin 24) (j : Nat) : Option Val :=
  let x := s.streams[n]
  pick j [(1, x.state), (2, x.linkRate), (3, x.tag), (4, x.received), (5, x.blanked), (6, x.incomplete), (7, x.extra), (8, x.pixelRate),
    (9, x.lastLine), (0x0A, x.records)]

/-- 0x2C80 to 0x2C8B (R310). -/
def State.viewHead (s : State) (h : Fin 12) (j : Nat) : Option Val :=
  let x := s.heads[h]
  if j = 2 then some (.bytes x.serial)
  else pick j [(1, x.state), (3, x.field 0x14 2), (4, x.pulses), (5, x.onTimeMs), (6, x.lifeUsed), (7, x.lastM.toNat), (8, b2n (s.untrusted h))]

/-- 0x3A80 to 0x3A87 (R326). -/
def State.viewIntake (s : State) (q : Fin 8) (j : Nat) : Option Val :=
  let x := s.intake[q]
  pick j [(1, x.consumed), (2, x.delivered), (3, x.replaced), (4, x.hostDecoded), (5, x.batches), (6, x.padding), (7, x.lastReason)]

/-- 0x4800, 0x4810 and 0x4840 (R376 to R382); the manual gives no hash of the set fused at manufacture: a free value. -/
def State.viewCrust (s : State) (key : Key) : Option Val :=
  let c := s.crust
  if key = ob 0x4800 8 then some (.bytes (match c.active with
    | some p => p.hash
    | none => (List.range 32).map fun k => BitVec.ofInt 8 (Config.free 63 0 [k])))
  else if key / 256 = 0x4800 then
    pick (key % 256) [(1, c.state.code), (2, s.effectiveBits), (3, latchedBits c.latches), (4, s.activeSequence), (5, slotBits c.keySlots),
      (6, s.singleLeft), (7, c.suspectBeat)]
  else if key / 256 = 0x4810 then pick (key % 256) [(4, c.setState), (5, c.reason)]
  else if key / 256 = 0x4840 then pick (key % 256) [(2, c.safeStop.toNat), (3, c.requestMask.toNat)]
  else none

/-! ## Base die -/

/-- The standby domain beside the active one, if it is enabled. -/
def State.standbyDomain (s : State) : Option (Fin 2) :=
  match s.time.active with
  | some d => if s.domainOn (otherDomain d) then some (otherDomain d) else none
  | none => none

/-- 0x2200 (R402). -/
def State.viewTime (s : State) (j : Nat) : Option Val :=
  let tm := s.time
  let active := match tm.active with
    | some d => d.val
    | none => 0xFF
  let offsetOf (o : Option (Fin 2)) : Int := match o with
    | some d => tm.domains[d].offset
    | none => 0
  let since (o : Option Nat) : Nat := match o with
    | some c => (s.now - c) / 1000000 % 2 ^ 32
    | none => 0
  match j with
  | 0x0F => some (.int (offsetOf tm.active))
  | 0x10 => some (.int (offsetOf s.standbyDomain))
  | 0x13 => some (.int tm.utc)
  | _ => pick j [(2, tm.base), (4, tm.sync), (5, active), (6, b2n s.normalService), (0x11, since tm.syncedAt), (0x12, since tm.holdoverAt),
      (0x16, tm.clampedTicks), (0x18, s.holdoverError)]

/-- 0x2202 and 0x2203 (R402). -/
def State.viewDomain (s : State) (d : Fin 2) (j : Nat) : Option Val :=
  let x := s.time.domains[d]
  pick j [(0x0B, x.state), (0x0C, x.gm), (0x0D, x.clockClass), (0x0E, x.pathDelay), (0x0F, x.steps)]

/-- 0x2380 to 0x2383 (R420). -/
def State.viewCan (s : State) (c : Fin 4) (j : Nat) : Option Val := pick j [(1, s.canState c), (2, s.can[c].tec), (3, s.can[c].rec_)]

/-- 0x2390 and 0x2391 (R420). -/
def State.viewTt (s : State) (c : Fin 2) (j : Nat) : Option Val :=
  let x := s.tt[c]
  pick j [(1, x.level), (2, x.master), (3, x.priority), (4, x.cycle), (5, x.refMark), (6, x.refWeft)]

/-- 0x2100 (R460); power off reads as standby does, from no path. -/
def State.viewPower (s : State) (j : Nat) : Option Val :=
  let p := s.power
  if j = 6 then some (.int (match s.hottest s.dieSensors with
    | some m => m.1
    | none => 0))
  else pick j [(1, p.mainDv * 65536 + p.watts), (2, min 2 p.state.code), (5, p.fieldDv), (7, p.droops), (9, p.lifeNs / 3600000000000), (0x0D, p.hotNs / 3600000000000)]

/-- 0x2130 to 0x2139 (R460). -/
def State.viewRegion (s : State) (r : Fin 10) (j : Nat) : Option Val :=
  let x := s.regions[r]
  pick j [(1, x.supply), (2, x.vplan), (3, x.ageing), (4, x.speed), (5, x.headroom), (6, x.endOfMargin), (7, x.poweredNs / 3600000000000)]

/-- 0x5000 to 0x5080 (R472). -/
def State.viewCounters (s : State) (i j : Nat) : Option Val :=
  let c := s.counters
  if i = 0x5000 then pick j [(4, c.dumpSeq), (5, c.overwritten), (6, s.oldestDump)]
  else if h : i = 0x5010 ∧ 1 ≤ j ∧ j < 1 + 16 then some (.int (s.chipCounter c.chip ⟨j - 1, Nat.sub_lt_left_of_lt_add h.2.1 h.2.2⟩ : Nat))
  else if h : (0x5020 ≤ i ∧ i < 0x5020 + 10) ∧ 1 ≤ j ∧ j < 1 + 16 then
    some (.int (s.regionCounter c.region ⟨i - 0x5020, Nat.sub_lt_left_of_lt_add h.1.1 h.1.2⟩ ⟨j - 1, Nat.sub_lt_left_of_lt_add h.2.1 h.2.2⟩ : Nat))
  else if 0x5040 ≤ i ∧ i ≤ 0x5049 ∧ j = 1 then some (.bytes ((List.range 18).flatMap fun b => s.blockSet s.counterSets (18 * (i - 0x5040) + b)))
  else if 0x5060 ≤ i ∧ i ≤ 0x5069 ∧ j = 1 then some (.bytes ((List.range 18).flatMap fun b => cellSet c.cell (18 * (i - 0x5060) + b)))
  else if i = 0x5080 ∧ j = 1 then some (.bytes s.dumpWindow)
  else none

/-- 0x5800 to 0x5840 (R485). -/
def State.viewService (s : State) (i j : Nat) : Option Val :=
  let v := s.service
  match i with
  | 0x5800 => pick j [(2, v.lastReset), (3, v.bootMs), (4, v.slot), (7, v.minVersion), (9, v.bootState)]
  | 0x5810 => if j = 5 then some (.bytes (s.log.window (s.nat (ob 0x5810 6))))
      else pick j [(2, s.log.nextSeq), (3, s.log.oldest), (4, s.log.lost), (0x0A, s.log.unacked.length)]
  | 0x5820 => pick j [(4, v.fwState), (5, v.fwReason), (6, v.fwA), (7, v.fwB)]
  | 0x5830 => if j = 6 then some (.bytes v.imgHash) else pick j [(4, v.imgState), (5, v.imgReason)]
  | 0x5840 => pick j [(2, slotBits v.imageKeys)]
  | _ => none

/-- The node-ID in force (R503). -/
def State.nodeId (s : State) : Nat := s.nat (ob 0x2300 1)

/-- Communication and identity objects (R111, R125, R139, R503). -/
def State.viewHost (s : State) (i j : Nat) : Option Val :=
  match i with
  | 0x1001 => pick j [(0, s.errorRegister)]
  | 0x1010 => pick j [(1, 1)]
  | 0x1011 => pick j [(1, 1)]
  | 0x1014 => if s.dict.cobFollows then pick j [(0, 0x80 + s.nodeId)] else none
  | 0x1200 => pick j [(1, 0x600 + s.nodeId), (2, 0x580 + s.nodeId)]
  | 0x2000 => pick j [(5, s.service.firmware)]
  | 0x2010 => s.viewCommit j
  | 0x2020 => pick j [(6, s.basaris.sessions.length)]
  | _ => none

/-- Objects from 0x2100 to 0x27FF. -/
def State.viewBase (s : State) (i j : Nat) : Option Val :=
  if i = 0x2100 then s.viewPower j
  else if h : i = 0x2111 ∧ 1 ≤ j ∧ j < 1 + 72 then some (.int (s.domainStatus ⟨j - 1, Nat.sub_lt_left_of_lt_add h.2.1 h.2.2⟩ : Nat))
  else if i = 0x2120 ∧ 1 ≤ j then some (.int (s.temp (j - 1)))
  else if h : 0x2130 ≤ i ∧ i < 0x2130 + 10 then s.viewRegion ⟨i - 0x2130, Nat.sub_lt_left_of_lt_add h.1 h.2⟩ j
  else if i = 0x2141 ∧ j = 1 then some (.bytes s.voltagePlan)
  else if i = 0x2200 then s.viewTime j
  else if i = 0x2202 then s.viewDomain 0 j
  else if i = 0x2203 then s.viewDomain 1 j
  else if h : (0x2210 ≤ i ∧ i < 0x2210 + 64) ∧ j = 9 then some (.int (s.time.edges[(⟨i - 0x2210, Nat.sub_lt_left_of_lt_add h.1.1 h.1.2⟩ : Fin 64)] : Nat))
  else if 0x2240 ≤ i ∧ i ≤ 0x224B ∧ 1 ≤ j then
    -- channels 48 to 59 read what the device has derived for them (R400)
    some (.int (if j = 7 then signed 32 (s.channelValue (i - 0x2210) j) else s.channelValue (i - 0x2210) j))
  else if h : 0x2380 ≤ i ∧ i < 0x2380 + 4 then s.viewCan ⟨i - 0x2380, Nat.sub_lt_left_of_lt_add h.1 h.2⟩ j
  else if h : 0x2390 ≤ i ∧ i < 0x2390 + 2 then s.viewTt ⟨i - 0x2390, Nat.sub_lt_left_of_lt_add h.1 h.2⟩ j
  else if h : i = 0x2401 ∧ 1 ≤ j ∧ j < 1 + 8 then some (.int (s.portState ⟨j - 1, Nat.sub_lt_left_of_lt_add h.2.1 h.2.2⟩ : Nat))
  else if h : 0x2460 ≤ i ∧ i < 0x2460 + 16 then
    let q := s.net.queues[(⟨i - 0x2460, Nat.sub_lt_left_of_lt_add h.1 h.2⟩ : Fin 16)]
    pick j [(5, q.consumer), (6, q.dropped)]
  else if i = 0x2480 then pick j [(2, s.qpsInError)]
  else if i = 0x2500 then pick j [(1, s.net.pcieSpeed * 256 + s.net.pcieLanes)]
  else none

/-- Objects from 0x2800 to 0x4FFF. -/
def State.viewLine (s : State) (i j : Nat) : Option Val :=
  if i = 0x2800 then pick j [(5, (s.streamsOn.map fun n => s.nat (camObj n.val 0x0A)).sum % 65536)]
  else if h : 0x2880 ≤ i ∧ i < 0x2880 + 24 then s.viewStream ⟨i - 0x2880, Nat.sub_lt_left_of_lt_add h.1 h.2⟩ j
  else if h : 0x2C80 ≤ i ∧ i < 0x2C80 + 12 then s.viewHead ⟨i - 0x2C80, Nat.sub_lt_left_of_lt_add h.1 h.2⟩ j
  else if h : i = 0x3000 ∧ 1 ≤ j ∧ j < 1 + 10 then some (.int (s.regions[(⟨j - 1, Nat.sub_lt_left_of_lt_add h.2.1 h.2.2⟩ : Fin 10)].role : Nat))
  else if i = 0x3010 then s.viewWeave j
  else if i = 0x3020 then s.viewBlock j fun x => x.role
  else if i = 0x3021 then s.viewBlock j fun x => x.carries
  else if i = 0x3030 then s.viewBlock j fun x => x.grid
  else if i = 0x3200 then s.viewRows j
  else if i = 0x3210 ∧ j = 1 then some (.bytes (rowMapBytes s.service.rowMap))
  else if i = 0x3800 then pick j [(3, s.untrimmed), (0x0A, (s.kv.seqs.filter fun e => e.2.state == 2).length)]
  else if 0x3810 ≤ i ∧ i ≤ 0x3813 ∧ j = 7 then some (.int (s.poolPage (i - 0x3810) : Nat))
  else if h : 0x3A80 ≤ i ∧ i < 0x3A80 + 8 then s.viewIntake ⟨i - 0x3A80, Nat.sub_lt_left_of_lt_add h.1 h.2⟩ j
  else if i = 0x3C00 then s.viewLaunch j
  else if i = 0x4000 then pick j [(7, s.nat (ob 0x3C00 3) - 520)]
  else if h : i = 0x4061 ∧ 1 ≤ j ∧ j < 1 + 16 then some (.int (s.motion.supplies[(⟨j - 1, Nat.sub_lt_left_of_lt_add h.2.1 h.2.2⟩ : Fin 16)].state : Nat))
  else s.viewCrust (ob i j)

/-- The value of an object that other state holds or the device computes; none for an object of the dictionary's own. -/
def State.computed (s : State) (key : Key) : Option Val :=
  let i := key / 256
  let j := key % 256
  if i < 0x2100 then s.viewHost i j
  else if i < 0x2800 then s.viewBase i j
  else if i < 0x5000 then s.viewLine i j
  else if i < 0x5800 then s.viewCounters i j
  else s.viewService i j

/-- R110: the active value of an object that exists. -/
def State.view (s : State) (key : Key) : Val :=
  match s.computed key with
  | some v => v
  | none => s.crustValue key

end Sys2Proof.Machine
end

