-- ==== Sys2Proof/Machine/Server.lean ====
section
/-!
DEFINITION. The dictionary server: reads, writes with their checks, assembly of DOMAIN writes, requests of all paths in turn, and their answers (R103 to R110, R113 to R116, R124, R129, R137).
-/

namespace Sys2Proof

/-- The path that a session comes by, in the order of turns: 0 CAN, 1 Basaris, 2 PCIe, 3 dictionary port (R103, R104). -/
def Session.path : Session → Nat
  | .can _ => 0
  | .basaris _ => 1
  | .pcie => 2
  | .core _ => 3

/-- Whether a session is a Basaris session. -/
def Session.isBasaris : Session → Bool
  | .basaris _ => true
  | _ => false

end Sys2Proof

namespace Sys2Proof.Machine

/-! ## Reads (R18, R110, R129) -/

/-- The value that a read returns: nothing of a write-only object, the staged value where the item asks for it, else the active one. -/
def State.readValue (s : State) (key : Key) (r : Row) (staged : Bool) : Val :=
  if r.acc = .wo then (if r.ty = .domain then .bytes [] else .int 0)
  else match if staged then get? s.commit.entries key else none with
    | some v => v
    | none => s.view key

/-- The copy of a DOMAIN object that a session reads segment by segment. -/
def State.copyFor (s : State) (ses : Session) (key : Key) : Option Bytes :=
  (s.server.copies.find? fun a => a.ses == ses && a.key == key).map fun a => a.data

/-- A copy is taken at the first segment of a read (R110). -/
def State.takeCopy (s : State) (ses : Session) (key : Key) (data : Bytes) : State :=
  s.modServer fun v => { v with copies := (v.copies.filter fun a => !(a.ses == ses && a.key == key)) ++ [⟨ses, key, data⟩] }

/-- A read item is served: its code and data. -/
def State.serveRead (s : State) (ses : Session) (it : Item) : State × Nat × Bytes :=
  let key := ob it.index it.sub
  match rowOf key with
  | none => (s, missingCode key, [])
  | some r =>
    let v := s.readValue key r it.staged
    match r.ty with
    | .domain =>
      if it.offset = 0 then (s.takeCopy ses key v.raw, 0, v.raw.take it.length)
      else (s, 0, (((s.copyFor ses key).getD v.raw).drop it.offset).take it.length)
    | .str => (s, 0, (v.raw.drop it.offset).take it.length)
    | ty => if it.offset ≠ 0 ∨ it.length < ty.size then (s, 0x06070010, []) else (s, 0, ty.encode v)

/-! ## Store, restore, power state (R109, R457) -/

/-- Active values of writable objects with the pending ones in their place; the launch count and the consumer indices, which other state holds, with them (R109). -/
def State.toStore (s : State) : List (Key × Val) :=
  let set (l : List (Key × Val)) (e : Key × Val) : List (Key × Val) := if e.2 = defaultOf e.1 then del l e.1 else put l e.1 e.2
  let own := (ob 0x3C00 4, Val.int s.launch.count) :: (idxs 16).map fun q => (ob (0x2460 + q.val) 5, Val.int s.net.queues[q].consumer)
  (own ++ s.commit.pending).foldl set (s.dict.active.filter fun e => writable e.1)

/-- R109: the store to flash, or its failure with the flash status. -/
def State.storeAll (s : State) (flash : Nat) : State × Served :=
  if flash ≠ 0 then (s.fault 0x0E04 .chip (at_ 32 0 flash), .now 0x08000020 [])
  else
    let es := s.toStore
    (s.modDict fun d => { d with stored := es, storedFollows := d.cobFollows, restoreMark := false }, .now 0 [])

/-- A power-state request takes effect (R457 to R459). -/
def State.doPower (s : State) (v : Nat) : State :=
  match v with
  | 1 => s.requestIdle
  | 2 => s.requestResume
  | 3 => s.enterStandby
  | _ => s.dieReset

/-- R457: a power-state request is latched during a transition, refused, or takes effect. -/
def State.powerCommand (s : State) (v : Nat) : State × Served :=
  if s.powerBusy then (s.modPower fun p => { p with latched := some v }, .now 0 [])
  else if s.powerRefused v then (s, .now 0x08000022 [])
  else (s.doPower v, .now 0 [])

/-- R457: a latched request is served once the transition has ended; one that its conditions no longer permit changes nothing. -/
def State.latchedPower (s : State) : State :=
  match s.power.latched with
  | none => s
  | some v =>
    if s.powerBusy then s
    else
      let s1 := s.modPower fun p => { p with latched := none }
      if s1.powerRefused v then s1 else s1.doPower v

/-! ## Writes: checks (R20, R107, R116) -/

/-- The state as a write would make it: the active values with what the session has staged, and for a restart object with the pending values. -/
def State.withWrite (s : State) (ses : Session) (key : Key) (v : Val) : State :=
  let base := if clsOf key = .restart then s.commit.pending else []
  let mine := if s.stages ses then s.commit.entries else []
  (base ++ mine ++ [(key, v)]).foldl (fun acc e => acc.setObj e.1 e.2) s

/-- R442: a domain is to be off while one that needs it stays requested on, `c` holding the coming values. -/
def State.offRefused (c : State) (d : Nat) : Bool :=
  c.nat (ob 0x2110 (d + 1)) == 0 && (domainChildren d).any fun x => c.nat (ob 0x2110 (x.val + 1)) != 0

/-- R111: a mapping entry that names an object of class C; which ones those are is PRESUMED to be the motion and Crust ranges. -/
def mapsClassC (key : Key) (v : Nat) : Bool :=
  let i := key / 256
  (decide (0x1600 ≤ i ∧ i ≤ 0x160F) || decide (0x1A00 ≤ i ∧ i ≤ 0x1A0F)) && key % 256 != 0
    && decide (0x4000 ≤ bits v 31 16 ∧ bits v 31 16 ≤ 0x4FFF)

/-- What a write to an object that acts is refused with in the present state; 0 where it is not. -/
def State.refusalOf (s c : State) (key : Key) (v : Nat) : Nat :=
  let i := key / 256
  let j := key % 256
  let busy (b : Bool) : Nat := if b then 0x08000022 else 0
  if key = ob 0x3C00 4 then busy s.proposeRefused
  else if key = ob 0x5820 2 then busy (s.firmwareRefused v)
  else if key = ob 0x5830 2 then busy (s.imageRefused v)
  else if key = ob 0x5800 8 then (if v = s.service.fwSecurity then 0 else 0x06090030)
  else if key = ob 0x5800 0x0C then (if (idxs 10).any fun r => r.val == v && decide (s.regions[r].role ≤ 1) then busy s.migrationRefused else 0x06090030)
  else if key = ob 0x5840 1 then busy (s.service.imageKeys.head?.any fun e => e.1 != 0)
  else if key = ob 0x2100 0x0E then busy s.dieRestartRefused
  else if h : (0x2310 ≤ i ∧ i < 0x2310 + 4) ∧ j = 0x0F then busy (s.recoveryRefused ⟨i - 0x2310, Nat.sub_lt_left_of_lt_add h.1.1 h.1.2⟩)
  else if i = 0x2110 then busy (c.offRefused (j - 1))
  else if key = ob 0x4810 1 ∨ key = ob 0x4810 2 then busy (s.crust.setState == 1 || s.crust.setState == 2)
  else if mapsClassC key v then 0x06040041
  else 0

/-- R313: a submitted count outside the consumed count to that plus the ring's entries; beyond it the ring is overrun, fault 0x0903. -/
def State.submitRefused (s : State) (key : Key) (v : Nat) : Option State :=
  if h : (0x3A10 ≤ key / 256 ∧ key / 256 < 0x3A10 + 8) ∧ key % 256 = 0x14 then
    let q : Fin 8 := ⟨key / 256 - 0x3A10, Nat.sub_lt_left_of_lt_add h.1.1 h.1.2⟩
    let done := s.intake[q].consumed
    if done + s.nat (intakeObj q.val 6) < v then some (s.fault 0x0903 { region := s.nat (intakeObj q.val 4), unit := q.val } v)
    else if v < done then some s
    else none
  else none

/-- A write to a crust object is refused, counted and recorded (R107, R356). -/
def State.crustWrite (s : State) (key : Key) : State :=
  (s.bump (ob 0x4880 8)).fault 0x0B0E .chip (at_ 16 16 (key / 256) ||| key % 256)

/-! ## Writes: effect (R113 to R116) -/

/-- R114: objects that act as soon as the server processes the write. -/
def immediateKey (key : Key) : Bool :=
  key / 256 == 0x2010 || key / 256 == 0x2020 || key == ob 0x1010 1 || key == ob 0x1011 1 || key == ob 0x2100 3

/-- R114: such a write. -/
def State.writeImmediate (s : State) (ses : Session) (key : Key) (v : Val) (g : Given) : State × Served :=
  if key = ob 0x2010 1 then s.commitCommand ses v.num.toNat
  else if key = ob 0x1010 1 then s.storeAll g.flash
  else if key = ob 0x1011 1 then (s.modDict fun d => { d with restoreMark := true }, .now 0 [])
  else if key = ob 0x2100 3 then s.powerCommand v.num.toNat
  else ((s.setObj key v).act key v s.now g, .now 0 [])

/-- A staging write or a command of the owner, also one that is refused, starts the idle time anew (R124). -/
def State.touchGroup (s : State) (ses : Session) (key : Key) : State :=
  if s.commit.owner = some ses ∧ (key = ob 0x2010 1 ∨ s.commit.group.isNone ∧ immediateKey key = false) then
    s.modCommit fun c => { c with lastActivity := s.now }
  else s

/-- Whether an object is staged in another session's group (R116). -/
def State.stagedElsewhere (s : State) (ses : Session) (key : Key) : Bool :=
  (match s.commit.owner with
   | some o => o != ses
   | none => false) && s.commit.entries.any fun e => e.1 == key

/-- A value that passed its checks acts at once, is staged, or becomes a commit of its own (R113, R114, R116). -/
def State.deliver (s : State) (ses : Session) (key : Key) (v : Val) (g : Given) : State × Served :=
  if immediateKey key then s.writeImmediate ses key v g
  else if s.stages ses then
    let r := s.stage key v
    (r.1, .now r.2 [])
  else s.implicitCommit key v g

/-- A write within the stated range, its reserved fields ignored (R19): refusals of the present state, then the Crust's limit, to which it is clamped and counted (R20, R116, R357); the code and data that answer it once it has taken effect. -/
def State.writeChecked (s : State) (ses : Session) (key : Key) (r : Row) (written : Val) (g : Given) : State × Served × Nat × Bytes :=
  let v := keepFields key written
  let c := s.withWrite ses key v
  if !c.rangeOk key then (s, .now 0x06090030 [], 0, [])
  else match s.submitRefused key v.num.toNat with
    | some s1 => (s1, .now 0x06090030 [], 0, [])
    | none =>
      let code := s.refusalOf c key v.num.toNat
      if code ≠ 0 then (s, .now code [], 0, [])
      else if !immediateKey key && s.stagedElsewhere ses key then (s, .now 0x0E000002 [], 0, [])
      else match s.crustClamp key v.num with
        | none =>
          let d := s.deliver ses key v g
          (d.1, d.2, 0, [])
        | some (unit, kind, w) =>
          let d := (s.countClamp unit kind 0).deliver ses key (.int w) g
          (d.1, d.2, 0x0E00000D, r.ty.encode (.int w))

/-- R129: the assembly of a DOMAIN write takes an item: the complete value with its final item, or the code of a segment. -/
def State.assemble (s : State) (ses : Session) (key : Key) (it : Item) : State × (Nat ⊕ Bytes) :=
  let mine (a : Assembly) : Bool := a.ses == ses && a.key == key
  let drop (s : State) : State := s.modDict fun d => { d with asm := d.asm.filter fun a => !mine a }
  let before := if it.offset = 0 then [] else ((s.dict.asm.find? mine).map fun a => a.data).getD []
  let whole := before ++ it.data
  if before.length ≠ it.offset then (drop s, .inl 0x06070010)
  else if it.final then (drop s, .inr whole)
  else ((drop s).modDict fun d => { d with asm := d.asm ++ [⟨ses, key, whole⟩] }, .inl 0)

/-- A write item is served. -/
def State.serveWrite (s : State) (ses : Session) (it : Item) (g : Given) : State × Served × Nat × Bytes :=
  let key := ob it.index it.sub
  let refuse (code : Nat) : State × Served × Nat × Bytes := (s, .now code [], 0, [])
  match rowOf key with
  | none => refuse (missingCode key)
  | some r =>
    if 0x2240 ≤ it.index ∧ it.index ≤ 0x224B then refuse 0x08000022
    else match r.acc with
      | .const => refuse 0x06010002
      | .ro => refuse 0x06010002
      | .crust => (s.crustWrite key, .now 0x0E00000E [], 0, [])
      | _ =>
        if ses.isBasaris && key == ob 0x2020 4 then refuse 0x08000021
        else if r.ty = .domain then
          match s.assemble ses key it with
          | (s1, .inl code) => (s1, .now code [], 0, [])
          | (s1, .inr b) => if r.rng.ok (.bytes b) then s1.writeChecked ses key r (.bytes b) g else (s1, .now 0x06090030 [], 0, [])
        else match if it.offset = 0 then r.ty.decode it.data else none with
          | none => refuse 0x06070010
          | some v => if r.rng.ok v then s.writeChecked ses key r v g else refuse 0x06090030

/-! ## Requests in turn (R104, R105, R124, R125) -/

/-- The response item of a request item. -/
def answerItem (it : Item) (code : Nat) (data : Bytes) : RespItem :=
  ⟨it.index, it.sub, it.offset, it.length, b2n it.staged + 2 * b2n it.final, code, data⟩

/-- The first work of a path that `sel` picks, changed by `f`. -/
def modFirst (path : Nat) (sel : Work → Bool) (f : Work → Work) (ws : List Work) : List Work :=
  match ws with
  | [] => []
  | w :: rest => if w.ses.path = path ∧ sel w = true then f w :: rest else w :: modFirst path sel f rest

/-- Whether a request waits for no commit. -/
def Work.free (w : Work) : Bool := w.waits.isNone

/-- The first work of a path that waits for no commit removed. -/
def dropFirst (path : Nat) (ws : List Work) : List Work :=
  match ws with
  | [] => []
  | w :: rest => if w.ses.path = path ∧ w.free = true then rest else w :: dropFirst path rest

/-- The work of a path that is served, the first that waits for no commit, changed by `f`, and the turn set. -/
def State.modWork (s : State) (path turn : Nat) (f : Work → Work) : State :=
  s.modServer fun v => { v with turn := turn, works := modFirst path Work.free f v.works }

/-- The first request of a path that waits for no commit, or whose commit has its outcome; one that waits holds back no other (R113, R115). -/
def Server.firstOn (v : Server) (p : Nat) : Option (Nat × Work) :=
  (v.works.find? fun w => w.ses.path == p && (w.free || w.outcome.isSome)).map fun w => (p, w)

/-- The request that is served next: of each path in turn the first that can go on (R104). -/
def State.nextWork (s : State) : Option (Nat × Work) := (List.range 4).findSome? fun k => s.server.firstOn ((s.server.turn + k) % 4)

/-- The mailbox answers: response area, resp_ready, vector 0 where it is enabled (R132 to R134). -/
def State.answerMailbox (s : State) (seq : Nat) (items : List RespItem) : State :=
  let body := (leBytes 4 seq ++ items.flatMap fun i => i.bytes).take 4096
  let s1 := s.modMbx fun m => { m with busy := false, respReady := true, response := body, respLen := body.length }
  if s.flag (ob 0x2020 8) && s.mbx.ctrl.getLsbD 0 then s1.emit (.msix 0) else s1

/-- An upload of more than 4 bytes goes on as a segmented transfer; every other SDO answer is complete (R111). Answers carry identifier 0x580 + node-ID (PRESUMED, CiA 301). -/
def State.answerSdo (s : State) (index sub : Nat) (items : List RespItem) : State :=
  let code := (items.head?.map fun i => i.code).getD 0
  let data := (items.head?.map fun i => i.data).getD []
  if data.length ≤ 4 then s.nodeFrame (.sdo (0x580 + s.nodeId) index sub code data)
  else
    (s.nodeFrame (.sdo (0x580 + s.nodeId) index sub code (leBytes 4 data.length))).modNode fun n =>
      { n with sdo := some ⟨ob index sub, true, data, 0, false, s.now⟩ }

/-- A request is answered in the way it came. -/
def State.reply (s : State) (w : Work) : State :=
  match w.reply with
  | .plain => s.emit (.response w.ses w.done)
  | .frame num seq ours peer =>
    (match s.basaris.sessions.find? fun b => b.num == num && b.ours == ours && b.peer == peer with
     | some b => s.answerFrame b seq ⟨0x06, 0, w.done, []⟩
     | none => s)
  | .mailbox seq => s.answerMailbox seq w.done
  | .port core => (s.setPort core ((w.done.flatMap fun i => i.bytes).take 4096)).emit (.portItems core w.done)
  | .sdo index sub => s.answerSdo index sub w.done
  | .usdo index sub => s.nodeFrame (.sdo (0x580 + s.nodeId) index sub ((w.done.head?.map fun i => i.code).getD 0) ((w.done.head?.map fun i => i.data).getD []))
  | .rpdo => s

/-- A request begins: a session that is owed 0x0E00_000A pays it with its next request that holds a write item (R124). -/
def State.beginWork (s : State) (path : Nat) (w : Work) : State :=
  let owed := w.write && !w.items.isEmpty && s.dict.owed.contains w.ses
  (s.modWork path path fun w => { w with begun := true, owed := owed }).modDict fun d =>
    { d with owed := if owed then d.owed.filter fun x => x != w.ses else d.owed }

/-- One item of the request under way is served. -/
def State.serveItem (s : State) (path : Nat) (w : Work) (it : Item) (rest : List Item) : State :=
  let over_ (s : State) (r : RespItem) : State := s.modWork path path fun w => { w with items := rest, done := w.done ++ [r] }
  if !w.write then
    let r := s.serveRead w.ses it
    over_ r.1 (answerItem it r.2.1 r.2.2)
  else if w.owed then over_ s (answerItem it 0x0E00000A [])
  else
    let r := (s.touchGroup w.ses (ob it.index it.sub)).serveWrite w.ses it w.given
    match r.2.1 with
    | .now code data => over_ r.1 (if code = 0 then answerItem it r.2.2.1 r.2.2.2 else answerItem it code data)
    | .wait ident =>
      (r.1.modWork path ((path + 1) % 4) fun w => { w with items := rest, waits := some (ident, answerItem it r.2.2.1 r.2.2.2) }).startCommits

/-- The item that waited for a commit is answered with its outcome (R125). -/
def Work.resumeWith (w : Work) (code : Nat) : Work :=
  match w.waits with
  | some (_, r) => { w with waits := none, outcome := none, done := w.done ++ [if code = 0 then r else { r with code := code, data := [] }] }
  | none => { w with outcome := none }

/-- One move of the server for the request that is next. -/
def State.serveWork (s : State) (path : Nat) (w : Work) : State :=
  match w.outcome with
  | some code => s.modServer fun v => { v with turn := path, works := modFirst path (fun w => w.outcome.isSome) (fun w => w.resumeWith code) v.works }
  | none =>
    if !w.begun then s.beginWork path w
    else match w.items with
      | it :: rest => s.serveItem path w it rest
      | [] => ((s.modServer fun v => { v with turn := (path + 1) % 4, works := dropFirst path v.works }).bump (ob 0x2020 0x0A)).reply w

/-- The server moves at most `fuel` times. -/
def State.serveLoop (fuel : Nat) (s : State) : State :=
  match fuel with
  | 0 => s
  | n + 1 => match s.nextWork with
    | some (p, w) => State.serveLoop n (s.serveWork p w)
    | none => s

/-- Moves that the requests held can take. -/
def State.serverMoves (s : State) : Nat := (s.server.works.map fun w => 3 + 2 * w.items.length).sum

/-- The server serves all that it can: latched power-state request, commits that start or switch, requests in turn. -/
def State.serve (s : State) : State :=
  let s1 := s.latchedPower.startCommits
  State.serveLoop s1.serverMoves s1

/-! ## Requests -/

/-- A request arrives at the server. -/
def State.request (s : State) (ses : Session) (reply : Reply) (write : Bool) (items : List Item) (g : Given := {}) : State :=
  (s.modServer fun v => { v with works := v.works ++
    [{ ses := ses, reply := reply, write := write, begun := false, owed := false, items := items, done := [], waits := none, outcome := none, given := g }] }).serve

/-- A write item that holds a whole value. -/
def writeItem (key : Key) (v : Val) : Item :=
  let data := (rowOf key).elim [] fun r => r.ty.encode v
  { index := key / 256, sub := key % 256, offset := 0, length := data.length, staged := false, final := true, data := data }

/-- A read item from the start of an object. -/
def readItem (key : Key) (length : Nat) : Item :=
  { index := key / 256, sub := key % 256, offset := 0, length := length, staged := false, final := false, data := [] }

/-- A session writes one object. -/
def State.writeObject (s : State) (ses : Session) (key : Key) (v : Val) (g : Given := {}) : State := s.request ses .plain true [writeItem key v] g

/-- A session writes a number to an object. -/
def State.writeNat (s : State) (ses : Session) (key : Key) (v : Nat) (g : Given := {}) : State := s.writeObject ses key (.int v) g

/-- A session reads one object. -/
def State.readObject (s : State) (ses : Session) (key : Key) (length : Nat) : State := s.request ses .plain false [readItem key length]

end Sys2Proof.Machine
end

