-- ==== Sys2Proof/Machine/Paths.lean ====
section
/-!
DEFINITION. The access paths: Basaris frames, the PCIe mailbox, the dictionary port, and the CANopen node with its PDOs and SRDOs (R103, R111, R126 to R136, R381).
-/

namespace Sys2Proof.Machine

/-! ## Request items (R129) -/

/-- The request items that bytes spell, or none where they are malformed. -/
def parseItems (fuel : Nat) (write : Bool) (bs : Bytes) : Option (List Item) :=
  match fuel with
  | 0 => if bs.isEmpty then some [] else none
  | n + 1 =>
    if bs.isEmpty then some []
    else
      let len := leAt bs 8 4
      let flags := leAt bs 3 1
      let room := if write then divUp len 4 * 4 else 0
      if bs.length < 12 + room then none
      else
        let it : Item := { index := leAt bs 0 2, sub := leAt bs 2 1, offset := leAt bs 4 4, length := len, staged := bit flags 0,
                           final := bit flags 1, data := if write then (bs.drop 12).take len else [] }
        (parseItems n write (bs.drop (12 + room))).map fun rest => it :: rest

/-- The items of a whole request. -/
def itemsOf (write : Bool) (bs : Bytes) : Option (List Item) := parseItems (bs.length / 12 + 1) write bs

/-! ## Basaris frames (R126 to R131) -/

/-- R130: a request frame above the last sequence number is taken, one among the last 64 is answered again from the cache, an older one is discarded. -/
def State.sequenced (s : State) (b : BSession) (f : BFrame) (go : State → State) : State :=
  let n := bfSequence f
  let newer := match b.lastSeq with
    | some l => decide (l < n)
    | none => true
  if newer then go (s.modSession b fun c => { c with lastSeq := some n, cache := lastN 64 (c.cache ++ [(n, none)]) })
  else match get? b.cache n with
    | some (some a) => s.sendWire (s.answerOut b n true a)
    | some none => s
    | none => s.rejectFrame f.source 2

/-- R129: a read or write request: at most 64 items, served by the dictionary server; a malformed one is answered as one with too many. -/
def State.frameRequest (s : State) (b : BSession) (f : BFrame) (write : Bool) : State :=
  s.sequenced b f fun s1 =>
    match itemsOf write f.payload with
    | some items =>
      if items.length ≤ 64 then s1.request (.basaris b.num) (.frame b.num (bfSequence f) b.ours b.peer) write items
      else s1.answerFrame b (bfSequence f) ⟨0x06, 0x06070010, [], []⟩
    | none => s1.answerFrame b (bfSequence f) ⟨0x06, 0x06070010, [], []⟩

/-- R131: a proposal, confirm or abort, accepted only in a session opened to this chip and with its payload. -/
def State.frameLaunch (s : State) (b : BSession) (f : BFrame) (length : Nat) (take : State → BSession → Nat → Bytes → State) : State :=
  if b.ours || f.payload.length != length then s.rejectFrame f.source 3
  else s.sequenced b f fun s1 => take s1 b (bfSequence f) f.payload

/-- R43, R130: an emergency acknowledge: the one record it names, and the end of its repetition in the session. -/
def State.frameAcknowledge (s : State) (b : BSession) (f : BFrame) : State :=
  if f.payload.length ≠ 4 then s.rejectFrame f.source 3
  else
    let seq := leNat f.payload
    (s.modSession b fun c => { c with emergencies := c.emergencies.filter fun e => e.rcd.seq != seq }).acknowledge fun q => q != seq

/-- A frame of an open session whose tag is right takes effect by its type (R128, R131). -/
def State.frameOf (s : State) (b : BSession) (f : BFrame) : State :=
  match bfType f with
  | 0x03 => s.endSession b
  | 0x04 => s.frameRequest b f false
  | 0x05 => s.frameRequest b f true
  | 0x06 => if b.ours then s.confirmAnswered b else s.rejectFrame f.source 3
  | 0x08 => s.frameAcknowledge b f
  | 0x10 => s.frameLaunch b f 80 State.takeProposal
  | 0x11 => if b.ours && f.payload.length == 12 then s.acknowledged b f.payload else s.rejectFrame f.source 3
  | 0x12 => s.frameLaunch b f 8 State.takeConfirm
  | 0x13 => s.frameLaunch b f 8 State.takeAbort
  | _ => s

/-- R127, R131: a session open response, to a request this chip has sent to that peer. -/
def State.frameOpened (s : State) (f : BFrame) : State :=
  match get? s.basaris.opening f.source with
  | none => s.rejectFrame f.source 5
  | some nonce =>
    let r := s.openResponse f nonce
    match r.2 with
    | some b => r.1.sessionOpened b
    | none => r.1

/-- R126 to R131: a received Basaris frame, by its own type; none comes in while no Ethernet port has power (R37); discarded and counted where its magic, version, type, session, length or tag is wrong. -/
def State.takeBasaris (s : State) (f : BFrame) : State :=
  if !s.basaris.enabled || !s.ethernetPowered then s
  else if bfMagic f ≠ 0xBA5A ∨ bfVersion f ≠ 1 then s.rejectFrame f.source 4
  else if !frameTypes.contains (bfType f) then s.rejectFrame f.source 3
  else if bfType f = 0x01 then s.openRequest f
  else if bfType f = 0x02 then s.frameOpened f
  else match s.findSession f with
    | none => s.rejectFrame f.source 5
    | some b =>
      if s.payloadLimit f.source < bfLength f ∨ bfLength f ≠ f.payload.length then s.rejectFrame f.source 3
      else if f.tag ≠ frameTag b.key f then s.rejectFrame f.source 1
      else
        let s1 := s.modSession b fun c => { c with lastAt := s.now }
        s1.frameOf { b with lastAt := s.now } f

/-! ## The PCIe mailbox (R132 to R134) -/

/-- The first n bytes of a list, filled up with zeros. -/
def firstBytes (bs : Bytes) (n : Nat) : Bytes := (bs ++ List.replicate (n - bs.length) 0).take n

/-- The request area once bytes have been written from its start. -/
def writeArea (old new : Bytes) : Bytes := (new ++ old.drop new.length).take 4096

/-- R133: an accepted doorbell clears resp_ready and the error, and starts the request, unless its length or its items are wrong. -/
def State.acceptDoorbell (s : State) (length : Nat) : State :=
  let fail (e : Nat) : State := s.modMbx fun m => { m with respReady := false, error := e }
  let body := firstBytes s.mbx.request length
  let type := leAt body 0 1
  if length < 4 ∨ 4096 < length then fail 2
  else if type ≠ 0x04 ∧ type ≠ 0x05 then fail 3
  else match itemsOf (type == 0x05) (body.drop 4) with
    | none => fail 3
    | some items =>
      if 64 < items.length then fail 3
      else (s.modMbx fun m => { m with respReady := false, error := 0, busy := true }).request .pcie (.mailbox s.mbx.seq) (type == 0x05) items

/-- R132 to R134: the host writes MBX_SEQ, MBX_CTRL and the request area and rings the doorbell, which is ignored while the mailbox is disabled, and refused with error 1 while it is busy. -/
def State.doorbell (s : State) (seq : Nat) (ctrl : BitVec 32) (area : Bytes) (length : Nat) : State :=
  let s1 := s.modMbx fun m => { m with seq := seq % 2 ^ 32, ctrl := ctrl, request := writeArea m.request area }
  if !s.flag (ob 0x2020 8) then s1
  else if s.mbx.busy then s1.modMbx fun m => { m with error := 1 }
  else s1.acceptDoorbell length

/-! ## The dictionary port (R135) -/

/-- R135: a core's request; the buffer begins with the type byte and three reserved bytes, as the mailbox's request area does (DESIGN CHOICE). A malformed request completes with no item. -/
def State.portDoorbell (s : State) (core : Fin 12) (buffer : Bytes) (length : Nat) : State :=
  let area := writeArea s.ports[core] buffer
  let s1 := s.setPort core area
  let body := firstBytes area (min length 4096)
  let type := leAt body 0 1
  let none_ := s1.emit (.portItems core [])
  if length < 4 ∨ 4096 < length ∨ (type ≠ 0x04 ∧ type ≠ 0x05) then none_
  else match itemsOf (type == 0x05) (body.drop 4) with
    | none => none_
    | some items => if 64 < items.length then none_ else s1.request (.core core) (.port core) (type == 0x05) items

/-! ## SDO, USDO, NMT, heartbeat (R111, R137) -/

/-- Whether the CANopen node hears a request on a controller in the frame mode of its service, 0 classical or 1 FD (R111, R406). -/
def State.nodeHears (s : State) (ctl : Fin 4) (fd : Nat) : Bool :=
  s.nodeCtl == ctl && s.canLive ctl && s.nat (canObj ctl.val 0x0C) == fd && s.node.nmt != .stopped

/-- The session of the CAN path: the node-ID that the SDO server answers for (R115). -/
def State.canSession (s : State) : Session := .can s.nodeId

/-- The SDO transfer that runs ends or goes on as `x`. -/
def State.setSdo (s : State) (x : Option SdoXfer) : State := s.modNode fun n => { n with sdo := x }

/-- A segment of a download: it follows in toggle order; with the last one the whole value is written. -/
def State.sdoDownload (s : State) (toggle : Bool) (data : Bytes) (last : Bool) : State :=
  match s.node.sdo with
  | none => s.nodeFrame (.sdo (0x580 + s.nodeId) 0 0 0x08000022 [])
  | some x =>
    let index := x.key / 256
    let sub := x.key % 256
    let whole := x.data ++ data
    if x.upload || x.toggle != toggle then (s.setSdo none).nodeFrame (.sdo (0x580 + s.nodeId) index sub 0x08000022 [])
    else if !last then (s.setSdo (some { x with data := whole, toggle := !toggle, since := s.now })).nodeFrame (.sdo (0x580 + s.nodeId) index sub 0 [])
    else if x.sent ≠ 0 ∧ x.sent ≠ whole.length then (s.setSdo none).nodeFrame (.sdo (0x580 + s.nodeId) index sub 0x06070010 [])
    else (s.setSdo none).request s.canSession (.sdo index sub) true
      [{ index := index, sub := sub, offset := 0, length := whole.length, staged := false, final := true, data := whole }]

/-- A segment of an upload: the next 7 bytes, in toggle order. -/
def State.sdoUpload (s : State) (toggle : Bool) : State :=
  match s.node.sdo with
  | none => s.nodeFrame (.sdo (0x580 + s.nodeId) 0 0 0x08000022 [])
  | some x =>
    let index := x.key / 256
    let sub := x.key % 256
    if !x.upload || x.toggle != toggle then (s.setSdo none).nodeFrame (.sdo (0x580 + s.nodeId) index sub 0x08000022 [])
    else
      let sent := x.sent + 7
      (s.setSdo (if x.data.length ≤ sent then none else some { x with sent := sent, toggle := !toggle, since := s.now })).nodeFrame
        (.sdo (0x580 + s.nodeId) index sub 0 ((x.data.drop x.sent).take 7))

/-- R111: an SDO request on classical CAN. -/
def State.sdo (s : State) (ctl : Fin 4) (req : SdoReq) : State :=
  if !s.nodeHears ctl 0 then s
  else
    let s1 := s.takeFrame ctl (0x600 + s.nodeId)
    match req with
    | .downloadExpedited index sub data => (s1.setSdo none).request s.canSession (.sdo index sub) true
        [{ index := index, sub := sub, offset := 0, length := data.length, staged := false, final := true, data := data }]
    | .downloadInit index sub size => (s1.setSdo (some ⟨ob index sub, false, [], size, false, s.now⟩)).nodeFrame (.sdo (0x580 + s.nodeId) index sub 0 [])
    | .downloadSegment toggle data last => s1.sdoDownload toggle data last
    | .uploadInit index sub => (s1.setSdo none).request s.canSession (.sdo index sub) false
        [{ index := index, sub := sub, offset := 0, length := 2 ^ 32 - 1, staged := false, final := false, data := [] }]
    | .uploadSegment toggle => s1.sdoUpload toggle
    | .abort => s1.setSdo none
    | .blockTransfer => (s1.setSdo none).nodeFrame (.sdo (0x580 + s.nodeId) 0 0 0x08000022 [])

/-- R111: a USDO request on CANopen FD. -/
def State.usdo (s : State) (ctl : Fin 4) (req : UsdoReq) : State :=
  if !s.nodeHears ctl 1 then s
  else
    let s1 := s.takeFrame ctl (0x600 + s.nodeId)
    match req with
    | .read index sub => s1.request s.canSession (.usdo index sub) false
        [{ index := index, sub := sub, offset := 0, length := 2 ^ 32 - 1, staged := false, final := false, data := [] }]
    | .write index sub data => s1.request s.canSession (.usdo index sub) true
        [{ index := index, sub := sub, offset := 0, length := data.length, staged := false, final := true, data := data }]

/-- R137: a transfer that stalls ends. -/
def State.sdoStalls (s : State) : State :=
  match s.node.sdo with
  | none => s
  | some x => (s.setSdo none).nodeFrame (.sdo (0x580 + s.nodeId) (x.key / 256) (x.key % 256) 0x05040000 [])

/-- Heartbeat codes of the NMT states (PRESUMED, CiA 301). -/
def NmtState.code : NmtState → Nat
  | .preOperational => 0x7F
  | .operational => 0x05
  | .stopped => 0x04

/-- R111: the node acts on an NMT command for it or for all nodes; a reset of the node or of its communication starts it anew, with a boot-up message (PRESUMED, CiA 301). -/
def State.nmtAct (s : State) (ctl : Fin 4) (node : Nat) (cmd : NmtCmd) : State :=
  if s.nodeCtl ≠ ctl ∨ !s.canLive ctl ∨ (node ≠ 0 ∧ node ≠ s.nodeId) then s
  else
    let s1 := s.takeFrame ctl 0
    let set (x : NmtState) : State := s1.modNode fun n => { n with nmt := x }
    let start : State := (s1.modNode fun n => { n with nmt := .preOperational, sdo := none, heartbeatAt := s.now }).nodeFrame (.heartbeat (0x700 + s.nodeId) 0)
    match cmd with
    | .start => set .operational
    | .stop => set .stopped
    | .preOperational => set .preOperational
    | .resetNode => start
    | .resetCommunication => start

/-- R111: the heartbeat is sent every 0x1017 ms with identifier 0x700 + node-ID (PRESUMED, CiA 301); 0 sends none. -/
def State.beatHeart (s : State) : State :=
  let ms := s.nat (ob 0x1017 0)
  if ms = 0 ∨ s.now < s.node.heartbeatAt + ms * 1000000 then s
  else (s.modNode fun n => { n with heartbeatAt := s.now }).nodeFrame (.heartbeat (0x700 + s.nodeId) s.node.nmt.code)

/-- R136: the inhibit time ends and the next waiting EMCY message is sent. -/
def State.inhibitEnds (s : State) : State :=
  if s.inhibited then s
  else match s.node.queue with
    | [] => s.modNode fun n => { n with inhibit := none }
    | m :: rest => (s.modNode fun n => { n with queue := rest }).sendEmcy m

/-! ## PDOs and SRDOs (R111, R381; layouts PRESUMED, CiA 301 and EN 50325-5) -/

/-- The mapping of a PDO: its objects with their lengths in bytes. -/
def State.pdoMap (s : State) (index : Nat) : List (Key × Nat) :=
  (mapEntries (fun k => s.nat (ob index k)) 64).map fun v => (ob (bits v 31 16) (bits v 15 8), bits v 7 0 / 8)

/-- Whether a PDO is exchanged: its COB-ID valid (bit 31 clear), the node operational. -/
def State.pdoOn (s : State) (index : Nat) : Bool := !bit (s.nat (ob index 1)) 31 && s.node.nmt == .operational

/-- The write items of a received PDO, each mapped object from its bytes. -/
def pdoItems (map : List (Key × Nat)) (data : Bytes) : List Item :=
  match map with
  | [] => []
  | (key, n) :: rest =>
    { index := key / 256, sub := key % 256, offset := 0, length := n, staged := false, final := true, data := data.take n } :: pdoItems rest (data.drop n)

/-- R111: an RPDO received on the controller that its parameters name writes its mapped objects; one shorter than its mapping is not processed. -/
def State.receivePdo (s : State) (n : Fin 16) (data : Bytes) : State :=
  let map := s.pdoMap (0x1600 + n.val)
  let ctl := s.pdoCtl (0x1400 + n.val)
  if !s.pdoOn (0x1400 + n.val) || !s.canLive ctl || decide (data.length < (map.map fun e => e.2).sum) then s
  else (s.takeFrame ctl (s.nat (ob (0x1400 + n.val) 1) % 2 ^ 29)).request s.canSession .rpdo true (pdoItems map data)

/-- R111: a TPDO carries the active values of its mapped objects, on the controller that its parameters name. -/
def State.sendPdo (s : State) (n : Fin 16) : State :=
  if !s.pdoOn (0x1800 + n.val) then s
  else
    let ctl := s.pdoCtl (0x1800 + n.val)
    let data := (s.pdoMap (0x1A00 + n.val)).flatMap fun e =>
      (((rowOf e.1).elim [] fun r => r.ty.encode (s.view e.1)) ++ List.replicate e.2 0).take e.2
    s.frameOn ctl (.canFrame ctl.val (s.nat (ob (0x1800 + n.val) 1) % 2 ^ 29) data)

/-- R381: every SCT a transmit SRDO is sent as its data and their inverse, on controller 0 or 1. -/
def State.sendSrdo (s : State) (n : Fin 8) : State :=
  let ctl := srdoCtl n.val
  if s.srdoDirection n.val ≠ 1 ∨ !s.canSends ctl ∨ !s.due s.crust.srdos[n].sentAt (1000000 * s.nat (ob (0x1301 + n) 2)) then s
  else
    let map := s.srdoMap n.val
    let packed := map.foldl (fun (acc : Nat × Nat) e => (acc.1 ||| (pattern e.2 (s.view e.1).num) <<< acc.2, acc.2 + e.2)) (0, 0)
    let data := leBytes (divUp packed.2 8) packed.1
    ((s.emit (.srdo n.val data (data.map fun b => ~~~b))).bump (canStat ctl.val 4) 2).modCrust fun c =>
      { c with srdos := upd c.srdos n fun x => { x with sentAt := some s.now } }

/-! ## The commands -/

/-- R136. -/
def execEmcyInhibitExpiry (t : Nat) (s : State) : Host.Outcome State Fault Refusal := .next (s.advance t).inhibitEnds

/-- R93, R131. -/
def execLaunchProposal (t : Nat) (f : BFrame) (s : State) : Host.Outcome State Fault Refusal := .next ((s.advance t).takeBasaris f)

/-- R131. -/
def execLaunchAcknowledge (t : Nat) (f : BFrame) (s : State) : Host.Outcome State Fault Refusal := .next ((s.advance t).takeBasaris f)

/-- R94, R131. -/
def execLaunchConfirm (t : Nat) (f : BFrame) (s : State) : Host.Outcome State Fault Refusal := .next ((s.advance t).takeBasaris f)

/-- R95, R131. -/
def execLaunchConfirmResponse (t : Nat) (f : BFrame) (s : State) : Host.Outcome State Fault Refusal := .next ((s.advance t).takeBasaris f)

/-- R95, R131. -/
def execLaunchAbort (t : Nat) (f : BFrame) (s : State) : Host.Outcome State Fault Refusal := .next ((s.advance t).takeBasaris f)

/-- R111. -/
def execSdoRequest (t : Nat) (ctl : Fin 4) (req : SdoReq) (s : State) : Host.Outcome State Fault Refusal := .next ((s.advance t).sdo ctl req)

/-- R111. -/
def execUsdoRequest (t : Nat) (ctl : Fin 4) (req : UsdoReq) (s : State) : Host.Outcome State Fault Refusal := .next ((s.advance t).usdo ctl req)

/-- R137. -/
def execSdoTimeout (t : Nat) (s : State) : Host.Outcome State Fault Refusal := .next (s.advance t).sdoStalls

/-- R111. -/
def execNmtCommand (t : Nat) (ctl : Fin 4) (node : Nat) (cmd : NmtCmd) (s : State) : Host.Outcome State Fault Refusal :=
  .next ((s.advance t).nmtAct ctl node cmd)

/-- R111. -/
def execHeartbeat (t : Nat) (s : State) : Host.Outcome State Fault Refusal := .next (s.advance t).beatHeart

/-- R111. -/
def execRpdoReceived (t : Nat) (n : Fin 16) (data : Bytes) (s : State) : Host.Outcome State Fault Refusal := .next ((s.advance t).receivePdo n data)

/-- R111. -/
def execTpdoTransmit (t : Nat) (n : Fin 16) (s : State) : Host.Outcome State Fault Refusal := .next ((s.advance t).sendPdo n)

/-- R381. -/
def execSrdoTransmit (t : Nat) (n : Fin 8) (s : State) : Host.Outcome State Fault Refusal := .next ((s.advance t).sendSrdo n)

/-- R127. -/
def execSessionOpenRequest (t : Nat) (f : BFrame) (s : State) : Host.Outcome State Fault Refusal := .next ((s.advance t).takeBasaris f)

/-- R127, R131. -/
def execSessionOpenResponse (t : Nat) (f : BFrame) (s : State) : Host.Outcome State Fault Refusal := .next ((s.advance t).takeBasaris f)

/-- R127. -/
def execSessionClose (t : Nat) (f : BFrame) (s : State) : Host.Outcome State Fault Refusal := .next ((s.advance t).takeBasaris f)

/-- R127. -/
def execKeepAlive (t : Nat) (f : BFrame) (s : State) : Host.Outcome State Fault Refusal := .next ((s.advance t).takeBasaris f)

/-- R129, R130. -/
def execReadRequest (t : Nat) (f : BFrame) (s : State) : Host.Outcome State Fault Refusal := .next ((s.advance t).takeBasaris f)

/-- R129, R130. -/
def execWriteRequest (t : Nat) (f : BFrame) (s : State) : Host.Outcome State Fault Refusal := .next ((s.advance t).takeBasaris f)

/-- R43, R130. -/
def execEmergencyAcknowledge (t : Nat) (f : BFrame) (s : State) : Host.Outcome State Fault Refusal := .next ((s.advance t).takeBasaris f)

/-- R128. -/
def execUnrecognisedBasarisFrame (t : Nat) (f : BFrame) (s : State) : Host.Outcome State Fault Refusal := .next ((s.advance t).takeBasaris f)

/-- R132 to R134. -/
def execMbxDoorbell (t : Nat) (seq : Nat) (ctrl : BitVec 32) (area : Bytes) (length : Nat) (s : State) : Host.Outcome State Fault Refusal :=
  .next ((s.advance t).doorbell seq ctrl area length)

/-- R134: EMCY_TAIL is an index of 0 to 127; emcy_pending follows it. -/
def execEmcyTailWrite (t : Nat) (tail : Nat) (s : State) : Host.Outcome State Fault Refusal :=
  .next ((s.advance t).modMbx fun m => { m with tail := Fin.ofNat 128 tail })

/-- R135. -/
def execDictionaryPortDoorbell (t : Nat) (core : Fin 12) (buffer : Bytes) (length : Nat) (s : State) : Host.Outcome State Fault Refusal :=
  .next ((s.advance t).portDoorbell core buffer length)

end Sys2Proof.Machine
end

