-- ==== Sys2Proof/Machine/Queues.lean ====
section
/-!
DEFINITION. Descriptor queues: where a descriptor goes, its header check, the order and the conditions in which the descriptors of a block (R147 to R149, R163, R212, R361) and of a region's zoo (R165, R247) start, and the commands that bring them.
-/

namespace Sys2Proof.Machine

/-! ## Where descriptors go -/

/-- The queue that a descriptor goes to: the engine code that its header must carry, the region, the block of a block's queue; of a queue of the zoo the class and the unit. -/
structure Route where
  engine : Nat
  region : Fin 10
  block : Option (Fin 18)
  queue : Nat
  unit : Nat
deriving DecidableEq, Repr

/-- A descriptor of a block's queue, and one of a queue of the zoo. -/
def Route.ofBlock (engine : Nat) (r : Fin 10) (b : Fin 18) : Route := ⟨engine, r, some b, 0, 0⟩
def Route.ofZoo (engine : Nat) (r : Fin 10) (queue : Nat) : Route := ⟨engine, r, none, queue, 0⟩

/-- The queue of the descriptor that a command brings; the descriptor of a sample goes to the region and class of its intake queue (R311, R318). -/
def State.routeOf (s : State) (c : Instr) : Option Route :=
  match c with
  | .executeDescriptor _ r b _ => some (.ofBlock 1 r b)
  | .accessDescriptor _ r b _ => some (.ofBlock 2 r b)
  | .conv _ r b _ => some (.ofBlock 0x10 r b)
  | .poolMax _ r b _ => some (.ofBlock 0x10 r b)
  | .poolAvg _ r b _ => some (.ofBlock 0x10 r b)
  | .erode _ r b _ => some (.ofBlock 0x10 r b)
  | .dilate _ r b _ => some (.ofBlock 0x10 r b)
  | .median _ r b _ => some (.ofBlock 0x10 r b)
  | .resizeNearest _ r b _ => some (.ofBlock 0x10 r b)
  | .resizeBilinear _ r b _ => some (.ofBlock 0x10 r b)
  | .dmaDescriptor _ r eng d => some ⟨0x18, r, none, d.queue, eng.val⟩
  | .statsTensor _ r d => some (.ofZoo 0x13 r d.queue)
  | .statsChannel _ r d => some (.ofZoo 0x13 r d.queue)
  | .convert _ r d => some (.ofZoo 0x13 r d.queue)
  | .scaleUpdate _ r d => some (.ofZoo 0x13 r d.queue)
  | .optStep _ r d => some (.ofZoo 0x13 r d.queue)
  | .decode _ r _ d => some (.ofZoo 0x12 r d.queue)
  | .nms _ r d _ _ => some (.ofZoo 0x12 r d.queue)
  | .kvAppend _ r d => some (.ofZoo 0x11 r d.queue)
  | .attend _ r d _ => some (.ofZoo 0x11 r d.queue)
  | .pageCtrlOpen _ r d => some (.ofZoo 0x11 r d.queue)
  | .pageCtrlClose _ r d => some (.ofZoo 0x11 r d.queue)
  | .pageCtrlTrim _ r d => some (.ofZoo 0x11 r d.queue)
  | .pageCtrlPin _ r d => some (.ofZoo 0x11 r d.queue)
  | .pageCtrlUnpin _ r d => some (.ofZoo 0x11 r d.queue)
  | .pageCtrlResume _ r d => some (.ofZoo 0x11 r d.queue)
  | .pageCtrlSet _ r d => some (.ofZoo 0x11 r d.queue)
  | .sampleDecode _ q n _ => match s.intakeRegion q.val, s.decoding q n with
    | some r, some a => some (.ofZoo (siteEngine a.site) r (s.intakeClass q.val))
    | _, _ => none
  | _ => none

/-- What runs when the descriptor of a command starts. -/
def State.startCmd (s : State) (c : Instr) : State :=
  match c with
  | .executeDescriptor _ r b d => s.startExecute r b d
  | .accessDescriptor _ r b d => s.runAccess r b d
  | .conv _ r b d => s.startWindow r b 1 d
  | .poolMax _ r b d => s.startWindow r b 2 d
  | .poolAvg _ r b d => s.startWindow r b 3 d
  | .erode _ r b d => s.startWindow r b 4 d
  | .dilate _ r b d => s.startWindow r b 5 d
  | .median _ r b d => s.startWindow r b 6 d
  | .resizeNearest _ r b d => s.startWindow r b 7 d
  | .resizeBilinear _ r b d => s.startWindow r b 8 d
  | .dmaDescriptor _ r eng d => s.runDma r eng d
  | .statsTensor _ r d => s.startStats r d false
  | .statsChannel _ r d => s.startStats r d true
  | .convert _ r d => s.startConvert r d
  | .scaleUpdate _ r d => s.startScaleUpdate r d
  | .optStep _ r d => s.startOptStep r d
  | .decode _ r b d => s.startDecode r b d
  | .nms _ r d closeCount truncated => s.startNms r d closeCount truncated
  | .kvAppend _ r d => s.startAppend r d
  | .attend _ r d missing => s.startAttend r d missing
  | .pageCtrlOpen _ r d => s.startPage r d fun s => s.pageOpen r d
  | .pageCtrlClose _ r d => s.startPage r d fun s => s.pageClose r d
  | .pageCtrlTrim _ r d => s.startPage r d fun s => s.pageTrim r d
  | .pageCtrlPin _ r d => s.startPage r d fun s => s.pagePin r d
  | .pageCtrlUnpin _ r d => s.startPage r d fun s => s.pageUnpin r d
  | .pageCtrlResume _ r d => s.startPage r d fun s => s.pageResume r d
  | .pageCtrlSet _ r d => s.startPage r d fun s => s.pageSet r d
  | .sampleDecode _ q n x => match s.intakeRegion q.val with
    | some r => s.startSample r q n x.header x.tokens x.result
    | none => s
  | _ => s

/-! ## Commits that hold descriptors back (R120) -/

/-- The engine, among those that a commit can ask, that runs a descriptor. -/
def Route.asked (k : Route) : Option Engine :=
  match k.block with
  | some b => if k.engine = 1 then some (.exec k.region b) else if k.engine = 0x10 then some (.windowPort k.region b) else none
  | none =>
    if k.engine = 0x11 then some (.attention k.region) else if k.engine = 0x12 then some (.detection k.region)
    else if k.engine = 0x13 then some (.quant k.region) else if k.engine = 0x14 then some (.decode k.region) else none

/-- Whether a descriptor reads a drained object of an index: SCALE_UPDATE the scaling objects, a rescale table the replacement tables, a window descriptor the selvedge objects, NMS the detection objects, a sample the intake objects; a seed key any descriptor of an engine that the image names for it (R112, R120). -/
def readsIndex (c : Instr) (index : Nat) : Bool :=
  let window (d : WinDesc) : Bool := index == 0x3600 || (index == 0x3410 && (wTable d).isSome)
  index == 0x3C10 || match c with
    | .scaleUpdate _ _ _ => index == 0x3400
    | .convert _ _ d => index == 0x3410 && d.table.isSome
    | .executeDescriptor _ _ _ d => index == 0x3410 && d.out.isSome
    | .conv _ _ _ d => window d
    | .poolMax _ _ _ d => window d
    | .poolAvg _ _ _ d => window d
    | .erode _ _ _ d => window d
    | .dilate _ _ _ d => window d
    | .median _ _ _ d => window d
    | .resizeNearest _ _ _ d => window d
    | .resizeBilinear _ _ _ d => window d
    | .nms _ _ _ _ _ => index == 0x3700
    | .sampleDecode _ _ _ _ => index == 0x3A00
    | _ => false

/-- The commits in their first phase: the group, and the running implicit one. -/
def State.preparing (s : State) : List Commit := (s.commit.group.toList ++ s.commit.implicit.head?.toList).filter fun k => k.started

/-- R120: an engine that has reported ready starts no descriptor that reads an object of the commit until the switch. -/
def State.commitHolds (s : State) (k : Route) (c : Instr) : Bool :=
  match k.asked with
  | none => false
  | some e => s.preparing.any fun x => x.asked.contains e && !x.notReady.contains e && x.entries.any fun v => readsIndex c (v.1 / 256)

/-! ## A block's queue (R147 to R149, R163, R212, R361) -/

/-- The unit of a block that takes a descriptor: 1 the execute sequencer, 2 the access engine, 16 the window port. -/
def laneOf (c : Instr) : Nat :=
  match c with
  | .executeDescriptor _ _ _ _ => 1
  | .accessDescriptor _ _ _ _ => 2
  | _ => 0x10

/-- Whether a descriptor runs on the cells. -/
def usesCells (c : Instr) : Bool :=
  match c with
  | .executeDescriptor _ _ _ _ => true
  | .conv _ _ _ _ => true
  | _ => false

/-- The class of a waiting descriptor. -/
def Waiting.cls (w : Waiting) : Nat := ((descHeader w.c).map hClass).getD 0

/-- The scratchpad buffer of the image that a transfer of block r.b prefetches into, with its size (R149). -/
def State.prefetchBuffer (s : State) (r : Fin 10) (b : Fin 18) (c : Instr) : Option (Nat × Nat) :=
  match c, s.launch.image with
  | .accessDescriptor _ _ _ d, some im =>
    let fits (e : ImageBuffer) : Bool := e.region == r && e.block == b && d.dst.space == 2 && d.dst.region == r.val && d.dst.block == b.val &&
      decide (e.base ≤ d.dst.addr ∧ d.dst.addr + d.length ≤ e.base + e.size)
    if hReleaseHold d.header then none else ((im.buffers.zipIdx).find? fun e => fits e.1).map fun e => (e.2, e.1.size)
  | _, _ => none

/-- Bytes of prefetched data that execute has not yet consumed. -/
def State.prefetched (s : State) (r : Fin 10) (b : Fin 18) : Nat :=
  match s.launch.image with
  | some im => (((s.block r b).held.dedup.filterMap fun k => im.buffers[k]?).map fun e => e.size).sum
  | none => 0

/-- R148, R149: the access engine starts a transfer at most 64 descriptors ahead of the oldest one that the execute sequencer has not completed, into a buffer whose credit is there, while it holds at most 1 MiB of data not yet consumed. -/
def State.accessGoes (s : State) (r : Fin 10) (b : Fin 18) (w : Waiting) : Bool :=
  let ahead := match (s.block r b).waiting.find? fun e => laneOf e.c == 1 with
    | some e => decide (w.num ≤ e.num + 64)
    | none => true
  ahead && match s.prefetchBuffer r b w.c with
    | some (k, size) => !(s.block r b).held.contains k && decide (s.prefetched r b + size ≤ 2 ^ 20)
    | none => true

/-- Whether a waiting descriptor of a block's queue, with those before it, can start: its engine may, takes its class in order and is not held by a commit, the cells that it uses are not those of a waiting CONV, no earlier one waits where it has a fence. -/
def State.blockReady (s : State) (r : Fin 10) (b : Fin 18) (before : List Waiting) (w : Waiting) : Bool :=
  match s.routeOf w.c, descHeader w.c with
  | some k, some h =>
    let busy := match (s.block r b).selWait with
      | some x => laneOf w.c == 0x10 || (x.op == 1 && usesCells w.c)
      | none => false
    s.mayStart r h && !s.commitHolds k w.c && !busy && !(before.any fun e => laneOf e.c == laneOf w.c && e.cls == w.cls) &&
      (!hFence h || (before.isEmpty && (s.block r b).selWait.isNone)) && (laneOf w.c != 2 || s.accessGoes r b w)
  | _, _ => false

/-- Of the waiting descriptors that are ready the next one to start: the first, but one of class L only where no other is ready (R361). -/
def nextReady (ready : List Waiting → Waiting → Bool) (q : List Waiting) : Option Waiting :=
  let all := (q.zipIdx.filter fun e => ready (q.take e.2) e.1).map fun e => e.1
  match all.find? fun w => w.cls != 3 with
  | some w => some w
  | none => all.head?

/-- A waiting descriptor leaves its block's queue and starts; a prefetch takes its buffer's credit. -/
def State.startWaiting (s : State) (r : Fin 10) (b : Fin 18) (w : Waiting) : State :=
  let credit := ((s.prefetchBuffer r b w.c).map fun e => e.1).toList
  (s.modBlock r b fun x => { x with waiting := x.waiting.filter fun e => e.num != w.num, held := x.held ++ credit }).startCmd w.c

/-- One descriptor of a block's queue starts, if one can. -/
def State.pumpOnce (s : State) (r : Fin 10) (b : Fin 18) : State :=
  match nextReady (s.blockReady r b) (s.block r b).waiting with
  | some w => s.startWaiting r b w
  | none => s

/-- The descriptors of a block's queue that can start do. -/
def State.pumpBlock (s : State) (r : Fin 10) (b : Fin 18) : State := (s.block r b).waiting.foldl (fun acc _ => acc.pumpOnce r b) s

/-! ## The zoo's queues (R165, R247) -/

/-- The queue of the zoo that a waiting descriptor stands in. -/
def State.zooKey (s : State) (c : Instr) : Option Nat := (s.routeOf c).map fun k => zooQueue k.engine k.queue k.unit

/-- Whether a waiting descriptor of the zoo, with those before it, can start: each queue goes in order. -/
def State.zooReady (s : State) (r : Fin 10) (before : List Waiting) (w : Waiting) : Bool :=
  match s.routeOf w.c, descHeader w.c with
  | some k, some h => s.mayStart r h && !s.commitHolds k w.c && !(before.any fun e => s.zooKey e.c == s.zooKey w.c)
  | _, _ => false

/-- One descriptor of a region's zoo starts, if one can. -/
def State.pumpZooOnce (s : State) (r : Fin 10) : State :=
  match nextReady (s.zooReady r) s.regions[r].waiting with
  | some w => (s.modRegion r fun x => { x with waiting := x.waiting.erase w }).startCmd w.c
  | none => s

/-- The descriptors of a region's zoo that can start do. -/
def State.pumpZoo (s : State) (r : Fin 10) : State := s.regions[r].waiting.foldl (fun acc _ => acc.pumpZooOnce r) s

/-! ## Arrival, and what waits -/

/-- Whether a region can take descriptors: its logic is on, or quiescing. -/
def State.logicOn (s : State) (r : Fin 10) : Bool :=
  s.power.domains[(⟨r.val, by omega⟩ : Fin 72)].state == 2 || s.power.domains[(⟨r.val, by omega⟩ : Fin 72)].state == 3

/-- A descriptor arrives in its queue: its header is checked there (R165, R361), and it waits until it can start. One for a region whose logic is off, or for a full queue of a block, cannot be written there (DESIGN CHOICE, log entry 66). -/
def State.submit (s : State) (c : Instr) : State :=
  match s.routeOf c, descHeader c with
  | some k, some h =>
    if !s.logicOn k.region then s
    else match k.block with
    | some b =>
      if 64 ≤ (s.block k.region b).waiting.length then s
      else match s.checkBlockHeader k.region b h k.engine with
      | (some st, s1) => s1.refuseHeader k.region b.val h st
      | (none, s1) => (s1.modBlock k.region b fun x => { x with waiting := x.waiting ++ [⟨x.taken, c⟩], taken := x.taken + 1 }).pumpBlock k.region b
    | none => match s.checkZooHeader k.region h k.engine k.queue k.unit with
      | (some st, s1) => s1.refuseHeader k.region 18 h st
      | (none, s1) => (s1.modRegion k.region fun x => { x with waiting := x.waiting ++ [⟨0, c⟩] }).pumpZoo k.region
  | _, _ => s

/-- A block's descriptors go on: the one that waits in its window port, and those of its queue. -/
def State.goOn (s : State) (r : Fin 10) (b : Fin 18) : State := (s.resumeWindow r b).pumpBlock r b

/-- Every descriptor that waits and can go on does (DESIGN CHOICE, log entry 66: when no command waits, and where a command brings one to the same queue or a selvedge entry to the same block). -/
def State.drain (s : State) : State :=
  (idxs 10).foldl (fun acc r => ((idxs 18).foldl (fun acc b => acc.goOn r b) acc).pumpZoo r) s

/-! ## The commands -/

/-- R192, R201. -/
def execExecuteDescriptor (t : Nat) (r : Fin 10) (b : Fin 18) (d : ExecDesc) (s : State) : Host.Outcome State Fault Refusal :=
  .next ((s.advance t).submit (.executeDescriptor t r b d))

/-- R148. -/
def execAccessDescriptor (t : Nat) (r : Fin 10) (b : Fin 18) (d : MoveDesc) (s : State) : Host.Outcome State Fault Refusal :=
  .next ((s.advance t).submit (.accessDescriptor t r b d))

/-- R156. -/
def execDmaDescriptor (t : Nat) (r : Fin 10) (eng : Fin 2) (d : MoveDesc) (s : State) : Host.Outcome State Fault Refusal :=
  .next ((s.advance t).submit (.dmaDescriptor t r eng d))

/-- R222. -/
def execConv (t : Nat) (r : Fin 10) (b : Fin 18) (d : WinDesc) (s : State) : Host.Outcome State Fault Refusal := .next ((s.advance t).submit (.conv t r b d))

/-- R225. -/
def execPoolMax (t : Nat) (r : Fin 10) (b : Fin 18) (d : WinDesc) (s : State) : Host.Outcome State Fault Refusal := .next ((s.advance t).submit (.poolMax t r b d))

/-- R225. -/
def execPoolAvg (t : Nat) (r : Fin 10) (b : Fin 18) (d : WinDesc) (s : State) : Host.Outcome State Fault Refusal := .next ((s.advance t).submit (.poolAvg t r b d))

/-- R225. -/
def execErode (t : Nat) (r : Fin 10) (b : Fin 18) (d : WinDesc) (s : State) : Host.Outcome State Fault Refusal := .next ((s.advance t).submit (.erode t r b d))

/-- R225. -/
def execDilate (t : Nat) (r : Fin 10) (b : Fin 18) (d : WinDesc) (s : State) : Host.Outcome State Fault Refusal := .next ((s.advance t).submit (.dilate t r b d))

/-- R225. -/
def execMedian (t : Nat) (r : Fin 10) (b : Fin 18) (d : WinDesc) (s : State) : Host.Outcome State Fault Refusal := .next ((s.advance t).submit (.median t r b d))

/-- R225. -/
def execResizeNearest (t : Nat) (r : Fin 10) (b : Fin 18) (d : WinDesc) (s : State) : Host.Outcome State Fault Refusal :=
  .next ((s.advance t).submit (.resizeNearest t r b d))

/-- R225. -/
def execResizeBilinear (t : Nat) (r : Fin 10) (b : Fin 18) (d : WinDesc) (s : State) : Host.Outcome State Fault Refusal :=
  .next ((s.advance t).submit (.resizeBilinear t r b d))

/-- R230: an entry arrives, and what waited for it goes on. -/
def execSelvedgeEntryReceived (t : Nat) (r : Fin 10) (b : Fin 18) (side : Fin 2) (header : BitVec 64) (payload : Bytes) (cls ecc : Nat) (s : State) :
    Host.Outcome State Fault Refusal := .next (((s.advance t).selvedgeArrives r b side header payload cls ecc).pumpBlock r b)

/-- R231: the descriptor behind the one that has waited too long can start. -/
def execSelvedgeWaitTimeout (t : Nat) (r : Fin 10) (b : Fin 18) (side : Fin 2) (s : State) : Host.Outcome State Fault Refusal :=
  .next (((s.advance t).selvedgeTimeout r b side).pumpBlock r b)

/-- R203. -/
def execStatsTensor (t : Nat) (r : Fin 10) (d : QuantDesc) (s : State) : Host.Outcome State Fault Refusal := .next ((s.advance t).submit (.statsTensor t r d))

/-- R203. -/
def execStatsChannel (t : Nat) (r : Fin 10) (d : QuantDesc) (s : State) : Host.Outcome State Fault Refusal := .next ((s.advance t).submit (.statsChannel t r d))

/-- R201, R504. -/
def execConvert (t : Nat) (r : Fin 10) (d : QuantDesc) (s : State) : Host.Outcome State Fault Refusal := .next ((s.advance t).submit (.convert t r d))

/-- R205. -/
def execScaleUpdate (t : Nat) (r : Fin 10) (d : ScaleDesc) (s : State) : Host.Outcome State Fault Refusal := .next ((s.advance t).submit (.scaleUpdate t r d))

/-- R208. -/
def execOptStep (t : Nat) (r : Fin 10) (d : OptDesc) (s : State) : Host.Outcome State Fault Refusal := .next ((s.advance t).submit (.optStep t r d))

/-- R236. -/
def execDecode (t : Nat) (r : Fin 10) (b : Fin 18) (d : ZooDesc) (s : State) : Host.Outcome State Fault Refusal := .next ((s.advance t).submit (.decode t r b d))

/-- R241. -/
def execNms (t : Nat) (r : Fin 10) (d : ZooDesc) (closeCount : Nat) (truncated : Bool) (s : State) : Host.Outcome State Fault Refusal :=
  .next ((s.advance t).submit (.nms t r d closeCount truncated))

/-- R250. -/
def execKvAppend (t : Nat) (r : Fin 10) (d : AppendDesc) (s : State) : Host.Outcome State Fault Refusal := .next ((s.advance t).submit (.kvAppend t r d))

/-- R254. -/
def execAttend (t : Nat) (r : Fin 10) (d : ZooDesc) (missing : Option Nat) (s : State) : Host.Outcome State Fault Refusal :=
  .next ((s.advance t).submit (.attend t r d missing))

/-- R248. -/
def execPageCtrlOpen (t : Nat) (r : Fin 10) (d : PageDesc) (s : State) : Host.Outcome State Fault Refusal := .next ((s.advance t).submit (.pageCtrlOpen t r d))

/-- R248. -/
def execPageCtrlClose (t : Nat) (r : Fin 10) (d : PageDesc) (s : State) : Host.Outcome State Fault Refusal := .next ((s.advance t).submit (.pageCtrlClose t r d))

/-- R248. -/
def execPageCtrlTrim (t : Nat) (r : Fin 10) (d : PageDesc) (s : State) : Host.Outcome State Fault Refusal := .next ((s.advance t).submit (.pageCtrlTrim t r d))

/-- R257. -/
def execPageCtrlPin (t : Nat) (r : Fin 10) (d : PageDesc) (s : State) : Host.Outcome State Fault Refusal := .next ((s.advance t).submit (.pageCtrlPin t r d))

/-- R257. -/
def execPageCtrlUnpin (t : Nat) (r : Fin 10) (d : PageDesc) (s : State) : Host.Outcome State Fault Refusal := .next ((s.advance t).submit (.pageCtrlUnpin t r d))

/-- R260. -/
def execPageCtrlResume (t : Nat) (r : Fin 10) (d : PageDesc) (s : State) : Host.Outcome State Fault Refusal := .next ((s.advance t).submit (.pageCtrlResume t r d))

/-- R248. -/
def execPageCtrlSet (t : Nat) (r : Fin 10) (d : PageDesc) (s : State) : Host.Outcome State Fault Refusal := .next ((s.advance t).submit (.pageCtrlSet t r d))

/-- R317. -/
def execSampleDecode (t : Nat) (q : Fin 8) (submission : Nat) (run : SampleRun) (s : State) : Host.Outcome State Fault Refusal :=
  .next ((s.advance t).submit (.sampleDecode t q submission run))

end Sys2Proof.Machine
end

