-- ==== Sys2Proof/Machine/Release.lean ====
section
/-!
DEFINITION. Release counts and the start of a launch: outputs, comparison, deadlines, the turn of the beat, pauses, beat 0 and relaunches (R78 to R85, R94, R330, R363 to R369, R407, R458, R480).
-/

namespace Sys2Proof.Machine

/-! ## Outputs at a release count (R78 to R81) -/

/-- The reports in ascending order of their output index (R79). -/
def insertReport (r : Report) (l : List Report) : List Report :=
  match l with
  | [] => [r]
  | x :: rest => if r.out < x.out then r :: x :: rest else x :: insertReport r rest

/-- R79. -/
def sortReports (l : List Report) : List Report := l.foldl (fun acc r => insertReport r acc) []

/-- The bytes of an axis command record (R333). -/
def cmdBytes (r : CmdRecord) : Bytes :=
  leBytes 8 (at_ 16 48 r.dutyA ||| at_ 16 32 r.dutyB ||| at_ 16 16 r.dutyC ||| at_ 4 12 r.axis.val ||| at_ 1 11 (b2n r.enable) ||| at_ 3 8 r.legs.toNat
    ||| at_ 8 0 r.reserved)

/-- The bytes of a payload as a record of a host output queue; named fields have no stated layout: free values (R244, R333, R428). -/
def State.hostBytes (s : State) (size : Nat) (p : Payload) : Bytes × State :=
  match p with
  | .frame f => (leBytes 2 f.crc.toNat ++ frameBody f ++ f.records.flatMap cmdBytes, s)
  | .batch b => (Batch_bytes b, s)
  | .canFrame _ _ data => (data, s)
  | .bytes b => (b, s)
  | .fields l => let d := s.drawNat 74 (8 * size) l; (leBytes size d.1, d.2)

/-- A released output becomes a record of a queue. -/
def State.hostRecord (s : State) (q : Fin 16) (p : Payload) : State :=
  let b := s.hostBytes (s.recordSize q) p
  b.2.pushHost q b.1

/-- An output leaves its release buffer at a release count: it is shown; a command frame goes to the motion unit, a CAN frame to its controller, a record of a host output to its queue (R78, R331, R407, R428). -/
def State.releaseOutput (s : State) (beat count out cls source : Nat) (p : Payload) : State :=
  let s1 := s.emit (.released count out cls source p)
  let s2 := match p with
    | .frame f => (s1.acceptFrame f beat count).countChip 10 1
    | .batch b => s1.countChip 9 b.records.length
    | .canFrame ctl ident data => s1.releaseFrame ctl ident data beat
    | .fields _ => s1
    | .bytes _ => s1
  let queues := match s.launch.image with
    | some im => (im.hostOutputs.filter fun (e : Nat × Nat) => e.1 == out).map fun (e : Nat × Nat) => e.2
    | none => []
  queues.foldl (fun acc q => acc.onUnit 16 q fun q => acc.hostRecord q p) s2

/-- The axes that an emitted payload commands. -/
def payloadAxes (p : Payload) : List (Fin 16) :=
  match p with
  | .frame f => if frameOk f then f.records.map fun r => r.axis else []
  | _ => []

/-- A payload with the late flag of R73. -/
def latePayload (late : Bool) (p : Payload) : Payload :=
  match p with
  | .batch b => .batch { b with flags := if late then b.flags ||| 0x40 else b.flags }
  | _ => p

/-- A payload with the suspect flag (R369). -/
def suspectPayload (p : Payload) : Payload :=
  match p with
  | .batch b => .batch (suspectBatch b)
  | _ => p

/-- Whether a class I output is a sampled one with a shadow: the batch of a tile whose number modulo the sampling interval 0x4878:02 equals its stream's modulo it (R362, R363). -/
def State.shadowed (s : State) (r : Report) : Bool :=
  let n := max 1 (s.nat (ob 0x4878 2))
  r.shadow.isSome && match r.primary.payload with
    | .batch b => b.tileNumber % n == b.stream % n
    | _ => false

/-- An output incomplete at its release count is counted and missed (R80, R369). -/
def State.missAt (s : State) (beat : Nat) (r : Report) : State :=
  ((if r.primary.complete then s else s.countChip 2 1)).miss beat r.out (r.cls == 1) (s.outputAxes r.out r.primary.payload)

/-- R363 to R369: a class C output of beat `beat` at its release count: judged, emitted or missed; the axes that it commands. -/
def State.releaseC (s : State) (beat count : Nat) (r : Report) (late : Bool) : State × List (Fin 16) :=
  match s.judgeOutput r with
  | .missed => (s.missAt beat r, [])
  | .emitted p source why =>
    let s1 := (s.releaseOutput beat count r.out 1 source (latePayload late p)).clearMisses r.out
    let s2 := match why with
      | some (region, field, kind) => s1.disagree beat r.out region field kind (s.outputAxes r.out r.primary.payload)
      | none => s1
    (s2, payloadAxes p)

/-- Whether an output waits for its completion after a miss (R369). -/
def State.awaits (s : State) (out : Nat) : Bool := s.launch.deferred.any fun d => d.out == out

/-- R363, R369: a class I output at its release count: one that missed is emitted at the first release count after it completes, suspect; a shadowed one is compared; an invalid one without a shadow is missed. -/
def State.releaseI (s : State) (beat count : Nat) (r : Report) (late : Bool) : State :=
  if !r.primary.complete then
    (if s.awaits r.out then s else s.missAt beat r).modLaunch fun l => { l with deferred := (l.deferred.filter fun d => d.out != r.out) ++ [r] }
  else if s.awaits r.out then
    (s.releaseOutput beat count r.out 2 0 (latePayload late (suspectPayload r.primary.payload))).modLaunch fun l =>
      { l with deferred := l.deferred.filter fun d => d.out != r.out }
  else if s.shadowed r then
    match s.judgeOutput r with
    | .missed => s.missAt beat r
    | .emitted p source why =>
      let s1 := s.releaseOutput beat count r.out 2 source (latePayload late p)
      match why with
      | some (region, field, kind) => s1.disagree beat r.out region field kind 0
      | none => s1
  else if r.primary.invalid then s.missAt beat r
  else s.releaseOutput beat count r.out 2 0 (latePayload late r.primary.payload)

/-- The late count's number to which an output of release count `n` has been moved (R73). -/
def State.movedTo (s : State) (n out : Nat) : Option Nat :=
  (s.launch.late.find? fun e => e.out == out && e.beat == n && decide (n < e.late)).map fun e => e.late

/-- Whether an output's release count `n` is the late one that was declared (R73). -/
def State.declaredLate (s : State) (n out : Nat) : Bool := s.launch.late.any fun e => e.out == out && decide (e.beat < e.late) && e.late == n

/-- One output at release count `n` of a launch: class C belongs to the beat that ends, class I to the one that begins; one declared late moves on to its late count, complete or not (R73); class L is emitted once complete (R81). -/
def State.releaseOne (s : State) (run : Run) (n : Nat) (r : Report) : State × List (Fin 16) :=
  let count := run.countOf n
  let late := s.declaredLate n r.out
  if r.cls = 1 ∨ r.cls = 2 then
    match s.movedTo n r.out with
    | some m => (s.enterBuffer m r, [])
    | none => if r.cls = 1 then s.releaseC (n - 1) count r late else (s.releaseI n count r late, [])
  else if r.primary.complete then (s.releaseOutput n count r.out 3 0 r.primary.payload, [])
  else (s, [])

/-- The outputs of release count `n` that no report names: those that the release buffers hold for it, and those that missed and have completed since (R78, R369). -/
def State.dueOutputs (s : State) (n : Nat) (reports : List Report) : List Report :=
  let held := (s.launch.buffered.filter fun e => decide (e.due ≤ n)).map fun e => e.rep
  let rest := held.filter fun d => !(reports.any fun r => r.out == d.out)
  rest ++ s.launch.deferred.filter fun d => d.primary.complete && !((reports ++ rest).any fun r => r.out == d.out)

/-- The outputs of release count `n`, in ascending order of their index: those reported and those that the release buffers hold (R78, R79); axes that expect a command frame and get none are counted (R331). -/
def State.releaseAll (s : State) (run : Run) (n : Nat) (reports : List Report) : State :=
  let all := sortReports (reports ++ s.dueOutputs n reports)
  let s1 := s.modLaunch fun l => { l with buffered := l.buffered.filter fun e => decide (n < e.due) }
  let r := all.foldl (fun (acc : State × List (Fin 16)) r =>
    let x := acc.1.releaseOne run n r
    (x.1, acc.2 ++ x.2)) (s1, [])
  let slack := r.1.drawNat 47 64 []
  let s2 := if all.any fun r => r.primary.complete && r.cls != 3 then
      slack.2.modCounters fun c => { c with chip := c.chip.set 1 (min c.chip[1] slack.1) }
    else r.1
  (s2.modLaunch fun l => { l with late := l.late.filter fun e => decide (n < e.late) }).countMissing (n - 1) r.2

/-! ## The turn of the beat (R82, R85, R330, R458) -/

/-- The present beat becomes `n`. -/
def State.beginBeat (s : State) (n : Nat) : State := s.modLaunch fun l => { l with run := l.run.map fun r => { r with beat := n } }

/-- R458: at pause beat B work and triggers stop, the Crust takes its no-beat state and domains shut down. -/
def State.pauseAtBeat (s : State) (run : Run) (n : Nat) : State :=
  if run.pauseAt = some n ∧ s.power.state = .run then
    let s1 := (s.modLaunch fun l => { l with run := l.run.map fun r => { r with paused := true, pauseAt := none } }).modPower fun p => { p with state := .idle }
    (idxs 72).foldl (fun acc d => acc.latchRequest d) s1.enterNoBeat
  else s

/-- R458: at resume beat R the beat begins, if every domain is on; else the device stays idle: fault 0x100D. -/
def State.resumeAtBeat (s : State) (run : Run) (n : Nat) : State :=
  if run.resumeAt ≠ some n then s
  else if s.domainsReady then
    let s1 := (s.modLaunch fun l => { l with run := l.run.map fun r => { r with paused := false, resumeAt := none } }).modPower fun p => { p with state := .run }
    s1.enterBeat s.ownImageHash
  else
    (idxs 72).foldl (fun acc d => acc.latchRequest d)
      ((s.modLaunch fun l => { l with run := l.run.map fun r => { r with resumeAt := none } }).fault 0x100D .chip n)

/-- Whether the launch ends at release count `n`: at once (R27, R446), or because it is the last one before the count that a relaunch names (R480). -/
def Run.endsAt (run : Run) (n : Nat) : Bool :=
  run.endNext || (match run.endAt with
    | some e => decide (e ≤ run.countOf (n + 1))
    | none => false)

/-- A reset that was accepted takes effect at the release count; causes of the ending beat stay (R377, R378). -/
def State.resetDue (s : State) (beat : Nat) : State := if s.crust.resetAsked then s.applyReset fun b => b == beat else s

/-- What every release count does beside the outputs: late camera lines, counters, the accepted reset, a parameter set that waits (R286, R378, R380, R462). -/
def State.endBeat (s : State) (n : Nat) : State := ((((s.sweepCuts).countChip 0 1).zeroIfDue).resetDue (n - 1)).activateDue

/-- R78 to R85: release count `n` ends beat `n − 1`, whose ring messages are consumed (R96), and begins beat `n`, whose input record is formed (R330, R332). -/
def State.release (s : State) (reports : List Report) (samples : List AxisSample) : State :=
  match s.launch.run with
  | none => s
  | some run =>
    let n := run.beat + 1
    if s.now < run.countOf n then s
    else
      let s1 := ((if run.paused then s else s.releaseAll run n reports).endBeat n).dropConsumed.beginBeat n
      if run.endsAt n then s1.endLaunch
      else
        let s2 := (s1.pauseAtBeat run n).resumeAtBeat run n
        if s2.launch.run.any fun r => r.paused then s2 else s2.sampleBeat n samples

/-! ## Beat 0 (R82, R94, R140, R204, R449) -/

/-- Counters of the motion unit that count since launch (R353). -/
def sinceLaunch : List Key := (List.range 10).map fun k => ob 0x4080 (k + 1)

/-- Blocks and regions at the start of a launch: accumulators zero, execute snapshots zero, scale slots as the image declares them; in pace mode supplies at V_plan (R140, R204, R449, R469). Queues, selvedge channels and scratchpad buffers start empty (DESIGN CHOICE, log entry 66). -/
def State.launchBlocks (s : State) (im : Image) (pace : Bool) : State :=
  let s0 := s.modBlocks fun _ x =>
    { x with
      acc := [], poison := [], lead := 0, selLeft := [], selRight := [], selOut := [], outLeft := 0, outRight := 0, selWait := none
      waiting := [], taken := 0, held := []
      snapSeq := 0, snapWorked := 0, snapVoided := 0, snapCount := 0 }
  let s1 := ((s0.modRegions fun r x =>
      { x with waiting := [], slots := (im.slots.filter fun e => e.region.val == r).foldl (fun l e => put l e.slot (slotOfInit e)) [] }).modKv fun k =>
      { k with badFrames := Vector.replicate 4 [] }).clearDetect
  (idxs 10).foldl (fun acc r =>
    let a := acc.applyReplan r
    if pace then a.modRegion r fun x => { x with supply := x.vplan, boost := 0 } else a) s1

/-- Axes, triggers, host queues and the Crust's windows at the start of a launch (R335, R353, R366, R402, R436). -/
def State.launchLine (s : State) : State :=
  let s1 := (s.clearKeys sinceLaunch).modMotion fun m =>
    { m with axes := m.axes.map fun a => { a with queued := [], lastBeat := 0, clampBeats := [], carrier := none }, clamps := [] }
  let s2 := (s1.modTime fun tm => { tm with edges := Vector.replicate 64 0, lastEdge := Vector.replicate 64 none, dueEdges := Vector.replicate 64 [] }).modNet fun n =>
    { n with queues := n.queues.map fun q => { q with dropped := 0 }, ringIn := [] }
  s2.modCrust fun c => { c with disagreed := [], misses := [], latches := c.latches.map fun l => { l with beat := 2 ^ 64 } }

/-- The cameras answer at the launch (R272). -/
def State.discoverAll (s : State) (cams : List (Fin 24 × Discovery)) : State :=
  cams.foldl (fun acc e => if acc.nat (camObj e.1.val 1) = 0 then acc else acc.discover e.1 e.2) s

/-- R94, R475: a launch that starts without synchronisation runs on holdover or free-running time: state 4, fault 0x0C05. -/
def State.launchTime (s : State) (count : Nat) : State :=
  let ok := if s.service.auto then s.synchronisedIn s.ownDomain (2 ^ 63) else s.time.sync == 2
  if ok then s.modLaunch fun l => { l with state := .running }
  else (s.modLaunch fun l => { l with state := .holdover }).fault 0x0C05 .chip count

/-- R474, R475, R485: the time from the last reset to its first beat 0; autolaunch beyond its bound writes fault 0x1103. -/
def State.firstBeat (s : State) : State :=
  if !s.service.beat0Due then s
  else
    let ms := (s.now - s.service.bootAt) / 1000000
    let bound := if s.service.lastReset ≤ 3 then 3951 else 3801
    let s1 := s.modService fun v => { v with bootMs := ms % 2 ^ 32, beat0Due := false, auto := false }
    if s.service.auto ∧ bound < ms then s1.fault 0x1103 .chip (at_ 8 0 10 ||| at_ 32 16 ms) else s1

/-- The ten values of V_plan at the launch (R102, R449). -/
def State.fixPlan (s : State) : State := s.modLaunch fun l => { l with plan := (idxs 10).map fun r => s.regions[r].vplan }

/-- R446: at a new launch the HBM address space is interleaved over the stacks that remain; what it held is lost where that changes. -/
def State.reinterleave (s : State) : State :=
  let left := [0, 1, 2, 3].filter fun k => !s.power.stacksOut.contains k
  if s.power.interleave = left then s
  else (s.modPower fun p => { p with interleave := left }).modMem fun m => { m with hbm := [] }

/-- Beat 0 of a launch at a count (R82, R85, R94, R99, R101, R102, R117, R124, R272, R330, R376, R380, R449). -/
def State.beginLaunch (s : State) (im : Image) (count : Nat) (cams : List (Fin 24 × Discovery)) : State :=
  let s1 := ((s.endLaunch.discardGroup 2)).applyPending
  let pace := s1.nat (ob 0x3C00 1) == 1
  let run : Run := { start := count, period := s1.nat (ob 0x3C00 3), pace := pace, beat := 0, pauseAt := none, resumeAt := none, paused := false,
                     endNext := false, endAt := none }
  let s2 := s1.modLaunch fun l =>
    { l with run := some run, count := count, image := some im, variant := (s1.variantFor im).getD 0, lastBeat := none, buffered := [], deferred := [], late := [], needAck := [], final := false }
  let s3 := (((s2.launchBlocks im pace).launchLine).launchStreams.discoverAll cams).launchHeads.launchIntake.launchNet
  let s4 := (s3.modPower fun p => { p with steps := [], stepBeat := none }).reinterleave.fixPlan.startElements.showAllKv.activateAtLaunch.launchBeat
  (((s4.launchTime count).enterBeat im.hash).firstBeat).sampleBeat 0 []

/-- R94: the launch count of a confirmed launch; where the launch can no longer be, as after the redundancy is exhausted (R27), it is discarded. -/
def State.startLaunch (s : State) (cams : List (Fin 24 × Discovery)) : State :=
  match s.launch.state, s.launch.image with
  | .confirmed, some im =>
    if s.now < s.launch.count then s else if s.launchRefused (some im) then s.dropLaunch else s.beginLaunch im s.launch.count cams
  | _, _ => s

/-- R480: at the relaunch count the new launch begins with the new image, the image slots swap, and attention state is kept only where the image says that it is compatible; an image whose launch is refused is dropped. -/
def State.relaunch (s : State) : State :=
  let count := s.nat (ob 0x5830 3)
  match s.service.imgStaged with
  | none => s
  | some im =>
    if s.service.imgState ≠ 3 ∨ s.now < count then s
    else if s.launchRefused (some im) then (s.endLaunch.refuseImage 6).dropLaunch
    else
      let s1 := s.endLaunch.modService fun v => { v with imgState := 0, imgStaged := none, imgSlot := 1 - v.imgSlot }
      let s2 := if im.flags.getLsbD 2 then s1 else s1.modKv fun _ => Kv.reset
      s2.beginLaunch im count []

/-! ## No command waits -/

/-- One tick of the timebase passes: 4 ns of weft count (R383); clamped ticks are reported (R402), and the dictionary server and the descriptors that wait go on. -/
def State.idleTick (s : State) : State := (s.modTime Time.tick).reportClamps.serve.drain

/-! ## The commands -/

/-- R78, R82, R330, R368. -/
def execReleaseCount (t : Nat) (reports : List Report) (samples : List AxisSample) (s : State) : Host.Outcome State Fault Refusal :=
  .next ((s.advance t).release reports samples).serve

/-- R94. -/
def execLaunchStart (t : Nat) (cams : List (Fin 24 × Discovery)) (s : State) : Host.Outcome State Fault Refusal :=
  .next ((s.advance t).startLaunch cams).serve

/-- R480. -/
def execRelaunch (t : Nat) (s : State) : Host.Outcome State Fault Refusal := .next (s.advance t).relaunch.serve

end Sys2Proof.Machine
end

