-- ==== Sys2Proof/Machine/Requests.lean ====
section
/-!
DEFINITION. Commands that are one write or read of an object over a session, and the events of the commit control: their meaning is the dictionary server's (R103 to R125) with what the object does.
-/

namespace Sys2Proof.Machine

/-- R308, R309: the end of a compensation interval; a drive level that differs is committed as a write of that object. -/
def State.endCompensation (s : State) (h : Fin 12) : State :=
  let r := s.endInterval h
  match r.2 with
  | some d => (r.1.implicitCommit (headObj h.val 8) (.int d) {}).1
  | none => r.1

/-! ## The commands -/

/-- R42. -/
def execFaultLogRead (t : Nat) (ses : Session) (s : State) : Host.Outcome State Fault Refusal := .next ((s.advance t).readObject ses (ob 0x5810 5) 1024)

/-- R43. -/
def execFaultAcknowledge (t : Nat) (ses : Session) (seq : Nat) (s : State) : Host.Outcome State Fault Refusal :=
  .next ((s.advance t).writeNat ses (ob 0x5810 9) seq)

/-- R93. -/
def execLaunchPropose (t : Nat) (ses : Session) (count : Nat) (s : State) : Host.Outcome State Fault Refusal :=
  .next ((s.advance t).writeNat ses (ob 0x3C00 4) count)

/-- R20, R113, R114. -/
def execObjectWrite (t : Nat) (ses : Session) (key : Key) (v : Val) (s : State) : Host.Outcome State Fault Refusal :=
  .next ((s.advance t).writeObject ses key v)

/-- R109. -/
def execStoreAllParameters (t : Nat) (ses : Session) (v : Nat) (flash : Nat) (s : State) : Host.Outcome State Fault Refusal :=
  .next ((s.advance t).writeNat ses (ob 0x1010 1) v { flash := flash })

/-- R109. -/
def execRestoreDefaultParameters (t : Nat) (ses : Session) (v : Nat) (s : State) : Host.Outcome State Fault Refusal :=
  .next ((s.advance t).writeNat ses (ob 0x1011 1) v)

/-- R115. -/
def execCommitOpen (t : Nat) (ses : Session) (s : State) : Host.Outcome State Fault Refusal := .next ((s.advance t).writeNat ses (ob 0x2010 1) 1)

/-- R118. -/
def execCommit (t : Nat) (ses : Session) (s : State) : Host.Outcome State Fault Refusal := .next ((s.advance t).writeNat ses (ob 0x2010 1) 2)

/-- R118. -/
def execCommitDiscard (t : Nat) (ses : Session) (s : State) : Host.Outcome State Fault Refusal := .next ((s.advance t).writeNat ses (ob 0x2010 1) 3)

/-- R120. -/
def execEngineReadyReport (t : Nat) (e : Engine) (s : State) : Host.Outcome State Fault Refusal := .next (((s.advance t).engineReady e).serve)

/-- R119, R120. -/
def execCommitSwitch (t : Nat) (s : State) : Host.Outcome State Fault Refusal := .next (s.advance t).switchDue.serve

/-- R121. -/
def execCommitTimeout (t : Nat) (s : State) : Host.Outcome State Fault Refusal := .next (s.advance t).commitTimeouts.serve

/-- R121. -/
def execCommitBeatPassed (t : Nat) (s : State) : Host.Outcome State Fault Refusal := .next (s.advance t).beatPassed.serve

/-- R124. -/
def execCommitGroupIdleTimeout (t : Nat) (s : State) : Host.Outcome State Fault Refusal := .next (s.advance t).groupIdle.serve

/-- R157. -/
def execMapOutRequest (t : Nat) (ses : Session) (loc : BitVec 32) (s : State) : Host.Outcome State Fault Refusal :=
  .next ((s.advance t).writeNat ses (ob 0x3200 5) loc.toNat)

/-- R292. -/
def execCameraRegisterRequest (t : Nat) (ses : Session) (request : Bytes) (error : Nat) (answer : Bytes) (s : State) : Host.Outcome State Fault Refusal :=
  .next ((s.advance t).writeObject ses (ob 0x2801 1) (.bytes request) { camera := some (error, answer) })

/-- R308, R309. -/
def execCompensationIntervalEnd (t : Nat) (h : Fin 12) (s : State) : Host.Outcome State Fault Refusal := .next (((s.advance t).endCompensation h).serve)

/-- R309. -/
def execCaptureReferenceTarget (t : Nat) (ses : Session) (h : Fin 12) (s : State) : Host.Outcome State Fault Refusal :=
  .next ((s.advance t).writeNat ses (headObj h.val 0x0A) 1)

/-- R313. -/
def execSubmittedCountWrite (t : Nat) (ses : Session) (q : Fin 8) (count : Nat) (s : State) : Host.Outcome State Fault Refusal :=
  .next ((s.advance t).writeNat ses (intakeObj q.val 0x14) count)

/-- R325. -/
def execFlush (t : Nat) (ses : Session) (q : Fin 8) (s : State) : Host.Outcome State Fault Refusal := .next ((s.advance t).writeNat ses (intakeObj q.val 0x15) 1)

/-- R352. -/
def execSensorSupplyCommand (t : Nat) (ses : Session) (k : Fin 16) (v : Nat) (s : State) : Host.Outcome State Fault Refusal :=
  .next ((s.advance t).writeNat ses (ob 0x4060 (k.val + 1)) v)

/-- R380. -/
def execParameterSetValidate (t : Nat) (ses : Session) (s : State) : Host.Outcome State Fault Refusal := .next ((s.advance t).writeNat ses (ob 0x4810 3) 1)

/-- R380. -/
def execParameterSetCancel (t : Nat) (ses : Session) (s : State) : Host.Outcome State Fault Refusal := .next ((s.advance t).writeNat ses (ob 0x4810 3) 3)

/-- R413. -/
def execRecoveryCommand (t : Nat) (ses : Session) (ctl : Fin 4) (s : State) : Host.Outcome State Fault Refusal :=
  .next ((s.advance t).writeNat ses (ob (0x2310 + ctl.val) 0x0F) 1)

/-- R429. -/
def execQueuePairReestablish (t : Nat) (ses : Session) (qp : Nat) (s : State) : Host.Outcome State Fault Refusal :=
  .next ((s.advance t).writeNat ses (ob 0x2480 1) qp)

/-- R430. -/
def execPortUpCommand (t : Nat) (ses : Session) (port : Fin 8) (s : State) : Host.Outcome State Fault Refusal :=
  .next ((s.advance t).writeNat ses (ob 0x2402 (port.val + 1)) 1)

/-- R428. -/
def execConsumerIndexWrite (t : Nat) (ses : Session) (q : Fin 16) (index : Nat) (s : State) : Host.Outcome State Fault Refusal :=
  .next ((s.advance t).writeNat ses (ob (0x2460 + q.val) 5) index)

/-- R435. -/
def execLinkUpCommand (t : Nat) (ses : Session) (s : State) : Host.Outcome State Fault Refusal := .next ((s.advance t).writeNat ses (ob 0x2500 3) 1)

/-- R442, R445. -/
def execDomainStateRequest (t : Nat) (ses : Session) (d : Fin 72) (v : Nat) (s : State) : Host.Outcome State Fault Refusal :=
  .next ((s.advance t).writeNat ses (ob 0x2110 (d.val + 1)) v)

/-- R450. -/
def execComputeDieRestart (t : Nat) (ses : Session) (s : State) : Host.Outcome State Fault Refusal := .next ((s.advance t).writeNat ses (ob 0x2100 0x0E) 1)

/-- R453. -/
def execMeasureNow (t : Nat) (ses : Session) (reads : List AgeRead) (s : State) : Host.Outcome State Fault Refusal :=
  .next ((s.advance t).writeNat ses (ob 0x2140 3) 1 { reads := some reads })

/-- R457, R458. -/
def execIdleRequest (t : Nat) (ses : Session) (s : State) : Host.Outcome State Fault Refusal := .next ((s.advance t).writeNat ses (ob 0x2100 3) 1)

/-- R457, R458. -/
def execResumeRequest (t : Nat) (ses : Session) (s : State) : Host.Outcome State Fault Refusal := .next ((s.advance t).writeNat ses (ob 0x2100 3) 2)

/-- R457, R459. -/
def execStandbyRequest (t : Nat) (ses : Session) (s : State) : Host.Outcome State Fault Refusal := .next ((s.advance t).writeNat ses (ob 0x2100 3) 3)

/-- R457, R459. -/
def execLeaveStandby (t : Nat) (ses : Session) (s : State) : Host.Outcome State Fault Refusal := .next ((s.advance t).writeNat ses (ob 0x2100 3) 4)

/-- R462. -/
def execZeroAllCounters (t : Nat) (ses : Session) (s : State) : Host.Outcome State Fault Refusal := .next ((s.advance t).writeNat ses (ob 0x5000 3) 1)

/-- R471, R472. -/
def execDumpWindowRead (t : Nat) (ses : Session) (s : State) : Host.Outcome State Fault Refusal := .next ((s.advance t).readObject ses (ob 0x5080 1) 262144)

/-- R473. -/
def execResetRequestWarm (t : Nat) (ses : Session) (s : State) : Host.Outcome State Fault Refusal := .next ((s.advance t).writeNat ses (ob 0x5800 1) 1)

/-- R473. -/
def execResetRequestCold (t : Nat) (ses : Session) (s : State) : Host.Outcome State Fault Refusal := .next ((s.advance t).writeNat ses (ob 0x5800 1) 2)

/-- R481. -/
def execFirmwareValidate (t : Nat) (ses : Session) (s : State) : Host.Outcome State Fault Refusal := .next ((s.advance t).writeNat ses (ob 0x5820 2) 1)

/-- R481. -/
def execFirmwareSchedule (t : Nat) (ses : Session) (s : State) : Host.Outcome State Fault Refusal := .next ((s.advance t).writeNat ses (ob 0x5820 2) 2)

/-- R481. -/
def execFirmwareCancel (t : Nat) (ses : Session) (s : State) : Host.Outcome State Fault Refusal := .next ((s.advance t).writeNat ses (ob 0x5820 2) 3)

/-- R480. -/
def execImageValidate (t : Nat) (ses : Session) (s : State) : Host.Outcome State Fault Refusal := .next ((s.advance t).writeNat ses (ob 0x5830 2) 1)

/-- R480. -/
def execImageRelaunch (t : Nat) (ses : Session) (s : State) : Host.Outcome State Fault Refusal := .next ((s.advance t).writeNat ses (ob 0x5830 2) 2)

/-- R480. -/
def execImageCancel (t : Nat) (ses : Session) (s : State) : Host.Outcome State Fault Refusal := .next ((s.advance t).writeNat ses (ob 0x5830 2) 3)

/-- R477. -/
def execRaiseMinimumSecurityVersion (t : Nat) (ses : Session) (v : Nat) (s : State) : Host.Outcome State Fault Refusal :=
  .next ((s.advance t).writeNat ses (ob 0x5800 8) v)

/-- R476. -/
def execImageKeySlotWrite (t : Nat) (ses : Session) (key : Bytes) (s : State) : Host.Outcome State Fault Refusal :=
  .next ((s.advance t).writeObject ses (ob 0x5840 1) (.bytes key))

/-- R476. -/
def execImageKeyRecord (t : Nat) (ses : Session) (record : Bytes) (s : State) : Host.Outcome State Fault Refusal :=
  .next ((s.advance t).writeObject ses (ob 0x5840 3) (.bytes record))

/-- R484. -/
def execMigrationRequest (t : Nat) (ses : Session) (r : Nat) (s : State) : Host.Outcome State Fault Refusal :=
  .next ((s.advance t).writeNat ses (ob 0x5800 0x0C) r)

end Sys2Proof.Machine
end

