-- ==== Sys2Proof/Machine/Dispatch.lean ====
section
/-!
DEFINITION. The dispatch of commands to their meanings: one arm per constructor of Instr.
-/

namespace Sys2Proof.Machine

/-- The effect of a command on everything but the queue. -/
def exec (i : Instr) (s : State) : Host.Outcome State Fault Refusal :=
  match i with
  | .emcyInhibitExpiry t => Sys2Proof.Machine.execEmcyInhibitExpiry t s
  | .faultLogRead t ses => Sys2Proof.Machine.execFaultLogRead t ses s
  | .faultAcknowledge t ses seq => Sys2Proof.Machine.execFaultAcknowledge t ses seq s
  | .hostQueueDrainTimeout t q => Sys2Proof.Machine.execHostQueueDrainTimeout t q s
  | .illegalDualRailCode t r b channel owner => Sys2Proof.Machine.execIllegalDualRailCode t r b channel owner s
  | .replicaMeasurement t counts => Sys2Proof.Machine.execReplicaMeasurement t counts s
  | .synchroniserParityError t boundary owner => Sys2Proof.Machine.execSynchroniserParityError t boundary owner s
  | .blockStallTimeout t r b micros inFlight => Sys2Proof.Machine.execBlockStallTimeout t r b micros inFlight s
  | .releaseCount t reports samples => Sys2Proof.Machine.execReleaseCount t reports samples s
  | .launchPropose t ses count => Sys2Proof.Machine.execLaunchPropose t ses count s
  | .launchProposal t f => Sys2Proof.Machine.execLaunchProposal t f s
  | .launchAcknowledge t f => Sys2Proof.Machine.execLaunchAcknowledge t f s
  | .launchConfirm t f => Sys2Proof.Machine.execLaunchConfirm t f s
  | .launchConfirmResponse t f => Sys2Proof.Machine.execLaunchConfirmResponse t f s
  | .launchConfirmRepeat t => Sys2Proof.Machine.execLaunchConfirmRepeat t s
  | .launchAckTimeout t => Sys2Proof.Machine.execLaunchAckTimeout t s
  | .launchAbort t f => Sys2Proof.Machine.execLaunchAbort t f s
  | .launchAbortDeadline t => Sys2Proof.Machine.execLaunchAbortDeadline t s
  | .launchStart t cams => Sys2Proof.Machine.execLaunchStart t cams s
  | .sdoRequest t ctl req => Sys2Proof.Machine.execSdoRequest t ctl req s
  | .usdoRequest t ctl req => Sys2Proof.Machine.execUsdoRequest t ctl req s
  | .sdoTimeout t => Sys2Proof.Machine.execSdoTimeout t s
  | .nmtCommand t ctl node cmd => Sys2Proof.Machine.execNmtCommand t ctl node cmd s
  | .heartbeat t => Sys2Proof.Machine.execHeartbeat t s
  | .rpdoReceived t n data => Sys2Proof.Machine.execRpdoReceived t n data s
  | .objectWrite t ses key v => Sys2Proof.Machine.execObjectWrite t ses key v s
  | .storeAllParameters t ses v flash => Sys2Proof.Machine.execStoreAllParameters t ses v flash s
  | .restoreDefaultParameters t ses v => Sys2Proof.Machine.execRestoreDefaultParameters t ses v s
  | .commitOpen t ses => Sys2Proof.Machine.execCommitOpen t ses s
  | .commit t ses => Sys2Proof.Machine.execCommit t ses s
  | .commitDiscard t ses => Sys2Proof.Machine.execCommitDiscard t ses s
  | .engineReadyReport t e => Sys2Proof.Machine.execEngineReadyReport t e s
  | .commitSwitch t => Sys2Proof.Machine.execCommitSwitch t s
  | .commitTimeout t => Sys2Proof.Machine.execCommitTimeout t s
  | .commitBeatPassed t => Sys2Proof.Machine.execCommitBeatPassed t s
  | .commitGroupIdleTimeout t => Sys2Proof.Machine.execCommitGroupIdleTimeout t s
  | .sessionOpenRequest t f => Sys2Proof.Machine.execSessionOpenRequest t f s
  | .sessionClose t f => Sys2Proof.Machine.execSessionClose t f s
  | .basarisSessionTimeout t num => Sys2Proof.Machine.execBasarisSessionTimeout t num s
  | .keepAlive t f => Sys2Proof.Machine.execKeepAlive t f s
  | .readRequest t f => Sys2Proof.Machine.execReadRequest t f s
  | .writeRequest t f => Sys2Proof.Machine.execWriteRequest t f s
  | .emergencyAcknowledge t f => Sys2Proof.Machine.execEmergencyAcknowledge t f s
  | .emergencyRepeat t num seq => Sys2Proof.Machine.execEmergencyRepeat t num seq s
  | .basarisReconfigure t => Sys2Proof.Machine.execBasarisReconfigure t s
  | .mbxDoorbell t seq ctrl area length => Sys2Proof.Machine.execMbxDoorbell t seq ctrl area length s
  | .dictionaryPortDoorbell t core buffer length => Sys2Proof.Machine.execDictionaryPortDoorbell t core buffer length s
  | .executeDescriptor t r b d => Sys2Proof.Machine.execExecuteDescriptor t r b d s
  | .accessDescriptor t r b d => Sys2Proof.Machine.execAccessDescriptor t r b d s
  | .dmaDescriptor t r eng d => Sys2Proof.Machine.execDmaDescriptor t r eng d s
  | .residueWindowExpiry t r b cell => Sys2Proof.Machine.execResidueWindowExpiry t r b cell s
  | .cellSpareSwap t r b => Sys2Proof.Machine.execCellSpareSwap t r b s
  | .rowMapOut t loc => Sys2Proof.Machine.execRowMapOut t loc s
  | .mapOutRequest t ses loc => Sys2Proof.Machine.execMapOutRequest t ses loc s
  | .conv t r b d => Sys2Proof.Machine.execConv t r b d s
  | .poolMax t r b d => Sys2Proof.Machine.execPoolMax t r b d s
  | .poolAvg t r b d => Sys2Proof.Machine.execPoolAvg t r b d s
  | .erode t r b d => Sys2Proof.Machine.execErode t r b d s
  | .dilate t r b d => Sys2Proof.Machine.execDilate t r b d s
  | .median t r b d => Sys2Proof.Machine.execMedian t r b d s
  | .resizeNearest t r b d => Sys2Proof.Machine.execResizeNearest t r b d s
  | .resizeBilinear t r b d => Sys2Proof.Machine.execResizeBilinear t r b d s
  | .selvedgeEntryReceived t r b side header payload cls ecc => Sys2Proof.Machine.execSelvedgeEntryReceived t r b side header payload cls ecc s
  | .selvedgeWaitTimeout t r b side => Sys2Proof.Machine.execSelvedgeWaitTimeout t r b side s
  | .statsTensor t r d => Sys2Proof.Machine.execStatsTensor t r d s
  | .statsChannel t r d => Sys2Proof.Machine.execStatsChannel t r d s
  | .convert t r d => Sys2Proof.Machine.execConvert t r d s
  | .scaleUpdate t r d => Sys2Proof.Machine.execScaleUpdate t r d s
  | .optStep t r d => Sys2Proof.Machine.execOptStep t r d s
  | .decode t r block d => Sys2Proof.Machine.execDecode t r block d s
  | .nms t r d closeCount truncated => Sys2Proof.Machine.execNms t r d closeCount truncated s
  | .carryTimeout t stream => Sys2Proof.Machine.execCarryTimeout t stream s
  | .kvAppend t r d => Sys2Proof.Machine.execKvAppend t r d s
  | .attend t r d missing => Sys2Proof.Machine.execAttend t r d missing s
  | .pageCtrlOpen t r d => Sys2Proof.Machine.execPageCtrlOpen t r d s
  | .pageCtrlClose t r d => Sys2Proof.Machine.execPageCtrlClose t r d s
  | .pageCtrlTrim t r d => Sys2Proof.Machine.execPageCtrlTrim t r d s
  | .pageCtrlPin t r d => Sys2Proof.Machine.execPageCtrlPin t r d s
  | .pageCtrlUnpin t r d => Sys2Proof.Machine.execPageCtrlUnpin t r d s
  | .pageCtrlResume t r d => Sys2Proof.Machine.execPageCtrlResume t r d s
  | .pageCtrlSet t r d => Sys2Proof.Machine.execPageCtrlSet t r d s
  | .cameraDiscoveryTimeout t stream => Sys2Proof.Machine.execCameraDiscoveryTimeout t stream s
  | .cameraLineReceived t stream line => Sys2Proof.Machine.execCameraLineReceived t stream line s
  | .lineLate t stream => Sys2Proof.Machine.execLineLate t stream s
  | .streamSilent t stream => Sys2Proof.Machine.execStreamSilent t stream s
  | .cameraSettingsTimeout t stream entry => Sys2Proof.Machine.execCameraSettingsTimeout t stream entry s
  | .cameraRegisterRequest t ses request error answer => Sys2Proof.Machine.execCameraRegisterRequest t ses request error answer s
  | .headAuthentication t h mem answer => Sys2Proof.Machine.execHeadAuthentication t h mem answer s
  | .headSerialPoll t h serial => Sys2Proof.Machine.execHeadSerialPoll t h serial s
  | .wearRecordWrite t h acked => Sys2Proof.Machine.execWearRecordWrite t h acked s
  | .compensationIntervalEnd t h => Sys2Proof.Machine.execCompensationIntervalEnd t h s
  | .driveWriteTimeout t h => Sys2Proof.Machine.execDriveWriteTimeout t h s
  | .captureReferenceTarget t ses h => Sys2Proof.Machine.execCaptureReferenceTarget t ses h s
  | .submittedCountWrite t ses q count => Sys2Proof.Machine.execSubmittedCountWrite t ses q count s
  | .submissionEntryTaken t q entry source generation => Sys2Proof.Machine.execSubmissionEntryTaken t q entry source generation s
  | .sampleDecode t q submission run => Sys2Proof.Machine.execSampleDecode t q submission run s
  | .hostDecodeReturn t q slot submission length codes => Sys2Proof.Machine.execHostDecodeReturn t q slot submission length codes s
  | .hostDecodeTimeout t q submission => Sys2Proof.Machine.execHostDecodeTimeout t q submission s
  | .batchWrite t q credits => Sys2Proof.Machine.execBatchWrite t q credits s
  | .flush t ses q => Sys2Proof.Machine.execFlush t ses q s
  | .adcConversionStart t ch => Sys2Proof.Machine.execAdcConversionStart t ch s
  | .adcConversionComplete t ch value => Sys2Proof.Machine.execAdcConversionComplete t ch value s
  | .ssiPositionLatch t axis frame dataLow complete => Sys2Proof.Machine.execSsiPositionLatch t axis frame dataLow complete s
  | .captureEvent t axis index position => Sys2Proof.Machine.execCaptureEvent t axis index position s
  | .carrierUpdatePoint t axis => Sys2Proof.Machine.execCarrierUpdatePoint t axis s
  | .currentChannelStuck t axis leg => Sys2Proof.Machine.execCurrentChannelStuck t axis leg s
  | .overCurrentTrip t axis value => Sys2Proof.Machine.execOverCurrentTrip t axis value s
  | .digitalInputEdge t input raw => Sys2Proof.Machine.execDigitalInputEdge t input raw s
  | .chatterQuietTimeout t input => Sys2Proof.Machine.execChatterQuietTimeout t input s
  | .inputStuckTimeout t input => Sys2Proof.Machine.execInputStuckTimeout t input s
  | .sensorSupplyCommand t ses k v => Sys2Proof.Machine.execSensorSupplyCommand t ses k v s
  | .supplyShort t k => Sys2Proof.Machine.execSupplyShort t k s
  | .supplyOverloadTimeout t k => Sys2Proof.Machine.execSupplyOverloadTimeout t k s
  | .supplyRetry t k => Sys2Proof.Machine.execSupplyRetry t k s
  | .supplyDischargeComplete t k => Sys2Proof.Machine.execSupplyDischargeComplete t k s
  | .digitalOutputThermalShutdown t o milliamps => Sys2Proof.Machine.execDigitalOutputThermalShutdown t o milliamps s
  | .digitalOutputRestart t o => Sys2Proof.Machine.execDigitalOutputRestart t o s
  | .crustInternalFault t kind => Sys2Proof.Machine.execCrustInternalFault t kind s
  | .crustRestart t => Sys2Proof.Machine.execCrustRestart t s
  | .singleChannelLimitExpiry t => Sys2Proof.Machine.execSingleChannelLimitExpiry t s
  | .comparatorTest t out field ran reported => Sys2Proof.Machine.execComparatorTest t out field ran reported s
  | .starterFrameTest t r b ran frame crc cell => Sys2Proof.Machine.execStarterFrameTest t r b ran frame crc cell s
  | .resetInputEdge t => Sys2Proof.Machine.execResetInputEdge t s
  | .parameterSetValidate t ses => Sys2Proof.Machine.execParameterSetValidate t ses s
  | .parameterSetValidated t => Sys2Proof.Machine.execParameterSetValidated t s
  | .parameterSetCancel t ses => Sys2Proof.Machine.execParameterSetCancel t ses s
  | .parameterSetActivate t => Sys2Proof.Machine.execParameterSetActivate t s
  | .srdoReceived t n normal inverted gapUs => Sys2Proof.Machine.execSrdoReceived t n normal inverted gapUs s
  | .srdoTimeout t n => Sys2Proof.Machine.execSrdoTimeout t n s
  | .srdoTransmit t n => Sys2Proof.Machine.execSrdoTransmit t n s
  | .ptpSyncReceived t m => Sys2Proof.Machine.execPtpSyncReceived t m s
  | .ptpFollowUpReceived t m => Sys2Proof.Machine.execPtpFollowUpReceived t m s
  | .ptpAnnounceReceived t m => Sys2Proof.Machine.execPtpAnnounceReceived t m s
  | .ptpAnnounceTimeout t dom => Sys2Proof.Machine.execPtpAnnounceTimeout t dom s
  | .ptpSyncTimeout t dom => Sys2Proof.Machine.execPtpSyncTimeout t dom s
  | .timebaseHoldEnd t => Sys2Proof.Machine.execTimebaseHoldEnd t s
  | .timedAdjustmentEnd t => Sys2Proof.Machine.execTimedAdjustmentEnd t s
  | .holdoverErrorLimit t => Sys2Proof.Machine.execHoldoverErrorLimit t s
  | .ptpPdelayRequest t port ident rx => Sys2Proof.Machine.execPtpPdelayRequest t port ident rx s
  | .ptpSyncTransmit t port => Sys2Proof.Machine.execPtpSyncTransmit t port s
  | .ptpAnnounceTransmit t port => Sys2Proof.Machine.execPtpAnnounceTransmit t port s
  | .timeTriggerEdge t ch => Sys2Proof.Machine.execTimeTriggerEdge t ch s
  | .canFrameReceived t ctl frame => Sys2Proof.Machine.execCanFrameReceived t ctl frame s
  | .canBusError t ctl kind receiving tec rec => Sys2Proof.Machine.execCanBusError t ctl kind receiving tec rec s
  | .recoveryCommand t ses ctl => Sys2Proof.Machine.execRecoveryCommand t ses ctl s
  | .canRecoveryComplete t ctl => Sys2Proof.Machine.execCanRecoveryComplete t ctl s
  | .canModeChange t ctl => Sys2Proof.Machine.execCanModeChange t ctl s
  | .ttcanCycleStart t ctl matrixOk => Sys2Proof.Machine.execTtcanCycleStart t ctl matrixOk s
  | .transmitExclusive t ctl entry inWindow => Sys2Proof.Machine.execTransmitExclusive t ctl entry inWindow s
  | .transmitArbitrating t ctl entry fits => Sys2Proof.Machine.execTransmitArbitrating t ctl entry fits s
  | .mergedWindowStart t ctl entry => Sys2Proof.Machine.execMergedWindowStart t ctl entry s
  | .mergedWindowContinue t ctl entry => Sys2Proof.Machine.execMergedWindowContinue t ctl entry s
  | .endOfArbitratingWindow t ctl entry => Sys2Proof.Machine.execEndOfArbitratingWindow t ctl entry s
  | .receiveCheck t ctl entry => Sys2Proof.Machine.execReceiveCheck t ctl entry s
  | .watchTrigger t ctl entry => Sys2Proof.Machine.execWatchTrigger t ctl entry s
  | .referenceMessageReceived t ctl m => Sys2Proof.Machine.execReferenceMessageReceived t ctl m s
  | .referenceOffsetExpiry t ctl => Sys2Proof.Machine.execReferenceOffsetExpiry t ctl s
  | .applicationWatchdogLapse t ctl => Sys2Proof.Machine.execApplicationWatchdogLapse t ctl s
  | .rdmaRead t q => Sys2Proof.Machine.execRdmaRead t q s
  | .rdmaWrite t q data => Sys2Proof.Machine.execRdmaWrite t q data s
  | .rdmaWriteWithImmediate t q data imm ring expectedBeat expectedStep => Sys2Proof.Machine.execRdmaWriteWithImmediate t q data imm ring expectedBeat expectedStep s
  | .send t q data => Sys2Proof.Machine.execSend t q data s
  | .atomicRequest t q => Sys2Proof.Machine.execAtomicRequest t q s
  | .ackTimeout t qp owner => Sys2Proof.Machine.execAckTimeout t qp owner s
  | .receiverNotReadyNak t qp owner => Sys2Proof.Machine.execReceiverNotReadyNak t qp owner s
  | .congestionNotification t qp => Sys2Proof.Machine.execCongestionNotification t qp s
  | .rateRecoveryTimer t qp => Sys2Proof.Machine.execRateRecoveryTimer t qp s
  | .queuePairReestablish t ses qp => Sys2Proof.Machine.execQueuePairReestablish t ses qp s
  | .portBlockLockLost t port => Sys2Proof.Machine.execPortBlockLockLost t port s
  | .portUpCommand t ses port => Sys2Proof.Machine.execPortUpCommand t ses port s
  | .pfcPauseReceived t port p => Sys2Proof.Machine.execPfcPauseReceived t port p s
  | .pauseWatchdogTimeout t port prio => Sys2Proof.Machine.execPauseWatchdogTimeout t port prio s
  | .consumerIndexWrite t ses q index => Sys2Proof.Machine.execConsumerIndexWrite t ses q index s
  | .bar2Access t w offset data length => Sys2Proof.Machine.execBar2Access t w offset data length s
  | .pcieLinkRetrain t => Sys2Proof.Machine.execPcieLinkRetrain t s
  | .pcieHotReset t => Sys2Proof.Machine.execPcieHotReset t s
  | .linkUpCommand t ses => Sys2Proof.Machine.execLinkUpCommand t ses s
  | .mainInputLoss t decivolts => Sys2Proof.Machine.execMainInputLoss t decivolts s
  | .modulePowerOff t => Sys2Proof.Machine.execModulePowerOff t s
  | .mainInputReturn t decivolts => Sys2Proof.Machine.execMainInputReturn t decivolts s
  | .fieldInputLoss t decivolts => Sys2Proof.Machine.execFieldInputLoss t decivolts s
  | .fieldInputReturn t decivolts => Sys2Proof.Machine.execFieldInputReturn t decivolts s
  | .domainStateRequest t ses d v => Sys2Proof.Machine.execDomainStateRequest t ses d v s
  | .domainPowerUp t d => Sys2Proof.Machine.execDomainPowerUp t d s
  | .domainShutDown t d => Sys2Proof.Machine.execDomainShutDown t d s
  | .quiesceComplete t d => Sys2Proof.Machine.execQuiesceComplete t d s
  | .powerGood t d failing => Sys2Proof.Machine.execPowerGood t d failing s
  | .powerGoodTimeout t d => Sys2Proof.Machine.execPowerGoodTimeout t d s
  | .supplyStepBeat t => Sys2Proof.Machine.execSupplyStepBeat t s
  | .droopExcursion t r depth duration => Sys2Proof.Machine.execDroopExcursion t r depth duration s
  | .temperatureSample t deci trip => Sys2Proof.Machine.execTemperatureSample t deci trip s
  | .computeDieRestart t ses => Sys2Proof.Machine.execComputeDieRestart t ses s
  | .inputPowerCheck t watts => Sys2Proof.Machine.execInputPowerCheck t watts s
  | .ageingMeasurement t reads => Sys2Proof.Machine.execAgeingMeasurement t reads s
  | .measureNow t ses reads => Sys2Proof.Machine.execMeasureNow t ses reads s
  | .idleRequest t ses => Sys2Proof.Machine.execIdleRequest t ses s
  | .resumeRequest t ses => Sys2Proof.Machine.execResumeRequest t ses s
  | .resumeReadinessCheck t => Sys2Proof.Machine.execResumeReadinessCheck t s
  | .standbyRequest t ses => Sys2Proof.Machine.execStandbyRequest t ses s
  | .leaveStandby t ses => Sys2Proof.Machine.execLeaveStandby t ses s
  | .zeroAllCounters t ses => Sys2Proof.Machine.execZeroAllCounters t ses s
  | .dumpLatch t => Sys2Proof.Machine.execDumpLatch t s
  | .dumpWindowRead t ses => Sys2Proof.Machine.execDumpWindowRead t ses s
  | .sysRstNLow t nanos => Sys2Proof.Machine.execSysRstNLow t nanos s
  | .resetRequestWarm t ses => Sys2Proof.Machine.execResetRequestWarm t ses s
  | .resetRequestCold t ses => Sys2Proof.Machine.execResetRequestCold t ses s
  | .managerWatchdogExpiry t core => Sys2Proof.Machine.execManagerWatchdogExpiry t core s
  | .coldBoot t slotA slotB image imageSigOk failing late => Sys2Proof.Machine.execColdBoot t slotA slotB image imageSigOk failing late s
  | .autolaunch t => Sys2Proof.Machine.execAutolaunch t s
  | .firmwareValidate t ses => Sys2Proof.Machine.execFirmwareValidate t ses s
  | .firmwareVerificationComplete t b => Sys2Proof.Machine.execFirmwareVerificationComplete t b s
  | .firmwareSchedule t ses => Sys2Proof.Machine.execFirmwareSchedule t ses s
  | .firmwareCancel t ses => Sys2Proof.Machine.execFirmwareCancel t ses s
  | .firmwareSwitch t => Sys2Proof.Machine.execFirmwareSwitch t s
  | .imageValidate t ses => Sys2Proof.Machine.execImageValidate t ses s
  | .imageVerificationComplete t image sigOk => Sys2Proof.Machine.execImageVerificationComplete t image sigOk s
  | .imageRelaunch t ses => Sys2Proof.Machine.execImageRelaunch t ses s
  | .imageCancel t ses => Sys2Proof.Machine.execImageCancel t ses s
  | .relaunch t => Sys2Proof.Machine.execRelaunch t s
  | .raiseMinimumSecurityVersion t ses v => Sys2Proof.Machine.execRaiseMinimumSecurityVersion t ses v s
  | .imageKeySlotWrite t ses key => Sys2Proof.Machine.execImageKeySlotWrite t ses key s
  | .imageKeyRecord t ses record => Sys2Proof.Machine.execImageKeyRecord t ses record s
  | .migrationRequest t ses r => Sys2Proof.Machine.execMigrationRequest t ses r s
  | .regionMigrationStart t => Sys2Proof.Machine.execRegionMigrationStart t s
  | .migrationCopyComplete t ok => Sys2Proof.Machine.execMigrationCopyComplete t ok s
  | .regionMigrationSwitch t targetOk => Sys2Proof.Machine.execRegionMigrationSwitch t targetOk s
  | .regionMigrationComplete t => Sys2Proof.Machine.execRegionMigrationComplete t s
  | .blockSwap t r b => Sys2Proof.Machine.execBlockSwap t r b s
  | .sessionOpenResponse t f => Sys2Proof.Machine.execSessionOpenResponse t f s
  | .unrecognisedBasarisFrame t f => Sys2Proof.Machine.execUnrecognisedBasarisFrame t f s
  | .emcyTailWrite t tail => Sys2Proof.Machine.execEmcyTailWrite t tail s
  | .canTransmissionComplete t x => Sys2Proof.Machine.execCanTransmissionComplete t x s
  | .canArbitrationLost t ctl => Sys2Proof.Machine.execCanArbitrationLost t ctl s
  | .tpdoTransmit t n => Sys2Proof.Machine.execTpdoTransmit t n s
  | .portLinkUp t port => Sys2Proof.Machine.execPortLinkUp t port s
  | .pcieLinkUp t speed lanes => Sys2Proof.Machine.execPcieLinkUp t speed lanes s
  | .pauseQuietTimeout t port prio => Sys2Proof.Machine.execPauseQuietTimeout t port prio s
  | .roceAckReceived t qp psn nak owner => Sys2Proof.Machine.execRoceAckReceived t qp psn nak owner s
  | .ptpDelayRequestTransmit t dom tx => Sys2Proof.Machine.execPtpDelayRequestTransmit t dom tx s
  | .ptpDelayResponseReceived t dom t2 t3 t4 correction => Sys2Proof.Machine.execPtpDelayResponseReceived t dom t2 t3 t4 correction s
  | .coaxpressEventPacket t conn => Sys2Proof.Machine.execCoaxpressEventPacket t conn s

end Sys2Proof.Machine
end

