-- ==== Sys2Proof/WellFormed.lean ====
section
/-!
DEFINITION. When a command is well formed: every number that it carries lies within the width the spec gives it, and every list has the length the spec gives it.
The sender keeps these; no meaning relies on them.
-/

namespace Sys2Proof

/-- An unsigned number of `w` bits. -/
def uw (w n : Nat) : Bool := decide (n < 2 ^ w)

/-- A signed number of `w` bits. -/
def iw (w : Nat) (v : Int) : Bool := decide (-(2 ^ (w - 1)) ≤ v ∧ v < 2 ^ (w - 1))

/-- R115: node-IDs are 1 to 127, session numbers have 32 bits. -/
def Session.wf : Session → Bool
  | .can n => decide (1 ≤ n ∧ n ≤ 127)
  | .basaris n => uw 32 n
  | .pcie => true
  | .core _ => true

/-- R126, R127: a source of up to 128 bits, a tag of 16 bytes, a payload of at most 8,924 bytes. -/
def BFrame.wf (f : BFrame) : Bool := uw 128 f.source && f.tag.length == 16 && decide (f.payload.length ≤ 8924)

/-- R403: data sizes of CAN and CAN FD frames. -/
def canSizes (fd : Bool) : List Nat := if fd then [0, 1, 2, 3, 4, 5, 6, 7, 8, 12, 16, 20, 24, 32, 48, 64] else [0, 1, 2, 3, 4, 5, 6, 7, 8]

/-- R403: identifiers of 11 or 29 bits; a remote frame is classical and carries no data. -/
def CanFrame.wf (f : CanFrame) : Bool :=
  uw (if f.extended then 29 else 11) f.ident && (canSizes f.fd).contains f.data.length && (!f.remote || (!f.fd && f.data.isEmpty))

/-- R17, R111: an object address has 16 and 8 bits; an expedited download holds 1 to 4 bytes, a segment 1 to 7. -/
def SdoReq.wf : SdoReq → Bool
  | .downloadExpedited index sub data => uw 16 index && uw 8 sub && decide (1 ≤ data.length ∧ data.length ≤ 4)
  | .downloadInit index sub size => uw 16 index && uw 8 sub && uw 32 size
  | .downloadSegment _ data _ => decide (data.length ≤ 7)
  | .uploadInit index sub => uw 16 index && uw 8 sub
  | .uploadSegment _ => true
  | .abort => true
  | .blockTransfer => true

/-- R17, R111. -/
def UsdoReq.wf : UsdoReq → Bool
  | .read index sub => uw 16 index && uw 8 sub
  | .write index sub _ => uw 16 index && uw 8 sub

/-- R424, R425: keys of 32 bits, offsets of 64, lengths of 32. -/
def RdmaReq.wf (q : RdmaReq) : Bool := uw 32 q.key && uw 64 q.offset && uw 32 q.length

/-- R389: counts of 64 bits. -/
def SyncMsg.wf (m : SyncMsg) : Bool := uw 64 m.origin && uw 64 m.rxLocal && iw 64 m.correction

/-- R392, R402. -/
def AnnounceMsg.wf (m : AnnounceMsg) : Bool := uw 64 m.gmIdentity && uw 8 m.clockClass && uw 16 m.stepsRemoved && iw 16 m.utcOffset

/-- R418: priorities 0 to 7, 64 basic cycles, reference marks of 16 bits. -/
def RefMsg.wf (m : RefMsg) : Bool := uw 3 m.priority && uw 6 m.cycle && uw 16 m.refMark

/-- R301: 64 identity bytes and two wear slots of 32. -/
def HeadMemory.wf (m : HeadMemory) : Bool := m.identity.length == 64 && m.wearA.length == 32 && m.wearB.length == 32

/-- R302: a response has 32 bytes. -/
def HeadAnswer.wf : HeadAnswer → Bool
  | .silent => true
  | .late => true
  | .response b => b.length == 32

/-- R478: a hash of 32 bytes, 1 to 16 variants, up to 4 pace slot tables. -/
def Image.wf (im : Image) : Bool := im.hash.length == 32 && decide (1 ≤ im.variants.length ∧ im.variants.length ≤ 16) && uw 2 im.slotTables

/-- R476: versions of 32 bits. -/
def Bundle.wf (b : Bundle) : Bool := uw 32 b.version && uw 32 b.securityVersion

/-- R163: a lane base of 16 bits and a token count of 32. -/
def ExecDesc.wf (d : ExecDesc) : Bool := uw 16 d.laneBase && uw 32 d.tokens

/-- R295: a counter within its width. -/
def CamLine.wf (l : CamLine) : Bool := uw l.counterBits l.counter && decide (l.error ≤ 3)

/-- R332: at most one sample per axis, positions of 32 bits. -/
def samplesWf (l : List AxisSample) : Bool := decide (l.length ≤ 16) && l.all fun x => iw 32 x.position

/-- R453: at most one reading per region. -/
def readsWf (l : List AgeRead) : Bool := decide (l.length ≤ 10)

/-- The weft count at which a command takes place (R10). -/
def Instr.time : Instr → Nat
  | .emcyInhibitExpiry t => t
  | .faultLogRead t _ => t
  | .faultAcknowledge t _ _ => t
  | .hostQueueDrainTimeout t _ => t
  | .illegalDualRailCode t _ _ _ _ => t
  | .replicaMeasurement t _ => t
  | .synchroniserParityError t _ _ => t
  | .blockStallTimeout t _ _ _ _ => t
  | .releaseCount t _ _ => t
  | .launchPropose t _ _ => t
  | .launchProposal t _ => t
  | .launchAcknowledge t _ => t
  | .launchConfirm t _ => t
  | .launchConfirmResponse t _ => t
  | .launchConfirmRepeat t => t
  | .launchAckTimeout t => t
  | .launchAbort t _ => t
  | .launchAbortDeadline t => t
  | .launchStart t _ => t
  | .sdoRequest t _ _ => t
  | .usdoRequest t _ _ => t
  | .sdoTimeout t => t
  | .nmtCommand t _ _ _ => t
  | .heartbeat t => t
  | .rpdoReceived t _ _ => t
  | .objectWrite t _ _ _ => t
  | .storeAllParameters t _ _ _ => t
  | .restoreDefaultParameters t _ _ => t
  | .commitOpen t _ => t
  | .commit t _ => t
  | .commitDiscard t _ => t
  | .engineReadyReport t _ => t
  | .commitSwitch t => t
  | .commitTimeout t => t
  | .commitBeatPassed t => t
  | .commitGroupIdleTimeout t => t
  | .sessionOpenRequest t _ => t
  | .sessionClose t _ => t
  | .basarisSessionTimeout t _ => t
  | .keepAlive t _ => t
  | .readRequest t _ => t
  | .writeRequest t _ => t
  | .emergencyAcknowledge t _ => t
  | .emergencyRepeat t _ _ => t
  | .basarisReconfigure t => t
  | .mbxDoorbell t _ _ _ _ => t
  | .dictionaryPortDoorbell t _ _ _ => t
  | .executeDescriptor t _ _ _ => t
  | .accessDescriptor t _ _ _ => t
  | .dmaDescriptor t _ _ _ => t
  | .residueWindowExpiry t _ _ _ => t
  | .cellSpareSwap t _ _ => t
  | .rowMapOut t _ => t
  | .mapOutRequest t _ _ => t
  | .conv t _ _ _ => t
  | .poolMax t _ _ _ => t
  | .poolAvg t _ _ _ => t
  | .erode t _ _ _ => t
  | .dilate t _ _ _ => t
  | .median t _ _ _ => t
  | .resizeNearest t _ _ _ => t
  | .resizeBilinear t _ _ _ => t
  | .selvedgeEntryReceived t _ _ _ _ _ _ _ => t
  | .selvedgeWaitTimeout t _ _ _ => t
  | .statsTensor t _ _ => t
  | .statsChannel t _ _ => t
  | .convert t _ _ => t
  | .scaleUpdate t _ _ => t
  | .optStep t _ _ => t
  | .decode t _ _ _ => t
  | .nms t _ _ _ _ => t
  | .carryTimeout t _ => t
  | .kvAppend t _ _ => t
  | .attend t _ _ _ => t
  | .pageCtrlOpen t _ _ => t
  | .pageCtrlClose t _ _ => t
  | .pageCtrlTrim t _ _ => t
  | .pageCtrlPin t _ _ => t
  | .pageCtrlUnpin t _ _ => t
  | .pageCtrlResume t _ _ => t
  | .pageCtrlSet t _ _ => t
  | .cameraDiscoveryTimeout t _ => t
  | .cameraLineReceived t _ _ => t
  | .lineLate t _ => t
  | .streamSilent t _ => t
  | .cameraSettingsTimeout t _ _ => t
  | .cameraRegisterRequest t _ _ _ _ => t
  | .headAuthentication t _ _ _ => t
  | .headSerialPoll t _ _ => t
  | .wearRecordWrite t _ _ => t
  | .compensationIntervalEnd t _ => t
  | .driveWriteTimeout t _ => t
  | .captureReferenceTarget t _ _ => t
  | .submittedCountWrite t _ _ _ => t
  | .submissionEntryTaken t _ _ _ _ => t
  | .sampleDecode t _ _ _ => t
  | .hostDecodeReturn t _ _ _ _ _ => t
  | .hostDecodeTimeout t _ _ => t
  | .batchWrite t _ _ => t
  | .flush t _ _ => t
  | .adcConversionStart t _ => t
  | .adcConversionComplete t _ _ => t
  | .ssiPositionLatch t _ _ _ _ => t
  | .captureEvent t _ _ _ => t
  | .carrierUpdatePoint t _ => t
  | .currentChannelStuck t _ _ => t
  | .overCurrentTrip t _ _ => t
  | .digitalInputEdge t _ _ => t
  | .chatterQuietTimeout t _ => t
  | .inputStuckTimeout t _ => t
  | .sensorSupplyCommand t _ _ _ => t
  | .supplyShort t _ => t
  | .supplyOverloadTimeout t _ => t
  | .supplyRetry t _ => t
  | .supplyDischargeComplete t _ => t
  | .digitalOutputThermalShutdown t _ _ => t
  | .digitalOutputRestart t _ => t
  | .crustInternalFault t _ => t
  | .crustRestart t => t
  | .singleChannelLimitExpiry t => t
  | .comparatorTest t _ _ _ _ => t
  | .starterFrameTest t _ _ _ _ _ _ => t
  | .resetInputEdge t => t
  | .parameterSetValidate t _ => t
  | .parameterSetValidated t => t
  | .parameterSetCancel t _ => t
  | .parameterSetActivate t => t
  | .srdoReceived t _ _ _ _ => t
  | .srdoTimeout t _ => t
  | .srdoTransmit t _ => t
  | .ptpSyncReceived t _ => t
  | .ptpFollowUpReceived t _ => t
  | .ptpAnnounceReceived t _ => t
  | .ptpAnnounceTimeout t _ => t
  | .ptpSyncTimeout t _ => t
  | .timebaseHoldEnd t => t
  | .timedAdjustmentEnd t => t
  | .holdoverErrorLimit t => t
  | .ptpPdelayRequest t _ _ _ => t
  | .ptpSyncTransmit t _ => t
  | .ptpAnnounceTransmit t _ => t
  | .timeTriggerEdge t _ => t
  | .canFrameReceived t _ _ => t
  | .canBusError t _ _ _ _ _ => t
  | .recoveryCommand t _ _ => t
  | .canRecoveryComplete t _ => t
  | .canModeChange t _ => t
  | .ttcanCycleStart t _ _ => t
  | .transmitExclusive t _ _ _ => t
  | .transmitArbitrating t _ _ _ => t
  | .mergedWindowStart t _ _ => t
  | .mergedWindowContinue t _ _ => t
  | .endOfArbitratingWindow t _ _ => t
  | .receiveCheck t _ _ => t
  | .watchTrigger t _ _ => t
  | .referenceMessageReceived t _ _ => t
  | .referenceOffsetExpiry t _ => t
  | .applicationWatchdogLapse t _ => t
  | .rdmaRead t _ => t
  | .rdmaWrite t _ _ => t
  | .rdmaWriteWithImmediate t _ _ _ _ _ _ => t
  | .send t _ _ => t
  | .atomicRequest t _ => t
  | .ackTimeout t _ _ => t
  | .receiverNotReadyNak t _ _ => t
  | .congestionNotification t _ => t
  | .rateRecoveryTimer t _ => t
  | .queuePairReestablish t _ _ => t
  | .portBlockLockLost t _ => t
  | .portUpCommand t _ _ => t
  | .pfcPauseReceived t _ _ => t
  | .pauseWatchdogTimeout t _ _ => t
  | .consumerIndexWrite t _ _ _ => t
  | .bar2Access t _ _ _ _ => t
  | .pcieLinkRetrain t => t
  | .pcieHotReset t => t
  | .linkUpCommand t _ => t
  | .mainInputLoss t _ => t
  | .modulePowerOff t => t
  | .mainInputReturn t _ => t
  | .fieldInputLoss t _ => t
  | .fieldInputReturn t _ => t
  | .domainStateRequest t _ _ _ => t
  | .domainPowerUp t _ => t
  | .domainShutDown t _ => t
  | .quiesceComplete t _ => t
  | .powerGood t _ _ => t
  | .powerGoodTimeout t _ => t
  | .supplyStepBeat t => t
  | .droopExcursion t _ _ _ => t
  | .temperatureSample t _ _ => t
  | .computeDieRestart t _ => t
  | .inputPowerCheck t _ => t
  | .ageingMeasurement t _ => t
  | .measureNow t _ _ => t
  | .idleRequest t _ => t
  | .resumeRequest t _ => t
  | .resumeReadinessCheck t => t
  | .standbyRequest t _ => t
  | .leaveStandby t _ => t
  | .zeroAllCounters t _ => t
  | .dumpLatch t => t
  | .dumpWindowRead t _ => t
  | .sysRstNLow t _ => t
  | .resetRequestWarm t _ => t
  | .resetRequestCold t _ => t
  | .managerWatchdogExpiry t _ => t
  | .coldBoot t _ _ _ _ _ _ => t
  | .autolaunch t => t
  | .firmwareValidate t _ => t
  | .firmwareVerificationComplete t _ => t
  | .firmwareSchedule t _ => t
  | .firmwareCancel t _ => t
  | .firmwareSwitch t => t
  | .imageValidate t _ => t
  | .imageVerificationComplete t _ _ => t
  | .imageRelaunch t _ => t
  | .imageCancel t _ => t
  | .relaunch t => t
  | .raiseMinimumSecurityVersion t _ _ => t
  | .imageKeySlotWrite t _ _ => t
  | .imageKeyRecord t _ _ => t
  | .migrationRequest t _ _ => t
  | .regionMigrationStart t => t
  | .migrationCopyComplete t _ => t
  | .regionMigrationSwitch t _ => t
  | .regionMigrationComplete t => t
  | .blockSwap t _ _ => t
  | .sessionOpenResponse t _ => t
  | .unrecognisedBasarisFrame t _ => t
  | .emcyTailWrite t _ => t
  | .canTransmissionComplete t _ => t
  | .canArbitrationLost t _ => t
  | .tpdoTransmit t _ => t
  | .portLinkUp t _ => t
  | .pcieLinkUp t _ _ => t
  | .pauseQuietTimeout t _ _ => t
  | .roceAckReceived t _ _ _ _ => t
  | .ptpDelayRequestTransmit t _ _ => t
  | .ptpDelayResponseReceived t _ _ _ _ _ => t
  | .coaxpressEventPacket t _ => t

/-- A command is well formed: its weft count has 64 bits, and its operands are. -/
def Instr.wf : Instr → Bool
  | .emcyInhibitExpiry t => uw 64 t
  | .faultLogRead t ses => uw 64 t && ses.wf
  | .faultAcknowledge t ses seq => uw 64 t && ses.wf && uw 32 seq
  | .hostQueueDrainTimeout t _ => uw 64 t
  | .illegalDualRailCode t _ _ channel _ => uw 64 t && uw 8 channel
  | .replicaMeasurement t counts => uw 64 t && counts.length == 180
  | .synchroniserParityError t _ _ => uw 64 t
  | .blockStallTimeout t _ _ micros _ => uw 64 t && uw 32 micros
  | .releaseCount t _ samples => uw 64 t && samplesWf samples
  | .launchPropose t ses count => uw 64 t && ses.wf && uw 64 count
  | .launchProposal t f => uw 64 t && f.wf
  | .launchAcknowledge t f => uw 64 t && f.wf
  | .launchConfirm t f => uw 64 t && f.wf
  | .launchConfirmResponse t f => uw 64 t && f.wf
  | .launchConfirmRepeat t => uw 64 t
  | .launchAckTimeout t => uw 64 t
  | .launchAbort t f => uw 64 t && f.wf
  | .launchAbortDeadline t => uw 64 t
  | .launchStart t _ => uw 64 t
  | .sdoRequest t _ req => uw 64 t && req.wf
  | .usdoRequest t _ req => uw 64 t && req.wf
  | .sdoTimeout t => uw 64 t
  | .nmtCommand t _ node _ => uw 64 t && uw 7 node
  | .heartbeat t => uw 64 t
  | .rpdoReceived t _ data => uw 64 t && decide (data.length ≤ 64)
  | .objectWrite t ses key _ => uw 64 t && ses.wf && uw 24 key
  | .storeAllParameters t ses v flash => uw 64 t && ses.wf && uw 32 v && uw 32 flash
  | .restoreDefaultParameters t ses v => uw 64 t && ses.wf && uw 32 v
  | .commitOpen t ses => uw 64 t && ses.wf
  | .commit t ses => uw 64 t && ses.wf
  | .commitDiscard t ses => uw 64 t && ses.wf
  | .engineReadyReport t _ => uw 64 t
  | .commitSwitch t => uw 64 t
  | .commitTimeout t => uw 64 t
  | .commitBeatPassed t => uw 64 t
  | .commitGroupIdleTimeout t => uw 64 t
  | .sessionOpenRequest t f => uw 64 t && f.wf
  | .sessionClose t f => uw 64 t && f.wf
  | .basarisSessionTimeout t num => uw 64 t && uw 32 num
  | .keepAlive t f => uw 64 t && f.wf
  | .readRequest t f => uw 64 t && f.wf
  | .writeRequest t f => uw 64 t && f.wf
  | .emergencyAcknowledge t f => uw 64 t && f.wf
  | .emergencyRepeat t num seq => uw 64 t && uw 32 num && uw 32 seq
  | .basarisReconfigure t => uw 64 t
  | .mbxDoorbell t seq _ area length => uw 64 t && uw 32 seq && decide (area.length ≤ 4096) && uw 32 length
  | .dictionaryPortDoorbell t _ buffer length => uw 64 t && decide (buffer.length ≤ 4096) && uw 32 length
  | .executeDescriptor t _ _ d => uw 64 t && d.wf
  | .accessDescriptor t _ _ _ => uw 64 t
  | .dmaDescriptor t _ _ _ => uw 64 t
  | .residueWindowExpiry t _ _ _ => uw 64 t
  | .cellSpareSwap t _ _ => uw 64 t
  | .rowMapOut t _ => uw 64 t
  | .mapOutRequest t ses _ => uw 64 t && ses.wf
  | .conv t _ _ _ => uw 64 t
  | .poolMax t _ _ _ => uw 64 t
  | .poolAvg t _ _ _ => uw 64 t
  | .erode t _ _ _ => uw 64 t
  | .dilate t _ _ _ => uw 64 t
  | .median t _ _ _ => uw 64 t
  | .resizeNearest t _ _ _ => uw 64 t
  | .resizeBilinear t _ _ _ => uw 64 t
  | .selvedgeEntryReceived t _ _ _ _ _ cls ecc => uw 64 t && uw 2 cls && uw 16 ecc && decide (ecc = 0 ∨ ecc = 2 ∨ ecc % 256 = 1)
  | .selvedgeWaitTimeout t _ _ _ => uw 64 t
  | .statsTensor t _ _ => uw 64 t
  | .statsChannel t _ _ => uw 64 t
  | .convert t _ _ => uw 64 t
  | .scaleUpdate t _ _ => uw 64 t
  | .optStep t _ _ => uw 64 t
  | .decode t _ _ _ => uw 64 t
  | .nms t _ _ closeCount _ => uw 64 t && uw 64 closeCount
  | .carryTimeout t _ => uw 64 t
  | .kvAppend t _ _ => uw 64 t
  | .attend t _ _ _ => uw 64 t
  | .pageCtrlOpen t _ _ => uw 64 t
  | .pageCtrlClose t _ _ => uw 64 t
  | .pageCtrlTrim t _ _ => uw 64 t
  | .pageCtrlPin t _ _ => uw 64 t
  | .pageCtrlUnpin t _ _ => uw 64 t
  | .pageCtrlResume t _ _ => uw 64 t
  | .pageCtrlSet t _ _ => uw 64 t
  | .cameraDiscoveryTimeout t _ => uw 64 t
  | .cameraLineReceived t _ line => uw 64 t && line.wf
  | .lineLate t _ => uw 64 t
  | .streamSilent t _ => uw 64 t
  | .cameraSettingsTimeout t _ entry => uw 64 t && uw 16 entry
  | .cameraRegisterRequest t ses _ error answer => uw 64 t && ses.wf && uw 32 error && decide (answer.length ≤ 4)
  | .headAuthentication t _ mem answer => uw 64 t && mem.wf && answer.wf
  | .headSerialPoll t _ serial => uw 64 t && (serial.all fun b => b.length == 16)
  | .wearRecordWrite t _ _ => uw 64 t
  | .compensationIntervalEnd t _ => uw 64 t
  | .driveWriteTimeout t _ => uw 64 t
  | .captureReferenceTarget t ses _ => uw 64 t && ses.wf
  | .submittedCountWrite t ses _ count => uw 64 t && ses.wf && uw 64 count
  | .submissionEntryTaken t _ _ _ generation => uw 64 t && uw 8 generation
  | .sampleDecode t _ submission run => uw 64 t && uw 64 submission && uw 32 run.tokens
  | .hostDecodeReturn t _ _ submission length _ => uw 64 t && uw 64 submission && uw 32 length
  | .hostDecodeTimeout t _ submission => uw 64 t && uw 64 submission
  | .batchWrite t _ credits => uw 64 t && decide (credits ≤ 4)
  | .flush t ses _ => uw 64 t && ses.wf
  | .adcConversionStart t _ => uw 64 t
  | .adcConversionComplete t _ value => uw 64 t && iw 16 value
  | .ssiPositionLatch t _ _ _ _ => uw 64 t
  | .captureEvent t _ _ position => uw 64 t && iw 32 position
  | .carrierUpdatePoint t _ => uw 64 t
  | .currentChannelStuck t _ _ => uw 64 t
  | .overCurrentTrip t _ value => uw 64 t && iw 32 value
  | .digitalInputEdge t _ _ => uw 64 t
  | .chatterQuietTimeout t _ => uw 64 t
  | .inputStuckTimeout t _ => uw 64 t
  | .sensorSupplyCommand t ses _ v => uw 64 t && ses.wf && uw 8 v
  | .supplyShort t _ => uw 64 t
  | .supplyOverloadTimeout t _ => uw 64 t
  | .supplyRetry t _ => uw 64 t
  | .supplyDischargeComplete t _ => uw 64 t
  | .digitalOutputThermalShutdown t _ milliamps => uw 64 t && uw 16 milliamps
  | .digitalOutputRestart t _ => uw 64 t
  | .crustInternalFault t _ => uw 64 t
  | .crustRestart t => uw 64 t
  | .singleChannelLimitExpiry t => uw 64 t
  | .comparatorTest t out field _ _ => uw 64 t && uw 16 out && uw 8 field
  | .starterFrameTest t _ _ _ frame crc _ => uw 64 t && uw 16 frame && uw 32 crc
  | .resetInputEdge t => uw 64 t
  | .parameterSetValidate t ses => uw 64 t && ses.wf
  | .parameterSetValidated t => uw 64 t
  | .parameterSetCancel t ses => uw 64 t && ses.wf
  | .parameterSetActivate t => uw 64 t
  | .srdoReceived t _ normal inverted gapUs => uw 64 t && decide (normal.length ≤ 64) && decide (inverted.length ≤ 64) && uw 32 gapUs
  | .srdoTimeout t _ => uw 64 t
  | .srdoTransmit t _ => uw 64 t
  | .ptpSyncReceived t m => uw 64 t && m.wf
  | .ptpFollowUpReceived t m => uw 64 t && m.wf
  | .ptpAnnounceReceived t m => uw 64 t && m.wf
  | .ptpAnnounceTimeout t _ => uw 64 t
  | .ptpSyncTimeout t _ => uw 64 t
  | .timebaseHoldEnd t => uw 64 t
  | .timedAdjustmentEnd t => uw 64 t
  | .holdoverErrorLimit t => uw 64 t
  | .ptpPdelayRequest t _ ident rx => uw 64 t && uw 64 ident && uw 64 rx
  | .ptpSyncTransmit t _ => uw 64 t
  | .ptpAnnounceTransmit t _ => uw 64 t
  | .timeTriggerEdge t _ => uw 64 t
  | .canFrameReceived t _ frame => uw 64 t && frame.wf
  | .canBusError t _ kind _ tec rec => uw 64 t && uw 8 kind && uw 16 tec && uw 16 rec
  | .recoveryCommand t ses _ => uw 64 t && ses.wf
  | .canRecoveryComplete t _ => uw 64 t
  | .canModeChange t _ => uw 64 t
  | .ttcanCycleStart t _ _ => uw 64 t
  | .transmitExclusive t _ _ _ => uw 64 t
  | .transmitArbitrating t _ _ _ => uw 64 t
  | .mergedWindowStart t _ _ => uw 64 t
  | .mergedWindowContinue t _ _ => uw 64 t
  | .endOfArbitratingWindow t _ _ => uw 64 t
  | .receiveCheck t _ _ => uw 64 t
  | .watchTrigger t _ _ => uw 64 t
  | .referenceMessageReceived t _ m => uw 64 t && m.wf
  | .referenceOffsetExpiry t _ => uw 64 t
  | .applicationWatchdogLapse t _ => uw 64 t
  | .rdmaRead t q => uw 64 t && q.wf
  | .rdmaWrite t q _ => uw 64 t && q.wf
  | .rdmaWriteWithImmediate t q _ _ _ expectedBeat expectedStep => uw 64 t && q.wf && uw 64 expectedBeat && uw 32 expectedStep
  | .send t q _ => uw 64 t && q.wf
  | .atomicRequest t q => uw 64 t && q.wf
  | .ackTimeout t _ _ => uw 64 t
  | .receiverNotReadyNak t _ _ => uw 64 t
  | .congestionNotification t _ => uw 64 t
  | .rateRecoveryTimer t _ => uw 64 t
  | .queuePairReestablish t ses qp => uw 64 t && ses.wf && uw 32 qp
  | .portBlockLockLost t _ => uw 64 t
  | .portUpCommand t ses _ => uw 64 t && ses.wf
  | .pfcPauseReceived t _ p => uw 64 t && uw 16 p.quanta
  | .pauseWatchdogTimeout t _ _ => uw 64 t
  | .consumerIndexWrite t ses _ index => uw 64 t && ses.wf && uw 32 index
  | .bar2Access t _ offset _ length => uw 64 t && uw 64 offset && uw 32 length
  | .pcieLinkRetrain t => uw 64 t
  | .pcieHotReset t => uw 64 t
  | .linkUpCommand t ses => uw 64 t && ses.wf
  | .mainInputLoss t decivolts => uw 64 t && uw 16 decivolts
  | .modulePowerOff t => uw 64 t
  | .mainInputReturn t decivolts => uw 64 t && uw 16 decivolts
  | .fieldInputLoss t decivolts => uw 64 t && uw 16 decivolts
  | .fieldInputReturn t decivolts => uw 64 t && uw 16 decivolts
  | .domainStateRequest t ses _ v => uw 64 t && ses.wf && uw 8 v
  | .domainPowerUp t _ => uw 64 t
  | .domainShutDown t _ => uw 64 t
  | .quiesceComplete t _ => uw 64 t
  | .powerGood t _ _ => uw 64 t
  | .powerGoodTimeout t _ => uw 64 t
  | .supplyStepBeat t => uw 64 t
  | .droopExcursion t _ depth duration => uw 64 t && uw 16 depth && uw 32 duration
  | .temperatureSample t deci _ => uw 64 t && deci.length == 64
  | .computeDieRestart t ses => uw 64 t && ses.wf
  | .inputPowerCheck t watts => uw 64 t && uw 16 watts
  | .ageingMeasurement t reads => uw 64 t && readsWf reads
  | .measureNow t ses reads => uw 64 t && ses.wf && readsWf reads
  | .idleRequest t ses => uw 64 t && ses.wf
  | .resumeRequest t ses => uw 64 t && ses.wf
  | .resumeReadinessCheck t => uw 64 t
  | .standbyRequest t ses => uw 64 t && ses.wf
  | .leaveStandby t ses => uw 64 t && ses.wf
  | .zeroAllCounters t ses => uw 64 t && ses.wf
  | .dumpLatch t => uw 64 t
  | .dumpWindowRead t ses => uw 64 t && ses.wf
  | .sysRstNLow t nanos => uw 64 t && uw 64 nanos
  | .resetRequestWarm t ses => uw 64 t && ses.wf
  | .resetRequestCold t ses => uw 64 t && ses.wf
  | .managerWatchdogExpiry t _ => uw 64 t
  | .coldBoot t slotA slotB image _ _ _ => uw 64 t && slotA.wf && slotB.wf && image.all Image.wf
  | .autolaunch t => uw 64 t
  | .firmwareValidate t ses => uw 64 t && ses.wf
  | .firmwareVerificationComplete t b => uw 64 t && b.wf
  | .firmwareSchedule t ses => uw 64 t && ses.wf
  | .firmwareCancel t ses => uw 64 t && ses.wf
  | .firmwareSwitch t => uw 64 t
  | .imageValidate t ses => uw 64 t && ses.wf
  | .imageVerificationComplete t image _ => uw 64 t && image.wf
  | .imageRelaunch t ses => uw 64 t && ses.wf
  | .imageCancel t ses => uw 64 t && ses.wf
  | .relaunch t => uw 64 t
  | .raiseMinimumSecurityVersion t ses v => uw 64 t && ses.wf && uw 32 v
  | .imageKeySlotWrite t ses _ => uw 64 t && ses.wf
  | .imageKeyRecord t ses _ => uw 64 t && ses.wf
  | .migrationRequest t ses r => uw 64 t && ses.wf && uw 8 r
  | .regionMigrationStart t => uw 64 t
  | .migrationCopyComplete t _ => uw 64 t
  | .regionMigrationSwitch t _ => uw 64 t
  | .regionMigrationComplete t => uw 64 t
  | .blockSwap t _ _ => uw 64 t
  | .sessionOpenResponse t f => uw 64 t && f.wf
  | .unrecognisedBasarisFrame t f => uw 64 t && f.wf
  | .emcyTailWrite t tail => uw 64 t && uw 32 tail
  | .canTransmissionComplete t _ => uw 64 t
  | .canArbitrationLost t _ => uw 64 t
  | .tpdoTransmit t _ => uw 64 t
  | .portLinkUp t _ => uw 64 t
  | .pcieLinkUp t speed lanes => uw 64 t && uw 8 speed && uw 8 lanes
  | .pauseQuietTimeout t _ _ => uw 64 t
  | .roceAckReceived t _ psn _ _ => uw 64 t && uw 24 psn
  | .ptpDelayRequestTransmit t _ tx => uw 64 t && uw 64 tx
  | .ptpDelayResponseReceived t _ t2 t3 t4 correction => uw 64 t && uw 64 t2 && uw 64 t3 && uw 64 t4 && iw 64 correction
  | .coaxpressEventPacket t _ => uw 64 t

end Sys2Proof
end

