-- ==== Sys2Proof/Safety.lean ====
section
/-!
DEFINITION. What the claims about the machine are stated in: completion of a command and what it answers, the premises on the dictionary server, headers and queues, status records, resets, the invariant of the memories, and reachability.
-/

namespace Sys2Proof

/-- A command answers a next state. -/
def Completes (c : Instr) (s : Machine.State) : Prop := ∃ t, Machine.exec c s = .next t

/-- The invariant: the three memories are in canonical form. -/
def MemoriesCanonical (s : Machine.State) : Prop := s.mem.wf = true

/-- States that a run reaches from a state: a step, or a new command of the sender at the end of the queue. -/
inductive Reaches : Machine.State → Machine.State → Prop where
  | refl (s : Machine.State) : Reaches s s
  | step {s t u : Machine.State} : Reaches s t → Machine.step t = .next u → Reaches s u
  | send {s t : Machine.State} (c : Instr) : Reaches s t → Reaches s { t with pending := t.pending ++ [c] }

/-- The dictionary server can take a session's request at once: no request is held, no power-state request is latched, no commit is under way, and the session is not owed a refusal (R104, R113, R124, R457). -/
structure ServerFree (s : Machine.State) (ses : Session) : Prop where
  works : s.server.works = []
  latched : s.power.latched = none
  group : s.commit.group = none
  implicit : s.commit.implicit = []
  instant : s.commit.instant = []
  owed : s.dict.owed.contains ses = false

/-- The command answers a next state of which `P` holds. -/
def Ends (c : Instr) (s : Machine.State) (P : Machine.State → Prop) : Prop := ∃ u : Machine.State, Machine.exec c s = .next u ∧ P u

/-- `u` is `s` but for the bookkeeping of the one request served: the turn of the paths, the count of requests served (0x2020:0A) and of commits (0x2010:0A and :0B), the outcome of its commit, and its answer; every other object reads as in `s` (R105, R125). -/
def Books (s u : Machine.State) : Prop :=
  u = { s with
        server := { s.server with turn := u.server.turn }
        commit := { s.commit with lastIdent := u.commit.lastIdent, lastResult := u.commit.lastResult, lastDetail := u.commit.lastDetail }
        dict := { s.dict with active := u.dict.active }
        outbox := u.outbox }
    ∧ ∀ k : Key, k ∉ [ob 0x2020 0x0A, ob 0x2010 0x0A, ob 0x2010 0x0B] → u.obj k = s.obj k

/-- A command answers a next state in which the session's single write was answered with success, as the last output, and `P` holds (R105, R137). -/
def ServedWith (c : Instr) (s : Machine.State) (ses : Session) (P : Machine.State → Prop) : Prop :=
  Ends c s fun u => P u ∧ ∃ r : Machine.RespItem, r.code = 0 ∧ u.outbox.getLast? = some (.response ses [r])

/-- The same for a command whose write is refused with a code (R137). -/
def RefusedWith (c : Instr) (s : Machine.State) (ses : Session) (code : Nat) (P : Machine.State → Prop) : Prop :=
  Ends c s fun u => P u ∧ ∃ r : Machine.RespItem, r.code = code ∧ u.outbox.getLast? = some (.response ses [r])

/-- A state in which a write outside a group takes effect at once: the server is free, no commit group is open, and no launch runs (R113). -/
structure WritesAct (s : Machine.State) (ses : Session) : Prop extends ServerFree s ses where
  owner : s.commit.owner = none
  run : s.launch.run = none

/-- `u` is `s` but for what recording a fault touches: the log, the announcements on every path, the counters of lost announcements and of records, and the outputs (R38, R41, R134, R136). -/
def Announces (s u : Machine.State) : Prop :=
  u = { s with
        log := u.log
        node := u.node
        basaris := { s.basaris with sessions := u.basaris.sessions }
        mbx := u.mbx
        dict := { s.dict with active := u.dict.active }
        counters := { s.counters with chip := u.counters.chip }
        outbox := u.outbox }
    ∧ ∀ k : Key, k ∉ [ob 0x2020 9, ob 0x2300 3, ob 0x2380 4, ob 0x2381 4, ob 0x2382 4, ob 0x2383 4] →
        u.obj k = s.obj k

/-- A committed group whose request waits for its outcome, at a server that holds nothing else (R118, R125). -/
structure GroupWaits (s : Machine.State) (c : Machine.Commit) (w : Machine.Work) (r : Machine.RespItem) : Prop where
  group : s.commit.group = some c
  works : s.server.works = [w]
  waits : w.waits = some (c.ident, r)
  begun : w.begun = true
  outcome : w.outcome = none
  plain : w.reply = .plain
  items : w.items = []
  fresh : w.done = []
  implicit : s.commit.implicit = []
  instant : s.commit.instant = []
  latched : s.power.latched = none

/-- Objects whose value takes effect without an action of its own: the fault log's threshold and coalescing window (R41), and the EMCY inhibit and heartbeat times (R111, R136). -/
def quietKeys : List Key := [ob 0x5810 7, ob 0x5810 8, ob 0x1015 0, ob 0x1017 0]

/-- An image whose launch stores nothing by itself: no input record has a place in a memory, and no page table or sequence record has one (R247, R329, R330). -/
def StoresNothing (im : Image) : Prop := im.pinned = [] ∧ im.inputBuffers = [] ∧ im.kvPlaces = []

/-- A frame that Basaris takes in session `b`: an Ethernet port has power, header, length and tag are right, and it is of the given type (R37, R127, R128). -/
structure FrameOf (s : Machine.State) (f : BFrame) (b : Machine.BSession) (type : Nat) : Prop where
  enabled : s.basaris.enabled = true
  powered : s.ethernetPowered = true
  magic : Machine.bfMagic f = 0xBA5A
  version : Machine.bfVersion f = 1
  type : Machine.bfType f = type
  session : s.findSession f = some b
  limit : Machine.bfLength f ≤ s.payloadLimit f.source
  length : Machine.bfLength f = f.payload.length
  tag : f.tag = Machine.frameTag b.key f

/-- A descriptor that arrives at block r.b can start at once: the region's logic is on and its engines may start it, no commit asks its engines, nothing waits in the block's queue or window port, and a prefetch finds the credit of its buffer (R120, R147 to R149, R361). -/
structure BlockStarts (s : Machine.State) (r : Fin 10) (b : Fin 18) (c : Instr) (h : BitVec 128) : Prop where
  logic : s.logicOn r = true
  may : s.mayStart r h = true
  commits : s.preparing = []
  queue : (s.block r b).waiting = []
  port : (s.block r b).selWait = none
  credit : Machine.laneOf c = 2 → s.accessGoes r b ⟨(s.block r b).taken, c⟩ = true

/-- The same at the queues of a region's zoo. -/
structure ZooStarts (s : Machine.State) (r : Fin 10) (h : BitVec 128) : Prop where
  logic : s.logicOn r = true
  may : s.mayStart r h = true
  commits : s.preparing = []
  queue : s.regions[r].waiting = []

/-- The state in which a descriptor of a block starts: its queue has noted its sequence number, and a prefetch has taken its buffer's credit (R149, R165). -/
def blockNoted (s : Machine.State) (r : Fin 10) (b : Fin 18) (c : Instr) (h : BitVec 128) : Machine.State :=
  s.modBlock r b fun x => { x with prevSeq := some (Machine.hSequence h), taken := x.taken + 1, held := x.held ++ ((s.prefetchBuffer r b c).map fun e => e.1).toList }

/-- A descriptor header that an engine's queue admits: its fields, class, sequence and status address right (R165). -/
structure HeaderOk (s : Machine.State) (r : Fin 10) (h : BitVec 128) (engine : Nat) (classOk : Bool) (prev : Option Nat) : Prop where
  fields : Machine.headerInvalid h engine = false
  cls : Machine.hClass h ≠ 0 ∧ classOk = true
  sequence : Machine.sequenceOk prev (Machine.hSequence h) = true
  status : s.permits (Machine.hClass h) (Machine.rmemAt r.val (Machine.hStatusAddr h)) 16 true = true
  room : (Machine.rmemAt r.val (Machine.hStatusAddr h)).inside 16 = true

/-- The status record of a descriptor that ended: 16 bytes at its status address (R166). -/
def StatusIs (s : Machine.State) (r : Fin 10) (h : BitVec 128) (status detail count : Nat) (invalid late : Bool) : Prop :=
  s.load (Machine.rmemAt r.val (Machine.hStatusAddr h)) 16 = Machine.leBytes 16 (Machine.statusRecord (Machine.hSequence h) status detail count invalid late)

/-- The consistency checks find nothing in a write that is served at a count (R118). -/
def ChecksPass (s : Machine.State) (t : Nat) (key : Key) (v : Val) : Prop := (s.advance t).takeIdent.firstFailing [(key, v)] = none

/-- What every restart of the compute die does, by a source: no launch, the reduced state where fewer than 8 regions work (R28), memories and sequences gone, links and queues as at reset, the boot begins anew; roles of blocks and regions stay, and so does what lies in flash (R473, R474). -/
structure DieRestarted (s u : Machine.State) (source : Nat) : Prop where
  launch : u.launch = { Machine.Launch.reset with reduced := decide (s.working < 8) }
  mem : u.mem = ⟨[], [], []⟩ ∧ u.marks = []
  kv : u.kv = Machine.Kv.reset
  net : u.net = Machine.Net.reset
  boot : u.service.bootState = 0 ∧ u.service.lastReset = source
  roles : (∀ i : Fin 180, u.blocks[i].role = s.blocks[i].role) ∧ ∀ r : Fin 10, u.regions[r].role = s.regions[r].role
  flash : u.dict.stored = s.dict.stored ∧ u.log.persistent = s.log.persistent ∧ u.crust.stored = s.crust.stored

/-- What a cold boot leaves, by a source: the log's ring (where a checker region is there, R367), sessions, launch and memories are gone, the Crust is in START without latches; the persistent log, the stored parameter set, the image keys and the minimum version stay; stored values stay unless they were marked for the defaults (R41, R109, R376, R380, R473). -/
structure ColdStarted (s u : Machine.State) (source weft : Nat) : Prop where
  time : u.time.weft = weft
  log : (s.regionOf 1).isSome = true → u.log.ring = [] ∧ u.log.nextSeq = 0 ∧ u.log.unacked = [] ∧ u.log.persistent = s.log.persistent
  launch : u.launch = { Machine.Launch.reset with reduced := decide (s.working < 8), count := u.launch.count }
  mem : u.mem = ⟨[], [], []⟩ ∧ u.marks = []
  sessions : u.basaris.sessions = []
  crust : u.crust.state = .start ∧ u.crust.latches = [] ∧ u.crust.active = s.crust.stored ∧ u.crust.stored = s.crust.stored
  boot : u.service.bootState = 0 ∧ u.service.lastReset = source
  fuses : u.service.minVersion = s.service.minVersion ∧ u.service.imageKeys = s.service.imageKeys
  stored : u.dict.stored = if s.dict.restoreMark then [] else s.dict.stored

end Sys2Proof
end

