-- ==== Sys2Proof/Certificates/Slice0/Obligations.lean ====
section
/-!
DEFINITION. The statements about the model, one per group of commands that share a part of the spec: what each command does, on which conditions, and what it leaves as it was.
Each cites the rules of spec/ that it rests on.
The vocabulary (Ends, ServedWith, Books, StatusIs and the others) is that of Safety.lean.
-/

open Sys2Proof Sys2Proof.Machine

/-! ## The machine: its queue, its reset, its memories, its time -/

/-- O1. First in, first out: a step runs the command at the front of the queue on the state with the queue's rest; and every command completes: in every state it answers a next state, never a fault or a refusal. -/
def Obligations.StepRunsTheFrontCommand : Prop :=
  ∀ (c : Instr) (rest : List Instr) (s : State), 
    (s.pending = c :: rest → step s = exec c { s with pending := rest }) ∧ ∃ t : State, exec c s = .next t

/-- O2. With no command and no descriptor waiting and nothing for the server to do, a step is one tick of the timebase and nothing else (the model's choice, log entry 2). -/
def Obligations.EmptyQueueStepIsOneTick : Prop :=
  ∀ s : State, s.pending = [] → s.server.works = [] → s.power.latched = none → s.commit.group = none → s.commit.implicit = [] → s.commit.instant = [] →
    (∀ (r : Fin 10) (b : Fin 18), (s.block r b).waiting = [] ∧ (s.block r b).selWait = none) → (∀ r : Fin 10, s.regions[r].waiting = []) →
    s.time.tick.clampedTicks = s.time.clampTold → step s = .next { s with time := s.time.tick }

/-- O3. The three memories are in canonical form right after reset. -/
def Obligations.MemoriesCanonicalAtReset : Prop := MemoriesCanonical State.reset

/-- O4. Every step keeps the three memories in canonical form. -/
def Obligations.EveryStepKeepsMemoriesCanonical : Prop := ∀ s t : State, MemoriesCanonical s → step s = .next t → MemoriesCanonical t

/-- O5. What reset leaves, where the spec gives the value: accumulators zero (R140), blocks 16 and 17 spare (R168), launch state 0 (R93), no group open (R115), port 47,600 (R139), the fault log empty (R41), the Crust in START (R376), domain 63 off and every other domain on (R442). -/
def Obligations.ResetLeavesTheStatedValues : Prop :=
  (∀ (r : Fin 10) (b : Fin 18), (State.reset.block r b).acc = [] ∧ (State.reset.block r b).role = if b.val < 16 then 0 else 1)
  ∧ State.reset.launch.state = .none ∧ State.reset.launch.run = none
  ∧ State.reset.commit.owner = none ∧ State.reset.basaris.port = 47600
  ∧ State.reset.log.ring = [] ∧ State.reset.log.nextSeq = 0
  ∧ State.reset.crust.state = .start
  ∧ (∀ d : Fin 72, State.reset.power.domains[d].state = if d.val = 63 then 0 else 2)

/-- O6. Every field of a well-formed command's count fits the 64-bit weft count. -/
def Obligations.WellFormedCommandsHaveCounts : Prop := ∀ c : Instr, c.wf → c.time < 2 ^ 64

/-- O7. Bytes stored at a place inside a memory read back as stored, and every byte of another place reads as before. -/
def Obligations.StoredBytesReadBack : Prop :=
  ∀ (s : State) (p q : MemRef) (bs : Bytes) (n : Nat), p.inside bs.length = true → q.inside n = true →
    (s.store p bs).load p bs.length = bs
    ∧ ((p.space ≠ q.space ∨ p.key + bs.length ≤ q.key ∨ q.key + n ≤ p.key) → (s.store p bs).load q n = s.load q n)
    ∧ { s.store p bs with mem := s.mem, marks := s.marks } = s

/-- O8. R383: outside a hold a tick adds the increment and a running adjustment to the count and its fraction, clamped to nominal ± 1,000 ppm, and counts a clamped tick; in a hold the count stands (R385). -/
def Obligations.TickAddsTheClampedIncrement : Prop :=
  ∀ tm : Time,
    (tm.hold = 0 →
      let sum : Int := tm.base + if tm.adjTicks = 0 then 0 else tm.adj
      let added : Int := if sum < 17162689315 then 17162689315 else if 17197049053 < sum then 17197049053 else sum
      (tm.tick.weft : Int) * 2 ^ 32 + tm.tick.frac = (tm.weft : Int) * 2 ^ 32 + tm.frac + added ∧ tm.tick.frac < 2 ^ 32
      ∧ tm.tick.clampedTicks = (tm.clampedTicks + if added = sum then 0 else 1) % 2 ^ 32)
    ∧ (tm.hold ≠ 0 → tm.tick.weft = tm.weft ∧ tm.tick.hold = tm.hold - 1 ∧ tm.tick.clampedTicks = tm.clampedTicks)

/-- O9. A command's count moves the time forward and never back: it becomes the count, unless a hold stands or the count lies behind (R385); nothing else of the state changes. -/
def Obligations.CountsNeverDecrease : Prop :=
  ∀ (s : State) (t : Nat), s.now ≤ (s.advance t).now
    ∧ (s.time.hold = 0 → s.now ≤ t → (s.advance t).now = t) ∧ (s.time.hold ≠ 0 → (s.advance t).now = s.now)
    ∧ { s.advance t with time := s.time } = s

/-! ## Faults and emergencies -/

/-- O10. R38, R41, R42: a fault that no earlier record absorbs is appended to the log as one record with its code, location, detail, time and sequence number; memories, launch, power, motion and Crust state stay as they are. -/
def Obligations.FaultAppendsOneRecord : Prop :=
  ∀ (s : State) (code : Nat) (loc : Loc) (detail part : Nat),
    let r := FaultRec.make code loc detail part s.now s.log.nextSeq
    let u := s.recordFault code loc detail part
    (r.cls ≠ 0 ∨ s.nat (ob 0x5810 8) = 0 ∨ coalesceInto s.log.ring r (1000 * s.nat (ob 0x5810 8)) = none) →
      u.log = s.log.append r ∧ r.code = code ∧ r.region = loc.region ∧ r.block = loc.block ∧ r.cell = loc.cell ∧ r.unit = loc.unit
      ∧ r.weft = s.now ∧ r.seq = s.log.nextSeq ∧ r.rep = 0
      ∧ u.mem = s.mem ∧ u.launch = s.launch ∧ u.power = s.power ∧ u.motion = s.motion ∧ u.crust = s.crust ∧ u.time = s.time

/-- O11. R41, R42: the log keeps at most 4,096 records: a record joins at the end with the next sequence number, a full ring loses its oldest record and counts it, and degraded or safety records join the persistent log of 1,024 and wait for their acknowledgement; an occurrence that coalesces adds no record: one record's repeat count rises by one, up to 255, and every other record stays. -/
def Obligations.FaultLogKeepsTheLastRecords : Prop :=
  (∀ (g : FaultLog) (r : FaultRec), g.ring.length ≤ 4096 →
    (g.append r).ring.length ≤ 4096 ∧ (g.append r).ring.getLast? = some r ∧ (g.append r).nextSeq = (g.nextSeq + 1) % 2 ^ 32
    ∧ (g.ring.length < 4096 → (g.append r).ring = g.ring ++ [r] ∧ (g.append r).lost = g.lost)
    ∧ (g.ring.length = 4096 → (g.append r).ring = g.ring.drop 1 ++ [r] ∧ (g.append r).lost = (g.lost + 1) % 2 ^ 32)
    ∧ (2 ≤ r.cls → (g.append r).persistent = lastN 1024 (g.persistent ++ [r]) ∧ (g.append r).unacked = g.unacked ++ [r.seq])
    ∧ (r.cls < 2 → (g.append r).persistent = g.persistent ∧ (g.append r).unacked = g.unacked))
  ∧ ∀ (ring : List FaultRec) (n : FaultRec) (windowNs : Nat) (ring' : List FaultRec), coalesceInto ring n windowNs = some ring' →
    ∃ before o after, ring = before ++ o :: after ∧ ring' = before ++ { o with rep := min 255 (o.rep + 1) } :: after
      ∧ o.absorbs n windowNs = true ∧ ∀ x ∈ after, x.absorbs n windowNs = false

/-- O12. R136: when the inhibit time has ended, the oldest waiting EMCY message leaves with the identifier in 0x1014 and starts the inhibit time anew; with none waiting the inhibit time is over. -/
def Obligations.EmcyInhibitExpirySendsTheOldest : Prop :=
  ∀ (t : Nat) (s : State), (s.advance t).inhibited = false →
    (∀ m rest, s.node.queue = m :: rest → s.nodeSends = true →
      exec (.emcyInhibitExpiry t) s = .next (((((s.advance t).modNode fun n => { n with queue := rest }).emit (.emcy (s.nat (ob 0x1014 0) % 2 ^ 29) m)).bump (ob (0x2380 + s.nodeCtl.val) 4)).modNode
        fun n => { n with inhibit := some ((s.advance t).now + 100000 * s.nat (ob 0x1015 0)) }))
    ∧ (s.node.queue = [] → exec (.emcyInhibitExpiry t) s = .next ((s.advance t).modNode fun n => { n with inhibit := none }))

/-! ## Commit control and dictionary writes -/

/-- O13. R115 to R118: a session opens the group, a second open is refused, the owner discards it, or commits it: restart values become pending, and instant values wait for the next beat of a running launch, without an answer so far; any other session's commit and discard are refused. -/
def Obligations.CommitGroupOpensCommitsAndDiscards : Prop :=
  ∀ (s : State) (t : Nat) (ses : Session), ServerFree s ses →
    (s.commit.owner = none →
      ServedWith (.commitOpen t ses) s ses (Books { s.advance t with commit := { s.commit with owner := some ses, entries := [], lastActivity := (s.advance t).now } }))
    ∧ (∀ o, s.commit.owner = some o → o ≠ ses → RefusedWith (.commitOpen t ses) s ses 0x0E000001 (Books (s.advance t)))
    ∧ (s.commit.owner = some ses →
      ServedWith (.commitDiscard t ses) s ses (Books { s.advance t with commit := { s.commit with owner := none, entries := [], lastActivity := (s.advance t).now } }))
    ∧ (s.commit.owner ≠ some ses →
      RefusedWith (.commit t ses) s ses 0x0E000003 (Books (s.advance t)) ∧ RefusedWith (.commitDiscard t ses) s ses 0x0E000003 (Books (s.advance t)))
    ∧ (s.commit.owner = some ses → isRestart s.commit.entries = true → (s.advance t).takeIdent.firstFailing s.commit.entries = none →
      ServedWith (.commit t ses) s ses fun u =>
        Books { s.advance t with commit := { s.commit with owner := none, entries := [], lastActivity := (s.advance t).now, pending := s.commit.entries.foldl (fun l e => put l e.1 e.2) s.commit.pending } } u
        ∧ u.commit.lastIdent = (s.commit.lastIdent + 1) % 2 ^ 32 ∧ u.commit.lastResult = 0)
    ∧ (∀ run, s.commit.owner = some ses → isRestart s.commit.entries = false → isDrained s.commit.entries = false → s.nat (ob 0x2010 3) = 0 →
      (s.advance t).takeIdent.firstFailing s.commit.entries = none → s.launch.run = some run → 0 < run.period →
      Ends (.commit t ses) s fun u => ∃ c, u.commit.group = some c ∧ c.entries = s.commit.entries ∧ c.scheduled = true ∧ c.beat = (s.advance t).nextBeat
        ∧ u.commit.owner = some ses ∧ u.dict = s.dict ∧ u.outbox = s.outbox ∧ u.mem = s.mem ∧ u.launch = s.launch)

/-- O14. R120, R121, R123, R124: what a committed group waits for: a ready report takes its engine off the list; after the last one the switch is scheduled for the next beat; at its beat, after the in-service changes of that beat (R123), every value becomes active and the request is answered; the commit timeout and the passing of the requested beat abort it with their codes; an open group left idle is discarded, and its owner is owed a refusal. -/
def Obligations.CommittedGroupSwitchesOrAborts : Prop :=
  (∀ (s : State) (t : Nat) (c : Commit) (w : Work) (r : RespItem), GroupWaits s c w r →
    (∀ e : Engine, c.started = true → c.scheduled = false → c.notReady.contains e = true → (c.notReady.filter fun x => x != e) ≠ [] →
      c.beat = 0 ∨ (s.advance t).begunBy c.beat (s.advance t).now = false →
      exec (.engineReadyReport t e) s = .next { s.advance t with commit := { s.commit with group := some { c with notReady := c.notReady.filter fun x => x != e } } })
    ∧ (∀ (e : Engine) (run : Run), s.launch.run = some run → 0 < run.period → c.started = true → c.scheduled = false → c.notReady = [e] → c.beat = 0 →
      exec (.engineReadyReport t e) s =
        .next { s.advance t with commit := { s.commit with group := some { c with notReady := [], scheduled := true, beat := (s.advance t).nextBeat } } })
    ∧ (∀ run : Run, s.launch.run = some run → c.scheduled = true → run.countOf c.beat ≤ (s.advance t).now → (∀ e ∈ c.entries, e.1 ∈ quietKeys) →
      (s.advance t).changeDue c.beat = false → s.launch.lastBeat ≠ some c.beat →
      Ends (.commitSwitch t) s fun u => u.commit.group = none ∧ u.commit.owner = none ∧ u.commit.lastResult = 0 ∧ u.commit.lastBeat = c.beat ∧ u.server.works = []
        ∧ (∀ k : Key, k ∉ [ob 0x2020 0x0A, ob 0x2010 0x0A, ob 0x2010 0x0B] → u.obj k = (c.entries.foldl (fun x e => x.setObj e.1 e.2) s).obj k)
        ∧ u.outbox = s.outbox ++ [.response w.ses [r]] ∧ u.mem = s.mem ∧ u.launch = s.launch ∧ u.log = s.log)
    ∧ (c.waits = true → c.since + 1000000 * s.nat (ob 0x2010 4) ≤ (s.advance t).now →
      Ends (.commitTimeout t) s fun u => u.commit.group = none ∧ u.commit.owner = none ∧ u.commit.pending = s.commit.pending ∧ u.commit.lastResult = 0x0E000007
        ∧ u.server.works = [] ∧ u.outbox.getLast? = some (.response w.ses [{ r with code := 0x0E000007, data := [] }]) ∧ u.mem = s.mem ∧ u.launch = s.launch)
    ∧ (∀ run : Run, c.waits = true → c.beat ≠ 0 → s.launch.run = some run → run.countOf c.beat ≤ (s.advance t).now →
      Ends (.commitBeatPassed t) s fun u => u.commit.group = none ∧ u.commit.owner = none ∧ u.commit.pending = s.commit.pending ∧ u.commit.lastResult = 0x0E000006
        ∧ u.server.works = [] ∧ u.outbox.getLast? = some (.response w.ses [{ r with code := 0x0E000006, data := [] }]) ∧ u.mem = s.mem ∧ u.launch = s.launch))
  ∧ ∀ (s : State) (t : Nat) (ses : Session), ServerFree s ses → s.commit.owner = some ses →
      s.commit.lastActivity + 1000000000 * s.nat (ob 0x2010 0x0D) ≤ (s.advance t).now →
      exec (.commitGroupIdleTimeout t) s =
        .next (({ s.advance t with commit := { s.commit with owner := none, entries := [] }, dict := { s.dict with owed := s.dict.owed ++ [ses] } } : State).fault
          0x0E05 .chip (at_ 32 32 (Config.sessionCode ses) ||| at_ 8 0 1))

/-- O15. R18, R20, R107, R109, R113, R116, R124: a write takes effect at once, is staged by the owner of the open group, or is refused with the code of its cause, which starts the idle time of its owner's group anew (R124); the signatures of store and restore do what R109 says. -/
def Obligations.WritesActStageOrAreRefused : Prop :=
  ∀ (s : State) (t : Nat) (ses : Session), ServerFree s ses →
    (∀ (k : Key) (v : Val) (r : Row), k ∈ quietKeys → rowOf k = some r → r.ty.fits v = true → r.rng.ok v = true →
      (WritesAct s ses → ServedWith (.objectWrite t ses k v) s ses (Books ((s.advance t).setObj k v)))
      ∧ (s.commit.owner = some ses → isRestart (del s.commit.entries k) = false → (put s.commit.entries k v).length ≤ 256 → stagedBytes (put s.commit.entries k v) ≤ 65536 →
        ServedWith (.objectWrite t ses k v) s ses
          (Books { s.advance t with commit := { s.commit with entries := put s.commit.entries k v, lastActivity := (s.advance t).now } })))
    ∧ (∀ (k : Key) (v : Val), rowOf k = none → RefusedWith (.objectWrite t ses k v) s ses (missingCode k) (Books ((s.advance t).touchGroup ses k)))
    ∧ (∀ (k : Key) (v : Val) (r : Row), rowOf k = some r → (k / 256 < 0x2240 ∨ 0x224B < k / 256) → r.acc = .ro ∨ r.acc = .const →
      RefusedWith (.objectWrite t ses k v) s ses 0x06010002 (Books ((s.advance t).touchGroup ses k)))
    ∧ (∀ (k : Key) (v : Val) (r : Row), rowOf k = some r → (k / 256 < 0x2240 ∨ 0x224B < k / 256) → r.acc = .crust →
      RefusedWith (.objectWrite t ses k v) s ses 0x0E00000E
        (Books ((((s.advance t).touchGroup ses k).bump (ob 0x4880 8)).fault 0x0B0E .chip (at_ 16 16 (k / 256) ||| k % 256))))
    ∧ ServedWith (.storeAllParameters t ses 0x65766173 0) s ses
        (Books { s.advance t with dict := { s.dict with stored := (s.advance t).toStore, storedFollows := s.dict.cobFollows, restoreMark := false } })
    ∧ (∀ flash : Nat, flash ≠ 0 →
      RefusedWith (.storeAllParameters t ses 0x65766173 flash) s ses 0x08000020 (Books ((s.advance t).fault 0x0E04 .chip (flash % 2 ^ 32))))
    ∧ ServedWith (.restoreDefaultParameters t ses 0x64616F6C) s ses (Books { s.advance t with dict := { s.dict with restoreMark := true } })

/-! ## Requests for launches, power states, faults and counters -/

/-- O16. R93, R457 to R459: a launch proposed alone is confirmed at once, or aborted where its conditions fail; idle and resume requests wait for their beats; standby ends what runs and takes the output-off state; leaving it restarts the compute die; the readiness check keeps the device idle where a domain is not ready 10 ms before the resume beat. -/
def Obligations.LaunchAndPowerStateRequests : Prop :=
  (∀ (s : State) (t count : Nat) (ses : Session), WritesAct s ses → count % 1000 = 0 → count < 2 ^ 64 → ChecksPass s t (ob 0x3C00 4) (.int count) →
    (s.advance t).proposeRefused = false → (s.advance t).group = [] →
    ((s.advance t).synchronisedIn (s.advance t).ownDomain (s.nat (ob 0x3C00 6)) = true → (s.advance t).now + 1000000 * s.nat (ob 0x3C00 7) ≤ count →
      ServedWith (.launchPropose t ses count) s ses
        (Books { s.advance t with
          launch := { s.launch with state := .confirmed, count := count, leader := true, needAck := [], needResp := [], repeatAt := some (s.advance t).now, final := false }
          service := { s.service with auto := false } }))
    ∧ (count < (s.advance t).now + 1000000 * s.nat (ob 0x3C00 7) →
      ServedWith (.launchPropose t ses count) s ses
        (Books { s.advance t with launch := { s.launch with state := .aborted, needAck := [], needResp := [], final := false } })))
  ∧ (∀ (s : State) (t : Nat) (ses : Session) (run : Run), ServerFree s ses → s.launch.run = some run → (s.advance t).powerBusy = false →
    ((s.advance t).powerRefused 1 = false →
      ServedWith (.idleRequest t ses) s ses (Books { s.advance t with launch := { s.launch with run := some { run with pauseAt := some (s.nat (ob 0x2100 4)) } } }))
    ∧ ((s.advance t).powerRefused 2 = false →
      ServedWith (.resumeRequest t ses) s ses (Books ((idxs 72).foldl (fun x d => x.latchRequest d)
        { s.advance t with launch := { s.launch with run := some { run with resumeAt := some (s.nat (ob 0x2100 4)) } } }))))
  ∧ (∀ (s : State) (t : Nat) (ses : Session), WritesAct s ses → s.launching = false →
    (s.power.state = .run → ServedWith (.standbyRequest t ses) s ses fun u => u.power.state = .standby ∧ u.kv = Kv.reset ∧ u.commit.pending = []
      ∧ u.launch.image = none ∧ u.launch.run = none ∧ u.mem = s.mem
      ∧ ∀ k : Fin 16, u.motion.axes[k].pwm = if s.nat (ob (0x4820 + k.val) 8) = 1 ∧ s.power.mainOk = true then .lowSidesOn else .gatesOff)
    ∧ (s.power.state = .standby → (s.advance t).domainsReady = true →
      ServedWith (.leaveStandby t ses) s ses fun u => DieRestarted s u 6 ∧ u.power.state = .run ∧ u.counters.block = [] ∧ u.counters.cell = [] ∧ u.counters.zeroAt = (s.advance t).now))
  ∧ ∀ (s : State) (t b : Nat) (run : Run), s.launch.run = some run → run.resumeAt = some b →
      ((s.advance t).domainsReady = true ∨ (s.advance t).now + 10000000 < run.countOf b → exec (.resumeReadinessCheck t) s = .next (s.advance t))
      ∧ ((s.advance t).domainsReady = false → run.countOf b ≤ (s.advance t).now + 10000000 → exec (.resumeReadinessCheck t) s = .next ((idxs 72).foldl (fun x d => x.latchRequest d)
        (({ s.advance t with launch := { s.launch with run := some { run with resumeAt := none } } } : State).fault 0x100D .chip b)))

/-- O17. R42, R43, R462, R470 to R472: records are read from the window and acknowledged up to a sequence number; the last acknowledge sends the error-reset message, which may displace a waiting one (R136); counters are zeroed, dumps latched when a multiple of their period has passed, and read. -/
def Obligations.FaultRecordsAndCountersAreReadAndCleared : Prop :=
  (∀ (s : State) (t seq : Nat) (ses : Session), WritesAct s ses → seq < 2 ^ 32 →
    let left := s.log.unacked.filter fun q => !atOrAfter seq q
    let a : State := { s.advance t with log := { s.log with unacked := left } }
    (left ≠ [] ∨ s.log.unacked = [] → ServedWith (.faultAcknowledge t ses seq) s ses (Books a))
    ∧ (left = [] → s.log.unacked ≠ [] → ServedWith (.faultAcknowledge t ses seq) s ses fun u =>
        u.errorRegister = 0 ∧ Books ((a.queueEmcy { emcyCode := 0, errorRegister := 0, faultCode := 0, cls := 0, level := 0, seqLow := 0 }).tellDisplaced (s.nat (ob 0x2300 3))) u))
  ∧ (∀ (s : State) (t : Nat) (ses : Session), ServerFree s ses →
    (Ends (.faultLogRead t ses) s fun u => (∃ r, u.outbox = s.outbox ++ [.response ses [r]] ∧ r.code = 0
        ∧ r.data = (s.log.window (s.nat (ob 0x5810 6))).take 1024)
      ∧ u = { s.advance t with server := u.server, dict := { s.dict with active := u.dict.active }, outbox := u.outbox })
    ∧ (Ends (.dumpWindowRead t ses) s fun u => (∃ r, u.outbox = s.outbox ++ [.response ses [r]] ∧ r.code = 0 ∧ r.data = (s.advance t).dumpWindow.take 262144)
      ∧ u = { s.advance t with server := u.server, dict := { s.dict with active := u.dict.active }, outbox := u.outbox }))
  ∧ (∀ (s : State) (t : Nat) (ses : Session), WritesAct s ses → ChecksPass s t (ob 0x5000 3) (.int 1) →
    ServedWith (.zeroAllCounters t ses) s ses (Books { s.advance t with counters :=
      { s.counters with old := some (s.advance t).counterSets, chip := chipCounters, region := Vector.replicate 10 (Vector.replicate 16 0), block := [], cell := [],
                        zeroDue := false, zeroAt := (s.advance t).now } }))
  ∧ ∀ (s : State) (t : Nat), ((s.nat (ob 0x5000 1) = 0 ∨ (s.advance t).dumpDue = false) → exec (.dumpLatch t) s = .next (s.advance t))
      ∧ ((s.advance t).dumpDue = true → Ends (.dumpLatch t) s fun u => (∃ d, u.counters.dumps.getLast? = some d ∧ d.seq = s.counters.dumpSeq)
        ∧ u = { s.advance t with
                service := { s.service with entropy := s.service.entropy + 1 }
                counters := { s.counters with dumps := u.counters.dumps, overwritten := u.counters.overwritten
                                              dumpSeq := (s.counters.dumpSeq + 1) % 2 ^ 32, lastLatch := (s.advance t).now } })

/-! ## Resets, boot, firmware and images -/

/-- O18. R438, R439, R450, R473: resets by their causes and what each keeps; the two supply inputs and what their loss switches off. -/
def Obligations.ResetsAndSupplyInputs : Prop :=
  (∀ (s : State) (t : Nat) (ses : Session), WritesAct s ses →
    (ServedWith (.resetRequestWarm t ses) s ses fun u => DieRestarted s u 4 ∧ u.can = s.can ∧ u.tt = s.tt ∧ u.log = s.log ∧ u.crust = s.crust ∧ u.motion = s.motion)
    ∧ (Ends (.resetRequestCold t ses) s fun u => ColdStarted s u 3 (s.advance t).now ∧ u.outbox = s.outbox)
    ∧ ((s.advance t).dieRestartRefused = false → ServedWith (.computeDieRestart t ses) s ses fun u => DieRestarted s u 6 ∧ u.power.tripped = false ∧ u.crust = s.crust))
  ∧ (∀ (s : State) (t nanos : Nat), (nanos < 10000 → exec (.sysRstNLow t nanos) s = .next (s.advance t))
    ∧ (10000 ≤ nanos → Ends (.sysRstNLow t nanos) s fun u => ColdStarted s u 2 (s.advance t).now))
  ∧ (∀ (s : State) (t : Nat) (core other : Fin 2),
    (s.service.coresDown = [] → exec (.managerWatchdogExpiry t core) s = .next { s.advance t with service := { s.service with coresDown := [core] } })
    ∧ (s.service.coresDown = [other] → other ≠ core → Ends (.managerWatchdogExpiry t core) s fun u => DieRestarted s u 5 ∧ u.service.coresDown = []))
  ∧ (∀ (s : State) (t : Nat), (s.power.mainOk = true → exec (.modulePowerOff t) s = .next (s.advance t))
    ∧ (s.power.mainOk = false → s.power.mainDv < 360 ∨ 600 < s.power.mainDv → Ends (.modulePowerOff t) s fun u =>
      DieRestarted s u s.service.lastReset ∧ u.power.state = .off ∧ ∀ d : Fin 72, u.power.domains[d].state = 0)
    ∧ (s.power.mainOk = false → 360 ≤ s.power.mainDv → s.power.mainDv ≤ 600 → Ends (.modulePowerOff t) s fun u => ColdStarted s u 1 0))
  ∧ (∀ (s : State) (t dv : Nat), (s.power.state = .off → Ends (.mainInputReturn t dv) s fun u => ColdStarted s u 1 0 ∧ u.power.mainDv = dv)
    ∧ (s.power.state ≠ .off → exec (.mainInputReturn t dv) s = .next { s.advance t with power := { s.power with mainDv := dv } }))
  ∧ ∀ (s : State) (t dv : Nat),
      (s.power.mainOk = true → exec (.mainInputLoss t dv) s = .next (({ s.advance t with
        power := { s.power with mainDv := dv, mainOk := false }
        motion := { s.motion with axes := s.motion.axes.map fun a => { a with pwm := .gatesOff, prevA := 0, prevB := 0, prevC := 0 } } } : State).fault
          0x1001 .chip (at_ 16 0 dv ||| at_ 1 16 (b2n (decide (620 < dv))))))
      ∧ (s.power.fieldOk = true → exec (.fieldInputLoss t dv) s = .next (({ s.advance t with
        power := { s.power with fieldDv := dv, fieldOk := false }
        motion := { s.motion with
          outputs := s.motion.outputs.map fun o => { o with level := false, waiting := true }
          supplies := s.motion.supplies.map fun x => if x.state = 5 then x else { x with state := 0, latched := none } } } : State).fault 0x1002 .chip (at_ 16 0 dv)))
      ∧ (s.power.fieldOk = false → exec (.fieldInputReturn t dv) s = .next { s.advance t with
        power := { s.power with fieldDv := dv, fieldOk := true }
        motion := { s.motion with supplies := s.motion.supplies.map fun x => if x.state = 5 then x else { x with state := x.command } } })

/-- O19. R474, R477: a boot runs the verified firmware of the active slot and the verified image; an image that does not verify, or two firmware slots that fail, lead to recovery; a booted device ignores it. -/
def Obligations.BootRunsTheVerifiedSlots : Prop :=
  ∀ (s : State) (t : Nat) (a b : Bundle) (image : Option Image) (sigOk : Bool),
    (s.service.bootState ≠ 0 → exec (.coldBoot t a b image sigOk [] []) s = .next (s.advance t))
    ∧ (s.service.bootState = 0 → s.service.lastReset ≠ 6 →
      (∀ im, image = some im → s.service.swaps = [] → s.service.slot = 0 → s.bundleReason a = 0 → s.imageReason im sigOk = 0 →
        Ends (.coldBoot t a b image sigOk [] []) s fun u => u.service.bootState = 1 ∧ u.service.slot = 0 ∧ u.service.firmware = a.version
          ∧ u.service.fwSecurity = a.securityVersion ∧ u.launch.image = some im ∧ u.launch.run.isSome = s.launch.run.isSome ∧ u.can = s.can ∧ u.kv = s.kv)
      ∧ (∀ im, image = some im → s.service.swaps = [] → s.service.slot = 0 → s.bundleReason a ≠ 0 → s.bundleReason b = 0 → s.imageReason im sigOk = 0 →
        Ends (.coldBoot t a b image sigOk [] []) s fun u => u.service.bootState = 1 ∧ u.service.slot = 1 ∧ u.service.firmware = b.version ∧ u.launch.image = some im)
      ∧ (s.bundleReason a ≠ 0 → s.bundleReason b ≠ 0 →
        Ends (.coldBoot t a b image sigOk [] []) s fun u => u.service.bootState = 2 ∧ u.launch = s.launch ∧ u.mem = s.mem)
      ∧ (s.service.slot = 0 → s.bundleReason a = 0 → (∀ im, image = some im → s.imageReason im sigOk ≠ 0) →
        Ends (.coldBoot t a b image sigOk [] []) s fun u => u.service.bootState = 2 ∧ u.launch.image = none))

/-- O20. R476, R477, R480, R481: the states of the firmware and image slots under their commands and events, the minimum security version, and the image key slots. -/
def Obligations.FirmwareAndImageSlots : Prop :=
  (∀ (s : State) (t : Nat) (ses : Session), WritesAct s ses →
    (s.service.fwState ≠ 1 → s.service.fwState ≠ 3 →
      ServedWith (.firmwareValidate t ses) s ses (Books { s.advance t with service := { s.service with fwState := 1, fwReason := 0, fwStaged := none } }))
    ∧ ServedWith (.firmwareCancel t ses) s ses (Books { s.advance t with service := { s.service with fwState := 0, fwReason := 0, fwStaged := none } })
    ∧ (s.service.imgState ≠ 1 → s.service.imgState ≠ 3 →
      ServedWith (.imageValidate t ses) s ses (Books { s.advance t with service := { s.service with imgState := 1, imgReason := 0, imgStaged := none } }))
    ∧ (s.service.imgState = 2 → (s.advance t).now + 1000 * s.nat (ob 0x5800 0x0B) ≤ s.nat (ob 0x5830 3) →
      ServedWith (.imageRelaunch t ses) s ses (Books { s.advance t with service := { s.service with imgState := 3 } }))
    ∧ ServedWith (.imageCancel t ses) s ses (Books { s.advance t with service := { s.service with imgState := 0, imgReason := 0, imgStaged := none } })
    ∧ (s.service.fwSecurity < 2 ^ 32 → ServedWith (.raiseMinimumSecurityVersion t ses s.service.fwSecurity) s ses
        (Books { s.advance t with service := { s.service with minVersion := max s.service.minVersion s.service.fwSecurity } }))
    ∧ (∀ (key k0 : Bytes) (rest : List (Nat × Bytes)), key.length = 32 → s.service.imageKeys = (0, k0) :: rest → s.dict.asm = [] →
      ServedWith (.imageKeySlotWrite t ses key) s ses (Books { s.advance t with service := { s.service with imageKeys := (1, key) :: rest } }))
    ∧ (∀ record : Bytes, record.length = 128 → s.dict.asm = [] →
      ServedWith (.imageKeyRecord t ses record) s ses (Books { s.advance t with service := { s.service with imageKeys := match s.recordSigner record with
        | some k => applyKeyAction s.service.imageKeys (keyActionOf 45 k record)
        | none => s.service.imageKeys } })))
  ∧ (∀ (s : State) (t : Nat) (ses : Session) (run : Run), ServerFree s ses → s.commit.owner = none → s.launch.run = some run → 0 < run.period →
      (s.advance t).firmwareRefused 2 = false →
      Ends (.firmwareSchedule t ses) s fun v => v.service = s.service ∧ v.outbox = s.outbox
        ∧ (∃ c, v.commit.instant = [c] ∧ c.entries = [(ob 0x5820 2, .int 2)] ∧ c.scheduled = true ∧ c.beat = (s.advance t).nextBeat)
        ∧ ∀ t' : Nat, run.countOf (s.advance t).nextBeat ≤ (v.advance t').now → (v.advance t').changeDue (s.advance t).nextBeat = false →
          Ends (.commitSwitch t') v fun u => u.service = { s.service with fwState := 3 } ∧ u.commit.instant = []
            ∧ ∃ r, r.code = 0 ∧ u.outbox = s.outbox ++ [.response ses [r]])
  ∧ (∀ (s : State) (t : Nat) (b : Bundle), s.service.fwState = 1 →
      (s.bundleReason b ≠ 0 → exec (.firmwareVerificationComplete t b) s = .next { s.advance t with service := { s.service with fwState := 4, fwReason := s.bundleReason b } })
      ∧ (s.bundleReason b = 0 → exec (.firmwareVerificationComplete t b) s = .next { s.advance t with service := { s.service with
          fwState := 2, fwReason := if b.crustSame then 0 else 5, fwStaged := some b
          fwA := if s.service.slot = 1 then b.version else s.service.fwA, fwB := if s.service.slot = 1 then s.service.fwB else b.version } }))
  ∧ (∀ (s : State) (t : Nat) (b : Bundle) (run : Run), s.service.fwStaged = some b → s.launch.run = some run → s.service.fwState = 3 → s.nat (ob 0x5820 3) ≤ run.beat →
      exec (.firmwareSwitch t) s = .next ((({ s.advance t with service := { s.service with
        fwState := 0, fwStaged := none, slot := 1 - s.service.slot, firmware := b.version, fwSecurity := b.securityVersion } } : State).fault
          0x1105 .chip (at_ 32 0 b.version)).launchBeat))
  ∧ ∀ (s : State) (t : Nat) (im : Image) (sigOk : Bool), s.service.imgState = 1 →
      (s.imageReason im sigOk ≠ 0 → exec (.imageVerificationComplete t im sigOk) s = .next (({ s.advance t with service := { s.service with
        imgState := 4, imgReason := s.imageReason im sigOk, imgStaged := none } } : State).fault 0x1104 .chip (s.imageReason im sigOk)))
      ∧ (s.imageReason im sigOk = 0 → im.minFirmware ≤ s.service.firmware → s.headerMismatch im = false →
        exec (.imageVerificationComplete t im sigOk) s = .next { s.advance t with service := { s.service with
          imgState := 2, imgReason := 0, imgStaged := some im, imgHash := im.hash } })

/-- O21. R144, R482 to R484: a region migration is decided, begins in single channel, copies its memories, switches its roles and ends; a block swap gives the spare the retiring block's work. -/
def Obligations.MigrationsAndBlockSwaps : Prop :=
  (∀ (s : State) (t : Nat) (ses : Session) (r h : Fin 10), WritesAct s ses → s.regions[r].role ≤ 1 → s.service.exhausted = false → s.regionOf 2 = some h →
      s.service.migration = none → s.crust.single = none →
      ServedWith (.migrationRequest t ses r.val) s ses (Books { s.advance t with service := { s.service with migration := some (Migration.make r h (s.regions[r].role == 1) true (s.advance t).now) } }))
  ∧ (∀ (s : State) (t : Nat) (m : Migration), s.service.migration = some m →
    (m.started = false → m.checkerRole = false → s.crust.single = none → (s.advance t).beatReached (m.decided + (s.advance t).changeLead) = true →
      Ends (.regionMigrationStart t) s fun u => u.service.migration = some { m with started := true } ∧ u.crust.single = some ⟨(s.advance t).now, 1, m.region.val⟩
        ∧ (s.crust.state = .run → u.crust.state = .single) ∧ u.mem = s.mem ∧ ∀ k : Fin 10, u.regions[k] = s.regions[k])
    ∧ (∀ tr : Fin 10, m.started = true → m.copied = false → m.checkerRole = false → m.target = some tr → MemoriesCanonical s →
      Ends (.migrationCopyComplete t true) s fun u => u.service.migration = some { m with copied := true, decided := (s.advance t).now }
        ∧ (∀ addr n : Nat, addr + n ≤ rmemSize → u.load (rmemAt tr.val addr) n = s.load (rmemAt m.region.val addr) n)
        ∧ (∀ (b : Fin 18) (addr n : Nat), addr + n ≤ spadSize → u.load ⟨2, tr.val, b.val, addr⟩ n = s.load ⟨2, m.region.val, b.val, addr⟩ n)
        ∧ u.mem.hbm = s.mem.hbm)
    ∧ (m.started = true → m.copied = false → m.checkerRole = true → s.regions[m.region].role = 1 → s.service.migrations = [] →
      exec (.migrationCopyComplete t false) s = .next (({ s.advance t with service := { s.service with migration := none } } : State).fault 0x1108 (.ofRegion m.region.val) 2))
    ∧ (∀ tr : Fin 10, m.target = some tr → m.copied = true → m.switched = false → m.checkerRole = false → tr ≠ m.region →
      (∃ k : Fin 10, k ≠ m.region ∧ k ≠ tr ∧ s.regions[k].role = 1) →
      (s.advance t).beatReached (m.decided + (s.advance t).changeLead) = true →
      Ends (.regionMigrationSwitch t true) s fun u => u.regions[m.region].role = 3 ∧ u.regions[tr].role = 0 ∧ u.crust.single = none
        ∧ (s.crust.state = .single → s.crust.single.isSome = true → u.crust.state = .run) ∧ ∃ us, u.service.migration = some { m with switched := true, singleUs := us })
    ∧ (m.switched = true → (s.service.moves.any fun v => v.region == m.region) = false → s.service.migrations = [] →
      exec (.regionMigrationComplete t) s =
        .next (({ s.advance t with service := { s.service with migration := none } } : State).fault 0x1107 (.ofRegion m.region.val) (at_ 32 0 m.singleUs))))
  ∧ ∀ (s : State) (t : Nat) (r : Fin 10) (b : Fin 18) (w : BlockSwap), (s.service.swaps.find? fun x => x.region == r && x.block == b) = some w → w.spare ≠ b →
      (s.block r w.spare).role = 1 → (s.advance t).beatReached (w.decided + (s.advance t).changeLead) = true →
      Ends (.blockSwap t r b) s fun u => (u.block r b).role = 2 ∧ (u.block r b).carries = 0xFF ∧ (u.block r w.spare).role = 0
        ∧ (u.block r w.spare).carries = (if (s.block r b).carries = 0xFF then b.val else (s.block r b).carries)
        ∧ (u.service.swaps.find? fun x => x.region == r && x.block == b) = none

/-! ## Power domains and monitors -/

/-- O22. R441 to R446: a requested state is latched or pends for the next launch; a power-up and a shut-down begin, end in the target state, zero the arrays, or fail with the domain. -/
def Obligations.PowerDomainSequences : Prop :=
  (∀ (s : State) (t v : Nat) (ses : Session) (d : Fin 72), domainAllows d.val v = true → ChecksPass s t (ob 0x2110 (d.val + 1)) (.int v) →
      (v ≠ 0 ∨ (domainChildren d.val).all (fun c => s.nat (ob 0x2110 (c.val + 1)) == 0) = true) →
      (launchDomain d.val = false → WritesAct s ses →
        ServedWith (.domainStateRequest t ses d v) s ses (Books (((s.advance t).setObj (ob 0x2110 (d.val + 1)) (.int v)).latchRequest d)))
      ∧ (launchDomain d.val = true → ServerFree s ses → s.commit.owner = none → s.commit.pending = [] →
        ServedWith (.domainStateRequest t ses d v) s ses (Books { s.advance t with commit := { s.commit with pending := [(ob 0x2110 (d.val + 1), .int v)] } })))
  ∧ ∀ (s : State) (t : Nat) (d : Fin 72),
    (s.power.domains[d].state = 0 → (s.advance t).domainWant d.val = 2 → s.parentOn d = true →
      exec (.domainPowerUp t d) s = .next { s.advance t with power := { s.power with domains := upd s.power.domains d fun x =>
        { x with state := 1, target := 2, since := (s.advance t).now, isolated := true, fromOff := true } } })
    ∧ (s.power.domains[d].state = 2 → (s.advance t).domainWant d.val = 0 ∨ (s.advance t).domainWant d.val = 4 → s.childrenDown d = true →
      exec (.domainShutDown t d) s = .next { s.advance t with power := { s.power with domains := upd s.power.domains d fun x =>
        { x with state := 3, target := (s.advance t).domainWant d.val, since := (s.advance t).now } } })
    ∧ (s.power.domains[d].state = 3 → s.power.domains[d].target = (s.advance t).domainWant d.val → s.power.domains[d].target = 0 ∨ s.power.domains[d].target = 4 →
      Ends (.quiesceComplete t d) s fun u => u.power.domains[d].state = s.power.domains[d].target ∧ u.power.domains[d].isolated = true
        ∧ u.launch = s.launch ∧ u.log = s.log ∧ u.mem.rmem = s.mem.rmem ∧ u.mem.spad = s.mem.spad)
    ∧ (s.power.domains[d].state = 1 → s.power.domains[d].target = 2 → (s.advance t).domainWant d.val = 2 → (∀ w ∈ s.service.swaps, w.region.val ≠ d.val) →
      Ends (.powerGood t d []) s fun u => u.power.domains[d].state = 2 ∧ u.power.domains[d].isolated = false
        ∧ (∀ r : Fin 10, r.val = d.val → s.power.domains[d].fromOff = true → ∀ b : Fin 18, (u.block r b).acc = [])
        ∧ (∀ r : Fin 10, 10 + r.val = d.val → s.power.domains[d].fromOff = true → s.regions[r].memMap = [] → (∀ b : Fin 18, (s.block r b).mapQueue = []) → ∀ a n : Nat, a + n ≤ rmemSize → u.load (rmemAt r.val a) n = List.replicate n 0))
    ∧ (s.power.domains[d].state = 1 → s.power.domains[d].since + 10 * upTime d.val s.power.domains[d].fromOff ≤ (s.advance t).now → 37 < d.val →
      exec (.powerGoodTimeout t d) s = .next (({ s.advance t with power := { s.power with domains := upd s.power.domains d fun x =>
        { x with state := 5, latched := none, isolated := true } } } : State).fault 0x1009 .chip (at_ 8 0 d.val)))

/-- O23. R447, R450 to R453: supply steps take place once at each step beat and stay at or below 800 mV; droops beyond the guard band are recorded; temperatures are sampled every 100 µs and kept, and the trip switches the compute die off; the energy cap suspends class L; ageing is measured at its interval and at once on a write, and is the larger of the accepted pairs. -/
def Obligations.MonitorsJudgeTheirSamples : Prop :=
  (∀ (s : State) (t : Nat), (s.launch.run = none → exec (.supplyStepBeat t) s = .next (s.advance t))
    ∧ (∀ run, s.launch.run = some run → run.paused = true ∨ run.beat % max 1 (s.nat (ob 0x2100 0x0B)) ≠ 0 ∨ s.power.stepBeat = some run.beat →
      exec (.supplyStepBeat t) s = .next (s.advance t))
    ∧ (∀ run, s.launch.run = some run → run.paused = false → run.pace = false → run.beat % max 1 (s.nat (ob 0x2100 0x0B)) = 0 → s.power.stepBeat ≠ some run.beat →
      Ends (.supplyStepBeat t) s fun u => (∀ r : Fin 10, s.power.domains[(⟨r.val, by omega⟩ : Fin 72)].state = 2 → u.regions[r].supply ≤ 800 ∧ u.regions[r].droop = false)
        ∧ u.power.stepBeat = some run.beat ∧ u.mem = s.mem ∧ u.log = s.log))
  ∧ (∀ (s : State) (t depth duration : Nat) (r : Fin 10),
    (30 < depth → 50 ≤ duration → exec (.droopExcursion t r depth duration) s =
      .next (({ s.advance t with power := { s.power with droops := (s.power.droops + 1) % 2 ^ 32 }, regions := upd s.regions r (fun x => { x with droop := true }) } : State).fault
        0x1003 (.ofRegion r.val) (at_ 16 16 depth ||| at_ 16 0 (min 65535 duration))))
    ∧ (30 < depth → duration < 50 → exec (.droopExcursion t r depth duration) s =
      .next (({ s.advance t with regions := upd s.regions r (fun x => { x with droop := true }) } : State).fault
        0x1003 (.ofRegion r.val) (at_ 16 16 depth ||| at_ 16 0 duration)))
    ∧ (depth ≤ 30 → duration ≤ 2000 → exec (.droopExcursion t r depth duration) s = .next (s.advance t)))
  ∧ (∀ (s : State) (t : Nat) (x : Int), ((s.advance t).due s.power.tempsAt 100000 = false → exec (.temperatureSample t (List.replicate 64 x) true) s = .next (s.advance t))
    ∧ ((s.advance t).due s.power.tempsAt 100000 = true → s.power.excluded = [] → s.power.tripped = false →
      (x < 950 → (∀ r : Fin 10, s.regions[r].hotClassL = false ∧ s.regions[r].over110 = false) →
        Ends (.temperatureSample t (List.replicate 64 x) false) s fun u => (∀ q : Fin 64, u.power.temps[q] = x) ∧ u.log = s.log ∧ u.power.tripped = false
          ∧ u.power.tempsAt = some (s.advance t).now ∧ u.power.lifeNs = s.power.lifeNs + 100000 ∧ u.power.hotNs = s.power.hotNs)
      ∧ (1200 < x → Ends (.temperatureSample t (List.replicate 64 x) true) s fun u => u.power.tripped = true
        ∧ ∀ d : Fin 72, (d.val ≤ 52 ∨ d.val = 71) → s.power.domains[d].state ≠ 5 → u.power.domains[d].state = 0)))
  ∧ (∀ (s : State) (t watts : Nat),
    (s.launch.run = none → exec (.inputPowerCheck t watts) s = .next { s.advance t with power := { s.power with watts := watts % 2 ^ 16 } })
    ∧ (s.launch.run.isSome = true → s.nat (ob 0x2100 0x0A) < watts → s.power.capSince = none → exec (.inputPowerCheck t watts) s =
      .next { s.advance t with power := { s.power with watts := watts % 2 ^ 16, capClassL := true, capSince := some (s.advance t).now, capTold := false } })
    ∧ (s.launch.run.isSome = true → 100 * watts < 95 * s.nat (ob 0x2100 0x0A) → exec (.inputPowerCheck t watts) s =
      .next { s.advance t with power := { s.power with watts := watts % 2 ^ 16, capClassL := false, capSince := none, capTold := false } }))
  ∧ ∀ (s : State) (t : Nat) (x : AgeRead) (a b : Nat), pairAgeing x.s0 x.f0 = some a → pairAgeing x.s1 x.f1 = some b →
      ((s.advance t).due s.power.ageingAt (3600000000000 * s.nat (ob 0x2140 1)) = false → exec (.ageingMeasurement t [x]) s = .next (s.advance t))
      ∧ ((s.advance t).due s.power.ageingAt (3600000000000 * s.nat (ob 0x2140 1)) = true →
        Ends (.ageingMeasurement t [x]) s fun u => u.regions[x.region].ageing = max a b ∧ u.regions[x.region].replan.isSome = true ∧ u.power.ageingAt = some (s.advance t).now
        ∧ u.regions[x.region].overAged = (s.regions[x.region].overAged || decide (700 < max a b)) ∧ u.mem = s.mem ∧ u.launch = s.launch)
      ∧ ∀ ses : Session, WritesAct s ses → ServedWith (.measureNow t ses [x]) s ses fun u => u.regions[x.region].ageing = max a b
        ∧ u.regions[x.region].replan.isSome = true ∧ u.mem = s.mem ∧ u.launch = s.launch

/-! ## The motion unit and the field ports -/

/-- O24. R337 to R340: converters, encoders and current channels: a conversion starts when its source has it start (R340), not within 500 ns of the channel's last, and ends with its clamped result, not before 500 ns, at its start count; SSI frames latch at their count (R339) and captures at their edges, an index only of a quadrature encoder; a channel that becomes stuck and an encoder error are counted and recorded; a current above the Crust's threshold latches cause 5 and takes the axis off. -/
def Obligations.SamplesEncodersAndCurrents : Prop :=
  ∀ (s : State) (t : Nat),
    (∀ (ch : Fin 32) (v : Int),
      ((s.advance t).adcDue ch = false → exec (.adcConversionStart t ch) s = .next (s.advance t))
      ∧ ((s.advance t).adcDue ch = true → (∀ c, s.motion.adcs[ch].started = some c → c + 500 ≤ (s.advance t).now) → exec (.adcConversionStart t ch) s =
        .next { s.advance t with motion := { s.motion with adcs := upd s.motion.adcs ch fun x => { x with started := some (s.advance t).now } } })
      ∧ (∀ c, s.motion.adcs[ch].started = some c →
        ((s.advance t).adcDue ch = true → (s.advance t).now < c + 500 → exec (.adcConversionStart t ch) s = .next ((s.advance t).bump (ob 0x4080 9)))
        ∧ (c + 500 ≤ (s.advance t).now → exec (.adcConversionComplete t ch v) s = .next { s.advance t with motion := { s.motion with adcs := upd s.motion.adcs ch fun x =>
          { x with started := none, value := max (-32768) (min 32767 v), valueAt := c } } })
        ∧ ((s.advance t).now < c + 500 → exec (.adcConversionComplete t ch v) s = .next (s.advance t))))
    ∧ (∀ (k : Fin 16) (frame : BitVec 40) (low full : Bool), (s.advance t).ssiDue k = false → exec (.ssiPositionLatch t k frame low full) s = .next (s.advance t))
    ∧ (∀ (k : Fin 16) (frame : BitVec 40), (s.advance t).ssiDue k = true →
      exec (.ssiPositionLatch t k frame false true) s = .next { s.advance t with motion := { s.motion with axes := upd s.motion.axes k fun x =>
        { x with pendingSsi := some (signed 32 (if bit (s.nat (ob (0x4010 + k.val) 0x0C)) 7
            then grayDecode (bits (s.nat (ob (0x4010 + k.val) 0x0C)) 5 0) (frame.toNat % 2 ^ bits (s.nat (ob (0x4010 + k.val) 0x0C)) 5 0)
            else frame.toNat % 2 ^ bits (s.nat (ob (0x4010 + k.val) 0x0C)) 5 0 : Nat), (s.advance t).now) } } }
      ∧ exec (.ssiPositionLatch t k frame true true) s = .next ((({ s.advance t with motion := { s.motion with axes := upd s.motion.axes k fun x =>
          { x with invalid := true } } } : State).bump (ob 0x4080 6)).fault 0x0A06 (.ofUnit k.val) 0x0203))
    ∧ (∀ (k : Fin 16) (position : Int), s.nat (ob (0x4010 + k.val) 0x0A) ≠ 1 → exec (.captureEvent t k true position) s = .next (s.advance t))
    ∧ (∀ (k : Fin 16) (index : Bool) (position : Int), (index = true → s.nat (ob (0x4010 + k.val) 0x0A) = 1) → exec (.captureEvent t k index position) s =
      .next { s.advance t with motion := { s.motion with axes := upd s.motion.axes k fun x =>
        { x with capturePos := position, captureAt := (s.advance t).now, newCapture := true, indexSeen := x.indexSeen || index } } })
    ∧ (∀ (k : Fin 16) (leg : Fin 3), s.motion.axes[k].legStuck leg = true → exec (.currentChannelStuck t k leg) s = .next (s.advance t))
    ∧ (∀ (k : Fin 16) (leg : Fin 3), s.motion.axes[k].legStuck leg = false → exec (.currentChannelStuck t k leg) s =
      .next ((({ s.advance t with motion := { s.motion with axes := upd s.motion.axes k fun x =>
        { x with stuckA := x.stuckA || leg == 0, stuckB := x.stuckB || leg == 1, stuckC := x.stuckC || leg == 2 } } } : State).bump (ob 0x4080 8)).fault
          0x0A07 (.ofUnit k.val) leg.val))
    ∧ (∀ (k : Fin 16) (v : Int),
      (v.natAbs ≤ s.nat (ob (0x4820 + k.val) 9) → exec (.overCurrentTrip t k v) s =
        .next { s.advance t with crust := { s.crust with overCurrent := s.crust.overCurrent &&& ~~~((1 : BitVec 16) <<< k.val) } })
      ∧ (s.nat (ob (0x4820 + k.val) 9) < v.natAbs → s.nat (ob 0x4870 5) = 1 →
        Ends (.overCurrentTrip t k v) s fun u => u.crust.overCurrent.getLsbD k.val = true ∧ (∃ l ∈ u.crust.latches, l.cause = 5 ∧ l.axes.getLsbD k.val = true)
          ∧ (u.motion.axes[k].pwm = .gatesOff ∨ u.motion.axes[k].pwm = .lowSidesOn) ∧ (∀ j : Fin 16, j ≠ k → u.motion.axes[j] = s.motion.axes[j])
          ∧ u.crust.state = s.crust.state ∧ u.mem = s.mem ∧ u.launch = s.launch))

/-- O25. R331, R334, R335: only at an axis's update point, a period start or with double update a period centre of its carrier, does a command take effect; at a period start a new period and phase do; there the last due command record is applied and earlier ones are dropped; a disabled record, or an axis that is not effective, takes the axis's output-off pattern; an enabled leg of an effective axis takes a duty within its Crust range, the commanded one where neither the slew nor the range clamps it; other axes stay as they are. -/
def Obligations.CarrierUpdatesKeepTheCrustLimits : Prop :=
  ∀ (s : State) (t : Nat) (k : Fin 16),
    ((s.advance t).updatePoint k = false → exec (.carrierUpdatePoint t k) s = .next (s.advance t))
    ∧ ((s.advance t).carrierAt k = some 0 → Ends (.carrierUpdatePoint t k) s fun u =>
        u.motion.axes[k].carrier = some (s.nat (ob (0x4010 + k.val) 4), s.nat (ob (0x4010 + k.val) 5)))
    ∧ ((∀ e ∈ s.motion.axes[k].queued, (s.advance t).now < e.1 + 20) → (s.advance t).updatePoint k = true → Ends (.carrierUpdatePoint t k) s fun u =>
        u.motion.axes[k] = { s.motion.axes[k] with carrier := u.motion.axes[k].carrier } ∧ (∀ j : Fin 16, j ≠ k → u.motion.axes[j] = s.motion.axes[j])
        ∧ u.log = s.log ∧ u.mem = s.mem)
    ∧ ∀ (count : Nat) (c : CmdRecord), (s.advance t).updatePoint k = true → (s.motion.axes[k].queued.filter fun e => decide (e.1 + 20 ≤ (s.advance t).now)).getLast? = some (count, c) →
      (c.enable = false → Ends (.carrierUpdatePoint t k) s fun u =>
        u.motion.axes[k].pwm = (if s.nat (ob (0x4820 + k.val) 8) = 1 ∧ s.power.mainOk = true then .lowSidesOn else .gatesOff)
        ∧ u.motion.axes[k].prevA = 0 ∧ u.motion.axes[k].prevB = 0 ∧ u.motion.axes[k].prevC = 0
        ∧ u.motion.axes[k].queued = (s.motion.axes[k].queued.filter fun e => decide ((s.advance t).now < e.1 + 20))
        ∧ (∀ j : Fin 16, j ≠ k → u.motion.axes[j] = s.motion.axes[j]) ∧ u.log = s.log ∧ u.mem = s.mem)
      ∧ (c.enable = true → s.effective k.val = true → s.nat (ob 0x4878 9) = 0 → s.nat (ob (0x4820 + k.val) 2) ≤ s.nat (ob (0x4820 + k.val) 3) →
        Ends (.carrierUpdatePoint t k) s fun u => ∃ a b d : Option Nat, u.motion.axes[k].pwm = .drive a b d
          ∧ (∀ p, (a = some p ∨ b = some p ∨ d = some p) → s.nat (ob (0x4820 + k.val) 2) ≤ p ∧ p ≤ s.nat (ob (0x4820 + k.val) 3))
          ∧ (a.isSome = c.legs.getLsbD 0 ∧ b.isSome = c.legs.getLsbD 1 ∧ d.isSome = c.legs.getLsbD 2)
          ∧ (c.legs.getLsbD 0 = true → s.nat (ob (0x4820 + k.val) 2) ≤ c.dutyA → c.dutyA ≤ s.nat (ob (0x4820 + k.val) 3) →
              c.dutyA ≤ s.motion.axes[k].prevA + s.nat (ob (0x4820 + k.val) 4) → s.motion.axes[k].prevA ≤ c.dutyA + s.nat (ob (0x4820 + k.val) 4) → a = some c.dutyA)
          ∧ (∀ j : Fin 16, j ≠ k → u.motion.axes[j] = s.motion.axes[j]) ∧ u.mem = s.mem ∧ u.launch = s.launch)

/-- O26. R341 to R347, R399: an accepted edge is stamped with its raw transition, sets the level and starts the active time; a trigger source's active edge issues its trigger, which makes an edge due in every channel that follows it (R399); too many edges begin chatter; the quiet time ends it; an input active for too long is stuck. -/
def Obligations.DigitalInputsFollowTheirEdges : Prop :=
  ∀ (s : State) (t : Nat) (k : Fin 32),
    let cfg := s.nat (ob 0x4050 (k.val + 1))
    let i := s.motion.inputs[k]
    let stamp := (s.advance t).now - bits cfg 15 2 * 10
    let edges := (i.edges.filter fun e => decide (stamp < e + bits cfg 35 24 * 1000000)) ++ [stamp]
    (∀ raw : Bool, (i.chatter = true ∨ raw = i.level) → exec (.digitalInputEdge t k raw) s =
      .next { s.advance t with motion := { s.motion with inputs := upd s.motion.inputs k fun x => { x with raw := raw, rawAt := stamp } } })
    ∧ (∀ raw : Bool, i.chatter = false → raw ≠ i.level → i.stuck = false → 8 ≤ k.val → (bits cfg 23 16 = 0 ∨ edges.length ≤ bits cfg 23 16) →
      exec (.digitalInputEdge t k raw) s = .next { s.advance t with motion := { s.motion with inputs := upd s.motion.inputs k fun x =>
        { x with raw := raw, rawAt := stamp, level := raw, edges := edges, activeSince := if raw != bit cfg 0 then some stamp else none, stuck := false } } })
    ∧ (∀ (raw : Bool) (src : Fin 24), i.chatter = false → raw ≠ i.level → i.stuck = false → src.val = k.val → k.val < 8 → bit cfg 1 = true → raw ≠ bit cfg 0 →
      s.motion.lastTrigger[src] = none → Ends (.digitalInputEdge t k raw) s fun u => u.motion.lastTrigger[src] = some stamp ∧ u.motion.inputs[k].level = raw
        ∧ u.motion.inputs[k].activeSince = some stamp ∧ u.log = s.log ∧ u.motion.axes = s.motion.axes
        ∧ ∀ c : Fin 64, u.time.dueEdges[c] = if (s.advance t).triggersRun = true ∧ c.val < 48 ∧ s.nat (ob (0x2210 + c.val) 1) = 2 ∧ s.nat (ob (0x2210 + c.val) 4) = src.val
          then s.time.dueEdges[c] ++ [(s.advance t).now] else s.time.dueEdges[c])
    ∧ (∀ raw : Bool, i.chatter = false → raw ≠ i.level → (8 ≤ k.val ∨ bit cfg 1 = false) → bits cfg 23 16 ≠ 0 → bits cfg 23 16 < edges.length →
      exec (.digitalInputEdge t k raw) s = .next ((({ s.advance t with motion := { s.motion with inputs := upd s.motion.inputs k fun x =>
        { x with raw := raw, rawAt := stamp, chatter := true, edges := edges, activeSince := none, stuck := false } } } : State).bump (ob 0x4080 3)).fault
          0x0A03 (.ofUnit k.val) edges.length))
    ∧ (i.chatter = true → i.rawAt + bits cfg 47 36 * 1000000 ≤ (s.advance t).now → exec (.chatterQuietTimeout t k) s =
      .next (({ s.advance t with motion := { s.motion with inputs := upd s.motion.inputs k fun x =>
        { x with chatter := false, level := x.raw, edges := [], activeSince := if x.raw != bit cfg 0 then some (s.advance t).now else none } } } : State).fault
          0x0A0A (.ofUnit k.val) 1))
    ∧ (i.chatter = false → exec (.chatterQuietTimeout t k) s = .next (s.advance t))
    ∧ ∀ a, i.activeSince = some a → i.chatter = false → i.stuck = false → bits cfg 63 48 ≠ 0 →
      (a + bits cfg 63 48 * 1000000 < (s.advance t).now → exec (.inputStuckTimeout t k) s =
        .next ((({ s.advance t with motion := { s.motion with inputs := upd s.motion.inputs k fun x => { x with stuck := true } } } : State).bump (ob 0x4080 4)).fault
          0x0A04 (.ofUnit k.val) (at_ 32 0 (divRne (((s.advance t).now - a : Nat) : Int) 1000000).toNat)))
      ∧ ((s.advance t).now ≤ a + bits cfg 63 48 * 1000000 → exec (.inputStuckTimeout t k) s = .next (s.advance t))

/-- O27. R348 to R352, R492: a supply follows its command, switches off at a short or overload, retries after 100 ms, latches off at the fourth switch-off in 10 s, and changes its voltage through a discharge; a digital output that shuts down thermally restarts with the level asked for. -/
def Obligations.SuppliesAndDigitalOutputs : Prop :=
  (∀ (s : State) (t v : Nat) (ses : Session) (k : Fin 16), WritesAct s ses → v ≤ 2 → v ≤ s.nat (ob 0x4830 (3 + k.val)) % 4 → s.crust.state.drives = true →
      s.power.fieldOk = true → (∀ p, s.crust.active = some p → get? p.values (ob 0x4060 (k.val + 1)) = none) →
      s.motion.supplies[k].state = 0 ∨ s.motion.supplies[k].state = 5 ∨ (s.motion.supplies[k].state ≤ 2 ∧ v = 0) →
      ServedWith (.sensorSupplyCommand t ses k v) s ses fun u => u.motion.supplies[k].command = v
        ∧ u.motion.supplies[k].state = (if v = 0 ∧ s.motion.supplies[k].state = 5 then 5 else v)
        ∧ u.nat (ob 0x4060 (k.val + 1)) = v ∧ u.motion.axes = s.motion.axes ∧ u.mem = s.mem)
  ∧ ∀ (s : State) (t : Nat),
    (∀ k : Fin 16, let p := s.motion.supplies[k]
      let offs := (p.offs.filter fun o => decide ((s.advance t).now < 10000000000 + o)) ++ [(s.advance t).now]
      (p.state = 1 ∨ p.state = 2 → offs.length < 4 →
        (exec (.supplyShort t k) s = .next ((({ s.advance t with motion := { s.motion with supplies := upd s.motion.supplies k fun x =>
          { x with state := 4, offs := offs, offAt := (s.advance t).now, cause := 1 } } } : State).bump (ob 0x4080 7)).fault 0x0A08 (.ofUnit k.val) (1 ||| at_ 8 8 offs.length)))
        ∧ exec (.supplyOverloadTimeout t k) s = .next ((({ s.advance t with motion := { s.motion with supplies := upd s.motion.supplies k fun x =>
          { x with state := 4, offs := offs, offAt := (s.advance t).now, cause := 2 } } } : State).bump (ob 0x4080 7)).fault 0x0A08 (.ofUnit k.val) (2 ||| at_ 8 8 offs.length)))
      ∧ (p.state = 1 ∨ p.state = 2 → 4 ≤ offs.length → Ends (.supplyShort t k) s fun u => u.motion.supplies[k].state = 5 ∧ u.motion.supplies[k].cause = 1
        ∧ u.motion.axes = s.motion.axes)
      ∧ (p.state = 4 → 100000000 + p.offAt ≤ (s.advance t).now → s.power.fieldOk = true → exec (.supplyRetry t k) s =
        .next { s.advance t with motion := { s.motion with supplies := upd s.motion.supplies k fun x => { x with state := x.command } } })
      ∧ (p.state = 4 → (s.advance t).now < 100000000 + p.offAt → exec (.supplyRetry t k) s = .next (s.advance t))
      ∧ (p.state = 3 → p.latched = none → exec (.supplyDischargeComplete t k) s =
        .next { s.advance t with motion := { s.motion with supplies := upd s.motion.supplies k fun x => { x with state := x.command, latched := none } } })
      ∧ (p.state = 3 → p.latched = some 0 → p.command = 1 ∨ p.command = 2 → Ends (.supplyDischargeComplete t k) s fun u => u.motion.supplies[k].state = 0))
    ∧ ∀ (o : Fin 32) (ma : Nat),
      (s.motion.outputs[o].thermal = true → exec (.digitalOutputThermalShutdown t o ma) s = .next (s.advance t))
      ∧ (s.motion.outputs[o].thermal = false → exec (.digitalOutputThermalShutdown t o ma) s = .next ((({ s.advance t with motion := { s.motion with outputs := upd s.motion.outputs o fun x =>
        { x with thermal := true, level := false } } } : State).bump (ob 0x4080 0x0A)).fault 0x0A0B (.ofUnit o.val) (min ma (2 ^ 32 - 1))))
      ∧ (s.motion.outputs[o].thermal = false → exec (.digitalOutputRestart t o) s = .next (s.advance t))
      ∧ (s.motion.outputs[o].thermal = true → s.motion.outputs[o].waiting = false → s.power.fieldOk = true → bit (s.nat (ob 0x4830 1)) o.val = true →
        s.crust.state.drives = true → s.crust.hwOff = false → exec (.digitalOutputRestart t o) s =
        .next { s.advance t with motion := { s.motion with outputs := upd s.motion.outputs o fun x => { x with thermal := false, waiting := false, level := x.asked } } })

/-! ## The Crust -/

/-- O28. R355, R366, R367, R371 to R373, R375 to R378: the Crust's own faults force the output-off state until its restart, which latches cause 12; the single-channel limit latches cause 3; its tests count, and a failed one latches cause 7; a reset clears every latch whose condition is gone, and at once where no launch runs. -/
def Obligations.CrustFaultsTestsAndResets : Prop :=
  ∀ (s : State) (t : Nat),
    (∀ kind : CrustFault, Ends (.crustInternalFault t kind) s fun u => u.crust = { s.crust with hwOff := true } ∧ u.log = s.log ∧ u.mem = s.mem
      ∧ (∀ k : Fin 16, u.motion.axes[k].pwm = (if s.nat (ob (0x4820 + k.val) 8) = 1 ∧ s.power.mainOk = true then .lowSidesOn else .gatesOff) ∧ u.motion.axes[k].prevA = 0)
      ∧ ∀ o : Fin 32, u.motion.outputs[o].level = bit (s.nat (ob 0x4830 2)) o.val)
    ∧ (s.crust.hwOff = false → exec (.crustRestart t) s = .next (s.advance t))
    ∧ (s.crust.hwOff = true → Ends (.crustRestart t) s fun u => u.crust.hwOff = false ∧ (∃ l ∈ u.crust.latches, l.cause = 12 ∧ 2 ≤ l.level)
      ∧ (s.crust.state.drives = true → u.crust.state = .stop) ∧ u.mem = s.mem ∧ u.launch = s.launch)
    ∧ (s.crust.single = none → exec (.singleChannelLimitExpiry t) s = .next (s.advance t))
    ∧ (∀ x, s.crust.single = some x → x.since + 1000000 * s.nat (ob 0x4878 5) ≤ (s.advance t).now → s.nat (ob 0x4870 3) = 2 →
      Ends (.singleChannelLimitExpiry t) s fun u => (∃ l ∈ u.crust.latches, l.cause = 3) ∧ u.crust.single = s.crust.single ∧ u.mem = s.mem ∧ u.launch = s.launch)
    ∧ (∀ (out field : Nat) (reported : List Nat),
      (reported = [field] → exec (.comparatorTest t out field true reported) s = .next (({ s.advance t with crust := { s.crust with compMissed := 0 } } : State).bump (ob 0x4880 5)))
      ∧ (reported ≠ [field] → s.nat (ob 0x4870 7) = 2 → Ends (.comparatorTest t out field true reported) s fun u =>
        u.crust.compMissed = 0 ∧ ∃ l ∈ u.crust.latches, l.cause = 7)
      ∧ (s.crust.compMissed ≠ 2 → exec (.comparatorTest t out field false reported) s =
        .next { s.advance t with crust := { s.crust with compMissed := s.crust.compMissed + 1 } }))
    ∧ (∀ (r : Fin 10) (b : Fin 18) (frame crc : Nat) (im : Image), s.launch.image = some im → im.starterCrcs[frame]? = some crc → s.testable r b = true →
      s.libraryAccepted im = true →
      Ends (.starterFrameTest t r b true frame crc none) s fun u => (u.block r b).testMissed = 0 ∧ (u.block r b).starterMiss = 0 ∧ u.log = s.log ∧ u.crust = s.crust
        ∧ u.obj (ob 0x4880 4) = (s.bump (ob 0x4880 4)).obj (ob 0x4880 4))
    ∧ (s.nat (ob 0x4840 1) = 0xFF → exec (.resetInputEdge t) s = .next (s.advance t))
    ∧ (s.nat (ob 0x4840 1) ≠ 0xFF → s.launch.run.isSome = true → exec (.resetInputEdge t) s = .next { s.advance t with crust := { s.crust with resetAsked := true } })
    ∧ (s.nat (ob 0x4840 1) ≠ 0xFF → s.launch.run = none → Ends (.resetInputEdge t) s fun u =>
        u.crust.latches = s.crust.latches.filter (fun l => (s.advance t).causePresent l) ∧ u.crust.disagreed = [] ∧ u.crust.resetAsked = false
        ∧ (s.crust.state = .stop → hasLevel2 u.crust.latches = false → u.crust.state = s.crust.before) ∧ u.mem = s.mem ∧ u.launch = s.launch)

/-- O29. R357, R379, R380: a parameter set is validated, or refused with its reason, cancelled, and activated at its count, when it becomes the active and the stored set and SRDOs start anew. -/
def Obligations.ParameterSetsAreValidatedAndActivated : Prop :=
  (∀ (s : State) (t : Nat) (ses : Session), WritesAct s ses →
    ServedWith (.parameterSetValidate t ses) s ses (Books { s.advance t with crust := { s.crust with setState := 1, reason := 0, valid := none } })
    ∧ (s.crust.setState = 2 → ServedWith (.parameterSetCancel t ses) s ses (Books { s.advance t with crust := { s.crust with setState := 0, valid := none } }))
    ∧ (s.crust.setState ≠ 2 → ServedWith (.parameterSetCancel t ses) s ses (Books (s.advance t))))
  ∧ ∀ (s : State) (t : Nat),
    (s.crust.setState = 1 → exec (.parameterSetValidated t) s = .next (match (s.advance t).validateSet (s.raw (ob 0x4810 1)) with
      | .inl reason => (({ s.advance t with crust := { s.crust with setState := 4, reason := reason, valid := none } } : State).bump (ob 0x4880 7)).fault
          0x0B09 (.ofUnit reason) (leAt (s.raw (ob 0x4810 1)) 8 8)
      | .inr p => if p.launchBound = true ∨ (s.advance t).now ≤ s.nat (ob 0x4810 2) then
          { s.advance t with crust := { s.crust with setState := 2, reason := 0, valid := some p } }
        else (({ s.advance t with crust := { s.crust with setState := 4, reason := 10, valid := none } } : State).bump (ob 0x4880 7)).fault
          0x0B09 (.ofUnit 10) (leAt (s.raw (ob 0x4810 1)) 8 8)))
    ∧ (s.crust.setState ≠ 1 → exec (.parameterSetValidated t) s = .next (s.advance t))
    ∧ (s.crust.valid = none → exec (.parameterSetActivate t) s = .next (s.advance t))
    ∧ (∀ p, s.crust.valid = some p → p.launchBound = false → s.nat (ob 0x4810 2) ≤ (s.advance t).now →
      Ends (.parameterSetActivate t) s fun u => u.crust.active = some p ∧ u.crust.stored = some p ∧ u.crust.setState = 3 ∧ u.crust.valid = none
        ∧ u.crust.requestMask = 0xFFFF ∧ u.crust.safeStop = false ∧ u.crust.latches = s.crust.latches ∧ u.mem = s.mem ∧ u.launch = s.launch)
    ∧ (∀ p, s.crust.valid = some p → (p.launchBound = true ∨ (s.advance t).now < s.nat (ob 0x4810 2)) → exec (.parameterSetActivate t) s = .next (s.advance t))

/-- O30. R381: a transmit SRDO leaves every SCT as its data and their inverse; a receive SRDO is taken only with its inverse and in its gap, and then sets its mask and its time; a pair that breaks them, or a missing one, latches cause 11. -/
def Obligations.SrdosCarryTheirInverse : Prop :=
  ∀ (s : State) (t : Nat) (n : Fin 8),
    (s.nat (ob (0x1301 + n.val) 1) = 1 → s.canSends (srdoCtl n.val) = true → (s.advance t).due s.crust.srdos[n].sentAt (1000000 * s.nat (ob (0x1301 + n.val) 2)) = true →
      Ends (.srdoTransmit t n) s fun u => (∃ data, u.outbox = s.outbox ++ [.srdo n.val data (data.map fun b => ~~~b)])
        ∧ u.crust = { s.crust with srdos := upd s.crust.srdos n fun x => { x with sentAt := some (s.advance t).now } }
        ∧ u = { s.advance t with dict := { s.dict with active := u.dict.active }, crust := u.crust, outbox := u.outbox })
    ∧ ((s.advance t).due s.crust.srdos[n].sentAt (1000000 * s.nat (ob (0x1301 + n.val) 2)) = false → exec (.srdoTransmit t n) s = .next (s.advance t))
    ∧ (s.nat (ob (0x1301 + n.val) 1) ≠ 1 → exec (.srdoTransmit t n) s = .next (s.advance t))
    ∧ (∀ (data inv : Bytes) (gap : Nat),
      (s.nat (ob (0x1301 + n.val) 1) ≠ 2 ∨ s.canLive (srdoCtl n.val) = false → exec (.srdoReceived t n data inv gap) s = .next (s.advance t))
      ∧ (s.nat (ob (0x1301 + n.val) 1) = 2 → s.canLive (srdoCtl n.val) = true → inv = data.map (fun b => ~~~b) → gap ≤ 1000 * s.nat (ob (0x1301 + n.val) 3) →
        bit ((s.srdoField n.val data (ob 0x4840 2)).getD 0) 0 = false → bit ((s.srdoField n.val data (ob 0x4840 2)).getD 0) 1 = false →
        Ends (.srdoReceived t n data inv gap) s fun u => u.crust.srdos[n].lastValid = (s.advance t).now ∧ u.crust.srdos[n].stopDemand = false
          ∧ u.crust.srdos[n].mask = BitVec.ofNat 16 ((s.srdoField n.val data (ob 0x4840 3)).getD 0xFFFF) ∧ u.crust.latches = s.crust.latches
          ∧ (∀ j : Fin 8, j ≠ n → u.crust.srdos[j] = s.crust.srdos[j]) ∧ u.log = s.log ∧ u.mem = s.mem)
      ∧ (s.nat (ob (0x1301 + n.val) 1) = 2 → s.canLive (srdoCtl n.val) = true → (inv ≠ data.map (fun b => ~~~b) ∨ 1000 * s.nat (ob (0x1301 + n.val) 3) < gap) → s.nat (ob 0x4870 11) = 2 →
        Ends (.srdoReceived t n data inv gap) s fun u => (∃ l ∈ u.crust.latches, l.cause = 11) ∧ u.crust.srdos = s.crust.srdos ∧ u.mem = s.mem))
    ∧ (s.nat (ob (0x1301 + n.val) 1) = 2 → s.nat (ob (0x1301 + n.val) 2) ≠ 0 →
      ((s.advance t).now < s.crust.srdos[n].lastValid + s.nat (ob (0x1301 + n.val) 2) * 1000000 → exec (.srdoTimeout t n) s = .next (s.advance t))
      ∧ (s.crust.srdos[n].lastValid + s.nat (ob (0x1301 + n.val) 2) * 1000000 ≤ (s.advance t).now → s.nat (ob 0x4870 11) = 2 →
        Ends (.srdoTimeout t n) s fun u => (∃ l ∈ u.crust.latches, l.cause = 11) ∧ u.crust.srdos = s.crust.srdos ∧ u.mem = s.mem))

/-! ## The time unit -/

/-- O31. R389, R391 to R393, R395, R396: a message on a port that its domain does not use does nothing; a Sync forms its offset (a two-step one with its Follow_Up), the active domain sets the base increment by the rate and a limited adjustment, or steps where no launch runs; during a hold it writes nothing; the first domain steers and A becomes active at its 16th offset; in holdover a domain that recovers becomes active; an Announce renews the data set, and one above the clockClass limit loses its domain. -/
def Obligations.SyncMessagesSteerTheirDomain : Prop :=
  (∀ (s : State) (t : Nat) (m : SyncMsg),
    let d := m.domain
    let x := s.time.domains[d]
    let o : Int := (m.rxLocal : Int) - (m.origin + m.correction + x.pathDelay)
    let gm := ((m.origin : Int) + m.correction).toNat
    let tau := s.nat (ob 0x2200 0x0B)
    let limit : Int := divRne ((0x400000000 * s.nat (ob 0x2200 0x0A) : Nat) : Int) 1000000
    let only := fun u : State => u = { s with time := u.time, service := { s.service with entropy := u.service.entropy }, net := { s.net with ports := u.net.ports }, outbox := u.outbox }
      ∧ u.time.domains[otherDomain d] = s.time.domains[otherDomain d]
    (s.ptpPort d m.port.val = false → exec (.ptpSyncReceived t m) s = .next (s.advance t) ∧ exec (.ptpFollowUpReceived t m) s = .next (s.advance t))
    ∧ (s.ptpPort d m.port.val = true → m.twoStep = true → Ends (.ptpSyncReceived t m) s fun u => only u ∧ u.time.domains[d].waiting = some m
        ∧ u.time.domains[d].lastSync = some (s.advance t).now ∧ u.time.domains[d].offset = x.offset ∧ u.time.base = s.time.base ∧ u.now = (s.advance t).now)
    ∧ (s.ptpPort d m.port.val = true → m.twoStep = false → x.state = 4 → x.recovering = false → Ends (.ptpSyncReceived t m) s fun u => only u
        ∧ u.time.domains[d].offset = o ∧ u.time.domains[d].state = 4 ∧ u.time.base = s.time.base ∧ u.now = (s.advance t).now)
    ∧ (s.ptpPort d m.port.val = true → m.twoStep = false → x.state ≠ 4 → s.time.holdoverAt = none → s.time.active = some d →
        (s.time.hold ≠ 0 → Ends (.ptpSyncReceived t m) s fun u => only u ∧ u.time.domains[d].offset = o ∧ u.time.base = s.time.base ∧ u.time.adj = s.time.adj
          ∧ u.now = (s.advance t).now)
        ∧ (∀ old : Nat × Nat, s.time.hold = 0 → o.natAbs ≤ s.nat (ob 0x2200 9) → s.nat (ob 0x2200 0x0C) ≤ 64 → (s.advance t).time.clampedTicks = s.time.clampTold →
          x.stamps[min (s.nat (ob 0x2200 0x0C)) x.stamps.length - 1]? = some old → old.2 < m.rxLocal →
          Ends (.ptpSyncReceived t m) s fun u => only u ∧ u.time.domains[d].offset = o
            ∧ u.time.base = pattern 64 (divRne (s.time.base * ((gm : Int) - old.1)) (m.rxLocal - old.2))
            ∧ u.time.adj = clampI (-limit) limit (divRne (-o * 4 * 2 ^ 32) (max 1 (tau * 1000000))) ∧ u.time.adjTicks = tau * 250000
            ∧ u.now = (s.advance t).now
            ∧ u.time.domains[d].run16 = (if o.natAbs ≤ s.nat (ob 0x2200 8) then x.run16 + 1 else 0))
        ∧ (s.time.hold = 0 → s.nat (ob 0x2200 9) < o.natAbs → s.launching = false → Ends (.ptpSyncReceived t m) s fun u =>
            u = { s with time := u.time, service := { s.service with entropy := u.service.entropy }, net := { s.net with ports := u.net.ports }, outbox := u.outbox }
            ∧ u.time.base = s.time.base ∧ u.time.adj = 0 ∧ u.time.adjTicks = 0
            ∧ (o < 0 → u.now = (s.advance t).now + (-o).toNat ∧ u.time.frac = 0 ∧ u.time.hold = 0)
            ∧ (0 ≤ o → u.now = (s.advance t).now ∧ u.time.hold = (o.toNat + 3) / 4))
        ∧ (s.time.hold = 0 → s.nat (ob 0x2200 9) < o.natAbs → s.launching = true → Ends (.ptpSyncReceived t m) s fun u =>
            u.now = (s.advance t).now ∧ u.time.hold = 0 ∧ u.time.adjTicks = tau * 250000 ∧ u.mem = s.mem ∧ u.launch = s.launch))
    ∧ (s.ptpPort d m.port.val = true → m.twoStep = false → x.state ≠ 4 → s.time.holdoverAt = none → s.time.active = none →
        (s.time.steering = none → x.run16 < 15 → s.time.preferWait = false → Ends (.ptpSyncReceived t m) s fun u =>
          u.time.steering = some d ∧ u.time.active = none ∧ u.time.domains[d].offset = o ∧ u.mem = s.mem)
        ∧ (d = 0 → 15 ≤ x.run16 → o.natAbs ≤ s.nat (ob 0x2200 8) → Ends (.ptpSyncReceived t m) s fun u => u.time.active = some 0 ∧ u.time.steering = none ∧ u.mem = s.mem))
    ∧ (s.ptpPort d m.port.val = true → m.twoStep = false → x.state = 4 → x.recovering = true → s.time.holdoverAt.isSome = true → Ends (.ptpSyncReceived t m) s fun u =>
        u.time.active = some d ∧ u.time.holdoverAt = none ∧ u.time.domains[d].offset = o ∧ u.mem = s.mem ∧ u.launch = s.launch)
    ∧ (s.ptpPort d m.port.val = true → s.time.sync = 2 → s.nat (ob 0x2200 7) = 0 → s.time.active = some d → s.time.holdoverAt = none →
        (∀ w, x.waiting = some w → w.port = m.port → x.state ≠ 4 → s.time.hold ≠ 0 → Ends (.ptpFollowUpReceived t m) s fun u => only u ∧ u.time.domains[d].waiting = none
          ∧ u.time.domains[d].offset = (w.rxLocal : Int) - (m.origin + (w.correction + m.correction) + x.pathDelay) ∧ u.outbox = s.outbox)
        ∧ (x.waiting = none → exec (.ptpFollowUpReceived t m) s = .next ((s.advance t).fault 0x0C06 (.ofUnit m.port.val) 2))))
  ∧ ∀ (s : State) (t : Nat) (a : AnnounceMsg),
    let d := a.domain
    let x := s.time.domains[d]
    (s.ptpPort d a.port.val = false → exec (.ptpAnnounceReceived t a) s = .next (s.advance t))
    ∧ (s.ptpPort d a.port.val = true → a.clockClass < 256 → a.clockClass ≤ s.nat (ptpObj d 0x10) → Ends (.ptpAnnounceReceived t a) s fun u =>
        u = { s with time := u.time, net := { s.net with ports := u.net.ports }, outbox := u.outbox } ∧ u.time.domains[d].gm = a.gmIdentity % 2 ^ 64 ∧ u.time.domains[d].clockClass = a.clockClass
        ∧ u.time.domains[d].steps = a.stepsRemoved % 2 ^ 16 ∧ u.time.domains[d].lastAnnounce = some (s.advance t).now
        ∧ (u.time.domains[d].recovering = true ↔ x.state = 4) ∧ u.time.domains[d].offset = x.offset
        ∧ u.time.domains[otherDomain d] = s.time.domains[otherDomain d] ∧ u.time.base = s.time.base ∧ u.now = (s.advance t).now)
    ∧ (s.ptpPort d a.port.val = true → a.clockClass < 256 → s.nat (ptpObj d 0x10) < a.clockClass → x.state ≠ 4 → s.time.active = some d → s.eligible (otherDomain d) = false →
        Ends (.ptpAnnounceReceived t a) s fun u => u.time.domains[d].state = 4 ∧ u.time.active = none ∧ u.time.holdoverAt = some (s.advance t).now ∧ u.time.sync = 4
          ∧ u.time.base = s.time.base ∧ u.time.adj = 0 ∧ u.now = (s.advance t).now)

/-- O32. R384, R385, R392, R393, R398, R402: an expired receipt timeout loses its domain; the eligible standby takes over without a step, with fault 0x0C03, or holdover begins with fault 0x0C01, the base increment kept and the adjustment cancelled; a hold and an adjustment end; the holdover estimate above its limit is reported once. -/
def Obligations.LostDomainsSwitchOrHoldOver : Prop :=
  ∀ (s : State) (t : Nat),
    (∀ (d : Fin 2) (cause : Nat) (c : Instr), (c = .ptpAnnounceTimeout t d ∧ cause = 1) ∨ (c = .ptpSyncTimeout t d ∧ cause = 2) →
      ((s.advance t).announceOverdue d = false → cause = 1 → exec c s = .next (s.advance t))
      ∧ ((s.advance t).syncOverdue d = false → cause = 2 → exec c s = .next (s.advance t))
      ∧ ((cause = 1 ∧ (s.advance t).announceOverdue d = true) ∨ (cause = 2 ∧ (s.advance t).syncOverdue d = true) → s.time.domains[d].state ≠ 4 → s.time.active = some d →
        (d = 1 → (s.advance t).announceOverdue 0 = false ∧ (s.advance t).syncOverdue 0 = false) →
        let o := otherDomain d
        (s.eligible o = true → (∀ p ∈ s.time.domains[o].stamps, p.2 ≠ (s.advance t).now) → Ends c s fun u =>
          u.time.active = some o ∧ u.time.domains[d].state = 4 ∧ u.time.domains[o].offset = s.time.domains[o].offset ∧ u.now = (s.advance t).now
          ∧ u.time.base = s.time.base ∧ u.time.adj = 0 ∧ u.time.adjTicks = 0 ∧ u.time.holdoverAt = none
          ∧ u.log = ((s.advance t).fault 0x0C03 (.ofUnit s.time.domains[o].port) (atI 32 32 s.time.domains[o].offset ||| at_ 8 8 cause ||| at_ 8 0 o.val)).log
          ∧ u.mem = s.mem ∧ u.launch = s.launch)
        ∧ (s.eligible o = false → Ends c s fun u =>
          u.time.active = none ∧ u.time.holdoverAt = some (s.advance t).now ∧ u.time.sync = 4 ∧ u.time.domains[d].state = 4 ∧ u.now = (s.advance t).now
          ∧ u.time.base = s.time.base ∧ u.time.adj = 0 ∧ u.time.adjTicks = 0
          ∧ u.log = ((s.advance t).fault 0x0C01 (.ofUnit s.time.domains[d].port)
              (at_ 8 8 (if s.domainOn o = true ∧ s.time.domains[o].heard = true then 4 else cause) ||| at_ 8 0 d.val)).log
          ∧ u.mem = s.mem ∧ u.launch = s.launch)))
    ∧ (s.time.hold = 0 → exec (.timebaseHoldEnd t) s = .next (s.advance t))
    ∧ (s.time.hold ≠ 0 → exec (.timebaseHoldEnd t) s = .next (({ s with time := { s.time with hold := 0, frac := 0 } } : State).advance t))
    ∧ ((s.advance t).time.clampedTicks = s.time.clampTold →
        exec (.timedAdjustmentEnd t) s = .next { s.advance t with time := { (s.advance t).time with adj := 0, adjTicks := 0 } })
    ∧ (s.time.holdoverAt = none ∨ s.time.holdoverTold = true → exec (.holdoverErrorLimit t) s = .next (s.advance t))
    ∧ ∀ h, s.time.holdoverAt = some h → s.time.holdoverTold = false →
        let e := min (divRne ((((s.advance t).now - h) * s.nat (ob 0x2200 0x17) : Nat) : Int) 100000000).toNat (2 ^ 32 - 1)
        (e ≤ s.nat (ob 0x2200 0x19) → exec (.holdoverErrorLimit t) s = .next (s.advance t))
        ∧ (s.nat (ob 0x2200 0x19) < e → exec (.holdoverErrorLimit t) s =
          .next (({ s.advance t with time := { (s.advance t).time with holdoverTold := true } } : State).fault 0x0C02 .chip (at_ 32 0 e)))

/-- O33. R387, R389, R395, R396, R399, R423, R430: peer delay requests are answered in both modes; Sync and Announce leave only on ports in transmitter role, each at its interval; a delay request waits for its answer, from which the mean path delay is formed; a port whose priority 7 is paused holds its messages back (R430); a channel issues an edge only while a launch runs and is not paused, at a count where one of its edges falls, at a multiple of 2 ns, counts it, and makes the edges of the channels linked to it due. -/
def Obligations.TransmissionsAndTriggers : Prop :=
  ∀ (s : State) (t : Nat),
    (∀ (port : Fin 8) (ident rx : Nat),
      let answers : List Output := [.ptp port.val 3 (at_ 64 0 rx ||| ident <<< 64), .ptp port.val 10 (at_ 64 0 (s.advance t).now ||| ident <<< 64)]
      (s.net.ports[port].holds 7 = false → exec (.ptpPdelayRequest t port ident rx) s = .next { s.advance t with outbox := s.outbox ++ answers })
      ∧ (s.net.ports[port].holds 7 = true → exec (.ptpPdelayRequest t port ident rx) s =
          .next { s.advance t with net := { s.net with ports := upd s.net.ports port fun x => { x with waiting := x.waiting ++ answers } } }))
    ∧ (∀ port : Fin 8,
      ((s.advance t).transmitDomain port = none → exec (.ptpSyncTransmit t port) s = .next (s.advance t) ∧ exec (.ptpAnnounceTransmit t port) s = .next (s.advance t))
      ∧ (∀ d : Fin 2, (s.advance t).transmitDomain port = some d → s.net.ports[port].holds 7 = false →
        let syncDue := (s.advance t).due s.time.syncSent[port] (ptpSpan (s.int (ptpObj d 6)) 1)
        let announceDue := (s.advance t).due s.time.announceSent[port] (ptpSpan (s.int (ptpObj d 7)) 1)
        (syncDue = false → exec (.ptpSyncTransmit t port) s = .next (s.advance t))
        ∧ (syncDue = true → exec (.ptpSyncTransmit t port) s = .next { s.advance t with
            time := { (s.advance t).time with syncSent := upd s.time.syncSent port fun _ => some (s.advance t).now }
            outbox := s.outbox ++ [.ptp port.val 0 ((s.advance t).now * 2 ^ 32 + (s.advance t).time.frac)] })
        ∧ (announceDue = false → exec (.ptpAnnounceTransmit t port) s = .next (s.advance t))
        ∧ (announceDue = true → exec (.ptpAnnounceTransmit t port) s = .next { s.advance t with
            time := { (s.advance t).time with announceSent := upd s.time.announceSent port fun _ => some (s.advance t).now }
            outbox := s.outbox ++ [.ptp port.val 11 (if s.grandmaster = true then at_ 16 0 0 ||| at_ 8 16 248 ||| at_ 64 24 Config.clockIdentity ||| at_ 8 88 (s.nat (ob 0x2200 0x15))
              else at_ 16 0 (s.time.domains[d].steps + 1) ||| at_ 8 16 s.time.domains[d].clockClass ||| at_ 64 24 s.time.domains[d].gm)] }))
      ∧ (∀ d : Fin 2, s.time.sync = 2 → s.nat (ob 0x2200 7) = 0 → s.time.active = some d → s.ptpPort d port.val = true → s.time.domains[d].port ≠ port.val →
        (s.advance t).transmitDomain port = some d))
    ∧ (∀ (d : Fin 2) (tx : Nat),
      (s.domainOn d = false ∨ (s.advance t).due s.time.domains[d].requestAt (ptpSpan (s.int (ptpObj d 0x0A)) 1) = false →
        exec (.ptpDelayRequestTransmit t d tx) s = .next (s.advance t))
      ∧ (s.domainOn d = true → (s.advance t).due s.time.domains[d].requestAt (ptpSpan (s.int (ptpObj d 0x0A)) 1) = true → (∀ p : Fin 8, s.net.ports[p].holds 7 = false) → exec (.ptpDelayRequestTransmit t d tx) s =
        .next { s.advance t with
          time := { (s.advance t).time with domains := upd s.time.domains d fun x => { x with t1 := some tx, requestAt := some (s.advance t).now } }
          outbox := s.outbox ++ ((List.finRange 8).filter fun p => s.ptpPort d p.val).map fun p => .ptp p.val (if s.nat (ptpObj d 2) = 0 then 1 else 2) tx }))
    ∧ (∀ (d : Fin 2) (t2 t3 t4 : Nat) (correction : Int),
      (s.time.domains[d].t1 = none → exec (.ptpDelayResponseReceived t d t2 t3 t4 correction) s = .next (s.advance t))
      ∧ (∀ t1, s.time.domains[d].t1 = some t1 →
        (s.nat (ptpObj d 2) ≠ 0 → exec (.ptpDelayResponseReceived t d t2 t3 t4 correction) s =
          .next { s.advance t with time := { (s.advance t).time with domains := upd s.time.domains d fun x =>
            { x with pathDelay := ((divRne (((t4 : Int) - t1) - ((t3 : Int) - t2) - correction) 2).toNat % 2 ^ 32), t1 := none } } })
        ∧ (∀ e rest, s.nat (ptpObj d 2) = 0 → s.time.domains[d].stamps = e :: rest → exec (.ptpDelayResponseReceived t d t2 t3 t4 correction) s =
          .next { s.advance t with time := { (s.advance t).time with domains := upd s.time.domains d fun x =>
            { x with pathDelay := ((divRne (((e.2 : Int) - t1) + ((t4 : Int) - e.1) - correction) 2).toNat % 2 ^ 32), t1 := none } } })))
    ∧ ∀ ch : Fin 64,
      let count := if (s.advance t).now % 2 = 0 then (s.advance t).now else if (s.advance t).now % 4 = 1 then (s.advance t).now - 1 else (s.advance t).now + 1
      let edge := Output.trigger ch.val s.time.edges[ch] count ((s.advance t).edgeWidth ch.val count)
      (s.launch.run = none ∨ (∃ run, s.launch.run = some run ∧ run.paused = true) ∨ s.channelValue ch.val 1 = 0 ∨ 60 ≤ ch.val ∨ (s.advance t).edgeDue ch = false →
        exec (.timeTriggerEdge t ch) s = .next (s.advance t))
      ∧ (∀ run : Run, s.launch.run = some run → run.paused = false → s.channelValue ch.val 1 ≠ 0 → ch.val < 60 → (s.advance t).edgeDue ch = true →
        (ch.val < 48 → (∀ n : Fin 24, s.streamOf ch.val n = false) → Ends (.timeTriggerEdge t ch) s fun u =>
          u = { s.advance t with
            time := { (s.advance t).time with
              edges := upd s.time.edges ch fun n => (n + 1) % 2 ^ 64
              lastEdge := upd s.time.lastEdge ch fun _ => some count
              dueEdges := u.time.dueEdges }
            outbox := s.outbox ++ [edge] }
          ∧ ∀ c : Fin 64, c ≠ ch → u.time.dueEdges[c] =
              if s.channelValue ch.val 1 = 2 ∧ s.channelValue c.val 1 = 3 ∧ s.channelValue c.val 4 = ch.val
                  ∧ s.time.edges[ch] % max 1 (s.channelValue c.val 5) = s.channelValue c.val 6
              then s.time.dueEdges[c] ++ [((count : Int) + signed 32 (s.channelValue c.val 7)).toNat] else s.time.dueEdges[c])
        ∧ Ends (.timeTriggerEdge t ch) s fun u => u.time.edges[ch] = (s.time.edges[ch] + 1) % 2 ^ 64 ∧ (∀ c : Fin 64, c ≠ ch → u.time.edges[c] = s.time.edges[c])
          ∧ u.time.lastEdge[ch] = some count ∧ (∃ rest, u.outbox = s.outbox ++ edge :: rest) ∧ u.mem = s.mem ∧ u.launch = s.launch ∧ u.now = (s.advance t).now)

/-! ## CAN and time-triggered CAN -/

/-- O34. R403 to R405, R409, R411 to R413: a received data frame joins the receive FIFO with its time or is discarded and counted where it is full; a remote frame is only counted; a completed frame leaves its buffer and lowers the transmit counter, and its measured loop delay is kept, one above 127 mtq being a bit error (R409); a lost arbitration takes an attempt, past the limit the frame is discarded; errors move the counters, bus-off drops every buffer; only the recovery command starts the return, which ends error active with counters 0; a controller that serves no bus does none of it. -/
def Obligations.CanControllersReceiveSendAndRecover : Prop :=
  ∀ (s : State) (t : Nat) (c : Fin 4),
    (∀ f : CanFrame,
      (s.canLive c = false → exec (.canFrameReceived t c f) s = .next (s.advance t))
      ∧ (s.canLive c = true → f.remote = true → exec (.canFrameReceived t c f) s = .next ((s.advance t).bump (canStat c.val 8)))
      ∧ (s.canLive c = true → f.remote = false → s.can[c].rec_ = 0 →
        (2 ≤ c.val → s.can[c].fifo.length < 64 → exec (.canFrameReceived t c f) s =
          .next { s.advance t with can := upd s.can c fun x => { x with fifo := x.fifo ++ [((s.advance t).now, f)] } })
        ∧ (2 ≤ c.val → 64 ≤ s.can[c].fifo.length → exec (.canFrameReceived t c f) s =
          .next (((s.advance t).bump (canStat c.val 7)).fault 0x0D07 (.ofUnit c.val) (at_ 32 0 (((s.advance t).bump (canStat c.val 7)).nat (canStat c.val 7)))))
        ∧ (∀ h : c.val < 2, s.can[c].fifo.length < 64 → Ends (.canFrameReceived t c f) s fun u =>
          u.can[c].fifo = s.can[c].fifo ++ [((s.advance t).now, f)] ∧ filterOf c.val f.ident f.extended ∈ u.tt[(⟨c.val, h⟩ : Fin 2)].received
          ∧ u = { s.advance t with can := u.can, tt := u.tt }))
      ∧ (s.canLive c = true → f.remote = false → s.can[c].mode = 1 → 0 < s.can[c].rec_ → s.can[c].rec_ ≤ 127 → s.can[c].fifo.length < 64 →
        Ends (.canFrameReceived t c f) s fun u => u.can[c].rec_ = s.can[c].rec_ - 1 ∧ u.can[c].tec = s.can[c].tec ∧ u.mem = s.mem))
    ∧ (s.canSends c = false → (∀ delay : Nat, exec (.canTransmissionComplete t ⟨c, delay⟩) s = .next (s.advance t)) ∧ exec (.canArbitrationLost t c) s = .next (s.advance t)
        ∧ ∀ (kind tec rec_ : Nat) (receiving : Bool), exec (.canBusError t c kind receiving tec rec_) s = .next (s.advance t))
    ∧ (∀ b, s.canSends c = true → s.underWay c = some b →
      (∀ delay : Nat, s.can[c].tec ≤ 127 → s.can[c].rec_ ≤ 127 → s.switchesRate c b = false ∨ s.tdcOn c = false ∨ delay ≤ 127 →
        exec (.canTransmissionComplete t ⟨c, delay⟩) s =
          .next ((({ s.advance t with can := upd s.can c fun x =>
            { x with
              tx := x.tx.filter (fun y => y.index != b.index), onBus := none, tec := x.tec - 1, state := 1
              loopDelay := if s.switchesRate c b = true ∧ s.tdcOn c = true then delay else x.loopDelay } } : State).bump (canStat c.val 4)).emit
              (.canFrame c.val b.ident b.data)))
      ∧ (∀ delay : Nat, s.switchesRate c b = true → s.tdcOn c = true → 127 < delay → s.can[c].tec + 8 ≤ 127 → s.can[c].rec_ ≤ 127 →
        b.attempts + 1 ≤ (if b.oneShot = true then 0 else s.nat (canObj c.val 0x0E)) →
        Ends (.canTransmissionComplete t ⟨c, delay⟩) s fun u => u.can[c].loopDelay = delay ∧ u.can[c].tec = s.can[c].tec + 8 ∧ u.can[c].rec_ = s.can[c].rec_
          ∧ u.can[c].tx = s.can[c].tx.map (fun y => if y.index = b.index then { y with attempts := y.attempts + 1 } else y)
          ∧ u.outbox = s.outbox ∧ u.log = s.log ∧ u.mem = s.mem)
      ∧ (b.attempts + 1 ≤ (if b.oneShot = true then 0 else s.nat (canObj c.val 0x0E)) → exec (.canArbitrationLost t c) s =
        .next { s.advance t with can := upd s.can c fun x =>
          { x with tx := x.tx.map fun y => if y.index = b.index then { y with attempts := y.attempts + 1 } else y } })
      ∧ ((if b.oneShot = true then 0 else s.nat (canObj c.val 0x0E)) < b.attempts + 1 → exec (.canArbitrationLost t c) s =
        .next ((({ s.advance t with can := upd s.can c fun x => { x with tx := x.tx.filter (fun y => y.index != b.index), onBus := none } } : State).bump
          (canStat c.val 5)).fault 0x0D03 (.ofUnit c.val) (at_ 29 0 b.ident ||| at_ 1 31 (if 0x800 ≤ b.ident then 1 else 0)))))
    ∧ exec (.canModeChange t c) s = .next { s.advance t with can := upd s.can c fun x => { x with mode := s.nat (canObj c.val 0x0D) } }
    ∧ (∀ kind tec rec_ : Nat, s.canSends c = true →
      (tec ≤ 127 → rec_ ≤ 127 → exec (.canBusError t c kind true tec rec_) s =
        .next { s.advance t with can := upd s.can c fun x => { x with tec := tec, rec_ := rec_, state := 1 } })
      ∧ (tec ≤ 255 → (127 < tec ∨ 127 < rec_) → s.can[c].state = 1 → exec (.canBusError t c kind true tec rec_) s =
        .next (({ s.advance t with can := upd s.can c fun x => { x with tec := tec, rec_ := rec_, state := 2 } } : State).fault
          0x0D02 (.ofUnit c.val) (at_ 8 8 tec ||| at_ 8 0 rec_)))
      ∧ (∀ receiving : Bool, 255 < tec →
        (2 ≤ c.val → exec (.canBusError t c kind receiving tec rec_) s =
          .next ((({ s.advance t with can := upd s.can c fun x => { x with state := 3, tec := 255, rec_ := rec_, tx := [], onBus := none } } : State).bump
            (canStat c.val 9)).fault 0x0D01 (.ofUnit c.val) (at_ 8 8 rec_ ||| at_ 8 0 kind)))
        ∧ (∀ h : c.val < 2, s.nat (ob (0x2320 + c.val) 1) ≠ 0 → s.tt[(⟨c.val, h⟩ : Fin 2)].level ≠ 3 →
          Ends (.canBusError t c kind receiving tec rec_) s fun u => u.can[c].state = 3 ∧ u.can[c].tx = [] ∧ u.tt[(⟨c.val, h⟩ : Fin 2)].level = 3
            ∧ u.tt[(⟨c.val, h⟩ : Fin 2)].s3 = 5 ∧ u.mem = s.mem ∧ u.launch = s.launch)))
    ∧ (∀ ses : Session, WritesAct s ses →
      (s.can[c].state = 3 → ChecksPass s t (ob (0x2310 + c.val) 0x0F) (.int 1) → ServedWith (.recoveryCommand t ses c) s ses (Books { s.advance t with can := upd s.can c fun x => { x with state := 4 } }))
      ∧ (s.can[c].state = 4 → ChecksPass s t (ob (0x2310 + c.val) 0x0F) (.int 1) → ServedWith (.recoveryCommand t ses c) s ses (Books (s.advance t)))
      ∧ (s.can[c].state < 3 →
        (2 ≤ c.val → RefusedWith (.recoveryCommand t ses c) s ses 0x08000022 (Books (s.advance t)))
        ∧ ∀ h : c.val < 2, let x := s.tt[(⟨c.val, h⟩ : Fin 2)]
          (x.level ≠ 3 ∨ (x.causeGone = false ∧ x.s3 ≠ 5) → RefusedWith (.recoveryCommand t ses c) s ses 0x08000022 (Books (s.advance t)))
          ∧ (x.level = 3 → x.causeGone = true → ChecksPass s t (ob (0x2310 + c.val) 0x0F) (.int 1) →
            ServedWith (.recoveryCommand t ses c) s ses (Books { s.advance t with tt := upd s.tt (⟨c.val, h⟩ : Fin 2) fun y => { y with leaveS3 := true } }))))
    ∧ (s.can[c].state ≠ 4 → exec (.canRecoveryComplete t c) s = .next (s.advance t))
    ∧ (s.can[c].state = 4 →
      (2 ≤ c.val → exec (.canRecoveryComplete t c) s = .next { s.advance t with can := upd s.can c fun x => { x with state := 1, tec := 0, rec_ := 0 } })
      ∧ ∀ h : c.val < 2, exec (.canRecoveryComplete t c) s = .next { s.advance t with
          can := upd s.can c fun x => { x with state := 1, tec := 0, rec_ := 0 }
          tt := upd s.tt (⟨c.val, h⟩ : Fin 2) fun y => { y with leaveS3 := y.leaveS3 || y.level == 3 } })

/-- O35. R413, R418, R419: a basic cycle begins at its count, on the current master one of the grid of the corrected weft count: the master sends its reference message from the weft count, a slave counts its cycle, count 0 brings the written matrix into force, and the levels S1 to S3 are entered and left as R419 says; a slave takes cycle, mark and stamp of a reference message and ignores one with Next_is_Gap; a potential master takes over with Disc_Bit once its reference offset has passed; the application watchdog leads to S3 once its time has; a watch entry acts once its time mark has come. -/
def Obligations.TtcanCyclesReferencesAndLevels : Prop :=
  ∀ (s : State) (t : Nat) (c : Fin 2),
    let x := s.tt[c]
    let w := (s.advance t).now
    let cycles := 2 ^ s.nat (ob (0x2320 + c.val) 0x0A)
    let ns := s.nat (ob (0x2320 + c.val) 4) * s.nat (ob (0x2320 + c.val) 3)
    let cyc := (w - s.nat (ob (0x2320 + c.val) 6)) / max 1 ns % cycles
    let mark := 8 * (w - s.nat (ob (0x2320 + c.val) 6)) / max 1 (s.nat (ob (0x2320 + c.val) 3)) % 2 ^ 19
    let refer := fun disc : Bool => Output.canFrame c.val (s.nat (ob (0x2320 + c.val) 7))
      (if s.nat (ob (0x2320 + c.val) 1) = 2 then leBytes 1 cyc ++ leBytes 1 (mark % 8 * 32 + if disc = true then 1 else 0) ++ leBytes 2 (mark / 8) else leBytes 1 cyc)
    (s.ttOn c = false → (∀ ok, exec (.ttcanCycleStart t c ok) s = .next (s.advance t)) ∧ exec (.referenceOffsetExpiry t c) s = .next (s.advance t)
      ∧ exec (.applicationWatchdogLapse t c) s = .next (s.advance t) ∧ (∀ m, exec (.referenceMessageReceived t c m) s = .next (s.advance t))
      ∧ ∀ entry, exec (.watchTrigger t c entry) s = .next (s.advance t))
    ∧ (s.ttOn c = true → (s.advance t).onCycleGrid c = false → ∀ ok, exec (.ttcanCycleStart t c ok) s = .next (s.advance t))
    ∧ (x.master ≠ 1 → (s.advance t).onCycleGrid c = true)
    ∧ (s.ttOn c = true → (s.advance t).onCycleGrid c = true → x.leaveS3 = false →
      (x.level = 0 → x.sawRef = true → x.master ≠ 1 → (x.cycle + 1) % cycles ≠ 0 → Ends (.ttcanCycleStart t c true) s fun u =>
        u.tt[c].cycle = (x.cycle + 1) % cycles ∧ u.tt[c].started = w ∧ u.tt[c].missing = 0 ∧ u.tt[c].sawRef = false ∧ u.tt[c].level = 0 ∧ u.tt[c].matrix = x.matrix
        ∧ u.outbox = s.outbox ∧ u = { s.advance t with tt := u.tt })
      ∧ (x.level = 0 → x.sawRef = true → x.master ≠ 1 → (x.cycle + 1) % cycles = 0 → Ends (.ttcanCycleStart t c true) s fun u =>
        u.tt[c].cycle = 0 ∧ u.tt[c].level = 0 ∧ u.tt[c].matrix = matrixOf (s.raw (ob (0x2330 + c.val) 1)) ∧ u = { s.advance t with tt := u.tt })
      ∧ (x.level = 0 → x.sawRef = true → x.master = 1 → s.canSends (ttCtl c) = true → Ends (.ttcanCycleStart t c true) s fun u =>
        u.outbox = s.outbox ++ [refer false] ∧ u.tt[c].cycle = cyc ∧ u.tt[c].sawRef = true ∧ u.tt[c].refWeft = w ∧ u.tt[c].level = 0
        ∧ u = { s.advance t with tt := u.tt, outbox := u.outbox })
      ∧ (x.level ≠ 3 → x.sawRef = true → Ends (.ttcanCycleStart t c false) s fun u => u.tt[c].level = 3 ∧ u.tt[c].s3 = 6 ∧ u.mem = s.mem ∧ u.launch = s.launch
        ∧ u.can[ttCtl c].tx = s.can[ttCtl c].tx)
      ∧ (x.level < 2 → x.sawRef = false → 1 ≤ x.missing → Ends (.ttcanCycleStart t c true) s fun u => u.tt[c].level = 2 ∧ u.mem = s.mem ∧ u.launch = s.launch)
      ∧ (x.level = 2 → x.sawRef = true → 1 ≤ x.goodRefs → Ends (.ttcanCycleStart t c true) s fun u => u.tt[c].level = 0 ∧ u.mem = s.mem)
      ∧ (x.level = 1 → x.sawRef = true → x.erred = false → 3 ≤ x.cleanCycles → Ends (.ttcanCycleStart t c true) s fun u => u.tt[c].level = 0 ∧ u.mem = s.mem))
    ∧ (s.ttOn c = true → (s.advance t).onCycleGrid c = true → x.leaveS3 = true → x.level = 3 → s.canLive (ttCtl c) = true → x.sawRef = true → Ends (.ttcanCycleStart t c true) s fun u =>
        u.tt[c].level = 0 ∧ u.tt[c].leaveS3 = false ∧ u.mem = s.mem)
    ∧ (∀ m : RefMsg, s.ttOn c = true → s.canLive (ttCtl c) = true →
      (m.gap = true ∨ (x.master = 1 ∧ s.nat (ob (0x2320 + c.val) 7) % 8 ≤ m.priority) → Ends (.referenceMessageReceived t c m) s fun u =>
        u.tt = s.tt ∧ u.outbox = s.outbox ∧ u = { s.advance t with can := u.can })
      ∧ (m.gap = false → x.master = 0 → s.nat (ob (0x2320 + c.val) 2) = 0 → x.priority = m.priority % 8 → Ends (.referenceMessageReceived t c m) s fun u =>
        u.tt[c].sawRef = true ∧ u.tt[c].missing = 0 ∧ u.tt[c].cycle = m.cycle % cycles ∧ u.tt[c].refMark = m.refMark % 2 ^ 19 ∧ u.tt[c].refWeft = w
        ∧ u.tt[c].level = x.level ∧ u.tt[c].matrix = x.matrix ∧ u.log = s.log ∧ u = { s.advance t with can := u.can, tt := u.tt })
      ∧ (m.gap = false → x.master = 1 → m.priority % 8 < s.nat (ob (0x2320 + c.val) 7) % 8 → m.priority < 8 → Ends (.referenceMessageReceived t c m) s fun u =>
        u.tt[c].master ≠ 1 ∧ u.tt[c].priority = m.priority ∧ u.tt[c].refWeft = w ∧ u.mem = s.mem ∧ u.launch = s.launch))
    ∧ (s.ttOn c = true → s.canSends (ttCtl c) = true → s.nat (ob (0x2320 + c.val) 2) = 1 → x.master ≠ 1 → x.sawRef = false → x.level < 3 →
        x.started + s.nat (ob (0x2320 + c.val) 8) * s.nat (ob (0x2320 + c.val) 3) ≤ w →
        Ends (.referenceOffsetExpiry t c) s fun u => u.tt[c].master = 1 ∧ u.tt[c].priority = s.nat (ob (0x2320 + c.val) 7) % 8 ∧ u.tt[c].sawRef = true
          ∧ u.outbox.getLast? = some (refer true) ∧ u.mem = s.mem ∧ u.launch = s.launch)
    ∧ (x.sawRef = true ∨ x.master = 1 ∨ w < x.started + s.nat (ob (0x2320 + c.val) 8) * s.nat (ob (0x2320 + c.val) 3) → exec (.referenceOffsetExpiry t c) s = .next (s.advance t))
    ∧ (w < x.servedAt + 1000000 * s.nat (ob (0x2320 + c.val) 9) → exec (.applicationWatchdogLapse t c) s = .next (s.advance t))
    ∧ (s.ttOn c = true → x.level ≠ 3 → x.servedAt + 1000000 * s.nat (ob (0x2320 + c.val) 9) ≤ w → Ends (.applicationWatchdogLapse t c) s fun u => u.tt[c].level = 3 ∧ u.tt[c].s3 = 4 ∧ u.tt[c].matrix = x.matrix
        ∧ u.can[ttCtl c].tx = s.can[ttCtl c].tx ∧ u.can[ttCtl c].fifo = s.can[ttCtl c].fifo ∧ u.mem = s.mem ∧ u.launch = s.launch
        ∧ u.log = ((s.advance t).fault 0x0D04 (.ofUnit c.val) (at_ 8 8 4 ||| 3)).log)
    ∧ ∀ (entry : Fin 128) (e : BitVec 64), s.ttOn c = true → (s.advance t).entryNow c entry [7] = some e →
      (x.sawRef = true ∨ x.missing = 0 ∨ 2 ≤ x.level → exec (.watchTrigger t c entry) s = .next (s.advance t))
      ∧ (x.sawRef = false → 1 ≤ x.missing → x.level < 2 → exec (.watchTrigger t c entry) s =
        .next (({ s.advance t with tt := upd s.tt c fun y => { y with level := 2, cleanCycles := 0, goodRefs := 0 } } : State).fault 0x0D04 (.ofUnit c.val) (at_ 8 8 3 ||| 2)))

/-- O36. R415, R417, R419: the entries of the matrix: an entry that does not act in this cycle, or whose time mark has not come, does nothing, and none sends in level S2 or S3; an exclusive frame starts one-shot inside its window, or is missed, counted and leads to S1; an arbitrating or merged window lets the frame that fits it start; its end stops them; a receive check passes only with a frame since the last one. -/
def Obligations.TtcanWindowsFollowTheMatrix : Prop :=
  ∀ (s : State) (t : Nat) (c : Fin 2) (entry : Fin 128),
    let x := s.tt[c]
    let ctl := ttCtl c
    (∀ inWindow : Bool,
      ((s.advance t).entryNow c entry [1] = none ∨ 2 ≤ x.level ∨ s.ttOn c = false ∨ s.canSends ctl = false → exec (.transmitExclusive t c entry inWindow) s = .next (s.advance t))
      ∧ (∀ e, s.ttOn c = true → s.canSends ctl = true → x.level < 2 → (s.advance t).entryNow c entry [1] = some e →
        ((s.can[ctl].tx.any fun b => b.index == entBuffer e) = false → exec (.transmitExclusive t c entry inWindow) s = .next (s.advance t))
        ∧ ((s.can[ctl].tx.any fun b => b.index == entBuffer e) = true →
          ((s.advance t).now ≤ (s.advance t).ntuCount c (entMark e + s.nat (ob (0x2320 + c.val) 5)) → exec (.transmitExclusive t c entry true) s = .next { s.advance t with can := upd s.can ctl fun y =>
            { y with onBus := some (entBuffer e), tx := y.tx.map fun b => if b.index = entBuffer e then { b with oneShot := true } else b } })
          ∧ ((s.advance t).ntuCount c (entMark e + s.nat (ob (0x2320 + c.val) 5)) < (s.advance t).now → Ends (.transmitExclusive t c entry true) s fun u =>
            u.can = s.can ∧ u.tt[c].level = 1 ∧ u.tt[c].matrix = x.matrix ∧ u.mem = s.mem ∧ u.launch = s.launch)
          ∧ Ends (.transmitExclusive t c entry false) s fun u => u.can = s.can ∧ u.tt[c].level = 1 ∧ u.tt[c].matrix = x.matrix ∧ u.mem = s.mem ∧ u.launch = s.launch)))
    ∧ ((s.advance t).entryNow c entry [2] = none ∨ 2 ≤ x.level ∨ s.ttOn c = false ∨ s.canSends ctl = false → ∀ fits, exec (.transmitArbitrating t c entry fits) s = .next (s.advance t))
    ∧ ((s.advance t).entryNow c entry [3] = none ∨ 2 ≤ x.level ∨ s.ttOn c = false ∨ s.canSends ctl = false → exec (.mergedWindowStart t c entry) s = .next (s.advance t))
    ∧ (x.merged = false ∨ (s.advance t).entryNow c entry [4] = none ∨ 2 ≤ x.level → exec (.mergedWindowContinue t c entry) s = .next (s.advance t))
    ∧ (s.ttOn c = true → s.canSends ctl = true → x.level < 2 →
      (∀ e fits, (s.advance t).entryNow c entry [2] = some e → exec (.transmitArbitrating t c entry fits) s = .next { s.advance t with
          tt := upd s.tt c fun y => { y with arbUntil := true }
          can := if fits = true ∧ (s.can[ctl].tx.any fun b => b.index == entBuffer e) = true then upd s.can ctl fun y => { y with onBus := some (entBuffer e) } else s.can })
      ∧ (∀ e, (s.advance t).entryNow c entry [3] = some e → exec (.mergedWindowStart t c entry) s = .next { s.advance t with
          tt := upd s.tt c fun y => { y with arbUntil := true, merged := true }
          can := if (s.can[ctl].tx.any fun b => b.index == entBuffer e) = true then upd s.can ctl fun y => { y with onBus := some (entBuffer e) } else s.can })
      ∧ (∀ e, x.merged = true → (s.advance t).entryNow c entry [4] = some e → exec (.mergedWindowContinue t c entry) s = .next { s.advance t with
          tt := upd s.tt c fun y => { y with arbUntil := true, merged := true }
          can := if (s.can[ctl].tx.any fun b => b.index == entBuffer e) = true then upd s.can ctl fun y => { y with onBus := some (entBuffer e) } else s.can }))
    ∧ (s.ttOn c = false ∨ (s.advance t).entryNow c entry [5] = none → exec (.endOfArbitratingWindow t c entry) s = .next (s.advance t))
    ∧ (∀ e, s.ttOn c = true → (s.advance t).entryNow c entry [5] = some e → exec (.endOfArbitratingWindow t c entry) s = .next { s.advance t with
          tt := upd s.tt c fun y => { y with arbUntil := false, merged := false }
          can := upd s.can ctl fun y => { y with onBus := none } })
    ∧ (s.ttOn c = false ∨ (s.advance t).entryNow c entry [6] = none → exec (.receiveCheck t c entry) s = .next (s.advance t))
    ∧ ∀ e, s.ttOn c = true → (s.advance t).entryNow c entry [6] = some e →
      (entBuffer e ∈ x.received → exec (.receiveCheck t c entry) s =
        .next { s.advance t with tt := upd s.tt c fun y => { y with received := y.received.filter fun f => f != entBuffer e } })
      ∧ (entBuffer e ∉ x.received → x.level = 0 → Ends (.receiveCheck t c entry) s fun u => u.tt[c].level = 1 ∧ u.tt[c].erred = true ∧ u.can = s.can
        ∧ u.mem = s.mem ∧ u.launch = s.launch)

/-! ## Network, host queues and PCIe -/

/-- O37. R422, R423, R425, R426, R432, R433, R435: at a powered port a request that names an enabled window, within its rights and its size and its class, reads or writes exactly its bytes; any other changes no memory, is answered with its NAK and counted at its window; atomic requests are NAKed; an answer leaves with its window's priority, and waits in its port while that is paused; a port without power takes nothing. A ring message that names the beat and step and comes in time is stored, kept for the beat that consumes it, its gathered part placed by its index, and forwarded (that at its arrival is the model's choice: log entry 70); any other is discarded and counted. A BAR 2 access follows the same window. -/
def Obligations.RemoteAccessesRespectTheirWindow : Prop :=
  ∀ (s : State) (t : Nat),
    (∀ (q : RdmaReq) (data : Bytes) (imm : BitVec 32) (ring : Fin 4) (beat step : Nat),
      let pr := s.winPriority q
      let ans := fun (r : Nat) (d : Bytes) => Output.rdma pr q.qp.val r d
      (s.portPowered q.port = false → exec (.atomicRequest t q) s = .next (s.advance t) ∧ exec (.rdmaRead t q) s = .next (s.advance t)
        ∧ exec (.rdmaWrite t q data) s = .next (s.advance t) ∧ exec (.send t q data) s = .next (s.advance t)
        ∧ exec (.rdmaWriteWithImmediate t q data imm ring beat step) s = .next (s.advance t))
      ∧ (s.net.qps[q.qp].error = true → exec (.rdmaRead t q) s = .next (s.advance t) ∧ exec (.rdmaWrite t q data) s = .next (s.advance t)
        ∧ exec (.send t q data) s = .next (s.advance t) ∧ exec (.rdmaWriteWithImmediate t q data imm ring beat step) s = .next (s.advance t))
      ∧ (s.portPowered q.port = true → s.net.ports[q.port].holds pr = true → exec (.atomicRequest t q) s =
          .next { s.advance t with net := { s.net with ports := upd s.net.ports q.port fun x => { x with waiting := x.waiting ++ [ans 2 []] } } })
      ∧ (s.portPowered q.port = true → s.net.ports[q.port].holds pr = false → exec (.atomicRequest t q) s = .next ((s.advance t).emit (ans 2 [])))
      ∧ (s.portPowered q.port = true → s.net.ports[q.port].holds pr = false → s.net.qps[q.qp].error = false →
        (s.windowOf q.firstBeforeSwitch q.key = none → secondSince (s.net.refusedAt.get 64) (s.advance t).now = true →
          exec (.rdmaRead t q) s = .next ((({ s.advance t with net := { s.net with refusedAt := upd s.net.refusedAt 64 fun _ => some (s.advance t).now } } : State).fault
            0x0F03 (.ofUnit q.port.val) (at_ 32 32 q.key ||| at_ 8 8 1 ||| at_ 8 0 0xFF)).emit (ans 1 [])))
        ∧ ∀ w : Fin 64, s.windowOf q.firstBeforeSwitch q.key = some w →
          let p := s.winPlace q.firstBeforeSwitch w.val q.offset
          let cls := s.winVal q.firstBeforeSwitch w.val 8
          let right := fun k => s.winRight q.firstBeforeSwitch w.val k
          let size := s.winVal q.firstBeforeSwitch w.val 5
          let onTime := s.nat (ob (0x2470 + ring.val) 1) ≠ 0 ∧ imm.toNat / 256 = beat % 2 ^ 24 ∧ imm.toNat / 16 % 16 = step % 16 ∧ (s.advance t).ringLate ring.val imm = false
          pr = (if cls = 3 then 1 else 3)
          ∧ ((q.firstBeforeSwitch = true ∧ s.net.moved.contains w.val = true) → exec (.rdmaRead t q) s = .next ((s.advance t).emit (ans 3 []))
            ∧ exec (.rdmaWrite t q data) s = .next ((s.advance t).emit (ans 3 [])) ∧ exec (.send t q data) s = .next ((s.advance t).emit (ans 3 [])))
          ∧ ((q.firstBeforeSwitch = false ∨ s.net.moved.contains w.val = false) →
            (right 0 = true → q.offset + q.length ≤ size → p.inside q.length = true → s.permits cls p q.length false = true →
              exec (.rdmaRead t q) s = .next ((s.advance t).emit (ans 0 (s.load p q.length))))
            ∧ (q.offset + data.length ≤ size → p.inside data.length = true → s.permits cls p data.length true = true →
              (right 1 = true → exec (.rdmaWrite t q data) s = .next (((s.advance t).store p data).emit (ans 0 [])))
              ∧ (right 2 = true → exec (.send t q data) s = .next (((s.advance t).store p data).emit (ans 0 [])))
              ∧ (right 1 = true → onTime →
                Ends (.rdmaWriteWithImmediate t q data imm ring beat step) s fun u =>
                  u.mem = (((s.advance t).store p data).placePart ring.val (imm.toNat % 16) data).mem
                  ∧ (∃ rest, u.outbox = s.outbox ++ ans 0 [] :: rest)
                  ∧ (ring.val, imm.toNat, data) ∈ u.net.ringIn
                  ∧ u = { s.advance t with mem := u.mem, marks := u.marks, net := { s.net with ringIn := u.net.ringIn, ports := u.net.ports }, outbox := u.outbox }
                  ∧ (imm.toNat / 16 % 16 + 2 < s.ringSize ring.val → s.net.ports[Fin.ofNat 8 (s.nat (ob (0x2470 + ring.val) 3))].holds (s.nat (ob 0x2400 9)) = false →
                    u.outbox = s.outbox ++ [ans 0 [], .ringSend (s.nat (ob 0x2400 9)) ring.val
                      (at_ 24 8 (s.advance t).beat ||| at_ 4 4 (imm.toNat / 16 % 16 + 1) ||| at_ 4 0 (imm.toNat % 16)) data])
                  ∧ (s.ringSize ring.val ≤ imm.toNat / 16 % 16 + 2 → u.outbox = s.outbox ++ [ans 0 []]))
              ∧ (right 1 = true → ¬ onTime →
                exec (.rdmaWriteWithImmediate t q data imm ring beat step) s =
                  .next ((((s.advance t).bump (ob 0x2480 3)).fault 0x0F04 (.ofUnit ring.val) imm.toNat).emit (ans 0 []))))
            ∧ (right 0 = false → secondSince (s.net.refusedAt.get ⟨w.val, by omega⟩) (s.advance t).now = false →
              exec (.rdmaRead t q) s = .next (((s.advance t).bump (winObj w.val 9)).emit (ans 1 [])))
            ∧ (right 1 = false ∨ size < q.offset + data.length → Ends (.rdmaWrite t q data) s fun u => u.mem = s.mem ∧ u.launch = s.launch
              ∧ u.outbox.getLast? = some (ans 1 []))
            ∧ (right 2 = false ∨ size < q.offset + data.length → Ends (.send t q data) s fun u => u.mem = s.mem ∧ u.launch = s.launch
              ∧ u.outbox.getLast? = some (ans 1 [])))))
    ∧ ∀ (w : Fin 64) (offset n : Nat) (data : Bytes),
      let p := s.winPlace false w.val offset
      let ok := fun (right n : Nat) (write : Bool) => s.nat (winObj w.val 1) ≠ 0 ∧ bit (s.nat (winObj w.val 6)) 3 = true ∧ bit (s.nat (winObj w.val 6)) right = true
        ∧ offset + n ≤ s.nat (winObj w.val 5) ∧ offset + n ≤ 2 ^ 30 ∧ p.inside n = true ∧ s.permits (s.nat (winObj w.val 8)) p n write = true
      (s.net.pcieUp = false ∨ s.domainServes 52 = false →
        exec (.bar2Access t w offset none n) s = .next (s.advance t) ∧ exec (.bar2Access t w offset (some data) n) s = .next (s.advance t))
      ∧ (s.net.pcieUp = true → s.domainServes 52 = true →
        (ok 0 n false → exec (.bar2Access t w offset none n) s = .next ((s.advance t).emit (.pcieRead (some (s.load p n)))))
        ∧ (ok 1 data.length true → exec (.bar2Access t w offset (some data) n) s = .next ((s.advance t).store p data))
        ∧ (¬ ok 0 n false → Ends (.bar2Access t w offset none n) s fun u => u.mem = s.mem ∧ u.outbox.getLast? = some (.pcieRead none) ∧ u.launch = s.launch)
        ∧ (¬ ok 1 data.length true → Ends (.bar2Access t w offset (some data) n) s fun u => u.mem = s.mem ∧ u.launch = s.launch))

/-- O38. R422, R423, R429: an ACK timeout runs from the last acknowledgement or retransmission; each retry within its limit retransmits from the first unacknowledged packet, with the priority of 0x2400:09; past the limit the queue pair is in error, with its fault; an acknowledgement clears the retries; a congestion notification halves the rate, and 55 µs without one regain an eighth; only the re-establish command, or a launch, ends the error. -/
def Obligations.QueuePairsRetryAndRecover : Prop :=
  ∀ (s : State) (t : Nat) (q : Fin 256),
    let x := s.net.qps[q]
    let overdue := (s.advance t).due x.timerAt (4096 * 2 ^ s.nat (ob 0x2400 4))
    let failed := fun why : Nat => (({ s.advance t with net := { s.net with qps := upd s.net.qps q fun y => { y with error := true } } } : State).fault
      0x0F01 .chip (at_ 32 32 q.val ||| at_ 8 0 why))
    (∀ owner, x.error = true → exec (.ackTimeout t q owner) s = .next (s.advance t) ∧ exec (.receiverNotReadyNak t q owner) s = .next (s.advance t)
      ∧ ∀ psn nak, exec (.roceAckReceived t q psn nak owner) s = .next (s.advance t))
    ∧ (overdue = false → ∀ owner, exec (.ackTimeout t q owner) s = .next (s.advance t))
    ∧ (x.error = false → (∀ owner,
        (overdue = true → x.tries + 1 ≤ s.nat (ob 0x2400 3) → exec (.ackTimeout t q owner) s =
          .next (({ s.advance t with net := { s.net with qps := upd s.net.qps q fun y => { y with tries := y.tries + 1, timerAt := some (s.advance t).now } } } : State).emit (.retransmit (s.nat (ob 0x2400 9)) q.val x.first)))
        ∧ (x.rnr + 1 ≤ s.nat (ob 0x2400 5) → exec (.receiverNotReadyNak t q owner) s =
          .next (({ s.advance t with net := { s.net with qps := upd s.net.qps q fun y => { y with rnr := y.rnr + 1, timerAt := some (s.advance t).now } } } : State).emit (.retransmit (s.nat (ob 0x2400 9)) q.val x.first)))
        ∧ (∀ psn : Nat, exec (.roceAckReceived t q psn false owner) s =
          .next { s.advance t with net := { s.net with qps := upd s.net.qps q fun y => { y with first := (psn + 1) % 2 ^ 24, tries := 0, rnr := 0, timerAt := some (s.advance t).now } } })
        ∧ (∀ psn : Nat, x.tries + 1 ≤ s.nat (ob 0x2400 3) → exec (.roceAckReceived t q psn true owner) s =
          .next (({ s.advance t with net := { s.net with qps := upd s.net.qps q fun y => { y with first := psn % 2 ^ 24, tries := y.tries + 1, timerAt := some (s.advance t).now } } } : State).emit
            (.retransmit (s.nat (ob 0x2400 9)) q.val (psn % 2 ^ 24)))))
      ∧ (overdue = true → s.nat (ob 0x2400 3) < x.tries + 1 → exec (.ackTimeout t q none) s = .next (failed 1))
      ∧ (s.nat (ob 0x2400 5) < x.rnr + 1 → exec (.receiverNotReadyNak t q none) s = .next (failed 2))
      ∧ (∀ r h, overdue = true → s.nat (ob 0x2400 3) < x.tries + 1 → Ends (.ackTimeout t q (some (r, h))) s fun u => u.net.qps[q].error = true ∧ u.net.ports = s.net.ports
          ∧ (s.permits (hClass h) (rmemAt r.val (hStatusAddr h)) 16 true = true → (rmemAt r.val (hStatusAddr h)).inside 16 = true → StatusIs u r h stRetryNet 0 0 false false) ∧ u.launch = s.launch))
    ∧ exec (.congestionNotification t q) s =
        .next { s.advance t with net := { s.net with qps := upd s.net.qps q fun y => { y with rate := y.rate / 2, lastCnp := some (s.advance t).now } } }
    ∧ (x.lastCnp = none → exec (.rateRecoveryTimer t q) s = .next (s.advance t))
    ∧ (∀ c, x.lastCnp = some c →
      ((s.advance t).now < 55000 + c → exec (.rateRecoveryTimer t q) s = .next (s.advance t))
      ∧ (55000 + c ≤ (s.advance t).now → exec (.rateRecoveryTimer t q) s =
        .next { s.advance t with net := { s.net with qps := upd s.net.qps q fun y =>
          { y with rate := min 1024 (y.rate + 128), lastCnp := if 1024 ≤ y.rate + 128 then none else some (s.advance t).now } } }))
    ∧ ∀ ses : Session, WritesAct s ses →
      ServedWith (.queuePairReestablish t ses q.val) s ses (Books { s.advance t with net := { s.net with
        qps := if x.error = true then upd s.net.qps q (fun _ => { error := false, tries := 0, rnr := 0, rate := 1024, lastCnp := none, first := 0, timerAt := none }) else s.net.qps } })

/-- O39. R423, R430, R434, R435: a powered port retrains, stays down after the third retrain within 10 s until its command, and links up, and one without power does none of it; a paused priority is honoured until a pause of no time (its meaning is the model's choice: log entry 69) or its watchdog, which send what waited, and again after a quiet second; the PCIe link stays down after its fourth retrain within 1 s until a hot reset or its command. -/
def Obligations.PortsAndLinksRetrainAndStayDown : Prop :=
  ∀ (s : State) (t : Nat),
    (∀ p : Fin 8, let x := s.net.ports[p]
      let recent := (x.retrains.filter fun r => decide ((s.advance t).now < 10000000000 + r)) ++ [(s.advance t).now]
      ((s.portCount ≤ p.val ∨ s.portPowered p = false ∨ x.state = 4) → exec (.portBlockLockLost t p) s = .next (s.advance t))
      ∧ (p.val < s.portCount → s.portPowered p = true → x.state ≠ 0 → x.state ≠ 4 →
        (recent.length < 3 → exec (.portBlockLockLost t p) s =
          .next { s.advance t with net := { s.net with ports := upd s.net.ports p fun y => { y with state := 2, retrains := recent } } })
        ∧ (3 ≤ recent.length → exec (.portBlockLockLost t p) s =
          .next (({ s.advance t with net := { s.net with ports := upd s.net.ports p fun y => { y with state := 4, retrains := recent } } } : State).fault
            0x0F02 (.ofUnit p.val) (at_ 8 0 recent.length))
          ∧ (FaultRec.make 0x0F02 (.ofUnit p.val) (at_ 8 0 recent.length) 0 (s.advance t).now s.log.nextSeq).cls = 2))
      ∧ (p.val < s.portCount → s.portPowered p = true → x.state = 1 ∨ x.state = 2 → exec (.portLinkUp t p) s =
          .next { s.advance t with net := { s.net with ports := upd s.net.ports p fun y => { y with state := 3 } } })
      ∧ (s.portPowered p = false ∨ x.state = 3 ∨ x.state = 4 → exec (.portLinkUp t p) s = .next (s.advance t))
      ∧ (∀ ses : Session, WritesAct s ses → p.val < s.portCount →
        (s.portPowered p = true → x.state = 4 → ServedWith (.portUpCommand t ses p) s ses
          (Books { s.advance t with net := { s.net with ports := upd s.net.ports p fun y => { y with state := 2, retrains := [] } } }))
        ∧ (s.portPowered p = false ∨ x.state ≠ 4 → ServedWith (.portUpCommand t ses p) s ses (Books (s.advance t))))
      ∧ ∀ (prio : Fin 8) (quanta : Nat),
        (bit (s.nat (ob 0x2400 7)) prio.val = false → exec (.pfcPauseReceived t p ⟨prio, quanta⟩) s = .next (s.advance t))
        ∧ (bit (s.nat (ob 0x2400 7)) prio.val = true → Ends (.pfcPauseReceived t p ⟨prio, 0⟩) s fun u =>
            u.net.ports[p].paused = x.paused.filter (fun e => e.1 != prio)
            ∧ u.net.ports[p].waiting = x.waiting.filter (fun o => u.net.ports[p].holds o.priority)
            ∧ (∀ o ∈ x.waiting, o.priority = prio.val → o ∈ u.outbox) ∧ u = { s.advance t with net := { s.net with ports := u.net.ports }, outbox := u.outbox })
        ∧ (quanta ≠ 0 → bit (s.nat (ob 0x2400 7)) prio.val = true → (x.ignoring.any fun e => e.1 == prio) = false → (x.paused.any fun e => e.1 == prio) = false →
          exec (.pfcPauseReceived t p ⟨prio, quanta⟩) s = .next { s.advance t with net := { s.net with ports := upd s.net.ports p fun y =>
            { y with paused := y.paused ++ [(prio, (s.advance t).now)] } } })
        ∧ (quanta ≠ 0 → bit (s.nat (ob 0x2400 7)) prio.val = true → (x.ignoring.any fun e => e.1 == prio) = true → Ends (.pfcPauseReceived t p ⟨prio, quanta⟩) s fun u =>
            u.net.ports[p].paused = x.paused ∧ (prio, (s.advance t).now) ∈ u.net.ports[p].ignoring ∧ u = { s.advance t with net := u.net })
        ∧ ((∀ e ∈ x.paused, e.1 = prio → (s.advance t).now < e.2 + 1000000 * s.nat (ob 0x2400 8)) → exec (.pauseWatchdogTimeout t p prio) s = .next (s.advance t))
        ∧ (∀ c, (prio, c) ∈ x.paused → c + 1000000 * s.nat (ob 0x2400 8) ≤ (s.advance t).now → exec (.pauseWatchdogTimeout t p prio) s =
          .next ((({ s.advance t with net := { s.net with ports := upd s.net.ports p fun y =>
            { y with paused := y.paused.filter (fun e => e.1 != prio), ignoring := y.ignoring ++ [(prio, (s.advance t).now)] } } } : State).fault
              0x0F07 (.ofUnit p.val) (at_ 8 0 prio.val)).transmitWaiting p)
          ∧ (FaultRec.make 0x0F07 (.ofUnit p.val) (at_ 8 0 prio.val) 0 (s.advance t).now s.log.nextSeq).cls = 0)
        ∧ exec (.pauseQuietTimeout t p prio) s = .next { s.advance t with net := { s.net with ports := upd s.net.ports p fun y =>
            { y with ignoring := y.ignoring.filter fun e => e.1 != prio || decide ((s.advance t).now < 1000000000 + e.2) } } })
    ∧ (let recent := (s.net.pcieRetrains.filter fun r => decide ((s.advance t).now < 1000000000 + r)) ++ [(s.advance t).now]
      (s.net.pcieHeld = true → exec (.pcieLinkRetrain t) s = .next (s.advance t) ∧ (∀ speed lanes, exec (.pcieLinkUp t speed lanes) s = .next (s.advance t))
        ∧ exec (.pcieHotReset t) s = .next { s.advance t with net := { s.net with pcieHeld := false, pcieRetrains := [] } }
        ∧ ∀ ses : Session, WritesAct s ses →
          ServedWith (.linkUpCommand t ses) s ses (Books { s.advance t with net := { s.net with pcieHeld := false, pcieRetrains := [] } }))
      ∧ (s.net.pcieHeld = false → exec (.pcieHotReset t) s = .next (s.advance t)
        ∧ (∀ speed lanes : Nat, s.domainServes 52 = false → exec (.pcieLinkUp t speed lanes) s = .next (s.advance t))
        ∧ (∀ speed lanes : Nat, s.domainServes 52 = true → exec (.pcieLinkUp t speed lanes) s =
          .next { s.advance t with net := { s.net with pcieUp := true, pcieSpeed := speed % 256, pcieLanes := lanes % 256 } })
        ∧ (recent.length < 4 → exec (.pcieLinkRetrain t) s = .next (({ s.advance t with net := { s.net with pcieRetrains := recent } } : State).bump (ob 0x2500 2)))
        ∧ (4 ≤ recent.length → exec (.pcieLinkRetrain t) s =
          .next ((({ s.advance t with net := { s.net with pcieRetrains := recent, pcieHeld := true, pcieUp := false, pcieSpeed := 0, pcieLanes := 0 } } : State).bump
            (ob 0x2500 2)).fault 0x0F06 .chip (at_ 8 0 recent.length)))
        ∧ ∀ ses : Session, WritesAct s ses → ServedWith (.linkUpCommand t ses) s ses (Books (s.advance t))))

/-- O40. R49, R428: the host's consumer index frees the records up to it, lets held records into their entries of the window, and ends a drop episode; a full queue whose oldest record outlives the drain bound drops as many of its oldest records as it has no entry for, and counts them. -/
def Obligations.HostQueuesDrainOrDrop : Prop :=
  ∀ (s : State) (t : Nat) (q : Fin 16),
    let x := s.net.queues[q]
    let ring := s.nat (ob (0x2460 + q.val) 3)
    (∀ (ses : Session) (index : Nat), WritesAct s ses → index < ring → index < 2 ^ 32 →
      let freed := (index + ring - x.consumer % ring) % ring
      let room := ring - (x.times.drop freed).length
      let size := s.recordSize q
      (x.held = [] → ServedWith (.consumerIndexWrite t ses q index) s ses (Books { s.advance t with net := { s.net with queues := upd s.net.queues q fun y =>
        { y with consumer := index, times := y.times.drop freed, dropping := y.dropping && freed == 0, told := y.told && freed == 0 } } }))
      ∧ ServedWith (.consumerIndexWrite t ses q index) s ses fun u => u.net.queues[q].consumer = index
        ∧ u.net.queues[q].held = x.held.drop room
        ∧ u.net.queues[q].times = x.times.drop freed ++ List.replicate (min x.held.length room) (s.advance t).now
        ∧ (∀ k : Fin 16, k ≠ q → u.net.queues[k] = s.net.queues[k]) ∧ (size = 0 → u.mem = s.mem) ∧ u.log = s.log
        ∧ ∀ b, x.held = [b] → 0 < room → size ≠ 0 → (s.hostPlace q x.producer).inside size = true →
            u.load (s.hostPlace q x.producer) size = (padTo size (b.take size)).take size)
    ∧ (x.times = [] ∨ x.times.length < ring → exec (.hostQueueDrainTimeout t q) s = .next (s.advance t))
    ∧ ∀ first rest, x.times = first :: rest →
      ((s.advance t).now < first + 1000000 * s.nat (ob (0x2460 + q.val) 4) → exec (.hostQueueDrainTimeout t q) s = .next (s.advance t))
      ∧ (ring ≤ x.times.length → first + 1000000 * s.nat (ob (0x2460 + q.val) 4) ≤ (s.advance t).now →
        (x.held = [] → x.times.length = ring → exec (.hostQueueDrainTimeout t q) s =
          .next { s.advance t with net := { s.net with queues := upd s.net.queues q fun y => { y with dropping := true, held := [] } } })
        ∧ (x.held ≠ [] → Ends (.hostQueueDrainTimeout t q) s fun u => u.net.queues[q].dropping = true ∧ u.net.queues[q].held = []
          ∧ u.net.queues[q].dropped = (x.dropped + (x.times.length + x.held.length - ring)) % 2 ^ 64 ∧ u.net.queues[q].told = true
          ∧ u.net.queues[q].times = x.times.drop (x.times.length + x.held.length - ring) ++ List.replicate (min x.held.length ring) (s.advance t).now
          ∧ (s.recordSize q = 0 → u.mem = s.mem) ∧ u.launch = s.launch))

/-! ## Basaris -/

/-- O41. R126, R127, R128, R130, R131, R139, R423: a frame sent carries its header with the weft count of sending, its tag and its priority; a received frame that is not enabled, has no powered port, has a wrong header, names no session or carries a wrong tag changes no session and no memory; an unknown type is counted and recorded at most once a second; a session opens under its provisioning key and its limit, is kept alive, closes, times out; a new port or a disable closes every session once. -/
def Obligations.BasarisSessionsOpenServeAndClose : Prop :=
  (∀ (s : State) (t : Nat) (f : BFrame),
    let all := [Instr.sessionOpenRequest t f, .sessionOpenResponse t f, .sessionClose t f, .keepAlive t f, .readRequest t f, .writeRequest t f, .emergencyAcknowledge t f,
      .launchProposal t f, .launchAcknowledge t f, .launchConfirm t f, .launchConfirmResponse t f, .launchAbort t f, .unrecognisedBasarisFrame t f]
    (∀ c ∈ all,
      (s.basaris.enabled = false ∨ s.ethernetPowered = false → exec c s = .next (s.advance t))
      ∧ ((bfMagic f ≠ 0xBA5A ∨ bfVersion f ≠ 1 ∨ (bfType f ≠ 1 ∧ bfType f ≠ 2 ∧ (s.findSession f = none ∨ (∃ b, s.findSession f = some b
            ∧ (s.payloadLimit f.source < bfLength f ∨ bfLength f ≠ f.payload.length ∨ f.tag ≠ frameTag b.key f))))) →
          Ends c s fun u => u.basaris.sessions.map (fun b => (b.num, b.key, b.peer, b.ours, b.lastSeq, b.lastAt)) =
              s.basaris.sessions.map (fun b => (b.num, b.key, b.peer, b.ours, b.lastSeq, b.lastAt))
            ∧ u.launch = s.launch ∧ u.mem = s.mem ∧ u.commit = s.commit ∧ u.server = s.server))
    ∧ (s.basaris.enabled = true → s.ethernetPowered = true → bfMagic f = 0xBA5A → bfVersion f = 1 → frameTypes.contains (bfType f) = false →
      ((∀ c, get? s.basaris.rejectedAt f.source = some c → 1000000000 + c ≤ (s.advance t).now) → exec (.unrecognisedBasarisFrame t f) s =
        .next (({ (s.advance t).bump (ob 0x2020 7) with basaris := { s.basaris with rejectedAt := put s.basaris.rejectedAt f.source (s.advance t).now } } : State).fault
          0x0E03 .chip (at_ 32 32 f.source ||| at_ 8 0 3)))
      ∧ (∀ c, get? s.basaris.rejectedAt f.source = some c → (s.advance t).now < 1000000000 + c → exec (.unrecognisedBasarisFrame t f) s =
        .next ((s.advance t).bump (ob 0x2020 7))))
    ∧ (s.basaris.enabled = true → s.ethernetPowered = true → bfMagic f = 0xBA5A → bfVersion f = 1 → bfType f = 1 → f.payload.length = 16 → bfLength f = 16 →
      ((s.raw (ob 0x2020 4)).all (fun b => b == 0) = true → exec (.sessionOpenRequest t f) s = .next (s.advance t))
      ∧ ((s.raw (ob 0x2020 4)).all (fun b => b == 0) = false → f.tag = frameTag (s.raw (ob 0x2020 4)) f →
        (s.nat (ob 0x2020 3) ≤ s.basaris.sessions.length → exec (.sessionOpenRequest t f) s = .next ((s.advance t).emit ((s.advance t).wire (s.raw (ob 0x2020 4)) f.source 0 0x02 1 (bfSequence f) 0x0E00000C [])))
        ∧ (s.basaris.sessions.length < s.nat (ob 0x2020 3) → Ends (.sessionOpenRequest t f) s fun u => ∃ nonce : Bytes, nonce.length = 16
          ∧ u.basaris.sessions = s.basaris.sessions ++ [{ num := s.basaris.nextNum, key := hmac (s.raw (ob 0x2020 4)) (ascii "BASARIS1" ++ f.payload ++ nonce), peer := f.source, ours := false, lastSeq := none, cache := [], lastAt := (s.advance t).now, txSeq := 0, emergencies := [] }]
          ∧ u.outbox = s.outbox ++ [(s.advance t).wire (s.raw (ob 0x2020 4)) f.source s.basaris.nextNum 0x02 1 (bfSequence f) 0 nonce]
          ∧ u = { s.advance t with basaris := u.basaris, service := u.service, outbox := u.outbox })))
    ∧ (∀ nonce, s.basaris.enabled = true → s.ethernetPowered = true → bfMagic f = 0xBA5A → bfVersion f = 1 → bfType f = 2 → get? s.basaris.opening f.source = some nonce → f.payload.length = 16 →
        bfLength f = 16 → bfStatus f = 0 → f.tag = frameTag (s.raw (ob 0x2020 4)) f →
        (s.nat (ob 0x2020 3) ≤ s.basaris.sessions.length → exec (.sessionOpenResponse t f) s =
          .next { s.advance t with basaris := { s.basaris with opening := del s.basaris.opening f.source } })
        ∧ (s.basaris.sessions.length < s.nat (ob 0x2020 3) → s.launch.state ≠ .proposed → Ends (.sessionOpenResponse t f) s fun u =>
        (∃ b ∈ u.basaris.sessions, b.num = bfSession f ∧ b.peer = f.source ∧ b.ours = true
          ∧ b.key = hmac (s.raw (ob 0x2020 4)) (ascii "BASARIS1" ++ nonce ++ f.payload))
        ∧ u.basaris.opening = del s.basaris.opening f.source ∧ u = { s.advance t with basaris := u.basaris }))
    ∧ (∀ b, FrameOf s f b 0x03 → Ends (.sessionClose t f) s fun u => u.basaris.sessions = s.basaris.sessions.filter (fun c => !c.same b)
        ∧ u = { s.advance t with basaris := u.basaris, dict := u.dict, server := u.server } ∧ u.dict.active = s.dict.active ∧ u.server.works = s.server.works)
    ∧ ∀ b, FrameOf s f b 0x09 → exec (.keepAlive t f) s = .next { s.advance t with basaris := { s.basaris with
        sessions := s.basaris.sessions.map fun c => if c.same b = true then { c with lastAt := (s.advance t).now } else c } })
  ∧ (∀ (s : State) (key : Bytes) (peer session type flags seq status : Nat) (payload : Bytes), ∃ h : BitVec 256,
      s.wire key peer session type flags seq status payload =
        .basaris (if 0x10 ≤ type ∧ type ≤ 0x13 then s.nat (ob 0x2400 9) else 4) peer h payload ((hmac key (leBytes 32 h.toNat ++ payload)).take 16)
      ∧ fld h 15 0 = 0xBA5A ∧ fld h 23 16 = 1 ∧ fld h 31 24 = type % 256 ∧ fld h 47 32 = flags % 2 ^ 16 ∧ fld h 63 48 = payload.length % 2 ^ 16
      ∧ fld h 95 64 = session % 2 ^ 32 ∧ fld h 127 96 = seq % 2 ^ 32 ∧ fld h 191 128 = s.now % 2 ^ 64 ∧ fld h 223 192 = status % 2 ^ 32 ∧ fld h 255 224 = 0)
  ∧ ∀ (s : State) (t : Nat),
    (∀ num : Nat,
      ((∀ b ∈ s.basaris.sessions, b.num = num → (s.advance t).now < b.lastAt + 1000000000 * s.nat (ob 0x2020 5)) → exec (.basarisSessionTimeout t num) s = .next (s.advance t))
      ∧ (∀ b, (s.basaris.sessions.find? fun b => b.num == num && decide (b.lastAt + 1000000000 * s.nat (ob 0x2020 5) ≤ (s.advance t).now)) = some b →
        Ends (.basarisSessionTimeout t num) s fun u => u.basaris.sessions = s.basaris.sessions.filter (fun c => !c.same b) ∧ u.mem = s.mem ∧ u.launch = s.launch ∧ u.log = s.log))
    ∧ (s.basaris.closing = false ∨ s.server.works.any Work.reconfigures = true → exec (.basarisReconfigure t) s = .next (s.advance t))
    ∧ (s.basaris.closing = true → s.server.works.any Work.reconfigures = false → Ends (.basarisReconfigure t) s fun u => u.basaris.sessions = [] ∧ u.basaris.port = s.nat (ob 0x2020 2)
        ∧ u.basaris.enabled = s.flag (ob 0x2020 1) ∧ u.basaris.closing = false ∧ u.mem = s.mem ∧ u.launch = s.launch ∧ u.dict.active = s.dict.active)

/-- O42. R43, R129, R130: a request above its session's last sequence number is taken once and answered, a read with the object's value, a write once it has taken effect; one already answered is answered again unchanged; a malformed one is answered with its code; an acknowledge clears its one record; an unacknowledged emergency is repeated, at most eight times. -/
def Obligations.BasarisRequestsAndEmergencies : Prop :=
  (∀ (s : State) (t : Nat) (f : BFrame) (b : BSession),
    let n := bfSequence f
    let newer := b.lastSeq = none ∨ ∃ l, b.lastSeq = some l ∧ l < n
    let touched := { s.advance t with basaris := { s.basaris with sessions := s.basaris.sessions.map fun c => if c.same b = true then { c with lastAt := (s.advance t).now } else c } }
    (∀ (write : Bool) (c : Instr), (write = false ∧ c = .readRequest t f) ∨ (write = true ∧ c = .writeRequest t f) → FrameOf s f b (if write = true then 0x05 else 0x04) →
      (∀ l a, b.lastSeq = some l → n ≤ l → get? b.cache n = some (some a) → exec c s = .next (touched.emit ((s.advance t).answerOut b n true a)))
      ∧ (∀ l, b.lastSeq = some l → n ≤ l → get? b.cache n = some none → exec c s = .next touched)
      ∧ (newer → (itemsOf write f.payload = none ∨ ∃ items, itemsOf write f.payload = some items ∧ 64 < items.length) →
        Ends c s fun u => u.outbox = s.outbox ++ [(s.advance t).answerOut b n false ⟨0x06, 0x06070010, [], []⟩] ∧ u = { s.advance t with basaris := u.basaris, outbox := u.outbox })
      ∧ (∀ it : Item, newer → itemsOf write f.payload = some [it] → rowOf (ob it.index it.sub) = none → ServerFree s (.basaris b.num) →
        Ends c s fun u => (∃ r : RespItem, r.code = missingCode (ob it.index it.sub) ∧ u.outbox.getLast? = some ((s.advance t).answerOut b n false ⟨0x06, 0, [r], []⟩))
          ∧ u.mem = s.mem ∧ u.launch = s.launch ∧ u.commit = s.commit))
    ∧ (∀ (it : Item) (r : Row), newer → it.offset = 0 → ob it.index it.sub ∈ quietKeys → rowOf (ob it.index it.sub) = some r → ServerFree s (.basaris b.num) →
      (FrameOf s f b 0x04 → itemsOf false f.payload = some [it] → it.staged = false → r.ty.size ≤ it.length → Ends (.readRequest t f) s fun u =>
        (∃ a : RespItem, a.index = it.index ∧ a.sub = it.sub ∧ a.code = 0 ∧ a.data = r.ty.encode (s.obj (ob it.index it.sub))
          ∧ u.outbox.getLast? = some ((s.advance t).answerOut b n false ⟨0x06, 0, [a], []⟩)) ∧ u.mem = s.mem ∧ u.launch = s.launch ∧ u.commit = s.commit)
      ∧ ∀ v : Val, FrameOf s f b 0x05 → itemsOf true f.payload = some [it] → it.data = r.ty.encode v → r.ty.fits v = true → r.rng.ok v = true → WritesAct s (.basaris b.num) →
        Ends (.writeRequest t f) s fun u => (∃ a : RespItem, a.index = it.index ∧ a.sub = it.sub ∧ a.code = 0 ∧ a.data = []
          ∧ u.outbox.getLast? = some ((s.advance t).answerOut b n false ⟨0x06, 0, [a], []⟩))
          ∧ u.obj (ob it.index it.sub) = ((s.advance t).setObj (ob it.index it.sub) v).obj (ob it.index it.sub) ∧ u.mem = s.mem ∧ u.launch = s.launch)
    ∧ (FrameOf s f b 0x08 → f.payload.length = 4 → Ends (.emergencyAcknowledge t f) s fun u =>
        u.log.unacked = s.log.unacked.filter (fun q => q != leNat f.payload) ∧ u.log.ring = s.log.ring ∧ u.mem = s.mem ∧ u.launch = s.launch
        ∧ u.basaris.sessions = s.basaris.sessions.map fun c => if c.same b = true then
            { c with lastAt := (s.advance t).now, emergencies := c.emergencies.filter fun e => e.rcd.seq != leNat f.payload } else c))
  ∧ ∀ (s : State) (t num seq : Nat),
    ((∀ b ∈ s.basaris.sessions, b.num = num → ∀ e ∈ b.emergencies, e.rcd.seq = seq → (s.advance t).now < e.nextAt) → exec (.emergencyRepeat t num seq) s = .next (s.advance t))
    ∧ ∀ b e, (s.basaris.sessions.find? fun b => b.num == num && b.emergencies.any fun e => e.rcd.seq == seq && decide (e.nextAt ≤ (s.advance t).now)) = some b →
      (b.emergencies.find? fun e => e.rcd.seq == seq) = some e → s.ethernetPowered = true → Ends (.emergencyRepeat t num seq) s fun u =>
        u.outbox = s.outbox ++ [(s.advance t).wire b.key b.peer num 0x07 2 e.frame 0 e.rcd.bytes] ∧ u = { s.advance t with basaris := { s.basaris with sessions := u.basaris.sessions }, outbox := u.outbox }
        ∧ u.basaris.sessions = s.basaris.sessions.map fun c => if c.same b = true then
          { c with emergencies := if 8 ≤ e.sent + 1 then c.emergencies.filter (fun x => x.rcd.seq != seq)
                   else c.emergencies.map fun x => if x.rcd.seq = seq then { x with sent := e.sent + 1, nextAt := 100000000 + (s.advance t).now } else x } else c

/-! ## Launches and beats -/

/-- O43. R93 to R95, R131: a member answers a proposal by R93, and refuses one while a launch is confirmed, takes a confirmation and an abort of the launch it acknowledged, and answers each; the leader counts acknowledgements, confirms once none is missing, repeats every 1 ms to those that have not answered, aborts for a missing acknowledgement; at the abort deadline a confirmed launch is final and any other is dropped. -/
def Obligations.LaunchGroupsAgree : Prop :=
  (∀ (s : State) (t : Nat) (f : BFrame) (b : BSession),
    let newer := b.lastSeq = none ∨ ∃ l, b.lastSeq = some l ∧ l < bfSequence f
    let answered := fun (u : State) (type : Nat) (payload : Bytes) => u.outbox = s.outbox ++ [(s.advance t).answerOut b (bfSequence f) false ⟨type, 0, [], payload⟩]
      ∧ u = { s.advance t with basaris := { s.basaris with sessions := u.basaris.sessions }, launch := u.launch, service := u.service, outbox := u.outbox }
    (FrameOf s f b 0x10 → b.ours = false → f.payload.length = 80 → newer →
      let count := leAt f.payload 0 8
      let ok := s.launch.state ≠ .confirmed ∧ (s.advance t).launchRefused s.launch.image = false
        ∧ (s.advance t).meetsR93 count ((f.payload.drop 8).take 32) ((f.payload.drop 40).take 32) (leAt f.payload 72 1) (leAt f.payload 73 1) = true
      (ok → Ends (.launchProposal t f) s fun u => answered u 0x11 (leBytes 8 count ++ leBytes 4 0) ∧ u.launch.state = .acknowledged ∧ u.launch.count = count
        ∧ u.launch.leader = false ∧ u.launch.session = b.num ∧ u.launch.run = s.launch.run ∧ u.service = { s.service with auto := false })
      ∧ (¬ ok → Ends (.launchProposal t f) s fun u => answered u 0x11 (leBytes 8 count ++ leBytes 4 0x08000022) ∧ u.launch = s.launch ∧ u.service = s.service))
    ∧ (FrameOf s f b 0x12 → b.ours = false → f.payload.length = 8 → newer →
      (s.launch.state = .acknowledged → s.launch.session = b.num → leAt f.payload 0 8 = s.launch.count → 1000000 + (s.advance t).now < s.launch.count →
        (s.advance t).launchRefused s.launch.image = false →
        Ends (.launchConfirm t f) s fun u => answered u 0x06 [] ∧ u.launch = { s.launch with state := .confirmed } ∧ u.service = s.service)
      ∧ (((s.advance t).launchRefused s.launch.image = true ∨ s.launch.state ≠ .acknowledged ∨ s.launch.session ≠ b.num ∨ leAt f.payload 0 8 ≠ s.launch.count ∨ s.launch.count ≤ 1000000 + (s.advance t).now) →
        Ends (.launchConfirm t f) s fun u => answered u 0x06 [] ∧ u.launch = s.launch ∧ u.service = s.service))
    ∧ (FrameOf s f b 0x13 → b.ours = false → f.payload.length = 8 → newer →
      (s.launch.state = .acknowledged ∨ s.launch.state = .confirmed → s.launch.leader = false → s.launch.session = b.num → leAt f.payload 0 8 = s.launch.count →
        1000000 + (s.advance t).now < s.launch.count →
        Ends (.launchAbort t f) s fun u => answered u 0x06 [] ∧ u.launch.state = .aborted ∧ u.launch.run = s.launch.run)
      ∧ (leAt f.payload 0 8 ≤ 1000000 + (s.advance t).now → Ends (.launchAbort t f) s fun u => answered u 0x06 [] ∧ u.launch = s.launch ∧ u.service = s.service))
    ∧ (FrameOf s f b 0x11 → b.ours = true → f.payload.length = 12 → s.launch.state = .proposed → s.launch.leader = true → leAt f.payload 0 8 = s.launch.count →
      (leAt f.payload 8 4 = 0 → (s.launch.needAck.filter fun p => p != b.peer) ≠ [] → Ends (.launchAcknowledge t f) s fun u =>
        u.launch = { s.launch with needAck := s.launch.needAck.filter fun p => p != b.peer } ∧ u.outbox = s.outbox)
      ∧ (leAt f.payload 8 4 = 0 → (s.launch.needAck.filter fun p => p != b.peer) = [] → Ends (.launchAcknowledge t f) s fun u =>
        u.launch = { s.launch with state := .confirmed, needAck := [], repeatAt := some (s.advance t).now } ∧ u.mem = s.mem)
      ∧ (leAt f.payload 8 4 ≠ 0 → Ends (.launchAcknowledge t f) s fun u => u.launch = s.launch ∧ u.outbox = s.outbox))
    ∧ (FrameOf s f b 0x06 → b.ours = true → Ends (.launchConfirmResponse t f) s fun u => u.outbox = s.outbox ∧ u.mem = s.mem
        ∧ u.launch = (if s.launch.state = .confirmed ∧ s.launch.leader = true then { s.launch with needResp := s.launch.needResp.filter fun p => p != b.peer } else s.launch)))
  ∧ ∀ (s : State) (t : Nat),
    (s.launch.state ≠ .confirmed ∨ s.launch.leader = false ∨ s.launch.count ≤ 1000000 + (s.advance t).now ∨ (s.advance t).due s.launch.repeatAt 1000000 = false →
      exec (.launchConfirmRepeat t) s = .next (s.advance t))
    ∧ (∀ p b, s.launch.state = .confirmed → s.launch.leader = true → 1000000 + (s.advance t).now < s.launch.count → (s.advance t).due s.launch.repeatAt 1000000 = true → s.launch.needResp = [p] → s.sessionTo p = some b → s.ethernetPowered = true →
      Ends (.launchConfirmRepeat t) s fun u => u.outbox = s.outbox ++ [(s.advance t).wire b.key b.peer b.num 0x12 0 b.txSeq 0 (leBytes 8 s.launch.count)]
        ∧ u.launch = { s.launch with repeatAt := some (s.advance t).now } ∧ u.mem = s.mem)
    ∧ (s.launch.state ≠ .proposed ∨ s.launch.leader = false ∨ s.launch.needAck = [] ∨ 11000000 + (s.advance t).now < s.launch.count →
      exec (.launchAckTimeout t) s = .next (s.advance t))
    ∧ (s.launch.state = .proposed → s.launch.leader = true → s.launch.needAck ≠ [] → s.launch.count ≤ 11000000 + (s.advance t).now →
      Ends (.launchAckTimeout t) s fun u => u.launch.state = .aborted ∧ u.launch.run = s.launch.run ∧ u.launch.needAck = [] ∧ u.mem = s.mem ∧ u.log = s.log)
    ∧ (1000000 + (s.advance t).now < s.launch.count → exec (.launchAbortDeadline t) s = .next (s.advance t))
    ∧ (s.launch.count ≤ 1000000 + (s.advance t).now →
      (s.launch.state = .confirmed → exec (.launchAbortDeadline t) s = .next { s.advance t with launch := { s.launch with final := true } })
      ∧ (s.launch.state = .proposed ∨ s.launch.state = .acknowledged → exec (.launchAbortDeadline t) s = .next { s.advance t with launch := { s.launch with
          state := .aborted, needAck := [], needResp := [], final := false, count := match s.launch.run with
            | some r => r.start
            | none => s.launch.count } }))

/-- O44. R27, R73, R78 to R82, R85, R94, R331, R474, R480: before its count nothing starts and no beat passes; a confirmed launch begins beat 0 at its count with zero accumulators and the pending values active, unless its launch is refused by then; at a release count every complete output of class I leaves in the order of its index, with what the release buffers hold for it, one declared late moves to its late count, and the next beat begins; a relaunch begins the staged image at its count; autolaunch proposes the first whole millisecond that lies the margin ahead. -/
def Obligations.LaunchesStartAndBeatsPass : Prop :=
  ∀ (s : State) (t : Nat), s.server.works = [] → s.power.latched = none → s.commit.group = none → s.commit.implicit = [] → s.commit.instant = [] →
    (∀ cams, s.launch.state ≠ .confirmed ∨ s.launch.image = none ∨ (s.advance t).now < s.launch.count → exec (.launchStart t cams) s = .next (s.advance t))
    ∧ (∀ cams im, s.launch.state = .confirmed → s.launch.image = some im → s.launch.count ≤ (s.advance t).now → (s.advance t).launchRefused (some im) = true →
        exec (.launchStart t cams) s = .next { s.advance t with launch := { s.launch with state := .aborted, needAck := [], needResp := [], final := false, count := match s.launch.run with
            | some r => r.start
            | none => s.launch.count } })
    ∧ (∀ cams im, s.launch.state = .confirmed → s.launch.image = some im → s.launch.count ≤ (s.advance t).now → (s.advance t).launchRefused (some im) = false → Ends (.launchStart t cams) s fun u =>
        (∃ run, u.launch.run = some run ∧ run.start = s.launch.count ∧ run.beat = 0 ∧ run.paused = false) ∧ u.launch.count = s.launch.count ∧ u.launch.image = some im
        ∧ (u.launch.state = .running ∨ u.launch.state = .holdover) ∧ u.commit.pending = [] ∧ u.commit.owner = none
        ∧ (∀ (r : Fin 10) (b : Fin 18), (u.block r b).acc = [])
        ∧ (StoresNothing im → (s.power.interleave = [0, 1, 2, 3].filter fun k => !s.power.stacksOut.contains k) → u.mem = s.mem))
    ∧ (s.launch.run = none → ∀ reports samples, exec (.releaseCount t reports samples) s = .next (s.advance t))
    ∧ (∀ run, s.launch.run = some run →
      (∀ reports samples, (s.advance t).now < run.countOf (run.beat + 1) → exec (.releaseCount t reports samples) s = .next (s.advance t))
      ∧ (∀ im, run.countOf (run.beat + 1) ≤ (s.advance t).now → run.paused = false → run.endNext = false → run.endAt = none → run.pauseAt = none → run.resumeAt = none →
        s.launch.image = some im → im.hostOutputs = [] → StoresNothing im → (∀ n : Fin 24, s.streams[n].cut = none) → s.launch.deferred = [] →
        (s.launch.buffered = [] → ∀ samples, Ends (.releaseCount t [] samples) s fun u => u.launch.run = some { run with beat := run.beat + 1 } ∧ u.launch.state = s.launch.state ∧ u.mem = s.mem)
        ∧ (∀ (a b : Report) (samples : List AxisSample), a.cls = 2 → b.cls = 2 → a.out < b.out → s.launch.buffered = [] → s.launch.late = [] → a.primary.complete = true → b.primary.complete = true →
          a.primary.invalid = false → b.primary.invalid = false → a.shadow = none → b.shadow = none →
          (∃ x, a.primary.payload = .fields x) → (∃ x, b.primary.payload = .fields x) →
          Ends (.releaseCount t [b, a] samples) s fun u => (∃ rest, u.outbox = s.outbox ++ .released (run.countOf (run.beat + 1)) a.out 2 0 a.primary.payload
              :: .released (run.countOf (run.beat + 1)) b.out 2 0 b.primary.payload :: rest)
            ∧ u.launch.run = some { run with beat := run.beat + 1 } ∧ u.mem = s.mem)
        ∧ (∀ (a : Report) (samples : List AxisSample), a.cls = 2 → a.primary.complete = true → a.primary.invalid = false → a.shadow = none → (∃ x, a.primary.payload = .fields x) →
          s.launch.late = [] → s.launch.buffered = [⟨run.beat + 1, a⟩] → Ends (.releaseCount t [] samples) s fun u =>
            (∃ rest, u.outbox = s.outbox ++ .released (run.countOf (run.beat + 1)) a.out 2 0 a.primary.payload :: rest)
            ∧ u.launch.buffered = [] ∧ u.launch.run = some { run with beat := run.beat + 1 } ∧ u.mem = s.mem)
        ∧ (∀ (a : Report) (samples : List AxisSample) (m : Nat), a.cls = 1 ∨ a.cls = 2 → run.beat + 1 < m → s.launch.late = [⟨a.out, run.beat + 1, m⟩] → s.launch.buffered = [] →
          Ends (.releaseCount t [a] samples) s fun u => u.launch.buffered = [⟨m, a⟩] ∧ (∀ count cls source p, Output.released count a.out cls source p ∈ u.outbox →
            Output.released count a.out cls source p ∈ s.outbox) ∧ u.launch.run = some { run with beat := run.beat + 1 } ∧ u.mem = s.mem)))
    ∧ (s.service.imgStaged = none ∨ s.service.imgState ≠ 3 ∨ (s.advance t).now < s.nat (ob 0x5830 3) → exec (.relaunch t) s = .next (s.advance t))
    ∧ (∀ im, s.service.imgStaged = some im → s.service.imgState = 3 → s.nat (ob 0x5830 3) ≤ (s.advance t).now →
      ((s.advance t).launchRefused (some im) = false → Ends (.relaunch t) s fun u => u.launch.image = some im
        ∧ (∃ run, u.launch.run = some run ∧ run.start = s.nat (ob 0x5830 3) ∧ run.beat = 0) ∧ u.service.imgState = 0 ∧ u.service.imgStaged = none
        ∧ u.service.imgSlot = 1 - s.service.imgSlot
        ∧ (StoresNothing im → (s.power.interleave = [0, 1, 2, 3].filter fun k => !s.power.stacksOut.contains k) → u.mem = s.mem))
      ∧ ((s.advance t).launchRefused (some im) = true → Ends (.relaunch t) s fun u => u.launch.run = none ∧ u.launch.state = .aborted ∧ u.service.imgState = 4 ∧ u.mem = s.mem))
    ∧ (s.nat (ob 0x5800 5) = 0 ∨ s.launch.run.isSome = true ∨ s.service.bootState ≠ 1 ∨ s.service.beat0Due = false → exec (.autolaunch t) s = .next (s.advance t))
    ∧ (s.nat (ob 0x5800 5) = 1 → (s.advance t).group = [] → s.launch.run = none → s.launching = false → s.service.beat0Due = true → s.service.bootState = 1 →
      s.service.readyAt + s.nat (ob 0x5800 6) * 1000000 ≤ (s.advance t).now → (s.advance t).launchRefused s.launch.image = false →
      Ends (.autolaunch t) s fun u => u.launch.state = .confirmed ∧ u.launch.leader = true ∧ u.service.auto = true
        ∧ u.launch.count % 1000000 = 0 ∧ (s.advance t).now + 1000000 * s.nat (ob 0x3C00 7) ≤ u.launch.count
        ∧ u.launch.count < (s.advance t).now + 1000000 * s.nat (ob 0x3C00 7) + 1000000 ∧ u.mem = s.mem)

/-! ## The CANopen node, the mailbox and the dictionary port -/

/-- O45. R111, R137: the node hears only its own controller in its frame mode: a read or a write over SDO or USDO is served and answered, an aborted or stalled transfer ends, a block transfer is refused; NMT commands set its state; heartbeats leave at their interval; a PDO is exchanged only while the node is operational and the PDO valid, on its own controller (which one its parameters name is a free value: log entry 72). The identifiers of SDO and heartbeat frames and the codes of the NMT states are the model's (CiA 301). -/
def Obligations.TheCanopenNodeServes : Prop :=
  ∀ (s : State) (t : Nat) (ctl : Fin 4),
    (∀ req, s.nodeHears ctl 0 = false → exec (.sdoRequest t ctl req) s = .next (s.advance t))
    ∧ (∀ req, s.nodeHears ctl 1 = false → exec (.usdoRequest t ctl req) s = .next (s.advance t))
    ∧ (s.nodeHears ctl 0 = true → s.nodeSends = true →
      let heard := { s.advance t with can := upd s.can ctl fun x => { x with fifo := takeFirst x.fifo (0x600 + s.nodeId) } }
      exec (.sdoRequest t ctl .abort) s = .next { heard with node := { s.node with sdo := none } }
      ∧ exec (.sdoRequest t ctl .blockTransfer) s =
        .next ((({ heard with node := { s.node with sdo := none } } : State).emit (.sdo (0x580 + s.nodeId) 0 0 0x08000022 [])).bump (ob (0x2380 + s.nodeCtl.val) 4))
      ∧ (∀ index sub size, exec (.sdoRequest t ctl (.downloadInit index sub size)) s =
        .next ((({ heard with node := { s.node with sdo := some ⟨ob index sub, false, [], size, false, (s.advance t).now⟩ } } : State).emit (.sdo (0x580 + s.nodeId) index sub 0 [])).bump
          (ob (0x2380 + s.nodeCtl.val) 4)))
      ∧ (∀ (x : SdoXfer) (data : Bytes), s.node.sdo = some x → x.upload = false → exec (.sdoRequest t ctl (.downloadSegment x.toggle data false)) s =
        .next ((({ heard with node := { s.node with sdo := some { x with data := x.data ++ data, toggle := !x.toggle, since := (s.advance t).now } } } : State).emit
          (.sdo (0x580 + s.nodeId) (x.key / 256) (x.key % 256) 0 [])).bump (ob (0x2380 + s.nodeCtl.val) 4)))
      ∧ (∀ x : SdoXfer, s.node.sdo = some x → x.upload = true → x.sent + 7 < x.data.length → exec (.sdoRequest t ctl (.uploadSegment x.toggle)) s =
        .next ((({ heard with node := { s.node with sdo := some { x with sent := x.sent + 7, toggle := !x.toggle, since := (s.advance t).now } } } : State).emit
          (.sdo (0x580 + s.nodeId) (x.key / 256) (x.key % 256) 0 ((x.data.drop x.sent).take 7))).bump (ob (0x2380 + s.nodeCtl.val) 4)))
      ∧ (∀ index sub, index < 2 ^ 16 → sub < 256 → rowOf (ob index sub) = none → ServerFree s (.can s.nodeId) →
        (Ends (.sdoRequest t ctl (.uploadInit index sub)) s fun u => u.outbox = s.outbox ++ [.sdo (0x580 + s.nodeId) index sub (missingCode (ob index sub)) []] ∧ u.mem = s.mem ∧ u.launch = s.launch)
        ∧ ∀ data, Ends (.sdoRequest t ctl (.downloadExpedited index sub data)) s fun u => u.outbox = s.outbox ++ [.sdo (0x580 + s.nodeId) index sub (missingCode (ob index sub)) []]
          ∧ u.mem = s.mem ∧ u.launch = s.launch))
    ∧ (s.nodeHears ctl 1 = true → s.nodeSends = true → ∀ (k : Key) (r : Row), k ∈ quietKeys → rowOf k = some r → ServerFree s (.can s.nodeId) →
      (Ends (.usdoRequest t ctl (.read (k / 256) (k % 256))) s fun u => u.outbox = s.outbox ++ [.sdo (0x580 + s.nodeId) (k / 256) (k % 256) 0 (r.ty.encode (s.obj k))]
        ∧ u.mem = s.mem ∧ u.launch = s.launch ∧ u.commit = s.commit)
      ∧ ∀ v : Val, r.ty.fits v = true → r.rng.ok v = true → WritesAct s (.can s.nodeId) →
        Ends (.usdoRequest t ctl (.write (k / 256) (k % 256) (r.ty.encode v))) s fun u => u.outbox = s.outbox ++ [.sdo (0x580 + s.nodeId) (k / 256) (k % 256) 0 []]
          ∧ u.obj k = ((s.advance t).setObj k v).obj k ∧ u.mem = s.mem ∧ u.launch = s.launch)
    ∧ (s.node.sdo = none → exec (.sdoTimeout t) s = .next (s.advance t))
    ∧ (∀ x : SdoXfer, s.node.sdo = some x → s.nodeSends = true → exec (.sdoTimeout t) s =
      .next ((({ s.advance t with node := { s.node with sdo := none } } : State).emit (.sdo (0x580 + s.nodeId) (x.key / 256) (x.key % 256) 0x05040000 [])).bump (ob (0x2380 + s.nodeCtl.val) 4)))
    ∧ (∀ (node : Nat) (cmd : NmtCmd),
      (s.nodeCtl ≠ ctl ∨ s.canLive ctl = false ∨ (node ≠ 0 ∧ node ≠ s.nodeId) → exec (.nmtCommand t ctl node cmd) s = .next (s.advance t))
      ∧ (s.nodeCtl = ctl → s.canLive ctl = true → node = 0 ∨ node = s.nodeId →
        let heard := { s.advance t with can := upd s.can ctl fun x => { x with fifo := takeFirst x.fifo 0 } }
        exec (.nmtCommand t ctl node .start) s = .next { heard with node := { s.node with nmt := .operational } }
        ∧ exec (.nmtCommand t ctl node .stop) s = .next { heard with node := { s.node with nmt := .stopped } }
        ∧ exec (.nmtCommand t ctl node .preOperational) s = .next { heard with node := { s.node with nmt := .preOperational } }
        ∧ ∀ c, c = NmtCmd.resetNode ∨ c = NmtCmd.resetCommunication → Ends (.nmtCommand t ctl node c) s fun u => u.node.nmt = .preOperational ∧ u.node.sdo = none
          ∧ u.node.heartbeatAt = (s.advance t).now ∧ (s.nodeSends = true → u.outbox = s.outbox ++ [.heartbeat (0x700 + s.nodeId) 0]) ∧ u.mem = s.mem ∧ u.launch = s.launch))
    ∧ (s.nat (ob 0x1017 0) = 0 ∨ (s.advance t).now < s.node.heartbeatAt + s.nat (ob 0x1017 0) * 1000000 → exec (.heartbeat t) s = .next (s.advance t))
    ∧ (s.nat (ob 0x1017 0) ≠ 0 → s.node.heartbeatAt + s.nat (ob 0x1017 0) * 1000000 ≤ (s.advance t).now → s.nodeSends = true → exec (.heartbeat t) s =
      .next ((({ s.advance t with node := { s.node with heartbeatAt := (s.advance t).now } } : State).emit (.heartbeat (0x700 + s.nodeId) (match s.node.nmt with
        | .preOperational => 0x7F
        | .operational => 0x05
        | .stopped => 0x04))).bump (ob (0x2380 + s.nodeCtl.val) 4)))
    ∧ ∀ n : Fin 16,
      (bit (s.nat (ob (0x1800 + n.val) 1)) 31 = true ∨ s.node.nmt ≠ .operational → exec (.tpdoTransmit t n) s = .next (s.advance t))
      ∧ (bit (s.nat (ob (0x1800 + n.val) 1)) 31 = false → s.node.nmt = .operational → s.ctlSends (s.pdoCtl (0x1800 + n.val)) = true →
        let ctl := s.pdoCtl (0x1800 + n.val)
        let sent := fun data : Bytes => Host.Outcome.next (((s.advance t).emit (.canFrame ctl.val (s.nat (ob (0x1800 + n.val) 1) % 2 ^ 29) data)).bump (ob (0x2380 + ctl.val) 4))
        (s.pdoMap (0x1A00 + n.val) = [] → exec (.tpdoTransmit t n) s = sent [])
        ∧ ∀ (k : Key) (r : Row) (w : Nat), k ∈ quietKeys → rowOf k = some r → s.pdoMap (0x1A00 + n.val) = [(k, w)] →
          exec (.tpdoTransmit t n) s = sent ((r.ty.encode (s.obj k) ++ List.replicate w 0).take w))
      ∧ (∀ data, bit (s.nat (ob (0x1400 + n.val) 1)) 31 = true ∨ s.node.nmt ≠ .operational ∨ s.canLive (s.pdoCtl (0x1400 + n.val)) = false
          ∨ data.length < ((s.pdoMap (0x1600 + n.val)).map fun e => e.2).sum →
        exec (.rpdoReceived t n data) s = .next (s.advance t))
      ∧ (∀ (k : Key) (r : Row) (v : Val), k ∈ quietKeys → rowOf k = some r → r.ty.fits v = true → r.rng.ok v = true → WritesAct s (.can s.nodeId) →
        bit (s.nat (ob (0x1400 + n.val) 1)) 31 = false → s.node.nmt = .operational → s.canLive (s.pdoCtl (0x1400 + n.val)) = true →
        s.pdoMap (0x1600 + n.val) = [(k, (r.ty.encode v).length)] →
        Ends (.rpdoReceived t n (r.ty.encode v)) s fun u => u.obj k = ((s.advance t).setObj k v).obj k ∧ u.mem = s.mem ∧ u.launch = s.launch ∧ u.outbox = s.outbox)

/-- O46. R132 to R135: a doorbell of a disabled mailbox changes its registers only, of a busy one raises error 1, of a bad length error 2, of a bad type or bad items error 3; a well-formed request, a read, a write or one of an object that is not there, is served and answered in its area with the sequence number; the emergency tail is the host's; the dictionary port of a core answers its items. -/
def Obligations.MailboxAndPortServe : Prop :=
  (∀ (s : State) (t seq : Nat) (ctrl : BitVec 32) (area : Bytes) (length : Nat),
    let request := (area ++ s.mbx.request.drop area.length).take 4096
    let wrote := { s.mbx with seq := seq % 2 ^ 32, ctrl := ctrl, request := request }
    let type := leAt (firstBytes request length) 0 1
    (s.nat (ob 0x2020 8) = 0 → exec (.mbxDoorbell t seq ctrl area length) s = .next { s.advance t with mbx := wrote })
    ∧ (s.nat (ob 0x2020 8) ≠ 0 → s.mbx.busy = true → exec (.mbxDoorbell t seq ctrl area length) s = .next { s.advance t with mbx := { wrote with error := 1 } })
    ∧ (s.nat (ob 0x2020 8) ≠ 0 → s.mbx.busy = false →
      (length < 4 ∨ 4096 < length → exec (.mbxDoorbell t seq ctrl area length) s = .next { s.advance t with mbx := { wrote with respReady := false, error := 2 } })
      ∧ (4 ≤ length → length ≤ 4096 → type ≠ 4 → type ≠ 5 → exec (.mbxDoorbell t seq ctrl area length) s = .next { s.advance t with mbx := { wrote with respReady := false, error := 3 } })
      ∧ (4 ≤ length → length ≤ 4096 → type = 4 ∨ type = 5 → itemsOf (type == 5) ((firstBytes request length).drop 4) = none →
        exec (.mbxDoorbell t seq ctrl area length) s = .next { s.advance t with mbx := { wrote with respReady := false, error := 3 } })
      ∧ (∀ it : Item, 4 ≤ length → length ≤ 4096 → type = 4 ∨ type = 5 → itemsOf (type == 5) ((firstBytes request length).drop 4) = some [it] →
        rowOf (ob it.index it.sub) = none → ServerFree s .pcie →
        Ends (.mbxDoorbell t seq ctrl area length) s fun u => u.mbx.busy = false ∧ u.mbx.respReady = true ∧ u.mbx.error = 0 ∧ u.mbx.response.take 4 = leBytes 4 (seq % 2 ^ 32)
          ∧ leAt u.mbx.response 16 4 = missingCode (ob it.index it.sub) ∧ u.mem = s.mem ∧ u.launch = s.launch ∧ u.commit = s.commit)
      ∧ (∀ (it : Item) (r : Row), 4 ≤ length → length ≤ 4096 → it.offset = 0 → ob it.index it.sub ∈ quietKeys → rowOf (ob it.index it.sub) = some r → ServerFree s .pcie →
        let done := fun u : State => u.mbx.busy = false ∧ u.mbx.respReady = true ∧ u.mbx.error = 0 ∧ u.mbx.response.take 4 = leBytes 4 (seq % 2 ^ 32)
          ∧ leAt u.mbx.response 16 4 = 0 ∧ u.mbx.respLen = u.mbx.response.length ∧ u.mem = s.mem ∧ u.launch = s.launch
        (type = 4 → itemsOf false ((firstBytes request length).drop 4) = some [it] → it.staged = false → r.ty.size ≤ it.length → r.ty.fits (s.obj (ob it.index it.sub)) = true →
          Ends (.mbxDoorbell t seq ctrl area length) s fun u => done u ∧ leAt u.mbx.response 20 r.ty.size = leNat (r.ty.encode (s.obj (ob it.index it.sub))) ∧ u.commit = s.commit)
        ∧ ∀ v : Val, type = 5 → itemsOf true ((firstBytes request length).drop 4) = some [it] → it.data = r.ty.encode v → r.ty.fits v = true → r.rng.ok v = true →
          WritesAct s .pcie → Ends (.mbxDoorbell t seq ctrl area length) s fun u => done u
            ∧ u.obj (ob it.index it.sub) = ((s.advance t).setObj (ob it.index it.sub) v).obj (ob it.index it.sub)))
    ∧ ∀ tail : Nat, exec (.emcyTailWrite t tail) s = .next { s.advance t with mbx := { s.mbx with tail := ⟨tail % 128, Nat.mod_lt _ (by decide)⟩ } })
  ∧ ∀ (s : State) (t : Nat) (core : Fin 12) (buffer : Bytes) (length : Nat),
    let area := (buffer ++ s.ports[core].drop buffer.length).take 4096
    let body := firstBytes area (min length 4096)
    (length < 4 ∨ 4096 < length ∨ (leAt body 0 1 ≠ 4 ∧ leAt body 0 1 ≠ 5) → exec (.dictionaryPortDoorbell t core buffer length) s =
      .next { s.advance t with ports := s.ports.set core area, outbox := s.outbox ++ [.portItems core []] })
    ∧ (∀ it : Item, 4 ≤ length → length ≤ 4096 → leAt body 0 1 = 4 ∨ leAt body 0 1 = 5 → itemsOf (leAt body 0 1 == 5) (body.drop 4) = some [it] →
      rowOf (ob it.index it.sub) = none → ServerFree s (.core core) → Ends (.dictionaryPortDoorbell t core buffer length) s fun u =>
        (∃ r : RespItem, r.code = missingCode (ob it.index it.sub) ∧ u.outbox = s.outbox ++ [.portItems core [r]]) ∧ u.mem = s.mem ∧ u.launch = s.launch ∧ u.commit = s.commit)
    ∧ (∀ (it : Item) (r : Row), 4 ≤ length → length ≤ 4096 → it.offset = 0 → ob it.index it.sub ∈ quietKeys → rowOf (ob it.index it.sub) = some r → ServerFree s (.core core) →
      (leAt body 0 1 = 4 → itemsOf false (body.drop 4) = some [it] → it.staged = false → r.ty.size ≤ it.length → Ends (.dictionaryPortDoorbell t core buffer length) s fun u =>
        (∃ a : RespItem, a.code = 0 ∧ a.data = r.ty.encode (s.obj (ob it.index it.sub)) ∧ u.outbox = s.outbox ++ [.portItems core [a]]) ∧ u.mem = s.mem ∧ u.launch = s.launch
          ∧ u.commit = s.commit)
      ∧ ∀ v : Val, leAt body 0 1 = 5 → itemsOf true (body.drop 4) = some [it] → it.data = r.ty.encode v → r.ty.fits v = true → r.rng.ok v = true →
        WritesAct s (.core core) → Ends (.dictionaryPortDoorbell t core buffer length) s fun u =>
          (∃ a : RespItem, a.code = 0 ∧ u.outbox = s.outbox ++ [.portItems core [a]])
          ∧ u.obj (ob it.index it.sub) = ((s.advance t).setObj (ob it.index it.sub) v).obj (ob it.index it.sub) ∧ u.mem = s.mem ∧ u.launch = s.launch)

/-! ## Descriptors of the blocks: queues, transfers, cells, repairs -/

/-- O47. R147 to R149, R151, R154 to R156, R158, R163 to R167, R359, R361: a descriptor for a region whose logic is off, or for a full queue, changes nothing (the model's choice, log entry 66); one that arrives at an idle queue with an admitted header starts at once, or waits there until it may. A transfer whose header is refused, whose addresses lie outside or whose accesses the partition map refuses ends with its status and moves no byte, and so does one that reads lost data; a transfer that runs leaves at its destination exactly the bytes of its source, or hands them with release_hold to the release buffer, writes its status record, and leaves every other byte as it was; a cached read serves what its line holds. Where several causes refuse a header, the order in which they are looked at is the model's choice (log entry 60). -/
def Obligations.TransfersMoveExactlyTheirBytes : Prop :=
  (∀ (s : State) (c : Instr) (k : Route) (h : BitVec 128), (s.advance c.time).routeOf c = some k → descHeader c = some h →
    let s1 := s.advance c.time
    (s.logicOn k.region = false → exec c s = .next s1)
    ∧ (∀ b, k.block = some b → 64 ≤ (s.block k.region b).waiting.length → exec c s = .next s1)
    ∧ (∀ b, k.block = some b → HeaderOk s k.region h k.engine (s.blockAdmits k.region b (hClass h)) (s.block k.region b).prevSeq →
      (BlockStarts s k.region b c h → exec c s = .next ((blockNoted s1 k.region b c h).startCmd c))
      ∧ (s.logicOn k.region = true → (s.block k.region b).waiting = [] → (s.mayStart k.region h = false ∨ (laneOf c = 2 ∧ s.accessGoes k.region b ⟨(s.block k.region b).taken, c⟩ = false)) →
        exec c s = .next (s1.modBlock k.region b fun x => { x with prevSeq := some (hSequence h), waiting := [⟨x.taken, c⟩], taken := x.taken + 1 })))
    ∧ (k.block = none → HeaderOk s k.region h k.engine (hClass h == k.queue) (get? s.regions[k.region].prevSeq (zooQueue k.engine k.queue k.unit)) →
      let noted := fun x : Region => { x with prevSeq := put x.prevSeq (zooQueue k.engine k.queue k.unit) (hSequence h) }
      (ZooStarts s k.region h → exec c s = .next ((s1.modRegion k.region noted).startCmd c))
      ∧ (s.logicOn k.region = true → s.regions[k.region].waiting = [] → s.mayStart k.region h = false →
        exec c s = .next (s1.modRegion k.region fun x => { noted x with waiting := [⟨0, c⟩] }))))
  ∧ ∀ (s : State) (t : Nat) (r : Fin 10) (d : MoveDesc),
    let h := d.header
    let n := d.length
    let st := rmemAt r.val (hStatusAddr h)
    let apart := fun (p : MemRef) (a : Nat) (q : MemRef) (b : Nat) => p.space ≠ q.space ∨ p.key + a ≤ q.key ∨ q.key + b ≤ p.key
    let rest := fun u : State => ∀ (q : MemRef) (m : Nat), q.inside m = true → apart q m st 16 → apart q m d.dst n → u.load q m = s.load q m
    let untouched := fun u : State => ∀ (q : MemRef) (m : Nat), q.inside m = true → apart q m st 16 → u.load q m = s.load q m
    ∀ (c : Instr) (engine unit : Nat) (classOk : Bool) (prev : Option Nat),
      ((∃ b, c = .accessDescriptor t r b d ∧ engine = 0x02 ∧ unit = b.val ∧ classOk = s.blockAdmits r b (hClass h) ∧ prev = (s.block r b).prevSeq ∧ BlockStarts s r b c h)
        ∨ ∃ eng, c = .dmaDescriptor t r eng d ∧ engine = 0x18 ∧ unit = 18 ∧ classOk = (hClass h == d.queue)
          ∧ prev = get? s.regions[r].prevSeq (zooQueue 0x18 d.queue eng.val) ∧ ZooStarts s r h) →
      (headerInvalid h engine = true → s.permits (hClass h) st 16 true = true → st.inside 16 = true →
          Ends c s fun u => StatusIs u r h 0x0200 0 0 false false ∧ untouched u ∧ u.launch = s.launch)
      ∧ (HeaderOk s r h engine classOk prev → hReleaseHold h = false →
        (d.src.inside n = false ∨ d.dst.inside n = false ∨ s.inSegment d.src n = true ∨ s.inSegment d.dst n = true →
          Ends c s fun u => StatusIs u r h 0x0202 0 0 false false ∧ untouched u ∧ u.launch = s.launch ∧ u.log = s.log)
        ∧ (d.src.inside n = true → d.dst.inside n = true → s.inSegment d.src n = false → s.inSegment d.dst n = false →
          (s.permits (hClass h) d.src n false = false ∨ s.permits (hClass h) d.dst n true = false →
            Ends c s fun u => StatusIs u r h 0x0205 0 0 false false ∧ untouched u ∧ u.launch = s.launch)
          ∧ (s.permits (hClass h) d.src n false = true → s.permits (hClass h) d.dst n true = true → apart d.dst n st 16 →
            (∀ k, d.upsets = [] → s.markRead [(d.src, n)] = some k → Ends c s fun u => StatusIs u r h 0x0203 0 0 false false ∧ untouched u ∧ u.launch = s.launch)
            ∧ (∀ link, d.upsets = [.retryExhausted link] → s.markRead [(d.src, n)] = none → Ends c s fun u => StatusIs u r h 0x0103 0 0 false false ∧ untouched u ∧ u.launch = s.launch
              ∧ u.log = ((s.advance t).faultInRange 0x0100 (if unit < 18 then 1 else 2) (descLoc r unit) (at_ 32 32 (hSequence h)) (hClass h)).log)
            ∧ ((∀ x ∈ d.upsets, (∃ p lane syn, x = .eccCorrected p lane syn) ∨ ∃ line, x = .tagParity line) → s.markRead [(d.src, n)] = none →
              s.cacheOn = false ∨ hCacheable h = false ∨ hDataAddressed h = true ∨ d.src.space ≠ 0 ∨ engine = 0x18 →
              Ends c s fun u => u.load d.dst n = s.load d.src n ∧ StatusIs u r h 0 0 n false false ∧ rest u ∧ u.launch = s.launch ∧ (d.upsets = [] → u.log = s.log))
            ∧ (∀ b, c = .accessDescriptor t r b d → d.upsets = [] → s.markRead [(d.src, n)] = none → s.cacheOn = true → hCacheable h = true → hDataAddressed h = false →
              hInvalidate h = false → d.src.space = 0 → 0 < n → d.src.addr % 256 + n ≤ 256 →
              (get? (s.block r b).cacheLines (d.src.addr / 256 * 256) = none → Ends c s fun u => u.load d.dst n = s.load d.src n ∧ StatusIs u r h 0 0 n false false ∧ rest u)
              ∧ ∀ line, get? (s.block r b).cacheLines (d.src.addr / 256 * 256) = some line → line.length = 256 →
                Ends c s fun u => u.load d.dst n = (line.drop (d.src.addr % 256)).take n ∧ StatusIs u r h 0 0 n false false ∧ rest u))))
      ∧ (∀ (im : Image) (e : HeldOutput), HeaderOk s r h engine classOk prev → hReleaseHold h = true → d.upsets = [] → s.markRead [(d.src, n)] = none → s.cacheOn = false →
        d.src.inside n = true → s.permits (hClass h) d.src n false = true → s.launch.image = some im →
        (im.heldOutputs.find? fun e => e.region == r && e.block == unit && e.engine == hEngine h) = some e → e.shadow = false → s.launch.buffered = [] → s.launch.deferred = [] →
        Ends c s fun u => u.launch = { s.launch with buffered := [⟨releaseBeat s.beat (hReleaseBeat h),
            { out := e.out, cls := hClass h, primary := { complete := !hChain h, invalid := false, payload := .bytes (s.load d.src n) }, shadow := none }⟩] }
          ∧ StatusIs u r h 0 0 n false false ∧ untouched u)

/-- O48. R140, R164, R165, R191 to R194, R199, R201: an execute descriptor whose header or control word is refused changes no accumulator; a permitted one adds, at every lane of its row pairs, the products of its two rows by the mode of its formats, INT products one by one with saturation, from zero where it clears its set, and no other accumulator of the device; one that continues a poisoned set accumulates nothing and ends with the mark; one with a skew marks its set; a read-out leaves its set at its place, requantised by its table. Where several causes refuse a header, the order in which they are looked at is the model's choice (log entry 60). -/
def Obligations.ExecuteDescriptorsAccumulateTheirLanes : Prop :=
  ∀ (s : State) (t : Nat) (r : Fin 10) (b : Fin 18) (d : ExecDesc),
    let h := d.header
    let set := acwSet d.acw
    let st := rmemAt r.val (hStatusAddr h)
    let untouched := fun u : State => ∀ (q : MemRef) (m : Nat), q.inside m = true → (q.space ≠ st.space ∨ q.key + m ≤ st.key ∨ st.key + 16 ≤ q.key) → u.load q m = s.load q m
    let others := fun u : State => (∀ (r' : Fin 10) (b' : Fin 18), (r' ≠ r ∨ b' ≠ b) → (u.block r' b').acc = (s.block r' b').acc) ∧ u.launch = s.launch ∧ untouched u
    let start := fun lane : Nat => if acwClear d.acw = true then 0 else (s.block r b).accAt lane set
    let outer := fun (x : Exact) (fmt : Nat) (slot : Option Nat) =>
      (fmt ≠ 4 → fmt ≠ 5 → x = Exact.ofInt 1) ∧ ∀ k, fmt = 4 ∨ fmt = 5 → slot.bind (s.slotOf r) = some k → x = num32 k.scale
    BlockStarts s r b (.executeDescriptor t r b d) h →
    (headerInvalid h 0x01 = true → s.permits (hClass h) st 16 true = true → st.inside 16 = true →
        Ends (.executeDescriptor t r b d) s fun u => StatusIs u r h 0x0200 0 0 false false ∧ others u ∧ (u.block r b).acc = (s.block r b).acc)
    ∧ (HeaderOk s r h 0x01 (s.blockAdmits r b (hClass h)) (s.block r b).prevSeq →
      (acwMode d.acw = none → Ends (.executeDescriptor t r b d) s fun u => StatusIs u r h 0x0200 0x0300 0 false false ∧ others u ∧ (u.block r b).acc = (s.block r b).acc)
      ∧ (∀ m, acwMode d.acw = some m → d.upsets = [] → (acwRead d.acw = false ∨ d.out = none) →
        (continuedPoison (s.block r b) d.acw = none → execSkew d = none → Ends (.executeDescriptor t r b d) s fun u =>
          (∃ sa sb : Exact, outer sa (acwFmtA d.acw) d.a.slot ∧ outer sb (acwFmtB d.acw) d.b.slot ∧
            ∀ l ∈ lanesOf d, (u.block r b).accAt l.1 set = (accumulateLane m d (sa.mul sb) (2 ^ 32) l.2.1 l.2.2 (start l.1)).1
            ∧ (m = .integer → (u.block r b).accAt l.1 set = (List.zip l.2.1.codes l.2.2.codes).foldl (fun (x : BitVec 32) p =>
                BitVec.ofInt 32 (max (-(2 ^ 31)) (min (2 ^ 31 - 1) (x.toInt + signed (intWidth (acwFmtA d.acw)) p.1 * signed (intWidth (acwFmtB d.acw)) p.2)))) (start l.1)))
          ∧ (∀ lane, (∀ l ∈ lanesOf d, l.1 ≠ lane) → (u.block r b).accAt lane set = start lane)
          ∧ (∀ lane k, k < 4 → k ≠ set → (u.block r b).accAt lane k = (s.block r b).accAt lane k)
          ∧ StatusIs u r h 0 0 (lanesOf d).length false false ∧ others u)
        ∧ (∀ p, acwClear d.acw = false → (s.block r b).poisonOf set = some p → Ends (.executeDescriptor t r b d) s fun u =>
          (u.block r b).acc = (s.block r b).acc ∧ StatusIs u r h p.1 p.2 (lanesOf d).length true false ∧ others u)
        ∧ (∀ o k, (acwClear d.acw = true ∨ (s.block r b).poisonOf set = none) → execSkew d = some (o, k) → Ends (.executeDescriptor t r b d) s fun u =>
          (u.block r b).poisonOf set = some (if k.crumb = true then 0x0301 else 0x0300, k.detail)
          ∧ StatusIs u r h (if k.crumb = true then 0x0301 else 0x0300) k.detail (lanesOf d).length true false ∧ others u))
      ∧ (∀ m o tb, acwMode d.acw = some m → d.upsets = [] → acwRead d.acw = true → d.out = some o → continuedPoison (s.block r b) d.acw = none → execSkew d = none →
        (s.readTable m o = none → Ends (.executeDescriptor t r b d) s fun u => StatusIs u r h 0x0200 0x0300 0 false false ∧ others u ∧ (u.block r b).acc = (s.block r b).acc)
        ∧ (s.readTable m o = some tb → hReleaseHold h = false →
          let places := readPlaces d o tb ++ (if recordedFormat tb.outFormat = true then [(statsPlace r h, 32)] else [])
          ((∃ p ∈ places, s.badPlace p.1 p.2 = true) → Ends (.executeDescriptor t r b d) s fun u =>
            StatusIs u r h 0x0202 0 0 false false ∧ others u ∧ (u.block r b).acc = (s.block r b).acc)
          ∧ ((∀ p ∈ places, s.badPlace p.1 p.2 = false ∧ s.permits (hClass h) p.1 p.2 true = true) →
            let n := elemBytes tb.outFormat d.a.rows.length d.b.rows.length
            (o.dst.space ≠ st.space ∨ o.dst.key + n ≤ st.key ∨ st.key + 48 ≤ o.dst.key) →
            (∀ p ∈ (readPlaces d o tb).drop 1, o.dst.space ≠ p.1.space ∨ o.dst.key + n ≤ p.1.key ∨ p.1.key + p.2 ≤ o.dst.key) →
            Ends (.executeDescriptor t r b d) s fun u =>
              (∃ scale : Nat, (∀ x, o.slot.bind (s.slotOf r) = some x → scale = x.scale) ∧ u.load o.dst n = packElems tb.outFormat
                (encodeRows tb.outFormat scale 0 (fun _ => zeroPoints (some tb) o.channels d.b.rows.length) (rescaled (some tb) o.channels ((u.block r b).readRows m d))).codes)
              ∧ StatusIs u r h 0 0 (lanesOf d).length false false ∧ u.launch = s.launch
              ∧ ∀ (r' : Fin 10) (b' : Fin 18), (r' ≠ r ∨ b' ≠ b) → (u.block r' b').acc = (s.block r' b').acc))))

/-- O49. R54, R61, R63, R64, R67, R75, R143 to R145, R157 to R159: an illegal code, a parity error and a stalled block end their descriptors with their status; replicas are read in 0.1 Mtok/s, rounded to nearest, once their interval has passed; a suspect cell is forgotten after its window; the spare cell takes its position from the beat that follows the decision; a row is mapped to the lowest free spare row in the order of the decisions, its lost words as poison, and a request for a row is ignored, refused by a full bank, or queued. -/
def Obligations.WeaveFaultsAndRepairs : Prop :=
  ∀ (s : State) (t : Nat),
    (∀ (r : Fin 10) (b : Fin 18) (channel : Nat) (h : BitVec 128), Ends (.illegalDualRailCode t r b channel h) s fun u =>
      u.log = ((s.advance t).fault 0x0108 (.ofBlock r.val b.val) (at_ 16 0 channel)).log ∧ u.blocks = s.blocks ∧ u.launch = s.launch
      ∧ (s.permits (hClass h) (rmemAt r.val (hStatusAddr h)) 16 true = true → (rmemAt r.val (hStatusAddr h)).inside 16 = true → StatusIs u r h 0x0102 0 0 false false))
    ∧ (∀ boundary : Fin 9, exec (.synchroniserParityError t boundary none) s = .next ((s.advance t).fault 0x0106 .chip boundary.val)
      ∧ ∀ (r : Fin 10) (h : BitVec 128), Ends (.synchroniserParityError t boundary (some (r, h))) s fun u => u.log = ((s.advance t).fault 0x0106 .chip boundary.val).log
        ∧ (s.permits (hClass h) (rmemAt r.val (hStatusAddr h)) 16 true = true → (rmemAt r.val (hStatusAddr h)).inside 16 = true → StatusIs u r h 0x0101 0 0 false false)
        ∧ u.launch = s.launch)
    ∧ (∀ (r : Fin 10) (b : Fin 18) (micros : Nat) (inFlight : List (BitVec 128)),
      (inFlight ++ (s.block r b).heldHeaders = [] ∨ micros ≤ s.nat (ob 0x3010 0x11) → exec (.blockStallTimeout t r b micros inFlight) s = .next (s.advance t))
      ∧ (∀ (h : BitVec 128) (p : Fin 18), inFlight ++ (s.block r b).heldHeaders = [h] → s.nat (ob 0x3010 0x11) < micros → (s.block r b).role = 0 → s.service.swaps = [] → s.freeSpare r = some p →
        s.retiredCount r < 2 → (∀ (r' : Fin 10) (b' : Fin 18), (s.block r' b').selWait = none) → Ends (.blockStallTimeout t r b micros inFlight) s fun u =>
        u.service.swaps = [⟨r, b, p, (s.advance t).now, false⟩] ∧ u.launch = s.launch
        ∧ (s.permits (hClass h) (rmemAt r.val (hStatusAddr h)) 16 true = true → (rmemAt r.val (hStatusAddr h)).inside 16 = true → StatusIs u r h 0x0100 0 0 false false)))
    ∧ (∀ counts : List Nat,
      let gate := s.nat (ob 0x3010 4)
      ((s.advance t).replicasDue = false → exec (.replicaMeasurement t counts) s = .next (s.advance t))
      ∧ ((s.advance t).replicasDue = true → Ends (.replicaMeasurement t counts) s fun u =>
        (∀ (i : Fin 180) (c : Nat), 0 < gate → counts[i.val]? = some c → ∃ q : Nat, u.blocks[i].reading = min 65535 q
          ∧ 2 * (c * 10000) ≤ (2 * q + 1) * gate ∧ 2 * q * gate ≤ 2 * (c * 10000) + gate
          ∧ (2 * (c * 10000) = (2 * q + 1) * gate ∨ 2 * q * gate = 2 * (c * 10000) + gate → q % 2 = 0))
        ∧ u.mem = s.mem ∧ u.power.replicaAt = some (s.advance t).now
        ∧ (counts.length = 180 → (∀ c ∈ counts, 10800 ≤ replicaReading gate c) → u.log = s.log ∧ u.launch = s.launch ∧ ∀ r : Fin 10, u.regions[r].role = s.regions[r].role)))
    ∧ (∀ (r : Fin 10) (b : Fin 18),
      (∀ cell : Fin 65, exec (.residueWindowExpiry t r b cell) s = .next { s.advance t with blocks := upd s.blocks (blk r b) fun x =>
        { x with suspects := x.suspects.filter fun e => e.1 != cell || decide ((s.advance t).now < e.2 + 1000000 * s.nat (ob 0x3040 1)) } })
      ∧ ((s.block r b).swapCell = none → exec (.cellSpareSwap t r b) s = .next (s.advance t))
      ∧ (∀ c decided, (s.block r b).swapCell = some (c, decided) →
        ((s.advance t).beatReached (decided + 1) = false ∨ (s.block r b).selWait.isSome = true → exec (.cellSpareSwap t r b) s = .next (s.advance t))
        ∧ ((s.advance t).beatReached (decided + 1) = true → (s.block r b).selWait = none → exec (.cellSpareSwap t r b) s =
          .next (({ s.advance t with blocks := upd s.blocks (blk r b) fun x =>
            { x with swapCell := none, grid := c.val, suspects := x.suspects.filter fun e => e.1 != c } } : State).fault 0x0206 (.ofCell r.val b.val c.val) c.val))))
    ∧ (∀ loc : BitVec 32,
      let due := (s.mapOuts loc).find? fun e => e.1 == fld loc 22 16 && (e.2.2 == 2 || s.flag (ob 0x3200 4))
      (due = none → exec (.rowMapOut t loc) s = .next (s.advance t))
      ∧ (∀ e, due = some e →
        (e.2.1 ≠ fld loc 15 0 ∨ s.rowsOn loc = false → exec (.rowMapOut t loc) s = .next (s.advance t))
        ∧ (∀ k, e.2.1 = fld loc 15 0 → s.rowsOn loc = true → s.freeRow loc = some k → Ends (.rowMapOut t loc) s fun u =>
          u.service.rowMap = s.service.rowMap ++ [⟨loc, e.2.2, k⟩] ∧ k < 8
          ∧ u.mapOuts loc = (s.mapOuts loc).filter (fun x => !(x.1 == fld loc 22 16 && x.2.1 == fld loc 15 0))
          ∧ (e.2.2 = 3 → u.service.mapResult = 0) ∧ u.mem = s.mem ∧ u.launch = s.launch
          ∧ (∀ w ∈ (rowWords loc).2, (∃ x ∈ s.marks, x.space = (rowWords loc).1 ∧ x.word = w) → ∀ i, i < 8 → (⟨(rowWords loc).1, w, i, true⟩ : BadLane) ∈ u.marks)
          ∧ u.log = ((s.advance t).fault 0x0203 (locOf loc) (at_ 8 56 (fld loc 22 16) ||| at_ 16 40 (fld loc 15 0) ||| at_ 8 32 k ||| at_ 8 0 e.2.2)).log)))
    ∧ ∀ (ses : Session) (loc : BitVec 32), WritesAct s ses → locValid loc = true → ChecksPass s t (ob 0x3200 5) (.int loc.toNat) →
      (s.rowMapped loc = true → ServedWith (.mapOutRequest t ses loc) s ses (Books { s.advance t with service := { s.service with mapResult := 2 } }))
      ∧ (s.rowMapped loc = false → s.freeRow loc = none → ServedWith (.mapOutRequest t ses loc) s ses fun u => u.service.mapResult = 3 ∧ u.service.rowMap = s.service.rowMap)
      ∧ (s.rowMapped loc = false → (s.freeRow loc).isSome = true → ServedWith (.mapOutRequest t ses loc) s ses fun u => u.service.mapResult = 1
        ∧ (∃ e ∈ u.mapOuts loc, e.1 = fld loc 22 16 ∧ e.2.1 = fld loc 15 0) ∧ u.service.rowMap = s.service.rowMap ∧ u.mem = s.mem ∧ u.launch = s.launch ∧ u.log = s.log)

/-! ## The window engine and the selvedge -/

/-- O50. R151, R165, R192, R194, R199, R201, R212 to R225, R228, R359: a window descriptor whose header, accumulation word, body, addresses or accesses are refused ends with its status and writes no output; one that owns no output line or column ends empty and is counted; one at both edges of its stream writes every output line that it owns, from its own elements and the fill, under the outer scales and from zero or the accumulators that it continues, with its status; one that lacks a neighbour's entry waits for it and writes nothing. Which lane an output's accumulator has is the model's choice (log entry 32). Where several causes refuse a header, the order in which they are looked at is the model's choice (log entry 60). -/
def Obligations.WindowDescriptorsProduceTheirLines : Prop :=
  ∀ (s : State) (t : Nat) (r : Fin 10) (b : Fin 18) (d : WinDesc) (c : Instr) (command : Nat),
    let h := d.header
    let op := winOp command h
    let st := rmemAt r.val (hStatusAddr h)
    let record := statsPlace r h
    let m := (acwMode (winAcw d)).getD .integer
    let reads := winReads r b op d
    let writes := winWrites r b op d
    let kept := fun (u : State) (n : Nat) => ∀ (q : MemRef) (k : Nat), q.inside k = true → (q.space ≠ st.space ∨ q.key + k ≤ st.key ∨ st.key + n ≤ q.key) → u.load q k = s.load q k
    let others := fun u : State => (∀ (r' : Fin 10) (b' : Fin 18), (r' ≠ r ∨ b' ≠ b) → u.block r' b' = s.block r' b') ∧ u.launch = s.launch
    let outer := fun (x : Exact) (fmt : Nat) (slot : Option Nat) =>
      (fmt ≠ 4 → fmt ≠ 5 → x = Exact.ofInt 1) ∧ ∀ k, fmt = 4 ∨ fmt = 5 → slot.bind (s.slotOf r) = some k → x = num32 k.scale
    (c = .conv t r b d ∧ command = 1) ∨ (c = .poolMax t r b d ∧ command = 2) ∨ (c = .poolAvg t r b d ∧ command = 3) ∨ (c = .erode t r b d ∧ command = 4)
      ∨ (c = .dilate t r b d ∧ command = 5) ∨ (c = .median t r b d ∧ command = 6) ∨ (c = .resizeNearest t r b d ∧ command = 7) ∨ (c = .resizeBilinear t r b d ∧ command = 8) →
    BlockStarts s r b c h →
    (headerInvalid h 0x10 = true → s.permits (hClass h) st 16 true = true → st.inside 16 = true → Ends c s fun u => StatusIs u r h 0x0200 0 0 false false ∧ kept u 16 ∧ others u)
    ∧ (HeaderOk s r h 0x10 (s.blockAdmits r b (hClass h)) (s.block r b).prevSeq →
      (op = 1 → acwMode (winAcw d) = none → Ends c s fun u => StatusIs u r h 0x0200 0x0300 0 false false ∧ kept u 16 ∧ others u)
      ∧ ((op = 1 → (acwMode (winAcw d)).isSome = true) →
        (hOperation h = 0 ∨ 8 < hOperation h → ∃ n, (n = 1 ∨ n = 2) ∧ refusalReason op d (s.mask r b d) = some n)
        ∧ (∀ n, refusalReason op d (s.mask r b d) = some n → Ends c s fun u =>
          StatusIs u r h 0x0400 n 0 false false ∧ kept u 16 ∧ others u ∧ u.log = ((s.advance t).fault 0x0401 (.ofBlock r.val b.val) (at_ 32 32 (hSequence h) ||| n) (hClass h)).log)
        ∧ (refusalReason op d (s.mask r b d) = none →
          (op = 1 → s.convRescale m d = none → Ends c s fun u => StatusIs u r h 0x0200 0x0300 0 false false ∧ kept u 16 ∧ others u)
          ∧ ∀ tb : Option RescaleTable, (op = 1 → s.convRescale m d = some tb) → (op ≠ 1 → tb = none) → hReleaseHold h = false →
            ((∃ p ∈ reads ++ writes, s.badPlace p.1 p.2 = true) ∨ (recordedFormat (wOutFmt d) = true ∧ s.badPlace record 32 = true) →
              Ends c s fun u => StatusIs u r h 0x0202 0 0 false false ∧ kept u 16 ∧ others u ∧ u.log = s.log)
            ∧ ((∀ p ∈ reads ++ writes, s.badPlace p.1 p.2 = false) → (recordedFormat (wOutFmt d) = true → s.badPlace record 32 = false) →
              ((∃ p ∈ reads, 0 < p.2 ∧ s.permits (hClass h) p.1 p.2 false = false) ∨ (∃ p ∈ writes, 0 < p.2 ∧ s.permits (hClass h) p.1 p.2 true = false)
                  ∨ (recordedFormat (wOutFmt d) = true ∧ s.permits (hClass h) record 32 true = false) → Ends c s fun u => StatusIs u r h 0x0205 0 0 false false ∧ kept u 16 ∧ others u)
              ∧ ((∀ p ∈ reads, s.permits (hClass h) p.1 p.2 false = true) → (∀ p ∈ writes, s.permits (hClass h) p.1 p.2 true = true) →
                (recordedFormat (wOutFmt d) = true → s.permits (hClass h) record 32 true = true) → d.upsets = [] →
                (∀ k, s.markRead reads = some k → Ends c s fun u => StatusIs u r h 0x0203 0 0 false false ∧ kept u 48 ∧ others u)
                ∧ (s.markRead reads = none → (s.block r b).selOut = [] → (s.block r b).selLeft = [] → (s.block r b).selRight = [] →
                  ((∀ p ∈ coilParts d, outLines op d p = []) ∨ outCols op d = [] →
                    (wSelLeft d = false → wSelRight d = false → Ends c s fun u => StatusIs u r h 0x0001 0 0 false false ∧ kept u 48 ∧ others u ∧ u.log = s.log
                      ∧ u.obj (ob 0x3600 5) = (s.bump (ob 0x3600 5)).obj (ob 0x3600 5))
                    ∧ Ends c s fun u => (StatusIs u r h 0x0001 0 0 false false ∨ ∃ w, (u.block r b).selWait = some w ∧ w.entry = false) ∧ kept u 48 ∧ others u ∧ u.log = s.log)
                  ∧ ((∃ p ∈ coilParts d, outLines op d p ≠ []) → outCols op d ≠ [] →
                    (wSelLeft d = false → wSelRight d = false → (∀ p ∈ writes.drop 1, p.1.space ≠ 2 ∨ p.1.key + p.2 ≤ (padPlace r b (wOutAddr d)).key
                        ∨ ∀ q ∈ writes.take 1, q.1.key + q.2 ≤ p.1.key) →
                      (op = 1 → continuedPoison (s.block r b) (winAcw d) = none ∧ convSkew d (s.inputRow r b d) (s.weightRow r b d) = none) → Ends c s fun u =>
                      let lines := (coilParts d).flatMap fun p => (outLines op d p).map fun n => (p, n)
                      let bytes := outLineBytes op d
                      let weights := pixelsOf (acwFmtB (winAcw d)) (wGroupCh d) (s.weightRow r b d) (Exact.ofInt 1)
                      (∃ (scale free draw : Nat) (sa sb : Exact), (∀ x, (wSlot d).bind (s.slotOf r) = some x → scale = x.scale) ∧ outer sa (wInFmt d) d.inSlot
                        ∧ (op = 1 → outer sb (acwFmtB (winAcw d)) d.wSlot) ∧
                        let scale1 := if op = 1 then Exact.ofInt 1 else sa
                        let w : WinData := ⟨pixelsOf (wInFmt d) (wInCh d) (s.inputRow r b d) scale1, [], zeroPix (wInFmt d) (wInCh d),
                          (constPix (wInFmt d) (wInCh d) (wFillValue d) free scale1).1, draw, sa.mul sb⟩
                        let values := if op = 1 then
                            lines.mapIdx fun i l => rescaled tb (wOutCh d)
                              ((convLine m d w weights (s.block r b) l.1 l.2 (i * ((outCols 1 d).length * wOutCh d))).1.map fun es => es.map (accValue m))
                          else lines.map fun l => portLine op d w (s.mask r b d) l.1 l.2
                        ∀ (i : Nat) (e : Written), (encodeLines op d scale tb values)[i]? = some e →
                          u.load (padPlace r b (wOutAddr d + i * bytes)) (packElems (wOutFmt d) e.codes).length = packElems (wOutFmt d) e.codes)
                      ∧ StatusIs u r h 0 0 (lines.length * (outCols op d).length * outChannels op d) false false ∧ others u ∧ u.log = s.log
                      ∧ ∀ (q : MemRef) (k : Nat), q.inside k = true → (q.space ≠ st.space ∨ q.key + k ≤ st.key ∨ st.key + 48 ≤ q.key) →
                          (∀ p ∈ writes, q.space ≠ p.1.space ∨ q.key + k ≤ p.1.key ∨ p.1.key + p.2 ≤ q.key) → u.load q k = s.load q k)
                    ∧ (∀ l0 rest, wSelLeft d = true → bandCols op d 0 ≠ [] → (coilParts d).flatMap (askedLines op d) = l0 :: rest → Ends c s fun u =>
                      (u.block r b).selWait = some ⟨true, 0, pattern 32 l0, (s.advance t).now, op, { d with upsets := [] }, none⟩
                      ∧ u.mem = s.mem ∧ others u ∧ u.log = s.log))))))))

/-- O51. R44, R226, R228, R230, R231, R359: an entry of a class that the block does not run, or of another class than the waiting descriptor's, is kept out; one beyond the room of its buffer does not enter; a good, a corrected or a lost one joins its buffer, and a descriptor that reads a lost one ends with ECC_UNCORRECTABLE; one that is not the line a descriptor waits for ends it with ADDRESS and its outputs invalid; a wait for an entry that outlasts its limit ends STALLED. -/
def Obligations.SelvedgeEntriesAreCheckedAndWaitedFor : Prop :=
  ∀ (s : State) (t : Nat) (r : Fin 10) (b : Fin 18) (side : Fin 2), (s.block r b).waiting = [] →
    let loc : Loc := { region := r.val, block := b.val, unit := side.val }
    let ready := fun w : SelWait => s.permits (hClass w.desc.header) (rmemAt r.val (hStatusAddr w.desc.header)) 16 true = true ∧ (rmemAt r.val (hStatusAddr w.desc.header)).inside 16 = true
    (∀ (header : BitVec 64) (payload : Bytes) (cls ecc : Nat),
      let c : Instr := .selvedgeEntryReceived t r b side header payload cls ecc
      let e : SelEntry := ⟨header, payload, cls, decide (ecc = 2), false, false⟩
      let crosses := ∃ w, (s.block r b).selWait = some w ∧ cls ≠ hClass w.desc.header
      let joined := fun u : State => u.modBlock r b fun x => x.setSel side.val (x.sel side.val ++ [e])
      (s.blockAdmits r b cls = false ∨ crosses → Ends c s fun u => u.mem = s.mem ∧ u.launch = s.launch
        ∧ (u.block r b).selLeft = (s.block r b).selLeft ∧ (u.block r b).selRight = (s.block r b).selRight ∧ (u.block r b).selWait = (s.block r b).selWait)
      ∧ (s.blockAdmits r b cls = true → ¬ crosses → s.selRoom r b side.val payload = false → exec c s = .next (s.advance t))
      ∧ (s.blockAdmits r b cls = true → ¬ crosses → s.selRoom r b side.val payload = true →
        (ecc = 0 ∨ ecc = 2 → (s.block r b).selWait = none → exec c s = .next (joined (s.advance t)))
        ∧ (ecc ≠ 0 → ecc ≠ 2 → (s.block r b).selWait = none → exec c s = .next (joined ((s.advance t).fault 0x0403 loc (at_ 8 8 side.val ||| at_ 8 0 (ecc / 256)))))
        ∧ (∀ w l0 rest, side = 0 → (s.block r b).selWait = some w → ready w → (s.block r b).selLeft = [] → (s.block r b).selRight = [] → wSelLeft w.desc = true →
            bandCols w.op w.desc 0 ≠ [] → (coilParts w.desc).flatMap (askedLines w.op w.desc) = l0 :: rest →
          (ecc = 2 → entryMismatch w.desc 0 l0 e = 0 → Ends c s fun u => StatusIs u r w.desc.header 0x0203 0 0 false false ∧ (u.block r b).selWait = none ∧ u.launch = s.launch
            ∧ u.log = ((s.advance t).fault 0x0404 { region := r.val, block := b.val, unit := 0 } (at_ 32 32 (hSequence w.desc.header) ||| at_ 8 8 0) (hClass w.desc.header)).log)
          ∧ (ecc = 0 → entryMismatch w.desc 0 l0 e ≠ 0 → Ends c s fun u => StatusIs u r w.desc.header 0x0202 0x0401 0 true false ∧ (u.block r b).selWait = none ∧ u.launch = s.launch
            ∧ u.log = ((s.advance t).fault 0x0402 { region := r.val, block := b.val, unit := 0 }
                (at_ 32 32 (hSequence w.desc.header) ||| at_ 16 16 (pattern 16 l0) ||| at_ 8 8 0 ||| at_ 8 0 (entryMismatch w.desc 0 l0 e)) (hClass w.desc.header)).log))))
    ∧ ((s.block r b).selWait = none → exec (.selvedgeWaitTimeout t r b side) s = .next (s.advance t))
    ∧ ∀ w, (s.block r b).selWait = some w →
      (w.entry = false ∨ w.side ≠ side ∨ (s.advance t).now ≤ w.since + 1000 * s.nat (ob 0x3600 3) → exec (.selvedgeWaitTimeout t r b side) s = .next (s.advance t))
      ∧ (w.entry = true → w.side = side → w.since + 1000 * s.nat (ob 0x3600 3) < (s.advance t).now → ready w → Ends (.selvedgeWaitTimeout t r b side) s fun u =>
        StatusIs u r w.desc.header 0x0100 0x0402 0 true false ∧ (u.block r b).selWait = none ∧ u.launch = s.launch
        ∧ u.obj (ob 0x3600 7) = (s.bump (ob 0x3600 7)).obj (ob 0x3600 7)
        ∧ u.log = ((s.advance t).fault 0x0405 loc (at_ 32 32 (hSequence w.desc.header) ||| at_ 24 8 (((s.advance t).now - w.since) / 1000) ||| at_ 8 0 2) (hClass w.desc.header)).log)

/-! ## The quantisation-and-statistics engine -/

/-- O52. R151, R165, R172, R174, R180, R194, R198, R200, R201, R203, R504, R359: a statistics or conversion descriptor that is refused ends with its status; one that reads lost data or a skewed stream ends with that and writes no element; a statistics descriptor leaves the record of its tensor, with the array of its channels; a conversion leaves its elements, encoded in the output format under the slot's scale and blocked along the axis of its output. Where several causes refuse a header, the order in which they are looked at is the model's choice (log entry 60). -/
def Obligations.StatisticsAndConversionsLeaveTheirTensors : Prop :=
  ∀ (s : State) (t : Nat) (r : Fin 10) (d : QuantDesc),
    let h := d.header
    let st := rmemAt r.val (hStatusAddr h)
    let place := statsPlace r h
    let ins := inputPlaces d.format d.input
    let input := s.readTensor d.format d.input
    let kept := fun (u : State) (n : Nat) => ∀ (q : MemRef) (k : Nat), q.inside k = true → (q.space ≠ st.space ∨ q.key + k ≤ st.key ∨ st.key + n ≤ q.key) → u.load q k = s.load q k
    let rest := fun u : State => u.launch = s.launch ∧ u.regions[r].slots = s.regions[r].slots
    let outer := fun x : Exact => (d.format ≠ 4 → d.format ≠ 5 → x = Exact.ofInt 1) ∧ ∀ k, d.format = 4 ∨ d.format = 5 → d.input.slot.bind (s.slotOf r) = some k → x = num32 k.scale
    let admitted := HeaderOk s r h 0x13 (hClass h == d.queue) (get? s.regions[r].prevSeq (zooQueue 0x13 d.queue 0))
    ZooStarts s r h →
    (∀ (c : Instr) (conv : Bool), ((c = .statsTensor t r d ∨ c = .statsChannel t r d) ∧ conv = false) ∨ (c = .convert t r d ∧ conv = true) →
      (headerInvalid h 0x13 = true → s.permits (hClass h) st 16 true = true → st.inside 16 = true → Ends c s fun u => StatusIs u r h 0x0200 0 0 false false ∧ kept u 16 ∧ rest u)
      ∧ (admitted → hOperation h = 0 ∨ 5 < hOperation h ∨ quantFormatsOk d conv = false ∨ (conv = true ∧ s.convertTable d = none) →
          Ends c s fun u => StatusIs u r h 0x0200 0x0300 0 false false ∧ kept u 16 ∧ rest u))
    ∧ (admitted → 1 ≤ hOperation h → hOperation h ≤ 5 →
      (∀ (c : Instr) (per : Bool), (c = .statsTensor t r d ∧ per = false) ∨ (c = .statsChannel t r d ∧ per = true) → isFormat d.format = true →
        let n := 32 + if per then 4 * d.channels else 0
        ((∃ p ∈ (place, n) :: ins, s.badPlace p.1 p.2 = true) → Ends c s fun u => StatusIs u r h 0x0202 0 0 false false ∧ kept u 16 ∧ rest u ∧ u.log = s.log)
        ∧ ((∀ p ∈ (place, n) :: ins, s.badPlace p.1 p.2 = false) →
          ((∃ p ∈ ins, 0 < p.2 ∧ s.permits (hClass h) p.1 p.2 false = false) ∨ s.permits (hClass h) place n true = false →
            Ends c s fun u => StatusIs u r h 0x0205 0 0 false false ∧ kept u 16 ∧ rest u)
          ∧ ((∀ p ∈ ins, s.permits (hClass h) p.1 p.2 false = true) → s.permits (hClass h) place n true = true → d.upsets = [] →
            (∀ k, s.markRead ins = some k → firstSkew d.format input = none → Ends c s fun u => StatusIs u r h 0x0203 0 0 false false ∧ kept u (16 + n) ∧ rest u)
            ∧ (s.markRead ins = none → ∀ k, firstSkew d.format input = some k → Ends c s fun u => StatusIs u r h k.status k.detail 0 true false ∧ kept u (16 + n) ∧ rest u
                ∧ leAt (u.load place 32) 12 4 = 0)
            ∧ (s.markRead ins = none → firstSkew d.format input = none → Ends c s fun u =>
              (∃ (step slot : Nat) (x : Exact), (∀ k, d.slot = some k → slot = k ∧ ∀ y, s.slotOf r k = some y → step = y.step) ∧ outer x ∧
                let rows := inputValues d.format input x
                u.load place n = ({ statsOf rows.flatten (s.wouldCount r d.slot rows).1 (s.wouldCount r d.slot rows).2 d.format step slot with
                    perChannel := per, channels := if per then d.channels else 0 } : Stats).bytes ++ (if per then channelAmax d.channels rows.flatten else []))
              ∧ StatusIs u r h 0 0 1 false false ∧ kept u (16 + n) ∧ rest u ∧ u.log = s.log))))
      ∧ (quantFormatsOk d true = true → hReleaseHold h = false → ∀ tb, s.convertTable d = some tb →
        let fmt := (tb.map RescaleTable.outFormat).getD d.outFormat
        let across := d.across && (isMx fmt || fmt == 13)
        let outs := tensorPlaces fmt (if across then d.input.length else d.input.rows) (if across then d.input.rows else d.input.length) d.dst d.stream
        let records := if recordedFormat fmt = true then [(place, 32)] else []
        ((∃ p ∈ ins ++ outs ++ records, s.badPlace p.1 p.2 = true) → Ends (.convert t r d) s fun u => StatusIs u r h 0x0202 0 0 false false ∧ kept u 16 ∧ rest u ∧ u.log = s.log)
        ∧ ((∀ p ∈ ins ++ outs ++ records, s.badPlace p.1 p.2 = false) →
          ((∃ p ∈ ins, 0 < p.2 ∧ s.permits (hClass h) p.1 p.2 false = false) ∨ (∃ p ∈ outs ++ records, 0 < p.2 ∧ s.permits (hClass h) p.1 p.2 true = false) →
            Ends (.convert t r d) s fun u => StatusIs u r h 0x0205 0 0 false false ∧ kept u 16 ∧ rest u)
          ∧ ((∀ p ∈ ins, s.permits (hClass h) p.1 p.2 false = true) → (∀ p ∈ outs ++ records, s.permits (hClass h) p.1 p.2 true = true) → d.upsets = [] → s.markRead ins = none →
            (∀ k, firstSkew d.format input = some k → Ends (.convert t r d) s fun u => StatusIs u r h k.status k.detail 0 true false ∧ kept u 48 ∧ rest u)
            ∧ (firstSkew d.format input = none →
              (∀ p ∈ outs.take 1, (p.1.space ≠ st.space ∨ p.1.key + p.2 ≤ st.key ∨ st.key + 48 ≤ p.1.key)
                ∧ ∀ q ∈ outs.drop 1, p.1.space ≠ q.1.space ∨ p.1.key + p.2 ≤ q.1.key ∨ q.1.key + q.2 ≤ p.1.key) →
              Ends (.convert t r d) s fun u => ∃ (scale : Nat) (x : Exact), (∀ y, d.slot.bind (s.slotOf r) = some y → scale = y.scale) ∧ outer x ∧
                let values := rescaled tb d.channels (inputValues d.format input x)
                let rows := if across then acrossRows values else values
                let codes := (encodeRows fmt scale 0 (fun i => zeroPoints tb d.channels (rows.getD i []).length) rows).codes
                u.load d.dst (packElems fmt codes).length = packElems fmt codes
                ∧ StatusIs u r h 0 0 rows.flatten.length false false ∧ rest u ∧ u.log = s.log
                ∧ ∀ (q : MemRef) (k : Nat), q.inside k = true → (q.space ≠ st.space ∨ q.key + k ≤ st.key ∨ st.key + 48 ≤ q.key) →
                    (∀ p ∈ outs, q.space ≠ p.1.space ∨ q.key + k ≤ p.1.key ∨ p.1.key + p.2 ≤ q.key) → u.load q k = s.load q k)))))

/-- O53. R151, R165, R204 to R209: a scale update advances its slot by the merged records, or marks the step for replay, and leaves every other slot; a descriptor in a queue of another class is refused; an optimizer step outside class L is refused, is skipped on non-finite gradients, ends with the status of lost data or of a skewed stream, and else writes the new moments and weights, element by element. Where several causes refuse a header, the order in which they are looked at is the model's choice (log entry 60). -/
def Obligations.ScalesAndWeightsAdvance : Prop :=
  ∀ (s : State) (t : Nat) (r : Fin 10),
    let kept := fun (u : State) (h : BitVec 128) (n : Nat) => ∀ (q : MemRef) (k : Nat), q.inside k = true →
      (q.space ≠ 1 ∨ q.key + k ≤ (rmemAt r.val (hStatusAddr h)).key ∨ (rmemAt r.val (hStatusAddr h)).key + n ≤ q.key) → u.load q k = s.load q k
    (∀ (c : Instr) (h : BitVec 128), ∀ queue : Nat,
      (∃ d : ScaleDesc, c = .scaleUpdate t r d ∧ h = d.header ∧ queue = d.queue) ∨ (∃ d : OptDesc, c = .optStep t r d ∧ h = d.header ∧ queue = d.queue) → ZooStarts s r h →
      (s.permits (hClass h) (rmemAt r.val (hStatusAddr h)) 16 true = true → (rmemAt r.val (hStatusAddr h)).inside 16 = true →
        (headerInvalid h 0x13 = true → Ends c s fun u => StatusIs u r h 0x0200 0 0 false false ∧ kept u h 16 ∧ u.regions[r].slots = s.regions[r].slots ∧ u.launch = s.launch)
        ∧ (headerInvalid h 0x13 = false → hClass h ≠ queue → Ends c s fun u => StatusIs u r h 0x0201 0 0 false false ∧ kept u h 16 ∧ u.regions[r].slots = s.regions[r].slots
          ∧ u.launch = s.launch))
      ∧ (HeaderOk s r h 0x13 (hClass h == queue) (get? s.regions[r].prevSeq (zooQueue 0x13 queue 0)) → hOperation h = 0 ∨ 5 < hOperation h →
          Ends c s fun u => StatusIs u r h 0x0200 0x0300 0 false false ∧ kept u h 16 ∧ u.regions[r].slots = s.regions[r].slots ∧ u.launch = s.launch))
    ∧ (∀ d : ScaleDesc, ZooStarts s r d.header → HeaderOk s r d.header 0x13 (hClass d.header == d.queue) (get? s.regions[r].prevSeq (zooQueue 0x13 d.queue 0)) → 1 ≤ hOperation d.header → hOperation d.header ≤ 5 →
      let h := d.header
      let c : Instr := .scaleUpdate t r d
      (s.slotOf r d.slot = none → Ends c s fun u => StatusIs u r h 0x0202 0 0 false false ∧ kept u h 16 ∧ u.regions[r].slots = s.regions[r].slots)
      ∧ (∀ x, s.slotOf r d.slot = some x → (∀ a ∈ d.records, (rmemAt r.val a).inside 32 = true ∧ s.permits (hClass h) (rmemAt r.val a) 32 false = true) →
        let g := d.records.foldl (fun g a => g.add (s.load (rmemAt r.val a) 32)) ⟨0, 0, 0, 0, 0⟩
        let res := scaleUpdateOf x g (hClass h) (s.nat (ob 0x3400 1)) (s.nat (ob 0x3400 3)) (s.flag (ob 0x3400 2)) (s.int (ob 0x3400 6)) (s.nat (ob 0x3400 5) == 1)
        Ends c s fun u => u.slotOf r d.slot = some res.1 ∧ (∀ n, n ≠ d.slot → u.slotOf r n = s.slotOf r n) ∧ kept u h 16 ∧ u.launch = s.launch
          ∧ (res.2 = true ↔ g.elements < g.sat * s.nat (ob 0x3400 1) ∧ hClass h = 3 ∧ x.replayAllowed = true ∧ s.flag (ob 0x3400 2) = true ∧ x.replayed = false)
          ∧ (res.2 = true → StatusIs u r h 0 1 1 false false ∧ res.1.step = x.step ∧ res.1.replayed = true
              ∧ u.log = ((s.advance t).fault 0x0304 (.ofRegion r.val) (at_ 32 32 x.step ||| at_ 32 0 d.slot)).log)
          ∧ (res.2 = false → res.1.step = (x.step + 1) % 2 ^ 32 ∧ res.1.head = (x.head + 1) % 16 ∧ res.1.replayed = false ∧ res.1.nonfinite = decide (0 < g.nonfinite)
              ∧ res.1.overflow = decide (g.elements < g.sat * s.nat (ob 0x3400 1)) ∧ res.1.underflow = decide (g.elements < g.und * s.nat (ob 0x3400 3))
              ∧ StatusIs u r h 0 (at_ 1 1 (b2n res.1.overflow) ||| at_ 1 2 (b2n res.1.underflow) ||| at_ 1 3 (b2n res.1.nonfinite)) 1 false false)))
    ∧ (∀ d : OptDesc, ZooStarts s r d.header → HeaderOk s r d.header 0x13 (hClass d.header == d.queue) (get? s.regions[r].prevSeq (zooQueue 0x13 d.queue 0)) → 1 ≤ hOperation d.header → hOperation d.header ≤ 5 →
      let h := d.header
      let c : Instr := .optStep t r d
      let n := d.count
      let grads := unpackElems 5 n (s.load d.grads n)
      let places := (d.grads, n) :: optPlaces d
      (hClass h ≠ 3 → Ends c s fun u => StatusIs u r h 0x0201 0 0 false false ∧ kept u h 16 ∧ u.launch = s.launch)
      ∧ (hClass h = 3 → s.slotOf r d.slot = none → Ends c s fun u => StatusIs u r h 0x0202 0 0 false false ∧ kept u h 16 ∧ u.launch = s.launch)
      ∧ (∀ x, hClass h = 3 → s.slotOf r d.slot = some x → x.nonfinite = true → Ends c s fun u => StatusIs u r h 0 0x10 0 false false ∧ kept u h 16
          ∧ u.log = ((s.advance t).fault 0x0306 (.ofRegion r.val) (at_ 32 32 (hSequence h) ||| at_ 32 0 d.slot) 3).log)
      ∧ (∀ x, hClass h = 3 → s.slotOf r d.slot = some x → x.nonfinite = false → d.copy = none → hReleaseHold h = false →
        ((∃ p ∈ (statsPlace r h, 32) :: places, s.badPlace p.1 p.2 = true) → Ends c s fun u => StatusIs u r h 0x0202 0 0 false false ∧ kept u h 16 ∧ u.launch = s.launch ∧ u.log = s.log)
        ∧ ((∀ p ∈ (statsPlace r h, 32) :: places, s.badPlace p.1 p.2 = false) →
          (∀ p ∈ places, s.permits 3 p.1 p.2 false = true) → (∀ p ∈ (statsPlace r h, 32) :: optPlaces d, s.permits 3 p.1 p.2 true = true) →
          (∀ k, s.markRead places = some k → firstSkew 6 [(s.optLoad d).1] = none → Ends c s fun u => StatusIs u r h 0x0203 0 0 false false ∧ kept u h 48 ∧ u.launch = s.launch)
          ∧ (∀ k, s.markRead places = none → firstSkew 6 [(s.optLoad d).1] = some k → Ends c s fun u => StatusIs u r h k.status k.detail 0 true false ∧ kept u h 48 ∧ u.launch = s.launch)
          ∧ (s.markRead places = none → firstSkew 6 [(s.optLoad d).1] = none →
            let res := grads.mapIdx fun i g =>
              optElement d (num32 x.scale) (e5m2.decode g) ((rowValues 6 (s.optLoad d).1).getD i Exact.zero) ((s.optLoad d).2.1.getD i Exact.zero) ((s.optLoad d).2.2.getD i Exact.zero)
            let wm := encodeRows 6 0 0 (fun _ => []) [res.map fun e => e.1]
            Ends c s fun u => u.load ⟨0, 0, 0, d.wAddr⟩ (4 * n) = packElems 1 (res.map fun e => fp32.ieee e.2.2)
              ∧ ((d.vAddr + 2 * n ≤ d.wAddr ∨ d.wAddr + 4 * n ≤ d.vAddr) → u.load ⟨0, 0, 0, d.vAddr⟩ (2 * n) = packElems 2 (encodeRows 2 0 0 (fun _ => []) [res.map fun e => e.2.1]).codes)
              ∧ ((∀ p ∈ (optPlaces d).drop 1, d.mAddr + elemBytes 6 1 n ≤ p.1.addr ∨ p.1.addr + p.2 ≤ d.mAddr) → u.load ⟨0, 0, 0, d.mAddr⟩ (packElems 6 wm.codes).length = packElems 6 wm.codes)
              ∧ StatusIs u r h 0 0 n false false ∧ u.log = s.log ∧ u.launch = s.launch
              ∧ ∀ (q : MemRef) (k : Nat), q.inside k = true → (q.space ≠ 1 ∨ q.key + k ≤ (rmemAt r.val (hStatusAddr h)).key ∨ (rmemAt r.val (hStatusAddr h)).key + 48 ≤ q.key) →
                  (∀ p ∈ optPlaces d, q.space ≠ p.1.space ∨ q.key + k ≤ p.1.key ∨ p.1.key + p.2 ≤ q.key) → u.load q k = s.load q k))))

/-! ## Detection -/

/-- O54. R225, R236, R238, R239, R241: over the values of any row of elements a maximum or dilation is an element that none exceeds in the order of values, an erosion one that exceeds none, or the NaN among them, and a median has half of them on either side; sorting ranks a list of verdicts without changing what it holds, and suppression keeps, in order, exactly the candidates that no better one kept before suppresses. -/
def Obligations.OperatorsAndRanksPickTheirElements : Prop :=
  (∀ (fmt : Nat) (codes : List Nat), portFormat fmt = true → codes ≠ [] →
    let xs := codes.map (elemValue fmt)
    (∀ op, (op = 2 ∨ op = 5) → portValue op xs ∈ xs ∧ ∀ x ∈ xs, rankLe x (portValue op xs) = true)
    ∧ (portValue 4 xs ∈ xs ∧ (.nan ∈ xs → portValue 4 xs = .nan) ∧ (.nan ∉ xs → ∀ x ∈ xs, rankLe (portValue 4 xs) x = true))
    ∧ (portValue 6 xs ∈ xs ∧ (xs.length - 1) / 2 < (xs.filter fun x => rankLe x (portValue 6 xs)).length
      ∧ xs.length - (xs.length - 1) / 2 ≤ (xs.filter fun x => rankLe (portValue 6 xs) x).length))
  ∧ (∀ xs : List Verdict, (verdictSort xs).Perm xs ∧ (verdictSort xs).Pairwise fun a b => ranksBefore b a = false)
  ∧ ∀ (aware : Bool) (thr : Nat) (cs : List Verdict),
    let hit := fun k c : Verdict => (!aware || k.cls == c.cls) && suppresses thr k c
    (suppress aware thr cs).Sublist cs
    ∧ (suppress aware thr cs).Pairwise (fun a b => hit a b = false)
    ∧ ∀ c ∈ cs, c ∈ suppress aware thr cs ∨ ∃ k ∈ suppress aware thr cs, hit k c = true

/-- O55. R78, R83, R164, R165, R234, R236 to R238, R241 to R244: a refused detection descriptor ends with its status; DECODE leaves the list of its best candidates; NMS takes up the carry list of its place, and leaves there the one that it carries on, at its own place a verdict batch, with release_hold in the release buffer of its port too, and the next identifier of its stream; a carry list that no NMS takes up in time is emptied and released as a batch of its own. Where several causes refuse a header, the order in which they are looked at is the model's choice (log entry 60). -/
def Obligations.DetectionLeavesListsAndBatches : Prop :=
  ∀ (s : State) (t : Nat) (r : Fin 10),
    let apart := fun (q : MemRef) (k : Nat) (p : MemRef) (n : Nat) => q.space ≠ p.space ∨ q.key + k ≤ p.key ∨ p.key + n ≤ q.key
    let admitted := fun d : ZooDesc => ZooStarts s r d.header ∧ HeaderOk s r d.header 0x12 (hClass d.header == d.queue) (get? s.regions[r].prevSeq (zooQueue 0x12 d.queue 0))
    (∀ (c : Instr) (d : ZooDesc) (ok : Bool), (∃ block, c = .decode t r block d ∧ ok = decodeOk d) ∨ (∃ closeCount truncated, c = .nms t r d closeCount truncated ∧ ok = nmsOk d) →
      let h := d.header
      let st := rmemAt r.val (hStatusAddr h)
      let kept := fun u : State => (∀ (q : MemRef) (k : Nat), q.inside k = true → apart q k st 16 → u.load q k = s.load q k) ∧ u.detect = s.detect ∧ u.launch = s.launch
      (ZooStarts s r h → headerInvalid h 0x12 = true → s.permits (hClass h) st 16 true = true → st.inside 16 = true → Ends c s fun u => StatusIs u r h 0x0200 0 0 false false ∧ kept u)
      ∧ (admitted d → ok = false → Ends c s fun u => StatusIs u r h 0x0200 0x0500 0 false false ∧ kept u
          ∧ u.log = ((s.advance t).fault 0x0501 (streamLoc r d) (at_ 32 32 (hSequence h) ||| at_ 8 0 (hOperation h)) (hClass h)).log))
    ∧ (∀ (block : Fin 18) (d : ZooDesc), admitted d → decodeOk d = true →
      let h := d.header
      let st := rmemAt r.val (hStatusAddr h)
      let list := rmemAt r.val (zf d 159 128)
      let cap := zf d 255 240
      let reads := (headPlace r block d, headBytes d) :: if zf d 501 501 = 1 then [] else [(rmemAt r.val (zf d 191 160), 8 * (zf d 488 485 + 1))]
      let places := (list, 8 + 24 * cap) :: reads
      ((∃ p ∈ places, s.badPlace p.1 p.2 = true) → Ends (.decode t r block d) s fun u => StatusIs u r h 0x0202 0 0 false false ∧ u.detect = s.detect ∧ u.log = s.log)
      ∧ ((∀ p ∈ places, s.badPlace p.1 p.2 = false) →
        ((∃ p ∈ reads, s.permits (hClass h) p.1 p.2 false = false) ∨ s.permits (hClass h) list (8 + 24 * cap) true = false →
          Ends (.decode t r block d) s fun u => StatusIs u r h 0x0205 0 0 false false ∧ u.detect = s.detect ∧ u.launch = s.launch)
        ∧ ((∀ p ∈ reads, s.permits (hClass h) p.1 p.2 false = true) → s.permits (hClass h) list (8 + 24 * cap) true = true → d.upsets = [] →
          (∀ k, s.markRead reads = some k → Ends (.decode t r block d) s fun u => StatusIs u r h 0x0203 0 0 false false ∧ u.detect = s.detect ∧ u.launch = s.launch)
          ∧ (s.markRead reads = none → hReleaseHold h = false → apart list (8 + 24 * cap) st 16 →
            let sorted := verdictSort (s.candidatesOf r block d).1
            Ends (.decode t r block d) s fun u => u.load list (8 + 24 * (sorted.take cap).length) = listBytes (sorted.take cap) (sorted.length - cap)
              ∧ StatusIs u r h 0 (b2n (decide (cap < sorted.length))) (min cap sorted.length) false false ∧ u.detect = s.detect ∧ u.launch = s.launch ∧ u.log = s.log
              ∧ ∀ (q : MemRef) (k : Nat), q.inside k = true → apart q k st 16 → apart q k list (8 + 24 * cap) → u.load q k = s.load q k))))
    ∧ (∀ (d : ZooDesc) (closeCount : Nat) (truncated : Bool), admitted d → nmsOk d = true →
      let h := d.header
      let st := rmemAt r.val (hStatusAddr h)
      let table := rmemAt r.val (zf d 383 352)
      let place := rmemAt r.val (zf d 319 288)
      let room := 32 + 48 * zf d 287 272
      let carryPlace := rmemAt r.val (zf d 351 320)
      let carryRoom := 8 + 64 * zf d 271 256
      let reads := (table, 8 * (zf d 506 502 + 1)) :: (carryPlace, carryRoom) :: (s.listPlaces r d).map fun p => (p.1, p.2.1)
      let stream : Fin 24 := Fin.ofNat 24 (zf d 511 507)
      let tile := zf d 255 192
      let lists := s.stripeLists r d
      let keep := suppress (zf d 501 501 == 1) (zf d 491 476) ((verdictSort lists.1).take 4096)
      let carryIn := if zf d 500 500 = 1 then [] else (s.carryList r (zf d 351 320)).map fun v => { v with carriedIn := true, flags := v.flags ||| 1 }
      let res := (mergeAll d lists.2 (carryIn.length + keep.length) (verdictSort (carryIn ++ keep))).1.foldl (nmsEmit d) ⟨[], [], 0, 0, s.detect[stream].nextId⟩
      ((∃ p ∈ (place, room) :: reads, s.badPlace p.1 p.2 = true) → Ends (.nms t r d closeCount truncated) s fun u =>
          (StatusIs u r h 0x0202 0 0 false false ∨ StatusIs u r h 0x0205 0 0 false false) ∧ u.detect = s.detect ∧ u.launch = s.launch)
      ∧ ((∀ p ∈ (place, room) :: reads, s.badPlace p.1 p.2 = false) →
        ((∃ p ∈ reads, s.permits (hClass h) p.1 p.2 false = false) ∨ s.permits (hClass h) carryPlace carryRoom true = false ∨ s.permits (hClass h) place room true = false →
          Ends (.nms t r d closeCount truncated) s fun u => StatusIs u r h 0x0205 0 0 false false ∧ u.detect = s.detect ∧ u.launch = s.launch)
        ∧ ((∀ p ∈ reads, s.permits (hClass h) p.1 p.2 false = true) → s.permits (hClass h) carryPlace carryRoom true = true → s.permits (hClass h) place room true = true →
          d.upsets = [] →
          (∀ k, s.markRead reads = some k → Ends (.nms t r d closeCount truncated) s fun u => StatusIs u r h 0x0203 0 0 false false ∧ u.detect = s.detect ∧ u.launch = s.launch)
          ∧ (s.markRead reads = none → apart place room st 16 → apart carryPlace carryRoom st 16 → apart carryPlace carryRoom place room →
            ∃ (count : Nat) (cut : Bool),
              (∀ x, (s.streams[stream].closes.find? fun x => x.1 == tile) = some x → count = x.2.1 ∧ cut = x.2.2.2)
              ∧ ((∀ x ∈ s.streams[stream].closes, x.1 ≠ tile) → count = closeCount ∧ cut = truncated)
              ∧ (let batch : Batch := { closeCount := count, tileNumber := tile, stream := stream.val, flags := BitVec.ofNat 8 (b2n cut ||| at_ 1 1 (b2n (decide (4096 < lists.1.length))) ||| at_ 1 2 (b2n (decide (0 < res.dropped))) ||| at_ 1 4 (zf d 500 500) ||| at_ 1 5 (zf d 499 499)), candidates := lists.1.length, carriedOut := res.carry.length, records := s.withConfidence stream count res.out }
                Ends (.nms t r d closeCount truncated) s fun u =>
                  res.out.length ≤ zf d 287 272 ∧ res.carry.length ≤ zf d 271 256 ∧ (zf d 499 499 = 1 → res.carry = [])
                  ∧ u.load place (32 + 48 * res.out.length) = Batch_bytes batch
                  ∧ u.load carryPlace (8 + 64 * res.carry.length) = carryBytes stream.val res.carry
                  ∧ u.detect[stream].nextId = res.nextId ∧ u.detect[stream].lastNms = some (s.advance t).now ∧ u.detect[stream].carryAt = zf d 351 320 ∧ u.detect[stream].region = r
                  ∧ (∀ k : Fin 24, k ≠ stream → u.detect[k] = s.detect[k])
                  ∧ StatusIs u r h 0 (b2n (decide (4096 < lists.1.length)) ||| at_ 1 1 (b2n (decide (0 < res.dropped))) ||| at_ 1 2 (b2n (decide (0 < res.full)))) res.out.length false false
                  ∧ (hReleaseHold h = false → u.launch = s.launch)
                  ∧ (hReleaseHold h = true → s.bufferTakes (s.verdictOut stream.val) (releaseBeat s.beat (hReleaseBeat h)) = true →
                      u.launch = { s.launch with buffered := s.launch.buffered ++ [⟨releaseBeat s.beat (hReleaseBeat h), ⟨s.verdictOut stream.val, hClass h, ⟨true, false, .batch batch⟩, none⟩⟩] })
                  ∧ (lists.1.length ≤ 4096 → res.dropped = 0 → res.full = 0 → u.log = s.log)
                  ∧ ∀ (q : MemRef) (k : Nat), q.inside k = true → apart q k st 16 → apart q k place room → apart q k carryPlace carryRoom → u.load q k = s.load q k)))))
    ∧ ∀ n : Fin 24,
      let x := s.detect[n]
      let at' := rmemAt x.region.val x.carryAt
      let carry := s.carryList x.region x.carryAt
      (carry = [] ∨ x.lastNms = none ∨ (∃ k, x.lastNms = some k ∧ (s.advance t).now < k + 1000000 * s.nat (ob 0x3700 1)) → exec (.carryTimeout t n) s = .next (s.advance t))
      ∧ ∀ k, carry ≠ [] → x.lastNms = some k → k + 1000000 * s.nat (ob 0x3700 1) ≤ (s.advance t).now → at'.inside 8 = true →
        let batch : Batch := { closeCount := (s.advance t).now, tileNumber := 2 ^ 64 - 1, stream := n.val, flags := 8, candidates := 0, carriedOut := 0, records := s.withConfidence n (s.advance t).now (carry.map fun v => { v with flags := v.flags ||| 1 }) }
        Ends (.carryTimeout t n) s fun u => u.detect[n].lastNms = none ∧ u.carryList x.region x.carryAt = [] ∧ (∀ m : Fin 24, m ≠ n → u.detect[m] = s.detect[m])
          ∧ (∀ (q : MemRef) (k : Nat), q.inside k = true → apart q k at' 8 → u.load q k = s.load q k)
          ∧ u.obj (ob 0x3700 7) = (s.bump (ob 0x3700 7)).obj (ob 0x3700 7)
          ∧ u.log = ((s.advance t).fault 0x0505 { region := x.region.val, unit := n.val } (min carry.length 65535 ||| at_ 5 16 n.val) x.cls).log
          ∧ (FaultRec.make 0x0505 { region := x.region.val, unit := n.val } (min carry.length 65535 ||| at_ 5 16 n.val) 0 (s.advance t).now s.log.nextSeq).cls = 0
          ∧ (s.launch.run = none → u.launch = s.launch)
          ∧ ∀ run im, s.launch.run = some run → s.launch.image = some im →
            let due := run.firstBeatAt ((s.advance t).now + im.verdictDelay)
            s.bufferTakes (s.verdictOut n.val) due = true → u.launch = { s.launch with buffered := s.launch.buffered ++ [⟨due, ⟨s.verdictOut n.val, x.cls, ⟨true, false, .batch batch⟩, none⟩⟩] }

/-! ## Attention -/

/-- O56. R165, R179, R203, R246 to R248, R250 to R256, R259, R260, R263, R264: an attention descriptor that breaks its map, names a pool that is off or another region's, or of another class, ends with its status; an append writes its source row and latents and lengthens its sequence, or ends KV_EXHAUSTED with its cause; ATTEND writes the output of every query and head, or ends because a shard is missing, or stalls its sequence at a record that fails its CRC. Where several causes refuse a header, the order in which they are looked at is the model's choice (log entry 60). -/
def Obligations.AttentionAppendsAndAttends : Prop :=
  ∀ (s : State) (t : Nat) (r : Fin 10),
    let apart := fun (q : MemRef) (k : Nat) (p : MemRef) (n : Nat) => q.space ≠ p.space ∨ q.key + k ≤ p.key ∨ p.key + n ≤ q.key
    let admitted := fun (h : BitVec 128) (queue : Nat) => ZooStarts s r h ∧ HeaderOk s r h 0x11 (hClass h == queue) (get? s.regions[r].prevSeq (zooQueue 0x11 queue 0))
    let owned := fun (h : BitVec 128) (p : Fin 4) => s.flag (poolObj p 1) = true ∧ s.nat (poolObj p 3) = r.val ∧ s.nat (poolObj p 2) = hClass h
    (∀ (c : Instr) (p : Fin 4) (h : BitVec 128) (queue : Nat) (ok : Bool),
      (∃ d, c = .kvAppend t r d ∧ p = d.pool ∧ h = d.header ∧ queue = d.queue ∧ ok = appendOk d)
        ∨ (∃ d missing, c = .attend t r d missing ∧ p = aPool d ∧ h = d.header ∧ queue = d.queue ∧ ok = attendOk d)
        ∨ (∃ d, (c = .pageCtrlOpen t r d ∨ c = .pageCtrlClose t r d ∨ c = .pageCtrlTrim t r d ∨ c = .pageCtrlPin t r d ∨ c = .pageCtrlUnpin t r d ∨ c = .pageCtrlResume t r d
            ∨ c = .pageCtrlSet t r d) ∧ p = d.pool ∧ h = d.header ∧ queue = d.queue ∧ ok = (hOperation d.header == 3)) →
      let st := rmemAt r.val (hStatusAddr h)
      let kept := fun u : State => (∀ (q : MemRef) (k : Nat), q.inside k = true → apart q k st 16 → u.load q k = s.load q k) ∧ u.kv = s.kv ∧ u.launch = s.launch
      (ZooStarts s r h → headerInvalid h 0x11 = true → s.permits (hClass h) st 16 true = true → st.inside 16 = true → Ends c s fun u => StatusIs u r h 0x0200 0 0 false false ∧ kept u)
      ∧ (admitted h queue →
        (ok = false ∨ s.flag (poolObj p 1) = false ∨ s.nat (poolObj p 3) ≠ r.val → Ends c s fun u => StatusIs u r h 0x0200 0x0600 0 false false ∧ kept u
          ∧ u.log = ((s.advance t).fault 0x0601 (poolLoc r p) (at_ 32 32 (hSequence h) ||| at_ 8 0 (hOperation h)) (hClass h)).log)
        ∧ (ok = true → s.flag (poolObj p 1) = true → s.nat (poolObj p 3) = r.val → s.nat (poolObj p 2) ≠ hClass h → Ends c s fun u => StatusIs u r h 0x0205 0 0 false false ∧ kept u)))
    ∧ (∀ d : AppendDesc,
      let h := d.header
      let n := d.sequence
      let row := rmemAt r.val d.source
      let exhausted := fun (u : State) (cause : Nat) => StatusIs u r h 0x0600 cause 0 false false
      let told := fun (u : State) (cause : Nat) => u.log = ((s.advance t).fault 0x0602 (poolLoc r d.pool) (at_ 32 32 (hSequence h) ||| at_ 12 20 n ||| at_ 8 0 cause) (hClass h)).log
      admitted h d.queue → appendOk d = true → owned h d.pool →
      (s.seqOf n = none → Ends (.kvAppend t r d) s fun u => StatusIs u r h 0x0200 0x0600 0 false false ∧ u.kv = s.kv)
      ∧ ∀ q, s.seqOf n = some q → q.pool = d.pool →
        let places := s.appendPlaces r q d
        (q.state = 2 → Ends (.kvAppend t r d) s fun u => exhausted u 1 ∧ u.kv = s.kv ∧ u.log = s.log)
        ∧ (q.state ≠ 2 →
          (2 ^ 20 < s.untrimmed + d.tokens → Ends (.kvAppend t r d) s fun u => exhausted u 2 ∧ u.kv = s.kv ∧ told u 2)
          ∧ (s.untrimmed + d.tokens ≤ 2 ^ 20 → s.logRows < q.length - q.firstValid + d.tokens → Ends (.kvAppend t r d) s fun u => exhausted u 3 ∧ u.kv = s.kv ∧ told u 3)
          ∧ (s.untrimmed + d.tokens ≤ 2 ^ 20 → q.length - q.firstValid + d.tokens ≤ s.logRows →
            ((∃ x ∈ places, s.badPlace x.1 x.2.1 = true) → Ends (.kvAppend t r d) s fun u => StatusIs u r h 0x0202 0 0 false false ∧ u.kv = s.kv)
            ∧ ((∀ x ∈ places, s.badPlace x.1 x.2.1 = false) →
              ((∃ x ∈ places, s.permits (hClass h) x.1 x.2.1 x.2.2 = false) → Ends (.kvAppend t r d) s fun u => StatusIs u r h 0x0205 0 0 false false ∧ u.kv = s.kv)
              ∧ ((∀ x ∈ places, s.permits (hClass h) x.1 x.2.1 x.2.2 = true) → s.badRecord d.pool n = false → s.badEntries d.pool (s.fillingPages d.pool n) = [] → d.upsets = [] →
                (∀ k, s.markRead [(row, d.tokens * rowBytes q.srcFormat q.dSrc)] = some k → Ends (.kvAppend t r d) s fun u => StatusIs u r h 0x0203 0 0 false false ∧ u.kv = s.kv)
                ∧ (s.markRead [(row, d.tokens * rowBytes q.srcFormat q.dSrc)] = none →
                  (s.kvPlace d.pool = none → s.ensureAll d.pool n (q.layers + 1) q.length d.tokens q.resident = none →
                    Ends (.kvAppend t r d) s fun u => exhausted u 1 ∧ told u 1 ∧ u.seqOf n = some { q with state := 2 } ∧ u.kv.pages = s.kv.pages)
                  ∧ (d.tokens = 1 → q.dSrc % 64 = 0 → (∀ l ≤ q.layers, ∃ x ∈ s.kv.pages[d.pool], x.seq = n ∧ x.layer = l ∧ x.firstToken = q.length / 256 * 256) →
                    let source := unpackElems q.srcFormat q.dSrc (s.load row (rowBytes q.srcFormat q.dSrc))
                    let slot := logPlace q s.logRows q.length
                    let after := s.store slot (packElems q.srcFormat source)
                    Ends (.kvAppend t r d) s fun u => u.seqOf n = some { q with length := q.length + 1 } ∧ (∀ m, m ≠ n → u.seqOf m = s.seqOf m)
                      ∧ u.kv.pages[d.pool] = (List.range (q.layers + 1)).foldl (fun ps l => addRow (s.latentFmt d.pool) ps n l q.length (after.latentRow n q l source).codes) s.kv.pages[d.pool]
                      ∧ (∀ k : Fin 4, k ≠ d.pool → u.kv.pages[k] = s.kv.pages[k]) ∧ u.launch = s.launch ∧ u.log = s.log
                      ∧ (s.kvPlace d.pool = none → u.load slot (rowBytes q.srcFormat q.dSrc) = packElems q.srcFormat source ∧ StatusIs u r h 0 0 1 false false))))))))
    ∧ ∀ (d : ZooDesc) (missing : Option Nat),
      let h := d.header
      let p := aPool d
      let n := af d 511 500
      let layer := af d 497 491
      let st := rmemAt r.val (hStatusAddr h)
      admitted h d.queue → attendOk d = true → owned h p →
      (s.seqOf n = none → Ends (.attend t r d missing) s fun u => StatusIs u r h 0x0200 0x0600 0 false false ∧ u.kv = s.kv)
      ∧ ∀ q, s.seqOf n = some q → q.pool = p → layer ≤ q.layers →
        (q.state = 2 → Ends (.attend t r d missing) s fun u => StatusIs u r h 0x0600 1 0 false false ∧ u.kv = s.kv ∧ u.log = s.log)
        ∧ (q.state ≠ 2 →
          ((∃ x ∈ s.attendPlaces r d, s.badPlace x.1 x.2.1 = true) → Ends (.attend t r d missing) s fun u => StatusIs u r h 0x0202 0 0 false false ∧ u.kv = s.kv)
          ∧ ((∀ x ∈ s.attendPlaces r d, s.badPlace x.1 x.2.1 = false ∧ s.permits (hClass h) x.1 x.2.1 x.2.2 = true) →
            (∀ k, s.missingShard d missing = some k → Ends (.attend t r d missing) s fun u => StatusIs u r h 0x0F00 0x0603 0 true false ∧ u.kv = s.kv
              ∧ u.log = ((s.advance t).fault 0x0603 (poolLoc r p) (at_ 32 32 (hSequence h) ||| at_ 8 8 k ||| (if aRing d then 1 else 2)) (hClass h)).log)
            ∧ (s.missingShard d missing = none →
              (∀ k, s.kvPlace p = some k → s.badRecord p n = true → apart (s.recordPlace p k n) 32 st 16 → Ends (.attend t r d missing) s fun u =>
                StatusIs u r h 0x0203 0x0606 0 true false ∧ u.seqOf n = some { q with state := 2 } ∧ u.kv.pages = s.kv.pages
                ∧ u.log = ((s.advance t).fault 0x0606 (poolLoc r p) (at_ 12 0 n) (hClass h)).log)
              ∧ (s.badRecord p n = false → s.badEntries p (s.rangePages p n layer (s.ownRange r d)) = [] → d.upsets = [] →
                (∀ k, s.markRead (s.attendReads r d) = some k → Ends (.attend t r d missing) s fun u => StatusIs u r h 0x0203 0 0 false false ∧ u.kv = s.kv ∧ u.launch = s.launch)
                ∧ (s.markRead (s.attendReads r d) = none → hReleaseHold h = false → aShards d = 1 → s.droppedIn p n [layer] (af d 383 352) (af d 351 320) = [] →
                  let out := outPlace r d 0 0
                  let bytes := af d 447 416 * aHeads d * outBytes d
                  let part := fun i head : Nat => mergeParts (aDim d) [s.partOver r d q.firstValid i head ⟨af d 383 352, af d 351 320, none⟩]
                  let width := if aPartial d = true ∨ af d 460 453 = 1 then 4 else 2
                  apart out bytes st 16 → Ends (.attend t r d missing) s fun u =>
                    (∀ i head, i < af d 447 416 → head < aHeads d → u.load (outPlace r d i head) (outBytes d) = (partOut d i head (part i head)).1.flatMap fun w => leBytes width w.toNat)
                    ∧ (∃ detail, StatusIs u r h 0 detail (af d 447 416 * aHeads d) false false
                      ∧ ((∀ i head, i < af d 447 416 → head < aHeads d → (part i head).nan = false ∧ (part i head).m.isSome = true) → detail = 0))
                    ∧ u.kv = s.kv ∧ u.launch = s.launch ∧ u.log = s.log
                    ∧ ∀ (q' : MemRef) (k : Nat), q'.inside k = true → apart q' k st 16 → apart q' k out bytes → u.load q' k = s.load q' k)))))

/-- O57. R246 to R248, R257, R260, R261: a permitted page control changes its sequence and its pages and nothing else: OPEN makes a closed sequence active, CLOSE frees its pages and the sequence, TRIM frees the pages below the new first position, PIN and UNPIN change the pins of a range, RESUME ends a stall, SET changes priority and pins; each refuses a sequence in the wrong state; where the image gives the pool's records a place, what lies there goes on to be the sequence's record. -/
def Obligations.PageControlsChangeTheirSequence : Prop :=
  ∀ (s : State) (t : Nat) (r : Fin 10) (d : PageDesc),
    let h := d.header
    let n := d.sequence
    let p := d.pool
    let st := rmemAt r.val (hStatusAddr h)
    let kept := fun u : State => (s.kvPlace p = none → ∀ (q : MemRef) (k : Nat), q.inside k = true → (q.space ≠ st.space ∨ q.key + k ≤ st.key ∨ st.key + 16 ≤ q.key) → u.load q k = s.load q k) ∧ u.launch = s.launch
    let shown := fun (u : State) (old new : Bytes) => ∀ k, s.kvPlace p = some k →
      let at' := s.recordPlace p k n
      at'.inside 32 = true → (at'.key + 32 ≤ st.key ∨ st.key + 16 ≤ at'.key) → (old = [] ∨ s.load at' 32 = old) → u.load at' 32 = new
    let done := fun u : State => (s.kvPlace p = none → StatusIs u r h 0 0 0 false false) ∧ kept u ∧ u.log = s.log ∧ (∀ m, m ≠ n → u.seqOf m = s.seqOf m) ∧ ∀ k : Fin 4, k ≠ p → u.kv.pages[k] = s.kv.pages[k]
    let refused := fun u : State => StatusIs u r h 0x0200 0x0600 0 false false ∧ kept u ∧ u.kv = s.kv
    ZooStarts s r h → HeaderOk s r h 0x11 (hClass h == d.queue) (get? s.regions[r].prevSeq (zooQueue 0x11 d.queue 0)) → hOperation h = 3 → s.flag (poolObj p 1) = true → s.nat (poolObj p 3) = r.val →
    s.nat (poolObj p 2) = hClass h →
    ((s.seqOf n).isSome = true ∨ s.openOk d = false → Ends (.pageCtrlOpen t r d) s refused)
    ∧ (s.seqOf n = none →
      (s.openOk d = true → Ends (.pageCtrlOpen t r d) s fun u => done u ∧ u.seqOf n = some (openedSeq d) ∧ u.kv.pages = s.kv.pages ∧ shown u [] (s.seqBytes n (openedSeq d)))
      ∧ ∀ c : Instr, c = .pageCtrlClose t r d ∨ c = .pageCtrlTrim t r d ∨ c = .pageCtrlPin t r d ∨ c = .pageCtrlUnpin t r d ∨ c = .pageCtrlResume t r d ∨ c = .pageCtrlSet t r d → Ends c s refused)
    ∧ ∀ q, s.seqOf n = some q → q.pool = p →
      let old := s.seqBytes n q
      (Ends (.pageCtrlClose t r d) s fun u => done u ∧ u.seqOf n = none ∧ u.kv.pages[p] = (s.kv.pages[p].filter fun x => x.seq != n) ∧ shown u old (u.seqBytes n { q with state := 0 }))
      ∧ (d.pos0 % 256 ≠ 0 ∨ d.pos0 < q.firstValid ∨ q.length < d.pos0 → Ends (.pageCtrlTrim t r d) s refused)
      ∧ (d.pos0 % 256 = 0 → q.firstValid ≤ d.pos0 → d.pos0 ≤ q.length → Ends (.pageCtrlTrim t r d) s fun u => done u ∧ u.seqOf n = some { q with firstValid := d.pos0 }
          ∧ u.kv.pages[p] = (s.kv.pages[p].filter fun x => x.seq != n || decide (d.pos0 < x.firstToken + 256)) ∧ shown u old (u.seqBytes n { q with firstValid := d.pos0 }))
      ∧ (q.state ≠ 1 ∨ d.pos1 < d.pos0 → Ends (.pageCtrlPin t r d) s refused)
      ∧ (q.state = 1 → d.pos0 ≤ d.pos1 → s.droppedIn p n (List.range (q.layers + 1)) d.pos0 d.pos1 = [] → Ends (.pageCtrlPin t r d) s fun u => done u ∧ u.seqOf n = some q
          ∧ u.kv.pages[p] = s.kv.pages[p].map fun x => if inRange d x then { x with pins := min 255 (x.pins + 1) } else x)
      ∧ (d.pos1 < d.pos0 → Ends (.pageCtrlUnpin t r d) s refused)
      ∧ (d.pos0 ≤ d.pos1 → Ends (.pageCtrlUnpin t r d) s fun u => done u ∧ u.seqOf n = some q
          ∧ u.kv.pages[p] = s.kv.pages[p].map fun x => if inRange d x then { x with pins := x.pins - 1 } else x)
      ∧ (q.state ≠ 2 → Ends (.pageCtrlResume t r d) s refused)
      ∧ (q.state = 2 → Ends (.pageCtrlResume t r d) s fun u => done u ∧ u.seqOf n = some { q with state := 1 } ∧ u.kv.pages = s.kv.pages ∧ shown u old (u.seqBytes n { q with state := 1 }))
      ∧ (d.priority < 16 → d.pinHead < 65536 → d.pinTail < 65536 → Ends (.pageCtrlSet t r d) s fun u => done u ∧ u.kv.pages = s.kv.pages
          ∧ u.seqOf n = some { q with priority := d.priority, pinHead := d.pinHead, pinTail := d.pinTail }
          ∧ shown u old (u.seqBytes n { q with priority := d.priority, pinHead := d.pinHead, pinTail := d.pinTail }))
      ∧ (16 ≤ d.priority ∨ 65536 ≤ d.pinHead ∨ 65536 ≤ d.pinTail → Ends (.pageCtrlSet t r d) s refused)

/-! ## Cameras -/

/-- O58. R268, R271, R272, R276, R285 to R289, R292, R295 to R297: a camera that does not answer does not start; a line without a trigger is discarded and counted; a good line reaches its stripe, and the next line of a frame joins it; a line with an error is blank and recorded; a late one cuts its tile; a silent stream is stale; unacknowledged settings leave their tag unconfirmed; a register request answers in its object; event packets are counted. -/
def Obligations.CameraLinesArriveOrAreBlanked : Prop :=
  ∀ (s : State) (t : Nat) (n : Fin 24),
    let x := s.streams[n]
    let now := (s.advance t).now
    let offset := s.nat (camObj n 0x12)
    let limit := s.nat (camObj n 0x13)
    let others := fun u : State => ∀ m : Fin 24, m ≠ n → u.streams[m] = s.streams[m]
    (x.state ≠ 1 → exec (.cameraDiscoveryTimeout t n) s = .next (s.advance t))
    ∧ (x.state = 1 → exec (.cameraDiscoveryTimeout t n) s = .next (({ s.advance t with streams := upd s.streams n fun y => { y with state := 5 } } : State).fault 0x0701 (.ofUnit n.val)
        (at_ 8 8 2 ||| at_ 8 0 (s.nat (camObj n 2)))))
    ∧ (∀ l : CamLine,
      (x.started = false → exec (.cameraLineReceived t n l) s = .next (s.advance t))
      ∧ (x.started = true → x.triggers = [] → s.nat (camObj n 4) ≠ 1 ∨ x.lineOfFrame = 0 → exec (.cameraLineReceived t n l) s =
          .next (({ s.advance t with streams := upd s.streams n fun y => { y with extra := (y.extra + 1) % 2 ^ 32 } } : State).fault 0x0707 (.ofUnit n.val) ((x.extra + 1) % 2 ^ 32))
          ∧ (FaultRec.make 0x0707 (.ofUnit n.val) ((x.extra + 1) % 2 ^ 32) 0 now s.log.nextSeq).cls = 0)
      ∧ (∀ trigger count rest, x.started = true → s.nat (camObj n 4) ≠ 1 → x.triggers = (trigger, count) :: rest → x.state ≠ 3 → x.cut = none → x.tileOpen = true → x.tile = trigger / 1024 →
          trigger % 1024 ≠ 1023 → s.counterStep n l = 1 → 0 < s.frozenLimit n.val →
          let phase := trigger % max 1 (s.nat (camObj n 9))
          let i := s.isp n phase
          get? x.hashes phase ≠ some (crc32 (rawBytes i.depth l.samples)) →
          let taken := fun u : State => u.streams[n].received = (x.received + 1) % 2 ^ 64 ∧ u.streams[n].triggers = rest ∧ u.streams[n].counter = some l.counter
            ∧ u.streams[n].lastLine = trigger ∧ others u ∧ u.launch = s.launch
          (i.lineError l = 0 → l.inputFull = false → l.creditMissing = false → now ≤ count + offset + limit → ∀ e, s.stripes n.val = [e] →
            let codes := ((((i.pixels [(false, i.blackLevel 0 l.samples)] 0).map fun p => p.map fun v => (i.output v).code).drop e.x0).take e.width).flatten
            let place : MemRef := ⟨2, e.region.val, e.block.val, e.base + trigger % max 1 e.ringLines * e.stride⟩
            place.inside (packElems i.format codes).length = true → Ends (.cameraLineReceived t n l) s fun u =>
              u.load place (packElems i.format codes).length = packElems i.format codes ∧ taken u ∧ u.streams[n].blanked = x.blanked ∧ u.streams[n].cut = none ∧ u.log = s.log
              ∧ ∀ (q : MemRef) (k : Nat), q.inside k = true → (q.space ≠ 2 ∨ q.key + k ≤ place.key ∨ place.key + (packElems i.format codes).length ≤ q.key) → u.load q k = s.load q k)
          ∧ (i.lineError l ≠ 0 → l.inputFull = false → l.creditMissing = false → now ≤ count + offset + limit → x.tileBlanks + 1 ≤ s.nat (camObj n 0x14) →
              Ends (.cameraLineReceived t n l) s fun u => taken u ∧ u.streams[n].blanked = (x.blanked + 1) % 2 ^ 64 ∧ u.streams[n].cut = none ∧ u.streams[n].tileBlanks = x.tileBlanks + 1
                ∧ u.log = ((s.advance t).fault 0x0704 (.ofUnit n.val) (at_ 32 32 trigger ||| at_ 8 0 (i.lineError l))).log)
          ∧ (l.inputFull = false → l.creditMissing = false → count + offset + limit < now → Ends (.cameraLineReceived t n l) s fun u =>
              taken u ∧ u.streams[n].blanked = (x.blanked + 1) % 2 ^ 64 ∧ u.streams[n].cut = some 3
              ∧ u.log = ((s.advance t).fault 0x0703 (.ofUnit n.val) (at_ 32 32 trigger ||| at_ 8 16 3 ||| at_ 16 0 (1024 - trigger % 1024))).log))
      ∧ (x.started = true → s.nat (camObj n 4) = 1 → x.lineOfFrame ≠ 0 → x.counter = some l.counter → x.state ≠ 3 → x.cut = none → now ≤ x.frame.2 + offset + limit →
          let i := s.isp n (x.frame.1 % max 1 (s.nat (camObj n 9)))
          x.lineOfFrame + 1 < i.height → (x.lineOfFrame + 1) % 1024 ≠ 0 → x.lineOfFrame ≠ i.lastHashed → i.lineError l = 0 → l.inputFull = false → l.creditMissing = false →
          Ends (.cameraLineReceived t n l) s fun u => u.streams[n].rows = x.rows ++ [(false, i.blackLevel x.lineOfFrame l.samples)] ∧ u.streams[n].lineOfFrame = x.lineOfFrame + 1
            ∧ u.streams[n].received = (x.received + 1) % 2 ^ 64 ∧ u.streams[n].frame = x.frame ∧ u.streams[n].triggers = x.triggers ∧ u.log = s.log ∧ others u ∧ u.launch = s.launch))
    ∧ ((s.nat (camObj n 4) ≠ 1 ∨ x.lineOfFrame = 0) →
      (x.triggers = [] ∨ (∃ e rest, x.triggers = e :: rest ∧ now < e.2 + offset + limit) → exec (.lineLate t n) s = .next (s.advance t))
      ∧ ∀ trigger count rest, x.triggers = (trigger, count) :: rest → count + offset + limit ≤ now → s.nat (camObj n 4) ≠ 1 →
        (x.state = 3 → x.tileOpen = true → x.tile = trigger / 1024 → exec (.lineLate t n) s = .next { s.advance t with streams := upd s.streams n fun y =>
            { y with missedAt := some (y.missedAt.getD (count + offset)), triggers := rest, clean := 0 } })
        ∧ (x.state ≠ 3 → x.cut = none → x.tileOpen = true → x.tile = trigger / 1024 → trigger % 1024 ≠ 1023 → Ends (.lineLate t n) s fun u =>
            u.streams[n].cut = some 3 ∧ u.streams[n].triggers = rest ∧ u.streams[n].blanked = (x.blanked + 1) % 2 ^ 64 ∧ u.streams[n].missedAt = some (x.missedAt.getD (count + offset))
            ∧ u.log = ((s.advance t).fault 0x0703 (.ofUnit n.val) (at_ 32 32 trigger ||| at_ 8 16 3 ||| at_ 16 0 (1024 - trigger % 1024))).log ∧ others u ∧ u.launch = s.launch))
    ∧ (s.silentSince n = none ∨ x.state = 0 ∨ x.state = 3 ∨ (∃ k, s.silentSince n = some k ∧ now < k + 1000 * s.nat (crustStream n 2)) → exec (.streamSilent t n) s = .next (s.advance t))
    ∧ (∀ k, s.silentSince n = some k → k + 1000 * s.nat (crustStream n 2) ≤ now → x.state ≠ 0 → x.state ≠ 3 → Ends (.streamSilent t n) s fun u =>
        u.streams[n].state = 3 ∧ u.streams[n].clean = 0 ∧ u.streams[n].cut = some 6 ∧ u.streams[n].latched = decide (s.nat (crustStream n 4) ≠ 0) ∧ others u
        ∧ (s.nat (crustStream n 4) = 0 → s.nat (camObj n 4) ≠ 1 → x.triggers = [] → x.tileOpen = false → u.log = ((s.advance t).fault 0x0705 (.ofUnit n.val) 3).log ∧ u.mem = s.mem)
        ∧ (s.nat (crustStream n 4) ≠ 0 → ∃ g ∈ u.crust.latches, g.cause = 9 ∧ g.streams.getLsbD n.val = true))
    ∧ (∀ entry : Nat,
      ((∀ e ∈ x.settings, now < e.2) → exec (.cameraSettingsTimeout t n entry) s = .next (s.advance t))
      ∧ ∀ e, (x.settings.filter fun e => decide (e.2 ≤ now)).getLast? = some e → exec (.cameraSettingsTimeout t n entry) s =
          .next (({ s.advance t with streams := upd s.streams n fun y =>
            { y with tags := y.tags.map (fun g => if g.tag = e.1 then { g with unconfirmed := true } else g), settings := y.settings.filter fun e => decide (now < e.2) } } : State).fault
              0x0708 (.ofUnit n.val) (at_ 8 16 entry ||| at_ 16 0 e.1)))
    ∧ (∀ (ses : Session) (request : Bytes) (error : Nat) (answer : Bytes), WritesAct s ses → request.length = 10 →
      let answers := fun v : Bytes => Books ((s.advance t).setObj (ob 0x2801 2) (.bytes v))
      let c : Instr := .cameraRegisterRequest t ses request error answer
      (24 ≤ leAt request 0 1 → ServedWith c s ses (answers (leBytes 4 0x06090030)))
      ∧ (leAt request 0 1 = n.val → x.started = false → ServedWith c s ses (answers (leBytes 4 0x08000022)))
      ∧ (leAt request 0 1 = n.val → x.started = true →
        (leAt request 1 1 = 1 → error ≠ 0 → ServedWith c s ses (answers (leBytes 4 error)))
        ∧ (leAt request 1 1 = 1 → error = 0 → answer.length = 4 → ServedWith c s ses (answers (leBytes 4 0 ++ answer)))
        ∧ (leAt request 1 1 = 2 → ServedWith c s ses fun u => answers (leBytes 4 error) u ∧ .cameraWrite n.val (leAt request 2 8) ∈ u.outbox)))
    ∧ ∀ conn : Fin 32, exec (.coaxpressEventPacket t conn) s = .next { s.advance t with service := { s.service with ignoredPackets := upd s.service.ignoredPackets conn (· + 1) } }

/-! ## Illumination heads -/

/-- O59. R302 to R310: authentication, the serial poll, the wear record, the end of a compensation interval, a drive write that is not acknowledged and the capture of a target, each for a head that is off and for one that is on, when it is due, by its outcomes; no other head changes. -/
def Obligations.HeadsAreAuthenticatedWornAndDriven : Prop :=
  ∀ (s : State) (t : Nat) (h : Fin 12),
    let x := s.heads[h]
    let now := (s.advance t).now
    let others := fun u : State => (∀ k : Fin 12, k ≠ h → u.heads[k] = s.heads[k]) ∧ u.mem = s.mem ∧ u.launch = s.launch
    let bare := x.untrustedAt.isSome && x.trustedAt.isNone
    let pollDue := (s.advance t).due x.polledAt 1000000000
    let wearDue := (s.advance t).due x.wearAt headInterval
    let intervalDue := (s.advance t).due x.intervalAt headInterval
    (s.headOn h.val = false → (∀ mem answer, exec (.headAuthentication t h mem answer) s = .next (s.advance t)) ∧ (∀ serial, exec (.headSerialPoll t h serial) s = .next (s.advance t))
      ∧ (∀ acked, exec (.wearRecordWrite t h acked) s = .next (s.advance t)))
    ∧ ((s.advance t).authDue h = false → ∀ mem answer, exec (.headAuthentication t h mem answer) s = .next (s.advance t))
    ∧ (pollDue = false → ∀ serial, exec (.headSerialPoll t h serial) s = .next (s.advance t))
    ∧ (wearDue = false → ∀ acked, exec (.wearRecordWrite t h acked) s = .next (s.advance t))
    ∧ (s.headOn h.val = true →
      ((s.advance t).authDue h = true → ∀ mem : HeadMemory,
        let nonce := leBytes 16 (Config.nonce s.service.entropy)
        let asked := fun u : State => .headWrite h.val 0x80 nonce ∈ u.outbox ∧ others u
        let safe := fun (u : State) (state : Nat) => u.heads[h].state = state ∧ u.heads[h].safe = true ∧ u.heads[h].drive = s.nat (ob 0x2C00 5) ∧ u.heads[h].pulses = x.pulses
        (x.silentTries ≠ 2 → Ends (.headAuthentication t h mem .silent) s fun u => asked u ∧ u.heads[h] = { x with authAt := some now, silentTries := x.silentTries + 1 } ∧ u.log = s.log)
        ∧ (x.silentTries = 2 → Ends (.headAuthentication t h mem .silent) s fun u => asked u ∧ safe u 1 ∧ u.log = ((s.advance t).fault 0x0804 (.ofUnit h.val) 1).log)
        ∧ (Ends (.headAuthentication t h mem .late) s fun u => asked u ∧ safe u 4 ∧ u.log = ((s.advance t).fault 0x0801 (.ofUnit h.val) 2).log)
        ∧ (∀ r : Bytes,
          (leAt mem.identity 0 2 ≠ 0xA1C3 ∨ leAt mem.identity 2 2 ≠ 1 → Ends (.headAuthentication t h mem (.response r)) s fun u => asked u ∧ safe u 4 ∧ u.log = ((s.advance t).fault 0x0801 (.ofUnit h.val) 3).log)
          ∧ (leAt mem.identity 0 2 = 0xA1C3 → leAt mem.identity 2 2 = 1 →
            (r ≠ (hmac (hmac (s.raw (ob 0x2C00 2)) (ascii "TUITHEAD" ++ serialOf mem.identity)) (nonce ++ mem.identity)).take 16 →
              Ends (.headAuthentication t h mem (.response r)) s fun u => asked u ∧ safe u 4 ∧ u.log = ((s.advance t).fault 0x0801 (.ofUnit h.val) 1).log)
            ∧ (r = (hmac (hmac (s.raw (ob 0x2C00 2)) (ascii "TUITHEAD" ++ serialOf mem.identity)) (nonce ++ mem.identity)).take 16 →
              Ends (.headAuthentication t h mem (.response r)) s fun u => asked u ∧ u.heads[h].state = 3 ∧ u.heads[h].safe = false ∧ u.heads[h].silentTries = 0
                ∧ u.heads[h].identity = mem.identity ∧ u.heads[h].serial = serialOf mem.identity ∧ u.heads[h].drive = s.nat (headObj h.val 8)))))
      ∧ (pollDue = true → exec (.headSerialPoll t h (some x.serial)) s = .next { s.advance t with heads := upd s.heads h fun y => { y with polledAt := some now, silentTries := 0 } })
      ∧ (pollDue = true → ∀ b, x.serial = [] → exec (.headSerialPoll t h (some b)) s =
          .next { s.advance t with heads := upd s.heads h fun y => { y with serial := b, polledAt := some now, silentTries := 0 } })
      ∧ (pollDue = true → x.silentTries ≠ 2 → exec (.headSerialPoll t h none) s =
          .next { s.advance t with heads := upd s.heads h fun y => { y with polledAt := some now, silentTries := y.silentTries + 1 } })
      ∧ (pollDue = true → ∀ b, x.serial ≠ [] → x.serial ≠ b → Ends (.headSerialPoll t h (some b)) s fun u => u.heads[h].serial = b ∧ u.heads[h].state = 2 ∧ u.heads[h].safe = true ∧ u.heads[h].pulses = 0
          ∧ u.heads[h].onTimeNs = 0 ∧ u.heads[h].unsaved = 0 ∧ others u ∧ u.log = ((s.advance t).fault 0x0804 (.ofUnit h.val) (at_ 32 32 (min (2 ^ 32 - 1) x.unsaved) ||| 2)).log)
      ∧ (wearDue = true → ∀ acked : Bool,
        (x.state = 2 → exec (.wearRecordWrite t h acked) s = .next { s.advance t with heads := upd s.heads h fun y => { y with wearAt := some now, wearDue := true } })
        ∧ (x.state ≠ 2 → x.safe = true → exec (.wearRecordWrite t h acked) s = .next { s.advance t with heads := upd s.heads h fun y => { y with wearAt := some now } })
        ∧ (x.state ≠ 2 → x.safe = false → x.lifeReached 900 = false → x.noWear = false → Ends (.wearRecordWrite t h acked) s fun u =>
            .headWrite h.val (if x.slotA then 0x60 else 0x40) (s.wearRecord h) ∈ u.outbox ∧ others u
            ∧ u.heads[h] = (if acked then { x with wearAt := some now, wearDue := false, wearSeq := (x.wearSeq + 1) % 2 ^ 32, slotA := !x.slotA, unsaved := 0 } else { x with wearAt := some now, wearDue := false })
            ∧ u.log = (if acked then s.log else ((s.advance t).fault 0x0805 (.ofUnit h.val) ((x.wearSeq + 1) % 2 ^ 32)).log))))
    ∧ (∀ ses : Session, WritesAct s ses →
      (intervalDue = false → exec (.compensationIntervalEnd t h) s = .next (s.advance t))
      ∧ (intervalDue = true → x.means = [] ∨ s.headOn h.val = false →
          exec (.compensationIntervalEnd t h) s = .next { s.advance t with heads := upd s.heads h fun y => { y with means := [], capture := false, intervalAt := some now } })
      ∧ (intervalDue = true → x.means ≠ [] → s.headOn h.val = true →
        let m := meanOfMeans x.means
        (x.safe = true ∨ s.flag (headObj h.val 9) = false → Ends (.compensationIntervalEnd t h) s fun u => u.heads[h] = { x with means := [], capture := false, intervalAt := some now, lastM := BitVec.ofNat 32 m }
            ∧ others u ∧ u.log = s.log ∧ u.nat (headObj h.val 8) = s.nat (headObj h.val 8) ∧ (x.capture = true → u.obj (headObj h.val 7) = .int m))
        ∧ (let target := num32 (s.nat (headObj h.val 7))
          let d := s.nat (headObj h.val 8)
          let step := driveStep d target (num32 m) x.maxDrive
          x.safe = false → s.flag (headObj h.val 9) = true → x.capture = false → target.isZero = false → (num32 m).isZero = false → (num32 m).neg = false → (num32 m).special = false →
            x.atLimit = false → bare = false → x.endOfLife = false → ((Exact.ofInt x.maxDrive).sub step.2).neg = false →
            (step.1 = d → Ends (.compensationIntervalEnd t h) s fun u => u.heads[h] = { x with means := [], capture := false, intervalAt := some now, lastM := BitVec.ofNat 32 m } ∧ others u ∧ u.log = s.log)
            ∧ (step.1 ≠ d → ((s.advance t).endInterval h).1.takeIdent.firstFailing [(headObj h.val 8, .int step.1.toNat)] = none → Ends (.compensationIntervalEnd t h) s fun u =>
                u.obj (headObj h.val 8) = .int step.1.toNat ∧ u.heads[h].drive = step.1.toNat ∧ u.heads[h].means = [] ∧ .headWrite h.val 0xA0 (leBytes 2 step.1.toNat) ∈ u.outbox ∧ u.log = s.log)))
      ∧ (ChecksPass s t (headObj h.val 0x0A) (.int 1) → ServedWith (.captureReferenceTarget t ses h) s ses (Books { s.advance t with heads := upd s.heads h fun y => { y with capture := true } })))
    ∧ (x.driveDue = none ∨ (∃ e, x.driveDue = some e ∧ now < e.2.2) → exec (.driveWriteTimeout t h) s = .next (s.advance t))
    ∧ ∀ e, x.driveDue = some e → e.2.2 ≤ now → Ends (.driveWriteTimeout t h) s fun u => u.heads[h] = { x with driveDue := none } ∧ others u
        ∧ u.log = ((s.advance t).fault 0x0807 (.ofUnit h.val) (at_ 16 0 e.1)).log
        ∧ ∀ n : Fin 24, u.streams[n] = (if bit (s.nat (headObj h.val 2)) n.val = true then
            { s.streams[n] with tags := s.streams[n].tags.map fun g => if g.commit = e.2.1 then { g with unconfirmed := true } else g } else s.streams[n])

/-! ## Sample intake -/

/-- O60. R72, R165, R311 to R325: the submitted count is written; an entry is taken when one is submitted and the buffer has a slot, and replaced with its reason where a check fails; a decode descriptor with an admitted header, a host return or its timeout finishes its sample, and a decode that needs more tokens than its cap ends DECODE_CAP; samples leave in order; a full batch is written into its ring slot against a credit; a flush pads the current batch. Where several causes refuse a header, the order in which they are looked at is the model's choice (log entry 60). -/
def Obligations.IntakeTakesChecksAndBatches : Prop :=
  ∀ (s : State) (t : Nat) (q : Fin 8),
    let x := s.intake[q]
    let obj := fun k : Nat => s.nat (intakeObj q.val k)
    let others := fun u : State => (∀ k : Fin 8, k ≠ q → u.intake[k] = s.intake[k]) ∧ u.launch = s.launch
    let filler := List.replicate (s.slotElems q.val) (s.filler q.val)
    let replaced := fun (a : Sample) (reason : Nat) => { a with status := 1, reason := reason, width := 0, height := 0, done := true, codes := filler }
    let counted := fun (u : State) (n reason : Nat) => u.intake[q].replaced = (x.replaced + 1) % 2 ^ 64 ∧ u.intake[q].lastReason = reason ∧ others u
      ∧ u.log = ((s.advance t).fault 0x0901 { region := obj 4, cell := reason, unit := q.val } n).log
    let told := fun (u : State) (n reason : Nat) => counted u n reason ∧ u.mem = s.mem
    let room := x.current.length < obj 7 ∧ x.partial_ = false ∧ x.flushAt = []
    (∀ (ses : Session) (count : Nat), WritesAct s ses → count < 2 ^ 64 → ChecksPass s t (intakeObj q.val 0x14) (.int count) →
      ServedWith (.submittedCountWrite t ses q count) s ses (Books ((s.advance t).setObj (intakeObj q.val 0x14) (.int count))))
    ∧ (∀ (e : BitVec 256) (source : Option Bytes) (generation : Nat),
      let c : Instr := .submissionEntryTaken t q e source generation
      (s.flag (intakeObj q.val 1) = false ∨ s.running = false ∨ obj 0x14 ≤ x.consumed ∨ 256 ≤ x.reorder.length → exec c s = .next (s.advance t))
      ∧ (s.flag (intakeObj q.val 1) = true → s.running = true → x.consumed < obj 0x14 → x.reorder.length < 256 →
        (∀ reason, s.checkEntry q.val e source generation = .inl reason → x.reorder = [] → room → Ends c s fun u => u.intake[q].consumed = x.consumed + 1 ∧ u.intake[q].reorder = []
          ∧ u.intake[q].current = x.current ++ [replaced { submission := x.consumed, label := eLabel e, site := 0, status := 0, reason := 0, width := 0, height := 0, codes := [], done := false, offered := (s.advance t).now, length := eLength e, maxTok := 1000 * obj 0x0E } reason]
          ∧ told u x.consumed reason)
        ∧ (∀ claim, s.checkEntry q.val e source generation = .inr claim →
          let sample := fun site : Nat => { submission := x.consumed, label := eLabel e, site := site, status := 0, reason := 0, width := claim.width, height := claim.height, codes := [], done := false, offered := (s.advance t).now, length := eLength e, maxTok := 1000 * obj 0x0E : Sample }
          let next := fun site : Nat => { s.advance t with intake := upd s.intake q fun y => { y with consumed := y.consumed + 1, reorder := y.reorder ++ [sample site] } }
          (s.site q.val e = 2 → exec c s = .next ((next 2).emit (.hostRequest q.val x.consumed (eAddress e) (x.consumed % 256))))
          ∧ (s.site q.val e ≠ 2 → exec c s = .next (next (s.site q.val e))))))
    ∧ (∀ (n : Nat) (h : BitVec 128) (tokens : Nat) (result : DecodeResult),
      let c : Instr := .sampleDecode t q n ⟨h, tokens, result⟩
      ((∀ a ∈ x.reorder, ¬(a.submission = n ∧ a.done = false ∧ a.site ≠ 2)) → exec c s = .next (s.advance t))
      ∧ ∀ (a : Sample) (r : Fin 10), x.reorder = [a] → a.submission = n → a.done = false → a.site ≠ 2 → s.intakeRegion q.val = some r → ZooStarts s r h →
        let engine := if a.site = 1 then 0x18 else 0x14
        let st := rmemAt r.val (hStatusAddr h)
        let kept := fun u : State => ∀ (p : MemRef) (k : Nat), p.inside k = true → (p.space ≠ 1 ∨ p.key + k ≤ st.key ∨ st.key + 16 ≤ p.key) → u.load p k = s.load p k
        let ends := fun (b : Sample) (u : State) => u.intake[q].reorder = [] ∧ u.intake[q].current = x.current ++ [b] ∧ kept u
        (headerInvalid h engine = true → s.permits (hClass h) st 16 true = true → st.inside 16 = true → Ends c s fun u => StatusIs u r h 0x0200 0 0 false false ∧ kept u ∧ u.intake = s.intake)
        ∧ (HeaderOk s r h engine (hClass h == obj 2) (get? s.regions[r].prevSeq (zooQueue engine (obj 2) 0)) → room →
          (a.site = 0 → a.maxTok < tokens → Ends c s fun u => ends (replaced a 9) u ∧ counted u n 9 ∧ StatusIs u r h 0x0900 0 0 false false)
          ∧ (a.site = 1 ∨ tokens ≤ a.maxTok →
            (result = .readRefused → Ends c s fun u => ends (replaced a 2) u ∧ counted u n 2 ∧ StatusIs u r h 0x0205 0 0 false false)
            ∧ (result = .dataError → Ends c s fun u => ends (replaced a 8) u ∧ counted u n 8)
            ∧ ∀ w k ch depth codes, result = .pixels w k ch depth codes →
              (w ≠ a.width ∨ k ≠ a.height ∨ ch ≠ obj 0x0A ∨ codes.length ≠ w * k * ch ∨ (a.site = 1 ∧ a.length ≠ codes.length * (1 + depth)) → Ends c s fun u => ends (replaced a 8) u ∧ counted u n 8)
              ∧ (w = a.width → k = a.height → ch = obj 0x0A → codes.length = w * k * ch → (a.site = 1 → a.length = codes.length * (1 + depth)) → Ends c s fun u =>
                  ends { a with done := true, codes := (s.fillSlot q.val w k depth codes).map Enc.code } u ∧ others u ∧ u.log = s.log
                  ∧ StatusIs u r h 0 0 (s.slotElems q.val) false false))))
    ∧ (∀ (slot : Fin 256) (n length : Nat) (codes : List Nat),
      let c : Instr := .hostDecodeReturn t q slot n length codes
      ((∀ a ∈ x.reorder, ¬(a.submission % 256 = slot.val ∧ a.done = false ∧ a.site = 2)) → exec c s =
        .next (({ s.advance t with intake := upd s.intake q fun y => { y with lateReturns := y.lateReturns + 1 } } : State).fault 0x0902 { region := obj 4, unit := q.val } n))
      ∧ ∀ a, x.reorder = [a] → a.submission % 256 = slot.val → a.done = false → a.site = 2 → room →
        (n < a.submission → n % 256 = slot.val → exec c s =
          .next (({ s.advance t with intake := upd s.intake q fun y => { y with lateReturns := y.lateReturns + 1 } } : State).fault 0x0902 { region := obj 4, unit := q.val } n))
        ∧ (¬(n < a.submission ∧ n % 256 = slot.val) → n ≠ a.submission ∨ length ≠ s.slotBytes q.val → Ends c s fun u => u.intake[q].reorder = [] ∧ u.intake[q].current = x.current ++ [replaced a 10] ∧ told u a.submission 10)
        ∧ (n = a.submission → length = s.slotBytes q.val → exec c s = .next { s.advance t with intake := upd s.intake q fun y =>
            { y with reorder := [], current := y.current ++ [{ a with done := true, codes := codes }], hostDecoded := (y.hostDecoded + 1) % 2 ^ 64 } }))
    ∧ (∀ n : Nat,
      ((∀ a ∈ x.reorder, ¬(a.submission = n ∧ a.done = false ∧ a.site = 2)) → exec (.hostDecodeTimeout t q n) s = .next (s.advance t))
      ∧ ∀ a, x.reorder = [a] → a.submission = n → a.done = false → a.site = 2 →
        ((s.advance t).now < a.offered + 1000 * obj 0x11 → exec (.hostDecodeTimeout t q n) s = .next (s.advance t))
        ∧ (a.offered + 1000 * obj 0x11 ≤ (s.advance t).now → room → Ends (.hostDecodeTimeout t q n) s fun u =>
            u.intake[q].reorder = [] ∧ u.intake[q].current = x.current ++ [replaced a 10] ∧ told u n 10))
    ∧ (∀ credits : Nat,
      let had := min (obj 0x13) (x.credits + credits)
      (x.current.length < obj 7 ∨ x.current = [] ∨ had = 0 → exec (.batchWrite t q credits) s = .next { s.advance t with intake := upd s.intake q fun y => { y with credits := had } })
      ∧ (obj 7 ≤ x.current.length → x.current ≠ [] → 0 < had → x.reorder = [] → x.flushAt = [] →
        let bytes := s.batchBytes q
        let place : MemRef := ⟨0, 0, 0, obj 0x12 + x.batches % max 1 (obj 0x13) * bytes.length⟩
        place.inside bytes.length = true → Ends (.batchWrite t q credits) s fun u => u.load place bytes.length = bytes ∧ others u ∧ u.log = s.log
          ∧ u.intake[q] = { x with current := [], partial_ := false, credits := had - 1, batches := (x.batches + 1) % 2 ^ 64, delivered := (x.delivered + (x.current.filter fun a => a.status == 0).length) % 2 ^ 64, padding := (x.padding + (x.current.filter fun a => a.status == 2).length) % 2 ^ 64 }
          ∧ ∀ (p : MemRef) (k : Nat), p.inside k = true → (p.space ≠ 0 ∨ p.key + k ≤ place.key ∨ place.key + bytes.length ≤ p.key) → u.load p k = s.load p k))
    ∧ ∀ ses : Session, WritesAct s ses → ChecksPass s t (intakeObj q.val 0x15) (.int 1) → x.flushAt = [] →
      (x.consumed - x.reorder.length < obj 0x14 → (∀ a rest, x.reorder = a :: rest → a.done = false) →
        ServedWith (.flush t ses q) s ses (Books { s.advance t with intake := upd s.intake q fun y => { y with flushAt := [obj 0x14] } }))
      ∧ (obj 0x14 ≤ x.consumed → x.reorder = [] → x.current = [] ∨ obj 7 ≤ x.current.length → ServedWith (.flush t ses q) s ses (Books (s.advance t)))
      ∧ (obj 0x14 ≤ x.consumed → x.reorder = [] → x.current ≠ [] → x.current.length < obj 7 → ServedWith (.flush t ses q) s ses (Books { s.advance t with intake := upd s.intake q fun y =>
          { y with partial_ := true, current := y.current ++ List.replicate (obj 7 - y.current.length) (s.padSample q.val) } }))
end

