-- ==== Sys2Proof/Laws/State.lean ====
section
/-!
SUPPORT. The fields of a state after each plain update: one lemma per field and update, true by `rfl`, and tagged for simp.
-/

namespace Sys2Proof.Machine

/-! ## State.modBlock -/

@[simp] theorem State.modBlock_pending (s : State) (r : Fin 10) (b : Fin 18) (f : Block → Block) : (s.modBlock r b f).pending = s.pending := by cases s; rfl
@[simp] theorem State.modBlock_time (s : State) (r : Fin 10) (b : Fin 18) (f : Block → Block) : (s.modBlock r b f).time = s.time := by cases s; rfl
@[simp] theorem State.modBlock_log (s : State) (r : Fin 10) (b : Fin 18) (f : Block → Block) : (s.modBlock r b f).log = s.log := by cases s; rfl
@[simp] theorem State.modBlock_node (s : State) (r : Fin 10) (b : Fin 18) (f : Block → Block) : (s.modBlock r b f).node = s.node := by cases s; rfl
@[simp] theorem State.modBlock_dict (s : State) (r : Fin 10) (b : Fin 18) (f : Block → Block) : (s.modBlock r b f).dict = s.dict := by cases s; rfl
@[simp] theorem State.modBlock_commit (s : State) (r : Fin 10) (b : Fin 18) (f : Block → Block) : (s.modBlock r b f).commit = s.commit := by cases s; rfl
@[simp] theorem State.modBlock_server (s : State) (r : Fin 10) (b : Fin 18) (f : Block → Block) : (s.modBlock r b f).server = s.server := by cases s; rfl
@[simp] theorem State.modBlock_basaris (s : State) (r : Fin 10) (b : Fin 18) (f : Block → Block) : (s.modBlock r b f).basaris = s.basaris := by cases s; rfl
@[simp] theorem State.modBlock_mbx (s : State) (r : Fin 10) (b : Fin 18) (f : Block → Block) : (s.modBlock r b f).mbx = s.mbx := by cases s; rfl
@[simp] theorem State.modBlock_ports (s : State) (r : Fin 10) (b : Fin 18) (f : Block → Block) : (s.modBlock r b f).ports = s.ports := by cases s; rfl
@[simp] theorem State.modBlock_launch (s : State) (r : Fin 10) (b : Fin 18) (f : Block → Block) : (s.modBlock r b f).launch = s.launch := by cases s; rfl
@[simp] theorem State.modBlock_blocks (s : State) (r : Fin 10) (b : Fin 18) (f : Block → Block) : (s.modBlock r b f).blocks = upd s.blocks (blk r b) f := by cases s; rfl
@[simp] theorem State.modBlock_regions (s : State) (r : Fin 10) (b : Fin 18) (f : Block → Block) : (s.modBlock r b f).regions = s.regions := by cases s; rfl
@[simp] theorem State.modBlock_mem (s : State) (r : Fin 10) (b : Fin 18) (f : Block → Block) : (s.modBlock r b f).mem = s.mem := by cases s; rfl
@[simp] theorem State.modBlock_marks (s : State) (r : Fin 10) (b : Fin 18) (f : Block → Block) : (s.modBlock r b f).marks = s.marks := by cases s; rfl
@[simp] theorem State.modBlock_detect (s : State) (r : Fin 10) (b : Fin 18) (f : Block → Block) : (s.modBlock r b f).detect = s.detect := by cases s; rfl
@[simp] theorem State.modBlock_kv (s : State) (r : Fin 10) (b : Fin 18) (f : Block → Block) : (s.modBlock r b f).kv = s.kv := by cases s; rfl
@[simp] theorem State.modBlock_streams (s : State) (r : Fin 10) (b : Fin 18) (f : Block → Block) : (s.modBlock r b f).streams = s.streams := by cases s; rfl
@[simp] theorem State.modBlock_heads (s : State) (r : Fin 10) (b : Fin 18) (f : Block → Block) : (s.modBlock r b f).heads = s.heads := by cases s; rfl
@[simp] theorem State.modBlock_intake (s : State) (r : Fin 10) (b : Fin 18) (f : Block → Block) : (s.modBlock r b f).intake = s.intake := by cases s; rfl
@[simp] theorem State.modBlock_motion (s : State) (r : Fin 10) (b : Fin 18) (f : Block → Block) : (s.modBlock r b f).motion = s.motion := by cases s; rfl
@[simp] theorem State.modBlock_crust (s : State) (r : Fin 10) (b : Fin 18) (f : Block → Block) : (s.modBlock r b f).crust = s.crust := by cases s; rfl
@[simp] theorem State.modBlock_can (s : State) (r : Fin 10) (b : Fin 18) (f : Block → Block) : (s.modBlock r b f).can = s.can := by cases s; rfl
@[simp] theorem State.modBlock_tt (s : State) (r : Fin 10) (b : Fin 18) (f : Block → Block) : (s.modBlock r b f).tt = s.tt := by cases s; rfl
@[simp] theorem State.modBlock_net (s : State) (r : Fin 10) (b : Fin 18) (f : Block → Block) : (s.modBlock r b f).net = s.net := by cases s; rfl
@[simp] theorem State.modBlock_power (s : State) (r : Fin 10) (b : Fin 18) (f : Block → Block) : (s.modBlock r b f).power = s.power := by cases s; rfl
@[simp] theorem State.modBlock_counters (s : State) (r : Fin 10) (b : Fin 18) (f : Block → Block) : (s.modBlock r b f).counters = s.counters := by cases s; rfl
@[simp] theorem State.modBlock_service (s : State) (r : Fin 10) (b : Fin 18) (f : Block → Block) : (s.modBlock r b f).service = s.service := by cases s; rfl
@[simp] theorem State.modBlock_outbox (s : State) (r : Fin 10) (b : Fin 18) (f : Block → Block) : (s.modBlock r b f).outbox = s.outbox := by cases s; rfl
@[simp] theorem State.modBlock_obj (s : State) (r : Fin 10) (b : Fin 18) (f : Block → Block) (key : Key) : (s.modBlock r b f).obj key = s.obj key := by simp [State.obj]
@[simp] theorem State.modBlock_nat (s : State) (r : Fin 10) (b : Fin 18) (f : Block → Block) (key : Key) : (s.modBlock r b f).nat key = s.nat key := by simp [State.nat, State.int]
@[simp] theorem State.modBlock_flag (s : State) (r : Fin 10) (b : Fin 18) (f : Block → Block) (key : Key) : (s.modBlock r b f).flag key = s.flag key := by simp [State.flag]
@[simp] theorem State.modBlock_now (s : State) (r : Fin 10) (b : Fin 18) (f : Block → Block) : (s.modBlock r b f).now = s.now := by simp [State.now]

/-! ## State.modBlocks -/

@[simp] theorem State.modBlocks_pending (s : State) (f : Nat → Block → Block) : (s.modBlocks f).pending = s.pending := by cases s; rfl
@[simp] theorem State.modBlocks_time (s : State) (f : Nat → Block → Block) : (s.modBlocks f).time = s.time := by cases s; rfl
@[simp] theorem State.modBlocks_log (s : State) (f : Nat → Block → Block) : (s.modBlocks f).log = s.log := by cases s; rfl
@[simp] theorem State.modBlocks_node (s : State) (f : Nat → Block → Block) : (s.modBlocks f).node = s.node := by cases s; rfl
@[simp] theorem State.modBlocks_dict (s : State) (f : Nat → Block → Block) : (s.modBlocks f).dict = s.dict := by cases s; rfl
@[simp] theorem State.modBlocks_commit (s : State) (f : Nat → Block → Block) : (s.modBlocks f).commit = s.commit := by cases s; rfl
@[simp] theorem State.modBlocks_server (s : State) (f : Nat → Block → Block) : (s.modBlocks f).server = s.server := by cases s; rfl
@[simp] theorem State.modBlocks_basaris (s : State) (f : Nat → Block → Block) : (s.modBlocks f).basaris = s.basaris := by cases s; rfl
@[simp] theorem State.modBlocks_mbx (s : State) (f : Nat → Block → Block) : (s.modBlocks f).mbx = s.mbx := by cases s; rfl
@[simp] theorem State.modBlocks_ports (s : State) (f : Nat → Block → Block) : (s.modBlocks f).ports = s.ports := by cases s; rfl
@[simp] theorem State.modBlocks_launch (s : State) (f : Nat → Block → Block) : (s.modBlocks f).launch = s.launch := by cases s; rfl
@[simp] theorem State.modBlocks_blocks (s : State) (f : Nat → Block → Block) : (s.modBlocks f).blocks = updAll s.blocks f := by cases s; rfl
@[simp] theorem State.modBlocks_regions (s : State) (f : Nat → Block → Block) : (s.modBlocks f).regions = s.regions := by cases s; rfl
@[simp] theorem State.modBlocks_mem (s : State) (f : Nat → Block → Block) : (s.modBlocks f).mem = s.mem := by cases s; rfl
@[simp] theorem State.modBlocks_marks (s : State) (f : Nat → Block → Block) : (s.modBlocks f).marks = s.marks := by cases s; rfl
@[simp] theorem State.modBlocks_detect (s : State) (f : Nat → Block → Block) : (s.modBlocks f).detect = s.detect := by cases s; rfl
@[simp] theorem State.modBlocks_kv (s : State) (f : Nat → Block → Block) : (s.modBlocks f).kv = s.kv := by cases s; rfl
@[simp] theorem State.modBlocks_streams (s : State) (f : Nat → Block → Block) : (s.modBlocks f).streams = s.streams := by cases s; rfl
@[simp] theorem State.modBlocks_heads (s : State) (f : Nat → Block → Block) : (s.modBlocks f).heads = s.heads := by cases s; rfl
@[simp] theorem State.modBlocks_intake (s : State) (f : Nat → Block → Block) : (s.modBlocks f).intake = s.intake := by cases s; rfl
@[simp] theorem State.modBlocks_motion (s : State) (f : Nat → Block → Block) : (s.modBlocks f).motion = s.motion := by cases s; rfl
@[simp] theorem State.modBlocks_crust (s : State) (f : Nat → Block → Block) : (s.modBlocks f).crust = s.crust := by cases s; rfl
@[simp] theorem State.modBlocks_can (s : State) (f : Nat → Block → Block) : (s.modBlocks f).can = s.can := by cases s; rfl
@[simp] theorem State.modBlocks_tt (s : State) (f : Nat → Block → Block) : (s.modBlocks f).tt = s.tt := by cases s; rfl
@[simp] theorem State.modBlocks_net (s : State) (f : Nat → Block → Block) : (s.modBlocks f).net = s.net := by cases s; rfl
@[simp] theorem State.modBlocks_power (s : State) (f : Nat → Block → Block) : (s.modBlocks f).power = s.power := by cases s; rfl
@[simp] theorem State.modBlocks_counters (s : State) (f : Nat → Block → Block) : (s.modBlocks f).counters = s.counters := by cases s; rfl
@[simp] theorem State.modBlocks_service (s : State) (f : Nat → Block → Block) : (s.modBlocks f).service = s.service := by cases s; rfl
@[simp] theorem State.modBlocks_outbox (s : State) (f : Nat → Block → Block) : (s.modBlocks f).outbox = s.outbox := by cases s; rfl
@[simp] theorem State.modBlocks_obj (s : State) (f : Nat → Block → Block) (key : Key) : (s.modBlocks f).obj key = s.obj key := by simp [State.obj]
@[simp] theorem State.modBlocks_nat (s : State) (f : Nat → Block → Block) (key : Key) : (s.modBlocks f).nat key = s.nat key := by simp [State.nat, State.int]
@[simp] theorem State.modBlocks_flag (s : State) (f : Nat → Block → Block) (key : Key) : (s.modBlocks f).flag key = s.flag key := by simp [State.flag]
@[simp] theorem State.modBlocks_now (s : State) (f : Nat → Block → Block) : (s.modBlocks f).now = s.now := by simp [State.now]

/-! ## State.modRegion -/

@[simp] theorem State.modRegion_pending (s : State) (r : Fin 10) (f : Region → Region) : (s.modRegion r f).pending = s.pending := by cases s; rfl
@[simp] theorem State.modRegion_time (s : State) (r : Fin 10) (f : Region → Region) : (s.modRegion r f).time = s.time := by cases s; rfl
@[simp] theorem State.modRegion_log (s : State) (r : Fin 10) (f : Region → Region) : (s.modRegion r f).log = s.log := by cases s; rfl
@[simp] theorem State.modRegion_node (s : State) (r : Fin 10) (f : Region → Region) : (s.modRegion r f).node = s.node := by cases s; rfl
@[simp] theorem State.modRegion_dict (s : State) (r : Fin 10) (f : Region → Region) : (s.modRegion r f).dict = s.dict := by cases s; rfl
@[simp] theorem State.modRegion_commit (s : State) (r : Fin 10) (f : Region → Region) : (s.modRegion r f).commit = s.commit := by cases s; rfl
@[simp] theorem State.modRegion_server (s : State) (r : Fin 10) (f : Region → Region) : (s.modRegion r f).server = s.server := by cases s; rfl
@[simp] theorem State.modRegion_basaris (s : State) (r : Fin 10) (f : Region → Region) : (s.modRegion r f).basaris = s.basaris := by cases s; rfl
@[simp] theorem State.modRegion_mbx (s : State) (r : Fin 10) (f : Region → Region) : (s.modRegion r f).mbx = s.mbx := by cases s; rfl
@[simp] theorem State.modRegion_ports (s : State) (r : Fin 10) (f : Region → Region) : (s.modRegion r f).ports = s.ports := by cases s; rfl
@[simp] theorem State.modRegion_launch (s : State) (r : Fin 10) (f : Region → Region) : (s.modRegion r f).launch = s.launch := by cases s; rfl
@[simp] theorem State.modRegion_blocks (s : State) (r : Fin 10) (f : Region → Region) : (s.modRegion r f).blocks = s.blocks := by cases s; rfl
@[simp] theorem State.modRegion_regions (s : State) (r : Fin 10) (f : Region → Region) : (s.modRegion r f).regions = upd s.regions r f := by cases s; rfl
@[simp] theorem State.modRegion_mem (s : State) (r : Fin 10) (f : Region → Region) : (s.modRegion r f).mem = s.mem := by cases s; rfl
@[simp] theorem State.modRegion_marks (s : State) (r : Fin 10) (f : Region → Region) : (s.modRegion r f).marks = s.marks := by cases s; rfl
@[simp] theorem State.modRegion_detect (s : State) (r : Fin 10) (f : Region → Region) : (s.modRegion r f).detect = s.detect := by cases s; rfl
@[simp] theorem State.modRegion_kv (s : State) (r : Fin 10) (f : Region → Region) : (s.modRegion r f).kv = s.kv := by cases s; rfl
@[simp] theorem State.modRegion_streams (s : State) (r : Fin 10) (f : Region → Region) : (s.modRegion r f).streams = s.streams := by cases s; rfl
@[simp] theorem State.modRegion_heads (s : State) (r : Fin 10) (f : Region → Region) : (s.modRegion r f).heads = s.heads := by cases s; rfl
@[simp] theorem State.modRegion_intake (s : State) (r : Fin 10) (f : Region → Region) : (s.modRegion r f).intake = s.intake := by cases s; rfl
@[simp] theorem State.modRegion_motion (s : State) (r : Fin 10) (f : Region → Region) : (s.modRegion r f).motion = s.motion := by cases s; rfl
@[simp] theorem State.modRegion_crust (s : State) (r : Fin 10) (f : Region → Region) : (s.modRegion r f).crust = s.crust := by cases s; rfl
@[simp] theorem State.modRegion_can (s : State) (r : Fin 10) (f : Region → Region) : (s.modRegion r f).can = s.can := by cases s; rfl
@[simp] theorem State.modRegion_tt (s : State) (r : Fin 10) (f : Region → Region) : (s.modRegion r f).tt = s.tt := by cases s; rfl
@[simp] theorem State.modRegion_net (s : State) (r : Fin 10) (f : Region → Region) : (s.modRegion r f).net = s.net := by cases s; rfl
@[simp] theorem State.modRegion_power (s : State) (r : Fin 10) (f : Region → Region) : (s.modRegion r f).power = s.power := by cases s; rfl
@[simp] theorem State.modRegion_counters (s : State) (r : Fin 10) (f : Region → Region) : (s.modRegion r f).counters = s.counters := by cases s; rfl
@[simp] theorem State.modRegion_service (s : State) (r : Fin 10) (f : Region → Region) : (s.modRegion r f).service = s.service := by cases s; rfl
@[simp] theorem State.modRegion_outbox (s : State) (r : Fin 10) (f : Region → Region) : (s.modRegion r f).outbox = s.outbox := by cases s; rfl
@[simp] theorem State.modRegion_obj (s : State) (r : Fin 10) (f : Region → Region) (key : Key) : (s.modRegion r f).obj key = s.obj key := by simp [State.obj]
@[simp] theorem State.modRegion_nat (s : State) (r : Fin 10) (f : Region → Region) (key : Key) : (s.modRegion r f).nat key = s.nat key := by simp [State.nat, State.int]
@[simp] theorem State.modRegion_flag (s : State) (r : Fin 10) (f : Region → Region) (key : Key) : (s.modRegion r f).flag key = s.flag key := by simp [State.flag]
@[simp] theorem State.modRegion_now (s : State) (r : Fin 10) (f : Region → Region) : (s.modRegion r f).now = s.now := by simp [State.now]

/-! ## State.modRegions -/

@[simp] theorem State.modRegions_pending (s : State) (f : Nat → Region → Region) : (s.modRegions f).pending = s.pending := by cases s; rfl
@[simp] theorem State.modRegions_time (s : State) (f : Nat → Region → Region) : (s.modRegions f).time = s.time := by cases s; rfl
@[simp] theorem State.modRegions_log (s : State) (f : Nat → Region → Region) : (s.modRegions f).log = s.log := by cases s; rfl
@[simp] theorem State.modRegions_node (s : State) (f : Nat → Region → Region) : (s.modRegions f).node = s.node := by cases s; rfl
@[simp] theorem State.modRegions_dict (s : State) (f : Nat → Region → Region) : (s.modRegions f).dict = s.dict := by cases s; rfl
@[simp] theorem State.modRegions_commit (s : State) (f : Nat → Region → Region) : (s.modRegions f).commit = s.commit := by cases s; rfl
@[simp] theorem State.modRegions_server (s : State) (f : Nat → Region → Region) : (s.modRegions f).server = s.server := by cases s; rfl
@[simp] theorem State.modRegions_basaris (s : State) (f : Nat → Region → Region) : (s.modRegions f).basaris = s.basaris := by cases s; rfl
@[simp] theorem State.modRegions_mbx (s : State) (f : Nat → Region → Region) : (s.modRegions f).mbx = s.mbx := by cases s; rfl
@[simp] theorem State.modRegions_ports (s : State) (f : Nat → Region → Region) : (s.modRegions f).ports = s.ports := by cases s; rfl
@[simp] theorem State.modRegions_launch (s : State) (f : Nat → Region → Region) : (s.modRegions f).launch = s.launch := by cases s; rfl
@[simp] theorem State.modRegions_blocks (s : State) (f : Nat → Region → Region) : (s.modRegions f).blocks = s.blocks := by cases s; rfl
@[simp] theorem State.modRegions_regions (s : State) (f : Nat → Region → Region) : (s.modRegions f).regions = updAll s.regions f := by cases s; rfl
@[simp] theorem State.modRegions_mem (s : State) (f : Nat → Region → Region) : (s.modRegions f).mem = s.mem := by cases s; rfl
@[simp] theorem State.modRegions_marks (s : State) (f : Nat → Region → Region) : (s.modRegions f).marks = s.marks := by cases s; rfl
@[simp] theorem State.modRegions_detect (s : State) (f : Nat → Region → Region) : (s.modRegions f).detect = s.detect := by cases s; rfl
@[simp] theorem State.modRegions_kv (s : State) (f : Nat → Region → Region) : (s.modRegions f).kv = s.kv := by cases s; rfl
@[simp] theorem State.modRegions_streams (s : State) (f : Nat → Region → Region) : (s.modRegions f).streams = s.streams := by cases s; rfl
@[simp] theorem State.modRegions_heads (s : State) (f : Nat → Region → Region) : (s.modRegions f).heads = s.heads := by cases s; rfl
@[simp] theorem State.modRegions_intake (s : State) (f : Nat → Region → Region) : (s.modRegions f).intake = s.intake := by cases s; rfl
@[simp] theorem State.modRegions_motion (s : State) (f : Nat → Region → Region) : (s.modRegions f).motion = s.motion := by cases s; rfl
@[simp] theorem State.modRegions_crust (s : State) (f : Nat → Region → Region) : (s.modRegions f).crust = s.crust := by cases s; rfl
@[simp] theorem State.modRegions_can (s : State) (f : Nat → Region → Region) : (s.modRegions f).can = s.can := by cases s; rfl
@[simp] theorem State.modRegions_tt (s : State) (f : Nat → Region → Region) : (s.modRegions f).tt = s.tt := by cases s; rfl
@[simp] theorem State.modRegions_net (s : State) (f : Nat → Region → Region) : (s.modRegions f).net = s.net := by cases s; rfl
@[simp] theorem State.modRegions_power (s : State) (f : Nat → Region → Region) : (s.modRegions f).power = s.power := by cases s; rfl
@[simp] theorem State.modRegions_counters (s : State) (f : Nat → Region → Region) : (s.modRegions f).counters = s.counters := by cases s; rfl
@[simp] theorem State.modRegions_service (s : State) (f : Nat → Region → Region) : (s.modRegions f).service = s.service := by cases s; rfl
@[simp] theorem State.modRegions_outbox (s : State) (f : Nat → Region → Region) : (s.modRegions f).outbox = s.outbox := by cases s; rfl
@[simp] theorem State.modRegions_obj (s : State) (f : Nat → Region → Region) (key : Key) : (s.modRegions f).obj key = s.obj key := by simp [State.obj]
@[simp] theorem State.modRegions_nat (s : State) (f : Nat → Region → Region) (key : Key) : (s.modRegions f).nat key = s.nat key := by simp [State.nat, State.int]
@[simp] theorem State.modRegions_flag (s : State) (f : Nat → Region → Region) (key : Key) : (s.modRegions f).flag key = s.flag key := by simp [State.flag]
@[simp] theorem State.modRegions_now (s : State) (f : Nat → Region → Region) : (s.modRegions f).now = s.now := by simp [State.now]

/-! ## State.modMem -/

@[simp] theorem State.modMem_pending (s : State) (f : Mem → Mem) : (s.modMem f).pending = s.pending := by cases s; rfl
@[simp] theorem State.modMem_time (s : State) (f : Mem → Mem) : (s.modMem f).time = s.time := by cases s; rfl
@[simp] theorem State.modMem_log (s : State) (f : Mem → Mem) : (s.modMem f).log = s.log := by cases s; rfl
@[simp] theorem State.modMem_node (s : State) (f : Mem → Mem) : (s.modMem f).node = s.node := by cases s; rfl
@[simp] theorem State.modMem_dict (s : State) (f : Mem → Mem) : (s.modMem f).dict = s.dict := by cases s; rfl
@[simp] theorem State.modMem_commit (s : State) (f : Mem → Mem) : (s.modMem f).commit = s.commit := by cases s; rfl
@[simp] theorem State.modMem_server (s : State) (f : Mem → Mem) : (s.modMem f).server = s.server := by cases s; rfl
@[simp] theorem State.modMem_basaris (s : State) (f : Mem → Mem) : (s.modMem f).basaris = s.basaris := by cases s; rfl
@[simp] theorem State.modMem_mbx (s : State) (f : Mem → Mem) : (s.modMem f).mbx = s.mbx := by cases s; rfl
@[simp] theorem State.modMem_ports (s : State) (f : Mem → Mem) : (s.modMem f).ports = s.ports := by cases s; rfl
@[simp] theorem State.modMem_launch (s : State) (f : Mem → Mem) : (s.modMem f).launch = s.launch := by cases s; rfl
@[simp] theorem State.modMem_blocks (s : State) (f : Mem → Mem) : (s.modMem f).blocks = s.blocks := by cases s; rfl
@[simp] theorem State.modMem_regions (s : State) (f : Mem → Mem) : (s.modMem f).regions = s.regions := by cases s; rfl
@[simp] theorem State.modMem_mem (s : State) (f : Mem → Mem) : (s.modMem f).mem = f s.mem := by cases s; rfl
@[simp] theorem State.modMem_marks (s : State) (f : Mem → Mem) : (s.modMem f).marks = s.marks := by cases s; rfl
@[simp] theorem State.modMem_detect (s : State) (f : Mem → Mem) : (s.modMem f).detect = s.detect := by cases s; rfl
@[simp] theorem State.modMem_kv (s : State) (f : Mem → Mem) : (s.modMem f).kv = s.kv := by cases s; rfl
@[simp] theorem State.modMem_streams (s : State) (f : Mem → Mem) : (s.modMem f).streams = s.streams := by cases s; rfl
@[simp] theorem State.modMem_heads (s : State) (f : Mem → Mem) : (s.modMem f).heads = s.heads := by cases s; rfl
@[simp] theorem State.modMem_intake (s : State) (f : Mem → Mem) : (s.modMem f).intake = s.intake := by cases s; rfl
@[simp] theorem State.modMem_motion (s : State) (f : Mem → Mem) : (s.modMem f).motion = s.motion := by cases s; rfl
@[simp] theorem State.modMem_crust (s : State) (f : Mem → Mem) : (s.modMem f).crust = s.crust := by cases s; rfl
@[simp] theorem State.modMem_can (s : State) (f : Mem → Mem) : (s.modMem f).can = s.can := by cases s; rfl
@[simp] theorem State.modMem_tt (s : State) (f : Mem → Mem) : (s.modMem f).tt = s.tt := by cases s; rfl
@[simp] theorem State.modMem_net (s : State) (f : Mem → Mem) : (s.modMem f).net = s.net := by cases s; rfl
@[simp] theorem State.modMem_power (s : State) (f : Mem → Mem) : (s.modMem f).power = s.power := by cases s; rfl
@[simp] theorem State.modMem_counters (s : State) (f : Mem → Mem) : (s.modMem f).counters = s.counters := by cases s; rfl
@[simp] theorem State.modMem_service (s : State) (f : Mem → Mem) : (s.modMem f).service = s.service := by cases s; rfl
@[simp] theorem State.modMem_outbox (s : State) (f : Mem → Mem) : (s.modMem f).outbox = s.outbox := by cases s; rfl
@[simp] theorem State.modMem_obj (s : State) (f : Mem → Mem) (key : Key) : (s.modMem f).obj key = s.obj key := by simp [State.obj]
@[simp] theorem State.modMem_nat (s : State) (f : Mem → Mem) (key : Key) : (s.modMem f).nat key = s.nat key := by simp [State.nat, State.int]
@[simp] theorem State.modMem_flag (s : State) (f : Mem → Mem) (key : Key) : (s.modMem f).flag key = s.flag key := by simp [State.flag]
@[simp] theorem State.modMem_now (s : State) (f : Mem → Mem) : (s.modMem f).now = s.now := by simp [State.now]

/-! ## State.modMarks -/

@[simp] theorem State.modMarks_pending (s : State) (f : List BadLane → List BadLane) : (s.modMarks f).pending = s.pending := by cases s; rfl
@[simp] theorem State.modMarks_time (s : State) (f : List BadLane → List BadLane) : (s.modMarks f).time = s.time := by cases s; rfl
@[simp] theorem State.modMarks_log (s : State) (f : List BadLane → List BadLane) : (s.modMarks f).log = s.log := by cases s; rfl
@[simp] theorem State.modMarks_node (s : State) (f : List BadLane → List BadLane) : (s.modMarks f).node = s.node := by cases s; rfl
@[simp] theorem State.modMarks_dict (s : State) (f : List BadLane → List BadLane) : (s.modMarks f).dict = s.dict := by cases s; rfl
@[simp] theorem State.modMarks_commit (s : State) (f : List BadLane → List BadLane) : (s.modMarks f).commit = s.commit := by cases s; rfl
@[simp] theorem State.modMarks_server (s : State) (f : List BadLane → List BadLane) : (s.modMarks f).server = s.server := by cases s; rfl
@[simp] theorem State.modMarks_basaris (s : State) (f : List BadLane → List BadLane) : (s.modMarks f).basaris = s.basaris := by cases s; rfl
@[simp] theorem State.modMarks_mbx (s : State) (f : List BadLane → List BadLane) : (s.modMarks f).mbx = s.mbx := by cases s; rfl
@[simp] theorem State.modMarks_ports (s : State) (f : List BadLane → List BadLane) : (s.modMarks f).ports = s.ports := by cases s; rfl
@[simp] theorem State.modMarks_launch (s : State) (f : List BadLane → List BadLane) : (s.modMarks f).launch = s.launch := by cases s; rfl
@[simp] theorem State.modMarks_blocks (s : State) (f : List BadLane → List BadLane) : (s.modMarks f).blocks = s.blocks := by cases s; rfl
@[simp] theorem State.modMarks_regions (s : State) (f : List BadLane → List BadLane) : (s.modMarks f).regions = s.regions := by cases s; rfl
@[simp] theorem State.modMarks_mem (s : State) (f : List BadLane → List BadLane) : (s.modMarks f).mem = s.mem := by cases s; rfl
@[simp] theorem State.modMarks_marks (s : State) (f : List BadLane → List BadLane) : (s.modMarks f).marks = f s.marks := by cases s; rfl
@[simp] theorem State.modMarks_detect (s : State) (f : List BadLane → List BadLane) : (s.modMarks f).detect = s.detect := by cases s; rfl
@[simp] theorem State.modMarks_kv (s : State) (f : List BadLane → List BadLane) : (s.modMarks f).kv = s.kv := by cases s; rfl
@[simp] theorem State.modMarks_streams (s : State) (f : List BadLane → List BadLane) : (s.modMarks f).streams = s.streams := by cases s; rfl
@[simp] theorem State.modMarks_heads (s : State) (f : List BadLane → List BadLane) : (s.modMarks f).heads = s.heads := by cases s; rfl
@[simp] theorem State.modMarks_intake (s : State) (f : List BadLane → List BadLane) : (s.modMarks f).intake = s.intake := by cases s; rfl
@[simp] theorem State.modMarks_motion (s : State) (f : List BadLane → List BadLane) : (s.modMarks f).motion = s.motion := by cases s; rfl
@[simp] theorem State.modMarks_crust (s : State) (f : List BadLane → List BadLane) : (s.modMarks f).crust = s.crust := by cases s; rfl
@[simp] theorem State.modMarks_can (s : State) (f : List BadLane → List BadLane) : (s.modMarks f).can = s.can := by cases s; rfl
@[simp] theorem State.modMarks_tt (s : State) (f : List BadLane → List BadLane) : (s.modMarks f).tt = s.tt := by cases s; rfl
@[simp] theorem State.modMarks_net (s : State) (f : List BadLane → List BadLane) : (s.modMarks f).net = s.net := by cases s; rfl
@[simp] theorem State.modMarks_power (s : State) (f : List BadLane → List BadLane) : (s.modMarks f).power = s.power := by cases s; rfl
@[simp] theorem State.modMarks_counters (s : State) (f : List BadLane → List BadLane) : (s.modMarks f).counters = s.counters := by cases s; rfl
@[simp] theorem State.modMarks_service (s : State) (f : List BadLane → List BadLane) : (s.modMarks f).service = s.service := by cases s; rfl
@[simp] theorem State.modMarks_outbox (s : State) (f : List BadLane → List BadLane) : (s.modMarks f).outbox = s.outbox := by cases s; rfl
@[simp] theorem State.modMarks_obj (s : State) (f : List BadLane → List BadLane) (key : Key) : (s.modMarks f).obj key = s.obj key := by simp [State.obj]
@[simp] theorem State.modMarks_nat (s : State) (f : List BadLane → List BadLane) (key : Key) : (s.modMarks f).nat key = s.nat key := by simp [State.nat, State.int]
@[simp] theorem State.modMarks_flag (s : State) (f : List BadLane → List BadLane) (key : Key) : (s.modMarks f).flag key = s.flag key := by simp [State.flag]
@[simp] theorem State.modMarks_now (s : State) (f : List BadLane → List BadLane) : (s.modMarks f).now = s.now := by simp [State.now]

/-! ## State.modLog -/

@[simp] theorem State.modLog_pending (s : State) (f : FaultLog → FaultLog) : (s.modLog f).pending = s.pending := by cases s; rfl
@[simp] theorem State.modLog_time (s : State) (f : FaultLog → FaultLog) : (s.modLog f).time = s.time := by cases s; rfl
@[simp] theorem State.modLog_log (s : State) (f : FaultLog → FaultLog) : (s.modLog f).log = f s.log := by cases s; rfl
@[simp] theorem State.modLog_node (s : State) (f : FaultLog → FaultLog) : (s.modLog f).node = s.node := by cases s; rfl
@[simp] theorem State.modLog_dict (s : State) (f : FaultLog → FaultLog) : (s.modLog f).dict = s.dict := by cases s; rfl
@[simp] theorem State.modLog_commit (s : State) (f : FaultLog → FaultLog) : (s.modLog f).commit = s.commit := by cases s; rfl
@[simp] theorem State.modLog_server (s : State) (f : FaultLog → FaultLog) : (s.modLog f).server = s.server := by cases s; rfl
@[simp] theorem State.modLog_basaris (s : State) (f : FaultLog → FaultLog) : (s.modLog f).basaris = s.basaris := by cases s; rfl
@[simp] theorem State.modLog_mbx (s : State) (f : FaultLog → FaultLog) : (s.modLog f).mbx = s.mbx := by cases s; rfl
@[simp] theorem State.modLog_ports (s : State) (f : FaultLog → FaultLog) : (s.modLog f).ports = s.ports := by cases s; rfl
@[simp] theorem State.modLog_launch (s : State) (f : FaultLog → FaultLog) : (s.modLog f).launch = s.launch := by cases s; rfl
@[simp] theorem State.modLog_blocks (s : State) (f : FaultLog → FaultLog) : (s.modLog f).blocks = s.blocks := by cases s; rfl
@[simp] theorem State.modLog_regions (s : State) (f : FaultLog → FaultLog) : (s.modLog f).regions = s.regions := by cases s; rfl
@[simp] theorem State.modLog_mem (s : State) (f : FaultLog → FaultLog) : (s.modLog f).mem = s.mem := by cases s; rfl
@[simp] theorem State.modLog_marks (s : State) (f : FaultLog → FaultLog) : (s.modLog f).marks = s.marks := by cases s; rfl
@[simp] theorem State.modLog_detect (s : State) (f : FaultLog → FaultLog) : (s.modLog f).detect = s.detect := by cases s; rfl
@[simp] theorem State.modLog_kv (s : State) (f : FaultLog → FaultLog) : (s.modLog f).kv = s.kv := by cases s; rfl
@[simp] theorem State.modLog_streams (s : State) (f : FaultLog → FaultLog) : (s.modLog f).streams = s.streams := by cases s; rfl
@[simp] theorem State.modLog_heads (s : State) (f : FaultLog → FaultLog) : (s.modLog f).heads = s.heads := by cases s; rfl
@[simp] theorem State.modLog_intake (s : State) (f : FaultLog → FaultLog) : (s.modLog f).intake = s.intake := by cases s; rfl
@[simp] theorem State.modLog_motion (s : State) (f : FaultLog → FaultLog) : (s.modLog f).motion = s.motion := by cases s; rfl
@[simp] theorem State.modLog_crust (s : State) (f : FaultLog → FaultLog) : (s.modLog f).crust = s.crust := by cases s; rfl
@[simp] theorem State.modLog_can (s : State) (f : FaultLog → FaultLog) : (s.modLog f).can = s.can := by cases s; rfl
@[simp] theorem State.modLog_tt (s : State) (f : FaultLog → FaultLog) : (s.modLog f).tt = s.tt := by cases s; rfl
@[simp] theorem State.modLog_net (s : State) (f : FaultLog → FaultLog) : (s.modLog f).net = s.net := by cases s; rfl
@[simp] theorem State.modLog_power (s : State) (f : FaultLog → FaultLog) : (s.modLog f).power = s.power := by cases s; rfl
@[simp] theorem State.modLog_counters (s : State) (f : FaultLog → FaultLog) : (s.modLog f).counters = s.counters := by cases s; rfl
@[simp] theorem State.modLog_service (s : State) (f : FaultLog → FaultLog) : (s.modLog f).service = s.service := by cases s; rfl
@[simp] theorem State.modLog_outbox (s : State) (f : FaultLog → FaultLog) : (s.modLog f).outbox = s.outbox := by cases s; rfl
@[simp] theorem State.modLog_obj (s : State) (f : FaultLog → FaultLog) (key : Key) : (s.modLog f).obj key = s.obj key := by simp [State.obj]
@[simp] theorem State.modLog_nat (s : State) (f : FaultLog → FaultLog) (key : Key) : (s.modLog f).nat key = s.nat key := by simp [State.nat, State.int]
@[simp] theorem State.modLog_flag (s : State) (f : FaultLog → FaultLog) (key : Key) : (s.modLog f).flag key = s.flag key := by simp [State.flag]
@[simp] theorem State.modLog_now (s : State) (f : FaultLog → FaultLog) : (s.modLog f).now = s.now := by simp [State.now]

/-! ## State.setPort -/

@[simp] theorem State.setPort_pending (s : State) (core : Fin 12) (area : Bytes) : (s.setPort core area).pending = s.pending := by cases s; rfl
@[simp] theorem State.setPort_time (s : State) (core : Fin 12) (area : Bytes) : (s.setPort core area).time = s.time := by cases s; rfl
@[simp] theorem State.setPort_log (s : State) (core : Fin 12) (area : Bytes) : (s.setPort core area).log = s.log := by cases s; rfl
@[simp] theorem State.setPort_node (s : State) (core : Fin 12) (area : Bytes) : (s.setPort core area).node = s.node := by cases s; rfl
@[simp] theorem State.setPort_dict (s : State) (core : Fin 12) (area : Bytes) : (s.setPort core area).dict = s.dict := by cases s; rfl
@[simp] theorem State.setPort_commit (s : State) (core : Fin 12) (area : Bytes) : (s.setPort core area).commit = s.commit := by cases s; rfl
@[simp] theorem State.setPort_server (s : State) (core : Fin 12) (area : Bytes) : (s.setPort core area).server = s.server := by cases s; rfl
@[simp] theorem State.setPort_basaris (s : State) (core : Fin 12) (area : Bytes) : (s.setPort core area).basaris = s.basaris := by cases s; rfl
@[simp] theorem State.setPort_mbx (s : State) (core : Fin 12) (area : Bytes) : (s.setPort core area).mbx = s.mbx := by cases s; rfl
@[simp] theorem State.setPort_ports (s : State) (core : Fin 12) (area : Bytes) : (s.setPort core area).ports = s.ports.set core area := by cases s; rfl
@[simp] theorem State.setPort_launch (s : State) (core : Fin 12) (area : Bytes) : (s.setPort core area).launch = s.launch := by cases s; rfl
@[simp] theorem State.setPort_blocks (s : State) (core : Fin 12) (area : Bytes) : (s.setPort core area).blocks = s.blocks := by cases s; rfl
@[simp] theorem State.setPort_regions (s : State) (core : Fin 12) (area : Bytes) : (s.setPort core area).regions = s.regions := by cases s; rfl
@[simp] theorem State.setPort_mem (s : State) (core : Fin 12) (area : Bytes) : (s.setPort core area).mem = s.mem := by cases s; rfl
@[simp] theorem State.setPort_marks (s : State) (core : Fin 12) (area : Bytes) : (s.setPort core area).marks = s.marks := by cases s; rfl
@[simp] theorem State.setPort_detect (s : State) (core : Fin 12) (area : Bytes) : (s.setPort core area).detect = s.detect := by cases s; rfl
@[simp] theorem State.setPort_kv (s : State) (core : Fin 12) (area : Bytes) : (s.setPort core area).kv = s.kv := by cases s; rfl
@[simp] theorem State.setPort_streams (s : State) (core : Fin 12) (area : Bytes) : (s.setPort core area).streams = s.streams := by cases s; rfl
@[simp] theorem State.setPort_heads (s : State) (core : Fin 12) (area : Bytes) : (s.setPort core area).heads = s.heads := by cases s; rfl
@[simp] theorem State.setPort_intake (s : State) (core : Fin 12) (area : Bytes) : (s.setPort core area).intake = s.intake := by cases s; rfl
@[simp] theorem State.setPort_motion (s : State) (core : Fin 12) (area : Bytes) : (s.setPort core area).motion = s.motion := by cases s; rfl
@[simp] theorem State.setPort_crust (s : State) (core : Fin 12) (area : Bytes) : (s.setPort core area).crust = s.crust := by cases s; rfl
@[simp] theorem State.setPort_can (s : State) (core : Fin 12) (area : Bytes) : (s.setPort core area).can = s.can := by cases s; rfl
@[simp] theorem State.setPort_tt (s : State) (core : Fin 12) (area : Bytes) : (s.setPort core area).tt = s.tt := by cases s; rfl
@[simp] theorem State.setPort_net (s : State) (core : Fin 12) (area : Bytes) : (s.setPort core area).net = s.net := by cases s; rfl
@[simp] theorem State.setPort_power (s : State) (core : Fin 12) (area : Bytes) : (s.setPort core area).power = s.power := by cases s; rfl
@[simp] theorem State.setPort_counters (s : State) (core : Fin 12) (area : Bytes) : (s.setPort core area).counters = s.counters := by cases s; rfl
@[simp] theorem State.setPort_service (s : State) (core : Fin 12) (area : Bytes) : (s.setPort core area).service = s.service := by cases s; rfl
@[simp] theorem State.setPort_outbox (s : State) (core : Fin 12) (area : Bytes) : (s.setPort core area).outbox = s.outbox := by cases s; rfl
@[simp] theorem State.setPort_obj (s : State) (core : Fin 12) (area : Bytes) (key : Key) : (s.setPort core area).obj key = s.obj key := by simp [State.obj]
@[simp] theorem State.setPort_nat (s : State) (core : Fin 12) (area : Bytes) (key : Key) : (s.setPort core area).nat key = s.nat key := by simp [State.nat, State.int]
@[simp] theorem State.setPort_flag (s : State) (core : Fin 12) (area : Bytes) (key : Key) : (s.setPort core area).flag key = s.flag key := by simp [State.flag]
@[simp] theorem State.setPort_now (s : State) (core : Fin 12) (area : Bytes) : (s.setPort core area).now = s.now := by simp [State.now]

/-! ## State.modStream -/

@[simp] theorem State.modStream_pending (s : State) (n : Fin 24) (f : Stream → Stream) : (s.modStream n f).pending = s.pending := by cases s; rfl
@[simp] theorem State.modStream_time (s : State) (n : Fin 24) (f : Stream → Stream) : (s.modStream n f).time = s.time := by cases s; rfl
@[simp] theorem State.modStream_log (s : State) (n : Fin 24) (f : Stream → Stream) : (s.modStream n f).log = s.log := by cases s; rfl
@[simp] theorem State.modStream_node (s : State) (n : Fin 24) (f : Stream → Stream) : (s.modStream n f).node = s.node := by cases s; rfl
@[simp] theorem State.modStream_dict (s : State) (n : Fin 24) (f : Stream → Stream) : (s.modStream n f).dict = s.dict := by cases s; rfl
@[simp] theorem State.modStream_commit (s : State) (n : Fin 24) (f : Stream → Stream) : (s.modStream n f).commit = s.commit := by cases s; rfl
@[simp] theorem State.modStream_server (s : State) (n : Fin 24) (f : Stream → Stream) : (s.modStream n f).server = s.server := by cases s; rfl
@[simp] theorem State.modStream_basaris (s : State) (n : Fin 24) (f : Stream → Stream) : (s.modStream n f).basaris = s.basaris := by cases s; rfl
@[simp] theorem State.modStream_mbx (s : State) (n : Fin 24) (f : Stream → Stream) : (s.modStream n f).mbx = s.mbx := by cases s; rfl
@[simp] theorem State.modStream_ports (s : State) (n : Fin 24) (f : Stream → Stream) : (s.modStream n f).ports = s.ports := by cases s; rfl
@[simp] theorem State.modStream_launch (s : State) (n : Fin 24) (f : Stream → Stream) : (s.modStream n f).launch = s.launch := by cases s; rfl
@[simp] theorem State.modStream_blocks (s : State) (n : Fin 24) (f : Stream → Stream) : (s.modStream n f).blocks = s.blocks := by cases s; rfl
@[simp] theorem State.modStream_regions (s : State) (n : Fin 24) (f : Stream → Stream) : (s.modStream n f).regions = s.regions := by cases s; rfl
@[simp] theorem State.modStream_mem (s : State) (n : Fin 24) (f : Stream → Stream) : (s.modStream n f).mem = s.mem := by cases s; rfl
@[simp] theorem State.modStream_marks (s : State) (n : Fin 24) (f : Stream → Stream) : (s.modStream n f).marks = s.marks := by cases s; rfl
@[simp] theorem State.modStream_detect (s : State) (n : Fin 24) (f : Stream → Stream) : (s.modStream n f).detect = s.detect := by cases s; rfl
@[simp] theorem State.modStream_kv (s : State) (n : Fin 24) (f : Stream → Stream) : (s.modStream n f).kv = s.kv := by cases s; rfl
@[simp] theorem State.modStream_streams (s : State) (n : Fin 24) (f : Stream → Stream) : (s.modStream n f).streams = upd s.streams n f := by cases s; rfl
@[simp] theorem State.modStream_heads (s : State) (n : Fin 24) (f : Stream → Stream) : (s.modStream n f).heads = s.heads := by cases s; rfl
@[simp] theorem State.modStream_intake (s : State) (n : Fin 24) (f : Stream → Stream) : (s.modStream n f).intake = s.intake := by cases s; rfl
@[simp] theorem State.modStream_motion (s : State) (n : Fin 24) (f : Stream → Stream) : (s.modStream n f).motion = s.motion := by cases s; rfl
@[simp] theorem State.modStream_crust (s : State) (n : Fin 24) (f : Stream → Stream) : (s.modStream n f).crust = s.crust := by cases s; rfl
@[simp] theorem State.modStream_can (s : State) (n : Fin 24) (f : Stream → Stream) : (s.modStream n f).can = s.can := by cases s; rfl
@[simp] theorem State.modStream_tt (s : State) (n : Fin 24) (f : Stream → Stream) : (s.modStream n f).tt = s.tt := by cases s; rfl
@[simp] theorem State.modStream_net (s : State) (n : Fin 24) (f : Stream → Stream) : (s.modStream n f).net = s.net := by cases s; rfl
@[simp] theorem State.modStream_power (s : State) (n : Fin 24) (f : Stream → Stream) : (s.modStream n f).power = s.power := by cases s; rfl
@[simp] theorem State.modStream_counters (s : State) (n : Fin 24) (f : Stream → Stream) : (s.modStream n f).counters = s.counters := by cases s; rfl
@[simp] theorem State.modStream_service (s : State) (n : Fin 24) (f : Stream → Stream) : (s.modStream n f).service = s.service := by cases s; rfl
@[simp] theorem State.modStream_outbox (s : State) (n : Fin 24) (f : Stream → Stream) : (s.modStream n f).outbox = s.outbox := by cases s; rfl
@[simp] theorem State.modStream_obj (s : State) (n : Fin 24) (f : Stream → Stream) (key : Key) : (s.modStream n f).obj key = s.obj key := by simp [State.obj]
@[simp] theorem State.modStream_nat (s : State) (n : Fin 24) (f : Stream → Stream) (key : Key) : (s.modStream n f).nat key = s.nat key := by simp [State.nat, State.int]
@[simp] theorem State.modStream_flag (s : State) (n : Fin 24) (f : Stream → Stream) (key : Key) : (s.modStream n f).flag key = s.flag key := by simp [State.flag]
@[simp] theorem State.modStream_now (s : State) (n : Fin 24) (f : Stream → Stream) : (s.modStream n f).now = s.now := by simp [State.now]

/-! ## State.modHead -/

@[simp] theorem State.modHead_pending (s : State) (n : Fin 12) (f : Head → Head) : (s.modHead n f).pending = s.pending := by cases s; rfl
@[simp] theorem State.modHead_time (s : State) (n : Fin 12) (f : Head → Head) : (s.modHead n f).time = s.time := by cases s; rfl
@[simp] theorem State.modHead_log (s : State) (n : Fin 12) (f : Head → Head) : (s.modHead n f).log = s.log := by cases s; rfl
@[simp] theorem State.modHead_node (s : State) (n : Fin 12) (f : Head → Head) : (s.modHead n f).node = s.node := by cases s; rfl
@[simp] theorem State.modHead_dict (s : State) (n : Fin 12) (f : Head → Head) : (s.modHead n f).dict = s.dict := by cases s; rfl
@[simp] theorem State.modHead_commit (s : State) (n : Fin 12) (f : Head → Head) : (s.modHead n f).commit = s.commit := by cases s; rfl
@[simp] theorem State.modHead_server (s : State) (n : Fin 12) (f : Head → Head) : (s.modHead n f).server = s.server := by cases s; rfl
@[simp] theorem State.modHead_basaris (s : State) (n : Fin 12) (f : Head → Head) : (s.modHead n f).basaris = s.basaris := by cases s; rfl
@[simp] theorem State.modHead_mbx (s : State) (n : Fin 12) (f : Head → Head) : (s.modHead n f).mbx = s.mbx := by cases s; rfl
@[simp] theorem State.modHead_ports (s : State) (n : Fin 12) (f : Head → Head) : (s.modHead n f).ports = s.ports := by cases s; rfl
@[simp] theorem State.modHead_launch (s : State) (n : Fin 12) (f : Head → Head) : (s.modHead n f).launch = s.launch := by cases s; rfl
@[simp] theorem State.modHead_blocks (s : State) (n : Fin 12) (f : Head → Head) : (s.modHead n f).blocks = s.blocks := by cases s; rfl
@[simp] theorem State.modHead_regions (s : State) (n : Fin 12) (f : Head → Head) : (s.modHead n f).regions = s.regions := by cases s; rfl
@[simp] theorem State.modHead_mem (s : State) (n : Fin 12) (f : Head → Head) : (s.modHead n f).mem = s.mem := by cases s; rfl
@[simp] theorem State.modHead_marks (s : State) (n : Fin 12) (f : Head → Head) : (s.modHead n f).marks = s.marks := by cases s; rfl
@[simp] theorem State.modHead_detect (s : State) (n : Fin 12) (f : Head → Head) : (s.modHead n f).detect = s.detect := by cases s; rfl
@[simp] theorem State.modHead_kv (s : State) (n : Fin 12) (f : Head → Head) : (s.modHead n f).kv = s.kv := by cases s; rfl
@[simp] theorem State.modHead_streams (s : State) (n : Fin 12) (f : Head → Head) : (s.modHead n f).streams = s.streams := by cases s; rfl
@[simp] theorem State.modHead_heads (s : State) (n : Fin 12) (f : Head → Head) : (s.modHead n f).heads = upd s.heads n f := by cases s; rfl
@[simp] theorem State.modHead_intake (s : State) (n : Fin 12) (f : Head → Head) : (s.modHead n f).intake = s.intake := by cases s; rfl
@[simp] theorem State.modHead_motion (s : State) (n : Fin 12) (f : Head → Head) : (s.modHead n f).motion = s.motion := by cases s; rfl
@[simp] theorem State.modHead_crust (s : State) (n : Fin 12) (f : Head → Head) : (s.modHead n f).crust = s.crust := by cases s; rfl
@[simp] theorem State.modHead_can (s : State) (n : Fin 12) (f : Head → Head) : (s.modHead n f).can = s.can := by cases s; rfl
@[simp] theorem State.modHead_tt (s : State) (n : Fin 12) (f : Head → Head) : (s.modHead n f).tt = s.tt := by cases s; rfl
@[simp] theorem State.modHead_net (s : State) (n : Fin 12) (f : Head → Head) : (s.modHead n f).net = s.net := by cases s; rfl
@[simp] theorem State.modHead_power (s : State) (n : Fin 12) (f : Head → Head) : (s.modHead n f).power = s.power := by cases s; rfl
@[simp] theorem State.modHead_counters (s : State) (n : Fin 12) (f : Head → Head) : (s.modHead n f).counters = s.counters := by cases s; rfl
@[simp] theorem State.modHead_service (s : State) (n : Fin 12) (f : Head → Head) : (s.modHead n f).service = s.service := by cases s; rfl
@[simp] theorem State.modHead_outbox (s : State) (n : Fin 12) (f : Head → Head) : (s.modHead n f).outbox = s.outbox := by cases s; rfl
@[simp] theorem State.modHead_obj (s : State) (n : Fin 12) (f : Head → Head) (key : Key) : (s.modHead n f).obj key = s.obj key := by simp [State.obj]
@[simp] theorem State.modHead_nat (s : State) (n : Fin 12) (f : Head → Head) (key : Key) : (s.modHead n f).nat key = s.nat key := by simp [State.nat, State.int]
@[simp] theorem State.modHead_flag (s : State) (n : Fin 12) (f : Head → Head) (key : Key) : (s.modHead n f).flag key = s.flag key := by simp [State.flag]
@[simp] theorem State.modHead_now (s : State) (n : Fin 12) (f : Head → Head) : (s.modHead n f).now = s.now := by simp [State.now]

/-! ## State.modIntake -/

@[simp] theorem State.modIntake_pending (s : State) (q : Fin 8) (f : Intake → Intake) : (s.modIntake q f).pending = s.pending := by cases s; rfl
@[simp] theorem State.modIntake_time (s : State) (q : Fin 8) (f : Intake → Intake) : (s.modIntake q f).time = s.time := by cases s; rfl
@[simp] theorem State.modIntake_log (s : State) (q : Fin 8) (f : Intake → Intake) : (s.modIntake q f).log = s.log := by cases s; rfl
@[simp] theorem State.modIntake_node (s : State) (q : Fin 8) (f : Intake → Intake) : (s.modIntake q f).node = s.node := by cases s; rfl
@[simp] theorem State.modIntake_dict (s : State) (q : Fin 8) (f : Intake → Intake) : (s.modIntake q f).dict = s.dict := by cases s; rfl
@[simp] theorem State.modIntake_commit (s : State) (q : Fin 8) (f : Intake → Intake) : (s.modIntake q f).commit = s.commit := by cases s; rfl
@[simp] theorem State.modIntake_server (s : State) (q : Fin 8) (f : Intake → Intake) : (s.modIntake q f).server = s.server := by cases s; rfl
@[simp] theorem State.modIntake_basaris (s : State) (q : Fin 8) (f : Intake → Intake) : (s.modIntake q f).basaris = s.basaris := by cases s; rfl
@[simp] theorem State.modIntake_mbx (s : State) (q : Fin 8) (f : Intake → Intake) : (s.modIntake q f).mbx = s.mbx := by cases s; rfl
@[simp] theorem State.modIntake_ports (s : State) (q : Fin 8) (f : Intake → Intake) : (s.modIntake q f).ports = s.ports := by cases s; rfl
@[simp] theorem State.modIntake_launch (s : State) (q : Fin 8) (f : Intake → Intake) : (s.modIntake q f).launch = s.launch := by cases s; rfl
@[simp] theorem State.modIntake_blocks (s : State) (q : Fin 8) (f : Intake → Intake) : (s.modIntake q f).blocks = s.blocks := by cases s; rfl
@[simp] theorem State.modIntake_regions (s : State) (q : Fin 8) (f : Intake → Intake) : (s.modIntake q f).regions = s.regions := by cases s; rfl
@[simp] theorem State.modIntake_mem (s : State) (q : Fin 8) (f : Intake → Intake) : (s.modIntake q f).mem = s.mem := by cases s; rfl
@[simp] theorem State.modIntake_marks (s : State) (q : Fin 8) (f : Intake → Intake) : (s.modIntake q f).marks = s.marks := by cases s; rfl
@[simp] theorem State.modIntake_detect (s : State) (q : Fin 8) (f : Intake → Intake) : (s.modIntake q f).detect = s.detect := by cases s; rfl
@[simp] theorem State.modIntake_kv (s : State) (q : Fin 8) (f : Intake → Intake) : (s.modIntake q f).kv = s.kv := by cases s; rfl
@[simp] theorem State.modIntake_streams (s : State) (q : Fin 8) (f : Intake → Intake) : (s.modIntake q f).streams = s.streams := by cases s; rfl
@[simp] theorem State.modIntake_heads (s : State) (q : Fin 8) (f : Intake → Intake) : (s.modIntake q f).heads = s.heads := by cases s; rfl
@[simp] theorem State.modIntake_intake (s : State) (q : Fin 8) (f : Intake → Intake) : (s.modIntake q f).intake = upd s.intake q f := by cases s; rfl
@[simp] theorem State.modIntake_motion (s : State) (q : Fin 8) (f : Intake → Intake) : (s.modIntake q f).motion = s.motion := by cases s; rfl
@[simp] theorem State.modIntake_crust (s : State) (q : Fin 8) (f : Intake → Intake) : (s.modIntake q f).crust = s.crust := by cases s; rfl
@[simp] theorem State.modIntake_can (s : State) (q : Fin 8) (f : Intake → Intake) : (s.modIntake q f).can = s.can := by cases s; rfl
@[simp] theorem State.modIntake_tt (s : State) (q : Fin 8) (f : Intake → Intake) : (s.modIntake q f).tt = s.tt := by cases s; rfl
@[simp] theorem State.modIntake_net (s : State) (q : Fin 8) (f : Intake → Intake) : (s.modIntake q f).net = s.net := by cases s; rfl
@[simp] theorem State.modIntake_power (s : State) (q : Fin 8) (f : Intake → Intake) : (s.modIntake q f).power = s.power := by cases s; rfl
@[simp] theorem State.modIntake_counters (s : State) (q : Fin 8) (f : Intake → Intake) : (s.modIntake q f).counters = s.counters := by cases s; rfl
@[simp] theorem State.modIntake_service (s : State) (q : Fin 8) (f : Intake → Intake) : (s.modIntake q f).service = s.service := by cases s; rfl
@[simp] theorem State.modIntake_outbox (s : State) (q : Fin 8) (f : Intake → Intake) : (s.modIntake q f).outbox = s.outbox := by cases s; rfl
@[simp] theorem State.modIntake_obj (s : State) (q : Fin 8) (f : Intake → Intake) (key : Key) : (s.modIntake q f).obj key = s.obj key := by simp [State.obj]
@[simp] theorem State.modIntake_nat (s : State) (q : Fin 8) (f : Intake → Intake) (key : Key) : (s.modIntake q f).nat key = s.nat key := by simp [State.nat, State.int]
@[simp] theorem State.modIntake_flag (s : State) (q : Fin 8) (f : Intake → Intake) (key : Key) : (s.modIntake q f).flag key = s.flag key := by simp [State.flag]
@[simp] theorem State.modIntake_now (s : State) (q : Fin 8) (f : Intake → Intake) : (s.modIntake q f).now = s.now := by simp [State.now]

/-! ## State.modDetect -/

@[simp] theorem State.modDetect_pending (s : State) (n : Fin 24) (f : Detect → Detect) : (s.modDetect n f).pending = s.pending := by cases s; rfl
@[simp] theorem State.modDetect_time (s : State) (n : Fin 24) (f : Detect → Detect) : (s.modDetect n f).time = s.time := by cases s; rfl
@[simp] theorem State.modDetect_log (s : State) (n : Fin 24) (f : Detect → Detect) : (s.modDetect n f).log = s.log := by cases s; rfl
@[simp] theorem State.modDetect_node (s : State) (n : Fin 24) (f : Detect → Detect) : (s.modDetect n f).node = s.node := by cases s; rfl
@[simp] theorem State.modDetect_dict (s : State) (n : Fin 24) (f : Detect → Detect) : (s.modDetect n f).dict = s.dict := by cases s; rfl
@[simp] theorem State.modDetect_commit (s : State) (n : Fin 24) (f : Detect → Detect) : (s.modDetect n f).commit = s.commit := by cases s; rfl
@[simp] theorem State.modDetect_server (s : State) (n : Fin 24) (f : Detect → Detect) : (s.modDetect n f).server = s.server := by cases s; rfl
@[simp] theorem State.modDetect_basaris (s : State) (n : Fin 24) (f : Detect → Detect) : (s.modDetect n f).basaris = s.basaris := by cases s; rfl
@[simp] theorem State.modDetect_mbx (s : State) (n : Fin 24) (f : Detect → Detect) : (s.modDetect n f).mbx = s.mbx := by cases s; rfl
@[simp] theorem State.modDetect_ports (s : State) (n : Fin 24) (f : Detect → Detect) : (s.modDetect n f).ports = s.ports := by cases s; rfl
@[simp] theorem State.modDetect_launch (s : State) (n : Fin 24) (f : Detect → Detect) : (s.modDetect n f).launch = s.launch := by cases s; rfl
@[simp] theorem State.modDetect_blocks (s : State) (n : Fin 24) (f : Detect → Detect) : (s.modDetect n f).blocks = s.blocks := by cases s; rfl
@[simp] theorem State.modDetect_regions (s : State) (n : Fin 24) (f : Detect → Detect) : (s.modDetect n f).regions = s.regions := by cases s; rfl
@[simp] theorem State.modDetect_mem (s : State) (n : Fin 24) (f : Detect → Detect) : (s.modDetect n f).mem = s.mem := by cases s; rfl
@[simp] theorem State.modDetect_marks (s : State) (n : Fin 24) (f : Detect → Detect) : (s.modDetect n f).marks = s.marks := by cases s; rfl
@[simp] theorem State.modDetect_detect (s : State) (n : Fin 24) (f : Detect → Detect) : (s.modDetect n f).detect = upd s.detect n f := by cases s; rfl
@[simp] theorem State.modDetect_kv (s : State) (n : Fin 24) (f : Detect → Detect) : (s.modDetect n f).kv = s.kv := by cases s; rfl
@[simp] theorem State.modDetect_streams (s : State) (n : Fin 24) (f : Detect → Detect) : (s.modDetect n f).streams = s.streams := by cases s; rfl
@[simp] theorem State.modDetect_heads (s : State) (n : Fin 24) (f : Detect → Detect) : (s.modDetect n f).heads = s.heads := by cases s; rfl
@[simp] theorem State.modDetect_intake (s : State) (n : Fin 24) (f : Detect → Detect) : (s.modDetect n f).intake = s.intake := by cases s; rfl
@[simp] theorem State.modDetect_motion (s : State) (n : Fin 24) (f : Detect → Detect) : (s.modDetect n f).motion = s.motion := by cases s; rfl
@[simp] theorem State.modDetect_crust (s : State) (n : Fin 24) (f : Detect → Detect) : (s.modDetect n f).crust = s.crust := by cases s; rfl
@[simp] theorem State.modDetect_can (s : State) (n : Fin 24) (f : Detect → Detect) : (s.modDetect n f).can = s.can := by cases s; rfl
@[simp] theorem State.modDetect_tt (s : State) (n : Fin 24) (f : Detect → Detect) : (s.modDetect n f).tt = s.tt := by cases s; rfl
@[simp] theorem State.modDetect_net (s : State) (n : Fin 24) (f : Detect → Detect) : (s.modDetect n f).net = s.net := by cases s; rfl
@[simp] theorem State.modDetect_power (s : State) (n : Fin 24) (f : Detect → Detect) : (s.modDetect n f).power = s.power := by cases s; rfl
@[simp] theorem State.modDetect_counters (s : State) (n : Fin 24) (f : Detect → Detect) : (s.modDetect n f).counters = s.counters := by cases s; rfl
@[simp] theorem State.modDetect_service (s : State) (n : Fin 24) (f : Detect → Detect) : (s.modDetect n f).service = s.service := by cases s; rfl
@[simp] theorem State.modDetect_outbox (s : State) (n : Fin 24) (f : Detect → Detect) : (s.modDetect n f).outbox = s.outbox := by cases s; rfl
@[simp] theorem State.modDetect_obj (s : State) (n : Fin 24) (f : Detect → Detect) (key : Key) : (s.modDetect n f).obj key = s.obj key := by simp [State.obj]
@[simp] theorem State.modDetect_nat (s : State) (n : Fin 24) (f : Detect → Detect) (key : Key) : (s.modDetect n f).nat key = s.nat key := by simp [State.nat, State.int]
@[simp] theorem State.modDetect_flag (s : State) (n : Fin 24) (f : Detect → Detect) (key : Key) : (s.modDetect n f).flag key = s.flag key := by simp [State.flag]
@[simp] theorem State.modDetect_now (s : State) (n : Fin 24) (f : Detect → Detect) : (s.modDetect n f).now = s.now := by simp [State.now]

/-! ## State.clearDetect -/

@[simp] theorem State.clearDetect_pending (s : State) : s.clearDetect.pending = s.pending := by cases s; rfl
@[simp] theorem State.clearDetect_time (s : State) : s.clearDetect.time = s.time := by cases s; rfl
@[simp] theorem State.clearDetect_log (s : State) : s.clearDetect.log = s.log := by cases s; rfl
@[simp] theorem State.clearDetect_node (s : State) : s.clearDetect.node = s.node := by cases s; rfl
@[simp] theorem State.clearDetect_dict (s : State) : s.clearDetect.dict = s.dict := by cases s; rfl
@[simp] theorem State.clearDetect_commit (s : State) : s.clearDetect.commit = s.commit := by cases s; rfl
@[simp] theorem State.clearDetect_server (s : State) : s.clearDetect.server = s.server := by cases s; rfl
@[simp] theorem State.clearDetect_basaris (s : State) : s.clearDetect.basaris = s.basaris := by cases s; rfl
@[simp] theorem State.clearDetect_mbx (s : State) : s.clearDetect.mbx = s.mbx := by cases s; rfl
@[simp] theorem State.clearDetect_ports (s : State) : s.clearDetect.ports = s.ports := by cases s; rfl
@[simp] theorem State.clearDetect_launch (s : State) : s.clearDetect.launch = s.launch := by cases s; rfl
@[simp] theorem State.clearDetect_blocks (s : State) : s.clearDetect.blocks = s.blocks := by cases s; rfl
@[simp] theorem State.clearDetect_regions (s : State) : s.clearDetect.regions = s.regions := by cases s; rfl
@[simp] theorem State.clearDetect_mem (s : State) : s.clearDetect.mem = s.mem := by cases s; rfl
@[simp] theorem State.clearDetect_marks (s : State) : s.clearDetect.marks = s.marks := by cases s; rfl
@[simp] theorem State.clearDetect_detect (s : State) : s.clearDetect.detect = Vector.replicate 24 Detect.reset := by cases s; rfl
@[simp] theorem State.clearDetect_kv (s : State) : s.clearDetect.kv = s.kv := by cases s; rfl
@[simp] theorem State.clearDetect_streams (s : State) : s.clearDetect.streams = s.streams := by cases s; rfl
@[simp] theorem State.clearDetect_heads (s : State) : s.clearDetect.heads = s.heads := by cases s; rfl
@[simp] theorem State.clearDetect_intake (s : State) : s.clearDetect.intake = s.intake := by cases s; rfl
@[simp] theorem State.clearDetect_motion (s : State) : s.clearDetect.motion = s.motion := by cases s; rfl
@[simp] theorem State.clearDetect_crust (s : State) : s.clearDetect.crust = s.crust := by cases s; rfl
@[simp] theorem State.clearDetect_can (s : State) : s.clearDetect.can = s.can := by cases s; rfl
@[simp] theorem State.clearDetect_tt (s : State) : s.clearDetect.tt = s.tt := by cases s; rfl
@[simp] theorem State.clearDetect_net (s : State) : s.clearDetect.net = s.net := by cases s; rfl
@[simp] theorem State.clearDetect_power (s : State) : s.clearDetect.power = s.power := by cases s; rfl
@[simp] theorem State.clearDetect_counters (s : State) : s.clearDetect.counters = s.counters := by cases s; rfl
@[simp] theorem State.clearDetect_service (s : State) : s.clearDetect.service = s.service := by cases s; rfl
@[simp] theorem State.clearDetect_outbox (s : State) : s.clearDetect.outbox = s.outbox := by cases s; rfl
@[simp] theorem State.clearDetect_obj (s : State) (key : Key) : s.clearDetect.obj key = s.obj key := by simp [State.obj]
@[simp] theorem State.clearDetect_nat (s : State) (key : Key) : s.clearDetect.nat key = s.nat key := by simp [State.nat, State.int]
@[simp] theorem State.clearDetect_flag (s : State) (key : Key) : s.clearDetect.flag key = s.flag key := by simp [State.flag]
@[simp] theorem State.clearDetect_now (s : State) : s.clearDetect.now = s.now := by simp [State.now]

/-! ## State.modMotion -/

@[simp] theorem State.modMotion_pending (s : State) (f : Motion → Motion) : (s.modMotion f).pending = s.pending := by cases s; rfl
@[simp] theorem State.modMotion_time (s : State) (f : Motion → Motion) : (s.modMotion f).time = s.time := by cases s; rfl
@[simp] theorem State.modMotion_log (s : State) (f : Motion → Motion) : (s.modMotion f).log = s.log := by cases s; rfl
@[simp] theorem State.modMotion_node (s : State) (f : Motion → Motion) : (s.modMotion f).node = s.node := by cases s; rfl
@[simp] theorem State.modMotion_dict (s : State) (f : Motion → Motion) : (s.modMotion f).dict = s.dict := by cases s; rfl
@[simp] theorem State.modMotion_commit (s : State) (f : Motion → Motion) : (s.modMotion f).commit = s.commit := by cases s; rfl
@[simp] theorem State.modMotion_server (s : State) (f : Motion → Motion) : (s.modMotion f).server = s.server := by cases s; rfl
@[simp] theorem State.modMotion_basaris (s : State) (f : Motion → Motion) : (s.modMotion f).basaris = s.basaris := by cases s; rfl
@[simp] theorem State.modMotion_mbx (s : State) (f : Motion → Motion) : (s.modMotion f).mbx = s.mbx := by cases s; rfl
@[simp] theorem State.modMotion_ports (s : State) (f : Motion → Motion) : (s.modMotion f).ports = s.ports := by cases s; rfl
@[simp] theorem State.modMotion_launch (s : State) (f : Motion → Motion) : (s.modMotion f).launch = s.launch := by cases s; rfl
@[simp] theorem State.modMotion_blocks (s : State) (f : Motion → Motion) : (s.modMotion f).blocks = s.blocks := by cases s; rfl
@[simp] theorem State.modMotion_regions (s : State) (f : Motion → Motion) : (s.modMotion f).regions = s.regions := by cases s; rfl
@[simp] theorem State.modMotion_mem (s : State) (f : Motion → Motion) : (s.modMotion f).mem = s.mem := by cases s; rfl
@[simp] theorem State.modMotion_marks (s : State) (f : Motion → Motion) : (s.modMotion f).marks = s.marks := by cases s; rfl
@[simp] theorem State.modMotion_detect (s : State) (f : Motion → Motion) : (s.modMotion f).detect = s.detect := by cases s; rfl
@[simp] theorem State.modMotion_kv (s : State) (f : Motion → Motion) : (s.modMotion f).kv = s.kv := by cases s; rfl
@[simp] theorem State.modMotion_streams (s : State) (f : Motion → Motion) : (s.modMotion f).streams = s.streams := by cases s; rfl
@[simp] theorem State.modMotion_heads (s : State) (f : Motion → Motion) : (s.modMotion f).heads = s.heads := by cases s; rfl
@[simp] theorem State.modMotion_intake (s : State) (f : Motion → Motion) : (s.modMotion f).intake = s.intake := by cases s; rfl
@[simp] theorem State.modMotion_motion (s : State) (f : Motion → Motion) : (s.modMotion f).motion = f s.motion := by cases s; rfl
@[simp] theorem State.modMotion_crust (s : State) (f : Motion → Motion) : (s.modMotion f).crust = s.crust := by cases s; rfl
@[simp] theorem State.modMotion_can (s : State) (f : Motion → Motion) : (s.modMotion f).can = s.can := by cases s; rfl
@[simp] theorem State.modMotion_tt (s : State) (f : Motion → Motion) : (s.modMotion f).tt = s.tt := by cases s; rfl
@[simp] theorem State.modMotion_net (s : State) (f : Motion → Motion) : (s.modMotion f).net = s.net := by cases s; rfl
@[simp] theorem State.modMotion_power (s : State) (f : Motion → Motion) : (s.modMotion f).power = s.power := by cases s; rfl
@[simp] theorem State.modMotion_counters (s : State) (f : Motion → Motion) : (s.modMotion f).counters = s.counters := by cases s; rfl
@[simp] theorem State.modMotion_service (s : State) (f : Motion → Motion) : (s.modMotion f).service = s.service := by cases s; rfl
@[simp] theorem State.modMotion_outbox (s : State) (f : Motion → Motion) : (s.modMotion f).outbox = s.outbox := by cases s; rfl
@[simp] theorem State.modMotion_obj (s : State) (f : Motion → Motion) (key : Key) : (s.modMotion f).obj key = s.obj key := by simp [State.obj]
@[simp] theorem State.modMotion_nat (s : State) (f : Motion → Motion) (key : Key) : (s.modMotion f).nat key = s.nat key := by simp [State.nat, State.int]
@[simp] theorem State.modMotion_flag (s : State) (f : Motion → Motion) (key : Key) : (s.modMotion f).flag key = s.flag key := by simp [State.flag]
@[simp] theorem State.modMotion_now (s : State) (f : Motion → Motion) : (s.modMotion f).now = s.now := by simp [State.now]

/-! ## State.modAxis -/

@[simp] theorem State.modAxis_pending (s : State) (k : Fin 16) (f : Axis → Axis) : (s.modAxis k f).pending = s.pending := by cases s; rfl
@[simp] theorem State.modAxis_time (s : State) (k : Fin 16) (f : Axis → Axis) : (s.modAxis k f).time = s.time := by cases s; rfl
@[simp] theorem State.modAxis_log (s : State) (k : Fin 16) (f : Axis → Axis) : (s.modAxis k f).log = s.log := by cases s; rfl
@[simp] theorem State.modAxis_node (s : State) (k : Fin 16) (f : Axis → Axis) : (s.modAxis k f).node = s.node := by cases s; rfl
@[simp] theorem State.modAxis_dict (s : State) (k : Fin 16) (f : Axis → Axis) : (s.modAxis k f).dict = s.dict := by cases s; rfl
@[simp] theorem State.modAxis_commit (s : State) (k : Fin 16) (f : Axis → Axis) : (s.modAxis k f).commit = s.commit := by cases s; rfl
@[simp] theorem State.modAxis_server (s : State) (k : Fin 16) (f : Axis → Axis) : (s.modAxis k f).server = s.server := by cases s; rfl
@[simp] theorem State.modAxis_basaris (s : State) (k : Fin 16) (f : Axis → Axis) : (s.modAxis k f).basaris = s.basaris := by cases s; rfl
@[simp] theorem State.modAxis_mbx (s : State) (k : Fin 16) (f : Axis → Axis) : (s.modAxis k f).mbx = s.mbx := by cases s; rfl
@[simp] theorem State.modAxis_ports (s : State) (k : Fin 16) (f : Axis → Axis) : (s.modAxis k f).ports = s.ports := by cases s; rfl
@[simp] theorem State.modAxis_launch (s : State) (k : Fin 16) (f : Axis → Axis) : (s.modAxis k f).launch = s.launch := by cases s; rfl
@[simp] theorem State.modAxis_blocks (s : State) (k : Fin 16) (f : Axis → Axis) : (s.modAxis k f).blocks = s.blocks := by cases s; rfl
@[simp] theorem State.modAxis_regions (s : State) (k : Fin 16) (f : Axis → Axis) : (s.modAxis k f).regions = s.regions := by cases s; rfl
@[simp] theorem State.modAxis_mem (s : State) (k : Fin 16) (f : Axis → Axis) : (s.modAxis k f).mem = s.mem := by cases s; rfl
@[simp] theorem State.modAxis_marks (s : State) (k : Fin 16) (f : Axis → Axis) : (s.modAxis k f).marks = s.marks := by cases s; rfl
@[simp] theorem State.modAxis_detect (s : State) (k : Fin 16) (f : Axis → Axis) : (s.modAxis k f).detect = s.detect := by cases s; rfl
@[simp] theorem State.modAxis_kv (s : State) (k : Fin 16) (f : Axis → Axis) : (s.modAxis k f).kv = s.kv := by cases s; rfl
@[simp] theorem State.modAxis_streams (s : State) (k : Fin 16) (f : Axis → Axis) : (s.modAxis k f).streams = s.streams := by cases s; rfl
@[simp] theorem State.modAxis_heads (s : State) (k : Fin 16) (f : Axis → Axis) : (s.modAxis k f).heads = s.heads := by cases s; rfl
@[simp] theorem State.modAxis_intake (s : State) (k : Fin 16) (f : Axis → Axis) : (s.modAxis k f).intake = s.intake := by cases s; rfl
@[simp] theorem State.modAxis_motion (s : State) (k : Fin 16) (f : Axis → Axis) : (s.modAxis k f).motion = { s.motion with axes := upd s.motion.axes k f } := by cases s; rfl
@[simp] theorem State.modAxis_crust (s : State) (k : Fin 16) (f : Axis → Axis) : (s.modAxis k f).crust = s.crust := by cases s; rfl
@[simp] theorem State.modAxis_can (s : State) (k : Fin 16) (f : Axis → Axis) : (s.modAxis k f).can = s.can := by cases s; rfl
@[simp] theorem State.modAxis_tt (s : State) (k : Fin 16) (f : Axis → Axis) : (s.modAxis k f).tt = s.tt := by cases s; rfl
@[simp] theorem State.modAxis_net (s : State) (k : Fin 16) (f : Axis → Axis) : (s.modAxis k f).net = s.net := by cases s; rfl
@[simp] theorem State.modAxis_power (s : State) (k : Fin 16) (f : Axis → Axis) : (s.modAxis k f).power = s.power := by cases s; rfl
@[simp] theorem State.modAxis_counters (s : State) (k : Fin 16) (f : Axis → Axis) : (s.modAxis k f).counters = s.counters := by cases s; rfl
@[simp] theorem State.modAxis_service (s : State) (k : Fin 16) (f : Axis → Axis) : (s.modAxis k f).service = s.service := by cases s; rfl
@[simp] theorem State.modAxis_outbox (s : State) (k : Fin 16) (f : Axis → Axis) : (s.modAxis k f).outbox = s.outbox := by cases s; rfl
@[simp] theorem State.modAxis_obj (s : State) (k : Fin 16) (f : Axis → Axis) (key : Key) : (s.modAxis k f).obj key = s.obj key := by simp [State.obj]
@[simp] theorem State.modAxis_nat (s : State) (k : Fin 16) (f : Axis → Axis) (key : Key) : (s.modAxis k f).nat key = s.nat key := by simp [State.nat, State.int]
@[simp] theorem State.modAxis_flag (s : State) (k : Fin 16) (f : Axis → Axis) (key : Key) : (s.modAxis k f).flag key = s.flag key := by simp [State.flag]
@[simp] theorem State.modAxis_now (s : State) (k : Fin 16) (f : Axis → Axis) : (s.modAxis k f).now = s.now := by simp [State.now]

/-! ## State.modInput -/

@[simp] theorem State.modInput_pending (s : State) (k : Fin 32) (f : Input → Input) : (s.modInput k f).pending = s.pending := by cases s; rfl
@[simp] theorem State.modInput_time (s : State) (k : Fin 32) (f : Input → Input) : (s.modInput k f).time = s.time := by cases s; rfl
@[simp] theorem State.modInput_log (s : State) (k : Fin 32) (f : Input → Input) : (s.modInput k f).log = s.log := by cases s; rfl
@[simp] theorem State.modInput_node (s : State) (k : Fin 32) (f : Input → Input) : (s.modInput k f).node = s.node := by cases s; rfl
@[simp] theorem State.modInput_dict (s : State) (k : Fin 32) (f : Input → Input) : (s.modInput k f).dict = s.dict := by cases s; rfl
@[simp] theorem State.modInput_commit (s : State) (k : Fin 32) (f : Input → Input) : (s.modInput k f).commit = s.commit := by cases s; rfl
@[simp] theorem State.modInput_server (s : State) (k : Fin 32) (f : Input → Input) : (s.modInput k f).server = s.server := by cases s; rfl
@[simp] theorem State.modInput_basaris (s : State) (k : Fin 32) (f : Input → Input) : (s.modInput k f).basaris = s.basaris := by cases s; rfl
@[simp] theorem State.modInput_mbx (s : State) (k : Fin 32) (f : Input → Input) : (s.modInput k f).mbx = s.mbx := by cases s; rfl
@[simp] theorem State.modInput_ports (s : State) (k : Fin 32) (f : Input → Input) : (s.modInput k f).ports = s.ports := by cases s; rfl
@[simp] theorem State.modInput_launch (s : State) (k : Fin 32) (f : Input → Input) : (s.modInput k f).launch = s.launch := by cases s; rfl
@[simp] theorem State.modInput_blocks (s : State) (k : Fin 32) (f : Input → Input) : (s.modInput k f).blocks = s.blocks := by cases s; rfl
@[simp] theorem State.modInput_regions (s : State) (k : Fin 32) (f : Input → Input) : (s.modInput k f).regions = s.regions := by cases s; rfl
@[simp] theorem State.modInput_mem (s : State) (k : Fin 32) (f : Input → Input) : (s.modInput k f).mem = s.mem := by cases s; rfl
@[simp] theorem State.modInput_marks (s : State) (k : Fin 32) (f : Input → Input) : (s.modInput k f).marks = s.marks := by cases s; rfl
@[simp] theorem State.modInput_detect (s : State) (k : Fin 32) (f : Input → Input) : (s.modInput k f).detect = s.detect := by cases s; rfl
@[simp] theorem State.modInput_kv (s : State) (k : Fin 32) (f : Input → Input) : (s.modInput k f).kv = s.kv := by cases s; rfl
@[simp] theorem State.modInput_streams (s : State) (k : Fin 32) (f : Input → Input) : (s.modInput k f).streams = s.streams := by cases s; rfl
@[simp] theorem State.modInput_heads (s : State) (k : Fin 32) (f : Input → Input) : (s.modInput k f).heads = s.heads := by cases s; rfl
@[simp] theorem State.modInput_intake (s : State) (k : Fin 32) (f : Input → Input) : (s.modInput k f).intake = s.intake := by cases s; rfl
@[simp] theorem State.modInput_motion (s : State) (k : Fin 32) (f : Input → Input) : (s.modInput k f).motion = { s.motion with inputs := upd s.motion.inputs k f } := by cases s; rfl
@[simp] theorem State.modInput_crust (s : State) (k : Fin 32) (f : Input → Input) : (s.modInput k f).crust = s.crust := by cases s; rfl
@[simp] theorem State.modInput_can (s : State) (k : Fin 32) (f : Input → Input) : (s.modInput k f).can = s.can := by cases s; rfl
@[simp] theorem State.modInput_tt (s : State) (k : Fin 32) (f : Input → Input) : (s.modInput k f).tt = s.tt := by cases s; rfl
@[simp] theorem State.modInput_net (s : State) (k : Fin 32) (f : Input → Input) : (s.modInput k f).net = s.net := by cases s; rfl
@[simp] theorem State.modInput_power (s : State) (k : Fin 32) (f : Input → Input) : (s.modInput k f).power = s.power := by cases s; rfl
@[simp] theorem State.modInput_counters (s : State) (k : Fin 32) (f : Input → Input) : (s.modInput k f).counters = s.counters := by cases s; rfl
@[simp] theorem State.modInput_service (s : State) (k : Fin 32) (f : Input → Input) : (s.modInput k f).service = s.service := by cases s; rfl
@[simp] theorem State.modInput_outbox (s : State) (k : Fin 32) (f : Input → Input) : (s.modInput k f).outbox = s.outbox := by cases s; rfl
@[simp] theorem State.modInput_obj (s : State) (k : Fin 32) (f : Input → Input) (key : Key) : (s.modInput k f).obj key = s.obj key := by simp [State.obj]
@[simp] theorem State.modInput_nat (s : State) (k : Fin 32) (f : Input → Input) (key : Key) : (s.modInput k f).nat key = s.nat key := by simp [State.nat, State.int]
@[simp] theorem State.modInput_flag (s : State) (k : Fin 32) (f : Input → Input) (key : Key) : (s.modInput k f).flag key = s.flag key := by simp [State.flag]
@[simp] theorem State.modInput_now (s : State) (k : Fin 32) (f : Input → Input) : (s.modInput k f).now = s.now := by simp [State.now]

/-! ## State.modOutput -/

@[simp] theorem State.modOutput_pending (s : State) (k : Fin 32) (f : DOut → DOut) : (s.modOutput k f).pending = s.pending := by cases s; rfl
@[simp] theorem State.modOutput_time (s : State) (k : Fin 32) (f : DOut → DOut) : (s.modOutput k f).time = s.time := by cases s; rfl
@[simp] theorem State.modOutput_log (s : State) (k : Fin 32) (f : DOut → DOut) : (s.modOutput k f).log = s.log := by cases s; rfl
@[simp] theorem State.modOutput_node (s : State) (k : Fin 32) (f : DOut → DOut) : (s.modOutput k f).node = s.node := by cases s; rfl
@[simp] theorem State.modOutput_dict (s : State) (k : Fin 32) (f : DOut → DOut) : (s.modOutput k f).dict = s.dict := by cases s; rfl
@[simp] theorem State.modOutput_commit (s : State) (k : Fin 32) (f : DOut → DOut) : (s.modOutput k f).commit = s.commit := by cases s; rfl
@[simp] theorem State.modOutput_server (s : State) (k : Fin 32) (f : DOut → DOut) : (s.modOutput k f).server = s.server := by cases s; rfl
@[simp] theorem State.modOutput_basaris (s : State) (k : Fin 32) (f : DOut → DOut) : (s.modOutput k f).basaris = s.basaris := by cases s; rfl
@[simp] theorem State.modOutput_mbx (s : State) (k : Fin 32) (f : DOut → DOut) : (s.modOutput k f).mbx = s.mbx := by cases s; rfl
@[simp] theorem State.modOutput_ports (s : State) (k : Fin 32) (f : DOut → DOut) : (s.modOutput k f).ports = s.ports := by cases s; rfl
@[simp] theorem State.modOutput_launch (s : State) (k : Fin 32) (f : DOut → DOut) : (s.modOutput k f).launch = s.launch := by cases s; rfl
@[simp] theorem State.modOutput_blocks (s : State) (k : Fin 32) (f : DOut → DOut) : (s.modOutput k f).blocks = s.blocks := by cases s; rfl
@[simp] theorem State.modOutput_regions (s : State) (k : Fin 32) (f : DOut → DOut) : (s.modOutput k f).regions = s.regions := by cases s; rfl
@[simp] theorem State.modOutput_mem (s : State) (k : Fin 32) (f : DOut → DOut) : (s.modOutput k f).mem = s.mem := by cases s; rfl
@[simp] theorem State.modOutput_marks (s : State) (k : Fin 32) (f : DOut → DOut) : (s.modOutput k f).marks = s.marks := by cases s; rfl
@[simp] theorem State.modOutput_detect (s : State) (k : Fin 32) (f : DOut → DOut) : (s.modOutput k f).detect = s.detect := by cases s; rfl
@[simp] theorem State.modOutput_kv (s : State) (k : Fin 32) (f : DOut → DOut) : (s.modOutput k f).kv = s.kv := by cases s; rfl
@[simp] theorem State.modOutput_streams (s : State) (k : Fin 32) (f : DOut → DOut) : (s.modOutput k f).streams = s.streams := by cases s; rfl
@[simp] theorem State.modOutput_heads (s : State) (k : Fin 32) (f : DOut → DOut) : (s.modOutput k f).heads = s.heads := by cases s; rfl
@[simp] theorem State.modOutput_intake (s : State) (k : Fin 32) (f : DOut → DOut) : (s.modOutput k f).intake = s.intake := by cases s; rfl
@[simp] theorem State.modOutput_motion (s : State) (k : Fin 32) (f : DOut → DOut) : (s.modOutput k f).motion = { s.motion with outputs := upd s.motion.outputs k f } := by cases s; rfl
@[simp] theorem State.modOutput_crust (s : State) (k : Fin 32) (f : DOut → DOut) : (s.modOutput k f).crust = s.crust := by cases s; rfl
@[simp] theorem State.modOutput_can (s : State) (k : Fin 32) (f : DOut → DOut) : (s.modOutput k f).can = s.can := by cases s; rfl
@[simp] theorem State.modOutput_tt (s : State) (k : Fin 32) (f : DOut → DOut) : (s.modOutput k f).tt = s.tt := by cases s; rfl
@[simp] theorem State.modOutput_net (s : State) (k : Fin 32) (f : DOut → DOut) : (s.modOutput k f).net = s.net := by cases s; rfl
@[simp] theorem State.modOutput_power (s : State) (k : Fin 32) (f : DOut → DOut) : (s.modOutput k f).power = s.power := by cases s; rfl
@[simp] theorem State.modOutput_counters (s : State) (k : Fin 32) (f : DOut → DOut) : (s.modOutput k f).counters = s.counters := by cases s; rfl
@[simp] theorem State.modOutput_service (s : State) (k : Fin 32) (f : DOut → DOut) : (s.modOutput k f).service = s.service := by cases s; rfl
@[simp] theorem State.modOutput_outbox (s : State) (k : Fin 32) (f : DOut → DOut) : (s.modOutput k f).outbox = s.outbox := by cases s; rfl
@[simp] theorem State.modOutput_obj (s : State) (k : Fin 32) (f : DOut → DOut) (key : Key) : (s.modOutput k f).obj key = s.obj key := by simp [State.obj]
@[simp] theorem State.modOutput_nat (s : State) (k : Fin 32) (f : DOut → DOut) (key : Key) : (s.modOutput k f).nat key = s.nat key := by simp [State.nat, State.int]
@[simp] theorem State.modOutput_flag (s : State) (k : Fin 32) (f : DOut → DOut) (key : Key) : (s.modOutput k f).flag key = s.flag key := by simp [State.flag]
@[simp] theorem State.modOutput_now (s : State) (k : Fin 32) (f : DOut → DOut) : (s.modOutput k f).now = s.now := by simp [State.now]

/-! ## State.modSupply -/

@[simp] theorem State.modSupply_pending (s : State) (k : Fin 16) (f : Supply → Supply) : (s.modSupply k f).pending = s.pending := by cases s; rfl
@[simp] theorem State.modSupply_time (s : State) (k : Fin 16) (f : Supply → Supply) : (s.modSupply k f).time = s.time := by cases s; rfl
@[simp] theorem State.modSupply_log (s : State) (k : Fin 16) (f : Supply → Supply) : (s.modSupply k f).log = s.log := by cases s; rfl
@[simp] theorem State.modSupply_node (s : State) (k : Fin 16) (f : Supply → Supply) : (s.modSupply k f).node = s.node := by cases s; rfl
@[simp] theorem State.modSupply_dict (s : State) (k : Fin 16) (f : Supply → Supply) : (s.modSupply k f).dict = s.dict := by cases s; rfl
@[simp] theorem State.modSupply_commit (s : State) (k : Fin 16) (f : Supply → Supply) : (s.modSupply k f).commit = s.commit := by cases s; rfl
@[simp] theorem State.modSupply_server (s : State) (k : Fin 16) (f : Supply → Supply) : (s.modSupply k f).server = s.server := by cases s; rfl
@[simp] theorem State.modSupply_basaris (s : State) (k : Fin 16) (f : Supply → Supply) : (s.modSupply k f).basaris = s.basaris := by cases s; rfl
@[simp] theorem State.modSupply_mbx (s : State) (k : Fin 16) (f : Supply → Supply) : (s.modSupply k f).mbx = s.mbx := by cases s; rfl
@[simp] theorem State.modSupply_ports (s : State) (k : Fin 16) (f : Supply → Supply) : (s.modSupply k f).ports = s.ports := by cases s; rfl
@[simp] theorem State.modSupply_launch (s : State) (k : Fin 16) (f : Supply → Supply) : (s.modSupply k f).launch = s.launch := by cases s; rfl
@[simp] theorem State.modSupply_blocks (s : State) (k : Fin 16) (f : Supply → Supply) : (s.modSupply k f).blocks = s.blocks := by cases s; rfl
@[simp] theorem State.modSupply_regions (s : State) (k : Fin 16) (f : Supply → Supply) : (s.modSupply k f).regions = s.regions := by cases s; rfl
@[simp] theorem State.modSupply_mem (s : State) (k : Fin 16) (f : Supply → Supply) : (s.modSupply k f).mem = s.mem := by cases s; rfl
@[simp] theorem State.modSupply_marks (s : State) (k : Fin 16) (f : Supply → Supply) : (s.modSupply k f).marks = s.marks := by cases s; rfl
@[simp] theorem State.modSupply_detect (s : State) (k : Fin 16) (f : Supply → Supply) : (s.modSupply k f).detect = s.detect := by cases s; rfl
@[simp] theorem State.modSupply_kv (s : State) (k : Fin 16) (f : Supply → Supply) : (s.modSupply k f).kv = s.kv := by cases s; rfl
@[simp] theorem State.modSupply_streams (s : State) (k : Fin 16) (f : Supply → Supply) : (s.modSupply k f).streams = s.streams := by cases s; rfl
@[simp] theorem State.modSupply_heads (s : State) (k : Fin 16) (f : Supply → Supply) : (s.modSupply k f).heads = s.heads := by cases s; rfl
@[simp] theorem State.modSupply_intake (s : State) (k : Fin 16) (f : Supply → Supply) : (s.modSupply k f).intake = s.intake := by cases s; rfl
@[simp] theorem State.modSupply_motion (s : State) (k : Fin 16) (f : Supply → Supply) : (s.modSupply k f).motion = { s.motion with supplies := upd s.motion.supplies k f } := by cases s; rfl
@[simp] theorem State.modSupply_crust (s : State) (k : Fin 16) (f : Supply → Supply) : (s.modSupply k f).crust = s.crust := by cases s; rfl
@[simp] theorem State.modSupply_can (s : State) (k : Fin 16) (f : Supply → Supply) : (s.modSupply k f).can = s.can := by cases s; rfl
@[simp] theorem State.modSupply_tt (s : State) (k : Fin 16) (f : Supply → Supply) : (s.modSupply k f).tt = s.tt := by cases s; rfl
@[simp] theorem State.modSupply_net (s : State) (k : Fin 16) (f : Supply → Supply) : (s.modSupply k f).net = s.net := by cases s; rfl
@[simp] theorem State.modSupply_power (s : State) (k : Fin 16) (f : Supply → Supply) : (s.modSupply k f).power = s.power := by cases s; rfl
@[simp] theorem State.modSupply_counters (s : State) (k : Fin 16) (f : Supply → Supply) : (s.modSupply k f).counters = s.counters := by cases s; rfl
@[simp] theorem State.modSupply_service (s : State) (k : Fin 16) (f : Supply → Supply) : (s.modSupply k f).service = s.service := by cases s; rfl
@[simp] theorem State.modSupply_outbox (s : State) (k : Fin 16) (f : Supply → Supply) : (s.modSupply k f).outbox = s.outbox := by cases s; rfl
@[simp] theorem State.modSupply_obj (s : State) (k : Fin 16) (f : Supply → Supply) (key : Key) : (s.modSupply k f).obj key = s.obj key := by simp [State.obj]
@[simp] theorem State.modSupply_nat (s : State) (k : Fin 16) (f : Supply → Supply) (key : Key) : (s.modSupply k f).nat key = s.nat key := by simp [State.nat, State.int]
@[simp] theorem State.modSupply_flag (s : State) (k : Fin 16) (f : Supply → Supply) (key : Key) : (s.modSupply k f).flag key = s.flag key := by simp [State.flag]
@[simp] theorem State.modSupply_now (s : State) (k : Fin 16) (f : Supply → Supply) : (s.modSupply k f).now = s.now := by simp [State.now]

/-! ## State.modAdc -/

@[simp] theorem State.modAdc_pending (s : State) (k : Fin 32) (f : Adc → Adc) : (s.modAdc k f).pending = s.pending := by cases s; rfl
@[simp] theorem State.modAdc_time (s : State) (k : Fin 32) (f : Adc → Adc) : (s.modAdc k f).time = s.time := by cases s; rfl
@[simp] theorem State.modAdc_log (s : State) (k : Fin 32) (f : Adc → Adc) : (s.modAdc k f).log = s.log := by cases s; rfl
@[simp] theorem State.modAdc_node (s : State) (k : Fin 32) (f : Adc → Adc) : (s.modAdc k f).node = s.node := by cases s; rfl
@[simp] theorem State.modAdc_dict (s : State) (k : Fin 32) (f : Adc → Adc) : (s.modAdc k f).dict = s.dict := by cases s; rfl
@[simp] theorem State.modAdc_commit (s : State) (k : Fin 32) (f : Adc → Adc) : (s.modAdc k f).commit = s.commit := by cases s; rfl
@[simp] theorem State.modAdc_server (s : State) (k : Fin 32) (f : Adc → Adc) : (s.modAdc k f).server = s.server := by cases s; rfl
@[simp] theorem State.modAdc_basaris (s : State) (k : Fin 32) (f : Adc → Adc) : (s.modAdc k f).basaris = s.basaris := by cases s; rfl
@[simp] theorem State.modAdc_mbx (s : State) (k : Fin 32) (f : Adc → Adc) : (s.modAdc k f).mbx = s.mbx := by cases s; rfl
@[simp] theorem State.modAdc_ports (s : State) (k : Fin 32) (f : Adc → Adc) : (s.modAdc k f).ports = s.ports := by cases s; rfl
@[simp] theorem State.modAdc_launch (s : State) (k : Fin 32) (f : Adc → Adc) : (s.modAdc k f).launch = s.launch := by cases s; rfl
@[simp] theorem State.modAdc_blocks (s : State) (k : Fin 32) (f : Adc → Adc) : (s.modAdc k f).blocks = s.blocks := by cases s; rfl
@[simp] theorem State.modAdc_regions (s : State) (k : Fin 32) (f : Adc → Adc) : (s.modAdc k f).regions = s.regions := by cases s; rfl
@[simp] theorem State.modAdc_mem (s : State) (k : Fin 32) (f : Adc → Adc) : (s.modAdc k f).mem = s.mem := by cases s; rfl
@[simp] theorem State.modAdc_marks (s : State) (k : Fin 32) (f : Adc → Adc) : (s.modAdc k f).marks = s.marks := by cases s; rfl
@[simp] theorem State.modAdc_detect (s : State) (k : Fin 32) (f : Adc → Adc) : (s.modAdc k f).detect = s.detect := by cases s; rfl
@[simp] theorem State.modAdc_kv (s : State) (k : Fin 32) (f : Adc → Adc) : (s.modAdc k f).kv = s.kv := by cases s; rfl
@[simp] theorem State.modAdc_streams (s : State) (k : Fin 32) (f : Adc → Adc) : (s.modAdc k f).streams = s.streams := by cases s; rfl
@[simp] theorem State.modAdc_heads (s : State) (k : Fin 32) (f : Adc → Adc) : (s.modAdc k f).heads = s.heads := by cases s; rfl
@[simp] theorem State.modAdc_intake (s : State) (k : Fin 32) (f : Adc → Adc) : (s.modAdc k f).intake = s.intake := by cases s; rfl
@[simp] theorem State.modAdc_motion (s : State) (k : Fin 32) (f : Adc → Adc) : (s.modAdc k f).motion = { s.motion with adcs := upd s.motion.adcs k f } := by cases s; rfl
@[simp] theorem State.modAdc_crust (s : State) (k : Fin 32) (f : Adc → Adc) : (s.modAdc k f).crust = s.crust := by cases s; rfl
@[simp] theorem State.modAdc_can (s : State) (k : Fin 32) (f : Adc → Adc) : (s.modAdc k f).can = s.can := by cases s; rfl
@[simp] theorem State.modAdc_tt (s : State) (k : Fin 32) (f : Adc → Adc) : (s.modAdc k f).tt = s.tt := by cases s; rfl
@[simp] theorem State.modAdc_net (s : State) (k : Fin 32) (f : Adc → Adc) : (s.modAdc k f).net = s.net := by cases s; rfl
@[simp] theorem State.modAdc_power (s : State) (k : Fin 32) (f : Adc → Adc) : (s.modAdc k f).power = s.power := by cases s; rfl
@[simp] theorem State.modAdc_counters (s : State) (k : Fin 32) (f : Adc → Adc) : (s.modAdc k f).counters = s.counters := by cases s; rfl
@[simp] theorem State.modAdc_service (s : State) (k : Fin 32) (f : Adc → Adc) : (s.modAdc k f).service = s.service := by cases s; rfl
@[simp] theorem State.modAdc_outbox (s : State) (k : Fin 32) (f : Adc → Adc) : (s.modAdc k f).outbox = s.outbox := by cases s; rfl
@[simp] theorem State.modAdc_obj (s : State) (k : Fin 32) (f : Adc → Adc) (key : Key) : (s.modAdc k f).obj key = s.obj key := by simp [State.obj]
@[simp] theorem State.modAdc_nat (s : State) (k : Fin 32) (f : Adc → Adc) (key : Key) : (s.modAdc k f).nat key = s.nat key := by simp [State.nat, State.int]
@[simp] theorem State.modAdc_flag (s : State) (k : Fin 32) (f : Adc → Adc) (key : Key) : (s.modAdc k f).flag key = s.flag key := by simp [State.flag]
@[simp] theorem State.modAdc_now (s : State) (k : Fin 32) (f : Adc → Adc) : (s.modAdc k f).now = s.now := by simp [State.now]

/-! ## State.modCrust -/

@[simp] theorem State.modCrust_pending (s : State) (f : Crust → Crust) : (s.modCrust f).pending = s.pending := by cases s; rfl
@[simp] theorem State.modCrust_time (s : State) (f : Crust → Crust) : (s.modCrust f).time = s.time := by cases s; rfl
@[simp] theorem State.modCrust_log (s : State) (f : Crust → Crust) : (s.modCrust f).log = s.log := by cases s; rfl
@[simp] theorem State.modCrust_node (s : State) (f : Crust → Crust) : (s.modCrust f).node = s.node := by cases s; rfl
@[simp] theorem State.modCrust_dict (s : State) (f : Crust → Crust) : (s.modCrust f).dict = s.dict := by cases s; rfl
@[simp] theorem State.modCrust_commit (s : State) (f : Crust → Crust) : (s.modCrust f).commit = s.commit := by cases s; rfl
@[simp] theorem State.modCrust_server (s : State) (f : Crust → Crust) : (s.modCrust f).server = s.server := by cases s; rfl
@[simp] theorem State.modCrust_basaris (s : State) (f : Crust → Crust) : (s.modCrust f).basaris = s.basaris := by cases s; rfl
@[simp] theorem State.modCrust_mbx (s : State) (f : Crust → Crust) : (s.modCrust f).mbx = s.mbx := by cases s; rfl
@[simp] theorem State.modCrust_ports (s : State) (f : Crust → Crust) : (s.modCrust f).ports = s.ports := by cases s; rfl
@[simp] theorem State.modCrust_launch (s : State) (f : Crust → Crust) : (s.modCrust f).launch = s.launch := by cases s; rfl
@[simp] theorem State.modCrust_blocks (s : State) (f : Crust → Crust) : (s.modCrust f).blocks = s.blocks := by cases s; rfl
@[simp] theorem State.modCrust_regions (s : State) (f : Crust → Crust) : (s.modCrust f).regions = s.regions := by cases s; rfl
@[simp] theorem State.modCrust_mem (s : State) (f : Crust → Crust) : (s.modCrust f).mem = s.mem := by cases s; rfl
@[simp] theorem State.modCrust_marks (s : State) (f : Crust → Crust) : (s.modCrust f).marks = s.marks := by cases s; rfl
@[simp] theorem State.modCrust_detect (s : State) (f : Crust → Crust) : (s.modCrust f).detect = s.detect := by cases s; rfl
@[simp] theorem State.modCrust_kv (s : State) (f : Crust → Crust) : (s.modCrust f).kv = s.kv := by cases s; rfl
@[simp] theorem State.modCrust_streams (s : State) (f : Crust → Crust) : (s.modCrust f).streams = s.streams := by cases s; rfl
@[simp] theorem State.modCrust_heads (s : State) (f : Crust → Crust) : (s.modCrust f).heads = s.heads := by cases s; rfl
@[simp] theorem State.modCrust_intake (s : State) (f : Crust → Crust) : (s.modCrust f).intake = s.intake := by cases s; rfl
@[simp] theorem State.modCrust_motion (s : State) (f : Crust → Crust) : (s.modCrust f).motion = s.motion := by cases s; rfl
@[simp] theorem State.modCrust_crust (s : State) (f : Crust → Crust) : (s.modCrust f).crust = f s.crust := by cases s; rfl
@[simp] theorem State.modCrust_can (s : State) (f : Crust → Crust) : (s.modCrust f).can = s.can := by cases s; rfl
@[simp] theorem State.modCrust_tt (s : State) (f : Crust → Crust) : (s.modCrust f).tt = s.tt := by cases s; rfl
@[simp] theorem State.modCrust_net (s : State) (f : Crust → Crust) : (s.modCrust f).net = s.net := by cases s; rfl
@[simp] theorem State.modCrust_power (s : State) (f : Crust → Crust) : (s.modCrust f).power = s.power := by cases s; rfl
@[simp] theorem State.modCrust_counters (s : State) (f : Crust → Crust) : (s.modCrust f).counters = s.counters := by cases s; rfl
@[simp] theorem State.modCrust_service (s : State) (f : Crust → Crust) : (s.modCrust f).service = s.service := by cases s; rfl
@[simp] theorem State.modCrust_outbox (s : State) (f : Crust → Crust) : (s.modCrust f).outbox = s.outbox := by cases s; rfl
@[simp] theorem State.modCrust_now (s : State) (f : Crust → Crust) : (s.modCrust f).now = s.now := by simp [State.now]

/-! ## State.modTime -/

@[simp] theorem State.modTime_pending (s : State) (f : Time → Time) : (s.modTime f).pending = s.pending := by cases s; rfl
@[simp] theorem State.modTime_time (s : State) (f : Time → Time) : (s.modTime f).time = f s.time := by cases s; rfl
@[simp] theorem State.modTime_log (s : State) (f : Time → Time) : (s.modTime f).log = s.log := by cases s; rfl
@[simp] theorem State.modTime_node (s : State) (f : Time → Time) : (s.modTime f).node = s.node := by cases s; rfl
@[simp] theorem State.modTime_dict (s : State) (f : Time → Time) : (s.modTime f).dict = s.dict := by cases s; rfl
@[simp] theorem State.modTime_commit (s : State) (f : Time → Time) : (s.modTime f).commit = s.commit := by cases s; rfl
@[simp] theorem State.modTime_server (s : State) (f : Time → Time) : (s.modTime f).server = s.server := by cases s; rfl
@[simp] theorem State.modTime_basaris (s : State) (f : Time → Time) : (s.modTime f).basaris = s.basaris := by cases s; rfl
@[simp] theorem State.modTime_mbx (s : State) (f : Time → Time) : (s.modTime f).mbx = s.mbx := by cases s; rfl
@[simp] theorem State.modTime_ports (s : State) (f : Time → Time) : (s.modTime f).ports = s.ports := by cases s; rfl
@[simp] theorem State.modTime_launch (s : State) (f : Time → Time) : (s.modTime f).launch = s.launch := by cases s; rfl
@[simp] theorem State.modTime_blocks (s : State) (f : Time → Time) : (s.modTime f).blocks = s.blocks := by cases s; rfl
@[simp] theorem State.modTime_regions (s : State) (f : Time → Time) : (s.modTime f).regions = s.regions := by cases s; rfl
@[simp] theorem State.modTime_mem (s : State) (f : Time → Time) : (s.modTime f).mem = s.mem := by cases s; rfl
@[simp] theorem State.modTime_marks (s : State) (f : Time → Time) : (s.modTime f).marks = s.marks := by cases s; rfl
@[simp] theorem State.modTime_detect (s : State) (f : Time → Time) : (s.modTime f).detect = s.detect := by cases s; rfl
@[simp] theorem State.modTime_kv (s : State) (f : Time → Time) : (s.modTime f).kv = s.kv := by cases s; rfl
@[simp] theorem State.modTime_streams (s : State) (f : Time → Time) : (s.modTime f).streams = s.streams := by cases s; rfl
@[simp] theorem State.modTime_heads (s : State) (f : Time → Time) : (s.modTime f).heads = s.heads := by cases s; rfl
@[simp] theorem State.modTime_intake (s : State) (f : Time → Time) : (s.modTime f).intake = s.intake := by cases s; rfl
@[simp] theorem State.modTime_motion (s : State) (f : Time → Time) : (s.modTime f).motion = s.motion := by cases s; rfl
@[simp] theorem State.modTime_crust (s : State) (f : Time → Time) : (s.modTime f).crust = s.crust := by cases s; rfl
@[simp] theorem State.modTime_can (s : State) (f : Time → Time) : (s.modTime f).can = s.can := by cases s; rfl
@[simp] theorem State.modTime_tt (s : State) (f : Time → Time) : (s.modTime f).tt = s.tt := by cases s; rfl
@[simp] theorem State.modTime_net (s : State) (f : Time → Time) : (s.modTime f).net = s.net := by cases s; rfl
@[simp] theorem State.modTime_power (s : State) (f : Time → Time) : (s.modTime f).power = s.power := by cases s; rfl
@[simp] theorem State.modTime_counters (s : State) (f : Time → Time) : (s.modTime f).counters = s.counters := by cases s; rfl
@[simp] theorem State.modTime_service (s : State) (f : Time → Time) : (s.modTime f).service = s.service := by cases s; rfl
@[simp] theorem State.modTime_outbox (s : State) (f : Time → Time) : (s.modTime f).outbox = s.outbox := by cases s; rfl
@[simp] theorem State.modTime_obj (s : State) (f : Time → Time) (key : Key) : (s.modTime f).obj key = s.obj key := by simp [State.obj]
@[simp] theorem State.modTime_nat (s : State) (f : Time → Time) (key : Key) : (s.modTime f).nat key = s.nat key := by simp [State.nat, State.int]
@[simp] theorem State.modTime_flag (s : State) (f : Time → Time) (key : Key) : (s.modTime f).flag key = s.flag key := by simp [State.flag]

/-! ## State.modDomain -/

@[simp] theorem State.modDomain_pending (s : State) (d : Fin 2) (f : Domain → Domain) : (s.modDomain d f).pending = s.pending := by cases s; rfl
@[simp] theorem State.modDomain_time (s : State) (d : Fin 2) (f : Domain → Domain) : (s.modDomain d f).time = { s.time with domains := upd s.time.domains d f } := by cases s; rfl
@[simp] theorem State.modDomain_log (s : State) (d : Fin 2) (f : Domain → Domain) : (s.modDomain d f).log = s.log := by cases s; rfl
@[simp] theorem State.modDomain_node (s : State) (d : Fin 2) (f : Domain → Domain) : (s.modDomain d f).node = s.node := by cases s; rfl
@[simp] theorem State.modDomain_dict (s : State) (d : Fin 2) (f : Domain → Domain) : (s.modDomain d f).dict = s.dict := by cases s; rfl
@[simp] theorem State.modDomain_commit (s : State) (d : Fin 2) (f : Domain → Domain) : (s.modDomain d f).commit = s.commit := by cases s; rfl
@[simp] theorem State.modDomain_server (s : State) (d : Fin 2) (f : Domain → Domain) : (s.modDomain d f).server = s.server := by cases s; rfl
@[simp] theorem State.modDomain_basaris (s : State) (d : Fin 2) (f : Domain → Domain) : (s.modDomain d f).basaris = s.basaris := by cases s; rfl
@[simp] theorem State.modDomain_mbx (s : State) (d : Fin 2) (f : Domain → Domain) : (s.modDomain d f).mbx = s.mbx := by cases s; rfl
@[simp] theorem State.modDomain_ports (s : State) (d : Fin 2) (f : Domain → Domain) : (s.modDomain d f).ports = s.ports := by cases s; rfl
@[simp] theorem State.modDomain_launch (s : State) (d : Fin 2) (f : Domain → Domain) : (s.modDomain d f).launch = s.launch := by cases s; rfl
@[simp] theorem State.modDomain_blocks (s : State) (d : Fin 2) (f : Domain → Domain) : (s.modDomain d f).blocks = s.blocks := by cases s; rfl
@[simp] theorem State.modDomain_regions (s : State) (d : Fin 2) (f : Domain → Domain) : (s.modDomain d f).regions = s.regions := by cases s; rfl
@[simp] theorem State.modDomain_mem (s : State) (d : Fin 2) (f : Domain → Domain) : (s.modDomain d f).mem = s.mem := by cases s; rfl
@[simp] theorem State.modDomain_marks (s : State) (d : Fin 2) (f : Domain → Domain) : (s.modDomain d f).marks = s.marks := by cases s; rfl
@[simp] theorem State.modDomain_detect (s : State) (d : Fin 2) (f : Domain → Domain) : (s.modDomain d f).detect = s.detect := by cases s; rfl
@[simp] theorem State.modDomain_kv (s : State) (d : Fin 2) (f : Domain → Domain) : (s.modDomain d f).kv = s.kv := by cases s; rfl
@[simp] theorem State.modDomain_streams (s : State) (d : Fin 2) (f : Domain → Domain) : (s.modDomain d f).streams = s.streams := by cases s; rfl
@[simp] theorem State.modDomain_heads (s : State) (d : Fin 2) (f : Domain → Domain) : (s.modDomain d f).heads = s.heads := by cases s; rfl
@[simp] theorem State.modDomain_intake (s : State) (d : Fin 2) (f : Domain → Domain) : (s.modDomain d f).intake = s.intake := by cases s; rfl
@[simp] theorem State.modDomain_motion (s : State) (d : Fin 2) (f : Domain → Domain) : (s.modDomain d f).motion = s.motion := by cases s; rfl
@[simp] theorem State.modDomain_crust (s : State) (d : Fin 2) (f : Domain → Domain) : (s.modDomain d f).crust = s.crust := by cases s; rfl
@[simp] theorem State.modDomain_can (s : State) (d : Fin 2) (f : Domain → Domain) : (s.modDomain d f).can = s.can := by cases s; rfl
@[simp] theorem State.modDomain_tt (s : State) (d : Fin 2) (f : Domain → Domain) : (s.modDomain d f).tt = s.tt := by cases s; rfl
@[simp] theorem State.modDomain_net (s : State) (d : Fin 2) (f : Domain → Domain) : (s.modDomain d f).net = s.net := by cases s; rfl
@[simp] theorem State.modDomain_power (s : State) (d : Fin 2) (f : Domain → Domain) : (s.modDomain d f).power = s.power := by cases s; rfl
@[simp] theorem State.modDomain_counters (s : State) (d : Fin 2) (f : Domain → Domain) : (s.modDomain d f).counters = s.counters := by cases s; rfl
@[simp] theorem State.modDomain_service (s : State) (d : Fin 2) (f : Domain → Domain) : (s.modDomain d f).service = s.service := by cases s; rfl
@[simp] theorem State.modDomain_outbox (s : State) (d : Fin 2) (f : Domain → Domain) : (s.modDomain d f).outbox = s.outbox := by cases s; rfl
@[simp] theorem State.modDomain_obj (s : State) (d : Fin 2) (f : Domain → Domain) (key : Key) : (s.modDomain d f).obj key = s.obj key := by simp [State.obj]
@[simp] theorem State.modDomain_nat (s : State) (d : Fin 2) (f : Domain → Domain) (key : Key) : (s.modDomain d f).nat key = s.nat key := by simp [State.nat, State.int]
@[simp] theorem State.modDomain_flag (s : State) (d : Fin 2) (f : Domain → Domain) (key : Key) : (s.modDomain d f).flag key = s.flag key := by simp [State.flag]

/-! ## State.modCan -/

@[simp] theorem State.modCan_pending (s : State) (c : Fin 4) (f : CanCtl → CanCtl) : (s.modCan c f).pending = s.pending := by cases s; rfl
@[simp] theorem State.modCan_time (s : State) (c : Fin 4) (f : CanCtl → CanCtl) : (s.modCan c f).time = s.time := by cases s; rfl
@[simp] theorem State.modCan_log (s : State) (c : Fin 4) (f : CanCtl → CanCtl) : (s.modCan c f).log = s.log := by cases s; rfl
@[simp] theorem State.modCan_node (s : State) (c : Fin 4) (f : CanCtl → CanCtl) : (s.modCan c f).node = s.node := by cases s; rfl
@[simp] theorem State.modCan_dict (s : State) (c : Fin 4) (f : CanCtl → CanCtl) : (s.modCan c f).dict = s.dict := by cases s; rfl
@[simp] theorem State.modCan_commit (s : State) (c : Fin 4) (f : CanCtl → CanCtl) : (s.modCan c f).commit = s.commit := by cases s; rfl
@[simp] theorem State.modCan_server (s : State) (c : Fin 4) (f : CanCtl → CanCtl) : (s.modCan c f).server = s.server := by cases s; rfl
@[simp] theorem State.modCan_basaris (s : State) (c : Fin 4) (f : CanCtl → CanCtl) : (s.modCan c f).basaris = s.basaris := by cases s; rfl
@[simp] theorem State.modCan_mbx (s : State) (c : Fin 4) (f : CanCtl → CanCtl) : (s.modCan c f).mbx = s.mbx := by cases s; rfl
@[simp] theorem State.modCan_ports (s : State) (c : Fin 4) (f : CanCtl → CanCtl) : (s.modCan c f).ports = s.ports := by cases s; rfl
@[simp] theorem State.modCan_launch (s : State) (c : Fin 4) (f : CanCtl → CanCtl) : (s.modCan c f).launch = s.launch := by cases s; rfl
@[simp] theorem State.modCan_blocks (s : State) (c : Fin 4) (f : CanCtl → CanCtl) : (s.modCan c f).blocks = s.blocks := by cases s; rfl
@[simp] theorem State.modCan_regions (s : State) (c : Fin 4) (f : CanCtl → CanCtl) : (s.modCan c f).regions = s.regions := by cases s; rfl
@[simp] theorem State.modCan_mem (s : State) (c : Fin 4) (f : CanCtl → CanCtl) : (s.modCan c f).mem = s.mem := by cases s; rfl
@[simp] theorem State.modCan_marks (s : State) (c : Fin 4) (f : CanCtl → CanCtl) : (s.modCan c f).marks = s.marks := by cases s; rfl
@[simp] theorem State.modCan_detect (s : State) (c : Fin 4) (f : CanCtl → CanCtl) : (s.modCan c f).detect = s.detect := by cases s; rfl
@[simp] theorem State.modCan_kv (s : State) (c : Fin 4) (f : CanCtl → CanCtl) : (s.modCan c f).kv = s.kv := by cases s; rfl
@[simp] theorem State.modCan_streams (s : State) (c : Fin 4) (f : CanCtl → CanCtl) : (s.modCan c f).streams = s.streams := by cases s; rfl
@[simp] theorem State.modCan_heads (s : State) (c : Fin 4) (f : CanCtl → CanCtl) : (s.modCan c f).heads = s.heads := by cases s; rfl
@[simp] theorem State.modCan_intake (s : State) (c : Fin 4) (f : CanCtl → CanCtl) : (s.modCan c f).intake = s.intake := by cases s; rfl
@[simp] theorem State.modCan_motion (s : State) (c : Fin 4) (f : CanCtl → CanCtl) : (s.modCan c f).motion = s.motion := by cases s; rfl
@[simp] theorem State.modCan_crust (s : State) (c : Fin 4) (f : CanCtl → CanCtl) : (s.modCan c f).crust = s.crust := by cases s; rfl
@[simp] theorem State.modCan_can (s : State) (c : Fin 4) (f : CanCtl → CanCtl) : (s.modCan c f).can = upd s.can c f := by cases s; rfl
@[simp] theorem State.modCan_tt (s : State) (c : Fin 4) (f : CanCtl → CanCtl) : (s.modCan c f).tt = s.tt := by cases s; rfl
@[simp] theorem State.modCan_net (s : State) (c : Fin 4) (f : CanCtl → CanCtl) : (s.modCan c f).net = s.net := by cases s; rfl
@[simp] theorem State.modCan_power (s : State) (c : Fin 4) (f : CanCtl → CanCtl) : (s.modCan c f).power = s.power := by cases s; rfl
@[simp] theorem State.modCan_counters (s : State) (c : Fin 4) (f : CanCtl → CanCtl) : (s.modCan c f).counters = s.counters := by cases s; rfl
@[simp] theorem State.modCan_service (s : State) (c : Fin 4) (f : CanCtl → CanCtl) : (s.modCan c f).service = s.service := by cases s; rfl
@[simp] theorem State.modCan_outbox (s : State) (c : Fin 4) (f : CanCtl → CanCtl) : (s.modCan c f).outbox = s.outbox := by cases s; rfl
@[simp] theorem State.modCan_obj (s : State) (c : Fin 4) (f : CanCtl → CanCtl) (key : Key) : (s.modCan c f).obj key = s.obj key := by simp [State.obj]
@[simp] theorem State.modCan_nat (s : State) (c : Fin 4) (f : CanCtl → CanCtl) (key : Key) : (s.modCan c f).nat key = s.nat key := by simp [State.nat, State.int]
@[simp] theorem State.modCan_flag (s : State) (c : Fin 4) (f : CanCtl → CanCtl) (key : Key) : (s.modCan c f).flag key = s.flag key := by simp [State.flag]
@[simp] theorem State.modCan_now (s : State) (c : Fin 4) (f : CanCtl → CanCtl) : (s.modCan c f).now = s.now := by simp [State.now]

/-! ## State.modTt -/

@[simp] theorem State.modTt_pending (s : State) (c : Fin 2) (f : TtCan → TtCan) : (s.modTt c f).pending = s.pending := by cases s; rfl
@[simp] theorem State.modTt_time (s : State) (c : Fin 2) (f : TtCan → TtCan) : (s.modTt c f).time = s.time := by cases s; rfl
@[simp] theorem State.modTt_log (s : State) (c : Fin 2) (f : TtCan → TtCan) : (s.modTt c f).log = s.log := by cases s; rfl
@[simp] theorem State.modTt_node (s : State) (c : Fin 2) (f : TtCan → TtCan) : (s.modTt c f).node = s.node := by cases s; rfl
@[simp] theorem State.modTt_dict (s : State) (c : Fin 2) (f : TtCan → TtCan) : (s.modTt c f).dict = s.dict := by cases s; rfl
@[simp] theorem State.modTt_commit (s : State) (c : Fin 2) (f : TtCan → TtCan) : (s.modTt c f).commit = s.commit := by cases s; rfl
@[simp] theorem State.modTt_server (s : State) (c : Fin 2) (f : TtCan → TtCan) : (s.modTt c f).server = s.server := by cases s; rfl
@[simp] theorem State.modTt_basaris (s : State) (c : Fin 2) (f : TtCan → TtCan) : (s.modTt c f).basaris = s.basaris := by cases s; rfl
@[simp] theorem State.modTt_mbx (s : State) (c : Fin 2) (f : TtCan → TtCan) : (s.modTt c f).mbx = s.mbx := by cases s; rfl
@[simp] theorem State.modTt_ports (s : State) (c : Fin 2) (f : TtCan → TtCan) : (s.modTt c f).ports = s.ports := by cases s; rfl
@[simp] theorem State.modTt_launch (s : State) (c : Fin 2) (f : TtCan → TtCan) : (s.modTt c f).launch = s.launch := by cases s; rfl
@[simp] theorem State.modTt_blocks (s : State) (c : Fin 2) (f : TtCan → TtCan) : (s.modTt c f).blocks = s.blocks := by cases s; rfl
@[simp] theorem State.modTt_regions (s : State) (c : Fin 2) (f : TtCan → TtCan) : (s.modTt c f).regions = s.regions := by cases s; rfl
@[simp] theorem State.modTt_mem (s : State) (c : Fin 2) (f : TtCan → TtCan) : (s.modTt c f).mem = s.mem := by cases s; rfl
@[simp] theorem State.modTt_marks (s : State) (c : Fin 2) (f : TtCan → TtCan) : (s.modTt c f).marks = s.marks := by cases s; rfl
@[simp] theorem State.modTt_detect (s : State) (c : Fin 2) (f : TtCan → TtCan) : (s.modTt c f).detect = s.detect := by cases s; rfl
@[simp] theorem State.modTt_kv (s : State) (c : Fin 2) (f : TtCan → TtCan) : (s.modTt c f).kv = s.kv := by cases s; rfl
@[simp] theorem State.modTt_streams (s : State) (c : Fin 2) (f : TtCan → TtCan) : (s.modTt c f).streams = s.streams := by cases s; rfl
@[simp] theorem State.modTt_heads (s : State) (c : Fin 2) (f : TtCan → TtCan) : (s.modTt c f).heads = s.heads := by cases s; rfl
@[simp] theorem State.modTt_intake (s : State) (c : Fin 2) (f : TtCan → TtCan) : (s.modTt c f).intake = s.intake := by cases s; rfl
@[simp] theorem State.modTt_motion (s : State) (c : Fin 2) (f : TtCan → TtCan) : (s.modTt c f).motion = s.motion := by cases s; rfl
@[simp] theorem State.modTt_crust (s : State) (c : Fin 2) (f : TtCan → TtCan) : (s.modTt c f).crust = s.crust := by cases s; rfl
@[simp] theorem State.modTt_can (s : State) (c : Fin 2) (f : TtCan → TtCan) : (s.modTt c f).can = s.can := by cases s; rfl
@[simp] theorem State.modTt_tt (s : State) (c : Fin 2) (f : TtCan → TtCan) : (s.modTt c f).tt = upd s.tt c f := by cases s; rfl
@[simp] theorem State.modTt_net (s : State) (c : Fin 2) (f : TtCan → TtCan) : (s.modTt c f).net = s.net := by cases s; rfl
@[simp] theorem State.modTt_power (s : State) (c : Fin 2) (f : TtCan → TtCan) : (s.modTt c f).power = s.power := by cases s; rfl
@[simp] theorem State.modTt_counters (s : State) (c : Fin 2) (f : TtCan → TtCan) : (s.modTt c f).counters = s.counters := by cases s; rfl
@[simp] theorem State.modTt_service (s : State) (c : Fin 2) (f : TtCan → TtCan) : (s.modTt c f).service = s.service := by cases s; rfl
@[simp] theorem State.modTt_outbox (s : State) (c : Fin 2) (f : TtCan → TtCan) : (s.modTt c f).outbox = s.outbox := by cases s; rfl
@[simp] theorem State.modTt_obj (s : State) (c : Fin 2) (f : TtCan → TtCan) (key : Key) : (s.modTt c f).obj key = s.obj key := by simp [State.obj]
@[simp] theorem State.modTt_nat (s : State) (c : Fin 2) (f : TtCan → TtCan) (key : Key) : (s.modTt c f).nat key = s.nat key := by simp [State.nat, State.int]
@[simp] theorem State.modTt_flag (s : State) (c : Fin 2) (f : TtCan → TtCan) (key : Key) : (s.modTt c f).flag key = s.flag key := by simp [State.flag]
@[simp] theorem State.modTt_now (s : State) (c : Fin 2) (f : TtCan → TtCan) : (s.modTt c f).now = s.now := by simp [State.now]

/-! ## State.modNet -/

@[simp] theorem State.modNet_pending (s : State) (f : Net → Net) : (s.modNet f).pending = s.pending := by cases s; rfl
@[simp] theorem State.modNet_time (s : State) (f : Net → Net) : (s.modNet f).time = s.time := by cases s; rfl
@[simp] theorem State.modNet_log (s : State) (f : Net → Net) : (s.modNet f).log = s.log := by cases s; rfl
@[simp] theorem State.modNet_node (s : State) (f : Net → Net) : (s.modNet f).node = s.node := by cases s; rfl
@[simp] theorem State.modNet_dict (s : State) (f : Net → Net) : (s.modNet f).dict = s.dict := by cases s; rfl
@[simp] theorem State.modNet_commit (s : State) (f : Net → Net) : (s.modNet f).commit = s.commit := by cases s; rfl
@[simp] theorem State.modNet_server (s : State) (f : Net → Net) : (s.modNet f).server = s.server := by cases s; rfl
@[simp] theorem State.modNet_basaris (s : State) (f : Net → Net) : (s.modNet f).basaris = s.basaris := by cases s; rfl
@[simp] theorem State.modNet_mbx (s : State) (f : Net → Net) : (s.modNet f).mbx = s.mbx := by cases s; rfl
@[simp] theorem State.modNet_ports (s : State) (f : Net → Net) : (s.modNet f).ports = s.ports := by cases s; rfl
@[simp] theorem State.modNet_launch (s : State) (f : Net → Net) : (s.modNet f).launch = s.launch := by cases s; rfl
@[simp] theorem State.modNet_blocks (s : State) (f : Net → Net) : (s.modNet f).blocks = s.blocks := by cases s; rfl
@[simp] theorem State.modNet_regions (s : State) (f : Net → Net) : (s.modNet f).regions = s.regions := by cases s; rfl
@[simp] theorem State.modNet_mem (s : State) (f : Net → Net) : (s.modNet f).mem = s.mem := by cases s; rfl
@[simp] theorem State.modNet_marks (s : State) (f : Net → Net) : (s.modNet f).marks = s.marks := by cases s; rfl
@[simp] theorem State.modNet_detect (s : State) (f : Net → Net) : (s.modNet f).detect = s.detect := by cases s; rfl
@[simp] theorem State.modNet_kv (s : State) (f : Net → Net) : (s.modNet f).kv = s.kv := by cases s; rfl
@[simp] theorem State.modNet_streams (s : State) (f : Net → Net) : (s.modNet f).streams = s.streams := by cases s; rfl
@[simp] theorem State.modNet_heads (s : State) (f : Net → Net) : (s.modNet f).heads = s.heads := by cases s; rfl
@[simp] theorem State.modNet_intake (s : State) (f : Net → Net) : (s.modNet f).intake = s.intake := by cases s; rfl
@[simp] theorem State.modNet_motion (s : State) (f : Net → Net) : (s.modNet f).motion = s.motion := by cases s; rfl
@[simp] theorem State.modNet_crust (s : State) (f : Net → Net) : (s.modNet f).crust = s.crust := by cases s; rfl
@[simp] theorem State.modNet_can (s : State) (f : Net → Net) : (s.modNet f).can = s.can := by cases s; rfl
@[simp] theorem State.modNet_tt (s : State) (f : Net → Net) : (s.modNet f).tt = s.tt := by cases s; rfl
@[simp] theorem State.modNet_net (s : State) (f : Net → Net) : (s.modNet f).net = f s.net := by cases s; rfl
@[simp] theorem State.modNet_power (s : State) (f : Net → Net) : (s.modNet f).power = s.power := by cases s; rfl
@[simp] theorem State.modNet_counters (s : State) (f : Net → Net) : (s.modNet f).counters = s.counters := by cases s; rfl
@[simp] theorem State.modNet_service (s : State) (f : Net → Net) : (s.modNet f).service = s.service := by cases s; rfl
@[simp] theorem State.modNet_outbox (s : State) (f : Net → Net) : (s.modNet f).outbox = s.outbox := by cases s; rfl
@[simp] theorem State.modNet_obj (s : State) (f : Net → Net) (key : Key) : (s.modNet f).obj key = s.obj key := by simp [State.obj]
@[simp] theorem State.modNet_nat (s : State) (f : Net → Net) (key : Key) : (s.modNet f).nat key = s.nat key := by simp [State.nat, State.int]
@[simp] theorem State.modNet_flag (s : State) (f : Net → Net) (key : Key) : (s.modNet f).flag key = s.flag key := by simp [State.flag]
@[simp] theorem State.modNet_now (s : State) (f : Net → Net) : (s.modNet f).now = s.now := by simp [State.now]

/-! ## State.modPort -/

@[simp] theorem State.modPort_pending (s : State) (p : Fin 8) (f : Port → Port) : (s.modPort p f).pending = s.pending := by cases s; rfl
@[simp] theorem State.modPort_time (s : State) (p : Fin 8) (f : Port → Port) : (s.modPort p f).time = s.time := by cases s; rfl
@[simp] theorem State.modPort_log (s : State) (p : Fin 8) (f : Port → Port) : (s.modPort p f).log = s.log := by cases s; rfl
@[simp] theorem State.modPort_node (s : State) (p : Fin 8) (f : Port → Port) : (s.modPort p f).node = s.node := by cases s; rfl
@[simp] theorem State.modPort_dict (s : State) (p : Fin 8) (f : Port → Port) : (s.modPort p f).dict = s.dict := by cases s; rfl
@[simp] theorem State.modPort_commit (s : State) (p : Fin 8) (f : Port → Port) : (s.modPort p f).commit = s.commit := by cases s; rfl
@[simp] theorem State.modPort_server (s : State) (p : Fin 8) (f : Port → Port) : (s.modPort p f).server = s.server := by cases s; rfl
@[simp] theorem State.modPort_basaris (s : State) (p : Fin 8) (f : Port → Port) : (s.modPort p f).basaris = s.basaris := by cases s; rfl
@[simp] theorem State.modPort_mbx (s : State) (p : Fin 8) (f : Port → Port) : (s.modPort p f).mbx = s.mbx := by cases s; rfl
@[simp] theorem State.modPort_ports (s : State) (p : Fin 8) (f : Port → Port) : (s.modPort p f).ports = s.ports := by cases s; rfl
@[simp] theorem State.modPort_launch (s : State) (p : Fin 8) (f : Port → Port) : (s.modPort p f).launch = s.launch := by cases s; rfl
@[simp] theorem State.modPort_blocks (s : State) (p : Fin 8) (f : Port → Port) : (s.modPort p f).blocks = s.blocks := by cases s; rfl
@[simp] theorem State.modPort_regions (s : State) (p : Fin 8) (f : Port → Port) : (s.modPort p f).regions = s.regions := by cases s; rfl
@[simp] theorem State.modPort_mem (s : State) (p : Fin 8) (f : Port → Port) : (s.modPort p f).mem = s.mem := by cases s; rfl
@[simp] theorem State.modPort_marks (s : State) (p : Fin 8) (f : Port → Port) : (s.modPort p f).marks = s.marks := by cases s; rfl
@[simp] theorem State.modPort_detect (s : State) (p : Fin 8) (f : Port → Port) : (s.modPort p f).detect = s.detect := by cases s; rfl
@[simp] theorem State.modPort_kv (s : State) (p : Fin 8) (f : Port → Port) : (s.modPort p f).kv = s.kv := by cases s; rfl
@[simp] theorem State.modPort_streams (s : State) (p : Fin 8) (f : Port → Port) : (s.modPort p f).streams = s.streams := by cases s; rfl
@[simp] theorem State.modPort_heads (s : State) (p : Fin 8) (f : Port → Port) : (s.modPort p f).heads = s.heads := by cases s; rfl
@[simp] theorem State.modPort_intake (s : State) (p : Fin 8) (f : Port → Port) : (s.modPort p f).intake = s.intake := by cases s; rfl
@[simp] theorem State.modPort_motion (s : State) (p : Fin 8) (f : Port → Port) : (s.modPort p f).motion = s.motion := by cases s; rfl
@[simp] theorem State.modPort_crust (s : State) (p : Fin 8) (f : Port → Port) : (s.modPort p f).crust = s.crust := by cases s; rfl
@[simp] theorem State.modPort_can (s : State) (p : Fin 8) (f : Port → Port) : (s.modPort p f).can = s.can := by cases s; rfl
@[simp] theorem State.modPort_tt (s : State) (p : Fin 8) (f : Port → Port) : (s.modPort p f).tt = s.tt := by cases s; rfl
@[simp] theorem State.modPort_net (s : State) (p : Fin 8) (f : Port → Port) : (s.modPort p f).net = { s.net with ports := upd s.net.ports p f } := by cases s; rfl
@[simp] theorem State.modPort_power (s : State) (p : Fin 8) (f : Port → Port) : (s.modPort p f).power = s.power := by cases s; rfl
@[simp] theorem State.modPort_counters (s : State) (p : Fin 8) (f : Port → Port) : (s.modPort p f).counters = s.counters := by cases s; rfl
@[simp] theorem State.modPort_service (s : State) (p : Fin 8) (f : Port → Port) : (s.modPort p f).service = s.service := by cases s; rfl
@[simp] theorem State.modPort_outbox (s : State) (p : Fin 8) (f : Port → Port) : (s.modPort p f).outbox = s.outbox := by cases s; rfl
@[simp] theorem State.modPort_obj (s : State) (p : Fin 8) (f : Port → Port) (key : Key) : (s.modPort p f).obj key = s.obj key := by simp [State.obj]
@[simp] theorem State.modPort_nat (s : State) (p : Fin 8) (f : Port → Port) (key : Key) : (s.modPort p f).nat key = s.nat key := by simp [State.nat, State.int]
@[simp] theorem State.modPort_flag (s : State) (p : Fin 8) (f : Port → Port) (key : Key) : (s.modPort p f).flag key = s.flag key := by simp [State.flag]
@[simp] theorem State.modPort_now (s : State) (p : Fin 8) (f : Port → Port) : (s.modPort p f).now = s.now := by simp [State.now]

/-! ## State.modQp -/

@[simp] theorem State.modQp_pending (s : State) (q : Fin 256) (f : Qp → Qp) : (s.modQp q f).pending = s.pending := by cases s; rfl
@[simp] theorem State.modQp_time (s : State) (q : Fin 256) (f : Qp → Qp) : (s.modQp q f).time = s.time := by cases s; rfl
@[simp] theorem State.modQp_log (s : State) (q : Fin 256) (f : Qp → Qp) : (s.modQp q f).log = s.log := by cases s; rfl
@[simp] theorem State.modQp_node (s : State) (q : Fin 256) (f : Qp → Qp) : (s.modQp q f).node = s.node := by cases s; rfl
@[simp] theorem State.modQp_dict (s : State) (q : Fin 256) (f : Qp → Qp) : (s.modQp q f).dict = s.dict := by cases s; rfl
@[simp] theorem State.modQp_commit (s : State) (q : Fin 256) (f : Qp → Qp) : (s.modQp q f).commit = s.commit := by cases s; rfl
@[simp] theorem State.modQp_server (s : State) (q : Fin 256) (f : Qp → Qp) : (s.modQp q f).server = s.server := by cases s; rfl
@[simp] theorem State.modQp_basaris (s : State) (q : Fin 256) (f : Qp → Qp) : (s.modQp q f).basaris = s.basaris := by cases s; rfl
@[simp] theorem State.modQp_mbx (s : State) (q : Fin 256) (f : Qp → Qp) : (s.modQp q f).mbx = s.mbx := by cases s; rfl
@[simp] theorem State.modQp_ports (s : State) (q : Fin 256) (f : Qp → Qp) : (s.modQp q f).ports = s.ports := by cases s; rfl
@[simp] theorem State.modQp_launch (s : State) (q : Fin 256) (f : Qp → Qp) : (s.modQp q f).launch = s.launch := by cases s; rfl
@[simp] theorem State.modQp_blocks (s : State) (q : Fin 256) (f : Qp → Qp) : (s.modQp q f).blocks = s.blocks := by cases s; rfl
@[simp] theorem State.modQp_regions (s : State) (q : Fin 256) (f : Qp → Qp) : (s.modQp q f).regions = s.regions := by cases s; rfl
@[simp] theorem State.modQp_mem (s : State) (q : Fin 256) (f : Qp → Qp) : (s.modQp q f).mem = s.mem := by cases s; rfl
@[simp] theorem State.modQp_marks (s : State) (q : Fin 256) (f : Qp → Qp) : (s.modQp q f).marks = s.marks := by cases s; rfl
@[simp] theorem State.modQp_detect (s : State) (q : Fin 256) (f : Qp → Qp) : (s.modQp q f).detect = s.detect := by cases s; rfl
@[simp] theorem State.modQp_kv (s : State) (q : Fin 256) (f : Qp → Qp) : (s.modQp q f).kv = s.kv := by cases s; rfl
@[simp] theorem State.modQp_streams (s : State) (q : Fin 256) (f : Qp → Qp) : (s.modQp q f).streams = s.streams := by cases s; rfl
@[simp] theorem State.modQp_heads (s : State) (q : Fin 256) (f : Qp → Qp) : (s.modQp q f).heads = s.heads := by cases s; rfl
@[simp] theorem State.modQp_intake (s : State) (q : Fin 256) (f : Qp → Qp) : (s.modQp q f).intake = s.intake := by cases s; rfl
@[simp] theorem State.modQp_motion (s : State) (q : Fin 256) (f : Qp → Qp) : (s.modQp q f).motion = s.motion := by cases s; rfl
@[simp] theorem State.modQp_crust (s : State) (q : Fin 256) (f : Qp → Qp) : (s.modQp q f).crust = s.crust := by cases s; rfl
@[simp] theorem State.modQp_can (s : State) (q : Fin 256) (f : Qp → Qp) : (s.modQp q f).can = s.can := by cases s; rfl
@[simp] theorem State.modQp_tt (s : State) (q : Fin 256) (f : Qp → Qp) : (s.modQp q f).tt = s.tt := by cases s; rfl
@[simp] theorem State.modQp_net (s : State) (q : Fin 256) (f : Qp → Qp) : (s.modQp q f).net = { s.net with qps := upd s.net.qps q f } := by cases s; rfl
@[simp] theorem State.modQp_power (s : State) (q : Fin 256) (f : Qp → Qp) : (s.modQp q f).power = s.power := by cases s; rfl
@[simp] theorem State.modQp_counters (s : State) (q : Fin 256) (f : Qp → Qp) : (s.modQp q f).counters = s.counters := by cases s; rfl
@[simp] theorem State.modQp_service (s : State) (q : Fin 256) (f : Qp → Qp) : (s.modQp q f).service = s.service := by cases s; rfl
@[simp] theorem State.modQp_outbox (s : State) (q : Fin 256) (f : Qp → Qp) : (s.modQp q f).outbox = s.outbox := by cases s; rfl
@[simp] theorem State.modQp_obj (s : State) (q : Fin 256) (f : Qp → Qp) (key : Key) : (s.modQp q f).obj key = s.obj key := by simp [State.obj]
@[simp] theorem State.modQp_nat (s : State) (q : Fin 256) (f : Qp → Qp) (key : Key) : (s.modQp q f).nat key = s.nat key := by simp [State.nat, State.int]
@[simp] theorem State.modQp_flag (s : State) (q : Fin 256) (f : Qp → Qp) (key : Key) : (s.modQp q f).flag key = s.flag key := by simp [State.flag]
@[simp] theorem State.modQp_now (s : State) (q : Fin 256) (f : Qp → Qp) : (s.modQp q f).now = s.now := by simp [State.now]

/-! ## State.modQueue -/

@[simp] theorem State.modQueue_pending (s : State) (q : Fin 16) (f : HostQueue → HostQueue) : (s.modQueue q f).pending = s.pending := by cases s; rfl
@[simp] theorem State.modQueue_time (s : State) (q : Fin 16) (f : HostQueue → HostQueue) : (s.modQueue q f).time = s.time := by cases s; rfl
@[simp] theorem State.modQueue_log (s : State) (q : Fin 16) (f : HostQueue → HostQueue) : (s.modQueue q f).log = s.log := by cases s; rfl
@[simp] theorem State.modQueue_node (s : State) (q : Fin 16) (f : HostQueue → HostQueue) : (s.modQueue q f).node = s.node := by cases s; rfl
@[simp] theorem State.modQueue_dict (s : State) (q : Fin 16) (f : HostQueue → HostQueue) : (s.modQueue q f).dict = s.dict := by cases s; rfl
@[simp] theorem State.modQueue_commit (s : State) (q : Fin 16) (f : HostQueue → HostQueue) : (s.modQueue q f).commit = s.commit := by cases s; rfl
@[simp] theorem State.modQueue_server (s : State) (q : Fin 16) (f : HostQueue → HostQueue) : (s.modQueue q f).server = s.server := by cases s; rfl
@[simp] theorem State.modQueue_basaris (s : State) (q : Fin 16) (f : HostQueue → HostQueue) : (s.modQueue q f).basaris = s.basaris := by cases s; rfl
@[simp] theorem State.modQueue_mbx (s : State) (q : Fin 16) (f : HostQueue → HostQueue) : (s.modQueue q f).mbx = s.mbx := by cases s; rfl
@[simp] theorem State.modQueue_ports (s : State) (q : Fin 16) (f : HostQueue → HostQueue) : (s.modQueue q f).ports = s.ports := by cases s; rfl
@[simp] theorem State.modQueue_launch (s : State) (q : Fin 16) (f : HostQueue → HostQueue) : (s.modQueue q f).launch = s.launch := by cases s; rfl
@[simp] theorem State.modQueue_blocks (s : State) (q : Fin 16) (f : HostQueue → HostQueue) : (s.modQueue q f).blocks = s.blocks := by cases s; rfl
@[simp] theorem State.modQueue_regions (s : State) (q : Fin 16) (f : HostQueue → HostQueue) : (s.modQueue q f).regions = s.regions := by cases s; rfl
@[simp] theorem State.modQueue_mem (s : State) (q : Fin 16) (f : HostQueue → HostQueue) : (s.modQueue q f).mem = s.mem := by cases s; rfl
@[simp] theorem State.modQueue_marks (s : State) (q : Fin 16) (f : HostQueue → HostQueue) : (s.modQueue q f).marks = s.marks := by cases s; rfl
@[simp] theorem State.modQueue_detect (s : State) (q : Fin 16) (f : HostQueue → HostQueue) : (s.modQueue q f).detect = s.detect := by cases s; rfl
@[simp] theorem State.modQueue_kv (s : State) (q : Fin 16) (f : HostQueue → HostQueue) : (s.modQueue q f).kv = s.kv := by cases s; rfl
@[simp] theorem State.modQueue_streams (s : State) (q : Fin 16) (f : HostQueue → HostQueue) : (s.modQueue q f).streams = s.streams := by cases s; rfl
@[simp] theorem State.modQueue_heads (s : State) (q : Fin 16) (f : HostQueue → HostQueue) : (s.modQueue q f).heads = s.heads := by cases s; rfl
@[simp] theorem State.modQueue_intake (s : State) (q : Fin 16) (f : HostQueue → HostQueue) : (s.modQueue q f).intake = s.intake := by cases s; rfl
@[simp] theorem State.modQueue_motion (s : State) (q : Fin 16) (f : HostQueue → HostQueue) : (s.modQueue q f).motion = s.motion := by cases s; rfl
@[simp] theorem State.modQueue_crust (s : State) (q : Fin 16) (f : HostQueue → HostQueue) : (s.modQueue q f).crust = s.crust := by cases s; rfl
@[simp] theorem State.modQueue_can (s : State) (q : Fin 16) (f : HostQueue → HostQueue) : (s.modQueue q f).can = s.can := by cases s; rfl
@[simp] theorem State.modQueue_tt (s : State) (q : Fin 16) (f : HostQueue → HostQueue) : (s.modQueue q f).tt = s.tt := by cases s; rfl
@[simp] theorem State.modQueue_net (s : State) (q : Fin 16) (f : HostQueue → HostQueue) : (s.modQueue q f).net = { s.net with queues := upd s.net.queues q f } := by cases s; rfl
@[simp] theorem State.modQueue_power (s : State) (q : Fin 16) (f : HostQueue → HostQueue) : (s.modQueue q f).power = s.power := by cases s; rfl
@[simp] theorem State.modQueue_counters (s : State) (q : Fin 16) (f : HostQueue → HostQueue) : (s.modQueue q f).counters = s.counters := by cases s; rfl
@[simp] theorem State.modQueue_service (s : State) (q : Fin 16) (f : HostQueue → HostQueue) : (s.modQueue q f).service = s.service := by cases s; rfl
@[simp] theorem State.modQueue_outbox (s : State) (q : Fin 16) (f : HostQueue → HostQueue) : (s.modQueue q f).outbox = s.outbox := by cases s; rfl
@[simp] theorem State.modQueue_obj (s : State) (q : Fin 16) (f : HostQueue → HostQueue) (key : Key) : (s.modQueue q f).obj key = s.obj key := by simp [State.obj]
@[simp] theorem State.modQueue_nat (s : State) (q : Fin 16) (f : HostQueue → HostQueue) (key : Key) : (s.modQueue q f).nat key = s.nat key := by simp [State.nat, State.int]
@[simp] theorem State.modQueue_flag (s : State) (q : Fin 16) (f : HostQueue → HostQueue) (key : Key) : (s.modQueue q f).flag key = s.flag key := by simp [State.flag]
@[simp] theorem State.modQueue_now (s : State) (q : Fin 16) (f : HostQueue → HostQueue) : (s.modQueue q f).now = s.now := by simp [State.now]

/-! ## State.modPower -/

@[simp] theorem State.modPower_pending (s : State) (f : Power → Power) : (s.modPower f).pending = s.pending := by cases s; rfl
@[simp] theorem State.modPower_time (s : State) (f : Power → Power) : (s.modPower f).time = s.time := by cases s; rfl
@[simp] theorem State.modPower_log (s : State) (f : Power → Power) : (s.modPower f).log = s.log := by cases s; rfl
@[simp] theorem State.modPower_node (s : State) (f : Power → Power) : (s.modPower f).node = s.node := by cases s; rfl
@[simp] theorem State.modPower_dict (s : State) (f : Power → Power) : (s.modPower f).dict = s.dict := by cases s; rfl
@[simp] theorem State.modPower_commit (s : State) (f : Power → Power) : (s.modPower f).commit = s.commit := by cases s; rfl
@[simp] theorem State.modPower_server (s : State) (f : Power → Power) : (s.modPower f).server = s.server := by cases s; rfl
@[simp] theorem State.modPower_basaris (s : State) (f : Power → Power) : (s.modPower f).basaris = s.basaris := by cases s; rfl
@[simp] theorem State.modPower_mbx (s : State) (f : Power → Power) : (s.modPower f).mbx = s.mbx := by cases s; rfl
@[simp] theorem State.modPower_ports (s : State) (f : Power → Power) : (s.modPower f).ports = s.ports := by cases s; rfl
@[simp] theorem State.modPower_launch (s : State) (f : Power → Power) : (s.modPower f).launch = s.launch := by cases s; rfl
@[simp] theorem State.modPower_blocks (s : State) (f : Power → Power) : (s.modPower f).blocks = s.blocks := by cases s; rfl
@[simp] theorem State.modPower_regions (s : State) (f : Power → Power) : (s.modPower f).regions = s.regions := by cases s; rfl
@[simp] theorem State.modPower_mem (s : State) (f : Power → Power) : (s.modPower f).mem = s.mem := by cases s; rfl
@[simp] theorem State.modPower_marks (s : State) (f : Power → Power) : (s.modPower f).marks = s.marks := by cases s; rfl
@[simp] theorem State.modPower_detect (s : State) (f : Power → Power) : (s.modPower f).detect = s.detect := by cases s; rfl
@[simp] theorem State.modPower_kv (s : State) (f : Power → Power) : (s.modPower f).kv = s.kv := by cases s; rfl
@[simp] theorem State.modPower_streams (s : State) (f : Power → Power) : (s.modPower f).streams = s.streams := by cases s; rfl
@[simp] theorem State.modPower_heads (s : State) (f : Power → Power) : (s.modPower f).heads = s.heads := by cases s; rfl
@[simp] theorem State.modPower_intake (s : State) (f : Power → Power) : (s.modPower f).intake = s.intake := by cases s; rfl
@[simp] theorem State.modPower_motion (s : State) (f : Power → Power) : (s.modPower f).motion = s.motion := by cases s; rfl
@[simp] theorem State.modPower_crust (s : State) (f : Power → Power) : (s.modPower f).crust = s.crust := by cases s; rfl
@[simp] theorem State.modPower_can (s : State) (f : Power → Power) : (s.modPower f).can = s.can := by cases s; rfl
@[simp] theorem State.modPower_tt (s : State) (f : Power → Power) : (s.modPower f).tt = s.tt := by cases s; rfl
@[simp] theorem State.modPower_net (s : State) (f : Power → Power) : (s.modPower f).net = s.net := by cases s; rfl
@[simp] theorem State.modPower_power (s : State) (f : Power → Power) : (s.modPower f).power = f s.power := by cases s; rfl
@[simp] theorem State.modPower_counters (s : State) (f : Power → Power) : (s.modPower f).counters = s.counters := by cases s; rfl
@[simp] theorem State.modPower_service (s : State) (f : Power → Power) : (s.modPower f).service = s.service := by cases s; rfl
@[simp] theorem State.modPower_outbox (s : State) (f : Power → Power) : (s.modPower f).outbox = s.outbox := by cases s; rfl
@[simp] theorem State.modPower_obj (s : State) (f : Power → Power) (key : Key) : (s.modPower f).obj key = s.obj key := by simp [State.obj]
@[simp] theorem State.modPower_nat (s : State) (f : Power → Power) (key : Key) : (s.modPower f).nat key = s.nat key := by simp [State.nat, State.int]
@[simp] theorem State.modPower_flag (s : State) (f : Power → Power) (key : Key) : (s.modPower f).flag key = s.flag key := by simp [State.flag]
@[simp] theorem State.modPower_now (s : State) (f : Power → Power) : (s.modPower f).now = s.now := by simp [State.now]

/-! ## State.modPd -/

@[simp] theorem State.modPd_pending (s : State) (d : Fin 72) (f : PDomain → PDomain) : (s.modPd d f).pending = s.pending := by cases s; rfl
@[simp] theorem State.modPd_time (s : State) (d : Fin 72) (f : PDomain → PDomain) : (s.modPd d f).time = s.time := by cases s; rfl
@[simp] theorem State.modPd_log (s : State) (d : Fin 72) (f : PDomain → PDomain) : (s.modPd d f).log = s.log := by cases s; rfl
@[simp] theorem State.modPd_node (s : State) (d : Fin 72) (f : PDomain → PDomain) : (s.modPd d f).node = s.node := by cases s; rfl
@[simp] theorem State.modPd_dict (s : State) (d : Fin 72) (f : PDomain → PDomain) : (s.modPd d f).dict = s.dict := by cases s; rfl
@[simp] theorem State.modPd_commit (s : State) (d : Fin 72) (f : PDomain → PDomain) : (s.modPd d f).commit = s.commit := by cases s; rfl
@[simp] theorem State.modPd_server (s : State) (d : Fin 72) (f : PDomain → PDomain) : (s.modPd d f).server = s.server := by cases s; rfl
@[simp] theorem State.modPd_basaris (s : State) (d : Fin 72) (f : PDomain → PDomain) : (s.modPd d f).basaris = s.basaris := by cases s; rfl
@[simp] theorem State.modPd_mbx (s : State) (d : Fin 72) (f : PDomain → PDomain) : (s.modPd d f).mbx = s.mbx := by cases s; rfl
@[simp] theorem State.modPd_ports (s : State) (d : Fin 72) (f : PDomain → PDomain) : (s.modPd d f).ports = s.ports := by cases s; rfl
@[simp] theorem State.modPd_launch (s : State) (d : Fin 72) (f : PDomain → PDomain) : (s.modPd d f).launch = s.launch := by cases s; rfl
@[simp] theorem State.modPd_blocks (s : State) (d : Fin 72) (f : PDomain → PDomain) : (s.modPd d f).blocks = s.blocks := by cases s; rfl
@[simp] theorem State.modPd_regions (s : State) (d : Fin 72) (f : PDomain → PDomain) : (s.modPd d f).regions = s.regions := by cases s; rfl
@[simp] theorem State.modPd_mem (s : State) (d : Fin 72) (f : PDomain → PDomain) : (s.modPd d f).mem = s.mem := by cases s; rfl
@[simp] theorem State.modPd_marks (s : State) (d : Fin 72) (f : PDomain → PDomain) : (s.modPd d f).marks = s.marks := by cases s; rfl
@[simp] theorem State.modPd_detect (s : State) (d : Fin 72) (f : PDomain → PDomain) : (s.modPd d f).detect = s.detect := by cases s; rfl
@[simp] theorem State.modPd_kv (s : State) (d : Fin 72) (f : PDomain → PDomain) : (s.modPd d f).kv = s.kv := by cases s; rfl
@[simp] theorem State.modPd_streams (s : State) (d : Fin 72) (f : PDomain → PDomain) : (s.modPd d f).streams = s.streams := by cases s; rfl
@[simp] theorem State.modPd_heads (s : State) (d : Fin 72) (f : PDomain → PDomain) : (s.modPd d f).heads = s.heads := by cases s; rfl
@[simp] theorem State.modPd_intake (s : State) (d : Fin 72) (f : PDomain → PDomain) : (s.modPd d f).intake = s.intake := by cases s; rfl
@[simp] theorem State.modPd_motion (s : State) (d : Fin 72) (f : PDomain → PDomain) : (s.modPd d f).motion = s.motion := by cases s; rfl
@[simp] theorem State.modPd_crust (s : State) (d : Fin 72) (f : PDomain → PDomain) : (s.modPd d f).crust = s.crust := by cases s; rfl
@[simp] theorem State.modPd_can (s : State) (d : Fin 72) (f : PDomain → PDomain) : (s.modPd d f).can = s.can := by cases s; rfl
@[simp] theorem State.modPd_tt (s : State) (d : Fin 72) (f : PDomain → PDomain) : (s.modPd d f).tt = s.tt := by cases s; rfl
@[simp] theorem State.modPd_net (s : State) (d : Fin 72) (f : PDomain → PDomain) : (s.modPd d f).net = s.net := by cases s; rfl
@[simp] theorem State.modPd_power (s : State) (d : Fin 72) (f : PDomain → PDomain) : (s.modPd d f).power = { s.power with domains := upd s.power.domains d f } := by cases s; rfl
@[simp] theorem State.modPd_counters (s : State) (d : Fin 72) (f : PDomain → PDomain) : (s.modPd d f).counters = s.counters := by cases s; rfl
@[simp] theorem State.modPd_service (s : State) (d : Fin 72) (f : PDomain → PDomain) : (s.modPd d f).service = s.service := by cases s; rfl
@[simp] theorem State.modPd_outbox (s : State) (d : Fin 72) (f : PDomain → PDomain) : (s.modPd d f).outbox = s.outbox := by cases s; rfl
@[simp] theorem State.modPd_obj (s : State) (d : Fin 72) (f : PDomain → PDomain) (key : Key) : (s.modPd d f).obj key = s.obj key := by simp [State.obj]
@[simp] theorem State.modPd_nat (s : State) (d : Fin 72) (f : PDomain → PDomain) (key : Key) : (s.modPd d f).nat key = s.nat key := by simp [State.nat, State.int]
@[simp] theorem State.modPd_flag (s : State) (d : Fin 72) (f : PDomain → PDomain) (key : Key) : (s.modPd d f).flag key = s.flag key := by simp [State.flag]
@[simp] theorem State.modPd_now (s : State) (d : Fin 72) (f : PDomain → PDomain) : (s.modPd d f).now = s.now := by simp [State.now]

/-! ## State.modService -/

@[simp] theorem State.modService_pending (s : State) (f : Service → Service) : (s.modService f).pending = s.pending := by cases s; rfl
@[simp] theorem State.modService_time (s : State) (f : Service → Service) : (s.modService f).time = s.time := by cases s; rfl
@[simp] theorem State.modService_log (s : State) (f : Service → Service) : (s.modService f).log = s.log := by cases s; rfl
@[simp] theorem State.modService_node (s : State) (f : Service → Service) : (s.modService f).node = s.node := by cases s; rfl
@[simp] theorem State.modService_dict (s : State) (f : Service → Service) : (s.modService f).dict = s.dict := by cases s; rfl
@[simp] theorem State.modService_commit (s : State) (f : Service → Service) : (s.modService f).commit = s.commit := by cases s; rfl
@[simp] theorem State.modService_server (s : State) (f : Service → Service) : (s.modService f).server = s.server := by cases s; rfl
@[simp] theorem State.modService_basaris (s : State) (f : Service → Service) : (s.modService f).basaris = s.basaris := by cases s; rfl
@[simp] theorem State.modService_mbx (s : State) (f : Service → Service) : (s.modService f).mbx = s.mbx := by cases s; rfl
@[simp] theorem State.modService_ports (s : State) (f : Service → Service) : (s.modService f).ports = s.ports := by cases s; rfl
@[simp] theorem State.modService_launch (s : State) (f : Service → Service) : (s.modService f).launch = s.launch := by cases s; rfl
@[simp] theorem State.modService_blocks (s : State) (f : Service → Service) : (s.modService f).blocks = s.blocks := by cases s; rfl
@[simp] theorem State.modService_regions (s : State) (f : Service → Service) : (s.modService f).regions = s.regions := by cases s; rfl
@[simp] theorem State.modService_mem (s : State) (f : Service → Service) : (s.modService f).mem = s.mem := by cases s; rfl
@[simp] theorem State.modService_marks (s : State) (f : Service → Service) : (s.modService f).marks = s.marks := by cases s; rfl
@[simp] theorem State.modService_detect (s : State) (f : Service → Service) : (s.modService f).detect = s.detect := by cases s; rfl
@[simp] theorem State.modService_kv (s : State) (f : Service → Service) : (s.modService f).kv = s.kv := by cases s; rfl
@[simp] theorem State.modService_streams (s : State) (f : Service → Service) : (s.modService f).streams = s.streams := by cases s; rfl
@[simp] theorem State.modService_heads (s : State) (f : Service → Service) : (s.modService f).heads = s.heads := by cases s; rfl
@[simp] theorem State.modService_intake (s : State) (f : Service → Service) : (s.modService f).intake = s.intake := by cases s; rfl
@[simp] theorem State.modService_motion (s : State) (f : Service → Service) : (s.modService f).motion = s.motion := by cases s; rfl
@[simp] theorem State.modService_crust (s : State) (f : Service → Service) : (s.modService f).crust = s.crust := by cases s; rfl
@[simp] theorem State.modService_can (s : State) (f : Service → Service) : (s.modService f).can = s.can := by cases s; rfl
@[simp] theorem State.modService_tt (s : State) (f : Service → Service) : (s.modService f).tt = s.tt := by cases s; rfl
@[simp] theorem State.modService_net (s : State) (f : Service → Service) : (s.modService f).net = s.net := by cases s; rfl
@[simp] theorem State.modService_power (s : State) (f : Service → Service) : (s.modService f).power = s.power := by cases s; rfl
@[simp] theorem State.modService_counters (s : State) (f : Service → Service) : (s.modService f).counters = s.counters := by cases s; rfl
@[simp] theorem State.modService_service (s : State) (f : Service → Service) : (s.modService f).service = f s.service := by cases s; rfl
@[simp] theorem State.modService_outbox (s : State) (f : Service → Service) : (s.modService f).outbox = s.outbox := by cases s; rfl
@[simp] theorem State.modService_obj (s : State) (f : Service → Service) (key : Key) : (s.modService f).obj key = s.obj key := by simp [State.obj]
@[simp] theorem State.modService_nat (s : State) (f : Service → Service) (key : Key) : (s.modService f).nat key = s.nat key := by simp [State.nat, State.int]
@[simp] theorem State.modService_flag (s : State) (f : Service → Service) (key : Key) : (s.modService f).flag key = s.flag key := by simp [State.flag]
@[simp] theorem State.modService_now (s : State) (f : Service → Service) : (s.modService f).now = s.now := by simp [State.now]

/-! ## State.modLaunch -/

@[simp] theorem State.modLaunch_pending (s : State) (f : Launch → Launch) : (s.modLaunch f).pending = s.pending := by cases s; rfl
@[simp] theorem State.modLaunch_time (s : State) (f : Launch → Launch) : (s.modLaunch f).time = s.time := by cases s; rfl
@[simp] theorem State.modLaunch_log (s : State) (f : Launch → Launch) : (s.modLaunch f).log = s.log := by cases s; rfl
@[simp] theorem State.modLaunch_node (s : State) (f : Launch → Launch) : (s.modLaunch f).node = s.node := by cases s; rfl
@[simp] theorem State.modLaunch_dict (s : State) (f : Launch → Launch) : (s.modLaunch f).dict = s.dict := by cases s; rfl
@[simp] theorem State.modLaunch_commit (s : State) (f : Launch → Launch) : (s.modLaunch f).commit = s.commit := by cases s; rfl
@[simp] theorem State.modLaunch_server (s : State) (f : Launch → Launch) : (s.modLaunch f).server = s.server := by cases s; rfl
@[simp] theorem State.modLaunch_basaris (s : State) (f : Launch → Launch) : (s.modLaunch f).basaris = s.basaris := by cases s; rfl
@[simp] theorem State.modLaunch_mbx (s : State) (f : Launch → Launch) : (s.modLaunch f).mbx = s.mbx := by cases s; rfl
@[simp] theorem State.modLaunch_ports (s : State) (f : Launch → Launch) : (s.modLaunch f).ports = s.ports := by cases s; rfl
@[simp] theorem State.modLaunch_launch (s : State) (f : Launch → Launch) : (s.modLaunch f).launch = f s.launch := by cases s; rfl
@[simp] theorem State.modLaunch_blocks (s : State) (f : Launch → Launch) : (s.modLaunch f).blocks = s.blocks := by cases s; rfl
@[simp] theorem State.modLaunch_regions (s : State) (f : Launch → Launch) : (s.modLaunch f).regions = s.regions := by cases s; rfl
@[simp] theorem State.modLaunch_mem (s : State) (f : Launch → Launch) : (s.modLaunch f).mem = s.mem := by cases s; rfl
@[simp] theorem State.modLaunch_marks (s : State) (f : Launch → Launch) : (s.modLaunch f).marks = s.marks := by cases s; rfl
@[simp] theorem State.modLaunch_detect (s : State) (f : Launch → Launch) : (s.modLaunch f).detect = s.detect := by cases s; rfl
@[simp] theorem State.modLaunch_kv (s : State) (f : Launch → Launch) : (s.modLaunch f).kv = s.kv := by cases s; rfl
@[simp] theorem State.modLaunch_streams (s : State) (f : Launch → Launch) : (s.modLaunch f).streams = s.streams := by cases s; rfl
@[simp] theorem State.modLaunch_heads (s : State) (f : Launch → Launch) : (s.modLaunch f).heads = s.heads := by cases s; rfl
@[simp] theorem State.modLaunch_intake (s : State) (f : Launch → Launch) : (s.modLaunch f).intake = s.intake := by cases s; rfl
@[simp] theorem State.modLaunch_motion (s : State) (f : Launch → Launch) : (s.modLaunch f).motion = s.motion := by cases s; rfl
@[simp] theorem State.modLaunch_crust (s : State) (f : Launch → Launch) : (s.modLaunch f).crust = s.crust := by cases s; rfl
@[simp] theorem State.modLaunch_can (s : State) (f : Launch → Launch) : (s.modLaunch f).can = s.can := by cases s; rfl
@[simp] theorem State.modLaunch_tt (s : State) (f : Launch → Launch) : (s.modLaunch f).tt = s.tt := by cases s; rfl
@[simp] theorem State.modLaunch_net (s : State) (f : Launch → Launch) : (s.modLaunch f).net = s.net := by cases s; rfl
@[simp] theorem State.modLaunch_power (s : State) (f : Launch → Launch) : (s.modLaunch f).power = s.power := by cases s; rfl
@[simp] theorem State.modLaunch_counters (s : State) (f : Launch → Launch) : (s.modLaunch f).counters = s.counters := by cases s; rfl
@[simp] theorem State.modLaunch_service (s : State) (f : Launch → Launch) : (s.modLaunch f).service = s.service := by cases s; rfl
@[simp] theorem State.modLaunch_outbox (s : State) (f : Launch → Launch) : (s.modLaunch f).outbox = s.outbox := by cases s; rfl
@[simp] theorem State.modLaunch_obj (s : State) (f : Launch → Launch) (key : Key) : (s.modLaunch f).obj key = s.obj key := by simp [State.obj]
@[simp] theorem State.modLaunch_nat (s : State) (f : Launch → Launch) (key : Key) : (s.modLaunch f).nat key = s.nat key := by simp [State.nat, State.int]
@[simp] theorem State.modLaunch_flag (s : State) (f : Launch → Launch) (key : Key) : (s.modLaunch f).flag key = s.flag key := by simp [State.flag]
@[simp] theorem State.modLaunch_now (s : State) (f : Launch → Launch) : (s.modLaunch f).now = s.now := by simp [State.now]

/-! ## State.modCommit -/

@[simp] theorem State.modCommit_pending (s : State) (f : CommitCtl → CommitCtl) : (s.modCommit f).pending = s.pending := by cases s; rfl
@[simp] theorem State.modCommit_time (s : State) (f : CommitCtl → CommitCtl) : (s.modCommit f).time = s.time := by cases s; rfl
@[simp] theorem State.modCommit_log (s : State) (f : CommitCtl → CommitCtl) : (s.modCommit f).log = s.log := by cases s; rfl
@[simp] theorem State.modCommit_node (s : State) (f : CommitCtl → CommitCtl) : (s.modCommit f).node = s.node := by cases s; rfl
@[simp] theorem State.modCommit_dict (s : State) (f : CommitCtl → CommitCtl) : (s.modCommit f).dict = s.dict := by cases s; rfl
@[simp] theorem State.modCommit_commit (s : State) (f : CommitCtl → CommitCtl) : (s.modCommit f).commit = f s.commit := by cases s; rfl
@[simp] theorem State.modCommit_server (s : State) (f : CommitCtl → CommitCtl) : (s.modCommit f).server = s.server := by cases s; rfl
@[simp] theorem State.modCommit_basaris (s : State) (f : CommitCtl → CommitCtl) : (s.modCommit f).basaris = s.basaris := by cases s; rfl
@[simp] theorem State.modCommit_mbx (s : State) (f : CommitCtl → CommitCtl) : (s.modCommit f).mbx = s.mbx := by cases s; rfl
@[simp] theorem State.modCommit_ports (s : State) (f : CommitCtl → CommitCtl) : (s.modCommit f).ports = s.ports := by cases s; rfl
@[simp] theorem State.modCommit_launch (s : State) (f : CommitCtl → CommitCtl) : (s.modCommit f).launch = s.launch := by cases s; rfl
@[simp] theorem State.modCommit_blocks (s : State) (f : CommitCtl → CommitCtl) : (s.modCommit f).blocks = s.blocks := by cases s; rfl
@[simp] theorem State.modCommit_regions (s : State) (f : CommitCtl → CommitCtl) : (s.modCommit f).regions = s.regions := by cases s; rfl
@[simp] theorem State.modCommit_mem (s : State) (f : CommitCtl → CommitCtl) : (s.modCommit f).mem = s.mem := by cases s; rfl
@[simp] theorem State.modCommit_marks (s : State) (f : CommitCtl → CommitCtl) : (s.modCommit f).marks = s.marks := by cases s; rfl
@[simp] theorem State.modCommit_detect (s : State) (f : CommitCtl → CommitCtl) : (s.modCommit f).detect = s.detect := by cases s; rfl
@[simp] theorem State.modCommit_kv (s : State) (f : CommitCtl → CommitCtl) : (s.modCommit f).kv = s.kv := by cases s; rfl
@[simp] theorem State.modCommit_streams (s : State) (f : CommitCtl → CommitCtl) : (s.modCommit f).streams = s.streams := by cases s; rfl
@[simp] theorem State.modCommit_heads (s : State) (f : CommitCtl → CommitCtl) : (s.modCommit f).heads = s.heads := by cases s; rfl
@[simp] theorem State.modCommit_intake (s : State) (f : CommitCtl → CommitCtl) : (s.modCommit f).intake = s.intake := by cases s; rfl
@[simp] theorem State.modCommit_motion (s : State) (f : CommitCtl → CommitCtl) : (s.modCommit f).motion = s.motion := by cases s; rfl
@[simp] theorem State.modCommit_crust (s : State) (f : CommitCtl → CommitCtl) : (s.modCommit f).crust = s.crust := by cases s; rfl
@[simp] theorem State.modCommit_can (s : State) (f : CommitCtl → CommitCtl) : (s.modCommit f).can = s.can := by cases s; rfl
@[simp] theorem State.modCommit_tt (s : State) (f : CommitCtl → CommitCtl) : (s.modCommit f).tt = s.tt := by cases s; rfl
@[simp] theorem State.modCommit_net (s : State) (f : CommitCtl → CommitCtl) : (s.modCommit f).net = s.net := by cases s; rfl
@[simp] theorem State.modCommit_power (s : State) (f : CommitCtl → CommitCtl) : (s.modCommit f).power = s.power := by cases s; rfl
@[simp] theorem State.modCommit_counters (s : State) (f : CommitCtl → CommitCtl) : (s.modCommit f).counters = s.counters := by cases s; rfl
@[simp] theorem State.modCommit_service (s : State) (f : CommitCtl → CommitCtl) : (s.modCommit f).service = s.service := by cases s; rfl
@[simp] theorem State.modCommit_outbox (s : State) (f : CommitCtl → CommitCtl) : (s.modCommit f).outbox = s.outbox := by cases s; rfl
@[simp] theorem State.modCommit_obj (s : State) (f : CommitCtl → CommitCtl) (key : Key) : (s.modCommit f).obj key = s.obj key := by simp [State.obj]
@[simp] theorem State.modCommit_nat (s : State) (f : CommitCtl → CommitCtl) (key : Key) : (s.modCommit f).nat key = s.nat key := by simp [State.nat, State.int]
@[simp] theorem State.modCommit_flag (s : State) (f : CommitCtl → CommitCtl) (key : Key) : (s.modCommit f).flag key = s.flag key := by simp [State.flag]
@[simp] theorem State.modCommit_now (s : State) (f : CommitCtl → CommitCtl) : (s.modCommit f).now = s.now := by simp [State.now]

/-! ## State.modServer -/

@[simp] theorem State.modServer_pending (s : State) (f : Server → Server) : (s.modServer f).pending = s.pending := by cases s; rfl
@[simp] theorem State.modServer_time (s : State) (f : Server → Server) : (s.modServer f).time = s.time := by cases s; rfl
@[simp] theorem State.modServer_log (s : State) (f : Server → Server) : (s.modServer f).log = s.log := by cases s; rfl
@[simp] theorem State.modServer_node (s : State) (f : Server → Server) : (s.modServer f).node = s.node := by cases s; rfl
@[simp] theorem State.modServer_dict (s : State) (f : Server → Server) : (s.modServer f).dict = s.dict := by cases s; rfl
@[simp] theorem State.modServer_commit (s : State) (f : Server → Server) : (s.modServer f).commit = s.commit := by cases s; rfl
@[simp] theorem State.modServer_server (s : State) (f : Server → Server) : (s.modServer f).server = f s.server := by cases s; rfl
@[simp] theorem State.modServer_basaris (s : State) (f : Server → Server) : (s.modServer f).basaris = s.basaris := by cases s; rfl
@[simp] theorem State.modServer_mbx (s : State) (f : Server → Server) : (s.modServer f).mbx = s.mbx := by cases s; rfl
@[simp] theorem State.modServer_ports (s : State) (f : Server → Server) : (s.modServer f).ports = s.ports := by cases s; rfl
@[simp] theorem State.modServer_launch (s : State) (f : Server → Server) : (s.modServer f).launch = s.launch := by cases s; rfl
@[simp] theorem State.modServer_blocks (s : State) (f : Server → Server) : (s.modServer f).blocks = s.blocks := by cases s; rfl
@[simp] theorem State.modServer_regions (s : State) (f : Server → Server) : (s.modServer f).regions = s.regions := by cases s; rfl
@[simp] theorem State.modServer_mem (s : State) (f : Server → Server) : (s.modServer f).mem = s.mem := by cases s; rfl
@[simp] theorem State.modServer_marks (s : State) (f : Server → Server) : (s.modServer f).marks = s.marks := by cases s; rfl
@[simp] theorem State.modServer_detect (s : State) (f : Server → Server) : (s.modServer f).detect = s.detect := by cases s; rfl
@[simp] theorem State.modServer_kv (s : State) (f : Server → Server) : (s.modServer f).kv = s.kv := by cases s; rfl
@[simp] theorem State.modServer_streams (s : State) (f : Server → Server) : (s.modServer f).streams = s.streams := by cases s; rfl
@[simp] theorem State.modServer_heads (s : State) (f : Server → Server) : (s.modServer f).heads = s.heads := by cases s; rfl
@[simp] theorem State.modServer_intake (s : State) (f : Server → Server) : (s.modServer f).intake = s.intake := by cases s; rfl
@[simp] theorem State.modServer_motion (s : State) (f : Server → Server) : (s.modServer f).motion = s.motion := by cases s; rfl
@[simp] theorem State.modServer_crust (s : State) (f : Server → Server) : (s.modServer f).crust = s.crust := by cases s; rfl
@[simp] theorem State.modServer_can (s : State) (f : Server → Server) : (s.modServer f).can = s.can := by cases s; rfl
@[simp] theorem State.modServer_tt (s : State) (f : Server → Server) : (s.modServer f).tt = s.tt := by cases s; rfl
@[simp] theorem State.modServer_net (s : State) (f : Server → Server) : (s.modServer f).net = s.net := by cases s; rfl
@[simp] theorem State.modServer_power (s : State) (f : Server → Server) : (s.modServer f).power = s.power := by cases s; rfl
@[simp] theorem State.modServer_counters (s : State) (f : Server → Server) : (s.modServer f).counters = s.counters := by cases s; rfl
@[simp] theorem State.modServer_service (s : State) (f : Server → Server) : (s.modServer f).service = s.service := by cases s; rfl
@[simp] theorem State.modServer_outbox (s : State) (f : Server → Server) : (s.modServer f).outbox = s.outbox := by cases s; rfl
@[simp] theorem State.modServer_obj (s : State) (f : Server → Server) (key : Key) : (s.modServer f).obj key = s.obj key := by simp [State.obj]
@[simp] theorem State.modServer_nat (s : State) (f : Server → Server) (key : Key) : (s.modServer f).nat key = s.nat key := by simp [State.nat, State.int]
@[simp] theorem State.modServer_flag (s : State) (f : Server → Server) (key : Key) : (s.modServer f).flag key = s.flag key := by simp [State.flag]
@[simp] theorem State.modServer_now (s : State) (f : Server → Server) : (s.modServer f).now = s.now := by simp [State.now]

/-! ## State.modDict -/

@[simp] theorem State.modDict_pending (s : State) (f : Dict → Dict) : (s.modDict f).pending = s.pending := by cases s; rfl
@[simp] theorem State.modDict_time (s : State) (f : Dict → Dict) : (s.modDict f).time = s.time := by cases s; rfl
@[simp] theorem State.modDict_log (s : State) (f : Dict → Dict) : (s.modDict f).log = s.log := by cases s; rfl
@[simp] theorem State.modDict_node (s : State) (f : Dict → Dict) : (s.modDict f).node = s.node := by cases s; rfl
@[simp] theorem State.modDict_dict (s : State) (f : Dict → Dict) : (s.modDict f).dict = f s.dict := by cases s; rfl
@[simp] theorem State.modDict_commit (s : State) (f : Dict → Dict) : (s.modDict f).commit = s.commit := by cases s; rfl
@[simp] theorem State.modDict_server (s : State) (f : Dict → Dict) : (s.modDict f).server = s.server := by cases s; rfl
@[simp] theorem State.modDict_basaris (s : State) (f : Dict → Dict) : (s.modDict f).basaris = s.basaris := by cases s; rfl
@[simp] theorem State.modDict_mbx (s : State) (f : Dict → Dict) : (s.modDict f).mbx = s.mbx := by cases s; rfl
@[simp] theorem State.modDict_ports (s : State) (f : Dict → Dict) : (s.modDict f).ports = s.ports := by cases s; rfl
@[simp] theorem State.modDict_launch (s : State) (f : Dict → Dict) : (s.modDict f).launch = s.launch := by cases s; rfl
@[simp] theorem State.modDict_blocks (s : State) (f : Dict → Dict) : (s.modDict f).blocks = s.blocks := by cases s; rfl
@[simp] theorem State.modDict_regions (s : State) (f : Dict → Dict) : (s.modDict f).regions = s.regions := by cases s; rfl
@[simp] theorem State.modDict_mem (s : State) (f : Dict → Dict) : (s.modDict f).mem = s.mem := by cases s; rfl
@[simp] theorem State.modDict_marks (s : State) (f : Dict → Dict) : (s.modDict f).marks = s.marks := by cases s; rfl
@[simp] theorem State.modDict_detect (s : State) (f : Dict → Dict) : (s.modDict f).detect = s.detect := by cases s; rfl
@[simp] theorem State.modDict_kv (s : State) (f : Dict → Dict) : (s.modDict f).kv = s.kv := by cases s; rfl
@[simp] theorem State.modDict_streams (s : State) (f : Dict → Dict) : (s.modDict f).streams = s.streams := by cases s; rfl
@[simp] theorem State.modDict_heads (s : State) (f : Dict → Dict) : (s.modDict f).heads = s.heads := by cases s; rfl
@[simp] theorem State.modDict_intake (s : State) (f : Dict → Dict) : (s.modDict f).intake = s.intake := by cases s; rfl
@[simp] theorem State.modDict_motion (s : State) (f : Dict → Dict) : (s.modDict f).motion = s.motion := by cases s; rfl
@[simp] theorem State.modDict_crust (s : State) (f : Dict → Dict) : (s.modDict f).crust = s.crust := by cases s; rfl
@[simp] theorem State.modDict_can (s : State) (f : Dict → Dict) : (s.modDict f).can = s.can := by cases s; rfl
@[simp] theorem State.modDict_tt (s : State) (f : Dict → Dict) : (s.modDict f).tt = s.tt := by cases s; rfl
@[simp] theorem State.modDict_net (s : State) (f : Dict → Dict) : (s.modDict f).net = s.net := by cases s; rfl
@[simp] theorem State.modDict_power (s : State) (f : Dict → Dict) : (s.modDict f).power = s.power := by cases s; rfl
@[simp] theorem State.modDict_counters (s : State) (f : Dict → Dict) : (s.modDict f).counters = s.counters := by cases s; rfl
@[simp] theorem State.modDict_service (s : State) (f : Dict → Dict) : (s.modDict f).service = s.service := by cases s; rfl
@[simp] theorem State.modDict_outbox (s : State) (f : Dict → Dict) : (s.modDict f).outbox = s.outbox := by cases s; rfl
@[simp] theorem State.modDict_now (s : State) (f : Dict → Dict) : (s.modDict f).now = s.now := by simp [State.now]

/-! ## State.modBasaris -/

@[simp] theorem State.modBasaris_pending (s : State) (f : Basaris → Basaris) : (s.modBasaris f).pending = s.pending := by cases s; rfl
@[simp] theorem State.modBasaris_time (s : State) (f : Basaris → Basaris) : (s.modBasaris f).time = s.time := by cases s; rfl
@[simp] theorem State.modBasaris_log (s : State) (f : Basaris → Basaris) : (s.modBasaris f).log = s.log := by cases s; rfl
@[simp] theorem State.modBasaris_node (s : State) (f : Basaris → Basaris) : (s.modBasaris f).node = s.node := by cases s; rfl
@[simp] theorem State.modBasaris_dict (s : State) (f : Basaris → Basaris) : (s.modBasaris f).dict = s.dict := by cases s; rfl
@[simp] theorem State.modBasaris_commit (s : State) (f : Basaris → Basaris) : (s.modBasaris f).commit = s.commit := by cases s; rfl
@[simp] theorem State.modBasaris_server (s : State) (f : Basaris → Basaris) : (s.modBasaris f).server = s.server := by cases s; rfl
@[simp] theorem State.modBasaris_basaris (s : State) (f : Basaris → Basaris) : (s.modBasaris f).basaris = f s.basaris := by cases s; rfl
@[simp] theorem State.modBasaris_mbx (s : State) (f : Basaris → Basaris) : (s.modBasaris f).mbx = s.mbx := by cases s; rfl
@[simp] theorem State.modBasaris_ports (s : State) (f : Basaris → Basaris) : (s.modBasaris f).ports = s.ports := by cases s; rfl
@[simp] theorem State.modBasaris_launch (s : State) (f : Basaris → Basaris) : (s.modBasaris f).launch = s.launch := by cases s; rfl
@[simp] theorem State.modBasaris_blocks (s : State) (f : Basaris → Basaris) : (s.modBasaris f).blocks = s.blocks := by cases s; rfl
@[simp] theorem State.modBasaris_regions (s : State) (f : Basaris → Basaris) : (s.modBasaris f).regions = s.regions := by cases s; rfl
@[simp] theorem State.modBasaris_mem (s : State) (f : Basaris → Basaris) : (s.modBasaris f).mem = s.mem := by cases s; rfl
@[simp] theorem State.modBasaris_marks (s : State) (f : Basaris → Basaris) : (s.modBasaris f).marks = s.marks := by cases s; rfl
@[simp] theorem State.modBasaris_detect (s : State) (f : Basaris → Basaris) : (s.modBasaris f).detect = s.detect := by cases s; rfl
@[simp] theorem State.modBasaris_kv (s : State) (f : Basaris → Basaris) : (s.modBasaris f).kv = s.kv := by cases s; rfl
@[simp] theorem State.modBasaris_streams (s : State) (f : Basaris → Basaris) : (s.modBasaris f).streams = s.streams := by cases s; rfl
@[simp] theorem State.modBasaris_heads (s : State) (f : Basaris → Basaris) : (s.modBasaris f).heads = s.heads := by cases s; rfl
@[simp] theorem State.modBasaris_intake (s : State) (f : Basaris → Basaris) : (s.modBasaris f).intake = s.intake := by cases s; rfl
@[simp] theorem State.modBasaris_motion (s : State) (f : Basaris → Basaris) : (s.modBasaris f).motion = s.motion := by cases s; rfl
@[simp] theorem State.modBasaris_crust (s : State) (f : Basaris → Basaris) : (s.modBasaris f).crust = s.crust := by cases s; rfl
@[simp] theorem State.modBasaris_can (s : State) (f : Basaris → Basaris) : (s.modBasaris f).can = s.can := by cases s; rfl
@[simp] theorem State.modBasaris_tt (s : State) (f : Basaris → Basaris) : (s.modBasaris f).tt = s.tt := by cases s; rfl
@[simp] theorem State.modBasaris_net (s : State) (f : Basaris → Basaris) : (s.modBasaris f).net = s.net := by cases s; rfl
@[simp] theorem State.modBasaris_power (s : State) (f : Basaris → Basaris) : (s.modBasaris f).power = s.power := by cases s; rfl
@[simp] theorem State.modBasaris_counters (s : State) (f : Basaris → Basaris) : (s.modBasaris f).counters = s.counters := by cases s; rfl
@[simp] theorem State.modBasaris_service (s : State) (f : Basaris → Basaris) : (s.modBasaris f).service = s.service := by cases s; rfl
@[simp] theorem State.modBasaris_outbox (s : State) (f : Basaris → Basaris) : (s.modBasaris f).outbox = s.outbox := by cases s; rfl
@[simp] theorem State.modBasaris_obj (s : State) (f : Basaris → Basaris) (key : Key) : (s.modBasaris f).obj key = s.obj key := by simp [State.obj]
@[simp] theorem State.modBasaris_nat (s : State) (f : Basaris → Basaris) (key : Key) : (s.modBasaris f).nat key = s.nat key := by simp [State.nat, State.int]
@[simp] theorem State.modBasaris_flag (s : State) (f : Basaris → Basaris) (key : Key) : (s.modBasaris f).flag key = s.flag key := by simp [State.flag]
@[simp] theorem State.modBasaris_now (s : State) (f : Basaris → Basaris) : (s.modBasaris f).now = s.now := by simp [State.now]

/-! ## State.modMbx -/

@[simp] theorem State.modMbx_pending (s : State) (f : Mailbox → Mailbox) : (s.modMbx f).pending = s.pending := by cases s; rfl
@[simp] theorem State.modMbx_time (s : State) (f : Mailbox → Mailbox) : (s.modMbx f).time = s.time := by cases s; rfl
@[simp] theorem State.modMbx_log (s : State) (f : Mailbox → Mailbox) : (s.modMbx f).log = s.log := by cases s; rfl
@[simp] theorem State.modMbx_node (s : State) (f : Mailbox → Mailbox) : (s.modMbx f).node = s.node := by cases s; rfl
@[simp] theorem State.modMbx_dict (s : State) (f : Mailbox → Mailbox) : (s.modMbx f).dict = s.dict := by cases s; rfl
@[simp] theorem State.modMbx_commit (s : State) (f : Mailbox → Mailbox) : (s.modMbx f).commit = s.commit := by cases s; rfl
@[simp] theorem State.modMbx_server (s : State) (f : Mailbox → Mailbox) : (s.modMbx f).server = s.server := by cases s; rfl
@[simp] theorem State.modMbx_basaris (s : State) (f : Mailbox → Mailbox) : (s.modMbx f).basaris = s.basaris := by cases s; rfl
@[simp] theorem State.modMbx_mbx (s : State) (f : Mailbox → Mailbox) : (s.modMbx f).mbx = f s.mbx := by cases s; rfl
@[simp] theorem State.modMbx_ports (s : State) (f : Mailbox → Mailbox) : (s.modMbx f).ports = s.ports := by cases s; rfl
@[simp] theorem State.modMbx_launch (s : State) (f : Mailbox → Mailbox) : (s.modMbx f).launch = s.launch := by cases s; rfl
@[simp] theorem State.modMbx_blocks (s : State) (f : Mailbox → Mailbox) : (s.modMbx f).blocks = s.blocks := by cases s; rfl
@[simp] theorem State.modMbx_regions (s : State) (f : Mailbox → Mailbox) : (s.modMbx f).regions = s.regions := by cases s; rfl
@[simp] theorem State.modMbx_mem (s : State) (f : Mailbox → Mailbox) : (s.modMbx f).mem = s.mem := by cases s; rfl
@[simp] theorem State.modMbx_marks (s : State) (f : Mailbox → Mailbox) : (s.modMbx f).marks = s.marks := by cases s; rfl
@[simp] theorem State.modMbx_detect (s : State) (f : Mailbox → Mailbox) : (s.modMbx f).detect = s.detect := by cases s; rfl
@[simp] theorem State.modMbx_kv (s : State) (f : Mailbox → Mailbox) : (s.modMbx f).kv = s.kv := by cases s; rfl
@[simp] theorem State.modMbx_streams (s : State) (f : Mailbox → Mailbox) : (s.modMbx f).streams = s.streams := by cases s; rfl
@[simp] theorem State.modMbx_heads (s : State) (f : Mailbox → Mailbox) : (s.modMbx f).heads = s.heads := by cases s; rfl
@[simp] theorem State.modMbx_intake (s : State) (f : Mailbox → Mailbox) : (s.modMbx f).intake = s.intake := by cases s; rfl
@[simp] theorem State.modMbx_motion (s : State) (f : Mailbox → Mailbox) : (s.modMbx f).motion = s.motion := by cases s; rfl
@[simp] theorem State.modMbx_crust (s : State) (f : Mailbox → Mailbox) : (s.modMbx f).crust = s.crust := by cases s; rfl
@[simp] theorem State.modMbx_can (s : State) (f : Mailbox → Mailbox) : (s.modMbx f).can = s.can := by cases s; rfl
@[simp] theorem State.modMbx_tt (s : State) (f : Mailbox → Mailbox) : (s.modMbx f).tt = s.tt := by cases s; rfl
@[simp] theorem State.modMbx_net (s : State) (f : Mailbox → Mailbox) : (s.modMbx f).net = s.net := by cases s; rfl
@[simp] theorem State.modMbx_power (s : State) (f : Mailbox → Mailbox) : (s.modMbx f).power = s.power := by cases s; rfl
@[simp] theorem State.modMbx_counters (s : State) (f : Mailbox → Mailbox) : (s.modMbx f).counters = s.counters := by cases s; rfl
@[simp] theorem State.modMbx_service (s : State) (f : Mailbox → Mailbox) : (s.modMbx f).service = s.service := by cases s; rfl
@[simp] theorem State.modMbx_outbox (s : State) (f : Mailbox → Mailbox) : (s.modMbx f).outbox = s.outbox := by cases s; rfl
@[simp] theorem State.modMbx_obj (s : State) (f : Mailbox → Mailbox) (key : Key) : (s.modMbx f).obj key = s.obj key := by simp [State.obj]
@[simp] theorem State.modMbx_nat (s : State) (f : Mailbox → Mailbox) (key : Key) : (s.modMbx f).nat key = s.nat key := by simp [State.nat, State.int]
@[simp] theorem State.modMbx_flag (s : State) (f : Mailbox → Mailbox) (key : Key) : (s.modMbx f).flag key = s.flag key := by simp [State.flag]
@[simp] theorem State.modMbx_now (s : State) (f : Mailbox → Mailbox) : (s.modMbx f).now = s.now := by simp [State.now]

/-! ## State.modNode -/

@[simp] theorem State.modNode_pending (s : State) (f : CanNode → CanNode) : (s.modNode f).pending = s.pending := by cases s; rfl
@[simp] theorem State.modNode_time (s : State) (f : CanNode → CanNode) : (s.modNode f).time = s.time := by cases s; rfl
@[simp] theorem State.modNode_log (s : State) (f : CanNode → CanNode) : (s.modNode f).log = s.log := by cases s; rfl
@[simp] theorem State.modNode_node (s : State) (f : CanNode → CanNode) : (s.modNode f).node = f s.node := by cases s; rfl
@[simp] theorem State.modNode_dict (s : State) (f : CanNode → CanNode) : (s.modNode f).dict = s.dict := by cases s; rfl
@[simp] theorem State.modNode_commit (s : State) (f : CanNode → CanNode) : (s.modNode f).commit = s.commit := by cases s; rfl
@[simp] theorem State.modNode_server (s : State) (f : CanNode → CanNode) : (s.modNode f).server = s.server := by cases s; rfl
@[simp] theorem State.modNode_basaris (s : State) (f : CanNode → CanNode) : (s.modNode f).basaris = s.basaris := by cases s; rfl
@[simp] theorem State.modNode_mbx (s : State) (f : CanNode → CanNode) : (s.modNode f).mbx = s.mbx := by cases s; rfl
@[simp] theorem State.modNode_ports (s : State) (f : CanNode → CanNode) : (s.modNode f).ports = s.ports := by cases s; rfl
@[simp] theorem State.modNode_launch (s : State) (f : CanNode → CanNode) : (s.modNode f).launch = s.launch := by cases s; rfl
@[simp] theorem State.modNode_blocks (s : State) (f : CanNode → CanNode) : (s.modNode f).blocks = s.blocks := by cases s; rfl
@[simp] theorem State.modNode_regions (s : State) (f : CanNode → CanNode) : (s.modNode f).regions = s.regions := by cases s; rfl
@[simp] theorem State.modNode_mem (s : State) (f : CanNode → CanNode) : (s.modNode f).mem = s.mem := by cases s; rfl
@[simp] theorem State.modNode_marks (s : State) (f : CanNode → CanNode) : (s.modNode f).marks = s.marks := by cases s; rfl
@[simp] theorem State.modNode_detect (s : State) (f : CanNode → CanNode) : (s.modNode f).detect = s.detect := by cases s; rfl
@[simp] theorem State.modNode_kv (s : State) (f : CanNode → CanNode) : (s.modNode f).kv = s.kv := by cases s; rfl
@[simp] theorem State.modNode_streams (s : State) (f : CanNode → CanNode) : (s.modNode f).streams = s.streams := by cases s; rfl
@[simp] theorem State.modNode_heads (s : State) (f : CanNode → CanNode) : (s.modNode f).heads = s.heads := by cases s; rfl
@[simp] theorem State.modNode_intake (s : State) (f : CanNode → CanNode) : (s.modNode f).intake = s.intake := by cases s; rfl
@[simp] theorem State.modNode_motion (s : State) (f : CanNode → CanNode) : (s.modNode f).motion = s.motion := by cases s; rfl
@[simp] theorem State.modNode_crust (s : State) (f : CanNode → CanNode) : (s.modNode f).crust = s.crust := by cases s; rfl
@[simp] theorem State.modNode_can (s : State) (f : CanNode → CanNode) : (s.modNode f).can = s.can := by cases s; rfl
@[simp] theorem State.modNode_tt (s : State) (f : CanNode → CanNode) : (s.modNode f).tt = s.tt := by cases s; rfl
@[simp] theorem State.modNode_net (s : State) (f : CanNode → CanNode) : (s.modNode f).net = s.net := by cases s; rfl
@[simp] theorem State.modNode_power (s : State) (f : CanNode → CanNode) : (s.modNode f).power = s.power := by cases s; rfl
@[simp] theorem State.modNode_counters (s : State) (f : CanNode → CanNode) : (s.modNode f).counters = s.counters := by cases s; rfl
@[simp] theorem State.modNode_service (s : State) (f : CanNode → CanNode) : (s.modNode f).service = s.service := by cases s; rfl
@[simp] theorem State.modNode_outbox (s : State) (f : CanNode → CanNode) : (s.modNode f).outbox = s.outbox := by cases s; rfl
@[simp] theorem State.modNode_obj (s : State) (f : CanNode → CanNode) (key : Key) : (s.modNode f).obj key = s.obj key := by simp [State.obj]
@[simp] theorem State.modNode_nat (s : State) (f : CanNode → CanNode) (key : Key) : (s.modNode f).nat key = s.nat key := by simp [State.nat, State.int]
@[simp] theorem State.modNode_flag (s : State) (f : CanNode → CanNode) (key : Key) : (s.modNode f).flag key = s.flag key := by simp [State.flag]
@[simp] theorem State.modNode_now (s : State) (f : CanNode → CanNode) : (s.modNode f).now = s.now := by simp [State.now]

/-! ## State.modKv -/

@[simp] theorem State.modKv_pending (s : State) (f : Kv → Kv) : (s.modKv f).pending = s.pending := by cases s; rfl
@[simp] theorem State.modKv_time (s : State) (f : Kv → Kv) : (s.modKv f).time = s.time := by cases s; rfl
@[simp] theorem State.modKv_log (s : State) (f : Kv → Kv) : (s.modKv f).log = s.log := by cases s; rfl
@[simp] theorem State.modKv_node (s : State) (f : Kv → Kv) : (s.modKv f).node = s.node := by cases s; rfl
@[simp] theorem State.modKv_dict (s : State) (f : Kv → Kv) : (s.modKv f).dict = s.dict := by cases s; rfl
@[simp] theorem State.modKv_commit (s : State) (f : Kv → Kv) : (s.modKv f).commit = s.commit := by cases s; rfl
@[simp] theorem State.modKv_server (s : State) (f : Kv → Kv) : (s.modKv f).server = s.server := by cases s; rfl
@[simp] theorem State.modKv_basaris (s : State) (f : Kv → Kv) : (s.modKv f).basaris = s.basaris := by cases s; rfl
@[simp] theorem State.modKv_mbx (s : State) (f : Kv → Kv) : (s.modKv f).mbx = s.mbx := by cases s; rfl
@[simp] theorem State.modKv_ports (s : State) (f : Kv → Kv) : (s.modKv f).ports = s.ports := by cases s; rfl
@[simp] theorem State.modKv_launch (s : State) (f : Kv → Kv) : (s.modKv f).launch = s.launch := by cases s; rfl
@[simp] theorem State.modKv_blocks (s : State) (f : Kv → Kv) : (s.modKv f).blocks = s.blocks := by cases s; rfl
@[simp] theorem State.modKv_regions (s : State) (f : Kv → Kv) : (s.modKv f).regions = s.regions := by cases s; rfl
@[simp] theorem State.modKv_mem (s : State) (f : Kv → Kv) : (s.modKv f).mem = s.mem := by cases s; rfl
@[simp] theorem State.modKv_marks (s : State) (f : Kv → Kv) : (s.modKv f).marks = s.marks := by cases s; rfl
@[simp] theorem State.modKv_detect (s : State) (f : Kv → Kv) : (s.modKv f).detect = s.detect := by cases s; rfl
@[simp] theorem State.modKv_kv (s : State) (f : Kv → Kv) : (s.modKv f).kv = f s.kv := by cases s; rfl
@[simp] theorem State.modKv_streams (s : State) (f : Kv → Kv) : (s.modKv f).streams = s.streams := by cases s; rfl
@[simp] theorem State.modKv_heads (s : State) (f : Kv → Kv) : (s.modKv f).heads = s.heads := by cases s; rfl
@[simp] theorem State.modKv_intake (s : State) (f : Kv → Kv) : (s.modKv f).intake = s.intake := by cases s; rfl
@[simp] theorem State.modKv_motion (s : State) (f : Kv → Kv) : (s.modKv f).motion = s.motion := by cases s; rfl
@[simp] theorem State.modKv_crust (s : State) (f : Kv → Kv) : (s.modKv f).crust = s.crust := by cases s; rfl
@[simp] theorem State.modKv_can (s : State) (f : Kv → Kv) : (s.modKv f).can = s.can := by cases s; rfl
@[simp] theorem State.modKv_tt (s : State) (f : Kv → Kv) : (s.modKv f).tt = s.tt := by cases s; rfl
@[simp] theorem State.modKv_net (s : State) (f : Kv → Kv) : (s.modKv f).net = s.net := by cases s; rfl
@[simp] theorem State.modKv_power (s : State) (f : Kv → Kv) : (s.modKv f).power = s.power := by cases s; rfl
@[simp] theorem State.modKv_counters (s : State) (f : Kv → Kv) : (s.modKv f).counters = s.counters := by cases s; rfl
@[simp] theorem State.modKv_service (s : State) (f : Kv → Kv) : (s.modKv f).service = s.service := by cases s; rfl
@[simp] theorem State.modKv_outbox (s : State) (f : Kv → Kv) : (s.modKv f).outbox = s.outbox := by cases s; rfl
@[simp] theorem State.modKv_obj (s : State) (f : Kv → Kv) (key : Key) : (s.modKv f).obj key = s.obj key := by simp [State.obj]
@[simp] theorem State.modKv_nat (s : State) (f : Kv → Kv) (key : Key) : (s.modKv f).nat key = s.nat key := by simp [State.nat, State.int]
@[simp] theorem State.modKv_flag (s : State) (f : Kv → Kv) (key : Key) : (s.modKv f).flag key = s.flag key := by simp [State.flag]
@[simp] theorem State.modKv_now (s : State) (f : Kv → Kv) : (s.modKv f).now = s.now := by simp [State.now]

/-! ## State.modCounters -/

@[simp] theorem State.modCounters_pending (s : State) (f : Counters → Counters) : (s.modCounters f).pending = s.pending := by cases s; rfl
@[simp] theorem State.modCounters_time (s : State) (f : Counters → Counters) : (s.modCounters f).time = s.time := by cases s; rfl
@[simp] theorem State.modCounters_log (s : State) (f : Counters → Counters) : (s.modCounters f).log = s.log := by cases s; rfl
@[simp] theorem State.modCounters_node (s : State) (f : Counters → Counters) : (s.modCounters f).node = s.node := by cases s; rfl
@[simp] theorem State.modCounters_dict (s : State) (f : Counters → Counters) : (s.modCounters f).dict = s.dict := by cases s; rfl
@[simp] theorem State.modCounters_commit (s : State) (f : Counters → Counters) : (s.modCounters f).commit = s.commit := by cases s; rfl
@[simp] theorem State.modCounters_server (s : State) (f : Counters → Counters) : (s.modCounters f).server = s.server := by cases s; rfl
@[simp] theorem State.modCounters_basaris (s : State) (f : Counters → Counters) : (s.modCounters f).basaris = s.basaris := by cases s; rfl
@[simp] theorem State.modCounters_mbx (s : State) (f : Counters → Counters) : (s.modCounters f).mbx = s.mbx := by cases s; rfl
@[simp] theorem State.modCounters_ports (s : State) (f : Counters → Counters) : (s.modCounters f).ports = s.ports := by cases s; rfl
@[simp] theorem State.modCounters_launch (s : State) (f : Counters → Counters) : (s.modCounters f).launch = s.launch := by cases s; rfl
@[simp] theorem State.modCounters_blocks (s : State) (f : Counters → Counters) : (s.modCounters f).blocks = s.blocks := by cases s; rfl
@[simp] theorem State.modCounters_regions (s : State) (f : Counters → Counters) : (s.modCounters f).regions = s.regions := by cases s; rfl
@[simp] theorem State.modCounters_mem (s : State) (f : Counters → Counters) : (s.modCounters f).mem = s.mem := by cases s; rfl
@[simp] theorem State.modCounters_marks (s : State) (f : Counters → Counters) : (s.modCounters f).marks = s.marks := by cases s; rfl
@[simp] theorem State.modCounters_detect (s : State) (f : Counters → Counters) : (s.modCounters f).detect = s.detect := by cases s; rfl
@[simp] theorem State.modCounters_kv (s : State) (f : Counters → Counters) : (s.modCounters f).kv = s.kv := by cases s; rfl
@[simp] theorem State.modCounters_streams (s : State) (f : Counters → Counters) : (s.modCounters f).streams = s.streams := by cases s; rfl
@[simp] theorem State.modCounters_heads (s : State) (f : Counters → Counters) : (s.modCounters f).heads = s.heads := by cases s; rfl
@[simp] theorem State.modCounters_intake (s : State) (f : Counters → Counters) : (s.modCounters f).intake = s.intake := by cases s; rfl
@[simp] theorem State.modCounters_motion (s : State) (f : Counters → Counters) : (s.modCounters f).motion = s.motion := by cases s; rfl
@[simp] theorem State.modCounters_crust (s : State) (f : Counters → Counters) : (s.modCounters f).crust = s.crust := by cases s; rfl
@[simp] theorem State.modCounters_can (s : State) (f : Counters → Counters) : (s.modCounters f).can = s.can := by cases s; rfl
@[simp] theorem State.modCounters_tt (s : State) (f : Counters → Counters) : (s.modCounters f).tt = s.tt := by cases s; rfl
@[simp] theorem State.modCounters_net (s : State) (f : Counters → Counters) : (s.modCounters f).net = s.net := by cases s; rfl
@[simp] theorem State.modCounters_power (s : State) (f : Counters → Counters) : (s.modCounters f).power = s.power := by cases s; rfl
@[simp] theorem State.modCounters_counters (s : State) (f : Counters → Counters) : (s.modCounters f).counters = f s.counters := by cases s; rfl
@[simp] theorem State.modCounters_service (s : State) (f : Counters → Counters) : (s.modCounters f).service = s.service := by cases s; rfl
@[simp] theorem State.modCounters_outbox (s : State) (f : Counters → Counters) : (s.modCounters f).outbox = s.outbox := by cases s; rfl
@[simp] theorem State.modCounters_obj (s : State) (f : Counters → Counters) (key : Key) : (s.modCounters f).obj key = s.obj key := by simp [State.obj]
@[simp] theorem State.modCounters_nat (s : State) (f : Counters → Counters) (key : Key) : (s.modCounters f).nat key = s.nat key := by simp [State.nat, State.int]
@[simp] theorem State.modCounters_flag (s : State) (f : Counters → Counters) (key : Key) : (s.modCounters f).flag key = s.flag key := by simp [State.flag]
@[simp] theorem State.modCounters_now (s : State) (f : Counters → Counters) : (s.modCounters f).now = s.now := by simp [State.now]

/-! ## State.emit -/

@[simp] theorem State.emit_pending (s : State) (o : Output) : (s.emit o).pending = s.pending := by cases s; rfl
@[simp] theorem State.emit_time (s : State) (o : Output) : (s.emit o).time = s.time := by cases s; rfl
@[simp] theorem State.emit_log (s : State) (o : Output) : (s.emit o).log = s.log := by cases s; rfl
@[simp] theorem State.emit_node (s : State) (o : Output) : (s.emit o).node = s.node := by cases s; rfl
@[simp] theorem State.emit_dict (s : State) (o : Output) : (s.emit o).dict = s.dict := by cases s; rfl
@[simp] theorem State.emit_commit (s : State) (o : Output) : (s.emit o).commit = s.commit := by cases s; rfl
@[simp] theorem State.emit_server (s : State) (o : Output) : (s.emit o).server = s.server := by cases s; rfl
@[simp] theorem State.emit_basaris (s : State) (o : Output) : (s.emit o).basaris = s.basaris := by cases s; rfl
@[simp] theorem State.emit_mbx (s : State) (o : Output) : (s.emit o).mbx = s.mbx := by cases s; rfl
@[simp] theorem State.emit_ports (s : State) (o : Output) : (s.emit o).ports = s.ports := by cases s; rfl
@[simp] theorem State.emit_launch (s : State) (o : Output) : (s.emit o).launch = s.launch := by cases s; rfl
@[simp] theorem State.emit_blocks (s : State) (o : Output) : (s.emit o).blocks = s.blocks := by cases s; rfl
@[simp] theorem State.emit_regions (s : State) (o : Output) : (s.emit o).regions = s.regions := by cases s; rfl
@[simp] theorem State.emit_mem (s : State) (o : Output) : (s.emit o).mem = s.mem := by cases s; rfl
@[simp] theorem State.emit_marks (s : State) (o : Output) : (s.emit o).marks = s.marks := by cases s; rfl
@[simp] theorem State.emit_detect (s : State) (o : Output) : (s.emit o).detect = s.detect := by cases s; rfl
@[simp] theorem State.emit_kv (s : State) (o : Output) : (s.emit o).kv = s.kv := by cases s; rfl
@[simp] theorem State.emit_streams (s : State) (o : Output) : (s.emit o).streams = s.streams := by cases s; rfl
@[simp] theorem State.emit_heads (s : State) (o : Output) : (s.emit o).heads = s.heads := by cases s; rfl
@[simp] theorem State.emit_intake (s : State) (o : Output) : (s.emit o).intake = s.intake := by cases s; rfl
@[simp] theorem State.emit_motion (s : State) (o : Output) : (s.emit o).motion = s.motion := by cases s; rfl
@[simp] theorem State.emit_crust (s : State) (o : Output) : (s.emit o).crust = s.crust := by cases s; rfl
@[simp] theorem State.emit_can (s : State) (o : Output) : (s.emit o).can = s.can := by cases s; rfl
@[simp] theorem State.emit_tt (s : State) (o : Output) : (s.emit o).tt = s.tt := by cases s; rfl
@[simp] theorem State.emit_net (s : State) (o : Output) : (s.emit o).net = s.net := by cases s; rfl
@[simp] theorem State.emit_power (s : State) (o : Output) : (s.emit o).power = s.power := by cases s; rfl
@[simp] theorem State.emit_counters (s : State) (o : Output) : (s.emit o).counters = s.counters := by cases s; rfl
@[simp] theorem State.emit_service (s : State) (o : Output) : (s.emit o).service = s.service := by cases s; rfl
@[simp] theorem State.emit_outbox (s : State) (o : Output) : (s.emit o).outbox = s.outbox ++ [o] := by cases s; rfl
@[simp] theorem State.emit_obj (s : State) (o : Output) (key : Key) : (s.emit o).obj key = s.obj key := by simp [State.obj]
@[simp] theorem State.emit_nat (s : State) (o : Output) (key : Key) : (s.emit o).nat key = s.nat key := by simp [State.nat, State.int]
@[simp] theorem State.emit_flag (s : State) (o : Output) (key : Key) : (s.emit o).flag key = s.flag key := by simp [State.flag]
@[simp] theorem State.emit_now (s : State) (o : Output) : (s.emit o).now = s.now := by simp [State.now]

/-! ## State.advance -/

@[simp] theorem State.advance_pending (s : State) (t : Nat) : (s.advance t).pending = s.pending := by cases s; rfl
@[simp] theorem State.advance_time (s : State) (t : Nat) : (s.advance t).time = s.time.advance t := by cases s; rfl
@[simp] theorem State.advance_log (s : State) (t : Nat) : (s.advance t).log = s.log := by cases s; rfl
@[simp] theorem State.advance_node (s : State) (t : Nat) : (s.advance t).node = s.node := by cases s; rfl
@[simp] theorem State.advance_dict (s : State) (t : Nat) : (s.advance t).dict = s.dict := by cases s; rfl
@[simp] theorem State.advance_commit (s : State) (t : Nat) : (s.advance t).commit = s.commit := by cases s; rfl
@[simp] theorem State.advance_server (s : State) (t : Nat) : (s.advance t).server = s.server := by cases s; rfl
@[simp] theorem State.advance_basaris (s : State) (t : Nat) : (s.advance t).basaris = s.basaris := by cases s; rfl
@[simp] theorem State.advance_mbx (s : State) (t : Nat) : (s.advance t).mbx = s.mbx := by cases s; rfl
@[simp] theorem State.advance_ports (s : State) (t : Nat) : (s.advance t).ports = s.ports := by cases s; rfl
@[simp] theorem State.advance_launch (s : State) (t : Nat) : (s.advance t).launch = s.launch := by cases s; rfl
@[simp] theorem State.advance_blocks (s : State) (t : Nat) : (s.advance t).blocks = s.blocks := by cases s; rfl
@[simp] theorem State.advance_regions (s : State) (t : Nat) : (s.advance t).regions = s.regions := by cases s; rfl
@[simp] theorem State.advance_mem (s : State) (t : Nat) : (s.advance t).mem = s.mem := by cases s; rfl
@[simp] theorem State.advance_marks (s : State) (t : Nat) : (s.advance t).marks = s.marks := by cases s; rfl
@[simp] theorem State.advance_detect (s : State) (t : Nat) : (s.advance t).detect = s.detect := by cases s; rfl
@[simp] theorem State.advance_kv (s : State) (t : Nat) : (s.advance t).kv = s.kv := by cases s; rfl
@[simp] theorem State.advance_streams (s : State) (t : Nat) : (s.advance t).streams = s.streams := by cases s; rfl
@[simp] theorem State.advance_heads (s : State) (t : Nat) : (s.advance t).heads = s.heads := by cases s; rfl
@[simp] theorem State.advance_intake (s : State) (t : Nat) : (s.advance t).intake = s.intake := by cases s; rfl
@[simp] theorem State.advance_motion (s : State) (t : Nat) : (s.advance t).motion = s.motion := by cases s; rfl
@[simp] theorem State.advance_crust (s : State) (t : Nat) : (s.advance t).crust = s.crust := by cases s; rfl
@[simp] theorem State.advance_can (s : State) (t : Nat) : (s.advance t).can = s.can := by cases s; rfl
@[simp] theorem State.advance_tt (s : State) (t : Nat) : (s.advance t).tt = s.tt := by cases s; rfl
@[simp] theorem State.advance_net (s : State) (t : Nat) : (s.advance t).net = s.net := by cases s; rfl
@[simp] theorem State.advance_power (s : State) (t : Nat) : (s.advance t).power = s.power := by cases s; rfl
@[simp] theorem State.advance_counters (s : State) (t : Nat) : (s.advance t).counters = s.counters := by cases s; rfl
@[simp] theorem State.advance_service (s : State) (t : Nat) : (s.advance t).service = s.service := by cases s; rfl
@[simp] theorem State.advance_outbox (s : State) (t : Nat) : (s.advance t).outbox = s.outbox := by cases s; rfl
@[simp] theorem State.advance_obj (s : State) (t : Nat) (key : Key) : (s.advance t).obj key = s.obj key := by simp [State.obj]
@[simp] theorem State.advance_nat (s : State) (t : Nat) (key : Key) : (s.advance t).nat key = s.nat key := by simp [State.nat, State.int]
@[simp] theorem State.advance_flag (s : State) (t : Nat) (key : Key) : (s.advance t).flag key = s.flag key := by simp [State.flag]

end Sys2Proof.Machine
end

