-- ==== Sys2Proof/Laws/Memory.lean ====
section
/-!
SUPPORT. The memories: what a byte reads as after a write, and that every memory operation keeps the canonical form.
-/

namespace Sys2Proof.Machine

/-! ## Lists sorted by key -/

theorem get?_put_self {α : Type} (l : List (Nat × α)) (k : Nat) (v : α) : get? (put l k v) k = some v := by
  induction l with
  | nil => simp [put, get?]
  | cons e rest ih =>
    obtain ⟨k', v'⟩ := e
    simp only [put]
    split
    · simp [get?]
    · split
      · simp [get?]
      · simp [get?, *]

theorem get?_put_other {α : Type} (l : List (Nat × α)) (k j : Nat) (v : α) (h : j ≠ k) : get? (put l k v) j = get? l j := by
  induction l with
  | nil => simp [put, get?, h]
  | cons e rest ih =>
    obtain ⟨k', v'⟩ := e
    simp only [put]
    split
    · simp [get?, h]
    · split
      · subst k'; simp [get?, h]
      · simp only [get?, ih]

theorem get?_del_self {α : Type} (l : List (Nat × α)) (k : Nat) : get? (del l k) k = none := by
  induction l with
  | nil => rfl
  | cons e rest ih =>
    obtain ⟨k', v'⟩ := e
    unfold del at *
    by_cases hk : k' = k
    · simpa [List.filter_cons, hk] using ih
    · simpa [List.filter_cons, hk, get?, Ne.symm hk] using ih

theorem get?_del_other {α : Type} (l : List (Nat × α)) (k j : Nat) (h : j ≠ k) : get? (del l k) j = get? l j := by
  induction l with
  | nil => rfl
  | cons e rest ih =>
    obtain ⟨k', v'⟩ := e
    unfold del at *
    by_cases hk : k' = k
    · subst hk; simpa [List.filter_cons, get?, h] using ih
    · by_cases hj : j = k'
      · simp [hk, get?, hj]
      · simpa [List.filter_cons, hk, get?, hj] using ih

/-! ## One byte -/

/-- A byte reads as the last value written. -/
theorem cellGet_cellPut_self (m : List Host.Cell) (a : Nat) (b : Byte) : cellGet (cellPut m a b) a = b := by
  unfold cellGet cellPut
  split
  · simp [get?_del_self, *]
  · simp [get?_put_self]

/-- Every other byte reads as before. -/
theorem cellGet_cellPut_other (m : List Host.Cell) (a c : Nat) (b : Byte) (h : c ≠ a) : cellGet (cellPut m a b) c = cellGet m c := by
  unfold cellGet cellPut
  split
  · simp [get?_del_other, h]
  · simp [get?_put_other, h]

/-- Bytes below those written read as before. -/
theorem cellGet_cellsPut_below (m : List Host.Cell) (a c : Nat) (bs : Bytes) (h : c < a) : cellGet (cellsPut m a bs) c = cellGet m c := by
  induction bs generalizing m a with
  | nil => rfl
  | cons b rest ih => rw [cellsPut, ih _ _ (by omega), cellGet_cellPut_other _ _ _ _ (by omega)]

/-- Bytes above those written read as before. -/
theorem cellGet_cellsPut_above (m : List Host.Cell) (a c : Nat) (bs : Bytes) (h : a + bs.length ≤ c) : cellGet (cellsPut m a bs) c = cellGet m c := by
  induction bs generalizing m a with
  | nil => rfl
  | cons b rest ih =>
    simp only [List.length_cons] at h
    rw [cellsPut, ih _ _ (by omega), cellGet_cellPut_other _ _ _ _ (by omega)]

/-- A byte written reads as written. -/
theorem cellGet_cellsPut_at (m : List Host.Cell) (a i : Nat) (bs : Bytes) (h : i < bs.length) : cellGet (cellsPut m a bs) (a + i) = bs[i] := by
  induction bs generalizing m a i with
  | nil => simp at h
  | cons b rest ih =>
    cases i with
    | zero => rw [cellsPut, cellGet_cellsPut_below _ _ _ _ (by omega), Nat.add_zero, cellGet_cellPut_self]; rfl
    | succ n =>
      rw [cellsPut, show a + (n + 1) = a + 1 + n by omega, ih _ _ _ (by simpa using h)]
      rfl

/-! ## The canonical form -/

/-- The canonical form as a relation between any two entries and a property of each. -/
theorem cellsWf_iff (m : List Host.Cell) : cellsWf m = true ↔ m.Pairwise (fun e f => e.1 < f.1) ∧ ∀ e ∈ m, e.2 ≠ unwritten := by
  induction m with
  | nil => simp [cellsWf]
  | cons e rest ih =>
    cases rest with
    | nil => simp [cellsWf]
    | cons f rest =>
      rw [cellsWf, Bool.and_eq_true, Bool.and_eq_true, ih, decide_eq_true_iff, decide_eq_true_iff]
      constructor
      · rintro ⟨⟨h1, h2⟩, h3, h4⟩
        refine ⟨List.pairwise_cons.mpr ⟨?_, h3⟩, ?_⟩
        · intro g hg
          rcases List.mem_cons.mp hg with rfl | hg
          · exact h2
          · exact h2.trans ((List.pairwise_cons.mp h3).1 g hg)
        · intro g hg
          rcases List.mem_cons.mp hg with rfl | hg
          · exact h1
          · exact h4 g hg
      · rintro ⟨h1, h2⟩
        have h3 := List.pairwise_cons.mp h1
        exact ⟨⟨h2 e (by simp), h3.1 f (by simp)⟩, h3.2, fun g hg => h2 g (List.mem_cons_of_mem _ hg)⟩

@[simp] theorem cellsWf_filter (m : List Host.Cell) (p : Host.Cell → Bool) (h : cellsWf m = true) : cellsWf (m.filter p) = true := by
  rw [cellsWf_iff] at *
  exact ⟨h.1.filter p, fun e he => h.2 e (List.mem_of_mem_filter he)⟩

theorem mem_put {α : Type} (l : List (Nat × α)) (k : Nat) (v : α) (e : Nat × α) (h : e ∈ put l k v) : e = (k, v) ∨ e ∈ l := by
  induction l with
  | nil => simpa [put] using h
  | cons f rest ih =>
    obtain ⟨k', v'⟩ := f
    simp only [put] at h
    split at h
    · simpa using h
    · split at h
      · rcases List.mem_cons.mp h with h | h
        · exact .inl h
        · exact .inr (List.mem_cons_of_mem _ h)
      · rcases List.mem_cons.mp h with h | h
        · exact .inr (by simp [h])
        · rcases ih h with h | h
          · exact .inl h
          · exact .inr (List.mem_cons_of_mem _ h)

theorem put_sorted {α : Type} (l : List (Nat × α)) (k : Nat) (v : α) (h : l.Pairwise fun e f => e.1 < f.1) :
    (put l k v).Pairwise fun e f => e.1 < f.1 := by
  induction l with
  | nil => simp [put]
  | cons f rest ih =>
    obtain ⟨k', v'⟩ := f
    have hr := List.pairwise_cons.mp h
    simp only [put]
    split
    · refine List.pairwise_cons.mpr ⟨?_, h⟩
      intro g hg
      rcases List.mem_cons.mp hg with rfl | hg
      · assumption
      · exact Nat.lt_trans ‹k < k'› (hr.1 g hg)
    · split
      · subst k'; exact List.pairwise_cons.mpr ⟨hr.1, hr.2⟩
      · refine List.pairwise_cons.mpr ⟨?_, ih hr.2⟩
        intro g hg
        rcases mem_put rest k v g hg with rfl | hg
        · show k' < k; omega
        · exact hr.1 g hg

/-- Writing a byte keeps the canonical form. -/
@[simp] theorem cellPut_wf (m : List Host.Cell) (a : Nat) (b : Byte) (h : cellsWf m = true) : cellsWf (cellPut m a b) = true := by
  unfold cellPut
  split
  · exact cellsWf_filter m _ h
  · rw [cellsWf_iff] at *
    refine ⟨put_sorted m a b h.1, fun e he => ?_⟩
    rcases mem_put m a b e he with rfl | he
    · assumption
    · exact h.2 e he

/-- Writing bytes keeps the canonical form. -/
@[simp] theorem cellsPut_wf (m : List Host.Cell) (a : Nat) (bs : Bytes) (h : cellsWf m = true) : cellsWf (cellsPut m a bs) = true := by
  induction bs generalizing m a with
  | nil => exact h
  | cons b rest ih => exact ih _ _ (cellPut_wf _ _ _ h)

/-- Copying cells keeps the canonical form. -/
@[simp] theorem foldl_cellPut_wf {α : Type} (l : List α) (f : α → Nat) (g : α → Byte) (m : List Host.Cell) (h : cellsWf m = true) :
    cellsWf (l.foldl (fun m c => cellPut m (f c) (g c)) m) = true := by
  induction l generalizing m with
  | nil => exact h
  | cons c rest ih => exact ih _ (cellPut_wf _ _ _ h)

/-- Dropping an address range keeps the canonical form. -/
@[simp] theorem dropCells_wf (m : List Host.Cell) (lo hi : Nat) (h : cellsWf m = true) : cellsWf (dropCells m lo hi) = true := cellsWf_filter m _ h

/-- A write at a place keeps the canonical form of the memories. -/
@[simp] theorem Mem.put_wf (m : Mem) (p : MemRef) (bs : Bytes) (h : m.wf = true) : (m.put p bs).wf = true := by
  simp only [Mem.wf, Bool.and_eq_true] at h ⊢
  unfold Mem.put
  split <;> simp [h, cellsPut_wf]

/-- The memories right after reset are canonical. -/
@[simp] theorem reset_wf : State.reset.mem.wf = true := by decide

/-- Equal reads: bytes read from a memory that answers every byte as another one does. -/
theorem cellsGet_congr (m n : List Host.Cell) (a k : Nat) (h : ∀ i, i < k → cellGet m (a + i) = cellGet n (a + i)) : cellsGet m a k = cellsGet n a k := by
  unfold cellsGet
  refine List.map_congr_left fun i hi => h i ?_
  simpa using hi

end Sys2Proof.Machine
end

