-- ==== Sys2Proof/Laws/MemFrame.lean ====
section
/-!
SUPPORT. What leaves the memories alone: one lemma per operation that answers a state and never writes a memory, tagged for simp.
-/

set_option linter.all false

namespace Sys2Proof.Machine

/-! ## Ops -/

@[simp] theorem State.ite_mem (c : Prop) [Decidable c] (a b : State) : (if c then a else b).mem = if c then a.mem else b.mem := apply_ite _ _ _ _

@[simp] theorem State.dite_mem (c : Prop) [Decidable c] (a : c → State) (b : ¬c → State) :
    (if h : c then a h else b h).mem = if h : c then (a h).mem else (b h).mem := apply_dite _ _ _ _

theorem State.of_snd {α β : Type} {p : α × State} {x : α} {t : State} {f : State → β} {a : β} (h : p = (x, t)) (k : f p.2 = a) : f t = a := by
  subst h; exact k

theorem State.of_fst {α β : Type} {p : State × α} {x : α} {t : State} {f : State → β} {a : β} (h : p = (t, x)) (k : f p.1 = a) : f t = a := by
  subst h; exact k

theorem State.foldl_mem {α : Type} {f : State → α → State} (h : ∀ a x, (f a x).mem = a.mem) (l : List α) (s : State) : (l.foldl f s).mem = s.mem := by
  induction l generalizing s with
  | nil => rfl
  | cons x l ih => rw [List.foldl_cons, ih, h]

theorem State.foldl_fst_mem {α β : Type} {f : State × β → α → State × β} (h : ∀ a x, (f a x).1.mem = a.1.mem) (l : List α) (s : State × β) :
    (l.foldl f s).1.mem = s.1.mem := by
  induction l generalizing s with
  | nil => rfl
  | cons x l ih => rw [List.foldl_cons, ih, h]

theorem State.foldl_snd_mem {α β : Type} {f : β × State → α → β × State} (h : ∀ a x, (f a x).2.mem = a.2.mem) (l : List α) (s : β × State) :
    (l.foldl f s).2.mem = s.2.mem := by
  induction l generalizing s with
  | nil => rfl
  | cons x l ih => rw [List.foldl_cons, ih, h]

@[simp ↓] theorem State.transmit_mem (s : State) (p : Fin 8) (o : Output) : (State.transmit s p o).mem = s.mem := by unfold State.transmit; simp

@[simp ↓] theorem State.transmitWaiting_mem (s : State) (p : Fin 8) : (State.transmitWaiting s p).mem = s.mem := by
  unfold State.transmitWaiting
  repeat' first
    | (simp; done)
    | split
    | (intro _)
    | (with_reducible refine (State.foldl_mem (fun _ _ => ?_) _ _).trans ?_)
    | (with_reducible refine (State.foldl_snd_mem (fun _ _ => ?_) _ _).trans ?_)
    | (with_reducible refine (State.foldl_fst_mem (fun _ _ => ?_) _ _).trans ?_)
    | (dsimp only)
    | simp
    | (with_reducible refine State.of_snd (f := State.mem) (by assumption) ?_)
    | (with_reducible refine State.of_fst (f := State.mem) (by assumption) ?_)

@[simp ↓] theorem State.setObj_mem (s : State) (key : Key) (v : Val) : (State.setObj s key v).mem = s.mem := by unfold State.setObj; simp

@[simp ↓] theorem State.bump_mem (s : State) (key : Key) (n : Nat) : (State.bump s key n).mem = s.mem := by unfold State.bump; simp

@[simp ↓] theorem State.countSat_mem (s : State) (n : Nat) : (State.countSat s n).mem = s.mem := by unfold State.countSat; simp

@[simp ↓] theorem State.clearKeys_mem (s : State) (keys : List Key) : (State.clearKeys s keys).mem = s.mem := by unfold State.clearKeys; simp

@[simp ↓] theorem State.draw_mem (s : State) (p : Nat) (ops : List Int) : (State.draw s p ops).2.mem = s.mem := by unfold State.draw; simp

@[simp ↓] theorem State.drawNat_mem (s : State) (p : Nat) (w : Nat) (ops : List Int) : (State.drawNat s p w ops).2.mem = s.mem := by unfold State.drawNat; simp

@[simp ↓] theorem State.countChip_mem (s : State) (k : Fin 16) (n : Nat) : (State.countChip s k n).mem = s.mem := by unfold State.countChip; simp

@[simp ↓] theorem State.countRegion_mem (s : State) (r : Fin 10) (k : Fin 16) (n : Nat) : (State.countRegion s r k n).mem = s.mem := by unfold State.countRegion; simp

@[simp ↓] theorem State.countTokens_mem (s : State) (r : Fin 10) (k : Fin 16) : (State.countTokens s r k).mem = s.mem := by unfold State.countTokens; simp

@[simp ↓] theorem State.countBlock_mem (s : State) (r : Fin 10) (b : Fin 18) (k : Fin 18) (n : Nat) : (State.countBlock s r b k n).mem = s.mem := by unfold State.countBlock; simp

@[simp ↓] theorem State.countCell_mem (s : State) (r : Fin 10) (b : Fin 18) (cell : Nat) (k : Nat) (n : Nat) : (State.countCell s r b cell k n).mem = s.mem := by unfold State.countCell; simp

@[simp ↓] theorem State.frameOn_mem (s : State) (c : Fin 4) (o : Output) : (State.frameOn s c o).mem = s.mem := by unfold State.frameOn; simp

@[simp ↓] theorem State.nodeFrame_mem (s : State) (o : Output) : (State.nodeFrame s o).mem = s.mem := by unfold State.nodeFrame; simp

@[simp ↓] theorem State.sendEmcy_mem (s : State) (m : Emcy) : (State.sendEmcy s m).mem = s.mem := by unfold State.sendEmcy; simp

@[simp ↓] theorem State.queueEmcy_mem (s : State) (m : Emcy) : (State.queueEmcy s m).mem = s.mem := by unfold State.queueEmcy; simp

@[simp ↓] theorem State.sendWire_mem (s : State) (o : Output) : (State.sendWire s o).mem = s.mem := by unfold State.sendWire; simp

@[simp ↓] theorem State.announceBasaris_mem (s : State) (r : FaultRec) : (State.announceBasaris s r).mem = s.mem := by
  unfold State.announceBasaris
  repeat' first
    | (simp; done)
    | split
    | (intro _)
    | (with_reducible refine (State.foldl_mem (fun _ _ => ?_) _ _).trans ?_)
    | (with_reducible refine (State.foldl_snd_mem (fun _ _ => ?_) _ _).trans ?_)
    | (with_reducible refine (State.foldl_fst_mem (fun _ _ => ?_) _ _).trans ?_)
    | (dsimp only)
    | simp
    | (with_reducible refine State.of_snd (f := State.mem) (by assumption) ?_)
    | (with_reducible refine State.of_fst (f := State.mem) (by assumption) ?_)

@[simp ↓] theorem State.announcePcie_mem (s : State) (r : FaultRec) : (State.announcePcie s r).mem = s.mem := by unfold State.announcePcie; simp

@[simp ↓] theorem State.announce_mem (s : State) (r : FaultRec) : (State.announce s r).mem = s.mem := by unfold State.announce; simp

@[simp ↓] theorem State.record_mem (s : State) (r : FaultRec) : (State.record s r).mem = s.mem := by
  unfold State.record
  repeat' first | (simp; done) | split | simp

@[simp ↓] theorem State.recordFault_mem (s : State) (code : Nat) (loc : Loc) (detail : Nat) (part : Nat) : (State.recordFault s code loc detail part).mem = s.mem := by
  unfold State.recordFault
  repeat' first | (simp; done) | split | simp

@[simp ↓] theorem State.tellDisplaced_mem (s : State) (before : Nat) : (State.tellDisplaced s before).mem = s.mem := by unfold State.tellDisplaced; simp

@[simp ↓] theorem State.fault_mem (s : State) (code : Nat) (loc : Loc) (detail : Nat) (part : Nat) : (State.fault s code loc detail part).mem = s.mem := by unfold State.fault; simp

@[simp ↓] theorem State.faultInRange_mem (s : State) (range : Nat) (level : Nat) (loc : Loc) (detail : Nat) (part : Nat) : (State.faultInRange s range level loc detail part).mem = s.mem := by unfold State.faultInRange; simp

@[simp ↓] theorem State.acknowledge_mem (s : State) (keep : Nat → Bool) : (State.acknowledge s keep).mem = s.mem := by unfold State.acknowledge; simp

@[simp ↓] theorem State.acknowledgeUpTo_mem (s : State) (seq : Nat) : (State.acknowledgeUpTo s seq).mem = s.mem := by unfold State.acknowledgeUpTo; simp

/-! ## Reactions -/

@[simp ↓] theorem State.axisOff_mem (s : State) (k : Fin 16) : (State.axisOff s k).mem = s.mem := by unfold State.axisOff; simp

@[simp ↓] theorem State.axesOff_mem (s : State) (mask : BitVec 16) : (State.axesOff s mask).mem = s.mem := by
  unfold State.axesOff
  repeat' first
    | (simp; done)
    | split
    | (intro _)
    | (with_reducible refine (State.foldl_mem (fun _ _ => ?_) _ _).trans ?_)
    | (with_reducible refine (State.foldl_snd_mem (fun _ _ => ?_) _ _).trans ?_)
    | (with_reducible refine (State.foldl_fst_mem (fun _ _ => ?_) _ _).trans ?_)
    | (dsimp only)
    | simp
    | (with_reducible refine State.of_snd (f := State.mem) (by assumption) ?_)
    | (with_reducible refine State.of_fst (f := State.mem) (by assumption) ?_)

@[simp ↓] theorem State.supplyAction_mem (s : State) (k : Fin 16) : (State.supplyAction s k).mem = s.mem := by unfold State.supplyAction; simp

@[simp ↓] theorem State.outputOff_mem (s : State) : (State.outputOff s).mem = s.mem := by
  unfold State.outputOff
  repeat' first
    | (simp; done)
    | split
    | (intro _)
    | (with_reducible refine (State.foldl_mem (fun _ _ => ?_) _ _).trans ?_)
    | (with_reducible refine (State.foldl_snd_mem (fun _ _ => ?_) _ _).trans ?_)
    | (with_reducible refine (State.foldl_fst_mem (fun _ _ => ?_) _ _).trans ?_)
    | (dsimp only)
    | simp
    | (with_reducible refine State.of_snd (f := State.mem) (by assumption) ?_)
    | (with_reducible refine State.of_fst (f := State.mem) (by assumption) ?_)

@[simp ↓] theorem State.reactAt_mem (s : State) (level : Nat) (cause : Nat) (code : Nat) (axes : BitVec 16) (streams : BitVec 24) : (State.reactAt s level cause code axes streams).mem = s.mem := by unfold State.reactAt; simp

@[simp ↓] theorem State.react_mem (s : State) (cause : Nat) (code : Nat) (axes : BitVec 16) : (State.react s cause code axes).mem = s.mem := by unfold State.react; simp

@[simp ↓] theorem State.reactOrFault_mem (s : State) (causes : List (Nat × BitVec 16)) (code : Nat) (loc : Loc) (detail : Nat) (part : Nat) : (State.reactOrFault s causes code loc detail part).mem = s.mem := by
  unfold State.reactOrFault
  repeat' first
    | (simp; done)
    | split
    | (intro _)
    | (with_reducible refine (State.foldl_mem (fun _ _ => ?_) _ _).trans ?_)
    | (with_reducible refine (State.foldl_snd_mem (fun _ _ => ?_) _ _).trans ?_)
    | (with_reducible refine (State.foldl_fst_mem (fun _ _ => ?_) _ _).trans ?_)
    | (dsimp only)
    | simp
    | (with_reducible refine State.of_snd (f := State.mem) (by assumption) ?_)
    | (with_reducible refine State.of_fst (f := State.mem) (by assumption) ?_)

@[simp ↓] theorem State.enterSingle_mem (s : State) (region : Nat) (why : Nat) : (State.enterSingle s region why).mem = s.mem := by
  unfold State.enterSingle
  repeat' first | (simp; done) | split | simp

@[simp ↓] theorem State.leaveSingle_mem (s : State) : (State.leaveSingle s).mem = s.mem := by
  unfold State.leaveSingle
  repeat' first | (simp; done) | split | simp

@[simp ↓] theorem State.recoverStream_mem (s : State) (n : Fin 24) : (State.recoverStream s n).mem = s.mem := by unfold State.recoverStream; simp

@[simp ↓] theorem State.applyReset_mem (s : State) (sameBeat : Nat → Bool) : (State.applyReset s sameBeat).mem = s.mem := by
  unfold State.applyReset
  repeat' first
    | (simp; done)
    | split
    | (intro _)
    | (with_reducible refine (State.foldl_mem (fun _ _ => ?_) _ _).trans ?_)
    | (with_reducible refine (State.foldl_snd_mem (fun _ _ => ?_) _ _).trans ?_)
    | (with_reducible refine (State.foldl_fst_mem (fun _ _ => ?_) _ _).trans ?_)
    | (dsimp only)
    | simp
    | (with_reducible refine State.of_snd (f := State.mem) (by assumption) ?_)
    | (with_reducible refine State.of_fst (f := State.mem) (by assumption) ?_)

@[simp ↓] theorem State.requestReset_mem (s : State) : (State.requestReset s).mem = s.mem := by unfold State.requestReset; simp

@[simp ↓] theorem State.enterNoBeat_mem (s : State) : (State.enterNoBeat s).mem = s.mem := by unfold State.enterNoBeat; simp

@[simp ↓] theorem State.enterBeat_mem (s : State) (imageHash : Bytes) : (State.enterBeat s imageHash).mem = s.mem := by unfold State.enterBeat; simp

@[simp ↓] theorem State.tallyClamp_mem (s : State) (unit : Nat) (kind : Nat) : (State.tallyClamp s unit kind).mem = s.mem := by unfold State.tallyClamp; simp

@[simp ↓] theorem State.countClamp_mem (s : State) (unit : Nat) (kind : Nat) (leg : Nat) : (State.countClamp s unit kind leg).mem = s.mem := by unfold State.countClamp; simp

/-! ## Operands -/

@[simp ↓] theorem State.guardRefused_mem (s : State) (cls : Nat) (p : MemRef) (region : Nat) : (State.guardRefused s cls p region).mem = s.mem := by unfold State.guardRefused; simp

@[simp ↓] theorem State.checkBlockHeader_mem (s : State) (r : Fin 10) (b : Fin 18) (h : BitVec 128) (engine : Nat) : (State.checkBlockHeader s r b h engine).2.mem = s.mem := by unfold State.checkBlockHeader; simp

@[simp ↓] theorem State.checkZooHeader_mem (s : State) (r : Fin 10) (h : BitVec 128) (engine : Nat) (queue : Nat) (unit : Nat) : (State.checkZooHeader s r h engine queue unit).2.mem = s.mem := by unfold State.checkZooHeader; simp

@[simp ↓] theorem State.enterBuffer_mem (s : State) (n : Nat) (rep : Report) : (State.enterBuffer s n rep).mem = s.mem := by unfold State.enterBuffer; simp

@[simp ↓] theorem State.holdOutput_mem (s : State) (r : Fin 10) (b : Nat) (h : BitVec 128) (bs : Bytes) (invalid : Bool) : (State.holdOutput s r b h bs invalid).mem = s.mem := by
  unfold State.holdOutput
  repeat' first | (simp; done) | split | simp

/-! ## Records -/

@[simp ↓] theorem State.startBlock_mem (s : State) (r : Fin 10) (b : Fin 18) (h : BitVec 128) : (State.startBlock s r b h).mem = s.mem := by unfold State.startBlock; simp

@[simp ↓] theorem State.slotFields_mem (s : State) (r : Fin 10) (slot : Option Nat) : (State.slotFields s r slot).2.mem = s.mem := by
  unfold State.slotFields
  repeat' first | (simp; done) | split | simp

@[simp ↓] theorem State.invalidStats_mem (s : State) (format : Nat) (fields : Nat × Nat) : (State.invalidStats s format fields).2.mem = s.mem := by unfold State.invalidStats; simp

/-! ## Roles -/

@[simp ↓] theorem State.takeIdent_mem (s : State) : (State.takeIdent s).mem = s.mem := by unfold State.takeIdent; simp

@[simp ↓] theorem State.settle_mem (s : State) (ident : Nat) (code : Nat) : (State.settle s ident code).mem = s.mem := by unfold State.settle; simp

@[simp ↓] theorem State.recordOutcome_mem (s : State) (ident : Nat) (code : Nat) (detail : Nat) (applied : Option Nat) : (State.recordOutcome s ident code detail applied).mem = s.mem := by unfold State.recordOutcome; simp

@[simp ↓] theorem State.closeGroup_mem (s : State) : (State.closeGroup s).mem = s.mem := by unfold State.closeGroup; simp

@[simp ↓] theorem State.abortGroup_mem (s : State) (code : Nat) (faultCode : Nat) (detail : Nat) : (State.abortGroup s code faultCode detail).mem = s.mem := by
  unfold State.abortGroup
  repeat' first | (simp; done) | split | simp

@[simp ↓] theorem State.abortImplicit_mem (s : State) (code : Nat) (faultCode : Nat) (detail : Nat) : (State.abortImplicit s code faultCode detail).mem = s.mem := by
  unfold State.abortImplicit
  repeat' first | (simp; done) | split | simp

@[simp ↓] theorem State.abortForMigration_mem (s : State) (region : Nat) : (State.abortForMigration s region).mem = s.mem := by
  unfold State.abortForMigration
  repeat' first | (simp; done) | split | simp

@[simp ↓] theorem State.dropLaunch_mem (s : State) : (State.dropLaunch s).mem = s.mem := by unfold State.dropLaunch; simp

@[simp ↓] theorem State.dropComing_mem (s : State) : (State.dropComing s).mem = s.mem := by
  unfold State.dropComing
  repeat' first | (simp; done) | split | simp

@[simp ↓] theorem State.exhaust_mem (s : State) (why : Nat) (last : Nat) : (State.exhaust s why last).mem = s.mem := by unfold State.exhaust; simp

@[simp ↓] theorem State.enterReduced_mem (s : State) (r : Fin 10) : (State.enterReduced s r).mem = s.mem := by unfold State.enterReduced; simp

@[simp ↓] theorem State.loseWork_mem (s : State) (r : Fin 10) : (State.loseWork s r).mem = s.mem := by unfold State.loseWork; simp

@[simp ↓] theorem State.beginMigration_mem (s : State) (r : Fin 10) (canRun : Bool) : (State.beginMigration s r canRun).mem = s.mem := by
  unfold State.beginMigration
  repeat' first | (simp; done) | split | simp

@[simp ↓] theorem State.placeMigration_mem (s : State) (r : Fin 10) (canRun : Bool) : (State.placeMigration s r canRun).mem = s.mem := by unfold State.placeMigration; simp

@[simp ↓] theorem State.decideMigration_mem (s : State) (r : Fin 10) (canRun : Bool) : (State.decideMigration s r canRun).mem = s.mem := by unfold State.decideMigration; simp

@[simp ↓] theorem State.nextMigration_mem (s : State) : (State.nextMigration s).mem = s.mem := by
  unfold State.nextMigration
  repeat' first
    | (simp; done)
    | split
    | (intro _)
    | (with_reducible refine (State.foldl_mem (fun _ _ => ?_) _ _).trans ?_)
    | (with_reducible refine (State.foldl_snd_mem (fun _ _ => ?_) _ _).trans ?_)
    | (with_reducible refine (State.foldl_fst_mem (fun _ _ => ?_) _ _).trans ?_)
    | (dsimp only)
    | simp
    | (with_reducible refine State.of_snd (f := State.mem) (by assumption) ?_)
    | (with_reducible refine State.of_fst (f := State.mem) (by assumption) ?_)

@[simp ↓] theorem State.endMigration_mem (s : State) (why : Nat) : (State.endMigration s why).mem = s.mem := by
  unfold State.endMigration
  repeat' first | (simp; done) | split | simp

@[simp ↓] theorem State.failWorking_mem (s : State) (r : Fin 10) (canRun : Bool) : (State.failWorking s r canRun).mem = s.mem := by unfold State.failWorking; simp

@[simp ↓] theorem State.failRegion_mem (s : State) (r : Fin 10) (canRun : Bool) : (State.failRegion s r canRun).mem = s.mem := by
  unfold State.failRegion
  repeat' first | (simp; done) | split | simp

@[simp ↓] theorem State.poisonRow_mem (s : State) (loc : BitVec 32) : (State.poisonRow s loc).mem = s.mem := by unfold State.poisonRow; simp

@[simp ↓] theorem State.clearErrors_mem (s : State) (loc : BitVec 32) : (State.clearErrors s loc).mem = s.mem := by unfold State.clearErrors; simp

@[simp ↓] theorem State.queueMapOut_mem (s : State) (loc : BitVec 32) (cause : Nat) : (State.queueMapOut s loc cause).mem = s.mem := by unfold State.queueMapOut; simp

@[simp ↓] theorem State.eccCorrected_mem (s : State) (p : MemRef) (lane : Nat) (syndrome : Nat) : (State.eccCorrected s p lane syndrome).mem = s.mem := by unfold State.eccCorrected; simp

@[simp ↓] theorem State.eccUncorrectable_mem (s : State) (k : BadLane) (seq : Nat) (cls : Nat) : (State.eccUncorrectable s k seq cls).mem = s.mem := by unfold State.eccUncorrectable; simp

/-! ## Tensors -/

@[simp ↓] theorem State.freeScale_mem (s : State) (p : Nat) : (State.freeScale s p).2.mem = s.mem := by unfold State.freeScale; simp

@[simp ↓] theorem State.scaleFor_mem (s : State) (r : Fin 10) (fmt : Nat) (slot : Option Nat) : (State.scaleFor s r fmt slot).2.mem = s.mem := by
  unfold State.scaleFor
  repeat' first | (simp; done) | split | simp

@[simp ↓] theorem State.outerFor_mem (s : State) (r : Fin 10) (fmt : Nat) (slot : Option Nat) : (State.outerFor s r fmt slot).2.mem = s.mem := by
  unfold State.outerFor
  repeat' first | (simp; done) | split | simp

/-! ## Execute -/

@[simp ↓] theorem State.accumulate_mem (s : State) (r : Fin 10) (b : Fin 18) (m : AccMode) (d : ExecDesc) (limit : Nat) : (State.accumulate s r b m d limit).1.mem = s.mem := by
  unfold State.accumulate
  repeat' first
    | (simp; done)
    | split
    | (intro _)
    | (with_reducible refine (State.foldl_mem (fun _ _ => ?_) _ _).trans ?_)
    | (with_reducible refine (State.foldl_snd_mem (fun _ _ => ?_) _ _).trans ?_)
    | (with_reducible refine (State.foldl_fst_mem (fun _ _ => ?_) _ _).trans ?_)
    | (dsimp only)
    | simp
    | (with_reducible refine State.of_snd (f := State.mem) (by assumption) ?_)
    | (with_reducible refine State.of_fst (f := State.mem) (by assumption) ?_)

@[simp ↓] theorem State.freeLanes_mem (s : State) (r : Fin 10) (b : Fin 18) (set : Nat) (lanes : List Nat) : (State.freeLanes s r b set lanes).mem = s.mem := by
  unfold State.freeLanes
  repeat' first
    | (simp; done)
    | split
    | (intro _)
    | (with_reducible refine (State.foldl_mem (fun _ _ => ?_) _ _).trans ?_)
    | (with_reducible refine (State.foldl_snd_mem (fun _ _ => ?_) _ _).trans ?_)
    | (with_reducible refine (State.foldl_fst_mem (fun _ _ => ?_) _ _).trans ?_)
    | (dsimp only)
    | simp
    | (with_reducible refine State.of_snd (f := State.mem) (by assumption) ?_)
    | (with_reducible refine State.of_fst (f := State.mem) (by assumption) ?_)

@[simp ↓] theorem State.recordSkew_mem (s : State) (loc : Loc) (h : BitVec 128) (operand : Nat) (k : Skew) : (State.recordSkew s loc h operand k).mem = s.mem := by unfold State.recordSkew; simp

@[simp ↓] theorem State.countExecute_mem (s : State) (r : Fin 10) (b : Fin 18) (d : ExecDesc) (worked : Bool) : (State.countExecute s r b d worked).mem = s.mem := by
  unfold State.countExecute
  repeat' first
    | (simp; done)
    | split
    | (intro _)
    | (with_reducible refine (State.foldl_mem (fun _ _ => ?_) _ _).trans ?_)
    | (with_reducible refine (State.foldl_snd_mem (fun _ _ => ?_) _ _).trans ?_)
    | (with_reducible refine (State.foldl_fst_mem (fun _ _ => ?_) _ _).trans ?_)
    | (dsimp only)
    | simp
    | (with_reducible refine State.of_snd (f := State.mem) (by assumption) ?_)
    | (with_reducible refine State.of_fst (f := State.mem) (by assumption) ?_)

/-! ## Quant -/

@[simp ↓] theorem State.inputSkew_mem (s : State) (r : Fin 10) (h : BitVec 128) (fmt : Nat) (rows : List OpRow) : (State.inputSkew s r h fmt rows).2.mem = s.mem := by
  unfold State.inputSkew
  repeat' first | (simp; done) | split | simp

@[simp ↓] theorem State.setSlot_mem (s : State) (r : Fin 10) (n : Nat) (x : Slot) : (State.setSlot s r n x).mem = s.mem := by unfold State.setSlot; simp

/-! ## Selvedge -/

@[simp ↓] theorem State.sendOut_mem (s : State) (r : Fin 10) (b : Fin 18) : (State.sendOut s r b).mem = s.mem := by
  unfold State.sendOut
  repeat' first
    | (simp; done)
    | split
    | (intro _)
    | (with_reducible refine (State.foldl_mem (fun _ _ => ?_) _ _).trans ?_)
    | (with_reducible refine (State.foldl_snd_mem (fun _ _ => ?_) _ _).trans ?_)
    | (with_reducible refine (State.foldl_fst_mem (fun _ _ => ?_) _ _).trans ?_)
    | (dsimp only)
    | simp
    | (with_reducible refine State.of_snd (f := State.mem) (by assumption) ?_)
    | (with_reducible refine State.of_fst (f := State.mem) (by assumption) ?_)

@[simp ↓] theorem State.returnRoom_mem (s : State) (stream : Nat) (r : Fin 10) (b : Fin 18) (side : Nat) (n : Nat) : (State.returnRoom s stream r b side n).mem = s.mem := by
  unfold State.returnRoom
  repeat' first | (simp; done) | split | simp

@[simp ↓] theorem State.queueSends_mem (s : State) (r : Fin 10) (b : Fin 18) (op : Nat) (d : WinDesc) (own : List Pix) : (State.queueSends s r b op d own).mem = s.mem := by unfold State.queueSends; simp

@[simp ↓] theorem State.dropCrossing_mem (s : State) (r : Fin 10) (b : Fin 18) (d : WinDesc) (side : Nat) : (State.dropCrossing s r b d side).mem = s.mem := by
  unfold State.dropCrossing
  repeat' first
    | (simp; done)
    | split
    | (intro _)
    | (with_reducible refine (State.foldl_mem (fun _ _ => ?_) _ _).trans ?_)
    | (with_reducible refine (State.foldl_snd_mem (fun _ _ => ?_) _ _).trans ?_)
    | (with_reducible refine (State.foldl_fst_mem (fun _ _ => ?_) _ _).trans ?_)
    | (dsimp only)
    | simp
    | (with_reducible refine State.of_snd (f := State.mem) (by assumption) ?_)
    | (with_reducible refine State.of_fst (f := State.mem) (by assumption) ?_)

@[simp ↓] theorem State.collect_mem (s : State) (r : Fin 10) (b : Fin 18) (op : Nat) (d : WinDesc) : (State.collect s r b op d).2.2.mem = s.mem := by
  unfold State.collect
  repeat' first | (simp; done) | split | simp

@[simp ↓] theorem State.discardCoil_mem (s : State) (r : Fin 10) (b : Fin 18) (op : Nat) (d : WinDesc) : (State.discardCoil s r b op d).mem = s.mem := by unfold State.discardCoil; simp

@[simp ↓] theorem State.observeLead_mem (s : State) (r : Fin 10) (b : Fin 18) (stream : Nat) (n : Nat) : (State.observeLead s r b stream n).mem = s.mem := by
  unfold State.observeLead
  repeat' first | (simp; done) | split | simp

@[simp ↓] theorem State.countMarkers_mem (s : State) (d : WinDesc) : (State.countMarkers s d).mem = s.mem := by unfold State.countMarkers; simp

@[simp ↓] theorem State.keepAcc_mem (s : State) (r : Fin 10) (b : Fin 18) (d : WinDesc) (vs : List (BitVec 32)) : (State.keepAcc s r b d vs).mem = s.mem := by unfold State.keepAcc; simp

@[simp ↓] theorem State.convReadOut_mem (s : State) (r : Fin 10) (b : Fin 18) (d : WinDesc) : (State.convReadOut s r b d).mem = s.mem := by unfold State.convReadOut; simp

@[simp ↓] theorem State.waitWindow_mem (s : State) (r : Fin 10) (b : Fin 18) (entry : Bool) (side : Fin 2) (line : Nat) (op : Nat) (d : WinDesc) (status : Option Nat) : (State.waitWindow s r b entry side line op d status).mem = s.mem := by unfold State.waitWindow; simp

/-! ## Detection -/

@[simp ↓] theorem State.bufferBatch_mem (s : State) (n : Nat) (cls : Nat) (b : Batch) : (State.bufferBatch s n cls b).mem = s.mem := by unfold State.bufferBatch; simp

@[simp ↓] theorem State.nmsFaults_mem (s : State) (r : Fin 10) (d : ZooDesc) (total : Nat) (dropped : Nat) (full : Nat) : (State.nmsFaults s r d total dropped full).mem = s.mem := by unfold State.nmsFaults; simp

/-! ## Attention -/

@[simp ↓] theorem State.modPages_mem (s : State) (p : Fin 4) (f : List Page → List Page) : (State.modPages s p f).mem = s.mem := by unfold State.modPages; simp

@[simp ↓] theorem State.modSeq_mem (s : State) (n : Nat) (f : KvSeq → KvSeq) : (State.modSeq s n f).mem = s.mem := by
  unfold State.modSeq
  repeat' first | (simp; done) | split | simp

@[simp ↓] theorem State.dropPage_mem (s : State) (p : Fin 4) (x : Page) : (State.dropPage s p x).mem = s.mem := by unfold State.dropPage; simp

@[simp ↓] theorem State.stall_mem (s : State) (n : Nat) : (State.stall s n).mem = s.mem := by unfold State.stall; simp

theorem State.allocFrame_mem {s t : State} {p : Fin 4} {resident : Bool} {held : Page → Bool} {f : Nat} (e : s.allocFrame p resident held = some (f, t)) : t.mem = s.mem := by
  unfold State.allocFrame at e
  split at e
  · cases e; rfl
  · split at e
    · cases e
    · split at e
      · cases e
      · obtain ⟨p, -, h⟩ := Option.map_eq_some_iff.mp e; cases h; simp

theorem State.ensurePage_mem {s t : State} {p : Fin 4} {n layer pos : Nat} {resident : Bool} (e : s.ensurePage p n layer pos resident = some t) : t.mem = s.mem := by
  unfold State.ensurePage at e
  split at e
  · cases e; rfl
  · split at e
    · cases e
    · split at e
      · cases e
      · rename_i h; cases e; simp [State.allocFrame_mem h]

theorem State.foldl_bind_mem {α : Type} {f : State → α → Option State} (h : ∀ a x b, f a x = some b → b.mem = a.mem) (l : List α) (s t : State) (e : l.foldl (fun acc x => acc.bind fun a => f a x) (some s) = some t) : t.mem = s.mem := by
  induction l generalizing s with
  | nil => cases e; rfl
  | cons x l ih =>
    rw [List.foldl_cons, Option.bind_some] at e
    cases g : f s x with
    | none =>
      rw [g] at e
      have : ∀ l : List α, l.foldl (fun acc x => acc.bind fun a => f a x) none = none := by
        intro l; induction l with
        | nil => rfl
        | cons y l ih => simpa using ih
      rw [this] at e; cases e
    | some a => rw [g] at e; rw [ih a e, h s x a g]

theorem State.ensureAll_mem {s t : State} {p : Fin 4} {n layers from_ count : Nat} {resident : Bool} (e : s.ensureAll p n layers from_ count resident = some t) : t.mem = s.mem := by
  unfold State.ensureAll at e
  exact State.foldl_bind_mem (fun a x b h => State.ensurePage_mem h) _ _ _ e

@[simp ↓] theorem State.recompute_mem (s : State) (n : Nat) (q : KvSeq) (held : Page → Bool) (x : Page) : (State.recompute s n q held x).2.mem = s.mem := by
  unfold State.recompute
  repeat' first
    | (simp; done)
    | split
    | (intro _)
    | (with_reducible refine (State.foldl_mem (fun _ _ => ?_) _ _).trans ?_)
    | (with_reducible refine (State.foldl_snd_mem (fun _ _ => ?_) _ _).trans ?_)
    | (with_reducible refine (State.foldl_fst_mem (fun _ _ => ?_) _ _).trans ?_)
    | (dsimp only)
    | simp
    | (rw [State.allocFrame_mem (by assumption)])
    | (rw [State.ensurePage_mem (by assumption)])
    | (rw [State.ensureAll_mem (by assumption)])
    | (with_reducible refine State.of_snd (f := State.mem) (by assumption) ?_)
    | (with_reducible refine State.of_fst (f := State.mem) (by assumption) ?_)

@[simp ↓] theorem State.recomputeAll_mem (s : State) (n : Nat) (q : KvSeq) (held : Page → Bool) (xs : List Page) : (State.recomputeAll s n q held xs).2.mem = s.mem := by
  unfold State.recomputeAll
  repeat' first
    | (simp; done)
    | split
    | (intro _)
    | (with_reducible refine (State.foldl_mem (fun _ _ => ?_) _ _).trans ?_)
    | (with_reducible refine (State.foldl_snd_mem (fun _ _ => ?_) _ _).trans ?_)
    | (with_reducible refine (State.foldl_fst_mem (fun _ _ => ?_) _ _).trans ?_)
    | (dsimp only)
    | simp
    | (rw [State.allocFrame_mem (by assumption)])
    | (rw [State.ensurePage_mem (by assumption)])
    | (rw [State.ensureAll_mem (by assumption)])
    | (with_reducible refine State.of_snd (f := State.mem) (by assumption) ?_)
    | (with_reducible refine State.of_fst (f := State.mem) (by assumption) ?_)

@[simp ↓] theorem State.declareLate_mem (s : State) (r : Fin 10) (h : BitVec 128) (need : Nat) (allowance : Nat) : (State.declareLate s r h need allowance).2.mem = s.mem := by
  unfold State.declareLate
  repeat' first | (simp; done) | split | simp

@[simp ↓] theorem State.sendRing_mem (s : State) (ring : Nat) (step : Nat) (index : Nat) (data : Bytes) : (State.sendRing s ring step index data).mem = s.mem := by unfold State.sendRing; simp

@[simp ↓] theorem State.sendShard_mem (s : State) (r : Fin 10) (d : ZooDesc) : (State.sendShard s r d).mem = s.mem := by
  unfold State.sendShard
  repeat' first | (simp; done) | split | simp

@[simp ↓] theorem State.sendOwnPart_mem (s : State) (r : Fin 10) (end_ : MemRef) : (State.sendOwnPart s r end_).mem = s.mem := by
  unfold State.sendOwnPart
  repeat' first | (simp; done) | split | simp

/-! ## Camera -/

@[simp ↓] theorem State.cameraDown_mem (s : State) (n : Fin 24) (why : Nat) : (State.cameraDown s n why).mem = s.mem := by unfold State.cameraDown; simp

@[simp ↓] theorem State.discover_mem (s : State) (n : Fin 24) (d : Discovery) : (State.discover s n d).mem = s.mem := by
  unfold State.discover
  repeat' first | (simp; done) | split | simp

@[simp ↓] theorem State.launchStreams_mem (s : State) : (State.launchStreams s).mem = s.mem := by
  unfold State.launchStreams
  repeat' first
    | (simp; done)
    | split
    | (intro _)
    | (with_reducible refine (State.foldl_mem (fun _ _ => ?_) _ _).trans ?_)
    | (with_reducible refine (State.foldl_snd_mem (fun _ _ => ?_) _ _).trans ?_)
    | (with_reducible refine (State.foldl_fst_mem (fun _ _ => ?_) _ _).trans ?_)
    | (dsimp only)
    | simp
    | (rw [State.allocFrame_mem (by assumption)])
    | (rw [State.ensurePage_mem (by assumption)])
    | (rw [State.ensureAll_mem (by assumption)])
    | (with_reducible refine State.of_snd (f := State.mem) (by assumption) ?_)
    | (with_reducible refine State.of_fst (f := State.mem) (by assumption) ?_)

@[simp ↓] theorem State.tagStream_mem (s : State) (keys : List Key) (count : Nat) (n : Fin 24) : (State.tagStream s keys count n).mem = s.mem := by
  unfold State.tagStream
  repeat' first
    | (simp; done)
    | split
    | (intro _)
    | (with_reducible refine (State.foldl_mem (fun _ _ => ?_) _ _).trans ?_)
    | (with_reducible refine (State.foldl_snd_mem (fun _ _ => ?_) _ _).trans ?_)
    | (with_reducible refine (State.foldl_fst_mem (fun _ _ => ?_) _ _).trans ?_)
    | (dsimp only)
    | simp
    | (rw [State.allocFrame_mem (by assumption)])
    | (rw [State.ensurePage_mem (by assumption)])
    | (rw [State.ensureAll_mem (by assumption)])
    | (with_reducible refine State.of_snd (f := State.mem) (by assumption) ?_)
    | (with_reducible refine State.of_fst (f := State.mem) (by assumption) ?_)

@[simp ↓] theorem State.tagStreams_mem (s : State) (keys : List Key) (count : Nat) : (State.tagStreams s keys count).mem = s.mem := by
  unfold State.tagStreams
  repeat' first
    | (simp; done)
    | split
    | (intro _)
    | (with_reducible refine (State.foldl_mem (fun _ _ => ?_) _ _).trans ?_)
    | (with_reducible refine (State.foldl_snd_mem (fun _ _ => ?_) _ _).trans ?_)
    | (with_reducible refine (State.foldl_fst_mem (fun _ _ => ?_) _ _).trans ?_)
    | (dsimp only)
    | simp
    | (rw [State.allocFrame_mem (by assumption)])
    | (rw [State.ensurePage_mem (by assumption)])
    | (rw [State.ensureAll_mem (by assumption)])
    | (with_reducible refine State.of_snd (f := State.mem) (by assumption) ?_)
    | (with_reducible refine State.of_fst (f := State.mem) (by assumption) ?_)

@[simp ↓] theorem State.unconfirmTag_mem (s : State) (n : Fin 24) (tag : Nat) : (State.unconfirmTag s n tag).mem = s.mem := by unfold State.unconfirmTag; simp

@[simp ↓] theorem State.settingsTimeout_mem (s : State) (n : Fin 24) (entry : Nat) : (State.settingsTimeout s n entry).mem = s.mem := by
  unfold State.settingsTimeout
  repeat' first | (simp; done) | split | simp

@[simp ↓] theorem State.moveChannels_mem (s : State) (m : StripeMove) : (State.moveChannels s m).mem = s.mem := by unfold State.moveChannels; simp

@[simp ↓] theorem State.applyMoves_mem (s : State) (n : Fin 24) : (State.applyMoves s n).mem = s.mem := by
  unfold State.applyMoves
  repeat' first
    | (simp; done)
    | split
    | (intro _)
    | (with_reducible refine (State.foldl_mem (fun _ _ => ?_) _ _).trans ?_)
    | (with_reducible refine (State.foldl_snd_mem (fun _ _ => ?_) _ _).trans ?_)
    | (with_reducible refine (State.foldl_fst_mem (fun _ _ => ?_) _ _).trans ?_)
    | (dsimp only)
    | simp
    | (rw [State.allocFrame_mem (by assumption)])
    | (rw [State.ensurePage_mem (by assumption)])
    | (rw [State.ensureAll_mem (by assumption)])
    | (with_reducible refine State.of_snd (f := State.mem) (by assumption) ?_)
    | (with_reducible refine State.of_fst (f := State.mem) (by assumption) ?_)

@[simp ↓] theorem State.closeTile_mem (s : State) (n : Fin 24) (tile : Nat) (closeCount : Nat) (lines : Nat) (incomplete : Bool) (pixels : Nat) : (State.closeTile s n tile closeCount lines incomplete pixels).mem = s.mem := by unfold State.closeTile; simp

@[simp ↓] theorem State.beginCut_mem (s : State) (n : Fin 24) (cause : Nat) (trigger : Nat) (tileLine : Nat) (lines : Nat) : (State.beginCut s n cause trigger tileLine lines).mem = s.mem := by unfold State.beginCut; simp

@[simp ↓] theorem State.openTile_mem (s : State) (n : Fin 24) (number : Nat) : (State.openTile s n number).mem = s.mem := by unfold State.openTile; simp

@[simp ↓] theorem State.freeLine_mem (s : State) (i : Isp) (y : Nat) : (State.freeLine s i y).2.mem = s.mem := by unfold State.freeLine; simp

@[simp ↓] theorem State.openFrame_mem (s : State) (n : Fin 24) (i : Isp) (trigger : Nat × Nat) (intact : Bool) : (State.openFrame s n i trigger intact).mem = s.mem := by unfold State.openFrame; simp

@[simp ↓] theorem State.extraLine_mem (s : State) (n : Fin 24) : (State.extraLine s n).mem = s.mem := by unfold State.extraLine; simp

@[simp ↓] theorem State.countLineError_mem (s : State) (n : Fin 24) (trigger : Nat) (error : Nat) : (State.countLineError s n trigger error).mem = s.mem := by unfold State.countLineError; simp

@[simp ↓] theorem State.missed_mem (s : State) (n : Fin 24) (nominal : Nat) : (State.missed s n nominal).mem = s.mem := by unfold State.missed; simp

@[simp ↓] theorem State.issueTrigger_mem (s : State) (n : Fin 24) (count : Nat) : (State.issueTrigger s n count).mem = s.mem := by unfold State.issueTrigger; simp

@[simp ↓] theorem State.cameraRegister_mem (s : State) (request : Bytes) (error : Nat) (answer : Bytes) : (State.cameraRegister s request error answer).mem = s.mem := by unfold State.cameraRegister; simp

/-! ## Can -/

@[simp ↓] theorem State.setCounters_mem (s : State) (c : Fin 4) (tec : Nat) (rec_ : Nat) : (State.setCounters s c tec rec_).mem = s.mem := by unfold State.setCounters; simp

@[simp ↓] theorem State.putTx_mem (s : State) (c : Fin 4) (i : Nat) (ident : Nat) (data : Bytes) : (State.putTx s c i ident data).mem = s.mem := by unfold State.putTx; simp

@[simp ↓] theorem State.failTx_mem (s : State) (c : Fin 4) : (State.failTx s c).mem = s.mem := by
  unfold State.failTx
  repeat' first | (simp; done) | split | simp

@[simp ↓] theorem State.measureLoop_mem (s : State) (c : Fin 4) (b : TxBuf) (delay : Nat) : (State.measureLoop s c b delay).mem = s.mem := by unfold State.measureLoop; simp

@[simp ↓] theorem State.sentTx_mem (s : State) (c : Fin 4) (b : TxBuf) : (State.sentTx s c b).mem = s.mem := by unfold State.sentTx; simp

@[simp ↓] theorem State.releaseFrame_mem (s : State) (c : Fin 4) (ident : Nat) (data : Bytes) (beat : Nat) : (State.releaseFrame s c ident data beat).mem = s.mem := by
  unfold State.releaseFrame
  repeat' first | (simp; done) | split | simp

@[simp ↓] theorem State.goodReceive_mem (s : State) (c : Fin 4) : (State.goodReceive s c).mem = s.mem := by unfold State.goodReceive; simp

@[simp ↓] theorem State.receiveFrame_mem (s : State) (c : Fin 4) (f : CanFrame) : (State.receiveFrame s c f).mem = s.mem := by unfold State.receiveFrame; simp

@[simp ↓] theorem State.takeFrame_mem (s : State) (c : Fin 4) (ident : Nat) : (State.takeFrame s c ident).mem = s.mem := by unfold State.takeFrame; simp

@[simp ↓] theorem State.setLevel_mem (s : State) (c : Fin 2) (level : Nat) (cause : Nat) : (State.setLevel s c level cause).mem = s.mem := by unfold State.setLevel; simp

@[simp ↓] theorem State.clearLevel_mem (s : State) (c : Fin 2) : (State.clearLevel s c).mem = s.mem := by unfold State.clearLevel; simp

@[simp ↓] theorem State.ttError_mem (s : State) (c : Fin 2) (cause : Nat) : (State.ttError s c cause).mem = s.mem := by unfold State.ttError; simp

@[simp ↓] theorem State.enterS3_mem (s : State) (c : Fin 2) (cause : Nat) : (State.enterS3 s c cause).mem = s.mem := by unfold State.enterS3; simp

@[simp ↓] theorem State.busOff_mem (s : State) (c : Fin 4) (kind : Nat) (rec_ : Nat) : (State.busOff s c kind rec_).mem = s.mem := by unfold State.busOff; simp

@[simp ↓] theorem State.busError_mem (s : State) (c : Fin 4) (kind : Nat) (receiving : Bool) (tec : Nat) (rec_ : Nat) : (State.busError s c kind receiving tec rec_).mem = s.mem := by unfold State.busError; simp

@[simp ↓] theorem State.completeTx_mem (s : State) (c : Fin 4) (delay : Nat) : (State.completeTx s c delay).mem = s.mem := by
  unfold State.completeTx
  repeat' first | (simp; done) | split | simp

@[simp ↓] theorem State.recover_mem (s : State) (c : Fin 4) : (State.recover s c).mem = s.mem := by unfold State.recover; simp

@[simp ↓] theorem State.recovered_mem (s : State) (c : Fin 4) : (State.recovered s c).mem = s.mem := by unfold State.recovered; simp

@[simp ↓] theorem State.sendReference_mem (s : State) (c : Fin 2) (disc : Bool) : (State.sendReference s c disc).mem = s.mem := by unfold State.sendReference; simp

@[simp ↓] theorem State.judgeReference_mem (s : State) (c : Fin 2) : (State.judgeReference s c).mem = s.mem := by unfold State.judgeReference; simp

@[simp ↓] theorem State.judgeClean_mem (s : State) (c : Fin 2) : (State.judgeClean s c).mem = s.mem := by unfold State.judgeClean; simp

@[simp ↓] theorem State.cycleStart_mem (s : State) (c : Fin 2) (matrixOk : Bool) : (State.cycleStart s c matrixOk).mem = s.mem := by unfold State.cycleStart; simp

@[simp ↓] theorem State.setMaster_mem (s : State) (c : Fin 2) (master : Nat) (priority : Nat) : (State.setMaster s c master priority).mem = s.mem := by unfold State.setMaster; simp

@[simp ↓] theorem State.receiveReference_mem (s : State) (c : Fin 2) (m : RefMsg) : (State.receiveReference s c m).mem = s.mem := by unfold State.receiveReference; simp

@[simp ↓] theorem State.takeOver_mem (s : State) (c : Fin 2) : (State.takeOver s c).mem = s.mem := by unfold State.takeOver; simp

@[simp ↓] theorem State.exclusive_mem (s : State) (c : Fin 2) (entry : Fin 128) (inWindow : Bool) : (State.exclusive s c entry inWindow).mem = s.mem := by
  unfold State.exclusive
  repeat' first | (simp; done) | split | simp

@[simp ↓] theorem State.arbitrating_mem (s : State) (c : Fin 2) (entry : Fin 128) (types : List Nat) (merged : Bool) (fits : Bool) : (State.arbitrating s c entry types merged fits).mem = s.mem := by
  unfold State.arbitrating
  repeat' first | (simp; done) | split | simp

@[simp ↓] theorem State.endTtWindow_mem (s : State) (c : Fin 2) (entry : Fin 128) : (State.endTtWindow s c entry).mem = s.mem := by
  unfold State.endTtWindow
  repeat' first | (simp; done) | split | simp

@[simp ↓] theorem State.checkReceive_mem (s : State) (c : Fin 2) (entry : Fin 128) : (State.checkReceive s c entry).mem = s.mem := by
  unfold State.checkReceive
  repeat' first | (simp; done) | split | simp

@[simp ↓] theorem State.watch_mem (s : State) (c : Fin 2) (entry : Fin 128) : (State.watch s c entry).mem = s.mem := by
  unfold State.watch
  repeat' first | (simp; done) | split | simp

@[simp ↓] theorem State.ttSetup_mem (s : State) (c : Fin 2) : (State.ttSetup s c).mem = s.mem := by unfold State.ttSetup; simp

/-! ## Motion -/

@[simp ↓] theorem State.clampCommand_mem (s : State) (k : Fin 16) (leg : Nat) (kind : Nat) : (State.clampCommand s k leg kind).mem = s.mem := by unfold State.clampCommand; simp

@[simp ↓] theorem State.countLeg_mem (s : State) (k : Fin 16) (leg : Nat) (slewed : Bool) (ranged : Bool) : (State.countLeg s k leg slewed ranged).mem = s.mem := by unfold State.countLeg; simp

@[simp ↓] theorem State.takeCarrier_mem (s : State) (k : Fin 16) : (State.takeCarrier s k).mem = s.mem := by unfold State.takeCarrier; simp

@[simp ↓] theorem State.applyRecord_mem (s : State) (k : Fin 16) (c : CmdRecord) (beats : Nat) : (State.applyRecord s k c beats).mem = s.mem := by unfold State.applyRecord; simp

@[simp ↓] theorem State.applyDue_mem (s : State) (k : Fin 16) : (State.applyDue s k).mem = s.mem := by
  unfold State.applyDue
  repeat' first | (simp; done) | split | simp

@[simp ↓] theorem State.carrierUpdate_mem (s : State) (k : Fin 16) : (State.carrierUpdate s k).mem = s.mem := by
  unfold State.carrierUpdate
  repeat' first | (simp; done) | split | simp

@[simp ↓] theorem State.driveOutput_mem (s : State) (k : Fin 32) (level : Bool) : (State.driveOutput s k level).mem = s.mem := by unfold State.driveOutput; simp

@[simp ↓] theorem State.frameOutputs_mem (s : State) (f : Frame) : (State.frameOutputs s f).mem = s.mem := by
  unfold State.frameOutputs
  repeat' first
    | (simp; done)
    | split
    | (intro _)
    | (with_reducible refine (State.foldl_mem (fun _ _ => ?_) _ _).trans ?_)
    | (with_reducible refine (State.foldl_snd_mem (fun _ _ => ?_) _ _).trans ?_)
    | (with_reducible refine (State.foldl_fst_mem (fun _ _ => ?_) _ _).trans ?_)
    | (dsimp only)
    | simp
    | (rw [State.allocFrame_mem (by assumption)])
    | (rw [State.ensurePage_mem (by assumption)])
    | (rw [State.ensureAll_mem (by assumption)])
    | (with_reducible refine State.of_snd (f := State.mem) (by assumption) ?_)
    | (with_reducible refine State.of_fst (f := State.mem) (by assumption) ?_)

@[simp ↓] theorem State.acceptFrame_mem (s : State) (f : Frame) (beat : Nat) (count : Nat) : (State.acceptFrame s f beat count).mem = s.mem := by
  unfold State.acceptFrame
  repeat' first
    | (simp; done)
    | split
    | (intro _)
    | (with_reducible refine (State.foldl_mem (fun _ _ => ?_) _ _).trans ?_)
    | (with_reducible refine (State.foldl_snd_mem (fun _ _ => ?_) _ _).trans ?_)
    | (with_reducible refine (State.foldl_fst_mem (fun _ _ => ?_) _ _).trans ?_)
    | (dsimp only)
    | simp
    | (rw [State.allocFrame_mem (by assumption)])
    | (rw [State.ensurePage_mem (by assumption)])
    | (rw [State.ensureAll_mem (by assumption)])
    | (with_reducible refine State.of_snd (f := State.mem) (by assumption) ?_)
    | (with_reducible refine State.of_fst (f := State.mem) (by assumption) ?_)

@[simp ↓] theorem State.countMissing_mem (s : State) (beat : Nat) (got : List (Fin 16)) : (State.countMissing s beat got).mem = s.mem := by
  unfold State.countMissing
  repeat' first
    | (simp; done)
    | split
    | (intro _)
    | (with_reducible refine (State.foldl_mem (fun _ _ => ?_) _ _).trans ?_)
    | (with_reducible refine (State.foldl_snd_mem (fun _ _ => ?_) _ _).trans ?_)
    | (with_reducible refine (State.foldl_fst_mem (fun _ _ => ?_) _ _).trans ?_)
    | (dsimp only)
    | simp
    | (rw [State.allocFrame_mem (by assumption)])
    | (rw [State.ensurePage_mem (by assumption)])
    | (rw [State.ensureAll_mem (by assumption)])
    | (with_reducible refine State.of_snd (f := State.mem) (by assumption) ?_)
    | (with_reducible refine State.of_fst (f := State.mem) (by assumption) ?_)

@[simp ↓] theorem State.encoderError_mem (s : State) (k : Fin 16) (mode : Nat) (cause : Nat) : (State.encoderError s k mode cause).mem = s.mem := by unfold State.encoderError; simp

@[simp ↓] theorem State.followSource_mem (s : State) (src : Nat) : (State.followSource s src).mem = s.mem := by unfold State.followSource; simp

@[simp ↓] theorem State.sourceEvent_mem (s : State) (src : Fin 24) (at_count : Nat) : (State.sourceEvent s src at_count).mem = s.mem := by unfold State.sourceEvent; simp

@[simp ↓] theorem State.encoderSource_mem (s : State) (k : Fin 16) (before : Int) : (State.encoderSource s k before).mem = s.mem := by
  unfold State.encoderSource
  exact (State.foldl_mem (fun _ _ => by simp) _ _).trans (by simp)

@[simp ↓] theorem State.sampleAxis_mem (s : State) (x : AxisSample) : (State.sampleAxis s x).mem = s.mem := by
  unfold State.sampleAxis
  repeat' first | (simp; done) | split | simp

@[simp ↓] theorem State.ssiLatch_mem (s : State) (k : Fin 16) (frame : BitVec 40) (dataLow : Bool) (complete : Bool) : (State.ssiLatch s k frame dataLow complete).mem = s.mem := by unfold State.ssiLatch; simp

@[simp ↓] theorem State.capture_mem (s : State) (k : Fin 16) (index : Bool) (position : Int) : (State.capture s k index position).mem = s.mem := by unfold State.capture; simp

@[simp ↓] theorem State.channelStuck_mem (s : State) (k : Fin 16) (leg : Fin 3) : (State.channelStuck s k leg).mem = s.mem := by unfold State.channelStuck; simp

@[simp ↓] theorem State.overCurrent_mem (s : State) (k : Fin 16) (value : Int) : (State.overCurrent s k value).mem = s.mem := by unfold State.overCurrent; simp

@[simp ↓] theorem State.adcStart_mem (s : State) (ch : Fin 32) : (State.adcStart s ch).mem = s.mem := by unfold State.adcStart; simp

@[simp ↓] theorem State.adcDone_mem (s : State) (ch : Fin 32) (value : Int) : (State.adcDone s ch value).mem = s.mem := by
  unfold State.adcDone
  repeat' first | (simp; done) | split | simp

@[simp ↓] theorem State.acceptEdge_mem (s : State) (k : Fin 32) (raw : Bool) : (State.acceptEdge s k raw).mem = s.mem := by unfold State.acceptEdge; simp

@[simp ↓] theorem State.chatterQuiet_mem (s : State) (k : Fin 32) : (State.chatterQuiet s k).mem = s.mem := by unfold State.chatterQuiet; simp

@[simp ↓] theorem State.inputStuck_mem (s : State) (k : Fin 32) : (State.inputStuck s k).mem = s.mem := by
  unfold State.inputStuck
  repeat' first | (simp; done) | split | simp

@[simp ↓] theorem State.supplyCommand_mem (s : State) (k : Fin 16) (v : Nat) : (State.supplyCommand s k v).mem = s.mem := by unfold State.supplyCommand; simp

@[simp ↓] theorem State.supplyOff_mem (s : State) (k : Fin 16) (cause : Nat) : (State.supplyOff s k cause).mem = s.mem := by unfold State.supplyOff; simp

@[simp ↓] theorem State.supplyRetried_mem (s : State) (k : Fin 16) : (State.supplyRetried s k).mem = s.mem := by unfold State.supplyRetried; simp

@[simp ↓] theorem State.supplyDischarged_mem (s : State) (k : Fin 16) : (State.supplyDischarged s k).mem = s.mem := by unfold State.supplyDischarged; simp

@[simp ↓] theorem State.thermalShutdown_mem (s : State) (o : Fin 32) (milliamps : Nat) : (State.thermalShutdown s o milliamps).mem = s.mem := by unfold State.thermalShutdown; simp

@[simp ↓] theorem State.thermalRestart_mem (s : State) (o : Fin 32) : (State.thermalRestart s o).mem = s.mem := by unfold State.thermalRestart; simp

/-! ## Crust -/

@[simp ↓] theorem State.disagree_mem (s : State) (beat : Nat) (out : Nat) (region : Nat) (field : Nat) (kind : Nat) (axes : BitVec 16) : (State.disagree s beat out region field kind axes).mem = s.mem := by unfold State.disagree; simp

@[simp ↓] theorem State.miss_mem (s : State) (beat : Nat) (out : Nat) (classC : Bool) (axes : BitVec 16) : (State.miss s beat out classC axes).mem = s.mem := by unfold State.miss; simp

@[simp ↓] theorem State.clearMisses_mem (s : State) (out : Nat) : (State.clearMisses s out).mem = s.mem := by unfold State.clearMisses; simp

@[simp ↓] theorem State.crustDown_mem (s : State) : (State.crustDown s).mem = s.mem := by unfold State.crustDown; simp

@[simp ↓] theorem State.crustUp_mem (s : State) : (State.crustUp s).mem = s.mem := by unfold State.crustUp; simp

@[simp ↓] theorem State.singleExpired_mem (s : State) : (State.singleExpired s).mem = s.mem := by
  unfold State.singleExpired
  repeat' first | (simp; done) | split | simp

@[simp ↓] theorem State.comparatorSkipped_mem (s : State) : (State.comparatorSkipped s).mem = s.mem := by unfold State.comparatorSkipped; simp

@[simp ↓] theorem State.comparatorTested_mem (s : State) (field : Nat) (ran : Bool) (reported : List Nat) : (State.comparatorTested s field ran reported).mem = s.mem := by unfold State.comparatorTested; simp

@[simp ↓] theorem State.starterSkipped_mem (s : State) (r : Fin 10) (b : Fin 18) : (State.starterSkipped s r b).mem = s.mem := by unfold State.starterSkipped; simp

@[simp ↓] theorem State.syncAxes_mem (s : State) : (State.syncAxes s).mem = s.mem := by
  unfold State.syncAxes
  repeat' first
    | (simp; done)
    | split
    | (intro _)
    | (with_reducible refine (State.foldl_mem (fun _ _ => ?_) _ _).trans ?_)
    | (with_reducible refine (State.foldl_snd_mem (fun _ _ => ?_) _ _).trans ?_)
    | (with_reducible refine (State.foldl_fst_mem (fun _ _ => ?_) _ _).trans ?_)
    | (dsimp only)
    | simp
    | (rw [State.allocFrame_mem (by assumption)])
    | (rw [State.ensurePage_mem (by assumption)])
    | (rw [State.ensureAll_mem (by assumption)])
    | (with_reducible refine State.of_snd (f := State.mem) (by assumption) ?_)
    | (with_reducible refine State.of_fst (f := State.mem) (by assumption) ?_)

@[simp ↓] theorem State.refuseSet_mem (s : State) (reason : Nat) (seq : Nat) : (State.refuseSet s reason seq).mem = s.mem := by unfold State.refuseSet; simp

@[simp ↓] theorem State.finishValidation_mem (s : State) : (State.finishValidation s).mem = s.mem := by
  unfold State.finishValidation
  repeat' first | (simp; done) | split | simp

@[simp ↓] theorem State.tighten_mem (s : State) (key : Key) : (State.tighten s key).mem = s.mem := by
  unfold State.tighten
  repeat' first | (simp; done) | split | simp

@[simp ↓] theorem State.startSrdos_mem (s : State) : (State.startSrdos s).mem = s.mem := by unfold State.startSrdos; simp

@[simp ↓] theorem State.activateSet_mem (s : State) (p : ParamSet) : (State.activateSet s p).mem = s.mem := by
  unfold State.activateSet
  repeat' first
    | (simp; done)
    | split
    | (intro _)
    | (with_reducible refine (State.foldl_mem (fun _ _ => ?_) _ _).trans ?_)
    | (with_reducible refine (State.foldl_snd_mem (fun _ _ => ?_) _ _).trans ?_)
    | (with_reducible refine (State.foldl_fst_mem (fun _ _ => ?_) _ _).trans ?_)
    | (dsimp only)
    | simp
    | (rw [State.allocFrame_mem (by assumption)])
    | (rw [State.ensurePage_mem (by assumption)])
    | (rw [State.ensureAll_mem (by assumption)])
    | (with_reducible refine State.of_snd (f := State.mem) (by assumption) ?_)
    | (with_reducible refine State.of_fst (f := State.mem) (by assumption) ?_)

@[simp ↓] theorem State.activateDue_mem (s : State) : (State.activateDue s).mem = s.mem := by
  unfold State.activateDue
  repeat' first | (simp; done) | split | simp

@[simp ↓] theorem State.activateAtLaunch_mem (s : State) : (State.activateAtLaunch s).mem = s.mem := by
  unfold State.activateAtLaunch
  repeat' first | (simp; done) | split | simp

@[simp ↓] theorem State.setCommand_mem (s : State) (v : Nat) : (State.setCommand s v).mem = s.mem := by unfold State.setCommand; simp

@[simp ↓] theorem State.srdoError_mem (s : State) (n : Fin 8) : (State.srdoError s n).mem = s.mem := by unfold State.srdoError; simp

@[simp ↓] theorem State.srdoValid_mem (s : State) (n : Fin 8) (data : Bytes) : (State.srdoValid s n data).mem = s.mem := by unfold State.srdoValid; simp

@[simp ↓] theorem State.srdoPair_mem (s : State) (n : Fin 8) (normal : Bytes) (inverted : Bytes) (gapUs : Nat) : (State.srdoPair s n normal inverted gapUs).mem = s.mem := by unfold State.srdoPair; simp

@[simp ↓] theorem State.srdoLate_mem (s : State) (n : Fin 8) : (State.srdoLate s n).mem = s.mem := by unfold State.srdoLate; simp

@[simp ↓] theorem State.resetInput_mem (s : State) : (State.resetInput s).mem = s.mem := by unfold State.resetInput; simp

/-! ## Heads -/

@[simp ↓] theorem State.judgeTrust_mem (s : State) (h : Fin 12) : (State.judgeTrust s h).mem = s.mem := by unfold State.judgeTrust; simp

@[simp ↓] theorem State.writeDrive_mem (s : State) (h : Fin 12) (drive : Nat) : (State.writeDrive s h drive).mem = s.mem := by unfold State.writeDrive; simp

@[simp ↓] theorem State.safeDefault_mem (s : State) (h : Fin 12) (state : Nat) : (State.safeDefault s h state).mem = s.mem := by unfold State.safeDefault; simp

@[simp ↓] theorem State.renewSafeDrive_mem (s : State) : (State.renewSafeDrive s).mem = s.mem := by
  unfold State.renewSafeDrive
  repeat' first
    | (simp; done)
    | split
    | (intro _)
    | (with_reducible refine (State.foldl_mem (fun _ _ => ?_) _ _).trans ?_)
    | (with_reducible refine (State.foldl_snd_mem (fun _ _ => ?_) _ _).trans ?_)
    | (with_reducible refine (State.foldl_fst_mem (fun _ _ => ?_) _ _).trans ?_)
    | (dsimp only)
    | simp
    | (rw [State.allocFrame_mem (by assumption)])
    | (rw [State.ensurePage_mem (by assumption)])
    | (rw [State.ensureAll_mem (by assumption)])
    | (with_reducible refine State.of_snd (f := State.mem) (by assumption) ?_)
    | (with_reducible refine State.of_fst (f := State.mem) (by assumption) ?_)

@[simp ↓] theorem State.judgeLife_mem (s : State) (h : Fin 12) : (State.judgeLife s h).mem = s.mem := by unfold State.judgeLife; simp

@[simp ↓] theorem State.writeWear_mem (s : State) (h : Fin 12) (acked : Bool) : (State.writeWear s h acked).mem = s.mem := by unfold State.writeWear; simp

@[simp ↓] theorem State.wearDueNow_mem (s : State) (h : Fin 12) (acked : Bool) : (State.wearDueNow s h acked).mem = s.mem := by unfold State.wearDueNow; simp

@[simp ↓] theorem State.readWear_mem (s : State) (h : Fin 12) (mem : HeadMemory) : (State.readWear s h mem).mem = s.mem := by unfold State.readWear; simp

@[simp ↓] theorem State.silentAccess_mem (s : State) (h : Fin 12) : (State.silentAccess s h).mem = s.mem := by unfold State.silentAccess; simp

@[simp ↓] theorem State.authFailed_mem (s : State) (h : Fin 12) (why : Nat) : (State.authFailed s h why).mem = s.mem := by unfold State.authFailed; simp

@[simp ↓] theorem State.authPassed_mem (s : State) (h : Fin 12) (mem : HeadMemory) : (State.authPassed s h mem).mem = s.mem := by unfold State.authPassed; simp

@[simp ↓] theorem State.authenticate_mem (s : State) (h : Fin 12) (mem : HeadMemory) (answer : HeadAnswer) : (State.authenticate s h mem answer).mem = s.mem := by
  unfold State.authenticate
  repeat' first | (simp; done) | split | simp

@[simp ↓] theorem State.replaceHead_mem (s : State) (h : Fin 12) (serial : Bytes) : (State.replaceHead s h serial).mem = s.mem := by unfold State.replaceHead; simp

@[simp ↓] theorem State.pollSerial_mem (s : State) (h : Fin 12) (serial : Option Bytes) : (State.pollSerial s h serial).mem = s.mem := by
  unfold State.pollSerial
  repeat' first | (simp; done) | split | simp

@[simp ↓] theorem State.launchHeads_mem (s : State) : (State.launchHeads s).mem = s.mem := by
  unfold State.launchHeads
  repeat' first
    | (simp; done)
    | split
    | (intro _)
    | (with_reducible refine (State.foldl_mem (fun _ _ => ?_) _ _).trans ?_)
    | (with_reducible refine (State.foldl_snd_mem (fun _ _ => ?_) _ _).trans ?_)
    | (with_reducible refine (State.foldl_fst_mem (fun _ _ => ?_) _ _).trans ?_)
    | (dsimp only)
    | simp
    | (rw [State.allocFrame_mem (by assumption)])
    | (rw [State.ensurePage_mem (by assumption)])
    | (rw [State.ensureAll_mem (by assumption)])
    | (with_reducible refine State.of_snd (f := State.mem) (by assumption) ?_)
    | (with_reducible refine State.of_fst (f := State.mem) (by assumption) ?_)

@[simp ↓] theorem State.countPulse_mem (s : State) (h : Fin 12) (width : Nat) : (State.countPulse s h width).mem = s.mem := by unfold State.countPulse; simp

@[simp ↓] theorem State.captureTarget_mem (s : State) (h : Fin 12) (m : Nat) : (State.captureTarget s h m).mem = s.mem := by unfold State.captureTarget; simp

@[simp ↓] theorem State.endInterval_mem (s : State) (h : Fin 12) : (State.endInterval s h).1.mem = s.mem := by
  unfold State.endInterval
  repeat' first | (simp; done) | split | simp

@[simp ↓] theorem State.commitDrive_mem (s : State) (h : Fin 12) (count : Nat) : (State.commitDrive s h count).mem = s.mem := by unfold State.commitDrive; simp

@[simp ↓] theorem State.driveTimeout_mem (s : State) (h : Fin 12) : (State.driveTimeout s h).mem = s.mem := by
  unfold State.driveTimeout
  repeat' first
    | (simp; done)
    | split
    | (intro _)
    | (with_reducible refine (State.foldl_mem (fun _ _ => ?_) _ _).trans ?_)
    | (with_reducible refine (State.foldl_snd_mem (fun _ _ => ?_) _ _).trans ?_)
    | (with_reducible refine (State.foldl_fst_mem (fun _ _ => ?_) _ _).trans ?_)
    | (dsimp only)
    | simp
    | (rw [State.allocFrame_mem (by assumption)])
    | (rw [State.ensurePage_mem (by assumption)])
    | (rw [State.ensureAll_mem (by assumption)])
    | (with_reducible refine State.of_snd (f := State.mem) (by assumption) ?_)
    | (with_reducible refine State.of_fst (f := State.mem) (by assumption) ?_)

/-! ## Intake -/

@[simp ↓] theorem State.modSample_mem (s : State) (q : Fin 8) (submission : Nat) (f : Sample → Sample) : (State.modSample s q submission f).mem = s.mem := by unfold State.modSample; simp

@[simp ↓] theorem State.replaceSample_mem (s : State) (q : Fin 8) (submission : Nat) (reason : Nat) : (State.replaceSample s q submission reason).mem = s.mem := by unfold State.replaceSample; simp

@[simp ↓] theorem State.closeFlushed_mem (s : State) (q : Fin 8) : (State.closeFlushed s q).mem = s.mem := by
  unfold State.closeFlushed
  repeat' first | (simp; done) | split | simp

@[simp ↓] theorem State.leaveOne_mem (s : State) (q : Fin 8) : (State.leaveOne s q).mem = s.mem := by
  unfold State.leaveOne
  repeat' first | (simp; done) | split | simp

@[simp ↓] theorem State.leave_mem (s : State) (q : Fin 8) : (State.leave s q).mem = s.mem := by
  unfold State.leave
  repeat' first
    | (simp; done)
    | split
    | (intro _)
    | (with_reducible refine (State.foldl_mem (fun _ _ => ?_) _ _).trans ?_)
    | (with_reducible refine (State.foldl_snd_mem (fun _ _ => ?_) _ _).trans ?_)
    | (with_reducible refine (State.foldl_fst_mem (fun _ _ => ?_) _ _).trans ?_)
    | (dsimp only)
    | simp
    | (rw [State.allocFrame_mem (by assumption)])
    | (rw [State.ensurePage_mem (by assumption)])
    | (rw [State.ensureAll_mem (by assumption)])
    | (with_reducible refine State.of_snd (f := State.mem) (by assumption) ?_)
    | (with_reducible refine State.of_fst (f := State.mem) (by assumption) ?_)

@[simp ↓] theorem State.takeEntry_mem (s : State) (q : Fin 8) (e : BitVec 256) (source : Option Bytes) (generation : Nat) : (State.takeEntry s q e source generation).mem = s.mem := by
  unfold State.takeEntry
  repeat' first | (simp; done) | split | simp

@[simp ↓] theorem State.sampleEnds_mem (s : State) (q : Fin 8) (a : Sample) (result : DecodeResult) : (State.sampleEnds s q a result).mem = s.mem := by
  unfold State.sampleEnds
  repeat' first | (simp; done) | split | simp

@[simp ↓] theorem State.hostReturn_mem (s : State) (q : Fin 8) (slot : Fin 256) (submission : Nat) (length : Nat) (codes : List Nat) : (State.hostReturn s q slot submission length codes).mem = s.mem := by
  unfold State.hostReturn
  repeat' first | (simp; done) | split | simp

@[simp ↓] theorem State.hostTimeout_mem (s : State) (q : Fin 8) (submission : Nat) : (State.hostTimeout s q submission).mem = s.mem := by
  unfold State.hostTimeout
  repeat' first | (simp; done) | split | simp

@[simp ↓] theorem State.requestFlush_mem (s : State) (q : Fin 8) : (State.requestFlush s q).mem = s.mem := by unfold State.requestFlush; simp

@[simp ↓] theorem State.launchIntake_mem (s : State) : (State.launchIntake s).mem = s.mem := by
  unfold State.launchIntake
  repeat' first
    | (simp; done)
    | split
    | (intro _)
    | (with_reducible refine (State.foldl_mem (fun _ _ => ?_) _ _).trans ?_)
    | (with_reducible refine (State.foldl_snd_mem (fun _ _ => ?_) _ _).trans ?_)
    | (with_reducible refine (State.foldl_fst_mem (fun _ _ => ?_) _ _).trans ?_)
    | (dsimp only)
    | simp
    | (rw [State.allocFrame_mem (by assumption)])
    | (rw [State.ensurePage_mem (by assumption)])
    | (rw [State.ensureAll_mem (by assumption)])
    | (with_reducible refine State.of_snd (f := State.mem) (by assumption) ?_)
    | (with_reducible refine State.of_fst (f := State.mem) (by assumption) ?_)

/-! ## Beats -/

@[simp ↓] theorem State.rehash_mem (s : State) : (State.rehash s).mem = s.mem := by unfold State.rehash; simp

@[simp ↓] theorem State.saveElements_mem (s : State) : (State.saveElements s).mem = s.mem := by unfold State.saveElements; simp

@[simp ↓] theorem State.startElements_mem (s : State) : (State.startElements s).mem = s.mem := by unfold State.startElements; simp

@[simp ↓] theorem State.launchBeat_mem (s : State) : (State.launchBeat s).mem = s.mem := by unfold State.launchBeat; simp

@[simp ↓] theorem State.drawWord_mem (s : State) (g : Generator) : (State.drawWord s g).2.mem = s.mem := by unfold State.drawWord; simp

@[simp ↓] theorem State.loadStored_mem (s : State) : (State.loadStored s).mem = s.mem := by
  unfold State.loadStored
  repeat' first
    | (simp; done)
    | split
    | (intro _)
    | (with_reducible refine (State.foldl_mem (fun _ _ => ?_) _ _).trans ?_)
    | (with_reducible refine (State.foldl_snd_mem (fun _ _ => ?_) _ _).trans ?_)
    | (with_reducible refine (State.foldl_fst_mem (fun _ _ => ?_) _ _).trans ?_)
    | (dsimp only)
    | simp
    | (rw [State.allocFrame_mem (by assumption)])
    | (rw [State.ensurePage_mem (by assumption)])
    | (rw [State.ensureAll_mem (by assumption)])
    | (with_reducible refine State.of_snd (f := State.mem) (by assumption) ?_)
    | (with_reducible refine State.of_fst (f := State.mem) (by assumption) ?_)

@[simp ↓] theorem State.endLaunch_mem (s : State) : (State.endLaunch s).mem = s.mem := by unfold State.endLaunch; simp

/-! ## Network -/

@[simp ↓] theorem State.dropLinks_mem (s : State) (d : Nat) : (State.dropLinks s d).mem = s.mem := by unfold State.dropLinks; simp

@[simp ↓] theorem State.loseLock_mem (s : State) (p : Fin 8) : (State.loseLock s p).mem = s.mem := by unfold State.loseLock; simp

@[simp ↓] theorem State.portUp_mem (s : State) (p : Fin 8) : (State.portUp s p).mem = s.mem := by unfold State.portUp; simp

@[simp ↓] theorem State.portLinked_mem (s : State) (p : Fin 8) : (State.portLinked s p).mem = s.mem := by unfold State.portLinked; simp

@[simp ↓] theorem State.pause_mem (s : State) (p : Fin 8) (prio : Fin 8) (quanta : Nat) : (State.pause s p prio quanta).mem = s.mem := by unfold State.pause; simp

@[simp ↓] theorem State.pauseWatchdog_mem (s : State) (p : Fin 8) (prio : Fin 8) : (State.pauseWatchdog s p prio).mem = s.mem := by unfold State.pauseWatchdog; simp

@[simp ↓] theorem State.resend_mem (s : State) (q : Fin 256) : (State.resend s q).mem = s.mem := by unfold State.resend; simp

@[simp ↓] theorem State.pauseQuiet_mem (s : State) (p : Fin 8) (prio : Fin 8) : (State.pauseQuiet s p prio).mem = s.mem := by unfold State.pauseQuiet; simp

@[simp ↓] theorem State.congested_mem (s : State) (q : Fin 256) : (State.congested s q).mem = s.mem := by unfold State.congested; simp

@[simp ↓] theorem State.regainRate_mem (s : State) (q : Fin 256) : (State.regainRate s q).mem = s.mem := by
  unfold State.regainRate
  repeat' first | (simp; done) | split | simp

@[simp ↓] theorem State.reestablish_mem (s : State) (q : Fin 256) : (State.reestablish s q).mem = s.mem := by unfold State.reestablish; simp

@[simp ↓] theorem State.launchNet_mem (s : State) : (State.launchNet s).mem = s.mem := by
  unfold State.launchNet
  repeat' first
    | (simp; done)
    | split
    | (intro _)
    | (with_reducible refine (State.foldl_mem (fun _ _ => ?_) _ _).trans ?_)
    | (with_reducible refine (State.foldl_snd_mem (fun _ _ => ?_) _ _).trans ?_)
    | (with_reducible refine (State.foldl_fst_mem (fun _ _ => ?_) _ _).trans ?_)
    | (dsimp only)
    | simp
    | (rw [State.allocFrame_mem (by assumption)])
    | (rw [State.ensurePage_mem (by assumption)])
    | (rw [State.ensureAll_mem (by assumption)])
    | (with_reducible refine State.of_snd (f := State.mem) (by assumption) ?_)
    | (with_reducible refine State.of_fst (f := State.mem) (by assumption) ?_)

@[simp ↓] theorem State.winRefused_mem (s : State) (w : Option (Fin 64)) (unit : Nat) (key : Nat) (why : Nat) : (State.winRefused s w unit key why).mem = s.mem := by
  unfold State.winRefused
  repeat' first | (simp; done) | split | simp

@[simp ↓] theorem State.answerRdma_mem (s : State) (q : RdmaReq) (result : Nat) (data : Bytes) : (State.answerRdma s q result data).mem = s.mem := by unfold State.answerRdma; simp

@[simp ↓] theorem State.serveRdma_mem (s : State) (q : RdmaReq) (right : Nat) (write : Bool) (go : State → MemRef → State) (hr : ∀ a p, (go a p).mem = a.mem) : (State.serveRdma s q right write go).mem = s.mem := by
  unfold State.serveRdma
  repeat' first | (simp [hr]; done) | split | simp [hr]

@[simp ↓] theorem State.rdmaReadReq_mem (s : State) (q : RdmaReq) : (State.rdmaReadReq s q).mem = s.mem := by unfold State.rdmaReadReq; simp

@[simp ↓] theorem State.dropConsumed_mem (s : State) : (State.dropConsumed s).mem = s.mem := by unfold State.dropConsumed; simp

@[simp ↓] theorem State.dropOldest_mem (s : State) (q : Fin 16) (n : Nat) : (State.dropOldest s q n).mem = s.mem := by unfold State.dropOldest; simp

@[simp ↓] theorem State.bar2Refused_mem (s : State) (w : Fin 64) (write : Bool) : (State.bar2Refused s w write).mem = s.mem := by unfold State.bar2Refused; simp

@[simp ↓] theorem State.pcieRetrain_mem (s : State) : (State.pcieRetrain s).mem = s.mem := by unfold State.pcieRetrain; simp

@[simp ↓] theorem State.pcieRelease_mem (s : State) : (State.pcieRelease s).mem = s.mem := by unfold State.pcieRelease; simp

@[simp ↓] theorem State.pcieDown_mem (s : State) : (State.pcieDown s).mem = s.mem := by unfold State.pcieDown; simp

@[simp ↓] theorem State.pcieLinked_mem (s : State) (speed : Nat) (lanes : Nat) : (State.pcieLinked s speed lanes).mem = s.mem := by unfold State.pcieLinked; simp

/-! ## Transfers -/

@[simp ↓] theorem State.touchLine_mem (s : State) (r : Fin 10) (b : Fin 18) (line : Nat) (content : Bytes) : (State.touchLine s r b line content).mem = s.mem := by unfold State.touchLine; simp

@[simp ↓] theorem State.readLine_mem (s : State) (r : Fin 10) (b : Fin 18) (line : Nat) : (State.readLine s r b line).2.mem = s.mem := by
  unfold State.readLine
  repeat' first | (simp; done) | split | simp

@[simp ↓] theorem State.readCached_mem (s : State) (r : Fin 10) (b : Fin 18) (a : Nat) (n : Nat) : (State.readCached s r b a n).2.mem = s.mem := by
  unfold State.readCached
  repeat' first
    | (simp; done)
    | split
    | (intro _)
    | (with_reducible refine (State.foldl_mem (fun _ _ => ?_) _ _).trans ?_)
    | (with_reducible refine (State.foldl_snd_mem (fun _ _ => ?_) _ _).trans ?_)
    | (with_reducible refine (State.foldl_fst_mem (fun _ _ => ?_) _ _).trans ?_)
    | (dsimp only)
    | simp
    | (rw [State.allocFrame_mem (by assumption)])
    | (rw [State.ensurePage_mem (by assumption)])
    | (rw [State.ensureAll_mem (by assumption)])
    | (with_reducible refine State.of_snd (f := State.mem) (by assumption) ?_)
    | (with_reducible refine State.of_fst (f := State.mem) (by assumption) ?_)

@[simp ↓] theorem State.countHbm_mem (s : State) (r : Fin 10) (cls : Nat) (write : Bool) (n : Nat) : (State.countHbm s r cls write n).mem = s.mem := by unfold State.countHbm; simp

@[simp ↓] theorem State.unsuspect_mem (s : State) (r : Fin 10) (b : Fin 18) (cell : Fin 65) : (State.unsuspect s r b cell).mem = s.mem := by unfold State.unsuspect; simp

@[simp ↓] theorem State.wireSpare_mem (s : State) (r : Fin 10) (b : Fin 18) : (State.wireSpare s r b).mem = s.mem := by
  unfold State.wireSpare
  repeat' first | (simp; done) | split | simp

@[simp ↓] theorem State.swapCell_mem (s : State) (r : Fin 10) (b : Fin 18) : (State.swapCell s r b).mem = s.mem := by
  unfold State.swapCell
  repeat' first | (simp; done) | split | simp

@[simp ↓] theorem State.dequeue_mem (s : State) (loc : BitVec 32) : (State.dequeue s loc).mem = s.mem := by unfold State.dequeue; simp

/-! ## Weave -/

@[simp ↓] theorem State.judgeRate_mem (s : State) (r : Fin 10) : (State.judgeRate s r).mem = s.mem := by unfold State.judgeRate; simp

@[simp ↓] theorem State.measureReplicas_mem (s : State) (counts : List Nat) : (State.measureReplicas s counts).mem = s.mem := by
  unfold State.measureReplicas
  repeat' first
    | (simp; done)
    | split
    | (intro _)
    | (with_reducible refine (State.foldl_mem (fun _ _ => ?_) _ _).trans ?_)
    | (with_reducible refine (State.foldl_snd_mem (fun _ _ => ?_) _ _).trans ?_)
    | (with_reducible refine (State.foldl_fst_mem (fun _ _ => ?_) _ _).trans ?_)
    | (dsimp only)
    | simp
    | (rw [State.allocFrame_mem (by assumption)])
    | (rw [State.ensurePage_mem (by assumption)])
    | (rw [State.ensureAll_mem (by assumption)])
    | (with_reducible refine State.of_snd (f := State.mem) (by assumption) ?_)
    | (with_reducible refine State.of_fst (f := State.mem) (by assumption) ?_)

/-! ## Power -/

@[simp ↓] theorem State.startLogic_mem (s : State) (r : Fin 10) : (State.startLogic s r).mem = s.mem := by
  unfold State.startLogic
  repeat' first
    | (simp; done)
    | split
    | (intro _)
    | (with_reducible refine (State.foldl_mem (fun _ _ => ?_) _ _).trans ?_)
    | (with_reducible refine (State.foldl_snd_mem (fun _ _ => ?_) _ _).trans ?_)
    | (with_reducible refine (State.foldl_fst_mem (fun _ _ => ?_) _ _).trans ?_)
    | (dsimp only)
    | simp
    | (rw [State.allocFrame_mem (by assumption)])
    | (rw [State.ensurePage_mem (by assumption)])
    | (rw [State.ensureAll_mem (by assumption)])
    | (with_reducible refine State.of_snd (f := State.mem) (by assumption) ?_)
    | (with_reducible refine State.of_fst (f := State.mem) (by assumption) ?_)

@[simp ↓] theorem State.moveWork_mem (s : State) (r : Fin 10) (b : Fin 18) (tr : Fin 10) (tb : Fin 18) : (State.moveWork s r b tr tb).mem = s.mem := by
  unfold State.moveWork
  repeat' first
    | (simp; done)
    | split
    | (intro _)
    | (with_reducible refine (State.foldl_mem (fun _ _ => ?_) _ _).trans ?_)
    | (with_reducible refine (State.foldl_snd_mem (fun _ _ => ?_) _ _).trans ?_)
    | (with_reducible refine (State.foldl_fst_mem (fun _ _ => ?_) _ _).trans ?_)
    | (dsimp only)
    | simp
    | (rw [State.allocFrame_mem (by assumption)])
    | (rw [State.ensurePage_mem (by assumption)])
    | (rw [State.ensureAll_mem (by assumption)])
    | (with_reducible refine State.of_snd (f := State.mem) (by assumption) ?_)
    | (with_reducible refine State.of_fst (f := State.mem) (by assumption) ?_)

@[simp ↓] theorem State.copyMarks_mem (s : State) (space : Nat) (from_ : Nat) (to_ : Nat) (size : Nat) : (State.copyMarks s space from_ to_ size).mem = s.mem := by unfold State.copyMarks; simp

@[simp ↓] theorem State.beginUp_mem (s : State) (d : Fin 72) (target : Nat) : (State.beginUp s d target).mem = s.mem := by unfold State.beginUp; simp

@[simp ↓] theorem State.latchRequest_mem (s : State) (d : Fin 72) : (State.latchRequest s d).mem = s.mem := by unfold State.latchRequest; simp

@[simp ↓] theorem State.mainLost_mem (s : State) (dv : Nat) : (State.mainLost s dv).mem = s.mem := by unfold State.mainLost; simp

@[simp ↓] theorem State.fieldLost_mem (s : State) (dv : Nat) : (State.fieldLost s dv).mem = s.mem := by unfold State.fieldLost; simp

@[simp ↓] theorem State.fieldBack_mem (s : State) (dv : Nat) : (State.fieldBack s dv).mem = s.mem := by unfold State.fieldBack; simp

@[simp ↓] theorem State.applyReplan_mem (s : State) (r : Fin 10) : (State.applyReplan s r).mem = s.mem := by
  unfold State.applyReplan
  repeat' first | (simp; done) | split | simp

@[simp ↓] theorem State.stepSupply_mem (s : State) (r : Fin 10) : (State.stepSupply s r).mem = s.mem := by unfold State.stepSupply; simp

@[simp ↓] theorem State.stepPace_mem (s : State) (r : Fin 10) : (State.stepPace s r).mem = s.mem := by
  unfold State.stepPace
  repeat' first | (simp; done) | split | simp

@[simp ↓] theorem State.supplyStep_mem (s : State) : (State.supplyStep s).mem = s.mem := by
  unfold State.supplyStep
  repeat' first
    | (simp; done)
    | split
    | (intro _)
    | (with_reducible refine (State.foldl_mem (fun _ _ => ?_) _ _).trans ?_)
    | (with_reducible refine (State.foldl_snd_mem (fun _ _ => ?_) _ _).trans ?_)
    | (with_reducible refine (State.foldl_fst_mem (fun _ _ => ?_) _ _).trans ?_)
    | (dsimp only)
    | simp
    | (rw [State.allocFrame_mem (by assumption)])
    | (rw [State.ensurePage_mem (by assumption)])
    | (rw [State.ensureAll_mem (by assumption)])
    | (with_reducible refine State.of_snd (f := State.mem) (by assumption) ?_)
    | (with_reducible refine State.of_fst (f := State.mem) (by assumption) ?_)

@[simp ↓] theorem State.droopAt_mem (s : State) (r : Fin 10) (depth : Nat) (duration : Nat) : (State.droopAt s r depth duration).mem = s.mem := by unfold State.droopAt; simp

@[simp ↓] theorem State.judgeSensors_mem (s : State) (r : Fin 10) : (State.judgeSensors s r).mem = s.mem := by
  unfold State.judgeSensors
  repeat' first
    | (simp; done)
    | split
    | (intro _)
    | (with_reducible refine (State.foldl_mem (fun _ _ => ?_) _ _).trans ?_)
    | (with_reducible refine (State.foldl_snd_mem (fun _ _ => ?_) _ _).trans ?_)
    | (with_reducible refine (State.foldl_fst_mem (fun _ _ => ?_) _ _).trans ?_)
    | (dsimp only)
    | simp
    | (rw [State.allocFrame_mem (by assumption)])
    | (rw [State.ensurePage_mem (by assumption)])
    | (rw [State.ensureAll_mem (by assumption)])
    | (with_reducible refine State.of_snd (f := State.mem) (by assumption) ?_)
    | (with_reducible refine State.of_fst (f := State.mem) (by assumption) ?_)

@[simp ↓] theorem State.judgeHeat_mem (s : State) (r : Fin 10) : (State.judgeHeat s r).mem = s.mem := by
  unfold State.judgeHeat
  repeat' first | (simp; done) | split | simp

@[simp ↓] theorem State.takeTemps_mem (s : State) (deci : List Int) : (State.takeTemps s deci).mem = s.mem := by unfold State.takeTemps; simp

@[simp ↓] theorem State.judgeRegions_mem (s : State) : (State.judgeRegions s).mem = s.mem := by
  unfold State.judgeRegions
  repeat' first
    | (simp; done)
    | split
    | (intro _)
    | (with_reducible refine (State.foldl_mem (fun _ _ => ?_) _ _).trans ?_)
    | (with_reducible refine (State.foldl_snd_mem (fun _ _ => ?_) _ _).trans ?_)
    | (with_reducible refine (State.foldl_fst_mem (fun _ _ => ?_) _ _).trans ?_)
    | (dsimp only)
    | simp
    | (rw [State.allocFrame_mem (by assumption)])
    | (rw [State.ensurePage_mem (by assumption)])
    | (rw [State.ensureAll_mem (by assumption)])
    | (with_reducible refine State.of_snd (f := State.mem) (by assumption) ?_)
    | (with_reducible refine State.of_fst (f := State.mem) (by assumption) ?_)

@[simp ↓] theorem State.checkPower_mem (s : State) (watts : Nat) : (State.checkPower s watts).mem = s.mem := by
  unfold State.checkPower
  repeat' first | (simp; done) | split | simp

@[simp ↓] theorem State.pairFault_mem (s : State) (r : Fin 10) (pair : Nat) (st : Nat) (f : Nat) : (State.pairFault s r pair st f).mem = s.mem := by
  unfold State.pairFault
  repeat' first | (simp; done) | split | simp

@[simp ↓] theorem State.measureAgeing_mem (s : State) (x : AgeRead) : (State.measureAgeing s x).mem = s.mem := by unfold State.measureAgeing; simp

@[simp ↓] theorem State.measureAll_mem (s : State) (reads : List AgeRead) : (State.measureAll s reads).mem = s.mem := by
  unfold State.measureAll
  repeat' first
    | (simp; done)
    | split
    | (intro _)
    | (with_reducible refine (State.foldl_mem (fun _ _ => ?_) _ _).trans ?_)
    | (with_reducible refine (State.foldl_snd_mem (fun _ _ => ?_) _ _).trans ?_)
    | (with_reducible refine (State.foldl_fst_mem (fun _ _ => ?_) _ _).trans ?_)
    | (dsimp only)
    | simp
    | (rw [State.allocFrame_mem (by assumption)])
    | (rw [State.ensurePage_mem (by assumption)])
    | (rw [State.ensureAll_mem (by assumption)])
    | (with_reducible refine State.of_snd (f := State.mem) (by assumption) ?_)
    | (with_reducible refine State.of_fst (f := State.mem) (by assumption) ?_)

@[simp ↓] theorem State.measureDue_mem (s : State) (reads : List AgeRead) : (State.measureDue s reads).mem = s.mem := by unfold State.measureDue; simp

@[simp ↓] theorem State.freeRead_mem (s : State) (r : Fin 10) : (State.freeRead s r).2.mem = s.mem := by unfold State.freeRead; simp

@[simp ↓] theorem State.measureFree_mem (s : State) : (State.measureFree s).mem = s.mem := by
  unfold State.measureFree
  repeat' first
    | (simp; done)
    | split
    | (intro _)
    | (with_reducible refine (State.foldl_mem (fun _ _ => ?_) _ _).trans ?_)
    | (with_reducible refine (State.foldl_snd_mem (fun _ _ => ?_) _ _).trans ?_)
    | (with_reducible refine (State.foldl_fst_mem (fun _ _ => ?_) _ _).trans ?_)
    | (dsimp only)
    | simp
    | (rw [State.allocFrame_mem (by assumption)])
    | (rw [State.ensurePage_mem (by assumption)])
    | (rw [State.ensureAll_mem (by assumption)])
    | (with_reducible refine State.of_snd (f := State.mem) (by assumption) ?_)
    | (with_reducible refine State.of_fst (f := State.mem) (by assumption) ?_)

@[simp ↓] theorem State.enterStandby_mem (s : State) : (State.enterStandby s).mem = s.mem := by
  unfold State.enterStandby
  repeat' first
    | (simp; done)
    | split
    | (intro _)
    | (with_reducible refine (State.foldl_mem (fun _ _ => ?_) _ _).trans ?_)
    | (with_reducible refine (State.foldl_snd_mem (fun _ _ => ?_) _ _).trans ?_)
    | (with_reducible refine (State.foldl_fst_mem (fun _ _ => ?_) _ _).trans ?_)
    | (dsimp only)
    | simp
    | (rw [State.allocFrame_mem (by assumption)])
    | (rw [State.ensurePage_mem (by assumption)])
    | (rw [State.ensureAll_mem (by assumption)])
    | (with_reducible refine State.of_snd (f := State.mem) (by assumption) ?_)
    | (with_reducible refine State.of_fst (f := State.mem) (by assumption) ?_)

@[simp ↓] theorem State.requestIdle_mem (s : State) : (State.requestIdle s).mem = s.mem := by unfold State.requestIdle; simp

@[simp ↓] theorem State.requestResume_mem (s : State) : (State.requestResume s).mem = s.mem := by
  unfold State.requestResume
  repeat' first
    | (simp; done)
    | split
    | (intro _)
    | (with_reducible refine (State.foldl_mem (fun _ _ => ?_) _ _).trans ?_)
    | (with_reducible refine (State.foldl_snd_mem (fun _ _ => ?_) _ _).trans ?_)
    | (with_reducible refine (State.foldl_fst_mem (fun _ _ => ?_) _ _).trans ?_)
    | (dsimp only)
    | simp
    | (rw [State.allocFrame_mem (by assumption)])
    | (rw [State.ensurePage_mem (by assumption)])
    | (rw [State.ensureAll_mem (by assumption)])
    | (with_reducible refine State.of_snd (f := State.mem) (by assumption) ?_)
    | (with_reducible refine State.of_fst (f := State.mem) (by assumption) ?_)

@[simp ↓] theorem State.checkResume_mem (s : State) : (State.checkResume s).mem = s.mem := by
  unfold State.checkResume
  repeat' first
    | (simp; done)
    | split
    | (intro _)
    | (with_reducible refine (State.foldl_mem (fun _ _ => ?_) _ _).trans ?_)
    | (with_reducible refine (State.foldl_snd_mem (fun _ _ => ?_) _ _).trans ?_)
    | (with_reducible refine (State.foldl_fst_mem (fun _ _ => ?_) _ _).trans ?_)
    | (dsimp only)
    | simp
    | (rw [State.allocFrame_mem (by assumption)])
    | (rw [State.ensurePage_mem (by assumption)])
    | (rw [State.ensureAll_mem (by assumption)])
    | (with_reducible refine State.of_snd (f := State.mem) (by assumption) ?_)
    | (with_reducible refine State.of_fst (f := State.mem) (by assumption) ?_)

/-! ## TimeUnit -/

@[simp ↓] theorem State.reportClamps_mem (s : State) : (State.reportClamps s).mem = s.mem := by unfold State.reportClamps; simp

@[simp ↓] theorem State.cancelAdjustment_mem (s : State) : (State.cancelAdjustment s).mem = s.mem := by unfold State.cancelAdjustment; simp

@[simp ↓] theorem State.startAdjustment_mem (s : State) (a : Int) (ticks : Nat) : (State.startAdjustment s a ticks).mem = s.mem := by unfold State.startAdjustment; simp

@[simp ↓] theorem State.stepTime_mem (s : State) (o : Int) : (State.stepTime s o).mem = s.mem := by
  unfold State.stepTime
  repeat' first
    | (simp; done)
    | split
    | (intro _)
    | (with_reducible refine (State.foldl_mem (fun _ _ => ?_) _ _).trans ?_)
    | (with_reducible refine (State.foldl_snd_mem (fun _ _ => ?_) _ _).trans ?_)
    | (with_reducible refine (State.foldl_fst_mem (fun _ _ => ?_) _ _).trans ?_)
    | (dsimp only)
    | simp
    | (rw [State.allocFrame_mem (by assumption)])
    | (rw [State.ensurePage_mem (by assumption)])
    | (rw [State.ensureAll_mem (by assumption)])
    | (with_reducible refine State.of_snd (f := State.mem) (by assumption) ?_)
    | (with_reducible refine State.of_fst (f := State.mem) (by assumption) ?_)

@[simp ↓] theorem State.trackSync_mem (s : State) : (State.trackSync s).mem = s.mem := by unfold State.trackSync; simp

@[simp ↓] theorem State.servo_mem (s : State) (d : Fin 2) (o : Int) : (State.servo s d o).mem = s.mem := by
  unfold State.servo
  repeat' first | (simp; done) | split | simp

@[simp ↓] theorem State.activateDomain_mem (s : State) (d : Fin 2) : (State.activateDomain s d).mem = s.mem := by unfold State.activateDomain; simp

@[simp ↓] theorem State.switchDomain_mem (s : State) (d : Fin 2) (cause : Nat) : (State.switchDomain s d cause).mem = s.mem := by
  unfold State.switchDomain
  repeat' first | (simp; done) | split | simp

@[simp ↓] theorem State.enterHoldover_mem (s : State) (lost : Fin 2) (cause : Nat) : (State.enterHoldover s lost cause).mem = s.mem := by unfold State.enterHoldover; simp

@[simp ↓] theorem State.chooseDomain_mem (s : State) (d : Fin 2) : (State.chooseDomain s d).mem = s.mem := by unfold State.chooseDomain; simp

@[simp ↓] theorem State.loseDomain_mem (s : State) (d : Fin 2) (cause : Nat) : (State.loseDomain s d cause).mem = s.mem := by unfold State.loseDomain; simp

@[simp ↓] theorem State.loseInOrder_mem (s : State) (d : Fin 2) (cause : Nat) : (State.loseInOrder s d cause).mem = s.mem := by unfold State.loseInOrder; simp

@[simp ↓] theorem State.ptpForward_mem (s : State) (d : Fin 2) (port : Fin 8) (kind : Nat) (value : Nat) : (State.ptpForward s d port kind value).mem = s.mem := by
  unfold State.ptpForward
  repeat' first
    | (simp; done)
    | split
    | (intro _)
    | (with_reducible refine (State.foldl_mem (fun _ _ => ?_) _ _).trans ?_)
    | (with_reducible refine (State.foldl_snd_mem (fun _ _ => ?_) _ _).trans ?_)
    | (with_reducible refine (State.foldl_fst_mem (fun _ _ => ?_) _ _).trans ?_)
    | (dsimp only)
    | simp
    | (rw [State.allocFrame_mem (by assumption)])
    | (rw [State.ensurePage_mem (by assumption)])
    | (rw [State.ensureAll_mem (by assumption)])
    | (with_reducible refine State.of_snd (f := State.mem) (by assumption) ?_)
    | (with_reducible refine State.of_fst (f := State.mem) (by assumption) ?_)

@[simp ↓] theorem State.ptpForwardEvent_mem (s : State) (d : Fin 2) (port : Fin 8) (kind : Nat) (correction : Int) : (State.ptpForwardEvent s d port kind correction).mem = s.mem := by unfold State.ptpForwardEvent; simp

@[simp ↓] theorem State.processSync_mem (s : State) (m : SyncMsg) : (State.processSync s m).mem = s.mem := by unfold State.processSync; simp

@[simp ↓] theorem State.ptpSyncMsg_mem (s : State) (m : SyncMsg) : (State.ptpSyncMsg s m).mem = s.mem := by unfold State.ptpSyncMsg; simp

@[simp ↓] theorem State.ptpFollowUpMsg_mem (s : State) (m : SyncMsg) : (State.ptpFollowUpMsg s m).mem = s.mem := by
  unfold State.ptpFollowUpMsg
  repeat' first | (simp; done) | split | simp

@[simp ↓] theorem State.judgeClass_mem (s : State) (d : Fin 2) : (State.judgeClass s d).mem = s.mem := by unfold State.judgeClass; simp

@[simp ↓] theorem State.ptpAnnounceMsg_mem (s : State) (m : AnnounceMsg) : (State.ptpAnnounceMsg s m).mem = s.mem := by unfold State.ptpAnnounceMsg; simp

@[simp ↓] theorem State.sendSync_mem (s : State) (port : Fin 8) : (State.sendSync s port).mem = s.mem := by
  unfold State.sendSync
  repeat' first | (simp; done) | split | simp

@[simp ↓] theorem State.sendAnnounce_mem (s : State) (port : Fin 8) : (State.sendAnnounce s port).mem = s.mem := by
  unfold State.sendAnnounce
  repeat' first | (simp; done) | split | simp

@[simp ↓] theorem State.answerPdelay_mem (s : State) (port : Fin 8) (ident : Nat) (rx : Nat) : (State.answerPdelay s port ident rx).mem = s.mem := by unfold State.answerPdelay; simp

@[simp ↓] theorem State.sendDelayRequest_mem (s : State) (d : Fin 2) (tx : Nat) : (State.sendDelayRequest s d tx).mem = s.mem := by
  unfold State.sendDelayRequest
  repeat' first
    | (simp; done)
    | split
    | (intro _)
    | (with_reducible refine (State.foldl_mem (fun _ _ => ?_) _ _).trans ?_)
    | (with_reducible refine (State.foldl_snd_mem (fun _ _ => ?_) _ _).trans ?_)
    | (with_reducible refine (State.foldl_fst_mem (fun _ _ => ?_) _ _).trans ?_)
    | (dsimp only)
    | simp
    | (rw [State.allocFrame_mem (by assumption)])
    | (rw [State.ensurePage_mem (by assumption)])
    | (rw [State.ensureAll_mem (by assumption)])
    | (with_reducible refine State.of_snd (f := State.mem) (by assumption) ?_)
    | (with_reducible refine State.of_fst (f := State.mem) (by assumption) ?_)

@[simp ↓] theorem State.delayResponse_mem (s : State) (d : Fin 2) (t2 : Nat) (t3 : Nat) (t4 : Nat) (correction : Int) : (State.delayResponse s d t2 t3 t4 correction).mem = s.mem := by
  unfold State.delayResponse
  repeat' first | (simp; done) | split | simp

@[simp ↓] theorem State.issueEdge_mem (s : State) (ch : Fin 64) (count : Nat) : (State.issueEdge s ch count).mem = s.mem := by unfold State.issueEdge; simp

@[simp ↓] theorem State.triggerEdge_mem (s : State) (ch : Fin 64) : (State.triggerEdge s ch).mem = s.mem := by
  unfold State.triggerEdge
  repeat' first
    | (simp; done)
    | split
    | (intro _)
    | (with_reducible refine (State.foldl_mem (fun _ _ => ?_) _ _).trans ?_)
    | (with_reducible refine (State.foldl_snd_mem (fun _ _ => ?_) _ _).trans ?_)
    | (with_reducible refine (State.foldl_fst_mem (fun _ _ => ?_) _ _).trans ?_)
    | (dsimp only)
    | simp
    | (rw [State.allocFrame_mem (by assumption)])
    | (rw [State.ensurePage_mem (by assumption)])
    | (rw [State.ensureAll_mem (by assumption)])
    | (with_reducible refine State.of_snd (f := State.mem) (by assumption) ?_)
    | (with_reducible refine State.of_fst (f := State.mem) (by assumption) ?_)

/-! ## Service -/

@[simp ↓] theorem State.takeStagedFirmware_mem (s : State) : (State.takeStagedFirmware s).mem = s.mem := by
  unfold State.takeStagedFirmware
  repeat' first | (simp; done) | split | simp

@[simp ↓] theorem State.recovery_mem (s : State) (why : Nat) : (State.recovery s why).mem = s.mem := by unfold State.recovery; simp

@[simp ↓] theorem State.bootFirmware_mem (s : State) (slotA : Bundle) (slotB : Bundle) : (State.bootFirmware s slotA slotB).1.mem = s.mem := by
  unfold State.bootFirmware
  repeat' first | (simp; done) | split | simp

@[simp ↓] theorem State.judgeStep_mem (s : State) (step : Nat) (ms : Nat) : (State.judgeStep s step ms).mem = s.mem := by unfold State.judgeStep; simp

@[simp ↓] theorem State.firmwareCommand_mem (s : State) (v : Nat) : (State.firmwareCommand s v).mem = s.mem := by
  unfold State.firmwareCommand
  repeat' first | (simp; done) | split | simp

@[simp ↓] theorem State.firmwareVerified_mem (s : State) (b : Bundle) : (State.firmwareVerified s b).mem = s.mem := by unfold State.firmwareVerified; simp

@[simp ↓] theorem State.switchFirmware_mem (s : State) : (State.switchFirmware s).mem = s.mem := by
  unfold State.switchFirmware
  repeat' first | (simp; done) | split | simp

@[simp ↓] theorem State.refuseImage_mem (s : State) (reason : Nat) : (State.refuseImage s reason).mem = s.mem := by unfold State.refuseImage; simp

@[simp ↓] theorem State.imageVerified_mem (s : State) (im : Image) (sigOk : Bool) : (State.imageVerified s im sigOk).mem = s.mem := by unfold State.imageVerified; simp

@[simp ↓] theorem State.imageCommand_mem (s : State) (v : Nat) : (State.imageCommand s v).mem = s.mem := by
  unfold State.imageCommand
  repeat' first | (simp; done) | split | simp

@[simp ↓] theorem State.raiseMinimum_mem (s : State) : (State.raiseMinimum s).mem = s.mem := by unfold State.raiseMinimum; simp

@[simp ↓] theorem State.writeKeySlot_mem (s : State) (key : Bytes) : (State.writeKeySlot s key).mem = s.mem := by unfold State.writeKeySlot; simp

@[simp ↓] theorem State.takeKeyRecord_mem (s : State) (record : Bytes) : (State.takeKeyRecord s record).mem = s.mem := by
  unfold State.takeKeyRecord
  repeat' first | (simp; done) | split | simp

@[simp ↓] theorem State.startMigration_mem (s : State) : (State.startMigration s).mem = s.mem := by
  unfold State.startMigration
  repeat' first | (simp; done) | split | simp

@[simp ↓] theorem State.moveWindows_mem (s : State) (r : Fin 10) (t : Fin 10) : (State.moveWindows s r t).mem = s.mem := by
  unfold State.moveWindows
  repeat' first
    | (simp; done)
    | split
    | (intro _)
    | (with_reducible refine (State.foldl_mem (fun _ _ => ?_) _ _).trans ?_)
    | (with_reducible refine (State.foldl_snd_mem (fun _ _ => ?_) _ _).trans ?_)
    | (with_reducible refine (State.foldl_fst_mem (fun _ _ => ?_) _ _).trans ?_)
    | (dsimp only)
    | simp
    | (rw [State.allocFrame_mem (by assumption)])
    | (rw [State.ensurePage_mem (by assumption)])
    | (rw [State.ensureAll_mem (by assumption)])
    | (with_reducible refine State.of_snd (f := State.mem) (by assumption) ?_)
    | (with_reducible refine State.of_fst (f := State.mem) (by assumption) ?_)

@[simp ↓] theorem State.movePools_mem (s : State) (r : Fin 10) (t : Fin 10) : (State.movePools s r t).mem = s.mem := by
  unfold State.movePools
  repeat' first
    | (simp; done)
    | split
    | (intro _)
    | (with_reducible refine (State.foldl_mem (fun _ _ => ?_) _ _).trans ?_)
    | (with_reducible refine (State.foldl_snd_mem (fun _ _ => ?_) _ _).trans ?_)
    | (with_reducible refine (State.foldl_fst_mem (fun _ _ => ?_) _ _).trans ?_)
    | (dsimp only)
    | simp
    | (rw [State.allocFrame_mem (by assumption)])
    | (rw [State.ensurePage_mem (by assumption)])
    | (rw [State.ensureAll_mem (by assumption)])
    | (with_reducible refine State.of_snd (f := State.mem) (by assumption) ?_)
    | (with_reducible refine State.of_fst (f := State.mem) (by assumption) ?_)

@[simp ↓] theorem State.finishMigration_mem (s : State) : (State.finishMigration s).mem = s.mem := by
  unfold State.finishMigration
  repeat' first | (simp; done) | split | simp

/-! ## Sessions -/

@[simp ↓] theorem State.rejectFrame_mem (s : State) (source : Nat) (reason : Nat) : (State.rejectFrame s source reason).mem = s.mem := by unfold State.rejectFrame; simp

@[simp ↓] theorem State.modSession_mem (s : State) (b : BSession) (f : BSession → BSession) : (State.modSession s b f).mem = s.mem := by unfold State.modSession; simp

@[simp ↓] theorem State.endSession_mem (s : State) (b : BSession) : (State.endSession s b).mem = s.mem := by unfold State.endSession; simp

@[simp ↓] theorem State.sendFrame_mem (s : State) (b : BSession) (type : Nat) (payload : Bytes) : (State.sendFrame s b type payload).mem = s.mem := by
  unfold State.sendFrame
  repeat' first | (simp; done) | split | simp

@[simp ↓] theorem State.answerFrame_mem (s : State) (b : BSession) (seq : Nat) (a : Answer) : (State.answerFrame s b seq a).mem = s.mem := by unfold State.answerFrame; simp

@[simp ↓] theorem State.openRequest_mem (s : State) (f : BFrame) : (State.openRequest s f).mem = s.mem := by unfold State.openRequest; simp

@[simp ↓] theorem State.openTo_mem (s : State) (peer : Nat) : (State.openTo s peer).mem = s.mem := by unfold State.openTo; simp

@[simp ↓] theorem State.openResponse_mem (s : State) (f : BFrame) (nonce : Bytes) : (State.openResponse s f nonce).1.mem = s.mem := by
  unfold State.openResponse
  repeat' first | (simp; done) | split | simp

@[simp ↓] theorem State.sessionTimeout_mem (s : State) (num : Nat) : (State.sessionTimeout s num).mem = s.mem := by
  unfold State.sessionTimeout
  repeat' first | (simp; done) | split | simp

@[simp ↓] theorem State.repeatEmergency_mem (s : State) (num : Nat) (seq : Nat) : (State.repeatEmergency s num seq).mem = s.mem := by
  unfold State.repeatEmergency
  repeat' first | (simp; done) | split | simp

@[simp ↓] theorem State.reconfigure_mem (s : State) : (State.reconfigure s).mem = s.mem := by
  unfold State.reconfigure
  repeat' first
    | (simp; done)
    | split
    | (intro _)
    | (with_reducible refine (State.foldl_mem (fun _ _ => ?_) _ _).trans ?_)
    | (with_reducible refine (State.foldl_snd_mem (fun _ _ => ?_) _ _).trans ?_)
    | (with_reducible refine (State.foldl_fst_mem (fun _ _ => ?_) _ _).trans ?_)
    | (dsimp only)
    | simp
    | (rw [State.allocFrame_mem (by assumption)])
    | (rw [State.ensurePage_mem (by assumption)])
    | (rw [State.ensureAll_mem (by assumption)])
    | (with_reducible refine State.of_snd (f := State.mem) (by assumption) ?_)
    | (with_reducible refine State.of_fst (f := State.mem) (by assumption) ?_)

/-! ## Launch -/

@[simp ↓] theorem State.tell_mem (s : State) (type : Nat) (payload : Bytes) (peer : Nat) : (State.tell s type payload peer).mem = s.mem := by
  unfold State.tell
  repeat' first | (simp; done) | split | simp

@[simp ↓] theorem State.confirm_mem (s : State) : (State.confirm s).mem = s.mem := by
  unfold State.confirm
  repeat' first
    | (simp; done)
    | split
    | (intro _)
    | (with_reducible refine (State.foldl_mem (fun _ _ => ?_) _ _).trans ?_)
    | (with_reducible refine (State.foldl_snd_mem (fun _ _ => ?_) _ _).trans ?_)
    | (with_reducible refine (State.foldl_fst_mem (fun _ _ => ?_) _ _).trans ?_)
    | (dsimp only)
    | simp
    | (rw [State.allocFrame_mem (by assumption)])
    | (rw [State.ensurePage_mem (by assumption)])
    | (rw [State.ensureAll_mem (by assumption)])
    | (with_reducible refine State.of_snd (f := State.mem) (by assumption) ?_)
    | (with_reducible refine State.of_fst (f := State.mem) (by assumption) ?_)

@[simp ↓] theorem State.proposeAt_mem (s : State) (count : Nat) (auto : Bool) : (State.proposeAt s count auto).mem = s.mem := by
  unfold State.proposeAt
  repeat' first
    | (simp; done)
    | split
    | (intro _)
    | (with_reducible refine (State.foldl_mem (fun _ _ => ?_) _ _).trans ?_)
    | (with_reducible refine (State.foldl_snd_mem (fun _ _ => ?_) _ _).trans ?_)
    | (with_reducible refine (State.foldl_fst_mem (fun _ _ => ?_) _ _).trans ?_)
    | (dsimp only)
    | simp
    | (rw [State.allocFrame_mem (by assumption)])
    | (rw [State.ensurePage_mem (by assumption)])
    | (rw [State.ensureAll_mem (by assumption)])
    | (with_reducible refine State.of_snd (f := State.mem) (by assumption) ?_)
    | (with_reducible refine State.of_fst (f := State.mem) (by assumption) ?_)

@[simp ↓] theorem State.propose_mem (s : State) (count : Nat) : (State.propose s count).mem = s.mem := by unfold State.propose; simp

@[simp ↓] theorem State.ackTimeout_mem (s : State) : (State.ackTimeout s).mem = s.mem := by
  unfold State.ackTimeout
  repeat' first
    | (simp; done)
    | split
    | (intro _)
    | (with_reducible refine (State.foldl_mem (fun _ _ => ?_) _ _).trans ?_)
    | (with_reducible refine (State.foldl_snd_mem (fun _ _ => ?_) _ _).trans ?_)
    | (with_reducible refine (State.foldl_fst_mem (fun _ _ => ?_) _ _).trans ?_)
    | (dsimp only)
    | simp
    | (rw [State.allocFrame_mem (by assumption)])
    | (rw [State.ensurePage_mem (by assumption)])
    | (rw [State.ensureAll_mem (by assumption)])
    | (with_reducible refine State.of_snd (f := State.mem) (by assumption) ?_)
    | (with_reducible refine State.of_fst (f := State.mem) (by assumption) ?_)

@[simp ↓] theorem State.repeatConfirm_mem (s : State) : (State.repeatConfirm s).mem = s.mem := by
  unfold State.repeatConfirm
  repeat' first
    | (simp; done)
    | split
    | (intro _)
    | (with_reducible refine (State.foldl_mem (fun _ _ => ?_) _ _).trans ?_)
    | (with_reducible refine (State.foldl_snd_mem (fun _ _ => ?_) _ _).trans ?_)
    | (with_reducible refine (State.foldl_fst_mem (fun _ _ => ?_) _ _).trans ?_)
    | (dsimp only)
    | simp
    | (rw [State.allocFrame_mem (by assumption)])
    | (rw [State.ensurePage_mem (by assumption)])
    | (rw [State.ensureAll_mem (by assumption)])
    | (with_reducible refine State.of_snd (f := State.mem) (by assumption) ?_)
    | (with_reducible refine State.of_fst (f := State.mem) (by assumption) ?_)

@[simp ↓] theorem State.abortDeadline_mem (s : State) : (State.abortDeadline s).mem = s.mem := by
  unfold State.abortDeadline
  repeat' first | (simp; done) | split | simp

@[simp ↓] theorem State.acknowledged_mem (s : State) (b : BSession) (payload : Bytes) : (State.acknowledged s b payload).mem = s.mem := by unfold State.acknowledged; simp

@[simp ↓] theorem State.confirmAnswered_mem (s : State) (b : BSession) : (State.confirmAnswered s b).mem = s.mem := by unfold State.confirmAnswered; simp

@[simp ↓] theorem State.sessionOpened_mem (s : State) (b : BSession) : (State.sessionOpened s b).mem = s.mem := by unfold State.sessionOpened; simp

@[simp ↓] theorem State.takeProposal_mem (s : State) (b : BSession) (seq : Nat) (p : Bytes) : (State.takeProposal s b seq p).mem = s.mem := by unfold State.takeProposal; simp

@[simp ↓] theorem State.takeConfirm_mem (s : State) (b : BSession) (seq : Nat) (p : Bytes) : (State.takeConfirm s b seq p).mem = s.mem := by unfold State.takeConfirm; simp

@[simp ↓] theorem State.takeAbort_mem (s : State) (b : BSession) (seq : Nat) (p : Bytes) : (State.takeAbort s b seq p).mem = s.mem := by unfold State.takeAbort; simp

@[simp ↓] theorem State.autolaunch_mem (s : State) : (State.autolaunch s).mem = s.mem := by unfold State.autolaunch; simp

/-! ## Perf -/

@[simp ↓] theorem State.zeroCounters_mem (s : State) : (State.zeroCounters s).mem = s.mem := by unfold State.zeroCounters; simp

@[simp ↓] theorem State.askZero_mem (s : State) : (State.askZero s).mem = s.mem := by unfold State.askZero; simp

@[simp ↓] theorem State.zeroIfDue_mem (s : State) : (State.zeroIfDue s).mem = s.mem := by unfold State.zeroIfDue; simp

@[simp ↓] theorem State.latchDump_mem (s : State) : (State.latchDump s).mem = s.mem := by unfold State.latchDump; simp

/-! ## Apply -/

@[simp ↓] theorem State.onUnit_mem (s : State) (n : Nat) (i : Nat) (f : Fin n → State) (hr : ∀ k, (f k).mem = s.mem) : (State.onUnit s n i f).mem = s.mem := by unfold State.onUnit; simp [hr]

@[simp ↓] theorem State.keepWindows_mem (s : State) (keys : List Key) : (State.keepWindows s keys).mem = s.mem := by unfold State.keepWindows; simp

@[simp ↓] theorem State.setEntries_mem (s : State) (es : List (Key × Val)) : (State.setEntries s es).mem = s.mem := by
  unfold State.setEntries
  repeat' first
    | (simp; done)
    | split
    | (intro _)
    | (with_reducible refine (State.foldl_mem (fun _ _ => ?_) _ _).trans ?_)
    | (with_reducible refine (State.foldl_snd_mem (fun _ _ => ?_) _ _).trans ?_)
    | (with_reducible refine (State.foldl_fst_mem (fun _ _ => ?_) _ _).trans ?_)
    | (dsimp only)
    | simp
    | (rw [State.allocFrame_mem (by assumption)])
    | (rw [State.ensurePage_mem (by assumption)])
    | (rw [State.ensureAll_mem (by assumption)])
    | (with_reducible refine State.of_snd (f := State.mem) (by assumption) ?_)
    | (with_reducible refine State.of_fst (f := State.mem) (by assumption) ?_)

@[simp ↓] theorem State.setupDomain_mem (s : State) (d : Fin 2) : (State.setupDomain s d).mem = s.mem := by unfold State.setupDomain; simp

@[simp ↓] theorem State.applyPending_mem (s : State) : (State.applyPending s).mem = s.mem := by
  unfold State.applyPending
  repeat' first
    | (simp; done)
    | split
    | (intro _)
    | (with_reducible refine (State.foldl_mem (fun _ _ => ?_) _ _).trans ?_)
    | (with_reducible refine (State.foldl_snd_mem (fun _ _ => ?_) _ _).trans ?_)
    | (with_reducible refine (State.foldl_fst_mem (fun _ _ => ?_) _ _).trans ?_)
    | (dsimp only)
    | simp
    | (rw [State.allocFrame_mem (by assumption)])
    | (rw [State.ensurePage_mem (by assumption)])
    | (rw [State.ensureAll_mem (by assumption)])
    | (with_reducible refine State.of_snd (f := State.mem) (by assumption) ?_)
    | (with_reducible refine State.of_fst (f := State.mem) (by assumption) ?_)

/-! ## Commit -/

@[simp ↓] theorem State.startImplicit_mem (fuel : Nat) (s : State) : (State.startImplicit fuel s).mem = s.mem := by
  induction fuel generalizing s with
  | zero => simp [State.startImplicit]
  | succ n ih =>
    unfold State.startImplicit
    split
    · split
      · rfl
      · split <;> simp_all
    · rfl

@[simp ↓] theorem State.startInstant_mem (s : State) : (State.startInstant s).mem = s.mem := by
  unfold State.startInstant
  repeat' first
    | (simp; done)
    | split
    | (intro _)
    | (with_reducible refine (State.foldl_mem (fun _ _ => ?_) _ _).trans ?_)
    | (with_reducible refine (State.foldl_snd_mem (fun _ _ => ?_) _ _).trans ?_)
    | (with_reducible refine (State.foldl_fst_mem (fun _ _ => ?_) _ _).trans ?_)
    | (dsimp only)
    | simp
    | (rw [State.allocFrame_mem (by assumption)])
    | (rw [State.ensurePage_mem (by assumption)])
    | (rw [State.ensureAll_mem (by assumption)])
    | (with_reducible refine State.of_snd (f := State.mem) (by assumption) ?_)
    | (with_reducible refine State.of_fst (f := State.mem) (by assumption) ?_)

@[simp ↓] theorem State.makePending_mem (s : State) (es : List (Key × Val)) : (State.makePending s es).mem = s.mem := by unfold State.makePending; simp

@[simp ↓] theorem State.stage_mem (s : State) (key : Key) (v : Val) : (State.stage s key v).1.mem = s.mem := by
  unfold State.stage
  repeat' first | (simp; done) | split | simp

@[simp ↓] theorem State.openGroup_mem (s : State) (ses : Session) : (State.openGroup s ses).1.mem = s.mem := by
  unfold State.openGroup
  repeat' first | (simp; done) | split | simp

@[simp ↓] theorem State.refuseGroup_mem (s : State) (code : Nat) (detail : Nat) : (State.refuseGroup s code detail).1.mem = s.mem := by unfold State.refuseGroup; simp

@[simp ↓] theorem State.dropPassed_mem (s : State) : (State.dropPassed s).mem = s.mem := by
  unfold State.dropPassed
  repeat' first | (simp; done) | split | simp

@[simp ↓] theorem State.discardGroup_mem (s : State) (why : Nat) : (State.discardGroup s why).mem = s.mem := by
  unfold State.discardGroup
  repeat' first | (simp; done) | split | simp

@[simp ↓] theorem State.groupIdle_mem (s : State) : (State.groupIdle s).mem = s.mem := by unfold State.groupIdle; simp

/-! ## Server -/

@[simp ↓] theorem State.takeCopy_mem (s : State) (ses : Session) (key : Key) (data : Bytes) : (State.takeCopy s ses key data).mem = s.mem := by unfold State.takeCopy; simp

@[simp ↓] theorem State.serveRead_mem (s : State) (ses : Session) (it : Item) : (State.serveRead s ses it).1.mem = s.mem := by
  unfold State.serveRead
  repeat' first | (simp; done) | split | simp

@[simp ↓] theorem State.storeAll_mem (s : State) (flash : Nat) : (State.storeAll s flash).1.mem = s.mem := by
  unfold State.storeAll
  repeat' first | (simp; done) | split | simp

@[simp ↓] theorem State.withWrite_mem (s : State) (ses : Session) (key : Key) (v : Val) : (State.withWrite s ses key v).mem = s.mem := by
  unfold State.withWrite
  repeat' first
    | (simp; done)
    | split
    | (intro _)
    | (with_reducible refine (State.foldl_mem (fun _ _ => ?_) _ _).trans ?_)
    | (with_reducible refine (State.foldl_snd_mem (fun _ _ => ?_) _ _).trans ?_)
    | (with_reducible refine (State.foldl_fst_mem (fun _ _ => ?_) _ _).trans ?_)
    | (dsimp only)
    | simp
    | (rw [State.allocFrame_mem (by assumption)])
    | (rw [State.ensurePage_mem (by assumption)])
    | (rw [State.ensureAll_mem (by assumption)])
    | (with_reducible refine State.of_snd (f := State.mem) (by assumption) ?_)
    | (with_reducible refine State.of_fst (f := State.mem) (by assumption) ?_)

theorem State.submitRefused_mem {s t : State} {key : Key} {v : Nat} (e : s.submitRefused key v = some t) : t.mem = s.mem := by
  unfold State.submitRefused at e
  split at e
  · dsimp only at e
    split at e
    · injection e with e; rw [← e]; simp
    · split at e
      · injection e with e; rw [← e]
      · cases e
  · cases e

@[simp ↓] theorem State.crustWrite_mem (s : State) (key : Key) : (State.crustWrite s key).mem = s.mem := by unfold State.crustWrite; simp

@[simp ↓] theorem State.touchGroup_mem (s : State) (ses : Session) (key : Key) : (State.touchGroup s ses key).mem = s.mem := by unfold State.touchGroup; simp

@[simp ↓] theorem State.assemble_mem (s : State) (ses : Session) (key : Key) (it : Item) : (State.assemble s ses key it).1.mem = s.mem := by
  unfold State.assemble
  repeat' first | (simp; done) | split | simp

@[simp ↓] theorem State.modWork_mem (s : State) (path : Nat) (turn : Nat) (f : Work → Work) : (State.modWork s path turn f).mem = s.mem := by unfold State.modWork; simp

@[simp ↓] theorem State.answerMailbox_mem (s : State) (seq : Nat) (items : List RespItem) : (State.answerMailbox s seq items).mem = s.mem := by unfold State.answerMailbox; simp

@[simp ↓] theorem State.answerSdo_mem (s : State) (index : Nat) (sub : Nat) (items : List RespItem) : (State.answerSdo s index sub items).mem = s.mem := by unfold State.answerSdo; simp

@[simp ↓] theorem State.reply_mem (s : State) (w : Work) : (State.reply s w).mem = s.mem := by
  unfold State.reply
  repeat' first | (simp; done) | split | simp

@[simp ↓] theorem State.beginWork_mem (s : State) (path : Nat) (w : Work) : (State.beginWork s path w).mem = s.mem := by unfold State.beginWork; simp

/-! ## Paths -/

@[simp ↓] theorem State.sequenced_mem (s : State) (b : BSession) (f : BFrame) (go : State → State) (hr : ∀ a, (go a).mem = a.mem) : (State.sequenced s b f go).mem = s.mem := by
  unfold State.sequenced
  repeat' first | (simp [hr]; done) | split | simp [hr]

@[simp ↓] theorem State.frameLaunch_mem (s : State) (b : BSession) (f : BFrame) (length : Nat) (take : State → BSession → Nat → Bytes → State) (hr : ∀ a b n p, (take a b n p).mem = a.mem) : (State.frameLaunch s b f length take).mem = s.mem := by unfold State.frameLaunch; simp [hr]

@[simp ↓] theorem State.frameAcknowledge_mem (s : State) (b : BSession) (f : BFrame) : (State.frameAcknowledge s b f).mem = s.mem := by unfold State.frameAcknowledge; simp

@[simp ↓] theorem State.frameOpened_mem (s : State) (f : BFrame) : (State.frameOpened s f).mem = s.mem := by
  unfold State.frameOpened
  repeat' first | (simp; done) | split | simp

@[simp ↓] theorem State.setSdo_mem (s : State) (x : Option SdoXfer) : (State.setSdo s x).mem = s.mem := by unfold State.setSdo; simp

@[simp ↓] theorem State.sdoUpload_mem (s : State) (toggle : Bool) : (State.sdoUpload s toggle).mem = s.mem := by
  unfold State.sdoUpload
  repeat' first | (simp; done) | split | simp

@[simp ↓] theorem State.sdoStalls_mem (s : State) : (State.sdoStalls s).mem = s.mem := by
  unfold State.sdoStalls
  repeat' first | (simp; done) | split | simp

@[simp ↓] theorem State.nmtAct_mem (s : State) (ctl : Fin 4) (node : Nat) (cmd : NmtCmd) : (State.nmtAct s ctl node cmd).mem = s.mem := by
  unfold State.nmtAct
  repeat' first | (simp; done) | split | simp

@[simp ↓] theorem State.beatHeart_mem (s : State) : (State.beatHeart s).mem = s.mem := by unfold State.beatHeart; simp

@[simp ↓] theorem State.inhibitEnds_mem (s : State) : (State.inhibitEnds s).mem = s.mem := by
  unfold State.inhibitEnds
  repeat' first | (simp; done) | split | simp

@[simp ↓] theorem State.sendPdo_mem (s : State) (n : Fin 16) : (State.sendPdo s n).mem = s.mem := by unfold State.sendPdo; simp

@[simp ↓] theorem State.sendSrdo_mem (s : State) (n : Fin 8) : (State.sendSrdo s n).mem = s.mem := by unfold State.sendSrdo; simp

/-! ## Release -/

@[simp ↓] theorem State.hostBytes_mem (s : State) (size : Nat) (p : Payload) : (State.hostBytes s size p).2.mem = s.mem := by
  unfold State.hostBytes
  repeat' first | (simp; done) | split | simp

@[simp ↓] theorem State.missAt_mem (s : State) (beat : Nat) (r : Report) : (State.missAt s beat r).mem = s.mem := by unfold State.missAt; simp

@[simp ↓] theorem State.beginBeat_mem (s : State) (n : Nat) : (State.beginBeat s n).mem = s.mem := by unfold State.beginBeat; simp

@[simp ↓] theorem State.pauseAtBeat_mem (s : State) (run : Run) (n : Nat) : (State.pauseAtBeat s run n).mem = s.mem := by
  unfold State.pauseAtBeat
  repeat' first
    | (simp; done)
    | split
    | (intro _)
    | (with_reducible refine (State.foldl_mem (fun _ _ => ?_) _ _).trans ?_)
    | (with_reducible refine (State.foldl_snd_mem (fun _ _ => ?_) _ _).trans ?_)
    | (with_reducible refine (State.foldl_fst_mem (fun _ _ => ?_) _ _).trans ?_)
    | (dsimp only)
    | simp
    | (rw [State.allocFrame_mem (by assumption)])
    | (rw [State.ensurePage_mem (by assumption)])
    | (rw [State.ensureAll_mem (by assumption)])
    | (rw [State.submitRefused_mem (by assumption)])
    | (with_reducible refine State.of_snd (f := State.mem) (by assumption) ?_)
    | (with_reducible refine State.of_fst (f := State.mem) (by assumption) ?_)

@[simp ↓] theorem State.resumeAtBeat_mem (s : State) (run : Run) (n : Nat) : (State.resumeAtBeat s run n).mem = s.mem := by
  unfold State.resumeAtBeat
  repeat' first
    | (simp; done)
    | split
    | (intro _)
    | (with_reducible refine (State.foldl_mem (fun _ _ => ?_) _ _).trans ?_)
    | (with_reducible refine (State.foldl_snd_mem (fun _ _ => ?_) _ _).trans ?_)
    | (with_reducible refine (State.foldl_fst_mem (fun _ _ => ?_) _ _).trans ?_)
    | (dsimp only)
    | simp
    | (rw [State.allocFrame_mem (by assumption)])
    | (rw [State.ensurePage_mem (by assumption)])
    | (rw [State.ensureAll_mem (by assumption)])
    | (rw [State.submitRefused_mem (by assumption)])
    | (with_reducible refine State.of_snd (f := State.mem) (by assumption) ?_)
    | (with_reducible refine State.of_fst (f := State.mem) (by assumption) ?_)

@[simp ↓] theorem State.resetDue_mem (s : State) (beat : Nat) : (State.resetDue s beat).mem = s.mem := by unfold State.resetDue; simp

@[simp ↓] theorem State.launchBlocks_mem (s : State) (im : Image) (pace : Bool) : (State.launchBlocks s im pace).mem = s.mem := by
  unfold State.launchBlocks
  repeat' first
    | (simp; done)
    | split
    | (intro _)
    | (with_reducible refine (State.foldl_mem (fun _ _ => ?_) _ _).trans ?_)
    | (with_reducible refine (State.foldl_snd_mem (fun _ _ => ?_) _ _).trans ?_)
    | (with_reducible refine (State.foldl_fst_mem (fun _ _ => ?_) _ _).trans ?_)
    | (dsimp only)
    | simp
    | (rw [State.allocFrame_mem (by assumption)])
    | (rw [State.ensurePage_mem (by assumption)])
    | (rw [State.ensureAll_mem (by assumption)])
    | (rw [State.submitRefused_mem (by assumption)])
    | (with_reducible refine State.of_snd (f := State.mem) (by assumption) ?_)
    | (with_reducible refine State.of_fst (f := State.mem) (by assumption) ?_)

@[simp ↓] theorem State.launchLine_mem (s : State) : (State.launchLine s).mem = s.mem := by unfold State.launchLine; simp

@[simp ↓] theorem State.discoverAll_mem (s : State) (cams : List (Fin 24 × Discovery)) : (State.discoverAll s cams).mem = s.mem := by
  unfold State.discoverAll
  repeat' first
    | (simp; done)
    | split
    | (intro _)
    | (with_reducible refine (State.foldl_mem (fun _ _ => ?_) _ _).trans ?_)
    | (with_reducible refine (State.foldl_snd_mem (fun _ _ => ?_) _ _).trans ?_)
    | (with_reducible refine (State.foldl_fst_mem (fun _ _ => ?_) _ _).trans ?_)
    | (dsimp only)
    | simp
    | (rw [State.allocFrame_mem (by assumption)])
    | (rw [State.ensurePage_mem (by assumption)])
    | (rw [State.ensureAll_mem (by assumption)])
    | (rw [State.submitRefused_mem (by assumption)])
    | (with_reducible refine State.of_snd (f := State.mem) (by assumption) ?_)
    | (with_reducible refine State.of_fst (f := State.mem) (by assumption) ?_)

@[simp ↓] theorem State.launchTime_mem (s : State) (count : Nat) : (State.launchTime s count).mem = s.mem := by unfold State.launchTime; simp

@[simp ↓] theorem State.firstBeat_mem (s : State) : (State.firstBeat s).mem = s.mem := by unfold State.firstBeat; simp

@[simp ↓] theorem State.fixPlan_mem (s : State) : (State.fixPlan s).mem = s.mem := by unfold State.fixPlan; simp

end Sys2Proof.Machine
end

