-- ==== Sys2Proof/Laws/MemWf.lean ====
section
/-!
SUPPORT. What writes the memories keeps their canonical form: one lemma per operation that answers a state, tagged for simp.
-/

set_option linter.all false

namespace Sys2Proof.Machine

/-! ## Ops -/

@[simp] theorem Mem.mk_wf (a b c : List Host.Cell) : (Mem.mk a b c).wf = (cellsWf a && cellsWf b && cellsWf c) := rfl

@[simp] theorem Mem.hbm_wf (m : Mem) (h : m.wf = true) : cellsWf m.hbm = true := by
  simp only [Mem.wf, Bool.and_eq_true] at h; exact h.1.1

@[simp] theorem Mem.rmem_wf (m : Mem) (h : m.wf = true) : cellsWf m.rmem = true := by
  simp only [Mem.wf, Bool.and_eq_true] at h; exact h.1.2

@[simp] theorem Mem.spad_wf (m : Mem) (h : m.wf = true) : cellsWf m.spad = true := by
  simp only [Mem.wf, Bool.and_eq_true] at h; exact h.2

@[simp] theorem cellsWf_nil : cellsWf [] = true := rfl

@[simp] theorem Mem.ite_wf (c : Prop) [Decidable c] (a b : Mem) : (if c then a else b).wf = if c then a.wf else b.wf := apply_ite _ _ _ _

@[simp] theorem Mem.dite_wf (c : Prop) [Decidable c] (a : c → Mem) (b : ¬c → Mem) :
    (if h : c then a h else b h).wf = if h : c then (a h).wf else (b h).wf := apply_dite _ _ _ _

theorem State.of_snd_wf {α : Type} {p : α × State} {x : α} {t : State} (h : p = (x, t)) (k : p.2.mem.wf = true) : t.mem.wf = true := by
  subst h; exact k

theorem State.of_fst_wf {α : Type} {p : State × α} {x : α} {t : State} (h : p = (t, x)) (k : p.1.mem.wf = true) : t.mem.wf = true := by
  subst h; exact k

theorem State.snd_eq {α : Type} {p : α × State} {x : α} {t : State} (h : p = (x, t)) : t = p.2 := by rw [h]

theorem State.foldl_wf {α : Type} {f : State → α → State} (h : ∀ a x, a.mem.wf = true → (f a x).mem.wf = true) (l : List α) (s : State)
    (hs : s.mem.wf = true) : (l.foldl f s).mem.wf = true := by
  induction l generalizing s with
  | nil => exact hs
  | cons x l ih => exact ih _ (h _ _ hs)

theorem State.foldl_fst_wf {α β : Type} {f : State × β → α → State × β} (h : ∀ a x, a.1.mem.wf = true → (f a x).1.mem.wf = true) (l : List α)
    (s : State × β) (hs : s.1.mem.wf = true) : (l.foldl f s).1.mem.wf = true := by
  induction l generalizing s with
  | nil => exact hs
  | cons x l ih => exact ih _ (h _ _ hs)

theorem State.foldl_snd_wf {α β : Type} {f : β × State → α → β × State} (h : ∀ a x, a.2.mem.wf = true → (f a x).2.mem.wf = true) (l : List α)
    (s : β × State) (hs : s.2.mem.wf = true) : (l.foldl f s).2.mem.wf = true := by
  induction l generalizing s with
  | nil => exact hs
  | cons x l ih => exact ih _ (h _ _ hs)

@[simp ↓, simp] theorem State.modMem_wf (s : State) (f : Mem → Mem) (h : (f s.mem).wf = true) : (State.modMem s f).mem.wf = true := h

@[simp ↓, simp] theorem State.store_wf (s : State) (p : MemRef) (bs : Bytes) (h : s.mem.wf = true) : (State.store s p bs).mem.wf = true := by
  unfold State.store; simpa using Mem.put_wf _ _ _ h

/-! ## Operands -/

@[simp ↓, simp] theorem State.complete_wf (s : State) (r : Fin 10) (b : Nat) (hh : BitVec 128) (status : Nat) (detail : Nat) (count : Nat) (invalid : Bool) (late : Bool) (h : s.mem.wf = true) : (State.complete s r b hh status detail count invalid late).mem.wf = true := by unfold State.complete; simp (maxDischargeDepth := 12) [*]

@[simp ↓, simp] theorem State.refuse_wf (s : State) (r : Fin 10) (b : Nat) (hh : BitVec 128) (status : Nat) (detail : Nat) (counted : Bool) (h : s.mem.wf = true) : (State.refuse s r b hh status detail counted).mem.wf = true := by unfold State.refuse; simp (maxDischargeDepth := 12) [*]

@[simp ↓, simp] theorem State.refuseHeader_wf (s : State) (r : Fin 10) (b : Nat) (hh : BitVec 128) (status : Nat) (h : s.mem.wf = true) : (State.refuseHeader s r b hh status).mem.wf = true := by unfold State.refuseHeader; simp (maxDischargeDepth := 12) [*]

@[simp ↓, simp] theorem State.refuseBody_wf (s : State) (r : Fin 10) (b : Nat) (hh : BitVec 128) (counted : Bool) (h : s.mem.wf = true) : (State.refuseBody s r b hh counted).mem.wf = true := by unfold State.refuseBody; simp (maxDischargeDepth := 12) [*]

@[simp ↓, simp] theorem State.endGuard_wf (s : State) (r : Fin 10) (b : Nat) (hh : BitVec 128) (p : MemRef) (h : s.mem.wf = true) : (State.endGuard s r b hh p).mem.wf = true := by unfold State.endGuard; simp (maxDischargeDepth := 12) [*]

@[simp ↓, simp] theorem State.deliverOut_wf (s : State) (r : Fin 10) (b : Nat) (hh : BitVec 128) (p : MemRef) (bs : Bytes) (invalid : Bool) (h : s.mem.wf = true) : (State.deliverOut s r b hh p bs invalid).mem.wf = true := by unfold State.deliverOut; simp (maxDischargeDepth := 12) [*]

/-! ## Records -/

@[simp ↓, simp] theorem State.winInvalidStats_wf (s : State) (r : Fin 10) (d : WinDesc) (h : s.mem.wf = true) : (State.winInvalidStats s r d).mem.wf = true := by unfold State.winInvalidStats; simp (maxDischargeDepth := 12) [*]

/-! ## Roles -/

@[simp ↓, simp] theorem State.endSelWait_wf (s : State) (r : Fin 10) (b : Fin 18) (w : SelWait) (cause : Nat) (h : s.mem.wf = true) : (State.endSelWait s r b w cause).mem.wf = true := by unfold State.endSelWait; simp (maxDischargeDepth := 12) [*]

@[simp ↓, simp] theorem State.cutChannel_wf (s : State) (stream : Nat) (r : Fin 10) (b : Fin 18) (side : Fin 2) (h : s.mem.wf = true) : (State.cutChannel s stream r b side).mem.wf = true := by
  unfold State.cutChannel
  repeat' first | (simp (maxDischargeDepth := 12) [*]; done) | split | simp (maxDischargeDepth := 12) [*]

@[simp ↓, simp] theorem State.endWaits_wf (s : State) (r : Fin 10) (b : Fin 18) (h : s.mem.wf = true) : (State.endWaits s r b).mem.wf = true := by
  unfold State.endWaits
  repeat' first
    | (with_reducible assumption)
    | (simp (maxDischargeDepth := 12) [*]; done)
    | (split <;> try (rename_i hq; with_reducible obtain rfl := State.snd_eq hq; clear hq))
    | (intro _)
    | (with_reducible refine State.foldl_wf (fun _ _ _ => ?_) _ _ ?_)
    | (with_reducible refine State.foldl_snd_wf (fun _ _ _ => ?_) _ _ ?_)
    | (with_reducible refine State.foldl_fst_wf (fun _ _ _ => ?_) _ _ ?_)
    | (dsimp only)
    | (with_reducible apply State.cutChannel_wf)
    | simp (maxDischargeDepth := 12) [*]
    | (rw [State.allocFrame_mem (by assumption)])
    | (rw [State.ensurePage_mem (by assumption)])
    | (rw [State.ensureAll_mem (by assumption)])
    | (rw [State.submitRefused_mem (by assumption)])
    | (with_reducible refine State.of_snd_wf (by assumption) ?_)
    | (with_reducible refine State.of_fst_wf (by assumption) ?_)

@[simp ↓, simp] theorem State.retireBlock_wf (s : State) (r : Fin 10) (b : Fin 18) (cause : Nat) (h : s.mem.wf = true) : (State.retireBlock s r b cause).mem.wf = true := by
  unfold State.retireBlock
  repeat' first | (simp (maxDischargeDepth := 12) [*]; done) | split | simp (maxDischargeDepth := 12) [*]

@[simp ↓, simp] theorem State.replaceCell_wf (s : State) (r : Fin 10) (b : Fin 18) (cell : Fin 65) (h : s.mem.wf = true) : (State.replaceCell s r b cell).mem.wf = true := by
  unfold State.replaceCell
  repeat' first | (simp (maxDischargeDepth := 12) [*]; done) | split | simp (maxDischargeDepth := 12) [*]

@[simp ↓, simp] theorem State.suspectCell_wf (s1 : State) (r : Fin 10) (b : Fin 18) (cell : Fin 65) (h : s1.mem.wf = true) : (State.suspectCell s1 r b cell).mem.wf = true := by
  unfold State.suspectCell
  repeat' first | (simp (maxDischargeDepth := 12) [*]; done) | split | simp (maxDischargeDepth := 12) [*]

@[simp ↓, simp] theorem State.residueMismatch_wf (s : State) (r : Fin 10) (b : Fin 18) (cell : Fin 65) (lane : Nat) (kind : Nat) (seq : Nat) (cls : Nat) (h : s.mem.wf = true) : (State.residueMismatch s r b cell lane kind seq cls).mem.wf = true := by unfold State.residueMismatch; simp (maxDischargeDepth := 12) [*]

@[simp ↓, simp] theorem State.bankExhausted_wf (s : State) (loc : BitVec 32) (h : s.mem.wf = true) : (State.bankExhausted s loc).mem.wf = true := by unfold State.bankExhausted; simp (maxDischargeDepth := 12) [*]

@[simp ↓, simp] theorem State.mapOut_wf (s : State) (loc : BitVec 32) (cause : Nat) (h : s.mem.wf = true) : (State.mapOut s loc cause).mem.wf = true := by
  unfold State.mapOut
  repeat' first | (simp (maxDischargeDepth := 12) [*]; done) | split | simp (maxDischargeDepth := 12) [*]

@[simp ↓, simp] theorem State.meetUpset_wf (s : State) (r : Fin 10) (b : Nat) (hh : BitVec 128) (st : Option Nat) (u : Upset) (h : s.mem.wf = true) : (State.meetUpset s r b hh st u).1.mem.wf = true := by
  unfold State.meetUpset
  repeat' first | (simp (maxDischargeDepth := 12) [*]; done) | split | simp (maxDischargeDepth := 12) [*]

@[simp ↓, simp] theorem State.meetUpsets_wf (s : State) (r : Fin 10) (b : Nat) (hh : BitVec 128) (us : List Upset) (reads : List (MemRef × Nat)) (h : s.mem.wf = true) : (State.meetUpsets s r b hh us reads).1.mem.wf = true := by
  unfold State.meetUpsets
  repeat' first
    | (with_reducible assumption)
    | (simp (maxDischargeDepth := 12) [*]; done)
    | (split <;> try (rename_i hq; with_reducible obtain rfl := State.snd_eq hq; clear hq))
    | (intro _)
    | (with_reducible refine State.foldl_wf (fun _ _ _ => ?_) _ _ ?_)
    | (with_reducible refine State.foldl_snd_wf (fun _ _ _ => ?_) _ _ ?_)
    | (with_reducible refine State.foldl_fst_wf (fun _ _ _ => ?_) _ _ ?_)
    | (dsimp only)
    | (with_reducible apply State.meetUpset_wf)
    | simp (maxDischargeDepth := 12) [*]
    | (rw [State.allocFrame_mem (by assumption)])
    | (rw [State.ensurePage_mem (by assumption)])
    | (rw [State.ensureAll_mem (by assumption)])
    | (rw [State.submitRefused_mem (by assumption)])
    | (with_reducible refine State.of_snd_wf (by assumption) ?_)
    | (with_reducible refine State.of_fst_wf (by assumption) ?_)

/-! ## Tensors -/

@[simp ↓, simp] theorem State.writeTensor_wf (s : State) (r : Fin 10) (b : Nat) (hh : BitVec 128) (fmt : Nat) (dst : MemRef) (stream : MemRef) (w : Written) (invalid : Bool) (h : s.mem.wf = true) : (State.writeTensor s r b hh fmt dst stream w invalid).mem.wf = true := by unfold State.writeTensor; simp (maxDischargeDepth := 12) [*]

@[simp ↓, simp] theorem State.tensorStats_wf (s : State) (r : Fin 10) (p : MemRef) (fmt : Nat) (slot : Option Nat) (xs : List Exact) (w : Written) (h : s.mem.wf = true) : (State.tensorStats s r p fmt slot xs w).mem.wf = true := by unfold State.tensorStats; simp (maxDischargeDepth := 12) [*]

@[simp ↓, simp] theorem State.tensorInvalid_wf (s : State) (r : Fin 10) (p : MemRef) (fmt : Nat) (slot : Option Nat) (h : s.mem.wf = true) : (State.tensorInvalid s r p fmt slot).mem.wf = true := by unfold State.tensorInvalid; simp (maxDischargeDepth := 12) [*]

/-! ## Execute -/

@[simp ↓, simp] theorem State.readOut_wf (s : State) (r : Fin 10) (b : Fin 18) (m : AccMode) (d : ExecDesc) (invalid : Bool) (ended : Bool) (h : s.mem.wf = true) : (State.readOut s r b m d invalid ended).mem.wf = true := by
  unfold State.readOut
  repeat' first | (simp (maxDischargeDepth := 12) [*]; done) | split | simp (maxDischargeDepth := 12) [*]

@[simp ↓, simp] theorem State.runExecute_wf (s : State) (r : Fin 10) (b : Fin 18) (m : AccMode) (d : ExecDesc) (h : s.mem.wf = true) : (State.runExecute s r b m d).mem.wf = true := by
  unfold State.runExecute
  repeat' first | (simp (maxDischargeDepth := 12) [*]; done) | split | simp (maxDischargeDepth := 12) [*]

@[simp ↓, simp] theorem State.startExecute_wf (s : State) (r : Fin 10) (b : Fin 18) (d : ExecDesc) (h : s.mem.wf = true) : (State.startExecute s r b d).mem.wf = true := by
  unfold State.startExecute
  repeat' first | (simp (maxDischargeDepth := 12) [*]; done) | split | simp (maxDischargeDepth := 12) [*]

/-! ## Quant -/

@[simp ↓, simp] theorem State.endInvalid_wf (s : State) (r : Fin 10) (hh : BitVec 128) (k : Option Skew) (st : Option Nat) (h : s.mem.wf = true) : (State.endInvalid s r hh k st).mem.wf = true := by
  unfold State.endInvalid
  repeat' first | (simp (maxDischargeDepth := 12) [*]; done) | split | simp (maxDischargeDepth := 12) [*]

@[simp ↓, simp] theorem State.runStats_wf (s : State) (r : Fin 10) (d : QuantDesc) (perChannel : Bool) (h : s.mem.wf = true) : (State.runStats s r d perChannel).mem.wf = true := by
  unfold State.runStats
  repeat' first | (simp (maxDischargeDepth := 12) [*]; done) | split | simp (maxDischargeDepth := 12) [*]

@[simp ↓, simp] theorem State.writeConvert_wf (s : State) (r : Fin 10) (d : QuantDesc) (t : Option RescaleTable) (fmt : Nat) (values : List (List Exact)) (h : s.mem.wf = true) : (State.writeConvert s r d t fmt values).mem.wf = true := by unfold State.writeConvert; simp (maxDischargeDepth := 12) [*]

@[simp ↓, simp] theorem State.runConvert_wf (s : State) (r : Fin 10) (d : QuantDesc) (t : Option RescaleTable) (h : s.mem.wf = true) : (State.runConvert s r d t).mem.wf = true := by
  unfold State.runConvert
  repeat' first | (simp (maxDischargeDepth := 12) [*]; done) | split | simp (maxDischargeDepth := 12) [*]

@[simp ↓, simp] theorem State.runScaleUpdate_wf (s : State) (r : Fin 10) (d : ScaleDesc) (h : s.mem.wf = true) : (State.runScaleUpdate s r d).mem.wf = true := by
  unfold State.runScaleUpdate
  repeat' first | (simp (maxDischargeDepth := 12) [*]; done) | split | simp (maxDischargeDepth := 12) [*]

@[simp ↓, simp] theorem State.optCopy_wf (s : State) (r : Fin 10) (d : OptDesc) (ws : List Exact) (h : s.mem.wf = true) : (State.optCopy s r d ws).mem.wf = true := by
  unfold State.optCopy
  repeat' first | (simp (maxDischargeDepth := 12) [*]; done) | split | simp (maxDischargeDepth := 12) [*]

@[simp ↓, simp] theorem State.optInvalid_wf (s : State) (r : Fin 10) (d : OptDesc) (h : s.mem.wf = true) : (State.optInvalid s r d).mem.wf = true := by
  unfold State.optInvalid
  repeat' first | (simp (maxDischargeDepth := 12) [*]; done) | split | simp (maxDischargeDepth := 12) [*]

@[simp ↓, simp] theorem State.updateElements_wf (s : State) (r : Fin 10) (d : OptDesc) (x : Slot) (old : OpRow × List Exact × List Exact) (h : s.mem.wf = true) : (State.updateElements s r d x old).mem.wf = true := by unfold State.updateElements; simp (maxDischargeDepth := 12) [*]

@[simp ↓, simp] theorem State.runOptStep_wf (s : State) (r : Fin 10) (d : OptDesc) (h : s.mem.wf = true) : (State.runOptStep s r d).mem.wf = true := by
  unfold State.runOptStep
  repeat' first | (simp (maxDischargeDepth := 12) [*]; done) | split | simp (maxDischargeDepth := 12) [*]

@[simp ↓, simp] theorem State.quant_wf (s : State) (r : Fin 10) (d : BitVec 128) (ok : Bool) (run : State → State) (hr : ∀ a, a.mem.wf = true → (run a).mem.wf = true) (h : s.mem.wf = true) : (State.quant s r d ok run).mem.wf = true := by
  unfold State.quant
  repeat' first
    | (with_reducible assumption)
    | (simp (maxDischargeDepth := 12) [*]; done)
    | (split <;> try (rename_i hq; with_reducible obtain rfl := State.snd_eq hq; clear hq))
    | (intro _)
    | (with_reducible refine State.foldl_wf (fun _ _ _ => ?_) _ _ ?_)
    | (with_reducible refine State.foldl_snd_wf (fun _ _ _ => ?_) _ _ ?_)
    | (with_reducible refine State.foldl_fst_wf (fun _ _ _ => ?_) _ _ ?_)
    | (dsimp only)
    | (with_reducible apply State.refuseBody_wf)
    | simp (maxDischargeDepth := 12) [*]
    | (rw [State.allocFrame_mem (by assumption)])
    | (rw [State.ensurePage_mem (by assumption)])
    | (rw [State.ensureAll_mem (by assumption)])
    | (rw [State.submitRefused_mem (by assumption)])
    | (with_reducible refine State.of_snd_wf (by assumption) ?_)
    | (with_reducible refine State.of_fst_wf (by assumption) ?_)

@[simp ↓, simp] theorem State.startStats_wf (s : State) (r : Fin 10) (d : QuantDesc) (perChannel : Bool) (h : s.mem.wf = true) : (State.startStats s r d perChannel).mem.wf = true := by
  unfold State.startStats
  repeat' first
    | (with_reducible assumption)
    | (simp (maxDischargeDepth := 12) [*]; done)
    | (split <;> try (rename_i hq; with_reducible obtain rfl := State.snd_eq hq; clear hq))
    | (intro _)
    | (with_reducible refine State.foldl_wf (fun _ _ _ => ?_) _ _ ?_)
    | (with_reducible refine State.foldl_snd_wf (fun _ _ _ => ?_) _ _ ?_)
    | (with_reducible refine State.foldl_fst_wf (fun _ _ _ => ?_) _ _ ?_)
    | (dsimp only)
    | (with_reducible apply State.quant_wf)
    | (with_reducible apply State.runStats_wf)
    | simp (maxDischargeDepth := 12) [*]
    | (rw [State.allocFrame_mem (by assumption)])
    | (rw [State.ensurePage_mem (by assumption)])
    | (rw [State.ensureAll_mem (by assumption)])
    | (rw [State.submitRefused_mem (by assumption)])
    | (with_reducible refine State.of_snd_wf (by assumption) ?_)
    | (with_reducible refine State.of_fst_wf (by assumption) ?_)

@[simp ↓, simp] theorem State.startConvert_wf (s : State) (r : Fin 10) (d : QuantDesc) (h : s.mem.wf = true) : (State.startConvert s r d).mem.wf = true := by
  unfold State.startConvert
  repeat' first
    | (with_reducible assumption)
    | (simp (maxDischargeDepth := 12) [*]; done)
    | (split <;> try (rename_i hq; with_reducible obtain rfl := State.snd_eq hq; clear hq))
    | (intro _)
    | (with_reducible refine State.foldl_wf (fun _ _ _ => ?_) _ _ ?_)
    | (with_reducible refine State.foldl_snd_wf (fun _ _ _ => ?_) _ _ ?_)
    | (with_reducible refine State.foldl_fst_wf (fun _ _ _ => ?_) _ _ ?_)
    | (dsimp only)
    | (with_reducible apply State.quant_wf)
    | (with_reducible apply State.runConvert_wf)
    | simp (maxDischargeDepth := 12) [*]
    | (rw [State.allocFrame_mem (by assumption)])
    | (rw [State.ensurePage_mem (by assumption)])
    | (rw [State.ensureAll_mem (by assumption)])
    | (rw [State.submitRefused_mem (by assumption)])
    | (with_reducible refine State.of_snd_wf (by assumption) ?_)
    | (with_reducible refine State.of_fst_wf (by assumption) ?_)

@[simp ↓, simp] theorem State.startScaleUpdate_wf (s : State) (r : Fin 10) (d : ScaleDesc) (h : s.mem.wf = true) : (State.startScaleUpdate s r d).mem.wf = true := by
  unfold State.startScaleUpdate
  repeat' first
    | (with_reducible assumption)
    | (simp (maxDischargeDepth := 12) [*]; done)
    | (split <;> try (rename_i hq; with_reducible obtain rfl := State.snd_eq hq; clear hq))
    | (intro _)
    | (with_reducible refine State.foldl_wf (fun _ _ _ => ?_) _ _ ?_)
    | (with_reducible refine State.foldl_snd_wf (fun _ _ _ => ?_) _ _ ?_)
    | (with_reducible refine State.foldl_fst_wf (fun _ _ _ => ?_) _ _ ?_)
    | (dsimp only)
    | (with_reducible apply State.quant_wf)
    | (with_reducible apply State.runScaleUpdate_wf)
    | simp (maxDischargeDepth := 12) [*]
    | (rw [State.allocFrame_mem (by assumption)])
    | (rw [State.ensurePage_mem (by assumption)])
    | (rw [State.ensureAll_mem (by assumption)])
    | (rw [State.submitRefused_mem (by assumption)])
    | (with_reducible refine State.of_snd_wf (by assumption) ?_)
    | (with_reducible refine State.of_fst_wf (by assumption) ?_)

@[simp ↓, simp] theorem State.startOptStep_wf (s : State) (r : Fin 10) (d : OptDesc) (h : s.mem.wf = true) : (State.startOptStep s r d).mem.wf = true := by
  unfold State.startOptStep
  repeat' first
    | (with_reducible assumption)
    | (simp (maxDischargeDepth := 12) [*]; done)
    | (split <;> try (rename_i hq; with_reducible obtain rfl := State.snd_eq hq; clear hq))
    | (intro _)
    | (with_reducible refine State.foldl_wf (fun _ _ _ => ?_) _ _ ?_)
    | (with_reducible refine State.foldl_snd_wf (fun _ _ _ => ?_) _ _ ?_)
    | (with_reducible refine State.foldl_fst_wf (fun _ _ _ => ?_) _ _ ?_)
    | (dsimp only)
    | (with_reducible apply State.quant_wf)
    | (with_reducible apply State.refuse_wf)
    | (with_reducible apply State.runOptStep_wf)
    | simp (maxDischargeDepth := 12) [*]
    | (rw [State.allocFrame_mem (by assumption)])
    | (rw [State.ensurePage_mem (by assumption)])
    | (rw [State.ensureAll_mem (by assumption)])
    | (rw [State.submitRefused_mem (by assumption)])
    | (with_reducible refine State.of_snd_wf (by assumption) ?_)
    | (with_reducible refine State.of_fst_wf (by assumption) ?_)

/-! ## Selvedge -/

@[simp ↓, simp] theorem State.writeLines_wf (s : State) (r : Fin 10) (b : Fin 18) (op : Nat) (d : WinDesc) (enc : List Written) (invalid : Bool) (h : s.mem.wf = true) : (State.writeLines s r b op d enc invalid).mem.wf = true := by
  unfold State.writeLines
  repeat' first
    | (with_reducible assumption)
    | (simp (maxDischargeDepth := 12) [*]; done)
    | (split <;> try (rename_i hq; with_reducible obtain rfl := State.snd_eq hq; clear hq))
    | (intro _)
    | (with_reducible refine State.foldl_wf (fun _ _ _ => ?_) _ _ ?_)
    | (with_reducible refine State.foldl_snd_wf (fun _ _ _ => ?_) _ _ ?_)
    | (with_reducible refine State.foldl_fst_wf (fun _ _ _ => ?_) _ _ ?_)
    | (dsimp only)
    | (with_reducible apply State.store_wf)
    | simp (maxDischargeDepth := 12) [*]
    | (rw [State.allocFrame_mem (by assumption)])
    | (rw [State.ensurePage_mem (by assumption)])
    | (rw [State.ensureAll_mem (by assumption)])
    | (rw [State.submitRefused_mem (by assumption)])
    | (with_reducible refine State.of_snd_wf (by assumption) ?_)
    | (with_reducible refine State.of_fst_wf (by assumption) ?_)

@[simp ↓, simp] theorem State.endWindow_wf (s : State) (r : Fin 10) (b : Fin 18) (d : WinDesc) (status : Nat) (detail : Nat) (count : Nat) (invalid : Bool) (h : s.mem.wf = true) : (State.endWindow s r b d status detail count invalid).mem.wf = true := by unfold State.endWindow; simp (maxDischargeDepth := 12) [*]

@[simp ↓, simp] theorem State.emptyOutput_wf (s : State) (r : Fin 10) (b : Fin 18) (d : WinDesc) (h : s.mem.wf = true) : (State.emptyOutput s r b d).mem.wf = true := by unfold State.emptyOutput; simp (maxDischargeDepth := 12) [*]

@[simp ↓, simp] theorem State.producePort_wf (s : State) (r : Fin 10) (b : Fin 18) (op : Nat) (d : WinDesc) (w : WinData) (h : s.mem.wf = true) : (State.producePort s r b op d w).mem.wf = true := by unfold State.producePort; simp (maxDischargeDepth := 12) [*]

@[simp ↓, simp] theorem State.produceConv_wf (s : State) (r : Fin 10) (b : Fin 18) (m : AccMode) (t : Option RescaleTable) (d : WinDesc) (w : WinData) (weights : List Pix) (h : s.mem.wf = true) : (State.produceConv s r b m t d w weights).mem.wf = true := by unfold State.produceConv; simp (maxDischargeDepth := 12) [*]

@[simp ↓, simp] theorem State.produceInvalid_wf (s : State) (r : Fin 10) (b : Fin 18) (d : WinDesc) (status : Nat) (detail : Nat) (h : s.mem.wf = true) : (State.produceInvalid s r b d status detail).mem.wf = true := by
  unfold State.produceInvalid
  repeat' first
    | (with_reducible assumption)
    | (simp (maxDischargeDepth := 12) [*]; done)
    | (split <;> try (rename_i hq; with_reducible obtain rfl := State.snd_eq hq; clear hq))
    | (intro _)
    | (with_reducible refine State.foldl_wf (fun _ _ _ => ?_) _ _ ?_)
    | (with_reducible refine State.foldl_snd_wf (fun _ _ _ => ?_) _ _ ?_)
    | (with_reducible refine State.foldl_fst_wf (fun _ _ _ => ?_) _ _ ?_)
    | (dsimp only)
    | (with_reducible apply State.store_wf)
    | (with_reducible apply State.tensorInvalid_wf)
    | (with_reducible apply State.endWindow_wf)
    | simp (maxDischargeDepth := 12) [*]
    | (rw [State.allocFrame_mem (by assumption)])
    | (rw [State.ensurePage_mem (by assumption)])
    | (rw [State.ensureAll_mem (by assumption)])
    | (rw [State.submitRefused_mem (by assumption)])
    | (with_reducible refine State.of_snd_wf (by assumption) ?_)
    | (with_reducible refine State.of_fst_wf (by assumption) ?_)

@[simp ↓, simp] theorem State.runConv_wf (s : State) (r : Fin 10) (b : Fin 18) (m : AccMode) (t : Option RescaleTable) (d : WinDesc) (row : OpRow) (w : WinData) (status : Option Nat) (h : s.mem.wf = true) : (State.runConv s r b m t d row w status).mem.wf = true := by
  unfold State.runConv
  repeat' first | (simp (maxDischargeDepth := 12) [*]; done) | split | simp (maxDischargeDepth := 12) [*]

@[simp ↓, simp] theorem State.finishWindow_wf (s : State) (r : Fin 10) (b : Fin 18) (op : Nat) (d : WinDesc) (got : Nat → List (CoilPart × Int × SelEntry)) (status : Option Nat) (h : s.mem.wf = true) : (State.finishWindow s r b op d got status).mem.wf = true := by
  unfold State.finishWindow
  repeat' first | (simp (maxDischargeDepth := 12) [*]; done) | split | simp (maxDischargeDepth := 12) [*]

@[simp ↓, simp] theorem State.endMismatch_wf (s : State) (r : Fin 10) (b : Fin 18) (d : WinDesc) (side : Nat) (line : Int) (kind : Nat) (h : s.mem.wf = true) : (State.endMismatch s r b d side line kind).mem.wf = true := by unfold State.endMismatch; simp (maxDischargeDepth := 12) [*]

@[simp ↓, simp] theorem State.endLost_wf (s : State) (r : Fin 10) (b : Fin 18) (d : WinDesc) (side : Nat) (h : s.mem.wf = true) : (State.endLost s r b d side).mem.wf = true := by unfold State.endLost; simp (maxDischargeDepth := 12) [*]

@[simp ↓, simp] theorem State.tryWindow_wf (s : State) (r : Fin 10) (b : Fin 18) (op : Nat) (d : WinDesc) (status : Option Nat) (h : s.mem.wf = true) : (State.tryWindow s r b op d status).mem.wf = true := by
  unfold State.tryWindow
  repeat' first | (simp (maxDischargeDepth := 12) [*]; done) | split | simp (maxDischargeDepth := 12) [*]

@[simp ↓, simp] theorem State.resumeWindow_wf (s : State) (r : Fin 10) (b : Fin 18) (h : s.mem.wf = true) : (State.resumeWindow s r b).mem.wf = true := by
  unfold State.resumeWindow
  repeat' first | (simp (maxDischargeDepth := 12) [*]; done) | split | simp (maxDischargeDepth := 12) [*]

@[simp ↓, simp] theorem State.refuseWindow_wf (s : State) (r : Fin 10) (b : Fin 18) (hh : BitVec 128) (reason : Nat) (h : s.mem.wf = true) : (State.refuseWindow s r b hh reason).mem.wf = true := by unfold State.refuseWindow; simp (maxDischargeDepth := 12) [*]

@[simp ↓, simp] theorem State.beginWindow_wf (s : State) (r : Fin 10) (b : Fin 18) (op : Nat) (d : WinDesc) (h : s.mem.wf = true) : (State.beginWindow s r b op d).mem.wf = true := by
  unfold State.beginWindow
  repeat' first | (simp (maxDischargeDepth := 12) [*]; done) | split | simp (maxDischargeDepth := 12) [*]

@[simp ↓, simp] theorem State.startWindow_wf (s : State) (r : Fin 10) (b : Fin 18) (command : Nat) (d : WinDesc) (h : s.mem.wf = true) : (State.startWindow s r b command d).mem.wf = true := by
  unfold State.startWindow
  repeat' first | (simp (maxDischargeDepth := 12) [*]; done) | split | simp (maxDischargeDepth := 12) [*]

@[simp ↓, simp] theorem State.selvedgeArrives_wf (s : State) (r : Fin 10) (b : Fin 18) (side : Fin 2) (header : BitVec 64) (payload : Bytes) (cls : Nat) (ecc : Nat) (h : s.mem.wf = true) : (State.selvedgeArrives s r b side header payload cls ecc).mem.wf = true := by
  unfold State.selvedgeArrives
  repeat' first | (simp (maxDischargeDepth := 12) [*]; done) | split | simp (maxDischargeDepth := 12) [*]

@[simp ↓, simp] theorem State.selvedgeTimeout_wf (s : State) (r : Fin 10) (b : Fin 18) (side : Fin 2) (h : s.mem.wf = true) : (State.selvedgeTimeout s r b side).mem.wf = true := by
  unfold State.selvedgeTimeout
  repeat' first | (simp (maxDischargeDepth := 12) [*]; done) | split | simp (maxDischargeDepth := 12) [*]

/-! ## Detection -/

@[simp ↓, simp] theorem State.refuseDetect_wf (s : State) (r : Fin 10) (d : ZooDesc) (h : s.mem.wf = true) : (State.refuseDetect s r d).mem.wf = true := by unfold State.refuseDetect; simp (maxDischargeDepth := 12) [*]

theorem State.checkPlaces_wf {s t : State} {r : Fin 10} {d : BitVec 128} {ps : List (MemRef × Nat × Bool)} (e : s.checkPlaces r d ps = some t)
    (h : s.mem.wf = true) : t.mem.wf = true := by
  unfold State.checkPlaces at e
  split at e
  · cases e; simp [*]
  · obtain ⟨p, -, rfl⟩ := Option.map_eq_some_iff.mp e; simp [*]

@[simp ↓, simp] theorem State.runDecode_wf (s : State) (r : Fin 10) (b : Fin 18) (d : ZooDesc) (h : s.mem.wf = true) : (State.runDecode s r b d).mem.wf = true := by
  unfold State.runDecode
  repeat' first
    | (with_reducible assumption)
    | (simp (maxDischargeDepth := 12) [*]; done)
    | (split <;> try (rename_i hq; with_reducible obtain rfl := State.snd_eq hq; clear hq))
    | (intro _)
    | (with_reducible refine State.foldl_wf (fun _ _ _ => ?_) _ _ ?_)
    | (with_reducible refine State.foldl_snd_wf (fun _ _ _ => ?_) _ _ ?_)
    | (with_reducible refine State.foldl_fst_wf (fun _ _ _ => ?_) _ _ ?_)
    | (dsimp only)
    | (with_reducible apply State.complete_wf)
    | (with_reducible apply State.deliverOut_wf)
    | (with_reducible apply State.meetUpsets_wf)
    | simp (maxDischargeDepth := 12) [*]
    | (rw [State.allocFrame_mem (by assumption)])
    | (rw [State.ensurePage_mem (by assumption)])
    | (rw [State.ensureAll_mem (by assumption)])
    | (rw [State.submitRefused_mem (by assumption)])
    | (with_reducible refine State.checkPlaces_wf (by assumption) ?_)
    | (with_reducible refine State.of_snd_wf (by assumption) ?_)
    | (with_reducible refine State.of_fst_wf (by assumption) ?_)

@[simp ↓, simp] theorem State.detection_wf (s : State) (r : Fin 10) (d : ZooDesc) (ok : Bool) (run : State → State) (hr : ∀ a, a.mem.wf = true → (run a).mem.wf = true) (h : s.mem.wf = true) : (State.detection s r d ok run).mem.wf = true := by
  unfold State.detection
  repeat' first
    | (with_reducible assumption)
    | (simp (maxDischargeDepth := 12) [*]; done)
    | (split <;> try (rename_i hq; with_reducible obtain rfl := State.snd_eq hq; clear hq))
    | (intro _)
    | (with_reducible refine State.foldl_wf (fun _ _ _ => ?_) _ _ ?_)
    | (with_reducible refine State.foldl_snd_wf (fun _ _ _ => ?_) _ _ ?_)
    | (with_reducible refine State.foldl_fst_wf (fun _ _ _ => ?_) _ _ ?_)
    | (dsimp only)
    | (with_reducible apply State.refuseDetect_wf)
    | simp (maxDischargeDepth := 12) [*]
    | (rw [State.allocFrame_mem (by assumption)])
    | (rw [State.ensurePage_mem (by assumption)])
    | (rw [State.ensureAll_mem (by assumption)])
    | (rw [State.submitRefused_mem (by assumption)])
    | (with_reducible refine State.checkPlaces_wf (by assumption) ?_)
    | (with_reducible refine State.of_snd_wf (by assumption) ?_)
    | (with_reducible refine State.of_fst_wf (by assumption) ?_)

@[simp ↓, simp] theorem State.startDecode_wf (s : State) (r : Fin 10) (b : Fin 18) (d : ZooDesc) (h : s.mem.wf = true) : (State.startDecode s r b d).mem.wf = true := by
  unfold State.startDecode
  repeat' first
    | (with_reducible assumption)
    | (simp (maxDischargeDepth := 12) [*]; done)
    | (split <;> try (rename_i hq; with_reducible obtain rfl := State.snd_eq hq; clear hq))
    | (intro _)
    | (with_reducible refine State.foldl_wf (fun _ _ _ => ?_) _ _ ?_)
    | (with_reducible refine State.foldl_snd_wf (fun _ _ _ => ?_) _ _ ?_)
    | (with_reducible refine State.foldl_fst_wf (fun _ _ _ => ?_) _ _ ?_)
    | (dsimp only)
    | (with_reducible apply State.detection_wf)
    | (with_reducible apply State.runDecode_wf)
    | simp (maxDischargeDepth := 12) [*]
    | (rw [State.allocFrame_mem (by assumption)])
    | (rw [State.ensurePage_mem (by assumption)])
    | (rw [State.ensureAll_mem (by assumption)])
    | (rw [State.submitRefused_mem (by assumption)])
    | (with_reducible refine State.checkPlaces_wf (by assumption) ?_)
    | (with_reducible refine State.of_snd_wf (by assumption) ?_)
    | (with_reducible refine State.of_fst_wf (by assumption) ?_)

@[simp ↓, simp] theorem State.runNms_wf (s : State) (r : Fin 10) (d : ZooDesc) (closeCount : Nat) (truncated : Bool) (h : s.mem.wf = true) : (State.runNms s r d closeCount truncated).mem.wf = true := by
  unfold State.runNms
  repeat' first
    | (with_reducible assumption)
    | (simp (maxDischargeDepth := 12) [*]; done)
    | (split <;> try (rename_i hq; with_reducible obtain rfl := State.snd_eq hq; clear hq))
    | (intro _)
    | (with_reducible refine State.foldl_wf (fun _ _ _ => ?_) _ _ ?_)
    | (with_reducible refine State.foldl_snd_wf (fun _ _ _ => ?_) _ _ ?_)
    | (with_reducible refine State.foldl_fst_wf (fun _ _ _ => ?_) _ _ ?_)
    | (dsimp only)
    | (with_reducible apply State.store_wf)
    | (with_reducible apply State.complete_wf)
    | (with_reducible apply State.meetUpsets_wf)
    | simp (maxDischargeDepth := 12) [*]
    | (rw [State.allocFrame_mem (by assumption)])
    | (rw [State.ensurePage_mem (by assumption)])
    | (rw [State.ensureAll_mem (by assumption)])
    | (rw [State.submitRefused_mem (by assumption)])
    | (with_reducible refine State.checkPlaces_wf (by assumption) ?_)
    | (with_reducible refine State.of_snd_wf (by assumption) ?_)
    | (with_reducible refine State.of_fst_wf (by assumption) ?_)

@[simp ↓, simp] theorem State.startNms_wf (s : State) (r : Fin 10) (d : ZooDesc) (closeCount : Nat) (truncated : Bool) (h : s.mem.wf = true) : (State.startNms s r d closeCount truncated).mem.wf = true := by
  unfold State.startNms
  repeat' first
    | (with_reducible assumption)
    | (simp (maxDischargeDepth := 12) [*]; done)
    | (split <;> try (rename_i hq; with_reducible obtain rfl := State.snd_eq hq; clear hq))
    | (intro _)
    | (with_reducible refine State.foldl_wf (fun _ _ _ => ?_) _ _ ?_)
    | (with_reducible refine State.foldl_snd_wf (fun _ _ _ => ?_) _ _ ?_)
    | (with_reducible refine State.foldl_fst_wf (fun _ _ _ => ?_) _ _ ?_)
    | (dsimp only)
    | (with_reducible apply State.detection_wf)
    | (with_reducible apply State.runNms_wf)
    | simp (maxDischargeDepth := 12) [*]
    | (rw [State.allocFrame_mem (by assumption)])
    | (rw [State.ensurePage_mem (by assumption)])
    | (rw [State.ensureAll_mem (by assumption)])
    | (rw [State.submitRefused_mem (by assumption)])
    | (with_reducible refine State.checkPlaces_wf (by assumption) ?_)
    | (with_reducible refine State.of_snd_wf (by assumption) ?_)
    | (with_reducible refine State.of_fst_wf (by assumption) ?_)

@[simp ↓, simp] theorem State.flushCarry_wf (s : State) (n : Fin 24) (h : s.mem.wf = true) : (State.flushCarry s n).mem.wf = true := by
  unfold State.flushCarry
  repeat' first | (simp (maxDischargeDepth := 12) [*]; done) | split | simp (maxDischargeDepth := 12) [*]

/-! ## Attention -/

@[simp ↓, simp] theorem State.showKv_wf (s : State) (old : State) (p : Fin 4) (h : s.mem.wf = true) : (State.showKv s old p).mem.wf = true := by
  unfold State.showKv
  repeat' first
    | (with_reducible assumption)
    | (simp (maxDischargeDepth := 12) [*]; done)
    | (split <;> try (rename_i hq; with_reducible obtain rfl := State.snd_eq hq; clear hq))
    | (intro _)
    | (with_reducible refine State.foldl_wf (fun _ _ _ => ?_) _ _ ?_)
    | (with_reducible refine State.foldl_snd_wf (fun _ _ _ => ?_) _ _ ?_)
    | (with_reducible refine State.foldl_fst_wf (fun _ _ _ => ?_) _ _ ?_)
    | (dsimp only)
    | (with_reducible apply State.store_wf)
    | simp (maxDischargeDepth := 12) [*]
    | (rw [State.allocFrame_mem (by assumption)])
    | (rw [State.ensurePage_mem (by assumption)])
    | (rw [State.ensureAll_mem (by assumption)])
    | (rw [State.submitRefused_mem (by assumption)])
    | (with_reducible refine State.checkPlaces_wf (by assumption) ?_)
    | (with_reducible refine State.of_snd_wf (by assumption) ?_)
    | (with_reducible refine State.of_fst_wf (by assumption) ?_)

@[simp ↓, simp] theorem State.showAllKv_wf (s : State) (h : s.mem.wf = true) : (State.showAllKv s).mem.wf = true := by
  unfold State.showAllKv
  repeat' first
    | (with_reducible assumption)
    | (simp (maxDischargeDepth := 12) [*]; done)
    | (split <;> try (rename_i hq; with_reducible obtain rfl := State.snd_eq hq; clear hq))
    | (intro _)
    | (with_reducible refine State.foldl_wf (fun _ _ _ => ?_) _ _ ?_)
    | (with_reducible refine State.foldl_snd_wf (fun _ _ _ => ?_) _ _ ?_)
    | (with_reducible refine State.foldl_fst_wf (fun _ _ _ => ?_) _ _ ?_)
    | (dsimp only)
    | (with_reducible apply State.showKv_wf)
    | simp (maxDischargeDepth := 12) [*]
    | (rw [State.allocFrame_mem (by assumption)])
    | (rw [State.ensurePage_mem (by assumption)])
    | (rw [State.ensureAll_mem (by assumption)])
    | (rw [State.submitRefused_mem (by assumption)])
    | (with_reducible refine State.checkPlaces_wf (by assumption) ?_)
    | (with_reducible refine State.of_snd_wf (by assumption) ?_)
    | (with_reducible refine State.of_fst_wf (by assumption) ?_)

@[simp ↓, simp] theorem State.refuseKv_wf (s : State) (r : Fin 10) (p : Fin 4) (hh : BitVec 128) (h : s.mem.wf = true) : (State.refuseKv s r p hh).mem.wf = true := by unfold State.refuseKv; simp (maxDischargeDepth := 12) [*]

@[simp ↓, simp] theorem State.exhaustKv_wf (s : State) (r : Fin 10) (p : Fin 4) (hh : BitVec 128) (n : Nat) (cause : Nat) (told : Bool) (h : s.mem.wf = true) : (State.exhaustKv s r p hh n cause told).mem.wf = true := by unfold State.exhaustKv; simp (maxDischargeDepth := 12) [*]

@[simp ↓, simp] theorem State.attention_wf (s : State) (r : Fin 10) (p : Fin 4) (d : BitVec 128) (ok : Bool) (run : State → State) (hr : ∀ a, a.mem.wf = true → (run a).mem.wf = true) (h : s.mem.wf = true) : (State.attention s r p d ok run).mem.wf = true := by
  unfold State.attention
  repeat' first
    | (with_reducible assumption)
    | (simp (maxDischargeDepth := 12) [*]; done)
    | (split <;> try (rename_i hq; with_reducible obtain rfl := State.snd_eq hq; clear hq))
    | (intro _)
    | (with_reducible refine State.foldl_wf (fun _ _ _ => ?_) _ _ ?_)
    | (with_reducible refine State.foldl_snd_wf (fun _ _ _ => ?_) _ _ ?_)
    | (with_reducible refine State.foldl_fst_wf (fun _ _ _ => ?_) _ _ ?_)
    | (dsimp only)
    | (with_reducible apply State.endGuard_wf)
    | (with_reducible apply State.showKv_wf)
    | (with_reducible apply State.refuseKv_wf)
    | simp (maxDischargeDepth := 12) [*]
    | (rw [State.allocFrame_mem (by assumption)])
    | (rw [State.ensurePage_mem (by assumption)])
    | (rw [State.ensureAll_mem (by assumption)])
    | (rw [State.submitRefused_mem (by assumption)])
    | (with_reducible refine State.checkPlaces_wf (by assumption) ?_)
    | (with_reducible refine State.of_snd_wf (by assumption) ?_)
    | (with_reducible refine State.of_fst_wf (by assumption) ?_)

@[simp ↓, simp] theorem State.endBadRecord_wf (s : State) (r : Fin 10) (p : Fin 4) (hh : BitVec 128) (n : Nat) (bad : List Page) (h : s.mem.wf = true) : (State.endBadRecord s r p hh n bad).mem.wf = true := by
  unfold State.endBadRecord
  repeat' first | (simp (maxDischargeDepth := 12) [*]; done) | split | simp (maxDischargeDepth := 12) [*]

@[simp ↓, simp] theorem State.writeTokens_wf (s : State) (n : Nat) (q : KvSeq) (rows : List (List Nat)) (h : s.mem.wf = true) : (State.writeTokens s n q rows).1.mem.wf = true := by
  unfold State.writeTokens
  repeat' first
    | (with_reducible assumption)
    | (simp (maxDischargeDepth := 12) [*]; done)
    | (split <;> try (rename_i hq; with_reducible obtain rfl := State.snd_eq hq; clear hq))
    | (intro _)
    | (with_reducible refine State.foldl_wf (fun _ _ _ => ?_) _ _ ?_)
    | (with_reducible refine State.foldl_snd_wf (fun _ _ _ => ?_) _ _ ?_)
    | (with_reducible refine State.foldl_fst_wf (fun _ _ _ => ?_) _ _ ?_)
    | (dsimp only)
    | (with_reducible apply State.store_wf)
    | simp (maxDischargeDepth := 12) [*]
    | (rw [State.allocFrame_mem (by assumption)])
    | (rw [State.ensurePage_mem (by assumption)])
    | (rw [State.ensureAll_mem (by assumption)])
    | (rw [State.submitRefused_mem (by assumption)])
    | (with_reducible refine State.checkPlaces_wf (by assumption) ?_)
    | (with_reducible refine State.of_snd_wf (by assumption) ?_)
    | (with_reducible refine State.of_fst_wf (by assumption) ?_)

@[simp ↓, simp] theorem State.appendStats_wf (s : State) (r : Fin 10) (d : AppendDesc) (fmt : Nat) (ls : List Latent) (h : s.mem.wf = true) : (State.appendStats s r d fmt ls).mem.wf = true := by unfold State.appendStats; simp (maxDischargeDepth := 12) [*]

@[simp ↓, simp] theorem State.runAppend_wf (s : State) (r : Fin 10) (d : AppendDesc) (h : s.mem.wf = true) : (State.runAppend s r d).mem.wf = true := by
  unfold State.runAppend
  repeat' first
    | (with_reducible assumption)
    | (simp (maxDischargeDepth := 12) [*]; done)
    | (split <;> try (rename_i hq; with_reducible obtain rfl := State.snd_eq hq; clear hq))
    | (intro _)
    | (with_reducible refine State.foldl_wf (fun _ _ _ => ?_) _ _ ?_)
    | (with_reducible refine State.foldl_snd_wf (fun _ _ _ => ?_) _ _ ?_)
    | (with_reducible refine State.foldl_fst_wf (fun _ _ _ => ?_) _ _ ?_)
    | (dsimp only)
    | (with_reducible apply State.complete_wf)
    | (with_reducible apply State.meetUpsets_wf)
    | (with_reducible apply State.refuseKv_wf)
    | (with_reducible apply State.exhaustKv_wf)
    | (with_reducible apply State.endBadRecord_wf)
    | (with_reducible apply State.writeTokens_wf)
    | (with_reducible apply State.appendStats_wf)
    | simp (maxDischargeDepth := 12) [*]
    | (rw [State.allocFrame_mem (by assumption)])
    | (rw [State.ensurePage_mem (by assumption)])
    | (rw [State.ensureAll_mem (by assumption)])
    | (rw [State.submitRefused_mem (by assumption)])
    | (with_reducible refine State.checkPlaces_wf (by assumption) ?_)
    | (with_reducible refine State.of_snd_wf (by assumption) ?_)
    | (with_reducible refine State.of_fst_wf (by assumption) ?_)

@[simp ↓, simp] theorem State.endRecompute_wf (s : State) (r : Fin 10) (p : Fin 4) (hh : BitVec 128) (n : Nat) (e : Recompute) (h : s.mem.wf = true) : (State.endRecompute s r p hh n e).mem.wf = true := by
  unfold State.endRecompute
  repeat' first | (simp (maxDischargeDepth := 12) [*]; done) | split | simp (maxDischargeDepth := 12) [*]

@[simp ↓, simp] theorem State.writeAttention_wf (s : State) (r : Fin 10) (d : ZooDesc) (firstValid : Nat) (recomputed : Bool) (late : Bool) (h : s.mem.wf = true) : (State.writeAttention s r d firstValid recomputed late).mem.wf = true := by
  unfold State.writeAttention
  repeat' first
    | (with_reducible assumption)
    | (simp (maxDischargeDepth := 12) [*]; done)
    | (split <;> try (rename_i hq; with_reducible obtain rfl := State.snd_eq hq; clear hq))
    | (intro _)
    | (with_reducible refine State.foldl_wf (fun _ _ _ => ?_) _ _ ?_)
    | (with_reducible refine State.foldl_snd_wf (fun _ _ _ => ?_) _ _ ?_)
    | (with_reducible refine State.foldl_fst_wf (fun _ _ _ => ?_) _ _ ?_)
    | (dsimp only)
    | (with_reducible apply State.attention_wf)
    | (with_reducible apply State.complete_wf)
    | (with_reducible apply State.deliverOut_wf)
    | simp (maxDischargeDepth := 12) [*]
    | (rw [State.allocFrame_mem (by assumption)])
    | (rw [State.ensurePage_mem (by assumption)])
    | (rw [State.ensureAll_mem (by assumption)])
    | (rw [State.submitRefused_mem (by assumption)])
    | (with_reducible refine State.checkPlaces_wf (by assumption) ?_)
    | (with_reducible refine State.of_snd_wf (by assumption) ?_)
    | (with_reducible refine State.of_fst_wf (by assumption) ?_)

@[simp ↓, simp] theorem State.attendOver_wf (s : State) (r : Fin 10) (d : ZooDesc) (n : Nat) (q : KvSeq) (h : s.mem.wf = true) : (State.attendOver s r d n q).mem.wf = true := by
  unfold State.attendOver
  repeat' first | (simp (maxDischargeDepth := 12) [*]; done) | split | simp (maxDischargeDepth := 12) [*]

@[simp ↓, simp] theorem State.endMissing_wf (s : State) (r : Fin 10) (d : ZooDesc) (k : Nat) (h : s.mem.wf = true) : (State.endMissing s r d k).mem.wf = true := by unfold State.endMissing; simp (maxDischargeDepth := 12) [*]

@[simp ↓, simp] theorem State.runAttend_wf (s : State) (r : Fin 10) (d : ZooDesc) (missing : Option Nat) (h : s.mem.wf = true) : (State.runAttend s r d missing).mem.wf = true := by
  unfold State.runAttend
  repeat' first
    | (with_reducible assumption)
    | (simp (maxDischargeDepth := 12) [*]; done)
    | (split <;> try (rename_i hq; with_reducible obtain rfl := State.snd_eq hq; clear hq))
    | (intro _)
    | (with_reducible refine State.foldl_wf (fun _ _ _ => ?_) _ _ ?_)
    | (with_reducible refine State.foldl_snd_wf (fun _ _ _ => ?_) _ _ ?_)
    | (with_reducible refine State.foldl_fst_wf (fun _ _ _ => ?_) _ _ ?_)
    | (dsimp only)
    | (with_reducible apply State.complete_wf)
    | (with_reducible apply State.meetUpsets_wf)
    | (with_reducible apply State.refuseKv_wf)
    | (with_reducible apply State.exhaustKv_wf)
    | (with_reducible apply State.endBadRecord_wf)
    | (with_reducible apply State.attendOver_wf)
    | (with_reducible apply State.endMissing_wf)
    | simp (maxDischargeDepth := 12) [*]
    | (rw [State.allocFrame_mem (by assumption)])
    | (rw [State.ensurePage_mem (by assumption)])
    | (rw [State.ensureAll_mem (by assumption)])
    | (rw [State.submitRefused_mem (by assumption)])
    | (with_reducible refine State.checkPlaces_wf (by assumption) ?_)
    | (with_reducible refine State.of_snd_wf (by assumption) ?_)
    | (with_reducible refine State.of_fst_wf (by assumption) ?_)

@[simp ↓, simp] theorem State.onSeq_wf (s : State) (r : Fin 10) (d : PageDesc) (ok : KvSeq → Bool) (run : KvSeq → State) (hr : ∀ q, (run q).mem.wf = true) (h : s.mem.wf = true) : (State.onSeq s r d ok run).mem.wf = true := by
  unfold State.onSeq
  repeat' first | (simp (maxDischargeDepth := 12) [*]; done) | split | simp (maxDischargeDepth := 12) [*]

@[simp ↓, simp] theorem State.pageDone_wf (s : State) (r : Fin 10) (d : PageDesc) (h : s.mem.wf = true) : (State.pageDone s r d).mem.wf = true := by unfold State.pageDone; simp (maxDischargeDepth := 12) [*]

@[simp ↓, simp] theorem State.pageOpen_wf (s : State) (r : Fin 10) (d : PageDesc) (h : s.mem.wf = true) : (State.pageOpen s r d).mem.wf = true := by unfold State.pageOpen; simp (maxDischargeDepth := 12) [*]

@[simp ↓, simp] theorem State.pageClose_wf (s : State) (r : Fin 10) (d : PageDesc) (h : s.mem.wf = true) : (State.pageClose s r d).mem.wf = true := by unfold State.pageClose; simp (maxDischargeDepth := 12) [*]

@[simp ↓, simp] theorem State.pageTrim_wf (s : State) (r : Fin 10) (d : PageDesc) (h : s.mem.wf = true) : (State.pageTrim s r d).mem.wf = true := by unfold State.pageTrim; simp (maxDischargeDepth := 12) [*]

@[simp ↓, simp] theorem State.pagePin_wf (s : State) (r : Fin 10) (d : PageDesc) (h : s.mem.wf = true) : (State.pagePin s r d).mem.wf = true := by
  unfold State.pagePin
  repeat' first
    | (with_reducible assumption)
    | (simp (maxDischargeDepth := 12) [*]; done)
    | (split <;> try (rename_i hq; with_reducible obtain rfl := State.snd_eq hq; clear hq))
    | (intro _)
    | (with_reducible refine State.foldl_wf (fun _ _ _ => ?_) _ _ ?_)
    | (with_reducible refine State.foldl_snd_wf (fun _ _ _ => ?_) _ _ ?_)
    | (with_reducible refine State.foldl_fst_wf (fun _ _ _ => ?_) _ _ ?_)
    | (dsimp only)
    | (with_reducible apply State.onSeq_wf)
    | (with_reducible apply State.complete_wf)
    | (with_reducible apply State.endRecompute_wf)
    | simp (maxDischargeDepth := 12) [*]
    | (rw [State.allocFrame_mem (by assumption)])
    | (rw [State.ensurePage_mem (by assumption)])
    | (rw [State.ensureAll_mem (by assumption)])
    | (rw [State.submitRefused_mem (by assumption)])
    | (with_reducible refine State.checkPlaces_wf (by assumption) ?_)
    | (with_reducible refine State.of_snd_wf (by assumption) ?_)
    | (with_reducible refine State.of_fst_wf (by assumption) ?_)

@[simp ↓, simp] theorem State.pageUnpin_wf (s : State) (r : Fin 10) (d : PageDesc) (h : s.mem.wf = true) : (State.pageUnpin s r d).mem.wf = true := by unfold State.pageUnpin; simp (maxDischargeDepth := 12) [*]

@[simp ↓, simp] theorem State.pageResume_wf (s : State) (r : Fin 10) (d : PageDesc) (h : s.mem.wf = true) : (State.pageResume s r d).mem.wf = true := by unfold State.pageResume; simp (maxDischargeDepth := 12) [*]

@[simp ↓, simp] theorem State.pageSet_wf (s : State) (r : Fin 10) (d : PageDesc) (h : s.mem.wf = true) : (State.pageSet s r d).mem.wf = true := by unfold State.pageSet; simp (maxDischargeDepth := 12) [*]

@[simp ↓, simp] theorem State.startAppend_wf (s : State) (r : Fin 10) (d : AppendDesc) (h : s.mem.wf = true) : (State.startAppend s r d).mem.wf = true := by
  unfold State.startAppend
  repeat' first
    | (with_reducible assumption)
    | (simp (maxDischargeDepth := 12) [*]; done)
    | (split <;> try (rename_i hq; with_reducible obtain rfl := State.snd_eq hq; clear hq))
    | (intro _)
    | (with_reducible refine State.foldl_wf (fun _ _ _ => ?_) _ _ ?_)
    | (with_reducible refine State.foldl_snd_wf (fun _ _ _ => ?_) _ _ ?_)
    | (with_reducible refine State.foldl_fst_wf (fun _ _ _ => ?_) _ _ ?_)
    | (dsimp only)
    | (with_reducible apply State.attention_wf)
    | (with_reducible apply State.runAppend_wf)
    | simp (maxDischargeDepth := 12) [*]
    | (rw [State.allocFrame_mem (by assumption)])
    | (rw [State.ensurePage_mem (by assumption)])
    | (rw [State.ensureAll_mem (by assumption)])
    | (rw [State.submitRefused_mem (by assumption)])
    | (with_reducible refine State.checkPlaces_wf (by assumption) ?_)
    | (with_reducible refine State.of_snd_wf (by assumption) ?_)
    | (with_reducible refine State.of_fst_wf (by assumption) ?_)

@[simp ↓, simp] theorem State.startAttend_wf (s : State) (r : Fin 10) (d : ZooDesc) (missing : Option Nat) (h : s.mem.wf = true) : (State.startAttend s r d missing).mem.wf = true := by
  unfold State.startAttend
  repeat' first
    | (with_reducible assumption)
    | (simp (maxDischargeDepth := 12) [*]; done)
    | (split <;> try (rename_i hq; with_reducible obtain rfl := State.snd_eq hq; clear hq))
    | (intro _)
    | (with_reducible refine State.foldl_wf (fun _ _ _ => ?_) _ _ ?_)
    | (with_reducible refine State.foldl_snd_wf (fun _ _ _ => ?_) _ _ ?_)
    | (with_reducible refine State.foldl_fst_wf (fun _ _ _ => ?_) _ _ ?_)
    | (dsimp only)
    | (with_reducible apply State.attention_wf)
    | (with_reducible apply State.runAttend_wf)
    | simp (maxDischargeDepth := 12) [*]
    | (rw [State.allocFrame_mem (by assumption)])
    | (rw [State.ensurePage_mem (by assumption)])
    | (rw [State.ensureAll_mem (by assumption)])
    | (rw [State.submitRefused_mem (by assumption)])
    | (with_reducible refine State.checkPlaces_wf (by assumption) ?_)
    | (with_reducible refine State.of_snd_wf (by assumption) ?_)
    | (with_reducible refine State.of_fst_wf (by assumption) ?_)

@[simp ↓, simp] theorem State.startPage_wf (s : State) (r : Fin 10) (d : PageDesc) (run : State → State) (hr : ∀ a, a.mem.wf = true → (run a).mem.wf = true) (h : s.mem.wf = true) : (State.startPage s r d run).mem.wf = true := by
  unfold State.startPage
  repeat' first
    | (with_reducible assumption)
    | (simp (maxDischargeDepth := 12) [*]; done)
    | (split <;> try (rename_i hq; with_reducible obtain rfl := State.snd_eq hq; clear hq))
    | (intro _)
    | (with_reducible refine State.foldl_wf (fun _ _ _ => ?_) _ _ ?_)
    | (with_reducible refine State.foldl_snd_wf (fun _ _ _ => ?_) _ _ ?_)
    | (with_reducible refine State.foldl_fst_wf (fun _ _ _ => ?_) _ _ ?_)
    | (dsimp only)
    | (with_reducible apply State.attention_wf)
    | simp (maxDischargeDepth := 12) [*]
    | (rw [State.allocFrame_mem (by assumption)])
    | (rw [State.ensurePage_mem (by assumption)])
    | (rw [State.ensureAll_mem (by assumption)])
    | (rw [State.submitRefused_mem (by assumption)])
    | (with_reducible refine State.checkPlaces_wf (by assumption) ?_)
    | (with_reducible refine State.of_snd_wf (by assumption) ?_)
    | (with_reducible refine State.of_fst_wf (by assumption) ?_)

/-! ## Camera -/

@[simp ↓, simp] theorem State.putLine_wf (s : State) (n : Nat) (i : Isp) (number : Nat) (line : Option (List (List Nat))) (h : s.mem.wf = true) : (State.putLine s n i number line).mem.wf = true := by
  unfold State.putLine
  repeat' first
    | (with_reducible assumption)
    | (simp (maxDischargeDepth := 12) [*]; done)
    | (split <;> try (rename_i hq; with_reducible obtain rfl := State.snd_eq hq; clear hq))
    | (intro _)
    | (with_reducible refine State.foldl_wf (fun _ _ _ => ?_) _ _ ?_)
    | (with_reducible refine State.foldl_snd_wf (fun _ _ _ => ?_) _ _ ?_)
    | (with_reducible refine State.foldl_fst_wf (fun _ _ _ => ?_) _ _ ?_)
    | (dsimp only)
    | (with_reducible apply State.store_wf)
    | simp (maxDischargeDepth := 12) [*]
    | (rw [State.allocFrame_mem (by assumption)])
    | (rw [State.ensurePage_mem (by assumption)])
    | (rw [State.ensureAll_mem (by assumption)])
    | (rw [State.submitRefused_mem (by assumption)])
    | (with_reducible refine State.checkPlaces_wf (by assumption) ?_)
    | (with_reducible refine State.of_snd_wf (by assumption) ?_)
    | (with_reducible refine State.of_fst_wf (by assumption) ?_)

@[simp ↓, simp] theorem State.putBlanks_wf (s : State) (n : Fin 24) (i : Isp) (number : Nat) (count : Nat) (h : s.mem.wf = true) : (State.putBlanks s n i number count).mem.wf = true := by
  unfold State.putBlanks
  repeat' first
    | (with_reducible assumption)
    | (simp (maxDischargeDepth := 12) [*]; done)
    | (split <;> try (rename_i hq; with_reducible obtain rfl := State.snd_eq hq; clear hq))
    | (intro _)
    | (with_reducible refine State.foldl_wf (fun _ _ _ => ?_) _ _ ?_)
    | (with_reducible refine State.foldl_snd_wf (fun _ _ _ => ?_) _ _ ?_)
    | (with_reducible refine State.foldl_fst_wf (fun _ _ _ => ?_) _ _ ?_)
    | (dsimp only)
    | (with_reducible apply State.putLine_wf)
    | simp (maxDischargeDepth := 12) [*]
    | (rw [State.allocFrame_mem (by assumption)])
    | (rw [State.ensurePage_mem (by assumption)])
    | (rw [State.ensureAll_mem (by assumption)])
    | (rw [State.submitRefused_mem (by assumption)])
    | (with_reducible refine State.checkPlaces_wf (by assumption) ?_)
    | (with_reducible refine State.of_snd_wf (by assumption) ?_)
    | (with_reducible refine State.of_fst_wf (by assumption) ?_)

@[simp ↓, simp] theorem State.writeStats_wf (s : State) (n : Fin 24) (i : Isp) (closeCount : Nat) (number : Nat) (incomplete : Bool) (a : StatAcc) (h : s.mem.wf = true) : (State.writeStats s n i closeCount number incomplete a).mem.wf = true := by
  unfold State.writeStats
  repeat' first
    | (with_reducible assumption)
    | (simp (maxDischargeDepth := 12) [*]; done)
    | (split <;> try (rename_i hq; with_reducible obtain rfl := State.snd_eq hq; clear hq))
    | (intro _)
    | (with_reducible refine State.foldl_wf (fun _ _ _ => ?_) _ _ ?_)
    | (with_reducible refine State.foldl_snd_wf (fun _ _ _ => ?_) _ _ ?_)
    | (with_reducible refine State.foldl_fst_wf (fun _ _ _ => ?_) _ _ ?_)
    | (dsimp only)
    | (with_reducible apply State.store_wf)
    | simp (maxDischargeDepth := 12) [*]
    | (rw [State.allocFrame_mem (by assumption)])
    | (rw [State.ensurePage_mem (by assumption)])
    | (rw [State.ensureAll_mem (by assumption)])
    | (rw [State.submitRefused_mem (by assumption)])
    | (with_reducible refine State.checkPlaces_wf (by assumption) ?_)
    | (with_reducible refine State.of_snd_wf (by assumption) ?_)
    | (with_reducible refine State.of_fst_wf (by assumption) ?_)

@[simp ↓, simp] theorem State.closeStats_wf (s : State) (n : Fin 24) (i : Isp) (phases : List Nat) (closeCount : Nat) (number : Nat) (incomplete : Bool) (h : s.mem.wf = true) : (State.closeStats s n i phases closeCount number incomplete).mem.wf = true := by
  unfold State.closeStats
  repeat' first
    | (with_reducible assumption)
    | (simp (maxDischargeDepth := 12) [*]; done)
    | (split <;> try (rename_i hq; with_reducible obtain rfl := State.snd_eq hq; clear hq))
    | (intro _)
    | (with_reducible refine State.foldl_wf (fun _ _ _ => ?_) _ _ ?_)
    | (with_reducible refine State.foldl_snd_wf (fun _ _ _ => ?_) _ _ ?_)
    | (with_reducible refine State.foldl_fst_wf (fun _ _ _ => ?_) _ _ ?_)
    | (dsimp only)
    | (with_reducible apply State.writeStats_wf)
    | simp (maxDischargeDepth := 12) [*]
    | (rw [State.allocFrame_mem (by assumption)])
    | (rw [State.ensurePage_mem (by assumption)])
    | (rw [State.ensureAll_mem (by assumption)])
    | (rw [State.submitRefused_mem (by assumption)])
    | (with_reducible refine State.checkPlaces_wf (by assumption) ?_)
    | (with_reducible refine State.of_snd_wf (by assumption) ?_)
    | (with_reducible refine State.of_fst_wf (by assumption) ?_)

@[simp ↓, simp] theorem State.closeLineTile_wf (s : State) (n : Fin 24) (closeCount : Nat) (h : s.mem.wf = true) : (State.closeLineTile s n closeCount).mem.wf = true := by unfold State.closeLineTile; simp (maxDischargeDepth := 12) [*]

@[simp ↓, simp] theorem State.deliverRow_wf (s : State) (n : Fin 24) (i : Isp) (y : Nat) (codes : List Nat) (h : s.mem.wf = true) : (State.deliverRow s n i y codes).mem.wf = true := by unfold State.deliverRow; simp (maxDischargeDepth := 12) [*]

@[simp ↓, simp] theorem State.deliverRows_wf (s : State) (n : Fin 24) (i : Isp) (upTo : Nat) (h : s.mem.wf = true) : (State.deliverRows s n i upTo).mem.wf = true := by
  unfold State.deliverRows
  repeat' first
    | (with_reducible assumption)
    | (simp (maxDischargeDepth := 12) [*]; done)
    | (split <;> try (rename_i hq; with_reducible obtain rfl := State.snd_eq hq; clear hq))
    | (intro _)
    | (with_reducible refine State.foldl_wf (fun _ _ _ => ?_) _ _ ?_)
    | (with_reducible refine State.foldl_snd_wf (fun _ _ _ => ?_) _ _ ?_)
    | (with_reducible refine State.foldl_fst_wf (fun _ _ _ => ?_) _ _ ?_)
    | (dsimp only)
    | (with_reducible apply State.deliverRow_wf)
    | simp (maxDischargeDepth := 12) [*]
    | (rw [State.allocFrame_mem (by assumption)])
    | (rw [State.ensurePage_mem (by assumption)])
    | (rw [State.ensureAll_mem (by assumption)])
    | (rw [State.submitRefused_mem (by assumption)])
    | (with_reducible refine State.checkPlaces_wf (by assumption) ?_)
    | (with_reducible refine State.of_snd_wf (by assumption) ?_)
    | (with_reducible refine State.of_fst_wf (by assumption) ?_)

@[simp ↓, simp] theorem State.cutFrame_wf (s : State) (n : Fin 24) (i : Isp) (cause : Nat) (y : Nat) (h : s.mem.wf = true) : (State.cutFrame s n i cause y).mem.wf = true := by
  unfold State.cutFrame
  repeat' first
    | (with_reducible assumption)
    | (simp (maxDischargeDepth := 12) [*]; done)
    | (split <;> try (rename_i hq; with_reducible obtain rfl := State.snd_eq hq; clear hq))
    | (intro _)
    | (with_reducible refine State.foldl_wf (fun _ _ _ => ?_) _ _ ?_)
    | (with_reducible refine State.foldl_snd_wf (fun _ _ _ => ?_) _ _ ?_)
    | (with_reducible refine State.foldl_fst_wf (fun _ _ _ => ?_) _ _ ?_)
    | (dsimp only)
    | (with_reducible apply State.putBlanks_wf)
    | (with_reducible apply State.closeStats_wf)
    | (with_reducible apply State.deliverRows_wf)
    | simp (maxDischargeDepth := 12) [*]
    | (rw [State.allocFrame_mem (by assumption)])
    | (rw [State.ensurePage_mem (by assumption)])
    | (rw [State.ensureAll_mem (by assumption)])
    | (rw [State.submitRefused_mem (by assumption)])
    | (with_reducible refine State.checkPlaces_wf (by assumption) ?_)
    | (with_reducible refine State.of_snd_wf (by assumption) ?_)
    | (with_reducible refine State.of_fst_wf (by assumption) ?_)

@[simp ↓, simp] theorem State.goStale_wf (s : State) (n : Fin 24) (which : Nat) (row : Option Nat) (h : s.mem.wf = true) : (State.goStale s n which row).mem.wf = true := by
  unfold State.goStale
  repeat' first | (simp (maxDischargeDepth := 12) [*]; done) | split | simp (maxDischargeDepth := 12) [*]

@[simp ↓, simp] theorem State.staleCheck_wf (s : State) (n : Fin 24) (advanced : Bool) (equal : Bool) (h : s.mem.wf = true) : (State.staleCheck s n advanced equal).mem.wf = true := by unfold State.staleCheck; simp (maxDischargeDepth := 12) [*]

@[simp ↓, simp] theorem State.takeLine_wf (s : State) (n : Fin 24) (i : Isp) (trigger : Nat) (count : Nat) (l : CamLine) (gap : Bool) (h : s.mem.wf = true) : (State.takeLine s n i trigger count l gap).mem.wf = true := by unfold State.takeLine; simp (maxDischargeDepth := 12) [*]

@[simp ↓, simp] theorem State.lineArrives_wf (s : State) (n : Fin 24) (l : CamLine) (h : s.mem.wf = true) : (State.lineArrives s n l).mem.wf = true := by
  unfold State.lineArrives
  repeat' first | (simp (maxDischargeDepth := 12) [*]; done) | split | simp (maxDischargeDepth := 12) [*]

@[simp ↓, simp] theorem State.takeRow_wf (s : State) (n : Fin 24) (i : Isp) (y : Nat) (l : CamLine) (gap : Bool) (h : s.mem.wf = true) : (State.takeRow s n i y l gap).mem.wf = true := by
  unfold State.takeRow
  repeat' first | (simp (maxDischargeDepth := 12) [*]; done) | split | simp (maxDischargeDepth := 12) [*]

@[simp ↓, simp] theorem State.rowArrives_wf (s : State) (n : Fin 24) (i : Isp) (y : Nat) (l : CamLine) (step : Nat) (h : s.mem.wf = true) : (State.rowArrives s n i y l step).mem.wf = true := by unfold State.rowArrives; simp (maxDischargeDepth := 12) [*]

@[simp ↓, simp] theorem State.frameLineArrives_wf (s : State) (n : Fin 24) (l : CamLine) (h : s.mem.wf = true) : (State.frameLineArrives s n l).mem.wf = true := by
  unfold State.frameLineArrives
  repeat' first | (simp (maxDischargeDepth := 12) [*]; done) | split | simp (maxDischargeDepth := 12) [*]

@[simp ↓, simp] theorem State.cameraLine_wf (s : State) (n : Fin 24) (l : CamLine) (h : s.mem.wf = true) : (State.cameraLine s n l).mem.wf = true := by unfold State.cameraLine; simp (maxDischargeDepth := 12) [*]

@[simp ↓, simp] theorem State.lateLine_wf (s : State) (n : Fin 24) (trigger : Nat) (count : Nat) (h : s.mem.wf = true) : (State.lateLine s n trigger count).mem.wf = true := by unfold State.lateLine; simp (maxDischargeDepth := 12) [*]

@[simp ↓, simp] theorem State.judgeLate_wf (s : State) (n : Fin 24) (h : s.mem.wf = true) : (State.judgeLate s n).mem.wf = true := by
  unfold State.judgeLate
  repeat' first | (simp (maxDischargeDepth := 12) [*]; done) | split | simp (maxDischargeDepth := 12) [*]

@[simp ↓, simp] theorem State.judgeSilence_wf (s : State) (n : Fin 24) (h : s.mem.wf = true) : (State.judgeSilence s n).mem.wf = true := by
  unfold State.judgeSilence
  repeat' first | (simp (maxDischargeDepth := 12) [*]; done) | split | simp (maxDischargeDepth := 12) [*]

@[simp ↓, simp] theorem State.sweepCuts_wf (s : State) (h : s.mem.wf = true) : (State.sweepCuts s).mem.wf = true := by
  unfold State.sweepCuts
  repeat' first
    | (with_reducible assumption)
    | (simp (maxDischargeDepth := 12) [*]; done)
    | (split <;> try (rename_i hq; with_reducible obtain rfl := State.snd_eq hq; clear hq))
    | (intro _)
    | (with_reducible refine State.foldl_wf (fun _ _ _ => ?_) _ _ ?_)
    | (with_reducible refine State.foldl_snd_wf (fun _ _ _ => ?_) _ _ ?_)
    | (with_reducible refine State.foldl_fst_wf (fun _ _ _ => ?_) _ _ ?_)
    | (dsimp only)
    | (with_reducible apply State.judgeLate_wf)
    | simp (maxDischargeDepth := 12) [*]
    | (rw [State.allocFrame_mem (by assumption)])
    | (rw [State.ensurePage_mem (by assumption)])
    | (rw [State.ensureAll_mem (by assumption)])
    | (rw [State.submitRefused_mem (by assumption)])
    | (with_reducible refine State.checkPlaces_wf (by assumption) ?_)
    | (with_reducible refine State.of_snd_wf (by assumption) ?_)
    | (with_reducible refine State.of_fst_wf (by assumption) ?_)

/-! ## Motion -/

@[simp ↓, simp] theorem State.deliverInputs_wf (s : State) (beat : Nat) (axes : List (Fin 16)) (h : s.mem.wf = true) : (State.deliverInputs s beat axes).mem.wf = true := by
  unfold State.deliverInputs
  repeat' first
    | (with_reducible assumption)
    | (simp (maxDischargeDepth := 12) [*]; done)
    | (split <;> try (rename_i hq; with_reducible obtain rfl := State.snd_eq hq; clear hq))
    | (intro _)
    | (with_reducible refine State.foldl_wf (fun _ _ _ => ?_) _ _ ?_)
    | (with_reducible refine State.foldl_snd_wf (fun _ _ _ => ?_) _ _ ?_)
    | (with_reducible refine State.foldl_fst_wf (fun _ _ _ => ?_) _ _ ?_)
    | (dsimp only)
    | (with_reducible apply State.store_wf)
    | simp (maxDischargeDepth := 12) [*]
    | (rw [State.allocFrame_mem (by assumption)])
    | (rw [State.ensurePage_mem (by assumption)])
    | (rw [State.ensureAll_mem (by assumption)])
    | (rw [State.submitRefused_mem (by assumption)])
    | (with_reducible refine State.checkPlaces_wf (by assumption) ?_)
    | (with_reducible refine State.of_snd_wf (by assumption) ?_)
    | (with_reducible refine State.of_fst_wf (by assumption) ?_)

@[simp ↓, simp] theorem State.sampleBeat_wf (s : State) (beat : Nat) (samples : List AxisSample) (h : s.mem.wf = true) : (State.sampleBeat s beat samples).mem.wf = true := by
  unfold State.sampleBeat
  repeat' first
    | (with_reducible assumption)
    | (simp (maxDischargeDepth := 12) [*]; done)
    | (split <;> try (rename_i hq; with_reducible obtain rfl := State.snd_eq hq; clear hq))
    | (intro _)
    | (with_reducible refine State.foldl_wf (fun _ _ _ => ?_) _ _ ?_)
    | (with_reducible refine State.foldl_snd_wf (fun _ _ _ => ?_) _ _ ?_)
    | (with_reducible refine State.foldl_fst_wf (fun _ _ _ => ?_) _ _ ?_)
    | (dsimp only)
    | (with_reducible apply State.deliverInputs_wf)
    | simp (maxDischargeDepth := 12) [*]
    | (rw [State.allocFrame_mem (by assumption)])
    | (rw [State.ensurePage_mem (by assumption)])
    | (rw [State.ensureAll_mem (by assumption)])
    | (rw [State.submitRefused_mem (by assumption)])
    | (with_reducible refine State.checkPlaces_wf (by assumption) ?_)
    | (with_reducible refine State.of_snd_wf (by assumption) ?_)
    | (with_reducible refine State.of_fst_wf (by assumption) ?_)

/-! ## Crust -/

@[simp ↓, simp] theorem State.starterRan_wf (s : State) (r : Fin 10) (b : Fin 18) (expected : Nat) (frame : Nat) (crc : Nat) (cell : Option (Fin 65)) (h : s.mem.wf = true) : (State.starterRan s r b expected frame crc cell).mem.wf = true := by
  unfold State.starterRan
  repeat' first | (simp (maxDischargeDepth := 12) [*]; done) | split | simp (maxDischargeDepth := 12) [*]

@[simp ↓, simp] theorem State.starterTest_wf (s : State) (r : Fin 10) (b : Fin 18) (ran : Bool) (frame : Nat) (crc : Nat) (cell : Option (Fin 65)) (h : s.mem.wf = true) : (State.starterTest s r b ran frame crc cell).mem.wf = true := by
  unfold State.starterTest
  repeat' first | (simp (maxDischargeDepth := 12) [*]; done) | split | simp (maxDischargeDepth := 12) [*]

/-! ## Intake -/

@[simp ↓, simp] theorem State.startSample_wf (s : State) (r : Fin 10) (q : Fin 8) (submission : Nat) (hh : BitVec 128) (tokens : Nat) (result : DecodeResult) (h : s.mem.wf = true) : (State.startSample s r q submission hh tokens result).mem.wf = true := by
  unfold State.startSample
  repeat' first | (simp (maxDischargeDepth := 12) [*]; done) | split | simp (maxDischargeDepth := 12) [*]

@[simp ↓, simp] theorem State.writeBatch_wf (s : State) (q : Fin 8) (credits : Nat) (h : s.mem.wf = true) : (State.writeBatch s q credits).mem.wf = true := by unfold State.writeBatch; simp (maxDischargeDepth := 12) [*]

/-! ## Network -/

@[simp ↓, simp] theorem State.qpExhausted_wf (s : State) (q : Fin 256) (why : Nat) (owner : Option (Fin 10 × BitVec 128)) (h : s.mem.wf = true) : (State.qpExhausted s q why owner).mem.wf = true := by
  unfold State.qpExhausted
  repeat' first | (simp (maxDischargeDepth := 12) [*]; done) | split | simp (maxDischargeDepth := 12) [*]

@[simp ↓, simp] theorem State.goBack_wf (s : State) (q : Fin 256) (owner : Option (Fin 10 × BitVec 128)) (h : s.mem.wf = true) : (State.goBack s q owner).mem.wf = true := by unfold State.goBack; simp (maxDischargeDepth := 12) [*]

@[simp ↓, simp] theorem State.ackOverdue_wf (s : State) (q : Fin 256) (owner : Option (Fin 10 × BitVec 128)) (h : s.mem.wf = true) : (State.ackOverdue s q owner).mem.wf = true := by unfold State.ackOverdue; simp (maxDischargeDepth := 12) [*]

@[simp ↓, simp] theorem State.rnrNak_wf (s : State) (q : Fin 256) (owner : Option (Fin 10 × BitVec 128)) (h : s.mem.wf = true) : (State.rnrNak s q owner).mem.wf = true := by unfold State.rnrNak; simp (maxDischargeDepth := 12) [*]

@[simp ↓, simp] theorem State.roceAck_wf (s : State) (q : Fin 256) (psn : Nat) (nak : Bool) (owner : Option (Fin 10 × BitVec 128)) (h : s.mem.wf = true) : (State.roceAck s q psn nak owner).mem.wf = true := by unfold State.roceAck; simp (maxDischargeDepth := 12) [*]

@[simp ↓, simp] theorem State.serveRdma_wf (s : State) (q : RdmaReq) (right : Nat) (write : Bool) (go : State → MemRef → State) (hr : ∀ a p, a.mem.wf = true → (go a p).mem.wf = true) (h : s.mem.wf = true) : (State.serveRdma s q right write go).mem.wf = true := by
  unfold State.serveRdma
  repeat' first | (simp (maxDischargeDepth := 12) [*]; done) | split | simp (maxDischargeDepth := 12) [*]

@[simp ↓, simp] theorem State.rdmaWriteReq_wf (s : State) (q : RdmaReq) (data : Bytes) (right : Nat) (h : s.mem.wf = true) : (State.rdmaWriteReq s q data right).mem.wf = true := by
  unfold State.rdmaWriteReq
  repeat' first
    | (with_reducible assumption)
    | (simp (maxDischargeDepth := 12) [*]; done)
    | (split <;> try (rename_i hq; with_reducible obtain rfl := State.snd_eq hq; clear hq))
    | (intro _)
    | (with_reducible refine State.foldl_wf (fun _ _ _ => ?_) _ _ ?_)
    | (with_reducible refine State.foldl_snd_wf (fun _ _ _ => ?_) _ _ ?_)
    | (with_reducible refine State.foldl_fst_wf (fun _ _ _ => ?_) _ _ ?_)
    | (dsimp only)
    | (with_reducible apply State.serveRdma_wf)
    | (with_reducible apply State.store_wf)
    | simp (maxDischargeDepth := 12) [*]
    | (rw [State.allocFrame_mem (by assumption)])
    | (rw [State.ensurePage_mem (by assumption)])
    | (rw [State.ensureAll_mem (by assumption)])
    | (rw [State.submitRefused_mem (by assumption)])
    | (with_reducible refine State.checkPlaces_wf (by assumption) ?_)
    | (with_reducible refine State.of_snd_wf (by assumption) ?_)
    | (with_reducible refine State.of_fst_wf (by assumption) ?_)

@[simp ↓, simp] theorem State.placePart_wf (s : State) (ring : Nat) (index : Nat) (data : Bytes) (h : s.mem.wf = true) : (State.placePart s ring index data).mem.wf = true := by
  unfold State.placePart
  repeat' first | (simp (maxDischargeDepth := 12) [*]; done) | split | simp (maxDischargeDepth := 12) [*]

@[simp ↓, simp] theorem State.takeRing_wf (s : State) (ring : Fin 4) (imm : BitVec 32) (data : Bytes) (h : s.mem.wf = true) : (State.takeRing s ring imm data).mem.wf = true := by unfold State.takeRing; simp (maxDischargeDepth := 12) [*]

@[simp ↓, simp] theorem State.ringMessage_wf (s : State) (q : RdmaReq) (data : Bytes) (imm : BitVec 32) (ring : Fin 4) (beat : Nat) (step : Nat) (h : s.mem.wf = true) : (State.ringMessage s q data imm ring beat step).mem.wf = true := by
  unfold State.ringMessage
  repeat' first
    | (with_reducible assumption)
    | (simp (maxDischargeDepth := 12) [*]; done)
    | (split <;> try (rename_i hq; with_reducible obtain rfl := State.snd_eq hq; clear hq))
    | (intro _)
    | (with_reducible refine State.foldl_wf (fun _ _ _ => ?_) _ _ ?_)
    | (with_reducible refine State.foldl_snd_wf (fun _ _ _ => ?_) _ _ ?_)
    | (with_reducible refine State.foldl_fst_wf (fun _ _ _ => ?_) _ _ ?_)
    | (dsimp only)
    | (with_reducible apply State.serveRdma_wf)
    | (with_reducible apply State.store_wf)
    | (with_reducible apply State.takeRing_wf)
    | simp (maxDischargeDepth := 12) [*]
    | (rw [State.allocFrame_mem (by assumption)])
    | (rw [State.ensurePage_mem (by assumption)])
    | (rw [State.ensureAll_mem (by assumption)])
    | (rw [State.submitRefused_mem (by assumption)])
    | (with_reducible refine State.checkPlaces_wf (by assumption) ?_)
    | (with_reducible refine State.of_snd_wf (by assumption) ?_)
    | (with_reducible refine State.of_fst_wf (by assumption) ?_)

@[simp ↓, simp] theorem State.enterRecord_wf (s : State) (q : Fin 16) (b : Bytes) (h : s.mem.wf = true) : (State.enterRecord s q b).mem.wf = true := by unfold State.enterRecord; simp (maxDischargeDepth := 12) [*]

@[simp ↓, simp] theorem State.enterRecords_wf (s : State) (q : Fin 16) (recs : List Bytes) (h : s.mem.wf = true) : (State.enterRecords s q recs).mem.wf = true := by
  unfold State.enterRecords
  repeat' first
    | (with_reducible assumption)
    | (simp (maxDischargeDepth := 12) [*]; done)
    | (split <;> try (rename_i hq; with_reducible obtain rfl := State.snd_eq hq; clear hq))
    | (intro _)
    | (with_reducible refine State.foldl_wf (fun _ _ _ => ?_) _ _ ?_)
    | (with_reducible refine State.foldl_snd_wf (fun _ _ _ => ?_) _ _ ?_)
    | (with_reducible refine State.foldl_fst_wf (fun _ _ _ => ?_) _ _ ?_)
    | (dsimp only)
    | (with_reducible apply State.enterRecord_wf)
    | simp (maxDischargeDepth := 12) [*]
    | (rw [State.allocFrame_mem (by assumption)])
    | (rw [State.ensurePage_mem (by assumption)])
    | (rw [State.ensureAll_mem (by assumption)])
    | (rw [State.submitRefused_mem (by assumption)])
    | (with_reducible refine State.checkPlaces_wf (by assumption) ?_)
    | (with_reducible refine State.of_snd_wf (by assumption) ?_)
    | (with_reducible refine State.of_fst_wf (by assumption) ?_)

@[simp ↓, simp] theorem State.pushHost_wf (s : State) (q : Fin 16) (b : Bytes) (h : s.mem.wf = true) : (State.pushHost s q b).mem.wf = true := by unfold State.pushHost; simp (maxDischargeDepth := 12) [*]

@[simp ↓, simp] theorem State.consumeTo_wf (s : State) (q : Fin 16) (index : Nat) (h : s.mem.wf = true) : (State.consumeTo s q index).mem.wf = true := by unfold State.consumeTo; simp (maxDischargeDepth := 12) [*]

@[simp ↓, simp] theorem State.drainTimeout_wf (s : State) (q : Fin 16) (h : s.mem.wf = true) : (State.drainTimeout s q).mem.wf = true := by
  unfold State.drainTimeout
  repeat' first | (simp (maxDischargeDepth := 12) [*]; done) | split | simp (maxDischargeDepth := 12) [*]

@[simp ↓, simp] theorem State.bar2_wf (s : State) (w : Fin 64) (offset : Nat) (data : Option Bytes) (length : Nat) (h : s.mem.wf = true) : (State.bar2 s w offset data length).mem.wf = true := by
  unfold State.bar2
  repeat' first | (simp (maxDischargeDepth := 12) [*]; done) | split | simp (maxDischargeDepth := 12) [*]

/-! ## Transfers -/

@[simp ↓, simp] theorem State.finishMove_wf (s : State) (r : Fin 10) (b : Nat) (seg : Option (Fin 18)) (d : MoveDesc) (bs : Bytes) (h : s.mem.wf = true) : (State.finishMove s r b seg d bs).mem.wf = true := by
  unfold State.finishMove
  repeat' first | (simp (maxDischargeDepth := 12) [*]; done) | split | simp (maxDischargeDepth := 12) [*]

@[simp ↓, simp] theorem State.runMove_wf (s : State) (r : Fin 10) (b : Nat) (seg : Option (Fin 18)) (d : MoveDesc) (h : s.mem.wf = true) : (State.runMove s r b seg d).mem.wf = true := by
  unfold State.runMove
  repeat' first | (simp (maxDischargeDepth := 12) [*]; done) | split | simp (maxDischargeDepth := 12) [*]

@[simp ↓, simp] theorem State.runAccess_wf (s : State) (r : Fin 10) (b : Fin 18) (d : MoveDesc) (h : s.mem.wf = true) : (State.runAccess s r b d).mem.wf = true := by unfold State.runAccess; simp (maxDischargeDepth := 12) [*]

@[simp ↓, simp] theorem State.runDma_wf (s : State) (r : Fin 10) (eng : Fin 2) (d : MoveDesc) (h : s.mem.wf = true) : (State.runDma s r eng d).mem.wf = true := by unfold State.runDma; simp (maxDischargeDepth := 12) [*]

@[simp ↓, simp] theorem State.doMapOut_wf (s : State) (loc : BitVec 32) (cause : Nat) (h : s.mem.wf = true) : (State.doMapOut s loc cause).mem.wf = true := by unfold State.doMapOut; simp (maxDischargeDepth := 12) [*]

@[simp ↓, simp] theorem State.runMapOut_wf (s : State) (loc : BitVec 32) (h : s.mem.wf = true) : (State.runMapOut s loc).mem.wf = true := by
  unfold State.runMapOut
  repeat' first | (simp (maxDischargeDepth := 12) [*]; done) | split | simp (maxDischargeDepth := 12) [*]

@[simp ↓, simp] theorem State.runQueued_wf (s : State) (r : Fin 10) (h : s.mem.wf = true) : (State.runQueued s r).mem.wf = true := by
  unfold State.runQueued
  repeat' first
    | (with_reducible assumption)
    | (simp (maxDischargeDepth := 12) [*]; done)
    | (split <;> try (rename_i hq; with_reducible obtain rfl := State.snd_eq hq; clear hq))
    | (intro _)
    | (with_reducible refine State.foldl_wf (fun _ _ _ => ?_) _ _ ?_)
    | (with_reducible refine State.foldl_snd_wf (fun _ _ _ => ?_) _ _ ?_)
    | (with_reducible refine State.foldl_fst_wf (fun _ _ _ => ?_) _ _ ?_)
    | (dsimp only)
    | (with_reducible apply State.doMapOut_wf)
    | simp (maxDischargeDepth := 12) [*]
    | (rw [State.allocFrame_mem (by assumption)])
    | (rw [State.ensurePage_mem (by assumption)])
    | (rw [State.ensureAll_mem (by assumption)])
    | (rw [State.submitRefused_mem (by assumption)])
    | (with_reducible refine State.checkPlaces_wf (by assumption) ?_)
    | (with_reducible refine State.of_snd_wf (by assumption) ?_)
    | (with_reducible refine State.of_fst_wf (by assumption) ?_)

@[simp ↓, simp] theorem State.requestMapOut_wf (s : State) (loc : BitVec 32) (h : s.mem.wf = true) : (State.requestMapOut s loc).mem.wf = true := by unfold State.requestMapOut; simp (maxDischargeDepth := 12) [*]

/-! ## Weave -/

@[simp ↓, simp] theorem State.dualRail_wf (s : State) (r : Fin 10) (b : Fin 18) (channel : Nat) (owner : BitVec 128) (h : s.mem.wf = true) : (State.dualRail s r b channel owner).mem.wf = true := by unfold State.dualRail; simp (maxDischargeDepth := 12) [*]

@[simp ↓, simp] theorem State.syncParity_wf (s : State) (boundary : Fin 9) (owner : Option (Fin 10 × BitVec 128)) (h : s.mem.wf = true) : (State.syncParity s boundary owner).mem.wf = true := by
  unfold State.syncParity
  repeat' first | (simp (maxDischargeDepth := 12) [*]; done) | split | simp (maxDischargeDepth := 12) [*]

@[simp ↓, simp] theorem State.blockStall_wf (s : State) (r : Fin 10) (b : Fin 18) (micros : Nat) (inFlight : List (BitVec 128)) (h : s.mem.wf = true) : (State.blockStall s r b micros inFlight).mem.wf = true := by
  unfold State.blockStall
  repeat' first
    | (with_reducible assumption)
    | (simp (maxDischargeDepth := 12) [*]; done)
    | (split <;> try (rename_i hq; with_reducible obtain rfl := State.snd_eq hq; clear hq))
    | (intro _)
    | (with_reducible refine State.foldl_wf (fun _ _ _ => ?_) _ _ ?_)
    | (with_reducible refine State.foldl_snd_wf (fun _ _ _ => ?_) _ _ ?_)
    | (with_reducible refine State.foldl_fst_wf (fun _ _ _ => ?_) _ _ ?_)
    | (dsimp only)
    | (with_reducible apply State.complete_wf)
    | (with_reducible apply State.retireBlock_wf)
    | simp (maxDischargeDepth := 12) [*]
    | (rw [State.allocFrame_mem (by assumption)])
    | (rw [State.ensurePage_mem (by assumption)])
    | (rw [State.ensureAll_mem (by assumption)])
    | (rw [State.submitRefused_mem (by assumption)])
    | (with_reducible refine State.checkPlaces_wf (by assumption) ?_)
    | (with_reducible refine State.of_snd_wf (by assumption) ?_)
    | (with_reducible refine State.of_fst_wf (by assumption) ?_)

/-! ## Power -/

@[simp ↓, simp] theorem State.zeroRegion_wf (s : State) (r : Fin 10) (h : s.mem.wf = true) : (State.zeroRegion s r).mem.wf = true := by
  unfold State.zeroRegion
  repeat' first
    | (with_reducible assumption)
    | (simp (maxDischargeDepth := 12) [*]; done)
    | (split <;> try (rename_i hq; with_reducible obtain rfl := State.snd_eq hq; clear hq))
    | (intro _)
    | (with_reducible refine State.foldl_wf (fun _ _ _ => ?_) _ _ ?_)
    | (with_reducible refine State.foldl_snd_wf (fun _ _ _ => ?_) _ _ ?_)
    | (with_reducible refine State.foldl_fst_wf (fun _ _ _ => ?_) _ _ ?_)
    | (dsimp only)
    | (with_reducible apply State.runQueued_wf)
    | simp (maxDischargeDepth := 12) [*]
    | (rw [State.allocFrame_mem (by assumption)])
    | (rw [State.ensurePage_mem (by assumption)])
    | (rw [State.ensureAll_mem (by assumption)])
    | (rw [State.submitRefused_mem (by assumption)])
    | (with_reducible refine State.checkPlaces_wf (by assumption) ?_)
    | (with_reducible refine State.of_snd_wf (by assumption) ?_)
    | (with_reducible refine State.of_fst_wf (by assumption) ?_)

/-- A copied address range keeps the canonical form. -/
@[simp] theorem copyCells_wf (m : List Host.Cell) (lo to_ n : Nat) (h : cellsWf m = true) : cellsWf (copyCells m lo to_ n) = true := by
  unfold copyCells; simp [h]

@[simp ↓, simp] theorem State.copyPad_wf (s : State) (r : Fin 10) (b : Fin 18) (tr : Fin 10) (tb : Fin 18) (h : s.mem.wf = true) : (State.copyPad s r b tr tb).mem.wf = true := by unfold State.copyPad; simp (maxDischargeDepth := 12) [*]

@[simp ↓, simp] theorem State.takeSpare_wf (s : State) (w : BlockSwap) (h : s.mem.wf = true) : (State.takeSpare s w).mem.wf = true := by unfold State.takeSpare; simp (maxDischargeDepth := 12) [*]

@[simp ↓, simp] theorem State.swapAtOnce_wf (s : State) (r : Fin 10) (h : s.mem.wf = true) : (State.swapAtOnce s r).mem.wf = true := by
  unfold State.swapAtOnce
  repeat' first
    | (with_reducible assumption)
    | (simp (maxDischargeDepth := 12) [*]; done)
    | (split <;> try (rename_i hq; with_reducible obtain rfl := State.snd_eq hq; clear hq))
    | (intro _)
    | (with_reducible refine State.foldl_wf (fun _ _ _ => ?_) _ _ ?_)
    | (with_reducible refine State.foldl_snd_wf (fun _ _ _ => ?_) _ _ ?_)
    | (with_reducible refine State.foldl_fst_wf (fun _ _ _ => ?_) _ _ ?_)
    | (dsimp only)
    | (with_reducible apply State.takeSpare_wf)
    | simp (maxDischargeDepth := 12) [*]
    | (rw [State.allocFrame_mem (by assumption)])
    | (rw [State.ensurePage_mem (by assumption)])
    | (rw [State.ensureAll_mem (by assumption)])
    | (rw [State.submitRefused_mem (by assumption)])
    | (with_reducible refine State.checkPlaces_wf (by assumption) ?_)
    | (with_reducible refine State.of_snd_wf (by assumption) ?_)
    | (with_reducible refine State.of_fst_wf (by assumption) ?_)

@[simp ↓, simp] theorem State.failDelay_wf (s : State) (r : Fin 10) (b : Fin 18) (margin : Nat) (stage : Nat) (h : s.mem.wf = true) : (State.failDelay s r b margin stage).mem.wf = true := by unfold State.failDelay; simp (maxDischargeDepth := 12) [*]

@[simp ↓, simp] theorem State.loseStack_wf (s : State) (k : Nat) (h : s.mem.wf = true) : (State.loseStack s k).mem.wf = true := by unfold State.loseStack; simp (maxDischargeDepth := 12) [*]

@[simp ↓, simp] theorem State.loseContents_wf (s : State) (d : Nat) (h : s.mem.wf = true) : (State.loseContents s d).mem.wf = true := by unfold State.loseContents; simp (maxDischargeDepth := 12) [*]

@[simp ↓, simp] theorem State.beginDown_wf (s : State) (d : Fin 72) (target : Nat) (h : s.mem.wf = true) : (State.beginDown s d target).mem.wf = true := by unfold State.beginDown; simp (maxDischargeDepth := 12) [*]

@[simp ↓, simp] theorem State.startDomain_wf (s : State) (d : Fin 72) (h : s.mem.wf = true) : (State.startDomain s d).mem.wf = true := by unfold State.startDomain; simp (maxDischargeDepth := 12) [*]

@[simp ↓, simp] theorem State.afterSequence_wf (s : State) (d : Fin 72) (h : s.mem.wf = true) : (State.afterSequence s d).mem.wf = true := by
  unfold State.afterSequence
  repeat' first
    | (with_reducible assumption)
    | (simp (maxDischargeDepth := 12) [*]; done)
    | (split <;> try (rename_i hq; with_reducible obtain rfl := State.snd_eq hq; clear hq))
    | (intro _)
    | (with_reducible refine State.foldl_wf (fun _ _ _ => ?_) _ _ ?_)
    | (with_reducible refine State.foldl_snd_wf (fun _ _ _ => ?_) _ _ ?_)
    | (with_reducible refine State.foldl_fst_wf (fun _ _ _ => ?_) _ _ ?_)
    | (dsimp only)
    | (with_reducible apply State.startDomain_wf)
    | simp (maxDischargeDepth := 12) [*]
    | (rw [State.allocFrame_mem (by assumption)])
    | (rw [State.ensurePage_mem (by assumption)])
    | (rw [State.ensureAll_mem (by assumption)])
    | (rw [State.submitRefused_mem (by assumption)])
    | (with_reducible refine State.checkPlaces_wf (by assumption) ?_)
    | (with_reducible refine State.of_snd_wf (by assumption) ?_)
    | (with_reducible refine State.of_fst_wf (by assumption) ?_)

@[simp ↓, simp] theorem State.powerUp_wf (s : State) (d : Fin 72) (h : s.mem.wf = true) : (State.powerUp s d).mem.wf = true := by
  unfold State.powerUp
  repeat' first | (simp (maxDischargeDepth := 12) [*]; done) | split | simp (maxDischargeDepth := 12) [*]

@[simp ↓, simp] theorem State.powerDown_wf (s : State) (d : Fin 72) (h : s.mem.wf = true) : (State.powerDown s d).mem.wf = true := by
  unfold State.powerDown
  repeat' first
    | (with_reducible assumption)
    | (simp (maxDischargeDepth := 12) [*]; done)
    | (split <;> try (rename_i hq; with_reducible obtain rfl := State.snd_eq hq; clear hq))
    | (intro _)
    | (with_reducible refine State.foldl_wf (fun _ _ _ => ?_) _ _ ?_)
    | (with_reducible refine State.foldl_snd_wf (fun _ _ _ => ?_) _ _ ?_)
    | (with_reducible refine State.foldl_fst_wf (fun _ _ _ => ?_) _ _ ?_)
    | (dsimp only)
    | (with_reducible apply State.startDomain_wf)
    | simp (maxDischargeDepth := 12) [*]
    | (rw [State.allocFrame_mem (by assumption)])
    | (rw [State.ensurePage_mem (by assumption)])
    | (rw [State.ensureAll_mem (by assumption)])
    | (rw [State.submitRefused_mem (by assumption)])
    | (with_reducible refine State.checkPlaces_wf (by assumption) ?_)
    | (with_reducible refine State.of_snd_wf (by assumption) ?_)
    | (with_reducible refine State.of_fst_wf (by assumption) ?_)

@[simp ↓, simp] theorem State.powerGoodAt_wf (s : State) (d : Fin 72) (failing : List (Fin 18 × Nat × Nat)) (h : s.mem.wf = true) : (State.powerGoodAt s d failing).mem.wf = true := by
  unfold State.powerGoodAt
  repeat' first
    | (with_reducible assumption)
    | (simp (maxDischargeDepth := 12) [*]; done)
    | (split <;> try (rename_i hq; with_reducible obtain rfl := State.snd_eq hq; clear hq))
    | (intro _)
    | (with_reducible refine State.foldl_wf (fun _ _ _ => ?_) _ _ ?_)
    | (with_reducible refine State.foldl_snd_wf (fun _ _ _ => ?_) _ _ ?_)
    | (with_reducible refine State.foldl_fst_wf (fun _ _ _ => ?_) _ _ ?_)
    | (dsimp only)
    | (with_reducible apply State.runQueued_wf)
    | (with_reducible apply State.zeroRegion_wf)
    | (with_reducible apply State.swapAtOnce_wf)
    | (with_reducible apply State.failDelay_wf)
    | (with_reducible apply State.afterSequence_wf)
    | simp (maxDischargeDepth := 12) [*]
    | (rw [State.allocFrame_mem (by assumption)])
    | (rw [State.ensurePage_mem (by assumption)])
    | (rw [State.ensureAll_mem (by assumption)])
    | (rw [State.submitRefused_mem (by assumption)])
    | (with_reducible refine State.checkPlaces_wf (by assumption) ?_)
    | (with_reducible refine State.of_snd_wf (by assumption) ?_)
    | (with_reducible refine State.of_fst_wf (by assumption) ?_)

@[simp ↓, simp] theorem State.quiesced_wf (s : State) (d : Fin 72) (h : s.mem.wf = true) : (State.quiesced s d).mem.wf = true := by unfold State.quiesced; simp (maxDischargeDepth := 12) [*]

@[simp ↓, simp] theorem State.failStack_wf (s : State) (k : Nat) (h : s.mem.wf = true) : (State.failStack s k).mem.wf = true := by
  unfold State.failStack
  repeat' first
    | (with_reducible assumption)
    | (simp (maxDischargeDepth := 12) [*]; done)
    | (split <;> try (rename_i hq; with_reducible obtain rfl := State.snd_eq hq; clear hq))
    | (intro _)
    | (with_reducible refine State.foldl_wf (fun _ _ _ => ?_) _ _ ?_)
    | (with_reducible refine State.foldl_snd_wf (fun _ _ _ => ?_) _ _ ?_)
    | (with_reducible refine State.foldl_fst_wf (fun _ _ _ => ?_) _ _ ?_)
    | (dsimp only)
    | (with_reducible apply State.loseStack_wf)
    | simp (maxDischargeDepth := 12) [*]
    | (rw [State.allocFrame_mem (by assumption)])
    | (rw [State.ensurePage_mem (by assumption)])
    | (rw [State.ensureAll_mem (by assumption)])
    | (rw [State.submitRefused_mem (by assumption)])
    | (with_reducible refine State.checkPlaces_wf (by assumption) ?_)
    | (with_reducible refine State.of_snd_wf (by assumption) ?_)
    | (with_reducible refine State.of_fst_wf (by assumption) ?_)

@[simp ↓, simp] theorem State.powerGoodMissed_wf (s : State) (d : Fin 72) (h : s.mem.wf = true) : (State.powerGoodMissed s d).mem.wf = true := by unfold State.powerGoodMissed; simp (maxDischargeDepth := 12) [*]

@[simp ↓, simp] theorem State.thermalTrip_wf (s : State) (m : Int × Nat) (h : s.mem.wf = true) : (State.thermalTrip s m).mem.wf = true := by
  unfold State.thermalTrip
  repeat' first
    | (with_reducible assumption)
    | (simp (maxDischargeDepth := 12) [*]; done)
    | (split <;> try (rename_i hq; with_reducible obtain rfl := State.snd_eq hq; clear hq))
    | (intro _)
    | (with_reducible refine State.foldl_wf (fun _ _ _ => ?_) _ _ ?_)
    | (with_reducible refine State.foldl_snd_wf (fun _ _ _ => ?_) _ _ ?_)
    | (with_reducible refine State.foldl_fst_wf (fun _ _ _ => ?_) _ _ ?_)
    | (dsimp only)
    | (with_reducible apply State.loseContents_wf)
    | simp (maxDischargeDepth := 12) [*]
    | (rw [State.allocFrame_mem (by assumption)])
    | (rw [State.ensurePage_mem (by assumption)])
    | (rw [State.ensureAll_mem (by assumption)])
    | (rw [State.submitRefused_mem (by assumption)])
    | (with_reducible refine State.checkPlaces_wf (by assumption) ?_)
    | (with_reducible refine State.of_snd_wf (by assumption) ?_)
    | (with_reducible refine State.of_fst_wf (by assumption) ?_)

@[simp ↓, simp] theorem State.judgeDie_wf (s : State) (trip : Bool) (h : s.mem.wf = true) : (State.judgeDie s trip).mem.wf = true := by
  unfold State.judgeDie
  repeat' first | (simp (maxDischargeDepth := 12) [*]; done) | split | simp (maxDischargeDepth := 12) [*]

@[simp ↓, simp] theorem State.sampleTemps_wf (s : State) (deci : List Int) (trip : Bool) (h : s.mem.wf = true) : (State.sampleTemps s deci trip).mem.wf = true := by unfold State.sampleTemps; simp (maxDischargeDepth := 12) [*]

/-! ## Service -/

@[simp ↓, simp] theorem State.computeReset_wf (s : State) (source : Nat) (h : s.mem.wf = true) : (State.computeReset s source).mem.wf = true := by unfold State.computeReset; simp (maxDischargeDepth := 12) [*]

@[simp ↓, simp] theorem State.warmReset_wf (s : State) (source : Nat) (h : s.mem.wf = true) : (State.warmReset s source).mem.wf = true := by unfold State.warmReset; simp (maxDischargeDepth := 12) [*]

@[simp ↓, simp] theorem State.dieReset_wf (s : State) (h : s.mem.wf = true) : (State.dieReset s).mem.wf = true := by unfold State.dieReset; simp (maxDischargeDepth := 12) [*]

@[simp ↓, simp] theorem State.coldReset_wf (s : State) (source : Nat) (powerLost : Bool) (h : s.mem.wf = true) : (State.coldReset s source powerLost).mem.wf = true := by
  unfold State.coldReset
  repeat' first
    | (with_reducible assumption)
    | (simp (maxDischargeDepth := 12) [*]; done)
    | (split <;> try (rename_i hq; with_reducible obtain rfl := State.snd_eq hq; clear hq))
    | (intro _)
    | (with_reducible refine State.foldl_wf (fun _ _ _ => ?_) _ _ ?_)
    | (with_reducible refine State.foldl_snd_wf (fun _ _ _ => ?_) _ _ ?_)
    | (with_reducible refine State.foldl_fst_wf (fun _ _ _ => ?_) _ _ ?_)
    | (dsimp only)
    | simp (maxDischargeDepth := 12) [*]
    | (rw [State.allocFrame_mem (by assumption)])
    | (rw [State.ensurePage_mem (by assumption)])
    | (rw [State.ensureAll_mem (by assumption)])
    | (rw [State.submitRefused_mem (by assumption)])
    | (with_reducible refine State.checkPlaces_wf (by assumption) ?_)
    | (with_reducible refine State.of_snd_wf (by assumption) ?_)
    | (with_reducible refine State.of_fst_wf (by assumption) ?_)

@[simp ↓, simp] theorem State.powerOff_wf (s : State) (h : s.mem.wf = true) : (State.powerOff s).mem.wf = true := by unfold State.powerOff; simp (maxDischargeDepth := 12) [*]

@[simp ↓, simp] theorem State.mainBack_wf (s : State) (dv : Nat) (h : s.mem.wf = true) : (State.mainBack s dv).mem.wf = true := by unfold State.mainBack; simp (maxDischargeDepth := 12) [*]

@[simp ↓, simp] theorem State.managerFails_wf (s : State) (core : Fin 2) (h : s.mem.wf = true) : (State.managerFails s core).mem.wf = true := by unfold State.managerFails; simp (maxDischargeDepth := 12) [*]

@[simp ↓, simp] theorem State.bootDomains_wf (s : State) (h : s.mem.wf = true) : (State.bootDomains s).mem.wf = true := by
  unfold State.bootDomains
  repeat' first
    | (with_reducible assumption)
    | (simp (maxDischargeDepth := 12) [*]; done)
    | (split <;> try (rename_i hq; with_reducible obtain rfl := State.snd_eq hq; clear hq))
    | (intro _)
    | (with_reducible refine State.foldl_wf (fun _ _ _ => ?_) _ _ ?_)
    | (with_reducible refine State.foldl_snd_wf (fun _ _ _ => ?_) _ _ ?_)
    | (with_reducible refine State.foldl_fst_wf (fun _ _ _ => ?_) _ _ ?_)
    | (dsimp only)
    | (with_reducible apply State.zeroRegion_wf)
    | simp (maxDischargeDepth := 12) [*]
    | (rw [State.allocFrame_mem (by assumption)])
    | (rw [State.ensurePage_mem (by assumption)])
    | (rw [State.ensureAll_mem (by assumption)])
    | (rw [State.submitRefused_mem (by assumption)])
    | (with_reducible refine State.checkPlaces_wf (by assumption) ?_)
    | (with_reducible refine State.of_snd_wf (by assumption) ?_)
    | (with_reducible refine State.of_fst_wf (by assumption) ?_)

@[simp ↓, simp] theorem State.boot_wf (s : State) (slotA : Bundle) (slotB : Bundle) (image : Option Image) (imageSigOk : Bool) (failing : List (Fin 10 × Fin 18 × Nat × Nat)) (late : List (Nat × Nat)) (h : s.mem.wf = true) : (State.boot s slotA slotB image imageSigOk failing late).mem.wf = true := by
  unfold State.boot
  repeat' first
    | (with_reducible assumption)
    | (simp (maxDischargeDepth := 12) [*]; done)
    | (split <;> try (rename_i hq; with_reducible obtain rfl := State.snd_eq hq; clear hq))
    | (intro _)
    | (with_reducible refine State.foldl_wf (fun _ _ _ => ?_) _ _ ?_)
    | (with_reducible refine State.foldl_snd_wf (fun _ _ _ => ?_) _ _ ?_)
    | (with_reducible refine State.foldl_fst_wf (fun _ _ _ => ?_) _ _ ?_)
    | (dsimp only)
    | (with_reducible apply State.swapAtOnce_wf)
    | (with_reducible apply State.failDelay_wf)
    | (with_reducible apply State.bootDomains_wf)
    | simp (maxDischargeDepth := 12) [*]
    | (rw [State.allocFrame_mem (by assumption)])
    | (rw [State.ensurePage_mem (by assumption)])
    | (rw [State.ensureAll_mem (by assumption)])
    | (rw [State.submitRefused_mem (by assumption)])
    | (with_reducible refine State.checkPlaces_wf (by assumption) ?_)
    | (with_reducible refine State.of_snd_wf (by assumption) ?_)
    | (with_reducible refine State.of_fst_wf (by assumption) ?_)

@[simp ↓, simp] theorem State.swapBlock_wf (s : State) (r : Fin 10) (b : Fin 18) (h : s.mem.wf = true) : (State.swapBlock s r b).mem.wf = true := by
  unfold State.swapBlock
  repeat' first | (simp (maxDischargeDepth := 12) [*]; done) | split | simp (maxDischargeDepth := 12) [*]

@[simp ↓, simp] theorem State.copyRegion_wf (s : State) (r : Fin 10) (t : Fin 10) (h : s.mem.wf = true) : (State.copyRegion s r t).mem.wf = true := by
  unfold State.copyRegion
  repeat' first
    | (with_reducible assumption)
    | (simp (maxDischargeDepth := 12) [*]; done)
    | (split <;> try (rename_i hq; with_reducible obtain rfl := State.snd_eq hq; clear hq))
    | (intro _)
    | (with_reducible refine State.foldl_wf (fun _ _ _ => ?_) _ _ ?_)
    | (with_reducible refine State.foldl_snd_wf (fun _ _ _ => ?_) _ _ ?_)
    | (with_reducible refine State.foldl_fst_wf (fun _ _ _ => ?_) _ _ ?_)
    | (dsimp only)
    | (with_reducible apply State.copyPad_wf)
    | simp (maxDischargeDepth := 12) [*]
    | (rw [State.allocFrame_mem (by assumption)])
    | (rw [State.ensurePage_mem (by assumption)])
    | (rw [State.ensureAll_mem (by assumption)])
    | (rw [State.submitRefused_mem (by assumption)])
    | (with_reducible refine State.checkPlaces_wf (by assumption) ?_)
    | (with_reducible refine State.of_snd_wf (by assumption) ?_)
    | (with_reducible refine State.of_fst_wf (by assumption) ?_)

@[simp ↓, simp] theorem State.copyDone_wf (s : State) (ok : Bool) (h : s.mem.wf = true) : (State.copyDone s ok).mem.wf = true := by
  unfold State.copyDone
  repeat' first | (simp (maxDischargeDepth := 12) [*]; done) | split | simp (maxDischargeDepth := 12) [*]

@[simp ↓, simp] theorem State.moveRegion_wf (s : State) (r : Fin 10) (t : Fin 10) (h : s.mem.wf = true) : (State.moveRegion s r t).mem.wf = true := by
  unfold State.moveRegion
  repeat' first
    | (with_reducible assumption)
    | (simp (maxDischargeDepth := 12) [*]; done)
    | (split <;> try (rename_i hq; with_reducible obtain rfl := State.snd_eq hq; clear hq))
    | (intro _)
    | (with_reducible refine State.foldl_wf (fun _ _ _ => ?_) _ _ ?_)
    | (with_reducible refine State.foldl_snd_wf (fun _ _ _ => ?_) _ _ ?_)
    | (with_reducible refine State.foldl_fst_wf (fun _ _ _ => ?_) _ _ ?_)
    | (dsimp only)
    | (with_reducible apply State.copyRegion_wf)
    | simp (maxDischargeDepth := 12) [*]
    | (rw [State.allocFrame_mem (by assumption)])
    | (rw [State.ensurePage_mem (by assumption)])
    | (rw [State.ensureAll_mem (by assumption)])
    | (rw [State.submitRefused_mem (by assumption)])
    | (with_reducible refine State.checkPlaces_wf (by assumption) ?_)
    | (with_reducible refine State.of_snd_wf (by assumption) ?_)
    | (with_reducible refine State.of_fst_wf (by assumption) ?_)

@[simp ↓, simp] theorem State.switchMigration_wf (s : State) (targetOk : Bool) (h : s.mem.wf = true) : (State.switchMigration s targetOk).mem.wf = true := by
  unfold State.switchMigration
  repeat' first | (simp (maxDischargeDepth := 12) [*]; done) | split | simp (maxDischargeDepth := 12) [*]

/-! ## Apply -/

@[simp ↓, simp] theorem State.onUnit_wf (s : State) (n i : Nat) (f : Fin n → State) (hr : ∀ k, (f k).mem.wf = true) (h : s.mem.wf = true) : (State.onUnit s n i f).mem.wf = true := by unfold State.onUnit; simp (maxDischargeDepth := 12) [*]

@[simp ↓, simp] theorem State.requestedReset_wf (s : State) (v : Nat) (h : s.mem.wf = true) : (State.requestedReset s v).mem.wf = true := by unfold State.requestedReset; simp (maxDischargeDepth := 12) [*]

@[simp ↓, simp] theorem State.actService_wf (s : State) (key : Key) (v : Val) (h : s.mem.wf = true) : (State.actService s key v).mem.wf = true := by unfold State.actService; simp (maxDischargeDepth := 12) [*]

@[simp ↓, simp] theorem State.actBase_wf (s : State) (key : Key) (v : Val) (g : Given) (h : s.mem.wf = true) : (State.actBase s key v g).mem.wf = true := by
  unfold State.actBase
  repeat' first | (simp (maxDischargeDepth := 12) [*]; done) | split | simp (maxDischargeDepth := 12) [*]

@[simp ↓, simp] theorem State.actLine_wf (s : State) (key : Key) (v : Val) (count : Nat) (g : Given) (h : s.mem.wf = true) : (State.actLine s key v count g).mem.wf = true := by
  unfold State.actLine
  repeat' first | (simp (maxDischargeDepth := 12) [*]; done) | split | simp (maxDischargeDepth := 12) [*]

@[simp ↓, simp] theorem State.act_wf (s : State) (key : Key) (v : Val) (count : Nat) (g : Given) (h : s.mem.wf = true) : (State.act s key v count g).mem.wf = true := by unfold State.act; simp (maxDischargeDepth := 12) [*]

@[simp ↓, simp] theorem State.applyEntries_wf (s : State) (es : List (Key × Val)) (count : Nat) (g : Given) (h : s.mem.wf = true) : (State.applyEntries s es count g).mem.wf = true := by
  unfold State.applyEntries
  repeat' first
    | (with_reducible assumption)
    | (simp (maxDischargeDepth := 12) [*]; done)
    | (split <;> try (rename_i hq; with_reducible obtain rfl := State.snd_eq hq; clear hq))
    | (intro _)
    | (with_reducible refine State.foldl_wf (fun _ _ _ => ?_) _ _ ?_)
    | (with_reducible refine State.foldl_snd_wf (fun _ _ _ => ?_) _ _ ?_)
    | (with_reducible refine State.foldl_fst_wf (fun _ _ _ => ?_) _ _ ?_)
    | (dsimp only)
    | (with_reducible apply State.act_wf)
    | simp (maxDischargeDepth := 12) [*]
    | (rw [State.allocFrame_mem (by assumption)])
    | (rw [State.ensurePage_mem (by assumption)])
    | (rw [State.ensureAll_mem (by assumption)])
    | (rw [State.submitRefused_mem (by assumption)])
    | (with_reducible refine State.checkPlaces_wf (by assumption) ?_)
    | (with_reducible refine State.of_snd_wf (by assumption) ?_)
    | (with_reducible refine State.of_fst_wf (by assumption) ?_)

/-! ## Commit -/

@[simp ↓, simp] theorem State.switch_wf (s : State) (c : Commit) (h : s.mem.wf = true) : (State.switch s c).mem.wf = true := by
  unfold State.switch
  repeat' first
    | (with_reducible assumption)
    | (simp (maxDischargeDepth := 12) [*]; done)
    | (split <;> try (rename_i hq; with_reducible obtain rfl := State.snd_eq hq; clear hq))
    | (intro _)
    | (with_reducible refine State.foldl_wf (fun _ _ _ => ?_) _ _ ?_)
    | (with_reducible refine State.foldl_snd_wf (fun _ _ _ => ?_) _ _ ?_)
    | (with_reducible refine State.foldl_fst_wf (fun _ _ _ => ?_) _ _ ?_)
    | (dsimp only)
    | (with_reducible apply State.applyEntries_wf)
    | simp (maxDischargeDepth := 12) [*]
    | (rw [State.allocFrame_mem (by assumption)])
    | (rw [State.ensurePage_mem (by assumption)])
    | (rw [State.ensureAll_mem (by assumption)])
    | (rw [State.submitRefused_mem (by assumption)])
    | (with_reducible refine State.checkPlaces_wf (by assumption) ?_)
    | (with_reducible refine State.of_snd_wf (by assumption) ?_)
    | (with_reducible refine State.of_fst_wf (by assumption) ?_)

@[simp ↓, simp] theorem State.switchGroup_wf (s : State) (h : s.mem.wf = true) : (State.switchGroup s).mem.wf = true := by
  unfold State.switchGroup
  repeat' first | (simp (maxDischargeDepth := 12) [*]; done) | split | simp (maxDischargeDepth := 12) [*]

@[simp ↓, simp] theorem State.switchImplicit_wf (s : State) (h : s.mem.wf = true) : (State.switchImplicit s).mem.wf = true := by
  unfold State.switchImplicit
  repeat' first | (simp (maxDischargeDepth := 12) [*]; done) | split | simp (maxDischargeDepth := 12) [*]

@[simp ↓, simp] theorem State.switchInstant_wf (s : State) (h : s.mem.wf = true) : (State.switchInstant s).mem.wf = true := by
  unfold State.switchInstant
  repeat' first
    | (with_reducible assumption)
    | (simp (maxDischargeDepth := 12) [*]; done)
    | (split <;> try (rename_i hq; with_reducible obtain rfl := State.snd_eq hq; clear hq))
    | (intro _)
    | (with_reducible refine State.foldl_wf (fun _ _ _ => ?_) _ _ ?_)
    | (with_reducible refine State.foldl_snd_wf (fun _ _ _ => ?_) _ _ ?_)
    | (with_reducible refine State.foldl_fst_wf (fun _ _ _ => ?_) _ _ ?_)
    | (dsimp only)
    | (with_reducible apply State.switch_wf)
    | simp (maxDischargeDepth := 12) [*]
    | (rw [State.allocFrame_mem (by assumption)])
    | (rw [State.ensurePage_mem (by assumption)])
    | (rw [State.ensureAll_mem (by assumption)])
    | (rw [State.submitRefused_mem (by assumption)])
    | (with_reducible refine State.checkPlaces_wf (by assumption) ?_)
    | (with_reducible refine State.of_snd_wf (by assumption) ?_)
    | (with_reducible refine State.of_fst_wf (by assumption) ?_)

@[simp ↓, simp] theorem State.switchDue_wf (s : State) (h : s.mem.wf = true) : (State.switchDue s).mem.wf = true := by unfold State.switchDue; simp (maxDischargeDepth := 12) [*]

@[simp ↓, simp] theorem State.startCommits_wf (s : State) (h : s.mem.wf = true) : (State.startCommits s).mem.wf = true := by unfold State.startCommits; simp (maxDischargeDepth := 12) [*]

@[simp ↓, simp] theorem State.implicitCommit_wf (s : State) (key : Key) (v : Val) (g : Given) (h : s.mem.wf = true) : (State.implicitCommit s key v g).1.mem.wf = true := by
  unfold State.implicitCommit
  repeat' first | (simp (maxDischargeDepth := 12) [*]; done) | split | simp (maxDischargeDepth := 12) [*]

@[simp ↓, simp] theorem State.commitGroup_wf (s : State) (h : s.mem.wf = true) : (State.commitGroup s).1.mem.wf = true := by
  unfold State.commitGroup
  repeat' first | (simp (maxDischargeDepth := 12) [*]; done) | split | simp (maxDischargeDepth := 12) [*]

@[simp ↓, simp] theorem State.commitCommand_wf (s : State) (ses : Session) (v : Nat) (h : s.mem.wf = true) : (State.commitCommand s ses v).1.mem.wf = true := by
  unfold State.commitCommand
  repeat' first | (simp (maxDischargeDepth := 12) [*]; done) | split | simp (maxDischargeDepth := 12) [*]

@[simp ↓, simp] theorem State.engineReady_wf (s : State) (e : Engine) (h : s.mem.wf = true) : (State.engineReady s e).mem.wf = true := by unfold State.engineReady; simp (maxDischargeDepth := 12) [*]

@[simp ↓, simp] theorem State.commitTimeouts_wf (s : State) (h : s.mem.wf = true) : (State.commitTimeouts s).mem.wf = true := by
  unfold State.commitTimeouts
  repeat' first | (simp (maxDischargeDepth := 12) [*]; done) | split | simp (maxDischargeDepth := 12) [*]

@[simp ↓, simp] theorem State.beatPassed_wf (s : State) (h : s.mem.wf = true) : (State.beatPassed s).mem.wf = true := by
  unfold State.beatPassed
  repeat' first | (simp (maxDischargeDepth := 12) [*]; done) | split | simp (maxDischargeDepth := 12) [*]

/-! ## Server -/

@[simp ↓, simp] theorem State.doPower_wf (s : State) (v : Nat) (h : s.mem.wf = true) : (State.doPower s v).mem.wf = true := by
  unfold State.doPower
  repeat' first | (simp (maxDischargeDepth := 12) [*]; done) | split | simp (maxDischargeDepth := 12) [*]

@[simp ↓, simp] theorem State.powerCommand_wf (s : State) (v : Nat) (h : s.mem.wf = true) : (State.powerCommand s v).1.mem.wf = true := by
  unfold State.powerCommand
  repeat' first | (simp (maxDischargeDepth := 12) [*]; done) | split | simp (maxDischargeDepth := 12) [*]

@[simp ↓, simp] theorem State.latchedPower_wf (s : State) (h : s.mem.wf = true) : (State.latchedPower s).mem.wf = true := by
  unfold State.latchedPower
  repeat' first | (simp (maxDischargeDepth := 12) [*]; done) | split | simp (maxDischargeDepth := 12) [*]

@[simp ↓, simp] theorem State.writeImmediate_wf (s : State) (ses : Session) (key : Key) (v : Val) (g : Given) (h : s.mem.wf = true) : (State.writeImmediate s ses key v g).1.mem.wf = true := by
  unfold State.writeImmediate
  repeat' first | (simp (maxDischargeDepth := 12) [*]; done) | split | simp (maxDischargeDepth := 12) [*]

@[simp ↓, simp] theorem State.deliver_wf (s : State) (ses : Session) (key : Key) (v : Val) (g : Given) (h : s.mem.wf = true) : (State.deliver s ses key v g).1.mem.wf = true := by
  unfold State.deliver
  repeat' first | (simp (maxDischargeDepth := 12) [*]; done) | split | simp (maxDischargeDepth := 12) [*]

@[simp ↓, simp] theorem State.writeChecked_wf (s : State) (ses : Session) (key : Key) (r : Row) (written : Val) (g : Given) (h : s.mem.wf = true) : (State.writeChecked s ses key r written g).1.mem.wf = true := by
  unfold State.writeChecked
  repeat' first
    | (with_reducible assumption)
    | (simp (maxDischargeDepth := 12) [*]; done)
    | (split <;> try (rename_i hq; with_reducible obtain rfl := State.snd_eq hq; clear hq))
    | (intro _)
    | (with_reducible refine State.foldl_wf (fun _ _ _ => ?_) _ _ ?_)
    | (with_reducible refine State.foldl_snd_wf (fun _ _ _ => ?_) _ _ ?_)
    | (with_reducible refine State.foldl_fst_wf (fun _ _ _ => ?_) _ _ ?_)
    | (dsimp only)
    | (with_reducible apply State.deliver_wf)
    | simp (maxDischargeDepth := 12) [*]
    | (rw [State.allocFrame_mem (by assumption)])
    | (rw [State.ensurePage_mem (by assumption)])
    | (rw [State.ensureAll_mem (by assumption)])
    | (rw [State.submitRefused_mem (by assumption)])
    | (with_reducible refine State.checkPlaces_wf (by assumption) ?_)
    | (with_reducible refine State.of_snd_wf (by assumption) ?_)
    | (with_reducible refine State.of_fst_wf (by assumption) ?_)

@[simp ↓, simp] theorem State.serveWrite_wf (s : State) (ses : Session) (it : Item) (g : Given) (h : s.mem.wf = true) : (State.serveWrite s ses it g).1.mem.wf = true := by
  unfold State.serveWrite
  repeat' first
    | (with_reducible assumption)
    | (simp (maxDischargeDepth := 12) [*]; done)
    | (split <;> try (rename_i hq; with_reducible obtain rfl := State.snd_eq hq; clear hq))
    | (intro _)
    | (with_reducible refine State.foldl_wf (fun _ _ _ => ?_) _ _ ?_)
    | (with_reducible refine State.foldl_snd_wf (fun _ _ _ => ?_) _ _ ?_)
    | (with_reducible refine State.foldl_fst_wf (fun _ _ _ => ?_) _ _ ?_)
    | (dsimp only)
    | (with_reducible apply State.refuse_wf)
    | (with_reducible apply State.writeChecked_wf)
    | simp (maxDischargeDepth := 12) [*]
    | (rw [State.allocFrame_mem (by assumption)])
    | (rw [State.ensurePage_mem (by assumption)])
    | (rw [State.ensureAll_mem (by assumption)])
    | (rw [State.submitRefused_mem (by assumption)])
    | (with_reducible refine State.checkPlaces_wf (by assumption) ?_)
    | (with_reducible refine State.of_snd_wf (by assumption) ?_)
    | (with_reducible refine State.of_fst_wf (by assumption) ?_)

@[simp ↓, simp] theorem State.serveItem_wf (s : State) (path : Nat) (w : Work) (it : Item) (rest : List Item) (h : s.mem.wf = true) : (State.serveItem s path w it rest).mem.wf = true := by
  unfold State.serveItem
  repeat' first | (simp (maxDischargeDepth := 12) [*]; done) | split | simp (maxDischargeDepth := 12) [*]

@[simp ↓, simp] theorem State.serveWork_wf (s : State) (path : Nat) (w : Work) (h : s.mem.wf = true) : (State.serveWork s path w).mem.wf = true := by
  unfold State.serveWork
  repeat' first | (simp (maxDischargeDepth := 12) [*]; done) | split | simp (maxDischargeDepth := 12) [*]

@[simp ↓, simp] theorem State.serveLoop_wf (fuel : Nat) (s : State) (h : s.mem.wf = true) : (State.serveLoop fuel s).mem.wf = true := by
  induction fuel generalizing s with
  | zero => simpa [State.serveLoop] using h
  | succ n ih =>
    unfold State.serveLoop
    split
    · exact ih _ (by simp [*])
    · exact h

@[simp ↓, simp] theorem State.serve_wf (s : State) (h : s.mem.wf = true) : (State.serve s).mem.wf = true := by unfold State.serve; simp (maxDischargeDepth := 12) [*]

@[simp ↓, simp] theorem State.request_wf (s : State) (ses : Session) (reply : Reply) (write : Bool) (items : List Item) (g : Given) (h : s.mem.wf = true) : (State.request s ses reply write items g).mem.wf = true := by unfold State.request; simp (maxDischargeDepth := 12) [*]

@[simp ↓, simp] theorem State.writeObject_wf (s : State) (ses : Session) (key : Key) (v : Val) (g : Given) (h : s.mem.wf = true) : (State.writeObject s ses key v g).mem.wf = true := by unfold State.writeObject; simp (maxDischargeDepth := 12) [*]

@[simp ↓, simp] theorem State.writeNat_wf (s : State) (ses : Session) (key : Key) (v : Nat) (g : Given) (h : s.mem.wf = true) : (State.writeNat s ses key v g).mem.wf = true := by unfold State.writeNat; simp (maxDischargeDepth := 12) [*]

@[simp ↓, simp] theorem State.readObject_wf (s : State) (ses : Session) (key : Key) (length : Nat) (h : s.mem.wf = true) : (State.readObject s ses key length).mem.wf = true := by unfold State.readObject; simp (maxDischargeDepth := 12) [*]

/-! ## Paths -/

@[simp ↓, simp] theorem State.sequenced_wf (s : State) (b : BSession) (f : BFrame) (go : State → State) (hr : ∀ a, a.mem.wf = true → (go a).mem.wf = true) (h : s.mem.wf = true) : (State.sequenced s b f go).mem.wf = true := by
  unfold State.sequenced
  repeat' first | (simp (maxDischargeDepth := 12) [*]; done) | split | simp (maxDischargeDepth := 12) [*]

@[simp ↓, simp] theorem State.frameRequest_wf (s : State) (b : BSession) (f : BFrame) (write : Bool) (h : s.mem.wf = true) : (State.frameRequest s b f write).mem.wf = true := by
  unfold State.frameRequest
  repeat' first
    | (with_reducible assumption)
    | (simp (maxDischargeDepth := 12) [*]; done)
    | (split <;> try (rename_i hq; with_reducible obtain rfl := State.snd_eq hq; clear hq))
    | (intro _)
    | (with_reducible refine State.foldl_wf (fun _ _ _ => ?_) _ _ ?_)
    | (with_reducible refine State.foldl_snd_wf (fun _ _ _ => ?_) _ _ ?_)
    | (with_reducible refine State.foldl_fst_wf (fun _ _ _ => ?_) _ _ ?_)
    | (dsimp only)
    | (with_reducible apply State.sequenced_wf)
    | (with_reducible apply State.request_wf)
    | simp (maxDischargeDepth := 12) [*]
    | (rw [State.allocFrame_mem (by assumption)])
    | (rw [State.ensurePage_mem (by assumption)])
    | (rw [State.ensureAll_mem (by assumption)])
    | (rw [State.submitRefused_mem (by assumption)])
    | (with_reducible refine State.checkPlaces_wf (by assumption) ?_)
    | (with_reducible refine State.of_snd_wf (by assumption) ?_)
    | (with_reducible refine State.of_fst_wf (by assumption) ?_)

@[simp ↓, simp] theorem State.frameLaunch_wf (s : State) (b : BSession) (f : BFrame) (length : Nat) (take : State → BSession → Nat → Bytes → State) (hr : ∀ a b n p, a.mem.wf = true → (take a b n p).mem.wf = true) (h : s.mem.wf = true) : (State.frameLaunch s b f length take).mem.wf = true := by
  unfold State.frameLaunch
  repeat' first
    | (with_reducible assumption)
    | (simp (maxDischargeDepth := 12) [*]; done)
    | (split <;> try (rename_i hq; with_reducible obtain rfl := State.snd_eq hq; clear hq))
    | (intro _)
    | (with_reducible refine State.foldl_wf (fun _ _ _ => ?_) _ _ ?_)
    | (with_reducible refine State.foldl_snd_wf (fun _ _ _ => ?_) _ _ ?_)
    | (with_reducible refine State.foldl_fst_wf (fun _ _ _ => ?_) _ _ ?_)
    | (dsimp only)
    | (with_reducible apply State.sequenced_wf)
    | simp (maxDischargeDepth := 12) [*]
    | (rw [State.allocFrame_mem (by assumption)])
    | (rw [State.ensurePage_mem (by assumption)])
    | (rw [State.ensureAll_mem (by assumption)])
    | (rw [State.submitRefused_mem (by assumption)])
    | (with_reducible refine State.checkPlaces_wf (by assumption) ?_)
    | (with_reducible refine State.of_snd_wf (by assumption) ?_)
    | (with_reducible refine State.of_fst_wf (by assumption) ?_)

@[simp ↓, simp] theorem State.frameOf_wf (s : State) (b : BSession) (f : BFrame) (h : s.mem.wf = true) : (State.frameOf s b f).mem.wf = true := by
  unfold State.frameOf
  repeat' first | (simp (maxDischargeDepth := 12) [*]; done) | split | simp (maxDischargeDepth := 12) [*]

@[simp ↓, simp] theorem State.takeBasaris_wf (s : State) (f : BFrame) (h : s.mem.wf = true) : (State.takeBasaris s f).mem.wf = true := by
  unfold State.takeBasaris
  repeat' first | (simp (maxDischargeDepth := 12) [*]; done) | split | simp (maxDischargeDepth := 12) [*]

@[simp ↓, simp] theorem State.acceptDoorbell_wf (s : State) (length : Nat) (h : s.mem.wf = true) : (State.acceptDoorbell s length).mem.wf = true := by
  unfold State.acceptDoorbell
  repeat' first | (simp (maxDischargeDepth := 12) [*]; done) | split | simp (maxDischargeDepth := 12) [*]

@[simp ↓, simp] theorem State.doorbell_wf (s : State) (seq : Nat) (ctrl : BitVec 32) (area : Bytes) (length : Nat) (h : s.mem.wf = true) : (State.doorbell s seq ctrl area length).mem.wf = true := by unfold State.doorbell; simp (maxDischargeDepth := 12) [*]

@[simp ↓, simp] theorem State.portDoorbell_wf (s : State) (core : Fin 12) (buffer : Bytes) (length : Nat) (h : s.mem.wf = true) : (State.portDoorbell s core buffer length).mem.wf = true := by
  unfold State.portDoorbell
  repeat' first | (simp (maxDischargeDepth := 12) [*]; done) | split | simp (maxDischargeDepth := 12) [*]

@[simp ↓, simp] theorem State.sdoDownload_wf (s : State) (toggle : Bool) (data : Bytes) (last : Bool) (h : s.mem.wf = true) : (State.sdoDownload s toggle data last).mem.wf = true := by
  unfold State.sdoDownload
  repeat' first | (simp (maxDischargeDepth := 12) [*]; done) | split | simp (maxDischargeDepth := 12) [*]

@[simp ↓, simp] theorem State.sdo_wf (s : State) (ctl : Fin 4) (req : SdoReq) (h : s.mem.wf = true) : (State.sdo s ctl req).mem.wf = true := by
  unfold State.sdo
  repeat' first | (simp (maxDischargeDepth := 12) [*]; done) | split | simp (maxDischargeDepth := 12) [*]

@[simp ↓, simp] theorem State.usdo_wf (s : State) (ctl : Fin 4) (req : UsdoReq) (h : s.mem.wf = true) : (State.usdo s ctl req).mem.wf = true := by
  unfold State.usdo
  repeat' first | (simp (maxDischargeDepth := 12) [*]; done) | split | simp (maxDischargeDepth := 12) [*]

@[simp ↓, simp] theorem State.receivePdo_wf (s : State) (n : Fin 16) (data : Bytes) (h : s.mem.wf = true) : (State.receivePdo s n data).mem.wf = true := by unfold State.receivePdo; simp (maxDischargeDepth := 12) [*]

/-! ## Queues -/

@[simp ↓, simp] theorem State.startCmd_wf (s : State) (c : Instr) (h : s.mem.wf = true) : (State.startCmd s c).mem.wf = true := by
  unfold State.startCmd
  repeat' first
    | (with_reducible assumption)
    | (simp (maxDischargeDepth := 12) [*]; done)
    | (split <;> try (rename_i hq; with_reducible obtain rfl := State.snd_eq hq; clear hq))
    | (intro _)
    | (with_reducible refine State.foldl_wf (fun _ _ _ => ?_) _ _ ?_)
    | (with_reducible refine State.foldl_snd_wf (fun _ _ _ => ?_) _ _ ?_)
    | (with_reducible refine State.foldl_fst_wf (fun _ _ _ => ?_) _ _ ?_)
    | (dsimp only)
    | (with_reducible apply State.startPage_wf)
    | (with_reducible apply State.startExecute_wf)
    | (with_reducible apply State.startStats_wf)
    | (with_reducible apply State.startConvert_wf)
    | (with_reducible apply State.startScaleUpdate_wf)
    | (with_reducible apply State.startOptStep_wf)
    | (with_reducible apply State.startWindow_wf)
    | (with_reducible apply State.startDecode_wf)
    | (with_reducible apply State.startNms_wf)
    | (with_reducible apply State.pageOpen_wf)
    | (with_reducible apply State.pageClose_wf)
    | (with_reducible apply State.pageTrim_wf)
    | (with_reducible apply State.pagePin_wf)
    | (with_reducible apply State.pageUnpin_wf)
    | (with_reducible apply State.pageResume_wf)
    | (with_reducible apply State.pageSet_wf)
    | (with_reducible apply State.startAppend_wf)
    | (with_reducible apply State.startAttend_wf)
    | (with_reducible apply State.startSample_wf)
    | (with_reducible apply State.runAccess_wf)
    | (with_reducible apply State.runDma_wf)
    | simp (maxDischargeDepth := 12) [*]
    | (rw [State.allocFrame_mem (by assumption)])
    | (rw [State.ensurePage_mem (by assumption)])
    | (rw [State.ensureAll_mem (by assumption)])
    | (rw [State.submitRefused_mem (by assumption)])
    | (with_reducible refine State.checkPlaces_wf (by assumption) ?_)
    | (with_reducible refine State.of_snd_wf (by assumption) ?_)
    | (with_reducible refine State.of_fst_wf (by assumption) ?_)

@[simp ↓, simp] theorem State.startWaiting_wf (s : State) (r : Fin 10) (b : Fin 18) (w : Waiting) (h : s.mem.wf = true) : (State.startWaiting s r b w).mem.wf = true := by unfold State.startWaiting; simp (maxDischargeDepth := 12) [*]

@[simp ↓, simp] theorem State.pumpOnce_wf (s : State) (r : Fin 10) (b : Fin 18) (h : s.mem.wf = true) : (State.pumpOnce s r b).mem.wf = true := by
  unfold State.pumpOnce
  repeat' first | (simp (maxDischargeDepth := 12) [*]; done) | split | simp (maxDischargeDepth := 12) [*]

@[simp ↓, simp] theorem State.pumpBlock_wf (s : State) (r : Fin 10) (b : Fin 18) (h : s.mem.wf = true) : (State.pumpBlock s r b).mem.wf = true := by
  unfold State.pumpBlock
  repeat' first
    | (with_reducible assumption)
    | (simp (maxDischargeDepth := 12) [*]; done)
    | (split <;> try (rename_i hq; with_reducible obtain rfl := State.snd_eq hq; clear hq))
    | (intro _)
    | (with_reducible refine State.foldl_wf (fun _ _ _ => ?_) _ _ ?_)
    | (with_reducible refine State.foldl_snd_wf (fun _ _ _ => ?_) _ _ ?_)
    | (with_reducible refine State.foldl_fst_wf (fun _ _ _ => ?_) _ _ ?_)
    | (dsimp only)
    | (with_reducible apply State.pumpOnce_wf)
    | simp (maxDischargeDepth := 12) [*]
    | (rw [State.allocFrame_mem (by assumption)])
    | (rw [State.ensurePage_mem (by assumption)])
    | (rw [State.ensureAll_mem (by assumption)])
    | (rw [State.submitRefused_mem (by assumption)])
    | (with_reducible refine State.checkPlaces_wf (by assumption) ?_)
    | (with_reducible refine State.of_snd_wf (by assumption) ?_)
    | (with_reducible refine State.of_fst_wf (by assumption) ?_)

@[simp ↓, simp] theorem State.pumpZooOnce_wf (s : State) (r : Fin 10) (h : s.mem.wf = true) : (State.pumpZooOnce s r).mem.wf = true := by
  unfold State.pumpZooOnce
  repeat' first | (simp (maxDischargeDepth := 12) [*]; done) | split | simp (maxDischargeDepth := 12) [*]

@[simp ↓, simp] theorem State.pumpZoo_wf (s : State) (r : Fin 10) (h : s.mem.wf = true) : (State.pumpZoo s r).mem.wf = true := by
  unfold State.pumpZoo
  repeat' first
    | (with_reducible assumption)
    | (simp (maxDischargeDepth := 12) [*]; done)
    | (split <;> try (rename_i hq; with_reducible obtain rfl := State.snd_eq hq; clear hq))
    | (intro _)
    | (with_reducible refine State.foldl_wf (fun _ _ _ => ?_) _ _ ?_)
    | (with_reducible refine State.foldl_snd_wf (fun _ _ _ => ?_) _ _ ?_)
    | (with_reducible refine State.foldl_fst_wf (fun _ _ _ => ?_) _ _ ?_)
    | (dsimp only)
    | (with_reducible apply State.pumpZooOnce_wf)
    | simp (maxDischargeDepth := 12) [*]
    | (rw [State.allocFrame_mem (by assumption)])
    | (rw [State.ensurePage_mem (by assumption)])
    | (rw [State.ensureAll_mem (by assumption)])
    | (rw [State.submitRefused_mem (by assumption)])
    | (with_reducible refine State.checkPlaces_wf (by assumption) ?_)
    | (with_reducible refine State.of_snd_wf (by assumption) ?_)
    | (with_reducible refine State.of_fst_wf (by assumption) ?_)

@[simp ↓, simp] theorem State.submit_wf (s : State) (c : Instr) (h : s.mem.wf = true) : (State.submit s c).mem.wf = true := by
  unfold State.submit
  repeat' first
    | (with_reducible assumption)
    | (simp (maxDischargeDepth := 12) [*]; done)
    | (split <;> try (rename_i hq; with_reducible obtain rfl := State.snd_eq hq; clear hq))
    | (intro _)
    | (with_reducible refine State.foldl_wf (fun _ _ _ => ?_) _ _ ?_)
    | (with_reducible refine State.foldl_snd_wf (fun _ _ _ => ?_) _ _ ?_)
    | (with_reducible refine State.foldl_fst_wf (fun _ _ _ => ?_) _ _ ?_)
    | (dsimp only)
    | (with_reducible apply State.refuseHeader_wf)
    | (with_reducible apply State.pumpBlock_wf)
    | (with_reducible apply State.pumpZoo_wf)
    | simp (maxDischargeDepth := 12) [*]
    | (rw [State.allocFrame_mem (by assumption)])
    | (rw [State.ensurePage_mem (by assumption)])
    | (rw [State.ensureAll_mem (by assumption)])
    | (rw [State.submitRefused_mem (by assumption)])
    | (with_reducible refine State.checkPlaces_wf (by assumption) ?_)
    | (with_reducible refine State.of_snd_wf (by assumption) ?_)
    | (with_reducible refine State.of_fst_wf (by assumption) ?_)

@[simp ↓, simp] theorem State.goOn_wf (s : State) (r : Fin 10) (b : Fin 18) (h : s.mem.wf = true) : (State.goOn s r b).mem.wf = true := by unfold State.goOn; simp (maxDischargeDepth := 12) [*]

@[simp ↓, simp] theorem State.drain_wf (s : State) (h : s.mem.wf = true) : (State.drain s).mem.wf = true := by
  unfold State.drain
  repeat' first
    | (with_reducible assumption)
    | (simp (maxDischargeDepth := 12) [*]; done)
    | (split <;> try (rename_i hq; with_reducible obtain rfl := State.snd_eq hq; clear hq))
    | (intro _)
    | (with_reducible refine State.foldl_wf (fun _ _ _ => ?_) _ _ ?_)
    | (with_reducible refine State.foldl_snd_wf (fun _ _ _ => ?_) _ _ ?_)
    | (with_reducible refine State.foldl_fst_wf (fun _ _ _ => ?_) _ _ ?_)
    | (dsimp only)
    | (with_reducible apply State.pumpZoo_wf)
    | (with_reducible apply State.goOn_wf)
    | simp (maxDischargeDepth := 12) [*]
    | (rw [State.allocFrame_mem (by assumption)])
    | (rw [State.ensurePage_mem (by assumption)])
    | (rw [State.ensureAll_mem (by assumption)])
    | (rw [State.submitRefused_mem (by assumption)])
    | (with_reducible refine State.checkPlaces_wf (by assumption) ?_)
    | (with_reducible refine State.of_snd_wf (by assumption) ?_)
    | (with_reducible refine State.of_fst_wf (by assumption) ?_)

/-! ## Release -/

@[simp ↓, simp] theorem State.hostRecord_wf (s : State) (q : Fin 16) (p : Payload) (h : s.mem.wf = true) : (State.hostRecord s q p).mem.wf = true := by unfold State.hostRecord; simp (maxDischargeDepth := 12) [*]

@[simp ↓, simp] theorem State.releaseOutput_wf (s : State) (beat : Nat) (count : Nat) (out : Nat) (cls : Nat) (source : Nat) (p : Payload) (h : s.mem.wf = true) : (State.releaseOutput s beat count out cls source p).mem.wf = true := by
  unfold State.releaseOutput
  repeat' first
    | (with_reducible assumption)
    | (simp (maxDischargeDepth := 12) [*]; done)
    | (split <;> try (rename_i hq; with_reducible obtain rfl := State.snd_eq hq; clear hq))
    | (intro _)
    | (with_reducible refine State.foldl_wf (fun _ _ _ => ?_) _ _ ?_)
    | (with_reducible refine State.foldl_snd_wf (fun _ _ _ => ?_) _ _ ?_)
    | (with_reducible refine State.foldl_fst_wf (fun _ _ _ => ?_) _ _ ?_)
    | (dsimp only)
    | (with_reducible apply State.onUnit_wf)
    | (with_reducible apply State.hostRecord_wf)
    | (with_reducible apply State.hostRecord_wf)
    | (with_reducible apply State.hostRecord_wf)
    | simp (maxDischargeDepth := 12) [*]
    | (rw [State.allocFrame_mem (by assumption)])
    | (rw [State.ensurePage_mem (by assumption)])
    | (rw [State.ensureAll_mem (by assumption)])
    | (rw [State.submitRefused_mem (by assumption)])
    | (with_reducible refine State.checkPlaces_wf (by assumption) ?_)
    | (with_reducible refine State.of_snd_wf (by assumption) ?_)
    | (with_reducible refine State.of_fst_wf (by assumption) ?_)

@[simp ↓, simp] theorem State.releaseC_wf (s : State) (beat : Nat) (count : Nat) (r : Report) (late : Bool) (h : s.mem.wf = true) : (State.releaseC s beat count r late).1.mem.wf = true := by
  unfold State.releaseC
  repeat' first | (simp (maxDischargeDepth := 12) [*]; done) | split | simp (maxDischargeDepth := 12) [*]

@[simp ↓, simp] theorem State.releaseI_wf (s : State) (beat : Nat) (count : Nat) (r : Report) (late : Bool) (h : s.mem.wf = true) : (State.releaseI s beat count r late).mem.wf = true := by
  unfold State.releaseI
  repeat' first | (simp (maxDischargeDepth := 12) [*]; done) | split | simp (maxDischargeDepth := 12) [*]

@[simp ↓, simp] theorem State.releaseOne_wf (s : State) (run : Run) (n : Nat) (r : Report) (h : s.mem.wf = true) : (State.releaseOne s run n r).1.mem.wf = true := by
  unfold State.releaseOne
  repeat' first | (simp (maxDischargeDepth := 12) [*]; done) | split | simp (maxDischargeDepth := 12) [*]

@[simp ↓, simp] theorem State.releaseAll_wf (s : State) (run : Run) (n : Nat) (reports : List Report) (h : s.mem.wf = true) : (State.releaseAll s run n reports).mem.wf = true := by
  unfold State.releaseAll
  repeat' first
    | (with_reducible assumption)
    | (simp (maxDischargeDepth := 12) [*]; done)
    | (split <;> try (rename_i hq; with_reducible obtain rfl := State.snd_eq hq; clear hq))
    | (intro _)
    | (with_reducible refine State.foldl_wf (fun _ _ _ => ?_) _ _ ?_)
    | (with_reducible refine State.foldl_snd_wf (fun _ _ _ => ?_) _ _ ?_)
    | (with_reducible refine State.foldl_fst_wf (fun _ _ _ => ?_) _ _ ?_)
    | (dsimp only)
    | (with_reducible apply State.complete_wf)
    | (with_reducible apply State.releaseOne_wf)
    | (with_reducible apply State.releaseOne_wf)
    | (with_reducible apply State.releaseOne_wf)
    | simp (maxDischargeDepth := 12) [*]
    | (rw [State.allocFrame_mem (by assumption)])
    | (rw [State.ensurePage_mem (by assumption)])
    | (rw [State.ensureAll_mem (by assumption)])
    | (rw [State.submitRefused_mem (by assumption)])
    | (with_reducible refine State.checkPlaces_wf (by assumption) ?_)
    | (with_reducible refine State.of_snd_wf (by assumption) ?_)
    | (with_reducible refine State.of_fst_wf (by assumption) ?_)

@[simp ↓, simp] theorem State.endBeat_wf (s : State) (n : Nat) (h : s.mem.wf = true) : (State.endBeat s n).mem.wf = true := by unfold State.endBeat; simp (maxDischargeDepth := 12) [*]

@[simp ↓, simp] theorem State.release_wf (s : State) (reports : List Report) (samples : List AxisSample) (h : s.mem.wf = true) : (State.release s reports samples).mem.wf = true := by
  unfold State.release
  repeat' first | (simp (maxDischargeDepth := 12) [*]; done) | split | simp (maxDischargeDepth := 12) [*]

@[simp ↓, simp] theorem State.reinterleave_wf (s : State) (h : s.mem.wf = true) : (State.reinterleave s).mem.wf = true := by unfold State.reinterleave; simp (maxDischargeDepth := 12) [*]

@[simp ↓, simp] theorem State.beginLaunch_wf (s : State) (im : Image) (count : Nat) (cams : List (Fin 24 × Discovery)) (h : s.mem.wf = true) : (State.beginLaunch s im count cams).mem.wf = true := by unfold State.beginLaunch; simp (maxDischargeDepth := 12) [*]

@[simp ↓, simp] theorem State.startLaunch_wf (s : State) (cams : List (Fin 24 × Discovery)) (h : s.mem.wf = true) : (State.startLaunch s cams).mem.wf = true := by
  unfold State.startLaunch
  repeat' first | (simp (maxDischargeDepth := 12) [*]; done) | split | simp (maxDischargeDepth := 12) [*]

@[simp ↓, simp] theorem State.relaunch_wf (s : State) (h : s.mem.wf = true) : (State.relaunch s).mem.wf = true := by
  unfold State.relaunch
  dsimp only
  split
  · exact h
  · split
    · exact h
    · split
      · simp only [State.dropLaunch_mem, State.refuseImage_mem, State.endLaunch_mem, h]
      · refine State.beginLaunch_wf _ _ _ _ ?_
        split <;> simp only [State.modKv_mem, State.modService_mem, State.endLaunch_mem, h]

@[simp ↓, simp] theorem State.idleTick_wf (s : State) (h : s.mem.wf = true) : (State.idleTick s).mem.wf = true := by unfold State.idleTick; simp (maxDischargeDepth := 12) [*]

/-! ## Requests -/

@[simp ↓, simp] theorem State.endCompensation_wf (s : State) (hh : Fin 12) (h : s.mem.wf = true) : (State.endCompensation s hh).mem.wf = true := by
  unfold State.endCompensation
  repeat' first | (simp (maxDischargeDepth := 12) [*]; done) | split | simp (maxDischargeDepth := 12) [*]

end Sys2Proof.Machine
end

