-- ==== Sys2Proof/Laws/PerInstr.lean ====
section
/-!
SUPPORT. The family TimeOfWf: the count that a well-formed command carries fits the 64-bit weft count (R383), one lemma per command.
-/

namespace Sys2Proof.Laws

/-- A command's count fits 64 bits where the command is well formed. -/
def TimeOfWf.Statement (i : Instr) : Prop := i.wf → i.time < 2 ^ 64

theorem TimeOfWf.of_uw (t : Nat) (h : uw 64 t = true) : t < 2 ^ 64 := of_decide_eq_true h

theorem TimeOfWf.left {a b : Bool} (h : (a && b) = true) : a = true := by cases a <;> simp_all

theorem TimeOfWf.emcyInhibitExpiry (a0 : Nat) : TimeOfWf.Statement (.emcyInhibitExpiry a0) := fun h => TimeOfWf.of_uw _ h
theorem TimeOfWf.faultLogRead (a0 : Nat) (a1 : Session) : TimeOfWf.Statement (.faultLogRead a0 a1) := fun h => TimeOfWf.of_uw _ (TimeOfWf.left h)
theorem TimeOfWf.faultAcknowledge (a0 : Nat) (a1 : Session) (a2 : Nat) : TimeOfWf.Statement (.faultAcknowledge a0 a1 a2) := fun h => TimeOfWf.of_uw _ (TimeOfWf.left (TimeOfWf.left h))
theorem TimeOfWf.hostQueueDrainTimeout (a0 : Nat) (a1 : Fin 16) : TimeOfWf.Statement (.hostQueueDrainTimeout a0 a1) := fun h => TimeOfWf.of_uw _ h
theorem TimeOfWf.illegalDualRailCode (a0 : Nat) (a1 : Fin 10) (a2 : Fin 18) (a3 : Nat) (a4 : BitVec 128) : TimeOfWf.Statement (.illegalDualRailCode a0 a1 a2 a3 a4) := fun h => TimeOfWf.of_uw _ (TimeOfWf.left h)
theorem TimeOfWf.replicaMeasurement (a0 : Nat) (a1 : List Nat) : TimeOfWf.Statement (.replicaMeasurement a0 a1) := fun h => TimeOfWf.of_uw _ (TimeOfWf.left h)
theorem TimeOfWf.synchroniserParityError (a0 : Nat) (a1 : Fin 9) (a2 : Option (Fin 10 × BitVec 128)) : TimeOfWf.Statement (.synchroniserParityError a0 a1 a2) := fun h => TimeOfWf.of_uw _ h
theorem TimeOfWf.blockStallTimeout (a0 : Nat) (a1 : Fin 10) (a2 : Fin 18) (a3 : Nat) (a4 : List (BitVec 128)) : TimeOfWf.Statement (.blockStallTimeout a0 a1 a2 a3 a4) := fun h => TimeOfWf.of_uw _ (TimeOfWf.left h)
theorem TimeOfWf.releaseCount (a0 : Nat) (a1 : List Report) (a2 : List AxisSample) : TimeOfWf.Statement (.releaseCount a0 a1 a2) := fun h => TimeOfWf.of_uw _ (TimeOfWf.left h)
theorem TimeOfWf.launchPropose (a0 : Nat) (a1 : Session) (a2 : Nat) : TimeOfWf.Statement (.launchPropose a0 a1 a2) := fun h => TimeOfWf.of_uw _ (TimeOfWf.left (TimeOfWf.left h))
theorem TimeOfWf.launchProposal (a0 : Nat) (a1 : BFrame) : TimeOfWf.Statement (.launchProposal a0 a1) := fun h => TimeOfWf.of_uw _ (TimeOfWf.left h)
theorem TimeOfWf.launchAcknowledge (a0 : Nat) (a1 : BFrame) : TimeOfWf.Statement (.launchAcknowledge a0 a1) := fun h => TimeOfWf.of_uw _ (TimeOfWf.left h)
theorem TimeOfWf.launchConfirm (a0 : Nat) (a1 : BFrame) : TimeOfWf.Statement (.launchConfirm a0 a1) := fun h => TimeOfWf.of_uw _ (TimeOfWf.left h)
theorem TimeOfWf.launchConfirmResponse (a0 : Nat) (a1 : BFrame) : TimeOfWf.Statement (.launchConfirmResponse a0 a1) := fun h => TimeOfWf.of_uw _ (TimeOfWf.left h)
theorem TimeOfWf.launchConfirmRepeat (a0 : Nat) : TimeOfWf.Statement (.launchConfirmRepeat a0) := fun h => TimeOfWf.of_uw _ h
theorem TimeOfWf.launchAckTimeout (a0 : Nat) : TimeOfWf.Statement (.launchAckTimeout a0) := fun h => TimeOfWf.of_uw _ h
theorem TimeOfWf.launchAbort (a0 : Nat) (a1 : BFrame) : TimeOfWf.Statement (.launchAbort a0 a1) := fun h => TimeOfWf.of_uw _ (TimeOfWf.left h)
theorem TimeOfWf.launchAbortDeadline (a0 : Nat) : TimeOfWf.Statement (.launchAbortDeadline a0) := fun h => TimeOfWf.of_uw _ h
theorem TimeOfWf.launchStart (a0 : Nat) (a1 : List (Fin 24 × Discovery)) : TimeOfWf.Statement (.launchStart a0 a1) := fun h => TimeOfWf.of_uw _ h
theorem TimeOfWf.sdoRequest (a0 : Nat) (a1 : Fin 4) (a2 : SdoReq) : TimeOfWf.Statement (.sdoRequest a0 a1 a2) := fun h => TimeOfWf.of_uw _ (TimeOfWf.left h)
theorem TimeOfWf.usdoRequest (a0 : Nat) (a1 : Fin 4) (a2 : UsdoReq) : TimeOfWf.Statement (.usdoRequest a0 a1 a2) := fun h => TimeOfWf.of_uw _ (TimeOfWf.left h)
theorem TimeOfWf.sdoTimeout (a0 : Nat) : TimeOfWf.Statement (.sdoTimeout a0) := fun h => TimeOfWf.of_uw _ h
theorem TimeOfWf.nmtCommand (a0 : Nat) (a1 : Fin 4) (a2 : Nat) (a3 : NmtCmd) : TimeOfWf.Statement (.nmtCommand a0 a1 a2 a3) := fun h => TimeOfWf.of_uw _ (TimeOfWf.left h)
theorem TimeOfWf.heartbeat (a0 : Nat) : TimeOfWf.Statement (.heartbeat a0) := fun h => TimeOfWf.of_uw _ h
theorem TimeOfWf.rpdoReceived (a0 : Nat) (a1 : Fin 16) (a2 : Bytes) : TimeOfWf.Statement (.rpdoReceived a0 a1 a2) := fun h => TimeOfWf.of_uw _ (TimeOfWf.left h)
theorem TimeOfWf.objectWrite (a0 : Nat) (a1 : Session) (a2 : Key) (a3 : Val) : TimeOfWf.Statement (.objectWrite a0 a1 a2 a3) := fun h => TimeOfWf.of_uw _ (TimeOfWf.left (TimeOfWf.left h))
theorem TimeOfWf.storeAllParameters (a0 : Nat) (a1 : Session) (a2 : Nat) (a3 : Nat) : TimeOfWf.Statement (.storeAllParameters a0 a1 a2 a3) := fun h => TimeOfWf.of_uw _ (TimeOfWf.left (TimeOfWf.left (TimeOfWf.left h)))
theorem TimeOfWf.restoreDefaultParameters (a0 : Nat) (a1 : Session) (a2 : Nat) : TimeOfWf.Statement (.restoreDefaultParameters a0 a1 a2) := fun h => TimeOfWf.of_uw _ (TimeOfWf.left (TimeOfWf.left h))
theorem TimeOfWf.commitOpen (a0 : Nat) (a1 : Session) : TimeOfWf.Statement (.commitOpen a0 a1) := fun h => TimeOfWf.of_uw _ (TimeOfWf.left h)
theorem TimeOfWf.commit (a0 : Nat) (a1 : Session) : TimeOfWf.Statement (.commit a0 a1) := fun h => TimeOfWf.of_uw _ (TimeOfWf.left h)
theorem TimeOfWf.commitDiscard (a0 : Nat) (a1 : Session) : TimeOfWf.Statement (.commitDiscard a0 a1) := fun h => TimeOfWf.of_uw _ (TimeOfWf.left h)
theorem TimeOfWf.engineReadyReport (a0 : Nat) (a1 : Engine) : TimeOfWf.Statement (.engineReadyReport a0 a1) := fun h => TimeOfWf.of_uw _ h
theorem TimeOfWf.commitSwitch (a0 : Nat) : TimeOfWf.Statement (.commitSwitch a0) := fun h => TimeOfWf.of_uw _ h
theorem TimeOfWf.commitTimeout (a0 : Nat) : TimeOfWf.Statement (.commitTimeout a0) := fun h => TimeOfWf.of_uw _ h
theorem TimeOfWf.commitBeatPassed (a0 : Nat) : TimeOfWf.Statement (.commitBeatPassed a0) := fun h => TimeOfWf.of_uw _ h
theorem TimeOfWf.commitGroupIdleTimeout (a0 : Nat) : TimeOfWf.Statement (.commitGroupIdleTimeout a0) := fun h => TimeOfWf.of_uw _ h
theorem TimeOfWf.sessionOpenRequest (a0 : Nat) (a1 : BFrame) : TimeOfWf.Statement (.sessionOpenRequest a0 a1) := fun h => TimeOfWf.of_uw _ (TimeOfWf.left h)
theorem TimeOfWf.sessionClose (a0 : Nat) (a1 : BFrame) : TimeOfWf.Statement (.sessionClose a0 a1) := fun h => TimeOfWf.of_uw _ (TimeOfWf.left h)
theorem TimeOfWf.basarisSessionTimeout (a0 : Nat) (a1 : Nat) : TimeOfWf.Statement (.basarisSessionTimeout a0 a1) := fun h => TimeOfWf.of_uw _ (TimeOfWf.left h)
theorem TimeOfWf.keepAlive (a0 : Nat) (a1 : BFrame) : TimeOfWf.Statement (.keepAlive a0 a1) := fun h => TimeOfWf.of_uw _ (TimeOfWf.left h)
theorem TimeOfWf.readRequest (a0 : Nat) (a1 : BFrame) : TimeOfWf.Statement (.readRequest a0 a1) := fun h => TimeOfWf.of_uw _ (TimeOfWf.left h)
theorem TimeOfWf.writeRequest (a0 : Nat) (a1 : BFrame) : TimeOfWf.Statement (.writeRequest a0 a1) := fun h => TimeOfWf.of_uw _ (TimeOfWf.left h)
theorem TimeOfWf.emergencyAcknowledge (a0 : Nat) (a1 : BFrame) : TimeOfWf.Statement (.emergencyAcknowledge a0 a1) := fun h => TimeOfWf.of_uw _ (TimeOfWf.left h)
theorem TimeOfWf.emergencyRepeat (a0 : Nat) (a1 : Nat) (a2 : Nat) : TimeOfWf.Statement (.emergencyRepeat a0 a1 a2) := fun h => TimeOfWf.of_uw _ (TimeOfWf.left (TimeOfWf.left h))
theorem TimeOfWf.basarisReconfigure (a0 : Nat) : TimeOfWf.Statement (.basarisReconfigure a0) := fun h => TimeOfWf.of_uw _ h
theorem TimeOfWf.mbxDoorbell (a0 : Nat) (a1 : Nat) (a2 : BitVec 32) (a3 : Bytes) (a4 : Nat) : TimeOfWf.Statement (.mbxDoorbell a0 a1 a2 a3 a4) := fun h => TimeOfWf.of_uw _ (TimeOfWf.left (TimeOfWf.left (TimeOfWf.left h)))
theorem TimeOfWf.dictionaryPortDoorbell (a0 : Nat) (a1 : Fin 12) (a2 : Bytes) (a3 : Nat) : TimeOfWf.Statement (.dictionaryPortDoorbell a0 a1 a2 a3) := fun h => TimeOfWf.of_uw _ (TimeOfWf.left (TimeOfWf.left h))
theorem TimeOfWf.executeDescriptor (a0 : Nat) (a1 : Fin 10) (a2 : Fin 18) (a3 : ExecDesc) : TimeOfWf.Statement (.executeDescriptor a0 a1 a2 a3) := fun h => TimeOfWf.of_uw _ (TimeOfWf.left h)
theorem TimeOfWf.accessDescriptor (a0 : Nat) (a1 : Fin 10) (a2 : Fin 18) (a3 : MoveDesc) : TimeOfWf.Statement (.accessDescriptor a0 a1 a2 a3) := fun h => TimeOfWf.of_uw _ h
theorem TimeOfWf.dmaDescriptor (a0 : Nat) (a1 : Fin 10) (a2 : Fin 2) (a3 : MoveDesc) : TimeOfWf.Statement (.dmaDescriptor a0 a1 a2 a3) := fun h => TimeOfWf.of_uw _ h
theorem TimeOfWf.residueWindowExpiry (a0 : Nat) (a1 : Fin 10) (a2 : Fin 18) (a3 : Fin 65) : TimeOfWf.Statement (.residueWindowExpiry a0 a1 a2 a3) := fun h => TimeOfWf.of_uw _ h
theorem TimeOfWf.cellSpareSwap (a0 : Nat) (a1 : Fin 10) (a2 : Fin 18) : TimeOfWf.Statement (.cellSpareSwap a0 a1 a2) := fun h => TimeOfWf.of_uw _ h
theorem TimeOfWf.rowMapOut (a0 : Nat) (a1 : BitVec 32) : TimeOfWf.Statement (.rowMapOut a0 a1) := fun h => TimeOfWf.of_uw _ h
theorem TimeOfWf.mapOutRequest (a0 : Nat) (a1 : Session) (a2 : BitVec 32) : TimeOfWf.Statement (.mapOutRequest a0 a1 a2) := fun h => TimeOfWf.of_uw _ (TimeOfWf.left h)
theorem TimeOfWf.conv (a0 : Nat) (a1 : Fin 10) (a2 : Fin 18) (a3 : WinDesc) : TimeOfWf.Statement (.conv a0 a1 a2 a3) := fun h => TimeOfWf.of_uw _ h
theorem TimeOfWf.poolMax (a0 : Nat) (a1 : Fin 10) (a2 : Fin 18) (a3 : WinDesc) : TimeOfWf.Statement (.poolMax a0 a1 a2 a3) := fun h => TimeOfWf.of_uw _ h
theorem TimeOfWf.poolAvg (a0 : Nat) (a1 : Fin 10) (a2 : Fin 18) (a3 : WinDesc) : TimeOfWf.Statement (.poolAvg a0 a1 a2 a3) := fun h => TimeOfWf.of_uw _ h
theorem TimeOfWf.erode (a0 : Nat) (a1 : Fin 10) (a2 : Fin 18) (a3 : WinDesc) : TimeOfWf.Statement (.erode a0 a1 a2 a3) := fun h => TimeOfWf.of_uw _ h
theorem TimeOfWf.dilate (a0 : Nat) (a1 : Fin 10) (a2 : Fin 18) (a3 : WinDesc) : TimeOfWf.Statement (.dilate a0 a1 a2 a3) := fun h => TimeOfWf.of_uw _ h
theorem TimeOfWf.median (a0 : Nat) (a1 : Fin 10) (a2 : Fin 18) (a3 : WinDesc) : TimeOfWf.Statement (.median a0 a1 a2 a3) := fun h => TimeOfWf.of_uw _ h
theorem TimeOfWf.resizeNearest (a0 : Nat) (a1 : Fin 10) (a2 : Fin 18) (a3 : WinDesc) : TimeOfWf.Statement (.resizeNearest a0 a1 a2 a3) := fun h => TimeOfWf.of_uw _ h
theorem TimeOfWf.resizeBilinear (a0 : Nat) (a1 : Fin 10) (a2 : Fin 18) (a3 : WinDesc) : TimeOfWf.Statement (.resizeBilinear a0 a1 a2 a3) := fun h => TimeOfWf.of_uw _ h
theorem TimeOfWf.selvedgeEntryReceived (a0 : Nat) (a1 : Fin 10) (a2 : Fin 18) (a3 : Fin 2) (a4 : BitVec 64) (a5 : Bytes) (a6 : Nat) (a7 : Nat) : TimeOfWf.Statement (.selvedgeEntryReceived a0 a1 a2 a3 a4 a5 a6 a7) := fun h => TimeOfWf.of_uw _ (TimeOfWf.left (TimeOfWf.left (TimeOfWf.left h)))
theorem TimeOfWf.selvedgeWaitTimeout (a0 : Nat) (a1 : Fin 10) (a2 : Fin 18) (a3 : Fin 2) : TimeOfWf.Statement (.selvedgeWaitTimeout a0 a1 a2 a3) := fun h => TimeOfWf.of_uw _ h
theorem TimeOfWf.statsTensor (a0 : Nat) (a1 : Fin 10) (a2 : QuantDesc) : TimeOfWf.Statement (.statsTensor a0 a1 a2) := fun h => TimeOfWf.of_uw _ h
theorem TimeOfWf.statsChannel (a0 : Nat) (a1 : Fin 10) (a2 : QuantDesc) : TimeOfWf.Statement (.statsChannel a0 a1 a2) := fun h => TimeOfWf.of_uw _ h
theorem TimeOfWf.convert (a0 : Nat) (a1 : Fin 10) (a2 : QuantDesc) : TimeOfWf.Statement (.convert a0 a1 a2) := fun h => TimeOfWf.of_uw _ h
theorem TimeOfWf.scaleUpdate (a0 : Nat) (a1 : Fin 10) (a2 : ScaleDesc) : TimeOfWf.Statement (.scaleUpdate a0 a1 a2) := fun h => TimeOfWf.of_uw _ h
theorem TimeOfWf.optStep (a0 : Nat) (a1 : Fin 10) (a2 : OptDesc) : TimeOfWf.Statement (.optStep a0 a1 a2) := fun h => TimeOfWf.of_uw _ h
theorem TimeOfWf.decode (a0 : Nat) (a1 : Fin 10) (a2 : Fin 18) (a3 : ZooDesc) : TimeOfWf.Statement (.decode a0 a1 a2 a3) := fun h => TimeOfWf.of_uw _ h
theorem TimeOfWf.nms (a0 : Nat) (a1 : Fin 10) (a2 : ZooDesc) (a3 : Nat) (a4 : Bool) : TimeOfWf.Statement (.nms a0 a1 a2 a3 a4) := fun h => TimeOfWf.of_uw _ (TimeOfWf.left h)
theorem TimeOfWf.carryTimeout (a0 : Nat) (a1 : Fin 24) : TimeOfWf.Statement (.carryTimeout a0 a1) := fun h => TimeOfWf.of_uw _ h
theorem TimeOfWf.kvAppend (a0 : Nat) (a1 : Fin 10) (a2 : AppendDesc) : TimeOfWf.Statement (.kvAppend a0 a1 a2) := fun h => TimeOfWf.of_uw _ h
theorem TimeOfWf.attend (a0 : Nat) (a1 : Fin 10) (a2 : ZooDesc) (a3 : Option Nat) : TimeOfWf.Statement (.attend a0 a1 a2 a3) := fun h => TimeOfWf.of_uw _ h
theorem TimeOfWf.pageCtrlOpen (a0 : Nat) (a1 : Fin 10) (a2 : PageDesc) : TimeOfWf.Statement (.pageCtrlOpen a0 a1 a2) := fun h => TimeOfWf.of_uw _ h
theorem TimeOfWf.pageCtrlClose (a0 : Nat) (a1 : Fin 10) (a2 : PageDesc) : TimeOfWf.Statement (.pageCtrlClose a0 a1 a2) := fun h => TimeOfWf.of_uw _ h
theorem TimeOfWf.pageCtrlTrim (a0 : Nat) (a1 : Fin 10) (a2 : PageDesc) : TimeOfWf.Statement (.pageCtrlTrim a0 a1 a2) := fun h => TimeOfWf.of_uw _ h
theorem TimeOfWf.pageCtrlPin (a0 : Nat) (a1 : Fin 10) (a2 : PageDesc) : TimeOfWf.Statement (.pageCtrlPin a0 a1 a2) := fun h => TimeOfWf.of_uw _ h
theorem TimeOfWf.pageCtrlUnpin (a0 : Nat) (a1 : Fin 10) (a2 : PageDesc) : TimeOfWf.Statement (.pageCtrlUnpin a0 a1 a2) := fun h => TimeOfWf.of_uw _ h
theorem TimeOfWf.pageCtrlResume (a0 : Nat) (a1 : Fin 10) (a2 : PageDesc) : TimeOfWf.Statement (.pageCtrlResume a0 a1 a2) := fun h => TimeOfWf.of_uw _ h
theorem TimeOfWf.pageCtrlSet (a0 : Nat) (a1 : Fin 10) (a2 : PageDesc) : TimeOfWf.Statement (.pageCtrlSet a0 a1 a2) := fun h => TimeOfWf.of_uw _ h
theorem TimeOfWf.cameraDiscoveryTimeout (a0 : Nat) (a1 : Fin 24) : TimeOfWf.Statement (.cameraDiscoveryTimeout a0 a1) := fun h => TimeOfWf.of_uw _ h
theorem TimeOfWf.cameraLineReceived (a0 : Nat) (a1 : Fin 24) (a2 : CamLine) : TimeOfWf.Statement (.cameraLineReceived a0 a1 a2) := fun h => TimeOfWf.of_uw _ (TimeOfWf.left h)
theorem TimeOfWf.lineLate (a0 : Nat) (a1 : Fin 24) : TimeOfWf.Statement (.lineLate a0 a1) := fun h => TimeOfWf.of_uw _ h
theorem TimeOfWf.streamSilent (a0 : Nat) (a1 : Fin 24) : TimeOfWf.Statement (.streamSilent a0 a1) := fun h => TimeOfWf.of_uw _ h
theorem TimeOfWf.cameraSettingsTimeout (a0 : Nat) (a1 : Fin 24) (a2 : Nat) : TimeOfWf.Statement (.cameraSettingsTimeout a0 a1 a2) := fun h => TimeOfWf.of_uw _ (TimeOfWf.left h)
theorem TimeOfWf.cameraRegisterRequest (a0 : Nat) (a1 : Session) (a2 : Bytes) (a3 : Nat) (a4 : Bytes) : TimeOfWf.Statement (.cameraRegisterRequest a0 a1 a2 a3 a4) := fun h => TimeOfWf.of_uw _ (TimeOfWf.left (TimeOfWf.left (TimeOfWf.left h)))
theorem TimeOfWf.headAuthentication (a0 : Nat) (a1 : Fin 12) (a2 : HeadMemory) (a3 : HeadAnswer) : TimeOfWf.Statement (.headAuthentication a0 a1 a2 a3) := fun h => TimeOfWf.of_uw _ (TimeOfWf.left (TimeOfWf.left h))
theorem TimeOfWf.headSerialPoll (a0 : Nat) (a1 : Fin 12) (a2 : Option Bytes) : TimeOfWf.Statement (.headSerialPoll a0 a1 a2) := fun h => TimeOfWf.of_uw _ (TimeOfWf.left h)
theorem TimeOfWf.wearRecordWrite (a0 : Nat) (a1 : Fin 12) (a2 : Bool) : TimeOfWf.Statement (.wearRecordWrite a0 a1 a2) := fun h => TimeOfWf.of_uw _ h
theorem TimeOfWf.compensationIntervalEnd (a0 : Nat) (a1 : Fin 12) : TimeOfWf.Statement (.compensationIntervalEnd a0 a1) := fun h => TimeOfWf.of_uw _ h
theorem TimeOfWf.driveWriteTimeout (a0 : Nat) (a1 : Fin 12) : TimeOfWf.Statement (.driveWriteTimeout a0 a1) := fun h => TimeOfWf.of_uw _ h
theorem TimeOfWf.captureReferenceTarget (a0 : Nat) (a1 : Session) (a2 : Fin 12) : TimeOfWf.Statement (.captureReferenceTarget a0 a1 a2) := fun h => TimeOfWf.of_uw _ (TimeOfWf.left h)
theorem TimeOfWf.submittedCountWrite (a0 : Nat) (a1 : Session) (a2 : Fin 8) (a3 : Nat) : TimeOfWf.Statement (.submittedCountWrite a0 a1 a2 a3) := fun h => TimeOfWf.of_uw _ (TimeOfWf.left (TimeOfWf.left h))
theorem TimeOfWf.submissionEntryTaken (a0 : Nat) (a1 : Fin 8) (a2 : BitVec 256) (a3 : Option Bytes) (a4 : Nat) : TimeOfWf.Statement (.submissionEntryTaken a0 a1 a2 a3 a4) := fun h => TimeOfWf.of_uw _ (TimeOfWf.left h)
theorem TimeOfWf.sampleDecode (a0 : Nat) (a1 : Fin 8) (a2 : Nat) (a3 : SampleRun) : TimeOfWf.Statement (.sampleDecode a0 a1 a2 a3) := fun h => TimeOfWf.of_uw _ (TimeOfWf.left (TimeOfWf.left h))
theorem TimeOfWf.hostDecodeReturn (a0 : Nat) (a1 : Fin 8) (a2 : Fin 256) (a3 : Nat) (a4 : Nat) (a5 : List Nat) : TimeOfWf.Statement (.hostDecodeReturn a0 a1 a2 a3 a4 a5) := fun h => TimeOfWf.of_uw _ (TimeOfWf.left (TimeOfWf.left h))
theorem TimeOfWf.hostDecodeTimeout (a0 : Nat) (a1 : Fin 8) (a2 : Nat) : TimeOfWf.Statement (.hostDecodeTimeout a0 a1 a2) := fun h => TimeOfWf.of_uw _ (TimeOfWf.left h)
theorem TimeOfWf.batchWrite (a0 : Nat) (a1 : Fin 8) (a2 : Nat) : TimeOfWf.Statement (.batchWrite a0 a1 a2) := fun h => TimeOfWf.of_uw _ (TimeOfWf.left h)
theorem TimeOfWf.flush (a0 : Nat) (a1 : Session) (a2 : Fin 8) : TimeOfWf.Statement (.flush a0 a1 a2) := fun h => TimeOfWf.of_uw _ (TimeOfWf.left h)
theorem TimeOfWf.adcConversionStart (a0 : Nat) (a1 : Fin 32) : TimeOfWf.Statement (.adcConversionStart a0 a1) := fun h => TimeOfWf.of_uw _ h
theorem TimeOfWf.adcConversionComplete (a0 : Nat) (a1 : Fin 32) (a2 : Int) : TimeOfWf.Statement (.adcConversionComplete a0 a1 a2) := fun h => TimeOfWf.of_uw _ (TimeOfWf.left h)
theorem TimeOfWf.ssiPositionLatch (a0 : Nat) (a1 : Fin 16) (a2 : BitVec 40) (a3 : Bool) (a4 : Bool) : TimeOfWf.Statement (.ssiPositionLatch a0 a1 a2 a3 a4) := fun h => TimeOfWf.of_uw _ h
theorem TimeOfWf.captureEvent (a0 : Nat) (a1 : Fin 16) (a2 : Bool) (a3 : Int) : TimeOfWf.Statement (.captureEvent a0 a1 a2 a3) := fun h => TimeOfWf.of_uw _ (TimeOfWf.left h)
theorem TimeOfWf.carrierUpdatePoint (a0 : Nat) (a1 : Fin 16) : TimeOfWf.Statement (.carrierUpdatePoint a0 a1) := fun h => TimeOfWf.of_uw _ h
theorem TimeOfWf.currentChannelStuck (a0 : Nat) (a1 : Fin 16) (a2 : Fin 3) : TimeOfWf.Statement (.currentChannelStuck a0 a1 a2) := fun h => TimeOfWf.of_uw _ h
theorem TimeOfWf.overCurrentTrip (a0 : Nat) (a1 : Fin 16) (a2 : Int) : TimeOfWf.Statement (.overCurrentTrip a0 a1 a2) := fun h => TimeOfWf.of_uw _ (TimeOfWf.left h)
theorem TimeOfWf.digitalInputEdge (a0 : Nat) (a1 : Fin 32) (a2 : Bool) : TimeOfWf.Statement (.digitalInputEdge a0 a1 a2) := fun h => TimeOfWf.of_uw _ h
theorem TimeOfWf.chatterQuietTimeout (a0 : Nat) (a1 : Fin 32) : TimeOfWf.Statement (.chatterQuietTimeout a0 a1) := fun h => TimeOfWf.of_uw _ h
theorem TimeOfWf.inputStuckTimeout (a0 : Nat) (a1 : Fin 32) : TimeOfWf.Statement (.inputStuckTimeout a0 a1) := fun h => TimeOfWf.of_uw _ h
theorem TimeOfWf.sensorSupplyCommand (a0 : Nat) (a1 : Session) (a2 : Fin 16) (a3 : Nat) : TimeOfWf.Statement (.sensorSupplyCommand a0 a1 a2 a3) := fun h => TimeOfWf.of_uw _ (TimeOfWf.left (TimeOfWf.left h))
theorem TimeOfWf.supplyShort (a0 : Nat) (a1 : Fin 16) : TimeOfWf.Statement (.supplyShort a0 a1) := fun h => TimeOfWf.of_uw _ h
theorem TimeOfWf.supplyOverloadTimeout (a0 : Nat) (a1 : Fin 16) : TimeOfWf.Statement (.supplyOverloadTimeout a0 a1) := fun h => TimeOfWf.of_uw _ h
theorem TimeOfWf.supplyRetry (a0 : Nat) (a1 : Fin 16) : TimeOfWf.Statement (.supplyRetry a0 a1) := fun h => TimeOfWf.of_uw _ h
theorem TimeOfWf.supplyDischargeComplete (a0 : Nat) (a1 : Fin 16) : TimeOfWf.Statement (.supplyDischargeComplete a0 a1) := fun h => TimeOfWf.of_uw _ h
theorem TimeOfWf.digitalOutputThermalShutdown (a0 : Nat) (a1 : Fin 32) (a2 : Nat) : TimeOfWf.Statement (.digitalOutputThermalShutdown a0 a1 a2) := fun h => TimeOfWf.of_uw _ (TimeOfWf.left h)
theorem TimeOfWf.digitalOutputRestart (a0 : Nat) (a1 : Fin 32) : TimeOfWf.Statement (.digitalOutputRestart a0 a1) := fun h => TimeOfWf.of_uw _ h
theorem TimeOfWf.crustInternalFault (a0 : Nat) (a1 : CrustFault) : TimeOfWf.Statement (.crustInternalFault a0 a1) := fun h => TimeOfWf.of_uw _ h
theorem TimeOfWf.crustRestart (a0 : Nat) : TimeOfWf.Statement (.crustRestart a0) := fun h => TimeOfWf.of_uw _ h
theorem TimeOfWf.singleChannelLimitExpiry (a0 : Nat) : TimeOfWf.Statement (.singleChannelLimitExpiry a0) := fun h => TimeOfWf.of_uw _ h
theorem TimeOfWf.comparatorTest (a0 : Nat) (a1 : Nat) (a2 : Nat) (a3 : Bool) (a4 : List Nat) : TimeOfWf.Statement (.comparatorTest a0 a1 a2 a3 a4) := fun h => TimeOfWf.of_uw _ (TimeOfWf.left (TimeOfWf.left h))
theorem TimeOfWf.starterFrameTest (a0 : Nat) (a1 : Fin 10) (a2 : Fin 18) (a3 : Bool) (a4 : Nat) (a5 : Nat) (a6 : Option (Fin 65)) : TimeOfWf.Statement (.starterFrameTest a0 a1 a2 a3 a4 a5 a6) := fun h => TimeOfWf.of_uw _ (TimeOfWf.left (TimeOfWf.left h))
theorem TimeOfWf.resetInputEdge (a0 : Nat) : TimeOfWf.Statement (.resetInputEdge a0) := fun h => TimeOfWf.of_uw _ h
theorem TimeOfWf.parameterSetValidate (a0 : Nat) (a1 : Session) : TimeOfWf.Statement (.parameterSetValidate a0 a1) := fun h => TimeOfWf.of_uw _ (TimeOfWf.left h)
theorem TimeOfWf.parameterSetValidated (a0 : Nat) : TimeOfWf.Statement (.parameterSetValidated a0) := fun h => TimeOfWf.of_uw _ h
theorem TimeOfWf.parameterSetCancel (a0 : Nat) (a1 : Session) : TimeOfWf.Statement (.parameterSetCancel a0 a1) := fun h => TimeOfWf.of_uw _ (TimeOfWf.left h)
theorem TimeOfWf.parameterSetActivate (a0 : Nat) : TimeOfWf.Statement (.parameterSetActivate a0) := fun h => TimeOfWf.of_uw _ h
theorem TimeOfWf.srdoReceived (a0 : Nat) (a1 : Fin 8) (a2 : Bytes) (a3 : Bytes) (a4 : Nat) : TimeOfWf.Statement (.srdoReceived a0 a1 a2 a3 a4) := fun h => TimeOfWf.of_uw _ (TimeOfWf.left (TimeOfWf.left (TimeOfWf.left h)))
theorem TimeOfWf.srdoTimeout (a0 : Nat) (a1 : Fin 8) : TimeOfWf.Statement (.srdoTimeout a0 a1) := fun h => TimeOfWf.of_uw _ h
theorem TimeOfWf.srdoTransmit (a0 : Nat) (a1 : Fin 8) : TimeOfWf.Statement (.srdoTransmit a0 a1) := fun h => TimeOfWf.of_uw _ h
theorem TimeOfWf.ptpSyncReceived (a0 : Nat) (a1 : SyncMsg) : TimeOfWf.Statement (.ptpSyncReceived a0 a1) := fun h => TimeOfWf.of_uw _ (TimeOfWf.left h)
theorem TimeOfWf.ptpFollowUpReceived (a0 : Nat) (a1 : SyncMsg) : TimeOfWf.Statement (.ptpFollowUpReceived a0 a1) := fun h => TimeOfWf.of_uw _ (TimeOfWf.left h)
theorem TimeOfWf.ptpAnnounceReceived (a0 : Nat) (a1 : AnnounceMsg) : TimeOfWf.Statement (.ptpAnnounceReceived a0 a1) := fun h => TimeOfWf.of_uw _ (TimeOfWf.left h)
theorem TimeOfWf.ptpAnnounceTimeout (a0 : Nat) (a1 : Fin 2) : TimeOfWf.Statement (.ptpAnnounceTimeout a0 a1) := fun h => TimeOfWf.of_uw _ h
theorem TimeOfWf.ptpSyncTimeout (a0 : Nat) (a1 : Fin 2) : TimeOfWf.Statement (.ptpSyncTimeout a0 a1) := fun h => TimeOfWf.of_uw _ h
theorem TimeOfWf.timebaseHoldEnd (a0 : Nat) : TimeOfWf.Statement (.timebaseHoldEnd a0) := fun h => TimeOfWf.of_uw _ h
theorem TimeOfWf.timedAdjustmentEnd (a0 : Nat) : TimeOfWf.Statement (.timedAdjustmentEnd a0) := fun h => TimeOfWf.of_uw _ h
theorem TimeOfWf.holdoverErrorLimit (a0 : Nat) : TimeOfWf.Statement (.holdoverErrorLimit a0) := fun h => TimeOfWf.of_uw _ h
theorem TimeOfWf.ptpPdelayRequest (a0 : Nat) (a1 : Fin 8) (a2 : Nat) (a3 : Nat) : TimeOfWf.Statement (.ptpPdelayRequest a0 a1 a2 a3) := fun h => TimeOfWf.of_uw _ (TimeOfWf.left (TimeOfWf.left h))
theorem TimeOfWf.ptpSyncTransmit (a0 : Nat) (a1 : Fin 8) : TimeOfWf.Statement (.ptpSyncTransmit a0 a1) := fun h => TimeOfWf.of_uw _ h
theorem TimeOfWf.ptpAnnounceTransmit (a0 : Nat) (a1 : Fin 8) : TimeOfWf.Statement (.ptpAnnounceTransmit a0 a1) := fun h => TimeOfWf.of_uw _ h
theorem TimeOfWf.timeTriggerEdge (a0 : Nat) (a1 : Fin 64) : TimeOfWf.Statement (.timeTriggerEdge a0 a1) := fun h => TimeOfWf.of_uw _ h
theorem TimeOfWf.canFrameReceived (a0 : Nat) (a1 : Fin 4) (a2 : CanFrame) : TimeOfWf.Statement (.canFrameReceived a0 a1 a2) := fun h => TimeOfWf.of_uw _ (TimeOfWf.left h)
theorem TimeOfWf.canBusError (a0 : Nat) (a1 : Fin 4) (a2 : Nat) (a3 : Bool) (a4 : Nat) (a5 : Nat) : TimeOfWf.Statement (.canBusError a0 a1 a2 a3 a4 a5) := fun h => TimeOfWf.of_uw _ (TimeOfWf.left (TimeOfWf.left (TimeOfWf.left h)))
theorem TimeOfWf.recoveryCommand (a0 : Nat) (a1 : Session) (a2 : Fin 4) : TimeOfWf.Statement (.recoveryCommand a0 a1 a2) := fun h => TimeOfWf.of_uw _ (TimeOfWf.left h)
theorem TimeOfWf.canRecoveryComplete (a0 : Nat) (a1 : Fin 4) : TimeOfWf.Statement (.canRecoveryComplete a0 a1) := fun h => TimeOfWf.of_uw _ h
theorem TimeOfWf.canModeChange (a0 : Nat) (a1 : Fin 4) : TimeOfWf.Statement (.canModeChange a0 a1) := fun h => TimeOfWf.of_uw _ h
theorem TimeOfWf.ttcanCycleStart (a0 : Nat) (a1 : Fin 2) (a2 : Bool) : TimeOfWf.Statement (.ttcanCycleStart a0 a1 a2) := fun h => TimeOfWf.of_uw _ h
theorem TimeOfWf.transmitExclusive (a0 : Nat) (a1 : Fin 2) (a2 : Fin 128) (a3 : Bool) : TimeOfWf.Statement (.transmitExclusive a0 a1 a2 a3) := fun h => TimeOfWf.of_uw _ h
theorem TimeOfWf.transmitArbitrating (a0 : Nat) (a1 : Fin 2) (a2 : Fin 128) (a3 : Bool) : TimeOfWf.Statement (.transmitArbitrating a0 a1 a2 a3) := fun h => TimeOfWf.of_uw _ h
theorem TimeOfWf.mergedWindowStart (a0 : Nat) (a1 : Fin 2) (a2 : Fin 128) : TimeOfWf.Statement (.mergedWindowStart a0 a1 a2) := fun h => TimeOfWf.of_uw _ h
theorem TimeOfWf.mergedWindowContinue (a0 : Nat) (a1 : Fin 2) (a2 : Fin 128) : TimeOfWf.Statement (.mergedWindowContinue a0 a1 a2) := fun h => TimeOfWf.of_uw _ h
theorem TimeOfWf.endOfArbitratingWindow (a0 : Nat) (a1 : Fin 2) (a2 : Fin 128) : TimeOfWf.Statement (.endOfArbitratingWindow a0 a1 a2) := fun h => TimeOfWf.of_uw _ h
theorem TimeOfWf.receiveCheck (a0 : Nat) (a1 : Fin 2) (a2 : Fin 128) : TimeOfWf.Statement (.receiveCheck a0 a1 a2) := fun h => TimeOfWf.of_uw _ h
theorem TimeOfWf.watchTrigger (a0 : Nat) (a1 : Fin 2) (a2 : Fin 128) : TimeOfWf.Statement (.watchTrigger a0 a1 a2) := fun h => TimeOfWf.of_uw _ h
theorem TimeOfWf.referenceMessageReceived (a0 : Nat) (a1 : Fin 2) (a2 : RefMsg) : TimeOfWf.Statement (.referenceMessageReceived a0 a1 a2) := fun h => TimeOfWf.of_uw _ (TimeOfWf.left h)
theorem TimeOfWf.referenceOffsetExpiry (a0 : Nat) (a1 : Fin 2) : TimeOfWf.Statement (.referenceOffsetExpiry a0 a1) := fun h => TimeOfWf.of_uw _ h
theorem TimeOfWf.applicationWatchdogLapse (a0 : Nat) (a1 : Fin 2) : TimeOfWf.Statement (.applicationWatchdogLapse a0 a1) := fun h => TimeOfWf.of_uw _ h
theorem TimeOfWf.rdmaRead (a0 : Nat) (a1 : RdmaReq) : TimeOfWf.Statement (.rdmaRead a0 a1) := fun h => TimeOfWf.of_uw _ (TimeOfWf.left h)
theorem TimeOfWf.rdmaWrite (a0 : Nat) (a1 : RdmaReq) (a2 : Bytes) : TimeOfWf.Statement (.rdmaWrite a0 a1 a2) := fun h => TimeOfWf.of_uw _ (TimeOfWf.left h)
theorem TimeOfWf.rdmaWriteWithImmediate (a0 : Nat) (a1 : RdmaReq) (a2 : Bytes) (a3 : BitVec 32) (a4 : Fin 4) (a5 : Nat) (a6 : Nat) : TimeOfWf.Statement (.rdmaWriteWithImmediate a0 a1 a2 a3 a4 a5 a6) := fun h => TimeOfWf.of_uw _ (TimeOfWf.left (TimeOfWf.left (TimeOfWf.left h)))
theorem TimeOfWf.send (a0 : Nat) (a1 : RdmaReq) (a2 : Bytes) : TimeOfWf.Statement (.send a0 a1 a2) := fun h => TimeOfWf.of_uw _ (TimeOfWf.left h)
theorem TimeOfWf.atomicRequest (a0 : Nat) (a1 : RdmaReq) : TimeOfWf.Statement (.atomicRequest a0 a1) := fun h => TimeOfWf.of_uw _ (TimeOfWf.left h)
theorem TimeOfWf.ackTimeout (a0 : Nat) (a1 : Fin 256) (a2 : Option (Fin 10 × BitVec 128)) : TimeOfWf.Statement (.ackTimeout a0 a1 a2) := fun h => TimeOfWf.of_uw _ h
theorem TimeOfWf.receiverNotReadyNak (a0 : Nat) (a1 : Fin 256) (a2 : Option (Fin 10 × BitVec 128)) : TimeOfWf.Statement (.receiverNotReadyNak a0 a1 a2) := fun h => TimeOfWf.of_uw _ h
theorem TimeOfWf.congestionNotification (a0 : Nat) (a1 : Fin 256) : TimeOfWf.Statement (.congestionNotification a0 a1) := fun h => TimeOfWf.of_uw _ h
theorem TimeOfWf.rateRecoveryTimer (a0 : Nat) (a1 : Fin 256) : TimeOfWf.Statement (.rateRecoveryTimer a0 a1) := fun h => TimeOfWf.of_uw _ h
theorem TimeOfWf.queuePairReestablish (a0 : Nat) (a1 : Session) (a2 : Nat) : TimeOfWf.Statement (.queuePairReestablish a0 a1 a2) := fun h => TimeOfWf.of_uw _ (TimeOfWf.left (TimeOfWf.left h))
theorem TimeOfWf.portBlockLockLost (a0 : Nat) (a1 : Fin 8) : TimeOfWf.Statement (.portBlockLockLost a0 a1) := fun h => TimeOfWf.of_uw _ h
theorem TimeOfWf.portUpCommand (a0 : Nat) (a1 : Session) (a2 : Fin 8) : TimeOfWf.Statement (.portUpCommand a0 a1 a2) := fun h => TimeOfWf.of_uw _ (TimeOfWf.left h)
theorem TimeOfWf.pfcPauseReceived (a0 : Nat) (a1 : Fin 8) (a2 : PfcPause) : TimeOfWf.Statement (.pfcPauseReceived a0 a1 a2) := fun h => TimeOfWf.of_uw _ (TimeOfWf.left h)
theorem TimeOfWf.pauseWatchdogTimeout (a0 : Nat) (a1 : Fin 8) (a2 : Fin 8) : TimeOfWf.Statement (.pauseWatchdogTimeout a0 a1 a2) := fun h => TimeOfWf.of_uw _ h
theorem TimeOfWf.consumerIndexWrite (a0 : Nat) (a1 : Session) (a2 : Fin 16) (a3 : Nat) : TimeOfWf.Statement (.consumerIndexWrite a0 a1 a2 a3) := fun h => TimeOfWf.of_uw _ (TimeOfWf.left (TimeOfWf.left h))
theorem TimeOfWf.bar2Access (a0 : Nat) (a1 : Fin 64) (a2 : Nat) (a3 : Option Bytes) (a4 : Nat) : TimeOfWf.Statement (.bar2Access a0 a1 a2 a3 a4) := fun h => TimeOfWf.of_uw _ (TimeOfWf.left (TimeOfWf.left h))
theorem TimeOfWf.pcieLinkRetrain (a0 : Nat) : TimeOfWf.Statement (.pcieLinkRetrain a0) := fun h => TimeOfWf.of_uw _ h
theorem TimeOfWf.pcieHotReset (a0 : Nat) : TimeOfWf.Statement (.pcieHotReset a0) := fun h => TimeOfWf.of_uw _ h
theorem TimeOfWf.linkUpCommand (a0 : Nat) (a1 : Session) : TimeOfWf.Statement (.linkUpCommand a0 a1) := fun h => TimeOfWf.of_uw _ (TimeOfWf.left h)
theorem TimeOfWf.mainInputLoss (a0 : Nat) (a1 : Nat) : TimeOfWf.Statement (.mainInputLoss a0 a1) := fun h => TimeOfWf.of_uw _ (TimeOfWf.left h)
theorem TimeOfWf.modulePowerOff (a0 : Nat) : TimeOfWf.Statement (.modulePowerOff a0) := fun h => TimeOfWf.of_uw _ h
theorem TimeOfWf.mainInputReturn (a0 : Nat) (a1 : Nat) : TimeOfWf.Statement (.mainInputReturn a0 a1) := fun h => TimeOfWf.of_uw _ (TimeOfWf.left h)
theorem TimeOfWf.fieldInputLoss (a0 : Nat) (a1 : Nat) : TimeOfWf.Statement (.fieldInputLoss a0 a1) := fun h => TimeOfWf.of_uw _ (TimeOfWf.left h)
theorem TimeOfWf.fieldInputReturn (a0 : Nat) (a1 : Nat) : TimeOfWf.Statement (.fieldInputReturn a0 a1) := fun h => TimeOfWf.of_uw _ (TimeOfWf.left h)
theorem TimeOfWf.domainStateRequest (a0 : Nat) (a1 : Session) (a2 : Fin 72) (a3 : Nat) : TimeOfWf.Statement (.domainStateRequest a0 a1 a2 a3) := fun h => TimeOfWf.of_uw _ (TimeOfWf.left (TimeOfWf.left h))
theorem TimeOfWf.domainPowerUp (a0 : Nat) (a1 : Fin 72) : TimeOfWf.Statement (.domainPowerUp a0 a1) := fun h => TimeOfWf.of_uw _ h
theorem TimeOfWf.domainShutDown (a0 : Nat) (a1 : Fin 72) : TimeOfWf.Statement (.domainShutDown a0 a1) := fun h => TimeOfWf.of_uw _ h
theorem TimeOfWf.quiesceComplete (a0 : Nat) (a1 : Fin 72) : TimeOfWf.Statement (.quiesceComplete a0 a1) := fun h => TimeOfWf.of_uw _ h
theorem TimeOfWf.powerGood (a0 : Nat) (a1 : Fin 72) (a2 : List (Fin 18 × Nat × Nat)) : TimeOfWf.Statement (.powerGood a0 a1 a2) := fun h => TimeOfWf.of_uw _ h
theorem TimeOfWf.powerGoodTimeout (a0 : Nat) (a1 : Fin 72) : TimeOfWf.Statement (.powerGoodTimeout a0 a1) := fun h => TimeOfWf.of_uw _ h
theorem TimeOfWf.supplyStepBeat (a0 : Nat) : TimeOfWf.Statement (.supplyStepBeat a0) := fun h => TimeOfWf.of_uw _ h
theorem TimeOfWf.droopExcursion (a0 : Nat) (a1 : Fin 10) (a2 : Nat) (a3 : Nat) : TimeOfWf.Statement (.droopExcursion a0 a1 a2 a3) := fun h => TimeOfWf.of_uw _ (TimeOfWf.left (TimeOfWf.left h))
theorem TimeOfWf.temperatureSample (a0 : Nat) (a1 : List Int) (a2 : Bool) : TimeOfWf.Statement (.temperatureSample a0 a1 a2) := fun h => TimeOfWf.of_uw _ (TimeOfWf.left h)
theorem TimeOfWf.computeDieRestart (a0 : Nat) (a1 : Session) : TimeOfWf.Statement (.computeDieRestart a0 a1) := fun h => TimeOfWf.of_uw _ (TimeOfWf.left h)
theorem TimeOfWf.inputPowerCheck (a0 : Nat) (a1 : Nat) : TimeOfWf.Statement (.inputPowerCheck a0 a1) := fun h => TimeOfWf.of_uw _ (TimeOfWf.left h)
theorem TimeOfWf.ageingMeasurement (a0 : Nat) (a1 : List AgeRead) : TimeOfWf.Statement (.ageingMeasurement a0 a1) := fun h => TimeOfWf.of_uw _ (TimeOfWf.left h)
theorem TimeOfWf.measureNow (a0 : Nat) (a1 : Session) (a2 : List AgeRead) : TimeOfWf.Statement (.measureNow a0 a1 a2) := fun h => TimeOfWf.of_uw _ (TimeOfWf.left (TimeOfWf.left h))
theorem TimeOfWf.idleRequest (a0 : Nat) (a1 : Session) : TimeOfWf.Statement (.idleRequest a0 a1) := fun h => TimeOfWf.of_uw _ (TimeOfWf.left h)
theorem TimeOfWf.resumeRequest (a0 : Nat) (a1 : Session) : TimeOfWf.Statement (.resumeRequest a0 a1) := fun h => TimeOfWf.of_uw _ (TimeOfWf.left h)
theorem TimeOfWf.resumeReadinessCheck (a0 : Nat) : TimeOfWf.Statement (.resumeReadinessCheck a0) := fun h => TimeOfWf.of_uw _ h
theorem TimeOfWf.standbyRequest (a0 : Nat) (a1 : Session) : TimeOfWf.Statement (.standbyRequest a0 a1) := fun h => TimeOfWf.of_uw _ (TimeOfWf.left h)
theorem TimeOfWf.leaveStandby (a0 : Nat) (a1 : Session) : TimeOfWf.Statement (.leaveStandby a0 a1) := fun h => TimeOfWf.of_uw _ (TimeOfWf.left h)
theorem TimeOfWf.zeroAllCounters (a0 : Nat) (a1 : Session) : TimeOfWf.Statement (.zeroAllCounters a0 a1) := fun h => TimeOfWf.of_uw _ (TimeOfWf.left h)
theorem TimeOfWf.dumpLatch (a0 : Nat) : TimeOfWf.Statement (.dumpLatch a0) := fun h => TimeOfWf.of_uw _ h
theorem TimeOfWf.dumpWindowRead (a0 : Nat) (a1 : Session) : TimeOfWf.Statement (.dumpWindowRead a0 a1) := fun h => TimeOfWf.of_uw _ (TimeOfWf.left h)
theorem TimeOfWf.sysRstNLow (a0 : Nat) (a1 : Nat) : TimeOfWf.Statement (.sysRstNLow a0 a1) := fun h => TimeOfWf.of_uw _ (TimeOfWf.left h)
theorem TimeOfWf.resetRequestWarm (a0 : Nat) (a1 : Session) : TimeOfWf.Statement (.resetRequestWarm a0 a1) := fun h => TimeOfWf.of_uw _ (TimeOfWf.left h)
theorem TimeOfWf.resetRequestCold (a0 : Nat) (a1 : Session) : TimeOfWf.Statement (.resetRequestCold a0 a1) := fun h => TimeOfWf.of_uw _ (TimeOfWf.left h)
theorem TimeOfWf.managerWatchdogExpiry (a0 : Nat) (a1 : Fin 2) : TimeOfWf.Statement (.managerWatchdogExpiry a0 a1) := fun h => TimeOfWf.of_uw _ h
theorem TimeOfWf.coldBoot (a0 : Nat) (a1 : Bundle) (a2 : Bundle) (a3 : Option Image) (a4 : Bool) (a5 : List (Fin 10 × Fin 18 × Nat × Nat)) (a6 : List (Nat × Nat)) : TimeOfWf.Statement (.coldBoot a0 a1 a2 a3 a4 a5 a6) := fun h => TimeOfWf.of_uw _ (TimeOfWf.left (TimeOfWf.left (TimeOfWf.left h)))
theorem TimeOfWf.autolaunch (a0 : Nat) : TimeOfWf.Statement (.autolaunch a0) := fun h => TimeOfWf.of_uw _ h
theorem TimeOfWf.firmwareValidate (a0 : Nat) (a1 : Session) : TimeOfWf.Statement (.firmwareValidate a0 a1) := fun h => TimeOfWf.of_uw _ (TimeOfWf.left h)
theorem TimeOfWf.firmwareVerificationComplete (a0 : Nat) (a1 : Bundle) : TimeOfWf.Statement (.firmwareVerificationComplete a0 a1) := fun h => TimeOfWf.of_uw _ (TimeOfWf.left h)
theorem TimeOfWf.firmwareSchedule (a0 : Nat) (a1 : Session) : TimeOfWf.Statement (.firmwareSchedule a0 a1) := fun h => TimeOfWf.of_uw _ (TimeOfWf.left h)
theorem TimeOfWf.firmwareCancel (a0 : Nat) (a1 : Session) : TimeOfWf.Statement (.firmwareCancel a0 a1) := fun h => TimeOfWf.of_uw _ (TimeOfWf.left h)
theorem TimeOfWf.firmwareSwitch (a0 : Nat) : TimeOfWf.Statement (.firmwareSwitch a0) := fun h => TimeOfWf.of_uw _ h
theorem TimeOfWf.imageValidate (a0 : Nat) (a1 : Session) : TimeOfWf.Statement (.imageValidate a0 a1) := fun h => TimeOfWf.of_uw _ (TimeOfWf.left h)
theorem TimeOfWf.imageVerificationComplete (a0 : Nat) (a1 : Image) (a2 : Bool) : TimeOfWf.Statement (.imageVerificationComplete a0 a1 a2) := fun h => TimeOfWf.of_uw _ (TimeOfWf.left h)
theorem TimeOfWf.imageRelaunch (a0 : Nat) (a1 : Session) : TimeOfWf.Statement (.imageRelaunch a0 a1) := fun h => TimeOfWf.of_uw _ (TimeOfWf.left h)
theorem TimeOfWf.imageCancel (a0 : Nat) (a1 : Session) : TimeOfWf.Statement (.imageCancel a0 a1) := fun h => TimeOfWf.of_uw _ (TimeOfWf.left h)
theorem TimeOfWf.relaunch (a0 : Nat) : TimeOfWf.Statement (.relaunch a0) := fun h => TimeOfWf.of_uw _ h
theorem TimeOfWf.raiseMinimumSecurityVersion (a0 : Nat) (a1 : Session) (a2 : Nat) : TimeOfWf.Statement (.raiseMinimumSecurityVersion a0 a1 a2) := fun h => TimeOfWf.of_uw _ (TimeOfWf.left (TimeOfWf.left h))
theorem TimeOfWf.imageKeySlotWrite (a0 : Nat) (a1 : Session) (a2 : Bytes) : TimeOfWf.Statement (.imageKeySlotWrite a0 a1 a2) := fun h => TimeOfWf.of_uw _ (TimeOfWf.left h)
theorem TimeOfWf.imageKeyRecord (a0 : Nat) (a1 : Session) (a2 : Bytes) : TimeOfWf.Statement (.imageKeyRecord a0 a1 a2) := fun h => TimeOfWf.of_uw _ (TimeOfWf.left h)
theorem TimeOfWf.migrationRequest (a0 : Nat) (a1 : Session) (a2 : Nat) : TimeOfWf.Statement (.migrationRequest a0 a1 a2) := fun h => TimeOfWf.of_uw _ (TimeOfWf.left (TimeOfWf.left h))
theorem TimeOfWf.regionMigrationStart (a0 : Nat) : TimeOfWf.Statement (.regionMigrationStart a0) := fun h => TimeOfWf.of_uw _ h
theorem TimeOfWf.migrationCopyComplete (a0 : Nat) (a1 : Bool) : TimeOfWf.Statement (.migrationCopyComplete a0 a1) := fun h => TimeOfWf.of_uw _ h
theorem TimeOfWf.regionMigrationSwitch (a0 : Nat) (a1 : Bool) : TimeOfWf.Statement (.regionMigrationSwitch a0 a1) := fun h => TimeOfWf.of_uw _ h
theorem TimeOfWf.regionMigrationComplete (a0 : Nat) : TimeOfWf.Statement (.regionMigrationComplete a0) := fun h => TimeOfWf.of_uw _ h
theorem TimeOfWf.blockSwap (a0 : Nat) (a1 : Fin 10) (a2 : Fin 18) : TimeOfWf.Statement (.blockSwap a0 a1 a2) := fun h => TimeOfWf.of_uw _ h
theorem TimeOfWf.sessionOpenResponse (a0 : Nat) (a1 : BFrame) : TimeOfWf.Statement (.sessionOpenResponse a0 a1) := fun h => TimeOfWf.of_uw _ (TimeOfWf.left h)
theorem TimeOfWf.unrecognisedBasarisFrame (a0 : Nat) (a1 : BFrame) : TimeOfWf.Statement (.unrecognisedBasarisFrame a0 a1) := fun h => TimeOfWf.of_uw _ (TimeOfWf.left h)
theorem TimeOfWf.emcyTailWrite (a0 : Nat) (a1 : Nat) : TimeOfWf.Statement (.emcyTailWrite a0 a1) := fun h => TimeOfWf.of_uw _ (TimeOfWf.left h)
theorem TimeOfWf.canTransmissionComplete (a0 : Nat) (a1 : CanSent) : TimeOfWf.Statement (.canTransmissionComplete a0 a1) := fun h => TimeOfWf.of_uw _ h
theorem TimeOfWf.canArbitrationLost (a0 : Nat) (a1 : Fin 4) : TimeOfWf.Statement (.canArbitrationLost a0 a1) := fun h => TimeOfWf.of_uw _ h
theorem TimeOfWf.tpdoTransmit (a0 : Nat) (a1 : Fin 16) : TimeOfWf.Statement (.tpdoTransmit a0 a1) := fun h => TimeOfWf.of_uw _ h
theorem TimeOfWf.portLinkUp (a0 : Nat) (a1 : Fin 8) : TimeOfWf.Statement (.portLinkUp a0 a1) := fun h => TimeOfWf.of_uw _ h
theorem TimeOfWf.pcieLinkUp (a0 : Nat) (a1 : Nat) (a2 : Nat) : TimeOfWf.Statement (.pcieLinkUp a0 a1 a2) := fun h => TimeOfWf.of_uw _ (TimeOfWf.left (TimeOfWf.left h))
theorem TimeOfWf.pauseQuietTimeout (a0 : Nat) (a1 : Fin 8) (a2 : Fin 8) : TimeOfWf.Statement (.pauseQuietTimeout a0 a1 a2) := fun h => TimeOfWf.of_uw _ h
theorem TimeOfWf.roceAckReceived (a0 : Nat) (a1 : Fin 256) (a2 : Nat) (a3 : Bool) (a4 : Option (Fin 10 × BitVec 128)) : TimeOfWf.Statement (.roceAckReceived a0 a1 a2 a3 a4) := fun h => TimeOfWf.of_uw _ (TimeOfWf.left h)
theorem TimeOfWf.ptpDelayRequestTransmit (a0 : Nat) (a1 : Fin 2) (a2 : Nat) : TimeOfWf.Statement (.ptpDelayRequestTransmit a0 a1 a2) := fun h => TimeOfWf.of_uw _ (TimeOfWf.left h)
theorem TimeOfWf.ptpDelayResponseReceived (a0 : Nat) (a1 : Fin 2) (a2 : Nat) (a3 : Nat) (a4 : Nat) (a5 : Int) : TimeOfWf.Statement (.ptpDelayResponseReceived a0 a1 a2 a3 a4 a5) := fun h => TimeOfWf.of_uw _ (TimeOfWf.left (TimeOfWf.left (TimeOfWf.left (TimeOfWf.left h))))
theorem TimeOfWf.coaxpressEventPacket (a0 : Nat) (a1 : Fin 32) : TimeOfWf.Statement (.coaxpressEventPacket a0 a1) := fun h => TimeOfWf.of_uw _ h

end Sys2Proof.Laws
end

