-- ==== Sys2Proof/Laws/Server.lean ====
section
/-!
SUPPORT. The dictionary server: what one request of one write item does when nothing else is held.
-/

namespace Sys2Proof.Machine

/-- The request of one write item as the server holds it once it has begun. -/
def oneWrite (ses : Session) (it : Item) (g : Given) : Work :=
  { ses := ses, reply := .plain, write := true, begun := true, owed := false, items := [it], done := [], waits := none, outcome := none, given := g }

/-- The state in which that item is served. -/
def State.serving (s : State) (ses : Session) (it : Item) (g : Given) : State :=
  s.modServer fun v => { v with turn := ses.path, works := [oneWrite ses it g] }

theorem Session.path_lt (ses : Session) : ses.path < 4 := by cases ses <;> simp [Session.path]

/-- The search of the next work finds a single held one that waits for nothing. -/
theorem State.nextWork_one (s : State) (w : Work) (h : s.server.works = [w]) (hw : w.waits = none) : s.nextWork = some (w.ses.path, w) := by
  have hp := Session.path_lt w.ses
  have key : ∀ p, s.server.firstOn p = if w.ses.path = p then some (w.ses.path, w) else none := by
    intro p
    unfold Server.firstOn
    by_cases hk : w.ses.path = p
    · simp [h, hk, Work.free, hw]
    · simp [h, hk]
  unfold State.nextWork
  simp only [key, show List.range 4 = [0, 1, 2, 3] from rfl, List.findSome?_cons, List.findSome?_nil]
  by_cases h0 : w.ses.path = (s.server.turn + 0) % 4
  · rw [if_pos h0]
  · rw [if_neg h0]
    by_cases h1 : w.ses.path = (s.server.turn + 1) % 4
    · rw [if_pos h1]
    · rw [if_neg h1]
      by_cases h2 : w.ses.path = (s.server.turn + 2) % 4
      · rw [if_pos h2]
      · rw [if_neg h2, if_pos (by omega)]

theorem State.nextWork_nil (s : State) (h : s.server.works = []) : s.nextWork = none := by
  unfold State.nextWork Server.firstOn
  simp [h]

/-- Nothing held, latched or under way: the server has nothing to do. -/
theorem State.startCommits_free (s : State) (hg : s.commit.group = none) (hi : s.commit.implicit = []) (hn : s.commit.instant = []) :
    s.startCommits = s := by
  have h1 : s.startImplicit (s.commit.implicit.length + 1) = s := by rw [hi]; unfold State.startImplicit; simp [hi]
  have h2 : s.startInstant = s := by unfold State.startInstant; rw [hn]; rfl
  have h3 : s.switchInstant = s := by
    unfold State.switchInstant
    rw [hn]
    simp only [List.filter_nil, List.foldl_nil]
    unfold State.modCommit
    cases s with | mk p t l n d c _ _ _ _ _ _ _ _ _ _ _ _ _ _ _ _ _ _ _ _ _ _ => cases c; simp_all
  unfold State.startCommits State.switchDue
  rw [h1, h2, h3]
  unfold State.switchImplicit
  simp only [hi]
  unfold State.switchGroup
  simp only [hg]

/-- One request of one write item at a free server: the item is served and its answer leaves last. -/
theorem State.request_one (s : State) (ses : Session) (it : Item) (g : Given) (h : ServerFree s ses) (s2 : State) (code rc : Nat) (data rd : Bytes)
    (hs : ((s.serving ses it g).touchGroup ses (ob it.index it.sub)).serveWrite ses it g = (s2, .now code data, rc, rd)) (hw : s2.server = (s.serving ses it g).server) :
    s.request ses .plain true [it] g =
      ((s2.modServer fun v => { v with turn := (ses.path + 1) % 4, works := [] }).bump (ob 0x2020 0x0A)).emit
        (.response ses [if code = 0 then answerItem it rc rd else answerItem it code data]) := by
  unfold State.request
  set w0 : Work := { ses := ses, reply := .plain, write := true, begun := false, owed := false, items := [it], done := [], waits := none, outcome := none, given := g } with hw0
  set s0 := s.modServer fun v => { v with works := v.works ++ [w0] } with hs0
  have hworks : s0.server.works = [w0] := by simp [hs0, h.works]
  have hl : s0.latchedPower = s0 := by unfold State.latchedPower; simp [hs0, h.latched]
  have hc : s0.startCommits = s0 := State.startCommits_free _ (by simp [hs0, h.group]) (by simp [hs0, h.implicit]) (by simp [hs0, h.instant])
  unfold State.serve
  simp only [hl, hc]
  have hm : s0.serverMoves = 5 := by simp [State.serverMoves, hworks, hw0]
  rw [hm]
  -- the request begins
  have n1 : s0.nextWork = some (ses.path, w0) := State.nextWork_one _ _ hworks rfl
  have e1 : s0.serveWork ses.path w0 = s.serving ses it g := by
    have hd : s0.dict.owed.contains ses = false := by simpa [hs0] using h.owed
    unfold State.serveWork State.beginWork State.modWork
    simp only [hw0, hd, Bool.and_false, Bool.not_false, if_true, if_false, Bool.false_eq_true]
    unfold State.serving State.modDict State.modServer
    simp [hs0, State.modServer, h.works, modFirst, Work.free, hw0, oneWrite]
  rw [State.serveLoop, n1]
  simp only [e1]
  -- its item is served
  set s1 := s.serving ses it g with hs1
  have hworks1 : s1.server.works = [oneWrite ses it g] := by simp [hs1, State.serving]
  have n2 : s1.nextWork = some (ses.path, oneWrite ses it g) := State.nextWork_one _ _ hworks1 rfl
  rw [State.serveLoop, n2]
  have hws2 : s2.server.works = [oneWrite ses it g] := by rw [hw]; exact hworks1
  set r := if code = 0 then answerItem it rc rd else answerItem it code data with hr
  set w3 : Work := { oneWrite ses it g with items := [], done := [r] } with hw3
  set s3 := s2.modServer fun v => { v with turn := ses.path, works := [w3] } with hs3
  have e2 : s1.serveWork ses.path (oneWrite ses it g) = s3 := by
    unfold State.serveWork
    simp only [oneWrite, Bool.not_true, Bool.false_eq_true, if_false]
    unfold State.serveItem
    simp only [Bool.not_true, Bool.false_eq_true, if_false, hs]
    unfold State.modWork State.modServer
    simp [hws2, oneWrite, modFirst, Work.free, hs3, State.modServer, hw3, hr]
  simp only [e2]
  -- its answer leaves
  have n3 : s3.nextWork = some (ses.path, w3) := by
    have hk : s3.server.works = [w3] := rfl
    exact State.nextWork_one s3 w3 hk rfl
  rw [State.serveLoop, n3]
  simp only
  have e3 : s3.serveWork ses.path w3 =
      ((s2.modServer fun v => { v with turn := (ses.path + 1) % 4, works := [] }).bump (ob 0x2020 0x0A)).emit (.response ses [r]) := by
    unfold State.serveWork
    simp only [hw3, oneWrite, Bool.not_true, Bool.false_eq_true, if_false]
    unfold State.reply
    simp [hs3, State.modServer, dropFirst, Work.free, hw3, oneWrite]
  rw [e3]
  -- nothing is left
  rw [State.serveLoop, State.nextWork_nil]
  simp [State.bump, State.setObj]

theorem ob_parts (key : Key) : ob (key / 256) (key % 256) = key := by
  unfold ob; exact Nat.div_add_mod' key 256

theorem State.serveWrite_num (s : State) (ses : Session) (key : Key) (r : Row) (v : Val) (g : Given) (hrow : rowOf key = some r)
    (hacc : r.acc = .rw ∨ r.acc = .wo) (hbus : ¬ (0x2240 ≤ key / 256 ∧ key / 256 ≤ 0x224B)) (hb : (ses.isBasaris && key == ob 0x2020 4) = false)
    (hty : r.ty ≠ .domain) (hdec : r.ty.decode (r.ty.encode v) = some v) (hrng : r.rng.ok v = true) :
    s.serveWrite ses (writeItem key v) g = s.writeChecked ses key r v g := by
  unfold State.serveWrite
  have hk : ob (writeItem key v).index (writeItem key v).sub = key := ob_parts key
  have hd : (writeItem key v).data = r.ty.encode v := by simp [writeItem, hrow]
  have ho : (writeItem key v).offset = 0 := rfl
  have hi : (writeItem key v).index = key / 256 := rfl
  rw [hk]
  simp only [hrow]
  rw [hi]
  simp only [hbus, if_false]
  rcases hacc with h | h <;> simp only [h, hb, hty, hd, ho, hdec, hrng, if_true, if_false, Bool.false_eq_true]

theorem State.writeChecked_delivers (s : State) (ses : Session) (key : Key) (r : Row) (v : Val) (g : Given) (hk : keepFields key v = v)
    (hr : (s.withWrite ses key v).rangeOk key = true) (hs : s.submitRefused key v.num.toNat = none)
    (hf : s.refusalOf (s.withWrite ses key v) key v.num.toNat = 0) (he : s.stagedElsewhere ses key = false ∨ immediateKey key = true) (hc : s.crustClamp key v.num = none) :
    s.writeChecked ses key r v g = ((s.deliver ses key v g).1, (s.deliver ses key v g).2, 0, []) := by
  unfold State.writeChecked
  simp only [hk, hr, hs, hf, hc]
  rcases he with h | h <;> simp [h]

theorem State.deliver_acts (s : State) (ses : Session) (key : Key) (v : Val) (g : Given) (hi : immediateKey key = false) (ho : s.commit.owner = none)
    (hg : s.commit.group = none) (hp : s.commit.implicit = []) (hcls : clsOf key = .instant ∨ clsOf key = .drained) (hrun : s.launch.run = none)
    (hff : s.takeIdent.firstFailing [(key, v)] = none) :
    s.deliver ses key v g = (s.takeIdent.switch (s.takeIdent.commitOf key v g), .now 0 []) := by
  have hst : s.stages ses = false := by simp [State.stages, ho]
  have hr : s.takeIdent.running = false := by simp [State.running, State.takeIdent, hrun]
  have hin : s.takeIdent.inProgress = [] := by simp [State.inProgress, State.takeIdent, hg, hp]
  have hpp : s.takeIdent.commit.implicit = [] := by simp [State.takeIdent, hp]
  have he : ∀ v g, (s.takeIdent.commitOf key v g).entries = [(key, v)] := fun _ _ => rfl
  unfold State.deliver
  simp only [hi, hst, if_false, Bool.false_eq_true]
  unfold State.implicitCommit
  rcases hcls with h | h <;> simp [h, hr, hin, hpp, he, hff]

theorem State.switch_command (s : State) (key : Key) (v : Val) (g : Given) (hrun : s.launch.run = none) (hk : commandKey key = true)
    (hw : windowKey key = false) (ht : ∀ (x : State) (n : Nat), x.tagStreams [key] n = x) (hb : boundedKeys.contains key = false)
    (hn : ((s.recordOutcome s.commit.lastIdent 0 0 none).act key v s.now g).running = false) :
    s.switch (s.commitOf key v g) = (s.recordOutcome s.commit.lastIdent 0 0 none).act key v s.now g := by
  have hr : s.running = false := by simp [State.running, hrun]
  have h1 : (s.commitOf key v g).given = g := rfl
  have h2 : (s.commitOf key v g).entries = [(key, v)] := rfl
  have h3 : (s.commitOf key v g).ident = s.commit.lastIdent := rfl
  unfold State.switch State.applyEntries State.keepWindows State.setEntries
  have hm : key ∉ boundedKeys := by simpa using hb
  simp [hrun, hr, h1, h2, h3, hk, hw, ht, hm, hn]

/-- Indices of the objects that no consistency check looks at (R118). -/
def calmIndex (i : Nat) : Bool :=
  [(0x2110, 0x2110), (0x2202, 0x2203), (0x2210, 0x224F), (0x2310, 0x2313), (0x2320, 0x2321), (0x2330, 0x2331), (0x2400, 0x2400), (0x2410, 0x244F),
   (0x2810, 0x2827), (0x2A10, 0x2A27), (0x2C10, 0x2C1B), (0x3010, 0x3010), (0x3200, 0x3200), (0x3410, 0x3410), (0x3600, 0x3600), (0x3810, 0x3813),
   (0x3A10, 0x3A17), (0x3C00, 0x3C00), (0x4010, 0x401F), (0x4040, 0x4040), (0x4071, 0x4071), (0x5000, 0x5000)].all
    fun e => decide (i < e.1 ∨ e.2 < i)

/-- No consistency check fails for such an object. -/
theorem State.failing_calm (c : State) (key : Key) (h : calmIndex (key / 256) = true) : c.failing [key] = [] := by
  simp only [calmIndex, List.all_cons, List.all_nil, Bool.and_true, Bool.and_eq_true, decide_eq_true_eq] at h
  obtain ⟨h1, h2, h3, h4, h5, h6, h7, h8, h9, h10, h11, h12, h13, h14, h15, h16, h17, h18, h19, h20, h21, h22⟩ := h
  have tch : ∀ lo hi : Nat, (key / 256 < lo ∨ hi < key / 256) → touches [key] lo hi = false := by
    intro lo hi hh
    simp only [touches, List.any_cons, List.any_nil, Bool.or_false, decide_eq_false_iff_not]
    rintro ⟨h1, h2⟩
    rcases hh with hh | hh
    · exact absurd h1 (Nat.not_le.mpr hh)
    · exact absurd h2 (Nat.not_le.mpr hh)
  have con : ∀ i j : Nat, (key / 256 < i ∨ i < key / 256) → j < 256 → key ≠ ob i j := by
    intro i j hh hj e
    have hi : key / 256 = i := by
      rw [e]
      show (i * 256 + j) / 256 = i
      omega
    rw [hi] at hh
    rcases hh with hh | hh <;> exact Nat.lt_irrefl _ hh
  have k1 : key ≠ ob 0x3600 3 := con _ _ h15 (by decide)
  have k2 : key ≠ ob 0x3C00 3 := con _ _ h18 (by decide)
  have k3 : key ≠ ob 0x4040 0x21 := con _ _ h20 (by decide)
  have k4 : key ≠ ob 0x3200 1 := con _ _ h13 (by decide)
  have k5 : key ≠ ob 0x2400 3 := con _ _ h7 (by decide)
  have k6 : key ≠ ob 0x2400 4 := con _ _ h7 (by decide)
  have k7 : key ≠ ob 0x3C00 1 := con _ _ h18 (by decide)
  have n1 : ∀ i : Nat, (key / 256 < i ∨ i < key / 256) → (key / 256 == i) = false := by
    intro i hh
    have : key / 256 ≠ i := by rintro rfl; rcases hh with hh | hh <;> exact Nat.lt_irrefl _ hh
    simpa using this
  have t1 := tch _ _ h1
  have t2 := tch _ _ h2
  have t3 := tch _ _ h3
  have t7 := tch _ _ h7
  have t9 := tch _ _ h9
  have t10 := tch _ _ h10
  have t11 := tch _ _ h11
  have t12 := tch _ _ h12
  have t16 := tch _ _ h16
  have t17 := tch _ _ h17
  have t19 := tch _ _ h19
  have t21 := tch _ _ h21
  have t22 := tch _ _ h22
  have w : ∀ n, n < 64 → touches [key] (0x2410 + n) (0x2410 + n) = false := by
    intro n hn; apply tch; rcases h8 with hh | hh
    · exact .inl (Nat.lt_of_lt_of_le hh (Nat.le_add_right _ _))
    · exact .inr (Nat.lt_of_le_of_lt (by omega) hh)
  have cn : ∀ n, n < 4 → touches [key] (0x2310 + n) (0x2310 + n) = false := by
    intro n hn; apply tch; rcases h4 with hh | hh
    · exact .inl (Nat.lt_of_lt_of_le hh (Nat.le_add_right _ _))
    · exact .inr (Nat.lt_of_le_of_lt (by omega) hh)
  have tt1 : ∀ n, n < 2 → touches [key] (0x2320 + n) (0x2320 + n) = false := by
    intro n hn; apply tch; rcases h5 with hh | hh
    · exact .inl (Nat.lt_of_lt_of_le hh (Nat.le_add_right _ _))
    · exact .inr (Nat.lt_of_le_of_lt (by omega) hh)
  have tt2 : ∀ n, n < 2 → touches [key] (0x2330 + n) (0x2330 + n) = false := by
    intro n hn; apply tch; rcases h6 with hh | hh
    · exact .inl (Nat.lt_of_lt_of_le hh (Nat.le_add_right _ _))
    · exact .inr (Nat.lt_of_le_of_lt (by omega) hh)
  have f1 : c.checkWindows [key] = [] := by
    unfold State.checkWindows
    rw [List.flatMap_eq_nil_iff]
    intro n hn
    simp [w n (List.mem_range.mp hn), k4.symm]
  have f2 : c.checkCan [key] = [] := by
    unfold State.checkCan
    rw [List.append_eq_nil_iff]
    constructor
    · rw [List.flatMap_eq_nil_iff]
      intro n hn
      simp [cn n (List.mem_range.mp hn)]
    · rw [List.flatMap_eq_nil_iff]
      intro n _
      simp [tt1 n.val n.isLt, tt2 n.val n.isLt]
  unfold State.failing
  rw [f1, f2]
  unfold State.checkWeave State.checkTables State.checkSkew State.checkPools State.checkCameras State.checkHeads State.checkIntake State.checkAxes
    State.checkTriggers State.checkChannels State.checkPorts State.checkRings State.checkDomains State.checkDumps
  simp [t1, t2, t3, t7, t9, t10, t11, t12, t16, t17, t19, t21, t22, n1 _ h14, k1.symm, k2.symm, k3.symm, k5, k6, k7.symm, fails]


/-- A single write of a command object where writes act at once: the object acts, the commit's outcome is recorded, and the answer of success leaves last. -/
theorem State.write_acts (s : State) (ses : Session) (key : Key) (r : Row) (v : Val) (g : Given) (z a : State) (h : WritesAct s ses)
    (hz : z = s.serving ses (writeItem key v) g) (hrow : rowOf key = some r) (hacc : r.acc = .rw ∨ r.acc = .wo)
    (hbus : ¬ (0x2240 ≤ key / 256 ∧ key / 256 ≤ 0x224B)) (hb : (ses.isBasaris && key == ob 0x2020 4) = false) (hty : r.ty ≠ .domain)
    (hdec : r.ty.decode (r.ty.encode v) = some v) (hrng : r.rng.ok v = true) (hi : immediateKey key = false)
    (hcls : clsOf key = .instant ∨ clsOf key = .drained) (hk : commandKey key = true) (hw : windowKey key = false)
    (ht : ∀ (x : State) (n : Nat), x.tagStreams [key] n = x) (hkeep : keepFields key v = v) (hbd : boundedKeys.contains key = false)
    (hr : (z.withWrite ses key v).rangeOk key = true) (hs : z.submitRefused key v.num.toNat = none)
    (hf : z.refusalOf (z.withWrite ses key v) key v.num.toNat = 0) (hc : z.crustClamp key v.num = none)
    (hff : z.takeIdent.firstFailing [(key, v)] = none)
    (ha : a = (z.takeIdent.recordOutcome z.takeIdent.commit.lastIdent 0 0 none).act key v s.now g) (hsv : a.server = z.server) (hrr : a.running = false) :
    s.writeObject ses key v g =
      ((a.modServer fun v => { v with turn := (ses.path + 1) % 4, works := [] }).bump (ob 0x2020 0x0A)).emit (.response ses [answerItem (writeItem key v) 0 []]) := by
  have hg : z.commit.group = none := by rw [hz]; exact h.group
  have hp : z.commit.implicit = [] := by rw [hz]; exact h.implicit
  have ho : z.commit.owner = none := by rw [hz]; exact h.owner
  have hrun : z.launch.run = none := by rw [hz]; exact h.run
  have hnow : z.takeIdent.now = s.now := by rw [hz]; rfl
  have he : z.stagedElsewhere ses key = false := by simp [State.stagedElsewhere, ho]
  unfold State.writeObject
  have e := State.request_one s ses (writeItem key v) g h.toServerFree a 0 0 [] []
    (by
      have htg : z.touchGroup ses (ob (writeItem key v).index (writeItem key v).sub) = z := by simp [State.touchGroup, ho]
      rw [← hz, htg, State.serveWrite_num z ses key r v g hrow hacc hbus hb hty hdec hrng,
        State.writeChecked_delivers z ses key r v g hkeep hr hs hf (.inl he) hc,
        State.deliver_acts z ses key v g hi ho hg hp hcls hrun hff,
        State.switch_command z.takeIdent key v g hrun hk hw ht hbd (by rw [hnow, ← ha]; exact hrr), hnow, ← ha])
    (by rw [← hz]; exact hsv)
  rw [e]
  rfl

end Sys2Proof.Machine
end

