-- ==== Sys2Proof/Machine/Flags.lean ====
section
/-!
DEFINITION. Status words that a host reads as registers of the PCIe mailbox: they are computed from the state (R132 to R134). The words that are dictionary objects are in View.lean, the error register 0x1001:00 in Ops.lean.
-/

namespace Sys2Proof.Machine

/-- MBX_STATUS: error in [15:8], emcy_pending in [2], resp_ready in [1], busy in [0] (R132, R133). -/
def State.mbxStatus (s : State) : Nat :=
  at_ 8 8 s.mbx.error ||| at_ 1 2 (b2n (decide (s.mbx.head ≠ s.mbx.tail))) ||| at_ 1 1 (b2n s.mbx.respReady) ||| b2n s.mbx.busy

/-- The registers of the mailbox that can be read, by their offset (R132); any other offset below 0x1000 has none. -/
def State.mbxRegister (s : State) (offset : Nat) : Option Nat :=
  match offset with
  | 0x0004 => some s.mbxStatus
  | 0x0008 => some s.mbx.seq
  | 0x000C => some s.mbx.respLen
  | 0x0010 => some s.mbx.head.val
  | 0x0014 => some s.mbx.tail.val
  | 0x0018 => some s.mbx.ctrl.toNat
  | _ => none

/-- The 32 bytes of a slot of the emergency ring; one that holds no record reads as zero (R132, R134). -/
def State.ringSlot (s : State) (k : Fin 128) : Bytes :=
  match s.mbx.slots.find? fun e => e.1 == k with
  | some e => e.2.bytes
  | none => List.replicate 32 0

end Sys2Proof.Machine
end

