-- ==== Sys2Proof/Tests/Slice0.lean ====
section
/-!
SUPPORT. Tests of the model's own author: the spec's worked examples, the checks of WellFormed, and, for the statements of Certificates/Slice0, concrete states and operands that meet their hypotheses.
-/

namespace Sys2Proof.Tests

set_option maxRecDepth 8000
set_option Elab.async false

open Sys2Proof Sys2Proof.Machine

/-! ## The spec's worked examples -/

/-- R98: the three vectors of the generator. -/
theorem test_generator_vectors :
    generate (0, 0, 0, 0) 0 0 = (0xD642D6AA, 0x5FE30926, 0xB72AFB0F, 0x97B70F30)
    ∧ generate (0, 0, 0, 0) 0 1 = (0xBEBD2BEE, 0xE53CAB78, 0xDDDC5802, 0x58E102A1)
    ∧ generate (0, 0, 0xA5A5A5A5, 0x5A5A5A5A) 1 0 = (0xFA38A8D2, 0x91890B22, 0x6725C265, 0x561F63E3) := by decide +kernel

/-- FIPS 180-4: SHA-512 of the three letters abc. -/
theorem test_sha512_abc : beNat (sha512 (ascii "abc")) =
    0xddaf35a193617abacc417349ae20413112e6fa4e89a97ea20a9eeee64b55d39a2192992a274fc1a836ba3c23a3feebbd454d4423643ce80e2a9ac94fa54ca49f := by decide +kernel

/-- Number Formats, worked conversions: FP32 to BF16, FP8-E4M3 and FP16. -/
theorem test_float_conversions :
    bf16.narrow (num32 0x3EAAAAAB) = ⟨0x3EAB, 0, 0⟩ ∧ e4m3.narrow (Exact.ofInt 300) = ⟨0x79, 0, 0⟩ ∧ e4m3.narrow (Exact.ofInt 500) = ⟨0x7E, 1, 0⟩
    ∧ e4m3.narrow (.inf false) = ⟨0x7E, 1, 0⟩ ∧ fp16.narrow (Exact.ofInt 70000) = ⟨0x7BFF, 1, 0⟩ ∧ fp16.narrow (.fin false 1 1 (-25)) = ⟨0, 0, 1⟩
    ∧ fp32.ieee (e5m2.decode 0x7C) = 0x7F800000 ∧ fp32.ieee (Exact.ofInt (-32768)) = 0xC7000000 := by decide +kernel

/-- Number Formats, worked conversions: to INT8, INT4 and INT16. -/
theorem test_integer_conversions :
    narrowInt 8 (.fin false 255 1 (-1)) = ⟨127, 1, 0⟩ ∧ narrowInt 4 (.fin true 5 1 (-1)) = ⟨14, 0, 0⟩ ∧ narrowInt 16 .nan = ⟨0, 1, 0⟩ := by decide +kernel

/-- Number Formats: one MXFP4 block on the mill line. -/
theorem test_mxfp4_block :
    mxEncode 9 [.fin false 90 100 0, .fin false 31 100 0, .fin true 6 100 0, .fin false 19 100 0, .fin false 5 1 (-4)] = ⟨[0x7, 0x4, 0x9, 0x3, 0x4], [0x7C], [], 1, 0, 0⟩ := by
  decide +kernel

/-- Number Formats: EX8 group 5 after a weld seam, the six elements listed, at their positions among zeros. -/
theorem test_ex8_group :
    let xs := (List.range 128).map fun i => if i = 3 then (.fin false 253 100 0 : Exact) else if i = 4 then .fin true 1 1 (-1) else if i = 12 then .fin false 79 10 0
      else if i = 17 then .fin false 313 10 0 else if i = 64 then Exact.ofInt (-12) else if i = 90 then .fin false 1002 10 0 else Exact.zero
    let w := ex8Encode 0x3D800000 5 xs
    (w.codes.getD 3 0, w.codes.getD 4 0, w.codes.getD 12 0, w.codes.getD 17 0, w.codes.getD 64 0, w.codes.getD 90 0) = (0x28, 0xF8, 0x7E, 0x80, 0x80, 0x80)
    ∧ w.records = [BitVec.ofNat 320 0x5A055643_4005CA00_11054FD3_3D800000_05030000] ∧ w.sat = 0 := by
  decide +kernel

/-- Scaling: derive(7.9) is 0.0625 and derive(100.2) is 1.0 for an EX8 slot. -/
theorem test_derive_scale :
    deriveScale (fp32.ieee (.fin false 79 10 0)) (maxCode 13) 0 false = 0x3D800000 ∧ deriveScale (fp32.ieee (.fin false 1002 10 0)) (maxCode 13) 0 false = 0x3F800000 := by
  decide +kernel

/-- Attention: the maximum rises in the last block; the output is 72/11 in FP32. -/
theorem test_attention_recurrence :
    let one := (Part.start 1).block [(Exact.ofInt 1, [Exact.ofInt 2]), (Exact.zero, [Exact.ofInt 4])]
    let two := one.block [(Exact.ofInt 3, [Exact.ofInt 8])]
    (one.m, two.m) = (some 1, some 3) ∧ fp32.ieee one.l = 0x3FC00000 ∧ one.acc.map fp32.ieee = [0x40800000] ∧ fp32.ieee two.l = 0x3FB00000
    ∧ two.acc.map fp32.ieee = [0x41100000] ∧ two.acc.map (fun a => fp32.ieee (a.div two.l)) = [0x40D1745D] := by decide +kernel

/-- Illumination: the drive of head 0 after an interval with mean 176.4 against the target 180.0 is 63.2 %. -/
theorem test_compensation_step : (driveStep 620 (Exact.ofInt 180) (.fin false 1764 10 0) 1000).1 = 632 := by decide +kernel

/-- Motion: the legs of axis 7, slew 2,048, limits 0 and 60,000, on the way from 20,000 to 30,000. -/
theorem test_piezo_head_step :
    driveLeg true 2048 0 60000 20000 30000 = (some 22048, 22048, true, false) ∧ driveLeg true 2048 0 60000 26144 30000 = (some 28192, 28192, true, false)
    ∧ driveLeg true 2048 0 60000 28192 30000 = (some 30000, 30000, false, false) := by decide

/-- Time: after the loss of grandmaster A, the base increment of B and the adjustment for an offset of 310 ns. -/
theorem test_ptp_switch_increments :
    divRne (17179869184 * 999999500) 1000000000 = 17179860594 ∧ divRne (-310 * 4 * 2 ^ 32) 1000000000 = -5326 := by decide +kernel

/-- Delay replicas: 10,860 tokens in the default gate read 10,860; half the gate doubles the reading; two thirds round up. -/
theorem test_replica_reading : replicaReading (State.reset.nat (ob 0x3010 4)) 10860 = 10860 ∧ replicaReading 5000 10860 = 21720 ∧ replicaReading 15000 10000 = 6667 := by decide +kernel

/-! ## The checks of WellFormed -/

/-- A count of 65 bits is refused, and the largest of 64 bits is not. -/
theorem test_wf_count :
    ([.emcyInhibitExpiry (2 ^ 64), .timebaseHoldEnd (2 ^ 64), .commitOpen (2 ^ 64) .pcie, .rowMapOut (2 ^ 64) 0, .launchStart (2 ^ 64) []] : List Instr).all (fun c => !c.wf) = true
    ∧ (Instr.emcyInhibitExpiry (2 ^ 64 - 1)).wf = true := by decide +kernel

/-- Sessions: node-IDs 0 and 128, and a session number of 33 bits, are refused. -/
theorem test_wf_sessions :
    (Instr.commit 0 (.can 0)).wf = false ∧ (Instr.commit 0 (.can 128)).wf = false ∧ (Instr.commit 0 (.basaris (2 ^ 32))).wf = false
    ∧ (Instr.commit 0 (.can 1)).wf = true ∧ (Instr.commit 0 (.can 127)).wf = true ∧ (Instr.commit 0 (.basaris (2 ^ 32 - 1))).wf = true := by decide +kernel

/-- Basaris frames: a source of 129 bits, a tag of 15 bytes, a payload of 8,925 bytes. -/
theorem test_wf_basaris_frames :
    (BFrame.mk (2 ^ 128) 0 [] (List.replicate 16 0)).wf = false ∧ (BFrame.mk 0 0 [] (List.replicate 15 0)).wf = false
    ∧ (BFrame.mk 0 0 (List.replicate 8925 0) (List.replicate 16 0)).wf = false ∧ (BFrame.mk 5 0 [1] (List.replicate 16 0)).wf = true
    ∧ (Instr.keepAlive 0 ⟨0, 0, [], []⟩).wf = false ∧ (Instr.launchConfirm 0 ⟨0, 0, [], []⟩).wf = false := by decide +kernel

/-- CAN frames: an identifier of 12 bits in a base frame, 9 data bytes in a classical frame and in a CAN FD frame, a remote frame with data; bus errors beyond their widths. -/
theorem test_wf_can :
    (CanFrame.mk 0x800 false false false []).wf = false ∧ (CanFrame.mk 0x7FF false false false []).wf = true
    ∧ (CanFrame.mk 0x20000000 true false false []).wf = false
    ∧ (CanFrame.mk 1 false false false (List.replicate 9 0)).wf = false ∧ (CanFrame.mk 1 false true false (List.replicate 9 0)).wf = false
    ∧ (CanFrame.mk 1 false false true [1]).wf = false
    ∧ (Instr.canBusError 0 1 256 true 0 0).wf = false ∧ (Instr.canBusError 0 1 0 true 65536 0).wf = false ∧ (Instr.canBusError 0 1 0 true 0 65536).wf = false := by decide +kernel

/-- SDO and USDO requests, NMT commands, PDOs. -/
theorem test_wf_canopen :
    (Instr.sdoRequest 0 0 (.downloadExpedited 0 0 [])).wf = false ∧ (Instr.sdoRequest 0 0 (.downloadExpedited 0 256 [1])).wf = false
    ∧ (Instr.sdoRequest 0 0 (.downloadInit 65536 0 1)).wf = false ∧ (Instr.sdoRequest 0 0 (.downloadSegment false (List.replicate 8 0) true)).wf = false
    ∧ (Instr.sdoRequest 0 0 (.uploadInit 0 256)).wf = false ∧ (Instr.usdoRequest 0 0 (.read 65536 0)).wf = false ∧ (Instr.usdoRequest 0 0 (.write 0 256 [])).wf = false
    ∧ (Instr.nmtCommand 0 0 128 .start).wf = false ∧ (Instr.rpdoReceived 0 0 (List.replicate 65 0)).wf = false := by decide +kernel

/-- Requests of the paths: keys, values, mailbox areas and lengths. -/
theorem test_wf_requests :
    (Instr.objectWrite 0 .pcie (2 ^ 24) (.int 0)).wf = false ∧ (Instr.storeAllParameters 0 .pcie (2 ^ 32) 0).wf = false
    ∧ (Instr.storeAllParameters 0 .pcie 0 (2 ^ 32)).wf = false ∧ (Instr.restoreDefaultParameters 0 .pcie (2 ^ 32)).wf = false
    ∧ (Instr.mbxDoorbell 0 (2 ^ 32) 0 [] 0).wf = false ∧ (Instr.mbxDoorbell 0 0 0 (List.replicate 4097 0) 0).wf = false ∧ (Instr.mbxDoorbell 0 0 0 [] (2 ^ 32)).wf = false
    ∧ (Instr.dictionaryPortDoorbell 0 0 (List.replicate 4097 0) 0).wf = false ∧ (Instr.dictionaryPortDoorbell 0 0 [] (2 ^ 32)).wf = false
    ∧ (Instr.emcyTailWrite 0 (2 ^ 32)).wf = false ∧ (Instr.faultAcknowledge 0 .pcie (2 ^ 32)).wf = false ∧ (Instr.launchPropose 0 .pcie (2 ^ 64)).wf = false
    ∧ (Instr.basarisSessionTimeout 0 (2 ^ 32)).wf = false ∧ (Instr.emergencyRepeat 0 0 (2 ^ 32)).wf = false := by decide +kernel

/-- PTP messages, reference messages, remote requests. -/
theorem test_wf_messages :
    (SyncMsg.mk 0 0 false (2 ^ 64) 0 0).wf = false ∧ (SyncMsg.mk 0 0 false 0 (2 ^ 63) 0).wf = false ∧ (SyncMsg.mk 0 0 false 0 0 (2 ^ 64)).wf = false
    ∧ (AnnounceMsg.mk 0 0 (2 ^ 64) 0 0 0).wf = false ∧ (AnnounceMsg.mk 0 0 0 256 0 0).wf = false ∧ (AnnounceMsg.mk 0 0 0 0 65536 0).wf = false ∧ (AnnounceMsg.mk 0 0 0 0 0 32768).wf = false
    ∧ (Instr.ptpPdelayRequest 0 0 (2 ^ 64) 0).wf = false ∧ (Instr.ptpDelayRequestTransmit 0 0 (2 ^ 64)).wf = false ∧ (Instr.ptpDelayResponseReceived 0 0 0 0 (2 ^ 64) 0).wf = false
    ∧ (Instr.ptpDelayResponseReceived 0 0 0 0 0 (2 ^ 63)).wf = false
    ∧ (RefMsg.mk 8 0 0 false false).wf = false ∧ (RefMsg.mk 0 64 0 false false).wf = false ∧ (RefMsg.mk 0 0 65536 false false).wf = false
    ∧ (RdmaReq.mk 0 0 (2 ^ 32) 0 0 false).wf = false ∧ (RdmaReq.mk 0 0 0 (2 ^ 64) 0 false).wf = false ∧ (RdmaReq.mk 0 0 0 0 (2 ^ 32) false).wf = false := by decide +kernel

/-- Network, queues and PCIe. -/
theorem test_wf_network :
    (Instr.rdmaWriteWithImmediate 0 ⟨0, 0, 0, 0, 0, false⟩ [] 0 0 (2 ^ 64) 0).wf = false ∧ (Instr.rdmaWriteWithImmediate 0 ⟨0, 0, 0, 0, 0, false⟩ [] 0 0 0 (2 ^ 32)).wf = false
    ∧ (Instr.queuePairReestablish 0 .pcie (2 ^ 32)).wf = false ∧ (Instr.consumerIndexWrite 0 .pcie 0 (2 ^ 32)).wf = false ∧ (Instr.bar2Access 0 0 (2 ^ 64) none 0).wf = false
    ∧ (Instr.bar2Access 0 0 0 none (2 ^ 32)).wf = false ∧ (Instr.pcieLinkUp 0 256 0).wf = false ∧ (Instr.pcieLinkUp 0 0 256).wf = false
    ∧ (Instr.roceAckReceived 0 0 (2 ^ 24) false none).wf = false := by decide +kernel

/-- Blocks, descriptors and cameras. -/
theorem test_wf_blocks_and_cameras :
    (Instr.illegalDualRailCode 0 0 0 256 0).wf = false ∧ (Instr.replicaMeasurement 0 (List.replicate 179 0)).wf = false ∧ (Instr.blockStallTimeout 0 0 0 (2 ^ 32) []).wf = false
    ∧ (ExecDesc.mk 0 0 ⟨[], none⟩ ⟨[], none⟩ 65536 0 none [] []).wf = false ∧ (ExecDesc.mk 0 0 ⟨[], none⟩ ⟨[], none⟩ 0 (2 ^ 32) none [] []).wf = false
    ∧ (Instr.selvedgeEntryReceived 0 0 0 0 0 [] 4 0).wf = false ∧ (Instr.selvedgeEntryReceived 0 0 0 0 0 [] 0 3).wf = false ∧ (Instr.selvedgeEntryReceived 0 0 0 0 0 [] 0 65537).wf = false
    ∧ (Instr.selvedgeEntryReceived 0 0 0 0 0 [] 0 0x0501).wf = true ∧ (Instr.nms 0 0 ⟨0, 0, 0, []⟩ (2 ^ 64) false).wf = false
    ∧ (CamLine.mk 256 8 [] 0 false false).wf = false ∧ (CamLine.mk 0 8 [] 4 false false).wf = false ∧ (Instr.cameraSettingsTimeout 0 0 65536).wf = false
    ∧ (Instr.cameraRegisterRequest 0 .pcie [] (2 ^ 32) []).wf = false ∧ (Instr.cameraRegisterRequest 0 .pcie [] 0 (List.replicate 5 0)).wf = false := by decide +kernel

/-- Heads, intake and motion. -/
theorem test_wf_heads_intake_and_motion :
    (HeadMemory.mk (List.replicate 63 0) (List.replicate 32 0) (List.replicate 32 0)).wf = false ∧ (HeadMemory.mk (List.replicate 64 0) [] (List.replicate 32 0)).wf = false
    ∧ (HeadMemory.mk (List.replicate 64 0) (List.replicate 32 0) []).wf = false ∧ (HeadAnswer.response [1]).wf = false
    ∧ (Instr.headSerialPoll 0 0 (some [1])).wf = false ∧ (Instr.submittedCountWrite 0 .pcie 0 (2 ^ 64)).wf = false ∧ (Instr.submissionEntryTaken 0 0 0 none 256).wf = false
    ∧ (Instr.sampleDecode 0 0 (2 ^ 64) ⟨0, 0, .dataError⟩).wf = false ∧ (Instr.sampleDecode 0 0 0 ⟨0, (2 ^ 32), .dataError⟩).wf = false ∧ (Instr.hostDecodeReturn 0 0 0 (2 ^ 64) 0 []).wf = false ∧ (Instr.hostDecodeReturn 0 0 0 0 (2 ^ 32) []).wf = false
    ∧ (Instr.hostDecodeTimeout 0 0 (2 ^ 64)).wf = false ∧ (Instr.batchWrite 0 0 5).wf = false
    ∧ (Instr.adcConversionComplete 0 0 32768).wf = false ∧ (Instr.adcConversionComplete 0 0 (-32768)).wf = true ∧ (Instr.captureEvent 0 0 false (2 ^ 31)).wf = false
    ∧ (Instr.overCurrentTrip 0 0 (2 ^ 31)).wf = false ∧ (Instr.sensorSupplyCommand 0 .pcie 0 256).wf = false ∧ (Instr.digitalOutputThermalShutdown 0 0 65536).wf = false
    ∧ (Instr.releaseCount 0 [] [⟨0, 2 ^ 31, 0, 0, 0, 0, 0⟩]).wf = false ∧ (Instr.releaseCount 0 [] (List.replicate 17 ⟨0, 0, 0, 0, 0, 0, 0⟩)).wf = false := by decide +kernel

/-- The Crust's tests and SRDOs, power, firmware and images. -/
theorem test_wf_crust_power_and_service :
    (Instr.comparatorTest 0 65536 0 true []).wf = false ∧ (Instr.comparatorTest 0 0 256 true []).wf = false ∧ (Instr.starterFrameTest 0 0 0 true 65536 0 none).wf = false
    ∧ (Instr.starterFrameTest 0 0 0 true 0 (2 ^ 32) none).wf = false ∧ (Instr.srdoReceived 0 0 (List.replicate 65 0) [] 0).wf = false ∧ (Instr.srdoReceived 0 0 [] (List.replicate 65 0) 0).wf = false
    ∧ (Instr.srdoReceived 0 0 [] [] (2 ^ 32)).wf = false ∧ (Instr.mainInputLoss 0 65536).wf = false ∧ (Instr.domainStateRequest 0 .pcie 0 256).wf = false
    ∧ (Instr.droopExcursion 0 0 65536 0).wf = false ∧ (Instr.droopExcursion 0 0 0 (2 ^ 32)).wf = false ∧ (Instr.temperatureSample 0 [] false).wf = false ∧ (Instr.inputPowerCheck 0 65536).wf = false
    ∧ (Instr.ageingMeasurement 0 (List.replicate 11 ⟨0, 0, 0, 0, 0⟩)).wf = false ∧ (Instr.sysRstNLow 0 (2 ^ 64)).wf = false
    ∧ (Bundle.mk true true true (2 ^ 32) 0 true).wf = false ∧ (Bundle.mk true true true 0 (2 ^ 32) true).wf = false
    ∧ (Instr.raiseMinimumSecurityVersion 0 .pcie (2 ^ 32)).wf = false ∧ (Instr.migrationRequest 0 .pcie 256).wf = false := by decide +kernel

/-! ## States of the tests -/

/-- The state after a command that answers a next state. -/
def after (c : Instr) (s : State) : State := match exec c s with
  | .next u => u
  | _ => s

/-- The state with some objects at given values. -/
def with_ (l : List (Key × Int)) (s : State) : State := { s with dict := { s.dict with active := l.foldl (fun a e => put a e.1 (.int e.2)) s.dict.active } }

def R : State := State.reset

/-- A launch in free-running mode with beats of 1 ms, begun at count 0. -/
def run0 : Run := { start := 0, period := 1000000, pace := false, beat := 0, pauseAt := none, resumeAt := none, paused := false, endNext := false, endAt := none }

/-- The same launch in progress. -/
def inRun (s : State) : State := { s with launch := { s.launch with state := .running, run := some run0 } }

/-- A program image for the launch conditions of R479. -/
def im0 : Image := { hash := List.replicate 32 1, magic := 0x41D9, version := 1, keySlot := 0, slotTables := 3, flags := 7, floorRate := 10000, length := 0, securityVersion := 0, beatPeriod := 10000, verdictDelay := 0, pausePeriod := 1, paceRate := 0, reducedRate := 0, classCTok := 0, minFirmware := 0, reservedOk := true, variants := [⟨10, 10, 4⟩], outputs := [], streams := [], tables := [], slots := [], latentScales := [], srcLogRows := 0, seedUsers := [], tableUsers := [], windowRanges := [], starterCrcs := [], migrationPlaces := true, group := [], leader := true, recomputeCost := 0, verdictOutputs := [], messageBound := [], hostOutputs := [], recordSizes := [], buffers := [], heldOutputs := [], generators := [], attentionOutputs := [], ringBeats := [], kvPlaces := [], gathers := [], pinned := [], inputBuffers := [] }

theorem serverFree_of {s : State} {ses : Session}
    (h : (s.server.works.isEmpty && s.power.latched.isNone && s.commit.group.isNone && s.commit.implicit.isEmpty && s.commit.instant.isEmpty && !s.dict.owed.contains ses) = true) :
    ServerFree s ses := by
  simp only [Bool.and_eq_true, List.isEmpty_iff, Option.isNone_iff_eq_none, Bool.not_eq_true'] at h
  exact ⟨h.1.1.1.1.1, h.1.1.1.1.2, h.1.1.1.2, h.1.1.2, h.1.2, h.2⟩

theorem writesAct_of {s : State} {ses : Session} (h : ServerFree s ses) (h2 : (s.commit.owner.isNone && s.launch.run.isNone) = true) : WritesAct s ses := by
  simp only [Bool.and_eq_true, Option.isNone_iff_eq_none] at h2
  exact { h with owner := h2.1, run := h2.2 }

theorem headerOk_of {s : State} {r : Fin 10} {h : BitVec 128} {engine : Nat} {classOk : Bool} {prev : Option Nat}
    (a : (!headerInvalid h engine && (hClass h != 0 && classOk) && sequenceOk prev (hSequence h)
      && s.permits (hClass h) (rmemAt r.val (hStatusAddr h)) 16 true && (rmemAt r.val (hStatusAddr h)).inside 16) = true) : HeaderOk s r h engine classOk prev := by
  simp only [Bool.and_eq_true, Bool.not_eq_true', bne_iff_ne, ne_eq] at a
  exact ⟨a.1.1.1.1, a.1.1.1.2, a.1.1.2, a.1.2, a.2⟩

theorem checksPass_of {s : State} {t : Nat} {key : Key} {v : Val} (h : ((s.advance t).takeIdent.firstFailing [(key, v)]).isNone = true) : ChecksPass s t key v :=
  Option.isNone_iff_eq_none.mp h

/-! ## Hypotheses that are met: the machine, faults, commits and writes -/

/-- A block's commands carry no bits in the table: no word spells one. -/
theorem test_no_word_spells_a_command : decodeTableWord 8 0 = none ∧ R.withFetchWord 8 0 = R := ⟨rfl, rfl⟩

/-- An image whose hash is short, that has no variant, or that names more than four slot tables, is refused. -/
theorem test_wf_images :
    ({ im0 with hash := [] } : Image).wf = false ∧ ({ im0 with variants := [] } : Image).wf = false ∧ ({ im0 with slotTables := 4 } : Image).wf = false ∧ im0.wf = true := by decide +kernel

theorem test_witness_StepRunsTheFrontCommand :
    ({ R with pending := [.commitOpen 5 .pcie, .rowMapOut 7 0] } : State).pending = .commitOpen 5 .pcie :: [.rowMapOut 7 0] := rfl

theorem test_witness_EmptyQueueStepIsOneTick :
    R.pending = [] ∧ R.server.works = [] ∧ R.power.latched = none ∧ R.commit.group = none ∧ R.commit.implicit = [] ∧ R.commit.instant = []
    ∧ ((R.blocks.toList.all fun x => x.waiting.isEmpty && x.selWait.isNone) && R.regions.toList.all fun x => x.waiting.isEmpty) = true ∧ R.time.tick.clampedTicks = R.time.clampTold := by
  decide +kernel

theorem test_witness_EveryStepKeepsMemoriesCanonical : MemoriesCanonical R ∧ step R = .next { R with time := R.time.tick } := ⟨rfl, rfl⟩

theorem test_witness_WellFormedCommandsHaveCounts : (Instr.launchPropose (2 ^ 64 - 1) .pcie 5).wf = true := by decide +kernel

/-- Two places in one memory, side by side, and two in different memories. -/
theorem test_witness_StoredBytesReadBack :
    (⟨0, 0, 0, 100⟩ : MemRef).inside 3 = true ∧ (⟨0, 0, 0, 103⟩ : MemRef).inside 2 = true ∧ (⟨0, 0, 0, 100⟩ : MemRef).key + 3 ≤ (⟨0, 0, 0, 103⟩ : MemRef).key
    ∧ (⟨1, 3, 0, 0⟩ : MemRef).inside 8 = true := by decide +kernel

theorem test_witness_TickAddsTheClampedIncrement : R.time.hold = 0 ∧ ({ R.time with hold := 3 } : Time).hold ≠ 0 := by decide +kernel

theorem test_witness_CountsNeverDecrease : R.time.hold = 0 ∧ R.now ≤ 5 ∧ ({ R with time := { R.time with hold := 1 } } : State).time.hold ≠ 0 := by decide +kernel

/-- A fault of class degraded, which no record absorbs. -/
theorem test_witness_FaultAppendsOneRecord : (FaultRec.make 0x0F02 (.ofUnit 1) 3 0 R.now R.log.nextSeq).cls ≠ 0 := by decide +kernel

/-- A correctable fault that occurs twice within the window coalesces. -/
theorem test_witness_FaultLogKeepsTheLastRecords :
    R.log.ring.length ≤ 4096 ∧ R.log.ring.length < 4096 ∧ 2 ≤ (FaultRec.make 0x0F02 (.ofUnit 1) 3 0 0 0).cls ∧ (FaultRec.make 0x0F07 (.ofUnit 1) 3 0 0 0).cls < 2
    ∧ coalesceInto [FaultRec.make 0x0F07 (.ofUnit 1) 3 0 0 0] (FaultRec.make 0x0F07 (.ofUnit 1) 3 0 5 1) 1000 = some [{ FaultRec.make 0x0F07 (.ofUnit 1) 3 0 0 0 with rep := 1 }]
    ∧ (List.replicate 4096 (FaultRec.make 0x0F07 (.ofUnit 1) 3 0 0 0)).length = 4096 := by decide +kernel

/-- The node of controller 2 in operation, with one message waiting behind the inhibit time. -/
def node0 : State := with_ [(canObj 2 1, 1), (canObj 2 0x0C, 0)] R

def waiting0 : State := { node0 with node := { node0.node with queue := [⟨0x1000, 0, 0x0101, 1, 1, 0⟩], inhibit := some 100 } }

theorem test_witness_EmcyInhibitExpirySendsTheOldest :
    (waiting0.advance 100).inhibited = false ∧ waiting0.node.queue = [⟨0x1000, 0, 0x0101, 1, 1, 0⟩] ∧ waiting0.nodeSends = true ∧ R.node.queue = [] ∧ (R.advance 5).inhibited = false := by
  decide +kernel

/-- A group of the PCIe function with one restart entry. -/
def owned : State := { R with commit := { R.commit with owner := some .pcie, entries := [(ob 0x3C00 1, .int 0)] } }

/-- A group with one instant entry while a launch runs. -/
def owned2 : State := { inRun R with commit := { R.commit with owner := some .pcie, entries := [(ob 0x5810 7, .int 2)] } }

theorem test_witness_CommitGroupOpensCommitsAndDiscards :
    (ServerFree R .pcie ∧ R.commit.owner = none ∧ R.commit.owner ≠ some .pcie)
    ∧ (ServerFree owned (.core 3) ∧ owned.commit.owner = some .pcie ∧ Session.pcie ≠ .core 3)
    ∧ (ServerFree owned .pcie ∧ isRestart owned.commit.entries = true ∧ (owned.advance 5).takeIdent.firstFailing owned.commit.entries = none)
    ∧ (ServerFree owned2 .pcie ∧ isRestart owned2.commit.entries = false ∧ isDrained owned2.commit.entries = false ∧ owned2.nat (ob 0x2010 3) = 0
      ∧ (owned2.advance 5).takeIdent.firstFailing owned2.commit.entries = none ∧ owned2.launch.run = some run0 ∧ 0 < run0.period) :=
  ⟨⟨serverFree_of (by decide +kernel), by decide +kernel⟩, ⟨serverFree_of (by decide +kernel), by decide +kernel⟩, ⟨serverFree_of (by decide +kernel), by decide +kernel⟩,
    ⟨serverFree_of (by decide +kernel), by decide +kernel⟩⟩

/-- A committed group of a running launch, waiting with its request. -/
def waits0 (c : Commit) : State :=
  { inRun R with
    commit := { R.commit with owner := some .pcie, entries := c.entries, group := some c }
    server := { R.server with works := [⟨.pcie, .plain, true, true, false, [], [], some (c.ident, ⟨0x2010, 1, 0, 1, 2, 0, []⟩), none, ⟨none, none, 0⟩⟩] } }

/-- An instant entry scheduled for beat 2, and a drained one for which two engines have yet to report. -/
def group0 : Commit := ⟨1, [(ob 0x5810 7, .int 2)], 1000000, 2, [], [], true, true, ⟨none, none, 0⟩⟩

def group1 : Commit := ⟨1, [(ob 0x3600 3, .int 150)], 1000000, 0, [.windowPort 0 0, .windowPort 0 1], [.windowPort 0 0, .windowPort 0 1], true, false, ⟨none, none, 0⟩⟩

theorem groupWaits_of {s : State} {c : Commit} {w : Work} {r : RespItem}
    (h1 : s.commit.group = some c) (h2 : s.server.works = [w]) (h3 : w.waits = some (c.ident, r))
    (h : decide (w.begun = true ∧ w.outcome = none ∧ w.reply = .plain ∧ w.items = [] ∧ w.done = [] ∧ s.commit.implicit = [] ∧ s.commit.instant = [] ∧ s.power.latched = none) = true) :
    GroupWaits s c w r := by
  have h := of_decide_eq_true h
  exact ⟨h1, h2, h3, h.1, h.2.1, h.2.2.1, h.2.2.2.1, h.2.2.2.2.1, h.2.2.2.2.2.1, h.2.2.2.2.2.2.1, h.2.2.2.2.2.2.2⟩

theorem waits0_waits (c : Commit) : ∃ w r, GroupWaits (waits0 c) c w r := ⟨_, _, ⟨rfl, rfl, rfl, rfl, rfl, rfl, rfl, rfl, rfl, rfl, rfl⟩⟩

theorem test_witness_CommittedGroupSwitches :
    (∃ w r, GroupWaits (waits0 group0) group0 w r) ∧ (waits0 group0).launch.run = some run0 ∧ 0 < run0.period ∧ group0.scheduled = true
      ∧ run0.countOf group0.beat ≤ ((waits0 group0).advance 5000000).now ∧ ((waits0 group0).advance 5000000).changeDue group0.beat = false
      ∧ (waits0 group0).launch.lastBeat ≠ some group0.beat ∧ ∀ e ∈ group0.entries, e.1 ∈ quietKeys :=
  ⟨waits0_waits _, by decide +kernel⟩

theorem test_witness_CommittedGroupAborts :
    (∃ w r, GroupWaits (waits0 group1) group1 w r) ∧ group1.started = true ∧ group1.scheduled = false ∧ group1.waits = true ∧ group1.notReady.contains (.windowPort 0 0) = true
      ∧ (group1.notReady.filter fun x => x != .windowPort 0 0) ≠ [] ∧ group1.beat = 0 ∧ group1.since + 1000000 * (waits0 group1).nat (ob 0x2010 4) ≤ ((waits0 group1).advance 3000000000).now :=
  ⟨waits0_waits _, by decide +kernel⟩

/-- The last engine without a requested beat, and a requested beat that has passed. -/
theorem test_witness_CommittedGroupLastEngine :
    (∃ w r, GroupWaits (waits0 { group1 with notReady := [.windowPort 0 0] }) { group1 with notReady := [.windowPort 0 0] } w r)
    ∧ (∃ w r, GroupWaits (waits0 { group1 with beat := 2 }) { group1 with beat := 2 } w r) ∧ ({ group1 with beat := 2 } : Commit).waits = true
    ∧ run0.countOf 2 ≤ ((waits0 { group1 with beat := 2 }).advance 3000000).now :=
  ⟨waits0_waits _, waits0_waits _, by decide +kernel⟩

theorem test_witness_CommitGroupIdle :
    ServerFree owned .pcie ∧ owned.commit.owner = some .pcie ∧ owned.commit.lastActivity + 1000000000 * owned.nat (ob 0x2010 0x0D) ≤ (owned.advance 3000000000000).now :=
  ⟨serverFree_of (by decide +kernel), by decide +kernel, by decide +kernel⟩

/-- A write that acts at once, at each of the quiet objects; one that is staged; objects that do not exist, are read-only, or belong to the Crust. -/
theorem test_witness_WritesActStageOrAreRefused :
    (WritesAct R .pcie ∧ ∀ k ∈ quietKeys, ((rowOf k).any fun r => r.ty.fits (.int 2) && r.rng.ok (.int 2)) = true)
    ∧ (ServerFree owned2 .pcie ∧ owned2.commit.owner = some .pcie ∧ isRestart (del owned2.commit.entries (ob 0x1015 0)) = false
      ∧ (put owned2.commit.entries (ob 0x1015 0) (.int 2)).length ≤ 256 ∧ stagedBytes (put owned2.commit.entries (ob 0x1015 0) (.int 2)) ≤ 65536)
    ∧ rowOf (ob 0x9999 1) = none ∧ ((rowOf (ob 0x2010 5)).any fun r => decide (r.acc = .ro ∨ r.acc = .const)) = true ∧ ob 0x2010 5 / 256 < 0x2240
    ∧ ((rowOf (ob 0x4820 1)).any fun r => decide (r.acc = .crust)) = true ∧ 0x224B < ob 0x4820 1 / 256 :=
  ⟨⟨writesAct_of (serverFree_of (by decide +kernel)) (by decide +kernel), by decide +kernel⟩, ⟨serverFree_of (by decide +kernel), by decide +kernel⟩, by decide +kernel⟩

/-! ## Hypotheses that are met: launches, power, service -/

/-- Domain 0 synchronised and active since count 0. -/
def synced : State := { R with time := { R.time with sync := 2, active := some 0, syncedAt := some 0 }, launch := { R.launch with image := some im0 }, service := { R.service with bootState := 1 } }

theorem test_witness_LaunchPropose :
    WritesAct synced .pcie ∧ 5000000000 % 1000 = 0 ∧ ChecksPass synced 2000000000 (ob 0x3C00 4) (.int 5000000000) ∧ (synced.advance 2000000000).proposeRefused = false
      ∧ (synced.advance 2000000000).group = [] ∧ (synced.advance 2000000000).synchronisedIn (synced.advance 2000000000).ownDomain (synced.nat (ob 0x3C00 6)) = true
      ∧ (synced.advance 2000000000).now + 1000000 * synced.nat (ob 0x3C00 7) ≤ 5000000000 ∧ 2000000000 < (synced.advance 2000000000).now + 1000000 * synced.nat (ob 0x3C00 7) :=
  ⟨writesAct_of (serverFree_of (by decide +kernel)) (by decide +kernel), by decide, checksPass_of (by decide +kernel), by decide +kernel, by decide +kernel, by decide +kernel,
    by decide +kernel, by decide +kernel⟩

/-- A launch in progress whose pause beat may be set, and one that is paused. -/
def pausable : State := with_ [(ob 0x2100 4, 100000)] { inRun R with launch := { (inRun R).launch with image := some im0 } }

def paused0 : State := { pausable with launch := { pausable.launch with run := some { run0 with paused := true } }, power := { R.power with state := .idle } }

theorem test_witness_IdleAndResume :
    (ServerFree pausable .pcie ∧ pausable.launch.run = some run0 ∧ (pausable.advance 5).powerBusy = false ∧ (pausable.advance 5).powerRefused 1 = false)
    ∧ (ServerFree paused0 .pcie ∧ paused0.launch.run.isSome = true ∧ (paused0.advance 5).powerBusy = false ∧ (paused0.advance 5).powerRefused 2 = false) :=
  ⟨⟨serverFree_of (by decide +kernel), by decide +kernel⟩, ⟨serverFree_of (by decide +kernel), by decide +kernel⟩⟩

/-- Standby, every domain in the state that it takes there. -/
def standby0 : State := { R with power := { R.power with state := .standby, domains := R.power.domains.mapIdx fun d x => { x with state := if standbyOn d then 2 else 0 } } }

theorem test_witness_Standby :
    WritesAct R .pcie ∧ R.launching = false ∧ R.power.state = .run ∧ WritesAct standby0 .pcie ∧ standby0.launching = false ∧ standby0.power.state = .standby
      ∧ (standby0.advance 5).domainsReady = true :=
  ⟨writesAct_of (serverFree_of (by decide +kernel)) (by decide +kernel), by decide +kernel, by decide +kernel,
    writesAct_of (serverFree_of (by decide +kernel)) (by decide +kernel), by decide +kernel⟩

/-- A resume beat is set, and a domain is ready or not. -/
theorem test_witness_ResumeReadiness :
    let s : State := { inRun R with launch := { (inRun R).launch with run := some { run0 with paused := true, resumeAt := some 7 } } }
    s.launch.run.map (fun r => r.resumeAt) = some (some 7) ∧ (s.advance 5).domainsReady = true
      ∧ (({ s with power := { R.power with domains := upd R.power.domains 3 fun x => { x with state := 1 } } } : State).advance 5).domainsReady = false := by decide +kernel

/-- Two records that wait for their acknowledgement. -/
def unacked0 : State := { R with log := { R.log with unacked := [3, 7] } }

theorem test_witness_FaultRecordsAndCounters :
    (WritesAct unacked0 .pcie ∧ (unacked0.log.unacked.filter fun q => !atOrAfter 3 q) = [7] ∧ (unacked0.log.unacked.filter fun q => !atOrAfter 7 q) = [])
    ∧ (WritesAct R .pcie ∧ R.log.unacked = [] ∧ ChecksPass R 5 (ob 0x5000 3) (.int 1)) ∧ (R.nat (ob 0x5000 1) = 0 ∨ R.nat (ob 0x5000 1) ≠ 0)
    ∧ ((with_ [(ob 0x5000 1, 1000)] R).advance 999999).dumpDue = false ∧ ((with_ [(ob 0x5000 1, 1000)] R).advance 1000000).dumpDue = true ∧ (with_ [(ob 0x5000 1, 0)] R).nat (ob 0x5000 1) = 0 :=
  ⟨⟨writesAct_of (serverFree_of (by decide +kernel)) (by decide +kernel), by decide +kernel⟩,
    ⟨writesAct_of (serverFree_of (by decide +kernel)) (by decide +kernel), by decide +kernel, checksPass_of (by decide +kernel)⟩, by decide +kernel⟩

/-- A supply input outside its range with hold-up spent, one that returned in time, and the off state. -/
def mainLost (dv : Nat) : State := { R with power := { R.power with mainOk := false, mainDv := dv } }

theorem test_witness_ResetsAndSupplyInputs :
    WritesAct R .pcie ∧ (({ R with power := { R.power with tripped := true } } : State).advance 5).dieRestartRefused = false ∧ R.service.coresDown = [] ∧ R.power.mainOk = true ∧ R.power.fieldOk = true ∧ R.power.state ≠ .off
    ∧ (mainLost 300).power.mainOk = false ∧ (mainLost 300).power.mainDv < 360 ∧ 600 < (mainLost 601).power.mainDv ∧ 360 ≤ (mainLost 480).power.mainDv ∧ (mainLost 480).power.mainDv ≤ 600
    ∧ ({ R with service := { R.service with coresDown := [1] } } : State).service.coresDown = [1] ∧ ({ R with power := { R.power with state := .off } } : State).power.state = .off
    ∧ ({ R with power := { R.power with fieldOk := false } } : State).power.fieldOk = false :=
  ⟨writesAct_of (serverFree_of (by decide +kernel)) (by decide +kernel), by decide +kernel⟩

/-- Firmware that verifies and firmware whose signature fails; a device before its boot with the key slots of the image. -/
def firmware (ok : Bool) (v : Nat) : Bundle := ⟨true, ok, true, v, 3, true⟩

def unbooted : State := { R with service := { R.service with imageKeys := [(1, []), (0, []), (0, []), (0, [])] } }

theorem test_witness_BootRunsTheVerifiedSlots :
    unbooted.service.bootState = 0 ∧ unbooted.service.lastReset ≠ 6 ∧ unbooted.service.slot = 0 ∧ unbooted.bundleReason (firmware true 9) = 0 ∧ unbooted.bundleReason (firmware false 9) ≠ 0
    ∧ unbooted.imageReason im0 true = 0 ∧ unbooted.imageReason im0 false ≠ 0 ∧ ({ R with service := { R.service with bootState := 1 } } : State).service.bootState ≠ 0 := by decide +kernel

/-- Slots in the states that the commands of firmware and image find. -/
def slots0 (fw img : Nat) : State := { unbooted with service := { unbooted.service with fwState := fw, imgState := img, fwStaged := some (firmware true 9), imgStaged := some im0 } }

theorem test_witness_FirmwareAndImageSlots :
    (WritesAct (slots0 0 0) .pcie ∧ (slots0 0 0).service.fwState ≠ 1 ∧ (slots0 0 0).service.fwState ≠ 3 ∧ (slots0 0 0).service.imgState ≠ 1 ∧ (slots0 0 0).service.imgState ≠ 3 ∧ (slots0 0 0).service.fwSecurity < 2 ^ 32)
    ∧ (slots0 0 0).service.imageKeys = (1, []) :: [(0, []), (0, []), (0, [])] ∧ (slots0 0 0).dict.asm = [] ∧ R.service.imageKeys = (0, []) :: [(0, []), (0, []), (0, [])]
    ∧ (slots0 0 2).service.imgState = 2 ∧ ((with_ [(ob 0x5830 3, 100000000000)] (slots0 0 2)).advance 5).now + 1000 * (slots0 0 2).nat (ob 0x5800 0x0B) ≤ (with_ [(ob 0x5830 3, 100000000000)] (slots0 0 2)).nat (ob 0x5830 3)
    ∧ (ServerFree (with_ [(ob 0x5820 3, 1000)] (inRun (slots0 2 0))) .pcie ∧ ((with_ [(ob 0x5820 3, 1000)] (inRun (slots0 2 0))).advance 5).firmwareRefused 2 = false ∧ (with_ [(ob 0x5820 3, 1000)] (inRun (slots0 2 0))).commit.owner = none ∧ 0 < run0.period)
    ∧ (slots0 1 1).service.fwState = 1 ∧ (slots0 1 1).service.imgState = 1 ∧ (slots0 1 1).bundleReason (firmware false 9) ≠ 0 ∧ (slots0 1 1).bundleReason (firmware true 9) = 0
    ∧ (slots0 1 1).imageReason im0 true = 0 ∧ (slots0 1 1).imageReason im0 false ≠ 0 ∧ im0.minFirmware ≤ (slots0 1 1).service.firmware ∧ (slots0 1 1).headerMismatch im0 = false
    ∧ (slots0 3 0).service.fwState = 3 ∧ (slots0 3 0).service.fwStaged = some (firmware true 9) ∧ (with_ [(ob 0x5820 3, 0)] (inRun (slots0 3 0))).nat (ob 0x5820 3) ≤ run0.beat :=
  ⟨⟨writesAct_of (serverFree_of (by decide +kernel)) (by decide +kernel), by decide +kernel⟩, by decide +kernel, by decide +kernel, by decide +kernel, by decide +kernel, by decide +kernel,
    ⟨serverFree_of (by decide +kernel), by decide +kernel⟩, by decide +kernel⟩

/-- A migration of region 3 to the hot spare 9, in its stages. -/
def migration0 (started copied switched : Bool) : Migration := { Migration.make 3 9 false true 0 with started := started, copied := copied, switched := switched }

def migrating (m : Migration) : State := { R with service := { R.service with migration := some m } }

theorem test_witness_Migrations :
    (WritesAct R .pcie ∧ R.regions[(3 : Fin 10)].role ≤ 1 ∧ R.service.exhausted = false ∧ (R.regionOf 2).isSome = true ∧ R.service.migration = none ∧ R.crust.single = none)
    ∧ (migration0 false false false).started = false ∧ (migration0 false false false).checkerRole = false
    ∧ ((migrating (migration0 false false false)).advance 10000000000).beatReached ((migration0 false false false).decided + ((migrating (migration0 false false false)).advance 10000000000).changeLead) = true
    ∧ (migration0 true false false).target = some 9 ∧ MemoriesCanonical (migrating (migration0 true false false)) ∧ ((9 : Fin 10) ≠ 3)
    ∧ ((9 : Fin 10) ≠ 3 ∧ (7 : Fin 10) ≠ 3 ∧ R.regions[(8 : Fin 10)].role = 1)
    ∧ (migration0 true true true).switched = true ∧ ((migrating (migration0 true true true)).service.moves.any fun v => v.region == (migration0 true true true).region) = false
    ∧ (migrating (migration0 true true true)).service.migrations = [] ∧ (Migration.make 3 9 true true 0).checkerRole = true :=
  ⟨⟨writesAct_of (serverFree_of (by decide +kernel)) (by decide +kernel), by decide +kernel⟩, by decide +kernel, by decide +kernel, by decide +kernel, by decide +kernel, rfl, by decide +kernel⟩

/-- A migration of the checker region 8, whose copy fails. -/
theorem test_witness_CheckerMigration :
    let m : Migration := { Migration.make 8 9 true true 0 with started := true }
    (migrating m).service.migration = some m ∧ m.copied = false ∧ m.checkerRole = true ∧ (migrating m).regions[m.region].role = 1 ∧ (migrating m).service.migrations = [] := by decide +kernel

theorem test_witness_BlockSwaps :
    let s : State := { R with service := { R.service with swaps := [⟨3, 4, 16, 0, false⟩] } }
    (s.service.swaps.find? fun x => x.region == 3 && x.block == 4) = some ⟨3, 4, 16, 0, false⟩ ∧ (16 : Fin 18) ≠ 4 ∧ (s.block 3 16).role = 1
      ∧ (s.advance 10000000000).beatReached (0 + (s.advance 10000000000).changeLead) = true := by decide +kernel

/-- A domain that is powering up or shutting down. -/
def domainAt (d : Fin 72) (x : PDomain) : State := { R with power := { R.power with domains := upd R.power.domains d fun _ => x } }

theorem test_witness_PowerDomains :
    (WritesAct R .pcie ∧ domainAllows 61 0 = true ∧ ChecksPass R 5 (ob 0x2110 62) (.int 0) ∧ launchDomain 61 = false ∧ (domainChildren 61).all (fun c => R.nat (ob 0x2110 (c.val + 1)) == 0) = true)
    ∧ (launchDomain 63 = true ∧ domainAllows 63 2 = true ∧ ChecksPass R 5 (ob 0x2110 64) (.int 2))
    ∧ ((domainAt 61 { R.power.domains[(61 : Fin 72)] with state := 0 }).advance 5).domainWant 61 = 2 ∧ (domainAt 61 { R.power.domains[(61 : Fin 72)] with state := 0 }).parentOn 61 = true
    ∧ ((with_ [(ob 0x2110 62, 0)] R).advance 5).domainWant 61 = 0 ∧ (with_ [(ob 0x2110 62, 0)] R).childrenDown 61 = true ∧ R.power.domains[(61 : Fin 72)].state = 2
    ∧ R.regions[(3 : Fin 10)].memMap = [] ∧ ((idxs 18).all fun b => (R.block 3 b).mapQueue.isEmpty) = true ∧ R.service.swaps = [] :=
  ⟨⟨writesAct_of (serverFree_of (by decide +kernel)) (by decide +kernel), by decide +kernel, checksPass_of (by decide +kernel), by decide +kernel⟩,
    ⟨by decide +kernel, by decide +kernel, checksPass_of (by decide +kernel)⟩, by decide +kernel⟩

theorem test_witness_PowerDomainEnds :
    let down := with_ [(ob 0x2110 62, 0)] (domainAt 61 { R.power.domains[(61 : Fin 72)] with state := 3, target := 0 })
    let up := domainAt 61 { R.power.domains[(61 : Fin 72)] with state := 1, target := 2, since := 0 }
    down.power.domains[(61 : Fin 72)].state = 3 ∧ down.power.domains[(61 : Fin 72)].target = (down.advance 5).domainWant 61 ∧ up.power.domains[(61 : Fin 72)].state = 1
      ∧ (up.advance 5).domainWant 61 = 2 ∧ 0 + 10 * upTime 61 up.power.domains[(61 : Fin 72)].fromOff ≤ (up.advance 100000000000).now := by decide +kernel

theorem test_witness_Monitors :
    R.launch.run = none ∧ (inRun R).launch.run = some run0 ∧ run0.paused = false ∧ run0.pace = false ∧ (inRun R).power.stepBeat ≠ some run0.beat ∧ run0.beat % max 1 (R.nat (ob 0x2100 0x0B)) = 0 ∧ R.power.excluded = [] ∧ R.power.tripped = false
    ∧ (∀ r : Fin 10, R.regions[r].hotClassL = false ∧ R.regions[r].over110 = false) ∧ (inRun R).nat (ob 0x2100 0x0A) < 65535 ∧ (inRun R).power.capSince = none
    ∧ 100 * 0 < 95 * (inRun R).nat (ob 0x2100 0x0A) ∧ pairAgeing 9800 10000 = some 200 ∧ pairAgeing 9200 10000 = some 800 := by decide +kernel

/-! ## Hypotheses that are met: motion, field ports, the Crust -/

/-- Axis 2 in motion: enabled by the Crust, in RUN, with one due command record; input converter 4 in a conversion. -/
def cmd0 : CmdRecord := { axis := 2, enable := true, legs := 3, dutyA := 30000, dutyB := 100, dutyC := 5, reserved := 0 }

def moving (c : CmdRecord) : State :=
  with_ [(crustAxis 2 1, 1), (ob 0x4012 0x0A, 2), (ob 0x4012 0x0C, 24)]
    { inRun R with
      crust := { R.crust with state := .run }
      motion := { R.motion with axes := upd R.motion.axes 2 (fun a => { a with queued := [(49990, c)] }), adcs := upd R.motion.adcs 4 fun x => { x with started := some 3 } } }

theorem test_witness_SamplesEncodersAndCurrents :
    R.motion.adcs[(4 : Fin 32)].started = none ∧ (moving cmd0).motion.adcs[(4 : Fin 32)].started = some 3 ∧ (moving cmd0).nat (ob (0x4010 + 2) 0x0A) = 2
      ∧ (0 : Int).natAbs ≤ (moving cmd0).nat (ob (0x4820 + 2) 9) ∧ (moving cmd0).nat (ob (0x4820 + 2) 9) < (2000000000 : Int).natAbs ∧ (moving cmd0).nat (ob 0x4870 5) = 1 := by
  decide +kernel

theorem test_witness_CarrierUpdatesKeepTheCrustLimits :
    (∀ e ∈ (moving cmd0).motion.axes[(2 : Fin 16)].queued, ((moving cmd0).advance 50000).now < e.1 + 20)
    ∧ ((moving cmd0).motion.axes[(2 : Fin 16)].queued.filter fun e => decide (e.1 + 20 ≤ ((moving cmd0).advance 100000).now)).getLast? = some (49990, cmd0)
    ∧ ({ cmd0 with enable := false } : CmdRecord).enable = false
    ∧ ((moving cmd0).advance 50000).updatePoint 2 = true ∧ ((moving cmd0).advance 100000).updatePoint 2 = true ∧ ((moving cmd0).advance 100000).carrierAt 2 = some 0 ∧ ((moving cmd0).advance 30).updatePoint 2 = false
    ∧ (moving cmd0).effective 2 = true ∧ (moving cmd0).nat (ob 0x4878 9) = 0 ∧ (moving cmd0).nat (ob (0x4820 + 2) 2) ≤ (moving cmd0).nat (ob (0x4820 + 2) 3)
    ∧ (with_ [(ob 0x4822 2, 10), (ob 0x4822 3, 40000), (ob 0x4822 4, 30000)] (moving cmd0)).nat (ob (0x4820 + 2) 2) ≤ cmd0.dutyA
    ∧ cmd0.dutyA ≤ (with_ [(ob 0x4822 2, 10), (ob 0x4822 3, 40000), (ob 0x4822 4, 30000)] (moving cmd0)).motion.axes[(2 : Fin 16)].prevA
        + (with_ [(ob 0x4822 2, 10), (ob 0x4822 3, 40000), (ob 0x4822 4, 30000)] (moving cmd0)).nat (ob (0x4820 + 2) 4) := by decide +kernel

/-- Input 3 a trigger source with a filter of 1 µs; input 9 with a chatter limit of 2 edges in 100 ms and a stuck time of 50 ms. -/
def inputs0 (x : Input → Input) : State :=
  with_ [(ob 0x4050 4, 2), (ob 0x4050 10, 2 * 2 ^ 16 + 100 * 2 ^ 24 + 5 * 2 ^ 36 + 50 * 2 ^ 48)] { R with motion := { R.motion with inputs := upd R.motion.inputs 9 x } }

theorem test_witness_DigitalInputsFollowTheirEdges :
    let s := inputs0 id
    let c := inputs0 fun x => { x with chatter := true, rawAt := 5 }
    let a := inputs0 fun x => { x with activeSince := some 7 }
    let e := inputs0 fun x => { x with edges := [1, 2] }
    let cfg := s.nat (ob 0x4050 (9 + 1))
    (c.motion.inputs[(9 : Fin 32)].chatter = true ∧ c.motion.inputs[(9 : Fin 32)].rawAt + bits cfg 47 36 * 1000000 ≤ (c.advance 6000000).now)
    ∧ (s.motion.inputs[(9 : Fin 32)].chatter = false ∧ true ≠ s.motion.inputs[(9 : Fin 32)].level ∧ s.motion.inputs[(9 : Fin 32)].stuck = false ∧ s.motion.inputs[(9 : Fin 32)].edges.length + 1 ≤ bits cfg 23 16)
    ∧ (true ≠ s.motion.inputs[(3 : Fin 32)].level ∧ bit (s.nat (ob 0x4050 (3 + 1))) 1 = true ∧ true ≠ bit (s.nat (ob 0x4050 (3 + 1))) 0 ∧ s.motion.lastTrigger[(3 : Fin 24)] = none
      ∧ s.motion.inputs[(3 : Fin 32)].chatter = false ∧ s.motion.inputs[(3 : Fin 32)].stuck = false)
    ∧ (bits cfg 23 16 ≠ 0 ∧ e.motion.inputs[(9 : Fin 32)].chatter = false ∧ true ≠ e.motion.inputs[(9 : Fin 32)].level
      ∧ bits cfg 23 16 < ((e.motion.inputs[(9 : Fin 32)].edges.filter fun x => decide (100 < x + bits cfg 35 24 * 1000000)) ++ [100]).length)
    ∧ (a.motion.inputs[(9 : Fin 32)].activeSince = some 7 ∧ a.motion.inputs[(9 : Fin 32)].chatter = false ∧ a.motion.inputs[(9 : Fin 32)].stuck = false ∧ bits cfg 63 48 ≠ 0
      ∧ 7 + bits cfg 63 48 * 1000000 < (a.advance 50000008).now ∧ (a.advance 50000007).now ≤ 7 + bits cfg 63 48 * 1000000) := by decide +kernel

/-- Supply 1 in a state with times of earlier switch-offs, with its Crust limit 2, while the outputs may drive. -/
def supply0 (st cmd : Nat) (offs : List Nat) (latched : Option Nat) : State :=
  with_ [(ob 0x4830 4, 2)] { R with crust := { R.crust with state := .run }, motion := { R.motion with supplies := upd R.motion.supplies 1 fun x => { x with state := st, command := cmd, offs := offs, offAt := 5, latched := latched } } }

def output0 : State := with_ [(ob 0x4830 1, 8)] { R with crust := { R.crust with state := .run }, motion := { R.motion with outputs := upd R.motion.outputs 3 fun x => { x with thermal := true, asked := true } } }

theorem test_witness_SuppliesAndDigitalOutputs :
    (WritesAct (supply0 0 0 [] none) .pcie ∧ 2 ≤ (supply0 0 0 [] none).nat (ob 0x4830 (3 + 1)) % 4 ∧ (supply0 0 0 [] none).crust.state.drives = true ∧ (supply0 0 0 [] none).power.fieldOk = true
      ∧ (∀ p, (supply0 0 0 [] none).crust.active = some p → get? p.values (ob 0x4060 (1 + 1)) = none) ∧ (supply0 0 0 [] none).motion.supplies[(1 : Fin 16)].state = 0
      ∧ (supply0 5 0 [] none).motion.supplies[(1 : Fin 16)].state = 5 ∧ (supply0 2 2 [] none).motion.supplies[(1 : Fin 16)].state ≤ 2)
    ∧ (((supply0 1 1 [1, 2, 3] none).motion.supplies[(1 : Fin 16)].offs.filter fun o => decide (((supply0 1 1 [1, 2, 3] none).advance 9).now < 10000000000 + o)) ++ [9]).length = 4
    ∧ (((supply0 2 2 [1] none).motion.supplies[(1 : Fin 16)].offs.filter fun o => decide (((supply0 2 2 [1] none).advance 9).now < 10000000000 + o)) ++ [9]).length < 4
    ∧ 100000000 + (supply0 4 1 [1] none).motion.supplies[(1 : Fin 16)].offAt ≤ ((supply0 4 1 [1] none).advance 100000005).now
    ∧ ((supply0 4 1 [1] none).advance 100000004).now < 100000000 + (supply0 4 1 [1] none).motion.supplies[(1 : Fin 16)].offAt
    ∧ (supply0 3 1 [] (some 0)).motion.supplies[(1 : Fin 16)].latched = some 0 ∧ (supply0 3 1 [] none).motion.supplies[(1 : Fin 16)].latched = none
    ∧ output0.motion.outputs[(3 : Fin 32)].thermal = true ∧ output0.motion.outputs[(3 : Fin 32)].waiting = false ∧ bit (output0.nat (ob 0x4830 1)) 3 = true ∧ output0.crust.state.drives = true
    ∧ output0.crust.hwOff = false ∧ output0.power.fieldOk = true :=
  ⟨⟨writesAct_of (serverFree_of (by decide +kernel)) (by decide +kernel), by decide +kernel, by decide +kernel, by decide +kernel, by decide +kernel, by decide +kernel⟩,
    by decide +kernel⟩

/-- A latched STOP whose condition is gone, with reset input 3; and the limits of the Crust's tests at level 2. -/
def latched0 : State := with_ [(ob 0x4840 1, 3)] { R with crust := { R.crust with state := .stop, before := .run, latches := [⟨7, 2, 0xFFFF, 0, 0⟩] } }

def tested : State := { R with launch := { R.launch with image := some { im0 with starterCrcs := [7] } } }

theorem test_witness_CrustFaultsTestsAndResets :
    ({ R.crust with hwOff := true } : Crust).hwOff = true ∧ R.crust.hwOff = false ∧ R.crust.single = none
    ∧ (let s : State := { R with crust := { R.crust with single := some ⟨5, 1, 2⟩ } }; s.crust.single = some ⟨5, 1, 2⟩ ∧ 5 + 1000000 * s.nat (ob 0x4878 5) ≤ (s.advance 5000000000).now ∧ s.nat (ob 0x4870 3) = 2)
    ∧ R.nat (ob 0x4870 7) = 2 ∧ R.crust.compMissed ≠ 2
    ∧ tested.launch.image = some { im0 with starterCrcs := [7] } ∧ ([7] : List Nat)[0]? = some 7 ∧ tested.testable 3 4 = true ∧ tested.libraryAccepted { im0 with starterCrcs := [7] } = true
    ∧ R.nat (ob 0x4840 1) = 0xFF ∧ latched0.nat (ob 0x4840 1) ≠ 0xFF ∧ latched0.launch.run = none ∧ (inRun latched0).launch.run.isSome = true ∧ latched0.crust.state = .stop
    ∧ hasLevel2 (latched0.crust.latches.filter fun l => (latched0.advance 5).causePresent l) = false := by decide +kernel

/-- A parameter set that is valid, with its activation count in 0x4810:2. -/
def params0 (launchBound : Bool) : ParamSet := { values := [], map := parseMap [], seq := 1, imageBound := false, launchBound := launchBound, imageHash := [], hash := [], keyAction := (0, 0, []) }

def valid0 (launchBound : Bool) : State := with_ [(ob 0x4810 2, 50)] { R with crust := { R.crust with setState := 2, valid := some (params0 launchBound) } }

/-- A staged set of no bytes is refused with reason 1. -/
theorem test_witness_ParameterSetsAreValidatedAndActivated :
    WritesAct R .pcie ∧ ({ R.crust with setState := 1 } : Crust).setState = 1 ∧ (R.advance 5).validateSet (R.raw (ob 0x4810 1)) = .inl 1 ∧ R.crust.setState ≠ 1 ∧ R.crust.valid = none
      ∧ (valid0 false).crust.valid = some (params0 false) ∧ (valid0 false).nat (ob 0x4810 2) ≤ ((valid0 false).advance 50).now
      ∧ ((valid0 false).advance 49).now < (valid0 false).nat (ob 0x4810 2) ∧ (valid0 true).crust.valid = some (params0 true) ∧ (params0 true).launchBound = true :=
  ⟨writesAct_of (serverFree_of (by decide +kernel)) (by decide +kernel), by decide +kernel⟩

/-- SRDO 1 as a transmit and as a receive SRDO, with a cycle of 50 ms and a gap of 20 ms, every controller enabled. -/
def srdo0 (direction : Int) : State := with_ [(ob 0x1301 1, direction), (ob 0x1301 2, 50), (ob 0x1301 3, 20), (canObj 0 1, 1), (canObj 1 1, 1), (canObj 2 1, 1), (canObj 3 1, 1)] R

theorem test_witness_SrdosCarryTheirInverse :
    (srdo0 1).nat (ob (0x1301 + 0) 1) = 1 ∧ (∀ c : Fin 4, (srdo0 1).canSends c = true) ∧ (srdo0 2).nat (ob (0x1301 + 0) 1) = 2
      ∧ ([250] : Bytes) = ([5] : Bytes).map (fun b => ~~~b) ∧ ([251] : Bytes) ≠ ([5] : Bytes).map (fun b => ~~~b) ∧ 20000 ≤ 1000 * (srdo0 2).nat (ob (0x1301 + 0) 3)
      ∧ 1000 * (srdo0 2).nat (ob (0x1301 + 0) 3) < 20001 ∧ bit (((srdo0 2).srdoField 0 [5] (ob 0x4840 2)).getD 0) 0 = false ∧ bit (((srdo0 2).srdoField 0 [5] (ob 0x4840 2)).getD 0) 1 = false
      ∧ (srdo0 2).nat (ob 0x4870 11) = 2 ∧ (srdo0 2).nat (ob (0x1301 + 0) 2) ≠ 0
      ∧ ((srdo0 2).advance 49999999).now < (srdo0 2).crust.srdos[(0 : Fin 8)].lastValid + (srdo0 2).nat (ob (0x1301 + 0) 2) * 1000000
      ∧ (srdo0 2).crust.srdos[(0 : Fin 8)].lastValid + (srdo0 2).nat (ob (0x1301 + 0) 2) * 1000000 ≤ ((srdo0 2).advance 50000000).now := by decide +kernel

/-! ## Hypotheses that are met: time, CAN and TTCAN -/

/-- Domain 0 on port 0, active in state 3 with 20 stamps 125 ms apart; domain 1 enabled on port 3. -/
def timed (f : Domain → Domain) (g : Domain → Domain) (h : Time → Time) : State :=
  with_ [(ptpObj 1 1, 1)]
    { R with
      service := { R.service with bootState := 1 }
      time := h { R.time with
        active := some 0
        sync := 2
        weft := 1000000
        domains := upd (upd R.time.domains 0 fun x => f { x with state := 3, run16 := 20, stamps := (List.range 20).map (fun i => (5000000000 - 125000000 * i - 10, 5000000000 - 125000000 * i)), lastSync := some 900000, lastAnnounce := some 5, heard := true, port := 0 }) 1 g } }

/-- A Sync of domain 0 on port 0, received 310 ns after its origin by the local count. -/
def sync0 (twoStep : Bool) (offset : Nat) : SyncMsg := { domain := 0, port := 0, twoStep := twoStep, origin := 5125000000 - offset, correction := 0, rxLocal := 5125000000 }

theorem test_witness_SyncMessagesSteerTheirDomain :
    let s := timed id id id
    let x := s.time.domains[(0 : Fin 2)]
    (s.ptpPort 0 0 = true ∧ s.ptpPort 1 7 = false ∧ (sync0 true 310).twoStep = true ∧ (sync0 false 310).twoStep = false ∧ x.state ≠ 4 ∧ x.pathDelay = 0 ∧ s.time.holdoverAt = none ∧ s.time.active = some 0)
    ∧ s.time.hold = 0 ∧ (timed id id fun x => { x with hold := 7 }).time.hold ≠ 0
    ∧ (310 ≤ s.nat (ob 0x2200 9) ∧ s.nat (ob 0x2200 9) < 5000 ∧ s.nat (ob 0x2200 0x0C) ≤ 64 ∧ (s.advance 6000000000).time.clampedTicks = s.time.clampTold
      ∧ x.stamps[min (s.nat (ob 0x2200 0x0C)) x.stamps.length - 1]? = some (5000000000 - 125000000 * 7 - 10, 5000000000 - 125000000 * 7) ∧ 5000000000 - 125000000 * 7 < (sync0 false 310).rxLocal)
    ∧ s.launching = false ∧ (inRun s).launching = true
    ∧ (let u := timed (fun x => { x with run16 := 3 }) id fun x => { x with active := none, sync := 1 }
       u.time.active = none ∧ u.time.steering = none ∧ u.time.domains[(0 : Fin 2)].run16 < 15 ∧ u.time.preferWait = false)
    ∧ 15 ≤ x.run16 ∧ 0 ≤ s.nat (ob 0x2200 8) ∧ x.waiting = none ∧ s.time.sync = 2 ∧ s.nat (ob 0x2200 7) = 0
    ∧ (let u := timed (fun x => { x with waiting := some (sync0 true 310) }) id fun x => { x with hold := 7 }
       u.time.domains[(0 : Fin 2)].waiting = some (sync0 true 310) ∧ u.time.hold ≠ 0)
    ∧ (let u := timed (fun x => { x with state := 4 }) id id
       u.time.domains[(0 : Fin 2)].state = 4 ∧ u.time.domains[(0 : Fin 2)].recovering = false)
    ∧ 255 ≤ s.nat (ptpObj 0 0x10) ∧ (with_ [(ptpObj 0 0x10, 100)] s).nat (ptpObj 0 0x10) < 255 ∧ s.eligible (otherDomain 0) = false := by decide +kernel

theorem test_witness_LostDomainsSwitchOrHoldOver :
    let s := timed id id id
    let e := timed id (fun x => { x with state := 3, offsets := List.replicate 16 5, heard := true, port := 3 }) id
    let h := timed id id fun x => { x with active := none, sync := 4, holdoverAt := some 5 }
    ((s.advance 6000000).announceOverdue 0 = false ∧ (s.advance 6000000).syncOverdue 0 = false ∧ (s.advance 6000000000).announceOverdue 0 = true ∧ (s.advance 6000000000).syncOverdue 0 = true)
    ∧ s.time.domains[(0 : Fin 2)].state ≠ 4 ∧ s.time.active = some 0 ∧ s.eligible (otherDomain 0) = false ∧ e.eligible (otherDomain 0) = true
    ∧ (∀ p ∈ e.time.domains[otherDomain 0].stamps, p.2 ≠ (e.advance 6000000000).now)
    ∧ (s.time.hold = 0 ∧ (timed id id fun x => { x with hold := 7 }).time.hold ≠ 0 ∧ (s.advance 5).time.clampedTicks = s.time.clampTold)
    ∧ (h.time.holdoverAt = some 5 ∧ h.time.holdoverTold = false ∧ s.time.holdoverAt = none)
    ∧ min (((h.advance 6000000).now - 5) * h.nat (ob 0x2200 0x17) / 100000000) (2 ^ 32 - 1) ≤ h.nat (ob 0x2200 0x19)
    ∧ h.nat (ob 0x2200 0x19) < min (((h.advance 60000000000).now - 5) * h.nat (ob 0x2200 0x17) / 100000000) (2 ^ 32 - 1) := by decide +kernel

/-- Port 2 with priority 7 paused. -/
def heldPort (s : State) : State := { s with net := { s.net with ports := upd s.net.ports 2 fun x => { x with paused := [(7, 0)] } } }

theorem test_witness_TransmissionsAndTriggers :
    let s := timed id id id
    let p := with_ [(ptpObj 0 5, 7)] s
    let d := timed (fun x => { x with t1 := some 55 }) id id
    let g := with_ [(ob 0x2213 1, 1)] (inRun s)
    ((R.advance 5).transmitDomain 2 = none ∧ s.time.sync = 2 ∧ s.nat (ob 0x2200 7) = 0 ∧ s.time.active = some 0 ∧ p.ptpPort 0 2 = true ∧ p.time.domains[(0 : Fin 2)].port ≠ 2)
    ∧ R.domainOn 1 = false ∧ s.domainOn 0 = true ∧ s.time.domains[(0 : Fin 2)].t1 = none ∧ d.time.domains[(0 : Fin 2)].t1 = some 55
    ∧ (with_ [(ptpObj 0 2, 1)] d).nat (ptpObj 0 2) ≠ 0 ∧ (with_ [(ptpObj 0 2, 0)] d).nat (ptpObj 0 2) = 0
    ∧ d.time.domains[(0 : Fin 2)].stamps.head? = some (4999999990, 5000000000)
    ∧ s.launch.run = none ∧ g.launch.run = some run0 ∧ run0.paused = false ∧ g.channelValue 3 1 ≠ 0 ∧ (∀ n : Fin 24, g.streamOf 3 n = false)
    ∧ (∀ p : Fin 8, s.net.ports[p].holds 7 = false) ∧ (heldPort s).net.ports[(2 : Fin 8)].holds 7 = true := by decide +kernel

/-- Channel 3 periodic every 1,000 ns from the launch count on; channel 4 follows an event source; channel 5 linked to channel 4 with every second edge, 8 ns after it. -/
def channels (f : Time → Time) : State :=
  let s := with_ [(ob 0x2213 1, 1), (ob 0x2213 3, 65536000), (ob 0x2214 1, 2), (ob 0x2215 1, 3), (ob 0x2215 4, 4), (ob 0x2215 5, 2), (ob 0x2215 7, 8)] (inRun R)
  { s with time := f { s.time with weft := run0.start + 2000 } }

theorem test_witness_EdgesFallOnTheirGrid :
    let s := channels id
    let e := channels fun x => { x with dueEdges := upd x.dueEdges 4 fun _ => [run0.start + 1990] }
    (s.edgeDue 3 = true ∧ (channels fun x => { x with weft := x.weft + 4 }).edgeDue 3 = false ∧ (channels fun x => { x with lastEdge := upd x.lastEdge 3 fun _ => some (run0.start + 2000) }).edgeDue 3 = false)
    ∧ (e.edgeDue 4 = true ∧ s.edgeDue 4 = false ∧ e.channelValue 4 1 = 2 ∧ e.channelValue 5 1 = 3 ∧ e.channelValue 5 4 = 4 ∧ e.time.edges[(4 : Fin 64)] % max 1 (e.channelValue 5 5) = e.channelValue 5 6)
    ∧ s.launch.run = some run0 ∧ run0.paused = false ∧ (∀ n : Fin 24, s.streamOf 3 n = false) ∧ (∀ n : Fin 24, s.streamOf 4 n = false) := by decide +kernel

/-- Controllers 1 and 2 enabled, with one frame waiting in controller 2. -/
def canUp (f : CanCtl → CanCtl) : State :=
  with_ [(canObj 2 1, 1), (canObj 1 1, 1)]
    { R with service := { R.service with bootState := 1 }, can := upd R.can 2 fun x => f { x with tx := [⟨3, 0x55, [9], 0, false⟩] } }

def data0 (remote : Bool) : CanFrame := ⟨0x123, false, false, remote, [1, 2]⟩

theorem test_witness_CanControllersReceiveSendAndRecover :
    let s := canUp id
    (R.canLive 3 = false ∧ R.canSends 3 = false ∧ s.canLive 2 = true ∧ s.canSends 2 = true ∧ s.canLive 1 = true ∧ (data0 true).remote = true ∧ (data0 false).remote = false)
    ∧ (s.can[(2 : Fin 4)].rec_ = 0 ∧ s.can[(2 : Fin 4)].fifo.length < 64 ∧ s.can[(2 : Fin 4)].mode = 1)
    ∧ ((canUp fun x => { x with fifo := List.replicate 64 (3, data0 false) }).can[(2 : Fin 4)].fifo.length = 64)
    ∧ ((canUp fun x => { x with rec_ := 127 }).can[(2 : Fin 4)].rec_ = 127)
    ∧ (s.underWay 2 = some ⟨3, 0x55, [9], 0, false⟩ ∧ s.can[(2 : Fin 4)].tec ≤ 127 ∧ 0 + 1 ≤ s.nat (canObj 2 0x0E) ∧ (with_ [(canObj 2 0x0E, 0)] s).nat (canObj 2 0x0E) < 0 + 1)
    ∧ (s.can[(2 : Fin 4)].state = 1 ∧ (canUp fun x => { x with state := 3 }).can[(2 : Fin 4)].state = 3 ∧ (canUp fun x => { x with state := 4 }).can[(2 : Fin 4)].state = 4)
    ∧ (let l := with_ [(canObj 2 0x0A, 0x80), (canObj 2 0x0C, 1)] s
       l.switchesRate 2 ⟨3, 0x55, [9], 0, false⟩ = true ∧ l.tdcOn 2 = true ∧ (with_ [(canObj 2 0x0C, 0)] s).switchesRate 2 ⟨3, 0x55, [9], 0, false⟩ = false ∧ l.can[(2 : Fin 4)].tec + 8 ≤ 127)
    ∧ ((with_ [(ob 0x2321 1, 2)] s).nat (ob (0x2320 + 1) 1) ≠ 0 ∧ s.tt[(1 : Fin 2)].level ≠ 3) := by decide +kernel

theorem test_witness_CanRecovery :
    (WritesAct (canUp fun x => { x with state := 3 }) .pcie ∧ ChecksPass (canUp fun x => { x with state := 3 }) 5 (ob (0x2310 + 2) 0x0F) (.int 1))
    ∧ (WritesAct (canUp fun x => { x with state := 4 }) .pcie ∧ ChecksPass (canUp fun x => { x with state := 4 }) 5 (ob (0x2310 + 2) 0x0F) (.int 1))
    ∧ (let s : State := { canUp id with tt := upd R.tt 1 fun x => { x with level := 3, causeGone := true } }
       s.tt[(1 : Fin 2)].level = 3 ∧ s.tt[(1 : Fin 2)].causeGone = true ∧ s.can[(1 : Fin 4)].state < 3 ∧ ChecksPass s 5 (ob (0x2310 + 1) 0x0F) (.int 1)) :=
  ⟨⟨writesAct_of (serverFree_of (by decide +kernel)) (by decide +kernel), checksPass_of (by decide +kernel)⟩,
    ⟨writesAct_of (serverFree_of (by decide +kernel)) (by decide +kernel), checksPass_of (by decide +kernel)⟩, by decide +kernel, by decide +kernel, by decide +kernel,
    checksPass_of (by decide +kernel)⟩

/-- An entry of the matrix that acts in every cycle. -/
def entry0 (kind buffer : Nat) : BitVec 64 := BitVec.ofNat 64 (buffer * 2 ^ 42 + kind * 2 ^ 29)

/-- TTCAN of controller 1 at level 2 of the standard, four cycles, 1000 NTU, with one entry of each kind, and a frame waiting in its buffer 5. -/
def tt0 (f : TtCan → TtCan) : State :=
  with_ [(canObj 1 1, 1), (ob 0x2321 1, 2), (ob 0x2321 0x0A, 2), (ob 0x2321 4, 1000)]
    { R with
      service := { R.service with bootState := 1 }
      can := upd R.can 1 fun x => { x with tx := [⟨5, 0x77, [1], 0, false⟩] }
      tt := upd R.tt 1 fun x => f { x with sawRef := true, matrix := [entry0 1 5, entry0 2 5, entry0 3 5, entry0 4 5, entry0 5 0, entry0 6 9, entry0 7 0, entry0 1 6] } }

def ref0 (gap : Bool) (priority : Nat) : RefMsg := { priority := priority, cycle := 6, refMark := 600000, disc := false, gap := gap }

theorem test_witness_TtcanCyclesReferencesAndLevels :
    let s := tt0 id
    let at_ := fun (f : TtCan → TtCan) => (tt0 f).tt[(1 : Fin 2)]
    (R.ttOn 1 = false ∧ s.ttOn 1 = true ∧ s.canSends (ttCtl 1) = true ∧ s.canLive (ttCtl 1) = true)
    ∧ ((at_ id).level = 0 ∧ (at_ id).sawRef = true ∧ (at_ id).master ≠ 1 ∧ (at_ id).leaveS3 = false ∧ ((at_ id).cycle + 1) % 2 ^ s.nat (ob (0x2320 + 1) 0x0A) ≠ 0
      ∧ ((at_ fun x => { x with cycle := 3 }).cycle + 1) % 2 ^ s.nat (ob (0x2320 + 1) 0x0A) = 0 ∧ (at_ fun x => { x with master := 1 }).master = 1)
    ∧ ((at_ fun x => { x with sawRef := false, missing := 1 }).sawRef = false ∧ (at_ fun x => { x with level := 2, goodRefs := 1 }).level = 2
      ∧ (at_ fun x => { x with level := 1, cleanCycles := 3 }).erred = false ∧ (at_ fun x => { x with level := 3, leaveS3 := true }).leaveS3 = true)
    ∧ ((ref0 true 7).gap = true ∧ s.nat (ob (0x2320 + 1) 7) % 8 ≤ 7 ∧ (at_ fun x => { x with priority := 7 }).priority = (ref0 false 7).priority % 8 ∧ (at_ id).master = 0
      ∧ s.nat (ob (0x2320 + 1) 2) = 0 ∧ (with_ [(ob 0x2321 7, 0x0F)] s).nat (ob (0x2320 + 1) 7) % 8 = 7 ∧ (with_ [(ob 0x2321 2, 1)] s).nat (ob (0x2320 + 1) 2) = 1)
    ∧ ((s.advance 5).entryNow 1 6 [7] = some (entry0 7 0) ∧ (at_ fun x => { x with sawRef := false, missing := 1 }).missing = 1)
    ∧ ((s.advance 5).onCycleGrid 1 = true ∧ ((tt0 fun x => { x with master := 1 }).advance 5).onCycleGrid 1 = false ∧ ((tt0 fun x => { x with master := 1 }).advance 0).onCycleGrid 1 = true)
    ∧ (let o := with_ [(ob 0x2321 2, 1), (ob 0x2321 8, 40)] (tt0 fun x => { x with sawRef := false, started := 5 })
       (o.advance 4).now < 5 + 40 * o.nat (ob (0x2320 + 1) 3) ∧ 5 + 40 * o.nat (ob (0x2320 + 1) 3) ≤ (o.advance 40000000).now)
    ∧ (let a := with_ [(ob 0x2321 9, 3)] (tt0 id)
       (a.advance 5).now < 0 + 1000000 * a.nat (ob (0x2320 + 1) 9) ∧ 0 + 1000000 * a.nat (ob (0x2320 + 1) 9) ≤ (a.advance 40000000).now) := by decide +kernel

theorem test_witness_TtcanWindowsFollowTheMatrix :
    let s := tt0 id
    let u := s.advance 5
    let x := s.tt[(1 : Fin 2)]
    (u.entryNow 1 0 [1] = some (entry0 1 5) ∧ u.entryNow 1 7 [1] = some (entry0 1 6) ∧ u.entryNow 1 1 [2] = some (entry0 2 5) ∧ u.entryNow 1 2 [3] = some (entry0 3 5)
      ∧ u.entryNow 1 3 [4] = some (entry0 4 5) ∧ u.entryNow 1 4 [5] = some (entry0 5 0) ∧ u.entryNow 1 5 [6] = some (entry0 6 9) ∧ u.entryNow 1 9 [1] = none ∧ u.entryNow 1 1 [1] = none)
    ∧ x.level < 2 ∧ s.ttOn 1 = true ∧ s.canSends (ttCtl 1) = true
    ∧ (s.advance 0).now ≤ (s.advance 0).ntuCount 1 (entMark (entry0 1 5) + s.nat (ob (0x2320 + 1) 5)) ∧ (s.advance 99999999).ntuCount 1 (entMark (entry0 1 5) + s.nat (ob (0x2320 + 1) 5)) < (s.advance 99999999).now
    ∧ (s.can[ttCtl 1].tx.any fun b => b.index == entBuffer (entry0 1 5)) = true ∧ (s.can[ttCtl 1].tx.any fun b => b.index == entBuffer (entry0 1 6)) = false
    ∧ (tt0 fun y => { y with merged := true }).tt[(1 : Fin 2)].merged = true ∧ x.merged = false
    ∧ entBuffer (entry0 6 9) ∉ x.received ∧ entBuffer (entry0 6 9) ∈ (tt0 fun y => { y with received := [9] }).tt[(1 : Fin 2)].received := by decide +kernel

/-! ## Hypotheses that are met: network, host queues, PCIe -/

/-- Window 3: region memory from 0x1000 on, 4 KiB, every right, key 77, class I. -/
def window0 (rights : Int) : State :=
  with_ [(winObj 3 1, 1), (winObj 3 2, 1), (winObj 3 3, 0x0200), (winObj 3 4, 4096), (winObj 3 6, rights), (winObj 3 7, 77), (winObj 3 8, 2), (ob 0x2471 1, 1)]
    { R with net := { R.net with pcieUp := true }, dict := { R.dict with active := put R.dict.active (ob 0x2471 6) (.bytes (List.replicate 192 1)) } }

/-- The same machine with its Ethernet controllers off. -/
def dark (s : State) : State := { s with power := { s.power with domains := upd s.power.domains 71 fun x => { x with state := 0 } } }

def rdma0 (key : Nat) : RdmaReq := ⟨5, 1, key, 16, 8, false⟩

theorem test_witness_RemoteAccessesRespectTheirWindow :
    let s := window0 0x0F
    let n := window0 0
    let q := rdma0 77
    let p := s.winPlace false 3 16
    (s.net.qps[q.qp].error = false ∧ q.firstBeforeSwitch = false ∧ s.windowOf false q.key = some 3 ∧ s.windowOf false 0 = none ∧ secondSince (s.net.refusedAt.get 64) (s.advance 5).now = true)
    ∧ (s.winRight false 3 0 = true ∧ s.winRight false 3 1 = true ∧ s.winRight false 3 2 = true ∧ q.offset + q.length ≤ s.winVal false 3 5 ∧ q.offset + 3 ≤ s.winVal false 3 5 ∧ s.winVal false 3 5 < q.offset + 4096
      ∧ p.inside q.length = true ∧ p.inside 3 = true ∧ s.permits (s.winVal false 3 8) p q.length false = true ∧ s.permits (s.winVal false 3 8) p 3 true = true)
    ∧ (s.nat (ob (0x2470 + 1) 1) = 1 ∧ (BitVec.ofNat 32 (9 * 256 + 2 * 16)).toNat / 256 = 9 % 2 ^ 24 ∧ (BitVec.ofNat 32 (9 * 256 + 2 * 16)).toNat / 16 % 16 = 2 % 16 ∧ s.nat (ob (0x2470 + 2) 1) = 0)
    ∧ (n.winRight false 3 0 = false ∧ n.winRight false 3 1 = false ∧ n.winRight false 3 2 = false ∧ n.windowOf false 77 = some 3)
    ∧ (let u : State := { n with net := { n.net with refusedAt := upd n.net.refusedAt 3 fun _ => some 4 } }; secondSince (u.net.refusedAt.get 3) (u.advance 5).now = false)
    ∧ (s.net.pcieUp = true ∧ R.net.pcieUp = false ∧ s.nat (winObj 3 1) ≠ 0 ∧ bit (s.nat (winObj 3 6)) 3 = true ∧ 16 + 3 ≤ s.nat (winObj 3 5) ∧ s.permits (s.nat (winObj 3 8)) p 3 true = true
      ∧ bit (n.nat (winObj 3 6)) 3 = false)
    ∧ (s.portPowered q.port = true ∧ (dark s).portPowered q.port = false ∧ s.net.ports[q.port].holds (s.winPriority q) = false ∧ (heldPort s).net.ports[(2 : Fin 8)].holds 7 = true)
    ∧ (let imm := BitVec.ofNat 32 (9 * 256 + 2 * 16)
       (s.advance 5).ringLate 1 imm = false ∧ imm.toNat / 16 % 16 + 2 < s.ringSize 1 ∧ s.ringSize 1 ≤ (BitVec.ofNat 32 (9 * 256 + 7 * 16)).toNat / 16 % 16 + 2
        ∧ s.net.ports[Fin.ofNat 8 (s.nat (ob (0x2470 + 1) 3))].holds (s.nat (ob 0x2400 9)) = false)
    ∧ ({ R.net.qps[q.qp] with error := true }).error = true := by decide +kernel

/-- Queue pair 9 with its retries used up and a congestion notification at 5; and in error. -/
def pair0 (tries : Nat) (error : Bool) : State := { R with net := { R.net with qps := upd R.net.qps 9 fun y => { y with tries := tries, rnr := tries, lastCnp := some 5, error := error } } }

theorem test_witness_QueuePairsRetryAndRecover :
    (pair0 0 true).net.qps[(9 : Fin 256)].error = true ∧ (pair0 0 false).net.qps[(9 : Fin 256)].error = false
    ∧ 0 + 1 ≤ R.nat (ob 0x2400 3) ∧ 0 + 1 ≤ R.nat (ob 0x2400 5) ∧ R.nat (ob 0x2400 3) < 200 + 1 ∧ R.nat (ob 0x2400 5) < 200 + 1
    ∧ (pair0 0 false).net.qps[(9 : Fin 256)].lastCnp = some 5 ∧ R.net.qps[(9 : Fin 256)].lastCnp = none ∧ (R.advance 55004).now < 55000 + 5 ∧ 55000 + 5 ≤ (R.advance 55005).now
    ∧ WritesAct (pair0 0 true) .pcie :=
  ⟨by decide +kernel, by decide +kernel, by decide +kernel, by decide +kernel, by decide +kernel, by decide +kernel, by decide +kernel, by decide +kernel, by decide +kernel,
    by decide +kernel, writesAct_of (serverFree_of (by decide +kernel)) (by decide +kernel)⟩

/-- Port 1 in a state, with the counts of its retrains and its paused and ignored priorities; the PCIe link with its retrains. -/
def port0 (state : Nat) (retrains : List Nat) (paused ignoring : List (Fin 8 × Nat)) : State :=
  with_ [(ob 0x2400 7, 8)] { R with net := { R.net with ports := upd R.net.ports 1 fun y => { y with state := state, retrains := retrains, paused := paused, ignoring := ignoring } } }

def link0 (held : Bool) (retrains : List Nat) : State := { R with net := { R.net with pcieHeld := held, pcieRetrains := retrains } }

theorem test_witness_PortsAndLinksRetrainAndStayDown :
    (R.portCount ≤ 7 ∧ 1 < (port0 3 [] [] []).portCount ∧ (port0 3 [] [] []).net.ports[(1 : Fin 8)].state = 3 ∧ (port0 4 [] [] []).net.ports[(1 : Fin 8)].state = 4 ∧ (port0 1 [] [] []).net.ports[(1 : Fin 8)].state = 1)
    ∧ ((((port0 3 [1] [] []).net.ports[(1 : Fin 8)].retrains.filter fun r => decide (((port0 3 [1] [] []).advance 10000000000).now < 10000000000 + r)) ++ [10000000000]).length < 3
      ∧ 3 ≤ (((port0 3 [1, 2] [] []).net.ports[(1 : Fin 8)].retrains.filter fun r => decide (((port0 3 [1, 2] [] []).advance 10000000000).now < 10000000000 + r)) ++ [10000000000]).length)
    ∧ (bit (R.nat (ob 0x2400 7)) 3 = false ∧ bit ((port0 3 [] [] []).nat (ob 0x2400 7)) 3 = true ∧ ((port0 3 [] [] [(3, 4)]).net.ports[(1 : Fin 8)].ignoring.any fun e => e.1 == 3) = true)
    ∧ (((3 : Fin 8), 4) ∈ (port0 3 [] [(3, 4)] []).net.ports[(1 : Fin 8)].paused ∧ 4 + 1000000 * R.nat (ob 0x2400 8) ≤ (R.advance 20000000000).now
      ∧ ∀ e ∈ (port0 3 [] [(3, 4)] []).net.ports[(1 : Fin 8)].paused, e.1 = 3 → ((port0 3 [] [(3, 4)] []).advance 5).now < e.2 + 1000000 * (port0 3 [] [(3, 4)] []).nat (ob 0x2400 8))
    ∧ ((link0 true []).net.pcieHeld = true ∧ (link0 false []).net.pcieHeld = false
      ∧ (((link0 false [1, 2]).net.pcieRetrains.filter fun r => decide (((link0 false [1, 2]).advance 9).now < 1000000000 + r)) ++ [9]).length < 4
      ∧ 4 ≤ (((link0 false [1, 2, 3]).net.pcieRetrains.filter fun r => decide (((link0 false [1, 2, 3]).advance 9).now < 1000000000 + r)) ++ [9]).length) := by decide +kernel

/-- Port 1 with a frame of the paused priority 3 waiting. -/
def waitingPort : State := { R with net := { R.net with ports := upd R.net.ports 1 fun y => { y with paused := [(3, 4)], waiting := [.rdma 3 5 0 []] } } }

theorem test_witness_PortsWaitAndNeedPower :
    R.portPowered 1 = true ∧ (dark R).portPowered 1 = false ∧ (with_ [(ob 0x2400 7, 8)] waitingPort).net.ports[(1 : Fin 8)].holds 3 = true
    ∧ (∃ o ∈ (with_ [(ob 0x2400 7, 8)] waitingPort).net.ports[(1 : Fin 8)].waiting, o.priority = 3) ∧ bit ((with_ [(ob 0x2400 7, 8)] waitingPort).nat (ob 0x2400 7)) 3 = true := by decide +kernel

theorem test_witness_PortAndLinkCommands : WritesAct (port0 4 [] [] []) .pcie ∧ WritesAct (link0 true []) .pcie :=
  ⟨writesAct_of (serverFree_of (by decide +kernel)) (by decide +kernel), writesAct_of (serverFree_of (by decide +kernel)) (by decide +kernel)⟩

/-- Queue 2 full, with records that wait since count 7, and with records held back. -/
def queue0 (held : List Bytes) : State :=
  { R with net := { R.net with queues := upd R.net.queues 2 fun y => { y with times := List.replicate 1024 7, producer := 3, consumer := 3, held := held } } }

/-- The same queue with room, and an image that gives it records of 8 bytes in window 3. -/
def queue1 : State :=
  with_ [(ob 0x2462 2, 3)]
    { window0 0x0F with
      net := { (window0 0x0F).net with queues := upd R.net.queues 2 fun y => { y with held := [[1, 2]] } }
      launch := { R.launch with image := some { im0 with recordSizes := [(2, 8)] } } }

theorem test_witness_HostQueuesDrainOrDrop :
    WritesAct (queue0 [[1]]) .pcie ∧ 10 < (queue0 [[1]]).nat (ob (0x2460 + 2) 3) ∧ (queue0 []).net.queues[(2 : Fin 16)].held = [] ∧ R.net.queues[(2 : Fin 16)].times = []
      ∧ (queue0 []).net.queues[(2 : Fin 16)].times = 7 :: List.replicate 1023 7 ∧ (queue0 []).nat (ob (0x2460 + 2) 3) = (queue0 []).net.queues[(2 : Fin 16)].times.length
      ∧ 7 + 1000000 * (queue0 []).nat (ob (0x2460 + 2) 4) ≤ ((queue0 []).advance 20000000000).now ∧ (queue0 [[1]]).net.queues[(2 : Fin 16)].held ≠ []
      ∧ ((queue0 []).advance 8).now < 7 + 1000000 * (queue0 []).nat (ob (0x2460 + 2) 4) :=
  ⟨writesAct_of (serverFree_of (by decide +kernel)) (by decide +kernel), by decide +kernel⟩

theorem test_witness_HostQueuesStoreTheirRecords :
    WritesAct queue1 .pcie ∧ queue1.net.queues[(2 : Fin 16)].held = [[1, 2]] ∧ queue1.recordSize 2 = 8 ∧ R.recordSize 2 = 0
      ∧ 0 < queue1.nat (ob (0x2460 + 2) 3) - queue1.net.queues[(2 : Fin 16)].times.length
      ∧ (queue1.hostPlace 2 queue1.net.queues[(2 : Fin 16)].producer).inside (queue1.recordSize 2) = true :=
  ⟨writesAct_of (serverFree_of (by decide +kernel)) (by decide +kernel), by decide +kernel⟩

/-! ## Hypotheses that are met: Basaris and launches -/

/-- A frame of a session, sealed with the tag that its key gives. -/
def frame0 (key : Bytes) (source type num seq : Nat) (payload : Bytes) : BFrame :=
  let f : BFrame := { source := source, header := BitVec.ofNat 256 (0xBA5A + 2 ^ 16 + type * 2 ^ 24 + payload.length * 2 ^ 48 + num * 2 ^ 64 + seq * 2 ^ 96), payload := payload, tag := [] }
  { f with tag := frameTag key f }

theorem frameTag_tag (key : Bytes) (f : BFrame) (x : Bytes) : frameTag key { f with tag := x } = frameTag key f := rfl

theorem frame0_tag (key : Bytes) (source type num seq : Nat) (payload : Bytes) : (frame0 key source type num seq payload).tag = frameTag key (frame0 key source type num seq payload) :=
  (frameTag_tag key _ _).symm

def key0 : Bytes := [7, 7, 7, 7]

/-- A session of the source 5, and one that this chip opened to the member 5; with the sequence numbers 4 and 3 taken, 4 of them answered. -/
def session0 (ours : Bool) : BSession :=
  { num := 1, key := key0, peer := 5, ours := ours, lastSeq := some 4, cache := [(4, some ⟨0x06, 0, [], []⟩), (3, none)], lastAt := 0, txSeq := 3,
    emergencies := [⟨FaultRec.make 0x1001 .chip 5 0 0 0, 2, 1, 50⟩] }

def serving (ours : Bool) : State := { R with basaris := { R.basaris with sessions := [session0 ours] } }

theorem frameOf_of {s : State} {b : BSession} {type : Nat} (source num seq : Nat) (payload : Bytes)
    (h : (let f := frame0 b.key source type num seq payload
          s.basaris.enabled && s.ethernetPowered && bfMagic f == 0xBA5A && bfVersion f == 1 && bfType f == type && decide (bfLength f ≤ s.payloadLimit f.source) && bfLength f == f.payload.length) = true)
    (h2 : s.findSession (frame0 b.key source type num seq payload) = some b) : FrameOf s (frame0 b.key source type num seq payload) b type := by
  simp only [Bool.and_eq_true, beq_iff_eq, decide_eq_true_eq] at h
  exact ⟨h.1.1.1.1.1.1, h.1.1.1.1.1.2, h.1.1.1.1.2, h.1.1.1.2, h.1.1.2, h2, h.1.2, h.2, frame0_tag _ _ _ _ _ _⟩

/-- A frame of every type that names a session is one of the session, and its sequence number 9 is a new one. -/
theorem test_witness_FrameOf :
    FrameOf (serving false) (frame0 key0 5 0x03 1 9 []) (session0 false) 0x03 ∧ FrameOf (serving false) (frame0 key0 5 0x09 1 9 []) (session0 false) 0x09
    ∧ FrameOf (serving true) (frame0 key0 5 0x06 1 9 []) (session0 true) 0x06 ∧ (session0 false).lastSeq = some 4
    ∧ 4 < bfSequence (frame0 key0 5 0x09 1 9 []) :=
  ⟨frameOf_of (b := session0 false) 5 1 9 [] (by decide +kernel) (by decide +kernel), frameOf_of (b := session0 false) 5 1 9 [] (by decide +kernel) (by decide +kernel),
    frameOf_of (b := session0 true) 5 1 9 [] (by decide +kernel) (by decide +kernel), rfl, by decide +kernel⟩

/-- Basaris with a provisioning key; disabled; with every session taken; with an open request sent; about to close. -/
def opening0 (f : Basaris → Basaris) : State :=
  { R with basaris := f R.basaris, dict := { R.dict with active := put R.dict.active (ob 0x2020 4) (.bytes (List.replicate 32 7)) } }

theorem test_witness_BasarisSessionsOpenServeAndClose :
    let f := fun type payload => frame0 (List.replicate 32 7) 5 type 1 9 payload
    (opening0 fun x => { x with enabled := false }).basaris.enabled = false ∧ (opening0 id).basaris.enabled = true
    ∧ (opening0 id).findSession (f 3 []) = none ∧ frameTypes.contains (bfType (f 0x55 [])) = false ∧ bfType (f 0x55 []) = 0x55 ∧ get? (opening0 id).basaris.rejectedAt 5 = none
    ∧ get? (opening0 fun x => { x with rejectedAt := [(5, 3)] }).basaris.rejectedAt 5 = some 3
    ∧ bfMagic (f 1 (List.replicate 16 3)) = 0xBA5A ∧ bfVersion (f 1 (List.replicate 16 3)) = 1 ∧ bfType (f 1 (List.replicate 16 3)) = 1 ∧ bfLength (f 1 (List.replicate 16 3)) = 16
    ∧ (R.raw (ob 0x2020 4)).all (fun b => b == 0) = true ∧ ((opening0 id).raw (ob 0x2020 4)).all (fun b => b == 0) = false ∧ (opening0 id).raw (ob 0x2020 4) = List.replicate 32 7
    ∧ (opening0 id).basaris.sessions.length < (opening0 id).nat (ob 0x2020 3) ∧ R.nat (ob 0x2020 3) ≤ (List.replicate 8 (session0 false)).length
    ∧ get? (opening0 fun x => { x with opening := [(5, List.replicate 16 9)] }).basaris.opening 5 = some (List.replicate 16 9) ∧ bfStatus (f 2 (List.replicate 16 3)) = 0
    ∧ R.launch.state ≠ .proposed := by decide +kernel

/-- The frame of the statement carries the tag of its key. -/
theorem test_witness_open_tag : (frame0 (List.replicate 32 7) 5 1 1 9 (List.replicate 16 3)).tag = frameTag (List.replicate 32 7) (frame0 (List.replicate 32 7) 5 1 1 9 (List.replicate 16 3)) :=
  frame0_tag _ _ _ _ _ _

theorem test_witness_BasarisTimeouts :
    (∀ b ∈ (serving false).basaris.sessions, b.num = 1 → ((serving false).advance 5).now < b.lastAt + 1000000000 * (serving false).nat (ob 0x2020 5))
    ∧ ((serving false).basaris.sessions.find? fun b => b.num == 1 && decide (b.lastAt + 1000000000 * (serving false).nat (ob 0x2020 5) ≤ ((serving false).advance (10 ^ 15)).now)) = some (session0 false)
    ∧ R.basaris.closing = false ∧ (opening0 fun x => { x with closing := true }).basaris.closing = true := by decide +kernel

/-- A read of an object that does not exist, as an item. -/
def read0 : Bytes := leBytes 2 0x1234 ++ leBytes 1 0 ++ leBytes 1 0 ++ leBytes 4 0 ++ leBytes 4 4

theorem test_witness_BasarisRequestsAndEmergencies :
    FrameOf (serving false) (frame0 key0 5 0x04 1 9 read0) (session0 false) 0x04 ∧ FrameOf (serving false) (frame0 key0 5 0x05 1 9 [1]) (session0 false) 0x05
    ∧ FrameOf (serving false) (frame0 key0 5 0x08 1 9 [0, 0, 0, 0]) (session0 false) 0x08 :=
  ⟨frameOf_of (b := session0 false) 5 1 9 _ (by decide +kernel) (by decide +kernel), frameOf_of (b := session0 false) 5 1 9 _ (by decide +kernel) (by decide +kernel),
    frameOf_of (b := session0 false) 5 1 9 _ (by decide +kernel) (by decide +kernel)⟩

theorem test_witness_BasarisRequests :
    itemsOf false read0 = some [⟨0x1234, 0, 0, 4, false, false, []⟩] ∧ rowOf (ob 0x1234 0) = none ∧ itemsOf true [1] = none ∧ get? (session0 false).cache 4 = some (some ⟨0x06, 0, [], []⟩)
      ∧ get? (session0 false).cache 3 = some none ∧ ServerFree (serving false) (.basaris 1)
      ∧ (∀ e ∈ (session0 false).emergencies, e.rcd.seq = 0 → ((serving false).advance 49).now < e.nextAt)
      ∧ ((serving false).basaris.sessions.find? fun b => b.num == 1 && b.emergencies.any fun e => e.rcd.seq == 0 && decide (e.nextAt ≤ ((serving false).advance 50).now)) = some (session0 false) :=
  ⟨by decide +kernel, by decide +kernel, by decide +kernel, by decide +kernel, by decide +kernel, serverFree_of (by decide +kernel), by decide +kernel, by decide +kernel⟩

/-! A proposal that a member acknowledges carries the hash of its own snapshot; its length is that of SHA-256. -/

theorem beBytes_flatMap_length (f : Nat → Nat) (l : List Nat) : (l.flatMap fun k => beBytes 4 (f k)).length = 4 * l.length := by
  induction l with
  | nil => rfl
  | cons x l ih =>
    have h4 : (beBytes 4 (f x)).length = 4 := by rw [beBytes, List.length_reverse, leBytes, List.length_map, List.length_range]
    rw [List.flatMap_cons, List.length_append, ih, h4, List.length_cons]
    omega

theorem sha256_length (m : Bytes) : (sha256 m).length = 32 := (beBytes_flatMap_length _ _).trans (by rw [List.length_range])

/-- The payload of a proposal for count 5 s with a snapshot. -/
def proposal0 (snapshot : Bytes) : Bytes := leBytes 8 5000000000 ++ im0.hash ++ (snapshot ++ [0, 0, 0, 0, 0, 0, 0, 0])

theorem proposal0_parts (x : Bytes) (h : x.length = 32) :
    (proposal0 x).length = 80 ∧ ((proposal0 x).drop 8).take 32 = im0.hash ∧ ((proposal0 x).drop 40).take 32 = x ∧ leAt (proposal0 x) 0 8 = 5000000000
      ∧ leAt (proposal0 x) 72 1 = 0 ∧ leAt (proposal0 x) 73 1 = 0 := by
  have h1 : (leBytes 8 5000000000 ++ im0.hash).length = 40 := by decide
  have h2 : (leBytes 8 5000000000 ++ im0.hash).drop 8 = im0.hash := by decide
  have h3 : im0.hash.length = 32 := by decide
  refine ⟨by simp only [proposal0, List.length_append, h, h3, leBytes, List.length_map, List.length_range, List.length_cons, List.length_nil], ?_, ?_, ?_, ?_, ?_⟩
  · rw [proposal0, List.drop_append_of_le_length (by omega), h2, List.take_append_of_le_length (by omega), List.take_of_length_le (by omega)]
  · rw [proposal0, List.drop_append, List.drop_of_length_le (by omega), h1, List.nil_append, Nat.sub_self, List.drop_zero, List.take_append_of_le_length (by omega),
      List.take_of_length_le (by omega)]
  · rw [leAt, proposal0, List.drop_zero, List.take_append_of_le_length (by omega)]
    decide
  · rw [leAt, proposal0, List.drop_append, List.drop_of_length_le (by omega), h1, List.nil_append, List.drop_append, List.drop_of_length_le (by omega), List.nil_append, h]
    decide
  · rw [leAt, proposal0, List.drop_append, List.drop_of_length_le (by omega), h1, List.nil_append, List.drop_append, List.drop_of_length_le (by omega), List.nil_append, h]
    decide

/-- A synchronised member that a session serves, with a loaded image; and a leader that awaits member 5. -/
def member0 (ours : Bool) (f : Launch → Launch) : State := { synced with basaris := { R.basaris with sessions := [session0 ours] }, launch := f synced.launch }

theorem member0_meets :
    ((member0 false id).advance 2000000000).meetsR93 5000000000 im0.hash (member0 false id).comingSnapshot 0 0 = true := by
  have h : ((member0 false id).advance 2000000000).comingSnapshot = (member0 false id).comingSnapshot := rfl
  simp only [State.meetsR93, h, beq_self_eq_true, Bool.and_true]
  decide +kernel

theorem frameOf_header {s : State} {b : BSession} {type : Nat} (f g : BFrame) (h : FrameOf s g b type) (hh : f.header = g.header) (hs : f.source = g.source)
    (hl : f.payload.length = g.payload.length) (ht : f.tag = frameTag b.key f) : FrameOf s f b type := by
  obtain ⟨a1, a2, a3, a4, a5, a6, a7, a8, a9⟩ := h
  refine ⟨a1, a2, ?_, ?_, ?_, ?_, ?_, ?_, ht⟩ <;> simp only [bfMagic, bfVersion, bfType, bfLength, State.findSession, bfSession, hh, hs, hl] <;> assumption

theorem test_witness_LaunchGroupsAgree_member :
    ∃ p : Bytes, FrameOf (member0 false id) (frame0 key0 5 0x10 1 9 p) (session0 false) 0x10 ∧ p.length = 80 ∧ ((member0 false id).advance 2000000000).launchRefused (member0 false id).launch.image = false
      ∧ ((member0 false id).advance 2000000000).meetsR93 (leAt p 0 8) ((p.drop 8).take 32) ((p.drop 40).take 32) (leAt p 72 1) (leAt p 73 1) = true := by
  have hl : (member0 false id).comingSnapshot.length = 32 := sha256_length _
  obtain ⟨h1, h2, h3, h4, h5, h6⟩ := proposal0_parts (member0 false id).comingSnapshot hl
  refine ⟨proposal0 (member0 false id).comingSnapshot, ?_, h1, by decide +kernel, ?_⟩
  · have h : FrameOf (member0 false id) (frame0 key0 5 0x10 1 9 (List.replicate 80 0)) (session0 false) 0x10 := frameOf_of (b := session0 false) 5 1 9 _ (by decide +kernel) (by decide +kernel)
    refine frameOf_header _ _ h ?_ rfl (h1.trans List.length_replicate.symm) (frame0_tag _ _ _ _ _ _)
    exact congrArg (fun n => BitVec.ofNat 256 (0xBA5A + 2 ^ 16 + 0x10 * 2 ^ 24 + n * 2 ^ 48 + 1 * 2 ^ 64 + 9 * 2 ^ 96)) (h1.trans List.length_replicate.symm)
  · rw [h2, h3, h4, h5, h6]
    exact member0_meets

theorem test_witness_LaunchGroupsAgree_frames :
    FrameOf (member0 false id) (frame0 key0 5 0x12 1 9 (leBytes 8 5000000000)) (session0 false) 0x12 ∧ FrameOf (member0 false id) (frame0 key0 5 0x13 1 9 (leBytes 8 5000000000)) (session0 false) 0x13
    ∧ FrameOf (member0 true id) (frame0 key0 5 0x11 1 9 (leBytes 8 5000000000 ++ leBytes 4 0)) (session0 true) 0x11
    ∧ FrameOf (member0 true id) (frame0 key0 5 0x06 1 9 []) (session0 true) 0x06 :=
  ⟨frameOf_of (b := session0 false) 5 1 9 _ (by decide +kernel) (by decide +kernel), frameOf_of (b := session0 false) 5 1 9 _ (by decide +kernel) (by decide +kernel),
    frameOf_of (b := session0 true) 5 1 9 _ (by decide +kernel) (by decide +kernel), frameOf_of (b := session0 true) 5 1 9 _ (by decide +kernel) (by decide +kernel)⟩

theorem test_witness_LaunchGroupsAgree :
    let m := fun st => (member0 false fun l => { l with state := st, session := 1, count := 5000000000 }).launch
    let l := fun st need => (member0 true fun l => { l with state := st, leader := true, count := 5000000000, needAck := need, needResp := [5] }).launch
    ((m .acknowledged).state = .acknowledged ∧ (m .acknowledged).session = (session0 false).num ∧ (m .confirmed).leader = false ∧ leAt (leBytes 8 5000000000) 0 8 = (m .acknowledged).count
      ∧ 1000000 + (synced.advance 2000000000).now < 5000000000 ∧ 5000000000 ≤ 1000000 + (synced.advance 4999000000).now)
    ∧ ((l .proposed [5]).needAck.filter fun p => p != (session0 true).peer) = [] ∧ ((l .proposed [5, 6]).needAck.filter fun p => p != (session0 true).peer) ≠ []
    ∧ leAt (leBytes 8 5000000000 ++ leBytes 4 0) 8 4 = 0 ∧ leAt (leBytes 8 5000000000 ++ leBytes 4 1) 8 4 ≠ 0
    ∧ (l .confirmed []).needResp = [5] ∧ (member0 true id).sessionTo 5 = some (session0 true)
    ∧ 11000000 + (synced.advance 2000000000).now < 5000000000 ∧ 5000000000 ≤ 11000000 + (synced.advance 4989000000).now := by decide +kernel

/-- Two reports of complete class I outputs, and one state for each of the events of a launch. -/
def report0 (out : Nat) : Report := { out := out, cls := 2, primary := { complete := true, invalid := false, payload := .fields [3] }, shadow := none }

def starting : State := { synced with launch := { synced.launch with state := .confirmed, count := 5000000000 } }

def relaunching : State := with_ [(ob 0x5830 3, 6000000000)] { synced with service := { synced.service with imgStaged := some im0, imgState := 3 } }

def automatic : State := with_ [(ob 0x5800 5, 1)] { synced with service := { synced.service with beat0Due := true } }

theorem test_witness_LaunchesStartAndBeatsPass :
    (starting.server.works = [] ∧ starting.power.latched = none ∧ starting.commit.group = none ∧ starting.commit.implicit = [] ∧ starting.commit.instant = [])
    ∧ (starting.launch.state = .confirmed ∧ starting.launch.image = some im0 ∧ (starting.advance 4999999999).now < starting.launch.count ∧ starting.launch.count ≤ (starting.advance 5000000000).now)
    ∧ (let s := inRun synced
       s.launch.run = some run0 ∧ (s.advance 999).now < run0.countOf (run0.beat + 1) ∧ run0.countOf (run0.beat + 1) ≤ (s.advance 1000000).now ∧ run0.paused = false ∧ run0.endNext = false ∧ run0.endAt = none
        ∧ run0.pauseAt = none ∧ run0.resumeAt = none ∧ s.launch.image = some im0 ∧ im0.hostOutputs = [] ∧ s.launch.buffered = [] ∧ s.launch.deferred = [] ∧ s.launch.late = [])
    ∧ ((report0 2).out < (report0 4).out ∧ (report0 2).cls = 2 ∧ (report0 2).primary.complete = true ∧ (report0 2).primary.invalid = false ∧ (report0 2).shadow = none
      ∧ (report0 2).primary.payload = .fields [3])
    ∧ (relaunching.service.imgStaged = some im0 ∧ relaunching.service.imgState = 3 ∧ relaunching.nat (ob 0x5830 3) ≤ (relaunching.advance 6000000000).now
      ∧ (relaunching.advance 6000000000).launchRefused (some im0) = false ∧ (relaunching.advance 6000000000).launchRefused (some { im0 with beatPeriod := 1 }) = true)
    ∧ (automatic.nat (ob 0x5800 5) = 1 ∧ (automatic.advance 9000000000).group = [] ∧ automatic.launch.run = none ∧ automatic.launching = false ∧ automatic.service.beat0Due = true
      ∧ automatic.service.bootState = 1 ∧ automatic.service.readyAt + automatic.nat (ob 0x5800 6) * 1000000 ≤ (automatic.advance 9000000000).now
      ∧ (automatic.advance 9000000000).launchRefused automatic.launch.image = false) := by decide +kernel

/-- A launch whose image is not fit, and launches in progress with a buffered output and with one declared late. -/
def refused0 : State := { starting with launch := { starting.launch with image := some { im0 with beatPeriod := 1 } } }

def releasing (held : List Held) (late : List LateRelease) : State := { inRun synced with launch := { (inRun synced).launch with buffered := held, late := late } }

theorem test_witness_LaunchesAreRefusedAndOutputsReleased :
    (refused0.launch.state = .confirmed ∧ refused0.launch.count ≤ (refused0.advance 5000000000).now ∧ (refused0.advance 5000000000).launchRefused refused0.launch.image = true
      ∧ (starting.advance 5000000000).launchRefused (some im0) = false)
    ∧ (let s := releasing [⟨run0.beat + 1, report0 2⟩] []
       s.launch.buffered = [⟨run0.beat + 1, report0 2⟩] ∧ s.launch.late = [] ∧ s.launch.run = some run0 ∧ (∀ n : Fin 24, s.streams[n].cut = none) ∧ s.launch.deferred = [])
    ∧ (let s := releasing [] [⟨(report0 2).out, run0.beat + 1, run0.beat + 3⟩]
       s.launch.late = [⟨(report0 2).out, run0.beat + 1, run0.beat + 3⟩] ∧ s.launch.buffered = [] ∧ run0.beat + 1 < run0.beat + 3)
    ∧ (im0.pinned = [] ∧ im0.inputBuffers = [] ∧ im0.kvPlaces = [] ∧ starting.power.interleave = [0, 1, 2, 3].filter fun k => !starting.power.stacksOut.contains k)
    ∧ (dark R).ethernetPowered = false ∧ R.ethernetPowered = true ∧ (opening0 fun x => { x with closing := true }).server.works.any Work.reconfigures = false
    ∧ ((member0 false fun l => { l with state := .acknowledged, image := some { im0 with beatPeriod := 1 } }).advance 5).launchRefused
        (member0 false fun l => { l with state := .acknowledged, image := some { im0 with beatPeriod := 1 } }).launch.image = true := by decide +kernel

theorem test_witness_StoresNothing : StoresNothing im0 := ⟨rfl, rfl, rfl⟩

/-! ## Hypotheses that are met: the CANopen node, mailbox and port, descriptors of the blocks -/

/-- The node of controller 2, with classical frames or with USDO, in an NMT state, with a transfer in progress. -/
def canopen (fd : Int) (nmt : NmtState) (x : Option SdoXfer) (l : List (Key × Int)) : State :=
  with_ ([(canObj 2 1, 1), (canObj 2 0x0C, fd)] ++ l) { R with node := { R.node with nmt := nmt, sdo := x } }

def download0 : SdoXfer := ⟨ob 0x1015 0, false, [], 2, false, 0⟩

def upload0 : SdoXfer := ⟨ob 0x1015 0, true, List.replicate 20 1, 0, false, 0⟩

theorem test_witness_TheCanopenNodeServes :
    let s := canopen 0 .operational none [(ob 0x1017 0, 1), (ob 0x1602 1, 0x10150010), (ob 0x1A02 1, 0x10150010), (ob 0x1402 1, 0x222), (ob 0x1802 1, 0x222), (canObj 0 1, 1), (canObj 1 1, 1), (canObj 3 1, 1)]
    (s.nodeHears 1 0 = false ∧ s.nodeHears 2 1 = false ∧ s.nodeHears 2 0 = true ∧ s.nodeSends = true ∧ (canopen 1 .operational none []).nodeHears 2 1 = true ∧ (canopen 1 .operational none []).nodeSends = true)
    ∧ ((canopen 0 .operational (some download0) []).node.sdo = some download0 ∧ download0.upload = false ∧ (canopen 0 .operational (some upload0) []).node.sdo = some upload0
      ∧ upload0.upload = true ∧ upload0.sent + 7 < upload0.data.length ∧ s.node.sdo = none ∧ rowOf (ob 0x1234 0) = none)
    ∧ (ob 0x1015 0 ∈ quietKeys ∧ s.nodeCtl = 2 ∧ s.canLive 2 = true ∧ s.nat (ob 0x1017 0) ≠ 0 ∧ (s.advance 999999).now < s.node.heartbeatAt + s.nat (ob 0x1017 0) * 1000000
      ∧ s.node.heartbeatAt + s.nat (ob 0x1017 0) * 1000000 ≤ (s.advance 1000000).now)
    ∧ (bit (R.nat (ob (0x1800 + 2) 1)) 31 = true ∧ bit (s.nat (ob (0x1800 + 2) 1)) 31 = false ∧ s.node.nmt = .operational ∧ s.pdoMap (0x1A00 + 3) = [] ∧ s.pdoMap (0x1A00 + 2) = [(ob 0x1015 0, 2)])
    ∧ (bit (R.nat (ob (0x1400 + 2) 1)) 31 = true ∧ bit (s.nat (ob (0x1400 + 2) 1)) 31 = false ∧ (∀ c : Fin 4, s.canLive c = true ∧ s.ctlSends c = true)
      ∧ s.pdoMap (0x1600 + 2) = [(ob 0x1015 0, 2)] ∧ ((rowOf (ob 0x1015 0)).any fun r => (r.ty.encode (.int 5)).length == 2 && r.ty.fits (.int 5) && r.rng.ok (.int 5)) = true) := by decide +kernel

theorem test_witness_TheCanopenNodeIsFree : WritesAct (canopen 0 .operational none []) (.can (canopen 0 .operational none []).nodeId) ∧ WritesAct (canopen 1 .operational none []) (.can (canopen 1 .operational none []).nodeId) :=
  ⟨writesAct_of (serverFree_of (by decide +kernel)) (by decide +kernel), writesAct_of (serverFree_of (by decide +kernel)) (by decide +kernel)⟩

/-- The read of an object that does not exist, as the body of a request of type 4; its item; and the mailbox enabled, disabled and busy. -/
def body0 : Bytes := leBytes 4 4 ++ (leBytes 2 0x1234 ++ leBytes 1 0 ++ leBytes 1 0 ++ leBytes 4 0 ++ leBytes 4 4)

theorem test_witness_MailboxAndPortServe :
    let request := (body0 ++ R.mbx.request.drop body0.length).take 4096
    let area := (body0 ++ R.ports[(3 : Fin 12)].drop body0.length).take 4096
    (R.nat (ob 0x2020 8) ≠ 0 ∧ (with_ [(ob 0x2020 8, 0)] R).nat (ob 0x2020 8) = 0 ∧ R.mbx.busy = false ∧ ({ R.mbx with busy := true } : Mailbox).busy = true)
    ∧ leAt (firstBytes request 16) 0 1 = 4 ∧ itemsOf (4 == 5) ((firstBytes request 16).drop 4) = some [⟨0x1234, 0, 0, 4, false, false, []⟩] ∧ rowOf (ob 0x1234 0) = none
    ∧ itemsOf (4 == 5) ((firstBytes request 5).drop 4) = none ∧ leAt (firstBytes (([9] ++ R.mbx.request.drop 1).take 4096) 4) 0 1 ≠ 4
    ∧ leAt (firstBytes area (min 16 4096)) 0 1 = 4 ∧ itemsOf (4 == 5) ((firstBytes area (min 16 4096)).drop 4) = some [⟨0x1234, 0, 0, 4, false, false, []⟩] := by decide +kernel

theorem test_witness_MailboxAndPortAreFree : ServerFree R .pcie ∧ ServerFree R (.core 3) := ⟨serverFree_of (by decide +kernel), serverFree_of (by decide +kernel)⟩

/-- The header of a descriptor of class I with sequence 7, for an engine. -/
def header0 (engine : Nat) (flags : Nat) : BitVec 128 := BitVec.ofNat 128 (7 * 2 ^ 96 + 0xFFFFFFFF * 2 ^ 64 + 0x200 * 2 ^ 42 + flags * 2 ^ 32 + engine * 2 ^ 24 + 2 * 2 ^ 14 + 2 ^ 8)

/-- Five bytes at address 100 of the main memory, and a transfer of them into block 4 of region 3. -/
def bytes0 : State := R.store ⟨0, 0, 0, 100⟩ [1, 2, 3, 4, 5]

def move0 (engine flags : Nat) : MoveDesc := { header := header0 engine flags, queue := 2, src := ⟨0, 0, 0, 100⟩, dst := ⟨2, 3, 4, 64⟩, length := 5, upsets := [] }

/-- The main memory's cache with one line that holds address 100. -/
def cached0 : State := with_ [(ob 0x3200 1, 1)] { R with blocks := upd R.blocks (blk 3 4) fun x => { x with cacheLines := [(0, List.replicate 256 9)] } }

/-- A descriptor that gives output 7 at beat 9, under an image that says so. -/
def given0 : MoveDesc := { move0 2 2 with header := BitVec.ofNat 128 (7 * 2 ^ 96 + 9 * 2 ^ 64 + 0x200 * 2 ^ 42 + 2 * 2 ^ 32 + 2 * 2 ^ 24 + 2 * 2 ^ 14 + 2 ^ 8) }

def giving0 : State := { bytes0 with launch := { R.launch with image := some { im0 with heldOutputs := [⟨3, 4, 2, 7, false⟩] } } }

/-- A byte of the source lost to an uncorrectable error. -/
def lost0 : State := { bytes0 with marks := [⟨0, 64, 2, true⟩] }

/-- A launch that is paused: nothing starts; and region 3 without power. -/
def pausing0 : State := { bytes0 with launch := { R.launch with run := some { run0 with paused := true } } }

def unpowered (s : State) : State := { s with power := { s.power with domains := updAll s.power.domains fun _ x => { x with state := 0 } } }

theorem blockStarts_of {s : State} {r : Fin 10} {b : Fin 18} {c : Instr} {h : BitVec 128}
    (e : (s.logicOn r && s.mayStart r h && s.preparing.isEmpty && (s.block r b).waiting.isEmpty && (s.block r b).selWait.isNone
      && (laneOf c != 2 || s.accessGoes r b ⟨(s.block r b).taken, c⟩)) = true) : BlockStarts s r b c h := by
  simp only [Bool.and_eq_true, List.isEmpty_iff, Option.isNone_iff_eq_none, Bool.or_eq_true, bne_iff_ne] at e
  exact ⟨e.1.1.1.1.1, e.1.1.1.1.2, e.1.1.1.2, e.1.1.2, e.1.2, fun h2 => e.2.resolve_left (not_not_intro h2)⟩

theorem zooStarts_of {s : State} {r : Fin 10} {h : BitVec 128} (e : (s.logicOn r && s.mayStart r h && s.preparing.isEmpty && s.regions[r].waiting.isEmpty) = true) : ZooStarts s r h := by
  simp only [Bool.and_eq_true, List.isEmpty_iff] at e
  exact ⟨e.1.1.1, e.1.1.2, e.1.2, e.2⟩

theorem test_witness_TransfersMoveExactlyTheirBytes :
    HeaderOk bytes0 3 (header0 2 0) 2 (bytes0.blockAdmits 3 4 2) (bytes0.block 3 4).prevSeq ∧ HeaderOk bytes0 3 (header0 0x18 0) 0x18 true (get? bytes0.regions[(3 : Fin 10)].prevSeq (zooQueue 0x18 2 1))
    ∧ HeaderOk cached0 3 (header0 2 64) 2 (cached0.blockAdmits 3 4 2) (cached0.block 3 4).prevSeq ∧ HeaderOk giving0 3 given0.header 2 (giving0.blockAdmits 3 4 2) (giving0.block 3 4).prevSeq :=
  ⟨headerOk_of (by decide +kernel), headerOk_of (by decide +kernel), headerOk_of (by decide +kernel), headerOk_of (by decide +kernel)⟩

theorem test_witness_TransfersStart :
    BlockStarts bytes0 3 4 (.accessDescriptor 5 3 4 (move0 2 0)) (header0 2 0) ∧ BlockStarts cached0 3 4 (.accessDescriptor 5 3 4 (move0 2 64)) (header0 2 64)
    ∧ BlockStarts bytes0 3 4 (.accessDescriptor 5 3 4 (move0 3 0)) (header0 3 0) ∧ BlockStarts giving0 3 4 (.accessDescriptor 5 3 4 given0) given0.header
    ∧ BlockStarts lost0 3 4 (.accessDescriptor 5 3 4 (move0 2 0)) (header0 2 0) ∧ ZooStarts bytes0 3 (header0 0x18 0) :=
  ⟨blockStarts_of (by decide +kernel), blockStarts_of (by decide +kernel), blockStarts_of (by decide +kernel), blockStarts_of (by decide +kernel), blockStarts_of (by decide +kernel),
    zooStarts_of (by decide +kernel)⟩

theorem test_witness_QueuesAreFullOffOrWait :
    let c := Instr.accessDescriptor 5 3 4 (move0 2 0)
    let k := Instr.dmaDescriptor 5 3 1 (move0 0x18 0)
    let full : State := { R with blocks := upd R.blocks (blk 3 4) fun x => { x with waiting := List.replicate 64 ⟨0, c⟩ } }
    (bytes0.advance 5).routeOf c = some (.ofBlock 2 3 4) ∧ descHeader c = some (header0 2 0)
    ∧ ((bytes0.advance 5).routeOf k).any (fun x => x.block.isNone && x.queue == 2 && x.engine == 0x18) = true ∧ descHeader k = some (header0 0x18 0) ∧ hClass (header0 0x18 0) = 2
    ∧ (unpowered R).logicOn 3 = false ∧ (full.block 3 4).waiting.length = 64
    ∧ pausing0.logicOn 3 = true ∧ (pausing0.block 3 4).waiting = [] ∧ pausing0.mayStart 3 (header0 2 0) = false ∧ pausing0.regions[(3 : Fin 10)].waiting = [] := by decide +kernel

theorem test_witness_Transfers :
    let d := move0 2 0
    let c := move0 2 64
    (hClass d.header = 2 ∧ (bytes0.mayStart 3 (header0 3 0) = true ∧ headerInvalid (header0 3 0) 2 = true))
    ∧ (d.src.inside 5 = true ∧ d.dst.inside 5 = true ∧ bytes0.inSegment d.src 5 = false ∧ bytes0.inSegment d.dst 5 = false ∧ bytes0.permits 2 d.src 5 false = true ∧ bytes0.permits 2 d.dst 5 true = true)
    ∧ (⟨2, 3, 4, spadSize - 2⟩ : MemRef).inside 5 = false ∧ cached0.inSegment ⟨2, 3, 4, 0x300000⟩ 5 = true ∧ d.dst.space ≠ (rmemAt 3 (hStatusAddr d.header)).space
    ∧ (bytes0.markRead [(d.src, 5)] = none ∧ lost0.markRead [(d.src, 5)] = some ⟨0, 64, 2, true⟩)
    ∧ (bytes0.cacheOn = false ∧ cached0.cacheOn = true ∧ hCacheable c.header = true ∧ hDataAddressed c.header = false ∧ hInvalidate c.header = false ∧ c.src.addr % 256 + 5 ≤ 256)
    ∧ get? (cached0.block 3 4).cacheLines (c.src.addr / 256 * 256) = some (List.replicate 256 9) ∧ get? (cached0.block 3 5).cacheLines (c.src.addr / 256 * 256) = none
    ∧ (hReleaseHold d.header = false ∧ hReleaseHold given0.header = true ∧ giving0.launch.image = some { im0 with heldOutputs := [⟨3, 4, 2, 7, false⟩] }
      ∧ (List.find? (fun e : HeldOutput => e.region == 3 && e.block == 4 && e.engine == hEngine given0.header) [⟨3, 4, 2, 7, false⟩]) = some ⟨3, 4, 2, 7, false⟩
      ∧ giving0.launch.buffered = [] ∧ giving0.launch.deferred = [] ∧ giving0.markRead [(given0.src, 5)] = none) := by decide +kernel

/-- An execute descriptor of one row each, of two formats. -/
def exec0 (a b : Nat) (first : Nat := 0) : ExecDesc :=
  { header := header0 1 0, acw := BitVec.ofNat 64 (a * 2 ^ 40 + b * 2 ^ 32 + 2 ^ 24), a := ⟨[⟨[2, 255], [], [], first⟩], none⟩, b := ⟨[⟨[3, 4], [], [], 0⟩], none⟩, laneBase := 3, tokens := 1, out := none, returns := [], upsets := [] }

/-- The block of the descriptor with set 0 poisoned. -/
def poisoned0 : State := { R with blocks := upd R.blocks (blk 3 4) fun x => { x with poison := [(0, 0x0300, 5)] } }

theorem test_witness_ExecuteDescriptorsAccumulateTheirLanes :
    HeaderOk R 3 (header0 1 0) 0x01 (R.blockAdmits 3 4 2) (R.block 3 4).prevSeq ∧ BlockStarts R 3 4 (.executeDescriptor 5 3 4 (exec0 11 11)) (header0 1 0)
    ∧ BlockStarts poisoned0 3 4 (.executeDescriptor 5 3 4 (exec0 11 11)) (header0 1 0) :=
  ⟨headerOk_of (by decide +kernel), blockStarts_of (by decide +kernel), blockStarts_of (by decide +kernel)⟩

/-- A read-out of set 1 through table 9 of BF16 elements, with one channel, to address 64 of block 4's scratchpad, and one to the end of it. -/
def reading0 (a : Nat) : ExecDesc :=
  { exec0 11 11 with acw := BitVec.ofNat 64 (11 * 2 ^ 40 + 11 * 2 ^ 32 + 2 ^ 26 + 2 ^ 25 + 2 ^ 24), out := some ⟨9, 1, none, ⟨2, 3, 4, a⟩, ⟨2, 3, 4, 0x1000⟩⟩ }

def readable0 (out : Nat) : State := { R with launch := { R.launch with image := some { im0 with tables := [⟨9, out, 0, [⟨2 ^ 30, 0, 0⟩]⟩] } } }

theorem test_witness_ReadOuts :
    let d := reading0 64
    let o : ReadOut := ⟨9, 1, none, ⟨2, 3, 4, 64⟩, ⟨2, 3, 4, 0x1000⟩⟩
    let tb : RescaleTable := ⟨9, 2, 0, [⟨2 ^ 30, 0, 0⟩]⟩
    acwMode d.acw = some .integer ∧ acwRead d.acw = true ∧ d.out = some o ∧ R.readTable .integer o = none ∧ (readable0 2).readTable .integer o = some tb ∧ hReleaseHold d.header = false
    ∧ execSkew d = none ∧ continuedPoison ((readable0 2).block 3 4) d.acw = none ∧ recordedFormat tb.outFormat = false
    ∧ (∀ p ∈ readPlaces d o tb, (readable0 2).badPlace p.1 p.2 = false ∧ (readable0 2).permits (hClass d.header) p.1 p.2 true = true)
    ∧ (∃ p ∈ readPlaces (reading0 (spadSize - 1)) { o with dst := ⟨2, 3, 4, spadSize - 1⟩ } tb, (readable0 2).badPlace p.1 p.2 = true)
    ∧ o.dst.space ≠ (rmemAt 3 (hStatusAddr d.header)).space ∧ (readPlaces d o tb).drop 1 = [] := by decide +kernel

theorem test_witness_ExecuteDescriptors :
    let keep := BitVec.ofNat 64 (11 * 2 ^ 40 + 11 * 2 ^ 32)
    (acwMode (exec0 11 4).acw = none ∧ acwMode (exec0 11 11).acw = some .integer ∧ continuedPoison (R.block 3 4) (exec0 11 11).acw = none ∧ execSkew (exec0 11 11) = none)
    ∧ (lanesOf (exec0 11 11)).map (fun l => l.1) = [3] ∧ acwClear (exec0 11 11).acw = true ∧ acwClear keep = false ∧ acwMode keep = some .integer ∧ acwSet keep = 0
    ∧ (poisoned0.block 3 4).poisonOf 0 = some (0x0300, 5) ∧ (acwMode (exec0 6 6).acw).isSome = true ∧ ((execSkew (exec0 6 6 63)).map fun k => (k.1, k.2.crumb)) = some (0, false)
    ∧ headerInvalid (header0 2 0) 0x01 = true := by decide +kernel

/-- Row 6 of bank 5 in block 4 of region 3. -/
def row0 : BitVec 32 := rowLoc 3 4 5 6

/-- That row decided for map-out by request (cause 3) or by uncorrectable errors (cause 2), and a bank with its spare rows used up. -/
def queued0 (cause : Nat) : State := { R with blocks := upd R.blocks (blk 3 4) fun x => { x with mapQueue := [(5, 6, cause)], swapCell := some (7, 1000) } }

def used0 : State := { R with service := { R.service with rowMap := (List.range 8).map fun k => ⟨rowLoc 3 4 5 (100 + k), 2, k⟩ } }

theorem test_witness_WeaveFaultsAndRepairs :
    (R.permits (hClass (header0 1 0)) (rmemAt 3 (hStatusAddr (header0 1 0))) 16 true = true ∧ (rmemAt 3 (hStatusAddr (header0 1 0))).inside 16 = true)
    ∧ ([header0 1 0] ++ (R.block 3 4).heldHeaders = [header0 1 0] ∧ R.nat (ob 0x3010 0x11) < 100000000 ∧ (R.block 3 4).role = 0 ∧ R.service.swaps = [] ∧ R.freeSpare 3 = some 16 ∧ R.retiredCount 3 < 2)
    ∧ (∀ (r : Fin 10) (b : Fin 18), (R.block r b).selWait = none)
    ∧ 10800 ≤ replicaReading (R.nat (ob 0x3010 4)) (2 * R.nat (ob 0x3010 4)) ∧ (R.advance 5).replicasDue = true
      ∧ (({ R with power := { R.power with replicaAt := some 4 } } : State).advance 5).replicasDue = false
    ∧ ((R.block 3 4).swapCell = none ∧ ((queued0 2).block 3 4).swapCell = some (7, 1000) ∧ ((queued0 2).advance 5).beatReached 1001 = true ∧ ((inRun (queued0 2)).advance 5).beatReached 1001 = false)
    ∧ (let due := fun s : State => (s.mapOuts row0).find? fun e => e.1 == fld row0 22 16 && (e.2.2 == 2 || s.flag (ob 0x3200 4))
       due R = none ∧ due (queued0 2) = some (5, 6, 2) ∧ due (queued0 3) = some (5, 6, 3) ∧ due (with_ [(ob 0x3200 4, 0)] (queued0 3)) = none ∧ (unpowered (queued0 2)).rowsOn row0 = false
      ∧ (queued0 2).rowsOn row0 = true ∧ (queued0 2).freeRow row0 = some 0)
    ∧ (locValid row0 = true ∧ used0.rowMapped (rowLoc 3 4 5 100) = true ∧ used0.rowMapped row0 = false ∧ used0.freeRow row0 = none ∧ R.rowMapped row0 = false ∧ (R.freeRow row0).isSome = true) := by
  decide +kernel

theorem test_witness_MapOutRequests : WritesAct R .pcie ∧ ChecksPass R 5 (ob 0x3200 5) (.int row0.toNat) ∧ WritesAct used0 .pcie ∧ ChecksPass used0 5 (ob 0x3200 5) (.int row0.toNat) :=
  ⟨writesAct_of (serverFree_of (by decide +kernel)) (by decide +kernel), checksPass_of (by decide +kernel), writesAct_of (serverFree_of (by decide +kernel)) (by decide +kernel), checksPass_of (by decide +kernel)⟩

/-! ## Hypotheses that are met: window engine, selvedge, quantisation and statistics -/

/-- The header of a descriptor of an engine with an operation and a class. -/
def header1 (engine operation cls : Nat) (body : Nat := 1) : BitVec 128 :=
  BitVec.ofNat 128 (7 * 2 ^ 96 + 0xFFFFFFFF * 2 ^ 64 + 0x200 * 2 ^ 42 + engine * 2 ^ 24 + operation * 2 ^ 16 + cls * 2 ^ 14 + 2 ^ 8 + body)

/-- A window descriptor: its fields by their lowest bits. -/
def win0 (operation acw : Nat) (fields : List (Nat × Nat)) : WinDesc :=
  { header := header1 0x10 operation 2 5, body := BitVec.ofNat 640 (acw + (fields.map fun p => p.2 * 2 ^ (64 + p.1)).sum), inStream := ⟨2, 3, 4, 0x20000⟩, inSlot := none,
    wStream := ⟨2, 3, 4, 0x21000⟩, wSlot := none, outStream := ⟨2, 3, 4, 0x22000⟩, streamCols := 4, tokens := 1, returns := [], upsets := [] }

/-- A stripe of two lines of two columns with one channel, under a window of kh by kw, in one format. -/
def fields0 (kh kw fmt : Nat) : List (Nat × Nat) :=
  [(492, 32), (491, 1), (352, 0xFFFFFFFF), (320, 0xFFFFFFFF), (251, 1), (246, 1), (242, 1), (238, 1), (176, 1), (160, 1), (144, 1), (137, kh), (130, kw), (106, 0x4000), (98, fmt), (42, 0x100), (34, fmt), (22, 2),
    (10, 2), (256, 0x8000)]

/-- The control word of a convolution of FP32 values, and one of formats that have no mode. -/
def acw0 : Nat := 2 ^ 40 + 2 ^ 32 + 2 ^ 24

/-- Each operation's descriptor meets the checks: it owns its output lines, has neither neighbour, and its places are inside, readable and writable. -/
def ownsLines (s : State) (op : Nat) (d : WinDesc) : Bool :=
  (refusalReason op d (s.mask 3 4 d)).isNone && (coilParts d).any (fun p => !(outLines op d p).isEmpty) && !(outCols op d).isEmpty && !wSelLeft d && !wSelRight d
    && ((winReads 3 4 op d ++ winWrites 3 4 op d).all fun p => !s.badPlace p.1 p.2) && ((winReads 3 4 op d).all fun p => s.permits (hClass d.header) p.1 p.2 false)
    && ((winWrites 3 4 op d).all fun p => s.permits (hClass d.header) p.1 p.2 true) && hOperation d.header == op && winOp op d.header == op && (s.markRead (winReads 3 4 op d)).isNone
    && !recordedFormat (wOutFmt d) && !hReleaseHold d.header && (winWrites 3 4 op d).length == 1

theorem test_witness_WindowDescriptorsProduceTheirLines :
    ownsLines R 1 (win0 1 acw0 (fields0 2 2 1)) = true ∧ ownsLines R 2 (win0 2 0 (fields0 2 2 11)) = true ∧ ownsLines R 3 (win0 3 0 (fields0 2 2 11)) = true
      ∧ ownsLines R 6 (win0 6 0 (fields0 1 1 11)) = true ∧ ownsLines R 7 (win0 7 0 (fields0 1 1 11)) = true ∧ ownsLines R 8 (win0 8 0 (fields0 1 1 11)) = true
      ∧ continuedPoison (R.block 3 4) (winAcw (win0 1 acw0 (fields0 2 2 1))) = none
      ∧ convSkew (win0 1 acw0 (fields0 2 2 1)) (R.inputRow 3 4 (win0 1 acw0 (fields0 2 2 1))) (R.weightRow 3 4 (win0 1 acw0 (fields0 2 2 1))) = none
      ∧ (R.block 3 4).selOut = [] ∧ (R.block 3 4).selLeft = [] ∧ (R.block 3 4).selRight = [] := by decide +kernel

/-- Erosion and dilation take their window from a mask: here two of four places. -/
def masked0 : State := R.store ⟨2, 3, 4, 0x8000⟩ [6]

theorem test_witness_Morphology : ownsLines masked0 4 (win0 4 0 (fields0 2 2 11)) = true ∧ ownsLines masked0 5 (win0 5 0 (fields0 2 2 11)) = true := by decide +kernel

theorem test_witness_WindowHeaders :
    HeaderOk R 3 (header1 0x10 2 2) 0x10 (R.blockAdmits 3 4 2) (R.block 3 4).prevSeq ∧ BlockStarts R 3 4 (.poolMax 5 3 4 (win0 2 0 (fields0 2 2 11))) (win0 2 0 (fields0 2 2 11)).header
      ∧ BlockStarts R 3 4 (.conv 5 3 4 (win0 1 acw0 (fields0 2 2 1))) (win0 1 acw0 (fields0 2 2 1)).header :=
  ⟨headerOk_of (by decide +kernel), blockStarts_of (by decide +kernel), blockStarts_of (by decide +kernel)⟩

/-- A descriptor that needs its left neighbour's entries. -/
def waits1 : WinDesc := win0 2 0 (fields0 2 3 11 ++ [(501, 1), (384, 10)])

theorem test_witness_WindowRefusals :
    refusalReason 2 (win0 2 0 (fields0 0 2 11)) [] = some 3 ∧ acwMode (winAcw (win0 1 (11 * 2 ^ 40 + 4 * 2 ^ 32) (fields0 2 2 11))) = none
      ∧ acwMode (winAcw (win0 1 acw0 (fields0 2 2 1))) = some .float ∧ R.convRescale .float (win0 1 acw0 (fields0 2 2 1)) = some none
      ∧ (let d := win0 1 (11 * 2 ^ 40 + 11 * 2 ^ 32 + 2 ^ 24) ((fields0 2 2 11).map fun p => if p.1 = 352 then (352, 77) else p); refusalReason 1 d [] = none ∧ R.convRescale .integer d = none)
      ∧ (let d := win0 2 0 ((fields0 2 2 11).map fun p => if p.1 = 106 then (106, 0x3FFFFF) else p); refusalReason 2 d [] = none ∧ ∃ p ∈ winReads 3 4 2 d ++ winWrites 3 4 2 d, R.badPlace p.1 p.2 = true)
      ∧ (let d := win0 2 0 (fields0 3 2 11); refusalReason 2 d [] = none ∧ ∀ p ∈ coilParts d, outLines 2 d p = [])
      ∧ (wSelLeft waits1 = true ∧ bandCols 2 waits1 0 ≠ [] ∧ (coilParts waits1).flatMap (askedLines 2 waits1) ≠ [] ∧ refusalReason 2 waits1 [] = none ∧ (R.block 3 4).selLeft = [])
      ∧ headerInvalid (header1 0x11 2 2) 0x10 = true := by decide +kernel

/-- A block whose descriptor waits for its left neighbour since count 1000. -/
def waiting1 : State := { R with blocks := upd R.blocks (blk 3 4) fun x => { x with selWait := some ⟨true, 0, 0, 1000, 2, waits1, none⟩ } }

theorem test_witness_SelvedgeEntriesAreCheckedAndWaitedFor :
    (R.blockAdmits 3 4 1 = false ∧ R.blockAdmits 3 4 2 = true ∧ (R.block 3 4).selWait = none ∧ (waiting1.block 3 4).selWait = some ⟨true, 0, 0, 1000, 2, waits1, none⟩)
    ∧ (waiting1.permits 2 (rmemAt 3 (hStatusAddr waits1.header)) 16 true = true ∧ (rmemAt 3 (hStatusAddr waits1.header)).inside 16 = true ∧ (waiting1.block 3 4).selLeft = [])
    ∧ ((R.block 3 4).waiting = [] ∧ (waiting1.block 3 4).waiting = [] ∧ (waiting1.block 3 4).selRight = [] ∧ wSelLeft waits1 = true ∧ bandCols 2 waits1 0 ≠ [] ∧ hClass waits1.header = 2)
    ∧ (R.selRoom 3 4 0 [1] = true ∧ ({ R with blocks := upd R.blocks (blk 3 4) fun x => { x with selLeft := List.replicate 64 ⟨0, List.replicate 70000 1, 2, false, false, false⟩ } } : State).selRoom 3 4 0 (List.replicate 70000 1) = false)
    ∧ ((coilParts waits1).flatMap (askedLines 2 waits1)).head?.isSome = true
    ∧ (∀ l0 ∈ ((coilParts waits1).flatMap (askedLines 2 waits1)).head?, entryMismatch waits1 0 l0 ⟨BitVec.ofNat 64 (5 * 2 ^ 32), [1], 2, false, false, false⟩ ≠ 0)
    ∧ (waiting1.advance 1000).now ≤ 1000 + 1000 * waiting1.nat (ob 0x3600 3) ∧ 1000 + 1000 * waiting1.nat (ob 0x3600 3) < (waiting1.advance 1000000000).now := by decide +kernel

/-- A statistics or conversion descriptor over two rows of BF16 elements. -/
def quant0 (operation out : Nat) (table : Option Nat) : QuantDesc :=
  { header := header1 0x13 operation 2, queue := 2, format := 2, input := ⟨⟨0, 0, 0, 0x3000⟩, 2, 2, ⟨0, 0, 0, 0x4000⟩, none⟩, channels := 2, slot := none, table := table, outFormat := out,
    across := false, dst := ⟨0, 0, 0, 0x2000⟩, stream := ⟨0, 0, 0, 0x2800⟩, upsets := [] }

/-- A slot of class L at step 4 that allows one replay, and the statistics record of its tensor at 0x5000, under a partition map with memory of class L. -/
def slot0 (nonfinite : Bool) : Slot := { slotOfInit { region := 3, slot := 5, cls := 3, format := 4, even := 0x3F800000, odd := 0x3F800000, head := 0, flags := 1, step := 4, replayMark := 7 } with nonfinite := nonfinite }

def mapL : PartMap :=
  { home := List.replicate 180 2, shareC := 0, shareI := 0,
    ranges := [{ base := 0, size := 1024, space := 0, region := 0xFF, block := 0xFF, cls := 3, write := true, read := true }, { base := 0, size := 16, space := 1, region := 3, block := 0xFF, cls := 3, write := true, read := true }] }

def slotted (nonfinite : Bool) (sat : Nat) : State :=
  { R with
    crust := { R.crust with active := some { values := [], map := mapL, seq := 1, imageBound := false, launchBound := false, imageHash := [], hash := [], keyAction := (0, 0, []) } }
    regions := upd R.regions 3 fun g => { g with slots := [(5, slot0 nonfinite)] }
    mem := { R.mem with rmem := ((R.store ⟨1, 3, 0, 0x5000⟩ ({ amax := 0x41000000, sat := sat, und := 0, nonfinite := 0, elements := 4, step := 0, format := 2, perChannel := false, channels := 0, slot := 5 } : Stats).bytes)).mem.rmem } }

def optimizer0 : OptDesc :=
  { header := header1 0x13 5 3, queue := 3, slot := 5, grads := ⟨0, 0, 0, 0x8000⟩, count := 2, beta1 := 0x3F000000, beta1c := 0x3F000000, beta2 := 0x3F000000, beta2c := 0x3F000000, lr := 0x3F800000, wd := 0, eps := 0x3F800000, k1 := 0x3F800000,
    k2 := 0x3F800000, mAddr := 0x10000, mScaleAddr := 0x20000, vAddr := 0x30000, wAddr := 0x40000, copy := none }

theorem test_witness_StatisticsHeaders :
    HeaderOk R 3 (header1 0x13 1 2) 0x13 true (get? R.regions[(3 : Fin 10)].prevSeq (zooQueue 0x13 2 0)) ∧ HeaderOk R 3 (header1 0x13 0 2) 0x13 true (get? R.regions[(3 : Fin 10)].prevSeq (zooQueue 0x13 2 0))
    ∧ HeaderOk (slotted false 0) 3 (header1 0x13 5 3) 0x13 true (get? (slotted false 0).regions[(3 : Fin 10)].prevSeq (zooQueue 0x13 3 0)) :=
  ⟨headerOk_of (by decide +kernel), headerOk_of (by decide +kernel), headerOk_of (by decide +kernel)⟩

theorem test_witness_StatisticsStart :
    ZooStarts R 3 (header1 0x13 1 2) ∧ ZooStarts R 3 (header1 0x13 3 2) ∧ ZooStarts (slotted false 0) 3 (header1 0x13 5 3) ∧ ZooStarts R 3 (header1 0x12 1 2) :=
  ⟨zooStarts_of (by decide +kernel), zooStarts_of (by decide +kernel), zooStarts_of (by decide +kernel), zooStarts_of (by decide +kernel)⟩

theorem test_witness_StatisticsAndConversionsLeaveTheirTensors :
    let d := quant0 3 1 none
    (hClass d.header = 2 ∧ hOperation d.header = 3 ∧ isFormat d.format = true ∧ quantFormatsOk d true = true ∧ quantFormatsOk (quant0 3 99 none) true = false ∧ R.convertTable d = some none
      ∧ R.convertTable (quant0 3 1 (some 77)) = none)
    ∧ (∀ p ∈ (statsPlace 3 d.header, 40) :: inputPlaces d.format d.input ++ tensorPlaces 1 2 2 d.dst d.stream, R.badPlace p.1 p.2 = false ∧ R.permits 2 p.1 p.2 true = true ∧ R.permits 2 p.1 p.2 false = true)
    ∧ (R.markRead (inputPlaces d.format d.input) = none ∧ lost0.markRead [(⟨0, 0, 0, 100⟩, 5)] ≠ none ∧ firstSkew d.format (R.readTensor d.format d.input) = none
      ∧ firstSkew 6 [⟨[0x38], [], [], 63⟩] ≠ none)
    ∧ (R.badPlace ⟨0, 0, 0, hbmSize - 1⟩ 16 = true ∧ hReleaseHold d.header = false ∧ recordedFormat 1 = false ∧ d.dst.space ≠ (rmemAt 3 (hStatusAddr d.header)).space
      ∧ (tensorPlaces 1 2 2 d.dst d.stream).drop 1 = []) := by decide +kernel

theorem test_witness_ScalesAndWeightsAdvance :
    let g := fun n => [0x5000].foldl (fun (g : Merge) a => g.add ((slotted false n).load (rmemAt 3 a) 32)) (⟨0, 0, 0, 0, 0⟩ : Merge)
    (R.slotOf 3 5 = none ∧ (slotted false 0).slotOf 3 5 = some (slot0 false) ∧ (slotted true 0).slotOf 3 5 = some (slot0 true) ∧ (slot0 true).nonfinite = true ∧ (slot0 false).nonfinite = false)
    ∧ ((rmemAt 3 0x5000).inside 32 = true ∧ (slotted false 0).permits 3 (rmemAt 3 0x5000) 32 false = true)
    ∧ ((g 0).sat * R.nat (ob 0x3400 1) ≤ (g 0).elements ∧ (g 4).elements < (g 4).sat * R.nat (ob 0x3400 1) ∧ (with_ [(ob 0x3400 2, 1)] R).flag (ob 0x3400 2) = true
      ∧ (slot0 false).replayAllowed = true ∧ (slot0 false).replayed = false)
    ∧ (hClass optimizer0.header = 3 ∧ hClass (header1 0x13 5 2) ≠ 3
      ∧ (∀ p ∈ (statsPlace 3 optimizer0.header, 32) :: (optimizer0.grads, 2) :: optPlaces optimizer0, (slotted false 0).badPlace p.1 p.2 = false ∧ (slotted false 0).permits 3 p.1 p.2 true = true
        ∧ (slotted false 0).permits 3 p.1 p.2 false = true)
      ∧ (slotted false 0).markRead ((optimizer0.grads, 2) :: optPlaces optimizer0) = none ∧ hReleaseHold optimizer0.header = false
      ∧ firstSkew 6 [((slotted false 0).optLoad optimizer0).1] = none ∧ optimizer0.vAddr + 2 * 2 ≤ optimizer0.wAddr) := by decide +kernel

/-! ## Hypotheses that are met: detection and attention -/

theorem test_witness_OperatorsAndRanksPickTheirElements : portFormat 11 = true ∧ ([3, 5, 250] : List Nat) ≠ [] ∧ portFormat 2 = true := by decide +kernel

/-- The header of a detection or attention descriptor of class I with sequence 7. -/
def header2 (engine operation flags body : Nat) : BitVec 128 :=
  BitVec.ofNat 128 (7 * 2 ^ 96 + 0xFFFFFFFF * 2 ^ 64 + 0x200 * 2 ^ 42 + flags * 2 ^ 32 + engine * 2 ^ 24 + operation * 2 ^ 16 + 2 * 2 ^ 14 + 2 ^ 8 + body)

/-- A descriptor's body: its fields by their lowest bits. -/
def body2 (l : List (Nat × Nat)) : BitVec 512 := BitVec.ofNat 512 (l.map fun p => p.2 * 2 ^ p.1).sum

/-- DECODE of a grid of two by one cells with one class; the list at 0x6000 holds four records. -/
def decode0 (more : List (Nat × Nat)) : ZooDesc :=
  { header := header2 0x12 1 0 4, queue := 2, body := body2 ([(507, 2), (489, 2), (485, 0), (475, 0), (468, 8), (461, 8), (384, 1024), (368, 0), (352, 1024), (340, 2), (328, 1), (312, 0), (256, 0), (240, 4), (160, 0x7000), (128, 0x6000), (96, 0x100)] ++ more),
    upsets := [] }

/-- NMS of stream 2: lists named at 0x8000, the batch of up to ten records at 0x9000. -/
def nms0 (more : List (Nat × Nat)) : ZooDesc :=
  { header := header2 0x12 2 0 4, queue := 2, body := body2 ([(507, 2), (476, 0x8000), (468, 10), (448, 2), (384, 16), (352, 0x8000), (320, 0xA000), (288, 0x9000), (272, 10), (256, 10), (192, 5)] ++ more), upsets := [] }

theorem test_witness_DetectionHeaders :
    HeaderOk R 3 (decode0 []).header 0x12 true (get? R.regions[(3 : Fin 10)].prevSeq (zooQueue 0x12 2 0)) ∧ HeaderOk R 3 (nms0 []).header 0x12 true (get? R.regions[(3 : Fin 10)].prevSeq (zooQueue 0x12 2 0)) :=
  ⟨headerOk_of (by decide +kernel), headerOk_of (by decide +kernel)⟩

/-- One verdict, and a carry list of it at 0xA000, left by an NMS of stream 2 at count 77. -/
def verdict0 : Verdict :=
  { flags := 0, pieces := 1, detectionId := 3, firstTile := 0, index := 0, cls := 0, score := 0x3F000000, yMin := 0, height := 2, xMin := 0, width := 2, age := 0, carriedIn := false, isNew := false }

def carried0 : State :=
  { R.store (rmemAt 3 0xA000) (carryBytes 2 [verdict0]) with detect := upd R.detect 2 fun x => { x with carryAt := 0xA000, lastNms := some 77, region := 3 } }

/-- NMS with release_hold for beat 9. -/
def nmsHeld : ZooDesc := { nms0 [] with header := BitVec.ofNat 128 (7 * 2 ^ 96 + 9 * 2 ^ 64 + 0x200 * 2 ^ 42 + 2 * 2 ^ 32 + 0x12 * 2 ^ 24 + 2 * 2 ^ 16 + 2 * 2 ^ 14 + 2 ^ 8 + 4) }

theorem test_witness_DetectionStarts :
    ZooStarts R 3 (decode0 []).header ∧ ZooStarts R 3 (nms0 []).header ∧ ZooStarts R 3 nmsHeld.header ∧ HeaderOk R 3 nmsHeld.header 0x12 true (get? R.regions[(3 : Fin 10)].prevSeq (zooQueue 0x12 2 0)) :=
  ⟨zooStarts_of (by decide +kernel), zooStarts_of (by decide +kernel), zooStarts_of (by decide +kernel), headerOk_of (by decide +kernel)⟩

theorem test_witness_DetectionLeavesListsAndBatches :
    (hClass (decode0 []).header = 2 ∧ decodeOk (decode0 []) = true ∧ decodeOk (decode0 [(497, 1)]) = false ∧ nmsOk (nms0 []) = true ∧ nmsOk (nms0 [(272, 65525)]) = false ∧ hReleaseHold (nms0 []).header = false)
    ∧ (let d := decode0 []
       let cap := zf d 255 240
       let st := rmemAt 3 (hStatusAddr d.header)
       let list := rmemAt 3 (zf d 159 128)
       let reads := (headPlace 3 4 d, headBytes d) :: if zf d 501 501 = 1 then [] else [(rmemAt 3 (zf d 191 160), 8 * (zf d 488 485 + 1))]
       (∀ p ∈ (list, 8 + 24 * cap) :: reads, R.badPlace p.1 p.2 = false ∧ R.permits 2 p.1 p.2 false = true) ∧ R.permits 2 list (8 + 24 * cap) true = true ∧ R.markRead reads = none
        ∧ st.key + 16 ≤ list.key ∧ hReleaseHold d.header = false)
    ∧ (let d := decode0 [(152, 0xFF)]; decodeOk d = true ∧ R.badPlace (rmemAt 3 (zf d 159 128)) (8 + 24 * zf d 255 240) = true)
    ∧ (let d := nms0 []
       let st := rmemAt 3 (hStatusAddr d.header)
       let place := rmemAt 3 (zf d 319 288)
       let room := 32 + 48 * zf d 287 272
       let carryPlace := rmemAt 3 (zf d 351 320)
       let carryRoom := 8 + 64 * zf d 271 256
       let reads := (rmemAt 3 (zf d 383 352), 8 * (zf d 506 502 + 1)) :: (carryPlace, carryRoom) :: (R.listPlaces 3 d).map fun p => (p.1, p.2.1)
       (∀ p ∈ (place, room) :: reads, R.badPlace p.1 p.2 = false ∧ R.permits 2 p.1 p.2 false = true) ∧ R.permits 2 place room true = true ∧ R.permits 2 carryPlace carryRoom true = true
        ∧ R.markRead reads = none ∧ st.key + 16 ≤ place.key ∧ carryPlace.key ≠ place.key ∧ st.key + 16 ≤ carryPlace.key ∧ place.key + room ≤ carryPlace.key)
    ∧ (hReleaseHold nmsHeld.header = true ∧ R.bufferTakes (R.verdictOut 2) (releaseBeat R.beat (hReleaseBeat nmsHeld.header)) = true ∧ ∀ x ∈ R.streams[(2 : Fin 24)].closes, x.1 ≠ 5) := by decide +kernel

theorem test_witness_CarryTimeout :
    let s := carried0
    R.carryList 3 0xA000 = [] ∧ s.carryList 3 0xA000 ≠ [] ∧ s.detect[(2 : Fin 24)].carryAt = 0xA000 ∧ s.detect[(2 : Fin 24)].lastNms = some 77 ∧ R.detect[(2 : Fin 24)].lastNms = none
      ∧ 77 + 1000000 * s.nat (ob 0x3700 1) ≤ (s.advance 3000000000).now ∧ (s.advance 78).now < 77 + 1000000 * s.nat (ob 0x3700 1) ∧ (rmemAt 3 0xA000).inside 8 = true
      ∧ s.launch.run = none ∧ (inRun s).launch.run = some run0 := by decide +kernel

/-- Pool 0 of region 3, of class I, with BF16 latents of rank 64, and sequence 9 with its one page. -/
def seq9 (state : Nat) : KvSeq :=
  { pool := 0, length := 513, firstValid := 512, srcLog := 0x100, wdown := 0x8000, dSrc := 64, layers := 0, priority := 3, state := state, resident := false, srcFormat := 2, pinHead := 0, pinTail := 0 }

def page9 : Page := { entry := 0, crc := 0, frame := some 0, firstToken := 512, seq := 9, layer := 0, pins := 0, fill := 1, dropped := false, drops := 0, rows := [List.replicate 64 0] }

def pool0 (seqs : List (Nat × KvSeq)) (l : List (Key × Int)) : State :=
  with_ ([(poolObj 0 3, 3), (poolObj 0 4, 1), (poolObj 0 5, 64), (poolObj 0 6, 2)] ++ l)
    { R with launch := { R.launch with image := some { im0 with srcLogRows := 1024 } }, kv := { R.kv with seqs := seqs, pages := upd R.kv.pages 0 fun _ => if seqs.isEmpty then [] else [page9] } }

def append0 (sequence : Nat) (pool : Fin 4) : AppendDesc := { header := header2 0x11 1 0 1, queue := 2, pool := pool, sequence := sequence, source := 0x6000, tokens := 1, upsets := [] }

def page0 (pos0 pos1 priority : Nat) : PageDesc :=
  { header := header2 0x11 3 0 1, queue := 2, pool := 0, sequence := 9, pos0 := pos0, pos1 := pos1, value := 0, srcLog := 0x100, wdown := 0x8000, dSrc := 64, layers := 0, priority := priority, resident := false, srcFormat := 2,
    pinHead := 0, pinTail := 0 }

/-- ATTEND over positions 512 to 512 of sequence 9, one query and one head, a partial output. -/
def attend0 (more : List (Nat × Nat)) : ZooDesc :=
  { header := header2 0x11 2 0 4, queue := 2, body := body2 ([(500, 9), (453, 1), (416, 1), (384, 513), (352, 512), (320, 513), (256, 0x3F800000), (192, 0x400), (160, 0x800), (128, 0x9000), (64, 0x3F800000)] ++ more), upsets := [] }

theorem test_witness_AttentionHeaders :
    let s := pool0 [(9, seq9 1)] []
    HeaderOk s 3 (append0 9 0).header 0x11 true (get? s.regions[(3 : Fin 10)].prevSeq (zooQueue 0x11 2 0)) ∧ HeaderOk s 3 (page0 512 768 3).header 0x11 true (get? s.regions[(3 : Fin 10)].prevSeq (zooQueue 0x11 2 0))
      ∧ HeaderOk s 3 (attend0 []).header 0x11 true (get? s.regions[(3 : Fin 10)].prevSeq (zooQueue 0x11 2 0)) :=
  ⟨headerOk_of (by decide +kernel), headerOk_of (by decide +kernel), headerOk_of (by decide +kernel)⟩

theorem test_witness_AttentionAppends :
    let s := pool0 [(9, seq9 1)] []
    (appendOk (append0 9 0) = true ∧ s.flag (poolObj 0 1) = true ∧ s.nat (poolObj 0 3) = 3 ∧ s.nat (poolObj 0 2) = hClass (append0 9 0).header ∧ s.nat (poolObj 1 3) ≠ 3
      ∧ (with_ [(poolObj 0 2, 3)] s).nat (poolObj 0 2) ≠ 2 ∧ (with_ [(poolObj 0 1, 0)] s).flag (poolObj 0 1) = false)
    ∧ (s.seqOf 77 = none ∧ s.seqOf 9 = some (seq9 1) ∧ (pool0 [(9, seq9 2)] []).seqOf 9 = some (seq9 2) ∧ (seq9 2).state = 2 ∧ (seq9 1).pool = 0)
    ∧ (s.untrimmed + 1 ≤ 2 ^ 20 ∧ (seq9 1).length - (seq9 1).firstValid + 1 ≤ s.logRows ∧ (seq9 1).dSrc % 64 = 0 ∧ (append0 9 0).tokens = 1
      ∧ (∀ x ∈ s.appendPlaces 3 (seq9 1) (append0 9 0), s.badPlace x.1 x.2.1 = false ∧ s.permits 2 x.1 x.2.1 x.2.2 = true)
      ∧ s.badRecord 0 9 = false ∧ s.badEntries 0 (s.fillingPages 0 9) = [] ∧ s.markRead [(rmemAt 3 0x6000, rowBytes 2 64)] = none ∧ s.kvPlace 0 = none
      ∧ ∀ l ≤ (seq9 1).layers, ∃ x ∈ s.kv.pages[(0 : Fin 4)], x.seq = 9 ∧ x.layer = l ∧ x.firstToken = (seq9 1).length / 256 * 256)
    ∧ 2 ^ 20 < (pool0 [(9, { seq9 1 with length := 2 ^ 20, firstValid := 0 })] []).untrimmed + 1
    ∧ s.logRows < ({ seq9 1 with length := 1536 } : KvSeq).length - 512 + 1 := by decide +kernel

theorem test_witness_AttentionStarts :
    let s := pool0 [(9, seq9 1)] []
    ZooStarts s 3 (append0 9 0).header ∧ ZooStarts s 3 (page0 512 768 3).header ∧ ZooStarts s 3 (attend0 []).header :=
  ⟨zooStarts_of (by decide +kernel), zooStarts_of (by decide +kernel), zooStarts_of (by decide +kernel)⟩

/-- Pool 0 with its page table and sequence records in memory, at addresses of the image; and one without frames, for a sequence that begins a new page. -/
def placed0 (seqs : List (Nat × KvSeq)) : State := { pool0 seqs [] with launch := { (pool0 seqs []).launch with image := some { im0 with srcLogRows := 1024, kvPlaces := [(0, 0x100000, 0xB000)] } } }

def full0 : State := pool0 [(9, { seq9 1 with length := 768 })] [(poolObj 0 4, 0)]

theorem test_witness_AttentionRecordsAndFrames :
    (placed0 [(9, seq9 1)]).kvPlace 0 = some (0x100000, 0xB000) ∧ ((placed0 []).recordPlace 0 (0x100000, 0xB000) 9).inside 32 = true
    ∧ (((placed0 [(9, seq9 1)]).store ((placed0 []).recordPlace 0 (0x100000, 0xB000) 9) [1]).badRecord 0 9 = true)
    ∧ full0.ensureAll 0 9 1 768 1 false = none ∧ full0.kvPlace 0 = none ∧ full0.seqOf 9 = some { seq9 1 with length := 768 } := by decide +kernel

theorem test_witness_AttentionAttends :
    let s := pool0 [(9, seq9 1)] []
    let d := attend0 []
    (attendOk d = true ∧ aPool d = 0 ∧ af d 511 500 = 9 ∧ af d 497 491 ≤ (seq9 1).layers ∧ attendOk (attend0 [(473, 127)]) = false)
    ∧ (∀ x ∈ s.attendPlaces 3 d, s.badPlace x.1 x.2.1 = false ∧ s.permits 2 x.1 x.2.1 x.2.2 = true)
    ∧ (∃ x ∈ s.attendPlaces 3 (attend0 [(184, 0xFF)]), s.badPlace x.1 x.2.1 = true)
    ∧ (s.missingShard d (some 3) = some 3 ∧ s.missingShard d none = none ∧ aShards d = 1 ∧ s.droppedIn 0 9 [0] (af d 383 352) (af d 351 320) = []
      ∧ s.badRecord 0 9 = false ∧ s.badEntries 0 (s.rangePages 0 9 0 (s.ownRange 3 d)) = [] ∧ s.markRead (s.attendReads 3 d) = none ∧ hReleaseHold d.header = false)
    ∧ (outPlace 3 d 0 0).key ≠ 0 ∧ ((outPlace 3 d 0 0).space ≠ 1 ∨ (rmemAt 3 (hStatusAddr d.header)).key + 16 ≤ (outPlace 3 d 0 0).key) := by decide +kernel

theorem test_witness_PageControlsChangeTheirSequence :
    let s := pool0 [(9, seq9 1)] []
    let e := pool0 [] []
    (hOperation (page0 512 768 3).header = 3 ∧ e.seqOf 9 = none ∧ e.openOk (page0 512 768 3) = true ∧ e.openOk (page0 512 768 16) = false ∧ (s.seqOf 9).isSome = true)
    ∧ (512 % 256 = 0 ∧ (seq9 1).firstValid ≤ 512 ∧ 512 ≤ (seq9 1).length ∧ (seq9 1).length < 768)
    ∧ ((seq9 1).state = 1 ∧ s.droppedIn 0 9 (List.range ((seq9 1).layers + 1)) 512 768 = [] ∧ (seq9 2).state = 2 ∧ (seq9 1).state ≠ 2 ∧ (seq9 2).state ≠ 1) := by decide +kernel

/-! ## Hypotheses that are met: cameras, heads, sample intake -/

/-- Stream 2 captures line images into one stripe of two columns; triggers 5 and 6 wait for their lines. -/
def stream0 (l : List (Key × Int)) (f : Stream → Stream) : State :=
  with_ ([(camObj 2 1, 1), (camObj 2 5, 2), (camObj 2 4, 0)] ++ l)
    { R with
      launch := { R.launch with image := some { im0 with streams := [⟨2, [⟨3, 4, 0, 2, 0x100, 8, 64⟩], 0⟩] } }
      streams := upd R.streams 2 fun x => f { x with state := 2, started := true, triggers := [(5, 900000), (6, 950000)], tileOpen := true, tile := 0, counter := some 4 } }

/-- A received line with its counter value, two samples and an error. -/
def line0 (counter error : Nat) : CamLine := ⟨counter, 16, [3, 4], error, false, false⟩

theorem test_witness_CameraLinesArriveOrAreBlanked_lines :
    let s := stream0 [] id
    let x := s.streams[(2 : Fin 24)]
    let phase := 5 % max 1 (s.nat (camObj 2 9))
    let i := s.isp 2 phase
    (R.streams[(2 : Fin 24)].started = false ∧ x.started = true ∧ s.nat (camObj 2 4) ≠ 1 ∧ x.triggers = (5, 900000) :: [(6, 950000)] ∧ x.state ≠ 3 ∧ x.cut = none ∧ x.tileOpen = true ∧ x.tile = 5 / 1024
      ∧ 5 % 1024 ≠ 1023 ∧ s.counterStep 2 (line0 5 0) = 1 ∧ 0 < s.frozenLimit 2 ∧ get? x.hashes phase = none)
    ∧ (i.lineError (line0 5 0) = 0 ∧ i.lineError (line0 5 7) ≠ 0 ∧ (line0 5 0).inputFull = false ∧ (line0 5 0).creditMissing = false ∧ (s.advance 905000).now ≤ 900000 + s.nat (camObj 2 0x12) + s.nat (camObj 2 0x13)
      ∧ 900000 + s.nat (camObj 2 0x12) + s.nat (camObj 2 0x13) < (s.advance 100000000).now ∧ x.tileBlanks + 1 ≤ s.nat (camObj 2 0x14))
    ∧ (s.stripes 2 = [⟨3, 4, 0, 2, 0x100, 8, 64⟩] ∧ (⟨2, 3, 4, 0x100 + 5 * 64⟩ : MemRef).inside 64 = true) := by decide +kernel

/-- The stream between triggers, discovering, with its settings unacknowledged, and in an area frame of 40 lines. -/
def area0 : State :=
  stream0 [(camObj 2 4, 1), (camObj 2 6, 40)] fun x => { x with lineOfFrame := 3, frame := (0, 900000), rows := [(false, [1]), (false, [1]), (false, [1])], rowsDone := 3 }

theorem test_witness_CameraLinesArriveOrAreBlanked :
    let s := stream0 [] id
    let z := stream0 [] fun x => { x with triggers := [], tileOpen := false, missedAt := some 5 }
    (s.streams[(2 : Fin 24)].state ≠ 1 ∧ (stream0 [] fun x => { x with state := 1 }).streams[(2 : Fin 24)].state = 1 ∧ (z.streams[(2 : Fin 24)].triggers = [] ∧ z.streams[(2 : Fin 24)].started = true))
    ∧ (let x := area0.streams[(2 : Fin 24)]
       let i := area0.isp 2 (x.frame.1 % max 1 (area0.nat (camObj 2 9)))
       area0.nat (camObj 2 4) = 1 ∧ x.lineOfFrame ≠ 0 ∧ x.counter = some (line0 4 0).counter ∧ (area0.advance 905000).now ≤ x.frame.2 + area0.nat (camObj 2 0x12) + area0.nat (camObj 2 0x13)
        ∧ x.lineOfFrame + 1 < i.height ∧ (x.lineOfFrame + 1) % 1024 ≠ 0 ∧ x.lineOfFrame ≠ i.lastHashed ∧ i.lineError (line0 4 0) = 0)
    ∧ (900000 + s.nat (camObj 2 0x12) + s.nat (camObj 2 0x13) ≤ (s.advance 100000000).now ∧ (s.advance 900001).now < 900000 + s.nat (camObj 2 0x12) + s.nat (camObj 2 0x13)
      ∧ (stream0 [] fun x => { x with state := 3 }).streams[(2 : Fin 24)].state = 3)
    ∧ (z.silentSince 2 = some 5 ∧ 5 + 1000 * z.nat (crustStream 2 2) ≤ (z.advance 10000000000).now ∧ (z.advance 6).now < 5 + 1000 * z.nat (crustStream 2 2) ∧ R.silentSince 2 = none
      ∧ z.nat (crustStream 2 4) = 0 ∧ (with_ [(crustStream 2 4, 1)] z).nat (crustStream 2 4) ≠ 0)
    ∧ ((stream0 [] fun x => { x with settings := [(9, 500)] }).streams[(2 : Fin 24)].settings.filter fun e => decide (e.2 ≤ ((stream0 [] fun x => { x with settings := [(9, 500)] }).advance 500).now)).getLast? = some (9, 500)
    ∧ (24 ≤ leAt (24 :: List.replicate 9 0) 0 1 ∧ leAt (2 :: 1 :: List.replicate 8 0) 0 1 = 2 ∧ leAt (2 :: 1 :: List.replicate 8 0) 1 1 = 1 ∧ leAt (2 :: 2 :: List.replicate 8 0) 1 1 = 2) := by decide +kernel

theorem test_witness_CameraRegisters : WritesAct (stream0 [] id) .pcie ∧ WritesAct R .pcie :=
  ⟨writesAct_of (serverFree_of (by decide +kernel)) (by decide +kernel), writesAct_of (serverFree_of (by decide +kernel)) (by decide +kernel)⟩

/-- A head's identity, and head 3 enabled, trusted and driven. -/
def memory0 : HeadMemory := ⟨leBytes 2 0xA1C3 ++ leBytes 2 1 ++ List.replicate 16 5 ++ List.replicate 4 0 ++ leBytes 8 1000 ++ leBytes 4 100 ++ List.replicate 8 1 ++ leBytes 2 1000 ++ List.replicate 18 1, [], []⟩

def head0 (l : List (Key × Int)) (f : Head → Head) : State :=
  with_ ([(headObj 3 1, 1)] ++ l) { R with heads := upd R.heads 3 fun x => f { x with state := 3, safe := false, serial := [1], identity := memory0.identity, means := [0x3F800000, 0x40000000], pulses := 5, unsaved := 7 } }

/-- No tag of a head is empty: an empty response is a wrong one. -/
theorem test_witness_HeadResponses (k m : Bytes) : ([] : Bytes) ≠ (hmac k m).take 16 := fun h => by
  have h2 := congrArg List.length h
  rw [List.length_take, hmac, sha256_length] at h2
  exact absurd h2 (by decide)

theorem test_witness_HeadsAreAuthenticatedWornAndDriven :
    let s := head0 [] id
    let x := s.heads[(3 : Fin 12)]
    (R.headOn 3 = false ∧ s.headOn 3 = true ∧ x.silentTries ≠ 2 ∧ (head0 [] fun x => { x with silentTries := 2 }).heads[(3 : Fin 12)].silentTries = 2)
    ∧ (leAt memory0.identity 0 2 = 0xA1C3 ∧ leAt memory0.identity 2 2 = 1 ∧ leAt ([] : Bytes) 0 2 ≠ 0xA1C3)
    ∧ (x.serial ≠ [] ∧ x.serial ≠ [2] ∧ (head0 [] fun x => { x with serial := [] }).heads[(3 : Fin 12)].serial = [])
    ∧ (x.state ≠ 2 ∧ x.safe = false ∧ x.lifeReached 900 = false ∧ x.noWear = false ∧ (head0 [] fun x => { x with state := 2, safe := true }).heads[(3 : Fin 12)].state = 2)
    ∧ (x.means ≠ [] ∧ (head0 [] fun x => { x with means := [] }).heads[(3 : Fin 12)].means = [] ∧ (head0 [(headObj 3 9, 0)] id).flag (headObj 3 9) = false)
    ∧ (x.driveDue = none ∧ (head0 [] fun x => { x with driveDue := some (500, 7, 900000) }).heads[(3 : Fin 12)].driveDue = some (500, 7, 900000)) := by decide +kernel

/-- A target above the mean, so that the drive changes, and one equal to it. -/
theorem test_witness_Compensation :
    let s := head0 [(headObj 3 7, 0x3FC51EB8)] id
    let x := s.heads[(3 : Fin 12)]
    let m := meanOfMeans x.means
    let step := driveStep (s.nat (headObj 3 8)) (num32 (s.nat (headObj 3 7))) (num32 m) x.maxDrive
    s.flag (headObj 3 9) = true ∧ x.capture = false ∧ (num32 (s.nat (headObj 3 7))).isZero = false ∧ (num32 m).isZero = false ∧ (num32 m).neg = false ∧ (num32 m).special = false ∧ x.atLimit = false
      ∧ (x.untrustedAt.isSome && x.trustedAt.isNone) = false ∧ x.endOfLife = false ∧ ((Exact.ofInt x.maxDrive).sub step.2).neg = false := by decide +kernel

theorem test_witness_HeadsAreFree : WritesAct (head0 [] id) .pcie ∧ ChecksPass (head0 [] id) 5 (headObj 3 0x0A) (.int 1) :=
  ⟨writesAct_of (serverFree_of (by decide +kernel)) (by decide +kernel), checksPass_of (by decide +kernel)⟩

/-- Queue 1 of the intake with three submitted entries in a running launch, and its buffers. -/
def intake0 (l : List (Key × Int)) (f : Intake → Intake) : State :=
  with_ ([(intakeObj 1 1, 1), (intakeObj 1 8, 2), (intakeObj 1 9, 1), (intakeObj 1 0x0A, 1), (intakeObj 1 7, 2), (intakeObj 1 0x14, 3)] ++ l)
    { R with launch := { R.launch with state := .running, run := some run0, image := some im0 }, intake := upd R.intake 1 f }

def idle0 (f : Intake → Intake) : State := { intake0 [] f with launch := R.launch }

/-- An entry of a sample of two by one pixels in a format. -/
def sampleEntry (format : Nat) : BitVec 256 := BitVec.ofNat 256 (64 * 2 ^ 160 + 2 * 2 ^ 144 + 2 ^ 128 + format * 2 ^ 124 + 2 ^ 120 + 77)

def sample0 (site : Nat) (done : Bool) : Sample :=
  { submission := 0, label := 77, site := site, status := 0, reason := 0, width := 2, height := 1, codes := [7, 9], done := done, offered := 0, length := 64, maxTok := 5000 }

theorem test_witness_IntakeTakesChecksAndBatches :
    let s := intake0 [] id
    let x := s.intake[(1 : Fin 8)]
    (s.flag (intakeObj 1 1) = true ∧ R.flag (intakeObj 1 1) = false ∧ s.running = true ∧ x.consumed < s.nat (intakeObj 1 0x14) ∧ x.reorder = [] ∧ x.current.length < s.nat (intakeObj 1 7) ∧ x.partial_ = false ∧ x.flushAt = [])
    ∧ ((match s.checkEntry 1 (sampleEntry 3) (some [1]) 0 with | .inl r => r == 1 | .inr _ => false) = true
      ∧ (match s.checkEntry 1 (sampleEntry 0) (some [1]) 0 with | .inl _ => false | .inr c => c.width == 2) = true)
    ∧ (let a := intake0 [] fun y => { y with reorder := [sample0 1 false], consumed := 1 }
       a.intake[(1 : Fin 8)].reorder = [sample0 1 false] ∧ (sample0 1 false).site ≠ 2 ∧ (sample0 1 false).done = false ∧ s.nat (intakeObj 1 0x0A) = 1 ∧ ([7, 9] : List Nat).length = 2 * 1 * 1
        ∧ ({ sample0 1 false with length := 2 } : Sample).length = ([7, 9] : List Nat).length * (1 + 0))
    ∧ (let a := intake0 [] fun y => { y with reorder := [sample0 2 false], consumed := 1 }
       a.intake[(1 : Fin 8)].reorder = [sample0 2 false] ∧ (sample0 2 false).site = 2 ∧ (sample0 2 false).submission % 256 = (0 : Fin 256).val ∧ (a.advance 5).now < 0 + 1000 * a.nat (intakeObj 1 0x11)
        ∧ 0 + 1000 * a.nat (intakeObj 1 0x11) ≤ (a.advance 100000000).now)
    ∧ (let b := intake0 [] fun y => { y with current := [sample0 1 true, sample0 1 true], consumed := 2 }
       b.nat (intakeObj 1 7) ≤ b.intake[(1 : Fin 8)].current.length ∧ 0 < min (b.nat (intakeObj 1 0x13)) (b.intake[(1 : Fin 8)].credits + 1) ∧ b.intake[(1 : Fin 8)].flushAt = []
        ∧ (⟨0, 0, 0, b.nat (intakeObj 1 0x12) + 0 % max 1 (b.nat (intakeObj 1 0x13)) * (b.batchBytes 1).length⟩ : MemRef).inside (b.batchBytes 1).length = true) := by decide +kernel

/-- A descriptor of the decode engine, of class I, for a queue of region 3. -/
def decoding0 : State := intake0 [(intakeObj 1 2, 2), (intakeObj 1 4, 3)] fun y => { y with reorder := [sample0 0 false], consumed := 1 }

theorem test_witness_SampleDecodes :
    (ZooStarts decoding0 3 (header0 0x14 0) ∧ HeaderOk decoding0 3 (header0 0x14 0) 0x14 (hClass (header0 0x14 0) == decoding0.nat (intakeObj 1 2)) (get? decoding0.regions[(3 : Fin 10)].prevSeq (zooQueue 0x14 2 0)))
    ∧ (decoding0.intakeRegion 1 = some 3 ∧ decoding0.intake[(1 : Fin 8)].reorder = [sample0 0 false] ∧ (sample0 0 false).submission = 0 ∧ (sample0 0 false).site ≠ 2 ∧ (sample0 0 false).maxTok < 6000
      ∧ headerInvalid (header0 2 0) 0x14 = true ∧ decoding0.intake[(1 : Fin 8)].current.length < decoding0.nat (intakeObj 1 7)
      ∧ 256 ≤ (intake0 [] fun y => { y with reorder := List.replicate 256 (sample0 0 false) }).intake[(1 : Fin 8)].reorder.length) :=
  ⟨⟨zooStarts_of (by decide +kernel), headerOk_of (by decide +kernel)⟩, by decide +kernel⟩

theorem test_witness_IntakeFlushes :
    (WritesAct (idle0 id) .pcie ∧ ChecksPass (idle0 id) 5 (intakeObj 1 0x14) (.int 9) ∧ ChecksPass (idle0 id) 5 (intakeObj 1 0x15) (.int 1))
    ∧ (idle0 id).intake[(1 : Fin 8)].consumed - (idle0 id).intake[(1 : Fin 8)].reorder.length < (idle0 id).nat (intakeObj 1 0x14)
    ∧ (let s := idle0 fun y => { y with current := [sample0 1 true], consumed := 3 }; WritesAct s .pcie ∧ ChecksPass s 5 (intakeObj 1 0x15) (.int 1)
        ∧ s.nat (intakeObj 1 0x14) ≤ s.intake[(1 : Fin 8)].consumed ∧ s.intake[(1 : Fin 8)].reorder = [] ∧ s.intake[(1 : Fin 8)].current ≠ [] ∧ s.intake[(1 : Fin 8)].current.length < s.nat (intakeObj 1 7) ∧ s.intake[(1 : Fin 8)].flushAt = []) :=
  ⟨⟨writesAct_of (serverFree_of (by decide +kernel)) (by decide +kernel), checksPass_of (by decide +kernel), checksPass_of (by decide +kernel)⟩, by decide +kernel,
    writesAct_of (serverFree_of (by decide +kernel)) (by decide +kernel), checksPass_of (by decide +kernel), by decide +kernel, by decide +kernel, by decide +kernel, by decide +kernel, by decide +kernel⟩

/-- The drive that the first target asks for is another one than the present, and the checks accept it; the second asks for no change. -/
theorem test_witness_CompensationSteps :
    let step := fun s : State => (driveStep (s.nat (headObj 3 8)) (num32 (s.nat (headObj 3 7))) (num32 (meanOfMeans s.heads[(3 : Fin 12)].means)) s.heads[(3 : Fin 12)].maxDrive).1
    let s := head0 [(headObj 3 7, 0x3FC51EB8)] id
    let e := head0 [(headObj 3 7, 0x3FC00000)] id
    step s ≠ s.nat (headObj 3 8) ∧ ((s.advance 5).endInterval 3).1.takeIdent.firstFailing [(headObj 3 8, .int (step s).toNat)] = none ∧ step e = e.nat (headObj 3 8) := by decide +kernel

/-- A number of an earlier sample of a slot, and a timer that has not come yet, is due or is not due again. -/
theorem test_witness_TimersAndEarlierSamples :
    (R.due none 100000 = true ∧ (R.advance 100000).due (some 5) 100000 = false ∧ (R.advance 100005).due (some 5) 100000 = true)
    ∧ (4 < 260 ∧ 4 % 256 = 260 % 256)
    ∧ (R.power.tempsAt = none ∧ R.power.ageingAt = none ∧ R.launch.repeatAt = none ∧ R.net.qps[(9 : Fin 256)].timerAt = none ∧ R.crust.srdos[(0 : Fin 8)].sentAt = none
      ∧ R.time.syncSent[(2 : Fin 8)] = none ∧ R.time.announceSent[(2 : Fin 8)] = none ∧ R.time.domains[(0 : Fin 2)].requestAt = none)
    ∧ (let x := (head0 [] id).heads[(3 : Fin 12)]; x.polledAt = none ∧ x.wearAt = none ∧ x.intervalAt = none)
    ∧ ((head0 [] id).authDue 3 = true ∧ (inRun (head0 [] fun x => { x with authAt := some 0 })).authDue 3 = false) := by decide +kernel

/-- Converter 4 starts with the beat, converter 5 at an edge of channel 7; axis 2 latches its SSI position ahead of a sample count. -/
theorem test_witness_SamplesAreDue :
    let s := with_ [(ob 0x4012 1, 1)] (moving cmd0)
    (s.adcSource 4 = 0 ∧ (s.advance (1000000 - s.nat (ob 0x4040 0x21))).adcDue 4 = true ∧ (s.advance 7).adcDue 4 = false ∧ 3 + 500 ≤ (s.advance (1000000 - s.nat (ob 0x4040 0x21))).now
      ∧ (s.advance 1).now < 3 + 500)
    ∧ (let e := with_ [(ob 0x4040 6, 2 + 256 * 7)] { s with time := { s.time with lastEdge := upd s.time.lastEdge 7 fun _ => some 500 } }; (e.advance 500).adcDue 5 = true)
    ∧ (s.advance (1000000 - s.nat (axisObj 2 0x0D))).ssiDue 2 = true ∧ (s.advance 7).ssiDue 2 = false
    ∧ s.nat (ob (0x4010 + 2) 0x0A) ≠ 1 ∧ (with_ [(ob 0x4012 0x0A, 1)] s).nat (ob (0x4010 + 2) 0x0A) = 1
    ∧ s.motion.axes[(2 : Fin 16)].legStuck 1 = false
    ∧ ({ s.motion.axes[(2 : Fin 16)] with stuckB := true } : Axis).legStuck 1 = true := by decide +kernel

end Sys2Proof.Tests
end

/-!
The family of spec/00_scope.md: counts of well-formed commands (O6), and single writes at a free dictionary server (O15).
-/

namespace Sys2Proof

/-! ## Counts of well-formed commands -/

/-- Each command's conditions begin with that of its count. -/
theorem Instr.uw_time_of_wf (c : Instr) (h : c.wf = true) : uw 64 c.time = true := by
  cases c
  all_goals
    dsimp only [Instr.wf, Instr.time] at h ⊢
    repeat with_reducible replace h := Laws.TimeOfWf.left h
    exact h

/-- Settles O6: the condition on the count is the first of every command's. -/
theorem wellFormedCommandsHaveCounts : Obligations.WellFormedCommandsHaveCounts :=
  fun c h => Laws.TimeOfWf.of_uw _ (c.uw_time_of_wf h)

end Sys2Proof

namespace Sys2Proof.Machine

/-! ## Written numbers -/

theorem leBytes_succ (k n : Nat) : leBytes (k + 1) n = BitVec.ofNat 8 n :: leBytes k (n >>> 8) := by
  unfold leBytes
  rw [List.range_succ_eq_map, List.map_cons, List.map_map]
  congr 1
  refine List.map_congr_left fun i _ => ?_
  rw [Function.comp_apply, ← Nat.shiftRight_add, Nat.mul_succ, Nat.add_comm]

theorem leBytes_length (k n : Nat) : (leBytes k n).length = k := by simp [leBytes]

theorem leNat_leBytes (k n : Nat) : leNat (leBytes k n) = n % 2 ^ (8 * k) := by
  induction k generalizing n with
  | zero => simp [leBytes, leNat, Nat.mod_one]
  | succ k ih =>
    calc leNat (leBytes (k + 1) n)
        = n % 2 ^ 8 + 2 ^ 8 * leNat (leBytes k (n >>> 8)) := by rw [leBytes_succ]; simp [leNat]
      _ = n % (2 ^ 8 * 2 ^ (8 * k)) := by rw [ih, Nat.mod_mul, Nat.shiftRight_eq_div_pow]
      _ = n % 2 ^ (8 * (k + 1)) := by rw [← Nat.pow_add, Nat.mul_succ, Nat.add_comm]

/-- A number that an unsigned type of whole bytes holds is read back from the bytes that spell it. -/
theorem Ty.decode_encode_u {w : Nat} (hw : 8 * (w / 8) = w) {v : Val} (hv : (Ty.u w).fits v = true) :
    (Ty.u w).decode ((Ty.u w).encode v) = some v := by
  cases v with
  | bytes b => simp [Ty.fits] at hv
  | int n =>
    obtain ⟨hlo, hhi⟩ : 0 ≤ n ∧ n < 2 ^ w := of_decide_eq_true hv
    have hpat : pattern w n = n.toNat := by rw [pattern, Int.emod_eq_of_lt hlo hhi]
    have hlt : n.toNat < 2 ^ w := by
      have hn := Int.toNat_of_nonneg hlo
      zify
      omega
    simp [Ty.encode, Ty.decode, Ty.size, leBytes_length, leNat_leBytes, hw, hpat, Nat.mod_eq_of_lt hlt, hlo]

/-! ## Values of objects -/

/-- An object's value is read from the active parameter set of the Crust and from the dictionary's active values, and from nothing else. -/
theorem State.obj_congr {s u : State} {key : Key} (hcrust : u.crust = s.crust) (hget : get? u.dict.active key = get? s.dict.active key) :
    u.obj key = s.obj key := by
  unfold State.obj
  rw [hcrust, hget]

theorem State.get?_setObj_self (s : State) (key : Key) (v : Val) :
    get? (s.setObj key v).dict.active key = if v = defaultOf key then none else some v := by
  simp only [State.setObj, State.modDict_dict]
  split
  · exact get?_del_self _ _
  · exact get?_put_self _ _ _

theorem State.get?_setObj_other (s : State) {key k : Key} (v : Val) (h : k ≠ key) :
    get? (s.setObj key v).dict.active k = get? s.dict.active k := by
  simp only [State.setObj, State.modDict_dict]
  split
  · exact get?_del_other _ _ _ h
  · exact get?_put_other _ _ _ _ h

theorem State.obj_setObj_other (s : State) {key k : Key} (v : Val) (h : k ≠ key) : (s.setObj key v).obj k = s.obj k :=
  State.obj_congr rfl (s.get?_setObj_other v h)

theorem State.obj_bump_other (s : State) {key k : Key} (n : Nat) (h : k ≠ key) : (s.bump key n).obj k = s.obj k :=
  s.obj_setObj_other _ h

/-! ## Recording a fault neither reads nor changes the dictionary server -/

section
variable (s : State) (f : Server → Server)

theorem State.modServer_modLog (g : FaultLog → FaultLog) : (s.modServer f).modLog g = (s.modLog g).modServer f := rfl

theorem State.modServer_modNode (g : CanNode → CanNode) : (s.modServer f).modNode g = (s.modNode g).modServer f := rfl

theorem State.modServer_bump (key : Key) (n : Nat) : (s.modServer f).bump key n = (s.bump key n).modServer f := rfl

theorem State.modServer_countChip (k : Fin 16) (n : Nat) : (s.modServer f).countChip k n = (s.countChip k n).modServer f := rfl

theorem State.modServer_nodeFrame (o : Output) : (s.modServer f).nodeFrame o = (s.nodeFrame o).modServer f := by
  unfold State.nodeFrame State.frameOn
  rw [apply_ite (State.modServer · f)]
  rfl

theorem State.modServer_sendEmcy (m : Emcy) : (s.modServer f).sendEmcy m = (s.sendEmcy m).modServer f := by
  unfold State.sendEmcy
  rw [State.modServer_nat, State.modServer_nodeFrame]
  rfl

theorem State.modServer_queueEmcy (m : Emcy) : (s.modServer f).queueEmcy m = (s.queueEmcy m).modServer f := by
  unfold State.queueEmcy
  simp only [State.modServer_nat, State.modServer_sendEmcy, apply_ite (State.modServer · f)]
  rfl

theorem State.modServer_sendWire (o : Output) : (s.modServer f).sendWire o = (s.sendWire o).modServer f := by
  unfold State.sendWire
  rw [apply_ite (State.modServer · f)]
  rfl

theorem State.modServer_announceBasaris (r : FaultRec) : (s.modServer f).announceBasaris r = (s.announceBasaris r).modServer f := by
  unfold State.announceBasaris
  have hfold := List.foldl_hom (State.modServer · f) (g₁ := fun acc b => acc.sendWire (s.wire b.key b.peer b.num 0x07 0 b.txSeq 0 r.bytes))
    (g₂ := fun acc b => acc.sendWire (s.wire b.key b.peer b.num 0x07 0 b.txSeq 0 r.bytes)) (l := s.basaris.sessions) (init := s)
    fun x b => State.modServer_sendWire x f _
  exact congrArg (State.modBasaris · _) hfold

theorem State.modServer_announcePcie (r : FaultRec) : (s.modServer f).announcePcie r = (s.announcePcie r).modServer f := by
  unfold State.announcePcie
  simp only [apply_ite (State.modServer · f)]
  rfl

theorem State.modServer_announce (r : FaultRec) : (s.modServer f).announce r = (s.announce r).modServer f := by
  unfold State.announce
  rw [apply_ite (State.modServer · f)]
  show (if r.cls < s.nat (ob 0x5810 7) then _ else ((((s.modServer f).queueEmcy _).announceBasaris r).announcePcie r).emit _) = _
  rw [State.modServer_queueEmcy, State.modServer_announceBasaris, State.modServer_announcePcie]
  rfl

theorem State.modServer_record (r : FaultRec) : (s.modServer f).record r = (s.record r).modServer f := by
  unfold State.record
  simp only [State.modServer_nat, State.modServer_log]
  split
  · rfl
  · rw [State.modServer_modLog, State.modServer_announce, State.modServer_countChip]

theorem State.modServer_recordFault (code : Nat) (loc : Loc) (detail part : Nat) :
    (s.modServer f).recordFault code loc detail part = (s.recordFault code loc detail part).modServer f :=
  State.modServer_record s f _

theorem State.modServer_tellDisplaced (before : Nat) : (s.modServer f).tellDisplaced before = (s.tellDisplaced before).modServer f := by
  unfold State.tellDisplaced
  simp only [State.modServer_nat, State.modServer_node, State.modServer_now, State.modServer_modNode, State.modServer_recordFault,
    apply_ite (State.modServer · f)]

theorem State.modServer_fault (code : Nat) (loc : Loc) (detail part : Nat) :
    (s.modServer f).fault code loc detail part = (s.fault code loc detail part).modServer f := by
  unfold State.fault
  rw [State.modServer_nat, State.modServer_recordFault, State.modServer_tellDisplaced]

/-- A state is itself with its own server, so what commutes with every change of the server keeps the server. -/
@[simp] theorem State.fault_server (code : Nat) (loc : Loc) (detail part : Nat) : (s.fault code loc detail part).server = s.server := by
  calc (s.fault code loc detail part).server
      = ((s.modServer fun _ => s.server).fault code loc detail part).server := rfl
    _ = s.server := by rw [State.modServer_fault, State.modServer_server]

end

/-! ## Outcomes of commits that no request waits for -/

section
variable {s : State}

/-- No request is held, so none waits for the outcome. -/
theorem State.settle_idle (hworks : s.server.works = []) (ident code : Nat) : s.settle ident code = s := by
  unfold State.settle State.modServer
  dsimp only
  rw [hworks, List.map_nil, ← hworks]

theorem State.recordOutcome_idle (hworks : s.server.works = []) (ident code detail : Nat) (applied : Option Nat) :
    s.recordOutcome ident code detail applied
      = (s.modCommit fun c => { c with lastResult := code, lastDetail := detail, lastBeat := applied.getD c.lastBeat }).bump
          (if code = 0 then ob 0x2010 0x0A else ob 0x2010 0x0B) := by
  rw [State.recordOutcome, State.settle_idle]
  exact hworks

theorem State.recordOutcome_server (hworks : s.server.works = []) (ident code detail : Nat) (applied : Option Nat) :
    (s.recordOutcome ident code detail applied).server = s.server := by
  rw [State.recordOutcome_idle hworks]
  rfl

end

end Sys2Proof.Machine

namespace Sys2Proof

open Machine

/-! ## The bookkeeping of a request -/

theorem ServerFree.advance {s : State} {ses : Session} (h : ServerFree s ses) (t : Nat) : ServerFree (s.advance t) ses :=
  ⟨h.works, h.latched, h.group, h.implicit, h.instant, h.owed⟩

theorem Books.refl (s : State) : Books s s := ⟨rfl, fun _ _ => rfl⟩

theorem Books.trans {s u w : State} (hsu : Books s u) (huw : Books u w) : Books s w :=
  ⟨huw.1.trans (by rw [hsu.1]), fun k hk => (huw.2 k hk).trans (hsu.2 k hk)⟩

/-- What the server does when a request is done: the turn passes on, the request is counted, its answer leaves. -/
theorem Books.answered (s : State) (turn : Nat) (o : Output) :
    Books s (((s.modServer fun v => { v with turn := turn }).bump (ob 0x2020 0x0A)).emit o) :=
  ⟨rfl, fun _ hk => State.obj_bump_other (s.modServer fun v => { v with turn := turn }) 1 fun h => hk (by simp [h])⟩

/-- A commit that no request waits for: it takes an identifier, its outcome is recorded and counted. -/
theorem Books.committed {s : State} (hworks : s.server.works = []) (code detail : Nat) :
    Books s (s.takeIdent.recordOutcome s.takeIdent.commit.lastIdent code detail none) := by
  rw [State.recordOutcome_idle (s := s.takeIdent) hworks]
  refine ⟨rfl, fun k hk => State.obj_bump_other _ 1 fun h => hk ?_⟩
  subst h
  split <;> simp

/-- The same write on both sides of the bookkeeping. -/
theorem Books.setObj {s u : State} (h : Books s u) (key : Key) (v : Val) : Books (s.setObj key v) (u.setObj key v) := by
  have hcrust : u.crust = s.crust := by rw [h.1]
  refine ⟨(congrArg (State.setObj · key v) h.1).trans rfl, fun k hk => ?_⟩
  by_cases hkey : k = key
  · subst hkey
    exact State.obj_congr hcrust ((u.get?_setObj_self k v).trans (s.get?_setObj_self k v).symm)
  · rw [State.obj_setObj_other u v hkey, State.obj_setObj_other s v hkey, h.2 k hk]

end Sys2Proof

namespace Sys2Proof.Machine

/-! ## Objects whose range depends on no other value -/

/-- The quiet objects and the signatures of store and restore (R109). -/
def plainKeys : List Key := quietKeys ++ [ob 0x1010 1, ob 0x1011 1]

theorem mem_plainKeys_of_quiet {key : Key} (h : key ∈ quietKeys) : key ∈ plainKeys := List.mem_append_left _ h

section
variable {key : Key}

theorem quietKeys_cases (h : key ∈ quietKeys) : key = ob 0x5810 7 ∨ key = ob 0x5810 8 ∨ key = ob 0x1015 0 ∨ key = ob 0x1017 0 := by
  simpa [quietKeys] using h

theorem plainKeys_cases (h : key ∈ plainKeys) :
    key = ob 0x5810 7 ∨ key = ob 0x5810 8 ∨ key = ob 0x1015 0 ∨ key = ob 0x1017 0 ∨ key = ob 0x1010 1 ∨ key = ob 0x1011 1 := by
  simpa [plainKeys, quietKeys] using h

theorem rangeOk_plain (h : key ∈ plainKeys) (c : State) : c.rangeOk key = true := by
  rcases plainKeys_cases h with rfl | rfl | rfl | rfl | rfl | rfl <;> rfl

theorem submitRefused_plain (h : key ∈ plainKeys) (s : State) (n : Nat) : s.submitRefused key n = none := by
  rcases plainKeys_cases h with rfl | rfl | rfl | rfl | rfl | rfl <;> rfl

theorem refusalOf_plain (h : key ∈ plainKeys) (s c : State) (n : Nat) : s.refusalOf c key n = 0 := by
  rcases plainKeys_cases h with rfl | rfl | rfl | rfl | rfl | rfl <;> rfl

theorem crustClamp_plain (h : key ∈ plainKeys) (s : State) (n : Int) : s.crustClamp key n = none := by
  rcases plainKeys_cases h with rfl | rfl | rfl | rfl | rfl | rfl <;> rfl

/-- None of them is an object of the trigger channels 48 to 59, which the device sets itself (R400), nor the object that a Basaris session may not write. -/
theorem place_plain : ∀ key ∈ plainKeys, ¬ (0x2240 ≤ key / 256 ∧ key / 256 ≤ 0x224B) ∧ key ≠ ob 0x2020 4 := by decide

theorem rowOf_plain : ∀ key ∈ plainKeys, (rowOf key).any fun r => r.acc == .rw && (r.ty == .u 8 || r.ty == .u 16 || r.ty == .u 32) := by decide

theorem row_plain {r : Row} (h : key ∈ plainKeys) (hrow : rowOf key = some r) : r.acc = .rw ∧ ∃ w, r.ty = .u w ∧ 8 * (w / 8) = w := by
  have hany := rowOf_plain key h
  rw [hrow, Option.any_some] at hany
  simp only [Bool.and_eq_true, Bool.or_eq_true, beq_iff_eq] at hany
  obtain ⟨hacc, (hty | hty) | hty⟩ := hany
  · exact ⟨hacc, 8, hty, rfl⟩
  · exact ⟨hacc, 16, hty, rfl⟩
  · exact ⟨hacc, 32, hty, rfl⟩

theorem clsOf_quiet : ∀ key ∈ quietKeys, clsOf key = .instant := by decide

theorem immediateKey_quiet : ∀ key ∈ quietKeys, immediateKey key = false := by decide

theorem calmIndex_quiet : ∀ key ∈ quietKeys, calmIndex (key / 256) = true := by decide

/-- A quiet object holds its value, opens no RDMA window, and has no limit of the Crust. -/
theorem valueKey_quiet : ∀ key ∈ quietKeys, commandKey key = false ∧ windowKey key = false ∧ boundedKeys.contains key = false := by decide

theorem act_quiet (h : key ∈ quietKeys) (s : State) (v : Val) (count : Nat) (g : Given) : s.act key v count g = s := by
  rcases quietKeys_cases h with rfl | rfl | rfl | rfl <;> rfl

theorem tagStreams_quiet (h : key ∈ quietKeys) (s : State) (count : Nat) : s.tagStreams [key] count = s := by
  rcases quietKeys_cases h with rfl | rfl | rfl | rfl <;> rfl

end

/-! ## What the server does with one write item -/

theorem State.touchGroup_serving (s : State) (ses : Session) (key : Key) (it : Item) (g : Given) :
    (s.serving ses it g).touchGroup ses key = (s.touchGroup ses key).serving ses it g := by
  unfold State.touchGroup State.serving
  rw [apply_ite (State.modServer · _)]
  rfl

theorem State.touchGroup_server (s : State) (ses : Session) (key : Key) : (s.touchGroup ses key).server = s.server := by
  unfold State.touchGroup
  split <;> rfl

/-- A session that owns no group keeps none open by its writes. -/
theorem State.touchGroup_of_not_owner {s : State} {ses : Session} (h : s.commit.owner ≠ some ses) (key : Key) : s.touchGroup ses key = s :=
  if_neg fun hown => h hown.1

/-- A write that is neither a command of the group nor a staging write does not start the idle time anew. -/
theorem State.touchGroup_immediate (s : State) (ses : Session) {key : Key} (himm : immediateKey key = true) (hcmd : key ≠ ob 0x2010 1) :
    s.touchGroup ses key = s := by
  simp [State.touchGroup, himm, hcmd]

section
variable (s : State) (ses : Session) {key : Key} {r : Row} (v : Val) (g : Given)

theorem State.serveWrite_missing (hrow : rowOf key = none) :
    s.serveWrite ses (writeItem key v) g = (s, .now (missingCode key) [], 0, []) := by
  have hkey : ob (writeItem key v).index (writeItem key v).sub = key := ob_parts key
  simp only [State.serveWrite, hkey, hrow]

/-- Outside the objects of the trigger channels that the device sets itself (R400), a write is served by its object's access code (R18). -/
theorem State.serveWrite_readOnly (hrow : rowOf key = some r) (hplace : key / 256 < 0x2240 ∨ 0x224B < key / 256) (hacc : r.acc = .ro ∨ r.acc = .const) :
    s.serveWrite ses (writeItem key v) g = (s, .now 0x06010002 [], 0, []) := by
  have hkey : ob (writeItem key v).index (writeItem key v).sub = key := ob_parts key
  have hidx : ¬ (0x2240 ≤ (writeItem key v).index ∧ (writeItem key v).index ≤ 0x224B) :=
    fun h => hplace.elim (Nat.not_lt.mpr h.1) (Nat.not_lt.mpr h.2)
  simp only [State.serveWrite, hkey, hrow, if_neg hidx]
  rcases hacc with hacc | hacc <;> simp only [hacc]

theorem State.serveWrite_crust (hrow : rowOf key = some r) (hplace : key / 256 < 0x2240 ∨ 0x224B < key / 256) (hacc : r.acc = .crust) :
    s.serveWrite ses (writeItem key v) g = (s.crustWrite key, .now 0x0E00000E [], 0, []) := by
  have hkey : ob (writeItem key v).index (writeItem key v).sub = key := ob_parts key
  have hidx : ¬ (0x2240 ≤ (writeItem key v).index ∧ (writeItem key v).index ≤ 0x224B) :=
    fun h => hplace.elim (Nat.not_lt.mpr h.1) (Nat.not_lt.mpr h.2)
  simp only [State.serveWrite, hkey, hrow, if_neg hidx, hacc]

/-- A number within its object's range passes every check of a plain object and is delivered. -/
theorem State.serveWrite_plain (hplain : key ∈ plainKeys) (hrow : rowOf key = some r) (hfits : r.ty.fits v = true) (hrng : r.rng.ok v = true)
    (helse : s.stagedElsewhere ses key = false ∨ immediateKey key = true) :
    s.serveWrite ses (writeItem key v) g = ((s.deliver ses key v g).1, (s.deliver ses key v g).2, 0, []) := by
  obtain ⟨hbus, hses⟩ := place_plain key hplain
  obtain ⟨hacc, w, hty, hw⟩ := row_plain hplain hrow
  have hkeep : keepFields key v = v := by
    cases v with
    | bytes b => simp [hty, Ty.fits] at hfits
    | int n => rfl
  rw [hty] at hfits
  rw [State.serveWrite_num s ses key r v g hrow (.inl hacc) hbus (by simp [hses]) (by simp [hty]) (hty ▸ Ty.decode_encode_u hw hfits) hrng,
    State.writeChecked_delivers s ses key r v g hkeep (rangeOk_plain hplain _) (submitRefused_plain hplain s _) (refusalOf_plain hplain s _ _)
      helse (crustClamp_plain hplain s _)]

end

/-! ## Delivery of a quiet object -/

section
variable {s : State} {ses : Session} {key : Key} {v : Val} {g : Given}

/-- Without a launch the one entry of the commit becomes active, and nothing follows from it. -/
theorem State.switch_quiet (hquiet : key ∈ quietKeys) (hrun : s.launch.run = none) :
    s.switch (s.commitOf key v g) = (s.recordOutcome s.commit.lastIdent 0 0 none).setObj key v := by
  obtain ⟨hcmd, hwin, hbound⟩ := valueKey_quiet key hquiet
  have hmem : key ∉ boundedKeys := by simpa using hbound
  have hfree : s.running = false := by simp [State.running, hrun]
  have hstill : ((s.recordOutcome s.commit.lastIdent 0 0 none).setObj key v).running = false := hfree
  unfold State.switch State.applyEntries State.keepWindows State.setEntries
  simp [State.commitOf, hrun, hfree, hcmd, hwin, hmem, hstill, tagStreams_quiet hquiet, act_quiet hquiet]

theorem State.deliver_quiet (hquiet : key ∈ quietKeys) (howner : s.commit.owner = none) (hgroup : s.commit.group = none)
    (himpl : s.commit.implicit = []) (hrun : s.launch.run = none) :
    s.deliver ses key v g = ((s.takeIdent.recordOutcome s.takeIdent.commit.lastIdent 0 0 none).setObj key v, .now 0 []) := by
  have hchecks : s.takeIdent.firstFailing [(key, v)] = none := by
    simp [State.firstFailing, State.failing_calm _ key (calmIndex_quiet key hquiet)]
  rw [State.deliver_acts s ses key v g (immediateKey_quiet key hquiet) howner hgroup himpl (.inl (clsOf_quiet key hquiet)) hrun hchecks,
    State.switch_quiet (s := s.takeIdent) hquiet hrun]

/-- The owner's write joins a group of objects that are not of class restart, as long as the group holds no more than its limits (R116, R117). -/
theorem State.stage_quiet (hquiet : key ∈ quietKeys) (hcls : isRestart (del s.commit.entries key) = false)
    (hlen : (put s.commit.entries key v).length ≤ 256) (hbytes : stagedBytes (put s.commit.entries key v) ≤ 65536) :
    s.stage key v = (s.modCommit fun c => { c with entries := put s.commit.entries key v, lastActivity := s.now }, 0) := by
  have hown : isRestart [(key, v)] = false := by simp [isRestart, clsOf_quiet key hquiet]
  have hlim : ¬ (256 < (put s.commit.entries key v).length ∨ 65536 < stagedBytes (put s.commit.entries key v)) := by omega
  simp only [State.stage, hcls, hown, bne_self_eq_false, Bool.and_false, Bool.false_eq_true, if_false, if_neg hlim]
  rfl

theorem State.deliver_quiet_staged (hquiet : key ∈ quietKeys) (howner : s.commit.owner = some ses) (hgroup : s.commit.group = none)
    (hcls : isRestart (del s.commit.entries key) = false) (hlen : (put s.commit.entries key v).length ≤ 256)
    (hbytes : stagedBytes (put s.commit.entries key v) ≤ 65536) :
    s.deliver ses key v g = (s.modCommit fun c => { c with entries := put s.commit.entries key v, lastActivity := s.now }, .now 0 []) := by
  simp [State.deliver, immediateKey_quiet key hquiet, State.stages, howner, hgroup, State.stage_quiet hquiet hcls hlen hbytes]

end

end Sys2Proof.Machine

namespace Sys2Proof

open Machine

/-! ## Single writes -/

/-- A command that writes one object at a free server: once it is known how the item is served, the answer with that code leaves last, and only the bookkeeping is added. -/
theorem refusedWith_of_serveWrite {c : Instr} {s a b x : State} {ses : Session} {key : Key} {v : Val} {g : Given} {code : Nat}
    (hexec : exec c s = .next (a.writeObject ses key v g)) (hfree : ServerFree a ses)
    (hserve : ((a.touchGroup ses key).serving ses (writeItem key v) g).serveWrite ses (writeItem key v) g
      = (x.serving ses (writeItem key v) g, .now code [], 0, []))
    (hbooks : Books b x) (hserver : x.server = a.server) : RefusedWith c s ses code (Books b) := by
  have hkey : ob (writeItem key v).index (writeItem key v).sub = key := ob_parts key
  have hone := State.request_one a ses (writeItem key v) g hfree (x.serving ses (writeItem key v) g) code 0 [] []
    (by rw [hkey, State.touchGroup_serving, hserve])
    (by simp [State.serving, hserver])
  have hidle : ((x.serving ses (writeItem key v) g).modServer fun w => { w with turn := (ses.path + 1) % 4, works := [] })
      = x.modServer fun w => { w with turn := (ses.path + 1) % 4 } := by
    have hworks : x.server.works = [] := hserver ▸ hfree.works
    simp only [State.serving, State.modServer, ← hworks]
  refine ⟨_, hexec.trans (congrArg _ hone), ?_, ?_⟩
  · rw [hidle]
    exact hbooks.trans (Books.answered x _ _)
  · refine ⟨_, ?_, List.getLast?_concat ..⟩
    by_cases hcode : code = 0 <;> simp [hcode, answerItem]

/-! ## The clauses of O15 -/

section
variable {s : State} {ses : Session} {key : Key} {r : Row} {v : Val}

theorem objectWrite_quiet_acts (t : Nat) (h : WritesAct s ses) (hquiet : key ∈ quietKeys) (hrow : rowOf key = some r)
    (hfits : r.ty.fits v = true) (hrng : r.rng.ok v = true) :
    ServedWith (.objectWrite t ses key v) s ses (Books ((s.advance t).setObj key v)) := by
  have hfree := h.toServerFree.advance t
  have hgroup : (s.advance t).touchGroup ses key = s.advance t :=
    State.touchGroup_of_not_owner (by rw [State.advance_commit, h.owner]; exact nofun) key
  refine refusedWith_of_serveWrite (g := {}) (x := ((s.advance t).takeIdent.recordOutcome (s.advance t).takeIdent.commit.lastIdent 0 0 none).setObj key v)
    rfl hfree ?_ ((Books.committed hfree.works 0 0).setObj key v) ?_
  · rw [hgroup, State.serveWrite_plain _ ses v _ (mem_plainKeys_of_quiet hquiet) hrow hfits hrng (.inl (by simp [State.stagedElsewhere, State.serving, h.owner])),
      State.deliver_quiet (s := (s.advance t).serving ses (writeItem key v) {}) hquiet h.owner h.group h.implicit h.run]
    rfl
  · exact State.recordOutcome_server (s := (s.advance t).takeIdent) hfree.works _ _ _ _

theorem objectWrite_quiet_staged (t : Nat) (h : ServerFree s ses) (howner : s.commit.owner = some ses) (hquiet : key ∈ quietKeys)
    (hrow : rowOf key = some r) (hfits : r.ty.fits v = true) (hrng : r.rng.ok v = true) (hcls : isRestart (del s.commit.entries key) = false)
    (hlen : (put s.commit.entries key v).length ≤ 256) (hbytes : stagedBytes (put s.commit.entries key v) ≤ 65536) :
    ServedWith (.objectWrite t ses key v) s ses
      (Books { s.advance t with commit := { s.commit with entries := put s.commit.entries key v, lastActivity := (s.advance t).now } }) := by
  have himm := immediateKey_quiet key hquiet
  have hgroup : (s.advance t).touchGroup ses key = (s.advance t).modCommit fun c => { c with lastActivity := (s.advance t).now } :=
    if_pos ⟨howner, .inr ⟨by rw [State.advance_commit, h.group]; rfl, himm⟩⟩
  refine refusedWith_of_serveWrite (g := {}) rfl (h.advance t) ?_ (Books.refl _) rfl
  rw [hgroup, State.serveWrite_plain _ ses v _ (mem_plainKeys_of_quiet hquiet) hrow hfits hrng (.inl (by simp [State.stagedElsewhere, State.serving, howner])),
    State.deliver_quiet_staged (s := ((s.advance t).modCommit fun c => { c with lastActivity := (s.advance t).now }).serving ses (writeItem key v) {})
      hquiet howner h.group hcls hlen hbytes]
  rfl

theorem objectWrite_missing (t : Nat) (h : ServerFree s ses) (v : Val) (hrow : rowOf key = none) :
    RefusedWith (.objectWrite t ses key v) s ses (missingCode key) (Books ((s.advance t).touchGroup ses key)) :=
  refusedWith_of_serveWrite (g := {}) rfl (h.advance t) (State.serveWrite_missing _ ses v _ hrow) (Books.refl _) (State.touchGroup_server _ ses key)

theorem objectWrite_readOnly (t : Nat) (h : ServerFree s ses) (v : Val) (hrow : rowOf key = some r)
    (hplace : key / 256 < 0x2240 ∨ 0x224B < key / 256) (hacc : r.acc = .ro ∨ r.acc = .const) :
    RefusedWith (.objectWrite t ses key v) s ses 0x06010002 (Books ((s.advance t).touchGroup ses key)) :=
  refusedWith_of_serveWrite (g := {}) rfl (h.advance t) (State.serveWrite_readOnly _ ses v _ hrow hplace hacc) (Books.refl _) (State.touchGroup_server _ ses key)

theorem objectWrite_crust (t : Nat) (h : ServerFree s ses) (v : Val) (hrow : rowOf key = some r)
    (hplace : key / 256 < 0x2240 ∨ 0x224B < key / 256) (hacc : r.acc = .crust) :
    RefusedWith (.objectWrite t ses key v) s ses 0x0E00000E (Books (((s.advance t).touchGroup ses key).crustWrite key)) := by
  refine refusedWith_of_serveWrite (g := {}) rfl (h.advance t) ?_ (Books.refl _) ?_
  · rw [State.serveWrite_crust _ ses v _ hrow hplace hacc, State.serving, State.crustWrite, State.modServer_bump, State.modServer_fault]
    rfl
  · rw [State.crustWrite, State.fault_server]
    exact State.touchGroup_server _ ses key

end

/-- The object of the signature of store (R109). -/
theorem rowOf_store : rowOf (ob 0x1010 1) = some ⟨0x1010, 0x1010, 0x01, 0x01, .u 32, .rw, .int 1, .oneOf [0x65766173], .instant⟩ := by decide

/-- The object of the signature of restore (R109). -/
theorem rowOf_restore : rowOf (ob 0x1011 1) = some ⟨0x1011, 0x1011, 0x01, 0x01, .u 32, .rw, .int 1, .oneOf [0x64616F6C], .instant⟩ := by decide

section
variable {s : State} {ses : Session}

/-- The signature of store is served at once, by the store (R109, R114). -/
theorem serveWrite_storeSignature (s : State) (ses : Session) (g : Given) :
    s.serveWrite ses (writeItem (ob 0x1010 1) (.int (0x65766173 : Nat))) g = ((s.storeAll g.flash).1, (s.storeAll g.flash).2, 0, []) :=
  State.serveWrite_plain s ses _ g (by decide) rowOf_store (by decide) (by decide) (.inr rfl)

theorem storeAllParameters_stores (t : Nat) (h : ServerFree s ses) :
    ServedWith (.storeAllParameters t ses 0x65766173 0) s ses
      (Books { s.advance t with dict := { s.dict with stored := (s.advance t).toStore, storedFollows := s.dict.cobFollows, restoreMark := false } }) := by
  refine refusedWith_of_serveWrite (g := {}) rfl (h.advance t) ?_ (Books.refl _) rfl
  rw [State.touchGroup_immediate _ ses rfl (by decide), serveWrite_storeSignature]
  rfl

theorem storeAllParameters_fails (t : Nat) (h : ServerFree s ses) {flash : Nat} (hflash : flash ≠ 0) :
    RefusedWith (.storeAllParameters t ses 0x65766173 flash) s ses 0x08000020 (Books ((s.advance t).fault 0x0E04 .chip (flash % 2 ^ 32))) := by
  refine refusedWith_of_serveWrite (g := { flash := flash }) rfl (h.advance t) ?_ (Books.refl _) (State.fault_server ..)
  rw [State.touchGroup_immediate _ ses rfl (by decide), serveWrite_storeSignature, State.storeAll, if_pos hflash, State.serving, State.modServer_fault]
  rfl

theorem restoreDefaultParameters_marks (t : Nat) (h : ServerFree s ses) :
    ServedWith (.restoreDefaultParameters t ses 0x64616F6C) s ses (Books { s.advance t with dict := { s.dict with restoreMark := true } }) := by
  refine refusedWith_of_serveWrite (g := {}) rfl (h.advance t) ?_ (Books.refl _) rfl
  rw [State.touchGroup_immediate _ ses rfl (by decide),
    State.serveWrite_plain _ ses _ _ (by decide) rowOf_restore (by decide) (by decide) (.inr rfl)]
  rfl

end

/-- Settles O15: each clause runs the server for one write item (`refusedWith_of_serveWrite`) and says how that item is served. -/
theorem writesActStageOrAreRefused : Obligations.WritesActStageOrAreRefused := by
  intro s t ses h
  exact ⟨fun k v r hquiet hrow hfits hrng => ⟨fun hact => objectWrite_quiet_acts t hact hquiet hrow hfits hrng,
      fun howner hcls hlen hbytes => objectWrite_quiet_staged t h howner hquiet hrow hfits hrng hcls hlen hbytes⟩,
    fun k v hrow => objectWrite_missing t h v hrow,
    fun k v r hrow hplace hacc => objectWrite_readOnly t h v hrow hplace hacc,
    fun k v r hrow hplace hacc => objectWrite_crust t h v hrow hplace hacc,
    storeAllParameters_stores t h, fun flash hflash => storeAllParameters_fails t h hflash, restoreDefaultParameters_marks t h⟩

end Sys2Proof

/-!
The family of spec/01_device_organisation.md: faults and their records (O10, O11, O17), host queues (O40), selvedge entries (O51), Basaris requests (O42), launches and release counts (O44).
-/

namespace Sys2Proof

open Machine

/-! ## What recording a fault touches -/

/-- `u` is `s` but for what announcing a record touches: `Announces` without the log. -/
structure Tells (s u : State) : Prop where
  announces : Announces s u
  log : u.log = s.log

theorem Announces.refl (s : State) : Announces s s := ⟨rfl, fun _ _ => rfl⟩

theorem Announces.trans {s u w : State} (hsu : Announces s u) (huw : Announces u w) : Announces s w :=
  ⟨huw.1.trans (by rw [hsu.1]), fun k hk => (huw.2 k hk).trans (hsu.2 k hk)⟩

theorem Announces.modLog (s : State) (f : FaultLog → FaultLog) : Announces s (s.modLog f) := ⟨rfl, fun _ _ => rfl⟩

theorem Announces.countChip (s : State) (k : Fin 16) (n : Nat) : Announces s (s.countChip k n) := ⟨rfl, fun _ _ => rfl⟩

section
variable {s u : State} (h : Announces s u)
include h

theorem Announces.mem : u.mem = s.mem := by rw [h.1]

theorem Announces.launch : u.launch = s.launch := by rw [h.1]

theorem Announces.power : u.power = s.power := by rw [h.1]

theorem Announces.motion : u.motion = s.motion := by rw [h.1]

theorem Announces.crust : u.crust = s.crust := by rw [h.1]

theorem Announces.time : u.time = s.time := by rw [h.1]

end

namespace Tells

theorem refl (s : State) : Tells s s := ⟨.refl s, rfl⟩

theorem trans {s u w : State} (hsu : Tells s u) (huw : Tells u w) : Tells s w :=
  ⟨hsu.announces.trans huw.announces, huw.log.trans hsu.log⟩

theorem modNode (s : State) (f : CanNode → CanNode) : Tells s (s.modNode f) := ⟨⟨rfl, fun _ _ => rfl⟩, rfl⟩

theorem emit (s : State) (o : Output) : Tells s (s.emit o) := ⟨⟨rfl, fun _ _ => rfl⟩, rfl⟩

/-- The counts of EMCY messages displaced, of records that found the mailbox's ring full, and of frames sent by a controller. -/
theorem bump (s : State) {key : Key} (n : Nat)
    (hkey : key ∈ [ob 0x2020 9, ob 0x2300 3, ob 0x2380 4, ob 0x2381 4, ob 0x2382 4, ob 0x2383 4]) : Tells s (s.bump key n) :=
  ⟨⟨rfl, fun _ hk => State.obj_bump_other s n fun h => hk (h ▸ hkey)⟩, rfl⟩

theorem ite {s u w : State} {c : Prop} [Decidable c] (hu : Tells s u) (hw : Tells s w) : Tells s (if c then u else w) := by
  split
  · exact hu
  · exact hw

theorem nodeFrame (s : State) (o : Output) : Tells s (s.nodeFrame o) := by
  have hkey : ∀ c : Fin 4, ob (0x2380 + c.val) 4 ∈ [ob 0x2020 9, ob 0x2300 3, ob 0x2380 4, ob 0x2381 4, ob 0x2382 4, ob 0x2383 4] := by decide
  exact ite ((emit s o).trans (bump _ 1 (hkey s.nodeCtl))) (refl s)

theorem queueEmcy (s : State) (m : Emcy) : Tells s (s.queueEmcy m) :=
  ite (refl s) (ite ((nodeFrame s _).trans (modNode _ _)) (ite (modNode s _) ((modNode s _).trans (bump _ 1 (by simp)))))

theorem sendWire (s : State) (o : Output) : Tells s (s.sendWire o) := ite (emit s o) (refl s)

theorem foldl {α : Type} {f : State → α → State} (h : ∀ a x, Tells a (f a x)) (l : List α) (s : State) : Tells s (l.foldl f s) := by
  induction l generalizing s with
  | nil => exact refl s
  | cons x l ih => exact (h s x).trans (ih (f s x))

theorem announceBasaris (s : State) (r : FaultRec) : Tells s (s.announceBasaris r) :=
  (foldl (fun a _ => sendWire a _) s.basaris.sessions s).trans ⟨⟨rfl, fun _ _ => rfl⟩, rfl⟩

theorem announcePcie (s : State) (r : FaultRec) : Tells s (s.announcePcie r) := by
  have hmbx : ∀ f : Mailbox → Mailbox, Tells s (s.modMbx f) := fun _ => ⟨⟨rfl, fun _ _ => rfl⟩, rfl⟩
  exact ite (refl s) (ite (bump s 1 (by simp)) (ite ((hmbx _).trans (emit _ _)) (hmbx _)))

theorem announce (s : State) (r : FaultRec) : Tells s (s.announce r) :=
  ite (refl s) ((((queueEmcy s _).trans (announceBasaris _ r)).trans (announcePcie _ r)).trans (emit _ _))

end Tells

namespace Machine

/-- The record that takes part in coalescing, if any does (R41). -/
theorem State.record_new (s : State) (r : FaultRec)
    (h : r.cls ≠ 0 ∨ s.nat (ob 0x5810 8) = 0 ∨ coalesceInto s.log.ring r (1000 * s.nat (ob 0x5810 8)) = none) :
    s.record r = ((s.modLog fun l => l.append r).announce r).countChip 15 1 := by
  unfold State.record
  rcases h with h | h | h <;> simp [h]

theorem State.record_announces (s : State) (r : FaultRec) : Announces s (s.record r) := by
  unfold State.record
  split
  · exact .modLog s _
  · exact ((Announces.modLog s _).trans (Tells.announce _ r).announces).trans (.countChip _ _ _)

end Machine

/-- Settles O10: such a fault appends its record and announces it (`State.record_new`); the announcement keeps the log (`Tells`), and all of it keeps the rest (`Announces`). -/
theorem faultAppendsOneRecord : Obligations.FaultAppendsOneRecord := by
  intro s code loc detail part r u hnew
  have hlog : u.log = s.log.append r := by
    show (s.record r).log = _
    rw [State.record_new s r hnew]
    exact (Tells.announce (s.modLog fun l => l.append r) r).log
  have hframe : Announces s u := State.record_announces s r
  exact ⟨hlog, rfl, rfl, rfl, rfl, rfl, rfl, rfl, rfl, hframe.mem, hframe.launch, hframe.power, hframe.motion, hframe.crust, hframe.time⟩

/-! ## The fault log -/

theorem FaultLog.append_ring (g : FaultLog) (r : FaultRec) : (g.append r).ring = g.ring.drop (g.ring.length + 1 - 4096) ++ [r] := by
  have hle : g.ring.length + 1 - 4096 ≤ g.ring.length := by omega
  rw [FaultLog.append, lastN, List.length_append, List.length_singleton, List.drop_append_of_le_length hle]

theorem FaultLog.append_ring_of_room {g : FaultLog} (h : g.ring.length < 4096) (r : FaultRec) :
    (g.append r).ring = g.ring ++ [r] ∧ (g.append r).lost = g.lost := by
  refine ⟨by rw [FaultLog.append_ring, Nat.sub_eq_zero_of_le h, List.drop_zero], if_neg ?_⟩
  rw [List.length_append]
  exact Nat.not_lt.mpr h

theorem FaultLog.append_ring_of_full {g : FaultLog} (h : g.ring.length = 4096) (r : FaultRec) :
    (g.append r).ring = g.ring.drop 1 ++ [r] ∧ (g.append r).lost = (g.lost + 1) % 2 ^ 32 :=
  ⟨by rw [FaultLog.append_ring, h], by simp [FaultLog.append, h]⟩

theorem FaultLog.append_serious (g : FaultLog) {r : FaultRec} (h : 2 ≤ r.cls) :
    (g.append r).persistent = lastN 1024 (g.persistent ++ [r]) ∧ (g.append r).unacked = g.unacked ++ [r.seq] := by
  simp [FaultLog.append, FaultRec.serious, h]

theorem FaultLog.append_not_serious (g : FaultLog) {r : FaultRec} (h : r.cls < 2) :
    (g.append r).persistent = g.persistent ∧ (g.append r).unacked = g.unacked := by
  simp [FaultLog.append, FaultRec.serious, h]

theorem not_absorbs_of_coalesceInto_eq_none {ring : List FaultRec} {n : FaultRec} {windowNs : Nat} (h : coalesceInto ring n windowNs = none) :
    ∀ x ∈ ring, x.absorbs n windowNs = false := by
  induction ring with
  | nil => simp
  | cons o rest ih =>
    unfold coalesceInto at h
    split at h
    · cases h
    next hrest =>
      split at h
      · cases h
      next ho => exact List.forall_mem_cons.mpr ⟨Bool.eq_false_iff.mpr ho, ih hrest⟩

/-- The record that takes the occurrence is the last that can absorb it (R41). -/
theorem coalesceInto_eq_some {ring : List FaultRec} {n : FaultRec} {windowNs : Nat} {ring' : List FaultRec}
    (h : coalesceInto ring n windowNs = some ring') :
    ∃ before o after, ring = before ++ o :: after ∧ ring' = before ++ { o with rep := min 255 (o.rep + 1) } :: after
      ∧ o.absorbs n windowNs = true ∧ ∀ x ∈ after, x.absorbs n windowNs = false := by
  induction ring generalizing ring' with
  | nil => simp [coalesceInto] at h
  | cons o rest ih =>
    unfold coalesceInto at h
    split at h
    next rest' hrest =>
      obtain ⟨before, p, after, hring, hring', hp, hafter⟩ := ih hrest
      obtain rfl := Option.some.inj h
      exact ⟨o :: before, p, after, by rw [hring, List.cons_append], by rw [hring', List.cons_append], hp, hafter⟩
    next hrest =>
      split at h
      next ho =>
        obtain rfl := Option.some.inj h
        exact ⟨[], o, rest, rfl, rfl, ho, not_absorbs_of_coalesceInto_eq_none hrest⟩
      next => cases h

/-- Settles O11: the ring keeps the last 4,096 of its records and the new one (`FaultLog.append_ring`), and an occurrence is counted in the last record that absorbs it (`coalesceInto_eq_some`). -/
theorem faultLogKeepsTheLastRecords : Obligations.FaultLogKeepsTheLastRecords := by
  refine ⟨fun g r hlen => ⟨?_, ?_, rfl, fun h => FaultLog.append_ring_of_room h r, fun h => FaultLog.append_ring_of_full h r,
    FaultLog.append_serious g, FaultLog.append_not_serious g⟩, fun ring n w ring' => coalesceInto_eq_some⟩
  · rw [FaultLog.append_ring, List.length_append, List.length_drop, List.length_singleton]
    omega
  · rw [FaultLog.append_ring, List.getLast?_concat]

end Sys2Proof

namespace Sys2Proof

open Machine

/-! ## The bookkeeping of a request passes through the announcement of a record -/

namespace Books

section
variable {s u : State} (h : Books s u)
include h

theorem nat {key : Key} (hkey : key ∉ [ob 0x2020 0x0A, ob 0x2010 0x0A, ob 0x2010 0x0B]) : u.nat key = s.nat key := by
  simp only [State.nat, State.int, h.2 key hkey]

theorem flag {key : Key} (hkey : key ∉ [ob 0x2020 0x0A, ob 0x2010 0x0A, ob 0x2010 0x0B]) : u.flag key = s.flag key := by
  simp only [State.flag, h.nat hkey]

theorem now : u.now = s.now := by rw [h.1]; rfl

theorem node : u.node = s.node := by rw [h.1]

theorem log : u.log = s.log := by rw [h.1]

theorem mbx : u.mbx = s.mbx := by rw [h.1]

theorem basaris : u.basaris = s.basaris := by rw [h.1]

theorem can : u.can = s.can := by rw [h.1]

theorem power : u.power = s.power := by rw [h.1]

theorem modNode (f : CanNode → CanNode) : Books (s.modNode f) (u.modNode f) :=
  ⟨(congrArg (State.modNode · f) h.1).trans rfl, h.2⟩

theorem modMbx (f : Mailbox → Mailbox) : Books (s.modMbx f) (u.modMbx f) :=
  ⟨(congrArg (State.modMbx · f) h.1).trans rfl, h.2⟩

theorem modBasaris (f : Basaris → Basaris) : Books (s.modBasaris f) (u.modBasaris f) :=
  ⟨(congrArg (State.modBasaris · f) h.1).trans rfl, h.2⟩

theorem modLog (f : FaultLog → FaultLog) : Books (s.modLog f) (u.modLog f) :=
  ⟨(congrArg (State.modLog · f) h.1).trans rfl, h.2⟩

theorem countChip (k : Fin 16) (n : Nat) : Books (s.countChip k n) (u.countChip k n) :=
  ⟨(congrArg (State.countChip · k n) h.1).trans rfl, h.2⟩

theorem emit (o : Output) : Books (s.emit o) (u.emit o) :=
  ⟨(congrArg (fun x => State.emit { x with outbox := u.outbox } o) h.1).trans rfl, h.2⟩

theorem bump {key : Key} (hkey : key ∉ [ob 0x2020 0x0A, ob 0x2010 0x0A, ob 0x2010 0x0B]) (n : Nat) : Books (s.bump key n) (u.bump key n) := by
  unfold State.bump
  rw [h.nat hkey]
  exact h.setObj _ _

theorem ite {c : Prop} [Decidable c] {s' u' : State} (h' : Books s' u') : Books (if c then s else s') (if c then u else u') := by
  split
  · exact h
  · exact h'

end

section
variable {s u : State} (h : Books s u)
include h

theorem nodeFrame (o : Output) : Books (s.nodeFrame o) (u.nodeFrame o) := by
  have henable : ∀ c : Fin 4, ob (0x2310 + c.val) 1 ∉ [ob 0x2020 0x0A, ob 0x2010 0x0A, ob 0x2010 0x0B] := by decide
  have hcount : ∀ c : Fin 4, ob (0x2380 + c.val) 4 ∉ [ob 0x2020 0x0A, ob 0x2010 0x0A, ob 0x2010 0x0B] := by decide
  unfold State.nodeFrame State.frameOn State.ctlSends State.nodeCtl
  rw [h.nat (by decide), h.flag (henable _), h.can]
  exact ((h.emit o).bump (hcount _) 1).ite h

theorem inhibited : u.inhibited = s.inhibited := by
  unfold State.inhibited
  rw [h.node, h.now]

theorem sendEmcy (m : Emcy) : Books (s.sendEmcy m) (u.sendEmcy m) := by
  unfold State.sendEmcy
  rw [h.nat (by decide), h.nat (by decide), h.now]
  exact (h.nodeFrame _).modNode _

theorem queueEmcy (m : Emcy) : Books (s.queueEmcy m) (u.queueEmcy m) := by
  unfold State.queueEmcy
  rw [h.nat (by decide), h.inhibited, h.node]
  exact h.ite ((h.sendEmcy m).ite ((h.modNode _).ite ((h.modNode _).bump (by decide) 1)))

theorem sendWire (o : Output) : Books (s.sendWire o) (u.sendWire o) := by
  have hpower : u.ethernetPowered = s.ethernetPowered := by unfold State.ethernetPowered State.domainServes; rw [h.power]
  unfold State.sendWire
  rw [hpower]
  exact (h.emit o).ite h

theorem wire (key : Bytes) (peer session type flags seq status : Nat) (payload : Bytes) :
    u.wire key peer session type flags seq status payload = s.wire key peer session type flags seq status payload := by
  unfold State.wire
  rw [h.nat (by decide), h.now]

end

theorem foldl {α : Type} {f g : State → α → State} (hfg : ∀ s u x, Books s u → Books (f s x) (g u x)) (l : List α) {s u : State}
    (h : Books s u) : Books (l.foldl f s) (l.foldl g u) := by
  induction l generalizing s u with
  | nil => exact h
  | cons x l ih => exact ih (hfg s u x h)

section
variable {s u : State} (h : Books s u)
include h

theorem announceBasaris (r : FaultRec) : Books (s.announceBasaris r) (u.announceBasaris r) := by
  unfold State.announceBasaris
  simp only [h.wire, h.now, h.basaris]
  exact (foldl (fun _ _ b hx => hx.sendWire (s.wire b.key b.peer b.num 0x07 0 b.txSeq 0 r.bytes)) _ h).modBasaris _

theorem announcePcie (r : FaultRec) : Books (s.announcePcie r) (u.announcePcie r) := by
  unfold State.announcePcie
  simp only [h.flag (show ob 0x2020 8 ∉ _ by decide), h.mbx]
  exact h.ite ((h.bump (by decide) 1).ite (((h.modMbx _).emit _).ite (h.modMbx _)))

theorem announce (r : FaultRec) : Books (s.announce r) (u.announce r) := by
  unfold State.announce State.errorRegister
  rw [h.nat (by decide), h.log]
  exact h.ite ((((h.queueEmcy _).announceBasaris r).announcePcie r).emit _)

theorem record (r : FaultRec) : Books (s.record r) (u.record r) := by
  unfold State.record
  rw [h.nat (by decide), h.log]
  split
  · exact h.modLog _
  · exact ((h.modLog _).announce r).countChip _ _

theorem recordFault (code : Nat) (loc : Loc) (detail part : Nat) : Books (s.recordFault code loc detail part) (u.recordFault code loc detail part) := by
  unfold State.recordFault
  rw [h.now, h.log]
  exact h.record _

theorem tellDisplaced (before : Nat) : Books (s.tellDisplaced before) (u.tellDisplaced before) := by
  unfold State.tellDisplaced
  simp only [h.nat (show ob 0x2300 3 ∉ _ by decide), h.node, h.now]
  exact ((h.modNode _).recordFault _ _ _ _).ite h

theorem acknowledge (keep : Nat → Bool) : Books (s.acknowledge keep) (u.acknowledge keep) := by
  unfold State.acknowledge
  simp only [h.nat (show ob 0x2300 3 ∉ _ by decide), h.log]
  exact (((h.modLog _).queueEmcy _).tellDisplaced _).ite (h.modLog _)

end

end Books

end Sys2Proof

namespace Sys2Proof.Machine

/-! ## One request of one read item -/

/-- A request of one read item that the server has begun. -/
def oneRead (ses : Session) (it : Item) : Work :=
  { ses := ses, reply := .plain, write := false, begun := true, owed := false, items := [it], done := [], waits := none, outcome := none, given := {} }

/-- The server holds one work, of the path that is in turn. -/
def State.holding (s : State) (w : Work) : State := s.modServer fun v => { v with turn := w.ses.path, works := [w] }

theorem State.serveLoop_held {s : State} {w : Work} (h : s.server.works = [w]) (hw : w.waits = none) (n : Nat) :
    State.serveLoop (n + 1) s = State.serveLoop n (s.serveWork w.ses.path w) := by
  rw [State.serveLoop, State.nextWork_one s w h hw]

theorem State.serveLoop_idle {s : State} (h : s.server.works = []) (n : Nat) : State.serveLoop n s = s := by
  cases n with
  | zero => rfl
  | succ n => rw [State.serveLoop, State.nextWork_nil s h]

theorem State.latchedPower_none {s : State} (h : s.power.latched = none) : s.latchedPower = s := by
  unfold State.latchedPower
  rw [h]

/-- With no request held and nothing latched or under way, the server has nothing to do. -/
theorem State.serve_idle {s : State} (hworks : s.server.works = []) (hlatched : s.power.latched = none) (hgroup : s.commit.group = none)
    (himplicit : s.commit.implicit = []) (hinstant : s.commit.instant = []) : s.serve = s := by
  unfold State.serve
  rw [State.latchedPower_none hlatched, State.startCommits_free s hgroup himplicit hinstant]
  exact State.serveLoop_idle hworks _

section
variable {s : State} {ses : Session} (h : ServerFree s ses) (it : Item)
include h

/-- One request of one read item at a free server: the item is read, the request is counted, and its answer leaves. -/
theorem State.request_read {x : State} {code : Nat} {data : Bytes}
    (hread : (s.holding (oneRead ses it)).serveRead ses it = (x.holding (oneRead ses it), code, data)) :
    s.request ses .plain false [it] =
      ((x.modServer fun v => { v with turn := (ses.path + 1) % 4, works := [] }).bump (ob 0x2020 0x0A)).emit (.response ses [answerItem it code data]) := by
  set w0 : Work := { oneRead ses it with begun := false } with hw0
  set w1 : Work := { oneRead ses it with items := [], done := [answerItem it code data] } with hw1
  set s0 := s.modServer fun v => { v with works := v.works ++ [w0] } with hs0
  have hworks : s0.server.works = [w0] := by simp [hs0, h.works]
  have hstart : s0.startCommits = s0 := State.startCommits_free s0 h.group h.implicit h.instant
  have hmoves : s0.serverMoves = 5 := by simp [State.serverMoves, hworks, hw0, oneRead]
  have hbegin : s0.serveWork ses.path w0 = s.holding (oneRead ses it) := by
    simp [State.serveWork, State.beginWork, State.modWork, State.holding, hw0, oneRead, h.works, modFirst, Work.free, State.modServer, State.modDict, hs0]
  have hitem : (s.holding (oneRead ses it)).serveWork ses.path (oneRead ses it) = x.holding w1 := by
    have hover : (x.holding (oneRead ses it)).modWork ses.path ses.path (fun w => { w with items := [], done := w.done ++ [answerItem it code data] })
        = x.holding w1 := by
      simp [State.modWork, State.modServer, State.holding, hw1, oneRead, modFirst, Work.free]
    rw [← hover]
    show (let r := (s.holding (oneRead ses it)).serveRead ses it
      r.1.modWork ses.path ses.path fun w => { w with items := [], done := w.done ++ [answerItem it r.2.1 r.2.2] }) = _
    rw [hread]
  calc s.request ses .plain false [it]
      = State.serveLoop 5 s0 := by
        show s0.serve = _
        unfold State.serve
        simp only [State.latchedPower_none (s := s0) h.latched, hstart, hmoves]
    _ = State.serveLoop 4 (s.holding (oneRead ses it)) := by
        rw [State.serveLoop_held hworks rfl]
        exact congrArg _ hbegin
    _ = State.serveLoop 3 (x.holding w1) := by
        rw [State.serveLoop_held rfl rfl]
        exact congrArg _ hitem
    _ = _ := by
        have hreply : (x.holding w1).serveWork ses.path w1
            = ((x.modServer fun v => { v with turn := (ses.path + 1) % 4, works := [] }).bump (ob 0x2020 0x0A)).emit (.response ses [answerItem it code data]) := by
          simp [State.serveWork, State.holding, hw1, oneRead, dropFirst, Work.free, State.modServer, State.reply]
        rw [State.serveLoop_held rfl rfl, show w1.ses = ses from rfl, hreply]
        exact State.serveLoop_idle rfl _

end

end Sys2Proof.Machine

namespace Sys2Proof.Machine

/-! ## A single write of a command object -/

/-- The object of the acknowledgement (R43). -/
theorem rowOf_acknowledge : rowOf (ob 0x5810 9) = some ⟨0x5810, 0x5810, 0x09, 0x09, .u 32, .wo, .int 0, .btw 0 4294967295, .instant⟩ := by decide

/-- The object of the zeroing of counters (R462). -/
theorem rowOf_zero : rowOf (ob 0x5000 3) = some ⟨0x5000, 0x5000, 0x03, 0x03, .u 8, .wo, .int 0, .oneOf [1], .instant⟩ := by decide +kernel

theorem rowOf_faultLog : rowOf (ob 0x5810 5) = some ⟨0x5810, 0x5810, 0x05, 0x05, .domain, .ro, .bytes [], .any, .none⟩ := by decide

theorem rowOf_dumpWindow : rowOf (ob 0x5080 1) = some ⟨0x5080, 0x5080, 0x01, 0x01, .domain, .ro, .bytes [], .any, .none⟩ := by decide +kernel

section
variable {s : State} {ses : Session} {key : Key} {r : Row} {v : Val} {g : Given}

/-- A number in the range of a command object passes every check, where none of the checks and limits of single objects looks at it. -/
theorem State.serveWrite_command {w : Nat} (hrow : rowOf key = some r) (hacc : r.acc = .rw ∨ r.acc = .wo) (hw : 8 * (w / 8) = w) (hty : r.ty = .u w)
    (hfits : r.ty.fits v = true) (hrng : r.rng.ok v = true) (hbus : ¬ (0x2240 ≤ key / 256 ∧ key / 256 ≤ 0x224B)) (hses : key ≠ ob 0x2020 4)
    (hr : (s.withWrite ses key v).rangeOk key = true) (hs : s.submitRefused key v.num.toNat = none)
    (hf : s.refusalOf (s.withWrite ses key v) key v.num.toNat = 0) (hc : s.crustClamp key v.num = none)
    (himm : immediateKey key = false) (hcls : clsOf key = .instant) (hcmd : commandKey key = true) (hwin : windowKey key = false)
    (htag : ∀ (x : State) (n : Nat), x.tagStreams [key] n = x) (hbound : boundedKeys.contains key = false)
    (howner : s.commit.owner = none) (hgroup : s.commit.group = none) (himpl : s.commit.implicit = []) (hrun : s.launch.run = none)
    (hchecks : s.takeIdent.firstFailing [(key, v)] = none) {a : State}
    (hact : (s.takeIdent.recordOutcome s.takeIdent.commit.lastIdent 0 0 none).act key v s.now g = a) (hstill : a.running = false) :
    s.serveWrite ses (writeItem key v) g = (a, .now 0 [], 0, []) := by
  have hkeep : keepFields key v = v := by
    cases v with
    | bytes b => simp [hty, Ty.fits] at hfits
    | int n => rfl
  rw [hty] at hfits
  rw [State.serveWrite_num s ses key r v g hrow hacc hbus (by simp [hses]) (by simp [hty]) (hty ▸ Ty.decode_encode_u hw hfits) hrng,
    State.writeChecked_delivers s ses key r v g hkeep hr hs hf (.inl (by simp [State.stagedElsewhere, howner])) hc,
    State.deliver_acts s ses key v g himm howner hgroup himpl (.inl hcls) hrun hchecks]
  have hnow : s.takeIdent.now = s.now := rfl
  rw [State.switch_command s.takeIdent key v g hrun hcmd hwin htag hbound (by rw [hnow, hact]; exact hstill), hnow, hact]

end

/-! ## Acknowledgement -/

section
variable (s : State)

theorem State.modServer_acknowledge (f : Server → Server) (keep : Nat → Bool) : (s.modServer f).acknowledge keep = (s.acknowledge keep).modServer f := by
  unfold State.acknowledge
  simp only [State.modServer_nat, State.modServer_log, State.modServer_modLog, State.modServer_queueEmcy, State.modServer_tellDisplaced,
    apply_ite (State.modServer · f)]

theorem State.acknowledge_server (keep : Nat → Bool) : (s.acknowledge keep).server = s.server := by
  calc (s.acknowledge keep).server
      = ((s.modServer fun _ => s.server).acknowledge keep).server := rfl
    _ = s.server := by rw [State.modServer_acknowledge, State.modServer_server]

/-- The fault of a displaced EMCY message is recorded, or nothing happens (R136). -/
theorem State.tellDisplaced_cases (before : Nat) :
    s.tellDisplaced before = (s.modNode fun n => { n with displacedAt := some s.now }).recordFault 0x0E06 .chip (s.nat (ob 0x2300 3)) 0
      ∨ s.tellDisplaced before = s :=
  ite_eq_or_eq ..

theorem State.tellDisplaced_announces (before : Nat) : Announces s (s.tellDisplaced before) := by
  rcases s.tellDisplaced_cases before with h | h <;> rw [h]
  · exact (Tells.modNode s _).announces.trans (State.record_announces _ _)
  · exact .refl s

theorem State.acknowledge_announces (keep : Nat → Bool) : Announces s (s.acknowledge keep) := by
  unfold State.acknowledge
  simp only
  split
  · exact ((Announces.modLog s _).trans (Tells.queueEmcy _ _).announces).trans (State.tellDisplaced_announces _ _)
  · exact .modLog s _

/-- A record that is not serious waits for no acknowledgement (R43). -/
theorem State.record_unacked {r : FaultRec} (h : r.serious = false) : (s.record r).log.unacked = s.log.unacked := by
  unfold State.record
  split
  · rfl
  · calc ((s.modLog fun l => l.append r).announce r).log.unacked
        = (s.log.append r).unacked := by rw [(Tells.announce _ r).log]; rfl
      _ = s.log.unacked := by rw [FaultLog.append, h]; rfl

theorem State.tellDisplaced_unacked (before : Nat) : (s.tellDisplaced before).log.unacked = s.log.unacked := by
  rcases s.tellDisplaced_cases before with h | h <;> rw [h]
  exact State.record_unacked (s.modNode _) rfl

/-- The state when the serious records at or below a sequence number no longer wait. -/
theorem State.acknowledgeUpTo_some (seq : Nat) (h : (s.log.unacked.filter fun q => !atOrAfter seq q) ≠ [] ∨ s.log.unacked = []) :
    s.acknowledgeUpTo seq = s.modLog fun l => { l with unacked := s.log.unacked.filter fun q => !atOrAfter seq q } := by
  unfold State.acknowledgeUpTo State.acknowledge
  refine if_neg ?_
  rcases h with h | h <;> simp [h]

theorem State.acknowledgeUpTo_all (seq : Nat) (h : (s.log.unacked.filter fun q => !atOrAfter seq q) = []) (hsome : s.log.unacked ≠ []) :
    s.acknowledgeUpTo seq = ((s.modLog fun l => { l with unacked := s.log.unacked.filter fun q => !atOrAfter seq q }).queueEmcy
      { emcyCode := 0, errorRegister := 0, faultCode := 0, cls := 0, level := 0, seqLow := 0 }).tellDisplaced (s.nat (ob 0x2300 3)) := by
  unfold State.acknowledgeUpTo State.acknowledge
  exact if_pos (by simp [h, hsome])

theorem State.errorRegister_acknowledgeUpTo_all (seq : Nat) (h : (s.log.unacked.filter fun q => !atOrAfter seq q) = []) (hsome : s.log.unacked ≠ []) :
    (s.acknowledgeUpTo seq).errorRegister = 0 := by
  rw [State.acknowledgeUpTo_all s seq h hsome, State.errorRegister, State.tellDisplaced_unacked, (Tells.queueEmcy _ _).log]
  exact if_pos (by simp [h])

end

section
variable {s : State} {ses : Session} {g : Given}

/-- The state in which a commit of one entry has switched: it has taken its identifier, and its outcome is recorded. -/
def State.committed (s : State) : State := s.takeIdent.recordOutcome s.takeIdent.commit.lastIdent 0 0 none

theorem State.committed_serving (s : State) (ses : Session) (it : Item) (g : Given) : (s.serving ses it g).committed = s.committed.serving ses it g := rfl

theorem State.serveWrite_acknowledge {seq : Nat} (hseq : seq < 2 ^ 32) (howner : s.commit.owner = none) (hgroup : s.commit.group = none)
    (himpl : s.commit.implicit = []) (hrun : s.launch.run = none) :
    s.serveWrite ses (writeItem (ob 0x5810 9) (.int seq)) g = (s.committed.acknowledgeUpTo seq, .now 0 [], 0, []) := by
  have hfits : (Ty.u 32).fits (.int seq) = true := by simp [Ty.fits]; omega
  have hchecks : s.takeIdent.firstFailing [(ob 0x5810 9, .int seq)] = none := by
    simp [State.firstFailing, State.failing_calm _ (ob 0x5810 9) (by decide)]
  refine State.serveWrite_command rowOf_acknowledge (.inr rfl) (w := 32) rfl rfl hfits ?_ (by decide) (by decide) rfl rfl rfl rfl rfl (by decide) rfl rfl
    (fun _ _ => rfl) (by decide) howner hgroup himpl hrun hchecks rfl ?_
  · simp [Rng.ok]; omega
  · show (s.committed.acknowledgeUpTo seq).running = false
    rw [State.running, State.acknowledgeUpTo, (State.acknowledge_announces _ _).launch]
    exact congrArg Option.isSome hrun

theorem State.failing_modServer (c : State) (f : Server → Server) (keys : List Key) : (c.modServer f).failing keys = c.failing keys := by
  unfold State.failing
  repeat' refine congrArg₂ List.append ?_ ?_
  all_goals rfl

/-- The consistency checks of a commit do not look at the server. -/
theorem State.firstFailing_serving (s : State) (ses : Session) (it : Item) (g : Given) (key : Key) (v : Val) :
    (s.serving ses it g).takeIdent.firstFailing [(key, v)] = s.takeIdent.firstFailing [(key, v)] :=
  congrArg List.head? (State.failing_modServer (s.takeIdent.setObj key v) (fun x => { x with turn := ses.path, works := [oneWrite ses it g] }) [key])

theorem State.serveWrite_zero (howner : s.commit.owner = none) (hgroup : s.commit.group = none) (himpl : s.commit.implicit = [])
    (hrun : s.launch.run = none) (hchecks : s.takeIdent.firstFailing [(ob 0x5000 3, .int 1)] = none) :
    s.serveWrite ses (writeItem (ob 0x5000 3) (.int 1)) g = (s.committed.zeroCounters, .now 0 [], 0, []) := by
  have hstill : s.committed.running = false := congrArg Option.isSome hrun
  have hact : s.committed.act (ob 0x5000 3) (.int 1) s.now g = s.committed.zeroCounters := by
    show s.committed.askZero = _
    rw [State.askZero, hstill]
    rfl
  exact State.serveWrite_command rowOf_zero (.inr rfl) (w := 8) rfl rfl rfl rfl (by decide) (by decide) rfl rfl rfl rfl rfl (by decide +kernel) rfl rfl
    (fun _ _ => rfl) (by decide) howner hgroup himpl hrun hchecks hact hstill

end

end Sys2Proof.Machine

namespace Sys2Proof

open Machine

theorem Books.zeroCounters {s u : State} (h : Books s u) : Books s.zeroCounters u.zeroCounters :=
  ⟨(congrArg State.zeroCounters h.1).trans rfl, h.2⟩

theorem ServedWith.mono {c : Instr} {s : State} {ses : Session} {P Q : State → Prop} (h : ServedWith c s ses P) (hpq : ∀ u, P u → Q u) : ServedWith c s ses Q :=
  h.imp fun u hu => ⟨hu.1, hpq u hu.2.1, hu.2.2⟩

section
variable {s : State} {ses : Session} (h : WritesAct s ses) (t : Nat)
include h

theorem WritesAct.touchGroup (key : Key) : (s.advance t).touchGroup ses key = s.advance t :=
  State.touchGroup_of_not_owner (by rw [State.advance_commit, h.owner]; exact nofun) key

theorem WritesAct.committed : Books (s.advance t) (s.advance t).committed := Books.committed (h.toServerFree.advance t).works 0 0

theorem WritesAct.committed_server : (s.advance t).committed.server = s.server :=
  State.recordOutcome_server (s := (s.advance t).takeIdent) h.works _ _ _ _

theorem faultAcknowledge_served {seq : Nat} (hseq : seq < 2 ^ 32) :
    ServedWith (.faultAcknowledge t ses seq) s ses (Books ((s.advance t).acknowledgeUpTo seq)) := by
  refine refusedWith_of_serveWrite (g := {}) (x := (s.advance t).committed.acknowledgeUpTo seq) rfl (h.toServerFree.advance t) ?_
    ((h.committed t).acknowledge _) ((State.acknowledge_server _ _).trans (h.committed_server t))
  rw [h.touchGroup t, State.serveWrite_acknowledge (s := (s.advance t).serving ses _ _) hseq h.owner h.group h.implicit h.run, State.committed_serving]
  exact congrArg (·, Served.now 0 [], 0, []) (State.modServer_acknowledge _ _ _)

theorem zeroAllCounters_served (hchecks : ChecksPass s t (ob 0x5000 3) (.int 1)) :
    ServedWith (.zeroAllCounters t ses) s ses (Books (s.advance t).zeroCounters) := by
  refine refusedWith_of_serveWrite (g := {}) (x := (s.advance t).committed.zeroCounters) rfl (h.toServerFree.advance t) ?_ (h.committed t).zeroCounters (h.committed_server t)
  rw [h.touchGroup t, Nat.cast_one, State.serveWrite_zero (s := (s.advance t).serving ses _ _) h.owner h.group h.implicit h.run
    ((State.firstFailing_serving ..).trans hchecks)]
  rfl

end

end Sys2Proof

namespace Sys2Proof.Machine

/-! ## Reads of the windows -/

section
variable {s : State} {ses : Session} (h : ServerFree s ses) {key : Key} {r : Row} (length : Nat)
include h

/-- A read-only DOMAIN object is read from its beginning: a copy of it is taken, and as many bytes as asked for leave. -/
theorem State.readObject_domain (hrow : rowOf key = some r) (hty : r.ty = .domain) (hacc : r.acc = .ro) {b : Bytes}
    (hview : (s.holding (oneRead ses (readItem key length))).view key = .bytes b) :
    s.readObject ses key length = ((((s.takeCopy ses key b).modServer fun v => { v with turn := (ses.path + 1) % 4, works := [] }).bump (ob 0x2020 0x0A)).emit
      (.response ses [answerItem (readItem key length) 0 (b.take length)])) := by
  refine State.request_read h (readItem key length) ?_
  have hkey : ob (readItem key length).index (readItem key length).sub = key := ob_parts key
  have hvalue : (s.holding (oneRead ses (readItem key length))).readValue key r (readItem key length).staged = .bytes b := by
    simpa [State.readValue, hacc, readItem] using hview
  simp only [State.serveRead, hkey, hrow, hvalue, hty]
  rfl

end

theorem State.view_faultLog (s : State) : s.view (ob 0x5810 5) = .bytes (s.log.window (s.nat (ob 0x5810 6))) := rfl

theorem State.view_dumpWindow (s : State) : s.view (ob 0x5080 1) = .bytes s.dumpWindow := rfl

/-! ## The latch of a dump -/

theorem State.dumpDue_false_of_period_zero {s : State} (h : s.nat (ob 0x5000 1) = 0) : s.dumpDue = false := by
  unfold State.dumpDue
  split <;> simp [h]

theorem State.latchDump_not_due {s : State} (h : s.dumpDue = false) : s.latchDump = s := by simp [State.latchDump, h]

/-- The newest dump stays when the oldest are overwritten (R471). -/
theorem fitDumps_concat (l : List Dump) {d : Dump} (h : d.data.length ≤ dumpRing) : (fitDumps (l ++ [d])).1.getLast? = some d := by
  induction l with
  | nil => simp [fitDumps, h]
  | cons e l ih =>
    show (if _ then (e :: (fitDumps (l ++ [d])).1, 0) else ((fitDumps (l ++ [d])).1, (fitDumps (l ++ [d])).2 + 1)).1.getLast? = some d
    split
    · rw [List.getLast?_cons, ih]
      rfl
    · exact ih

theorem length_flatMap_of_forall {α : Type} {f : α → Bytes} {n : Nat} (h : ∀ x, (f x).length = n) (l : List α) : (l.flatMap f).length = l.length * n := by
  simp [List.length_flatMap, h]

theorem State.dumpHeader_length (s : State) (mask length : Nat) : (s.dumpHeader mask length).length = 64 := by simp [State.dumpHeader, leBytes_length]

/-- Even with every set selected a dump is far smaller than the ring (R471). -/
theorem State.dumpBody_length_le (s : State) (o : OldCounters) (mask : Nat) : (s.dumpBody o mask).length ≤ 214528 := by
  have hchip : ∀ c, (s.chipSet c).length = 128 := fun c => by simp [State.chipSet, length_flatMap_of_forall (fun _ => leBytes_length 8 _), idxs]
  have hregion : ∀ c r, (s.regionSet c r).length = 128 := fun c r => by simp [State.regionSet, length_flatMap_of_forall (fun _ => leBytes_length 8 _), idxs]
  have hblock : ∀ c i, (s.blockSet c i).length = 144 := fun c i => by simp [State.blockSet, length_flatMap_of_forall (fun _ => leBytes_length 8 _)]
  have hcell : ∀ c i, (cellSet c i).length = 1040 := fun c i => by simp [cellSet, length_flatMap_of_forall (fun _ => leBytes_length 8 _)]
  have hregions : ((idxs 10).flatMap (s.regionSet o.region)).length = 1280 := by simp [length_flatMap_of_forall (hregion _), idxs]
  have hblocks : ((List.range 180).flatMap (s.blockSet o)).length = 25920 := by simp [length_flatMap_of_forall (hblock _)]
  have hcells : ((List.range 180).flatMap (cellSet o.cell)).length = 187200 := by simp [length_flatMap_of_forall (hcell _)]
  have hif : ∀ (b : Bool) (l : Bytes), (if b then l else []).length ≤ l.length := by
    intro b l
    cases b <;> simp
  have h0 := hif (bit mask 0) (s.chipSet o.chip)
  have h1 := hif (bit mask 1) ((idxs 10).flatMap (s.regionSet o.region))
  have h2 := hif (bit mask 2) ((List.range 180).flatMap (s.blockSet o))
  have h3 := hif (bit mask 3) ((List.range 180).flatMap (cellSet o.cell))
  rw [State.dumpBody, List.length_append, List.length_append, List.length_append]
  rw [hchip] at h0
  omega

/-- The dump that latches now (R471). -/
def State.dueDump (s : State) : Dump :=
  let body := s.dumpBody s.dumpSets (s.nat (ob 0x5000 2))
  ⟨s.counters.dumpSeq, s.dumpHeader (s.nat (ob 0x5000 2)) (64 + body.length) ++ body⟩

theorem State.dueDump_fits (s : State) : s.dueDump.data.length ≤ dumpRing := by
  have hbody := s.dumpBody_length_le s.dumpSets (s.nat (ob 0x5000 2))
  simp only [State.dueDump, List.length_append, State.dumpHeader_length, dumpRing]
  omega

theorem State.latchDump_due {s : State} (h : s.dumpDue = true) : s.latchDump =
    (s.modService fun v => { v with entropy := v.entropy + 1 }).modCounters fun c =>
      { c with dumps := (fitDumps (s.counters.dumps ++ [s.dueDump])).1
               overwritten := (c.overwritten + (fitDumps (s.counters.dumps ++ [s.dueDump])).2) % 2 ^ 32
               dumpSeq := (c.dumpSeq + 1) % 2 ^ 32, lastLatch := s.now } := by
  unfold State.latchDump
  rw [h]
  rfl

end Sys2Proof.Machine

namespace Sys2Proof

open Machine

/-- Settles O17: the two commands run the server for one write item and the two reads for one read item; the newest dump fits the ring, so it stays in it. -/
theorem faultRecordsAndCountersAreReadAndCleared : Obligations.FaultRecordsAndCountersAreReadAndCleared := by
  refine ⟨fun s t seq ses h hseq => ⟨fun hsome => ?_, fun hleft hsome => ?_⟩, fun s t ses h => ⟨?_, ?_⟩,
    fun s t ses h hchecks => zeroAllCounters_served h t hchecks, fun s t => ⟨fun hnot => ?_, fun hdue => ?_⟩⟩
  · have hserved := faultAcknowledge_served h t hseq
    rwa [State.acknowledgeUpTo_some (s.advance t) seq hsome] at hserved
  · refine (faultAcknowledge_served h t hseq).mono fun u hu => ⟨?_, ?_⟩
    · rw [State.errorRegister, hu.log]
      exact State.errorRegister_acknowledgeUpTo_all (s.advance t) seq hleft hsome
    · rwa [State.acknowledgeUpTo_all (s.advance t) seq hleft hsome] at hu
  · exact ⟨_, congrArg Host.Outcome.next (State.readObject_domain (h.advance t) 1024 rowOf_faultLog rfl rfl (State.view_faultLog _)), ⟨_, rfl, rfl, rfl⟩, rfl⟩
  · exact ⟨_, congrArg Host.Outcome.next (State.readObject_domain (h.advance t) 262144 rowOf_dumpWindow rfl rfl (State.view_dumpWindow _)), ⟨_, rfl, rfl, rfl⟩, rfl⟩
  · have hdue : (s.advance t).dumpDue = false := hnot.elim (State.dumpDue_false_of_period_zero (s := s.advance t)) id
    exact congrArg Host.Outcome.next (State.latchDump_not_due hdue)
  · exact ⟨_, congrArg Host.Outcome.next (State.latchDump_due hdue),
      ⟨(s.advance t).dueDump, fitDumps_concat _ (s.advance t).dueDump_fits, rfl⟩, rfl⟩

end Sys2Proof

namespace Sys2Proof.Machine

/-! ## The write of a consumer index (R428) -/

/-- A number that does not lie in the range that other values give its object is refused (R20). -/
theorem State.serveWrite_outOfRange {s : State} {ses : Session} {key : Key} {r : Row} {v : Val} {w : Nat} (g : Given) (hrow : rowOf key = some r)
    (hacc : r.acc = .rw ∨ r.acc = .wo) (hw : 8 * (w / 8) = w) (hty : r.ty = .u w) (hfits : r.ty.fits v = true) (hrng : r.rng.ok v = true)
    (hbus : ¬ (0x2240 ≤ key / 256 ∧ key / 256 ≤ 0x224B)) (hses : key ≠ ob 0x2020 4) (hr : (s.withWrite ses key v).rangeOk key = false) :
    s.serveWrite ses (writeItem key v) g = (s, .now 0x06090030 [], 0, []) := by
  have hkeep : keepFields key v = v := by
    cases v with
    | bytes b => simp [hty, Ty.fits] at hfits
    | int n => rfl
  rw [hty] at hfits
  rw [State.serveWrite_num s ses key r v g hrow hacc hbus (by simp [hses]) (by simp [hty]) (hty ▸ Ty.decode_encode_u hw hfits) hrng,
    State.writeChecked, hkeep, hr]
  rfl

/-- The object of the consumer index of queue 0 (R428). -/
theorem rowOf_consumer : rowOf (ob 0x2460 5) = some ⟨0x2460, 0x246F, 0x05, 0x05, .u 32, .rw, .int 0, .any, .instant⟩ := by decide +kernel

/-- A set of the Crust that also holds the consumer index of queue 0, with a number beyond every ring. -/
def consumerSet : ParamSet :=
  { values := [(ob 0x2460 5, .int (2 ^ 32))], map := { home := [], shareC := 0, shareI := 0, ranges := [] }, seq := 0, imageBound := false,
    launchBound := false, imageHash := [], hash := [], keyAction := (0, 0, []) }

/-- The state after the reset, with that set active: the consumer index reads as the set's number, whatever is written to it. -/
def consumerFixed : State := State.reset.modCrust fun c => { c with active := some consumerSet }

end Sys2Proof.Machine

namespace Sys2Proof

open Machine

/-- A command's answer has one code. -/
theorem RefusedWith.not_served {c : Instr} {s : State} {ses : Session} {code : Nat} {P Q : State → Prop} (h : RefusedWith c s ses code P) (hcode : code ≠ 0) :
    ¬ ServedWith c s ses Q := by
  rintro ⟨u', hexec', -, r', hr', hout'⟩
  obtain ⟨u, hexec, -, r, hr, hout⟩ := h
  obtain rfl : u = u' := by simpa using hexec.symm.trans hexec'
  obtain rfl : r = r' := by simpa using hout.symm.trans hout'
  exact hcode (hr.symm.trans hr')

theorem consumerFixed_writesAct : WritesAct consumerFixed .pcie :=
  { works := rfl, latched := rfl, group := rfl, implicit := rfl, instant := rfl, owed := rfl, owner := rfl, run := rfl }

/-- The check of the range sees the set's number in place of the one that is written (R20). -/
theorem consumerFixed_refuses : RefusedWith (.consumerIndexWrite 0 .pcie 0 0) consumerFixed .pcie 0x06090030 (Books (consumerFixed.advance 0)) := by
  refine refusedWith_of_serveWrite (g := {}) rfl (consumerFixed_writesAct.toServerFree.advance 0) ?_ (Books.refl _) rfl
  rw [consumerFixed_writesAct.touchGroup 0]
  exact State.serveWrite_outOfRange {} rowOf_consumer (.inl rfl) (w := 32) rfl rfl rfl rfl (by decide) (by decide) (by decide +kernel)

/-- Refutes O40: the value of an object is read from the Crust's active set first, so a set that holds the queue's consumer index makes every write of that object fail the check of its range. -/
theorem not_hostQueuesDrainOrDrop : ¬ Obligations.HostQueuesDrainOrDrop := by
  intro h
  have hserved := ((h consumerFixed 0 0).1 .pcie 0 consumerFixed_writesAct (by decide +kernel) (by decide)).2
  exact consumerFixed_refuses.not_served (by decide) hserved

end Sys2Proof

namespace Sys2Proof.Machine

/-! ## An entry that is passed by between two coils -/

/-- The fields of the body of `coilDesc`, each with its lowest bit: stream 0 with its left neighbour from column 10, lines 5 and on, a coil's end at line 0 of the stripe and the next coil's start there, windows of two lines and three columns. -/
def coilFields : List (Nat × Nat) :=
  [(501, 1), (492, 32), (491, 1), (490, 1), (400, 5), (384, 10), (352, 0xFFFFFFFF), (320, 0xFFFFFFFF), (256, 0x8000), (251, 1), (246, 1), (242, 1), (238, 1),
   (176, 1), (160, 1), (144, 1), (137, 2), (130, 3), (106, 0x4000), (98, 11), (42, 0x100), (34, 11), (22, 2), (10, 2)]

/-- A pooling of class 2 whose stripe holds no line of the coil that ends, and two of the coil that starts. -/
def coilDesc : WinDesc :=
  { header := BitVec.ofNat 128 (7 * 2 ^ 96 + 0xFFFFFFFF * 2 ^ 64 + 0x200 * 2 ^ 42 + 0x10 * 2 ^ 24 + 2 * 2 ^ 16 + 2 * 2 ^ 14 + 2 ^ 8 + 5)
    body := BitVec.ofNat 640 (coilFields.map fun p => p.2 * 2 ^ (64 + p.1)).sum
    inStream := ⟨2, 3, 4, 0x20000⟩, inSlot := none, wStream := ⟨2, 3, 4, 0x21000⟩, wSlot := none, outStream := ⟨2, 3, 4, 0x22000⟩
    streamCols := 4, tokens := 1, returns := [], upsets := [] }

/-- What block 3.4 waits for: line 0 of the coil that starts, from its left neighbour. -/
def coilWait : SelWait := ⟨true, 0, 0, 0, 2, coilDesc, none⟩

/-- The state after the reset, with block 3.4 waiting. -/
def coilState : State := State.reset.modBlock 3 4 fun x => { x with selWait := some coilWait }

/-- The header of an entry of the ended coil's carry: line 5 of the descriptor's stream and geometry. -/
def carryHeader : BitVec 64 := BitVec.ofNat 64 (5 * 2 ^ 32 + wGeometry coilDesc)

theorem coilState_waits : (coilState.block 3 4).selWait = some coilWait := by decide +kernel

/-- The entry is not the line that is waited for, but its line is one of the carry (R232). -/
theorem carryHeader_mismatch : entryMismatch coilDesc 0 0 ⟨carryHeader, [1], 2, false, false, false⟩ ≠ 0 := by decide +kernel

/-- Whether the block waits for an entry in the state that a command answers. -/
def waitsAfter (c : Instr) (s : State) : Bool :=
  match exec c s with
  | .next u => (u.block 3 4).selWait.isSome
  | _ => false

/-- The entry is passed by, and the descriptor waits on. -/
theorem carry_waits_on : waitsAfter (.selvedgeEntryReceived 0 3 4 0 carryHeader [1] 2 0) coilState = true := by decide +kernel

end Sys2Proof.Machine

namespace Sys2Proof

open Machine

/-- Refutes O51: an entry of the ended coil's carry that no window needs is passed by (R232), and the descriptor goes on waiting for its line; it does not end with ADDRESS. -/
theorem not_selvedgeEntriesAreCheckedAndWaitedFor : ¬ Obligations.SelvedgeEntriesAreCheckedAndWaitedFor := by
  intro h
  have hcrosses : ¬ ∃ w, (coilState.block 3 4).selWait = some w ∧ 2 ≠ hClass w.desc.header := by
    rintro ⟨w, hw, hcls⟩
    obtain rfl : coilWait = w := by simpa [coilState_waits] using hw
    exact hcls (by decide +kernel)
  have hready : coilState.permits (hClass coilDesc.header) (rmemAt 3 (hStatusAddr coilDesc.header)) 16 true = true
      ∧ (rmemAt 3 (hStatusAddr coilDesc.header)).inside 16 = true := by decide +kernel
  obtain ⟨hentries, -⟩ := h coilState 0 3 4 0 (by decide +kernel)
  obtain ⟨-, -, henters⟩ := hentries carryHeader [1] 2 0
  obtain ⟨-, -, hwaited⟩ := henters (by decide +kernel) hcrosses (by decide +kernel)
  obtain ⟨-, hmismatch⟩ := hwaited coilWait 0 [1] rfl coilState_waits hready (by decide +kernel) (by decide +kernel) (by decide +kernel) (by decide +kernel)
    (by decide +kernel)
  obtain ⟨u, hexec, -, hends, -⟩ := hmismatch rfl carryHeader_mismatch
  have hwaits := carry_waits_on
  rw [waitsAfter, hexec] at hwaits
  simp [hends] at hwaits

end Sys2Proof

namespace Sys2Proof.Machine

/-! ## A write of the session that owns the commit group -/

/-- A Basaris session that has not sent a request. -/
def ownerSession : BSession :=
  { num := 1, key := [7, 7, 7, 7], peer := 5, ours := false, lastSeq := none, cache := [], lastAt := 0, txSeq := 0, emergencies := [] }

/-- The state after the reset, but that session has opened the commit group at count 0 (R115). -/
def ownerState : State :=
  (State.reset.modBasaris fun x => { x with sessions := [ownerSession] }).modCommit fun c => { c with owner := some (.basaris 1) }

/-- A write of four bytes to object 0x1234:00, which does not exist. -/
def strayItem : Item := { index := 0x1234, sub := 0, offset := 0, length := 4, staged := false, final := false, data := [1, 2, 3, 4] }

/-- The item as bytes of a payload (R129). -/
def strayPayload : Bytes := leBytes 2 0x1234 ++ leBytes 1 0 ++ leBytes 1 0 ++ leBytes 4 0 ++ leBytes 4 4 ++ [1, 2, 3, 4]

/-- The session's write request with the item, but for its tag. -/
def untaggedFrame : BFrame :=
  { source := 5, header := BitVec.ofNat 256 (0xBA5A + 2 ^ 16 + 0x05 * 2 ^ 24 + strayPayload.length * 2 ^ 48 + 1 * 2 ^ 64 + 9 * 2 ^ 96), payload := strayPayload, tag := [] }

/-- The write request. -/
def strayFrame : BFrame := { untaggedFrame with tag := frameTag ownerSession.key untaggedFrame }

/-- The count of the last activity of the commit group in the state that a command answers. -/
def activityAfter (c : Instr) (s : State) : Option Nat :=
  match exec c s with
  | .next u => some u.commit.lastActivity
  | _ => none

/-- The write keeps the group open: its idle time starts anew (R124). -/
theorem strayFrame_active : activityAfter (.writeRequest 5 strayFrame) ownerState = some 5 := by decide +kernel

end Sys2Proof.Machine

namespace Sys2Proof

open Machine

theorem frameTag_withTag (key : Bytes) (f : BFrame) (tag : Bytes) : frameTag key { f with tag := tag } = frameTag key f := rfl

theorem strayFrame_frameOf : FrameOf ownerState strayFrame ownerSession 0x05 where
  enabled := rfl
  powered := by decide +kernel
  magic := by decide +kernel
  version := by decide +kernel
  type := by decide +kernel
  session := by decide +kernel
  limit := by decide +kernel
  length := by decide +kernel
  tag := (frameTag_withTag ownerSession.key untaggedFrame _).symm

theorem ownerState_free : ServerFree ownerState (.basaris ownerSession.num) :=
  { works := rfl, latched := rfl, group := rfl, implicit := rfl, instant := rfl, owed := rfl }

/-- Refutes O42: a write of an object that does not exist is refused, but where it comes from the session that owns the commit group, it starts the group's idle time anew (R124), so the commit does not stay as it is. -/
theorem not_basarisRequestsAndEmergencies : ¬ Obligations.BasarisRequestsAndEmergencies := by
  intro h
  obtain ⟨hrequests, -⟩ := h.1 ownerState 5 strayFrame ownerSession
  obtain ⟨-, -, -, hmissing⟩ := hrequests true (.writeRequest 5 strayFrame) (.inr ⟨rfl, rfl⟩) strayFrame_frameOf
  obtain ⟨u, hexec, -, -, -, hcommit⟩ := hmissing strayItem (.inl rfl) (by decide +kernel) (by decide +kernel) ownerState_free
  have hactive := strayFrame_active
  simp only [activityAfter, hexec, hcommit] at hactive
  exact absurd hactive (by decide +kernel)

end Sys2Proof

namespace Sys2Proof.Machine

/-! ## What neither the course of a beat nor the start of a launch disturbs -/

/-- What a launch and the dictionary server rest on: the launch with its release buffers, the commits, the requests held, the stacks of the memory, the accumulators of the blocks, and the image slots. -/
structure Footing where
  run : Option Run
  image : Option Image
  count : Nat
  state : LaunchState
  buffered : List Held
  commit : CommitCtl
  works : List Work
  latched : Option Nat
  interleave : List Nat
  stacksOut : List Nat
  acc : Fin 10 → Fin 18 → List (Nat × BitVec 32)
  imgState : Nat
  imgStaged : Option Image
  imgSlot : Nat

/-- The footing of a state. -/
def State.footing (s : State) : Footing :=
  { run := s.launch.run, image := s.launch.image, count := s.launch.count, state := s.launch.state, buffered := s.launch.buffered, commit := s.commit
    works := s.server.works, latched := s.power.latched, interleave := s.power.interleave, stacksOut := s.power.stacksOut
    acc := fun r b => (s.block r b).acc, imgState := s.service.imgState, imgStaged := s.service.imgStaged, imgSlot := s.service.imgSlot }

/-- Whether an output is one that leaves its release buffer. -/
def isRelease : Output → Bool
  | .released .. => true
  | _ => false

/-- `u` stands as `s` does, and what has left the device since then is no output of a release buffer. -/
structure Keeps (s u : State) : Prop where
  footing : u.footing = s.footing
  outbox : ∃ more, u.outbox = s.outbox ++ more ∧ ∀ o ∈ more, isRelease o = false

namespace Keeps

theorem refl (s : State) : Keeps s s := ⟨rfl, [], (List.append_nil _).symm, by simp⟩

theorem trans {s u w : State} (hsu : Keeps s u) (huw : Keeps u w) : Keeps s w := by
  obtain ⟨more, hmore, hnone⟩ := hsu.outbox
  obtain ⟨more', hmore', hnone'⟩ := huw.outbox
  refine ⟨huw.footing.trans hsu.footing, more ++ more', by rw [hmore', hmore, List.append_assoc], fun o ho => ?_⟩
  exact (List.mem_append.mp ho).elim (hnone o) (hnone' o)

section
variable {s u : State} (h : Keeps s u)
include h

/-- A step that leaves the footing and sends nothing. -/
theorem same {w : State} (hfooting : w.footing = u.footing) (houtbox : w.outbox = u.outbox) : Keeps s w :=
  h.trans ⟨hfooting, [], by rw [houtbox, List.append_nil], by simp⟩

theorem emit (o : Output) (ho : isRelease o = false) : Keeps s (u.emit o) :=
  h.trans ⟨rfl, [o], rfl, by simpa using ho⟩

theorem ite {c : Prop} [Decidable c] {w : State} (hw : Keeps s w) : Keeps s (if c then u else w) := by
  split
  · exact h
  · exact hw

theorem foldl {α : Type} {f : State → α → State} (hf : ∀ a x, Keeps s a → Keeps s (f a x)) (l : List α) : Keeps s (l.foldl f u) := by
  induction l generalizing u with
  | nil => exact h
  | cons x l ih => exact ih (hf u x h)

theorem run : u.launch.run = s.launch.run := congrArg Footing.run h.footing
theorem image : u.launch.image = s.launch.image := congrArg Footing.image h.footing
theorem state : u.launch.state = s.launch.state := congrArg Footing.state h.footing
theorem buffered : u.launch.buffered = s.launch.buffered := congrArg Footing.buffered h.footing
theorem commit : u.commit = s.commit := congrArg Footing.commit h.footing
theorem works : u.server.works = s.server.works := congrArg Footing.works h.footing
theorem latched : u.power.latched = s.power.latched := congrArg Footing.latched h.footing
theorem interleave : u.power.interleave = s.power.interleave := congrArg Footing.interleave h.footing
theorem stacksOut : u.power.stacksOut = s.power.stacksOut := congrArg Footing.stacksOut h.footing
theorem imgState : u.service.imgState = s.service.imgState := congrArg Footing.imgState h.footing
theorem imgSlot : u.service.imgSlot = s.service.imgSlot := congrArg Footing.imgSlot h.footing

/-! The parts of the state that the footing does not look at. -/

theorem modLog (f : FaultLog → FaultLog) : Keeps s (u.modLog f) := h.same rfl rfl
theorem modNode (f : CanNode → CanNode) : Keeps s (u.modNode f) := h.same rfl rfl
theorem modDict (f : Dict → Dict) : Keeps s (u.modDict f) := h.same rfl rfl
theorem modMbx (f : Mailbox → Mailbox) : Keeps s (u.modMbx f) := h.same rfl rfl
theorem modBasaris (f : Basaris → Basaris) : Keeps s (u.modBasaris f) := h.same rfl rfl
theorem modCounters (f : Counters → Counters) : Keeps s (u.modCounters f) := h.same rfl rfl
theorem modCrust (f : Crust → Crust) : Keeps s (u.modCrust f) := h.same rfl rfl
theorem modMotion (f : Motion → Motion) : Keeps s (u.modMotion f) := h.same rfl rfl
theorem modTime (f : Time → Time) : Keeps s (u.modTime f) := h.same rfl rfl
theorem modNet (f : Net → Net) : Keeps s (u.modNet f) := h.same rfl rfl
theorem modMem (f : Mem → Mem) : Keeps s (u.modMem f) := h.same rfl rfl
theorem modMarks (f : List BadLane → List BadLane) : Keeps s (u.modMarks f) := h.same rfl rfl
theorem modKv (f : Kv → Kv) : Keeps s (u.modKv f) := h.same rfl rfl
theorem modRegions (f : Nat → Region → Region) : Keeps s (u.modRegions f) := h.same rfl rfl
theorem clearDetect : Keeps s u.clearDetect := h.same rfl rfl
theorem modRegion (r : Fin 10) (f : Region → Region) : Keeps s (u.modRegion r f) := h.same rfl rfl
theorem modStream (n : Fin 24) (f : Stream → Stream) : Keeps s (u.modStream n f) := h.same rfl rfl
theorem modHead (k : Fin 12) (f : Head → Head) : Keeps s (u.modHead k f) := h.same rfl rfl
theorem modIntake (q : Fin 8) (f : Intake → Intake) : Keeps s (u.modIntake q f) := h.same rfl rfl
theorem modTt (c : Fin 2) (f : TtCan → TtCan) : Keeps s (u.modTt c f) := h.same rfl rfl
theorem modPd (d : Fin 72) (f : PDomain → PDomain) : Keeps s (u.modPd d f) := h.same rfl rfl
theorem modAxis (k : Fin 16) (f : Axis → Axis) : Keeps s (u.modAxis k f) := h.modMotion _
theorem modOutput (k : Fin 32) (f : DOut → DOut) : Keeps s (u.modOutput k f) := h.modMotion _
theorem modSupply (k : Fin 16) (f : Supply → Supply) : Keeps s (u.modSupply k f) := h.modMotion _
theorem modDomain (d : Fin 2) (f : Domain → Domain) : Keeps s (u.modDomain d f) := h.modTime _
theorem modQp (q : Fin 256) (f : Qp → Qp) : Keeps s (u.modQp q f) := h.modNet _

theorem setObj (key : Key) (v : Val) : Keeps s (u.setObj key v) := h.modDict _
theorem bump (key : Key) (n : Nat) : Keeps s (u.bump key n) := h.setObj _ _
theorem countChip (k : Fin 16) (n : Nat) : Keeps s (u.countChip k n) := h.modCounters _
theorem countSat (n : Nat) : Keeps s (u.countSat n) := h.ite (h.bump _ n)
theorem store (p : MemRef) (bs : Bytes) : Keeps s (u.store p bs) := (h.modMem _).modMarks _
theorem drawNat (p w : Nat) (ops : List Int) : Keeps s (u.drawNat p w ops).2 := h.same rfl rfl

end

/-! ## Faults (R38, R41) -/

section
variable {s u : State} (h : Keeps s u)
include h

theorem nodeFrame (o : Output) (ho : isRelease o = false) : Keeps s (u.nodeFrame o) := ((h.emit o ho).bump _ 1).ite h

theorem queueEmcy (m : Emcy) : Keeps s (u.queueEmcy m) :=
  h.ite (((h.nodeFrame _ rfl).modNode _).ite ((h.modNode _).ite ((h.modNode _).bump _ 1)))

theorem sendWire (o : Output) (ho : isRelease o = false) : Keeps s (u.sendWire o) := (h.emit o ho).ite h

theorem announceBasaris (r : FaultRec) : Keeps s (u.announceBasaris r) :=
  (h.foldl (fun _ b ha => ha.sendWire (u.wire b.key b.peer b.num 0x07 0 b.txSeq 0 r.bytes) rfl) u.basaris.sessions).same rfl rfl

theorem announcePcie (r : FaultRec) : Keeps s (u.announcePcie r) :=
  h.ite ((h.bump _ 1).ite (((h.modMbx _).emit _ rfl).ite (h.modMbx _)))

theorem announce (r : FaultRec) : Keeps s (u.announce r) :=
  h.ite ((((h.queueEmcy _).announceBasaris r).announcePcie r).emit _ rfl)

theorem record (r : FaultRec) : Keeps s (u.record r) := by
  unfold State.record
  split
  · exact h.modLog _
  · exact ((h.modLog _).announce r).countChip _ _

theorem tellDisplaced (before : Nat) : Keeps s (u.tellDisplaced before) := by
  rcases u.tellDisplaced_cases before with htold | htold <;> rw [htold]
  · exact (h.modNode _).record _
  · exact h

theorem fault (code : Nat) (loc : Loc) (detail part : Nat) : Keeps s (u.fault code loc detail part) := (h.record _).tellDisplaced _

end

/-! ## The Crust and the motion unit -/

section
variable {s u : State} (h : Keeps s u)
include h

theorem axisOff (k : Fin 16) : Keeps s (u.axisOff k) := h.modAxis k _

theorem axesOff (mask : BitVec 16) : Keeps s (u.axesOff mask) := h.foldl (fun _ k ha => (ha.axisOff k).ite ha) _

theorem supplyAction (k : Fin 16) : Keeps s (u.supplyAction k) := (h.modSupply k _).ite h

theorem outputOff : Keeps s u.outputOff :=
  ((h.axesOff _).foldl (fun _ k ha => ha.modOutput k _) _).foldl (fun _ k ha => ha.supplyAction k) _

theorem enterNoBeat : Keeps s u.enterNoBeat := (h.modCrust _).outputOff

theorem enterBeat (imageHash : Bytes) : Keeps s (u.enterBeat imageHash) := h.same rfl rfl

theorem recoverStream (n : Fin 24) : Keeps s (u.recoverStream n) := (h.modStream n _).fault _ _ _ _

theorem applyReset (sameBeat : Nat → Bool) : Keeps s (u.applyReset sameBeat) := by
  unfold State.applyReset
  extract_lets kept held s1 s2
  have hstreams : Keeps s s2 := (h.modCrust _).foldl (fun _ n ha => (ha.recoverStream n).ite ha) _
  exact hstreams.ite (hstreams.fault _ _ _ _)

theorem countClamp (unit kind leg : Nat) : Keeps s (u.countClamp unit kind leg) := ((h.bump _ 1).modMotion _).fault _ _ _ _

theorem supplyCommand (k : Fin 16) (v : Nat) : Keeps s (u.supplyCommand k v) := (h.modSupply k _).ite (h.modSupply k _)

theorem syncAxes : Keeps s u.syncAxes :=
  h.foldl (fun a k ha => by split; exacts [ha.ite (ha.axisOff k), ha]) _

theorem tighten (key : Key) : Keeps s (u.tighten key) := by
  unfold State.tighten
  split
  · exact h
  · dsimp only
    split
    · exact ((h.setObj _ _).countClamp _ _ _).supplyCommand _ _
    · exact (h.setObj _ _).countClamp _ _ _

theorem activateSet (p : ParamSet) : Keeps s (u.activateSet p) :=
  (((((h.modCrust _).modCrust _).foldl (fun _ k ha => ha.tighten k) _).foldl (fun _ k ha => ha.ite (ha.modOutput k _)) _)).syncAxes

theorem activateDue : Keeps s u.activateDue := by
  unfold State.activateDue
  split
  · exact h.ite (h.activateSet _)
  · exact h

theorem activateAtLaunch : Keeps s u.activateAtLaunch := by
  unfold State.activateAtLaunch
  split
  · exact (h.activateSet _).ite h
  · exact h

end

/-! ## The input records of a beat (R330) -/

section
variable {s u : State} (h : Keeps s u)
include h

theorem encoderError (k : Fin 16) (mode cause : Nat) : Keeps s (u.encoderError k mode cause) := ((h.modAxis k _).bump _ 1).fault _ _ _ _

theorem sourceEvent (src : Fin 24) (count : Nat) : Keeps s (u.sourceEvent src count) := by
  have hfollow : ∀ a, Keeps s a → Keeps s (a.followSource src.val) := fun a ha => ha.ite (ha.modTime _)
  exact ((h.bump _ 1).fault _ _ _ _).ite (hfollow _ (h.modMotion _))

theorem encoderSource (k : Fin 16) (before : Int) : Keeps s (u.encoderSource k before) :=
  (h.modAxis k _).foldl (fun _ _ ha => ha.sourceEvent _ _) _

theorem sampleAxis (x : AxisSample) : Keeps s (u.sampleAxis x) := by
  unfold State.sampleAxis
  extract_lets k mode osr live s1 s2
  have hcurrents : Keeps s s1 := h.modAxis k _
  have hposition : Keeps s s2 := by
    refine hcurrents.ite ((hcurrents.encoderError k mode _).ite (ite ?_ (hcurrents.modAxis k _)))
    split
    · exact hcurrents.modAxis k _
    · exact hcurrents
  exact hposition.encoderSource k _

theorem deliverInputs (beat : Nat) (axes : List (Fin 16)) : Keeps s (u.deliverInputs beat axes) :=
  h.foldl (fun _ _ ha => (ha.store _ _).ite ha) _

theorem sampleBeat (beat : Nat) (samples : List AxisSample) : Keeps s (u.sampleBeat beat samples) := by
  unfold State.sampleBeat
  extract_lets axes s1 mask s2
  have hsampled : Keeps s s1 := h.foldl (fun _ _ ha => ha.sampleAxis _) _
  have hsent : Keeps s s2 := (hsampled.deliverInputs _ _).emit _ rfl
  exact h.ite (hsent.foldl (fun _ k ha => ha.modAxis k _) _)

end

/-! ## The end of a beat (R82, R331, R378, R462) -/

section
variable {s u : State} (h : Keeps s u)
include h

theorem countMissing (beat : Nat) (got : List (Fin 16)) : Keeps s (u.countMissing beat got) :=
  h.foldl (fun _ _ ha => (ha.bump _ 1).ite ha) _

theorem zeroIfDue : Keeps s u.zeroIfDue := ite (h.modCounters _) h

theorem resetDue (beat : Nat) : Keeps s (u.resetDue beat) := (h.applyReset _).ite h

theorem dropConsumed : Keeps s u.dropConsumed := h.modNet _

end

/-! ## The start of a launch (R94) -/

section
variable {s u : State} (h : Keeps s u)
include h

theorem setEntries (es : List (Key × Val)) : Keeps s (u.setEntries es) := h.foldl (fun _ _ ha => ha.ite (ha.setObj _ _)) es

theorem latchRequest (d : Fin 72) : Keeps s (u.latchRequest d) := h.modPd d _

theorem reportClamps : Keeps s u.reportClamps := h.ite ((h.modTime _).fault _ _ _ _)

theorem stepTime (o : Int) : Keeps s (u.stepTime o) :=
  ((h.modTime _).modTime _).foldl (fun _ d ha => ha.modDomain d _) _

theorem servo (d : Fin 2) (o : Int) : Keeps s (u.servo d o) := by
  unfold State.servo
  extract_lets large s1 s2 tau
  have hlarge : Keeps s s1 := (h.fault _ _ _ _).ite h
  have hbase : Keeps s s2 := by
    show Keeps s (match s1.time.domains[d].advances (s1.nat (ob 0x2200 0x0C)) with
      | some (gm, local_) => _
      | none => s1)
    split
    · exact hlarge.modTime _
    · exact hlarge
  exact h.ite ((h.stepTime o).ite ((hbase.modTime _).reportClamps))

theorem activateDomain (d : Fin 2) : Keeps s (u.activateDomain d) := (h.modTime _).modDomain d _

theorem switchDomain (d : Fin 2) (cause : Nat) : Keeps s (u.switchDomain d cause) := by
  have hswitched : ∀ x : Domain, Keeps s ((u.cancelAdjustment.activateDomain d).fault 0x0C03 (.ofUnit x.port) (atI 32 32 x.offset ||| at_ 8 8 cause ||| at_ 8 0 d.val)) :=
    fun x => ((h.modTime _).activateDomain d).fault _ _ _ _
  unfold State.switchDomain
  dsimp only
  split
  · exact ((hswitched _).servo _ _).ite (hswitched _)
  · exact hswitched _

theorem enterHoldover (lost : Fin 2) (cause : Nat) : Keeps s (u.enterHoldover lost cause) := ((h.modTime _).modTime _).fault _ _ _ _

theorem loseDomain (d : Fin 2) (cause : Nat) : Keeps s (u.loseDomain d cause) := by
  unfold State.loseDomain
  extract_lets s1 o other s2 s3 s4
  have h1 : Keeps s s1 := h.modDomain d _
  have h2 : Keeps s s2 := (h1.modTime _).ite h1
  have h3 : Keeps s s3 := (h2.modTime _).ite ((h2.activateDomain 1).ite h2)
  have h4 : Keeps s s4 := ((h3.switchDomain o cause).ite (h3.enterHoldover d cause)).ite h3
  exact h.ite (h4.modTime _)

theorem setupDomain (d : Fin 2) : Keeps s (u.setupDomain d) :=
  ((h.modDomain d _).ite h).ite (h.ite ((h.loseDomain d 2).modDomain d _))

theorem ttSetup (c : Fin 2) : Keeps s (u.ttSetup c) := h.modTt c _

theorem launchLine : Keeps s u.launchLine := h.same rfl rfl

theorem launchStreams : Keeps s u.launchStreams := h.foldl (fun _ n ha => ha.modStream n _) _

theorem discover (n : Fin 24) (d : Discovery) : Keeps s (u.discover n d) := by
  unfold State.discover
  split
  · exact (h.modStream n _).fault _ _ _ _
  · split
    · exact (h.modStream n _).fault _ _ _ _
    · exact h.modStream n _

theorem discoverAll (cams : List (Fin 24 × Discovery)) : Keeps s (u.discoverAll cams) := h.foldl (fun _ _ ha => ha.ite (ha.discover _ _)) cams

theorem judgeTrust (k : Fin 12) : Keeps s (u.judgeTrust k) := (h.modHead k _).ite ((h.modHead k _).ite h)

theorem safeDefault (k : Fin 12) (state : Nat) : Keeps s (u.safeDefault k state) := (((h.modHead k _).modHead k _).emit _ rfl).judgeTrust k

theorem launchHeads : Keeps s u.launchHeads :=
  h.foldl (fun _ k ha => ((ha.safeDefault k 2).ite ha).ite ((ha.modHead k _).judgeTrust k)) _

theorem launchIntake : Keeps s u.launchIntake := h.foldl (fun _ q ha => ((ha.modIntake q _).setObj _ _).countSat _) _

theorem launchNet : Keeps s u.launchNet := h.foldl (fun _ q ha => (ha.modQp q _).ite ha) _

theorem fixPlan : Keeps s u.fixPlan := h.same rfl rfl

theorem startElements : Keeps s u.startElements := h.same rfl rfl

theorem showKv (old : State) (p : Fin 4) : Keeps s (u.showKv old p) := by
  unfold State.showKv
  split
  · exact h
  · exact (h.foldl (fun _ _ ha => ha.ite (ha.store _ _)) _).foldl (fun _ _ ha => ha.ite (ha.store _ _)) _

theorem showAllKv : Keeps s u.showAllKv := h.foldl (fun _ p ha => ha.showKv _ p) _

theorem firstBeat : Keeps s u.firstBeat := by
  unfold State.firstBeat
  extract_lets ms bound s1
  have hboot : Keeps s s1 := h.same rfl rfl
  exact h.ite ((hboot.fault _ _ _ _).ite hboot)

end

end Keeps

end Sys2Proof.Machine

namespace Sys2Proof.Machine

/-! ## What the start of a launch changes -/

namespace Keeps

/-- A change that acts on the footing alone, and sends nothing, may be made before or after. -/
theorem map {s u : State} (h : Keeps s u) {g : State → State} (G : Footing → Footing) (hfooting : ∀ x, (g x).footing = G x.footing)
    (houtbox : ∀ x, (g x).outbox = x.outbox) : Keeps (g s) (g u) := by
  obtain ⟨more, hmore, hnone⟩ := h.outbox
  exact ⟨by rw [hfooting, hfooting, h.footing], more, by rw [houtbox, houtbox, hmore], hnone⟩

end Keeps

/-- The launch control once no launch runs (R85). -/
def Launch.ended (l : Launch) : Launch :=
  if l.run.isNone then l
  else { l with run := none, state := if l.state = .running ∨ l.state = .holdover then .none else l.state, buffered := [], deferred := [], late := [] }

theorem Launch.ended_run (l : Launch) : l.ended.run = none := by
  unfold Launch.ended
  split
  · exact Option.isNone_iff_eq_none.mp ‹_›
  · rfl

theorem Launch.ended_of_none {l : Launch} (h : l.run = none) : l.ended = l := if_pos (by rw [h]; rfl)

section
variable {s : State}

theorem State.modLaunch_self {f : Launch → Launch} (h : f s.launch = s.launch) : s.modLaunch f = s := by rw [State.modLaunch, h]

theorem State.modCommit_self {f : CommitCtl → CommitCtl} (h : f s.commit = s.commit) : s.modCommit f = s := by rw [State.modCommit, h]

theorem State.modPower_self {f : Power → Power} (h : f s.power = s.power) : s.modPower f = s := by rw [State.modPower, h]

end

theorem State.endLaunch_keeps (s : State) : Keeps (s.modLaunch Launch.ended) s.endLaunch := by
  cases hrun : s.launch.run with
  | none =>
    rw [State.modLaunch_self (Launch.ended_of_none hrun), State.endLaunch, hrun]
    exact .refl s
  | some r =>
    have hended : s.launch.ended = { s.launch with
        run := none
        state := if s.launch.state = .running ∨ s.launch.state = .holdover then .none else s.launch.state
        buffered := [], deferred := [], late := [] } :=
      if_neg (by rw [hrun]; exact Bool.false_ne_true)
    rw [State.modLaunch, hended, State.endLaunch, hrun]
    exact (Keeps.refl _).enterNoBeat

/-- The commit control once the group is closed. -/
def CommitCtl.closed (c : CommitCtl) : CommitCtl := if c.owner.isNone then c else { c with owner := none, entries := [], group := none }

theorem CommitCtl.closed_of_none {c : CommitCtl} (h : c.owner = none) : c.closed = c := if_pos (by rw [h]; rfl)

theorem State.discardGroup_keeps {s : State} (hgroup : s.commit.group = none) (why : Nat) : Keeps (s.modCommit CommitCtl.closed) (s.discardGroup why) := by
  cases howner : s.commit.owner with
  | none =>
    rw [State.modCommit_self (CommitCtl.closed_of_none howner), State.discardGroup, howner]
    exact .refl s
  | some ses =>
    have hclosed : s.commit.closed = { s.commit with owner := none, entries := [], group := none } := if_neg (by rw [howner]; exact Bool.false_ne_true)
    rw [State.modCommit, hclosed, State.discardGroup, howner]
    simp only [hgroup]
    exact ((Keeps.refl s.closeGroup).modDict _).fault _ _ _ _

theorem State.applyPending_keeps (s : State) : Keeps (s.modCommit fun c => { c with pending := [] }) s.applyPending := by
  have hset : Keeps (s.modCommit fun c => { c with pending := [] }) ((s.setEntries s.commit.pending).modCommit fun c => { c with pending := [] }) :=
    ((Keeps.refl s).setEntries _).map (g := fun x => x.modCommit fun c => { c with pending := [] })
      (fun p => { p with commit := { p.commit with pending := [] } }) (fun _ => rfl) (fun _ => rfl)
  have hunit : ∀ (i : Nat) (a b : State), Keeps a b → Keeps a (b.onUnit 72 i b.latchRequest) := by
    intro i a b hab
    unfold State.onUnit
    split
    · exact hab.latchRequest _
    · exact hab
  exact ((hset.foldl (fun _ k ha => (hunit _ _ _ ha).ite ha) _).foldl (fun _ d ha => ha.setupDomain d) _).foldl (fun _ c ha => (ha.ttSetup c).ite ha) _

theorem State.block_modBlocks (s : State) (f : Nat → Block → Block) (r : Fin 10) (b : Fin 18) : (s.modBlocks f).block r b = f (blk r b).val (s.block r b) := by
  simp [State.block, updAll]

/-- Every block with its accumulators zero. -/
def State.cleared (s : State) : State := s.modBlocks fun _ x => { x with acc := [] }

theorem State.footing_modBlocks (s : State) (f : Nat → Block → Block) :
    (s.modBlocks f).footing = { s.footing with acc := fun r b => (f (blk r b).val (s.block r b)).acc } := by
  simp [State.footing, State.block_modBlocks]

theorem State.launchBlocks_keeps (s : State) (im : Image) (pace : Bool) : Keeps s.cleared (s.launchBlocks im pace) := by
  have hreplan : ∀ (a b : State) (r : Fin 10), Keeps a b → Keeps a (b.applyReplan r) := by
    intro a b r hab
    unfold State.applyReplan
    split
    · exact hab.modRegion r _
    · exact hab
  unfold State.launchBlocks
  extract_lets s0 s1
  have hblocks : Keeps s.cleared s0 := (Keeps.refl _).same (by simp [s0, State.cleared, State.footing_modBlocks]) (by simp [s0, State.cleared])
  have hqueues : Keeps s.cleared s1 := ((hblocks.modRegions _).modKv _).clearDetect
  exact hqueues.foldl (fun _ r ha => ((hreplan _ _ r ha).modRegion r _).ite (hreplan _ _ r ha)) _

/-- The address space of the HBM over the stacks that remain (R446). -/
def State.aligned (s : State) : State := s.modPower fun p => { p with interleave := [0, 1, 2, 3].filter fun k => !s.power.stacksOut.contains k }

theorem State.reinterleave_keeps (s : State) : Keeps s.aligned s.reinterleave := by
  unfold State.reinterleave
  extract_lets left
  split
  case isTrue heq =>
    have hsame : s.aligned = s := State.modPower_self (f := fun p => { p with interleave := left }) (by rw [← heq])
    rw [hsame]
    exact .refl s
  case isFalse hne => exact (Keeps.refl s.aligned).modMem _

section
variable {s u : State} (h : Keeps s u)
include h

theorem Keeps.saveElements : Keeps s u.saveElements := h.same rfl rfl

theorem Keeps.rehash : Keeps s u.rehash := h.same rfl rfl

theorem Keeps.launchBeat : Keeps s u.launchBeat := by
  have hblocks : Keeps s (u.modBlocks fun _ x => { x with cacheLines := [] }) := h.same (State.footing_modBlocks _ _) (State.modBlocks_outbox _ _)
  have hvariant : ∀ (x : State) (reduced : Bool) (rate : Nat), Keeps s x → Keeps s (x.modLaunch fun l =>
      { l with reduced := reduced, inspection := rate, lastBeat := l.run.map fun r => r.beat }) := fun _ _ _ hx => hx.same rfl rfl
  exact (hvariant _ _ _ hblocks).saveElements.rehash

end

theorem State.launchTime_keeps (s : State) (count : Nat) :
    ∃ st, (st = .running ∨ st = .holdover) ∧ Keeps (s.modLaunch fun l => { l with state := st }) (s.launchTime count) := by
  unfold State.launchTime
  extract_lets ok
  split
  · exact ⟨.running, .inl rfl, .refl _⟩
  · exact ⟨.holdover, .inr rfl, (Keeps.refl _).fault _ _ _ _⟩

/-! ## Places in memory that an image does not name -/

section
variable {s : State} {im : Image} (himage : s.launch.image = some im) (hnone : StoresNothing im)
include himage hnone

theorem State.showAllKv_of_none : s.showAllKv = s := by
  have hplace : ∀ (old : State) (p : Fin 4), s.showKv old p = s := by
    intro old p
    simp [State.showKv, State.kvPlace, himage, hnone.2.2]
  unfold State.showAllKv
  induction idxs 4 with
  | nil => rfl
  | cons p l ih => rw [List.foldl_cons, hplace, ih]

theorem State.inputPlace_of_none (k : Fin 16) : s.inputPlace k = none := by
  simp [State.inputPlace, himage, hnone.1, hnone.2.1]

theorem State.deliverInputs_of_none (beat : Nat) (axes : List (Fin 16)) : s.deliverInputs beat axes = s := by
  simp [State.deliverInputs, State.inputPlace_of_none himage hnone]

theorem State.sampleBeat_mem (beat : Nat) (samples : List AxisSample) : (s.sampleBeat beat samples).mem = s.mem := by
  have hmod : ∀ (axes : List (Fin 16)) (f : Axis → Axis) (a : State), (axes.foldl (fun acc k => acc.modAxis k f) a).mem = a.mem :=
    fun axes f a => State.foldl_mem (f := fun acc k => acc.modAxis k f) (fun _ _ => rfl) axes a
  unfold State.sampleBeat
  extract_lets axes s1 mask s2
  have hsampled : s1.mem = s.mem := State.foldl_mem (fun a x => State.sampleAxis_mem a x) _ s
  have himage1 : s1.launch.image = some im := ((Keeps.refl s).foldl (fun _ x ha => ha.sampleAxis x) _).image.trans himage
  have hsent : s2.mem = s.mem := by
    show (s1.deliverInputs beat axes).mem = s.mem
    rw [State.deliverInputs_of_none himage1 hnone, hsampled]
  split
  · rfl
  · rw [hmod, hsent]

end

/-! ## Beat 0 -/

/-- The footing of a state whose launch of an image has just begun (R82, R85, R117, R124, R140, R446). -/
def Footing.begun (p : Footing) (run : Run) (im : Image) (state : LaunchState) : Footing :=
  { p with
    run := some run, image := some im, count := run.start, state := state, buffered := [], commit := { p.commit.closed with pending := [] }
    interleave := [0, 1, 2, 3].filter fun k => !p.stacksOut.contains k, acc := fun _ _ => [] }

theorem State.cleared_footing (s : State) : s.cleared.footing = { s.footing with acc := fun _ _ => [] } := State.footing_modBlocks _ _

section
variable (s : State)

/-- What was running ends, the open group is closed, and the pending values become active. -/
theorem State.applyPending_footing (hgroup : s.commit.group = none) : ∃ l : Launch, ((s.endLaunch.discardGroup 2).applyPending).footing =
    { s.footing with run := l.run, image := l.image, count := l.count, state := l.state, buffered := l.buffered, commit := { s.commit.closed with pending := [] } } := by
  have hended := s.endLaunch_keeps
  have hclosed := (hended.map (g := fun x => x.modCommit CommitCtl.closed) (fun p => { p with commit := p.commit.closed }) (fun _ => rfl) (fun _ => rfl)).trans
    (State.discardGroup_keeps (hended.commit ▸ hgroup) 2)
  have hpending := (hclosed.map (g := fun x => x.modCommit fun c => { c with pending := [] }) (fun p => { p with commit := { p.commit with pending := [] } })
    (fun _ => rfl) (fun _ => rfl)).trans (State.applyPending_keeps _)
  exact ⟨s.launch.ended, hpending.footing⟩

/-- The units at the start of a launch. -/
theorem State.launchUnits_keeps (im : Image) (pace : Bool) (cams : List (Fin 24 × Discovery)) :
    Keeps s.cleared ((((s.launchBlocks im pace).launchLine).launchStreams.discoverAll cams).launchHeads.launchIntake.launchNet) :=
  (((((State.launchBlocks_keeps s im pace).launchLine).launchStreams).discoverAll cams).launchHeads).launchIntake.launchNet

/-- The memory and the hashes at the start of a launch. -/
theorem State.launchMemory_keeps : Keeps s.aligned s.reinterleave.fixPlan.startElements.showAllKv.activateAtLaunch.launchBeat :=
  (State.reinterleave_keeps s).fixPlan.startElements.showAllKv.activateAtLaunch.launchBeat

/-- The first beat of a launch. -/
theorem State.beatZero_footing (count : Nat) (hash : Bytes) : ∃ st, (st = .running ∨ st = .holdover)
    ∧ ((s.launchTime count).enterBeat hash).firstBeat.footing = { s.footing with state := st } := by
  obtain ⟨st, hst, htime⟩ := State.launchTime_keeps s count
  exact ⟨st, hst, ((htime.enterBeat hash).firstBeat).footing⟩

end

/-- Beat 0: the launch runs from its count, and nothing is written where the image names no place for it. -/
theorem State.beginLaunch_begun {s : State} (hgroup : s.commit.group = none) (im : Image) (count : Nat) (cams : List (Fin 24 × Discovery)) :
    (∃ run st, run.start = count ∧ run.beat = 0 ∧ run.paused = false ∧ (st = .running ∨ st = .holdover)
        ∧ (s.beginLaunch im count cams).footing = s.footing.begun run im st)
      ∧ (StoresNothing im → (s.power.interleave = [0, 1, 2, 3].filter fun k => !s.power.stacksOut.contains k) → (s.beginLaunch im count cams).mem = s.mem) := by
  unfold State.beginLaunch
  extract_lets s1 pace run s2 s3 s4
  obtain ⟨l, h1⟩ := State.applyPending_footing s hgroup
  have h2 : s2.footing = { s1.footing with run := some run, count := count, image := some im, buffered := [] } := rfl
  have h3 : s3.footing = { s2.footing with acc := fun _ _ => [] } := (State.launchUnits_keeps s2 im pace cams).footing.trans (State.cleared_footing s2)
  have hmem3 : s3.mem = s.mem := by simp [s3, s2, s1]
  obtain ⟨hstart, hzero, hunpaused⟩ : run.start = count ∧ run.beat = 0 ∧ run.paused = false := ⟨rfl, rfl, rfl⟩
  rw [h1] at h2
  clear_value s3 run
  clear_value s2
  set s5 := s3.modPower fun p => { p with steps := [], stepBeat := none } with hs5
  have h5 : s5.footing = _ := (show s5.footing = s3.footing from rfl).trans (h3.trans (by rw [h2]))
  have h4 : s4.footing = { s5.footing with interleave := [0, 1, 2, 3].filter fun k => !s5.footing.stacksOut.contains k } := (State.launchMemory_keeps s5).footing
  obtain ⟨st, hst, hbeat⟩ := State.beatZero_footing s4 count im.hash
  rw [h4, h5] at hbeat
  refine ⟨⟨run, st, hstart, hzero, hunpaused, hst, ?_⟩, fun hnone hstacks => ?_⟩
  · rw [((Keeps.refl _).sampleBeat 0 []).footing, hbeat, ← hstart]
    rfl
  · have himage5 : s5.reinterleave.fixPlan.startElements.launch.image = some im :=
      ((State.reinterleave_keeps s5).fixPlan.startElements.image).trans (congrArg Footing.image h5)
    have hinterleave : s5.power.interleave = s.power.interleave := congrArg Footing.interleave h5
    have hstacksOut : s5.power.stacksOut = s.power.stacksOut := congrArg Footing.stacksOut h5
    have hkept : s5.reinterleave = s5 := if_pos (by rw [hinterleave, hstacksOut]; exact hstacks)
    calc (((s4.launchTime count).enterBeat im.hash).firstBeat.sampleBeat 0 []).mem
        = s4.mem := by rw [State.sampleBeat_mem (congrArg Footing.image hbeat) hnone]; simp
      _ = s5.mem := by
        show (s5.reinterleave.fixPlan.startElements.showAllKv.activateAtLaunch.launchBeat).mem = s5.mem
        rw [State.showAllKv_of_none himage5 hnone, hkept]
        simp
      _ = s.mem := hmem3

end Sys2Proof.Machine

namespace Sys2Proof.Machine

/-! ## The outputs of a release count -/

/-- The fold of a release count: each output in turn, with the axes that the outputs command. -/
def State.releaseEach (s : State) (run : Run) (n : Nat) (l : List Report) : State × List (Fin 16) :=
  l.foldl (fun acc r =>
    let x := acc.1.releaseOne run n r
    (x.1, acc.2 ++ x.2)) (s, [])

/-- The release buffers give up what is due at count `n`. -/
def State.unbuffered (s : State) (n : Nat) : State := s.modLaunch fun l => { l with buffered := l.buffered.filter fun e => decide (n < e.due) }

theorem State.countMissing_streams (s : State) (beat : Nat) (got : List (Fin 16)) : (s.countMissing beat got).streams = s.streams := by
  unfold State.countMissing
  generalize idxs 16 = l
  suffices h : ∀ a : State, (l.foldl (fun acc k => if s.loopBeat k.val beat && !got.contains k then acc.bump (ob 0x4080 2) else acc) a).streams = a.streams from h s
  induction l with
  | nil => intro a; rfl
  | cons k l ih =>
    intro a
    rw [List.foldl_cons, ih]
    split <;> rfl

/-- After its outputs a release count touches only counters, bookkeeping and the declarations of late releases. -/
theorem State.releaseAll_keeps {s : State} {run : Run} {n : Nat} {reports : List Report} {y : State} {axes : List (Fin 16)}
    (h : (s.unbuffered n).releaseEach run n (sortReports (reports ++ s.dueOutputs n reports)) = (y, axes)) :
    Keeps y (s.releaseAll run n reports) ∧ (s.releaseAll run n reports).streams = y.streams ∧ (s.releaseAll run n reports).mem = y.mem := by
  have hall : s.releaseAll run n reports =
      ((if (sortReports (reports ++ s.dueOutputs n reports)).any fun r => r.primary.complete && r.cls != 3 then
        (y.drawNat 47 64 []).2.modCounters fun c => { c with chip := c.chip.set 1 (min c.chip[1] (y.drawNat 47 64 []).1) }
      else y).modLaunch fun l => { l with late := l.late.filter fun e => decide (n < e.late) }).countMissing (n - 1) axes := by
    have h1 : y = ((s.unbuffered n).releaseEach run n (sortReports (reports ++ s.dueOutputs n reports))).1 := by rw [h]
    have h2 : axes = ((s.unbuffered n).releaseEach run n (sortReports (reports ++ s.dueOutputs n reports))).2 := by rw [h]
    rw [h1, h2]
    rfl
  have hslack : Keeps y ((y.drawNat 47 64 []).2.modCounters fun c => { c with chip := c.chip.set 1 (min c.chip[1] (y.drawNat 47 64 []).1) }) :=
    ((Keeps.refl y).drawNat _ _ _).modCounters _
  rw [hall]
  refine ⟨((hslack.ite (.refl y)).same (w := State.modLaunch _ _) rfl rfl).countMissing _ _, ?_, ?_⟩
  · rw [State.countMissing_streams]
    split <;> rfl
  · rw [State.countMissing_mem]
    split <;> rfl

section
variable {s : State} {im : Image} (himage : s.launch.image = some im) (hhost : im.hostOutputs = []) (hdeferred : s.launch.deferred = [])
  {run : Run} {n : Nat} {r : Report}
include himage hhost hdeferred

/-- A complete output of class I whose payload is of named fields leaves as it is, and no host queue takes it (R79). -/
theorem State.releaseOne_complete (hlate : s.launch.late = []) (hcls : r.cls = 2) (hcomplete : r.primary.complete = true) (hvalid : r.primary.invalid = false)
    (hshadow : r.shadow = none) (hfields : ∃ x, r.primary.payload = .fields x) :
    s.releaseOne run n r = (s.emit (.released (run.countOf n) r.out 2 0 r.primary.payload), []) := by
  obtain ⟨x, hx⟩ := hfields
  have hmoved : s.movedTo n r.out = none := by simp [State.movedTo, hlate]
  have hout : s.releaseOutput n (run.countOf n) r.out 2 0 (.fields x) = s.emit (.released (run.countOf n) r.out 2 0 (.fields x)) := by
    simp [State.releaseOutput, himage, hhost]
  have hleaves : s.releaseI n (run.countOf n) r (s.declaredLate n r.out) = s.emit (.released (run.countOf n) r.out 2 0 (.fields x)) := by
    simp only [State.releaseI, State.awaits, State.shadowed, hdeferred, hcomplete, hvalid, hshadow, hx, latePayload, hout]
    rfl
  simp [State.releaseOne, hcls, hmoved, hleaves, hx]

end

/-- An output declared late moves to its late count (R73). -/
theorem State.releaseOne_moved {s : State} {run : Run} {n m : Nat} {r : Report} (hcls : r.cls = 1 ∨ r.cls = 2) (hlate : s.launch.late = [⟨r.out, n, m⟩])
    (hm : n < m) (hempty : s.launch.buffered = []) :
    s.releaseOne run n r = (s.modLaunch fun l => { l with buffered := [⟨m, r⟩] }, []) := by
  have hmoved : s.movedTo n r.out = some m := by simp [State.movedTo, hlate, hm]
  have htakes : s.bufferTakes r.out m = true := by simp [State.bufferTakes, hempty]
  have henters : s.enterBuffer m r = s.modLaunch fun l => { l with buffered := [⟨m, r⟩] } := by
    rw [State.enterBuffer, if_pos htakes, State.modLaunch, State.modLaunch, hempty]
    rfl
  simp [State.releaseOne, hcls, hmoved, henters]

/-! ## The turn of the beat -/

theorem State.sweepCuts_none {s : State} (h : ∀ n : Fin 24, s.streams[n].cut = none) : s.sweepCuts = s := by
  unfold State.sweepCuts
  induction idxs 24 with
  | nil => rfl
  | cons n l ih =>
    rw [List.foldl_cons, if_neg fun hcut => absurd hcut.2 (by rw [h n]; exact Bool.false_ne_true)]
    exact ih

theorem Keeps.endBeat {s u : State} (h : Keeps s u) (hcuts : ∀ n : Fin 24, u.streams[n].cut = none) (n : Nat) : Keeps s (u.endBeat n) := by
  unfold State.endBeat
  rw [State.sweepCuts_none hcuts]
  exact (((h.countChip 0 1).zeroIfDue).resetDue _).activateDue

theorem State.endBeat_mem {s : State} (hcuts : ∀ n : Fin 24, s.streams[n].cut = none) (n : Nat) : (s.endBeat n).mem = s.mem := by
  unfold State.endBeat
  rw [State.sweepCuts_none hcuts]
  simp

/-- A release count of a launch that neither ends nor pauses: once its outputs have left, the next beat begins. -/
theorem State.release_keeps {s y : State} {run : Run} {im : Image} {reports : List Report} {axes : List (Fin 16)} (hrun : s.launch.run = some run)
    (hdue : run.countOf (run.beat + 1) ≤ s.now) (hpaused : run.paused = false) (hend : run.endNext = false) (hendAt : run.endAt = none)
    (hpause : run.pauseAt = none) (hresume : run.resumeAt = none)
    (heach : (s.unbuffered (run.beat + 1)).releaseEach run (run.beat + 1) (sortReports (reports ++ s.dueOutputs (run.beat + 1) reports)) = (y, axes))
    (hyrun : y.launch.run = some run) (himage : y.launch.image = some im) (hnone : StoresNothing im) (hcuts : ∀ n : Fin 24, y.streams[n].cut = none)
    (samples : List AxisSample) :
    Keeps (y.beginBeat (run.beat + 1)) (s.release reports samples) ∧ (s.release reports samples).mem = y.mem := by
  obtain ⟨hall, hstreams, hmem⟩ := State.releaseAll_keeps heach
  have hcuts' : ∀ n : Fin 24, (s.releaseAll run (run.beat + 1) reports).streams[n].cut = none := by rw [hstreams]; exact hcuts
  set x := (((s.releaseAll run (run.beat + 1) reports).endBeat (run.beat + 1)).dropConsumed).beginBeat (run.beat + 1) with hx
  have hbeat : Keeps (y.beginBeat (run.beat + 1)) x :=
    ((hall.endBeat hcuts' _).dropConsumed).map (g := fun a => a.beginBeat (run.beat + 1)) (fun p => { p with run := p.run.map fun r => { r with beat := run.beat + 1 } })
      (fun _ => rfl) (fun _ => rfl)
  have hxrun : x.launch.run = some { run with beat := run.beat + 1 } := hbeat.run.trans (congrArg (Option.map _) hyrun)
  have hends : run.endsAt (run.beat + 1) = false := by simp [Run.endsAt, hend, hendAt]
  have hrelease : s.release reports samples = x.sampleBeat (run.beat + 1) samples := by
    have hstay : (x.pauseAtBeat run (run.beat + 1)).resumeAtBeat run (run.beat + 1) = x := by
      simp [State.pauseAtBeat, State.resumeAtBeat, hpause, hresume]
    simp [State.release, hrun, Nat.not_lt.mpr hdue, hpaused, hends, ← hx, hstay, hxrun]
  rw [hrelease]
  refine ⟨hbeat.sampleBeat _ _, ?_⟩
  rw [State.sampleBeat_mem (hbeat.image.trans himage) hnone]
  calc x.mem = ((s.releaseAll run (run.beat + 1) reports).endBeat (run.beat + 1)).mem := by simp [hx, State.beginBeat]
    _ = y.mem := by rw [State.endBeat_mem hcuts', hmem]

end Sys2Proof.Machine

namespace Sys2Proof

open Machine

/-- The dictionary server has nothing to do: no request is held, no power-state request is latched, and no commit is under way. -/
structure ServerIdle (s : State) : Prop where
  works : s.server.works = []
  latched : s.power.latched = none
  group : s.commit.group = none
  implicit : s.commit.implicit = []
  instant : s.commit.instant = []

theorem ServerIdle.serve {s : State} (h : ServerIdle s) : s.serve = s := State.serve_idle h.works h.latched h.group h.implicit h.instant

theorem ServerIdle.keeps {s u : State} (h : ServerIdle s) (hu : Keeps s u) : ServerIdle u :=
  ⟨hu.works.trans h.works, hu.latched.trans h.latched, hu.commit ▸ h.group, hu.commit ▸ h.implicit, hu.commit ▸ h.instant⟩

/-! ## Beat 0 -/

theorem startLaunch_begins {s : State} {im : Image} (hstate : s.launch.state = .confirmed) (himage : s.launch.image = some im)
    (hcount : s.launch.count ≤ s.now) (hallowed : s.launchRefused (some im) = false) (cams : List (Fin 24 × Discovery)) :
    s.startLaunch cams = s.beginLaunch im s.launch.count cams := by
  simp only [State.startLaunch, hstate, himage, hallowed, if_neg (Nat.not_lt.mpr hcount), Bool.false_eq_true, if_false]

section
variable {s : State} (h : ServerIdle s) (t : Nat)
include h

theorem ServerIdle.advance : ServerIdle (s.advance t) := ⟨h.works, h.latched, h.group, h.implicit, h.instant⟩

theorem ServerIdle.dropLaunch : ServerIdle s.dropLaunch := ⟨h.works, h.latched, h.group, h.implicit, h.instant⟩

theorem launchStart_waits (cams : List (Fin 24 × Discovery)) (hnot : s.launch.state ≠ .confirmed ∨ s.launch.image = none ∨ (s.advance t).now < s.launch.count) :
    exec (.launchStart t cams) s = .next (s.advance t) := by
  have hstart : (s.advance t).startLaunch cams = s.advance t := by
    unfold State.startLaunch
    split
    case h_1 im hstate himage =>
      have hbefore : (s.advance t).now < (s.advance t).launch.count := by
        rcases hnot with hnot | hnot | hnot
        · exact absurd hstate hnot
        · exact absurd (hnot.symm.trans himage) nofun
        · exact hnot
      exact if_pos hbefore
    case h_2 => rfl
  show Host.Outcome.next ((s.advance t).startLaunch cams).serve = _
  rw [hstart, (h.advance t).serve]

section
variable (cams : List (Fin 24 × Discovery)) {im : Image} (hstate : s.launch.state = .confirmed) (himage : s.launch.image = some im)
  (hcount : s.launch.count ≤ (s.advance t).now)
include hstate himage hcount

theorem launchStart_refused (hrefused : (s.advance t).launchRefused (some im) = true) :
    exec (.launchStart t cams) s = .next (s.advance t).dropLaunch := by
  have hstart : (s.advance t).startLaunch cams = (s.advance t).dropLaunch := by
    have hstate' : (s.advance t).launch.state = .confirmed := hstate
    have himage' : (s.advance t).launch.image = some im := himage
    simp only [State.startLaunch, hstate', himage', hrefused, if_true]
    exact if_neg (Nat.not_lt.mpr hcount)
  show Host.Outcome.next ((s.advance t).startLaunch cams).serve = _
  rw [hstart, (h.advance t).dropLaunch.serve]

end

end

/-- The launch of an image has begun at a count, at a server that has nothing to do. -/
structure Begun (s : State) (im : Image) (count : Nat) (u : State) : Prop where
  idle : ServerIdle u
  run : ∃ run, u.launch.run = some run ∧ run.start = count ∧ run.beat = 0 ∧ run.paused = false
  count : u.launch.count = count
  image : u.launch.image = some im
  state : u.launch.state = .running ∨ u.launch.state = .holdover
  pending : u.commit.pending = []
  owner : u.commit.owner = none
  acc : ∀ (r : Fin 10) (b : Fin 18), (u.block r b).acc = []
  imgState : u.service.imgState = s.service.imgState
  imgStaged : u.service.imgStaged = s.service.imgStaged
  imgSlot : u.service.imgSlot = s.service.imgSlot
  mem : StoresNothing im → (s.power.interleave = [0, 1, 2, 3].filter fun k => !s.power.stacksOut.contains k) → u.mem = s.mem

theorem CommitCtl_closed_eq (c : CommitCtl) : c.closed.owner = none ∧ c.closed.implicit = c.implicit ∧ c.closed.instant = c.instant
    ∧ (c.group = none → c.closed.group = none) := by
  unfold CommitCtl.closed
  split
  · exact ⟨Option.isNone_iff_eq_none.mp ‹_›, rfl, rfl, id⟩
  · exact ⟨rfl, rfl, rfl, fun _ => rfl⟩

theorem ServerIdle.beginLaunch {s : State} (h : ServerIdle s) (im : Image) (count : Nat) (cams : List (Fin 24 × Discovery)) :
    Begun s im count (s.beginLaunch im count cams) := by
  obtain ⟨⟨run, st, hstart, hzero, hunpaused, hst, hfooting⟩, hmem⟩ := State.beginLaunch_begun h.group im count cams
  obtain ⟨howner, himplicit, hinstant, hgroup⟩ := CommitCtl_closed_eq s.commit
  generalize s.beginLaunch im count cams = u at hfooting hmem ⊢
  have hcommit : u.commit = { s.commit.closed with pending := [] } := congrArg Footing.commit hfooting
  exact {
    idle := {
      works := (congrArg Footing.works hfooting).trans h.works
      latched := (congrArg Footing.latched hfooting).trans h.latched
      group := by rw [hcommit]; exact hgroup h.group
      implicit := by rw [hcommit]; exact himplicit.trans h.implicit
      instant := by rw [hcommit]; exact hinstant.trans h.instant }
    run := ⟨run, congrArg Footing.run hfooting, hstart, hzero, hunpaused⟩
    count := (congrArg Footing.count hfooting).trans hstart
    image := congrArg Footing.image hfooting
    state := by
      rw [show u.launch.state = st from congrArg Footing.state hfooting]
      exact hst
    pending := by rw [hcommit]
    owner := by rw [hcommit]; exact howner
    acc := fun r b => congrFun (congrFun (congrArg Footing.acc hfooting) r) b
    imgState := congrArg Footing.imgState hfooting
    imgStaged := congrArg Footing.imgStaged hfooting
    imgSlot := congrArg Footing.imgSlot hfooting
    mem := hmem }

/-! ## Relaunch (R480) -/

/-- The state in which the new launch begins: the image slots have swapped, and attention state that does not fit the new image is gone (R480). -/
def Machine.State.swapped (s : State) (im : Image) : State :=
  let s1 := s.endLaunch.modService fun v => { v with imgState := 0, imgStaged := none, imgSlot := 1 - v.imgSlot }
  if im.flags.getLsbD 2 then s1 else s1.modKv fun _ => Kv.reset

theorem swapped_footing (s : State) (im : Image) :
    (s.swapped im).footing = { (s.modLaunch Launch.ended).footing with imgState := 0, imgStaged := none, imgSlot := 1 - s.service.imgSlot } := by
  have hended := s.endLaunch_keeps.footing
  have hslot : s.endLaunch.service.imgSlot = s.service.imgSlot := s.endLaunch_keeps.imgSlot
  have hservice : (s.endLaunch.modService fun v => { v with imgState := 0, imgStaged := none, imgSlot := 1 - v.imgSlot }).footing
      = { s.endLaunch.footing with imgState := 0, imgStaged := none, imgSlot := 1 - s.endLaunch.service.imgSlot } := rfl
  rw [hended, hslot] at hservice
  rw [← hservice]
  unfold State.swapped
  extract_lets s1
  split <;> rfl

theorem swapped_mem (s : State) (im : Image) : (s.swapped im).mem = s.mem := by
  unfold State.swapped
  extract_lets s1
  split <;> simp [s1]

section
variable {s : State} (h : ServerIdle s) (t : Nat)
include h

theorem relaunch_waits (hnot : s.service.imgStaged = none ∨ s.service.imgState ≠ 3 ∨ (s.advance t).now < s.nat (ob 0x5830 3)) :
    exec (.relaunch t) s = .next (s.advance t) := by
  have hrelaunch : (s.advance t).relaunch = s.advance t := by
    unfold State.relaunch
    extract_lets count
    split
    case h_1 => rfl
    case h_2 im hstaged =>
      refine if_pos ?_
      rcases hnot with hnot | hnot | hnot
      · exact absurd (hnot.symm.trans hstaged) nofun
      · exact .inl hnot
      · exact .inr hnot
  show Host.Outcome.next (s.advance t).relaunch.serve = _
  rw [hrelaunch, (h.advance t).serve]

end

section
variable {s : State} {im : Image} (hstaged : s.service.imgStaged = some im) (hstate : s.service.imgState = 3) (hcount : s.nat (ob 0x5830 3) ≤ s.now)
include hstaged hstate hcount

theorem relaunch_begins (hallowed : s.launchRefused (some im) = false) : s.relaunch = (s.swapped im).beginLaunch im (s.nat (ob 0x5830 3)) [] := by
  have hnow : ¬ (s.service.imgState ≠ 3 ∨ s.now < s.nat (ob 0x5830 3)) := not_or.mpr ⟨not_not.mpr hstate, Nat.not_lt.mpr hcount⟩
  simp only [State.relaunch, hstaged, if_neg hnow, hallowed, Bool.false_eq_true, if_false, State.swapped]

theorem relaunch_refused (hrefused : s.launchRefused (some im) = true) : s.relaunch = (s.endLaunch.refuseImage 6).dropLaunch := by
  have hnow : ¬ (s.service.imgState ≠ 3 ∨ s.now < s.nat (ob 0x5830 3)) := not_or.mpr ⟨not_not.mpr hstate, Nat.not_lt.mpr hcount⟩
  simp only [State.relaunch, hstaged, if_neg hnow, hrefused, if_true]

end

/-! ## The clauses of O44 -/

section
variable {s : State} (h : ServerIdle s) (t : Nat)
include h

theorem ServerIdle.swapped (im : Image) : ServerIdle (s.swapped im) := by
  have hfooting := swapped_footing s im
  generalize s.swapped im = u at hfooting ⊢
  have hcommit : u.commit = s.commit := congrArg Footing.commit hfooting
  exact {
    works := (congrArg Footing.works hfooting).trans h.works
    latched := (congrArg Footing.latched hfooting).trans h.latched
    group := hcommit ▸ h.group
    implicit := hcommit ▸ h.implicit
    instant := hcommit ▸ h.instant }

/-- A confirmed launch begins at its count. -/
theorem launchStart_begins (cams : List (Fin 24 × Discovery)) {im : Image} (hstate : s.launch.state = .confirmed) (himage : s.launch.image = some im)
    (hcount : s.launch.count ≤ (s.advance t).now) (hallowed : (s.advance t).launchRefused (some im) = false) :
    Ends (.launchStart t cams) s (Begun (s.advance t) im s.launch.count) := by
  have hbegun := (h.advance t).beginLaunch im s.launch.count cams
  refine ⟨_, ?_, hbegun⟩
  show Host.Outcome.next ((s.advance t).startLaunch cams).serve = _
  rw [startLaunch_begins (s := s.advance t) hstate himage hcount hallowed]
  exact congrArg Host.Outcome.next hbegun.idle.serve

section
variable {im : Image} (hstaged : s.service.imgStaged = some im) (hstate : s.service.imgState = 3) (hcount : s.nat (ob 0x5830 3) ≤ (s.advance t).now)
include hstaged hstate hcount

theorem relaunch_ends (hallowed : (s.advance t).launchRefused (some im) = false) :
    Ends (.relaunch t) s (Begun ((s.advance t).swapped im) im (s.nat (ob 0x5830 3))) := by
  have hbegun := ((h.advance t).swapped im).beginLaunch im (s.nat (ob 0x5830 3)) []
  refine ⟨_, ?_, hbegun⟩
  show Host.Outcome.next (s.advance t).relaunch.serve = _
  rw [relaunch_begins (s := s.advance t) hstaged hstate hcount hallowed]
  exact congrArg Host.Outcome.next hbegun.idle.serve

theorem relaunch_drops (hrefused : (s.advance t).launchRefused (some im) = true) : Ends (.relaunch t) s fun u =>
    u.launch.run = none ∧ u.launch.state = .aborted ∧ u.service.imgState = 4 ∧ u.mem = s.mem := by
  have hended := (s.advance t).endLaunch_keeps
  have hfault : Keeps ((s.advance t).endLaunch.modService fun v => { v with imgState := 4, imgReason := 6, imgStaged := none }) ((s.advance t).endLaunch.refuseImage 6) :=
    (Keeps.refl _).fault _ _ _ _
  have hidle : ServerIdle ((s.advance t).endLaunch.modService fun v => { v with imgState := 4, imgReason := 6, imgStaged := none }) :=
    ⟨hended.works.trans h.works, hended.latched.trans h.latched, hended.commit ▸ h.group, hended.commit ▸ h.implicit, hended.commit ▸ h.instant⟩
  refine ⟨((s.advance t).endLaunch.refuseImage 6).dropLaunch, ?_, ?_, rfl, hfault.imgState, ?_⟩
  · show Host.Outcome.next (s.advance t).relaunch.serve = _
    rw [relaunch_refused (s := s.advance t) hstaged hstate hcount hrefused, (hidle.keeps hfault).dropLaunch.serve]
  · exact hfault.run.trans (hended.run.trans (Launch.ended_run _))
  · simp

end

end

end Sys2Proof

namespace Sys2Proof

open Machine

/-! ## Autolaunch (R474) -/

theorem messageTooLong_congr {f g : Key → Nat} (hfg : ∀ i j, 0x2400 ≤ i → f (ob i j) = g (ob i j)) (im : Image) : messageTooLong f im = messageTooLong g im := by
  have hring : ∀ e j, f (ob (0x2470 + e) j) = g (ob (0x2470 + e) j) := fun e j => hfg _ _ (by omega)
  simp only [messageTooLong, hfg 0x2400 _ (by decide), hring]

/-- The objects that recording a fault counts in. -/
theorem countKeys_lt : ∀ key ∈ [ob 0x2020 9, ob 0x2300 3, ob 0x2380 4, ob 0x2381 4, ob 0x2382 4, ob 0x2383 4], key < ob 0x2384 0 := by decide

namespace Announces

section
variable {s u : State} (h : Announces s u)
include h

theorem service : u.service = s.service := by rw [h.1]

theorem commit : u.commit = s.commit := by rw [h.1]

theorem nat {key : Key} (hkey : key ∉ [ob 0x2020 9, ob 0x2300 3, ob 0x2380 4, ob 0x2381 4, ob 0x2382 4, ob 0x2383 4]) : u.nat key = s.nat key := by
  simp only [State.nat, State.int, h.2 key hkey]

theorem comingNat {key : Key} (hkey : key ∉ [ob 0x2020 9, ob 0x2300 3, ob 0x2380 4, ob 0x2381 4, ob 0x2382 4, ob 0x2383 4]) :
    u.comingNat key = s.comingNat key := by
  simp only [State.comingNat, h.commit, h.nat hkey]

/-- Whether a launch may be does not depend on what recording a fault touches. -/
theorem launchRefused (image : Option Image) : u.launchRefused image = s.launchRefused image := by
  cases image with
  | none => rfl
  | some im =>
    have hheader : u.headerMismatch im = s.headerMismatch im := by
      simp only [State.headerMismatch, h.service, h.nat (key := ob 0x3010 1) (by decide), h.comingNat (key := ob 0x3C00 1) (by decide),
        h.comingNat (key := ob 0x3C00 3) (by decide), h.comingNat (key := ob 0x3C00 0x0C) (by decide)]
    have hvariant : u.variantFor im = s.variantFor im := by
      simp only [State.variantFor, h.power, h.comingNat (key := ob 0x2100 0x0A) (by decide)]
    have hmessage : messageTooLong u.comingNat im = messageTooLong s.comingNat im := by
      refine messageTooLong_congr (fun i j hi => h.comingNat fun hmem => ?_) im
      have hbelow : i * 256 + j < 0x2384 * 256 := countKeys_lt _ hmem
      omega
    simp only [State.launchRefused, hheader, hvariant, hmessage, h.service, h.power, h.comingNat (key := ob 0x3600 3) (by decide),
      h.comingNat (key := ob 0x3C00 1) (by decide), h.comingNat (key := ob 0x2110 64) (by decide)]

end

end Announces

theorem fault_announces (s : State) (code : Nat) (loc : Loc) (detail part : Nat) : Announces s (s.fault code loc detail part) :=
  (State.record_announces s _).trans (State.tellDisplaced_announces _ _)

theorem autolaunch_waits {s : State} (h : s.nat (ob 0x5800 5) = 0 ∨ s.launch.run.isSome = true ∨ s.service.bootState ≠ 1 ∨ s.service.beat0Due = false) :
    s.autolaunch = s := by
  unfold State.autolaunch
  extract_lets wait bound ready ms s1
  refine if_pos ?_
  rcases h with h | h | h | h <;> simp [State.flag, State.running, h]

/-- Alone, the device proposes a launch to itself and confirms it at once (R474). -/
theorem proposeAt_alone {s : State} (hgroup : s.group = []) (count : Nat) (auto : Bool) :
    (s.proposeAt count auto).launch.state = .confirmed ∧ (s.proposeAt count auto).launch.leader = true ∧ (s.proposeAt count auto).launch.count = count
      ∧ (s.proposeAt count auto).service.auto = auto ∧ (s.proposeAt count auto).mem = s.mem := by
  simp only [State.proposeAt, hgroup, List.isEmpty_nil, if_true]
  exact ⟨rfl, rfl, rfl, rfl, rfl⟩

theorem divUp_mul_bounds (a b : Nat) (hb : 0 < b) : a ≤ divUp a b * b ∧ divUp a b * b < a + b := by
  have hdiv := Nat.div_add_mod' (a + b - 1) b
  have hmod := Nat.mod_lt (a + b - 1) hb
  unfold divUp
  omega

theorem autolaunch_proposes {s : State} (hon : s.nat (ob 0x5800 5) = 1) (hgroup : s.group = []) (hrun : s.launch.run = none) (hlaunching : s.launching = false)
    (hdue : s.service.beat0Due = true) (hboot : s.service.bootState = 1) (hready : s.service.readyAt + s.nat (ob 0x5800 6) * 1000000 ≤ s.now)
    (hallowed : s.launchRefused s.launch.image = false) :
    s.autolaunch.launch.state = .confirmed ∧ s.autolaunch.launch.leader = true ∧ s.autolaunch.service.auto = true
      ∧ s.autolaunch.launch.count % 1000000 = 0 ∧ s.now + 1000000 * s.nat (ob 0x3C00 7) ≤ s.autolaunch.launch.count
      ∧ s.autolaunch.launch.count < s.now + 1000000 * s.nat (ob 0x3C00 7) + 1000000 ∧ s.autolaunch.mem = s.mem := by
  have hgo : (!s.flag (ob 0x5800 5) || !s.group.isEmpty || s.running || s.launching || !s.service.beat0Due || s.service.bootState != 1
      || !(s.synchronisedIn s.ownDomain (2 ^ 63) || decide (s.service.readyAt + s.nat (ob 0x5800 6) * 1000000 ≤ s.now))) = false := by
    simp [State.flag, State.running, hon, hgroup, hrun, hlaunching, hdue, hboot, hready]
  unfold State.autolaunch
  extract_lets wait bound ready ms s1
  have hannounce : Announces s s1 := by
    show Announces s (if bound < ms then _ else s)
    split
    · exact fault_announces s _ _ _ _
    · exact .refl s
  have hstill : s1.launchRefused s1.launch.image = false := by rw [hannounce.launchRefused, hannounce.launch, hallowed]
  have halone : s1.group = [] := by rw [State.group, hannounce.launch]; exact hgroup
  rw [if_neg (by rw [hgo]; exact Bool.false_ne_true), if_neg (by rw [hstill]; exact Bool.false_ne_true)]
  obtain ⟨hlow, hhigh⟩ := divUp_mul_bounds (s.now + 1000000 * s.nat (ob 0x3C00 7)) 1000000 (by decide)
  have hmultiple := Nat.mul_mod_left (divUp (s.now + 1000000 * s.nat (ob 0x3C00 7)) 1000000) 1000000
  generalize divUp (s.now + 1000000 * s.nat (ob 0x3C00 7)) 1000000 * 1000000 = count at hlow hhigh hmultiple ⊢
  obtain ⟨hstate, hleader, hcount, hself, hmem⟩ := proposeAt_alone halone count true
  rw [hcount]
  exact ⟨hstate, hleader, hself, hmultiple, hlow, hhigh, hmem.trans hannounce.mem⟩

/-! ## Release counts (R78 to R82) -/

section
variable {s : State} (h : ServerIdle s) (t : Nat)
include h

theorem releaseCount_none (hrun : s.launch.run = none) (reports : List Report) (samples : List AxisSample) :
    exec (.releaseCount t reports samples) s = .next (s.advance t) := by
  have hrelease : (s.advance t).release reports samples = s.advance t := by
    have hrun' : (s.advance t).launch.run = none := hrun
    simp only [State.release, hrun']
  show Host.Outcome.next ((s.advance t).release reports samples).serve = _
  rw [hrelease, (h.advance t).serve]

theorem releaseCount_early {run : Run} (hrun : s.launch.run = some run) (hearly : (s.advance t).now < run.countOf (run.beat + 1)) (reports : List Report)
    (samples : List AxisSample) : exec (.releaseCount t reports samples) s = .next (s.advance t) := by
  have hrelease : (s.advance t).release reports samples = s.advance t := by
    have hrun' : (s.advance t).launch.run = some run := hrun
    simp only [State.release, hrun', if_pos hearly]
  show Host.Outcome.next ((s.advance t).release reports samples).serve = _
  rw [hrelease, (h.advance t).serve]

end

/-- A launch whose next beat is due and whose image has no outputs to hosts and no places in memory; nothing of the beat that ends is outstanding. -/
structure BeatDue (s : State) (run : Run) (im : Image) : Prop where
  idle : ServerIdle s
  runs : s.launch.run = some run
  due : run.countOf (run.beat + 1) ≤ s.now
  paused : run.paused = false
  endNext : run.endNext = false
  endAt : run.endAt = none
  pauseAt : run.pauseAt = none
  resumeAt : run.resumeAt = none
  image : s.launch.image = some im
  hosts : im.hostOutputs = []
  stores : StoresNothing im
  cuts : ∀ n : Fin 24, s.streams[n].cut = none
  deferred : s.launch.deferred = []

/-- What a release count leaves once the outputs of its beat have left a state `y`. -/
structure Turned (y : State) (run : Run) (u : State) : Prop where
  run : u.launch.run = some { run with beat := run.beat + 1 }
  state : u.launch.state = y.launch.state
  buffered : u.launch.buffered = y.launch.buffered
  outbox : ∃ more, u.outbox = y.outbox ++ more ∧ ∀ o ∈ more, isRelease o = false
  mem : u.mem = y.mem

/-- The outputs of a release count touch the release buffers and the outbox. -/
structure Releases (s y : State) (run : Run) (reports : List Report) : Prop where
  each : ∃ axes, (s.unbuffered (run.beat + 1)).releaseEach run (run.beat + 1) (sortReports (reports ++ s.dueOutputs (run.beat + 1) reports)) = (y, axes)
  frame : y = { s with launch := { s.launch with buffered := y.launch.buffered }, outbox := y.outbox }

theorem BeatDue.turned {s y : State} {run : Run} {im : Image} (h : BeatDue s run im) {reports : List Report} (hy : Releases s y run reports)
    (samples : List AxisSample) : ServerIdle (s.release reports samples) ∧ Turned y run (s.release reports samples) := by
  obtain ⟨axes, heach⟩ := hy.each
  have hrun : y.launch.run = some run := by rw [hy.frame]; exact h.runs
  have himage : y.launch.image = some im := by rw [hy.frame]; exact h.image
  have hcuts : ∀ n : Fin 24, y.streams[n].cut = none := by rw [hy.frame]; exact h.cuts
  have hidle : ServerIdle (y.beginBeat (run.beat + 1)) := by
    rw [hy.frame]
    exact ⟨h.idle.works, h.idle.latched, h.idle.group, h.idle.implicit, h.idle.instant⟩
  obtain ⟨hkeeps, hmem⟩ := State.release_keeps h.runs h.due h.paused h.endNext h.endAt h.pauseAt h.resumeAt heach hrun himage h.stores hcuts samples
  exact ⟨hidle.keeps hkeeps, hkeeps.run.trans (congrArg (Option.map _) hrun), hkeeps.state, hkeeps.buffered, hkeeps.outbox, hmem⟩

section
variable {s : State} {run : Run} {im : Image} (h : BeatDue s run im)
include h

theorem BeatDue.releases_none (hbuffered : s.launch.buffered = []) : Releases s (s.unbuffered (run.beat + 1)) run [] := by
  have hall : s.dueOutputs (run.beat + 1) [] = [] := by simp [State.dueOutputs, hbuffered, h.deferred]
  exact ⟨⟨[], by rw [hall]; rfl⟩, rfl⟩

/-- Two complete outputs leave in the order of their index, whatever the order of their reports (R79). -/
theorem BeatDue.releases_two {a b : Report} (ha : a.cls = 2) (hb : b.cls = 2) (hlt : a.out < b.out) (hbuffered : s.launch.buffered = []) (hlate : s.launch.late = [])
    (hca : a.primary.complete = true) (hcb : b.primary.complete = true) (hva : a.primary.invalid = false) (hvb : b.primary.invalid = false)
    (hsa : a.shadow = none) (hsb : b.shadow = none) (hfa : ∃ x, a.primary.payload = .fields x) (hfb : ∃ x, b.primary.payload = .fields x) :
    Releases s (((s.unbuffered (run.beat + 1)).emit (.released (run.countOf (run.beat + 1)) a.out 2 0 a.primary.payload)).emit
      (.released (run.countOf (run.beat + 1)) b.out 2 0 b.primary.payload)) run [b, a] := by
  have hall : sortReports ([b, a] ++ s.dueOutputs (run.beat + 1) [b, a]) = [a, b] := by
    simp [State.dueOutputs, hbuffered, h.deferred, sortReports, insertReport, hlt]
  refine ⟨⟨[], ?_⟩, rfl⟩
  rw [hall]
  unfold State.releaseEach
  rw [List.foldl_cons, List.foldl_cons, List.foldl_nil]
  rw [State.releaseOne_complete (s := s.unbuffered (run.beat + 1)) h.image h.hosts h.deferred hlate ha hca hva hsa hfa,
    State.releaseOne_complete (s := (s.unbuffered (run.beat + 1)).emit _) h.image h.hosts h.deferred hlate hb hcb hvb hsb hfb]
  rfl

/-- An output that the release buffers hold for the count leaves at it (R78). -/
theorem BeatDue.releases_buffered {a : Report} (ha : a.cls = 2) (hbuffered : s.launch.buffered = [⟨run.beat + 1, a⟩]) (hlate : s.launch.late = [])
    (hcomplete : a.primary.complete = true) (hvalid : a.primary.invalid = false) (hshadow : a.shadow = none) (hfields : ∃ x, a.primary.payload = .fields x) :
    Releases s ((s.unbuffered (run.beat + 1)).emit (.released (run.countOf (run.beat + 1)) a.out 2 0 a.primary.payload)) run [] := by
  have hall : sortReports ([] ++ s.dueOutputs (run.beat + 1) []) = [a] := by
    simp [State.dueOutputs, hbuffered, h.deferred, sortReports, insertReport]
  refine ⟨⟨[], ?_⟩, rfl⟩
  rw [hall]
  unfold State.releaseEach
  rw [List.foldl_cons, List.foldl_nil,
    State.releaseOne_complete (s := s.unbuffered (run.beat + 1)) h.image h.hosts h.deferred hlate ha hcomplete hvalid hshadow hfields]
  rfl

/-- An output declared late goes into its buffer again, for its late count (R73). -/
theorem BeatDue.releases_moved {a : Report} {m : Nat} (ha : a.cls = 1 ∨ a.cls = 2) (hm : run.beat + 1 < m) (hbuffered : s.launch.buffered = [])
    (hlate : s.launch.late = [⟨a.out, run.beat + 1, m⟩]) :
    Releases s ((s.unbuffered (run.beat + 1)).modLaunch fun l => { l with buffered := [⟨m, a⟩] }) run [a] := by
  have hall : sortReports ([a] ++ s.dueOutputs (run.beat + 1) [a]) = [a] := by
    simp [State.dueOutputs, hbuffered, h.deferred, sortReports, insertReport]
  have hempty : (s.unbuffered (run.beat + 1)).launch.buffered = [] := by simp [State.unbuffered, hbuffered]
  refine ⟨⟨[], ?_⟩, rfl⟩
  rw [hall]
  unfold State.releaseEach
  rw [List.foldl_cons, List.foldl_nil, State.releaseOne_moved (s := s.unbuffered (run.beat + 1)) ha hlate hm hempty]
  rfl

end

/-- A release count at which the next beat is due. -/
theorem releaseCount_turns {s y : State} {t : Nat} {run : Run} {im : Image} (h : BeatDue (s.advance t) run im) {reports : List Report}
    (hy : Releases (s.advance t) y run reports) (samples : List AxisSample) : Ends (.releaseCount t reports samples) s (Turned y run) := by
  obtain ⟨hidle, hturned⟩ := h.turned hy samples
  exact ⟨_, congrArg Host.Outcome.next hidle.serve, hturned⟩

/-- The clauses of O44 about a release count at which the next beat is due. -/
theorem releaseCount_clauses {s : State} {t : Nat} {run : Run} {im : Image} (h : BeatDue (s.advance t) run im) :
    (s.launch.buffered = [] → ∀ samples, Ends (.releaseCount t [] samples) s fun u =>
        u.launch.run = some { run with beat := run.beat + 1 } ∧ u.launch.state = s.launch.state ∧ u.mem = s.mem)
    ∧ (∀ (a b : Report) (samples : List AxisSample), a.cls = 2 → b.cls = 2 → a.out < b.out → s.launch.buffered = [] → s.launch.late = [] →
        a.primary.complete = true → b.primary.complete = true → a.primary.invalid = false → b.primary.invalid = false → a.shadow = none → b.shadow = none →
        (∃ x, a.primary.payload = .fields x) → (∃ x, b.primary.payload = .fields x) →
        Ends (.releaseCount t [b, a] samples) s fun u => (∃ rest, u.outbox = s.outbox ++ .released (run.countOf (run.beat + 1)) a.out 2 0 a.primary.payload
            :: .released (run.countOf (run.beat + 1)) b.out 2 0 b.primary.payload :: rest)
          ∧ u.launch.run = some { run with beat := run.beat + 1 } ∧ u.mem = s.mem)
    ∧ (∀ (a : Report) (samples : List AxisSample), a.cls = 2 → a.primary.complete = true → a.primary.invalid = false → a.shadow = none →
        (∃ x, a.primary.payload = .fields x) → s.launch.late = [] → s.launch.buffered = [⟨run.beat + 1, a⟩] → Ends (.releaseCount t [] samples) s fun u =>
          (∃ rest, u.outbox = s.outbox ++ .released (run.countOf (run.beat + 1)) a.out 2 0 a.primary.payload :: rest)
          ∧ u.launch.buffered = [] ∧ u.launch.run = some { run with beat := run.beat + 1 } ∧ u.mem = s.mem)
    ∧ (∀ (a : Report) (samples : List AxisSample) (m : Nat), a.cls = 1 ∨ a.cls = 2 → run.beat + 1 < m → s.launch.late = [⟨a.out, run.beat + 1, m⟩] →
        s.launch.buffered = [] → Ends (.releaseCount t [a] samples) s fun u => u.launch.buffered = [⟨m, a⟩]
          ∧ (∀ count cls source p, Output.released count a.out cls source p ∈ u.outbox → Output.released count a.out cls source p ∈ s.outbox)
          ∧ u.launch.run = some { run with beat := run.beat + 1 } ∧ u.mem = s.mem) := by
  refine ⟨fun hbuffered samples => ?_, fun a b samples ha hb hlt hbuffered hlate hca hcb hva hvb hsa hsb hfa hfb => ?_,
    fun a samples ha hcomplete hvalid hshadow hfields hlate hbuffered => ?_, fun a samples m ha hm hlate hbuffered => ?_⟩
  · exact (releaseCount_turns h (h.releases_none hbuffered) samples).imp fun u hu => ⟨hu.1, hu.2.run, hu.2.state, hu.2.mem⟩
  · obtain ⟨u, hexec, hu⟩ := releaseCount_turns h (h.releases_two ha hb hlt hbuffered hlate hca hcb hva hvb hsa hsb hfa hfb) samples
    obtain ⟨more, hmore, -⟩ := hu.outbox
    exact ⟨u, hexec, ⟨more, hmore.trans (by simp [State.emit, State.unbuffered])⟩, hu.run, hu.mem⟩
  · obtain ⟨u, hexec, hu⟩ := releaseCount_turns h (h.releases_buffered ha hbuffered hlate hcomplete hvalid hshadow hfields) samples
    obtain ⟨more, hmore, -⟩ := hu.outbox
    exact ⟨u, hexec, ⟨more, hmore.trans (by simp [State.emit, State.unbuffered])⟩, hu.buffered.trans (by simp [State.emit, State.unbuffered, hbuffered]), hu.run, hu.mem⟩
  · obtain ⟨u, hexec, hu⟩ := releaseCount_turns h (h.releases_moved ha hm hbuffered hlate) samples
    obtain ⟨more, hmore, hnone⟩ := hu.outbox
    refine ⟨u, hexec, hu.buffered, fun count cls source p hp => ?_, hu.run, hu.mem⟩
    rw [hmore] at hp
    exact (List.mem_append.mp hp).elim id fun hnew => absurd (hnone _ hnew) (by simp [isRelease])

/-- Settles O44: recording a fault, moving axes and the like keep what a launch rests on (`Keeps`), so the start of a launch (`Begun`) and the turn of a beat (`Turned`) come down to the few steps that change it. -/
theorem launchesStartAndBeatsPass : Obligations.LaunchesStartAndBeatsPass := by
  intro s t hworks hlatched hgroup himplicit hinstant
  have h : ServerIdle s := ⟨hworks, hlatched, hgroup, himplicit, hinstant⟩
  refine ⟨fun cams => launchStart_waits h t cams, fun cams im => launchStart_refused h t cams, fun cams im hstate himage hcount hallowed => ?_,
    fun hrun => releaseCount_none h t hrun, fun run hrun => ⟨fun reports samples hearly => releaseCount_early h t hrun hearly reports samples, ?_⟩,
    relaunch_waits h t, fun im hstaged hstate hcount => ⟨fun hallowed => ?_, relaunch_drops h t hstaged hstate hcount⟩, fun hnot => ?_, ?_⟩
  · refine (launchStart_begins h t cams hstate himage hcount hallowed).imp fun u hu => ⟨hu.1, ?_⟩
    have hbegun := hu.2
    exact ⟨hbegun.run, hbegun.count, hbegun.image, hbegun.state, hbegun.pending, hbegun.owner, hbegun.acc, hbegun.mem⟩
  · intro im hdue hpaused hendNext hendAt hpauseAt hresumeAt himage hhosts hstores hcuts hdeferred
    exact releaseCount_clauses ⟨h.advance t, hrun, hdue, hpaused, hendNext, hendAt, hpauseAt, hresumeAt, himage, hhosts, hstores, hcuts, hdeferred⟩
  · refine (relaunch_ends h t hstaged hstate hcount hallowed).imp fun u hu => ⟨hu.1, ?_⟩
    obtain ⟨run, hrun, hstart, hzero, -⟩ := hu.2.run
    have hfooting := swapped_footing (s.advance t) im
    have hstacks : ((s.advance t).swapped im).power.stacksOut = s.power.stacksOut := congrArg Footing.stacksOut hfooting
    have hinterleave : ((s.advance t).swapped im).power.interleave = s.power.interleave := congrArg Footing.interleave hfooting
    refine ⟨hu.2.image, ⟨run, hrun, hstart, hzero⟩, hu.2.imgState.trans (congrArg Footing.imgState hfooting), hu.2.imgStaged.trans (congrArg Footing.imgStaged hfooting),
      hu.2.imgSlot.trans (congrArg Footing.imgSlot hfooting), fun hnone hleft => ?_⟩
    exact (hu.2.mem hnone (by rw [hstacks, hinterleave]; exact hleft)).trans (swapped_mem _ _)
  · exact congrArg Host.Outcome.next (autolaunch_waits (s := s.advance t) hnot)
  · intro hon hgroup hrun hlaunching hdue hboot hready hallowed
    exact ⟨_, rfl, autolaunch_proposes (s := s.advance t) hon hgroup hrun hlaunching hdue hboot hready hallowed⟩

end Sys2Proof

/-!
The family of spec/02_weave_handshake_timing.md: weave faults and their repairs (O49).
-/

namespace Sys2Proof.Machine

/-! ## The request of a row's map-out (R157) -/

/-- The object of the request (R157). -/
theorem rowOf_mapOutRequest : rowOf (ob 0x3200 5) = some ⟨0x3200, 0x3200, 0x05, 0x05, .u 32, .wo, .int 0, .any, .instant⟩ := by decide +kernel

/-- A number that names no row: its region is 15 (R169). -/
def strayRow : Val := .int 0xFFFFFFFF

/-- The state after the reset, with an active set of the Crust that also holds the object of the request. The validation of R380 takes only objects of the Crust into a set (`entryValue`), but `WritesAct` and `ChecksPass` do not ask what the active set holds. -/
def rowFixed : State := State.reset.modCrust fun c => { c with active := some { consumerSet with values := [(ob 0x3200 5, strayRow)] } }

/-- Whatever row is written, the check of the range reads the set's number (R20). -/
theorem rowFixed_outOfRange : (rowFixed.withWrite .pcie (ob 0x3200 5) (.int 0)).rangeOk (ob 0x3200 5) = false := by decide +kernel

/-- Row 0 of bank 0 of block 0.0 is a row, and no spare row of its bank is taken. -/
theorem rowFixed_roomForRow : locValid 0 = true ∧ rowFixed.rowMapped 0 = false ∧ (rowFixed.freeRow 0).isSome = true := by decide +kernel

end Sys2Proof.Machine

namespace Sys2Proof

open Machine

theorem rowFixed_writesAct : WritesAct rowFixed .pcie :=
  { works := rfl, latched := rfl, group := rfl, implicit := rfl, instant := rfl, owed := rfl, owner := rfl, run := rfl }

theorem rowFixed_checksPass : ChecksPass rowFixed 0 (ob 0x3200 5) (.int 0) := by
  unfold ChecksPass
  decide +kernel

theorem rowFixed_refuses : RefusedWith (.mapOutRequest 0 .pcie 0) rowFixed .pcie 0x06090030 (Books (rowFixed.advance 0)) := by
  refine refusedWith_of_serveWrite (g := {}) rfl (rowFixed_writesAct.toServerFree.advance 0) ?_ (Books.refl _) rfl
  rw [rowFixed_writesAct.touchGroup 0]
  exact State.serveWrite_outOfRange {} rowOf_mapOutRequest (.inr rfl) (w := 32) rfl rfl (by decide) rfl (by decide) (by decide) rowFixed_outOfRange

/-- Refutes O49 at its last clause, on requests for a row: the check of the range reads an object's value from the Crust's active set first, so where that set holds the object of the request, with a number that names no row, a valid request for a free row is refused with 0x0609_0030 and not queued. -/
theorem not_weaveFaultsAndRepairs : ¬ Obligations.WeaveFaultsAndRepairs := by
  intro h
  obtain ⟨-, -, -, -, -, -, hrequest⟩ := h rowFixed 0
  obtain ⟨hvalid, hmapped, hfree⟩ := rowFixed_roomForRow
  obtain ⟨-, -, hqueued⟩ := hrequest .pcie 0 rowFixed_writesAct hvalid rowFixed_checksPass
  exact rowFixed_refuses.not_served (by decide) (hqueued hmapped hfree)

end Sys2Proof

/-!
The family of spec/03_determinism_and_weft_count.md: launch groups (O43), requests for launches and power states (O16).
-/

namespace Sys2Proof.Machine

/-! ## What the coming snapshot is a hash of (R93, R101) -/

/-- The values of objects after the same writes: they come from the Crust's active set and the dictionary's active values alone. -/
theorem State.obj_foldl_setObj_congr {s u : State} (hcrust : u.crust = s.crust) (hactive : u.dict.active = s.dict.active) (es : List (Key × Val)) (key : Key) :
    (es.foldl (fun acc e => acc.setObj e.1 e.2) u).obj key = (es.foldl (fun acc e => acc.setObj e.1 e.2) s).obj key := by
  induction es generalizing s u with
  | nil => exact State.obj_congr hcrust (congrArg (get? · key) hactive)
  | cons e es ih => exact ih hcrust (by simp only [State.setObj, State.modDict_dict, hactive])

theorem State.comingSnapshot_congr {s u : State} (hcrust : u.crust = s.crust) (hactive : u.dict.active = s.dict.active)
    (hpending : u.commit.pending = s.commit.pending) : u.comingSnapshot = s.comingSnapshot := by
  have hbytes : (u.commit.pending.foldl (fun acc e => acc.setObj e.1 e.2) u).storedBytes
      = (s.commit.pending.foldl (fun acc e => acc.setObj e.1 e.2) s).storedBytes := by
    funext key
    simp only [State.storedBytes, hpending, State.obj_foldl_setObj_congr hcrust hactive]
  simp only [State.comingSnapshot, State.snapshotHash, State.rangeBytes, hbytes]

end Sys2Proof.Machine

namespace Sys2Proof

open Machine

/-! ## Frames sent in Basaris sessions -/

/-- `u` is `s` but for frames sent in Basaris sessions: the records of the sessions and the outbox. -/
def Sends (s u : State) : Prop := u = { s with basaris := { s.basaris with sessions := u.basaris.sessions }, outbox := u.outbox }

namespace Sends

theorem refl (s : State) : Sends s s := rfl

theorem modSession (s : State) (b : BSession) (f : BSession → BSession) : Sends s (s.modSession b f) := rfl

theorem emit (s : State) (o : Output) : Sends s (s.emit o) := rfl

theorem sendWire (s : State) (o : Output) : Sends s (s.sendWire o) := by
  unfold State.sendWire
  split
  · exact emit s o
  · exact refl s

section
variable {s u : State} (h : Sends s u)
include h

theorem trans {w : State} (hw : Sends u w) : Sends s w := Eq.trans hw (by rw [h])

theorem launch : u.launch = s.launch := by rw [h]

theorem service : u.service = s.service := by rw [h]

theorem mem : u.mem = s.mem := by rw [h]

theorem log : u.log = s.log := by rw [h]

theorem now : u.now = s.now := by rw [h]; rfl

theorem ethernetPowered : u.ethernetPowered = s.ethernetPowered := by rw [h]; rfl

theorem launchRefused (image : Option Image) : u.launchRefused image = s.launchRefused image := by rw [h]; rfl

theorem comingSnapshot : u.comingSnapshot = s.comingSnapshot := State.comingSnapshot_congr (by rw [h]) (by rw [h]) (by rw [h])

theorem meetsR93 (count : Nat) (image snapshot : Bytes) (mode domain : Nat) :
    u.meetsR93 count image snapshot mode domain = s.meetsR93 count image snapshot mode domain := by
  have hcoming : u.comingNat (ob 0x3C00 1) = s.comingNat (ob 0x3C00 1) := by rw [h]; rfl
  have himage : u.ownImageHash = s.ownImageHash := by rw [h]; rfl
  have hnat : ∀ key, u.nat key = s.nat key := by rw [h]; exact fun _ => rfl
  have hsync : ∀ number tolerance, u.synchronisedIn number tolerance = s.synchronisedIn number tolerance := by rw [h]; exact fun _ _ => rfl
  simp only [State.meetsR93, h.comingSnapshot, hcoming, himage, hnat, hsync, h.now]

theorem answerOut (b : BSession) (seq : Nat) (again : Bool) (a : Answer) : u.answerOut b seq again a = s.answerOut b seq again a := by rw [h]; rfl

end

theorem sendFrame (s : State) (b : BSession) (type : Nat) (payload : Bytes) : Sends s (s.sendFrame b type payload) := by
  unfold State.sendFrame
  split
  · exact refl s
  · exact (sendWire s _).trans (modSession _ _ _)

theorem tell (s : State) (type : Nat) (payload : Bytes) (peer : Nat) : Sends s (s.tell type payload peer) := by
  unfold State.tell
  split
  · exact sendFrame s _ type payload
  · exact refl s

/-- The same frame to each of a list of members. -/
theorem tellAll (s : State) (type : Nat) (payload : Bytes) (peers : List Nat) : Sends s (peers.foldl (fun acc p => acc.tell type payload p) s) := by
  induction peers generalizing s with
  | nil => exact refl s
  | cons p peers ih => exact (tell s type payload p).trans (ih _)

end Sends

/-! ## Launch frames to a member (R130, R131) -/

/-- The state once a frame of session `b` has been heard. -/
def Machine.State.heard (s : State) (b : BSession) : State := s.modSession b fun c => { c with lastAt := s.now }

section
variable {s : State} {f : BFrame} {b : BSession} {type : Nat} (h : FrameOf s f b type) (t : Nat)
include h

/-- A frame of an open session takes effect by its type. -/
theorem FrameOf.takeBasaris (htype : frameTypes.contains type = true) (hopen : 2 < type) :
    (s.advance t).takeBasaris f = ((s.advance t).heard b).frameOf { b with lastAt := (s.advance t).now } f := by
  have henabled : (s.advance t).basaris.enabled = true := h.enabled
  have hpowered : (s.advance t).ethernetPowered = true := h.powered
  have hsession : (s.advance t).findSession f = some b := h.session
  have hlimit : ¬ ((s.advance t).payloadLimit f.source < bfLength f ∨ bfLength f ≠ f.payload.length) :=
    not_or.mpr ⟨Nat.not_lt.mpr h.limit, not_not.mpr h.length⟩
  have hrequest : bfType f ≠ 1 ∧ bfType f ≠ 2 := by rw [h.type]; omega
  unfold State.takeBasaris
  simp only [henabled, hpowered, h.magic, h.version, h.type ▸ htype, hrequest.1, hrequest.2, hsession, if_neg hlimit, ← h.tag]
  simp [State.heard]

end

/-- A request frame above the session's last sequence number (R130). -/
def Newer (b : BSession) (f : BFrame) : Prop := b.lastSeq = none ∨ ∃ l, b.lastSeq = some l ∧ l < bfSequence f

/-- Such a frame is noted and taken. -/
theorem sequenced_of_newer {b : BSession} {f : BFrame} (h : Newer b f) (s : State) (go : State → State) :
    s.sequenced b f go = go (s.modSession b fun c => { c with lastSeq := some (bfSequence f), cache := lastN 64 (c.cache ++ [(bfSequence f, none)]) }) := by
  obtain hnone | ⟨l, hl, hlt⟩ := h
  · simp [State.sequenced, hnone]
  · simp [State.sequenced, hl, hlt]

/-- The frame of the answer to a request frame in session `b` has left, and beside it only the records of sessions, the launch control and the service have changed. -/
def Answered (s : State) (b : BSession) (f : BFrame) (type : Nat) (payload : Bytes) (u : State) : Prop :=
  u.outbox = s.outbox ++ [s.answerOut b (bfSequence f) false ⟨type, 0, [], payload⟩]
    ∧ u = { s with basaris := { s.basaris with sessions := u.basaris.sessions }, launch := u.launch, service := u.service, outbox := u.outbox }

/-- With power an answer leaves, and its session keeps it. -/
theorem answerFrame_of_powered {s : State} (h : s.ethernetPowered = true) (b : BSession) (seq : Nat) (a : Answer) :
    s.answerFrame b seq a = (s.emit (s.answerOut b seq false a)).modSession b fun c =>
      { c with cache := c.cache.map fun e => if e.1 = seq then (seq, some a) else e } := by
  rw [State.answerFrame, State.sendWire, if_pos h]

/-- The answer of a member that has changed its launch control and its service. -/
theorem Sends.answered {s y : State} (h : Sends s y) (hout : y.outbox = s.outbox) (hpowered : s.ethernetPowered = true) (b : BSession) (now : Nat) (f : BFrame)
    (type : Nat) (payload : Bytes) (launch : Launch → Launch) (service : Service → Service) :
    let u := ((y.modLaunch launch).modService service).answerFrame { b with lastAt := now } (bfSequence f) ⟨type, 0, [], payload⟩
    Answered s b f type payload u ∧ u.launch = launch s.launch ∧ u.service = service s.service := by
  have hwire : ((y.modLaunch launch).modService service).answerOut { b with lastAt := now } (bfSequence f) false ⟨type, 0, [], payload⟩
      = s.answerOut b (bfSequence f) false ⟨type, 0, [], payload⟩ := h.answerOut b _ _ _
  have hpower : ((y.modLaunch launch).modService service).ethernetPowered = true := h.ethernetPowered.trans hpowered
  rw [answerFrame_of_powered hpower, hwire]
  refine ⟨⟨congrArg (· ++ _) hout, ?_⟩, congrArg launch h.launch, congrArg service h.service⟩
  rw [h]
  rfl

/-! ## The member (R93 to R95) -/

/-- The launch control once a member has acknowledged a proposal that came in a session (R93). -/
def Machine.Launch.acknowledging (session count : Nat) (l : Launch) : Launch :=
  { l with state := .acknowledged, count := count, leader := false, session := session, needAck := [], needResp := [], final := false }

/-- The launch control once a launch is aborted or discarded (R94, R95). -/
def Machine.Launch.dropped (l : Launch) : Launch :=
  { l with state := .aborted, needAck := [], needResp := [], final := false
           count := match l.run with
             | some r => r.start
             | none => l.count }

theorem dropLaunch_eq (s : State) : s.dropLaunch = s.modLaunch Launch.dropped := rfl

/-- What a member does with a launch frame: it changes its launch control and its service, and answers. -/
def Machine.State.replies (s : State) (b : BSession) (f : BFrame) (type : Nat) (payload : Bytes) (launch : Launch → Launch) (service : Service → Service) : State :=
  ((s.modLaunch launch).modService service).answerFrame b (bfSequence f) ⟨type, 0, [], payload⟩

section
variable {s : State} {b : BSession}

theorem takeProposal_accepts {f : BFrame} {p : Bytes} (hstate : s.launch.state ≠ .confirmed) (hallowed : s.launchRefused s.launch.image = false)
    (hmeets : s.meetsR93 (leAt p 0 8) ((p.drop 8).take 32) ((p.drop 40).take 32) (leAt p 72 1) (leAt p 73 1) = true) :
    s.takeProposal b (bfSequence f) p = s.replies b f 0x11 (leBytes 8 (leAt p 0 8) ++ leBytes 4 0) (Launch.acknowledging b.num (leAt p 0 8)) fun v => { v with auto := false } := by
  have hok : (s.launch.state != .confirmed && !s.launchRefused s.launch.image
      && s.meetsR93 (leAt p 0 8) ((p.drop 8).take 32) ((p.drop 40).take 32) (leAt p 72 1) (leAt p 73 1)) = true := by
    simp [hstate, hallowed, hmeets]
  simp only [State.takeProposal, hok]
  rfl

theorem takeProposal_refuses {f : BFrame} {p : Bytes}
    (h : ¬ (s.launch.state ≠ .confirmed ∧ s.launchRefused s.launch.image = false
      ∧ s.meetsR93 (leAt p 0 8) ((p.drop 8).take 32) ((p.drop 40).take 32) (leAt p 72 1) (leAt p 73 1) = true)) :
    s.takeProposal b (bfSequence f) p = s.replies b f 0x11 (leBytes 8 (leAt p 0 8) ++ leBytes 4 0x08000022) id id := by
  have hok : (s.launch.state != .confirmed && !s.launchRefused s.launch.image
      && s.meetsR93 (leAt p 0 8) ((p.drop 8).take 32) ((p.drop 40).take 32) (leAt p 72 1) (leAt p 73 1)) = false := by
    simpa using h
  simp only [State.takeProposal, hok]
  rfl

theorem takeConfirm_confirms {f : BFrame} {p : Bytes} (hstate : s.launch.state = .acknowledged) (hsession : s.launch.session = b.num)
    (hcount : leAt p 0 8 = s.launch.count) (hbefore : 1000000 + s.now < s.launch.count) (hallowed : s.launchRefused s.launch.image = false) :
    s.takeConfirm b (bfSequence f) p = s.replies b f 0x06 [] (fun l => { l with state := .confirmed }) id := by
  rw [State.takeConfirm, if_pos ⟨hstate, hsession, hcount, hbefore, hallowed⟩]
  rfl

theorem takeConfirm_ignores {f : BFrame} {p : Bytes} (h : s.launchRefused s.launch.image = true ∨ s.launch.state ≠ .acknowledged ∨ s.launch.session ≠ b.num
      ∨ leAt p 0 8 ≠ s.launch.count ∨ s.launch.count ≤ 1000000 + s.now) :
    s.takeConfirm b (bfSequence f) p = s.replies b f 0x06 [] id id := by
  have hnot : ¬ (s.launch.state = .acknowledged ∧ s.launch.session = b.num ∧ leAt p 0 8 = s.launch.count ∧ 1000000 + s.now < s.launch.count
      ∧ s.launchRefused s.launch.image = false) := by
    rintro ⟨hstate, hsession, hcount, hbefore, hallowed⟩
    rcases h with h | h | h | h | h
    · exact absurd (h.symm.trans hallowed) nofun
    · exact h hstate
    · exact h hsession
    · exact h hcount
    · exact Nat.not_lt.mpr h hbefore
  rw [State.takeConfirm, if_neg hnot]
  rfl

theorem takeAbort_aborts {f : BFrame} {p : Bytes} (hstate : s.launch.state = .acknowledged ∨ s.launch.state = .confirmed) (hleader : s.launch.leader = false)
    (hsession : s.launch.session = b.num) (hcount : leAt p 0 8 = s.launch.count) (hbefore : 1000000 + s.now < s.launch.count) :
    s.takeAbort b (bfSequence f) p = s.replies b f 0x06 [] Launch.dropped id := by
  have hmine : ((s.launch.state == .acknowledged || s.launch.state == .confirmed) && !s.launch.leader) = true := by simpa [hleader] using hstate
  simp only [State.takeAbort, hmine, hsession, hcount, hbefore, if_true, and_self]
  rfl

theorem takeAbort_late {f : BFrame} {p : Bytes} (h : leAt p 0 8 ≤ 1000000 + s.now) :
    s.takeAbort b (bfSequence f) p = s.replies b f 0x06 [] id id := by
  have hlate : ¬ (1000000 + s.now < leAt p 0 8) := Nat.not_lt.mpr h
  simp only [State.takeAbort, hlate, false_and, if_false]
  rfl

end

/-- A command that answers a launch frame in its session, with changes of the launch control and the service alone. -/
def Replies (c : Instr) (s : State) (t : Nat) (b : BSession) (f : BFrame) (type : Nat) (payload : Bytes) (launch : Launch → Launch) (service : Service → Service) : Prop :=
  Ends c s fun u => Answered (s.advance t) b f type payload u ∧ u.launch = launch s.launch ∧ u.service = service s.service

/-- What a member makes of a launch frame it makes in a state that differs in the records of sessions only. -/
theorem launchFrame_replies {c : Instr} {s : State} {t : Nat} {f : BFrame} {b : BSession} {type length : Nat} {take : State → BSession → Nat → Bytes → State}
    (hexec : exec c s = .next ((s.advance t).takeBasaris f)) (h : FrameOf s f b type) (htype : frameTypes.contains type = true) (hopen : 2 < type)
    (hframe : ∀ (x : State) (d : BSession), x.frameOf d f = x.frameLaunch d f length take) (hours : b.ours = false) (hlength : f.payload.length = length)
    (hnewer : Newer b f) {reply : Nat} {payload : Bytes} {launch : Launch → Launch} {service : Service → Service}
    (htake : ∀ (y : State) (now : Nat), Sends (s.advance t) y →
      take y { b with lastAt := now } (bfSequence f) f.payload = y.replies { b with lastAt := now } f reply payload launch service) :
    Replies c s t b f reply payload launch service := by
  have hfits : (b.ours || f.payload.length != length) = false := by simp [hours, hlength]
  have hnoted : Sends (s.advance t) (((s.advance t).heard b).modSession { b with lastAt := (s.advance t).now } fun c =>
    { c with lastSeq := some (bfSequence f), cache := lastN 64 (c.cache ++ [(bfSequence f, none)]) }) := rfl
  refine ⟨_, hexec, ?_⟩
  rw [h.takeBasaris t htype hopen, hframe, State.frameLaunch, if_neg (by rw [hfits]; exact Bool.false_ne_true),
    sequenced_of_newer (b := { b with lastAt := (s.advance t).now }) hnewer, htake _ _ hnoted]
  exact hnoted.answered rfl h.powered b _ f reply payload launch service

section
variable {s : State} {b : BSession} {f : BFrame}

theorem frameOf_proposal (h : bfType f = 0x10) : s.frameOf b f = s.frameLaunch b f 80 State.takeProposal := by simp only [State.frameOf, h]

theorem frameOf_confirm (h : bfType f = 0x12) : s.frameOf b f = s.frameLaunch b f 8 State.takeConfirm := by simp only [State.frameOf, h]

theorem frameOf_abort (h : bfType f = 0x13) : s.frameOf b f = s.frameLaunch b f 8 State.takeAbort := by simp only [State.frameOf, h]

end

section
variable {s : State} {t : Nat} {f : BFrame} {b : BSession} (hours : b.ours = false) (hnewer : Newer b f)
include hours hnewer

section
variable (h : FrameOf s f b 0x10) (hlength : f.payload.length = 80)
include h hlength

theorem launchProposal_accepted (hstate : s.launch.state ≠ .confirmed) (hallowed : (s.advance t).launchRefused s.launch.image = false)
    (hmeets : (s.advance t).meetsR93 (leAt f.payload 0 8) ((f.payload.drop 8).take 32) ((f.payload.drop 40).take 32) (leAt f.payload 72 1)
      (leAt f.payload 73 1) = true) :
    Replies (.launchProposal t f) s t b f 0x11 (leBytes 8 (leAt f.payload 0 8) ++ leBytes 4 0) (Launch.acknowledging b.num (leAt f.payload 0 8))
      fun v => { v with auto := false } := by
  refine launchFrame_replies rfl h rfl (by decide) (fun x d => frameOf_proposal h.type) hours hlength hnewer fun y now hy => ?_
  exact takeProposal_accepts (b := { b with lastAt := now }) (hy.launch ▸ hstate) (by rw [hy.launch, hy.launchRefused]; exact hallowed)
    (by rw [hy.meetsR93]; exact hmeets)

theorem launchProposal_refused (hnot : ¬ (s.launch.state ≠ .confirmed ∧ (s.advance t).launchRefused s.launch.image = false
      ∧ (s.advance t).meetsR93 (leAt f.payload 0 8) ((f.payload.drop 8).take 32) ((f.payload.drop 40).take 32) (leAt f.payload 72 1)
        (leAt f.payload 73 1) = true)) :
    Replies (.launchProposal t f) s t b f 0x11 (leBytes 8 (leAt f.payload 0 8) ++ leBytes 4 0x08000022) id id := by
  refine launchFrame_replies rfl h rfl (by decide) (fun x d => frameOf_proposal h.type) hours hlength hnewer fun y now hy => ?_
  exact takeProposal_refuses (by rw [hy.launch, hy.launchRefused, hy.meetsR93]; exact hnot)

end

section
variable (h : FrameOf s f b 0x12) (hlength : f.payload.length = 8)
include h hlength

theorem launchConfirm_confirms (hstate : s.launch.state = .acknowledged) (hsession : s.launch.session = b.num) (hcount : leAt f.payload 0 8 = s.launch.count)
    (hbefore : 1000000 + (s.advance t).now < s.launch.count) (hallowed : (s.advance t).launchRefused s.launch.image = false) :
    Replies (.launchConfirm t f) s t b f 0x06 [] (fun l => { l with state := .confirmed }) id := by
  refine launchFrame_replies rfl h rfl (by decide) (fun x d => frameOf_confirm h.type) hours hlength hnewer fun y now hy => ?_
  have hlaunch : y.launch = s.launch := hy.launch
  exact takeConfirm_confirms (hlaunch ▸ hstate) (hlaunch ▸ hsession) (hlaunch ▸ hcount) (by rw [hy.now, hlaunch]; exact hbefore)
    (by rw [hlaunch, hy.launchRefused]; exact hallowed)

theorem launchConfirm_ignored (hnot : (s.advance t).launchRefused s.launch.image = true ∨ s.launch.state ≠ .acknowledged ∨ s.launch.session ≠ b.num
      ∨ leAt f.payload 0 8 ≠ s.launch.count ∨ s.launch.count ≤ 1000000 + (s.advance t).now) :
    Replies (.launchConfirm t f) s t b f 0x06 [] id id := by
  refine launchFrame_replies rfl h rfl (by decide) (fun x d => frameOf_confirm h.type) hours hlength hnewer fun y now hy => ?_
  have hlaunch : y.launch = s.launch := hy.launch
  exact takeConfirm_ignores (by rw [hlaunch, hy.launchRefused, hy.now]; exact hnot)

end

section
variable (h : FrameOf s f b 0x13) (hlength : f.payload.length = 8)
include h hlength

theorem launchAbort_aborts (hstate : s.launch.state = .acknowledged ∨ s.launch.state = .confirmed) (hleader : s.launch.leader = false)
    (hsession : s.launch.session = b.num) (hcount : leAt f.payload 0 8 = s.launch.count) (hbefore : 1000000 + (s.advance t).now < s.launch.count) :
    Replies (.launchAbort t f) s t b f 0x06 [] Launch.dropped id := by
  refine launchFrame_replies rfl h rfl (by decide) (fun x d => frameOf_abort h.type) hours hlength hnewer fun y now hy => ?_
  have hlaunch : y.launch = s.launch := hy.launch
  exact takeAbort_aborts (hlaunch ▸ hstate) (hlaunch ▸ hleader) (hlaunch ▸ hsession) (hlaunch ▸ hcount) (by rw [hy.now, hlaunch]; exact hbefore)

theorem launchAbort_late (hlate : leAt f.payload 0 8 ≤ 1000000 + (s.advance t).now) : Replies (.launchAbort t f) s t b f 0x06 [] id id := by
  refine launchFrame_replies rfl h rfl (by decide) (fun x d => frameOf_abort h.type) hours hlength hnewer fun y now hy => ?_
  exact takeAbort_late (by rw [hy.now]; exact hlate)

end

end

/-! ## The leader (R93 to R95) -/

section
variable {s : State} {t : Nat} {f : BFrame} {b : BSession}

/-- A confirmation touches the launch control and sends frames. -/
theorem confirm_sends (s : State) : Sends (s.modLaunch fun l => { l with state := .confirmed, needAck := [], repeatAt := some s.now }) s.confirm := Sends.tellAll _ _ _ _

theorem launchAcknowledge_exec (h : FrameOf s f b 0x11) (hours : b.ours = true) (hlength : f.payload.length = 12) :
    exec (.launchAcknowledge t f) s = .next (((s.advance t).heard b).acknowledged { b with lastAt := (s.advance t).now } f.payload) := by
  refine congrArg Host.Outcome.next ((h.takeBasaris t rfl (by decide)).trans ?_)
  simp [State.frameOf, h.type, hours, hlength]

theorem launchConfirmResponse_exec (h : FrameOf s f b 0x06) (hours : b.ours = true) :
    exec (.launchConfirmResponse t f) s = .next (((s.advance t).heard b).confirmAnswered { b with lastAt := (s.advance t).now }) := by
  refine congrArg Host.Outcome.next ((h.takeBasaris t rfl (by decide)).trans ?_)
  simp [State.frameOf, h.type, hours]

section
variable {payload : Bytes} (hstate : s.launch.state = .proposed) (hleader : s.launch.leader = true) (hcount : leAt payload 0 8 = s.launch.count)
include hstate hleader hcount

theorem acknowledged_waits (hcode : leAt payload 8 4 = 0) (hleft : (s.launch.needAck.filter fun p => p != b.peer) ≠ []) :
    s.acknowledged b payload = s.modLaunch fun l => { l with needAck := s.launch.needAck.filter fun p => p != b.peer } := by
  simp [State.acknowledged, hstate, hleader, hcount, hcode, hleft]

theorem acknowledged_confirms (hcode : leAt payload 8 4 = 0) (hleft : (s.launch.needAck.filter fun p => p != b.peer) = []) :
    s.acknowledged b payload = (s.modLaunch fun l => { l with needAck := [] }).confirm := by
  simp [State.acknowledged, hstate, hleader, hcount, hcode, hleft]

end

theorem acknowledged_refused {payload : Bytes} (hcode : leAt payload 8 4 ≠ 0) : s.acknowledged b payload = s := by
  simp [State.acknowledged, hcode]

/-- The clauses of O43 about the acknowledgement of the leader's proposal. -/
theorem launchAcknowledge_clauses (h : FrameOf s f b 0x11) (hours : b.ours = true) (hlength : f.payload.length = 12) (hstate : s.launch.state = .proposed)
    (hleader : s.launch.leader = true) (hcount : leAt f.payload 0 8 = s.launch.count) :
    (leAt f.payload 8 4 = 0 → (s.launch.needAck.filter fun p => p != b.peer) ≠ [] → Ends (.launchAcknowledge t f) s fun u =>
        u.launch = { s.launch with needAck := s.launch.needAck.filter fun p => p != b.peer } ∧ u.outbox = s.outbox)
      ∧ (leAt f.payload 8 4 = 0 → (s.launch.needAck.filter fun p => p != b.peer) = [] → Ends (.launchAcknowledge t f) s fun u =>
        u.launch = { s.launch with state := .confirmed, needAck := [], repeatAt := some (s.advance t).now } ∧ u.mem = s.mem)
      ∧ (leAt f.payload 8 4 ≠ 0 → Ends (.launchAcknowledge t f) s fun u => u.launch = s.launch ∧ u.outbox = s.outbox) := by
  have hexec := launchAcknowledge_exec (t := t) h hours hlength
  refine ⟨fun hcode hleft => ?_, fun hcode hleft => ?_, fun hcode => ?_⟩
  · exact ⟨_, hexec.trans (congrArg _ (acknowledged_waits (s := (s.advance t).heard b) hstate hleader hcount hcode hleft)), rfl, rfl⟩
  · have hsent := confirm_sends (((s.advance t).heard b).modLaunch fun l => { l with needAck := [] })
    exact ⟨_, hexec.trans (congrArg _ (acknowledged_confirms (s := (s.advance t).heard b) hstate hleader hcount hcode hleft)), hsent.launch, hsent.mem⟩
  · exact ⟨_, hexec.trans (congrArg _ (acknowledged_refused hcode)), rfl, rfl⟩

theorem confirmAnswered_eq (s : State) (b : BSession) : s.confirmAnswered b = s.modLaunch fun l =>
    if l.state = .confirmed ∧ l.leader = true then { l with needResp := l.needResp.filter fun p => p != b.peer } else l := by
  by_cases h : s.launch.state = .confirmed ∧ s.launch.leader = true
  · simp only [State.confirmAnswered, State.modLaunch, if_pos h]
  · simp only [State.confirmAnswered, State.modLaunch, if_neg h]

/-- The session to a member is the first of its number, side and peer. -/
theorem find?_same_of_sessionTo {p : Nat} (h : s.sessionTo p = some b) : (s.basaris.sessions.find? fun c => c.same b) = some b := by
  have hb : b.ours = true ∧ b.peer = p := by simpa using List.find?_some h
  have hsame : ∀ c : BSession, c.same b = true → (c.ours && c.peer == p) = true := by
    intro c hc
    have hc' : (c.num = b.num ∧ c.ours = b.ours) ∧ c.peer = b.peer := by simpa [BSession.same] using hc
    simp [hc'.1.2, hc'.2, hb]
  obtain ⟨-, before, after, hsplit, hbefore⟩ := List.find?_eq_some_iff_append.mp h
  refine List.find?_eq_some_iff_append.mpr ⟨by simp [BSession.same], before, after, hsplit, fun c hc => ?_⟩
  have hnot := hbefore c hc
  cases hs : c.same b with
  | false => rfl
  | true => rw [hsame c hs] at hnot; exact hnot

/-- A frame to one member leaves in the session to it, with the session's next sequence number (R130). -/
theorem tell_outbox {p type : Nat} {payload : Bytes} (h : s.sessionTo p = some b) (hpowered : s.ethernetPowered = true) :
    (s.tell type payload p).outbox = s.outbox ++ [s.wire b.key b.peer b.num type 0 b.txSeq 0 payload] := by
  simp only [State.tell, h, State.sendFrame, find?_same_of_sessionTo h, State.sendWire, hpowered, if_true]
  rfl

/-! ## Repeats, timeouts and the abort deadline (R94, R95) -/

theorem repeatConfirm_idle (h : s.launch.state ≠ .confirmed ∨ s.launch.leader = false ∨ s.launch.count ≤ 1000000 + s.now ∨ s.due s.launch.repeatAt 1000000 = false) :
    s.repeatConfirm = s := by
  refine if_neg ?_
  rintro ⟨hstate, hleader, hbefore, hdue⟩
  rcases h with h | h | h | h
  · exact h hstate
  · exact absurd (h.symm.trans hleader) nofun
  · exact Nat.not_lt.mpr h hbefore
  · exact absurd (h.symm.trans hdue) nofun

theorem repeatConfirm_due (hstate : s.launch.state = .confirmed) (hleader : s.launch.leader = true) (hbefore : 1000000 + s.now < s.launch.count)
    (hdue : s.due s.launch.repeatAt 1000000 = true) :
    s.repeatConfirm = s.launch.needResp.foldl (fun acc p => acc.tell 0x12 (leBytes 8 s.launch.count) p) (s.modLaunch fun l => { l with repeatAt := some s.now }) :=
  if_pos ⟨hstate, hleader, hbefore, hdue⟩

theorem ackTimeout_idle (h : s.launch.state ≠ .proposed ∨ s.launch.leader = false ∨ s.launch.needAck = [] ∨ 11000000 + s.now < s.launch.count) :
    s.ackTimeout = s := by
  refine if_neg ?_
  rintro ⟨hstate, hleader, hmissing, hlate⟩
  rcases h with h | h | h | h
  · exact h hstate
  · exact absurd (h.symm.trans hleader) nofun
  · simp [h] at hmissing
  · exact Nat.not_lt.mpr hlate h

theorem ackTimeout_aborts (hstate : s.launch.state = .proposed) (hleader : s.launch.leader = true) (hmissing : s.launch.needAck ≠ [])
    (hlate : s.launch.count ≤ 11000000 + s.now) :
    s.ackTimeout = (s.group.foldl (fun acc p => acc.tell 0x13 (leBytes 8 s.launch.count) p) s).dropLaunch :=
  if_pos ⟨hstate, hleader, by simpa using hmissing, hlate⟩

theorem abortDeadline_before (h : 1000000 + s.now < s.launch.count) : s.abortDeadline = s := if_pos h

theorem abortDeadline_at (h : s.launch.count ≤ 1000000 + s.now) :
    (s.launch.state = .confirmed → s.abortDeadline = s.modLaunch fun l => { l with final := true })
      ∧ (s.launch.state = .proposed ∨ s.launch.state = .acknowledged → s.abortDeadline = s.modLaunch Launch.dropped) := by
  have hafter : ¬ 1000000 + s.now < s.launch.count := Nat.not_lt.mpr h
  refine ⟨fun hstate => ?_, fun hstate => ?_⟩
  · simp only [State.abortDeadline, if_neg hafter, hstate]
  · rcases hstate with hstate | hstate <;> simp only [State.abortDeadline, if_neg hafter, hstate, dropLaunch_eq]

end

/-- Settles O43: a member changes its launch control alone and answers (`launchFrame_replies`), and the leader's frames touch only the records of sessions and the outbox (`Sends`). -/
theorem launchGroupsAgree : Obligations.LaunchGroupsAgree := by
  refine ⟨fun s t f b => ⟨fun h hours hlength hnewer => ⟨?_, ?_⟩, fun h hours hlength hnewer => ⟨?_, ?_⟩, fun h hours hlength hnewer => ⟨?_, ?_⟩, ?_, ?_⟩,
    fun s t => ⟨?_, ?_, ?_, ?_, ?_, ?_⟩⟩
  · rintro ⟨hstate, hallowed, hmeets⟩
    obtain ⟨u, hexec, hanswered, hlaunch, hservice⟩ := launchProposal_accepted hours hnewer h hlength hstate hallowed hmeets
    refine ⟨u, hexec, hanswered, ?_⟩
    rw [hlaunch]
    exact ⟨rfl, rfl, rfl, rfl, rfl, hservice⟩
  · exact launchProposal_refused hours hnewer h hlength
  · exact launchConfirm_confirms hours hnewer h hlength
  · exact launchConfirm_ignored hours hnewer h hlength
  · intro hstate hleader hsession hcount hbefore
    obtain ⟨u, hexec, hanswered, hlaunch, -⟩ := launchAbort_aborts hours hnewer h hlength hstate hleader hsession hcount hbefore
    refine ⟨u, hexec, hanswered, ?_⟩
    rw [hlaunch]
    exact ⟨rfl, rfl⟩
  · exact launchAbort_late hours hnewer h hlength
  · exact fun h hours hlength => launchAcknowledge_clauses h hours hlength
  · intro h hours
    exact ⟨_, launchConfirmResponse_exec h hours, by rw [confirmAnswered_eq]; exact ⟨rfl, rfl, rfl⟩⟩
  · exact fun h => congrArg Host.Outcome.next (repeatConfirm_idle (s := s.advance t) h)
  · intro p b hstate hleader hbefore hdue hone hsession hpowered
    refine ⟨_, congrArg Host.Outcome.next (repeatConfirm_due (s := s.advance t) hstate hleader hbefore hdue), ?_⟩
    have hone' : (s.advance t).launch.needResp = [p] := hone
    rw [hone', List.foldl_cons, List.foldl_nil]
    have hsent := Sends.tell ((s.advance t).modLaunch fun l => { l with repeatAt := some (s.advance t).now }) 0x12 (leBytes 8 s.launch.count) p
    exact ⟨tell_outbox (s := (s.advance t).modLaunch _) hsession hpowered, hsent.launch, hsent.mem⟩
  · exact fun h => congrArg Host.Outcome.next (ackTimeout_idle (s := s.advance t) h)
  · intro hstate hleader hmissing hlate
    refine ⟨_, congrArg Host.Outcome.next (ackTimeout_aborts (s := s.advance t) hstate hleader hmissing hlate), ?_⟩
    have hsent := Sends.tellAll (s.advance t) 0x13 (leBytes 8 s.launch.count) (s.advance t).group
    have hrun := congrArg Launch.run hsent.launch
    exact ⟨rfl, hrun, rfl, hsent.mem, hsent.log⟩
  · exact fun h => congrArg Host.Outcome.next (abortDeadline_before (s := s.advance t) h)
  · intro h
    obtain ⟨hfinal, hdrop⟩ := abortDeadline_at (s := s.advance t) h
    exact ⟨fun hstate => congrArg Host.Outcome.next (hfinal hstate), fun hstate => congrArg Host.Outcome.next (hdrop hstate)⟩

end Sys2Proof

namespace Sys2Proof

open Machine

/-! ## The bookkeeping of a request does not bear on a launch -/

namespace Books

section
variable {s u : State} (h : Books s u)
include h

theorem service : u.service = s.service := by rw [h.1]

theorem launch : u.launch = s.launch := by rw [h.1]

theorem time : u.time = s.time := by rw [h.1]

theorem pending : u.commit.pending = s.commit.pending := by rw [h.1]

theorem modLaunch (f : Launch → Launch) : Books (s.modLaunch f) (u.modLaunch f) :=
  ⟨(congrArg (State.modLaunch · f) h.1).trans rfl, h.2⟩

theorem modService (f : Service → Service) : Books (s.modService f) (u.modService f) :=
  ⟨(congrArg (State.modService · f) h.1).trans rfl, h.2⟩

/-- The counts that the bookkeeping touches lie below the objects that the conditions of a launch read. -/
theorem nat_of_le {key : Key} (hkey : ob 0x2100 0 ≤ key) : u.nat key = s.nat key := by
  refine h.nat fun hmem => ?_
  have hbelow : ∀ k ∈ [ob 0x2020 0x0A, ob 0x2010 0x0A, ob 0x2010 0x0B], k < ob 0x2100 0 := by decide
  exact absurd hkey (Nat.not_le.mpr (hbelow key hmem))

theorem comingNat {key : Key} (hkey : ob 0x2100 0 ≤ key) : u.comingNat key = s.comingNat key := by
  simp only [State.comingNat, h.pending, h.nat_of_le hkey]

theorem launchRefused (image : Option Image) : u.launchRefused image = s.launchRefused image := by
  cases image with
  | none => rfl
  | some im =>
    have hheader : u.headerMismatch im = s.headerMismatch im := by
      simp only [State.headerMismatch, h.service, h.nat_of_le (key := ob 0x3010 1) (by decide), h.comingNat (key := ob 0x3C00 1) (by decide),
        h.comingNat (key := ob 0x3C00 3) (by decide), h.comingNat (key := ob 0x3C00 0x0C) (by decide)]
    have hvariant : u.variantFor im = s.variantFor im := by
      simp only [State.variantFor, h.power, h.comingNat (key := ob 0x2100 0x0A) (by decide)]
    have hmessage : messageTooLong u.comingNat im = messageTooLong s.comingNat im := by
      refine messageTooLong_congr (fun i j hi => h.comingNat ?_) im
      show 0x2100 * 256 + 0 ≤ i * 256 + j
      omega
    simp only [State.launchRefused, hheader, hvariant, hmessage, h.service, h.power, h.comingNat (key := ob 0x3600 3) (by decide),
      h.comingNat (key := ob 0x3C00 1) (by decide), h.comingNat (key := ob 0x2110 64) (by decide)]

theorem ownDomain : u.ownDomain = s.ownDomain := by
  have hnumber : ∀ d : Fin 2, ob 0x2100 0 ≤ ptpObj d 3 := by decide
  simp only [State.ownDomain, h.time, h.nat_of_le (hnumber _)]

theorem synchronisedIn (number tolerance : Nat) : u.synchronisedIn number tolerance = s.synchronisedIn number tolerance := by
  have hnumber : ∀ d : Fin 2, ob 0x2100 0 ≤ ptpObj d 3 := by decide
  simp only [State.synchronisedIn, h.time, h.nat_of_le (hnumber _), h.now]

end

end Books

end Sys2Proof

namespace Sys2Proof.Machine

/-! ## A launch proposed alone (R93) -/

/-- The launch control of a chip that has proposed a launch to itself and confirmed it. -/
def Launch.confirmedAlone (count now : Nat) (l : Launch) : Launch :=
  { l with state := .confirmed, count := count, leader := true, needAck := [], needResp := [], repeatAt := some now, final := false }

section
variable {s : State}

theorem Launch.dropped_of_none {l : Launch} (h : l.run = none) : l.dropped = { l with state := .aborted, needAck := [], needResp := [], final := false } := by
  unfold Launch.dropped
  rw [h]

theorem State.proposeAt_alone (hgroup : s.group = []) (count : Nat) (auto : Bool) :
    s.proposeAt count auto = (s.modLaunch (Launch.confirmedAlone count s.now)).modService fun v => { v with auto := auto } := by
  simp only [State.proposeAt, hgroup, List.isEmpty_nil, if_true]
  rfl

theorem State.propose_confirms {count : Nat} (hsync : s.synchronisedIn s.ownDomain (s.nat (ob 0x3C00 6)) = true) (hmult : count % 1000 = 0)
    (hmargin : s.now + 1000000 * s.nat (ob 0x3C00 7) ≤ count) (hallowed : s.launchRefused s.launch.image = false) (hgroup : s.group = []) :
    s.propose count = (s.modLaunch (Launch.confirmedAlone count s.now)).modService fun v => { v with auto := false } := by
  have hmeets : s.meetsR93 count s.ownImageHash s.comingSnapshot (s.comingNat (ob 0x3C00 1)) s.ownDomain = true := by
    simp [State.meetsR93, hsync, hmult, hmargin]
  rw [State.propose, hmeets, hallowed, ← State.proposeAt_alone hgroup]
  rfl

theorem State.propose_aborts {count : Nat} (hmargin : count < s.now + 1000000 * s.nat (ob 0x3C00 7)) : s.propose count = s.modLaunch Launch.dropped := by
  have hmeets : s.meetsR93 count s.ownImageHash s.comingSnapshot (s.comingNat (ob 0x3C00 1)) s.ownDomain = false := by
    simp [State.meetsR93, hmargin]
  rw [State.propose, hmeets]
  rfl

end

/-- The object of the launch count (R93). -/
theorem rowOf_launchCount : rowOf (ob 0x3C00 4) = some ⟨0x3C00, 0x3C00, 0x04, 0x04, .u 64, .rw, .int 0, .step 0 18446744073709551615 1000, .instant⟩ := by decide +kernel

section
variable {s : State} {ses : Session} {g : Given} {count : Nat} (hmult : count % 1000 = 0) (hcount : count < 2 ^ 64) (howner : s.commit.owner = none)
  (hgroup : s.commit.group = none) (himpl : s.commit.implicit = []) (hrun : s.launch.run = none)
  (hchecks : s.takeIdent.firstFailing [(ob 0x3C00 4, .int count)] = none) (hallowed : s.proposeRefused = false)
include hmult hcount howner hgroup himpl hrun hchecks hallowed

/-- A launch count that passes the checks is proposed at once. -/
theorem State.serveWrite_propose {a : State} (hact : s.committed.propose count = a) (hstill : a.running = false) :
    s.serveWrite ses (writeItem (ob 0x3C00 4) (.int count)) g = (a, .now 0 [], 0, []) := by
  have hfits : (Ty.u 64).fits (.int count) = true := by simp [Ty.fits]; omega
  have hrng : (Rng.step 0 18446744073709551615 1000).ok (.int count) = true := by simp [Rng.ok]; omega
  have hrefusal : s.refusalOf (s.withWrite ses (ob 0x3C00 4) (.int count)) (ob 0x3C00 4) count = 0 := by
    rw [State.refusalOf, if_pos rfl, hallowed]
    rfl
  exact State.serveWrite_command rowOf_launchCount (.inl rfl) (w := 64) rfl rfl hfits hrng (by decide) (by decide) rfl rfl hrefusal rfl rfl (by decide +kernel) rfl rfl
    (fun _ _ => rfl) (by decide) howner hgroup himpl hrun hchecks hact hstill

end

end Sys2Proof.Machine

namespace Sys2Proof

open Machine

section
variable {s : State} {ses : Session} {t count : Nat} (h : WritesAct s ses) (hmult : count % 1000 = 0) (hcount : count < 2 ^ 64)
  (hchecks : ChecksPass s t (ob 0x3C00 4) (.int count)) (hallowed : (s.advance t).proposeRefused = false)
include h hmult hcount hchecks hallowed

/-- A proposal of a chip without a launch: where it changes the launch control and the service alone, its write is answered with success. -/
theorem launchPropose_served {launch : Launch → Launch} {service : Service → Service} (hrun : (launch s.launch).run = none)
    (hpropose : ∀ (x : State) (f : Server → Server), Books (s.advance t) x → (x.modServer f).propose count = ((x.modServer f).modLaunch launch).modService service) :
    ServedWith (.launchPropose t ses count) s ses (Books (((s.advance t).modLaunch launch).modService service)) := by
  have hbooks := h.committed t
  refine refusedWith_of_serveWrite (g := {}) (x := ((s.advance t).committed.modLaunch launch).modService service) rfl (h.toServerFree.advance t) ?_
    ((hbooks.modLaunch launch).modService service) (h.committed_server t)
  have hstill : (((s.advance t).committed.modLaunch launch).modService service).running = false := by
    have hlaunch : (((s.advance t).committed.modLaunch launch).modService service).launch = launch s.launch := congrArg launch hbooks.launch
    rw [State.running, hlaunch, hrun]
    rfl
  have hrefused : ((s.advance t).serving ses (writeItem (ob 0x3C00 4) (.int count)) {}).proposeRefused = false := hallowed
  have hproposed := hpropose (s.advance t).committed
    (fun v => { v with turn := ses.path, works := [oneWrite ses (writeItem (ob 0x3C00 4) (.int count)) {}] }) hbooks
  rw [h.touchGroup t]
  exact State.serveWrite_propose (s := (s.advance t).serving ses _ _) hmult hcount h.owner h.group h.implicit h.run ((State.firstFailing_serving ..).trans hchecks) hrefused
    hproposed hstill

theorem launchPropose_aborted (hmargin : count < (s.advance t).now + 1000000 * s.nat (ob 0x3C00 7)) :
    ServedWith (.launchPropose t ses count) s ses
      (Books { s.advance t with launch := { s.launch with state := .aborted, needAck := [], needResp := [], final := false } }) := by
  rw [← Launch.dropped_of_none h.run]
  refine launchPropose_served (launch := Launch.dropped) (service := id) h hmult hcount hchecks hallowed h.run fun x f hx => ?_
  refine State.propose_aborts (s := x.modServer f) ?_
  show count < x.now + 1000000 * x.nat (ob 0x3C00 7)
  rw [hx.now, hx.nat_of_le (by decide)]
  exact hmargin

variable (halone : (s.advance t).group = [])
include halone

theorem launchPropose_confirmed (hsync : (s.advance t).synchronisedIn (s.advance t).ownDomain (s.nat (ob 0x3C00 6)) = true)
    (hmargin : (s.advance t).now + 1000000 * s.nat (ob 0x3C00 7) ≤ count) :
    ServedWith (.launchPropose t ses count) s ses
      (Books (((s.advance t).modLaunch (Launch.confirmedAlone count (s.advance t).now)).modService fun v => { v with auto := false })) := by
  refine launchPropose_served h hmult hcount hchecks hallowed h.run fun x f hx => ?_
  have hnow : x.now = (s.advance t).now := hx.now
  have himage : (s.advance t).launchRefused s.launch.image = false := by
    have hrefused := hallowed
    simp only [State.proposeRefused, Bool.or_eq_false_iff] at hrefused
    exact hrefused.1.2
  have hsync' : x.synchronisedIn x.ownDomain (x.nat (ob 0x3C00 6)) = true := by
    rw [hx.ownDomain, hx.nat_of_le (by decide), hx.synchronisedIn]
    exact hsync
  have hmargin' : x.now + 1000000 * x.nat (ob 0x3C00 7) ≤ count := by
    rw [hnow, hx.nat_of_le (by decide)]
    exact hmargin
  have hallowed' : x.launchRefused x.launch.image = false := by
    rw [hx.launchRefused, hx.launch]
    exact himage
  have halone' : x.group = [] := by
    rw [State.group, hx.launch]
    exact halone
  rw [← hnow]
  exact State.propose_confirms (s := x.modServer f) hsync' hmult hmargin' hallowed' halone'

end

end Sys2Proof

namespace Sys2Proof.Machine

/-! ## Power-state requests (R457) -/

section
variable {s : State} {ses : Session} (h : ServerFree s ses) {it : Item} {g : Given}
include h

/-- One request of one write item at a free server: where serving it leaves the request as the only one held, the request is counted, and its answer of success leaves last. -/
theorem State.request_write {x : State} (hserve : ((s.serving ses it g).touchGroup ses (ob it.index it.sub)).serveWrite ses it g = (x, .now 0 [], 0, []))
    (hworks : x.server.works = [oneWrite ses it g]) :
    s.request ses .plain true [it] g =
      ((x.modServer fun v => { v with turn := (ses.path + 1) % 4, works := [] }).bump (ob 0x2020 0x0A)).emit (.response ses [answerItem it 0 []]) := by
  set w0 : Work := { oneWrite ses it g with begun := false } with hw0
  set w1 : Work := { oneWrite ses it g with items := [], done := [answerItem it 0 []] } with hw1
  set s0 := s.modServer fun v => { v with works := v.works ++ [w0] } with hs0
  have hheld : s0.server.works = [w0] := by simp [hs0, h.works]
  have hstart : s0.startCommits = s0 := State.startCommits_free s0 h.group h.implicit h.instant
  have hmoves : s0.serverMoves = 5 := by simp [State.serverMoves, hheld, hw0, oneWrite]
  have howed : ses ∉ s.dict.owed := by simpa using h.owed
  have hbegin : s0.serveWork ses.path w0 = s.serving ses it g := by
    simp [State.serveWork, State.beginWork, State.modWork, State.serving, hw0, oneWrite, h.works, modFirst, Work.free, State.modServer, State.modDict, hs0, howed]
  have hitem : (s.serving ses it g).serveWork ses.path (oneWrite ses it g) = x.holding w1 := by
    have hover : x.modWork ses.path ses.path (fun w => { w with items := [], done := w.done ++ [answerItem it 0 []] }) = x.holding w1 := by
      simp [State.modWork, State.modServer, State.holding, hw1, hworks, oneWrite, modFirst, Work.free]
    simp only [State.serveWork, oneWrite, State.serveItem] at hserve ⊢
    simp [hserve, hover]
  calc s.request ses .plain true [it] g
      = State.serveLoop 5 s0 := by
        show s0.serve = _
        unfold State.serve
        simp only [State.latchedPower_none (s := s0) h.latched, hstart, hmoves]
    _ = State.serveLoop 4 (s.serving ses it g) := by
        rw [State.serveLoop_held hheld rfl]
        exact congrArg _ hbegin
    _ = State.serveLoop 3 (x.holding w1) := by
        rw [State.serveLoop_held (w := oneWrite ses it g) rfl rfl]
        exact congrArg _ hitem
    _ = _ := by
        have hreply : (x.holding w1).serveWork ses.path w1
            = ((x.modServer fun v => { v with turn := (ses.path + 1) % 4, works := [] }).bump (ob 0x2020 0x0A)).emit (.response ses [answerItem it 0 []]) := by
          simp [State.serveWork, State.holding, hw1, oneWrite, dropFirst, Work.free, State.modServer, State.reply]
        rw [State.serveLoop_held rfl rfl, show w1.ses = ses from rfl, hreply]
        exact State.serveLoop_idle rfl _

end

/-- The object of the power-state request (R457). -/
theorem rowOf_powerRequest : rowOf (ob 0x2100 3) = some ⟨0x2100, 0x2100, 0x03, 0x03, .u 8, .wo, .int 0, .btw 1 4, .instant⟩ := by decide +kernel

/-- A power-state request that no transition delays and no condition refuses takes effect at once. -/
theorem State.serveWrite_power {s : State} {n : Nat} (ses : Session) (g : Given) (hlow : 1 ≤ n) (hhigh : n ≤ 4) (hbusy : s.powerBusy = false)
    (hallowed : s.powerRefused n = false) : s.serveWrite ses (writeItem (ob 0x2100 3) (.int n)) g = (s.doPower n, .now 0 [], 0, []) := by
  have hfits : (Ty.u 8).fits (.int n) = true := by simp [Ty.fits]; omega
  have hrng : (Rng.btw 1 4).ok (.int n) = true := by simp [Rng.ok]; omega
  have hdelivered : s.deliver ses (ob 0x2100 3) (.int n) g = (s.doPower n, .now 0 []) := by
    show s.powerCommand n = _
    rw [State.powerCommand, hbusy, hallowed]
    rfl
  rw [State.serveWrite_num s ses (ob 0x2100 3) _ (.int n) g rowOf_powerRequest (.inr rfl) (by decide) (by simp) (by simp) (Ty.decode_encode_u (w := 8) rfl hfits) hrng,
    State.writeChecked_delivers s ses (ob 0x2100 3) _ (.int n) g rfl rfl rfl rfl (.inr rfl) rfl, hdelivered]

end Sys2Proof.Machine

namespace Sys2Proof.Machine

/-! ## What the power-state requests do (R457 to R459) -/

theorem foldl_keeps {α β γ : Type} {f : α → β → α} (π : α → γ) (h : ∀ a x, π (f a x) = π a) (l : List β) (s : α) : π (l.foldl f s) = π s := by
  induction l generalizing s with
  | nil => rfl
  | cons x l ih => rw [List.foldl_cons, ih, h]

theorem State.doPower_resume (s : State) : s.doPower 2 = s.requestResume := by rw [State.doPower]

/-- Every domain's request is latched where its sequence runs (R445). -/
def State.latchAll (s : State) : State := (idxs 72).foldl (fun acc d => acc.latchRequest d) s

theorem State.latchAll_keeps {γ : Type} (π : State → γ) (h : ∀ (a : State) (d : Fin 72), π (a.latchRequest d) = π a) (s : State) : π s.latchAll = π s :=
  foldl_keeps π h (idxs 72) s

theorem State.modServer_latchAll (s : State) (f : Server → Server) : (s.modServer f).latchAll = s.latchAll.modServer f :=
  List.foldl_hom (State.modServer · f) (g₁ := fun acc d => acc.latchRequest d) (g₂ := fun acc d => acc.latchRequest d) (l := idxs 72) (init := s) fun _ _ => rfl

theorem State.latchAll_serving (s : State) (ses : Session) (it : Item) (g : Given) : (s.serving ses it g).latchAll = s.latchAll.serving ses it g :=
  State.modServer_latchAll s _

section
variable {s : State} {run : Run} (hrun : s.launch.run = some run)
include hrun

theorem State.requestIdle_eq : s.requestIdle = s.modLaunch fun l => { l with run := some { run with pauseAt := some (s.nat (ob 0x2100 4)) } } := by
  simp [State.requestIdle, State.modLaunch, hrun]

theorem State.requestResume_eq :
    s.requestResume = (s.modLaunch fun l => { l with run := some { run with resumeAt := some (s.nat (ob 0x2100 4)) } }).latchAll := by
  simp [State.requestResume, State.latchAll, State.modLaunch, hrun]

theorem State.requestIdle_serving (ses : Session) (it : Item) (g : Given) : (s.serving ses it g).requestIdle
    = (s.modLaunch fun l => { l with run := some { run with pauseAt := some (s.nat (ob 0x2100 4)) } }).serving ses it g :=
  State.requestIdle_eq (s := s.serving ses it g) hrun

theorem State.requestResume_serving (ses : Session) (it : Item) (g : Given) : (s.serving ses it g).requestResume
    = (s.modLaunch fun l => { l with run := some { run with resumeAt := some (s.nat (ob 0x2100 4)) } }).latchAll.serving ses it g := by
  rw [← State.latchAll_serving]
  exact State.requestResume_eq (s := s.serving ses it g) hrun

end

end Sys2Proof.Machine

namespace Sys2Proof

open Machine

section
variable {s : State} {ses : Session} {t : Nat} {run : Run} (h : ServerFree s ses) (hrun : s.launch.run = some run) (hbusy : (s.advance t).powerBusy = false)
include h hrun hbusy

theorem idleRequest_served (hallowed : (s.advance t).powerRefused 1 = false) :
    ServedWith (.idleRequest t ses) s ses
      (Books ((s.advance t).modLaunch fun l => { l with run := some { run with pauseAt := some (s.nat (ob 0x2100 4)) } })) := by
  refine refusedWith_of_serveWrite (g := {}) rfl (h.advance t) ?_ (Books.refl _) rfl
  rw [State.touchGroup_immediate _ ses rfl (by decide),
    State.serveWrite_power (s := (s.advance t).serving ses _ _) ses _ (by decide) (by decide) hbusy hallowed]
  exact congrArg (·, Served.now 0 [], 0, []) (State.requestIdle_serving (s := s.advance t) hrun ses _ _)

theorem resumeRequest_served (hallowed : (s.advance t).powerRefused 2 = false) :
    ServedWith (.resumeRequest t ses) s ses
      (Books ((s.advance t).modLaunch fun l => { l with run := some { run with resumeAt := some (s.nat (ob 0x2100 4)) } }).latchAll) := by
  refine refusedWith_of_serveWrite (g := {}) rfl (h.advance t) ?_ (Books.refl _) (State.latchAll_keeps State.server (fun _ _ => rfl) _)
  rw [State.touchGroup_immediate _ ses rfl (by decide),
    State.serveWrite_power (s := (s.advance t).serving ses _ _) ses _ (by decide) (by decide) hbusy hallowed]
  rw [State.doPower_resume, State.requestResume_serving (s := s.advance t) hrun]
  rfl

end

end Sys2Proof

namespace Sys2Proof

open Machine

/-! ## Standby (R459) -/

/-- What writing wear records leaves as it was: the launch, the power manager, the server, and the Crust's objects. -/
structure HeadsOnly (s u : State) : Prop where
  launch : u.launch = s.launch
  power : u.power = s.power
  server : u.server = s.server
  nat : ∀ key, ob 0x4800 0 ≤ key → u.nat key = s.nat key

namespace HeadsOnly

theorem refl (s : State) : HeadsOnly s s := ⟨rfl, rfl, rfl, fun _ _ => rfl⟩

section
variable {s u : State} (h : HeadsOnly s u)
include h

theorem trans {w : State} (hw : HeadsOnly u w) : HeadsOnly s w :=
  ⟨hw.launch.trans h.launch, hw.power.trans h.power, hw.server.trans h.server, fun key hkey => (hw.nat key hkey).trans (h.nat key hkey)⟩

theorem modHead (k : Fin 12) (f : Head → Head) : HeadsOnly s (u.modHead k f) := h.trans ⟨rfl, rfl, rfl, fun _ _ => rfl⟩

theorem emit (o : Output) : HeadsOnly s (u.emit o) := h.trans ⟨rfl, rfl, rfl, fun _ _ => rfl⟩

theorem ite {c : Prop} [Decidable c] {w : State} (hw : HeadsOnly s w) : HeadsOnly s (if c then u else w) := by
  split
  · exact h
  · exact hw

theorem fault (code : Nat) (loc : Loc) (detail part : Nat) : HeadsOnly s (u.fault code loc detail part) := by
  have hannounce := fault_announces u code loc detail part
  refine h.trans ⟨hannounce.launch, hannounce.power, State.fault_server .., fun key hkey => hannounce.nat fun hmem => ?_⟩
  have hbelow : ob 0x2384 0 < ob 0x4800 0 := by decide
  exact absurd ((countKeys_lt key hmem).trans hbelow) (Nat.not_lt.mpr hkey)

theorem judgeTrust (k : Fin 12) : HeadsOnly s (u.judgeTrust k) := (h.modHead k _).ite ((h.modHead k _).ite h)

theorem judgeLife (k : Fin 12) : HeadsOnly s (u.judgeLife k) := by
  unfold State.judgeLife
  extract_lets x life s1
  have hwarned : HeadsOnly s s1 := ((h.modHead k _).fault _ _ _ _).ite h
  exact (((hwarned.modHead k _).fault _ _ _ _).judgeTrust k).ite hwarned

theorem writeWear (k : Fin 12) : HeadsOnly s (u.writeWear k true) := (((h.emit _).modHead k _).modHead k _).judgeLife k

end

end HeadsOnly

end Sys2Proof
namespace Sys2Proof.Machine

/-- The final wear record of every head that can take one (R459). -/
def State.finalWear (s : State) : State := (idxs 12).foldl (fun acc (h : Fin 12) => if acc.headOn h && !acc.heads[h].safe then acc.writeWear h true else acc) s

theorem State.finalWear_headsOnly (s : State) : HeadsOnly s s.finalWear := by
  unfold State.finalWear
  generalize idxs 12 = l
  induction l generalizing s with
  | nil => exact .refl s
  | cons k l ih => exact (((HeadsOnly.refl s).writeWear k).ite (.refl s)).trans (ih _)

/-! The output-off state moves the motion unit alone. -/

theorem State.outputOff_keeps {γ : Type} (π : State → γ) (h : ∀ (a : State) (m : Motion), π { a with motion := m } = π a) (s : State) : π s.outputOff = π s := by
  have haxis : ∀ (a : State) (k : Fin 16), π (if (0xFFFF : BitVec 16).getLsbD k.val then a.axisOff k else a) = π a := by
    intro a k
    split
    · exact h a _
    · rfl
  have houtput : ∀ (a : State) (k : Fin 32), π (a.modOutput k fun o => { o with level := bit (s.nat (ob 0x4830 2)) k.val }) = π a := fun a _ => h a _
  have hsupply : ∀ (a : State) (k : Fin 16), π (a.supplyAction k) = π a := by
    intro a k
    unfold State.supplyAction
    split
    · exact h a _
    · rfl
  unfold State.outputOff State.axesOff
  rw [foldl_keeps π hsupply, foldl_keeps π houtput, foldl_keeps π haxis]

/-- The pattern of an axis in the output-off state (R335, R336). -/
def State.offPattern (s : State) (k : Fin 16) : Pwm := if s.nat (crustAxis k.val 8) = 1 && s.power.mainOk then .lowSidesOn else .gatesOff

theorem State.axisOff_pwm (s : State) (j k : Fin 16) (h : j = k ∨ s.motion.axes[k].pwm = s.offPattern k) : (s.axisOff j).motion.axes[k].pwm = s.offPattern k := by
  by_cases hjk : j = k
  · subst hjk
    simp [State.axisOff, State.modAxis, State.modMotion, upd, State.offPattern]
  · have hval : j.val ≠ k.val := fun e => hjk (Fin.ext e)
    simpa [State.axisOff, State.modAxis, State.modMotion, upd, hjk, hval] using h

theorem State.foldl_axisOff_pwm (l : List (Fin 16)) (s : State) (k : Fin 16) (h : k ∈ l ∨ s.motion.axes[k].pwm = s.offPattern k) :
    (l.foldl (fun acc j => acc.axisOff j) s).motion.axes[k].pwm = s.offPattern k := by
  induction l generalizing s with
  | nil => exact h.resolve_left (List.not_mem_nil)
  | cons j l ih =>
    refine ih (s.axisOff j) ?_
    by_cases hj : j = k
    · exact .inr (s.axisOff_pwm j k (.inl hj))
    · exact (h.imp_left fun hmem => (List.mem_cons.mp hmem).resolve_left (Ne.symm hj)).imp_right fun hpwm => s.axisOff_pwm j k (.inr hpwm)

theorem State.outputOff_pwm (s : State) (k : Fin 16) : s.outputOff.motion.axes[k].pwm = s.offPattern k := by
  have hall : s.axesOff 0xFFFF = (idxs 16).foldl (fun acc j => acc.axisOff j) s := by
    have hbit : ∀ j : Fin 16, (0xFFFF : BitVec 16).getLsbD j.val = true := by decide
    simp only [State.axesOff, hbit, if_true]
  have hsupply : ∀ (a : State) (j : Fin 16), (a.supplyAction j).motion.axes = a.motion.axes := by
    intro a j
    unfold State.supplyAction
    split <;> rfl
  have houtput : ∀ (a : State) (j : Fin 32), (a.modOutput j fun o => { o with level := bit (s.nat (ob 0x4830 2)) j.val }).motion.axes = a.motion.axes :=
    fun _ _ => rfl
  have haxes : s.outputOff.motion.axes = (s.axesOff 0xFFFF).motion.axes := by
    unfold State.outputOff
    rw [foldl_keeps (fun u : State => u.motion.axes) hsupply, foldl_keeps (fun u : State => u.motion.axes) houtput]
  rw [haxes, hall]
  exact State.foldl_axisOff_pwm _ s k (.inl (List.mem_finRange k))

/-- The dictionary takes the stored values; what waits for a commit is lost (R108). -/
def State.restored (s : State) : State :=
  ((s.modDict fun d => { d with
    active := d.stored.foldl (fun a e => put a e.1 e.2) (d.active.filter fun e => !writable e.1)
    cobFollows := d.storedFollows
    asm := [] }).modCommit fun c =>
    { c with owner := none, entries := [], group := none, implicit := [], instant := [], pending := [] }).modServer fun v =>
      { v with works := v.works.filter fun w => w.waits.isNone, copies := [] }

/-- The queues take their stored consumers. -/
def State.requeued (s : State) : State := (idxs 16).foldl (fun acc (q : Fin 16) => acc.modQueue q fun x => { x with consumer := acc.storedNat (ob (0x2460 + q.val) 5) }) s

/-- The launch count and the port take their stored values. -/
def State.recounted (s : State) : State := (s.modLaunch fun l => { l with count := s.storedNat (ob 0x3C00 4) }).modBasaris fun b =>
    { b with port := s.nat (ob 0x2020 2), enabled := s.flag (ob 0x2020 1), closing := false }

theorem State.loadStored_eq (s : State) : s.loadStored = s.restored.requeued.recounted := by
  rw [State.loadStored, State.recounted, State.requeued, State.restored]

theorem State.requeued_keeps {γ : Type} (π : State → γ) (h : ∀ (a : State) (f : Net → Net), π (a.modNet f) = π a) (s : State) : π s.requeued = π s := by
  have hqueue : ∀ (a : State) (q : Fin 16), π (a.modQueue q fun x => { x with consumer := a.storedNat (ob (0x2460 + q.val) 5) }) = π a := fun a _ => h a _
  exact foldl_keeps π hqueue _ s

theorem State.loadStored_keeps {γ : Type} (π : State → γ) (hnet : ∀ (a : State) (f : Net → Net), π (a.modNet f) = π a)
    (htail : ∀ a : State, π a.recounted = π a) (s : State) : π s.loadStored = π s.restored := by
  rw [State.loadStored_eq, htail, State.requeued_keeps π hnet]

section
variable (s : State)

@[simp] theorem State.loadStored_motion : s.loadStored.motion = s.motion := State.loadStored_keeps State.motion (fun _ _ => rfl) (fun _ => rfl) s

@[simp] theorem State.loadStored_power : s.loadStored.power = s.power := State.loadStored_keeps State.power (fun _ _ => rfl) (fun _ => rfl) s

@[simp] theorem State.loadStored_run : s.loadStored.launch.run = s.launch.run := State.loadStored_keeps (·.launch.run) (fun _ _ => rfl) (fun _ => rfl) s

/-- Values that wait for a commit are lost (R108). -/
@[simp] theorem State.loadStored_pending : s.loadStored.commit.pending = [] :=
  State.loadStored_keeps (·.commit.pending) (fun _ _ => rfl) (fun _ => rfl) s

@[simp] theorem State.loadStored_works : s.loadStored.server.works = s.server.works.filter fun w => w.waits.isNone :=
  State.loadStored_keeps (·.server.works) (fun _ _ => rfl) (fun _ => rfl) s

end

end Sys2Proof.Machine

namespace Sys2Proof.Machine

theorem State.endLaunch_of_none {s : State} (h : s.launch.run = none) : s.endLaunch = s := by
  rw [State.endLaunch, h]
  rfl

/-! The way into standby, step by step. -/

/-- What enters standby, before its domains shut down. -/
def State.standbyEntered (s : State) : State :=
  ((s.finalWear.modPower fun p => { p with state := .standby }).outputOff.loadStored.modKv fun _ => Kv.reset).modLaunch fun l => { l with image := none }

section
variable {s : State} (hrun : s.launch.run = none)
include hrun

theorem State.enterStandby_eq : s.enterStandby = s.standbyEntered.latchAll := by
  have hwear : s.finalWear.endLaunch = s.finalWear := State.endLaunch_of_none (by rw [s.finalWear_headsOnly.launch, hrun])
  have hunfold : s.enterStandby =
      (((s.finalWear.endLaunch.modPower fun p => { p with state := .standby }).outputOff.loadStored.modKv fun _ => Kv.reset).modLaunch
        fun l => { l with image := none }).latchAll := by
    rw [State.enterStandby, State.finalWear, State.latchAll]
  rw [hunfold, hwear, State.standbyEntered]

end

section
variable (s : State)

theorem State.standbyEntered_power : s.standbyEntered.power.state = .standby := by
  simp [State.standbyEntered, State.outputOff_keeps State.power fun _ _ => rfl]

theorem State.standbyEntered_kv : s.standbyEntered.kv = Kv.reset := by simp [State.standbyEntered]

theorem State.standbyEntered_pending : s.standbyEntered.commit.pending = [] := by simp [State.standbyEntered]

theorem State.standbyEntered_image : s.standbyEntered.launch.image = none := by simp [State.standbyEntered]

theorem State.standbyEntered_run : s.standbyEntered.launch.run = s.launch.run := by
  simp [State.standbyEntered, State.outputOff_keeps State.launch fun _ _ => rfl, s.finalWear_headsOnly.launch]

theorem State.standbyEntered_works : s.standbyEntered.server.works = s.server.works.filter fun w => w.waits.isNone := by
  simp [State.standbyEntered, State.outputOff_keeps State.server fun _ _ => rfl, s.finalWear_headsOnly.server]

/-- Every axis takes its pattern of the output-off state (R335, R336, R459). -/
theorem State.standbyEntered_pwm (k : Fin 16) : s.standbyEntered.motion.axes[k].pwm = s.offPattern k := by
  have haxis : s.finalWear.nat (crustAxis k.val 8) = s.nat (crustAxis k.val 8) := by
    refine s.finalWear_headsOnly.nat _ ?_
    show 0x4800 * 256 + 0 ≤ (0x4820 + k.val) * 256 + 8
    omega
  have hoff := (s.finalWear.modPower fun p => { p with state := .standby }).outputOff_pwm k
  simp only [State.offPattern, State.modPower_nat, State.modPower_power, haxis, s.finalWear_headsOnly.power] at hoff
  simpa only [State.standbyEntered, State.modLaunch_motion, State.modKv_motion, State.loadStored_motion, State.offPattern] using hoff

end

end Sys2Proof.Machine

namespace Sys2Proof

open Machine

/-- What a chip in standby has let go of (R108, R335, R459): the KV contexts, the values that wait for a commit, image and launch; the axes take their patterns of the output-off state, the memories stay. -/
structure InStandby (s u : State) : Prop where
  state : u.power.state = .standby
  kv : u.kv = Kv.reset
  pending : u.commit.pending = []
  image : u.launch.image = none
  run : u.launch.run = none
  mem : u.mem = s.mem
  pwm : ∀ k : Fin 16, u.motion.axes[k].pwm = s.offPattern k

theorem enterStandby_keeps {s : State} (hrun : s.launch.run = none) {γ : Type} (π : State → γ) (hπ : ∀ (a : State) (d : Fin 72), π (a.latchRequest d) = π a) :
    π s.enterStandby = π s.standbyEntered := by
  rw [State.enterStandby_eq hrun, State.latchAll_keeps π hπ]

theorem enterStandby_inStandby {s : State} (hrun : s.launch.run = none) : InStandby s s.enterStandby where
  state := (enterStandby_keeps hrun (·.power.state) fun _ _ => rfl).trans s.standbyEntered_power
  kv := (enterStandby_keeps hrun State.kv fun _ _ => rfl).trans s.standbyEntered_kv
  pending := (enterStandby_keeps hrun (·.commit.pending) fun _ _ => rfl).trans s.standbyEntered_pending
  image := (enterStandby_keeps hrun (·.launch.image) fun _ _ => rfl).trans s.standbyEntered_image
  run := (enterStandby_keeps hrun (·.launch.run) fun _ _ => rfl).trans (s.standbyEntered_run.trans hrun)
  mem := s.enterStandby_mem
  pwm k := (enterStandby_keeps hrun (fun u => u.motion.axes[k].pwm) fun _ _ => rfl).trans (s.standbyEntered_pwm k)

/-- Neither time passing nor the request held bears on what standby lets go of. -/
theorem InStandby.of_serving {s u : State} {t : Nat} {ses : Session} {it : Item} {g : Given} (h : InStandby ((s.advance t).serving ses it g) u) : InStandby s u :=
  ⟨h.state, h.kv, h.pending, h.image, h.run, h.mem, h.pwm⟩

theorem InStandby.answered {s u : State} (h : InStandby s u) (f : Server → Server) (key : Key) (o : Output) : InStandby s (((u.modServer f).bump key).emit o) :=
  ⟨h.state, h.kv, h.pending, h.image, h.run, h.mem, h.pwm⟩

end Sys2Proof

namespace Sys2Proof.Machine

/-! ## What a request for standby, or to leave it, meets (R457, R459) -/

theorem State.doPower_standby (s : State) : s.doPower 3 = s.enterStandby := by rw [State.doPower]

theorem State.doPower_leave (s : State) : s.doPower 4 = s.dieReset := by
  rw [State.doPower]
  all_goals decide

section
variable {s : State} (hrun : s.launch.run = none)
include hrun

theorem State.powerBusy_standby (hstate : s.power.state = .run) : s.powerBusy = false := by simp [State.powerBusy, hrun, hstate]

theorem State.powerRefused_standby (hstate : s.power.state = .run) (hlaunch : s.launching = false) : s.powerRefused 3 = false := by
  simp [State.powerRefused, hrun, hstate, hlaunch]

theorem State.powerBusy_leave (hready : s.domainsReady = true) : s.powerBusy = false := by simp [State.powerBusy, hrun, hready]

end

theorem State.powerRefused_leave {s : State} (hstate : s.power.state = .standby) : s.powerRefused 4 = false := by simp [State.powerRefused, hstate]

end Sys2Proof.Machine

namespace Sys2Proof

open Machine

section
variable {s : State} {ses : Session} {t n : Nat} (h : ServerFree s ses)
include h

/-- A power-state request that takes effect and keeps its own request is counted, and its answer of success leaves last. -/
theorem powerRequest_ends {c : Instr} (hexec : exec c s = .next ((s.advance t).writeNat ses (ob 0x2100 3) n)) (hlow : 1 ≤ n) (hhigh : n ≤ 4)
    (hbusy : (s.advance t).powerBusy = false) (hallowed : (s.advance t).powerRefused n = false) {z : State}
    (hdone : ((s.advance t).serving ses (writeItem (ob 0x2100 3) (.int n)) {}).doPower n = z)
    (hworks : z.server.works = [oneWrite ses (writeItem (ob 0x2100 3) (.int n)) {}]) {P : State → Prop}
    (hP : ∀ it : Item, P (((z.modServer fun v => { v with turn := (ses.path + 1) % 4, works := [] }).bump (ob 0x2020 0x0A)).emit (.response ses [answerItem it 0 []]))) :
    ServedWith c s ses P := by
  have hserve : (((s.advance t).serving ses (writeItem (ob 0x2100 3) (.int n)) {}).touchGroup ses (ob (writeItem (ob 0x2100 3) (.int n)).index (writeItem (ob 0x2100 3) (.int n)).sub)).serveWrite ses
      (writeItem (ob 0x2100 3) (.int n)) {} = (z, .now 0 [], 0, []) := by
    have hkey : ob (writeItem (ob 0x2100 3) (.int n)).index (writeItem (ob 0x2100 3) (.int n)).sub = ob 0x2100 3 := ob_parts _
    rw [hkey, State.touchGroup_immediate _ ses rfl (by decide), State.serveWrite_power (s := (s.advance t).serving ses _ _) ses _ hlow hhigh hbusy hallowed, hdone]
  exact ⟨_, hexec.trans (congrArg _ (State.request_write (h.advance t) hserve hworks)), hP _, _, rfl, List.getLast?_concat ..⟩

end

section
variable {s : State} {ses : Session} {t : Nat} (h : WritesAct s ses)
include h

theorem standbyRequest_served (hlaunch : s.launching = false) (hstate : s.power.state = .run) : ServedWith (.standbyRequest t ses) s ses (InStandby s) := by
  have hrun : ((s.advance t).serving ses (writeItem (ob 0x2100 3) (.int (3 : Nat))) {}).launch.run = none := h.run
  have hworks := (enterStandby_keeps hrun (·.server.works) fun _ _ => rfl).trans (State.standbyEntered_works _)
  refine powerRequest_ends h.toServerFree rfl (by decide) (by decide) (State.powerBusy_standby h.run hstate) (State.powerRefused_standby h.run hstate hlaunch)
    (State.doPower_standby _) hworks fun _ => ?_
  exact (enterStandby_inStandby hrun).of_serving.answered _ _ _

end

end Sys2Proof

namespace Sys2Proof

open Machine

/-! ## Out of standby (R459, R461, R473) -/

/-- What a restart of the compute die out of standby leaves: the die restarted, powered, its counters zeroed. -/
structure LeftStandby (s u : State) (now : Nat) : Prop where
  restarted : DieRestarted s u 6
  state : u.power.state = .run
  block : u.counters.block = []
  cell : u.counters.cell = []
  zeroAt : u.counters.zeroAt = now

theorem computeReset_restarts {s : State} (hrun : s.launch.run = none) (source : Nat) : DieRestarted s (s.computeReset source) source := by
  unfold State.computeReset
  rw [State.endLaunch_of_none hrun]
  exact ⟨rfl, ⟨rfl, rfl⟩, rfl, rfl, ⟨rfl, rfl⟩, ⟨fun i => by simp, fun r => by simp⟩, rfl, rfl, rfl⟩

theorem dieReset_leaves {s : State} (hrun : s.launch.run = none) (hstate : s.power.state = .standby) : LeftStandby s s.dieReset s.now := by
  obtain ⟨hlaunch, hmem, hkv, hnet, hboot, hroles, hflash⟩ := computeReset_restarts hrun 6
  have hreset : s.dieReset = (s.computeReset 6).modCounters fun c =>
      { c with region := Vector.replicate 10 (Vector.replicate 16 0), block := [], cell := [], zeroAt := s.now } := if_pos hstate
  rw [hreset]
  exact ⟨⟨hlaunch, hmem, hkv, hnet, hboot, hroles, hflash⟩, rfl, rfl, rfl, rfl⟩

theorem LeftStandby.of_serving {s u : State} {t now : Nat} {ses : Session} {it : Item} {g : Given} (h : LeftStandby ((s.advance t).serving ses it g) u now) :
    LeftStandby s u now := by
  obtain ⟨⟨hlaunch, hmem, hkv, hnet, hboot, hroles, hflash⟩, hstate, hblock, hcell, hzero⟩ := h
  exact ⟨⟨hlaunch, hmem, hkv, hnet, hboot, hroles, hflash⟩, hstate, hblock, hcell, hzero⟩

theorem LeftStandby.answered {s u : State} {now : Nat} (h : LeftStandby s u now) (f : Server → Server) (key : Key) (o : Output) :
    LeftStandby s (((u.modServer f).bump key).emit o) now := by
  obtain ⟨⟨hlaunch, hmem, hkv, hnet, hboot, hroles, hflash⟩, hstate, hblock, hcell, hzero⟩ := h
  exact ⟨⟨hlaunch, hmem, hkv, hnet, hboot, hroles, hflash⟩, hstate, hblock, hcell, hzero⟩

section
variable {s : State} {ses : Session} {t : Nat}

theorem dieReset_server (hrun : s.launch.run = none) : s.dieReset.server = s.server := by
  have hreset : (s.computeReset 6).server = s.server := by
    unfold State.computeReset
    rw [State.endLaunch_of_none hrun]
  unfold State.dieReset
  split
  · exact hreset
  · exact hreset

theorem leaveStandby_served (h : WritesAct s ses) (hstate : s.power.state = .standby) (hready : (s.advance t).domainsReady = true) :
    ServedWith (.leaveStandby t ses) s ses fun u => LeftStandby s u (s.advance t).now := by
  have hrun : ((s.advance t).serving ses (writeItem (ob 0x2100 3) (.int (4 : Nat))) {}).launch.run = none := h.run
  refine powerRequest_ends h.toServerFree rfl (by decide) (by decide) (State.powerBusy_leave h.run hready) (State.powerRefused_leave hstate)
    (State.doPower_leave _) (congrArg Server.works (dieReset_server hrun)) fun _ => ?_
  exact (dieReset_leaves hrun hstate).of_serving.answered _ _ _

end

/-! ## The readiness check before a resume (R458) -/

section
variable {s : State} {run : Run} {b : Nat} (hrun : s.launch.run = some run) (hresume : run.resumeAt = some b)
include hrun hresume

theorem checkResume_ready_or_early (h : s.domainsReady = true ∨ s.now + 10000000 < run.countOf b) : s.checkResume = s := by
  have hkept : (s.domainsReady || !decide (run.countOf b ≤ s.now + 10000000)) = true := by simpa using h
  simp [State.checkResume, hrun, hresume, hkept]

theorem checkResume_unready (hready : s.domainsReady = false) (hdue : run.countOf b ≤ s.now + 10000000) :
    s.checkResume = ((s.modLaunch fun l => { l with run := some { run with resumeAt := none } }).fault 0x100D .chip b).latchAll := by
  simp [State.checkResume, State.latchAll, State.modLaunch, hrun, hresume, hready, hdue]

end

/-- Settles O16: each request is the one write of its object, answered once what it asks for has taken effect. -/
theorem launchAndPowerStateRequests : Obligations.LaunchAndPowerStateRequests := by
  refine ⟨?launch, ?power, ?standby, ?resume⟩
  case launch =>
    intro s t count ses h hmult hcount hchecks hallowed halone
    exact ⟨launchPropose_confirmed h hmult hcount hchecks hallowed halone, launchPropose_aborted h hmult hcount hchecks hallowed⟩
  case power =>
    intro s t ses run h hrun hbusy
    exact ⟨idleRequest_served h hrun hbusy, resumeRequest_served h hrun hbusy⟩
  case standby =>
    intro s t ses h hlaunch
    constructor
    · intro hstate
      obtain ⟨u, hexec, hu, hanswer⟩ := standbyRequest_served h hlaunch hstate
      refine ⟨u, hexec, ⟨hu.state, hu.kv, hu.pending, hu.image, hu.run, hu.mem, fun k => ?_⟩, hanswer⟩
      rw [hu.pwm, State.offPattern, crustAxis]
      simp
    · intro hstate hready
      obtain ⟨u, hexec, hu, hanswer⟩ := leaveStandby_served h hstate hready
      exact ⟨u, hexec, ⟨hu.restarted, hu.state, hu.block, hu.cell, hu.zeroAt⟩, hanswer⟩
  case resume =>
    intro s t b run hrun hresume
    refine ⟨fun h => congrArg _ (checkResume_ready_or_early (s := s.advance t) hrun hresume h), fun hready hdue => ?_⟩
    have hdone := checkResume_unready (s := s.advance t) hrun hresume hready hdue
    rw [State.latchAll] at hdone
    exact congrArg Host.Outcome.next hdone

end Sys2Proof

/-!
The family of spec/04_object_dictionary_and_commit.md: the queue (O1), the EMCY inhibit time (O12), mailbox and ports (O46), the CANopen node (O45), commit groups (O13, O14), Basaris sessions (O41).
-/

namespace Sys2Proof

open Machine

/-! ## Every command completes -/

/-- Each meaning answers a next state, whatever the state is. -/
theorem exec_completes (c : Instr) (s : State) : Completes c s := by
  cases c
  all_goals exact ⟨_, rfl⟩

/-- Settles O1: a step reads the front of the queue, and every command completes (`exec_completes`). -/
theorem stepRunsTheFrontCommand : Obligations.StepRunsTheFrontCommand := by
  intro c rest s
  exact ⟨fun hpending => by rw [step, hpending], exec_completes c s⟩

end Sys2Proof

namespace Sys2Proof

open Machine

/-! ## The CANopen node's frames -/

/-- A frame of a controller that can send leaves and is counted. -/
theorem frameOn_of_sends {s : State} {c : Fin 4} (h : s.ctlSends c = true) (o : Output) : s.frameOn c o = (s.emit o).bump (ob (0x2380 + c.val) 4) := if_pos h

theorem nodeFrame_of_sends {s : State} (h : s.nodeSends = true) (o : Output) : s.nodeFrame o = (s.emit o).bump (ob (0x2380 + s.nodeCtl.val) 4) :=
  frameOn_of_sends h o

/-- The oldest waiting message leaves once the inhibit time has ended. -/
theorem inhibitEnds_sends {s : State} {m : Emcy} {rest : List Emcy} (hended : s.inhibited = false) (hqueue : s.node.queue = m :: rest) :
    s.inhibitEnds = (s.modNode fun n => { n with queue := rest }).sendEmcy m := by
  simp [State.inhibitEnds, hended, hqueue]

theorem inhibitEnds_none {s : State} (hended : s.inhibited = false) (hqueue : s.node.queue = []) :
    s.inhibitEnds = s.modNode fun n => { n with inhibit := none } := by
  simp [State.inhibitEnds, hended, hqueue]

/-- Settles O12: the queue's first message is sent (`inhibitEnds_sends`) by a node that can send. -/
theorem emcyInhibitExpirySendsTheOldest : Obligations.EmcyInhibitExpirySendsTheOldest := by
  intro t s hended
  refine ⟨fun m rest hqueue hsends => ?_, fun hqueue => congrArg Host.Outcome.next (inhibitEnds_none hended hqueue)⟩
  have hnode : ((s.advance t).modNode fun n => { n with queue := rest }).nodeSends = true := hsends
  have hframe := nodeFrame_of_sends hnode (.emcy (s.nat (ob 0x1014 0) % 2 ^ 29) m)
  exact congrArg Host.Outcome.next ((inhibitEnds_sends hended hqueue).trans (congrArg (State.modNode · _) hframe))

end Sys2Proof

namespace Sys2Proof.Machine

/-! ## A core's write of an object that is not there, in the group that it owns -/

/-- The state after the reset, but core 0 has opened the commit group at count 0 (R115). -/
def coreOwns : State := State.reset.modCommit fun c => { c with owner := some (.core 0) }

/-- The buffer of a core's request that writes `strayItem`: the type byte, three reserved bytes, the item (R135). -/
def strayBuffer : Bytes := [5, 0, 0, 0] ++ strayPayload

/-- The write keeps the group open: its idle time starts anew (R124). -/
theorem strayBuffer_active : activityAfter (.dictionaryPortDoorbell 5 0 strayBuffer 20) coreOwns = some 5 := by decide +kernel

theorem coreOwns_free : ServerFree coreOwns (.core 0) :=
  { works := rfl, latched := rfl, group := rfl, implicit := rfl, instant := rfl, owed := rfl }

end Sys2Proof.Machine

namespace Sys2Proof

open Machine

/-- Refutes O46 at its clause on a port's request for an object that is not there: where the core owns the commit group, its refused write starts the group's idle time anew (R124), so the commit does not stay as it is. -/
theorem not_mailboxAndPortServe : ¬ Obligations.MailboxAndPortServe := by
  intro h
  obtain ⟨-, hports⟩ := h
  obtain ⟨-, hmissing, -⟩ := hports coreOwns 5 0 strayBuffer 20
  obtain ⟨u, hexec, -, -, -, hcommit⟩ := hmissing strayItem (by decide) (by decide) (by decide +kernel) (by decide +kernel) (by decide +kernel) coreOwns_free
  have hactive := strayBuffer_active
  simp only [activityAfter, hexec, hcommit] at hactive
  exact absurd hactive (by decide +kernel)

end Sys2Proof

namespace Sys2Proof.Machine

/-! ## One request at the server -/

/-- A request of one item that the server has begun. -/
def heldWork (ses : Session) (reply : Reply) (write : Bool) (it : Item) (g : Given) : Work :=
  { ses := ses, reply := reply, write := write, begun := true, owed := false, items := [it], done := [], waits := none, outcome := none, given := g }

/-- A request of one item that has its answer. -/
def doneWork (ses : Session) (reply : Reply) (write : Bool) (g : Given) (r : RespItem) : Work :=
  { ses := ses, reply := reply, write := write, begun := true, owed := false, items := [], done := [r], waits := none, outcome := none, given := g }

/-- The state once a request is done: the turn passes on from its path, nothing is held, and the request is counted (R105). -/
def State.counted (s : State) (ses : Session) : State :=
  (s.modServer fun v => { v with turn := (ses.path + 1) % 4, works := [] }).bump (ob 0x2020 0x0A)

/-- The answers change neither the requests held nor the turn. -/
theorem State.nodeFrame_server (s : State) (o : Output) : (s.nodeFrame o).server = s.server := by
  unfold State.nodeFrame State.frameOn
  split <;> rfl

theorem State.sendWire_server (s : State) (o : Output) : (s.sendWire o).server = s.server := by
  unfold State.sendWire
  split <;> rfl

theorem State.reply_server (s : State) (w : Work) : (s.reply w).server = s.server := by
  unfold State.reply
  split
  case h_2 =>
    split
    · exact State.sendWire_server _ _
    · rfl
  case h_3 =>
    unfold State.answerMailbox
    dsimp only
    split <;> rfl
  case h_5 =>
    unfold State.answerSdo
    dsimp only
    split
    · exact State.nodeFrame_server _ _
    · exact State.nodeFrame_server _ _
  case h_6 => exact State.nodeFrame_server _ _
  all_goals rfl

section
variable {s : State} {ses : Session} (h : ServerFree s ses) {reply : Reply} {write : Bool} {it : Item} {g : Given}
include h

/-- A request of one item at a free server begins at once, and the server can still move four times. -/
theorem State.request_begins : s.request ses reply write [it] g = State.serveLoop 4 (s.holding (heldWork ses reply write it g)) := by
  set w0 : Work := { heldWork ses reply write it g with begun := false } with hw0
  set s0 := s.modServer fun v => { v with works := v.works ++ [w0] } with hs0
  have hheld : s0.server.works = [w0] := by simp [hs0, h.works]
  have hstart : s0.startCommits = s0 := State.startCommits_free s0 h.group h.implicit h.instant
  have hmoves : s0.serverMoves = 5 := by simp [State.serverMoves, hheld, hw0, heldWork]
  have howed : ses ∉ s.dict.owed := by simpa using h.owed
  have hbegin : s0.serveWork ses.path w0 = s.holding (heldWork ses reply write it g) := by
    simp [State.serveWork, State.beginWork, State.modWork, State.holding, hw0, heldWork, h.works, modFirst, Work.free, State.modServer, State.modDict, hs0, howed]
  calc s.request ses reply write [it] g
      = State.serveLoop 5 s0 := by
        show s0.serve = _
        unfold State.serve
        simp only [State.latchedPower_none (s := s0) h.latched, hstart, hmoves]
    _ = State.serveLoop 4 (s.holding (heldWork ses reply write it g)) := by
        rw [State.serveLoop_held hheld rfl]
        exact congrArg _ hbegin

/-- A request of one item whose serving leaves it as the only one held, with its answer: the request is counted, and answered in the way it came. -/
theorem State.request_answered {x : State} {r : RespItem}
    (hitem : (s.holding (heldWork ses reply write it g)).serveItem ses.path (heldWork ses reply write it g) it [] = x.holding (doneWork ses reply write g r)) :
    s.request ses reply write [it] g = (x.counted ses).reply (doneWork ses reply write g r) := by
  have hreply : (x.holding (doneWork ses reply write g r)).serveWork ses.path (doneWork ses reply write g r) = (x.counted ses).reply (doneWork ses reply write g r) := by
    simp [State.serveWork, State.holding, doneWork, dropFirst, Work.free, State.modServer, State.counted]
  have hidle : ((x.counted ses).reply (doneWork ses reply write g r)).server.works = [] := by
    rw [State.reply_server]
    rfl
  rw [State.request_begins h, State.serveLoop_held rfl rfl]
  refine (congrArg _ hitem).trans ?_
  rw [State.serveLoop_held rfl rfl]
  exact (congrArg _ hreply).trans (State.serveLoop_idle hidle 2)

/-- One read item. -/
theorem State.request_reads {x : State} {code : Nat} {data : Bytes}
    (hread : (s.holding (heldWork ses reply false it g)).serveRead ses it = (x.holding (heldWork ses reply false it g), code, data)) :
    s.request ses reply false [it] g = (x.counted ses).reply (doneWork ses reply false g (answerItem it code data)) := by
  refine State.request_answered h ?_
  have hover : (x.holding (heldWork ses reply false it g)).modWork ses.path ses.path (fun w => { w with items := [], done := w.done ++ [answerItem it code data] })
      = x.holding (doneWork ses reply false g (answerItem it code data)) := by
    simp [State.modWork, State.modServer, State.holding, heldWork, doneWork, modFirst, Work.free]
  rw [← hover]
  show (let r := (s.holding (heldWork ses reply false it g)).serveRead ses it
    r.1.modWork ses.path ses.path fun w => { w with items := [], done := w.done ++ [answerItem it r.2.1 r.2.2] }) = _
  rw [hread]

/-- One write item that is answered at once. -/
theorem State.request_writes {x : State} {code rcode : Nat} {data rdata : Bytes}
    (hserve : ((s.touchGroup ses (ob it.index it.sub)).holding (heldWork ses reply true it g)).serveWrite ses it g
      = (x.holding (heldWork ses reply true it g), .now code data, rcode, rdata)) :
    s.request ses reply true [it] g
      = (x.counted ses).reply (doneWork ses reply true g (if code = 0 then answerItem it rcode rdata else answerItem it code data)) := by
  refine State.request_answered h ?_
  have htouch : (s.holding (heldWork ses reply true it g)).touchGroup ses (ob it.index it.sub) = (s.touchGroup ses (ob it.index it.sub)).holding (heldWork ses reply true it g) := by
    unfold State.touchGroup State.holding
    rw [apply_ite (State.modServer · _)]
    rfl
  have hover : ∀ r : RespItem, (x.holding (heldWork ses reply true it g)).modWork ses.path ses.path (fun w => { w with items := [], done := w.done ++ [r] })
      = x.holding (doneWork ses reply true g r) := by
    intro r
    simp [State.modWork, State.modServer, State.holding, heldWork, doneWork, modFirst, Work.free]
  rw [← hover]
  unfold State.serveItem
  rw [show (heldWork ses reply true it g).ses = ses from rfl, show (heldWork ses reply true it g).given = g from rfl, htouch]
  simp only [hserve]
  rfl

end

end Sys2Proof.Machine

namespace Sys2Proof.Machine

/-! ## Reads and writes of one item -/

section
variable (s : State) (ses : Session) {it : Item} {key : Key} {r : Row}

theorem State.serveRead_missing (hrow : rowOf (ob it.index it.sub) = none) : s.serveRead ses it = (s, missingCode (ob it.index it.sub), []) := by
  simp only [State.serveRead, hrow]

theorem State.serveWrite_missing_item (g : Given) (hrow : rowOf (ob it.index it.sub) = none) :
    s.serveWrite ses it g = (s, .now (missingCode (ob it.index it.sub)) [], 0, []) := by
  simp only [State.serveWrite, hrow]

/-- No other state holds the value of a quiet object. -/
theorem State.view_quiet (hquiet : key ∈ quietKeys) : s.view key = s.obj key := by
  rcases quietKeys_cases hquiet with rfl | rfl | rfl | rfl <;> rfl

theorem State.serveRead_quiet (hkey : ob it.index it.sub = key) (hquiet : key ∈ quietKeys) (hrow : rowOf key = some r) (hstaged : it.staged = false)
    (hoffset : it.offset = 0) (hlength : r.ty.size ≤ it.length) : s.serveRead ses it = (s, 0, r.ty.encode (s.obj key)) := by
  obtain ⟨hacc, w, hty, -⟩ := row_plain (mem_plainKeys_of_quiet hquiet) hrow
  have hread : s.readValue key r it.staged = s.obj key := by simp [State.readValue, hacc, hstaged, s.view_quiet hquiet]
  have hfits : ¬ (it.offset ≠ 0 ∨ it.length < r.ty.size) := by omega
  simp only [State.serveRead, hkey, hrow, hread]
  rw [hty] at hfits ⊢
  simp only [if_neg hfits]

end

section
variable {s : State} {ses : Session} {reply : Reply} {it : Item} {g : Given} {key : Key} {r : Row} {v : Val}

theorem State.request_read_missing (h : ServerFree s ses) (hrow : rowOf (ob it.index it.sub) = none) :
    s.request ses reply false [it] g = (s.counted ses).reply (doneWork ses reply false g (answerItem it (missingCode (ob it.index it.sub)) [])) :=
  State.request_reads h (State.serveRead_missing _ ses hrow)

theorem State.request_read_quiet (h : ServerFree s ses) (hkey : ob it.index it.sub = key) (hquiet : key ∈ quietKeys) (hrow : rowOf key = some r)
    (hstaged : it.staged = false) (hoffset : it.offset = 0) (hlength : r.ty.size ≤ it.length) :
    s.request ses reply false [it] g = (s.counted ses).reply (doneWork ses reply false g (answerItem it 0 (r.ty.encode (s.obj key)))) :=
  State.request_reads h (State.serveRead_quiet _ ses hkey hquiet hrow hstaged hoffset hlength)

theorem State.request_write_missing (h : ServerFree s ses) (hrow : rowOf (ob it.index it.sub) = none) :
    s.request ses reply true [it] g = ((s.touchGroup ses (ob it.index it.sub)).counted ses).reply
      (doneWork ses reply true g (answerItem it (missingCode (ob it.index it.sub)) [])) := by
  have hsome : missingCode (ob it.index it.sub) ≠ 0 := by
    unfold missingCode
    split <;> decide
  rw [State.request_writes h (State.serveWrite_missing_item _ ses g hrow), if_neg hsome]

/-- A quiet object's value takes effect at once where writes act. -/
theorem State.request_write_quiet (h : WritesAct s ses) (hquiet : key ∈ quietKeys) (hrow : rowOf key = some r) (hfits : r.ty.fits v = true)
    (hrng : r.rng.ok v = true) :
    s.request ses reply true [writeItem key v] g = ((s.committed.setObj key v).counted ses).reply (doneWork ses reply true g (answerItem (writeItem key v) 0 [])) := by
  have hkey : ob (writeItem key v).index (writeItem key v).sub = key := ob_parts key
  have htouch : s.touchGroup ses key = s := State.touchGroup_of_not_owner (by rw [h.owner]; exact nofun) key
  refine (State.request_writes h.toServerFree (x := s.committed.setObj key v) (code := 0) (data := []) (rcode := 0) (rdata := []) ?_).trans rfl
  rw [hkey, htouch, State.serveWrite_plain _ ses v _ (mem_plainKeys_of_quiet hquiet) hrow hfits hrng (.inl (by simp [State.stagedElsewhere, State.holding, h.owner])),
    State.deliver_quiet (s := s.holding (heldWork ses reply true (writeItem key v) g)) hquiet h.owner h.group h.implicit h.run]
  rfl

end

end Sys2Proof.Machine

namespace Sys2Proof

open Machine

/-! ## What a done request leaves -/

theorem Books.counted {s : State} (hworks : s.server.works = []) (ses : Session) : Books s (s.counted ses) := by
  have hserver : (s.counted ses).server = { s.server with turn := (s.counted ses).server.turn } := by
    show ({ s.server with turn := (ses.path + 1) % 4, works := [] } : Server) = { s.server with turn := (ses.path + 1) % 4 }
    rw [← hworks]
  refine ⟨?_, fun k hk => State.obj_bump_other (s.modServer _) 1 fun h => hk (by simp [h])⟩
  rw [← hserver]
  rfl

theorem Books.nodeCtl {s u : State} (h : Books s u) : u.nodeCtl = s.nodeCtl := by
  unfold State.nodeCtl
  rw [h.nat (by decide)]

theorem Books.nodeSends {s u : State} (h : Books s u) : u.nodeSends = s.nodeSends := by
  have henable : ∀ c : Fin 4, ob (0x2310 + c.val) 1 ∉ [ob 0x2020 0x0A, ob 0x2010 0x0A, ob 0x2010 0x0B] := by decide
  unfold State.nodeSends State.ctlSends
  rw [h.nodeCtl, h.flag (henable _), h.can]

/-- The counts of frames sent and of requests served are no quiet objects. -/
theorem obj_nodeFrame_quiet {key : Key} (hquiet : key ∈ quietKeys) (s : State) (o : Output) : (s.nodeFrame o).obj key = s.obj key := by
  have hcount : ∀ k ∈ quietKeys, k ∉ [ob 0x2020 9, ob 0x2300 3, ob 0x2380 4, ob 0x2381 4, ob 0x2382 4, ob 0x2383 4] := by decide
  exact (Tells.nodeFrame s o).announces.2 key (hcount key hquiet)

/-- What a frame of the node leaves as it was. -/
structure NodeSent (s u : State) : Prop where
  mem : u.mem = s.mem
  launch : u.launch = s.launch
  commit : u.commit = s.commit
  node : u.node = s.node

theorem nodeFrame_sent (s : State) (o : Output) : NodeSent s (s.nodeFrame o) := by
  unfold State.nodeFrame State.frameOn
  split <;> exact ⟨rfl, rfl, rfl, rfl⟩

theorem nodeFrame_outbox {s : State} (h : s.nodeSends = true) (o : Output) : (s.nodeFrame o).outbox = s.outbox ++ [o] := by
  rw [nodeFrame_of_sends h]
  rfl

/-! ## Requests that the CANopen node hears (R111) -/

/-- The node has taken its request from the receive FIFO. -/
def Machine.State.nodeTook (s : State) (ctl : Fin 4) : State := s.takeFrame ctl (0x600 + s.nodeId)

theorem takeFrame_ctlSends (s : State) (ctl c : Fin 4) (ident : Nat) : (s.takeFrame ctl ident).ctlSends c = s.ctlSends c := by
  have hcan : (s.takeFrame ctl ident).can[c].mode = s.can[c].mode ∧ (s.takeFrame ctl ident).can[c].state = s.can[c].state := by
    by_cases hc : ctl = c
    · subst hc
      simp [State.takeFrame, State.modCan, upd]
    · have hval : ctl.val ≠ c.val := fun h => hc (Fin.ext h)
      simp [State.takeFrame, State.modCan, upd, hval]
  unfold State.ctlSends
  rw [hcan.1, hcan.2]
  rfl

theorem takeFrame_nodeSends (s : State) (ctl : Fin 4) (ident : Nat) : (s.takeFrame ctl ident).nodeSends = s.nodeSends := takeFrame_ctlSends ..

section
variable {s : State} {ctl : Fin 4}

theorem sdo_deaf (h : s.nodeHears ctl 0 = false) (req : SdoReq) : s.sdo ctl req = s := by simp [State.sdo, h]

theorem usdo_deaf (h : s.nodeHears ctl 1 = false) (req : UsdoReq) : s.usdo ctl req = s := by simp [State.usdo, h]

/-- The answer of a node that can send, while it runs or ends a transfer. -/
theorem setSdo_nodeFrame (h : s.nodeSends = true) (x : Option SdoXfer) (o : Output) :
    ((s.nodeTook ctl).setSdo x).nodeFrame o = (((s.nodeTook ctl).setSdo x).emit o).bump (ob (0x2380 + s.nodeCtl.val) 4) := by
  have hsends : ((s.nodeTook ctl).setSdo x).nodeSends = true := (takeFrame_nodeSends s ctl _).trans h
  exact nodeFrame_of_sends hsends o

section
variable (hears : s.nodeHears ctl 0 = true)
include hears

theorem sdo_abort : s.sdo ctl .abort = (s.nodeTook ctl).setSdo none := by
  simp [State.sdo, hears, State.nodeTook]

theorem sdo_blockTransfer : s.sdo ctl .blockTransfer = ((s.nodeTook ctl).setSdo none).nodeFrame (.sdo (0x580 + s.nodeId) 0 0 0x08000022 []) := by
  simp [State.sdo, hears, State.nodeTook]

theorem sdo_downloadInit (index sub size : Nat) : s.sdo ctl (.downloadInit index sub size)
    = ((s.nodeTook ctl).setSdo (some ⟨ob index sub, false, [], size, false, s.now⟩)).nodeFrame (.sdo (0x580 + s.nodeId) index sub 0 []) := by
  simp [State.sdo, hears, State.nodeTook]

/-- A segment in toggle order that is not the last of a download. -/
theorem sdo_downloadSegment {x : SdoXfer} (hx : s.node.sdo = some x) (hdown : x.upload = false) (data : Bytes) : s.sdo ctl (.downloadSegment x.toggle data false)
    = ((s.nodeTook ctl).setSdo (some { x with data := x.data ++ data, toggle := !x.toggle, since := s.now })).nodeFrame
        (.sdo (0x580 + s.nodeId) (x.key / 256) (x.key % 256) 0 []) := by
  have htook : (s.nodeTook ctl).node.sdo = some x := hx
  have hsdo : s.sdo ctl (.downloadSegment x.toggle data false) = (s.nodeTook ctl).sdoDownload x.toggle data false := by simp [State.sdo, hears, State.nodeTook]
  rw [hsdo, State.sdoDownload, htook]
  simp [hdown]
  rfl

/-- A segment in toggle order that is not the last of an upload. -/
theorem sdo_uploadSegment {x : SdoXfer} (hx : s.node.sdo = some x) (hup : x.upload = true) (hmore : x.sent + 7 < x.data.length) :
    s.sdo ctl (.uploadSegment x.toggle) = ((s.nodeTook ctl).setSdo (some { x with sent := x.sent + 7, toggle := !x.toggle, since := s.now })).nodeFrame
        (.sdo (0x580 + s.nodeId) (x.key / 256) (x.key % 256) 0 ((x.data.drop x.sent).take 7)) := by
  have htook : (s.nodeTook ctl).node.sdo = some x := hx
  have hsdo : s.sdo ctl (.uploadSegment x.toggle) = (s.nodeTook ctl).sdoUpload x.toggle := by simp [State.sdo, hears, State.nodeTook]
  rw [hsdo, State.sdoUpload, htook]
  simp [hup, Nat.not_le.mpr hmore]
  rfl

end

end

end Sys2Proof

namespace Sys2Proof.Machine

/-! ## What writing a value, and counting a request, leave as they were -/

section
variable (s : State) (key : Key) (v : Val)

@[simp] theorem State.setObj_outbox : (s.setObj key v).outbox = s.outbox := rfl
@[simp] theorem State.setObj_launch : (s.setObj key v).launch = s.launch := rfl
@[simp] theorem State.setObj_commit : (s.setObj key v).commit = s.commit := rfl
@[simp] theorem State.setObj_server : (s.setObj key v).server = s.server := rfl
@[simp] theorem State.setObj_can : (s.setObj key v).can = s.can := rfl

end

section
variable (s : State) (key : Key) (n : Nat)

@[simp] theorem State.bump_outbox : (s.bump key n).outbox = s.outbox := rfl
@[simp] theorem State.bump_launch : (s.bump key n).launch = s.launch := rfl
@[simp] theorem State.bump_commit : (s.bump key n).commit = s.commit := rfl
@[simp] theorem State.bump_server : (s.bump key n).server = s.server := rfl

end

section
variable (s : State) (ses : Session)

@[simp] theorem State.counted_outbox : (s.counted ses).outbox = s.outbox := by simp [State.counted]
@[simp] theorem State.counted_mem : (s.counted ses).mem = s.mem := by simp [State.counted]
@[simp] theorem State.counted_launch : (s.counted ses).launch = s.launch := by simp [State.counted]
@[simp] theorem State.counted_commit : (s.counted ses).commit = s.commit := by simp [State.counted]

@[simp] theorem State.committed_outbox : s.committed.outbox = s.outbox := by simp [State.committed, State.recordOutcome, State.settle, State.takeIdent]
@[simp] theorem State.committed_mem : s.committed.mem = s.mem := by simp [State.committed, State.recordOutcome, State.settle, State.takeIdent]
@[simp] theorem State.committed_launch : s.committed.launch = s.launch := by simp [State.committed, State.recordOutcome, State.settle, State.takeIdent]

end

end Sys2Proof.Machine

namespace Sys2Proof

open Machine

/-! ## Items that the node's services answer (R111, R137) -/

theorem Books.nodeId {s u : State} (h : Books s u) : u.nodeId = s.nodeId := h.nat (by decide)

/-- A refused write's only trace in the commit control is the count of the group's last activity (R124). -/
theorem touchGroup_eq (s : State) (ses : Session) (key : Key) : ∃ n : Nat, s.touchGroup ses key = s.modCommit fun c => { c with lastActivity := n } := by
  unfold State.touchGroup
  split
  · exact ⟨s.now, rfl⟩
  · exact ⟨s.commit.lastActivity, rfl⟩

/-- The counts of requests served and of commits are no quiet objects. -/
theorem Books.obj_quiet {s u : State} (h : Books s u) {key : Key} (hquiet : key ∈ quietKeys) : u.obj key = s.obj key := by
  have hcount : ∀ k ∈ quietKeys, k ∉ [ob 0x2020 0x0A, ob 0x2010 0x0A, ob 0x2010 0x0B] := by decide
  exact h.2 key (hcount key hquiet)

/-- `u` is where the node has answered with a frame what left the state `x`. -/
structure NodeAnswers (x u : State) (index sub code : Nat) (data : Bytes) : Prop where
  outbox : u.outbox = x.outbox ++ [.sdo (0x580 + x.nodeId) index sub code data]
  mem : u.mem = x.mem
  launch : u.launch = x.launch
  commit : u.commit = x.commit
  quiet : ∀ key ∈ quietKeys, u.obj key = x.obj key

/-- A done request is counted, and the node answers it. -/
theorem counted_answers {x : State} (hworks : x.server.works = []) (hsends : x.nodeSends = true) (ses : Session) (index sub code : Nat) (data : Bytes) :
    NodeAnswers x ((x.counted ses).nodeFrame (.sdo (0x580 + (x.counted ses).nodeId) index sub code data)) index sub code data := by
  have hbooks := Books.counted hworks ses
  obtain ⟨hmem, hlaunch, hcommit, -⟩ := nodeFrame_sent (x.counted ses) (.sdo (0x580 + (x.counted ses).nodeId) index sub code data)
  refine ⟨?_, by rw [hmem, State.counted_mem], by rw [hlaunch, State.counted_launch], by rw [hcommit, State.counted_commit],
    fun key hquiet => (obj_nodeFrame_quiet hquiet _ _).trans (hbooks.obj_quiet hquiet)⟩
  rw [nodeFrame_outbox (hbooks.nodeSends.trans hsends), hbooks.nodeId, State.counted_outbox]

section
variable (s : State) (ses : Session) (index sub : Nat) (write : Bool) (g : Given) (r : RespItem)

theorem reply_sdo_empty (hdata : r.data = []) : s.reply (doneWork ses (.sdo index sub) write g r) = s.nodeFrame (.sdo (0x580 + s.nodeId) index sub r.code []) := by
  simp [State.reply, doneWork, State.answerSdo, hdata]

theorem reply_usdo : s.reply (doneWork ses (.usdo index sub) write g r) = s.nodeFrame (.sdo (0x580 + s.nodeId) index sub r.code r.data) := rfl

theorem reply_rpdo : s.reply (doneWork ses .rpdo write g r) = s := rfl

end

section
variable {x : State} {ses : Session} {it : Item} {g : Given} {index sub : Nat} {key : Key} {r : Row}

/-- The answers to an item that names no object. -/
theorem read_missing_answers (h : ServerFree x ses) (hsends : x.nodeSends = true) (hrow : rowOf (ob it.index it.sub) = none) :
    NodeAnswers x (x.request ses (.sdo index sub) false [it] g) index sub (missingCode (ob it.index it.sub)) [] := by
  rw [State.request_read_missing h hrow, reply_sdo_empty _ _ _ _ _ _ _ rfl]
  exact counted_answers h.works hsends ses index sub _ []

theorem write_missing_answers (h : ServerFree x ses) (hsends : x.nodeSends = true) (hrow : rowOf (ob it.index it.sub) = none) :
    ∃ n : Nat, NodeAnswers (x.modCommit fun c => { c with lastActivity := n }) (x.request ses (.sdo index sub) true [it] g) index sub
      (missingCode (ob it.index it.sub)) [] := by
  obtain ⟨n, htouch⟩ := touchGroup_eq x ses (ob it.index it.sub)
  rw [State.request_write_missing h hrow, htouch, reply_sdo_empty _ _ _ _ _ _ _ rfl]
  exact ⟨n, counted_answers (x := x.modCommit _) h.works hsends ses index sub _ []⟩

theorem read_quiet_answers (h : ServerFree x ses) (hsends : x.nodeSends = true) (hkey : ob it.index it.sub = key) (hquiet : key ∈ quietKeys)
    (hrow : rowOf key = some r) (hstaged : it.staged = false) (hoffset : it.offset = 0) (hlength : r.ty.size ≤ it.length) :
    NodeAnswers x (x.request ses (.usdo index sub) false [it] g) index sub 0 (r.ty.encode (x.obj key)) := by
  rw [State.request_read_quiet h hkey hquiet hrow hstaged hoffset hlength, reply_usdo]
  exact counted_answers h.works hsends ses index sub 0 _

end

/-- What the node sends does not depend on a quiet object. -/
theorem setObj_quiet_node {key : Key} (hquiet : key ∈ quietKeys) (x : State) (v : Val) :
    (x.setObj key v).nodeSends = x.nodeSends ∧ (x.setObj key v).nodeId = x.nodeId := by
  have hnat : ∀ k, k ∉ quietKeys → (x.setObj key v).nat k = x.nat k := fun k hk => by
    have hne : k ≠ key := fun h => hk (h ▸ hquiet)
    simp only [State.nat, State.int, State.obj_setObj_other x v hne]
  have henable : ∀ c : Fin 4, ob (0x2310 + c.val) 1 ∉ quietKeys := by decide
  have hctl : (x.setObj key v).nodeCtl = x.nodeCtl := by rw [State.nodeCtl, hnat _ (by decide), State.nodeCtl]
  refine ⟨?_, hnat _ (by decide)⟩
  unfold State.nodeSends State.ctlSends State.flag
  rw [hctl, hnat _ (henable _), State.setObj_can]

section
variable {x : State} {ses : Session} {g : Given} {index sub : Nat} {key : Key} {r : Row} {v : Val} (h : WritesAct x ses) (hquiet : key ∈ quietKeys)
  (hrow : rowOf key = some r) (hfits : r.ty.fits v = true) (hrng : r.rng.ok v = true)

include h in
/-- The state in which such a write has its effect holds no request. -/
theorem committed_setObj_works : (x.committed.setObj key v).server.works = [] := by
  rw [State.setObj_server, State.committed, State.recordOutcome_server (s := x.takeIdent) h.works]
  exact h.works

include h in
theorem committed_setObj_books : Books (x.setObj key v) (x.committed.setObj key v) := (Books.committed h.works 0 0).setObj key v

include h hquiet hrow hfits hrng

/-- A quiet object's write over USDO is answered, and its value is active. -/
theorem write_quiet_answers (hsends : x.nodeSends = true) :
    let u := x.request ses (.usdo index sub) true [writeItem key v] g
    u.outbox = x.outbox ++ [.sdo (0x580 + x.nodeId) index sub 0 []] ∧ u.obj key = (x.setObj key v).obj key ∧ u.mem = x.mem ∧ u.launch = x.launch := by
  have hbooks := committed_setObj_books (key := key) (v := v) h
  obtain ⟨hnode, hid⟩ := setObj_quiet_node hquiet x v
  obtain ⟨hout, hmem, hlaunch, -, hobj⟩ := counted_answers (committed_setObj_works h) (hbooks.nodeSends.trans (hnode.trans hsends)) ses index sub 0 []
  rw [hbooks.nodeId, hid, State.setObj_outbox, State.committed_outbox] at hout
  rw [State.setObj_mem, State.committed_mem] at hmem
  rw [State.setObj_launch, State.committed_launch] at hlaunch
  rw [State.request_write_quiet h hquiet hrow hfits hrng, reply_usdo]
  exact ⟨hout, (hobj key hquiet).trans (hbooks.obj_quiet hquiet), hmem, hlaunch⟩

/-- A received PDO that maps one quiet object sets its value, and nothing answers. -/
theorem write_quiet_silent :
    let u := x.request ses .rpdo true [writeItem key v] g
    u.obj key = (x.setObj key v).obj key ∧ u.mem = x.mem ∧ u.launch = x.launch ∧ u.outbox = x.outbox := by
  have hdone := (committed_setObj_books (key := key) (v := v) h).trans (Books.counted (committed_setObj_works h) ses)
  rw [State.request_write_quiet h hquiet hrow hfits hrng, reply_rpdo]
  exact ⟨hdone.obj_quiet hquiet, by simp, by simp, by simp⟩

end

end Sys2Proof

namespace Sys2Proof

open Machine

section
variable {s : State} (t : Nat) (ctl : Fin 4)

theorem ServerFree.nodeTook {ses : Session} (h : ServerFree s ses) : ServerFree ((s.advance t).nodeTook ctl) ses :=
  ⟨h.works, h.latched, h.group, h.implicit, h.instant, h.owed⟩

theorem ServerFree.setSdo {ses : Session} (h : ServerFree s ses) (x : Option SdoXfer) : ServerFree (s.setSdo x) ses :=
  ⟨h.works, h.latched, h.group, h.implicit, h.instant, h.owed⟩

theorem WritesAct.takeFrame {ses : Session} (h : WritesAct s ses) (ident : Nat) : WritesAct ((s.advance t).takeFrame ctl ident) ses :=
  ⟨⟨h.works, h.latched, h.group, h.implicit, h.instant, h.owed⟩, h.owner, h.run⟩

theorem nodeTook_nodeSends (h : s.nodeSends = true) : ((s.advance t).nodeTook ctl).nodeSends = true := (takeFrame_nodeSends (s.advance t) ctl _).trans h

end

section
variable {s : State} {t : Nat} {ctl : Fin 4}

/-! ### SDO -/

section
variable (hears : s.nodeHears ctl 0 = true) (hsends : s.nodeSends = true) (hfree : ServerFree s (.can s.nodeId)) {index sub : Nat}
  (hrow : rowOf (ob index sub) = none)
include hears hsends hfree hrow

theorem uploadInit_missing : Ends (.sdoRequest t ctl (.uploadInit index sub)) s fun u =>
    u.outbox = s.outbox ++ [.sdo (0x580 + s.nodeId) index sub (missingCode (ob index sub)) []] ∧ u.mem = s.mem ∧ u.launch = s.launch := by
  have hheard : (s.advance t).nodeHears ctl 0 = true := hears
  have hanswers := read_missing_answers (it := { index := index, sub := sub, offset := 0, length := 2 ^ 32 - 1, staged := false, final := false, data := [] })
    (g := {}) (index := index) (sub := sub) ((hfree.nodeTook t ctl).setSdo none) (nodeTook_nodeSends t ctl hsends) hrow
  refine ⟨_, ?_, hanswers.outbox, hanswers.mem, hanswers.launch⟩
  show Host.Outcome.next ((s.advance t).sdo ctl _) = _
  rw [State.sdo, hheard]
  rfl

theorem downloadExpedited_missing (data : Bytes) : Ends (.sdoRequest t ctl (.downloadExpedited index sub data)) s fun u =>
    u.outbox = s.outbox ++ [.sdo (0x580 + s.nodeId) index sub (missingCode (ob index sub)) []] ∧ u.mem = s.mem ∧ u.launch = s.launch := by
  have hheard : (s.advance t).nodeHears ctl 0 = true := hears
  obtain ⟨n, hanswers⟩ := write_missing_answers (it := { index := index, sub := sub, offset := 0, length := data.length, staged := false, final := true, data := data })
    (g := {}) (index := index) (sub := sub) ((hfree.nodeTook t ctl).setSdo none) (nodeTook_nodeSends t ctl hsends) hrow
  refine ⟨_, ?_, hanswers.outbox, hanswers.mem, hanswers.launch⟩
  show Host.Outcome.next ((s.advance t).sdo ctl _) = _
  rw [State.sdo, hheard]
  rfl

end

/-! ### USDO -/

section
variable (hears : s.nodeHears ctl 1 = true) (hsends : s.nodeSends = true) {key : Key} {r : Row} (hquiet : key ∈ quietKeys) (hrow : rowOf key = some r)
include hears hsends hquiet hrow

theorem usdo_reads (hfree : ServerFree s (.can s.nodeId)) : Ends (.usdoRequest t ctl (.read (key / 256) (key % 256))) s fun u =>
    u.outbox = s.outbox ++ [.sdo (0x580 + s.nodeId) (key / 256) (key % 256) 0 (r.ty.encode (s.obj key))] ∧ u.mem = s.mem ∧ u.launch = s.launch
      ∧ u.commit = s.commit := by
  have hheard : (s.advance t).nodeHears ctl 1 = true := hears
  have hlength : ∀ k ∈ quietKeys, (rowOf k).all fun r => decide (r.ty.size ≤ 2 ^ 32 - 1) := by decide
  have hfits : r.ty.size ≤ 2 ^ 32 - 1 := by simpa [hrow] using hlength key hquiet
  have hanswers := read_quiet_answers (it := { index := key / 256, sub := key % 256, offset := 0, length := 2 ^ 32 - 1, staged := false, final := false, data := [] })
    (g := {}) (index := key / 256) (sub := key % 256) (hfree.nodeTook t ctl) (nodeTook_nodeSends t ctl hsends) (ob_parts key) hquiet hrow rfl rfl hfits
  refine ⟨_, ?_, hanswers.outbox, hanswers.mem, hanswers.launch, hanswers.commit⟩
  show Host.Outcome.next ((s.advance t).usdo ctl _) = _
  rw [State.usdo, hheard]
  rfl

theorem usdo_writes {v : Val} (hfits : r.ty.fits v = true) (hrng : r.rng.ok v = true) (h : WritesAct s (.can s.nodeId)) :
    Ends (.usdoRequest t ctl (.write (key / 256) (key % 256) (r.ty.encode v))) s fun u =>
      u.outbox = s.outbox ++ [.sdo (0x580 + s.nodeId) (key / 256) (key % 256) 0 []]
        ∧ u.obj key = ((s.advance t).setObj key v).obj key ∧ u.mem = s.mem ∧ u.launch = s.launch := by
  have hheard : (s.advance t).nodeHears ctl 1 = true := hears
  have hitem : writeItem key v = { index := key / 256, sub := key % 256, offset := 0, length := (r.ty.encode v).length, staged := false, final := true, data := r.ty.encode v } := by
    simp [writeItem, hrow]
  obtain ⟨hout, hobj, hmem, hlaunch⟩ := write_quiet_answers (g := {}) (index := key / 256) (sub := key % 256) (h.takeFrame t ctl _) hquiet hrow hfits hrng
    (nodeTook_nodeSends t ctl hsends)
  refine ⟨_, ?_, hout, hobj, hmem, hlaunch⟩
  show Host.Outcome.next ((s.advance t).usdo ctl _) = _
  rw [State.usdo, hheard, hitem]
  rfl

end

/-! ### A transfer that stalls, NMT, heartbeats -/

theorem sdoStalls_ends {x : SdoXfer} (hx : s.node.sdo = some x) (hsends : s.nodeSends = true) : s.sdoStalls
    = ((s.setSdo none).emit (.sdo (0x580 + s.nodeId) (x.key / 256) (x.key % 256) 0x05040000 [])).bump (ob (0x2380 + s.nodeCtl.val) 4) := by
  have hfree : (s.setSdo none).nodeSends = true := hsends
  rw [State.sdoStalls, hx]
  exact nodeFrame_of_sends hfree _

theorem nmt_other {node : Nat} (h : s.nodeCtl ≠ ctl ∨ s.canLive ctl = false ∨ (node ≠ 0 ∧ node ≠ s.nodeId)) (cmd : NmtCmd) : s.nmtAct ctl node cmd = s :=
  if_pos (by simpa using h)

/-- The node once it has been started anew (R111). -/
def Machine.State.nodeAnew (s : State) (ctl : Fin 4) : State :=
  (s.takeFrame ctl 0).modNode fun n => { n with nmt := .preOperational, sdo := none, heartbeatAt := s.now }

/-- Its boot-up message leaves. -/
def Machine.State.nodeRestarts (s : State) (ctl : Fin 4) : State := (s.nodeAnew ctl).nodeFrame (.heartbeat (0x700 + s.nodeId) 0)

/-- What an NMT command does that the node hears. -/
theorem nmt_heard {node : Nat} (hctl : s.nodeCtl = ctl) (hlive : s.canLive ctl = true) (hnode : node = 0 ∨ node = s.nodeId) :
    s.nmtAct ctl node .start = (s.takeFrame ctl 0).modNode (fun n => { n with nmt := .operational })
      ∧ s.nmtAct ctl node .stop = (s.takeFrame ctl 0).modNode (fun n => { n with nmt := .stopped })
      ∧ s.nmtAct ctl node .preOperational = (s.takeFrame ctl 0).modNode (fun n => { n with nmt := .preOperational })
      ∧ ∀ c, c = NmtCmd.resetNode ∨ c = NmtCmd.resetCommunication → s.nmtAct ctl node c = s.nodeRestarts ctl := by
  have hmine : ¬ (s.nodeCtl ≠ ctl ∨ (!s.canLive ctl) = true ∨ (node ≠ 0 ∧ node ≠ s.nodeId)) := by
    rw [hlive]
    rintro (h | h | ⟨hzero, hother⟩)
    · exact h hctl
    · exact absurd h nofun
    · exact hnode.elim hzero hother
  unfold State.nmtAct
  simp only [if_neg hmine, true_and]
  rintro c (rfl | rfl) <;> rfl

theorem nodeRestarts_ends {node : Nat} {c : NmtCmd} (h : (s.advance t).nmtAct ctl node c = (s.advance t).nodeRestarts ctl) :
    Ends (.nmtCommand t ctl node c) s fun u => u.node.nmt = .preOperational ∧ u.node.sdo = none ∧ u.node.heartbeatAt = (s.advance t).now
      ∧ (s.nodeSends = true → u.outbox = s.outbox ++ [.heartbeat (0x700 + s.nodeId) 0]) ∧ u.mem = s.mem ∧ u.launch = s.launch := by
  obtain ⟨hmem, hlaunch, -, hnode⟩ := nodeFrame_sent ((s.advance t).nodeAnew ctl) (.heartbeat (0x700 + (s.advance t).nodeId) 0)
  refine ⟨_, congrArg Host.Outcome.next h, ?_, ?_, ?_, fun hsends => ?_, hmem, hlaunch⟩
  · exact congrArg CanNode.nmt hnode
  · exact congrArg CanNode.sdo hnode
  · exact congrArg CanNode.heartbeatAt hnode
  · have hanew : ((s.advance t).nodeAnew ctl).nodeSends = true := (takeFrame_nodeSends (s.advance t) ctl 0).trans hsends
    exact nodeFrame_outbox hanew _

theorem beatHeart_waits (h : s.nat (ob 0x1017 0) = 0 ∨ s.now < s.node.heartbeatAt + s.nat (ob 0x1017 0) * 1000000) : s.beatHeart = s := if_pos h

theorem beatHeart_due (hon : s.nat (ob 0x1017 0) ≠ 0) (hdue : s.node.heartbeatAt + s.nat (ob 0x1017 0) * 1000000 ≤ s.now) (hsends : s.nodeSends = true) :
    s.beatHeart = ((s.modNode fun n => { n with heartbeatAt := s.now }).emit (.heartbeat (0x700 + s.nodeId) s.node.nmt.code)).bump
      (ob (0x2380 + s.nodeCtl.val) 4) := by
  have hsends' : (s.modNode fun n => { n with heartbeatAt := s.now }).nodeSends = true := hsends
  rw [State.beatHeart, if_neg (not_or.mpr ⟨hon, Nat.not_lt.mpr hdue⟩)]
  exact nodeFrame_of_sends hsends' _

/-! ### PDOs -/

section
variable {n : Fin 16}

theorem pdoOn_eq_false {i : Nat} (h : bit (s.nat (ob i 1)) 31 = true ∨ s.node.nmt ≠ .operational) : s.pdoOn i = false := by
  unfold State.pdoOn
  rcases h with h | h <;> simp [h]

theorem pdoOn_eq_true {i : Nat} (hvalid : bit (s.nat (ob i 1)) 31 = false) (hnmt : s.node.nmt = .operational) : s.pdoOn i = true := by
  simp [State.pdoOn, hvalid, hnmt]

theorem sendPdo_off (h : bit (s.nat (ob (0x1800 + n.val) 1)) 31 = true ∨ s.node.nmt ≠ .operational) : s.sendPdo n = s := by
  simp [State.sendPdo, pdoOn_eq_false h]

/-- The bytes of a PDO: the active values of the mapped objects, each in its length. -/
def Machine.State.pdoBytes (s : State) (map : List (Key × Nat)) : Bytes :=
  map.flatMap fun e => (((rowOf e.1).elim [] fun r => r.ty.encode (s.view e.1)) ++ List.replicate e.2 0).take e.2

theorem sendPdo_on (hvalid : bit (s.nat (ob (0x1800 + n.val) 1)) 31 = false) (hnmt : s.node.nmt = .operational)
    (hsends : s.ctlSends (s.pdoCtl (0x1800 + n.val)) = true) : s.sendPdo n
      = (s.emit (.canFrame (s.pdoCtl (0x1800 + n.val)).val (s.nat (ob (0x1800 + n.val) 1) % 2 ^ 29) (s.pdoBytes (s.pdoMap (0x1A00 + n.val))))).bump
          (ob (0x2380 + (s.pdoCtl (0x1800 + n.val)).val) 4) := by
  rw [State.sendPdo, pdoOn_eq_true hvalid hnmt]
  exact frameOn_of_sends hsends _

theorem pdoBytes_quiet {key : Key} {r : Row} {w : Nat} (hquiet : key ∈ quietKeys) (hrow : rowOf key = some r) :
    s.pdoBytes [(key, w)] = (r.ty.encode (s.obj key) ++ List.replicate w 0).take w := by
  simp [State.pdoBytes, hrow, s.view_quiet hquiet]

theorem receivePdo_ignores {data : Bytes} (h : bit (s.nat (ob (0x1400 + n.val) 1)) 31 = true ∨ s.node.nmt ≠ .operational ∨ s.canLive (s.pdoCtl (0x1400 + n.val)) = false
      ∨ data.length < ((s.pdoMap (0x1600 + n.val)).map fun e => e.2).sum) : s.receivePdo n data = s := by
  have hskip : (!s.pdoOn (0x1400 + n.val) || !s.canLive (s.pdoCtl (0x1400 + n.val))
      || decide (data.length < ((s.pdoMap (0x1600 + n.val)).map fun e => e.2).sum)) = true := by
    rcases h with h | h | h | h
    · simp [pdoOn_eq_false (.inl h)]
    · simp [pdoOn_eq_false (.inr h)]
    · simp [h]
    · simp [h]
  exact if_pos hskip

/-- A received PDO that maps one object writes it with the bytes that it carries. -/
theorem receivePdo_one {key : Key} {r : Row} {v : Val} (hrow : rowOf key = some r) (hvalid : bit (s.nat (ob (0x1400 + n.val) 1)) 31 = false)
    (hnmt : s.node.nmt = .operational) (hlive : s.canLive (s.pdoCtl (0x1400 + n.val)) = true)
    (hmap : s.pdoMap (0x1600 + n.val) = [(key, (r.ty.encode v).length)]) : s.receivePdo n (r.ty.encode v)
      = (s.takeFrame (s.pdoCtl (0x1400 + n.val)) (s.nat (ob (0x1400 + n.val) 1) % 2 ^ 29)).request s.canSession .rpdo true [writeItem key v] := by
  have hitem : pdoItems [(key, (r.ty.encode v).length)] (r.ty.encode v) = [writeItem key v] := by simp [pdoItems, writeItem, hrow]
  unfold State.receivePdo
  simp [pdoOn_eq_true hvalid hnmt, hlive, hmap, hitem]

theorem rpdo_writes {key : Key} {r : Row} {v : Val} (hquiet : key ∈ quietKeys) (hrow : rowOf key = some r) (hfits : r.ty.fits v = true)
    (hrng : r.rng.ok v = true) (h : WritesAct s (.can s.nodeId)) (hvalid : bit (s.nat (ob (0x1400 + n.val) 1)) 31 = false) (hnmt : s.node.nmt = .operational)
    (hlive : s.canLive (s.pdoCtl (0x1400 + n.val)) = true) (hmap : s.pdoMap (0x1600 + n.val) = [(key, (r.ty.encode v).length)]) :
    Ends (.rpdoReceived t n (r.ty.encode v)) s fun u =>
      u.obj key = ((s.advance t).setObj key v).obj key ∧ u.mem = s.mem ∧ u.launch = s.launch ∧ u.outbox = s.outbox :=
  ⟨_, congrArg Host.Outcome.next (receivePdo_one (s := s.advance t) hrow hvalid hnmt hlive hmap),
    write_quiet_silent (h.takeFrame t _ _) hquiet hrow hfits hrng⟩

end

end

/-- Settles O45: an item of SDO, USDO or a PDO is one request of the node's session (`counted_answers`), and the node's other services change the node and send a frame at most. -/
theorem theCanopenNodeServes : Obligations.TheCanopenNodeServes := by
  intro s t ctl
  refine ⟨fun req h => congrArg _ (sdo_deaf (s := s.advance t) h req), fun req h => congrArg _ (usdo_deaf (s := s.advance t) h req), ?sdo, ?usdo, ?idle, ?stalls, ?nmt,
    fun h => congrArg _ (beatHeart_waits (s := s.advance t) h), ?heartbeat, ?pdo⟩
  case sdo =>
    intro hears hsends
    have hears' : (s.advance t).nodeHears ctl 0 = true := hears
    have hframe := fun x o => setSdo_nodeFrame (s := s.advance t) (ctl := ctl) hsends x o
    refine ⟨congrArg _ (sdo_abort hears'), congrArg _ ((sdo_blockTransfer hears').trans (hframe _ _)), fun index sub size => ?_, fun x data hx hdown => ?_,
      fun x hx hup hmore => ?_, fun index sub _ _ hrow hfree => ⟨uploadInit_missing hears hsends hfree hrow, downloadExpedited_missing hears hsends hfree hrow⟩⟩
    · exact congrArg _ ((sdo_downloadInit hears' index sub size).trans (hframe _ _))
    · exact congrArg _ ((sdo_downloadSegment hears' hx hdown data).trans (hframe _ _))
    · exact congrArg _ ((sdo_uploadSegment hears' hx hup hmore).trans (hframe _ _))
  case usdo =>
    intro hears hsends k r hquiet hrow hfree
    exact ⟨usdo_reads hears hsends hquiet hrow hfree, fun v hfits hrng h => usdo_writes hears hsends hquiet hrow hfits hrng h⟩
  case idle =>
    intro hnone
    have hstalls : (s.advance t).sdoStalls = s.advance t := by rw [State.sdoStalls, State.advance_node, hnone]
    exact congrArg _ hstalls
  case stalls => exact fun x hx hsends => congrArg _ (sdoStalls_ends (s := s.advance t) hx hsends)
  case nmt =>
    intro node cmd
    refine ⟨fun h => congrArg _ (nmt_other (s := s.advance t) h cmd), fun hctl hlive hnode => ?_⟩
    obtain ⟨hstart, hstop, hpre, hreset⟩ := nmt_heard (s := s.advance t) hctl hlive hnode
    exact ⟨congrArg _ hstart, congrArg _ hstop, congrArg _ hpre, fun c hc => nodeRestarts_ends (hreset c hc)⟩
  case heartbeat =>
    intro hon hdue hsends
    have hdone := beatHeart_due (s := s.advance t) hon hdue hsends
    rw [State.advance_node] at hdone
    refine (congrArg Host.Outcome.next hdone).trans ?_
    cases s.node.nmt <;> rfl
  case pdo =>
    intro n
    refine ⟨fun h => congrArg _ (sendPdo_off (s := s.advance t) h), fun hvalid hnmt hsends => ⟨fun hmap => ?_, fun k r w hquiet hrow hmap => ?_⟩,
      fun data h => congrArg _ (receivePdo_ignores (s := s.advance t) h),
      fun k r v hquiet hrow hfits hrng h hvalid hnmt hlive hmap => rpdo_writes hquiet hrow hfits hrng h hvalid hnmt hlive hmap⟩
    · have hempty : (s.advance t).pdoBytes ((s.advance t).pdoMap (0x1A00 + n.val)) = [] := congrArg (s.advance t).pdoBytes hmap
      refine congrArg Host.Outcome.next ((sendPdo_on (s := s.advance t) hvalid hnmt hsends).trans ?_)
      rw [hempty]
      rfl
    · have hbytes := (congrArg (s.advance t).pdoBytes hmap).trans (pdoBytes_quiet (s := s.advance t) (w := w) hquiet hrow)
      refine congrArg Host.Outcome.next ((sendPdo_on (s := s.advance t) hvalid hnmt hsends).trans ?_)
      refine (congrArg (fun data => ((s.advance t).emit (.canFrame _ _ data)).bump _) hbytes).trans ?_
      rfl

end Sys2Proof

namespace Sys2Proof.Machine

/-! ## What the commit control does when no implicit commit is under way (R113, R120) -/

section
variable {s : State} (himplicit : s.commit.implicit = []) (hinstant : s.commit.instant = [])
include himplicit hinstant

/-- Only the committed group can switch. -/
theorem State.switchDue_group : s.switchDue = s.switchGroup := by
  have hswitchInstant : s.switchInstant = s := by
    have hself : (s.modCommit fun k => { k with instant := k.instant.filter fun c => !s.switches c }) = s :=
      State.modCommit_self (by rw [hinstant, List.filter_nil, ← hinstant])
    rw [State.switchInstant, hself, hinstant]
    rfl
  rw [State.switchDue, hswitchInstant, State.switchImplicit, himplicit]

theorem State.startCommits_group : s.startCommits = s.switchGroup := by
  have hstartImplicit : s.startImplicit (s.commit.implicit.length + 1) = s := by
    unfold State.startImplicit
    simp [himplicit]
  have hstartInstant : s.startInstant = s := by
    rw [State.startInstant, hinstant]
    rfl
  rw [State.startCommits, hstartImplicit, hstartInstant, State.switchDue_group himplicit hinstant]

/-- A group that cannot switch yet stays as it is. -/
theorem State.startCommits_waits {c : Commit} (hgroup : s.commit.group = some c) (hnot : s.switches c = false) : s.startCommits = s := by
  rw [State.startCommits_group himplicit hinstant, State.switchGroup, hgroup]
  simp [hnot]

end

/-- The next beat has not begun (R118). -/
theorem State.begunBy_nextBeat {s : State} {run : Run} (hrun : s.launch.run = some run) (hperiod : 0 < run.period) : s.begunBy s.nextBeat s.now = false := by
  have hlater : s.now < run.countOf (run.firstBeatAt (s.now + 1)) := by
    unfold Run.firstBeatAt Run.countOf
    split
    · omega
    · have hbound := (divUp_mul_bounds (s.now + 1 - run.start) run.period hperiod).1
      omega
  simp [State.begunBy, State.nextBeat, hrun, hlater]

/-- A group that is not scheduled does not switch. -/
theorem State.switches_unscheduled (s : State) {c : Commit} (h : c.scheduled = false) : s.switches c = false := by simp [State.switches, h]

theorem State.switches_nextBeat {s : State} {run : Run} (hrun : s.launch.run = some run) (hperiod : 0 < run.period) {c : Commit} (hbeat : c.beat = s.nextBeat) :
    s.switches c = false := by
  simp [State.switches, hbeat, State.begunBy_nextBeat hrun hperiod]

/-! ## Requests that wait for a commit (R105, R125) -/

/-- A request of one item that waits for the outcome of a commit, with the answer that success gives it. -/
def waitingWork (ses : Session) (reply : Reply) (write : Bool) (g : Given) (ident : Nat) (r : RespItem) : Work :=
  { ses := ses, reply := reply, write := write, begun := true, owed := false, items := [], done := [], waits := some (ident, r), outcome := none, given := g }

theorem State.nextWork_waits {s : State} {w : Work} (hworks : s.server.works = [w]) (hwaits : w.waits.isSome = true) (hpending : w.outcome = none) : s.nextWork = none := by
  unfold State.nextWork Server.firstOn
  simp [hworks, Work.free, Option.isNone_eq_false_iff.mpr hwaits, hpending]

theorem State.serveLoop_waits {s : State} {w : Work} (hworks : s.server.works = [w]) (hwaits : w.waits.isSome = true) (hpending : w.outcome = none) (n : Nat) :
    State.serveLoop n s = s := by
  cases n with
  | zero => rfl
  | succ n => rw [State.serveLoop, State.nextWork_waits hworks hwaits hpending]

/-- One write item that waits for a commit which does not switch at once: the request is held. -/
theorem State.request_waits {s : State} {ses : Session} (h : ServerFree s ses) {reply : Reply} {it : Item} {g : Given} {x : State} {ident rcode : Nat} {rdata : Bytes}
    (hserve : ((s.touchGroup ses (ob it.index it.sub)).holding (heldWork ses reply true it g)).serveWrite ses it g
      = (x.holding (heldWork ses reply true it g), .wait ident, rcode, rdata)) {y : State}
    (hy : y = x.modServer fun v => { v with turn := (ses.path + 1) % 4, works := [waitingWork ses reply true g ident (answerItem it rcode rdata)] })
    (hstart : y.startCommits = y) : s.request ses reply true [it] g = y := by
  have htouch : (s.holding (heldWork ses reply true it g)).touchGroup ses (ob it.index it.sub) = (s.touchGroup ses (ob it.index it.sub)).holding (heldWork ses reply true it g) := by
    unfold State.touchGroup State.holding
    rw [apply_ite (State.modServer · _)]
    rfl
  have hheld : ((x.holding (heldWork ses reply true it g)).modWork ses.path ((ses.path + 1) % 4) fun w => { w with items := [], waits := some (ident, answerItem it rcode rdata) }) = y := by
    rw [hy]
    simp [State.modWork, State.modServer, State.holding, heldWork, waitingWork, modFirst, Work.free]
  have hitem : (s.holding (heldWork ses reply true it g)).serveItem ses.path (heldWork ses reply true it g) it [] = y := by
    rw [← hstart, ← hheld]
    unfold State.serveItem
    rw [show (heldWork ses reply true it g).ses = ses from rfl, show (heldWork ses reply true it g).given = g from rfl, htouch]
    simp only [hserve]
    rfl
  have hworks : y.server.works = [waitingWork ses reply true g ident (answerItem it rcode rdata)] := by rw [hy]; rfl
  rw [State.request_begins h, State.serveLoop_held rfl rfl]
  exact (congrArg _ hitem).trans (State.serveLoop_waits hworks rfl rfl 3)

/-! ## The command object of the commit control (R115, R118) -/

theorem rowOf_commitCommand : rowOf (ob 0x2010 1) = some ⟨0x2010, 0x2010, 0x01, 0x01, .u 8, .wo, .int 0, .btw 1 3, .instant⟩ := by decide

/-- A command of the commit control takes effect as soon as it is served (R114). -/
theorem State.serveWrite_commitCommand (s : State) (ses : Session) (g : Given) {n : Nat} (hlow : 1 ≤ n) (hhigh : n ≤ 3) :
    s.serveWrite ses (writeItem (ob 0x2010 1) (.int n)) g = ((s.commitCommand ses n).1, (s.commitCommand ses n).2, 0, []) := by
  have hfits : (Ty.u 8).fits (.int n) = true := by simp [Ty.fits]; omega
  have hrng : (Rng.btw 1 3).ok (.int n) = true := by simp [Rng.ok]; omega
  rw [State.serveWrite_num s ses (ob 0x2010 1) _ (.int n) g rowOf_commitCommand (.inr rfl) (by decide) (by simp [ob]) (by simp) (Ty.decode_encode_u (w := 8) rfl hfits) hrng,
    State.writeChecked_delivers s ses (ob 0x2010 1) _ (.int n) g rfl rfl rfl rfl (.inr rfl) rfl]
  rfl

theorem State.touchGroup_owner {s : State} {ses : Session} (h : s.commit.owner = some ses) :
    s.touchGroup ses (ob 0x2010 1) = s.modCommit fun c => { c with lastActivity := s.now } := if_pos ⟨h, .inl rfl⟩

/-! ## What the consistency checks do not look at (R118) -/

theorem State.failing_activity (c : State) (n : Nat) (keys : List Key) : (c.modCommit fun x => { x with lastActivity := n }).failing keys = c.failing keys := by
  unfold State.failing
  repeat' refine congrArg₂ List.append ?_ ?_
  all_goals rfl

theorem State.firstFailing_activity (s : State) (n : Nat) (es : List (Key × Val)) : (s.modCommit fun x => { x with lastActivity := n }).firstFailing es = s.firstFailing es := by
  have hset := List.foldl_hom (fun x : State => x.modCommit fun c => { c with lastActivity := n }) (g₁ := fun acc e => acc.setObj e.1 e.2)
    (g₂ := fun acc e => acc.setObj e.1 e.2) (l := es) (init := s) fun _ _ => rfl
  rw [State.firstFailing, hset, State.failing_activity, State.firstFailing]

theorem State.firstFailing_modServer (s : State) (f : Server → Server) (es : List (Key × Val)) : (s.modServer f).firstFailing es = s.firstFailing es := by
  have hset := List.foldl_hom (fun x : State => x.modServer f) (g₁ := fun acc e => acc.setObj e.1 e.2)
    (g₂ := fun acc e => acc.setObj e.1 e.2) (l := es) (init := s) fun _ _ => rfl
  rw [State.firstFailing, hset, State.failing_modServer, State.firstFailing]

end Sys2Proof.Machine

namespace Sys2Proof.Machine

/-! ## What the commit command does (R117, R118) -/

/-- The idle time of the open group starts anew (R124). -/
def State.groupActive (s : State) : State := s.modCommit fun c => { c with lastActivity := s.now }

/-- The command of the owner, once its write has been served, is answered or waits. -/
theorem State.commitCommand_owner {s : State} {ses : Session} (howner : s.commit.owner = some ses) (hgroup : s.commit.group = none) :
    s.commitCommand ses 2 = s.commitGroup ∧ s.commitCommand ses 3 = (s.closeGroup, .now 0 []) := by
  simp [State.commitCommand, State.stages, howner, hgroup]

theorem State.commitCommand_other {s : State} {ses : Session} (howner : s.commit.owner ≠ some ses) {n : Nat} (hopen : n ≠ 1) :
    s.commitCommand ses n = (s, .now 0x0E000003 []) := by
  simp [State.commitCommand, State.stages, howner, hopen]

section
variable {s : State} (hpass : s.takeIdent.firstFailing s.commit.entries = none)
include hpass

theorem State.commitGroup_pends (hrestart : isRestart s.commit.entries = true) :
    s.commitGroup = ((s.takeIdent.groupActive.makePending s.commit.entries).closeGroup, .now 0 []) := by
  have hchecks : s.takeIdent.groupActive.firstFailing s.commit.entries = none := (State.firstFailing_activity _ _ _).trans hpass
  unfold State.commitGroup
  simp only [show (s.takeIdent.modCommit fun c => { c with lastActivity := s.now }) = s.takeIdent.groupActive from rfl,
    show s.takeIdent.groupActive.commit.entries = s.commit.entries from rfl, hchecks, hrestart, if_true]

/-- The instant values of an owner's group, as they wait for their beat. -/
def State.instantGroup (s : State) : Commit :=
  { ident := s.takeIdent.commit.lastIdent, entries := s.commit.entries, since := s.now, beat := s.nextBeat, asked := [], notReady := [], started := true
    scheduled := true, given := {} }

/-- Instant values wait for the next beat of a running launch where the owner asks for none (R118, R119). -/
theorem State.commitGroup_waits (hrestart : isRestart s.commit.entries = false) (hdrained : isDrained s.commit.entries = false) (hasked : s.nat (ob 0x2010 3) = 0)
    (hrun : s.running = true) :
    s.commitGroup = (s.takeIdent.groupActive.modCommit fun c => { c with group := some s.instantGroup }, .wait s.instantGroup.ident) := by
  have hchecks : s.takeIdent.groupActive.firstFailing s.commit.entries = none := (State.firstFailing_activity _ _ _).trans hpass
  have hnat : s.takeIdent.groupActive.nat (ob 0x2010 3) = 0 := hasked
  have hstill : s.takeIdent.groupActive.running = true := hrun
  unfold State.commitGroup
  simp only [show (s.takeIdent.modCommit fun c => { c with lastActivity := s.now }) = s.takeIdent.groupActive from rfl,
    show s.takeIdent.groupActive.commit.entries = s.commit.entries from rfl, hchecks, hrestart, hdrained, hnat, hstill]
  rfl

end

end Sys2Proof.Machine

namespace Sys2Proof

open Machine

/-- The write item of the commit command (R118). -/
def commitItem : Item := writeItem (ob 0x2010 1) (.int (2 : Nat))

theorem commitItem_key : ob commitItem.index commitItem.sub = ob 0x2010 1 := ob_parts _

/-- The checks of a commit command look neither at the idle time nor at the request that the server holds. -/
theorem groupCommand_passes {a : State} {es : List (Key × Val)} (hpass : a.takeIdent.firstFailing es = none) (w : Work) :
    (a.groupActive.holding w).takeIdent.firstFailing es = none := by
  have hcommute : (a.groupActive.holding w).takeIdent = (a.takeIdent.modCommit fun c => { c with lastActivity := a.now }).modServer
      fun v => { v with turn := w.ses.path, works := [w] } := rfl
  rw [hcommute, State.firstFailing_modServer, State.firstFailing_activity, hpass]

section
variable {s : State} {ses : Session} (t : Nat) (h : ServerFree s ses)
include h

/-! ## The clauses of O13 -/

theorem commitOpen_opens (howner : s.commit.owner = none) :
    ServedWith (.commitOpen t ses) s ses (Books { s.advance t with commit := { s.commit with owner := some ses, entries := [], lastActivity := (s.advance t).now } }) := by
  have htouch : (s.advance t).touchGroup ses (ob 0x2010 1) = s.advance t :=
    State.touchGroup_of_not_owner (by rw [State.advance_commit, howner]; exact nofun) _
  refine refusedWith_of_serveWrite (g := {})
    (x := (s.advance t).modCommit fun c => { c with owner := some ses, entries := [], group := none, lastActivity := (s.advance t).now }) rfl (h.advance t) ?_ ?_ rfl
  · rw [htouch, State.serveWrite_commitCommand _ ses _ (by decide) (by decide)]
    simp only [State.commitCommand, if_true, State.openGroup, show ((s.advance t).serving ses (writeItem (ob 0x2010 1) (.int (1 : Nat))) {}).commit.owner = none from howner]
    rfl
  · rw [State.modCommit, State.advance_commit, ← h.group]
    exact Books.refl _

theorem commitOpen_refused {o : Session} (howner : s.commit.owner = some o) (hother : o ≠ ses) :
    RefusedWith (.commitOpen t ses) s ses 0x0E000001 (Books (s.advance t)) := by
  have htouch : (s.advance t).touchGroup ses (ob 0x2010 1) = s.advance t :=
    State.touchGroup_of_not_owner (by simp [State.advance_commit, howner, hother]) _
  refine refusedWith_of_serveWrite (g := {}) (x := s.advance t) rfl (h.advance t) ?_ (Books.refl _) rfl
  rw [htouch, State.serveWrite_commitCommand _ ses _ (by decide) (by decide)]
  simp only [State.commitCommand, if_true, State.openGroup, show ((s.advance t).serving ses (writeItem (ob 0x2010 1) (.int (1 : Nat))) {}).commit.owner = some o from howner,
    if_neg hother]

theorem commitDiscard_closes (howner : s.commit.owner = some ses) :
    ServedWith (.commitDiscard t ses) s ses (Books { s.advance t with commit := { s.commit with owner := none, entries := [], lastActivity := (s.advance t).now } }) := by
  have htouch : (s.advance t).touchGroup ses (ob 0x2010 1) = (s.advance t).groupActive := State.touchGroup_owner howner
  refine refusedWith_of_serveWrite (g := {}) (x := (s.advance t).groupActive.closeGroup) rfl (h.advance t) ?_ ?_ rfl
  · rw [htouch, State.serveWrite_commitCommand _ ses _ (by decide) (by decide),
      (State.commitCommand_owner (s := (s.advance t).groupActive.serving ses (writeItem (ob 0x2010 1) (.int (3 : Nat))) {}) howner h.group).2]
    rfl
  · rw [State.closeGroup, State.modCommit, ← h.group]
    exact Books.refl _

/-- A command other than opening, of a session that owns no open group. -/
theorem groupCommand_refused (howner : s.commit.owner ≠ some ses) {n : Nat} (hlow : 1 < n) (hhigh : n ≤ 3) {c : Instr}
    (hexec : exec c s = .next ((s.advance t).writeObject ses (ob 0x2010 1) (.int n) {})) :
    RefusedWith c s ses 0x0E000003 (Books (s.advance t)) := by
  refine refusedWith_of_serveWrite (x := s.advance t) hexec (h.advance t) ?_ (Books.refl _) rfl
  rw [State.touchGroup_of_not_owner (s := s.advance t) howner, State.serveWrite_commitCommand _ ses _ (by omega) hhigh,
    State.commitCommand_other (s := (s.advance t).serving ses (writeItem (ob 0x2010 1) (.int n)) {}) howner (by omega)]

section
variable (howner : s.commit.owner = some ses) (hpass : (s.advance t).takeIdent.firstFailing s.commit.entries = none)
include howner hpass

theorem groupCommand_pends (hrestart : isRestart s.commit.entries = true) :
    ServedWith (.commit t ses) s ses fun u =>
      Books { s.advance t with commit := { s.commit with owner := none, entries := [], lastActivity := (s.advance t).now, pending := s.commit.entries.foldl (fun l e => put l e.1 e.2) s.commit.pending } } u
      ∧ u.commit.lastIdent = (s.commit.lastIdent + 1) % 2 ^ 32 ∧ u.commit.lastResult = 0 := by
  set a := s.advance t with ha
  set w := heldWork ses .plain true commitItem {} with hw
  set x := (a.takeIdent.groupActive.makePending s.commit.entries).closeGroup with hx
  have htouch : a.touchGroup ses (ob commitItem.index commitItem.sub) = a.groupActive := by
    rw [commitItem_key]
    exact State.touchGroup_owner howner
  have hserve : ((a.touchGroup ses (ob commitItem.index commitItem.sub)).holding w).serveWrite ses commitItem {} = (x.holding w, .now 0 [], 0, []) := by
    rw [htouch, commitItem, State.serveWrite_commitCommand _ ses _ (by decide) (by decide), (State.commitCommand_owner (s := a.groupActive.holding w) howner h.group).1,
      State.commitGroup_pends (s := a.groupActive.holding w) (groupCommand_passes hpass _) hrestart]
    rfl
  have hexec : exec (.commit t ses) s = .next (a.request ses .plain true [commitItem] {}) := rfl
  rw [State.request_writes (h.advance t) hserve] at hexec
  refine ⟨_, hexec, ⟨?_, ?_, ?_⟩, _, ?_, List.getLast?_concat ..⟩
  · have hpends : Books { a with commit := { s.commit with owner := none, entries := [], lastActivity := a.now, pending := s.commit.entries.foldl (fun l e => put l e.1 e.2) s.commit.pending } } x :=
      ⟨by rw [hx, State.closeGroup, ← h.group]; rfl, fun _ _ => rfl⟩
    exact hpends.trans ((Books.counted (s := x) h.works ses).trans ⟨rfl, fun _ _ => rfl⟩)
  · rfl
  · rfl
  · rfl

theorem groupCommand_waits {run : Run} (hrestart : isRestart s.commit.entries = false) (hdrained : isDrained s.commit.entries = false) (hasked : s.nat (ob 0x2010 3) = 0)
    (hrun : s.launch.run = some run) (hperiod : 0 < run.period) :
    Ends (.commit t ses) s fun u => ∃ c, u.commit.group = some c ∧ c.entries = s.commit.entries ∧ c.scheduled = true ∧ c.beat = (s.advance t).nextBeat
      ∧ u.commit.owner = some ses ∧ u.dict = s.dict ∧ u.outbox = s.outbox ∧ u.mem = s.mem ∧ u.launch = s.launch := by
  set a := s.advance t with ha
  set w := heldWork ses .plain true commitItem {} with hw
  set x := a.takeIdent.groupActive.modCommit fun c => { c with group := some a.instantGroup } with hx
  have htouch : a.touchGroup ses (ob commitItem.index commitItem.sub) = a.groupActive := by
    rw [commitItem_key]
    exact State.touchGroup_owner howner
  have hserve : ((a.touchGroup ses (ob commitItem.index commitItem.sub)).holding w).serveWrite ses commitItem {} = (x.holding w, .wait a.instantGroup.ident, 0, []) := by
    rw [htouch, commitItem, State.serveWrite_commitCommand _ ses _ (by decide) (by decide), (State.commitCommand_owner (s := a.groupActive.holding w) howner h.group).1,
      State.commitGroup_waits (s := a.groupActive.holding w) (groupCommand_passes hpass _) hrestart hdrained hasked (Option.isSome_of_eq_some hrun)]
    rfl
  set y := x.modServer fun v => { v with turn := (ses.path + 1) % 4, works := [waitingWork ses .plain true {} a.instantGroup.ident (answerItem commitItem 0 [])] } with hy
  have hnot : y.switches a.instantGroup = false := State.switches_nextBeat (s := y) hrun hperiod rfl
  have hexec : exec (.commit t ses) s = .next (a.request ses .plain true [commitItem] {}) := rfl
  rw [State.request_waits (h.advance t) hserve hy (State.startCommits_waits h.implicit h.instant rfl hnot)] at hexec
  exact ⟨_, hexec, a.instantGroup, rfl, rfl, rfl, rfl, howner, rfl, rfl, rfl, rfl⟩

end
end

/-- Settles O13: each clause runs the server for the one write of 0x2010:01 and says what its command does (`State.commitCommand`). -/
theorem commitGroupOpensCommitsAndDiscards : Obligations.CommitGroupOpensCommitsAndDiscards := by
  intro s t ses h
  exact ⟨commitOpen_opens t h, fun o howner hother => commitOpen_refused t h howner hother, commitDiscard_closes t h,
    fun howner => ⟨groupCommand_refused t h howner (by decide) (by decide) rfl, groupCommand_refused t h howner (by decide) (by decide) rfl⟩,
    fun howner hrestart hpass => groupCommand_pends t h howner hpass hrestart,
    fun run howner hrestart hdrained hasked hpass hrun hperiod => groupCommand_waits t h howner hpass hrestart hdrained hasked hrun hperiod⟩

end Sys2Proof

namespace Sys2Proof.Machine

/-! ## A request whose commit has its outcome (R105, R125) -/

/-- The search of the next work finds a single held one whose commit has its outcome. -/
theorem State.nextWork_settled {s : State} {w : Work} (hworks : s.server.works = [w]) (hsettled : w.outcome.isSome = true) : s.nextWork = some (w.ses.path, w) := by
  have hpath := Session.path_lt w.ses
  have hfirst : ∀ p, s.server.firstOn p = if w.ses.path = p then some (w.ses.path, w) else none := by
    intro p
    unfold Server.firstOn
    by_cases hp : w.ses.path = p <;> simp [hworks, hp, hsettled]
  unfold State.nextWork
  simp only [hfirst, show List.range 4 = [0, 1, 2, 3] from rfl, List.findSome?_cons, List.findSome?_nil]
  grind

/-- The answer of a waiting request's item to the outcome of its commit. -/
def outcomeItem (r : RespItem) (code : Nat) : RespItem := if code = 0 then r else { r with code := code, data := [] }

/-- The server answers the one request that waited, as soon as its commit has its outcome: it takes the item's answer, and the request is done. -/
theorem State.serve_settled {s : State} {w : Work} {ident code : Nat} {r : RespItem} (hworks : s.server.works = [{ w with outcome := some code }])
    (hwaits : w.waits = some (ident, r)) (hbegun : w.begun = true) (hplain : w.reply = .plain) (hitems : w.items = []) (hfresh : w.done = [])
    (hlatched : s.power.latched = none) (hgroup : s.commit.group = none) (himplicit : s.commit.implicit = []) (hinstant : s.commit.instant = []) :
    s.serve = (s.counted w.ses).emit (.response w.ses [outcomeItem r code]) := by
  set w1 : Work := { w with outcome := some code } with hw1
  set w2 : Work := { w with waits := none, outcome := none, done := [outcomeItem r code] } with hw2
  set s2 := s.modServer fun v => { v with turn := w.ses.path, works := [w2] } with hs2
  have hresume : w1.resumeWith code = w2 := by
    simp [Work.resumeWith, hw1, hw2, hwaits, hfresh, outcomeItem]
  have hfirst : s.serveWork w1.ses.path w1 = s2 := by
    simp [State.serveWork, hs2, State.modServer, hworks, modFirst, hw1, ← hresume]
  have hsecond : s2.serveWork w2.ses.path w2 = (s.counted w.ses).emit (.response w.ses [outcomeItem r code]) := by
    simp [State.serveWork, hs2, hw2, hbegun, hitems, hplain, State.reply, dropFirst, Work.free, State.modServer, State.counted]
  have hmoves : s.serverMoves = 3 := by simp [State.serverMoves, hworks, hw1, hitems]
  unfold State.serve
  simp only [State.latchedPower_none hlatched, State.startCommits_free s hgroup himplicit hinstant, hmoves]
  rw [State.serveLoop, State.nextWork_settled hworks rfl]
  refine (congrArg (State.serveLoop 2) hfirst).trans ?_
  rw [State.serveLoop_held rfl rfl, hsecond]
  exact State.serveLoop_idle rfl 1

end Sys2Proof.Machine

namespace Sys2Proof.Machine

/-! ## Commits of quiet objects (R119, R120) -/

/-- The values of entries in place. -/
def State.setAll (s : State) (es : List (Key × Val)) : State := es.foldl (fun x e => x.setObj e.1 e.2) s

/-- Only the active values change. -/
theorem State.setAll_dict (s : State) (es : List (Key × Val)) : s.setAll es = { s with dict := (s.setAll es).dict } := by
  induction es generalizing s with
  | nil => rfl
  | cons e es ih => exact ih (s.setObj e.1 e.2)

/-- The same entries on two states that agree on an object. -/
theorem State.obj_setAll {s u : State} {k : Key} (hcrust : u.crust = s.crust) (hobj : u.obj k = s.obj k) (es : List (Key × Val)) : (u.setAll es).obj k = (s.setAll es).obj k := by
  induction es generalizing s u with
  | nil => exact hobj
  | cons e es ih =>
    refine ih hcrust ?_
    by_cases hkey : k = e.1
    · subst hkey
      exact State.obj_congr hcrust ((u.get?_setObj_self e.1 e.2).trans (s.get?_setObj_self e.1 e.2).symm)
    · rw [State.obj_setObj_other u e.2 hkey, State.obj_setObj_other s e.2 hkey, hobj]

/-- The objects of streams and heads are not quiet. -/
theorem ob_notMem_quietKeys {i j : Nat} (hlow : 0x2810 ≤ i) (hhigh : i < 0x5810) (hj : j < 256) : ob i j ∉ quietKeys := by
  intro hmem
  have hcases : i * 256 + j = 0x5810 * 256 + 7 ∨ i * 256 + j = 0x5810 * 256 + 8 ∨ i * 256 + j = 0x1015 * 256 ∨ i * 256 + j = 0x1017 * 256 := quietKeys_cases hmem
  omega

theorem tagsStream_quiet {key : Key} (hquiet : key ∈ quietKeys) (s : State) (n : Fin 24) : s.tagsStream n.val key = false := by
  have hne : ∀ i j : Nat, 0x2810 ≤ i → i < 0x5810 → j < 256 → key ≠ ob i j :=
    fun i j hlow hhigh hj heq => ob_notMem_quietKeys hlow hhigh hj (heq ▸ hquiet)
  have hcam : ∀ j < 256, key ≠ camObj n.val j := fun j hj => hne _ j (by omega) (by omega) hj
  have hheads : ((List.range 12).any fun h => (key == ob (0x2C10 + h) 6 || key == ob (0x2C10 + h) 8) && bit (s.nat (ob (0x2C10 + h) 2)) n.val) = false := by
    rw [List.any_eq_false]
    intro h hh
    have hlt := List.mem_range.mp hh
    simp [hne (0x2C10 + h) 6 (by omega) (by omega) (by decide), hne (0x2C10 + h) 8 (by omega) (by omega) (by decide)]
  simp [State.tagsStream, hcam 0x0F (by decide), hcam 0x10 (by decide), hcam 0x15 (by decide), hheads]

section
variable {es : List (Key × Val)} (hquiet : ∀ e ∈ es, e.1 ∈ quietKeys)
include hquiet

theorem State.tagStreams_allQuiet (s : State) (count : Nat) : s.tagStreams (es.map fun e => e.1) count = s := by
  have hnone : ∀ x : State, ∀ n : Fin 24, x.tagStream (es.map fun e => e.1) count n = x := by
    intro x n
    have hany : ((es.map fun e => e.1).any fun k => x.tagsStream n.val k) = false := by
      simp only [List.any_map, List.any_eq_false]
      exact fun e he => by simp [tagsStream_quiet (hquiet e he)]
    simp [State.tagStream, hany]
  unfold State.tagStreams
  induction idxs 24 with
  | nil => rfl
  | cons n l ih => rw [List.foldl_cons, hnone, ih]

theorem State.keepWindows_quiet (s : State) : s.keepWindows (es.map fun e => e.1) = s := by
  have hnone : (es.map fun e => e.1).filter windowKey = [] := by
    simp only [List.filter_eq_nil_iff, List.mem_map]
    rintro k ⟨e, he, rfl⟩
    simp [(valueKey_quiet e.1 (hquiet e he)).2.1]
  simp [State.keepWindows, hnone]

theorem State.setEntries_quiet (s : State) : s.setEntries es = s.setAll es := by
  unfold State.setEntries State.setAll
  refine List.foldl_ext _ _ _ fun x e he => ?_
  simp [(valueKey_quiet e.1 (hquiet e he)).1]

theorem State.applyEntries_quiet (s : State) (count : Nat) (g : Given) : s.applyEntries es count g = s.setAll es := by
  have hact : ∀ x : State, es.foldl (fun acc e => acc.act e.1 e.2 count g) x = x := by
    intro x
    induction es with
    | nil => rfl
    | cons e es ih =>
      rw [List.foldl_cons, act_quiet (hquiet e (List.mem_cons_self ..)), ih fun e' he => hquiet e' (List.mem_cons_of_mem _ he)]
  unfold State.applyEntries
  simp only [hact, State.tagStreams_allQuiet hquiet, State.keepWindows_quiet hquiet, State.setEntries_quiet hquiet]

/-- In a beat whose hashes have not been computed, the switch of quiet values does nothing else. -/
theorem State.switch_allQuiet {s : State} {c : Commit} (hes : c.entries = es) {run : Run} (hrun : s.launch.run = some run) (hbeat : s.launch.lastBeat ≠ some c.beat) :
    s.switch c = (s.recordOutcome c.ident 0 0 (some c.beat)).setAll es := by
  have hrunning : s.running = true := Option.isSome_of_eq_some hrun
  have hbounded : (es.map fun e => e.1).filter (fun k => boundedKeys.contains k) = [] := by
    simp only [List.filter_eq_nil_iff, List.mem_map]
    rintro k ⟨e, he, rfl⟩
    rw [(valueKey_quiet e.1 (hquiet e he)).2.2]
    decide
  have hlaunch : ((s.recordOutcome c.ident 0 0 (some c.beat)).setAll es).launch = s.launch := by
    rw [State.setAll_dict]
    rfl
  have hstill : ((s.recordOutcome c.ident 0 0 (some c.beat)).setAll es).running = true := by
    rw [State.running, hlaunch, hrun]
    rfl
  unfold State.switch
  simp only [hrun, hrunning, hstill, hlaunch, if_true, hes, State.applyEntries_quiet hquiet, hbounded, List.foldl_nil, Bool.true_and, beq_iff_eq, if_neg hbeat]

end

end Sys2Proof.Machine

namespace Sys2Proof.Machine

/-! ## A committed group (R118 to R121) -/

theorem State.bump_log (s : State) (key : Key) (n : Nat) : (s.bump key n).log = s.log := rfl

theorem State.counted_log (s : State) (ses : Session) : (s.counted ses).log = s.log := State.bump_log _ _ 1

theorem State.obj_counted (s : State) (ses : Session) {k : Key} (hk : k ≠ ob 0x2020 0x0A) : (s.counted ses).obj k = s.obj k := State.obj_bump_other _ 1 hk

/-- An outcome counts commits, and changes no other object. -/
theorem State.obj_recordOutcome (s : State) (ident code detail : Nat) (applied : Option Nat) {k : Key} (happlied : k ≠ ob 0x2010 0x0A) (hrefused : k ≠ ob 0x2010 0x0B) :
    (s.recordOutcome ident code detail applied).obj k = s.obj k := by
  have hk : k ≠ if code = 0 then ob 0x2010 0x0A else ob 0x2010 0x0B := by
    split
    · exact happlied
    · exact hrefused
  exact State.obj_bump_other (s.modCommit fun c => { c with lastResult := code, lastDetail := detail, lastBeat := applied.getD c.lastBeat }) 1 hk

section
variable (s : State) (ident code detail : Nat) (applied : Option Nat)

theorem State.recordOutcome_commit : (s.recordOutcome ident code detail applied).commit
    = { s.commit with lastResult := code, lastDetail := detail, lastBeat := applied.getD s.commit.lastBeat } := rfl

theorem State.recordOutcome_crust : (s.recordOutcome ident code detail applied).crust = s.crust := rfl
theorem State.recordOutcome_launch : (s.recordOutcome ident code detail applied).launch = s.launch := rfl
theorem State.recordOutcome_power : (s.recordOutcome ident code detail applied).power = s.power := rfl
theorem State.recordOutcome_outbox : (s.recordOutcome ident code detail applied).outbox = s.outbox := rfl
theorem State.recordOutcome_log : (s.recordOutcome ident code detail applied).log = s.log := rfl

end

section
variable (s : State) (es : List (Key × Val))

theorem State.setAll_commit : (s.setAll es).commit = s.commit := by rw [State.setAll_dict]
theorem State.setAll_server : (s.setAll es).server = s.server := by rw [State.setAll_dict]
theorem State.setAll_mem : (s.setAll es).mem = s.mem := by rw [State.setAll_dict]
theorem State.setAll_launch : (s.setAll es).launch = s.launch := by rw [State.setAll_dict]
theorem State.setAll_power : (s.setAll es).power = s.power := by rw [State.setAll_dict]
theorem State.setAll_outbox : (s.setAll es).outbox = s.outbox := by rw [State.setAll_dict]
theorem State.setAll_log : (s.setAll es).log = s.log := by rw [State.setAll_dict]

end

/-- The request that waits for a commit learns its outcome. -/
theorem State.recordOutcome_settles {s : State} {w : Work} {ident : Nat} {r : RespItem} (hworks : s.server.works = [w]) (hwaits : w.waits = some (ident, r))
    (code detail : Nat) (applied : Option Nat) : (s.recordOutcome ident code detail applied).server.works = [{ w with outcome := some code }] := by
  simp [State.recordOutcome, State.settle, State.bump_server, hworks, hwaits]

/-- A request that waits holds the server as long as no commit switches. -/
theorem State.serve_waits {s : State} {c : Commit} {w : Work} (hworks : s.server.works = [w]) (hwaits : w.waits.isSome = true) (hpending : w.outcome = none)
    (hgroup : s.commit.group = some c) (hnot : s.switches c = false) (himplicit : s.commit.implicit = []) (hinstant : s.commit.instant = [])
    (hlatched : s.power.latched = none) : s.serve = s := by
  unfold State.serve
  simp only [State.latchedPower_none hlatched, State.startCommits_waits himplicit hinstant hgroup hnot]
  exact State.serveLoop_waits hworks hwaits hpending _

/-- A ready report at the committed group alone. -/
theorem State.engineReady_group {s : State} {c : Commit} (hgroup : s.commit.group = some c) (himplicit : s.commit.implicit = []) (hkept : s.dropPassed = s) (e : Engine) :
    s.engineReady e = (s.modCommit fun k => { k with group := some (s.reportIn c e) }).startCommits := by
  unfold State.engineReady
  rw [hkept]
  simp only [State.modCommit, hgroup, himplicit, Option.map_some]

theorem State.dropPassed_kept {s : State} {c : Commit} (hgroup : s.commit.group = some c) (hkept : c.beat = 0 ∨ s.begunBy c.beat s.now = false) : s.dropPassed = s := by
  unfold State.dropPassed
  rw [hgroup]
  rcases hkept with h | h <;> simp [h]

end Sys2Proof.Machine

namespace Sys2Proof

open Machine

section
variable {s : State} {c : Commit} {w : Work} {r : RespItem} (h : GroupWaits s c w r)
include h

theorem GroupWaits.advance (t : Nat) : GroupWaits (s.advance t) c w r :=
  ⟨h.group, h.works, h.waits, h.begun, h.outcome, h.plain, h.items, h.fresh, h.implicit, h.instant, h.latched⟩

/-- With another commit that does not switch in its place, the group goes on waiting. -/
theorem GroupWaits.serve_kept {c' : Commit} (hnot : (s.modCommit fun k => { k with group := some c' }).switches c' = false) :
    (s.modCommit fun k => { k with group := some c' }).startCommits.serve = s.modCommit fun k => { k with group := some c' } := by
  have hwaits : w.waits.isSome = true := Option.isSome_of_eq_some h.waits
  rw [State.startCommits_waits (s := s.modCommit fun k => { k with group := some c' }) h.implicit h.instant rfl hnot]
  exact State.serve_waits h.works hwaits h.outcome rfl hnot h.implicit h.instant h.latched

/-! ## Ready reports (R120) -/

theorem engineReady_leaves {e : Engine} (hscheduled : c.scheduled = false) (hleft : (c.notReady.filter fun x => x != e) ≠ [])
    (hbeat : c.beat = 0 ∨ s.begunBy c.beat s.now = false) :
    (s.engineReady e).serve = { s with commit := { s.commit with group := some { c with notReady := c.notReady.filter fun x => x != e } } } := by
  have hreport : s.reportIn c e = { c with notReady := c.notReady.filter fun x => x != e } := by
    simp [State.reportIn, hleft]
  rw [State.engineReady_group h.group h.implicit (State.dropPassed_kept h.group hbeat), hreport]
  exact h.serve_kept (State.switches_unscheduled _ hscheduled)

theorem engineReady_schedules {e : Engine} {run : Run} (hrun : s.launch.run = some run) (hperiod : 0 < run.period) (hstarted : c.started = true)
    (hscheduled : c.scheduled = false) (hlast : c.notReady = [e]) (hbeat : c.beat = 0) :
    (s.engineReady e).serve = { s with commit := { s.commit with group := some { c with notReady := [], scheduled := true, beat := s.nextBeat } } } := by
  have hreport : s.reportIn c e = { c with notReady := [], scheduled := true, beat := s.nextBeat } := by
    simp [State.reportIn, State.scheduleOf, Commit.waits, hstarted, hscheduled, hlast, hbeat]
  rw [State.engineReady_group h.group h.implicit (State.dropPassed_kept h.group (.inl hbeat)), hreport]
  exact h.serve_kept (State.switches_nextBeat hrun hperiod rfl)

/-! ## The switch (R119) -/

theorem switchDue_switches {run : Run} (hrun : s.launch.run = some run) (hscheduled : c.scheduled = true) (hbegun : run.countOf c.beat ≤ s.now)
    (hquiet : ∀ e ∈ c.entries, e.1 ∈ quietKeys) (hdue : s.changeDue c.beat = false) (hbeat : s.launch.lastBeat ≠ some c.beat) :
    s.switchDue = (s.closeGroup.recordOutcome c.ident 0 0 (some c.beat)).setAll c.entries := by
  have hswitches : s.switches c = true := by simp [State.switches, State.begunBy, hrun, hscheduled, hbegun, hdue]
  rw [State.switchDue_group h.implicit h.instant, State.switchGroup, h.group]
  simp only [hswitches, if_true]
  exact State.switch_allQuiet (s := s.closeGroup) hquiet rfl hrun hbeat

/-- The state in which a group's quiet values have become active, as the server is about to answer. -/
theorem GroupWaits.serve_switched (applied : Option Nat) (es : List (Key × Val)) :
    ((s.closeGroup.recordOutcome c.ident 0 0 applied).setAll es).serve
      = (((s.closeGroup.recordOutcome c.ident 0 0 applied).setAll es).counted w.ses).emit (.response w.ses [r]) := by
  have hworks : ((s.closeGroup.recordOutcome c.ident 0 0 applied).setAll es).server.works = [{ w with outcome := some 0 }] := by
    rw [State.setAll_server]
    exact State.recordOutcome_settles (s := s.closeGroup) h.works h.waits 0 0 applied
  have hcommit : ((s.closeGroup.recordOutcome c.ident 0 0 applied).setAll es).commit
      = { s.closeGroup.commit with lastResult := 0, lastDetail := 0, lastBeat := applied.getD s.commit.lastBeat } := by
    rw [State.setAll_commit, State.recordOutcome_commit]
    rfl
  refine State.serve_settled hworks h.waits h.begun h.plain h.items h.fresh ?_ (hcommit ▸ rfl) (hcommit ▸ h.implicit) (hcommit ▸ h.instant)
  rw [State.setAll_power, State.recordOutcome_power]
  exact h.latched

/-! ## Aborts (R121) -/

/-- An abort records the outcome, closes the group, and announces its fault. -/
theorem GroupWaits.abortGroup_announces (code faultCode detail : Nat) :
    Announces (s.recordOutcome c.ident code 0 none).closeGroup (s.abortGroup code faultCode detail) := by
  rw [State.abortGroup, h.group]
  exact fault_announces ..

omit h in
/-- The committed group of `s` is gone with nothing applied, and its request is answered with the code. -/
def GroupAborted (s : State) (w : Work) (r : RespItem) (code : Nat) (u : State) : Prop :=
  u.commit.group = none ∧ u.commit.owner = none ∧ u.commit.pending = s.commit.pending ∧ u.commit.lastResult = code
    ∧ u.server.works = [] ∧ u.outbox.getLast? = some (.response w.ses [{ r with code := code, data := [] }]) ∧ u.mem = s.mem ∧ u.launch = s.launch

theorem GroupWaits.abort_answers {code : Nat} (hcode : code ≠ 0) (faultCode detail : Nat) :
    GroupAborted s w r code (s.abortGroup code faultCode detail).startCommits.serve := by
  set a := (s.recordOutcome c.ident code 0 none).closeGroup with ha
  set b := s.abortGroup code faultCode detail with hb
  have habort : b = a.fault faultCode .chip (at_ 32 32 c.ident ||| detail) := by
    rw [hb, State.abortGroup, h.group]
  have hannounces : Announces a b := h.abortGroup_announces code faultCode detail
  have hcommit : b.commit = a.commit := by rw [hannounces.1]
  have hworks : b.server.works = [{ w with outcome := some code }] := by
    rw [habort, State.fault_server]
    exact State.recordOutcome_settles h.works h.waits code 0 none
  have hgroup : b.commit.group = none := hcommit ▸ rfl
  have himplicit : b.commit.implicit = [] := hcommit ▸ h.implicit
  have hinstant : b.commit.instant = [] := hcommit ▸ h.instant
  have hserve : b.startCommits.serve = (b.counted w.ses).emit (.response w.ses [{ r with code := code, data := [] }]) := by
    rw [State.startCommits_free b hgroup himplicit hinstant,
      State.serve_settled hworks h.waits h.begun h.plain h.items h.fresh (hannounces.power ▸ h.latched) hgroup himplicit hinstant, outcomeItem, if_neg hcode]
  rw [hserve]
  refine ⟨hgroup, ?_, ?_, ?_, rfl, List.getLast?_concat .., ?_, ?_⟩
  · exact congrArg CommitCtl.owner hcommit
  · rw [State.emit_commit, State.counted_commit, hcommit]
    rfl
  · rw [State.emit_commit, State.counted_commit, hcommit]
    rfl
  · rw [State.emit_mem, State.counted_mem, hannounces.mem]
    exact State.recordOutcome_mem s c.ident code 0 none
  · rw [State.emit_launch, State.counted_launch, hannounces.launch]
    exact State.recordOutcome_launch s c.ident code 0 none

theorem commitTimeouts_aborts (hwaits : c.waits = true) (hlate : c.since + 1000000 * s.nat (ob 0x2010 4) ≤ s.now) :
    s.commitTimeouts = (s.abortGroup 0x0E000007 0x0E01 (at_ 16 16 1 ||| at_ 16 0 c.notReady.length)).startCommits := by
  have himplicit : (s.abortGroup 0x0E000007 0x0E01 (at_ 16 16 1 ||| at_ 16 0 c.notReady.length)).commit.implicit = [] := by
    rw [(h.abortGroup_announces _ _ _).1]
    exact h.implicit
  unfold State.commitTimeouts
  simp [h.group, hwaits, hlate, himplicit]

theorem beatPassed_aborts {run : Run} (hwaits : c.waits = true) (hbeat : c.beat ≠ 0) (hrun : s.launch.run = some run) (hbegun : run.countOf c.beat ≤ s.now) :
    s.beatPassed = (s.abortGroup 0x0E000006 0x0E01 (at_ 16 16 2 ||| at_ 16 0 c.notReady.length)).startCommits := by
  have hpassed : s.begunBy c.beat s.now = true := by simp [State.begunBy, hrun, hbegun]
  unfold State.beatPassed State.dropPassed
  simp [h.group, hwaits, hbeat, hpassed]

/-! ## The clauses of O14 -/

theorem commitSwitch_answers (t : Nat) {run : Run} (hrun : s.launch.run = some run) (hscheduled : c.scheduled = true) (hbegun : run.countOf c.beat ≤ (s.advance t).now)
    (hquiet : ∀ e ∈ c.entries, e.1 ∈ quietKeys) (hdue : (s.advance t).changeDue c.beat = false) (hbeat : s.launch.lastBeat ≠ some c.beat) :
    Ends (.commitSwitch t) s fun u => u.commit.group = none ∧ u.commit.owner = none ∧ u.commit.lastResult = 0 ∧ u.commit.lastBeat = c.beat ∧ u.server.works = []
      ∧ (∀ k : Key, k ∉ [ob 0x2020 0x0A, ob 0x2010 0x0A, ob 0x2010 0x0B] → u.obj k = (c.entries.foldl (fun x e => x.setObj e.1 e.2) s).obj k)
      ∧ u.outbox = s.outbox ++ [.response w.ses [r]] ∧ u.mem = s.mem ∧ u.launch = s.launch ∧ u.log = s.log := by
  have hwait := h.advance t
  set a := (s.advance t).closeGroup.recordOutcome c.ident 0 0 (some c.beat) with ha
  have hswitch : (s.advance t).switchDue = a.setAll c.entries := switchDue_switches hwait hrun hscheduled hbegun hquiet hdue hbeat
  have hexec : exec (.commitSwitch t) s = .next (((a.setAll c.entries).counted w.ses).emit (.response w.ses [r])) :=
    congrArg Host.Outcome.next ((congrArg State.serve hswitch).trans (hwait.serve_switched (some c.beat) c.entries))
  have hcommit : (((a.setAll c.entries).counted w.ses).emit (.response w.ses [r])).commit
      = { (s.advance t).closeGroup.commit with lastResult := 0, lastDetail := 0, lastBeat := c.beat } := by
    rw [State.emit_commit, State.counted_commit, State.setAll_commit, ha, State.recordOutcome_commit]
    rfl
  refine ⟨_, hexec, ?_, ?_, ?_, ?_, rfl, fun k hk => ?_, ?_, ?_, ?_, ?_⟩
  · rw [hcommit]
    rfl
  · rw [hcommit]
    rfl
  · rw [hcommit]
  · rw [hcommit]
  · simp only [List.mem_cons, List.not_mem_nil, or_false, not_or] at hk
    obtain ⟨hserved, happlied, hrefused⟩ := hk
    have hrecorded : a.obj k = s.obj k := State.obj_recordOutcome _ _ _ _ _ happlied hrefused
    have hset : (a.setAll c.entries).obj k = (s.setAll c.entries).obj k := State.obj_setAll (s := s) (u := a) (State.recordOutcome_crust ..) hrecorded c.entries
    exact (State.obj_counted (a.setAll c.entries) w.ses hserved).trans hset
  · rw [State.emit_outbox, State.counted_outbox, State.setAll_outbox]
    exact congrArg (· ++ _) (State.recordOutcome_outbox ..)
  · rw [State.emit_mem, State.counted_mem, State.setAll_mem, ha, State.recordOutcome_mem]
    rfl
  · rw [State.emit_launch, State.counted_launch, State.setAll_launch]
    exact State.recordOutcome_launch ..
  · rw [State.emit_log, State.counted_log, State.setAll_log]
    exact State.recordOutcome_log ..

end

theorem groupIdle_discards {s : State} {ses : Session} (h : ServerFree s ses) (howner : s.commit.owner = some ses)
    (hidle : s.commit.lastActivity + 1000000000 * s.nat (ob 0x2010 0x0D) ≤ s.now) :
    s.groupIdle.serve = ({ s with commit := { s.commit with owner := none, entries := [] }, dict := { s.dict with owed := s.dict.owed ++ [ses] } } : State).fault
      0x0E05 .chip (at_ 32 32 (Config.sessionCode ses) ||| at_ 8 0 1) := by
  set a : State := { s with commit := { s.commit with owner := none, entries := [] }, dict := { s.dict with owed := s.dict.owed ++ [ses] } } with ha
  have hclosed : s.closeGroup.modDict (fun d => { d with owed := if d.owed.contains ses then d.owed else d.owed ++ [ses] }) = a := by
    have howed : (s.dict.owed.contains ses) = false := h.owed
    rw [ha, State.closeGroup, State.modCommit, State.modDict, ← h.group, howed]
    rfl
  have hdiscard : s.groupIdle = a.fault 0x0E05 .chip (at_ 32 32 (Config.sessionCode ses) ||| at_ 8 0 1) := by
    unfold State.groupIdle State.discardGroup
    simp only [howner, hidle, h.group, Option.isSome_some, decide_true, Bool.and_true, if_true, hclosed]
  have hserver : ServerIdle a := ⟨h.works, h.latched, h.group, h.implicit, h.instant⟩
  rw [hdiscard]
  exact (hserver.keeps ((Keeps.refl a).fault _ _ _ _)).serve

/-- Settles O14: the ready reports keep the group waiting (`GroupWaits.serve_kept`), a switch or an abort answers its request (`State.serve_settled`). -/
theorem committedGroupSwitchesOrAborts : Obligations.CommittedGroupSwitchesOrAborts := by
  refine ⟨fun s t c w r h => ⟨?_, ?_, ?_, ?_, ?_⟩, fun s t ses h howner hidle => ?_⟩
  · intro e _ hscheduled _ hleft hbeat
    exact congrArg Host.Outcome.next (engineReady_leaves (h.advance t) hscheduled hleft hbeat)
  · intro e run hrun hperiod hstarted hscheduled hlast hbeat
    exact congrArg Host.Outcome.next (engineReady_schedules (h.advance t) hrun hperiod hstarted hscheduled hlast hbeat)
  · exact fun run hrun hscheduled hbegun hquiet hdue hbeat => commitSwitch_answers h t hrun hscheduled hbegun hquiet hdue hbeat
  · intro hwaits hlate
    exact ⟨_, congrArg Host.Outcome.next (congrArg State.serve (commitTimeouts_aborts (h.advance t) hwaits hlate)), (h.advance t).abort_answers (by decide) _ _⟩
  · intro run hwaits hbeat hrun hbegun
    exact ⟨_, congrArg Host.Outcome.next (congrArg State.serve (beatPassed_aborts (h.advance t) hwaits hbeat hrun hbegun)), (h.advance t).abort_answers (by decide) _ _⟩
  · exact congrArg Host.Outcome.next (groupIdle_discards (h.advance t) howner hidle)

end Sys2Proof

namespace Sys2Proof.Machine

/-! ## The header of a frame sent (R127) -/

/-- A field above all the bits set so far. -/
theorem or_at {a lo : Nat} (h : a < 2 ^ lo) (w v : Nat) : a ||| at_ w lo v = a + v % 2 ^ w * 2 ^ lo := by
  rw [at_, Nat.or_comm, ← Nat.shiftLeft_add_eq_or_of_lt h, Nat.shiftLeft_eq, Nat.add_comm]

section
variable (type flags length session seq weft status : Nat)

/-- The header as a number: its fields, each at its place. -/
theorem frameHeader_toNat : (frameHeader type flags length session seq weft status).toNat
    = 0xBA5A + 1 * 2 ^ 16 + type % 2 ^ 8 * 2 ^ 24 + flags % 2 ^ 16 * 2 ^ 32 + length % 2 ^ 16 * 2 ^ 48 + session % 2 ^ 32 * 2 ^ 64 + seq % 2 ^ 32 * 2 ^ 96
      + weft % 2 ^ 64 * 2 ^ 128 + status % 2 ^ 32 * 2 ^ 192 := by
  have hfirst : at_ 16 0 0xBA5A ||| at_ 8 16 1 = 0xBA5A + 1 * 2 ^ 16 := by decide
  rw [frameHeader, hfirst, or_at (lo := 24) (by omega), or_at (lo := 32) (by omega), or_at (lo := 48) (by omega), or_at (lo := 64) (by omega),
    or_at (lo := 96) (by omega), or_at (lo := 128) (by omega), or_at (lo := 192) (by omega), BitVec.toNat_ofNat, Nat.mod_eq_of_lt (by omega)]

theorem frameHeader_fields :
    let h := frameHeader type flags length session seq weft status
    fld h 15 0 = 0xBA5A ∧ fld h 23 16 = 1 ∧ fld h 31 24 = type % 256 ∧ fld h 47 32 = flags % 2 ^ 16 ∧ fld h 63 48 = length % 2 ^ 16
      ∧ fld h 95 64 = session % 2 ^ 32 ∧ fld h 127 96 = seq % 2 ^ 32 ∧ fld h 191 128 = weft % 2 ^ 64 ∧ fld h 223 192 = status % 2 ^ 32 ∧ fld h 255 224 = 0 := by
  simp only [fld, bits, frameHeader_toNat, Nat.shiftRight_eq_div_pow, Nat.reduceSub, Nat.reduceAdd, Nat.reducePow]
  refine ⟨?_, ?_, ?_, ?_, ?_, ?_, ?_, ?_, ?_, ?_⟩ <;> omega

end

end Sys2Proof.Machine

namespace Sys2Proof.Machine

/-! ## Recording a fault keeps every session (R136) -/

/-- What a session is to its peer; its own sequence number, its cache and its waiting emergencies left out. -/
def BSession.identity (b : BSession) : Nat × Bytes × Nat × Bool × Option Nat × Nat := (b.num, b.key, b.peer, b.ours, b.lastSeq, b.lastAt)

/-- The sessions that are open, and what each is. -/
def State.openSessions (s : State) : List (Nat × Bytes × Nat × Bool × Option Nat × Nat) := s.basaris.sessions.map BSession.identity

theorem State.bump_basaris (s : State) (key : Key) (n : Nat) : (s.bump key n).basaris = s.basaris := rfl

theorem State.bump_openSessions (s : State) (key : Key) (n : Nat) : (s.bump key n).openSessions = s.openSessions := rfl

theorem State.nodeFrame_basaris (s : State) (o : Output) : (s.nodeFrame o).basaris = s.basaris := by
  unfold State.nodeFrame State.frameOn
  split <;> rfl

theorem State.queueEmcy_basaris (s : State) (m : Emcy) : (s.queueEmcy m).basaris = s.basaris := by
  unfold State.queueEmcy
  split
  · rfl
  · split
    · exact State.nodeFrame_basaris s _
    · split
      · rfl
      · exact State.bump_basaris _ _ 1

theorem State.sendWire_basaris (s : State) (o : Output) : (s.sendWire o).basaris = s.basaris := by
  unfold State.sendWire
  split <;> rfl

theorem State.announcePcie_basaris (s : State) (r : FaultRec) : (s.announcePcie r).basaris = s.basaris := by
  unfold State.announcePcie
  dsimp only
  split
  · rfl
  · split
    · exact State.bump_basaris s _ 1
    · split <;> rfl

theorem State.announceBasaris_openSessions (s : State) (r : FaultRec) : (s.announceBasaris r).openSessions = s.openSessions := by
  have hsent : ∀ (l : List BSession) (g : BSession → Output) (x : State), (l.foldl (fun acc b => acc.sendWire (g b)) x).basaris = x.basaris := by
    intro l g
    induction l with
    | nil => exact fun _ => rfl
    | cons b l ih => exact fun x => (ih _).trans (x.sendWire_basaris (g b))
  unfold State.announceBasaris State.openSessions
  rw [State.modBasaris_basaris, hsent, List.map_map]
  rfl

theorem State.record_openSessions (s : State) (r : FaultRec) : (s.record r).openSessions = s.openSessions := by
  have hannounce : ∀ x : State, (x.announce r).openSessions = x.openSessions := by
    intro x
    unfold State.announce
    split
    · rfl
    · rw [State.openSessions, State.emit_basaris, State.announcePcie_basaris]
      refine (State.announceBasaris_openSessions _ r).trans ?_
      rw [State.openSessions, State.queueEmcy_basaris, State.openSessions]
  have hcount : ∀ (x : State) (k : Fin 16) (n : Nat), (x.countChip k n).openSessions = x.openSessions := fun _ _ _ => rfl
  unfold State.record
  split
  · rfl
  · rw [hcount, hannounce, State.openSessions, State.modLog_basaris, State.openSessions]

theorem State.fault_openSessions (s : State) (code : Nat) (loc : Loc) (detail part : Nat) : (s.fault code loc detail part).openSessions = s.openSessions := by
  have htold : ∀ (x : State) (before : Nat), (x.tellDisplaced before).openSessions = x.openSessions := by
    intro x before
    unfold State.tellDisplaced
    extract_lets due
    split
    · exact State.record_openSessions (x.modNode fun n => { n with displacedAt := some x.now }) _
    · rfl
  exact (htold _ _).trans (State.record_openSessions s _)

end Sys2Proof.Machine

namespace Sys2Proof

open Machine

/-! ## Frames that are discarded (R37, R128) -/

/-- The commands by which a Basaris frame comes in. -/
def basarisCommands (t : Nat) (f : BFrame) : List Instr :=
  [.sessionOpenRequest t f, .sessionOpenResponse t f, .sessionClose t f, .keepAlive t f, .readRequest t f, .writeRequest t f, .emergencyAcknowledge t f,
    .launchProposal t f, .launchAcknowledge t f, .launchConfirm t f, .launchConfirmResponse t f, .launchAbort t f, .unrecognisedBasarisFrame t f]

/-- Each of them takes the frame by the type in its header. -/
theorem exec_basaris {s : State} {t : Nat} {f : BFrame} {c : Instr} (hc : c ∈ basarisCommands t f) : exec c s = .next ((s.advance t).takeBasaris f) := by
  simp only [basarisCommands, List.mem_cons, List.not_mem_nil, or_false] at hc
  rcases hc with rfl | rfl | rfl | rfl | rfl | rfl | rfl | rfl | rfl | rfl | rfl | rfl | rfl <;> rfl

/-- No session, no launch, no memory, no commit and no request of `s` has changed in `u`. -/
structure Discards (s u : State) : Prop where
  sessions : u.openSessions = s.openSessions
  launch : u.launch = s.launch
  mem : u.mem = s.mem
  commit : u.commit = s.commit
  server : u.server = s.server

theorem Discards.refl (s : State) : Discards s s := ⟨rfl, rfl, rfl, rfl, rfl⟩

theorem rejectFrame_discards (s : State) (source reason : Nat) : Discards s (s.rejectFrame source reason) := by
  unfold State.rejectFrame
  extract_lets s1 due
  split
  · have hannounces := fault_announces (s1.modBasaris fun b => { b with rejectedAt := put b.rejectedAt source s.now }) 0x0E03 .chip (at_ 32 32 source ||| at_ 8 0 reason) 0
    refine ⟨State.fault_openSessions _ _ _ _ _, hannounces.launch, hannounces.mem, ?_, State.fault_server ..⟩
    rw [hannounces.1]
    exact State.bump_commit s (ob 0x2020 7) 1
  · exact ⟨State.bump_openSessions s _ 1, State.bump_launch s _ 1, State.bump_mem s _ 1, State.bump_commit s _ 1, State.bump_server s _ 1⟩

/-- A frame whose magic or version is wrong, or, beside the frames that open sessions, one that names no session or has a wrong length or tag. -/
def WrongFrame (s : State) (f : BFrame) : Prop :=
  bfMagic f ≠ 0xBA5A ∨ bfVersion f ≠ 1 ∨ (bfType f ≠ 1 ∧ bfType f ≠ 2 ∧ (s.findSession f = none ∨ (∃ b, s.findSession f = some b
    ∧ (s.payloadLimit f.source < bfLength f ∨ bfLength f ≠ f.payload.length ∨ f.tag ≠ frameTag b.key f))))

section
variable {s : State} {f : BFrame}

theorem takeBasaris_closed (h : s.basaris.enabled = false ∨ s.ethernetPowered = false) : s.takeBasaris f = s := by
  unfold State.takeBasaris
  rcases h with h | h <;> simp [h]

theorem takeBasaris_wrong (h : WrongFrame s f) : Discards s (s.takeBasaris f) := by
  unfold State.takeBasaris
  split
  · exact .refl s
  split
  · exact rejectFrame_discards ..
  next hheader =>
  split
  · exact rejectFrame_discards ..
  obtain ⟨hmagic, hversion⟩ := not_or.mp hheader
  obtain hwrong | hwrong | ⟨hrequest, hresponse, hsession⟩ := h
  · exact absurd hwrong hmagic
  · exact absurd hwrong hversion
  rw [if_neg hrequest, if_neg hresponse]
  obtain hnone | ⟨b, hb, hlength⟩ := hsession
  · rw [hnone]
    exact rejectFrame_discards ..
  · rw [hb]
    dsimp only
    split
    · exact rejectFrame_discards ..
    next hfits =>
    rw [if_pos (hlength.elim (fun hlong => absurd (.inl hlong) hfits) fun h => h.elim (fun hlen => absurd (.inr hlen) hfits) id)]
    exact rejectFrame_discards ..

section
variable (henabled : s.basaris.enabled = true) (hpowered : s.ethernetPowered = true) (hmagic : bfMagic f = 0xBA5A) (hversion : bfVersion f = 1)
include henabled hpowered hmagic hversion

theorem takeBasaris_unknown (htype : frameTypes.contains (bfType f) = false) : s.takeBasaris f = s.rejectFrame f.source 3 := by
  unfold State.takeBasaris
  simp only [henabled, hpowered, hmagic, hversion, htype, Bool.not_true, Bool.or_self, Bool.not_false, ne_eq, not_true, or_self, if_false, if_true, Bool.false_eq_true]

theorem takeBasaris_request (htype : bfType f = 1) : s.takeBasaris f = s.openRequest f := by
  unfold State.takeBasaris
  simp [henabled, hpowered, hmagic, hversion, htype, frameTypes]

theorem takeBasaris_response (htype : bfType f = 2) : s.takeBasaris f = s.frameOpened f := by
  unfold State.takeBasaris
  simp [henabled, hpowered, hmagic, hversion, htype, frameTypes]

end

/-- A source that has not been recorded for a second is recorded again. -/
theorem rejectFrame_due {source reason : Nat} (h : ∀ c, get? s.basaris.rejectedAt source = some c → 1000000000 + c ≤ s.now) :
    s.rejectFrame source reason = ({ s.bump (ob 0x2020 7) with basaris := { s.basaris with rejectedAt := put s.basaris.rejectedAt source s.now } } : State).fault
      0x0E03 .chip (at_ 32 32 source ||| at_ 8 0 reason) := by
  unfold State.rejectFrame
  extract_lets s1 due
  have hdue : due = true := by
    unfold due
    split
    next c hc => exact decide_eq_true (h c hc)
    next => rfl
  rw [if_pos hdue]
  rfl

theorem rejectFrame_early {source reason c : Nat} (hat : get? s.basaris.rejectedAt source = some c) (h : s.now < 1000000000 + c) :
    s.rejectFrame source reason = s.bump (ob 0x2020 7) := by
  unfold State.rejectFrame
  simp [hat, h]

end

/-! ## Sessions open (R127, R131) -/

section
variable {s : State} {f : BFrame}

section
variable (hpayload : f.payload.length = 16) (hlength : bfLength f = 16)
include hpayload hlength

theorem openRequest_unanswered (hkey : (s.raw (ob 0x2020 4)).all (fun b => b == 0) = true) : s.openRequest f = s := by
  unfold State.openRequest
  simp only [hpayload, hlength, hkey, ne_eq, not_true, or_self, if_false, if_true]

theorem openRequest_limit (hkey : (s.raw (ob 0x2020 4)).all (fun b => b == 0) = false) (htag : f.tag = frameTag (s.raw (ob 0x2020 4)) f)
    (hlimit : s.nat (ob 0x2020 3) ≤ s.basaris.sessions.length) :
    s.openRequest f = s.sendWire (s.wire (s.raw (ob 0x2020 4)) f.source 0 0x02 1 (bfSequence f) 0x0E00000C []) := by
  unfold State.openRequest
  simp only [hpayload, hlength, hkey, ← htag, hlimit, ne_eq, not_true, or_self, if_false, if_true, Bool.false_eq_true]

/-- The session that an open request opens, with a nonce of the device. -/
def openedSession (s : State) (f : BFrame) (nonce : Bytes) : BSession :=
  { num := s.basaris.nextNum, key := hmac (s.raw (ob 0x2020 4)) (ascii "BASARIS1" ++ f.payload ++ nonce), peer := f.source, ours := false, lastSeq := none, cache := []
    lastAt := s.now, txSeq := 0, emergencies := [] }

theorem openRequest_opens (hpowered : s.ethernetPowered = true) (hkey : (s.raw (ob 0x2020 4)).all (fun b => b == 0) = false)
    (htag : f.tag = frameTag (s.raw (ob 0x2020 4)) f) (hroom : s.basaris.sessions.length < s.nat (ob 0x2020 3)) :
    ∃ nonce : Bytes, nonce.length = 16 ∧ s.openRequest f
      = ((s.modService fun v => { v with entropy := v.entropy + 1 }).modBasaris fun x =>
          { x with sessions := x.sessions ++ [openedSession s f nonce], nextNum := if x.nextNum + 1 < 2 ^ 32 then x.nextNum + 1 else 1 }).emit
            (s.wire (s.raw (ob 0x2020 4)) f.source s.basaris.nextNum 0x02 1 (bfSequence f) 0 nonce) := by
  refine ⟨leBytes 16 (Config.nonce s.service.entropy), leBytes_length _ _, ?_⟩
  unfold State.openRequest
  simp only [hpayload, hlength, hkey, ← htag, Nat.not_le.mpr hroom, ne_eq, not_true, or_self, if_false, Bool.false_eq_true]
  exact if_pos hpowered

end

section
variable {nonce : Bytes} (hopening : get? s.basaris.opening f.source = some nonce) (hpayload : f.payload.length = 16) (hlength : bfLength f = 16)
  (hstatus : bfStatus f = 0) (htag : f.tag = frameTag (s.raw (ob 0x2020 4)) f)
include hopening hpayload hlength hstatus htag

theorem frameOpened_limit (hlimit : s.nat (ob 0x2020 3) ≤ s.basaris.sessions.length) :
    s.frameOpened f = s.modBasaris fun x => { x with opening := del x.opening f.source } := by
  unfold State.frameOpened State.openResponse
  simp only [hopening, hpayload, hlength, hstatus, ← htag, hlimit, ne_eq, not_true, or_self, or_true, if_false, if_true, false_and]

/-- The session that the member's answer opens. -/
def answeredSession (s : State) (f : BFrame) (nonce : Bytes) : BSession :=
  { num := bfSession f, key := hmac (s.raw (ob 0x2020 4)) (ascii "BASARIS1" ++ nonce ++ f.payload), peer := f.source, ours := true, lastSeq := none, cache := []
    lastAt := s.now, txSeq := 0, emergencies := [] }

theorem frameOpened_opens (hroom : s.basaris.sessions.length < s.nat (ob 0x2020 3)) (hstate : s.launch.state ≠ .proposed) :
    s.frameOpened f = s.modBasaris fun x =>
      { x with opening := del x.opening f.source, sessions := (x.sessions.filter fun c => !c.same (answeredSession s f nonce)) ++ [answeredSession s f nonce] } := by
  unfold State.frameOpened State.openResponse
  simp only [hopening, hpayload, hlength, hstatus, ← htag, Nat.not_le.mpr hroom, ne_eq, not_true, or_self, if_false, false_and]
  exact if_neg fun h => hstate h.1

end

end

/-! ## Sessions end (R127, R139) -/

/-- What ends sessions changes the sessions and what they have under way, and nothing else. -/
def EndsSessions (s u : State) : Prop :=
  u = { s with basaris := u.basaris, dict := u.dict, server := u.server } ∧ u.dict.active = s.dict.active ∧ u.server.works = s.server.works

theorem EndsSessions.trans {s u v : State} (hsu : EndsSessions s u) (huv : EndsSessions u v) : EndsSessions s v := by
  obtain ⟨hu, hactive, hworks⟩ := hsu
  obtain ⟨hv, hactive', hworks'⟩ := huv
  exact ⟨hv.trans (by rw [hu]), hactive'.trans hactive, hworks'.trans hworks⟩

theorem endSession_sessions (s : State) (b : BSession) : (s.endSession b).basaris.sessions = s.basaris.sessions.filter fun c => !c.same b := rfl

theorem endSession_endsSessions (s : State) (b : BSession) : EndsSessions s (s.endSession b) := ⟨rfl, rfl, rfl⟩

theorem BSession.same_self (b : BSession) : b.same b = true := by simp [BSession.same]

/-- The sessions that stay when each of a list ends. -/
theorem endSessions_sessions (l : List BSession) (s : State) :
    (l.foldl (fun acc b => acc.endSession b) s).basaris.sessions = s.basaris.sessions.filter fun c => l.all fun b => !c.same b := by
  induction l generalizing s with
  | nil => simp
  | cons b l ih =>
    rw [List.foldl_cons, ih, endSession_sessions, List.filter_filter]
    exact List.filter_congr fun c _ => by simp [Bool.and_comm]

theorem endSessions_endsSessions (l : List BSession) (s : State) : EndsSessions s (l.foldl (fun acc b => acc.endSession b) s) := by
  induction l generalizing s with
  | nil => exact ⟨rfl, rfl, rfl⟩
  | cons b l ih => exact (endSession_endsSessions s b).trans (ih _)

/-- When each of the open sessions ends, none stays. -/
theorem endSessions_all (s : State) : (s.basaris.sessions.foldl (fun acc b => acc.endSession b) s).basaris.sessions = [] := by
  rw [endSessions_sessions, List.filter_eq_nil_iff]
  intro c hc hall
  have hself := List.all_eq_true.mp hall c hc
  simp [BSession.same_self] at hself

theorem reconfigure_waits {s : State} (h : s.basaris.closing = false ∨ s.server.works.any Work.reconfigures = true) : s.reconfigure = s := by
  unfold State.reconfigure
  rcases h with h | h <;> simp only [h, Bool.not_false, Bool.true_or, Bool.or_true, if_true]

theorem reconfigure_closes {s : State} (hclosing : s.basaris.closing = true) (hanswered : s.server.works.any Work.reconfigures = false) :
    s.reconfigure = (s.basaris.sessions.foldl (fun acc b => acc.endSession b) s).modBasaris fun b =>
      { b with closing := false, port := s.nat (ob 0x2020 2), enabled := s.flag (ob 0x2020 1) } := by
  unfold State.reconfigure
  simp only [hclosing, hanswered, Bool.not_true, Bool.or_self, Bool.false_eq_true, if_false]

/-- Of the sessions without a frame for their timeout, the first under a number ends. -/
theorem sessionTimeout_ends {s : State} {num : Nat} {b : BSession}
    (h : (s.basaris.sessions.find? fun b => b.num == num && decide (b.lastAt + 1000000000 * s.nat (ob 0x2020 5) ≤ s.now)) = some b) : s.sessionTimeout num = s.endSession b := by
  unfold State.sessionTimeout
  rw [h]

theorem sessionTimeout_waits {s : State} {num : Nat} (h : ∀ b ∈ s.basaris.sessions, b.num = num → s.now < b.lastAt + 1000000000 * s.nat (ob 0x2020 5)) :
    s.sessionTimeout num = s := by
  have hnone : (s.basaris.sessions.find? fun b => b.num == num && decide (b.lastAt + 1000000000 * s.nat (ob 0x2020 5) ≤ s.now)) = none := by
    rw [List.find?_eq_none]
    intro b hb
    have hlater := h b hb
    simpa using hlater
  unfold State.sessionTimeout
  rw [hnone]

/-- Being heard does not make a session another one. -/
theorem heard_filter (s : State) (b : BSession) : (s.heard b).basaris.sessions.filter (fun c => !c.same b) = s.basaris.sessions.filter fun c => !c.same b := by
  have hlist : ∀ l : List BSession, (l.map fun c => if c.same b then { c with lastAt := s.now } else c).filter (fun c => !c.same b) = l.filter fun c => !c.same b := by
    intro l
    induction l with
    | nil => rfl
    | cons c l ih =>
      have hsame : ({ c with lastAt := s.now } : BSession).same b = c.same b := rfl
      cases hc : c.same b <;> simp [hc, hsame, ih]
  exact hlist s.basaris.sessions

theorem frameOf_close {s : State} {f : BFrame} (htype : bfType f = 0x03) (b : BSession) : s.frameOf b f = s.endSession b := by
  unfold State.frameOf
  simp only [htype]

theorem frameOf_keepAlive {s : State} {f : BFrame} (htype : bfType f = 0x09) (b : BSession) : s.frameOf b f = s := by
  unfold State.frameOf
  simp only [htype]

/-! ## The clauses of O41 -/

section
variable {s : State} {f : BFrame} {b : BSession} (t : Nat)

theorem sessionClose_ends (h : FrameOf s f b 0x03) :
    Ends (.sessionClose t f) s fun u => u.basaris.sessions = s.basaris.sessions.filter (fun c => !c.same b)
      ∧ u = { s.advance t with basaris := u.basaris, dict := u.dict, server := u.server } ∧ u.dict.active = s.dict.active ∧ u.server.works = s.server.works := by
  have htake := h.takeBasaris t (by decide) (by decide)
  exact ⟨_, congrArg Host.Outcome.next (htake.trans (frameOf_close h.type _)), heard_filter (s.advance t) b, rfl, rfl, rfl⟩

theorem keepAlive_hears (h : FrameOf s f b 0x09) :
    exec (.keepAlive t f) s = .next { s.advance t with basaris := { s.basaris with
      sessions := s.basaris.sessions.map fun c => if c.same b = true then { c with lastAt := (s.advance t).now } else c } } := by
  have htake := h.takeBasaris t (by decide) (by decide)
  exact congrArg Host.Outcome.next (htake.trans (frameOf_keepAlive h.type _))

theorem sessionOpenRequest_opens (henabled : s.basaris.enabled = true) (hpowered : s.ethernetPowered = true) (hmagic : bfMagic f = 0xBA5A) (hversion : bfVersion f = 1)
    (htype : bfType f = 1) (hpayload : f.payload.length = 16) (hlength : bfLength f = 16) (hkey : (s.raw (ob 0x2020 4)).all (fun b => b == 0) = false)
    (htag : f.tag = frameTag (s.raw (ob 0x2020 4)) f) (hroom : s.basaris.sessions.length < s.nat (ob 0x2020 3)) :
    Ends (.sessionOpenRequest t f) s fun u => ∃ nonce : Bytes, nonce.length = 16
      ∧ u.basaris.sessions = s.basaris.sessions ++ [openedSession (s.advance t) f nonce]
      ∧ u.outbox = s.outbox ++ [(s.advance t).wire (s.raw (ob 0x2020 4)) f.source s.basaris.nextNum 0x02 1 (bfSequence f) 0 nonce]
      ∧ u = { s.advance t with basaris := u.basaris, service := u.service, outbox := u.outbox } := by
  obtain ⟨nonce, hnonce, hopens⟩ := openRequest_opens (s := s.advance t) hpayload hlength hpowered hkey htag hroom
  have htake := takeBasaris_request (s := s.advance t) henabled hpowered hmagic hversion htype
  exact ⟨_, congrArg Host.Outcome.next (htake.trans hopens), nonce, hnonce, rfl, rfl, rfl⟩

theorem sessionOpenResponse_opens {nonce : Bytes} (henabled : s.basaris.enabled = true) (hpowered : s.ethernetPowered = true) (hmagic : bfMagic f = 0xBA5A)
    (hversion : bfVersion f = 1) (htype : bfType f = 2) (hopening : get? s.basaris.opening f.source = some nonce) (hpayload : f.payload.length = 16)
    (hlength : bfLength f = 16) (hstatus : bfStatus f = 0) (htag : f.tag = frameTag (s.raw (ob 0x2020 4)) f)
    (hroom : s.basaris.sessions.length < s.nat (ob 0x2020 3)) (hstate : s.launch.state ≠ .proposed) :
    Ends (.sessionOpenResponse t f) s fun u => (∃ b ∈ u.basaris.sessions, b.num = bfSession f ∧ b.peer = f.source ∧ b.ours = true
        ∧ b.key = hmac (s.raw (ob 0x2020 4)) (ascii "BASARIS1" ++ nonce ++ f.payload))
      ∧ u.basaris.opening = del s.basaris.opening f.source ∧ u = { s.advance t with basaris := u.basaris } := by
  have htake := takeBasaris_response (s := s.advance t) henabled hpowered hmagic hversion htype
  have hopens := frameOpened_opens (s := s.advance t) hopening hpayload hlength hstatus htag hroom hstate
  exact ⟨_, congrArg Host.Outcome.next (htake.trans hopens), ⟨answeredSession (s.advance t) f nonce, List.mem_append_right _ (List.mem_cons_self ..), rfl, rfl, rfl, rfl⟩, rfl, rfl⟩

theorem basarisReconfigure_closes (hclosing : s.basaris.closing = true) (hanswered : s.server.works.any Work.reconfigures = false) :
    Ends (.basarisReconfigure t) s fun u => u.basaris.sessions = [] ∧ u.basaris.port = s.nat (ob 0x2020 2)
      ∧ u.basaris.enabled = s.flag (ob 0x2020 1) ∧ u.basaris.closing = false ∧ u.mem = s.mem ∧ u.launch = s.launch ∧ u.dict.active = s.dict.active := by
  set v := (s.advance t).basaris.sessions.foldl (fun acc b => acc.endSession b) (s.advance t) with hv
  obtain ⟨hrest, hactive, -⟩ : EndsSessions (s.advance t) v := endSessions_endsSessions _ _
  have hmem : v.mem = s.mem := by rw [hrest]; rfl
  have hlaunch : v.launch = s.launch := by rw [hrest]; rfl
  exact ⟨_, congrArg Host.Outcome.next (reconfigure_closes (s := s.advance t) hclosing hanswered), endSessions_all (s.advance t), rfl, rfl, rfl, hmem, hlaunch, hactive⟩

end

/-- A frame that the device sends carries its header, its tag and its priority (R126, R127, R423). -/
theorem wire_fields (s : State) (key : Bytes) (peer session type flags seq status : Nat) (payload : Bytes) : ∃ h : BitVec 256,
    s.wire key peer session type flags seq status payload =
      .basaris (if 0x10 ≤ type ∧ type ≤ 0x13 then s.nat (ob 0x2400 9) else 4) peer h payload ((hmac key (leBytes 32 h.toNat ++ payload)).take 16)
    ∧ fld h 15 0 = 0xBA5A ∧ fld h 23 16 = 1 ∧ fld h 31 24 = type % 256 ∧ fld h 47 32 = flags % 2 ^ 16 ∧ fld h 63 48 = payload.length % 2 ^ 16
    ∧ fld h 95 64 = session % 2 ^ 32 ∧ fld h 127 96 = seq % 2 ^ 32 ∧ fld h 191 128 = s.now % 2 ^ 64 ∧ fld h 223 192 = status % 2 ^ 32 ∧ fld h 255 224 = 0 := by
  refine ⟨frameHeader type flags payload.length session seq s.now status, ?_, frameHeader_fields ..⟩
  simp only [State.wire, launchType, decide_eq_true_eq, tagOf]

/-- Settles O41: every frame comes in by `State.takeBasaris`; a wrong one is discarded (`takeBasaris_wrong`), the others open, keep alive or close a session. -/
theorem basarisSessionsOpenServeAndClose : Obligations.BasarisSessionsOpenServeAndClose := by
  refine ⟨fun s t f => ⟨fun c hc => ⟨fun hclosed => ?_, fun hwrong => ?_⟩, ?_, ?_, ?_, fun b h => sessionClose_ends t h, fun b h => keepAlive_hears t h⟩,
    wire_fields, fun s t => ⟨fun num => ⟨fun hheard => ?_, fun b hlate => ?_⟩, fun hwaits => ?_, fun hclosing hanswered => basarisReconfigure_closes t hclosing hanswered⟩⟩
  · rw [exec_basaris hc, takeBasaris_closed (s := s.advance t) hclosed]
  · obtain ⟨hsessions, hlaunch, hmem, hcommit, hserver⟩ := takeBasaris_wrong (s := s.advance t) hwrong
    exact ⟨_, exec_basaris hc, hsessions, hlaunch, hmem, hcommit, hserver⟩
  · intro henabled hpowered hmagic hversion htype
    have htake := takeBasaris_unknown (s := s.advance t) henabled hpowered hmagic hversion htype
    exact ⟨fun hdue => congrArg Host.Outcome.next (htake.trans (rejectFrame_due hdue)), fun c hat hearly => congrArg Host.Outcome.next (htake.trans (rejectFrame_early hat hearly))⟩
  · intro henabled hpowered hmagic hversion htype hpayload hlength
    have htake := takeBasaris_request (s := s.advance t) henabled hpowered hmagic hversion htype
    refine ⟨fun hkey => congrArg Host.Outcome.next (htake.trans (openRequest_unanswered hpayload hlength hkey)), fun hkey htag => ⟨fun hlimit => ?_, fun hroom => ?_⟩⟩
    · exact congrArg Host.Outcome.next (htake.trans ((openRequest_limit (s := s.advance t) hpayload hlength hkey htag hlimit).trans (if_pos hpowered)))
    · exact sessionOpenRequest_opens t henabled hpowered hmagic hversion htype hpayload hlength hkey htag hroom
  · intro nonce henabled hpowered hmagic hversion htype hopening hpayload hlength hstatus htag
    have htake := takeBasaris_response (s := s.advance t) henabled hpowered hmagic hversion htype
    refine ⟨fun hlimit => congrArg Host.Outcome.next (htake.trans (frameOpened_limit hopening hpayload hlength hstatus htag hlimit)), fun hroom hstate => ?_⟩
    exact sessionOpenResponse_opens t henabled hpowered hmagic hversion htype hopening hpayload hlength hstatus htag hroom hstate
  · exact congrArg Host.Outcome.next (sessionTimeout_waits (s := s.advance t) hheard)
  · exact ⟨_, congrArg Host.Outcome.next (sessionTimeout_ends (s := s.advance t) hlate), rfl, rfl, rfl, rfl⟩
  · exact congrArg Host.Outcome.next (reconfigure_waits (s := s.advance t) hwaits)

end Sys2Proof

/-!
The family of spec/05_tensor_blocks_and_scratchpads.md: the memories (O3, O4, O5, O7), region migrations and block swaps (O21), execute descriptors (O48), statistics and conversions (O52), scale slots and weights (O53).
-/

namespace Sys2Proof.Machine

/-! ## Reads of places -/

/-- The list of cells that holds the places of a memory space. -/
def Mem.cells (m : Mem) (space : Nat) : List Host.Cell :=
  if space = 0 then m.hbm else if space = 1 then m.rmem else m.spad

theorem Mem.get_eq (m : Mem) (p : MemRef) (n : Nat) : m.get p n = cellsGet (m.cells p.space) p.key n := by
  unfold Mem.get Mem.cells
  split <;> grind

theorem Mem.cells_put_self (m : Mem) (p : MemRef) (bs : Bytes) : (m.put p bs).cells p.space = cellsPut (m.cells p.space) p.key bs := by
  unfold Mem.put Mem.cells
  split <;> grind

theorem Mem.cells_put_other (m : Mem) (p : MemRef) (bs : Bytes) {space : Nat} (hp : p.space < 3) (hq : space < 3) (h : p.space ≠ space) :
    (m.put p bs).cells space = m.cells space := by
  unfold Mem.put Mem.cells
  split <;> grind

/-- A place inside a memory lies in one of the three. -/
theorem space_lt_of_inside {p : MemRef} {n : Nat} (h : p.inside n = true) : p.space < 3 := by
  unfold MemRef.inside at h
  split at h <;> first | omega | exact absurd h Bool.false_ne_true

theorem cellsGet_length (m : List Host.Cell) (a n : Nat) : (cellsGet m a n).length = n := by simp [cellsGet]

/-- Reads at a place look at the memories only. -/
theorem State.load_congr {s u : State} (h : u.mem = s.mem) (p : MemRef) (n : Nat) : u.load p n = s.load p n := by rw [State.load, State.load, h]

theorem cellsGet_cellsPut_self (m : List Host.Cell) (a : Nat) (bs : Bytes) : cellsGet (cellsPut m a bs) a bs.length = bs := by
  refine List.ext_getElem (cellsGet_length ..) fun i _ hi => ?_
  simpa [cellsGet] using cellGet_cellsPut_at m a i bs hi

theorem cellsGet_cellsPut_apart (m : List Host.Cell) (a c n : Nat) (bs : Bytes) (h : a + bs.length ≤ c ∨ c + n ≤ a) :
    cellsGet (cellsPut m a bs) c n = cellsGet m c n := by
  refine cellsGet_congr _ _ _ _ fun i hi => ?_
  rcases h with h | h
  · exact cellGet_cellsPut_above _ _ _ _ (by omega)
  · exact cellGet_cellsPut_below _ _ _ _ (by omega)

/-- `n` bytes at one place and `k` bytes at another share none. -/
def Apart (p : MemRef) (n : Nat) (q : MemRef) (k : Nat) : Prop := p.space ≠ q.space ∨ p.key + n ≤ q.key ∨ q.key + k ≤ p.key

section
variable {p q : MemRef} {n k : Nat}

theorem Apart.symm (h : Apart p n q k) : Apart q k p n := h.elim (fun hs => .inl (Ne.symm hs)) fun hk => .inr hk.symm

theorem Apart.mono (h : Apart p n q k) {n' k' : Nat} (hn : n' ≤ n) (hk : k' ≤ k) : Apart p n' q k' :=
  h.imp id fun hkey => hkey.imp (by omega) (by omega)

/-- What is read where bytes were stored is what was stored. -/
theorem State.load_store_self (s : State) (p : MemRef) (bs : Bytes) : (s.store p bs).load p bs.length = bs := by
  show (s.mem.put p bs).get p bs.length = bs
  rw [Mem.get_eq, Mem.cells_put_self, cellsGet_cellsPut_self]

/-- Bytes that share none with those stored read as before. -/
theorem State.load_store_apart (s : State) {bs : Bytes} (hp : p.space < 3) (hq : q.space < 3) (h : Apart p bs.length q n) :
    (s.store p bs).load q n = s.load q n := by
  show (s.mem.put p bs).get q n = s.mem.get q n
  rw [Mem.get_eq, Mem.get_eq]
  by_cases hspace : p.space = q.space
  · rw [← hspace, Mem.cells_put_self, cellsGet_cellsPut_apart _ _ _ _ _ (h.resolve_left (not_not_intro hspace))]
  · rw [Mem.cells_put_other _ _ _ hp hq hspace]

end

/-! ## Every step keeps the canonical form -/

/-- Each command answers the state after one operation on the state at its count, and every operation keeps the canonical form. -/
theorem exec_keeps_wf (c : Instr) {s t : State} (hs : s.mem.wf = true) (h : exec c s = .next t) : t.mem.wf = true := by
  have hnext : ∀ {u : State}, (.next u : Host.Outcome State Fault Refusal) = .next t → u.mem.wf = true → t.mem.wf = true := by
    rintro u ⟨⟩ hu
    exact hu
  cases c
  all_goals exact hnext h (by simp [hs])

theorem step_keeps_wf {s t : State} (hs : s.mem.wf = true) (h : step s = .next t) : t.mem.wf = true := by
  unfold step at h
  split at h
  case h_1 c rest _ => exact exec_keeps_wf c (s := { s with pending := rest }) hs h
  case h_2 =>
    exact Host.Outcome.next.inj h ▸ State.idleTick_wf s hs

/-! ## The state after reset -/

theorem State.reset_block (r : Fin 10) (b : Fin 18) : State.reset.block r b = Block.reset b.val := by
  have hb : (blk r b).val % 18 = b.val := by simp only [blk]; omega
  simp [State.block, State.reset, hb]

end Sys2Proof.Machine

namespace Sys2Proof

open Machine

/-- Settles O3: after reset no memory lists a cell. -/
theorem memoriesCanonicalAtReset : Obligations.MemoriesCanonicalAtReset := reset_wf

/-- Settles O4: a step runs one command or one tick of the timebase, and each keeps the canonical form (`exec_keeps_wf`, `State.idleTick_wf`). -/
theorem everyStepKeepsMemoriesCanonical : Obligations.EveryStepKeepsMemoriesCanonical := fun _ _ hs h => step_keeps_wf hs h

/-- Settles O5: the blocks' numbers give their roles, the domains' numbers their states; the rest stands in the definition of the reset. -/
theorem resetLeavesTheStatedValues : Obligations.ResetLeavesTheStatedValues := by
  refine ⟨fun r b => ?_, rfl, rfl, rfl, rfl, rfl, rfl, rfl, fun d => ?_⟩
  · rw [State.reset_block]
    exact ⟨rfl, rfl⟩
  · simp only [State.reset, Power.reset, Vector.getElem_ofFn, Fin.getElem_fin]
    rfl

/-- Settles O7: a store changes the cells of its place's memory and the marks of lost data, and nothing else. -/
theorem storedBytesReadBack : Obligations.StoredBytesReadBack := fun s p _ bs _ hp hq =>
  ⟨s.load_store_self p bs, fun h => s.load_store_apart (space_lt_of_inside hp) (space_lt_of_inside hq) h, rfl⟩

end Sys2Proof

namespace Sys2Proof.Machine

/-! ## A migration request (R484) -/

/-- The object of the migration request (R484). -/
theorem rowOf_migrationRequest : rowOf (ob 0x5800 0x0C) = some ⟨0x5800, 0x5800, 0x0C, 0x0C, .u 8, .wo, .int 0, .btw 0 9, .instant⟩ := by decide +kernel

/-- The record of a migration that is decided now. -/
def State.decided (s : State) (r h : Fin 10) : State := s.modService fun v => { v with migration := some (Migration.make r h (s.regions[r].role == 1) true s.now) }

theorem State.abortForMigration_idle {s : State} (hgroup : s.commit.group = none) (himpl : s.commit.implicit = []) (region : Nat) : s.abortForMigration region = s := by
  unfold State.abortForMigration
  simp only [hgroup, himpl]

theorem State.onUnit_val (s : State) {n : Nat} (i : Fin n) (f : Fin n → State) : s.onUnit n i.val f = f i := dif_pos i.isLt

section
variable {s : State} {r h : Fin 10} (hrole : s.regions[r].role ≤ 1) (hspare : s.regionOf 2 = some h) (hmig : s.service.migration = none)
include hrole hspare

theorem State.beginMigration_decides : s.beginMigration r true = s.decided r h := by
  unfold State.beginMigration State.decided
  rcases Nat.le_one_iff_eq_zero_or_eq_one.mp hrole with h0 | h1 <;> simp_all

theorem State.decideMigration_decides (hmig : s.service.migration = none) (hsingle : s.crust.single = none) (hgroup : s.commit.group = none)
    (himpl : s.commit.implicit = []) : s.decideMigration r true = s.decided r h := by
  have hplace : s.placeMigration r true = s.decided r h := by
    rw [State.placeMigration, hmig, hsingle, State.abortForMigration_idle hgroup himpl, State.beginMigration_decides hrole hspare]
    rfl
  rw [State.decideMigration, State.abortForMigration_idle hgroup himpl, hplace]

end

section
variable {s : State} {ses : Session} {g : Given} {r h : Fin 10} (hrole : s.regions[r].role ≤ 1) (hspare : s.regionOf 2 = some h)
  (hexhausted : s.service.exhausted = false) (hmig : s.service.migration = none) (hsingle : s.crust.single = none) (howner : s.commit.owner = none)
  (hgroup : s.commit.group = none) (himpl : s.commit.implicit = []) (hrun : s.launch.run = none)
include hrole hspare hexhausted hmig hsingle howner hgroup himpl hrun

/-- A request to migrate a region that has a role, while a hot spare is left, is decided at once. -/
theorem State.serveWrite_migration :
    s.serveWrite ses (writeItem (ob 0x5800 0x0C) (.int r.val)) g = (s.committed.decided r h, .now 0 [], 0, []) := by
  have hfits : (Ty.u 8).fits (.int r.val) = true := by simp [Ty.fits]; omega
  have hrng : (Rng.btw 0 9).ok (.int r.val) = true := by simp [Rng.ok]; omega
  have hchecks : s.takeIdent.firstFailing [(ob 0x5800 0x0C, .int r.val)] = none := by
    simp [State.firstFailing, State.failing_calm _ (ob 0x5800 0x0C) (by decide)]
  have hallowed : s.migrationRefused = false := by simp [State.migrationRefused, hexhausted, hspare]
  have hrefusal : s.refusalOf (s.withWrite ses (ob 0x5800 0x0C) (.int r.val)) (ob 0x5800 0x0C) r.val = 0 := by
    have hnamed : ∃ k ∈ idxs 10, k.val = r.val ∧ s.regions[k.val].role ≤ 1 := ⟨r, by simp [idxs], rfl, hrole⟩
    simpa [State.refusalOf, ob, hallowed] using hnamed
  have hact : s.committed.act (ob 0x5800 0x0C) (.int r.val) s.now g = s.committed.decided r h := by
    show s.committed.onUnit 10 r.val (fun k => s.committed.decideMigration k true) = _
    rw [State.onUnit_val]
    exact State.decideMigration_decides (s := s.committed) hrole hspare hmig hsingle hgroup himpl
  exact State.serveWrite_command rowOf_migrationRequest (.inr rfl) (w := 8) rfl rfl hfits hrng (by decide) (by decide) rfl rfl hrefusal rfl rfl (by decide +kernel) rfl
    rfl (fun _ _ => rfl) (by decide) howner hgroup himpl hrun hchecks hact (congrArg Option.isSome hrun)

end

end Sys2Proof.Machine

namespace Sys2Proof

open Machine

theorem migrationRequest_served {s : State} {ses : Session} {t : Nat} {r h : Fin 10} (hacts : WritesAct s ses) (hrole : s.regions[r].role ≤ 1)
    (hexhausted : s.service.exhausted = false) (hspare : s.regionOf 2 = some h) (hmig : s.service.migration = none) (hsingle : s.crust.single = none) :
    ServedWith (.migrationRequest t ses r.val) s ses (Books ((s.advance t).decided r h)) := by
  have hbooks := hacts.committed t
  refine refusedWith_of_serveWrite (g := {}) (x := (s.advance t).committed.decided r h) rfl (hacts.toServerFree.advance t) ?_ (hbooks.modService _) (hacts.committed_server t)
  rw [hacts.touchGroup t]
  exact State.serveWrite_migration (s := (s.advance t).serving ses _ _) hrole hspare hexhausted hmig hsingle hacts.owner hacts.group hacts.implicit hacts.run

end Sys2Proof

namespace Sys2Proof.Machine

/-! ## Copies of cells (R483, R484) -/

theorem get?_eq_none {α : Type} {l : List (Nat × α)} {k : Nat} (h : ∀ e ∈ l, k ≠ e.1) : get? l k = none := by
  induction l with
  | nil => rfl
  | cons e rest ih => rw [get?, if_neg (h e (List.mem_cons_self ..)), ih fun f hf => h f (List.mem_cons_of_mem _ hf)]

theorem get?_filter {α : Type} (l : List (Nat × α)) (p : Nat → Bool) (k : Nat) : get? (l.filter fun e => p e.1) k = if p k = true then get? l k else none := by
  induction l with
  | nil => simp [get?]
  | cons e rest ih =>
    by_cases he : p e.1 = true <;> by_cases hk : k = e.1 <;> simp_all [get?]

/-- Cells written from a sorted list of cells, each moved on: a place reads the cell that has moved there, if any. -/
theorem cellGet_foldl_moved (l m : List Host.Cell) (from_ to_ a : Nat) (hl : l.Pairwise fun e f => e.1 < f.1) (hfrom : ∀ e ∈ l, from_ ≤ e.1) :
    cellGet (l.foldl (fun acc c => cellPut acc (c.1 - from_ + to_) c.2) m) a = if to_ ≤ a then (get? l (a - to_ + from_)).getD (cellGet m a) else cellGet m a := by
  induction l generalizing m with
  | nil => simp [get?]
  | cons e rest ih =>
    obtain ⟨hlt, hrest⟩ := List.pairwise_cons.mp hl
    have he := hfrom e (List.mem_cons_self ..)
    rw [List.foldl_cons, ih _ hrest fun f hf => hfrom f (List.mem_cons_of_mem _ hf)]
    by_cases ha : a = e.1 - from_ + to_
    · have hnone : get? rest e.1 = none := get?_eq_none fun f hf => Nat.ne_of_lt (hlt f hf)
      have hkey : a - to_ + from_ = e.1 := by omega
      have hto : to_ ≤ a := by omega
      rw [hkey, ← ha, cellGet_cellPut_self, if_pos hto, if_pos hto, hnone]
      simp [get?]
    · have hkey : to_ ≤ a → a - to_ + from_ ≠ e.1 := by omega
      rw [cellGet_cellPut_other _ _ _ _ ha]
      by_cases hto : to_ ≤ a
      · simp [hto, get?, hkey hto]
      · simp [hto]

section
variable {m : List Host.Cell} (hm : cellsWf m = true) (from_ to_ size : Nat)
include hm

theorem cellGet_copyCells (a : Nat) : cellGet (copyCells m from_ to_ size) a = if to_ ≤ a ∧ a < to_ + size then cellGet m (a - to_ + from_) else cellGet m a := by
  have hsorted := ((cellsWf_iff m).mp hm).1
  have hdrop : cellGet (dropCells m to_ (to_ + size)) a = if a < to_ ∨ to_ + size ≤ a then cellGet m a else unwritten := by
    rw [cellGet, dropCells, get?_filter m fun k => decide (k < to_ ∨ to_ + size ≤ k)]
    split <;> simp_all [cellGet]
  rw [copyCells, cellGet_foldl_moved _ _ _ _ _ (hsorted.filter _) fun e he => (of_decide_eq_true (List.mem_filter.mp he).2).1, hdrop,
    get?_filter m fun k => decide (from_ ≤ k ∧ k < from_ + size)]
  by_cases hto : to_ ≤ a
  · by_cases hsize : a < to_ + size
    · have hin : from_ ≤ a - to_ + from_ ∧ a - to_ + from_ < from_ + size := by omega
      have hnot : ¬ (a < to_ ∨ to_ + size ≤ a) := by omega
      simp [hto, hsize, hin, hnot, cellGet]
    · have hout : ¬ (a - to_ + from_ < from_ + size) := by omega
      have hnot : a < to_ ∨ to_ + size ≤ a := by omega
      simp [hsize, hout, hnot]
  · have hnot : a < to_ ∨ to_ + size ≤ a := by omega
    simp [hto, hnot]

end

/-- A byte of a scratchpad, the scratchpads numbered through the regions. -/
def State.padByte (s : State) (pad i : Nat) : Byte := cellGet s.mem.spad (pad * spadSize + i)

theorem State.load_pad (s : State) (r b addr n : Nat) : s.load ⟨2, r, b, addr⟩ n = (List.range n).map fun i => s.padByte (18 * r + b) (addr + i) := by
  simp only [State.load, Mem.get_eq, Mem.cells, MemRef.key, cellsGet, State.padByte, Nat.add_assoc]
  rfl

section
variable {s : State} (hs : s.mem.wf = true)
include hs

theorem State.padByte_copyPad (r : Fin 10) (b : Fin 18) (tr : Fin 10) (tb : Fin 18) (pad : Nat) {i : Nat} (hi : i < spadSize) :
    (s.copyPad r b tr tb).padByte pad i = if pad = 18 * tr.val + tb.val then s.padByte (18 * r.val + b.val) i else s.padByte pad i := by
  have hspad : cellsWf s.mem.spad = true := by
    rw [Mem.wf, Bool.and_eq_true] at hs
    exact hs.2
  have hmem : (s.copyPad r b tr tb).mem.spad = copyCells s.mem.spad ((18 * r.val + b.val) * spadSize) ((18 * tr.val + tb.val) * spadSize) spadSize := by
    simp [State.copyPad, State.modMem]
  rw [State.padByte, hmem, cellGet_copyCells hspad, State.padByte, State.padByte]
  unfold spadSize at *
  split
  · have hpad : pad = 18 * tr.val + tb.val := by omega
    rw [if_pos hpad]
    congr 1
    omega
  · have hpad : pad ≠ 18 * tr.val + tb.val := by omega
    rw [if_neg hpad]

end

/-- The scratchpads of blocks of a region are copied to those of another, or the same: each of them reads as the one it is a copy of. -/
theorem State.padByte_copyPads (l : List (Fin 18)) {s : State} (hs : s.mem.wf = true) (r t : Fin 10) (b : Fin 18) {i : Nat} (hi : i < spadSize) :
    (l.foldl (fun acc k => acc.copyPad r k t k) s).padByte (18 * t.val + b.val) i
      = if b ∈ l then s.padByte (18 * r.val + b.val) i else s.padByte (18 * t.val + b.val) i := by
  induction l generalizing s with
  | nil => rfl
  | cons k l ih =>
    have hsource : (s.copyPad r k t k).padByte (18 * r.val + b.val) i = s.padByte (18 * r.val + b.val) i := by
      rw [State.padByte_copyPad hs _ _ _ _ _ hi]
      split
      · have hk : 18 * r.val + k.val = 18 * r.val + b.val := by omega
        rw [hk]
      · rfl
    rw [List.foldl_cons, ih (by simp [hs]), hsource, State.padByte_copyPad hs _ _ _ _ _ hi]
    by_cases hk : b = k
    · simp [hk]
    · have hne : b.val ≠ k.val := fun h => hk (Fin.ext h)
      simp [hk, hne]

theorem State.copyPad_others (s : State) (r : Fin 10) (b : Fin 18) (tr : Fin 10) (tb : Fin 18) :
    (s.copyPad r b tr tb).mem.hbm = s.mem.hbm ∧ (s.copyPad r b tr tb).mem.rmem = s.mem.rmem := by
  simp [State.copyPad, State.modMem]

theorem State.copyPads_others (l : List (Fin 18)) (s : State) (r t : Fin 10) :
    (l.foldl (fun acc k => acc.copyPad r k t k) s).mem.hbm = s.mem.hbm ∧ (l.foldl (fun acc k => acc.copyPad r k t k) s).mem.rmem = s.mem.rmem := by
  induction l generalizing s with
  | nil => exact ⟨rfl, rfl⟩
  | cons k l ih =>
    obtain ⟨hhbm, hrmem⟩ := ih (s.copyPad r k t k)
    exact ⟨hhbm.trans (s.copyPad_others r k t k).1, hrmem.trans (s.copyPad_others r k t k).2⟩

/-- A copied region's memory, before its scratchpads. -/
def State.copyMemory (s : State) (r t : Fin 10) : State :=
  (s.modMem fun m => { m with rmem := copyCells m.rmem (r.val * rmemSize) (t.val * rmemSize) rmemSize }).copyMarks 1 (r.val * rmemSize) (t.val * rmemSize) rmemSize

theorem State.copyRegion_eq (s : State) (r t : Fin 10) : s.copyRegion r t = (idxs 18).foldl (fun acc k => acc.copyPad r k t k) (s.copyMemory r t) := rfl

theorem State.copyMemory_mem (s : State) (r t : Fin 10) :
    (s.copyMemory r t).mem = { s.mem with rmem := copyCells s.mem.rmem (r.val * rmemSize) (t.val * rmemSize) rmemSize } := by
  rw [State.copyMemory, State.copyMarks_mem]
  rfl

theorem State.copyRegion_others (s : State) (r t : Fin 10) :
    (s.copyRegion r t).mem.hbm = s.mem.hbm ∧ (s.copyRegion r t).mem.rmem = copyCells s.mem.rmem (r.val * rmemSize) (t.val * rmemSize) rmemSize := by
  have hpads := State.copyPads_others (idxs 18) (s.copyMemory r t) r t
  rwa [State.copyMemory_mem, ← State.copyRegion_eq] at hpads

section
variable {s : State} (hs : s.mem.wf = true) (r t : Fin 10) {addr n : Nat}
include hs

/-- A copied region's memory reads as the source's. -/
theorem State.load_copyRegion_rmem (h : addr + n ≤ rmemSize) : (s.copyRegion r t).load (rmemAt t.val addr) n = s.load (rmemAt r.val addr) n := by
  have hrmem : cellsWf s.mem.rmem = true := by
    simp only [Mem.wf, Bool.and_eq_true] at hs
    exact hs.1.2
  have hread : ∀ (x : State) (k : Fin 10), x.load (rmemAt k.val addr) n = (List.range n).map fun i => cellGet x.mem.rmem (k.val * rmemSize + addr + i) := fun x k => by
    rw [State.load, Mem.get_eq]
    rfl
  rw [hread, hread, (s.copyRegion_others r t).2]
  refine List.map_congr_left fun i hi => ?_
  have hlt := List.mem_range.mp hi
  have hsource : t.val * rmemSize + addr + i - t.val * rmemSize + r.val * rmemSize = r.val * rmemSize + addr + i := by omega
  rw [cellGet_copyCells hrmem, if_pos (by omega), hsource]

/-- A copied region's scratchpads read as the source's. -/
theorem State.load_copyRegion_spad (b : Fin 18) (h : addr + n ≤ spadSize) : (s.copyRegion r t).load ⟨2, t.val, b.val, addr⟩ n = s.load ⟨2, r.val, b.val, addr⟩ n := by
  have hwf : (s.copyMemory r t).mem.wf = true := by
    simp only [Mem.wf, Bool.and_eq_true, State.copyMemory_mem] at hs ⊢
    exact ⟨⟨hs.1.1, copyCells_wf _ _ _ _ hs.1.2⟩, hs.2⟩
  rw [State.load_pad, State.load_pad]
  refine List.map_congr_left fun i hi => ?_
  have hlt := List.mem_range.mp hi
  have hblock : b ∈ idxs 18 := List.mem_finRange b
  rw [State.copyRegion_eq, State.padByte_copyPads _ hwf _ _ _ (by omega), if_pos hblock, State.padByte, State.copyMemory_mem, State.padByte]

end

end Sys2Proof.Machine

namespace Sys2Proof.Machine

/-! ## What region migrations and block swaps decide on -/

theorem blk_injective {r r' : Fin 10} {b b' : Fin 18} (h : blk r b = blk r' b') : r = r' ∧ b = b' := by
  have hval : 18 * r.val + b.val = 18 * r'.val + b'.val := congrArg Fin.val h
  omega

@[simp] theorem State.block_modBlock_self (s : State) (r : Fin 10) (b : Fin 18) (f : Block → Block) : (s.modBlock r b f).block r b = f (s.block r b) := by
  simp [State.block, upd]

theorem State.block_modBlock_other (s : State) {r r' : Fin 10} {b b' : Fin 18} (f : Block → Block) (h : r' ≠ r ∨ b' ≠ b) : (s.modBlock r b f).block r' b' = s.block r' b' := by
  have hne : (blk r b).val ≠ (blk r' b').val := fun heq => by
    obtain ⟨hr, hb⟩ := blk_injective (Fin.ext heq)
    exact h.elim (fun hn => hn hr.symm) fun hn => hn hb.symm
  simp [State.block, upd, hne]

/-- The roles of the regions and blocks, and what stands decided of them. -/
structure Offices where
  role : Fin 10 → Nat
  blockRole : Fin 10 → Fin 18 → Nat
  carries : Fin 10 → Fin 18 → Nat
  migration : Option Migration
  migrations : List (Fin 10 × Bool)
  swaps : List BlockSwap
  crust : Crust

/-- The offices of a state. -/
def State.offices (s : State) : Offices :=
  { role := fun r => s.regions[r].role, blockRole := fun r b => (s.block r b).role, carries := fun r b => (s.block r b).carries
    migration := s.service.migration, migrations := s.service.migrations, swaps := s.service.swaps, crust := s.crust }

section
variable (s : State)

theorem State.offices_role (r : Fin 10) : s.offices.role r = s.regions[r].role := rfl

theorem State.offices_blockRole (r : Fin 10) (b : Fin 18) : s.offices.blockRole r b = (s.block r b).role := rfl

theorem State.offices_carries (r : Fin 10) (b : Fin 18) : s.offices.carries r b = (s.block r b).carries := rfl

theorem State.offices_migration : s.offices.migration = s.service.migration := rfl

theorem State.offices_migrations : s.offices.migrations = s.service.migrations := rfl

theorem State.offices_swaps : s.offices.swaps = s.service.swaps := rfl

theorem State.offices_crust : s.offices.crust = s.crust := rfl

end

theorem offices_of_announces {s u : State} (h : Announces s u) : u.offices = s.offices := by rw [h.1]; rfl

@[simp] theorem State.fault_offices (s : State) (code : Nat) (loc : Loc) (detail part : Nat) : (s.fault code loc detail part).offices = s.offices :=
  offices_of_announces (fault_announces s code loc detail part)

theorem State.foldl_offices {α : Type} {f : State → α → State} (hf : ∀ a x, (f a x).offices = a.offices) (l : List α) (s : State) : (l.foldl f s).offices = s.offices := by
  induction l generalizing s with
  | nil => rfl
  | cons x l ih => exact (ih (f s x)).trans (hf s x)

theorem State.modBlock_offices (s : State) (r : Fin 10) (b : Fin 18) {f : Block → Block} (hrole : (f (s.block r b)).role = (s.block r b).role)
    (hcarries : (f (s.block r b)).carries = (s.block r b).carries) : (s.modBlock r b f).offices = s.offices := by
  have hblock : ∀ (k : Fin 10) (j : Fin 18), ((s.modBlock r b f).block k j).role = (s.block k j).role ∧ ((s.modBlock r b f).block k j).carries = (s.block k j).carries := by
    intro k j
    by_cases hk : k = r ∧ j = b
    · obtain ⟨rfl, rfl⟩ := hk
      rw [State.block_modBlock_self]
      exact ⟨hrole, hcarries⟩
    · rw [State.block_modBlock_other s f (by tauto)]
      exact ⟨rfl, rfl⟩
  simp [State.offices, hblock]

theorem State.modLaunch_offices (s : State) (f : Launch → Launch) : (s.modLaunch f).offices = s.offices := rfl

theorem State.saveElements_offices (s : State) : s.saveElements.offices = s.offices := rfl

theorem State.rehash_offices (s : State) : s.rehash.offices = s.offices := rfl

theorem State.saveElements_regions (s : State) : s.saveElements.regions = s.regions := rfl

theorem State.rehash_regions (s : State) : s.rehash.regions = s.regions := rfl

theorem State.launchBeat_regions (s : State) : s.launchBeat.regions = s.regions := by
  rw [State.launchBeat, State.rehash_regions, State.saveElements_regions, State.modLaunch_regions, State.modBlocks_regions]

@[simp] theorem State.launchBeat_offices (s : State) : s.launchBeat.offices = s.offices := by
  have hblocks : (s.modBlocks fun _ x => { x with cacheLines := [] }).offices = s.offices := by simp [State.offices, State.block_modBlocks]
  rw [State.launchBeat, State.rehash_offices, State.saveElements_offices, State.modLaunch_offices, hblocks]

theorem State.launchBeat_crust (s : State) : s.launchBeat.crust = s.crust := by rw [← State.offices_crust, State.launchBeat_offices, State.offices_crust]

theorem State.launchBeat_migration (s : State) : s.launchBeat.service.migration = s.service.migration := by
  rw [← State.offices_migration, State.launchBeat_offices, State.offices_migration]

@[simp] theorem State.copyPad_offices (s : State) (r : Fin 10) (b : Fin 18) (tr : Fin 10) (tb : Fin 18) : (s.copyPad r b tr tb).offices = s.offices := rfl

@[simp] theorem State.copyRegion_offices (s : State) (r t : Fin 10) : (s.copyRegion r t).offices = s.offices := by
  rw [State.copyRegion_eq, State.foldl_offices fun a k => a.copyPad_offices r k t k]
  rfl

theorem State.moveChannels_offices (s : State) (m : StripeMove) : (s.moveChannels m).offices = s.offices := by
  unfold State.moveChannels
  rw [State.modBlock_offices _ _ _ rfl rfl, State.modBlock_offices _ _ _ rfl rfl]

theorem State.applyMoves_offices (s : State) (n : Fin 24) : (s.applyMoves n).offices = s.offices := by
  unfold State.applyMoves
  extract_lets due
  split
  · rfl
  · exact State.foldl_offices State.moveChannels_offices due _

@[simp] theorem State.moveWork_offices (s : State) (r : Fin 10) (b : Fin 18) (tr : Fin 10) (tb : Fin 18) : (s.moveWork r b tr tb).offices = s.offices := by
  unfold State.moveWork
  split
  · rfl
  · refine State.foldl_offices (fun a m => ?_) _ _
    split
    · rfl
    · exact a.applyMoves_offices _

@[simp] theorem State.moveWindows_offices (s : State) (r t : Fin 10) : (s.moveWindows r t).offices = s.offices :=
  State.foldl_offices (f := fun acc w => acc.setObj (ob (0x2410 + w) 3) (.int (256 * t.val + s.nat (ob (0x2410 + w) 3) % 256 : Nat))) (fun _ _ => rfl) _ s

@[simp] theorem State.movePools_offices (s : State) (r t : Fin 10) : (s.movePools r t).offices = s.offices := by
  refine State.foldl_offices (fun a k => ?_) _ s
  split <;> rfl

theorem State.modDetect_offices (s : State) (n : Fin 24) (f : Detect → Detect) : (s.modDetect n f).offices = s.offices := rfl

theorem State.modRegion_offices (s : State) (r : Fin 10) {f : Region → Region} (hrole : (f s.regions[r]).role = s.regions[r].role) : (s.modRegion r f).offices = s.offices := by
  have hregion : ∀ k : Fin 10, (s.modRegion r f).regions[k].role = s.regions[k].role := by
    intro k
    by_cases hk : r.val = k.val
    · obtain rfl := Fin.ext hk
      simpa [upd] using hrole
    · simp [upd, hk]
  exact congrArg (fun role => { s.offices with role := role }) (funext hregion)

/-- The work of a region moves without a change of roles. -/
theorem State.moveRegion_offices (s : State) (r t : Fin 10) : (s.moveRegion r t).offices = s.offices := by
  rw [State.moveRegion, State.foldl_offices fun a b => a.moveWork_offices r b t b, State.foldl_offices fun a n => a.modDetect_offices n _, State.modLaunch_offices,
    State.movePools_offices, State.moveWindows_offices, State.modRegion_offices _ _ rfl, State.modRegion_offices _ _ rfl, State.copyRegion_offices]

end Sys2Proof.Machine

namespace Sys2Proof.Machine

/-! ## Region migrations (R144, R484) -/

theorem regionOf_isSome {s : State} {role : Nat} {k : Fin 10} (hk : s.regions[k].role = role) : (s.regionOf role).isSome = true := by
  rw [State.regionOf, List.find?_isSome]
  exact ⟨k, List.mem_finRange k, by simpa using hk⟩

theorem State.nextMigration_idle {s : State} (h : s.service.migrations = []) : s.nextMigration = s := by
  have hself : (s.modService fun v => { v with migrations := [] }) = s := by rw [State.modService, ← h]
  rw [State.nextMigration, h, hself]
  rfl

section
variable {s : State} {m : Migration} (hm : s.service.migration = some m)

/-- The running migration's record, changed. -/
def State.setMigration (s : State) (m : Migration) : State := s.modService fun v => { v with migration := some m }

omit hm in
theorem State.setMigration_migration : (s.setMigration m).service.migration = some m := rfl

omit hm in
theorem State.setMigration_crust : (s.setMigration m).crust = s.crust := rfl

omit hm in
theorem State.setMigration_regions : (s.setMigration m).regions = s.regions := rfl

omit hm in
theorem State.setMigration_mem : (s.setMigration m).mem = s.mem := rfl

/-- The state in which the running migration has begun: its record says so, and fault 0x1106 tells it (R484). -/
def State.migrationBegun (s : State) (m : Migration) (target : Nat) : State :=
  (s.setMigration { m with started := true }).fault 0x1106 (.ofRegion m.region.val) (at_ 8 0 target ||| at_ 1 8 (b2n m.checkerRole))

include hm

theorem State.startMigration_begins (hstarted : m.started = false) (hrole : m.checkerRole = false) (hsingle : s.crust.single = none)
    (hbeat : s.beatReached (m.decided + s.changeLead) = true) :
    ∃ target, s.startMigration = ((s.migrationBegun m target).enterSingle m.region.val 1).launchBeat := by
  unfold State.startMigration
  simp only [hm, hstarted, hrole, hsingle, hbeat, Bool.not_true, Bool.false_eq_true, or_self, if_false, Option.isSome_none]
  exact ⟨_, by rw [State.migrationBegun, hrole]; rfl⟩

theorem State.copyDone_copies {t : Fin 10} (hstarted : m.started = true) (hcopied : m.copied = false) (hrole : m.checkerRole = false) (htarget : m.target = some t) :
    s.copyDone true = (s.copyRegion m.region t).setMigration { m with copied := true, decided := s.now } := by
  unfold State.copyDone
  simp only [hm, hstarted, hcopied, hrole, htarget]
  rfl

/-- The copy of a checker that serves on fails: nothing of its role changes. -/
theorem State.copyDone_fails (hstarted : m.started = true) (hcopied : m.copied = false) (hrole : m.checkerRole = true) (hregion : s.regions[m.region].role = 1)
    (hnext : s.service.migrations = []) : s.copyDone false = (s.modService fun v => { v with migration := none }).fault 0x1108 (.ofRegion m.region.val) 2 := by
  set u := (s.modService fun v => { v with migration := none }).fault 0x1108 (.ofRegion m.region.val) 2 with hu
  have hoffices : u.offices = (s.modService fun v => { v with migration := none }).offices := State.fault_offices ..
  have hserves : u.regions[m.region.val].role = 1 := (congrArg (Offices.role · m.region) hoffices).trans hregion
  have hidle : u.nextMigration = u := State.nextMigration_idle ((congrArg Offices.migrations hoffices).trans hnext)
  have hend : s.endMigration 2 = u.nextMigration := by
    unfold State.endMigration
    simp only [hm, hrole, ← hu]
    simp [hserves]
  unfold State.copyDone
  simp [hm, hstarted, hcopied, hend, hidle]

theorem State.finishMigration_ends (hswitched : m.switched = true) (hmoves : (s.service.moves.any fun v => v.region == m.region) = false) (hnext : s.service.migrations = []) :
    s.finishMigration = (s.modService fun v => { v with migration := none }).fault 0x1107 (.ofRegion m.region.val) (at_ 32 0 m.singleUs) := by
  have hoffices := State.fault_offices (s.modService fun v => { v with migration := none }) 0x1107 (.ofRegion m.region.val) (at_ 32 0 m.singleUs) 0
  unfold State.finishMigration
  simp only [hm, hswitched, hmoves]
  exact State.nextMigration_idle ((congrArg Offices.migrations hoffices).trans hnext)

/-- The state in which the target of a migration has taken the role of its region (R25, R484). -/
def State.rolesSwitched (s : State) (r t : Fin 10) : State := (s.modRegion r fun x => { x with role := 3 }).modRegion t fun x => { x with role := 0 }

omit hm in
theorem State.role_modRegion (x : State) (k j : Fin 10) (role : Nat) :
    (x.modRegion k fun y => { y with role := role }).offices.role j = if k = j then role else x.offices.role j := by
  by_cases hk : k.val = j.val
  · simp [State.offices, upd, Fin.ext hk]
  · have hne : k ≠ j := fun h => hk (congrArg Fin.val h)
    simp [State.offices, upd, hk, hne]

theorem State.switchMigration_switches {t k : Fin 10} (htarget : m.target = some t) (hcopied : m.copied = true) (hswitched : m.switched = false) (hrole : m.checkerRole = false)
    (hbeat : s.beatReached (m.decided + s.changeLead) = true) (hk : k ≠ m.region ∧ k ≠ t) (hchecker : s.regions[k].role = 1) :
    ∃ us, s.switchMigration true = (((s.rolesSwitched m.region t).moveRegion m.region t).leaveSingle.setMigration { m with switched := true, singleUs := us }).launchBeat := by
  have hsome : (((s.rolesSwitched m.region t).moveRegion m.region t).regionOf 1).isSome = true := by
    refine regionOf_isSome (k := k) ((congrArg (Offices.role · k) (State.moveRegion_offices _ _ _)).trans ?_)
    rw [State.rolesSwitched, State.role_modRegion, State.role_modRegion, if_neg (Ne.symm hk.2), if_neg (Ne.symm hk.1)]
    exact hchecker
  unfold State.switchMigration
  simp only [hm, htarget, hcopied, hswitched, hrole, hbeat, Bool.not_true, Bool.false_eq_true, or_self, if_false]
  rw [State.rolesSwitched] at hsome
  rw [if_pos hsome]
  exact ⟨_, rfl⟩

end

section
variable (s : State)

theorem State.enterSingle_enters (h : s.crust.single = none) (region why : Nat) :
    (s.enterSingle region why).crust.single = some ⟨s.now, why, region⟩ ∧ (s.crust.state = .run → (s.enterSingle region why).crust.state = .single)
      ∧ (s.enterSingle region why).offices = { s.offices with crust := (s.enterSingle region why).crust } ∧ (s.enterSingle region why).regions = s.regions := by
  unfold State.enterSingle
  simp only [h]
  generalize hu : (s.modCrust fun c =>
    { c with
      single := some ⟨s.now, why, region⟩
      before := if c.before = .run then .single else c.before
      state := if c.state = .run then .single else c.state }) = u
  have hframe := fault_announces u 0x0B07 .chip (at_ 8 0 region ||| at_ 8 8 why) 0
  rw [hframe.crust, State.fault_offices]
  refine ⟨by rw [← hu]; rfl, fun hrun => by rw [← hu]; exact if_pos hrun, by rw [← hu]; rfl, ?_⟩
  rw [hframe.1, ← hu]
  rfl

theorem State.leaveSingle_leaves :
    s.leaveSingle.crust.single = none ∧ (s.crust.state = .single → s.crust.single.isSome = true → s.leaveSingle.crust.state = .run)
      ∧ s.leaveSingle.offices = { s.offices with crust := s.leaveSingle.crust } := by
  unfold State.leaveSingle
  cases h : s.crust.single with
  | none => exact ⟨h, fun _ hsome => absurd hsome (by simp), rfl⟩
  | some x =>
    simp only
    generalize hu : (s.modCrust fun c =>
      { c with
        single := none
        before := if c.before = .single then .run else c.before
        state := if c.state = .single then .run else c.state }) = u
    have hframe := fault_announces u 0x0B08 .chip (at_ 32 0 (divRne ((s.now - x.since : Nat) : Int) 1000000).toNat) 0
    rw [hframe.crust, State.fault_offices]
    exact ⟨by rw [← hu]; rfl, fun hsingle _ => by rw [← hu]; exact if_pos hsingle, by rw [← hu]; rfl⟩

end

/-! ## Block swaps (R144, R483) -/

section
variable {s : State} {w : BlockSwap} (hspare : w.spare ≠ w.block) (hrole : (s.block w.region w.spare).role = 1)
include hspare hrole

/-- A spare that serves as such takes the work of the block that retires. -/
theorem State.takeSpare_takes : ∃ o : Offices, o = (s.takeSpare w).offices
    ∧ o.blockRole w.region w.block = 2 ∧ o.carries w.region w.block = 0xFF ∧ o.blockRole w.region w.spare = 0
    ∧ o.carries w.region w.spare = (if (s.block w.region w.block).carries = 0xFF then w.block.val else (s.block w.region w.block).carries)
    ∧ o.swaps = s.service.swaps.filter fun x => !(x.region == w.region && x.block == w.block) := by
  refine ⟨_, rfl, ?_⟩
  unfold State.takeSpare
  extract_lets r b s1 s2 carried x s3
  have hs1 : ∀ k j, s1.block k j = s.block k j := fun _ _ => rfl
  have hs2 : s2.offices = s1.offices := by
    unfold s2
    split
    · rfl
    · exact State.modBlock_offices _ _ _ rfl rfl
  have hcarried : carried = if (s.block w.region w.block).carries = 0xFF then w.block.val else (s.block w.region w.block).carries := by
    have hcarries : (s2.block r b).carries = (s.block w.region w.block).carries := congrArg (Offices.carries · r b) hs2
    unfold carried
    rw [hcarries]
  have hserves : ¬ (s1.block r w.spare).role ≠ 1 := not_not_intro hrole
  rw [if_neg hserves, State.moveWork_offices]
  have hspares : s3.block w.region w.spare = { s2.block r w.spare with role := 0, carries := carried, prevSeq := x.prevSeq, waiting := x.waiting, taken := x.taken, held := x.held } := by
    rw [State.block_modBlock_other _ _ (.inr hspare), State.block_modBlock_self]
  have hblock : s3.block w.region w.block = { s2.block r b with role := 2, carries := 0xFF, waiting := [], held := [] } := by
    rw [State.block_modBlock_self, State.block_modBlock_other _ _ (.inr (Ne.symm hspare))]
  refine ⟨congrArg Block.role hblock, congrArg Block.carries hblock, congrArg Block.role hspares, (congrArg Block.carries hspares).trans hcarried, ?_⟩
  exact congrArg Offices.swaps hs2

end

end Sys2Proof.Machine

namespace Sys2Proof

open Machine

section
variable {s : State} {t : Nat} {m : Migration} (hm : s.service.migration = some m)
include hm

theorem regionMigrationStart_ends (hstarted : m.started = false) (hrole : m.checkerRole = false) (hsingle : s.crust.single = none)
    (hbeat : (s.advance t).beatReached (m.decided + (s.advance t).changeLead) = true) :
    Ends (.regionMigrationStart t) s fun u => u.service.migration = some { m with started := true } ∧ u.crust.single = some ⟨(s.advance t).now, 1, m.region.val⟩
      ∧ (s.crust.state = .run → u.crust.state = .single) ∧ u.mem = s.mem ∧ ∀ k : Fin 10, u.regions[k] = s.regions[k] := by
  obtain ⟨target, hstart⟩ := State.startMigration_begins (s := s.advance t) hm hstarted hrole hsingle hbeat
  set z := (s.advance t).migrationBegun m target with hz
  have hbegun : Announces ((s.advance t).setMigration { m with started := true }) z := fault_announces ..
  have hnow : z.now = (s.advance t).now := by rw [State.now, hbegun.time]; rfl
  obtain ⟨hsome, hstate, hoffices, hregions⟩ := z.enterSingle_enters ((congrArg Crust.single hbegun.crust).trans hsingle) m.region.val 1
  rw [hnow] at hsome
  have hcrust := State.launchBeat_crust (z.enterSingle m.region.val 1)
  have hmig := State.launchBeat_migration (z.enterSingle m.region.val 1)
  have hkept := State.launchBeat_regions (z.enterSingle m.region.val 1)
  have hmem : (z.enterSingle m.region.val 1).launchBeat.mem = s.mem := by
    rw [State.launchBeat_mem, State.enterSingle_mem, hbegun.mem]
    rfl
  generalize (z.enterSingle m.region.val 1).launchBeat = u at *
  refine ⟨u, congrArg Host.Outcome.next hstart, ?_, by rw [hcrust, hsome], fun hrun => ?_, hmem, fun k => ?_⟩
  · rw [hmig, ← State.offices_migration, hoffices]
    exact congrArg Offices.migration (offices_of_announces hbegun)
  · rw [hcrust, hstate ((congrArg Crust.state hbegun.crust).trans hrun)]
  · have hz : z.regions = s.regions := by rw [hbegun.1]; rfl
    rw [hkept, hregions, hz]

theorem migrationCopyComplete_copies {tr : Fin 10} (hstarted : m.started = true) (hcopied : m.copied = false) (hrole : m.checkerRole = false) (htarget : m.target = some tr)
    (hwf : MemoriesCanonical s) : Ends (.migrationCopyComplete t true) s fun u => u.service.migration = some { m with copied := true, decided := (s.advance t).now }
      ∧ (∀ addr n : Nat, addr + n ≤ rmemSize → u.load (rmemAt tr.val addr) n = s.load (rmemAt m.region.val addr) n)
      ∧ (∀ (b : Fin 18) (addr n : Nat), addr + n ≤ spadSize → u.load ⟨2, tr.val, b.val, addr⟩ n = s.load ⟨2, m.region.val, b.val, addr⟩ n)
      ∧ u.mem.hbm = s.mem.hbm := by
  refine ⟨_, congrArg Host.Outcome.next (State.copyDone_copies (s := s.advance t) hm hstarted hcopied hrole htarget), State.setMigration_migration, fun addr n h => ?_,
    fun b addr n h => ?_, ?_⟩
  · rw [State.load_congr State.setMigration_mem, State.load_copyRegion_rmem (s := s.advance t) hwf m.region tr h]
    rfl
  · rw [State.load_congr State.setMigration_mem, State.load_copyRegion_spad (s := s.advance t) hwf m.region tr b h]
    rfl
  · rw [State.setMigration_mem, ((s.advance t).copyRegion_others m.region tr).1]
    rfl

theorem regionMigrationSwitch_switches {tr : Fin 10} (htarget : m.target = some tr) (hcopied : m.copied = true) (hswitched : m.switched = false) (hrole : m.checkerRole = false)
    (hne : tr ≠ m.region) (hchecker : ∃ k : Fin 10, k ≠ m.region ∧ k ≠ tr ∧ s.regions[k].role = 1)
    (hbeat : (s.advance t).beatReached (m.decided + (s.advance t).changeLead) = true) :
    Ends (.regionMigrationSwitch t true) s fun u => u.regions[m.region].role = 3 ∧ u.regions[tr].role = 0 ∧ u.crust.single = none
      ∧ (s.crust.state = .single → s.crust.single.isSome = true → u.crust.state = .run) ∧ ∃ us, u.service.migration = some { m with switched := true, singleUs := us } := by
  obtain ⟨k, hregion, htr, hk⟩ := hchecker
  obtain ⟨us, hswitch⟩ := State.switchMigration_switches (s := s.advance t) hm htarget hcopied hswitched hrole hbeat ⟨hregion, htr⟩ hk
  have hoffices := State.moveRegion_offices ((s.advance t).rolesSwitched m.region tr) m.region tr
  generalize ((s.advance t).rolesSwitched m.region tr).moveRegion m.region tr = z at *
  have hzcrust : z.crust = s.crust := by
    rw [← State.offices_crust, hoffices]
    rfl
  obtain ⟨hnone, hrun, hleft⟩ := z.leaveSingle_leaves
  rw [hzcrust] at hrun
  have hcrust := State.launchBeat_crust (z.leaveSingle.setMigration { m with switched := true, singleUs := us })
  have hmig := State.launchBeat_migration (z.leaveSingle.setMigration { m with switched := true, singleUs := us })
  have hregions := State.launchBeat_regions (z.leaveSingle.setMigration { m with switched := true, singleUs := us })
  rw [State.setMigration_crust] at hcrust
  rw [State.setMigration_migration] at hmig
  rw [State.setMigration_regions] at hregions
  generalize (z.leaveSingle.setMigration { m with switched := true, singleUs := us }).launchBeat = u at *
  have hroles : ∀ j : Fin 10, u.regions[j].role = ((s.advance t).rolesSwitched m.region tr).offices.role j := fun j => by
    rw [hregions, ← hoffices, ← State.offices_role, hleft]
  refine ⟨u, congrArg Host.Outcome.next hswitch, ?_, ?_, by rw [hcrust, hnone], fun hstate hsome => by rw [hcrust, hrun hstate hsome], us, hmig⟩
  · rw [hroles, State.rolesSwitched, State.role_modRegion, State.role_modRegion, if_neg hne, if_pos rfl]
  · rw [hroles, State.rolesSwitched, State.role_modRegion, if_pos rfl]

end

theorem blockSwap_ends {s : State} {t : Nat} {r : Fin 10} {b : Fin 18} {w : BlockSwap} (hfind : (s.service.swaps.find? fun x => x.region == r && x.block == b) = some w)
    (hspare : w.spare ≠ b) (hrole : (s.block r w.spare).role = 1) (hbeat : (s.advance t).beatReached (w.decided + (s.advance t).changeLead) = true) :
    Ends (.blockSwap t r b) s fun u => (u.block r b).role = 2 ∧ (u.block r b).carries = 0xFF ∧ (u.block r w.spare).role = 0
      ∧ (u.block r w.spare).carries = (if (s.block r b).carries = 0xFF then b.val else (s.block r b).carries)
      ∧ (u.service.swaps.find? fun x => x.region == r && x.block == b) = none := by
  have hw := List.find?_some hfind
  simp only [Bool.and_eq_true, beq_iff_eq] at hw
  obtain ⟨rfl, rfl⟩ := hw
  have hswap : (s.advance t).swapBlock w.region w.block = ((s.advance t).takeSpare w).launchBeat := by
    unfold State.swapBlock
    rw [show ((s.advance t).service.swaps.find? fun x => x.region == w.region && x.block == w.block) = some w from hfind]
    exact if_pos hbeat
  obtain ⟨o, ho, hretired, hcarries, htakes, hcarried, hswaps⟩ := State.takeSpare_takes (s := s.advance t) hspare hrole
  have hoffices : ((s.advance t).takeSpare w).launchBeat.offices = o := (State.launchBeat_offices _).trans ho.symm
  generalize ((s.advance t).takeSpare w).launchBeat = u at *
  subst hoffices
  refine ⟨u, congrArg Host.Outcome.next hswap, hretired, hcarries, htakes, hcarried, ?_⟩
  rw [← State.offices_swaps, hswaps, List.find?_eq_none]
  intro x hx
  simpa [Classical.or_iff_not_imp_left] using (List.mem_filter.mp hx).2

/-- Settles O21: a migration goes by its record, its copy by `cellGet_copyCells`, and neither the moves of work nor the launch beat changes a role (`State.offices`). -/
theorem migrationsAndBlockSwaps : Obligations.MigrationsAndBlockSwaps := by
  refine ⟨fun s t ses r h hacts hrole hexhausted hspare hmig hsingle => migrationRequest_served hacts hrole hexhausted hspare hmig hsingle, fun s t m hm => ⟨?_, ?_, ?_, ?_, ?_⟩,
    fun s t r b w => blockSwap_ends⟩
  · exact regionMigrationStart_ends hm
  · exact fun tr => migrationCopyComplete_copies hm
  · exact fun hstarted hcopied hrole hregion hnext => congrArg Host.Outcome.next (State.copyDone_fails (s := s.advance t) hm hstarted hcopied hrole hregion hnext)
  · exact fun tr => regionMigrationSwitch_switches hm
  · exact fun hswitched hmoves hnext => congrArg Host.Outcome.next (State.finishMigration_ends (s := s.advance t) hm hswitched hmoves hnext)

end Sys2Proof

namespace Sys2Proof.Machine

/-! ## Descriptors that start as they arrive (R147 to R149, R163, R165) -/

/-- An admitted header is refused for nothing. -/
theorem headerStatus_of_headerOk {s : State} {r : Fin 10} {h : BitVec 128} {engine : Nat} {classOk : Bool} {prev : Option Nat} (hok : HeaderOk s r h engine classOk prev) :
    headerStatus h engine classOk (sequenceOk prev (hSequence h)) (s.permits (hClass h) (rmemAt r.val (hStatusAddr h)) 16 true) = none := by
  obtain ⟨hcls, hclassOk⟩ := hok.cls
  simp [headerStatus, hok.fields, hcls, hclassOk, hok.sequence, hok.status]

/-- Of one waiting descriptor the next to start is that one. -/
theorem nextReady_one {ready : List Waiting → Waiting → Bool} {w : Waiting} (h : ready [] w = true) : nextReady ready [w] = some w := by
  cases hcls : w.cls != 3 <;> simp [nextReady, h, hcls]

theorem State.commitHolds_of_none {s : State} (h : s.preparing = []) (k : Route) (c : Instr) : s.commitHolds k c = false := by
  unfold State.commitHolds
  split
  · rfl
  · rw [h]
    rfl

theorem State.modBlock_modBlock (s : State) (r : Fin 10) (b : Fin 18) (f g : Block → Block) : (s.modBlock r b f).modBlock r b g = s.modBlock r b fun x => g (f x) := by
  simp [State.modBlock, upd]

theorem State.modBlock_congr {s : State} {r : Fin 10} {b : Fin 18} {f g : Block → Block} (h : f (s.block r b) = g (s.block r b)) : s.modBlock r b f = s.modBlock r b g := by
  have hset : upd s.blocks (blk r b) f = upd s.blocks (blk r b) g := congrArg (s.blocks.set (blk r b) ·) h
  rw [State.modBlock, State.modBlock, hset]

/-- A descriptor of a block that can start does so as it arrives, but for an access descriptor, whose buffer may hold it. -/
theorem State.submit_block {s : State} {r : Fin 10} {b : Fin 18} {c : Instr} {h : BitVec 128} {engine : Nat} (hroute : ∀ x : State, x.routeOf c = some (.ofBlock engine r b))
    (hheader : descHeader c = some h) (hlane : laneOf c ≠ 2) (hstart : BlockStarts s r b c h)
    (hok : HeaderOk s r h engine (s.blockAdmits r b (hClass h)) (s.block r b).prevSeq) : s.submit c = (blockNoted s r b c h).startCmd c := by
  set w : Waiting := ⟨(s.block r b).taken, c⟩ with hw
  set s1 := s.modBlock r b fun x => { x with prevSeq := some (hSequence h) } with hs1
  set s2 := s1.modBlock r b fun x => { x with waiting := x.waiting ++ [⟨x.taken, c⟩], taken := x.taken + 1 } with hs2
  have hcheck : s.checkBlockHeader r b h engine = (none, s1) := by
    unfold State.checkBlockHeader
    dsimp only
    rw [headerStatus_of_headerOk hok, hok.sequence]
    rfl
  have hblock : s2.block r b = { s.block r b with prevSeq := some (hSequence h), waiting := [w], taken := (s.block r b).taken + 1 } := by
    simp [hs2, hs1, hw, hstart.queue]
  have hready : s2.blockReady r b [] w = true := by
    have hmay : s2.mayStart r h = true := hstart.may
    have hcommits : s2.commitHolds (.ofBlock engine r b) c = false := State.commitHolds_of_none (s := s2) hstart.commits _ c
    have hport : (s2.block r b).selWait = none := by rw [hblock]; exact hstart.port
    unfold State.blockReady
    simp [hroute, hheader, hw, hport, hmay, hcommits, hlane]
  have hpump : s2.pumpBlock r b = s2.startWaiting r b w := by
    have hnext : nextReady (s2.blockReady r b) (s2.block r b).waiting = some w := by rw [hblock]; exact nextReady_one hready
    have honce : s2.pumpOnce r b = s2.startWaiting r b w := by rw [State.pumpOnce, hnext]
    rw [State.pumpBlock, hblock]
    exact honce
  have hnoted : s2.startWaiting r b w = (blockNoted s r b c h).startCmd c := by
    refine congrArg (State.startCmd · c) ?_
    rw [hs2, hs1, State.modBlock_modBlock, State.modBlock_modBlock]
    refine State.modBlock_congr ?_
    simp [hw, hstart.queue]
    rfl
  unfold State.submit
  simp only [hroute, hheader, Route.ofBlock, hstart.logic, hcheck, hstart.queue, List.length_nil, Bool.not_true, Bool.false_eq_true, if_false, Nat.reduceLeDiff]
  exact hpump.trans hnoted

/-- The state in which a descriptor of the zoo starts: its queue has noted its sequence number (R165). -/
def zooNoted (s : State) (r : Fin 10) (k : Nat) (h : BitVec 128) : State := s.modRegion r fun x => { x with prevSeq := put x.prevSeq k (hSequence h) }

theorem State.modRegion_modRegion (s : State) (r : Fin 10) (f g : Region → Region) : (s.modRegion r f).modRegion r g = s.modRegion r fun x => g (f x) := by
  simp [State.modRegion, upd]

theorem State.modRegion_congr {s : State} {r : Fin 10} {f g : Region → Region} (h : f s.regions[r] = g s.regions[r]) : s.modRegion r f = s.modRegion r g := by
  have hset : upd s.regions r f = upd s.regions r g := congrArg (s.regions.set r ·) h
  rw [State.modRegion, State.modRegion, hset]

/-- Whether a descriptor may start does not depend on what waits in its region, nor on the numbers that its queues have seen. -/
theorem State.mayStart_modRegion (s : State) (r : Fin 10) {f : Region → Region} (hf : (f s.regions[r]).hotClassL = s.regions[r].hotClassL) (h : BitVec 128) :
    (s.modRegion r f).mayStart r h = s.mayStart r h := by
  simp only [Fin.getElem_fin] at hf
  simp [State.mayStart, upd, hf]

/-- A descriptor of the zoo that can start does so as it arrives. -/
theorem State.submit_zoo {s : State} {r : Fin 10} {c : Instr} {h : BitVec 128} {engine queue : Nat} (hroute : ∀ x : State, x.routeOf c = some (.ofZoo engine r queue))
    (hheader : descHeader c = some h) (hstart : ZooStarts s r h)
    (hok : HeaderOk s r h engine (hClass h == queue) (get? s.regions[r].prevSeq (zooQueue engine queue 0))) :
    s.submit c = (zooNoted s r (zooQueue engine queue 0) h).startCmd c := by
  set s1 := zooNoted s r (zooQueue engine queue 0) h with hs1
  set s2 := s1.modRegion r fun x => { x with waiting := x.waiting ++ [⟨0, c⟩] } with hs2
  have hcheck : s.checkZooHeader r h engine queue 0 = (none, s1) := by
    unfold State.checkZooHeader
    dsimp only
    rw [headerStatus_of_headerOk hok, hok.sequence]
    rfl
  have hwaiting : s2.regions[r].waiting = [⟨0, c⟩] := by
    have hqueue := hstart.queue
    simp_all [zooNoted, upd]
  have hready : s2.zooReady r [] ⟨0, c⟩ = true := by
    have hmay : s2.mayStart r h = true := by rw [hs2, State.mayStart_modRegion _ _ rfl, hs1, zooNoted, State.mayStart_modRegion _ _ rfl, hstart.may]
    have hcommits : s2.commitHolds (.ofZoo engine r queue) c = false := State.commitHolds_of_none (s := s2) hstart.commits _ c
    unfold State.zooReady
    simp [hroute, hheader, hmay, hcommits]
  have hpump : s2.pumpZoo r = s2.pumpZooOnce r := by
    rw [State.pumpZoo, hwaiting]
    rfl
  have honce : s2.pumpZooOnce r = s1.startCmd c := by
    rw [State.pumpZooOnce, hwaiting, nextReady_one hready]
    refine congrArg (State.startCmd · c) ?_
    have hqueue := hstart.queue
    rw [hs2, hs1, zooNoted, State.modRegion_modRegion, State.modRegion_modRegion]
    refine State.modRegion_congr ?_
    simp_all
  unfold State.submit
  simp only [hroute, hheader, Route.ofZoo, hstart.logic, hcheck, Bool.not_true, Bool.false_eq_true, if_false]
  exact hpump.trans honce

end Sys2Proof.Machine

namespace Sys2Proof.Machine

/-! ## What the descriptors of the engines rest on -/

/-- What a descriptor's checks and results rest on, besides the memories: the launch, the slots, what permits its accesses, and the accumulators with their marks. -/
structure Standing where
  launch : Launch
  slots : Fin 10 → List (Nat × Slot)
  active : Option ParamSet
  interleave : List Nat
  acc : Fin 10 → Fin 18 → List (Nat × BitVec 32)
  poison : Fin 10 → Fin 18 → List (Fin 4 × Nat × Nat)

/-- The standing of a state. -/
def State.standing (s : State) : Standing :=
  { launch := s.launch, slots := fun r => s.regions[r].slots, active := s.crust.active, interleave := s.power.interleave
    acc := fun r b => (s.block r b).acc, poison := fun r b => (s.block r b).poison }

theorem permits_congr {s u : State} (hactive : u.crust.active = s.crust.active) (hinterleave : u.power.interleave = s.power.interleave) (cls : Nat) (p : MemRef) (n : Nat)
    (write : Bool) : u.permits cls p n write = s.permits cls p n write := by
  have hmap : u.partMap = s.partMap := by rw [State.partMap, State.partMap, hactive]
  have hbytes : u.hbmBytes = s.hbmBytes := by rw [State.hbmBytes, State.hbmBytes, hinterleave]
  rw [State.permits, State.permits, hmap, hbytes]

section
variable {s u : State} (h : u.standing = s.standing)
include h

theorem launch_of_standing : u.launch = s.launch := congrArg Standing.launch h

theorem slots_of_standing (r : Fin 10) : u.regions[r].slots = s.regions[r].slots := congrArg (Standing.slots · r) h

theorem acc_of_standing (r : Fin 10) (b : Fin 18) : (u.block r b).acc = (s.block r b).acc := congrArg (Standing.acc · r b) h

theorem poisonOf_of_standing (r : Fin 10) (b : Fin 18) (set : Nat) : (u.block r b).poisonOf set = (s.block r b).poisonOf set := by
  have hpoison : (u.block r b).poison = (s.block r b).poison := congrArg (Standing.poison · r b) h
  rw [Block.poisonOf, Block.poisonOf, hpoison]

theorem slotOf_of_standing (r : Fin 10) (n : Nat) : u.slotOf r n = s.slotOf r n := by rw [State.slotOf, State.slotOf, slots_of_standing h]

theorem permits_of_standing (cls : Nat) (p : MemRef) (n : Nat) (write : Bool) : u.permits cls p n write = s.permits cls p n write :=
  permits_congr (congrArg Standing.active h) (congrArg Standing.interleave h) cls p n write

end

theorem standing_of_announces {s u : State} (h : Announces s u) : u.standing = s.standing := by rw [h.1]; rfl

section
variable (s : State)

@[simp] theorem State.fault_standing (code : Nat) (loc : Loc) (detail part : Nat) : (s.fault code loc detail part).standing = s.standing :=
  standing_of_announces (fault_announces s code loc detail part)

@[simp] theorem State.bump_standing (key : Key) (n : Nat) : (s.bump key n).standing = s.standing := rfl

@[simp] theorem State.emit_standing (o : Output) : (s.emit o).standing = s.standing := rfl

@[simp] theorem State.store_standing (p : MemRef) (bs : Bytes) : (s.store p bs).standing = s.standing := rfl

@[simp] theorem State.drawNat_standing (p w : Nat) (ops : List Int) : (s.drawNat p w ops).2.standing = s.standing := rfl

@[simp] theorem State.countRegion_standing (r : Fin 10) (k : Fin 16) (n : Nat) : (s.countRegion r k n).standing = s.standing := rfl

@[simp] theorem State.countTokens_standing (r : Fin 10) (k : Fin 16) : (s.countTokens r k).standing = s.standing := rfl

@[simp] theorem State.countSat_standing (n : Nat) : (s.countSat n).standing = s.standing := by
  unfold State.countSat
  split <;> rfl

theorem State.modBlock_standing (r : Fin 10) (b : Fin 18) {f : Block → Block} (hacc : (f (s.block r b)).acc = (s.block r b).acc)
    (hpoison : (f (s.block r b)).poison = (s.block r b).poison) : (s.modBlock r b f).standing = s.standing := by
  have hblock : ∀ (k : Fin 10) (j : Fin 18), ((s.modBlock r b f).block k j).acc = (s.block k j).acc ∧ ((s.modBlock r b f).block k j).poison = (s.block k j).poison := by
    intro k j
    by_cases hk : k = r ∧ j = b
    · obtain ⟨rfl, rfl⟩ := hk
      rw [State.block_modBlock_self]
      exact ⟨hacc, hpoison⟩
    · rw [State.block_modBlock_other s f (by tauto)]
      exact ⟨rfl, rfl⟩
  simp [State.standing, hblock]

theorem State.modRegion_standing (r : Fin 10) {f : Region → Region} (hslots : (f s.regions[r]).slots = s.regions[r].slots) : (s.modRegion r f).standing = s.standing := by
  have hregion : ∀ k : Fin 10, (s.modRegion r f).regions[k].slots = s.regions[k].slots := by
    intro k
    by_cases hk : r.val = k.val
    · obtain rfl := Fin.ext hk
      simpa [upd] using hslots
    · simp [upd, hk]
  exact congrArg (fun slots => { s.standing with slots := slots }) (funext hregion)

theorem State.foldl_standing {α : Type} {f : State → α → State} (hf : ∀ a x, (f a x).standing = a.standing) (l : List α) : (l.foldl f s).standing = s.standing := by
  induction l generalizing s with
  | nil => rfl
  | cons x l ih => exact (ih (f s x)).trans (hf s x)

theorem State.axisOff_standing (k : Fin 16) : (s.axisOff k).standing = s.standing := rfl

theorem State.supplyAction_standing (k : Fin 16) : (s.supplyAction k).standing = s.standing := by
  unfold State.supplyAction
  split <;> rfl

theorem State.modOutput_standing (k : Fin 32) (f : DOut → DOut) : (s.modOutput k f).standing = s.standing := rfl

theorem State.axesOff_standing (mask : BitVec 16) : (s.axesOff mask).standing = s.standing := by
  refine State.foldl_standing s (fun a k => ?_) _
  split
  · exact a.axisOff_standing k
  · rfl

theorem State.outputOff_standing : s.outputOff.standing = s.standing := by
  rw [State.outputOff, State.foldl_standing _ State.supplyAction_standing, State.foldl_standing _ fun a k => a.modOutput_standing k _, State.axesOff_standing]

@[simp] theorem State.react_standing (cause code : Nat) (axes : BitVec 16) : (s.react cause code axes).standing = s.standing := by
  have hout : ∀ (x : State) (level : Nat), (if level = 2 then x.outputOff else x.axesOff axes).standing = x.standing := fun x level => by
    split
    · exact x.outputOff_standing
    · exact x.axesOff_standing axes
  unfold State.react State.reactAt
  dsimp only
  split
  · rfl
  · rw [State.fault_standing, State.bump_standing, hout]
    rfl

@[simp] theorem State.guardRefused_standing (cls : Nat) (p : MemRef) (region : Nat) : (s.guardRefused cls p region).standing = s.standing := by
  unfold State.guardRefused
  dsimp only
  split <;> simp

@[simp] theorem State.complete_standing (r : Fin 10) (b : Nat) (h : BitVec 128) (status detail count : Nat) (invalid late : Bool) :
    (s.complete r b h status detail count invalid late).standing = s.standing := by
  unfold State.complete
  dsimp only
  split
  · split <;> simp
  · rfl

@[simp] theorem State.endGuard_standing (r : Fin 10) (b : Nat) (h : BitVec 128) (p : MemRef) : (s.endGuard r b h p).standing = s.standing := by simp [State.endGuard]

@[simp] theorem State.refuse_standing (r : Fin 10) (b : Nat) (h : BitVec 128) (status detail : Nat) (counted : Bool) :
    (s.refuse r b h status detail counted).standing = s.standing := by
  unfold State.refuse
  cases counted <;> simp

@[simp] theorem State.queueMapOut_standing (loc : BitVec 32) (cause : Nat) : (s.queueMapOut loc cause).standing = s.standing := by
  unfold State.queueMapOut
  split
  · split
    · exact s.modBlock_standing _ _ rfl rfl
    · exact s.modRegion_standing _ rfl
  · rfl

@[simp] theorem State.eccUncorrectable_standing (k : BadLane) (seq cls : Nat) : (s.eccUncorrectable k seq cls).standing = s.standing := by
  unfold State.eccUncorrectable
  dsimp only
  split <;> simp

@[simp] theorem State.recordSkew_standing (loc : Loc) (h : BitVec 128) (operand : Nat) (k : Skew) : (s.recordSkew loc h operand k).standing = s.standing := by
  simp [State.recordSkew]

@[simp] theorem State.slotFields_standing (r : Fin 10) (slot : Option Nat) : (s.slotFields r slot).2.standing = s.standing := by
  unfold State.slotFields
  split <;> rfl

@[simp] theorem State.invalidStats_standing (format : Nat) (fields : Nat × Nat) : (s.invalidStats format fields).2.standing = s.standing := by
  simp [State.invalidStats]

@[simp] theorem State.scaleFor_standing (r : Fin 10) (fmt : Nat) (slot : Option Nat) : (s.scaleFor r fmt slot).2.standing = s.standing := by
  unfold State.scaleFor
  split
  · rfl
  · split <;> rfl

@[simp] theorem State.outerFor_standing (r : Fin 10) (fmt : Nat) (slot : Option Nat) : (s.outerFor r fmt slot).2.standing = s.standing := by
  unfold State.outerFor
  split
  · exact State.scaleFor_standing ..
  · rfl

@[simp] theorem State.tensorStats_standing (r : Fin 10) (p : MemRef) (fmt : Nat) (slot : Option Nat) (xs : List Exact) (w : Written) :
    (s.tensorStats r p fmt slot xs w).standing = s.standing := by
  unfold State.tensorStats
  split <;> simp

@[simp] theorem State.tensorInvalid_standing (r : Fin 10) (p : MemRef) (fmt : Nat) (slot : Option Nat) : (s.tensorInvalid r p fmt slot).standing = s.standing := by
  unfold State.tensorInvalid
  split <;> simp

@[simp] theorem State.startBlock_standing (r : Fin 10) (b : Fin 18) (h : BitVec 128) : (s.startBlock r b h).standing = s.standing := by
  unfold State.startBlock
  split
  · exact s.modBlock_standing _ _ rfl rfl
  · rfl

@[simp] theorem State.countCell_standing (r : Fin 10) (b : Fin 18) (cell k n : Nat) : (s.countCell r b cell k n).standing = s.standing := by
  unfold State.countCell
  split <;> rfl

@[simp] theorem State.countBlock_standing (r : Fin 10) (b : Fin 18) (k : Fin 18) (n : Nat) : (s.countBlock r b k n).standing = s.standing := by
  unfold State.countBlock
  split <;> rfl

@[simp] theorem State.countExecute_standing (r : Fin 10) (b : Fin 18) (d : ExecDesc) (worked : Bool) : (s.countExecute r b d worked).standing = s.standing := by
  unfold State.countExecute
  dsimp only
  rw [State.modBlock_standing _ _ _ rfl rfl, State.countBlock_standing, State.countBlock_standing, State.countBlock_standing,
    State.foldl_standing _ fun a _ => a.countCell_standing ..]

/-- A tensor that goes to memory, not to the release buffer. -/
theorem State.writeTensor_standing (r : Fin 10) (b : Nat) {h : BitVec 128} (hhold : hReleaseHold h = false) (fmt : Nat) (dst stream : MemRef) (w : Written) (invalid : Bool) :
    (s.writeTensor r b h fmt dst stream w invalid).standing = s.standing := by
  unfold State.writeTensor
  simp only [hhold, Bool.false_eq_true, if_false, State.countSat_standing, State.emit_standing]
  split <;> rfl

end

end Sys2Proof.Machine

namespace Sys2Proof.Machine

/-! ## What a descriptor writes -/

/-- Memory reads in `u` as in `s` at every place that shares no byte with those of a list. -/
def WritesOnly (ps : List (MemRef × Nat)) (s u : State) : Prop :=
  ∀ (q : MemRef) (k : Nat), q.space < 3 → (∀ p ∈ ps, Apart q k p.1 p.2) → u.load q k = s.load q k

/-- `n` bytes at a place lie within `k` bytes at another. -/
def Within (p : MemRef) (n : Nat) (q : MemRef) (k : Nat) : Prop := p.space = q.space ∧ q.key ≤ p.key ∧ p.key + n ≤ q.key + k

theorem Within.refl (p : MemRef) {n k : Nat} (h : n ≤ k) : Within p n p k := ⟨rfl, Nat.le_refl _, by omega⟩

theorem Apart.within {x p q : MemRef} {m n k : Nat} (h : Apart x m q k) (hw : Within p n q k) : Apart x m p n := by
  obtain ⟨hspace, hlo, hhi⟩ := hw
  unfold Apart at *
  omega

namespace WritesOnly

variable {ps : List (MemRef × Nat)} {s u w : State}

theorem of_mem (h : u.mem = s.mem) : WritesOnly ps s u := fun q k _ _ => State.load_congr h q k

theorem trans (hsu : WritesOnly ps s u) (huw : WritesOnly ps u w) : WritesOnly ps s w := fun q k hq hps => (huw q k hq hps).trans (hsu q k hq hps)

theorem store {p q : MemRef} {bs : Bytes} {k : Nat} (hmem : (q, k) ∈ ps) (hw : Within p bs.length q k) (hp : p.space < 3) : WritesOnly ps s (s.store p bs) :=
  fun _ _ hx hps => s.load_store_apart hp hx ((hps (q, k) hmem).within hw).symm

theorem mono {ps' : List (MemRef × Nat)} (h : WritesOnly ps s u) (hin : ∀ p ∈ ps, ∃ q ∈ ps', Within p.1 p.2 q.1 q.2) : WritesOnly ps' s u :=
  fun x m hx hps => h x m hx fun p hp =>
    have ⟨q, hq, hw⟩ := hin p hp
    (hps q hq).within hw

end WritesOnly

/-- `u` stands as `s` does, and has other bytes at some places only. -/
structure Leaves (ps : List (MemRef × Nat)) (s u : State) : Prop where
  writes : WritesOnly ps s u
  standing : u.standing = s.standing

namespace Leaves

variable {ps : List (MemRef × Nat)} {s u w : State}

theorem of_mem (hmem : u.mem = s.mem) (hstanding : u.standing = s.standing) : Leaves ps s u := ⟨.of_mem hmem, hstanding⟩

theorem refl (s : State) : Leaves ps s s := .of_mem rfl rfl

theorem trans (hsu : Leaves ps s u) (huw : Leaves ps u w) : Leaves ps s w := ⟨hsu.writes.trans huw.writes, huw.standing.trans hsu.standing⟩

theorem store {p q : MemRef} {bs : Bytes} {k : Nat} (hmem : (q, k) ∈ ps) (hw : Within p bs.length q k) (hp : p.space < 3) : Leaves ps s (s.store p bs) :=
  ⟨.store hmem hw hp, s.store_standing p bs⟩

theorem mono {ps' : List (MemRef × Nat)} (h : Leaves ps s u) (hin : ∀ p ∈ ps, ∃ q ∈ ps', Within p.1 p.2 q.1 q.2) : Leaves ps' s u := ⟨h.writes.mono hin, h.standing⟩

theorem launch (h : Leaves ps s u) : u.launch = s.launch := launch_of_standing h.standing

end Leaves

/-! ## Status records (R163, R166) -/

/-- The place of the status record of a descriptor. -/
def statusPlace (r : Fin 10) (h : BitVec 128) : MemRef := rmemAt r.val (hStatusAddr h)

section
variable (s : State) (r : Fin 10) (b : Nat) (h : BitVec 128) (status detail count : Nat) (invalid late : Bool)

theorem State.complete_cases : (s.complete r b h status detail count invalid late).mem = s.mem
    ∨ (s.complete r b h status detail count invalid late).mem
      = (s.store (statusPlace r h) (leBytes 16 (statusRecord (hSequence h) status detail count invalid late))).mem := by
  unfold State.complete
  dsimp only
  split
  · right
    split <;> rfl
  · exact .inl rfl

theorem State.complete_leaves : Leaves [(statusPlace r h, 16)] s (s.complete r b h status detail count invalid late) := by
  refine ⟨?_, s.complete_standing ..⟩
  rcases s.complete_cases r b h status detail count invalid late with hmem | hmem
  · exact .of_mem hmem
  · exact WritesOnly.trans (.store (List.mem_singleton_self _) (.refl _ (Nat.le_of_eq (leBytes_length ..))) (by decide : 1 < 3)) (.of_mem hmem)

theorem State.complete_statusIs (hpermits : s.permits (hClass h) (statusPlace r h) 16 true = true) :
    StatusIs (s.complete r b h status detail count invalid late) r h status detail count invalid late := by
  have hmem : (s.complete r b h status detail count invalid late).mem
      = (s.store (statusPlace r h) (leBytes 16 (statusRecord (hSequence h) status detail count invalid late))).mem := by
    unfold State.complete
    dsimp only
    split
    · split <;> rfl
    · exact absurd hpermits ‹_›
  have hread := s.load_store_self (statusPlace r h) (leBytes 16 (statusRecord (hSequence h) status detail count invalid late))
  rw [leBytes_length] at hread
  rw [StatusIs, State.load_congr hmem]
  exact hread

end

theorem statusIs_of_mem {s u : State} {r : Fin 10} {h : BitVec 128} {status detail count : Nat} {invalid late : Bool} (hs : StatusIs s r h status detail count invalid late)
    (hmem : u.mem = s.mem) : StatusIs u r h status detail count invalid late := by
  rw [StatusIs, State.load_congr hmem]
  exact hs

section
variable (s : State) {r : Fin 10} {h : BitVec 128}

theorem State.refuse_statusIs (b : Nat) (status detail : Nat) (counted : Bool) (hpermits : s.permits (hClass h) (statusPlace r h) 16 true = true) :
    StatusIs (s.refuse r b h status detail counted) r h status detail 0 false false := by
  refine statusIs_of_mem (s.complete_statusIs r b h status detail 0 false false hpermits) ?_
  unfold State.refuse
  cases counted <;> simp

theorem State.refuse_leaves (b : Nat) (status detail : Nat) (counted : Bool) : Leaves [(statusPlace r h, 16)] s (s.refuse r b h status detail counted) := by
  refine (s.complete_leaves r b h status detail 0 false false).trans (.of_mem ?_ (by simp))
  unfold State.refuse
  cases counted <;> simp

theorem State.endGuard_statusIs (b : Nat) (p : MemRef) (hpermits : s.permits (hClass h) (statusPlace r h) 16 true = true) :
    StatusIs (s.endGuard r b h p) r h 0x0205 0 0 false false := by
  refine State.complete_statusIs _ r b h 0x0205 0 0 false false ?_
  rw [permits_of_standing (s := s) (by simp)]
  exact hpermits

theorem State.endGuard_leaves (b : Nat) (p : MemRef) : Leaves [(statusPlace r h, 16)] s (s.endGuard r b h p) := by
  refine Leaves.trans (.of_mem ?_ ?_) (State.complete_leaves _ r b h 0x0205 0 0 false false) <;> simp

end

/-! ## Headers that are refused (R165) -/

/-- A descriptor of the zoo whose header's fields are wrong is refused as it arrives. -/
theorem State.submit_zoo_invalid {s : State} {r : Fin 10} {c : Instr} {h : BitVec 128} {engine queue : Nat} (hroute : s.routeOf c = some (.ofZoo engine r queue))
    (hheader : descHeader c = some h) (hlogic : s.logicOn r = true) (hinvalid : headerInvalid h engine = true) :
    ∃ x : State, x.standing = s.standing ∧ x.mem = s.mem ∧ s.submit c = x.refuse r 18 h 0x0200 0 true := by
  obtain ⟨x, hcheck, hstanding, hmem⟩ : ∃ x : State, s.checkZooHeader r h engine queue 0 = (some 0x0200, x) ∧ x.standing = s.standing ∧ x.mem = s.mem := by
    unfold State.checkZooHeader headerStatus
    simp only [hinvalid, if_true]
    refine ⟨_, rfl, ?_, ?_⟩
    · split
      · exact s.modRegion_standing _ rfl
      · rfl
    · split <;> rfl
  refine ⟨x, hstanding, hmem, ?_⟩
  unfold State.submit
  simp only [hroute, hheader, Route.ofZoo, hlogic, hcheck, Bool.not_true, Bool.false_eq_true, if_false]
  rfl

/-- A descriptor of a block whose header's fields are wrong is refused as it arrives. -/
theorem State.submit_block_invalid {s : State} {r : Fin 10} {b : Fin 18} {c : Instr} {h : BitVec 128} {engine : Nat} (hroute : s.routeOf c = some (.ofBlock engine r b))
    (hheader : descHeader c = some h) (hlogic : s.logicOn r = true) (hqueue : (s.block r b).waiting = []) (hinvalid : headerInvalid h engine = true) :
    ∃ x : State, x.standing = s.standing ∧ x.mem = s.mem ∧ s.submit c = x.refuse r b.val h 0x0200 0 true := by
  obtain ⟨x, hcheck, hstanding, hmem⟩ : ∃ x : State, s.checkBlockHeader r b h engine = (some 0x0200, x) ∧ x.standing = s.standing ∧ x.mem = s.mem := by
    unfold State.checkBlockHeader headerStatus
    simp only [hinvalid, if_true]
    refine ⟨_, rfl, ?_, ?_⟩
    · split
      · exact s.modBlock_standing _ _ rfl rfl
      · rfl
    · split <;> rfl
  refine ⟨x, hstanding, hmem, ?_⟩
  unfold State.submit
  simp only [hroute, hheader, Route.ofBlock, hlogic, hcheck, hqueue, List.length_nil, Bool.not_true, Bool.false_eq_true, if_false, Nat.reduceLeDiff]
  rfl

end Sys2Proof.Machine

namespace Sys2Proof.Machine

/-! ## The bytes of an encoded tensor (R173, R174, R184, R187) -/

theorem divUp_mono {a b k : Nat} (h : a ≤ b) : divUp a k ≤ divUp b k := Nat.div_le_div_right (by omega)

theorem paddedCount_mono (fmt : Nat) {m n : Nat} (h : m ≤ n) : paddedCount fmt m ≤ paddedCount fmt n := by
  unfold paddedCount
  split
  · exact Nat.mul_le_mul_left _ (divUp_mono h)
  · split
    · exact Nat.mul_le_mul_left _ (divUp_mono h)
    · exact h

theorem rowBlocks_mono (fmt : Nat) {m n : Nat} (h : m ≤ n) : rowBlocks fmt m ≤ rowBlocks fmt n := by
  unfold rowBlocks
  split <;> exact divUp_mono h

/-- What one row of a tensor takes: its elements, its block scales and its group records. -/
structure Sizes where
  codes : Nat
  scales : Nat
  records : Nat

/-- The sizes of a tensor as written. -/
def Written.sizes (w : Written) : Sizes := ⟨w.codes.length, w.scales.length, w.records.length⟩

/-- The sizes of a row of `n` elements. -/
def rowSizes (fmt n : Nat) : Sizes := ⟨paddedCount fmt n, if isMx fmt then rowBlocks fmt n else 0, if fmt = 13 then rowBlocks fmt n else 0⟩

theorem mxEncode_sizes (fmt : Nat) (xs : List Exact) : (mxEncode fmt xs).sizes = ⟨xs.length, 1, 0⟩ := by
  unfold mxEncode Written.sizes
  split
  · simp
  · split
    · split <;> simp
    · simp

theorem ex8Encode_sizes (scale g : Nat) (xs : List Exact) : (ex8Encode scale g xs).sizes = ⟨xs.length, 0, 1⟩ := by
  simp [ex8Encode, Written.sizes]

theorem length_of_mem_chunks {α : Type} {k : Nat} {z : α} {xs c : List α} (h : c ∈ chunks k z xs) : c.length = k := by
  obtain ⟨i, -, rfl⟩ := List.mem_map.mp h
  simp only [List.length_append, List.length_replicate, List.length_take, List.length_drop]
  omega

theorem length_chunks {α : Type} (k : Nat) (z : α) (xs : List α) : (chunks k z xs).length = divUp xs.length k := by simp [chunks]

theorem Written.append_sizes (a b : Written) :
    (a.append b).sizes = ⟨a.sizes.codes + b.sizes.codes, a.sizes.scales + b.sizes.scales, a.sizes.records + b.sizes.records⟩ := by
  simp [Written.append, Written.sizes]

theorem foldl_append_sizes {ws : List Written} {k : Sizes} (h : ∀ w ∈ ws, w.sizes = k) (a : Written) :
    (ws.foldl Written.append a).sizes = ⟨a.sizes.codes + ws.length * k.codes, a.sizes.scales + ws.length * k.scales, a.sizes.records + ws.length * k.records⟩ := by
  induction ws generalizing a with
  | nil => simp
  | cons w ws ih =>
    rw [List.foldl_cons, ih fun x hx => h x (List.mem_cons_of_mem _ hx), Written.append_sizes, h w (List.mem_cons_self ..), List.length_cons]
    congr 1 <;> ring

theorem encodeRow_sizes (fmt scale first : Nat) (zps : List Int) (xs : List Exact) : (encodeRow fmt scale first zps xs).sizes = rowSizes fmt xs.length := by
  unfold encodeRow rowSizes
  by_cases hmx : isMx fmt = true
  · have hne : fmt ≠ 13 := by rintro rfl; exact absurd hmx (by decide)
    rw [if_pos hmx, foldl_append_sizes (k := ⟨32, 1, 0⟩)]
    · simp [Written.sizes, Written.empty, length_chunks, paddedCount, rowBlocks, hmx, hne, Nat.mul_comm]
    · simp only [List.mem_map]
      rintro w ⟨c, hc, rfl⟩
      rw [mxEncode_sizes, length_of_mem_chunks hc]
  · by_cases hex : fmt = 13
    · subst hex
      rw [if_neg hmx, if_pos rfl, foldl_append_sizes (k := ⟨128, 0, 1⟩)]
      · simp [Written.sizes, Written.empty, length_chunks, paddedCount, rowBlocks, hmx, Nat.mul_comm]
      · simp only [List.mem_mapIdx]
        rintro w ⟨i, hi, rfl⟩
        rw [ex8Encode_sizes, length_of_mem_chunks (List.getElem_mem hi)]
    · simp [hmx, hex, paddedCount, Written.sizes]

theorem encodeRows_sizes (fmt scale first : Nat) (zps : Nat → List Int) (rows : List (List Exact)) :
    (encodeRows fmt scale first zps rows).sizes = ⟨(rows.map fun xs => (rowSizes fmt xs.length).codes).sum, (rows.map fun xs => (rowSizes fmt xs.length).scales).sum,
      (rows.map fun xs => (rowSizes fmt xs.length).records).sum⟩ := by
  have hfold : ∀ (a : Written) (g j : Nat), (rows.foldl (fun (acc : Written × Nat × Nat) xs =>
      (acc.1.append (encodeRow fmt scale acc.2.1 (zps acc.2.2) xs), acc.2.1 + rowBlocks fmt xs.length, acc.2.2 + 1)) (a, g, j)).1.sizes
        = ⟨a.sizes.codes + (rows.map fun xs => (rowSizes fmt xs.length).codes).sum, a.sizes.scales + (rows.map fun xs => (rowSizes fmt xs.length).scales).sum,
          a.sizes.records + (rows.map fun xs => (rowSizes fmt xs.length).records).sum⟩ := by
    induction rows with
    | nil => simp
    | cons xs rows ih =>
      intro a g j
      rw [List.foldl_cons, ih, Written.append_sizes, encodeRow_sizes]
      simp only [List.map_cons, List.sum_cons, Nat.add_assoc]
  rw [encodeRows, hfold]
  simp [Written.sizes, Written.empty]

theorem sum_map_le {α : Type} {f : α → Nat} {l : List α} {m k : Nat} (hlen : l.length ≤ m) (h : ∀ x ∈ l, f x ≤ k) : (l.map f).sum ≤ m * k := by
  refine (List.sum_le_card_nsmul (l.map f) k (by simpa using h)).trans ?_
  simpa using Nat.mul_le_mul_right k hlen

theorem packElems_length (fmt : Nat) (codes : List Nat) : (packElems fmt codes).length = divUp (codes.length * elemBits fmt) 8 := by
  rw [packElems, leBytes_length]

theorem Written.stream_length (w : Written) : w.stream.length = 64 * divUp w.sizes.scales 63 + 40 * w.sizes.records := by
  have hrecords : (w.records.flatMap fun x => leBytes 40 x.toNat).length = w.records.length * 40 := by simp [List.length_flatMap, leBytes_length]
  have hlines : ((scaleLines w.scales).flatMap fun l => leBytes 64 l.toNat).length = (scaleLines w.scales).length * 64 := by simp [List.length_flatMap, leBytes_length]
  have hcount : (scaleLines w.scales).length = divUp w.scales.length 63 := by simp [scaleLines]
  have hempty : (if w.scales.isEmpty then [] else (scaleLines w.scales).flatMap fun l => leBytes 64 l.toNat) = (scaleLines w.scales).flatMap fun l => leBytes 64 l.toNat := by
    cases hscales : w.scales with
    | nil => rfl
    | cons x xs => rfl
  rw [Written.stream, hempty, List.length_append, hrecords, hlines, hcount, Written.sizes, Nat.mul_comm, Nat.mul_comm 40]

section
variable {fmt scale first : Nat} {zps : Nat → List Int} {rows : List (List Exact)} {m n : Nat}

/-- A tensor takes no more bytes than the places of a tensor of as many rows of such a length. -/
theorem encodeRows_fits (hlen : rows.length ≤ m) (hrows : ∀ xs ∈ rows, xs.length ≤ n) :
    (packElems fmt (encodeRows fmt scale first zps rows).codes).length ≤ elemBytes fmt m n
      ∧ (encodeRows fmt scale first zps rows).stream.length ≤ streamBytes fmt (m * rowBlocks fmt n) := by
  have hsizes := encodeRows_sizes fmt scale first zps rows
  have hcodes : (rows.map fun xs => (rowSizes fmt xs.length).codes).sum ≤ m * paddedCount fmt n :=
    sum_map_le hlen fun xs hxs => paddedCount_mono fmt (hrows xs hxs)
  constructor
  · rw [packElems_length, show (encodeRows fmt scale first zps rows).codes.length = _ from congrArg Sizes.codes hsizes]
    exact divUp_mono (Nat.mul_le_mul_right _ hcodes)
  · rw [Written.stream_length, hsizes, streamBytes]
    by_cases hmx : isMx fmt = true
    · have hne : fmt ≠ 13 := by rintro rfl; exact absurd hmx (by decide)
      have hscales := sum_map_le (f := fun xs : List Exact => rowBlocks fmt xs.length) hlen fun xs hxs => rowBlocks_mono fmt (hrows xs hxs)
      simpa [rowSizes, hmx, hne] using divUp_mono hscales
    · by_cases hex : fmt = 13
      · have hrecords := sum_map_le (f := fun xs : List Exact => rowBlocks fmt xs.length) hlen fun xs hxs => rowBlocks_mono fmt (hrows xs hxs)
        subst hex
        simpa [rowSizes, hmx, divUp] using hrecords
      · simp [rowSizes, hmx, hex, divUp]

theorem encodeRows_elemBytes (hlen : rows.length = m) (hrows : ∀ xs ∈ rows, xs.length = n) :
    (packElems fmt (encodeRows fmt scale first zps rows).codes).length = elemBytes fmt m n := by
  have hcodes : (encodeRows fmt scale first zps rows).codes.length = _ := congrArg Sizes.codes (encodeRows_sizes fmt scale first zps rows)
  have hconst : (rows.map fun xs => (rowSizes fmt xs.length).codes) = rows.map fun _ => paddedCount fmt n :=
    List.map_congr_left fun xs hxs => by rw [hrows xs hxs, rowSizes]
  rw [packElems_length, hcodes, hconst, elemBytes]
  simp [hlen]

/-- Only a tensor with scale lines or group records has a stream. -/
theorem encodeRows_stream_nil (h : (isMx fmt || fmt == 13) = false) : (encodeRows fmt scale first zps rows).stream = [] := by
  have hfits := (encodeRows_fits (fmt := fmt) (scale := scale) (first := first) (zps := zps) (Nat.le_refl rows.length)
    fun xs hxs => (List.le_max_of_le' 0 (List.mem_map_of_mem hxs) (Nat.le_refl xs.length) : xs.length ≤ (rows.map List.length).foldr max 0)).2
  simp only [Bool.or_eq_false_iff, beq_eq_false_iff_ne] at h
  rw [streamBytes, if_neg (by simp [h.1]), if_neg h.2] at hfits
  exact List.length_eq_zero_iff.mp (Nat.le_zero.mp hfits)

end

end Sys2Proof.Machine

namespace Sys2Proof.Machine

/-! ## A tensor goes to its places -/

section
variable {s : State} {r : Fin 10} {b : Nat} {h : BitVec 128} (hhold : hReleaseHold h = false) {fmt scale first m n : Nat} {dst stream : MemRef} {zps : Nat → List Int}
  {rows : List (List Exact)} {invalid : Bool}
include hhold

theorem State.writeTensor_mem (w : Written) : (s.writeTensor r b h fmt dst stream w invalid).mem
    = (if w.stream.isEmpty then s.store dst (packElems fmt w.codes) else (s.store dst (packElems fmt w.codes)).store stream w.stream).mem := by
  unfold State.writeTensor
  simp [hhold]

/-- A tensor is written within the places of a tensor of as many rows of such a length. -/
theorem State.writeTensor_leaves {ps : List (MemRef × Nat)} (hps : ∀ p ∈ tensorPlaces fmt m n dst stream, p ∈ ps ∧ p.1.space < 3) (hlen : rows.length ≤ m)
    (hrows : ∀ xs ∈ rows, xs.length ≤ n) : Leaves ps s (s.writeTensor r b h fmt dst stream (encodeRows fmt scale first zps rows) invalid) := by
  refine ⟨?_, State.writeTensor_standing s r b hhold ..⟩
  obtain ⟨hcodes, hstream⟩ := encodeRows_fits (fmt := fmt) (scale := scale) (first := first) (zps := zps) hlen hrows
  obtain ⟨hdst, hspace⟩ := hps (dst, elemBytes fmt m n) (List.mem_cons_self ..)
  refine .trans ?_ (.of_mem (State.writeTensor_mem hhold _))
  split
  · exact .store hdst (.refl dst hcodes) hspace
  · rename_i hsome
    have hblocked : (isMx fmt || fmt == 13) = true := by
      by_contra hnot
      exact hsome (by rw [encodeRows_stream_nil (by simpa using hnot)]; rfl)
    obtain ⟨hplace, hroom⟩ := hps (stream, streamBytes fmt (m * rowBlocks fmt n)) (by simp [tensorPlaces, hblocked])
    exact WritesOnly.trans (.store hdst (.refl dst hcodes) hspace) (.store hplace (.refl stream hstream) hroom)

/-- Elements read back from where they went, where the stream goes elsewhere. -/
theorem State.writeTensor_load (hspace : ∀ p ∈ tensorPlaces fmt m n dst stream, p.1.space < 3) (hlen : rows.length ≤ m) (hrows : ∀ xs ∈ rows, xs.length ≤ n)
    (hapart : ∀ p ∈ (tensorPlaces fmt m n dst stream).drop 1, Apart dst (elemBytes fmt m n) p.1 p.2) :
    (s.writeTensor r b h fmt dst stream (encodeRows fmt scale first zps rows) invalid).load dst (packElems fmt (encodeRows fmt scale first zps rows).codes).length
      = packElems fmt (encodeRows fmt scale first zps rows).codes := by
  obtain ⟨hcodes, hstream⟩ := encodeRows_fits (fmt := fmt) (scale := scale) (first := first) (zps := zps) hlen hrows
  have hdst := hspace (dst, elemBytes fmt m n) (List.mem_cons_self ..)
  rw [State.load_congr (State.writeTensor_mem hhold _)]
  split
  · exact s.load_store_self dst _
  · rename_i hsome
    have hblocked : (isMx fmt || fmt == 13) = true := by
      by_contra hnot
      exact hsome (by rw [encodeRows_stream_nil (by simpa using hnot)]; rfl)
    have hroom := hspace (stream, streamBytes fmt (m * rowBlocks fmt n)) (by simp [tensorPlaces, hblocked])
    have happ := hapart (stream, streamBytes fmt (m * rowBlocks fmt n)) (by simp [tensorPlaces, hblocked])
    rw [State.load_store_apart _ hroom hdst (happ.mono hcodes hstream).symm, State.load_store_self]

end

/-! ## Statistics records (R203) -/

theorem Stats.bytes_length (x : Stats) : x.bytes.length = 32 := by rw [Stats.bytes, leBytes_length]

section
variable {s : State} {r : Fin 10} {p q : MemRef} {k : Nat} {ps : List (MemRef × Nat)} (hmem : (q, k) ∈ ps) (hw : Within p 32 q k) (hp : p.space < 3)
include hmem hw hp

theorem State.tensorStats_leaves (fmt : Nat) (slot : Option Nat) (xs : List Exact) (w : Written) : Leaves ps s (s.tensorStats r p fmt slot xs w) := by
  unfold State.tensorStats
  split
  · refine (Leaves.of_mem (State.slotFields_mem ..) (State.slotFields_standing ..)).trans (.store hmem ?_ hp)
    rw [Stats.bytes_length]
    exact hw
  · exact .refl s

theorem State.tensorInvalid_leaves (fmt : Nat) (slot : Option Nat) : Leaves ps s (s.tensorInvalid r p fmt slot) := by
  unfold State.tensorInvalid
  split
  · refine ((Leaves.of_mem (State.slotFields_mem ..) (State.slotFields_standing ..)).trans (.of_mem (State.invalidStats_mem ..) (State.invalidStats_standing ..))).trans
      (.store hmem ?_ hp)
    rw [Stats.bytes_length]
    exact hw
  · exact .refl s

end

/-! ## The fault log, where no fault is recorded -/

section
variable (s : State)

@[simp] theorem State.store_log (p : MemRef) (bs : Bytes) : (s.store p bs).log = s.log := rfl

@[simp] theorem State.complete_log (r : Fin 10) (b : Nat) (h : BitVec 128) (status detail count : Nat) (invalid late : Bool) :
    (s.complete r b h status detail count invalid late).log = s.log := by
  unfold State.complete
  dsimp only
  split
  · split <;> simp only [State.emit_log, State.store_log]
  · rfl

@[simp] theorem State.countTokens_log (r : Fin 10) (k : Fin 16) : (s.countTokens r k).log = s.log := rfl

@[simp] theorem State.scaleFor_log (r : Fin 10) (fmt : Nat) (slot : Option Nat) : (s.scaleFor r fmt slot).2.log = s.log := by
  unfold State.scaleFor
  split
  · rfl
  · split <;> rfl

@[simp] theorem State.outerFor_log (r : Fin 10) (fmt : Nat) (slot : Option Nat) : (s.outerFor r fmt slot).2.log = s.log := by
  unfold State.outerFor
  split
  · exact State.scaleFor_log ..
  · rfl

@[simp] theorem State.slotFields_log (r : Fin 10) (slot : Option Nat) : (s.slotFields r slot).2.log = s.log := by
  unfold State.slotFields
  split <;> rfl

@[simp] theorem State.tensorStats_log (r : Fin 10) (p : MemRef) (fmt : Nat) (slot : Option Nat) (xs : List Exact) (w : Written) :
    (s.tensorStats r p fmt slot xs w).log = s.log := by
  unfold State.tensorStats
  split <;> simp

@[simp] theorem State.countSat_log (n : Nat) : (s.countSat n).log = s.log := by
  unfold State.countSat
  split <;> rfl

theorem State.writeTensor_log (r : Fin 10) (b : Nat) {h : BitVec 128} (hhold : hReleaseHold h = false) (fmt : Nat) (dst stream : MemRef) (w : Written) (invalid : Bool) :
    (s.writeTensor r b h fmt dst stream w invalid).log = s.log := by
  unfold State.writeTensor
  simp only [hhold, Bool.false_eq_true, if_false, State.countSat_log, State.emit_log]
  split <;> simp only [State.store_log]

end

/-! ## The scales of slots (R194, R204) -/

section
variable (s : State) (r : Fin 10)

theorem State.scaleFor_slot (fmt : Nat) {slot : Option Nat} {x : Slot} (h : slot.bind (s.slotOf r) = some x) : (s.scaleFor r fmt slot).1 = x.scale := by
  unfold State.scaleFor
  rw [h]

/-- An outer scale is 1 but for FP8, where it is that of the operand's slot, if it has one. -/
theorem State.outerFor_fst (fmt : Nat) (slot : Option Nat) :
    (fmt ≠ 4 → fmt ≠ 5 → (s.outerFor r fmt slot).1 = Exact.ofInt 1) ∧ ∀ k, fmt = 4 ∨ fmt = 5 → slot.bind (s.slotOf r) = some k → (s.outerFor r fmt slot).1 = num32 k.scale := by
  unfold State.outerFor
  refine ⟨fun h4 h5 => ?_, fun k hfmt hslot => ?_⟩
  · simp [h4, h5]
  · rw [if_pos hfmt]
    exact congrArg num32 (s.scaleFor_slot r fmt hslot)

end

end Sys2Proof.Machine

namespace Sys2Proof.Machine

/-! ## The record of a tensor whose outputs are invalid (R203) -/

theorem testBit_at (w lo v j : Nat) : (at_ w lo v).testBit j = (decide (lo ≤ j ∧ j < lo + w) && v.testBit (j - lo)) := by
  rw [at_, Nat.testBit_shiftLeft, Nat.testBit_mod_two_pow]
  by_cases hlo : lo ≤ j
  · have hlt : j - lo < w ↔ j < lo + w := by omega
    simp [hlo, hlt]
  · simp [hlo]

theorem leAt_leBytes (k n off len : Nat) (h : off + len ≤ k) : leAt (leBytes k n) off len = (n >>> (8 * off)) % 2 ^ (8 * len) := by
  have hpart : ((leBytes k n).drop off).take len = leBytes len (n >>> (8 * off)) := by
    refine List.ext_getElem (by simp [leBytes]; omega) fun i _ _ => ?_
    simp [leBytes, ← Nat.shiftRight_add, Nat.mul_add]
  rw [leAt, hpart, leNat_leBytes]

/-- A record's element count stands in its bytes 12 to 15. -/
theorem Stats.bytes_noElements {x : Stats} (h : x.elements = 0) : leAt x.bytes 12 4 = 0 := by
  rw [Stats.bytes, leAt_leBytes _ _ _ _ (by decide)]
  refine Nat.eq_of_testBit_eq fun j => ?_
  rw [Nat.testBit_mod_two_pow, Nat.testBit_shiftRight]
  by_cases hj : j < 32
  · have hout : ∀ w lo v, lo + w ≤ 96 ∨ 128 ≤ lo → (at_ w lo v).testBit (8 * 12 + j) = false := fun w lo v hlo => by
      rw [testBit_at, decide_eq_false (by omega), Bool.false_and]
    have hzero : (at_ 32 96 0).testBit (8 * 12 + j) = false := by rw [testBit_at, Nat.zero_testBit, Bool.and_false]
    simp only [Nat.testBit_or, h, hzero, hout 32 224 _ (by decide), hout 32 192 _ (by decide), hout 32 160 _ (by decide), hout 32 128 _ (by decide),
      hout 32 64 _ (by decide), hout 8 56 _ (by decide), hout 1 48 _ (by decide), hout 16 32 _ (by decide), hout 32 0 _ (by decide)]
    simp
  · simp [hj]

/-! ## Shapes of tensors -/

/-- At most `m` rows of at most `n` values each. -/
def Fits (m n : Nat) (rows : List (List Exact)) : Prop := rows.length ≤ m ∧ ∀ xs ∈ rows, xs.length ≤ n

theorem length_rowValues_le (fmt : Nat) (row : OpRow) : (rowValues fmt row).length ≤ row.codes.length := by
  unfold rowValues
  split
  · simp
  · split
    · exact List.length_take_le ..
    · simp

theorem fits_inputValues (s : State) (fmt : Nat) (t : TensorRef) (outer : Exact) : Fits t.rows t.length (inputValues fmt (s.readTensor fmt t) outer) := by
  have hrow : ∀ row ∈ s.readTensor fmt t, row.codes.length ≤ t.length := by
    intro row hrow
    obtain ⟨i, -, rfl⟩ := List.mem_map.mp hrow
    exact List.length_take_le ..
  refine ⟨by simp [inputValues, State.readTensor, rowsOf], fun xs hxs => ?_⟩
  obtain ⟨row, hmem, rfl⟩ := List.mem_map.mp hxs
  refine Nat.le_trans ?_ ((length_rowValues_le fmt row).trans (hrow row hmem))
  split
  · rw [List.length_map]
  · exact Nat.le_refl _

theorem Fits.rescaled {m n : Nat} {rows : List (List Exact)} (h : Fits m n rows) (t : Option RescaleTable) (channels : Nat) : Fits m n (rescaled t channels rows) := by
  cases t with
  | none => exact h
  | some t =>
    refine ⟨by simpa [Machine.rescaled] using h.1, fun xs hxs => ?_⟩
    obtain ⟨ys, hys, rfl⟩ := List.mem_map.mp hxs
    rw [List.length_mapIdx]
    exact h.2 ys hys

theorem Fits.acrossRows {m n : Nat} {rows : List (List Exact)} (h : Fits m n rows) : Fits n m (acrossRows rows) := by
  have hmax : ∀ (l : List Nat) (a : Nat), a ≤ n → (∀ k ∈ l, k ≤ n) → l.foldl max a ≤ n := by
    intro l
    induction l with
    | nil => exact fun a ha _ => ha
    | cons k l ih => exact fun a ha hl => ih _ (max_le ha (hl k (List.mem_cons_self ..))) fun j hj => hl j (List.mem_cons_of_mem _ hj)
  refine ⟨?_, fun xs hxs => ?_⟩
  · rw [Machine.acrossRows, List.length_map, List.length_range]
    exact hmax _ _ (Nat.zero_le _) (by simpa using h.2)
  · obtain ⟨i, -, rfl⟩ := List.mem_map.mp hxs
    exact (List.length_filterMap_le ..).trans h.1

/-! ## Places of a descriptor -/

section
variable {s : State} {h : BitVec 128} {ps : List (MemRef × Nat)}

theorem State.badPlaces_iff : s.badPlaces ps = true ↔ ∃ p ∈ ps, s.badPlace p.1 p.2 = true := by simp [State.badPlaces]

theorem State.badPlaces_eq_false (hgood : ∀ p ∈ ps, s.badPlace p.1 p.2 = false) : s.badPlaces ps = false := by
  simpa [State.badPlaces] using fun a b hab => hgood (a, b) hab

/-- A place that does not end its descriptor lies in a memory. -/
theorem inside_of_goodPlace {p : MemRef} {n : Nat} (hgood : s.badPlace p n = false) : p.inside n = true := by
  simp only [State.badPlace, Bool.or_eq_false_iff, Bool.not_eq_false'] at hgood
  exact hgood.1

theorem State.refusedPlace_none {write : Bool} (hmay : ∀ p ∈ ps, s.permits (hClass h) p.1 p.2 write = true) : s.refusedPlace h ps write = none := by
  rw [State.refusedPlace, Option.map_eq_none_iff, List.find?_eq_none]
  intro p hp
  have hp := hmay p hp
  cases write <;> simp [State.mayDeliverOut, hp]

theorem State.refusedPlace_some {write : Bool} (hhold : write = true → hReleaseHold h = false)
    (hnot : ∃ p ∈ ps, 0 < p.2 ∧ s.permits (hClass h) p.1 p.2 write = false) : ∃ q, s.refusedPlace h ps write = some q := by
  obtain ⟨p, hp, hpos, hno⟩ := hnot
  have hsome : (ps.find? fun e => decide (0 < e.2) && !(if write then s.mayDeliverOut h e.1 e.2 else s.permits (hClass h) e.1 e.2 false)).isSome = true := by
    rw [List.find?_isSome]
    refine ⟨p, hp, ?_⟩
    cases write with
    | false => simp [hpos, hno]
    | true => simp [hpos, hno, State.mayDeliverOut, hhold rfl]
  obtain ⟨e, he⟩ := Option.isSome_iff_exists.mp hsome
  exact ⟨e.1, by rw [State.refusedPlace, he]; rfl⟩

/-- Without events of its own, what a descriptor reads decides what it meets (R158). -/
theorem State.meetUpsets_nil (r : Fin 10) (b : Nat) : s.meetUpsets r b h [] ps = match s.markRead ps with
    | some k => (s.eccUncorrectable k (hSequence h) (hClass h), some stEcc)
    | none => (s, none) := rfl

end

end Sys2Proof.Machine

namespace Sys2Proof.Machine

/-! ## Reading an input (R151, R158, R200) -/

theorem State.readTensor_congr {s u : State} (h : u.mem = s.mem) (fmt : Nat) (t : TensorRef) : u.readTensor fmt t = s.readTensor fmt t := by
  unfold State.readTensor State.loadStream
  simp only [State.load_congr h]

section
variable {s : State} {r : Fin 10} {h : BitVec 128} {fmt : Nat}

theorem State.inputSkew_none {rows : List OpRow} (hskew : firstSkew fmt rows = none) : s.inputSkew r h fmt rows = (none, s) := by rw [State.inputSkew, hskew]

theorem State.inputSkew_some {rows : List OpRow} {k : Skew} (hskew : firstSkew fmt rows = some k) :
    s.inputSkew r h fmt rows = (some k, s.recordSkew (engineLoc r (hEngine h)) h 2 k) := by rw [State.inputSkew, hskew]

end

/-! ## The places of the records (R166, R203) -/

theorem statusPlace_key (r : Fin 10) (h : BitVec 128) : (statusPlace r h).key = r.val * rmemSize + hStatusAddr h := rfl

theorem statsPlace_key (r : Fin 10) (h : BitVec 128) : (statsPlace r h).key = (statusPlace r h).key + 16 := by
  rw [statusPlace_key, Nat.add_assoc]
  rfl

theorem statsPlace_within (r : Fin 10) (h : BitVec 128) (n : Nat) : Within (statsPlace r h) n (statusPlace r h) (16 + n) :=
  ⟨rfl, by rw [statsPlace_key]; omega, by rw [statsPlace_key]; omega⟩

theorem Within.mono_right {p q : MemRef} {n k k' : Nat} (h : Within p n q k) (hk : k ≤ k') : Within p n q k' := by
  obtain ⟨hspace, hlo, hhi⟩ := h
  exact ⟨hspace, hlo, by omega⟩

theorem statsPlace_apart (r : Fin 10) (h : BitVec 128) (n : Nat) : Apart (statsPlace r h) n (statusPlace r h) 16 :=
  .inr (.inr (Nat.le_of_eq (statsPlace_key r h).symm))

theorem statusPlace_within (r : Fin 10) (h : BitVec 128) (n : Nat) : Within (statusPlace r h) 16 (statusPlace r h) (16 + n) := .refl _ (by omega)

/-! ## Ends of a descriptor whose outputs are invalid (R143, R199, R203) -/

section
variable {s : State} {r : Fin 10} {h : BitVec 128} {sk : Option Skew} {met : Option Nat} {status detail : Nat} {invalid : Bool}

/-- How a descriptor ends that meets lost data or a skew, but not both. -/
inductive EndsInvalid : Option Skew → Option Nat → Nat → Nat → Bool → Prop where
  | lost : EndsInvalid none (some stEcc) 0x0203 0 false
  | skewed (k : Skew) : EndsInvalid (some k) none k.status k.detail true

theorem State.endInvalid_eq (hends : EndsInvalid sk met status detail invalid) (x : State) : x.endInvalid r h sk met = x.complete r 18 h status detail 0 invalid := by
  cases hends <;> rfl

theorem EndsInvalid.isSome (hends : EndsInvalid sk met status detail invalid) : (met.isSome || sk.isSome) = true := by cases hends <;> rfl

end

/-! ## STATS_TENSOR and STATS_CHANNEL (R203, R504) -/

section
variable (s : State) (r : Fin 10) (d : QuantDesc) (per : Bool)

/-- The bytes of a statistics record: the record itself, and the array of its channels. -/
def statsBytes : Nat := 32 + if per then 4 * d.channels else 0

/-- The places of a statistics descriptor: its record and its input. -/
def statsPlaces : List (MemRef × Nat) := (statsPlace r d.header, statsBytes d per) :: inputPlaces d.format d.input

/-- The record of the values of an input, under the counts that encoding would have raised. -/
def State.statsRecord (rows : List (List Exact)) (fields : Nat × Nat) : Bytes :=
  ({ statsOf rows.flatten (s.wouldCount r d.slot rows).1 (s.wouldCount r d.slot rows).2 d.format fields.1 fields.2 with
    perChannel := per, channels := if per then d.channels else 0 } : Stats).bytes ++ (if per then channelAmax d.channels rows.flatten else [])

/-- The input of a statistics descriptor has been read: its record is written, or that of an invalid output. -/
def State.statsOut (input : List OpRow) (sk : Option Skew) (met : Option Nat) : State :=
  let fields := s.slotFields r d.slot
  if met.isSome || sk.isSome then
    let inv := fields.2.invalidStats d.format fields.1
    (inv.2.store (statsPlace r d.header) inv.1.bytes).endInvalid r d.header sk met
  else
    let outer := fields.2.outerFor r d.format d.input.slot
    (outer.2.store (statsPlace r d.header) (outer.2.statsRecord r d per (inputValues d.format input outer.1) fields.1)).complete r 18 d.header stOk 0 1

/-- What a statistics descriptor checks, and what it then does. -/
theorem State.runStats_eq : s.runStats r d per =
    if s.badPlaces (inputPlaces d.format d.input) || s.badPlace (statsPlace r d.header) (statsBytes d per) then s.complete r 18 d.header 0x0202 0 0
    else match s.refusedPlace d.header (inputPlaces d.format d.input) false with
    | some p => s.endGuard r 18 d.header p
    | none =>
      if !s.permits (hClass d.header) (statsPlace r d.header) (statsBytes d per) true then s.endGuard r 18 d.header (statsPlace r d.header)
      else
        let met := s.meetUpsets r 18 d.header d.upsets (inputPlaces d.format d.input)
        let input := met.1.readTensor d.format d.input
        let sk := met.1.inputSkew r d.header d.format input
        sk.2.statsOut r d per input sk.1 met.2 := rfl

variable {s r d per}

theorem State.runStats_address (hbad : ∃ p ∈ statsPlaces r d per, s.badPlace p.1 p.2 = true) : s.runStats r d per = s.complete r 18 d.header 0x0202 0 0 := by
  have hany : (s.badPlaces (inputPlaces d.format d.input) || s.badPlace (statsPlace r d.header) (statsBytes d per)) = true := by
    obtain ⟨p, hp, hbad⟩ := hbad
    rw [Bool.or_eq_true, State.badPlaces_iff]
    rcases List.mem_cons.mp hp with rfl | hp
    · exact .inr hbad
    · exact .inl ⟨p, hp, hbad⟩
  rw [State.runStats_eq, if_pos hany]

section
variable (hgood : ∀ p ∈ statsPlaces r d per, s.badPlace p.1 p.2 = false)
include hgood

theorem State.statsPlaces_good : ¬ (s.badPlaces (inputPlaces d.format d.input) || s.badPlace (statsPlace r d.header) (statsBytes d per)) = true := by
  rw [State.badPlaces_eq_false fun p hp => hgood p (List.mem_cons_of_mem _ hp), hgood _ (List.mem_cons_self ..)]
  exact Bool.false_ne_true

theorem State.runStats_guard (hnot : (∃ p ∈ inputPlaces d.format d.input, 0 < p.2 ∧ s.permits (hClass d.header) p.1 p.2 false = false)
    ∨ s.permits (hClass d.header) (statsPlace r d.header) (statsBytes d per) true = false) : ∃ p, s.runStats r d per = s.endGuard r 18 d.header p := by
  rw [State.runStats_eq, if_neg (State.statsPlaces_good hgood)]
  cases hrefused : s.refusedPlace d.header (inputPlaces d.format d.input) false with
  | some p => exact ⟨p, rfl⟩
  | none =>
    have hplace := hnot.resolve_left fun hin => by
      obtain ⟨q, hq⟩ := State.refusedPlace_some (write := false) nofun hin
      exact absurd (hq.symm.trans hrefused) nofun
    exact ⟨statsPlace r d.header, by rw [hplace]; rfl⟩

/-- A statistics descriptor that passed its checks writes by what it met and read. -/
theorem State.runStats_reads (hin : ∀ p ∈ inputPlaces d.format d.input, s.permits (hClass d.header) p.1 p.2 false = true)
    (hout : s.permits (hClass d.header) (statsPlace r d.header) (statsBytes d per) true = true) {x y : State} {sk : Option Skew} {met : Option Nat}
    (hmet : s.meetUpsets r 18 d.header d.upsets (inputPlaces d.format d.input) = (x, met))
    (hskew : x.inputSkew r d.header d.format (x.readTensor d.format d.input) = (sk, y)) :
    s.runStats r d per = y.statsOut r d per (x.readTensor d.format d.input) sk met := by
  rw [State.runStats_eq, if_neg (State.statsPlaces_good hgood), State.refusedPlace_none hin, hout, hmet]
  simp only [hskew]
  rfl

end

end

/-! ### What a statistics descriptor leaves -/

section
variable {s y : State} {r : Fin 10} {d : QuantDesc} {per : Bool} (hstatus : s.permits (hClass d.header) (statusPlace r d.header) 16 true = true) (hmem : y.mem = s.mem)
  (hstanding : y.standing = s.standing)
include hstatus hmem hstanding

/-- The record of an output that is invalid says that it has no elements. -/
theorem State.statsOut_invalid {sk : Option Skew} {met : Option Nat} {status detail : Nat} {invalid : Bool} (hends : EndsInvalid sk met status detail invalid)
    (input : List OpRow) : StatusIs (y.statsOut r d per input sk met) r d.header status detail 0 invalid false
      ∧ Leaves [(statusPlace r d.header, 16 + statsBytes d per)] s (y.statsOut r d per input sk met)
      ∧ leAt ((y.statsOut r d per input sk met).load (statsPlace r d.header) 32) 12 4 = 0 := by
  set fields := y.slotFields r d.slot with hfields
  set inv := fields.2.invalidStats d.format fields.1 with hinv
  set z := inv.2.store (statsPlace r d.header) inv.1.bytes with hz
  have hout : y.statsOut r d per input sk met = z.complete r 18 d.header status detail 0 invalid := by
    unfold State.statsOut
    simp only [hends.isSome, if_true]
    exact State.endInvalid_eq hends _
  have hinvmem : inv.2.mem = s.mem := by rw [hinv, State.invalidStats_mem, hfields, State.slotFields_mem, hmem]
  have hinvstanding : inv.2.standing = s.standing := by rw [hinv, State.invalidStats_standing, hfields, State.slotFields_standing, hstanding]
  have hroom : Within (statsPlace r d.header) inv.1.bytes.length (statusPlace r d.header) (16 + statsBytes d per) := by
    rw [Stats.bytes_length]
    exact Within.mono_right (statsPlace_within r d.header 32) (by unfold statsBytes; omega)
  have hstore : Leaves [(statusPlace r d.header, 16 + statsBytes d per)] inv.2 z := .store (List.mem_singleton_self _) hroom (by decide : 1 < 3)
  have hcomplete := z.complete_leaves r 18 d.header status detail 0 invalid false
  have hzstanding : z.standing = s.standing := hstore.standing.trans hinvstanding
  have hread : z.load (statsPlace r d.header) 32 = inv.1.bytes := by
    have hself := inv.2.load_store_self (statsPlace r d.header) inv.1.bytes
    rwa [Stats.bytes_length] at hself
  rw [hout]
  refine ⟨z.complete_statusIs _ _ _ _ _ _ _ _ (by rw [permits_of_standing hzstanding]; exact hstatus), ?_, ?_⟩
  · refine ((Leaves.of_mem hinvmem hinvstanding).trans hstore).trans (hcomplete.mono fun p hp => ⟨_, List.mem_singleton_self _, ?_⟩)
    obtain rfl := List.mem_singleton.mp hp
    exact statusPlace_within r d.header _
  · rw [hcomplete.writes _ _ (by decide : 1 < 3) fun p hp => List.mem_singleton.mp hp ▸ statsPlace_apart r d.header 32, hread]
    exact Stats.bytes_noElements rfl

omit hstatus hmem in
theorem State.bind_slotOf (slot : Option Nat) : slot.bind (y.slotOf r) = slot.bind (s.slotOf r) := by
  have hslot : y.slotOf r = s.slotOf r := funext (slotOf_of_standing hstanding r)
  rw [hslot]

omit hstatus hmem in
theorem State.statsRecord_of_standing (rows : List (List Exact)) (fields : Nat × Nat) : y.statsRecord r d per rows fields = s.statsRecord r d per rows fields := by
  have hcount : y.wouldCount r d.slot rows = s.wouldCount r d.slot rows := by
    unfold State.wouldCount
    rw [State.bind_slotOf hstanding]
  rw [State.statsRecord, State.statsRecord, hcount]

omit hstatus hmem in
/-- The fields of a tensor's slot in its record. -/
theorem State.slotFields_slot (k : Nat) (hslot : d.slot = some k) :
    (y.slotFields r d.slot).1.2 = k ∧ ∀ x, s.slotOf r k = some x → (y.slotFields r d.slot).1.1 = x.step := by
  unfold State.slotFields
  rw [hslot]
  refine ⟨rfl, fun x hx => ?_⟩
  show ((y.slotOf r k).map Slot.step).getD 0 = x.step
  rw [slotOf_of_standing hstanding, hx]
  rfl

omit hstatus hmem hstanding in
theorem State.statsRecord_length (rows : List (List Exact)) (fields : Nat × Nat) : (s.statsRecord r d per rows fields).length = statsBytes d per := by
  have hchannels : (channelAmax d.channels rows.flatten).length = d.channels * 4 := by simp [channelAmax, List.length_flatMap, leBytes_length]
  rw [State.statsRecord, List.length_append, Stats.bytes_length, statsBytes]
  split
  · rw [hchannels, Nat.mul_comm]
  · rfl

/-- The record of a tensor that was read without a fault. -/
theorem State.statsOut_record (input : List OpRow) : ∃ (step slot : Nat) (x : Exact), (∀ k, d.slot = some k → slot = k ∧ ∀ y, s.slotOf r k = some y → step = y.step)
    ∧ ((d.format ≠ 4 → d.format ≠ 5 → x = Exact.ofInt 1) ∧ ∀ k, d.format = 4 ∨ d.format = 5 → d.input.slot.bind (s.slotOf r) = some k → x = num32 k.scale)
    ∧ (y.statsOut r d per input none none).load (statsPlace r d.header) (statsBytes d per) = s.statsRecord r d per (inputValues d.format input x) (step, slot)
    ∧ StatusIs (y.statsOut r d per input none none) r d.header 0 0 1 false false
    ∧ Leaves [(statusPlace r d.header, 16 + statsBytes d per)] s (y.statsOut r d per input none none) ∧ (y.statsOut r d per input none none).log = y.log := by
  set fields := y.slotFields r d.slot with hfields
  set outer := fields.2.outerFor r d.format d.input.slot with houter
  set record := outer.2.statsRecord r d per (inputValues d.format input outer.1) fields.1 with hrecord
  set z := outer.2.store (statsPlace r d.header) record with hz
  have hout : y.statsOut r d per input none none = z.complete r 18 d.header 0 0 1 := rfl
  have hfstanding : fields.2.standing = s.standing := by rw [hfields, State.slotFields_standing, hstanding]
  have hostanding : outer.2.standing = s.standing := by rw [houter, State.outerFor_standing, hfstanding]
  have homem : outer.2.mem = s.mem := by rw [houter, State.outerFor_mem, hfields, State.slotFields_mem, hmem]
  have hlength : record.length = statsBytes d per := State.statsRecord_length _ _
  have hstore : Leaves [(statusPlace r d.header, 16 + statsBytes d per)] outer.2 z :=
    .store (List.mem_singleton_self _) (hlength ▸ statsPlace_within r d.header _) (by decide : 1 < 3)
  have hzstanding : z.standing = s.standing := hstore.standing.trans hostanding
  have hcomplete := z.complete_leaves r 18 d.header 0 0 1 false false
  obtain ⟨hone, hscale⟩ := fields.2.outerFor_fst r d.format d.input.slot
  rw [hout]
  refine ⟨fields.1.1, fields.1.2, outer.1, fun k hk => State.slotFields_slot hstanding k hk, ⟨hone, fun k hfmt hk => hscale k hfmt ?_⟩, ?_, ?_, ?_, ?_⟩
  · rw [State.bind_slotOf hfstanding, hk]
  · rw [hcomplete.writes _ _ (by decide : 1 < 3) fun p hp => List.mem_singleton.mp hp ▸ statsPlace_apart r d.header _, ← hlength, hz, State.load_store_self, hrecord,
      State.statsRecord_of_standing hostanding]
  · exact z.complete_statusIs _ _ _ _ _ _ _ _ (by rw [permits_of_standing hzstanding]; exact hstatus)
  · refine ((Leaves.of_mem homem hostanding).trans hstore).trans (hcomplete.mono fun p hp => ⟨_, List.mem_singleton_self _, ?_⟩)
    obtain rfl := List.mem_singleton.mp hp
    exact statusPlace_within r d.header _
  · rw [State.complete_log, hz, State.store_log, houter, State.outerFor_log, hfields, State.slotFields_log]

end

end Sys2Proof.Machine

namespace Sys2Proof.Machine

/-! ## CONVERT (R201, R504) -/

section
variable (s : State) (r : Fin 10) (d : QuantDesc) (t : Option RescaleTable)

/-- The format of a conversion's output: that of its table, where it has one. -/
def convertFormat : Nat := (t.map RescaleTable.outFormat).getD d.outFormat

/-- The places of a conversion's output. -/
def convertOuts : List (MemRef × Nat) :=
  tensorPlaces (convertFormat d t) (convertShape d (convertFormat d t)).1 (convertShape d (convertFormat d t)).2 d.dst d.stream

theorem convertShape_eq (fmt : Nat) : convertShape d fmt
    = (if convertsAcross d fmt = true then d.input.length else d.input.rows, if convertsAcross d fmt = true then d.input.rows else d.input.length) := by
  unfold convertShape
  split <;> rfl

/-- The place of the statistics record of an output, where its format has one. -/
def recordPlaces (r : Fin 10) (h : BitVec 128) (fmt : Nat) : List (MemRef × Nat) := if recordedFormat fmt = true then [(statsPlace r h, 32)] else []

/-- The input of a conversion has been read: its elements are written, or the record of an invalid output. -/
def State.convertOut (input : List OpRow) (sk : Option Skew) (met : Option Nat) : State :=
  if met.isSome || sk.isSome then (s.tensorInvalid r (statsPlace r d.header) (convertFormat d t) d.slot).endInvalid r d.header sk met
  else
    let outer := s.outerFor r d.format d.input.slot
    outer.2.writeConvert r d t (convertFormat d t) (rescaled t d.channels (inputValues d.format input outer.1))

/-- What a conversion checks, and what it then does. -/
theorem State.runConvert_eq : s.runConvert r d t =
    if s.badPlaces (inputPlaces d.format d.input) || s.badOut d.header (convertFormat d t) (convertOuts d t) (statsPlace r d.header) then s.complete r 18 d.header 0x0202 0 0
    else match s.refusedPlace d.header (inputPlaces d.format d.input) false with
    | some p => s.endGuard r 18 d.header p
    | none => match s.refusedOut d.header (convertFormat d t) (convertOuts d t) (statsPlace r d.header) with
      | some p => s.endGuard r 18 d.header p
      | none =>
        let met := s.meetUpsets r 18 d.header d.upsets (inputPlaces d.format d.input)
        let input := met.1.readTensor d.format d.input
        let sk := met.1.inputSkew r d.header d.format input
        sk.2.convertOut r d t input sk.1 met.2 := rfl

end

/-! ### Places of an output tensor -/

section
variable {s : State} {h : BitVec 128} {r : Fin 10} {fmt : Nat} {ps : List (MemRef × Nat)}

theorem State.badOut_iff (hhold : hReleaseHold h = false) :
    s.badOut h fmt ps (statsPlace r h) = true ↔ ∃ p ∈ ps ++ recordPlaces r h fmt, s.badPlace p.1 p.2 = true := by
  unfold State.badOut recordPlaces
  rw [hhold, Bool.not_false, Bool.true_and, Bool.or_eq_true, State.badPlaces_iff]
  split
  · rename_i hrec
    simp only [hrec, Bool.true_and, List.mem_append, List.mem_singleton, or_and_right, exists_or, exists_eq_left]
  · rename_i hrec
    simp [hrec]

theorem State.refusedOut_none (hmay : ∀ p ∈ ps ++ recordPlaces r h fmt, s.permits (hClass h) p.1 p.2 true = true) : s.refusedOut h fmt ps (statsPlace r h) = none := by
  unfold State.refusedOut
  rw [State.refusedPlace_none fun p hp => hmay p (List.mem_append_left _ hp)]
  refine if_neg fun hno => ?_
  simp only [Bool.and_eq_true, Bool.not_eq_true'] at hno
  have hplace := hmay (statsPlace r h, 32) (List.mem_append_right _ (by rw [recordPlaces, if_pos hno.1]; exact List.mem_singleton_self _))
  exact absurd (hplace.symm.trans hno.2) (by decide)

theorem State.refusedOut_some (hhold : hReleaseHold h = false) (hnot : ∃ p ∈ ps ++ recordPlaces r h fmt, 0 < p.2 ∧ s.permits (hClass h) p.1 p.2 true = false) :
    ∃ q, s.refusedOut h fmt ps (statsPlace r h) = some q := by
  unfold State.refusedOut
  cases hrefused : s.refusedPlace h ps true with
  | some q => exact ⟨q, rfl⟩
  | none =>
    obtain ⟨p, hp, hpos, hno⟩ := hnot
    have hmem : p ∈ recordPlaces r h fmt := (List.mem_append.mp hp).resolve_left fun hin => by
      obtain ⟨q, hq⟩ := State.refusedPlace_some (write := true) (fun _ => hhold) ⟨p, hin, hpos, hno⟩
      exact absurd (hq.symm.trans hrefused) nofun
    unfold recordPlaces at hmem
    split at hmem
    · rename_i hrec
      obtain rfl := List.mem_singleton.mp hmem
      exact ⟨statsPlace r h, if_pos (by rw [hrec, hno]; rfl)⟩
    · exact absurd hmem List.not_mem_nil

end

section
variable {s : State} {r : Fin 10} {d : QuantDesc} {t : Option RescaleTable} (hhold : hReleaseHold d.header = false)
include hhold

theorem State.runConvert_address (hbad : ∃ p ∈ inputPlaces d.format d.input ++ convertOuts d t ++ recordPlaces r d.header (convertFormat d t), s.badPlace p.1 p.2 = true) :
    s.runConvert r d t = s.complete r 18 d.header 0x0202 0 0 := by
  rw [State.runConvert_eq]
  refine if_pos ?_
  rw [Bool.or_eq_true, State.badPlaces_iff, State.badOut_iff hhold]
  obtain ⟨p, hp, hbad⟩ := hbad
  rw [List.append_assoc] at hp
  exact (List.mem_append.mp hp).imp (fun h => ⟨p, h, hbad⟩) fun h => ⟨p, h, hbad⟩

variable (hgood : ∀ p ∈ inputPlaces d.format d.input ++ convertOuts d t ++ recordPlaces r d.header (convertFormat d t), s.badPlace p.1 p.2 = false)
include hgood

theorem State.convertPlaces_good :
    ¬ (s.badPlaces (inputPlaces d.format d.input) || s.badOut d.header (convertFormat d t) (convertOuts d t) (statsPlace r d.header)) = true := by
  rw [List.append_assoc] at hgood
  rw [Bool.or_eq_true, State.badPlaces_iff, State.badOut_iff hhold]
  rintro (⟨p, hp, hbad⟩ | ⟨p, hp, hbad⟩)
  · exact absurd ((hgood p (List.mem_append_left _ hp)).symm.trans hbad) (by decide)
  · exact absurd ((hgood p (List.mem_append_right _ hp)).symm.trans hbad) (by decide)

theorem State.runConvert_guard (hnot : (∃ p ∈ inputPlaces d.format d.input, 0 < p.2 ∧ s.permits (hClass d.header) p.1 p.2 false = false)
    ∨ ∃ p ∈ convertOuts d t ++ recordPlaces r d.header (convertFormat d t), 0 < p.2 ∧ s.permits (hClass d.header) p.1 p.2 true = false) :
    ∃ p, s.runConvert r d t = s.endGuard r 18 d.header p := by
  rw [State.runConvert_eq, if_neg (State.convertPlaces_good hhold hgood)]
  cases hrefused : s.refusedPlace d.header (inputPlaces d.format d.input) false with
  | some p => exact ⟨p, rfl⟩
  | none =>
    obtain ⟨q, hq⟩ := State.refusedOut_some hhold (hnot.resolve_left fun hin => by
      obtain ⟨q, hq⟩ := State.refusedPlace_some (write := false) nofun hin
      exact absurd (hq.symm.trans hrefused) nofun)
    exact ⟨q, by rw [hq]⟩

/-- A conversion that passed its checks writes by what it met and read. -/
theorem State.runConvert_reads (hin : ∀ p ∈ inputPlaces d.format d.input, s.permits (hClass d.header) p.1 p.2 false = true)
    (hout : ∀ p ∈ convertOuts d t ++ recordPlaces r d.header (convertFormat d t), s.permits (hClass d.header) p.1 p.2 true = true) {x y : State} {sk : Option Skew}
    {met : Option Nat} (hmet : s.meetUpsets r 18 d.header d.upsets (inputPlaces d.format d.input) = (x, met))
    (hskew : x.inputSkew r d.header d.format (x.readTensor d.format d.input) = (sk, y)) :
    s.runConvert r d t = y.convertOut r d t (x.readTensor d.format d.input) sk met := by
  rw [State.runConvert_eq, if_neg (State.convertPlaces_good hhold hgood), State.refusedPlace_none hin, State.refusedOut_none hout, hmet]
  simp only [hskew]

end

/-! ### What a conversion leaves -/

section
variable {s y : State} {r : Fin 10} {d : QuantDesc} {t : Option RescaleTable} (hstatus : s.permits (hClass d.header) (statusPlace r d.header) 16 true = true)
  (hmem : y.mem = s.mem) (hstanding : y.standing = s.standing)
include hstatus hmem hstanding

theorem State.convertOut_invalid {sk : Option Skew} {met : Option Nat} {status detail : Nat} {invalid : Bool} (hends : EndsInvalid sk met status detail invalid)
    (input : List OpRow) : StatusIs (y.convertOut r d t input sk met) r d.header status detail 0 invalid false
      ∧ Leaves [(statusPlace r d.header, 48)] s (y.convertOut r d t input sk met) := by
  set z := y.tensorInvalid r (statsPlace r d.header) (convertFormat d t) d.slot with hz
  have hout : y.convertOut r d t input sk met = z.complete r 18 d.header status detail 0 invalid := by
    unfold State.convertOut
    simp only [hends.isSome, if_true]
    exact State.endInvalid_eq hends _
  have hrecord : Leaves [(statusPlace r d.header, 48)] y z :=
    State.tensorInvalid_leaves (List.mem_singleton_self _) (statsPlace_within r d.header 32) (by decide : 1 < 3) _ _
  have hleaves := (Leaves.of_mem (ps := [(statusPlace r d.header, 48)]) hmem hstanding).trans hrecord
  rw [hout]
  refine ⟨z.complete_statusIs _ _ _ _ _ _ _ _ (by rw [permits_of_standing hleaves.standing]; exact hstatus), hleaves.trans ?_⟩
  refine (z.complete_leaves r 18 d.header status detail 0 invalid false).mono fun p hp => ⟨_, List.mem_singleton_self _, ?_⟩
  obtain rfl := List.mem_singleton.mp hp
  exact statusPlace_within r d.header 32

/-- The rows of a conversion's output. -/
def convertRows (d : QuantDesc) (fmt : Nat) (values : List (List Exact)) : List (List Exact) := if convertsAcross d fmt then acrossRows values else values

omit hstatus hmem hstanding in
theorem fits_convertRows {fmt : Nat} {values : List (List Exact)} (h : Fits d.input.rows d.input.length values) :
    Fits (convertShape d fmt).1 (convertShape d fmt).2 (convertRows d fmt values) := by
  unfold convertRows convertShape
  split
  · exact h.acrossRows
  · exact h

theorem State.writeConvert_writes {fmt : Nat} {values : List (List Exact)} (hhold : hReleaseHold d.header = false) (hfits : Fits d.input.rows d.input.length values)
    (hspace : ∀ p ∈ tensorPlaces fmt (convertShape d fmt).1 (convertShape d fmt).2 d.dst d.stream, p.1.space < 3)
    (hapart : ∀ p ∈ (tensorPlaces fmt (convertShape d fmt).1 (convertShape d fmt).2 d.dst d.stream).take 1, Apart p.1 p.2 (statusPlace r d.header) 48
      ∧ ∀ q ∈ (tensorPlaces fmt (convertShape d fmt).1 (convertShape d fmt).2 d.dst d.stream).drop 1, Apart p.1 p.2 q.1 q.2) :
    ∃ scale : Nat, (∀ x, d.slot.bind (s.slotOf r) = some x → scale = x.scale) ∧
      let rows := convertRows d fmt values
      let codes := (encodeRows fmt scale 0 (fun i => zeroPoints t d.channels (rows.getD i []).length) rows).codes
      (y.writeConvert r d t fmt values).load d.dst (packElems fmt codes).length = packElems fmt codes
      ∧ StatusIs (y.writeConvert r d t fmt values) r d.header 0 0 rows.flatten.length false false
      ∧ Leaves ((statusPlace r d.header, 48) :: tensorPlaces fmt (convertShape d fmt).1 (convertShape d fmt).2 d.dst d.stream) s (y.writeConvert r d t fmt values)
      ∧ (y.writeConvert r d t fmt values).log = y.log := by
  set rows := convertRows d fmt values with hrows
  set sc := y.scaleFor r fmt d.slot with hsc
  set w := encodeRows fmt sc.1 0 (fun i => zeroPoints t d.channels (rows.getD i []).length) rows with hw
  set z1 := sc.2.writeTensor r 18 d.header fmt d.dst d.stream w with hz1
  set z2 := z1.tensorStats r (statsPlace r d.header) fmt d.slot rows.flatten w with hz2
  have hout : y.writeConvert r d t fmt values = z2.complete r 18 d.header 0 0 rows.flatten.length := rfl
  obtain ⟨hlen, hlong⟩ := fits_convertRows (fmt := fmt) hfits
  set ps := (statusPlace r d.header, 48) :: tensorPlaces fmt (convertShape d fmt).1 (convertShape d fmt).2 d.dst d.stream with hps
  have hscale : Leaves ps s sc.2 := (Leaves.of_mem hmem hstanding).trans (.of_mem (State.scaleFor_mem ..) (State.scaleFor_standing ..))
  have htensor : Leaves ps sc.2 z1 := State.writeTensor_leaves hhold (fun p hp => ⟨List.mem_cons_of_mem _ hp, hspace p hp⟩) hlen hlong
  have hstats : Leaves [(statusPlace r d.header, 48)] z1 z2 :=
    State.tensorStats_leaves (List.mem_singleton_self _) (statsPlace_within r d.header 32) (by decide : 1 < 3) _ _ _ _
  have hcomplete : Leaves [(statusPlace r d.header, 48)] z2 (z2.complete r 18 d.header 0 0 rows.flatten.length) :=
    (z2.complete_leaves ..).mono fun p hp => ⟨_, List.mem_singleton_self _, by obtain rfl := List.mem_singleton.mp hp; exact statusPlace_within r d.header 32⟩
  have hsub : ∀ p ∈ [(statusPlace r d.header, 48)], ∃ q ∈ ps, Within p.1 p.2 q.1 q.2 := fun p hp =>
    ⟨p, by obtain rfl := List.mem_singleton.mp hp; exact List.mem_cons_self .., .refl _ (Nat.le_refl _)⟩
  obtain ⟨hfar, hstream⟩ := hapart _ (List.mem_singleton_self _)
  have hdst : ∀ {n : Nat}, n ≤ elemBytes fmt (convertShape d fmt).1 (convertShape d fmt).2 → ∀ p ∈ [(statusPlace r d.header, 48)], Apart d.dst n p.1 p.2 := fun hn p hp => by
    obtain rfl := List.mem_singleton.mp hp
    exact hfar.mono hn (Nat.le_refl _)
  have hcodes := (encodeRows_fits (fmt := fmt) (scale := sc.1) (first := 0) (zps := fun i => zeroPoints t d.channels (rows.getD i []).length) hlen hlong).1
  have hroom := hspace (d.dst, _) (List.mem_cons_self ..)
  rw [hout]
  refine ⟨sc.1, fun x hx => State.scaleFor_slot y r fmt (by rw [State.bind_slotOf hstanding, hx]), ?_, ?_, ?_, ?_⟩
  · rw [hcomplete.writes _ _ hroom (hdst hcodes), hstats.writes _ _ hroom (hdst hcodes)]
    exact State.writeTensor_load hhold hspace hlen hlong hstream
  · exact z2.complete_statusIs _ _ _ _ _ _ _ _ (by
      rw [permits_of_standing hstats.standing, permits_of_standing htensor.standing, permits_of_standing hscale.standing]; exact hstatus)
  · exact ((hscale.trans htensor).trans (hstats.mono hsub)).trans (hcomplete.mono hsub)
  · rw [State.complete_log, hz2, State.tensorStats_log, hz1, State.writeTensor_log _ _ _ hhold, hsc, State.scaleFor_log]

end

end Sys2Proof.Machine

namespace Sys2Proof.Machine

/-! ## Statistics and conversions start (R165, R200, R504) -/

theorem zooNoted_standing (s : State) (r : Fin 10) (k : Nat) (h : BitVec 128) : (zooNoted s r k h).standing = s.standing := s.modRegion_standing r rfl

section
variable {s : State} {r : Fin 10} {h : BitVec 128} {ok : Bool} {run : State → State}

theorem State.quant_refuses (hno : hOperation h = 0 ∨ 5 < hOperation h ∨ ok = false) : ∃ counted, s.quant r h ok run = s.refuse r 18 h 0x0200 0x0300 counted := by
  unfold State.quant
  by_cases hop : hOperation h = 0 ∨ 5 < hOperation h
  · exact ⟨false, if_pos hop⟩
  · have hbad : ok = false := (hno.resolve_left fun h0 => hop (.inl h0)).resolve_left fun h5 => hop (.inr h5)
    rw [if_neg hop, hbad]
    exact ⟨true, rfl⟩

theorem State.quant_runs (hlo : 1 ≤ hOperation h) (hhi : hOperation h ≤ 5) (hok : ok = true) : s.quant r h ok run = (run s).countTokens r 3 := by
  rw [State.quant, if_neg (by omega), hok]
  rfl

end

theorem Leaves.countTokens {ps : List (MemRef × Nat)} {s u : State} (h : Leaves ps s u) (r : Fin 10) (k : Fin 16) : Leaves ps s (u.countTokens r k) :=
  h.trans (.of_mem (State.countTokens_mem ..) (State.countTokens_standing ..))

/-- What shares no byte with the places from the status record on reads as before. -/
theorem Leaves.kept {s u : State} {r : Fin 10} {h : BitVec 128} {n : Nat} (hleaves : Leaves [(statusPlace r h, n)] s u) (q : MemRef) (k : Nat) (hq : q.inside k = true)
    (hapart : Apart q k (statusPlace r h) n) : u.load q k = s.load q k :=
  hleaves.writes q k (space_lt_of_inside hq) fun p hp => by
    obtain rfl := List.mem_singleton.mp hp
    exact hapart

end Sys2Proof.Machine

namespace Sys2Proof

open Machine

/-! ## What a statistics or conversion descriptor leaves -/

/-- A descriptor has ended with a status, and left the launch, the slots of its region, and all memory but `n` bytes from its status record on. -/
structure QuantEnds (s u : State) (r : Fin 10) (h : BitVec 128) (status detail count : Nat) (invalid : Bool) (n : Nat) : Prop where
  status : StatusIs u r h status detail count invalid false
  leaves : Leaves [(statusPlace r h, n)] s u

namespace QuantEnds

variable {s u : State} {r : Fin 10} {h : BitVec 128} {status detail count n : Nat} {invalid : Bool}

theorem countTokens (hends : QuantEnds s u r h status detail count invalid n) (k : Fin 16) : QuantEnds s (u.countTokens r k) r h status detail count invalid n :=
  ⟨statusIs_of_mem hends.status (State.countTokens_mem ..), hends.leaves.countTokens r k⟩

/-- The clauses of the statement. -/
theorem clauses (hends : QuantEnds s u r h status detail count invalid n) : StatusIs u r h status detail count invalid false
    ∧ (∀ (q : MemRef) (k : Nat), q.inside k = true → Apart q k (statusPlace r h) n → u.load q k = s.load q k)
    ∧ u.launch = s.launch ∧ u.regions[r].slots = s.regions[r].slots :=
  ⟨hends.status, hends.leaves.kept, hends.leaves.launch, slots_of_standing hends.leaves.standing r⟩

end QuantEnds

section
variable {s x : State} {r : Fin 10} {h : BitVec 128} (hmem : x.mem = s.mem) (hstanding : x.standing = s.standing)
  (hstatus : s.permits (hClass h) (statusPlace r h) 16 true = true)
include hmem hstanding hstatus

theorem quantEnds_complete (status detail count : Nat) (invalid : Bool) : QuantEnds s (x.complete r 18 h status detail count invalid) r h status detail count invalid 16 :=
  ⟨x.complete_statusIs _ _ _ _ _ _ _ _ (by rw [permits_of_standing hstanding]; exact hstatus), (Leaves.of_mem hmem hstanding).trans (x.complete_leaves ..)⟩

theorem quantEnds_refuse (status detail : Nat) (counted : Bool) : QuantEnds s (x.refuse r 18 h status detail counted) r h status detail 0 false 16 :=
  ⟨x.refuse_statusIs _ _ _ _ (by rw [permits_of_standing hstanding]; exact hstatus), (Leaves.of_mem hmem hstanding).trans (x.refuse_leaves ..)⟩

theorem quantEnds_guard (p : MemRef) : QuantEnds s (x.endGuard r 18 h p) r h 0x0205 0 0 false 16 :=
  ⟨x.endGuard_statusIs _ _ (by rw [permits_of_standing hstanding]; exact hstatus), (Leaves.of_mem hmem hstanding).trans (x.endGuard_leaves ..)⟩

end

/-! ## How they start -/

section
variable {s : State} {t : Nat} {r : Fin 10} {d : QuantDesc}

/-- The state in which a descriptor of the quantisation engine starts. -/
def quantStart (s : State) (t : Nat) (r : Fin 10) (d : QuantDesc) : State := zooNoted (s.advance t) r (zooQueue 0x13 d.queue 0) d.header

theorem quantStart_standing : (quantStart s t r d).standing = s.standing := zooNoted_standing ..

theorem quantStart_mem : (quantStart s t r d).mem = s.mem := rfl

/-- A statistics or conversion descriptor, and whether it converts. -/
inductive IsQuant (t : Nat) (r : Fin 10) (d : QuantDesc) : Instr → Bool → Prop where
  | tensor : IsQuant t r d (.statsTensor t r d) false
  | channel : IsQuant t r d (.statsChannel t r d) false
  | convert : IsQuant t r d (.convert t r d) true

theorem isQuant_of {c : Instr} {conv : Bool} (h : ((c = .statsTensor t r d ∨ c = .statsChannel t r d) ∧ conv = false) ∨ (c = .convert t r d ∧ conv = true)) :
    IsQuant t r d c conv := by
  rcases h with ⟨rfl | rfl, rfl⟩ | ⟨rfl, rfl⟩
  · exact .tensor
  · exact .channel
  · exact .convert

theorem IsQuant.exec {c : Instr} {conv : Bool} (h : IsQuant t r d c conv) : exec c s = .next ((s.advance t).submit c) := by cases h <;> rfl

theorem IsQuant.route {c : Instr} {conv : Bool} (h : IsQuant t r d c conv) (x : State) : x.routeOf c = some (.ofZoo 0x13 r d.queue) := by cases h <;> rfl

theorem IsQuant.header {c : Instr} {conv : Bool} (h : IsQuant t r d c conv) : descHeader c = some d.header := by cases h <;> rfl

theorem startCmd_statsTensor (x : State) : x.startCmd (.statsTensor t r d) = x.quant r d.header (quantFormatsOk d false) fun s => s.runStats r d false := rfl

theorem startCmd_statsChannel (x : State) : x.startCmd (.statsChannel t r d) = x.quant r d.header (quantFormatsOk d false) fun s => s.runStats r d true := rfl

theorem startCmd_convert (x : State) : x.startCmd (.convert t r d)
    = x.quant r d.header (quantFormatsOk d true && (x.convertTable d).isSome) fun s' => s'.runConvert r d ((x.convertTable d).getD none) := rfl

theorem quantStart_convertTable : (quantStart s t r d).convertTable d = s.convertTable d := rfl

theorem quant_invalid {c : Instr} {conv : Bool} (hc : IsQuant t r d c conv) (hstart : ZooStarts s r d.header) (hinvalid : headerInvalid d.header 0x13 = true)
    (hstatus : s.permits (hClass d.header) (statusPlace r d.header) 16 true = true) : Ends c s fun u => QuantEnds s u r d.header 0x0200 0 0 false 16 := by
  obtain ⟨x, hstanding, hmem, hsubmit⟩ := State.submit_zoo_invalid (s := s.advance t) (hc.route _) hc.header hstart.logic hinvalid
  exact ⟨_, hc.exec, hsubmit ▸ quantEnds_refuse (s := s) hmem hstanding hstatus 0x0200 0 true⟩

variable (hstart : ZooStarts s r d.header) (hok : HeaderOk s r d.header 0x13 (hClass d.header == d.queue) (get? s.regions[r].prevSeq (zooQueue 0x13 d.queue 0)))
include hstart hok

theorem IsQuant.starts {c : Instr} {conv : Bool} (hc : IsQuant t r d c conv) : Machine.exec c s = .next ((quantStart s t r d).startCmd c) :=
  hc.exec.trans (congrArg Host.Outcome.next (State.submit_zoo (s := s.advance t) hc.route hc.header ⟨hstart.logic, hstart.may, hstart.commits, hstart.queue⟩
    ⟨hok.fields, hok.cls, hok.sequence, hok.status, hok.room⟩))

theorem quant_refused {c : Instr} {conv : Bool} (hc : IsQuant t r d c conv)
    (hno : hOperation d.header = 0 ∨ 5 < hOperation d.header ∨ quantFormatsOk d conv = false ∨ (conv = true ∧ s.convertTable d = none)) :
    Ends c s fun u => QuantEnds s u r d.header 0x0200 0x0300 0 false 16 := by
  refine ⟨_, hc.starts hstart hok, ?_⟩
  obtain ⟨counted, hrefuse⟩ : ∃ counted, (quantStart s t r d).startCmd c = (quantStart s t r d).refuse r 18 d.header 0x0200 0x0300 counted := by
    cases hc with
    | tensor =>
      rw [startCmd_statsTensor]
      exact State.quant_refuses (hno.imp id fun h => h.imp id fun h => h.resolve_right nofun)
    | channel =>
      rw [startCmd_statsChannel]
      exact State.quant_refuses (hno.imp id fun h => h.imp id fun h => h.resolve_right nofun)
    | convert =>
      rw [startCmd_convert, quantStart_convertTable]
      refine State.quant_refuses (hno.imp id fun h => h.imp id fun h => ?_)
      rcases h with hfmt | ⟨-, htable⟩
      · rw [hfmt, Bool.false_and]
      · rw [htable, Option.isSome_none, Bool.and_false]
  rw [hrefuse]
  exact quantEnds_refuse quantStart_mem quantStart_standing hok.status _ _ _

variable (hlo : 1 ≤ hOperation d.header) (hhi : hOperation d.header ≤ 5)
include hlo hhi

theorem stats_starts {c : Instr} {per : Bool} (hc : (c = .statsTensor t r d ∧ per = false) ∨ (c = .statsChannel t r d ∧ per = true)) (hfmt : isFormat d.format = true) :
    Machine.exec c s = .next (((quantStart s t r d).runStats r d per).countTokens r 3) := by
  have hformats : quantFormatsOk d false = true := by rw [quantFormatsOk, hfmt]; rfl
  rcases hc with ⟨rfl, rfl⟩ | ⟨rfl, rfl⟩
  · rw [IsQuant.tensor.starts hstart hok, startCmd_statsTensor, State.quant_runs hlo hhi hformats]
  · rw [IsQuant.channel.starts hstart hok, startCmd_statsChannel, State.quant_runs hlo hhi hformats]

theorem convert_starts {tb : Option RescaleTable} (hfmt : quantFormatsOk d true = true) (htable : s.convertTable d = some tb) :
    Machine.exec (.convert t r d) s = .next (((quantStart s t r d).runConvert r d tb).countTokens r 3) := by
  rw [IsQuant.convert.starts hstart hok, startCmd_convert, quantStart_convertTable, htable, State.quant_runs hlo hhi (by rw [hfmt]; rfl)]
  rfl

end

end Sys2Proof

namespace Sys2Proof.Machine

/-! ## What a read meets -/

section
variable {x : State} {r : Fin 10} {h : BitVec 128} {fmt : Nat} {input : TensorRef} {ins : List (MemRef × Nat)}

theorem State.meets_lost {k : BadLane} (hmark : x.markRead ins = some k) (hskew : firstSkew fmt (x.readTensor fmt input) = none) : ∃ y : State,
    x.meetUpsets r 18 h [] ins = (y, some stEcc) ∧ y.inputSkew r h fmt (y.readTensor fmt input) = (none, y) ∧ y.mem = x.mem ∧ y.standing = x.standing := by
  have hmem := State.eccUncorrectable_mem x k (hSequence h) (hClass h)
  refine ⟨_, by rw [State.meetUpsets_nil, hmark], State.inputSkew_none ?_, hmem, State.eccUncorrectable_standing ..⟩
  rw [State.readTensor_congr hmem, hskew]

theorem State.meets_nothing (hmark : x.markRead ins = none) : x.meetUpsets r 18 h [] ins = (x, none) := by rw [State.meetUpsets_nil, hmark]

theorem State.meets_skew {k : Skew} (hskew : firstSkew fmt (x.readTensor fmt input) = some k) : ∃ y : State,
    x.inputSkew r h fmt (x.readTensor fmt input) = (some k, y) ∧ y.mem = x.mem ∧ y.standing = x.standing :=
  ⟨_, State.inputSkew_some hskew, State.recordSkew_mem .., State.recordSkew_standing ..⟩

end

end Sys2Proof.Machine

namespace Sys2Proof

open Machine

/-! ## Statistics -/

section
variable {s : State} {t : Nat} {r : Fin 10} {d : QuantDesc} {per : Bool} {c : Instr}

theorem quantStart_log : (quantStart s t r d).log = s.log := rfl

theorem quantStart_permits (cls : Nat) (p : MemRef) (n : Nat) (write : Bool) : (quantStart s t r d).permits cls p n write = s.permits cls p n write :=
  permits_of_standing quantStart_standing ..

theorem quantStart_readTensor : (quantStart s t r d).readTensor d.format d.input = s.readTensor d.format d.input := State.readTensor_congr quantStart_mem ..

variable (hstatus : s.permits (hClass d.header) (statusPlace r d.header) 16 true = true)
  (hstarts : exec c s = .next (((quantStart s t r d).runStats r d per).countTokens r 3))
include hstatus hstarts

theorem stats_address (hbad : ∃ p ∈ statsPlaces r d per, s.badPlace p.1 p.2 = true) :
    Ends c s fun u => QuantEnds s u r d.header 0x0202 0 0 false 16 ∧ u.log = s.log := by
  rw [State.runStats_address (s := quantStart s t r d) hbad] at hstarts
  refine ⟨_, hstarts, (quantEnds_complete quantStart_mem quantStart_standing hstatus _ _ _ _).countTokens 3, ?_⟩
  rw [State.countTokens_log, State.complete_log, quantStart_log]

variable (hgood : ∀ p ∈ statsPlaces r d per, s.badPlace p.1 p.2 = false)
include hgood

theorem stats_guard (hnot : (∃ p ∈ inputPlaces d.format d.input, 0 < p.2 ∧ s.permits (hClass d.header) p.1 p.2 false = false)
    ∨ s.permits (hClass d.header) (statsPlace r d.header) (statsBytes d per) true = false) :
    Ends c s fun u => QuantEnds s u r d.header 0x0205 0 0 false 16 := by
  simp only [← quantStart_permits (s := s) (t := t) (r := r) (d := d)] at hnot
  obtain ⟨p, hguard⟩ := State.runStats_guard (s := quantStart s t r d) hgood hnot
  rw [hguard] at hstarts
  exact ⟨_, hstarts, (quantEnds_guard quantStart_mem quantStart_standing hstatus p).countTokens 3⟩

variable (hin : ∀ p ∈ inputPlaces d.format d.input, s.permits (hClass d.header) p.1 p.2 false = true)
  (hout : s.permits (hClass d.header) (statsPlace r d.header) (statsBytes d per) true = true) (hups : d.upsets = [])
include hin hout hups

omit hstatus in
/-- Past its checks, a statistics descriptor writes by what it met and read. -/
theorem stats_reads {x y : State} {sk : Option Skew} {met : Option Nat} (hmet : (quantStart s t r d).meetUpsets r 18 d.header [] (inputPlaces d.format d.input) = (x, met))
    (hskew : x.inputSkew r d.header d.format (x.readTensor d.format d.input) = (sk, y)) :
    exec c s = .next ((y.statsOut r d per (x.readTensor d.format d.input) sk met).countTokens r 3) := by
  rw [← State.runStats_reads (s := quantStart s t r d) hgood (by simpa only [quantStart_permits] using hin) (by rw [quantStart_permits, hout]) (by rw [hups, hmet]) hskew]
  exact hstarts

theorem stats_invalid {x y : State} {sk : Option Skew} {met : Option Nat} {status detail : Nat} {invalid : Bool} (hends : EndsInvalid sk met status detail invalid)
    (hmet : (quantStart s t r d).meetUpsets r 18 d.header [] (inputPlaces d.format d.input) = (x, met))
    (hskew : x.inputSkew r d.header d.format (x.readTensor d.format d.input) = (sk, y)) (hmem : y.mem = s.mem) (hstanding : y.standing = s.standing) :
    Ends c s fun u => QuantEnds s u r d.header status detail 0 invalid (16 + statsBytes d per) ∧ leAt (u.load (statsPlace r d.header) 32) 12 4 = 0 := by
  obtain ⟨hrecord, hleaves, helements⟩ := State.statsOut_invalid hstatus hmem hstanding hends (per := per) (x.readTensor d.format d.input)
  refine ⟨_, stats_reads hstarts hgood hin hout hups hmet hskew, QuantEnds.countTokens ⟨hrecord, hleaves⟩ 3, ?_⟩
  rw [State.load_congr (State.countTokens_mem ..), helements]

theorem stats_lost {k : BadLane} (hmark : s.markRead (inputPlaces d.format d.input) = some k) (hskew : firstSkew d.format (s.readTensor d.format d.input) = none) :
    Ends c s fun u => QuantEnds s u r d.header 0x0203 0 0 false (16 + statsBytes d per) := by
  obtain ⟨y, hmet, hnone, hmem, hstanding⟩ := State.meets_lost (x := quantStart s t r d) (r := r) (h := d.header) hmark (by rw [quantStart_readTensor, hskew])
  obtain ⟨u, hu, hends, -⟩ := stats_invalid hstatus hstarts hgood hin hout hups .lost hmet hnone (hmem.trans quantStart_mem) (hstanding.trans quantStart_standing)
  exact ⟨u, hu, hends⟩

theorem stats_skewed {k : Skew} (hmark : s.markRead (inputPlaces d.format d.input) = none) (hskew : firstSkew d.format (s.readTensor d.format d.input) = some k) :
    Ends c s fun u => QuantEnds s u r d.header k.status k.detail 0 true (16 + statsBytes d per) ∧ leAt (u.load (statsPlace r d.header) 32) 12 4 = 0 := by
  obtain ⟨y, hsome, hmem, hstanding⟩ := State.meets_skew (x := quantStart s t r d) (r := r) (h := d.header) (by rw [quantStart_readTensor, hskew])
  exact stats_invalid hstatus hstarts hgood hin hout hups (.skewed k) (State.meets_nothing hmark) hsome (hmem.trans quantStart_mem) (hstanding.trans quantStart_standing)

theorem stats_records (hmark : s.markRead (inputPlaces d.format d.input) = none) (hskew : firstSkew d.format (s.readTensor d.format d.input) = none) :
    Ends c s fun u => (∃ (step slot : Nat) (x : Exact), (∀ k, d.slot = some k → slot = k ∧ ∀ y, s.slotOf r k = some y → step = y.step)
      ∧ ((d.format ≠ 4 → d.format ≠ 5 → x = Exact.ofInt 1) ∧ ∀ k, d.format = 4 ∨ d.format = 5 → d.input.slot.bind (s.slotOf r) = some k → x = num32 k.scale)
      ∧ u.load (statsPlace r d.header) (statsBytes d per) = s.statsRecord r d per (inputValues d.format (s.readTensor d.format d.input) x) (step, slot))
      ∧ QuantEnds s u r d.header 0 0 1 false (16 + statsBytes d per) ∧ u.log = s.log := by
  have hclean := State.inputSkew_none (s := quantStart s t r d) (r := r) (h := d.header) (rows := (quantStart s t r d).readTensor d.format d.input)
    (by rw [quantStart_readTensor, hskew])
  obtain ⟨step, slot, x, hslot, houter, hload, hrecord, hleaves, hlog⟩ :=
    State.statsOut_record (y := quantStart s t r d) (per := per) hstatus quantStart_mem quantStart_standing ((quantStart s t r d).readTensor d.format d.input)
  refine ⟨_, stats_reads hstarts hgood hin hout hups (State.meets_nothing hmark) hclean, ⟨step, slot, x, hslot, houter, ?_⟩, QuantEnds.countTokens ⟨hrecord, hleaves⟩ 3, ?_⟩
  · rw [State.load_congr (State.countTokens_mem ..), hload, quantStart_readTensor]
  · rw [State.countTokens_log, hlog, quantStart_log]

end

/-! ## Conversions -/

section
variable {s : State} {t : Nat} {r : Fin 10} {d : QuantDesc} {tb : Option RescaleTable} (hstatus : s.permits (hClass d.header) (statusPlace r d.header) 16 true = true)
  (hhold : hReleaseHold d.header = false) (hstarts : exec (.convert t r d) s = .next (((quantStart s t r d).runConvert r d tb).countTokens r 3))
include hstatus hhold hstarts

theorem convert_address (hbad : ∃ p ∈ inputPlaces d.format d.input ++ convertOuts d tb ++ recordPlaces r d.header (convertFormat d tb), s.badPlace p.1 p.2 = true) :
    Ends (.convert t r d) s fun u => QuantEnds s u r d.header 0x0202 0 0 false 16 ∧ u.log = s.log := by
  rw [State.runConvert_address (s := quantStart s t r d) hhold hbad] at hstarts
  refine ⟨_, hstarts, (quantEnds_complete quantStart_mem quantStart_standing hstatus _ _ _ _).countTokens 3, ?_⟩
  rw [State.countTokens_log, State.complete_log, quantStart_log]

variable (hgood : ∀ p ∈ inputPlaces d.format d.input ++ convertOuts d tb ++ recordPlaces r d.header (convertFormat d tb), s.badPlace p.1 p.2 = false)
include hgood

theorem convert_guard (hnot : (∃ p ∈ inputPlaces d.format d.input, 0 < p.2 ∧ s.permits (hClass d.header) p.1 p.2 false = false)
    ∨ ∃ p ∈ convertOuts d tb ++ recordPlaces r d.header (convertFormat d tb), 0 < p.2 ∧ s.permits (hClass d.header) p.1 p.2 true = false) :
    Ends (.convert t r d) s fun u => QuantEnds s u r d.header 0x0205 0 0 false 16 := by
  simp only [← quantStart_permits (s := s) (t := t) (r := r) (d := d)] at hnot
  obtain ⟨p, hguard⟩ := State.runConvert_guard (s := quantStart s t r d) hhold hgood hnot
  rw [hguard] at hstarts
  exact ⟨_, hstarts, (quantEnds_guard quantStart_mem quantStart_standing hstatus p).countTokens 3⟩

variable (hin : ∀ p ∈ inputPlaces d.format d.input, s.permits (hClass d.header) p.1 p.2 false = true)
  (hout : ∀ p ∈ convertOuts d tb ++ recordPlaces r d.header (convertFormat d tb), s.permits (hClass d.header) p.1 p.2 true = true) (hups : d.upsets = [])
  (hmark : s.markRead (inputPlaces d.format d.input) = none)
include hin hout hups hmark

omit hstatus in
/-- Past its checks, a conversion that meets no lost data writes by what it read. -/
theorem convert_reads {y : State} {sk : Option Skew}
    (hskew : (quantStart s t r d).inputSkew r d.header d.format ((quantStart s t r d).readTensor d.format d.input) = (sk, y)) :
    exec (.convert t r d) s = .next ((y.convertOut r d tb (s.readTensor d.format d.input) sk none).countTokens r 3) := by
  rw [← quantStart_readTensor (s := s) (t := t) (r := r), ← State.runConvert_reads (s := quantStart s t r d) hhold hgood (by simpa only [quantStart_permits] using hin)
    (by simpa only [quantStart_permits] using hout) (by rw [hups, State.meets_nothing (x := quantStart s t r d) hmark]) hskew]
  exact hstarts

theorem convert_skewed {k : Skew} (hskew : firstSkew d.format (s.readTensor d.format d.input) = some k) :
    Ends (.convert t r d) s fun u => QuantEnds s u r d.header k.status k.detail 0 true 48 := by
  obtain ⟨y, hsome, hmem, hstanding⟩ := State.meets_skew (x := quantStart s t r d) (r := r) (h := d.header) (by rw [quantStart_readTensor, hskew])
  obtain ⟨hrecord, hleaves⟩ := State.convertOut_invalid (t := tb) hstatus (hmem.trans quantStart_mem) (hstanding.trans quantStart_standing) (.skewed k)
    (s.readTensor d.format d.input)
  exact ⟨_, convert_reads hhold hstarts hgood hin hout hups hmark hsome, QuantEnds.countTokens ⟨hrecord, hleaves⟩ 3⟩

theorem convert_writes (hskew : firstSkew d.format (s.readTensor d.format d.input) = none)
    (hapart : ∀ p ∈ (convertOuts d tb).take 1, Apart p.1 p.2 (statusPlace r d.header) 48 ∧ ∀ q ∈ (convertOuts d tb).drop 1, Apart p.1 p.2 q.1 q.2) :
    Ends (.convert t r d) s fun u => ∃ (scale : Nat) (x : Exact), (∀ y, d.slot.bind (s.slotOf r) = some y → scale = y.scale)
      ∧ ((d.format ≠ 4 → d.format ≠ 5 → x = Exact.ofInt 1) ∧ ∀ k, d.format = 4 ∨ d.format = 5 → d.input.slot.bind (s.slotOf r) = some k → x = num32 k.scale)
      ∧ let rows := convertRows d (convertFormat d tb) (rescaled tb d.channels (inputValues d.format (s.readTensor d.format d.input) x))
        let codes := (encodeRows (convertFormat d tb) scale 0 (fun i => zeroPoints tb d.channels (rows.getD i []).length) rows).codes
        u.load d.dst (packElems (convertFormat d tb) codes).length = packElems (convertFormat d tb) codes
          ∧ StatusIs u r d.header 0 0 rows.flatten.length false false ∧ Leaves ((statusPlace r d.header, 48) :: convertOuts d tb) s u ∧ u.log = s.log := by
  have hclean := State.inputSkew_none (s := quantStart s t r d) (r := r) (h := d.header) (rows := (quantStart s t r d).readTensor d.format d.input)
    (by rw [quantStart_readTensor, hskew])
  have hreads := convert_reads hhold hstarts hgood hin hout hups hmark hclean
  set outer := (quantStart s t r d).outerFor r d.format d.input.slot with houter
  have hmem : outer.2.mem = s.mem := (State.outerFor_mem ..).trans quantStart_mem
  have hstanding : outer.2.standing = s.standing := (State.outerFor_standing ..).trans quantStart_standing
  have hspace : ∀ p ∈ convertOuts d tb, p.1.space < 3 := fun p hp =>
    space_lt_of_inside (inside_of_goodPlace (hgood p (List.mem_append_left _ (List.mem_append_right _ hp))))
  obtain ⟨hone, hslot⟩ := (quantStart s t r d).outerFor_fst r d.format d.input.slot
  obtain ⟨scale, hscale, hload, hrecord, hleaves, hlog⟩ := State.writeConvert_writes (t := tb) hstatus hmem hstanding hhold
    ((fits_inputValues s d.format d.input outer.1).rescaled tb d.channels) hspace hapart
  refine ⟨_, hreads, scale, outer.1, hscale, ⟨hone, fun k hfmt hk => hslot k hfmt (by rw [State.bind_slotOf quantStart_standing, hk])⟩, ?_, ?_, hleaves.countTokens r 3, ?_⟩
  · rw [State.load_congr (State.countTokens_mem ..)]
    exact hload
  · exact statusIs_of_mem hrecord (State.countTokens_mem ..)
  · rw [State.countTokens_log]
    exact hlog.trans ((State.outerFor_log ..).trans quantStart_log)

end

/-- Settles O52: the descriptor starts as it arrives (`State.submit_zoo`), its checks end it (`State.runStats_eq`, `State.runConvert_eq`), and past them its record and its elements lie within the places that the checks looked at (`encodeRows_fits`). -/
theorem statisticsAndConversionsLeaveTheirTensors : Obligations.StatisticsAndConversionsLeaveTheirTensors := by
  intro s t r d h st place ins input kept rest outer admitted hstart
  refine ⟨fun c conv hc => ⟨fun hinvalid hstatus _ => ?_, fun hok hno => ?_⟩, fun hok hlo hhi => ⟨fun c per hc hfmt => ?_, fun hfmt hhold tb htable => ?_⟩⟩
  · obtain ⟨u, hu, hends⟩ := quant_invalid (isQuant_of hc) hstart hinvalid hstatus
    exact ⟨u, hu, hends.clauses⟩
  · obtain ⟨u, hu, hends⟩ := quant_refused hstart hok (isQuant_of hc) hno
    exact ⟨u, hu, hends.clauses⟩
  · have hstarts := stats_starts hstart hok hlo hhi hc hfmt
    refine ⟨fun hbad => ?_, fun hgood => ⟨fun hnot => ?_, fun hin hout hups => ⟨fun k hmark hskew => ?_, fun hmark k hskew => ?_, fun hmark hskew => ?_⟩⟩⟩
    · obtain ⟨u, hu, hends, hlog⟩ := stats_address hok.status hstarts hbad
      exact ⟨u, hu, hends.clauses.1, hends.clauses.2.1, hends.clauses.2.2, hlog⟩
    · obtain ⟨u, hu, hends⟩ := stats_guard hok.status hstarts hgood hnot
      exact ⟨u, hu, hends.clauses⟩
    · obtain ⟨u, hu, hends⟩ := stats_lost hok.status hstarts hgood hin hout hups hmark hskew
      exact ⟨u, hu, hends.clauses⟩
    · obtain ⟨u, hu, hends, helements⟩ := stats_skewed hok.status hstarts hgood hin hout hups hmark hskew
      exact ⟨u, hu, hends.clauses.1, hends.clauses.2.1, hends.clauses.2.2, helements⟩
    · obtain ⟨u, hu, hrecord, hends, hlog⟩ := stats_records hok.status hstarts hgood hin hout hups hmark hskew
      exact ⟨u, hu, hrecord, hends.clauses.1, hends.clauses.2.1, hends.clauses.2.2, hlog⟩
  · have hstarts := convert_starts (t := t) hstart hok hlo hhi hfmt htable
    extract_lets fmt across outs records
    have houts : outs = convertOuts d tb := by
      rw [convertOuts, convertShape_eq]
      rfl
    clear_value outs
    subst houts
    refine ⟨fun hbad => ?_, fun hgood => ⟨fun hnot => ?_, fun hin hout hups hmark => ⟨fun k hskew => ?_, fun hskew hapart => ?_⟩⟩⟩
    · obtain ⟨u, hu, hends, hlog⟩ := convert_address hok.status hhold hstarts (hbad)
      exact ⟨u, hu, hends.clauses.1, hends.clauses.2.1, hends.clauses.2.2, hlog⟩
    · obtain ⟨u, hu, hends⟩ := convert_guard hok.status hhold hstarts (hgood) (hnot)
      exact ⟨u, hu, hends.clauses⟩
    · obtain ⟨u, hu, hends⟩ := convert_skewed hok.status hhold hstarts (hgood) hin (hout) hups hmark hskew
      exact ⟨u, hu, hends.clauses⟩
    · obtain ⟨u, hu, scale, x, hscale, hx, hload, hrecord, hleaves, hlog⟩ :=
        convert_writes hok.status hhold hstarts (hgood) hin (hout) hups hmark hskew (hapart)
      refine ⟨u, hu, scale, x, hscale, hx, hload, hrecord, ⟨hleaves.launch, slots_of_standing hleaves.standing r⟩, hlog, fun q k hq hfar hplaces => ?_⟩
      refine hleaves.writes q k (space_lt_of_inside hq) fun p hp => ?_
      rcases List.mem_cons.mp hp with rfl | hp
      · exact hfar
      · exact hplaces p (hp)

end Sys2Proof

namespace Sys2Proof.Machine

/-! ## Accumulators (R140, R192) -/

section
variable (x : Block) {set k : Nat} (hset : set < 4) (hk : k < 4)
include hset hk

theorem Block.accAt_setAcc (lane l : Nat) (v : BitVec 32) : (x.setAcc l set v).accAt lane k = if lane = l ∧ k = set then v else x.accAt lane k := by
  have hkey : 4 * lane + k = 4 * l + set ↔ lane = l ∧ k = set := by omega
  unfold Block.accAt Block.setAcc
  by_cases heq : lane = l ∧ k = set
  · rw [if_pos heq, hkey.mpr heq]
    split
    · rename_i hv
      rw [get?_del_self, hv]
      rfl
    · rw [get?_put_self]
      rfl
  · have hne : 4 * lane + k ≠ 4 * l + set := fun h => heq (hkey.mp h)
    rw [if_neg heq]
    split
    · rw [get?_del_other _ _ _ hne]
    · rw [get?_put_other _ _ _ _ hne]

omit hset in
theorem Block.accAt_clearSet (lane : Nat) : (x.clearSet set).accAt lane k = if k = set then 0 else x.accAt lane k := by
  have hmod : (4 * lane + k) % 4 = k := by omega
  unfold Block.accAt Block.clearSet
  rw [get?_filter x.acc fun e => e % 4 != set, hmod]
  by_cases heq : k = set <;> simp [heq]

end

theorem Block.poisonOf_clearSet (x : Block) (set : Nat) : (x.clearSet set).poisonOf set = none := by
  simp [Block.poisonOf, Block.clearSet, List.find?_filter]

theorem acwSet_lt (w : BitVec 64) : acwSet w < 4 := by
  unfold acwSet fld bits
  omega

/-! ## Lanes of a descriptor (R140) -/

theorem map_fst_mapIdx {α β : Type} (base : Nat) (x : α) (ys : List β) : (ys.mapIdx fun j y => (base + j, x, y)).map (fun l => l.1) = List.range' base ys.length :=
  List.ext_getElem (by simp) fun i _ _ => by simp

/-- The lanes of row pairs count on from a base. -/
theorem map_fst_rowPairs {α β : Type} (xs : List α) (ys : List β) (base : Nat) :
    ((xs.mapIdx fun i x => ys.mapIdx fun j y => (base + i * ys.length + j, x, y)).flatten).map (fun l => l.1) = List.range' base (xs.length * ys.length) := by
  induction xs generalizing base with
  | nil => simp
  | cons x xs ih =>
    have hstep : ∀ i : Nat, base + (i + 1) * ys.length = base + ys.length + i * ys.length := fun i => by ring
    rw [List.mapIdx_cons, List.flatten_cons, List.map_append]
    simp only [hstep, Nat.zero_mul, Nat.add_zero]
    rw [map_fst_mapIdx, ih, List.range'_append_1, List.length_cons, Nat.add_mul, Nat.one_mul, Nat.add_comm ys.length]

/-- The lanes of a descriptor are all different. -/
theorem lanesOf_nodup (d : ExecDesc) : ((lanesOf d).map fun l => l.1).Nodup := by
  rw [lanesOf, map_fst_rowPairs]
  exact List.nodup_range'

/-! ## What a descriptor of the cells leaves of the other blocks -/

/-- `u` stands as `s` does but for the accumulators of one block and their marks; memory and objects are the same. -/
structure Works (r : Fin 10) (b : Fin 18) (s u : State) : Prop where
  launch : u.launch = s.launch
  slots : ∀ k : Fin 10, u.regions[k].slots = s.regions[k].slots
  active : u.crust.active = s.crust.active
  interleave : u.power.interleave = s.power.interleave
  dict : u.dict = s.dict
  mem : u.mem = s.mem
  acc : ∀ (k : Fin 10) (j : Fin 18), (k ≠ r ∨ j ≠ b) → (u.block k j).acc = (s.block k j).acc

namespace Works

variable {r : Fin 10} {b : Fin 18} {s u w : State}

theorem refl (s : State) : Works r b s s := ⟨rfl, fun _ => rfl, rfl, rfl, rfl, rfl, fun _ _ _ => rfl⟩

theorem trans (hsu : Works r b s u) (huw : Works r b u w) : Works r b s w :=
  ⟨huw.launch.trans hsu.launch, fun k => (huw.slots k).trans (hsu.slots k), huw.active.trans hsu.active, huw.interleave.trans hsu.interleave, huw.dict.trans hsu.dict,
    huw.mem.trans hsu.mem, fun k j h => (huw.acc k j h).trans (hsu.acc k j h)⟩

theorem of_standing (hstanding : u.standing = s.standing) (hdict : u.dict = s.dict) (hmem : u.mem = s.mem) : Works r b s u :=
  ⟨launch_of_standing hstanding, slots_of_standing hstanding, congrArg Standing.active hstanding, congrArg Standing.interleave hstanding, hdict, hmem,
    fun k j _ => acc_of_standing hstanding k j⟩

theorem modBlock (s : State) (f : Block → Block) : Works r b s (s.modBlock r b f) :=
  ⟨rfl, fun _ => rfl, rfl, rfl, rfl, rfl, fun _ _ h => by rw [State.block_modBlock_other s f h]⟩

theorem permits (h : Works r b s u) (cls : Nat) (p : MemRef) (n : Nat) (write : Bool) : u.permits cls p n write = s.permits cls p n write :=
  permits_congr h.active h.interleave cls p n write

theorem obj (h : Works r b s u) (key : Key) : u.obj key = s.obj key := by rw [State.obj, State.obj, h.active, h.dict]

theorem badPlace (h : Works r b s u) (p : MemRef) (n : Nat) : u.badPlace p n = s.badPlace p n := by
  have hcache : u.cacheOn = s.cacheOn := by
    unfold State.cacheOn State.paceMode State.flag State.nat State.int
    rw [h.obj, h.launch]
  rw [State.badPlace, State.badPlace, State.inSegment, State.inSegment, hcache]

theorem readTable (h : Works r b s u) (m : AccMode) (o : ReadOut) : u.readTable m o = s.readTable m o := by
  unfold State.readTable State.tableOf State.raw
  simp only [h.obj, h.launch]

theorem slotOf (h : Works r b s u) (k : Fin 10) : u.slotOf k = s.slotOf k := funext fun n => by rw [State.slotOf, State.slotOf, h.slots]

end Works

section
variable (s : State) (r : Fin 10)

theorem State.scaleFor_dict (fmt : Nat) (slot : Option Nat) : (s.scaleFor r fmt slot).2.dict = s.dict := by
  unfold State.scaleFor
  split
  · rfl
  · split <;> rfl

theorem State.outerFor_dict (fmt : Nat) (slot : Option Nat) : (s.outerFor r fmt slot).2.dict = s.dict := by
  unfold State.outerFor
  split
  · exact State.scaleFor_dict ..
  · rfl

theorem State.countCell_keeps (b : Fin 18) (k : Fin 10) (cell j n : Nat) : (s.countCell k b cell j n).dict = s.dict ∧ (s.countCell k b cell j n).blocks = s.blocks := by
  unfold State.countCell
  split <;> exact ⟨rfl, rfl⟩

end

/-! ## Accumulation (R193 to R199) -/

/-- One lane of a descriptor accumulates. -/
def accumulateStep (r : Fin 10) (b : Fin 18) (m : AccMode) (d : ExecDesc) (scale : Exact) (limit : Nat) (x : State × Nat) (l : Nat × OpRow × OpRow) : State × Nat :=
  let v := accumulateLane m d scale limit l.2.1 l.2.2 ((x.1.block r b).accAt l.1 (acwSet d.acw))
  let grid := l.1 / 64
  let cell := if (x.1.block r b).grid = grid then 64 else grid
  ((x.1.modBlock r b fun k => k.setAcc l.1 (acwSet d.acw) v.1).countCell r b cell 1 v.2, x.2 + v.2)

section
variable {r : Fin 10} {b : Fin 18} {m : AccMode} {d : ExecDesc} {scale : Exact} {limit : Nat}

theorem accumulateStep_works (x : State × Nat) (l : Nat × OpRow × OpRow) : Works r b x.1 (accumulateStep r b m d scale limit x l).1 := by
  refine (Works.modBlock x.1 _).trans (.of_standing (State.countCell_standing ..) (State.countCell_keeps ..).1 ?_)
  simp [accumulateStep]

theorem accumulateStep_block (x : State × Nat) (l : Nat × OpRow × OpRow) : (accumulateStep r b m d scale limit x l).1.block r b
    = (x.1.block r b).setAcc l.1 (acwSet d.acw) (accumulateLane m d scale limit l.2.1 l.2.2 ((x.1.block r b).accAt l.1 (acwSet d.acw))).1 := by
  have hblocks := (State.countCell_keeps (x.1.modBlock r b fun k => k.setAcc l.1 (acwSet d.acw)
    (accumulateLane m d scale limit l.2.1 l.2.2 ((x.1.block r b).accAt l.1 (acwSet d.acw))).1) b r
    (if (x.1.block r b).grid = l.1 / 64 then 64 else l.1 / 64) 1 (accumulateLane m d scale limit l.2.1 l.2.2 ((x.1.block r b).accAt l.1 (acwSet d.acw))).2).2
  exact (congrArg (fun v => v[blk r b]) hblocks).trans (State.block_modBlock_self ..)

/-- Lanes that are all different accumulate each on its own. -/
theorem foldl_accumulateStep (lanes : List (Nat × OpRow × OpRow)) (hnodup : (lanes.map fun l => l.1).Nodup) (x : State × Nat) :
    Works r b x.1 (lanes.foldl (accumulateStep r b m d scale limit) x).1
    ∧ (∀ l ∈ lanes, ((lanes.foldl (accumulateStep r b m d scale limit) x).1.block r b).accAt l.1 (acwSet d.acw)
        = (accumulateLane m d scale limit l.2.1 l.2.2 ((x.1.block r b).accAt l.1 (acwSet d.acw))).1)
    ∧ (∀ lane, (∀ l ∈ lanes, l.1 ≠ lane) → ((lanes.foldl (accumulateStep r b m d scale limit) x).1.block r b).accAt lane (acwSet d.acw) = (x.1.block r b).accAt lane (acwSet d.acw))
    ∧ (∀ lane k, k < 4 → k ≠ acwSet d.acw → ((lanes.foldl (accumulateStep r b m d scale limit) x).1.block r b).accAt lane k = (x.1.block r b).accAt lane k)
    ∧ ∀ set, ((lanes.foldl (accumulateStep r b m d scale limit) x).1.block r b).poisonOf set = (x.1.block r b).poisonOf set := by
  induction lanes generalizing x with
  | nil => exact ⟨.refl _, fun l hl => absurd hl List.not_mem_nil, fun _ _ => rfl, fun _ _ _ _ => rfl, fun _ => rfl⟩
  | cons l lanes ih =>
    obtain ⟨hl, hrest⟩ := List.nodup_cons.mp hnodup
    have hfresh : ∀ l' ∈ lanes, l'.1 ≠ l.1 := fun l' hl' heq => hl (List.mem_map.mpr ⟨l', hl', heq⟩)
    obtain ⟨hworks, hin, hout, hset, hpoison⟩ := ih hrest (accumulateStep r b m d scale limit x l)
    have hlt := acwSet_lt d.acw
    have hat : ∀ lane k, k < 4 → ((accumulateStep r b m d scale limit x l).1.block r b).accAt lane k = if lane = l.1 ∧ k = acwSet d.acw then
        (accumulateLane m d scale limit l.2.1 l.2.2 ((x.1.block r b).accAt l.1 (acwSet d.acw))).1 else (x.1.block r b).accAt lane k := fun lane k hk => by
      rw [accumulateStep_block, Block.accAt_setAcc _ hlt hk]
    rw [List.foldl_cons]
    refine ⟨(accumulateStep_works x l).trans hworks, fun l' hl' => ?_, fun lane hlane => ?_, fun lane k hk hne => ?_, fun set => ?_⟩
    · rcases List.mem_cons.mp hl' with rfl | hl'
      · rw [hout _ hfresh, hat _ _ hlt, if_pos ⟨rfl, rfl⟩]
      · rw [hin l' hl', hat _ _ hlt, if_neg fun h => hfresh l' hl' h.1]
    · rw [hout lane fun l' hl' => hlane l' (List.mem_cons_of_mem _ hl'), hat _ _ hlt, if_neg fun h => hlane l (List.mem_cons_self ..) h.1.symm]
    · rw [hset lane k hk hne, hat _ _ hk, if_neg fun h => hne h.2]
    · rw [hpoison set, accumulateStep_block]
      rfl

end

end Sys2Proof.Machine

namespace Sys2Proof.Machine

/-! ## An execute descriptor runs (R192 to R201) -/

section
variable (s : State) (r : Fin 10) (b : Fin 18) (m : AccMode) (d : ExecDesc)

/-- The state in which a descriptor that clears its set has done so. -/
def State.setCleared : State := if acwClear d.acw then s.modBlock r b fun x => x.clearSet (acwSet d.acw) else s

/-- The end of a descriptor: its read-out, its saturations, its status, its credits and its counts. -/
def State.concludeExecute (sat : Nat) (ends : Nat × Nat × Bool) : State :=
  let s3 := s.readOut r b m d ends.2.2 false
  let s4 := if sat = 0 then s3 else s3.bump (ob 0x3400 0x0A) sat
  let s5 := s4.complete r b.val d.header ends.1 ends.2.1 ((lanesOf d).length) ends.2.2
  (s5.modBlock r b fun x => { x with held := x.held.filter fun k => !d.returns.contains k }).countExecute r b d (decide (ends.1 < 0x100) && !ends.2.2)

/-- The mark of a set whose operands are skewed, with its fault (R199). -/
def State.markSkew (o : Nat) (k : Skew) : State :=
  (s.modBlock r b fun x => { x with poison := x.poison ++ [(Fin.ofNat 4 (acwSet d.acw), k.status, k.detail)] }).recordSkew (.ofBlock r.val b.val) d.header o k

theorem State.meetUpsets_none (h : BitVec 128) : s.meetUpsets r b.val h [] [] = (s, none) := by
  have hnone : s.markRead [] = none := List.find?_eq_none.mpr fun _ _ => by simp
  rw [State.meetUpsets_nil, hnone]

variable {s r b m d} (hups : d.upsets = [])
include hups

/-- A descriptor that continues a poisoned set accumulates nothing. -/
theorem State.runExecute_poisoned {p : Nat × Nat} (hmark : continuedPoison (s.block r b) d.acw = some p)
    (hpoison : (((s.setCleared r b d).block r b).poisonOf (acwSet d.acw)).isSome = true) :
    s.runExecute r b m d = (s.setCleared r b d).concludeExecute r b m d 0 (p.1, p.2, true) := by
  unfold State.runExecute
  simp only [hups, State.meetUpsets_none, hmark]
  rw [State.setCleared] at hpoison ⊢
  simp only [hpoison]
  rfl

variable (hclean : ((s.setCleared r b d).block r b).poisonOf (acwSet d.acw) = none)
include hclean

theorem State.runExecute_skewed {o : Nat} {k : Skew} (hskew : execSkew d = some (o, k)) : s.runExecute r b m d
    = (((s.setCleared r b d).accumulate r b m d k.element).1.markSkew r b d o k).concludeExecute r b m d ((s.setCleared r b d).accumulate r b m d k.element).2
      (k.status, k.detail, true) := by
  unfold State.runExecute
  simp only [hups, State.meetUpsets_none]
  rw [State.setCleared] at hclean ⊢
  simp only [hclean, hskew]
  cases continuedPoison (s.block r b) d.acw <;> rfl

theorem State.runExecute_accumulates (hmark : continuedPoison (s.block r b) d.acw = none) (hskew : execSkew d = none) : s.runExecute r b m d
    = ((s.setCleared r b d).accumulate r b m d (2 ^ 32)).1.concludeExecute r b m d ((s.setCleared r b d).accumulate r b m d (2 ^ 32)).2 (0, 0, false) := by
  unfold State.runExecute
  simp only [hups, State.meetUpsets_none]
  rw [State.setCleared] at hclean ⊢
  simp only [hclean, hskew, hmark]
  rfl

end

/-! ### The set that a descriptor starts from -/

section
variable {s : State} {r : Fin 10} {b : Fin 18} {d : ExecDesc}

theorem State.setCleared_works : Works r b s (s.setCleared r b d) := by
  unfold State.setCleared
  split
  · exact .modBlock s _
  · exact .refl s

theorem State.setCleared_accAt (lane k : Nat) (hk : k < 4) :
    ((s.setCleared r b d).block r b).accAt lane k = if acwClear d.acw = true ∧ k = acwSet d.acw then 0 else (s.block r b).accAt lane k := by
  unfold State.setCleared
  by_cases hclear : acwClear d.acw = true
  · rw [if_pos hclear, State.block_modBlock_self, Block.accAt_clearSet _ hk]
    simp [hclear]
  · simp [hclear]

theorem State.setCleared_poisonOf :
    ((s.setCleared r b d).block r b).poisonOf (acwSet d.acw) = if acwClear d.acw = true then none else (s.block r b).poisonOf (acwSet d.acw) := by
  unfold State.setCleared
  split
  · rw [State.block_modBlock_self, Block.poisonOf_clearSet]
  · rfl

/-- What the lanes of a descriptor accumulate, from the state in which its set is cleared. -/
theorem State.accumulate_lanes (m : AccMode) (limit : Nat) : ∃ sa sb : Exact,
    ((acwFmtA d.acw ≠ 4 → acwFmtA d.acw ≠ 5 → sa = Exact.ofInt 1) ∧ ∀ k, acwFmtA d.acw = 4 ∨ acwFmtA d.acw = 5 → d.a.slot.bind (s.slotOf r) = some k → sa = num32 k.scale)
    ∧ ((acwFmtB d.acw ≠ 4 → acwFmtB d.acw ≠ 5 → sb = Exact.ofInt 1) ∧ ∀ k, acwFmtB d.acw = 4 ∨ acwFmtB d.acw = 5 → d.b.slot.bind (s.slotOf r) = some k → sb = num32 k.scale)
    ∧ Works r b s (s.accumulate r b m d limit).1
    ∧ (∀ l ∈ lanesOf d, ((s.accumulate r b m d limit).1.block r b).accAt l.1 (acwSet d.acw)
        = (accumulateLane m d (sa.mul sb) limit l.2.1 l.2.2 ((s.block r b).accAt l.1 (acwSet d.acw))).1)
    ∧ (∀ lane, (∀ l ∈ lanesOf d, l.1 ≠ lane) → ((s.accumulate r b m d limit).1.block r b).accAt lane (acwSet d.acw) = (s.block r b).accAt lane (acwSet d.acw))
    ∧ (∀ lane k, k < 4 → k ≠ acwSet d.acw → ((s.accumulate r b m d limit).1.block r b).accAt lane k = (s.block r b).accAt lane k)
    ∧ ∀ set, ((s.accumulate r b m d limit).1.block r b).poisonOf set = (s.block r b).poisonOf set := by
  set oa := s.outerFor r (acwFmtA d.acw) d.a.slot with hoa
  set ob := oa.2.outerFor r (acwFmtB d.acw) d.b.slot with hob
  have hfold : s.accumulate r b m d limit = (lanesOf d).foldl (accumulateStep r b m d (oa.1.mul ob.1) limit) (ob.2, 0) := rfl
  have hastanding : oa.2.standing = s.standing := State.outerFor_standing ..
  have hstanding : ob.2.standing = s.standing := (State.outerFor_standing ..).trans hastanding
  have hworks : Works r b s ob.2 := .of_standing hstanding ((State.outerFor_dict ..).trans (State.outerFor_dict ..)) (by rw [hob, State.outerFor_mem, hoa, State.outerFor_mem])
  have hacc : ∀ lane k, (ob.2.block r b).accAt lane k = (s.block r b).accAt lane k := fun lane k => by rw [Block.accAt, acc_of_standing hstanding, Block.accAt]
  obtain ⟨haone, haslot⟩ := s.outerFor_fst r (acwFmtA d.acw) d.a.slot
  obtain ⟨hbone, hbslot⟩ := oa.2.outerFor_fst r (acwFmtB d.acw) d.b.slot
  obtain ⟨hrun, hin, hout, hset, hpoison⟩ := foldl_accumulateStep (r := r) (b := b) (m := m) (d := d) (scale := oa.1.mul ob.1) (limit := limit) (lanesOf d) (lanesOf_nodup d) (ob.2, 0)
  rw [hfold]
  refine ⟨oa.1, ob.1, ⟨haone, haslot⟩, ⟨hbone, fun k hfmt hk => hbslot k hfmt ?_⟩, hworks.trans hrun, fun l hl => ?_, fun lane hlane => ?_, fun lane k hk hne => ?_, fun set => ?_⟩
  · rw [funext (slotOf_of_standing hastanding r), hk]
  · rw [hin l hl, hacc]
  · rw [hout lane hlane, hacc]
  · rw [hset lane k hk hne, hacc]
  · rw [hpoison set, poisonOf_of_standing hstanding]

end

theorem clampI_eq {lo hi : Int} (h : lo ≤ hi) (v : Int) : clampI lo hi v = max lo (min hi v) := by
  unfold clampI
  split
  · omega
  · split <;> omega

/-- INT products enter an accumulator one by one, with saturation (R193). -/
theorem accumulateInt_fst (fa fb : Nat) (x y : OpRow) (acc : BitVec 32) : (accumulateInt fa fb x y acc).1 = (List.zip x.codes y.codes).foldl (fun (v : BitVec 32) p =>
    BitVec.ofInt 32 (max (-(2 ^ 31)) (min (2 ^ 31 - 1) (v.toInt + signed (intWidth fa) p.1 * signed (intWidth fb) p.2)))) acc := by
  have hfold : ∀ (l : List (Nat × Nat)) (v : BitVec 32) (n : Nat), (l.foldl (fun (x : BitVec 32 × Nat) p =>
      let v : Int := x.1.toInt + signed (intWidth fa) p.1 * signed (intWidth fb) p.2
      let c := clampI (-(2 ^ 31)) (2 ^ 31 - 1) v
      (BitVec.ofInt 32 c, x.2 + b2n (decide (c ≠ v)))) (v, n)).1
        = l.foldl (fun (v : BitVec 32) p => BitVec.ofInt 32 (max (-(2 ^ 31)) (min (2 ^ 31 - 1) (v.toInt + signed (intWidth fa) p.1 * signed (intWidth fb) p.2)))) v := by
    intro l
    induction l with
    | nil => exact fun _ _ => rfl
    | cons p l ih => exact fun v n => by rw [List.foldl_cons, List.foldl_cons, ih, clampI_eq (by decide)]
  exact hfold _ acc 0

end Sys2Proof.Machine

namespace Sys2Proof.Machine

/-! ## How an execute descriptor ends (R166, R192, R201) -/

section
variable {s : State} {r : Fin 10} {b : Fin 18} {m : AccMode} {d : ExecDesc}

/-- A read-out that goes nowhere writes nothing. -/
theorem State.readOut_plain (hplain : acwRead d.acw = false ∨ d.out = none) (invalid : Bool) :
    (s.readOut r b m d invalid false).mem = s.mem ∧ (s.readOut r b m d invalid false).standing = s.standing := by
  unfold State.readOut
  rcases hplain with hread | hout
  · rw [hread]
    exact ⟨rfl, rfl⟩
  · simp only [hout]
    split <;> exact ⟨rfl, rfl⟩

/-- What follows a read-out is the status record. -/
theorem State.concludeExecute_leaves {v : State} {ends : Nat × Nat × Bool} {sat : Nat} (hv : s.readOut r b m d ends.2.2 false = v)
    (hstatus : v.permits (hClass d.header) (statusPlace r d.header) 16 true = true) :
    StatusIs (s.concludeExecute r b m d sat ends) r d.header ends.1 ends.2.1 (lanesOf d).length ends.2.2 false
      ∧ Leaves [(statusPlace r d.header, 16)] v (s.concludeExecute r b m d sat ends) := by
  set w := if sat = 0 then v else v.bump (ob 0x3400 0x0A) sat with hw
  set z := w.complete r b.val d.header ends.1 ends.2.1 (lanesOf d).length ends.2.2 with hz
  have hbump : w.mem = v.mem ∧ w.standing = v.standing := by
    rw [hw]
    split
    · exact ⟨rfl, rfl⟩
    · exact ⟨rfl, rfl⟩
  have hout : s.concludeExecute r b m d sat ends
      = (z.modBlock r b fun x => { x with held := x.held.filter fun k => !d.returns.contains k }).countExecute r b d (decide (ends.1 < 0x100) && !ends.2.2) := by
    rw [hz, hw, ← hv]
    rfl
  have hmem : (s.concludeExecute r b m d sat ends).mem = z.mem := by
    rw [hout, State.countExecute_mem]
    rfl
  have hstanding : (s.concludeExecute r b m d sat ends).standing = z.standing := by
    rw [hout, State.countExecute_standing, State.modBlock_standing _ _ _ rfl rfl]
  refine ⟨statusIs_of_mem (w.complete_statusIs _ _ _ _ _ _ _ _ ?_) hmem, ?_⟩
  · rw [permits_of_standing hbump.2]
    exact hstatus
  · exact ((Leaves.of_mem hbump.1 hbump.2).trans (w.complete_leaves ..)).trans (.of_mem hmem hstanding)

theorem State.concludeExecute_plain {ends : Nat × Nat × Bool} {sat : Nat} (hplain : acwRead d.acw = false ∨ d.out = none)
    (hstatus : s.permits (hClass d.header) (statusPlace r d.header) 16 true = true) :
    StatusIs (s.concludeExecute r b m d sat ends) r d.header ends.1 ends.2.1 (lanesOf d).length ends.2.2 false
      ∧ Leaves [(statusPlace r d.header, 16)] s (s.concludeExecute r b m d sat ends) := by
  obtain ⟨hmem, hstanding⟩ := State.readOut_plain (s := s) (r := r) (b := b) (m := m) hplain ends.2.2
  obtain ⟨hrecord, hleaves⟩ := State.concludeExecute_leaves (s := s) (m := m) (d := d) (ends := ends) (sat := sat) rfl
    (by rw [permits_of_standing hstanding]; exact hstatus)
  exact ⟨hrecord, (Leaves.of_mem hmem hstanding).trans hleaves⟩

end

/-! ## Skew marks (R199) -/

section
variable {s : State} {r : Fin 10} {b : Fin 18} {d : ExecDesc} {o : Nat} {k : Skew}

/-- The mark of a set that had none is that of its skew. -/
theorem State.markSkew_poisonOf (hclean : (s.block r b).poisonOf (acwSet d.acw) = none) :
    ((s.markSkew r b d o k).block r b).poisonOf (acwSet d.acw) = some (k.status, k.detail) := by
  have hnone : (s.block r b).poison.find? (fun p => p.1.val == acwSet d.acw) = none := Option.map_eq_none_iff.mp hclean
  rw [State.markSkew, poisonOf_of_standing (State.recordSkew_standing ..), State.block_modBlock_self, Block.poisonOf]
  simp [List.find?_append, hnone, acwSet_lt]

end

/-! ## Read-outs (R192, R201) -/

section
variable {m : AccMode}

theorem Block.readRows_congr {x y : Block} (h : x.acc = y.acc) (d : ExecDesc) : x.readRows m d = y.readRows m d := by
  unfold Block.readRows Block.accAt
  rw [h]

/-- The rows that a descriptor reads out: one for each row of operand a, as long as operand b has rows. -/
theorem Block.readRows_shape (x : Block) (d : ExecDesc) (t : RescaleTable) (channels : Nat) :
    (rescaled (some t) channels (x.readRows m d)).length = d.a.rows.length ∧ ∀ xs ∈ rescaled (some t) channels (x.readRows m d), xs.length = d.b.rows.length := by
  refine ⟨by simp [rescaled, Block.readRows], fun xs hxs => ?_⟩
  obtain ⟨ys, hys, rfl⟩ := List.mem_map.mp hxs
  obtain ⟨i, -, rfl⟩ := List.mem_map.mp hys
  simp

end

section
variable {s : State} {r : Fin 10} {b : Fin 18} {m : AccMode} {d : ExecDesc} {o : ReadOut} {tb : RescaleTable} (hread : acwRead d.acw = true) (hout : d.out = some o)
  (htable : s.readTable m o = some tb) (hhold : hReleaseHold d.header = false) (hspace : ∀ p ∈ readPlaces d o tb, p.1.space < 3)
include hread hout htable hhold hspace

/-- A read-out leaves its set at its place, requantised by its table, and its statistics record. -/
theorem State.readOut_writes (hfar : Apart o.dst (elemBytes tb.outFormat d.a.rows.length d.b.rows.length) (statusPlace r d.header) 48)
    (hstream : ∀ p ∈ (readPlaces d o tb).drop 1, Apart o.dst (elemBytes tb.outFormat d.a.rows.length d.b.rows.length) p.1 p.2) :
    ∃ scale : Nat, (∀ x, o.slot.bind (s.slotOf r) = some x → scale = x.scale)
      ∧ (s.readOut r b m d false false).load o.dst (elemBytes tb.outFormat d.a.rows.length d.b.rows.length)
        = packElems tb.outFormat (encodeRows tb.outFormat scale 0 (fun _ => zeroPoints (some tb) o.channels d.b.rows.length)
            (rescaled (some tb) o.channels ((s.block r b).readRows m d))).codes
      ∧ (s.readOut r b m d false false).standing = s.standing := by
  set s1 := s.emit (.accumulators r.val b.val (acwReadSet d.acw) ((lanesOf d).map fun l => (s.block r b).accAt l.1 (acwReadSet d.acw))) with hs1
  set rows := rescaled (some tb) o.channels ((s.block r b).readRows m d) with hrows
  set sc := s1.scaleFor r tb.outFormat o.slot with hsc
  set w := encodeRows tb.outFormat sc.1 0 (fun _ => zeroPoints (some tb) o.channels d.b.rows.length) rows with hw
  set z := sc.2.writeTensor r b.val d.header tb.outFormat o.dst o.stream w false with hz
  have heq : s.readOut r b m d false false = z.tensorStats r (statsPlace r d.header) tb.outFormat o.slot rows.flatten w := by
    have htable1 : s1.readTable m o = some tb := htable
    unfold State.readOut
    simp only [hread, hout, ← hs1, htable1]
    rfl
  obtain ⟨hlen, hlong⟩ := (s.block r b).readRows_shape (m := m) d tb o.channels
  have hcodes : (packElems tb.outFormat w.codes).length = elemBytes tb.outFormat d.a.rows.length d.b.rows.length := encodeRows_elemBytes hlen hlong
  have hroom := hspace (o.dst, _) (List.mem_cons_self ..)
  have hstats : Leaves [(statusPlace r d.header, 48)] z (z.tensorStats r (statsPlace r d.header) tb.outFormat o.slot rows.flatten w) :=
    State.tensorStats_leaves (List.mem_singleton_self _) (statsPlace_within r d.header 32) (by decide : 1 < 3) _ _ _ _
  have hload : z.load o.dst (packElems tb.outFormat w.codes).length = packElems tb.outFormat w.codes :=
    State.writeTensor_load hhold hspace (Nat.le_of_eq hlen) (fun xs hxs => Nat.le_of_eq (hlong xs hxs)) hstream
  refine ⟨sc.1, fun x hx => State.scaleFor_slot s1 r tb.outFormat hx, ?_, ?_⟩
  · rw [heq, hstats.writes _ _ hroom fun p hp => List.mem_singleton.mp hp ▸ hfar, ← hcodes, hload]
  · rw [heq, State.tensorStats_standing, hz, State.writeTensor_standing _ _ _ hhold, hsc, State.scaleFor_standing]
    rfl

end

end Sys2Proof.Machine

namespace Sys2Proof.Machine

/-! ## An execute descriptor starts (R165, R192, R201) -/

/-- A descriptor that ended has given back its buffers. -/
def State.creditsReturned (s : State) (r : Fin 10) (b : Fin 18) (d : ExecDesc) : State :=
  s.modBlock r b fun x => { x with held := x.held.filter fun k => !d.returns.contains k }

theorem State.creditsReturned_standing (s : State) (r : Fin 10) (b : Fin 18) (d : ExecDesc) : (s.creditsReturned r b d).standing = s.standing := s.modBlock_standing r b rfl rfl

section
variable {s : State} {r : Fin 10} {b : Fin 18} {d : ExecDesc}

theorem State.startExecute_body (hmode : acwMode d.acw = none) :
    s.startExecute r b d = ((s.startBlock r b d.header).refuse r b.val d.header 0x0200 0x0300 true).creditsReturned r b d := by
  unfold State.startExecute
  rw [hmode]
  rfl

variable {m : AccMode} (hmode : acwMode d.acw = some m)
include hmode

theorem State.startExecute_plain (hplain : acwRead d.acw = false ∨ d.out = none) : s.startExecute r b d = (s.startBlock r b d.header).runExecute r b m d := by
  have hnone : (if acwRead d.acw = true then d.out else none) = none := by
    rcases hplain with hread | hout
    · rw [hread]
      rfl
    · rw [hout, ite_self]
  unfold State.startExecute
  simp only [hmode, hnone]

variable {o : ReadOut} (hread : acwRead d.acw = true) (hout : d.out = some o)
include hread hout

theorem State.startExecute_table (htable : (s.startBlock r b d.header).readTable m o = none) :
    s.startExecute r b d = ((s.startBlock r b d.header).refuse r b.val d.header 0x0200 0x0300 true).creditsReturned r b d := by
  unfold State.startExecute
  simp only [hmode, hread, hout, if_true, htable]
  rfl

variable {tb : RescaleTable} (htable : (s.startBlock r b d.header).readTable m o = some tb) (hhold : hReleaseHold d.header = false)
include htable hhold

theorem State.startExecute_address (hbad : ∃ p ∈ readPlaces d o tb ++ recordPlaces r d.header tb.outFormat, (s.startBlock r b d.header).badPlace p.1 p.2 = true) :
    s.startExecute r b d = ((s.startBlock r b d.header).complete r b.val d.header 0x0202 0 0).creditsReturned r b d := by
  unfold State.startExecute
  simp only [hmode, hread, hout, if_true, htable, (State.badOut_iff hhold).mpr hbad]
  rfl

theorem State.startExecute_runs (hgood : ∀ p ∈ readPlaces d o tb ++ recordPlaces r d.header tb.outFormat, (s.startBlock r b d.header).badPlace p.1 p.2 = false)
    (hmay : ∀ p ∈ readPlaces d o tb ++ recordPlaces r d.header tb.outFormat, (s.startBlock r b d.header).permits (hClass d.header) p.1 p.2 true = true) :
    s.startExecute r b d = (s.startBlock r b d.header).runExecute r b m d := by
  have hplaces : (s.startBlock r b d.header).badOut d.header tb.outFormat (readPlaces d o tb) (statsPlace r d.header) = false := by
    rw [Bool.eq_false_iff, ne_eq, State.badOut_iff hhold]
    rintro ⟨p, hp, hbad⟩
    exact absurd (hbad.symm.trans (hgood p hp)) (by decide)
  unfold State.startExecute
  simp only [hmode, hread, hout, if_true, htable, hplaces, State.refusedOut_none hmay, Bool.false_eq_true, if_false]

end

theorem continuedPoison_none {x : Block} {w : BitVec 64} (h : continuedPoison x w = none) : (if acwClear w = true then none else x.poisonOf (acwSet w)) = none := by
  unfold continuedPoison at h
  split at h
  · exact absurd h nofun
  · assumption

theorem continuedPoison_some {x : Block} {w : BitVec 64} {p : Nat × Nat} (hclear : acwClear w = false) (h : x.poisonOf (acwSet w) = some p) : continuedPoison x w = some p := by
  simp [continuedPoison, hclear, h]

theorem continuedPoison_congr {x y : Block} (h : ∀ set, x.poisonOf set = y.poisonOf set) (w : BitVec 64) : continuedPoison x w = continuedPoison y w := by
  simp only [continuedPoison, h]

end Sys2Proof.Machine

namespace Sys2Proof

open Machine

/-! ## What an execute descriptor leaves -/

/-- A descriptor of a block has ended with a status, and left the launch, the accumulators of all other blocks, and all memory but its status record. -/
structure ExecEnds (s u : State) (r : Fin 10) (b : Fin 18) (h : BitVec 128) (status detail count : Nat) (invalid : Bool) : Prop where
  status : StatusIs u r h status detail count invalid false
  acc : ∀ (k : Fin 10) (j : Fin 18), (k ≠ r ∨ j ≠ b) → (u.block k j).acc = (s.block k j).acc
  launch : u.launch = s.launch
  writes : WritesOnly [(statusPlace r h, 16)] s u

namespace ExecEnds

variable {s u v : State} {r : Fin 10} {b : Fin 18} {h : BitVec 128} {status detail count : Nat} {invalid : Bool}

theorem of_leaves (hrecord : StatusIs u r h status detail count invalid false) (hleaves : Leaves [(statusPlace r h, 16)] s u) :
    ExecEnds s u r b h status detail count invalid :=
  ⟨hrecord, fun k j _ => acc_of_standing hleaves.standing k j, hleaves.launch, hleaves.writes⟩

theorem after_works (hworks : Works r b s v) (hends : ExecEnds v u r b h status detail count invalid) : ExecEnds s u r b h status detail count invalid :=
  ⟨hends.status, fun k j hkj => (hends.acc k j hkj).trans (hworks.acc k j hkj), hends.launch.trans hworks.launch, (WritesOnly.of_mem hworks.mem).trans hends.writes⟩

/-- The clauses of the statement. -/
theorem clauses (hends : ExecEnds s u r b h status detail count invalid) : StatusIs u r h status detail count invalid false
    ∧ (∀ (k : Fin 10) (j : Fin 18), (k ≠ r ∨ j ≠ b) → (u.block k j).acc = (s.block k j).acc) ∧ u.launch = s.launch
    ∧ ∀ (q : MemRef) (n : Nat), q.inside n = true → Apart q n (statusPlace r h) 16 → u.load q n = s.load q n :=
  ⟨hends.status, hends.acc, hends.launch, fun q n hq hapart => hends.writes q n (space_lt_of_inside hq) fun _ hp => List.mem_singleton.mp hp ▸ hapart⟩

end ExecEnds

/-- A descriptor of a block that was refused has also left the accumulators of its own block. -/
structure ExecRefused (s u : State) (r : Fin 10) (b : Fin 18) (h : BitVec 128) (status detail : Nat) : Prop where
  ends : ExecEnds s u r b h status detail 0 false
  own : (u.block r b).acc = (s.block r b).acc

section
variable {s x : State} {r : Fin 10} {b : Fin 18} {h : BitVec 128} {d : ExecDesc} {status detail : Nat}

theorem execRefused_of_leaves {u : State} (hrecord : StatusIs u r h status detail 0 false false) (hleaves : Leaves [(statusPlace r h, 16)] s u) :
    ExecRefused s u r b h status detail :=
  ⟨.of_leaves hrecord hleaves, acc_of_standing hleaves.standing r b⟩

theorem ExecRefused.creditsReturned (hends : ExecRefused s x r b h status detail) : ExecRefused s (x.creditsReturned r b d) r b h status detail :=
  have hstanding := x.creditsReturned_standing r b d
  ⟨⟨statusIs_of_mem hends.ends.status rfl, fun k j hkj => (acc_of_standing hstanding k j).trans (hends.ends.acc k j hkj), hends.ends.launch,
    hends.ends.writes.trans (.of_mem rfl)⟩, (acc_of_standing hstanding r b).trans hends.own⟩

variable (hmem : x.mem = s.mem) (hstanding : x.standing = s.standing) (hstatus : s.permits (hClass h) (statusPlace r h) 16 true = true)
include hmem hstanding hstatus

theorem execRefused_refuse (k : Nat) (status detail : Nat) : ExecRefused s (x.refuse r k h status detail true) r b h status detail :=
  execRefused_of_leaves (x.refuse_statusIs _ _ _ _ (by rw [permits_of_standing hstanding]; exact hstatus)) ((Leaves.of_mem hmem hstanding).trans (x.refuse_leaves ..))

theorem execRefused_complete (k : Nat) (status : Nat) : ExecRefused s (x.complete r k h status 0 0) r b h status 0 :=
  execRefused_of_leaves (x.complete_statusIs _ _ _ _ _ _ _ _ (by rw [permits_of_standing hstanding]; exact hstatus)) ((Leaves.of_mem hmem hstanding).trans (x.complete_leaves ..))

end

section
variable {s : State} {t : Nat} {r : Fin 10} {b : Fin 18} {d : ExecDesc}

/-- The state in which an execute descriptor starts. -/
def executeStart (s : State) (t : Nat) (r : Fin 10) (b : Fin 18) (d : ExecDesc) : State :=
  (blockNoted (s.advance t) r b (.executeDescriptor t r b d) d.header).startBlock r b d.header

theorem executeStart_standing : (executeStart s t r b d).standing = s.standing :=
  (State.startBlock_standing ..).trans ((s.advance t).modBlock_standing r b rfl rfl)

theorem startBlock_keeps (x : State) (h : BitVec 128) : (x.startBlock r b h).mem = x.mem ∧ (x.startBlock r b h).dict = x.dict := by
  unfold State.startBlock
  split <;> exact ⟨rfl, rfl⟩

theorem executeStart_mem : (executeStart s t r b d).mem = s.mem := (startBlock_keeps _ _).1

theorem executeStart_works : Works r b s (executeStart s t r b d) := .of_standing executeStart_standing (startBlock_keeps _ _).2 executeStart_mem

theorem startCmd_execute (x : State) : x.startCmd (.executeDescriptor t r b d) = x.startExecute r b d := rfl

theorem execute_invalid (hstart : BlockStarts s r b (.executeDescriptor t r b d) d.header) (hinvalid : headerInvalid d.header 0x01 = true)
    (hstatus : s.permits (hClass d.header) (statusPlace r d.header) 16 true = true) :
    Ends (.executeDescriptor t r b d) s fun u => ExecRefused s u r b d.header 0x0200 0 := by
  obtain ⟨x, hstanding, hmem, hsubmit⟩ := State.submit_block_invalid (s := s.advance t) (c := .executeDescriptor t r b d) rfl rfl hstart.logic hstart.queue hinvalid
  exact ⟨_, rfl, hsubmit ▸ execRefused_refuse (s := s) hmem hstanding hstatus b.val 0x0200 0⟩

variable (hstart : BlockStarts s r b (.executeDescriptor t r b d) d.header) (hok : HeaderOk s r d.header 0x01 (s.blockAdmits r b (hClass d.header)) (s.block r b).prevSeq)
include hstart hok

theorem execute_starts : exec (.executeDescriptor t r b d) s
    = .next ((blockNoted (s.advance t) r b (.executeDescriptor t r b d) d.header).startExecute r b d) := by
  have hsubmit := State.submit_block (s := s.advance t) (c := .executeDescriptor t r b d) (fun _ => rfl) rfl (show 1 ≠ 2 by decide)
    ⟨hstart.logic, hstart.may, hstart.commits, hstart.queue, hstart.port, nofun⟩ ⟨hok.fields, hok.cls, hok.sequence, hok.status, hok.room⟩
  exact congrArg Host.Outcome.next (hsubmit.trans (startCmd_execute _))

/-- A control word without a mode is refused. -/
theorem execute_body (hmode : acwMode d.acw = none) : Ends (.executeDescriptor t r b d) s fun u => ExecRefused s u r b d.header 0x0200 0x0300 := by
  refine ⟨_, execute_starts hstart hok, ?_⟩
  rw [State.startExecute_body hmode]
  exact (execRefused_refuse executeStart_mem executeStart_standing hok.status b.val 0x0200 0x0300).creditsReturned

variable {m : AccMode} (hmode : acwMode d.acw = some m)
include hmode

section
variable (hplain : acwRead d.acw = false ∨ d.out = none)
include hplain

theorem execute_plain : exec (.executeDescriptor t r b d) s = .next ((executeStart s t r b d).runExecute r b m d) := by
  rw [execute_starts hstart hok, State.startExecute_plain hmode hplain]
  rfl

end

variable {o : ReadOut} (hread : acwRead d.acw = true) (hout : d.out = some o)
include hread hout

theorem execute_table (htable : s.readTable m o = none) : Ends (.executeDescriptor t r b d) s fun u => ExecRefused s u r b d.header 0x0200 0x0300 := by
  refine ⟨_, execute_starts hstart hok, ?_⟩
  rw [State.startExecute_table hmode hread hout ((executeStart_works.readTable m o).trans htable)]
  exact (execRefused_refuse executeStart_mem executeStart_standing hok.status b.val 0x0200 0x0300).creditsReturned

variable {tb : RescaleTable} (htable : s.readTable m o = some tb) (hhold : hReleaseHold d.header = false)
include htable hhold

theorem execute_address (hbad : ∃ p ∈ readPlaces d o tb ++ recordPlaces r d.header tb.outFormat, s.badPlace p.1 p.2 = true) :
    Ends (.executeDescriptor t r b d) s fun u => ExecRefused s u r b d.header 0x0202 0 := by
  refine ⟨_, execute_starts hstart hok, ?_⟩
  simp only [← (executeStart_works (s := s) (t := t) (r := r) (b := b) (d := d)).badPlace] at hbad
  rw [State.startExecute_address hmode hread hout ((executeStart_works.readTable m o).trans htable) hhold hbad]
  exact (execRefused_complete executeStart_mem executeStart_standing hok.status b.val 0x0202).creditsReturned

theorem execute_runs (hgood : ∀ p ∈ readPlaces d o tb ++ recordPlaces r d.header tb.outFormat, s.badPlace p.1 p.2 = false)
    (hmay : ∀ p ∈ readPlaces d o tb ++ recordPlaces r d.header tb.outFormat, s.permits (hClass d.header) p.1 p.2 true = true) :
    exec (.executeDescriptor t r b d) s = .next ((executeStart s t r b d).runExecute r b m d) := by
  simp only [← (executeStart_works (s := s) (t := t) (r := r) (b := b) (d := d)).badPlace] at hgood
  simp only [← (executeStart_works (s := s) (t := t) (r := r) (b := b) (d := d)).permits] at hmay
  rw [execute_starts hstart hok, State.startExecute_runs hmode hread hout ((executeStart_works.readTable m o).trans htable) hhold hgood hmay]
  rfl

end

/-! ## What its lanes accumulate -/

section
variable (s : State) (r : Fin 10) (b : Fin 18) (d : ExecDesc)

/-- The outer scale of an operand: 1 but for FP8, where it is that of its slot. -/
def OuterScale (x : Exact) (fmt : Nat) (slot : Option Nat) : Prop :=
  (fmt ≠ 4 → fmt ≠ 5 → x = Exact.ofInt 1) ∧ ∀ k, fmt = 4 ∨ fmt = 5 → slot.bind (s.slotOf r) = some k → x = num32 k.scale

/-- What a lane of the descriptor's set starts from. -/
def startAcc (lane : Nat) : BitVec 32 := if acwClear d.acw = true then 0 else (s.block r b).accAt lane (acwSet d.acw)

/-- `v` is `s` in which a descriptor has accumulated its lanes, up to a number of elements. -/
structure Accumulated (v : State) (m : AccMode) (limit : Nat) : Prop where
  works : Works r b s v
  lanes : ∃ sa sb : Exact, OuterScale s r sa (acwFmtA d.acw) d.a.slot ∧ OuterScale s r sb (acwFmtB d.acw) d.b.slot
    ∧ ∀ l ∈ lanesOf d, (v.block r b).accAt l.1 (acwSet d.acw) = (accumulateLane m d (sa.mul sb) limit l.2.1 l.2.2 (startAcc s r b d l.1)).1
  outside : ∀ lane, (∀ l ∈ lanesOf d, l.1 ≠ lane) → (v.block r b).accAt lane (acwSet d.acw) = startAcc s r b d lane
  otherSets : ∀ lane k, k < 4 → k ≠ acwSet d.acw → (v.block r b).accAt lane k = (s.block r b).accAt lane k
  unmarked : (v.block r b).poisonOf (acwSet d.acw) = none

end

section
variable {s : State} {t : Nat} {r : Fin 10} {b : Fin 18} {d : ExecDesc}

/-- A set that carries no mark accumulates. -/
theorem accumulated (hunmarked : (if acwClear d.acw = true then none else (s.block r b).poisonOf (acwSet d.acw)) = none) (m : AccMode) (limit : Nat) :
    Accumulated s r b d (((executeStart s t r b d).setCleared r b d).accumulate r b m d limit).1 m limit := by
  set x := executeStart s t r b d with hx
  have hstanding : x.standing = s.standing := executeStart_standing
  have hworks : Works r b s (x.setCleared r b d) := executeStart_works.trans State.setCleared_works
  have hacc : ∀ lane k, (x.block r b).accAt lane k = (s.block r b).accAt lane k := fun lane k => by rw [Block.accAt, acc_of_standing hstanding, Block.accAt]
  have hstart : ∀ lane, ((x.setCleared r b d).block r b).accAt lane (acwSet d.acw) = startAcc s r b d lane := fun lane => by
    rw [State.setCleared_accAt lane _ (acwSet_lt d.acw), hacc, startAcc]
    simp only [and_true]
  obtain ⟨sa, sb, ha, hb, hrun, hin, hout, hset, hpoison⟩ := (x.setCleared r b d).accumulate_lanes (r := r) (b := b) (d := d) m limit
  rw [hworks.slotOf] at ha hb
  refine ⟨hworks.trans hrun, ⟨sa, sb, ha, hb, fun l hl => ?_⟩, fun lane hlane => ?_, fun lane k hk hne => ?_, ?_⟩
  · rw [hin l hl, hstart]
  · rw [hout lane hlane, hstart]
  · rw [hset lane k hk hne, State.setCleared_accAt lane k hk, if_neg fun h => hne h.2, hacc]
  · rw [hpoison, State.setCleared_poisonOf, poisonOf_of_standing hstanding, hunmarked]

variable {m : AccMode} {v : State} {limit : Nat}

/-- INT lanes add their products one by one, with saturation. -/
theorem accumulateLane_integer (d : ExecDesc) (scale : Exact) (x y : OpRow) (acc : BitVec 32) :
    (accumulateLane .integer d scale limit x y acc).1 = (List.zip x.codes y.codes).foldl (fun (w : BitVec 32) p =>
      BitVec.ofInt 32 (max (-(2 ^ 31)) (min (2 ^ 31 - 1) (w.toInt + signed (intWidth (acwFmtA d.acw)) p.1 * signed (intWidth (acwFmtB d.acw)) p.2)))) acc :=
  accumulateInt_fst ..

/-! ## How it ends -/

variable (hstatus : s.permits (hClass d.header) (statusPlace r d.header) 16 true = true)
include hstatus

/-- The end of a descriptor that writes no tensor. -/
theorem execEnds_plain (hworks : Works r b s v) (hplain : acwRead d.acw = false ∨ d.out = none) (sat : Nat) (ends : Nat × Nat × Bool) :
    ExecEnds s (v.concludeExecute r b m d sat ends) r b d.header ends.1 ends.2.1 (lanesOf d).length ends.2.2
      ∧ (v.concludeExecute r b m d sat ends).standing = v.standing := by
  obtain ⟨hrecord, hleaves⟩ := State.concludeExecute_plain (s := v) (b := b) (m := m) (sat := sat) (ends := ends) hplain (by rw [hworks.permits]; exact hstatus)
  exact ⟨.after_works hworks (.of_leaves hrecord hleaves), hleaves.standing⟩

variable (hups : d.upsets = [])
include hups

section
variable (hruns : exec (.executeDescriptor t r b d) s = .next ((executeStart s t r b d).runExecute r b m d)) (hplain : acwRead d.acw = false ∨ d.out = none)
include hruns hplain

/-- A descriptor that continues a poisoned set accumulates nothing and ends with the mark. -/
theorem execute_poisoned {p : Nat × Nat} (hclear : acwClear d.acw = false) (hpoison : (s.block r b).poisonOf (acwSet d.acw) = some p) :
    Ends (.executeDescriptor t r b d) s fun u => (u.block r b).acc = (s.block r b).acc ∧ ExecEnds s u r b d.header p.1 p.2 (lanesOf d).length true := by
  set x := executeStart s t r b d with hx
  have hstanding : x.standing = s.standing := executeStart_standing
  have hcleared : x.setCleared r b d = x := by simp [State.setCleared, hclear]
  have hmark : (x.block r b).poisonOf (acwSet d.acw) = some p := by rw [poisonOf_of_standing hstanding, hpoison]
  obtain ⟨hends, hkeeps⟩ := execEnds_plain (m := m) hstatus (executeStart_works (t := t) (d := d)) hplain 0 (p.1, p.2, true)
  refine ⟨_, hruns, ?_⟩
  rw [State.runExecute_poisoned hups (continuedPoison_some hclear hmark) (by rw [hcleared, hmark]; rfl), hcleared]
  exact ⟨(acc_of_standing hkeeps r b).trans (acc_of_standing hstanding r b), hends⟩

/-- A descriptor with a skew marks its set. -/
theorem execute_skewed {o : Nat} {k : Skew} (hunmarked : (if acwClear d.acw = true then none else (s.block r b).poisonOf (acwSet d.acw)) = none)
    (hskew : execSkew d = some (o, k)) : Ends (.executeDescriptor t r b d) s fun u => (u.block r b).poisonOf (acwSet d.acw) = some (k.status, k.detail)
      ∧ ExecEnds s u r b d.header k.status k.detail (lanesOf d).length true := by
  set x := executeStart s t r b d with hx
  have hacc := accumulated (t := t) hunmarked m k.element
  set y := ((x.setCleared r b d).accumulate r b m d k.element).1 with hy
  have hclean : ((x.setCleared r b d).block r b).poisonOf (acwSet d.acw) = none := by
    rw [State.setCleared_poisonOf, poisonOf_of_standing executeStart_standing, hunmarked]
  have hmarks : Works r b s (y.modBlock r b fun z => { z with poison := z.poison ++ [(Fin.ofNat 4 (acwSet d.acw), k.status, k.detail)] }) :=
    hacc.works.trans (.modBlock y _)
  obtain ⟨hrecord, hleaves⟩ := State.concludeExecute_plain (s := y.markSkew r b d o k) (b := b) (m := m)
    (sat := ((x.setCleared r b d).accumulate r b m d k.element).2) (ends := (k.status, k.detail, true)) hplain
    (by rw [State.markSkew, permits_of_standing (State.recordSkew_standing ..), hmarks.permits]; exact hstatus)
  refine ⟨_, hruns, ?_⟩
  rw [State.runExecute_skewed hups hclean hskew]
  refine ⟨?_, .after_works hmarks (.of_leaves hrecord ((Leaves.of_mem (State.recordSkew_mem ..) (State.recordSkew_standing ..)).trans hleaves))⟩
  rw [poisonOf_of_standing hleaves.standing, State.markSkew_poisonOf hacc.unmarked]

end

end

end Sys2Proof

namespace Sys2Proof

open Machine

/-! ## Execute descriptors that accumulate (R192 to R201) -/

section
variable {s u v : State} {t : Nat} {r : Fin 10} {b : Fin 18} {d : ExecDesc} {m : AccMode}

/-- The clauses of the statement about accumulators. -/
theorem Accumulated.clauses {limit : Nat} (h : Accumulated s r b d v m limit) (hacc : (u.block r b).acc = (v.block r b).acc) :
    (∃ sa sb : Exact, OuterScale s r sa (acwFmtA d.acw) d.a.slot ∧ OuterScale s r sb (acwFmtB d.acw) d.b.slot ∧
      ∀ l ∈ lanesOf d, (u.block r b).accAt l.1 (acwSet d.acw) = (accumulateLane m d (sa.mul sb) limit l.2.1 l.2.2 (startAcc s r b d l.1)).1
      ∧ (m = .integer → (u.block r b).accAt l.1 (acwSet d.acw) = (List.zip l.2.1.codes l.2.2.codes).foldl (fun (x : BitVec 32) p =>
          BitVec.ofInt 32 (max (-(2 ^ 31)) (min (2 ^ 31 - 1) (x.toInt + signed (intWidth (acwFmtA d.acw)) p.1 * signed (intWidth (acwFmtB d.acw)) p.2)))) (startAcc s r b d l.1)))
    ∧ (∀ lane, (∀ l ∈ lanesOf d, l.1 ≠ lane) → (u.block r b).accAt lane (acwSet d.acw) = startAcc s r b d lane)
    ∧ (∀ lane k, k < 4 → k ≠ acwSet d.acw → (u.block r b).accAt lane k = (s.block r b).accAt lane k) := by
  have hat : ∀ lane k, (u.block r b).accAt lane k = (v.block r b).accAt lane k := fun lane k => by rw [Block.accAt, hacc, Block.accAt]
  obtain ⟨sa, sb, ha, hb, hlanes⟩ := h.lanes
  refine ⟨⟨sa, sb, ha, hb, fun l hl => ⟨(hat ..).trans (hlanes l hl), ?_⟩⟩, fun lane hlane => (hat ..).trans (h.outside lane hlane),
    fun lane k hk hne => (hat ..).trans (h.otherSets lane k hk hne)⟩
  rintro rfl
  rw [hat, hlanes l hl, accumulateLane_integer]

variable (hstatus : s.permits (hClass d.header) (statusPlace r d.header) 16 true = true) (hups : d.upsets = [])
  (hruns : exec (.executeDescriptor t r b d) s = .next ((executeStart s t r b d).runExecute r b m d)) (hmark : continuedPoison (s.block r b) d.acw = none)
  (hskew : execSkew d = none)
include hstatus hups hruns hmark hskew

omit hstatus in
/-- Past its checks, a descriptor that continues no mark and meets no skew accumulates its lanes and concludes. -/
theorem execute_concludes : ∃ sat, exec (.executeDescriptor t r b d) s
    = .next ((((executeStart s t r b d).setCleared r b d).accumulate r b m d (2 ^ 32)).1.concludeExecute r b m d sat (0, 0, false)) := by
  have hpoison : ∀ set, ((executeStart s t r b d).block r b).poisonOf set = (s.block r b).poisonOf set := poisonOf_of_standing executeStart_standing r b
  have hclean : (((executeStart s t r b d).setCleared r b d).block r b).poisonOf (acwSet d.acw) = none := by
    rw [State.setCleared_poisonOf, hpoison, continuedPoison_none hmark]
  exact ⟨_, hruns.trans (congrArg Host.Outcome.next (State.runExecute_accumulates hups hclean (by rw [continuedPoison_congr hpoison, hmark]) hskew))⟩

theorem execute_accumulates (hplain : acwRead d.acw = false ∨ d.out = none) : Ends (.executeDescriptor t r b d) s fun u =>
    (∃ v, Accumulated s r b d v m (2 ^ 32) ∧ (u.block r b).acc = (v.block r b).acc) ∧ ExecEnds s u r b d.header 0 0 (lanesOf d).length false := by
  obtain ⟨sat, hexec⟩ := execute_concludes hups hruns hmark hskew
  have hacc := accumulated (t := t) (continuedPoison_none hmark) m (2 ^ 32)
  obtain ⟨hends, hkeeps⟩ := execEnds_plain (m := m) hstatus hacc.works hplain sat (0, 0, false)
  exact ⟨_, hexec, ⟨_, hacc, acc_of_standing hkeeps r b⟩, hends⟩

variable {o : ReadOut} {tb : RescaleTable} (hread : acwRead d.acw = true) (hout : d.out = some o) (htable : s.readTable m o = some tb)
  (hhold : hReleaseHold d.header = false)
include hread hout htable hhold

/-- A read-out leaves its set at its place, requantised by its table. -/
theorem execute_reads (hgood : ∀ p ∈ readPlaces d o tb, s.badPlace p.1 p.2 = false)
    (hfar : Apart o.dst (elemBytes tb.outFormat d.a.rows.length d.b.rows.length) (statusPlace r d.header) 48)
    (hstream : ∀ p ∈ (readPlaces d o tb).drop 1, Apart o.dst (elemBytes tb.outFormat d.a.rows.length d.b.rows.length) p.1 p.2) :
    Ends (.executeDescriptor t r b d) s fun u =>
      (∃ scale : Nat, (∀ x, o.slot.bind (s.slotOf r) = some x → scale = x.scale)
        ∧ u.load o.dst (elemBytes tb.outFormat d.a.rows.length d.b.rows.length) = packElems tb.outFormat
          (encodeRows tb.outFormat scale 0 (fun _ => zeroPoints (some tb) o.channels d.b.rows.length) (rescaled (some tb) o.channels ((u.block r b).readRows m d))).codes)
      ∧ StatusIs u r d.header 0 0 (lanesOf d).length false false ∧ u.launch = s.launch
      ∧ ∀ (k : Fin 10) (j : Fin 18), (k ≠ r ∨ j ≠ b) → (u.block k j).acc = (s.block k j).acc := by
  obtain ⟨sat, hexec⟩ := execute_concludes hups hruns hmark hskew
  have hacc := accumulated (t := t) (continuedPoison_none hmark) m (2 ^ 32)
  set v := (((executeStart s t r b d).setCleared r b d).accumulate r b m d (2 ^ 32)).1 with hv
  have hspace : ∀ p ∈ readPlaces d o tb, p.1.space < 3 := fun p hp => space_lt_of_inside (inside_of_goodPlace (hgood p hp))
  have hroom := hspace (o.dst, _) (List.mem_cons_self ..)
  obtain ⟨scale, hscale, hload, hkeeps⟩ := State.readOut_writes (s := v) (r := r) (b := b) hread hout ((hacc.works.readTable m o).trans htable) hhold hspace hfar hstream
  obtain ⟨hrecord, hleaves⟩ := State.concludeExecute_leaves (s := v) (r := r) (b := b) (m := m) (d := d) (ends := (0, 0, false)) (sat := sat) rfl
    (by rw [permits_of_standing hkeeps, hacc.works.permits]; exact hstatus)
  have hstanding := hleaves.standing.trans hkeeps
  refine ⟨_, hexec, ⟨scale, fun x hx => hscale x (by rw [hacc.works.slotOf]; exact hx), ?_⟩, hrecord, (launch_of_standing hstanding).trans hacc.works.launch,
    fun k j hkj => (acc_of_standing hstanding k j).trans (hacc.works.acc k j hkj)⟩
  rw [hleaves.writes _ _ hroom fun p hp => List.mem_singleton.mp hp ▸ hfar.mono (Nat.le_refl _) (show 16 ≤ 48 by decide), hload, Block.readRows_congr (acc_of_standing hstanding r b)]

end

/-- Settles O48: a descriptor that passes its checks (`execute_plain`, `execute_runs`) accumulates each of its lanes once (`lanesOf_nodup`, `foldl_accumulateStep`), and its end reads out, and writes its status record, without another change to accumulators (`State.concludeExecute_leaves`). -/
theorem executeDescriptorsAccumulateTheirLanes : Obligations.ExecuteDescriptorsAccumulateTheirLanes := by
  intro s t r b d h set st untouched others start outer hstart
  have hothers : ∀ {u : State} {status detail count : Nat} {invalid : Bool}, ExecEnds s u r b h status detail count invalid →
      StatusIs u r h status detail count invalid false ∧ others u := fun hends => hends.clauses
  refine ⟨fun hinvalid hstatus _ => ?_, fun hok => ⟨fun hmode => ?_, fun m hmode hups hplain => ?_, fun m o tb hmode hups hread hout hmark hskew => ?_⟩⟩
  · obtain ⟨u, hu, hends⟩ := execute_invalid hstart hinvalid hstatus
    exact ⟨u, hu, (hothers hends.ends).1, (hothers hends.ends).2, hends.own⟩
  · obtain ⟨u, hu, hends⟩ := execute_body hstart hok hmode
    exact ⟨u, hu, (hothers hends.ends).1, (hothers hends.ends).2, hends.own⟩
  · have hruns := execute_plain hstart hok hmode hplain
    refine ⟨fun hmark hskew => ?_, fun p hclear hpoison => ?_, fun k j hclean hskew => ?_⟩
    · obtain ⟨u, hu, ⟨v, hacc, hkeeps⟩, hends⟩ := execute_accumulates hok.status hups hruns hmark hskew hplain
      obtain ⟨hlanes, houtside, hsets⟩ := hacc.clauses hkeeps
      exact ⟨u, hu, hlanes, houtside, hsets, hothers hends⟩
    · obtain ⟨u, hu, hown, hends⟩ := execute_poisoned hok.status hups hruns hplain hclear hpoison
      exact ⟨u, hu, hown, hothers hends⟩
    · have hunmarked : (if acwClear d.acw = true then none else (s.block r b).poisonOf (acwSet d.acw)) = none := by
        split
        · rfl
        · exact hclean.resolve_left ‹_›
      obtain ⟨u, hu, hmark, hends⟩ := execute_skewed hok.status hups hruns hplain hunmarked hskew
      exact ⟨u, hu, hmark, hothers hends⟩
  · refine ⟨fun htable => ?_, fun htable hhold => ⟨fun hbad => ?_, fun hplaces hfar hstream => ?_⟩⟩
    · obtain ⟨u, hu, hends⟩ := execute_table hstart hok hmode hread hout htable
      exact ⟨u, hu, (hothers hends.ends).1, (hothers hends.ends).2, hends.own⟩
    · obtain ⟨u, hu, hends⟩ := execute_address hstart hok hmode hread hout htable hhold hbad
      exact ⟨u, hu, (hothers hends.ends).1, (hothers hends.ends).2, hends.own⟩
    · have hruns := execute_runs hstart hok hmode hread hout htable hhold (fun p hp => (hplaces p hp).1) fun p hp => (hplaces p hp).2
      exact execute_reads hok.status hups hruns hmark hskew hread hout htable hhold (fun p hp => (hplaces p (List.mem_append_left _ hp)).1) hfar hstream

end Sys2Proof

namespace Sys2Proof.Machine

/-! ## An optimizer step whose working copy has no format -/

/-- The state after the reset, under a partition map whose one range is the memory of region 0, for class L. -/
def learning : State :=
  State.reset.modCrust fun c => { c with
    active := some { consumerSet with values := [], map := { consumerSet.map with ranges := [{ wholeRange 1 0 0xFF rmemSize with cls := 3 }] } } }

/-- An optimizer step of class L for a slot that the image does not declare, with a working copy of format 0, which is none (R170). -/
def copyDesc : OptDesc :=
  { header := BitVec.ofNat 128 (0xFFFFFFFF * 2 ^ 64 + 0x13 * 2 ^ 24 + 5 * 2 ^ 16 + 3 * 2 ^ 14 + 2 ^ 8), queue := 3, slot := 0, grads := ⟨0, 0, 0, 0⟩, count := 0
    beta1 := 0, beta1c := 0, beta2 := 0, beta2c := 0, lr := 0, wd := 0, eps := 0, k1 := 0, k2 := 0, mAddr := 0, mScaleAddr := 0, vAddr := 0, wAddr := 0
    copy := some (0, none, ⟨0, 0, 0, 0⟩, ⟨0, 0, 0, 0⟩) }

theorem learning_zooStarts : ZooStarts learning 0 copyDesc.header :=
  { logic := by decide +kernel, may := by decide +kernel, commits := rfl, queue := by decide +kernel }

theorem learning_headerOk :
    HeaderOk learning 0 copyDesc.header 0x13 (hClass copyDesc.header == copyDesc.queue) (get? learning.regions[(0 : Fin 10)].prevSeq (zooQueue 0x13 copyDesc.queue 0)) :=
  { fields := by decide +kernel, cls := by decide +kernel, sequence := by decide +kernel, status := by decide +kernel, room := by decide +kernel }

/-- The format of the working copy is looked at before the slot: the step ends with HEADER_INVALID, detail 0x0300 (R172). -/
theorem learning_refuses : StatusIs ((learning.advance 0).submit (.optStep 0 0 copyDesc)) 0 copyDesc.header 0x0200 0x0300 0 false false := by
  unfold StatusIs
  decide +kernel

end Sys2Proof.Machine

namespace Sys2Proof

open Machine

/-- Refutes O53 at its clause on a slot that the image does not declare: the clause does not ask what format the working copy has, and a step whose working copy has none is refused for its body before its slot is looked at. -/
theorem not_scalesAndWeightsAdvance : ¬ Obligations.ScalesAndWeightsAdvance := by
  intro h
  obtain ⟨-, -, hsteps⟩ := h learning 0 0
  obtain ⟨-, hundeclared, -⟩ := hsteps copyDesc learning_zooStarts learning_headerOk (by decide +kernel) (by decide +kernel)
  obtain ⟨u, hexec, hstatus, -⟩ := hundeclared (by decide +kernel) (by decide +kernel)
  obtain rfl := Host.Outcome.next.inj hexec
  have hrecords := learning_refuses.symm.trans hstatus
  exact absurd hrecords (by decide +kernel)

end Sys2Proof

/-!
The family of spec/09_detection_post_processing.md: DECODE, NMS and the carry timeout (O55).
-/

namespace Sys2Proof.Machine

/-! ## The log that a fault leaves (R38, R41, R136) -/

/-- The objects that decide what a fault writes to the log: the threshold and the coalescing window (R41), and those of the EMCY messages that may displace each other (R111, R136). -/
def newsKeys : List Key := [ob 0x5810 7, ob 0x5810 8, ob 0x1014 0, ob 0x1015 0, ob 0x2300 3]

/-- `u` agrees with `s` in all that decides what a fault writes to the log. -/
structure SameNews (s u : State) : Prop where
  log : u.log = s.log
  now : u.now = s.now
  node : u.node = s.node
  crust : u.crust = s.crust
  active : ∀ k ∈ newsKeys, get? u.dict.active k = get? s.dict.active k

namespace SameNews

theorem refl (s : State) : SameNews s s := ⟨rfl, rfl, rfl, rfl, fun _ _ => rfl⟩

theorem symm {s u : State} (h : SameNews s u) : SameNews u s := ⟨h.log.symm, h.now.symm, h.node.symm, h.crust.symm, fun k hk => (h.active k hk).symm⟩

theorem trans {s u w : State} (hsu : SameNews s u) (huw : SameNews u w) : SameNews s w :=
  ⟨huw.log.trans hsu.log, huw.now.trans hsu.now, huw.node.trans hsu.node, huw.crust.trans hsu.crust, fun k hk => (huw.active k hk).trans (hsu.active k hk)⟩

/-! What goes on outside of the log, the node and these objects. -/

theorem emit (s : State) (o : Output) : SameNews s (s.emit o) := ⟨rfl, rfl, rfl, rfl, fun _ _ => rfl⟩

theorem bump_other (s : State) {key : Key} (n : Nat) (hkey : key ∉ newsKeys) : SameNews s (s.bump key n) :=
  ⟨rfl, rfl, rfl, rfl, fun _ hk => s.get?_setObj_other _ fun h => hkey (h ▸ hk)⟩

theorem ite {s u w : State} {c : Prop} [Decidable c] (hu : SameNews s u) (hw : SameNews s w) : SameNews s (if c then u else w) := by
  split
  · exact hu
  · exact hw

theorem nodeFrame (s : State) (o : Output) : SameNews s (s.nodeFrame o) := by
  have hcount : ∀ c : Fin 4, ob (0x2380 + c.val) 4 ∉ newsKeys := by decide
  exact ite ((emit s o).trans (bump_other _ 1 (hcount _))) (refl s)

theorem foldl_sendWire (s : State) (f : BSession → Output) (l : List BSession) : SameNews s (l.foldl (fun acc b => acc.sendWire (f b)) s) := by
  induction l generalizing s with
  | nil => exact refl s
  | cons b l ih => exact (ite (emit s _) (refl s)).trans (ih _)

theorem announceBasaris (s : State) (r : FaultRec) : SameNews s (s.announceBasaris r) :=
  (foldl_sendWire s _ s.basaris.sessions).trans ⟨rfl, rfl, rfl, rfl, fun _ _ => rfl⟩

theorem announcePcie (s : State) (r : FaultRec) : SameNews s (s.announcePcie r) := by
  have hmbx : ∀ f : Mailbox → Mailbox, SameNews s (s.modMbx f) := fun _ => ⟨rfl, rfl, rfl, rfl, fun _ _ => rfl⟩
  exact ite (refl s) (ite (bump_other s 1 (by decide)) (ite ((hmbx _).trans (emit _ _)) (hmbx _)))

/-! The same change of two such states. -/

section
variable {s u : State} (h : SameNews s u)
include h

theorem nat {key : Key} (hkey : key ∈ newsKeys) : u.nat key = s.nat key := by
  rw [State.nat, State.nat, State.int, State.int, State.obj_congr h.crust (h.active key hkey)]

theorem modNode (f : CanNode → CanNode) : SameNews (s.modNode f) (u.modNode f) := ⟨h.log, h.now, congrArg f h.node, h.crust, h.active⟩

theorem modLog (f : FaultLog → FaultLog) : SameNews (s.modLog f) (u.modLog f) := ⟨congrArg f h.log, h.now, h.node, h.crust, h.active⟩

theorem countChip (k : Fin 16) (n : Nat) : SameNews (s.countChip k n) (u.countChip k n) := ⟨h.log, h.now, h.node, h.crust, h.active⟩

theorem bump {key : Key} (hkey : key ∈ newsKeys) (n : Nat) : SameNews (s.bump key n) (u.bump key n) := by
  refine ⟨h.log, h.now, h.node, h.crust, fun k hk => ?_⟩
  unfold State.bump
  rw [h.nat hkey]
  by_cases heq : k = key
  · rw [heq, State.get?_setObj_self, State.get?_setObj_self]
  · rw [State.get?_setObj_other _ _ heq, State.get?_setObj_other _ _ heq, h.active k hk]

theorem ite_both {c : Prop} [Decidable c] {s' u' : State} (h' : SameNews s' u') : SameNews (if c then s else s') (if c then u else u') := by
  split
  · exact h
  · exact h'

theorem sendEmcy (m : Emcy) : SameNews (s.sendEmcy m) (u.sendEmcy m) := by
  unfold State.sendEmcy
  rw [h.nat (by decide), h.nat (by decide), h.now]
  exact ((nodeFrame s _).symm.trans (h.trans (nodeFrame u _))).modNode _

theorem queueEmcy (m : Emcy) : SameNews (s.queueEmcy m) (u.queueEmcy m) := by
  have hinhibited : u.inhibited = s.inhibited := by rw [State.inhibited, State.inhibited, h.node, h.now]
  unfold State.queueEmcy
  rw [h.nat (by decide), hinhibited, h.node]
  exact h.ite_both ((h.sendEmcy m).ite_both ((h.modNode _).ite_both ((h.modNode _).bump (by decide) 1)))

theorem announce (r : FaultRec) : SameNews (s.announce r) (u.announce r) := by
  have hother : ∀ x : State, SameNews x (((x.announceBasaris r).announcePcie r).emit (.coreEmergency r)) :=
    fun x => ((announceBasaris x r).trans (announcePcie _ r)).trans (emit _ _)
  unfold State.announce State.errorRegister
  rw [h.nat (by decide), h.log]
  exact h.ite_both ((hother _).symm.trans ((h.queueEmcy _).trans (hother _)))

theorem record (r : FaultRec) : SameNews (s.record r) (u.record r) := by
  unfold State.record
  rw [h.nat (by decide), h.log]
  split
  · exact h.modLog _
  · exact ((h.modLog _).announce r).countChip _ _

theorem recordFault (code : Nat) (loc : Loc) (detail part : Nat) : SameNews (s.recordFault code loc detail part) (u.recordFault code loc detail part) := by
  unfold State.recordFault
  rw [h.now, h.log]
  exact h.record _

theorem tellDisplaced (before : Nat) : SameNews (s.tellDisplaced before) (u.tellDisplaced before) := by
  unfold State.tellDisplaced
  simp only [h.nat (show ob 0x2300 3 ∈ newsKeys by decide), h.node, h.now]
  exact ((h.modNode _).recordFault _ _ _ _).ite_both h

/-- A fault writes the same to the log. -/
theorem fault (code : Nat) (loc : Loc) (detail part : Nat) : SameNews (s.fault code loc detail part) (u.fault code loc detail part) := by
  unfold State.fault
  rw [h.nat (by decide)]
  exact (h.recordFault code loc detail part).tellDisplaced _

end

end SameNews

end Sys2Proof.Machine

namespace Sys2Proof.Machine

/-! ## What the ends of a descriptor leave of the detection state -/

section
variable (s : State)

@[simp] theorem State.fault_detect (code : Nat) (loc : Loc) (detail part : Nat) : (s.fault code loc detail part).detect = s.detect := by
  rw [(fault_announces s code loc detail part).1]

@[simp] theorem State.bump_detect (key : Key) (n : Nat) : (s.bump key n).detect = s.detect := rfl

@[simp] theorem State.store_detect (p : MemRef) (bs : Bytes) : (s.store p bs).detect = s.detect := rfl

@[simp] theorem State.countRegion_detect (r : Fin 10) (k : Fin 16) (n : Nat) : (s.countRegion r k n).detect = s.detect := rfl

@[simp] theorem State.countTokens_detect (r : Fin 10) (k : Fin 16) : (s.countTokens r k).detect = s.detect := rfl

theorem State.axesOff_detect (mask : BitVec 16) : (s.axesOff mask).detect = s.detect :=
  foldl_keeps State.detect (fun a k => by split <;> rfl) _ s

@[simp] theorem State.react_detect (cause code : Nat) (axes : BitVec 16) : (s.react cause code axes).detect = s.detect := by
  unfold State.react State.reactAt
  dsimp only
  split
  · rfl
  · rw [State.fault_detect, State.bump_detect]
    split
    · exact State.outputOff_keeps State.detect (fun _ _ => rfl) _
    · exact State.axesOff_detect _ axes

@[simp] theorem State.guardRefused_detect (cls : Nat) (p : MemRef) (region : Nat) : (s.guardRefused cls p region).detect = s.detect := by
  unfold State.guardRefused
  dsimp only
  split <;> simp

@[simp] theorem State.complete_detect (r : Fin 10) (b : Nat) (h : BitVec 128) (status detail count : Nat) (invalid late : Bool) :
    (s.complete r b h status detail count invalid late).detect = s.detect := by
  unfold State.complete
  dsimp only
  split
  · split <;> simp only [State.emit_detect, State.store_detect]
  · rfl

@[simp] theorem State.endGuard_detect (r : Fin 10) (b : Nat) (h : BitVec 128) (p : MemRef) : (s.endGuard r b h p).detect = s.detect := by
  simp [State.endGuard]

@[simp] theorem State.refuse_detect (r : Fin 10) (b : Nat) (h : BitVec 128) (status detail : Nat) (counted : Bool) :
    (s.refuse r b h status detail counted).detect = s.detect := by
  unfold State.refuse
  cases counted <;> simp

@[simp] theorem State.eccUncorrectable_detect (k : BadLane) (seq cls : Nat) : (s.eccUncorrectable k seq cls).detect = s.detect := by
  have hqueue : ∀ (x : State) (loc : BitVec 32) (cause : Nat), (x.queueMapOut loc cause).detect = x.detect := by
    intro x loc cause
    unfold State.queueMapOut
    split
    · split <;> rfl
    · rfl
  unfold State.eccUncorrectable
  dsimp only
  split
  · simp
  · rw [hqueue, State.fault_detect, State.bump_detect]

end

/-! ## The checks of a descriptor's places (R154, R167, R359) -/

section
variable {s : State} {r : Fin 10} {h : BitVec 128} {ps : List (MemRef × Nat × Bool)}

theorem State.checkPlaces_address (hbad : ∃ p ∈ ps, s.badPlace p.1 p.2.1 = true) : s.checkPlaces r h ps = some (s.complete r 18 h 0x0202 0 0) :=
  if_pos (List.any_eq_true.mpr hbad)

variable (hgood : ∀ p ∈ ps, s.badPlace p.1 p.2.1 = false)
include hgood

theorem State.checkPlaces_good : s.checkPlaces r h ps = (ps.find? fun p => !s.permits (hClass h) p.1 p.2.1 p.2.2).map fun p => s.endGuard r 18 h p.1 :=
  if_neg fun hbad => by
    obtain ⟨p, hp, hbad⟩ := List.any_eq_true.mp hbad
    exact absurd hbad (by simp [hgood p hp])

theorem State.checkPlaces_guard (hnot : ∃ p ∈ ps, s.permits (hClass h) p.1 p.2.1 p.2.2 = false) : ∃ q, s.checkPlaces r h ps = some (s.endGuard r 18 h q) := by
  have hsome : (ps.find? fun p => !s.permits (hClass h) p.1 p.2.1 p.2.2).isSome = true := by simpa [List.find?_isSome] using hnot
  obtain ⟨p, hp⟩ := Option.isSome_iff_exists.mp hsome
  exact ⟨p.1, by rw [State.checkPlaces_good hgood, hp]; rfl⟩

theorem State.checkPlaces_none (hmay : ∀ p ∈ ps, s.permits (hClass h) p.1 p.2.1 p.2.2 = true) : s.checkPlaces r h ps = none := by
  rw [State.checkPlaces_good hgood, List.find?_eq_none.mpr fun p hp => by simp [hmay p hp]]
  rfl

end

end Sys2Proof.Machine

namespace Sys2Proof

open Machine

/-! ## How a detection descriptor ends -/

/-- A descriptor has ended with a status, and left the detection state, the launch and all memory but its status record. -/
structure DetectEnds (s u : State) (r : Fin 10) (h : BitVec 128) (status detail count : Nat) : Prop where
  ends : QuantEnds s u r h status detail count false 16
  detect : u.detect = s.detect

namespace DetectEnds

variable {s u : State} {r : Fin 10} {h : BitVec 128} {status detail count : Nat}

theorem countTokens (hends : DetectEnds s u r h status detail count) (k : Fin 16) : DetectEnds s (u.countTokens r k) r h status detail count :=
  ⟨hends.ends.countTokens k, hends.detect⟩

/-- The clauses of the statement. -/
theorem clauses (hends : DetectEnds s u r h status detail count) : StatusIs u r h status detail count false false
    ∧ (∀ (q : MemRef) (k : Nat), q.inside k = true → Apart q k (statusPlace r h) 16 → u.load q k = s.load q k) ∧ u.detect = s.detect ∧ u.launch = s.launch :=
  ⟨hends.ends.status, hends.ends.leaves.kept, hends.detect, hends.ends.leaves.launch⟩

theorem brief (hends : DetectEnds s u r h status detail count) : StatusIs u r h status detail count false false ∧ u.detect = s.detect ∧ u.launch = s.launch :=
  ⟨hends.ends.status, hends.detect, hends.ends.leaves.launch⟩

end DetectEnds

section
variable {s x : State} {r : Fin 10} {h : BitVec 128} (hmem : x.mem = s.mem) (hstanding : x.standing = s.standing) (hdetect : x.detect = s.detect)
  (hstatus : s.permits (hClass h) (statusPlace r h) 16 true = true)
include hmem hstanding hdetect hstatus

theorem detectEnds_complete (status detail count : Nat) : DetectEnds s (x.complete r 18 h status detail count) r h status detail count :=
  ⟨quantEnds_complete hmem hstanding hstatus .., (x.complete_detect ..).trans hdetect⟩

theorem detectEnds_refuse (status detail : Nat) (counted : Bool) : DetectEnds s (x.refuse r 18 h status detail counted) r h status detail 0 :=
  ⟨quantEnds_refuse hmem hstanding hstatus .., (x.refuse_detect ..).trans hdetect⟩

theorem detectEnds_guard (p : MemRef) : DetectEnds s (x.endGuard r 18 h p) r h 0x0205 0 0 :=
  ⟨quantEnds_guard hmem hstanding hstatus p, (x.endGuard_detect ..).trans hdetect⟩

/-- One that reads lost data ends with ECC_UNCORRECTABLE (R158). -/
theorem detectEnds_lost (k : BadLane) : DetectEnds s ((x.eccUncorrectable k (hSequence h) (hClass h)).complete r 18 h 0x0203 0 0) r h 0x0203 0 0 :=
  detectEnds_complete ((State.eccUncorrectable_mem ..).trans hmem) ((State.eccUncorrectable_standing ..).trans hstanding) ((State.eccUncorrectable_detect ..).trans hdetect)
    hstatus _ _ _

end

/-! ## How it starts -/

section
variable {s : State} {t : Nat} {r : Fin 10} {d : ZooDesc}

/-- The state in which a detection descriptor starts. -/
def detectStart (s : State) (t : Nat) (r : Fin 10) (d : ZooDesc) : State := zooNoted (s.advance t) r (zooQueue 0x12 d.queue 0) d.header

theorem detectStart_standing : (detectStart s t r d).standing = s.standing := zooNoted_standing ..

theorem detectStart_mem : (detectStart s t r d).mem = s.mem := rfl

theorem detectStart_detect : (detectStart s t r d).detect = s.detect := rfl

theorem detectStart_permits (cls : Nat) (p : MemRef) (n : Nat) (write : Bool) : (detectStart s t r d).permits cls p n write = s.permits cls p n write :=
  permits_of_standing detectStart_standing ..

/-- A detection descriptor, and whether its body holds to its map and ranges. -/
inductive IsDetect (t : Nat) (r : Fin 10) (d : ZooDesc) : Instr → Bool → Prop where
  | decode (block : Fin 18) : IsDetect t r d (.decode t r block d) (decodeOk d)
  | nms (closeCount : Nat) (truncated : Bool) : IsDetect t r d (.nms t r d closeCount truncated) (nmsOk d)

theorem isDetect_of {c : Instr} {ok : Bool}
    (h : (∃ block, c = .decode t r block d ∧ ok = decodeOk d) ∨ (∃ closeCount truncated, c = .nms t r d closeCount truncated ∧ ok = nmsOk d)) : IsDetect t r d c ok := by
  rcases h with ⟨block, rfl, rfl⟩ | ⟨closeCount, truncated, rfl, rfl⟩
  · exact .decode block
  · exact .nms closeCount truncated

variable {c : Instr} {ok : Bool} (hc : IsDetect t r d c ok)
include hc

theorem IsDetect.exec : exec c s = .next ((s.advance t).submit c) := by cases hc <;> rfl

theorem IsDetect.route (x : State) : x.routeOf c = some (.ofZoo 0x12 r d.queue) := by cases hc <;> rfl

theorem IsDetect.header : descHeader c = some d.header := by cases hc <;> rfl

/-- A descriptor that starts with a wrong body is refused for it (R234). -/
theorem IsDetect.startCmd_refuses (hno : ok = false) (x : State) : x.startCmd c = x.refuseDetect r d := by
  cases hc with
  | decode block =>
    show (if decodeOk d then _ else _) = _
    rw [hno]
    rfl
  | nms closeCount truncated =>
    show (if nmsOk d then _ else _) = _
    rw [hno]
    rfl

theorem detect_invalid (hstart : ZooStarts s r d.header) (hinvalid : headerInvalid d.header 0x12 = true)
    (hstatus : s.permits (hClass d.header) (statusPlace r d.header) 16 true = true) : Ends c s fun u => DetectEnds s u r d.header 0x0200 0 0 := by
  obtain ⟨x, hcheck, hmem, hstanding, hdetect⟩ : ∃ x : State,
      (s.advance t).checkZooHeader r d.header 0x12 d.queue 0 = (some 0x0200, x) ∧ x.mem = s.mem ∧ x.standing = s.standing ∧ x.detect = s.detect := by
    unfold State.checkZooHeader headerStatus
    simp only [hinvalid, if_true]
    refine ⟨_, rfl, ?_⟩
    split
    · exact ⟨rfl, (s.advance t).modRegion_standing r rfl, rfl⟩
    · exact ⟨rfl, rfl, rfl⟩
  have hsubmit : (s.advance t).submit c = x.refuse r 18 d.header 0x0200 0 true := by
    have hlogic : (s.advance t).logicOn r = true := hstart.logic
    unfold State.submit
    simp only [hc.route, hc.header, Route.ofZoo, hlogic, hcheck, Bool.not_true, Bool.false_eq_true, if_false]
    rfl
  exact ⟨_, hc.exec, hsubmit ▸ detectEnds_refuse hmem hstanding hdetect hstatus _ _ _⟩

variable (hstart : ZooStarts s r d.header) (hok : HeaderOk s r d.header 0x12 (hClass d.header == d.queue) (get? s.regions[r].prevSeq (zooQueue 0x12 d.queue 0)))
include hstart hok

theorem IsDetect.starts : Machine.exec c s = .next ((detectStart s t r d).startCmd c) :=
  hc.exec.trans (congrArg Host.Outcome.next (State.submit_zoo (s := s.advance t) hc.route hc.header ⟨hstart.logic, hstart.may, hstart.commits, hstart.queue⟩
    ⟨hok.fields, hok.cls, hok.sequence, hok.status, hok.room⟩))

/-- The record is written before the fault is recorded, and does not bear on what the fault writes to the log. -/
theorem detect_refused (hno : ok = false) : Ends c s fun u => DetectEnds s u r d.header 0x0200 0x0500 0
    ∧ u.log = ((s.advance t).fault 0x0501 (streamLoc r d) (at_ 32 32 (hSequence d.header) ||| at_ 8 0 (hOperation d.header)) (hClass d.header)).log := by
  set x := (detectStart s t r d).complete r 18 d.header 0x0200 0x0500 0 with hx
  obtain ⟨⟨hrecord, hleaves⟩, hdetect⟩ := detectEnds_complete (x := detectStart s t r d) (s := s) (r := r) detectStart_mem detectStart_standing detectStart_detect hok.status
    0x0200 0x0500 0
  have hnews : SameNews (s.advance t) x := by
    rw [hx]
    unfold State.complete
    dsimp only
    split
    · split <;> exact ⟨rfl, rfl, rfl, rfl, fun _ _ => rfl⟩
    · exact ⟨rfl, rfl, rfl, rfl, fun _ _ => rfl⟩
  refine ⟨_, hc.starts hstart hok, ?_⟩
  rw [hc.startCmd_refuses hno]
  exact ⟨⟨⟨statusIs_of_mem hrecord (State.fault_mem ..), hleaves.trans (.of_mem (State.fault_mem ..) (State.fault_standing ..))⟩, (x.fault_detect ..).trans hdetect⟩,
    (hnews.fault _ _ _ _).log⟩

end

end Sys2Proof

namespace Sys2Proof.Machine

/-! ## DECODE (R236 to R238) -/

theorem listBytes_length (kept : List Verdict) (cut : Nat) : (listBytes kept cut).length = 8 + 24 * kept.length := by
  simp [listBytes, leBytes_length, List.length_flatMap, Nat.mul_comm]

/-- The place of the candidate list. -/
def listPlace (r : Fin 10) (d : ZooDesc) : MemRef := rmemAt r.val (zf d 159 128)

/-- The room of the candidate list. -/
def listRoom (d : ZooDesc) : Nat := 8 + 24 * zf d 255 240

/-- What a DECODE reads: its head tensor, and its anchors unless it is anchor-free. -/
def decodeReads (r : Fin 10) (b : Fin 18) (d : ZooDesc) : List (MemRef × Nat) :=
  (headPlace r b d, headBytes d) :: if zf d 501 501 = 1 then [] else [(rmemAt r.val (zf d 191 160), 8 * (zf d 488 485 + 1))]

/-- The places that a DECODE checks, with whether it writes there. -/
def decodeChecks (r : Fin 10) (b : Fin 18) (d : ZooDesc) : List (MemRef × Nat × Bool) :=
  (decodeReads r b d).map (fun p => (p.1, p.2, false)) ++ [(listPlace r d, listRoom d, true)]

/-- What a DECODE leaves in memory that has read its head and found candidates: the list of the best of them, the count of those discarded, and its status record. -/
def State.decodeOut (s : State) (r : Fin 10) (d : ZooDesc) (found : List Verdict) (discarded : Nat) : State :=
  let cap := zf d 255 240
  let listed := s.store (listPlace r d) (listBytes (found.take cap) (found.length - cap))
  (if discarded = 0 then listed else listed.bump (ob 0x3700 5) discarded).complete r 18 d.header 0 (b2n (decide (cap < found.length))) (min cap found.length)

section
variable {s : State} {r : Fin 10} {b : Fin 18} {d : ZooDesc}

theorem exists_decodeChecks {P : MemRef × Nat × Bool → Prop} :
    (∃ p ∈ decodeChecks r b d, P p) ↔ (∃ p ∈ decodeReads r b d, P (p.1, p.2, false)) ∨ P (listPlace r d, listRoom d, true) := by
  simp [decodeChecks, or_and_right, exists_or]

theorem forall_decodeChecks {P : MemRef × Nat × Bool → Prop} :
    (∀ p ∈ decodeChecks r b d, P p) ↔ (∀ p ∈ decodeReads r b d, P (p.1, p.2, false)) ∧ P (listPlace r d, listRoom d, true) := by
  simp only [decodeChecks, List.forall_mem_append, List.forall_mem_map, List.forall_mem_singleton]

theorem State.candidatesOf_congr {u : State} (h : u.mem = s.mem) (r : Fin 10) (b : Fin 18) (d : ZooDesc) : u.candidatesOf r b d = s.candidatesOf r b d := by
  simp only [State.candidatesOf, State.load_congr h]

theorem decodeReads_checked : (headPlace r b d, headBytes d, false) :: (if zf d 501 501 = 1 then [] else [(rmemAt r.val (zf d 191 160), 8 * (zf d 488 485 + 1), false)])
    = (decodeReads r b d).map fun p => (p.1, p.2, false) := by
  unfold decodeReads
  split <;> rfl

theorem State.runDecode_stops {u : State} (hstop : s.checkPlaces r d.header (decodeChecks r b d) = some u) : s.runDecode r b d = u := by
  simp only [State.runDecode, decodeReads_checked]
  simp only [decodeChecks, listPlace, listRoom] at hstop
  rw [hstop]

variable (hpass : s.checkPlaces r d.header (decodeChecks r b d) = none) (hups : d.upsets = [])
include hpass hups

theorem State.runDecode_lost {k : BadLane} (hmark : s.markRead (decodeReads r b d) = some k) :
    s.runDecode r b d = (s.eccUncorrectable k (hSequence d.header) (hClass d.header)).complete r 18 d.header 0x0203 0 0 := by
  simp only [State.runDecode, decodeReads_checked, List.map_map]
  simp only [decodeChecks, listPlace, listRoom] at hpass
  rw [hpass, hups, State.meetUpsets_nil]
  simp [Function.comp_def, hmark]
  rfl

theorem State.runDecode_writes (hmark : s.markRead (decodeReads r b d) = none) (hhold : hReleaseHold d.header = false) :
    s.runDecode r b d = s.decodeOut r d (verdictSort (s.candidatesOf r b d).1) (s.candidatesOf r b d).2 := by
  have hcut : ∀ l : List Verdict, l.length - min (zf d 255 240) l.length = l.length - zf d 255 240 := fun l => by omega
  simp only [State.runDecode, decodeReads_checked, List.map_map]
  simp only [decodeChecks, listPlace, listRoom] at hpass
  rw [hpass, hups, State.meetUpsets_nil]
  simp only [Function.comp_def, Prod.mk.eta, List.map_id', hmark, State.deliverOut, hhold, Bool.false_eq_true, if_false, List.length_take, hcut, Nat.sub_pos_iff_lt,
    State.decodeOut, listPlace]
  rfl

end

/-- What a DECODE leaves lies in its list's place and its status record. -/
theorem State.decodeOut_leaves (s : State) (r : Fin 10) (d : ZooDesc) (found : List Verdict) (discarded : Nat)
    (hstatus : s.permits (hClass d.header) (statusPlace r d.header) 16 true = true) (hapart : Apart (listPlace r d) (listRoom d) (statusPlace r d.header) 16) :
    let cap := zf d 255 240
    let u := s.decodeOut r d found discarded
    u.load (listPlace r d) (8 + 24 * (found.take cap).length) = listBytes (found.take cap) (found.length - cap)
      ∧ StatusIs u r d.header 0 (b2n (decide (cap < found.length))) (min cap found.length) false false
      ∧ Leaves [(statusPlace r d.header, 16), (listPlace r d, listRoom d)] s u ∧ u.detect = s.detect ∧ u.log = s.log := by
  intro cap u
  set bs := listBytes (found.take cap) (found.length - cap) with hbs
  have hbytes : bs.length = 8 + 24 * (found.take cap).length := listBytes_length ..
  have hroom : bs.length ≤ listRoom d := by
    have := List.length_take_le cap found
    rw [hbytes, listRoom]
    omega
  set x := if discarded = 0 then s.store (listPlace r d) bs else (s.store (listPlace r d) bs).bump (ob 0x3700 5) discarded with hx
  obtain ⟨hmem, hstanding, hdetect, hlog⟩ : x.mem = (s.store (listPlace r d) bs).mem ∧ x.standing = s.standing ∧ x.detect = s.detect ∧ x.log = s.log := by
    rw [hx]
    split <;> simp [State.bump_log]
  have hlisted : Leaves [(statusPlace r d.header, 16), (listPlace r d, listRoom d)] s x :=
    ⟨(WritesOnly.store (by simp) (.refl _ hroom) (by decide : 1 < 3)).trans (.of_mem hmem), hstanding⟩
  have hended : Leaves [(statusPlace r d.header, 16)] x u := x.complete_leaves ..
  refine ⟨?_, x.complete_statusIs _ _ _ _ _ _ _ _ (by rw [permits_of_standing hstanding]; exact hstatus),
    hlisted.trans (hended.mono fun p hp => ⟨p, List.mem_append_left _ hp, .refl _ (Nat.le_refl _)⟩),
    (x.complete_detect ..).trans hdetect, (x.complete_log ..).trans hlog⟩
  rw [← hbytes, hended.writes _ _ (by decide : 1 < 3) (List.forall_mem_singleton.mpr (hapart.mono hroom (Nat.le_refl _))), State.load_congr hmem, State.load_store_self]

end Sys2Proof.Machine

namespace Sys2Proof

open Machine

section
variable {s : State} {t : Nat} {r : Fin 10} {block : Fin 18} {d : ZooDesc}
  (hstart : ZooStarts s r d.header) (hok : HeaderOk s r d.header 0x12 (hClass d.header == d.queue) (get? s.regions[r].prevSeq (zooQueue 0x12 d.queue 0)))
  (hbody : decodeOk d = true)
include hstart hok hbody

theorem decode_starts : exec (.decode t r block d) s = .next (((detectStart s t r d).runDecode r block d).countTokens r 2) := by
  rw [(IsDetect.decode block).starts hstart hok]
  show Host.Outcome.next (if decodeOk d then _ else _) = _
  rw [hbody]
  rfl

theorem decode_address (hbad : ∃ p ∈ (listPlace r d, listRoom d) :: decodeReads r block d, s.badPlace p.1 p.2 = true) :
    Ends (.decode t r block d) s fun u => DetectEnds s u r d.header 0x0202 0 0 ∧ u.log = s.log := by
  have hstop := State.checkPlaces_address (s := detectStart s t r d) (r := r) (h := d.header) (exists_decodeChecks.mpr ((List.exists_mem_cons_iff ..).mp hbad).symm)
  refine ⟨_, decode_starts hstart hok hbody, ?_⟩
  rw [State.runDecode_stops hstop]
  exact ⟨(detectEnds_complete detectStart_mem detectStart_standing detectStart_detect hok.status _ _ _).countTokens 2, (State.countTokens_log ..).trans (State.complete_log ..)⟩

variable (hgood : ∀ p ∈ (listPlace r d, listRoom d) :: decodeReads r block d, s.badPlace p.1 p.2 = false)
include hgood

omit hstart hok hbody in
theorem decode_good : ∀ p ∈ decodeChecks r block d, (detectStart s t r d).badPlace p.1 p.2.1 = false :=
  forall_decodeChecks.mpr (List.forall_mem_cons.mp hgood).symm

theorem decode_guard (hnot : (∃ p ∈ decodeReads r block d, s.permits (hClass d.header) p.1 p.2 false = false)
    ∨ s.permits (hClass d.header) (listPlace r d) (listRoom d) true = false) : Ends (.decode t r block d) s fun u => DetectEnds s u r d.header 0x0205 0 0 := by
  simp only [← detectStart_permits (s := s) (t := t) (r := r) (d := d)] at hnot
  obtain ⟨p, hstop⟩ := State.checkPlaces_guard (r := r) (decode_good hgood) (exists_decodeChecks.mpr hnot)
  refine ⟨_, decode_starts hstart hok hbody, ?_⟩
  rw [State.runDecode_stops hstop]
  exact (detectEnds_guard detectStart_mem detectStart_standing detectStart_detect hok.status p).countTokens 2

variable (hreads : ∀ p ∈ decodeReads r block d, s.permits (hClass d.header) p.1 p.2 false = true)
  (hlist : s.permits (hClass d.header) (listPlace r d) (listRoom d) true = true) (hups : d.upsets = [])
include hreads hlist

omit hstart hok hbody in
theorem decode_passes : (detectStart s t r d).checkPlaces r d.header (decodeChecks r block d) = none := by
  refine State.checkPlaces_none (decode_good hgood) (forall_decodeChecks.mpr ?_)
  simp only [detectStart_permits]
  exact ⟨hreads, hlist⟩

include hups

theorem decode_lost {k : BadLane} (hmark : s.markRead (decodeReads r block d) = some k) :
    Ends (.decode t r block d) s fun u => DetectEnds s u r d.header 0x0203 0 0 := by
  refine ⟨_, decode_starts hstart hok hbody, ?_⟩
  rw [State.runDecode_lost (decode_passes hgood hreads hlist) hups hmark]
  exact (detectEnds_lost detectStart_mem detectStart_standing detectStart_detect hok.status k).countTokens 2

theorem decode_lists (hmark : s.markRead (decodeReads r block d) = none) (hhold : hReleaseHold d.header = false)
    (hapart : Apart (listPlace r d) (listRoom d) (statusPlace r d.header) 16) :
    let cap := zf d 255 240
    let found := verdictSort (s.candidatesOf r block d).1
    Ends (.decode t r block d) s fun u => u.load (listPlace r d) (8 + 24 * (found.take cap).length) = listBytes (found.take cap) (found.length - cap)
      ∧ StatusIs u r d.header 0 (b2n (decide (cap < found.length))) (min cap found.length) false false
      ∧ Leaves [(statusPlace r d.header, 16), (listPlace r d, listRoom d)] s u ∧ u.detect = s.detect ∧ u.log = s.log := by
  intro cap found
  refine ⟨_, decode_starts hstart hok hbody, ?_⟩
  have hfound : (detectStart s t r d).candidatesOf r block d = s.candidatesOf r block d := State.candidatesOf_congr detectStart_mem ..
  rw [State.runDecode_writes (decode_passes hgood hreads hlist) hups hmark hhold, hfound]
  obtain ⟨hload, hrecord, hleaves, hdetect, hlog⟩ := (detectStart s t r d).decodeOut_leaves r d found (s.candidatesOf r block d).2
    (by rw [detectStart_permits]; exact hok.status) hapart
  exact ⟨(State.load_congr (State.countTokens_mem ..) ..).trans hload, statusIs_of_mem hrecord (State.countTokens_mem ..),
    ((Leaves.of_mem detectStart_mem detectStart_standing).trans hleaves).countTokens r 2, (State.countTokens_detect ..).trans hdetect, (State.countTokens_log ..).trans hlog⟩

end

end Sys2Proof

namespace Sys2Proof.Machine

/-! ## The bytes of batches and carry lists (R244) -/

theorem recordBytes_length (stream closeCount : Nat) (v : Verdict) : (recordBytes stream closeCount v).length = 48 := by simp [recordBytes, leBytes_length]

theorem batchBytes_length (b : Batch) : (Batch_bytes b).length = 32 + 48 * b.records.length := by
  simp [Batch_bytes, leBytes_length, List.length_flatMap, recordBytes_length]
  omega

theorem carryBytes_length (stream : Nat) (vs : List Verdict) : (carryBytes stream vs).length = 8 + 64 * vs.length := by
  simp [carryBytes, leBytes_length, List.length_flatMap, Nat.mul_comm]

theorem State.withConfidence_length (s : State) (stream : Fin 24) (closeCount : Nat) (vs : List Verdict) : (s.withConfidence stream closeCount vs).length = vs.length := by
  unfold State.withConfidence
  split
  · rw [List.length_map]
  · rfl

/-! ## The output loop (R241) -/

/-- The entries that went out and those carried on hold to their limits, and the last tile carries none on. -/
structure NmsOut.Fits (d : ZooDesc) (a : NmsOut) : Prop where
  out : a.out.length ≤ zf d 287 272
  carry : a.carry.length ≤ zf d 271 256
  last : zf d 499 499 = 1 → a.carry = []

theorem nmsEmit_fits {d : ZooDesc} {a : NmsOut} (h : a.Fits d) (v : Verdict) : (nmsEmit d a v).Fits d := by
  unfold nmsEmit
  extract_lets new v1 a1 tileEnd carries v2 v3 a2
  obtain ⟨hout1, hcarry1⟩ : a1.out = a.out ∧ a1.carry = a.carry := by
    simp only [a1]
    split <;> exact ⟨rfl, rfl⟩
  obtain ⟨hout2, hcarry2⟩ : a2.out = a.out ∧ a2.carry = a.carry := by
    simp only [a2]
    split <;> exact ⟨hout1, hcarry1⟩
  by_cases hcarries : carries ∧ a1.carry.length < zf d 271 256
  · rw [if_pos hcarries]
    obtain ⟨⟨hnotLast, -⟩, hroom⟩ := hcarries
    exact ⟨hout1 ▸ h.out, by simpa using hroom, fun hlast => by omega⟩
  · rw [if_neg hcarries]
    by_cases hroom : a2.out.length < zf d 287 272
    · rw [if_pos hroom]
      exact ⟨by simpa using hroom, hcarry2 ▸ h.carry, fun hlast => hcarry2.trans (h.last hlast)⟩
    · rw [if_neg hroom]
      exact ⟨hout2 ▸ h.out, hcarry2 ▸ h.carry, fun hlast => hcarry2.trans (h.last hlast)⟩

theorem foldl_nmsEmit_fits (d : ZooDesc) (vs : List Verdict) {a : NmsOut} (h : a.Fits d) : (vs.foldl (nmsEmit d) a).Fits d := by
  induction vs generalizing a with
  | nil => exact h
  | cons v vs ih => exact ih (nmsEmit_fits h v)

theorem State.nmsOf_fits (s : State) (r : Fin 10) (d : ZooDesc) : (s.nmsOf r d).1.Fits d :=
  foldl_nmsEmit_fits d _ ⟨Nat.zero_le _, Nat.zero_le _, fun _ => rfl⟩

/-! ## A batch in the release buffer (R78, R84) -/

/-- A batch that enters a release buffer changes the launch alone. -/
theorem State.bufferBatch_keeps {γ : Type} (π : State → γ) (h : ∀ (a : State) (f : Launch → Launch), π (a.modLaunch f) = π a) (s : State) (n cls : Nat) (b : Batch) :
    π (s.bufferBatch n cls b) = π s := by
  unfold State.bufferBatch State.enterBuffer
  split
  · exact h s _
  · rfl

theorem State.verdictOut_congr {s u : State} (h : u.launch = s.launch) (stream : Nat) : u.verdictOut stream = s.verdictOut stream := by
  rw [State.verdictOut, State.verdictOut, h]

theorem State.bufferTakes_congr {s u : State} (h : u.launch = s.launch) (out n : Nat) : u.bufferTakes out n = s.bufferTakes out n := by
  have hport : ∀ k, u.outputPort k = s.outputPort k := fun k => by rw [State.outputPort, State.outputPort, h]
  simp only [State.bufferTakes, hport, h]

theorem State.bufferBatch_launch {s : State} {n : Nat} {b : Batch} (htakes : s.bufferTakes (s.verdictOut b.stream) n = true) (cls : Nat) :
    (s.bufferBatch n cls b).launch = { s.launch with buffered := s.launch.buffered ++ [⟨n, ⟨s.verdictOut b.stream, cls, ⟨true, false, .batch b⟩, none⟩⟩] } := by
  unfold State.bufferBatch State.enterBuffer
  rw [if_pos htakes]
  rfl

/-! ## The faults of an NMS (R242) -/

section
variable (s : State) (r : Fin 10) (d : ZooDesc)

theorem State.nmsFaults_standing (total dropped full : Nat) : (s.nmsFaults r d total dropped full).standing = s.standing := by
  unfold State.nmsFaults
  split_ifs <;> simp

theorem State.nmsFaults_detect (total dropped full : Nat) : (s.nmsFaults r d total dropped full).detect = s.detect := by
  unfold State.nmsFaults
  split_ifs <;> simp

/-- Where nothing was cut, dropped or found no room in the carry list, nothing is recorded. -/
theorem State.nmsFaults_none {total : Nat} (htotal : total ≤ 4096) : s.nmsFaults r d total 0 0 = s := by
  unfold State.nmsFaults
  simp [Nat.not_lt.mpr htotal]

end

/-! ## The places of an NMS (R234, R241) -/

/-- The place of the verdict batch. -/
def batchPlace (r : Fin 10) (d : ZooDesc) : MemRef := rmemAt r.val (zf d 319 288)

/-- The room of the verdict batch. -/
def batchRoom (d : ZooDesc) : Nat := 32 + 48 * zf d 287 272

/-- The place of the carry list. -/
def carryPlace (r : Fin 10) (d : ZooDesc) : MemRef := rmemAt r.val (zf d 351 320)

/-- The room of the carry list. -/
def carryRoom (d : ZooDesc) : Nat := 8 + 64 * zf d 271 256

/-- The stripe table. -/
def stripeTable (r : Fin 10) (d : ZooDesc) : MemRef × Nat := (rmemAt r.val (zf d 383 352), 8 * (zf d 506 502 + 1))

/-- The stream of an NMS. -/
def nmsStream (d : ZooDesc) : Fin 24 := Fin.ofNat 24 (zf d 511 507)

/-- What an NMS reads: its stripe table, its carry list, and the candidate lists that the table names. -/
def State.nmsReads (s : State) (r : Fin 10) (d : ZooDesc) : List (MemRef × Nat) :=
  stripeTable r d :: (carryPlace r d, carryRoom d) :: (s.listPlaces r d).map fun p => (p.1, p.2.1)

/-- The places that an NMS checks before it looks into its stripe table, with whether it writes there. -/
def nmsChecks (r : Fin 10) (d : ZooDesc) : List (MemRef × Nat × Bool) :=
  [((stripeTable r d).1, (stripeTable r d).2, false), (carryPlace r d, carryRoom d, false), (carryPlace r d, carryRoom d, true), (batchPlace r d, batchRoom d, true)]

/-- The detection state of its stream that an NMS leaves: where its carry list lies, from when, and the next identifier. -/
def nmsNoted (now : Nat) (r : Fin 10) (d : ZooDesc) (nextId : Nat) (y : Detect) : Detect :=
  { y with carryAt := zf d 351 320, nextId := nextId, lastNms := some now, region := r, cls := hClass d.header }

/-- An NMS has stored its carry list and its batch. -/
def State.nmsStored (s : State) (r : Fin 10) (d : ZooDesc) (res : NmsOut × Nat) (batch : Batch) : State :=
  let noted := s.modDetect (nmsStream d) (nmsNoted s.now r d res.1.nextId)
  ((if res.2 = 0 then noted else noted.bump (ob 0x3700 6) res.2).store (carryPlace r d) (carryBytes (nmsStream d).val res.1.carry)).store (batchPlace r d) (Batch_bytes batch)

/-- With release_hold its batch has gone to the release buffer of its port too. -/
def State.nmsHeld (s : State) (r : Fin 10) (d : ZooDesc) (res : NmsOut × Nat) (batch : Batch) : State :=
  if hReleaseHold d.header then (s.nmsStored r d res batch).bufferBatch (releaseBeat s.beat (hReleaseBeat d.header)) (hClass d.header) batch else s.nmsStored r d res batch

/-- What an NMS leaves that has read its lists. -/
def State.nmsOut (s : State) (r : Fin 10) (d : ZooDesc) (total : Nat) (res : NmsOut × Nat) (batch : Batch) : State :=
  ((s.nmsHeld r d res batch).nmsFaults r d total res.1.dropped res.1.full).complete r 18 d.header 0
    (b2n (decide (4096 < total)) ||| at_ 1 1 (b2n (decide (0 < res.1.dropped))) ||| at_ 1 2 (b2n (decide (0 < res.1.full)))) res.1.out.length

section
variable {s : State} {r : Fin 10} {d : ZooDesc} {closeCount : Nat} {truncated : Bool}

/-- Candidate lists are read only. -/
theorem State.listPlaces_read {p : MemRef × Nat × Bool} (h : p ∈ s.listPlaces r d) : p.2.2 = false := by
  simp only [State.listPlaces, List.mem_flatMap, List.mem_singleton] at h
  obtain ⟨i, -, rfl⟩ := h
  rfl

theorem State.runNms_stops {u : State} (hstop : s.checkPlaces r d.header (nmsChecks r d) = some u) : s.runNms r d closeCount truncated = u := by
  simp only [nmsChecks, stripeTable, carryPlace, carryRoom, batchPlace, batchRoom] at hstop
  simp only [State.runNms, hstop]

variable (hpass : s.checkPlaces r d.header (nmsChecks r d) = none)
include hpass

theorem State.runNms_stops_lists {u : State} (hstop : s.checkPlaces r d.header (s.listPlaces r d) = some u) : s.runNms r d closeCount truncated = u := by
  simp only [nmsChecks, stripeTable, carryPlace, carryRoom, batchPlace, batchRoom] at hpass
  simp only [State.runNms, hpass, hstop]

variable (hlists : s.checkPlaces r d.header (s.listPlaces r d) = none) (hups : d.upsets = [])
include hlists hups

theorem State.runNms_lost {k : BadLane} (hmark : s.markRead (s.nmsReads r d) = some k) :
    s.runNms r d closeCount truncated = (s.eccUncorrectable k (hSequence d.header) (hClass d.header)).complete r 18 d.header 0x0203 0 0 := by
  simp only [nmsChecks, stripeTable, carryPlace, carryRoom, batchPlace, batchRoom] at hpass
  simp only [State.nmsReads, stripeTable, carryPlace, carryRoom] at hmark
  simp only [State.runNms, hpass, hlists, hups, State.meetUpsets_nil, hmark]
  rfl

theorem State.runNms_writes (hmark : s.markRead (s.nmsReads r d) = none) : s.runNms r d closeCount truncated
    = s.nmsOut r d (s.stripeLists r d).1.length (s.nmsOf r d)
      (s.nmsBatch d (s.closeOf (nmsStream d) (zf d 255 192) closeCount truncated) (s.stripeLists r d).1.length (s.nmsOf r d).1) := by
  simp only [nmsChecks, stripeTable, carryPlace, carryRoom, batchPlace, batchRoom] at hpass
  simp only [State.nmsReads, stripeTable, carryPlace, carryRoom] at hmark
  simp only [State.runNms, hpass, hlists, hups, State.meetUpsets_nil, hmark]
  rfl

end

end Sys2Proof.Machine

namespace Sys2Proof.Machine

/-! ## The close of a tile (R32, R244) -/

section
variable {s : State} {stream : Fin 24} {tile : Nat} (count : Nat) (truncated : Bool)

theorem State.closeOf_recorded {x : Nat × Nat × Nat × Bool} (h : (s.streams[stream].closes.find? fun c => c.1 == tile) = some x) :
    s.closeOf stream tile count truncated = (x.2.1, x.2.2.2) := by rw [State.closeOf, h]

theorem State.closeOf_given (h : ∀ x ∈ s.streams[stream].closes, x.1 ≠ tile) : s.closeOf stream tile count truncated = (count, truncated) := by
  rw [State.closeOf, List.find?_eq_none.mpr fun x hx => by simpa using h x hx]

end

/-! ## The state of one stream -/

theorem upd_getElem_self {α : Type} {n : Nat} (v : Vector α n) (i : Fin n) (f : α → α) : (upd v i f)[i] = f v[i] := by simp [upd]

theorem upd_getElem_other {α : Type} {n : Nat} (v : Vector α n) {i k : Fin n} (f : α → α) (h : k ≠ i) : (upd v i f)[k] = v[k] := by
  have hne : i.val ≠ k.val := fun heq => h (Fin.ext heq.symm)
  simp [upd, hne]

/-! ## What an NMS leaves (R241, R242, R244) -/

section
variable (s : State) (r : Fin 10) (d : ZooDesc) {res : NmsOut × Nat} {batch : Batch}

/-- What neither the detection state, the objects, the memories nor the launch bear on stays as it was while an NMS stores its results. -/
theorem State.nmsStored_keeps {γ : Type} (π : State → γ) (hdetect : ∀ (a : State) (n : Fin 24) (f : Detect → Detect), π (a.modDetect n f) = π a)
    (hbump : ∀ (a : State) (key : Key) (n : Nat), π (a.bump key n) = π a) (hstore : ∀ (a : State) (p : MemRef) (bs : Bytes), π (a.store p bs) = π a) :
    π (s.nmsStored r d res batch) = π s := by
  unfold State.nmsStored
  dsimp only
  rw [hstore, hstore]
  split
  · exact hdetect ..
  · exact (hbump ..).trans (hdetect ..)

theorem State.nmsHeld_keeps {γ : Type} (π : State → γ) (h : ∀ (a : State) (f : Launch → Launch), π (a.modLaunch f) = π a) :
    π (s.nmsHeld r d res batch) = π (s.nmsStored r d res batch) := by
  unfold State.nmsHeld
  split
  · exact State.bufferBatch_keeps π h ..
  · rfl

theorem State.nmsStored_launch : (s.nmsStored r d res batch).launch = s.launch :=
  s.nmsStored_keeps r d State.launch (fun _ _ _ => rfl) (fun _ _ _ => rfl) fun _ _ _ => rfl

theorem State.nmsHeld_permits (cls : Nat) (p : MemRef) (n : Nat) (write : Bool) : (s.nmsHeld r d res batch).permits cls p n write = s.permits cls p n write :=
  (s.nmsHeld_keeps r d (fun x => x.permits cls p n write) fun _ _ => rfl).trans
    (s.nmsStored_keeps r d (fun x => x.permits cls p n write) (fun _ _ _ => rfl) (fun _ _ _ => rfl) fun _ _ _ => rfl)

theorem State.nmsHeld_log : (s.nmsHeld r d res batch).log = s.log :=
  (s.nmsHeld_keeps r d State.log fun _ _ => rfl).trans (s.nmsStored_keeps r d State.log (fun _ _ _ => rfl) (fun _ _ _ => rfl) fun _ _ _ => rfl)

theorem State.nmsHeld_mem : (s.nmsHeld r d res batch).mem = (s.nmsStored r d res batch).mem := s.nmsHeld_keeps r d State.mem fun _ _ => rfl

theorem State.nmsHeld_detect : (s.nmsHeld r d res batch).detect = upd s.detect (nmsStream d) (nmsNoted s.now r d res.1.nextId) := by
  rw [s.nmsHeld_keeps r d State.detect fun _ _ => rfl]
  unfold State.nmsStored
  dsimp only
  split <;> simp

theorem State.nmsHeld_launch_memory (hhold : hReleaseHold d.header = false) : (s.nmsHeld r d res batch).launch = s.launch := by
  rw [State.nmsHeld, hhold]
  exact s.nmsStored_launch r d

theorem State.nmsHeld_launch_buffer (hhold : hReleaseHold d.header = true)
    (htakes : s.bufferTakes (s.verdictOut batch.stream) (releaseBeat s.beat (hReleaseBeat d.header)) = true) :
    (s.nmsHeld r d res batch).launch = { s.launch with
      buffered := s.launch.buffered ++ [⟨releaseBeat s.beat (hReleaseBeat d.header), ⟨s.verdictOut batch.stream, hClass d.header, ⟨true, false, .batch batch⟩, none⟩⟩] } := by
  have hlaunch := s.nmsStored_launch r d (res := res) (batch := batch)
  rw [State.nmsHeld, if_pos hhold, State.bufferBatch_launch (by rw [State.verdictOut_congr hlaunch, State.bufferTakes_congr hlaunch, htakes]), hlaunch,
    State.verdictOut_congr hlaunch]

/-- Its results fit the places that it checked, and lie there. -/
theorem State.nmsStored_stores (hfits : res.1.Fits d) (hrecords : batch.records.length = res.1.out.length) :
    WritesOnly [(carryPlace r d, carryRoom d), (batchPlace r d, batchRoom d)] s (s.nmsStored r d res batch)
      ∧ (s.nmsStored r d res batch).load (batchPlace r d) (32 + 48 * res.1.out.length) = Batch_bytes batch
      ∧ (Apart (carryPlace r d) (carryRoom d) (batchPlace r d) (batchRoom d) →
        (s.nmsStored r d res batch).load (carryPlace r d) (8 + 64 * res.1.carry.length) = carryBytes (nmsStream d).val res.1.carry) := by
  have hbatch : (Batch_bytes batch).length = 32 + 48 * res.1.out.length := by rw [batchBytes_length, hrecords]
  have hcarry := carryBytes_length (nmsStream d).val res.1.carry
  have hbatchRoom : (Batch_bytes batch).length ≤ batchRoom d := by
    have := hfits.out
    rw [hbatch, batchRoom]
    omega
  have hcarryRoom : (carryBytes (nmsStream d).val res.1.carry).length ≤ carryRoom d := by
    have := hfits.carry
    rw [hcarry, carryRoom]
    omega
  unfold State.nmsStored
  extract_lets noted
  set counted := if res.2 = 0 then noted else noted.bump (ob 0x3700 6) res.2 with hcounted
  have hmem : counted.mem = s.mem := by rw [hcounted]; split <;> rfl
  refine ⟨(WritesOnly.of_mem hmem).trans ((WritesOnly.store (List.mem_cons_self ..) (.refl _ hcarryRoom) (by decide : 1 < 3)).trans
    (.store (List.mem_cons_of_mem _ (List.mem_singleton_self _)) (.refl _ hbatchRoom) (by decide : 1 < 3))), ?_, fun hapart => ?_⟩
  · rw [← hbatch, State.load_store_self]
  · rw [← hcarry, State.load_store_apart _ (by decide : 1 < 3) (by decide : 1 < 3) (hapart.mono hcarryRoom hbatchRoom).symm, State.load_store_self]

end

/-- What an NMS leaves that has read its lists: its batch and its carry list, the detection state of its stream, its status record, and with release_hold its batch in the release buffer. -/
structure NmsLeaves (s u : State) (r : Fin 10) (d : ZooDesc) (total : Nat) (res : NmsOut) (batch : Batch) : Prop where
  batchRead : u.load (batchPlace r d) (32 + 48 * res.out.length) = Batch_bytes batch
  carryRead : u.load (carryPlace r d) (8 + 64 * res.carry.length) = carryBytes (nmsStream d).val res.carry
  detect : u.detect = upd s.detect (nmsStream d) (nmsNoted s.now r d res.nextId)
  status : StatusIs u r d.header 0 (b2n (decide (4096 < total)) ||| at_ 1 1 (b2n (decide (0 < res.dropped))) ||| at_ 1 2 (b2n (decide (0 < res.full)))) res.out.length
    false false
  launch : hReleaseHold d.header = false → u.launch = s.launch
  held : hReleaseHold d.header = true → s.bufferTakes (s.verdictOut batch.stream) (releaseBeat s.beat (hReleaseBeat d.header)) = true → u.launch = { s.launch with
    buffered := s.launch.buffered ++ [⟨releaseBeat s.beat (hReleaseBeat d.header), ⟨s.verdictOut batch.stream, hClass d.header, ⟨true, false, .batch batch⟩, none⟩⟩] }
  log : total ≤ 4096 → res.dropped = 0 → res.full = 0 → u.log = s.log
  writes : WritesOnly [(statusPlace r d.header, 16), (carryPlace r d, carryRoom d), (batchPlace r d, batchRoom d)] s u

theorem NmsLeaves.countTokens {s u : State} {r : Fin 10} {d : ZooDesc} {total : Nat} {res : NmsOut} {batch : Batch} (h : NmsLeaves s u r d total res batch) (k : Fin 16) :
    NmsLeaves s (u.countTokens r k) r d total res batch where
  batchRead := (State.load_congr (State.countTokens_mem ..) ..).trans h.batchRead
  carryRead := (State.load_congr (State.countTokens_mem ..) ..).trans h.carryRead
  detect := h.detect
  status := statusIs_of_mem h.status (State.countTokens_mem ..)
  launch := h.launch
  held := h.held
  log := h.log
  writes := h.writes.trans (.of_mem (State.countTokens_mem ..))

theorem State.nmsOut_leaves {s : State} {r : Fin 10} {d : ZooDesc} {res : NmsOut × Nat} {batch : Batch} (total : Nat) (hfits : res.1.Fits d)
    (hrecords : batch.records.length = res.1.out.length) (hstatus : s.permits (hClass d.header) (statusPlace r d.header) 16 true = true)
    (hbatch : Apart (batchPlace r d) (batchRoom d) (statusPlace r d.header) 16) (hcarry : Apart (carryPlace r d) (carryRoom d) (statusPlace r d.header) 16)
    (hboth : Apart (carryPlace r d) (carryRoom d) (batchPlace r d) (batchRoom d)) : NmsLeaves s (s.nmsOut r d total res batch) r d total res.1 batch := by
  obtain ⟨hstored, hbatchRead, hcarryRead⟩ := s.nmsStored_stores r d hfits hrecords
  set told := (s.nmsHeld r d res batch).nmsFaults r d total res.1.dropped res.1.full with htold
  have hmem : told.mem = (s.nmsStored r d res batch).mem := (State.nmsFaults_mem ..).trans (s.nmsHeld_mem r d)
  have hstanding : told.standing = (s.nmsHeld r d res batch).standing := State.nmsFaults_standing ..
  have hended : Leaves [(statusPlace r d.header, 16)] told (s.nmsOut r d total res batch) := told.complete_leaves ..
  have hlaunch : (s.nmsOut r d total res batch).launch = (s.nmsHeld r d res batch).launch := hended.launch.trans (launch_of_standing hstanding)
  have hread : ∀ {p : MemRef} {n k : Nat}, p.space < 3 → Apart p k (statusPlace r d.header) 16 → n ≤ k →
      (s.nmsOut r d total res batch).load p n = (s.nmsStored r d res batch).load p n := fun hp hapart hn =>
    (hended.writes _ _ hp (List.forall_mem_singleton.mpr (hapart.mono hn (Nat.le_refl _)))).trans (State.load_congr hmem ..)
  have hout := hfits.out
  have hin := hfits.carry
  exact {
    batchRead := (hread (by decide : 1 < 3) hbatch (by rw [batchRoom]; omega)).trans hbatchRead
    carryRead := (hread (by decide : 1 < 3) hcarry (by rw [carryRoom]; omega)).trans (hcarryRead hboth)
    detect := ((told.complete_detect ..).trans (State.nmsFaults_detect ..)).trans (s.nmsHeld_detect r d)
    status := told.complete_statusIs _ _ _ _ _ _ _ _ (by rw [permits_of_standing hstanding, State.nmsHeld_permits]; exact hstatus)
    launch := fun hhold => hlaunch.trans (s.nmsHeld_launch_memory r d hhold)
    held := fun hhold htakes => hlaunch.trans (s.nmsHeld_launch_buffer r d hhold htakes)
    log := fun htotal hdropped hfull => by
      refine (told.complete_log ..).trans ?_
      rw [htold, hdropped, hfull, State.nmsFaults_none _ r d htotal, State.nmsHeld_log]
    writes := (WritesOnly.mono (hstored.trans (.of_mem hmem)) fun p hp => ⟨p, List.mem_cons_of_mem _ hp, .refl _ (Nat.le_refl _)⟩).trans
      (hended.writes.mono fun p hp => ⟨p, List.mem_append_left _ hp, .refl _ (Nat.le_refl _)⟩) }

end Sys2Proof.Machine

namespace Sys2Proof

open Machine

/-! ## How an NMS ends -/

section
variable {s : State} {t : Nat} {r : Fin 10} {d : ZooDesc} {closeCount : Nat} {truncated : Bool}
  (hstart : ZooStarts s r d.header) (hok : HeaderOk s r d.header 0x12 (hClass d.header == d.queue) (get? s.regions[r].prevSeq (zooQueue 0x12 d.queue 0)))
  (hbody : nmsOk d = true)
include hstart hok hbody

theorem nms_starts : exec (.nms t r d closeCount truncated) s = .next (((detectStart s t r d).runNms r d closeCount truncated).countTokens r 2) := by
  rw [(IsDetect.nms closeCount truncated).starts hstart hok]
  show Host.Outcome.next (if nmsOk d then _ else _) = _
  rw [hbody]
  rfl

theorem nms_ends_address (hrun : (detectStart s t r d).runNms r d closeCount truncated = (detectStart s t r d).complete r 18 d.header 0x0202 0 0) :
    Ends (.nms t r d closeCount truncated) s fun u => DetectEnds s u r d.header 0x0202 0 0 :=
  ⟨_, nms_starts hstart hok hbody, hrun ▸ (detectEnds_complete detectStart_mem detectStart_standing detectStart_detect hok.status _ _ _).countTokens 2⟩

theorem nms_ends_guard {p : MemRef} (hrun : (detectStart s t r d).runNms r d closeCount truncated = (detectStart s t r d).endGuard r 18 d.header p) :
    Ends (.nms t r d closeCount truncated) s fun u => DetectEnds s u r d.header 0x0205 0 0 :=
  ⟨_, nms_starts hstart hok hbody, hrun ▸ (detectEnds_guard detectStart_mem detectStart_standing detectStart_detect hok.status p).countTokens 2⟩

/-- Places of its own are looked at before those that its stripe table names, and their ranges before their classes. -/
theorem nms_address (hbad : ∃ p ∈ (batchPlace r d, batchRoom d) :: s.nmsReads r d, s.badPlace p.1 p.2 = true) :
    (Ends (.nms t r d closeCount truncated) s fun u => DetectEnds s u r d.header 0x0202 0 0)
      ∨ Ends (.nms t r d closeCount truncated) s fun u => DetectEnds s u r d.header 0x0205 0 0 := by
  set x := detectStart s t r d
  by_cases hown : ∃ p ∈ nmsChecks r d, x.badPlace p.1 p.2.1 = true
  · exact .inl (nms_ends_address hstart hok hbody (State.runNms_stops (State.checkPlaces_address hown)))
  have hgood : ∀ p ∈ nmsChecks r d, x.badPlace p.1 p.2.1 = false := fun p hp => by simpa using fun h => hown ⟨p, hp, h⟩
  by_cases hmay : ∀ p ∈ nmsChecks r d, x.permits (hClass d.header) p.1 p.2.1 p.2.2 = true
  · have hlists : ∃ p ∈ s.listPlaces r d, x.badPlace p.1 p.2.1 = true := by
      simp only [nmsChecks, List.forall_mem_cons] at hgood
      obtain ⟨htable, hcarry, -, hbatch, -⟩ := hgood
      obtain ⟨p, hp, hbad⟩ := hbad
      simp only [State.nmsReads, List.mem_cons, List.mem_map] at hp
      rcases hp with rfl | rfl | rfl | ⟨q, hq, rfl⟩
      · exact absurd (hbatch.symm.trans hbad) Bool.false_ne_true
      · exact absurd (htable.symm.trans hbad) Bool.false_ne_true
      · exact absurd (hcarry.symm.trans hbad) Bool.false_ne_true
      · exact ⟨q, hq, hbad⟩
    exact .inl (nms_ends_address hstart hok hbody (State.runNms_stops_lists (State.checkPlaces_none hgood hmay) (State.checkPlaces_address hlists)))
  · obtain ⟨p, hstop⟩ := State.checkPlaces_guard (r := r) hgood (by simpa only [not_forall, exists_prop, Bool.not_eq_true] using hmay)
    exact .inr (nms_ends_guard hstart hok hbody (State.runNms_stops hstop))

variable (hgood : ∀ p ∈ (batchPlace r d, batchRoom d) :: s.nmsReads r d, s.badPlace p.1 p.2 = false)
include hgood

omit hstart hok hbody in
theorem nms_good : (∀ p ∈ nmsChecks r d, (detectStart s t r d).badPlace p.1 p.2.1 = false) ∧ ∀ p ∈ s.listPlaces r d, (detectStart s t r d).badPlace p.1 p.2.1 = false := by
  simp only [State.nmsReads, List.forall_mem_cons, List.forall_mem_map] at hgood
  obtain ⟨hbatch, htable, hcarry, hlists⟩ := hgood
  refine ⟨?_, hlists⟩
  simp only [nmsChecks, List.forall_mem_cons]
  exact ⟨htable, hcarry, hcarry, hbatch, nofun⟩

theorem nms_guard (hnot : (∃ p ∈ s.nmsReads r d, s.permits (hClass d.header) p.1 p.2 false = false)
    ∨ s.permits (hClass d.header) (carryPlace r d) (carryRoom d) true = false ∨ s.permits (hClass d.header) (batchPlace r d) (batchRoom d) true = false) :
    Ends (.nms t r d closeCount truncated) s fun u => DetectEnds s u r d.header 0x0205 0 0 := by
  set x := detectStart s t r d with hx
  obtain ⟨hown, hlists⟩ := nms_good (t := t) hgood
  by_cases hmay : ∀ p ∈ nmsChecks r d, x.permits (hClass d.header) p.1 p.2.1 p.2.2 = true
  · have hrefused : ∃ p ∈ s.listPlaces r d, x.permits (hClass d.header) p.1 p.2.1 p.2.2 = false := by
      simp only [nmsChecks, List.forall_mem_cons, hx, detectStart_permits] at hmay
      obtain ⟨htable, hcarryRead, hcarry, hbatch, -⟩ := hmay
      rcases hnot with ⟨p, hp, hno⟩ | hno | hno
      · simp only [State.nmsReads, List.mem_cons, List.mem_map] at hp
        rcases hp with rfl | rfl | ⟨q, hq, rfl⟩
        · exact absurd (hno.symm.trans htable) Bool.false_ne_true
        · exact absurd (hno.symm.trans hcarryRead) Bool.false_ne_true
        · exact ⟨q, hq, by rw [State.listPlaces_read hq, hx, detectStart_permits]; exact hno⟩
      · exact absurd (hno.symm.trans hcarry) Bool.false_ne_true
      · exact absurd (hno.symm.trans hbatch) Bool.false_ne_true
    obtain ⟨p, hstop⟩ := State.checkPlaces_guard (r := r) hlists hrefused
    exact nms_ends_guard hstart hok hbody (State.runNms_stops_lists (State.checkPlaces_none hown hmay) hstop)
  · obtain ⟨p, hstop⟩ := State.checkPlaces_guard (r := r) hown (by simpa only [not_forall, exists_prop, Bool.not_eq_true] using hmay)
    exact nms_ends_guard hstart hok hbody (State.runNms_stops hstop)

variable (hreads : ∀ p ∈ s.nmsReads r d, s.permits (hClass d.header) p.1 p.2 false = true)
  (hcarry : s.permits (hClass d.header) (carryPlace r d) (carryRoom d) true = true) (hbatch : s.permits (hClass d.header) (batchPlace r d) (batchRoom d) true = true)
include hreads hcarry hbatch

omit hstart hok hbody in
theorem nms_passes : (detectStart s t r d).checkPlaces r d.header (nmsChecks r d) = none ∧ (detectStart s t r d).checkPlaces r d.header (s.listPlaces r d) = none := by
  obtain ⟨hown, hlists⟩ := nms_good (t := t) hgood
  simp only [State.nmsReads, List.forall_mem_cons, List.forall_mem_map] at hreads
  obtain ⟨htable, hcarryRead, hlistsRead⟩ := hreads
  refine ⟨State.checkPlaces_none hown ?_, State.checkPlaces_none hlists fun p hp => ?_⟩
  · simp only [nmsChecks, List.forall_mem_cons, detectStart_permits]
    exact ⟨htable, hcarryRead, hcarry, hbatch, nofun⟩
  · rw [State.listPlaces_read hp, detectStart_permits]
    exact hlistsRead p hp

variable (hups : d.upsets = [])
include hups

theorem nms_lost {k : BadLane} (hmark : s.markRead (s.nmsReads r d) = some k) : Ends (.nms t r d closeCount truncated) s fun u => DetectEnds s u r d.header 0x0203 0 0 := by
  obtain ⟨hpass, hlists⟩ := nms_passes (t := t) hgood hreads hcarry hbatch
  refine ⟨_, nms_starts hstart hok hbody, ?_⟩
  rw [State.runNms_lost hpass hlists hups hmark]
  exact (detectEnds_lost detectStart_mem detectStart_standing detectStart_detect hok.status k).countTokens 2

theorem nms_writes (hmark : s.markRead (s.nmsReads r d) = none) (hbatchFar : Apart (batchPlace r d) (batchRoom d) (statusPlace r d.header) 16)
    (hcarryFar : Apart (carryPlace r d) (carryRoom d) (statusPlace r d.header) 16) (hboth : Apart (carryPlace r d) (carryRoom d) (batchPlace r d) (batchRoom d)) :
    let total := (s.stripeLists r d).1.length
    let res := (s.nmsOf r d).1
    Ends (.nms t r d closeCount truncated) s fun u => NmsLeaves (detectStart s t r d) u r d total res
      (s.nmsBatch d (s.closeOf (nmsStream d) (zf d 255 192) closeCount truncated) total res) := by
  intro total res
  set batch := s.nmsBatch d (s.closeOf (nmsStream d) (zf d 255 192) closeCount truncated) total res with hbatchEq
  obtain ⟨hpass, hlists⟩ := nms_passes (t := t) hgood hreads hcarry hbatch
  have hlists' : (detectStart s t r d).stripeLists r d = s.stripeLists r d := rfl
  have hres : (detectStart s t r d).nmsOf r d = s.nmsOf r d := rfl
  have hbatchOf : (detectStart s t r d).nmsBatch d ((detectStart s t r d).closeOf (nmsStream d) (zf d 255 192) closeCount truncated) total res = batch := rfl
  have hrun := State.runNms_writes (closeCount := closeCount) (truncated := truncated) hpass hlists hups hmark
  rw [hlists', hres, hbatchOf] at hrun
  have hleaves := State.nmsOut_leaves (s := detectStart s t r d) total (s.nmsOf_fits r d) (batch := batch) (s.withConfidence_length ..)
    (by rw [detectStart_permits]; exact hok.status) hbatchFar hcarryFar hboth
  exact ⟨_, nms_starts hstart hok hbody, hrun ▸ hleaves.countTokens 2⟩

end

end Sys2Proof

namespace Sys2Proof.Machine

/-! ## The carry timeout (R243) -/

/-- Whether no NMS of the stream has ended within the carry timeout after its last one. -/
def State.carryDue (s : State) (n : Fin 24) : Bool :=
  match s.detect[n].lastNms with
  | some k => decide (k + 1000000 * s.nat (ob 0x3700 1) ≤ s.now)
  | none => false

/-- The batch that a carry list leaves in. -/
def State.carryBatch (s : State) (n : Fin 24) : Batch :=
  { closeCount := s.now, tileNumber := 2 ^ 64 - 1, stream := n.val, flags := 8, candidates := 0, carriedOut := 0
    records := s.withConfidence n s.now ((s.carryList s.detect[n].region s.detect[n].carryAt).map fun v => { v with flags := v.flags ||| 1 }) }

/-- The carry list of a stream is emptied and counted. -/
def State.carryEmptied (s : State) (n : Fin 24) : State :=
  ((s.modDetect n fun y => { y with lastNms := none }).store (rmemAt s.detect[n].region.val s.detect[n].carryAt) (leBytes 8 0)).bump (ob 0x3700 7)

/-- While a launch runs, its batch goes to the release buffer, bound to the first release count at least one verdict delay later. -/
def State.carryReleased (s : State) (n : Fin 24) : State :=
  match s.launch.run, s.launch.image with
  | some run, some im => (s.carryEmptied n).bufferBatch (run.firstBeatAt (s.now + im.verdictDelay)) s.detect[n].cls (s.carryBatch n)
  | _, _ => s.carryEmptied n

section
variable (s : State) (n : Fin 24)

variable {s n} in
theorem State.carryDue_none (h : s.detect[n].lastNms = none) : s.carryDue n = false := by rw [State.carryDue, h]

variable {s n} in
theorem State.carryDue_some {k : Nat} (h : s.detect[n].lastNms = some k) : s.carryDue n = decide (k + 1000000 * s.nat (ob 0x3700 1) ≤ s.now) := by rw [State.carryDue, h]

theorem State.flushCarry_idle (h : s.carryList s.detect[n].region s.detect[n].carryAt = [] ∨ s.carryDue n = false) : s.flushCarry n = s := by
  refine if_pos ?_
  rw [Bool.or_eq_true, Bool.not_eq_true', List.isEmpty_iff]
  exact h.symm

theorem State.flushCarry_due (hdue : s.carryDue n = true) (hcarry : s.carryList s.detect[n].region s.detect[n].carryAt ≠ []) :
    s.flushCarry n = (s.carryReleased n).fault 0x0505 { region := s.detect[n].region.val, unit := n.val }
      (min (s.carryList s.detect[n].region s.detect[n].carryAt).length 65535 ||| at_ 5 16 n.val) s.detect[n].cls := by
  refine if_neg ?_
  rw [Bool.or_eq_true, Bool.not_eq_true', List.isEmpty_iff]
  rintro (hno | hempty)
  · exact absurd (hno.symm.trans hdue) Bool.false_ne_true
  · exact hcarry hempty

theorem State.carryList_congr {s u : State} (h : u.mem = s.mem) (r : Fin 10) (addr : Nat) : u.carryList r addr = s.carryList r addr := by
  simp only [State.carryList, State.load_congr h]

theorem State.carryReleased_keeps {γ : Type} (π : State → γ) (h : ∀ (a : State) (f : Launch → Launch), π (a.modLaunch f) = π a) :
    π (s.carryReleased n) = π (s.carryEmptied n) := by
  unfold State.carryReleased
  split
  · exact State.bufferBatch_keeps π h ..
  · rfl

theorem State.carryEmptied_launch : (s.carryEmptied n).launch = s.launch := by simp [State.carryEmptied, State.store]

theorem State.carryReleased_launch_idle (h : s.launch.run = none) : (s.carryReleased n).launch = s.launch := by
  unfold State.carryReleased
  simp only [h]
  exact s.carryEmptied_launch n

theorem State.carryReleased_launch_buffer {run : Run} {im : Image} (hrun : s.launch.run = some run) (himage : s.launch.image = some im)
    (htakes : s.bufferTakes (s.verdictOut n.val) (run.firstBeatAt (s.now + im.verdictDelay)) = true) :
    (s.carryReleased n).launch = { s.launch with
      buffered := s.launch.buffered ++ [⟨run.firstBeatAt (s.now + im.verdictDelay), ⟨s.verdictOut n.val, s.detect[n].cls, ⟨true, false, .batch (s.carryBatch n)⟩, none⟩⟩] } := by
  have hlaunch := s.carryEmptied_launch n
  have hstream : (s.carryBatch n).stream = n.val := rfl
  have hreleased : s.carryReleased n = (s.carryEmptied n).bufferBatch (run.firstBeatAt (s.now + im.verdictDelay)) s.detect[n].cls (s.carryBatch n) := by
    simp only [State.carryReleased, hrun, himage]
  rw [hreleased, State.bufferBatch_launch (by rw [State.verdictOut_congr hlaunch, State.bufferTakes_congr hlaunch, hstream, htakes]), hlaunch,
    State.verdictOut_congr hlaunch, hstream]

theorem State.carryEmptied_mem : (s.carryEmptied n).mem = (s.store (rmemAt s.detect[n].region.val s.detect[n].carryAt) (leBytes 8 0)).mem := rfl

theorem State.carryEmptied_writes : WritesOnly [(rmemAt s.detect[n].region.val s.detect[n].carryAt, 8)] s (s.carryEmptied n) :=
  (WritesOnly.store (List.mem_singleton_self _) (.refl _ (Nat.le_of_eq (leBytes_length ..))) (by decide : 1 < 3)).trans (.of_mem (s.carryEmptied_mem n))

/-- The emptied list reads as one of no entries. -/
theorem State.carryList_carryEmptied : (s.carryEmptied n).carryList s.detect[n].region s.detect[n].carryAt = [] := by
  have hcount := s.load_store_self (rmemAt s.detect[n].region.val s.detect[n].carryAt) (leBytes 8 0)
  rw [leBytes_length] at hcount
  rw [State.carryList, State.load_congr (s.carryEmptied_mem n), hcount, leNat_leBytes]
  rfl

theorem State.carryReleased_news : SameNews s (s.carryReleased n) := by
  have hemptied : SameNews s (s.carryEmptied n) :=
    SameNews.trans (u := (s.modDetect n fun y => { y with lastNms := none }).store (rmemAt s.detect[n].region.val s.detect[n].carryAt) (leBytes 8 0))
      ⟨rfl, rfl, rfl, rfl, fun _ _ => rfl⟩ (.bump_other _ 1 (by decide))
  exact ⟨(s.carryReleased_keeps n State.log fun _ _ => rfl).trans hemptied.log, (s.carryReleased_keeps n State.now fun _ _ => rfl).trans hemptied.now,
    (s.carryReleased_keeps n State.node fun _ _ => rfl).trans hemptied.node, (s.carryReleased_keeps n State.crust fun _ _ => rfl).trans hemptied.crust,
    fun k hk => (s.carryReleased_keeps n (fun x => get? x.dict.active k) fun _ _ => rfl).trans (hemptied.active k hk)⟩

end

end Sys2Proof.Machine

namespace Sys2Proof

open Machine

section
variable {s : State} {t : Nat} {n : Fin 24}

theorem carryTimeout_idle (h : s.carryList s.detect[n].region s.detect[n].carryAt = [] ∨ (s.advance t).carryDue n = false) :
    exec (.carryTimeout t n) s = .next (s.advance t) :=
  congrArg Host.Outcome.next ((s.advance t).flushCarry_idle n h)

/-- A carry list that is due is emptied and recorded by fault 0x0505, and leaves in a batch of its own where a launch runs. -/
theorem carryTimeout_flushes (hdue : (s.advance t).carryDue n = true) (hcarry : s.carryList s.detect[n].region s.detect[n].carryAt ≠ []) :
    Ends (.carryTimeout t n) s fun u => u.mem = ((s.advance t).carryEmptied n).mem ∧ u.detect = upd s.detect n (fun y => { y with lastNms := none })
      ∧ u.obj (ob 0x3700 7) = (s.bump (ob 0x3700 7)).obj (ob 0x3700 7) ∧ u.launch = ((s.advance t).carryReleased n).launch
      ∧ u.log = ((s.advance t).fault 0x0505 { region := s.detect[n].region.val, unit := n.val }
        (min (s.carryList s.detect[n].region s.detect[n].carryAt).length 65535 ||| at_ 5 16 n.val) s.detect[n].cls).log := by
  set x := (s.advance t).carryReleased n with hx
  have hannounces := fault_announces x 0x0505 { region := s.detect[n].region.val, unit := n.val }
    (min (s.carryList s.detect[n].region s.detect[n].carryAt).length 65535 ||| at_ 5 16 n.val) s.detect[n].cls
  have hmem : x.mem = ((s.advance t).carryEmptied n).mem := State.carryReleased_keeps _ _ State.mem fun _ _ => rfl
  have hdetect : x.detect = ((s.advance t).carryEmptied n).detect := State.carryReleased_keeps _ _ State.detect fun _ _ => rfl
  have hcount : x.obj (ob 0x3700 7) = ((s.advance t).carryEmptied n).obj (ob 0x3700 7) := State.carryReleased_keeps _ _ (fun y => y.obj (ob 0x3700 7)) fun _ _ => rfl
  refine ⟨_, congrArg Host.Outcome.next ((s.advance t).flushCarry_due n hdue hcarry), hannounces.mem.trans hmem, ?_, (hannounces.2 _ (by decide)).trans hcount,
    hannounces.launch, (((s.advance t).carryReleased_news n).fault _ _ _ _).log⟩
  exact ((x.fault_detect ..).trans hdetect).trans rfl

end

end Sys2Proof

namespace Sys2Proof

open Machine

/-- Settles O55: a detection descriptor starts as it arrives (`IsDetect.starts`), its checks end it (`State.runDecode_stops`, `State.runNms_stops`), and past them its results fit the places that the checks looked at (`listBytes_length`, `nmsEmit_fits`); a carry list that is due is emptied whatever becomes of its batch (`carryTimeout_flushes`). -/
theorem detectionLeavesListsAndBatches : Obligations.DetectionLeavesListsAndBatches := by
  intro s t r apart admitted
  refine ⟨fun c d ok hc => ?_, fun block d ⟨hstart, hok⟩ hbody => ?_, fun d closeCount truncated ⟨hstart, hok⟩ hbody => ?_, fun n => ?_⟩
  · refine ⟨fun hstart hinvalid hstatus _ => ?_, fun ⟨hstart, hok⟩ hno => ?_⟩
    · obtain ⟨u, hu, hends⟩ := detect_invalid (isDetect_of hc) hstart hinvalid hstatus
      exact ⟨u, hu, hends.clauses⟩
    · obtain ⟨u, hu, hends, hlog⟩ := detect_refused (isDetect_of hc) hstart hok hno
      obtain ⟨hrecord, hkept⟩ := hends.clauses
      exact ⟨u, hu, hrecord, hkept, hlog⟩
  · refine ⟨fun hbad => ?_, fun hgood => ⟨fun hnot => ?_, fun hreads hlist hups => ⟨fun k hmark => ?_, fun hmark hhold hapart => ?_⟩⟩⟩
    · obtain ⟨u, hu, hends, hlog⟩ := decode_address hstart hok hbody hbad
      exact ⟨u, hu, hends.ends.status, hends.detect, hlog⟩
    · obtain ⟨u, hu, hends⟩ := decode_guard hstart hok hbody hgood hnot
      exact ⟨u, hu, hends.brief⟩
    · obtain ⟨u, hu, hends⟩ := decode_lost hstart hok hbody hgood hreads hlist hups hmark
      exact ⟨u, hu, hends.brief⟩
    · obtain ⟨u, hu, hload, hrecord, hleaves, hdetect, hlog⟩ := decode_lists hstart hok hbody hgood hreads hlist hups hmark hhold hapart
      exact ⟨u, hu, hload, hrecord, hdetect, hleaves.launch, hlog, fun q k hq hstatus hlisted => hleaves.writes q k (space_lt_of_inside hq) (by simpa using ⟨hstatus, hlisted⟩)⟩
  · refine ⟨fun hbad => ?_, fun hgood => ⟨fun hnot => ?_, fun hreads hcarry hbatch hups => ⟨fun k hmark => ?_, fun hmark hbatchFar hcarryFar hboth => ?_⟩⟩⟩
    · rcases nms_address (closeCount := closeCount) (truncated := truncated) hstart hok hbody hbad with ⟨u, hu, hends⟩ | ⟨u, hu, hends⟩
      · exact ⟨u, hu, .inl hends.ends.status, hends.brief.2⟩
      · exact ⟨u, hu, .inr hends.ends.status, hends.brief.2⟩
    · obtain ⟨u, hu, hends⟩ := nms_guard hstart hok hbody hgood hnot
      exact ⟨u, hu, hends.brief⟩
    · obtain ⟨u, hu, hends⟩ := nms_lost hstart hok hbody hgood hreads hcarry hbatch hups hmark
      exact ⟨u, hu, hends.brief⟩
    · obtain ⟨u, hu, hleaves⟩ := nms_writes hstart hok hbody hgood hreads hcarry hbatch hups hmark hbatchFar hcarryFar hboth
      have hfits := s.nmsOf_fits r d
      have hself : u.detect[nmsStream d] = nmsNoted (s.advance t).now r d (s.nmsOf r d).1.nextId s.detect[nmsStream d] := by
        rw [hleaves.detect]
        exact upd_getElem_self ..
      set close := s.closeOf (nmsStream d) (zf d 255 192) closeCount truncated with hclose
      refine ⟨close.1, close.2, fun x hx => ?_, fun hx => ?_, u, hu, hfits.out, hfits.carry, hfits.last, hleaves.batchRead, hleaves.carryRead, congrArg Detect.nextId hself,
        congrArg Detect.lastNms hself, congrArg Detect.carryAt hself, congrArg Detect.region hself, fun m hm => ?_, hleaves.status, hleaves.launch, hleaves.held, hleaves.log,
        fun q k hq hstatus hbatched hcarried => hleaves.writes q k (space_lt_of_inside hq) (by simpa using ⟨hstatus, hcarried, hbatched⟩)⟩
      · rw [hclose, State.closeOf_recorded (stream := nmsStream d) _ _ hx]
        exact ⟨rfl, rfl⟩
      · rw [hclose, State.closeOf_given (stream := nmsStream d) _ _ hx]
        exact ⟨rfl, rfl⟩
      · rw [hleaves.detect]
        exact upd_getElem_other _ _ hm
  · refine ⟨fun hidle => ?_, fun k hcarry hlast hdue _ => ?_⟩
    · refine carryTimeout_idle (hidle.imp id fun hidle => ?_)
      rcases hidle with hlast | ⟨k, hlast, hearly⟩
      · exact State.carryDue_none (s := s.advance t) hlast
      · rw [State.carryDue_some (s := s.advance t) hlast]
        exact decide_eq_false (Nat.not_le.mpr hearly)
    · have hcarryDue : (s.advance t).carryDue n = true := (State.carryDue_some (s := s.advance t) hlast).trans (decide_eq_true hdue)
      obtain ⟨u, hu, hmem, hdetect, hcount, hlaunch, hlog⟩ := carryTimeout_flushes hcarryDue hcarry
      refine ⟨u, hu, ?_, ?_, fun m hm => ?_, fun q k hq hapart => ?_, hcount, hlog, rfl, fun hrun => ?_, fun run im hrun himage htakes => ?_⟩
      · rw [hdetect, upd_getElem_self]
      · exact (State.carryList_congr hmem _ _).trans ((s.advance t).carryList_carryEmptied n)
      · rw [hdetect]
        exact upd_getElem_other _ _ hm
      · exact (State.load_congr hmem q k).trans ((s.advance t).carryEmptied_writes n q k (space_lt_of_inside hq) (List.forall_mem_singleton.mpr hapart))
      · exact hlaunch.trans ((s.advance t).carryReleased_launch_idle n hrun)
      · exact hlaunch.trans (State.carryReleased_launch_buffer (s := s.advance t) n hrun himage htakes)

end Sys2Proof

namespace Sys2Proof.Machine

/-! ## What the ends of a descriptor leave of the pools -/

section
variable (s : State)

@[simp] theorem State.fault_kv (code : Nat) (loc : Loc) (detail part : Nat) : (s.fault code loc detail part).kv = s.kv := by
  rw [(fault_announces s code loc detail part).1]

/-- A completion stores its status record and sends outputs, and nothing else. -/
theorem State.complete_keeps {γ : Type} (π : State → γ) (hstore : ∀ (a : State) (p : MemRef) (bs : Bytes), π (a.store p bs) = π a)
    (hemit : ∀ (a : State) (o : Output), π (a.emit o) = π a) (r : Fin 10) (b : Nat) (h : BitVec 128) (status detail count : Nat) (invalid late : Bool) :
    π (s.complete r b h status detail count invalid late) = π s := by
  unfold State.complete
  dsimp only
  split
  · split
    · rw [hemit, hemit, hstore]
    · rw [hemit, hstore]
  · rfl

@[simp] theorem State.countTokens_kv (r : Fin 10) (k : Fin 16) : (s.countTokens r k).kv = s.kv := rfl

@[simp] theorem State.refuseKv_kv (r : Fin 10) (p : Fin 4) (h : BitVec 128) : (s.refuseKv r p h).kv = s.kv :=
  (State.fault_kv ..).trans (s.complete_keeps State.kv (fun _ _ _ => rfl) (fun _ _ => rfl) ..)

end

/-! ## Sequence records and page table entries (R248, R251) -/

section
variable {s u old old' : State}

theorem State.seqBytes_length (s : State) (n : Nat) (q : KvSeq) : (s.seqBytes n q).length = 32 := by
  simp [State.seqBytes, crcRecord, leBytes_length]

/-- A sequence record tells of the pools only how many pages of the sequence are dropped. -/
theorem State.seqBytes_congr {n : Nat} {q : KvSeq} (h : u.droppedPages q.pool n = s.droppedPages q.pool n) : u.seqBytes n q = s.seqBytes n q := by
  rw [State.seqBytes, State.seqBytes, h]

theorem State.recordBytes_open {n : Nat} {q : KvSeq} (h : s.seqOf n = some q) : s.recordBytes old n = s.seqBytes n q := by
  rw [State.recordBytes, h]

theorem State.recordBytes_closed {n : Nat} {q : KvSeq} (h : s.seqOf n = none) (hold : old.seqOf n = some q) :
    s.recordBytes old n = s.seqBytes n { q with state := 0 } := by
  rw [State.recordBytes, h, hold]

theorem State.recordBytes_nil {n : Nat} (h : s.seqOf n = none) (hold : old.seqOf n = none) : s.recordBytes old n = [] := by
  rw [State.recordBytes, h, hold]

theorem State.seqOf_congr (h : u.kv = s.kv) (n : Nat) : u.seqOf n = s.seqOf n := by rw [State.seqOf, State.seqOf, h]

/-- Records and entries show what the pools hold, and nothing else of the state. -/
theorem State.recordBytes_congr (h : u.kv = s.kv) (hold : old'.kv = old.kv) (n : Nat) : u.recordBytes old' n = s.recordBytes old n := by
  have hbytes : ∀ q, u.seqBytes n q = s.seqBytes n q := fun q => State.seqBytes_congr (by rw [State.droppedPages, State.droppedPages, h])
  simp only [State.recordBytes, State.seqOf_congr h, State.seqOf_congr hold, hbytes]

theorem State.entryBytes_congr (h : u.kv = s.kv) (p : Fin 4) (e : Nat) : u.entryBytes p e = s.entryBytes p e := by
  simp only [State.entryBytes, State.pageEntry, State.seqOf, h]

end

theorem State.kvPlace_congr {s u : State} (h : u.launch = s.launch) (p : Fin 4) : u.kvPlace p = s.kvPlace p := by rw [State.kvPlace, State.kvPlace, h]

theorem State.recordPlace_congr {s u : State} {p : Fin 4} (h : u.nat (poolObj p 3) = s.nat (poolObj p 3)) (k : Nat × Nat) (n : Nat) :
    u.recordPlace p k n = s.recordPlace p k n := by
  rw [State.recordPlace, State.recordPlace, h]

theorem mem_of_get?_some {α : Type} {l : List (Nat × α)} {k : Nat} {v : α} (h : get? l k = some v) : (k, v) ∈ l := by
  induction l with
  | nil => exact absurd h nofun
  | cons e l ih =>
    unfold get? at h
    split at h
    · next hk =>
      obtain rfl := Option.some.inj h
      exact hk ▸ List.mem_cons_self
    · exact List.mem_cons_of_mem _ (ih h)

/-! ## Records go to their places (R247) -/

/-- What one element of a list brings about and every element keeps holds at the end. -/
theorem foldl_brings {α β : Type} {f : α → β → α} {P : α → Prop} (hkeep : ∀ a x, P a → P (f a x)) {x : β} (hx : ∀ a, P (f a x)) {l : List β} (hmem : x ∈ l) (a : α) :
    P (l.foldl f a) := by
  induction l generalizing a with
  | nil => exact absurd hmem List.not_mem_nil
  | cons y l ih =>
    rcases List.mem_cons.mp hmem with rfl | hin
    · exact List.foldlRecOn l f (motive := P) (hx a) fun b hb z _ => hkeep b z hb
    · exact ih hin _

/-- The record of sequence `n` goes to its place where it differs from that of `old`. -/
def State.showRecord (s old : State) (p : Fin 4) (k : Nat × Nat) (acc : State) (n : Nat) : State :=
  if s.recordBytes old n = old.recordBytes old n then acc else acc.store (s.recordPlace p k n) (s.recordBytes old n)

/-- Entry `e` of the page table goes to its place where it differs from that of `old`. -/
def State.showEntry (s old : State) (p : Fin 4) (k : Nat × Nat) (acc : State) (e : Nat) : State :=
  if s.entryBytes p e = old.entryBytes p e then acc else acc.store (entryPlace k e) (s.entryBytes p e)

/-- The sequences of a pool that have a record now or had one in `old`. -/
def State.shownSeqs (s old : State) (p : Fin 4) : List Nat := (((old.kv.seqs ++ s.kv.seqs).filter fun e => e.2.pool == p).map fun e => e.1).dedup

section
variable {s old : State} {p : Fin 4} {k : Nat × Nat} {n : Nat} {q : KvSeq}

theorem State.showKv_unplaced (h : s.kvPlace p = none) : s.showKv old p = s := by
  rw [State.showKv, h]

theorem State.showKv_placed (h : s.kvPlace p = some k) : s.showKv old p
    = (((old.kv.pages[p] ++ s.kv.pages[p]).map Page.entry).dedup).foldl (s.showEntry old p k) ((s.shownSeqs old p).foldl (s.showRecord old p k) s) := by
  rw [State.showKv, h]
  rfl

theorem State.showRecord_keeps {γ : Type} (π : State → γ) (hstore : ∀ (a : State) (p : MemRef) (bs : Bytes), π (a.store p bs) = π a) (a : State) (n : Nat) :
    π (s.showRecord old p k a n) = π a := by
  unfold State.showRecord
  split
  · rfl
  · exact hstore ..

theorem State.showEntry_keeps {γ : Type} (π : State → γ) (hstore : ∀ (a : State) (p : MemRef) (bs : Bytes), π (a.store p bs) = π a) (a : State) (e : Nat) :
    π (s.showEntry old p k a e) = π a := by
  unfold State.showEntry
  split
  · rfl
  · exact hstore ..

theorem State.showKv_keeps {γ : Type} (π : State → γ) (hstore : ∀ (a : State) (p : MemRef) (bs : Bytes), π (a.store p bs) = π a) (s old : State) (p : Fin 4) :
    π (s.showKv old p) = π s := by
  cases hk : s.kvPlace p with
  | none => rw [State.showKv_unplaced hk]
  | some k =>
    rw [State.showKv_placed hk, foldl_keeps π (State.showEntry_keeps π hstore), foldl_keeps π (State.showRecord_keeps π hstore)]

theorem State.showRecord_same (h : s.recordBytes old n = old.recordBytes old n) (a : State) : s.showRecord old p k a n = a := if_pos h

/-- Where the pools hold what they held, nothing is stored. -/
theorem State.showKv_same (h : s.kv = old.kv) : s.showKv old p = s := by
  have hrecord : ∀ (k : Nat × Nat) (a : State) (n : Nat), s.showRecord old p k a n = a := fun _ a n => State.showRecord_same (State.recordBytes_congr h rfl n) a
  have hentry : ∀ (k : Nat × Nat) (a : State) (e : Nat), s.showEntry old p k a e = a := fun _ _ e => if_pos (State.entryBytes_congr h p e)
  cases hk : s.kvPlace p with
  | none => exact State.showKv_unplaced hk
  | some k => rw [State.showKv_placed hk, List.foldl_fixed' (hrecord k s), List.foldl_fixed' (hentry k s)]

/-- Page table entries lie in another memory than sequence records. -/
theorem State.showEntry_load (a : State) (e r at' m : Nat) : (s.showEntry old p k a e).load (rmemAt r at') m = a.load (rmemAt r at') m := by
  unfold State.showEntry
  split
  · rfl
  · exact a.load_store_apart (by decide : 0 < 3) (by decide : 1 < 3) (.inl (by decide : 0 ≠ 1))

theorem State.mem_shownSeqs (hq : old.seqOf n = some q ∨ s.seqOf n = some q) (hpool : q.pool = p) : n ∈ s.shownSeqs old p := by
  have hmem : (n, q) ∈ old.kv.seqs ++ s.kv.seqs := List.mem_append.mpr (hq.imp mem_of_get?_some mem_of_get?_some)
  exact List.mem_dedup.mpr (List.mem_map.mpr ⟨(n, q), List.mem_filter.mpr ⟨hmem, beq_iff_eq.mpr hpool⟩, rfl⟩)

/-- A sequence that has or had a record has one of 32 bytes to show. -/
theorem State.recordBytes_length (hq : old.seqOf n = some q ∨ s.seqOf n = some q) : (s.recordBytes old n).length = 32 := by
  cases hs : s.seqOf n with
  | some q' => rw [State.recordBytes_open hs, State.seqBytes_length]
  | none =>
    have hold := hq.resolve_right (by rw [hs]; exact nofun)
    rw [State.recordBytes_closed hs hold, State.seqBytes_length]

/-- The one sequence whose record has changed has its record at its place. -/
theorem State.showKv_load (hk : s.kvPlace p = some k) (hothers : ∀ m, m ≠ n → s.recordBytes old m = old.recordBytes old m)
    (hq : old.seqOf n = some q ∨ s.seqOf n = some q) (hpool : q.pool = p)
    (hsame : s.recordBytes old n = old.recordBytes old n → s.load (s.recordPlace p k n) 32 = s.recordBytes old n) :
    (s.showKv old p).load (s.recordPlace p k n) 32 = s.recordBytes old n := by
  rw [State.showKv_placed hk, foldl_keeps (State.load · (s.recordPlace p k n) 32) fun a e => State.showEntry_load a e ..]
  have hother : ∀ a m, m ≠ n → s.showRecord old p k a m = a := fun a m hm => State.showRecord_same (hothers m hm) a
  by_cases hrecord : s.recordBytes old n = old.recordBytes old n
  · have hnone : ∀ m, s.showRecord old p k s m = s := fun m => by
      by_cases hm : m = n
      · exact State.showRecord_same (hm ▸ hrecord) s
      · exact hother s m hm
    rw [List.foldl_fixed' hnone]
    exact hsame hrecord
  · have hstored : ∀ a, (s.showRecord old p k a n).load (s.recordPlace p k n) 32 = s.recordBytes old n := fun a => by
      rw [State.showRecord, if_neg hrecord, ← State.recordBytes_length hq, State.load_store_self]
    refine foldl_brings (P := fun a => a.load (s.recordPlace p k n) 32 = s.recordBytes old n) (fun a m ha => ?_) hstored (State.mem_shownSeqs hq hpool) s
    by_cases hm : m = n
    · exact hm ▸ hstored a
    · rw [hother a m hm]
      exact ha

end

end Sys2Proof.Machine

namespace Sys2Proof.Machine

/-! ## What a page control changes of the pools (R248, R257) -/

/-- `u` is `s` but for sequence `n` and its pages in pool `p`. -/
structure SeqOnly (n : Nat) (p : Fin 4) (s u : State) : Prop where
  rest : u = { s with kv := u.kv }
  seqs : ∀ m, m ≠ n → u.seqOf m = s.seqOf m
  pools : ∀ j : Fin 4, j ≠ p → u.kv.pages[j] = s.kv.pages[j]
  pages : ∀ m, m ≠ n → (u.kv.pages[p].filter fun x => x.seq == m) = s.kv.pages[p].filter fun x => x.seq == m

/-- Sequence `n` is open with record `q`. -/
def State.putSeq (s : State) (n : Nat) (q : KvSeq) : State := s.modKv fun k => { k with seqs := put k.seqs n q }

/-- Sequence `n` is closed. -/
def State.delSeq (s : State) (n : Nat) : State := s.modKv fun k => { k with seqs := del k.seqs n }

/-- The pins of the pages in a descriptor's range change. -/
def State.repinned (s : State) (d : PageDesc) (f : Nat → Nat) : State :=
  s.modPages d.pool fun ps => ps.map fun x => if inRange d x then { x with pins := f x.pins } else x

section
variable {s u w : State} {n : Nat} {p : Fin 4} {q : KvSeq}

theorem State.putSeq_seqOf_self : (s.putSeq n q).seqOf n = some q := get?_put_self ..

theorem State.delSeq_seqOf_self : (s.delSeq n).seqOf n = none := get?_del_self ..

theorem State.modSeq_open (h : s.seqOf n = some q) (f : KvSeq → KvSeq) : s.modSeq n f = s.putSeq n (f q) := by
  rw [State.modSeq, h]
  rfl

theorem State.modPages_pages (s : State) (p : Fin 4) (f : List Page → List Page) : (s.modPages p f).kv.pages[p] = f s.kv.pages[p] := upd_getElem_self ..

namespace SeqOnly

theorem trans (hsu : SeqOnly n p s u) (huw : SeqOnly n p u w) : SeqOnly n p s w where
  rest := huw.rest.trans (congrArg (fun x : State => { x with kv := w.kv }) hsu.rest)
  seqs m hm := (huw.seqs m hm).trans (hsu.seqs m hm)
  pools j hj := (huw.pools j hj).trans (hsu.pools j hj)
  pages m hm := (huw.pages m hm).trans (hsu.pages m hm)

theorem putSeq (s : State) (n : Nat) (p : Fin 4) (q : KvSeq) : SeqOnly n p s (s.putSeq n q) :=
  ⟨rfl, fun _ hm => get?_put_other _ _ _ _ hm, fun _ _ => rfl, fun _ _ => rfl⟩

theorem delSeq (s : State) (n : Nat) (p : Fin 4) : SeqOnly n p s (s.delSeq n) :=
  ⟨rfl, fun _ hm => get?_del_other _ _ _ hm, fun _ _ => rfl, fun _ _ => rfl⟩

theorem modPages (s : State) {f : List Page → List Page}
    (hf : ∀ m, m ≠ n → ((f s.kv.pages[p]).filter fun x => x.seq == m) = s.kv.pages[p].filter fun x => x.seq == m) : SeqOnly n p s (s.modPages p f) where
  rest := rfl
  seqs _ _ := rfl
  pools j hj := upd_getElem_other _ _ hj
  pages m hm := by rw [s.modPages_pages p f, hf m hm]

/-- Pages that leave are of sequence `n`. -/
theorem filterPages (s : State) {keep : Page → Bool} (hkeep : ∀ x, x.seq ≠ n → keep x = true) : SeqOnly n p s (s.modPages p fun ps => ps.filter keep) := by
  refine modPages s fun m hm => ?_
  rw [List.filter_filter]
  refine List.filter_congr fun x _ => ?_
  by_cases hx : x.seq = m
  · rw [hkeep x (hx ▸ hm), Bool.and_true]
  · rw [beq_eq_false_iff_ne.mpr hx, Bool.false_and]

/-- Pages that change are of sequence `n`, and stay so. -/
theorem mapPages (s : State) {f : Page → Page} (hseq : ∀ x, (f x).seq = x.seq) (hf : ∀ x, x.seq ≠ n → f x = x) : SeqOnly n p s (s.modPages p fun ps => ps.map f) := by
  refine modPages s fun m hm => ?_
  have hcomp : ((fun x : Page => x.seq == m) ∘ f) = fun x => x.seq == m := funext fun x => by rw [Function.comp_apply, hseq]
  rw [List.filter_map, hcomp]
  refine (List.map_congr_left fun x hx => ?_).trans (List.map_id _)
  exact hf x (eq_of_beq (List.mem_filter.mp hx).2 ▸ hm)

theorem repinned (s : State) (d : PageDesc) (f : Nat → Nat) : SeqOnly d.sequence d.pool s (s.repinned d f) := by
  refine mapPages s (fun x => ?_) fun x hx => ?_
  · split <;> rfl
  · rw [inRange, beq_eq_false_iff_ne.mpr hx]
    rfl

variable (h : SeqOnly n p s u)
include h

theorem mem : u.mem = s.mem := by rw [h.rest]

theorem log : u.log = s.log := by rw [h.rest]

theorem standing : u.standing = s.standing := by rw [h.rest]; rfl

theorem nat (key : Key) : u.nat key = s.nat key := by rw [h.rest]; rfl

theorem droppedPages {m : Nat} (hm : m ≠ n) (j : Fin 4) : u.droppedPages j m = s.droppedPages j m := by
  unfold State.droppedPages
  by_cases hj : j = p
  · subst hj
    have hsplit : ∀ ps : List Page, (ps.filter fun x => x.seq == m && x.dropped) = (ps.filter fun x => x.seq == m).filter Page.dropped := fun ps => by
      rw [List.filter_filter]
      exact List.filter_congr fun x _ => Bool.and_comm ..
    rw [hsplit, hsplit, h.pages m hm]
  · rw [h.pools j hj]

/-- The record of another sequence shows what it showed. -/
theorem recordBytes {m : Nat} (hm : m ≠ n) (old : State) : u.recordBytes old m = s.recordBytes old m := by
  have hbytes : ∀ q, u.seqBytes m q = s.seqBytes m q := fun q => State.seqBytes_congr (h.droppedPages hm _)
  simp only [State.recordBytes, h.seqs m hm, hbytes]

end SeqOnly

end

/-! ## The operations of PAGE_CTRL (R248, R257) -/

section
variable {s : State} {r : Fin 10} {d : PageDesc} {ok : KvSeq → Bool} {run : KvSeq → State} {q : KvSeq}

theorem State.onSeq_closed (h : s.seqOf d.sequence = none) : s.onSeq r d ok run = s.refuseKv r d.pool d.header := by
  rw [State.onSeq, h]

theorem State.pageOpen_refuses (h : (s.seqOf d.sequence).isSome = true ∨ s.openOk d = false) : s.pageOpen r d = s.refuseKv r d.pool d.header :=
  if_pos (h.imp id fun hok => by rw [hok]; rfl)

theorem State.pageOpen_opens (h : s.seqOf d.sequence = none) (hok : s.openOk d = true) : s.pageOpen r d = (s.putSeq d.sequence (openedSeq d)).pageDone r d :=
  if_neg (by simp [h, hok])

theorem State.declareLate_within (s : State) (r : Fin 10) (h : BitVec 128) {need allowance : Nat} (hneed : need ≤ allowance) :
    s.declareLate r h need allowance = (false, s) := by
  unfold State.declareLate
  split
  · exact if_pos hneed
  · rfl

variable (h : s.seqOf d.sequence = some q)
include h

theorem State.onSeq_refuses (hno : ok q = false) : s.onSeq r d ok run = s.refuseKv r d.pool d.header := by
  rw [State.onSeq, h]
  exact if_neg fun hyes => absurd hyes.2 (by rw [hno]; exact Bool.false_ne_true)

theorem State.onSeq_runs (hpool : q.pool = d.pool) (hok : ok q = true) : s.onSeq r d ok run = run q := by
  rw [State.onSeq, h]
  exact if_pos ⟨hpool, hok⟩

variable (hpool : q.pool = d.pool)

theorem State.pageTrim_refuses (hno : d.pos0 % 256 ≠ 0 ∨ d.pos0 < q.firstValid ∨ q.length < d.pos0) : s.pageTrim r d = s.refuseKv r d.pool d.header :=
  State.onSeq_refuses h (decide_eq_false (by omega))

theorem State.pagePin_refuses (hno : q.state ≠ 1 ∨ d.pos1 < d.pos0) : s.pagePin r d = s.refuseKv r d.pool d.header :=
  State.onSeq_refuses h (by
    rcases hno with hstate | hpos
    · rw [beq_eq_false_iff_ne.mpr hstate, Bool.false_and]
    · rw [decide_eq_false (Nat.not_le.mpr hpos), Bool.and_false])

theorem State.pageUnpin_refuses (hno : d.pos1 < d.pos0) : s.pageUnpin r d = s.refuseKv r d.pool d.header :=
  State.onSeq_refuses h (decide_eq_false (Nat.not_le.mpr hno))

theorem State.pageResume_refuses (hno : q.state ≠ 2) : s.pageResume r d = s.refuseKv r d.pool d.header :=
  State.onSeq_refuses h (beq_eq_false_iff_ne.mpr hno)

theorem State.pageSet_refuses (hno : 16 ≤ d.priority ∨ 65536 ≤ d.pinHead ∨ 65536 ≤ d.pinTail) : s.pageSet r d = s.refuseKv r d.pool d.header :=
  State.onSeq_refuses h (decide_eq_false (by omega))

include hpool

theorem State.pageClose_closes : s.pageClose r d = ((s.modPages d.pool fun ps => ps.filter fun x => x.seq != d.sequence).delSeq d.sequence).pageDone r d :=
  State.onSeq_runs h hpool rfl

theorem State.pageTrim_trims (haligned : d.pos0 % 256 = 0) (hlo : q.firstValid ≤ d.pos0) (hhi : d.pos0 ≤ q.length) :
    s.pageTrim r d = ((s.modPages d.pool fun ps => ps.filter fun x => x.seq != d.sequence || decide (d.pos0 < x.firstToken + 256)).putSeq d.sequence
      { q with firstValid := d.pos0 }).pageDone r d := by
  rw [State.pageTrim, State.onSeq_runs h hpool (decide_eq_true ⟨haligned, hlo, hhi⟩)]
  exact congrArg (State.pageDone · r d) (State.modSeq_open (s := s.modPages d.pool _) h _)

theorem State.pagePin_pins (hstate : q.state = 1) (hpos : d.pos0 ≤ d.pos1) (hdrops : s.droppedIn d.pool d.sequence (List.range (q.layers + 1)) d.pos0 d.pos1 = []) :
    s.pagePin r d = (s.repinned d fun k => min 255 (k + 1)).pageDone r d := by
  rw [State.pagePin, State.onSeq_runs h hpool (by rw [hstate, decide_eq_true hpos]; rfl), hdrops]
  extract_lets drops late rec_
  have hlate : late = (false, s) := s.declareLate_within r d.header (Nat.zero_le _)
  have hrec : rec_ = (.done, s) := congrArg (fun l : Bool × State => l.2.recomputeAll d.sequence q (inRange d) []) hlate
  rw [hrec, hlate]
  rfl

theorem State.pageUnpin_unpins (hpos : d.pos0 ≤ d.pos1) : s.pageUnpin r d = (s.repinned d fun k => k - 1).pageDone r d :=
  State.onSeq_runs h hpool (decide_eq_true hpos)

theorem State.pageResume_resumes (hstate : q.state = 2) : s.pageResume r d = (s.putSeq d.sequence { q with state := 1 }).pageDone r d := by
  rw [State.pageResume, State.onSeq_runs h hpool (by rw [hstate]; rfl), State.modSeq_open h]

theorem State.pageSet_sets (hpriority : d.priority < 16) (hhead : d.pinHead < 65536) (htail : d.pinTail < 65536) :
    s.pageSet r d = (s.putSeq d.sequence { q with priority := d.priority, pinHead := d.pinHead, pinTail := d.pinTail }).pageDone r d := by
  rw [State.pageSet, State.onSeq_runs h hpool (decide_eq_true ⟨hpriority, hhead, htail⟩), State.modSeq_open h]

end

end Sys2Proof.Machine

namespace Sys2Proof

open Machine

/-! ## How a page control starts -/

/-- A page control that its engine admits: it can start, its header is right, and its pool is enabled, owned by the region, and of its class (R165, R246, R247). -/
structure PageAdmitted (s : State) (r : Fin 10) (d : PageDesc) : Prop where
  starts : ZooStarts s r d.header
  header : HeaderOk s r d.header 0x11 (hClass d.header == d.queue) (get? s.regions[r].prevSeq (zooQueue 0x11 d.queue 0))
  operation : hOperation d.header = 3
  enabled : s.flag (poolObj d.pool 1) = true
  owner : s.nat (poolObj d.pool 3) = r.val
  cls : s.nat (poolObj d.pool 2) = hClass d.header

/-- A page control, and the operation that it runs. -/
inductive IsPage (t : Nat) (r : Fin 10) (d : PageDesc) : Instr → (State → State) → Prop where
  | opening : IsPage t r d (.pageCtrlOpen t r d) fun s => s.pageOpen r d
  | close : IsPage t r d (.pageCtrlClose t r d) fun s => s.pageClose r d
  | trim : IsPage t r d (.pageCtrlTrim t r d) fun s => s.pageTrim r d
  | pin : IsPage t r d (.pageCtrlPin t r d) fun s => s.pagePin r d
  | unpin : IsPage t r d (.pageCtrlUnpin t r d) fun s => s.pageUnpin r d
  | resume : IsPage t r d (.pageCtrlResume t r d) fun s => s.pageResume r d
  | set : IsPage t r d (.pageCtrlSet t r d) fun s => s.pageSet r d

/-- The state in which a page control starts. -/
def pageStart (s : State) (t : Nat) (r : Fin 10) (d : PageDesc) : State := zooNoted (s.advance t) r (zooQueue 0x11 d.queue 0) d.header

section
variable {s : State} {t : Nat} {r : Fin 10} {d : PageDesc} {c : Instr} {run : State → State}

theorem pageStart_standing : (pageStart s t r d).standing = s.standing := zooNoted_standing ..

theorem pageStart_mem : (pageStart s t r d).mem = s.mem := rfl

theorem pageStart_log : (pageStart s t r d).log = s.log := rfl

theorem pageStart_kv : (pageStart s t r d).kv = s.kv := rfl

theorem pageStart_nat (key : Key) : (pageStart s t r d).nat key = s.nat key := rfl

/-- A page control on a sequence that is closed, but for OPEN, is refused. -/
theorem isPage_of_closed (h : s.seqOf d.sequence = none)
    (hc : c = .pageCtrlClose t r d ∨ c = .pageCtrlTrim t r d ∨ c = .pageCtrlPin t r d ∨ c = .pageCtrlUnpin t r d ∨ c = .pageCtrlResume t r d ∨ c = .pageCtrlSet t r d) :
    ∃ run, IsPage t r d c run ∧ run (pageStart s t r d) = (pageStart s t r d).refuseKv r d.pool d.header := by
  rcases hc with rfl | rfl | rfl | rfl | rfl | rfl
  · exact ⟨_, .close, State.onSeq_closed h⟩
  · exact ⟨_, .trim, State.onSeq_closed h⟩
  · exact ⟨_, .pin, State.onSeq_closed h⟩
  · exact ⟨_, .unpin, State.onSeq_closed h⟩
  · exact ⟨_, .resume, State.onSeq_closed h⟩
  · exact ⟨_, .set, State.onSeq_closed h⟩

namespace IsPage

variable (hc : IsPage t r d c run)
include hc

theorem exec : exec c s = .next ((s.advance t).submit c) := by cases hc <;> rfl

theorem route (x : State) : x.routeOf c = some (.ofZoo 0x11 r d.queue) := by cases hc <;> rfl

theorem header : descHeader c = some d.header := by cases hc <;> rfl

theorem startCmd (x : State) : x.startCmd c = x.startPage r d run := by cases hc <;> rfl

variable (hadmitted : PageAdmitted s r d)
include hadmitted

theorem runs : Machine.exec c s = .next (((run (pageStart s t r d)).showKv (pageStart s t r d) d.pool).countTokens r 1) := by
  obtain ⟨hstart, hok, hop, hflag, howner, hcls⟩ := hadmitted
  refine hc.exec.trans (congrArg Host.Outcome.next ((State.submit_zoo (s := s.advance t) hc.route hc.header ⟨hstart.logic, hstart.may, hstart.commits, hstart.queue⟩
    ⟨hok.fields, hok.cls, hok.sequence, hok.status, hok.room⟩).trans ((hc.startCmd _).trans ?_)))
  have henabled : (pageStart s t r d).flag (poolObj d.pool 1) = true := hflag
  have hbody : (!(hOperation d.header == 3) || !(pageStart s t r d).flag (poolObj d.pool 1) || (pageStart s t r d).nat (poolObj d.pool 3) != r.val) = false := by
    rw [hop, henabled, pageStart_nat, howner, bne_self_eq_false]
    rfl
  show (pageStart s t r d).attention r d.pool d.header (hOperation d.header == 3) run = _
  rw [State.attention, if_neg (by rw [hbody]; exact Bool.false_ne_true), if_neg (by rw [pageStart_nat, hcls]; exact not_not_intro rfl)]

end IsPage

end

/-! ## How a page control ends -/

/-- A page control has completed: the pools are those of `y`, and nothing but its sequence and the pages of that has changed since `s`. Where the pool's records have no place, memory holds the status record and is unchanged otherwise; where they have one, the sequence's record lies there (log entry 64). -/
structure PageEnds (s y u : State) (r : Fin 10) (d : PageDesc) : Prop where
  kv : u.kv = y.kv
  launch : u.launch = s.launch
  log : u.log = s.log
  seqs : ∀ m, m ≠ d.sequence → u.seqOf m = s.seqOf m
  pools : ∀ j : Fin 4, j ≠ d.pool → u.kv.pages[j] = s.kv.pages[j]
  ends : s.kvPlace d.pool = none → QuantEnds s u r d.header 0 0 0 false 16
  shown : ∀ k q, s.kvPlace d.pool = some k → s.seqOf d.sequence = some q ∨ y.seqOf d.sequence = some q → q.pool = d.pool →
    Apart (s.recordPlace d.pool k d.sequence) 32 (statusPlace r d.header) 16 →
    s.recordBytes s d.sequence = [] ∨ s.load (s.recordPlace d.pool k d.sequence) 32 = s.recordBytes s d.sequence →
    u.load (s.recordPlace d.pool k d.sequence) 32 = y.recordBytes s d.sequence

theorem quantEnds_refuseKv {s x : State} {r : Fin 10} {h : BitVec 128} (hmem : x.mem = s.mem) (hstanding : x.standing = s.standing)
    (hstatus : s.permits (hClass h) (statusPlace r h) 16 true = true) (p : Fin 4) : QuantEnds s (x.refuseKv r p h) r h 0x0200 0x0600 0 false 16 := by
  obtain ⟨hrecord, hleaves⟩ := quantEnds_complete hmem hstanding hstatus stHeaderInvalid 0x0600 0 false
  rw [State.refuseKv]
  exact ⟨statusIs_of_mem hrecord (State.fault_mem ..), hleaves.trans (.of_mem (State.fault_mem ..) (State.fault_standing ..))⟩

section
variable {s x y : State} {r : Fin 10} {d : PageDesc} (hkv : x.kv = s.kv) (hmem : x.mem = s.mem) (hstanding : x.standing = s.standing)
  (hnat : x.nat (poolObj d.pool 3) = s.nat (poolObj d.pool 3)) (honly : SeqOnly d.sequence d.pool x y)
  (hstatus : s.permits (hClass d.header) (statusPlace r d.header) 16 true = true)
include hkv hmem hstanding hnat honly hstatus

theorem pageDone_shows {k : Nat × Nat} {q : KvSeq} (hk : s.kvPlace d.pool = some k) (hq : s.seqOf d.sequence = some q ∨ y.seqOf d.sequence = some q)
    (hpool : q.pool = d.pool) (hapart : Apart (s.recordPlace d.pool k d.sequence) 32 (statusPlace r d.header) 16)
    (hold : s.recordBytes s d.sequence = [] ∨ s.load (s.recordPlace d.pool k d.sequence) 32 = s.recordBytes s d.sequence) :
    ((y.pageDone r d).showKv x d.pool).load (s.recordPlace d.pool k d.sequence) 32 = y.recordBytes s d.sequence := by
  have hdone : QuantEnds s (y.pageDone r d) r d.header 0 0 0 false 16 := quantEnds_complete (honly.mem.trans hmem) (honly.standing.trans hstanding) hstatus 0 0 0 false
  have hdoneKv : (y.pageDone r d).kv = y.kv := y.complete_keeps State.kv (fun _ _ _ => rfl) (fun _ _ => rfl) ..
  have hdoneNat : (y.pageDone r d).nat (poolObj d.pool 3) = y.nat (poolObj d.pool 3) := y.complete_keeps (State.nat · (poolObj d.pool 3)) (fun _ _ _ => rfl) (fun _ _ => rfl) ..
  have hplace : (y.pageDone r d).kvPlace d.pool = some k := (State.kvPlace_congr hdone.leaves.launch d.pool).trans hk
  have hrecordPlace := State.recordPlace_congr (hdoneNat.trans ((honly.nat _).trans hnat))
  have hnew : ∀ m, (y.pageDone r d).recordBytes x m = y.recordBytes s m := State.recordBytes_congr hdoneKv hkv
  have hbefore : ∀ m, x.recordBytes x m = s.recordBytes s m := State.recordBytes_congr hkv hkv
  have hseq : x.seqOf d.sequence = some q ∨ (y.pageDone r d).seqOf d.sequence = some q :=
    hq.imp (State.seqOf_congr hkv _).trans (State.seqOf_congr hdoneKv _).trans
  have hlength := State.recordBytes_length hseq
  rw [← hnew, ← hrecordPlace]
  refine State.showKv_load hplace (fun m hm => ?_) hseq hpool fun hsame => ?_
  · rw [hnew, hbefore, honly.recordBytes hm s, State.recordBytes_congr hkv rfl]
  · rw [hsame, hbefore] at hlength ⊢
    rw [hrecordPlace, hdone.leaves.writes _ _ (by decide : 1 < 3) (List.forall_mem_singleton.mpr hapart)]
    exact hold.resolve_left fun hnil => absurd hlength (by rw [hnil]; decide)

/-- An operation that completes shows its sequence's record, after it has written its status record. -/
theorem pageDone_ends (hlog : x.log = s.log) : PageEnds s y (((y.pageDone r d).showKv x d.pool).countTokens r 1) r d := by
  have hdone : QuantEnds s (y.pageDone r d) r d.header 0 0 0 false 16 := quantEnds_complete (honly.mem.trans hmem) (honly.standing.trans hstanding) hstatus 0 0 0 false
  have hdoneKv : ((y.pageDone r d).showKv x d.pool).kv = y.kv :=
    (State.showKv_keeps State.kv (fun _ _ _ => rfl) ..).trans (y.complete_keeps State.kv (fun _ _ _ => rfl) (fun _ _ => rfl) ..)
  have hlaunch : ((y.pageDone r d).showKv x d.pool).launch = (y.pageDone r d).launch := State.showKv_keeps State.launch (fun _ _ _ => rfl) ..
  have hdoneLog : ((y.pageDone r d).showKv x d.pool).log = (y.pageDone r d).log := State.showKv_keeps State.log (fun _ _ _ => rfl) ..
  have hcounted : (((y.pageDone r d).showKv x d.pool).countTokens r 1).kv = y.kv := (State.countTokens_kv ..).trans hdoneKv
  exact {
    kv := hcounted
    launch := (launch_of_standing (State.countTokens_standing ..)).trans (hlaunch.trans hdone.leaves.launch)
    log := (State.countTokens_log ..).trans (hdoneLog.trans ((State.complete_log ..).trans (honly.log.trans hlog)))
    seqs := fun m hm => (State.seqOf_congr hcounted m).trans ((honly.seqs m hm).trans (State.seqOf_congr hkv m))
    pools := fun j hj => by rw [hcounted, honly.pools j hj, hkv]
    ends := fun hnone => by
      rw [State.showKv_unplaced ((State.kvPlace_congr hdone.leaves.launch d.pool).trans hnone)]
      exact hdone.countTokens 1
    shown := fun k q hk hq hpool hapart hold =>
      (State.load_congr (State.countTokens_mem ..) ..).trans (pageDone_shows hkv hmem hstanding hnat honly hstatus hk hq hpool hapart hold) }

end

section
variable {s y : State} {t : Nat} {r : Fin 10} {d : PageDesc} {c : Instr} {run : State → State} (hc : IsPage t r d c run) (hadmitted : PageAdmitted s r d)
include hc hadmitted

theorem page_refused (hrun : run (pageStart s t r d) = (pageStart s t r d).refuseKv r d.pool d.header) :
    Ends c s fun u => QuantEnds s u r d.header 0x0200 0x0600 0 false 16 ∧ u.kv = s.kv := by
  have hkv : ((pageStart s t r d).refuseKv r d.pool d.header).kv = (pageStart s t r d).kv := State.refuseKv_kv ..
  have hends := quantEnds_refuseKv (x := pageStart s t r d) pageStart_mem pageStart_standing hadmitted.header.status d.pool
  refine ⟨_, hc.runs hadmitted, ?_⟩
  rw [hrun, State.showKv_same hkv]
  exact ⟨hends.countTokens 1, (State.countTokens_kv ..).trans (hkv.trans pageStart_kv)⟩

theorem page_ends (hrun : run (pageStart s t r d) = y.pageDone r d) (honly : SeqOnly d.sequence d.pool (pageStart s t r d) y) : Ends c s fun u => PageEnds s y u r d := by
  refine ⟨_, hc.runs hadmitted, ?_⟩
  rw [hrun]
  exact pageDone_ends pageStart_kv pageStart_mem pageStart_standing (pageStart_nat _) honly hadmitted.header.status pageStart_log

end

namespace PageEnds

variable {s y u : State} {r : Fin 10} {d : PageDesc} (h : PageEnds s y u r d)
include h

/-- The clauses that the statement has of every operation that completes. -/
theorem clauses : (s.kvPlace d.pool = none → StatusIs u r d.header 0 0 0 false false)
    ∧ ((s.kvPlace d.pool = none → ∀ (q : MemRef) (k : Nat), q.inside k = true → Apart q k (statusPlace r d.header) 16 → u.load q k = s.load q k) ∧ u.launch = s.launch)
    ∧ u.log = s.log ∧ (∀ m, m ≠ d.sequence → u.seqOf m = s.seqOf m) ∧ ∀ j : Fin 4, j ≠ d.pool → u.kv.pages[j] = s.kv.pages[j] :=
  ⟨fun hnone => (h.ends hnone).status, ⟨fun hnone => (h.ends hnone).leaves.kept, h.launch⟩, h.log, h.seqs, h.pools⟩

theorem seqOf (n : Nat) : u.seqOf n = y.seqOf n := State.seqOf_congr h.kv n

theorem pages : u.kv.pages = y.kv.pages := congrArg Kv.pages h.kv

theorem pool (j : Fin 4) : u.kv.pages[j] = y.kv.pages[j] := by rw [h.kv]

/-- The sequence's record at its place, where there was the one of `old` bytes. -/
theorem shows {q : KvSeq} {old new : Bytes} (hold : s.recordBytes s d.sequence = old) (hnew : u.recordBytes s d.sequence = new)
    (hq : s.seqOf d.sequence = some q ∨ y.seqOf d.sequence = some q) (hpool : q.pool = d.pool) (k : Nat × Nat) (hk : s.kvPlace d.pool = some k)
    (_ : (s.recordPlace d.pool k d.sequence).inside 32 = true)
    (hapart : (s.recordPlace d.pool k d.sequence).key + 32 ≤ (statusPlace r d.header).key ∨ (statusPlace r d.header).key + 16 ≤ (s.recordPlace d.pool k d.sequence).key)
    (hread : old = [] ∨ s.load (s.recordPlace d.pool k d.sequence) 32 = old) : u.load (s.recordPlace d.pool k d.sequence) 32 = new := by
  rw [h.shown k q hk hq hpool (.inr hapart) (hold ▸ hread), ← hnew, State.recordBytes_congr h.kv rfl]

end PageEnds

end Sys2Proof

namespace Sys2Proof

open Machine

/-- Settles O57: a page control runs on the pools alone (`IsPage.runs`), what it makes of them touches its own sequence and pages only (`SeqOnly`), and where the records have a place its sequence's is the one that is stored (`State.showKv_load`). -/
theorem pageControlsChangeTheirSequence : Obligations.PageControlsChangeTheirSequence := by
  intro s t r d h n p st kept shown done refused hstart hok hop hflag howner hcls
  have hadmitted : PageAdmitted s r d := ⟨hstart, hok, hop, hflag, howner, hcls⟩
  have hrefuses : ∀ {c : Instr} {run : State → State}, IsPage t r d c run → run (pageStart s t r d) = (pageStart s t r d).refuseKv r d.pool d.header → Ends c s refused := by
    intro c run hc hrun
    obtain ⟨u, hu, hends, hkv⟩ := page_refused hc hadmitted hrun
    exact ⟨u, hu, hends.status, ⟨fun _ => hends.leaves.kept, hends.leaves.launch⟩, hkv⟩
  refine ⟨fun hno => hrefuses .opening (State.pageOpen_refuses hno), fun hclosed => ⟨fun hopen => ?_, fun c hc => ?_⟩, fun q hq hpool => ⟨?_, fun hno => ?_, fun haligned hlo hhi => ?_,
    fun hno => ?_, fun hstate hpos hdrops => ?_, fun hno => ?_, fun hpos => ?_, fun hno => ?_, fun hstate => ?_, fun hpriority hhead htail => ?_, fun hno => ?_⟩⟩
  · obtain ⟨u, hu, hends⟩ := page_ends .opening hadmitted (State.pageOpen_opens hclosed hopen) (.putSeq ..)
    have hseq : u.seqOf n = some (openedSeq d) := (hends.seqOf n).trans State.putSeq_seqOf_self
    refine ⟨u, hu, hends.clauses, hseq, hends.pages, hends.shows (State.recordBytes_nil hclosed hclosed) ?_ (.inr State.putSeq_seqOf_self) rfl⟩
    exact (State.recordBytes_open hseq).trans (State.seqBytes_congr (by rw [State.droppedPages, hends.kv]; rfl))
  · obtain ⟨run, hpage, hrun⟩ := isPage_of_closed hclosed hc
    exact hrefuses hpage hrun
  · obtain ⟨u, hu, hends⟩ := page_ends .close hadmitted (State.pageClose_closes hq hpool) ((SeqOnly.filterPages _ fun x hx => bne_iff_ne.mpr hx).trans (.delSeq ..))
    have hseq : u.seqOf n = none := (hends.seqOf n).trans State.delSeq_seqOf_self
    exact ⟨u, hu, hends.clauses, hseq, (hends.pool p).trans (State.modPages_pages ..),
      hends.shows (State.recordBytes_open hq) (State.recordBytes_closed hseq hq) (.inl hq) hpool⟩
  · exact hrefuses .trim (State.pageTrim_refuses hq hno)
  · obtain ⟨u, hu, hends⟩ := page_ends .trim hadmitted (State.pageTrim_trims hq hpool haligned hlo hhi)
      ((SeqOnly.filterPages _ fun x hx => by rw [bne_iff_ne.mpr hx, Bool.true_or]).trans (.putSeq ..))
    have hseq : u.seqOf n = some { q with firstValid := d.pos0 } := (hends.seqOf n).trans State.putSeq_seqOf_self
    exact ⟨u, hu, hends.clauses, hseq, (hends.pool p).trans (State.modPages_pages ..),
      hends.shows (State.recordBytes_open hq) (State.recordBytes_open hseq) (.inl hq) hpool⟩
  · exact hrefuses .pin (State.pagePin_refuses hq hno)
  · obtain ⟨u, hu, hends⟩ := page_ends .pin hadmitted (State.pagePin_pins hq hpool hstate hpos hdrops) (.repinned ..)
    exact ⟨u, hu, hends.clauses, (hends.seqOf n).trans hq, (hends.pool p).trans (State.modPages_pages ..)⟩
  · exact hrefuses .unpin (State.pageUnpin_refuses hq hno)
  · obtain ⟨u, hu, hends⟩ := page_ends .unpin hadmitted (State.pageUnpin_unpins hq hpool hpos) (.repinned ..)
    exact ⟨u, hu, hends.clauses, (hends.seqOf n).trans hq, (hends.pool p).trans (State.modPages_pages ..)⟩
  · exact hrefuses .resume (State.pageResume_refuses hq hno)
  · obtain ⟨u, hu, hends⟩ := page_ends .resume hadmitted (State.pageResume_resumes hq hpool hstate) (.putSeq ..)
    have hseq : u.seqOf n = some { q with state := 1 } := (hends.seqOf n).trans State.putSeq_seqOf_self
    exact ⟨u, hu, hends.clauses, hseq, hends.pages,
      hends.shows (State.recordBytes_open hq) (State.recordBytes_open hseq) (.inl hq) hpool⟩
  · obtain ⟨u, hu, hends⟩ := page_ends .set hadmitted (State.pageSet_sets hq hpool hpriority hhead htail) (.putSeq ..)
    have hseq : u.seqOf n = some { q with priority := d.priority, pinHead := d.pinHead, pinTail := d.pinTail } := (hends.seqOf n).trans State.putSeq_seqOf_self
    exact ⟨u, hu, hends.clauses, hends.pages, hseq,
      hends.shows (State.recordBytes_open hq) (State.recordBytes_open hseq) (.inl hq) hpool⟩
  · exact hrefuses .set (State.pageSet_refuses hq hno)

end Sys2Proof

/-!
The family of spec/11_camera_inputs_and_isp.md: camera lines and camera registers (O58).
-/

namespace Sys2Proof.Machine

/-! ## A camera register request while the session assembles another (R129, R292) -/

/-- The first byte of a request for 0x2801:01, with more to come (R129). -/
def firstSegment : Item := { index := 0x2801, sub := 1, offset := 0, length := 1, staged := false, final := false, data := [24] }

/-- The state after the reset and that item: the PCIe session assembles a write of 0x2801:01. -/
def segmentHeld : State := (State.reset.assemble .pcie (ob 0x2801 1) firstSegment).1

theorem segmentHeld_asm : segmentHeld.dict.asm = [⟨.pcie, ob 0x2801 1, [24]⟩] := rfl

theorem segmentHeld_writesAct : WritesAct segmentHeld .pcie :=
  { works := rfl, latched := rfl, group := rfl, implicit := rfl, instant := rfl, owed := rfl, owner := rfl, run := rfl }

/-- A whole request for stream 24, which is none. -/
def strayRequest : Bytes := 24 :: List.replicate 9 0

/-- The DOMAIN writes under way in the state that a command answers. -/
def assembliesAfter (c : Instr) (s : State) : Option (List Assembly) :=
  match exec c s with
  | .next u => some u.dict.asm
  | _ => none

/-- An item at offset 0 discards the session's assembly of the object (R129). -/
theorem strayRequest_discards : assembliesAfter (.cameraRegisterRequest 0 .pcie strayRequest 0 []) segmentHeld = some [] := by decide +kernel

end Sys2Proof.Machine

namespace Sys2Proof

open Machine

/-- The bookkeeping of a request leaves the DOMAIN writes under way as they are. -/
theorem Books.asm {s u : State} (h : Books s u) : u.dict.asm = s.dict.asm := by rw [h.1]

/-- Refutes O58 at its clause on camera register requests: the clause does not ask that the session assembles no write of 0x2801:01, and where it does, the request, a whole item at offset 0, discards that assembly (R129), so more changes than the answering object and the bookkeeping. -/
theorem not_cameraLinesArriveOrAreBlanked : ¬ Obligations.CameraLinesArriveOrAreBlanked := by
  intro h
  obtain ⟨-, -, -, -, -, -, -, hrequests, -⟩ := h segmentHeld 0 0
  obtain ⟨hunknown, -⟩ := hrequests .pcie strayRequest 0 [] segmentHeld_writesAct rfl
  obtain ⟨u, hexec, hbooks, -⟩ := hunknown (by decide)
  have hkept : u.dict.asm = segmentHeld.dict.asm := hbooks.asm
  have hdiscarded := strayRequest_discards
  simp [assembliesAfter, hexec, hkept, segmentHeld_asm] at hdiscarded

end Sys2Proof

/-!
The family of spec/12_illumination_heads.md: illumination heads (O59).
-/

namespace Sys2Proof.Machine

/-! ## A captured target that the Crust's active set holds (R309) -/

/-- An active set of the Crust that also holds the reference target of head 0, with the value 0. The validation of R380 takes only objects of the Crust into a set (`entryValue`), but `WritesAct` does not ask what the active set holds. -/
def targetSet : ParamSet := { consumerSet with values := [(headObj 0 7, .int 0)] }

/-- The state after the reset, with that set active and head 0 enabled: it has seen one record of mean 1.0, and the capture of its target has been asked for. -/
def targetFixed : State :=
  ((State.reset.modCrust fun c => { c with active := some targetSet }).setObj (headObj 0 1) (.int 1)).modHead 0 fun x =>
    { x with means := [0x3F800000], capture := true }

theorem targetFixed_writesAct : WritesAct targetFixed .pcie :=
  { works := rfl, latched := rfl, group := rfl, implicit := rfl, instant := rfl, owed := rfl, owner := rfl, run := rfl }

/-- Head 0 is on, in safe default, with a record of the interval, whose end is due. -/
theorem targetFixed_intervalEnds : (targetFixed.advance 0).due targetFixed.heads[(0 : Fin 12)].intervalAt headInterval = true
    ∧ targetFixed.heads[(0 : Fin 12)].means ≠ [] ∧ targetFixed.headOn 0 = true ∧ targetFixed.heads[(0 : Fin 12)].safe = true
    ∧ targetFixed.heads[(0 : Fin 12)].capture = true := by decide +kernel

/-- The value of an object in the state that a command answers. -/
def valueAfter (c : Instr) (s : State) (key : Key) : Option Val :=
  match exec c s with
  | .next u => some (u.obj key)
  | _ => none

/-- The target reads as the set's value, whatever is captured. -/
theorem targetFixed_keepsTarget : valueAfter (.compensationIntervalEnd 0 0) targetFixed (headObj 0 7) = some (.int 0) := by decide +kernel

/-- The mean of the one record is 1.0. -/
theorem targetFixed_mean : meanOfMeans targetFixed.heads[(0 : Fin 12)].means = 0x3F800000 := by decide +kernel

end Sys2Proof.Machine

namespace Sys2Proof

open Machine

/-- Refutes O59 at its clause on the captured target: the value of an object is read from the Crust's active set first, so where that set holds the head's reference target, the target does not become the interval's mean. -/
theorem not_headsAreAuthenticatedWornAndDriven : ¬ Obligations.HeadsAreAuthenticatedWornAndDriven := by
  intro h
  obtain ⟨-, -, -, -, -, hcompensates, -⟩ := h targetFixed 0 0
  obtain ⟨-, -, hends, -⟩ := hcompensates .pcie targetFixed_writesAct
  obtain ⟨hdue, hmeans, hon, hsafe, hcapture⟩ := targetFixed_intervalEnds
  obtain ⟨u, hexec, -, -, -, -, hcaptured⟩ := (hends hdue hmeans hon).1 (.inl hsafe)
  have htarget : u.obj (headObj 0 7) = .int (0x3F800000 : Nat) := targetFixed_mean ▸ hcaptured hcapture
  have hkept := targetFixed_keepsTarget
  simp [valueAfter, hexec, htarget] at hkept

end Sys2Proof

/-!
The family of spec/14_motion_unit_and_field_ports.md: converters, encoders and current channels (O24), digital inputs (O26), sensor supplies (O27).
-/

namespace Sys2Proof.Machine

/-! ## A supply that discharges while the field supply is lost (R351, R352) -/

/-- The state after the reset, with the field supply lost and supply 0 on its way to 5 V. -/
def unpoweredDischarge : State :=
  (State.reset.modPower fun p => { p with fieldOk := false }).modSupply 0 fun x => { x with state := 3, command := 1 }

theorem unpoweredDischarge_supply : unpoweredDischarge.motion.supplies[(0 : Fin 16)].state = 3
    ∧ unpoweredDischarge.motion.supplies[(0 : Fin 16)].latched = none := by decide +kernel

/-- The state of supply 0 in the state that a command answers. -/
def supplyAfter (c : Instr) (s : State) : Option Nat :=
  match exec c s with
  | .next u => some u.motion.supplies[(0 : Fin 16)].state
  | _ => none

theorem unpoweredDischarge_off : supplyAfter (.supplyDischargeComplete 0 0) unpoweredDischarge = some 0 := by decide +kernel

end Sys2Proof.Machine

namespace Sys2Proof

open Machine

/-- Refutes O27 at its clause on the end of a discharge: the clause does not ask for the field supply, and where that is lost, the supply stays off and does not take the state that its command asks for. -/
theorem not_suppliesAndDigitalOutputs : ¬ Obligations.SuppliesAndDigitalOutputs := by
  intro h
  obtain ⟨-, -, -, -, hdischarged, -⟩ := (h.2 unpoweredDischarge 0).1 0
  obtain ⟨hstate, hlatched⟩ := unpoweredDischarge_supply
  have hon : supplyAfter (.supplyDischargeComplete 0 0) unpoweredDischarge = some 1 := by
    rw [supplyAfter, hdischarged hstate hlatched]
    rfl
  exact absurd (hon.symm.trans unpoweredDischarge_off) (by decide)

end Sys2Proof

namespace Sys2Proof.Machine

/-! ## Units changed twice, or in two ways that agree -/

theorem upd_congr {α : Type} {n : Nat} {v : Vector α n} {i : Fin n} {f g : α → α} (h : f v[i] = g v[i]) : upd v i f = upd v i g := by
  rw [upd, upd, h]

theorem upd_upd {α : Type} {n : Nat} (v : Vector α n) (i : Fin n) (f g : α → α) : upd (upd v i f) i g = upd v i fun x => g (f x) := by
  rw [upd, upd_getElem_self]
  simp [upd]

/-! ## Converter channels (R340) -/

section
variable {s : State} {ch : Fin 32}

theorem State.adcStart_not_due (h : s.adcDue ch = false) : s.adcStart ch = s := by simp [State.adcStart, h]

theorem State.adcStart_free (hdue : s.adcDue ch = true) (hfree : ∀ c, s.motion.adcs[ch].started = some c → c + 500 ≤ s.now) :
    s.adcStart ch = s.modAdc ch fun x => { x with started := some s.now } := by
  have hidle : ¬ (s.motion.adcs[ch].started.any fun st => decide (s.now < st + 500)) = true := by
    rw [Option.any_eq_true]
    rintro ⟨c, hc, hbusy⟩
    exact Nat.not_lt.mpr (hfree c hc) (of_decide_eq_true hbusy)
  rw [State.adcStart, hdue, if_neg hidle]
  rfl

theorem State.adcStart_busy {c : Nat} (hstarted : s.motion.adcs[ch].started = some c) (hdue : s.adcDue ch = true) (hbusy : s.now < c + 500) :
    s.adcStart ch = s.bump (ob 0x4080 9) := by simp [State.adcStart, hdue, hstarted, hbusy, -Fin.getElem_fin]

theorem State.adcDone_ready {c : Nat} (hstarted : s.motion.adcs[ch].started = some c) (hready : c + 500 ≤ s.now) (value : Int) :
    s.adcDone ch value = s.modAdc ch fun x => { x with started := none, value := max (-32768) (min 32767 value), valueAt := c } := by
  simp only [State.adcDone, hstarted, Nat.not_lt.mpr hready, if_false, clampI_eq (show (-32768 : Int) ≤ 32767 by decide)]

theorem State.adcDone_early {c : Nat} (hstarted : s.motion.adcs[ch].started = some c) (hearly : s.now < c + 500) (value : Int) :
    s.adcDone ch value = s := by simp only [State.adcDone, hstarted, hearly, if_true]

end

/-! ## Encoders and current channels (R338, R339) -/

section
variable {s : State} {k : Fin 16}

theorem State.ssiLatch_not_due (h : s.ssiDue k = false) (frame : BitVec 40) (low full : Bool) : s.ssiLatch k frame low full = s := by
  simp [State.ssiLatch, h]

/-- The position of an SSI frame: its low bits, in Gray code where the axis's word says so (R339). -/
def State.ssiPosition (s : State) (k : Fin 16) (frame : BitVec 40) : Int :=
  let cfg := s.nat (axisObj k.val 0x0C)
  signed 32 (if bit cfg 7 then grayDecode (bits cfg 5 0) (frame.toNat % 2 ^ bits cfg 5 0) else frame.toNat % 2 ^ bits cfg 5 0 : Nat)

theorem State.ssiLatch_complete (h : s.ssiDue k = true) (frame : BitVec 40) :
    s.ssiLatch k frame false true = s.modAxis k fun x => { x with pendingSsi := some (s.ssiPosition k frame, s.now) } := by
  simp [State.ssiLatch, h, State.ssiPosition]

theorem State.ssiLatch_timeout (h : s.ssiDue k = true) (frame : BitVec 40) (full : Bool) : s.ssiLatch k frame true full = s.encoderError k 2 3 := by
  simp [State.ssiLatch, h]

theorem State.capture_stray_index (h : s.nat (axisObj k.val 0x0A) ≠ 1) (position : Int) : s.capture k true position = s := by
  simp [State.capture, h]

theorem State.capture_latches {index : Bool} (h : index = true → s.nat (axisObj k.val 0x0A) = 1) (position : Int) :
    s.capture k index position = s.modAxis k fun x =>
      { x with capturePos := position, captureAt := s.now, newCapture := true, indexSeen := x.indexSeen || index } := by
  have hquadrature : (index && s.nat (axisObj k.val 0x0A) != 1) = false := by
    cases index
    · rfl
    · simp [h rfl]
  rw [State.capture, hquadrature]
  rfl

theorem State.channelStuck_again {leg : Fin 3} (h : s.motion.axes[k].legStuck leg = true) : s.channelStuck k leg = s := if_pos h

theorem State.channelStuck_first {leg : Fin 3} (h : s.motion.axes[k].legStuck leg = false) :
    s.channelStuck k leg = ((s.modAxis k fun x =>
      { x with stuckA := x.stuckA || leg == 0, stuckB := x.stuckB || leg == 1, stuckC := x.stuckC || leg == 2 }).bump (ob 0x4080 8)).fault
        0x0A07 (unitLoc k.val) leg.val := if_neg (Bool.not_eq_true _ ▸ h)

end

/-! ## Latches and the axes that they stop (R375) -/

theorem axisMask_self : ∀ k : Fin 16, ((1 : BitVec 16) <<< k.val).getLsbD k.val = true := by decide

theorem axisMask_axes : ∀ k : Fin 16, (idxs 16).filter (fun j => ((1 : BitVec 16) <<< k.val).getLsbD j.val) = [k] := by decide

theorem State.axesOff_single (s : State) (k : Fin 16) : s.axesOff ((1 : BitVec 16) <<< k.val) = s.axisOff k := by
  rw [State.axesOff, ← List.foldl_filter, axisMask_axes]
  rfl

theorem State.axisOff_pwm_self (s : State) (k : Fin 16) : (s.axisOff k).motion.axes[k].pwm = .gatesOff ∨ (s.axisOff k).motion.axes[k].pwm = .lowSidesOn := by
  rw [s.axisOff_pwm k k (.inl rfl), State.offPattern]
  split
  · exact .inr rfl
  · exact .inl rfl

theorem State.axisOff_other (s : State) {k j : Fin 16} (h : j ≠ k) : (s.axisOff k).motion.axes[j] = s.motion.axes[j] := upd_getElem_other _ _ h

/-- A reaction that is latched is among the latches with its axes, alone or joined with an earlier one of its cause (R375, R377). -/
theorem exists_addLatch (ls : List Latch) (l : Latch) :
    ∃ o ∈ addLatch ls l, o.cause = l.cause ∧ ∀ i, l.axes.getLsbD i = true → o.axes.getLsbD i = true := by
  induction ls with
  | nil => exact ⟨l, List.mem_singleton.mpr rfl, rfl, fun _ => id⟩
  | cons o rest ih =>
    rw [addLatch]
    split
    case isTrue hcause => exact ⟨_, List.mem_cons_self, hcause, fun i hi => by simp [hi]⟩
    case isFalse =>
      obtain ⟨x, hx, hcovers⟩ := ih
      exact ⟨x, List.mem_cons_of_mem _ hx, hcovers⟩

/-- The reaction of level 1 before it is counted and recorded: the latch, and the pattern of its axes (R375). -/
def State.stopAxes (s : State) (cause : Nat) (axes : BitVec 16) : State :=
  (s.modCrust fun c => { c with latches := addLatch c.latches ⟨cause, 1, axes, 0, s.beat⟩ }).axesOff axes

theorem State.react_level_one {s : State} {cause : Nat} (h : s.nat (ob 0x4870 cause) = 1) (code : Nat) (axes : BitVec 16) :
    s.react cause code axes = ((s.stopAxes cause axes).bump (ob 0x4880 2)).fault 0x0B02 .chip (at_ 16 48 code ||| at_ 8 8 1 ||| at_ 8 0 cause) := by
  have hlevel : s.causeLevel cause none = 1 := h
  rw [State.react, hlevel]
  rfl

/-! ## Current above the Crust's threshold (R338, R375) -/

section
variable {s : State} {k : Fin 16} {value : Int}

theorem State.overCurrent_below (h : value.natAbs ≤ s.nat (crustAxis k.val 9)) :
    s.overCurrent k value = s.modCrust fun c => { c with overCurrent := c.overCurrent &&& ~~~((1 : BitVec 16) <<< k.val) } := by
  have hbelow : decide ((s.nat (crustAxis k.val 9) : Int) < value.natAbs) = false := decide_eq_false (by omega)
  rw [State.overCurrent, hbelow]
  rfl

/-- The axis is noted as above its threshold. -/
def State.markOverCurrent (s : State) (k : Fin 16) : State :=
  s.modCrust fun c => { c with overCurrent := c.overCurrent ||| (1 : BitVec 16) <<< k.val }

theorem State.overCurrent_above (h : s.nat (crustAxis k.val 9) < value.natAbs) :
    s.overCurrent k value = (s.markOverCurrent k).react 5 0 ((1 : BitVec 16) <<< k.val) := by
  have habove : decide ((s.nat (crustAxis k.val 9) : Int) < value.natAbs) = true := decide_eq_true (by omega)
  rw [State.overCurrent, habove]
  rfl

/-- Where cause 5 reacts at level 1, its latch names the axis, which takes its output-off pattern, and nothing else does. -/
theorem State.overCurrent_trips (habove : s.nat (crustAxis k.val 9) < value.natAbs) (hlevel : s.nat (ob 0x4870 5) = 1) :
    let u := s.overCurrent k value
    u.motion = (s.axisOff k).motion
      ∧ u.crust = { s.crust with
          overCurrent := s.crust.overCurrent ||| (1 : BitVec 16) <<< k.val
          latches := addLatch s.crust.latches ⟨5, 1, (1 : BitVec 16) <<< k.val, 0, s.beat⟩ }
      ∧ u.mem = s.mem ∧ u.launch = s.launch := by
  intro u
  have hmarked : (s.markOverCurrent k).nat (ob 0x4870 5) = 1 := hlevel
  have hannounces : Announces (((s.markOverCurrent k).stopAxes 5 ((1 : BitVec 16) <<< k.val)).bump (ob 0x4880 2)) u := by
    show Announces _ (s.overCurrent k value)
    rw [State.overCurrent_above habove, State.react_level_one hmarked]
    exact fault_announces ..
  rw [State.stopAxes, State.axesOff_single] at hannounces
  exact ⟨hannounces.motion, hannounces.crust, hannounces.mem, hannounces.launch⟩

end

end Sys2Proof.Machine

namespace Sys2Proof

open Machine

/-- Settles O24: each command is one operation of the motion unit, by its equations; an over-current trip is a reaction of level 1 with the mask of one axis (`State.overCurrent_trips`). -/
theorem samplesEncodersAndCurrents : Obligations.SamplesEncodersAndCurrents := by
  intro s t
  refine ⟨fun ch v => ⟨fun hdue => ?_, fun hdue hfree => ?_, fun c hstarted => ⟨fun hdue hbusy => ?_, fun hready => ?_, fun hearly => ?_⟩⟩,
    fun k frame low full hdue => ?_, fun k frame hdue => ⟨?_, ?_⟩, fun k position hmode => ?_, fun k index position hmode => ?_,
    fun k leg hstuck => ?_, fun k leg hlive => ?_, fun k v => ⟨fun hbelow => ?_, fun habove hlevel => ?_⟩⟩
  · exact congrArg Host.Outcome.next (State.adcStart_not_due hdue)
  · exact congrArg Host.Outcome.next (State.adcStart_free hdue hfree)
  · exact congrArg Host.Outcome.next (State.adcStart_busy (s := s.advance t) hstarted hdue hbusy)
  · exact congrArg Host.Outcome.next (State.adcDone_ready (s := s.advance t) hstarted hready v)
  · exact congrArg Host.Outcome.next (State.adcDone_early (s := s.advance t) hstarted hearly v)
  · exact congrArg Host.Outcome.next (State.ssiLatch_not_due hdue frame low full)
  · exact congrArg Host.Outcome.next (State.ssiLatch_complete hdue frame)
  · exact congrArg Host.Outcome.next (State.ssiLatch_timeout hdue frame true)
  · exact congrArg Host.Outcome.next (State.capture_stray_index (s := s.advance t) hmode position)
  · exact congrArg Host.Outcome.next (State.capture_latches (s := s.advance t) hmode position)
  · exact congrArg Host.Outcome.next (State.channelStuck_again (s := s.advance t) hstuck)
  · exact congrArg Host.Outcome.next (State.channelStuck_first (s := s.advance t) hlive)
  · exact congrArg Host.Outcome.next (State.overCurrent_below (s := s.advance t) hbelow)
  · obtain ⟨hmotion, hcrust, hmem, hlaunch⟩ := State.overCurrent_trips (s := s.advance t) habove hlevel
    obtain ⟨l, hl, hcause, haxes⟩ := exists_addLatch s.crust.latches ⟨5, 1, (1 : BitVec 16) <<< k.val, 0, (s.advance t).beat⟩
    refine ⟨_, rfl, ?_, ⟨l, ?_, hcause, haxes _ (axisMask_self k)⟩, ?_, fun j hj => ?_, ?_, hmem, hlaunch⟩
    · rw [hcrust, BitVec.getLsbD_or, axisMask_self, Bool.or_true]
    · rw [hcrust]
      exact hl
    · rw [hmotion]
      exact (s.advance t).axisOff_pwm_self k
    · rw [hmotion]
      exact (s.advance t).axisOff_other hj
    · rw [hcrust]
      rfl

end Sys2Proof

namespace Sys2Proof.Machine

/-! ## Sources and the channels that follow them (R346, R399) -/

theorem State.modInput_modInput (s : State) (k : Fin 32) (f g : Input → Input) : (s.modInput k f).modInput k g = s.modInput k fun x => g (f x) := by
  simp only [State.modInput, State.modMotion, upd_upd]

theorem State.modInput_congr {s : State} {k : Fin 32} {f g : Input → Input} (h : f s.motion.inputs[k] = g s.motion.inputs[k]) :
    s.modInput k f = s.modInput k g := by
  simp only [State.modInput, State.modMotion]
  rw [upd_congr h]

theorem State.advance_dueEdges (s : State) (t : Nat) : (s.advance t).time.dueEdges = s.time.dueEdges := by
  rw [State.advance, Time.advance]
  split <;> rfl

theorem State.followSource_keeps {γ : Type} (π : State → γ) (htime : ∀ (a : State) (f : Time → Time), π (a.modTime f) = π a) (s : State) (src : Nat) :
    π (s.followSource src) = π s := by
  unfold State.followSource
  split
  · rfl
  · exact htime s _

theorem State.followSource_dueEdges (s : State) (src : Nat) (c : Fin 64) :
    (s.followSource src).time.dueEdges[c] =
      if s.triggersRun = true ∧ c.val < 48 ∧ s.nat (ob (0x2210 + c.val) 1) = 2 ∧ s.nat (ob (0x2210 + c.val) 4) = src then s.time.dueEdges[c] ++ [s.now]
      else s.time.dueEdges[c] := by
  unfold State.followSource
  cases hrun : s.triggersRun
  · simp
  · simp [State.modTime, updAll]

theorem State.sourceEvent_first {s : State} {src : Fin 24} (h : s.motion.lastTrigger[src] = none) (count : Nat) :
    s.sourceEvent src count = (s.modMotion fun m => { m with lastTrigger := m.lastTrigger.set src (some count) }).followSource src.val := by
  simp [State.sourceEvent, h]

section
variable {s : State} {src : Fin 24} (h : s.motion.lastTrigger[src] = none) (count : Nat)
include h

theorem State.sourceEvent_motion : (s.sourceEvent src count).motion = { s.motion with lastTrigger := s.motion.lastTrigger.set src (some count) } := by
  rw [State.sourceEvent_first h, State.followSource_keeps State.motion fun _ _ => rfl]
  rfl

theorem State.sourceEvent_log : (s.sourceEvent src count).log = s.log := by
  rw [State.sourceEvent_first h, State.followSource_keeps State.log fun _ _ => rfl]
  rfl

theorem State.sourceEvent_dueEdges (c : Fin 64) :
    (s.sourceEvent src count).time.dueEdges[c] =
      if s.triggersRun = true ∧ c.val < 48 ∧ s.nat (ob (0x2210 + c.val) 1) = 2 ∧ s.nat (ob (0x2210 + c.val) 4) = src.val then s.time.dueEdges[c] ++ [s.now]
      else s.time.dueEdges[c] := by
  rw [State.sourceEvent_first h, State.followSource_dueEdges]
  rfl

end

/-! ## Edges of digital inputs (R341 to R345) -/

/-- The count of the raw transition of an edge that is accepted now: the glitch time ago (R342). -/
def State.edgeStamp (s : State) (k : Fin 32) : Nat := s.now - bits (s.inputCfg k) 15 2 * 10

/-- The edges of the rate window, with the one that is accepted now (R344). -/
def State.edgesNow (s : State) (k : Fin 32) : List Nat :=
  (s.motion.inputs[k].edges.filter fun e => decide (s.edgeStamp k < e + bits (s.inputCfg k) 35 24 * 1000000)) ++ [s.edgeStamp k]

/-- An input takes a level: the edge is among those of the rate window, and the active time starts or ends (R342, R345). -/
def State.takeLevel (s : State) (k : Fin 32) (raw : Bool) : State :=
  s.modInput k fun x =>
    { x with
      raw := raw, rawAt := s.edgeStamp k, level := raw, edges := s.edgesNow k
      activeSince := if raw != bit (s.inputCfg k) 0 then some (s.edgeStamp k) else none, stuck := x.stuck && raw != bit (s.inputCfg k) 0 }

section
variable {s : State} {k : Fin 32} {raw : Bool}

theorem State.acceptEdge_raw (h : s.motion.inputs[k].chatter = true ∨ raw = s.motion.inputs[k].level) :
    s.acceptEdge k raw = s.modInput k fun x => { x with raw := raw, rawAt := s.edgeStamp k } := by
  have hraw : (s.motion.inputs[k].chatter || raw == s.motion.inputs[k].level) = true := by rwa [Bool.or_eq_true, beq_iff_eq]
  exact if_pos hraw

theorem State.takeLevel_live (hlive : s.motion.inputs[k].stuck = false) :
    s.takeLevel k raw = s.modInput k fun x =>
      { x with
        raw := raw, rawAt := s.edgeStamp k, level := raw, edges := s.edgesNow k
        activeSince := if raw != bit (s.inputCfg k) 0 then some (s.edgeStamp k) else none, stuck := false } :=
  State.modInput_congr (by rw [hlive, Bool.false_and])

section
variable (hcalm : s.motion.inputs[k].chatter = false) (hlevel : raw ≠ s.motion.inputs[k].level)
include hcalm hlevel

theorem not_left_raw : ¬ (s.motion.inputs[k].chatter || raw == s.motion.inputs[k].level) = true := by
  rw [Bool.or_eq_true, beq_iff_eq, hcalm]
  exact fun h => h.elim Bool.false_ne_true hlevel

theorem State.acceptEdge_chatters (hsource : 8 ≤ k.val ∨ bit (s.inputCfg k) 1 = false)
    (hlimit : bits (s.inputCfg k) 23 16 ≠ 0) (hrate : bits (s.inputCfg k) 23 16 < (s.edgesNow k).length) :
    s.acceptEdge k raw = ((s.modInput k fun x =>
      { x with raw := raw, rawAt := s.edgeStamp k, chatter := true, edges := s.edgesNow k, activeSince := none, stuck := false }).bump (ob 0x4080 3)).fault
        0x0A03 (unitLoc k.val) (s.edgesNow k).length := by
  have hmonitored : (decide (k.val < 8) && bit (s.inputCfg k) 1) = false := by
    rcases hsource with h | h
    · simp [Nat.not_lt.mpr h]
    · simp [h]
  have hchatters : (!(decide (k.val < 8) && bit (s.inputCfg k) 1)
      && decide (bits (s.inputCfg k) 23 16 ≠ 0 ∧ bits (s.inputCfg k) 23 16 < (s.edgesNow k).length)) = true := by simp [hmonitored, hlimit, hrate]
  refine (if_neg (not_left_raw hcalm hlevel)).trans ((if_pos hchatters).trans ?_)
  rw [State.modInput_modInput]
  rfl

/-- An edge that is taken, of an input that is not stuck: of a trigger source, or within the rate (R342, R343, R346). -/
theorem State.acceptEdge_takes (hlive : s.motion.inputs[k].stuck = false)
    (hrate : (k.val < 8 ∧ bit (s.inputCfg k) 1 = true) ∨ bits (s.inputCfg k) 23 16 = 0 ∨ (s.edgesNow k).length ≤ bits (s.inputCfg k) 23 16) :
    s.acceptEdge k raw =
      if h : k.val < 8 then
        if (decide (k.val < 8) && bit (s.inputCfg k) 1 && raw != bit (s.inputCfg k) 0) = true then
          (s.takeLevel k raw).sourceEvent ⟨k.val, by omega⟩ (s.edgeStamp k)
        else s.takeLevel k raw
      else s.takeLevel k raw := by
  have hquiet : ¬ (!(decide (k.val < 8) && bit (s.inputCfg k) 1)
      && decide (bits (s.inputCfg k) 23 16 ≠ 0 ∧ bits (s.inputCfg k) 23 16 < (s.edgesNow k).length)) = true := by
    rcases hrate with ⟨hport, hsource⟩ | hlimit | hrate
    · simp [hport, hsource]
    · simp [hlimit]
    · simp [Nat.not_lt.mpr hrate]
  refine (if_neg (not_left_raw hcalm hlevel)).trans ((if_neg hquiet).trans ?_)
  simp only [hlive, Bool.false_and, Bool.false_eq_true, if_false, State.modInput_modInput]
  rfl

end

end

/-! ## Chatter and stuck inputs end and begin (R344, R345) -/

section
variable {s : State} {k : Fin 32}

theorem State.chatterQuiet_ends (hchatter : s.motion.inputs[k].chatter = true)
    (hquiet : s.motion.inputs[k].rawAt + bits (s.inputCfg k) 47 36 * 1000000 ≤ s.now) :
    s.chatterQuiet k = (s.modInput k fun x =>
      { x with chatter := false, level := x.raw, edges := [], activeSince := if x.raw != bit (s.inputCfg k) 0 then some s.now else none }).fault
        0x0A0A (unitLoc k.val) 1 := by
  have hends : (s.motion.inputs[k].chatter && decide (s.motion.inputs[k].rawAt + bits (s.inputCfg k) 47 36 * 1000000 ≤ s.now)) = true := by
    rw [hchatter, decide_eq_true hquiet, Bool.and_self]
  refine (if_pos hends).trans ?_
  rw [State.modInput_congr]
  rfl

theorem State.chatterQuiet_calm (h : s.motion.inputs[k].chatter = false) : s.chatterQuiet k = s := by simp [State.chatterQuiet, h, -Fin.getElem_fin]

section
variable {a : Nat} (hactive : s.motion.inputs[k].activeSince = some a)
include hactive

theorem State.inputStuck_fires (hcalm : s.motion.inputs[k].chatter = false) (hlive : s.motion.inputs[k].stuck = false)
    (hlimit : bits (s.inputCfg k) 63 48 ≠ 0) (hlong : a + bits (s.inputCfg k) 63 48 * 1000000 < s.now) :
    s.inputStuck k = ((s.modInput k fun x => { x with stuck := true }).bump (ob 0x4080 4)).fault
      0x0A04 (unitLoc k.val) (at_ 32 0 (divRne ((s.now - a : Nat) : Int) 1000000).toNat) := by
  simp [State.inputStuck, hactive, hcalm, hlive, hlimit, hlong, -Fin.getElem_fin]

theorem State.inputStuck_waits (hshort : s.now ≤ a + bits (s.inputCfg k) 63 48 * 1000000) : s.inputStuck k = s := by
  simp [State.inputStuck, hactive, Nat.not_lt.mpr hshort, -Fin.getElem_fin]

end

end

end Sys2Proof.Machine

namespace Sys2Proof

open Machine

/-- Settles O26: an edge is left raw, begins chatter or is taken (`State.acceptEdge_takes`), and of a trigger source a taken active edge issues its trigger (`State.sourceEvent_dueEdges`). -/
theorem digitalInputsFollowTheirEdges : Obligations.DigitalInputsFollowTheirEdges := by
  intro s t k cfg i stamp edges
  refine ⟨fun raw hraw => ?_, fun raw hcalm hlevel hlive hport hrate => ?_, fun raw src hcalm hlevel hlive hsrc hport hsource hactive hlast => ?_,
    fun raw hcalm hlevel hsource hlimit hrate => ?_, fun hchatter hquiet => ?_, fun hcalm => ?_,
    fun a hactive hcalm hlive hlimit => ⟨fun hlong => ?_, fun hshort => ?_⟩⟩
  · exact congrArg Host.Outcome.next (State.acceptEdge_raw (s := s.advance t) hraw)
  · have htaken : (s.advance t).acceptEdge k raw = (s.advance t).takeLevel k raw :=
      (State.acceptEdge_takes (s := s.advance t) hcalm hlevel hlive (.inr hrate)).trans (dif_neg (Nat.not_lt.mpr hport))
    exact congrArg Host.Outcome.next (htaken.trans (State.takeLevel_live (s := s.advance t) hlive))
  · have hissues : (decide (k.val < 8) && bit cfg 1 && raw != bit cfg 0) = true := by simp [hport, hsource, hactive]
    have htaken : (s.advance t).acceptEdge k raw = ((s.advance t).takeLevel k raw).sourceEvent src stamp := by
      refine (State.acceptEdge_takes (s := s.advance t) hcalm hlevel hlive (.inl ⟨hport, hsource⟩)).trans ((dif_pos hport).trans ((if_pos hissues).trans ?_))
      exact congrArg (fun n => ((s.advance t).takeLevel k raw).sourceEvent n stamp) (Fin.ext hsrc.symm)
    have hfirst : ((s.advance t).takeLevel k raw).motion.lastTrigger[src] = none := hlast
    have hmotion := (congrArg State.motion htaken).trans (State.sourceEvent_motion hfirst stamp)
    have hinput : ((s.advance t).takeLevel k raw).motion.inputs[k] = _ := upd_getElem_self _ _ _
    refine ⟨_, rfl, ?_, ?_, ?_, ?_, ?_, fun c => ?_⟩
    · rw [hmotion]
      exact Vector.getElem_set_self src.isLt
    · rw [hmotion]
      exact congrArg Input.level hinput
    · rw [hmotion]
      refine (congrArg Input.activeSince hinput).trans (if_pos ?_)
      exact bne_iff_ne.mpr hactive
    · exact (congrArg State.log htaken).trans (State.sourceEvent_log hfirst stamp)
    · rw [hmotion]
      rfl
    · rw [htaken, State.sourceEvent_dueEdges hfirst, State.takeLevel, State.modInput_time, State.advance_dueEdges]
      rfl
  · exact congrArg Host.Outcome.next (State.acceptEdge_chatters (s := s.advance t) hcalm hlevel hsource hlimit hrate)
  · exact congrArg Host.Outcome.next (State.chatterQuiet_ends (s := s.advance t) hchatter hquiet)
  · exact congrArg Host.Outcome.next (State.chatterQuiet_calm (s := s.advance t) hcalm)
  · exact congrArg Host.Outcome.next (State.inputStuck_fires (s := s.advance t) hactive hcalm hlive hlimit hlong)
  · exact congrArg Host.Outcome.next (State.inputStuck_waits (s := s.advance t) hactive hshort)

end Sys2Proof

/-!
The tick of the timebase, and time that passes (O2, O8, O9).
-/

namespace Sys2Proof.Machine

/-! ## Ticks (R383 to R385) -/

/-- A descriptor waits neither in a block's queue nor in its window port: the block has nothing to go on with. -/
theorem State.goOn_idle {s : State} {r : Fin 10} {b : Fin 18} (hqueue : (s.block r b).waiting = []) (hport : (s.block r b).selWait = none) :
    s.goOn r b = s := by
  have hresume : s.resumeWindow r b = s := by
    unfold State.resumeWindow
    rw [hport]
  unfold State.goOn State.pumpBlock
  rw [hresume, hqueue, List.foldl_nil]

/-- What leaves a state as it is at every element leaves it as it is along a list. -/
theorem foldl_fixed {α : Type} {f : State → α → State} {s : State} (h : ∀ x, f s x = s) (l : List α) : l.foldl f s = s := by
  induction l with
  | nil => rfl
  | cons x l ih => rw [List.foldl_cons, h x, ih]

/-- With no descriptor waiting there is nothing to drain. -/
theorem State.drain_idle {s : State} (hblocks : ∀ (r : Fin 10) (b : Fin 18), (s.block r b).waiting = [] ∧ (s.block r b).selWait = none)
    (hzoo : ∀ r : Fin 10, s.regions[r].waiting = []) : s.drain = s := by
  refine foldl_fixed (fun r => ?_) _
  have hgo : (idxs 18).foldl (fun acc b => acc.goOn r b) s = s := foldl_fixed (fun b => State.goOn_idle (hblocks r b).1 (hblocks r b).2) _
  unfold State.pumpZoo
  rw [hgo, hzoo r, List.foldl_nil]

theorem State.reportClamps_told {s : State} (h : s.time.clampedTicks = s.time.clampTold) : s.reportClamps = s := if_pos h

/-- Outside a hold the count and its fraction rise by the clamped sum. -/
theorem Time.tick_running {tm : Time} (h : tm.hold = 0) : tm.tick =
    { tm with
      weft := (((tm.weft : Int) * 2 ^ 32 + tm.frac + clampI tickLo tickHi (tm.base + if tm.adjTicks = 0 then 0 else tm.adj)) / 2 ^ 32).toNat
      frac := (((tm.weft : Int) * 2 ^ 32 + tm.frac + clampI tickLo tickHi (tm.base + if tm.adjTicks = 0 then 0 else tm.adj)) % 2 ^ 32).toNat
      adjTicks := tm.adjTicks - 1
      adj := if tm.adjTicks ≤ 1 then 0 else tm.adj
      clampedTicks := (tm.clampedTicks + b2n (tickClamped (tm.base + if tm.adjTicks = 0 then 0 else tm.adj))) % 2 ^ 32 } := by
  unfold Time.tick
  rw [if_neg (not_not.mpr h)]

theorem Time.tick_held {tm : Time} (h : tm.hold ≠ 0) : tm.tick = { tm with hold := tm.hold - 1, frac := if tm.hold = 1 then 0 else tm.frac } :=
  if_pos h

theorem clampI_tick_nonneg (sum : Int) : 0 ≤ clampI tickLo tickHi sum := by
  unfold clampI tickLo tickHi
  split_ifs <;> omega

/-- A tick is counted as clamped exactly where what it adds is not the sum. -/
theorem tickClamped_count (sum : Int) : b2n (tickClamped sum) = if clampI tickLo tickHi sum = sum then 0 else 1 := by
  unfold tickClamped clampI tickLo tickHi
  by_cases hlow : sum < 17162689315
  · rw [if_pos hlow, if_neg (by omega), decide_eq_true (.inl hlow)]
    rfl
  · by_cases hhigh : 17197049053 < sum
    · rw [if_neg hlow, if_pos hhigh, if_neg (by omega), decide_eq_true (.inr hhigh)]
      rfl
    · rw [if_neg hlow, if_neg hhigh, if_pos rfl, decide_eq_false (not_or.mpr ⟨hlow, hhigh⟩)]
      rfl

theorem Time.tick_clampTold (tm : Time) : tm.tick.clampTold = tm.clampTold := by
  by_cases h : tm.hold = 0
  · rw [Time.tick_running h]
  · rw [Time.tick_held h]

theorem Time.advance_held {tm : Time} (h : tm.hold ≠ 0) (t : Nat) : tm.advance t = tm := if_pos (.inl h)

theorem Time.advance_behind {tm : Time} {t : Nat} (h : t ≤ tm.weft) : tm.advance t = tm := if_pos (.inr h)

theorem Time.advance_weft {tm : Time} {t : Nat} (hhold : tm.hold = 0) (ht : tm.weft ≤ t) : (tm.advance t).weft = t := by
  rcases ht.eq_or_lt with rfl | hlt
  · rw [Time.advance_behind le_rfl]
  · unfold Time.advance
    rw [if_neg (by simp [hhold, hlt])]

end Sys2Proof.Machine

namespace Sys2Proof

open Machine

/-- Settles O2: the clamped ticks are told, the server is idle, and no descriptor waits. -/
theorem emptyQueueStepIsOneTick : Obligations.EmptyQueueStepIsOneTick := by
  intro s hpending hworks hlatched hgroup himplicit hinstant hblocks hzoo htold
  have hserver : ServerIdle (s.modTime Time.tick) := ⟨hworks, hlatched, hgroup, himplicit, hinstant⟩
  have hclamps : (s.modTime Time.tick).time.clampedTicks = (s.modTime Time.tick).time.clampTold := htold.trans s.time.tick_clampTold.symm
  have hidle : s.idleTick = s.modTime Time.tick := by
    unfold State.idleTick
    rw [State.reportClamps_told hclamps, hserver.serve, State.drain_idle (s := s.modTime Time.tick) hblocks hzoo]
  have hstep : step s = .next s.idleTick := by
    unfold step
    rw [hpending]
  exact hstep.trans (congrArg Host.Outcome.next hidle)

/-- Settles O8: the sum lies within the bounds or is clamped to the nearer one, and the new count and fraction are quotient and remainder of the total (`Time.tick_running`). -/
theorem tickAddsTheClampedIncrement : Obligations.TickAddsTheClampedIncrement := by
  intro tm
  refine ⟨fun hrun => ?_, fun hheld => ?_⟩
  · intro sum added
    have hadded : clampI tickLo tickHi sum = added := rfl
    have hlow : 0 ≤ added := hadded ▸ clampI_tick_nonneg sum
    have hcount : b2n (tickClamped sum) = if added = sum then 0 else 1 := tickClamped_count sum
    rw [Time.tick_running hrun]
    dsimp only
    rw [hadded, hcount]
    refine ⟨?_, ?_, rfl⟩ <;> omega
  · rw [Time.tick_held hheld]
    exact ⟨rfl, rfl, rfl⟩

/-- Settles O9: a hold or a count behind leaves the time as it is, and any other count becomes the time. -/
theorem countsNeverDecrease : Obligations.CountsNeverDecrease := by
  intro s t
  refine ⟨?_, fun hhold ht => Time.advance_weft hhold ht, fun hhold => congrArg Time.weft (Time.advance_held hhold t), rfl⟩
  show s.time.weft ≤ (s.time.advance t).weft
  by_cases hhold : s.time.hold = 0
  · rcases Nat.le_total t s.time.weft with hle | hle
    · rw [Time.advance_behind hle]
    · rw [Time.advance_weft hhold hle]
      exact hle
  · rw [Time.advance_held hhold]

end Sys2Proof

/-!
The Crust's own faults, its tests, its resets (O28), and SRDOs (O30).
-/

namespace Sys2Proof.Machine

/-! ## Output-off patterns move the motion unit alone (R335, R336) -/

theorem State.axesOff_keeps {γ : Type} (π : State → γ) (h : ∀ (a : State) (m : Motion), π { a with motion := m } = π a) (s : State) (mask : BitVec 16) :
    π (s.axesOff mask) = π s := by
  refine foldl_keeps π (fun a k => ?_) (idxs 16) s
  split
  · exact h a _
  · rfl

theorem State.syncAxes_keeps {γ : Type} (π : State → γ) (h : ∀ (a : State) (m : Motion), π { a with motion := m } = π a) (s : State) :
    π s.syncAxes = π s := by
  refine foldl_keeps π (fun a k => ?_) (idxs 16) s
  split
  · split
    · rfl
    · exact h a _
  · rfl

theorem State.axisOff_prevA (s : State) (j k : Fin 16) (h : j = k ∨ s.motion.axes[k].prevA = 0) : (s.axisOff j).motion.axes[k].prevA = 0 := by
  by_cases hjk : j = k
  · subst hjk
    exact congrArg Axis.prevA (upd_getElem_self s.motion.axes j _)
  · exact (congrArg Axis.prevA (s.axisOff_other (Ne.symm hjk))).trans (h.resolve_left hjk)

theorem State.foldl_axisOff_prevA (l : List (Fin 16)) (s : State) (k : Fin 16) (h : k ∈ l ∨ s.motion.axes[k].prevA = 0) :
    (l.foldl (fun acc j => acc.axisOff j) s).motion.axes[k].prevA = 0 := by
  induction l generalizing s with
  | nil => exact h.resolve_left List.not_mem_nil
  | cons j l ih =>
    refine ih (s.axisOff j) ?_
    by_cases hj : j = k
    · exact .inr (s.axisOff_prevA j k (.inl hj))
    · exact (h.imp_left fun hmem => (List.mem_cons.mp hmem).resolve_left (Ne.symm hj)).imp_right fun hprev => s.axisOff_prevA j k (.inr hprev)

/-- Neither the levels of the outputs nor the supplies are looked at by an axis. -/
theorem State.outputOff_axes (s : State) : s.outputOff.motion.axes = ((idxs 16).foldl (fun acc j => acc.axisOff j) s).motion.axes := by
  have hall : s.axesOff 0xFFFF = (idxs 16).foldl (fun acc j => acc.axisOff j) s := by
    have hbit : ∀ j : Fin 16, (0xFFFF : BitVec 16).getLsbD j.val = true := by decide
    simp only [State.axesOff, hbit, if_true]
  unfold State.outputOff
  rw [foldl_keeps (fun u : State => u.motion.axes) fun a j => ?_, foldl_keeps (fun u : State => u.motion.axes) fun a j => ?_, hall]
  · rfl
  · unfold State.supplyAction
    split <;> rfl

theorem State.outputOff_prevA (s : State) (k : Fin 16) : s.outputOff.motion.axes[k].prevA = 0 := by
  rw [s.outputOff_axes]
  exact State.foldl_axisOff_prevA _ s k (.inl (List.mem_finRange k))

theorem State.modOutput_level (s : State) (level : Nat → Bool) (j k : Fin 32) (h : j = k ∨ s.motion.outputs[k].level = level k.val) :
    (s.modOutput j fun o => { o with level := level j.val }).motion.outputs[k].level = level k.val := by
  by_cases hjk : j = k
  · subst hjk
    exact congrArg DOut.level (upd_getElem_self s.motion.outputs j _)
  · exact (congrArg DOut.level (upd_getElem_other s.motion.outputs _ (Ne.symm hjk))).trans (h.resolve_left hjk)

theorem State.foldl_modOutput_level (level : Nat → Bool) (l : List (Fin 32)) (s : State) (k : Fin 32) (h : k ∈ l ∨ s.motion.outputs[k].level = level k.val) :
    (l.foldl (fun acc j => acc.modOutput j fun o => { o with level := level j.val }) s).motion.outputs[k].level = level k.val := by
  induction l generalizing s with
  | nil => exact h.resolve_left List.not_mem_nil
  | cons j l ih =>
    refine ih _ ?_
    by_cases hj : j = k
    · exact .inr (s.modOutput_level level j k (.inl hj))
    · exact (h.imp_left fun hmem => (List.mem_cons.mp hmem).resolve_left (Ne.symm hj)).imp_right fun hlevel => s.modOutput_level level j k (.inr hlevel)

theorem State.outputOff_level (s : State) (k : Fin 32) : s.outputOff.motion.outputs[k].level = bit (s.nat (ob 0x4830 2)) k.val := by
  unfold State.outputOff
  rw [foldl_keeps (fun u : State => u.motion.outputs) fun a j => ?_]
  · exact State.foldl_modOutput_level (fun i => bit (s.nat (ob 0x4830 2)) i) _ _ k (.inl (List.mem_finRange k))
  · unfold State.supplyAction
    split <;> rfl

/-! ## Reactions (R375) -/

/-- A latched reaction is as high as the one that latched it, whatever stood there. -/
theorem exists_addLatch_level (ls : List Latch) (l : Latch) : ∃ o ∈ addLatch ls l, o.cause = l.cause ∧ l.level ≤ o.level := by
  induction ls with
  | nil => exact ⟨l, List.mem_singleton.mpr rfl, rfl, le_rfl⟩
  | cons o rest ih =>
    rw [addLatch]
    split
    case isTrue hcause => exact ⟨_, List.mem_cons_self, hcause, le_max_right _ _⟩
    case isFalse =>
      obtain ⟨x, hx, hlatched⟩ := ih
      exact ⟨x, List.mem_cons_of_mem _ hx, hlatched⟩

/-- The Crust after a reaction: the latch, and STOP at level 2 (R375, R376). -/
def Crust.reacted (c : Crust) (level cause : Nat) (axes : BitVec 16) (streams : BitVec 24) (beat : Nat) : Crust :=
  { c with
    latches := addLatch c.latches ⟨cause, level, axes, streams, beat⟩
    before := if level = 2 ∧ c.state.drives then c.state else c.before
    state := if level = 2 ∧ c.state.drives then .stop else c.state }

/-- A reaction touches the Crust, the motion unit, its count, and what recording a fault touches. -/
theorem State.reactAt_announces (s : State) (level cause code : Nat) (axes : BitVec 16) (streams : BitVec 24) :
    ∃ m : Motion, Announces (({ s with crust := s.crust.reacted level cause axes streams s.beat, motion := m } : State).bump (ob 0x4880 2))
      (s.reactAt level cause code axes streams) := by
  let latched := s.modCrust fun c => c.reacted level cause axes streams s.beat
  let stopped := if level = 2 then latched.outputOff else latched.axesOff axes
  have hstopped : stopped = { latched with motion := stopped.motion } := by
    have hpattern : ({ stopped with motion := latched.motion } : State) = { latched with motion := latched.motion } := by
      by_cases hlevel : level = 2
      · simpa only [stopped, if_pos hlevel] using State.outputOff_keeps (fun u => ({ u with motion := latched.motion } : State)) (fun _ _ => rfl) latched
      · simpa only [stopped, if_neg hlevel] using State.axesOff_keeps (fun u => ({ u with motion := latched.motion } : State)) (fun _ _ => rfl) latched axes
    exact congrArg (fun u : State => { u with motion := stopped.motion }) hpattern
  refine ⟨stopped.motion, ?_⟩
  have hfault : Announces (stopped.bump (ob 0x4880 2)) (s.reactAt level cause code axes streams) := fault_announces _ _ _ _ _
  rw [hstopped] at hfault
  exact hfault

section
variable (s : State) (level cause code : Nat) (axes : BitVec 16) (streams : BitVec 24)

theorem State.reactAt_crust : (s.reactAt level cause code axes streams).crust = s.crust.reacted level cause axes streams s.beat := by
  obtain ⟨_, h⟩ := s.reactAt_announces level cause code axes streams
  exact h.crust

theorem State.reactAt_launch : (s.reactAt level cause code axes streams).launch = s.launch := by
  obtain ⟨_, h⟩ := s.reactAt_announces level cause code axes streams
  exact h.launch

end

theorem State.react_level_two {s : State} {cause : Nat} (h : s.nat (ob 0x4870 cause) = 2) (code : Nat) (axes : BitVec 16) :
    s.react cause code axes = s.reactAt 2 cause code axes 0 := by
  have hlevel : s.causeLevel cause none = 2 := h
  rw [State.react, hlevel]
  rfl

/-- A cause that reacts is among the latches. -/
theorem State.exists_latch_reactAt (s : State) (level cause code : Nat) (axes : BitVec 16) (streams : BitVec 24) :
    ∃ l ∈ (s.reactAt level cause code axes streams).crust.latches, l.cause = cause ∧ level ≤ l.level := by
  rw [State.reactAt_crust]
  exact exists_addLatch_level _ _

/-! ## Faults of the Crust itself, its single channel and its tests (R355, R367, R371 to R373) -/

theorem State.crustDown_keeps {γ : Type} (π : State → γ) (h : ∀ (a : State) (m : Motion), π { a with motion := m } = π a) (s : State) :
    π s.crustDown = π (s.modCrust fun c => { c with hwOff := true }) := State.outputOff_keeps π h _

theorem State.crustUp_idle {s : State} (h : s.crust.hwOff = false) : s.crustUp = s := if_neg (by simp [h])

theorem State.crustUp_latches {s : State} (h : s.crust.hwOff = true) : s.crustUp = (s.modCrust fun c => { c with hwOff := false }).reactAt 2 12 0 0 0 :=
  if_pos h

theorem State.singleExpired_none {s : State} (h : s.crust.single = none) : s.singleExpired = s := by
  unfold State.singleExpired
  rw [h]

/-- At its limit cause 3 fires, unless it is latched already. -/
theorem State.singleExpired_fires {s : State} {x : Single} (hsingle : s.crust.single = some x) (hdue : x.since + 1000000 * s.nat (ob 0x4878 5) ≤ s.now) :
    s.singleExpired = if s.crust.latches.any (fun l => l.cause == 3) then s else s.react 3 0x0B07 0 := by
  unfold State.singleExpired
  rw [hsingle]
  simp [Nat.not_lt.mpr hdue]

theorem State.comparatorTested_passes (s : State) (field : Nat) :
    s.comparatorTested field true [field] = (s.modCrust fun c => { c with compMissed := 0 }).bump (ob 0x4880 5) := by
  unfold State.comparatorTested
  simp

theorem State.comparatorTested_fails {s : State} {field : Nat} {reported : List Nat} (h : reported ≠ [field]) :
    s.comparatorTested field true reported = (s.modCrust fun c => { c with compMissed := 0 }).react 7 0 0 := by
  unfold State.comparatorTested
  simp [h]

theorem State.comparatorTested_skipped {s : State} (h : s.crust.compMissed ≠ 2) (field : Nat) (reported : List Nat) :
    s.comparatorTested field false reported = s.modCrust fun c => { c with compMissed := s.crust.compMissed + 1 } := by
  unfold State.comparatorTested State.comparatorSkipped
  simp [h]

theorem State.starterTest_passes {s : State} {r : Fin 10} {b : Fin 18} {frame crc : Nat} {im : Image} (himage : s.launch.image = some im)
    (hframe : im.starterCrcs[frame]? = some crc) (htestable : s.testable r b = true) (haccepted : s.libraryAccepted im = true) (cell : Option (Fin 65)) :
    s.starterTest r b true frame crc cell =
      ((s.modBlock r b fun x => { x with testMissed := 0 }).bump (ob 0x4880 4)).modBlock r b fun x => { x with starterMiss := 0 } := by
  unfold State.starterTest
  rw [himage]
  dsimp only
  rw [hframe]
  dsimp only
  rw [htestable, haccepted]
  simp [State.starterRan]

/-! ## Resets (R377, R378) -/

theorem State.recoverStream_announces (s : State) (n : Fin 24) : ∃ x : Stream → Stream, Announces (s.modStream n x) (s.recoverStream n) :=
  ⟨_, fault_announces _ _ _ _ _⟩

/-- Whatever neither the streams nor a recorded fault touch stays as it was when a reset is applied, once the latches have cleared. -/
theorem State.applyReset_keeps {γ : Type} (π : State → γ) (hstream : ∀ (a : State) n f, π (a.modStream n f) = π a)
    (hfault : ∀ {a b : State}, Announces a b → π b = π a) (s : State) (sameBeat : Nat → Bool) :
    π (s.applyReset sameBeat) = π (s.modCrust fun c =>
      let kept := s.crust.latches.filter fun l => s.causePresent l || sameBeat l.beat
      { c with latches := kept, disagreed := [], resetAsked := false, state := if c.state = .stop ∧ !hasLevel2 kept then c.before else c.state }) := by
  unfold State.applyReset
  extract_lets kept held s1 s2
  have hstreams : π s2 = π s1 := by
    refine foldl_keeps π (fun a n => ?_) _ _
    split
    · obtain ⟨f, hf⟩ := a.recoverStream_announces n
      exact (hfault hf).trans (hstream a n f)
    · rfl
  split
  · exact hstreams
  · exact (hfault (fault_announces _ _ _ _ _)).trans hstreams

theorem State.resetInput_unconfigured {s : State} (h : s.nat (ob 0x4840 1) = 0xFF) : s.resetInput = s := if_pos h

theorem State.resetInput_asks {s : State} (h : s.nat (ob 0x4840 1) ≠ 0xFF) (hrun : s.launch.run.isSome = true) :
    s.resetInput = s.modCrust fun c => { c with resetAsked := true } := (if_neg h).trans (if_pos hrun)

theorem State.resetInput_acts {s : State} (h : s.nat (ob 0x4840 1) ≠ 0xFF) (hrun : s.launch.run = none) : s.resetInput = s.applyReset fun _ => false :=
  (if_neg h).trans (if_neg (by simp [State.running, hrun]))

/-! ## SRDOs (R381) -/

theorem State.sendSrdo_idle {s : State} {n : Fin 8} (h : s.srdoDirection n.val ≠ 1 ∨ s.due s.crust.srdos[n].sentAt (1000000 * s.nat (ob (0x1301 + n.val) 2)) = false) :
    s.sendSrdo n = s := by
  refine if_pos ?_
  rcases h with h | h
  · exact .inl h
  · exact .inr (.inr (by rw [h]; rfl))

/-- A transmit SRDO that is due is sent with its inverse, counted as two frames, and its time is noted. -/
theorem State.sendSrdo_sends {s : State} {n : Fin 8} (hdirection : s.srdoDirection n.val = 1) (hsends : s.canSends (srdoCtl n.val) = true)
    (hdue : s.due s.crust.srdos[n].sentAt (1000000 * s.nat (ob (0x1301 + n.val) 2)) = true) :
    ∃ data, s.sendSrdo n = ((s.emit (.srdo n.val data (data.map fun b => ~~~b))).bump (canStat (srdoCtl n.val).val 4) 2).modCrust fun c =>
      { c with srdos := upd c.srdos n fun x => { x with sentAt := some s.now } } := by
  refine ⟨_, if_neg ?_⟩
  rw [hdirection, hsends, hdue]
  simp

theorem State.srdoPair_deaf {s : State} {n : Fin 8} (h : s.srdoDirection n.val ≠ 2 ∨ s.canLive (srdoCtl n.val) = false) (data inv : Bytes) (gap : Nat) :
    s.srdoPair n data inv gap = s := by
  refine if_pos (h.imp_right fun hoff => ?_)
  rw [hoff]
  rfl

section
variable {s : State} {n : Fin 8} (hdirection : s.srdoDirection n.val = 2) (hlive : s.canLive (srdoCtl n.val) = true)
include hdirection hlive

theorem State.srdoPair_taken {data inv : Bytes} {gap : Nat} (hinv : inv = data.map fun b => ~~~b) (hgap : gap ≤ 1000 * s.nat (ob (0x1301 + n.val) 3)) :
    s.srdoPair n data inv gap = s.srdoValid n data := by
  unfold State.srdoPair
  rw [hdirection, hlive]
  simp [hinv, Nat.not_lt.mpr hgap]

theorem State.srdoPair_broken {data inv : Bytes} {gap : Nat} (h : inv ≠ (data.map fun b => ~~~b) ∨ 1000 * s.nat (ob (0x1301 + n.val) 3) < gap) :
    s.srdoPair n data inv gap = s.srdoError n := by
  unfold State.srdoPair
  rw [hdirection, hlive, if_neg (by simp), if_pos h]

end

/-- The Crust after a valid receive SRDO that demands nothing: its mask and time, and the mask and demand of all that are received (R381). -/
def State.srdoTaken (s : State) (n : Fin 8) (data : Bytes) : State :=
  let demand := (s.srdoField n.val data (ob 0x4840 2)).getD 0
  let mask := BitVec.ofNat 16 ((s.srdoField n.val data (ob 0x4840 3)).getD 0xFFFF)
  let s1 := s.modCrust fun c => { c with srdos := upd c.srdos n fun x => { x with lastValid := s.now, mask := mask, stopDemand := bit demand 0, resetBit := bit demand 1 } }
  let receives := (idxs 8).filter fun k => s.srdoDirection k.val == 2
  s1.modCrust fun c =>
    { c with requestMask := receives.foldl (fun m k => m &&& c.srdos[k].mask) 0xFFFF, safeStop := receives.any fun k => c.srdos[k].stopDemand }

theorem State.srdoValid_undemanding {s : State} {n : Fin 8} {data : Bytes} (hstop : bit ((s.srdoField n.val data (ob 0x4840 2)).getD 0) 0 = false)
    (hreset : bit ((s.srdoField n.val data (ob 0x4840 2)).getD 0) 1 = false) : s.srdoValid n data = (s.srdoTaken n data).syncAxes := by
  simp [State.srdoValid, State.srdoTaken, hstop, hreset]

theorem State.srdoLate_early {s : State} {n : Fin 8} (h : s.now < s.crust.srdos[n].lastValid + s.nat (ob (0x1301 + n.val) 2) * 1000000) : s.srdoLate n = s :=
  if_neg fun hlate => Nat.not_le.mpr h hlate.2.2

theorem State.srdoLate_missing {s : State} {n : Fin 8} (hdirection : s.srdoDirection n.val = 2) (hsct : s.nat (ob (0x1301 + n.val) 2) ≠ 0)
    (h : s.crust.srdos[n].lastValid + s.nat (ob (0x1301 + n.val) 2) * 1000000 ≤ s.now) : s.srdoLate n = s.srdoError n := if_pos ⟨hdirection, hsct, h⟩

/-- At level 2 an SRDO error latches cause 11 and leaves the SRDOs as they are. -/
theorem State.srdoError_latches {s : State} {n : Fin 8} (h : s.nat (ob 0x4870 11) = 2) :
    (∃ l ∈ (s.srdoError n).crust.latches, l.cause = 11) ∧ (s.srdoError n).crust.srdos = s.crust.srdos ∧ (s.srdoError n).mem = s.mem := by
  rw [State.srdoError, State.react_level_two h]
  obtain ⟨l, hl, hcause, _⟩ := s.exists_latch_reactAt 2 11 0 s.crust.srdos[n].mask 0
  exact ⟨⟨l, hl, hcause⟩, by rw [State.reactAt_crust]; rfl, s.reactAt_mem ..⟩

end Sys2Proof.Machine

namespace Sys2Proof

open Machine

/-- Settles O28: a fault of the Crust is the output-off state (`State.outputOff_level`), its restart and a cause at level 2 are reactions (`State.reactAt_announces`), and a reset without a launch clears what is not present (`State.applyReset_keeps`). -/
theorem crustFaultsTestsAndResets : Obligations.CrustFaultsTestsAndResets := by
  intro s t
  refine ⟨fun kind => ?_, fun hup => ?_, fun hdown => ?_, fun hnone => ?_, fun x hsingle hdue hlevel => ?_,
    fun out field reported => ⟨fun hpass => ?_, fun hfail hlevel => ?_, fun hmissed => ?_⟩,
    fun r b frame crc im himage hframe htestable haccepted => ?_, fun hunset => ?_, fun hset hrun => ?_, fun hset hrun => ?_⟩
  · refine ⟨_, rfl, State.crustDown_keeps State.crust (fun _ _ => rfl) _, State.crustDown_keeps State.log (fun _ _ => rfl) _,
      State.crustDown_keeps State.mem (fun _ _ => rfl) _, fun k => ⟨?_, State.outputOff_prevA _ k⟩, fun o => State.outputOff_level _ o⟩
    exact (State.outputOff_pwm _ k).trans (if_congr (by rw [Bool.and_eq_true, decide_eq_true_iff]; rfl) rfl rfl)
  · exact congrArg Host.Outcome.next (State.crustUp_idle (s := s.advance t) hup)
  · let up := (s.advance t).modCrust fun c => { c with hwOff := false }
    obtain ⟨l, hl, hcause, hlevel⟩ := up.exists_latch_reactAt 2 12 0 0 0
    refine ⟨_, congrArg Host.Outcome.next (State.crustUp_latches (s := s.advance t) hdown), congrArg Crust.hwOff (up.reactAt_crust ..),
      ⟨l, hl, hcause, hlevel⟩, fun hdrives => ?_, up.reactAt_mem .., up.reactAt_launch ..⟩
    exact (congrArg Crust.state (up.reactAt_crust ..)).trans (if_pos ⟨rfl, hdrives⟩)
  · exact congrArg Host.Outcome.next (State.singleExpired_none (s := s.advance t) hnone)
  · refine ⟨_, congrArg Host.Outcome.next (State.singleExpired_fires (s := s.advance t) hsingle hdue), ?_⟩
    split
    case isTrue hlatched =>
      obtain ⟨l, hl, hcause⟩ := List.any_eq_true.mp hlatched
      exact ⟨⟨l, hl, beq_iff_eq.mp hcause⟩, rfl, rfl, rfl⟩
    case isFalse =>
      rw [State.react_level_two (s := s.advance t) hlevel]
      obtain ⟨l, hl, hcause, _⟩ := (s.advance t).exists_latch_reactAt 2 3 0x0B07 0 0
      exact ⟨⟨l, hl, hcause⟩, by rw [State.reactAt_crust]; rfl, (s.advance t).reactAt_mem .., (s.advance t).reactAt_launch ..⟩
  · rw [hpass]
    exact congrArg Host.Outcome.next ((s.advance t).comparatorTested_passes field)
  · let tested := (s.advance t).modCrust fun c => { c with compMissed := 0 }
    have hreacts : (s.advance t).comparatorTested field true reported = tested.reactAt 2 7 0 0 0 :=
      (State.comparatorTested_fails hfail).trans (State.react_level_two (s := tested) hlevel 0 0)
    obtain ⟨l, hl, hcause, _⟩ := tested.exists_latch_reactAt 2 7 0 0 0
    exact ⟨_, congrArg Host.Outcome.next hreacts, congrArg Crust.compMissed (tested.reactAt_crust ..), l, hl, hcause⟩
  · exact congrArg Host.Outcome.next (State.comparatorTested_skipped (s := s.advance t) hmissed field reported)
  · refine ⟨_, congrArg Host.Outcome.next (State.starterTest_passes (s := s.advance t) himage hframe htestable haccepted none), ?_, ?_, rfl, rfl, rfl⟩
    · rw [State.block_modBlock_self]
      exact congrArg Block.testMissed (State.block_modBlock_self (s.advance t) r b _)
    · rw [State.block_modBlock_self]
  · exact congrArg Host.Outcome.next (State.resetInput_unconfigured (s := s.advance t) hunset)
  · exact congrArg Host.Outcome.next (State.resetInput_asks (s := s.advance t) hset hrun)
  · have hcrust := State.applyReset_keeps State.crust (fun _ _ _ => rfl) Announces.crust (s.advance t) fun _ => false
    refine ⟨_, congrArg Host.Outcome.next (State.resetInput_acts (s := s.advance t) hset hrun), ?_, ?_, ?_, fun hstop hnone => ?_,
      State.applyReset_keeps State.mem (fun _ _ _ => rfl) Announces.mem _ _, State.applyReset_keeps State.launch (fun _ _ _ => rfl) Announces.launch _ _⟩
    · rw [hcrust]
      exact List.filter_congr fun l _ => Bool.or_false _
    · rw [hcrust]
      rfl
    · rw [hcrust]
      rfl
    · rw [hcrust] at hnone ⊢
      refine if_pos ⟨hstop, ?_⟩
      rw [Bool.not_eq_true']
      exact hnone

/-- Settles O30: a pair is taken or is an error of cause 11 at level 2 (`State.srdoError_latches`); one that demands nothing sets its own mask and time (`State.srdoTaken`). -/
theorem srdosCarryTheirInverse : Obligations.SrdosCarryTheirInverse := by
  intro s t n
  refine ⟨fun hdirection hsends hdue => ?_, fun hearly => ?_, fun hdirection => ?_, fun data inv gap => ⟨fun hdeaf => ?_, fun hdirection hlive hinv hgap hstop hreset => ?_,
    fun hdirection hlive hbroken hlevel => ?_⟩, fun hdirection hsct => ⟨fun hearly => ?_, fun hlate hlevel => ?_⟩⟩
  · obtain ⟨data, hsent⟩ := State.sendSrdo_sends (s := s.advance t) hdirection hsends hdue
    exact ⟨_, congrArg Host.Outcome.next hsent, ⟨data, rfl⟩, rfl, rfl⟩
  · exact congrArg Host.Outcome.next (State.sendSrdo_idle (s := s.advance t) (.inr hearly))
  · exact congrArg Host.Outcome.next (State.sendSrdo_idle (s := s.advance t) (.inl hdirection))
  · exact congrArg Host.Outcome.next (State.srdoPair_deaf (s := s.advance t) hdeaf data inv gap)
  · have htaken : (s.advance t).srdoPair n data inv gap = ((s.advance t).srdoTaken n data).syncAxes :=
      (State.srdoPair_taken (s := s.advance t) hdirection hlive hinv hgap).trans (State.srdoValid_undemanding (s := s.advance t) hstop hreset)
    have hcrust : ((s.advance t).srdoTaken n data).syncAxes.crust = ((s.advance t).srdoTaken n data).crust := State.syncAxes_keeps State.crust (fun _ _ => rfl) _
    have hself : ((s.advance t).srdoTaken n data).crust.srdos[n] = _ := upd_getElem_self s.crust.srdos n _
    refine ⟨_, congrArg Host.Outcome.next htaken, ?_, ?_, ?_, ?_, fun j hj => ?_, State.syncAxes_keeps State.log (fun _ _ => rfl) _,
      State.syncAxes_keeps State.mem (fun _ _ => rfl) _⟩
    · rw [hcrust, hself]
    · rw [hcrust, hself]
      exact hstop
    · rw [hcrust, hself]
      rfl
    · rw [hcrust]
      rfl
    · rw [hcrust]
      exact upd_getElem_other s.crust.srdos _ hj
  · have herror := State.srdoPair_broken (s := s.advance t) hdirection hlive hbroken
    exact ⟨_, congrArg Host.Outcome.next herror, State.srdoError_latches (s := s.advance t) hlevel⟩
  · exact congrArg Host.Outcome.next (State.srdoLate_early (s := s.advance t) hearly)
  · exact ⟨_, congrArg Host.Outcome.next (State.srdoLate_missing (s := s.advance t) hdirection hsct hlate), State.srdoError_latches (s := s.advance t) hlevel⟩

end Sys2Proof

/-!
Sync, Follow_Up and Announce messages (O31).
-/

namespace Sys2Proof.Machine

/-! ## Time that passes -/

/-- What does not look at the count, the adjustment and the clamped ticks stays as it is while time passes. -/
theorem Time.advance_keeps {γ : Type} (π : Time → γ)
    (h : ∀ (tm : Time) w l a c, π { tm with weft := w, adjTicks := l, adj := a, clampedTicks := c } = π tm) (tm : Time) (t : Nat) : π (tm.advance t) = π tm := by
  unfold Time.advance
  split
  · rfl
  · exact h tm _ _ _ _

section
variable (tm : Time) (t : Nat)

@[simp] theorem Time.advance_frac : (tm.advance t).frac = tm.frac := Time.advance_keeps _ (fun _ _ _ _ _ => rfl) tm t
@[simp] theorem Time.advance_base : (tm.advance t).base = tm.base := Time.advance_keeps _ (fun _ _ _ _ _ => rfl) tm t
@[simp] theorem Time.advance_hold : (tm.advance t).hold = tm.hold := Time.advance_keeps _ (fun _ _ _ _ _ => rfl) tm t
@[simp] theorem Time.advance_clampTold : (tm.advance t).clampTold = tm.clampTold := Time.advance_keeps _ (fun _ _ _ _ _ => rfl) tm t
@[simp] theorem Time.advance_sync : (tm.advance t).sync = tm.sync := Time.advance_keeps _ (fun _ _ _ _ _ => rfl) tm t
@[simp] theorem Time.advance_active : (tm.advance t).active = tm.active := Time.advance_keeps _ (fun _ _ _ _ _ => rfl) tm t
@[simp] theorem Time.advance_steering : (tm.advance t).steering = tm.steering := Time.advance_keeps _ (fun _ _ _ _ _ => rfl) tm t
@[simp] theorem Time.advance_preferWait : (tm.advance t).preferWait = tm.preferWait := Time.advance_keeps _ (fun _ _ _ _ _ => rfl) tm t
@[simp] theorem Time.advance_holdoverAt : (tm.advance t).holdoverAt = tm.holdoverAt := Time.advance_keeps _ (fun _ _ _ _ _ => rfl) tm t
@[simp] theorem Time.advance_holdoverTold : (tm.advance t).holdoverTold = tm.holdoverTold := Time.advance_keeps _ (fun _ _ _ _ _ => rfl) tm t
@[simp] theorem Time.advance_domains : (tm.advance t).domains = tm.domains := Time.advance_keeps _ (fun _ _ _ _ _ => rfl) tm t
@[simp] theorem Time.advance_edges : (tm.advance t).edges = tm.edges := Time.advance_keeps _ (fun _ _ _ _ _ => rfl) tm t
@[simp] theorem Time.advance_lastEdge : (tm.advance t).lastEdge = tm.lastEdge := Time.advance_keeps _ (fun _ _ _ _ _ => rfl) tm t
@[simp] theorem Time.advance_syncSent : (tm.advance t).syncSent = tm.syncSent := Time.advance_keeps _ (fun _ _ _ _ _ => rfl) tm t
@[simp] theorem Time.advance_announceSent : (tm.advance t).announceSent = tm.announceSent := Time.advance_keeps _ (fun _ _ _ _ _ => rfl) tm t

end

theorem otherDomain_ne : ∀ d : Fin 2, otherDomain d ≠ d := by decide

/-! ## What a PTP message touches -/

/-- `u` is `s` but for the time unit, the draws of free values, the frames that wait in ports, and the outputs. -/
def PtpOnly (s u : State) : Prop :=
  u = { s with time := u.time, service := { s.service with entropy := u.service.entropy }, net := { s.net with ports := u.net.ports }, outbox := u.outbox }

namespace PtpOnly

theorem refl (s : State) : PtpOnly s s := rfl

section
variable {s u : State} (h : PtpOnly s u)
include h

theorem trans {w : State} (hw : PtpOnly u w) : PtpOnly s w := by
  unfold PtpOnly at hw
  rw [h] at hw
  exact hw

theorem modTime (f : Time → Time) : PtpOnly s (u.modTime f) := h.trans rfl

theorem modDomain (d : Fin 2) (f : Domain → Domain) : PtpOnly s (u.modDomain d f) := h.trans rfl

theorem emit (o : Output) : PtpOnly s (u.emit o) := h.trans rfl

theorem modPort (p : Fin 8) (f : Port → Port) : PtpOnly s (u.modPort p f) := h.trans rfl

theorem draw (p : Nat) (ops : List Int) : PtpOnly s (u.draw p ops).2 := h.trans rfl

theorem ite {c : Prop} [Decidable c] {w : State} (hw : PtpOnly s w) : PtpOnly s (if c then u else w) := by
  split
  · exact h
  · exact hw

theorem foldl {α : Type} {f : State → α → State} (hf : ∀ a x, PtpOnly s a → PtpOnly s (f a x)) (l : List α) : PtpOnly s (l.foldl f u) := by
  induction l generalizing u with
  | nil => exact h
  | cons x l ih => exact ih (hf u x h)

theorem transmit (p : Fin 8) (o : Output) : PtpOnly s (u.transmit p o) := (h.modPort p _).ite (h.emit o)

theorem ptpForward (d : Fin 2) (port : Fin 8) (kind value : Nat) : PtpOnly s (u.ptpForward d port kind value) :=
  h.ite (h.foldl (fun _ p ha => (ha.transmit p _).ite ha) _)

theorem ptpForwardEvent (d : Fin 2) (port : Fin 8) (kind : Nat) (correction : Int) : PtpOnly s (u.ptpForwardEvent d port kind correction) :=
  h.ite ((h.draw 30 _).ptpForward d port kind _)

theorem nat (key : Key) : u.nat key = s.nat key := by
  unfold PtpOnly at h
  rw [h]
  rfl

theorem launch : u.launch = s.launch := by
  unfold PtpOnly at h
  rw [h]

theorem mem : u.mem = s.mem := by
  unfold PtpOnly at h
  rw [h]

end

end PtpOnly

theorem State.transmit_free {s : State} {p : Fin 8} {o : Output} (h : s.net.ports[p].holds o.priority = false) : s.transmit p o = s.emit o :=
  if_neg (by simp [h, -Fin.getElem_fin])

theorem State.transmit_held {s : State} {p : Fin 8} {o : Output} (h : s.net.ports[p].holds o.priority = true) :
    s.transmit p o = s.modPort p fun x => { x with waiting := x.waiting ++ [o] } := if_pos h

theorem State.transmit_time (s : State) (p : Fin 8) (o : Output) : (s.transmit p o).time = s.time := by
  unfold State.transmit
  split <;> rfl

theorem State.ptpForward_time (s : State) (d : Fin 2) (port : Fin 8) (kind value : Nat) : (s.ptpForward d port kind value).time = s.time := by
  unfold State.ptpForward
  split
  · rfl
  · refine foldl_keeps State.time (fun a p => ?_) _ s
    split
    · exact a.transmit_time p _
    · rfl

theorem State.ptpForwardEvent_time (s : State) (d : Fin 2) (port : Fin 8) (kind : Nat) (correction : Int) :
    (s.ptpForwardEvent d port kind correction).time = s.time := by
  unfold State.ptpForwardEvent
  split
  · rfl
  · exact State.ptpForward_time _ d port kind _

/-- The active domain's messages end here in normal service (R394, R395). -/
theorem State.ptpForward_served {s : State} {d : Fin 2} (hservice : s.normalService = true) (hactive : s.time.active = some d) (port : Fin 8) (kind value : Nat) :
    s.ptpForward d port kind value = s := if_pos (by simp [hservice, hactive])

/-! ## The servo (R389) -/

theorem State.servo_held {s : State} (h : s.time.hold ≠ 0) (d : Fin 2) (o : Int) : s.servo d o = s := if_pos h

theorem State.servo_steps {s : State} {o : Int} (hhold : s.time.hold = 0) (hlarge : s.nat (ob 0x2200 9) < o.natAbs) (hidle : s.launching = false) (d : Fin 2) :
    s.servo d o = s.stepTime o := by
  unfold State.servo
  simp [hhold, hlarge, hidle]

/-- The base increment by the rate, where there is one (R389). -/
def State.rated (s : State) (d : Fin 2) : State :=
  match s.time.domains[d].advances (s.nat (ob 0x2200 0x0C)) with
  | some (gm, local_) => s.modTime fun tm => { tm with base := pattern 64 (divRne ((tm.base : Int) * gm) local_) }
  | none => s

/-- The adjustment of one run of the servo (R389). -/
def State.adjusted (s : State) (tau ppm : Nat) (o : Int) : State := s.startAdjustment (slewOf o tau ppm) (tau * 250000)

theorem State.servo_adjusts {s : State} {o : Int} (hhold : s.time.hold = 0) (hsmall : o.natAbs ≤ s.nat (ob 0x2200 9)) (d : Fin 2) :
    s.servo d o = ((s.rated d).adjusted (s.nat (ob 0x2200 0x0B)) (s.nat (ob 0x2200 0x0A)) o).reportClamps := by
  unfold State.servo
  simp only [hhold, ne_eq, not_true_eq_false, if_false, Nat.not_lt.mpr hsmall, decide_false, Bool.false_and, Bool.false_eq_true]
  rfl

theorem State.servo_adjusts_large {s : State} {o : Int} (hhold : s.time.hold = 0) (hlarge : s.nat (ob 0x2200 9) < o.natAbs) (hrun : s.launching = true) (d : Fin 2) :
    s.servo d o = (((s.fault 0x0C04 (.ofUnit s.time.domains[d].port) (pattern 64 o)).rated d).adjusted (s.nat (ob 0x2200 0x0B))
      (s.nat (ob 0x2200 0x0A)) o).reportClamps := by
  unfold State.servo
  simp only [hhold, ne_eq, not_true_eq_false, if_false, hlarge, decide_true, Bool.true_and, hrun, Bool.not_true, Bool.false_eq_true, if_true]
  rfl

/-- The report of clamped ticks records a fault and notes what it has told. -/
theorem State.reportClamps_keeps {γ : Type} (π : State → γ) (htold : ∀ (a : State) ct, π (a.modTime fun tm => { tm with clampTold := ct }) = π a)
    (hfault : ∀ {a b : State}, Announces a b → π b = π a) (s : State) : π s.reportClamps = π s := by
  unfold State.reportClamps
  split
  · rfl
  · exact (hfault (fault_announces _ _ _ _ _)).trans (htold s _)

section
variable {γ : Type} (π : State → γ) (htime : ∀ (a : State) b l r ct, π (a.modTime fun tm => { tm with base := b, adj := l, adjTicks := r, clampTold := ct }) = π a)
include htime

theorem State.rated_keeps (s : State) (d : Fin 2) : π (s.rated d) = π s := by
  unfold State.rated
  split
  · exact htime s _ s.time.adj s.time.adjTicks s.time.clampTold
  · rfl

theorem State.adjusted_keeps (s : State) (tau ppm : Nat) (o : Int) : π (s.adjusted tau ppm o) = π s := htime s s.time.base _ _ s.time.clampTold

section
variable (hstep : ∀ (a : State) w fr h, π (a.modTime fun tm => { tm with weft := w, frac := fr, hold := h }) = π a)
  (hstamps : ∀ (a : State) (e : Fin 2), π (a.modDomain e fun x => { x with stamps := [] }) = π a)
include hstep hstamps

theorem State.stepTime_keeps (s : State) (o : Int) : π (s.stepTime o) = π s := by
  unfold State.stepTime
  extract_lets s1
  have hs1 : π s1 = π s.cancelAdjustment := by
    by_cases ho : o < 0
    · simp only [s1, if_pos ho]
      exact hstep s.cancelAdjustment _ _ s.time.hold
    · simp only [s1, if_neg ho]
      exact hstep s.cancelAdjustment s.time.weft s.time.frac _
  exact (foldl_keeps π hstamps _ _).trans (hs1.trans (htime s s.time.base _ _ s.time.clampTold))

end

variable (hfault : ∀ {a b : State}, Announces a b → π b = π a)
include hfault

variable (hstep : ∀ (a : State) w fr h, π (a.modTime fun tm => { tm with weft := w, frac := fr, hold := h }) = π a)
  (hstamps : ∀ (a : State) (e : Fin 2), π (a.modDomain e fun x => { x with stamps := [] }) = π a)
include hstep hstamps

/-- A run of the servo writes the increments, or the count with its fraction and hold; it ends the samples of a rate, and may record faults. -/
theorem State.servo_keeps (s : State) (d : Fin 2) (o : Int) : π (s.servo d o) = π s := by
  have hadjusts : ∀ (x : State) tau ppm, π (((x.rated d).adjusted tau ppm o).reportClamps) = π x := fun x tau ppm =>
    (State.reportClamps_keeps π (fun a ct => htime a a.time.base a.time.adj a.time.adjTicks ct) hfault _).trans ((State.adjusted_keeps π htime _ _ _ _).trans (State.rated_keeps π htime x d))
  by_cases hhold : s.time.hold = 0
  · rcases Nat.lt_or_ge (s.nat (ob 0x2200 9)) o.natAbs with hlarge | hsmall
    · cases hrun : s.launching
      · rw [State.servo_steps hhold hlarge hrun]
        exact State.stepTime_keeps π htime hstep hstamps s o
      · rw [State.servo_adjusts_large hhold hlarge hrun, hadjusts]
        exact hfault (fault_announces _ _ _ _ _)
    · rw [State.servo_adjusts hhold hsmall, hadjusts]
  · rw [State.servo_held hhold]

end

/-- What a step leaves: the increments and the samples of a rate end; the count goes forward, or stands for a quarter of the offset (R385). -/
theorem State.stepTime_time (s : State) (o : Int) : ∃ ds, (s.stepTime o).time = { s.time with
    adj := 0
    adjTicks := 0
    weft := if o < 0 then s.time.weft + (-o).toNat else s.time.weft
    frac := if o < 0 then 0 else s.time.frac
    hold := if o < 0 then s.time.hold else divUp o.toNat 4
    domains := ds } := by
  refine ⟨(s.stepTime o).time.domains, ?_⟩
  have hcleared : ({ (s.stepTime o).time with domains := s.time.domains } : Time) = { s.time with
      adj := 0
      adjTicks := 0
      weft := if o < 0 then s.time.weft + (-o).toNat else s.time.weft
      frac := if o < 0 then 0 else s.time.frac
      hold := if o < 0 then s.time.hold else divUp o.toNat 4 } := by
    unfold State.stepTime
    refine (foldl_keeps (fun u : State => ({ u.time with domains := s.time.domains } : Time)) (fun a d => ?_) _ _).trans ?_
    · rfl
    · by_cases ho : o < 0
      · simp only [if_pos ho]
        rfl
      · simp only [if_neg ho]
        rfl
  exact congrArg (fun tm : Time => { tm with domains := (s.stepTime o).time.domains }) hcleared

theorem State.stepTime_only (s : State) (o : Int) : PtpOnly s (s.stepTime o) :=
  (((PtpOnly.refl s).modTime _).modTime _).foldl (fun _ d ha => ha.modDomain d _) _

/-- What does not look at the stamps of a domain stays as it is while its servo runs. -/
theorem State.servo_domain {γ : Type} (π : Domain → γ) (hπ : ∀ x : Domain, π { x with stamps := [] } = π x) (s : State) (d e : Fin 2) (o : Int) :
    π (s.servo d o).time.domains[e] = π s.time.domains[e] := by
  refine State.servo_keeps (fun u => π u.time.domains[e]) (fun _ _ _ _ _ => rfl) (fun h => congrArg (fun tm : Time => π tm.domains[e]) h.time) (fun _ _ _ _ => rfl) ?_ s d o
  intro a k
  by_cases hk : e = k
  · subst hk
    exact (congrArg π (upd_getElem_self a.time.domains e _)).trans (hπ _)
  · exact congrArg π (upd_getElem_other a.time.domains _ hk)

/-- A large offset while a launch runs is only slewed (R385, R389). -/
theorem State.servo_large_time {s : State} {o : Int} (hhold : s.time.hold = 0) (hlarge : s.nat (ob 0x2200 9) < o.natAbs) (hrun : s.launching = true) (d : Fin 2) :
    (s.servo d o).now = s.now ∧ (s.servo d o).time.hold = 0 ∧ (s.servo d o).time.adjTicks = s.nat (ob 0x2200 0x0B) * 250000 := by
  rw [State.servo_adjusts_large hhold hlarge hrun]
  generalize hx : s.fault 0x0C04 (.ofUnit s.time.domains[d].port) (pattern 64 o) = x
  have htime : x.time = s.time := by
    rw [← hx]
    exact (fault_announces s _ _ _ _).time
  have hkeeps : ∀ {γ : Type} (π : Time → γ), (∀ (tm : Time) b a l c, π { tm with base := b, adj := a, adjTicks := l, clampTold := c } = π tm) →
      π (((x.rated d).adjusted (s.nat (ob 0x2200 0x0B)) (s.nat (ob 0x2200 0x0A)) o).reportClamps).time = π s.time := by
    intro γ π hπ
    refine (State.reportClamps_keeps (fun u => π u.time) (fun a c => hπ a.time a.time.base a.time.adj a.time.adjTicks c) (fun h => congrArg π h.time) _).trans ?_
    refine (State.adjusted_keeps (fun u => π u.time) (fun a b l r c => hπ a.time b l r c) _ _ _ _).trans ?_
    exact (State.rated_keeps (fun u => π u.time) (fun a b l r c => hπ a.time b l r c) x d).trans (congrArg π htime)
  refine ⟨hkeeps Time.weft fun _ _ _ _ _ => rfl, (hkeeps Time.hold fun _ _ _ _ _ => rfl).trans hhold, ?_⟩
  exact State.reportClamps_keeps (fun u => u.time.adjTicks) (fun _ _ => rfl) (fun h => congrArg Time.adjTicks h.time) _

/-- The time stamps that a rate is formed from are those of the newest Sync and of the one `n` intervals before it. -/
theorem Domain.advances_of_stamps {x : Domain} {n gm rx : Nat} {older : List (Nat × Nat)} {old : Nat × Nat} (hn : n ≤ 64)
    (hstamps : x.stamps = ((gm, rx) :: older).take 65) (hold : older[min n older.length - 1]? = some old) (hlt : old.2 < rx) :
    x.advances n = some ((gm : Int) - old.1, rx - old.2) := by
  have hkept : (older.take 64)[min n (older.take 64).length - 1]? = some old := by
    have hpos : min n older.length - 1 < older.length := (List.getElem?_eq_some_iff.mp hold).1
    rw [List.length_take, show min n (min 64 older.length) = min n older.length by omega, List.getElem?_take_of_lt (by omega), hold]
  unfold Domain.advances
  rw [hstamps, List.take_succ_cons]
  simp only [hkept, Nat.not_le.mpr hlt, if_false]

/-! ## A Sync from which an offset is formed (R389 to R393) -/

/-- The offset that a Sync gives. -/
def State.ptpOffset (s : State) (m : SyncMsg) : Int := (m.rxLocal : Int) - (m.origin + m.correction + s.time.domains[m.domain].pathDelay)

/-- The consecutive offsets within 0x2200:08 after a Sync. -/
def State.ptpRun (s : State) (m : SyncMsg) : Nat :=
  if decide ((s.ptpOffset m).natAbs ≤ s.nat (ob 0x2200 8)) then s.time.domains[m.domain].run16 + 1 else 0

/-- The domain of a Sync with the offset that it gives. -/
def State.formed (s : State) (m : SyncMsg) : State :=
  s.modDomain m.domain fun x =>
    { x with
      offset := s.ptpOffset m
      offsets := (s.ptpOffset m :: x.offsets).take 16
      run16 := s.ptpRun m
      exceeded := decide (s.ptpRun m < 16) && (x.exceeded || !decide ((s.ptpOffset m).natAbs ≤ s.nat (ob 0x2200 8)))
      recovering := false
      recovered := x.recovered || (s.time.domains[m.domain].state == 4 && s.time.active.isSome)
      state := if 16 ≤ s.ptpRun m then 3 else 2
      stamps := ((((m.origin : Int) + m.correction).toNat, m.rxLocal) :: x.stamps).take 65 }

theorem State.processSync_lost {s : State} {m : SyncMsg} (hstate : s.time.domains[m.domain].state = 4) (hrecovering : s.time.domains[m.domain].recovering = false) :
    s.processSync m = s.modDomain m.domain fun x => { x with offset := s.ptpOffset m } :=
  if_pos (by simp [hstate, hrecovering, -Fin.getElem_fin])

theorem State.chooseDomain_chosen {s : State} (h : s.time.active.isSome = true) (d : Fin 2) : s.chooseDomain d = s := if_pos (by simp [h])

section
variable {s : State} {m : SyncMsg} (hstate : s.time.domains[m.domain].state ≠ 4)
include hstate

/-- A Sync of the active domain runs its servo. -/
theorem State.processSync_active (hhold : s.time.holdoverAt = none) (hactive : s.time.active = some m.domain) :
    s.processSync m = ((s.formed m).servo m.domain (s.ptpOffset m)).trackSync := by
  have hchosen : ((s.formed m).servo m.domain (s.ptpOffset m)).time.active.isSome = true := by
    rw [State.servo_keeps (fun u => u.time.active) (fun _ _ _ _ _ => rfl) (fun h => congrArg Time.active h.time) (fun _ _ _ _ => rfl) fun _ _ => rfl]
    exact Option.isSome_of_eq_some hactive
  have hforms : s.processSync m = (((s.formed m).servo m.domain (s.ptpOffset m)).chooseDomain m.domain).trackSync := by
    unfold State.processSync
    rw [if_neg (by simp [hstate, -Fin.getElem_fin])]
    extract_lets within run was4 first gm s1 s2 writes s3
    have hs2 : s2 = s.formed m := (if_neg (by simp [s1, hhold])).trans ((if_neg (by simp [s1, hactive])).trans (if_neg (by simp [s1, hactive])))
    have hs3 : s3 = (s.formed m).servo m.domain (s.ptpOffset m) := by
      refine (if_pos (.inl ?_)).trans (by rw [hs2]; rfl)
      rw [hs2]
      exact hactive
    rw [hs3]
  rw [hforms, State.chooseDomain_chosen hchosen]

/-- Without an active domain the first Sync's domain steers, and its servo runs. -/
theorem State.processSync_steers (hhold : s.time.holdoverAt = none) (hactive : s.time.active = none) (hsteering : s.time.steering = none) :
    s.processSync m =
      ((((s.formed m).modTime fun tm => { tm with steering := some m.domain, steeredAt := s.now }).servo m.domain (s.ptpOffset m)).chooseDomain m.domain).trackSync := by
  unfold State.processSync
  rw [if_neg (by simp [hstate, -Fin.getElem_fin])]
  extract_lets within run was4 first gm s1 s2 writes s3
  have hs2 : s2 = (s.formed m).modTime fun tm => { tm with steering := some m.domain, steeredAt := s.now } :=
    (if_neg (by simp [s1, hhold])).trans (if_pos (by simp [s1, hactive, hsteering]))
  have hs3 : s3 = s2.servo m.domain (s.ptpOffset m) := if_pos (.inr (by rw [hs2]; exact ⟨hactive, rfl⟩))
  rw [hs3, hs2]

end

/-- Without an active domain none is active before the choice of one, whatever steers. -/
theorem State.processSync_chooses {s : State} {m : SyncMsg} (hstate : s.time.domains[m.domain].state ≠ 4) (hhold : s.time.holdoverAt = none) (hactive : s.time.active = none) :
    ∃ x : State, s.processSync m = (x.chooseDomain m.domain).trackSync ∧ x.time.active = none ∧ x.time.holdoverAt = none
      ∧ x.time.domains[m.domain].run16 = s.ptpRun m ∧ x.mem = s.mem := by
  unfold State.processSync
  rw [if_neg (by simp [hstate, -Fin.getElem_fin])]
  extract_lets within run was4 first gm s1 s2 writes s3
  have hs2 : s2.time.active = none ∧ s2.time.holdoverAt = none ∧ s2.time.domains = s1.time.domains ∧ s2.mem = s.mem := by
    have hout : s1.time.holdoverAt.isSome ≠ true := by simp [s1, hhold]
    simp only [s2, if_neg hout]
    split
    · exact ⟨hactive, hhold, rfl, rfl⟩
    · split
      · exact ⟨hactive, hhold, rfl, rfl⟩
      · exact ⟨hactive, hhold, rfl, rfl⟩
  obtain ⟨hactive2, hhold2, hdomains2, hmem2⟩ := hs2
  have hrun2 : s2.time.domains[m.domain].run16 = s.ptpRun m := by
    rw [hdomains2]
    exact congrArg Domain.run16 (upd_getElem_self s.time.domains m.domain _)
  refine ⟨s3, rfl, ?_⟩
  by_cases hwrites : writes
  · simp only [s3, if_pos hwrites]
    refine ⟨?_, ?_, ?_, (State.servo_mem ..).trans hmem2⟩
    · exact (State.servo_keeps (fun u => u.time.active) (fun _ _ _ _ _ => rfl) (fun h => congrArg Time.active h.time) (fun _ _ _ _ => rfl) (fun _ _ => rfl) ..).trans hactive2
    · exact (State.servo_keeps (fun u => u.time.holdoverAt) (fun _ _ _ _ _ => rfl) (fun h => congrArg Time.holdoverAt h.time) (fun _ _ _ _ => rfl) (fun _ _ => rfl) ..).trans hhold2
    · exact (State.servo_domain Domain.run16 (fun _ => rfl) ..).trans hrun2
  · have hnone : ¬ (s2.time.active.isSome && s2.time.domains[m.domain].recovered && s2.flag (ob 0x2200 0x0E) && s2.eligible m.domain) = true := by simp [hactive2]
    simp only [s3, if_neg hwrites, if_neg hnone]
    exact ⟨hactive2, hhold2, hrun2, hmem2⟩

/-- A domain whose recovery an Announce began ends holdover with its next Sync (R393). -/
theorem State.processSync_recovers {s : State} {m : SyncMsg} (hstate : s.time.domains[m.domain].state = 4) (hrecovering : s.time.domains[m.domain].recovering = true)
    (hhold : s.time.holdoverAt.isSome = true) :
    ∃ e : Domain → Bool, s.processSync m =
      ((((s.formed m).activateDomain m.domain).modDomain m.domain fun x => { x with exceeded := e x }).servo m.domain (s.ptpOffset m)).trackSync := by
  unfold State.processSync
  rw [if_neg (by simp [hstate, hrecovering, -Fin.getElem_fin])]
  extract_lets within run was4 first gm s1 s2 writes s3
  refine ⟨fun x => x.exceeded || (s1.launching && decide (x.run16 < 16)), ?_⟩
  have hs2 : s2 = ((s.formed m).activateDomain m.domain).modDomain m.domain fun x => { x with exceeded := x.exceeded || (s1.launching && decide (x.run16 < 16)) } :=
    (if_pos hhold).trans (if_pos (by simp [was4, hstate, -Fin.getElem_fin]))
  have hs3 : s3 = s2.servo m.domain (s.ptpOffset m) := if_pos (.inl (by rw [hs2]; rfl))
  have hchosen : s3.time.active.isSome = true := by
    rw [hs3, State.servo_keeps (fun u => u.time.active) (fun _ _ _ _ _ => rfl) (fun h => congrArg Time.active h.time) (fun _ _ _ _ => rfl) fun _ _ => rfl, hs2]
    rfl
  rw [State.chooseDomain_chosen hchosen, hs3, hs2]

/-! ## A choice of the active domain (R391) -/

/-- A domain whose offsets are not yet within the limit 16 times in a row is not chosen, nor is B in its place. -/
theorem State.chooseDomain_waits {s : State} {d : Fin 2} (hprefer : s.time.preferWait = false) (hrun : s.time.domains[d].run16 < 16) : s.chooseDomain d = s := by
  by_cases hchosen : s.time.active.isSome || s.time.holdoverAt.isSome
  · exact if_pos hchosen
  refine (if_neg hchosen).trans ?_
  by_cases hd : d = 0
  · subst hd
    exact (if_pos rfl).trans ((if_neg (Nat.not_le.mpr hrun)).trans (if_neg (by simp [hprefer])))
  · obtain rfl : d = 1 := by omega
    refine (if_neg hd).trans (if_neg fun hready => ?_)
    exact absurd hrun (Nat.not_lt.mpr (of_decide_eq_true (Bool.and_eq_true_iff.mp hready).1))

theorem State.chooseDomain_takesA {s : State} {d : Fin 2} (hd : d = 0) (hactive : s.time.active = none) (hhold : s.time.holdoverAt = none)
    (hrun : 16 ≤ s.time.domains[d].run16) : s.chooseDomain d = s.activateDomain d := by
  subst hd
  exact (if_neg (by simp [hactive, hhold])).trans ((if_pos rfl).trans (if_pos hrun))

/-! ## Losses (R391 to R393) -/

/-- The domain is lost. -/
def State.lost (s : State) (d : Fin 2) : State :=
  s.modDomain d fun x =>
    { x with state := 4, run16 := 0, offsets := [], exceeded := false, recovering := false, recovered := false, stamps := [], waiting := none }

theorem State.eligible_congr {s u : State} {d : Fin 2} (hcrust : u.crust = s.crust) (hdict : u.dict = s.dict) (hdomain : u.time.domains[d] = s.time.domains[d]) :
    u.eligible d = s.eligible d := by
  have hobj : ∀ key, u.obj key = s.obj key := fun _ => State.obj_congr hcrust (by rw [hdict])
  unfold State.eligible State.domainOn State.flag State.nat State.int
  rw [hdomain, hobj, hobj]

/-- The active domain is lost: the eligible standby takes over, or holdover begins. Steering and the wait for A may end with it. -/
theorem State.loseDomain_active {s : State} {d : Fin 2} (hstate : s.time.domains[d].state ≠ 4) (hactive : s.time.active = some d) (cause : Nat) :
    ∃ st pw, let y := (s.lost d).modTime fun tm => { tm with steering := st, preferWait := pw }
      s.loseDomain d cause = (if s.eligible (otherDomain d) then y.switchDomain (otherDomain d) cause else y.enterHoldover d cause).trackSync := by
  unfold State.loseDomain
  rw [if_neg hstate]
  extract_lets s1 o other s2 s3 s4
  have hs2 : ∃ st, s2 = (s.lost d).modTime fun tm => { tm with steering := st } := by
    by_cases hsteers : s1.time.steering = some d
    · exact ⟨_, if_pos hsteers⟩
    · exact ⟨s.time.steering, if_neg hsteers⟩
  obtain ⟨st, hst⟩ := hs2
  have hs3 : ∃ pw, s3 = (s.lost d).modTime fun tm => { tm with steering := st, preferWait := pw } := by
    by_cases hd : d = 1
    · exact ⟨false, (if_pos hd).trans (by rw [hst]; rfl)⟩
    · refine ⟨s.time.preferWait, (if_neg hd).trans ((if_neg ?_).trans hst)⟩
      rw [hst]
      simp [State.modTime, State.lost, State.modDomain, hactive]
  obtain ⟨pw, hpw⟩ := hs3
  have heligible : s3.eligible o = s.eligible o := by
    rw [hpw]
    exact State.eligible_congr rfl rfl (upd_getElem_other s.time.domains _ (otherDomain_ne d))
  refine ⟨st, pw, ?_⟩
  have hs4 : s4 = if s.eligible o then s3.switchDomain o cause else s3.enterHoldover d cause := by
    refine (if_pos ?_).trans (by rw [heligible])
    rw [hpw]
    exact hactive
  rw [hs4, hpw]

/-- Holdover begins: no domain is active, the adjustment is cancelled, and a fault is recorded (R393, R398). -/
theorem State.enterHoldover_announces (s : State) (d : Fin 2) (cause : Nat) :
    Announces (s.cancelAdjustment.modTime fun tm => { tm with active := none, holdoverAt := some tm.weft, holdoverTold := false }) (s.enterHoldover d cause) :=
  fault_announces _ _ _ _ _

/-- The time unit in holdover: the base increment stays, the adjustment is cancelled, and the state is 4 (R393, R394, R398). -/
theorem State.enterHoldover_time (s : State) (d : Fin 2) (cause : Nat) : (s.enterHoldover d cause).trackSync.time = { s.time with
    adj := 0, adjTicks := 0, active := none, holdoverAt := some s.time.weft, holdoverTold := false, sync := 4, syncedAt := none } := by
  unfold State.trackSync
  rw [State.modTime_time, (s.enterHoldover_announces d cause).time]
  rfl

/-! ## Messages (R389, R392, R396) -/

/-- A Sync has been heard: forwarded where it is to be, its timeout restarted; a two-step one waits (R392, R396). -/
def State.syncHeard (s : State) (m : SyncMsg) : State :=
  (s.ptpForwardEvent m.domain m.port ptpSync m.correction).modDomain m.domain fun x =>
    { x with lastSync := some s.now, heard := true, port := m.port.val, state := if x.state < 2 then 2 else x.state, waiting := if m.twoStep then some m else none }

theorem State.ptpSyncMsg_deaf {s : State} {m : SyncMsg} (h : s.ptpPort m.domain m.port.val = false) : s.ptpSyncMsg m = s := if_pos (by simp [h])

theorem State.ptpSyncMsg_hears {s : State} {m : SyncMsg} (h : s.ptpPort m.domain m.port.val = true) :
    s.ptpSyncMsg m = if m.twoStep then (s.syncHeard m).trackSync else (s.syncHeard m).processSync m := if_neg (by simp [h])

theorem State.ptpFollowUpMsg_deaf {s : State} {m : SyncMsg} (h : s.ptpPort m.domain m.port.val = false) : s.ptpFollowUpMsg m = s := if_pos (by simp [h])

theorem State.ptpAnnounceMsg_deaf {s : State} {a : AnnounceMsg} (h : s.ptpPort a.domain a.port.val = false) : s.ptpAnnounceMsg a = s := if_pos (by simp [h])

section
variable (s : State) (m : SyncMsg)

theorem State.syncHeard_only : PtpOnly s (s.syncHeard m) := ((PtpOnly.refl s).ptpForwardEvent ..).modDomain _ _

theorem State.syncHeard_time : (s.syncHeard m).time = { s.time with
    domains := upd s.time.domains m.domain fun x =>
      { x with lastSync := some s.now, heard := true, port := m.port.val, state := if x.state < 2 then 2 else x.state, waiting := if m.twoStep then some m else none } } := by
  unfold State.syncHeard
  rw [State.modDomain_time, State.ptpForwardEvent_time]

end

end Sys2Proof.Machine

namespace Sys2Proof

open Machine

/-! ## Sync and Follow_Up messages at a count -/

/-- The state in which a Sync that has arrived at a count is processed. -/
def syncAt (s : State) (t : Nat) (m : SyncMsg) : State := (s.advance t).syncHeard m

section
variable (s : State) (t : Nat) (m : SyncMsg)

theorem syncAt_only : PtpOnly s (syncAt s t m) :=
  PtpOnly.trans (u := s.advance t) rfl ((s.advance t).syncHeard_only m)

theorem syncAt_time : (syncAt s t m).time = { s.time.advance t with
    domains := upd s.time.domains m.domain fun x =>
      { x with lastSync := some (s.advance t).now, heard := true, port := m.port.val, state := if x.state < 2 then 2 else x.state
               waiting := if m.twoStep then some m else none } } := by
  unfold syncAt
  rw [State.syncHeard_time, State.advance_time, Time.advance_domains]

theorem syncAt_self : (syncAt s t m).time.domains[m.domain] =
    { s.time.domains[m.domain] with
      lastSync := some (s.advance t).now, heard := true, port := m.port.val
      state := if s.time.domains[m.domain].state < 2 then 2 else s.time.domains[m.domain].state
      waiting := if m.twoStep then some m else none } := by
  rw [syncAt_time]
  exact upd_getElem_self _ _ _

theorem syncAt_other : (syncAt s t m).time.domains[otherDomain m.domain] = s.time.domains[otherDomain m.domain] := by
  rw [syncAt_time]
  exact upd_getElem_other _ _ (otherDomain_ne _)

theorem syncAt_lost : (syncAt s t m).time.domains[m.domain].state = 4 ↔ s.time.domains[m.domain].state = 4 := by
  rw [syncAt_self]
  dsimp only
  split <;> omega

theorem syncAt_offset : (syncAt s t m).ptpOffset m = s.ptpOffset m := by
  unfold State.ptpOffset
  rw [syncAt_self]

theorem syncAt_now : (syncAt s t m).now = (s.advance t).now := by
  rw [State.now, syncAt_time]
  rfl

theorem syncAt_launching : (syncAt s t m).launching = s.launching := by
  unfold State.launching
  rw [(syncAt_only s t m).launch]

theorem syncAt_run : (syncAt s t m).ptpRun m = if (s.ptpOffset m).natAbs ≤ s.nat (ob 0x2200 8) then s.time.domains[m.domain].run16 + 1 else 0 := by
  unfold State.ptpRun
  rw [syncAt_offset, (syncAt_only s t m).nat, syncAt_self]
  simp only [decide_eq_true_eq]

end

section
variable {s : State} {t : Nat} {m : SyncMsg} (hport : s.ptpPort m.domain m.port.val = true)
include hport

theorem sync_waits (htwo : m.twoStep = true) : exec (.ptpSyncReceived t m) s = .next (syncAt s t m).trackSync :=
  congrArg Host.Outcome.next ((State.ptpSyncMsg_hears (s := s.advance t) hport).trans (if_pos htwo))

theorem sync_processed (hone : m.twoStep = false) : exec (.ptpSyncReceived t m) s = .next ((syncAt s t m).processSync m) :=
  congrArg Host.Outcome.next ((State.ptpSyncMsg_hears (s := s.advance t) hport).trans (if_neg (by simp [hone])))

/-- The Sync of a lost domain only forms its offset (R392, R393). -/
theorem sync_lost (hone : m.twoStep = false) (hstate : s.time.domains[m.domain].state = 4) (hrecovering : s.time.domains[m.domain].recovering = false) :
    exec (.ptpSyncReceived t m) s = .next ((syncAt s t m).modDomain m.domain fun x => { x with offset := s.ptpOffset m }) := by
  rw [sync_processed hport hone, State.processSync_lost ((syncAt_lost s t m).mpr hstate) (by rw [syncAt_self, hrecovering]), syncAt_offset]

section
variable (hone : m.twoStep = false) (hstate : s.time.domains[m.domain].state ≠ 4)
include hone hstate

theorem sync_serves (hhold : s.time.holdoverAt = none) (hactive : s.time.active = some m.domain) :
    exec (.ptpSyncReceived t m) s = .next ((((syncAt s t m).formed m).servo m.domain (s.ptpOffset m)).trackSync) := by
  rw [sync_processed hport hone, State.processSync_active (mt (syncAt_lost s t m).mp hstate) (by rw [syncAt_time]; simpa using hhold)
    (by rw [syncAt_time]; simpa using hactive), syncAt_offset]

theorem sync_steers (hhold : s.time.holdoverAt = none) (hactive : s.time.active = none) (hsteering : s.time.steering = none)
    (hrun : s.time.domains[m.domain].run16 < 15) (hprefer : s.time.preferWait = false) :
    exec (.ptpSyncReceived t m) s = .next (((((syncAt s t m).formed m).modTime fun tm =>
      { tm with steering := some m.domain, steeredAt := (syncAt s t m).now }).servo m.domain (s.ptpOffset m)).trackSync) := by
  rw [sync_processed hport hone, State.processSync_steers (mt (syncAt_lost s t m).mp hstate) (by rw [syncAt_time]; simpa using hhold)
    (by rw [syncAt_time]; simpa using hactive) (by rw [syncAt_time]; simpa using hsteering), syncAt_offset, State.chooseDomain_waits]
  · rw [State.servo_keeps (fun u => u.time.preferWait) (fun _ _ _ _ _ => rfl) (fun h => congrArg Time.preferWait h.time) (fun _ _ _ _ => rfl) fun _ _ => rfl]
    show (syncAt s t m).time.preferWait = false
    rw [syncAt_time]
    simpa using hprefer
  · rw [State.servo_domain Domain.run16 fun _ => rfl]
    have hformed : ((syncAt s t m).formed m).time.domains[m.domain].run16 = (syncAt s t m).ptpRun m :=
      congrArg Domain.run16 (upd_getElem_self (syncAt s t m).time.domains m.domain _)
    refine hformed.trans_lt ?_
    rw [syncAt_run]
    split <;> omega

end

end

/-! ## What a processed Sync leaves -/

section
variable (s : State) (t : Nat) (m : SyncMsg)

/-- The domain of a Sync once its offset is formed. -/
theorem formed_self : ((syncAt s t m).formed m).time.domains[m.domain].offset = s.ptpOffset m
    ∧ ((syncAt s t m).formed m).time.domains[m.domain].run16 =
        (if (s.ptpOffset m).natAbs ≤ s.nat (ob 0x2200 8) then s.time.domains[m.domain].run16 + 1 else 0)
    ∧ ((syncAt s t m).formed m).time.domains[m.domain].stamps =
        ((((m.origin : Int) + m.correction).toNat, m.rxLocal) :: s.time.domains[m.domain].stamps).take 65 := by
  have hself := upd_getElem_self (syncAt s t m).time.domains m.domain
  refine ⟨(congrArg Domain.offset (hself _)).trans (syncAt_offset s t m), (congrArg Domain.run16 (hself _)).trans (syncAt_run s t m), ?_⟩
  exact (congrArg Domain.stamps (hself _)).trans (congrArg (fun l => (_ :: l).take 65) (by rw [syncAt_self]))

theorem formed_other : ((syncAt s t m).formed m).time.domains[otherDomain m.domain] = s.time.domains[otherDomain m.domain] :=
  (upd_getElem_other _ _ (otherDomain_ne _)).trans (syncAt_other s t m)

/-- Only the domain differs from the time that has passed. -/
theorem formed_time : ∃ ds : Vector Domain 2, ((syncAt s t m).formed m).time = { s.time.advance t with domains := ds } := by
  have hformed : ((syncAt s t m).formed m).time = { (syncAt s t m).time with domains := ((syncAt s t m).formed m).time.domains } := rfl
  exact ⟨_, hformed.trans (congrArg (fun tm : Time => { tm with domains := ((syncAt s t m).formed m).time.domains }) (syncAt_time s t m))⟩

theorem formed_only : PtpOnly s ((syncAt s t m).formed m) := (syncAt_only s t m).modDomain _ _

end

/-- A new base increment and an adjustment, in one. -/
theorem Machine.State.adjusted_modTime (x : State) (b : Int → Int) (tau ppm : Nat) (o : Int) :
    (x.modTime fun tm => { tm with base := pattern 64 (b tm.base) }).adjusted tau ppm o =
      x.modTime fun tm => { tm with base := pattern 64 (b tm.base), adj := slewOf o tau ppm, adjTicks := tau * 250000 } := rfl

/-- The rate and the adjustment of one run of the servo on a formed offset (R389). -/
theorem formed_adjusts {s : State} {t : Nat} {m : SyncMsg} {old : Nat × Nat} (hhold : s.time.hold = 0) (hsmall : (s.ptpOffset m).natAbs ≤ s.nat (ob 0x2200 9))
    (hspan : s.nat (ob 0x2200 0x0C) ≤ 64) (htold : (s.advance t).time.clampedTicks = s.time.clampTold)
    (hold : s.time.domains[m.domain].stamps[min (s.nat (ob 0x2200 0x0C)) s.time.domains[m.domain].stamps.length - 1]? = some old) (hlt : old.2 < m.rxLocal) :
    ((syncAt s t m).formed m).servo m.domain (s.ptpOffset m) = ((syncAt s t m).formed m).modTime fun tm =>
      { tm with
        base := pattern 64 (divRne ((tm.base : Int) * ((((m.origin : Int) + m.correction).toNat : Int) - old.1)) (m.rxLocal - old.2))
        adj := slewOf (s.ptpOffset m) (s.nat (ob 0x2200 0x0B)) (s.nat (ob 0x2200 0x0A)), adjTicks := s.nat (ob 0x2200 0x0B) * 250000 } := by
  obtain ⟨ds, htime⟩ := formed_time s t m
  have hnat := (formed_only s t m).nat
  have hrated : ((syncAt s t m).formed m).rated m.domain = ((syncAt s t m).formed m).modTime fun tm =>
      { tm with base := pattern 64 (divRne ((tm.base : Int) * ((((m.origin : Int) + m.correction).toNat : Int) - old.1)) (m.rxLocal - old.2)) } := by
    unfold State.rated
    rw [hnat, Domain.advances_of_stamps hspan (formed_self s t m).2.2 hold hlt]
  have hclamps : ((syncAt s t m).formed m).time.clampedTicks = ((syncAt s t m).formed m).time.clampTold := by
    rw [htime]
    exact htold.trans (Time.advance_clampTold _ _).symm
  rw [State.servo_adjusts (by rw [htime]; simpa using hhold) (by rw [hnat]; exact hsmall), hrated, hnat, hnat,
    State.adjusted_modTime _ fun b => divRne (b * ((((m.origin : Int) + m.correction).toNat : Int) - old.1)) (m.rxLocal - old.2)]
  exact State.reportClamps_told hclamps

/-! ## Announce messages (R392, R393) -/

/-- An Announce has been heard: forwarded where it is to be, the data set renewed, and the recovery of a lost domain begun (R392, R393). -/
def Machine.State.announceHeard (s : State) (a : AnnounceMsg) : State :=
  ((s.ptpForward a.domain a.port ptpAnnounce a.gmIdentity).modDomain a.domain fun x =>
    { x with gm := a.gmIdentity % 2 ^ 64, clockClass := a.clockClass % 256, steps := a.stepsRemoved % 2 ^ 16,
             lastAnnounce := some s.now, heard := true, state := if x.state < 2 then 2 else x.state,
             recovering := x.state == 4 && decide (a.clockClass ≤ s.nat (ptpObj a.domain 0x10)) }).modTime fun tm =>
    if tm.active = some a.domain ∨ tm.active = none then { tm with utc := a.utcOffset } else tm

theorem Machine.State.ptpAnnounceMsg_hears {s : State} {a : AnnounceMsg} (h : s.ptpPort a.domain a.port.val = true) :
    s.ptpAnnounceMsg a = (s.announceHeard a).judgeClass a.domain := if_neg (by simp [h])

/-- The state in which the class of an Announce that has arrived at a count is judged. -/
def announceAt (s : State) (t : Nat) (a : AnnounceMsg) : State := (s.advance t).announceHeard a

section
variable (s : State) (t : Nat) (a : AnnounceMsg)

theorem announceAt_frame : announceAt s t a = { s with
    time := (announceAt s t a).time, net := { s.net with ports := (announceAt s t a).net.ports }, outbox := (announceAt s t a).outbox } := by
  have hforward : ∀ x : State, x.ptpForward a.domain a.port ptpAnnounce a.gmIdentity = { x with
      time := (x.ptpForward a.domain a.port ptpAnnounce a.gmIdentity).time
      net := { x.net with ports := (x.ptpForward a.domain a.port ptpAnnounce a.gmIdentity).net.ports }
      outbox := (x.ptpForward a.domain a.port ptpAnnounce a.gmIdentity).outbox } := by
    intro x
    have hservice : (x.ptpForward a.domain a.port ptpAnnounce a.gmIdentity).service = x.service := by
      unfold State.ptpForward
      split
      · rfl
      · refine foldl_keeps State.service (fun y p => ?_) _ x
        split
        · unfold State.transmit
          split <;> rfl
        · rfl
    have honly := (PtpOnly.refl x).ptpForward a.domain a.port ptpAnnounce a.gmIdentity
    unfold PtpOnly at honly
    rw [hservice] at honly
    exact honly
  unfold announceAt State.announceHeard
  rw [hforward (s.advance t)]
  rfl

/-- The domain that an Announce renews, and the UTC offset (R392). -/
theorem announceAt_time : ∃ utc, (announceAt s t a).time = { s.time.advance t with
    utc := utc
    domains := upd s.time.domains a.domain fun x =>
      { x with gm := a.gmIdentity % 2 ^ 64, clockClass := a.clockClass % 256, steps := a.stepsRemoved % 2 ^ 16,
               lastAnnounce := some (s.advance t).now, heard := true, state := if x.state < 2 then 2 else x.state,
               recovering := x.state == 4 && decide (a.clockClass ≤ s.nat (ptpObj a.domain 0x10)) } } := by
  unfold announceAt State.announceHeard
  rw [State.modTime_time, State.modDomain_time, State.ptpForward_time, State.advance_time, Time.advance_domains]
  split
  · exact ⟨_, rfl⟩
  · exact ⟨(s.time.advance t).utc, rfl⟩

theorem announceAt_nat (key : Key) : (announceAt s t a).nat key = s.nat key := by
  rw [announceAt_frame]
  rfl

end

section
variable {s : State} {t : Nat} {a : AnnounceMsg} (hport : s.ptpPort a.domain a.port.val = true) (hclass : a.clockClass < 256)
include hport

theorem announce_heard : exec (.ptpAnnounceReceived t a) s = .next ((announceAt s t a).judgeClass a.domain) :=
  congrArg Host.Outcome.next (State.ptpAnnounceMsg_hears (s := s.advance t) hport)

include hclass

theorem announce_within (hlimit : a.clockClass ≤ s.nat (ptpObj a.domain 0x10)) : exec (.ptpAnnounceReceived t a) s = .next (announceAt s t a) := by
  rw [announce_heard hport]
  obtain ⟨utc, htime⟩ := announceAt_time s t a
  have hself : (announceAt s t a).time.domains[a.domain].clockClass = a.clockClass := by
    rw [htime]
    exact (congrArg Domain.clockClass (upd_getElem_self _ _ _)).trans (Nat.mod_eq_of_lt hclass)
  refine congrArg Host.Outcome.next (if_neg ?_)
  rw [announceAt_nat, hself]
  simp [hlimit]

theorem announce_above (hlimit : s.nat (ptpObj a.domain 0x10) < a.clockClass) :
    exec (.ptpAnnounceReceived t a) s = .next ((announceAt s t a).loseDomain a.domain 3) := by
  rw [announce_heard hport]
  obtain ⟨utc, htime⟩ := announceAt_time s t a
  have hself : (announceAt s t a).time.domains[a.domain].lastAnnounce = some (s.advance t).now
      ∧ (announceAt s t a).time.domains[a.domain].clockClass = a.clockClass := by
    rw [htime]
    have hupd := upd_getElem_self s.time.domains a.domain
    exact ⟨congrArg Domain.lastAnnounce (hupd _), (congrArg Domain.clockClass (hupd _)).trans (Nat.mod_eq_of_lt hclass)⟩
  refine congrArg Host.Outcome.next (if_pos ?_)
  rw [announceAt_nat, hself.1, hself.2]
  simp [hlimit]

end

end Sys2Proof

namespace Sys2Proof

open Machine

/-! ## Follow_Up messages (R389, R402) -/

/-- A Follow_Up with what the Sync that waits for it holds: the whole correction and the local time stamp. -/
def followed (m w : SyncMsg) : SyncMsg := { m with correction := w.correction + m.correction, rxLocal := w.rxLocal }

/-- No Sync of the domain waits any more. -/
def Machine.State.unwaited (s : State) (d : Fin 2) : State := s.modDomain d fun x => { x with waiting := none }

theorem unwaited_self (s : State) (d : Fin 2) : (s.unwaited d).time.domains[d] = { s.time.domains[d] with waiting := none } := upd_getElem_self _ _ _

section
variable {s : State} {m : SyncMsg} (hport : s.ptpPort m.domain m.port.val = true) (hservice : s.normalService = true) (hactive : s.time.active = some m.domain)
include hport hservice hactive

theorem ptpFollowUpMsg_stray (hnone : s.time.domains[m.domain].waiting = none) : s.ptpFollowUpMsg m = s.fault 0x0C06 (.ofUnit m.port.val) 2 := by
  refine (if_neg (by simp [hport])).trans ?_
  rw [State.ptpForward_served hservice hactive, hnone]

theorem ptpFollowUpMsg_completes {w : SyncMsg} (hwaits : s.time.domains[m.domain].waiting = some w) (hsame : w.port = m.port) :
    s.ptpFollowUpMsg m = (s.unwaited m.domain).processSync (followed m w) := by
  refine (if_neg (by simp [hport])).trans ?_
  rw [State.ptpForward_served hservice hactive, hwaits]
  exact if_pos hsame

end

/-- The Follow_Up of a Sync that waits, during a hold: the offset is formed, and nothing is written (R385, R389). -/
theorem followUp_held {s : State} {t : Nat} {m w : SyncMsg} (hport : s.ptpPort m.domain m.port.val = true) (hsync : s.time.sync = 2) (htest : s.nat (ob 0x2200 7) = 0)
    (hactive : s.time.active = some m.domain) (hhold : s.time.holdoverAt = none) (hwaits : s.time.domains[m.domain].waiting = some w) (hsame : w.port = m.port)
    (hstate : s.time.domains[m.domain].state ≠ 4) (hheld : s.time.hold ≠ 0) :
    exec (.ptpFollowUpReceived t m) s = .next ((s.unwaited m.domain).formed (followed m w)).trackSync := by
  have hadvance : s.advance t = s := congrArg (fun tm => ({ s with time := tm } : State)) (Time.advance_held hheld t)
  have hservice : s.normalService = true := by simp [State.normalService, hsync, State.flag, htest]
  have hlive : (s.unwaited m.domain).time.domains[(followed m w).domain].state ≠ 4 := by
    have hself := congrArg Domain.state (unwaited_self s m.domain)
    exact fun hlost => hstate (hself.symm.trans hlost)
  have hheld' : ((s.unwaited m.domain).formed (followed m w)).time.hold ≠ 0 := hheld
  refine congrArg Host.Outcome.next ?_
  rw [hadvance, ptpFollowUpMsg_completes hport hservice hactive hwaits hsame, State.processSync_active hlive hhold hactive, State.servo_held hheld']

theorem followUp_stray {s : State} {t : Nat} {m : SyncMsg} (hport : s.ptpPort m.domain m.port.val = true) (hsync : s.time.sync = 2) (htest : s.nat (ob 0x2200 7) = 0)
    (hactive : s.time.active = some m.domain) (hnone : s.time.domains[m.domain].waiting = none) :
    exec (.ptpFollowUpReceived t m) s = .next ((s.advance t).fault 0x0C06 (.ofUnit m.port.val) 2) := by
  have hservice : (s.advance t).normalService = true := by simp [State.normalService, hsync, State.flag, htest]
  exact congrArg Host.Outcome.next (ptpFollowUpMsg_stray (s := s.advance t) hport hservice (by simpa using hactive) (by simpa using hnone))

/-! ## The clauses of O31 -/

/-- Settles O31: each Sync is processed in the state in which it has been heard (`syncAt`), the servo writes only what it may (`State.servo_keeps`), and an Announce above the limit loses its domain (`State.loseDomain_active`). -/
theorem syncMessagesSteerTheirDomain : Obligations.SyncMessagesSteerTheirDomain := by
  refine ⟨fun s t m => ?_, fun s t a => ?_⟩
  · intro d x o gm tau limit only
    have hsame : PtpOnly s ((syncAt s t m).formed m) := formed_only s t m
    obtain ⟨hoffset, hrun16, _⟩ := formed_self s t m
    obtain ⟨ds, htime⟩ := formed_time s t m
    have hnow : ((syncAt s t m).formed m).now = (s.advance t).now := (congrArg Time.weft htime).trans rfl
    have hbase : ((syncAt s t m).formed m).time.base = s.time.base := (congrArg Time.base htime).trans (Time.advance_base _ _)
    have hhold : ((syncAt s t m).formed m).time.hold = s.time.hold := (congrArg Time.hold htime).trans (Time.advance_hold _ _)
    have hother := formed_other s t m
    generalize hformed : (syncAt s t m).formed m = y at *
    refine ⟨fun hdeaf => ⟨congrArg Host.Outcome.next (State.ptpSyncMsg_deaf (s := s.advance t) hdeaf),
        congrArg Host.Outcome.next (State.ptpFollowUpMsg_deaf (s := s.advance t) hdeaf)⟩,
      fun hport htwo => ?_, fun hport hone hstate hrecovering => ?_,
      fun hport hone hstate hnone hactive => ⟨fun hheld => ?_, fun old hheld hsmall hspan htold hold hlt => ?_, fun hheld hlarge hidle => ?_, fun hheld hlarge hrun => ?_⟩,
      fun hport hone hstate hnone hactive => ⟨fun hsteering hrun hprefer => ?_, fun hd hrun hwithin => ?_⟩,
      fun hport hone hstate hrecovering hhold' => ?_,
      fun hport hsync htest hactive hnone => ⟨fun w hwaits hw hstate hheld => ?_, fun hstray => followUp_stray hport hsync htest hactive hstray⟩⟩
    · have hself := syncAt_self s t m
      have hbase' : (syncAt s t m).time.base = s.time.base := (congrArg Time.base (syncAt_time s t m)).trans (Time.advance_base _ _)
      refine ⟨_, sync_waits hport htwo, ⟨(syncAt_only s t m).modTime _, syncAt_other s t m⟩, (congrArg Domain.waiting hself).trans (if_pos htwo), ?_, ?_, hbase', syncAt_now s t m⟩
      · exact (congrArg Domain.lastSync hself).trans rfl
      · exact (congrArg Domain.offset hself).trans rfl
    · have hself : ((syncAt s t m).modDomain m.domain fun x => { x with offset := s.ptpOffset m }).time.domains[m.domain] = _ :=
        upd_getElem_self (syncAt s t m).time.domains m.domain _
      have hbase' : (syncAt s t m).time.base = s.time.base := (congrArg Time.base (syncAt_time s t m)).trans (Time.advance_base _ _)
      exact ⟨_, sync_lost hport hone hstate hrecovering, ⟨(syncAt_only s t m).modDomain _ _, (upd_getElem_other _ _ (otherDomain_ne _)).trans (syncAt_other s t m)⟩,
        (congrArg Domain.offset hself).trans rfl, (congrArg Domain.state hself).trans ((syncAt_lost s t m).mpr hstate), hbase', syncAt_now s t m⟩
    · have hadj : y.time.adj = s.time.adj := (congrArg Time.adj htime).trans ((congrArg (fun tm : Time => tm.adj) (Time.advance_held hheld t)).trans rfl)
      refine ⟨_, sync_serves hport hone hstate hnone hactive, ?_⟩
      rw [hformed, State.servo_held (by rw [hhold]; exact hheld)]
      exact ⟨⟨hsame.modTime _, hother⟩, hoffset, hbase, hadj, hnow⟩
    · have hadjusts := formed_adjusts hheld hsmall hspan htold hold hlt
      refine ⟨_, sync_serves hport hone hstate hnone hactive, ?_⟩
      rw [hformed] at hadjusts ⊢
      rw [hadjusts]
      refine ⟨⟨(hsame.modTime _).modTime _, hother⟩, hoffset, ?_, rfl, rfl, hnow, hrun16⟩
      rw [← hbase]
      rfl
    · have hsteps : y.servo m.domain (s.ptpOffset m) = y.stepTime (s.ptpOffset m) := by
        refine State.servo_steps (hhold.trans hheld) (by rw [hsame.nat]; exact hlarge) ?_ _
        rw [State.launching, hsame.launch]
        exact hidle
      obtain ⟨ds', hstepped⟩ := y.stepTime_time (s.ptpOffset m)
      refine ⟨_, sync_serves hport hone hstate hnone hactive, ?_⟩
      rw [hformed, hsteps]
      refine ⟨(hsame.trans (y.stepTime_only _)).modTime _, ?_, ?_, ?_, fun hbehind => ⟨?_, ?_, ?_⟩, fun hahead => ⟨?_, ?_⟩⟩
      all_goals simp only [State.trackSync, State.modTime_time, State.now, hstepped]
      · exact hbase
      · exact (if_pos (show s.ptpOffset m < 0 from hbehind)).trans (congrArg (· + _) hnow)
      · exact if_pos hbehind
      · exact (if_pos (show s.ptpOffset m < 0 from hbehind)).trans (hhold.trans hheld)
      · exact (if_neg (show ¬ s.ptpOffset m < 0 from not_lt.mpr hahead)).trans hnow
      · exact if_neg (not_lt.mpr hahead)
    · obtain ⟨hweft, hstands, hticks⟩ := State.servo_large_time (s := y) (hhold.trans hheld) (o := s.ptpOffset m) (by rw [hsame.nat]; exact hlarge)
        (by rw [State.launching, hsame.launch]; exact hrun) m.domain
      refine ⟨_, sync_serves hport hone hstate hnone hactive, ?_⟩
      rw [hformed]
      refine ⟨hweft.trans hnow, hstands, ?_, (State.servo_mem ..).trans hsame.mem, ?_⟩
      · rw [hsame.nat] at hticks
        exact hticks
      · exact (State.servo_keeps State.launch (fun _ _ _ _ _ => rfl) Announces.launch (fun _ _ _ _ => rfl) (fun _ _ => rfl) y _ _).trans hsame.launch
    · refine ⟨_, sync_steers hport hone hstate hnone hactive hsteering hrun hprefer, ?_⟩
      rw [hformed]
      have hkeeps : ∀ {γ : Type} (π : Time → γ), (∀ (tm : Time) b a l c, π { tm with base := b, adj := a, adjTicks := l, clampTold := c } = π tm) →
          (∀ (tm : Time) w f h, π { tm with weft := w, frac := f, hold := h } = π tm) → (∀ (tm : Time) ds, π { tm with domains := ds } = π tm) → ∀ (x : State) e o,
          π (x.servo e o).time = π x.time := fun π h1 h2 h3 x e o =>
        State.servo_keeps (fun u => π u.time) (fun a b l r c => h1 a.time b l r c) (fun h => congrArg π h.time) (fun a w f h => h2 a.time w f h) (fun a _ => h3 a.time _) x e o
      refine ⟨hkeeps Time.steering (fun _ _ _ _ _ => rfl) (fun _ _ _ _ => rfl) (fun _ _ => rfl) .., ?_, ?_, (State.servo_mem ..).trans hsame.mem⟩
      · refine (hkeeps Time.active (fun _ _ _ _ _ => rfl) (fun _ _ _ _ => rfl) (fun _ _ => rfl) ..).trans ?_
        exact (congrArg Time.active htime).trans ((Time.advance_active _ _).trans hactive)
      · exact (State.servo_domain Domain.offset (fun _ => rfl) ..).trans hoffset
    · obtain ⟨x, hchooses, hactive', hhold', hrun', hmem⟩ := State.processSync_chooses (s := syncAt s t m) (m := m) (mt (syncAt_lost s t m).mp hstate)
        (by rw [syncAt_time]; simpa using hnone) (by rw [syncAt_time]; simpa using hactive)
      have hlong : 16 ≤ x.time.domains[m.domain].run16 := by
        rw [hrun', syncAt_run, if_pos (show (s.ptpOffset m).natAbs ≤ _ from hwithin)]
        exact Nat.succ_le_succ hrun
      refine ⟨_, sync_processed hport hone, ?_⟩
      rw [hchooses, State.chooseDomain_takesA hd hactive' hhold' hlong]
      exact ⟨congrArg some hd, rfl, hmem.trans (syncAt_only s t m).mem⟩
    · obtain ⟨e, hrecovers⟩ := State.processSync_recovers (s := syncAt s t m) (m := m) ((syncAt_lost s t m).mpr hstate)
        ((congrArg Domain.recovering (syncAt_self s t m)).trans hrecovering) (by rw [syncAt_time]; simpa using hhold')
      refine ⟨_, (sync_processed hport hone).trans (congrArg Host.Outcome.next hrecovers), ?_⟩
      rw [hformed]
      refine ⟨?_, ?_, ?_, (State.servo_mem ..).trans hsame.mem, ?_⟩
      · exact State.servo_keeps (fun u => u.time.active) (fun _ _ _ _ _ => rfl) (fun h => congrArg Time.active h.time) (fun _ _ _ _ => rfl) (fun _ _ => rfl) ..
      · exact State.servo_keeps (fun u => u.time.holdoverAt) (fun _ _ _ _ _ => rfl) (fun h => congrArg Time.holdoverAt h.time) (fun _ _ _ _ => rfl) (fun _ _ => rfl) ..
      · refine (State.servo_domain Domain.offset (fun _ => rfl) ..).trans (Eq.trans ?_ hoffset)
        have houter := upd_getElem_self (y.activateDomain m.domain).time.domains m.domain
        have hinner := upd_getElem_self y.time.domains m.domain
        exact ((congrArg Domain.offset (houter _)).trans rfl).trans ((congrArg Domain.offset (hinner _)).trans rfl)
      · exact (State.servo_keeps State.launch (fun _ _ _ _ _ => rfl) Announces.launch (fun _ _ _ _ => rfl) (fun _ _ => rfl) ..).trans hsame.launch
    · have hself := upd_getElem_self (s.unwaited m.domain).time.domains m.domain
      have hunwaited := unwaited_self s m.domain
      refine ⟨_, followUp_held hport hsync htest hactive hnone hwaits hw hstate hheld, ⟨?_, ?_⟩, ?_, ?_, rfl⟩
      · exact (((PtpOnly.refl s).modDomain _ _).modDomain _ _).modTime _
      · exact (upd_getElem_other _ _ (otherDomain_ne _)).trans (upd_getElem_other s.time.domains _ (otherDomain_ne _))
      · exact (congrArg Domain.waiting (hself _)).trans (congrArg Domain.waiting hunwaited)
      · have hdelay : (s.unwaited m.domain).time.domains[m.domain].pathDelay = s.time.domains[m.domain].pathDelay := (congrArg Domain.pathDelay hunwaited).trans rfl
        exact (congrArg Domain.offset (hself _)).trans (congrArg (fun n : Nat => (w.rxLocal : Int) - (m.origin + (w.correction + m.correction) + n)) hdelay)
  · intro d x
    refine ⟨fun hdeaf => congrArg Host.Outcome.next (State.ptpAnnounceMsg_deaf (s := s.advance t) hdeaf), fun hport hclass hlimit => ?_,
      fun hport hclass hlimit hstate hactive hstandby => ?_⟩
    · obtain ⟨utc, htime⟩ := announceAt_time s t a
      have hself : (announceAt s t a).time.domains[a.domain] = _ := (congrArg (fun tm : Time => tm.domains[a.domain]) htime).trans (upd_getElem_self s.time.domains a.domain _)
      have hother : (announceAt s t a).time.domains[otherDomain a.domain] = _ :=
        (congrArg (fun tm : Time => tm.domains[otherDomain a.domain]) htime).trans (upd_getElem_other s.time.domains _ (otherDomain_ne _))
      refine ⟨_, announce_within hport hclass hlimit, announceAt_frame s t a, ?_, ?_, ?_, ?_, ?_, ?_, hother, ?_, ?_⟩
      · exact congrArg Domain.gm hself
      · exact (congrArg Domain.clockClass hself).trans (Nat.mod_eq_of_lt hclass)
      · exact congrArg Domain.steps hself
      · exact congrArg Domain.lastAnnounce hself
      · rw [congrArg Domain.recovering hself, decide_eq_true hlimit, Bool.and_true]
        exact beq_iff_eq
      · exact (congrArg Domain.offset hself).trans rfl
      · rw [htime]
        exact Time.advance_base _ _
      · rw [State.now, htime]
        rfl
    · obtain ⟨utc, htime⟩ := announceAt_time s t a
      have hframe := announceAt_frame s t a
      have hstate' : (announceAt s t a).time.domains[a.domain].state ≠ 4 := by
        have hself : (announceAt s t a).time.domains[a.domain].state = if s.time.domains[a.domain].state < 2 then 2 else s.time.domains[a.domain].state := by
          rw [htime]
          exact congrArg Domain.state (upd_getElem_self s.time.domains a.domain _)
        rw [hself]
        split
        · decide
        · exact hstate
      have hactive' : (announceAt s t a).time.active = some a.domain := by
        rw [htime]
        exact (Time.advance_active _ _).trans hactive
      have hstandby' : (announceAt s t a).eligible (otherDomain a.domain) = false := by
        refine (State.eligible_congr (by rw [hframe]) (by rw [hframe]) ?_).trans hstandby
        rw [htime]
        exact upd_getElem_other s.time.domains _ (otherDomain_ne _)
      have hbase : (announceAt s t a).time.base = s.time.base := by
        rw [htime]
        exact Time.advance_base _ _
      have hnow : (announceAt s t a).time.weft = (s.advance t).now := by
        rw [htime]
        rfl
      obtain ⟨st, pw, hlost⟩ := State.loseDomain_active hstate' hactive' 3
      refine ⟨_, announce_above hport hclass hlimit, ?_⟩
      rw [hlost, hstandby', if_neg Bool.false_ne_true]
      refine ⟨?_, ?_, ?_, ?_, ?_, ?_, ?_⟩
      all_goals simp only [State.now, State.enterHoldover_time]
      · exact congrArg Domain.state (upd_getElem_self (announceAt s t a).time.domains a.domain _)
      · exact congrArg some hnow
      · exact hbase
      · exact hnow

end Sys2Proof

/-!
Lost domains, holdover and the ends of holds and adjustments (O32).
-/

namespace Sys2Proof.Machine

/-! ## Losses at one moment (R392, R393) -/

theorem State.loseInOrder_alone {s : State} {d : Fin 2} (h : d = 1 → s.announceOverdue 0 = false ∧ s.syncOverdue 0 = false) (cause : Nat) :
    s.loseInOrder d cause = s.loseDomain d cause := by
  unfold State.loseInOrder
  by_cases hd : d = 1
  · obtain ⟨hannounce, hsync⟩ := h hd
    simp [hannounce, hsync]
  · simp [hd]

/-- The standby whose last Sync was not processed at this count takes over without a run of its servo (R392). -/
theorem State.switchDomain_unsynced {s : State} {d : Fin 2} (h : ∀ p ∈ s.time.domains[d].stamps, p.2 ≠ s.now) (cause : Nat) :
    s.switchDomain d cause = (s.cancelAdjustment.activateDomain d).fault 0x0C03 (.ofUnit s.time.domains[d].port)
      (atI 32 32 s.time.domains[d].offset ||| at_ 8 8 cause ||| at_ 8 0 d.val) := by
  unfold State.switchDomain
  extract_lets x s1
  split
  next gm rx rest hstamps => exact if_neg (h (gm, rx) (hstamps ▸ List.mem_cons_self))
  next => rfl

/-- What a switch leaves of the time unit. -/
theorem State.switchDomain_time {s : State} {d : Fin 2} (h : ∀ p ∈ s.time.domains[d].stamps, p.2 ≠ s.now) (cause : Nat) :
    (s.switchDomain d cause).time = (s.cancelAdjustment.activateDomain d).time := by
  rw [State.switchDomain_unsynced h]
  exact (fault_announces _ _ _ _ _).time

/-! ## Ends of holds and adjustments, and the estimate in holdover (R384, R385, R398) -/

theorem State.cancelAdjustment_told {s : State} (h : s.time.clampedTicks = s.time.clampTold) : s.cancelAdjustment.reportClamps = s.cancelAdjustment :=
  State.reportClamps_told (s := s.cancelAdjustment) h

theorem State.holdoverError_none {s : State} (h : s.time.holdoverAt = none) : s.holdoverError = 0 := by
  unfold State.holdoverError
  rw [h]

theorem State.holdoverError_some {s : State} {h : Nat} (hat : s.time.holdoverAt = some h) :
    s.holdoverError = min (divRne (((s.now - h) * s.nat (ob 0x2200 0x17) : Nat) : Int) 100000000).toNat (2 ^ 32 - 1) := by
  unfold State.holdoverError
  rw [hat]

end Sys2Proof.Machine

namespace Sys2Proof

open Machine

/-! ## The active domain is lost at a count -/

section
variable {s : State} {d : Fin 2} (hstate : s.time.domains[d].state ≠ 4) (hactive : s.time.active = some d) (cause : Nat)
include hstate hactive

/-- The eligible standby takes over. -/
theorem lost_switches (helig : s.eligible (otherDomain d) = true) (hstamps : ∀ p ∈ s.time.domains[otherDomain d].stamps, p.2 ≠ s.now) :
    let o := otherDomain d
    let u := s.loseDomain d cause
    u.time.active = some o ∧ u.time.domains[d].state = 4 ∧ u.time.domains[o].offset = s.time.domains[o].offset ∧ u.now = s.now
      ∧ u.time.base = s.time.base ∧ u.time.adj = 0 ∧ u.time.adjTicks = 0 ∧ u.time.holdoverAt = none
      ∧ u.log = (s.fault 0x0C03 (.ofUnit s.time.domains[o].port) (atI 32 32 s.time.domains[o].offset ||| at_ 8 8 cause ||| at_ 8 0 o.val)).log
      ∧ u.mem = s.mem ∧ u.launch = s.launch := by
  intro o u
  obtain ⟨st, pw, hlost⟩ := State.loseDomain_active hstate hactive cause
  generalize hy : (s.lost d).modTime (fun tm => { tm with steering := st, preferWait := pw }) = y at hlost
  have hdomain : y.time.domains[o] = s.time.domains[o] := by
    rw [← hy]
    exact upd_getElem_other s.time.domains _ (otherDomain_ne d)
  have hself : y.time.domains[d].state = 4 := by
    rw [← hy]
    exact congrArg Domain.state (upd_getElem_self s.time.domains d _)
  have hframe : y = { s with time := y.time } := by
    rw [← hy]
    rfl
  have hnow : y.time.weft = s.now ∧ y.time.base = s.time.base := by
    rw [← hy]
    exact ⟨rfl, rfl⟩
  have hstamps' : ∀ p ∈ y.time.domains[o].stamps, p.2 ≠ y.now := by
    rw [hdomain, State.now, hnow.1]
    exact hstamps
  have hu : u = (y.switchDomain o cause).trackSync := hlost.trans (by rw [helig, if_pos rfl])
  have htime : u.time = { (y.cancelAdjustment.activateDomain o).time with sync := u.time.sync, syncedAt := u.time.syncedAt } := by
    rw [hu, ← State.switchDomain_time hstamps' cause]
    rfl
  have hfault : u.log = (y.switchDomain o cause).log ∧ u.mem = (y.switchDomain o cause).mem ∧ u.launch = (y.switchDomain o cause).launch := by
    rw [hu]
    exact ⟨rfl, rfl, rfl⟩
  rw [State.switchDomain_unsynced hstamps' cause, hdomain] at hfault
  obtain ⟨hlog, hmem, hlaunch⟩ := hfault
  have hactivated := upd_getElem_self y.time.domains o
  have hnews : SameNews s (y.cancelAdjustment.activateDomain o) := by
    rw [hframe]
    exact ⟨rfl, hnow.1, rfl, rfl, fun _ _ => rfl⟩
  have hannounces := fault_announces (y.cancelAdjustment.activateDomain o) 0x0C03 (.ofUnit s.time.domains[o].port)
    (atI 32 32 s.time.domains[o].offset ||| at_ 8 8 cause ||| at_ 8 0 o.val) 0
  refine ⟨?_, ?_, ?_, ?_, ?_, ?_, ?_, ?_, hlog.trans (hnews.fault _ _ _ _).log, ?_, ?_⟩
  · rw [htime]
    rfl
  · rw [htime]
    exact (congrArg Domain.state (upd_getElem_other y.time.domains _ (otherDomain_ne d).symm)).trans hself
  · rw [htime]
    exact ((congrArg Domain.offset (hactivated _)).trans rfl).trans ((congrArg Domain.offset hdomain).trans rfl)
  · rw [State.now, htime]
    exact hnow.1
  · rw [htime]
    exact hnow.2
  · rw [htime]
    rfl
  · rw [htime]
    rfl
  · rw [htime]
    rfl
  · exact hmem.trans (hannounces.mem.trans (by rw [hframe]; rfl))
  · exact hlaunch.trans (hannounces.launch.trans (by rw [hframe]; rfl))

/-- Holdover begins. -/
theorem lost_holds (hnone : s.eligible (otherDomain d) = false) :
    let o := otherDomain d
    let u := s.loseDomain d cause
    u.time.active = none ∧ u.time.holdoverAt = some s.now ∧ u.time.sync = 4 ∧ u.time.domains[d].state = 4 ∧ u.now = s.now
      ∧ u.time.base = s.time.base ∧ u.time.adj = 0 ∧ u.time.adjTicks = 0
      ∧ u.log = (s.fault 0x0C01 (.ofUnit s.time.domains[d].port) (at_ 8 8 (if s.domainOn o = true ∧ s.time.domains[o].heard = true then 4 else cause) ||| at_ 8 0 d.val)).log
      ∧ u.mem = s.mem ∧ u.launch = s.launch := by
  intro o u
  obtain ⟨st, pw, hlost⟩ := State.loseDomain_active hstate hactive cause
  generalize hy : (s.lost d).modTime (fun tm => { tm with steering := st, preferWait := pw }) = y at hlost
  have hdomain : y.time.domains[o] = s.time.domains[o] := by
    rw [← hy]
    exact upd_getElem_other s.time.domains _ (otherDomain_ne d)
  have hself : y.time.domains[d].state = 4 ∧ y.time.domains[d].port = s.time.domains[d].port := by
    rw [← hy]
    have hupd := upd_getElem_self s.time.domains d
    exact ⟨congrArg Domain.state (hupd _), (congrArg Domain.port (hupd _)).trans rfl⟩
  have hframe : y = { s with time := y.time } := by
    rw [← hy]
    rfl
  have hnow : y.time.weft = s.now ∧ y.time.base = s.time.base := by
    rw [← hy]
    exact ⟨rfl, rfl⟩
  have hon : y.domainOn o = s.domainOn o := by
    rw [hframe]
    rfl
  have hu : u = (y.enterHoldover d cause).trackSync := hlost.trans (by rw [hnone, if_neg Bool.false_ne_true])
  have htime := congrArg State.time hu
  rw [State.enterHoldover_time] at htime
  have hannounces := y.enterHoldover_announces d cause
  have hnews : SameNews s (y.cancelAdjustment.modTime fun tm => { tm with active := none, holdoverAt := some tm.weft, holdoverTold := false }) := by
    rw [hframe]
    exact ⟨rfl, hnow.1, rfl, rfl, fun _ _ => rfl⟩
  refine ⟨?_, ?_, ?_, ?_, ?_, ?_, ?_, ?_, ?_, ?_, ?_⟩
  · rw [htime]
  · rw [htime, hnow.1]
  · rw [htime]
  · rw [htime]
    exact hself.1
  · rw [State.now, htime]
    exact hnow.1
  · rw [htime]
    exact hnow.2
  · rw [htime]
  · rw [htime]
  · have hlog : u.log = (y.enterHoldover d cause).log := by rw [hu]; rfl
    rw [hlog, State.enterHoldover, (hnews.fault _ _ _ _).log]
    rw [hself.2, hon, hdomain]
    simp only [Bool.and_eq_true]
  · rw [hu]
    exact hannounces.mem.trans (by rw [hframe]; rfl)
  · rw [hu]
    exact hannounces.launch.trans (by rw [hframe]; rfl)

end

section
variable {s : State} {t : Nat} {d : Fin 2}

theorem announceTimeout_expired (h : (s.advance t).announceOverdue d = true) : exec (.ptpAnnounceTimeout t d) s = .next ((s.advance t).loseInOrder d 1) :=
  congrArg Host.Outcome.next (if_pos h)

theorem syncTimeout_expired (h : (s.advance t).syncOverdue d = true) : exec (.ptpSyncTimeout t d) s = .next ((s.advance t).loseInOrder d 2) :=
  congrArg Host.Outcome.next (if_pos h)

end

/-- Settles O32: the timeout that has expired loses its domain (`State.loseInOrder_alone`), which the standby replaces (`lost_switches`) or holdover does (`lost_holds`). -/
theorem lostDomainsSwitchOrHoldOver : Obligations.LostDomainsSwitchOrHoldOver := by
  intro s t
  have hactive : ∀ d, s.time.active = some d → (s.advance t).time.active = some d := fun _ h => (Time.advance_active _ _).trans h
  refine ⟨fun d cause c hc => ⟨?_, ?_, ?_⟩, fun hrun => congrArg Host.Outcome.next (if_pos hrun), fun hheld => congrArg Host.Outcome.next (if_neg hheld), fun htold => ?_,
    fun hquiet => ?_, fun h hat hnew => ?_⟩
  · rintro hwaits rfl
    obtain ⟨rfl, -⟩ | ⟨-, hother⟩ := hc
    · exact congrArg Host.Outcome.next (if_neg (by rw [hwaits]; decide))
    · cases hother
  · rintro hwaits rfl
    obtain ⟨-, hother⟩ | ⟨rfl, -⟩ := hc
    · cases hother
    · exact congrArg Host.Outcome.next (if_neg (by rw [hwaits]; decide))
  · intro hexpired hstate hd hfirst o
    have hexec : exec c s = .next ((s.advance t).loseDomain d cause) := by
      obtain ⟨rfl, hcause⟩ | ⟨rfl, hcause⟩ := hc
      · rw [announceTimeout_expired (by simpa [hcause] using hexpired), State.loseInOrder_alone hfirst, hcause]
      · rw [syncTimeout_expired (by simpa [hcause] using hexpired), State.loseInOrder_alone hfirst, hcause]
    have hdomains : (s.advance t).time.domains = s.time.domains := Time.advance_domains _ _
    have hstate' : (s.advance t).time.domains[d].state ≠ 4 := by rw [hdomains]; exact hstate
    have helig : (s.advance t).eligible o = s.eligible o := State.eligible_congr rfl rfl (by rw [hdomains])
    have hbase : (s.advance t).time.base = s.time.base := Time.advance_base _ _
    refine ⟨fun hstandby hstamps => ⟨_, hexec, ?_⟩, fun hnone => ⟨_, hexec, ?_⟩⟩
    · have hswitches := lost_switches hstate' (hactive d hd) cause (helig.trans hstandby) (by rw [hdomains]; exact hstamps)
      rw [hbase, hdomains] at hswitches
      exact hswitches
    · have hholds := lost_holds hstate' (hactive d hd) cause (helig.trans hnone)
      rw [hbase, hdomains] at hholds
      exact hholds
  · exact congrArg Host.Outcome.next (State.cancelAdjustment_told (htold.trans (Time.advance_clampTold _ _).symm))
  · have hbelow : ¬ (decide ((s.advance t).nat (ob 0x2200 0x19) < (s.advance t).holdoverError) && !(s.advance t).time.holdoverTold) = true := by
      rcases hquiet with hnone | htold
      · rw [State.holdoverError_none (by simpa using hnone)]
        simp
      · simp [htold]
    exact congrArg Host.Outcome.next (if_neg hbelow)
  · intro e
    have herror : (s.advance t).holdoverError = e := State.holdoverError_some (by simpa using hat)
    have hnew' : (s.advance t).time.holdoverTold = false := (Time.advance_holdoverTold _ _).trans hnew
    refine ⟨fun hbelow => congrArg Host.Outcome.next (if_neg ?_), fun habove => congrArg Host.Outcome.next ((if_pos ?_).trans ?_)⟩
    · rw [herror]
      simp [hbelow]
    · rw [herror, hnew']
      simp [habove]
    · rw [herror]
      rfl

end Sys2Proof

/-!
PTP transmissions and trigger edges (O33).
-/

namespace Sys2Proof.Machine

/-! ## Frames of the time unit (R387, R395, R396) -/

theorem State.answerPdelay_free {s : State} {port : Fin 8} (h : s.net.ports[port].holds 7 = false) (ident rx : Nat) :
    s.answerPdelay port ident rx =
      (s.emit (.ptp port.val 3 (at_ 64 0 rx ||| ident <<< 64))).emit (.ptp port.val 10 (at_ 64 0 s.now ||| ident <<< 64)) := by
  have hfirst : s.transmit port (.ptp port.val 3 (at_ 64 0 rx ||| ident <<< 64)) = s.emit _ := State.transmit_free h
  have hsecond : ∀ o o' : Output, o'.priority = 7 → (s.emit o).transmit port o' = (s.emit o).emit o' := fun o o' ho => State.transmit_free (by rw [ho]; exact h)
  exact (congrArg (fun y : State => y.transmit port _) hfirst).trans (hsecond _ _ rfl)

theorem State.answerPdelay_held {s : State} {port : Fin 8} (h : s.net.ports[port].holds 7 = true) (ident rx : Nat) :
    s.answerPdelay port ident rx = s.modPort port fun x =>
      { x with waiting := x.waiting ++ [.ptp port.val 3 (at_ 64 0 rx ||| ident <<< 64), .ptp port.val 10 (at_ 64 0 s.now ||| ident <<< 64)] } := by
  have hstill : ∀ o : Output, (s.modPort port fun x => { x with waiting := x.waiting ++ [o] }).net.ports[port].holds 7 = true := by
    intro o
    rw [show (s.modPort port fun x => { x with waiting := x.waiting ++ [o] }).net.ports[port] = _ from upd_getElem_self s.net.ports port _]
    exact h
  have htwice : ∀ o o' : Output, (s.modPort port fun x => { x with waiting := x.waiting ++ [o] }).modPort port (fun x => { x with waiting := x.waiting ++ [o'] }) =
      s.modPort port fun x => { x with waiting := x.waiting ++ [o, o'] } := by
    intro o o'
    unfold State.modPort State.modNet
    dsimp only
    rw [upd_upd]
    simp only [List.append_assoc, List.singleton_append]
  have hfirst : s.transmit port (.ptp port.val 3 (at_ 64 0 rx ||| ident <<< 64)) = s.modPort port _ := State.transmit_held h
  have hsecond : ∀ o o' : Output, o'.priority = 7 → (s.modPort port fun x => { x with waiting := x.waiting ++ [o] }).transmit port o' = s.modPort port fun x => { x with waiting := x.waiting ++ [o, o'] } :=
    fun o o' ho => (State.transmit_held (by rw [ho]; exact hstill o)).trans (htwice o o')
  exact (congrArg (fun y : State => y.transmit port _) hfirst).trans (hsecond _ _ rfl)

theorem State.sendSync_none {s : State} {port : Fin 8} (h : s.transmitDomain port = none) : s.sendSync port = s := by
  unfold State.sendSync
  rw [h]

theorem State.sendAnnounce_none {s : State} {port : Fin 8} (h : s.transmitDomain port = none) : s.sendAnnounce port = s := by
  unfold State.sendAnnounce
  rw [h]

section
variable {s : State} {port : Fin 8} {d : Fin 2} (hdomain : s.transmitDomain port = some d)
include hdomain

theorem State.sendSync_early (h : s.due s.time.syncSent[port] (ptpSpan (s.int (ptpObj d 6)) 1) = false) : s.sendSync port = s := by
  unfold State.sendSync
  rw [hdomain]
  simp only [h, Bool.false_eq_true, if_false]

theorem State.sendAnnounce_early (h : s.due s.time.announceSent[port] (ptpSpan (s.int (ptpObj d 7)) 1) = false) : s.sendAnnounce port = s := by
  unfold State.sendAnnounce
  rw [hdomain]
  simp only [h, Bool.false_eq_true, if_false]

variable (hfree : s.net.ports[port].holds 7 = false)
include hfree

theorem State.sendSync_due (h : s.due s.time.syncSent[port] (ptpSpan (s.int (ptpObj d 6)) 1) = true) :
    s.sendSync port = (s.emit (.ptp port.val 0 (s.now * 2 ^ 32 + s.time.frac))).modTime fun tm => { tm with syncSent := upd tm.syncSent port fun _ => some s.now } := by
  unfold State.sendSync
  rw [hdomain]
  simp only [h, if_true]
  rw [State.transmit_free hfree]
  rfl

/-- What an Announce of a port carries (R387, R395). -/
def State.announced (s : State) (d : Fin 2) : Nat :=
  if s.grandmaster = true then at_ 16 0 0 ||| at_ 8 16 248 ||| at_ 64 24 Config.clockIdentity ||| at_ 8 88 (s.nat (ob 0x2200 0x15))
  else at_ 16 0 (s.time.domains[d].steps + 1) ||| at_ 8 16 s.time.domains[d].clockClass ||| at_ 64 24 s.time.domains[d].gm

theorem State.sendAnnounce_due (h : s.due s.time.announceSent[port] (ptpSpan (s.int (ptpObj d 7)) 1) = true) :
    s.sendAnnounce port = (s.emit (.ptp port.val 11 (s.announced d))).modTime fun tm => { tm with announceSent := upd tm.announceSent port fun _ => some s.now } := by
  unfold State.sendAnnounce
  rw [hdomain]
  simp only [h, if_true]
  rw [State.transmit_free hfree]
  rfl

end

theorem State.transmitDomain_serves {s : State} {port : Fin 8} {d : Fin 2} (hservice : s.normalService = true) (hactive : s.time.active = some d)
    (hport : s.ptpPort d port.val = true) (hother : s.time.domains[d].port ≠ port.val) : s.transmitDomain port = some d := by
  unfold State.transmitDomain
  rw [if_pos hservice, hactive]
  exact if_pos (by simp [hport, hother, -Fin.getElem_fin])

/-- Where nothing is held back, frames leave in the order of their ports. -/
theorem State.foldl_transmit_free (o : Fin 8 → Output) (send : Fin 8 → Bool) (l : List (Fin 8)) (s : State) (h : ∀ p : Fin 8, s.net.ports[p].holds (o p).priority = false) :
    l.foldl (fun acc p => if send p = true then acc.transmit p (o p) else acc) s = { s with outbox := s.outbox ++ (l.filter send).map o } := by
  induction l generalizing s with
  | nil => simp
  | cons p l ih =>
    rw [List.foldl_cons]
    cases hp : send p
    · rw [if_neg Bool.false_ne_true, ih s h, List.filter_cons_of_neg (by simp [hp])]
    · rw [if_pos rfl, State.transmit_free (h p), ih (s.emit (o p)) h, List.filter_cons_of_pos hp]
      simp [State.emit]

theorem State.sendDelayRequest_idle {s : State} {d : Fin 2} (h : s.domainOn d = false ∨ s.due s.time.domains[d].requestAt (ptpSpan (s.int (ptpObj d 0x0A)) 1) = false)
    (tx : Nat) : s.sendDelayRequest d tx = s := by
  refine if_pos ?_
  rcases h with h | h <;> simp [h, -Fin.getElem_fin]

theorem State.sendDelayRequest_due {s : State} {d : Fin 2} (hon : s.domainOn d = true)
    (hdue : s.due s.time.domains[d].requestAt (ptpSpan (s.int (ptpObj d 0x0A)) 1) = true) (hfree : ∀ p : Fin 8, s.net.ports[p].holds 7 = false) (tx : Nat) :
    s.sendDelayRequest d tx = { s with
      time := { s.time with domains := upd s.time.domains d fun x => { x with t1 := some tx, requestAt := some s.now } }
      outbox := s.outbox ++ ((List.finRange 8).filter fun p => s.ptpPort d p.val).map fun p => .ptp p.val (if s.nat (ptpObj d 2) = 0 then 1 else 2) tx } := by
  refine (if_neg (by simp [hon, hdue, -Fin.getElem_fin])).trans ?_
  exact State.foldl_transmit_free (fun p => .ptp p.val (if s.nat (ptpObj d 2) = 0 then 1 else 2) tx) (fun p => s.ptpPort d p.val) (idxs 8)
    (s.modDomain d fun x => { x with t1 := some tx, requestAt := some s.now }) hfree

/-! ## Mean path delays (R389) -/

theorem State.delayResponse_unasked {s : State} {d : Fin 2} (h : s.time.domains[d].t1 = none) (t2 t3 t4 : Nat) (correction : Int) :
    s.delayResponse d t2 t3 t4 correction = s := by
  unfold State.delayResponse
  simp only [h]

theorem State.delayResponse_peer {s : State} {d : Fin 2} {t1 : Nat} (h : s.time.domains[d].t1 = some t1) (hpeer : s.nat (ptpObj d 2) ≠ 0) (t2 t3 t4 : Nat) (correction : Int) :
    s.delayResponse d t2 t3 t4 correction = s.modDomain d fun x =>
      { x with pathDelay := (divRne (((t4 : Int) - t1) - ((t3 : Int) - t2) - correction) 2).toNat % 2 ^ 32, t1 := none } := by
  unfold State.delayResponse
  simp only [h, if_neg hpeer]

theorem State.delayResponse_request {s : State} {d : Fin 2} {t1 : Nat} (h : s.time.domains[d].t1 = some t1) (hrequest : s.nat (ptpObj d 2) = 0)
    {e : Nat × Nat} {rest : List (Nat × Nat)} (hstamps : s.time.domains[d].stamps = e :: rest) (t2 t3 t4 : Nat) (correction : Int) :
    s.delayResponse d t2 t3 t4 correction = s.modDomain d fun x =>
      { x with pathDelay := (divRne (((e.2 : Int) - t1) + ((t4 : Int) - e.1) - correction) 2).toNat % 2 ^ 32, t1 := none } := by
  unfold State.delayResponse
  simp only [h, if_pos hrequest, hstamps]

/-! ## Trigger edges (R399 to R401) -/

theorem State.triggerEdge_idle {s : State} {ch : Fin 64}
    (h : s.triggersRun = false ∨ s.channelValue ch.val 1 = 0 ∨ 60 ≤ ch.val ∨ s.edgeDue ch = false) : s.triggerEdge ch = s := by
  refine if_pos ?_
  rcases h with h | h | h | h <;> simp [h]

/-- The edge leaves, and is counted and noted. -/
def State.edgeIssued (s : State) (ch : Fin 64) : State :=
  (s.emit (.trigger ch.val s.time.edges[ch] (edgeCount s.now) (s.edgeWidth ch.val (edgeCount s.now)))).issueEdge ch (edgeCount s.now)

/-- A stream of the channel takes its trigger, and a digital output of path 1 pulses (R268, R348). -/
def State.streamTriggered (s acc : State) (ch : Fin 64) (n : Fin 24) : State :=
  if s.streamOf ch.val n then
    let a := acc.issueTrigger n (edgeCount s.now)
    if s.nat (camObj n 0x0C) = 1 then a.driveOutput ⟨s.nat (camObj n 0x0D) % 32, Nat.mod_lt _ (by decide)⟩ false else a
  else acc

theorem State.triggerEdge_falls {s : State} {ch : Fin 64} (hrun : s.triggersRun = true) (hon : s.channelValue ch.val 1 ≠ 0) (hch : ch.val < 60) (hdue : s.edgeDue ch = true) :
    s.triggerEdge ch =
      if h : 48 ≤ ch.val ∧ ch.val < 60 then (s.edgeIssued ch).countPulse ⟨ch.val - 48, by omega⟩ (s.edgeWidth ch.val (edgeCount s.now))
      else (idxs 24).foldl (fun acc n => s.streamTriggered acc ch n) (s.edgeIssued ch) :=
  if_neg (by simp [hrun, hon, hch, hdue])

/-- A channel below 48 whose edges no stream takes has its edge and nothing else. -/
theorem State.triggerEdge_plain {s : State} {ch : Fin 64} (hrun : s.triggersRun = true) (hon : s.channelValue ch.val 1 ≠ 0) (hch : ch.val < 48) (hdue : s.edgeDue ch = true)
    (hnone : ∀ n : Fin 24, s.streamOf ch.val n = false) : s.triggerEdge ch = s.edgeIssued ch := by
  rw [State.triggerEdge_falls hrun hon (by omega) hdue, dif_neg (by omega)]
  exact foldl_fixed (fun n => if_neg (by simp [hnone n])) _

section
variable {γ : Type} (π : State → γ) (hhead : ∀ (a : State) (k : Fin 12) (f : Head → Head), π (a.modHead k f) = π a)
  (hfault : ∀ {a b : State}, Announces a b → π b = π a)
include hhead hfault

theorem State.judgeLife_keeps (s : State) (k : Fin 12) : π (s.judgeLife k) = π s := by
  have htrust : ∀ a : State, π (a.judgeTrust k) = π a := by
    intro a
    unfold State.judgeTrust
    extract_lets x was is_
    split
    · exact hhead a k _
    · split
      · exact hhead a k _
      · rfl
  unfold State.judgeLife
  extract_lets x life s1
  have hs1 : π s1 = π s := by
    simp only [s1]
    split
    · exact (hfault (fault_announces _ _ _ _ _)).trans (hhead s k _)
    · rfl
  split
  · exact (htrust _).trans ((hfault (fault_announces _ _ _ _ _)).trans ((hhead s1 k _).trans hs1))
  · exact hs1

theorem State.countPulse_keeps (s : State) (k : Fin 12) (width : Nat) : π (s.countPulse k width) = π s := by
  unfold State.countPulse
  extract_lets s1
  split
  · exact hhead s k _
  · exact (State.judgeLife_keeps π hhead hfault s1 k).trans (hhead s k _)

variable (hstream : ∀ (a : State) (n : Fin 24) (f : Stream → Stream), π (a.modStream n f) = π a) (hmotion : ∀ (a : State) (m : Motion), π { a with motion := m } = π a)
include hstream hmotion

/-- What follows an edge touches the heads, the streams and the digital outputs, and may record faults. -/
theorem State.triggerEdge_keeps {s : State} {ch : Fin 64} (hrun : s.triggersRun = true) (hon : s.channelValue ch.val 1 ≠ 0) (hch : ch.val < 60) (hdue : s.edgeDue ch = true) :
    π (s.triggerEdge ch) = π (s.edgeIssued ch) := by
  rw [State.triggerEdge_falls hrun hon hch hdue]
  split
  · exact State.countPulse_keeps π hhead hfault _ _ _
  · refine foldl_keeps π (fun a n => ?_) _ _
    unfold State.streamTriggered
    split
    · dsimp only
      split
      · exact (hmotion _ _).trans (hstream a n _)
      · exact hstream a n _
    · rfl

end

theorem Keeps.judgeLife {s u : State} (h : Keeps s u) (k : Fin 12) : Keeps s (u.judgeLife k) := by
  unfold State.judgeLife
  extract_lets x life s1
  have hwarned : Keeps s s1 := ((h.modHead k _).fault _ _ _ _).ite h
  exact (((hwarned.modHead k _).fault _ _ _ _).judgeTrust k).ite hwarned

/-- What follows an edge leaves the device after it. -/
theorem State.triggerEdge_outbox {s : State} {ch : Fin 64} (hrun : s.triggersRun = true) (hon : s.channelValue ch.val 1 ≠ 0) (hch : ch.val < 60) (hdue : s.edgeDue ch = true) :
    Keeps (s.edgeIssued ch) (s.triggerEdge ch) := by
  have hself := Keeps.refl (s.edgeIssued ch)
  rw [State.triggerEdge_falls hrun hon hch hdue]
  split
  · exact (hself.modHead _ _).ite ((hself.modHead _ _).judgeLife _)
  · exact hself.foldl (fun a n ha => (((ha.modStream n _).modOutput _ _).ite (ha.modStream n _)).ite ha) _

theorem updAll_getElem {α : Type} {n : Nat} (v : Vector α n) (f : Nat → α → α) (i : Fin n) : (updAll v f)[i] = f i.val v[i] := by
  simp [updAll]

/-- An edge of a following channel makes those of the channels linked to it due (R399). -/
theorem State.edgeIssued_dueEdges (s : State) {ch c : Fin 64} (hc : c ≠ ch) : (s.edgeIssued ch).time.dueEdges[c] =
    if s.channelValue ch.val 1 = 2 ∧ s.channelValue c.val 1 = 3 ∧ s.channelValue c.val 4 = ch.val
        ∧ s.time.edges[ch] % max 1 (s.channelValue c.val 5) = s.channelValue c.val 6
    then s.time.dueEdges[c] ++ [((edgeCount s.now : Int) + signed 32 (s.channelValue c.val 7)).toNat] else s.time.dueEdges[c] := by
  have hissue : ∀ (y : State) (count : Nat), (y.issueEdge ch count).time.dueEdges[c] =
      if y.channelValue ch.val 1 = 2 ∧ y.channelValue c.val 1 = 3 ∧ y.channelValue c.val 4 = ch.val
          ∧ y.time.edges[ch] % max 1 (y.channelValue c.val 5) = y.channelValue c.val 6
      then y.time.dueEdges[c] ++ [((count : Int) + signed 32 (y.channelValue c.val 7)).toNat] else y.time.dueEdges[c] := by
    intro y count
    unfold State.issueEdge State.modTime
    dsimp only
    rw [updAll_getElem, upd_getElem_other _ _ hc]
  exact hissue (s.emit _) _

end Sys2Proof.Machine

namespace Sys2Proof

open Machine

/-- A launch that runs and is not paused lets triggers fall. -/
theorem triggersRun_of_run {s : State} {run : Run} (hrun : s.launch.run = some run) (hpaused : run.paused = false) : s.triggersRun = true := by
  unfold State.triggersRun
  simp [hrun, hpaused]

theorem triggersRun_eq_false {s : State} (h : s.launch.run = none ∨ ∃ run, s.launch.run = some run ∧ run.paused = true) : s.triggersRun = false := by
  unfold State.triggersRun
  rcases h with hnone | ⟨run, hrun, hpaused⟩
  · rw [hnone]
  · simp [hrun, hpaused]

/-- Settles O33: frames leave where nothing is held back (`State.transmit_free`), and what follows an edge touches neither the time unit nor the launch (`State.triggerEdge_keeps`). -/
theorem transmissionsAndTriggers : Obligations.TransmissionsAndTriggers := by
  intro s t
  refine ⟨fun port ident rx => ?_, fun port => ⟨fun hnone => ?_, fun d hdomain hfree => ?_, fun d hsync htest hactive hport hother => ?_⟩, fun d tx => ⟨fun hidle => ?_, fun hon hdue hfree => ?_⟩,
    fun d t2 t3 t4 correction => ⟨fun hnone => ?_, fun t1 ht1 => ⟨fun hpeer => ?_, fun e rest hrequest hstamps => ?_⟩⟩, fun ch => ?_⟩
  · intro answers
    refine ⟨fun hfree => congrArg Host.Outcome.next ((State.answerPdelay_free (s := s.advance t) hfree ident rx).trans ?_),
      fun hheld => congrArg Host.Outcome.next (State.answerPdelay_held (s := s.advance t) hheld ident rx)⟩
    simp [State.emit, answers]
  · exact ⟨congrArg Host.Outcome.next (State.sendSync_none hnone), congrArg Host.Outcome.next (State.sendAnnounce_none hnone)⟩
  · have hsent : (s.advance t).time.syncSent = s.time.syncSent := Time.advance_syncSent _ _
    have hannounced : (s.advance t).time.announceSent = s.time.announceSent := Time.advance_announceSent _ _
    have hdata : (s.advance t).announced d = s.announced d := by
      unfold State.announced State.grandmaster
      simp only [State.advance_time, Time.advance_domains, Time.advance_sync, State.advance_nat, State.advance_flag]
    intro syncDue announceDue
    refine ⟨fun hearly => ?_, fun hdue => ?_, fun hearly => ?_, fun hdue => ?_⟩
    · exact congrArg Host.Outcome.next (State.sendSync_early hdomain (by rw [hsent]; exact hearly))
    · refine congrArg Host.Outcome.next ((State.sendSync_due hdomain hfree (by rw [hsent]; exact hdue)).trans ?_)
      rw [← hsent]
      rfl
    · exact congrArg Host.Outcome.next (State.sendAnnounce_early hdomain (by rw [hannounced]; exact hearly))
    · refine congrArg Host.Outcome.next ((State.sendAnnounce_due hdomain hfree (by rw [hannounced]; exact hdue)).trans ?_)
      rw [hdata, ← hannounced]
      rfl
  · exact State.transmitDomain_serves (by simp [State.normalService, hsync, State.flag, htest]) (by simpa using hactive) hport (by simpa using hother)
  all_goals have hdomains : (s.advance t).time.domains = s.time.domains := Time.advance_domains _ _
  · exact congrArg Host.Outcome.next (State.sendDelayRequest_idle (s := s.advance t) (by rw [hdomains]; exact hidle) tx)
  · refine congrArg Host.Outcome.next ((State.sendDelayRequest_due (s := s.advance t) hon (by rw [hdomains]; exact hdue) hfree tx).trans ?_)
    rw [hdomains]
    rfl
  · exact congrArg Host.Outcome.next (State.delayResponse_unasked (by rw [hdomains]; exact hnone) t2 t3 t4 correction)
  · refine congrArg Host.Outcome.next ((State.delayResponse_peer (s := s.advance t) (by rw [hdomains]; exact ht1) hpeer t2 t3 t4 correction).trans ?_)
    rw [← hdomains]
    rfl
  · refine congrArg Host.Outcome.next ((State.delayResponse_request (s := s.advance t) (by rw [hdomains]; exact ht1) hrequest (by rw [hdomains]; exact hstamps) t2 t3 t4 correction).trans ?_)
    rw [← hdomains]
    rfl
  · have hedges : (s.advance t).time.edges = s.time.edges := Time.advance_edges _ _
    have hlast : (s.advance t).time.lastEdge = s.time.lastEdge := Time.advance_lastEdge _ _
    intro count edge
    have hissued : (s.advance t).edgeIssued ch = { s.advance t with
        time := { (s.advance t).time with
          edges := upd s.time.edges ch fun n => (n + 1) % 2 ^ 64
          lastEdge := upd s.time.lastEdge ch fun _ => some count
          dueEdges := ((s.advance t).edgeIssued ch).time.dueEdges }
        outbox := s.outbox ++ [edge] } := by
      simp only [edge]
      rw [← hedges, ← hlast]
      rfl
    refine ⟨fun hidle => ?_, fun run hrun hpaused hon hch hdue => ⟨fun hlow hnone => ?_, ?_⟩⟩
    · refine congrArg Host.Outcome.next (State.triggerEdge_idle ?_)
      rw [← or_assoc] at hidle
      exact hidle.imp_left fun h => triggersRun_eq_false (s := s.advance t) h
    · refine ⟨_, congrArg Host.Outcome.next (State.triggerEdge_plain (s := s.advance t) (triggersRun_of_run hrun hpaused) hon hlow hdue hnone), hissued, fun c hc => ?_⟩
      rw [State.edgeIssued_dueEdges _ hc, State.advance_dueEdges, hedges]
      rfl
    · have hruns : (s.advance t).triggersRun = true := triggersRun_of_run hrun hpaused
      have hkeeps : ∀ {γ : Type} (π : State → γ), (∀ (a : State) (k : Fin 12) (f : Head → Head), π (a.modHead k f) = π a) → (∀ {a b : State}, Announces a b → π b = π a) →
          (∀ (a : State) (n : Fin 24) (f : Stream → Stream), π (a.modStream n f) = π a) → (∀ (a : State) (m : Motion), π { a with motion := m } = π a) →
          π ((s.advance t).triggerEdge ch) = π ((s.advance t).edgeIssued ch) := fun π h1 h2 h3 h4 => State.triggerEdge_keeps π h1 h2 h3 h4 hruns hon hch hdue
      have htime := (hkeeps State.time (fun _ _ _ => rfl) Announces.time (fun _ _ _ => rfl) fun _ _ => rfl).trans (congrArg State.time hissued)
      obtain ⟨more, houtbox, _⟩ := (State.triggerEdge_outbox hruns hon hch hdue).outbox
      refine ⟨_, rfl, ?_, fun c hc => ?_, ?_, ⟨more, ?_⟩, State.triggerEdge_mem _ _, ?_, ?_⟩
      · rw [htime]
        exact upd_getElem_self _ _ _
      · rw [htime]
        exact upd_getElem_other _ _ hc
      · rw [htime]
        exact upd_getElem_self _ _ _
      · rw [houtbox, hissued]
        simp
      · exact hkeeps State.launch (fun _ _ _ => rfl) Announces.launch (fun _ _ _ => rfl) fun _ _ => rfl
      · rw [State.now, htime]
        rfl

end Sys2Proof

/-!
Resets and boot (O18, O19).
-/

namespace Sys2Proof.Machine

/-! ## A cold reset without a checker region (R367, R473) -/

/-- The device after its reset, with no region in the role of the checker. -/
def uncheckedDevice : State := { State.reset with regions := State.reset.regions.map fun x => { x with role := 0 } }

/-- How many outputs have left after a command. -/
def outputsAfter (c : Instr) (s : State) : Nat :=
  match exec c s with
  | .next u => u.outbox.length
  | _ => 0

theorem uncheckedDevice_writesAct : WritesAct uncheckedDevice .pcie :=
  { works := rfl, latched := rfl, group := rfl, implicit := rfl, instant := rfl, owed := rfl, owner := rfl, run := rfl }

/-- The cold reset enters the single-channel state, and the announcement of its fault leaves. -/
theorem uncheckedDevice_announces : outputsAfter (.resetRequestCold 0 .pcie) uncheckedDevice = 1 := by decide +kernel

end Sys2Proof.Machine

namespace Sys2Proof

open Machine

/-- Refutes O18 at its clause that a cold reset request leaves nothing: without a checker region the reset enters the single-channel state (R367), whose fault is announced. -/
theorem not_resetsAndSupplyInputs : ¬ Obligations.ResetsAndSupplyInputs := by
  rintro ⟨hresets, -⟩
  obtain ⟨-, ⟨u, hexec, -, houtbox⟩, -⟩ := hresets uncheckedDevice 0 .pcie uncheckedDevice_writesAct
  have hleft := uncheckedDevice_announces
  rw [outputsAfter, hexec] at hleft
  have hnone : u.outbox.length = 0 := congrArg List.length houtbox
  exact absurd (hleft.symm.trans hnone) (by decide)

end Sys2Proof

namespace Sys2Proof.Machine

/-! ## A boot that finds a bank without a spare row (R159, R474, R483) -/

/-- A bundle that verifies. -/
def goodBundle : Bundle := { formatOk := true, signatureOk := true, keySlotOk := true, version := 1, securityVersion := 0, crustSame := true }

/-- An image that verifies under key slot 0 and pins a place in the scratchpad of block 0.0. -/
def pinnedImage : Image where
  hash := []
  magic := 0x41D9
  version := 1
  keySlot := 0
  slotTables := 0
  flags := 0
  floorRate := 0
  length := 0
  securityVersion := 0
  beatPeriod := 0
  verdictDelay := 0
  pausePeriod := 1
  paceRate := 0
  reducedRate := 0
  classCTok := 0
  minFirmware := 0
  reservedOk := true
  variants := []
  outputs := []
  streams := []
  tables := []
  slots := []
  latentScales := []
  srcLogRows := 0
  seedUsers := []
  tableUsers := []
  windowRanges := []
  starterCrcs := []
  migrationPlaces := true
  group := []
  leader := true
  recomputeCost := 0
  verdictOutputs := []
  messageBound := []
  hostOutputs := []
  recordSizes := []
  buffers := []
  heldOutputs := []
  generators := []
  attentionOutputs := []
  ringBeats := []
  kvPlaces := []
  gathers := []
  pinned := [(0, ⟨2, 0, 0, 0⟩)]
  inputBuffers := []

/-- A device before its boot with image key slot 0 programmed, where a row of block 0.0 waits to be mapped out and no spare row of its bank is left. -/
def exhaustedBank : State :=
  let s := State.reset.modService fun v => { v with imageKeys := [(1, [])], rowMap := (List.range 8).map fun k => ⟨rowLoc 0 0 0 (k + 1), 1, k⟩ }
  s.modBlock 0 0 fun x => { x with mapQueue := [(0, 0, 2)] }

/-- The places that the image pins after a command. -/
def pinnedAfter (c : Instr) (s : State) : Option (List (Fin 4 × MemRef)) :=
  match exec c s with
  | .next u => u.launch.image.map fun im => im.pinned
  | _ => none

theorem exhaustedBank_verifies : exhaustedBank.bundleReason goodBundle = 0 ∧ exhaustedBank.imageReason pinnedImage true = 0 := by decide +kernel

/-- The spare block 16 has taken the work of the retired block, and the image follows it. -/
theorem exhaustedBank_moves : pinnedAfter (.coldBoot 0 goodBundle goodBundle (some pinnedImage) true [] []) exhaustedBank = some [(0, ⟨2, 0, 16, 0⟩)] := by decide +kernel

end Sys2Proof.Machine

namespace Sys2Proof

open Machine

/-- Refutes O19 at its clause that the verified image is the one that runs: the boot maps out a row of a bank without a spare row, so its block retires (R159), and the image's declarations for it name the spare block (R483). -/
theorem not_bootRunsTheVerifiedSlots : ¬ Obligations.BootRunsTheVerifiedSlots := by
  intro h
  obtain ⟨-, hboot⟩ := h exhaustedBank 0 goodBundle goodBundle (some pinnedImage) true
  obtain ⟨hverified, -⟩ := hboot rfl (by decide)
  obtain ⟨hbundle, himage⟩ := exhaustedBank_verifies
  obtain ⟨u, hexec, -, -, -, -, hruns, -⟩ := hverified pinnedImage rfl rfl rfl hbundle himage
  have hmoved := exhaustedBank_moves
  rw [pinnedAfter, hexec] at hmoved
  have hpinned : u.launch.image.map (fun im => im.pinned) = some pinnedImage.pinned := congrArg (Option.map Image.pinned) hruns
  exact absurd (hmoved.symm.trans hpinned) (by decide)

end Sys2Proof

/-!
Firmware and image slots (O20).
-/

namespace Sys2Proof.Machine

/-! ## The objects of the slots (R476, R477, R480, R481) -/

/-- The rows of the slot commands and of the minimum version. -/
theorem rowOf_slotCommands : rowOf (ob 0x5820 2) = some ⟨0x5820, 0x5820, 0x02, 0x02, .u 8, .wo, .int 0, .btw 1 3, .instant⟩
    ∧ rowOf (ob 0x5830 2) = some ⟨0x5830, 0x5830, 0x02, 0x02, .u 8, .wo, .int 0, .btw 1 3, .instant⟩
    ∧ rowOf (ob 0x5800 8) = some ⟨0x5800, 0x5800, 0x08, 0x08, .u 32, .wo, .int 0, .any, .instant⟩ := by decide +kernel

/-- The rows of the image key slots. -/
theorem rowOf_imageKeys : rowOf (ob 0x5840 1) = some ⟨0x5840, 0x5840, 0x01, 0x01, .domain, .wo, .bytes [], .len 32 32 1, .instant⟩
    ∧ rowOf (ob 0x5840 3) = some ⟨0x5840, 0x5840, 0x03, 0x03, .domain, .wo, .bytes [], .len 128 128 1, .instant⟩ := by decide +kernel

/-- The switch class of an object is that of its row, but for the domains of 0x2110. -/
theorem clsOf_of_row {key : Key} {r : Row} (hrow : rowOf key = some r) (hkey : key / 256 ≠ 0x2110) : clsOf key = r.cls := by
  rw [clsOf, if_neg fun h => hkey h.1, hrow]
  rfl

/-! ## What the commands change -/

theorem State.modDict_self {s : State} {f : Dict → Dict} (h : f s.dict = s.dict) : s.modDict f = s := by rw [State.modDict, h]

theorem State.imageCommand_run (s : State) (n : Nat) (h : s.launch.run = none) : (s.imageCommand n).launch.run = none := by
  unfold State.imageCommand
  split <;> simp [State.modLaunch, State.modService, h]

section
variable {s : State} (h : s.launch.run = none)
include h

/-- Without a launch there is no end of one to set. -/
theorem State.modLaunch_endAt (e : Option Nat) : (s.modLaunch fun l => { l with run := l.run.map fun r => { r with endAt := e } }) = s := by
  refine State.modLaunch_self ?_
  rw [h, Option.map_none, ← h]

theorem State.imageCommand_relaunch : s.imageCommand 2 = s.modService fun x => { x with imgState := 3 } :=
  State.modLaunch_endAt (s := s.modService fun x => { x with imgState := 3 }) h _

theorem State.imageCommand_cancel : s.imageCommand 3 = s.modService fun x => { x with imgState := 0, imgReason := 0, imgStaged := none } :=
  State.modLaunch_endAt (s := s.modService fun x => { x with imgState := 0, imgReason := 0, imgStaged := none }) h _

end

theorem State.writeKeySlot_empty {s : State} {k0 : Bytes} {rest : List (Nat × Bytes)} (h : s.service.imageKeys = (0, k0) :: rest) (key : Bytes) :
    s.writeKeySlot key = s.modService fun v => { v with imageKeys := (1, key) :: rest } := by
  have hrest : (rest.mapIdx fun k e => if k + 1 = 0 ∧ e.1 = 0 then (1, key) else e) = rest := List.ext_getElem (by simp) (by simp)
  have hslots : (s.service.imageKeys.mapIdx fun k e => if k = 0 ∧ e.1 = 0 then (1, key) else e) = (1, key) :: rest := by
    rw [h, List.mapIdx_cons, hrest]
    rfl
  exact congrArg (fun l => s.modService fun v => { v with imageKeys := l }) hslots

/-- The image key slots after a key record. -/
def State.keysAfter (s : State) (record : Bytes) : List (Nat × Bytes) :=
  match s.recordSigner record with
  | some k => applyKeyAction s.service.imageKeys (keyActionOf 45 k record)
  | none => s.service.imageKeys

theorem State.takeKeyRecord_eq (s : State) (record : Bytes) : s.takeKeyRecord record = s.modService fun v => { v with imageKeys := s.keysAfter record } := by
  unfold State.takeKeyRecord State.keysAfter
  cases s.recordSigner record <;> rfl

/-! ## Single writes of the slots' objects -/

section
variable {s : State} {ses : Session} {g : Given} (howner : s.commit.owner = none) (hgroup : s.commit.group = none) (himpl : s.commit.implicit = [])
  (hrun : s.launch.run = none)
include howner hgroup himpl hrun

theorem State.serveWrite_firmware {n : Nat} (hlow : 1 ≤ n) (hhigh : n ≤ 3) (hallowed : s.firmwareRefused n = false) :
    s.serveWrite ses (writeItem (ob 0x5820 2) (.int n)) g = (s.committed.firmwareCommand n, .now 0 [], 0, []) := by
  have hfits : (Ty.u 8).fits (.int n) = true := by simp [Ty.fits]; omega
  have hrng : (Rng.btw 1 3).ok (.int n) = true := by simp [Rng.ok]; omega
  have hchecks : s.takeIdent.firstFailing [(ob 0x5820 2, .int n)] = none := by
    simp [State.firstFailing, State.failing_calm _ (ob 0x5820 2) (by decide)]
  have hrefusal : s.refusalOf (s.withWrite ses (ob 0x5820 2) (.int n)) (ob 0x5820 2) n = 0 := by
    simp [State.refusalOf, ob, hallowed]
  have hstill : (s.committed.firmwareCommand n).running = false := by
    unfold State.firmwareCommand
    split <;> exact congrArg Option.isSome hrun
  obtain ⟨hrow, -, -⟩ := rowOf_slotCommands
  exact State.serveWrite_command hrow (.inr rfl) (w := 8) rfl rfl hfits hrng (by decide) (by decide) rfl rfl hrefusal rfl rfl (clsOf_of_row hrow (by decide)) rfl
    rfl (fun _ _ => rfl) (by decide) howner hgroup himpl hrun hchecks rfl hstill

theorem State.serveWrite_image {n : Nat} (hlow : 1 ≤ n) (hhigh : n ≤ 3) (hallowed : s.imageRefused n = false) :
    s.serveWrite ses (writeItem (ob 0x5830 2) (.int n)) g = (s.committed.imageCommand n, .now 0 [], 0, []) := by
  have hfits : (Ty.u 8).fits (.int n) = true := by simp [Ty.fits]; omega
  have hrng : (Rng.btw 1 3).ok (.int n) = true := by simp [Rng.ok]; omega
  have hchecks : s.takeIdent.firstFailing [(ob 0x5830 2, .int n)] = none := by
    simp [State.firstFailing, State.failing_calm _ (ob 0x5830 2) (by decide)]
  have hrefusal : s.refusalOf (s.withWrite ses (ob 0x5830 2) (.int n)) (ob 0x5830 2) n = 0 := by
    simp [State.refusalOf, ob, hallowed]
  have hstill : (s.committed.imageCommand n).running = false := congrArg Option.isSome (State.imageCommand_run s.committed n hrun)
  obtain ⟨-, hrow, -⟩ := rowOf_slotCommands
  exact State.serveWrite_command hrow (.inr rfl) (w := 8) rfl rfl hfits hrng (by decide) (by decide) rfl rfl hrefusal rfl rfl (clsOf_of_row hrow (by decide)) rfl
    rfl (fun _ _ => rfl) (by decide) howner hgroup himpl hrun hchecks rfl hstill

theorem State.serveWrite_minimumVersion (hfits32 : s.service.fwSecurity < 2 ^ 32) :
    s.serveWrite ses (writeItem (ob 0x5800 8) (.int s.service.fwSecurity)) g = (s.committed.raiseMinimum, .now 0 [], 0, []) := by
  have hfits : (Ty.u 32).fits (.int s.service.fwSecurity) = true := by simp [Ty.fits]; omega
  have hchecks : s.takeIdent.firstFailing [(ob 0x5800 8, .int s.service.fwSecurity)] = none := by
    simp [State.firstFailing, State.failing_calm _ (ob 0x5800 8) (by decide)]
  have hrefusal : s.refusalOf (s.withWrite ses (ob 0x5800 8) (.int s.service.fwSecurity)) (ob 0x5800 8) s.service.fwSecurity = 0 := by
    simp [State.refusalOf, ob]
  obtain ⟨-, -, hrow⟩ := rowOf_slotCommands
  exact State.serveWrite_command hrow (.inr rfl) (w := 32) rfl rfl hfits rfl (by decide) (by decide) rfl rfl hrefusal rfl rfl (clsOf_of_row hrow (by decide)) rfl
    rfl (fun _ _ => rfl) (by decide) howner hgroup himpl hrun hchecks rfl (congrArg Option.isSome hrun)

end

/-- A whole value of a write-only DOMAIN object, where nothing is assembled. -/
theorem State.serveWrite_whole {s : State} (ses : Session) {key : Key} {r : Row} {b : Bytes} (g : Given) (hrow : rowOf key = some r) (hacc : r.acc = .wo)
    (hbus : ¬ (0x2240 ≤ key / 256 ∧ key / 256 ≤ 0x224B)) (hses : key ≠ ob 0x2020 4) (hty : r.ty = .domain) (hrng : r.rng.ok (.bytes b) = true) (hasm : s.dict.asm = []) :
    s.serveWrite ses (writeItem key (.bytes b)) g = s.writeChecked ses key r (.bytes b) g := by
  have hkey : ob (writeItem key (.bytes b)).index (writeItem key (.bytes b)).sub = key := ob_parts key
  have hdata : (writeItem key (.bytes b)).data = b := by simp [writeItem, hrow, Ty.encode]
  have hkept : (s.modDict fun d => { d with asm := d.asm.filter fun a => !(a.ses == ses && a.key == key) }) = s :=
    State.modDict_self (by rw [hasm, List.filter_nil, ← hasm])
  have hwhole : s.assemble ses key (writeItem key (.bytes b)) = (s, .inr b) := by
    unfold State.assemble
    simp only [hkept, hdata]
    simp [writeItem]
  have hbasaris : (ses.isBasaris && key == ob 0x2020 4) = false := by simp [hses]
  have hindex : (writeItem key (.bytes b)).index = key / 256 := rfl
  unfold State.serveWrite
  rw [hkey]
  simp only [hrow]
  rw [hindex]
  simp only [if_neg hbus, hacc, hbasaris, hty, hwhole, hrng, if_true, Bool.false_eq_true, if_false]

section
variable {s : State} {ses : Session} {g : Given} {b : Bytes} (howner : s.commit.owner = none) (hgroup : s.commit.group = none) (himpl : s.commit.implicit = [])
  (hrun : s.launch.run = none) (hasm : s.dict.asm = [])
include howner hgroup himpl hrun hasm

theorem State.serveWrite_imageKey (hlen : b.length = 32) (hempty : ∀ e, s.service.imageKeys.head? = some e → e.1 = 0) :
    s.serveWrite ses (writeItem (ob 0x5840 1) (.bytes b)) g = (s.committed.writeKeySlot b, .now 0 [], 0, []) := by
  have hrng : (Rng.len 32 32 1).ok (.bytes b) = true := by simp [Rng.ok, hlen]
  have hchecks : s.takeIdent.firstFailing [(ob 0x5840 1, .bytes b)] = none := by
    simp [State.firstFailing, State.failing_calm _ (ob 0x5840 1) (by decide)]
  have hfree : (s.service.imageKeys.head?.any fun e => e.1 != 0) = false := by
    cases h : s.service.imageKeys.head? with
    | none => rfl
    | some e => simp [hempty e h]
  have hrefusal : s.refusalOf (s.withWrite ses (ob 0x5840 1) (.bytes b)) (ob 0x5840 1) (Val.bytes b).num.toNat = 0 := by
    simp [State.refusalOf, ob, hfree]
  obtain ⟨hrow, -⟩ := rowOf_imageKeys
  rw [State.serveWrite_whole ses g hrow rfl (by decide) (by decide) rfl hrng hasm,
    State.writeChecked_delivers s ses (ob 0x5840 1) _ (.bytes b) g rfl rfl rfl hrefusal (.inl (by simp [State.stagedElsewhere, howner])) rfl,
    State.deliver_acts s ses (ob 0x5840 1) (.bytes b) g rfl howner hgroup himpl (.inl (clsOf_of_row hrow (by decide))) hrun hchecks,
    State.switch_command s.takeIdent (ob 0x5840 1) (.bytes b) g hrun rfl rfl (fun _ _ => rfl) (by decide) (congrArg Option.isSome hrun)]
  rfl

theorem State.serveWrite_keyRecord (hlen : b.length = 128) :
    s.serveWrite ses (writeItem (ob 0x5840 3) (.bytes b)) g = (s.committed.takeKeyRecord b, .now 0 [], 0, []) := by
  have hrng : (Rng.len 128 128 1).ok (.bytes b) = true := by simp [Rng.ok, hlen]
  have hchecks : s.takeIdent.firstFailing [(ob 0x5840 3, .bytes b)] = none := by
    simp [State.firstFailing, State.failing_calm _ (ob 0x5840 3) (by decide)]
  have hstill : (s.committed.takeKeyRecord b).running = false := by
    rw [State.takeKeyRecord_eq]
    exact congrArg Option.isSome hrun
  obtain ⟨-, hrow⟩ := rowOf_imageKeys
  rw [State.serveWrite_whole ses g hrow rfl (by decide) (by decide) rfl hrng hasm,
    State.writeChecked_delivers s ses (ob 0x5840 3) _ (.bytes b) g rfl rfl rfl rfl (.inl (by simp [State.stagedElsewhere, howner])) rfl,
    State.deliver_acts s ses (ob 0x5840 3) (.bytes b) g rfl howner hgroup himpl (.inl (clsOf_of_row hrow (by decide))) hrun hchecks,
    State.switch_command s.takeIdent (ob 0x5840 3) (.bytes b) g hrun rfl rfl (fun _ _ => rfl) (by decide) hstill]
  rfl

end

end Sys2Proof.Machine

namespace Sys2Proof.Machine

/-! ## A scheduled switch of the firmware (R113, R481) -/

/-- An instant commit of one written object, as it waits for the next beat of the running launch. -/
def State.instantCommit (s : State) (key : Key) (v : Val) (g : Given) : Commit := { s.takeIdent.scheduleOf (s.takeIdent.commitOf key v g) with started := true }

/-- With that commit alone under way, nothing starts and nothing switches before its beat. -/
theorem State.startCommits_instant {s : State} {c : Commit} (hgroup : s.commit.group = none) (himplicit : s.commit.implicit = []) (hinstant : s.commit.instant = [c])
    (hscheduled : c.scheduled = true) (hnot : s.switches c = false) : s.startCommits = s := by
  have hstartImplicit : s.startImplicit (s.commit.implicit.length + 1) = s := by
    unfold State.startImplicit
    simp [himplicit]
  have hstartInstant : s.startInstant = s := by
    rw [State.startInstant, hinstant]
    simp [hscheduled]
  have hkept : (s.modCommit fun k => { k with instant := k.instant.filter fun c => !s.switches c }) = s :=
    State.modCommit_self (by rw [hinstant, List.filter_cons_of_pos (by simp [hnot]), List.filter_nil, ← hinstant])
  have hswitchInstant : s.switchInstant = s := by
    rw [State.switchInstant, hkept, hinstant]
    simp [hnot]
  rw [State.startCommits, hstartImplicit, hstartInstant, State.switchDue, hswitchInstant, State.switchImplicit, himplicit]
  simp only [State.switchGroup, hgroup]

/-- At its beat it alone switches. -/
theorem State.switchDue_instant {s : State} {c : Commit} (hinstant : s.commit.instant = [c]) (hswitches : s.switches c = true) {u : State} (hu : (s.modCommit fun k => { k with instant := [] }).switch c = u)
    (hfree : u.commit.group = none ∧ u.commit.implicit = []) : s.switchDue = u := by
  have hdropped : (s.modCommit fun k => { k with instant := k.instant.filter fun c => !s.switches c }) = s.modCommit fun k => { k with instant := [] } := by
    simp [State.modCommit, hinstant, hswitches]
  have hswitchInstant : s.switchInstant = u := by
    rw [State.switchInstant, hdropped, hinstant]
    simpa [hswitches] using hu
  rw [State.switchDue, hswitchInstant, State.switchImplicit, hfree.2]
  simp only [State.switchGroup, hfree.1]

/-- In a beat whose hashes are due the switch computes them anew; the rest of what a commit of one command object does is its action. -/
theorem State.switch_acts {s : State} {c : Commit} {key : Key} {v : Val} {run : Run} (hes : c.entries = [(key, v)]) (hrun : s.launch.run = some run)
    (hcmd : commandKey key = true) (hwin : windowKey key = false) (htag : ∀ (x : State) (n : Nat), x.tagStreams [key] n = x) (hbound : boundedKeys.contains key = false) :
    s.switch c = ((s.recordOutcome c.ident 0 0 (some c.beat)).act key v (run.countOf c.beat) c.given)
      ∨ s.switch c = ((s.recordOutcome c.ident 0 0 (some c.beat)).act key v (run.countOf c.beat) c.given).rehash := by
  have hrunning : s.running = true := Option.isSome_of_eq_some hrun
  have hnot : key ∉ boundedKeys := by simpa using hbound
  have happly : ∀ x : State, x.applyEntries c.entries (run.countOf c.beat) c.given = x.act key v (run.countOf c.beat) c.given := by
    intro x
    unfold State.applyEntries State.keepWindows State.setEntries
    simp [hes, hcmd, hwin, htag]
  unfold State.switch
  simp only [hrun, hrunning, if_true, happly]
  rw [hes]
  simp only [List.map_cons, List.map_nil, List.filter_cons, hbound, List.filter_nil, List.foldl_nil, Bool.false_eq_true, if_false]
  split
  · exact .inr rfl
  · exact .inl rfl

section
variable {s : State} {ses : Session} {g : Given} {run : Run} (howner : s.commit.owner = none) (hgroup : s.commit.group = none) (himpl : s.commit.implicit = [])
  (hrun : s.launch.run = some run)
include howner hgroup himpl hrun

/-- While a launch runs, a schedule command waits for the next beat (R113). -/
theorem State.serveWrite_schedule (hallowed : s.firmwareRefused 2 = false) : s.serveWrite ses (writeItem (ob 0x5820 2) (.int (2 : Nat))) g =
    (s.takeIdent.modCommit fun x => { x with instant := x.instant ++ [s.instantCommit (ob 0x5820 2) (.int (2 : Nat)) g] },
      .wait s.takeIdent.commit.lastIdent, 0, []) := by
  have hchecks : s.takeIdent.firstFailing (s.takeIdent.commitOf (ob 0x5820 2) (.int (2 : Nat)) g).entries = none := by
    simp [State.firstFailing, State.commitOf, State.failing_calm _ (ob 0x5820 2) (by decide)]
  have hrefusal : s.refusalOf (s.withWrite ses (ob 0x5820 2) (.int (2 : Nat))) (ob 0x5820 2) 2 = 0 := by
    simp [State.refusalOf, ob, hallowed]
  have hprogress : s.takeIdent.inProgress = [] := by simp [State.inProgress, State.takeIdent, hgroup, himpl]
  have hrunning : s.takeIdent.running = true := Option.isSome_of_eq_some hrun
  have hstages : s.stages ses = false := by simp [State.stages, howner]
  obtain ⟨hrow, -, -⟩ := rowOf_slotCommands
  have hcls : clsOf (ob 0x5820 2) = .instant := clsOf_of_row hrow (by decide)
  have hdelivered : s.deliver ses (ob 0x5820 2) (.int (2 : Nat)) g =
      (s.takeIdent.modCommit fun x => { x with instant := x.instant ++ [s.instantCommit (ob 0x5820 2) (.int (2 : Nat)) g] }, .wait s.takeIdent.commit.lastIdent) := by
    unfold State.deliver
    rw [if_neg (by decide), hstages, if_neg Bool.false_ne_true]
    unfold State.implicitCommit
    simp only [hcls, hprogress, hchecks, hrunning, if_true, List.contains_nil, Bool.false_eq_true, if_false]
    rfl
  rw [State.serveWrite_num s ses (ob 0x5820 2) _ (.int (2 : Nat)) g hrow (.inr rfl) (by decide) (by simp [ob]) (by simp) (Ty.decode_encode_u (w := 8) rfl rfl) rfl,
    State.writeChecked_delivers s ses (ob 0x5820 2) _ (.int (2 : Nat)) g rfl rfl rfl hrefusal (.inl (by simp [State.stagedElsewhere, howner])) rfl, hdelivered]

end

end Sys2Proof.Machine

namespace Sys2Proof

open Machine

section
variable {c : Instr} {s : State} {ses : Session} {t : Nat} (h : WritesAct s ses)
include h

/-- A single write at a free server without a launch, whose object does something that looks neither at the server nor at the bookkeeping. -/
theorem commandWrite_served {key : Key} {v : Val} (hexec : exec c s = .next ((s.advance t).writeObject ses key v)) (g : State → State)
    (hserving : ∀ (x : State) (f : Server → Server), g (x.modServer f) = (g x).modServer f) (hbooks : Books (g (s.advance t)) (g (s.advance t).committed))
    (hserver : ∀ x : State, (g x).server = x.server)
    (hserve : ((s.advance t).serving ses (writeItem key v) {}).serveWrite ses (writeItem key v) {} =
      (g ((s.advance t).serving ses (writeItem key v) {}).committed, .now 0 [], 0, [])) :
    ServedWith c s ses (Books (g (s.advance t))) := by
  refine refusedWith_of_serveWrite (x := g (s.advance t).committed) hexec (h.toServerFree.advance t) ?_ hbooks ((hserver _).trans (h.committed_server t))
  have hmoved : g ((s.advance t).serving ses (writeItem key v) {}).committed = (g (s.advance t).committed).serving ses (writeItem key v) {} :=
    hserving (s.advance t).committed fun x => { x with turn := ses.path, works := [oneWrite ses (writeItem key v) {}] }
  rw [h.touchGroup t, ← hmoved]
  exact hserve

/-- The same where it changes the service alone. -/
theorem serviceWrite_served {key : Key} {v : Val} (hexec : exec c s = .next ((s.advance t).writeObject ses key v)) {f : Service → Service} {service : Service}
    (hf : f s.service = service)
    (hserve : ((s.advance t).serving ses (writeItem key v) {}).serveWrite ses (writeItem key v) {} =
      (((s.advance t).serving ses (writeItem key v) {}).committed.modService f, .now 0 [], 0, [])) :
    ServedWith c s ses (Books { s.advance t with service := service }) := by
  subst hf
  exact commandWrite_served h hexec (State.modService · f) (fun _ _ => rfl) ((h.committed t).modService f) (fun _ => rfl) hserve

/-! ## The clauses of O20 without a launch -/

theorem firmwareValidate_served (hidle : s.service.fwState ≠ 1) (hunscheduled : s.service.fwState ≠ 3) :
    ServedWith (.firmwareValidate t ses) s ses (Books { s.advance t with service := { s.service with fwState := 1, fwReason := 0, fwStaged := none } }) := by
  refine serviceWrite_served h rfl (f := fun x => { x with fwState := 1, fwReason := 0, fwStaged := none }) rfl ?_
  exact State.serveWrite_firmware (s := (s.advance t).serving ses _ {}) h.owner h.group h.implicit h.run (by decide) (by decide) (by simp [State.firmwareRefused, State.serving, State.modServer, hidle, hunscheduled])

theorem firmwareCancel_served :
    ServedWith (.firmwareCancel t ses) s ses (Books { s.advance t with service := { s.service with fwState := 0, fwReason := 0, fwStaged := none } }) := by
  refine serviceWrite_served h rfl (f := fun x => { x with fwState := 0, fwReason := 0, fwStaged := none }) rfl ?_
  exact State.serveWrite_firmware (s := (s.advance t).serving ses _ {}) h.owner h.group h.implicit h.run (by decide) (by decide) rfl

theorem imageValidate_served (hidle : s.service.imgState ≠ 1) (hunscheduled : s.service.imgState ≠ 3) :
    ServedWith (.imageValidate t ses) s ses (Books { s.advance t with service := { s.service with imgState := 1, imgReason := 0, imgStaged := none } }) := by
  refine serviceWrite_served h rfl (f := fun x => { x with imgState := 1, imgReason := 0, imgStaged := none }) rfl ?_
  exact State.serveWrite_image (s := (s.advance t).serving ses _ {}) h.owner h.group h.implicit h.run (by decide) (by decide) (by simp [State.imageRefused, State.serving, State.modServer, hidle, hunscheduled])

theorem imageRelaunch_served (hvalid : s.service.imgState = 2) (hcount : (s.advance t).now + 1000 * s.nat (ob 0x5800 0x0B) ≤ s.nat (ob 0x5830 3)) :
    ServedWith (.imageRelaunch t ses) s ses (Books { s.advance t with service := { s.service with imgState := 3 } }) := by
  refine serviceWrite_served h rfl (f := fun x => { x with imgState := 3 }) rfl ?_
  have hallowed : ((s.advance t).serving ses (writeItem (ob 0x5830 2) (.int (2 : Nat))) {}).imageRefused 2 = false := by
    have hstate : (s.service.imgState != 2) = false := by simp [hvalid]
    have hlate : decide (s.nat (ob 0x5830 3) < (s.advance t).now + 1000 * s.nat (ob 0x5800 0x0B)) = false := by simpa using hcount
    exact Bool.or_eq_false_iff.mpr ⟨hstate, hlate⟩
  refine (State.serveWrite_image (s := (s.advance t).serving ses _ {}) h.owner h.group h.implicit h.run (by decide) (by decide) hallowed).trans ?_
  rw [State.imageCommand_relaunch (s := ((s.advance t).serving ses _ {}).committed) h.run]

theorem imageCancel_served :
    ServedWith (.imageCancel t ses) s ses (Books { s.advance t with service := { s.service with imgState := 0, imgReason := 0, imgStaged := none } }) := by
  refine serviceWrite_served h rfl (f := fun x => { x with imgState := 0, imgReason := 0, imgStaged := none }) rfl ?_
  refine (State.serveWrite_image (s := (s.advance t).serving ses _ {}) h.owner h.group h.implicit h.run (by decide) (by decide) rfl).trans ?_
  rw [State.imageCommand_cancel (s := ((s.advance t).serving ses _ {}).committed) h.run]

theorem raiseMinimumSecurityVersion_served (hfits : s.service.fwSecurity < 2 ^ 32) :
    ServedWith (.raiseMinimumSecurityVersion t ses s.service.fwSecurity) s ses
      (Books { s.advance t with service := { s.service with minVersion := max s.service.minVersion s.service.fwSecurity } }) := by
  refine serviceWrite_served h rfl (f := fun v => { v with minVersion := max v.minVersion v.fwSecurity }) rfl ?_
  exact State.serveWrite_minimumVersion (s := (s.advance t).serving ses _ {}) h.owner h.group h.implicit h.run hfits

section
variable (hasm : s.dict.asm = [])
include hasm

theorem imageKeySlotWrite_served {key k0 : Bytes} {rest : List (Nat × Bytes)} (hlen : key.length = 32) (hkeys : s.service.imageKeys = (0, k0) :: rest) :
    ServedWith (.imageKeySlotWrite t ses key) s ses (Books { s.advance t with service := { s.service with imageKeys := (1, key) :: rest } }) := by
  refine serviceWrite_served h rfl (f := fun v => { v with imageKeys := (1, key) :: rest }) rfl ?_
  have hempty : ∀ e, s.service.imageKeys.head? = some e → e.1 = 0 := by
    intro e he
    rw [hkeys] at he
    exact congrArg Prod.fst (Option.some.inj he).symm
  refine (State.serveWrite_imageKey (s := (s.advance t).serving ses _ {}) h.owner h.group h.implicit h.run hasm hlen hempty).trans ?_
  rw [State.writeKeySlot_empty (s := ((s.advance t).serving ses _ {}).committed) hkeys]

theorem imageKeyRecord_served {record : Bytes} (hlen : record.length = 128) :
    ServedWith (.imageKeyRecord t ses record) s ses (Books { s.advance t with service := { s.service with imageKeys := s.keysAfter record } }) := by
  refine serviceWrite_served h rfl (f := fun v => { v with imageKeys := s.keysAfter record }) rfl ?_
  refine (State.serveWrite_keyRecord (s := (s.advance t).serving ses _ {}) h.owner h.group h.implicit h.run hasm hlen).trans ?_
  rw [State.takeKeyRecord_eq]
  rfl

end
end

/-! ## The clause of O20 on a scheduled switch -/

section
variable {s : State} {ses : Session} {t : Nat} {run : Run} (h : ServerFree s ses) (howner : s.commit.owner = none) (hrun : s.launch.run = some run) (hperiod : 0 < run.period)
include h howner hrun hperiod

/-- The state in which the scheduled switch of the firmware waits for its beat, and the request for its commit. -/
theorem firmwareSchedule_waits (hallowed : (s.advance t).firmwareRefused 2 = false) : exec (.firmwareSchedule t ses) s =
    .next (((s.advance t).takeIdent.modCommit fun x => { x with instant := x.instant ++ [(s.advance t).instantCommit (ob 0x5820 2) (.int (2 : Nat)) {}] }).modServer
      fun v => { v with turn := (ses.path + 1) % 4
                        works := [waitingWork ses .plain true {} (s.advance t).takeIdent.commit.lastIdent (answerItem (writeItem (ob 0x5820 2) (.int (2 : Nat))) 0 [])] }) := by
  set it := writeItem (ob 0x5820 2) (.int (2 : Nat)) with hit
  set a := s.advance t with ha
  set w := heldWork ses .plain true it {} with hw
  set x := a.takeIdent.modCommit fun x => { x with instant := x.instant ++ [a.instantCommit (ob 0x5820 2) (.int (2 : Nat)) {}] } with hx
  have htouch : a.touchGroup ses (ob it.index it.sub) = a := State.touchGroup_of_not_owner (by rw [ha, State.advance_commit, howner]; exact nofun) _
  have hserve : ((a.touchGroup ses (ob it.index it.sub)).holding w).serveWrite ses it {} = (x.holding w, .wait a.takeIdent.commit.lastIdent, 0, []) := by
    rw [htouch]
    exact State.serveWrite_schedule (s := a.holding w) howner h.group h.implicit hrun hallowed
  set y := x.modServer fun v => { v with turn := (ses.path + 1) % 4, works := [waitingWork ses .plain true {} a.takeIdent.commit.lastIdent (answerItem it 0 [])] } with hy
  have hinstant : y.commit.instant = [a.instantCommit (ob 0x5820 2) (.int (2 : Nat)) {}] := congrArg (· ++ _) h.instant
  have hnot : y.switches (a.instantCommit (ob 0x5820 2) (.int (2 : Nat)) {}) = false := State.switches_nextBeat (s := y) hrun hperiod rfl
  exact congrArg Host.Outcome.next (State.request_waits (h.advance t) hserve hy (State.startCommits_instant h.group h.implicit hinstant rfl hnot))

/-- At that beat the switch is scheduled, and the request is answered with success. -/
theorem firmwareSchedule_switches (hallowed : (s.advance t).firmwareRefused 2 = false) :
    Ends (.firmwareSchedule t ses) s fun v => v.service = s.service ∧ v.outbox = s.outbox
      ∧ (∃ c, v.commit.instant = [c] ∧ c.entries = [(ob 0x5820 2, .int 2)] ∧ c.scheduled = true ∧ c.beat = (s.advance t).nextBeat)
      ∧ ∀ t' : Nat, run.countOf (s.advance t).nextBeat ≤ (v.advance t').now → (v.advance t').changeDue (s.advance t).nextBeat = false →
        Ends (.commitSwitch t') v fun u => u.service = { s.service with fwState := 3 } ∧ u.commit.instant = []
          ∧ ∃ r, r.code = 0 ∧ u.outbox = s.outbox ++ [.response ses [r]] := by
  have hexec := firmwareSchedule_waits h howner hrun hperiod hallowed
  set c := (s.advance t).instantCommit (ob 0x5820 2) (.int (2 : Nat)) {} with hc
  set w := waitingWork ses .plain true {} (s.advance t).takeIdent.commit.lastIdent (answerItem (writeItem (ob 0x5820 2) (.int (2 : Nat))) 0 []) with hw
  set y := ((s.advance t).takeIdent.modCommit fun x => { x with instant := x.instant ++ [c] }).modServer fun v => { v with turn := (ses.path + 1) % 4, works := [w] } with hy
  have hinstant : y.commit.instant = [c] := congrArg (· ++ [c]) h.instant
  refine ⟨y, hexec, rfl, rfl, ⟨c, hinstant, rfl, rfl, rfl⟩, fun t' hbegun hdue => ?_⟩
  have hbeat : c.beat = (s.advance t).nextBeat := rfl
  have hlaunch : (y.advance t').launch.run = some run := hrun
  have hswitches : (y.advance t').switches c = true := by
    simp only [State.switches, State.begunBy, hlaunch, hbeat, hdue, decide_eq_true hbegun]
    rfl
  set z := (((y.advance t').modCommit fun k => { k with instant := [] }).recordOutcome c.ident 0 0 (some c.beat)).modService fun x => { x with fwState := 3 } with hz
  have hworks : z.server.works = [{ w with outcome := some 0 }] :=
    State.recordOutcome_settles (s := (y.advance t').modCommit fun k => { k with instant := [] }) (w := w) rfl rfl 0 0 (some c.beat)
  have hacts := State.switch_acts (s := (y.advance t').modCommit fun k => { k with instant := [] }) (c := c) rfl hlaunch rfl rfl (fun _ _ => rfl) (by decide)
  have hservice : z.service = { s.service with fwState := 3 } := rfl
  have houtbox : z.outbox = s.outbox := rfl
  obtain ⟨u, hu, hsame⟩ : ∃ u, ((y.advance t').modCommit fun k => { k with instant := [] }).switch c = u ∧ (u = z ∨ u = z.rehash) := ⟨_, rfl, hacts⟩
  have hfields : u.service = z.service ∧ u.server = z.server ∧ u.commit = z.commit ∧ u.power = z.power ∧ u.outbox = z.outbox := by
    rcases hsame with rfl | rfl <;> exact ⟨rfl, rfl, rfl, rfl, rfl⟩
  obtain ⟨huservice, huserver, hucommit, hupower, huoutbox⟩ := hfields
  have hgroup : u.commit.group = none := hucommit ▸ h.group
  have himplicit : u.commit.implicit = [] := hucommit ▸ h.implicit
  have hnone : u.commit.instant = [] := hucommit ▸ rfl
  have hserve : u.serve = (u.counted ses).emit (.response ses [outcomeItem (answerItem (writeItem (ob 0x5820 2) (.int (2 : Nat))) 0 []) 0]) :=
    State.serve_settled (w := w) (huserver ▸ hworks) rfl rfl rfl rfl rfl (hupower ▸ h.latched) hgroup himplicit hnone
  have hdone : exec (.commitSwitch t') y = .next ((u.counted ses).emit (.response ses [outcomeItem (answerItem (writeItem (ob 0x5820 2) (.int (2 : Nat))) 0 []) 0])) :=
    congrArg Host.Outcome.next ((congrArg State.serve (State.switchDue_instant (s := y.advance t') hinstant hswitches hu ⟨hgroup, himplicit⟩)).trans hserve)
  refine ⟨_, hdone, huservice.trans hservice, hnone, answerItem (writeItem (ob 0x5820 2) (.int (2 : Nat))) 0 [], rfl, ?_⟩
  exact congrArg (· ++ _) (huoutbox.trans houtbox)

end

end Sys2Proof

namespace Sys2Proof.Machine

/-! ## Verifications and the switch of the firmware (R480, R481) -/

section
variable {s : State}

section
variable (h : s.service.fwState = 1) {b : Bundle}
include h

theorem State.firmwareVerified_refused (hreason : s.bundleReason b ≠ 0) :
    s.firmwareVerified b = s.modService fun v => { v with fwState := 4, fwReason := s.bundleReason b } := by
  rw [State.firmwareVerified, if_neg (not_not_intro h)]
  exact if_pos hreason

theorem State.firmwareVerified_valid (hreason : s.bundleReason b = 0) : s.firmwareVerified b = s.modService fun v =>
    { v with
      fwState := 2, fwReason := if b.crustSame then 0 else 5, fwStaged := some b
      fwA := if v.slot = 1 then b.version else v.fwA, fwB := if v.slot = 1 then v.fwB else b.version } := by
  rw [State.firmwareVerified, if_neg (not_not_intro h)]
  exact if_neg (not_not_intro hreason)

end

theorem State.switchFirmware_switches {b : Bundle} {run : Run} (hstaged : s.service.fwStaged = some b) (hrun : s.launch.run = some run) (hstate : s.service.fwState = 3)
    (hbeat : s.nat (ob 0x5820 3) ≤ run.beat) : s.switchFirmware = ((s.modService fun v =>
      { v with fwState := 0, fwStaged := none, slot := 1 - v.slot, firmware := b.version, fwSecurity := b.securityVersion }).fault 0x1105 .chip (at_ 32 0 b.version)).launchBeat := by
  unfold State.switchFirmware
  simp only [hstaged, hrun]
  exact if_neg (by simp [hstate, hbeat])

section
variable (h : s.service.imgState = 1) {im : Image} {sigOk : Bool}
include h

theorem State.imageVerified_refused (hreason : s.imageReason im sigOk ≠ 0) : s.imageVerified im sigOk = s.refuseImage (s.imageReason im sigOk) := by
  rw [State.imageVerified, if_neg (not_not_intro h)]
  exact if_pos hreason

theorem State.imageVerified_valid (hreason : s.imageReason im sigOk = 0) (hfirmware : im.minFirmware ≤ s.service.firmware) (hheader : s.headerMismatch im = false) :
    s.imageVerified im sigOk = s.modService fun v => { v with imgState := 2, imgReason := 0, imgStaged := some im, imgHash := im.hash } := by
  rw [State.imageVerified, if_neg (not_not_intro h)]
  exact (if_neg (not_not_intro hreason)).trans ((if_neg (Nat.not_lt.mpr hfirmware)).trans (if_neg (by rw [hheader]; exact Bool.false_ne_true)))

end
end

end Sys2Proof.Machine

namespace Sys2Proof

open Machine

/-- Settles O20: each command is one write that changes the service alone (`serviceWrite_served`); while a launch runs a schedule waits for the next beat (`State.serveWrite_schedule`). -/
theorem firmwareAndImageSlots : Obligations.FirmwareAndImageSlots := by
  refine ⟨fun s t ses h => ⟨firmwareValidate_served h, firmwareCancel_served h, imageValidate_served h, imageRelaunch_served h, imageCancel_served h,
      raiseMinimumSecurityVersion_served h, fun key k0 rest hlen hkeys hasm => imageKeySlotWrite_served h hasm hlen hkeys,
      fun record hlen hasm => imageKeyRecord_served h hasm hlen⟩,
    fun s t ses run h howner hrun hperiod hallowed => firmwareSchedule_switches h howner hrun hperiod hallowed,
    fun s t b hstate => ⟨fun hreason => ?_, fun hreason => ?_⟩, fun s t b run hstaged hrun hstate hbeat => ?_,
    fun s t im sigOk hstate => ⟨fun hreason => ?_, fun hreason hfirmware hheader => ?_⟩⟩
  · exact congrArg Host.Outcome.next (State.firmwareVerified_refused (s := s.advance t) hstate hreason)
  · exact congrArg Host.Outcome.next (State.firmwareVerified_valid (s := s.advance t) hstate hreason)
  · exact congrArg Host.Outcome.next (State.switchFirmware_switches (s := s.advance t) hstaged hrun hstate hbeat)
  · exact congrArg Host.Outcome.next (State.imageVerified_refused (s := s.advance t) hstate hreason)
  · exact congrArg Host.Outcome.next (State.imageVerified_valid (s := s.advance t) hstate hreason hfirmware hheader)

end Sys2Proof

/-!
The power monitors (O23).
-/

namespace Sys2Proof.Machine

/-- A property that the step at one element brings about, and that every step keeps, holds after a list that has the element. -/
theorem foldl_establishes {α β : Type} {f : α → β → α} {I P : α → Prop} {l : List β} {x : β} (hx : x ∈ l) (hI : ∀ a y, I a → I (f a y))
    (hset : ∀ a, I a → P (f a x)) (hkeep : ∀ a y, I a → P a → P (f a y)) {s : α} (hs : I s) : P (l.foldl f s) := by
  have hkept : ∀ (l : List β) (a : α), I a → P a → P (l.foldl f a) := by
    intro l
    induction l with
    | nil => exact fun a _ hP => hP
    | cons y l ih => exact fun a ha hP => ih _ (hI a y ha) (hkeep a y ha hP)
  induction l generalizing s with
  | nil => exact absurd hx (List.not_mem_nil)
  | cons y l ih =>
    rcases List.mem_cons.mp hx with rfl | hmem
    · exact hkept l _ (hI s _ hs) (hset s hs)
    · exact ih hmem (hI s y hs)

theorem mem_idxs {n : Nat} (i : Fin n) : i ∈ idxs n := List.mem_finRange i

theorem State.fault_regions (s : State) (code : Nat) (loc : Loc) (detail part : Nat) : (s.fault code loc detail part).regions = s.regions := by
  rw [(fault_announces s code loc detail part).1]

/-! ## Supply steps (R447) -/

section
variable {s : State}

theorem State.supplyStep_idle (h : s.launch.run = none) : s.supplyStep = s := by
  unfold State.supplyStep
  rw [h]

section
variable {run : Run} (hrun : s.launch.run = some run)
include hrun

theorem State.supplyStep_skips (h : run.paused = true ∨ run.beat % max 1 (s.nat (ob 0x2100 0x0B)) ≠ 0 ∨ s.power.stepBeat = some run.beat) : s.supplyStep = s := by
  have hskip : (run.paused || run.beat % max 1 (s.nat (ob 0x2100 0x0B)) != 0 || s.power.stepBeat == some run.beat) = true := by
    rcases h with h | h | h <;> simp [h]
  unfold State.supplyStep
  simp only [hrun, hskip, if_true]

/-- What one region does at a supply step in token-exact mode. -/
def State.stepExact (s : State) (r : Fin 10) : State :=
  if (s.applyReplan r).power.domains[(⟨r.val, by omega⟩ : Fin 72)].state = 2 then (s.applyReplan r).stepSupply r else s.applyReplan r

theorem State.supplyStep_exact (hpaused : run.paused = false) (hpace : run.pace = false) (hbeat : run.beat % max 1 (s.nat (ob 0x2100 0x0B)) = 0)
    (hfirst : s.power.stepBeat ≠ some run.beat) :
    s.supplyStep = (((idxs 10).foldl State.stepExact s).modPower fun p => { p with stepBeat := some run.beat }).launchBeat := by
  have hgo : (run.paused || run.beat % max 1 (s.nat (ob 0x2100 0x0B)) != 0 || s.power.stepBeat == some run.beat) = false := by
    simp [hpaused, hbeat, hfirst]
  unfold State.supplyStep
  simp only [hrun, hgo, hpace, Bool.false_eq_true, if_false]
  rfl

end

section
variable {γ : Type} (π : State → γ) {r : Fin 10} (h : ∀ (a : State) (f : Region → Region), π (a.modRegion r f) = π a)
include h

theorem State.applyReplan_keeps (s : State) : π (s.applyReplan r) = π s := by
  unfold State.applyReplan
  split
  · exact h s _
  · rfl

theorem State.stepExact_keeps (hdraw : ∀ a : State, π (a.drawNat 36 8 []).2 = π a) (s : State) : π (s.stepExact r) = π s := by
  unfold State.stepExact
  split
  · exact (h _ _).trans ((hdraw _).trans (State.applyReplan_keeps π h s))
  · exact State.applyReplan_keeps π h s

end

/-- The supply of a region whose logic is on stays at or below 800 mV, and its droop has been answered (R447, R451). -/
def SupplyStepped (s : State) (r : Fin 10) : Prop := s.regions[r].supply ≤ 800 ∧ s.regions[r].droop = false

theorem State.stepSupply_steps (s : State) (r : Fin 10) : SupplyStepped (s.stepSupply r) r := by
  unfold State.stepSupply SupplyStepped
  extract_lets x now_ d base next hold supply
  rw [State.modRegion_regions, upd_getElem_self]
  exact ⟨Nat.min_le_left _ _, rfl⟩

theorem State.stepExact_other (s : State) {r k : Fin 10} (h : r ≠ k) : (s.stepExact k).regions[r] = s.regions[r] :=
  State.stepExact_keeps (fun a => a.regions[r]) (fun a f => upd_getElem_other a.regions f h) (fun _ => rfl) s

theorem State.stepExact_power (s : State) (r : Fin 10) : (s.stepExact r).power = s.power := State.stepExact_keeps State.power (fun _ _ => rfl) (fun _ => rfl) s

theorem State.rehash_power (s : State) : s.rehash.power = s.power := rfl

theorem State.rehash_log (s : State) : s.rehash.log = s.log := rfl

theorem State.saveElements_power (s : State) : s.saveElements.power = s.power := rfl

theorem State.saveElements_log (s : State) : s.saveElements.log = s.log := rfl

theorem State.launchBeat_power (s : State) : s.launchBeat.power = s.power := by
  rw [State.launchBeat, State.rehash_power, State.saveElements_power, State.modLaunch_power, State.modBlocks_power]

theorem State.launchBeat_log (s : State) : s.launchBeat.log = s.log := by
  rw [State.launchBeat, State.rehash_log, State.saveElements_log, State.modLaunch_log, State.modBlocks_log]

theorem State.stepExact_steps {s : State} {r : Fin 10} (h : s.power.domains[(⟨r.val, by omega⟩ : Fin 72)].state = 2) : SupplyStepped (s.stepExact r) r := by
  have hpower : (s.applyReplan r).power = s.power := State.applyReplan_keeps State.power (fun _ _ => rfl) s
  unfold State.stepExact
  rw [if_pos (by rw [hpower]; exact h)]
  exact State.stepSupply_steps _ r

theorem State.foldl_stepExact {s : State} {r : Fin 10} (h : s.power.domains[(⟨r.val, by omega⟩ : Fin 72)].state = 2) : SupplyStepped ((idxs 10).foldl State.stepExact s) r := by
  refine foldl_establishes (I := fun a : State => a.power = s.power) (P := fun a => SupplyStepped a r) (mem_idxs r) (fun a k ha => (a.stepExact_power k).trans ha)
    (fun a ha => State.stepExact_steps (by rw [ha]; exact h)) (fun a k ha hP => ?_) rfl
  by_cases hk : r = k
  · exact hk ▸ State.stepExact_steps (by rw [ha]; exact h)
  · rw [SupplyStepped, State.stepExact_other a hk]
    exact hP

/-- A supply step in token-exact mode changes the supplies and notes its beat; the memories and the log stay (R447). -/
theorem State.supplyStep_steps {s : State} {run : Run} (hrun : s.launch.run = some run) (hpaused : run.paused = false) (hpace : run.pace = false)
    (hbeat : run.beat % max 1 (s.nat (ob 0x2100 0x0B)) = 0) (hfirst : s.power.stepBeat ≠ some run.beat) :
    (∀ r : Fin 10, s.power.domains[(⟨r.val, by omega⟩ : Fin 72)].state = 2 → SupplyStepped s.supplyStep r)
      ∧ s.supplyStep.power.stepBeat = some run.beat ∧ s.supplyStep.mem = s.mem ∧ s.supplyStep.log = s.log := by
  have hsupply : ∀ r : Fin 10, s.power.domains[(⟨r.val, by omega⟩ : Fin 72)].state = 2 → SupplyStepped ((idxs 10).foldl State.stepExact s) r :=
    fun r hr => State.foldl_stepExact hr
  have hmem : ((idxs 10).foldl State.stepExact s).mem = s.mem := foldl_keeps State.mem (fun a k => State.stepExact_keeps State.mem (fun _ _ => rfl) (fun _ => rfl) a) _ _
  have hlog : ((idxs 10).foldl State.stepExact s).log = s.log := foldl_keeps State.log (fun a k => State.stepExact_keeps State.log (fun _ _ => rfl) (fun _ => rfl) a) _ _
  rw [State.supplyStep_exact hrun hpaused hpace hbeat hfirst]
  generalize (idxs 10).foldl State.stepExact s = y at hsupply hmem hlog
  refine ⟨fun r hr => ?_, ?_, ?_, ?_⟩
  · rw [SupplyStepped, State.launchBeat_regions]
    exact hsupply r hr
  · rw [State.launchBeat_power]
    rfl
  · rw [State.launchBeat_mem]
    exact hmem
  · rw [State.launchBeat_log]
    exact hlog

end

/-! ## Droops (R451) -/

section
variable {s : State} {depth duration : Nat} (r : Fin 10)

theorem State.droopAt_counted (hdeep : 30 < depth) (hlong : 50 ≤ duration) : s.droopAt r depth duration =
    ((s.modPower fun p => { p with droops := (p.droops + 1) % 2 ^ 32 }).modRegion r fun x => { x with droop := true }).fault 0x1003 (.ofRegion r.val)
      (at_ 16 16 depth ||| at_ 16 0 (min 65535 duration)) := by
  unfold State.droopAt
  simp [hdeep, hlong]

theorem State.droopAt_short (hdeep : 30 < depth) (hshort : duration < 50) : s.droopAt r depth duration =
    (s.modRegion r fun x => { x with droop := true }).fault 0x1003 (.ofRegion r.val) (at_ 16 16 depth ||| at_ 16 0 duration) := by
  have hmin : min 65535 duration = duration := by omega
  unfold State.droopAt
  simp [hdeep, Nat.not_le.mpr hshort, hmin]

theorem State.droopAt_within (hdepth : depth ≤ 30) (hduration : duration ≤ 2000) : s.droopAt r depth duration = s := by
  unfold State.droopAt
  simp [Nat.not_lt.mpr hdepth, Nat.not_lt.mpr hduration]

end

/-! ## Temperatures (R450) -/

/-- Sensors that all read the same agree. -/
theorem agreeing_uniform {temps : Nat → Int} {live : List Nat} {x : Int} (h : ∀ q ∈ live, temps q = x) (fuel : Nat) : agreeing temps live fuel = live := by
  have hsum : ∀ (l : List Nat) (a : Int), (∀ q ∈ l, temps q = x) → l.foldl (fun a q => a + temps q) a = a + l.length * x := by
    intro l
    induction l with
    | nil => simp
    | cons q l ih =>
      intro a hl
      rw [List.foldl_cons, ih _ fun p hp => hl p (List.mem_cons_of_mem _ hp), hl q (List.mem_cons_self ..)]
      push_cast [List.length_cons]
      ring
  cases fuel with
  | zero => rfl
  | succ fuel =>
    unfold agreeing
    extract_lets sum n off worst
    have hoff : ∀ q ∈ live, off q = 0 := by
      intro q hq
      simp only [off, sum, n, hsum live 0 h, h q hq]
      omega
    have hworst : ∀ w, worst = some w → w ∈ live := by
      refine List.foldlRecOn (motive := fun b : Option Nat => ∀ w, b = some w → w ∈ live) _ _ (fun _ hw => nomatch hw) fun b hb q hq w hw => ?_
      cases b with
      | none => exact Option.some.inj hw ▸ hq
      | some v =>
        replace hw : (if off v < off q then some q else some v) = some w := hw
        split at hw
        · exact Option.some.inj hw ▸ hq
        · exact hb w hw
    clear_value worst
    cases worst with
    | none => rfl
    | some w =>
      refine if_neg ?_
      rw [hoff w (hworst w rfl)]
      omega

/-- The hottest of sensors that all read the same. -/
theorem State.hottest_uniform {s : State} {qs : List Nat} {x : Int} (h : ∀ q ∈ qs, s.temp q = x) (hsome : qs ≠ []) : ∃ q, s.hottest qs = some (x, q) := by
  have hkept : ∀ (l : List Nat) (k : Nat), (∀ q ∈ l, s.temp q = x) → ∃ q, l.foldl (fun (b : Option (Int × Nat)) q => match b with
      | none => some (s.temp q, q)
      | some m => if m.1 < s.temp q then some (s.temp q, q) else some m) (some (x, k)) = some (x, q) := by
    intro l
    induction l with
    | nil => exact fun k _ => ⟨k, rfl⟩
    | cons q l ih =>
      intro k hl
      have hq := hl q (List.mem_cons_self ..)
      simp only [List.foldl_cons, hq, Int.lt_irrefl, if_false]
      exact ih k fun p hp => hl p (List.mem_cons_of_mem _ hp)
  cases qs with
  | nil => exact absurd rfl hsome
  | cons q l =>
    obtain ⟨k, hk⟩ := hkept l q fun p hp => h p (List.mem_cons_of_mem _ hp)
    refine ⟨k, ?_⟩
    rw [State.hottest, List.foldl_cons]
    simp only [h q (List.mem_cons_self ..)]
    exact hk

/-- Every sensor reads `x`, and none is excluded. -/
structure Uniform (s : State) (x : Int) : Prop where
  temps : ∀ q : Fin 64, s.power.temps[q] = x
  excluded : s.power.excluded = []

section
variable {s : State} {x : Int} (h : Uniform s x)
include h

theorem Uniform.congr {u : State} (hpower : u.power = s.power) : Uniform u x := ⟨fun q => by rw [hpower]; exact h.temps q, by rw [hpower]; exact h.excluded⟩

theorem Uniform.temp {q : Nat} (hq : q < 64) : s.temp q = x := by
  unfold State.temp
  rw [dif_pos hq]
  exact h.temps ⟨q, hq⟩

theorem Uniform.liveSensors (r : Fin 10) : s.liveSensors r.val = [4 * r.val, 4 * r.val + 1, 4 * r.val + 2, 4 * r.val + 3] := by
  refine agreeing_uniform (x := x) (fun q hq => h.temp ?_) 3
  simp only [List.mem_cons, List.not_mem_nil, or_false] at hq
  omega

theorem Uniform.judgeSensors (r : Fin 10) : s.judgeSensors r = s := by
  have hlive : ∀ k ∈ List.range 4, (s.liveSensors r.val).contains (4 * r.val + k) = true := by
    intro k hk
    have hlt := List.mem_range.mp hk
    rw [h.liveSensors]
    simp
    omega
  have hself : ∀ q : Fin 64, (s.modPower fun p => { p with excluded := p.excluded.filter fun e => e != q }) = s :=
    fun q => State.modPower_self (by rw [h.excluded, List.filter_nil, ← h.excluded])
  unfold State.judgeSensors
  extract_lets live
  have hstep : ∀ (l : List Nat), (∀ k ∈ l, k ∈ List.range 4) → l.foldl (fun acc k =>
      if h : 4 * r.val + k < 64 then
        let q : Fin 64 := ⟨4 * r.val + k, h⟩
        if live.contains q.val then acc.modPower fun p => { p with excluded := p.excluded.filter fun e => e != q }
        else if acc.power.excluded.contains q then acc
        else (acc.modPower fun p => { p with excluded := p.excluded ++ [q] }).fault 0x100C .chip (tempDetail (s.temp q.val, q.val))
      else acc) s = s := by
    intro l
    induction l with
    | nil => exact fun _ => rfl
    | cons k l ih =>
      intro hl
      have hk := hl k (List.mem_cons_self ..)
      have hlt : 4 * r.val + k < 64 := by have := List.mem_range.mp hk; omega
      have hfirst := hself ⟨4 * r.val + k, hlt⟩
      simp only [List.foldl_cons, dif_pos hlt, live, hlive k hk, if_true, hfirst]
      exact ih fun j hj => hl j (List.mem_cons_of_mem _ hj)
  exact hstep _ fun _ hk => hk

theorem Uniform.hottest_live (r : Fin 10) : ∃ q, s.hottest (s.liveSensors r.val) = some (x, q) := by
  rw [h.liveSensors]
  refine State.hottest_uniform (fun q hq => h.temp ?_) (List.cons_ne_nil _ _)
  simp only [List.mem_cons, List.not_mem_nil, or_false] at hq
  omega

theorem Uniform.hottest_die : ∃ q, s.hottest s.dieSensors = some (x, q) := by
  have hall : s.dieSensors = List.range 40 := by simp [State.dieSensors, h.excluded]
  rw [hall]
  exact State.hottest_uniform (fun q hq => h.temp (by have := List.mem_range.mp hq; omega)) (by decide)

theorem Uniform.judgeHeat_power (r : Fin 10) : (s.judgeHeat r).power = s.power := by
  obtain ⟨q, hq⟩ := h.hottest_live r
  unfold State.judgeHeat
  rw [hq]
  dsimp only
  rw [State.modRegion_power]
  have hwarned : ∀ (c : Prop) [Decidable c] (a b : State) (code : Nat) (loc : Loc) (detail : Nat), a.power = s.power → b.power = s.power →
      (if c then a.fault code loc detail else b).power = s.power := by
    intro c _ a b code loc detail ha hb
    split
    · exact (fault_announces _ _ _ _ _).power.trans ha
    · exact hb
  exact hwarned _ _ _ _ _ _ (hwarned _ _ _ _ _ _ rfl rfl) (hwarned _ _ _ _ _ _ rfl rfl)

/-- At temperatures below every threshold nothing is recorded. -/
theorem Uniform.judgeHeat_log (hcool : x < 950) (r : Fin 10) : (s.judgeHeat r).log = s.log := by
  obtain ⟨q, hq⟩ := h.hottest_live r
  unfold State.judgeHeat
  rw [hq]
  dsimp only
  rw [if_neg (by omega), if_neg (by omega)]
  rfl

theorem Uniform.judgeRegions_power : s.judgeRegions.power = s.power := by
  unfold State.judgeRegions
  refine List.foldlRecOn (motive := fun a : State => a.power = s.power) _ _ rfl fun a ha r _ => ?_
  rw [(h.congr ha).judgeSensors, (h.congr ha).judgeHeat_power]
  exact ha

theorem Uniform.judgeRegions_log (hcool : x < 950) : s.judgeRegions.log = s.log := by
  have hboth : s.judgeRegions.power = s.power ∧ s.judgeRegions.log = s.log := by
    unfold State.judgeRegions
    refine List.foldlRecOn (motive := fun a : State => a.power = s.power ∧ a.log = s.log) _ _ ⟨rfl, rfl⟩ fun a ha r _ => ?_
    have hu := h.congr ha.1
    rw [hu.judgeSensors]
    exact ⟨(hu.judgeHeat_power r).trans ha.1, (hu.judgeHeat_log hcool r).trans ha.2⟩
  exact hboth.2

end

/-- A sample of equal temperatures, as it is taken. -/
def State.uniformSample (s : State) (x : Int) : State := (s.modPower fun p => { p with tempsAt := some s.now }).takeTemps (List.replicate 64 x)

theorem State.uniformSample_power (s : State) (x : Int) : (s.uniformSample x).power = { s.power with
    tempsAt := some s.now, temps := Vector.ofFn fun q => (List.replicate 64 x).getD q.val s.power.temps[q], lifeNs := 100000 + s.power.lifeNs } := rfl

theorem State.uniformSample_uniform {s : State} (h : s.power.excluded = []) (x : Int) : Uniform (s.uniformSample x) x := by
  have hget : ∀ (n : Nat) (d : Int) (q : Nat), q < n → (List.replicate n x).getD q d = x := fun n d q hq => by simp [List.getD, hq]
  refine ⟨fun q => ?_, ?_⟩ <;> rw [State.uniformSample_power]
  · exact (Vector.getElem_ofFn _).trans (hget 64 _ q.val q.isLt)
  · exact h

theorem State.sampleTemps_early {s : State} (h : s.due s.power.tempsAt 100000 = false) (deci : List Int) (trip : Bool) : s.sampleTemps deci trip = s :=
  if_neg (by rw [h]; exact Bool.false_ne_true)

/-- What a thermal trip does to one domain (R450). -/
def State.tripDomain (s : State) (d : Fin 72) : State :=
  if (d.val ≤ 52 ∨ d.val = 71) ∧ s.power.domains[d].state ≠ 5 then
    (s.modPd d fun x => { x with state := 0, target := 0, latched := none, isolated := true }).loseContents d.val
  else s

theorem State.loseContents_power (s : State) (d : Nat) : (s.loseContents d).power = s.power := by
  unfold State.loseContents
  split
  · rfl
  · split
    · rfl
    · split <;> rfl

/-- A domain that trips is off. -/
theorem State.tripDomain_self {s : State} {d : Fin 72} (hd : d.val ≤ 52 ∨ d.val = 71) (hok : s.power.domains[d].state ≠ 5) :
    (s.tripDomain d).power.domains[d].state = 0 := by
  have hpower : (s.tripDomain d).power = (s.modPd d fun x => { x with state := 0, target := 0, latched := none, isolated := true }).power :=
    (congrArg State.power (if_pos ⟨hd, hok⟩)).trans (State.loseContents_power _ _)
  rw [hpower]
  exact congrArg PDomain.state (upd_getElem_self _ _ _)

/-- Every domain stays in its state or is off. -/
theorem State.tripDomain_state (s : State) (e d : Fin 72) : (s.tripDomain e).power.domains[d].state = 0 ∨ (s.tripDomain e).power.domains[d] = s.power.domains[d] := by
  by_cases h : (e.val ≤ 52 ∨ e.val = 71) ∧ s.power.domains[e].state ≠ 5
  · by_cases he : d = e
    · subst he
      exact .inl (State.tripDomain_self h.1 h.2)
    · right
      have hpower : (s.tripDomain e).power = (s.modPd e fun x => { x with state := 0, target := 0, latched := none, isolated := true }).power :=
        (congrArg State.power (if_pos h)).trans (State.loseContents_power _ _)
      rw [hpower]
      exact upd_getElem_other _ _ he
  · rw [State.tripDomain, if_neg h]
    exact .inr rfl

theorem State.tripDomain_tripped (s : State) (d : Fin 72) : (s.tripDomain d).power.tripped = s.power.tripped := by
  unfold State.tripDomain
  split
  · rw [State.loseContents_power]
    rfl
  · rfl

/-- The state in which a thermal trip has been recorded. -/
def State.tripTold (s : State) (m : Int × Nat) : State := (s.modPower fun p => { p with tripped := true }).fault 0x1006 .chip (tempDetail m)

/-- The trip switches the domains of the compute die off that have not failed (R450). -/
theorem State.thermalTrip_trips (s : State) (m : Int × Nat) : (s.thermalTrip m).power.tripped = true ∧
    ∀ d : Fin 72, (d.val ≤ 52 ∨ d.val = 71) → s.power.domains[d].state ≠ 5 → (s.thermalTrip m).power.domains[d].state = 0 := by
  have htold : (s.tripTold m).power = { s.power with tripped := true } := (fault_announces _ _ _ _ _).power
  have htrip : s.thermalTrip m = (idxs 72).foldl State.tripDomain (s.tripTold m) := rfl
  rw [htrip]
  refine ⟨(foldl_keeps (fun a : State => a.power.tripped) State.tripDomain_tripped _ _).trans (by rw [htold]), fun d hd hok => ?_⟩
  have hnot : (s.tripTold m).power.domains[d].state ≠ 5 := by
    rw [htold]
    exact hok
  refine foldl_establishes (f := State.tripDomain) (I := fun a : State => a.power.domains[d].state ≠ 5) (P := fun a : State => a.power.domains[d].state = 0) (mem_idxs d)
    (fun a e ha => ?_) (fun a ha => ?_) (fun a e _ ha => ?_) hnot
  · rcases a.tripDomain_state e d with h | h
    · rw [h]
      decide
    · rw [h]
      exact ha
  · exact State.tripDomain_self hd ha
  · rcases a.tripDomain_state e d with h | h
    · exact h
    · rw [h]
      exact ha

section
variable {s : State} {x : Int} (hdue : s.due s.power.tempsAt 100000 = true) (hexcluded : s.power.excluded = [])
include hdue hexcluded

theorem State.sampleTemps_cool (hcool : x < 950) : s.sampleTemps (List.replicate 64 x) false = (s.uniformSample x).judgeRegions := by
  have h := State.uniformSample_uniform hexcluded x
  obtain ⟨q, hq⟩ := (h.congr h.judgeRegions_power).hottest_die
  refine (if_pos hdue).trans ?_
  show (s.uniformSample x).judgeRegions.judgeDie false = _
  unfold State.judgeDie
  rw [hq]
  dsimp only
  rw [if_neg (show ¬ 950 < x by omega)]
  exact if_neg (by simp)

theorem State.sampleTemps_trips (htripped : s.power.tripped = false) (hhot : 1200 < x) :
    ∃ (y : State) (m : Int × Nat), y.power.domains = s.power.domains ∧ s.sampleTemps (List.replicate 64 x) true = y.thermalTrip m := by
  have h := State.uniformSample_uniform hexcluded x
  have hpower := h.judgeRegions_power
  obtain ⟨q, hq⟩ := (h.congr hpower).hottest_die
  have hdomains : (s.uniformSample x).judgeRegions.power.domains = s.power.domains := by rw [hpower, State.uniformSample_power]
  have hcalm : (s.uniformSample x).judgeRegions.power.tripped = false := by
    rw [hpower, State.uniformSample_power]
    exact htripped
  have hsample : s.sampleTemps (List.replicate 64 x) true = (s.uniformSample x).judgeRegions.judgeDie true := if_pos hdue
  rw [hsample]
  generalize (s.uniformSample x).judgeRegions = y at hq hdomains hcalm
  refine ⟨y.modPower fun p => { p with hotNs := 100000 + p.hotNs }, (x, q), hdomains, ?_⟩
  unfold State.judgeDie
  rw [hq]
  dsimp only
  rw [if_pos (show 950 < x by omega)]
  exact if_pos (by simp [State.modPower, hcalm, hhot])

end

/-! ## Input power (R452) -/

section
variable {s : State} {watts : Nat}

theorem State.checkPower_idle (h : s.launch.run = none) : s.checkPower watts = s.modPower fun p => { p with watts := watts % 2 ^ 16 } := by
  unfold State.checkPower State.running
  rw [h]
  rfl

section
variable (h : s.launch.run.isSome = true)
include h

theorem State.checkPower_above (habove : s.nat (ob 0x2100 0x0A) < watts) (hsince : s.power.capSince = none) :
    s.checkPower watts = s.modPower fun p => { p with watts := watts % 2 ^ 16, capClassL := true, capSince := some s.now, capTold := false } := by
  have hcap : (s.modPower fun p => { p with watts := watts % 2 ^ 16 }).power.capSince = none := hsince
  unfold State.checkPower State.running
  simp only [h, habove, hcap, Bool.not_true, Bool.false_eq_true, if_false, if_true]
  rfl

theorem State.checkPower_below (hbelow : 100 * watts < 95 * s.nat (ob 0x2100 0x0A)) :
    s.checkPower watts = s.modPower fun p => { p with watts := watts % 2 ^ 16, capClassL := false, capSince := none, capTold := false } := by
  have hnot : ¬ s.nat (ob 0x2100 0x0A) < watts := by omega
  unfold State.checkPower State.running
  simp only [h, hnot, hbelow, Bool.not_true, Bool.false_eq_true, if_false, if_true]
  rfl

end
end

/-! ## Ageing (R453 to R455) -/

theorem State.pairFault_accepted {s : State} {st f a : Nat} (h : pairAgeing st f = some a) (r : Fin 10) (pair : Nat) : s.pairFault r pair st f = s := by
  unfold State.pairFault
  rw [h]

/-- A region with the results of an accepted measurement: its ageing, its speed factor, and the re-plan that waits. -/
def Region.measured (x : Region) (a c : Nat) (plan : Nat × Nat × Nat) : Region :=
  { x with ageing := a, speed := c, replan := some plan, overAged := x.overAged || decide (700 < a) }

section
variable {x : AgeRead} {a b : Nat} (h0 : pairAgeing x.s0 x.f0 = some a) (h1 : pairAgeing x.s1 x.f1 = some b)
include h0 h1

/-- Beyond the region's results a measurement only records faults. -/
theorem State.measureAgeing_announces (s : State) :
    ∃ c plan, Announces (s.modRegion x.region fun y => y.measured (max a b) c plan) (s.measureAgeing x) := by
  unfold State.measureAgeing
  extract_lets r s1 old age tj reading c plan s2 s3
  have hs1 : s1 = s := by simp only [s1, State.pairFault_accepted h0, State.pairFault_accepted h1]
  have hage : age = max a b := by simp only [age, ageingOf, h0, h1]
  have hmeasured : Announces (s.modRegion r fun y => y.measured (max a b) c (plan, headroomOf c age, s1.marginDate r c age)) s2 := by
    rw [← hs1, ← hage]
    exact .refl s2
  have hplanned : Announces s2 s3 := by
    simp only [s3]
    split
    · exact .refl s2
    · exact fault_announces _ _ _ _ _
  refine ⟨c, _, (hmeasured.trans hplanned).trans ?_⟩
  split
  · exact fault_announces _ _ _ _ _
  · exact .refl s3

/-- What a measurement of one region leaves, and that it changes nothing else of what a write or a launch sees. -/
structure AgeingMeasured (s u : State) (x : AgeRead) (a : Nat) : Prop where
  ageing : u.regions[x.region].ageing = a
  replan : u.regions[x.region].replan.isSome = true
  overAged : u.regions[x.region].overAged = (s.regions[x.region].overAged || decide (700 < a))
  ageingAt : u.power.ageingAt = some s.now
  mem : u.mem = s.mem
  launch : u.launch = s.launch
  server : u.server = s.server

theorem State.measureAll_measures (s : State) : AgeingMeasured s (s.measureAll [x]) x (max a b) := by
  obtain ⟨c, plan, h⟩ := State.measureAgeing_announces h0 h1 (s.modPower fun p => { p with ageingAt := some s.now })
  have hall : s.measureAll [x] = (s.modPower fun p => { p with ageingAt := some s.now }).measureAgeing x := rfl
  have hregion : (s.measureAll [x]).regions[x.region] = s.regions[x.region].measured (max a b) c plan := by
    have hregions : (s.measureAll [x]).regions = upd s.regions x.region fun y => y.measured (max a b) c plan := by rw [hall, h.1]; rfl
    rw [hregions]
    exact upd_getElem_self _ _ _
  rw [← hall] at h
  refine ⟨congrArg Region.ageing hregion, by rw [hregion]; rfl, congrArg Region.overAged hregion, ?_, h.mem, h.launch, by rw [h.1]; rfl⟩
  rw [h.power]
  rfl

end

theorem rowOf_measureNow : rowOf (ob 0x2140 3) = some ⟨0x2140, 0x2140, 0x03, 0x03, .u 8, .wo, .int 0, .oneOf [1], .instant⟩ := by decide +kernel

/-- A write of 0x2140:03 measures at once (R453). -/
theorem State.serveWrite_measure {s : State} {ses : Session} {reads : List AgeRead} (howner : s.commit.owner = none) (hgroup : s.commit.group = none)
    (himpl : s.commit.implicit = []) (hrun : s.launch.run = none) (hstill : (s.committed.measureAll reads).launch.run = none) :
    s.serveWrite ses (writeItem (ob 0x2140 3) (.int (1 : Nat))) { reads := some reads } = (s.committed.measureAll reads, .now 0 [], 0, []) := by
  have hchecks : s.takeIdent.firstFailing [(ob 0x2140 3, .int (1 : Nat))] = none := by
    simp [State.firstFailing, State.failing_calm _ (ob 0x2140 3) (by decide)]
  exact State.serveWrite_command rowOf_measureNow (.inr rfl) (w := 8) rfl rfl rfl rfl (by decide) (by decide) rfl rfl rfl rfl rfl (clsOf_of_row rowOf_measureNow (by decide)) rfl
    rfl (fun _ _ => rfl) (by decide) howner hgroup himpl hrun hchecks rfl (congrArg Option.isSome hstill)

end Sys2Proof.Machine

namespace Sys2Proof

open Machine

theorem measureNow_served {s : State} {ses : Session} {t : Nat} {x : AgeRead} {a b : Nat} (h : WritesAct s ses) (h0 : pairAgeing x.s0 x.f0 = some a)
    (h1 : pairAgeing x.s1 x.f1 = some b) : ServedWith (.measureNow t ses [x]) s ses fun u => u.regions[x.region].ageing = max a b
      ∧ u.regions[x.region].replan.isSome = true ∧ u.mem = s.mem ∧ u.launch = s.launch := by
  set it := writeItem (ob 0x2140 3) (.int (1 : Nat)) with hit
  set y := (s.advance t).serving ses it { reads := some [x] } with hy
  have hm := State.measureAll_measures h0 h1 y.committed
  have hrun : (y.committed.measureAll [x]).launch.run = none := by
    rw [hm.launch]
    exact h.run
  have hworks : (y.committed.measureAll [x]).server.works = [oneWrite ses it { reads := some [x] }] := by
    rw [hm.server, hy, State.committed_serving]
    rfl
  have hserve : (y.touchGroup ses (ob it.index it.sub)).serveWrite ses it { reads := some [x] } = (y.committed.measureAll [x], .now 0 [], 0, []) := by
    rw [State.touchGroup_of_not_owner (by rw [show y.commit.owner = none from h.owner]; exact nofun)]
    exact State.serveWrite_measure (s := y) h.owner h.group h.implicit h.run hrun
  refine ⟨_, congrArg Host.Outcome.next (State.request_write (h.toServerFree.advance t) hserve hworks), ⟨hm.ageing, hm.replan, hm.mem, hm.launch⟩, _, rfl, List.getLast?_concat ..⟩

/-- Settles O23: a supply step leaves its region at or below 800 mV (`State.stepExact_steps`), equal temperatures exclude no sensor (`Uniform.judgeSensors`), and a measurement changes its region and records faults (`State.measureAgeing_announces`). -/
theorem monitorsJudgeTheirSamples : Obligations.MonitorsJudgeTheirSamples := by
  refine ⟨fun s t => ⟨fun hrun => ?_, fun run hrun hskip => ?_, fun run hrun hpaused hpace hbeat hfirst => ?_⟩, fun s t depth duration r => ⟨fun hdeep hlong => ?_, fun hdeep hshort => ?_, fun hdepth hduration => ?_⟩,
    fun s t x => ⟨fun hearly => ?_, fun hdue hexcluded htripped => ⟨fun hcool _ => ?_, fun hhot => ?_⟩⟩, fun s t watts => ⟨fun hrun => ?_, fun hrun habove hsince => ?_, fun hrun hbelow => ?_⟩,
    fun s t x a b h0 h1 => ⟨fun hearly => ?_, fun hdue => ?_, fun ses h => measureNow_served h h0 h1⟩⟩
  · exact congrArg Host.Outcome.next (State.supplyStep_idle (s := s.advance t) hrun)
  · exact congrArg Host.Outcome.next (State.supplyStep_skips (s := s.advance t) hrun hskip)
  · obtain ⟨hsupply, hbeats, hmem, hlog⟩ := State.supplyStep_steps (s := s.advance t) hrun hpaused hpace hbeat hfirst
    exact ⟨_, rfl, hsupply, hbeats, hmem, hlog⟩
  · exact congrArg Host.Outcome.next (State.droopAt_counted (s := s.advance t) r hdeep hlong)
  · exact congrArg Host.Outcome.next (State.droopAt_short (s := s.advance t) r hdeep hshort)
  · exact congrArg Host.Outcome.next (State.droopAt_within (s := s.advance t) r hdepth hduration)
  · exact congrArg Host.Outcome.next (State.sampleTemps_early (s := s.advance t) hearly _ _)
  · have hu := State.uniformSample_uniform (s := s.advance t) hexcluded x
    have hpower : ((s.advance t).uniformSample x).judgeRegions.power = ((s.advance t).uniformSample x).power := hu.judgeRegions_power
    refine ⟨_, congrArg Host.Outcome.next (State.sampleTemps_cool (s := s.advance t) hdue hexcluded hcool), ?_, ?_, ?_, ?_, ?_, ?_⟩
    · exact (hu.congr hpower).temps
    · exact hu.judgeRegions_log hcool
    all_goals rw [hpower, State.uniformSample_power]
    · exact htripped
    · exact Nat.add_comm _ _
    · rfl
  · obtain ⟨y, m, hdomains, hsample⟩ := State.sampleTemps_trips (s := s.advance t) hdue hexcluded htripped hhot
    obtain ⟨htrip, hoff⟩ := State.thermalTrip_trips y m
    refine ⟨_, congrArg Host.Outcome.next hsample, htrip, fun d hd hok => hoff d hd ?_⟩
    rw [hdomains]
    exact hok
  · exact congrArg Host.Outcome.next (State.checkPower_idle (s := s.advance t) hrun)
  · exact congrArg Host.Outcome.next (State.checkPower_above (s := s.advance t) hrun habove hsince)
  · exact congrArg Host.Outcome.next (State.checkPower_below (s := s.advance t) hrun hbelow)
  · exact congrArg Host.Outcome.next (if_neg (Bool.eq_false_iff.mp hearly) : (s.advance t).measureDue [x] = s.advance t)
  · have hm := State.measureAll_measures h0 h1 (s.advance t)
    exact ⟨_, congrArg Host.Outcome.next (if_pos hdue : (s.advance t).measureDue [x] = (s.advance t).measureAll [x]), hm.ageing, hm.replan, hm.ageingAt, hm.overAged, hm.mem, hm.launch⟩

end Sys2Proof

/-!
Queue pairs (O38), ports and the PCIe link (O39).
-/

namespace Sys2Proof.Machine

/-! ## Queue pairs (R422, R429) -/

theorem State.modQp_modQp (s : State) (q : Fin 256) (f g : Qp → Qp) : (s.modQp q f).modQp q g = s.modQp q fun x => g (f x) := by
  unfold State.modQp State.modNet
  dsimp only
  rw [upd_upd]

theorem State.modQp_qps (s : State) (q : Fin 256) (f : Qp → Qp) : (s.modQp q f).net.qps[q] = f s.net.qps[q] := upd_getElem_self _ _ _

section
variable {s : State} {q : Fin 256} {owner : Option (Fin 10 × BitVec 128)}

section
variable (h : s.net.qps[q].error = true)
include h

theorem State.goBack_error : s.goBack q owner = s := if_pos h

theorem State.ackOverdue_error : s.ackOverdue q owner = s := by
  rw [State.ackOverdue, State.goBack_error h, ite_self]

theorem State.rnrNak_error : s.rnrNak q owner = s := if_pos h

theorem State.roceAck_error (psn : Nat) (nak : Bool) : s.roceAck q psn nak owner = s := if_pos h

end

/-- A retransmission from the first unacknowledged packet, with what is noted at it. -/
def State.resent (s : State) (q : Fin 256) (f : Qp → Qp) : State :=
  (s.modQp q fun x => { f x with timerAt := some s.now }).emit (.retransmit (s.nat (ob 0x2400 9)) q.val (f s.net.qps[q]).first)

theorem State.resend_modQp (f : Qp → Qp) : (s.modQp q f).resend q = s.resent q f := by
  unfold State.resend
  rw [State.modQp_modQp, State.modQp_qps]
  rfl

section
variable (h : s.net.qps[q].error = false)
include h

theorem State.goBack_retries (hlimit : s.net.qps[q].tries + 1 ≤ s.nat (ob 0x2400 3)) : s.goBack q owner = s.resent q fun x => { x with tries := x.tries + 1 } := by
  unfold State.goBack
  extract_lets x
  rw [if_neg (by simp only [x, h]; exact Bool.false_ne_true), if_neg (Nat.not_lt.mpr hlimit), State.resend_modQp]

theorem State.goBack_exhausted (hlimit : s.nat (ob 0x2400 3) < s.net.qps[q].tries + 1) : s.goBack q owner = s.qpExhausted q 1 owner := by
  unfold State.goBack
  extract_lets x
  rw [if_neg (by simp only [x, h]; exact Bool.false_ne_true), if_pos hlimit]

theorem State.rnrNak_retries (hlimit : s.net.qps[q].rnr + 1 ≤ s.nat (ob 0x2400 5)) : s.rnrNak q owner = s.resent q fun x => { x with rnr := x.rnr + 1 } := by
  unfold State.rnrNak
  extract_lets x
  rw [if_neg (by simp only [x, h]; exact Bool.false_ne_true), if_neg (Nat.not_lt.mpr hlimit), State.resend_modQp]

theorem State.rnrNak_exhausted (hlimit : s.nat (ob 0x2400 5) < s.net.qps[q].rnr + 1) : s.rnrNak q owner = s.qpExhausted q 2 owner := by
  unfold State.rnrNak
  extract_lets x
  rw [if_neg (by simp only [x, h]; exact Bool.false_ne_true), if_pos hlimit]

theorem State.roceAck_acknowledges (psn : Nat) : s.roceAck q psn false owner =
    s.modQp q fun x => { x with first := (psn + 1) % 2 ^ 24, tries := 0, rnr := 0, timerAt := some s.now } := by
  unfold State.roceAck
  rw [if_neg (by rw [h]; exact Bool.false_ne_true)]
  rfl

theorem State.roceAck_nak (psn : Nat) (hlimit : s.net.qps[q].tries + 1 ≤ s.nat (ob 0x2400 3)) : s.roceAck q psn true owner =
    s.resent q fun x => { x with first := psn % 2 ^ 24, tries := x.tries + 1 } := by
  have hsame : (s.modQp q fun x => { x with first := psn % 2 ^ 24 }).net.qps[q] = { s.net.qps[q] with first := psn % 2 ^ 24 } := State.modQp_qps s q _
  have hback := State.goBack_retries (s := s.modQp q fun x => { x with first := psn % 2 ^ 24 }) (q := q) (owner := owner) (by rw [hsame]; exact h) (by rw [hsame]; exact hlimit)
  unfold State.roceAck
  rw [if_neg (by rw [h]; exact Bool.false_ne_true), if_pos rfl, hback, State.resent, State.modQp_modQp, hsame]
  rfl

end

theorem State.regainRate_none (h : s.net.qps[q].lastCnp = none) : s.regainRate q = s := by
  unfold State.regainRate
  rw [h]

section
variable {c : Nat} (h : s.net.qps[q].lastCnp = some c)
include h

theorem State.regainRate_early (hearly : s.now < 55000 + c) : s.regainRate q = s := by
  unfold State.regainRate
  rw [h]
  exact if_neg (Nat.not_le.mpr hearly)

theorem State.regainRate_regains (hdue : 55000 + c ≤ s.now) : s.regainRate q = s.modQp q fun x =>
    { x with rate := min 1024 (x.rate + 128), lastCnp := if 1024 ≤ x.rate + 128 then none else some s.now } := by
  unfold State.regainRate
  rw [h]
  exact if_pos hdue

end

/-- A queue pair whose limit is exhausted is in error; where a descriptor waits for it, the descriptor has its status. -/
theorem State.qpExhausted_owner (why : Nat) (r : Fin 10) (h : BitVec 128) : (s.qpExhausted q why (some (r, h))).net.qps[q].error = true
    ∧ (s.qpExhausted q why (some (r, h))).net.ports = s.net.ports ∧ (s.qpExhausted q why (some (r, h))).launch = s.launch
    ∧ (s.permits (hClass h) (statusPlace r h) 16 true = true → StatusIs (s.qpExhausted q why (some (r, h))) r h stRetryNet 0 0 false false) := by
  have hfault := fault_announces ((s.modQp q fun x => { x with error := true }).complete r 18 h stRetryNet 0 0) 0x0F01 .chip (at_ 32 32 q.val ||| at_ 8 0 why) 0
  have hwhole : s.qpExhausted q why (some (r, h)) =
      ((s.modQp q fun x => { x with error := true }).complete r 18 h stRetryNet 0 0).fault 0x0F01 .chip (at_ 32 32 q.val ||| at_ 8 0 why) := rfl
  have hnet : (s.qpExhausted q why (some (r, h))).net = (s.modQp q fun x => { x with error := true }).net := by
    rw [hwhole, hfault.1]
    exact State.complete_keeps (s.modQp q fun x => { x with error := true }) State.net (fun _ _ _ => rfl) (fun _ _ => rfl) ..
  refine ⟨?_, ?_, ?_, fun hpermits => ?_⟩
  · rw [hnet]
    exact congrArg Qp.error (State.modQp_qps s q _)
  · rw [hnet]
    rfl
  · rw [hwhole, hfault.launch]
    exact State.complete_keeps (s.modQp q fun x => { x with error := true }) State.launch (fun _ _ _ => rfl) (fun _ _ => rfl) ..
  · exact statusIs_of_mem (State.complete_statusIs (s.modQp q fun x => { x with error := true }) r 18 h stRetryNet 0 0 false false hpermits) (hwhole ▸ hfault.mem)

/-- The network once a queue pair has been re-established (R429). -/
def Net.reestablished (n : Net) (q : Fin 256) : Net := { n with qps := if n.qps[q].error = true then upd n.qps q fun _ => Qp.reset else n.qps }

theorem State.reestablish_eq (s : State) (q : Fin 256) : s.reestablish q = s.modNet fun n => n.reestablished q := by
  unfold State.reestablish Net.reestablished
  by_cases herror : s.net.qps[q].error = true
  · rw [if_pos herror]
    unfold State.modQp State.modNet
    dsimp only
    rw [if_pos herror]
  · rw [if_neg herror]
    unfold State.modNet
    dsimp only
    rw [if_neg herror]

theorem rowOf_reestablish : rowOf (ob 0x2480 1) = some ⟨0x2480, 0x2480, 0x01, 0x01, .u 32, .wo, .int 0, .btw 0 255, .instant⟩ := by decide +kernel

theorem State.serveWrite_reestablish {ses : Session} {g : Given} (howner : s.commit.owner = none) (hgroup : s.commit.group = none) (himpl : s.commit.implicit = [])
    (hrun : s.launch.run = none) (q : Fin 256) :
    s.serveWrite ses (writeItem (ob 0x2480 1) (.int q.val)) g = (s.committed.modNet fun n => n.reestablished q, .now 0 [], 0, []) := by
  have hfits : (Ty.u 32).fits (.int q.val) = true := by simp [Ty.fits]; omega
  have hrng : (Rng.btw 0 255).ok (.int q.val) = true := by simp [Rng.ok]; omega
  have hchecks : s.takeIdent.firstFailing [(ob 0x2480 1, .int q.val)] = none := by
    simp [State.firstFailing, State.failing_calm _ (ob 0x2480 1) (by decide)]
  have hact : s.committed.act (ob 0x2480 1) (.int q.val) s.now g = s.committed.modNet fun n => n.reestablished q := by
    show s.committed.onUnit 256 q.val s.committed.reestablish = _
    rw [State.onUnit_val, State.reestablish_eq]
  exact State.serveWrite_command rowOf_reestablish (.inr rfl) (w := 32) rfl rfl hfits hrng (by decide) (by decide) rfl rfl rfl rfl rfl (clsOf_of_row rowOf_reestablish (by decide)) rfl
    rfl (fun _ _ => rfl) (by decide) howner hgroup himpl hrun hchecks hact (congrArg Option.isSome hrun)

end

end Sys2Proof.Machine

namespace Sys2Proof

open Machine

/-- A single write that changes the network alone, at a free server without a launch. -/
theorem netWrite_served {c : Instr} {s : State} {ses : Session} {t : Nat} (h : WritesAct s ses) {key : Key} {v : Val}
    (hexec : exec c s = .next ((s.advance t).writeObject ses key v)) (f : Net → Net)
    (hserve : ((s.advance t).serving ses (writeItem key v) {}).serveWrite ses (writeItem key v) {} =
      (((s.advance t).serving ses (writeItem key v) {}).committed.modNet f, .now 0 [], 0, [])) :
    ServedWith c s ses (Books ((s.advance t).modNet f)) := by
  have hbooks := h.committed t
  exact commandWrite_served h hexec (State.modNet · f) (fun _ _ => rfl) ⟨(congrArg (State.modNet · f) hbooks.1).trans rfl, hbooks.2⟩ (fun _ => rfl) hserve

/-- Settles O38: a retry notes itself at its queue pair and retransmits (`State.resent`); an exhausted limit ends in the error state (`State.qpExhausted_owner`). -/
theorem queuePairsRetryAndRecover : Obligations.QueuePairsRetryAndRecover := by
  intro s t q x overdue failed
  refine ⟨fun owner herror => ⟨?_, ?_, fun psn nak => ?_⟩, fun hearly owner => ?_, fun hok => ⟨fun owner => ⟨fun hdue hlimit => ?_, fun hlimit => ?_, fun psn => ?_, fun psn hlimit => ?_⟩,
    fun hdue hlimit => ?_, fun hlimit => ?_, fun r h hdue hlimit => ?_⟩, rfl, fun hnone => ?_, fun c hc => ⟨fun hearly => ?_, fun hdue => ?_⟩, fun ses hacts => ?_⟩
  · exact congrArg Host.Outcome.next (State.ackOverdue_error (s := s.advance t) herror)
  · exact congrArg Host.Outcome.next (State.rnrNak_error (s := s.advance t) herror)
  · exact congrArg Host.Outcome.next (State.roceAck_error (s := s.advance t) herror psn nak)
  · exact congrArg Host.Outcome.next (if_neg (Bool.eq_false_iff.mp hearly) : (s.advance t).ackOverdue q owner = s.advance t)
  · exact congrArg Host.Outcome.next ((if_pos hdue : (s.advance t).ackOverdue q owner = _).trans (State.goBack_retries (s := s.advance t) hok hlimit))
  · exact congrArg Host.Outcome.next (State.rnrNak_retries (s := s.advance t) hok hlimit)
  · exact congrArg Host.Outcome.next (State.roceAck_acknowledges (s := s.advance t) hok psn)
  · exact congrArg Host.Outcome.next (State.roceAck_nak (s := s.advance t) hok psn hlimit)
  · exact congrArg Host.Outcome.next ((if_pos hdue : (s.advance t).ackOverdue q none = _).trans (State.goBack_exhausted (s := s.advance t) hok hlimit))
  · exact congrArg Host.Outcome.next (State.rnrNak_exhausted (s := s.advance t) hok hlimit)
  · have hexhausted := (if_pos hdue : (s.advance t).ackOverdue q (some (r, h)) = _).trans (State.goBack_exhausted (s := s.advance t) hok hlimit)
    obtain ⟨herror, hports, hlaunch, hstatus⟩ := State.qpExhausted_owner (s := s.advance t) (q := q) 1 r h
    exact ⟨_, congrArg Host.Outcome.next hexhausted, herror, hports, fun hpermits _ => hstatus hpermits, hlaunch⟩
  · exact congrArg Host.Outcome.next (State.regainRate_none (s := s.advance t) hnone)
  · exact congrArg Host.Outcome.next (State.regainRate_early (s := s.advance t) hc hearly)
  · exact congrArg Host.Outcome.next (State.regainRate_regains (s := s.advance t) hc hdue)
  · exact netWrite_served hacts rfl (fun n => n.reestablished q)
      (State.serveWrite_reestablish (s := (s.advance t).serving ses _ {}) hacts.owner hacts.group hacts.implicit hacts.run q)

end Sys2Proof

/-!
Ports and the PCIe link (O39).
-/

namespace Sys2Proof.Machine

/-! ## A port's block lock (R430) -/

section
variable {s : State} {p : Fin 8}

theorem State.portState_live (hcount : p.val < s.portCount) (hpower : s.portPowered p = true) : s.portState p = s.net.ports[p].state := by
  unfold State.portState
  rw [if_neg (Nat.not_le.mpr hcount), if_pos hpower]

/-- Without power a port is down, beyond the configured count it is absent. -/
theorem State.portState_dark (hpower : s.portPowered p = false) : s.portState p = 0 ∨ s.portState p = 1 := by
  unfold State.portState
  rw [hpower]
  split
  · exact .inl rfl
  · exact .inr rfl

/-- A state that a configured port with power does not have is not read at it. -/
theorem State.portState_ne {n : Nat} (hn : 1 < n) (h : s.portPowered p = false ∨ s.net.ports[p].state ≠ n) : s.portState p ≠ n := by
  by_cases hpower : s.portPowered p = true
  · have hstate : s.net.ports[p].state ≠ n := h.resolve_left (by rw [hpower]; exact nofun)
    unfold State.portState
    rw [if_pos hpower]
    split
    · omega
    · exact hstate
  · have := State.portState_dark (Bool.eq_false_iff.mpr hpower)
    omega

theorem State.loseLock_keeps (h : s.portCount ≤ p.val ∨ s.portPowered p = false ∨ s.net.ports[p].state = 4) : s.loseLock p = s := by
  refine if_pos ?_
  by_cases hcount : s.portCount ≤ p.val
  · exact .inr (.inl (if_pos hcount))
  · by_cases hpower : s.portPowered p = true
    · have hheld := (h.resolve_left hcount).resolve_left (by rw [hpower]; exact nofun)
      exact .inr (.inr ((State.portState_live (Nat.not_le.mp hcount) hpower).trans hheld))
    · exact .inl (by rw [Bool.eq_false_iff.mpr hpower]; rfl)

section
variable (hcount : p.val < s.portCount) (hpower : s.portPowered p = true)
include hcount hpower

/-- A configured port with power that is not held down has a lock to lose. -/
theorem State.has_lock (hpresent : s.net.ports[p].state ≠ 0) (hfree : s.net.ports[p].state ≠ 4) : ¬ (!s.portPowered p ∨ s.portState p = 0 ∨ s.portState p = 4) := by
  rw [State.portState_live hcount hpower, hpower]
  simp [hpresent, hfree, -Fin.getElem_fin]

theorem State.portLinked_links (h : s.net.ports[p].state = 1 ∨ s.net.ports[p].state = 2) : s.portLinked p = s.modPort p fun x => { x with state := 3 } :=
  if_pos ⟨hpower, by rw [State.portState_live hcount hpower]; exact h⟩

theorem State.portUp_held (h : s.net.ports[p].state = 4) : s.portUp p = s.modPort p fun x => { x with state := 2, retrains := [] } :=
  if_pos ((State.portState_live hcount hpower).trans h)

end

theorem State.portLinked_keeps (h : s.portPowered p = false ∨ s.net.ports[p].state = 3 ∨ s.net.ports[p].state = 4) : s.portLinked p = s := by
  refine if_neg fun hlinks => ?_
  obtain ⟨hpower, hstate⟩ := hlinks
  have hup := h.resolve_left (by rw [hpower]; exact nofun)
  unfold State.portState at hstate
  rw [if_pos hpower] at hstate
  split at hstate <;> omega

theorem State.portUp_keeps (h : s.portPowered p = false ∨ s.net.ports[p].state ≠ 4) : s.portUp p = s := if_neg (State.portState_ne (by decide) h)

end

/-! ## The port up command, 0x2402, and the link up command, 0x2500:03 -/

theorem rowOf_portUp (p : Fin 8) : rowOf (ob 0x2402 (p.val + 1)) = some ⟨0x2402, 0x2402, 0x01, 0x08, .u 8, .wo, .int 0, .oneOf [1], .instant⟩ := by
  revert p
  decide +kernel

theorem calmIndex_portUp (p : Fin 8) : calmIndex (ob 0x2402 (p.val + 1) / 256) = true := by
  revert p
  decide

/-- The port up command's objects act at once, and are in none of the groups of objects that a write treats on their own. -/
theorem portUp_keyFacts (p : Fin 8) : ¬ (0x2240 ≤ ob 0x2402 (p.val + 1) / 256 ∧ ob 0x2402 (p.val + 1) / 256 ≤ 0x224B) ∧ ob 0x2402 (p.val + 1) ≠ ob 0x2020 4
    ∧ immediateKey (ob 0x2402 (p.val + 1)) = false ∧ clsOf (ob 0x2402 (p.val + 1)) = .instant ∧ commandKey (ob 0x2402 (p.val + 1)) = true
    ∧ windowKey (ob 0x2402 (p.val + 1)) = false ∧ boundedKeys.contains (ob 0x2402 (p.val + 1)) = false := by
  revert p
  decide +kernel

theorem rowOf_linkUp : rowOf (ob 0x2500 3) = some ⟨0x2500, 0x2500, 0x03, 0x03, .u 8, .wo, .int 0, .oneOf [1], .instant⟩ := by decide +kernel

section
variable {s : State} {ses : Session} {g : Given} (howner : s.commit.owner = none) (hgroup : s.commit.group = none) (himpl : s.commit.implicit = [])
  (hrun : s.launch.run = none)
include howner hgroup himpl hrun

theorem State.serveWrite_portUp (p : Fin 8) :
    s.serveWrite ses (writeItem (ob 0x2402 (p.val + 1)) (.int (1 : Nat))) g = (s.committed.portUp p, .now 0 [], 0, []) := by
  have hchecks : s.takeIdent.firstFailing [(ob 0x2402 (p.val + 1), .int (1 : Nat))] = none := by
    simp [State.firstFailing, State.failing_calm _ _ (calmIndex_portUp p)]
  have hact : s.committed.act (ob 0x2402 (p.val + 1)) (.int (1 : Nat)) s.now g = s.committed.portUp p := by fin_cases p <;> rfl
  have hstill : (s.committed.portUp p).running = false := by
    unfold State.portUp
    rw [apply_ite State.running]
    split <;> exact congrArg Option.isSome hrun
  obtain ⟨hbus, hses, himm, hcls, hcmd, hwin, hbound⟩ := portUp_keyFacts p
  exact State.serveWrite_command (rowOf_portUp p) (.inr rfl) (w := 8) rfl rfl rfl rfl hbus hses (by fin_cases p <;> rfl) (by fin_cases p <;> rfl)
    (by fin_cases p <;> rfl) (by fin_cases p <;> rfl) himm hcls hcmd hwin (by fin_cases p <;> exact fun _ _ => rfl) hbound howner hgroup himpl hrun hchecks hact hstill

theorem State.serveWrite_linkUp : s.serveWrite ses (writeItem (ob 0x2500 3) (.int (1 : Nat))) g = (s.committed.pcieRelease, .now 0 [], 0, []) := by
  have hchecks : s.takeIdent.firstFailing [(ob 0x2500 3, .int (1 : Nat))] = none := by
    simp [State.firstFailing, State.failing_calm _ (ob 0x2500 3) (by decide)]
  have hstill : s.committed.pcieRelease.running = false := by
    unfold State.pcieRelease
    rw [apply_ite State.running]
    split <;> exact congrArg Option.isSome hrun
  exact State.serveWrite_command rowOf_linkUp (.inr rfl) (w := 8) rfl rfl rfl rfl (by decide) (by decide) rfl rfl rfl rfl rfl (clsOf_of_row rowOf_linkUp (by decide)) rfl rfl
    (fun _ _ => rfl) (by decide) howner hgroup himpl hrun hchecks rfl hstill

end

/-! ## Pause frames (R422, R430) -/

section
variable {s : State} {p prio : Fin 8} {quanta : Nat}

theorem State.transmitWaiting_eq (s : State) (p : Fin 8) : ∃ sent : List Output,
    (∀ o ∈ s.net.ports[p].waiting, s.net.ports[p].holds o.priority = false → o.priority < 8 → o ∈ sent)
    ∧ s.transmitWaiting p = { (s.modPort p fun x => { x with waiting := x.waiting.filter fun o => x.holds o.priority }) with outbox := s.outbox ++ sent } := by
  have hemits : ∀ (l : List Output) (u : State), l.foldl (fun acc o => acc.emit o) u = { u with outbox := u.outbox ++ l } := by
    intro l
    induction l with
    | nil => intro u; simp
    | cons o l ih => intro u; rw [List.foldl_cons, ih]; simp [State.emit]
  refine ⟨_, fun o hmem hfree hprio => ?_, hemits _ _⟩
  rw [List.mem_flatMap]
  exact ⟨o.priority, by simpa using hprio, by simp [hmem, hfree, -Fin.getElem_fin]⟩

/-- The port's part of a pause frame that asks for no time: the priority is free. -/
def Port.resumes (x : Port) (prio : Fin 8) : Port := { x with paused := x.paused.filter fun e => e.1 != prio }

theorem Port.resumes_free (x : Port) (prio : Fin 8) : (x.resumes prio).holds prio.val = false := by
  simp only [Port.holds, Port.resumes, List.any_filter, List.any_eq_false]
  intro e _
  simp only [Bool.and_eq_true, bne_iff_ne, beq_iff_eq, ne_eq, not_and, Fin.ext_iff]
  omega

theorem State.pause_unnamed (h : bit (s.nat (ob 0x2400 7)) prio.val = false) : s.pause p prio quanta = s := if_pos (by rw [h]; rfl)

section
variable (h : bit (s.nat (ob 0x2400 7)) prio.val = true)
include h

theorem State.pause_named : s.pause p prio quanta = if quanta = 0 then (s.modPort p (·.resumes prio)).transmitWaiting p else s.modPort p fun x =>
    if x.ignoring.any fun e => e.1 == prio then { x with ignoring := x.ignoring.map fun e => if e.1 = prio then (prio, s.now) else e }
    else if x.paused.any fun e => e.1 == prio then x
    else { x with paused := x.paused ++ [(prio, s.now)] } :=
  if_neg (by rw [h]; exact Bool.false_ne_true)

theorem State.pause_ends : (s.pause p prio 0).net.ports[p].paused = s.net.ports[p].paused.filter (fun e => e.1 != prio)
    ∧ (s.pause p prio 0).net.ports[p].waiting = s.net.ports[p].waiting.filter (fun o => (s.pause p prio 0).net.ports[p].holds o.priority)
    ∧ (∀ o ∈ s.net.ports[p].waiting, o.priority = prio.val → o ∈ (s.pause p prio 0).outbox)
    ∧ s.pause p prio 0 = { s with net := { s.net with ports := (s.pause p prio 0).net.ports }, outbox := (s.pause p prio 0).outbox } := by
  obtain ⟨sent, hsent, hwhole⟩ := State.transmitWaiting_eq (s.modPort p (·.resumes prio)) p
  have hport : (s.modPort p (·.resumes prio)).net.ports[p] = s.net.ports[p].resumes prio := upd_getElem_self _ _ _
  have hports : (s.pause p prio 0).net.ports = upd s.net.ports p fun x => { x.resumes prio with waiting := x.waiting.filter fun o => (x.resumes prio).holds o.priority } := by
    rw [State.pause_named h, if_pos rfl, hwhole]
    exact upd_upd s.net.ports p (·.resumes prio) fun x => { x with waiting := x.waiting.filter fun o => x.holds o.priority }
  have hself : (s.pause p prio 0).net.ports[p] = { s.net.ports[p].resumes prio with waiting := s.net.ports[p].waiting.filter fun o => (s.net.ports[p].resumes prio).holds o.priority } := by
    rw [hports, upd_getElem_self]
  refine ⟨by rw [hself]; rfl, by rw [hself]; rfl, fun o hmem hprio => ?_, ?_⟩
  · rw [State.pause_named h, if_pos rfl, hwhole]
    refine List.mem_append_right _ (hsent o ?_ ?_ ?_)
    · rw [hport]
      exact hmem
    · rw [hport, hprio, Port.resumes_free]
    · rw [hprio]
      exact prio.isLt
  · rw [State.pause_named h, if_pos rfl, hwhole]
    rfl

variable (hquanta : quanta ≠ 0)
include hquanta

theorem State.pause_begins (hheed : (s.net.ports[p].ignoring.any fun e => e.1 == prio) = false) (hfree : (s.net.ports[p].paused.any fun e => e.1 == prio) = false) :
    s.pause p prio quanta = s.modPort p fun x => { x with paused := x.paused ++ [(prio, s.now)] } := by
  rw [State.pause_named h, if_neg hquanta]
  unfold State.modPort State.modNet
  refine congrArg (fun x => { s with net := { s.net with ports := x } }) (upd_congr ?_)
  rw [hheed, if_neg Bool.false_ne_true, hfree, if_neg Bool.false_ne_true]

theorem State.pause_ignored (hdeaf : (s.net.ports[p].ignoring.any fun e => e.1 == prio) = true) :
    s.pause p prio quanta = s.modPort p fun x => { x with ignoring := x.ignoring.map fun e => if e.1 = prio then (prio, s.now) else e } := by
  rw [State.pause_named h, if_neg hquanta]
  unfold State.modPort State.modNet
  refine congrArg (fun x => { s with net := { s.net with ports := x } }) (upd_congr ?_)
  rw [hdeaf, if_pos rfl]

theorem State.pause_ignored_facts (hdeaf : (s.net.ports[p].ignoring.any fun e => e.1 == prio) = true) :
    (s.pause p prio quanta).net.ports[p].paused = s.net.ports[p].paused ∧ (prio, s.now) ∈ (s.pause p prio quanta).net.ports[p].ignoring
    ∧ s.pause p prio quanta = { s with net := (s.pause p prio quanta).net } := by
  rw [State.pause_ignored h hquanta hdeaf]
  have hport : (s.modPort p fun x => { x with ignoring := x.ignoring.map fun e => if e.1 = prio then (prio, s.now) else e }).net.ports[p] =
      { s.net.ports[p] with ignoring := s.net.ports[p].ignoring.map fun e => if e.1 = prio then (prio, s.now) else e } := upd_getElem_self _ _ _
  obtain ⟨e, hmem, hprio⟩ := List.any_eq_true.mp hdeaf
  refine ⟨by rw [hport], ?_, rfl⟩
  rw [hport]
  exact List.mem_map.mpr ⟨e, hmem, if_pos (eq_of_beq hprio)⟩

end

theorem State.pauseWatchdog_early (h : ∀ e ∈ s.net.ports[p].paused, e.1 = prio → s.now < e.2 + 1000000 * s.nat (ob 0x2400 8)) : s.pauseWatchdog p prio = s := by
  refine if_neg fun hany => ?_
  obtain ⟨e, hmem, hlate⟩ := List.any_eq_true.mp hany
  rw [Bool.and_eq_true, decide_eq_true_eq] at hlate
  exact absurd hlate.2 (Nat.not_le.mpr (h e hmem (eq_of_beq hlate.1)))

theorem State.pauseWatchdog_fires {c : Nat} (hmem : (prio, c) ∈ s.net.ports[p].paused) (hlate : c + 1000000 * s.nat (ob 0x2400 8) ≤ s.now) : s.pauseWatchdog p prio =
    ((s.modPort p fun x => { x with paused := x.paused.filter fun e => e.1 != prio, ignoring := x.ignoring ++ [(prio, s.now)] }).fault
      0x0F07 (.ofUnit p.val) (at_ 8 0 prio.val)).transmitWaiting p :=
  if_pos (List.any_eq_true.mpr ⟨(prio, c), hmem, by simp [hlate]⟩)

end

/-! ## The PCIe link (R434, R435) -/

section
variable {s : State}

theorem State.pcieRetrain_held (h : s.net.pcieHeld = true) : s.pcieRetrain = s := if_pos h

theorem State.pcieLinked_held {speed lanes : Nat} (h : s.net.pcieHeld = true) : s.pcieLinked speed lanes = s := if_pos (by rw [h]; rfl)

theorem State.pcieRelease_held (h : s.net.pcieHeld = true) : s.pcieRelease = s.modNet fun n => { n with pcieHeld := false, pcieRetrains := [] } := if_pos h

theorem State.pcieRelease_free (h : s.net.pcieHeld = false) : s.pcieRelease = s := if_neg (by rw [h]; exact Bool.false_ne_true)

theorem State.pcieLinked_dark {speed lanes : Nat} (h : s.domainServes 52 = false) : s.pcieLinked speed lanes = s := if_pos (by rw [h]; exact Bool.or_true _)

theorem State.pcieLinked_links {speed lanes : Nat} (hfree : s.net.pcieHeld = false) (hpower : s.domainServes 52 = true) :
    s.pcieLinked speed lanes = s.modNet fun n => { n with pcieUp := true, pcieSpeed := speed % 256, pcieLanes := lanes % 256 } :=
  if_neg (by rw [hfree, hpower]; exact Bool.false_ne_true)

/-- The counts of the link's retrains of the last second, with one that takes place now. -/
def State.linkRetrains (s : State) : List Nat := (s.net.pcieRetrains.filter fun r => decide (s.now < 1000000000 + r)) ++ [s.now]

theorem State.pcieRetrain_free (h : s.net.pcieHeld = false) : s.pcieRetrain =
    if s.linkRetrains.length < 4 then (s.modNet fun n => { n with pcieRetrains := s.linkRetrains }).bump (ob 0x2500 2)
    else ((s.modNet fun n => { n with pcieRetrains := s.linkRetrains, pcieHeld := true, pcieUp := false, pcieSpeed := 0, pcieLanes := 0 }).bump (ob 0x2500 2)).fault
      0x0F06 .chip (at_ 8 0 s.linkRetrains.length) :=
  if_neg (by rw [h]; exact Bool.false_ne_true)

end

end Sys2Proof.Machine

namespace Sys2Proof

open Machine

section
variable {s : State} {ses : Session} {t : Nat} {p : Fin 8} (h : WritesAct s ses)
include h

theorem portCount_committed (it : Item) : ((s.advance t).serving ses it {}).committed.portCount = s.portCount := by
  have hlanes : ((s.advance t).serving ses it {}).committed.nat (ob 0x2400 1) = s.nat (ob 0x2400 1) := (h.committed t).nat_of_le (by decide)
  unfold State.portCount
  rw [hlanes]

theorem portPowered_committed (it : Item) : ((s.advance t).serving ses it {}).committed.portPowered p = s.portPowered p := by
  unfold State.portPowered State.laneDomain
  rw [portCount_committed h]
  rfl

theorem portUpCommand_held (hcount : p.val < s.portCount) (hpower : s.portPowered p = true) (hheld : s.net.ports[p].state = 4) :
    ServedWith (.portUpCommand t ses p) s ses (Books ((s.advance t).modPort p fun y => { y with state := 2, retrains := [] })) := by
  refine netWrite_served h rfl (fun n => { n with ports := upd n.ports p fun y => { y with state := 2, retrains := [] } }) ?_
  refine (State.serveWrite_portUp (s := (s.advance t).serving ses _ {}) h.owner h.group h.implicit h.run p).trans (congrArg (·, Served.now 0 [], 0, []) ?_)
  exact State.portUp_held (s := ((s.advance t).serving ses _ {}).committed) (by rw [portCount_committed h]; exact hcount) (by rw [portPowered_committed h]; exact hpower) hheld

theorem portUpCommand_free (hfree : s.portPowered p = false ∨ s.net.ports[p].state ≠ 4) : ServedWith (.portUpCommand t ses p) s ses (Books (s.advance t)) := by
  refine netWrite_served h rfl id ?_
  refine (State.serveWrite_portUp (s := (s.advance t).serving ses _ {}) h.owner h.group h.implicit h.run p).trans (congrArg (·, Served.now 0 [], 0, []) ?_)
  exact State.portUp_keeps (s := ((s.advance t).serving ses _ {}).committed) (by rw [portPowered_committed h]; exact hfree)

theorem linkUpCommand_held (hheld : s.net.pcieHeld = true) :
    ServedWith (.linkUpCommand t ses) s ses (Books ((s.advance t).modNet fun n => { n with pcieHeld := false, pcieRetrains := [] })) := by
  refine netWrite_served h rfl (fun n => { n with pcieHeld := false, pcieRetrains := [] }) ?_
  refine (State.serveWrite_linkUp (s := (s.advance t).serving ses _ {}) h.owner h.group h.implicit h.run).trans (congrArg (·, Served.now 0 [], 0, []) ?_)
  exact State.pcieRelease_held (s := ((s.advance t).serving ses _ {}).committed) hheld

theorem linkUpCommand_free (hfree : s.net.pcieHeld = false) : ServedWith (.linkUpCommand t ses) s ses (Books (s.advance t)) := by
  refine netWrite_served h rfl id ?_
  refine (State.serveWrite_linkUp (s := (s.advance t).serving ses _ {}) h.owner h.group h.implicit h.run).trans (congrArg (·, Served.now 0 [], 0, []) ?_)
  exact State.pcieRelease_free (s := ((s.advance t).serving ses _ {}).committed) hfree

end

/-- Settles O39: each event at a port or at the PCIe link, by the states in which it acts. -/
theorem portsAndLinksRetrainAndStayDown : Obligations.PortsAndLinksRetrainAndStayDown := by
  intro s t
  refine ⟨?_, ?_⟩
  · intro p x recent
    refine ⟨fun h => ?_, fun hcount hpower hpresent hfree => ?_, fun hcount hpower h => ?_, fun h => ?_,
      fun ses hacts hcount => ⟨portUpCommand_held hacts hcount, portUpCommand_free hacts⟩, fun prio quanta => ⟨fun h => ?_, fun h => ?_, fun hquanta h hheed hfree => ?_,
        fun hquanta h hdeaf => ?_, fun h => ?_, fun c hmem hlate => ⟨?_, rfl⟩, rfl⟩⟩
    · exact congrArg Host.Outcome.next (State.loseLock_keeps (s := s.advance t) h)
    · have hlock := State.has_lock (s := s.advance t) hcount hpower hpresent hfree
      refine ⟨fun hfew => ?_, fun hmany => ⟨?_, rfl⟩⟩
      · exact congrArg Host.Outcome.next ((if_neg hlock).trans (if_pos hfew))
      · exact congrArg Host.Outcome.next ((if_neg hlock).trans (if_neg (Nat.not_lt.mpr hmany)))
    · exact congrArg Host.Outcome.next (State.portLinked_links (s := s.advance t) hcount hpower h)
    · exact congrArg Host.Outcome.next (State.portLinked_keeps (s := s.advance t) h)
    · exact congrArg Host.Outcome.next (State.pause_unnamed (s := s.advance t) h)
    · exact ⟨_, rfl, State.pause_ends (s := s.advance t) h⟩
    · exact congrArg Host.Outcome.next (State.pause_begins (s := s.advance t) h hquanta hheed hfree)
    · exact ⟨_, rfl, State.pause_ignored_facts (s := s.advance t) h hquanta hdeaf⟩
    · exact congrArg Host.Outcome.next (State.pauseWatchdog_early (s := s.advance t) h)
    · exact congrArg Host.Outcome.next (State.pauseWatchdog_fires (s := s.advance t) hmem hlate)
  · intro recent
    refine ⟨fun hheld => ⟨?_, fun speed lanes => ?_, ?_, fun ses hacts => linkUpCommand_held hacts hheld⟩,
      fun hfree => ⟨?_, fun speed lanes hdark => ?_, fun speed lanes hpower => ?_, fun hfew => ?_, fun hmany => ?_, fun ses hacts => linkUpCommand_free hacts hfree⟩⟩
    · exact congrArg Host.Outcome.next (State.pcieRetrain_held (s := s.advance t) hheld)
    · exact congrArg Host.Outcome.next (State.pcieLinked_held (s := s.advance t) hheld)
    · exact congrArg Host.Outcome.next (State.pcieRelease_held (s := s.advance t) hheld)
    · exact congrArg Host.Outcome.next (State.pcieRelease_free (s := s.advance t) hfree)
    · exact congrArg Host.Outcome.next (State.pcieLinked_dark (s := s.advance t) hdark)
    · exact congrArg Host.Outcome.next (State.pcieLinked_links (s := s.advance t) hfree hpower)
    · exact congrArg Host.Outcome.next ((State.pcieRetrain_free (s := s.advance t) hfree).trans (if_pos hfew))
    · exact congrArg Host.Outcome.next ((State.pcieRetrain_free (s := s.advance t) hfree).trans (if_neg (Nat.not_lt.mpr hmany)))

end Sys2Proof

/-!
CAN controllers (O34).
-/

namespace Sys2Proof

open Machine

section
variable {s u : State} (h : Announces s u)
include h

theorem Announces.can : u.can = s.can := by rw [h.1]

theorem Announces.tt : u.tt = s.tt := by rw [h.1]

end

end Sys2Proof

namespace Sys2Proof.Machine

theorem upd_same {α : Type} {n : Nat} {v : Vector α n} {i : Fin n} {f : α → α} (h : f v[i] = v[i]) : upd v i f = v := by
  rw [upd, h]
  exact Vector.set_getElem_self ..

theorem canObj_ne_canStat (c k : Fin 4) : canObj c.val 1 ≠ canStat k.val 9 := by
  revert c k
  decide

theorem ttObj_ne_canStat (c : Fin 2) (k : Fin 4) : ttObj c.val 1 ≠ canStat k.val 9 := by
  revert c k
  decide

theorem State.nat_bump_other (s : State) {key k : Key} (h : k ≠ key) (n : Nat := 1) : (s.bump key n).nat k = s.nat k := by
  unfold State.nat State.int
  rw [State.obj_bump_other s n h]

/-- A draw counts itself. -/
theorem State.drawNat_draws (s : State) (p w : Nat) (ops : List Int) : (s.drawNat p w ops).2 = s.modService fun v => { v with entropy := v.entropy + 1 } := rfl

/-- The objects of a controller are no counters of announcements. -/
theorem canObj_quiet (c : Fin 4) (n : Fin 16) : canObj c.val n.val ∉ [ob 0x2020 9, ob 0x2300 3, ob 0x2380 4, ob 0x2381 4, ob 0x2382 4, ob 0x2383 4] := by
  revert c n
  decide

theorem ttObj_quiet (c : Fin 2) (n : Fin 16) : ttObj c.val n.val ∉ [ob 0x2020 9, ob 0x2300 3, ob 0x2380 4, ob 0x2381 4, ob 0x2382 4, ob 0x2383 4] := by
  revert c n
  decide

/-! ## Receiving (R403, R405) -/

section
variable {s : State} {c : Fin 4} {f : CanFrame}

theorem State.modCan_self (g : CanCtl → CanCtl) : (s.modCan c g).can[c] = g s.can[c] := upd_getElem_self _ _ _

theorem State.modCan_modCan (g g' : CanCtl → CanCtl) : (s.modCan c g).modCan c g' = s.modCan c fun x => g' (g x) := by
  unfold State.modCan
  dsimp only
  rw [upd_upd]

/-- A data frame at a controller that lives: the receive counter, the mark of its filter, and the frame itself. -/
def State.filtered (s : State) (c : Fin 4) (f : CanFrame) : State :=
  if h : c.val < 2 then
    s.modTt ⟨c.val, h⟩ fun x =>
      let k := filterOf c.val f.ident f.extended
      { x with received := if x.received.contains k then x.received else k :: x.received }
  else s

theorem State.filtered_eq (s : State) (c : Fin 4) (f : CanFrame) : s.filtered c f = { s with tt := (s.filtered c f).tt } := by
  unfold State.filtered
  split <;> rfl

theorem State.filtered_can : (s.filtered c f).can = s.can := by rw [State.filtered_eq]

theorem State.filtered_now : (s.filtered c f).now = s.now := by rw [State.filtered_eq]; rfl

theorem State.filtered_mem : (s.filtered c f).mem = s.mem := by rw [State.filtered_eq]

theorem State.filtered_other (h : 2 ≤ c.val) : s.filtered c f = s := dif_neg (Nat.not_lt.mpr h)

theorem State.filtered_received (h : c.val < 2) : filterOf c.val f.ident f.extended ∈ (s.filtered c f).tt[(⟨c.val, h⟩ : Fin 2)].received := by
  unfold State.filtered
  rw [dif_pos h]
  unfold State.modTt
  rw [upd_getElem_self]
  by_cases hmem : s.tt[(⟨c.val, h⟩ : Fin 2)].received.contains (filterOf c.val f.ident f.extended) = true
  · dsimp only
    rw [if_pos hmem]
    exact List.contains_iff_mem.mp hmem
  · dsimp only
    rw [if_neg hmem]
    exact List.mem_cons_self

theorem State.receiveFrame_deaf (h : s.canLive c = false) : s.receiveFrame c f = s := if_pos (by rw [h]; rfl)

section
variable (hlive : s.canLive c = true)
include hlive

theorem State.receiveFrame_remote (hremote : f.remote = true) : s.receiveFrame c f = s.bump (canStat c.val 8) :=
  (if_neg (by rw [hlive]; exact Bool.false_ne_true)).trans (if_pos hremote)

variable (hdata : f.remote = false)
include hdata

theorem State.receiveFrame_data : s.receiveFrame c f =
    if ((s.goodReceive c).filtered c f).can[c].fifo.length < 64 then
      ((s.goodReceive c).filtered c f).modCan c fun x => { x with fifo := x.fifo ++ [(((s.goodReceive c).filtered c f).now, f)] }
    else (((s.goodReceive c).filtered c f).bump (canStat c.val 7)).fault 0x0D07 (.ofUnit c.val)
      (at_ 32 0 ((((s.goodReceive c).filtered c f).bump (canStat c.val 7)).nat (canStat c.val 7))) :=
  (if_neg (by rw [hlive]; exact Bool.false_ne_true)).trans (if_neg (by rw [hdata]; exact Bool.false_ne_true))

theorem State.receiveFrame_still (hrec : s.can[c].rec_ = 0) : s.receiveFrame c f =
    if s.can[c].fifo.length < 64 then (s.filtered c f).modCan c fun x => { x with fifo := x.fifo ++ [(s.now, f)] }
    else ((s.filtered c f).bump (canStat c.val 7)).fault 0x0D07 (.ofUnit c.val) (at_ 32 0 (((s.filtered c f).bump (canStat c.val 7)).nat (canStat c.val 7))) := by
  have hgood : s.goodReceive c = s := if_pos (.inr hrec)
  rw [State.receiveFrame_data hlive hdata, hgood, State.filtered_can, State.filtered_now]

end

/-- The counters of a controller, and nothing else but an announcement where it becomes error passive. -/
theorem State.setCounters_announces (s : State) (c : Fin 4) (tec rec_ : Nat) :
    Announces (s.modCan c fun x => { x with tec := tec, rec_ := rec_, state := errorState tec rec_ }) (s.setCounters c tec rec_) := by
  unfold State.setCounters
  dsimp only
  split
  · exact fault_announces _ _ _ _ _
  · exact Announces.refl _

theorem State.receiveFrame_counted (hlive : s.canLive c = true) (hdata : f.remote = false) (hmode : s.can[c].mode = 1) (hpos : 0 < s.can[c].rec_)
    (hrec : s.can[c].rec_ ≤ 127) (hroom : s.can[c].fifo.length < 64) : (s.receiveFrame c f).can[c].rec_ = s.can[c].rec_ - 1
    ∧ (s.receiveFrame c f).can[c].tec = s.can[c].tec ∧ (s.receiveFrame c f).mem = s.mem := by
  have hgood : s.goodReceive c = s.setCounters c s.can[c].tec (s.can[c].rec_ - 1) :=
    (if_neg (by omega)).trans (if_pos hrec)
  have hann := State.setCounters_announces s c s.can[c].tec (s.can[c].rec_ - 1)
  rw [State.receiveFrame_data hlive hdata, hgood]
  generalize s.setCounters c s.can[c].tec (s.can[c].rec_ - 1) = y at hann ⊢
  have hcan : (y.filtered c f).can[c] = { s.can[c] with tec := s.can[c].tec, rec_ := s.can[c].rec_ - 1, state := errorState s.can[c].tec (s.can[c].rec_ - 1) } := by
    rw [State.filtered_can, hann.can]
    exact State.modCan_self _
  rw [if_pos (by rw [hcan]; exact hroom)]
  refine ⟨?_, ?_, ?_⟩
  · rw [State.modCan_self, hcan]
  · rw [State.modCan_self, hcan]
  · exact State.filtered_mem.trans hann.mem

end

/-! ## Sending (R404, R409, R411) -/

section
variable {s : State} {c : Fin 4}

section
variable (h : s.canSends c = false)
include h

theorem State.completeTx_silent (delay : Nat) : s.completeTx c delay = s := if_pos (by rw [h]; rfl)

theorem State.busError_silent (kind tec rec_ : Nat) (receiving : Bool) : s.busError c kind receiving tec rec_ = s := if_pos (by rw [h]; rfl)

end

/-- The attempts that a frame under way may take. -/
def State.attemptLimit (s : State) (c : Fin 4) (b : TxBuf) : Nat := if b.oneShot = true then 0 else s.nat (canObj c.val 0x0E)

/-- A controller whose frame has taken one more attempt. -/
def CanCtl.retried (x : CanCtl) (b : TxBuf) : CanCtl := { x with tx := x.tx.map fun y => if y.index = b.index then { y with attempts := y.attempts + 1 } else y }

section
variable {b : TxBuf} (hway : s.underWay c = some b)
include hway

theorem State.failTx_retries (hlimit : b.attempts + 1 ≤ s.attemptLimit c b) : s.failTx c = s.modCan c (·.retried b) := by
  unfold State.failTx
  rw [hway]
  exact if_neg (Nat.not_lt.mpr hlimit)

theorem State.failTx_discards (hlimit : s.attemptLimit c b < b.attempts + 1) : s.failTx c =
    ((s.modCan c fun x => x.free b.index).bump (canStat c.val 5)).fault 0x0D03 (.ofUnit c.val) (at_ 29 0 b.ident ||| at_ 1 31 (if 0x800 ≤ b.ident then 1 else 0)) := by
  unfold State.failTx
  rw [hway]
  refine (if_pos hlimit).trans ?_
  by_cases hext : 0x800 ≤ b.ident <;> simp [hext, b2n]

section
variable (hsends : s.canSends c = true)
include hsends

theorem State.completeTx_sends {delay : Nat} (htec : s.can[c].tec ≤ 127) (hrec : s.can[c].rec_ ≤ 127)
    (hloop : s.switchesRate c b = false ∨ s.tdcOn c = false ∨ delay ≤ 127) : s.completeTx c delay =
    ((s.modCan c fun x => { x with
        tx := x.tx.filter (fun y => y.index != b.index), onBus := none, tec := x.tec - 1, state := 1
        loopDelay := if s.switchesRate c b = true ∧ s.tdcOn c = true then delay else x.loopDelay }).bump (canStat c.val 4)).emit (.canFrame c.val b.ident b.data) := by
  have hok : ¬ (s.switchesRate c b && s.tdcOn c && decide (127 < delay)) = true := by
    rw [Bool.and_eq_true, Bool.and_eq_true, decide_eq_true_eq]
    rintro ⟨⟨hswitch, htdc⟩, hlong⟩
    obtain h | h | h := hloop
    · exact Bool.false_ne_true (h.symm.trans hswitch)
    · exact Bool.false_ne_true (h.symm.trans htdc)
    · omega
  have hstate : errorState (s.can[c].tec - 1) s.can[c].rec_ = 1 := if_neg (by omega)
  have hmeasured : s.measureLoop c b delay = s.modCan c fun x => { x with loopDelay := if s.switchesRate c b = true ∧ s.tdcOn c = true then delay else x.loopDelay } := by
    unfold State.measureLoop
    by_cases h : s.switchesRate c b = true ∧ s.tdcOn c = true
    · rw [if_pos (by rw [h.1, h.2]; rfl)]
      exact congrArg (s.modCan c) (funext fun x => by rw [if_pos h])
    · rw [if_neg (by simpa using h)]
      unfold State.modCan
      rw [upd_same (by rw [if_neg h])]
  have hcan : (s.measureLoop c b delay).can[c].tec = s.can[c].tec ∧ (s.measureLoop c b delay).can[c].rec_ = s.can[c].rec_ := by
    rw [hmeasured, State.modCan_self]
    exact ⟨rfl, rfl⟩
  have hsent : (s.measureLoop c b delay).sentTx c b = ((((s.measureLoop c b delay).modCan c (·.free b.index)).modCan c fun x =>
      { x with tec := s.can[c].tec - 1, rec_ := s.can[c].rec_, state := 1 }).bump (canStat c.val 4)).emit (.canFrame c.val b.ident b.data) := by
    unfold State.sentTx State.setCounters
    rw [hcan.1, hcan.2, hstate]
    rfl
  unfold State.completeTx
  rw [if_neg (by rw [hsends]; exact Bool.false_ne_true), hway]
  refine (if_neg hok).trans ?_
  rw [hsent, hmeasured, State.modCan_modCan, State.modCan_modCan]
  refine congrArg (fun v => (State.bump { s with can := v } (canStat c.val 4)).emit _) (upd_congr ?_)
  rfl

end

end

/-- What a controller has on its bus does not depend on its counters, its mode or its loop delay. -/
theorem State.underWay_modCan {f : CanCtl → CanCtl} (hbus : (f s.can[c]).onBus = s.can[c].onBus) (htx : (f s.can[c]).tx = s.can[c].tx) :
    (s.modCan c f).underWay c = s.underWay c := by
  have hcurrent : (f s.can[c]).current = s.can[c].current := by
    unfold CanCtl.current
    rw [hbus, htx]
  unfold State.underWay
  rw [State.modCan_self, hbus, hcurrent]
  rfl

theorem State.canSends_modCan {f : CanCtl → CanCtl} (hmode : (f s.can[c]).mode = s.can[c].mode) (hstate : (f s.can[c]).state = s.can[c].state) :
    (s.modCan c f).canSends c = s.canSends c := by
  unfold State.canSends State.canLive State.canOn
  rw [State.modCan_self, hmode, hstate]
  rfl

/-! ## Errors (R413) -/

section
variable {kind tec rec_ : Nat} (hsends : s.canSends c = true)
include hsends

theorem State.busError_counts (htec : tec ≤ 255) (receiving : Bool) :
    s.busError c kind receiving tec rec_ = (if receiving then s else s.failTx c).setCounters c tec rec_ :=
  (if_neg (by rw [hsends]; exact Bool.false_ne_true)).trans (if_neg (Nat.not_lt.mpr htec))

theorem State.busError_off (htec : 255 < tec) (receiving : Bool) : s.busError c kind receiving tec rec_ = s.busOff c kind rec_ :=
  (if_neg (by rw [hsends]; exact Bool.false_ne_true)).trans (if_pos htec)

theorem State.busError_active (htec : tec ≤ 127) (hrec : rec_ ≤ 127) :
    s.busError c kind true tec rec_ = s.modCan c fun x => { x with tec := tec, rec_ := rec_, state := 1 } := by
  have hstate : errorState tec rec_ = 1 := if_neg (by omega)
  rw [State.busError_counts hsends (by omega), if_pos rfl]
  unfold State.setCounters
  rw [hstate]
  rfl

theorem State.busError_passive (htec : tec ≤ 255) (hhigh : 127 < tec ∨ 127 < rec_) (hactive : s.can[c].state = 1) : s.busError c kind true tec rec_ =
    (s.modCan c fun x => { x with tec := tec, rec_ := rec_, state := 2 }).fault 0x0D02 (.ofUnit c.val) (at_ 8 8 tec ||| at_ 8 0 rec_) := by
  have hstate : errorState tec rec_ = 2 := if_pos hhigh
  rw [State.busError_counts hsends htec, if_pos rfl]
  unfold State.setCounters
  rw [hstate]
  exact if_pos ⟨rfl, hactive⟩

/-- A loop delay that is too long: it is kept, the frame takes an attempt and the transmit counter rises. -/
theorem State.completeTx_fails {b : TxBuf} {delay : Nat} (hway : s.underWay c = some b) (hswitch : s.switchesRate c b = true) (htdc : s.tdcOn c = true) (hlong : 127 < delay)
    (htec : s.can[c].tec + 8 ≤ 127) (hrec : s.can[c].rec_ ≤ 127) (hlimit : b.attempts + 1 ≤ s.attemptLimit c b) : ∃ f : Service → Service, s.completeTx c delay =
    ((s.modCan c fun x => { x with loopDelay := delay }).modService f).modCan c fun x => { x.retried b with tec := s.can[c].tec + 8, rec_ := s.can[c].rec_, state := 1 } := by
  have hmeasured : s.measureLoop c b delay = s.modCan c fun x => { x with loopDelay := delay } := if_pos (by rw [hswitch, htdc]; rfl)
  have hstate : errorState (s.can[c].tec + 8) s.can[c].rec_ = 1 := if_neg (by omega)
  obtain ⟨f, hf⟩ : ∃ f : Service → Service, ((s.modCan c fun x => { x with loopDelay := delay }).drawNat 69 8 [(delay : Int)]).2 =
    (s.modCan c fun x => { x with loopDelay := delay }).modService f := ⟨_, State.drawNat_draws ..⟩
  have hagain : ((s.modCan c fun x => { x with loopDelay := delay }).modService f).canSends c = true := (State.canSends_modCan rfl rfl).trans hsends
  have hstill : ((s.modCan c fun x => { x with loopDelay := delay }).modService f).underWay c = some b := (State.underWay_modCan rfl rfl).trans hway
  have hfails := State.failTx_retries hstill hlimit
  refine ⟨f, ?_⟩
  unfold State.completeTx
  rw [if_neg (by rw [hsends]; exact Bool.false_ne_true), hway]
  dsimp only
  rw [if_pos (by rw [hswitch, htdc, decide_eq_true hlong]; rfl), hmeasured, hf, State.busError_counts hagain (by omega), if_neg Bool.false_ne_true, hfails]
  unfold State.setCounters
  rw [hstate]
  exact (if_neg fun hpassive => absurd hpassive.1 (by decide)).trans (State.modCan_modCan _ _)

end

end

/-! ## The levels of a schedule (R419) -/

section
variable {s : State} {c : Fin 2}

theorem State.modTt_self (f : TtCan → TtCan) : (s.modTt c f).tt[c] = f s.tt[c] := upd_getElem_self _ _ _

theorem State.setLevel_announces {level : Nat} (cause : Nat) (h : s.tt[c].level ≠ level) :
    Announces (s.modTt c fun x => { x with level := level, cleanCycles := 0, goodRefs := 0 }) (s.setLevel c level cause) := by
  unfold State.setLevel
  rw [if_neg h]
  exact fault_announces _ _ _ _ _

/-- The schedule in S3 for a cause, but for the announcement. -/
def State.intoS3 (s : State) (c : Fin 2) (cause : Nat) : State :=
  (s.modTt c fun x => { x with s3 := cause, causeGone := false, leaveS3 := false, arbUntil := false, merged := false, level := 3, cleanCycles := 0, goodRefs := 0 }).modCan
    (ttCtl c) fun x => { x with onBus := none }

theorem State.enterS3_eq (cause : Nat) (h : s.tt[c].level ≠ 3) : s.enterS3 c cause = (s.intoS3 c cause).fault 0x0D04 (.ofUnit c.val) (at_ 8 8 cause ||| at_ 8 0 3) := by
  have hlevel : ((s.modTt c fun x => { x with s3 := cause, causeGone := false, leaveS3 := false, arbUntil := false, merged := false }).modCan (ttCtl c)
      fun x => { x with onBus := none }).tt[c].level ≠ 3 := by
    rw [State.modCan_tt, State.modTt_self]
    exact h
  unfold State.enterS3 State.setLevel
  rw [if_neg h, if_neg hlevel]
  refine congrArg (State.fault · 0x0D04 (.ofUnit c.val) (at_ 8 8 cause ||| at_ 8 0 3)) ?_
  unfold State.intoS3 State.modCan State.modTt
  dsimp only
  rw [upd_upd]

theorem State.enterS3_announces (cause : Nat) (h : s.tt[c].level ≠ 3) : Announces (s.intoS3 c cause) (s.enterS3 c cause) := by
  rw [State.enterS3_eq cause h]
  exact fault_announces _ _ _ _ _

theorem State.intoS3_tt (cause : Nat) : (s.intoS3 c cause).tt[c] =
    { s.tt[c] with s3 := cause, causeGone := false, leaveS3 := false, arbUntil := false, merged := false, level := 3, cleanCycles := 0, goodRefs := 0 } :=
  State.modTt_self _

theorem State.intoS3_can (cause : Nat) : (s.intoS3 c cause).can[ttCtl c] = { s.can[ttCtl c] with onBus := none } := State.modCan_self _

/-- What the controller's service and its schedule rest on. -/
theorem State.ttOn_congr {u : State} (hmode : u.nat (ttObj c.val 1) = s.nat (ttObj c.val 1)) (hflag : u.nat (canObj (ttCtl c).val 1) = s.nat (canObj (ttCtl c).val 1))
    (hcan : u.can[ttCtl c].mode = s.can[ttCtl c].mode) : u.ttOn c = s.ttOn c := by
  unfold State.ttOn State.canOn State.flag
  rw [hmode, hflag, hcan]

end

/-- A controller that sends serves its bus, so its schedule runs where it has one. -/
theorem State.ttOn_of_canSends {s : State} {c : Fin 4} (h : c.val < 2) (hmode : s.nat (ttObj c.val 1) ≠ 0) (hsends : s.canSends c = true) :
    s.ttOn ⟨c.val, h⟩ = true := by
  unfold State.canSends State.canLive at hsends
  rw [Bool.and_eq_true, Bool.and_eq_true] at hsends
  obtain ⟨⟨hon, -⟩, -⟩ := hsends
  unfold State.ttOn
  rw [Bool.and_eq_true]
  exact ⟨bne_iff_ne.mpr hmode, hon⟩

/-! ## Bus-off and the return from it (R413) -/

section
variable {s : State} {c : Fin 4}

/-- A controller in bus-off, and its count. -/
def State.offBus (s : State) (c : Fin 4) (rec_ : Nat) : State :=
  (s.modCan c fun x => { x with state := 3, tec := 255, rec_ := rec_, tx := [], onBus := none }).bump (canStat c.val 9)

theorem State.busOff_plain (h : 2 ≤ c.val) (kind rec_ : Nat) : s.busOff c kind rec_ = (s.offBus c rec_).fault 0x0D01 (.ofUnit c.val) (at_ 8 8 rec_ ||| at_ 8 0 kind) :=
  dif_neg (Nat.not_lt.mpr h)

theorem State.busOff_scheduled (h : c.val < 2) (kind rec_ : Nat) (hon : s.ttOn ⟨c.val, h⟩ = true) (hlevel : s.tt[(⟨c.val, h⟩ : Fin 2)].level ≠ 3) :
    (s.busOff c kind rec_).can[c].state = 3 ∧ (s.busOff c kind rec_).can[c].tx = [] ∧ (s.busOff c kind rec_).tt[(⟨c.val, h⟩ : Fin 2)].level = 3
    ∧ (s.busOff c kind rec_).tt[(⟨c.val, h⟩ : Fin 2)].s3 = 5 ∧ (s.busOff c kind rec_).mem = s.mem ∧ (s.busOff c kind rec_).launch = s.launch := by
  have hfault := fault_announces (s.offBus c rec_) 0x0D01 (.ofUnit c.val) (at_ 8 8 rec_ ||| at_ 8 0 kind) 0
  have hwhole : s.busOff c kind rec_ = (if ((s.offBus c rec_).fault 0x0D01 (.ofUnit c.val) (at_ 8 8 rec_ ||| at_ 8 0 kind)).ttOn ⟨c.val, h⟩ then
      ((s.offBus c rec_).fault 0x0D01 (.ofUnit c.val) (at_ 8 8 rec_ ||| at_ 8 0 kind)).enterS3 ⟨c.val, h⟩ 5
    else (s.offBus c rec_).fault 0x0D01 (.ofUnit c.val) (at_ 8 8 rec_ ||| at_ 8 0 kind)) := dif_pos h
  rw [hwhole]
  generalize (s.offBus c rec_).fault 0x0D01 (.ofUnit c.val) (at_ 8 8 rec_ ||| at_ 8 0 kind) = y at hfault ⊢
  have hdropped : y.can[c] = { s.can[c] with state := 3, tec := 255, rec_ := rec_, tx := [], onBus := none } := by
    rw [hfault.can]
    exact State.modCan_self _
  have hmode : y.can[c].mode = s.can[c].mode := by rw [hdropped]
  have hstill : y.ttOn ⟨c.val, h⟩ = true := by
    rw [State.ttOn_congr (s := s) (u := y), hon]
    · exact (hfault.nat (ttObj_quiet ⟨c.val, h⟩ 1)).trans (State.nat_bump_other _ (ttObj_ne_canStat ⟨c.val, h⟩ c))
    · exact (hfault.nat (canObj_quiet c 1)).trans (State.nat_bump_other _ (canObj_ne_canStat c c))
    · exact hmode
  have hlower : y.tt[(⟨c.val, h⟩ : Fin 2)].level ≠ 3 := by
    rw [hfault.tt]
    exact hlevel
  have hs3 := State.enterS3_announces 5 hlower
  rw [if_pos hstill]
  have hcan : (y.enterS3 ⟨c.val, h⟩ 5).can[c] = { y.can[c] with onBus := none } := by
    rw [hs3.can]
    exact State.intoS3_can (c := ⟨c.val, h⟩) 5
  have htt : (y.enterS3 ⟨c.val, h⟩ 5).tt[(⟨c.val, h⟩ : Fin 2)] = _ := (congrArg (·[(⟨c.val, h⟩ : Fin 2)]) hs3.tt).trans (State.intoS3_tt (c := ⟨c.val, h⟩) 5)
  refine ⟨?_, ?_, ?_, ?_, ?_, ?_⟩
  · rw [hcan, hdropped]
  · rw [hcan, hdropped]
  · rw [htt]
  · rw [htt]
  · exact hs3.mem.trans hfault.mem
  · exact hs3.launch.trans hfault.launch

end

/-! ## The recovery command, 0x2310:0F to 0x2313:0F -/

theorem rowOf_recovery (c : Fin 4) : rowOf (ob (0x2310 + c.val) 0x0F) = some ⟨0x2310, 0x2313, 0x0F, 0x0F, .u 8, .wo, .int 0, .oneOf [1], .instant⟩ := by
  revert c
  decide +kernel

/-- The recovery command's objects act at once, and are in none of the groups of objects that a write treats on their own. -/
theorem recovery_keyFacts (c : Fin 4) : ¬ (0x2240 ≤ ob (0x2310 + c.val) 0x0F / 256 ∧ ob (0x2310 + c.val) 0x0F / 256 ≤ 0x224B) ∧ ob (0x2310 + c.val) 0x0F ≠ ob 0x2020 4
    ∧ immediateKey (ob (0x2310 + c.val) 0x0F) = false ∧ clsOf (ob (0x2310 + c.val) 0x0F) = .instant ∧ commandKey (ob (0x2310 + c.val) 0x0F) = true
    ∧ windowKey (ob (0x2310 + c.val) 0x0F) = false ∧ boundedKeys.contains (ob (0x2310 + c.val) 0x0F) = false := by
  revert c
  decide +kernel

section
variable {s : State} {ses : Session} {g : Given} {c : Fin 4}

theorem State.rangeOk_recovery (s : State) (c : Fin 4) : s.rangeOk (ob (0x2310 + c.val) 0x0F) = true := by fin_cases c <;> rfl

theorem State.submitRefused_recovery (s : State) (c : Fin 4) (n : Nat) : s.submitRefused (ob (0x2310 + c.val) 0x0F) n = none := by fin_cases c <;> rfl

theorem State.refusalOf_recovery (s x : State) (c : Fin 4) (n : Nat) : s.refusalOf x (ob (0x2310 + c.val) 0x0F) n = if s.recoveryRefused c then 0x08000022 else 0 := by
  fin_cases c <;> rfl

theorem State.serveWrite_recoveryRefused (h : s.recoveryRefused c = true) :
    s.serveWrite ses (writeItem (ob (0x2310 + c.val) 0x0F) (.int (1 : Nat))) g = (s, .now 0x08000022 [], 0, []) := by
  obtain ⟨hbus, hses, -⟩ := recovery_keyFacts c
  rw [State.serveWrite_num s ses _ _ (.int (1 : Nat)) g (rowOf_recovery c) (.inr rfl) hbus (by rw [beq_eq_false_iff_ne.mpr hses]; exact Bool.and_false _) (by simp) (Ty.decode_encode_u (w := 8) rfl rfl) rfl]
  unfold State.writeChecked
  dsimp only
  rw [State.rangeOk_recovery, if_neg (by decide), State.submitRefused_recovery]
  dsimp only
  rw [State.refusalOf_recovery, h]
  rfl

theorem State.serveWrite_recovers (hallowed : s.recoveryRefused c = false) (howner : s.commit.owner = none) (hgroup : s.commit.group = none) (himpl : s.commit.implicit = [])
    (hrun : s.launch.run = none) (hchecks : s.takeIdent.firstFailing [(ob (0x2310 + c.val) 0x0F, .int (1 : Nat))] = none) :
    s.serveWrite ses (writeItem (ob (0x2310 + c.val) 0x0F) (.int (1 : Nat))) g = (s.committed.recover c, .now 0 [], 0, []) := by
  obtain ⟨hbus, hses, himm, hcls, hcmd, hwin, hbound⟩ := recovery_keyFacts c
  have hact : s.committed.act (ob (0x2310 + c.val) 0x0F) (.int (1 : Nat)) s.now g = s.committed.recover c := by fin_cases c <;> rfl
  have hstill : (s.committed.recover c).running = false := by
    have hlaunch : (s.committed.recover c).launch = s.committed.launch := by
      unfold State.recover
      repeat' split
      all_goals rfl
    exact (congrArg (fun l : Launch => l.run.isSome) hlaunch).trans (congrArg Option.isSome hrun)
  have hrefusal : s.refusalOf (s.withWrite ses (ob (0x2310 + c.val) 0x0F) (.int (1 : Nat))) (ob (0x2310 + c.val) 0x0F) ((Val.int (1 : Nat)).num.toNat) = 0 := by
    rw [State.refusalOf_recovery, hallowed]
    rfl
  exact State.serveWrite_command (rowOf_recovery c) (.inr rfl) (w := 8) rfl rfl rfl rfl hbus hses (State.rangeOk_recovery _ c) (State.submitRefused_recovery s c _)
    hrefusal (by fin_cases c <;> rfl) himm hcls hcmd hwin (by fin_cases c <;> exact fun _ _ => rfl) hbound howner hgroup himpl hrun hchecks hact hstill

/-! What the recovery command does. -/

theorem State.recover_starts (h : s.can[c].state = 3) : s.recover c = s.modCan c fun x => { x with state := 4 } := if_pos h

theorem State.recover_under_way (h : s.can[c].state = 4) : s.recover c = s := (if_neg (by omega)).trans (if_pos h)

theorem State.recover_returns (hlive : s.can[c].state < 3) (h : c.val < 2) (hlevel : s.tt[(⟨c.val, h⟩ : Fin 2)].level = 3) :
    s.recover c = s.modTt ⟨c.val, h⟩ fun x => { x with leaveS3 := true } :=
  (if_neg (by omega)).trans ((if_neg (by omega)).trans ((dif_pos h).trans (if_pos hlevel)))

theorem State.recoveryRefused_off (h : 3 ≤ s.can[c].state) : s.recoveryRefused c = false := if_pos h

theorem State.recoveryRefused_plain (hlive : s.can[c].state < 3) (h : 2 ≤ c.val) : s.recoveryRefused c = true :=
  (if_neg (Nat.not_le.mpr hlive)).trans (dif_neg (Nat.not_lt.mpr h))

theorem State.recoveryRefused_scheduled (hlive : s.can[c].state < 3) (h : c.val < 2) : s.recoveryRefused c =
    !(s.tt[(⟨c.val, h⟩ : Fin 2)].level == 3 && (s.tt[(⟨c.val, h⟩ : Fin 2)].causeGone || s.tt[(⟨c.val, h⟩ : Fin 2)].s3 == 5)) :=
  (if_neg (Nat.not_le.mpr hlive)).trans (dif_pos h)

/-! The end of the recovery. -/

theorem State.recovered_not (h : s.can[c].state ≠ 4) : s.recovered c = s := if_pos h

theorem State.recovered_plain (h : s.can[c].state = 4) (hc : 2 ≤ c.val) : s.recovered c = s.modCan c fun x => { x with state := 1, tec := 0, rec_ := 0 } :=
  (if_neg (not_not_intro h)).trans (dif_neg (Nat.not_lt.mpr hc))

theorem State.recovered_scheduled (h : s.can[c].state = 4) (hc : c.val < 2) : s.recovered c =
    (s.modCan c fun x => { x with state := 1, tec := 0, rec_ := 0 }).modTt ⟨c.val, hc⟩ fun x => { x with leaveS3 := x.leaveS3 || x.level == 3 } :=
  (if_neg (not_not_intro h)).trans (dif_pos hc)

end

end Sys2Proof.Machine

namespace Sys2Proof

open Machine

section
variable {s : State} {ses : Session} {t : Nat} {c : Fin 4} (h : WritesAct s ses)
include h

theorem recoveryCommand_refused (hrefused : s.recoveryRefused c = true) : RefusedWith (.recoveryCommand t ses c) s ses 0x08000022 (Books (s.advance t)) := by
  refine refusedWith_of_serveWrite (x := s.advance t) rfl (h.toServerFree.advance t) ?_ (Books.refl _) rfl
  rw [h.touchGroup t]
  exact State.serveWrite_recoveryRefused (s := (s.advance t).serving ses _ {}) hrefused

/-- The recovery command where it is not refused, with what it does. -/
theorem recoveryCommand_served (hallowed : s.recoveryRefused c = false) (hchecks : ChecksPass s t (ob (0x2310 + c.val) 0x0F) (.int 1)) (g : State → State)
    (hserving : ∀ (x : State) (f : Server → Server), g (x.modServer f) = (g x).modServer f) (hbooks : Books (g (s.advance t)) (g (s.advance t).committed))
    (hserver : ∀ x : State, (g x).server = x.server)
    (hrecover : ((s.advance t).serving ses (writeItem (ob (0x2310 + c.val) 0x0F) (.int (1 : Nat))) {}).committed.recover c =
      g ((s.advance t).serving ses (writeItem (ob (0x2310 + c.val) 0x0F) (.int (1 : Nat))) {}).committed) :
    ServedWith (.recoveryCommand t ses c) s ses (Books (g (s.advance t))) := by
  refine commandWrite_served h rfl g hserving hbooks hserver ?_
  exact (State.serveWrite_recovers (s := (s.advance t).serving ses _ {}) hallowed h.owner h.group h.implicit h.run ((State.firstFailing_serving ..).trans hchecks)).trans
    (congrArg (·, Served.now 0 [], 0, []) hrecover)

theorem recoveryCommand_starts (hoff : s.can[c].state = 3) (hchecks : ChecksPass s t (ob (0x2310 + c.val) 0x0F) (.int 1)) :
    ServedWith (.recoveryCommand t ses c) s ses (Books ((s.advance t).modCan c fun x => { x with state := 4 })) := by
  have hbooks := h.committed t
  refine recoveryCommand_served h (State.recoveryRefused_off (by omega)) hchecks (·.modCan c fun x => { x with state := 4 }) (fun _ _ => rfl)
    ⟨(congrArg (State.modCan · c fun x => { x with state := 4 }) hbooks.1).trans rfl, hbooks.2⟩ (fun _ => rfl) ?_
  exact State.recover_starts (s := ((s.advance t).serving ses _ {}).committed) hoff

theorem recoveryCommand_ignored (hrecovering : s.can[c].state = 4) (hchecks : ChecksPass s t (ob (0x2310 + c.val) 0x0F) (.int 1)) :
    ServedWith (.recoveryCommand t ses c) s ses (Books (s.advance t)) := by
  refine recoveryCommand_served h (State.recoveryRefused_off (by omega)) hchecks id (fun _ _ => rfl) (h.committed t) (fun _ => rfl) ?_
  exact State.recover_under_way (s := ((s.advance t).serving ses _ {}).committed) hrecovering

theorem recoveryCommand_returns (hlive : s.can[c].state < 3) (hc : c.val < 2) (hlevel : s.tt[(⟨c.val, hc⟩ : Fin 2)].level = 3)
    (hgone : s.tt[(⟨c.val, hc⟩ : Fin 2)].causeGone = true) (hchecks : ChecksPass s t (ob (0x2310 + c.val) 0x0F) (.int 1)) :
    ServedWith (.recoveryCommand t ses c) s ses (Books ((s.advance t).modTt ⟨c.val, hc⟩ fun y => { y with leaveS3 := true })) := by
  have hbooks := h.committed t
  have hallowed : s.recoveryRefused c = false := by
    rw [State.recoveryRefused_scheduled hlive hc, hlevel, hgone]
    rfl
  refine recoveryCommand_served h hallowed hchecks (·.modTt ⟨c.val, hc⟩ fun y => { y with leaveS3 := true }) (fun _ _ => rfl)
    ⟨(congrArg (State.modTt · ⟨c.val, hc⟩ fun y => { y with leaveS3 := true }) hbooks.1).trans rfl, hbooks.2⟩ (fun _ => rfl) ?_
  exact State.recover_returns (s := ((s.advance t).serving ses _ {}).committed) hlive hc hlevel

end

/-- Settles O34: the receive path by `State.receiveFrame_still`, the transmit path by the frame under way, errors by the counters that they leave, the recovery by the controller's state. -/
theorem canControllersReceiveSendAndRecover : Obligations.CanControllersReceiveSendAndRecover := by
  intro s t c
  refine ⟨fun f => ⟨fun hdeaf => ?_, fun hlive hremote => ?_, fun hlive hdata hrec => ⟨fun hc hroom => ?_, fun hc hfull => ?_, fun hc hroom => ?_⟩,
      fun hlive hdata hmode hpos hrec hroom => ?_⟩,
    fun hsilent => ⟨fun delay => ?_, ?_, fun kind tec rec_ receiving => ?_⟩,
    fun b hsends hway => ⟨fun delay htec hrec hloop => ?_, fun delay hswitch htdc hlong htec hrec hlimit => ?_, fun hlimit => ?_, fun hlimit => ?_⟩, rfl,
    fun kind tec rec_ hsends => ⟨fun htec hrec => ?_, fun htec hhigh hactive => ?_, fun receiving htec => ⟨fun hc => ?_, fun hc hmode hlevel => ?_⟩⟩,
    fun ses hacts => ⟨recoveryCommand_starts hacts, recoveryCommand_ignored hacts, fun hlive => ⟨fun hc => ?_, fun hc => ?_⟩⟩,
    fun hnot => ?_, fun hrecovering => ⟨fun hc => ?_, fun hc => ?_⟩⟩
  · exact congrArg Host.Outcome.next (State.receiveFrame_deaf (s := s.advance t) hdeaf)
  · exact congrArg Host.Outcome.next (State.receiveFrame_remote (s := s.advance t) hlive hremote)
  · refine congrArg Host.Outcome.next ((State.receiveFrame_still (s := s.advance t) hlive hdata hrec).trans ((if_pos hroom).trans ?_))
    rw [State.filtered_other hc]
    rfl
  · refine congrArg Host.Outcome.next ((State.receiveFrame_still (s := s.advance t) hlive hdata hrec).trans ((if_neg (Nat.not_lt.mpr hfull)).trans ?_))
    rw [State.filtered_other hc]
  · refine ⟨_, congrArg Host.Outcome.next ((State.receiveFrame_still (s := s.advance t) hlive hdata hrec).trans (if_pos hroom)), ?_, ?_, ?_⟩
    · rw [State.modCan_self, State.filtered_can]
      rfl
    · exact State.filtered_received (s := s.advance t) hc
    · rw [State.filtered_eq]
      rfl
  · exact ⟨_, rfl, State.receiveFrame_counted (s := s.advance t) hlive hdata hmode hpos hrec hroom⟩
  · exact congrArg Host.Outcome.next (State.completeTx_silent (s := s.advance t) hsilent delay)
  · exact congrArg Host.Outcome.next (if_neg (by rw [show (s.advance t).canSends c = false from hsilent]; exact Bool.false_ne_true))
  · exact congrArg Host.Outcome.next (State.busError_silent (s := s.advance t) hsilent kind tec rec_ receiving)
  · exact congrArg Host.Outcome.next (State.completeTx_sends (s := s.advance t) hway hsends htec hrec hloop)
  · obtain ⟨f, hfails⟩ := State.completeTx_fails (s := s.advance t) hsends hway hswitch htdc hlong htec hrec hlimit
    have hcan : (((s.advance t).modCan c fun x => { x with loopDelay := delay }).modService f).can[c] = { s.can[c] with loopDelay := delay } :=
      State.modCan_self (s := s.advance t) _
    refine ⟨_, congrArg Host.Outcome.next hfails, ?_, ?_, ?_, ?_, rfl, rfl, rfl⟩
    · rw [State.modCan_self, hcan]
      rfl
    · rw [State.modCan_self]
      rfl
    · rw [State.modCan_self]
      rfl
    · rw [State.modCan_self, hcan]
      rfl
  · exact congrArg Host.Outcome.next ((if_pos hsends).trans (State.failTx_retries (s := s.advance t) hway hlimit))
  · exact congrArg Host.Outcome.next ((if_pos hsends).trans (State.failTx_discards (s := s.advance t) hway hlimit))
  · exact congrArg Host.Outcome.next (State.busError_active (s := s.advance t) hsends htec hrec)
  · exact congrArg Host.Outcome.next (State.busError_passive (s := s.advance t) hsends htec hhigh hactive)
  · exact congrArg Host.Outcome.next ((State.busError_off (s := s.advance t) hsends htec receiving).trans (State.busOff_plain hc kind rec_))
  · have hon : (s.advance t).ttOn ⟨c.val, hc⟩ = true := State.ttOn_of_canSends (s := s.advance t) hc hmode hsends
    exact ⟨_, congrArg Host.Outcome.next (State.busError_off (s := s.advance t) hsends htec receiving), State.busOff_scheduled (s := s.advance t) hc kind rec_ hon hlevel⟩
  · exact recoveryCommand_refused hacts (State.recoveryRefused_plain hlive hc)
  · refine ⟨fun hstays => recoveryCommand_refused hacts ?_, fun hlevel hgone hchecks => recoveryCommand_returns hacts hlive hc hlevel hgone hchecks⟩
    rw [State.recoveryRefused_scheduled hlive hc]
    obtain hlevel | ⟨hcause, hs3⟩ := hstays
    · simp [hlevel, -Fin.getElem_fin]
    · simp [hcause, hs3, -Fin.getElem_fin]
  · exact congrArg Host.Outcome.next (State.recovered_not (s := s.advance t) hnot)
  · exact congrArg Host.Outcome.next (State.recovered_plain (s := s.advance t) hrecovering hc)
  · exact congrArg Host.Outcome.next (State.recovered_scheduled (s := s.advance t) hrecovering hc)

end Sys2Proof

/-!
Time-triggered CAN: cycles, reference messages and levels (O35).
-/

namespace Sys2Proof.Machine

/-! ## What the schedule's events leave as it was -/

/-- Memories, launch and the pending buffers of the controller of schedule c. -/
def State.aside (s : State) (c : Fin 2) : Mem × Launch × List TxBuf := (s.mem, s.launch, s.can[ttCtl c].tx)

end Sys2Proof.Machine

namespace Sys2Proof

open Machine

theorem Announces.aside {s u : State} {c : Fin 2} (h : Announces s u) : u.aside c = s.aside c := by
  unfold State.aside
  rw [h.mem, h.launch, h.can]

end Sys2Proof

namespace Sys2Proof.Machine

section
variable {s : State} {c : Fin 2}

theorem State.modTt_aside (f : TtCan → TtCan) : (s.modTt c f).aside c = s.aside c := rfl

theorem State.setLevel_aside (level cause : Nat) : (s.setLevel c level cause).aside c = s.aside c := by
  by_cases h : s.tt[c].level = level
  · rw [State.setLevel, if_pos h]
  · exact (State.setLevel_announces cause h).aside

theorem State.intoS3_aside (cause : Nat) : (s.intoS3 c cause).aside c = s.aside c := by
  unfold State.aside
  rw [State.intoS3_can]
  rfl

theorem State.enterS3_aside (cause : Nat) : (s.enterS3 c cause).aside c = s.aside c := by
  by_cases h : s.tt[c].level = 3
  · rw [State.enterS3, if_pos h]
  · exact (State.enterS3_announces cause h).aside.trans (State.intoS3_aside cause)

/-! ## The levels (R419) -/

/-- A schedule back in S0. -/
def TtCan.cleared (x : TtCan) : TtCan := { x with s3 := 0, causeGone := false, leaveS3 := false, level := 0, cleanCycles := 0, goodRefs := 0 }

theorem State.clearLevel_none (h : s.tt[c].level = 0) : s.clearLevel c = s := if_pos h

/-- The level is cleared with a free cause in its announcement. -/
theorem State.clearLevel_announces (h : s.tt[c].level ≠ 0) : ∃ f : Service → Service, Announces ((s.modService f).modTt c TtCan.cleared) (s.clearLevel c) := by
  refine ⟨fun v => { v with entropy := v.entropy + 1 }, ?_⟩
  have hlevel : ((s.modService fun v => { v with entropy := v.entropy + 1 }).modTt c fun x => { x with s3 := 0, causeGone := false, leaveS3 := false }).tt[c].level ≠ 0 := by
    rw [State.modTt_self]
    exact h
  have hann := State.setLevel_announces (s.drawNat 33 8 []).1 hlevel
  have htwo : (((s.modService fun v => { v with entropy := v.entropy + 1 }).modTt c fun x => { x with s3 := 0, causeGone := false, leaveS3 := false }).modTt c
      fun x => { x with level := 0, cleanCycles := 0, goodRefs := 0 }) = (s.modService fun v => { v with entropy := v.entropy + 1 }).modTt c TtCan.cleared := by
    unfold State.modTt
    dsimp only
    rw [upd_upd]
    rfl
  rw [htwo] at hann
  unfold State.clearLevel
  rw [if_neg h]
  exact hann

theorem State.clearLevel_tt (h : s.tt[c].level ≠ 0) : (s.clearLevel c).tt[c] = s.tt[c].cleared := by
  obtain ⟨f, hann⟩ := State.clearLevel_announces h
  rw [hann.tt]
  exact State.modTt_self _

theorem State.clearLevel_level : (s.clearLevel c).tt[c].level = 0 := by
  by_cases h : s.tt[c].level = 0
  · rw [State.clearLevel_none h, h]
  · rw [State.clearLevel_tt h]
    rfl

theorem State.clearLevel_aside : (s.clearLevel c).aside c = s.aside c := by
  by_cases h : s.tt[c].level = 0
  · rw [State.clearLevel_none h]
  · obtain ⟨f, hann⟩ := State.clearLevel_announces h
    exact hann.aside

/-! ## The judgement of the cycle that ends -/

/-- The cycle's reference message, or its absence, is counted. -/
def TtCan.judged (x : TtCan) : TtCan :=
  { x with missing := if x.sawRef then 0 else x.missing + 1, goodRefs := if x.sawRef then x.goodRefs + 1 else 0, sawRef := false }

/-- The cycle's errors are counted. -/
def TtCan.cleaned (x : TtCan) : TtCan := { x with cleanCycles := if x.erred then 0 else x.cleanCycles + 1, erred := false }

theorem State.judgeReference_eq : s.judgeReference c =
    if (s.modTt c TtCan.judged).tt[c].level < 2 ∧ 2 ≤ (s.modTt c TtCan.judged).tt[c].missing then (s.modTt c TtCan.judged).setLevel c 2 3
    else if (s.modTt c TtCan.judged).tt[c].level = 2 ∧ 2 ≤ (s.modTt c TtCan.judged).tt[c].goodRefs then (s.modTt c TtCan.judged).clearLevel c
    else s.modTt c TtCan.judged := by
  have hjudged : (s.modTt c fun x => { x with missing := if s.tt[c].sawRef then 0 else x.missing + 1, goodRefs := if s.tt[c].sawRef then x.goodRefs + 1 else 0, sawRef := false }) =
      s.modTt c TtCan.judged := congrArg (fun v => ({ s with tt := v } : State)) (upd_congr rfl)
  unfold State.judgeReference
  dsimp only
  rw [hjudged]

/-- With a reference message, out of S2, the message is counted. -/
theorem State.judgeReference_counts (hsaw : s.tt[c].sawRef = true) (hlevel : s.tt[c].level ≠ 2) : s.judgeReference c = s.modTt c TtCan.judged := by
  have hmissing : ¬ (s.tt[c].judged.level < 2 ∧ 2 ≤ s.tt[c].judged.missing) := by
    simp [TtCan.judged, hsaw, -Fin.getElem_fin]
  rw [State.judgeReference_eq, State.modTt_self, if_neg hmissing, if_neg fun h => hlevel h.1]

theorem State.judgeReference_loses (hsaw : s.tt[c].sawRef = false) (hlevel : s.tt[c].level < 2) (hmissing : 1 ≤ s.tt[c].missing) :
    (s.judgeReference c).tt[c].level = 2 := by
  have htwice : s.tt[c].judged.level < 2 ∧ 2 ≤ s.tt[c].judged.missing := ⟨hlevel, by simp [TtCan.judged, hsaw, -Fin.getElem_fin]; omega⟩
  have hlower : (s.modTt c TtCan.judged).tt[c].level ≠ 2 := by
    rw [State.modTt_self]
    exact Nat.ne_of_lt hlevel
  rw [State.judgeReference_eq, State.modTt_self, if_pos htwice, (State.setLevel_announces 3 hlower).tt, State.modTt_self]

theorem State.judgeReference_returns (hsaw : s.tt[c].sawRef = true) (hlevel : s.tt[c].level = 2) (hgood : 1 ≤ s.tt[c].goodRefs) :
    (s.judgeReference c).tt[c].level = 0 := by
  have hgoods : s.tt[c].judged.level = 2 ∧ 2 ≤ s.tt[c].judged.goodRefs := ⟨hlevel, by simp [TtCan.judged, hsaw, -Fin.getElem_fin]; omega⟩
  rw [State.judgeReference_eq, State.modTt_self, if_neg (fun h => absurd h.1 (by rw [hgoods.1]; decide)), if_pos hgoods, State.clearLevel_level]

theorem State.judgeReference_level : (s.judgeReference c).tt[c].level = s.tt[c].level ∨ (s.judgeReference c).tt[c].level = 2 ∨ (s.judgeReference c).tt[c].level = 0 := by
  rw [State.judgeReference_eq]
  split
  · rename_i hloses
    have hlower : (s.modTt c TtCan.judged).tt[c].level ≠ 2 := Nat.ne_of_lt hloses.1
    have hset : ((s.modTt c TtCan.judged).setLevel c 2 3).tt[c] = _ := (congrArg (·[c]) (State.setLevel_announces 3 hlower).tt).trans (State.modTt_self _)
    exact .inr (.inl (congrArg TtCan.level hset))
  · split
    · exact .inr (.inr State.clearLevel_level)
    · rw [State.modTt_self]
      exact .inl rfl

theorem State.judgeReference_aside : (s.judgeReference c).aside c = s.aside c := by
  rw [State.judgeReference_eq]
  split
  · exact State.setLevel_aside 2 3
  · split
    · exact State.clearLevel_aside
    · rfl

theorem State.judgeClean_eq : s.judgeClean c =
    if (s.modTt c TtCan.cleaned).tt[c].level = 1 ∧ 4 ≤ (s.modTt c TtCan.cleaned).tt[c].cleanCycles then (s.modTt c TtCan.cleaned).clearLevel c
    else s.modTt c TtCan.cleaned := rfl

theorem State.judgeClean_counts (hlevel : s.tt[c].level ≠ 1) : s.judgeClean c = s.modTt c TtCan.cleaned := by
  rw [State.judgeClean_eq, State.modTt_self, if_neg fun h => hlevel h.1]

theorem State.judgeClean_returns (hlevel : s.tt[c].level = 1) (herr : s.tt[c].erred = false) (hclean : 3 ≤ s.tt[c].cleanCycles) :
    (s.judgeClean c).tt[c].level = 0 := by
  have hcleans : s.tt[c].cleaned.level = 1 ∧ 4 ≤ s.tt[c].cleaned.cleanCycles := ⟨hlevel, by simp [TtCan.cleaned, herr, -Fin.getElem_fin]; omega⟩
  rw [State.judgeClean_eq, State.modTt_self, if_pos hcleans, State.clearLevel_level]

theorem State.judgeClean_level : (s.judgeClean c).tt[c].level = s.tt[c].level ∨ (s.judgeClean c).tt[c].level = 0 := by
  rw [State.judgeClean_eq]
  split
  · exact .inr State.clearLevel_level
  · rw [State.modTt_self]
    exact .inl rfl

theorem State.judgeClean_aside : (s.judgeClean c).aside c = s.aside c := by
  rw [State.judgeClean_eq]
  split
  · exact State.clearLevel_aside
  · rfl

/-! ## The reference message (R418) -/

/-- The reference message that the device sends now. -/
def State.reference (s : State) (c : Fin 2) (disc : Bool) : Output :=
  .canFrame c.val (s.nat (ttObj c.val 7)) (if s.nat (ttObj c.val 1) = 2 then
    leBytes 1 (s.masterCycle c s.now) ++ leBytes 1 (s.masterMark c s.now % 8 * 32 + if disc = true then 1 else 0) ++ leBytes 2 (s.masterMark c s.now / 8)
  else leBytes 1 (s.masterCycle c s.now))

/-- The schedule of a master that has sent its reference message. -/
def TtCan.referred (x : TtCan) (cycle : Nat) (mark : Option Nat) (now : Nat) : TtCan :=
  { x with cycle := cycle, refMark := mark.getD x.refMark, refWeft := now, sawRef := true, missing := 0 }

theorem State.sendReference_eq (disc : Bool) : ∃ mark : Option Nat, s.sendReference c disc =
    (s.emit (s.reference c disc)).modTt c (·.referred (s.masterCycle c s.now) mark s.now) := by
  by_cases htwo : s.nat (ttObj c.val 1) = 2
  · refine ⟨some (s.masterMark c s.now), ?_⟩
    unfold State.sendReference State.reference TtCan.referred
    simp [htwo, b2n]
  · refine ⟨none, ?_⟩
    unfold State.sendReference State.reference TtCan.referred
    simp [htwo]

theorem State.sendReference_aside (disc : Bool) : (s.sendReference c disc).aside c = s.aside c := rfl

/-- The reference message rests on the schedule's objects and the time alone. -/
theorem State.reference_congr {u : State} (hnat : ∀ n < 16, u.nat (ttObj c.val n) = s.nat (ttObj c.val n)) (hnow : u.now = s.now) (disc : Bool) :
    u.reference c disc = s.reference c disc := by
  have hcycle : u.masterCycle c u.now = s.masterCycle c s.now := by
    unfold State.masterCycle State.cycleNs State.matrixCycles
    rw [hnow, hnat 6 (by decide), hnat 4 (by decide), hnat 3 (by decide), hnat 10 (by decide)]
  have hmark : u.masterMark c u.now = s.masterMark c s.now := by
    unfold State.masterMark
    rw [hnow, hnat 6 (by decide), hnat 3 (by decide)]
  unfold State.reference
  rw [hcycle, hmark, hnat 7 (by decide), hnat 1 (by decide)]

/-! ## A basic cycle begins (R418, R419) -/

/-- The return from S3, where it is due. -/
def State.returned (s : State) (c : Fin 2) : State := if s.tt[c].leaveS3 && s.canLive (ttCtl c) then s.clearLevel c else s

/-- A schedule whose cycle begins. -/
def TtCan.begun (x : TtCan) (now cycles : Nat) (matrixOk : Bool) : TtCan :=
  { x with started := now, servedAt := now, cycle := (x.cycle + 1) % cycles, arbUntil := false, merged := false
           causeGone := x.s3 == 4 || (x.s3 == 6 && matrixOk) }

/-- The cycle begins, and a matrix that fails its check leads to S3. -/
def State.begins (s : State) (c : Fin 2) (matrixOk : Bool) : State :=
  if matrixOk then s.modTt c (·.begun s.now (s.matrixCycles c) matrixOk) else (s.modTt c (·.begun s.now (s.matrixCycles c) matrixOk)).enterS3 c 6

/-- The master sends its reference message. -/
def State.refers (s : State) (c : Fin 2) : State :=
  if s.tt[c].master = 1 ∧ s.tt[c].level < 3 ∧ s.canSends (ttCtl c) then s.sendReference c false else s

/-- At count 0 the written matrix comes into force. -/
def State.loads (s : State) (c : Fin 2) : State :=
  if s.tt[c].cycle = 0 then s.modTt c fun x => { x with matrix := matrixOf (s.raw (ob (0x2330 + c.val) 1)) } else s

section
variable (hon : s.ttOn c = true) (hgrid : s.onCycleGrid c = true)
include hon hgrid

theorem State.cycleStart_runs (ok : Bool) : s.cycleStart c ok = (((((s.returned c).judgeReference c).judgeClean c).begins c ok).refers c).loads c :=
  if_neg (by rw [hon, hgrid]; exact Bool.false_ne_true)

end

theorem State.begins_ok : s.begins c true = s.modTt c (·.begun s.now (s.matrixCycles c) true) := if_pos rfl

theorem State.refers_level : (s.refers c).tt[c].level = s.tt[c].level ∧ (s.refers c).tt[c].leaveS3 = s.tt[c].leaveS3 ∧ (s.refers c).tt[c].s3 = s.tt[c].s3 := by
  unfold State.refers
  split
  · obtain ⟨mark, hsent⟩ := State.sendReference_eq (s := s) (c := c) false
    rw [hsent, State.modTt_self]
    exact ⟨rfl, rfl, rfl⟩
  · exact ⟨rfl, rfl, rfl⟩

theorem State.loads_level : (s.loads c).tt[c].level = s.tt[c].level ∧ (s.loads c).tt[c].leaveS3 = s.tt[c].leaveS3 ∧ (s.loads c).tt[c].s3 = s.tt[c].s3 := by
  unfold State.loads
  split
  · rw [State.modTt_self]
    exact ⟨rfl, rfl, rfl⟩
  · exact ⟨rfl, rfl, rfl⟩

theorem State.begins_aside (ok : Bool) : (s.begins c ok).aside c = s.aside c := by
  unfold State.begins
  split
  · rfl
  · exact State.enterS3_aside 6

theorem State.refers_aside : (s.refers c).aside c = s.aside c := by
  unfold State.refers
  split <;> rfl

theorem State.loads_aside : (s.loads c).aside c = s.aside c := by
  unfold State.loads
  split <;> rfl

theorem State.returned_aside : (s.returned c).aside c = s.aside c := by
  unfold State.returned
  split
  · exact State.clearLevel_aside
  · rfl

theorem State.returned_none (h : s.tt[c].leaveS3 = false) : s.returned c = s := if_neg (by rw [h]; exact Bool.false_ne_true)

theorem State.returned_clears (h : s.tt[c].leaveS3 = true) (hlive : s.canLive (ttCtl c) = true) : s.returned c = s.clearLevel c :=
  if_pos (by rw [h, hlive]; rfl)

section
variable (hon : s.ttOn c = true) (hgrid : s.onCycleGrid c = true)
include hon hgrid

theorem State.cycleStart_aside (ok : Bool) : (s.cycleStart c ok).aside c = s.aside c := by
  rw [State.cycleStart_runs hon hgrid]
  calc _ = _ := State.loads_aside
    _ = _ := State.refers_aside
    _ = _ := State.begins_aside ok
    _ = _ := State.judgeClean_aside
    _ = _ := State.judgeReference_aside
    _ = _ := State.returned_aside

/-- Where the matrix passes its check, the judgement of the last cycle gives the level. -/
theorem State.cycleStart_level : (s.cycleStart c true).tt[c].level = (((s.returned c).judgeReference c).judgeClean c).tt[c].level
    ∧ (s.cycleStart c true).tt[c].leaveS3 = (((s.returned c).judgeReference c).judgeClean c).tt[c].leaveS3 := by
  rw [State.cycleStart_runs hon hgrid]
  generalize ((s.returned c).judgeReference c).judgeClean c = y
  obtain ⟨hlevel, hleave, -⟩ := State.refers_level (s := y.begins c true) (c := c)
  obtain ⟨hlevel', hleave', -⟩ := State.loads_level (s := (y.begins c true).refers c) (c := c)
  rw [hlevel', hleave', hlevel, hleave, State.begins_ok, State.modTt_self]
  exact ⟨rfl, rfl⟩

theorem State.cycleStart_broken (hlevel : (((s.returned c).judgeReference c).judgeClean c).tt[c].level ≠ 3) :
    (s.cycleStart c false).tt[c].level = 3 ∧ (s.cycleStart c false).tt[c].s3 = 6 := by
  rw [State.cycleStart_runs hon hgrid]
  generalize ((s.returned c).judgeReference c).judgeClean c = y at hlevel ⊢
  obtain ⟨hlevel', -, hcause'⟩ := State.refers_level (s := y.begins c false) (c := c)
  obtain ⟨hlevel'', -, hcause''⟩ := State.loads_level (s := (y.begins c false).refers c) (c := c)
  have hlower : (y.modTt c (·.begun y.now (y.matrixCycles c) false)).tt[c].level ≠ 3 := by
    rw [State.modTt_self]
    exact hlevel
  have hbegins : (y.begins c false).tt[c] = _ := (congrArg (·[c]) (State.enterS3_announces 6 hlower).tt).trans (State.intoS3_tt 6)
  rw [hlevel'', hcause'', hlevel', hcause', hbegins]
  exact ⟨rfl, rfl⟩

variable (hstays : s.tt[c].leaveS3 = false)
include hstays

theorem State.cycleStart_matrix (hlevel : s.tt[c].level ≠ 3) : (s.cycleStart c false).tt[c].level = 3 ∧ (s.cycleStart c false).tt[c].s3 = 6 := by
  refine State.cycleStart_broken hon hgrid ?_
  rw [State.returned_none hstays]
  have href := State.judgeReference_level (s := s) (c := c)
  have hclean := State.judgeClean_level (s := s.judgeReference c) (c := c)
  omega

theorem State.cycleStart_loses (hlevel : s.tt[c].level < 2) (hsaw : s.tt[c].sawRef = false) (hmissing : 1 ≤ s.tt[c].missing) : (s.cycleStart c true).tt[c].level = 2 := by
  have hlost := State.judgeReference_loses hsaw hlevel hmissing
  rw [(State.cycleStart_level hon hgrid).1, State.returned_none hstays, State.judgeClean_counts (by rw [hlost]; decide), State.modTt_self]
  exact hlost

theorem State.cycleStart_regains (hlevel : s.tt[c].level = 2) (hsaw : s.tt[c].sawRef = true) (hgood : 1 ≤ s.tt[c].goodRefs) : (s.cycleStart c true).tt[c].level = 0 := by
  have hback := State.judgeReference_returns hsaw hlevel hgood
  rw [(State.cycleStart_level hon hgrid).1, State.returned_none hstays, State.judgeClean_counts (by rw [hback]; decide), State.modTt_self]
  exact hback

theorem State.cycleStart_cleans (hlevel : s.tt[c].level = 1) (hsaw : s.tt[c].sawRef = true) (herr : s.tt[c].erred = false) (hclean : 3 ≤ s.tt[c].cleanCycles) :
    (s.cycleStart c true).tt[c].level = 0 := by
  have hcounts := State.judgeReference_counts hsaw (by omega)
  rw [(State.cycleStart_level hon hgrid).1, State.returned_none hstays, hcounts]
  exact State.judgeClean_returns (by rw [State.modTt_self]; exact hlevel) (by rw [State.modTt_self]; exact herr) (by rw [State.modTt_self]; exact hclean)

/-- In S0 and with a reference message the cycle is counted, and no level changes. -/
theorem State.cycleStart_quiet (hlevel : s.tt[c].level = 0) (hsaw : s.tt[c].sawRef = true) :
    s.cycleStart c true = ((s.modTt c fun x => x.judged.cleaned.begun s.now (s.matrixCycles c) true).refers c).loads c := by
  have hcounts := State.judgeReference_counts hsaw (by omega)
  have hcleans : (s.modTt c TtCan.judged).judgeClean c = (s.modTt c TtCan.judged).modTt c TtCan.cleaned :=
    State.judgeClean_counts (by rw [State.modTt_self]; exact fun h => absurd (hlevel.symm.trans h) (by decide))
  rw [State.cycleStart_runs hon hgrid, State.returned_none hstays, hcounts, hcleans, State.begins_ok]
  refine congrArg (fun v => (State.loads (State.refers ({ s with tt := v } : State) c) c)) ?_
  show upd (upd (upd s.tt c TtCan.judged) c TtCan.cleaned) c _ = _
  rw [upd_upd, upd_upd]
  rfl

end

theorem State.cycleStart_returns (hon : s.ttOn c = true) (hgrid : s.onCycleGrid c = true) (hleave : s.tt[c].leaveS3 = true) (hlevel : s.tt[c].level = 3)
    (hlive : s.canLive (ttCtl c) = true) (hsaw : s.tt[c].sawRef = true) : (s.cycleStart c true).tt[c].level = 0 ∧ (s.cycleStart c true).tt[c].leaveS3 = false := by
  have hcleared : (s.returned c).tt[c] = s.tt[c].cleared := by
    rw [State.returned_clears hleave hlive]
    exact State.clearLevel_tt (by omega)
  obtain ⟨hafter, hstill⟩ := State.cycleStart_level hon hgrid
  have hcounts := State.judgeReference_counts (s := s.returned c) (c := c) (by rw [hcleared]; exact hsaw) (by rw [hcleared]; exact (by decide : (0 : Nat) ≠ 2))
  have hcleans : ((s.returned c).modTt c TtCan.judged).judgeClean c = ((s.returned c).modTt c TtCan.judged).modTt c TtCan.cleaned :=
    State.judgeClean_counts (by rw [State.modTt_self, hcleared]; exact (by decide : (0 : Nat) ≠ 1))
  rw [hafter, hstill, hcounts, hcleans, State.modTt_self, State.modTt_self, hcleared]
  exact ⟨rfl, rfl⟩

/-! ## A slave's cycle and a master's cycle -/

theorem State.refers_slave (h : s.tt[c].master ≠ 1) : s.refers c = s := if_neg fun hall => h hall.1

theorem State.loads_later (h : s.tt[c].cycle ≠ 0) : s.loads c = s := if_neg h

theorem State.loads_first (h : s.tt[c].cycle = 0) : s.loads c = s.modTt c fun x => { x with matrix := matrixOf (s.raw (ob (0x2330 + c.val) 1)) } := if_pos h

/-- What the load of a matrix leaves of the schedule. -/
theorem State.loads_rest : (s.loads c).tt[c].cycle = s.tt[c].cycle ∧ (s.loads c).tt[c].sawRef = s.tt[c].sawRef ∧ (s.loads c).tt[c].refWeft = s.tt[c].refWeft
    ∧ (s.loads c).outbox = s.outbox ∧ s.loads c = { s with tt := (s.loads c).tt } := by
  unfold State.loads
  split
  · rw [State.modTt_self]
    exact ⟨rfl, rfl, rfl, rfl, rfl⟩
  · exact ⟨rfl, rfl, rfl, rfl, rfl⟩

end

section
variable {s : State} {c : Fin 2}

section
variable (hon : s.ttOn c = true) (hgrid : s.onCycleGrid c = true) (hstays : s.tt[c].leaveS3 = false) (hlevel : s.tt[c].level = 0) (hsaw : s.tt[c].sawRef = true)
include hon hgrid hstays hlevel hsaw

section
variable (hslave : s.tt[c].master ≠ 1)
include hslave

theorem State.cycleStart_slave : s.cycleStart c true = (s.modTt c fun x => x.judged.cleaned.begun s.now (s.matrixCycles c) true).loads c := by
  rw [State.cycleStart_quiet hon hgrid hstays hlevel hsaw, State.refers_slave (by rw [State.modTt_self]; exact hslave)]

theorem State.cycleStart_counts (hlater : (s.tt[c].cycle + 1) % s.matrixCycles c ≠ 0) :
    s.cycleStart c true = s.modTt c fun x => x.judged.cleaned.begun s.now (s.matrixCycles c) true := by
  rw [State.cycleStart_slave hon hgrid hstays hlevel hsaw hslave, State.loads_later (by rw [State.modTt_self]; exact hlater)]

theorem State.cycleStart_wraps (hfirst : (s.tt[c].cycle + 1) % s.matrixCycles c = 0) : s.cycleStart c true =
    (s.modTt c fun x => x.judged.cleaned.begun s.now (s.matrixCycles c) true).modTt c fun x => { x with matrix := matrixOf (s.raw (ob (0x2330 + c.val) 1)) } := by
  rw [State.cycleStart_slave hon hgrid hstays hlevel hsaw hslave, State.loads_first (by rw [State.modTt_self]; exact hfirst)]
  rfl

end

theorem State.cycleStart_master (hmaster : s.tt[c].master = 1) (hsends : s.canSends (ttCtl c) = true) : (s.cycleStart c true).outbox = s.outbox ++ [s.reference c false]
    ∧ (s.cycleStart c true).tt[c].cycle = s.masterCycle c s.now ∧ (s.cycleStart c true).tt[c].sawRef = true ∧ (s.cycleStart c true).tt[c].refWeft = s.now
    ∧ (s.cycleStart c true).tt[c].level = 0 ∧ s.cycleStart c true = { s with tt := (s.cycleStart c true).tt, outbox := (s.cycleStart c true).outbox } := by
  rw [State.cycleStart_quiet hon hgrid hstays hlevel hsaw]
  have hrefers : (s.modTt c fun x => x.judged.cleaned.begun s.now (s.matrixCycles c) true).refers c =
      (s.modTt c fun x => x.judged.cleaned.begun s.now (s.matrixCycles c) true).sendReference c false := by
    refine if_pos ⟨?_, ?_, hsends⟩
    · rw [State.modTt_self]
      exact hmaster
    · rw [State.modTt_self]
      show s.tt[c].level < 3
      omega
  obtain ⟨mark, hsent⟩ := State.sendReference_eq (s := s.modTt c fun x => x.judged.cleaned.begun s.now (s.matrixCycles c) true) (c := c) false
  obtain ⟨hcycle, hsaw', hweft, hout, hrest⟩ := State.loads_rest (s := (s.modTt c fun x => x.judged.cleaned.begun s.now (s.matrixCycles c) true).refers c) (c := c)
  obtain ⟨hlevel', -⟩ := State.loads_level (s := (s.modTt c fun x => x.judged.cleaned.begun s.now (s.matrixCycles c) true).refers c) (c := c)
  rw [hout, hcycle, hsaw', hweft, hlevel', hrefers, hsent, State.modTt_self]
  refine ⟨rfl, rfl, rfl, rfl, (congrArg TtCan.level (State.modTt_self (s := s) (c := c) _)).trans hlevel, ?_⟩
  rw [hrefers, hsent] at hrest
  exact hrest

end

/-! ## A reference message is received (R419) -/

/-- A schedule with another master. -/
def TtCan.follows (x : TtCan) (master priority : Nat) : TtCan := { x with master := master, priority := priority }

theorem State.setMaster_same {master priority : Nat} (hmaster : s.tt[c].master = master) (hpriority : s.tt[c].priority = priority) :
    s.setMaster c master priority = s.modTt c (·.follows master priority) := if_pos ⟨hpriority, hmaster⟩

theorem State.setMaster_announces (master priority : Nat) : Announces (s.modTt c (·.follows master priority)) (s.setMaster c master priority) := by
  unfold State.setMaster
  dsimp only
  split
  · exact Announces.refl _
  · exact fault_announces _ _ _ _ _

/-- The frame of a reference message leaves the receive FIFO. -/
def State.tookReference (s : State) (c : Fin 2) (m : RefMsg) : State := s.takeFrame (ttCtl c) (s.nat (ttObj c.val 7) / 8 * 8 + m.priority % 8)

/-- A schedule that takes cycle, mark and stamp of a reference message. -/
def TtCan.synchronised (x : TtCan) (m : RefMsg) (cycles now mode : Nat) : TtCan :=
  { x with
    sawRef := true, missing := 0, cycle := m.cycle % cycles, refMark := m.refMark % 2 ^ 19, refWeft := now
    ntu := if mode = 2 ∧ !m.disc ∧ x.refWeft ≠ 0 then (now - x.refWeft, (m.refMark % 2 ^ 19 + 2 ^ 19 - x.refMark) % 2 ^ 19) else x.ntu }

section
variable {m : RefMsg} (hon : s.ttOn c = true) (hlive : s.canLive (ttCtl c) = true)
include hon hlive

theorem State.receiveReference_runs : s.receiveReference c m =
    if m.gap then s.tookReference c m
    else if s.tt[c].master = 1 ∧ s.ownPriority c ≤ m.priority then s.tookReference c m
    else ((s.tookReference c m).setMaster c (if s.nat (ttObj c.val 2) = 1 then 2 else 0) (m.priority % 8)).modTt c
      (·.synchronised m (s.matrixCycles c) s.now (s.nat (ttObj c.val 1))) :=
  if_neg (by rw [hon, hlive]; exact Bool.false_ne_true)

theorem State.receiveReference_ignores (h : m.gap = true ∨ (s.tt[c].master = 1 ∧ s.ownPriority c ≤ m.priority)) : s.receiveReference c m = s.tookReference c m := by
  rw [State.receiveReference_runs hon hlive]
  by_cases hgap : m.gap = true
  · rw [if_pos hgap]
  · rw [if_neg hgap, if_pos (h.resolve_left hgap)]

variable (hgap : m.gap = false)
include hgap

theorem State.receiveReference_takes (hyields : ¬ (s.tt[c].master = 1 ∧ s.ownPriority c ≤ m.priority)) : s.receiveReference c m =
    ((s.tookReference c m).setMaster c (if s.nat (ttObj c.val 2) = 1 then 2 else 0) (m.priority % 8)).modTt c
      (·.synchronised m (s.matrixCycles c) s.now (s.nat (ttObj c.val 1))) := by
  rw [State.receiveReference_runs hon hlive, if_neg (by rw [hgap]; exact Bool.false_ne_true), if_neg hyields]

theorem State.receiveReference_slave (hslave : s.tt[c].master = 0) (hrole : s.nat (ttObj c.val 2) = 0) (hpriority : s.tt[c].priority = m.priority % 8) :
    s.receiveReference c m = (s.tookReference c m).modTt c fun x => (x.follows 0 (m.priority % 8)).synchronised m (s.matrixCycles c) s.now (s.nat (ttObj c.val 1)) := by
  rw [State.receiveReference_takes hon hlive hgap fun h => absurd (hslave.symm.trans h.1) (by decide), if_neg (by omega),
    State.setMaster_same (s := s.tookReference c m) hslave hpriority]
  unfold State.modTt
  dsimp only
  rw [upd_upd]

theorem State.receiveReference_yields (hlower : m.priority % 8 < s.ownPriority c) (hsmall : m.priority < 8) :
    (s.receiveReference c m).tt[c].master ≠ 1 ∧ (s.receiveReference c m).tt[c].priority = m.priority ∧ (s.receiveReference c m).tt[c].refWeft = s.now
    ∧ (s.receiveReference c m).mem = s.mem ∧ (s.receiveReference c m).launch = s.launch := by
  rw [State.receiveReference_takes hon hlive hgap fun h => by omega]
  have hann := State.setMaster_announces (s := s.tookReference c m) (c := c) (if s.nat (ttObj c.val 2) = 1 then 2 else 0) (m.priority % 8)
  generalize (s.tookReference c m).setMaster c (if s.nat (ttObj c.val 2) = 1 then 2 else 0) (m.priority % 8) = y at hann ⊢
  have hfollows : y.tt[c] = s.tt[c].follows (if s.nat (ttObj c.val 2) = 1 then 2 else 0) (m.priority % 8) := (congrArg (·[c]) hann.tt).trans (State.modTt_self _)
  refine ⟨?_, ?_, ?_, hann.mem, hann.launch⟩
  · rw [State.modTt_self, hfollows]
    show (if s.nat (ttObj c.val 2) = 1 then 2 else 0) ≠ 1
    split <;> decide
  · rw [State.modTt_self, hfollows]
    exact Nat.mod_eq_of_lt hsmall
  · rw [State.modTt_self]
    rfl

end

/-! ## The take-over, the watchdog, a watch entry (R415, R418, R419) -/

theorem State.takeOver_waits (h : s.tt[c].sawRef = true ∨ s.tt[c].master = 1 ∨ s.now < s.tt[c].started + s.nat (ttObj c.val 8) * s.nat (ttObj c.val 3)) :
    s.takeOver c = s := by
  refine if_neg ?_
  simp only [Bool.and_eq_true, bne_iff_ne, Bool.not_eq_true', decide_eq_true_eq]
  intro hall
  obtain h | h | h := h
  · exact Bool.false_ne_true (hall.1.1.2.symm.trans h)
  · exact hall.1.1.1.2 h
  · exact absurd hall.2 (Nat.not_le.mpr h)

theorem State.takeOver_off (h : s.ttOn c = false) : s.takeOver c = s := if_neg (by rw [h]; exact Bool.false_ne_true)

section
variable (hon : s.ttOn c = true) (hsends : s.canSends (ttCtl c) = true) (hrole : s.nat (ttObj c.val 2) = 1) (hslave : s.tt[c].master ≠ 1)
  (hmissing : s.tt[c].sawRef = false) (hlevel : s.tt[c].level < 3) (hdue : s.tt[c].started + s.nat (ttObj c.val 8) * s.nat (ttObj c.val 3) ≤ s.now)
include hon hsends hrole hslave hmissing hlevel hdue

theorem State.takeOver_eq : s.takeOver c = (s.setMaster c 1 (s.ownPriority c)).sendReference c true :=
  if_pos (by simp [hon, hsends, hrole, hslave, hmissing, hlevel, hdue, -Fin.getElem_fin])

theorem State.takeOver_leads : (s.takeOver c).tt[c].master = 1 ∧ (s.takeOver c).tt[c].priority = s.ownPriority c ∧ (s.takeOver c).tt[c].sawRef = true
    ∧ (s.takeOver c).outbox.getLast? = some (s.reference c true) ∧ (s.takeOver c).mem = s.mem ∧ (s.takeOver c).launch = s.launch := by
  rw [State.takeOver_eq hon hsends hrole hslave hmissing hlevel hdue]
  have hann := State.setMaster_announces (s := s) (c := c) 1 (s.ownPriority c)
  generalize s.setMaster c 1 (s.ownPriority c) = y at hann ⊢
  have hleads : y.tt[c] = s.tt[c].follows 1 (s.ownPriority c) := (congrArg (·[c]) hann.tt).trans (State.modTt_self _)
  have hreference : y.reference c true = s.reference c true :=
    State.reference_congr (fun n hn => hann.nat (ttObj_quiet c ⟨n, hn⟩)) (congrArg Time.weft hann.time) true
  obtain ⟨mark, hsent⟩ := State.sendReference_eq (s := y) (c := c) true
  have hemitted : (y.emit (y.reference c true)).tt[c] = s.tt[c].follows 1 (s.ownPriority c) := hleads
  rw [hsent, State.modTt_self, hemitted, ← hreference]
  exact ⟨rfl, rfl, rfl, List.getLast?_concat .., hann.mem, hann.launch⟩

end

theorem State.watch_off {entry : Fin 128} (h : s.ttOn c = false) : s.watch c entry = s := if_pos (by rw [h]; rfl)

section
variable {entry : Fin 128} {e : BitVec 64} (hon : s.ttOn c = true) (hentry : s.entryNow c entry [7] = some e)
include hon hentry

theorem State.watch_judges : s.watch c entry = if !s.tt[c].sawRef && decide (1 ≤ s.tt[c].missing) && decide (s.tt[c].level < 2) then s.setLevel c 2 3 else s := by
  unfold State.watch
  rw [if_neg (by rw [hon]; exact Bool.false_ne_true), hentry]

theorem State.watch_waits (h : s.tt[c].sawRef = true ∨ s.tt[c].missing = 0 ∨ 2 ≤ s.tt[c].level) : s.watch c entry = s := by
  rw [State.watch_judges hon hentry]
  refine if_neg ?_
  simp only [Bool.and_eq_true, Bool.not_eq_true', decide_eq_true_eq]
  rintro ⟨⟨hsaw, hmissing⟩, hlevel⟩
  obtain h | h | h := h
  · exact Bool.false_ne_true (hsaw.symm.trans h)
  · omega
  · omega

theorem State.watch_loses (hsaw : s.tt[c].sawRef = false) (hmissing : 1 ≤ s.tt[c].missing) (hlevel : s.tt[c].level < 2) :
    s.watch c entry = (s.modTt c fun y => { y with level := 2, cleanCycles := 0, goodRefs := 0 }).fault 0x0D04 (.ofUnit c.val) (at_ 8 8 3 ||| 2) := by
  rw [State.watch_judges hon hentry, if_pos (by simp [hsaw, hmissing, hlevel, -Fin.getElem_fin])]
  exact if_neg (by omega)

end

end

end Sys2Proof.Machine

namespace Sys2Proof

open Machine

/-- Settles O35: a cycle start by its stages (`State.cycleStart_runs`), the other events by the conditions that they ask. -/
theorem ttcanCyclesReferencesAndLevels : Obligations.TtcanCyclesReferencesAndLevels := by
  intro s t c x w cycles ns cyc mark refer
  refine ⟨fun hoff => ⟨fun ok => ?_, ?_, ?_, fun m => ?_, fun entry => ?_⟩, fun hon hgrid ok => ?_, fun hslave => ?_, fun hon hgrid hstays => ⟨fun hlevel hsaw hslave hlater => ?_,
      fun hlevel hsaw hslave hfirst => ?_, fun hlevel hsaw hmaster hsends => ?_, fun hlevel hsaw => ?_, fun hlevel hsaw hmissing => ?_, fun hlevel hsaw hgood => ?_,
      fun hlevel hsaw herr hclean => ?_⟩,
    fun hon hgrid hleave hlevel hlive hsaw => ?_, fun m hon hlive => ⟨fun hignores => ?_, fun hgap hslave hrole hpriority => ?_, fun hgap hmaster hlower hsmall => ?_⟩,
    fun hon hsends hrole hslave hmissing hlevel hdue => ?_, fun hwaits => ?_, fun hearly => ?_, fun hon hlevel hdue => ?_, fun entry e hon hentry => ⟨fun hwaits => ?_,
      fun hsaw hmissing hlevel => ?_⟩⟩
  · exact congrArg Host.Outcome.next (if_pos (by rw [show (s.advance t).ttOn c = false from hoff]; rfl))
  · exact congrArg Host.Outcome.next (State.takeOver_off (s := s.advance t) hoff)
  · exact congrArg Host.Outcome.next (if_neg (by rw [show (s.advance t).ttOn c = false from hoff]; exact Bool.false_ne_true))
  · exact congrArg Host.Outcome.next (if_pos (by rw [show (s.advance t).ttOn c = false from hoff]; rfl))
  · exact congrArg Host.Outcome.next (State.watch_off (s := s.advance t) hoff)
  · exact congrArg Host.Outcome.next (if_pos (by rw [hgrid]; exact Bool.or_true _))
  · exact (Bool.or_eq_true _ _).mpr (.inl (bne_iff_ne.mpr hslave))
  · refine ⟨_, congrArg Host.Outcome.next (State.cycleStart_counts (s := s.advance t) hon hgrid hstays hlevel hsaw hslave hlater), ?_⟩
    beta_reduce
    rw [State.modTt_self]
    exact ⟨rfl, rfl, if_pos hsaw, rfl, hlevel, rfl, rfl, rfl⟩
  · refine ⟨_, congrArg Host.Outcome.next (State.cycleStart_wraps (s := s.advance t) hon hgrid hstays hlevel hsaw hslave hfirst), ?_⟩
    beta_reduce
    rw [State.modTt_self, State.modTt_self]
    exact ⟨hfirst, hlevel, rfl, rfl⟩
  · exact ⟨_, rfl, State.cycleStart_master (s := s.advance t) hon hgrid hstays hlevel hsaw hmaster hsends⟩
  · have haside := State.cycleStart_aside (s := s.advance t) hon hgrid false
    have hbroken := State.cycleStart_matrix (s := s.advance t) hon hgrid hstays hlevel
    exact ⟨_, rfl, hbroken.1, hbroken.2, congrArg (·.1) haside, congrArg (·.2.1) haside, congrArg (·.2.2) haside⟩
  · have haside := State.cycleStart_aside (s := s.advance t) hon hgrid true
    exact ⟨_, rfl, State.cycleStart_loses (s := s.advance t) hon hgrid hstays hlevel hsaw hmissing, congrArg (·.1) haside, congrArg (·.2.1) haside⟩
  · have haside := State.cycleStart_aside (s := s.advance t) hon hgrid true
    exact ⟨_, rfl, State.cycleStart_regains (s := s.advance t) hon hgrid hstays hlevel hsaw hgood, congrArg (·.1) haside⟩
  · have haside := State.cycleStart_aside (s := s.advance t) hon hgrid true
    exact ⟨_, rfl, State.cycleStart_cleans (s := s.advance t) hon hgrid hstays hlevel hsaw herr hclean, congrArg (·.1) haside⟩
  · have haside := State.cycleStart_aside (s := s.advance t) hon hgrid true
    obtain ⟨hback, hleft⟩ := State.cycleStart_returns (s := s.advance t) hon hgrid hleave hlevel hlive hsaw
    exact ⟨_, rfl, hback, hleft, congrArg (·.1) haside⟩
  · exact ⟨_, congrArg Host.Outcome.next (State.receiveReference_ignores (s := s.advance t) hon hlive hignores), rfl, rfl, rfl⟩
  · refine ⟨_, congrArg Host.Outcome.next (State.receiveReference_slave (s := s.advance t) hon hlive hgap hslave hrole hpriority), ?_⟩
    beta_reduce
    rw [State.modTt_self]
    exact ⟨rfl, rfl, rfl, rfl, rfl, rfl, rfl, rfl, rfl⟩
  · exact ⟨_, rfl, State.receiveReference_yields (s := s.advance t) hon hlive hgap hlower hsmall⟩
  · exact ⟨_, rfl, State.takeOver_leads (s := s.advance t) hon hsends hrole hslave hmissing hlevel hdue⟩
  · exact congrArg Host.Outcome.next (State.takeOver_waits (s := s.advance t) hwaits)
  · refine congrArg Host.Outcome.next (if_neg ?_)
    rw [Bool.and_eq_true, decide_eq_true_eq]
    exact fun h => absurd h.2 (Nat.not_le.mpr hearly)
  · have hfires : exec (.applicationWatchdogLapse t c) s = .next ((s.advance t).enterS3 c 4) :=
      congrArg Host.Outcome.next (if_pos (by rw [Bool.and_eq_true, decide_eq_true_eq]; exact ⟨hon, hdue⟩))
    have hann := State.enterS3_announces (s := s.advance t) 4 hlevel
    have htt : ((s.advance t).enterS3 c 4).tt[c] = _ := (congrArg (·[c]) hann.tt).trans (State.intoS3_tt (s := s.advance t) 4)
    have hcan : ((s.advance t).enterS3 c 4).can[ttCtl c] = _ := (congrArg (·[ttCtl c]) hann.can).trans (State.intoS3_can (s := s.advance t) 4)
    have hnews : SameNews (s.advance t) ((s.advance t).intoS3 c 4) := ⟨rfl, rfl, rfl, rfl, fun _ _ => rfl⟩
    refine ⟨_, hfires, ?_, ?_, ?_, ?_, ?_, hann.mem, hann.launch, ?_⟩
    · rw [htt]
    · rw [htt]
    · rw [htt]
      rfl
    · rw [hcan]
      rfl
    · rw [hcan]
      rfl
    · rw [State.enterS3_eq (s := s.advance t) 4 hlevel]
      exact (hnews.fault 0x0D04 (.ofUnit c.val) (at_ 8 8 4 ||| 3) 0).log
  · exact congrArg Host.Outcome.next (State.watch_waits (s := s.advance t) hon hentry hwaits)
  · exact congrArg Host.Outcome.next (State.watch_loses (s := s.advance t) hon hentry hsaw hmissing hlevel)

end Sys2Proof

/-!
Sample intake (O60).
-/

namespace Sys2Proof.Machine

/-! ## A submitted count behind the samples already taken (R313) -/

/-- The device after its reset, with a sample taken from intake queue 0. -/
def takenDevice : State := { State.reset with intake := upd State.reset.intake 0 fun x => { x with consumed := 1 } }

theorem takenDevice_writesAct : WritesAct takenDevice .pcie :=
  { works := rfl, latched := rfl, group := rfl, implicit := rfl, instant := rfl, owed := rfl, owner := rfl, run := rfl }

theorem rowOf_submitted : rowOf (intakeObj 0 0x14) = some ⟨0x3A10, 0x3A17, 0x14, 0x14, .u 64, .rw, .int 0, .any, .instant⟩ := by decide +kernel

/-- A count that the check of a submission refuses is refused before anything else is done. -/
theorem State.serveWrite_submitRefused {s : State} {ses : Session} {key : Key} {r : Row} {v : Val} {g : Given} {w : Nat} (hrow : rowOf key = some r)
    (hacc : r.acc = .rw ∨ r.acc = .wo) (hw : 8 * (w / 8) = w) (hty : r.ty = .u w) (hfits : r.ty.fits v = true) (hrng : r.rng.ok v = true)
    (hbus : ¬ (0x2240 ≤ key / 256 ∧ key / 256 ≤ 0x224B)) (hses : key ≠ ob 0x2020 4) (hr : (s.withWrite ses key (keepFields key v)).rangeOk key = true)
    (hs : s.submitRefused key (keepFields key v).num.toNat = some s) : s.serveWrite ses (writeItem key v) g = (s, .now 0x06090030 [], 0, []) := by
  rw [State.serveWrite_num s ses key r v g hrow hacc hbus (by simp [hses]) (by simp [hty]) (hty ▸ Ty.decode_encode_u hw (hty ▸ hfits)) hrng]
  unfold State.writeChecked
  dsimp only
  rw [hr, if_neg (by decide), hs]

theorem State.submitRefused_behind {s : State} {v : Nat} (h : v < s.intake[(0 : Fin 8)].consumed) : s.submitRefused (intakeObj 0 0x14) v = some s :=
  (dif_pos (by decide)).trans ((if_neg (Nat.not_lt.mpr (Nat.le_add_right_of_le (Nat.le_of_lt h)))).trans (if_pos h))

end Sys2Proof.Machine

namespace Sys2Proof

open Machine

theorem takenDevice_refuses : RefusedWith (.submittedCountWrite 0 .pcie 0 0) takenDevice .pcie 0x06090030 (Books (takenDevice.advance 0)) := by
  refine refusedWith_of_serveWrite (g := {}) rfl (takenDevice_writesAct.toServerFree.advance 0) ?_ (Books.refl _) rfl
  rw [takenDevice_writesAct.touchGroup 0]
  exact State.serveWrite_submitRefused rowOf_submitted (.inl rfl) (w := 64) rfl rfl rfl rfl (by decide) (by decide) (by decide +kernel)
    (State.submitRefused_behind (by decide +kernel))

/-- Refutes O60 at its clause on the submitted count: one below the number of samples already taken is refused (R313). -/
theorem not_intakeTakesChecksAndBatches : ¬ Obligations.IntakeTakesChecksAndBatches := by
  intro h
  have hchecks : ChecksPass takenDevice 0 (intakeObj 0 0x14) (.int (0 : Nat)) := by
    unfold ChecksPass
    decide +kernel
  have hserved := (h takenDevice 0 0).1 .pcie 0 takenDevice_writesAct (by decide) hchecks
  exact takenDevice_refuses.not_served (by decide) hserved

end Sys2Proof

/-!
Window descriptors (O50).
-/

namespace Sys2Proof.Machine

/-! ## A scale stream in the scratchpad of another block -/

/-- The fields of the body of `borrowDesc`, each with its lowest bit: a stripe of two lines of two columns with 32 channels of MX FP8 (format 6), a filter of two by two, one output channel of FP32. -/
def borrowFields : List (Nat × Nat) :=
  [(492, 32), (491, 1), (352, 0xFFFFFFFF), (320, 0xFFFFFFFF), (251, 1), (246, 1), (242, 1), (238, 1), (176, 32), (160, 1), (144, 1), (137, 2), (130, 2), (106, 0x4000), (98, 1),
   (42, 0x100), (34, 6), (22, 2), (10, 2), (256, 0x8000)]

/-- A convolution of block 3.4 whose input keeps its scale stream in the scratchpad of block 3.5. -/
def borrowDesc : WinDesc :=
  { header := BitVec.ofNat 128 (7 * 2 ^ 96 + 0xFFFFFFFF * 2 ^ 64 + 0x200 * 2 ^ 42 + 0x10 * 2 ^ 24 + 1 * 2 ^ 16 + 2 * 2 ^ 14 + 2 ^ 8 + 5)
    body := BitVec.ofNat 640 (6 * 2 ^ 40 + 6 * 2 ^ 32 + 2 ^ 24 + (borrowFields.map fun p => p.2 * 2 ^ (64 + p.1)).sum)
    inStream := ⟨2, 3, 5, 0x20000⟩, inSlot := none, wStream := ⟨2, 3, 4, 0x21000⟩, wSlot := none, outStream := ⟨2, 3, 4, 0x22000⟩
    streamCols := 4, tokens := 1, returns := [], upsets := [] }

/-- The lost lane: the first word of that scale stream. -/
def borrowedLane : BadLane := ⟨2, (⟨2, 3, 5, 0x20000⟩ : MemRef).key, 0, false⟩

/-- The state after the reset, with that word lost. -/
def borrowState : State := { State.reset with marks := [borrowedLane] }

/-- It starts as it arrives, and its header is right. -/
theorem borrowDesc_arrives : HeaderOk borrowState 3 borrowDesc.header 0x10 (borrowState.blockAdmits 3 4 (hClass borrowDesc.header)) (borrowState.block 3 4).prevSeq
    ∧ BlockStarts borrowState 3 4 (.conv 0 3 4 borrowDesc) borrowDesc.header where
  left :=
    { fields := by decide +kernel
      cls := by decide +kernel
      sequence := by decide +kernel
      status := by decide +kernel
      room := by decide +kernel }
  right :=
    { logic := by decide +kernel
      may := by decide +kernel
      commits := rfl
      queue := by decide +kernel
      port := by decide +kernel
      credit := by decide }

/-- The window engine accepts it: its body, its rescaling, and its places. -/
theorem borrowDesc_accepted : refusalReason 1 borrowDesc (borrowState.mask 3 4 borrowDesc) = none ∧ borrowState.convRescale .float borrowDesc = some none
    ∧ (∀ p ∈ winReads 3 4 1 borrowDesc ++ winWrites 3 4 1 borrowDesc, borrowState.badPlace p.1 p.2 = false)
    ∧ (∀ p ∈ winReads 3 4 1 borrowDesc, borrowState.permits (hClass borrowDesc.header) p.1 p.2 false = true)
    ∧ ∀ p ∈ winWrites 3 4 1 borrowDesc, borrowState.permits (hClass borrowDesc.header) p.1 p.2 true = true := by decide +kernel

/-- How many rows of block 3.5 wait for their map-out in the state that a command answers. -/
def mapOutsAfter (c : Instr) (s : State) : Nat :=
  match exec c s with
  | .next u => (u.block 3 5).mapQueue.length
  | _ => 0

/-- It reads the lost word, whose row joins the map-out queue of the block that holds it (R157, R158). -/
theorem borrowDesc_reads_lost : borrowState.markRead (winReads 3 4 1 borrowDesc) = some borrowedLane ∧ (borrowState.block 3 5).mapQueue = []
    ∧ mapOutsAfter (.conv 0 3 4 borrowDesc) borrowState = 1 := by decide +kernel

end Sys2Proof.Machine

namespace Sys2Proof

open Machine

/-- Refutes O50 at its clause on lost data: a descriptor that reads a lost word in another block's scratchpad has that block map the word's row out (R157, R158), so that block does not stay as it was. -/
theorem not_windowDescriptorsProduceTheirLines : ¬ Obligations.WindowDescriptorsProduceTheirLines := by
  intro h
  have hcodes : (acwMode (winAcw borrowDesc)).getD .integer = .float ∧ winOp 1 borrowDesc.header = 1 ∧ (acwMode (winAcw borrowDesc)).isSome = true
      ∧ recordedFormat (wOutFmt borrowDesc) = false ∧ hReleaseHold borrowDesc.header = false := by decide +kernel
  obtain ⟨hmode, hop, hpermitted, hplain, hhold⟩ := hcodes
  obtain ⟨hheader, hstarts⟩ := borrowDesc_arrives
  obtain ⟨haccepted, hrescale, hplaces, hreadable, hwritable⟩ := borrowDesc_accepted
  obtain ⟨hmark, hempty, hmaps⟩ := borrowDesc_reads_lost
  obtain ⟨-, hchecked⟩ := h borrowState 0 3 4 borrowDesc (.conv 0 3 4 borrowDesc) 1 (.inl ⟨rfl, rfl⟩) hstarts
  rw [hop, hmode] at hchecked
  obtain ⟨-, hbody⟩ := hchecked hheader
  obtain ⟨-, -, hruns⟩ := hbody fun _ => hpermitted
  obtain ⟨-, hruns⟩ := hruns haccepted
  obtain ⟨-, hruns⟩ := hruns none (fun _ => hrescale) (fun _ => rfl) hhold
  obtain ⟨-, hruns⟩ := hruns hplaces fun hrec => absurd hrec (by simp [hplain])
  obtain ⟨hlost, -⟩ := hruns hreadable hwritable (fun hrec => absurd hrec (by simp [hplain])) rfl
  obtain ⟨u, hexec, -, -, hothers, -⟩ := hlost borrowedLane hmark
  rw [mapOutsAfter, hexec] at hmaps
  simp [hothers 3 5 (.inr (by decide)), hempty] at hmaps

end Sys2Proof

/-!
Arrivals of descriptors in their queues, for every command that brings one (R147 to R149, R156, R163, R165; O47).
-/

namespace Sys2Proof.Machine

/-! ## Where a descriptor goes -/

/-- A command that has a route brings its descriptor to its queue. -/
theorem exec_submit {s : State} {c : Instr} {k : Route} (hroute : (s.advance c.time).routeOf c = some k) : exec c s = .next ((s.advance c.time).submit c) := by
  unfold State.routeOf at hroute
  split at hroute
  case h_29 => cases hroute
  all_goals rfl

section
variable {s : State} {c : Instr} {k : Route} {h : BitVec 128} (hroute : s.routeOf c = some k) (hheader : descHeader c = some h)
include hroute hheader

/-- Nothing can be written to a region whose logic is off (log entry 66). -/
theorem State.submit_off (hoff : s.logicOn k.region = false) : s.submit c = s := by
  unfold State.submit
  simp [hroute, hheader, hoff]

/-- Nothing can be written to a full queue (log entry 66). -/
theorem State.submit_full {b : Fin 18} (hblock : k.block = some b) (hfull : 64 ≤ (s.block k.region b).waiting.length) : s.submit c = s := by
  unfold State.submit
  simp [hroute, hheader, hblock, hfull]

end

/-! ## A block's queue -/

/-- The state in which a descriptor stands alone in a block's queue, with its number noted. -/
def blockArrived (s : State) (r : Fin 10) (b : Fin 18) (c : Instr) (h : BitVec 128) : State :=
  s.modBlock r b fun x => { x with prevSeq := some (hSequence h), waiting := [⟨x.taken, c⟩], taken := x.taken + 1 }

section
variable {s : State} {c : Instr} {k : Route} {h : BitVec 128} {b : Fin 18}

theorem blockArrived_block : (blockArrived s k.region b c h).block k.region b
    = { s.block k.region b with prevSeq := some (hSequence h), waiting := [⟨(s.block k.region b).taken, c⟩], taken := (s.block k.region b).taken + 1 } := by
  simp [blockArrived]

/-- A descriptor that waits alone goes as it would from the empty queue. -/
theorem blockArrived_accessGoes (hqueue : (s.block k.region b).waiting = []) :
    (blockArrived s k.region b c h).accessGoes k.region b ⟨(s.block k.region b).taken, c⟩ = s.accessGoes k.region b ⟨(s.block k.region b).taken, c⟩ := by
  have hbuffer : (blockArrived s k.region b c h).prefetchBuffer k.region b c = s.prefetchBuffer k.region b c := rfl
  have hbytes : (blockArrived s k.region b c h).prefetched k.region b = s.prefetched k.region b := by
    unfold State.prefetched
    rw [blockArrived_block]
    rfl
  unfold State.accessGoes
  by_cases hlane : laneOf c = 1 <;> simp [blockArrived_block, hqueue, hbuffer, hbytes, hlane]

variable (hroute : s.routeOf c = some k) (hheader : descHeader c = some h) (hblock : k.block = some b)
include hroute hheader

/-- Whether a descriptor that arrives at an empty queue is ready. -/
theorem blockArrived_ready (hcommits : s.preparing = []) (hqueue : (s.block k.region b).waiting = []) (hport : (s.block k.region b).selWait = none) :
    (blockArrived s k.region b c h).blockReady k.region b [] ⟨(s.block k.region b).taken, c⟩
      = (s.mayStart k.region h && (laneOf c != 2 || s.accessGoes k.region b ⟨(s.block k.region b).taken, c⟩)) := by
  have hmay : (blockArrived s k.region b c h).mayStart k.region h = s.mayStart k.region h := rfl
  have hroute' : (blockArrived s k.region b c h).routeOf c = some k := hroute
  have hheld : (blockArrived s k.region b c h).commitHolds k c = false := State.commitHolds_of_none (s := blockArrived s k.region b c h) hcommits k c
  have hport' : ((blockArrived s k.region b c h).block k.region b).selWait = none := by rw [blockArrived_block]; exact hport
  unfold State.blockReady
  simp [hroute', hheader, hport', hmay, hheld, blockArrived_accessGoes hqueue]

/-- One that may not start, or for which no buffer has a credit, is not ready. -/
theorem blockArrived_waits (hqueue : (s.block k.region b).waiting = [])
    (hwaits : s.mayStart k.region h = false ∨ (laneOf c = 2 ∧ s.accessGoes k.region b ⟨(s.block k.region b).taken, c⟩ = false)) :
    (blockArrived s k.region b c h).blockReady k.region b [] ⟨(s.block k.region b).taken, c⟩ = false := by
  have hmay : (blockArrived s k.region b c h).mayStart k.region h = s.mayStart k.region h := rfl
  have hroute' : (blockArrived s k.region b c h).routeOf c = some k := hroute
  unfold State.blockReady
  rcases hwaits with hnot | ⟨hlane, hnot⟩
  · simp [hroute', hheader, hmay, hnot]
  · simp [hroute', hheader, hlane, blockArrived_accessGoes hqueue, hnot]

include hblock

variable (hlogic : s.logicOn k.region = true) (hqueue : (s.block k.region b).waiting = [])
  (hok : HeaderOk s k.region h k.engine (s.blockAdmits k.region b (hClass h)) (s.block k.region b).prevSeq)
include hlogic hqueue hok

/-- An admitted descriptor enters the empty queue of its block. -/
theorem State.submit_arrives : s.submit c = (blockArrived s k.region b c h).pumpOnce k.region b := by
  have hcheck : s.checkBlockHeader k.region b h k.engine = (none, s.modBlock k.region b fun x => { x with prevSeq := some (hSequence h) }) := by
    unfold State.checkBlockHeader
    dsimp only
    rw [headerStatus_of_headerOk hok, hok.sequence]
    rfl
  have harrived : ((s.modBlock k.region b fun x => { x with prevSeq := some (hSequence h) }).modBlock k.region b fun x =>
      { x with waiting := x.waiting ++ [⟨x.taken, c⟩], taken := x.taken + 1 }) = blockArrived s k.region b c h := by
    rw [State.modBlock_modBlock]
    refine State.modBlock_congr ?_
    simp [hqueue]
  have hpump : (blockArrived s k.region b c h).pumpBlock k.region b = (blockArrived s k.region b c h).pumpOnce k.region b := by
    rw [State.pumpBlock, blockArrived_block]
    rfl
  unfold State.submit
  simp only [hroute, hheader, hblock, hlogic, hcheck, hqueue, List.length_nil, Bool.not_true, Bool.false_eq_true, if_false, Nat.reduceLeDiff]
  exact (congrArg (State.pumpBlock · k.region b) harrived).trans hpump

/-- It waits there until it may start. -/
theorem State.submit_waits (hwaits : s.mayStart k.region h = false ∨ (laneOf c = 2 ∧ s.accessGoes k.region b ⟨(s.block k.region b).taken, c⟩ = false)) :
    s.submit c = blockArrived s k.region b c h := by
  have hnot := blockArrived_waits hroute hheader hqueue hwaits
  rw [State.submit_arrives hroute hheader hblock hlogic hqueue hok, State.pumpOnce, blockArrived_block]
  simp [nextReady, hnot]

/-- It starts at once where it may; a prefetch takes the credit of its buffer. -/
theorem State.submit_starts (hstart : BlockStarts s k.region b c h) : s.submit c = (blockNoted s k.region b c h).startCmd c := by
  have hready : (blockArrived s k.region b c h).blockReady k.region b [] ⟨(s.block k.region b).taken, c⟩ = true := by
    rw [blockArrived_ready hroute hheader hstart.commits hqueue hstart.port, hstart.may]
    by_cases hlane : laneOf c = 2
    · simp [hstart.credit hlane]
    · simp [hlane]
  rw [State.submit_arrives hroute hheader hblock hlogic hqueue hok, State.pumpOnce, blockArrived_block, nextReady_one hready]
  refine congrArg (State.startCmd · c) ?_
  rw [blockArrived, State.modBlock_modBlock]
  refine State.modBlock_congr ?_
  simp [hqueue]
  rfl

end

/-! ## The queues of a region's zoo -/

/-- The state in which a descriptor stands alone in a region's zoo, with its number noted. -/
def zooArrived (s : State) (r : Fin 10) (key : Nat) (c : Instr) (h : BitVec 128) : State :=
  s.modRegion r fun x => { x with prevSeq := put x.prevSeq key (hSequence h), waiting := [⟨0, c⟩] }

section
variable {s : State} {c : Instr} {k : Route} {h : BitVec 128} {key : Nat}

theorem zooArrived_waiting : (zooArrived s k.region key c h).regions[k.region].waiting = [⟨0, c⟩] := by simp [zooArrived, upd]

variable (hroute : s.routeOf c = some k) (hheader : descHeader c = some h)
include hroute hheader

/-- Whether a descriptor that arrives at an empty zoo is ready. -/
theorem zooArrived_ready (hcommits : s.preparing = []) : (zooArrived s k.region key c h).zooReady k.region [] ⟨0, c⟩ = s.mayStart k.region h := by
  have hmay : (zooArrived s k.region key c h).mayStart k.region h = s.mayStart k.region h := State.mayStart_modRegion s k.region rfl h
  have hroute' : (zooArrived s k.region key c h).routeOf c = some k := hroute
  have hheld : (zooArrived s k.region key c h).commitHolds k c = false := State.commitHolds_of_none (s := zooArrived s k.region key c h) hcommits k c
  unfold State.zooReady
  simp [hroute', hheader, hmay, hheld]

theorem zooArrived_waits (hnot : s.mayStart k.region h = false) : (zooArrived s k.region key c h).zooReady k.region [] ⟨0, c⟩ = false := by
  have hmay : (zooArrived s k.region key c h).mayStart k.region h = s.mayStart k.region h := State.mayStart_modRegion s k.region rfl h
  have hroute' : (zooArrived s k.region key c h).routeOf c = some k := hroute
  unfold State.zooReady
  simp [hroute', hheader, hmay, hnot]

variable (hblock : k.block = none) (hlogic : s.logicOn k.region = true) (hqueue : s.regions[k.region].waiting = [])
  (hok : HeaderOk s k.region h k.engine (hClass h == k.queue) (get? s.regions[k.region].prevSeq (zooQueue k.engine k.queue k.unit)))
include hblock hlogic hqueue hok

/-- An admitted descriptor enters the empty zoo of its region. -/
theorem State.submit_zooArrives : s.submit c = (zooArrived s k.region (zooQueue k.engine k.queue k.unit) c h).pumpZooOnce k.region := by
  have hcheck : s.checkZooHeader k.region h k.engine k.queue k.unit = (none, zooNoted s k.region (zooQueue k.engine k.queue k.unit) h) := by
    unfold State.checkZooHeader
    dsimp only
    rw [headerStatus_of_headerOk hok, hok.sequence]
    rfl
  have harrived : ((zooNoted s k.region (zooQueue k.engine k.queue k.unit) h).modRegion k.region fun x => { x with waiting := x.waiting ++ [⟨0, c⟩] })
      = zooArrived s k.region (zooQueue k.engine k.queue k.unit) c h := by
    rw [zooNoted, State.modRegion_modRegion]
    refine State.modRegion_congr ?_
    rw [hqueue]
    rfl
  have hpump : ∀ x : State, x.regions[k.region].waiting = [⟨0, c⟩] → x.pumpZoo k.region = x.pumpZooOnce k.region := fun x hx => by
    rw [State.pumpZoo, hx]
    rfl
  unfold State.submit
  simp only [hroute, hheader, hblock, hlogic, hcheck, Bool.not_true, Bool.false_eq_true, if_false]
  exact (congrArg (State.pumpZoo · k.region) harrived).trans (hpump _ zooArrived_waiting)

/-- It waits there until it may start. -/
theorem State.submit_zooWaits (hnot : s.mayStart k.region h = false) : s.submit c = zooArrived s k.region (zooQueue k.engine k.queue k.unit) c h := by
  have hready := zooArrived_waits (key := zooQueue k.engine k.queue k.unit) hroute hheader hnot
  rw [State.submit_zooArrives hroute hheader hblock hlogic hqueue hok, State.pumpZooOnce, zooArrived_waiting]
  simp [nextReady, hready]

/-- It starts at once where it may. -/
theorem State.submit_zooStarts (hstart : ZooStarts s k.region h) : s.submit c = (zooNoted s k.region (zooQueue k.engine k.queue k.unit) h).startCmd c := by
  have hready : (zooArrived s k.region (zooQueue k.engine k.queue k.unit) c h).zooReady k.region [] ⟨0, c⟩ = true :=
    (zooArrived_ready hroute hheader hstart.commits).trans hstart.may
  rw [State.submit_zooArrives hroute hheader hblock hlogic hqueue hok, State.pumpZooOnce, zooArrived_waiting, nextReady_one hready]
  refine congrArg (State.startCmd · c) ?_
  rw [zooArrived, zooNoted, State.modRegion_modRegion]
  refine State.modRegion_congr ?_
  simp_all

end

end Sys2Proof.Machine

/-!
Transfers of the access and DMA engines (O47).
-/

namespace Sys2Proof.Machine

/-! ## What the parts of a transfer leave -/

/-- Memory, launch and slots, and the fault log: what the clauses on a transfer speak of. -/
structure Untold (s u : State) : Prop where
  mem : u.mem = s.mem
  standing : u.standing = s.standing
  log : u.log = s.log

namespace Untold

variable {s u w : State}

theorem refl (s : State) : Untold s s := ⟨rfl, rfl, rfl⟩

theorem trans (hsu : Untold s u) (huw : Untold u w) : Untold s w := ⟨huw.mem.trans hsu.mem, huw.standing.trans hsu.standing, huw.log.trans hsu.log⟩

theorem ite {c : Prop} [Decidable c] (hu : Untold s u) (hw : Untold s w) : Untold s (if c then u else w) := by
  split
  · exact hu
  · exact hw

theorem countRegion (s : State) (r : Fin 10) (k : Fin 16) (n : Nat) : Untold s (s.countRegion r k n) := ⟨rfl, rfl, rfl⟩

theorem countBlock (s : State) (r : Fin 10) (b : Fin 18) (k : Fin 18) (n : Nat) : Untold s (s.countBlock r b k n) := ite (refl s) ⟨rfl, rfl, rfl⟩

theorem countHbm (s : State) (r : Fin 10) (cls : Nat) (write : Bool) (n : Nat) : Untold s (s.countHbm r cls write n) := by
  have hchip : Untold s (s.countChip (if write then 5 else 4) n) := ⟨rfl, rfl, rfl⟩
  exact hchip.trans (ite (countRegion _ r 11 n) (ite (countRegion _ r 12 n) (countRegion _ r 13 n)))

theorem modBlock (s : State) (r : Fin 10) (b : Fin 18) {f : Block → Block} (hacc : (f (s.block r b)).acc = (s.block r b).acc)
    (hpoison : (f (s.block r b)).poison = (s.block r b).poison) : Untold s (s.modBlock r b f) := ⟨rfl, s.modBlock_standing r b hacc hpoison, rfl⟩

theorem touchLine (s : State) (r : Fin 10) (b : Fin 18) (line : Nat) (content : Bytes) : Untold s (s.touchLine r b line content) := by
  have hdraw : ∀ d : State, Untold s (s.drawNat 65 32 [(line : Int)]).2 := fun _ => ⟨rfl, rfl, rfl⟩
  exact ite (modBlock s r b rfl rfl) ((hdraw s).trans (modBlock _ r b rfl rfl))

theorem readLine (s : State) (r : Fin 10) (b : Fin 18) (line : Nat) : Untold s (s.readLine r b line).2 := by
  unfold State.readLine
  split
  · exact touchLine ..
  · exact (touchLine s r b line _).trans (countBlock _ r b 17 1)

theorem readCached (s : State) (r : Fin 10) (b : Fin 18) (a n : Nat) : Untold s (s.readCached r b a n).2 := by
  unfold State.readCached
  dsimp only
  generalize List.range _ = is
  suffices h : ∀ acc : Bytes × State, Untold s acc.2 → Untold s (is.foldl (fun acc i =>
      (acc.1 ++ (acc.2.readLine r b ((a / 256 + i) * 256)).1, (acc.2.readLine r b ((a / 256 + i) * 256)).2)) acc).2 from h _ (refl s)
  induction is with
  | nil => exact fun acc h => h
  | cons i is ih => exact fun acc h => ih _ (h.trans (readLine ..))

theorem startBlock (s : State) (r : Fin 10) (b : Fin 18) (h : BitVec 128) : Untold s (s.startBlock r b h) := ite (modBlock s r b rfl rfl) (refl s)

end Untold

/-! ## Events that a transfer survives (R48, R151, R156) -/

/-- What decides how a transfer goes on after its events: memory, launch and accesses, lost lanes, and whether the cache segment is on. -/
structure SameGrounds (s u : State) : Prop where
  mem : u.mem = s.mem
  standing : u.standing = s.standing
  marks : u.marks = s.marks
  cacheOn : u.cacheOn = s.cacheOn

namespace SameGrounds

variable {s u w : State}

theorem refl (s : State) : SameGrounds s s := ⟨rfl, rfl, rfl, rfl⟩

theorem trans (hsu : SameGrounds s u) (huw : SameGrounds u w) : SameGrounds s w :=
  ⟨huw.mem.trans hsu.mem, huw.standing.trans hsu.standing, huw.marks.trans hsu.marks, huw.cacheOn.trans hsu.cacheOn⟩

theorem ite {c : Prop} [Decidable c] (hu : SameGrounds s u) (hw : SameGrounds s w) : SameGrounds s (if c then u else w) := by
  split
  · exact hu
  · exact hw

theorem of_announces (h : Announces s u) : SameGrounds s u := by
  have hmarks : u.marks = s.marks := by rw [h.1]
  have hflag : u.flag (ob 0x3200 1) = s.flag (ob 0x3200 1) := by rw [State.flag, State.flag, State.nat, State.nat, State.int, State.int, h.2 _ (by decide)]
  exact ⟨h.mem, standing_of_announces h, hmarks, by rw [State.cacheOn, State.cacheOn, hflag, State.paceMode, State.paceMode, h.launch]⟩

theorem fault (s : State) (code : Nat) (loc : Loc) (detail part : Nat) : SameGrounds s (s.fault code loc detail part) := of_announces (fault_announces ..)

theorem bump (s : State) {key : Key} (hkey : ob 0x3200 1 ≠ key) : SameGrounds s (s.bump key) :=
  ⟨rfl, rfl, rfl, congrArg (· && !s.paceMode) (by rw [State.flag, State.flag, State.nat_bump_other s hkey])⟩

theorem modBlock (s : State) (r : Fin 10) (b : Fin 18) {f : Block → Block} (hacc : (f (s.block r b)).acc = (s.block r b).acc)
    (hpoison : (f (s.block r b)).poison = (s.block r b).poison) : SameGrounds s (s.modBlock r b f) := ⟨rfl, s.modBlock_standing r b hacc hpoison, rfl, rfl⟩

theorem modRegion (s : State) (r : Fin 10) {f : Region → Region} (hslots : (f s.regions[r]).slots = s.regions[r].slots) : SameGrounds s (s.modRegion r f) :=
  ⟨rfl, s.modRegion_standing r hslots, rfl, rfl⟩

theorem queueMapOut (s : State) (loc : BitVec 32) (cause : Nat) : SameGrounds s (s.queueMapOut loc cause) := by
  unfold State.queueMapOut
  split
  · split
    · exact modBlock s _ _ rfl rfl
    · exact modRegion s _ rfl
  · exact refl s

theorem eccCorrected (s : State) (p : MemRef) (lane syndrome : Nat) : SameGrounds s (s.eccCorrected p lane syndrome) := by
  have hcounted : SameGrounds s (s.bump (ob 0x3200 9)) := bump s (by decide)
  have hfault := fun loc detail => hcounted.trans (fault _ 0x0201 loc detail 0)
  unfold State.eccCorrected
  dsimp only
  split
  · split
    · exact ite (((hfault _ _).trans (modBlock _ _ _ rfl rfl)).trans (queueMapOut ..)) ((hfault _ _).trans (modBlock _ _ _ rfl rfl))
    · exact ite (((hfault _ _).trans (modRegion _ _ rfl)).trans (queueMapOut ..)) ((hfault _ _).trans (modRegion _ _ rfl))
  · exact hfault _ _

theorem markRead (h : SameGrounds s u) (reads : List (MemRef × Nat)) : u.markRead reads = s.markRead reads := by rw [State.markRead, State.markRead, h.marks]

end SameGrounds

/-- A corrected error, or a parity error of a tag: the transfer runs on. -/
def MildUpset (x : Upset) : Prop := (∃ p lane syn, x = .eccCorrected p lane syn) ∨ ∃ line, x = .tagParity line

section
variable {s : State} (r : Fin 10) (b : Nat) (h : BitVec 128)

theorem MildUpset.meets {x : Upset} (hmild : MildUpset x) (s : State) (st : Option Nat) :
    SameGrounds s (s.meetUpset r b h st x).1 ∧ (s.meetUpset r b h st x).2 = st ∧ upsetLost x = false := by
  rcases hmild with ⟨p, lane, syn, rfl⟩ | ⟨line, rfl⟩
  · exact ⟨.ite (.eccCorrected ..) (.refl s), rfl, rfl⟩
  · unfold State.meetUpset
    dsimp only
    split
    · exact ⟨(SameGrounds.modBlock s _ _ rfl rfl).trans (.fault ..), rfl, rfl⟩
    · exact ⟨.refl s, rfl, rfl⟩

/-- Mild events give no status, and what a transfer rests on stays. -/
theorem State.meetUpsets_mild {us : List Upset} {reads : List (MemRef × Nat)} (hmild : ∀ x ∈ us, MildUpset x) (hmark : s.markRead reads = none) :
    ∃ y, s.meetUpsets r b h us reads = (y, none) ∧ SameGrounds s y := by
  have hfold : ∀ (x : State), ∃ y, us.foldl (fun (acc : State × Option Nat) u => acc.1.meetUpset r b h acc.2 u) (x, none) = (y, none) ∧ SameGrounds x y := by
    induction us with
    | nil => exact fun x => ⟨x, rfl, .refl x⟩
    | cons u us ih =>
      intro x
      obtain ⟨hgrounds, hst, -⟩ := (hmild u (List.mem_cons_self ..)).meets r b h x none
      obtain ⟨y, hy, hrest⟩ := ih (fun v hv => hmild v (List.mem_cons_of_mem _ hv)) (x.meetUpset r b h none u).1
      refine ⟨y, ?_, hgrounds.trans hrest⟩
      rw [List.foldl_cons, ← hy]
      exact congrArg (fun st => us.foldl _ ((x.meetUpset r b h none u).1, st)) hst
  have hlost : us.any upsetLost = false := List.any_eq_false.mpr fun u hu => by simp [((hmild u hu).meets r b h s none).2.2]
  obtain ⟨y, hy, hgrounds⟩ := hfold s
  refine ⟨y, ?_, hgrounds⟩
  unfold State.meetUpsets
  simp only [hlost, hy, hgrounds.markRead, hmark, Bool.false_eq_true, if_false]

/-! ## A link whose retries are exhausted (R48, log entry 51) -/

theorem State.faultInRange_announces (range level : Nat) (loc : Loc) (detail part : Nat) :
    Announces (s.drawNat 64 8 [(range : Int)]).2 (s.faultInRange range level loc detail part) := (State.record_announces _ _).trans (State.tellDisplaced_announces ..)

theorem State.faultInRange_grounds (range level : Nat) (loc : Loc) (detail part : Nat) : SameGrounds s (s.faultInRange range level loc detail part) := by
  have hdraw : SameGrounds s (s.drawNat 64 8 [(range : Int)]).2 := ⟨rfl, rfl, rfl, rfl⟩
  exact hdraw.trans (.of_announces (State.faultInRange_announces ..))

/-- Such a fault writes the same to the log of two states with the same news, if the code that is left open comes out the same. -/
theorem SameNews.faultInRange {u : State} (hnews : SameNews s u) (hentropy : u.service.entropy = s.service.entropy) (range level : Nat) (loc : Loc) (detail part : Nat) :
    SameNews (s.faultInRange range level loc detail part) (u.faultInRange range level loc detail part) := by
  have hdraw : SameNews (s.drawNat 64 8 [(range : Int)]).2 (u.drawNat 64 8 [(range : Int)]).2 := ⟨hnews.log, hnews.now, hnews.node, hnews.crust, hnews.active⟩
  have hcode : (u.drawNat 64 8 [(range : Int)]).1 = (s.drawNat 64 8 [(range : Int)]).1 := by
    unfold State.drawNat State.draw
    rw [hentropy]
  unfold State.faultInRange
  dsimp only
  rw [hcode, hnews.now, hnews.log, hnews.nat (by decide)]
  exact (hdraw.record _).tellDisplaced _

end

end Sys2Proof.Machine

namespace Sys2Proof.Machine

/-! ## How a transfer ends -/

section
variable {x y : State} {r : Fin 10} {unit : Nat} {seg : Option (Fin 18)} {d : MoveDesc}

theorem State.runMove_address (hbad : x.badPlace d.src d.length = true ∨ (hReleaseHold d.header = false ∧ x.badPlace d.dst d.length = true)) :
    x.runMove r unit seg d = x.complete r unit d.header 0x0202 0 0 := by
  unfold State.runMove
  rcases hbad with hbad | ⟨hhold, hbad⟩
  · simp [hbad, stAddress]
  · simp [hbad, hhold, stAddress]

/-- The places of a transfer lie in their memories; one that goes to the release buffer has no destination. -/
structure GoodPlaces (x : State) (d : MoveDesc) : Prop where
  src : x.badPlace d.src d.length = false
  dst : hReleaseHold d.header = true ∨ x.badPlace d.dst d.length = false

/-- And it may access them. -/
structure MayMove (x : State) (d : MoveDesc) : Prop extends GoodPlaces x d where
  read : x.permits (hClass d.header) d.src d.length false = true
  write : x.mayDeliverOut d.header d.dst d.length = true

theorem GoodPlaces.runs (hgood : GoodPlaces x d) : (x.badPlace d.src d.length || (!hReleaseHold d.header && x.badPlace d.dst d.length)) = false := by
  rcases hgood.dst with h | h <;> simp [hgood.src, h]

theorem State.runMove_guard (hgood : GoodPlaces x d) (hhold : hReleaseHold d.header = false)
    (hnot : x.permits (hClass d.header) d.src d.length false = false ∨ x.permits (hClass d.header) d.dst d.length true = false) :
    ∃ p, x.runMove r unit seg d = x.endGuard r unit d.header p := by
  unfold State.runMove
  dsimp only
  rw [if_neg (by rw [hgood.runs]; decide)]
  by_cases hread : x.permits (hClass d.header) d.src d.length false = true
  · have hwrite : x.mayDeliverOut d.header d.dst d.length = false := by simpa [State.mayDeliverOut, hhold] using hnot.resolve_left (by simp [hread])
    exact ⟨d.dst, by simp [hread, hwrite]⟩
  · exact ⟨d.src, by simp [hread]⟩

section
variable (hmay : MayMove x d)
include hmay

theorem State.runMove_meets {st : Nat} (hmet : x.meetUpsets r unit d.header d.upsets [(d.src, d.length)] = (y, some st)) :
    x.runMove r unit seg d = y.complete r unit d.header st 0 0 (decide (st = stResidue)) := by
  unfold State.runMove
  simp [hmay.runs, hmay.read, hmay.write, hmet]

variable (hmet : x.meetUpsets r unit d.header d.upsets [(d.src, d.length)] = (y, none))
include hmet

theorem State.runMove_direct (hdirect : seg = none ∨ (y.cacheOn && hCacheable d.header && !hDataAddressed d.header && d.src.space == 0) = false) :
    x.runMove r unit seg d = y.finishMove r unit seg d (y.load d.src d.length) := by
  unfold State.runMove
  simp only [hmay.runs, hmay.read, hmay.write, hmet, Bool.not_true, Bool.false_eq_true, if_false]
  rcases hdirect with rfl | hdirect
  · rfl
  · cases seg with
    | none => rfl
    | some k => simp [hdirect]

theorem State.runMove_cached {k : Fin 18} (hseg : seg = some k) (hcached : (y.cacheOn && hCacheable d.header && !hDataAddressed d.header && d.src.space == 0) = true) :
    x.runMove r unit seg d = (y.readCached r k d.src.addr d.length).2.finishMove r unit seg d (y.readCached r k d.src.addr d.length).1 := by
  subst hseg
  unfold State.runMove
  simp only [hmay.runs, hmay.read, hmay.write, hmet, hcached, Bool.not_true, Bool.false_eq_true, if_false, if_true]

end

/-- The bytes are delivered, the cache segment and the counters follow, and the status record is written. -/
theorem State.finishMove_completes (bs : Bytes) :
    ∃ w, Untold (y.deliverOut r unit d.header d.dst bs) w ∧ y.finishMove r unit seg d bs = w.complete r unit d.header 0 0 d.length := by
  refine ⟨_, ?_, rfl⟩
  refine Untold.trans (Untold.trans ?_ (.ite (.countHbm ..) (.refl _))) (.ite (.countHbm ..) (.refl _))
  split
  · exact .ite (.modBlock _ _ _ rfl rfl) (.refl _)
  · exact .refl _

theorem State.deliverOut_store (hhold : hReleaseHold d.header = false) (bs : Bytes) : y.deliverOut r unit d.header d.dst bs = y.store d.dst bs := by
  simp [State.deliverOut, hhold]

/-! ## Outputs for the release buffer (R163, log entry 63) -/

/-- A whole primary output that finds the release buffers empty is their first. -/
theorem State.holdOutput_enters {h : BitVec 128} {im : Image} {e : HeldOutput} (himage : y.launch.image = some im)
    (hfind : (im.heldOutputs.find? fun e => e.region == r && e.block == unit && e.engine == hEngine h) = some e) (hshadow : e.shadow = false)
    (hbuffered : y.launch.buffered = []) (hdeferred : y.launch.deferred = []) (bs : Bytes) :
    y.holdOutput r unit h bs false = y.modLaunch fun l => { l with buffered := [⟨releaseBeat y.beat (hReleaseBeat h),
      { out := e.out, cls := hClass h, primary := { complete := !hChain h, invalid := false, payload := .bytes bs }, shadow := none }⟩] } := by
  have htakes : ∀ out n, y.bufferTakes out n = true := by simp [State.bufferTakes, hbuffered]
  unfold State.holdOutput State.enterBuffer
  simp [himage, hfind, hshadow, hbuffered, hdeferred, htakes, sideContinued, sideBegun, sideNone, State.modLaunch]

end

/-! ## Reads through the cache segment (R154, R155) -/

theorem cellsGet_take_drop (m : List Host.Cell) (a i n k : Nat) (h : i + n ≤ k) : ((cellsGet m a k).drop i).take n = cellsGet m (a + i) n := by
  refine List.ext_getElem (by simp [cellsGet_length]; omega) fun j _ _ => ?_
  simp [cellsGet, Nat.add_assoc]

/-- The bytes of a place in HBM are those of its line. -/
theorem State.load_line (s : State) {p : MemRef} {n : Nat} (hspace : p.space = 0) (hfits : p.addr % 256 + n ≤ 256) :
    ((s.load ⟨0, 0, 0, p.addr / 256 * 256⟩ 256).drop (p.addr % 256)).take n = s.load p n := by
  have hkey : p.key = p.addr / 256 * 256 + p.addr % 256 := by
    simp only [MemRef.key, hspace]
    omega
  show ((s.mem.get _ 256).drop _).take n = s.mem.get p n
  rw [Mem.get_eq, Mem.get_eq, cellsGet_take_drop _ _ _ _ _ hfits, hspace, hkey]
  rfl

/-- A read within one line gives the bytes that the line holds, or those of HBM. -/
theorem State.readCached_line (s : State) (r : Fin 10) (b : Fin 18) {a n : Nat} (hpos : 0 < n) (hfits : a % 256 + n ≤ 256) :
    (s.readCached r b a n).1 = ((s.readLine r b (a / 256 * 256)).1.drop (a % 256)).take n := by
  have hone : divUp (a % 256 + n) 256 = 1 := by
    unfold divUp
    omega
  unfold State.readCached
  simp [hone]

end Sys2Proof.Machine

namespace Sys2Proof.Machine

/-! ## Transfers that start as they arrive -/

/-- A transfer of a block's access engine or of a region's DMA engine that can start as it arrives, with what its header is checked against. -/
def StartsMove (s : State) (t : Nat) (r : Fin 10) (d : MoveDesc) (c : Instr) (engine unit : Nat) (classOk : Bool) (prev : Option Nat) : Prop :=
  (∃ b, c = .accessDescriptor t r b d ∧ engine = 0x02 ∧ unit = b.val ∧ classOk = s.blockAdmits r b (hClass d.header) ∧ prev = (s.block r b).prevSeq ∧ BlockStarts s r b c d.header)
    ∨ ∃ eng, c = .dmaDescriptor t r eng d ∧ engine = 0x18 ∧ unit = 18 ∧ classOk = (hClass d.header == d.queue)
      ∧ prev = get? s.regions[r].prevSeq (zooQueue 0x18 d.queue eng.val) ∧ ZooStarts s r d.header

/-- The state in which a transfer runs: the count of its command, and its queue's bookkeeping. -/
structure MoveReady (s : State) (t : Nat) (x : State) : Prop where
  rest : x = { s.advance t with blocks := x.blocks, regions := x.regions }
  standing : x.standing = s.standing

namespace MoveReady

variable {s x : State} {t : Nat} (h : MoveReady s t x)
include h

theorem news : SameNews (s.advance t) x := by
  rw [h.rest]
  exact ⟨rfl, rfl, rfl, rfl, fun _ _ => rfl⟩

theorem entropy : x.service.entropy = s.service.entropy := by
  rw [h.rest]
  rfl

theorem grounds : SameGrounds s x :=
  ⟨by rw [h.rest]; rfl, h.standing, by rw [h.rest]; rfl, by rw [h.rest]; rfl⟩

theorem badPlace (p : MemRef) (n : Nat) : x.badPlace p n = s.badPlace p n := by
  rw [State.badPlace, State.badPlace, State.inSegment, State.inSegment, h.grounds.cacheOn]

theorem mayMove {d : MoveDesc} (hmay : MayMove s d) : MayMove x d where
  src := (h.badPlace _ _).trans hmay.src
  dst := hmay.dst.imp id (h.badPlace _ _).trans
  read := (permits_of_standing h.standing _ _ _ _).trans hmay.read
  write := (congrArg (hReleaseHold d.header || ·) (permits_of_standing h.standing _ _ _ _)).trans hmay.write

end MoveReady

section
variable {s : State} {t : Nat} {r : Fin 10} {d : MoveDesc} {c : Instr} {engine unit : Nat} {classOk : Bool} {prev : Option Nat}
  (hmove : StartsMove s t r d c engine unit classOk prev)
include hmove

/-- An admitted transfer runs, by its block's cache segment or by none, and is counted. -/
theorem StartsMove.runs (hok : HeaderOk s r d.header engine classOk prev) : ∃ (x u : State) (seg : Option (Fin 18)), MoveReady s t x ∧ (engine = 0x18 → seg = none)
    ∧ (∀ b, c = .accessDescriptor t r b d → seg = some b ∧ (hInvalidate d.header = false → (x.block r b).cacheLines = (s.block r b).cacheLines))
    ∧ exec c s = .next u ∧ Untold (x.runMove r unit seg d) u := by
  rcases hmove with ⟨b, rfl, rfl, rfl, rfl, rfl, hstart⟩ | ⟨eng, rfl, rfl, rfl, rfl, rfl, hstart⟩
  · have hsubmit := State.submit_starts (s := s.advance t) (c := .accessDescriptor t r b d) (k := .ofBlock 2 r b) rfl rfl rfl hstart.logic hstart.queue
      ⟨hok.fields, hok.cls, hok.sequence, hok.status, hok.room⟩ ⟨hstart.logic, hstart.may, hstart.commits, hstart.queue, hstart.port, hstart.credit⟩
    refine ⟨(blockNoted (s.advance t) r b (.accessDescriptor t r b d) d.header).startBlock r b d.header, _, some b, ⟨?_, ?_⟩, nofun, fun b' hb => ?_,
      congrArg Host.Outcome.next hsubmit, .countBlock ..⟩
    · unfold State.startBlock
      split <;> rfl
    · exact (State.startBlock_standing ..).trans ((s.advance t).modBlock_standing r b rfl rfl)
    · obtain rfl : b = b' := by simpa using hb
      refine ⟨rfl, fun hkeep => ?_⟩
      simp only [State.startBlock, hkeep, blockNoted, Bool.false_eq_true, if_false, State.block_modBlock_self]
      rfl
  · have hsubmit := State.submit_zooStarts (s := s.advance t) (c := .dmaDescriptor t r eng d) (k := ⟨0x18, r, none, d.queue, eng.val⟩) rfl rfl rfl hstart.logic hstart.queue
      ⟨hok.fields, hok.cls, hok.sequence, hok.status, hok.room⟩ ⟨hstart.logic, hstart.may, hstart.commits, hstart.queue⟩
    exact ⟨zooNoted (s.advance t) r (zooQueue 0x18 d.queue eng.val) d.header, _, none, ⟨rfl, zooNoted_standing ..⟩, fun _ => rfl, nofun, congrArg Host.Outcome.next hsubmit,
      .countRegion ..⟩

/-- One whose header's fields are wrong is refused as it arrives. -/
theorem StartsMove.refused (hinvalid : headerInvalid d.header engine = true) :
    ∃ x : State, x.standing = s.standing ∧ x.mem = s.mem ∧ exec c s = .next (x.refuse r unit d.header 0x0200 0 true) := by
  rcases hmove with ⟨b, rfl, rfl, rfl, -, -, hstart⟩ | ⟨eng, rfl, rfl, rfl, -, -, hstart⟩
  · obtain ⟨x, hstanding, hmem, hsubmit⟩ := State.submit_block_invalid (s := s.advance t) (c := .accessDescriptor t r b d) rfl rfl hstart.logic hstart.queue hinvalid
    exact ⟨x, hstanding, hmem, congrArg Host.Outcome.next hsubmit⟩
  · obtain ⟨x, hcheck, hstanding, hmem⟩ : ∃ x : State, (s.advance t).checkZooHeader r d.header 0x18 d.queue eng.val = (some 0x0200, x) ∧ x.standing = s.standing ∧ x.mem = s.mem := by
      unfold State.checkZooHeader headerStatus
      simp only [hinvalid, if_true]
      refine ⟨_, rfl, ?_⟩
      split
      · exact ⟨(s.advance t).modRegion_standing r rfl, rfl⟩
      · exact ⟨rfl, rfl⟩
    refine ⟨x, hstanding, hmem, congrArg Host.Outcome.next ?_⟩
    have hlogic : (s.advance t).logicOn r = true := hstart.logic
    unfold State.submit
    simp only [show (s.advance t).routeOf (.dmaDescriptor t r eng d) = some ⟨0x18, r, none, d.queue, eng.val⟩ from rfl,
      show descHeader (.dmaDescriptor t r eng d) = some d.header from rfl, hlogic, hcheck, Bool.not_true, Bool.false_eq_true, if_false]
    rfl

end

end Sys2Proof.Machine

namespace Sys2Proof

open Machine

/-! ## What a transfer leaves -/

/-- A transfer has ended with a status and a count, and left the launch and all memory but some places. -/
structure MoveEnds (s u : State) (r : Fin 10) (h : BitVec 128) (status count : Nat) (places : List (MemRef × Nat)) : Prop where
  status : StatusIs u r h status 0 count false false
  leaves : Leaves places s u

namespace MoveEnds

variable {s u u' : State} {r : Fin 10} {h : BitVec 128} {status count : Nat} {places : List (MemRef × Nat)}

theorem untold (hends : MoveEnds s u r h status count places) (huntold : Untold u u') : MoveEnds s u' r h status count places :=
  ⟨statusIs_of_mem hends.status huntold.mem, hends.leaves.trans (.of_mem huntold.mem huntold.standing)⟩

theorem of_complete {x : State} {unit : Nat} (hleaves : Leaves places s x) (hpermits : s.permits (hClass h) (statusPlace r h) 16 true = true)
    (hplace : (statusPlace r h, 16) ∈ places) : MoveEnds s (x.complete r unit h status 0 count) r h status count places :=
  ⟨x.complete_statusIs _ _ _ _ _ _ _ _ ((permits_of_standing hleaves.standing ..).trans hpermits),
    hleaves.trans ((x.complete_leaves ..).mono fun p hp => ⟨_, hplace, by rw [List.mem_singleton.mp hp]; exact .refl _ (Nat.le_refl _)⟩)⟩

/-- What an ended transfer that moved nothing leaves. -/
theorem untouched (hends : MoveEnds s u r h status count [(statusPlace r h, 16)]) :
    ∀ (q : MemRef) (m : Nat), q.inside m = true → (q.space ≠ (statusPlace r h).space ∨ q.key + m ≤ (statusPlace r h).key ∨ (statusPlace r h).key + 16 ≤ q.key) →
      u.load q m = s.load q m := hends.leaves.kept

end MoveEnds

end Sys2Proof

/-!
The clauses on transfers, and O47.
-/

namespace Sys2Proof.Machine

theorem badPlace_cases {s : State} {p q : MemRef} {n : Nat} (h : p.inside n = false ∨ q.inside n = false ∨ s.inSegment p n = true ∨ s.inSegment q n = true) :
    s.badPlace p n = true ∨ s.badPlace q n = true := by
  simp only [State.badPlace, Bool.or_eq_true, Bool.not_eq_true']
  tauto

theorem badPlace_eq_false {s : State} {p : MemRef} {n : Nat} (hinside : p.inside n = true) (hsegment : s.inSegment p n = false) : s.badPlace p n = false := by
  simp [State.badPlace, hinside, hsegment]

theorem State.readLine_miss {s : State} {r : Fin 10} {b : Fin 18} {line : Nat} (h : get? (s.block r b).cacheLines line = none) :
    (s.readLine r b line).1 = s.load ⟨0, 0, 0, line⟩ 256 := by
  rw [State.readLine, h]

theorem State.readLine_hit {s : State} {r : Fin 10} {b : Fin 18} {line : Nat} {content : Bytes} (h : get? (s.block r b).cacheLines line = some content) :
    (s.readLine r b line).1 = content := by
  rw [State.readLine, h]

theorem State.load_length (s : State) (p : MemRef) (n : Nat) : (s.load p n).length = n := by
  show (s.mem.get p n).length = n
  rw [Mem.get_eq, cellsGet_length]

end Sys2Proof.Machine

namespace Sys2Proof

open Machine

/-- What a transfer that moved its bytes leaves, besides its destination. -/
theorem MoveEnds.rest {s u : State} {r : Fin 10} {h : BitVec 128} {status count n : Nat} {dst : MemRef}
    (hends : MoveEnds s u r h status count [(dst, n), (statusPlace r h, 16)]) (q : MemRef) (m : Nat) (hq : q.inside m = true) (hstatus : Apart q m (statusPlace r h) 16)
    (hdst : Apart q m dst n) : u.load q m = s.load q m :=
  hends.leaves.writes q m (space_lt_of_inside hq) (List.forall_mem_cons.mpr ⟨hdst, List.forall_mem_singleton.mpr hstatus⟩)

section
variable {s : State} {t : Nat} {r : Fin 10} {d : MoveDesc} {c : Instr} {engine unit : Nat} {classOk : Bool} {prev : Option Nat}
  (hmove : StartsMove s t r d c engine unit classOk prev)

/-! ## Transfers that move nothing -/

include hmove in
theorem move_refused (hinvalid : headerInvalid d.header engine = true) (hpermits : s.permits (hClass d.header) (statusPlace r d.header) 16 true = true) :
    Ends c s fun u => MoveEnds s u r d.header 0x0200 0 [(statusPlace r d.header, 16)] := by
  obtain ⟨x, hstanding, hmem, hexec⟩ := hmove.refused hinvalid
  exact ⟨_, hexec, x.refuse_statusIs _ _ _ _ ((permits_of_standing hstanding ..).trans hpermits), (Leaves.of_mem hmem hstanding).trans (x.refuse_leaves ..)⟩

variable (hok : HeaderOk s r d.header engine classOk prev)
include hmove hok

theorem move_address (hhold : hReleaseHold d.header = false) (hbad : s.badPlace d.src d.length = true ∨ s.badPlace d.dst d.length = true) :
    Ends c s fun u => MoveEnds s u r d.header 0x0202 0 [(statusPlace r d.header, 16)] ∧ u.log = s.log := by
  obtain ⟨x, u, seg, hready, -, -, hexec, huntold⟩ := hmove.runs hok
  have hrun := State.runMove_address (x := x) (r := r) (unit := unit) (seg := seg) (d := d) (hbad.imp (hready.badPlace _ _).trans fun h => ⟨hhold, (hready.badPlace _ _).trans h⟩)
  rw [hrun] at huntold
  refine ⟨u, hexec, (MoveEnds.of_complete (.of_mem hready.grounds.mem hready.standing) hok.status (List.mem_singleton_self _)).untold huntold, ?_⟩
  rw [huntold.log, State.complete_log, hready.news.log]
  rfl

theorem move_guard (hhold : hReleaseHold d.header = false) (hgood : GoodPlaces s d)
    (hnot : s.permits (hClass d.header) d.src d.length false = false ∨ s.permits (hClass d.header) d.dst d.length true = false) :
    Ends c s fun u => MoveEnds s u r d.header 0x0205 0 [(statusPlace r d.header, 16)] := by
  obtain ⟨x, u, seg, hready, -, -, hexec, huntold⟩ := hmove.runs hok
  have hgood' : GoodPlaces x d := ⟨(hready.badPlace _ _).trans hgood.src, hgood.dst.imp id (hready.badPlace _ _).trans⟩
  obtain ⟨p, hrun⟩ := State.runMove_guard (r := r) (unit := unit) (seg := seg) hgood' hhold
    (hnot.imp (permits_of_standing hready.standing ..).trans (permits_of_standing hready.standing ..).trans)
  rw [hrun] at huntold
  refine ⟨u, hexec, MoveEnds.untold ⟨?_, ?_⟩ huntold⟩
  · exact x.endGuard_statusIs _ _ ((permits_of_standing hready.standing ..).trans hok.status)
  · exact (Leaves.of_mem hready.grounds.mem hready.standing).trans (x.endGuard_leaves ..)

section
variable (hmay : MayMove s d)
include hmay

theorem move_lost {k : BadLane} (hupsets : d.upsets = []) (hmark : s.markRead [(d.src, d.length)] = some k) :
    Ends c s fun u => MoveEnds s u r d.header 0x0203 0 [(statusPlace r d.header, 16)] := by
  obtain ⟨x, u, seg, hready, -, -, hexec, huntold⟩ := hmove.runs hok
  have hmet : x.meetUpsets r unit d.header d.upsets [(d.src, d.length)] = (x.eccUncorrectable k (hSequence d.header) (hClass d.header), some stEcc) := by
    rw [hupsets, State.meetUpsets_nil, hready.grounds.markRead, hmark]
  rw [State.runMove_meets (hready.mayMove hmay) hmet] at huntold
  have hleaves : Leaves [(statusPlace r d.header, 16)] s (x.eccUncorrectable k (hSequence d.header) (hClass d.header)) :=
    .of_mem ((State.eccUncorrectable_mem ..).trans hready.grounds.mem) ((State.eccUncorrectable_standing ..).trans hready.standing)
  exact ⟨u, hexec, (MoveEnds.of_complete hleaves hok.status (List.mem_singleton_self _)).untold huntold⟩

theorem move_exhausted {link : Nat} (hupsets : d.upsets = [.retryExhausted link]) (hmark : s.markRead [(d.src, d.length)] = none) :
    Ends c s fun u => MoveEnds s u r d.header 0x0103 0 [(statusPlace r d.header, 16)]
      ∧ u.log = ((s.advance t).faultInRange 0x0100 (if unit < 18 then 1 else 2) (descLoc r unit) (at_ 32 32 (hSequence d.header)) (hClass d.header)).log := by
  obtain ⟨x, u, seg, hready, -, -, hexec, huntold⟩ := hmove.runs hok
  set y := x.faultInRange 0x0100 (if unit < 18 then 1 else 2) (descLoc r unit) (at_ 32 32 (hSequence d.header)) (hClass d.header) with hy
  have hgrounds : SameGrounds s y := hready.grounds.trans (State.faultInRange_grounds ..)
  have hmet : x.meetUpsets r unit d.header d.upsets [(d.src, d.length)] = (y, some 0x0103) := by
    have hread : y.markRead [(d.src, d.length)] = none := (hgrounds.markRead _).trans hmark
    rw [hupsets]
    show (match y.markRead [(d.src, d.length)] with | some k => _ | none => (y, some 0x0103)) = _
    rw [hread]
  rw [State.runMove_meets (hready.mayMove hmay) hmet] at huntold
  refine ⟨u, hexec, (MoveEnds.of_complete (.of_mem hgrounds.mem hgrounds.standing) hok.status (List.mem_singleton_self _)).untold huntold, ?_⟩
  rw [huntold.log, State.complete_log]
  exact (hready.news.faultInRange hready.entropy ..).log

/-! ## Transfers that move their bytes -/

section
variable (hhold : hReleaseHold d.header = false) (hapart : Apart d.dst d.length (statusPlace r d.header) 16)
include hhold hapart

omit hmove in
/-- Bytes that were read are written, and nothing else but the status record. -/
theorem moveEnds_of_finish {x y u : State} {seg : Option (Fin 18)} {bs : Bytes} (hleaves : Leaves [(d.dst, d.length), (statusPlace r d.header, 16)] s y)
    (hlength : bs.length = d.length) (hrun : x.runMove r unit seg d = y.finishMove r unit seg d bs) (huntold : Untold (x.runMove r unit seg d) u) :
    u.load d.dst d.length = bs ∧ MoveEnds s u r d.header 0 d.length [(d.dst, d.length), (statusPlace r d.header, 16)] ∧ u.log = y.log := by
  have hdst : d.dst.space < 3 := space_lt_of_inside (inside_of_goodPlace (hmay.dst.resolve_left (by simp [hhold])))
  obtain ⟨w, hw, hfinish⟩ := State.finishMove_completes (y := y) (r := r) (unit := unit) (seg := seg) (d := d) bs
  rw [hrun, hfinish] at huntold
  rw [State.deliverOut_store hhold] at hw
  have hstored : Leaves [(d.dst, d.length), (statusPlace r d.header, 16)] s w :=
    (hleaves.trans (.store (List.mem_cons_self ..) (.refl _ (Nat.le_of_eq hlength)) hdst)).trans (.of_mem hw.mem hw.standing)
  refine ⟨?_, (MoveEnds.of_complete hstored hok.status (List.mem_cons_of_mem _ (List.mem_singleton_self _))).untold huntold, ?_⟩
  · have hself := y.load_store_self d.dst bs
    rw [hlength] at hself
    rw [State.load_congr huntold.mem, (State.complete_leaves ..).writes d.dst d.length hdst fun p hp => by rw [List.mem_singleton.mp hp]; exact hapart,
      State.load_congr hw.mem, hself]
  · rw [huntold.log, State.complete_log, hw.log]
    rfl

theorem move_moves (hmild : ∀ x ∈ d.upsets, MildUpset x) (hmark : s.markRead [(d.src, d.length)] = none)
    (hdirect : s.cacheOn = false ∨ hCacheable d.header = false ∨ hDataAddressed d.header = true ∨ d.src.space ≠ 0 ∨ engine = 0x18) :
    Ends c s fun u => u.load d.dst d.length = s.load d.src d.length ∧ MoveEnds s u r d.header 0 d.length [(d.dst, d.length), (statusPlace r d.header, 16)]
      ∧ (d.upsets = [] → u.log = s.log) := by
  obtain ⟨x, u, seg, hready, hseg, -, hexec, huntold⟩ := hmove.runs hok
  obtain ⟨y, hmet, hgrounds⟩ := x.meetUpsets_mild r unit d.header hmild ((hready.grounds.markRead _).trans hmark)
  have hgrounds' := hready.grounds.trans hgrounds
  have hplain : seg = none ∨ (y.cacheOn && hCacheable d.header && !hDataAddressed d.header && d.src.space == 0) = false := by
    rcases hdirect with h | h | h | h | h
    · exact .inr (by simp [hgrounds'.cacheOn, h])
    · exact .inr (by simp [h])
    · exact .inr (by simp [h])
    · exact .inr (by simp [h])
    · exact .inl (hseg h)
  obtain ⟨hload, hends, hlog⟩ := moveEnds_of_finish hok hmay hhold hapart (.of_mem hgrounds'.mem hgrounds'.standing) (y.load_length d.src d.length)
    (State.runMove_direct (hready.mayMove hmay) hmet hplain) huntold
  refine ⟨u, hexec, hload.trans (State.load_congr hgrounds'.mem ..), hends, fun hnone => ?_⟩
  have hquiet : y = x := by
    rw [hnone, State.meetUpsets_nil, hready.grounds.markRead, hmark] at hmet
    exact (congrArg Prod.fst hmet).symm
  rw [hlog, hquiet, hready.news.log]
  rfl

/-- A read within one line of the cache segment. -/
theorem move_cached {b : Fin 18} (hc : c = .accessDescriptor t r b d) (hupsets : d.upsets = []) (hmark : s.markRead [(d.src, d.length)] = none) (hon : s.cacheOn = true)
    (hcacheable : hCacheable d.header = true) (haddressed : hDataAddressed d.header = false) (hkeep : hInvalidate d.header = false) (hspace : d.src.space = 0) (hpos : 0 < d.length)
    (hfits : d.src.addr % 256 + d.length ≤ 256) {content : Bytes}
    (hline : ∀ x : State, (x.block r b).cacheLines = (s.block r b).cacheLines → x.mem = s.mem → (x.readLine r b (d.src.addr / 256 * 256)).1 = content)
    (hlength : content.length = 256) :
    Ends c s fun u => u.load d.dst d.length = (content.drop (d.src.addr % 256)).take d.length
      ∧ MoveEnds s u r d.header 0 d.length [(d.dst, d.length), (statusPlace r d.header, 16)] := by
  obtain ⟨x, u, seg, hready, -, haccess, hexec, huntold⟩ := hmove.runs hok
  obtain ⟨hseg, hlines⟩ := haccess b hc
  have hmet : x.meetUpsets r unit d.header d.upsets [(d.src, d.length)] = (x, none) := by rw [hupsets, State.meetUpsets_nil, hready.grounds.markRead, hmark]
  have hread : (x.readCached r b d.src.addr d.length).1 = (content.drop (d.src.addr % 256)).take d.length := by
    rw [State.readCached_line x r b hpos hfits, hline x (hlines hkeep) hready.grounds.mem]
  have huncounted := Untold.readCached x r b d.src.addr d.length
  have hrun := State.runMove_cached (hready.mayMove hmay) hmet hseg (by simp [hready.grounds.cacheOn, hon, hcacheable, haddressed, hspace])
  obtain ⟨hload, hends, -⟩ := moveEnds_of_finish hok hmay hhold hapart
    (.of_mem (huncounted.mem.trans hready.grounds.mem) (huncounted.standing.trans hready.standing)) (by simp [hread, hlength]; omega) hrun huntold
  exact ⟨u, hexec, hload.trans hread, hends⟩

end

/-- A transfer with release_hold hands its bytes to the release buffer. -/
theorem move_held {im : Image} {e : HeldOutput} (hhold : hReleaseHold d.header = true) (hupsets : d.upsets = []) (hmark : s.markRead [(d.src, d.length)] = none)
    (hoff : s.cacheOn = false) (himage : s.launch.image = some im)
    (hfind : (im.heldOutputs.find? fun e => e.region == r && e.block == unit && e.engine == hEngine d.header) = some e) (hshadow : e.shadow = false)
    (hbuffered : s.launch.buffered = []) (hdeferred : s.launch.deferred = []) :
    Ends c s fun u => u.launch = { s.launch with buffered := [⟨releaseBeat s.beat (hReleaseBeat d.header),
          { out := e.out, cls := hClass d.header, primary := { complete := !hChain d.header, invalid := false, payload := .bytes (s.load d.src d.length) }, shadow := none }⟩] }
      ∧ StatusIs u r d.header 0 0 d.length false false ∧ WritesOnly [(statusPlace r d.header, 16)] s u := by
  obtain ⟨x, u, seg, hready, -, -, hexec, huntold⟩ := hmove.runs hok
  have hlaunch := launch_of_standing hready.standing
  have hmet : x.meetUpsets r unit d.header d.upsets [(d.src, d.length)] = (x, none) := by rw [hupsets, State.meetUpsets_nil, hready.grounds.markRead, hmark]
  rw [State.runMove_direct (hready.mayMove hmay) hmet (.inr (by simp [hready.grounds.cacheOn, hoff]))] at huntold
  obtain ⟨w, hw, hfinish⟩ := State.finishMove_completes (y := x) (r := r) (unit := unit) (seg := seg) (d := d) (x.load d.src d.length)
  have hbeat : x.beat = s.beat := by rw [State.beat, State.beat, hlaunch]
  rw [State.deliverOut, if_pos hhold, State.holdOutput_enters (by rw [hlaunch, himage]) hfind hshadow (by rw [hlaunch, hbuffered]) (by rw [hlaunch, hdeferred]), hbeat,
    State.load_congr hready.grounds.mem] at hw
  rw [hfinish] at huntold
  have hpermits : w.permits (hClass d.header) (statusPlace r d.header) 16 true = true :=
    ((permits_of_standing hw.standing ..).trans (permits_of_standing hready.standing ..)).trans hok.status
  refine ⟨u, hexec, ?_, ?_, ?_⟩
  · rw [launch_of_standing huntold.standing, launch_of_standing (State.complete_standing ..), launch_of_standing hw.standing, ← hlaunch]
    rfl
  · exact statusIs_of_mem (w.complete_statusIs _ _ _ _ _ _ _ _ hpermits) huntold.mem
  · exact ((WritesOnly.of_mem (hw.mem.trans hready.grounds.mem)).trans (State.complete_leaves ..).writes).trans (.of_mem huntold.mem)

end

end

end Sys2Proof

namespace Sys2Proof

open Machine

/-- Settles O47: arrivals by `State.submit_starts` and its companions, transfers by how `State.runMove` ends. -/
theorem transfersMoveExactlyTheirBytes : Obligations.TransfersMoveExactlyTheirBytes := by
  refine ⟨fun s c k h hroute hheader => ?_, fun s t r d c engine unit classOk prev hmove => ⟨fun hinvalid hpermits _ => ?_, fun hok hhold => ⟨fun hbad => ?_,
    fun hsrc hdst hsrc' hdst' => ⟨fun hnot => ?_, fun hread hwrite hapart => ?_⟩⟩, fun im e hok hhold hupsets hmark hoff hsrc hread himage hfind hshadow hbuffered hdeferred => ?_⟩⟩
  · have hexec := exec_submit hroute
    refine ⟨fun hoff => ?_, fun b hblock hfull => ?_, fun b hblock hok => ⟨fun hstart => ?_, fun hlogic hqueue hwaits => ?_⟩, fun hblock hok => ⟨fun hstart => ?_, fun hlogic hqueue hnot => ?_⟩⟩
    · rw [hexec, State.submit_off hroute hheader hoff]
    · rw [hexec, State.submit_full hroute hheader hblock hfull]
    · rw [hexec, State.submit_starts hroute hheader hblock hstart.logic hstart.queue ⟨hok.fields, hok.cls, hok.sequence, hok.status, hok.room⟩
        ⟨hstart.logic, hstart.may, hstart.commits, hstart.queue, hstart.port, hstart.credit⟩]
    · rw [hexec, State.submit_waits hroute hheader hblock hlogic hqueue ⟨hok.fields, hok.cls, hok.sequence, hok.status, hok.room⟩ hwaits]
      rfl
    · rw [hexec, State.submit_zooStarts hroute hheader hblock hstart.logic hstart.queue ⟨hok.fields, hok.cls, hok.sequence, hok.status, hok.room⟩
        ⟨hstart.logic, hstart.may, hstart.commits, hstart.queue⟩]
      rfl
    · rw [hexec, State.submit_zooWaits hroute hheader hblock hlogic hqueue ⟨hok.fields, hok.cls, hok.sequence, hok.status, hok.room⟩ hnot]
      rfl
  · obtain ⟨u, hexec, hends⟩ := move_refused hmove hinvalid hpermits
    exact ⟨u, hexec, hends.status, hends.untouched, hends.leaves.launch⟩
  · obtain ⟨u, hexec, hends, hlog⟩ := move_address hmove hok hhold (badPlace_cases hbad)
    exact ⟨u, hexec, hends.status, hends.untouched, hends.leaves.launch, hlog⟩
  · obtain ⟨u, hexec, hends⟩ := move_guard hmove hok hhold ⟨badPlace_eq_false hsrc hsrc', .inr (badPlace_eq_false hdst hdst')⟩ hnot
    exact ⟨u, hexec, hends.status, hends.untouched, hends.leaves.launch⟩
  · have hmay : MayMove s d := ⟨⟨badPlace_eq_false hsrc hsrc', .inr (badPlace_eq_false hdst hdst')⟩, hread, by simp [State.mayDeliverOut, hwrite]⟩
    refine ⟨fun k hupsets hmark => ?_, fun link hupsets hmark => ?_, fun hmild hmark hdirect => ?_,
      fun b hc hupsets hmark hon hcacheable haddressed hkeep hspace hpos hfits => ⟨fun hmiss => ?_, fun line hhit hlength => ?_⟩⟩
    · obtain ⟨u, hexec, hends⟩ := move_lost hmove hok hmay hupsets hmark
      exact ⟨u, hexec, hends.status, hends.untouched, hends.leaves.launch⟩
    · obtain ⟨u, hexec, hends, hlog⟩ := move_exhausted hmove hok hmay hupsets hmark
      exact ⟨u, hexec, hends.status, hends.untouched, hends.leaves.launch, hlog⟩
    · obtain ⟨u, hexec, hload, hends, hlog⟩ := move_moves hmove hok hmay hhold hapart hmild hmark hdirect
      exact ⟨u, hexec, hload, hends.status, hends.rest, hends.leaves.launch, hlog⟩
    · obtain ⟨u, hexec, hload, hends⟩ := move_cached hmove hok hmay hhold hapart hc hupsets hmark hon hcacheable haddressed hkeep hspace hpos hfits
        (fun x hlines hmem => (State.readLine_miss (by rw [hlines, hmiss])).trans (State.load_congr hmem ..)) (s.load_length ..)
      exact ⟨u, hexec, hload.trans (s.load_line hspace hfits), hends.status, hends.rest⟩
    · obtain ⟨u, hexec, hload, hends⟩ := move_cached hmove hok hmay hhold hapart hc hupsets hmark hon hcacheable haddressed hkeep hspace hpos hfits
        (fun x hlines _ => State.readLine_hit (by rw [hlines, hhit])) hlength
      exact ⟨u, hexec, hload, hends.status, hends.rest⟩
  · have hsegment : s.inSegment d.src d.length = false := by simp [State.inSegment, hoff]
    have hmay : MayMove s d := ⟨⟨badPlace_eq_false hsrc hsegment, .inl hhold⟩, hread, by simp [State.mayDeliverOut, hhold]⟩
    obtain ⟨u, hexec, hlaunch, hstatus, hwrites⟩ := move_held hmove hok hmay hhold hupsets hmark hoff himage hfind hshadow hbuffered hdeferred
    exact ⟨u, hexec, hlaunch, hstatus, fun q m hq hapart => hwrites q m (space_lt_of_inside hq) fun p hp => by rw [List.mem_singleton.mp hp]; exact hapart⟩

end Sys2Proof

/-!
How descriptors of the attention engine start and are refused (R246, R247, R259; O56).
-/

namespace Sys2Proof.Machine

/-! ## What the ends of a descriptor leave of the pools and of what a fault writes -/

section
variable (s : State) (r : Fin 10) (h : BitVec 128)

theorem State.complete_kv (b : Nat) (status detail count : Nat) (invalid late : Bool) : (s.complete r b h status detail count invalid late).kv = s.kv :=
  s.complete_keeps State.kv (fun _ _ _ => rfl) (fun _ _ => rfl) ..

theorem State.react_kv (cause code : Nat) (axes : BitVec 16) : (s.react cause code axes).kv = s.kv := by
  have haxes : ∀ x : State, (x.axesOff axes).kv = x.kv := fun x => foldl_keeps State.kv (fun a k => by split <;> rfl) _ x
  unfold State.react State.reactAt
  dsimp only
  split
  · rfl
  · rw [State.fault_kv]
    show (if _ then _ else _ : State).kv = _
    split
    · exact State.outputOff_keeps State.kv (fun _ _ => rfl) _
    · exact haxes _

theorem State.endGuard_kv (b : Nat) (p : MemRef) : (s.endGuard r b h p).kv = s.kv := by
  have hguard : (s.guardRefused (hClass h) p r.val).kv = s.kv := by
    unfold State.guardRefused
    dsimp only
    split
    · exact State.react_kv ..
    · exact State.fault_kv ..
  exact (State.complete_kv ..).trans hguard

theorem State.eccUncorrectable_kv (k : BadLane) (seq cls : Nat) : (s.eccUncorrectable k seq cls).kv = s.kv := by
  have hqueue : ∀ (x : State) (loc : BitVec 32) (cause : Nat), (x.queueMapOut loc cause).kv = x.kv := fun x loc cause => by
    unfold State.queueMapOut
    split
    · split <;> rfl
    · rfl
  unfold State.eccUncorrectable
  dsimp only
  split
  · exact State.fault_kv ..
  · exact (hqueue ..).trans (State.fault_kv ..)

theorem State.refuse_kv (b status detail : Nat) (counted : Bool) : (s.refuse r b h status detail counted).kv = s.kv := by
  unfold State.refuse
  cases counted <;> exact (State.fault_kv ..).trans (State.complete_kv ..)

end

namespace SameNews

theorem store (s : State) (p : MemRef) (bs : Bytes) : SameNews s (s.store p bs) := ⟨rfl, rfl, rfl, rfl, fun _ _ => rfl⟩

theorem complete (s : State) (r : Fin 10) (b : Nat) (h : BitVec 128) (status detail count : Nat) (invalid late : Bool) :
    SameNews s (s.complete r b h status detail count invalid late) :=
  ite (ite (((store s _ _).trans (emit _ _)).trans (emit _ _)) ((store s _ _).trans (emit _ _))) (refl s)

theorem modSeq (s : State) (n : Nat) (f : KvSeq → KvSeq) : SameNews s (s.modSeq n f) := by
  unfold State.modSeq
  split
  · exact refl s
  · exact ⟨rfl, rfl, rfl, rfl, fun _ _ => rfl⟩

end SameNews

/-! ## An attention descriptor that starts (R246, R247) -/

section
variable {s : State} {r : Fin 10} {p : Fin 4} {h : BitVec 128} {ok : Bool} {run : State → State}

theorem State.attention_refuses (hno : ok = false ∨ s.flag (poolObj p 1) = false ∨ s.nat (poolObj p 3) ≠ r.val) : s.attention r p h ok run = s.refuseKv r p h := by
  refine if_pos ?_
  rcases hno with h | h | h <;> simp [h]

theorem State.attention_passes (hok : ok = true) (henabled : s.flag (poolObj p 1) = true) (howner : s.nat (poolObj p 3) = r.val) :
    s.attention r p h ok run = if s.nat (poolObj p 2) ≠ hClass h then s.endGuard r 18 h ⟨0, 0, 0, 0⟩ else ((run s).showKv s p).countTokens r 1 :=
  if_neg (by simp [hok, henabled, howner])

end

/-- The state in which a descriptor of the attention engine starts. -/
def attentionStart (s : State) (t : Nat) (r : Fin 10) (queue : Nat) (h : BitVec 128) : State := zooNoted (s.advance t) r (zooQueue 0x11 queue 0) h

end Sys2Proof.Machine

namespace Sys2Proof

open Machine

/-- A command of the attention engine, with its pool, header and queue, whether its body holds to its map, and what it runs. -/
inductive IsAttention (t : Nat) (r : Fin 10) : Instr → Fin 4 → BitVec 128 → Nat → Bool → (State → State) → Prop where
  | append (d : AppendDesc) : IsAttention t r (.kvAppend t r d) d.pool d.header d.queue (appendOk d) fun s => s.runAppend r d
  | attend (d : ZooDesc) (missing : Option Nat) : IsAttention t r (.attend t r d missing) (aPool d) d.header d.queue (attendOk d) fun s => s.runAttend r d missing
  | page {d : PageDesc} {c : Instr} {run : State → State} (hc : IsPage t r d c run) : IsAttention t r c d.pool d.header d.queue (hOperation d.header == 3) run

theorem isPage_of {t : Nat} {r : Fin 10} {d : PageDesc} {c : Instr} (h : c = .pageCtrlOpen t r d ∨ c = .pageCtrlClose t r d ∨ c = .pageCtrlTrim t r d
    ∨ c = .pageCtrlPin t r d ∨ c = .pageCtrlUnpin t r d ∨ c = .pageCtrlResume t r d ∨ c = .pageCtrlSet t r d) : ∃ run, IsPage t r d c run := by
  rcases h with rfl | rfl | rfl | rfl | rfl | rfl | rfl
  exacts [⟨_, .opening⟩, ⟨_, .close⟩, ⟨_, .trim⟩, ⟨_, .pin⟩, ⟨_, .unpin⟩, ⟨_, .resume⟩, ⟨_, .set⟩]

namespace IsAttention

variable {s : State} {t : Nat} {r : Fin 10} {c : Instr} {p : Fin 4} {h : BitVec 128} {queue : Nat} {ok : Bool} {run : State → State}
  (hc : IsAttention t r c p h queue ok run)
include hc

theorem exec : Machine.exec c s = .next ((s.advance t).submit c) := by
  cases hc with
  | append | attend => rfl
  | page hc => exact hc.exec

theorem route (x : State) : x.routeOf c = some (.ofZoo 0x11 r queue) := by
  cases hc with
  | append | attend => rfl
  | page hc => exact hc.route x

theorem header : descHeader c = some h := by
  cases hc with
  | append | attend => rfl
  | page hc => exact hc.header

theorem startCmd (x : State) : x.startCmd c = x.attention r p h ok run := by
  cases hc with
  | append | attend => rfl
  | page hc => exact hc.startCmd x

theorem starts (hstart : ZooStarts s r h) (hok : HeaderOk s r h 0x11 (hClass h == queue) (get? s.regions[r].prevSeq (zooQueue 0x11 queue 0))) :
    Machine.exec c s = .next ((attentionStart s t r queue h).attention r p h ok run) :=
  hc.exec.trans (congrArg Host.Outcome.next ((State.submit_zoo (s := s.advance t) hc.route hc.header ⟨hstart.logic, hstart.may, hstart.commits, hstart.queue⟩
    ⟨hok.fields, hok.cls, hok.sequence, hok.status, hok.room⟩).trans (hc.startCmd _)))

end IsAttention

/-- An attention descriptor that its engine admits: it can start, and its header is right (R165). -/
structure AttentionAdmitted (s : State) (r : Fin 10) (h : BitVec 128) (queue : Nat) : Prop where
  starts : ZooStarts s r h
  header : HeaderOk s r h 0x11 (hClass h == queue) (get? s.regions[r].prevSeq (zooQueue 0x11 queue 0))

/-! ## How it ends with its pool as it was -/

/-- An attention descriptor has ended with a status, and left the pools, the launch and all memory but its status record. -/
structure KvEnds (s u : State) (r : Fin 10) (h : BitVec 128) (status detail : Nat) (invalid : Bool) : Prop where
  ends : QuantEnds s u r h status detail 0 invalid 16
  kv : u.kv = s.kv

namespace KvEnds

variable {s u : State} {r : Fin 10} {h : BitVec 128} {status detail : Nat} {invalid : Bool} (hends : KvEnds s u r h status detail invalid)
include hends

theorem countTokens (k : Fin 16) : KvEnds s (u.countTokens r k) r h status detail invalid := ⟨hends.ends.countTokens k, hends.kv⟩

theorem fault (code : Nat) (loc : Loc) (detail' part : Nat) : KvEnds s (u.fault code loc detail' part) r h status detail invalid :=
  ⟨⟨statusIs_of_mem hends.ends.status (State.fault_mem ..), hends.ends.leaves.trans (.of_mem (State.fault_mem ..) (State.fault_standing ..))⟩, (State.fault_kv ..).trans hends.kv⟩

theorem bump (key : Key) (n : Nat := 1) : KvEnds s (u.bump key n) r h status detail invalid :=
  ⟨⟨hends.ends.status, hends.ends.leaves.trans (.of_mem rfl rfl)⟩, hends.kv⟩

theorem statusIs : StatusIs u r h status detail 0 invalid false := hends.ends.status

theorem kept : (∀ (q : MemRef) (k : Nat), q.inside k = true → Apart q k (statusPlace r h) 16 → u.load q k = s.load q k) ∧ u.kv = s.kv ∧ u.launch = s.launch :=
  ⟨hends.ends.leaves.kept, hends.kv, hends.ends.leaves.launch⟩

end KvEnds

section
variable {s x : State} {t : Nat} {r : Fin 10} {p : Fin 4} {h : BitVec 128} (hkv : x.kv = s.kv) (hmem : x.mem = s.mem) (hstanding : x.standing = s.standing)
  (hstatus : s.permits (hClass h) (statusPlace r h) 16 true = true)
include hkv hmem hstanding hstatus

theorem kvEnds_complete (status detail : Nat) (invalid : Bool) : KvEnds s (x.complete r 18 h status detail 0 invalid) r h status detail invalid :=
  ⟨quantEnds_complete hmem hstanding hstatus .., (State.complete_kv ..).trans hkv⟩

theorem kvEnds_guard (q : MemRef) : KvEnds s (x.endGuard r 18 h q) r h 0x0205 0 false :=
  ⟨quantEnds_guard hmem hstanding hstatus q, (State.endGuard_kv ..).trans hkv⟩

theorem kvEnds_refuseKv : KvEnds s (x.refuseKv r p h) r h 0x0200 0x0600 false := (kvEnds_complete hkv hmem hstanding hstatus 0x0200 0x0600 false).fault ..

/-- KV_EXHAUSTED, with its fault or without. -/
theorem kvEnds_exhausted (n cause : Nat) (told : Bool) : KvEnds s (x.exhaustKv r p h n cause told) r h 0x0600 cause false := by
  have hends := (kvEnds_complete hkv hmem hstanding hstatus 0x0600 cause false).bump (ob 0x3800 6)
  unfold State.exhaustKv
  cases told with
  | false => exact hends
  | true => exact hends.fault ..

end

section
variable {s x : State} {t : Nat} {r : Fin 10} {p : Fin 4} {h : BitVec 128} (hnews : SameNews (s.advance t) x)
include hnews

theorem refuseKv_log : (x.refuseKv r p h).log = ((s.advance t).fault 0x0601 (poolLoc r p) (at_ 32 32 (hSequence h) ||| at_ 8 0 (hOperation h)) (hClass h)).log :=
  ((hnews.trans (.complete ..)).fault ..).log

theorem exhausted_news (cause : Nat) : SameNews (s.advance t) ((x.complete r 18 h stKvExhausted cause 0).bump (ob 0x3800 6)) :=
  (hnews.trans (.complete ..)).trans (.bump_other _ 1 (by decide))

theorem exhaustKv_log_untold (n cause : Nat) : (x.exhaustKv r p h n cause false).log = s.log := (exhausted_news hnews cause).log

theorem exhaustKv_log_told (n cause : Nat) : (x.exhaustKv r p h n cause true).log
    = ((s.advance t).fault 0x0602 (poolLoc r p) (at_ 32 32 (hSequence h) ||| at_ 12 20 n ||| at_ 8 0 cause) (hClass h)).log := ((exhausted_news hnews cause).fault ..).log

end

section
variable {s : State} {t : Nat} {r : Fin 10} {queue : Nat} {h : BitVec 128}

theorem attentionStart_standing : (attentionStart s t r queue h).standing = s.standing := zooNoted_standing ..

theorem attentionStart_mem : (attentionStart s t r queue h).mem = s.mem := rfl

theorem attentionStart_kv : (attentionStart s t r queue h).kv = s.kv := rfl

theorem attentionStart_nat (key : Key) : (attentionStart s t r queue h).nat key = s.nat key := rfl

theorem attentionStart_news : SameNews (s.advance t) (attentionStart s t r queue h) := ⟨rfl, rfl, rfl, rfl, fun _ _ => rfl⟩

variable {c : Instr} {p : Fin 4} {ok : Bool} {run : State → State} (hc : IsAttention t r c p h queue ok run)
include hc

/-! ## Refusals -/

/-- One whose header's fields are wrong is refused as it arrives. -/
theorem attention_invalid (hstart : ZooStarts s r h) (hinvalid : headerInvalid h 0x11 = true) (hstatus : s.permits (hClass h) (statusPlace r h) 16 true = true) :
    Ends c s fun u => KvEnds s u r h 0x0200 0 false := by
  obtain ⟨x, hcheck, hmem, hstanding, hkv⟩ : ∃ x : State, (s.advance t).checkZooHeader r h 0x11 queue 0 = (some 0x0200, x) ∧ x.mem = s.mem ∧ x.standing = s.standing ∧ x.kv = s.kv := by
    unfold State.checkZooHeader headerStatus
    simp only [hinvalid, if_true]
    refine ⟨_, rfl, ?_⟩
    split
    · exact ⟨rfl, (s.advance t).modRegion_standing r rfl, rfl⟩
    · exact ⟨rfl, rfl, rfl⟩
  have hsubmit : (s.advance t).submit c = x.refuse r 18 h 0x0200 0 true := by
    have hlogic : (s.advance t).logicOn r = true := hstart.logic
    unfold State.submit
    simp only [hc.route, hc.header, Route.ofZoo, hlogic, hcheck, Bool.not_true, Bool.false_eq_true, if_false]
    rfl
  exact ⟨_, hc.exec, hsubmit ▸ ⟨quantEnds_refuse hmem hstanding hstatus _ _ _, (State.refuse_kv ..).trans hkv⟩⟩

variable (hadmitted : AttentionAdmitted s r h queue)
include hadmitted

theorem attention_refused (hno : ok = false ∨ s.flag (poolObj p 1) = false ∨ s.nat (poolObj p 3) ≠ r.val) : Ends c s fun u => KvEnds s u r h 0x0200 0x0600 false
    ∧ u.log = ((s.advance t).fault 0x0601 (poolLoc r p) (at_ 32 32 (hSequence h) ||| at_ 8 0 (hOperation h)) (hClass h)).log := by
  have hrun := State.attention_refuses (s := attentionStart s t r queue h) (h := h) (run := run) hno
  exact ⟨_, (hc.starts hadmitted.starts hadmitted.header).trans (congrArg Host.Outcome.next hrun),
    kvEnds_refuseKv attentionStart_kv attentionStart_mem attentionStart_standing hadmitted.header.status, refuseKv_log attentionStart_news⟩

variable (hok : ok = true) (henabled : s.flag (poolObj p 1) = true) (howner : s.nat (poolObj p 3) = r.val)
include hok henabled howner

theorem attention_guarded (hcls : s.nat (poolObj p 2) ≠ hClass h) : Ends c s fun u => KvEnds s u r h 0x0205 0 false := by
  have hrun := (State.attention_passes (s := attentionStart s t r queue h) (h := h) (run := run) hok henabled howner).trans (if_pos hcls)
  exact ⟨_, (hc.starts hadmitted.starts hadmitted.header).trans (congrArg Host.Outcome.next hrun),
    kvEnds_guard attentionStart_kv attentionStart_mem attentionStart_standing hadmitted.header.status _⟩

variable (hcls : s.nat (poolObj p 2) = hClass h)
include hcls

/-- One that passes runs, and the records that it has changed go to their places. -/
theorem attention_runs : Machine.exec c s
    = .next (((run (attentionStart s t r queue h)).showKv (attentionStart s t r queue h) p).countTokens r 1) := by
  have hrun := (State.attention_passes (s := attentionStart s t r queue h) (h := h) (run := run) hok henabled howner).trans (if_neg (not_not_intro hcls))
  exact (hc.starts hadmitted.starts hadmitted.header).trans (congrArg Host.Outcome.next hrun)

/-- Where it leaves the pools, there is no record to show. -/
theorem attention_runs_quiet {y : State} (hrun : run (attentionStart s t r queue h) = y) (hkv : y.kv = s.kv) : Machine.exec c s = .next (y.countTokens r 1) := by
  rw [attention_runs hc hadmitted hok henabled howner hcls, hrun, State.showKv_same (hkv.trans attentionStart_kv.symm)]

/-- It ends, and the pools are as before. -/
theorem attention_ends {y : State} {status detail : Nat} {invalid : Bool} (hrun : run (attentionStart s t r queue h) = y) (hends : KvEnds s y r h status detail invalid) :
    Ends c s fun u => KvEnds s u r h status detail invalid ∧ u.log = y.log :=
  ⟨_, attention_runs_quiet hc hadmitted hok henabled howner hcls hrun hends.kv, hends.countTokens 1, rfl⟩

end

end Sys2Proof

/-!
KV_APPEND (R250, R251, R260; O56).
-/

namespace Sys2Proof.Machine

/-! ## The branches of an append -/

section
variable {s y : State} {r : Fin 10} {d : AppendDesc} {q : KvSeq}

/-- The rows that an append reads. -/
def appendReads (r : Fin 10) (q : KvSeq) (d : AppendDesc) : List (MemRef × Nat) := [(rmemAt r.val d.source, d.tokens * rowBytes q.srcFormat q.dSrc)]

theorem State.runAppend_closed (h : s.seqOf d.sequence = none) : s.runAppend r d = s.refuseKv r d.pool d.header := by
  unfold State.runAppend
  simp only [h]

/-- An append to a sequence of its pool. -/
structure AppendAsks (s : State) (d : AppendDesc) (q : KvSeq) : Prop where
  seq : s.seqOf d.sequence = some q
  pool : q.pool = d.pool

theorem AppendAsks.stalled (hasks : AppendAsks s d q) (hstate : q.state = 2) : s.runAppend r d = s.exhaustKv r d.pool d.header d.sequence 1 false := by
  unfold State.runAppend
  simp only [hasks.seq, hasks.pool, hstate, ne_eq, not_true_eq_false, if_false, if_true]

/-- And the sequence is not stalled. -/
structure AppendActive (s : State) (d : AppendDesc) (q : KvSeq) : Prop extends AppendAsks s d q where
  active : q.state ≠ 2

namespace AppendActive

variable (hasks : AppendActive s d q)
include hasks

theorem overflows (hfull : 2 ^ 20 < s.untrimmed + d.tokens) : s.runAppend r d = s.exhaustKv r d.pool d.header d.sequence 2 true := by
  unfold State.runAppend
  simp only [hasks.seq, hasks.pool, hasks.active, hfull, ne_eq, not_true_eq_false, if_false, if_true]

variable (hfits : s.untrimmed + d.tokens ≤ 2 ^ 20)
include hfits

theorem outruns (hrows : s.logRows < q.length - q.firstValid + d.tokens) : s.runAppend r d = s.exhaustKv r d.pool d.header d.sequence 3 true := by
  unfold State.runAppend
  simp only [hasks.seq, hasks.pool, hasks.active, Nat.not_lt.mpr hfits, hrows, ne_eq, not_true_eq_false, if_false, if_true]

variable (hrows : q.length - q.firstValid + d.tokens ≤ s.logRows)
include hrows

/-- A place that is refused ends it. -/
theorem checked (hcheck : s.checkPlaces r d.header (s.appendPlaces r q d) = some y) : s.runAppend r d = y := by
  unfold State.runAppend
  simp only [hasks.seq, hasks.pool, hasks.active, Nat.not_lt.mpr hfits, Nat.not_lt.mpr hrows, hcheck, ne_eq, not_true_eq_false, if_false]

end AppendActive

/-- An append that passes its checks: its sequence and its source log have room, its places are good, and its records hold. -/
structure AppendGoes (s : State) (r : Fin 10) (d : AppendDesc) (q : KvSeq) : Prop extends AppendActive s d q where
  fits : s.untrimmed + d.tokens ≤ 2 ^ 20
  rows : q.length - q.firstValid + d.tokens ≤ s.logRows
  places : s.checkPlaces r d.header (s.appendPlaces r q d) = none
  record : s.badRecord d.pool d.sequence = false
  entries : s.badEntries d.pool (s.fillingPages d.pool d.sequence) = []
  calm : d.upsets = []

/-- What such an append does once the events that met it have taken effect. -/
def State.appendMet (met : State × Option Nat) (r : Fin 10) (d : AppendDesc) (q : KvSeq) : State :=
  match met.2 with
  | some st => met.1.complete r 18 d.header st 0 0
  | none => match met.1.ensureAll d.pool d.sequence (q.layers + 1) q.length d.tokens q.resident with
    | none => (met.1.stall d.sequence).exhaustKv r d.pool d.header d.sequence 1 true
    | some s1 =>
      let w := s1.writeTokens d.sequence q (s1.sourceRows r q d)
      (w.1.appendStats r d (w.1.latentFmt d.pool) w.2).complete r 18 d.header stOk 0 d.tokens

namespace AppendGoes

variable (hgoes : AppendGoes s r d q)
include hgoes

theorem meets : s.runAppend r d = State.appendMet (s.meetUpsets r 18 d.header [] (appendReads r q d)) r d q := by
  unfold State.runAppend
  simp only [hgoes.seq, hgoes.pool, hgoes.active, Nat.not_lt.mpr hgoes.fits, Nat.not_lt.mpr hgoes.rows, hgoes.places, hgoes.record, hgoes.entries, hgoes.calm, ne_eq,
    not_true_eq_false, List.isEmpty_nil, Bool.not_true, Bool.or_false, Bool.false_eq_true, if_false]
  rfl

theorem lost {k : BadLane} (hmark : s.markRead (appendReads r q d) = some k) :
    s.runAppend r d = (s.eccUncorrectable k (hSequence d.header) (hClass d.header)).complete r 18 d.header 0x0203 0 0 := by
  rw [hgoes.meets, State.meetUpsets_nil, hmark]
  rfl

variable (hmark : s.markRead (appendReads r q d) = none)
include hmark

theorem unallocated (hnone : s.ensureAll d.pool d.sequence (q.layers + 1) q.length d.tokens q.resident = none) :
    s.runAppend r d = (s.putSeq d.sequence { q with state := 2 }).exhaustKv r d.pool d.header d.sequence 1 true := by
  rw [hgoes.meets, State.meetUpsets_nil, hmark, ← State.modSeq_open hgoes.seq fun q => { q with state := 2 }]
  simp only [State.appendMet, hnone]
  rfl

theorem appends (hsome : s.ensureAll d.pool d.sequence (q.layers + 1) q.length d.tokens q.resident = some s) {w : State × List Latent}
    (hw : s.writeTokens d.sequence q (s.sourceRows r q d) = w) : s.runAppend r d = (w.1.appendStats r d (w.1.latentFmt d.pool) w.2).complete r 18 d.header 0 0 d.tokens := by
  rw [hgoes.meets, State.meetUpsets_nil, hmark]
  simp only [State.appendMet, hsome, hw]
  rfl

end AppendGoes

end

/-! ## Allocation does not look at the count or at the queues -/

section
variable {s : State} {t : Nat} {r : Fin 10} {k : Nat} {h : BitVec 128} {p : Fin 4} {n : Nat} {resident : Bool}

theorem State.allocFrame_start (held : Page → Bool) : (zooNoted (s.advance t) r k h).allocFrame p resident held
    = (s.allocFrame p resident held).map fun e => (e.1, zooNoted (e.2.advance t) r k h) := by
  have hfree : ∀ a : State, (zooNoted (a.advance t) r k h).freeFrame p = a.freeFrame p := fun _ => rfl
  have hvictim : (zooNoted (s.advance t) r k h).victim p held = s.victim p held := rfl
  unfold State.allocFrame
  rw [hfree, hvictim]
  cases s.freeFrame p with
  | some f => rfl
  | none =>
    dsimp only
    split
    · rfl
    · cases s.victim p held with
      | none => rfl
      | some x =>
        have hdrop : (zooNoted (s.advance t) r k h).dropPage p x = zooNoted ((s.dropPage p x).advance t) r k h := rfl
        simp only [hdrop, hfree, Option.map_map]
        rfl

theorem State.ensurePage_start (layer pos : Nat) : (zooNoted (s.advance t) r k h).ensurePage p n layer pos resident
    = (s.ensurePage p n layer pos resident).map fun a => zooNoted (a.advance t) r k h := by
  have hpages : (zooNoted (s.advance t) r k h).kv = s.kv := rfl
  have hentry : (zooNoted (s.advance t) r k h).freeEntry p = s.freeEntry p := rfl
  unfold State.ensurePage
  rw [hpages, hentry]
  split
  · rfl
  · cases s.freeEntry p with
    | none => rfl
    | some e =>
      dsimp only
      rw [State.allocFrame_start]
      cases s.allocFrame p resident fun x => x.seq == n && decide (x.fill < 256) with
      | none => rfl
      | some f => rfl

/-- So it fails in the state in which an append starts where it fails before. -/
theorem State.ensureAll_start (layers first count : Nat) : (zooNoted (s.advance t) r k h).ensureAll p n layers first count resident
    = (s.ensureAll p n layers first count resident).map fun a => zooNoted (a.advance t) r k h := by
  unfold State.ensureAll
  dsimp only
  generalize ((List.range layers).flatMap _ : List (Nat × Nat)) = es
  suffices hfold : ∀ o : Option State, es.foldl (fun acc e => acc.bind fun s => s.ensurePage p n e.1 e.2 resident) (o.map fun a => zooNoted (a.advance t) r k h)
      = (es.foldl (fun acc e => acc.bind fun s => s.ensurePage p n e.1 e.2 resident) o).map fun a => zooNoted (a.advance t) r k h from hfold (some s)
  induction es with
  | nil => exact fun _ => rfl
  | cons e es ih =>
    intro o
    rw [List.foldl_cons, List.foldl_cons, ← ih]
    cases o with
    | none => rfl
    | some a => exact congrArg (es.foldl _) (State.ensurePage_start e.1 e.2)

/-- Where every page is there, nothing is allocated. -/
theorem State.ensureAll_there {layers length : Nat}
    (hpages : ∀ l < layers, ∃ x ∈ s.kv.pages[p], x.seq = n ∧ x.layer = l ∧ x.firstToken = length / 256 * 256) : s.ensureAll p n layers length 1 resident = some s := by
  have hone : divUp (length % 256 + 1) 256 = 1 := by
    unfold divUp
    omega
  have hensure : ∀ l < layers, s.ensurePage p n l (length / 256 * 256) resident = some s := fun l hl => by
    obtain ⟨x, hx, hseq, hlayer, hfirst⟩ := hpages l hl
    refine if_pos (List.any_eq_true.mpr ⟨x, List.mem_filter.mpr ⟨hx, by simp [hseq, hlayer]⟩, ?_⟩)
    rw [hfirst, beq_iff_eq]
    omega
  unfold State.ensureAll
  rw [hone]
  refine List.foldlRecOn _ _ (motive := fun o => o = some s) rfl fun o ho e he => ?_
  obtain ⟨l, hl, rfl⟩ : ∃ l < layers, e = (l, length / 256 * 256) := by simpa [eq_comm] using he
  rw [ho]
  exact hensure l hl

end

/-! ## One appended token (R250, R251) -/

section
variable {s : State} {n : Nat} {q : KvSeq} {src : List Nat}

/-- The pages of a pool once the latents of one token have joined them, layer after layer. -/
def State.rowsAdded (s : State) (n : Nat) (q : KvSeq) (src : List Nat) (layers : List Nat) (ps : List Page) : List Page :=
  layers.foldl (fun ps l => addRow (s.latentFmt q.pool) ps n l q.length (s.latentRow n q l src).codes) ps

theorem State.modPages_modPages (s : State) (p : Fin 4) (f g : List Page → List Page) : (s.modPages p f).modPages p g = s.modPages p fun ps => g (f ps) :=
  congrArg (fun ps => s.modKv fun k => { k with pages := ps }) (upd_upd ..)

theorem State.modPages_same (s : State) (p : Fin 4) : (s.modPages p fun ps => ps) = s :=
  congrArg (fun ps => s.modKv fun k => { k with pages := ps }) (upd_same rfl)

/-- The token's latents join the pages of its layers. -/
theorem State.rowsAdded_of_fold (fmt : Nat) (hfmt : fmt = s.latentFmt q.pool) (layers : List Nat) (ps : List Page → List Page) (ls : List Latent) : ∃ ls',
    layers.foldl (fun acc l => [(0, src)].foldl (fun (acc : State × List Latent) e =>
      (acc.1.modPages q.pool fun ps => addRow fmt ps n l (q.length + e.1) (acc.1.latentRow n q l e.2).codes, acc.2 ++ [acc.1.latentRow n q l e.2])) acc) (s.modPages q.pool ps, ls)
        = (s.modPages q.pool fun x => s.rowsAdded n q src layers (ps x), ls') := by
  subst hfmt
  induction layers generalizing ps ls with
  | nil => exact ⟨ls, rfl⟩
  | cons l layers ih =>
    obtain ⟨ls', hls⟩ := ih (fun x => addRow (s.latentFmt q.pool) (ps x) n l q.length (s.latentRow n q l src).codes) (ls ++ [s.latentRow n q l src])
    refine ⟨ls', ?_⟩
    rw [List.foldl_cons]
    refine Eq.trans (congrArg (layers.foldl _) ?_) hls
    exact Prod.ext (State.modPages_modPages ..) rfl

/-- The source row goes to its log, its latents to their pages, and the sequence is longer by one. -/
theorem State.writeTokens_one (hseq : s.seqOf n = some q) : ∃ ls, s.writeTokens n q [src]
    = ((((s.store (logPlace q s.logRows q.length) (packElems q.srcFormat src)).modPages q.pool
        ((s.store (logPlace q s.logRows q.length) (packElems q.srcFormat src)).rowsAdded n q src (List.range (q.layers + 1)))).putSeq n { q with length := q.length + 1 }), ls) := by
  set a := s.store (logPlace q s.logRows q.length) (packElems q.srcFormat src) with ha
  obtain ⟨ls, hls⟩ := State.rowsAdded_of_fold (s := a) (n := n) (q := q) (src := src) (s.latentFmt q.pool) rfl (List.range (q.layers + 1)) id []
  have hid : a.modPages q.pool id = a := a.modPages_same q.pool
  rw [hid] at hls
  refine ⟨ls, ?_⟩
  have hopen : (a.modPages q.pool (a.rowsAdded n q src (List.range (q.layers + 1)))).seqOf n = some q := hseq
  rw [← State.modSeq_open hopen fun x => { x with length := x.length + 1 }]
  exact congrArg (fun w : State × List Latent => (w.1.modSeq n fun x => { x with length := x.length + 1 }, w.2)) hls

end

end Sys2Proof.Machine

/-!
The clauses on KV_APPEND (O56).
-/

namespace Sys2Proof.Machine

section
variable (s : State) (r : Fin 10) (d : AppendDesc) (fmt : Nat) (ls : List Latent)

/-- The statistics of an append are all that it leaves beside its tokens. -/
theorem State.appendStats_leaves : Leaves [(statsPlace r d.header, 32)] s (s.appendStats r d fmt ls) := by
  unfold State.appendStats
  refine Leaves.trans ?_ (.of_mem (State.countSat_mem ..) (State.countSat_standing ..))
  split
  · exact (Leaves.of_mem (State.slotFields_mem ..) (State.slotFields_standing ..)).trans
      (.store (List.mem_singleton_self _) (.refl _ (Nat.le_of_eq (Stats.bytes_length ..))) (by decide : 1 < 3))
  · exact .refl s

theorem State.countSat_kv (n : Nat) : (s.countSat n).kv = s.kv := by
  unfold State.countSat
  split <;> rfl

theorem State.slotFields_kv (slot : Option Nat) : (s.slotFields r slot).2.kv = s.kv := by
  unfold State.slotFields
  split <;> rfl

theorem State.appendStats_kv : (s.appendStats r d fmt ls).kv = s.kv := by
  unfold State.appendStats
  refine (State.countSat_kv ..).trans ?_
  split
  · exact State.slotFields_kv ..
  · rfl

theorem State.appendStats_log : (s.appendStats r d fmt ls).log = s.log := by
  unfold State.appendStats
  refine (State.countSat_log ..).trans ?_
  split
  · exact State.slotFields_log ..
  · rfl

end

theorem rowBytes_packed {fmt n : Nat} {codes : List Nat} (hcodes : codes.length = n) (hn : n % 64 = 0) : (packElems fmt codes).length = rowBytes fmt n := by
  have hbits : n * elemBits fmt % 8 = 0 := by
    obtain ⟨k, rfl⟩ := Nat.dvd_of_mod_eq_zero hn
    rw [Nat.mul_assoc]
    omega
  rw [packElems_length, hcodes, rowBytes]
  unfold divUp
  omega

/-- An equation about an entry holds at the same entry under another name. -/
theorem entry_at {α : Type} {n : Nat} {v w : Vector α n} {i j : Fin n} {f : α → α} (hij : i = j) (h : v[i] = f w[i]) : v[j] = f w[j] := hij ▸ h

theorem unpackElems_length (fmt n : Nat) (bs : Bytes) : (unpackElems fmt n bs).length = n := by simp [unpackElems]

end Sys2Proof.Machine

namespace Sys2Proof

open Machine

section
variable {s : State} {t : Nat} {r : Fin 10} {d : AppendDesc} (hadmitted : AttentionAdmitted s r d.header d.queue) (hok : appendOk d = true)
  (henabled : s.flag (poolObj d.pool 1) = true) (howner : s.nat (poolObj d.pool 3) = r.val) (hcls : s.nat (poolObj d.pool 2) = hClass d.header)
include hadmitted hok henabled howner hcls

/-! ## Appends that end without a token -/

theorem append_closed (hseq : s.seqOf d.sequence = none) : Ends (.kvAppend t r d) s fun u => KvEnds s u r d.header 0x0200 0x0600 false := by
  obtain ⟨u, hexec, hends, -⟩ := attention_ends (.append d) hadmitted hok henabled howner hcls (State.runAppend_closed hseq)
    (kvEnds_refuseKv attentionStart_kv attentionStart_mem attentionStart_standing hadmitted.header.status)
  exact ⟨u, hexec, hends⟩

/-- KV_EXHAUSTED with a cause, without a fault or with fault 0x0602. -/
theorem append_exhausted {cause : Nat} {told : Bool} (hrun : ∀ x : State, x = attentionStart s t r d.queue d.header → x.runAppend r d = x.exhaustKv r d.pool d.header d.sequence cause told) :
    Ends (.kvAppend t r d) s fun u => KvEnds s u r d.header 0x0600 cause false
      ∧ u.log = ((attentionStart s t r d.queue d.header).exhaustKv r d.pool d.header d.sequence cause told).log :=
  attention_ends (.append d) hadmitted hok henabled howner hcls (hrun _ rfl)
    (kvEnds_exhausted attentionStart_kv attentionStart_mem attentionStart_standing hadmitted.header.status ..)

variable {q : KvSeq}

theorem append_stalled (hasks : AppendAsks s d q) (hstate : q.state = 2) :
    Ends (.kvAppend t r d) s fun u => KvEnds s u r d.header 0x0600 1 false ∧ u.log = s.log := by
  obtain ⟨u, hexec, hends, hlog⟩ := append_exhausted (t := t) hadmitted hok henabled howner hcls (cause := 1) (told := false)
    fun x hx => hx ▸ AppendAsks.stalled ⟨hasks.seq, hasks.pool⟩ hstate
  exact ⟨u, hexec, hends, hlog.trans (exhaustKv_log_untold attentionStart_news ..)⟩

section
variable (hasks : AppendActive s d q)
include hasks

theorem append_overflows (hfull : 2 ^ 20 < s.untrimmed + d.tokens) : Ends (.kvAppend t r d) s fun u => KvEnds s u r d.header 0x0600 2 false
    ∧ u.log = ((s.advance t).fault 0x0602 (poolLoc r d.pool) (at_ 32 32 (hSequence d.header) ||| at_ 12 20 d.sequence ||| at_ 8 0 2) (hClass d.header)).log := by
  obtain ⟨u, hexec, hends, hlog⟩ := append_exhausted (t := t) hadmitted hok henabled howner hcls (cause := 2) (told := true)
    fun x hx => hx ▸ AppendActive.overflows ⟨⟨hasks.seq, hasks.pool⟩, hasks.active⟩ hfull
  exact ⟨u, hexec, hends, hlog.trans (exhaustKv_log_told attentionStart_news ..)⟩

variable (hfits : s.untrimmed + d.tokens ≤ 2 ^ 20)
include hfits

theorem append_outruns (hrows : s.logRows < q.length - q.firstValid + d.tokens) : Ends (.kvAppend t r d) s fun u => KvEnds s u r d.header 0x0600 3 false
    ∧ u.log = ((s.advance t).fault 0x0602 (poolLoc r d.pool) (at_ 32 32 (hSequence d.header) ||| at_ 12 20 d.sequence ||| at_ 8 0 3) (hClass d.header)).log := by
  obtain ⟨u, hexec, hends, hlog⟩ := append_exhausted (t := t) hadmitted hok henabled howner hcls (cause := 3) (told := true)
    fun x hx => hx ▸ AppendActive.outruns ⟨⟨hasks.seq, hasks.pool⟩, hasks.active⟩ hfits hrows
  exact ⟨u, hexec, hends, hlog.trans (exhaustKv_log_told attentionStart_news ..)⟩

variable (hrows : q.length - q.firstValid + d.tokens ≤ s.logRows)
include hrows

theorem append_address (hbad : ∃ p ∈ s.appendPlaces r q d, s.badPlace p.1 p.2.1 = true) : Ends (.kvAppend t r d) s fun u => KvEnds s u r d.header 0x0202 0 false := by
  have hcheck := State.checkPlaces_address (s := attentionStart s t r d.queue d.header) (r := r) (h := d.header) hbad
  obtain ⟨u, hexec, hends, -⟩ := attention_ends (.append d) hadmitted hok henabled howner hcls
    (AppendActive.checked (s := attentionStart s t r d.queue d.header) ⟨⟨hasks.seq, hasks.pool⟩, hasks.active⟩ hfits hrows hcheck)
    (kvEnds_complete attentionStart_kv attentionStart_mem attentionStart_standing hadmitted.header.status ..)
  exact ⟨u, hexec, hends⟩

theorem append_guarded (hgood : ∀ p ∈ s.appendPlaces r q d, s.badPlace p.1 p.2.1 = false)
    (hnot : ∃ p ∈ s.appendPlaces r q d, s.permits (hClass d.header) p.1 p.2.1 p.2.2 = false) : Ends (.kvAppend t r d) s fun u => KvEnds s u r d.header 0x0205 0 false := by
  obtain ⟨p, hcheck⟩ := State.checkPlaces_guard (s := attentionStart s t r d.queue d.header) (r := r) (h := d.header) hgood hnot
  obtain ⟨u, hexec, hends, -⟩ := attention_ends (.append d) hadmitted hok henabled howner hcls
    (AppendActive.checked (s := attentionStart s t r d.queue d.header) ⟨⟨hasks.seq, hasks.pool⟩, hasks.active⟩ hfits hrows hcheck)
    (kvEnds_guard attentionStart_kv attentionStart_mem attentionStart_standing hadmitted.header.status p)
  exact ⟨u, hexec, hends⟩

end

section
variable (hgoes : AppendGoes (attentionStart s t r d.queue d.header) r d q)
include hgoes

theorem append_lost {k : BadLane} (hmark : s.markRead (appendReads r q d) = some k) : Ends (.kvAppend t r d) s fun u => KvEnds s u r d.header 0x0203 0 false := by
  obtain ⟨u, hexec, hends, -⟩ := attention_ends (.append d) hadmitted hok henabled howner hcls (hgoes.lost hmark)
    (kvEnds_complete ((State.eccUncorrectable_kv ..).trans attentionStart_kv) ((State.eccUncorrectable_mem ..).trans attentionStart_mem)
      ((State.eccUncorrectable_standing ..).trans attentionStart_standing) hadmitted.header.status ..)
  exact ⟨u, hexec, hends⟩

variable (hmark : s.markRead (appendReads r q d) = none)
include hmark

/-- No frame is left: the sequence is stalled. -/
theorem append_unallocated (hplace : s.kvPlace d.pool = none) (hnone : s.ensureAll d.pool d.sequence (q.layers + 1) q.length d.tokens q.resident = none) :
    Ends (.kvAppend t r d) s fun u => StatusIs u r d.header 0x0600 1 0 false false
      ∧ u.log = ((s.advance t).fault 0x0602 (poolLoc r d.pool) (at_ 32 32 (hSequence d.header) ||| at_ 12 20 d.sequence ||| at_ 8 0 1) (hClass d.header)).log
      ∧ u.seqOf d.sequence = some { q with state := 2 } ∧ u.kv.pages = s.kv.pages := by
  set y := (attentionStart s t r d.queue d.header).putSeq d.sequence { q with state := 2 } with hy
  have hrun := hgoes.unallocated hmark (State.ensureAll_start .. |>.trans (congrArg (Option.map _) hnone))
  have hstanding : y.standing = s.standing := attentionStart_standing (s := s) (t := t)
  have hends := kvEnds_exhausted (s := y) (x := y) (p := d.pool) rfl rfl rfl ((permits_of_standing hstanding ..).trans hadmitted.header.status) d.sequence 1 true
  have hshown := State.showKv_unplaced (s := y.exhaustKv r d.pool d.header d.sequence 1 true) (old := attentionStart s t r d.queue d.header)
    ((State.kvPlace_congr (hends.ends.leaves.launch.trans (launch_of_standing hstanding)) d.pool).trans hplace)
  have hnews : SameNews (s.advance t) y := ⟨rfl, rfl, rfl, rfl, fun _ _ => rfl⟩
  refine ⟨_, attention_runs (.append d) hadmitted hok henabled howner hcls, ?_⟩
  have hlog := exhaustKv_log_told (r := r) (p := d.pool) (h := d.header) hnews d.sequence 1
  have hcounted := hends.countTokens 1
  have hpages : y.kv.pages = s.kv.pages := rfl
  rw [hrun, hshown]
  exact ⟨hcounted.statusIs, (State.countTokens_log ..).trans hlog, (State.seqOf_congr hcounted.kv _).trans State.putSeq_seqOf_self, (congrArg Kv.pages hcounted.kv).trans hpages⟩

/-- One token: its source row lies in the log, its latents in the pages of its layers, and its sequence is longer by one. -/
theorem append_appends (htokens : d.tokens = 1) (hwidth : q.dSrc % 64 = 0)
    (hpages : ∀ l ≤ q.layers, ∃ x ∈ s.kv.pages[d.pool], x.seq = d.sequence ∧ x.layer = l ∧ x.firstToken = q.length / 256 * 256) {source : List Nat} {after : State}
    (hsource : unpackElems q.srcFormat q.dSrc (s.load (rmemAt r.val d.source) (rowBytes q.srcFormat q.dSrc)) = source)
    (hafter : s.store (logPlace q s.logRows q.length) (packElems q.srcFormat source) = after) :
    Ends (.kvAppend t r d) s fun u => u.seqOf d.sequence = some { q with length := q.length + 1 } ∧ (∀ m, m ≠ d.sequence → u.seqOf m = s.seqOf m)
      ∧ u.kv.pages[d.pool] = after.rowsAdded d.sequence q source (List.range (q.layers + 1)) s.kv.pages[d.pool]
      ∧ (∀ k : Fin 4, k ≠ d.pool → u.kv.pages[k] = s.kv.pages[k]) ∧ u.launch = s.launch ∧ u.log = s.log
      ∧ (s.kvPlace d.pool = none → u.load (logPlace q s.logRows q.length) (rowBytes q.srcFormat q.dSrc) = packElems q.srcFormat source ∧ StatusIs u r d.header 0 0 1 false false) := by
  set x := attentionStart s t r d.queue d.header with hx
  have hrows : x.sourceRows r q d = [source] := by
    simp only [State.sourceRows, htokens, List.range_one, List.map_cons, List.map_nil, Nat.zero_mul, Nat.add_zero]
    rw [← hsource]
    rfl
  obtain ⟨ls, hwritten⟩ := State.writeTokens_one (src := source) hgoes.seq
  set a := x.store (logPlace q x.logRows q.length) (packElems q.srcFormat source) with ha
  set y := (a.modPages q.pool (a.rowsAdded d.sequence q source (List.range (q.layers + 1)))).putSeq d.sequence { q with length := q.length + 1 } with hy
  set z := y.appendStats r d (y.latentFmt d.pool) ls with hz
  have hall : x.ensureAll d.pool d.sequence (q.layers + 1) q.length d.tokens q.resident = some x := by
    rw [htokens]
    exact State.ensureAll_there fun l hl => hpages l (Nat.le_of_lt_succ hl)
  have hrun : x.runAppend r d = z.complete r 18 d.header 0 0 d.tokens := hgoes.appends (w := (y, ls)) hmark hall (by rw [hrows, hwritten])
  have hstats : Leaves [(statsPlace r d.header, 32)] y z := y.appendStats_leaves ..
  have hstanding : z.standing = s.standing := hstats.standing.trans (attentionStart_standing (s := s) (t := t))
  have hkv : (z.complete r 18 d.header 0 0 d.tokens).kv = y.kv := (State.complete_kv ..).trans (State.appendStats_kv ..)
  have hshown : (((z.complete r 18 d.header 0 0 d.tokens).showKv x d.pool).countTokens r 1).kv = y.kv := (State.showKv_keeps State.kv (fun _ _ _ => rfl) ..).trans hkv
  have hpool : q.pool = d.pool := hgoes.pool
  refine ⟨_, attention_runs (.append d) hadmitted hok henabled howner hcls, ?_⟩
  rw [hrun]
  refine ⟨(State.seqOf_congr hshown _).trans State.putSeq_seqOf_self, fun m hm => (State.seqOf_congr hshown m).trans (get?_put_other _ _ _ _ hm), ?_, fun k hk => ?_, ?_, ?_, fun hplace => ?_⟩
  · rw [hshown, ← hafter]
    exact entry_at hpool (State.modPages_pages ..)
  · rw [hshown]
    exact upd_getElem_other _ _ (hpool ▸ hk)
  · exact (launch_of_standing (State.countTokens_standing ..)).trans <| (State.showKv_keeps State.launch (fun _ _ _ => rfl) ..).trans ((launch_of_standing (State.complete_standing ..)).trans (launch_of_standing hstanding))
  · exact (State.countTokens_log ..).trans <| (State.showKv_keeps State.log (fun _ _ _ => rfl) ..).trans ((State.complete_log ..).trans (State.appendStats_log ..))
  · have hunplaced := State.showKv_unplaced (s := z.complete r 18 d.header 0 0 d.tokens) (old := x)
      ((State.kvPlace_congr ((launch_of_standing (State.complete_standing ..)).trans (launch_of_standing hstanding)) d.pool).trans hplace)
    have hlength : (packElems q.srcFormat source).length = rowBytes q.srcFormat q.dSrc := rowBytes_packed (by rw [← hsource, unpackElems_length]) hwidth
    rw [hunplaced, ← htokens]
    refine ⟨?_, statusIs_of_mem (z.complete_statusIs _ _ _ _ _ _ _ _ ((permits_of_standing hstanding ..).trans hadmitted.header.status)) (State.countTokens_mem ..)⟩
    have hslot : ∀ (p : MemRef) (n : Nat), p.space = 1 → ∀ e ∈ [(p, n)], Apart (logPlace q s.logRows q.length) (rowBytes q.srcFormat q.dSrc) e.1 e.2 := fun p n hp e he => by
      rw [List.mem_singleton.mp he]
      exact .inl (by rw [hp]; exact Nat.zero_ne_one)
    have hself := x.load_store_self (logPlace q s.logRows q.length) (packElems q.srcFormat source)
    rw [hlength] at hself
    refine (State.load_congr (State.countTokens_mem ..) ..).trans ?_
    exact ((z.complete_leaves ..).writes _ _ (by decide : 0 < 3) (hslot _ _ rfl)).trans ((hstats.writes _ _ (by decide : 0 < 3) (hslot _ _ rfl)).trans hself)

end

end

end Sys2Proof

/-!
ATTEND (R252 to R256, R259, R262 to R264; O56).
-/

namespace Sys2Proof.Machine

/-! ## Messages of a ring leave the rest of the state (R432, R433) -/

/-- `u` is `s` but for what its ports send. -/
def Sends (s u : State) : Prop := u = { s with net := u.net, outbox := u.outbox }

theorem Untold.countSat (s : State) (n : Nat) : Untold s (s.countSat n) := ⟨State.countSat_mem .., State.countSat_standing .., State.countSat_log ..⟩

namespace Sends

variable {s u w : State}

theorem refl (s : State) : Sends s s := rfl

theorem transmit (s : State) (p : Fin 8) (o : Output) : Sends s (s.transmit p o) := by
  unfold State.transmit
  split <;> rfl

theorem sendRing (s : State) (ring step index : Nat) (data : Bytes) : Sends s (s.sendRing ring step index data) := by
  unfold State.sendRing
  split
  · exact transmit ..
  · exact refl s

theorem sendShard (s : State) (r : Fin 10) (d : ZooDesc) : Sends s (s.sendShard r d) := by
  unfold State.sendShard
  split
  · exact sendRing ..
  · exact refl s

theorem sendOwnPart (s : State) (r : Fin 10) (end_ : MemRef) : Sends s (s.sendOwnPart r end_) := by
  unfold State.sendOwnPart
  split
  · exact sendRing ..
  · exact refl s

variable (h : Sends s u)
include h

theorem mem : u.mem = s.mem := by rw [h]

theorem kv : u.kv = s.kv := by rw [h]

theorem standing : u.standing = s.standing := by rw [h]; rfl

theorem log : u.log = s.log := by rw [h]

theorem untold : Untold s u := ⟨h.mem, h.standing, h.log⟩

theorem marks : u.marks = s.marks := by rw [h]

theorem news : SameNews s u := by
  rw [h]
  exact ⟨rfl, rfl, rfl, rfl, fun _ _ => rfl⟩

theorem partOver (r : Fin 10) (d : ZooDesc) (firstValid i head : Nat) (sh : Shard) : u.partOver r d firstValid i head sh = s.partOver r d firstValid i head sh := by
  rw [h]
  rfl

theorem droppedIn (p : Fin 4) (n : Nat) (ls : List Nat) (lo hi : Nat) : u.droppedIn p n ls lo hi = s.droppedIn p n ls lo hi := by
  rw [State.droppedIn, State.droppedIn, h.kv]

end Sends

/-! ## The branches of an ATTEND -/

section
variable {s y : State} {r : Fin 10} {d : ZooDesc} {missing : Option Nat} {q : KvSeq}

theorem State.runAttend_closed (h : s.seqOf (af d 511 500) = none) : s.runAttend r d missing = s.refuseKv r (aPool d) d.header := by
  unfold State.runAttend
  simp only [h]

/-- An ATTEND on a layer of a sequence of its pool. -/
structure AttendAsks (s : State) (d : ZooDesc) (q : KvSeq) : Prop where
  seq : s.seqOf (af d 511 500) = some q
  pool : q.pool = aPool d
  layer : af d 497 491 ≤ q.layers

theorem AttendAsks.stalled (hasks : AttendAsks s d q) (hstate : q.state = 2) :
    s.runAttend r d missing = s.exhaustKv r (aPool d) d.header (af d 511 500) 1 false := by
  unfold State.runAttend
  simp only [hasks.seq, hasks.pool, Nat.not_lt.mpr hasks.layer, hstate, ne_eq, not_true_eq_false, false_or, if_false, if_true]

/-- And the sequence is not stalled. -/
structure AttendActive (s : State) (d : ZooDesc) (q : KvSeq) : Prop extends AttendAsks s d q where
  active : q.state ≠ 2

/-- A place that is refused ends it. -/
theorem AttendActive.checked (hasks : AttendActive s d q) (hcheck : s.checkPlaces r d.header (s.attendPlaces r d) = some y) : s.runAttend r d missing = y := by
  unfold State.runAttend
  simp only [hasks.seq, hasks.pool, Nat.not_lt.mpr hasks.layer, hasks.active, hcheck, ne_eq, not_true_eq_false, false_or, if_false]

/-- An ATTEND whose places are good. -/
structure AttendGoes (s : State) (r : Fin 10) (d : ZooDesc) (q : KvSeq) : Prop extends AttendActive s d q where
  places : s.checkPlaces r d.header (s.attendPlaces r d) = none

namespace AttendGoes

variable (hgoes : AttendGoes s r d q)
include hgoes

theorem misses {k : Nat} (hmissing : s.missingShard d missing = some k) : s.runAttend r d missing = (s.sendShard r d).endMissing r d k := by
  unfold State.runAttend
  simp only [hgoes.seq, hgoes.pool, Nat.not_lt.mpr hgoes.layer, hgoes.active, hgoes.places, hmissing, ne_eq, not_true_eq_false, false_or, if_false]

variable (hmissing : s.missingShard d missing = none)
include hmissing

theorem recordFails (hrecord : s.badRecord (aPool d) (af d 511 500) = true) :
    s.runAttend r d missing = s.endBadRecord r (aPool d) d.header (af d 511 500) [] := by
  unfold State.runAttend
  simp only [hgoes.seq, hgoes.pool, Nat.not_lt.mpr hgoes.layer, hgoes.active, hgoes.places, hmissing, hrecord, ne_eq, not_true_eq_false, false_or, Bool.true_or, if_false, if_true]

/-- What such an ATTEND does once the events that met it have taken effect. -/
def State.attendMet (met : State × Option Nat) (r : Fin 10) (d : ZooDesc) (q : KvSeq) : State :=
  match met.2 with
  | some st => met.1.complete r 18 d.header st 0 0
  | none => met.1.attendOver r d (af d 511 500) q

theorem meets (hrecord : s.badRecord (aPool d) (af d 511 500) = false)
    (hentries : s.badEntries (aPool d) (s.rangePages (aPool d) (af d 511 500) (af d 497 491) (s.ownRange r d)) = []) (hcalm : d.upsets = []) :
    s.runAttend r d missing = State.attendMet ((s.sendShard r d).meetUpsets r 18 d.header [] (s.attendReads r d)) r d q := by
  unfold State.runAttend
  simp only [hgoes.seq, hgoes.pool, Nat.not_lt.mpr hgoes.layer, hgoes.active, hgoes.places, hmissing, hrecord, hentries, hcalm, ne_eq, not_true_eq_false, false_or,
    List.isEmpty_nil, Bool.not_true, Bool.or_false, Bool.false_eq_true, if_false]
  rfl

end AttendGoes

theorem State.recomputeAll_nil (s : State) (n : Nat) (q : KvSeq) (held : Page → Bool) : s.recomputeAll n q held [] = (.done, s) := rfl

/-- With one shard an ATTEND takes its whole key range from its own pool. -/
theorem State.ownRange_one (hone : aShards d = 1) : s.ownRange r d = (af d 383 352, af d 351 320) := by
  have hshard : ∀ k, s.shardAt r d k = (af d 383 352, af d 351 320) := fun k => if_pos hone
  unfold State.ownRange
  rw [hshard]
  split <;> simp

/-- Where no page was dropped, the outputs are written at once. -/
theorem State.attendOver_writes (hone : aShards d = 1)
    (hdropped : s.droppedIn (aPool d) (af d 511 500) [af d 497 491] (af d 383 352) (af d 351 320) = []) :
    s.attendOver r d (af d 511 500) q = s.writeAttention r d q.firstValid false false := by
  unfold State.attendOver
  simp only [State.ownRange_one hone, hdropped, List.length_nil, State.declareLate_within s r d.header (Nat.zero_le _), State.recomputeAll_nil, List.isEmpty_nil, Bool.not_true]

theorem State.shards_one (hone : aShards d = 1) (hown : af d 468 465 < aShards d) : s.shards r d = [⟨af d 383 352, af d 351 320, none⟩] := by
  have hzero : af d 468 465 = 0 := by omega
  have hshard : s.shardAt r d 0 = (af d 383 352, af d 351 320) := if_pos hone
  simp [State.shards, hone, hshard, hzero]

end

/-! ## The outputs of an ATTEND (R254 to R256) -/

/-- The outputs of all queries and heads, query after query. -/
def attentionParts (d : ZooDesc) (part : Nat → Nat → Part) : List (Nat × Nat × Part) :=
  (List.range (af d 447 416)).flatMap fun i => (List.range (aHeads d)).map fun h => (i, h, part i h)

/-- The bytes of one output. -/
def partBytes (d : ZooDesc) (e : Nat × Nat × Part) : Bytes :=
  (partOut d e.1 e.2.1 e.2.2).1.flatMap fun w => leBytes (if aPartial d = true ∨ af d 460 453 = 1 then 4 else 2) w.toNat

/-- The detail of the status record: an output that is not a number, one without a key, a recomputed page. -/
def attentionDetail (parts : List (Nat × Nat × Part)) (recomputed : Bool) : Nat :=
  at_ 1 1 (b2n (decide (0 < ((parts.filter fun e => e.2.2.nan).map fun e => e.1).dedup.length))) ||| at_ 1 2 (b2n (parts.any fun e => !e.2.2.nan && e.2.2.m.isNone))
    ||| at_ 1 3 (b2n recomputed)

theorem attentionDetail_zero {parts : List (Nat × Nat × Part)} (h : ∀ e ∈ parts, e.2.2.nan = false ∧ e.2.2.m.isSome = true) : attentionDetail parts false = 0 := by
  have hnan : (parts.filter fun e => e.2.2.nan) = [] := List.filter_eq_nil_iff.mpr fun e he => by simp [(h e he).1]
  have hempty : (parts.any fun e => !e.2.2.nan && e.2.2.m.isNone) = false := List.any_eq_false.mpr fun e he => by simp [Option.isNone_eq_false_iff.mpr (h e he).2]
  rw [attentionDetail, hnan, hempty]
  rfl

section
variable {s : State} {r : Fin 10} {d : ZooDesc}

/-- The outputs go to their place, and the status record is written. -/
theorem State.writeAttention_completes (hhold : hReleaseHold d.header = false) (hone : aShards d = 1) (hown : af d 468 465 < aShards d) {firstValid : Nat}
    {part : Nat → Nat → Part} (hpart : ∀ i head, mergeParts (aDim d) [s.partOver r d firstValid i head ⟨af d 383 352, af d 351 320, none⟩] = part i head) :
    ∃ w : State, Untold (s.store (outPlace r d 0 0) ((attentionParts d part).flatMap (partBytes d))) w ∧ w.kv = s.kv
      ∧ s.writeAttention r d firstValid false false
        = w.complete r 18 d.header 0 (attentionDetail (attentionParts d part) false) (attentionParts d part).length := by
  have hshards := s.shards_one (r := r) hone hown
  have hparts : ((List.range (af d 447 416)).flatMap fun i => (List.range (aHeads d)).map fun h =>
      (i, h, mergeParts (aDim d) ((s.shards r d).map fun sh => s.partOver r d firstValid i h sh))) = attentionParts d part := by
    simp only [hshards, List.map_cons, List.map_nil, hpart]
    rfl
  have hbytes : (((attentionParts d part).map fun e => partOut d e.1 e.2.1 e.2.2).flatMap fun o => o.1).flatMap
      (fun w => leBytes (if aPartial d = true ∨ af d 460 453 = 1 then 4 else 2) w.toNat) = (attentionParts d part).flatMap (partBytes d) := by
    rw [List.flatMap_map, List.flatMap_assoc]
    rfl
  have hstored : s.deliverOut r 18 d.header (outPlace r d 0 0) ((attentionParts d part).flatMap (partBytes d))
      = s.store (outPlace r d 0 0) ((attentionParts d part).flatMap (partBytes d)) := by rw [State.deliverOut, hhold, if_neg Bool.false_ne_true]
  have hsends := Sends.sendOwnPart (s.store (outPlace r d 0 0) ((attentionParts d part).flatMap (partBytes d))) r
    { outPlace r d 0 0 with addr := (outPlace r d 0 0).addr + ((attentionParts d part).flatMap (partBytes d)).length }
  unfold State.writeAttention
  simp only [hparts, hbytes, hstored]
  refine ⟨_, ?_, ?_, rfl⟩
  · refine hsends.untold.trans (Untold.trans (Untold.trans ?_ (.countSat ..)) (.ite (.refl _) ⟨rfl, rfl, rfl⟩))
    exact ⟨rfl, rfl, rfl⟩
  · refine Eq.trans ?_ hsends.kv
    split <;> exact State.countSat_kv ..

end

end Sys2Proof.Machine

/-!
The layout of the outputs of an ATTEND, and its clauses (O56).
-/

namespace Sys2Proof.Machine

/-! ## Partials have one accumulator for each element of the head (R254, R264) -/

theorem Part.block_length {t : Part} {keys : List (Exact × List Exact)} (hkeys : ∀ k ∈ keys, k.2.length = t.acc.length) : (t.block keys).acc.length = t.acc.length := by
  unfold Part.block
  split
  · rfl
  · split
    · rfl
    · dsimp only
      refine List.foldlRecOn keys _ (motive := fun a : Exact × List Exact => a.2.length = t.acc.length) (List.length_map _) fun a ha k hk => ?_
      rw [List.length_zipWith, ha, hkeys k hk, Nat.min_self]

theorem State.expand_length (s : State) (d : ZooDesc) (head : Nat) (value : Bool) (c : List Nat) : (s.expand d head value c).length = aDim d := by simp [State.expand]

theorem State.partOver_length (s : State) (r : Fin 10) (d : ZooDesc) (firstValid i head : Nat) (sh : Shard) : (s.partOver r d firstValid i head sh).acc.length = aDim d := by
  unfold State.partOver
  refine List.foldlRecOn _ _ (motive := fun t : Part => t.acc.length = aDim d) (List.length_replicate ..) fun t ht b _ => ?_
  refine (Part.block_length fun k hk => ?_).trans ht
  obtain ⟨j, -, hj⟩ := List.mem_filterMap.mp hk
  dsimp only at hj
  split at hj
  · obtain rfl := Option.some.inj hj
    exact ((List.length_map ..).trans (State.expand_length ..)).trans ht.symm
  · cases hj

theorem mergeParts_length {n : Nat} {t : Part} (ht : t.acc.length = n) : (mergeParts n [t]).acc.length = n := by
  unfold mergeParts
  split
  · exact List.length_replicate ..
  · show (match t.m with | none => Part.start n | some k => _ : Part).acc.length = n
    split
    · exact List.length_replicate ..
    · simp [Part.start, ht]

theorem partOut_length {d : ZooDesc} {t : Part} (i h : Nat) (ht : t.acc.length = aDim d) :
    (partOut d i h t).1.length = if aPartial d then aDim d + 2 else aDim d := by
  unfold partOut
  split
  · split <;> simp [ht]
  · split
    · simp [ht]
    · split <;> simp [ht]

theorem flatMap_length_const {α β : Type} {f : α → List β} {c : Nat} {l : List α} (h : ∀ x ∈ l, (f x).length = c) : (l.flatMap f).length = l.length * c := by
  rw [List.length_flatMap, List.map_congr_left h, List.map_const', List.sum_replicate, smul_eq_mul]

/-- An output takes as many bytes as its place has. -/
theorem partBytes_length {d : ZooDesc} (hwidth : af d 460 453 = 1 ∨ af d 460 453 = 2) {e : Nat × Nat × Part} (he : e.2.2.acc.length = aDim d) :
    (partBytes d e).length = outBytes d := by
  rw [partBytes, flatMap_length_const fun w _ => leBytes_length .., partOut_length _ _ he, outBytes]
  cases hpartial : aPartial d with
  | true =>
    simp only [if_true, true_or]
    omega
  | false => rcases hwidth with h | h <;> simp [h]

/-! ## Outputs lie one after another (R255) -/

/-- The chunk of an element, where every element has one of the same length. -/
theorem take_drop_flatMap {α β : Type} {f : α → List β} {c : Nat} {l : List α} (hlength : ∀ x ∈ l, (f x).length = c) {m : Nat} {x : α} (hx : l[m]? = some x) :
    ((l.flatMap f).drop (m * c)).take c = f x := by
  induction l generalizing m with
  | nil => cases hx
  | cons y l ih =>
    have hy := hlength y (List.mem_cons_self ..)
    cases m with
    | zero =>
      obtain rfl : y = x := by simpa using hx
      rw [Nat.zero_mul, List.drop_zero, List.flatMap_cons, List.take_append_of_le_length (Nat.le_of_eq hy.symm), ← hy, List.take_length]
    | succ m =>
      rw [List.flatMap_cons, Nat.succ_mul, Nat.add_comm, ← List.drop_drop, ← hy, List.drop_left, hy]
      exact ih (fun z hz => hlength z (List.mem_cons_of_mem _ hz)) hx

theorem attentionParts_length (d : ZooDesc) (part : Nat → Nat → Part) : (attentionParts d part).length = af d 447 416 * aHeads d := by
  rw [attentionParts, flatMap_length_const (c := aHeads d) fun i _ => by rw [List.length_map, List.length_range], List.length_range]

theorem getElem?_attentionParts {d : ZooDesc} (part : Nat → Nat → Part) {i head : Nat} (hi : i < af d 447 416) (hhead : head < aHeads d) :
    (attentionParts d part)[i * aHeads d + head]? = some (i, head, part i head) := by
  have hrange : ∀ n, i < n → ((List.range n).flatMap fun i => (List.range (aHeads d)).map fun h => (i, h, part i h))[i * aHeads d + head]? = some (i, head, part i head) := by
    intro n
    induction n with
    | zero => exact fun h => absurd h (Nat.not_lt_zero i)
    | succ n ih =>
      intro hn
      have hlength : ((List.range n).flatMap fun i => (List.range (aHeads d)).map fun h => (i, h, part i h)).length = n * aHeads d := by
        rw [flatMap_length_const (c := aHeads d) fun i _ => by rw [List.length_map, List.length_range], List.length_range]
      rw [List.range_succ, List.flatMap_append]
      rcases Nat.lt_succ_iff_lt_or_eq.mp hn with hlt | rfl
      · have hbefore : i * aHeads d + head < n * aHeads d := by nlinarith
        rw [List.getElem?_append_left (by rw [hlength]; exact hbefore), ih hlt]
      · rw [List.getElem?_append_right (by rw [hlength]; omega), hlength, Nat.add_sub_cancel_left]
        simp [hhead]
  exact hrange _ hi

theorem mem_attentionParts {d : ZooDesc} {part : Nat → Nat → Part} {e : Nat × Nat × Part} (he : e ∈ attentionParts d part) :
    e.1 < af d 447 416 ∧ e.2.1 < aHeads d ∧ e.2.2 = part e.1 e.2.1 := by
  obtain ⟨i, hi, hmem⟩ := List.mem_flatMap.mp he
  obtain ⟨h, hh, rfl⟩ := List.mem_map.mp hmem
  exact ⟨List.mem_range.mp hi, List.mem_range.mp hh, rfl⟩

/-- Of bytes that were stored, a part reads as that part of them. -/
theorem State.load_store_part (s : State) {p q : MemRef} {bs : Bytes} {k n : Nat} (hspace : q.space = p.space) (hkey : q.key = p.key + k) (hfits : k + n ≤ bs.length) :
    (s.store p bs).load q n = (bs.drop k).take n := by
  refine Eq.trans ?_ (congrArg (fun b => (b.drop k).take n) (s.load_store_self p bs))
  show (s.store p bs).mem.get q n = (((s.store p bs).mem.get p bs.length).drop k).take n
  rw [Mem.get_eq, Mem.get_eq, cellsGet_take_drop _ _ _ _ _ hfits, hspace, hkey]

theorem outPlace_key (r : Fin 10) (d : ZooDesc) (i head : Nat) : (outPlace r d i head).key = (outPlace r d 0 0).key + (i * aHeads d + head) * outBytes d := by
  unfold outPlace MemRef.key
  split
  all_goals simp_all
  all_goals omega

end Sys2Proof.Machine

namespace Sys2Proof.Machine

/-! ## What a shown record leaves of region memory (R247) -/

/-- Where one sequence's record alone has changed, what lies apart from its place in region memory reads as before. -/
theorem State.showKv_load_apart {s old : State} {p : Fin 4} {k : Nat × Nat} {n : Nat} {q : KvSeq} (hk : s.kvPlace p = some k)
    (hothers : ∀ m, m ≠ n → s.recordBytes old m = old.recordBytes old m) (hq : s.seqOf n = some q) {region a m : Nat}
    (hapart : Apart (s.recordPlace p k n) 32 (rmemAt region a) m) : (s.showKv old p).load (rmemAt region a) m = s.load (rmemAt region a) m := by
  have hrecord : ∀ (acc : State) (j : Nat), (s.showRecord old p k acc j).load (rmemAt region a) m = acc.load (rmemAt region a) m := fun acc j => by
    by_cases hj : j = n
    · subst hj
      unfold State.showRecord
      split
      · rfl
      · exact acc.load_store_apart (by decide : 1 < 3) (by decide : 1 < 3) (by rw [State.recordBytes_length (.inr hq)]; exact hapart)
    · rw [State.showRecord_same (hothers j hj)]
  rw [State.showKv_placed hk, foldl_keeps (State.load · (rmemAt region a) m) fun acc e => State.showEntry_load acc e ..,
    foldl_keeps (State.load · (rmemAt region a) m) hrecord]

/-- A sequence whose record fails its CRC is stalled, and the descriptor ends with ECC_UNCORRECTABLE and fault 0x0606 (R259). -/
def State.recordFailed (x : State) (r : Fin 10) (p : Fin 4) (h : BitVec 128) (n : Nat) (q : KvSeq) : State :=
  ((x.putSeq n q).complete r 18 h 0x0203 0x0606 0 true).fault 0x0606 (poolLoc r p) (at_ 12 0 n) (hClass h)

end Sys2Proof.Machine

namespace Sys2Proof

open Machine

/-! ## A sequence record that fails its CRC (R259) -/

/-- Its record then goes to its place, which is not that of the status record. -/
theorem recordFailed_shows {s x : State} {t : Nat} {r : Fin 10} {p : Fin 4} {h : BitVec 128} {n : Nat} {q : KvSeq} (hstanding : x.standing = s.standing)
    (hnat : x.nat (poolObj p 3) = s.nat (poolObj p 3)) (hnews : SameNews (s.advance t) x) (hstatus : s.permits (hClass h) (statusPlace r h) 16 true = true)
    {k : Nat × Nat} (hplace : s.kvPlace p = some k) (hapart : Apart (s.recordPlace p k n) 32 (statusPlace r h) 16) :
    StatusIs ((State.recordFailed x r p h n q).showKv x p) r h 0x0203 0x0606 0 true false ∧ ((State.recordFailed x r p h n q).showKv x p).kv = (x.putSeq n q).kv
      ∧ ((State.recordFailed x r p h n q).showKv x p).log = ((s.advance t).fault 0x0606 (poolLoc r p) (at_ 12 0 n) (hClass h)).log := by
  have hstanding' : (x.putSeq n q).standing = s.standing := hstanding
  have hends : KvEnds (x.putSeq n q) (State.recordFailed x r p h n q) r h 0x0203 0x0606 true :=
    (kvEnds_complete (s := x.putSeq n q) rfl rfl rfl ((permits_of_standing hstanding' ..).trans hstatus) ..).fault ..
  have hkey : ∀ p : Fin 4, poolObj p 3 ∉ [ob 0x2020 9, ob 0x2300 3, ob 0x2380 4, ob 0x2381 4, ob 0x2382 4, ob 0x2383 4] := by decide
  have hnat' : (State.recordFailed x r p h n q).nat (poolObj p 3) = s.nat (poolObj p 3) :=
    (((fault_announces ..).nat (hkey _)).trans ((x.putSeq n q).complete_keeps (State.nat · (poolObj p 3)) (fun _ _ _ => rfl) (fun _ _ => rfl) ..)).trans hnat
  have hplaced : (State.recordFailed x r p h n q).kvPlace p = some k := (State.kvPlace_congr (hends.ends.leaves.launch.trans (launch_of_standing hstanding')) _).trans hplace
  have hothers : ∀ m, m ≠ n → (State.recordFailed x r p h n q).recordBytes x m = x.recordBytes x m := fun m hm =>
    (State.recordBytes_congr hends.kv rfl m).trans ((SeqOnly.putSeq x n p q).recordBytes hm x)
  have hopen : (State.recordFailed x r p h n q).seqOf n = some q := (State.seqOf_congr hends.kv _).trans State.putSeq_seqOf_self
  have hapart' : Apart ((State.recordFailed x r p h n q).recordPlace p k n) 32 (statusPlace r h) 16 := by rw [State.recordPlace_congr hnat']; exact hapart
  refine ⟨?_, (State.showKv_keeps State.kv (fun _ _ _ => rfl) ..).trans hends.kv, (State.showKv_keeps State.log (fun _ _ _ => rfl) ..).trans (SameNews.fault ?_ ..).log⟩
  · exact (State.showKv_load_apart (region := r.val) (a := hStatusAddr h) hplaced hothers hopen hapart').trans hends.statusIs
  · have hput : SameNews x (x.putSeq n q) := ⟨rfl, rfl, rfl, rfl, fun _ _ => rfl⟩
    exact (hnews.trans hput).trans (.complete ..)

section
variable {s : State} {t : Nat} {r : Fin 10} {d : ZooDesc} {missing : Option Nat} (hadmitted : AttentionAdmitted s r d.header d.queue) (hok : attendOk d = true)
  (henabled : s.flag (poolObj (aPool d) 1) = true) (howner : s.nat (poolObj (aPool d) 3) = r.val) (hcls : s.nat (poolObj (aPool d) 2) = hClass d.header)
include hadmitted hok henabled howner hcls

/-! ## ATTENDs that end without outputs -/

theorem attend_closed (hseq : s.seqOf (af d 511 500) = none) : Ends (.attend t r d missing) s fun u => KvEnds s u r d.header 0x0200 0x0600 false := by
  obtain ⟨u, hexec, hends, -⟩ := attention_ends (.attend d missing) hadmitted hok henabled howner hcls (State.runAttend_closed hseq)
    (kvEnds_refuseKv attentionStart_kv attentionStart_mem attentionStart_standing hadmitted.header.status)
  exact ⟨u, hexec, hends⟩

variable {q : KvSeq}

theorem attend_stalled (hasks : AttendAsks s d q) (hstate : q.state = 2) :
    Ends (.attend t r d missing) s fun u => KvEnds s u r d.header 0x0600 1 false ∧ u.log = s.log := by
  obtain ⟨u, hexec, hends, hlog⟩ := attention_ends (.attend d missing) hadmitted hok henabled howner hcls
    (AttendAsks.stalled (s := attentionStart s t r d.queue d.header) ⟨hasks.seq, hasks.pool, hasks.layer⟩ hstate)
    (kvEnds_exhausted attentionStart_kv attentionStart_mem attentionStart_standing hadmitted.header.status ..)
  exact ⟨u, hexec, hends, hlog.trans (exhaustKv_log_untold attentionStart_news ..)⟩

theorem attend_address (hasks : AttendActive s d q) (hbad : ∃ p ∈ s.attendPlaces r d, s.badPlace p.1 p.2.1 = true) :
    Ends (.attend t r d missing) s fun u => KvEnds s u r d.header 0x0202 0 false := by
  have hcheck := State.checkPlaces_address (s := attentionStart s t r d.queue d.header) (r := r) (h := d.header) hbad
  obtain ⟨u, hexec, hends, -⟩ := attention_ends (.attend d missing) hadmitted hok henabled howner hcls
    (AttendActive.checked (s := attentionStart s t r d.queue d.header) ⟨⟨hasks.seq, hasks.pool, hasks.layer⟩, hasks.active⟩ hcheck)
    (kvEnds_complete attentionStart_kv attentionStart_mem attentionStart_standing hadmitted.header.status ..)
  exact ⟨u, hexec, hends⟩

section
variable (hgoes : AttendGoes (attentionStart s t r d.queue d.header) r d q)
include hgoes

theorem attend_misses {k : Nat} (hmissing : s.missingShard d missing = some k) : Ends (.attend t r d missing) s fun u => KvEnds s u r d.header 0x0F00 0x0603 true
    ∧ u.log = ((s.advance t).fault 0x0603 (poolLoc r (aPool d)) (at_ 32 32 (hSequence d.header) ||| at_ 8 8 k ||| (if aRing d then 1 else 2)) (hClass d.header)).log := by
  have hsends := Sends.sendShard (attentionStart s t r d.queue d.header) r d
  have hends := ((kvEnds_complete (hsends.kv.trans attentionStart_kv) (hsends.mem.trans attentionStart_mem) (hsends.standing.trans attentionStart_standing)
    hadmitted.header.status 0x0F00 0x0603 true).bump (ob 0x3800 9)).fault 0x0603 (poolLoc r (aPool d))
      (at_ 32 32 (hSequence d.header) ||| at_ 8 8 k ||| (if aRing d then 1 else 2)) (hClass d.header)
  obtain ⟨u, hexec, hends, hlog⟩ := attention_ends (.attend d missing) hadmitted hok henabled howner hcls (hgoes.misses hmissing) hends
  refine ⟨u, hexec, hends, hlog.trans (SameNews.fault ?_ ..).log⟩
  exact ((attentionStart_news.trans hsends.news).trans (.complete ..)).trans (.bump_other _ 1 (by decide))

variable (hmissing : s.missingShard d missing = none)
include hmissing

/-- A sequence record that fails its CRC: the sequence is stalled (R259). -/
theorem attend_recordFails {k : Nat × Nat} (hplace : s.kvPlace (aPool d) = some k) (hrecord : s.badRecord (aPool d) (af d 511 500) = true)
    (hapart : Apart (s.recordPlace (aPool d) k (af d 511 500)) 32 (statusPlace r d.header) 16) :
    Ends (.attend t r d missing) s fun u => StatusIs u r d.header 0x0203 0x0606 0 true false ∧ u.seqOf (af d 511 500) = some { q with state := 2 } ∧ u.kv.pages = s.kv.pages
      ∧ u.log = ((s.advance t).fault 0x0606 (poolLoc r (aPool d)) (at_ 12 0 (af d 511 500)) (hClass d.header)).log := by
  have hrun : (attentionStart s t r d.queue d.header).runAttend r d missing
      = (attentionStart s t r d.queue d.header).recordFailed r (aPool d) d.header (af d 511 500) { q with state := 2 } := by
    rw [hgoes.recordFails hmissing hrecord, State.recordFailed, ← State.modSeq_open hgoes.seq fun q => { q with state := 2 }]
    rfl
  obtain ⟨hstatus, hkv, hlog⟩ := recordFailed_shows (x := attentionStart s t r d.queue d.header) (q := { q with state := 2 }) attentionStart_standing (attentionStart_nat _)
    attentionStart_news hadmitted.header.status hplace hapart
  have hcounted := (State.countTokens_kv (r := r) (k := 1) _).trans hkv
  have hpages : ((attentionStart s t r d.queue d.header).putSeq (af d 511 500) { q with state := 2 }).kv.pages = s.kv.pages := rfl
  refine ⟨_, attention_runs (.attend d missing) hadmitted hok henabled howner hcls, ?_⟩
  rw [hrun]
  exact ⟨statusIs_of_mem hstatus (State.countTokens_mem ..), (State.seqOf_congr hcounted _).trans State.putSeq_seqOf_self, (congrArg Kv.pages hcounted).trans hpages,
    (State.countTokens_log ..).trans hlog⟩

section
variable (hrecord : s.badRecord (aPool d) (af d 511 500) = false)
  (hentries : s.badEntries (aPool d) (s.rangePages (aPool d) (af d 511 500) (af d 497 491) (s.ownRange r d)) = []) (hcalm : d.upsets = [])
include hrecord hentries hcalm

theorem attend_lost {k : BadLane} (hmark : s.markRead (s.attendReads r d) = some k) :
    Ends (.attend t r d missing) s fun u => KvEnds s u r d.header 0x0203 0 false := by
  set x := attentionStart s t r d.queue d.header with hx
  have hsends := Sends.sendShard x r d
  have hread : (x.sendShard r d).markRead (x.attendReads r d) = some k := by
    rw [State.markRead, hsends.marks]
    exact hmark
  have hrun : x.runAttend r d missing = ((x.sendShard r d).eccUncorrectable k (hSequence d.header) (hClass d.header)).complete r 18 d.header 0x0203 0 0 := by
    rw [hgoes.meets hmissing hrecord hentries hcalm, State.meetUpsets_nil, hread]
    rfl
  obtain ⟨u, hexec, hends, -⟩ := attention_ends (.attend d missing) hadmitted hok henabled howner hcls hrun
    (kvEnds_complete (s := s) ((State.eccUncorrectable_kv ..).trans hsends.kv) ((State.eccUncorrectable_mem ..).trans hsends.mem)
      ((State.eccUncorrectable_standing ..).trans (hsends.standing.trans attentionStart_standing)) hadmitted.header.status ..)
  exact ⟨u, hexec, hends⟩

end

end

end

end Sys2Proof

/-!
The outputs of an ATTEND, and O56.
-/

namespace Sys2Proof.Machine

/-- The ranges of an ATTEND's body that its outputs rest on. -/
theorem attendOk_ranges {d : ZooDesc} (hok : attendOk d = true) : (af d 460 453 = 1 ∨ af d 460 453 = 2) ∧ af d 468 465 < aShards d := by
  simp only [attendOk, Bool.and_eq_true, decide_eq_true_eq] at hok
  omega

theorem outPlace_within (r : Fin 10) (d : ZooDesc) {i head : Nat} (hi : i < af d 447 416) (hhead : head < aHeads d) :
    Within (outPlace r d i head) (outBytes d) (outPlace r d 0 0) (af d 447 416 * aHeads d * outBytes d) := by
  have hnext : i * aHeads d + head + 1 ≤ af d 447 416 * aHeads d := by nlinarith
  have hfits : (i * aHeads d + head) * outBytes d + outBytes d ≤ af d 447 416 * aHeads d * outBytes d := by
    rw [← Nat.succ_mul]
    exact Nat.mul_le_mul_right _ hnext
  have hkey := outPlace_key r d i head
  exact ⟨rfl, by omega, by omega⟩

theorem outPlace_space (r : Fin 10) (d : ZooDesc) (i head : Nat) : (outPlace r d i head).space < 3 := by
  show (if af d 461 461 = 1 then 0 else 1) < 3
  split <;> omega

end Sys2Proof.Machine

namespace Sys2Proof

open Machine

/-- The outputs of an ATTEND lie at their places, and nothing else of memory has changed but the status record. -/
structure AttendEnds (s u : State) (r : Fin 10) (d : ZooDesc) (part : Nat → Nat → Part) : Prop where
  outputs : ∀ i head, i < af d 447 416 → head < aHeads d → u.load (outPlace r d i head) (outBytes d) = partBytes d (i, head, part i head)
  status : StatusIs u r d.header 0 (attentionDetail (attentionParts d part) false) (af d 447 416 * aHeads d) false false
  leaves : Leaves [(outPlace r d 0 0, af d 447 416 * aHeads d * outBytes d), (statusPlace r d.header, 16)] s u

/-- Once the outputs are stored, the status record ends the descriptor. -/
theorem attendEnds_of_complete {s y w : State} {r : Fin 10} {d : ZooDesc} {part : Nat → Nat → Part} (hok : attendOk d = true)
    (hlength : ∀ i head, (part i head).acc.length = aDim d) (hstatus : s.permits (hClass d.header) (statusPlace r d.header) 16 true = true)
    (hapart : Apart (outPlace r d 0 0) (af d 447 416 * aHeads d * outBytes d) (statusPlace r d.header) 16) (hmem : y.mem = s.mem) (hstanding : y.standing = s.standing)
    (hw : Untold (y.store (outPlace r d 0 0) ((attentionParts d part).flatMap (partBytes d))) w) :
    AttendEnds s (w.complete r 18 d.header 0 (attentionDetail (attentionParts d part) false) (attentionParts d part).length) r d part := by
  have hchunk : ∀ e ∈ attentionParts d part, (partBytes d e).length = outBytes d := fun e he =>
    partBytes_length (attendOk_ranges hok).1 (by rw [(mem_attentionParts he).2.2]; exact hlength ..)
  have hbytes : ((attentionParts d part).flatMap (partBytes d)).length = af d 447 416 * aHeads d * outBytes d := by
    rw [flatMap_length_const hchunk, attentionParts_length]
  have hstored : Leaves [(outPlace r d 0 0, af d 447 416 * aHeads d * outBytes d), (statusPlace r d.header, 16)] s w :=
    ((Leaves.of_mem hmem hstanding).trans (.store (List.mem_cons_self ..) (.refl _ (Nat.le_of_eq hbytes)) (outPlace_space ..))).trans (.of_mem hw.mem hw.standing)
  rw [attentionParts_length]
  refine ⟨fun i head hi hhead => ?_, w.complete_statusIs _ _ _ _ _ _ _ _ ((permits_of_standing hstored.standing ..).trans hstatus),
    hstored.trans ((w.complete_leaves ..).mono fun p hp => ⟨_, List.mem_cons_of_mem _ (List.mem_singleton_self _), by rw [List.mem_singleton.mp hp]; exact .refl _ (Nat.le_refl _)⟩)⟩
  have hwithin := outPlace_within r d hi hhead
  have hpart := take_drop_flatMap hchunk (getElem?_attentionParts part hi hhead)
  have hfits : (i * aHeads d + head) * outBytes d + outBytes d ≤ ((attentionParts d part).flatMap (partBytes d)).length := by
    obtain ⟨-, -, hhi⟩ := hwithin
    rw [outPlace_key] at hhi
    omega
  calc _ = w.load (outPlace r d i head) (outBytes d) :=
        (w.complete_leaves ..).writes _ _ (outPlace_space ..) (List.forall_mem_singleton.mpr (hapart.symm.within hwithin).symm)
    _ = (y.store (outPlace r d 0 0) ((attentionParts d part).flatMap (partBytes d))).load (outPlace r d i head) (outBytes d) := State.load_congr hw.mem ..
    _ = _ := (y.load_store_part (p := outPlace r d 0 0) (q := outPlace r d i head) rfl (outPlace_key ..) hfits).trans hpart

section
variable {s : State} {t : Nat} {r : Fin 10} {d : ZooDesc} {missing : Option Nat} (hadmitted : AttentionAdmitted s r d.header d.queue) (hok : attendOk d = true)
  (henabled : s.flag (poolObj (aPool d) 1) = true) (howner : s.nat (poolObj (aPool d) 3) = r.val) (hcls : s.nat (poolObj (aPool d) 2) = hClass d.header) {q : KvSeq}
  (hgoes : AttendGoes (attentionStart s t r d.queue d.header) r d q) (hmissing : s.missingShard d missing = none)
  (hrecord : s.badRecord (aPool d) (af d 511 500) = false)
  (hentries : s.badEntries (aPool d) (s.rangePages (aPool d) (af d 511 500) (af d 497 491) (s.ownRange r d)) = []) (hcalm : d.upsets = [])
include hadmitted hok henabled howner hcls hgoes hmissing hrecord hentries hcalm

/-- Every query and head has its output (R254 to R256). -/
theorem attend_writes (hmark : s.markRead (s.attendReads r d) = none) (hhold : hReleaseHold d.header = false) (hone : aShards d = 1)
    (hdropped : s.droppedIn (aPool d) (af d 511 500) [af d 497 491] (af d 383 352) (af d 351 320) = [])
    (hapart : Apart (outPlace r d 0 0) (af d 447 416 * aHeads d * outBytes d) (statusPlace r d.header) 16) {part : Nat → Nat → Part}
    (hpart : ∀ i head, mergeParts (aDim d) [s.partOver r d q.firstValid i head ⟨af d 383 352, af d 351 320, none⟩] = part i head) :
    Ends (.attend t r d missing) s fun u => AttendEnds s u r d part ∧ u.kv = s.kv ∧ u.log = s.log := by
  set x := attentionStart s t r d.queue d.header with hx
  have hsends := Sends.sendShard x r d
  have hparts : ∀ i head, mergeParts (aDim d) [(x.sendShard r d).partOver r d q.firstValid i head ⟨af d 383 352, af d 351 320, none⟩] = part i head := fun i head => by
    rw [hsends.partOver]
    exact hpart i head
  have hlength : ∀ i head, (part i head).acc.length = aDim d := fun i head => by
    rw [← hpart]
    exact mergeParts_length (State.partOver_length ..)
  obtain ⟨w, hw, hwkv, hwrites⟩ := State.writeAttention_completes hhold hone (attendOk_ranges hok).2 hparts
  have hread : (x.sendShard r d).markRead (x.attendReads r d) = none := by
    rw [State.markRead, hsends.marks]
    exact hmark
  have hrun : x.runAttend r d missing = w.complete r 18 d.header 0 (attentionDetail (attentionParts d part) false) (attentionParts d part).length := by
    rw [hgoes.meets hmissing hrecord hentries hcalm, State.meetUpsets_nil, hread, ← hwrites]
    exact State.attendOver_writes hone ((hsends.droppedIn ..).trans hdropped)
  have hends := attendEnds_of_complete hok hlength hadmitted.header.status hapart (hsends.mem.trans (attentionStart_mem (s := s)))
    (hsends.standing.trans (attentionStart_standing (s := s))) hw
  have hkv : (w.complete r 18 d.header 0 (attentionDetail (attentionParts d part) false) (attentionParts d part).length).kv = s.kv :=
    (State.complete_kv ..).trans (hwkv.trans hsends.kv)
  have hlog : (w.complete r 18 d.header 0 (attentionDetail (attentionParts d part) false) (attentionParts d part).length).log = s.log :=
    (State.complete_log ..).trans (hw.log.trans hsends.log)
  refine ⟨_, attention_runs_quiet (.attend d missing) hadmitted hok henabled howner hcls hrun hkv, ⟨fun i head hi hhead => ?_, ?_, ?_⟩, ?_, ?_⟩
  · exact (State.load_congr (State.countTokens_mem ..) ..).trans (hends.outputs i head hi hhead)
  · exact statusIs_of_mem hends.status (State.countTokens_mem ..)
  · exact hends.leaves.countTokens r 1
  · exact (State.countTokens_kv ..).trans hkv
  · exact (State.countTokens_log ..).trans hlog

end

end Sys2Proof

namespace Sys2Proof

open Machine

/-- An append whose checks pass before it arrives passes them when it starts. -/
theorem append_goes (s : State) (t : Nat) (r : Fin 10) (d : AppendDesc) {q : KvSeq} (hasks : AppendActive s d q) (hfits : s.untrimmed + d.tokens ≤ 2 ^ 20) (hrows : q.length - q.firstValid + d.tokens ≤ s.logRows)
    (hgood : ∀ p ∈ s.appendPlaces r q d, s.badPlace p.1 p.2.1 = false) (hmay : ∀ p ∈ s.appendPlaces r q d, s.permits (hClass d.header) p.1 p.2.1 p.2.2 = true)
    (hrecord : s.badRecord d.pool d.sequence = false) (hentries : s.badEntries d.pool (s.fillingPages d.pool d.sequence) = []) (hcalm : d.upsets = []) :
    AppendGoes (attentionStart s t r d.queue d.header) r d q :=
  { seq := hasks.seq, pool := hasks.pool, active := hasks.active, fits := hfits, rows := hrows, record := hrecord, entries := hentries, calm := hcalm
    places := State.checkPlaces_none (s := attentionStart s t r d.queue d.header) hgood hmay }

/-- Settles O56: refusals by `State.attention`, appends by the branches of `State.runAppend`, ATTENDs by those of `State.runAttend` and the layout of their outputs. -/
theorem attentionAppendsAndAttends : Obligations.AttentionAppendsAndAttends := by
  intro s t r
  refine ⟨fun c p h queue ok hcommand => ?_, fun d => ?_, fun d missing => ?_⟩
  · obtain ⟨run, hc⟩ : ∃ run, IsAttention t r c p h queue ok run := by
      rcases hcommand with ⟨d, rfl, rfl, rfl, rfl, rfl⟩ | ⟨d, missing, rfl, rfl, rfl, rfl, rfl⟩ | ⟨d, hpage, rfl, rfl, rfl, rfl⟩
      · exact ⟨_, .append d⟩
      · exact ⟨_, .attend d missing⟩
      · obtain ⟨run, hrun⟩ := isPage_of hpage
        exact ⟨run, .page hrun⟩
    intro st kept
    refine ⟨fun hstart hinvalid hstatus _ => ?_, fun hadmitted => ⟨fun hno => ?_, fun hok henabled howner hcls => ?_⟩⟩
    · obtain ⟨u, hexec, hends⟩ := attention_invalid hc hstart hinvalid hstatus
      exact ⟨u, hexec, hends.statusIs, hends.kept⟩
    · obtain ⟨u, hexec, hends, hlog⟩ := attention_refused hc ⟨hadmitted.1, hadmitted.2⟩ hno
      exact ⟨u, hexec, hends.statusIs, hends.kept, hlog⟩
    · obtain ⟨u, hexec, hends⟩ := attention_guarded hc ⟨hadmitted.1, hadmitted.2⟩ hok henabled howner hcls
      exact ⟨u, hexec, hends.statusIs, hends.kept⟩
  · intro h n row exhausted told hadmission hok howned
    obtain ⟨henabled, howner, hcls⟩ := howned
    have hadmitted : AttentionAdmitted s r d.header d.queue := ⟨hadmission.1, hadmission.2⟩
    refine ⟨fun hseq => ?_, fun q hseq hpool => ⟨fun hstate => ?_, fun hstate => ?_⟩⟩
    · obtain ⟨u, hexec, hends⟩ := append_closed (t := t) hadmitted hok henabled howner hcls hseq
      exact ⟨u, hexec, hends.statusIs, hends.kv⟩
    · obtain ⟨u, hexec, hends, hlog⟩ := append_stalled (t := t) hadmitted hok henabled howner hcls ⟨hseq, hpool⟩ hstate
      exact ⟨u, hexec, hends.statusIs, hends.kv, hlog⟩
    have hasks : AppendActive s d q := ⟨⟨hseq, hpool⟩, hstate⟩
    refine ⟨fun hfull => ?_, fun hfits hrows => ?_, fun hfits hrows => ⟨fun hbad => ?_, fun hgood => ⟨fun hnot => ?_, fun hmay hrecord hentries hcalm => ?_⟩⟩⟩
    · obtain ⟨u, hexec, hends, hlog⟩ := append_overflows (t := t) hadmitted hok henabled howner hcls hasks hfull
      exact ⟨u, hexec, hends.statusIs, hends.kv, hlog⟩
    · obtain ⟨u, hexec, hends, hlog⟩ := append_outruns (t := t) hadmitted hok henabled howner hcls hasks hfits hrows
      exact ⟨u, hexec, hends.statusIs, hends.kv, hlog⟩
    · obtain ⟨u, hexec, hends⟩ := append_address (t := t) hadmitted hok henabled howner hcls hasks hfits hrows hbad
      exact ⟨u, hexec, hends.statusIs, hends.kv⟩
    · obtain ⟨u, hexec, hends⟩ := append_guarded (t := t) hadmitted hok henabled howner hcls hasks hfits hrows hgood hnot
      exact ⟨u, hexec, hends.statusIs, hends.kv⟩
    have hgoes := append_goes s t r d hasks hfits hrows hgood hmay hrecord hentries hcalm
    refine ⟨fun k hmark => ?_, fun hmark => ⟨fun hplace hnone => ?_, fun htokens hwidth hpages => ?_⟩⟩
    · obtain ⟨u, hexec, hends⟩ := append_lost hadmitted hok henabled howner hcls hgoes hmark
      exact ⟨u, hexec, hends.statusIs, hends.kv⟩
    · obtain ⟨u, hexec, hstatus, hlog, hseqs, hpages⟩ := append_unallocated hadmitted hok henabled howner hcls hgoes hmark hplace hnone
      exact ⟨u, hexec, hstatus, hlog, hseqs, hpages⟩
    · obtain ⟨u, hexec, hseqs, hothers, hadded, hpools, hlaunch, hlog, hends⟩ :=
        append_appends hadmitted hok henabled howner hcls hgoes hmark htokens hwidth hpages rfl rfl
      refine ⟨u, hexec, hseqs, hothers, hadded.trans ?_, hpools, hlaunch, hlog, hends⟩
      rw [State.rowsAdded, hpool]
      rfl
  · intro h p n layer st hadmission hok howned
    obtain ⟨henabled, howner, hcls⟩ := howned
    have hadmitted : AttentionAdmitted s r d.header d.queue := ⟨hadmission.1, hadmission.2⟩
    refine ⟨fun hseq => ?_, fun q hseq hpool hlayer => ⟨fun hstate => ?_, fun hstate => ⟨fun hbad => ?_, fun hplaces => ?_⟩⟩⟩
    · obtain ⟨u, hexec, hends⟩ := attend_closed (t := t) (missing := missing) hadmitted hok henabled howner hcls hseq
      exact ⟨u, hexec, hends.statusIs, hends.kv⟩
    · obtain ⟨u, hexec, hends, hlog⟩ := attend_stalled (t := t) (missing := missing) hadmitted hok henabled howner hcls ⟨hseq, hpool, hlayer⟩ hstate
      exact ⟨u, hexec, hends.statusIs, hends.kv, hlog⟩
    · obtain ⟨u, hexec, hends⟩ := attend_address (t := t) (missing := missing) hadmitted hok henabled howner hcls ⟨⟨hseq, hpool, hlayer⟩, hstate⟩ hbad
      exact ⟨u, hexec, hends.statusIs, hends.kv⟩
    have hgoes : AttendGoes (attentionStart s t r d.queue d.header) r d q :=
      ⟨⟨⟨hseq, hpool, hlayer⟩, hstate⟩, State.checkPlaces_none (s := attentionStart s t r d.queue d.header) (fun e he => (hplaces e he).1) fun e he => (hplaces e he).2⟩
    refine ⟨fun k hmissing => ?_, fun hmissing => ⟨fun k hplace hrecord hapart => ?_, fun hrecord hentries hcalm => ⟨fun k hmark => ?_, fun hmark hhold hone hdropped => ?_⟩⟩⟩
    · obtain ⟨u, hexec, hends, hlog⟩ := attend_misses hadmitted hok henabled howner hcls hgoes hmissing
      exact ⟨u, hexec, hends.statusIs, hends.kv, hlog⟩
    · exact attend_recordFails hadmitted hok henabled howner hcls hgoes hmissing hplace hrecord hapart
    · obtain ⟨u, hexec, hends⟩ := attend_lost hadmitted hok henabled howner hcls hgoes hmissing hrecord hentries hcalm hmark
      exact ⟨u, hexec, hends.statusIs, hends.kv, hends.ends.leaves.launch⟩
    intro out bytes part width hapart
    obtain ⟨u, hexec, hends, hkv, hlog⟩ := attend_writes (part := part) hadmitted hok henabled howner hcls hgoes hmissing hrecord hentries hcalm hmark hhold hone hdropped hapart
      fun _ _ => rfl
    refine ⟨u, hexec, hends.outputs, ⟨_, hends.status, fun hnumbers => attentionDetail_zero fun e he => ?_⟩, hkv, hends.leaves.launch, hlog, fun q' k hq hstatus hout => ?_⟩
    · obtain ⟨hi, hhead, hpart⟩ := mem_attentionParts he
      rw [hpart]
      exact hnumbers _ _ hi hhead
    · exact hends.leaves.writes q' k (space_lt_of_inside hq) (List.forall_mem_cons.mpr ⟨hout, List.forall_mem_singleton.mpr hstatus⟩)

end Sys2Proof
